-- ==== Sys2Proof/Word.lean ====
section
/-!
DEFINITION. The word types of the LZ-S2048 model. Registers are 32 bits wide (17_register_map.md), counters 64
bits (R13), frames and bursts are lists of bytes.
-/
namespace Sys2Proof

/-- One byte of a frame, a descriptor, host memory or flash. -/
abbrev Byte := BitVec 8
/-- One register of the aperture. -/
abbrev Word := BitVec 32
/-- One 64-bit word of a ring entry (R319). -/
abbrev DWord := BitVec 64

/-- Who issues a register access (R350, R358). -/
inductive Agent where
  | app | host | keeper
  deriving DecidableEq, Repr

end Sys2Proof
end

