-- ==== Sys2Proof/Env.lean ====
section
/-!
DEFINITION. What commands bring from outside the block: readings, outcomes of analogue and mechanical parts, and what
arrives on a line (assumption log 14).
-/
namespace Sys2Proof

/-- What the power controller measures in one 100 ms evaluation (R384, R388): means over the last 100 ms and the
readings of the sensors. Temperatures are in 0.01 °C. -/
structure Climate where
  tCase : Int
  tMin : Int
  /-- Mean input power in W and input voltage in 0.1 V rms. -/
  power : Nat
  voltage : Nat
  /-- Readings of sensors 0 to 17. -/
  sensors : List Int
  deriving DecidableEq, Repr

/-- The slow blocks (R352). -/
inductive SlowBlock where
  | opt | pwr
  deriving DecidableEq, Repr

/-- What a Redfish request asks (R285): a resource, an entry of the fault log, a session, or a setting of an account or of the
static address. -/
inductive RedfishOp where
  | serviceRoot | chassis | manager | updateService | computerSystem | login | logout
  | logEntry (n : Nat)
  | setAccount (n : Fin 8) (credential : List Byte)
  | setAddress (address : List Byte)
  deriving DecidableEq, Repr

/-- How a running NVM operation ends at the flash (R413 to R415): the flash works and, for an image, the check of
digest and signature passes. -/
inductive NvmEnd where
  | good | badImage | flashError
  deriving DecidableEq, Repr

/-- A 257-bit marker block as a receiver finds it (R37, R38): the fields that it checks; `ieee` says that it is the
IEEE 802.3dj alignment marker of a 200 Gb/s lane (R41). -/
structure Marker where
  pattern : BitVec 96
  laneId : Byte
  laneIdInv : Byte
  ieee : Bool := false
  deriving DecidableEq, Repr


/-- What the FEC decoder of a leaf lane found since the last report (R39, R41). -/
structure FecReport where
  lane : Fin 256
  corrSym : Nat
  corrCw : Nat
  uncorr : Nat
  deriving DecidableEq, Repr

/-- A frame on a leaf receiver (R43): its bytes, destination address through FCS, and whether a code error or an error
block touched it. `early` is how many of its cells entered the crossbar before it was whole (R122). `more` says that these
are its bytes so far and that it goes on. -/
structure RxFrame where
  data : List Byte
  codeErr : Bool
  early : Nat
  more : Bool := false
  deriving DecidableEq, Repr

/-- An error that the buffer's memories show while a tile is taken: a free-store word fails parity or disagrees with the
state array (R147), or a word of the state array cannot be corrected (R146). -/
inductive BufError where
  | none
  | bitmap (pool : Fin 5) (word : Nat)
  | state (pool : Fin 5) (word : Nat)
  deriving DecidableEq, Repr

/-- What LANE_ALIGN_LOSS says (R38): a lane, and what stood at its marker positions in the last periods, oldest first. -/
structure LaneLoss where
  lane : Fin 256
  found : List Marker
  deriving DecidableEq, Repr

/-- What goes wrong while a unit spills: the first cell of its pool D tiles that fails (R156), and an error of the memories
that give it its tile. -/
structure SpillErrors where
  cell : Option Nat := none
  alloc : BufError := .none
  deriving DecidableEq, Repr

/-- What goes wrong while a unit is refilled (R154 to R156): the bits of its metadata record that have turned over, whether
its read from HBM or its cells are bad, and an error of the memories that give it its tiles. -/
structure RefillErrors where
  flips : DWord := 0#64
  bad : Bool := false
  alloc : BufError := .none
  deriving DecidableEq, Repr

/-- A write of the external host to an entry of the MSI-X table (R286, R295). -/
structure MsixWrite where
  entry : Byte
  addr : DWord
  data : Word
  masked : Bool
  deriving DecidableEq, Repr

/-- An error that a read of host memory meets (R280): whether it is corrected, and whether the read is a core's or ring
DMA's. -/
structure MemError where
  corrected : Bool
  core : Bool
  deriving DecidableEq, Repr

/-- A burst on a sky receiver (R202 to R208, R225): the PAM4 levels of the preamble as sampled at 212.5 GBd, the 32 bits
where SYNC lies, the receive time of the first preamble symbol as TS64, the bytes after SYNC as the lane brings them, what the
decoder of each position finds to correct (byte number and true value), the mean power of the preamble and of each 1.28 ns
window after it in 0.1 dB, and what the buffer's memories show as its cells take tiles (R147). -/
structure RxBurst where
  pre : List Nat
  sync : BitVec 32
  rxTs : Nat
  body : List Byte
  fixes : List (List (Nat × Byte)) := []
  power : Int := 0
  windows : List Int := []
  buf : BufError := .none
  deriving DecidableEq, Repr

/-- What damage a cell has taken on its plane (R132): the bits of its 64-bit crossbar tag (R125) that have turned over, and
whether its header or payload check fails. -/
structure CellDamage where
  flips : BitVec 64
  crc : Bool
  deriving DecidableEq, Repr

/-- No damage. -/
def CellDamage.none : CellDamage := ⟨0#64, false⟩

end Sys2Proof
end

