-- ==== Sys2Proof/Syntax.lean ====
section
/-!
DEFINITION. The commands of the LZ-S2048: one constructor per row of the command table, in its order, with what the
command brings from outside as operands (assumption log 14).
-/
namespace Sys2Proof

/-- The commands. -/
inductive Instr where
  /-- HEADLESS_REQ (R26). -/
  | headlessReq (a : Agent)
  /-- HEADLESS_ENTRY_COMPLETE (R26). -/
  | headlessEntryComplete
  /-- HEADLESS_EXIT (R29). -/
  | headlessExit (a : Agent)
  /-- APP_RESET_MESSAGE (R25). -/
  | appResetMessage
  /-- IDL_TRAINING_LOSS (R289). -/
  | idlTrainingLoss
  /-- IDL_LOSS_TIMEOUT (R25). -/
  | idlLossTimeout
  /-- IDL_FLIT_REPLAY (R289). -/
  | idlFlitReplay
  /-- IDL_RETRAIN_DONE (R16). -/
  | idlRetrainDone
  /-- HEADLESS_BACKLOG_DELIVER (R29). -/
  | headlessBacklogDeliver
  /-- LEAF_GROUP_RESTART (R35). -/
  | leafGroupRestart (a : Agent) (g : Fin 16)
  /-- GROUP_RESTART_DONE (R35). -/
  | groupRestartDone (g : Fin 16)
  /-- LANE_ALIGN (R38). -/
  | laneAlign (n : Fin 256) (m1 m2 : Marker) (apart : Nat)
  /-- LANE_ALIGN_LOSS (R38). -/
  | laneAlignLoss (l : LaneLoss)
  /-- LINK_UP (R39). -/
  | linkUp (p : Fin 256) (skewNs : Nat)
  /-- LINK_DOWN (R58). -/
  | linkDown (p : Fin 256) (f : Option RxFrame)
  /-- FLAP_HOLD_EXPIRY (R59). -/
  | flapHoldExpiry (p : Fin 256)
  /-- LEAF_RX_FRAME (R61). -/
  | leafRxFrame (p : Fin 256) (f : RxFrame) (fec : List FecReport)
  /-- PAUSE_FRAME_RX (R45). -/
  | pauseFrameRx (p : Fin 256) (f : RxFrame)
  /-- PAUSE_EXPIRY (R46). -/
  | pauseExpiry (p : Fin 256) (c : Fin 8)
  /-- PAUSE_FRAME_TX (R48). -/
  | pauseFrameTx (p : Fin 256)
  /-- PAUSE_REPEAT_TIMER (R48). -/
  | pauseRepeatTimer (p : Fin 256) (c : Fin 9)
  /-- PAUSE_WATCHDOG (R49). -/
  | pauseWatchdog (p : Fin 256) (c : Fin 9)
  /-- PAUSE_WD_HOLDOFF_END (R49). -/
  | pauseWdHoldoffEnd (p : Fin 256) (c : Fin 8)
  /-- PORT_TX_START (R167). -/
  | portTxStart (p : Fin 256) (bad : Option Nat)
  /-- LEAF_TX_COMPLETE (R44). -/
  | leafTxComplete (p : Fin 256) (bad : Option Nat)
  /-- CT_START_DECAY (R54). -/
  | ctStartDecay (p : Fin 256)
  /-- DOZE (R55). -/
  | doze (a : Agent) (p : Fin 256)
  /-- WAKE (R57). -/
  | wake (a : Agent) (p : Fin 256)
  /-- WAKE_PATTERN_SENT (R57). -/
  | wakePatternSent (p : Fin 256)
  /-- WAKE_PATTERN_DETECT (R57). -/
  | wakePatternDetect (p : Fin 256) (seen : DWord) (times : Nat)
  /-- RULE_KEY (R73). -/
  | ruleKey (r : Fin 32)
  /-- RULE_MASK (R73). -/
  | ruleMask (r : Fin 32)
  /-- RULE_ACTION (R73). -/
  | ruleAction (r : Fin 32)
  /-- RULE_VALID (R73). -/
  | ruleValid (r : Fin 32)
  /-- EDIT_WRITE (R83). -/
  | editWrite (r : Fin 32)
  /-- TEMPLATE_WRITE (R328). -/
  | templateWrite (r : Fin 32)
  /-- MAC_INSERT (R91). -/
  | macInsert (r : Fin 32)
  /-- MAC_DELETE (R92). -/
  | macDelete (r : Fin 32)
  /-- HOST_INSERT (R91). -/
  | hostInsert (r : Fin 32)
  /-- HOST_DELETE (R92). -/
  | hostDelete (r : Fin 32)
  /-- LPM_INSERT (R91). -/
  | lpmInsert (r : Fin 32)
  /-- LPM_DELETE (R92). -/
  | lpmDelete (r : Fin 32)
  /-- FILTER_WRITE (R99). -/
  | filterWrite (r : Fin 32)
  /-- NH_WRITE (R329). -/
  | nhWrite (r : Fin 32)
  /-- ECMP_WRITE (R329). -/
  | ecmpWrite (r : Fin 32)
  /-- MEMBER_WRITE (R329). -/
  | memberWrite (r : Fin 32)
  /-- LAG_WRITE (R329). -/
  | lagWrite (r : Fin 32)
  /-- LEARN_ACK (R105). -/
  | learnAck (r : Fin 32)
  /-- DUMP (R330). -/
  | dump (r : Fin 32)
  /-- DUMP_RECORD (R330). -/
  | dumpRecord
  /-- LEARN_NOTIFY (R105). -/
  | learnNotify
  /-- LEARN_HOLD_EXPIRY (R105). -/
  | learnHoldExpiry
  /-- AGE_SWEEP_VISIT (R108). -/
  | ageSweepVisit
  /-- TBL_CLEAR_START (R113). -/
  | tblClearStart (a : Agent)
  /-- TBL_CLEAR_DONE (R113). -/
  | tblClearDone
  /-- XBAR_CELL_SEND (R126). -/
  | xbarCellSend (i : Fin 32)
  /-- XBAR_MATCH (R129). -/
  | xbarMatch (p : Fin 16)
  /-- XBAR_CELL_ARRIVE (R132). -/
  | xbarCellArrive (p : Fin 16) (o : Fin 32) (dmg : CellDamage) (e : BufError)
  /-- XBAR_RESEQ_TIMEOUT (R134). -/
  | xbarReseqTimeout (o i : Fin 32)
  /-- XBAR_PLANE_DRAINED (R136). -/
  | xbarPlaneDrained (p : Fin 16)
  /-- XBAR_FAULT_CLEAR (R137). -/
  | xbarFaultClear (a : Agent) (v : Word)
  /-- BUF_CARVE (R141). -/
  | bufCarve (a : Agent)
  /-- BUF_CARVE_DONE (R141). -/
  | bufCarveDone
  /-- SPILL_UNIT (R152). -/
  | spillUnit (k : Fin 22528) (e : SpillErrors)
  /-- SPILL_UNIT_CLOSE (R151). -/
  | spillUnitClose (k : Fin 22528)
  /-- REFILL_UNIT (R154). -/
  | refillUnit (k : Fin 22528) (e : RefillErrors)
  /-- SCRUB_VISIT (R157). -/
  | scrubVisit (pass : Bool) (e : BufError)
  /-- SHAPER_REFRESH (R171). -/
  | shaperRefresh (i : Fin 2304)
  /-- POLICER_REFRESH (R174). -/
  | policerRefresh (i : Fin 65536)
  /-- WX_SAMPLE (R179). -/
  | wxSample
  /-- SKY_CTRL_WRITE (R199). -/
  | skyCtrlWrite (a : Agent) (v : Word)
  /-- SKY_TX_EN_WRITE (R199). -/
  | skyTxEnWrite (a : Agent) (v : Word)
  /-- LANE_EN_WRITE (R249). -/
  | laneEnWrite (a : Agent) (i : Fin 8) (v : Word)
  /-- MAP_ARM (R190). -/
  | mapArm (a : Agent)
  /-- MAP_ARM_CHECK_DONE (R190). -/
  | mapArmCheckDone
  /-- MAP_DISARM (R191). -/
  | mapDisarm (a : Agent)
  /-- MAP_APPLY (R191). -/
  | mapApply
  /-- EPOCH_START (R193): the readings of the frequency monitor for the root and the oven oscillator (R270). -/
  | epochStart (root oven : Nat)
  /-- SYNC_SLOT_TX (R187). -/
  | syncSlotTx (n : Fin 256)
  /-- SLOT_FILL (R235). -/
  | slotFill (p : Fin 16)
  /-- DATA_SLOT_TX (R195). -/
  | dataSlotTx (n : Fin 256) (bad : List Nat)
  /-- SKY_BURST_RX (R224). -/
  | skyBurstRx (n : Fin 256) (b : RxBurst)
  /-- DESKEW_RELEASE (R228). -/
  | deskewRelease
  /-- RESEQ_HORIZON_EXPIRY (R246). -/
  | reseqHorizonExpiry (src : Fin 128) (c : Fin 8)
  /-- PEER_TIMEOUT (R196). -/
  | peerTimeout (d : Fin 128)
  /-- LANE_TX_FAULT (R249). -/
  | laneTxFault (n : Fin 256)
  /-- LANE_RXLOS (R251). -/
  | laneRxlos (n : Fin 256)
  /-- JOIN_STEP (R266). -/
  | joinStep
  /-- FOUND_READY_SET (R267). -/
  | foundReadySet
  /-- FOUND_STEP (R267). -/
  | foundStep (a : Agent)
  /-- LEASE_TAKEOVER (R269). -/
  | leaseTakeover
  /-- LEASE_RENEW (R269). -/
  | leaseRenew
  /-- LEASE_LAPSE (R269). -/
  | leaseLapse
  /-- TAKEOVER_CHECK (R271). -/
  | takeoverCheck
  /-- LULL_ENTRY (R273). -/
  | lullEntry
  /-- LULL_LIMIT (R274). -/
  | lullLimit
  /-- TAI_OFFSET_WRITE (R275). -/
  | taiOffsetWrite (a : Agent) (v : Word)
  /-- KEEPER_RESTART (R283). -/
  | keeperRestart
  /-- MBOX_STATUS (R284). -/
  | mboxStatus (m : Fin 2) (busMv : Word)
  /-- MBOX_COMMIT_SHED_ORDER (R392). -/
  | mboxCommitShedOrder (m : Fin 2) (flashOk : Bool)
  /-- MBOX_READ_SHED_ORDER (R284). -/
  | mboxReadShedOrder (m : Fin 2)
  /-- MBOX_APP_RESET (R284). -/
  | mboxAppReset (m : Fin 2)
  /-- MBOX_READ_LOG (R428). -/
  | mboxReadLog (m : Fin 2)
  /-- MBOX_SET_FIRST_ADMIN (R284). -/
  | mboxSetFirstAdmin (m : Fin 2)
  /-- REDFISH_REQUEST (R285). -/
  | redfishRequest (authed : Bool) (op : RedfishOp)
  /-- REDFISH_GRACEFUL_RESTART (R285). -/
  | redfishGracefulRestart (authed : Bool)
  /-- UPDATE_SERVICE_PUSH (R413). -/
  | updateServicePush (authed : Bool) (image : List Byte)
  /-- RING_OWNER_WRITE (R287). -/
  | ringOwnerWrite (a : Agent) (v : Word)
  /-- PCIE_LINK_DOWN (R288). -/
  | pcieLinkDown
  /-- PCIE_LINK_UP (R295). -/
  | pcieLinkUp (width : Fin 9) (bme : Bool)
  /-- IDL_POLICER_REFRESH (R292). -/
  | idlPolicerRefresh
  /-- INT_PEND_CLEAR (R295). -/
  | intPendClear (a : Agent) (i : Fin 8) (v : Word)
  /-- DOORBELL (R303). -/
  | doorbell (a : Agent) (r : Fin 172) (t : Word) (stores : List (Nat × List Byte))
  /-- CPL_DOORBELL (R303). -/
  | cplDoorbell (a : Agent) (r : Fin 160) (t : Word)
  /-- RING_FETCH (R302). -/
  | ringFetch (r : Fin 160)
  /-- TX_FRAME_INJECT (R308). -/
  | txFrameInject (g : Fin 16)
  /-- COMPLETION_WRITE (R310). -/
  | completionWrite (r : Fin 160)
  /-- RING_ENABLE (R313). -/
  | ringEnable (a : Agent) (r : Fin 172)
  /-- RING_DISABLE (R312). -/
  | ringDisable (a : Agent) (r : Fin 172)
  /-- RING_IDLE (R312). -/
  | ringIdle (r : Fin 172)
  /-- WIN_CFG_WRITE (R305). -/
  | winCfgWrite (a : Agent) (w : Fin 16) (reg : Fin 5) (v : Word)
  /-- NOTIFY_RECORD_WRITE (R315). -/
  | notifyRecordWrite
  /-- FAULT_BACKLOG_DELIVER (R316). -/
  | faultBacklogDeliver
  /-- IRQ_MOD_TIMER (R317). -/
  | irqModTimer (r : Fin 172)
  /-- TX_DESCRIPTOR (R321). -/
  | txDescriptor (r : Fin 64)
  /-- RX_BUFFER_DESCRIPTOR (R322). -/
  | rxBufferDescriptor (r : Fin 64)
  /-- REGISTER_WRITE (R357). -/
  | registerWrite (a : Agent) (ali : Fin 4) (size : Fin 4) (off : BitVec 28) (v : DWord)
  /-- COUNTER_READ (R368). -/
  | counterRead (a : Agent) (ali : Fin 4) (size : Fin 4) (off : BitVec 28)
  /-- HOLDING_PAIR_READ (R355). -/
  | holdingPairRead (a : Agent) (ali : Fin 4) (size : Fin 4) (off : BitVec 28)
  /-- FAR_READ_TIMEOUT (R351). -/
  | farReadTimeout
  /-- SLOW_WRITE_DONE (R352). -/
  | slowWriteDone (b : SlowBlock) (ack : Bool)
  /-- KEY_WRITE (R360). -/
  | keyWrite (a : Agent) (v : Word)
  /-- KEY_TIMEOUT (R360). -/
  | keyTimeout (a : Agent)
  /-- UPDATE_STROBE_HI (R365). -/
  | updateStrobeHi (a : Agent) (mask : Word)
  /-- UPDATE_STROBE (R365). -/
  | updateStrobe (a : Agent) (mask : Word)
  /-- SNAPSHOT_TAKE (R369). -/
  | snapshotTake (a : Agent) (clear view : Bool)
  /-- SNAPSHOT_DONE (R369). -/
  | snapshotDone
  /-- RESET_KIND_NONE (R378). -/
  | resetKindNone (a : Agent) (kind : Fin 4)
  /-- COLD_RESET (R402). -/
  | coldReset (a : Agent)
  /-- WARM_RESET (R402). -/
  | warmReset (a : Agent)
  /-- APP_DOMAIN_RESET (R402). -/
  | appDomainReset (a : Agent)
  /-- BLOCK_RESET (R406). -/
  | blockReset (a : Agent) (block : Fin 32)
  /-- FUSE_BLOW (R379). -/
  | fuseBlow (a : Agent) (bit : Fin 32)
  /-- FUSE_BLOW_DONE (R379). -/
  | fuseBlowDone (blown : Bool)
  /-- RAIL_SET_WRITE (R387). -/
  | railSetWrite (a : Agent) (i : Fin 32) (v : Word)
  /-- OPT_LANE_BIAS_WRITE (R382). -/
  | optLaneBiasWrite (a : Agent) (lane : Fin 512) (v : Word)
  /-- POWER_ON (R385). -/
  | powerOn (c : Climate) (absentMs : Nat)
  /-- RAIL_FAULT (R386). -/
  | railFault (rail : Fin 28) (inService : Bool) (c : Climate)
  /-- RAIL_RETRY (R386). -/
  | railRetry
  /-- THERMAL_EVALUATION (R388). -/
  | thermalEvaluation (c : Climate)
  /-- POWER_LIMIT_CLEAR (R384). -/
  | powerLimitClear
  /-- STEEP_TIMEOUT (R389). -/
  | steepTimeout
  /-- THERMAL_TRIP (R394). -/
  | thermalTrip (c : Climate)
  /-- MAINS_LOSS (R395). -/
  | mainsLoss (c : Climate)
  /-- DUSK (R396). -/
  | dusk (c : Climate)
  /-- DUSK_FORWARD_STOP (R396). -/
  | duskForwardStop
  /-- DUSK_CHECKPOINT_DONE (R397). -/
  | duskCheckpointDone
  /-- COUNTER_CHECKPOINT (R397). -/
  | counterCheckpoint
  /-- FAULT_LOG_WRITE (R428). -/
  | faultLogWrite (flashOk : Bool)
  /-- QUIET_ASSERT (R399). -/
  | quietAssert
  /-- QUIET_RELEASE (R399). -/
  | quietRelease
  /-- FIXTURE_RESET_RELEASE (R439). -/
  | fixtureResetRelease (ms : Nat) (c : Climate)
  /-- RECOVERY_HOLD (R439). -/
  | recoveryHold
  /-- DAWN_INIT (R408). -/
  | dawnInit
  /-- BOOT (R410). -/
  | boot (goodA goodB : Bool)
  /-- DFU_IMAGE_LOAD (R410). -/
  | dfuImageLoad (image : List Byte) (good : Bool)
  /-- TRIAL_EXPIRY (R411). -/
  | trialExpiry
  /-- KEEPER_FW_LOAD (R412). -/
  | keeperFwLoad (goodA goodB : Bool)
  /-- KEEPER_FW_FALLBACK (R412). -/
  | keeperFwFallback
  /-- NVM_READ (R417). -/
  | nvmRead (a : Agent)
  /-- NVM_WRITE (R417). -/
  | nvmWrite (a : Agent)
  /-- IMAGE_COMMIT (R414). -/
  | imageCommit (a : Agent) (slot : Fin 2)
  /-- SWITCH (R411). -/
  | switch (a : Agent) (slot : Fin 2)
  /-- CONFIRM (R411). -/
  | confirm (a : Agent)
  /-- CFG_COMMIT (R415). -/
  | cfgCommit (a : Agent)
  /-- RUN (R407). -/
  | run (a : Agent) (arg : Byte)
  /-- ABORT (R413). -/
  | abort (a : Agent)
  /-- NVM_OP_COMPLETE (R413). -/
  | nvmOpComplete (e : NvmEnd)
  /-- BOOT_SEL_WRITE (R417). -/
  | bootSelWrite
  /-- WINDOW_BUCKET_END (R419). -/
  | windowBucketEnd (k : Fin 12)
  /-- LEDGER_CHECK (R424). -/
  | ledgerCheck
  /-- EXCUSE_EXPIRY (R426). -/
  | excuseExpiry
  /-- HLT_REBASE (R427). -/
  | hltRebase (a : Agent)
  /-- OVEN_OSCILLATOR_READY (R22). -/
  | ovenOscillatorReady
  /-- DUSK_RESTART (R396). -/
  | duskRestart (c : Climate)
  /-- BUS_COLLAPSE (R385). -/
  | busCollapse
  /-- MSIX_ENTRY_UNMASK (R295): the external host writes an entry of the MSI-X table. -/
  | msixEntryUnmask (w : MsixWrite)
  /-- HOST_MEMORY_ERROR (R280). -/
  | hostMemoryError (addr : Nat) (e : MemError)
  deriving DecidableEq, Repr

end Sys2Proof
end

