-- ==== Sys2Proof/Decode.lean ====
section
/-!
DEFINITION. The command that a word spells. The command table gives no row any bits: commands reach the module as events
and accesses, none of them as a word, so no word spells one.
-/
namespace Sys2Proof

/-- The command that a word of the table's bits spells: no row of the table has bits (DESIGN CHOICE, log 2). -/
def decodeTableWord (_nbits _w : Nat) : Option Instr := none

end Sys2Proof
end

