-- ==== Sys2Proof/Machine/Bits.lean ====
section
/-!
DEFINITION. Bit fields, byte orders and the checksums of the formats: fields of a number, little-endian words of
ring entries (R319), big-endian wire fields, the Ethernet FCS, CRC-32C (R428) and the CRC-16 of cells.
-/
namespace Sys2Proof

/-- Bits [hi:lo] of a number. -/
def bits (w hi lo : Nat) : Nat := (w >>> lo) % 2 ^ (hi + 1 - lo)

/-- Bit i of a number. -/
def bitAt (w i : Nat) : Bool := w.testBit i

/-- A truth value as a number. -/
def b2n (b : Bool) : Nat := if b then 1 else 0

/-- `v` with bits [hi:lo] replaced by x. -/
def setBits (w hi lo x : Nat) : Nat :=
  w - (bits w hi lo) <<< lo + (x % 2 ^ (hi + 1 - lo)) <<< lo

/-- ⌈a / b⌉. -/
def ceilDiv (a b : Nat) : Nat := (a + b - 1) / b

/-- The number that a big-endian list of bytes spells. -/
def ofBe (l : List Byte) : Nat := l.foldl (fun a b => a * 256 + b.toNat) 0

/-- The number that a little-endian list of bytes spells. -/
def ofLe : List Byte → Nat
  | [] => 0
  | b :: l => b.toNat + 256 * ofLe l

/-- n bytes of a number, least significant first. -/
def toLe : Nat → Nat → List Byte
  | 0, _ => []
  | n + 1, v => BitVec.ofNat 8 v :: toLe n (v / 256)

/-- n bytes of a number, most significant first. -/
def toBe (n v : Nat) : List Byte := (toLe n v).reverse

/-- n bytes of a list from an offset; bytes beyond its end are absent. -/
def slice (l : List Byte) (o n : Nat) : List Byte := (l.drop o).take n

/-- A list cut or zero-filled to n bytes. -/
def fit (n : Nat) (l : List Byte) : List Byte := (l.take n) ++ List.replicate (n - l.length) 0#8

/-- Big-endian field of n bytes at offset o. -/
def beAt (l : List Byte) (o n : Nat) : Nat := ofBe (slice l o n)

/-- Replace the bytes from offset o on by `x`, keeping the length. -/
def patch (l : List Byte) (o : Nat) (x : List Byte) : List Byte :=
  (l.take o ++ x ++ l.drop (o + x.length)).take l.length

/-- Signed value of an n-bit two's complement number. -/
def sgn (n v : Nat) : Int := if v % 2 ^ n < 2 ^ (n - 1) then (v % 2 ^ n : Nat) else (v % 2 ^ n : Nat) - (2 ^ n : Nat)

/-- n-bit two's complement of an integer. -/
def unsgn (n : Nat) (v : Int) : Nat := (v % (2 ^ n : Nat)).toNat

/-- One step of a reflected CRC register. -/
def crcRefStep (poly : Nat) : Nat → Nat → Nat
  | 0, c => c
  | n + 1, c => crcRefStep poly n (if c % 2 = 1 then (c / 2) ^^^ poly else c / 2)

/-- A reflected CRC register over bytes. -/
def crcRef (poly c : Nat) (l : List Byte) : Nat :=
  l.foldl (fun c b => crcRefStep poly 8 (c ^^^ b.toNat)) c

/-- One step of an unreflected CRC register of width w. -/
def crcFwdStep (w poly : Nat) : Nat → Nat → Nat
  | 0, c => c
  | n + 1, c =>
    crcFwdStep w poly n (if 2 ^ (w - 1) ≤ c then ((2 * c) ^^^ poly) % 2 ^ w else 2 * c)

/-- An unreflected CRC register of width w over bytes, most significant bit first. -/
def crcFwd (w poly c : Nat) (l : List Byte) : Nat :=
  l.foldl (fun c b => crcFwdStep w poly 8 (c ^^^ (b.toNat <<< (w - 8)))) c

/-- The IEEE 802.3 frame check value of the bytes before the FCS (R6). -/
def fcsOf (l : List Byte) : Nat := crcRef 0xEDB88320 0xFFFFFFFF l ^^^ 0xFFFFFFFF

/-- The FCS as sent on the wire. -/
def fcsBytes (l : List Byte) : List Byte := toLe 4 (fcsOf l)

/-- CRC-32C with final complement (R428). -/
def crc32c (l : List Byte) : Nat := crcRef 0x82F63B78 0xFFFFFFFF l ^^^ 0xFFFFFFFF

/-- Index of the first element that satisfies a test. -/
def firstIdx {α : Type} (p : α → Bool) : List α → Nat → Option Nat
  | [], _ => none
  | a :: l, i => if p a then some i else firstIdx p l (i + 1)

/-- The numbers a, a+1, …, a+n-1. -/
def range' (a : Nat) : Nat → List Nat
  | 0 => []
  | n + 1 => a :: range' (a + 1) n

/-- Replace element i of a list. -/
def setNth {α : Type} (l : List α) (i : Nat) (x : α) : List α := l.set i x

end Sys2Proof
end

