-- ==== Sys2Proof/Machine/Framing.lean ====
section
/-!
DEFINITION. How bursts and leaf lanes look on the fibre: the Reed–Solomon codes, the scrambler, the preamble and the
symbols of a sky burst (R202 to R205), and the stages of the LZ400 lane signal that the spec gives whole (R36, R37).
-/
namespace Sys2Proof

/-! ### Reed–Solomon codes of a burst (R204) -/

/-- Twice a field element of GF(2^8) modulo x^8 + x^4 + x^3 + x^2 + 1. -/
def gfDouble (a : Nat) : Nat := if 128 ≤ a then (2 * a) ^^^ 0x11D else 2 * a

/-- Product in GF(2^8), over the low n bits of b. -/
def gfMulN : Nat → Nat → Nat → Nat
  | 0, _, _ => 0
  | n + 1, a, b => (if b % 2 = 1 then a else 0) ^^^ gfMulN n (gfDouble a) (b / 2)

/-- Product in GF(2^8). -/
def gfMul (a b : Nat) : Nat := gfMulN 8 a b

/-- α^n. -/
def gfPow : Nat → Nat
  | 0 => 1
  | n + 1 => gfDouble (gfPow n)

/-- The generator with roots α^0 to α^(n-1): its coefficients below the leading 1, highest power first. -/
def rsGen : Nat → List Nat
  | 0 => []
  | n + 1 =>
    let g := 1 :: rsGen n
    let p := g.map (gfMul (gfPow n))
    (List.zipWith (fun (a b : Nat) => a ^^^ b) (g ++ [0]) (0 :: p)).drop 1

/-- One message byte enters the parity register. -/
def rsStep (gen reg : List Nat) (b : Byte) : List Nat :=
  let f := b.toNat ^^^ reg.headD 0
  List.zipWith (fun (r g : Nat) => r ^^^ gfMul f g) (reg.drop 1 ++ [0]) gen

/-- The parity bytes of a message under a generator: systematic, message first (R204). -/
def rsParity (gen : List Nat) (msg : List Byte) : List Byte :=
  (msg.foldl (rsStep gen) (List.replicate gen.length 0)).map (BitVec.ofNat 8)

/-- A codeword: a message and n parity bytes. -/
def rsEncode (n : Nat) (msg : List Byte) : List Byte := msg ++ rsParity (rsGen n) msg

/-! ### Decoding (R204) -/

/-- The value at α^j of a word whose first byte has the highest power. -/
def syndrome (w : List Byte) (j : Nat) : Nat :=
  let a := gfPow j
  w.foldl (fun (x : Nat) b => gfMul x a ^^^ b.toNat) 0

/-- The syndromes of a word with n parity bytes: all zero for a codeword. -/
def syndromes (n : Nat) (w : List Byte) : List Nat := (List.range n).map (syndrome w)

/-- The inverse of a field element other than zero: its power 254. -/
def gfInv (a : Nat) : Nat := (List.range 254).foldl (fun x _ => gfMul x a) 1

/-- Sum of two polynomials, lowest power first. -/
def polyAdd : List Nat → List Nat → List Nat
  | a :: l, b :: m => (a ^^^ b) :: polyAdd l m
  | l, [] => l
  | [], m => m

/-- Value of a polynomial. -/
def polyAt (p : List Nat) (x : Nat) : Nat := p.foldr (fun c a => gfMul a x ^^^ c) 0

/-- The search for the shortest error locator of some syndromes: the locator and its length, those before the last change
with its discrepancy, and the steps since. -/
structure Locator where
  c : List Nat := [1]
  len : Nat := 0
  old : List Nat := [1]
  disc : Nat := 1
  since : Nat := 1
  deriving DecidableEq, Repr

/-- The search takes syndrome i. -/
def Locator.step (s : List Nat) (x : Locator) (i : Nat) : Locator :=
  let d := (List.range (x.len + 1)).foldl (fun a k => a ^^^ gfMul (x.c.getD k 0) (s.getD (i - k) 0)) 0
  if d = 0 then { x with since := x.since + 1 }
  else
    let q := gfMul d (gfInv x.disc)
    let c := polyAdd x.c (List.replicate x.since 0 ++ x.old.map (gfMul q))
    if 2 * x.len ≤ i then { c := c, len := i + 1 - x.len, old := x.c, disc := d, since := 1 }
    else { x with c := c, since := x.since + 1 }

/-- Coefficient k of a product of polynomials. -/
def polyCoef (p q : List Nat) (k : Nat) : Nat :=
  (List.range (k + 1)).foldl (fun a i => a ^^^ gfMul (p.getD i 0) (q.getD (k - i) 0)) 0

/-- The error in the byte with locator x: the evaluator over the derivative of the locator polynomial. -/
def errorAt (s c : List Nat) (x : Nat) : Nat :=
  let y := gfInv x
  let num := polyAt ((List.range s.length).map (polyCoef s c)) y
  let den := polyAt ((List.range c.length).map (fun k => if k % 2 = 0 then c.getD (k + 1) 0 else 0)) y
  gfMul x (gfMul num (gfInv den))

/-- Decode a word of at most 255 bytes with n parity bytes (R204): the message and the number of bytes corrected, at most
n / 2; none where no codeword lies that near. -/
def rsDecode (n : Nat) (w : List Byte) : Option (List Byte × Nat) :=
  let s := syndromes n w
  if s.all (· == 0) then some (w.take (w.length - n), 0)
  else
    let x := (List.range n).foldl (Locator.step s) {}
    let good := w.zipIdx.map (fun e =>
      let a := gfPow (w.length - 1 - e.2)
      if polyAt x.c (gfInv a) = 0 then e.1 ^^^ BitVec.ofNat 8 (errorAt s x.c a) else e.1)
    let errs := ((w.zip good).filter (fun e => e.1 != e.2)).length
    if decide (2 * errs ≤ n) && (syndromes n good).all (· == 0) then some (good.take (good.length - n), errs) else none

/-! ### The burst on the fibre (R203, R205) -/

/-- n bits of the additive scrambler x^31 + x^28 + 1 as a number, most significant first, and its next state. -/
def scramBits : Nat → Nat → Nat → Nat × Nat
  | 0, st, acc => (acc, st)
  | n + 1, st, acc =>
    let o := b2n (st.testBit 30 != st.testBit 27)
    scramBits n ((2 * st + o) % 2 ^ 31) (2 * acc + o)

/-- Scramble bytes from a state (R203). -/
def scramble : Nat → List Byte → List Byte
  | _, [] => []
  | st, b :: l =>
    let x := scramBits 8 st 0
    (b ^^^ BitVec.ofNat 8 x.1) :: scramble x.2 l

/-- The bytes of a burst from its first preamble symbol on: preamble, header with parity, positions with parity; all
after byte 3 of the header scrambled from all ones (R203 to R205). -/
def burstLine (half : Bool) (hdr : List Byte) (cells : List (List Byte)) : List Byte :=
  List.replicate (if half then 34 else 68) 0x88#8 ++ hdr.take 4
    ++ scramble (2 ^ 31 - 1)
        ((rsEncode (if half then 2 else 4) hdr).drop 4 ++ cells.flatMap (rsEncode 16))

/-- A Gray-coded PAM4 level of a bit pair (R202). -/
def grayLevel (p : Nat) : Nat := if p = 0 then 0 else if p = 1 then 1 else if p = 3 then 2 else 3

/-- The four symbols of a byte, most significant bit pair first (R202). -/
def symbols (b : Byte) : List Nat := [6, 4, 2, 0].map (fun (k : Nat) => grayLevel (b.toNat / 2 ^ k % 4))

/-! ### The code of an LZ400 codeword (R36): RS(544,514) over GF(2^10) (PRESUMED, log 20: the IEEE 802.3 code) -/

/-- Twice a field element of GF(2^10) modulo x^10 + x^3 + 1. -/
def gf10Double (a : Nat) : Nat := if 512 ≤ a then (2 * a) ^^^ 0x409 else 2 * a

/-- Product in GF(2^10), over the low n bits of b. -/
def gf10MulN : Nat → Nat → Nat → Nat
  | 0, _, _ => 0
  | n + 1, a, b => (if b % 2 = 1 then a else 0) ^^^ gf10MulN n (gf10Double a) (b / 2)

/-- α^n. -/
def gf10Pow : Nat → Nat
  | 0 => 1
  | n + 1 => gf10Double (gf10Pow n)

/-- The generator with roots α^0 to α^(n-1): its coefficients below the leading 1, highest power first. -/
def rsGen10 : Nat → List Nat
  | 0 => []
  | n + 1 =>
    let g := 1 :: rsGen10 n
    let p := g.map (gf10MulN 10 (gf10Pow n))
    (List.zipWith (fun (a b : Nat) => a ^^^ b) (g ++ [0]) (0 :: p)).drop 1

/-- One message symbol enters the parity register. -/
def rsStep10 (gen reg : List Nat) (m : Nat) : List Nat :=
  let f := m ^^^ reg.headD 0
  List.zipWith (fun (r g : Nat) => r ^^^ gf10MulN 10 f g) (reg.drop 1 ++ [0]) gen

/-- The 30 parity symbols of a message. -/
def rsParity10 (msg : List Nat) : List Nat := let g := rsGen10 30; msg.foldl (rsStep10 g) (List.replicate 30 0)

/-! ### The LZ400 lane signal (R36, R37) -/

/-- Stage 3: the self-synchronising scrambler 1 + x^39 + x^58 over bits. -/
def selfScramble : Nat → List Bool → List Bool
  | _, [] => []
  | st, b :: l =>
    let o := b != (st.testBit 38 != st.testBit 57)
    o :: selfScramble ((2 * st + b2n o) % 2 ^ 58) l

/-- n bits of a number, most significant first. -/
def bitsOf (n v : Nat) : List Bool := ((List.range n).map (fun (k : Nat) => v.testBit k)).reverse

/-- The marker pattern (R37). -/
def markerPattern : Nat := 0xC16821F43E97DE0B962BD46A

/-- A marker block in the order sent (R37) (DEDUCED, log 21). -/
def markerBlock (lane bip period : Nat) : List Bool :=
  [false, true, true, true, true] ++ bitsOf 96 markerPattern ++ bitsOf 8 lane ++ bitsOf 8 (255 - lane % 256)
    ++ bitsOf 8 bip ++ bitsOf 8 (255 - bip % 256) ++ bitsOf 16 (period % 65536) ++ List.replicate 108 false

/-- BIP of the bits of a period: bit j is the even parity over bits j, j + 8, j + 16 and so on (R37). -/
def bipOf (l : List Bool) : Nat :=
  (l.foldl (fun (a : Nat × Nat) b => (a.1 ^^^ (b2n b * 2 ^ a.2), (a.2 + 1) % 8)) (0, 0)).1

/-- Stage 5: the codewords of lane k of a port of n lanes. -/
def laneCodewords {α : Type} (n k : Nat) (l : List α) : List α :=
  (l.zipIdx.filter (fun e => e.2 % n == k)).map (fun e => e.1)

/-- Stage 6: two codewords symbol by symbol, the first codeword first. -/
def interleave {α : Type} : List α → List α → List α
  | a :: l, b :: m => a :: b :: interleave l m
  | l, [] => l
  | [], m => m

/-- Stage 7: 1/(1 + D) mod 4 precoding of Gray levels from the level before. -/
def precode : Nat → List Nat → List Nat
  | _, [] => []
  | p, g :: l =>
    let x := (g + 4 - p) % 4
    x :: precode x l

end Sys2Proof
end

