-- ==== Sys2Proof/Config.lean ====
section
/-!
DEFINITION. What the spec leaves open: free values. Each is an uninterpreted constant applied to the plain counter
`State.free`, so nothing can be proved about the value (assumption log 1).
-/
namespace Sys2Proof

/-- A number the spec does not fix. -/
opaque Config.freeNat : Nat → Nat
/-- A bit the spec does not fix. -/
opaque Config.freeBit : Nat → Bool
/-- A register value the spec does not fix. -/
opaque Config.freeWord : Nat → Word
/-- A byte the spec does not fix. -/
opaque Config.freeByte : Nat → Byte
/-- Whether the keeper's firmware hangs at a millisecond: nothing in the spec brings a hang about (R283). -/
opaque Config.keeperHangs : Nat → Bool
/-- The serial number that the factory gave the module (R374). -/
opaque Config.serial : BitVec 64

end Sys2Proof
end

