-- ==== Sys2Proof/Machine/ParseReset.lean ====
section
/-!
DEFINITION. The default parse graph of R66 as the reset values of PARSE_NODE_A, PARSE_NODE_B, PARSE_TRANS_A and
PARSE_TRANS_B. The transitions stand in the order of the rule's table; the rule gives them no index (log 7).
-/
namespace Sys2Proof

/-- The nodes of R66: number, PARSE_NODE_A, PARSE_NODE_B. -/
def defaultNodes : List (Nat × Nat × Nat) := [
  (0, 0x01008180, 0x0E000000),
  (1, 0x02008040, 0x04000000),
  (2, 0x02008040, 0x04000000),
  (3, 0x03008040, 0x04000000),
  (4, 0x04008901, 0x000F4000),
  (5, 0x050090C0, 0x28000000),
  (6, 0x06009001, 0x08FF6010),
  (7, 0x07009000, 0x08000000),
  (8, 0x08008801, 0x00F008C0),
  (9, 0x09008840, 0x08000000),
  (10, 0x0A0D1800, 0x08000000),
  (11, 0x0B008841, 0x083F4000),
  (12, 0x0C008800, 0x08000000),
  (13, 0x01009980, 0x0E000000),
  (14, 0x02009840, 0x04000000),
  (15, 0x04009901, 0x000F4000),
  (16, 0x050098C0, 0x28000000),
  (17, 0x08009801, 0x00F008C0),
  (18, 0x09009800, 0x08000000),
  (19, 0x0C009800, 0x08000000),
  (28, 0x08009001, 0x00F008C0),
  (29, 0x09009040, 0x08000000),
  (31, 0x0B009041, 0x083F4000),
  (32, 0x0C009000, 0x08000000)]

/-- The transitions of R66: PARSE_TRANS_A, PARSE_TRANS_B. -/
def defaultTrans0 : List (Nat × Nat) := [
  (0x00010001, 0x8100FFFF), (0x00010001, 0x88A8FFFF), (0x00040001, 0x0800FFFF), (0x00050001, 0x86DDFFFF),
  (0x00030001, 0x8847FFFF), (0x01020001, 0x8100FFFF), (0x01020001, 0x88A8FFFF), (0x01040001, 0x0800FFFF),
  (0x01050001, 0x86DDFFFF), (0x01030001, 0x8847FFFF), (0x02040001, 0x0800FFFF), (0x02050001, 0x86DDFFFF),
  (0x02030001, 0x8847FFFF), (0x03030001, 0x00000100), (0x04080001, 0x000600FF), (0x04090001, 0x001100FF),
  (0x040C0001, 0x000100FF), (0x05060001, 0x0000FF00), (0x05060001, 0x2B00FF00), (0x05060001, 0x3C00FF00),
  (0x05070001, 0x2C00FF00), (0x051C0001, 0x0600FF00), (0x051D0001, 0x1100FF00), (0x05200001, 0x3A00FF00)]
def defaultTrans1 : List (Nat × Nat) := [
  (0x06060001, 0x0000FF00), (0x06060001, 0x2B00FF00), (0x06060001, 0x3C00FF00), (0x06070001, 0x2C00FF00),
  (0x061C0001, 0x0600FF00), (0x061D0001, 0x1100FF00), (0x06200001, 0x3A00FF00), (0x071C0001, 0x0600FF00),
  (0x071D0001, 0x1100FF00), (0x090A0001, 0x12B5FFFF), (0x090B0001, 0x17C1FFFF), (0x0B0D0001, 0x6558FFFF),
  (0x0D0E0001, 0x8100FFFF), (0x0D0F0001, 0x0800FFFF), (0x0D100001, 0x86DDFFFF), (0x0E0F0001, 0x0800FFFF),
  (0x0E100001, 0x86DDFFFF), (0x0F110001, 0x000600FF), (0x0F120001, 0x001100FF), (0x0F130001, 0x000100FF),
  (0x10110001, 0x0600FF00), (0x10120001, 0x1100FF00), (0x10130001, 0x3A00FF00), (0x1D0A0001, 0x12B5FFFF)]
def defaultTrans2 : List (Nat × Nat) := [
  (0x1D1F0001, 0x17C1FFFF), (0x1F0D0001, 0x6558FFFF)]
def defaultTrans : List (Nat × Nat) := List.flatten [defaultTrans0, defaultTrans1, defaultTrans2]

def parseNodeA (i : Nat) : Nat := ((defaultNodes.find? (fun e => e.1 == i)).map (fun e => e.2.1)).getD 0
def parseNodeB (i : Nat) : Nat := ((defaultNodes.find? (fun e => e.1 == i)).map (fun e => e.2.2)).getD 0
def parseTransA (i : Nat) : Nat := (defaultTrans[i]?.map Prod.fst).getD 0
def parseTransB (i : Nat) : Nat := (defaultTrans[i]?.map Prod.snd).getD 0

end Sys2Proof
end

