-- ==== Sys2Proof/Machine/Map.lean ====
section
/-!
DEFINITION. Sparse storage: an association list with strictly rising keys in which a key that holds the default
value is not listed, so that equal contents are equal data. Every register file, counter file, table and memory
of the model is held this way.
-/
namespace Sys2Proof

/-- A sparse map from numbers (register offsets, table slots, addresses, queue keys) to values. -/
abbrev SMap (α : Type) := List (Nat × α)

namespace SMap
variable {α : Type}

/-- The value listed at a key. -/
def get? : SMap α → Nat → Option α
  | [], _ => none
  | (k, v) :: m, q => if q = k then some v else if q < k then none else get? m q

/-- The value at a key, the default where nothing is listed. -/
def getD (m : SMap α) (q : Nat) (d : α) : α := (get? m q).getD d

/-- Remove a key. -/
def erase : SMap α → Nat → SMap α
  | [], _ => []
  | (k, v) :: m, q => if q = k then m else if q < k then (k, v) :: m else (k, v) :: erase m q

/-- List a value at a key, replacing what stood there. -/
def insert : SMap α → Nat → α → SMap α
  | [], q, x => [(q, x)]
  | (k, v) :: m, q, x =>
    if q = k then (q, x) :: m else if q < k then (q, x) :: (k, v) :: m else (k, v) :: insert m q x

/-- Store a value: the default value is not listed. -/
def put [DecidableEq α] (m : SMap α) (q : Nat) (d x : α) : SMap α :=
  if x = d then erase m q else insert m q x

/-- Change the value at a key. -/
def upd [DecidableEq α] (m : SMap α) (q : Nat) (d : α) (f : α → α) : SMap α :=
  put m q d (f (getD m q d))

/-- Keep the entries whose key satisfies a test. -/
def keep (m : SMap α) (p : Nat → Bool) : SMap α := m.filter (fun e => p e.1)

/-- The keys rise strictly. -/
def sorted : SMap α → Bool
  | [] => true
  | [_] => true
  | (k, _) :: (k', v') :: m => decide (k < k') && sorted ((k', v') :: m)

/-- Canonical form: keys rise strictly and no entry equals what an unlisted key reads as. -/
def wf [DecidableEq α] (d : Nat → α) (m : SMap α) : Bool :=
  sorted m && m.all (fun e => decide (e.2 ≠ d e.1))

/-- Union of two maps with disjoint keys (right entries win where both list a key). -/
def union (m : SMap α) : SMap α → SMap α
  | [] => m
  | (k, v) :: r => union (insert m k v) r

end SMap
end Sys2Proof
end

