-- ==== Sys2Proof/Machine/RegMap.lean ====
section
/-!
DEFINITION. The register map: every register and every counter of the aperture under its own name, with its
offset, array shape, field masks, reset value, update group and key guard, as 17_register_map.md (R371 to R374,
R380) and the register sections of the other chapters give them.
-/
namespace Sys2Proof

/-- One row of the register index (R373, R374, R380): element (i, j) lies at base + s1*i + s2*j. Masks name the bits
of each field type of R11; bits in no mask are RO or reserved. `grp` is the update group (64: not shadowed), `key`
the key guard. -/
structure Reg where
  base : Nat
  s1 : Nat
  n1 : Nat
  s2 : Nat
  n2 : Nat
  reset : Nat
  rw : Nat
  w1c : Nat
  wo : Nat
  rws : Nat
  grp : Nat
  key : Bool
  deriving DecidableEq, Repr

def Reg.LEAF_GROUP_CFG : Reg := ⟨0x100000, 0x40, 16, 0x0, 1, 0x1, 0x7, 0x0, 0x0, 0x0, 64, false⟩
def Reg.LEAF_GROUP_CTRL : Reg := ⟨0x100004, 0x40, 16, 0x0, 1, 0x0, 0x0, 0x0, 0x1, 0x0, 64, false⟩
def Reg.LEAF_GROUP_STATUS : Reg := ⟨0x100008, 0x40, 16, 0x0, 1, 0x1, 0x0, 0x10, 0x0, 0x0, 64, false⟩
def Reg.LEAF_PORT_CFG : Reg := ⟨0x110000, 0x100, 256, 0x0, 1, 0x296000, 0x1fffff9, 0x0, 0x0, 0x0, 1, false⟩
def Reg.LEAF_PORT_STATUS : Reg := ⟨0x110004, 0x100, 256, 0x0, 1, 0x40, 0x0, 0x2, 0x0, 0x0, 64, false⟩
def Reg.LEAF_PFC_CFG : Reg := ⟨0x110008, 0x100, 256, 0x0, 1, 0xffff00ff, 0xffffffff, 0x0, 0x0, 0x0, 1, false⟩
def Reg.LEAF_PAUSE_WD_CFG : Reg := ⟨0x11000c, 0x100, 256, 0x0, 1, 0x3e80064, 0xffffffff, 0x0, 0x0, 0x0, 1, false⟩
def Reg.LEAF_PAUSE_STATUS : Reg := ⟨0x110010, 0x100, 256, 0x0, 1, 0x0, 0x0, 0x0, 0x0, 0x0, 64, false⟩
def Reg.LEAF_CT_STATUS : Reg := ⟨0x110014, 0x100, 256, 0x0, 1, 0x2, 0x0, 0x0, 0x0, 0x0, 64, false⟩
def Reg.LEAF_DOZE_CTRL : Reg := ⟨0x110018, 0x100, 256, 0x0, 1, 0x0, 0x0, 0x0, 0x3, 0x0, 64, false⟩
def Reg.LEAF_WAKE_PAT_LO : Reg := ⟨0x11001c, 0x100, 256, 0x0, 1, 0xff096e1, 0xffffffff, 0x0, 0x0, 0x0, 1, false⟩
def Reg.LEAF_WAKE_PAT_HI : Reg := ⟨0x110020, 0x100, 256, 0x0, 1, 0x5a3cc3a5, 0xffffffff, 0x0, 0x0, 0x0, 1, false⟩
def Reg.LEAF_FLAP_CFG : Reg := ⟨0x110024, 0x100, 256, 0x0, 1, 0x64, 0x3fff, 0x0, 0x0, 0x0, 1, false⟩
def Reg.LEAF_PFC_THRESH : Reg := ⟨0x110040, 0x100, 256, 0x4, 8, 0x2000100, 0xffffffff, 0x0, 0x0, 0x0, 1, false⟩
def Reg.PARSE_CFG : Reg := ⟨0x200000, 0x0, 1, 0x0, 1, 0x0, 0xffffffc0, 0x0, 0x0, 0x0, 2, false⟩
def Reg.PARSE_MAL_ACT : Reg := ⟨0x200004, 0x0, 1, 0x0, 1, 0x22, 0xffffffff, 0x0, 0x0, 0x0, 2, false⟩
def Reg.PARSE_TUNNEL_CFG : Reg := ⟨0x200008, 0x0, 1, 0x0, 1, 0x17c112b5, 0xffffffff, 0x0, 0x0, 0x0, 2, false⟩
def Reg.PARSE_HASH_CFG : Reg := ⟨0x20000c, 0x0, 1, 0x0, 1, 0xc4100, 0x3fffff, 0x0, 0x0, 0x0, 2, false⟩
def Reg.PARSE_HASH_SEED : Reg := ⟨0x200010, 0x0, 1, 0x0, 1, 0x0, 0xffffffff, 0x0, 0x0, 0x0, 2, false⟩
def Reg.PARSE_DSCP_MAP : Reg := ⟨0x200040, 0x4, 8, 0x0, 1, 0x0, 0xffffff, 0x0, 0x0, 0x0, 2, false⟩
def Reg.PARSE_NODE_A : Reg := ⟨0x210000, 0x8, 256, 0x0, 1, 0x0, 0xffffffe1, 0x0, 0x0, 0x0, 2, false⟩
def Reg.PARSE_NODE_B : Reg := ⟨0x210004, 0x8, 256, 0x0, 1, 0x0, 0xfffffff0, 0x0, 0x0, 0x0, 2, false⟩
def Reg.PARSE_TRANS_A : Reg := ⟨0x220000, 0x8, 2048, 0x0, 1, 0x0, 0xffff8001, 0x0, 0x0, 0x0, 2, false⟩
def Reg.PARSE_TRANS_B : Reg := ⟨0x220004, 0x8, 2048, 0x0, 1, 0x0, 0xffffffff, 0x0, 0x0, 0x0, 2, false⟩
def Reg.PARSE_EXTRACT : Reg := ⟨0x230000, 0x100, 16, 0x4, 40, 0x0, 0xffffc000, 0x0, 0x0, 0x0, 2, false⟩
def Reg.PARSE_PORT_CFG : Reg := ⟨0x240000, 0x8, 256, 0x0, 1, 0x8, 0x1f, 0x0, 0x0, 0x0, 2, false⟩
def Reg.PARSE_PCP_MAP : Reg := ⟨0x240004, 0x8, 256, 0x0, 1, 0xfac688, 0xffffff, 0x0, 0x0, 0x0, 2, false⟩
def Reg.TBL_ROUTER_MAC_LO : Reg := ⟨0x300000, 0x0, 1, 0x0, 1, 0x0, 0xffffffff, 0x0, 0x0, 0x0, 3, false⟩
def Reg.TBL_ROUTER_MAC_HI : Reg := ⟨0x300004, 0x0, 1, 0x0, 1, 0x0, 0xffff, 0x0, 0x0, 0x0, 3, false⟩
def Reg.TBL_MISS_CFG : Reg := ⟨0x300008, 0x0, 1, 0x0, 1, 0x0, 0xfffffffe, 0x0, 0x0, 0x0, 3, false⟩
def Reg.TBL_LEARN_CFG : Reg := ⟨0x30000c, 0x0, 1, 0x0, 1, 0xc00013e8, 0xc7ffffff, 0x0, 0x0, 0x0, 3, false⟩
def Reg.TBL_LEARN_STATUS : Reg := ⟨0x300010, 0x0, 1, 0x0, 1, 0x0, 0x0, 0x0, 0x0, 0x0, 64, false⟩
def Reg.TBL_AGE_CFG : Reg := ⟨0x300014, 0x0, 1, 0x0, 1, 0x960000, 0xffff000f, 0x0, 0x0, 0x0, 3, false⟩
def Reg.TBL_AGE_STATUS : Reg := ⟨0x300018, 0x0, 1, 0x0, 1, 0x0, 0x0, 0x0, 0x0, 0x0, 64, false⟩
def Reg.TBL_LAYOUT_SEL : Reg := ⟨0x30001c, 0x0, 1, 0x0, 1, 0x0, 0x1, 0x0, 0x0, 0x0, 3, false⟩
def Reg.TBL_CLEAR_CTRL : Reg := ⟨0x300020, 0x0, 1, 0x0, 1, 0x0, 0x0, 0x20000000, 0x80000000, 0x0, 64, false⟩
def Reg.TBL_CLEAR_BASE : Reg := ⟨0x300024, 0x0, 1, 0x0, 1, 0x0, 0xffffff, 0x0, 0x0, 0x0, 64, false⟩
def Reg.TBL_CLEAR_COUNT : Reg := ⟨0x300028, 0x0, 1, 0x0, 1, 0x0, 0xffffff, 0x0, 0x0, 0x0, 64, false⟩
def Reg.TBL_PORT_CFG : Reg := ⟨0x310000, 0x4, 256, 0x0, 1, 0x500, 0xffffff00, 0x0, 0x0, 0x0, 3, false⟩
def Reg.TBL_LAYOUT_SEED : Reg := ⟨0x320000, 0x20, 2, 0x4, 3, 0x0, 0xffffffff, 0x0, 0x0, 0x0, 3, false⟩
def Reg.TBL_LAYOUT_GEOM : Reg := ⟨0x320010, 0x20, 2, 0x4, 2, 0xa0000000, 0xf80fffff, 0x0, 0x0, 0x0, 3, false⟩
def Reg.TBL_LPM_REGION : Reg := ⟨0x330000, 0x400, 2, 0x4, 162, 0x0, 0xfc07ffff, 0x0, 0x0, 0x0, 3, false⟩
def Reg.XBAR_CFG : Reg := ⟨0x400000, 0x0, 1, 0x0, 1, 0x404003, 0xffff03, 0x0, 0x0, 0x0, 4, false⟩
def Reg.XBAR_RESEQ_CFG : Reg := ⟨0x400004, 0x0, 1, 0x0, 1, 0x10, 0x7ff, 0x0, 0x0, 0x0, 4, false⟩
def Reg.XBAR_PLANE_CTRL : Reg := ⟨0x400008, 0x0, 1, 0x0, 1, 0xffff, 0xffff, 0x0, 0x0, 0x0, 4, false⟩
def Reg.XBAR_PLANE_STATUS : Reg := ⟨0x40000c, 0x0, 1, 0x0, 1, 0xffff, 0x0, 0x0, 0x0, 0x0, 64, false⟩
def Reg.XBAR_PLANE_FAULT : Reg := ⟨0x400010, 0x0, 1, 0x0, 1, 0x0, 0x0, 0xffff, 0x0, 0x0, 64, false⟩
def Reg.BUF_CFG : Reg := ⟨0x500000, 0x0, 1, 0x0, 1, 0x100000, 0xffff01, 0x0, 0x0, 0x0, 5, false⟩
def Reg.BUF_SPILL_THRESH : Reg := ⟨0x500010, 0x4, 3, 0x0, 1, 0x0, 0x1fffff, 0x0, 0x0, 0x0, 5, false⟩
def Reg.BUF_SCRUB_CFG : Reg := ⟨0x500020, 0x0, 1, 0x0, 1, 0x3c0021, 0xffff00f1, 0x0, 0x0, 0x0, 5, false⟩
def Reg.BUF_SCRUB_STATUS : Reg := ⟨0x500024, 0x0, 1, 0x0, 1, 0x40000000, 0x0, 0x0, 0x0, 0x0, 64, false⟩
def Reg.BUF_RETIRE_STATUS : Reg := ⟨0x500028, 0x0, 1, 0x0, 1, 0x0, 0x0, 0x80000000, 0x0, 0x0, 64, false⟩
def Reg.BUF_CARVE_CTRL : Reg := ⟨0x500030, 0x0, 1, 0x0, 1, 0x0, 0x0, 0x2, 0x1, 0x0, 64, false⟩
def Reg.BUF_CARVE_STATUS : Reg := ⟨0x500034, 0x0, 1, 0x0, 1, 0x7808, 0x0, 0x0, 0x0, 0x0, 64, false⟩
def Reg.BUF_CARVE_TILES : Reg := ⟨0x500040, 0x4, 4, 0x0, 1, 0x0, 0xfffffff, 0x0, 0x0, 0x0, 64, false⟩
def Reg.BUF_POOL_FREE : Reg := ⟨0x510000, 0x10, 5, 0x0, 1, 0x0, 0x0, 0x0, 0x0, 0x0, 64, false⟩
def Reg.BUF_POOL_ALLOC : Reg := ⟨0x510004, 0x10, 5, 0x0, 1, 0x0, 0x0, 0x0, 0x0, 0x0, 64, false⟩
def Reg.BUF_POOL_QUAR : Reg := ⟨0x510008, 0x10, 5, 0x0, 1, 0x0, 0x0, 0x0, 0x0, 0x0, 64, false⟩
def Reg.BUF_POOL_RSV : Reg := ⟨0x510080, 0x0, 1, 0x0, 1, 0x0, 0x0, 0x0, 0x0, 0x0, 64, false⟩
def Reg.BUF_RETIRE : Reg := ⟨0x520000, 0x4, 1024, 0x0, 1, 0x0, 0xcfffffff, 0x0, 0x0, 0xcfffffff, 64, false⟩
def Reg.TM_CFG : Reg := ⟨0x600000, 0x0, 1, 0x0, 1, 0x0, 0x1, 0x0, 0x0, 0x0, 6, false⟩
def Reg.TM_WX_CFG : Reg := ⟨0x600004, 0x0, 1, 0x0, 1, 0x64, 0x870003ff, 0x0, 0x0, 0x0, 6, false⟩
def Reg.TM_WX_STATUS : Reg := ⟨0x600008, 0x0, 1, 0x0, 1, 0x0, 0x0, 0x0, 0x0, 0x0, 64, false⟩
def Reg.TM_WX_LOG_BASE : Reg := ⟨0x60000c, 0x0, 1, 0x0, 1, 0x0, 0x1fffff, 0x0, 0x0, 0x0, 6, false⟩
def Reg.TM_WX_LOG_SIZE : Reg := ⟨0x600010, 0x0, 1, 0x0, 1, 0x0, 0x1f, 0x0, 0x0, 0x0, 6, false⟩
def Reg.TM_DEST_QMAP : Reg := ⟨0x600014, 0x0, 1, 0x0, 1, 0x0, 0xffffffff, 0x0, 0x0, 0x0, 6, false⟩
def Reg.TM_RELAY_CFG : Reg := ⟨0x600018, 0x0, 1, 0x0, 1, 0xc0000010, 0xff00ffff, 0x0, 0x0, 0x0, 6, false⟩
def Reg.TM_DEST_LIMIT : Reg := ⟨0x600040, 0x4, 8, 0x0, 1, 0x0, 0xffffff, 0x0, 0x0, 0x0, 6, false⟩
def Reg.TM_SKY_CLASS_CFG : Reg := ⟨0x600060, 0x4, 8, 0x0, 1, 0x10, 0x800000ff, 0x0, 0x0, 0x0, 6, false⟩
def Reg.TM_QPROF_LIMIT : Reg := ⟨0x600100, 0x40, 3, 0x4, 16, 0x80010000, 0xf0ffffff, 0x0, 0x0, 0x0, 6, false⟩
def Reg.TM_QPROF_MARK : Reg := ⟨0x600200, 0x40, 3, 0x4, 16, 0x400, 0x1ffffff, 0x0, 0x0, 0x0, 6, false⟩
def Reg.TM_WX_WATCH : Reg := ⟨0x601000, 0x4, 1024, 0x0, 1, 0x0, 0xff000fff, 0x0, 0x0, 0x0, 6, false⟩
def Reg.TM_PORT_SCHED : Reg := ⟨0x610000, 0x100, 256, 0x0, 1, 0x0, 0xff0000, 0x0, 0x0, 0x0, 6, false⟩
def Reg.TM_LEAF_QMAP : Reg := ⟨0x610004, 0x100, 256, 0x0, 1, 0x0, 0xffffffff, 0x0, 0x0, 0x0, 6, false⟩
def Reg.TM_PORT_SHAPER_A : Reg := ⟨0x610008, 0x100, 256, 0x0, 1, 0x0, 0xffffffff, 0x0, 0x0, 0x0, 6, false⟩
def Reg.TM_PORT_SHAPER_B : Reg := ⟨0x61000c, 0x100, 256, 0x0, 1, 0x0, 0x3fffffff, 0x0, 0x0, 0x0, 6, false⟩
def Reg.TM_PORT_SHAPER_C : Reg := ⟨0x610010, 0x100, 256, 0x0, 1, 0x2600, 0xffffff, 0x0, 0x0, 0x0, 6, false⟩
def Reg.TM_PORT_SHAPER_D : Reg := ⟨0x610014, 0x100, 256, 0x0, 1, 0x2600, 0xffffff, 0x0, 0x0, 0x0, 6, false⟩
def Reg.TM_PORT_CREDIT : Reg := ⟨0x610018, 0x100, 256, 0x0, 1, 0x0, 0x0, 0x0, 0x0, 0x0, 64, false⟩
def Reg.TM_CLASS_QUANTUM : Reg := ⟨0x610020, 0x100, 256, 0x4, 8, 0x2600, 0xffff, 0x0, 0x0, 0x0, 6, false⟩
def Reg.TM_Q_SHAPER_A : Reg := ⟨0x610040, 0x100, 256, 0x10, 8, 0x0, 0xffffffff, 0x0, 0x0, 0x0, 6, false⟩
def Reg.TM_Q_SHAPER_B : Reg := ⟨0x610044, 0x100, 256, 0x10, 8, 0x0, 0x3fffffff, 0x0, 0x0, 0x0, 6, false⟩
def Reg.TM_Q_SHAPER_C : Reg := ⟨0x610048, 0x100, 256, 0x10, 8, 0x2600, 0xffffff, 0x0, 0x0, 0x0, 6, false⟩
def Reg.TM_Q_SHAPER_D : Reg := ⟨0x61004c, 0x100, 256, 0x10, 8, 0x2600, 0xffffff, 0x0, 0x0, 0x0, 6, false⟩
def Reg.TM_Q_CREDIT : Reg := ⟨0x6100c0, 0x100, 256, 0x4, 8, 0x0, 0x0, 0x0, 0x0, 0x0, 64, false⟩
def Reg.TM_Q_DEPTH : Reg := ⟨0x6100e0, 0x100, 256, 0x4, 8, 0x0, 0x0, 0x0, 0x0, 0x0, 64, false⟩
def Reg.TM_POL_A : Reg := ⟨0x680000, 0x8, 65536, 0x0, 1, 0x0, 0xffffffff, 0x0, 0x0, 0x0, 6, false⟩
def Reg.TM_POL_B : Reg := ⟨0x680004, 0x8, 65536, 0x0, 1, 0x0, 0x80ffffff, 0x0, 0x0, 0x0, 6, false⟩
def Reg.SKY_CFG : Reg := ⟨0x700000, 0x0, 1, 0x0, 1, 0xf00, 0x1f7f, 0x0, 0x0, 0x0, 64, false⟩
def Reg.SKY_CTRL : Reg := ⟨0x700004, 0x0, 1, 0x0, 1, 0x0, 0x1, 0x0, 0x0, 0x0, 64, false⟩
def Reg.SKY_TX_EN : Reg := ⟨0x700008, 0x0, 1, 0x0, 1, 0x0, 0x1, 0x0, 0x0, 0x0, 64, true⟩
def Reg.SKY_STATE : Reg := ⟨0x70000c, 0x0, 1, 0x0, 1, 0x900, 0x0, 0x1000, 0x0, 0x0, 64, false⟩
def Reg.SKY_EPOCH_LO : Reg := ⟨0x700010, 0x0, 1, 0x0, 1, 0x0, 0x0, 0x0, 0x0, 0x0, 64, false⟩
def Reg.SKY_EPOCH_HI : Reg := ⟨0x700014, 0x0, 1, 0x0, 1, 0x0, 0x0, 0x0, 0x0, 0x0, 64, false⟩
def Reg.SKY_PEER_CFG : Reg := ⟨0x700018, 0x0, 1, 0x0, 1, 0x100, 0xffff, 0x0, 0x0, 0x0, 64, false⟩
def Reg.SKY_MAP_ARM : Reg := ⟨0x700020, 0x0, 1, 0x0, 1, 0x100, 0x1ff, 0x0, 0x0, 0x0, 64, false⟩
def Reg.SKY_MAP_APPLY_LO : Reg := ⟨0x700024, 0x0, 1, 0x0, 1, 0x0, 0xffffffff, 0x0, 0x0, 0x0, 64, false⟩
def Reg.SKY_MAP_APPLY_HI : Reg := ⟨0x700028, 0x0, 1, 0x0, 1, 0x0, 0xffff, 0x0, 0x0, 0x0, 64, false⟩
def Reg.SKY_MAP_CTRL : Reg := ⟨0x70002c, 0x0, 1, 0x0, 1, 0x0, 0x0, 0x0, 0x3, 0x0, 64, false⟩
def Reg.SKY_MAP_STATUS : Reg := ⟨0x700030, 0x0, 1, 0x0, 1, 0x0, 0x0, 0x20000000, 0x0, 0x0, 64, false⟩
def Reg.SKY_MAP_ERR_ADDR : Reg := ⟨0x700034, 0x0, 1, 0x0, 1, 0x0, 0x0, 0x0, 0x0, 0x0, 64, false⟩
def Reg.SKY_ANNOUNCE : Reg := ⟨0x700038, 0x0, 1, 0x0, 1, 0x0, 0x0, 0x0, 0x0, 0x0, 64, false⟩
def Reg.SKY_ANNOUNCE_APPLY_LO : Reg := ⟨0x70003c, 0x0, 1, 0x0, 1, 0x0, 0x0, 0x0, 0x0, 0x0, 64, false⟩
def Reg.SKY_ANNOUNCE_APPLY_HI : Reg := ⟨0x700040, 0x0, 1, 0x0, 1, 0x0, 0x0, 0x0, 0x0, 0x0, 64, false⟩
def Reg.SKY_LANE_EN : Reg := ⟨0x700060, 0x4, 8, 0x0, 1, 0xffffffff, 0xffffffff, 0x0, 0x0, 0x0, 64, true⟩
def Reg.SKY_PLANE_OFFSET : Reg := ⟨0x700400, 0x4, 256, 0x0, 1, 0x0, 0x7f, 0x0, 0x0, 0x0, 64, false⟩
def Reg.SKY_PEER : Reg := ⟨0x701000, 0x4, 128, 0x0, 1, 0x0, 0x0, 0x0, 0x0, 0x0, 64, false⟩
def Reg.SKY_MAP_BANK : Reg := ⟨0x710000, 0x10000, 2, 0x4, 16384, 0xffffffff, 0xffffffff, 0x0, 0x0, 0x0, 64, false⟩
def Reg.SKY_FRAME_CFG : Reg := ⟨0x730000, 0x0, 1, 0x0, 1, 0xf0101, 0xffff01, 0x0, 0x0, 0x0, 64, false⟩
def Reg.SKY_DESKEW_CFG : Reg := ⟨0x730004, 0x0, 1, 0x0, 1, 0x7d0, 0x7ff, 0x0, 0x0, 0x0, 64, false⟩
def Reg.SKY_TRACE_OWN : Reg := ⟨0x730100, 0x4, 14, 0x0, 1, 0x0, 0xffffffff, 0x0, 0x0, 0x0, 64, false⟩
def Reg.SKY_STRANGER_SRC : Reg := ⟨0x730200, 0x4, 4, 0x0, 1, 0x0, 0x0, 0x0, 0x0, 0x0, 64, false⟩
def Reg.SKY_LANE_ALARM : Reg := ⟨0x730400, 0x4, 256, 0x0, 1, 0x0, 0x0, 0x6, 0x0, 0x0, 64, false⟩
def Reg.SKY_TRACE_EXP : Reg := ⟨0x732000, 0x40, 128, 0x4, 14, 0x0, 0xffffffff, 0x0, 0x0, 0x0, 64, false⟩
def Reg.SKY_RELAY_CFG : Reg := ⟨0x740000, 0x0, 1, 0x0, 1, 0x4100040, 0x8cf0ffff, 0x0, 0x0, 0x0, 64, false⟩
def Reg.SKY_RELAY_LIMIT : Reg := ⟨0x740004, 0x0, 1, 0x0, 1, 0x8000200, 0xffffffff, 0x0, 0x0, 0x0, 64, false⟩
def Reg.SKY_RESEQ_CFG : Reg := ⟨0x740008, 0x0, 1, 0x0, 1, 0x4000040, 0xffff07ff, 0x0, 0x0, 0x0, 64, false⟩
def Reg.SKY_JOIN_EPOCH_LO : Reg := ⟨0x740010, 0x0, 1, 0x0, 1, 0x0, 0x0, 0x0, 0x0, 0x0, 64, false⟩
def Reg.SKY_JOIN_EPOCH_HI : Reg := ⟨0x740014, 0x0, 1, 0x0, 1, 0x0, 0x0, 0x0, 0x0, 0x0, 64, false⟩
def Reg.SKY_LANE_FAULT : Reg := ⟨0x740020, 0x4, 8, 0x0, 1, 0x0, 0x0, 0xffffffff, 0x0, 0x0, 64, false⟩
def Reg.SKY_LANE_RXLOS : Reg := ⟨0x740040, 0x4, 8, 0x0, 1, 0x0, 0x0, 0x0, 0x0, 0x0, 64, false⟩
def Reg.SKY_CREDIT_HELD : Reg := ⟨0x740400, 0x4, 128, 0x0, 1, 0x0, 0x0, 0x0, 0x0, 0x0, 64, false⟩
def Reg.SKY_RELAY_OUT : Reg := ⟨0x740600, 0x4, 128, 0x0, 1, 0x0, 0x0, 0x0, 0x0, 0x0, 64, false⟩
def Reg.SKY_SEQ_NEXT : Reg := ⟨0x748000, 0x20, 128, 0x4, 8, 0x0, 0x0, 0x0, 0x0, 0x0, 64, false⟩
def Reg.SKYT_TIME_LO : Reg := ⟨0x800000, 0x0, 1, 0x0, 1, 0x0, 0x0, 0x0, 0x0, 0x0, 64, false⟩
def Reg.SKYT_TIME_HI : Reg := ⟨0x800004, 0x0, 1, 0x0, 1, 0x0, 0x0, 0x0, 0x0, 0x0, 64, false⟩
def Reg.SKYT_STATUS : Reg := ⟨0x800008, 0x0, 1, 0x0, 1, 0x0, 0x0, 0xc000000, 0x0, 0x0, 64, false⟩
def Reg.SKYT_RATE : Reg := ⟨0x80000c, 0x0, 1, 0x0, 1, 0x0, 0x0, 0x0, 0x0, 0x0, 64, false⟩
def Reg.SKYT_OFFSET : Reg := ⟨0x800010, 0x0, 1, 0x0, 1, 0x0, 0x0, 0x0, 0x0, 0x0, 64, false⟩
def Reg.SKYT_SERVO : Reg := ⟨0x800014, 0x0, 1, 0x0, 1, 0x24a014, 0xfff0ff, 0x0, 0x0, 0x0, 64, false⟩
def Reg.SKYT_LULL_CFG : Reg := ⟨0x800018, 0x0, 1, 0x0, 1, 0xc8, 0xff, 0x0, 0x0, 0x0, 64, false⟩
def Reg.SKYT_CAND : Reg := ⟨0x80001c, 0x0, 1, 0x0, 1, 0x0, 0x3, 0x0, 0x0, 0x0, 64, true⟩
def Reg.SKYT_LEASE : Reg := ⟨0x800020, 0x0, 1, 0x0, 1, 0x0, 0x0, 0x0, 0x0, 0x0, 64, false⟩
def Reg.SKYT_LEASE_END_LO : Reg := ⟨0x800024, 0x0, 1, 0x0, 1, 0x0, 0x0, 0x0, 0x0, 0x0, 64, false⟩
def Reg.SKYT_LEASE_END_HI : Reg := ⟨0x800028, 0x0, 1, 0x0, 1, 0x0, 0x0, 0x0, 0x0, 0x0, 64, false⟩
def Reg.SKYT_DIAG_CFG : Reg := ⟨0x80002c, 0x0, 1, 0x0, 1, 0x80064, 0xffffff, 0x0, 0x0, 0x0, 64, false⟩
def Reg.SKYT_DIAG_STATUS : Reg := ⟨0x800030, 0x0, 1, 0x0, 1, 0x0, 0x0, 0x0, 0x0, 0x0, 64, false⟩
def Reg.SKYT_STEP_LO : Reg := ⟨0x800034, 0x0, 1, 0x0, 1, 0x0, 0xffffffff, 0x0, 0x0, 0x0, 64, false⟩
def Reg.SKYT_STEP_HI : Reg := ⟨0x800038, 0x0, 1, 0x0, 1, 0x0, 0xffffffff, 0x0, 0x0, 0x0, 64, false⟩
def Reg.SKYT_STEP_CTRL : Reg := ⟨0x80003c, 0x0, 1, 0x0, 1, 0x0, 0x0, 0x0, 0x1, 0x0, 64, true⟩
def Reg.SKYT_TAI_OFFSET_LO : Reg := ⟨0x800040, 0x0, 1, 0x0, 1, 0x0, 0xffffffff, 0x0, 0x0, 0x0, 64, false⟩
def Reg.SKYT_TAI_OFFSET_HI : Reg := ⟨0x800044, 0x0, 1, 0x0, 1, 0x0, 0xffffffff, 0x0, 0x0, 0x0, 64, false⟩
def Reg.SKYT_LANE_DELAY_CFG : Reg := ⟨0x810000, 0x4, 256, 0x0, 1, 0x0, 0xffffff, 0x0, 0x0, 0x0, 64, false⟩
def Reg.SKYT_LANE_DELAY : Reg := ⟨0x810400, 0x4, 256, 0x0, 1, 0x0, 0x0, 0x0, 0x0, 0x0, 64, false⟩
def Reg.HOST_NOTIFY_CFG : Reg := ⟨0x900000, 0x0, 1, 0x0, 1, 0x0, 0x77, 0x0, 0x0, 0x0, 64, false⟩
def Reg.HOST_WIN_CFG : Reg := ⟨0x901000, 0x20, 16, 0x0, 1, 0xc, 0xc000003f, 0x0, 0x0, 0x0, 64, false⟩
def Reg.HOST_WIN_BASE_LO : Reg := ⟨0x901004, 0x20, 16, 0x0, 1, 0x0, 0xffffffff, 0x0, 0x0, 0x0, 64, false⟩
def Reg.HOST_WIN_BASE_HI : Reg := ⟨0x901008, 0x20, 16, 0x0, 1, 0x0, 0xffffffff, 0x0, 0x0, 0x0, 64, false⟩
def Reg.HOST_WIN_XLATE_LO : Reg := ⟨0x90100c, 0x20, 16, 0x0, 1, 0x0, 0xffffffff, 0x0, 0x0, 0x0, 64, false⟩
def Reg.HOST_WIN_XLATE_HI : Reg := ⟨0x901010, 0x20, 16, 0x0, 1, 0x0, 0xffffffff, 0x0, 0x0, 0x0, 64, false⟩
def Reg.HOST_RING_BASE_LO : Reg := ⟨0x910000, 0x40, 172, 0x0, 1, 0x0, 0xffffffff, 0x0, 0x0, 0x0, 64, false⟩
def Reg.HOST_RING_BASE_HI : Reg := ⟨0x910004, 0x40, 172, 0x0, 1, 0x0, 0xffffffff, 0x0, 0x0, 0x0, 64, false⟩
def Reg.HOST_RING_CFG : Reg := ⟨0x910008, 0x40, 172, 0x0, 1, 0x60000, 0x1ff000, 0x0, 0x0, 0x0, 64, false⟩
def Reg.HOST_RING_CTRL : Reg := ⟨0x91000c, 0x40, 172, 0x0, 1, 0x0, 0x1, 0x0, 0x0, 0x0, 64, false⟩
def Reg.HOST_RING_STATUS : Reg := ⟨0x910010, 0x40, 172, 0x0, 1, 0x0, 0x0, 0x10000000, 0x0, 0x0, 64, false⟩
def Reg.HOST_RING_HEAD : Reg := ⟨0x910014, 0x40, 172, 0x0, 1, 0x0, 0xffffffff, 0x0, 0x0, 0x0, 64, false⟩
def Reg.HOST_RING_TAIL : Reg := ⟨0x910018, 0x40, 172, 0x0, 1, 0x0, 0xffffffff, 0x0, 0x0, 0x0, 64, false⟩
def Reg.HOST_RING_WB_LO : Reg := ⟨0x91001c, 0x40, 172, 0x0, 1, 0x0, 0xffffffff, 0x0, 0x0, 0x0, 64, false⟩
def Reg.HOST_RING_WB_HI : Reg := ⟨0x910020, 0x40, 172, 0x0, 1, 0x0, 0xffffffff, 0x0, 0x0, 0x0, 64, false⟩
def Reg.HOST_IRQ_CFG : Reg := ⟨0x910024, 0x40, 172, 0x0, 1, 0x80002010, 0x800ffcff, 0x0, 0x0, 0x0, 64, false⟩
def Reg.HOST_CPL_BASE_LO : Reg := ⟨0x920000, 0x20, 160, 0x0, 1, 0x0, 0xffffffff, 0x0, 0x0, 0x0, 64, false⟩
def Reg.HOST_CPL_BASE_HI : Reg := ⟨0x920004, 0x20, 160, 0x0, 1, 0x0, 0xffffffff, 0x0, 0x0, 0x0, 64, false⟩
def Reg.HOST_CPL_CFG : Reg := ⟨0x920008, 0x20, 160, 0x0, 1, 0x6, 0x1f, 0x0, 0x0, 0x0, 64, false⟩
def Reg.HOST_CPL_HEAD : Reg := ⟨0x92000c, 0x20, 160, 0x0, 1, 0x0, 0xffffffff, 0x0, 0x0, 0x0, 64, false⟩
def Reg.HOST_CPL_TAIL : Reg := ⟨0x920010, 0x20, 160, 0x0, 1, 0x0, 0xffffffff, 0x0, 0x0, 0x0, 64, false⟩
def Reg.HOST_CPL_WB_LO : Reg := ⟨0x920014, 0x20, 160, 0x0, 1, 0x0, 0xffffffff, 0x0, 0x0, 0x0, 64, false⟩
def Reg.HOST_CPL_WB_HI : Reg := ⟨0x920018, 0x20, 160, 0x0, 1, 0x0, 0xffffffff, 0x0, 0x0, 0x0, 64, false⟩
def Reg.HOST_CPL_STATUS : Reg := ⟨0x92001c, 0x20, 160, 0x0, 1, 0x0, 0x0, 0x0, 0x0, 0x0, 64, false⟩
def Reg.HOST_DB : Reg := ⟨0x930000, 0x4, 172, 0x0, 1, 0x0, 0x0, 0x0, 0xffffffff, 0x0, 64, false⟩
def Reg.HOST_CPL_DB : Reg := ⟨0x931000, 0x4, 160, 0x0, 1, 0x0, 0x0, 0x0, 0xffffffff, 0x0, 64, false⟩
def Reg.MIR_SESSION_CFG : Reg := ⟨0xa00000, 0x10, 16, 0x0, 1, 0x1e000, 0xbfefff00, 0x0, 0x0, 0x0, 7, false⟩
def Reg.MIR_SESSION_DEST : Reg := ⟨0xa00004, 0x10, 16, 0x0, 1, 0x0, 0x3fffbf, 0x0, 0x0, 0x0, 7, false⟩
def Reg.MIR_SAMPLE_CFG : Reg := ⟨0xa00100, 0x0, 1, 0x0, 1, 0xa, 0x8000001f, 0x0, 0x0, 0x0, 7, false⟩
def Reg.MIR_PORT_CFG : Reg := ⟨0xa10000, 0x4, 256, 0x0, 1, 0x0, 0xffc00000, 0x0, 0x0, 0x0, 7, false⟩
def Reg.HLT_CFG : Reg := ⟨0xb00000, 0x0, 1, 0x0, 1, 0x1, 0x1, 0x0, 0x2, 0x0, 64, false⟩
def Reg.HLT_LEDGER_STATUS : Reg := ⟨0xb00004, 0x0, 1, 0x0, 1, 0x0, 0x0, 0x80000000, 0x0, 0x0, 64, false⟩
def Reg.HLT_WIN_CFG : Reg := ⟨0xb00100, 0x4, 32, 0x0, 1, 0x803e8, 0xffffff, 0x0, 0x0, 0x0, 64, false⟩
def Reg.HLT_WIN_STATUS : Reg := ⟨0xb00200, 0x4, 32, 0x0, 1, 0x0, 0x0, 0x0, 0x0, 0x0, 64, false⟩
def Reg.HLT_WIN_LANES : Reg := ⟨0xb00300, 0x20, 2, 0x4, 8, 0x0, 0x0, 0x0, 0x0, 0x0, 64, false⟩
def Reg.CTL_RING_OWNER : Reg := ⟨0x1000000, 0x0, 1, 0x0, 1, 0x0, 0x1, 0x0, 0x0, 0x0, 64, true⟩
def Reg.CTL_PCIE_STATUS : Reg := ⟨0x1000004, 0x0, 1, 0x0, 1, 0x0, 0x0, 0x0, 0x0, 0x0, 64, false⟩
def Reg.CTL_INT_ROUTE : Reg := ⟨0x1010000, 0x4, 256, 0x0, 1, 0x0, 0x8000001f, 0x0, 0x0, 0x0, 64, false⟩
def Reg.CTL_INT_PEND : Reg := ⟨0x1010400, 0x4, 8, 0x0, 1, 0x0, 0x0, 0xffffffff, 0x0, 0x0, 64, false⟩
def Reg.IDL_STATUS : Reg := ⟨0x1100000, 0x0, 1, 0x0, 1, 0x0, 0x0, 0x0, 0x0, 0x0, 64, false⟩
def Reg.IDL_ARB_CFG : Reg := ⟨0x1100004, 0x0, 1, 0x0, 1, 0x301, 0xffff, 0x0, 0x0, 0x0, 64, false⟩
def Reg.IDL_POL_CFG : Reg := ⟨0x1100020, 0x4, 5, 0x0, 1, 0x0, 0xffffffff, 0x0, 0x0, 0x0, 64, true⟩
def Reg.IDL_CREDIT : Reg := ⟨0x1100040, 0x4, 6, 0x0, 1, 0x0, 0x0, 0x0, 0x0, 0x0, 64, false⟩
def Reg.PWR_STATUS : Reg := ⟨0x1200000, 0x0, 1, 0x0, 1, 0x0, 0x0, 0x0, 0x0, 0x0, 64, false⟩
def Reg.PWR_SLOW_STATUS : Reg := ⟨0x1200004, 0x0, 1, 0x0, 1, 0x0, 0x0, 0x40000000, 0x0, 0x0, 64, false⟩
def Reg.PWR_INPUT : Reg := ⟨0x1200008, 0x0, 1, 0x0, 1, 0x0, 0x0, 0x0, 0x0, 0x0, 64, false⟩
def Reg.PWR_THERMAL : Reg := ⟨0x120000c, 0x0, 1, 0x0, 1, 0x0, 0x0, 0x0, 0x0, 0x0, 64, false⟩
def Reg.PWR_SHED_ORDER : Reg := ⟨0x1200100, 0x4, 8, 0x0, 1, 0x0, 0x0, 0x0, 0x0, 0x0, 64, false⟩
def Reg.PWR_SENSOR : Reg := ⟨0x1200200, 0x4, 32, 0x0, 1, 0x0, 0x0, 0x0, 0x0, 0x0, 64, false⟩
def Reg.PWR_RAIL_SET : Reg := ⟨0x1210000, 0x4, 32, 0x0, 1, 0x0, 0xffff, 0x0, 0x0, 0x0, 64, true⟩
def Reg.PWR_RAIL_MEAS : Reg := ⟨0x1210100, 0x4, 32, 0x0, 1, 0x0, 0x0, 0x0, 0x0, 0x0, 64, false⟩
def Reg.KEEP_MBOX_DATA : Reg := ⟨0x1300000, 0x100, 2, 0x4, 16, 0x0, 0xffffffff, 0x0, 0x0, 0x0, 64, false⟩
def Reg.KEEP_MBOX_CMD : Reg := ⟨0x1300040, 0x100, 2, 0x0, 1, 0x0, 0xff, 0x0, 0x80000000, 0x0, 64, false⟩
def Reg.KEEP_STATUS : Reg := ⟨0x1300200, 0x0, 1, 0x0, 1, 0x0, 0x0, 0x0, 0x0, 0x0, 64, false⟩
def Reg.KEEP_CFG : Reg := ⟨0x1300204, 0x0, 1, 0x0, 1, 0x3, 0x3, 0x0, 0x0, 0x0, 64, true⟩
def Reg.NVM_SLOT_STATUS : Reg := ⟨0x1400000, 0x0, 1, 0x0, 1, 0x0, 0x0, 0x0, 0x0, 0x0, 64, false⟩
def Reg.NVM_BOOT_SEL : Reg := ⟨0x1400004, 0x0, 1, 0x0, 1, 0x25800, 0xffff04, 0x0, 0x0, 0x0, 64, false⟩
def Reg.NVM_CMD : Reg := ⟨0x1400008, 0x0, 1, 0x0, 1, 0x0, 0x0, 0x0, 0xffff, 0x0, 64, false⟩
def Reg.NVM_STATUS : Reg := ⟨0x140000c, 0x0, 1, 0x0, 1, 0x0, 0x0, 0x60000000, 0x0, 0x0, 64, false⟩
def Reg.NVM_FLASH_ADDR_LO : Reg := ⟨0x1400010, 0x0, 1, 0x0, 1, 0x0, 0xffffffff, 0x0, 0x0, 0x0, 64, false⟩
def Reg.NVM_FLASH_ADDR_HI : Reg := ⟨0x1400014, 0x0, 1, 0x0, 1, 0x0, 0xffffffff, 0x0, 0x0, 0x0, 64, false⟩
def Reg.NVM_HOST_ADDR_LO : Reg := ⟨0x1400018, 0x0, 1, 0x0, 1, 0x0, 0xffffffff, 0x0, 0x0, 0x0, 64, false⟩
def Reg.NVM_HOST_ADDR_HI : Reg := ⟨0x140001c, 0x0, 1, 0x0, 1, 0x0, 0xffffffff, 0x0, 0x0, 0x0, 64, false⟩
def Reg.NVM_LEN : Reg := ⟨0x1400020, 0x0, 1, 0x0, 1, 0x0, 0xffffffff, 0x0, 0x0, 0x0, 64, false⟩
def Reg.SYS_ID : Reg := ⟨0x0, 0x0, 1, 0x0, 1, 0x20481000, 0x0, 0x0, 0x0, 0x0, 64, false⟩
def Reg.SYS_SERIAL_LO : Reg := ⟨0x4, 0x0, 1, 0x0, 1, 0x0, 0x0, 0x0, 0x0, 0x0, 64, false⟩
def Reg.SYS_SERIAL_HI : Reg := ⟨0x8, 0x0, 1, 0x0, 1, 0x0, 0x0, 0x0, 0x0, 0x0, 64, false⟩
def Reg.SYS_RUN_STATE : Reg := ⟨0xc, 0x0, 1, 0x0, 1, 0x0, 0x0, 0x0, 0x0, 0x0, 64, false⟩
def Reg.SYS_KEY : Reg := ⟨0x10, 0x0, 1, 0x0, 1, 0x0, 0x0, 0x0, 0xffffffff, 0x0, 64, false⟩
def Reg.SYS_ACCESS_FAULT : Reg := ⟨0x14, 0x0, 1, 0x0, 1, 0x0, 0x0, 0x80000000, 0x0, 0x0, 64, false⟩
def Reg.SYS_ACCESS_FAULT_ADDR : Reg := ⟨0x18, 0x0, 1, 0x0, 1, 0x0, 0x0, 0x0, 0x0, 0x0, 64, false⟩
def Reg.SYS_UPDATE_PENDING : Reg := ⟨0x20, 0x0, 1, 0x0, 1, 0x0, 0x0, 0x0, 0x0, 0x0, 64, false⟩
def Reg.SYS_UPDATE_PENDING_HI : Reg := ⟨0x24, 0x0, 1, 0x0, 1, 0x0, 0x0, 0x0, 0x0, 0x0, 64, false⟩
def Reg.SYS_UPDATE_STROBE_HI : Reg := ⟨0x28, 0x0, 1, 0x0, 1, 0x0, 0x0, 0x0, 0xffffffff, 0x0, 64, false⟩
def Reg.SYS_UPDATE_STROBE : Reg := ⟨0x2c, 0x0, 1, 0x0, 1, 0x0, 0x0, 0x0, 0xffffffff, 0x0, 64, false⟩
def Reg.SYS_SNAP_CTRL : Reg := ⟨0x30, 0x0, 1, 0x0, 1, 0x0, 0x4, 0x0, 0x3, 0x0, 64, false⟩
def Reg.SYS_SNAP_STATUS : Reg := ⟨0x34, 0x0, 1, 0x0, 1, 0x0, 0x0, 0x0, 0x0, 0x0, 64, false⟩
def Reg.SYS_PLANE_CTRL : Reg := ⟨0x38, 0x0, 1, 0x0, 1, 0x0, 0x0, 0x0, 0x3, 0x0, 64, false⟩
def Reg.SYS_PLANE_STATE : Reg := ⟨0x3c, 0x0, 1, 0x0, 1, 0x0, 0x0, 0x0, 0x0, 0x0, 64, false⟩
def Reg.SYS_RESET_CTRL : Reg := ⟨0x40, 0x0, 1, 0x0, 1, 0x0, 0x0, 0x0, 0x1f0007, 0x0, 64, true⟩
def Reg.SYS_RESET_STATUS : Reg := ⟨0x44, 0x0, 1, 0x0, 1, 0x0, 0x0, 0x0, 0x0, 0x0, 64, false⟩
def Reg.SYS_FUSE_CTRL : Reg := ⟨0x48, 0x0, 1, 0x0, 1, 0x0, 0x0, 0x0, 0x8000001f, 0x0, 64, true⟩
def Reg.SYS_FUSE_STATUS : Reg := ⟨0x4c, 0x0, 1, 0x0, 1, 0x0, 0x0, 0x40000000, 0x0, 0x0, 64, false⟩
def Reg.SYS_FUSE_USER : Reg := ⟨0x50, 0x0, 1, 0x0, 1, 0x0, 0x0, 0x0, 0x0, 0x0, 64, false⟩
def Reg.OPT_SLOW_STATUS : Reg := ⟨0xc00000, 0x0, 1, 0x0, 1, 0x0, 0x0, 0x40000000, 0x0, 0x0, 64, false⟩
def Reg.OPT_ENGINE_TEMP : Reg := ⟨0xc00100, 0x4, 32, 0x0, 1, 0x0, 0x0, 0x0, 0x0, 0x0, 64, false⟩
def Reg.OPT_LANE_BIAS : Reg := ⟨0xc10000, 0x4, 512, 0x0, 1, 0x320, 0xc0000fff, 0x0, 0x0, 0x0, 64, true⟩
def Reg.OPT_LANE_MON : Reg := ⟨0xc10800, 0x4, 512, 0x0, 1, 0x80008000, 0x0, 0x0, 0x0, 0x0, 64, false⟩
def Reg.all0 : List Reg :=
  [Reg.LEAF_GROUP_CFG, Reg.LEAF_GROUP_CTRL, Reg.LEAF_GROUP_STATUS, Reg.LEAF_PORT_CFG,
   Reg.LEAF_PORT_STATUS, Reg.LEAF_PFC_CFG, Reg.LEAF_PAUSE_WD_CFG, Reg.LEAF_PAUSE_STATUS,
   Reg.LEAF_CT_STATUS, Reg.LEAF_DOZE_CTRL, Reg.LEAF_WAKE_PAT_LO, Reg.LEAF_WAKE_PAT_HI,
   Reg.LEAF_FLAP_CFG, Reg.LEAF_PFC_THRESH, Reg.PARSE_CFG, Reg.PARSE_MAL_ACT]
def Reg.all1 : List Reg :=
  [Reg.PARSE_TUNNEL_CFG, Reg.PARSE_HASH_CFG, Reg.PARSE_HASH_SEED, Reg.PARSE_DSCP_MAP,
   Reg.PARSE_NODE_A, Reg.PARSE_NODE_B, Reg.PARSE_TRANS_A, Reg.PARSE_TRANS_B,
   Reg.PARSE_EXTRACT, Reg.PARSE_PORT_CFG, Reg.PARSE_PCP_MAP, Reg.TBL_ROUTER_MAC_LO,
   Reg.TBL_ROUTER_MAC_HI, Reg.TBL_MISS_CFG, Reg.TBL_LEARN_CFG, Reg.TBL_LEARN_STATUS]
def Reg.all2 : List Reg :=
  [Reg.TBL_AGE_CFG, Reg.TBL_AGE_STATUS, Reg.TBL_LAYOUT_SEL, Reg.TBL_CLEAR_CTRL,
   Reg.TBL_CLEAR_BASE, Reg.TBL_CLEAR_COUNT, Reg.TBL_PORT_CFG, Reg.TBL_LAYOUT_SEED,
   Reg.TBL_LAYOUT_GEOM, Reg.TBL_LPM_REGION, Reg.XBAR_CFG, Reg.XBAR_RESEQ_CFG,
   Reg.XBAR_PLANE_CTRL, Reg.XBAR_PLANE_STATUS, Reg.XBAR_PLANE_FAULT, Reg.BUF_CFG]
def Reg.all3 : List Reg :=
  [Reg.BUF_SPILL_THRESH, Reg.BUF_SCRUB_CFG, Reg.BUF_SCRUB_STATUS, Reg.BUF_RETIRE_STATUS,
   Reg.BUF_CARVE_CTRL, Reg.BUF_CARVE_STATUS, Reg.BUF_CARVE_TILES, Reg.BUF_POOL_FREE,
   Reg.BUF_POOL_ALLOC, Reg.BUF_POOL_QUAR, Reg.BUF_POOL_RSV, Reg.BUF_RETIRE,
   Reg.TM_CFG, Reg.TM_WX_CFG, Reg.TM_WX_STATUS, Reg.TM_WX_LOG_BASE]
def Reg.all4 : List Reg :=
  [Reg.TM_WX_LOG_SIZE, Reg.TM_DEST_QMAP, Reg.TM_RELAY_CFG, Reg.TM_DEST_LIMIT,
   Reg.TM_SKY_CLASS_CFG, Reg.TM_QPROF_LIMIT, Reg.TM_QPROF_MARK, Reg.TM_WX_WATCH,
   Reg.TM_PORT_SCHED, Reg.TM_LEAF_QMAP, Reg.TM_PORT_SHAPER_A, Reg.TM_PORT_SHAPER_B,
   Reg.TM_PORT_SHAPER_C, Reg.TM_PORT_SHAPER_D, Reg.TM_PORT_CREDIT, Reg.TM_CLASS_QUANTUM]
def Reg.all5 : List Reg :=
  [Reg.TM_Q_SHAPER_A, Reg.TM_Q_SHAPER_B, Reg.TM_Q_SHAPER_C, Reg.TM_Q_SHAPER_D,
   Reg.TM_Q_CREDIT, Reg.TM_Q_DEPTH, Reg.TM_POL_A, Reg.TM_POL_B,
   Reg.SKY_CFG, Reg.SKY_CTRL, Reg.SKY_TX_EN, Reg.SKY_STATE,
   Reg.SKY_EPOCH_LO, Reg.SKY_EPOCH_HI, Reg.SKY_PEER_CFG, Reg.SKY_MAP_ARM]
def Reg.all6 : List Reg :=
  [Reg.SKY_MAP_APPLY_LO, Reg.SKY_MAP_APPLY_HI, Reg.SKY_MAP_CTRL, Reg.SKY_MAP_STATUS,
   Reg.SKY_MAP_ERR_ADDR, Reg.SKY_ANNOUNCE, Reg.SKY_ANNOUNCE_APPLY_LO, Reg.SKY_ANNOUNCE_APPLY_HI,
   Reg.SKY_LANE_EN, Reg.SKY_PLANE_OFFSET, Reg.SKY_PEER, Reg.SKY_MAP_BANK,
   Reg.SKY_FRAME_CFG, Reg.SKY_DESKEW_CFG, Reg.SKY_TRACE_OWN, Reg.SKY_STRANGER_SRC]
def Reg.all7 : List Reg :=
  [Reg.SKY_LANE_ALARM, Reg.SKY_TRACE_EXP, Reg.SKY_RELAY_CFG, Reg.SKY_RELAY_LIMIT,
   Reg.SKY_RESEQ_CFG, Reg.SKY_JOIN_EPOCH_LO, Reg.SKY_JOIN_EPOCH_HI, Reg.SKY_LANE_FAULT,
   Reg.SKY_LANE_RXLOS, Reg.SKY_CREDIT_HELD, Reg.SKY_RELAY_OUT, Reg.SKY_SEQ_NEXT,
   Reg.SKYT_TIME_LO, Reg.SKYT_TIME_HI, Reg.SKYT_STATUS, Reg.SKYT_RATE]
def Reg.all8 : List Reg :=
  [Reg.SKYT_OFFSET, Reg.SKYT_SERVO, Reg.SKYT_LULL_CFG, Reg.SKYT_CAND,
   Reg.SKYT_LEASE, Reg.SKYT_LEASE_END_LO, Reg.SKYT_LEASE_END_HI, Reg.SKYT_DIAG_CFG,
   Reg.SKYT_DIAG_STATUS, Reg.SKYT_STEP_LO, Reg.SKYT_STEP_HI, Reg.SKYT_STEP_CTRL,
   Reg.SKYT_TAI_OFFSET_LO, Reg.SKYT_TAI_OFFSET_HI, Reg.SKYT_LANE_DELAY_CFG, Reg.SKYT_LANE_DELAY]
def Reg.all9 : List Reg :=
  [Reg.HOST_NOTIFY_CFG, Reg.HOST_WIN_CFG, Reg.HOST_WIN_BASE_LO, Reg.HOST_WIN_BASE_HI,
   Reg.HOST_WIN_XLATE_LO, Reg.HOST_WIN_XLATE_HI, Reg.HOST_RING_BASE_LO, Reg.HOST_RING_BASE_HI,
   Reg.HOST_RING_CFG, Reg.HOST_RING_CTRL, Reg.HOST_RING_STATUS, Reg.HOST_RING_HEAD,
   Reg.HOST_RING_TAIL, Reg.HOST_RING_WB_LO, Reg.HOST_RING_WB_HI, Reg.HOST_IRQ_CFG]
def Reg.all10 : List Reg :=
  [Reg.HOST_CPL_BASE_LO, Reg.HOST_CPL_BASE_HI, Reg.HOST_CPL_CFG, Reg.HOST_CPL_HEAD,
   Reg.HOST_CPL_TAIL, Reg.HOST_CPL_WB_LO, Reg.HOST_CPL_WB_HI, Reg.HOST_CPL_STATUS,
   Reg.HOST_DB, Reg.HOST_CPL_DB, Reg.MIR_SESSION_CFG, Reg.MIR_SESSION_DEST,
   Reg.MIR_SAMPLE_CFG, Reg.MIR_PORT_CFG, Reg.HLT_CFG, Reg.HLT_LEDGER_STATUS]
def Reg.all11 : List Reg :=
  [Reg.HLT_WIN_CFG, Reg.HLT_WIN_STATUS, Reg.HLT_WIN_LANES, Reg.CTL_RING_OWNER,
   Reg.CTL_PCIE_STATUS, Reg.CTL_INT_ROUTE, Reg.CTL_INT_PEND, Reg.IDL_STATUS,
   Reg.IDL_ARB_CFG, Reg.IDL_POL_CFG, Reg.IDL_CREDIT, Reg.PWR_STATUS,
   Reg.PWR_SLOW_STATUS, Reg.PWR_INPUT, Reg.PWR_THERMAL, Reg.PWR_SHED_ORDER]
def Reg.all12 : List Reg :=
  [Reg.PWR_SENSOR, Reg.PWR_RAIL_SET, Reg.PWR_RAIL_MEAS, Reg.KEEP_MBOX_DATA,
   Reg.KEEP_MBOX_CMD, Reg.KEEP_STATUS, Reg.KEEP_CFG, Reg.NVM_SLOT_STATUS,
   Reg.NVM_BOOT_SEL, Reg.NVM_CMD, Reg.NVM_STATUS, Reg.NVM_FLASH_ADDR_LO,
   Reg.NVM_FLASH_ADDR_HI, Reg.NVM_HOST_ADDR_LO, Reg.NVM_HOST_ADDR_HI, Reg.NVM_LEN]
def Reg.all13 : List Reg :=
  [Reg.SYS_ID, Reg.SYS_SERIAL_LO, Reg.SYS_SERIAL_HI, Reg.SYS_RUN_STATE,
   Reg.SYS_KEY, Reg.SYS_ACCESS_FAULT, Reg.SYS_ACCESS_FAULT_ADDR, Reg.SYS_UPDATE_PENDING,
   Reg.SYS_UPDATE_PENDING_HI, Reg.SYS_UPDATE_STROBE_HI, Reg.SYS_UPDATE_STROBE, Reg.SYS_SNAP_CTRL,
   Reg.SYS_SNAP_STATUS, Reg.SYS_PLANE_CTRL, Reg.SYS_PLANE_STATE, Reg.SYS_RESET_CTRL]
def Reg.all14 : List Reg :=
  [Reg.SYS_RESET_STATUS, Reg.SYS_FUSE_CTRL, Reg.SYS_FUSE_STATUS, Reg.SYS_FUSE_USER,
   Reg.OPT_SLOW_STATUS, Reg.OPT_ENGINE_TEMP, Reg.OPT_LANE_BIAS, Reg.OPT_LANE_MON]

/-- Every register, in the order of the index. -/
def Reg.all : List Reg :=
  List.flatten [Reg.all0, Reg.all1, Reg.all2, Reg.all3, Reg.all4, Reg.all5, Reg.all6, Reg.all7, Reg.all8, Reg.all9, Reg.all10, Reg.all11, Reg.all12, Reg.all13, Reg.all14]

/-- A field of a register: bits [hi:lo]. -/
structure Fld where
  reg : Reg
  hi : Nat
  lo : Nat
  deriving DecidableEq, Repr

def Fld.LEAF_GROUP_CFG_MODE : Fld := ⟨.LEAF_GROUP_CFG, 2, 1⟩
def Fld.LEAF_GROUP_CFG_LANE_RATE : Fld := ⟨.LEAF_GROUP_CFG, 0, 0⟩
def Fld.LEAF_GROUP_CTRL_RESTART : Fld := ⟨.LEAF_GROUP_CTRL, 0, 0⟩
def Fld.LEAF_GROUP_STATUS_CFG_ERR : Fld := ⟨.LEAF_GROUP_STATUS, 4, 4⟩
def Fld.LEAF_GROUP_STATUS_RESTARTING : Fld := ⟨.LEAF_GROUP_STATUS, 3, 3⟩
def Fld.LEAF_GROUP_STATUS_MODE_ACTIVE : Fld := ⟨.LEAF_GROUP_STATUS, 2, 1⟩
def Fld.LEAF_GROUP_STATUS_RATE_ACTIVE : Fld := ⟨.LEAF_GROUP_STATUS, 0, 0⟩
def Fld.LEAF_PORT_CFG_CT_START : Fld := ⟨.LEAF_PORT_CFG, 24, 20⟩
def Fld.LEAF_PORT_CFG_MAX_FRAME : Fld := ⟨.LEAF_PORT_CFG, 19, 6⟩
def Fld.LEAF_PORT_CFG_PAUSE_MODE : Fld := ⟨.LEAF_PORT_CFG, 5, 4⟩
def Fld.LEAF_PORT_CFG_CUT_THROUGH : Fld := ⟨.LEAF_PORT_CFG, 3, 3⟩
def Fld.LEAF_PORT_CFG_EN : Fld := ⟨.LEAF_PORT_CFG, 0, 0⟩
def Fld.LEAF_PORT_STATUS_ACTIVE : Fld := ⟨.LEAF_PORT_STATUS, 6, 6⟩
def Fld.LEAF_PORT_STATUS_LINK_UP : Fld := ⟨.LEAF_PORT_STATUS, 5, 5⟩
def Fld.LEAF_PORT_STATUS_FROZEN : Fld := ⟨.LEAF_PORT_STATUS, 4, 4⟩
def Fld.LEAF_PORT_STATUS_DOZING : Fld := ⟨.LEAF_PORT_STATUS, 3, 3⟩
def Fld.LEAF_PORT_STATUS_WAKING : Fld := ⟨.LEAF_PORT_STATUS, 2, 2⟩
def Fld.LEAF_PORT_STATUS_DOZE_REFUSED : Fld := ⟨.LEAF_PORT_STATUS, 1, 1⟩
def Fld.LEAF_PFC_CFG_QUANTA : Fld := ⟨.LEAF_PFC_CFG, 31, 16⟩
def Fld.LEAF_PFC_CFG_TX_EN : Fld := ⟨.LEAF_PFC_CFG, 15, 8⟩
def Fld.LEAF_PFC_CFG_RX_EN : Fld := ⟨.LEAF_PFC_CFG, 7, 0⟩
def Fld.LEAF_PAUSE_WD_CFG_PAUSE_WD_HOLDOFF : Fld := ⟨.LEAF_PAUSE_WD_CFG, 31, 16⟩
def Fld.LEAF_PAUSE_WD_CFG_PAUSE_WD_LIMIT : Fld := ⟨.LEAF_PAUSE_WD_CFG, 15, 0⟩
def Fld.LEAF_PAUSE_STATUS_WD_HOLDOFF : Fld := ⟨.LEAF_PAUSE_STATUS, 15, 8⟩
def Fld.LEAF_PAUSE_STATUS_PAUSED : Fld := ⟨.LEAF_PAUSE_STATUS, 7, 0⟩
def Fld.LEAF_CT_STATUS_CT_START_CUR : Fld := ⟨.LEAF_CT_STATUS, 4, 0⟩
def Fld.LEAF_DOZE_CTRL_WAKE : Fld := ⟨.LEAF_DOZE_CTRL, 1, 1⟩
def Fld.LEAF_DOZE_CTRL_DOZE : Fld := ⟨.LEAF_DOZE_CTRL, 0, 0⟩
def Fld.LEAF_WAKE_PAT_LO_PAT : Fld := ⟨.LEAF_WAKE_PAT_LO, 31, 0⟩
def Fld.LEAF_WAKE_PAT_HI_PAT : Fld := ⟨.LEAF_WAKE_PAT_HI, 31, 0⟩
def Fld.LEAF_FLAP_CFG_HOLD_MS : Fld := ⟨.LEAF_FLAP_CFG, 13, 0⟩
def Fld.LEAF_PFC_THRESH_XOFF : Fld := ⟨.LEAF_PFC_THRESH, 31, 16⟩
def Fld.LEAF_PFC_THRESH_XON : Fld := ⟨.LEAF_PFC_THRESH, 15, 0⟩
def Fld.PARSE_CFG_ING_START : Fld := ⟨.PARSE_CFG, 31, 24⟩
def Fld.PARSE_CFG_EGR_START : Fld := ⟨.PARSE_CFG, 23, 16⟩
def Fld.PARSE_CFG_L2_PROFILE : Fld := ⟨.PARSE_CFG, 15, 12⟩
def Fld.PARSE_CFG_MAL_RING : Fld := ⟨.PARSE_CFG, 11, 6⟩
def Fld.PARSE_MAL_ACT_ACTS : Fld := ⟨.PARSE_MAL_ACT, 31, 0⟩
def Fld.PARSE_TUNNEL_CFG_GENEVE_PORT : Fld := ⟨.PARSE_TUNNEL_CFG, 31, 16⟩
def Fld.PARSE_TUNNEL_CFG_VXLAN_PORT : Fld := ⟨.PARSE_TUNNEL_CFG, 15, 0⟩
def Fld.PARSE_HASH_CFG_NO_L4 : Fld := ⟨.PARSE_HASH_CFG, 21, 21⟩
def Fld.PARSE_HASH_CFG_INNER : Fld := ⟨.PARSE_HASH_CFG, 20, 20⟩
def Fld.PARSE_HASH_CFG_ROT_CAP : Fld := ⟨.PARSE_HASH_CFG, 19, 15⟩
def Fld.PARSE_HASH_CFG_ROT_RELAY : Fld := ⟨.PARSE_HASH_CFG, 14, 10⟩
def Fld.PARSE_HASH_CFG_ROT_LAG : Fld := ⟨.PARSE_HASH_CFG, 9, 5⟩
def Fld.PARSE_HASH_CFG_ROT_ECMP : Fld := ⟨.PARSE_HASH_CFG, 4, 0⟩
def Fld.PARSE_HASH_SEED_SEED : Fld := ⟨.PARSE_HASH_SEED, 31, 0⟩
def Fld.PARSE_DSCP_MAP_CLASSES : Fld := ⟨.PARSE_DSCP_MAP, 23, 0⟩
def Fld.PARSE_NODE_A_HDR_TYPE : Fld := ⟨.PARSE_NODE_A, 31, 24⟩
def Fld.PARSE_NODE_A_NEXT_DEFAULT : Fld := ⟨.PARSE_NODE_A, 23, 16⟩
def Fld.PARSE_NODE_A_END_DEFAULT : Fld := ⟨.PARSE_NODE_A, 15, 15⟩
def Fld.PARSE_NODE_A_PROFILE : Fld := ⟨.PARSE_NODE_A, 14, 11⟩
def Fld.PARSE_NODE_A_SEL_OFF : Fld := ⟨.PARSE_NODE_A, 10, 5⟩
def Fld.PARSE_NODE_A_LEN_VAR : Fld := ⟨.PARSE_NODE_A, 0, 0⟩
def Fld.PARSE_NODE_B_LEN_ADD : Fld := ⟨.PARSE_NODE_B, 31, 24⟩
def Fld.PARSE_NODE_B_LEN_MASK : Fld := ⟨.PARSE_NODE_B, 23, 16⟩
def Fld.PARSE_NODE_B_LEN_LSH : Fld := ⟨.PARSE_NODE_B, 15, 13⟩
def Fld.PARSE_NODE_B_LEN_RSH : Fld := ⟨.PARSE_NODE_B, 12, 10⟩
def Fld.PARSE_NODE_B_LEN_OFF : Fld := ⟨.PARSE_NODE_B, 9, 4⟩
def Fld.PARSE_TRANS_A_NODE : Fld := ⟨.PARSE_TRANS_A, 31, 24⟩
def Fld.PARSE_TRANS_A_NEXT : Fld := ⟨.PARSE_TRANS_A, 23, 16⟩
def Fld.PARSE_TRANS_A_END : Fld := ⟨.PARSE_TRANS_A, 15, 15⟩
def Fld.PARSE_TRANS_A_VALID : Fld := ⟨.PARSE_TRANS_A, 0, 0⟩
def Fld.PARSE_TRANS_B_VALUE : Fld := ⟨.PARSE_TRANS_B, 31, 16⟩
def Fld.PARSE_TRANS_B_MASK : Fld := ⟨.PARSE_TRANS_B, 15, 0⟩
def Fld.PARSE_EXTRACT_SRC : Fld := ⟨.PARSE_EXTRACT, 31, 30⟩
def Fld.PARSE_EXTRACT_INST : Fld := ⟨.PARSE_EXTRACT, 29, 28⟩
def Fld.PARSE_EXTRACT_TYPE : Fld := ⟨.PARSE_EXTRACT, 27, 20⟩
def Fld.PARSE_EXTRACT_OFF : Fld := ⟨.PARSE_EXTRACT, 19, 14⟩
def Fld.PARSE_PORT_CFG_TRUST : Fld := ⟨.PARSE_PORT_CFG, 4, 3⟩
def Fld.PARSE_PORT_CFG_DEFAULT_CLASS : Fld := ⟨.PARSE_PORT_CFG, 2, 0⟩
def Fld.PARSE_PCP_MAP_CLASSES : Fld := ⟨.PARSE_PCP_MAP, 23, 0⟩
def Fld.TBL_ROUTER_MAC_LO_MAC_LO : Fld := ⟨.TBL_ROUTER_MAC_LO, 31, 0⟩
def Fld.TBL_ROUTER_MAC_HI_MAC_HI : Fld := ⟨.TBL_ROUTER_MAC_HI, 15, 0⟩
def Fld.TBL_MISS_CFG_L2_ACT : Fld := ⟨.TBL_MISS_CFG, 31, 30⟩
def Fld.TBL_MISS_CFG_L3_ACT : Fld := ⟨.TBL_MISS_CFG, 29, 28⟩
def Fld.TBL_MISS_CFG_TTL1_ACT : Fld := ⟨.TBL_MISS_CFG, 27, 27⟩
def Fld.TBL_MISS_CFG_TRAP_RING : Fld := ⟨.TBL_MISS_CFG, 26, 21⟩
def Fld.TBL_MISS_CFG_MISS_NH : Fld := ⟨.TBL_MISS_CFG, 20, 1⟩
def Fld.TBL_LEARN_CFG_EN : Fld := ⟨.TBL_LEARN_CFG, 31, 31⟩
def Fld.TBL_LEARN_CFG_REMOTE_EN : Fld := ⟨.TBL_LEARN_CFG, 30, 30⟩
def Fld.TBL_LEARN_CFG_RING : Fld := ⟨.TBL_LEARN_CFG, 26, 24⟩
def Fld.TBL_LEARN_CFG_REMOTE_PVID : Fld := ⟨.TBL_LEARN_CFG, 23, 12⟩
def Fld.TBL_LEARN_CFG_HOLD_MS : Fld := ⟨.TBL_LEARN_CFG, 11, 0⟩
def Fld.TBL_LEARN_STATUS_CACHE_USED : Fld := ⟨.TBL_LEARN_STATUS, 14, 0⟩
def Fld.TBL_AGE_CFG_PERIOD_S : Fld := ⟨.TBL_AGE_CFG, 31, 16⟩
def Fld.TBL_AGE_CFG_MODE : Fld := ⟨.TBL_AGE_CFG, 3, 3⟩
def Fld.TBL_AGE_CFG_RING : Fld := ⟨.TBL_AGE_CFG, 2, 0⟩
def Fld.TBL_AGE_STATUS_ACTIVE : Fld := ⟨.TBL_AGE_STATUS, 31, 31⟩
def Fld.TBL_AGE_STATUS_POSITION : Fld := ⟨.TBL_AGE_STATUS, 23, 0⟩
def Fld.TBL_LAYOUT_SEL_ACTIVE : Fld := ⟨.TBL_LAYOUT_SEL, 0, 0⟩
def Fld.TBL_CLEAR_CTRL_START : Fld := ⟨.TBL_CLEAR_CTRL, 31, 31⟩
def Fld.TBL_CLEAR_CTRL_BUSY : Fld := ⟨.TBL_CLEAR_CTRL, 30, 30⟩
def Fld.TBL_CLEAR_CTRL_ERR : Fld := ⟨.TBL_CLEAR_CTRL, 29, 29⟩
def Fld.TBL_CLEAR_BASE_SLOT : Fld := ⟨.TBL_CLEAR_BASE, 23, 0⟩
def Fld.TBL_CLEAR_COUNT_COUNT : Fld := ⟨.TBL_CLEAR_COUNT, 23, 0⟩
def Fld.TBL_PORT_CFG_VRF : Fld := ⟨.TBL_PORT_CFG, 31, 22⟩
def Fld.TBL_PORT_CFG_PVID : Fld := ⟨.TBL_PORT_CFG, 21, 10⟩
def Fld.TBL_PORT_CFG_ROUTE_EN : Fld := ⟨.TBL_PORT_CFG, 9, 9⟩
def Fld.TBL_PORT_CFG_LEARN : Fld := ⟨.TBL_PORT_CFG, 8, 8⟩
def Fld.TBL_LAYOUT_SEED_SEED : Fld := ⟨.TBL_LAYOUT_SEED, 31, 0⟩
def Fld.TBL_LAYOUT_GEOM_BUCKETS_LOG2 : Fld := ⟨.TBL_LAYOUT_GEOM, 31, 27⟩
def Fld.TBL_LAYOUT_GEOM_BASE : Fld := ⟨.TBL_LAYOUT_GEOM, 19, 0⟩
def Fld.TBL_LPM_REGION_BUCKETS_LOG2 : Fld := ⟨.TBL_LPM_REGION, 31, 27⟩
def Fld.TBL_LPM_REGION_EN : Fld := ⟨.TBL_LPM_REGION, 26, 26⟩
def Fld.TBL_LPM_REGION_BASE : Fld := ⟨.TBL_LPM_REGION, 18, 0⟩
def Fld.XBAR_CFG_SKEW_LIMIT : Fld := ⟨.XBAR_CFG, 23, 16⟩
def Fld.XBAR_CFG_AGE_PRI : Fld := ⟨.XBAR_CFG, 15, 8⟩
def Fld.XBAR_CFG_ITER : Fld := ⟨.XBAR_CFG, 1, 0⟩
def Fld.XBAR_RESEQ_CFG_TIMEOUT_US : Fld := ⟨.XBAR_RESEQ_CFG, 10, 0⟩
def Fld.XBAR_PLANE_CTRL_PLANE_EN : Fld := ⟨.XBAR_PLANE_CTRL, 15, 0⟩
def Fld.XBAR_PLANE_STATUS_DRAINING : Fld := ⟨.XBAR_PLANE_STATUS, 31, 16⟩
def Fld.XBAR_PLANE_STATUS_IN_SERVICE : Fld := ⟨.XBAR_PLANE_STATUS, 15, 0⟩
def Fld.XBAR_PLANE_FAULT_AUTO_OUT : Fld := ⟨.XBAR_PLANE_FAULT, 15, 0⟩
def Fld.BUF_CFG_REFILL_RSV : Fld := ⟨.BUF_CFG, 23, 8⟩
def Fld.BUF_CFG_SPILL_EN : Fld := ⟨.BUF_CFG, 0, 0⟩
def Fld.BUF_SPILL_THRESH_ON_DIE_TILES : Fld := ⟨.BUF_SPILL_THRESH, 20, 0⟩
def Fld.BUF_SCRUB_CFG_PERIOD_S : Fld := ⟨.BUF_SCRUB_CFG, 31, 16⟩
def Fld.BUF_SCRUB_CFG_RELEASE_PASSES : Fld := ⟨.BUF_SCRUB_CFG, 7, 4⟩
def Fld.BUF_SCRUB_CFG_EN : Fld := ⟨.BUF_SCRUB_CFG, 0, 0⟩
def Fld.BUF_SCRUB_STATUS_ACTIVE : Fld := ⟨.BUF_SCRUB_STATUS, 31, 31⟩
def Fld.BUF_SCRUB_STATUS_POOL : Fld := ⟨.BUF_SCRUB_STATUS, 30, 28⟩
def Fld.BUF_SCRUB_STATUS_POSITION : Fld := ⟨.BUF_SCRUB_STATUS, 27, 0⟩
def Fld.BUF_RETIRE_STATUS_OVERFLOW : Fld := ⟨.BUF_RETIRE_STATUS, 31, 31⟩
def Fld.BUF_RETIRE_STATUS_USED : Fld := ⟨.BUF_RETIRE_STATUS, 10, 0⟩
def Fld.BUF_CARVE_CTRL_ERR : Fld := ⟨.BUF_CARVE_CTRL, 1, 1⟩
def Fld.BUF_CARVE_CTRL_START : Fld := ⟨.BUF_CARVE_CTRL, 0, 0⟩
def Fld.BUF_CARVE_STATUS_DONE : Fld := ⟨.BUF_CARVE_STATUS, 31, 31⟩
def Fld.BUF_CARVE_STATUS_BUSY : Fld := ⟨.BUF_CARVE_STATUS, 30, 30⟩
def Fld.BUF_CARVE_STATUS_SPILL_ACTIVE : Fld := ⟨.BUF_CARVE_STATUS, 29, 29⟩
def Fld.BUF_CARVE_STATUS_ERR_CODE : Fld := ⟨.BUF_CARVE_STATUS, 28, 24⟩
def Fld.BUF_CARVE_STATUS_META_GIB : Fld := ⟨.BUF_CARVE_STATUS, 23, 16⟩
def Fld.BUF_CARVE_STATUS_BUF_GIB : Fld := ⟨.BUF_CARVE_STATUS, 15, 8⟩
def Fld.BUF_CARVE_STATUS_TC_GIB : Fld := ⟨.BUF_CARVE_STATUS, 7, 0⟩
def Fld.BUF_CARVE_TILES_TILES : Fld := ⟨.BUF_CARVE_TILES, 27, 0⟩
def Fld.BUF_POOL_FREE_COUNT : Fld := ⟨.BUF_POOL_FREE, 31, 0⟩
def Fld.BUF_POOL_ALLOC_COUNT : Fld := ⟨.BUF_POOL_ALLOC, 31, 0⟩
def Fld.BUF_POOL_QUAR_COUNT : Fld := ⟨.BUF_POOL_QUAR, 31, 0⟩
def Fld.BUF_POOL_RSV_COUNT : Fld := ⟨.BUF_POOL_RSV, 31, 0⟩
def Fld.BUF_RETIRE_VALID : Fld := ⟨.BUF_RETIRE, 31, 31⟩
def Fld.BUF_RETIRE_ON_DIE : Fld := ⟨.BUF_RETIRE, 30, 30⟩
def Fld.BUF_RETIRE_INDEX : Fld := ⟨.BUF_RETIRE, 27, 0⟩
def Fld.TM_CFG_ECN_INNER : Fld := ⟨.TM_CFG, 0, 0⟩
def Fld.TM_WX_CFG_EN : Fld := ⟨.TM_WX_CFG, 31, 31⟩
def Fld.TM_WX_CFG_RING : Fld := ⟨.TM_WX_CFG, 26, 24⟩
def Fld.TM_WX_CFG_PERIOD_US : Fld := ⟨.TM_WX_CFG, 9, 0⟩
def Fld.TM_WX_STATUS_OVERCOMMIT : Fld := ⟨.TM_WX_STATUS, 31, 31⟩
def Fld.TM_WX_STATUS_LOG_ERR : Fld := ⟨.TM_WX_STATUS, 30, 30⟩
def Fld.TM_WX_STATUS_ACTIVE : Fld := ⟨.TM_WX_STATUS, 10, 0⟩
def Fld.TM_WX_LOG_BASE_OFFSET : Fld := ⟨.TM_WX_LOG_BASE, 20, 0⟩
def Fld.TM_WX_LOG_SIZE_LOG2_RECORDS : Fld := ⟨.TM_WX_LOG_SIZE, 4, 0⟩
def Fld.TM_DEST_QMAP_PROFS : Fld := ⟨.TM_DEST_QMAP, 31, 0⟩
def Fld.TM_RELAY_CFG_BAND1_MASK : Fld := ⟨.TM_RELAY_CFG, 31, 24⟩
def Fld.TM_RELAY_CFG_PROF_B1 : Fld := ⟨.TM_RELAY_CFG, 15, 12⟩
def Fld.TM_RELAY_CFG_PROF_B0 : Fld := ⟨.TM_RELAY_CFG, 11, 8⟩
def Fld.TM_RELAY_CFG_RELAY_QUANTUM : Fld := ⟨.TM_RELAY_CFG, 7, 0⟩
def Fld.TM_DEST_LIMIT_CELLS : Fld := ⟨.TM_DEST_LIMIT, 23, 0⟩
def Fld.TM_SKY_CLASS_CFG_SP : Fld := ⟨.TM_SKY_CLASS_CFG, 31, 31⟩
def Fld.TM_SKY_CLASS_CFG_QUANTUM : Fld := ⟨.TM_SKY_CLASS_CFG, 7, 0⟩
def Fld.TM_QPROF_LIMIT_ALPHA : Fld := ⟨.TM_QPROF_LIMIT, 31, 28⟩
def Fld.TM_QPROF_LIMIT_MAX_CELLS : Fld := ⟨.TM_QPROF_LIMIT, 23, 0⟩
def Fld.TM_QPROF_MARK_MARK_EN : Fld := ⟨.TM_QPROF_MARK, 24, 24⟩
def Fld.TM_QPROF_MARK_MARK_THRESH : Fld := ⟨.TM_QPROF_MARK, 23, 0⟩
def Fld.TM_WX_WATCH_EN : Fld := ⟨.TM_WX_WATCH, 31, 31⟩
def Fld.TM_WX_WATCH_KIND : Fld := ⟨.TM_WX_WATCH, 30, 29⟩
def Fld.TM_WX_WATCH_XPORT : Fld := ⟨.TM_WX_WATCH, 28, 24⟩
def Fld.TM_WX_WATCH_QUEUE : Fld := ⟨.TM_WX_WATCH, 11, 0⟩
def Fld.TM_PORT_SCHED_SP_MASK : Fld := ⟨.TM_PORT_SCHED, 23, 16⟩
def Fld.TM_LEAF_QMAP_PROFS : Fld := ⟨.TM_LEAF_QMAP, 31, 0⟩
def Fld.TM_PORT_SHAPER_A_MODE : Fld := ⟨.TM_PORT_SHAPER_A, 31, 30⟩
def Fld.TM_PORT_SHAPER_A_INC : Fld := ⟨.TM_PORT_SHAPER_A, 29, 0⟩
def Fld.TM_PORT_SHAPER_B_PIR_INC : Fld := ⟨.TM_PORT_SHAPER_B, 29, 0⟩
def Fld.TM_PORT_SHAPER_C_HI : Fld := ⟨.TM_PORT_SHAPER_C, 23, 0⟩
def Fld.TM_PORT_SHAPER_D_LO : Fld := ⟨.TM_PORT_SHAPER_D, 23, 0⟩
def Fld.TM_PORT_CREDIT_CREDIT : Fld := ⟨.TM_PORT_CREDIT, 31, 0⟩
def Fld.TM_CLASS_QUANTUM_QUANTUM : Fld := ⟨.TM_CLASS_QUANTUM, 15, 0⟩
def Fld.TM_Q_SHAPER_A_MODE : Fld := ⟨.TM_Q_SHAPER_A, 31, 30⟩
def Fld.TM_Q_SHAPER_A_INC : Fld := ⟨.TM_Q_SHAPER_A, 29, 0⟩
def Fld.TM_Q_SHAPER_B_PIR_INC : Fld := ⟨.TM_Q_SHAPER_B, 29, 0⟩
def Fld.TM_Q_SHAPER_C_HI : Fld := ⟨.TM_Q_SHAPER_C, 23, 0⟩
def Fld.TM_Q_SHAPER_D_LO : Fld := ⟨.TM_Q_SHAPER_D, 23, 0⟩
def Fld.TM_Q_CREDIT_CREDIT : Fld := ⟨.TM_Q_CREDIT, 31, 0⟩
def Fld.TM_Q_DEPTH_CELLS : Fld := ⟨.TM_Q_DEPTH, 31, 0⟩
def Fld.TM_POL_A_RATE_INC : Fld := ⟨.TM_POL_A, 31, 0⟩
def Fld.TM_POL_B_EN : Fld := ⟨.TM_POL_B, 31, 31⟩
def Fld.TM_POL_B_BURST : Fld := ⟨.TM_POL_B, 23, 0⟩
def Fld.SKY_CFG_EPOCH_LOG2 : Fld := ⟨.SKY_CFG, 12, 9⟩
def Fld.SKY_CFG_SIZE : Fld := ⟨.SKY_CFG, 8, 8⟩
def Fld.SKY_CFG_MODULE_ID : Fld := ⟨.SKY_CFG, 6, 0⟩
def Fld.SKY_CTRL_EN : Fld := ⟨.SKY_CTRL, 0, 0⟩
def Fld.SKY_TX_EN_EN : Fld := ⟨.SKY_TX_EN, 0, 0⟩
def Fld.SKY_STATE_CFG_ERR : Fld := ⟨.SKY_STATE, 12, 12⟩
def Fld.SKY_STATE_TX_OFF : Fld := ⟨.SKY_STATE, 11, 11⟩
def Fld.SKY_STATE_DUSK : Fld := ⟨.SKY_STATE, 10, 10⟩
def Fld.SKY_STATE_LULL : Fld := ⟨.SKY_STATE, 9, 9⟩
def Fld.SKY_STATE_MAP : Fld := ⟨.SKY_STATE, 8, 8⟩
def Fld.SKY_STATE_STATE : Fld := ⟨.SKY_STATE, 2, 0⟩
def Fld.SKY_EPOCH_LO_EPOCH : Fld := ⟨.SKY_EPOCH_LO, 31, 0⟩
def Fld.SKY_EPOCH_HI_EPOCH : Fld := ⟨.SKY_EPOCH_HI, 15, 0⟩
def Fld.SKY_PEER_CFG_TIMEOUT : Fld := ⟨.SKY_PEER_CFG, 15, 0⟩
def Fld.SKY_MAP_ARM_BANK : Fld := ⟨.SKY_MAP_ARM, 8, 8⟩
def Fld.SKY_MAP_ARM_MAP_ID : Fld := ⟨.SKY_MAP_ARM, 7, 0⟩
def Fld.SKY_MAP_APPLY_LO_EPOCH : Fld := ⟨.SKY_MAP_APPLY_LO, 31, 0⟩
def Fld.SKY_MAP_APPLY_HI_EPOCH : Fld := ⟨.SKY_MAP_APPLY_HI, 15, 0⟩
def Fld.SKY_MAP_CTRL_DISARM : Fld := ⟨.SKY_MAP_CTRL, 1, 1⟩
def Fld.SKY_MAP_CTRL_ARM : Fld := ⟨.SKY_MAP_CTRL, 0, 0⟩
def Fld.SKY_MAP_STATUS_ARMED : Fld := ⟨.SKY_MAP_STATUS, 31, 31⟩
def Fld.SKY_MAP_STATUS_VALIDATING : Fld := ⟨.SKY_MAP_STATUS, 30, 30⟩
def Fld.SKY_MAP_STATUS_DISARM_LATE : Fld := ⟨.SKY_MAP_STATUS, 29, 29⟩
def Fld.SKY_MAP_STATUS_ARMED_BANK : Fld := ⟨.SKY_MAP_STATUS, 28, 28⟩
def Fld.SKY_MAP_STATUS_ACTIVE_BANK : Fld := ⟨.SKY_MAP_STATUS, 27, 27⟩
def Fld.SKY_MAP_STATUS_ARM_ERR : Fld := ⟨.SKY_MAP_STATUS, 18, 16⟩
def Fld.SKY_MAP_STATUS_ARMED_MAP_ID : Fld := ⟨.SKY_MAP_STATUS, 15, 8⟩
def Fld.SKY_MAP_STATUS_ACTIVE_MAP_ID : Fld := ⟨.SKY_MAP_STATUS, 7, 0⟩
def Fld.SKY_MAP_ERR_ADDR_OFFSET : Fld := ⟨.SKY_MAP_ERR_ADDR, 15, 0⟩
def Fld.SKY_ANNOUNCE_TAKEN : Fld := ⟨.SKY_ANNOUNCE, 31, 31⟩
def Fld.SKY_ANNOUNCE_NEXT_VALID : Fld := ⟨.SKY_ANNOUNCE, 30, 30⟩
def Fld.SKY_ANNOUNCE_SOURCE : Fld := ⟨.SKY_ANNOUNCE, 29, 23⟩
def Fld.SKY_ANNOUNCE_NEXT_MAP_ID : Fld := ⟨.SKY_ANNOUNCE, 15, 8⟩
def Fld.SKY_ANNOUNCE_CUR_MAP_ID : Fld := ⟨.SKY_ANNOUNCE, 7, 0⟩
def Fld.SKY_ANNOUNCE_APPLY_LO_EPOCH : Fld := ⟨.SKY_ANNOUNCE_APPLY_LO, 31, 0⟩
def Fld.SKY_ANNOUNCE_APPLY_HI_EPOCH : Fld := ⟨.SKY_ANNOUNCE_APPLY_HI, 15, 0⟩
def Fld.SKY_LANE_EN_EN : Fld := ⟨.SKY_LANE_EN, 31, 0⟩
def Fld.SKY_PLANE_OFFSET_OFFSET : Fld := ⟨.SKY_PLANE_OFFSET, 6, 0⟩
def Fld.SKY_PEER_FORMAT_TX : Fld := ⟨.SKY_PEER, 23, 16⟩
def Fld.SKY_PEER_ACCEPT : Fld := ⟨.SKY_PEER, 15, 8⟩
def Fld.SKY_PEER_LANES : Fld := ⟨.SKY_PEER, 2, 2⟩
def Fld.SKY_PEER_RATE : Fld := ⟨.SKY_PEER, 1, 1⟩
def Fld.SKY_PEER_PRESENT : Fld := ⟨.SKY_PEER, 0, 0⟩
def Fld.SKY_MAP_BANK_BYTES : Fld := ⟨.SKY_MAP_BANK, 31, 0⟩
def Fld.SKY_FRAME_CFG_STEP_DB : Fld := ⟨.SKY_FRAME_CFG, 23, 16⟩
def Fld.SKY_FRAME_CFG_SLIP_LIMIT : Fld := ⟨.SKY_FRAME_CFG, 15, 8⟩
def Fld.SKY_FRAME_CFG_TRACE_CHECK : Fld := ⟨.SKY_FRAME_CFG, 0, 0⟩
def Fld.SKY_DESKEW_CFG_LIMIT_NS : Fld := ⟨.SKY_DESKEW_CFG, 10, 0⟩
def Fld.SKY_TRACE_OWN_NAME : Fld := ⟨.SKY_TRACE_OWN, 31, 0⟩
def Fld.SKY_STRANGER_SRC_STRANGER : Fld := ⟨.SKY_STRANGER_SRC, 31, 0⟩
def Fld.SKY_LANE_ALARM_DESKEW : Fld := ⟨.SKY_LANE_ALARM, 3, 3⟩
def Fld.SKY_LANE_ALARM_NOISE : Fld := ⟨.SKY_LANE_ALARM, 2, 2⟩
def Fld.SKY_LANE_ALARM_COLL : Fld := ⟨.SKY_LANE_ALARM, 1, 1⟩
def Fld.SKY_LANE_ALARM_STRANGER : Fld := ⟨.SKY_LANE_ALARM, 0, 0⟩
def Fld.SKY_TRACE_EXP_NAME : Fld := ⟨.SKY_TRACE_EXP, 31, 0⟩
def Fld.SKY_RELAY_CFG_EN : Fld := ⟨.SKY_RELAY_CFG, 31, 31⟩
def Fld.SKY_RELAY_CFG_MIN_SPARE : Fld := ⟨.SKY_RELAY_CFG, 27, 26⟩
def Fld.SKY_RELAY_CFG_RELAY_AFTER : Fld := ⟨.SKY_RELAY_CFG, 23, 20⟩
def Fld.SKY_RELAY_CFG_GRANT_MAX : Fld := ⟨.SKY_RELAY_CFG, 15, 0⟩
def Fld.SKY_RELAY_LIMIT_TOTAL_LIMIT : Fld := ⟨.SKY_RELAY_LIMIT, 31, 16⟩
def Fld.SKY_RELAY_LIMIT_SRC_LIMIT : Fld := ⟨.SKY_RELAY_LIMIT, 15, 0⟩
def Fld.SKY_RESEQ_CFG_HOLD_CELLS : Fld := ⟨.SKY_RESEQ_CFG, 31, 16⟩
def Fld.SKY_RESEQ_CFG_HORIZON_US : Fld := ⟨.SKY_RESEQ_CFG, 10, 0⟩
def Fld.SKY_JOIN_EPOCH_LO_EPOCH : Fld := ⟨.SKY_JOIN_EPOCH_LO, 31, 0⟩
def Fld.SKY_JOIN_EPOCH_HI_EPOCH : Fld := ⟨.SKY_JOIN_EPOCH_HI, 15, 0⟩
def Fld.SKY_LANE_FAULT_TX_FAULT : Fld := ⟨.SKY_LANE_FAULT, 31, 0⟩
def Fld.SKY_LANE_RXLOS_RXLOS : Fld := ⟨.SKY_LANE_RXLOS, 31, 0⟩
def Fld.SKY_CREDIT_HELD_CELLS : Fld := ⟨.SKY_CREDIT_HELD, 31, 0⟩
def Fld.SKY_RELAY_OUT_CELLS : Fld := ⟨.SKY_RELAY_OUT, 31, 0⟩
def Fld.SKY_SEQ_NEXT_SEQ : Fld := ⟨.SKY_SEQ_NEXT, 23, 0⟩
def Fld.SKYT_TIME_LO_TS : Fld := ⟨.SKYT_TIME_LO, 31, 0⟩
def Fld.SKYT_TIME_HI_TS : Fld := ⟨.SKYT_TIME_HI, 31, 0⟩
def Fld.SKYT_STATUS_VALID : Fld := ⟨.SKYT_STATUS, 31, 31⟩
def Fld.SKYT_STATUS_STEPPED : Fld := ⟨.SKYT_STATUS, 30, 30⟩
def Fld.SKYT_STATUS_LULL : Fld := ⟨.SKYT_STATUS, 29, 29⟩
def Fld.SKYT_STATUS_FOUND_READY : Fld := ⟨.SKYT_STATUS, 28, 28⟩
def Fld.SKYT_STATUS_TAKEOVER_FAIL : Fld := ⟨.SKYT_STATUS, 27, 27⟩
def Fld.SKYT_STATUS_STEP_REFUSED : Fld := ⟨.SKYT_STATUS, 26, 26⟩
def Fld.SKYT_RATE_RATE : Fld := ⟨.SKYT_RATE, 31, 0⟩
def Fld.SKYT_OFFSET_THETA : Fld := ⟨.SKYT_OFFSET, 31, 0⟩
def Fld.SKYT_SERVO_FILT_LOG2 : Fld := ⟨.SKYT_SERVO, 23, 20⟩
def Fld.SKYT_SERVO_P_LOG2 : Fld := ⟨.SKYT_SERVO, 19, 16⟩
def Fld.SKYT_SERVO_I_LOG2 : Fld := ⟨.SKYT_SERVO, 15, 12⟩
def Fld.SKYT_SERVO_JOIN_PS : Fld := ⟨.SKYT_SERVO, 7, 0⟩
def Fld.SKYT_LULL_CFG_LIMIT_MS : Fld := ⟨.SKYT_LULL_CFG, 7, 0⟩
def Fld.SKYT_CAND_ROLE : Fld := ⟨.SKYT_CAND, 1, 0⟩
def Fld.SKYT_LEASE_HELD : Fld := ⟨.SKYT_LEASE, 31, 31⟩
def Fld.SKYT_LEASE_KNOWN : Fld := ⟨.SKYT_LEASE, 30, 30⟩
def Fld.SKYT_LEASE_HOLDER_ROLE : Fld := ⟨.SKYT_LEASE, 29, 28⟩
def Fld.SKYT_LEASE_HOLDER_ID : Fld := ⟨.SKYT_LEASE, 6, 0⟩
def Fld.SKYT_LEASE_END_LO_EPOCH : Fld := ⟨.SKYT_LEASE_END_LO, 31, 0⟩
def Fld.SKYT_LEASE_END_HI_EPOCH : Fld := ⟨.SKYT_LEASE_END_HI, 15, 0⟩
def Fld.SKYT_DIAG_CFG_COLL_LANES : Fld := ⟨.SKYT_DIAG_CFG, 23, 16⟩
def Fld.SKYT_DIAG_CFG_DELAY_TOL_PS : Fld := ⟨.SKYT_DIAG_CFG, 15, 0⟩
def Fld.SKYT_DIAG_STATUS_COLL : Fld := ⟨.SKYT_DIAG_STATUS, 2, 2⟩
def Fld.SKYT_DIAG_STATUS_DELAY : Fld := ⟨.SKYT_DIAG_STATUS, 1, 1⟩
def Fld.SKYT_DIAG_STATUS_OSC : Fld := ⟨.SKYT_DIAG_STATUS, 0, 0⟩
def Fld.SKYT_STEP_LO_TS : Fld := ⟨.SKYT_STEP_LO, 31, 0⟩
def Fld.SKYT_STEP_HI_TS : Fld := ⟨.SKYT_STEP_HI, 31, 0⟩
def Fld.SKYT_STEP_CTRL_FOUND : Fld := ⟨.SKYT_STEP_CTRL, 0, 0⟩
def Fld.SKYT_TAI_OFFSET_LO_OFFSET : Fld := ⟨.SKYT_TAI_OFFSET_LO, 31, 0⟩
def Fld.SKYT_TAI_OFFSET_HI_OFFSET : Fld := ⟨.SKYT_TAI_OFFSET_HI, 31, 0⟩
def Fld.SKYT_LANE_DELAY_CFG_DELAY : Fld := ⟨.SKYT_LANE_DELAY_CFG, 23, 0⟩
def Fld.SKYT_LANE_DELAY_VALID : Fld := ⟨.SKYT_LANE_DELAY, 31, 31⟩
def Fld.SKYT_LANE_DELAY_TRIANGLES : Fld := ⟨.SKYT_LANE_DELAY, 30, 24⟩
def Fld.SKYT_LANE_DELAY_DELAY : Fld := ⟨.SKYT_LANE_DELAY, 23, 0⟩
def Fld.HOST_NOTIFY_CFG_DUMP_RING : Fld := ⟨.HOST_NOTIFY_CFG, 6, 4⟩
def Fld.HOST_NOTIFY_CFG_FAULT_RING : Fld := ⟨.HOST_NOTIFY_CFG, 2, 0⟩
def Fld.HOST_WIN_CFG_EN : Fld := ⟨.HOST_WIN_CFG, 31, 31⟩
def Fld.HOST_WIN_CFG_WRITE : Fld := ⟨.HOST_WIN_CFG, 30, 30⟩
def Fld.HOST_WIN_CFG_SIZE_LOG2 : Fld := ⟨.HOST_WIN_CFG, 5, 0⟩
def Fld.HOST_WIN_BASE_LO_ADDR : Fld := ⟨.HOST_WIN_BASE_LO, 31, 0⟩
def Fld.HOST_WIN_BASE_HI_ADDR : Fld := ⟨.HOST_WIN_BASE_HI, 31, 0⟩
def Fld.HOST_WIN_XLATE_LO_ADDR : Fld := ⟨.HOST_WIN_XLATE_LO, 31, 0⟩
def Fld.HOST_WIN_XLATE_HI_ADDR : Fld := ⟨.HOST_WIN_XLATE_HI, 31, 0⟩
def Fld.HOST_RING_BASE_LO_ADDR : Fld := ⟨.HOST_RING_BASE_LO, 31, 0⟩
def Fld.HOST_RING_BASE_HI_ADDR : Fld := ⟨.HOST_RING_BASE_HI, 31, 0⟩
def Fld.HOST_RING_CFG_SIZE_LOG2 : Fld := ⟨.HOST_RING_CFG, 20, 16⟩
def Fld.HOST_RING_CFG_PIPE : Fld := ⟨.HOST_RING_CFG, 15, 12⟩
def Fld.HOST_RING_CTRL_EN : Fld := ⟨.HOST_RING_CTRL, 0, 0⟩
def Fld.HOST_RING_STATUS_RUNNING : Fld := ⟨.HOST_RING_STATUS, 31, 31⟩
def Fld.HOST_RING_STATUS_RING_IDLE : Fld := ⟨.HOST_RING_STATUS, 30, 30⟩
def Fld.HOST_RING_STATUS_ERR : Fld := ⟨.HOST_RING_STATUS, 29, 29⟩
def Fld.HOST_RING_STATUS_CFG_ERR : Fld := ⟨.HOST_RING_STATUS, 28, 28⟩
def Fld.HOST_RING_STATUS_ERR_CODE : Fld := ⟨.HOST_RING_STATUS, 27, 24⟩
def Fld.HOST_RING_HEAD_INDEX : Fld := ⟨.HOST_RING_HEAD, 31, 0⟩
def Fld.HOST_RING_TAIL_INDEX : Fld := ⟨.HOST_RING_TAIL, 31, 0⟩
def Fld.HOST_RING_WB_LO_ADDR : Fld := ⟨.HOST_RING_WB_LO, 31, 0⟩
def Fld.HOST_RING_WB_HI_ADDR : Fld := ⟨.HOST_RING_WB_HI, 31, 0⟩
def Fld.HOST_IRQ_CFG_EN : Fld := ⟨.HOST_IRQ_CFG, 31, 31⟩
def Fld.HOST_IRQ_CFG_USEC : Fld := ⟨.HOST_IRQ_CFG, 19, 10⟩
def Fld.HOST_IRQ_CFG_COUNT : Fld := ⟨.HOST_IRQ_CFG, 7, 0⟩
def Fld.HOST_CPL_BASE_LO_ADDR : Fld := ⟨.HOST_CPL_BASE_LO, 31, 0⟩
def Fld.HOST_CPL_BASE_HI_ADDR : Fld := ⟨.HOST_CPL_BASE_HI, 31, 0⟩
def Fld.HOST_CPL_CFG_SIZE_LOG2 : Fld := ⟨.HOST_CPL_CFG, 4, 0⟩
def Fld.HOST_CPL_HEAD_INDEX : Fld := ⟨.HOST_CPL_HEAD, 31, 0⟩
def Fld.HOST_CPL_TAIL_INDEX : Fld := ⟨.HOST_CPL_TAIL, 31, 0⟩
def Fld.HOST_CPL_WB_LO_ADDR : Fld := ⟨.HOST_CPL_WB_LO, 31, 0⟩
def Fld.HOST_CPL_WB_HI_ADDR : Fld := ⟨.HOST_CPL_WB_HI, 31, 0⟩
def Fld.HOST_CPL_STATUS_HELD : Fld := ⟨.HOST_CPL_STATUS, 6, 0⟩
def Fld.HOST_DB_INDEX : Fld := ⟨.HOST_DB, 31, 0⟩
def Fld.HOST_CPL_DB_INDEX : Fld := ⟨.HOST_CPL_DB, 31, 0⟩
def Fld.MIR_SESSION_CFG_EN : Fld := ⟨.MIR_SESSION_CFG, 31, 31⟩
def Fld.MIR_SESSION_CFG_DEST_KIND : Fld := ⟨.MIR_SESSION_CFG, 29, 28⟩
def Fld.MIR_SESSION_CFG_SAMPLE_LOG2 : Fld := ⟨.MIR_SESSION_CFG, 27, 24⟩
def Fld.MIR_SESSION_CFG_CLASS : Fld := ⟨.MIR_SESSION_CFG, 23, 21⟩
def Fld.MIR_SESSION_CFG_RING_MASK : Fld := ⟨.MIR_SESSION_CFG, 19, 16⟩
def Fld.MIR_SESSION_CFG_SNAP : Fld := ⟨.MIR_SESSION_CFG, 15, 8⟩
def Fld.MIR_SESSION_DEST_MOD : Fld := ⟨.MIR_SESSION_DEST, 21, 15⟩
def Fld.MIR_SESSION_DEST_PORT : Fld := ⟨.MIR_SESSION_DEST, 14, 7⟩
def Fld.MIR_SESSION_DEST_RING : Fld := ⟨.MIR_SESSION_DEST, 5, 0⟩
def Fld.MIR_SAMPLE_CFG_EN : Fld := ⟨.MIR_SAMPLE_CFG, 31, 31⟩
def Fld.MIR_SAMPLE_CFG_LOG2 : Fld := ⟨.MIR_SAMPLE_CFG, 4, 0⟩
def Fld.MIR_PORT_CFG_ING_EN : Fld := ⟨.MIR_PORT_CFG, 31, 31⟩
def Fld.MIR_PORT_CFG_ING_SESSION : Fld := ⟨.MIR_PORT_CFG, 30, 27⟩
def Fld.MIR_PORT_CFG_EGR_EN : Fld := ⟨.MIR_PORT_CFG, 26, 26⟩
def Fld.MIR_PORT_CFG_EGR_SESSION : Fld := ⟨.MIR_PORT_CFG, 25, 22⟩
def Fld.HLT_CFG_REBASE : Fld := ⟨.HLT_CFG, 1, 1⟩
def Fld.HLT_CFG_LEDGER_EN : Fld := ⟨.HLT_CFG, 0, 0⟩
def Fld.HLT_LEDGER_STATUS_FAULT : Fld := ⟨.HLT_LEDGER_STATUS, 31, 31⟩
def Fld.HLT_LEDGER_STATUS_EXCUSED : Fld := ⟨.HLT_LEDGER_STATUS, 30, 30⟩
def Fld.HLT_LEDGER_STATUS_LAST : Fld := ⟨.HLT_LEDGER_STATUS, 15, 0⟩
def Fld.HLT_WIN_CFG_THRESH : Fld := ⟨.HLT_WIN_CFG, 23, 16⟩
def Fld.HLT_WIN_CFG_WINDOW_MS : Fld := ⟨.HLT_WIN_CFG, 15, 0⟩
def Fld.HLT_WIN_STATUS_LASTING : Fld := ⟨.HLT_WIN_STATUS, 31, 16⟩
def Fld.HLT_WIN_STATUS_FIRST : Fld := ⟨.HLT_WIN_STATUS, 8, 0⟩
def Fld.HLT_WIN_LANES_LANES : Fld := ⟨.HLT_WIN_LANES, 31, 0⟩
def Fld.CTL_RING_OWNER_OWNER : Fld := ⟨.CTL_RING_OWNER, 0, 0⟩
def Fld.CTL_PCIE_STATUS_WIDTH : Fld := ⟨.CTL_PCIE_STATUS, 7, 4⟩
def Fld.CTL_PCIE_STATUS_BME : Fld := ⟨.CTL_PCIE_STATUS, 3, 3⟩
def Fld.CTL_PCIE_STATUS_LINK_UP : Fld := ⟨.CTL_PCIE_STATUS, 0, 0⟩
def Fld.CTL_INT_ROUTE_EN : Fld := ⟨.CTL_INT_ROUTE, 31, 31⟩
def Fld.CTL_INT_ROUTE_TARGET : Fld := ⟨.CTL_INT_ROUTE, 4, 0⟩
def Fld.CTL_INT_PEND_PEND : Fld := ⟨.CTL_INT_PEND, 31, 0⟩
def Fld.IDL_STATUS_UP : Fld := ⟨.IDL_STATUS, 31, 31⟩
def Fld.IDL_STATUS_RETRAINING : Fld := ⟨.IDL_STATUS, 30, 30⟩
def Fld.IDL_STATUS_LANES : Fld := ⟨.IDL_STATUS, 7, 0⟩
def Fld.IDL_ARB_CFG_W_DATA : Fld := ⟨.IDL_ARB_CFG, 15, 8⟩
def Fld.IDL_ARB_CFG_W_CTRL : Fld := ⟨.IDL_ARB_CFG, 7, 0⟩
def Fld.IDL_POL_CFG_EN : Fld := ⟨.IDL_POL_CFG, 31, 31⟩
def Fld.IDL_POL_CFG_RATE : Fld := ⟨.IDL_POL_CFG, 30, 16⟩
def Fld.IDL_POL_CFG_BURST : Fld := ⟨.IDL_POL_CFG, 15, 0⟩
def Fld.IDL_CREDIT_TX_HELD : Fld := ⟨.IDL_CREDIT, 31, 16⟩
def Fld.IDL_CREDIT_RX_OUT : Fld := ⟨.IDL_CREDIT, 15, 0⟩
def Fld.PWR_STATUS_INPUT_OK : Fld := ⟨.PWR_STATUS, 31, 31⟩
def Fld.PWR_STATUS_BUS_OK : Fld := ⟨.PWR_STATUS, 30, 30⟩
def Fld.PWR_STATUS_OVEN_READY : Fld := ⟨.PWR_STATUS, 29, 29⟩
def Fld.PWR_STATUS_DUSK : Fld := ⟨.PWR_STATUS, 28, 28⟩
def Fld.PWR_STATUS_STEEP : Fld := ⟨.PWR_STATUS, 27, 27⟩
def Fld.PWR_STATUS_SIMMER : Fld := ⟨.PWR_STATUS, 26, 25⟩
def Fld.PWR_STATUS_SIMMER_POWER : Fld := ⟨.PWR_STATUS, 24, 24⟩
def Fld.PWR_STATUS_QUIET : Fld := ⟨.PWR_STATUS, 23, 23⟩
def Fld.PWR_STATUS_RAIL_FAULT : Fld := ⟨.PWR_STATUS, 22, 22⟩
def Fld.PWR_STATUS_LAST_TRIP : Fld := ⟨.PWR_STATUS, 21, 21⟩
def Fld.PWR_STATUS_SEQ_DONE : Fld := ⟨.PWR_STATUS, 20, 20⟩
def Fld.PWR_SLOW_STATUS_BUSY : Fld := ⟨.PWR_SLOW_STATUS, 31, 31⟩
def Fld.PWR_SLOW_STATUS_NAK : Fld := ⟨.PWR_SLOW_STATUS, 30, 30⟩
def Fld.PWR_INPUT_POWER : Fld := ⟨.PWR_INPUT, 31, 16⟩
def Fld.PWR_INPUT_VOLTAGE : Fld := ⟨.PWR_INPUT, 15, 0⟩
def Fld.PWR_THERMAL_T_CASE : Fld := ⟨.PWR_THERMAL, 31, 16⟩
def Fld.PWR_THERMAL_T_MIN : Fld := ⟨.PWR_THERMAL, 15, 0⟩
def Fld.PWR_SHED_ORDER_ORDER : Fld := ⟨.PWR_SHED_ORDER, 31, 0⟩
def Fld.PWR_SENSOR_VALID : Fld := ⟨.PWR_SENSOR, 31, 31⟩
def Fld.PWR_SENSOR_TEMP : Fld := ⟨.PWR_SENSOR, 15, 0⟩
def Fld.PWR_RAIL_SET_MV : Fld := ⟨.PWR_RAIL_SET, 15, 0⟩
def Fld.PWR_RAIL_MEAS_CURRENT : Fld := ⟨.PWR_RAIL_MEAS, 31, 16⟩
def Fld.PWR_RAIL_MEAS_VOLTAGE : Fld := ⟨.PWR_RAIL_MEAS, 15, 0⟩
def Fld.KEEP_MBOX_DATA_DATA : Fld := ⟨.KEEP_MBOX_DATA, 31, 0⟩
def Fld.KEEP_MBOX_CMD_GO : Fld := ⟨.KEEP_MBOX_CMD, 31, 31⟩
def Fld.KEEP_MBOX_CMD_BUSY : Fld := ⟨.KEEP_MBOX_CMD, 30, 30⟩
def Fld.KEEP_MBOX_CMD_STATUS : Fld := ⟨.KEEP_MBOX_CMD, 15, 8⟩
def Fld.KEEP_MBOX_CMD_CODE : Fld := ⟨.KEEP_MBOX_CMD, 7, 0⟩
def Fld.KEEP_STATUS_ALIVE : Fld := ⟨.KEEP_STATUS, 31, 31⟩
def Fld.KEEP_STATUS_DUSK : Fld := ⟨.KEEP_STATUS, 30, 30⟩
def Fld.KEEP_STATUS_SIMMER : Fld := ⟨.KEEP_STATUS, 29, 28⟩
def Fld.KEEP_STATUS_STEEP : Fld := ⟨.KEEP_STATUS, 27, 27⟩
def Fld.KEEP_STATUS_HEARTBEAT : Fld := ⟨.KEEP_STATUS, 15, 0⟩
def Fld.KEEP_CFG_CONSOLE_EN : Fld := ⟨.KEEP_CFG, 1, 1⟩
def Fld.KEEP_CFG_REDFISH_EN : Fld := ⟨.KEEP_CFG, 0, 0⟩
def Fld.NVM_SLOT_STATUS_CFG_VALID : Fld := ⟨.NVM_SLOT_STATUS, 17, 17⟩
def Fld.NVM_SLOT_STATUS_CFG_CUR : Fld := ⟨.NVM_SLOT_STATUS, 16, 16⟩
def Fld.NVM_SLOT_STATUS_B_STATE : Fld := ⟨.NVM_SLOT_STATUS, 11, 10⟩
def Fld.NVM_SLOT_STATUS_A_STATE : Fld := ⟨.NVM_SLOT_STATUS, 9, 8⟩
def Fld.NVM_SLOT_STATUS_BOOTED : Fld := ⟨.NVM_SLOT_STATUS, 1, 1⟩
def Fld.NVM_SLOT_STATUS_KEEPER : Fld := ⟨.NVM_SLOT_STATUS, 0, 0⟩
def Fld.NVM_BOOT_SEL_TRIAL_S : Fld := ⟨.NVM_BOOT_SEL, 23, 8⟩
def Fld.NVM_BOOT_SEL_RECOVERY : Fld := ⟨.NVM_BOOT_SEL, 2, 2⟩
def Fld.NVM_BOOT_SEL_TRIAL : Fld := ⟨.NVM_BOOT_SEL, 1, 1⟩
def Fld.NVM_BOOT_SEL_ACTIVE : Fld := ⟨.NVM_BOOT_SEL, 0, 0⟩
def Fld.NVM_CMD_ARG : Fld := ⟨.NVM_CMD, 15, 8⟩
def Fld.NVM_CMD_OP : Fld := ⟨.NVM_CMD, 7, 0⟩
def Fld.NVM_STATUS_BUSY : Fld := ⟨.NVM_STATUS, 31, 31⟩
def Fld.NVM_STATUS_DONE : Fld := ⟨.NVM_STATUS, 30, 30⟩
def Fld.NVM_STATUS_ERR : Fld := ⟨.NVM_STATUS, 29, 29⟩
def Fld.NVM_STATUS_ERR_CODE : Fld := ⟨.NVM_STATUS, 28, 24⟩
def Fld.NVM_STATUS_PROGRESS : Fld := ⟨.NVM_STATUS, 6, 0⟩
def Fld.NVM_FLASH_ADDR_LO_ADDR : Fld := ⟨.NVM_FLASH_ADDR_LO, 31, 0⟩
def Fld.NVM_FLASH_ADDR_HI_ADDR : Fld := ⟨.NVM_FLASH_ADDR_HI, 31, 0⟩
def Fld.NVM_HOST_ADDR_LO_ADDR : Fld := ⟨.NVM_HOST_ADDR_LO, 31, 0⟩
def Fld.NVM_HOST_ADDR_HI_ADDR : Fld := ⟨.NVM_HOST_ADDR_HI, 31, 0⟩
def Fld.NVM_LEN_LEN : Fld := ⟨.NVM_LEN, 31, 0⟩
def Fld.SYS_ID_PART : Fld := ⟨.SYS_ID, 31, 16⟩
def Fld.SYS_ID_STEPPING : Fld := ⟨.SYS_ID, 15, 8⟩
def Fld.SYS_SERIAL_LO_SERIAL : Fld := ⟨.SYS_SERIAL_LO, 31, 0⟩
def Fld.SYS_SERIAL_HI_SERIAL : Fld := ⟨.SYS_SERIAL_HI, 31, 0⟩
def Fld.SYS_RUN_STATE_STATE : Fld := ⟨.SYS_RUN_STATE, 1, 0⟩
def Fld.SYS_KEY_KEY : Fld := ⟨.SYS_KEY, 31, 0⟩
def Fld.SYS_ACCESS_FAULT_VALID : Fld := ⟨.SYS_ACCESS_FAULT, 31, 31⟩
def Fld.SYS_ACCESS_FAULT_KIND : Fld := ⟨.SYS_ACCESS_FAULT, 27, 24⟩
def Fld.SYS_ACCESS_FAULT_AGENT : Fld := ⟨.SYS_ACCESS_FAULT, 23, 22⟩
def Fld.SYS_ACCESS_FAULT_SIZE : Fld := ⟨.SYS_ACCESS_FAULT, 21, 20⟩
def Fld.SYS_ACCESS_FAULT_ADDR_ALIAS : Fld := ⟨.SYS_ACCESS_FAULT_ADDR, 29, 28⟩
def Fld.SYS_ACCESS_FAULT_ADDR_OFFSET : Fld := ⟨.SYS_ACCESS_FAULT_ADDR, 27, 0⟩
def Fld.SYS_UPDATE_PENDING_PENDING : Fld := ⟨.SYS_UPDATE_PENDING, 31, 0⟩
def Fld.SYS_UPDATE_PENDING_HI_PENDING : Fld := ⟨.SYS_UPDATE_PENDING_HI, 31, 0⟩
def Fld.SYS_UPDATE_STROBE_HI_MASK : Fld := ⟨.SYS_UPDATE_STROBE_HI, 31, 0⟩
def Fld.SYS_UPDATE_STROBE_MASK : Fld := ⟨.SYS_UPDATE_STROBE, 31, 0⟩
def Fld.SYS_SNAP_CTRL_VIEW : Fld := ⟨.SYS_SNAP_CTRL, 2, 2⟩
def Fld.SYS_SNAP_CTRL_CLEAR : Fld := ⟨.SYS_SNAP_CTRL, 1, 1⟩
def Fld.SYS_SNAP_CTRL_TAKE : Fld := ⟨.SYS_SNAP_CTRL, 0, 0⟩
def Fld.SYS_SNAP_STATUS_DONE : Fld := ⟨.SYS_SNAP_STATUS, 31, 31⟩
def Fld.SYS_SNAP_STATUS_COPYING : Fld := ⟨.SYS_SNAP_STATUS, 30, 30⟩
def Fld.SYS_SNAP_STATUS_SEQ : Fld := ⟨.SYS_SNAP_STATUS, 15, 0⟩
def Fld.SYS_PLANE_CTRL_HEADLESS_EXIT : Fld := ⟨.SYS_PLANE_CTRL, 1, 1⟩
def Fld.SYS_PLANE_CTRL_HEADLESS_REQ : Fld := ⟨.SYS_PLANE_CTRL, 0, 0⟩
def Fld.SYS_PLANE_STATE_HEADLESS : Fld := ⟨.SYS_PLANE_STATE, 31, 31⟩
def Fld.SYS_PLANE_STATE_IDL_UP : Fld := ⟨.SYS_PLANE_STATE, 30, 30⟩
def Fld.SYS_PLANE_STATE_CAUSE : Fld := ⟨.SYS_PLANE_STATE, 1, 0⟩
def Fld.SYS_RESET_CTRL_BLOCK : Fld := ⟨.SYS_RESET_CTRL, 20, 16⟩
def Fld.SYS_RESET_CTRL_KIND : Fld := ⟨.SYS_RESET_CTRL, 2, 0⟩
def Fld.SYS_RESET_STATUS_LAST_AGENT : Fld := ⟨.SYS_RESET_STATUS, 4, 3⟩
def Fld.SYS_RESET_STATUS_LAST_KIND : Fld := ⟨.SYS_RESET_STATUS, 2, 0⟩
def Fld.SYS_FUSE_CTRL_BLOW : Fld := ⟨.SYS_FUSE_CTRL, 31, 31⟩
def Fld.SYS_FUSE_CTRL_BIT : Fld := ⟨.SYS_FUSE_CTRL, 4, 0⟩
def Fld.SYS_FUSE_STATUS_BUSY : Fld := ⟨.SYS_FUSE_STATUS, 31, 31⟩
def Fld.SYS_FUSE_STATUS_ERR : Fld := ⟨.SYS_FUSE_STATUS, 30, 30⟩
def Fld.SYS_FUSE_USER_FUSE : Fld := ⟨.SYS_FUSE_USER, 31, 0⟩
def Fld.OPT_SLOW_STATUS_BUSY : Fld := ⟨.OPT_SLOW_STATUS, 31, 31⟩
def Fld.OPT_SLOW_STATUS_NAK : Fld := ⟨.OPT_SLOW_STATUS, 30, 30⟩
def Fld.OPT_ENGINE_TEMP_TEMP : Fld := ⟨.OPT_ENGINE_TEMP, 15, 0⟩
def Fld.OPT_LANE_BIAS_DISABLE : Fld := ⟨.OPT_LANE_BIAS, 31, 31⟩
def Fld.OPT_LANE_BIAS_OVERRIDE : Fld := ⟨.OPT_LANE_BIAS, 30, 30⟩
def Fld.OPT_LANE_BIAS_BIAS_ACT : Fld := ⟨.OPT_LANE_BIAS, 27, 16⟩
def Fld.OPT_LANE_BIAS_BIAS : Fld := ⟨.OPT_LANE_BIAS, 11, 0⟩
def Fld.OPT_LANE_MON_TX_POWER : Fld := ⟨.OPT_LANE_MON, 31, 16⟩
def Fld.OPT_LANE_MON_RX_POWER : Fld := ⟨.OPT_LANE_MON, 15, 0⟩

/-- A 64-bit counter (R13, R372): element (i, j) lies at base + s1*i + s2*j. `HLT_LEDGER_FAULT_CNT` is indexed by
ledger number less 1. -/
structure Cnt where
  base : Nat
  s1 : Nat
  n1 : Nat
  s2 : Nat
  n2 : Nat
  deriving DecidableEq, Repr

def Cnt.LEAF_RX_FRAME_CNT : Cnt := ⟨0x120000, 0x200, 256, 0x0, 1⟩
def Cnt.LEAF_RX_BYTE_CNT : Cnt := ⟨0x120008, 0x200, 256, 0x0, 1⟩
def Cnt.LEAF_TX_FRAME_CNT : Cnt := ⟨0x120010, 0x200, 256, 0x0, 1⟩
def Cnt.LEAF_TX_BYTE_CNT : Cnt := ⟨0x120018, 0x200, 256, 0x0, 1⟩
def Cnt.LEAF_RX_CODE_ERR_CNT : Cnt := ⟨0x120020, 0x200, 256, 0x0, 1⟩
def Cnt.LEAF_RX_RUNT_CNT : Cnt := ⟨0x120028, 0x200, 256, 0x0, 1⟩
def Cnt.LEAF_RX_OVERSIZE_CNT : Cnt := ⟨0x120030, 0x200, 256, 0x0, 1⟩
def Cnt.LEAF_RX_FCS_ERR_CNT : Cnt := ⟨0x120038, 0x200, 256, 0x0, 1⟩
def Cnt.LEAF_RX_TRUNC_CNT : Cnt := ⟨0x120040, 0x200, 256, 0x0, 1⟩
def Cnt.LEAF_TX_LINKDOWN_ABORT_CNT : Cnt := ⟨0x120048, 0x200, 256, 0x0, 1⟩
def Cnt.LEAF_TX_UNDERRUN_CNT : Cnt := ⟨0x120050, 0x200, 256, 0x0, 1⟩
def Cnt.LEAF_TX_STOMP_CNT : Cnt := ⟨0x120058, 0x200, 256, 0x0, 1⟩
def Cnt.LEAF_TX_OVERSIZE_CNT : Cnt := ⟨0x120060, 0x200, 256, 0x0, 1⟩
def Cnt.LEAF_TX_INACTIVE_DROP_CNT : Cnt := ⟨0x120068, 0x200, 256, 0x0, 1⟩
def Cnt.LEAF_TX_DOZE_DROP_CNT : Cnt := ⟨0x120070, 0x200, 256, 0x0, 1⟩
def Cnt.LEAF_TX_DOWN_DROP_CNT : Cnt := ⟨0x120078, 0x200, 256, 0x0, 1⟩
def Cnt.LEAF_RX_PFC_CNT : Cnt := ⟨0x120080, 0x200, 256, 0x8, 8⟩
def Cnt.LEAF_TX_PFC_CNT : Cnt := ⟨0x1200c0, 0x200, 256, 0x8, 8⟩
def Cnt.LEAF_PAUSE_WD_CNT : Cnt := ⟨0x120100, 0x200, 256, 0x8, 8⟩
def Cnt.LEAF_RX_PAUSE_CNT : Cnt := ⟨0x120140, 0x200, 256, 0x0, 1⟩
def Cnt.LEAF_TX_PAUSE_CNT : Cnt := ⟨0x120148, 0x200, 256, 0x0, 1⟩
def Cnt.LEAF_RX_PAUSE_IGNORED_CNT : Cnt := ⟨0x120150, 0x200, 256, 0x0, 1⟩
def Cnt.FLAP_FLUSH_CNT : Cnt := ⟨0x120158, 0x200, 256, 0x0, 1⟩
def Cnt.LEAF_LINK_DOWN_CNT : Cnt := ⟨0x120160, 0x200, 256, 0x0, 1⟩
def Cnt.LEAF_WAKE_CNT : Cnt := ⟨0x120168, 0x200, 256, 0x0, 1⟩
def Cnt.LEAF_FEC_CORR_SYM_CNT : Cnt := ⟨0x140000, 0x20, 256, 0x0, 1⟩
def Cnt.LEAF_FEC_CORR_CW_CNT : Cnt := ⟨0x140008, 0x20, 256, 0x0, 1⟩
def Cnt.LEAF_FEC_UNCORR_CW_CNT : Cnt := ⟨0x140010, 0x20, 256, 0x0, 1⟩
def Cnt.LEAF_AM_LOSS_CNT : Cnt := ⟨0x140018, 0x20, 256, 0x0, 1⟩
def Cnt.PARSE_STAGE_DISCARD_CNT : Cnt := ⟨0x200100, 0x0, 1, 0x0, 1⟩
def Cnt.PARSE_MAL_CNT : Cnt := ⟨0x250000, 0x100, 16, 0x8, 16⟩
def Cnt.PARSE_RULE_DROP_CNT : Cnt := ⟨0x250080, 0x100, 16, 0x0, 1⟩
def Cnt.PARSE_TRAP_CNT : Cnt := ⟨0x250088, 0x100, 16, 0x0, 1⟩
def Cnt.PARSE_EGR_RULE_DROP_CNT : Cnt := ⟨0x250090, 0x100, 16, 0x0, 1⟩
def Cnt.PARSE_RULE_PARITY_CNT : Cnt := ⟨0x250098, 0x100, 16, 0x0, 1⟩
def Cnt.PARSE_EDIT_SKIP_CNT : Cnt := ⟨0x2500a0, 0x100, 16, 0x0, 1⟩
def Cnt.PARSE_EDIT_OVERSIZE_CNT : Cnt := ⟨0x2500a8, 0x100, 16, 0x0, 1⟩
def Cnt.PARSE_EDIT_PARITY_CNT : Cnt := ⟨0x2500b0, 0x100, 16, 0x0, 1⟩
def Cnt.TBL_L2_MISS_DROP_CNT : Cnt := ⟨0x340000, 0x100, 16, 0x0, 1⟩
def Cnt.TBL_L3_MISS_DROP_CNT : Cnt := ⟨0x340008, 0x100, 16, 0x0, 1⟩
def Cnt.TBL_TTL_EXPIRE_CNT : Cnt := ⟨0x340010, 0x100, 16, 0x0, 1⟩
def Cnt.TBL_MISS_TRAP_CNT : Cnt := ⟨0x340018, 0x100, 16, 0x0, 1⟩
def Cnt.TBL_MAC_DROP_CNT : Cnt := ⟨0x340020, 0x100, 16, 0x0, 1⟩
def Cnt.TBL_NH_INVALID_DROP_CNT : Cnt := ⟨0x340028, 0x100, 16, 0x0, 1⟩
def Cnt.TBL_PARITY_DROP_CNT : Cnt := ⟨0x340030, 0x100, 16, 0x0, 1⟩
def Cnt.TBL_NH_DROP_CNT : Cnt := ⟨0x340038, 0x100, 16, 0x0, 1⟩
def Cnt.TBL_STATIC_MOVE_CNT : Cnt := ⟨0x340040, 0x100, 16, 0x0, 1⟩
def Cnt.TBL_LAG_EMPTY_DROP_CNT : Cnt := ⟨0x340048, 0x100, 16, 0x0, 1⟩
def Cnt.TBL_ECMP_EMPTY_DROP_CNT : Cnt := ⟨0x340050, 0x100, 16, 0x0, 1⟩
def Cnt.TBL_PARITY_CNT : Cnt := ⟨0x350000, 0x0, 1, 0x0, 1⟩
def Cnt.LEARN_DEFER_CNT : Cnt := ⟨0x350008, 0x0, 1, 0x0, 1⟩
def Cnt.TBL_LEARN_NOTIFY_CNT : Cnt := ⟨0x350010, 0x0, 1, 0x0, 1⟩
def Cnt.TBL_LEARN_EXPIRE_CNT : Cnt := ⟨0x350018, 0x0, 1, 0x0, 1⟩
def Cnt.TBL_AGE_REMOVE_CNT : Cnt := ⟨0x350020, 0x0, 1, 0x0, 1⟩
def Cnt.TBL_AGE_NOTICE_CNT : Cnt := ⟨0x350028, 0x0, 1, 0x0, 1⟩
def Cnt.TBL_AGE_STALL_CNT : Cnt := ⟨0x350030, 0x0, 1, 0x0, 1⟩
def Cnt.TBL_INSERT_CNT : Cnt := ⟨0x350038, 0x0, 1, 0x0, 1⟩
def Cnt.TBL_DELETE_CNT : Cnt := ⟨0x350040, 0x0, 1, 0x0, 1⟩
def Cnt.TBL_WRITE_ERR_CNT : Cnt := ⟨0x350048, 0x0, 1, 0x0, 1⟩
def Cnt.TBL_MOVE_CNT : Cnt := ⟨0x350050, 0x0, 1, 0x0, 1⟩
def Cnt.XBAR_IN_CELL_CNT : Cnt := ⟨0x410000, 0x100, 32, 0x0, 1⟩
def Cnt.XBAR_OUT_CELL_CNT : Cnt := ⟨0x410008, 0x100, 32, 0x0, 1⟩
def Cnt.XBAR_RX_OVERRUN_CNT : Cnt := ⟨0x410010, 0x100, 32, 0x0, 1⟩
def Cnt.XBAR_EGR_LOOKUP_WAIT_CNT : Cnt := ⟨0x410018, 0x100, 32, 0x0, 1⟩
def Cnt.XBAR_CREDIT_STALL_CNT : Cnt := ⟨0x410020, 0x100, 32, 0x0, 1⟩
def Cnt.XBAR_RESEQ_DISCARD_CNT : Cnt := ⟨0x410028, 0x100, 32, 0x0, 1⟩
def Cnt.XBAR_RESEQ_TIMEOUT_CNT : Cnt := ⟨0x410030, 0x100, 32, 0x0, 1⟩
def Cnt.XBAR_CELL_LOSS_CNT : Cnt := ⟨0x410038, 0x100, 32, 0x0, 1⟩
def Cnt.XBAR_ABORT_CNT : Cnt := ⟨0x410040, 0x100, 32, 0x0, 1⟩
def Cnt.XBAR_PLANE_CELL_CNT : Cnt := ⟨0x420000, 0x100, 16, 0x0, 1⟩
def Cnt.XBAR_TAG_CORR_CNT : Cnt := ⟨0x420008, 0x100, 16, 0x0, 1⟩
def Cnt.XBAR_TAG_UNCORR_CNT : Cnt := ⟨0x420010, 0x100, 16, 0x0, 1⟩
def Cnt.XBAR_CELL_ERR_CNT : Cnt := ⟨0x420018, 0x100, 16, 0x0, 1⟩
def Cnt.BUF_ALLOC_CNT : Cnt := ⟨0x530000, 0x100, 5, 0x0, 1⟩
def Cnt.BUF_FREE_CNT : Cnt := ⟨0x530008, 0x100, 5, 0x0, 1⟩
def Cnt.BUF_NOBUF_CNT : Cnt := ⟨0x530010, 0x100, 5, 0x0, 1⟩
def Cnt.BUF_ALLOC_WAIT_CNT : Cnt := ⟨0x530018, 0x100, 5, 0x0, 1⟩
def Cnt.BUF_DOUBLE_FREE_CNT : Cnt := ⟨0x530020, 0x100, 5, 0x0, 1⟩
def Cnt.BUF_BITMAP_ERR_CNT : Cnt := ⟨0x530028, 0x100, 5, 0x0, 1⟩
def Cnt.BUF_QUAR_CNT : Cnt := ⟨0x530030, 0x100, 5, 0x0, 1⟩
def Cnt.BUF_QUAR_RELEASE_CNT : Cnt := ⟨0x530038, 0x100, 5, 0x0, 1⟩
def Cnt.BUF_RETIRE_CNT : Cnt := ⟨0x530040, 0x100, 5, 0x0, 1⟩
def Cnt.BUF_NOBUF_DROP_CNT : Cnt := ⟨0x540000, 0x100, 32, 0x0, 1⟩
def Cnt.BUF_NOBUF_CELL_DROP_CNT : Cnt := ⟨0x540008, 0x100, 32, 0x0, 1⟩
def Cnt.BUF_RX_NOBUF_CELL_CNT : Cnt := ⟨0x540010, 0x100, 32, 0x0, 1⟩
def Cnt.BUF_ONDIE_CRC_DROP_CNT : Cnt := ⟨0x540018, 0x100, 32, 0x0, 1⟩
def Cnt.BUF_ONDIE_CRC_CELL_CNT : Cnt := ⟨0x540020, 0x100, 32, 0x0, 1⟩
def Cnt.BUF_HBM_CRC_DROP_CNT : Cnt := ⟨0x540028, 0x100, 32, 0x0, 1⟩
def Cnt.BUF_HBM_CRC_CELL_CNT : Cnt := ⟨0x540030, 0x100, 32, 0x0, 1⟩
def Cnt.BUF_SPILL_UNIT_CNT : Cnt := ⟨0x540038, 0x100, 32, 0x0, 1⟩
def Cnt.BUF_SPILL_NOBUF_CNT : Cnt := ⟨0x540040, 0x100, 32, 0x0, 1⟩
def Cnt.BUF_REFILL_UNIT_CNT : Cnt := ⟨0x540048, 0x100, 32, 0x0, 1⟩
def Cnt.BUF_REFILL_WAIT_CNT : Cnt := ⟨0x540050, 0x100, 32, 0x0, 1⟩
def Cnt.TM_QLIMIT_DROP_CNT : Cnt := ⟨0x620000, 0x200, 32, 0x40, 8⟩
def Cnt.TM_DYN_DROP_CNT : Cnt := ⟨0x620008, 0x200, 32, 0x40, 8⟩
def Cnt.TM_QLIMIT_CELL_DROP_CNT : Cnt := ⟨0x620010, 0x200, 32, 0x40, 8⟩
def Cnt.TM_DYN_CELL_DROP_CNT : Cnt := ⟨0x620018, 0x200, 32, 0x40, 8⟩
def Cnt.TM_ECN_MARK_CNT : Cnt := ⟨0x620020, 0x200, 32, 0x40, 8⟩
def Cnt.TM_ECN_NOT_ECT_CNT : Cnt := ⟨0x620028, 0x200, 32, 0x40, 8⟩
def Cnt.TM_POLICE_DROP_CNT : Cnt := ⟨0x630000, 0x100, 16, 0x0, 1⟩
def Cnt.TM_DEST_LIMIT_DROP_CNT : Cnt := ⟨0x630008, 0x100, 16, 0x0, 1⟩
def Cnt.TM_WX_RECORD_CNT : Cnt := ⟨0x640000, 0x0, 1, 0x0, 1⟩
def Cnt.TM_WX_DROP_CNT : Cnt := ⟨0x640008, 0x0, 1, 0x0, 1⟩
def Cnt.SKY_MAP_APPLY_CNT : Cnt := ⟨0x700800, 0x0, 1, 0x0, 1⟩
def Cnt.SKY_MAP_ARM_REFUSE_CNT : Cnt := ⟨0x700808, 0x0, 1, 0x0, 1⟩
def Cnt.SKY_DARK_EPOCH_CNT : Cnt := ⟨0x700810, 0x0, 1, 0x0, 1⟩
def Cnt.SKY_JOIN_CNT : Cnt := ⟨0x700818, 0x0, 1, 0x0, 1⟩
def Cnt.SKY_HELLO_MISMATCH_CNT : Cnt := ⟨0x700820, 0x0, 1, 0x0, 1⟩
def Cnt.SKY_RX_MAP_MISMATCH_CNT : Cnt := ⟨0x700900, 0x40, 16, 0x0, 1⟩
def Cnt.SKY_NO_PEER_SLOT_CNT : Cnt := ⟨0x700908, 0x40, 16, 0x0, 1⟩
def Cnt.SKY_TX_NJ_CNT : Cnt := ⟨0x730300, 0x0, 1, 0x0, 1⟩
def Cnt.SKY_TX_PJ_CNT : Cnt := ⟨0x730308, 0x0, 1, 0x0, 1⟩
def Cnt.SKY_TX_SLIP_CNT : Cnt := ⟨0x730310, 0x0, 1, 0x0, 1⟩
def Cnt.SKY_RX_BURST_CNT : Cnt := ⟨0x730800, 0x100, 16, 0x0, 1⟩
def Cnt.SKY_RX_NOSYNC_CNT : Cnt := ⟨0x730808, 0x100, 16, 0x0, 1⟩
def Cnt.SKY_RX_HDR_ERR_CNT : Cnt := ⟨0x730810, 0x100, 16, 0x0, 1⟩
def Cnt.SKY_RX_FORMAT_ERR_CNT : Cnt := ⟨0x730818, 0x100, 16, 0x0, 1⟩
def Cnt.SKY_RX_LANE_ERR_CNT : Cnt := ⟨0x730820, 0x100, 16, 0x0, 1⟩
def Cnt.SKY_RX_TIMING_ERR_CNT : Cnt := ⟨0x730828, 0x100, 16, 0x0, 1⟩
def Cnt.SKY_RX_STRANGER_CELL_CNT : Cnt := ⟨0x730830, 0x100, 16, 0x0, 1⟩
def Cnt.SKY_RX_CELL_ERR_CNT : Cnt := ⟨0x730838, 0x100, 16, 0x0, 1⟩
def Cnt.SKY_RX_JUST_ERR_CNT : Cnt := ⟨0x730840, 0x100, 16, 0x0, 1⟩
def Cnt.SKY_RX_DESKEW_DROP_CNT : Cnt := ⟨0x730850, 0x100, 16, 0x0, 1⟩
def Cnt.SKY_RX_SYNCFRAME_ERR_CNT : Cnt := ⟨0x730858, 0x100, 16, 0x0, 1⟩
def Cnt.SKY_RX_NJ_CNT : Cnt := ⟨0x730860, 0x100, 16, 0x0, 1⟩
def Cnt.SKY_RX_PJ_CNT : Cnt := ⟨0x730868, 0x100, 16, 0x0, 1⟩
def Cnt.SKY_RX_SLIP_CNT : Cnt := ⟨0x730870, 0x100, 16, 0x0, 1⟩
def Cnt.SKY_TX_BURST_CNT : Cnt := ⟨0x730878, 0x100, 16, 0x0, 1⟩
def Cnt.SKY_RX_CELL_CNT : Cnt := ⟨0x730880, 0x100, 16, 0x0, 1⟩
def Cnt.SKY_RX_MISDIRECT_CNT : Cnt := ⟨0x730888, 0x100, 16, 0x0, 1⟩
def Cnt.SKY_LANE_COLL_CNT : Cnt := ⟨0x734000, 0x20, 256, 0x0, 1⟩
def Cnt.SKY_LANE_NOISE_CNT : Cnt := ⟨0x734008, 0x20, 256, 0x0, 1⟩
def Cnt.SKY_LANE_FEC_CORR_SYM_CNT : Cnt := ⟨0x734010, 0x20, 256, 0x0, 1⟩
def Cnt.SKY_SRC_COLL_CNT : Cnt := ⟨0x736000, 0x10, 129, 0x0, 1⟩
def Cnt.SKY_SRC_NOISE_CNT : Cnt := ⟨0x736008, 0x10, 129, 0x0, 1⟩
def Cnt.SKY_CREDIT_RECOVER_CNT : Cnt := ⟨0x740100, 0x0, 1, 0x0, 1⟩
def Cnt.SKY_RELAY_CELL_LOST_CNT : Cnt := ⟨0x740108, 0x0, 1, 0x0, 1⟩
def Cnt.SKY_RELAY_OVER_CREDIT_CNT : Cnt := ⟨0x740110, 0x0, 1, 0x0, 1⟩
def Cnt.SKY_CREDIT_FORFEIT_CNT : Cnt := ⟨0x740118, 0x0, 1, 0x0, 1⟩
def Cnt.SKY_LANE_TXFAULT_CNT : Cnt := ⟨0x740120, 0x0, 1, 0x0, 1⟩
def Cnt.SKY_LANE_RXLOS_CNT : Cnt := ⟨0x740128, 0x0, 1, 0x0, 1⟩
def Cnt.SKY_NO_PEER_DROP_CNT : Cnt := ⟨0x741000, 0x40, 32, 0x0, 1⟩
def Cnt.SKY_TX_CELL_CNT : Cnt := ⟨0x741008, 0x40, 32, 0x0, 1⟩
def Cnt.SKY_TX_RELAY_CELL_CNT : Cnt := ⟨0x741010, 0x40, 32, 0x0, 1⟩
def Cnt.SKY_RELAY_FWD_CELL_CNT : Cnt := ⟨0x741018, 0x40, 32, 0x0, 1⟩
def Cnt.SKY_RELAY_NOROUTE_CNT : Cnt := ⟨0x741020, 0x40, 32, 0x0, 1⟩
def Cnt.SKY_PEER_LOSS_CELL_CNT : Cnt := ⟨0x741028, 0x40, 32, 0x0, 1⟩
def Cnt.SKY_LANE_MOVE_CELL_CNT : Cnt := ⟨0x741030, 0x40, 32, 0x0, 1⟩
def Cnt.SKY_STATE_FLUSH_CELL_CNT : Cnt := ⟨0x741038, 0x40, 32, 0x0, 1⟩
def Cnt.SKY_PAIR_TX_CELL_CNT : Cnt := ⟨0x742000, 0x80, 128, 0x0, 1⟩
def Cnt.SKY_PAIR_RX_CELL_CNT : Cnt := ⟨0x742008, 0x80, 128, 0x0, 1⟩
def Cnt.SKY_PAIR_LOST_CNT : Cnt := ⟨0x742010, 0x80, 128, 0x0, 1⟩
def Cnt.SKY_PAIR_LATE_CNT : Cnt := ⟨0x742018, 0x80, 128, 0x0, 1⟩
def Cnt.SKY_PAIR_DUP_CNT : Cnt := ⟨0x742020, 0x80, 128, 0x0, 1⟩
def Cnt.SKY_PAIR_FORCE_CNT : Cnt := ⟨0x742028, 0x80, 128, 0x0, 1⟩
def Cnt.SKY_PAIR_FRAME_CNT : Cnt := ⟨0x742030, 0x80, 128, 0x0, 1⟩
def Cnt.SKY_PAIR_FRAME_DISCARD_CNT : Cnt := ⟨0x742038, 0x80, 128, 0x0, 1⟩
def Cnt.SKY_PAIR_FORMAT_DISCARD_CNT : Cnt := ⟨0x742040, 0x80, 128, 0x0, 1⟩
def Cnt.SKYT_STEP_CNT : Cnt := ⟨0x800100, 0x0, 1, 0x0, 1⟩
def Cnt.SKYT_STEP_REFUSED_CNT : Cnt := ⟨0x800108, 0x0, 1, 0x0, 1⟩
def Cnt.SKYT_TAKEOVER_CNT : Cnt := ⟨0x800110, 0x0, 1, 0x0, 1⟩
def Cnt.SKYT_TAKEOVER_FAIL_CNT : Cnt := ⟨0x800118, 0x0, 1, 0x0, 1⟩
def Cnt.SKYT_RELEASE_CNT : Cnt := ⟨0x800120, 0x0, 1, 0x0, 1⟩
def Cnt.SKYT_HOLDER_CONFLICT_CNT : Cnt := ⟨0x800128, 0x0, 1, 0x0, 1⟩
def Cnt.SKYT_LULL_CNT : Cnt := ⟨0x800130, 0x0, 1, 0x0, 1⟩
def Cnt.SKYT_LULL_LIMIT_CNT : Cnt := ⟨0x800138, 0x0, 1, 0x0, 1⟩
def Cnt.SKYT_DIAG_FAIL_CNT : Cnt := ⟨0x800140, 0x0, 1, 0x0, 1⟩
def Cnt.HOST_FAULT_REC_DROP_CNT : Cnt := ⟨0x900100, 0x0, 1, 0x0, 1⟩
def Cnt.HOST_RING_ENTRY_CNT : Cnt := ⟨0x940000, 0x80, 172, 0x0, 1⟩
def Cnt.HOST_RING_ERR_ENTRY_CNT : Cnt := ⟨0x940008, 0x80, 172, 0x0, 1⟩
def Cnt.HOST_RING_UNDELIVERED_CNT : Cnt := ⟨0x940010, 0x80, 172, 0x0, 1⟩
def Cnt.HOST_CPL_STALL_CNT : Cnt := ⟨0x940018, 0x80, 172, 0x0, 1⟩
def Cnt.RX_NOBUF_CNT : Cnt := ⟨0x940020, 0x80, 172, 0x0, 1⟩
def Cnt.HOST_RX_CPL_FULL_DROP_CNT : Cnt := ⟨0x940028, 0x80, 172, 0x0, 1⟩
def Cnt.HOST_RX_RING_DOWN_DROP_CNT : Cnt := ⟨0x940030, 0x80, 172, 0x0, 1⟩
def Cnt.HOST_CAP_DROP_CNT : Cnt := ⟨0x940038, 0x80, 172, 0x0, 1⟩
def Cnt.HOST_DB_REFUSE_CNT : Cnt := ⟨0x940040, 0x80, 172, 0x0, 1⟩
def Cnt.HOST_RX_DROP_CNT : Cnt := ⟨0x950000, 0x100, 16, 0x0, 1⟩
def Cnt.MIR_COPY_CNT : Cnt := ⟨0xa20000, 0x80, 16, 0x0, 1⟩
def Cnt.MIR_DELIVER_CNT : Cnt := ⟨0xa20008, 0x80, 16, 0x0, 1⟩
def Cnt.MIR_POL_DROP_CNT : Cnt := ⟨0xa20010, 0x80, 16, 0x0, 1⟩
def Cnt.MIR_HOST_DROP_CNT : Cnt := ⟨0xa20018, 0x80, 16, 0x0, 1⟩
def Cnt.MIR_ABORT_CNT : Cnt := ⟨0xa20020, 0x80, 16, 0x0, 1⟩
def Cnt.MIR_SAMPLE_CNT : Cnt := ⟨0xa30000, 0x100, 16, 0x0, 1⟩
def Cnt.MIR_SAMPLE_DROP_CNT : Cnt := ⟨0xa30008, 0x100, 16, 0x0, 1⟩
def Cnt.HLT_CHECK_CNT : Cnt := ⟨0xb10000, 0x0, 1, 0x0, 1⟩
def Cnt.HLT_LEDGER_FAULT_CNT : Cnt := ⟨0xb10008, 0x8, 11, 0x0, 1⟩
def Cnt.HLT_REBASE_CNT : Cnt := ⟨0xb10080, 0x0, 1, 0x0, 1⟩
def Cnt.HLT_RECORD_SUPPRESS_CNT : Cnt := ⟨0xb10088, 0x0, 1, 0x0, 1⟩
def Cnt.HLT_ABORT_DISCARD_CNT : Cnt := ⟨0xb10090, 0x0, 1, 0x0, 1⟩
def Cnt.HLT_LASTING_CNT : Cnt := ⟨0xb10098, 0x8, 12, 0x0, 1⟩
def Cnt.SYS_ACCESS_FAULT_CNT : Cnt := ⟨0x100, 0x0, 1, 0x0, 1⟩
def Cnt.SYS_HEADLESS_HOST_DROP_CNT : Cnt := ⟨0x108, 0x0, 1, 0x0, 1⟩
def Cnt.SYS_HEADLESS_NOTIFY_DROP_CNT : Cnt := ⟨0x110, 0x0, 1, 0x0, 1⟩
def Cnt.CTL_INT_MERGE_CNT : Cnt := ⟨0x1020000, 0x0, 1, 0x0, 1⟩
def Cnt.CTL_PCIE_LINK_DOWN_CNT : Cnt := ⟨0x1020008, 0x0, 1, 0x0, 1⟩
def Cnt.CTL_DRAM_CORR_CNT : Cnt := ⟨0x1020010, 0x0, 1, 0x0, 1⟩
def Cnt.CTL_DRAM_UNCORR_CNT : Cnt := ⟨0x1020018, 0x0, 1, 0x0, 1⟩
def Cnt.IDL_REPLAY_CNT : Cnt := ⟨0x1110000, 0x0, 1, 0x0, 1⟩
def Cnt.IDL_RETRAIN_CNT : Cnt := ⟨0x1110008, 0x0, 1, 0x0, 1⟩
def Cnt.IDL_TX_FLIT_CNT : Cnt := ⟨0x1110010, 0x0, 1, 0x0, 1⟩
def Cnt.IDL_RX_FLIT_CNT : Cnt := ⟨0x1110018, 0x0, 1, 0x0, 1⟩
def Cnt.IDL_POL_REFUSE_CNT : Cnt := ⟨0x1110020, 0x8, 5, 0x0, 1⟩
def Cnt.IDL_TRAP_POL_DROP_CNT : Cnt := ⟨0x1110100, 0x8, 16, 0x0, 1⟩
def Cnt.PWR_MAINS_LOSS_CNT : Cnt := ⟨0x1220000, 0x0, 1, 0x0, 1⟩
def Cnt.PWR_DUSK_CNT : Cnt := ⟨0x1220008, 0x0, 1, 0x0, 1⟩
def Cnt.PWR_DUSK_INCOMPLETE_CNT : Cnt := ⟨0x1220010, 0x0, 1, 0x0, 1⟩
def Cnt.PWR_STEEP_CNT : Cnt := ⟨0x1220018, 0x0, 1, 0x0, 1⟩
def Cnt.PWR_SIMMER1_CNT : Cnt := ⟨0x1220020, 0x0, 1, 0x0, 1⟩
def Cnt.PWR_SIMMER2_CNT : Cnt := ⟨0x1220028, 0x0, 1, 0x0, 1⟩
def Cnt.PWR_TRIP_CNT : Cnt := ⟨0x1220030, 0x0, 1, 0x0, 1⟩
def Cnt.PWR_RAIL_FAULT_CNT : Cnt := ⟨0x1220038, 0x0, 1, 0x0, 1⟩
def Cnt.PWR_QUIET_CNT : Cnt := ⟨0x1220040, 0x0, 1, 0x0, 1⟩
def Cnt.PWR_POWER_LIMIT_CNT : Cnt := ⟨0x1220048, 0x0, 1, 0x0, 1⟩
def Cnt.PWR_STEEP_TIMEOUT_CNT : Cnt := ⟨0x1220050, 0x0, 1, 0x0, 1⟩
def Cnt.KEEP_RESTART_CNT : Cnt := ⟨0x1310000, 0x0, 1, 0x0, 1⟩
def Cnt.KEEP_MBOX_CMD_CNT : Cnt := ⟨0x1310008, 0x0, 1, 0x0, 1⟩
def Cnt.KEEP_REDFISH_REQ_CNT : Cnt := ⟨0x1310010, 0x0, 1, 0x0, 1⟩
def Cnt.KEEP_REDFISH_AUTH_FAIL_CNT : Cnt := ⟨0x1310018, 0x0, 1, 0x0, 1⟩
def Cnt.NVM_READ_CNT : Cnt := ⟨0x1410000, 0x0, 1, 0x0, 1⟩
def Cnt.NVM_WRITE_CNT : Cnt := ⟨0x1410008, 0x0, 1, 0x0, 1⟩
def Cnt.NVM_COMMIT_CNT : Cnt := ⟨0x1410010, 0x0, 1, 0x0, 1⟩
def Cnt.NVM_COMMIT_FAIL_CNT : Cnt := ⟨0x1410018, 0x0, 1, 0x0, 1⟩
def Cnt.NVM_CFG_COMMIT_CNT : Cnt := ⟨0x1410020, 0x0, 1, 0x0, 1⟩
def Cnt.NVM_TRIAL_REVERT_CNT : Cnt := ⟨0x1410028, 0x0, 1, 0x0, 1⟩
def Cnt.NVM_FLASH_ERR_CNT : Cnt := ⟨0x1410030, 0x0, 1, 0x0, 1⟩
def Cnt.NVM_BOOT_FAIL_CNT : Cnt := ⟨0x1410038, 0x0, 1, 0x0, 1⟩
def Cnt.all0 : List Cnt :=
  [Cnt.LEAF_RX_FRAME_CNT, Cnt.LEAF_RX_BYTE_CNT, Cnt.LEAF_TX_FRAME_CNT, Cnt.LEAF_TX_BYTE_CNT,
   Cnt.LEAF_RX_CODE_ERR_CNT, Cnt.LEAF_RX_RUNT_CNT, Cnt.LEAF_RX_OVERSIZE_CNT, Cnt.LEAF_RX_FCS_ERR_CNT,
   Cnt.LEAF_RX_TRUNC_CNT, Cnt.LEAF_TX_LINKDOWN_ABORT_CNT, Cnt.LEAF_TX_UNDERRUN_CNT, Cnt.LEAF_TX_STOMP_CNT,
   Cnt.LEAF_TX_OVERSIZE_CNT, Cnt.LEAF_TX_INACTIVE_DROP_CNT, Cnt.LEAF_TX_DOZE_DROP_CNT, Cnt.LEAF_TX_DOWN_DROP_CNT]
def Cnt.all1 : List Cnt :=
  [Cnt.LEAF_RX_PFC_CNT, Cnt.LEAF_TX_PFC_CNT, Cnt.LEAF_PAUSE_WD_CNT, Cnt.LEAF_RX_PAUSE_CNT,
   Cnt.LEAF_TX_PAUSE_CNT, Cnt.LEAF_RX_PAUSE_IGNORED_CNT, Cnt.FLAP_FLUSH_CNT, Cnt.LEAF_LINK_DOWN_CNT,
   Cnt.LEAF_WAKE_CNT, Cnt.LEAF_FEC_CORR_SYM_CNT, Cnt.LEAF_FEC_CORR_CW_CNT, Cnt.LEAF_FEC_UNCORR_CW_CNT,
   Cnt.LEAF_AM_LOSS_CNT, Cnt.PARSE_STAGE_DISCARD_CNT, Cnt.PARSE_MAL_CNT, Cnt.PARSE_RULE_DROP_CNT]
def Cnt.all2 : List Cnt :=
  [Cnt.PARSE_TRAP_CNT, Cnt.PARSE_EGR_RULE_DROP_CNT, Cnt.PARSE_RULE_PARITY_CNT, Cnt.PARSE_EDIT_SKIP_CNT,
   Cnt.PARSE_EDIT_OVERSIZE_CNT, Cnt.PARSE_EDIT_PARITY_CNT, Cnt.TBL_L2_MISS_DROP_CNT, Cnt.TBL_L3_MISS_DROP_CNT,
   Cnt.TBL_TTL_EXPIRE_CNT, Cnt.TBL_MISS_TRAP_CNT, Cnt.TBL_MAC_DROP_CNT, Cnt.TBL_NH_INVALID_DROP_CNT,
   Cnt.TBL_PARITY_DROP_CNT, Cnt.TBL_NH_DROP_CNT, Cnt.TBL_STATIC_MOVE_CNT, Cnt.TBL_LAG_EMPTY_DROP_CNT]
def Cnt.all3 : List Cnt :=
  [Cnt.TBL_ECMP_EMPTY_DROP_CNT, Cnt.TBL_PARITY_CNT, Cnt.LEARN_DEFER_CNT, Cnt.TBL_LEARN_NOTIFY_CNT,
   Cnt.TBL_LEARN_EXPIRE_CNT, Cnt.TBL_AGE_REMOVE_CNT, Cnt.TBL_AGE_NOTICE_CNT, Cnt.TBL_AGE_STALL_CNT,
   Cnt.TBL_INSERT_CNT, Cnt.TBL_DELETE_CNT, Cnt.TBL_WRITE_ERR_CNT, Cnt.TBL_MOVE_CNT,
   Cnt.XBAR_IN_CELL_CNT, Cnt.XBAR_OUT_CELL_CNT, Cnt.XBAR_RX_OVERRUN_CNT, Cnt.XBAR_EGR_LOOKUP_WAIT_CNT]
def Cnt.all4 : List Cnt :=
  [Cnt.XBAR_CREDIT_STALL_CNT, Cnt.XBAR_RESEQ_DISCARD_CNT, Cnt.XBAR_RESEQ_TIMEOUT_CNT, Cnt.XBAR_CELL_LOSS_CNT,
   Cnt.XBAR_ABORT_CNT, Cnt.XBAR_PLANE_CELL_CNT, Cnt.XBAR_TAG_CORR_CNT, Cnt.XBAR_TAG_UNCORR_CNT,
   Cnt.XBAR_CELL_ERR_CNT, Cnt.BUF_ALLOC_CNT, Cnt.BUF_FREE_CNT, Cnt.BUF_NOBUF_CNT,
   Cnt.BUF_ALLOC_WAIT_CNT, Cnt.BUF_DOUBLE_FREE_CNT, Cnt.BUF_BITMAP_ERR_CNT, Cnt.BUF_QUAR_CNT]
def Cnt.all5 : List Cnt :=
  [Cnt.BUF_QUAR_RELEASE_CNT, Cnt.BUF_RETIRE_CNT, Cnt.BUF_NOBUF_DROP_CNT, Cnt.BUF_NOBUF_CELL_DROP_CNT,
   Cnt.BUF_RX_NOBUF_CELL_CNT, Cnt.BUF_ONDIE_CRC_DROP_CNT, Cnt.BUF_ONDIE_CRC_CELL_CNT, Cnt.BUF_HBM_CRC_DROP_CNT,
   Cnt.BUF_HBM_CRC_CELL_CNT, Cnt.BUF_SPILL_UNIT_CNT, Cnt.BUF_SPILL_NOBUF_CNT, Cnt.BUF_REFILL_UNIT_CNT,
   Cnt.BUF_REFILL_WAIT_CNT, Cnt.TM_QLIMIT_DROP_CNT, Cnt.TM_DYN_DROP_CNT, Cnt.TM_QLIMIT_CELL_DROP_CNT]
def Cnt.all6 : List Cnt :=
  [Cnt.TM_DYN_CELL_DROP_CNT, Cnt.TM_ECN_MARK_CNT, Cnt.TM_ECN_NOT_ECT_CNT, Cnt.TM_POLICE_DROP_CNT,
   Cnt.TM_DEST_LIMIT_DROP_CNT, Cnt.TM_WX_RECORD_CNT, Cnt.TM_WX_DROP_CNT, Cnt.SKY_MAP_APPLY_CNT,
   Cnt.SKY_MAP_ARM_REFUSE_CNT, Cnt.SKY_DARK_EPOCH_CNT, Cnt.SKY_JOIN_CNT, Cnt.SKY_HELLO_MISMATCH_CNT,
   Cnt.SKY_RX_MAP_MISMATCH_CNT, Cnt.SKY_NO_PEER_SLOT_CNT, Cnt.SKY_TX_NJ_CNT, Cnt.SKY_TX_PJ_CNT]
def Cnt.all7 : List Cnt :=
  [Cnt.SKY_TX_SLIP_CNT, Cnt.SKY_RX_BURST_CNT, Cnt.SKY_RX_NOSYNC_CNT, Cnt.SKY_RX_HDR_ERR_CNT,
   Cnt.SKY_RX_FORMAT_ERR_CNT, Cnt.SKY_RX_LANE_ERR_CNT, Cnt.SKY_RX_TIMING_ERR_CNT, Cnt.SKY_RX_STRANGER_CELL_CNT,
   Cnt.SKY_RX_CELL_ERR_CNT, Cnt.SKY_RX_JUST_ERR_CNT, Cnt.SKY_RX_DESKEW_DROP_CNT, Cnt.SKY_RX_SYNCFRAME_ERR_CNT,
   Cnt.SKY_RX_NJ_CNT, Cnt.SKY_RX_PJ_CNT, Cnt.SKY_RX_SLIP_CNT, Cnt.SKY_TX_BURST_CNT]
def Cnt.all8 : List Cnt :=
  [Cnt.SKY_RX_CELL_CNT, Cnt.SKY_RX_MISDIRECT_CNT, Cnt.SKY_LANE_COLL_CNT, Cnt.SKY_LANE_NOISE_CNT,
   Cnt.SKY_LANE_FEC_CORR_SYM_CNT, Cnt.SKY_SRC_COLL_CNT, Cnt.SKY_SRC_NOISE_CNT, Cnt.SKY_CREDIT_RECOVER_CNT,
   Cnt.SKY_RELAY_CELL_LOST_CNT, Cnt.SKY_RELAY_OVER_CREDIT_CNT, Cnt.SKY_CREDIT_FORFEIT_CNT, Cnt.SKY_LANE_TXFAULT_CNT,
   Cnt.SKY_LANE_RXLOS_CNT, Cnt.SKY_NO_PEER_DROP_CNT, Cnt.SKY_TX_CELL_CNT, Cnt.SKY_TX_RELAY_CELL_CNT]
def Cnt.all9 : List Cnt :=
  [Cnt.SKY_RELAY_FWD_CELL_CNT, Cnt.SKY_RELAY_NOROUTE_CNT, Cnt.SKY_PEER_LOSS_CELL_CNT, Cnt.SKY_LANE_MOVE_CELL_CNT,
   Cnt.SKY_STATE_FLUSH_CELL_CNT, Cnt.SKY_PAIR_TX_CELL_CNT, Cnt.SKY_PAIR_RX_CELL_CNT, Cnt.SKY_PAIR_LOST_CNT,
   Cnt.SKY_PAIR_LATE_CNT, Cnt.SKY_PAIR_DUP_CNT, Cnt.SKY_PAIR_FORCE_CNT, Cnt.SKY_PAIR_FRAME_CNT,
   Cnt.SKY_PAIR_FRAME_DISCARD_CNT, Cnt.SKY_PAIR_FORMAT_DISCARD_CNT, Cnt.SKYT_STEP_CNT, Cnt.SKYT_STEP_REFUSED_CNT]
def Cnt.all10 : List Cnt :=
  [Cnt.SKYT_TAKEOVER_CNT, Cnt.SKYT_TAKEOVER_FAIL_CNT, Cnt.SKYT_RELEASE_CNT, Cnt.SKYT_HOLDER_CONFLICT_CNT,
   Cnt.SKYT_LULL_CNT, Cnt.SKYT_LULL_LIMIT_CNT, Cnt.SKYT_DIAG_FAIL_CNT, Cnt.HOST_FAULT_REC_DROP_CNT,
   Cnt.HOST_RING_ENTRY_CNT, Cnt.HOST_RING_ERR_ENTRY_CNT, Cnt.HOST_RING_UNDELIVERED_CNT, Cnt.HOST_CPL_STALL_CNT,
   Cnt.RX_NOBUF_CNT, Cnt.HOST_RX_CPL_FULL_DROP_CNT, Cnt.HOST_RX_RING_DOWN_DROP_CNT, Cnt.HOST_CAP_DROP_CNT]
def Cnt.all11 : List Cnt :=
  [Cnt.HOST_DB_REFUSE_CNT, Cnt.HOST_RX_DROP_CNT, Cnt.MIR_COPY_CNT, Cnt.MIR_DELIVER_CNT,
   Cnt.MIR_POL_DROP_CNT, Cnt.MIR_HOST_DROP_CNT, Cnt.MIR_ABORT_CNT, Cnt.MIR_SAMPLE_CNT,
   Cnt.MIR_SAMPLE_DROP_CNT, Cnt.HLT_CHECK_CNT, Cnt.HLT_LEDGER_FAULT_CNT, Cnt.HLT_REBASE_CNT,
   Cnt.HLT_RECORD_SUPPRESS_CNT, Cnt.HLT_ABORT_DISCARD_CNT, Cnt.HLT_LASTING_CNT, Cnt.SYS_ACCESS_FAULT_CNT]
def Cnt.all12 : List Cnt :=
  [Cnt.SYS_HEADLESS_HOST_DROP_CNT, Cnt.SYS_HEADLESS_NOTIFY_DROP_CNT, Cnt.CTL_INT_MERGE_CNT, Cnt.CTL_PCIE_LINK_DOWN_CNT,
   Cnt.CTL_DRAM_CORR_CNT, Cnt.CTL_DRAM_UNCORR_CNT, Cnt.IDL_REPLAY_CNT, Cnt.IDL_RETRAIN_CNT,
   Cnt.IDL_TX_FLIT_CNT, Cnt.IDL_RX_FLIT_CNT, Cnt.IDL_POL_REFUSE_CNT, Cnt.IDL_TRAP_POL_DROP_CNT,
   Cnt.PWR_MAINS_LOSS_CNT, Cnt.PWR_DUSK_CNT, Cnt.PWR_DUSK_INCOMPLETE_CNT, Cnt.PWR_STEEP_CNT]
def Cnt.all13 : List Cnt :=
  [Cnt.PWR_SIMMER1_CNT, Cnt.PWR_SIMMER2_CNT, Cnt.PWR_TRIP_CNT, Cnt.PWR_RAIL_FAULT_CNT,
   Cnt.PWR_QUIET_CNT, Cnt.PWR_POWER_LIMIT_CNT, Cnt.PWR_STEEP_TIMEOUT_CNT, Cnt.KEEP_RESTART_CNT,
   Cnt.KEEP_MBOX_CMD_CNT, Cnt.KEEP_REDFISH_REQ_CNT, Cnt.KEEP_REDFISH_AUTH_FAIL_CNT, Cnt.NVM_READ_CNT,
   Cnt.NVM_WRITE_CNT, Cnt.NVM_COMMIT_CNT, Cnt.NVM_COMMIT_FAIL_CNT, Cnt.NVM_CFG_COMMIT_CNT]
def Cnt.all14 : List Cnt :=
  [Cnt.NVM_TRIAL_REVERT_CNT, Cnt.NVM_FLASH_ERR_CNT, Cnt.NVM_BOOT_FAIL_CNT]

/-- Every counter. -/
def Cnt.all : List Cnt :=
  List.flatten [Cnt.all0, Cnt.all1, Cnt.all2, Cnt.all3, Cnt.all4, Cnt.all5, Cnt.all6, Cnt.all7, Cnt.all8, Cnt.all9, Cnt.all10, Cnt.all11, Cnt.all12, Cnt.all13, Cnt.all14]

end Sys2Proof
end

