-- ==== Sys2Proof/Machine/Operands.lean ====
section
/-!
DEFINITION. How commands name registers: the aperture offset of an element, its reset value, the fields of a register
value, a counter's offset, and the agents' numbers.
-/
namespace Sys2Proof

/-- Aperture offset of element (i, j) of a register (R372). No command names an element outside its array; an index is
taken modulo the length of the array, so that every offset lies in its register's range. -/
def Reg.off (r : Reg) (i : Nat := 0) (j : Nat := 0) : Nat := r.base + r.s1 * (i % r.n1) + r.s2 * (j % r.n2)

/-- Byte k of the default shed order (R392): byte 2j is engine 15 − j and byte 2j + 1 engine 31 − j. -/
def shedDefault (k : Nat) : Nat := if k % 2 = 0 then 15 - k / 2 else 31 - k / 2

/-- Four bytes of a list of engine numbers as a register word (R392). -/
def shedWord (f : Nat → Nat) (w : Nat) : Nat :=
  f (4 * w) + 256 * f (4 * w + 1) + 65536 * f (4 * w + 2) + 16777216 * f (4 * w + 3)

/-- Set-point of each rail in mV, from the supply table of the power chapter (DEDUCED, log 6). -/
def railMv (i : Nat) : Nat :=
  if i = 0 then 750 else if i = 1 then 1800 else if i = 2 then 3300 else if i = 3 then 750 else if i = 4 then 850
  else if i = 5 then 1050 else if i = 6 then 500 else if i = 7 then 2500 else if i ≤ 11 then 750
  else if i = 12 then 850 else if i = 13 then 900 else if i ≤ 15 then 1050 else if i ≤ 17 then 400
  else if i ≤ 25 then 3300 else if i ≤ 27 then 2500 else 0

/-- Credit pool of a virtual channel in flits (R290). -/
def vcPool (v : Nat) : Nat :=
  if v ≤ 1 then 64 else if v = 2 then 32 else if v = 3 then 256 else if v = 4 then 2048 else 4096

/-- Reset value of element (i, j) of a register (R373): the value of the index, or the rule the index names. -/
def Reg.resetNat (r : Reg) (i j : Nat) : Nat :=
  if r.base = Reg.PARSE_DSCP_MAP.base then i * 0x00249249
  else if r.base = Reg.PARSE_NODE_A.base then parseNodeA i
  else if r.base = Reg.PARSE_NODE_B.base then parseNodeB i
  else if r.base = Reg.PARSE_TRANS_A.base then parseTransA i
  else if r.base = Reg.PARSE_TRANS_B.base then parseTransB i
  else if r.base = Reg.BUF_SPILL_THRESH.base then (if i = 0 then 0x4000 else if i = 1 then 0x2000 else 0x1000)
  else if r.base = Reg.BUF_POOL_FREE.base then (if i = 4 then 0x00180000 else 0)
  else if r.base = Reg.IDL_POL_CFG.base then (if i ≤ 1 then 0x83E80040 else if i ≤ 3 then 0x80C80010 else 0x81F40010)
  else if r.base = Reg.IDL_CREDIT.base then vcPool i * 65536
  else if r.base = Reg.PWR_SHED_ORDER.base then shedWord shedDefault i
  else if r.base = Reg.PWR_RAIL_SET.base then railMv i
  else if r.base = Reg.NVM_SLOT_STATUS.base then 0x200
  else r.reset + 0 * j

/-- The reset value of a register's element (R373) (DESIGN CHOICE where no chapter gives one, log 4). -/
def Reg.resetOf (r : Reg) (i j : Nat) : Word := BitVec.ofNat 32 (r.resetNat i j)

/-- A field of a register value. -/
def Fld.get (f : Fld) (w : Word) : Nat := bits w.toNat f.hi f.lo

/-- A register value with one field replaced. -/
def Fld.set (f : Fld) (w : Word) (v : Nat) : Word := BitVec.ofNat 32 (setBits w.toNat f.hi f.lo v)

/-- Aperture offset of a counter's low word (R372). -/
def Cnt.off (c : Cnt) (i : Nat := 0) (j : Nat := 0) : Nat := c.base + c.s1 * (i % c.n1) + c.s2 * (j % c.n2)

/-- The agents' numbers in SYS_ACCESS_FAULT.AGENT. -/
def Agent.num : Agent → Nat
  | .app => 0
  | .host => 1
  | .keeper => 2

/-- The application cores and the external host are one agent for the keys (R286, R360). -/
def Agent.soft : Agent → Bool
  | .keeper => false
  | _ => true

end Sys2Proof
end

