-- ==== Sys2Proof/Machine/State.lean ====
section
/-!
DEFINITION. The state of the LZ-S2048: every register, counter, memory, queue and engine state that the spec gives
the module, as plain data, and the queue of commands that wait.
-/
namespace Sys2Proof.Machine

/-- Why the machine stops. No command of this model ends in a fault: the type has the one constructor that names an
internal inconsistency, and nothing raises it (safe). -/
inductive Fault where
  | inconsistent
  deriving DecidableEq, Repr

/-- Why a command is refused. -/
inductive Refusal where
  /-- Raised by a dispatch arm whose command has no meaning yet (safe: the run stops). -/
  | notModelled (mnemonic : String)
  deriving DecidableEq, Repr

/-- What a command answers. -/
abbrev ResultOf (σ : Type) := Host.Outcome σ Fault Refusal

/-! ### Registers, control and host side (chapters 12, 13, 14, 16, 17) -/

/-- The part of the module (R2, R3). -/
inductive Part where
  | s2048 | s1024
  deriving DecidableEq, Repr

/-- A register write on its way to the switch die, held while the IDL is untrained (R351). -/
structure RegWrite where
  agent : Agent
  ali : Nat
  off : Nat
  val : Word
  /-- 2 for a 32-bit access, 3 for a half of a 64-bit access (R353). -/
  size : Nat
  deriving DecidableEq, Repr

/-- A write that a register has taken: the register clock, the write, and the value that it found (R358). -/
structure TakenWrite where
  clk : Nat
  write : RegWrite
  old : Word
  deriving DecidableEq, Repr

/-- A far read that has not completed, and the clock at which it was issued (R351). -/
structure FarRead where
  agent : Agent
  ali : Nat
  off : Nat
  size : Nat
  since : Nat
  deriving DecidableEq, Repr

/-- One recorded access fault (R359). -/
structure AccFault where
  kind : Nat
  agent : Agent
  size : Nat
  ali : Nat
  off : Nat
  deriving DecidableEq, Repr

/-- The notification record kinds (R315, R331). -/
inductive RKind where
  | learn | age | fault | dump | step | weather
  deriving DecidableEq, Repr

/-- A notification record but for its RSEQ (R331 to R333). -/
structure NRec where
  kind : RKind
  sub : Nat
  arg : Nat
  w1 : Nat
  w2 : Nat
  w3 : Nat
  deriving DecidableEq, Repr

/-- A capture record but for its RSEQ (R335), with the ring it goes to and the mirror session it belongs to. -/
structure CapRec where
  ring : Nat
  session : Nat
  egress : Bool
  cls : Nat
  port : Nat
  srcMod : Nat
  ts : Nat
  hash : Nat
  flen : Nat
  data : List Byte
  deriving DecidableEq, Repr

/-- What the switch die has generated and not yet written to a ring: a group of records that is accepted or refused
together (one record, or the four of R333 for a stranger), or a capture record. -/
inductive PendRec where
  | notes (l : List NRec)
  | cap (c : CapRec)
  deriving DecidableEq, Repr

/-- A completion (R323). -/
structure Cpl where
  status : Nat
  reason : Nat := 0
  cookie : Nat := 0
  first : Nat := 0
  w1 : Nat := 0
  nent : Nat := 1
  tsValid : Bool := false
  flen : Nat := 0
  srcMod : Nat := 0
  srcPort : Nat := 0
  cls : Nat := 0
  egress : Bool := false
  session : Nat := 0
  hash : Nat := 0
  rule : Option Nat := none
  deriving DecidableEq, Repr

/-- One fetched ring entry: its index and its 32 bytes, or none where its read met an uncorrected memory error
(R306). -/
structure Entry where
  idx : Nat
  data : Option (List Byte)
  deriving DecidableEq, Repr

/-- How far the work of one unit of a ring has come. -/
inductive UnitSt where
  /-- Fetched whole, not yet started. -/
  | fetched (es : List Entry)
  /-- A checked transmit frame that waits for room in its receive buffer (R308): the bytes without FCS of each
  segment are read when it enters. -/
  | waiting (es : List Entry)
  /-- Started; its completion is not ready. -/
  | busy
  /-- Its completion is ready and held in its slot (R309). -/
  | done (c : Cpl)
  deriving DecidableEq, Repr

/-- One unit of work, which holds one holding slot (R309). -/
structure RUnit where
  id : Nat
  first : Nat
  nent : Nat
  cookie : Nat
  st : UnitSt
  /-- Its completion can no longer be written (R27). -/
  lost : Bool := false
  /-- The core clock in which it arrived (R90). -/
  clk : Nat := 0
  deriving DecidableEq, Repr

/-- A receive buffer descriptor read ahead (R311, R322). -/
structure RxBuf where
  idx : Nat
  addr : Nat
  len : Nat
  deriving DecidableEq, Repr

/-- The working state of one ring, beside its registers. -/
structure RingSt where
  /-- Enabled since the last reset of the switch die (R26, R313). -/
  everEn : Bool := false
  /-- After an entry to headless with cause 2 or 3 nothing more is written to host memory for the ring (R314). -/
  quiet : Bool := false
  /-- The units of work that hold slots, in order of first index (R310). -/
  units : List RUnit := []
  nextId : Nat := 0
  /-- Receive rings: descriptors read and not yet checked. -/
  raw : List Entry := []
  /-- Receive rings: valid descriptors, unreserved (R311). -/
  pre : List RxBuf := []
  /-- Receive rings: the next index to prefetch. -/
  preAt : Nat := 0
  /-- Receive rings: malformed descriptors completed ahead of HEAD. -/
  badAhead : List Nat := []
  /-- Entries written since the last raise, and the time of the first (R317). -/
  irqN : Nat := 0
  irqAt : Option Nat := none
  /-- The core clocks on the timer while moderation is off (R317). -/
  irqHeld : Option Nat := none
  /-- The clock of the last consumer doorbell that was accepted, and the HEAD before it (R310). -/
  freed : Option (Nat × Nat) := none
  deriving DecidableEq, Repr

/-- The running dump (R330). -/
structure DumpSt where
  ring : Nat
  unit : Nat
  space : Nat
  clear : Bool
  cookie : Nat
  next : Nat
  left : Nat
  written : Nat
  deriving DecidableEq, Repr

/-- One kind policer of the IDL (R291, R292): its bucket in bytes with 16 fractional bits, and the setting in
force. -/
structure IdlPol where
  bucket : Nat
  en : Bool
  rate : Nat
  burst : Nat
  deriving DecidableEq, Repr

/-- One direction of one virtual channel (R16, R290): the four places where its credit can be, and the transfers that wait: the
flits of each and of its response. -/
structure IdlVc where
  held : Nat
  flight : Nat := 0
  buffered : Nat := 0
  returning : Nat := 0
  waiting : List (Nat × Nat) := []
  deriving DecidableEq, Repr

/-- The arbiter of one direction of the link (R290): which of channels 0 and 1 was served last, and the deficit round robin of
channels 3 to 5. -/
structure IdlArb where
  last : Nat := 1
  ptr : Nat := 3
  deficit : List Nat := [0, 0, 0]
  deriving DecidableEq, Repr

/-- An entry of the MSI-X table (R286, R295). -/
structure MsixEntry where
  addr : DWord := 0#64
  data : Word := 0#32
  masked : Bool := true
  deriving DecidableEq, Repr

/-- A posted DMA write that waits for the link to be trained (R16): to the external host's memory or to host memory. -/
structure DmaWrite where
  ext : Bool
  addr : Nat
  data : List Byte
  deriving DecidableEq, Repr

/-- The host interface of the switch die, and host memory. -/
structure HostSt where
  rings : SMap RingSt := []
  /-- Host memory (R278), by physical address; an unlisted byte reads as zero. -/
  mem : SMap Byte := []
  /-- The memory of an external host, by PCIe bus address (R304). -/
  ext : SMap Byte := []
  /-- 64-byte blocks of host memory with an uncorrected error (R280), by block number. -/
  poison : List Nat := []
  /-- Records generated and not yet written or refused. -/
  recq : List PendRec := []
  /-- The fault backlog of R316, oldest first. -/
  faultLog : List (List NRec) := []
  /-- Ring that was last served among the transmit rings of each leaf pipeline (R308). -/
  txLast : SMap Nat := []
  dump : Option DumpSt := none
  /-- Dumps that wait for the engine, in order (R330). -/
  dumpq : List DumpSt := []
  deriving DecidableEq, Repr

/-- The control die beside its registers. -/
structure CtlSt where
  /-- Clock at which the IDL lost training. -/
  idlDownAt : Option Nat := none
  /-- Posted far writes held at the control-die end (R351), oldest first. -/
  heldWrites : List RegWrite := []
  heldReads : List FarRead := []
  /-- Access-fault messages of the control die held while the IDL is untrained (R359), at most 16. -/
  heldFaults : List AccFault := []
  faultsOver : Nat := 0
  /-- The application-domain reset message that waits while the IDL is untrained (R25). -/
  heldReset : Bool := false
  /-- Key-guarded writes of the keeper core in the running register clock: the clock and the offset (R20). -/
  keepKeyed : List (Nat × Nat) := []
  /-- Interrupts and event messages of the switch die held while the IDL is untrained. -/
  heldInts : List Nat := []
  /-- Times of the replays of the last microsecond (R289). -/
  replays : List Nat := []
  /-- MSI-X messages held (R295). -/
  msixHeld : List Nat := []
  /-- The MSI-X table (R286); an unlisted entry is as reset leaves it. -/
  msix : SMap MsixEntry := []
  /-- The register clock after the last interrupt of each vector, and whether it counted as a merge (R295). -/
  intAt : SMap (Nat × Bool) := []
  vcs : SMap IdlVc := []
  arbs : SMap IdlArb := []
  pols : SMap IdlPol := []
  /-- The core clock after the last refresh of the kind policers (R292). -/
  polAt : Nat := 0
  /-- DMA writes of the switch die that wait while the IDL is untrained, oldest first. -/
  heldDma : List DmaWrite := []
  /-- The mailbox served last (R284). -/
  mboxLast : Nat := 1
  /-- Keys (R360): the clock at which the open key of an agent closes. -/
  keySoft : Option Nat := none
  keyKeep : Option Nat := none
  /-- The one-time password set for Redfish account 0 (R284). -/
  firstAdmin : Option (List Byte) := none
  /-- Redfish sessions open (R285: at most 8). -/
  sessions : Nat := 0
  /-- The 8 Redfish accounts: the credential of each that has one (R285). -/
  accounts : SMap (List Byte) := []
  /-- The static address of the management port that Redfish has set (R285). -/
  address : Option (List Byte) := none
  /-- The application domain is held in reset or runs: number of application-domain resets taken. -/
  appResets : Nat := 0
  /-- The clock of the last change of KEEP_STATUS.HEARTBEAT, or the last at which the keeper core was not alive (R283). -/
  beatAt : Nat := 0
  deriving DecidableEq, Repr

/-- The SYS block beside its registers. -/
structure SysSt where
  part : Part := .s2048
  /-- The mask staged for groups 32 to 63 (R365). -/
  strobeHi : Word := 0#32
  /-- A requested entry to headless waits for the rings (R26). -/
  headlessReq : Bool := false
  /-- The register clock in which the switch die last entered headless (R25). -/
  headlessAt : Option Nat := none
  /-- Writes that registers have taken in the running register clock, newest first, with the value found (R358). -/
  taken : List TakenWrite := []
  /-- The register clock of the last snapshot (R369). -/
  snapAt : Option Nat := none
  /-- The notification backlog (R28), oldest first. -/
  backlog : List (List NRec) := []
  /-- Clock of the last reset of the switch die. -/
  switchAt : Nat := 0
  /-- The running snapshot clears the counters of the control die too (R369). -/
  snapClear : Bool := false
  /-- Clock at which a fuse blow started, and its bit. -/
  fuseAt : Option (Nat × Nat) := none
  /-- The last register clock with an access fault, the fault whose access R358 takes first in it, and whether
  SYS_ACCESS_FAULT shows it (R375). -/
  faultNow : Option (Nat × AccFault × Bool) := none
  /-- Slow writes in progress or waiting (R352): OPT and PWR. -/
  slowOpt : List RegWrite := []
  slowPwr : List RegWrite := []
  deriving DecidableEq, Repr

/-- One instance of a window kind (R419): the current bucket first. -/
structure WinSt where
  buckets : List Nat := []
  lasting : Bool := false
  /-- A memory-error record was written in the current bucket (R418). -/
  recorded : Bool := false
  /-- Sources counted in each bucket, for the lane kinds (R226). -/
  srcs : List (List Nat) := []
  deriving DecidableEq, Repr

/-- An entry of the fault log (R428), before its number is given. -/
structure LogEnt where
  origin : Nat
  record : NRec
  code : Nat := 0
  kind : Nat := 0
  inst : Nat := 0
  deriving DecidableEq, Repr

/-- Windows, ledgers and the fault log. -/
structure HltSt where
  /-- Key 512k + instance. -/
  wins : SMap WinSt := []
  /-- HLT_WIN_CFG in force, by kind (R420). -/
  winCfg : SMap Word := []
  /-- The last bucket boundary of each kind, in clocks since the last reset of the switch die (R419). -/
  bktAt : SMap Nat := []
  /-- Running totals of ledger terms since the last reset of the switch die, key 512 × term + instance. -/
  led : SMap Nat := []
  /-- Offsets of rebased instances (R426), key 512 × ledger + instance. -/
  offs : SMap Int := []
  /-- Last difference seen at a check. -/
  diffs : SMap Int := []
  /-- Clocks of the latest ledger fault records, the last one first (R424). -/
  recs : List Nat := []
  /-- Excused ledgers and the clock at which the excuse ends. -/
  excused : List (Nat × Nat) := []
  /-- Ledgers to rebase at the next check (R426, R427). -/
  rebase : List Nat := []
  /-- The last check made, in ms since the last reset of the switch die (R424). -/
  chkAt : Nat := 0
  /-- Entries generated and not yet given to flash, oldest first (R397). -/
  keepq : List LogEnt := []
  /-- The fault log in flash, by position (R428): the 64 bytes of each entry. -/
  flog : SMap (List Byte) := []
  logSeq : Nat := 0
  deriving DecidableEq, Repr
/-! ### Power, resets and flash (chapters 18, 19, 21) -/

/-- The state of a rail (R385, R386). -/
inductive SeqSt where
  /-- No rail is up: the keeper domain is down. -/
  | off
  /-- Rails 0 to 2 only: the keeper domain is up. -/
  | keeper
  /-- Rails 0 to 17, steeping (R389). -/
  | steep
  /-- Every rail is up. -/
  | up
  deriving DecidableEq, Repr

/-- A running dusk (R396), with what its record holds (R397). -/
structure DuskSt where
  t0 : Nat
  ts : Nat
  causes : List Nat
  stopped : Bool := false
  voltage : Nat
  power : Nat
  tCase : Int
  alloc : List Nat := []
  skyState : Word := 0#32
  lease : Word := 0#32
  deriving DecidableEq, Repr

/-- What the dusk region of flash holds (R397): the counter totals since power-on, whether it is final and carries its
commit marker, the dusk record, and the fault-log entries not yet in flash. -/
structure Checkpoint where
  final : Bool
  complete : Bool
  counts : SMap Nat
  dusk : Option DuskSt
  logs : List LogEnt
  deriving DecidableEq, Repr

/-- How an LED is driven (R441): dark, lit, flashing with a period in ms at 50 % duty, or dark for 100 ms every 2 s. -/
inductive Led where
  | dark | lit | flash (ms : Nat) | blink
  deriving DecidableEq, Repr

/-- The four LEDs. -/
structure Leds where
  power : Led
  status : Led
  sky : Led
  fault : Led
  deriving DecidableEq, Repr

/-- The last reset (R405): its register clock, its kind (0 power-on, 1 cold, 2 warm, 3 application domain, 4 block), and the keys
as they stood before it closed them. -/
structure ResetAt where
  clk : Nat
  kind : Nat
  keySoft : Option Nat
  keyKeep : Option Nat
  deriving DecidableEq, Repr

/-- The power controller and the keeper core beside their registers. -/
structure PwrSt where
  seq : SeqSt := .off
  /-- T_min for the sequence of R385, which goes on from rail 3 once the keeper firmware runs. -/
  starting : Option Int := none
  /-- The last reset; none once dawn has initialised the switch die after it and it is over. -/
  resetAt : Option ResetAt := none
  /-- Consecutive rail faults (R386) and the clock of the last one that is to be retried. -/
  railFails : Nat := 0
  railFaultAt : Option Nat := none
  steepAt : Option Nat := none
  /-- The steep has passed 300 s (R389). -/
  steepLate : Bool := false
  tripLatched : Bool := false
  dusk : Option DuskSt := none
  /-- Clock at which all rails went down at the end of a dusk. -/
  duskEndAt : Option Nat := none
  /-- A keeper restart has abandoned the final checkpoint of the running dusk (R283). -/
  abandoned : Bool := false
  /-- The switch die does not forward: it is unpowered or not initialised, or dusk has stopped it (R396, R408). -/
  stopped : Bool := true
  /-- Emergency quiet is asserted (R399). -/
  quiet : Bool := false
  /-- The engines shed now, and the committed order where one exists (R392): 32 engine numbers. -/
  shed : List Nat := []
  committed : Option (List Nat) := none
  /-- Dummy load in service (R390). -/
  dummy : Bool := false
  /-- Start of the current stretch of input power below 1,300 W (R384). -/
  lowSince : Option Nat := none
  /-- The application domain is held in reset. -/
  appHeld : Bool := true
  /-- The keeper domain has power (R440). -/
  keeperUp : Bool := false
  /-- The newest checkpoints in the dusk region, newest first. -/
  region : List Checkpoint := []
  /-- The last 100 ms boundary evaluated (R388), and the last second of a counter checkpoint (R397). -/
  evalAt : Nat := 0
  ckptAt : Nat := 0
  /-- The state that the LEDs hold through a keeper restart (R441), and a fixture reset request held for 10 s (R439). -/
  ledHeld : Option Leds := none
  requestHeld : Bool := false
  deriving DecidableEq, Repr

/-- The running operation of the NVM engine (R413). -/
structure NvmOp where
  op : Nat
  arg : Nat
  flash : Nat
  host : Nat
  len : Nat
  /-- A Redfish push carries its image (R285). -/
  image : Option (List Byte) := none
  deriving DecidableEq, Repr

/-- One configuration copy with a valid record (R415). -/
structure CfgCopy where
  seq : Nat
  deriving DecidableEq, Repr

/-- Flash, the boot selection and the NVM engine. -/
structure NvmSt where
  /-- Flash by byte address (R281); an unlisted byte is erased. -/
  flash : SMap Byte := []
  /-- States of the slots (R409): 0 EMPTY, 1 INCOMPLETE, 2 VALID, 3 BAD. -/
  slotA : Nat := 2
  slotB : Nat := 0
  cfg0 : Option CfgCopy := none
  cfg1 : Option CfgCopy := none
  op : Option NvmOp := none
  /-- Boots of the slot on trial since SWITCH (R410), and the clock of the trial boot. -/
  trialBoots : Nat := 0
  trialAt : Option Nat := none
  /-- NVM_BOOT_SEL as flash holds it (R417); the register differs until the write reaches flash. -/
  bootFlash : Word := 0x00025800#32
  bootPend : Bool := false
  /-- Fuses of the factory. -/
  fuses : Word := 0#32
  /-- The recovery loader runs on the application cores. -/
  recovery : Bool := false
  /-- The slot that the application domain last booted, and the slot whose keeper firmware runs. -/
  booted : Nat := 0
  keeper : Nat := 0
  /-- Clock at which the keeper core was started (R412). -/
  keeperFwAt : Option Nat := none
  deriving DecidableEq, Repr
/-! ### Parser, rules, edits and tables (chapters 3, 4) -/

/-- One rule entry (R71) with the parity of its four parts (R72): a `bad` part fails its parity. No command makes a stored
part fail; a state may hold one that does (DESIGN CHOICE, log 14). -/
structure Rule where
  key : BitVec 640 := 0#640
  mask : BitVec 640 := 0#640
  profile : Nat := 0
  pmask : Nat := 0
  egress : Bool := false
  action : BitVec 128 := 0#128
  valid : Bool := false
  badKey : Bool := false
  badMask : Bool := false
  badAct : Bool := false
  badCtl : Bool := false
  deriving DecidableEq, Repr

/-- The staging slot of one table-write ring (R73): the parts staged for one entry. -/
structure Staging where
  index : Nat
  /-- KEY, PROFILE and STAGE. -/
  key : Option (BitVec 640 × Nat × Bool) := none
  mask : Option (BitVec 640 × Nat) := none
  action : Option (BitVec 128) := none
  deriving DecidableEq, Repr

/-- One edit program, with its parity (R83). -/
structure EditProg where
  prog : BitVec 256
  bad : Bool := false
  deriving DecidableEq, Repr

/-- One push template, with its parity (R83, R328). -/
structure Template where
  bytes : List Byte
  vni : Nat
  bad : Bool := false
  deriving DecidableEq, Repr

/-- One header record of a walk (R63). -/
structure Hdr where
  typ : Nat
  off : Nat
  len : Nat
  deriving DecidableEq, Repr

/-- What an edit program reads when a frame takes it: the program, its template, and the tunnel ports in force (R64). -/
structure EditPlan where
  prog : Nat
  tmpl : Template
  vxlan : Nat
  geneve : Nat
  deriving DecidableEq, Repr

/-- The parser and classifier beside their registers. -/
structure ClsSt where
  rules : SMap Rule := []
  staging : SMap Staging := []
  edits : SMap EditProg := []
  tmpls : SMap Template := []
  /-- Flow counters in HBM (R78): frames and bytes. -/
  flows : SMap (DWord × DWord) := []
  deriving DecidableEq, Repr

/-- The key of a hashed table entry (R88). -/
inductive TKey where
  | mac (fid mac : Nat)
  | host (vrf : Nat) (v6 : Bool) (addr : Nat)
  | lpm (vrf : Nat) (v6 : Bool) (addr len : Nat)
  deriving DecidableEq, Repr

/-- An entry of the MAC, host or LPM table: the fields that a table does not use are zero. -/
structure Ent where
  key : TKey
  kind : Nat := 0
  target : Nat := 0
  ecmp : Bool := false
  static : Bool := false
  ageEn : Bool := false
  hit : Bool := false
  aged : Bool := false
  deriving DecidableEq, Repr

/-- One used slot of the hashed partitions (R87): an entry, or the second slot of an entry (none); `bad` where its parity
fails (DESIGN CHOICE, log 14), `pair` the other slot of an entry of two. -/
structure Slot where
  ent : Option Ent
  bad : Bool := false
  pair : Option Nat := none
  deriving DecidableEq, Repr

/-- A length filter (R98, R99). -/
structure Filter where
  count : Nat
  lens : List Nat
  bad : Bool := false
  deriving DecidableEq, Repr

/-- A next-hop entry. -/
structure NextHop where
  valid : Bool
  kind : Nat
  target : Nat
  decTtl : Bool
  editEn : Bool
  edit : Nat
  bad : Bool := false
  deriving DecidableEq, Repr

/-- An ECMP group entry. -/
structure EcmpGroup where
  base : Nat
  size : Nat
  bad : Bool := false
  deriving DecidableEq, Repr

/-- An ECMP member entry. -/
structure EcmpMember where
  nh : Nat
  bad : Bool := false
  deriving DecidableEq, Repr

/-- A LAG member entry. -/
structure LagMember where
  valid : Bool
  mod : Nat
  port : Nat
  bad : Bool := false
  deriving DecidableEq, Repr

/-- A candidate of the learning cache (R105): its location as a MAC entry's KIND and TARGET, the old location of a
move, and, once NOTIFIED, the clock at which its hold timer ends. -/
structure Cand where
  fid : Nat
  mac : Nat
  kind : Nat
  target : Nat
  moved : Option (Nat × Nat)
  notified : Option Nat := none
  /-- The pipeline that offered it and the core clock in which it took its entry. -/
  pipe : Nat := 0
  clk : Nat := 0
  deriving DecidableEq, Repr

/-- The forwarding tables and the candidate cache. -/
structure TblSt where
  slots : SMap Slot := []
  /-- Key: 1,114,112 × bank + index, IPv6 filters from 65,536 on. -/
  filters : SMap Filter := []
  nhs : SMap NextHop := []
  groups : SMap EcmpGroup := []
  members : SMap EcmpMember := []
  lags : SMap LagMember := []
  /-- Entries not FREE, PENDING ones in the order in which they became so. -/
  cache : List Cand := []
  /-- Clock up to which a halted sweep has counted its halt (R110). -/
  stallAt : Option Nat := none
  /-- The first slot and the number of slots of a clear that runs (R113). -/
  clearing : Option (Nat × Nat) := none
  deriving DecidableEq, Repr


/-! ### Leaf ports (chapter 2) -/

/-- One leaf lane of an LZ400 receiver (R38): aligned since a clock, with its LANE_ID. -/
structure LaneSt where
  alignedAt : Nat
  id : Nat
  deriving DecidableEq, Repr

/-- A pause command that waits for the end of the frame in transmission (R47): the class and the clock at which the
pause ends. -/
structure PausePend where
  cls : Nat
  till : Nat
  deriving DecidableEq, Repr

/-- A mirror copy of a frame in transmission, made when the original has left whole (R339). -/
structure CopyPend where
  session : Nat
  /-- The session's settings at its stage decision (R349, R367). -/
  cfg : Word
  dest : Word
  cls : Nat
  ruleHash : Nat
  srcMod : Nat
  srcPort : Nat
  deriving DecidableEq, Repr

/-- The egress decision of a frame, taken at its start and kept to its end (R61, R64, R79): the records of its walk, the
edit program as read, the hash, the flow counter and the mirror session that the rule gives, and the marking of R178. -/
structure EgrDec where
  hdrs : List Hdr := []
  plan : Option EditPlan := none
  hash : Nat := 0
  counter : Option Nat := none
  mirror : Option Nat := none
  marked : Bool := false
  inner : Bool := false
  deriving DecidableEq, Repr

/-- A frame in transmission on a leaf port. -/
structure TxSt where
  cls : Nat
  start : Nat
  /-- The TS64 of its first bit (R276). -/
  ts : Nat
  /-- The bytes sent, FCS included, where the frame was whole at its start; none for a cut-through start on a part. -/
  data : Option (List Byte)
  dec : EgrDec
  copy : Option CopyPend := none
  /-- The round of R167 that chose it. -/
  round : Nat := 1
  deriving DecidableEq, Repr

/-- The line coder of one lane of an LZ400 transmitter (R36, R37): the running BIP of this period, the PAM4 level sent last,
and the first codeword of a pair. -/
structure LaneCode where
  bip : Nat := 0
  level : Nat := 0
  held : Option (List Nat) := none
  deriving DecidableEq, Repr

/-- The transmitter of a port below its MAC. Positions count 8-byte blocks of the MAC stream since power-on. -/
structure LineSt where
  /-- Position from which the next frame may start, and the deficit idle count (R42). -/
  free : Nat := 0
  dic : Nat := 0
  /-- Blocks of the MAC stream coded so far (R36). -/
  pos : Nat := 0
  /-- Idle blocks still to be deleted for markers. -/
  owed : Nat := 0
  /-- 66-bit blocks that wait for transcoding, and 257-bit blocks that wait for a codeword. -/
  blocks : List (List Bool) := []
  words : List (List Bool) := []
  /-- The scrambler's last 58 bits. -/
  scr : Nat := 0
  /-- Codewords made since the port began to train. -/
  cw : Nat := 0
  lanes : SMap LaneCode := []
  deriving DecidableEq, Repr

/-- One leaf port beside its registers. -/
structure PortSt where
  /-- Clock since which all lanes of the port are aligned without a break (R39). -/
  ready : Option Nat := none
  /-- Clock at which the flap hold ends (R58). -/
  holdTill : Option Nat := none
  /-- Clock at which the pause of a class ends, by class (R46). -/
  paused : SMap Nat := []
  pend : List PausePend := []
  /-- Clock at which the stall time of a class started (R49); key 8 is the port as a whole. -/
  stall : SMap Nat := []
  /-- Clock at which the watchdog hold-off of a class ends. -/
  holdoff : SMap Nat := []
  /-- Classes that trigger pause (R48). -/
  trig : List Nat := []
  /-- Pause frames to be sent (R48): class (8 for PAUSE) and time. -/
  pauseOut : List (Nat × Nat) := []
  /-- Clock of the last pause frame per class; key 8 for PAUSE. -/
  pausedAt : SMap Nat := []
  tx : Option TxSt := none
  /-- Start of the 1 s interval of R54. -/
  ctAt : Nat := 0
  /-- Clock at which the wake pattern started (R57). -/
  wakeAt : Option Nat := none
  /-- Times of the uncorrectable codewords of the last millisecond (R39). -/
  uncorr : List Nat := []
  /-- Deficit of each class and the pointers of rounds 2 and 3 (R168). -/
  deficit : SMap Nat := []
  ptr2 : Nat := 0
  ptr3 : Nat := 0
  /-- The frame that is being received, and whether the receive buffer has refused it (R39, R43, R118). -/
  rx : Option (RxFrame × Bool) := none
  line : LineSt := {}
  deriving DecidableEq, Repr

/-- Egress lookups started in a core clock (R119), and whether a frame has waited in it. -/
structure LookSt where
  clk : Nat := 0
  n : Nat := 0
  waited : Bool := false
  deriving DecidableEq, Repr

/-- The leaf groups, ports and lanes. -/
structure LeafSt where
  ports : SMap PortSt := []
  lanes : SMap LaneSt := []
  /-- Sample counts of R347, by leaf pipeline. -/
  samples : SMap Nat := []
  /-- Session counts of R338, key 16 × session + pipeline. -/
  copies : SMap Nat := []
  /-- Egress and ingress lookups of each pipeline (R117, R119). -/
  looks : SMap LookSt := []
  inLooks : SMap LookSt := []
  deriving DecidableEq, Repr

/-! ### Cells, the crossbar, tiles and queues (chapters 5, 6, 7) -/

/-- What the module keeps beside each cell of a frame. -/
structure Tag where
  /-- The port and class 8p + c to which the cell is charged (R166). -/
  org : Option Nat := none
  /-- Relay key K (R234). -/
  rk : Nat := 0
  /-- The symmetric hash of the ingress walk; none for a frame from the sky. -/
  hash : Option Nat := none
  /-- The leaf port on which the frame entered this module (R51). -/
  port : Option Nat := none
  /-- Transmit ring and unit of a frame that is completed by its last cell or at its egress (R308). -/
  tx : Option (Nat × Nat) := none
  /-- The completion carries the egress time (R308). -/
  txTs : Bool := false
  /-- Session of a mirror copy that counts as delivered with its last cell (R345). -/
  copy : Option Nat := none
  /-- Ingress time of a frame that entered on a leaf port of this module (R325). -/
  ts : Nat := 0
  /-- Clock at which the cell was admitted to its queue (R162). -/
  at_ : Nat := 0
  /-- Clock at which the cell took its present pool D tile in a sky queue (R235). -/
  die : Nat := 0
  /-- A relay cell that counts in the credit outstanding to its source (R240). -/
  due : Bool := false
  /-- Clock of the frame's ingress lookup, from which its cells may enter the crossbar (R117, R122). -/
  ready : Nat := 0
  deriving DecidableEq, Repr

/-- A cell: its header (R212) and its payload (R120), with the tag. -/
structure Cell where
  /-- 0 middle, 1 first, 2 last, 3 only. -/
  kind : Nat := 0
  relay : Bool := false
  cls : Nat := 0
  srcMod : Nat := 0
  srcPort : Nat := 0
  dstMod : Nat := 0
  dstPort : Nat := 0
  seq : Nat := 0
  flen : Nat := 0
  ecn : Nat := 0
  mirror : Bool := false
  pay : List Byte := []
  tag : Tag := {}
  deriving DecidableEq, Repr

/-- A cell on its way through the crossbar, with its crossbar tag (R125). -/
structure XCell where
  cell : Cell
  src : Nat
  out : Nat
  queue : Nat
  abort : Bool := false
  xseq : Nat := 0
  /-- Core clock at which it was staged on its plane. -/
  at_ : Nat := 0
  /-- Pool D tile that it holds until it enters the crossbar (R247, R250). -/
  tile : Option Nat := none
  /-- Receive-buffer bytes that are freed when it enters (R118). -/
  rel : Nat := 0
  /-- The cell failed a CRC at its plane output (R132). -/
  bad : Bool := false
  deriving DecidableEq, Repr

/-- The reorder store of one output for one input (R131). -/
structure ReoSt where
  next : Nat := 0
  held : List XCell := []
  /-- Clock since which the present gap is unfilled (R134). -/
  gapAt : Option Nat := none
  /-- Frame outputs: the queue of the frame left open, and whether its cells are discarded (R133). -/
  openQ : Option Nat := none
  skip : Bool := false
  deriving DecidableEq, Repr

/-- The crossbar. -/
structure XbarSt where
  /-- Cells of each input that wait to enter the crossbar, in order. -/
  feed : SMap (List XCell) := []
  /-- Staged cells, key (32 × input + output) × 16 + plane (R126). -/
  stage : SMap (List XCell) := []
  /-- Next XSEQ, credit spent, and the plane after the last one used, key 32 × input + output (R126, R127). -/
  nextSeq : SMap Nat := []
  spent : SMap Nat := []
  rr : SMap Nat := []
  /-- Grant and accept pointers, key 32 × plane + port (R129). -/
  grant : SMap Nat := []
  accept : SMap Nat := []
  /-- The last cell time that each plane matched, plus 1. -/
  matched : SMap Nat := []
  /-- Cells that cross, key 32 × plane + output. -/
  cross : SMap (List XCell) := []
  /-- Reorder stores, key 32 × output + input. -/
  reo : SMap ReoSt := []
  /-- Planes that are enabled and free of fault marks again, with the cell time of that (R136). -/
  back : List (Nat × Nat) := []
  deriving DecidableEq, Repr

/-- A tile that is not FREE (R144): ALLOC, or QUAR with the passes of R157. -/
structure TileSt where
  quar : Bool := false
  passes : Nat := 0
  retired : Bool := false
  deriving DecidableEq, Repr

/-- The tiles of the pools, and what the ports of the free stores have done. -/
structure BufSt where
  /-- Tiles that are not FREE, key 2^28 × pool + tile, pool 4 for D. -/
  tiles : SMap TileSt := []
  /-- Tiles of P0 to P3 in force. -/
  carved : List Nat := [0, 0, 0, 0]
  /-- The core clock after the last free of each bank of pool D, and of each HBM pool at key 256 + pool (R139). -/
  freeAt : SMap Nat := []
  /-- Tiles freed lately, with the core clock from which each can be allocated again (R139). -/
  freed : List (Nat × Nat) := []
  /-- The core clock after the last allocation of each requester slot of pool D (R148), and of each HBM pool's port at key
  256 + pool (R150). -/
  taken : SMap Nat := []
  /-- Reservations granted in a core clock (R149): the clock, and slot and tiles of each. -/
  grantAt : Nat := 0
  grants : List (Nat × Nat) := []
  /-- Metadata records in HBM by byte address (R155); an unlisted record is zero. -/
  metas : SMap Nat := []
  deriving DecidableEq, Repr

/-- A unit of a queue (R151, R161). -/
structure QUnit where
  /-- Cells that it counts in Q (R162). -/
  n : Nat
  /-- Its cells with their pool D tiles; a spilled unit's cells hold none. -/
  cells : List (Nat × Cell)
  /-- Crossbar input from which its cells come. -/
  src : Nat
  closed : Bool := false
  /-- An ABORT cell or a discard ended it after its transmission had begun. -/
  aborted : Bool := false
  marked : Bool := false
  started : Bool := false
  /-- Admission clock (R162). -/
  at_ : Nat
  /-- Pool D tiles still reserved for it (R149). -/
  rsv : Nat := 0
  /-- Frame length: L, or the bound B until the last cell (R123). -/
  flen : Nat := 0
  /-- It is to be spilled (R152). -/
  spill : Bool := false
  /-- The HBM pool and tile that hold it. -/
  hbm : Option (Nat × Nat) := none
  /-- A cell that was chosen for a burst and returned (R249): its place in the order of choice. -/
  rank : Option Nat := none
  deriving DecidableEq, Repr

/-- A queue (R161). -/
structure Queue where
  units : List QUnit := []
  /-- A unit was left in pool D under R153, and Qd has not since been at or below the share (R164). -/
  bound : Bool := false
  /-- Deficit in cells of a sky queue (R169). -/
  deficit : Nat := 0
  deriving DecidableEq, Repr

/-- A shaper with the setting in force (R171 to R173). -/
structure ShSt where
  mode : Nat := 0
  inc : Nat := 0
  pir : Nat := 0
  hi : Nat := 0x2600
  lo : Nat := 0x2600
  c : Int := 0
  tc : Int := 0
  tp : Int := 0
  /-- Clock of the last refresh, plus 1. -/
  last : Nat := 0
  /-- Settings of the refreshes since the start of a cut-through frame whose length is not yet known (R123, R171). -/
  late : List (Nat × Nat × Nat × Nat × Nat) := []
  deriving DecidableEq, Repr

/-- A policer with the setting in force, its bucket and its counters in HBM (R174). -/
structure PolSt where
  en : Bool := false
  rate : Nat := 0
  burst : Nat := 0
  bucket : Nat := 0
  pass : DWord := 0#64
  drop : DWord := 0#64
  last : Nat := 0
  deriving DecidableEq, Repr

/-- The traffic manager. -/
structure TmSt where
  /-- Leaf queue 8p + c; sky pipeline p: 2,048 + 1,280 p + QUEUE. -/
  queues : SMap Queue := []
  /-- Cells charged to a port and class 8p + c (R166). -/
  charge : SMap Nat := []
  /-- Port p at key p, class c of port p at key 256 + 8p + c. -/
  shapers : SMap ShSt := []
  pols : SMap PolSt := []
  /-- For each queue, the core clock of its last change plus 1, and its Q before that clock (R165). -/
  was : SMap (Nat × Nat) := []
  /-- The core clock after the last sample (R179). -/
  wxAt : Nat := 0
  /-- Watch entries with a record not delivered (R181). -/
  wxLost : List Nat := []
  /-- The weather log (R181): 32-byte entries by HBM byte address, and the records made. -/
  wxLog : SMap (List Byte) := []
  wxSeq : Nat := 0
  deriving DecidableEq, Repr

/-! ### The sky (chapters 8, 9, 10) -/

/-- A slot of sky time. -/
structure SlotId where
  epoch : Nat
  slot : Nat
  deriving DecidableEq, Repr

/-- A cell chosen for a position of a burst (R235): its queue, its pool D tile, and whether it goes as a relay cell. -/
structure Chosen where
  /-- The burst's destination and the order of choice. -/
  dst : Nat
  rank : Nat
  pos : Nat
  queue : Nat
  tile : Nat
  cell : Cell
  relay : Bool
  deriving DecidableEq, Repr

/-- A cell in the deskew store (R228). -/
structure Desk where
  slot : SlotId
  lane : Nat
  pos : Nat
  tile : Nat
  cell : Cell
  /-- The module that sent the burst. -/
  from_ : Nat
  deriving DecidableEq, Repr

/-- One sky lane. -/
structure SkyLane where
  /-- Balance D of R217, in cells with 48 fractional bits. -/
  d : Int := 0
  /-- The slot for which cells were chosen, and the cells (R235). -/
  fill : Option SlotId := none
  chosen : List Chosen := []
  /-- The last slot sent. -/
  sent : Option SlotId := none
  /-- Data slot for which D was last updated, its justification code, and whether its last position is data. -/
  dAt : Option SlotId := none
  code : Nat := 0
  lastData : Bool := true
  /-- TRACE_IDX counter by destination (R221). -/
  trace : SMap Nat := []
  /-- Destination served last by the relay fill (R238), plus 1. -/
  relayPtr : Nat := 0
  /-- Epoch of the last sync slot with a burst that passed step 1, plus 1 (R251). -/
  syncAt : Nat := 0
  /-- The selection for a slot has begun since the lane last stopped (R249). -/
  live : Bool := false
  deriving DecidableEq, Repr

/-- Trace assembly of one source on one lane (R222). -/
structure TraceSt where
  buf : SMap Byte := []
  have_ : List Nat := []
  mis : Nat := 0
  ok : Nat := 0
  stranger : Bool := false
  deriving DecidableEq, Repr

/-- Movements of one epoch between this module and a peer (R242): grants given and received, relay cells sent and
received. -/
structure PairEp where
  epoch : Nat
  gr : Nat := 0
  rg : Nat := 0
  sent : Nat := 0
  recv : Nat := 0
  deriving DecidableEq, Repr

/-- Pair state with a peer (R240 to R244). -/
structure PairSt where
  gr : Nat := 0
  rg : Nat := 0
  sent : Nat := 0
  recv : Nat := 0
  hist : List PairEp := []
  join : Option Nat := none
  asof : Option Nat := none
  relayEn : Bool := false
  /-- Epoch of the last accepted hello (R196). -/
  hello : Nat := 0
  deriving DecidableEq, Repr

/-- A held cell of a resequencer context (R246). -/
structure Held where
  seq : Nat
  tile : Nat
  cell : Cell
  at_ : Nat
  deriving DecidableEq, Repr

/-- A resequencer context (R245, R246). -/
structure Reseq where
  synced : Bool := false
  next : Nat := 0
  held : List Held := []
  /-- The open frame, oldest cell first; empty where none is open. -/
  opened : List (Nat × Cell) := []
  skip : Bool := false
  deriving DecidableEq, Repr

/-- The sky side beside its registers. -/
structure SkySt where
  lanes : SMap SkyLane := []
  /-- Key 128 × lane + source. -/
  traces : SMap TraceSt := []
  pairs : SMap PairSt := []
  /-- Contexts, key 8 × source + class. -/
  reseq : SMap Reseq := []
  desk : List Desk := []
  /-- Smooth weighted round robin (R128, R239): key (128 × input + d) × 16 + p, current weight. -/
  wrr : SMap Int := []
  /-- Round robin to all pipelines where every share is zero (R128), key 128 × input + d. -/
  wrr0 : SMap Nat := []
  /-- Pointers of the rounds of R169, key 128 × p + d. -/
  rounds : SMap Nat := []
  /-- Data positions offered and used toward each destination in the running epoch and the last completed one
  (R236). -/
  offered : SMap Nat := []
  used : SMap Nat := []
  offeredLast : SMap Nat := []
  usedLast : SMap Nat := []
  /-- Latest spare level advertised, key 128 × r + destination (R236). -/
  spare : SMap Nat := []
  /-- Relay candidates of each destination (R237). -/
  cands : SMap (List Nat) := []
  /-- The epoch whose start was processed last. -/
  epoch : Nat := 0
  /-- The arm that is being checked (R190): the clock at which it started, bank, MAP_ID, E_a. -/
  arming : Option (Nat × Nat × Nat × Nat) := none
  /-- An armed map has applied since the last accepted arm, and no DISARM has been written since (R191). -/
  lateArmed : Bool := false
  /-- E_a of the armed bank. -/
  applyAt : Nat := 0
  /-- Slip balance L (R219), in cells with 16 fractional bits, and FILL. -/
  slip : Int := 0
  fill : Nat := 1
  /-- Settings that apply at an epoch boundary (R230, R254, R277), by aperture offset. -/
  inForce : SMap Word := []
  /-- Lanes shed by simmer (R391) and lanes held dark. -/
  shedLanes : List Nat := []
  /-- JOINED at the boundary after a founding step (R267). -/
  founding : Bool := false
  /-- The sky map M(E) of the running epoch and, the latest first, of those before (R193, R194); none before any
  announcement. -/
  mapNow : Option Nat := none
  mapOld : List (Option Nat) := []
  /-- The epoch at which LISTEN was last left (R251). -/
  since : Nat := 0
  /-- What the sky cell clock has counted since the last epoch began, in 2^-48 cell times the units of an epoch (R257). -/
  cellClk : Nat := 0
  /-- Peers served with half-rate bursts in the running epoch (R208). -/
  halfMods : List Nat := []
  /-- Cells chosen for bursts so far. -/
  picks : Nat := 0
  deriving DecidableEq, Repr

/-! ### Sky time (chapter 11) -/

/-- A time frame taken from a module on a lane (R261, R262): TX_TS, the receive time, the lane and the epoch. -/
structure TimeRx where
  mod : Nat
  lane : Nat
  txTs : Nat
  rxTs : Nat
  epoch : Nat
  deriving DecidableEq, Repr

/-- A measured value with its epoch. -/
structure Meas where
  v : Int
  epoch : Nat
  deriving DecidableEq, Repr

/-- The sky-time unit beside its registers. -/
structure TimeSt where
  /-- TS64 with 48 fractional bits (R256), and its value in the core clock before. -/
  ts : Nat := 0
  before : Nat := 0
  /-- Latest time frame received, key 128 × lane + source. -/
  rx : SMap TimeRx := []
  /-- Offsets o_ij by peer j, in half units of TS64 (R262). -/
  offs : SMap Meas := []
  /-- Sums S_jk(n) in half units, key (lane × 128 + j) × 128 + k with j < k. -/
  sums : SMap Meas := []
  /-- Offsets with the holder taken in the running epoch, in half units (R264). -/
  fresh : List Int := []
  /-- θ and f (R264): θ in 1/16 ps. -/
  th : Int := 0
  f : Int := 0
  /-- Consecutive boundaries within JOIN_PS (R449). -/
  good : Nat := 0
  /-- The latest frame with HOLDER set: source, CANDIDATE, epoch and clock. -/
  holder : Option (Nat × Nat × Nat × Nat) := none
  /-- Consecutive epochs with a frame with HOLDER set (R266), and the EPOCH_LO of the last of them. -/
  run : Nat := 0
  runAt : Nat := 0
  /-- Receive timestamps of the recognised holder's sync bursts (R266): lane, EPOCH_LO, epoch by the own counter, and
  receive time. -/
  marks : List (Nat × Nat × Nat × Nat) := []
  /-- L of R268. -/
  leaseEnd : Nat := 0
  /-- This module's lease: E_t, its end, the renewal multiples; none while it holds none. -/
  heldAt : Option Nat := none
  ownEnd : Nat := 0
  /-- Released by this module since L was last taken (R269); a released lease's end is shown until another holder is
  recognised (R261). -/
  released : Bool := false
  /-- Values of LEASE_END announced since E_t, and the peers that carried one of them (R271). -/
  announced : List Nat := []
  echoes : List Nat := []
  checked : Bool := false
  /-- Last epoch, by own counter, in which a frame with HOLDER set was taken since LISTEN or entry (R267, R273). -/
  heardAt : Nat := 0
  /-- Clock of the last such frame, if one was taken (R274). -/
  heardClk : Option Nat := none
  /-- The module's step since it entered LISTEN was the founding step (R449). -/
  founder : Bool := false
  /-- The next offset from a holder is the first after lull or after yielding (R274). -/
  firstOff : Bool := false
  /-- Diagnosis bits as of the last boundary (R270). -/
  diag : Nat := 0
  /-- The frequency monitor finds the root and the oven oscillator apart (R270). -/
  oscApart : Bool := false
  /-- The role in force (R268). -/
  role : Nat := 0
  /-- End of the lease that this module has released, until it recognises another holder (R261). -/
  relEnd : Option Nat := none
  /-- The TAI offset in effect (R275). -/
  tai : Nat := 0
  deriving DecidableEq, Repr
/-! ### What leaves the module -/

/-- An event seen outside the module. -/
inductive OutEv where
  /-- A frame leaves a leaf port; `whole` is false where the transmission was cut off or ended with a complemented FCS
  (R24, R53). -/
  | frame (port : Nat) (bytes : List Byte) (whole : Bool)
  /-- An MSI-X message for a vector, from its table entry (R295). -/
  | msix (v : Nat) (addr : DWord) (data : Word)
  /-- The data of a register read (R353, R355, R368). -/
  | readData (agent : Agent) (size : Nat) (value : Nat)
  /-- An error response to a far read (R351). -/
  | readError (agent : Agent)
  /-- A Redfish answer: HTTP status and the values that the resource shows (R285). -/
  | redfish (status : Nat) (values : List Int)
  /-- A burst leaves on a sky lane (R205): its channel (R184), the half-rate layout,
  the slot header of R209, the 256 bytes of each position, the PAM4 levels on the fibre from the first preamble symbol on
  (R202 to R204), and the reading of the counter at which that symbol is launched, in 1/1,000 unit of TS64 (R263). -/
  | burst (lane chan : Nat) (half : Bool) (hdr : List Byte) (cells : List (List Byte)) (line : List Nat) (launch : Int)
  /-- Two interleaved codewords leave on an LZ400 leaf lane, as PAM4 levels (R36). -/
  | lane (lane : Nat) (levels : List Nat)
  /-- The wake pattern leaves on a leaf port's lowest lane (R57). -/
  | wake (port : Nat) (pattern : Nat)
  /-- A core meets an access fault on host memory (R280). -/
  | accessFault (addr : Nat)
  deriving DecidableEq, Repr

/-! ### The state -/

/-- The whole machine. -/
structure State where
  /-- Registers in force, by aperture offset; an unlisted register holds its reset value (R373). -/
  regs : SMap Word := []
  /-- Shadows of the shadowed registers (R363). -/
  shadow : SMap Word := []
  /-- Counters (R13), by aperture offset of the low word. -/
  cnts : SMap DWord := []
  /-- Counts since power-on, which no read clears (R397, R421). -/
  tot : SMap Nat := []
  /-- Holding registers of the counter snapshot (R369). -/
  hold : SMap DWord := []
  /-- High words captured by each agent (R355): key 2^28 × agent + offset of the high word. -/
  pairs : SMap Word := []
  /-- Core clocks since power-on. -/
  now : Nat := 0
  /-- Counter of free values: the model's own field (log 1). -/
  free : Nat := 0
  /-- What has left the module, newest first. -/
  out : List OutEv := []
  sys : SysSt := {}
  ctl : CtlSt := {}
  host : HostSt := {}
  hlt : HltSt := {}
  pwr : PwrSt := {}
  nvm : NvmSt := {}
  cls : ClsSt := {}
  time : TimeSt := {}
  tbl : TblSt := {}
  leaf : LeafSt := {}
  xbar : XbarSt := {}
  buf : BufSt := {}
  tm : TmSt := {}
  sky : SkySt := {}
  /-- The commands that wait, first in, first out. -/
  pending : List Instr := []
  deriving DecidableEq, Repr

/-- The machine right after power-on reset: every register at the value the spec states, nothing queued. -/
def State.reset : State := {}

end Sys2Proof.Machine
end

