-- ==== Sys2Proof/Machine/Ops.lean ====
section
/-!
DEFINITION. The named operations over registers, counters, free values, outgoing events and ledger terms.
Everything else reads and writes the register file and the counters through these.
-/
namespace Sys2Proof

namespace Machine

/-- What a meaning answers. -/
abbrev Result := Host.Outcome State Fault Refusal

/-! ### Registers and counters -/

/-- The value in force of a register (R363). -/
def State.reg (s : State) (r : Reg) (i : Nat := 0) (j : Nat := 0) : Word :=
  SMap.getD s.regs (r.off i j) (r.resetOf i j)

/-- Set the value in force. -/
def State.setReg (s : State) (r : Reg) (w : Word) (i : Nat := 0) (j : Nat := 0) : State :=
  { s with regs := SMap.put s.regs (r.off i j) (r.resetOf i j) w }

/-- The shadow of a shadowed register (R363). -/
def State.shad (s : State) (r : Reg) (i : Nat := 0) (j : Nat := 0) : Word :=
  SMap.getD s.shadow (r.off i j) (r.resetOf i j)

/-- Set a shadow. -/
def State.setShad (s : State) (r : Reg) (w : Word) (i : Nat := 0) (j : Nat := 0) : State :=
  { s with shadow := SMap.put s.shadow (r.off i j) (r.resetOf i j) w }

/-- A field in force. -/
def State.fld (s : State) (f : Fld) (i : Nat := 0) (j : Nat := 0) : Nat := f.get (s.reg f.reg i j)

/-- A field in force as a truth value. -/
def State.flag (s : State) (f : Fld) (i : Nat := 0) (j : Nat := 0) : Bool := s.fld f i j != 0

/-- Set a field in force. -/
def State.setFld (s : State) (f : Fld) (v : Nat) (i : Nat := 0) (j : Nat := 0) : State :=
  s.setReg f.reg (f.set (s.reg f.reg i j) v) i j

/-- A 64-bit value held in two registers, low word first. -/
def State.reg64 (s : State) (lo hi : Reg) (i : Nat := 0) : Nat := (s.reg lo i).toNat + 2 ^ 32 * (s.reg hi i).toNat

/-- Set a 64-bit value held in two registers. -/
def State.setReg64 (s : State) (lo hi : Reg) (v : Nat) (i : Nat := 0) : State :=
  (s.setReg lo (BitVec.ofNat 32 v) i).setReg hi (BitVec.ofNat 32 (v / 2 ^ 32)) i

/-- The live value of a counter. -/
def State.cnt (s : State) (c : Cnt) (i : Nat := 0) (j : Nat := 0) : DWord := SMap.getD s.cnts (c.off i j) 0#64

/-- The count of a counter since power-on (R397). -/
def State.total (s : State) (c : Cnt) (i : Nat := 0) (j : Nat := 0) : Nat := SMap.getD s.tot (c.off i j) 0

/-- Count n events (R13: the counter wraps at 2^64). -/
def State.count (s : State) (c : Cnt) (i : Nat := 0) (j : Nat := 0) (n : Nat := 1) : State :=
  { s with cnts := SMap.upd s.cnts (c.off i j) 0#64 (· + BitVec.ofNat 64 n),
           tot := SMap.upd s.tot (c.off i j) 0 (· + n) }

/-- Take back one event that has been counted. -/
def State.uncount (s : State) (c : Cnt) (i : Nat := 0) (j : Nat := 0) : State :=
  { s with cnts := SMap.upd s.cnts (c.off i j) 0#64 (· - 1#64), tot := SMap.upd s.tot (c.off i j) 0 (· - 1) }

/-- Count where a condition holds. -/
def State.countIf (s : State) (b : Bool) (c : Cnt) (i : Nat := 0) (j : Nat := 0) : State :=
  if b then s.count c i j else s

/-! ### Free values and outgoing events -/

/-- Advance the counter of free values (DESIGN CHOICE, log 1). -/
def State.fresh (s : State) : State := { s with free := s.free + 1 }

/-- Note what leaves the module (DESIGN CHOICE, log 60). -/
def State.emit (s : State) (e : OutEv) : State := { s with out := e :: s.out }

/-- Core clocks in one microsecond and one millisecond (R21: 1.6 GHz). -/
def clkUs : Nat := 1600
def clkMs : Nat := 1600000

/-- The register clock of 200 MHz that a core clock lies in (R21). -/
def State.regClk (s : State) : Nat := s.now / 8

/-- A command of this kind waits: what waits in the queue acts in the same core clock (DESIGN CHOICE, log 2). -/
def State.awaits (s : State) (p : Instr → Bool) : Bool := s.pending.any p

/-! ### Ledger terms (R421) -/

/-- Add to the running total of a ledger term. -/
def State.led (s : State) (term inst : Nat) (n : Nat := 1) : State :=
  { s with hlt := { s.hlt with led := SMap.upd s.hlt.led (512 * term + inst) 0 (· + n) } }

/-- The running total of a ledger term. -/
def State.ledOf (s : State) (term inst : Nat) : Nat := SMap.getD s.hlt.led (512 * term + inst) 0

/-- The numbers of the running totals: IN, OUT and DROP of ledgers 3 and 4, and the terms of ledgers 5, 8, 9, 10
and 11. -/
def tIn3 : Nat := 0
def tOut3 : Nat := 1
def tDrop3 : Nat := 2
def tIn4 : Nat := 3
def tOut4 : Nat := 4
def tDrop4 : Nat := 5
def tSeq5 : Nat := 6
def tSent5 : Nat := 7
def tRelay5 : Nat := 8
def tDisc5 : Nat := 9
def tTake10 : Nat := 10
def tEnd10 : Nat := 11
def tCopy11 : Nat := 12
def tEnd11 : Nat := 13

/-- The switch die forwards: it is initialised, and dusk has not stopped it (R396, R408). -/
def running (op : State → State) (s : State) : State := if s.pwr.stopped then s else op s

/-- Leaf receivers take frames in until dusk begins (R396). -/
def admitting (op : State → State) (s : State) : State := if s.pwr.dusk.isSome then s else running op s

end Machine
end Sys2Proof
end

