-- ==== Sys2Proof/Machine/Link.lean ====
section
/-!
DEFINITION. The flits of the inter-die link (R16, R289, R290, R296): the credit of each virtual channel in each direction, the
transfers that wait for it, and the arbitration between the channels.
-/
namespace Sys2Proof.Machine

/-- One direction of one virtual channel: 0 toward the switch die, 1 toward the control die. -/
def idlVc (s : State) (v d : Nat) : IdlVc := SMap.getD s.ctl.vcs (2 * v + d) { held := vcPool v }

def setVc (v d : Nat) (x : IdlVc) (s : State) : State :=
  { s with ctl := { s.ctl with vcs := SMap.put s.ctl.vcs (2 * v + d) { held := vcPool v } x } }

/-- A transfer of n flits waits on a channel; `room` is the number of flits of its response. It takes effect with its command, and
its flits cross in the core clocks that follow (DEDUCED, log 17). -/
def idlSend (v d n room : Nat) (s : State) : State :=
  if n = 0 then s else let x := idlVc s v d; setVc v d { x with waiting := x.waiting ++ [(n, room)] } s

/-- Flits of n bytes of payload (R289). -/
def flitsOf (n : Nat) : Nat := ceilDiv n 64

/-- Flits that wait on a channel. -/
def IdlVc.owed (x : IdlVc) : Nat := (x.waiting.map (fun e => e.1)).sum

/-- The oldest flit that waits on a channel can be sent (R290): credit is held for it, and a read is issued only while the other
direction's response channel holds room for its response. -/
def flitReady (s : State) (v d : Nat) : Bool :=
  let x := idlVc s v d
  match x.waiting with
  | [] => false
  | (_, room) :: _ =>
    let y := idlVc s (v + 1) (1 - d)
    decide (0 < x.held) && (room == 0 || decide (y.owed + room ≤ y.held))

/-- One flit is sent (R16): it spends a credit, and a read's response then waits on its channel. -/
def sendFlit (v d : Nat) (s : State) : State :=
  let x := idlVc s v d
  match x.waiting with
  | [] => s
  | (n, room) :: l =>
    let s := setVc v d { x with
      held := x.held - 1, flight := x.flight + 1, waiting := if n ≤ 1 then l else (n - 1, 0) :: l } s
    idlSend (v + 1) (1 - d) room 0 (s.count (if d = 0 then Cnt.IDL_TX_FLIT_CNT else Cnt.IDL_RX_FLIT_CNT))

/-- The weight of a channel (R296): 0 is treated as 1. -/
def vcWeight (s : State) (v : Nat) : Nat :=
  max 1 (if v = 3 then s.fld .IDL_ARB_CFG_W_CTRL else s.fld .IDL_ARB_CFG_W_DATA)

/-- Deficit round robin among channels 3 to 5 (R290): the channel, and the arbiter (DEDUCED, log 17). -/
def idlRound (s : State) (d : Nat) (a : IdlArb) : Option Nat × IdlArb :=
  let ready := [3, 4, 5].filter (fun v => flitReady s v d)
  let def_ := fun (m : List Nat) (v : Nat) => m.getD (v - 3) 0
  let kept := [3, 4, 5].map (fun v => if ready.contains v then def_ a.deficit v else 0)
  let order := ready.filter (fun v => decide (a.ptr ≤ v)) ++ ready.filter (fun v => decide (v < a.ptr))
  let rich := fun (m : List Nat) => order.find? (fun v => decide (1 ≤ def_ m v))
  let m := if (rich kept).isSome then kept
    else [3, 4, 5].map (fun v => if ready.contains v then def_ kept v + vcWeight s v else 0)
  match rich m with
  | some v => (some v, { a with ptr := v, deficit := m.set (v - 3) (def_ m v - 1) })
  | none => (none, { a with deficit := kept })

/-- The channel that sends in a direction (R290): 0 and 1 strictly first and in alternation, then 2, then the others. -/
def idlPick (s : State) (d : Nat) (a : IdlArb) : Option Nat × IdlArb :=
  let first := 1 - a.last
  if flitReady s first d then (some first, { a with last := first })
  else if flitReady s a.last d then (some a.last, a)
  else if flitReady s 2 d then (some 2, a)
  else idlRound s d a

/-- The link carries 280 flits in 289 core clocks in each direction (R289): whether this clock carries one. -/
def flitSlot (now : Nat) : Bool := decide ((now - 1) * 280 / 289 < now * 280 / 289)

/-- One flit of a direction. -/
def idlFlit (d : Nat) (s : State) : State :=
  let a := SMap.getD s.ctl.arbs d {}
  let (v, a') := idlPick s d a
  let s := { s with ctl := { s.ctl with arbs := SMap.put s.ctl.arbs d {} a' } }
  match v with
  | some v => sendFlit v d s
  | none => s

/-- Flits and credit move on by one place: from the wire to the receiver, out of its buffer, and back to the sender
(DESIGN CHOICE, log 17: each takes one core clock). -/
def IdlVc.pass (x : IdlVc) : IdlVc :=
  { x with held := x.held + x.returning, flight := 0, buffered := x.flight, returning := x.buffered }

/-- A core clock of the link while it is trained. -/
def idlClock (s : State) : State :=
  if s.flag .SYS_PLANE_STATE_IDL_UP then
    let ks := s.ctl.vcs.map (fun e => e.1)
    let s := ks.foldl (fun s k => setVc (k / 2) (k % 2) (idlVc s (k / 2) (k % 2)).pass s) s
    if flitSlot s.now && !s.ctl.vcs.isEmpty then idlFlit 1 (idlFlit 0 s) else s
  else s

/-- Both ends recover outstanding credit (R16): what was in flight or on its way back is credit of the sender again, and the flits
that were in flight are sent again. -/
def recoverCredit (x : IdlVc) : IdlVc :=
  { held := x.held + x.flight + x.returning, buffered := x.buffered,
    waiting := if x.flight = 0 then x.waiting else (x.flight, 0) :: x.waiting }

/-- IDL_CREDIT[v] (R296): the credits that the control-die end holds, and those granted to the switch die that have not
returned. -/
def creditWord (s : State) (v : Nat) : Word :=
  BitVec.ofNat 32 ((idlVc s v 0).held * 65536 + (vcPool v - (idlVc s v 1).held))

end Sys2Proof.Machine
end

