-- ==== Sys2Proof/Machine/Flags.lean ====
section
/-!
DEFINITION. Interrupt bits, fault records, the fault log and the access fault log: the flags that commands raise.
-/
namespace Sys2Proof.Machine

/-! ### Interrupts (R294, R295) -/

/-- An MSI-X message of a vector is sent now or held (R295). -/
def sendMsix (v : Nat) (s : State) : State :=
  let e := SMap.getD s.ctl.msix v {}
  if s.flag .CTL_PCIE_STATUS_LINK_UP && s.flag .CTL_PCIE_STATUS_BME && !e.masked then s.emit (.msix v e.addr e.data)
  else { s with ctl := { s.ctl with msixHeld := s.ctl.msixHeld ++ [v] } }

/-- A change of a pending bit from 0 to 1 makes one MSI-X message where the vector is routed so. -/
def newInt (v : Nat) (s : State) : State :=
  if s.flag .CTL_INT_ROUTE_EN v && s.fld .CTL_INT_ROUTE_TARGET v == 16 then sendMsix v s else s

/-- Note an interrupt in its register clock, and whether it counted as a merge. -/
def noteInt (v : Nat) (merged : Bool) (s : State) : State :=
  { s with ctl := { s.ctl with intAt := SMap.insert s.ctl.intAt v (s.regClk + 1, merged) } }

/-- An interrupt reaches CTL_INT_PEND (R295): it sets the bit, or counts a merge. -/
def takeInt (v : Nat) (s : State) : State :=
  let w := (s.reg .CTL_INT_PEND (v / 32)).toNat
  if w.testBit (v % 32) then (noteInt v true s).count .CTL_INT_MERGE_CNT
  else newInt v ((noteInt v false s).setReg .CTL_INT_PEND (BitVec.ofNat 32 (w + 2 ^ (v % 32))) (v / 32))

/-- Raise a vector: an event message on VC 2 (R294), held while the IDL is untrained (R289) (DEDUCED, log 17). -/
def raiseVec (v : Nat) (s : State) : State :=
  if s.flag .SYS_PLANE_STATE_IDL_UP then takeInt v (idlSend 2 1 1 0 s)
  else { s with ctl := { s.ctl with heldInts := s.ctl.heldInts ++ [v] } }

/-- Raise a vector from the keeper core, which lies on the control die. -/
def raiseNear (v : Nat) (s : State) : State := takeInt v s

/-- The hart's external interrupt (R295): some pending vector with EN is routed to it; a TARGET above 16 counts
as 0 (DESIGN CHOICE, log 58). -/
def hartIrq (s : State) (h : Nat) : Bool :=
  (List.range 256).any fun v =>
    let t := s.fld .CTL_INT_ROUTE_TARGET v
    (s.reg .CTL_INT_PEND (v / 32)).toNat.testBit (v % 32) && s.flag .CTL_INT_ROUTE_EN v
      && (if 16 < t then 0 else t) == h

/-! ### Time and fault records -/

/-- The time counter as TS64 (R255). -/
def State.ts64 (s : State) : Nat := (s.time.ts / 2 ^ 48) % 2 ^ 64

/-- Pass an entry to the keeper core for the fault log (R315, R428) (DESIGN CHOICE, log 38). -/
def logEntry (e : LogEnt) (s : State) : State := { s with hlt := { s.hlt with keepq := s.hlt.keepq ++ [e] } }

/-- A keeper event for the fault log (R428, origin 1). -/
def keeperEvent (code : Nat) (s : State) (kind : Nat := 0) (inst : Nat := 0) : State :=
  logEntry ⟨1, ⟨.fault, 0, 0, s.ts64, 0, 0⟩, code, kind, inst⟩ s

/-- A fault record but for its ring index (R333). -/
def faultRec (s : State) (code arg w2 w3 : Nat) : NRec :=
  ⟨.fault, code, arg % 65536, s.ts64, w2 % 2 ^ 64, w3 % 2 ^ 64⟩

/-- Generate records that are accepted or refused together: they go to their ring's queue, and fault records also to
the fault log (R315) (DEDUCED, log 16). -/
def offer (l : List NRec) (s : State) : State :=
  let s := { s with host := { s.host with recq := s.host.recq ++ [.notes l] } }
  l.foldl (fun s r => if r.kind = .fault then logEntry ⟨0, r, 0, 0, 0⟩ s else s) s

/-- Generate one fault record (R333). -/
def fault (code arg w2 w3 : Nat) (s : State) : State := offer [faultRec s code arg w2 w3] s

/-! ### The access fault log (R359, R375) -/

/-- SYS_ACCESS_FAULT and SYS_ACCESS_FAULT_ADDR show a fault (R374). -/
def showFault (f : AccFault) (s : State) : State :=
  (s.setReg .SYS_ACCESS_FAULT
      (BitVec.ofNat 32 (2 ^ 31 + f.kind * 2 ^ 24 + f.agent.num * 2 ^ 22 + f.size * 2 ^ 20))).setReg
    .SYS_ACCESS_FAULT_ADDR (BitVec.ofNat 32 (f.ali * 2 ^ 28 + f.off))

/-- The fault of the running register clock (R375), and whether it shows. -/
def faultInClock (s : State) : Option (AccFault × Bool) :=
  match s.sys.faultNow with
  | some (t, f, shown) => if t = s.regClk then some (f, shown) else none
  | none => none

/-- Record an access fault at the switch die: SYS_ACCESS_FAULT keeps the first since it was cleared, and of two in one register
clock the one whose access R358 takes first (R359, R375). -/
def recordFault (f : AccFault) (s : State) : State :=
  let s := s.count .SYS_ACCESS_FAULT_CNT
  let open_ := !s.flag .SYS_ACCESS_FAULT_VALID
  let (f, show_) := match faultInClock s with
    | some (g, shown) => (if f.agent.num < g.agent.num then f else g, shown || open_)
    | none => (f, open_)
  let s := { s with sys := { s.sys with faultNow := some (s.regClk, f, show_) } }
  if show_ then showFault f s else s

/-- A write of 1 to SYS_ACCESS_FAULT.VALID: the clear comes before a new fault of the same register clock (R375). -/
def clearFault (s : State) : State :=
  match faultInClock s with
  | some (f, _) => showFault f { s with sys := { s.sys with faultNow := some (s.regClk, f, true) } }
  | none => (s.setReg .SYS_ACCESS_FAULT 0#32).setReg .SYS_ACCESS_FAULT_ADDR 0#32

/-- Log a refused access on the control die: the message is held while the IDL is untrained, at most 16 of them. -/
def logNear (f : AccFault) (s : State) : State :=
  if s.flag .SYS_PLANE_STATE_IDL_UP then recordFault f (idlSend 2 0 1 0 s)
  else if s.ctl.heldFaults.length < 16 then
    { s with ctl := { s.ctl with heldFaults := s.ctl.heldFaults ++ [f] } }
  else { s with ctl := { s.ctl with faultsOver := s.ctl.faultsOver + 1 } }

/-- Log a refused register write of an agent. -/
def logWrite (kind : Nat) (w : RegWrite) (s : State) : State :=
  recordFault ⟨kind, w.agent, w.size, w.ali, w.off⟩ s

end Sys2Proof.Machine
end

