-- ==== Sys2Proof/Machine/Health.lean ====
section
/-!
DEFINITION. Windows and memory-error reports (R418 to R420, R426): events counted per instance in 16 buckets, entry to
and exit from lasting, the status registers that show it, and the excuse of ledgers.
-/
namespace Sys2Proof.Machine

/-- The setting of a window kind in force (R420). -/
def winCfg (s : State) (k : Nat) : Word := SMap.getD s.hlt.winCfg k (Reg.HLT_WIN_CFG.resetOf k 0)

/-- THRESH in force; 0 is treated as 1 (R429). -/
def winThresh (s : State) (k : Nat) : Nat := max 1 (Fld.HLT_WIN_CFG_THRESH.get (winCfg s k))

/-- Length of a bucket in core clocks (R419); a WINDOW_MS of 0 is treated as 1. -/
def bucketLen (s : State) (k : Nat) : Nat := max 1 (Fld.HLT_WIN_CFG_WINDOW_MS.get (winCfg s k)) * 100000

/-- One window instance. -/
def winOf (s : State) (k inst : Nat) : WinSt := SMap.getD s.hlt.wins (512 * k + inst) {}

/-- Store a window instance. -/
def setWin (k inst : Nat) (w : WinSt) (s : State) : State :=
  { s with hlt := { s.hlt with wins := SMap.put s.hlt.wins (512 * k + inst) {} w } }

/-- The instances of a kind that are lasting. -/
def lastingOf (s : State) (k : Nat) : List Nat :=
  (s.hlt.wins.filter (fun e => e.1 / 512 == k && e.2.lasting)).map (fun e => e.1 % 512)

/-- Show the lasting instances in HLT_WIN_STATUS and HLT_WIN_LANES (R420, R429). -/
def showLasting (k : Nat) (s : State) : State :=
  let l := lastingOf s k
  let lane := k == 1 || k == 2
  let bit := fun j => if lane then l.any (fun i => i / 16 == j) else l.contains j
  let mask := (List.range 16).foldl (fun a j => if bit j then a + 2 ^ j else a) 0
  let s := s.setReg .HLT_WIN_STATUS (BitVec.ofNat 32 (mask * 65536 + l.headD 0)) k
  if lane then
    (List.range 8).foldl (fun s i =>
      s.setReg .HLT_WIN_LANES
        (BitVec.ofNat 32 ((List.range 32).foldl (fun a j => if l.contains (32 * i + j) then a + 2 ^ j else a) 0))
        (k - 1) i) s
  else s

/-- One event of a window kind for an instance (R419, R420). The answer says whether the instance enters lasting; the
caller takes the action of the kind. -/
def winEvent (k inst : Nat) (s : State) : State × Bool :=
  let w := winOf s k inst
  let b := match w.buckets with
    | [] => [1]
    | n :: l => (n + 1) :: l
  let enters := !w.lasting && decide (winThresh s k < b.sum)
  let s := setWin k inst { w with buckets := b, lasting := w.lasting || enters } s
  if enters then
    (showLasting k (keeperEvent 5 (s.count .HLT_LASTING_CNT k) k inst), true)
  else (s, false)

/-- A bucket boundary of a window kind passes (R419, R420): counts age, instances whose count falls to zero leave
lasting, and a written setting takes effect. -/
def bucketEnd (k : Nat) (s : State) : State :=
  let age := fun (w : WinSt) =>
    let b := (0 :: w.buckets).take 16
    { w with buckets := if b.sum = 0 then [] else b, lasting := w.lasting && b.sum != 0, recorded := false,
             srcs := if b.sum = 0 then [] else ([] :: w.srcs).take 16 }
  let wins := s.hlt.wins.foldr (fun e (m : SMap WinSt) =>
    if e.1 / 512 == k then (let w := age e.2; if w = {} then m else (e.1, w) :: m) else e :: m) []
  let s := { s with hlt := { s.hlt with
    wins := wins, winCfg := SMap.put s.hlt.winCfg k (Reg.HLT_WIN_CFG.resetOf k 0) (s.reg .HLT_WIN_CFG k) } }
  showLasting k s

/-- The ledgers that an uncorrected error of a unit excuses (R426). -/
def excusedBy (u : Nat) : List Nat := if u = 4 then [3, 4, 5, 6] else if u = 5 || u = 6 then [1, 2] else []

/-- Start the excuse of R426. -/
def excuse (u : Nat) (s : State) : State :=
  if (excusedBy u).isEmpty then s
  else
    let keep := s.hlt.excused.filter (fun e => !(excusedBy u).contains e.1)
    let s := { s with hlt := { s.hlt with
      excused := keep ++ (excusedBy u).map (fun l => (l, s.now + 2048 * clkMs)) } }
    s.setFld .HLT_LEDGER_STATUS_EXCUSED 1

/-- The memory-error record of R418: at most one for an instance in a bucket of its window kind. -/
def memRecord (u loc k inst : Nat) (s : State) : State :=
  let w := winOf s k inst
  if w.recorded then s.count .HLT_RECORD_SUPPRESS_CNT
  else fault 3 u loc 1 (setWin k inst { w with recorded := true } s)

/-- A memory unit reports an error (R418): a window event and, where it is uncorrected, a record and the excuse. -/
def memError (u loc k inst : Nat) (uncorr : Bool) (s : State) : State × Bool :=
  let (s, enters) := winEvent k inst s
  (if uncorr then excuse u (memRecord u loc k inst s) else s, enters)

/-- A memory error whose window kind has no action but its log entry. -/
def memReport (u loc k inst : Nat) (uncorr : Bool) (s : State) : State := (memError u loc k inst uncorr s).1

/-- Corrected and uncorrected errors of host memory (R280, R418). -/
def hostMemError (addr : Nat) (corrected : Bool) (s : State) : State :=
  if corrected then memReport 8 addr 9 0 false (s.count .CTL_DRAM_CORR_CNT)
  else memReport 8 addr 10 0 true (s.count .CTL_DRAM_UNCORR_CNT)

/-! ### Ledger faults (R424, R425) -/

/-- A ledger fault: its count, its status and its record, of which there are at most 64 in a second
(DEDUCED, log 46). -/
def ledgerFault (ledger inst left right : Nat) (s : State) : State :=
  let arg := 256 * ledger + inst
  let s := s.count .HLT_LEDGER_FAULT_CNT (ledger - 1)
  let s := (s.setFld .HLT_LEDGER_STATUS_FAULT 1).setFld .HLT_LEDGER_STATUS_LAST arg
  let recent := s.hlt.recs.filter (fun t => decide (s.now < t + 1000 * clkMs))
  if 64 ≤ recent.length then s.count .HLT_RECORD_SUPPRESS_CNT
  else fault 0x14 arg left right { s with hlt := { s.hlt with recs := s.now :: recent } }

/-- The next bucket boundary of a kind, in clocks since the last reset of the switch die: they fall at multiples of the
bucket length (R419). -/
def nextBucket (s : State) (k : Nat) : Nat := (SMap.getD s.hlt.bktAt k 0 / bucketLen s k + 1) * bucketLen s k

/-- WINDOW_BUCKET_END (R419). -/
def windowBucketEnd (k : Nat) (s : State) : State :=
  let b := nextBucket s k
  if s.sys.switchAt + b ≤ s.now then
    bucketEnd k { s with hlt := { s.hlt with bktAt := SMap.put s.hlt.bktAt k 0 b } }
  else s

def execWindowBucketEnd (k : Fin 12) (s : State) : Result := .next (windowBucketEnd k.val s)

end Sys2Proof.Machine
end

