-- ==== Sys2Proof/Machine/Parser.lean ====
section
/-!
DEFINITION. The parser: the walk of the parse graph (R63), the built-in header checks (R65), the action of a
malformed reason (R68), the default class (R69), keys (R70) and the symmetric hash (R84, R85).
-/
namespace Sys2Proof.Machine

/-- The result of a walk (R63): records in order, key profile, malformed flags, the node at which it ended, and
whether the frame is classified as plain L2 (R68). -/
structure Walk where
  hdrs : List Hdr := []
  profile : Nat := 0
  flags : List Nat := []
  endNode : Nat := 0
  plainL2 : Bool := false
  deriving DecidableEq, Repr

/-- A byte of the frame data: zero at or beyond its end, and at or beyond byte 256 (R63) (DEDUCED, log 8). -/
def pbyte (d : List Byte) (i : Nat) : Nat := if i < 256 then (d.getD i 0#8).toNat else 0

/-- 16 bits, most significant byte first. -/
def pword (d : List Byte) (i : Nat) : Nat := pbyte d i * 256 + pbyte d (i + 1)

/-- n bytes. -/
def pbytes (d : List Byte) (i n : Nat) : List Byte := (List.range n).map (fun k => BitVec.ofNat 8 (pbyte d (i + k)))

/-- Sum of the 16-bit words of a header with carries folded in (R65, reason 5). -/
def onesSum : List Byte → Nat
  | a :: b :: l => let t := a.toNat * 256 + b.toNat + onesSum l; t % 65536 + t / 65536
  | [a] => a.toNat * 256
  | [] => 0

/-- The fixed part of the next header (R65). -/
def fixedPart (proto : Nat) : Nat := if proto = 6 then 20 else if proto = 17 || proto = 1 || proto = 58 then 8 else 0

/-- Reason 14 of R65. -/
def fragBad (fo : Nat) (mf : Bool) (pay proto : Nat) : Bool :=
  decide (65535 < fo * 8 + pay) || (mf && fo == 0 && decide (pay < fixedPart proto))

/-- Reasons where conditions hold. -/
def reasons (l : List (Bool × Nat)) : List Nat := (l.filter (fun e => e.1)).map (fun e => e.2)

/-- The checks of an IPv4 header (R65). -/
def checkV4 (d : List Byte) (o : Nat) : List Nat × Bool :=
  let ihl := pbyte d o % 16
  let tot := pword d (o + 2)
  let fw := pword d (o + 6)
  let fo := fw % 8192
  let src := pbyte d (o + 12)
  (reasons [
    (pbyte d o / 16 != 4, 3),
    (decide (ihl < 5), 4),
    (onesSum (pbytes d o (ihl * 4)) != 65535, 5),
    (decide (tot < ihl * 4) || decide (d.length - o < tot), 6),
    (pbyte d (o + 8) == 0, 8),
    (src / 16 == 14 || pbytes d (o + 12) 4 == List.replicate 4 255#8, 11),
    (src == 127 || pbyte d (o + 16) == 127, 12),
    (fragBad fo (fw.testBit 13) (tot - ihl * 4) (pbyte d (o + 9)), 14)], fo != 0)

/-- The loopback address ::1. -/
def v6Loop : List Byte := List.replicate 15 0#8 ++ [1#8]

/-- The checks of an IPv6 header (R65). -/
def checkV6 (d : List Byte) (o : Nat) : List Nat :=
  reasons [
    (pbyte d o / 16 != 6, 3),
    (decide (d.length - (o + 40) < pword d (o + 4)), 7),
    (pbyte d (o + 7) == 0, 8),
    (pbyte d (o + 8) == 255, 11),
    (pbytes d (o + 8) 16 == v6Loop || pbytes d (o + 24) 16 == v6Loop, 12)]

/-- The built-in checks of a header (R65): reasons set, and whether the walk ends after it. `rs` are the records so
far, this header last. A fragment header with no IPv6 header before it sets no reason 14 (DESIGN CHOICE, log 67). -/
def typeChecks (d : List Byte) (rs : List Hdr) (t o len : Nat) : List Nat × Bool :=
  if t = 1 then
    (reasons [(pbyte d (o + 6) % 2 == 1, 9), (pbytes d (o + 6) 6 == List.replicate 6 0#8, 10)], false)
  else if t = 4 then checkV4 d o
  else if t = 5 then (checkV6 d o, false)
  else if t = 7 then
    let fw := pword d (o + 2)
    let fo := fw / 8
    match rs.reverse.find? (fun h => h.typ == 5) with
    | some ip =>
      (reasons [(fragBad fo (fw.testBit 0) (pword d (ip.off + 4) - (o + len - (ip.off + ip.len))) (pbyte d o), 14)],
        fo != 0)
    | none => ([], fo != 0)
  else if t = 8 then (reasons [(decide (pbyte d (o + 12) / 16 < 5), 13)], false)
  else if t = 9 then
    let l := pword d (o + 4)
    (reasons [(decide (l < 8) || decide (d.length - o < l), 13)], false)
  else if t = 10 then (reasons [(!(pbyte d o).testBit 3, 15)], false)
  else if t = 11 then (reasons [(pbyte d o / 64 != 0, 15)], false)
  else ([], false)

/-- Length of the header at a node (R63). -/
def nodeLen (s : State) (d : List Byte) (node off : Nat) : Nat :=
  let add := s.fld .PARSE_NODE_B_LEN_ADD node
  if s.flag .PARSE_NODE_A_LEN_VAR node then
    (((pbyte d (off + s.fld .PARSE_NODE_B_LEN_OFF node) &&& s.fld .PARSE_NODE_B_LEN_MASK node)
      >>> s.fld .PARSE_NODE_B_LEN_RSH node) <<< s.fld .PARSE_NODE_B_LEN_LSH node) + add
  else add

/-- The lowest transition of a node that matches a selector (R63), among entries i, i+1, …, i+n-1. -/
def findTrans (s : State) (node sel : Nat) : Nat → Nat → Option Nat
  | 0, _ => none
  | n + 1, i =>
    let m := s.fld .PARSE_TRANS_B_MASK i
    if s.flag .PARSE_TRANS_A_VALID i && s.fld .PARSE_TRANS_A_NODE i == node
        && (sel &&& m) == (s.fld .PARSE_TRANS_B_VALUE i &&& m) then some i
    else findTrans s node sel n (i + 1)

/-- The walk of R63 with n header records still allowed. The loop runs at most 16 times. Where no header was recorded the node
at which the walk ended (R70, item 3) is the node that failed (DESIGN CHOICE, log 67). -/
def walkFrom (s : State) (d : List Byte) : Nat → Nat → Nat → Walk → Walk
  | 0, node, _, w => { w with flags := w.flags ++ [2], endNode := if w.hdrs.isEmpty then node else w.endNode }
  | n + 1, node, off, w =>
    let len := nodeLen s d node off
    if 256 < off + len then { w with flags := w.flags ++ [0], endNode := if w.hdrs.isEmpty then node else w.endNode }
    else if d.length < off + len then
      { w with flags := w.flags ++ [1], endNode := if w.hdrs.isEmpty then node else w.endNode }
    else
      let t := s.fld .PARSE_NODE_A_HDR_TYPE node
      let hdrs := w.hdrs ++ [⟨t, off, len⟩]
      let (rs, stop) := typeChecks d hdrs t off len
      let w := { w with hdrs := hdrs, profile := s.fld .PARSE_NODE_A_PROFILE node, flags := w.flags ++ rs,
                        endNode := node }
      if stop then w
      else
        let so := off + s.fld .PARSE_NODE_A_SEL_OFF node
        let sel := pword d so
        match findTrans s node sel 2048 0 with
        | some i =>
          if s.flag .PARSE_TRANS_A_END i then w
          else walkFrom s d n (s.fld .PARSE_TRANS_A_NEXT i) (off + len) w
        | none =>
          if s.flag .PARSE_NODE_A_END_DEFAULT node then w
          else walkFrom s d n (s.fld .PARSE_NODE_A_NEXT_DEFAULT node) (off + len) w

/-- The ingress walk of the frame data (FCS excluded) (R61, R63). -/
def walkIngress (s : State) (d : List Byte) : Walk := walkFrom s d 16 (s.fld .PARSE_CFG_ING_START) 0 {}

/-- The egress walk (R62): reasons are neither checked nor counted. -/
def walkEgress (s : State) (d : List Byte) : Walk :=
  { walkFrom s d 16 (s.fld .PARSE_CFG_EGR_START) 0 {} with flags := [] }

/-- The reason that decides: the lowest-numbered flagged (R68). -/
def Walk.reason (w : Walk) : Option Nat := w.flags.foldl (fun a r => some (match a with | some x => min x r | none => r)) none

/-- PARSE_MAL_ACT.ACT_r (R68); 3 is treated as 0. -/
def malAct (s : State) (r : Nat) : Nat :=
  let a := bits (s.reg .PARSE_MAL_ACT).toNat (2 * r + 1) (2 * r)
  if a = 3 then 0 else a

/-- The records that plain L2 keeps (R68). -/
def keepL2 : List Hdr → List Hdr
  | h :: l => if h.typ = 1 then h :: (l.takeWhile (fun x => x.typ == 2)).take 2 else []
  | [] => []

/-- The walk cut back to plain L2 (R68). -/
def Walk.cut (s : State) (w : Walk) : Walk :=
  { w with hdrs := keepL2 w.hdrs, profile := s.fld .PARSE_CFG_L2_PROFILE, plainL2 := true }

/-- The walk as the pipeline goes on with it (R68): cut back where the reason that decides makes the frame plain L2. Its
class, key and hash come from these records. -/
def Walk.acted (s : State) (w : Walk) : Walk :=
  match w.reason with
  | some r => if malAct s r = 2 then w.cut s else w
  | none => w

/-- The header of a type chosen by an INST value: 0 first, 1 second, 2 third, 3 last (R70). -/
def Walk.find (w : Walk) (t inst : Nat) : Option Hdr :=
  let l := w.hdrs.filter (fun h => h.typ == t)
  if inst = 3 then l.getLast? else l[inst]?

/-- The outer VLAN tag: the tag that directly follows the outermost Ethernet header (R69, R94). -/
def Walk.outerTag (w : Walk) : Option Hdr :=
  match w.hdrs.dropWhile (fun h => h.typ != 1) with
  | _ :: t :: _ => if t.typ = 2 then some t else none
  | _ => none

/-- The outermost IP header. -/
def Walk.outerIp (w : Walk) : Option Hdr := w.hdrs.find? (fun h => h.typ == 4 || h.typ == 5)

/-- The DSCP of an IP header. -/
def dscpOf (d : List Byte) (h : Hdr) : Nat :=
  if h.typ = 4 then pbyte d (h.off + 1) / 4 else ((pbyte d h.off % 16) * 16 + pbyte d (h.off + 1) / 16) / 4

/-- The default class of a frame (R69). -/
def defaultClass (s : State) (port : Nat) (d : List Byte) (w : Walk) : Nat :=
  let dflt := s.fld .PARSE_PORT_CFG_DEFAULT_CLASS port
  match s.fld .PARSE_PORT_CFG_TRUST port with
  | 1 =>
    match w.outerTag with
    | some h => let c := pbyte d h.off / 32; bits (s.reg .PARSE_PCP_MAP port).toNat (3 * c + 2) (3 * c)
    | none => dflt
  | 2 =>
    match w.outerIp with
    | some h => let q := dscpOf d h; let k := q % 8; bits (s.reg .PARSE_DSCP_MAP (q / 8)).toNat (3 * k + 2) (3 * k)
    | none => dflt
  | _ => dflt

/-- What a key may read beside headers (R70). -/
structure KeyMeta where
  port : Nat
  cls : Nat
  srcMod : Nat
  srcPort : Nat
  hash : Nat
  deriving DecidableEq, Repr

/-- Metadata item number `o` (R70). -/
def metaItem (m : KeyMeta) (w : Walk) (o : Nat) : Nat :=
  if o = 0 then m.port
  else if o = 1 then (List.range 12).foldl (fun a t => if w.hdrs.any (fun h => h.typ == t + 1) then a + 2 ^ t else a) 0
  else if o = 2 then m.cls + (if w.plainL2 then 8 else 0)
  else if o = 3 then w.endNode
  else if o = 4 then m.srcMod
  else if o = 5 then m.srcPort
  else if o = 6 then m.hash % 65536
  else if o = 7 then m.hash / 65536 % 65536
  else 0

/-- Word j of the key of profile p (R70). -/
def keyWord (s : State) (d : List Byte) (w : Walk) (m : KeyMeta) (p j : Nat) : Nat :=
  let off := s.fld .PARSE_EXTRACT_OFF p j
  match s.fld .PARSE_EXTRACT_SRC p j with
  | 1 =>
    match w.find (s.fld .PARSE_EXTRACT_TYPE p j) (s.fld .PARSE_EXTRACT_INST p j) with
    | some h => pword d (h.off + off)
    | none => 0
  | 2 => metaItem m w off
  | _ => 0

/-- The key of a frame (R70): word j in bits [16j + 15:16j]. -/
def keyOf (s : State) (d : List Byte) (w : Walk) (m : KeyMeta) : BitVec 640 :=
  BitVec.ofNat 640 ((List.range 40).foldr (fun j a => keyWord s d w m w.profile j + 65536 * a) 0)

/-- The records from the hashed IP header on (R84): the outermost, or the innermost where INNER is 1. -/
def hashedChain (inner : Bool) (l : List Hdr) : List Hdr :=
  let isIp := fun (h : Hdr) => h.typ == 4 || h.typ == 5
  if inner then
    l.foldl (fun (a : List Hdr) h => if isIp h then [h] else if a.isEmpty then [] else a ++ [h]) []
  else l.dropWhile (fun h => !isIp h)

/-- The chain of extension and fragment headers after an IPv6 header: protocol, fragment seen, what follows. -/
def v6Chain (d : List Byte) : List Hdr → Nat → Bool → Nat × Bool × List Hdr
  | h :: l, p, f =>
    if h.typ = 6 then v6Chain d l (pbyte d h.off) f
    else if h.typ = 7 then v6Chain d l (pbyte d h.off) true
    else (p, f, h :: l)
  | [], p, f => (p, f, [])

/-- EtherType after any tags and the outer VLAN ID (R84). -/
def etherAndVlan (d : List Byte) (w : Walk) : Nat × Nat :=
  match keepL2 w.hdrs with
  | e :: t :: l => (pword d (((t :: l).getLast?.getD e).off + 2), pword d t.off % 4096)
  | e :: [] => (pword d (e.off + 12), 0)
  | [] => (pword d 12, 0)

/-- The bytes over which the hash runs, after the seed (R84). -/
def hashBytes (inner noL4 : Bool) (d : List Byte) (w : Walk) : List Byte :=
  let order := fun (a b : List Byte) => if ofBe a ≤ ofBe b then a ++ b else b ++ a
  match hashedChain inner w.hdrs with
  | [] =>
    let (et, vid) := etherAndVlan d w
    order (pbytes d 6 6) (pbytes d 0 6) ++ toBe 2 et ++ toBe 2 vid
  | ip :: rest =>
    let v4 := ip.typ == 4
    let (proto, frag, l4) :=
      if v4 then (pbyte d (ip.off + 9), pword d (ip.off + 6) % 16384 != 0, rest)
      else v6Chain d rest (pbyte d (ip.off + 6)) false
    let ports : List Byte × List Byte :=
      match l4 with
      | h :: _ =>
        if !frag && !noL4 && (h.typ == 8 || h.typ == 9) then (pbytes d h.off 2, pbytes d (h.off + 2) 2)
        else ([0#8, 0#8], [0#8, 0#8])
      | [] => ([0#8, 0#8], [0#8, 0#8])
    let n := if v4 then 4 else 16
    let o := ip.off + (if v4 then 12 else 8)
    order (pbytes d o n ++ ports.1) (pbytes d (o + n) n ++ ports.2) ++ [BitVec.ofNat 8 proto]

/-- The symmetric hash of R84. -/
def symHash (s : State) (d : List Byte) (w : Walk) : Nat :=
  crc32c (toBe 4 (s.reg .PARSE_HASH_SEED).toNat
    ++ hashBytes (s.flag .PARSE_HASH_CFG_INNER) (s.flag .PARSE_HASH_CFG_NO_L4) d w)

/-- A 32-bit value rotated right (R85). -/
def ror32 (v n : Nat) : Nat := (v >>> n + (v <<< (32 - n))) % 2 ^ 32

end Sys2Proof.Machine
end

