-- ==== Sys2Proof/Machine/Rules.lean ====
section
/-!
DEFINITION. The rule store: lookup with parity (R71, R72, R74), the fields of an action (R77), and the flow counter.
-/
namespace Sys2Proof.Machine

/-- The entry matches a lookup (R71). -/
def Rule.hits (r : Rule) (egress : Bool) (key : BitVec 640) (profile : Nat) : Bool :=
  r.valid && r.egress == egress && (key &&& r.mask) == (r.key &&& r.mask)
    && (profile &&& r.pmask) == (r.profile &&& r.pmask)

/-- Some part of the entry fails its parity. -/
def Rule.bad (r : Rule) : Bool := r.badKey || r.badMask || r.badAct || r.badCtl

/-- The lookup checks this entry (R72). -/
def Rule.checked (r : Rule) (egress : Bool) : Bool := r.badCtl || (r.valid && r.egress == egress)

/-- The decoded action of R77. -/
structure Action where
  fwd : Nat := 0
  target : Nat := 0
  mirror : Option Nat := none
  cls : Option Nat := none
  policer : Option Nat := none
  counter : Option Nat := none
  edit : Option Nat := none
  deriving DecidableEq, Repr

/-- The fields of an action (R77); FWD 6 and 7 are treated as 0. -/
def actionOf (a : BitVec 128) : Action :=
  let n := a.toNat
  let f := bits n 127 125
  let opt := fun (e hi lo : Nat) => if n.testBit e then some (bits n hi lo) else none
  ⟨if 5 < f then 0 else f, bits n 124 109, opt 108 107 104, opt 103 102 100, opt 99 98 83, opt 82 81 54, opt 53 52 39⟩

/-- The lowest matching entry with good parity (R71, R72). -/
def ruleFind (s : State) (egress : Bool) (key : BitVec 640) (profile : Nat) : Option (Nat × Action) :=
  (s.cls.rules.find? (fun e => !e.2.bad && e.2.hits egress key profile)).map (fun e => (e.1, actionOf e.2.action))

/-- Count and report every checked entry whose parity fails in this lookup (R72). -/
def ruleParity (pipe : Nat) (egress : Bool) (s : State) : State :=
  (s.cls.rules.filter (fun e => e.2.checked egress && e.2.bad)).foldl
    (fun s e => memReport 1 e.1 3 0 true (s.count .PARSE_RULE_PARITY_CNT pipe)) s

/-- One frame of n bytes counts in the flow counter that a rule selects (R78). -/
def flowCount (a : Action) (n : Nat) (s : State) : State :=
  match a.counter with
  | none => s
  | some c =>
    { s with cls := { s.cls with
      flows := SMap.upd s.cls.flows c (0#64, 0#64) (fun v => (v.1 + 1#64, v.2 + BitVec.ofNat 64 n)) } }

end Sys2Proof.Machine
end

