-- ==== Sys2Proof/Machine/Edit.lean ====
section
/-!
DEFINITION. The edit engine: pops, rewrites and pushes in their fixed order (R80, R448), the corrections of lengths and
checksums (R81), and the drop on a parity failure (R83).
-/
namespace Sys2Proof.Machine

/-- A header present in a frame: `at_` is its place among the records of the walk; none for one that a push added. -/
structure Piece where
  hdr : Hdr
  at_ : Option Nat
  deriving DecidableEq, Repr

/-- A frame inside the edit engine: its data (FCS excluded), the records of its walk (R63), the headers present in order,
with their present offsets, and the steps skipped. It goes from the next hop's program to the rule's (R97). -/
structure EditFrame where
  data : List Byte
  recs : List Hdr
  parts : List Piece
  skips : Nat := 0
  deriving DecidableEq, Repr

/-- A frame as walked. -/
def EditFrame.ofWalk (d : List Byte) (l : List Hdr) : EditFrame := ⟨d, l, l.zipIdx.map (fun e => ⟨e.1, some e.2⟩), 0⟩

/-- Remove n bytes at offset a with the headers that satisfy `gone`; later ones move up. -/
def EditFrame.cut (f : EditFrame) (a n : Nat) (gone : Hdr → Bool) : EditFrame :=
  { f with
    data := f.data.take a ++ f.data.drop (a + n)
    parts := (f.parts.filter (fun e => !gone e.hdr)).map (fun e =>
      if a + n ≤ e.hdr.off then { e with hdr := { e.hdr with off := e.hdr.off - n } } else e) }

/-- Insert bytes at offset a, with the headers that they hold. -/
def EditFrame.ins (f : EditFrame) (a : Nat) (x : List Byte) (new : List Hdr) : EditFrame :=
  { f with
    data := f.data.take a ++ x ++ f.data.drop a
    parts := f.parts.filter (fun e => decide (e.hdr.off < a)) ++ new.map (fun h => ⟨h, none⟩)
      ++ (f.parts.filter (fun e => decide (a ≤ e.hdr.off))).map (fun e =>
        { e with hdr := { e.hdr with off := e.hdr.off + x.length } }) }

def EditFrame.skip (f : EditFrame) : EditFrame := { f with skips := f.skips + 1 }

/-- The headers present. -/
def EditFrame.live (f : EditFrame) : List Hdr := f.parts.map (fun e => e.hdr)

/-- Offset of the EtherType that directly follows the outer Ethernet header and its tags (R448). -/
def EditFrame.etherAt (f : EditFrame) : Nat :=
  match f.live with
  | e :: l => if e.typ = 1 then e.off + 12 + 4 * ((l.takeWhile (fun h => h.typ == 2)).length) else 12
  | [] => 12

/-- The outer VLAN tag: the tag that directly follows the outer Ethernet header. -/
def EditFrame.outerTag (f : EditFrame) : Option Hdr :=
  match f.live.dropWhile (fun h => h.typ != 1) with
  | _ :: t :: _ => if t.typ = 2 then some t else none
  | _ => none

/-- The MPLS labels that stand first after the Ethernet header and its tags. -/
def EditFrame.labels (f : EditFrame) : List Hdr :=
  ((f.live.dropWhile (fun h => h.typ == 1 || h.typ == 2)).takeWhile (fun h => h.typ == 3))

/-- The pop of an edit program (R80, R448). -/
def popStep (kind n : Nat) (f : EditFrame) : EditFrame :=
  if kind = 1 then
    match f.outerTag with
    | some t => f.cut (t.off - 2) 4 (fun h => h == t)
    | none => f.skip
  else if kind = 2 then
    match f.labels with
    | [] => f.skip
    | h :: l =>
      let k := min (max 1 n) (l.length + 1)
      let gone := ((h :: l).take k).map (fun x => x.off)
      let g := f.cut h.off (4 * k) (fun x => x.typ == 3 && gone.contains x.off)
      if l.length + 1 = k then
        let v := (g.data.getD h.off 0#8).toNat / 16
        let et := if v = 4 then 0x0800 else if v = 6 then 0x86DD else 0x8847
        { g with data := patch g.data g.etherAt (toBe 2 et) }
      else g
  else if kind = 3 then
    let l := f.live
    match l.find? (fun h => h.typ == 1), (l.zip (l.drop 1)).find? (fun e => (e.1.typ == 10 || e.1.typ == 11) && e.2.typ == 1) with
    | some a, some (_, e) => f.cut a.off (e.off - a.off) (fun h => a.off ≤ h.off && h.off < e.off)
    | _, _ => f.skip
  else f

/-- The 16-bit ones' complement sum after one word changes from `old` to `new` (R81: incremental update of a
checksum). -/
def csumUpd (ck : Nat) (pairs : List (Nat × Nat)) : Nat :=
  let fold := fun (x : Nat) => x % 65536 + x / 65536
  let t := pairs.foldl (fun a (p : Nat × Nat) => fold (a + (65535 - p.1) + p.2)) (65535 - ck)
  65535 - fold (fold t)

/-- The even offsets o, o+2, … below e. -/
def evens (o e : Nat) : List Nat := (List.range ((e - o + 1) / 2)).map (fun k => o + 2 * k)

/-- The 16-bit word of frame data at an offset; a byte beyond the data reads as zero. -/
def dword (d : List Byte) (o : Nat) : Nat := (d.getD o 0#8).toNat * 256 + (d.getD (o + 1) 0#8).toNat

/-- Changed words of a range, but for the word at `ck`. -/
def changed (old new : List Byte) (o e ck : Nat) : List (Nat × Nat) :=
  ((evens o e).filter (fun x => x != ck && dword old x != dword new x)).map (fun x => (dword old x, dword new x))

/-- Write an updated checksum at offset `ck`. -/
def fixCsum (new : List Byte) (ck : Nat) (pairs : List (Nat × Nat)) (udp : Bool) : List Byte :=
  if pairs.isEmpty then new
  else
    let v := csumUpd (dword new ck) pairs
    patch new ck (toBe 2 (if udp && v == 0 then 65535 else v))

/-- The IP header before a layer-4 header. -/
def ipBefore (l4 : Hdr) (l : List Hdr) : Option Hdr :=
  (l.filter (fun h => (h.typ == 4 || h.typ == 5) && decide (h.off < l4.off))).getLast?

/-- Where the protocol of the pseudo-header stands: in the IP header, or in the last extension or fragment header between
it and the layer-4 header. -/
def protoAt (ip l4 : Hdr) (l : List Hdr) : Nat :=
  match (l.filter (fun h => (h.typ == 6 || h.typ == 7) && decide (ip.off < h.off) && decide (h.off < l4.off))).getLast? with
  | some x => x.off
  | none => if ip.typ = 4 then ip.off + 9 else ip.off + 6

/-- The layer-4 length of the pseudo-header: UDP's own length field, or what the IP header leaves for TCP. -/
def pseudoLen (d : List Byte) (ip l4 : Hdr) : Nat :=
  if l4.typ = 9 then dword d (l4.off + 4)
  else if ip.typ = 4 then (dword d (ip.off + 2) + 65536 - 4 * ((d.getD ip.off 0#8).toNat % 16)) % 65536
  else (dword d (ip.off + 4) + 65536 - (l4.off - (ip.off + ip.len))) % 65536

/-- A pair of words where they differ. -/
def differ (a b : Nat) : List (Nat × Nat) := if a = b then [] else [(a, b)]

/-- Changed words of the pseudo-header of a layer-4 header: addresses, protocol and length (R81) (DEDUCED, log 9). -/
def pseudoChanged (old new : List Byte) (ip l4 : Hdr) (l : List Hdr) : List (Nat × Nat) :=
  let a := if ip.typ = 4 then 12 else 8
  let p := protoAt ip l4 l
  changed old new (ip.off + a) (ip.off + a + (if ip.typ = 4 then 8 else 32)) 1
    ++ differ (pseudoLen old ip l4) (pseudoLen new ip l4)
    ++ differ (old.getD p 0#8).toNat (new.getD p 0#8).toNat

/-- Update a layer-4 checksum for changed words: a UDP checksum of zero over IPv4 is left zero (R81). -/
def fixL4 (new : List Byte) (ip : Option Hdr) (l4 : Hdr) (pairs : List (Nat × Nat)) : List Byte :=
  let udp := l4.typ == 9
  let ck := l4.off + (if udp then 6 else 16)
  if udp && dword new ck == 0 && (match ip with | some h => h.typ == 4 | none => false) then new
  else fixCsum new ck pairs udp

/-- Correct the checksum of one header after a rewrite turned `old` into `raw` (R81): `d` is the frame with the checksums
corrected so far. A layer-4 header that the rewrite touches counts every changed word from its start on (DEDUCED, log 9). -/
def fixHdr (old raw : List Byte) (l : List Hdr) (d : List Byte) (h : Hdr) : List Byte :=
  if h.typ = 4 then fixCsum d (h.off + 10) (changed old raw h.off (h.off + h.len) (h.off + 10)) false
  else if h.typ = 8 || h.typ = 9 then
    let ck := h.off + (if h.typ = 9 then 6 else 16)
    let own := if (changed old raw h.off (h.off + h.len) ck).isEmpty then [] else changed old raw h.off raw.length ck
    match ipBefore h l with
    | some ip => fixL4 d (some ip) h (own ++ pseudoChanged old raw ip h l)
    | none => fixL4 d none h own
  else d

/-- Correct the checksums that a rewrite affects: those of every header that it touches (R81). -/
def correct (old raw : List Byte) (l : List Hdr) : List Byte := l.foldl (fixHdr old raw l) raw

/-- The header of a type chosen by an INST value among the records of the walk (R70, R80): its place. -/
def recAt (recs : List Hdr) (typ inst : Nat) : Option Nat :=
  let l := recs.zipIdx.filter (fun e => e.1.typ == typ)
  (if inst = 3 then l.getLast? else l[inst]?).map (fun e => e.2)

/-- One rewrite (R80): replace the bits of RW_MASK in the 32 bits at RW_OFF of a header as the walk recorded it. -/
def rwStep (typ inst off value mask : Nat) (f : EditFrame) : EditFrame :=
  if typ = 0 then f
  else
    match (recAt f.recs typ inst).bind (fun i => f.parts.find? (fun e => e.at_ == some i)) with
    | some e =>
      let a := e.hdr.off + off
      let old := ofBe (fit 4 (slice f.data a 4))
      let new := (old &&& (2 ^ 32 - 1 - mask)) ||| (value &&& mask)
      { f with data := correct f.data (patch f.data a (toBe 4 new)) f.live }
    | none => f.skip

/-- Fill the lengths, ports and VNI of a tunnel push (R81): the frame, its template's length, and what goes in. -/
def fillTunnel (d : List Byte) (tlen dport vni hash : Nat) : List Byte :=
  let e := if pword d 12 = 0x8100 || pword d 12 = 0x88A8 then 16 else 12
  let ip := e + 2
  let v4 := pword d e == 0x0800
  let ul := ip + (if v4 then (pbyte d ip % 16) * 4 else 40)
  let d := if v4 then
      let d := patch d (ip + 2) (toBe 2 (d.length - ip))
      let d := patch d (ip + 4) (toBe 2 0)
      let d := patch d (ip + 10) (toBe 2 0)
      patch d (ip + 10) (toBe 2 (65535 - onesSum (slice d ip (ul - ip))))
    else patch d (ip + 4) (toBe 2 (d.length - (ip + 40)))
  let d := patch d ul (toBe 2 (0xC000 ||| hash % 2 ^ 14))
  let d := patch d (ul + 2) (toBe 2 dport)
  let d := patch d (ul + 4) (toBe 2 (d.length - ul))
  let d := patch d (ul + 6) (toBe 2 0)
  if ul + 16 ≤ tlen then patch d (ul + 12) (toBe 3 vni) else d

/-- Bottom-of-stack bits of pushed labels (R448). -/
def setBos : List Byte → Bool → List Byte
  | a :: b :: c :: t :: l, below =>
    let c' := BitVec.ofNat 8 (c.toNat / 2 * 2 + (if l.length < 4 && !below then 1 else 0))
    a :: b :: c' :: t :: setBos l below
  | l, _ => l

/-- The headers of a tunnel push: Ethernet, an optional tag, IP, UDP and the tunnel header. -/
def tunnelHdrs (kind : Nat) (x : List Byte) : List Hdr :=
  let tag := pword x 12 == 0x8100 || pword x 12 == 0x88A8
  let ip := if tag then 18 else 14
  let v4 := pword x (ip - 2) == 0x0800
  let il := if v4 then (pbyte x ip % 16) * 4 else 40
  [⟨1, 0, 14⟩] ++ (if tag then [⟨2, 14, 4⟩] else [])
    ++ [⟨if v4 then 4 else 5, ip, il⟩, ⟨9, ip + il, 8⟩,
        ⟨if kind = 3 then 10 else 11, ip + il + 8, x.length - (ip + il + 8)⟩]

/-- The push of an edit program (R80, R81, R448). -/
def pushStep (p : EditPlan) (kind : Nat) (vniEn : Bool) (vni hash : Nat) (f : EditFrame) : EditFrame :=
  let t := p.tmpl
  if kind = 1 then f.ins 12 (t.bytes.take 4) [⟨2, 14, 4⟩]
  else if kind = 2 then
    let e := f.etherAt
    let below := !f.labels.isEmpty
    let f := { f with data := patch f.data e (toBe 2 0x8847) }
    f.ins (e + 2) (setBos t.bytes below) ((List.range (t.bytes.length / 4)).map (fun i => ⟨3, e + 2 + 4 * i, 4⟩))
  else if kind = 3 || kind = 4 then
    let f := f.ins 0 t.bytes (tunnelHdrs kind t.bytes)
    let port := if kind = 3 then p.vxlan else p.geneve
    { f with data := fillTunnel f.data t.bytes.length port (if vniEn then vni else t.vni) hash }
  else f

/-- PUSH_KIND; 5 to 7 are treated as 0. -/
def pushKind (prog : Nat) : Nat := let k := bits prog 250 248; if 4 < k then 0 else k

/-- A program runs on a frame: the pop, the two rewrites, the push (R80). -/
def EditPlan.run (p : EditPlan) (hash : Nat) (f : EditFrame) : EditFrame :=
  let n := p.prog
  let rw := fun (m : Nat) (f : EditFrame) =>
    rwStep (bits m 95 88) (bits m 87 86) (bits m 85 80) (bits m 63 32) (bits m 31 0) f
  let f := popStep (bits n 255 253) (bits n 252 251) { f with skips := 0 }
  pushStep p (pushKind n) (n.testBit 211) (bits n 235 212) hash (rw (bits n 191 96) (rw (bits n 95 0) f))

/-- What is read for edit program e: the plan, or the location of a parity failure (R83, R334). An entry that was never
written is a program that does nothing, and a template that was never written is empty (log 9). -/
def readPlan (s : State) (e : Nat) : Except Nat EditPlan :=
  let p := SMap.getD s.cls.edits e ⟨0#256, false⟩
  let n := p.prog.toNat
  let ti := bits n 247 236
  let t := SMap.getD s.cls.tmpls ti ⟨[], 0, false⟩
  if p.bad then .error e
  else if pushKind n != 0 && t.bad then .error (2 ^ 31 + ti)
  else .ok ⟨n, t, s.fld .PARSE_TUNNEL_CFG_VXLAN_PORT, s.fld .PARSE_TUNNEL_CFG_GENEVE_PORT⟩

/-- The result of the edit engine. -/
inductive EditRes where
  /-- The edited frame. -/
  | ok (f : EditFrame)
  /-- A parity failure: the unit's location (R83, R334). -/
  | bad (loc : Nat)
  deriving DecidableEq, Repr

/-- Apply edit program e to a frame (R80). -/
def applyEdit (s : State) (e hash : Nat) (f : EditFrame) : EditRes :=
  match readPlan s e with
  | .error loc => .bad loc
  | .ok p => .ok (p.run hash f)

/-- Count the skips of an edit, or the drop and the report of a parity failure (R80, R83). -/
def editCounts (pipe : Nat) (r : EditRes) (s : State) : State :=
  match r with
  | .ok f => s.count .PARSE_EDIT_SKIP_CNT pipe 0 f.skips
  | .bad loc => memReport 2 loc 4 0 true (s.count .PARSE_EDIT_PARITY_CNT pipe)

/-- The bytes that the push of an edit program adds (R123). -/
def pushLen (s : State) (e : Nat) : Nat :=
  match SMap.get? s.cls.edits e with
  | none => 0
  | some p =>
    let n := p.prog.toNat
    let pk := bits n 250 248
    if pk = 1 then 4
    else if 2 ≤ pk && pk ≤ 4 then (SMap.getD s.cls.tmpls (bits n 247 236) ⟨[], 0, false⟩).bytes.length
    else 0

end Sys2Proof.Machine
end

