-- ==== Sys2Proof/Machine/Tables.lean ====
section
/-!
DEFINITION. The forwarding tables: hashed regions and their buckets (R88), inserts with relocation (R91), deletes
(R92), lookups with parity (R94 to R103), and the resolution of next hops, ECMP groups and LAG groups.
-/
namespace Sys2Proof.Machine

/-- The module's own ID. -/
def ownMod (s : State) : Nat := s.fld .SKY_CFG_MODULE_ID

/-- The active layout bank. -/
def activeBank (s : State) : Nat := s.fld .TBL_LAYOUT_SEL_ACTIVE

/-- A hashed region: its seed, its first slot and the number of its buckets as a power of two. -/
structure Region where
  seed : Nat
  slot : Nat
  log : Nat
  deriving DecidableEq, Repr

/-- The slots a key's entry occupies. -/
def TKey.size : TKey → Nat
  | .mac _ _ => 1
  | .host _ v6 _ => if v6 then 2 else 1
  | .lpm _ v6 _ len => if v6 && 64 < len then 2 else 1

/-- The key bytes of R88. -/
def TKey.bytes : TKey → List Byte
  | .mac fid a => toBe 2 fid ++ toBe 6 a
  | .host vrf v6 addr => toBe 2 vrf ++ toBe (if v6 then 16 else 4) addr ++ [if v6 then 6#8 else 4#8]
  | .lpm vrf v6 addr len =>
    toBe 2 vrf ++ toBe (if v6 then 16 else 4) addr ++ [BitVec.ofNat 8 len] ++ [if v6 then 6#8 else 4#8]

/-- Index of an LPM region register (R114). -/
def lpmIdx (v6 : Bool) (len : Nat) : Nat := if v6 then 33 + len else len

/-- The region of a key in a bank; none where an LPM region has EN 0. -/
def regionOf (s : State) (bank : Nat) : TKey → Option Region
  | .mac _ _ =>
    some ⟨s.fld .TBL_LAYOUT_SEED_SEED bank 0, 4 * s.fld .TBL_LAYOUT_GEOM_BASE bank 0,
      s.fld .TBL_LAYOUT_GEOM_BUCKETS_LOG2 bank 0⟩
  | .host _ _ _ =>
    some ⟨s.fld .TBL_LAYOUT_SEED_SEED bank 1, 4194304 + 4 * s.fld .TBL_LAYOUT_GEOM_BASE bank 1,
      s.fld .TBL_LAYOUT_GEOM_BUCKETS_LOG2 bank 1⟩
  | .lpm _ v6 _ len =>
    let i := lpmIdx v6 len
    if s.flag .TBL_LPM_REGION_EN bank i then
      some ⟨s.fld .TBL_LAYOUT_SEED_SEED bank 2, 8388608 + 4 * s.fld .TBL_LPM_REGION_BASE bank i,
        s.fld .TBL_LPM_REGION_BUCKETS_LOG2 bank i⟩
    else none

/-- The two candidate buckets of a key (R88). -/
def buckets (r : Region) (k : TKey) : Nat × Nat :=
  let h := fun (seed : Nat) => crc32c (toBe 4 seed ++ k.bytes) % 2 ^ r.log
  let b1 := h r.seed
  let b2 := h (2 ^ 32 - 1 - r.seed % 2 ^ 32)
  (b1, if b2 = b1 && 1 ≤ r.log then b1 ^^^ 1 else b2)

/-- The four slots of a bucket. -/
def bucketSlots (r : Region) (b : Nat) : List Nat := (List.range 4).map (fun i => r.slot + 4 * b + i)

/-- The slots of the candidate buckets, each once. -/
def keySlots (r : Region) (k : TKey) : List Nat :=
  let (b1, b2) := buckets r k
  if b1 = b2 then bucketSlots r b1 else bucketSlots r b1 ++ bucketSlots r b2

/-- The entry whose first slot is i, where no slot of it fails its parity (R103). -/
def entAt (m : SMap Slot) (i : Nat) : Option Ent :=
  match SMap.get? m i with
  | some ⟨some e, false, none⟩ => some e
  | some ⟨some e, false, some j⟩ => if SMap.get? m j = some ⟨none, false, some i⟩ then some e else none
  | _ => none

/-- The slot whose entry has this key, parity good (R88, R103). -/
def findSlot (m : SMap Slot) (l : List Nat) (k : TKey) : Option (Nat × Ent) :=
  l.findSome? (fun i =>
    match entAt m i with
    | some e => if e.key = k then some (i, e) else none
    | none => none)

/-- Every slot that fails its parity when these are read counts and is reported (R103). -/
def slotParity (l : List Nat) (s : State) : State :=
  (l.filter (fun i => match SMap.get? s.tbl.slots i with
    | some sl => sl.bad
    | none => false)).foldl
    (fun s i => memReport 3 i 5 0 true (s.count .TBL_PARITY_CNT)) s

/-- An entry read by index fails its parity (R103): slot numbers of R87. -/
def entryParity (slot : Nat) (s : State) : State := memReport 3 slot 5 0 true (s.count .TBL_PARITY_CNT)

/-- Look a key up in a bank (R88): the slot and the entry, and the parity reports of the slots read. -/
def lookupKey (bank : Nat) (k : TKey) (s : State) : Option (Nat × Ent) × State :=
  match regionOf s bank k with
  | none => (none, s)
  | some r => let l := keySlots r k; (findSlot s.tbl.slots l k, slotParity l s)

/-- The other slot of the entry that has slot i. -/
def otherSlot (m : SMap Slot) (i : Nat) : Option Nat :=
  match SMap.get? m i with
  | some x => x.pair
  | none => none

/-- The contents with another entry in first slot i. -/
def replaceEnt (m : SMap Slot) (i : Nat) (e : Ent) : SMap Slot := SMap.insert m i ⟨some e, false, otherSlot m i⟩

/-- Replace the entry in a slot. -/
def setEnt (i : Nat) (e : Ent) (s : State) : State := { s with tbl := { s.tbl with slots := replaceEnt s.tbl.slots i e } }

/-- Clear the slots of the entry that has slot i. -/
def clearEnt (m : SMap Slot) (i : Nat) : SMap Slot :=
  match otherSlot m i with
  | some j => if otherSlot m j = some i then SMap.erase (SMap.erase m i) j else SMap.erase m i
  | none => SMap.erase m i

/-! ### Inserts (R91) -/

def slotFree (m : SMap Slot) (i : Nat) : Bool := (SMap.get? m i).isNone

def slotBad (m : SMap Slot) (i : Nat) : Bool :=
  match SMap.get? m i with
  | some x => x.bad
  | none => false

/-- Write an entry into slots (first slot first); its second slot follows in the list where it takes two. The other slot
of an entry that it overwrites is freed (DEDUCED, log 18). -/
def placeAt (m : SMap Slot) (l : List Nat) (e : Ent) : SMap Slot :=
  match l with
  | i :: j :: _ =>
    if e.key.size = 2 then
      SMap.insert (SMap.insert (clearEnt (clearEnt m i) j) i ⟨some e, false, some j⟩) j ⟨none, false, some i⟩
    else SMap.insert (clearEnt m i) i ⟨some e, false, none⟩
  | [i] => SMap.insert (clearEnt m i) i ⟨some e, false, none⟩
  | [] => m

/-- The other candidate bucket of an entry that stands in bucket b. -/
def otherBucket (r : Region) (k : TKey) (b : Nat) : Nat :=
  let (b1, b2) := buckets r k
  if b = b1 then b2 else b1

/-- The first of a list for which a search succeeds, and the buckets that the searches read. -/
def tryAll {α : Type} (f : Nat → List Nat × Option α) : List Nat → List Nat × Option α
  | [] => ([], none)
  | i :: l =>
    match f i with
    | (b, some x) => (b, some x)
    | (b, none) => let y := tryAll f l; (b ++ y.1, y.2)

/-- Search a chain of exactly d + 1 relocations that leaves n slots free in bucket b (R91): the new contents. Slots
are tried in ascending order at every level; slots of the chain are not used twice. The other bucket of each entry tried
is read (DEDUCED, log 18). -/
def chain (r : Region) : Nat → SMap Slot → Nat → Nat → List Nat → List Nat × Option (SMap Slot)
  | d, m, b, n, seen =>
    let free := ((bucketSlots r b).filter (slotFree m)).length
    tryAll (fun i =>
      match entAt m i with
      | some e =>
        let o := otherBucket r e.key b
        if o ≠ b && !seen.contains i && decide (n ≤ free + e.key.size) then
          let moved := fun (m : SMap Slot) => clearEnt (placeAt m ((bucketSlots r o).filter (slotFree m)) e) i
          match d with
          | 0 => ([o], if e.key.size ≤ ((bucketSlots r o).filter (slotFree m)).length then some (moved m) else none)
          | d + 1 => let y := chain r d m o e.key.size (i :: seen); (o :: y.1, y.2.map moved)
        else ([], none)
      | none => ([], none)) (bucketSlots r b)

/-- Try chains of 1, 2, … relocations, b1 before b2 within one length (R91): the buckets read; the contents, the bucket
freed and the number of relocations. -/
def chains (r : Region) (m : SMap Slot) (b1 b2 n : Nat) : Nat → Nat → List Nat × Option (SMap Slot × Nat × Nat)
  | 0, _ => ([], none)
  | f + 1, d =>
    match chain r d m b1 n [] with
    | (l1, some m') => (l1, some (m', b1, d + 1))
    | (l1, none) =>
      match chain r d m b2 n [] with
      | (l2, some m') => (l1 ++ l2, some (m', b2, d + 1))
      | (l2, none) => let y := chains r m b1 b2 n f (d + 1); (l1 ++ l2 ++ y.1, y.2)

/-- The slots into which an entry of n slots goes without a relocation (R91): slots whose parity fails, else free ones of
the less occupied bucket. -/
def openSlots (m : SMap Slot) (s1 s2 : List Nat) (n : Nat) : List Nat :=
  let usable := fun (l : List Nat) =>
    let bad := l.filter (slotBad m)
    if bad.isEmpty then [] else let u := bad ++ l.filter (slotFree m); if n ≤ u.length then u else []
  let u := if (usable s1).isEmpty then usable s2 else usable s1
  if u.isEmpty then
    let f1 := s1.filter (slotFree m)
    let f2 := s2.filter (slotFree m)
    let f := if f1.length < f2.length then f2 else f1
    if n ≤ f.length then f else []
  else u

/-- What an insert does (R91): the buckets that it reads beside the key's own; the new contents, the slot that holds the
entry, and the relocations; none where no slot can be found. -/
def insertEnt (r : Region) (m : SMap Slot) (e : Ent) : List Nat × Option (SMap Slot × Nat × Nat) :=
  match findSlot m (keySlots r e.key) e.key with
  | some (i, old) => ([], some (replaceEnt m i { e with hit := old.hit, aged := false }, i, 0))
  | none =>
    let e := { e with hit := true, aged := false }
    let (b1, b2) := buckets r e.key
    match openSlots m (bucketSlots r b1) (bucketSlots r b2) e.key.size with
    | i :: l => ([], some (placeAt m (i :: l) e, i, 0))
    | [] =>
      let y := chains r m b1 b2 e.key.size 8 0
      (y.1, y.2.map (fun x =>
        let fr := (bucketSlots r x.2.1).filter (slotFree x.1)
        (placeAt x.1 fr e, fr.headD 0, x.2.2)))

/-! ### Forwarding results (R94 to R103) -/

/-- Why the pipeline drops a frame. -/
inductive DropCause where
  | rule | lagEmpty | parity | nhInvalid | nh | ttl | ecmpEmpty | l2Miss | l3Miss | mac
  deriving DecidableEq, Repr

/-- The counter of a drop. -/
def DropCause.cnt : DropCause → Cnt
  | .rule => .PARSE_RULE_DROP_CNT
  | .lagEmpty => .TBL_LAG_EMPTY_DROP_CNT
  | .parity => .TBL_PARITY_DROP_CNT
  | .nhInvalid => .TBL_NH_INVALID_DROP_CNT
  | .nh => .TBL_NH_DROP_CNT
  | .ttl => .TBL_TTL_EXPIRE_CNT
  | .ecmpEmpty => .TBL_ECMP_EMPTY_DROP_CNT
  | .l2Miss => .TBL_L2_MISS_DROP_CNT
  | .l3Miss => .TBL_L3_MISS_DROP_CNT
  | .mac => .TBL_MAC_DROP_CNT

/-- Where a frame goes. -/
inductive Dest where
  /-- Dropped, counted in the counter of the cause. -/
  | drop (c : DropCause)
  /-- To receive ring 64 + r, with the REASON of R325. -/
  | trap (ring reason : Nat)
  | port (p : Nat)
  | sky (m p : Nat)
  deriving DecidableEq, Repr

/-- A forwarding result: the destination, whether the TTL is decremented, and the next hop's edit program (R97). -/
structure Fwd where
  dest : Dest
  decTtl : Bool := false
  edit : Option Nat := none
  deriving DecidableEq, Repr

/-- A destination (module, port): the module's own ID names a local port (R96). -/
def toDest (s : State) (m p : Nat) : Dest := if m = ownMod s then .port p else .sky m p

/-- The LAG members of a group with their numbers. -/
def lagRead (s : State) (g : Nat) : List (Nat × LagMember) :=
  (List.range 16).filterMap (fun j => (SMap.get? s.tbl.lags (16 * g + j)).map (fun x => (j, x)))

/-- Select a LAG member (R102). -/
def selectLag (g hash : Nat) (s : State) : Dest × State :=
  let l := lagRead s g
  let bad := l.filter (fun e => e.2.bad)
  let s := bad.foldl (fun s e => entryParity (12419072 + (16 * g + e.1) / 4) s) s
  let ok := l.filter (fun e => !e.2.bad && e.2.valid)
  let h := ror32 hash (s.fld .PARSE_HASH_CFG_ROT_LAG)
  match ok[(h % 65536 * ok.length) / 65536]? with
  | some e => (toDest s e.2.mod e.2.port, s)
  | none => (.drop (if bad.isEmpty then .lagEmpty else .parity), s)

/-- Resolve a next hop (R96, R97). `ttl1` says that the frame is routed with a TTL or hop limit of 1; `routed` that it
is routed. -/
def resolveNh (i hash : Nat) (routed ttl1 : Bool) (s : State) : Fwd × State :=
  match SMap.get? s.tbl.nhs i with
  | none => (⟨.drop .nhInvalid, false, none⟩, s)
  | some nh =>
    if nh.bad then (⟨.drop .parity, false, none⟩, entryParity (11599872 + i / 2) s)
    else if !nh.valid then (⟨.drop .nhInvalid, false, none⟩, s)
    else if nh.kind = 0 then (⟨.drop .nh, false, none⟩, s)
    else if nh.kind = 3 then (⟨.trap (nh.target % 64) 0x14, false, none⟩, s)
    else if nh.decTtl && ttl1 then
      if s.flag .TBL_MISS_CFG_TTL1_ACT then (⟨.trap (s.fld .TBL_MISS_CFG_TRAP_RING) 0x13, false, none⟩, s)
      else (⟨.drop .ttl, false, none⟩, s)
    else
      let ed := if nh.editEn then some nh.edit else none
      let dec := nh.decTtl && routed
      if nh.kind = 1 then (⟨.port (nh.target % 256), dec, ed⟩, s)
      else if nh.kind = 2 then (⟨toDest s (bits nh.target 14 8) (nh.target % 256), dec, ed⟩, s)
      else let (d, s) := selectLag (nh.target % 1024) hash s; (⟨d, dec, ed⟩, s)

/-- Select an ECMP member and resolve its next hop (R101). -/
def resolveEcmp (g hash : Nat) (routed ttl1 : Bool) (s : State) : Fwd × State :=
  match SMap.get? s.tbl.groups g with
  | none => (⟨.drop .ecmpEmpty, false, none⟩, s)
  | some gr =>
    if gr.bad then (⟨.drop .parity, false, none⟩, entryParity (12124160 + g / 2) s)
    else if gr.size = 0 then (⟨.drop .ecmpEmpty, false, none⟩, s)
    else
      let h := ror32 hash (s.fld .PARSE_HASH_CFG_ROT_ECMP)
      let i := gr.base + (h % 65536 * gr.size) / 65536
      match SMap.get? s.tbl.members i with
      | none => resolveNh 0 hash routed ttl1 s
      | some m =>
        if m.bad then (⟨.drop .parity, false, none⟩, entryParity (12156928 + i / 4) s)
        else resolveNh m.nh hash routed ttl1 s

/-- Number of a length filter within its bank (R87). -/
def filterIdx (v6 : Bool) (addr : Nat) : Nat := if v6 then 65536 + bits addr 127 108 else bits addr 31 16

/-- An address with every bit beyond the length cleared (R88). -/
def maskAddr (v6 : Bool) (addr len : Nat) : Nat :=
  let w := if v6 then 128 else 32
  addr / 2 ^ (w - len) * 2 ^ (w - len)

/-- Probe the listed lengths in order (R98). -/
def lpmProbe (bank vrf : Nat) (v6 : Bool) (addr : Nat) : List Nat → State → Option Ent × State
  | [], s => (none, s)
  | len :: l, s =>
    match lookupKey bank (.lpm vrf v6 (maskAddr v6 addr len) len) s with
    | (some (_, e), s) => (some e, s)
    | (none, s) => lpmProbe bank vrf v6 addr l s

/-- Longest-prefix match (R98). -/
def lpmLookup (vrf : Nat) (v6 : Bool) (addr : Nat) (s : State) : Option Ent × State :=
  let bank := activeBank s
  let fi := filterIdx v6 addr
  match SMap.get? s.tbl.filters (1114112 * bank + fi) with
  | none => (none, s)
  | some f =>
    if f.bad then (none, entryParity (10485760 + 557056 * bank + fi / 2) s)
    else lpmProbe bank vrf v6 addr (f.lens.take f.count) s

/-- The FID of a frame: its outer VLAN ID or a default (R94). -/
def fidOf (d : List Byte) (w : Walk) (dflt : Nat) : Nat :=
  match w.outerTag with
  | some h => pword d h.off % 4096
  | none => dflt

/-- The IP header that directly follows the outer Ethernet header and its tags (R94). -/
def routedIp (w : Walk) : Option Hdr :=
  match w.hdrs with
  | e :: l =>
    if e.typ = 1 then
      match l.dropWhile (fun h => h.typ == 2) with
      | h :: _ => if h.typ = 4 || h.typ = 5 then some h else none
      | [] => none
    else none
  | [] => none

/-- The frame's destination MAC is the router's (R94). -/
def routerMac (s : State) : Nat := (s.reg .TBL_ROUTER_MAC_LO).toNat + 2 ^ 32 * s.fld .TBL_ROUTER_MAC_HI_MAC_HI

/-- A frame is routed (R94). -/
def isRouted (s : State) (port : Nat) (d : List Byte) (w : Walk) : Option Hdr :=
  if s.flag .TBL_PORT_CFG_ROUTE_EN port && ofBe (pbytes d 0 6) == routerMac s && !w.plainL2 then routedIp w else none

/-- The L2 miss action (R95). -/
def l2Miss (hash : Nat) (s : State) : Fwd × State :=
  match s.fld .TBL_MISS_CFG_L2_ACT with
  | 1 => (⟨.trap (s.fld .TBL_MISS_CFG_TRAP_RING) 0x11, false, none⟩, s)
  | 2 => resolveNh (s.fld .TBL_MISS_CFG_MISS_NH) hash false false s
  | _ => (⟨.drop .l2Miss, false, none⟩, s)

/-- The L3 miss action (R95). -/
def l3Miss (s : State) : Fwd :=
  if s.fld .TBL_MISS_CFG_L3_ACT = 1 then ⟨.trap (s.fld .TBL_MISS_CFG_TRAP_RING) 0x12, false, none⟩
  else ⟨.drop .l3Miss, false, none⟩

/-- The result of a MAC entry (R96). -/
def macResult (e : Ent) (hash : Nat) (s : State) : Fwd × State :=
  match e.kind with
  | 0 => (⟨.port (e.target % 256), false, none⟩, s)
  | 1 => (⟨toDest s (bits e.target 14 8) (e.target % 256), false, none⟩, s)
  | 2 => resolveNh e.target hash false false s
  | _ => (⟨.drop .mac, false, none⟩, s)

/-- The result of a host or LPM entry (R94) (DEDUCED, log 19). -/
def routeResult (e : Ent) (hash : Nat) (ttl1 : Bool) (s : State) : Fwd × State :=
  if e.ecmp then resolveEcmp (e.target % 65536) hash true ttl1 s else resolveNh e.target hash true ttl1 s

/-- The table result of a frame (R94). -/
def tableLookup (port : Nat) (d : List Byte) (w : Walk) (hash : Nat) (s : State) : Fwd × State :=
  let fid := fidOf d w (s.fld .TBL_PORT_CFG_PVID port)
  let (mac, s) := lookupKey (activeBank s) (.mac fid (ofBe (pbytes d 0 6))) s
  match isRouted s port d w with
  | none =>
    match mac with
    | some (_, e) => macResult e hash s
    | none => l2Miss hash s
  | some ip =>
    let v6 := ip.typ == 5
    let vrf := s.fld .TBL_PORT_CFG_VRF port
    let addr := if v6 then ofBe (pbytes d (ip.off + 24) 16) else ofBe (pbytes d (ip.off + 16) 4)
    let ttl1 := pbyte d (ip.off + (if v6 then 7 else 8)) == 1
    let (hit, s) := lookupKey (activeBank s) (.host vrf v6 addr) s
    match hit with
    | some (i, e) => routeResult e hash ttl1 (setEnt i { e with hit := true, aged := false } s)
    | none =>
      let (p, s) := lpmLookup vrf v6 addr s
      match p with
      | some e => routeResult e hash ttl1 s
      | none => (l3Miss s, s)

/-- Decrement the TTL or hop limit of the routed header, the IPv4 checksum with it (R97). -/
def decTtl (d : List Byte) (ip : Hdr) : List Byte :=
  if ip.typ = 4 then
    let t := (d.getD (ip.off + 8) 0#8)
    let new := patch d (ip.off + 8) [t - 1#8]
    fixCsum new (ip.off + 10) (changed d new (ip.off + 8) (ip.off + 10) 1) false
  else patch d (ip.off + 7) [d.getD (ip.off + 7) 0#8 - 1#8]

end Sys2Proof.Machine
end

