-- ==== Sys2Proof/Machine/Dma.lean ====
section
/-!
DEFINITION. Host memory and ring DMA (R278 to R280, R301, R304): windows, reads and writes with SECDED errors, flits of
the inter-die link, and the kind policers (R291, R292).
-/
namespace Sys2Proof.Machine

/-- The LPDDR5X range of R278. -/
def inDram (t n : Nat) : Bool := decide (0x80000000 ≤ t) && decide (t + n ≤ 0x1080000000)

/-- Window w holds device address a (R304). -/
def winHolds (s : State) (w a : Nat) : Bool :=
  let b := s.reg64 .HOST_WIN_BASE_LO .HOST_WIN_BASE_HI w
  s.flag .HOST_WIN_CFG_EN w && decide (b ≤ a) && decide (a < b + 2 ^ s.fld .HOST_WIN_CFG_SIZE_LOG2 w)

/-- The lowest-numbered window that holds an address. -/
def winFor (s : State) (a : Nat) : Option Nat := (List.range 16).find? (fun w => winHolds s w a)

/-- Ring DMA goes to an external host (R287). -/
def ownerExt (s : State) : Bool := s.flag .CTL_RING_OWNER_OWNER

/-- The target of an access of n bytes (R304): none where it fails its window. -/
def dmaTarget (s : State) (a n : Nat) (write : Bool) : Option Nat :=
  match winFor s a with
  | none => none
  | some w =>
    let b := s.reg64 .HOST_WIN_BASE_LO .HOST_WIN_BASE_HI w
    let t := s.reg64 .HOST_WIN_XLATE_LO .HOST_WIN_XLATE_HI w + (a - b)
    if a + n ≤ b + 2 ^ s.fld .HOST_WIN_CFG_SIZE_LOG2 w && (!write || s.flag .HOST_WIN_CFG_WRITE w)
        && (ownerExt s || inDram t n) then some t
    else none

/-- The PCIe link is down under rings that the external host owns. -/
def ownerDown (s : State) : Bool := ownerExt s && !s.flag .CTL_PCIE_STATUS_LINK_UP

/-- The IDL, and the PCIe link where the external host owns the rings, carry DMA. -/
def dmaUp (s : State) : Bool :=
  s.flag .SYS_PLANE_STATE_IDL_UP && !ownerDown s

/-- n bytes of a memory from an address (DESIGN CHOICE, log 5). -/
def memGet (m : SMap Byte) (t n : Nat) : List Byte := (List.range n).map (fun i => SMap.getD m (t + i) 0#8)

/-- Write bytes to a memory. -/
def memPut (m : SMap Byte) : Nat → List Byte → SMap Byte
  | _, [] => m
  | t, b :: l => memPut (SMap.put m t 0#8 b) (t + 1) l

/-- The 64-byte blocks that n bytes at t touch. -/
def blocksOf (t n : Nat) : List Nat :=
  if n = 0 then [] else (List.range ((t + n - 1) / 64 + 1 - t / 64)).map (fun i => t / 64 + i)

/-- Blocks of an access that hold an uncorrected error (R280). -/
def poisoned (s : State) (t n : Nat) : List Nat := (blocksOf t n).filter (fun b => s.host.poison.contains b)

/-- Read host memory for ring DMA: none on an uncorrected error, and each failing block counts (R280). -/
def hostRead (t n : Nat) (s : State) : Option (List Byte) × State :=
  let s := idlSend 3 1 1 (flitsOf n) s
  if ownerExt s then (some (memGet s.host.ext t n), s)
  else
    match poisoned s t n with
    | [] => (some (memGet s.host.mem t n), s)
    | b :: l => (none, (b :: l).foldl (fun s b => hostMemError (64 * b) false s) s)

/-- Write host memory (R280): a write that covers a failing block whole clears its error; a partial write of one is
not made and is reported. The answer says whether all of it was written. -/
def memWrite (t : Nat) (l : List Byte) (s : State) : Bool × State :=
  let bad := (poisoned s t l.length).filter (fun b => 64 * b < t || t + l.length < 64 * b + 64)
  let mem := if bad.isEmpty then memPut s.host.mem t l
    else ((List.range l.length).zip l).foldl
      (fun m e => if bad.contains ((t + e.1) / 64) then m else SMap.put m (t + e.1) 0#8 e.2) s.host.mem
  let heal := (blocksOf t l.length).filter (fun b => !bad.contains b)
  let s := { s with host := { s.host with mem := mem, poison := s.host.poison.filter (fun b => !heal.contains b) } }
  (bad.isEmpty, bad.foldl (fun s b => hostMemError (64 * b) false s) s)

/-- A DMA write reaches its memory. -/
def dmaStore (ext : Bool) (t : Nat) (l : List Byte) (s : State) : Bool × State :=
  let s := idlSend 5 1 (flitsOf l.length) 0 s
  if ext then (true, { s with host := { s.host with ext := memPut s.host.ext t l } }) else memWrite t l s

/-- Write for ring DMA: while the IDL is untrained the write is posted and waits (R16). -/
def hostWrite (t : Nat) (l : List Byte) (s : State) : Bool × State :=
  if s.flag .SYS_PLANE_STATE_IDL_UP then dmaStore (ownerExt s) t l s
  else (true, { s with ctl := { s.ctl with heldDma := s.ctl.heldDma ++ [⟨ownerExt s, t, l⟩] } })

/-- The DMA writes that waited for the link are made, in order. -/
def flushDma (s : State) : State :=
  s.ctl.heldDma.foldl (fun s w => (dmaStore w.ext w.addr w.data s).2) { s with ctl := { s.ctl with heldDma := [] } }

/-- Read through the windows: the bytes, or the STATUS of R336 that the failure gives. -/
def dmaRead (a n : Nat) (s : State) : Except Nat (List Byte) × State :=
  match dmaTarget s a n false with
  | none => (.error 0x13, s)
  | some t =>
    match hostRead t n s with
    | (some l, s) => (.ok l, s)
    | (none, s) => (.error 0x14, s)

/-- Write through the windows: 0, or the STATUS of R336. -/
def dmaWrite (a : Nat) (l : List Byte) (s : State) : Nat × State :=
  match dmaTarget s a l.length true with
  | none => (0x13, s)
  | some t =>
    let (ok, s) := hostWrite t l s
    (if ok then 0 else 0x14, s)

/-- The boot ROM and the register aperture of R278. -/
def inRom (t n : Nat) : Bool := decide (t + n ≤ 0x10000)
def inAperture (t n : Nat) : Bool := decide (0x4000000000 ≤ t) && decide (t + n ≤ 0x4040000000)

/-- A core's store (R278, R280): outside the ranges of the address map, to the boot ROM (PRESUMED, log 12: the cores are RV64),
or into part of a failing block it meets an access fault and is not made. A store to the register aperture is a REGISTER_WRITE,
not this (DEDUCED, log 12). -/
def coreStore (t : Nat) (l : List Byte) (s : State) : State :=
  if inAperture t l.length then s
  else if !inDram t l.length then s.emit (.accessFault t)
  else
    let (ok, s) := memWrite t l s
    if ok then s else s.emit (.accessFault t)

/-- A store of software that owns rings: an application core's to host memory, the external host's to its own memory
(R287, R302). -/
def softStore (a : Agent) (t : Nat) (l : List Byte) (s : State) : State :=
  if a = .host then { s with host := { s.host with ext := memPut s.host.ext t l } } else coreStore t l s

/-! ### Kind policers (R291, R292) -/

/-- A kind policer at reset: its setting is that of the register, its bucket is full. -/
def idlPolReset (k : Nat) : IdlPol :=
  let w := Reg.IDL_POL_CFG.resetOf k 0
  ⟨1024 * max 1 (Fld.IDL_POL_CFG_BURST.get w) * 65536, Fld.IDL_POL_CFG_EN.get w != 0,
    Fld.IDL_POL_CFG_RATE.get w, max 1 (Fld.IDL_POL_CFG_BURST.get w)⟩

def idlPol (s : State) (k : Nat) : IdlPol := SMap.getD s.ctl.pols k (idlPolReset k)

def setIdlPol (k : Nat) (p : IdlPol) (s : State) : State :=
  { s with ctl := { s.ctl with pols := SMap.put s.ctl.pols k (idlPolReset k) p } }

/-- The refresh of a kind policer (R292): the written setting takes effect, a bucket fills when EN changes from 0
to 1. -/
def idlRefresh (k : Nat) (s : State) : State :=
  let p := idlPol s k
  let en := s.flag .IDL_POL_CFG_EN k
  let rate := s.fld .IDL_POL_CFG_RATE k
  let burst := max 1 (s.fld .IDL_POL_CFG_BURST k)
  let full := 1024 * burst * 65536
  let b := if en && !p.en then full else min (p.bucket + 8192 * rate) full
  setIdlPol k ⟨b, en, rate, burst⟩ s

/-- The refresh of this core clock is due (R292): every 16 core clocks, once. -/
def idlDue (s : State) : Bool := s.now % 16 == 0 && s.ctl.polAt != s.now + 1

/-- The refresh of the kind policers. -/
def idlRefreshAll (s : State) : State :=
  if idlDue s then
    (List.range 5).foldl (fun s k => idlRefresh k s) { s with ctl := { s.ctl with polAt := s.now + 1 } }
  else s

def execIdlPolicerRefresh (s : State) : Result := .next (idlRefreshAll s)

/-- A unit of length L meets kind policer k (R292): whether it passes. A refresh of the same core clock comes first. -/
def idlPass (k len : Nat) (s : State) : Bool × State :=
  let s := idlRefreshAll s
  let p := idlPol s k
  if !p.en then (true, s)
  else if len * 65536 ≤ p.bucket then (true, setIdlPol k { p with bucket := p.bucket - len * 65536 } s)
  else (false, s.count .IDL_POL_REFUSE_CNT k)

/-- The kind policers of a switch die that is reset (R292): full, with the settings of IDL_POL_CFG. -/
def idlPolsFull (s : State) : SMap IdlPol :=
  (List.range 5).foldl (fun m k =>
    let burst := max 1 (s.fld .IDL_POL_CFG_BURST k)
    SMap.put m k (idlPolReset k) ⟨1024 * burst * 65536, s.flag .IDL_POL_CFG_EN k, s.fld .IDL_POL_CFG_RATE k, burst⟩) []

/-- HOST_MEMORY_ERROR (R278, R280): a read meets an error. A core's load outside the address map, or one that meets an
uncorrected error, ends in an access fault; an uncorrected error that strikes a block which ring DMA is to read stays there and
counts when it is met (DEDUCED, log 63). -/
def memoryError (addr : Nat) (corrected core : Bool) (s : State) : State :=
  if !inDram addr 1 then (if core && !inRom addr 1 && !inAperture addr 1 then s.emit (.accessFault addr) else s)
  else if corrected then hostMemError addr true s
  else
    let b := addr / 64
    let p := if s.host.poison.contains b then s.host.poison else b :: s.host.poison
    let s := { s with host := { s.host with poison := p } }
    if core then (hostMemError addr false s).emit (.accessFault addr) else s

def execHostMemoryError (addr : Nat) (e : MemError) (s : State) : Result :=
  .next (memoryError addr e.corrected e.core s)

end Sys2Proof.Machine
end

