-- ==== Sys2Proof/Machine/Locate.lean ====
section
/-!
DEFINITION. Where an aperture offset leads (R350, R356, R371, R372, R4): the register or counter at it, the die and access
class, the elements that an LZ-S1024 lacks, and what an alias write offers a register (R357).
-/
namespace Sys2Proof

/-- The element of an array (base, strides, counts) at an offset (R372). -/
def locate (base s1 n1 s2 n2 off : Nat) : Option (Nat × Nat) :=
  if off < base then none
  else
    let d := off - base
    let i := if s1 = 0 then 0 else d / s1
    let e := d - s1 * i
    let j := if s2 = 0 then 0 else e / s2
    if i < n1 ∧ j < n2 ∧ s1 * i + s2 * j = d then some (i, j) else none

/-- A register or a counter with its indices. -/
def Reg.locate (r : Reg) (off : Nat) : Option (Nat × Nat) := Sys2Proof.locate r.base r.s1 r.n1 r.s2 r.n2 off
def Cnt.locate (c : Cnt) (off : Nat) : Option (Nat × Nat) := Sys2Proof.locate c.base c.s1 c.n1 c.s2 c.n2 off

/-- The register at an offset. -/
def findReg (off : Nat) : Option (Reg × Nat × Nat) := Reg.all.findSome? (fun r => (r.locate off).map (fun p => (r, p)))

/-- The counter whose low word lies at an offset. -/
def findCnt (off : Nat) : Option (Cnt × Nat × Nat) := Cnt.all.findSome? (fun c => (c.locate off).map (fun p => (c, p)))

/-- The counter whose high word lies at an offset. -/
def findCntHi (off : Nat) : Option (Cnt × Nat × Nat) := if off < 4 then none else findCnt (off - 4)

/-- What an alias write offers a register whose readable value is `old` (R357): a normal write its value, SET, CLR and TGL
the new RW bits, with no bit of any other type. -/
def aliased (ali : Nat) (old v : Word) (rw : Nat) : Word :=
  let m := BitVec.ofNat 32 rw
  if ali = 1 then (old ||| v) &&& m else if ali = 2 then (old &&& ~~~v) &&& m
  else if ali = 3 then (old ^^^ v) &&& m else v

/-- A register takes a value: RW bits take it, W1C bits written as 1 clear, the others stay (R11). -/
def Reg.take (r : Reg) (old v : Word) : Word :=
  let rw := BitVec.ofNat 32 r.rw
  ((old &&& ~~~rw) ||| (v &&& rw)) &&& ~~~(v &&& BitVec.ofNat 32 r.w1c)

namespace Machine

/-- First aperture offset of the control die (R371). -/
def controlBase : Nat := 0x1000000

/-- An offset of the switch die: its accesses cross the IDL (R350, R371). -/
def isFar (off : Nat) : Bool := decide (off < controlBase)

/-- The registers of an array of ports, by name, that are not arrays of 256 ports or lanes (PRESUMED, log 51). -/
def notLanes : List Nat := [Reg.PARSE_NODE_A.base, Reg.PARSE_NODE_B.base, Reg.CTL_INT_ROUTE.base]

/-- Index i of a register array belongs to a leaf or sky element that an LZ-S1024 lacks (R3, R4). -/
def fusedIdx (r : Reg) (i j : Nat) : Bool :=
  (r.n1 == 256 && !notLanes.contains r.base && decide (128 ≤ i))
    || (r.n1 == 16 && r.base / 2 ^ 20 == 1 && decide (8 ≤ i))
    || ([Reg.SKY_LANE_EN.base, Reg.SKY_LANE_FAULT.base, Reg.SKY_LANE_RXLOS.base].contains r.base && decide (4 ≤ i))
    || (r.base == Reg.HLT_WIN_LANES.base && decide (4 ≤ j))
    || (r.n1 == 512 && decide (128 ≤ i % 256))
    || (r.base == Reg.OPT_ENGINE_TEMP.base && decide (8 ≤ i % 16))
    || (r.base == Reg.PWR_SENSOR.base && decide (8 ≤ i) && decide (i < 12))

/-- An element that an LZ-S1024 lacks (R3, R4). -/
def fusedReg (s : State) (r : Reg) (i j : Nat) : Bool := s.sys.part == .s1024 && fusedIdx r i j

/-- Index i of a counter array belongs to a port or lane, a crossbar input or output, or a pipeline that an LZ-S1024 lacks;
crossbar planes and mirror sessions are on both parts (R3, R4) (PRESUMED, log 51). -/
def fusedCntIdx (c : Cnt) (i : Nat) : Bool :=
  (c.n1 == 256 && decide (128 ≤ i)) || (c.n1 == 32 && decide (8 ≤ i % 16))
    || (c.n1 == 16 && c.base / 2 ^ 16 != Cnt.XBAR_PLANE_CELL_CNT.base / 2 ^ 16
      && c.base / 2 ^ 16 != Cnt.MIR_COPY_CNT.base / 2 ^ 16 && decide (8 ≤ i))

/-- A counter of an element that an LZ-S1024 lacks. -/
def fusedCnt (s : State) (c : Cnt) (i : Nat) : Bool := s.sys.part == .s1024 && fusedCntIdx c i

/-- The offset belongs to an element that an LZ-S1024 lacks (R4). -/
def fusedOff (s : State) (off : Nat) : Bool :=
  s.sys.part == .s1024 &&
    ((match findReg off with
      | some (r, i, j) => fusedIdx r i j
      | none => false)
    || (match findCnt off with
      | some (c, i, _) => fusedCntIdx c i
      | none => false)
    || (match findCntHi off with
      | some (c, i, _) => fusedCntIdx c i
      | none => false))

/-- A leaf group or pipeline, a leaf port, a sky lane, and a sky pipeline that an LZ-S1024 lacks (R3). -/
def noGroup (s : State) (g : Nat) : Bool := s.sys.part == .s1024 && decide (8 ≤ g)
def noPort (s : State) (p : Nat) : Bool := s.sys.part == .s1024 && decide (128 ≤ p)
def noLane (s : State) (n : Nat) : Bool := s.sys.part == .s1024 && decide (128 ≤ n)

/-- Leaf pipelines of the part. -/
def leafPipes (s : State) : Nat := if s.sys.part = .s1024 then 8 else 16

/-- The value that a read or an alias write finds: the shadow of a shadowed register (R363). -/
def State.seen (s : State) (r : Reg) (i j : Nat) : Word := if r.grp < 64 then s.shad r i j else s.reg r i j

/-- A plain write: the shadow with its pending bit (R363), or the register itself. -/
def plain (r : Reg) (i j : Nat) (v : Word) (s : State) : State :=
  if r.grp < 64 then
    (s.setShad r (r.take (s.shad r i j) v) i j).setReg .SYS_UPDATE_PENDING
      (s.reg .SYS_UPDATE_PENDING ||| BitVec.ofNat 32 (2 ^ r.grp))
  else s.setReg r (r.take (s.reg r i j) v) i j

end Machine
end Sys2Proof
end

