-- ==== Sys2Proof/Machine/Issue.lean ====
section
/-!
DEFINITION. How a register write travels (R350, R351, R360, R361): the key check at the control-die end of the IDL, and
the posted far write that is held while the IDL is untrained.
-/
namespace Sys2Proof.Machine

/-- Core clocks that a key stays open: 4,096 control-die register clocks of 200 MHz (R360). -/
def keyClocks : Nat := 4096 * 8

/-- The clock at which the agent's open key closes. -/
def keyOf' (s : State) (a : Agent) : Option Nat := if a.soft then s.ctl.keySoft else s.ctl.keyKeep

/-- The agent's key is open (R360). -/
def keyOpen (s : State) (a : Agent) : Bool :=
  match keyOf' s a with
  | some t => decide (s.now < t)
  | none => false

/-- Open or close an agent's key. -/
def setKey (a : Agent) (k : Option Nat) (s : State) : State :=
  if a.soft then { s with ctl := { s.ctl with keySoft := k } } else { s with ctl := { s.ctl with keyKeep := k } }

/-- A near write arrives and is done. -/
def near (op : State → State) (s : State) : State := op s

/-- A far write is posted: taken by the switch die now, or held in order while the IDL is untrained (R351). A write to an
element that an LZ-S1024 lacks is ignored (R4). -/
def far (w : RegWrite) (op : State → State) (s : State) : State :=
  if fusedOff s w.off then s
  else if s.flag .SYS_PLANE_STATE_IDL_UP then op (idlSend 0 0 1 0 s)
  else { s with ctl := { s.ctl with heldWrites := s.ctl.heldWrites ++ [w] } }

/-! ### Key-guarded writes of two agents in one register clock (R20) -/

/-- The register at an offset has an RW field, so that an alias write is not refused (R357). -/
def hasRw (off : Nat) : Bool :=
  match findReg off with
  | some (r, _) => r.rw != 0
  | none => false

/-- The key-guarded register that a 32-bit register write of the keeper core names, and the value. -/
def keeperWriteOf : Instr → Option (Nat × Nat)
  | .skyTxEnWrite .keeper v => some (Reg.off .SKY_TX_EN, v.toNat)
  | .laneEnWrite .keeper i v => some (Reg.off .SKY_LANE_EN i.val, v.toNat)
  | .foundStep .keeper => some (Reg.off .SKYT_STEP_CTRL, 1)
  | .ringOwnerWrite .keeper v => some (Reg.off .CTL_RING_OWNER, v.toNat)
  | .resetKindNone .keeper _ => some (Reg.off .SYS_RESET_CTRL, 0)
  | .coldReset .keeper => some (Reg.off .SYS_RESET_CTRL, 1)
  | .warmReset .keeper => some (Reg.off .SYS_RESET_CTRL, 2)
  | .appDomainReset .keeper => some (Reg.off .SYS_RESET_CTRL, 3)
  | .blockReset .keeper _ => some (Reg.off .SYS_RESET_CTRL, 4)
  | .fuseBlow .keeper _ => some (Reg.off .SYS_FUSE_CTRL, 0)
  | .railSetWrite .keeper i v => some (Reg.off .PWR_RAIL_SET i.val, v.toNat)
  | .optLaneBiasWrite .keeper l v => some (Reg.off .OPT_LANE_BIAS l.val, v.toNat)
  | .keyWrite .keeper v => some (Reg.off .SYS_KEY, v.toNat)
  | .registerWrite .keeper ali size off v =>
    if size.val = 2 ∧ (ali.val = 0 ∨ hasRw off.toNat = true) then some (off.toNat, v.toNat % 2 ^ 32) else none
  | _ => none

/-- A 32-bit write of any alias to this offset is key-guarded: its register has a key (R362). -/
def keyedOff (off : Nat) : Bool :=
  match findReg off with
  | some (r, _) => r.key
  | none => false

/-- Among the commands that wait, a write of the keeper core reaches this key-guarded register with the keeper's key
open; `k` says whether the key is open so far. -/
def keeperClaims (off : Nat) : Bool → List Instr → Bool
  | _, [] => false
  | k, c :: l =>
    match keeperWriteOf c with
    | none => keeperClaims off k l
    | some (o, v) =>
      if o = Reg.off .SYS_KEY then keeperClaims off (v == 0x7EA5) l
      else if keyedOff o then (k && o == off) || keeperClaims off false l
      else keeperClaims off k l

/-- The keeper core's key-guarded write wins this register in the running register clock: it has been made, or it waits
(R20). -/
def keeperWins (s : State) (off : Nat) : Bool :=
  s.ctl.keepKeyed.contains (s.regClk, off) || keeperClaims off (keyOpen s .keeper) s.pending

/-- Note a key-guarded write of the keeper core; those of earlier register clocks are forgotten. -/
def noteKeeper (w : RegWrite) (s : State) : State :=
  if w.agent = .keeper then
    { s with ctl := { s.ctl with
      keepKeyed := (s.regClk, w.off) :: s.ctl.keepKeyed.filter (fun e => e.1 == s.regClk) } }
  else s

/-- Log an access with a kind, wherever its register lies (R359). -/
def logAccess (kind : Nat) (w : RegWrite) (s : State) : State :=
  if isFar w.off then far w (logWrite kind w) s else logNear ⟨kind, w.agent, w.size, w.ali, w.off⟩ s

/-- A key-guarded write meets its key at the control-die end (R361): an open key is spent and the write passes, a
closed key logs it with kind 3. A write of the application cores or the external host that the keeper core's write beats in
the same register clock has spent its key, is ignored and is logged with kind 6 (R20) (DEDUCED, log 66). A write to an element
that an LZ-S1024 lacks is ignored and not logged (R4). -/
def guarded (w : RegWrite) (op : State → State) (s : State) : State :=
  if keyOpen s w.agent then
    let s := noteKeeper w (setKey w.agent none s)
    if w.agent ≠ .keeper ∧ keeperWins s w.off = true then logAccess 6 w s else op s
  else if fusedOff s w.off then s
  else logNear ⟨3, w.agent, w.size, w.ali, w.off⟩ s

/-- A plain 32-bit write of a value to a register. -/
def write32 (a : Agent) (r : Reg) (v : Nat) (i : Nat := 0) (j : Nat := 0) : RegWrite :=
  ⟨a, 0, r.off i j, BitVec.ofNat 32 v, 2⟩

end Sys2Proof.Machine
end

