-- ==== Sys2Proof/Machine/Rings.lean ====
section
/-!
DEFINITION. Rings and doorbells (R297 to R318): geometry, doorbell checks, fetching, holding slots and completions,
receive placement, stopping and enabling, records written to rings, and interrupt moderation.
-/
namespace Sys2Proof.Machine

/-! ### Geometry and working state -/

def ringOf (s : State) (r : Nat) : RingSt := SMap.getD s.host.rings r {}

def setRing (r : Nat) (x : RingSt) (s : State) : State :=
  { s with host := { s.host with rings := SMap.put s.host.rings r {} x } }

/-- a − b modulo 2^32 (R300). -/
def sub32 (a b : Nat) : Nat := (a + 2 ^ 32 - b % 2 ^ 32) % 2 ^ 32

/-- a + n modulo 2^32. -/
def add32 (a n : Nat) : Nat := (a + n) % 2 ^ 32

/-- Bytes of one entry (R297). -/
def entLen (r : Nat) : Nat := if 168 ≤ r then 256 else 32

def ringEn (s : State) (r : Nat) : Bool := s.flag .HOST_RING_CTRL_EN r
def headOf (s : State) (r : Nat) : Nat := (s.reg .HOST_RING_HEAD r).toNat
def tailOf (s : State) (r : Nat) : Nat := (s.reg .HOST_RING_TAIL r).toNat
def ringSize (s : State) (r : Nat) : Nat := 2 ^ s.fld .HOST_RING_CFG_SIZE_LOG2 r
def ringBase (s : State) (r : Nat) : Nat := s.reg64 .HOST_RING_BASE_LO .HOST_RING_BASE_HI r
def setHead (r v : Nat) (s : State) : State := s.setReg .HOST_RING_HEAD (BitVec.ofNat 32 v) r
def setTail (r v : Nat) (s : State) : State := s.setReg .HOST_RING_TAIL (BitVec.ofNat 32 v) r

/-- A ring is stopping (R313). -/
def stopping (s : State) (r : Nat) : Bool :=
  !ringEn s r && !s.flag .HOST_RING_STATUS_RING_IDLE r && (ringOf s r).everEn

/-- A ring counts as showing RING_IDLE for a requested entry to headless (R26). -/
def showsIdle (s : State) (r : Nat) : Bool :=
  !ringEn s r && (s.flag .HOST_RING_STATUS_RING_IDLE r || !(ringOf s r).everEn)

/-- Show the number of holding slots taken in HOST_CPL_STATUS.HELD (R318). -/
def showHeld (r : Nat) (s : State) : State :=
  if r < 160 then s.setFld .HOST_CPL_STATUS_HELD (ringOf s r).units.length r else s

/-- Store a ring's units and show their number. -/
def setUnits (r : Nat) (l : List RUnit) (s : State) : State := showHeld r (setRing r { ringOf s r with units := l } s)

/-! ### Vectors and write-back (R301, R317) -/

/-- Raise the vector of a ring under its moderation register (R317). -/
def ringRaise (r : Nat) (s : State) : State :=
  if s.flag .HOST_IRQ_CFG_EN r then raiseVec r (setRing r { ringOf s r with irqN := 0, irqAt := none } s) else s

/-- One entry was written to the ring that the moderation register governs (R317). -/
def entryIrq (r : Nat) (s : State) : State :=
  if s.flag .HOST_IRQ_CFG_EN r then
    let x := ringOf s r
    if max 1 (s.fld .HOST_IRQ_CFG_COUNT r) ≤ x.irqN + 1 then ringRaise r s
    else setRing r { x with irqN := x.irqN + 1, irqAt := (match x.irqAt with
      | some t => some t
      | none => some s.now) } s
  else s

/-- HOST_IRQ_CFG has been written while EN was `en` (R317): n and the timer hold while it is 0. -/
def irqCfg (r : Nat) (en : Bool) (s : State) : State :=
  let x := ringOf s r
  if en && !s.flag .HOST_IRQ_CFG_EN r then
    setRing r { x with irqHeld := x.irqAt.map (s.now - ·), irqAt := none } s
  else if !en && s.flag .HOST_IRQ_CFG_EN r then
    setRing r { x with irqAt := x.irqHeld.map (s.now - ·), irqHeld := none } s
  else s

/-- The HEAD that bounds the switch die's writes to a ring whose consumer is software: a doorbell frees space from the next core
clock on (R310). -/
def freeHead (s : State) (r : Nat) : Nat :=
  match (ringOf s r).freed with
  | some (t, old) => if t = s.now then old else if r < 160 then (s.reg .HOST_CPL_HEAD r).toNat else headOf s r
  | none => if r < 160 then (s.reg .HOST_CPL_HEAD r).toNat else headOf s r

/-- A consumer doorbell is accepted: the first of a core clock leaves the HEAD that it moves. -/
def noteFreed (r : Nat) (s : State) : State :=
  setRing r { ringOf s r with freed := some (s.now, freeHead s r) } s

/-- Write an index to a write-back slot at a device address (R301): whether it could be reached. -/
def writeBack (addr idx : Nat) (s : State) : Bool × State :=
  match dmaTarget s addr 64 true with
  | none => (false, s)
  | some t => (true, (hostWrite t (fit 64 (toLe 4 idx)) s).2)

/-- The write-back slot of a ring: HEAD for a software-produced ring, TAIL for the others (R301). -/
def ringWb (r : Nat) (s : State) : Bool × State :=
  writeBack (s.reg64 .HOST_RING_WB_LO .HOST_RING_WB_HI r) (if r < 160 then headOf s r else tailOf s r) s

/-! ### Stopping (R303, R305, R312, R314) -/

/-- Discard the held completions of a ring; units still at work lose theirs when they end (R27, R305). -/
def discardHeld (r : Nat) (s : State) : State :=
  let us := (ringOf s r).units
  let isDone := fun (u : RUnit) => match u.st with
    | .done _ => true
    | _ => false
  let keep := (us.filter (fun u => !isDone u)).map (fun u => { u with lost := true })
  (setUnits r keep s).count .HOST_RING_UNDELIVERED_CNT r 0 (us.filter isDone).length

/-- A ring begins to stop (R312): nothing more is fetched, and a receive ring releases its unreserved descriptors
(DEDUCED, log 13). -/
def stopRing (r : Nat) (s : State) : State :=
  let s := (s.setFld .HOST_RING_CTRL_EN 0 r).setFld .HOST_RING_STATUS_RUNNING 0 r
  setRing r { ringOf s r with raw := [], pre := [], preAt := headOf s r } s

/-- A ring stops with an error (R303, R305): ERR and ERR_CODE, a fault record, the vector. -/
def stopErr (r code value : Nat) (s : State) : State :=
  let s := ((stopRing r s).setFld .HOST_RING_STATUS_ERR 1 r).setFld .HOST_RING_STATUS_ERR_CODE code r
  ringRaise r (fault 0x12 r code value s)

/-- The completion ring and its write-back slot lie in windows that ring DMA may write (R305). -/
def cplReach (s : State) (r : Nat) : Bool :=
  decide (160 ≤ r) ||
    ((dmaTarget s (s.reg64 .HOST_CPL_BASE_LO .HOST_CPL_BASE_HI r) (32 * 2 ^ s.fld .HOST_CPL_CFG_SIZE_LOG2 r) true).isSome
      && (dmaTarget s (s.reg64 .HOST_CPL_WB_LO .HOST_CPL_WB_HI r) 64 true).isSome)

/-- A ring stops because a structure it needs can no longer be reached; completions that it can no longer write are discarded
(R305). On a ring that has already stopped they are discarded and nothing else happens (DEDUCED, log 13). -/
def stopLost (r : Nat) (s : State) : State :=
  let s := if ringEn s r then stopErr r 4 0 s else s
  if cplReach s r then s else discardHeld r s

/-- RING_IDLE (R312): a stopping ring with no unit left shows idle, writes its write-back slot where it may, and raises
its vector. -/
def ringIdle (r : Nat) (s : State) : State :=
  if stopping s r && (ringOf s r).units.isEmpty then
    let s := s.setFld .HOST_RING_STATUS_RING_IDLE 1 r
    let s := if (ringOf s r).quiet || ownerDown s then s else (ringWb r s).2
    ringRaise r s
  else s

def execRingIdle (r : Fin 172) (s : State) : Result := .next (ringIdle r.val s)

/-! ### Enabling and disabling (R299, R312, R313) -/

/-- A ring of n entries of `len` bytes at a base, with a write-back slot, keeps R299. -/
def structOk (s : State) (base n len wb : Nat) (write : Bool) : Bool :=
  base % 4096 == 0 && (dmaTarget s base (n * len) write).isSome && wb % 64 == 0 && (dmaTarget s wb 64 true).isSome

/-- A SIZE_LOG2 within 6 to 16 (R299). -/
def sizeOk (n : Nat) : Bool := decide (6 ≤ n) && decide (n ≤ 16)

/-- The ring may be enabled (R313). -/
def canEnable (s : State) (r : Nat) : Bool :=
  sizeOk (s.fld .HOST_RING_CFG_SIZE_LOG2 r)
    && structOk s (ringBase s r) (ringSize s r) (entLen r) (s.reg64 .HOST_RING_WB_LO .HOST_RING_WB_HI r) (decide (160 ≤ r))
    && (decide (160 ≤ r) ||
      (sizeOk (s.fld .HOST_CPL_CFG_SIZE_LOG2 r)
        && structOk s (s.reg64 .HOST_CPL_BASE_LO .HOST_CPL_BASE_HI r) (2 ^ s.fld .HOST_CPL_CFG_SIZE_LOG2 r) 32
          (s.reg64 .HOST_CPL_WB_LO .HOST_CPL_WB_HI r) true))
    && (decide (64 ≤ r) || s.sys.part == .s2048 || decide (s.fld .HOST_RING_CFG_PIPE r < 8))

/-- Ring settings take writes now (R313). -/
def ringWritable (s : State) (r : Nat) : Bool :=
  !ringEn s r && (s.flag .HOST_RING_STATUS_RING_IDLE r || !(ringOf s r).everEn)

/-- A write that sets EN (R313). -/
def ringEnable (a : Agent) (r : Nat) (s : State) : State :=
  if !ringWritable s r then logWrite 4 (write32 a .HOST_RING_CTRL 1 r) s
  else if canEnable s r then
    let s := (s.setReg .HOST_RING_STATUS
      (BitVec.ofNat 32 (2 ^ 31 + s.fld .HOST_RING_STATUS_CFG_ERR r * 2 ^ 28)) r).setFld .HOST_RING_CTRL_EN 1 r
    let s := if r < 160 then setTail r (headOf s r) s else s
    setRing r { ringOf s r with everEn := true, quiet := false, raw := [], pre := [], preAt := headOf s r, badAhead := [] } s
  else s.setFld .HOST_RING_STATUS_CFG_ERR 1 r

/-- A write that clears EN (R312). -/
def ringDisable (r : Nat) (s : State) : State := if ringEn s r then stopRing r s else s

def execRingEnable (a : Agent) (r : Fin 172) (s : State) : Result :=
  .next (far (write32 a .HOST_RING_CTRL 1 r.val) (ringEnable a r.val) s)

def execRingDisable (a : Agent) (r : Fin 172) (s : State) : Result :=
  .next (far (write32 a .HOST_RING_CTRL 0 r.val) (ringDisable r.val) s)

/-! ### Doorbells (R303) -/

/-- A refused doorbell (R303): it stops its ring and raises the vector; a consumer's on a ring with EN 0 raises none. -/
def refuseDb (consumer : Bool) (r code t : Nat) (s : State) : State :=
  let s := s.count .HOST_DB_REFUSE_CNT r
  if ringEn s r then stopErr r code t s
  else
    let s := fault 0x12 r code t ((s.setFld .HOST_RING_STATUS_ERR 1 r).setFld .HOST_RING_STATUS_ERR_CODE code r)
    if consumer then s else ringRaise r s

/-- A consumer's new HEAD is neither behind the old one nor beyond TAIL (R303). -/
def headAhead (old tail t : Nat) : Bool := decide (sub32 t old ≤ sub32 tail old)

/-- HOST_DB[r] (R303). -/
def doorbell (a : Agent) (r t : Nat) (s : State) : State :=
  let headless := s.flag .SYS_PLANE_STATE_HEADLESS
  if r < 160 then
    if !headless && !ringEn s r then logWrite 4 (write32 a .HOST_DB t r) s
    else if ringSize s r < sub32 t (headOf s r) then refuseDb false r 1 t s
    else if 2 ^ 31 ≤ sub32 t (tailOf s r) then refuseDb false r 2 t s
    else if headless then refuseDb false r 3 t s
    else setTail r t s
  else if headless then refuseDb true r 3 t s
  else if headAhead (headOf s r) (tailOf s r) t then setHead r t (noteFreed r s)
  else refuseDb true r 5 t s

/-- HOST_CPL_DB[r] (R303). -/
def cplDoorbell (r t : Nat) (s : State) : State :=
  if s.flag .SYS_PLANE_STATE_HEADLESS then refuseDb true r 3 t s
  else if headAhead (s.reg .HOST_CPL_HEAD r).toNat (s.reg .HOST_CPL_TAIL r).toNat t then
    (noteFreed r s).setReg .HOST_CPL_HEAD (BitVec.ofNat 32 t) r
  else refuseDb true r 5 t s

/-- DOORBELL (R302, R303): the entries that software has written before it, then the doorbell write
(DESIGN CHOICE, log 12). -/
def execDoorbell (a : Agent) (r : Fin 172) (t : Word) (stores : List (Nat × List Byte)) (s : State) : Result :=
  .next (far (write32 a .HOST_DB t.toNat r.val) (doorbell a r.val t.toNat)
    (stores.foldl (fun s e => softStore a e.1 e.2 s) s))

def execCplDoorbell (a : Agent) (r : Fin 160) (t : Word) (s : State) : Result :=
  .next (far (write32 a .HOST_CPL_DB t.toNat r.val) (cplDoorbell r.val t.toNat) s)

/-! ### DMA windows (R305) -/

/-- A write to HOST_WIN_CFG[w]. -/
def winCfg' (rw : RegWrite) (w : Nat) (s : State) : State :=
  let sz := Fld.HOST_WIN_CFG_SIZE_LOG2.get rw.val
  let en := Fld.HOST_WIN_CFG_EN.get rw.val
  let put := fun (sz : Nat) (s : State) =>
    ((s.setFld .HOST_WIN_CFG_EN en w).setFld .HOST_WIN_CFG_WRITE (Fld.HOST_WIN_CFG_WRITE.get rw.val) w).setFld
      .HOST_WIN_CFG_SIZE_LOG2 sz w
  if s.flag .HOST_WIN_CFG_EN w then
    let old := s.fld .HOST_WIN_CFG_SIZE_LOG2 w
    if sz = old then put old s else put old (logWrite 4 rw s)
  else if en = 1 &&
      (decide (sz < 12) || decide (46 < sz) || s.reg64 .HOST_WIN_BASE_LO .HOST_WIN_BASE_HI w % 2 ^ sz != 0) then
    logWrite 4 rw s
  else put sz s

/-- A write to a base or translation register of window w. -/
def winAddr (rw : RegWrite) (reg : Reg) (w : Nat) (s : State) : State :=
  if s.flag .HOST_WIN_CFG_EN w then logWrite 4 rw s else s.setReg reg rw.val w

/-- The five registers of a window, in address order. -/
def winReg (k : Nat) : Reg :=
  if k = 0 then .HOST_WIN_CFG else if k = 1 then .HOST_WIN_BASE_LO else if k = 2 then .HOST_WIN_BASE_HI
  else if k = 3 then .HOST_WIN_XLATE_LO else .HOST_WIN_XLATE_HI

def winWrite (rw : RegWrite) (k w : Nat) (s : State) : State :=
  if k = 0 then winCfg' rw w s else winAddr rw (winReg k) w s

def execWinCfgWrite (a : Agent) (w : Fin 16) (reg : Fin 5) (v : Word) (s : State) : Result :=
  let rw := write32 a (winReg reg.val) v.toNat w.val
  .next (far rw (winWrite rw reg.val w.val) s)

/-! ### Fetching (R302, R306, R307, R327) -/

/-- Word k of an entry (R319). -/
def entWord (d : List Byte) (k : Nat) : Nat := ofLe (slice d (8 * k) 8)

/-- Read entry i of a ring: none inside where its block has an uncorrected error; the outer none where the ring is
outside its window. -/
def readEntry (r i : Nat) (s : State) : Option Entry × State :=
  match dmaTarget s (ringBase s r + i % ringSize s r * entLen r) 32 false with
  | none => (none, s)
  | some t => let (d, s) := hostRead t 32 s; (some ⟨i, d⟩, s)

/-- The entries of the run that starts at index i (R306): it ends at an entry with CHAIN clear or one whose read
failed; none where it reaches TAIL first. Entries beyond the 64th are read only for their CHAIN bit. -/
def readRun (r tail : Nat) : Nat → Nat → List Entry → State → Option (List Entry) × Bool × State
  | 0, _, _, s => (none, true, s)
  | f + 1, i, acc, s =>
    if i = tail then (none, true, s)
    else
      match readEntry r i s with
      | (none, s) => (none, false, s)
      | (some e, s) =>
        let acc := acc ++ [e]
        let fin := match e.data with
          | none => true
          | some d => !(entWord d 0).testBit 63
        if fin then (some acc, true, s) else readRun r tail f (add32 i 1) acc s

/-- Entries that a table-write operation must have (R327); none for an unknown OP. -/
def opCount (op w1 : Nat) : Option Nat :=
  if op = 0x10 || op = 0x11 then some 4
  else if op = 0x14 then some 2
  else if op = 0x15 then some (max 1 (1 + ceilDiv (bits w1 6 0 - 16) 24))
  else if op = 0x12 || op = 0x13 || (0x20 ≤ op && op ≤ 0x26) || (0x28 ≤ op && op ≤ 0x2C) || op = 0x30 then some 1
  else none

/-- The entries agree in OP, BANK and INDEX and count their PART from 0 (R327). -/
def partsOk (es : List (List Byte)) : Bool :=
  match es with
  | [] => false
  | d :: _ =>
    let w := entWord d 0
    ((List.range es.length).zip es).all (fun e =>
      let v := entWord e.2 0
      bits v 55 48 == bits w 55 48 && v.testBit 56 == w.testBit 56 && bits v 31 0 == bits w 31 0
        && bits v 62 57 == e.1)

/-- The STATUS with which a fetched run ends at once, if any (R306, R327, R336): a run of more than 64 entries that an unreadable
entry ends is a CHAIN_ERR, which R336 decides first. -/
def runStatus (r : Nat) (es : List Entry) : Option Nat :=
  let ds := es.filterMap (fun e => e.data)
  if 64 < es.length then some 0x15
  else if ds.length < es.length then some 0x14
  else
    match ds with
    | [] => some 0x14
    | d :: _ =>
      let op := bits (entWord d 0) 55 48
      if r < 64 then (if ds.all (fun x => bits (entWord x 0) 55 48 == 1) then none else some 0x10)
      else
        match partsOk ds, opCount op (entWord d 1) with
        | false, _ => some 0x15
        | true, some n => if n = ds.length then none else some 0x15
        | true, none => some 0x10

/-- Entries fetched and not finished (R302): a run holds at most 64. -/
def inflight (l : List RUnit) : Nat :=
  (l.map (fun u => match u.st with
    | .done _ => 0
    | _ => min u.nent 64)).sum

/-- The COOKIE of the first entry of a run where it could be read. -/
def runCookie (es : List Entry) : Nat :=
  match es with
  | e :: _ => (match e.data with
    | some d => bits (entWord d 0) 47 32
    | none => 0)
  | [] => 0

/-- Take whole chains from HEAD while there are slots and room (R302, R306, R309). -/
def fetchChains (r : Nat) : Nat → State → State
  | 0, s => s
  | f + 1, s =>
    let x := ringOf s r
    if !ringEn s r || 64 ≤ x.units.length || headOf s r = tailOf s r then s
    else
      match readRun r (tailOf s r) (ringSize s r) (headOf s r) [] s with
      | (none, ok, s) => if ok then s else stopLost r s
      | (some es, _, s) =>
        let n := es.length
        if 64 < inflight x.units + min n 64 then s
        else
          let first := headOf s r
          let s := setHead r (add32 first n) s
          let st := match runStatus r es with
            | some c => .done { status := c, cookie := runCookie es, first := first, nent := n }
            | none => .fetched es
          let u : RUnit := ⟨x.nextId, first, n, runCookie es, st, false, s.now⟩
          let s := setRing r { ringOf s r with nextId := x.nextId + 1 } s
          let s := setUnits r (x.units ++ [u]) s
          let (ok, s) := ringWb r s
          if ok then fetchChains r f s else stopLost r s

/-- Read receive descriptors ahead: at most 64 valid ones are held (R311). -/
def prefetch (r : Nat) : Nat → State → State
  | 0, s => s
  | f + 1, s =>
    let x := ringOf s r
    if !ringEn s r || 64 ≤ x.raw.length + x.pre.length || x.preAt = tailOf s r then s
    else
      match readEntry r x.preAt s with
      | (none, s) => stopLost r s
      | (some e, s) =>
        prefetch r f (setRing r { ringOf s r with raw := x.raw ++ [e], preAt := add32 x.preAt 1 } s)

/-- A receive ring's fetch: where it has read descriptors its write-back follows (R301). -/
def fetchRx (r : Nat) (s : State) : State :=
  let n := (ringOf s r).preAt
  let s := prefetch r 64 s
  if (ringOf s r).preAt = n || !ringEn s r then s
  else
    let (ok, s) := ringWb r s
    if ok then s else stopLost r s

/-- RING_FETCH (R302). -/
def execRingFetch (r : Fin 160) (s : State) : Result :=
  .next (if dmaUp s then (if 64 ≤ r.val && r.val < 128 then fetchRx r.val s else fetchChains r.val 64 s) else s)

/-! ### Completions (R309, R310, R323) -/

/-- The words of a completion (R323). -/
def cplBytes (c : Cpl) : List Byte :=
  toLe 8 (c.status * 2 ^ 56 + c.reason * 2 ^ 48 + c.cookie * 2 ^ 32 + c.first % 2 ^ 32)
  ++ toLe 8 c.w1
  ++ toLe 8 (c.nent * 2 ^ 47 + b2n c.tsValid * 2 ^ 46 + c.flen * 2 ^ 32 + c.srcMod * 2 ^ 25 + c.srcPort * 2 ^ 17
      + c.cls * 2 ^ 14 + b2n c.egress * 2 ^ 13 + c.session * 2 ^ 9)
  ++ toLe 8 (c.hash * 2 ^ 32 + (match c.rule with
      | some i => 2 ^ 31 + i
      | none => 0))

/-- The STATUS marks a malformed entry (R336). -/
def malformed (st : Nat) : Bool :=
  st == 0x10 || st == 0x11 || st == 0x12 || st == 0x13 || st == 0x14 || st == 0x15 || st == 0x22 || st == 0x23

/-- The completion of a unit is ready (R310); one that can no longer be written is discarded (R27). Codes 0x20 to 0x23
count in TBL_WRITE_ERR_CNT (R92). -/
def finish (r id : Nat) (c : Cpl) (s : State) : State :=
  let s := s.countIf (decide (0x20 ≤ c.status) && decide (c.status ≤ 0x23)) .TBL_WRITE_ERR_CNT
  let us := (ringOf s r).units
  if us.any (fun u => u.id == id && u.lost) then
    (setUnits r (us.filter (fun u => u.id != id)) s).count .HOST_RING_UNDELIVERED_CNT r
  else setUnits r (us.map (fun u => if u.id = id then { u with st := .done c } else u)) s

/-- Change the working state of a unit. -/
def setUnitSt (r id : Nat) (st : UnitSt) (s : State) : State :=
  setUnits r ((ringOf s r).units.map (fun u => if u.id = id then { u with st := st } else u)) s

/-- COMPLETION_WRITE (R310): the oldest held completion is written if it is ready and its ring has room, then the
write-back, then the moderation of its vector (R302, R317). -/
def completionWrite (r : Nat) (s : State) : State :=
  match (ringOf s r).units with
  | [] => s
  | u :: us =>
    match u.st with
    | .done c =>
      let tail := (s.reg .HOST_CPL_TAIL r).toNat
      let size := 2 ^ s.fld .HOST_CPL_CFG_SIZE_LOG2 r
      if ownerDown s || (ringOf s r).quiet || size ≤ sub32 tail (freeHead s r) then s
      else
        let (st, s) := dmaWrite (s.reg64 .HOST_CPL_BASE_LO .HOST_CPL_BASE_HI r + tail % size * 32) (cplBytes c) s
        if st = 0x13 then stopLost r s
        else
          let s := (setUnits r us s).setReg .HOST_CPL_TAIL (BitVec.ofNat 32 (add32 tail 1)) r
          let s := if malformed c.status then s.count .HOST_RING_ERR_ENTRY_CNT r 0 c.nent
            else s.count .HOST_RING_ENTRY_CNT r 0 c.nent
          let (ok, s) := writeBack (s.reg64 .HOST_CPL_WB_LO .HOST_CPL_WB_HI r) (add32 tail 1) s
          if ok then entryIrq r s else stopLost r s
    | _ => s

def execCompletionWrite (r : Fin 160) (s : State) : Result := .next (completionWrite r.val s)

/-- IRQ_MOD_TIMER (R317). -/
def execIrqModTimer (r : Fin 172) (s : State) : Result :=
  .next (match (ringOf s r.val).irqAt with
    | some t =>
      let us := s.fld .HOST_IRQ_CFG_USEC r.val
      if s.flag .HOST_IRQ_CFG_EN r.val && us != 0 && decide (t + us * clkUs ≤ s.now) then ringRaise r.val s else s
    | none => s)

/-! ### Receive rings (R311, R322, R325) -/

/-- HEAD of a receive ring counts a descriptor once it is reserved or completed as malformed (R311). -/
def rxCount (r : Nat) (l : List Nat) (s : State) : State :=
  let x := ringOf s r
  let all := x.badAhead ++ l
  let adv := fun (f : Nat) => (List.range f).foldl (fun (p : Nat × List Nat) _ =>
    if p.2.contains p.1 then (add32 p.1 1, p.2.filter (· != p.1)) else p) (headOf s r, all)
  let (h, rest) := adv all.length
  let s := setRing r { x with badAhead := rest } s
  if h = headOf s r then s
  else
    let (ok, s) := ringWb r (setHead r h s)
    if ok then s else stopLost r s

/-- The STATUS of a receive descriptor (R322, R336); 0 where it is valid. -/
def rxDescStatus (s : State) (d : List Byte) : Nat :=
  let w0 := entWord d 0
  let len := bits w0 16 0
  if w0.testBit 63 then 0x15
  else if bits w0 55 48 != 2 then 0x10
  else if len < 256 || 65536 < len then 0x11
  else if (dmaTarget s (entWord d 1) len true).isNone then 0x13
  else 0

/-- RX_BUFFER_DESCRIPTOR (R322): the oldest descriptor read ahead is checked; it becomes available, or is completed at
once as malformed when a holding slot is free (DEDUCED, log 65). -/
def rxBufferDescriptor (r : Nat) (s : State) : State :=
  let x := ringOf s r
  match x.raw with
  | [] => s
  | e :: raw =>
    let st := match e.data with
      | none => 0x14
      | some d => rxDescStatus s d
    if st = 0 then
      let d := e.data.getD []
      setRing r { x with raw := raw, pre := x.pre ++ [⟨e.idx, entWord d 1, bits (entWord d 0) 16 0⟩] } s
    else if 64 ≤ x.units.length then s
    else
      let u : RUnit := ⟨x.nextId, e.idx, 1, 0, .done { status := st, first := e.idx }, false, s.now⟩
      let s := setRing r { x with raw := raw, nextId := x.nextId + 1 } s
      rxCount r [e.idx] (setUnits r (x.units ++ [u]) s)

def execRxBufferDescriptor (r : Fin 64) (s : State) : Result := .next (rxBufferDescriptor (64 + r.val) s)

/-- What a receive completion says of a frame (R325). -/
structure RxInfo where
  reason : Nat
  ts : Nat
  tsValid : Bool
  srcMod : Nat
  srcPort : Nat
  cls : Nat
  egress : Bool := false
  session : Nat := 0
  hash : Nat
  rule : Option Nat := none
  /-- The leaf pipeline that decided the frame, where one did. -/
  pipe : Option Nat
  deriving DecidableEq, Repr

/-- The fewest descriptors in index order that hold n bytes (R311). -/
def takeBufs : List RxBuf → Nat → Option (List RxBuf)
  | _, 0 => some []
  | [], _ + 1 => none
  | b :: l, n + 1 => (takeBufs l (n + 1 - b.len)).map (fun t => b :: t)

/-- Fill the buffers with frame bytes; the lowest failing STATUS. -/
def fillBufs : List RxBuf → List Byte → Nat → State → Nat × State
  | [], _, st, s => (st, s)
  | b :: l, d, st, s =>
    let (e, s) := dmaWrite b.addr (d.take b.len) s
    fillBufs l (d.drop b.len) (if e = 0 then st else if st = 0 then e else min st e) s

/-- A frame for receive ring 64 + ring meets the checks of R311; whether it was placed. -/
def rxPlace (ring : Nat) (data : List Byte) (i : RxInfo) (s : State) : Bool × State :=
  let r := 64 + ring
  let x := ringOf s r
  let drop := fun (c : Cnt) (s : State) =>
    let s := s.count c r
    match i.pipe with
    | some q => s.count .HOST_RX_DROP_CNT q
    | none => s
  if !ringEn s r then (false, drop .HOST_RX_RING_DOWN_DROP_CNT s)
  else if 64 ≤ x.units.length then (false, drop .HOST_RX_CPL_FULL_DROP_CNT s)
  else
    match takeBufs x.pre data.length with
    | none => (false, drop .RX_NOBUF_CNT s)
    | some bs =>
      let first := (bs.map (fun b => b.idx)).headD 0
      let id := x.nextId
      let u : RUnit := ⟨id, first, bs.length, 0, .busy, false, s.now⟩
      let s := setRing r { x with pre := x.pre.drop bs.length, nextId := id + 1 } s
      let s := setUnits r (x.units ++ [u]) s
      let s := rxCount r (bs.map (fun b => b.idx)) s
      let (st, s) := fillBufs bs data 0 s
      (true, finish r id
        { status := st, reason := i.reason, first := first, w1 := i.ts, nent := bs.length, tsValid := i.tsValid,
          flen := data.length, srcMod := i.srcMod, srcPort := i.srcPort, cls := i.cls, egress := i.egress,
          session := i.session, hash := i.hash, rule := i.rule } s)

/-! ### Records to notification and capture rings (R315, R316, R331) -/

/-- The type code of a record (R331). -/
def RKind.code : RKind → Nat
  | .learn => 1
  | .age => 2
  | .fault => 3
  | .dump => 4
  | .step => 5
  | .weather => 6

/-- The ring of a kind of record (R315). -/
def noteRing (s : State) (k : RKind) : Nat :=
  160 + (match k with
    | .learn => s.fld .TBL_LEARN_CFG_RING
    | .age => s.fld .TBL_AGE_CFG_RING
    | .weather => s.fld .TM_WX_CFG_RING
    | .dump => s.fld .HOST_NOTIFY_CFG_DUMP_RING
    | .fault => s.fld .HOST_NOTIFY_CFG_FAULT_RING
    | .step => s.fld .HOST_NOTIFY_CFG_FAULT_RING)

/-- The bytes of a record at a ring index (R331). -/
def noteBytes (n : NRec) (idx : Nat) : List Byte :=
  toLe 8 (n.kind.code * 2 ^ 56 + n.sub * 2 ^ 48 + n.arg * 2 ^ 32 + idx) ++ toLe 8 n.w1 ++ toLe 8 n.w2 ++ toLe 8 n.w3

/-- A switch-die ring takes n more entries (DEDUCED, log 53). -/
def ringTakes (s : State) (r n : Nat) : Bool :=
  ringEn s r && !ownerDown s && decide (sub32 (tailOf s r) (freeHead s r) + n ≤ ringSize s r)

/-- Write one entry to a switch-die ring at TAIL, then the write-back and the moderation (R301, R317): whether the ring
could be reached (DEDUCED, log 16). -/
def ringPut (r : Nat) (mk : Nat → List Byte) (s : State) : Bool × State :=
  let tail := tailOf s r
  let (st, s) := dmaWrite (ringBase s r + tail % ringSize s r * entLen r) (mk tail) s
  if st = 0x13 then (false, stopLost r s)
  else
    let (ok, s) := ringWb r (setTail r (add32 tail 1) s)
    if ok then (true, entryIrq r s) else (true, stopLost r s)

/-- A ring's structures lie in windows that hold them (R305). -/
def ringReach (s : State) (r : Nat) : Bool :=
  (dmaTarget s (ringBase s r) (ringSize s r * entLen r) (decide (160 ≤ r))).isSome
    && (dmaTarget s (s.reg64 .HOST_RING_WB_LO .HOST_RING_WB_HI r) 64 true).isSome

/-- Offer records that go together to their ring: whether it takes them. A fault record that is written raises vector
172 (R294). -/
def notePut (l : List NRec) (s : State) : Bool × State :=
  match l with
  | [] => (true, s)
  | n :: _ =>
    let r := noteRing s n.kind
    if !ringTakes s r l.length then (false, s)
    else if !ringReach s r then (false, stopLost r s)
    else
      (true, l.foldl (fun s n =>
        let s := (ringPut r (noteBytes n) s).2
        if n.kind = .fault then raiseVec 172 s else s) s)

/-- Records in a backlog. -/
def groupLen (l : List (List NRec)) : Nat := (l.map List.length).sum

/-- Fault and time-step records that their ring does not take enter the fault backlog of 256 records (R316). -/
def toFaultBacklog (l : List NRec) (s : State) : State :=
  if groupLen s.host.faultLog + l.length ≤ 256 then
    { s with host := { s.host with faultLog := s.host.faultLog ++ [l] } }
  else s.count .HOST_FAULT_REC_DROP_CNT 0 0 l.length

/-- Records enter the notification backlog of 4,096 records (R28). A record that finds it full after the exit from headless is
dropped and counted in the same way (DESIGN CHOICE, log 16). -/
def toBacklog (l : List NRec) (s : State) : State :=
  if groupLen s.sys.backlog + l.length ≤ 4096 then { s with sys := { s.sys with backlog := s.sys.backlog ++ [l] } }
  else s.count .SYS_HEADLESS_NOTIFY_DROP_CNT 0 0 l.length

/-- The watch entry of a weather record (R180). -/
def wxEntry (n : NRec) : Nat := bits n.w2 44 35

/-- A weather record is not delivered (R181): the next record of its entry says so. -/
def wxMiss (i : Nat) (s : State) : State :=
  { s with tm := { s.tm with wxLost := if s.tm.wxLost.contains i then s.tm.wxLost else i :: s.tm.wxLost } }

/-- Weather records have been delivered (R181). -/
def noteWent (l : List NRec) (s : State) : State :=
  l.foldl (fun s n => s.countIf (n.kind == .weather) .TM_WX_RECORD_CNT) s

/-- What becomes of a record that its ring does not take (R29, R316): none where it waits. -/
def noteMiss (l : List NRec) (s : State) : Option State :=
  match l with
  | [] => some s
  | n :: _ =>
    match n.kind with
    | .fault => some (toFaultBacklog l s)
    | .step => some (toFaultBacklog l s)
    | .weather => some (l.foldl (fun s n => wxMiss (wxEntry n) (s.count .TM_WX_DROP_CNT)) s)
    | _ => none

/-- While headless, and until the backlog has drained after it, records go to the backlog (R28, R29). -/
def backlogged (s : State) : Bool := s.flag .SYS_PLANE_STATE_HEADLESS || !s.sys.backlog.isEmpty

/-- The next generated records meet their ring (R315, R316). -/
def noteNext (l : List NRec) (s : State) : State :=
  if backlogged s then toBacklog l s
  else
    let fault := l.any (fun n => n.kind == .fault || n.kind == .step)
    if fault && !s.host.faultLog.isEmpty then toFaultBacklog l s
    else
      match notePut l s with
      | (true, s) => s
      | (false, s) => (noteMiss l s).getD (toBacklog l s)

/-- FAULT_BACKLOG_DELIVER (R316). -/
def execFaultBacklogDeliver (s : State) : Result :=
  .next (match s.host.faultLog with
    | [] => s
    | l :: rest =>
      if backlogged s then s
      else
        match notePut l s with
        | (true, s) => { s with host := { s.host with faultLog := rest } }
        | (false, s) => s)

/-- The kind policer that a record of this kind meets (R291). -/
def polOfKind : RKind → Option Nat
  | .weather => some 3
  | .learn | .age | .dump => some 4
  | .fault | .step => none

/-- Records meet their kind policer and then their ring: whether they are delivered. -/
def notePass (l : List NRec) (s : State) : Bool × State :=
  match l.head?.bind (fun n => polOfKind n.kind) with
  | none => notePut l s
  | some k =>
    match idlPass k (32 * l.length) s with
    | (false, s) => (false, s)
    | (true, s) => notePut l s

/-- HEADLESS_BACKLOG_DELIVER (R29, R291). -/
def execHeadlessBacklogDeliver (s : State) : Result :=
  .next (match s.sys.backlog with
    | [] => s
    | l :: rest =>
      if s.flag .SYS_PLANE_STATE_HEADLESS then s
      else
        let pop := fun (s : State) => { s with sys := { s.sys with backlog := rest } }
        let fault := l.any (fun n => n.kind == .fault || n.kind == .step)
        if fault && !s.host.faultLog.isEmpty then pop (toFaultBacklog l s)
        else
          match notePass l s with
          | (true, s) => pop (noteWent l s)
          | (false, s) =>
            match noteMiss l s with
            | some s => pop s
            | none => s)

end Sys2Proof.Machine
end

