-- ==== Sys2Proof/Machine/Flash.lean ====
section
/-!
DEFINITION. Flash (R281): its partitions, the copies of the configuration (R415), and what an operation of the NVM engine
moves (R413 to R415).
-/
namespace Sys2Proof.Machine

/-- A GiB, and the copies of the configuration partition. -/
def gib : Nat := 2 ^ 30
def slotBase (k : Nat) : Nat := 4 * gib * k
def cfgSize : Nat := 2 ^ 29
def cfgBase (k : Nat) : Nat := 8 * gib + cfgSize * k
def cfgMax : Nat := 2 ^ 29 - 4096

/-- The current configuration copy: the valid one with the higher sequence number (R415). -/
def curCopy (s : State) : Option (Nat × Nat) :=
  match s.nvm.cfg0, s.nvm.cfg1 with
  | some a, some b => if a.seq < b.seq then some (1, b.seq) else some (0, a.seq)
  | some a, none => some (0, a.seq)
  | none, some b => some (1, b.seq)
  | none, none => none

/-- The copy that a configuration commit writes, and its sequence number: copy 0 where none is valid. -/
def nextCopy (s : State) : Nat × Nat :=
  match curCopy s with
  | some (0, q) => (1, q + 1)
  | some (_, q) => (0, q + 1)
  | none => (0, 1)

def setCopy (k : Nat) (c : Option CfgCopy) (s : State) : State :=
  if k = 0 then { s with nvm := { s.nvm with cfg0 := c } } else { s with nvm := { s.nvm with cfg1 := c } }

/-- The state of an image slot (R409). -/
def slotState (s : State) (k : Nat) : Nat := if k = 0 then s.nvm.slotA else s.nvm.slotB

def setSlot (k v : Nat) (s : State) : State :=
  if k = 0 then { s with nvm := { s.nvm with slotA := v } } else { s with nvm := { s.nvm with slotB := v } }

/-- A byte of flash: the fault log as R428 lays it out; the dusk region and the record of a configuration copy, whose layout
the spec does not give, are free (DESIGN CHOICE, log 5). -/
def flashByte (s : State) (a : Nat) : Byte :=
  if 9 * gib ≤ a ∧ a < 17 * gib then
    ((SMap.get? s.hlt.flog ((a - 9 * gib) / 64)).getD []).getD ((a - 9 * gib) % 64) 0#8
  else if (17 * gib ≤ a ∧ a < 18 * gib) ∨ (8 * gib ≤ a ∧ a < 9 * gib ∧ cfgMax ≤ (a - 8 * gib) % cfgSize) then
    Config.freeByte (s.free + a)
  else SMap.getD s.nvm.flash a 0#8

/-- Erase a stretch of flash. -/
def flashErase (a n : Nat) (s : State) : State :=
  { s with nvm := { s.nvm with flash := SMap.keep s.nvm.flash (fun k => !(decide (a ≤ k) && decide (k < a + n))) } }

/-- Program bytes into flash. -/
def flashPut (a : Nat) (l : List Byte) (s : State) : State :=
  { s with nvm := { s.nvm with flash := memPut s.nvm.flash a l } }

/-- The NVM engine reads host memory: an uncorrected error is reported, and the bytes of its block are free
(DESIGN CHOICE, log 1) (DEDUCED, log 42). -/
def nvmSource (t n : Nat) (s : State) : List Byte × State :=
  let bad := poisoned s t n
  let l := (List.range n).map (fun i =>
    if bad.contains ((t + i) / 64) then Config.freeByte (s.free + i) else SMap.getD s.host.mem (t + i) 0#8)
  (l, bad.foldl (fun s b => hostMemError (64 * b) false s) s.fresh)

/-- The first n bytes of an operation are moved (R413 to R415, R417): READ to host memory, WRITE and the commits to flash;
a commit erases its target first. -/
def nvmCopy (o : NvmOp) (n : Nat) (s : State) : State :=
  if o.op = 1 then (memWrite o.host ((List.range n).map (fun i => flashByte s (o.flash + i))) s.fresh).2
  else
    let s := if o.op = 3 then flashErase o.flash (4 * gib) s else if o.op = 6 then flashErase o.flash cfgSize s else s
    match o.image with
    | some l => flashPut o.flash (l.take n) s
    | none =>
      let (l, s) := nvmSource o.host n s
      flashPut o.flash l s

/-- An operation is cut short: how much of it was done is free. -/
def nvmCut (o : NvmOp) (s : State) : State := nvmCopy o (Config.freeNat s.free % (o.len + 1)) s.fresh

end Sys2Proof.Machine
end

