-- ==== Sys2Proof/Machine/Plane.lean ====
section
/-!
DEFINITION. The planes: entry to and exit from headless forwarding (R25 to R29, R314, R376), the inter-die link
(R16, R289), and the application-domain reset (R402).
-/
namespace Sys2Proof.Machine

/-- SYS_PLANE_STATE shows headless with a cause; vector 173 is raised (R25, R294). -/
def enterHeadless (cause : Nat) (s : State) : State :=
  let s := (s.setFld .SYS_PLANE_STATE_HEADLESS 1).setFld .SYS_PLANE_STATE_CAUSE cause
  raiseVec 173 { s with sys := { s.sys with headlessReq := false, headlessAt := some s.regClk } }

/-- HEADLESS_REQ (R26, R314): every enabled ring begins to stop; while headless the request is ignored (R376). -/
def headlessReq (s : State) : State :=
  if s.flag .SYS_PLANE_STATE_HEADLESS then s
  else
    let s := (List.range 172).foldl (fun s r => if ringEn s r then stopRing r s else s) s
    { s with sys := { s.sys with headlessReq := true } }

def execHeadlessReq (a : Agent) (s : State) : Result :=
  .next (far (write32 a .SYS_PLANE_CTRL 1) headlessReq s)

/-- Every ring shows RING_IDLE, or counts as doing so (R26). -/
def allIdle (s : State) : Bool := (List.range 172).all (fun r => showsIdle s r)

/-- HEADLESS_ENTRY_COMPLETE (R26). -/
def execHeadlessEntryComplete (s : State) : Result :=
  .next (if s.sys.headlessReq && allIdle s then enterHeadless 1 s else s)

/-- Rings stop fetching at once, held completions are discarded, and nothing more is written to host memory (R27, R314). -/
def quietRings (s : State) : State :=
  (List.range 172).foldl (fun s r =>
    if (ringOf s r).everEn then
      let s := if ringEn s r then stopRing r s else s
      discardHeld r (setRing r { ringOf s r with quiet := true } s)
    else s) s

/-- Entry with cause 2 or 3 (R27, R314). A die that is already headless ignores it, but where it entered in this very
register clock with a lower cause, CAUSE records the higher one (R25) (DEDUCED, log 66). -/
def abruptHeadless (cause : Nat) (s : State) : State :=
  if s.flag .SYS_PLANE_STATE_HEADLESS then
    if s.sys.headlessAt = some s.regClk ∧ s.fld .SYS_PLANE_STATE_CAUSE < cause then
      (quietRings s).setFld .SYS_PLANE_STATE_CAUSE cause
    else s
  else enterHeadless cause (quietRings s)

/-- APP_RESET_MESSAGE (R25): the keeper domain's message arrives over the IDL; while the IDL is untrained it waits and
arrives when training is done (R16) (DEDUCED, log 17). -/
def appResetMessage (s : State) : State :=
  if s.flag .SYS_PLANE_STATE_IDL_UP then abruptHeadless 2 (idlSend 2 0 1 0 s)
  else { s with ctl := { s.ctl with heldReset := true } }

def execAppResetMessage (s : State) : Result := .next (appResetMessage s)

/-- HEADLESS_EXIT (R29): accepted only while IDL_UP is 1. -/
def headlessExit (a : Agent) (s : State) : State :=
  if !s.flag .SYS_PLANE_STATE_IDL_UP then logWrite 4 (write32 a .SYS_PLANE_CTRL 2) s
  else if s.flag .SYS_PLANE_STATE_HEADLESS then raiseVec 173 (s.setFld .SYS_PLANE_STATE_HEADLESS 0)
  else s

def execHeadlessExit (a : Agent) (s : State) : Result :=
  .next (far (write32 a .SYS_PLANE_CTRL 2) (headlessExit a) s)

/-! ### The inter-die link (R16, R289) -/

/-- The IDL loses training. -/
def idlDown (s : State) : State :=
  if s.flag .SYS_PLANE_STATE_IDL_UP then
    let s := ((s.setReg .IDL_STATUS 0x40000000#32)).setFld .SYS_PLANE_STATE_IDL_UP 0
    { s with ctl := { s.ctl with idlDownAt := some s.now } }
  else s

def execIdlTrainingLoss (s : State) : Result := .next (idlDown s)

/-- IDL_LOSS_TIMEOUT (R25, R289): untrained for more than 10 µs. -/
def execIdlLossTimeout (s : State) : Result :=
  .next (match s.ctl.idlDownAt with
    | some t => if t + 10 * clkUs < s.now then abruptHeadless 3 s else s
    | none => s)

/-- IDL_FLIT_REPLAY (R289): more than 16 replays within 1 µs start a retrain. -/
def execIdlFlitReplay (s : State) : Result :=
  .next (if s.flag .SYS_PLANE_STATE_IDL_UP then
    let s := (winEvent 11 0 (s.count .IDL_REPLAY_CNT)).1
    let l := s.now :: s.ctl.replays.filter (fun t => s.now < t + clkUs)
    if 16 < l.length then
      idlDown (raiseNear 178 ({ s with ctl := { s.ctl with replays := [] } }.count .IDL_RETRAIN_CNT))
    else { s with ctl := { s.ctl with replays := l } }
  else s)

/-- The IDL is trained again and its credit recovered (R16). -/
def idlUp (s : State) : State :=
  let s := (s.setReg .IDL_STATUS 0x800000FF#32).setFld .SYS_PLANE_STATE_IDL_UP 1
  { s with ctl := { s.ctl with
    idlDownAt := none
    vcs := s.ctl.vcs.map (fun e => (e.1, recoverCredit e.2)) } }

/-- What the switch die and the control die held for the IDL goes over it: the reset message, DMA writes, interrupts in order,
then access-fault messages, whose overflow counts now (R359). -/
def idlFlush (s : State) : State :=
  let ints := s.ctl.heldInts
  let faults := s.ctl.heldFaults
  let extra := s.ctl.faultsOver
  let held := s.ctl.heldReset
  let s := { s with ctl := { s.ctl with heldInts := [], heldFaults := [], faultsOver := 0, heldReset := false } }
  let s := if held then abruptHeadless 2 (idlSend 2 0 1 0 s) else s
  let s := ints.foldl (fun s v => takeInt v (idlSend 2 1 1 0 s)) (flushDma s)
  let s := faults.foldl (fun s f => recordFault f (idlSend 2 0 1 0 s)) s
  s.count .SYS_ACCESS_FAULT_CNT 0 0 extra

/-! ### The NVM engine stops, and the application domain is reset (R402, R405, R413) -/

/-- A running NVM operation stops with a code (R413); a stopped image commit leaves its target INCOMPLETE (R414). -/
def nvmStop (code : Nat) (s : State) : State :=
  match s.nvm.op with
  | none => s
  | some o =>
    let s := nvmCut o { s with nvm := { s.nvm with op := none } }
    let s := s.countIf (o.op == 3) .NVM_COMMIT_FAIL_CNT
    s.setReg .NVM_STATUS (BitVec.ofNat 32
      (2 ^ 29 + code * 2 ^ 24 + (s.fld .NVM_STATUS_DONE * 2 ^ 30)))

/-- Resets are refused during dusk and steep (R405). -/
def resetBarred (s : State) : Bool := s.flag .KEEP_STATUS_DUSK || s.flag .PWR_STATUS_STEEP

/-- SYS_RESET_STATUS records a reset (R402), and every key is closed after it (R360) (DEDUCED, log 50); `c` holds the keys as they
stood before it. -/
def noteReset (kind agent : Nat) (c : CtlSt) (s : State) : State :=
  let s := s.setReg .SYS_RESET_STATUS (BitVec.ofNat 32 (agent * 8 + kind))
  { s with
    ctl := { s.ctl with keySoft := none, keyKeep := none }
    pwr := { s.pwr with resetAt := some ⟨s.regClk, kind, c.keySoft, c.keyKeep⟩ } }

/-- A request of this kind meets a reset of the same register clock, or one in progress, that is at least as strong (R405): it
resolves to that one. A cold or warm reset is in progress until dawn has initialised the switch die. -/
def resetMet (k : Nat) (s : State) : Bool :=
  match s.pwr.resetAt with
  | some r => decide (r.kind ≤ k) && (r.clk == s.regClk || (decide (r.kind ≤ 2) && s.pwr.stopped))
  | none => false

/-- The number of an agent in SYS_RESET_STATUS.LAST_AGENT. -/
def resetAgent (a : Agent) : Nat := if a.soft then 1 else 2

/-- A write to NVM_BOOT_SEL that has not reached flash is lost at a reset (R417). -/
def bootLost (s : State) : State :=
  if s.nvm.bootPend then
    { s.setReg .NVM_BOOT_SEL s.nvm.bootFlash with nvm := { s.nvm with bootPend := false } }
  else s

/-- The application domain is reset (R402, R403): the reset message goes out first (R25), keys close (R360), a running
NVM operation stops (R413), and the boot ROM runs next (R408). -/
def appReset (agent : Nat) (s : State) : State :=
  let keys := s.ctl
  let s := noteReset 3 agent keys (nvmStop 8 (appResetMessage s))
  bootLost { s with
    ctl := { s.ctl with appResets := s.ctl.appResets + 1 }
    nvm := { s.nvm with recovery := false, trialAt := none }
    pwr := { s.pwr with appHeld := true } }

/-- A request for a reset of the application domain, which a stronger reset of the same clock absorbs (R405). -/
def appRequest (agent : Nat) (s : State) : State := if resetMet 3 s then s else appReset agent s

end Sys2Proof.Machine
end

