-- ==== Sys2Proof/Machine/Control.lean ====
section
/-!
DEFINITION. The control die (chapter 12): ring ownership and the PCIe link (R287, R288), interrupts and MSI-X (R295),
the keeper core's restart (R283), its mailboxes (R284, R392, R428), Redfish (R285), and the fault log (R428).
-/
namespace Sys2Proof.Machine

/-- RING_OWNER_WRITE (R287): key-guarded, accepted only while headless. -/
def ringOwner (w : RegWrite) (s : State) : State :=
  if s.flag .SYS_PLANE_STATE_HEADLESS then s.setFld .CTL_RING_OWNER_OWNER (Fld.CTL_RING_OWNER_OWNER.get w.val)
  else logNear ⟨4, w.agent, w.size, w.ali, w.off⟩ s

def execRingOwnerWrite (a : Agent) (v : Word) (s : State) : Result :=
  let w := write32 a .CTL_RING_OWNER v.toNat
  .next (guarded w (ringOwner w) s)

/-- PCIE_LINK_DOWN (R288): with OWNER 1 every ring stops and keeps its completions; with OWNER 0 the rings are left
alone. -/
def execPcieLinkDown (s : State) : Result :=
  .next (if s.flag .CTL_PCIE_STATUS_LINK_UP then
    let s := s.setReg .CTL_PCIE_STATUS 0#32
    if ownerExt s then
      let s := (List.range 172).foldl (fun s r => if ringEn s r then stopRing r s else s) s
      fault 0x13 0 0 0 (raiseNear 174 (s.count .CTL_PCIE_LINK_DOWN_CNT))
    else raiseNear 174 s
  else s)

/-- Held MSI-X messages go out as far as they may (R295). -/
def flushMsix (s : State) : State :=
  let l := s.ctl.msixHeld
  l.foldl (fun s v => sendMsix v s) { s with ctl := { s.ctl with msixHeld := [] } }

/-- PCIE_LINK_UP (R287, R295) (DEDUCED, log 61). -/
def execPcieLinkUp (width : Fin 9) (bme : Bool) (s : State) : Result :=
  .next (
    let was := s.flag .CTL_PCIE_STATUS_LINK_UP
    let s := s.setReg .CTL_PCIE_STATUS (BitVec.ofNat 32 (width.val * 16 + b2n bme * 8 + 1))
    flushMsix (if was then s else raiseNear 174 s))

/-- MSIX_ENTRY_UNMASK (R286, R295): the external host writes an entry of the MSI-X table, its mask bit included. -/
def execMsixEntryUnmask (w : MsixWrite) (s : State) : Result :=
  .next (flushMsix { s with
    ctl := { s.ctl with msix := SMap.put s.ctl.msix w.entry.toNat {} ⟨w.addr, w.data, w.masked⟩ } })

/-- An interrupt of this register clock that a clear meets (R295): its bit stays set, it is no merge, and it makes a message. -/
def intStays (v : Nat) (s : State) : State :=
  match SMap.get? s.ctl.intAt v with
  | some (_, true) =>
    newInt v (noteInt v false (s.uncount .CTL_INT_MERGE_CNT))
  | _ => s

/-- A W1C write to CTL_INT_PEND (R295): a bit that an interrupt of the same register clock sets stays set. -/
def intClear (i : Nat) (v : Word) (s : State) : State :=
  let fresh := (List.range 32).filter (fun j => v.getLsbD j
    && (match SMap.get? s.ctl.intAt (32 * i + j) with
      | some (c, _) => c == s.regClk + 1
      | none => false))
  let keep := BitVec.ofNat 32 (fresh.foldl (fun a j => a + 2 ^ j) 0)
  let s := fresh.foldl (fun s j => intStays (32 * i + j) s) s
  s.setReg .CTL_INT_PEND (s.reg .CTL_INT_PEND i &&& ~~~(v &&& ~~~keep)) i

def execIntPendClear (_a : Agent) (i : Fin 8) (v : Word) (s : State) : Result := .next (near (intClear i.val v) s)

/-! ### Mailboxes (R284) -/

/-- The keeper core answers a mailbox: the data words are replaced by the response, STATUS is set, BUSY clears and the
mailbox's vector is raised. -/
def mboxAnswer (m status : Nat) (words : List Nat) (s : State) : State :=
  let s := (List.range 16).foldl (fun s k =>
    s.setReg .KEEP_MBOX_DATA (BitVec.ofNat 32 (words.getD k 0)) m k) s
  let s := (s.setFld .KEEP_MBOX_CMD_STATUS status m).setFld .KEEP_MBOX_CMD_BUSY 0 m
  let s := { s with ctl := { s.ctl with mboxLast := m } }
  raiseNear (175 + m) (s.count .KEEP_MBOX_CMD_CNT)

/-- Mailbox m is the next to be served, with this command (R284: alternately where both are busy) (DEDUCED, log 64). -/
def mboxTurn (s : State) (m code : Nat) : Bool :=
  s.flag .KEEP_MBOX_CMD_BUSY m && s.fld .KEEP_MBOX_CMD_CODE m == code && s.flag .KEEP_STATUS_ALIVE
    && !(s.flag .KEEP_MBOX_CMD_BUSY (1 - m) && s.ctl.mboxLast == m)

/-- A request word of a mailbox. -/
def mboxWord (s : State) (m k : Nat) : Nat := (s.reg .KEEP_MBOX_DATA m k).toNat

/-- Serve a mailbox command; during dusk it completes with status 0x03 (R284, R396). -/
def mboxServe (m code : Nat) (f : State → State) (s : State) : State :=
  if mboxTurn s m code then
    (if s.flag .KEEP_STATUS_DUSK then mboxAnswer m 3 [] s else f s)
  else s

/-- The hottest valid sensor in 0.01 °C as a 32-bit signed word (R284). -/
def hottest (s : State) : Nat :=
  let l := (List.range 32).filterMap (fun k =>
    if s.flag .PWR_SENSOR_VALID k then some (sgn 16 (s.fld .PWR_SENSOR_TEMP k)) else none)
  match l with
  | [] => 0
  | a :: r => unsgn 32 (r.foldl max a)

/-- MBOX_STATUS (R284): the bus voltage is what the keeper core measures. -/
def execMboxStatus (m : Fin 2) (busMv : Word) (s : State) : Result :=
  .next (mboxServe m.val 1 (fun s =>
    mboxAnswer m.val 0 [s.fld .PWR_INPUT_POWER, busMv.toNat, hottest s, (s.reg .KEEP_STATUS).toNat] s) s)

/-- The 32 bytes of a shed order in eight words (R392). -/
def orderBytes (words : List Nat) : List Nat := words.flatMap (fun w => [bits w 7 0, bits w 15 8, bits w 23 16, bits w 31 24])

/-- A shed order is a permutation of 0 to 31 (R392). -/
def orderOk (l : List Nat) : Bool := l.length == 32 && (List.range 32).all (fun e => l.contains e)

/-- MBOX_COMMIT_SHED_ORDER (R392). -/
def execMboxCommitShedOrder (m : Fin 2) (flashOk : Bool) (s : State) : Result :=
  .next (mboxServe m.val 2 (fun s =>
    let o := orderBytes ((List.range 8).map (mboxWord s m.val))
    if !orderOk o then mboxAnswer m.val 2 [] s
    else if !flashOk then mboxAnswer m.val 4 [] (s.count .NVM_FLASH_ERR_CNT)
    else
      let s := { s with pwr := { s.pwr with committed := some o } }
      let s := (List.range 8).foldl (fun s w =>
        s.setReg .PWR_SHED_ORDER (BitVec.ofNat 32 (shedWord (fun k => o.getD k 0) w)) w) s
      mboxAnswer m.val 0 [] s) s)

/-- The shed order in use: the committed one, or the default (R19, R392). -/
def shedOrder (s : State) : List Nat := s.pwr.committed.getD ((List.range 32).map shedDefault)

/-- MBOX_READ_SHED_ORDER (R284). -/
def execMboxReadShedOrder (m : Fin 2) (s : State) : Result :=
  .next (mboxServe m.val 3 (fun s =>
    mboxAnswer m.val 0 ((List.range 8).map (shedWord (fun k => (shedOrder s).getD k 0))) s) s)

/-- MBOX_APP_RESET (R284): the answer stays in the mailbox through the reset. -/
def execMboxAppReset (m : Fin 2) (s : State) : Result :=
  .next (mboxServe m.val 4 (fun s =>
    if mboxWord s m.val 0 != 0xA5A5 then mboxAnswer m.val 2 [] s
    else if resetBarred s then mboxAnswer m.val 3 [] s
    else appRequest 1 (mboxAnswer m.val 0 [] s)) s)

/-- Entries that the fault log can hold (R428). -/
def logSize : Nat := 2 ^ 27

/-- The bytes of entry n of the fault log (R428). -/
def logBytes (e : LogEnt) (n : Nat) : List Byte :=
  let rec' :=
    if e.origin = 0 then noteBytes e.record (n % 2 ^ 32)
    else toLe 8 0 ++ toLe 8 e.record.w1 ++ toLe 8 0 ++ toLe 8 0
  let b := rec' ++ toLe 8 n ++ [BitVec.ofNat 8 e.origin, BitVec.ofNat 8 e.code, BitVec.ofNat 8 e.kind, 0#8]
    ++ toLe 2 e.inst ++ List.replicate 14 0#8
  b ++ toLe 4 (crc32c b)

/-- The oldest entry not yet in flash is written to the fault log (R397, R428). -/
def writeLog (s : State) : State :=
  match s.hlt.keepq with
  | [] => s
  | e :: rest =>
    let n := s.hlt.logSeq
    { s with hlt := { s.hlt with
      keepq := rest, logSeq := n + 1, flog := SMap.insert s.hlt.flog (n % logSize) (logBytes e n) } }

/-- FAULT_LOG_WRITE (R282, R397, R428): the keeper firmware writes the log. -/
def execFaultLogWrite (flashOk : Bool) (s : State) : Result :=
  .next (if s.hlt.keepq.isEmpty || !s.flag .KEEP_STATUS_ALIVE then s
    else if flashOk then writeLog s else s.count .NVM_FLASH_ERR_CNT)

/-- MBOX_READ_LOG (R428): entry n, status 0x02 outside the entries kept, 0x04 where its check value fails. -/
def execMboxReadLog (m : Fin 2) (s : State) : Result :=
  .next (mboxServe m.val 5 (fun s =>
    let n := mboxWord s m.val 0
    if s.hlt.logSeq ≤ n || n + logSize < s.hlt.logSeq then mboxAnswer m.val 2 [] s
    else
      match SMap.get? s.hlt.flog (n % logSize) with
      | none => mboxAnswer m.val 2 [] s
      | some b =>
        let st := if ofLe (slice b 60 4) = crc32c (b.take 60) then 0 else 4
        mboxAnswer m.val st ((List.range 16).map (fun k => ofLe (slice b (4 * k) 4))) s) s)

/-- MBOX_SET_FIRST_ADMIN (R284). -/
def execMboxSetFirstAdmin (m : Fin 2) (s : State) : Result :=
  .next (mboxServe m.val 6 (fun s =>
    let p := toLe 4 (mboxWord s m.val 0) ++ toLe 4 (mboxWord s m.val 1) ++ toLe 4 (mboxWord s m.val 2)
    mboxAnswer m.val 0 [] { s with ctl := { s.ctl with
      firstAdmin := some p, accounts := SMap.insert s.ctl.accounts 0 p } }) s)

/-- A mailbox whose command the keeper core does not know is answered with status 0x01 in its turn (R284). -/
def serveUnknown (s : State) : State :=
  (List.range 2).foldl (fun s m =>
    let code := s.fld .KEEP_MBOX_CMD_CODE m
    if s.flag .KEEP_MBOX_CMD_BUSY m && (code = 0 || decide (7 ≤ code)) then mboxServe m code (mboxAnswer m 1 []) s else s) s

/-- The USB-C interfaces that the port presents (R444): the console while CONSOLE_EN is 1, served by the keeper core (R282), and
DFU in recovery only. -/
def consoleUp (s : State) : Bool := s.flag .KEEP_CFG_CONSOLE_EN && s.flag .KEEP_STATUS_ALIVE
def dfuUp (s : State) : Bool := s.nvm.recovery

/-! ### The optical connectors (R436) -/

/-- Where a leaf lane's fibres lie: the connector, and its transmit and receive positions. -/
def leafFibres (lane : Nat) : Nat × Nat × Nat := (lane / 16, lane % 16 + 1, lane % 16 + 17)

/-- Where a sky lane's fibres lie: the connector, its transmit and receive positions, and the plane, whose port is the module's
ID. -/
def skyFibres (lane : Nat) : Nat × Nat × Nat × Nat := (lane / 16, lane % 16 + 1, lane % 16 + 17, lane)

/-! ### The alarm contact and the LEDs (R400, R440, R441) -/

/-- The alarm is asserted (R400). -/
def alarmOn (s : State) : Bool :=
  s.flag .PWR_STATUS_DUSK || s.pwr.tripLatched || s.fld .PWR_STATUS_SIMMER == 2 || s.flag .PWR_STATUS_RAIL_FAULT
    || s.pwr.steepLate

/-- The alarm contact is closed (R440). -/
def contactClosed (s : State) : Bool := s.pwr.keeperUp && !alarmOn s

/-- Some fault that LED_FAULT_N shows by flashing. -/
def faultShown (s : State) : Bool :=
  s.flag .HLT_LEDGER_STATUS_FAULT || s.flag .XBAR_PLANE_FAULT_AUTO_OUT
    || (List.range 256).any (fun n => s.reg .SKY_LANE_ALARM n != 0#32)

/-- What the LEDs show (R439, R441) (DESIGN CHOICE, log 58). -/
def ledsNow (s : State) : Leds :=
  if !s.pwr.keeperUp then ⟨.dark, .dark, .dark, .dark⟩
  else if s.flag .PWR_STATUS_DUSK then ⟨.dark, .dark, .dark, .lit⟩
  else
    let st := s.fld .SYS_RUN_STATE_STATE
    let sky := s.fld .SKY_STATE_STATE
    { power := if s.flag .PWR_STATUS_SEQ_DONE then .lit
        else if s.pwr.seq = .steep || s.pwr.starting.isSome || s.pwr.railFaultAt.isSome then .flash 1000 else .dark
      status := if s.pwr.requestHeld then .flash 250
        else if s.pwr.appHeld then .dark
        else if st = 1 then .lit else if st = 0 then .flash 1000 else if st = 2 then .flash 250 else .flash 2000
      sky := if sky = 3 then (if s.flag .SKYT_LEASE_HELD then .blink else .lit)
        else if sky = 4 then .flash 250 else if sky = 0 then .dark else .flash 1000
      fault := if s.pwr.requestHeld then .flash 250
        else if alarmOn s then .lit else if faultShown s then .flash 1000 else .dark }

/-- The LEDs: during a keeper restart they hold their last state. -/
def leds (s : State) : Leds := s.pwr.ledHeld.getD (ledsNow s)

/-! ### The keeper core and Redfish -/

/-- A busy mailbox completes with status 0x05 (R283). -/
def mboxRestart (m : Nat) (s : State) : State :=
  if s.flag .KEEP_MBOX_CMD_BUSY m then mboxAnswer m 5 [] s else s

/-- KEEPER_RESTART (R283): after 100 ms without a change of its heartbeat the keeper core alone restarts; during dusk its
checkpoint is abandoned (DEDUCED, log 39). -/
def execKeeperRestart (s : State) : Result :=
  .next (if s.flag .KEEP_STATUS_ALIVE && decide (s.ctl.beatAt + 100 * clkMs ≤ s.now) then
    let l := leds s
    let s := keeperEvent 4 (s.count .KEEP_RESTART_CNT)
    let s := mboxRestart 1 (mboxRestart 0 s)
    let s := s.setFld .KEEP_STATUS_ALIVE 0
    { s with ctl := { s.ctl with keySoft := none, keyKeep := none }, nvm := { s.nvm with keeperFwAt := some s.now },
             pwr := { s.pwr with ledHeld := some l, abandoned := s.pwr.abandoned || s.pwr.dusk.isSome } }
  else s)

/-- Redfish answers: enabled, the firmware runs, and dusk has not begun (R285, R396). -/
def redfishUp (s : State) : Bool :=
  s.flag .KEEP_CFG_REDFISH_EN && s.flag .KEEP_STATUS_ALIVE && !s.flag .KEEP_STATUS_DUSK

/-- A Redfish request counts; a failed authentication counts too and goes no further (R285) (PRESUMED, log 44). -/
def redfish (authed : Bool) (f : State → State) (s : State) : State :=
  if redfishUp s then
    let s := s.count .KEEP_REDFISH_REQ_CNT
    if authed then f s else (s.count .KEEP_REDFISH_AUTH_FAIL_CNT).emit (.redfish 401 [])
  else s

/-- What the Chassis shows (R285): input power in W, input voltage in 0.1 V, and each valid temperature sensor in 0.01 °C. -/
def chassisValues (s : State) : List Int :=
  [(s.fld .PWR_INPUT_POWER : Int), (s.fld .PWR_INPUT_VOLTAGE : Int)]
    ++ (List.range 32).filterMap (fun k =>
      if s.flag .PWR_SENSOR_VALID k then some (sgn 16 (s.fld .PWR_SENSOR_TEMP k)) else none)

/-- Entry n of the fault log as Redfish shows it. -/
def logValues (s : State) (n : Nat) : Option (List Int) :=
  if s.hlt.logSeq ≤ n || n + logSize < s.hlt.logSeq then none
  else (SMap.get? s.hlt.flog (n % logSize)).map (fun b => b.map (fun x => (x.toNat : Int)))

/-- What a Redfish request does (R285): a resource is shown, a session opened (at most 8) or closed, or an account or the static
address set (PRESUMED, log 44). -/
def redfishOp (op : RedfishOp) (s : State) : State :=
  match op with
  | .login =>
    if s.ctl.sessions < 8 then
      ({ s with ctl := { s.ctl with sessions := s.ctl.sessions + 1 } }).emit (.redfish 201 [])
    else s.emit (.redfish 503 [])
  | .logout => ({ s with ctl := { s.ctl with sessions := s.ctl.sessions - 1 } }).emit (.redfish 200 [])
  | .chassis => s.emit (.redfish 200 (chassisValues s))
  | .manager => s.emit (.redfish 200 [(min s.hlt.logSeq logSize : Nat)])
  | .logEntry n =>
    match logValues s n with
    | some l => s.emit (.redfish 200 l)
    | none => s.emit (.redfish 404 [])
  | .setAccount n c =>
    ({ s with ctl := { s.ctl with accounts := SMap.insert s.ctl.accounts n.val c } }).emit (.redfish 200 [])
  | .setAddress a => ({ s with ctl := { s.ctl with address := some a } }).emit (.redfish 200 [])
  | .serviceRoot => s.emit (.redfish 200 [])
  | .updateService => s.emit (.redfish 200 [])
  | .computerSystem => s.emit (.redfish 200 [])

/-- REDFISH_REQUEST (R285). -/
def execRedfishRequest (authed : Bool) (op : RedfishOp) (s : State) : Result := .next (redfish authed (redfishOp op) s)

/-- REDFISH_GRACEFUL_RESTART (R285): the application reset of mailbox command 0x04. -/
def execRedfishGracefulRestart (authed : Bool) (s : State) : Result :=
  .next (redfish authed (fun s =>
    if resetBarred s then s.emit (.redfish 503 []) else appRequest 1 (s.emit (.redfish 200 []))) s)

end Sys2Proof.Machine
end

