-- ==== Sys2Proof/Machine/Tiles.lean ====
section
/-!
DEFINITION. Tiles and queues: tile states, allocation and release (R144 to R150), quarantine, the quantities of a queue
(R162 to R164), the ingress charge (R166), and what is done when a cell ends its stay in the module.
-/
namespace Sys2Proof.Machine

/-- Add to a 32-bit count held in a register. -/
def regAdd (r : Reg) (d : Int) (i : Nat) (s : State) : State :=
  s.setReg r (BitVec.ofInt 32 ((s.reg r i).toNat + d)) i

/-! ### Tiles (R139, R144 to R147) -/

/-- Number of tiles of a pool: P0 to P3 as carved, D (4) always. -/
def poolSize (s : State) (p : Nat) : Nat := if p = 4 then 1572864 else s.buf.carved.getD p 0

/-- Cells of a tile of a pool (R139). -/
def poolCells (p : Nat) : Nat := if p = 0 then 2 else if p = 1 then 8 else if p = 2 then 16 else if p = 3 then 64 else 1

/-- Bytes of a tile of a pool (R139). -/
def poolBytes (p : Nat) : Nat :=
  if p = 0 then 512 else if p = 1 then 2048 else if p = 2 then 4096 else if p = 3 then 16384 else 256

def tileKey (p t : Nat) : Nat := 2 ^ 28 * p + t

/-- HBM byte address of the first tile of a pool (R140). -/
def poolBase (l : List Nat) (p : Nat) : Nat := ((List.range p).map (fun i => l.getD i 0 * poolBytes i)).sum

/-- End of the pools in whole GiB, and the size of the metadata region in GiB (R140). -/
def metaBase (l : List Nat) : Nat := ceilDiv (poolBase l 4) (2 ^ 30)
def metaGib (l : List Nat) : Nat := ceilDiv (8 * l.sum) (2 ^ 30)

/-- HBM byte address of a tile and of its metadata record (R140). -/
def tileAddr (l : List Nat) (p t : Nat) : Nat := poolBase l p + t * poolBytes p
def metaAddr (l : List Nat) (p t : Nat) : Nat := metaBase l * 2 ^ 30 + 8 * ((l.take p).sum + t)

/-- The metadata record of a tile (R155). -/
def metaOf (s : State) (p t : Nat) : Nat := SMap.getD s.buf.metas (metaAddr s.buf.carved p t) 0

def setMeta (p t v : Nat) (s : State) : State :=
  { s with buf := { s.buf with metas := SMap.put s.buf.metas (metaAddr s.buf.carved p t) 0 v } }

/-! ### The bytes of a cell (R120, R155, R212, R214) -/

/-- The cell CRC (R214). -/
def crc16 (l : List Byte) : Nat := crcFwd 16 0x1021 0xFFFF l

/-- The 256 bytes of a cell (R120, R212). -/
def cellBytes (c : Cell) : List Byte :=
  let h := toBe 12 ((c.kind * 2 ^ 94 + b2n c.relay * 2 ^ 93 + c.cls * 2 ^ 90 + c.srcMod * 2 ^ 83 + c.srcPort * 2 ^ 75
      + c.dstMod * 2 ^ 68 + c.dstPort * 2 ^ 60 + c.seq * 2 ^ 36 + c.flen * 2 ^ 22 + c.ecn * 2 ^ 20
      + b2n c.mirror * 2 ^ 19)) ++ toBe 2 (crc16 (fit 240 c.pay))
  h ++ toBe 2 (crc16 h) ++ fit 240 c.pay

/-- The metadata record of a unit in a tile (R155). -/
def unitRecord (l : List Nat) (p t : Nat) (cells : List Cell) : Nat :=
  crc32c (toBe 8 (tileAddr l p t) ++ cells.flatMap cellBytes) * 2 ^ 32 + cells.length * 2 ^ 25

/-- The record of an HBM tile, read as w, fits the unit that the tile holds (R155, R156): its CELLS count cells that the tile
can hold and does hold, and its CRC is right. -/
def recordOk (l : List Nat) (p t w : Nat) (cells : List Cell) : Bool :=
  let n := bits w 31 25
  decide (1 ≤ n) && decide (n ≤ poolCells p) && decide (n ≤ cells.length)
    && w / 2 ^ 32 == unitRecord l p t (cells.take n) / 2 ^ 32

/-- A tile's state; none for FREE. -/
def tileOf (s : State) (p t : Nat) : Option TileSt := SMap.get? s.buf.tiles (tileKey p t)

def setTile (p t : Nat) (x : Option TileSt) (s : State) : State :=
  { s with buf := { s.buf with tiles :=
    match x with
    | some v => SMap.insert s.buf.tiles (tileKey p t) v
    | none => SMap.erase s.buf.tiles (tileKey p t) } }

/-- The bank of pool D, or the HBM pool, through which a tile is freed (R139). -/
def freePort (p t : Nat) : Nat := if p = 4 then t % 256 else 256 + p

/-- A tile has become FREE: its bank or pool takes one free in each core clock, and the tile can be allocated from the next
clock on (R139). -/
def noteFree (p t : Nat) (s : State) : State :=
  let at_ := max s.now (SMap.getD s.buf.freeAt (freePort p t) 0) + 1
  { s with buf := { s.buf with
    freeAt := SMap.insert s.buf.freeAt (freePort p t) at_
    freed := s.buf.freed.filter (fun e => decide (s.now < e.2)) ++ [(tileKey p t, at_)] } }

/-- The FREE tiles that cannot be allocated in a core clock (R139). -/
def notYet (s : State) (clk : Nat) : List Nat := (s.buf.freed.filter (fun e => decide (clk < e.2))).map (fun e => e.1)

/-- FREE to ALLOC (R144). -/
def takeTile (p t : Nat) (s : State) : State :=
  let s := setTile p t (some {}) s
  (regAdd .BUF_POOL_ALLOC 1 p (regAdd .BUF_POOL_FREE (-1) p s)).count .BUF_ALLOC_CNT p

/-- Release of a tile (R144, R145): one that is FREE or QUAR is a double free, counted and reported. -/
def freeTile (p t : Nat) (s : State) : State :=
  match tileOf s p t with
  | some x =>
    if x.quar then fault 4 p t 0 (s.count .BUF_DOUBLE_FREE_CNT p)
    else
      (regAdd .BUF_POOL_FREE 1 p (regAdd .BUF_POOL_ALLOC (-1) p (noteFree p t (setTile p t none s)))).count .BUF_FREE_CNT p
  | none => fault 4 p t 0 (s.count .BUF_DOUBLE_FREE_CNT p)

/-- BUF_RETIRE_STATUS.USED counts the valid entries (R160). -/
def showUsed (s : State) : State :=
  s.setFld .BUF_RETIRE_STATUS_USED ((List.range 1024).filter (fun j => s.flag .BUF_RETIRE_VALID j)).length

/-- ALLOC to QUAR, counted (R144, R156). -/
def quarTile (p t : Nat) (s : State) : State :=
  let s := setTile p t (some { quar := true }) s
  (regAdd .BUF_POOL_QUAR 1 p (regAdd .BUF_POOL_ALLOC (-1) p s)).count .BUF_QUAR_CNT p

/-- A tile fails its check and enters QUAR: an event of window kind 8 (R419), and an error of unit 7 where it lies in
HBM (R334). -/
def quarFail (p t : Nat) (s : State) : State :=
  let s := quarTile p t s
  if p = 4 then (winEvent 8 4 s).1 else memReport 7 (p * 2 ^ 61 + t) 8 p true s

/-- A tile is FREE and can be allocated: `busy` lists the keys that cannot. -/
def canTake (m : SMap TileSt) (busy : List Nat) (key : Nat) : Bool := (SMap.get? m key).isNone && !busy.contains key

/-- The lowest FREE tile of a bank of pool D (R147), among tiles b + 256 k, …: n are left to look at. -/
def bankFree (m : SMap TileSt) (busy : List Nat) (b : Nat) : Nat → Nat → Option Nat
  | 0, _ => none
  | n + 1, k => if canTake m busy (tileKey 4 (b + 256 * k)) then some (b + 256 * k) else bankFree m busy b n (k + 1)

/-- The core clock after the last allocation of a slot or port of the free stores. -/
def setTaken (slot clk : Nat) (s : State) : State :=
  { s with buf := { s.buf with taken := SMap.insert s.buf.taken slot clk } }

/-- The first core clock in which a slot or port of the free stores can allocate. -/
def nextTake (s : State) (slot : Nat) : Nat := max s.now (SMap.getD s.buf.taken slot 0)

/-- Allocation by a requester slot from the core clock `clk` on (R148): the slot meets one bank in each clock, and each
clock of waiting counts. The tile is taken at once (DEDUCED, log 29). -/
def allocFrom (slot : Nat) : Nat → Nat → State → Option Nat × State
  | 0, _, s => (none, s)
  | n + 1, clk, s =>
    match bankFree s.buf.tiles (notYet s clk) ((slot + clk) % 256) 6144 0 with
    | some t => (some t, takeTile 4 t (setTaken slot (clk + 1) s))
    | none => allocFrom slot n (clk + 1) (s.count .BUF_ALLOC_WAIT_CNT 4)

/-- Of a requester's lanes, the one that can allocate first. -/
def freeLane (s : State) (slots : List Nat) : Nat :=
  slots.foldl (fun a b => if nextTake s b < nextTake s a then b else a) (slots.headD 0)

/-- Allocation in pool D by a requester with the given slots (R148). -/
def allocD (slots : List Nat) (s : State) : Option Nat × State :=
  let slot := freeLane s slots
  allocFrom slot 257 (nextTake s slot) s

/-- The slots of R148: the write lanes of a crossbar output, a sky pipeline's receive lanes, a refill engine, the scrub. -/
def outSlots (o : Nat) : List Nat := range' (4 * o) 4
def rxSlots (p : Nat) : List Nat := range' (128 + 2 * p) 2
def refillSlots (q : Nat) : List Nat := [160 + q]

/-- The requester cannot allocate in its next clock: it retries in the one after (R147). -/
def delaySlot (slots : List Nat) (s : State) : State :=
  let slot := freeLane s slots
  setTaken slot (nextTake s slot + 1) s

/-- The lowest FREE tile of an HBM pool (R147). -/
def hbmFree (m : SMap TileSt) (busy : List Nat) (p : Nat) : Nat → Nat → Option Nat
  | 0, _ => none
  | n + 1, t => if canTake m busy (tileKey p t) then some t else hbmFree m busy p n (t + 1)

/-- What the allocation port of an HBM pool answers (R150). -/
inductive HbmGrant where
  | tile (t : Nat) | nobuf | wait
  deriving DecidableEq, Repr

/-- Tiles of an HBM pool that can be allocated now. -/
def hbmReady (s : State) (p : Nat) : Nat :=
  (s.reg .BUF_POOL_FREE p).toNat - ((notYet s s.now).filter (fun k => k / 2 ^ 28 == p)).length

/-- The port of an HBM pool has served a request in this core clock. -/
def portTaken (s : State) (p : Nat) : Bool := decide (s.now < SMap.getD s.buf.taken (256 + p) 0)

/-- The place of spill engine q in the rotating order of this core clock (R150). -/
def spillRank (s : State) (q : Nat) : Nat := (q + 32 - s.now % 32) % 32

/-- A request that the port does not serve in this clock: NOBUF where no FREE tile is left for it, and otherwise it waits. -/
def hbmLoses (p left : Nat) (s : State) : HbmGrant × State :=
  if left ≤ hbmReady s p then (.wait, s.count .BUF_ALLOC_WAIT_CNT p) else (.nobuf, s.count .BUF_NOBUF_CNT p)

/-- A request to the allocation port of an HBM pool (R150): `rival` says that the port serves another request of this clock
that is yet to come. -/
def allocHbm (p : Nat) (rival : Bool) (s : State) : HbmGrant × State :=
  if portTaken s p then hbmLoses p 1 s
  else if rival then hbmLoses p 2 s
  else
    match hbmFree s.buf.tiles (notYet s s.now) p (poolSize s p) 0 with
    | some t => (.tile t, takeTile p t (setTaken (256 + p) (s.now + 1) s))
    | none => (.nobuf, s.count .BUF_NOBUF_CNT p)

/-- The place of a requester slot in the rotating order of this core clock (R149). -/
def slotRank (s : State) (slot : Nat) : Nat := (slot + 256 - s.now % 256) % 256

/-- Tiles that later slots have reserved in this core clock. -/
def laterGrants (s : State) (slot : Nat) : Nat :=
  if s.buf.grantAt = s.now then
    ((s.buf.grants.filter (fun e => decide (slotRank s slot < slotRank s e.1))).map (fun e => e.2)).sum
  else 0

/-- A reservation of n tiles of pool D by a slot (R149): whether it succeeds. `early` is what the requests of this clock that
come before it in the rotating order, and are yet to be made, ask for; what later slots have reserved in this clock does not
stand against the refill reserve. -/
def reserve (slot n early : Nat) (refill : Bool) (s : State) : Bool × State :=
  let free := (s.reg .BUF_POOL_FREE 4).toNat
  let need := (s.reg .BUF_POOL_RSV).toNat + n + early
  if need ≤ free && (refill || decide (need + s.fld .BUF_CFG_REFILL_RSV ≤ free + laterGrants s slot)) then
    let g := if s.buf.grantAt = s.now then s.buf.grants else []
    (true, regAdd .BUF_POOL_RSV n 0 { s with buf := { s.buf with grantAt := s.now, grants := g ++ [(slot, n)] } })
  else (false, s)

/-- Give back reserved tiles. -/
def unreserve (n : Nat) (s : State) : State := if n = 0 then s else regAdd .BUF_POOL_RSV (-(n : Int)) 0 s

/-- Allocation under a reservation (R149). -/
def allocRsv (slots : List Nat) (s : State) : Nat × State :=
  match allocD slots s with
  | (some t, s) => (t, unreserve 1 s)
  | (none, s) => (0, s)

/-! ### Queues (R161 to R164) -/

def leafQ (p c : Nat) : Nat := 8 * p + c
def skyQ (p q : Nat) : Nat := 2048 + 1280 * p + q

/-- The QUEUE values of a destination queue and of a relay queue (R161). -/
def destQ (d c : Nat) : Nat := 8 * d + c
def relayQ (d b : Nat) : Nat := 1024 + 2 * d + b

/-- The kind of a queue: 0 leaf egress, 1 destination, 2 relay. -/
def qKind (k : Nat) : Nat := if k < 2048 then 0 else if (k - 2048) % 1280 < 1024 then 1 else 2

/-- The crossbar port at whose output a queue is held. -/
def qXport (k : Nat) : Nat := if k < 2048 then k / 128 else 16 + (k - 2048) / 1280

/-- The QUEUE value of a queue. -/
def qValue (k : Nat) : Nat := if k < 2048 then k % 128 else (k - 2048) % 1280

def queueOf (s : State) (k : Nat) : Queue := SMap.getD s.tm.queues k {}

/-- Cells of a sky queue that are chosen for a burst and not yet sent (R235). -/
def chosenOf (s : State) (k : Nat) : Nat :=
  (s.sky.lanes.map (fun e => (e.2.chosen.filter (fun c => c.queue == k)).length)).sum

/-- Q (R162). -/
def qDepth (s : State) (k : Nat) : Nat :=
  ((queueOf s k).units.map (fun u => u.n)).sum + (if k < 2048 then 0 else chosenOf s k)

/-- Pool D tiles of a unit. -/
def QUnit.tiles (u : QUnit) : Nat := if u.hbm.isSome then 0 else u.cells.length

/-- Qd (R162). -/
def qOnDie (s : State) (k : Nat) : Nat :=
  ((queueOf s k).units.map QUnit.tiles).sum + (if k < 2048 then 0 else chosenOf s k)

def portOf (s : State) (p : Nat) : PortSt := SMap.getD s.leaf.ports p {}

def setPort (p : Nat) (x : PortSt) (s : State) : State :=
  { s with leaf := { s.leaf with ports := SMap.put s.leaf.ports p {} x } }

/-- Pause mode of a port: 3 is treated as 0 (R45). -/
def pauseMode (s : State) (p : Nat) : Nat := let m := s.fld .LEAF_PORT_CFG_PAUSE_MODE p; if m = 3 then 0 else m

/-- At least one frame waits in a leaf queue (R49): a frame in transmission no longer waits. -/
def waits (s : State) (k : Nat) : Bool := (queueOf s k).units.any (fun u => !u.started)

/-- The stall times of a port start and reset with their conditions (R49): by class, or for the port as a whole (key 8)
in PAUSE mode. -/
def stallSync (p : Nat) (s : State) : State :=
  let x := portOf s p
  let m := pauseMode s p
  let cond := fun (c : Nat) =>
    if c = 8 then m == 1 && !x.paused.isEmpty && (List.range 8).any (fun c => waits s (leafQ p c))
    else m == 2 && (SMap.get? x.paused c).isSome && waits s (leafQ p c)
  let st := (List.range 9).foldl (fun (m : SMap Nat) c =>
    if cond c then (if (SMap.get? m c).isSome then m else SMap.insert m c s.now) else SMap.erase m c) x.stall
  if st = x.stall then s else setPort p { x with stall := st } s

/-- The pool D share of a queue's kind (R152). -/
def qShare (s : State) (k : Nat) : Nat := s.fld .BUF_SPILL_THRESH_ON_DIE_TILES (qKind k)

/-- A leaf class with no waiting frame has its deficit set to zero (R168). -/
def emptyDeficit (k : Nat) (s : State) : State :=
  let x := portOf s (k / 8)
  if waits s k || (SMap.get? x.deficit (k % 8)).isNone then s
  else setPort (k / 8) { x with deficit := SMap.erase x.deficit (k % 8) } s

/-- The queue has changed in this core clock: its Q before the clock is kept (R165). -/
def noteDepth (k : Nat) (s : State) : State :=
  let was := SMap.getD s.tm.was k (0, 0)
  if was.1 = s.now + 1 then s
  else { s with tm := { s.tm with was := SMap.insert s.tm.was k (s.now + 1, qDepth s k) } }

/-- Q of a queue as it stood before this core clock (R165). -/
def depthBefore (s : State) (k : Nat) : Nat :=
  let was := SMap.getD s.tm.was k (0, 0)
  if was.1 = s.now + 1 then was.2 else qDepth s k

/-- The condition of R164 ends in the first clock in which Qd is at or below the share. -/
def boundSync (k : Nat) (s : State) : State :=
  let q := queueOf s k
  if q.bound && decide (qOnDie s k ≤ qShare s k) then
    { s with tm := { s.tm with queues := SMap.put s.tm.queues k {} { q with bound := false } } }
  else s

/-- Store a queue: TM_Q_DEPTH shows its Q. -/
def setQueue (k : Nat) (q : Queue) (s : State) : State :=
  let s := noteDepth k s
  let s := boundSync k { s with tm := { s.tm with queues := SMap.put s.tm.queues k {} q } }
  if k < 2048 then
    stallSync (k / 8) (emptyDeficit k (s.setReg .TM_Q_DEPTH (BitVec.ofNat 32 (qDepth s k)) (k / 8) (k % 8)))
  else s

/-- Spilling is active (R152). -/
def spillActive (s : State) : Bool :=
  s.flag .BUF_CFG_SPILL_EN && s.flag .BUF_CARVE_STATUS_DONE && s.fld .PWR_STATUS_SIMMER != 2

/-- BUF_CARVE_STATUS.SPILL_ACTIVE shows it. -/
def showSpill (s : State) : State := s.setFld .BUF_CARVE_STATUS_SPILL_ACTIVE (b2n (spillActive s))

/-- The queue is on-die bound (R164). -/
def onDieBound (s : State) (k : Nat) : Bool := !spillActive s || (queueOf s k).bound

/-- The profile of a queue (R163): its kind's number j. -/
def qProfile (s : State) (k c : Nat) : Nat :=
  if k < 2048 then bits (s.reg .TM_LEAF_QMAP (k / 8)).toNat (4 * c + 3) (4 * c)
  else if qKind k = 1 then bits (s.reg .TM_DEST_QMAP).toNat (4 * c + 3) (4 * c)
  else if qValue k % 2 = 1 then s.fld .TM_RELAY_CFG_PROF_B1 else s.fld .TM_RELAY_CFG_PROF_B0

/-- What admission says of a unit (R164). -/
inductive Admit where
  | ok | limit | dyn
  deriving DecidableEq, Repr

/-- The commands that wait take cells off the queue in this core clock (R162): how many cells leave Q, and how many tiles
leave Qd. -/
def leaving (s : State) (k : Nat) : Nat × Nat :=
  s.pending.foldl (fun a c => match c with
    | .leafTxComplete p _ =>
      if k < 2048 && p.val == k / 8 then
        (match (portOf s (k / 8)).tx, (queueOf s k).units.find? (fun u => u.started) with
        | some t, some u => if t.cls = k % 8 then (a.1 + u.n, a.2 + u.tiles) else a
        | _, _ => a)
      else a
    | .dataSlotTx n _ =>
      let m := ((SMap.getD s.sky.lanes n.val {}).chosen.filter (fun c => c.queue == k)).length
      if 2048 ≤ k then (a.1 + m, a.2 + m) else a
    | _ => a) (0, 0)

/-- Q and Qd as an enqueue of this core clock finds them: the dequeues of the clock are counted first (R162). -/
def qNow (s : State) (k : Nat) : Nat := qDepth s k - (leaving s k).1
def qdNow (s : State) (k : Nat) : Nat := qOnDie s k - (leaving s k).2

/-- The two tests of R164 for a unit of n cells of class c. -/
def queueAdmits (s : State) (k c n : Nat) : Admit :=
  let j := qProfile s k c
  let kd := qKind k
  let alpha := s.fld .TM_QPROF_LIMIT_ALPHA kd j
  let free := (s.reg .BUF_POOL_FREE 4).toNat
  let rsv := (s.reg .BUF_POOL_RSV).toNat
  let bound := !spillActive s || ((queueOf s k).bound && decide (qShare s k < qdNow s k))
  if 16 * s.fld .TM_QPROF_LIMIT_MAX_CELLS kd j < qNow s k + n then .limit
  else if bound && alpha != 15 && decide ((free - rsv) * 2 ^ alpha / 256 < qdNow s k + n) then .dyn
  else .ok

/-- A unit is marked (R177): Q before it exceeds the threshold. -/
def marks (s : State) (k c : Nat) : Bool :=
  let j := qProfile s k c
  let kd := qKind k
  s.flag .TM_QPROF_MARK_MARK_EN kd j && decide (s.fld .TM_QPROF_MARK_MARK_THRESH kd j < qNow s k)

/-! ### The ingress charge (R166) and pause (R48) -/

def chargeOf (s : State) (k : Nat) : Nat := SMap.getD s.tm.charge k 0

/-- XOFF, and XON with the correction of R48. -/
def xoffOf (s : State) (p c : Nat) : Nat := s.fld .LEAF_PFC_THRESH_XOFF p c
def xonOf (s : State) (p c : Nat) : Nat :=
  let x := s.fld .LEAF_PFC_THRESH_XON p c
  if x < xoffOf s p c then x else xoffOf s p c - 1

/-- QUANTA; 0 is treated as 1 (R48). -/
def quantaOf (s : State) (p : Nat) : Nat := max 1 (s.fld .LEAF_PFC_CFG_QUANTA p)

/-- The charge of a class of a port has changed: pause is triggered or released (R48). -/
def pauseSync (p c : Nat) (s : State) : State :=
  let x := portOf s p
  let m := pauseMode s p
  let en := (s.fld .LEAF_PFC_CFG_TX_EN p).testBit c
  let u := chargeOf s (leafQ p c)
  let was := x.trig.contains c
  let on := m != 0 && en && (if was then decide (xonOf s p c ≤ u) else decide (xoffOf s p c ≤ u))
  if on = was then s
  else
    let trig := if on then c :: x.trig else x.trig.filter (· != c)
    let out :=
      if m = 2 then x.pauseOut ++ [(c, if on then quantaOf s p else 0)]
      else if m = 1 then
        if on && x.trig.isEmpty then x.pauseOut ++ [(8, quantaOf s p)]
        else if !on && trig.isEmpty then x.pauseOut ++ [(8, 0)]
        else x.pauseOut
      else x.pauseOut
    setPort p { x with trig := trig, pauseOut := out } s

/-- Charge n cells to a port and class. -/
def chargeCells (k n : Nat) (s : State) : State :=
  pauseSync (k / 8) (k % 8) { s with tm := { s.tm with charge := SMap.upd s.tm.charge k 0 (· + n) } }

/-- n cells stop being charged. -/
def dischargeCells (k n : Nat) (s : State) : State :=
  pauseSync (k / 8) (k % 8) { s with tm := { s.tm with charge := SMap.upd s.tm.charge k 0 (· - n) } }

/-! ### The end of a cell -/

/-- A cell of another module's traffic that this module relays (R239). -/
def isRelayed (s : State) (c : Cell) : Bool := c.srcMod != ownMod s && c.dstMod != ownMod s

/-- O(x) falls by n (R240). -/
def relayOut (x : Nat) (n : Nat) (s : State) : State := regAdd .SKY_RELAY_OUT (-(n : Int)) x s

/-- A cell ends its stay in the module: its charge stops (R166), and a relay cell lowers the credit outstanding to its
source (R240). -/
def cellGone (c : Cell) (s : State) : State :=
  let s := match c.tag.org with
    | some k => dischargeCells k 1 s
    | none => s
  if c.tag.due then relayOut c.srcMod 1 s else s

/-- A cell held in a tile ends its stay: the tile is released. -/
def dropCell (t : Nat) (c : Cell) (s : State) : State := cellGone c (freeTile 4 t s)

/-- A transmit completion (R308, R324). -/
def unitDone (r id status ts : Nat) (tsv : Bool) (s : State) : State :=
  match (ringOf s r).units.find? (fun u => u.id == id) with
  | some u =>
    finish r id { status := status, cookie := u.cookie, first := u.first, nent := u.nent, w1 := ts, tsValid := tsv } s
  | none => s

/-- A frame with a transmit completion pending is dropped (R308). -/
def txDropped (t : Tag) (s : State) : State :=
  match t.tx with
  | some (r, id) => unitDone r id 1 0 false s
  | none => s

/-- The tag of a unit: that of its first cell here. -/
def QUnit.tag (u : QUnit) : Tag := match u.cells with
  | (_, c) :: _ => c.tag
  | [] => {}

/-- The cells of a unit end their stay: tiles, reservation and HBM tile are released. -/
def releaseUnit (u : QUnit) (s : State) : State :=
  let s := match u.hbm with
    | some (p, t) => u.cells.foldl (fun s e => cellGone e.2 s) (freeTile p t s)
    | none => u.cells.foldl (fun s e => dropCell e.1 e.2 s) s
  unreserve u.rsv s

/-- A frame in a leaf queue is dropped whole: an egress drop of ledger 4. -/
def dropFrame (xp : Nat) (u : QUnit) (s : State) : State :=
  (txDropped u.tag (releaseUnit u s)).led tDrop4 xp

/-- Replace the unit of a queue that satisfies a test; none removes it. -/
def updUnit (p : QUnit → Bool) (f : QUnit → Option QUnit) : List QUnit → List QUnit
  | [] => []
  | u :: l => if p u then (match f u with
      | some v => v :: l
      | none => l) else u :: updUnit p f l

end Sys2Proof.Machine
end

