-- ==== Sys2Proof/Machine/Line.lean ====
section
/-!
DEFINITION. The transmitter of a leaf port below its MAC: lanes and rates (R32), preamble and gap (R42), and the line coder of
an LZ400 port, from the 64B/66B blocks to the PAM4 levels of each lane (R36, R37).
-/
namespace Sys2Proof.Machine

/-! ### Lanes and rates (R32) -/

/-- Lanes of each port of the group that a port number belongs to (R32). -/
def portWidth (s : State) (p : Nat) : Nat := 2 ^ s.fld .LEAF_GROUP_STATUS_MODE_ACTIVE (p / 16)

/-- The group runs LZ400. -/
def fastLanes (s : State) (p : Nat) : Bool := s.flag .LEAF_GROUP_STATUS_RATE_ACTIVE (p / 16)

/-- Rate of a port in Gb/s. -/
def portRate (s : State) (p : Nat) : Nat := portWidth s p * (if fastLanes s p then 400 else 200)

/-- Module leaf lanes of a port. -/
def portLanes (s : State) (p : Nat) : List Nat := range' p (portWidth s p)

/-- The active port that a leaf lane belongs to. -/
def lanePort (s : State) (n : Nat) : Nat := n - n % 16 % portWidth s n

def portUp (s : State) (p : Nat) : Bool := s.flag .LEAF_PORT_STATUS_LINK_UP p

/-! ### Stages 1 to 3 of R36 -/

/-- The bits of a byte in the order in which Ethernet sends them. -/
def wireBits (b : Byte) : List Bool := (bitsOf 8 b.toNat).reverse

/-- Stage 1: a data block, and a control block of a type with what follows the type (PRESUMED, log 20: IEEE 802.3). -/
def dataBlock (l : List Byte) : List Bool := [false, true] ++ l.flatMap wireBits
def ctrlBlock (typ : Byte) (l : List Byte) : List Bool :=
  [true, false] ++ wireBits typ ++ l.flatMap wireBits ++ List.replicate (56 - 8 * l.length) false

def idleBlock : List Bool := ctrlBlock 0x1E#8 []

/-- The block of the start, the preamble and the start delimiter (R42). -/
def startBlock : List Bool := ctrlBlock 0x78#8 [0x55#8, 0x55#8, 0x55#8, 0x55#8, 0x55#8, 0x55#8, 0xD5#8]

/-- The block that ends a frame with its last bytes, at most seven. -/
def endBlock (l : List Byte) : List Bool :=
  ctrlBlock ([0x87#8, 0x99#8, 0xAA#8, 0xB4#8, 0xCC#8, 0xD2#8, 0xE1#8, 0xFF#8].getD l.length 0#8) l

/-- The blocks of a frame: n bounds the data blocks. -/
def frameTail : Nat → List Byte → List (List Bool)
  | 0, l => [endBlock l]
  | n + 1, l => if l.length < 8 then [endBlock l] else dataBlock (l.take 8) :: frameTail n (l.drop 8)

def frameBlocks (d : List Byte) : List (List Bool) := startBlock :: frameTail (d.length / 8) d

/-- A 66-bit block is a data block. -/
def isData (b : List Bool) : Bool := b.getD 1 false

/-- The payloads of four blocks, the first control block without the second half of its type. -/
def payloads : List (List Bool) → Bool → List Bool
  | [], _ => []
  | b :: l, seen =>
    if isData b || seen then b.drop 2 ++ payloads l (seen || !isData b)
    else (b.drop 2).take 4 ++ b.drop 10 ++ payloads l true

/-- Stage 2: four 66-bit blocks in one 257-bit block (PRESUMED, log 20: IEEE 802.3). -/
def transcode (l : List (List Bool)) : List Bool :=
  if l.all isData then true :: payloads l true else false :: (l.map isData ++ payloads l false)

/-- Stage 3: the 256 bits after bit 0 pass the scrambler; the block and the scrambler's next state. -/
def scrambleBlock (st : Nat) (b : List Bool) : List Bool × Nat :=
  let o := selfScramble st (b.drop 1)
  (b.take 1 ++ o, o.foldl (fun a x => (2 * a + b2n x) % 2 ^ 58) st)

/-! ### Stages 4 to 7 -/

/-- Bits in 10-bit symbols, the first bit of a symbol its least significant one: n bounds the symbols. -/
def symbols10 : Nat → List Bool → List Nat
  | 0, _ => []
  | n + 1, l => (l.take 10).foldr (fun b a => 2 * a + b2n b) 0 :: symbols10 n (l.drop 10)

/-- The bits of 10-bit symbols. -/
def symbolBits (l : List Nat) : List Bool := l.flatMap (fun x => (bitsOf 10 x).reverse)

/-- PAM4 levels of bits, two by two (R36, stage 7): n bounds the levels. -/
def pamLevels : Nat → List Bool → List Nat
  | n + 1, a :: b :: l => grayLevel (2 * b2n a + b2n b) :: pamLevels n l
  | _, _ => []

/-- What the coder of a port has made: its state and the levels of lanes within the port. -/
abbrev Coded := LineSt × List (Nat × List Nat)

/-- A codeword leaves to its lane of a port of n lanes (R36): two at a time, interleaved, as PAM4 levels; its bits count in
the BIP of its period (R37). -/
def laneSend (n : Nat) (cw : List Nat) (c : Coded) : Coded :=
  let k := c.1.cw % n
  let x := SMap.getD c.1.lanes k {}
  let first := c.1.cw / n % 4096 = 0
  let bip := (if first then 0 else x.bip) ^^^ bipOf (symbolBits cw)
  match x.held with
  | none =>
    ({ c.1 with cw := c.1.cw + 1, lanes := SMap.put c.1.lanes k {} { x with bip := bip, held := some cw } }, c.2)
  | some a =>
    let levels := precode x.level (pamLevels 5440 (symbolBits (interleave a cw)))
    ({ c.1 with
        cw := c.1.cw + 1
        lanes := SMap.put c.1.lanes k {} { bip := bip, level := levels.getLast?.getD x.level, held := none } },
      c.2 ++ [(k, levels)])

/-- Blocks of 257 bits become a codeword once there are enough (R36, R37): the first codeword of a period begins with its
marker block, for which four idle blocks are deleted later. -/
def putWord (n : Nat) (w : List Bool) (c : Coded) : Coded :=
  let l := { c.1 with words := c.1.words ++ [w] }
  let m := l.cw / n
  let first := decide (m % 4096 = 0)
  if l.words.length < (if first then 19 else 20) then (l, c.2)
  else
    let k := l.cw % n
    let mark := if first then [markerBlock k (SMap.getD l.lanes k {}).bip (m / 4096)] else []
    let msg := symbols10 514 (mark ++ l.words).flatten
    laneSend n (msg ++ rsParity10 msg) ({ l with words := [], owed := l.owed + (if first then 4 else 0) }, c.2)

/-- One 66-bit block enters the coder. -/
def putBlock (n : Nat) (b : List Bool) (c : Coded) : Coded :=
  let l := { c.1 with pos := c.1.pos + 1 }
  let bs := l.blocks ++ [b]
  if bs.length < 4 then ({ l with blocks := bs }, c.2)
  else
    let (w, st) := scrambleBlock l.scr (transcode bs)
    putWord n w ({ l with blocks := [], scr := st }, c.2)

/-- Idle blocks enter the coder, but for those deleted to make room for markers (R36). -/
def putIdles (n : Nat) : Nat → Coded → Coded
  | 0, c => c
  | k + 1, c =>
    if 0 < c.1.owed then putIdles n k ({ c.1 with owed := c.1.owed - 1, pos := c.1.pos + 1 }, c.2)
    else putIdles n k (putBlock n idleBlock c)

/-! ### Frames on the wire (R42) -/

/-- Position of a core clock in the MAC stream of a port, in blocks of 8 bytes (R21, R36). -/
def blockAt (s : State) (p t : Nat) : Nat := ceilDiv (5 * portRate s p * t) 512

/-- The gap after the last frame has passed (R42). -/
def lineFree (s : State) (p : Nat) : Bool := decide ((portOf s p).line.free ≤ blockAt s p s.now)

/-- The gap after a frame of n bytes, and the deficit idle count (R42): frames start at multiples of 8 bytes, the deficit
stays below 8 (PRESUMED, log 20: IEEE 802.3). -/
def gapAfter (n dic : Nat) : Nat × Nat :=
  let r := (n + 4) % 8
  if dic + r < 8 then (12 - r, dic + r) else (20 - r, dic + r - 8)

/-- A frame goes out after its preamble and start delimiter, from the clock `start` on (R36, R42). -/
def lineSend (p start : Nat) (d : List Byte) (s : State) : State :=
  let x := portOf s p
  let b := max x.line.free (blockAt s p start)
  let (gap, dic) := gapAfter d.length (if b = x.line.free then x.line.dic else 0)
  let l := { x.line with free := b + (8 + d.length + gap) / 8, dic := dic }
  if fastLanes s p then
    let n := portWidth s p
    let c := (frameBlocks d).foldl (fun c k => putBlock n k c) (putIdles n (b - l.pos) (l, []))
    c.2.foldl (fun s e => s.emit (.lane (p + e.1) e.2)) (setPort p { x with line := c.1 } s)
  else setPort p { x with line := l } s

/-- A frame, or what was sent of it, leaves a port. -/
def sendOut (p start : Nat) (d : List Byte) (whole : Bool) (s : State) : State :=
  lineSend p start d (s.emit (.frame p d whole))

/-- A port trains as a fresh link: its line coder starts anew (R35, R57). -/
def startLine (p : Nat) (s : State) : State :=
  setPort p { portOf s p with line := { free := blockAt s p s.now, pos := blockAt s p s.now } } s

end Sys2Proof.Machine
end

