-- ==== Sys2Proof/Machine/Shaper.lean ====
section
/-!
DEFINITION. Shapers (R171 to R173): their settings, refresh and charge, and the deficit of a class (R168, R170).
-/
namespace Sys2Proof.Machine

/-! ### Shapers (R171 to R173) -/

def shaperOf (s : State) (i : Nat) : ShSt := SMap.getD s.tm.shapers i {}

/-- Key of the shaper of a class; the port's own is at its number. -/
def qShaper (p c : Nat) : Nat := 256 + 8 * p + c

/-- MODE as it acts: 3 is treated as 0, and 2 too on a port (R172). -/
def ShSt.act (x : ShSt) (port : Bool) : Nat := if x.mode = 1 then 1 else if x.mode = 2 && !port then 2 else 0

/-- Store a shaper; its credit register shows C, or Tc under MODE 2, in whole bytes (R182). -/
def setShaper (i : Nat) (x : ShSt) (s : State) : State :=
  let s := { s with tm := { s.tm with shapers := SMap.put s.tm.shapers i {} x } }
  let v := BitVec.ofInt 32 ((if x.mode = 2 then x.tc else x.c) / 65536)
  if i < 256 then s.setReg .TM_PORT_CREDIT v i else s.setReg .TM_Q_CREDIT v ((i - 256) / 8) ((i - 256) % 8)

/-- The shaper allows a start. -/
def ShSt.allows (x : ShSt) (port : Bool) : Bool :=
  if x.act port = 1 then decide (0 ≤ x.c) else if x.act port = 2 then decide (0 ≤ x.tp) else true

/-- The queue is in the committed state (R167, R172). -/
def ShSt.committed (x : ShSt) : Bool := if x.act false = 2 then decide (0 ≤ x.tc) else true

/-- A frame of n bytes starts. -/
def ShSt.spend (x : ShSt) (port : Bool) (n : Nat) : ShSt :=
  if x.act port = 1 then { x with c := max (x.c - 65536 * n) (-(65536 * (x.lo : Int))) }
  else if x.act port = 2 then
    { x with tp := x.tp - 65536 * n, tc := if 0 ≤ x.tc then x.tc - 65536 * n else x.tc }
  else x

/-- The registers of a shaper: those of a port, or of a class. -/
def shaperRegs (s : State) (i : Nat) : ShSt :=
  if i < 256 then
    { mode := s.fld .TM_PORT_SHAPER_A_MODE i, inc := s.fld .TM_PORT_SHAPER_A_INC i, pir := s.fld .TM_PORT_SHAPER_B_PIR_INC i,
      hi := s.fld .TM_PORT_SHAPER_C_HI i, lo := s.fld .TM_PORT_SHAPER_D_LO i }
  else
    let p := (i - 256) / 8
    let c := (i - 256) % 8
    { mode := s.fld .TM_Q_SHAPER_A_MODE p c, inc := s.fld .TM_Q_SHAPER_A_INC p c, pir := s.fld .TM_Q_SHAPER_B_PIR_INC p c,
      hi := s.fld .TM_Q_SHAPER_C_HI p c, lo := s.fld .TM_Q_SHAPER_D_LO p c }

/-- The queue, or any class of the port, holds a frame or is sending (R171). -/
def shaperBusy (s : State) (i : Nat) : Bool :=
  if i < 256 then (portOf s i).tx.isSome || (List.range 8).any (fun c => !(queueOf s (leafQ i c)).units.isEmpty)
  else !(queueOf s (i - 256)).units.isEmpty

/-- One refresh of a shaper (R171 to R173): a changed MODE zeroes it in place of the update. -/
def ShSt.refresh (x r : ShSt) (port busy : Bool) (now : Nat) : ShSt :=
  let y := { r with c := x.c, tc := x.tc, tp := x.tp, last := now + 1 }
  if x.mode ≠ r.mode then { y with c := 0, tc := 0, tp := 0 }
  else if y.act port = 1 then
    { y with c := if busy || decide (y.c < 0) then min (y.c + y.inc) (65536 * y.hi) else if 0 < y.c then 0 else y.c }
  else if y.act port = 2 then
    { y with tc := min (y.tc + y.inc) (65536 * y.hi), tp := min (y.tp + y.pir) (65536 * y.lo) }
  else y

/-- A cut-through frame whose length is not yet known holds the charge of this shaper open (R123, R171). -/
def shaperOwes (s : State) (i : Nat) : Bool :=
  match (portOf s (if i < 256 then i else (i - 256) / 8)).tx with
  | some t => t.data.isNone && (decide (i < 256) || (i - 256) % 8 == t.cls)
  | none => false

/-- SHAPER_REFRESH (R171): at each core clock whose number is a multiple of 64, once for each shaper. While a frame of
unknown length is charged from its start on, the refresh is kept and made when the length is known; until then the credit
register shows the credit at the start (DESIGN CHOICE, log 56). -/
def shaperRefresh (i : Nat) (s : State) : State :=
  let x := shaperOf s i
  let r := shaperRegs s i
  if s.now % 64 = 0 && x.last ≠ s.now + 1 then
    if shaperOwes s i then
      setShaper i { x with last := s.now + 1, late := x.late ++ [(r.mode, r.inc, r.pir, r.hi, r.lo)] } s
    else setShaper i (x.refresh r (decide (i < 256)) (shaperBusy s i) s.now) s
  else s

/-- The refreshes of a port's shapers that fall in this core clock come before a frame's start (R173). -/
def refreshPort (p : Nat) (s : State) : State :=
  (List.range 8).foldl (fun s c => shaperRefresh (qShaper p c) s) (shaperRefresh p s)

/-- A charge of n bytes at the start of a frame, and the refreshes kept since (R171, R172). -/
def ShSt.pay (x : ShSt) (port : Bool) (n : Nat) : ShSt :=
  x.late.foldl
    (fun y l => y.refresh { mode := l.1, inc := l.2.1, pir := l.2.2.1, hi := l.2.2.2.1, lo := l.2.2.2.2 } port true
      (x.last - 1))
    ({ x with late := [] }.spend port n)

/-- A frame of n bytes on class c of port p is charged to its shapers, and to the deficit of its class where a round of
deficit round robin chose it (R168, R170 to R172). -/
def chargeFrame (p c n : Nat) (drrUsed : Bool) (s : State) : State :=
  let x := portOf s p
  let s := if drrUsed then setPort p { x with deficit := SMap.put x.deficit c 0 (SMap.getD x.deficit c 0 - n) } s else s
  let s := setShaper (qShaper p c) ((shaperOf s (qShaper p c)).pay false n) s
  setShaper p ((shaperOf s p).pay true n) s

end Sys2Proof.Machine
end

