-- ==== Sys2Proof/Machine/Leaf.lean ====
section
/-!
DEFINITION. Leaf ports (chapter 2): group modes and restart, lane alignment, link up and down, the flap hold, doze, and
PAUSE and PFC with their watchdog.
-/
namespace Sys2Proof.Machine

/-! ### Groups and lanes (R32, R38) -/

/-- A quantum count in core clocks, rounded up (R46): 512 bit times each. -/
def quantaClocks (s : State) (p q : Nat) : Nat := ceilDiv (512 * q * 16) (portRate s p * 10)

/-- HOLD_MS in core clocks; a value above 10,000 counts as 10,000 (R60). -/
def holdClocks (s : State) (p : Nat) : Nat := min 10000 (s.fld .LEAF_FLAP_CFG_HOLD_MS p) * clkMs

/-- The pattern of the LZ400 marker block (R37). -/
def markerPattern : BitVec 96 := 0xC16821F43E97DE0B962BD46A#96

/-- Number of bits that are 1. -/
def popCount {w : Nat} (x : BitVec w) : Nat := ((List.range w).filter (fun i => x.getLsbD i)).length

/-- A marker block is found on a port (R38, R41): in LZ400, at most 8 bits of the pattern in error and LANE_ID matches
LANE_ID_INV; at 200 Gb/s, the alignment marker of IEEE 802.3dj. -/
def markerOk (s : State) (p : Nat) (m : Marker) : Bool :=
  if fastLanes s p then decide (popCount (m.pattern ^^^ markerPattern) ≤ 8) && m.laneIdInv == ~~~m.laneId else m.ieee

def laneOf (s : State) (n : Nat) : Option LaneSt := SMap.get? s.leaf.lanes n

/-- The lanes of a port are aligned with complete identities (R38, R39): the latest clock at which one aligned. -/
def lanesReady (s : State) (p : Nat) : Option Nat :=
  let l := (portLanes s p).filterMap (laneOf s)
  if l.length = portWidth s p && (List.range (portWidth s p)).all (fun i => l.any (fun x => x.id == i)) then
    some ((l.map (fun x => x.alignedAt)).foldl max 0)
  else none

/-! ### Pause state -/

/-- LEAF_PAUSE_STATUS shows the pause state and the hold-off (R49); in PAUSE mode pause holds all classes. -/
def showPause (p : Nat) (s : State) : State :=
  let x := portOf s p
  let mask := fun (m : SMap Nat) =>
    (List.range 8).foldl (fun a c => if (SMap.get? m c).isSome then a + 2 ^ c else a) 0
  stallSync p (s.setReg .LEAF_PAUSE_STATUS (BitVec.ofNat 32 (mask x.holdoff * 256 + mask x.paused)) p)

/-- Pause a class until a clock, or end its pause at once (R46). -/
def pauseClass (p c till : Nat) (s : State) : State :=
  let x := portOf s p
  showPause p (setPort p { x with
    paused := if s.now < till then SMap.insert x.paused c till else SMap.keep x.paused (· != c) } s)

/-- A received pause frame that names classes with the clocks at which their pauses end (R46, R47): times of zero, which
end at this clock, cancel at once; the others take effect at once, or, where a frame of one of these classes is in
transmission, all at its end. -/
def takePause (p : Nat) (l : List (Nat × Nat)) (s : State) : State :=
  let x := portOf s p
  let s := setPort p { x with pend := x.pend.filter (fun q => !l.any (fun e => e.1 == q.cls)) } s
  let s := (l.filter (fun e => e.2 == s.now)).foldl (fun s e => pauseClass p e.1 0 s) s
  let go := l.filter (fun e => e.2 != s.now)
  if x.tx.any (fun t => go.any (fun e => e.1 == t.cls)) then
    setPort p { portOf s p with pend := (portOf s p).pend ++ go.map (fun e => ⟨e.1, e.2⟩) } s
  else go.foldl (fun s e => pauseClass p e.1 e.2 s) s

/-- The end of a frame: pauses that waited for it take effect (R47). -/
def applyPend (p : Nat) (s : State) : State :=
  let x := portOf s p
  x.pend.foldl (fun s q => pauseClass p q.cls q.till s) (setPort p { x with pend := [] } s)

/-- Pause state is cleared (R35, R55, R58). -/
def endPause (p : Nat) (s : State) : State :=
  showPause p (setPort p { portOf s p with paused := [], pend := [], stall := [] } s)

/-- Pause state and watchdog hold-off are cleared (R35, R58). -/
def clearPause (p : Nat) (s : State) : State :=
  endPause p (setPort p { portOf s p with holdoff := [] } s)

/-! ### What a port sends of a frame (R44, R61, R178) -/

/-- The bytes of a unit that are in buffer: the frame where it is closed. -/
def QUnit.bytes (u : QUnit) : List Byte :=
  let d := (u.cells.map (fun e => e.2.pay)).flatten
  if u.closed && !u.aborted then d.take u.flen else d

/-- The header fields of a unit's frame: those of its first cell. -/
def QUnit.head (u : QUnit) : Cell := match u.cells with
  | (_, c) :: _ => c
  | [] => {}

/-- Set the ECN field of an IP header to CE (R178): the frame, whether it changed, and whether the field is Not-ECT. -/
def markHdr (d : List Byte) (h : Hdr) : List Byte × Bool × Bool :=
  let o := h.off + 1
  let b := (d.getD o 0#8).toNat
  let e := if h.typ = 4 then b % 4 else b / 16 % 4
  if e = 0 then (d, false, true)
  else if e = 3 then (d, false, false)
  else
    let v := if h.typ = 4 then b / 4 * 4 + 3 else b / 64 * 64 + 48 + b % 16
    let new := patch d o [BitVec.ofNat 8 v]
    let new := if h.typ = 4 then fixCsum new (h.off + 10) (changed d new h.off (h.off + 2) 1) false else new
    (new, true, false)

/-- The ECN marking of a frame (R178): what it becomes, whether it counts as marked, and as Not-ECT. -/
def markFrame (inner : Bool) (d : List Byte) (hs : List Hdr) : List Byte × Bool × Bool :=
  let ips := hs.filter (fun h => h.typ == 4 || h.typ == 5)
  match ips with
  | [] => (d, false, false)
  | h :: rest =>
    let (d, m, n) := markHdr d h
    match rest.getLast? with
    | some i =>
      if inner then
        let (d, m', n') := markHdr d i
        (d, m || m', n || n')
      else (d, m, n)
    | none => (d, m, n)

/-- The bytes of a frame without its FCS. -/
def body (d : List Byte) : List Byte := d.take (d.length - 4)

/-- Pad to 64 bytes with the FCS, and append it (R44). -/
def sealFrame (d : List Byte) : List Byte := let d := d ++ List.replicate (60 - d.length) 0#8; d ++ fcsBytes d

/-- The headers of a frame that its walk recorded and no pop removed. -/
def EditFrame.walked (f : EditFrame) : List Hdr := (f.parts.filter (fun e => e.at_.isSome)).map (fun e => e.hdr)

/-- The egress edits of a decision on frame data (FCS excluded). -/
def EgrDec.edited (e : EgrDec) (d : List Byte) : EditFrame :=
  let f := EditFrame.ofWalk d e.hdrs
  match e.plan with
  | some p => p.run e.hash f
  | none => f

/-- The ECN marking of an edited frame (R178): its data, whether it counts as marked, and as Not-ECT. -/
def EgrDec.mark (e : EgrDec) (f : EditFrame) : List Byte × Bool × Bool :=
  if e.marked then markFrame e.inner f.data f.walked else (f.data, false, false)

/-- Frame data as transmitted, after edits and marking. -/
def EgrDec.data (e : EgrDec) (d : List Byte) : List Byte := (e.mark (e.edited d)).1

/-- The bytes of a frame in transmission without its FCS: what was fixed at its start, or the edited bytes of the cells that
have come. -/
def sentData (t : TxSt) (u : QUnit) : List Byte :=
  match t.data with
  | some d => body d
  | none => t.dec.data (if u.closed && !u.aborted then body u.bytes else u.bytes)

/-- Bytes that a port sends from the clock `start` to now (R21): its rate in Gb/s times 5 / 64 bytes a core clock. -/
def bytesSince (s : State) (p start : Nat) : Nat := (s.now - start) * portRate s p * 5 / 64

/-! ### Queues of a port -/

/-- Flush every frame queued for a port, counted in FLAP_FLUSH_CNT (R35, R59). -/
def flushPort (p : Nat) (s : State) : State :=
  (List.range 8).foldl (fun s c =>
    let k := leafQ p c
    let q := queueOf s k
    let s := setQueue k { q with units := [] } s
    q.units.foldl (fun s u => dropFrame (p / 16) u (s.count .FLAP_FLUSH_CNT p)) s) s

/-- A frame in transmission is abandoned (R24, R35, R58): it is cut off after the bytes sent so far, with no correct FCS, and
counted; its tiles are returned, and a copy of it is discarded (R339). A cut-through frame is charged what was sent. -/
def abandonTx (p : Nat) (s : State) : State :=
  let x := portOf s p
  match x.tx with
  | none => s
  | some t =>
    let k := leafQ p t.cls
    let q := queueOf s k
    let u := q.units.find? (fun u => u.started)
    let sent := (u.map (sentData t)).getD []
    let sent := sent.take (min (bytesSince s p t.start) (sent.length - 1))
    let s := if t.data.isNone then chargeFrame p t.cls sent.length (t.round != 1) s else s
    let s := (setPort p { portOf s p with tx := none } s).count .LEAF_TX_LINKDOWN_ABORT_CNT p
    let s := sendOut p t.start sent false s
    let s := match t.copy with
      | some c => (s.count .MIR_ABORT_CNT c.session).led tEnd11 c.session
      | none => s
    match u with
    | some u =>
      dropFrame (p / 16) u (setQueue k { q with units := updUnit (fun u => u.started) (fun _ => none) q.units } s)
    | none => s

/-- The link state of a port is lost: alignment must be found again. -/
def loseLink (p : Nat) (s : State) : State :=
  let s := s.setFld .LEAF_PORT_STATUS_LINK_UP 0 p
  setPort p { portOf s p with ready := none, uncorr := [] } s

/-- A port that is link up goes down, or its EN is cleared (R58). -/
def linkDown (p : Nat) (s : State) : State :=
  let s := s.count .LEAF_LINK_DOWN_CNT p
  let s := clearPause p (abandonTx p (loseLink p s))
  if holdClocks s p = 0 then flushPort p s
  else
    let s := s.setFld .LEAF_PORT_STATUS_FROZEN 1 p
    setPort p { portOf s p with holdTill := some (s.now + holdClocks s p) } s

/-- A port that goes down with its lanes still aligned starts a new 100 µs (R39) (DEDUCED, log 23). -/
def relock (p : Nat) (s : State) : State :=
  setPort p { portOf s p with ready := (lanesReady s p).map (fun _ => s.now) } s

/-- Every lane of a port loses its alignment. -/
def dropLanes (p : Nat) (s : State) : State :=
  { s with leaf := { s.leaf with lanes := SMap.keep s.leaf.lanes (fun n => lanePort s n != p) } }

/-! ### Commands of the link -/

/-- GROUP_RESTART_DONE (R35): every lane of the group is in its new mode. -/
def execGroupRestartDone (g : Fin 16) (s : State) : Result := .next (s.setFld .LEAF_GROUP_STATUS_RESTARTING 0 g.val)

/-- The optical engine of a leaf group has light: its group is not shed, no quiet is asserted, and the die runs (R393,
R399). -/
def engineLit (s : State) (g : Nat) : Bool := !s.pwr.shed.contains g && !s.pwr.quiet && !s.pwr.stopped

/-- A lane of a port that may train: the part has the port (R3), its number is active, enabled and awake, and its engine has
light. -/
def trains (s : State) (p : Nat) : Bool :=
  !noPort s p && engineLit s (p / 16) && s.flag .LEAF_PORT_STATUS_ACTIVE p && s.flag .LEAF_PORT_CFG_EN p && !s.flag .LEAF_PORT_STATUS_DOZING p
    && (portOf s p).wakeAt.isNone

/-- LANE_ALIGN (R38, R41): two marker blocks, in LZ400 exactly one period of 4,096 codewords apart. -/
def execLaneAlign (n : Fin 256) (m1 m2 : Marker) (apart : Nat) (s : State) : Result :=
  .next (
    let p := lanePort s n.val
    if trains s p && (laneOf s n.val).isNone && (!fastLanes s p || apart = 4096) && markerOk s p m1 && markerOk s p m2 then
      let s := { s with leaf := { s.leaf with lanes := SMap.insert s.leaf.lanes n.val ⟨s.now, m2.laneId.toNat⟩ } }
      setPort p { portOf s p with ready := lanesReady s p } s
    else s)

/-- A port comes link up (R39, R57, R59). -/
def linkUp (p : Nat) (s : State) : State :=
  let s := s.setReg .LEAF_PORT_STATUS
    (BitVec.ofNat 32 (64 + 32 + 2 * s.fld .LEAF_PORT_STATUS_DOZE_REFUSED p)) p
  setPort p { portOf s p with holdTill := none } s

/-- A port can come link up (R38, R39): every lane aligned for 100 µs at 400 Gb/s, skew within 180 ns. At 200 Gb/s no time is
asked (DESIGN CHOICE, log 23: the list of R39 is that of LZ400). -/
def canLink (s : State) (p skewNs : Nat) : Bool :=
  let wait := if fastLanes s p then 100 * clkUs else 0
  match (portOf s p).ready with
  | some t => trains s p && !portUp s p && decide (skewNs ≤ 180) && decide (t + wait ≤ s.now)
  | none => false

/-- LINK_UP (R38, R39). -/
def execLinkUp (p : Fin 256) (skewNs : Nat) (s : State) : Result :=
  .next (if canLink s p.val skewNs then linkUp p.val s else s)

/-- A LINK_UP of this port waits that takes effect in this core clock. -/
def linkUpWaits (s : State) (p : Nat) : Bool :=
  s.awaits (fun c => match c with
    | .linkUp q k => q.val == p && canLink s p k
    | _ => false)

/-- FLAP_HOLD_EXPIRY (R59): the hold passes with the port still down, and it does not come up in the same core clock. -/
def execFlapHoldExpiry (p : Fin 256) (s : State) : Result :=
  .next (match (portOf s p.val).holdTill with
    | some t =>
      if t ≤ s.now && !portUp s p.val && !linkUpWaits s p.val then
        let s := s.setFld .LEAF_PORT_STATUS_FROZEN 0 p.val
        flushPort p.val (setPort p.val { portOf s p.val with holdTill := none } s)
      else s
    | none => s)

/-! ### PAUSE and PFC (R45 to R50) -/

/-- The destination of pause frames. -/
def pauseMac : List Byte := [0x01#8, 0x80#8, 0xC2#8, 0x00#8, 0x00#8, 0x01#8]

/-- A MAC Control frame (R45). -/
def isMacControl (d : List Byte) : Bool := beAt d 12 2 == 0x8808

/-- A received MAC Control frame (R45, R46, R49): honoured, or counted as ignored. -/
def macControl (p : Nat) (d : List Byte) (s : State) : State :=
  let ignored := s.count .LEAF_RX_PAUSE_IGNORED_CNT p
  let op := beAt d 14 2
  let m := pauseMode s p
  if slice d 0 6 != pauseMac then ignored
  else if op = 0x0001 && m = 1 then
    if (portOf s p).holdoff.isEmpty then
      let till := s.now + quantaClocks s p (beAt d 16 2)
      takePause p ((List.range 8).map (fun c => (c, till))) (s.count .LEAF_RX_PAUSE_CNT p)
    else ignored
  else if op = 0x0101 && m = 2 then
    let v := beAt d 16 2 % 256
    let ok := fun c => (s.fld .LEAF_PFC_CFG_RX_EN p).testBit c && (SMap.get? (portOf s p).holdoff c).isNone
    let named := (List.range 8).filter (fun c => v.testBit c)
    let s := if named.isEmpty || named.any (fun c => !ok c) then ignored else s
    let s := (named.filter ok).foldl (fun s c => s.count .LEAF_RX_PFC_CNT p c) s
    takePause p ((named.filter ok).map (fun c => (c, s.now + quantaClocks s p (beAt d (18 + 2 * c) 2)))) s
  else ignored

/-- PAUSE_EXPIRY (R46, R50). -/
def execPauseExpiry (p : Fin 256) (c : Fin 8) (s : State) : Result :=
  .next (match SMap.get? (portOf s p.val).paused c.val with
    | some t => if t ≤ s.now then pauseClass p.val c.val 0 s else s
    | none => s)

/-- The bytes of a pause frame (R48): a class, or 8 for PAUSE, and a time in quanta. -/
def pauseFrame (s : State) (c t : Nat) : List Byte :=
  let body := if c = 8 then toBe 2 0x0001 ++ toBe 2 t
    else toBe 2 0x0101 ++ toBe 2 (2 ^ c) ++ ((List.range 8).map (fun i => toBe 2 (if i = c then t else 0))).flatten
  let d := fit 60 (pauseMac ++ toBe 6 (routerMac s) ++ toBe 2 0x8808 ++ body)
  d ++ fcsBytes d

/-- PAUSE_FRAME_TX (R48): a pending pause frame leaves at a frame boundary. -/
def execPauseFrameTx (p : Fin 256) (s : State) : Result :=
  .next (if s.pwr.stopped then s else
    let x := portOf s p.val
    match x.pauseOut with
    | [] => s
    | (c, t) :: l =>
      if x.tx.isSome || !portUp s p.val || !lineFree s p.val then s
      else
        let s := setPort p.val { x with pauseOut := l, pausedAt := SMap.insert x.pausedAt c s.now } s
        let s := if c = 8 then s.count .LEAF_TX_PAUSE_CNT p.val else s.count .LEAF_TX_PFC_CNT p.val c
        sendOut p.val s.now (pauseFrame s c t) true s)

/-- PAUSE_REPEAT_TIMER (R48): half the quanta sent, or one quantum, after the last pause frame while a class stays
triggered; class 8 stands for PAUSE. -/
def execPauseRepeatTimer (p : Fin 256) (c : Fin 9) (s : State) : Result :=
  .next (
    let x := portOf s p.val
    let m := pauseMode s p.val
    let on := if c.val = 8 then m == 1 && !x.trig.isEmpty else m == 2 && x.trig.contains c.val
    let gap := quantaClocks s p.val (max 1 (quantaOf s p.val / 2))
    match SMap.get? x.pausedAt c.val with
    | some t =>
      if on && t + gap ≤ s.now && !x.pauseOut.any (fun e => e.1 == c.val) then
        setPort p.val { x with pauseOut := x.pauseOut ++ [(c.val, quantaOf s p.val)] } s
      else s
    | none => s)

/-- PAUSE_WD_HOLDOFF_END (R49). -/
def execPauseWdHoldoffEnd (p : Fin 256) (c : Fin 8) (s : State) : Result :=
  .next (
    let x := portOf s p.val
    match SMap.get? x.holdoff c.val with
    | some t => if t ≤ s.now then showPause p.val (setPort p.val { x with holdoff := SMap.keep x.holdoff (· != c.val) } s) else s
    | none => s)

/-- CT_START_DECAY (R54): 1 s without an underrun. -/
def execCtStartDecay (p : Fin 256) (s : State) : Result :=
  .next (
    let x := portOf s p.val
    if x.ctAt + 1600000000 ≤ s.now then
      let c := s.fld .LEAF_CT_STATUS_CT_START_CUR p.val
      let s := setPort p.val { x with ctAt := s.now } s
      if s.fld .LEAF_PORT_CFG_CT_START p.val < c then s.setFld .LEAF_CT_STATUS_CT_START_CUR (c - 1) p.val else s
    else s)

end Sys2Proof.Machine
end

