-- ==== Sys2Proof/Machine/Cut.lean ====
section
/-!
DEFINITION. Cutting frames into cells (R120 to R124): segmentation, the crossbar feed of a pipeline, shares of the active
slot map (R128), the SEQ allocators (R231) and the tests of a frame bound for another module (R165, R233).
-/
namespace Sys2Proof.Machine

/-! ### Segmentation (R120) -/

/-- The number of cells of a frame of L bytes (DEDUCED, log 25). -/
def cellCount (len : Nat) : Nat := ceilDiv len 240

/-- KIND of cell i of n. -/
def cellKind (n i : Nat) : Nat := if n = 1 then 3 else if i = 0 then 1 else if i + 1 = n then 2 else 0

/-- The cells of a frame: `b` gives the header fields and the tag common to all. -/
def cutFrame (b : Cell) (d : List Byte) : List Cell :=
  let n := cellCount d.length
  (List.range n).map (fun i =>
    { b with kind := cellKind n i, flen := if i = 0 then d.length else 0, pay := fit 240 (slice d (240 * i) 240) })

/-- Keep a transmit completion and a mirror session on the last cell only (R308, R345). -/
def tailTags (l : List Cell) : List Cell :=
  let n := l.length
  ((List.range n).zip l).map (fun e =>
    if e.1 + 1 = n then e.2
    else { e.2 with tag := { e.2.tag with copy := none, tx := if e.2.tag.txTs then e.2.tag.tx else none } })

def feedOf (s : State) (q : Nat) : List XCell := SMap.getD s.xbar.feed q []

/-- Cells join the cells that wait to enter the crossbar at an input. -/
def feedPut (q : Nat) (l : List XCell) (s : State) : State :=
  { s with xbar := { s.xbar with feed := SMap.put s.xbar.feed q [] (feedOf s q ++ l) } }

/-- Bytes received so far of the frames that a pipeline's ports are receiving (R118). -/
def rxArriving (s : State) (q : Nat) : Nat :=
  ((s.leaf.ports.filter (fun e => e.1 / 16 == q)).map (fun e => match e.2.rx with
    | some (f, false) => f.data.length
    | _ => 0)).sum

/-- Receive-buffer bytes in use in a leaf pipeline (R118). -/
def rxUsed (s : State) (q : Nat) : Nat := ((feedOf s q).map (fun x => x.rel)).sum + rxArriving s q

/-- Free receive-buffer bytes: 256 KiB in all. -/
def rxFree (s : State) (q : Nat) : Nat := 262144 - rxUsed s q

/-- Mark the last cell of a frame with the receive-buffer bytes that it frees. -/
def relLast (n : Nat) : List XCell → List XCell
  | [] => []
  | [x] => [{ x with rel := n }]
  | x :: l => x :: relLast n l

/-- A frame that is whole goes to a local leaf port (R120): its cells with the crossbar output and queue. -/
def localCells (q : Nat) (b : Cell) (d : List Byte) : List XCell :=
  relLast d.length ((tailTags (cutFrame b d)).map (fun c => ⟨c, q, b.dstPort / 16, 8 * (b.dstPort % 16) + b.cls, false, 0, 0, none, 0, false⟩))

/-- A frame of which `early` cells entered before it was whole (R122, R123): the first cell carries the bound, the last
one the true length, and a frame that fails is ended by an ABORT cell. -/
def earlyCells (q : Nat) (b : Cell) (d : List Byte) (early bound : Nat) (fails : Bool) : List XCell :=
  let xs := localCells q b d
  let n := xs.length
  let xs := ((List.range n).zip xs).map (fun e =>
    let c := e.2.cell
    if e.1 = 0 then { e.2 with cell := { c with flen := bound, kind := 1 } }
    else if e.1 + 1 = n then { e.2 with cell := { c with flen := d.length, kind := 2 } }
    else e.2)
  if fails then
    (xs.take early).map (fun x => { x with rel := 0 })
      ++ [⟨{ b with kind := 2, pay := List.replicate 240 0#8, tag := { b.tag with org := none, tx := none, copy := none } },
          q, b.dstPort / 16, 8 * (b.dstPort % 16) + b.cls, true, 0, 0, none, 0, false⟩]
  else xs

/-! ### Shares of the slot map (R128, R188) -/

/-- EPOCH_LOG2; values outside 5 to 8 are treated as 7 (R201). -/
def epochLog2 (s : State) : Nat :=
  let n := s.fld .SKY_CFG_EPOCH_LOG2
  if 5 ≤ n && n ≤ 8 then n else 7

/-- Sky pipelines and sky lanes of the part (R3). -/
def skyPipes (s : State) : Nat := if s.sys.part = .s2048 then 16 else 8
def skyLanes (s : State) : Nat := 16 * skyPipes s

/-- Byte k of a word. -/
def wordByte (w : Word) (k : Nat) : Nat := w.toNat / 256 ^ k % 256

/-- The destinations that a bank names: (slot, lane, module). Words at their reset value name none. -/
def mapEntries (s : State) (b : Nat) : List (Nat × Nat × Nat) :=
  let base := Reg.SKY_MAP_BANK.off b 0
  let ws := s.regs.filter (fun e => decide (base ≤ e.1) && decide (e.1 < base + 65536))
  ws.flatMap (fun e =>
    (List.range 4).filterMap (fun k =>
      let o := e.1 - base + k
      let v := wordByte e.2 k
      if 1 ≤ o / 256 && o / 256 < 2 ^ epochLog2 s && v < 128 && o % 256 < skyLanes s then some (o / 256, o % 256, v)
      else none))

/-- One byte of a bank. -/
def mapByte (s : State) (b slot lane : Nat) : Nat :=
  wordByte (s.reg .SKY_MAP_BANK b ((256 * slot + lane) / 4)) (lane % 4)

def activeMap (s : State) : Nat := s.fld .SKY_MAP_STATUS_ACTIVE_BANK

/-- A lane has stopped under R249: its enable bit is clear, simmer has shed it, it has a transmit fault, or its laser is
held off. -/
def laneStopped (s : State) (n : Nat) : Bool :=
  !(s.reg .SKY_LANE_EN (n / 32)).toNat.testBit (n % 32) || s.sky.shedLanes.contains n
    || (s.reg .SKY_LANE_FAULT (n / 32)).toNat.testBit (n % 32) || s.flag .OPT_LANE_BIAS_DISABLE (256 + n)

/-- The share of module d in each sky pipeline (R128); `enabled` counts only lanes that have not stopped (R250). -/
def shares (s : State) (d : Nat) (enabled : Bool) : List Nat :=
  let l := (mapEntries s (activeMap s)).filter (fun e => e.2.2 == d && !(enabled && laneStopped s e.2.1))
  (List.range 16).map (fun p => (l.filter (fun e => e.2.1 / 16 == p)).length)

/-- Below every weight. -/
def lowInt : Int := -4611686018427387904

/-- Index of the largest of a list, the lowest on a tie. -/
def argMax : List Int → Nat → Nat → Int → Nat
  | [], _, best, _ => best
  | v :: l, i, best, top => if top < v then argMax l (i + 1) i v else argMax l (i + 1) best top

/-- The sky pipeline for the next cell for d at a crossbar input (R128, R239): smooth weighted round robin by shares,
or plain round robin where every share is zero. -/
def spread (inp d : Nat) (s : State) : Nat × State :=
  let w := shares s d false
  let k := 128 * inp + d
  if w.sum = 0 then
    let i := SMap.getD s.sky.wrr0 k 0 % skyPipes s
    (i, { s with sky := { s.sky with wrr0 := SMap.put s.sky.wrr0 k 0 (i + 1) } })
  else
    let cur := (List.range 16).map (fun p => SMap.getD s.sky.wrr (16 * k + p) 0 + ((w.getD p 0 : Nat) : Int))
    let live := ((List.range 16).zip cur).map (fun e => if w.getD e.1 0 = 0 then lowInt else e.2)
    let i := argMax live 0 0 lowInt
    let m := ((List.range 16).zip cur).foldl (fun (m : SMap Int) e =>
      SMap.put m (16 * k + e.1) 0 (if e.1 = i then e.2 - (w.sum : Nat) else e.2)) s.sky.wrr
    (i, { s with sky := { s.sky with wrr := m } })

/-! ### Frames for another module (R124, R165, R231, R233) -/

/-- S of R185: the rotation size, which is also the number of module IDs. -/
def skySize (s : State) : Nat := if s.flag .SKY_CFG_SIZE then 128 else 32

/-- A frame for module d is dropped for want of a peer (R233). -/
def noPeer (s : State) (d : Nat) : Bool :=
  decide (s.fld .SKY_STATE_STATE ≤ 1) || decide (skySize s ≤ d) || !s.flag .SKY_PEER_PRESENT d

/-- The backlog B(d, c) as it stood before this core clock (R165). -/
def backlog (s : State) (d c : Nat) : Nat := ((List.range 16).map (fun p => depthBefore s (skyQ p (destQ d c)))).sum

/-- A frame of n cells fails the test of R165. -/
def destLimited (s : State) (d c n : Nat) : Bool :=
  let l := s.fld .TM_DEST_LIMIT_CELLS c
  l != 0 && decide (16 * l < backlog s d c + n)

/-- Spread the cells of a frame over the sky pipelines. -/
def spreadCells (q d c : Nat) : List Cell → State → List XCell × State
  | [], s => ([], s)
  | x :: l, s =>
    let (p, s) := spread q d s
    let (r, s) := spreadCells q d c l s
    (⟨x, q, 16 + p, destQ d c, false, 0, 0, none, 0, false⟩ :: r, s)

/-- A whole frame leaves for another module: it takes its SEQ values and its cells join the feed. -/
def sendSky (q : Nat) (b : Cell) (d : List Byte) (s : State) : State :=
  let m := b.dstMod
  let n := cellCount d.length
  let seq := s.fld .SKY_SEQ_NEXT_SEQ m b.cls
  let s := s.setReg .SKY_SEQ_NEXT (BitVec.ofNat 32 ((seq + n) % 2 ^ 24)) m b.cls
  let s := (s.count .SKY_PAIR_TX_CELL_CNT m 0 n).led tSeq5 0 n
  let cells := tailTags (cutFrame b d)
  let cells := ((List.range n).zip cells).map (fun e => { e.2 with seq := (seq + e.1) % 2 ^ 24 })
  let (xs, s) := spreadCells q m b.cls cells s
  feedPut q (relLast d.length xs) s

/-- Why no frame is sent toward a module (R165, R233). -/
inductive SkyBad where
  | noPeer | destLimit
  deriving DecidableEq, Repr

/-- The counter of such a drop. -/
def SkyBad.cnt : SkyBad → Cnt
  | .noPeer => .SKY_NO_PEER_DROP_CNT
  | .destLimit => .TM_DEST_LIMIT_DROP_CNT

/-- What becomes of a whole frame that leaves the pipeline (R165, R233): the drop counter, or the frame on its way. -/
def sendFrame (q : Nat) (b : Cell) (d : List Byte) (s : State) : Option SkyBad × State :=
  if b.dstMod = ownMod s then (none, feedPut q (localCells q b d) s)
  else if noPeer s b.dstMod then (some .noPeer, s)
  else if destLimited s b.dstMod b.cls (cellCount d.length) then (some .destLimit, s)
  else (none, sendSky q b d s)

end Sys2Proof.Machine
end

