-- ==== Sys2Proof/Machine/Mirror.lean ====
section
/-!
DEFINITION. Mirroring, capture and sampling (chapter 15), and the writing of the records that the switch die generates
(R315).
-/
namespace Sys2Proof.Machine

/-- What a copy says of its original. -/
structure CopyInfo where
  egress : Bool
  pipe : Nat
  port : Nat
  cls : Nat
  srcMod : Nat
  srcPort : Nat
  /-- Time and validity in a receive completion (R325), and the time in a capture record (R342). -/
  ts : Nat
  tsValid : Bool
  capTs : Nat
  hash : Nat
  deriving DecidableEq, Repr

/-- The count of a session in a pipeline advances (R338): whether a copy is made. -/
def sampleStep (m : SMap Nat) (k log : Nat) : Bool × SMap Nat :=
  let n := SMap.getD m k 0
  if 2 ^ log ≤ n + 1 then (true, SMap.put m k 0 0) else (false, SMap.put m k 0 (n + 1))

/-- A selected session makes a copy of this frame (R337, R338): the copy counts. -/
def selectCopy (ses pipe : Nat) (s : State) : Bool × State :=
  if s.flag .MIR_SESSION_CFG_EN ses then
    let (c, m) := sampleStep s.leaf.copies (16 * ses + pipe) (s.fld .MIR_SESSION_CFG_SAMPLE_LOG2 ses)
    let s := { s with leaf := { s.leaf with copies := m } }
    if c then (true, (s.count .MIR_COPY_CNT ses).led tCopy11 ses) else (false, s)
  else (false, s)

/-- An end of a copy in a session's counter (R346). -/
def copyEnd (c : Cnt) (ses : Nat) (s : State) : State := (s.count c ses).led tEnd11 ses

/-- The capture ring of a session with this MIR_SESSION_CFG (R341): the rings of RING_MASK in ring order, chosen by the hash. -/
def captureRing (s : State) (cfg : Word) (hash : Nat) : Nat :=
  let mask := let m := Fld.MIR_SESSION_CFG_RING_MASK.get cfg; if m = 0 then 1 else m
  let rs := (List.range 4).filter (fun j => mask.testBit j)
  let h := ror32 hash (s.fld .PARSE_HASH_CFG_ROT_CAP)
  rs.getD (h % 65536 * rs.length / 65536) 0

/-- SNAP: 0 and values above 224 are treated as 224 (R349). -/
def snapOf (cfg : Word) : Nat :=
  let n := Fld.MIR_SESSION_CFG_SNAP.get cfg
  if n = 0 || 224 < n then 224 else n

/-- A copy goes where its session, as it was at the stage decision, sends it (R340 to R345, R367). -/
def deliverCopy (ses : Nat) (cfg dest : Word) (i : CopyInfo) (d : List Byte) (s : State) : State :=
  let kind := Fld.MIR_SESSION_CFG_DEST_KIND.get cfg
  if kind = 2 then
    let b : Cell := { cls := Fld.MIR_SESSION_CFG_CLASS.get cfg, srcMod := ownMod s, srcPort := i.srcPort,
                      dstMod := Fld.MIR_SESSION_DEST_MOD.get dest, dstPort := Fld.MIR_SESSION_DEST_PORT.get dest,
                      mirror := true,
                      tag := { rk := ror32 i.hash (s.fld .PARSE_HASH_CFG_ROT_RELAY) % 128, hash := some i.hash,
                               copy := some ses } }
    match sendFrame i.pipe b d s with
    | (none, s) => s
    | (some c, s) => copyEnd .MIR_HOST_DROP_CNT ses (s.count c.cnt i.pipe)
  else if s.flag .SYS_PLANE_STATE_HEADLESS then copyEnd .MIR_HOST_DROP_CNT ses (s.count .SYS_HEADLESS_HOST_DROP_CNT)
  else if kind = 1 then
    match idlPass 1 d.length s with
    | (false, s) => copyEnd .MIR_POL_DROP_CNT ses s
    | (true, s) =>
      match rxPlace (Fld.MIR_SESSION_DEST_RING.get dest) d
          { reason := 0x20, ts := i.ts, tsValid := i.tsValid, srcMod := i.srcMod, srcPort := i.srcPort, cls := i.cls,
            egress := i.egress, session := ses, hash := i.hash, pipe := none } s with
      | (true, s) => copyEnd .MIR_DELIVER_CNT ses s
      | (false, s) => copyEnd .MIR_HOST_DROP_CNT ses s
  else
    match idlPass 1 256 s with
    | (false, s) => copyEnd .MIR_POL_DROP_CNT ses s
    | (true, s) =>
      let r : CapRec := { ring := captureRing s cfg i.hash, session := ses, egress := i.egress, cls := i.cls,
                          port := i.port, srcMod := i.srcMod, ts := i.capTs, hash := i.hash, flen := d.length,
                          data := d.take (snapOf cfg) }
      { s with host := { s.host with recq := s.host.recq ++ [.cap r] } }

/-- The session that a frame selects at a stage (R337): the rule's, else the port's (DEDUCED, log 26). -/
def copySession (s : State) (egress : Bool) (rule : Option Nat) (port : Option Nat) : Option Nat :=
  match rule with
  | some m => some m
  | none =>
    match port with
    | none => none
    | some p =>
      if egress then (if s.flag .MIR_PORT_CFG_EGR_EN p then some (s.fld .MIR_PORT_CFG_EGR_SESSION p) else none)
      else if s.flag .MIR_PORT_CFG_ING_EN p then some (s.fld .MIR_PORT_CFG_ING_SESSION p) else none

/-- The ingress stage (R337): a whole, checked frame as received. -/
def ingressCopy (rule port : Option Nat) (i : CopyInfo) (d : List Byte) (s : State) : State :=
  match copySession s false rule port with
  | none => s
  | some ses =>
    match selectCopy ses i.pipe s with
    | (false, s) => s
    | (true, s) => deliverCopy ses (s.reg .MIR_SESSION_CFG ses) (s.reg .MIR_SESSION_DEST ses) i d s

/-! ### Sampling (R347, R348) -/

/-- The module is in dawn, test or recovery (R347, R407): SYS_RUN_STATE.STATE 0, 2 or 3. -/
def samplingState (s : State) : Bool := let r := s.fld .SYS_RUN_STATE_STATE; r == 0 || r == 2 || r == 3

/-- A frame received on a leaf port meets the sampler of its pipeline (DEDUCED, log 25). -/
def sampleFrame (i : CopyInfo) (d : List Byte) (s : State) : State :=
  if s.flag .MIR_SAMPLE_CFG_EN && samplingState s then
    let (c, m) := sampleStep s.leaf.samples i.pipe (min 20 (s.fld .MIR_SAMPLE_CFG_LOG2))
    let s := { s with leaf := { s.leaf with samples := m } }
    if c then
      let t := d.take 128
      let refused := fun (s : State) => s.count .MIR_SAMPLE_DROP_CNT i.pipe
      if s.flag .SYS_PLANE_STATE_HEADLESS then refused (s.count .SYS_HEADLESS_HOST_DROP_CNT)
      else
        match idlPass 2 t.length s with
        | (false, s) => refused s
        | (true, s) =>
          match rxPlace 0 t
              { reason := 0x21, ts := i.ts, tsValid := i.tsValid, srcMod := i.srcMod, srcPort := i.srcPort,
                cls := i.cls, hash := i.hash, pipe := none } s with
          | (true, s) => s.count .MIR_SAMPLE_CNT i.pipe
          | (false, s) => refused s
    else s
  else s

/-! ### Records on their way to a ring (R315, R335) -/

/-- The bytes of a capture record at a ring index (R335). -/
def capBytes (c : CapRec) (idx : Nat) : List Byte :=
  fit 256 (toLe 8 (c.session * 2 ^ 60 + b2n c.egress * 2 ^ 59 + c.cls * 2 ^ 56 + c.port * 2 ^ 48 + c.srcMod * 2 ^ 41
      + c.data.length * 2 ^ 32 + idx)
    ++ toLe 8 c.ts ++ toLe 8 (c.hash * 2 ^ 32 + c.flen) ++ toLe 8 0 ++ c.data)

/-- A capture record meets its ring (R316, R345). -/
def capWrite (c : CapRec) (s : State) : State :=
  let r := 168 + c.ring
  if s.flag .SYS_PLANE_STATE_HEADLESS then
    copyEnd .MIR_HOST_DROP_CNT c.session (s.count .SYS_HEADLESS_HOST_DROP_CNT)
  else if !ringTakes s r 1 then copyEnd .MIR_HOST_DROP_CNT c.session (s.count .HOST_CAP_DROP_CNT r)
  else if !ringReach s r then
    copyEnd .MIR_HOST_DROP_CNT c.session ((stopLost r s).count .HOST_CAP_DROP_CNT r)
  else copyEnd .MIR_DELIVER_CNT c.session (ringPut r (capBytes c) s).2

/-- NOTIFY_RECORD_WRITE (R315): the oldest generated record, or group of records, is written or refused. -/
def execNotifyRecordWrite (s : State) : Result :=
  .next (match s.host.recq with
    | [] => s
    | r :: l =>
      let s := { s with host := { s.host with recq := l } }
      match r with
      | .notes n => noteNext n s
      | .cap c => capWrite c s)

end Sys2Proof.Machine
end

