-- ==== Sys2Proof/Machine/Ingress.lean ====
section
/-!
DEFINITION. Frames that enter a leaf pipeline (R61): the MAC checks, the walk and the malformed action, class, rule and
tables, learning, policing, ingress edits, and the way out to a leaf port, the sky or the host; transmit descriptors
and injected frames (R308, R321).
-/
namespace Sys2Proof.Machine

/-! ### Learning (R104, R105) -/

/-- The candidate that gives up its entry to one of pipeline q (R105): of those that took one in this clock, not yet
notified, that of the highest-numbered pipeline, where that lies above q. -/
def yielding (q : Nat) (s : State) : Option Cand :=
  (s.tbl.cache.filter (fun x => x.notified.isNone && x.clk == s.now && decide (q < x.pipe))).foldl
    (fun a x => match a with
      | none => some x
      | some y => if y.pipe < x.pipe then some x else some y) none

/-- Offer a candidate to the cache (R105). -/
def offerCand (c : Cand) (s : State) : State :=
  let put := fun (l : List Cand) (s : State) => { s with tbl := { s.tbl with cache := l } }
  match s.tbl.cache.find? (fun x => x.fid == c.fid && x.mac == c.mac) with
  | some x =>
    if x.kind = c.kind ∧ x.target = c.target then s
    else if x.notified.isNone then put (s.tbl.cache.map (fun y => if y = x then c else y)) s
    else put (s.tbl.cache.filter (· != x) ++ [c]) s
  | none =>
    if s.tbl.cache.length < 16384 then put (s.tbl.cache ++ [c]) s
    else
      match yielding c.pipe s with
      | some x => (put (s.tbl.cache.filter (· != x) ++ [c]) s).count .LEARN_DEFER_CNT
      | none => s.count .LEARN_DEFER_CNT

/-- The location that a MAC entry names: module and port. -/
def entLoc (s : State) (e : Ent) : Option (Nat × Nat) :=
  if e.kind = 0 then some (ownMod s, e.target % 256)
  else if e.kind = 1 then some (bits e.target 14 8, e.target % 256)
  else none

/-- A frame takes part in learning (R104): its source MAC, the FID, and its location (module and port). -/
def learnFrame (q fid mac m p : Nat) (s : State) : State :=
  if mac = 0 || (mac / 2 ^ 40) % 2 = 1 then s
  else
    let kind := if m = ownMod s then 0 else 1
    let target := if kind = 0 then p else 256 * m + p
    let (hit, s) := lookupKey (activeBank s) (.mac fid mac) s
    match hit with
    | none => offerCand ⟨fid, mac, kind, target, none, none, q, s.now⟩ s
    | some (i, e) =>
      if entLoc s e = some (m, p) then setEnt i { e with hit := true, aged := false } s
      else if e.static then s.count .TBL_STATIC_MOVE_CNT q
      else offerCand ⟨fid, mac, kind, target, some (e.kind, e.target), none, q, s.now⟩ (setEnt i { e with hit := true } s)

/-! ### Policing (R174) -/

def polOf (s : State) (i : Nat) : PolSt := SMap.getD s.tm.pols i {}

def setPol (i : Nat) (p : PolSt) (s : State) : State := { s with tm := { s.tm with pols := SMap.put s.tm.pols i {} p } }

/-- POLICER_REFRESH (R174, R175): at each core clock t with t mod 4,096 = ⌊i / 16⌋. -/
def policerRefresh (i : Nat) (s : State) : State :=
  let p := polOf s i
  if s.now % 4096 = i / 16 && p.last ≠ s.now + 1 then
    let en := s.flag .TM_POL_B_EN i
    let burst := s.fld .TM_POL_B_BURST i
    let rate := s.fld .TM_POL_A_RATE_INC i
    let b := if en && !p.en then 8192 * burst else min (p.bucket + rate) (8192 * burst)
    setPol i { p with en := en, rate := rate, burst := burst, bucket := b, last := s.now + 1 } s
  else s

/-- A frame of n bytes meets policer i in pipeline q: whether it passes. A refresh in the same core clock comes first
(R175). -/
def police (i n q : Nat) (s : State) : Bool × State :=
  let s := policerRefresh i s
  let p := polOf s i
  if !p.en then (true, s)
  else if 8192 * n ≤ p.bucket then
    (true, setPol i { p with bucket := p.bucket - 8192 * n, pass := p.pass + 1#64 } s)
  else (false, (setPol i { p with drop := p.drop + 1#64 } s).count .TM_POLICE_DROP_CNT q)

/-! ### The pipeline of R61 -/

/-- A frame inside the ingress side of a leaf pipeline. -/
structure InFrame where
  /-- The port at which it entered, or is taken to have entered. -/
  port : Nat
  data : List Byte
  /-- Transmit ring and unit of an injected frame. -/
  tx : Option (Nat × Nat) := none
  txTs : Bool := false
  /-- Cells that entered the crossbar before the frame was whole, and whether a check of R43 failed. -/
  early : Nat := 0
  failed : Bool := false
  ts : Nat
  /-- Clock of its lookup (R117). -/
  look : Nat := 0
  deriving DecidableEq, Repr

/-- Ledger 3 drop of a frame, and the completion of an injected one (R308, R422). -/
def inDrop (f : InFrame) (s : State) : State :=
  let s := s.led tDrop3 (f.port / 16)
  match f.tx with
  | some (r, id) => unitDone r id 1 0 false s
  | none => s

/-- A host-bound frame meets the checks of R293: whether it is placed. -/
def toHost (q ring : Nat) (d : List Byte) (i : RxInfo) (s : State) : Bool × State :=
  if s.flag .SYS_PLANE_STATE_HEADLESS then (false, s.count .SYS_HEADLESS_HOST_DROP_CNT)
  else
    match idlPass 0 d.length s with
    | (false, s) => (false, s.count .IDL_TRAP_POL_DROP_CNT q)
    | (true, s) => rxPlace ring d { i with pipe := some q } s

/-- A frame goes to the host whole; ledger 3 and the completion of an injected frame follow. -/
def hostFrame (f : InFrame) (ring : Nat) (d : List Byte) (i : RxInfo) (s : State) : State :=
  match toHost (f.port / 16) ring d i s with
  | (false, s) => inDrop f s
  | (true, s) =>
    let s := s.led tOut3 (f.port / 16)
    match f.tx with
    | some (r, id) => unitDone r id 2 0 false s
    | none => s

/-- What a receive completion says of a frame (R325). -/
def hostInfo (f : InFrame) (reason cls hash : Nat) (rule : Option Nat) (s : State) : RxInfo :=
  { reason := reason, ts := f.ts, tsValid := f.tx.isNone, srcMod := ownMod s, srcPort := f.port, cls := cls,
    hash := hash, rule := rule, pipe := some (f.port / 16) }

/-- The frame leaves the receive buffer's pipeline as cells (R120 to R124, R165, R233). `n0` cells are charged. -/
def launch (f : InFrame) (b : Cell) (d : List Byte) (bound n0 : Nat) (fails : Bool) (s : State) : State :=
  let q := f.port / 16
  let n := cellCount d.length
  let org := leafQ f.port b.cls
  let recharge := fun (n : Nat) (s : State) =>
    if f.tx.isSome then s
    else if n0 < n then chargeCells org (n - n0) s
    else if n < n0 then dischargeCells org (n0 - n) s else s
  let early := min f.early (n - 1)
  if b.dstMod = ownMod s && 0 < early then
    let s := recharge (if fails then early else n) s
    let s := feedPut q (earlyCells q b d early bound fails) s
    if fails then (s.count .XBAR_ABORT_CNT q).led tDrop3 q else s
  else if fails then inDrop f (recharge 0 s)
  else
    match sendFrame q b d s with
    | (none, s) => recharge n s
    | (some c, s) => inDrop f (recharge 0 (s.count c.cnt q))

/-- Edits of step 8 (R97): the TTL, the next hop's program, the rule's program; none where a parity check fails. The
FCS is kept where nothing was edited (R121). -/
def ingressEdit (q : Nat) (f : InFrame) (w : Walk) (ip : Option Hdr) (fw : Fwd) (rule : Option Nat) (hash : Nat)
    (s : State) : Option (List Byte) × State :=
  let d0 := body f.data
  let d := if fw.decTtl then (match ip with
    | some h => decTtl d0 h
    | none => d0) else d0
  let one := fun (p : Option Nat) (a : Option EditFrame × State) =>
    match p, a with
    | some e, (some x, s) =>
      let r := applyEdit s e hash x
      match r with
      | .ok x => (some x, editCounts q r s)
      | .bad _ => (none, editCounts q r s)
    | _, a => a
  match one rule (one fw.edit (some (EditFrame.ofWalk d w.hdrs), s)) with
  | (some x, s) => (some (if x.data = d0 then f.data else x.data ++ fcsBytes x.data), s)
  | (none, s) => (none, s)

/-- B of R123: the largest frame of the ingress port plus what the pushes of the ingress edits add. -/
def boundOf (s : State) (f : InFrame) (fw : Fwd) (rule : Option Nat) : Nat :=
  let push := fun (p : Option Nat) => (p.map (pushLen s)).getD 0
  min 9728 (s.fld .LEAF_PORT_CFG_MAX_FRAME f.port + push fw.edit + push rule)

/-- The cell fields and the tag common to a frame's cells. -/
def cellBase (f : InFrame) (m p cls hash : Nat) (s : State) : Cell :=
  { cls := cls, srcMod := ownMod s, srcPort := f.port, dstMod := m, dstPort := p,
    tag := { org := if f.tx.isNone then some (leafQ f.port cls) else none,
             rk := ror32 hash (s.fld .PARSE_HASH_CFG_ROT_RELAY) % 128, hash := some hash,
             port := if f.tx.isNone then some f.port else none, tx := f.tx, txTs := f.txTs, ts := f.ts,
             ready := f.look } }

/-- The forwarding decision of R78: the first that applies, with the index of a rule that traps. -/
def decide' (q : Nat) (rule : Option (Nat × Action)) (tbl : Fwd) (hash : Nat) (s : State) : Fwd × Option Nat × State :=
  let plain := fun (d : Dest) => (⟨d, false, none⟩ : Fwd)
  let trapCount := fun (f : Fwd) (s : State) => match f.dest with
    | .trap _ _ => s.count .TBL_MISS_TRAP_CNT q
    | _ => s
  match rule with
  | none => (tbl, none, trapCount tbl s)
  | some (i, a) =>
    if a.fwd = 1 then (plain (.drop .rule), none, s)
    else if a.fwd = 5 then (plain (.trap (a.target % 64) 0x10), some i, s.count .PARSE_TRAP_CNT q)
    else if a.fwd = 2 then (plain (.port (a.target % 256)), none, s)
    else if a.fwd = 3 then (plain (toDest s (bits a.target 14 8) (a.target % 256)), none, s)
    else if a.fwd = 4 then let (f, s) := resolveEcmp a.target hash false false s; (f, none, trapCount f s)
    else (tbl, none, trapCount tbl s)

/-- Steps 7 and 8 of R61 and the way out, for a frame that the decision does not drop. -/
def onward (f : InFrame) (w : Walk) (ip : Option Hdr) (fw : Fwd) (a : Action) (cls hash : Nat) (rule : Option Nat)
    (s : State) : State :=
  let q := f.port / 16
  let n0 := if f.tx.isNone then ceilDiv f.data.length 240 else 0
  let org := leafQ f.port cls
  let uncharge := fun (s : State) => if n0 = 0 then s else dischargeCells org n0 s
  let s := if n0 = 0 then s else chargeCells org n0 s
  let (pass, s) := if f.failed then (true, s) else match a.policer with
    | some i => police i f.data.length q s
    | none => (true, s)
  let fails := f.failed || !pass
  match fw.dest with
  | .drop _ => inDrop f (uncharge s)
  | .trap ring reason =>
    if fails then inDrop f (uncharge s)
    else
      match ingressEdit q f w ip fw a.edit hash s with
      | (none, s) => inDrop f (uncharge s)
      | (some d, s) =>
        if 9728 < d.length then inDrop f (uncharge (s.count .PARSE_EDIT_OVERSIZE_CNT q))
        else uncharge (hostFrame f ring d (hostInfo f reason cls hash rule s) s)
  | .port _ | .sky _ _ =>
    let (m, p) := match fw.dest with
      | .port p => (ownMod s, p)
      | .sky m p => (m, p)
      | _ => (0, 0)
    if fails && (f.early = 0 || m ≠ ownMod s) then inDrop f (uncharge s)
    else
      match ingressEdit q f w ip fw a.edit hash s with
      | (none, s) => inDrop f (uncharge s)
      | (some d, s) =>
        let tooLong := decide (9728 < d.length)
        let s := s.countIf (tooLong && !fails) .PARSE_EDIT_OVERSIZE_CNT q
        launch f (cellBase f m p cls hash s) (if tooLong then d.take 9728 else d) (boundOf s f fw a.edit) n0
          (fails || tooLong) s

/-- What a stage says of a frame for a copy or a sample. -/
def copyInfo (f : InFrame) (cls hash : Nat) (s : State) : CopyInfo :=
  { egress := false, pipe := f.port / 16, port := f.port, cls := cls, srcMod := ownMod s, srcPort := f.port, ts := f.ts,
    tsValid := f.tx.isNone, capTs := f.ts, hash := hash }

/-- The source of a leaf frame is learned at ingress where the port and the module learn (R104). -/
def learnLeaf (f : InFrame) (w : Walk) (s : State) : State :=
  if f.tx.isNone && !f.failed && s.flag .TBL_PORT_CFG_LEARN f.port && s.flag .TBL_LEARN_CFG_EN then
    let d := body f.data
    learnFrame (f.port / 16) (fidOf d w (s.fld .TBL_PORT_CFG_PVID f.port)) (ofBe (pbytes d 6 6)) (ownMod s) f.port s
  else s

/-- The clock in which the ingress engine of a pipeline starts a lookup (R117): at most four in each core clock, the next
ones in the following clocks. -/
def lookIn (q : Nat) (s : State) : Nat × State :=
  let l := SMap.getD s.leaf.inLooks q {}
  let l : LookSt := if l.clk < s.now then ⟨s.now, 1, false⟩ else if l.n < 4 then { l with n := l.n + 1 } else ⟨l.clk + 1, 1, false⟩
  (l.clk, { s with leaf := { s.leaf with inLooks := SMap.put s.leaf.inLooks q {} l } })

/-- Steps 4 to 9 of R61 for a frame whose walk stands. -/
def classify (f : InFrame) (w : Walk) (s : State) : State :=
  let q := f.port / 16
  let (look, s) := lookIn q s
  let f := { f with look := look }
  let d := body f.data
  let cls0 := defaultClass s f.port d w
  let hash := symHash s d w
  let key := keyOf s d w ⟨f.port, cls0, ownMod s, f.port, hash⟩
  let rule := ruleFind s false key w.profile
  let s := ruleParity q false s
  let (tbl, s) := tableLookup f.port d w hash s
  let s := learnLeaf f w s
  let a := (rule.map (fun r => r.2)).getD {}
  let cls := a.cls.getD cls0
  let (fw, trapRule, s) := decide' q rule tbl hash s
  let s := match fw.dest with
    | .drop c => inDrop f (if f.failed then s else s.count c.cnt q)
    | _ => onward f w (isRouted s f.port d w) fw a cls hash trapRule s
  if f.failed then s
  else
    let s := flowCount a f.data.length s
    ingressCopy a.mirror (if f.tx.isNone then some f.port else none) (copyInfo f cls hash s) f.data s

/-- Steps 2 and 3 of R61: the walk and the malformed action; none where the frame ends there. A frame that failed a check
of R43 after cells of it had entered is looked up, and counts nothing here. -/
def parseStep (f : InFrame) (cls : Option Nat) (s : State) : Option Walk × State :=
  let d := body f.data
  let w := walkIngress s d
  match w.reason with
  | none => (some w, s)
  | some r =>
    let s := s.countIf (!f.failed) .PARSE_MAL_CNT (f.port / 16) r
    let act := malAct s r
    if act = 2 then (some (w.acted s), s)
    else if f.failed || act = 0 then (none, inDrop f s)
    else
      let s := if cls.isNone then learnLeaf f w s else s
      let c := cls.getD (defaultClass s f.port d w)
      (none, hostFrame f (s.fld .PARSE_CFG_MAL_RING) f.data (hostInfo f r c (symHash s d w) none s) s)

/-- A frame handled as received, from step 2 of R61 on. -/
def ingressFrame (f : InFrame) (s : State) : State :=
  match parseStep f none s with
  | (none, s) => s
  | (some w, s) => classify f w s

/-- An injected frame in direct mode (R321). -/
def directFrame (f : InFrame) (m p cls : Nat) (s : State) : State :=
  match parseStep f (some cls) s with
  | (none, s) => s
  | (some w, s) =>
    let hash := symHash s (body f.data) w
    launch f (cellBase f m p cls hash s) f.data 0 0 false s

/-! ### Transmit rings (R308, R320, R321) -/

/-- The pipeline that a transmit ring feeds. -/
def ringPipe (s : State) (r : Nat) : Nat := s.fld .HOST_RING_CFG_PIPE r % 16

/-- The entries of a run that could be read. -/
def runData (es : List Entry) : List (List Byte) := es.filterMap (fun e => e.data)

/-- The STATUS with which the checks of R321 refuse a chain; 0 where it stands. The lowest code decides (R336). -/
def txCheck (s : State) (r : Nat) (es : List (List Byte)) : Nat :=
  let w2 := match es with
    | d :: _ => entWord d 2
    | [] => 0
  let lens := es.map (fun d => bits (entWord d 0) 15 0)
  let flen := bits w2 34 21
  let port := bits w2 42 35
  if lens.sum + 4 ≠ flen || lens.contains 0 || flen < 64 || 9600 < flen
      || s.fld .LEAF_PORT_CFG_MAX_FRAME port < flen then 0x11
  else if 2 ≤ bits w2 62 61 || port / 16 ≠ ringPipe s r || noPort s port then 0x12
  else if es.any (fun d => (dmaTarget s (entWord d 1) (bits (entWord d 0) 15 0) false).isNone) then 0x13
  else 0

/-- The oldest unit of a ring that is fetched and not started, or that waits for room. -/
def oldestFetched (s : State) (r : Nat) : Option (RUnit × List Entry) :=
  (ringOf s r).units.findSome? (fun u => match u.st with
    | .fetched es => some (u, es)
    | _ => none)

def oldestWaiting (s : State) (r : Nat) : Option (RUnit × List Entry) :=
  (ringOf s r).units.findSome? (fun u => match u.st with
    | .waiting es => some (u, es)
    | _ => none)

/-- TX_DESCRIPTOR (R321): the oldest fetched chain of a transmit ring is checked; it is completed as malformed, or waits
for room in its pipeline. -/
def execTxDescriptor (r : Fin 64) (s : State) : Result :=
  .next (match oldestFetched s r.val with
    | none => s
    | some (u, es) =>
      let st := txCheck s r.val (runData es)
      if st = 0 then setUnitSt r.val u.id (.waiting es) s
      else finish r.val u.id { status := st, cookie := u.cookie, first := u.first, nent := u.nent } s)

/-- Read the segments of a chain: the frame without FCS, or the lowest error code. -/
def readSegs : List (List Byte) → Nat → List Byte → State → Nat × List Byte × State
  | [], st, acc, s => (st, acc, s)
  | d :: l, st, acc, s =>
    match dmaRead (entWord d 1) (bits (entWord d 0) 15 0) s with
    | (.ok x, s) => readSegs l st (acc ++ x) s
    | (.error e, s) => readSegs l (if st = 0 then e else min st e) acc s

/-- The transmit ring of pipeline g whose chain is taken next (R308): round robin over rings. -/
def nextTxRing (s : State) (g : Nat) : Option Nat :=
  let last := SMap.getD s.host.txLast g 0
  ((List.range 64).map (fun k => (last + k) % 64)).find? (fun r => ringPipe s r == g && (oldestWaiting s r).isSome)

/-- A chain is taken whole: its data is read, and the frame is handled in its mode. -/
def inject (r : Nat) (u : RUnit) (es : List Entry) (s : State) : State :=
  let ds := runData es
  let w2 := match ds with
    | d :: _ => entWord d 2
    | [] => 0
  let (st, d, s) := readSegs ds 0 [] s
  if st ≠ 0 then finish r u.id { status := st, cookie := u.cookie, first := u.first, nent := u.nent } s
  else
    let s := (setUnitSt r u.id .busy s).led tIn3 (ringPipe s r)
    let f : InFrame := { port := bits w2 42 35, data := d ++ fcsBytes d, tx := some (r, u.id), txTs := w2.testBit 63,
                         ts := s.ts64 }
    if bits w2 62 61 = 1 then directFrame f (bits w2 57 51) (bits w2 50 43) (bits w2 60 58) s else ingressFrame f s

/-- TX_FRAME_INJECT (R308): a checked chain of a pipeline's transmit rings enters its receive buffer once there is
room. A chain whose entries were fetched before an entry to headless with cause 2 or 3 counts as fetched whole (R27): its data
is still read, as long as the link carries DMA, and the frame is sent (DESIGN CHOICE, log 13). -/
def execTxFrameInject (g : Fin 16) (s : State) : Result :=
  .next (
    if !dmaUp s || s.pwr.stopped || noGroup s g.val then s
    else
      match nextTxRing s g.val with
      | none => s
      | some r =>
        match oldestWaiting s r with
        | none => s
        | some (u, es) =>
          let flen := match runData es with
            | d :: _ => bits (entWord d 2) 34 21
            | [] => 0
          if rxFree s g.val < flen then s
          else inject r u es { s with host := { s.host with txLast := SMap.insert s.host.txLast g.val (r + 1) } })

end Sys2Proof.Machine
end

