-- ==== Sys2Proof/Machine/TableWrite.lean ====
section
/-!
DEFINITION. Table-write operations (R73 to R76, R83, R90 to R93, R99, R327 to R330): the write engine takes the oldest
fetched unit of a table-write ring, makes its change on one edge, and completes it.
-/
namespace Sys2Proof.Machine

/-! ### The unit at the head of a table-write ring (R90) -/

/-- The oldest unit of a ring that has been fetched and not started. -/
def ringHead (s : State) (r : Nat) : Option (RUnit × List (List Byte)) :=
  (ringOf s r).units.findSome? (fun u => match u.st with
    | .fetched es => some (u, es.filterMap (fun e => e.data))
    | _ => none)

/-- The header of an operation (R327). -/
def opOf (ds : List (List Byte)) : Nat := bits (entWord (ds.headD []) 0) 55 48
def bankOf (ds : List (List Byte)) : Nat := bits (entWord (ds.headD []) 0) 56 56
def indexOf (ds : List (List Byte)) : Nat := bits (entWord (ds.headD []) 0) 31 0

/-- Payload word w of an operation (R328): word k + 1 of part p, with w = 3p + k. -/
def payW (ds : List (List Byte)) (w : Nat) : Nat := entWord (ds.getD (w / 3) []) (w % 3 + 1)

/-- What an operation leaves: the STATUS of R336, RESULT (R326) and the state. -/
structure OpEnd where
  status : Nat := 0
  result : Nat := 0
  st : State

/-- The command that has the engine commit a rule of table-write ring 128 + q waits. -/
def commits (q : Nat) : Instr → Bool
  | .ruleValid r => r.val == q
  | _ => false

/-- The head unit of ring 128 + r has its turn at the engine: no lower-numbered ring has one that arrived in the same
clock (R90) or, with a commit, one that commits to the same entry in this clock (R76). -/
def hasTurn (s : State) (r : Nat) (u : RUnit) (ds : List (List Byte)) : Bool :=
  (List.range r).all (fun q =>
    match ringHead s (128 + q) with
    | none => true
    | some (v, es) =>
      v.clk != u.clk
        && !(opOf ds == 0x13 && opOf es == 0x13 && indexOf ds == indexOf es && s.awaits (commits q)))

/-- The engine makes the operation at the head of table-write ring 128 + r and completes it, if it is of this kind and
has its turn. -/
def tblOp (r : Fin 32) (op : Nat) (f : List (List Byte) → State → OpEnd) (s : State) : State :=
  match ringHead s (128 + r.val) with
  | none => s
  | some (u, ds) =>
    if opOf ds = op && hasTurn s r.val u ds then
      let e := f ds s
      finish (128 + r.val) u.id
        { status := e.status, cookie := u.cookie, first := u.first, w1 := e.result, nent := u.nent } e.st
    else s

/-- An operation whose arguments keep their ranges (R92, R327); any other changes nothing (DEDUCED, log 27). -/
def argOk (ok : Bool) (f : State → OpEnd) (s : State) : OpEnd := if ok then f s else ⟨0x22, 0, s⟩

/-! ### Rules (R73 to R76) -/

def stagingOf (s : State) (r : Nat) (i : Nat) : Staging :=
  match SMap.get? s.cls.staging r with
  | some g => if g.index = i then g else { index := i }
  | none => { index := i }

/-- Parts staged for another entry are discarded (R75). -/
def stageDiscard (r i : Nat) (s : State) : State :=
  match SMap.get? s.cls.staging r with
  | some g => s.countIf (g.index != i) .PARSE_STAGE_DISCARD_CNT
  | none => s

/-- Stage a part for entry i in the slot of a ring. -/
def stagePart (r i : Nat) (f : Staging → Staging) (s : State) : State :=
  let g := f (stagingOf s r i)
  let s := stageDiscard r i s
  { s with cls := { s.cls with staging := SMap.insert s.cls.staging r g } }

/-- Ten payload words as the 640 bits of KEY or MASK (R328). -/
def keyBits (ds : List (List Byte)) : BitVec 640 :=
  BitVec.ofNat 640 ((List.range 10).foldr (fun w a => payW ds w + 2 ^ 64 * a) 0)

/-- Rule entries of the store (R71). -/
def numRules : Nat := 98304

def ruleKey (r : Fin 32) (s : State) : State :=
  tblOp r 0x10 (fun ds => argOk (decide (indexOf ds < numRules)) (fun s =>
    ⟨0, 0, stagePart r.val (indexOf ds) (fun g =>
      { g with key := some (keyBits ds, bits (payW ds 10) 3 0, (payW ds 10).testBit 4) }) s⟩)) s

def execRuleKey (r : Fin 32) (s : State) : Result := .next (ruleKey r s)

def ruleMask (r : Fin 32) (s : State) : State :=
  tblOp r 0x11 (fun ds => argOk (decide (indexOf ds < numRules)) (fun s =>
    ⟨0, 0, stagePart r.val (indexOf ds) (fun g => { g with mask := some (keyBits ds, bits (payW ds 10) 3 0) }) s⟩)) s

def execRuleMask (r : Fin 32) (s : State) : Result := .next (ruleMask r s)

def ruleAction (r : Fin 32) (s : State) : State :=
  tblOp r 0x12 (fun ds => argOk (decide (indexOf ds < numRules)) (fun s =>
    ⟨0, 0, stagePart r.val (indexOf ds) (fun g =>
      { g with action := some (BitVec.ofNat 128 (payW ds 0 * 2 ^ 64 + payW ds 1)) }) s⟩)) s

def execRuleAction (r : Fin 32) (s : State) : Result := .next (ruleAction r s)

/-- A commit (R73): staged parts replace the stored ones with fresh parity, and the control part is written. -/
def commitRule (old : Rule) (g : Staging) : Rule :=
  let x := match g.key with
    | some (k, p, e) => { old with key := k, profile := p, egress := e, badKey := false }
    | none => old
  let x := match g.mask with
    | some (m, p) => { x with mask := m, pmask := p, badMask := false }
    | none => x
  let x := match g.action with
    | some a => { x with action := a, badAct := false }
    | none => x
  { x with valid := true, badCtl := false }

/-- Discard the staging of a ring for entry i. A VALID 0 discards what the ring itself has staged: the slots of other
rings keep theirs (DESIGN CHOICE, log 27). -/
def unstage (r i : Nat) (s : State) : State :=
  match SMap.get? s.cls.staging r with
  | some g => if g.index = i then { s with cls := { s.cls with staging := SMap.erase s.cls.staging r } } else s
  | none => s

/-- RULE_VALID (R73): a commit on one edge, or an invalidation. -/
def ruleWrite (r i : Nat) (valid : Bool) (s : State) : State :=
  let old := SMap.getD s.cls.rules i {}
  let new := if valid then commitRule old (stagingOf s r i) else { old with valid := false, badCtl := false }
  unstage r i { s with cls := { s.cls with rules := SMap.put s.cls.rules i {} new } }

def ruleValid (r : Fin 32) (s : State) : State :=
  tblOp r 0x13 (fun ds => argOk (decide (indexOf ds < numRules)) (fun s =>
    ⟨0, 0, ruleWrite r.val (indexOf ds) ((payW ds 0).testBit 0) s⟩)) s

def execRuleValid (r : Fin 32) (s : State) : Result := .next (ruleValid r s)

/-! ### Edits and templates (R83, R328) -/

def editWrite (r : Fin 32) (s : State) : State :=
  tblOp r 0x14 (fun ds => argOk (decide (indexOf ds < 16384)) (fun s =>
    let p := payW ds 0 * 2 ^ 192 + payW ds 1 * 2 ^ 128 + payW ds 2 * 2 ^ 64 + payW ds 3
    ⟨0, 0, { s with cls := { s.cls with edits := SMap.insert s.cls.edits (indexOf ds) ⟨BitVec.ofNat 256 p, false⟩ } }⟩)) s

def execEditWrite (r : Fin 32) (s : State) : Result := .next (editWrite r s)

/-- The bytes of a template (R328). -/
def templateBytes (ds : List (List Byte)) : List Byte :=
  (ds.headD []).drop 16 ++ (ds.drop 1).flatMap (fun d => d.drop 8)

def templateWrite (r : Fin 32) (s : State) : State :=
  tblOp r 0x15 (fun ds =>
    let len := bits (payW ds 0) 6 0
    argOk (decide (indexOf ds < 4096) && decide (1 ≤ len) && decide (len ≤ 96)) (fun s =>
      ⟨0, 0, { s with cls := { s.cls with
        tmpls := SMap.insert s.cls.tmpls (indexOf ds) ⟨(templateBytes ds).take len, bits (payW ds 0) 31 8, false⟩ } }⟩)) s

def execTemplateWrite (r : Fin 32) (s : State) : Result := .next (templateWrite r s)

/-! ### Hashed tables (R91 to R93) -/

/-- The entries of the payloads of R329. -/
def macEnt (ds : List (List Byte)) : Ent :=
  { key := .mac (bits (payW ds 0) 59 48) (bits (payW ds 0) 47 0)
    kind := bits (payW ds 1) 63 62, target := bits (payW ds 1) 61 42, static := (payW ds 1).testBit 41 }

/-- The address of a host or LPM operation. -/
def payAddr (ds : List (List Byte)) : Nat :=
  if (payW ds 2).testBit 53 then payW ds 0 * 2 ^ 64 + payW ds 1 else bits (payW ds 1) 31 0

def hostEnt (ds : List (List Byte)) : Ent :=
  { key := .host (bits (payW ds 2) 63 54) ((payW ds 2).testBit 53) (payAddr ds)
    target := bits (payW ds 2) 51 32, ecmp := (payW ds 2).testBit 52, ageEn := (payW ds 2).testBit 31 }

/-- The prefix length of an LPM operation, and whether its family allows it (R329). -/
def payLen (ds : List (List Byte)) : Nat := bits (payW ds 2) 30 23
def lenOk (ds : List (List Byte)) : Bool := decide (payLen ds ≤ if (payW ds 2).testBit 53 then 128 else 32)

/-- The engine clears the address bits beyond LEN (R329). -/
def lpmEnt (ds : List (List Byte)) : Ent :=
  let v6 := (payW ds 2).testBit 53
  { key := .lpm (bits (payW ds 2) 63 54) v6 (maskAddr v6 (payAddr ds) (payLen ds)) (payLen ds)
    target := bits (payW ds 2) 51 32, ecmp := (payW ds 2).testBit 52 }

/-- An insert into the named bank (R91). -/
def tblInsert (bank : Nat) (e : Ent) (s : State) : OpEnd :=
  match regionOf s bank e.key with
  | none => ⟨0x22, 0, s⟩
  | some rg =>
    let y := insertEnt rg s.tbl.slots e
    let own := keySlots rg e.key
    let s := slotParity (own ++ (y.1.flatMap (bucketSlots rg)).filter (fun i => !own.contains i)).eraseDups s
    match y.2 with
    | none => ⟨0x20, 0, s⟩
    | some (m, slot, moves) =>
      let s := { s with tbl := { s.tbl with slots := m } }
      ⟨0, slot + moves * 2 ^ 32, (s.count .TBL_INSERT_CNT).count .TBL_MOVE_CNT 0 0 moves⟩

/-- A delete from the named bank (R92). -/
def tblDelete (bank : Nat) (k : TKey) (s : State) : OpEnd :=
  match regionOf s bank k with
  | none => ⟨0x22, 0, s⟩
  | some rg =>
    let s := slotParity (keySlots rg k) s
    match findSlot s.tbl.slots (keySlots rg k) k with
    | none => ⟨0x21, 0, s⟩
    | some (i, _) =>
      ⟨0, 0, ({ s with tbl := { s.tbl with slots := clearEnt s.tbl.slots i } }).count .TBL_DELETE_CNT⟩

/-- The candidate of a MAC key becomes FREE (R105). -/
def freeCand (ds : List (List Byte)) (s : State) : State :=
  let fid := bits (payW ds 0) 59 48
  let mac := bits (payW ds 0) 47 0
  { s with tbl := { s.tbl with cache := s.tbl.cache.filter (fun c => !(c.fid == fid && c.mac == mac)) } }

/-- An operation on a MAC key frees its candidate as it completes (R105). -/
def freeing (ds : List (List Byte)) (e : OpEnd) : OpEnd := { e with st := freeCand ds e.st }

def macInsert (r : Fin 32) (s : State) : State :=
  tblOp r 0x20 (fun ds s => freeing ds (tblInsert (bankOf ds) (macEnt ds) s)) s
def macDelete (r : Fin 32) (s : State) : State :=
  tblOp r 0x21 (fun ds s => freeing ds (tblDelete (bankOf ds) (macEnt ds).key s)) s
def hostInsert (r : Fin 32) (s : State) : State :=
  tblOp r 0x22 (fun ds s => tblInsert (bankOf ds) (hostEnt ds) s) s
def hostDelete (r : Fin 32) (s : State) : State :=
  tblOp r 0x23 (fun ds s => tblDelete (bankOf ds) (hostEnt ds).key s) s
def lpmInsert (r : Fin 32) (s : State) : State :=
  tblOp r 0x24 (fun ds => argOk (lenOk ds) (tblInsert (bankOf ds) (lpmEnt ds))) s
def lpmDelete (r : Fin 32) (s : State) : State :=
  tblOp r 0x25 (fun ds => argOk (lenOk ds) (tblDelete (bankOf ds) (lpmEnt ds).key)) s

def execMacInsert (r : Fin 32) (s : State) : Result := .next (macInsert r s)
def execMacDelete (r : Fin 32) (s : State) : Result := .next (macDelete r s)
def execHostInsert (r : Fin 32) (s : State) : Result := .next (hostInsert r s)
def execHostDelete (r : Fin 32) (s : State) : Result := .next (hostDelete r s)
def execLpmInsert (r : Fin 32) (s : State) : Result := .next (lpmInsert r s)
def execLpmDelete (r : Fin 32) (s : State) : Result := .next (lpmDelete r s)

/-! ### Tables by index (R99, R329) -/

/-- Listed lengths are strictly descending. -/
def descending : List Nat → Bool
  | a :: b :: l => decide (b < a) && descending (b :: l)
  | _ => true

/-- The filter of a FILTER_WRITE payload. -/
def filterOf (w : Nat) : Filter := ⟨bits w 50 48, (List.range 6).map (fun i => bits w (47 - 8 * i) (40 - 8 * i)), false⟩

/-- The check of R99. -/
def filterOk (v6 : Bool) (f : Filter) : Bool :=
  f.count != 7 && descending (f.lens.take f.count)
    && (f.lens.take f.count).all (fun n => decide (n ≤ if v6 then 128 else 32))

def filterWrite (r : Fin 32) (s : State) : State :=
  tblOp r 0x26 (fun ds =>
    let v6 := (payW ds 0).testBit 63
    let f := filterOf (payW ds 0)
    argOk (decide (indexOf ds < if v6 then 1048576 else 65536)) (fun s =>
      if filterOk v6 f then
        ⟨0, 0, { s with tbl := { s.tbl with
          filters := SMap.insert s.tbl.filters
            (1114112 * bankOf ds + (if v6 then 65536 + indexOf ds else indexOf ds)) f } }⟩
      else ⟨0x23, 0, s⟩)) s

def execFilterWrite (r : Fin 32) (s : State) : Result := .next (filterWrite r s)

def nhWrite (r : Fin 32) (s : State) : State :=
  tblOp r 0x28 (fun ds =>
    let w := payW ds 0
    argOk (decide (indexOf ds < 1048576) && decide (bits w 62 60 ≤ 4)) (fun s =>
      ⟨0, 0, { s with tbl := { s.tbl with
        nhs := SMap.insert s.tbl.nhs (indexOf ds)
          ⟨w.testBit 63, bits w 62 60, bits w 59 40, w.testBit 39, w.testBit 38, bits w 37 24, false⟩ } }⟩)) s

def execNhWrite (r : Fin 32) (s : State) : Result := .next (nhWrite r s)

def ecmpWrite (r : Fin 32) (s : State) : State :=
  tblOp r 0x29 (fun ds =>
    let w := payW ds 0
    argOk (decide (indexOf ds < 65536) && decide (bits w 42 32 ≤ 1024)
        && decide (bits w 63 44 + bits w 42 32 ≤ 1048576)) (fun s =>
      ⟨0, 0, { s with tbl := { s.tbl with
        groups := SMap.insert s.tbl.groups (indexOf ds) ⟨bits w 63 44, bits w 42 32, false⟩ } }⟩)) s

def execEcmpWrite (r : Fin 32) (s : State) : Result := .next (ecmpWrite r s)

def memberWrite (r : Fin 32) (s : State) : State :=
  tblOp r 0x2A (fun ds => argOk (decide (indexOf ds < 1048576)) (fun s =>
    ⟨0, 0, { s with tbl := { s.tbl with
      members := SMap.insert s.tbl.members (indexOf ds) ⟨bits (payW ds 0) 63 44, false⟩ } }⟩)) s

def execMemberWrite (r : Fin 32) (s : State) : Result := .next (memberWrite r s)

def lagWrite (r : Fin 32) (s : State) : State :=
  tblOp r 0x2B (fun ds =>
    let w := payW ds 0
    argOk (decide (indexOf ds < 16384)) (fun s =>
      ⟨0, 0, { s with tbl := { s.tbl with
        lags := SMap.insert s.tbl.lags (indexOf ds) ⟨w.testBit 63, bits w 62 56, bits w 55 48, false⟩ } }⟩)) s

def execLagWrite (r : Fin 32) (s : State) : Result := .next (lagWrite r s)

/-- LEARN_ACK (R105): always OK (R92). -/
def learnAck (r : Fin 32) (s : State) : State := tblOp r 0x2C (fun ds s => ⟨0, 0, freeCand ds s⟩) s

def execLearnAck (r : Fin 32) (s : State) : Result := .next (learnAck r s)

/-! ### Dumps (R330) -/

/-- The arguments of a dump keep their ranges. -/
def dumpOk (ds : List (List Byte)) : Bool :=
  let space := bits (payW ds 0) 63 62
  let n := bits (payW ds 0) 23 0
  decide (space < 2) && n != 0 && decide (indexOf ds + n ≤ if space = 0 then 268435456 else 65536)

/-- DUMP (R330): the dump takes its place at the engine; the ring's later entries go on. -/
def dump (r : Fin 32) (s : State) : State :=
  match ringHead s (128 + r.val) with
  | none => s
  | some (u, ds) =>
    if opOf ds = 0x30 && hasTurn s r.val u ds then
      if dumpOk ds then
        let w := payW ds 0
        let d : DumpSt := ⟨128 + r.val, u.id, bits w 63 62, w.testBit 61, u.cookie, indexOf ds, bits w 23 0, 0⟩
        let s := setUnitSt (128 + r.val) u.id .busy s
        match s.host.dump with
        | none => { s with host := { s.host with dump := some d } }
        | some _ => { s with host := { s.host with dumpq := s.host.dumpq ++ [d] } }
      else
        finish (128 + r.val) u.id { status := 0x22, cookie := u.cookie, first := u.first, nent := u.nent } s
    else s

def execDump (r : Fin 32) (s : State) : Result := .next (dump r s)

/-- A record that waits for its ring (R110, R291, R330): whether it was taken. While headless it goes to the backlog
(R28); until the backlog has drained it waits behind it (R29). -/
def noteWait (n : NRec) (s : State) : Bool × State :=
  if s.flag .SYS_PLANE_STATE_HEADLESS then (true, toBacklog [n] s)
  else if !s.sys.backlog.isEmpty || !ringTakes s (noteRing s n.kind) 1 then (false, s)
  else
    notePass [n] s

/-- The two words of a counter (R330). -/
def dumpRead (s : State) (space i : Nat) : DWord × DWord :=
  if space = 0 then SMap.getD s.cls.flows i (0#64, 0#64) else let p := polOf s i; (p.pass, p.drop)

/-- Clear a counter. -/
def dumpClear (space i : Nat) (s : State) : State :=
  if space = 0 then { s with cls := { s.cls with flows := SMap.erase s.cls.flows i } }
  else setPol i { polOf s i with pass := 0#64, drop := 0#64 } s

/-- The record of the next counter of a dump (R332). -/
def dumpRec (s : State) (d : DumpSt) : NRec :=
  let v := dumpRead s d.space d.next
  ⟨.dump, d.space, b2n (d.left = 1) + 2 * b2n d.clear, d.cookie * 2 ^ 48 + d.next % 2 ^ 28, v.1.toNat, v.2.toNat⟩

/-- DUMP_RECORD (R330): one counter is read, and cleared, as its record is taken; the dump completes after its last
record. -/
def dumpRecord (s : State) : State :=
  match s.host.dump with
  | none => s
  | some d =>
    match noteWait (dumpRec s d) s with
    | (false, s) => s
    | (true, s) =>
      let s := if d.clear then dumpClear d.space d.next s else s
      if d.left ≤ 1 then
        let s := { s with host := { s.host with dump := s.host.dumpq.head?, dumpq := s.host.dumpq.drop 1 } }
        match (ringOf s d.ring).units.find? (fun u => u.id == d.unit) with
        | some u =>
          finish d.ring d.unit
            { cookie := d.cookie, first := u.first, nent := u.nent, w1 := d.written + 1, status := 0 } s
        | none => s
      else
        { s with host := { s.host with
          dump := some { d with next := d.next + 1, left := d.left - 1, written := d.written + 1 } } }

def execDumpRecord (s : State) : Result := .next (dumpRecord s)

end Sys2Proof.Machine
end

