-- ==== Sys2Proof/Machine/Learn.lean ====
section
/-!
DEFINITION. Learning records and the hold timer (R105, R106), the ageing sweep (R108 to R110), and the clearing of table
slots (R113).
-/
namespace Sys2Proof.Machine

/-- A location as W2 of MAC_INSERT gives it (R332). -/
def locWord (kind target : Nat) : Nat := kind * 2 ^ 62 + target % 2 ^ 20 * 2 ^ 42

/-- The learning record of a candidate (R332). -/
def learnRec (c : Cand) : NRec :=
  ⟨.learn, b2n c.moved.isSome, 0, c.fid * 2 ^ 48 + c.mac, locWord c.kind c.target,
    match c.moved with
    | some (k, t) => locWord k t
    | none => 0⟩

/-- LEARN_NOTIFY (R105, R106): the record of the oldest PENDING candidate meets its ring. -/
def learnNotify (s : State) : State :=
  if s.flag .SYS_PLANE_STATE_HEADLESS then s
  else
    match s.tbl.cache.find? (fun c => c.notified.isNone) with
    | none => s
    | some c =>
      match noteWait (learnRec c) s with
      | (false, s) => s
      | (true, s) =>
        let till := s.now + max 1 (s.fld .TBL_LEARN_CFG_HOLD_MS) * clkMs
        let l := s.tbl.cache.map (fun x => if x = c then { x with notified := some till } else x)
        ({ s with tbl := { s.tbl with cache := l } }).count .TBL_LEARN_NOTIFY_CNT

def execLearnNotify (s : State) : Result := .next (learnNotify s)

/-- The hold timer of a candidate has ended. -/
def Cand.expired (now : Nat) (c : Cand) : Bool :=
  match c.notified with
  | some t => decide (t ≤ now)
  | none => false

/-- LEARN_HOLD_EXPIRY (R105). -/
def learnHoldExpiry (s : State) : State :=
  let l := s.tbl.cache
  ({ s with tbl := { s.tbl with cache := l.filter (fun (c : Cand) => !c.expired s.now) } }).count .TBL_LEARN_EXPIRE_CNT 0 0
    (l.filter (fun (c : Cand) => c.expired s.now)).length

def execLearnHoldExpiry (s : State) : Result := .next (learnHoldExpiry s)

/-! ### The ageing sweep (R108 to R110) -/

/-- First slot and number of slots of the MAC (0) or host (1) region of a bank. -/
def regionSlots (s : State) (bank t : Nat) : Nat × Nat :=
  (4194304 * t + 4 * s.fld .TBL_LAYOUT_GEOM_BASE bank t, 4 * 2 ^ s.fld .TBL_LAYOUT_GEOM_BUCKETS_LOG2 bank t)

/-- The slot at or after p that the sweep reads next in this pass (DEDUCED, log 54). -/
def sweepAt (s : State) (p : Nat) : Option Nat :=
  let m := regionSlots s (activeBank s) 0
  let h := regionSlots s (activeBank s) 1
  if p < m.1 then some m.1
  else if p < m.1 + m.2 then some p
  else if p < h.1 then some h.1
  else if p < h.1 + h.2 then some p
  else none

/-- The sweep looks at this entry (R108). -/
def ages (e : Ent) : Bool :=
  match e.key with
  | .mac _ _ => !e.static
  | .host _ _ _ => e.ageEn
  | .lpm _ _ _ _ => false

/-- The age record of an entry (R332). -/
def ageRec (e : Ent) (removed : Bool) : NRec :=
  match e.key with
  | .mac fid a =>
    ⟨.age, 0, b2n removed, fid * 2 ^ 48 + a, locWord e.kind e.target + b2n e.static * 2 ^ 41, 0⟩
  | .host vrf v6 a =>
    ⟨.age, 1, b2n removed, (if v6 then a / 2 ^ 64 else 0), a % 2 ^ 64,
      vrf * 2 ^ 54 + b2n v6 * 2 ^ 53 + b2n e.ecmp * 2 ^ 52 + e.target * 2 ^ 32 + b2n e.ageEn * 2 ^ 31⟩
  | .lpm _ _ _ _ => ⟨.age, 0, 0, 0, 0, 0⟩

/-- What the sweep does with an entry in slot i (R108, R110): whether it goes on. An entry that it marks AGED in place of a
removal, while headless in MODE 0, counts in TBL_AGE_NOTICE_CNT (DESIGN CHOICE, log 53). -/
def ageEntry (i : Nat) (e : Ent) (s : State) : Bool × State :=
  if e.hit then (true, setEnt i { e with hit := false } s)
  else
    let headless := s.flag .SYS_PLANE_STATE_HEADLESS
    let mode1 := s.flag .TBL_AGE_CFG_MODE
    if mode1 || headless then
      if e.aged then (true, s)
      else
        match noteWait (ageRec e false) s with
        | (false, s) => (false, s)
        | (true, s) => (true, (setEnt i { e with aged := true } s).count .TBL_AGE_NOTICE_CNT)
    else
      match noteWait (ageRec e true) s with
      | (false, s) => (false, s)
      | (true, s) =>
        (true, ({ s with tbl := { s.tbl with slots := clearEnt s.tbl.slots i } }).count .TBL_AGE_REMOVE_CNT)

/-- Time that the sweep has stood halted counts in whole microseconds (R110); a sweep that PERIOD_S 0 ends is halted no
longer. -/
def stallCount (s : State) : State :=
  match s.tbl.stallAt with
  | none => s
  | some t =>
    if s.fld .TBL_AGE_CFG_PERIOD_S = 0 then { s with tbl := { s.tbl with stallAt := none } } else
    let us := (s.now - t) / clkUs
    ({ s with tbl := { s.tbl with stallAt := some (t + us * clkUs) } }).count .TBL_AGE_STALL_CNT 0 0 us

/-- The sweep goes on from slot i, or ends its pass. -/
def sweepOn (i : Nat) (s : State) : State :=
  let s := { s with tbl := { s.tbl with stallAt := none } }
  match sweepAt s (i + 1) with
  | some j => (s.setFld .TBL_AGE_STATUS_ACTIVE 1).setFld .TBL_AGE_STATUS_POSITION j
  | none => (s.setFld .TBL_AGE_STATUS_ACTIVE 0).setFld .TBL_AGE_STATUS_POSITION 0

/-- AGE_SWEEP_VISIT (R108): the sweep reads the slot it is at; a visit while no pass runs begins one
(DESIGN CHOICE, log 24) (DEDUCED, log 53). -/
def ageSweepVisit (s : State) : State :=
  if s.fld .TBL_AGE_CFG_PERIOD_S = 0 then
    ((stallCount s).setFld .TBL_AGE_STATUS_ACTIVE 0).setFld .TBL_AGE_STATUS_POSITION 0
  else
    let p := if s.flag .TBL_AGE_STATUS_ACTIVE then s.fld .TBL_AGE_STATUS_POSITION else 0
    match sweepAt s p with
    | none => sweepOn p s
    | some i =>
      let s := slotParity [i] (stallCount s)
      match entAt s.tbl.slots i with
      | some e =>
        if ages e then
          match ageEntry i e s with
          | (true, s) => sweepOn i s
          | (false, s) =>
            let s := (s.setFld .TBL_AGE_STATUS_ACTIVE 1).setFld .TBL_AGE_STATUS_POSITION i
            if s.tbl.stallAt.isNone then { s with tbl := { s.tbl with stallAt := some s.now } } else s
        else sweepOn i s
      | none => sweepOn i s

def execAgeSweepVisit (s : State) : Result := .next (ageSweepVisit s)

/-! ### Clearing slots (R113) -/

/-- Two ranges of slots share a slot. -/
def meets (a n b m : Nat) : Bool := n != 0 && decide (a < b + m) && decide (b < a + n)

/-- The module refuses to clear n slots from slot a (R113). -/
def clearRefused (s : State) (a n : Nat) : Bool :=
  let bank := activeBank s
  (n != 0 && decide (11599872 < a + n))
    || (List.range 2).any (fun t => let g := regionSlots s bank t; meets a n g.1 g.2)
    || (List.range 162).any (fun i => s.flag .TBL_LPM_REGION_EN bank i
        && meets a n (8388608 + 4 * s.fld .TBL_LPM_REGION_BASE bank i) (4 * 2 ^ s.fld .TBL_LPM_REGION_BUCKETS_LOG2 bank i))
    || meets a n (10485760 + 557056 * bank) 557056

/-- A write to TBL_CLEAR_CTRL: START and the W1C bit ERR. -/
def clearCtrl (rw : RegWrite) (s : State) : State :=
  let s := if Fld.TBL_CLEAR_CTRL_ERR.get rw.val = 1 then s.setFld .TBL_CLEAR_CTRL_ERR 0 else s
  if Fld.TBL_CLEAR_CTRL_START.get rw.val = 1 then
    if s.flag .TBL_CLEAR_CTRL_BUSY then logWrite 4 rw s
    else
      let a := s.fld .TBL_CLEAR_BASE_SLOT
      let n := s.fld .TBL_CLEAR_COUNT_COUNT
      if clearRefused s a n then s.setFld .TBL_CLEAR_CTRL_ERR 1
      else ({ s with tbl := { s.tbl with clearing := some (a, n) } }).setFld .TBL_CLEAR_CTRL_BUSY 1
  else s

/-- TBL_CLEAR_START (R113). -/
def execTblClearStart (a : Agent) (s : State) : Result :=
  let rw := write32 a .TBL_CLEAR_CTRL 0x80000000
  .next (far rw (clearCtrl rw) s)

/-- The slot that holds a length filter (R87). -/
def filterSlot (k : Nat) : Nat := 10485760 + 557056 * (k / 1114112) + k % 1114112 / 2

/-- TBL_CLEAR_DONE (R113) (DEDUCED, log 18). -/
def clearDone (s : State) : State :=
  match s.tbl.clearing with
  | none => s
  | some (a, n) =>
    let out := fun (i : Nat) => !(decide (a ≤ i) && decide (i < a + n))
    ({ s with tbl := { s.tbl with
      clearing := none, slots := SMap.keep s.tbl.slots out,
      filters := SMap.keep s.tbl.filters (fun k => out (filterSlot k)) } }).setFld .TBL_CLEAR_CTRL_BUSY 0

def execTblClearDone (s : State) : Result := .next (clearDone s)

end Sys2Proof.Machine
end

