-- ==== Sys2Proof/Machine/Receive.lean ====
section
/-!
DEFINITION. The receiver of a leaf port (R39, R43, R45, R118), the ways in which a port loses its link (R35, R38, R39, R58), doze
and wake (R55 to R57), and the pause watchdog (R49, R50).
-/
namespace Sys2Proof.Machine

/-! ### The receiver (R43, R39, R118) -/

/-- Why a leaf receiver refuses a frame (R43). -/
inductive RxBad where
  | codeErr | runt | oversize | fcsErr | trunc
  deriving DecidableEq, Repr

/-- The counter of a refused frame. -/
def RxBad.cnt : RxBad → Cnt
  | .codeErr => .LEAF_RX_CODE_ERR_CNT
  | .runt => .LEAF_RX_RUNT_CNT
  | .oversize => .LEAF_RX_OVERSIZE_CNT
  | .fcsErr => .LEAF_RX_FCS_ERR_CNT
  | .trunc => .LEAF_RX_TRUNC_CNT

/-- The counter of R43 that a frame fails, if any. -/
def macCheck (s : State) (p : Nat) (f : RxFrame) : Option RxBad :=
  if f.codeErr then some .codeErr
  else if f.data.length < 64 then some .runt
  else if s.fld .LEAF_PORT_CFG_MAX_FRAME p < f.data.length then some .oversize
  else if fcsBytes (body f.data) ≠ f.data.drop (f.data.length - 4) then some .fcsErr
  else none

/-- The counter of a frame that link loss cuts (R43) (DEDUCED, log 26). -/
def cutCheck (s : State) (p : Nat) (f : RxFrame) : RxBad :=
  if f.codeErr then .codeErr
  else if s.fld .LEAF_PORT_CFG_MAX_FRAME p < f.data.length then .oversize
  else .trunc

/-- Cells of a frame that entered the crossbar before it was whole: the lookup before them needs 256 bytes (R122). -/
def rxEntered (f : RxFrame) : Nat := if f.data.length ≤ 256 then 0 else f.early

/-- A frame of which the receiver took bytes is not a good frame: it counts, and cells that have entered the crossbar are
followed by an ABORT cell (R43, R122). -/
def badFrame (p : Nat) (c : RxBad) (f : RxFrame) (s : State) : State :=
  let s := s.count c.cnt p
  let i : InFrame := { port := p, data := f.data.take (s.fld .LEAF_PORT_CFG_MAX_FRAME p), early := rxEntered f,
                       failed := true, ts := s.ts64 }
  if rxEntered f = 0 then inDrop i s else ingressFrame i s

/-- A good frame is MAC Control, or counts and is handled (R45, R61, R347). -/
def goodFrame (p : Nat) (f : RxFrame) (s : State) : State :=
  let s := (s.count .LEAF_RX_FRAME_CNT p).count .LEAF_RX_BYTE_CNT p 0 f.data.length
  let i : InFrame := { port := p, data := f.data, early := rxEntered f, ts := s.ts64 }
  let d := body f.data
  let w := (walkIngress s d).acted s
  let s := sampleFrame (copyInfo i (defaultClass s p d w) (symHash s d w) s) f.data s
  ingressFrame i s

/-- No frame is being received on a port any more. -/
def clearRx (p : Nat) (s : State) : State := setPort p { portOf s p with rx := none } s

/-- The receive buffer has no room for the largest frame of the port (R118). -/
def rxFull (s : State) (p : Nat) : Bool := decide (rxFree s (p / 16) < s.fld .LEAF_PORT_CFG_MAX_FRAME p)

/-- A frame that the receive buffer refuses (R118). -/
def overrun (p : Nat) (s : State) : State := (((s.led tIn3 (p / 16)).count .XBAR_RX_OVERRUN_CNT (p / 16))).led tDrop3 (p / 16)

/-- A frame begins or goes on: the receive buffer takes or refuses it at its first byte (R118). -/
def rxMore (p : Nat) (f : RxFrame) (s : State) : State :=
  match (portOf s p).rx with
  | some (_, no) => setPort p { portOf s p with rx := some (f, no) } s
  | none =>
    let no := rxFull s p && !isMacControl f.data
    let s := if no then overrun p s else s
    setPort p { portOf s p with rx := some (f, no) } s

/-- A frame that the receive buffer takes, or has taken, enters the ledger and is handled; `no` where it was refused. -/
def rxTaken (p : Nat) (began : Option (RxFrame × Bool)) (op : State → State) (s : State) : State :=
  match began with
  | some (_, true) => s
  | some (_, false) => op (s.led tIn3 (p / 16))
  | none => if rxFull s p then overrun p s else op (s.led tIn3 (p / 16))

/-- A whole frame has arrived on a leaf port, or its bytes so far (DEDUCED, log 25). -/
def receive (p : Nat) (f : RxFrame) (s : State) : State :=
  if !portUp s p then s
  else if f.more then rxMore p f s
  else
    let began := (portOf s p).rx
    let s := clearRx p s
    if isMacControl f.data && (macCheck s p f).isNone then macControl p f.data s
    else
      rxTaken p began (fun s => match macCheck s p f with
        | some c => badFrame p c f s
        | none => goodFrame p f s) s

/-- The link is lost while a frame is being received: it is cut (R39, R43). `cur` is what the loss itself brings of it. -/
def cutRx (p : Nat) (cur : Option RxFrame) (s : State) : State :=
  let began := (portOf s p).rx
  let s := clearRx p s
  match cur.or (began.map (fun e => e.1)) with
  | none => s
  | some f => if portUp s p then rxTaken p began (badFrame p (cutCheck s p f) f) s else s

/-! ### Link loss -/

/-- The lane counters of a port's FEC, and link down at more than 64 uncorrectable codewords within 1 ms (R39), which cuts the
frame `cur` that is being received. The limit holds at 200 Gb/s too (DESIGN CHOICE, log 23; DESIGN CHOICE, log 55). -/
def fecReport (p : Nat) (cur : Option RxFrame) (l : List FecReport) (s : State) : State :=
  let s := l.foldl (fun s r =>
    ((s.count .LEAF_FEC_CORR_SYM_CNT r.lane.val 0 r.corrSym).count .LEAF_FEC_CORR_CW_CNT r.lane.val 0 r.corrCw).count
      .LEAF_FEC_UNCORR_CW_CNT r.lane.val 0 r.uncorr) s
  let n := (l.map (fun r => if lanePort s r.lane.val = p then r.uncorr else 0)).sum
  let x := portOf s p
  let u := (x.uncorr.filter (fun t => decide (s.now < t + clkMs))) ++ List.replicate (min n 65) s.now
  let s := setPort p { x with uncorr := u } s
  if 64 < u.length && portUp s p then relock p (linkDown p (cutRx p cur s)) else s

/-- LEAF_RX_FRAME (R61). -/
def execLeafRxFrame (p : Fin 256) (f : RxFrame) (fec : List FecReport) (s : State) : Result :=
  .next (admitting (fun s => receive p.val f (fecReport p.val (some f) fec s)) s)

/-- PAUSE_FRAME_RX (R45): a received MAC Control frame. -/
def execPauseFrameRx (p : Fin 256) (f : RxFrame) (s : State) : Result :=
  .next (admitting (fun s => if isMacControl f.data then receive p.val f s else s) s)

/-- A lane loses its alignment. -/
def dropLane (n : Nat) (s : State) : State :=
  let p := lanePort s n
  let s := { s with leaf := { s.leaf with lanes := SMap.erase s.leaf.lanes n } }
  if portUp s p then linkDown p (cutRx p none s) else setPort p { portOf s p with ready := none } s

/-- Four consecutive periods have passed in which no marker block was found (R38). -/
def markersLost (s : State) (p : Nat) (found : List Marker) : Bool :=
  decide (4 ≤ found.length) && (found.drop (found.length - 4)).all (fun m => !markerOk s p m)

/-- LANE_ALIGN_LOSS (R38, R39): counted, and a port that is link up goes down. -/
def execLaneAlignLoss (l : LaneLoss) (s : State) : Result :=
  .next (if (laneOf s l.lane.val).isSome && markersLost s (lanePort s l.lane.val) l.found then
    dropLane l.lane.val (s.count .LEAF_AM_LOSS_CNT l.lane.val) else s)

/-- LINK_DOWN (R39, R58): the port loses alignment or signal; a frame that was being received is cut (R43). -/
def execLinkDown (p : Fin 256) (f : Option RxFrame) (s : State) : Result :=
  .next (if portUp s p.val then dropLanes p.val (linkDown p.val (cutRx p.val f s)) else s)

/-- A restart of a group (R33, R35): refused, or every port goes down, its queues flush, and the new rate and mode are
applied. -/
def groupRestart (g : Nat) (s : State) : State :=
  let rate := s.fld .LEAF_GROUP_CFG_LANE_RATE g
  let mode := s.fld .LEAF_GROUP_CFG_MODE g
  if rate = 1 && mode = 3 then s.setFld .LEAF_GROUP_STATUS_CFG_ERR 1 g
  else
    let s := (range' (16 * g) 16).foldl (fun s p =>
      let s := if portUp s p then s.count .LEAF_LINK_DOWN_CNT p else s
      let s := clearPause p (flushPort p (abandonTx p (loseLink p (cutRx p none s))))
      setPort p { portOf s p with holdTill := none, wakeAt := none, trig := [], pauseOut := [], pausedAt := [] } s) s
    let s := { s with leaf := { s.leaf with lanes := SMap.keep s.leaf.lanes (fun n => n / 16 != g) } }
    let s := ((s.setFld .LEAF_GROUP_STATUS_MODE_ACTIVE mode g).setFld .LEAF_GROUP_STATUS_RATE_ACTIVE rate g).setFld
      .LEAF_GROUP_STATUS_RESTARTING 1 g
    (range' (16 * g) 16).foldl (fun s p =>
      startLine p (s.setReg .LEAF_PORT_STATUS
        (BitVec.ofNat 32 (64 * b2n (p % 16 % 2 ^ mode == 0) + 2 * s.fld .LEAF_PORT_STATUS_DOZE_REFUSED p)) p)) s

def execLeafGroupRestart (a : Agent) (g : Fin 16) (s : State) : Result :=
  .next (far (write32 a .LEAF_GROUP_CTRL 1 g.val) (groupRestart g.val) s)

/-! ### Doze (R55 to R57) -/

/-- A cell for the port reaches its frame output in this core clock. -/
def enqueueWaits (s : State) (p : Nat) : Bool :=
  s.awaits (fun c => match c with
    | .xbarCellArrive pl o _ _ =>
      o.val == p / 16
        && (SMap.getD s.xbar.cross (32 * pl.val + o.val) []).head?.any (fun x => x.queue / 8 == p % 16 && x.at_ / 4 < s.now / 4)
    | _ => false)

/-- A doze command (R55): accepted only while the port is idle and no enqueue to it arrives. A flap hold that runs ends
(DESIGN CHOICE, log 23). -/
def doze (p : Nat) (s : State) : State :=
  let idle := (portOf s p).tx.isNone && (List.range 8).all (fun c => (queueOf s (leafQ p c)).units.isEmpty)
    && !enqueueWaits s p
  if s.flag .LEAF_PORT_STATUS_DOZING p then s
  else if idle then
    let s := dropLanes p (endPause p (loseLink p (cutRx p none s)))
    let s := setPort p { portOf s p with holdTill := none, wakeAt := none } s
    (((s.setFld .LEAF_PORT_STATUS_FROZEN 0 p).setFld .LEAF_PORT_STATUS_WAKING 0 p).setFld
      .LEAF_PORT_STATUS_DOZING 1 p)
  else s.setFld .LEAF_PORT_STATUS_DOZE_REFUSED 1 p

/-- The port lights every lane and trains as a fresh link (R57). -/
def wakeUp (p : Nat) (s : State) : State :=
  let s := startLine p (setPort p { portOf s p with wakeAt := none } s)
  (s.setFld .LEAF_PORT_STATUS_DOZING 0 p).setFld .LEAF_PORT_STATUS_WAKING 1 p

/-- A wake command (R57): the port sends its wake pattern for 1 ms; it counts as dozing until the pattern has been sent
(DESIGN CHOICE, log 23). -/
def wake (p : Nat) (s : State) : State :=
  if s.flag .LEAF_PORT_STATUS_DOZING p && (portOf s p).wakeAt.isNone then
    let s := (s.count .LEAF_WAKE_CNT p).setFld .LEAF_PORT_STATUS_WAKING 1 p
    let s := setPort p { portOf s p with wakeAt := some s.now } s
    s.emit (.wake p (s.reg64 .LEAF_WAKE_PAT_LO .LEAF_WAKE_PAT_HI p))
  else s

/-- A write to LEAF_DOZE_CTRL (R55, R57): both bits set is ignored and logged. -/
def dozeCtrl (rw : RegWrite) (p : Nat) (s : State) : State :=
  let d := rw.val.toNat % 2
  let w := rw.val.toNat / 2 % 2
  if d = 1 && w = 1 then logWrite 4 rw s else if d = 1 then doze p s else if w = 1 then wake p s else s

def execDoze (a : Agent) (p : Fin 256) (s : State) : Result :=
  .next (let w := write32 a .LEAF_DOZE_CTRL 1 p.val; far w (dozeCtrl w p.val) s)

def execWake (a : Agent) (p : Fin 256) (s : State) : Result :=
  .next (let w := write32 a .LEAF_DOZE_CTRL 2 p.val; far w (dozeCtrl w p.val) s)

/-- WAKE_PATTERN_SENT (R57): 1 ms after the wake command. -/
def execWakePatternSent (p : Fin 256) (s : State) : Result :=
  .next (match (portOf s p.val).wakeAt with
    | some t => if t + clkMs ≤ s.now then wakeUp p.val s else s
    | none => s)

/-- WAKE_PATTERN_DETECT (R57): a dozing port sees its pattern 16 times in succession without a bit error. -/
def execWakePatternDetect (p : Fin 256) (seen : DWord) (times : Nat) (s : State) : Result :=
  .next (
    if s.flag .LEAF_PORT_STATUS_DOZING p.val && 16 ≤ times
        && seen.toNat == s.reg64 .LEAF_WAKE_PAT_LO .LEAF_WAKE_PAT_HI p.val then
      let s := if (portOf s p.val).wakeAt.isSome then s else s.count .LEAF_WAKE_CNT p.val
      wakeUp p.val s
    else s)

/-! ### The pause watchdog (R49, R50) -/

/-- Pause frames that arrive on a port in this core clock end the stall of a class (R50). -/
def pauseEnds (p c : Nat) (s : State) : Bool :=
  let t := s.pending.foldl (fun t i => match i with
    | .pauseFrameRx q f => if q.val = p && isMacControl f.data then admitting (receive p f) t else t
    | .leafRxFrame q f _ => if q.val = p && isMacControl f.data then admitting (receive p f) t else t
    | _ => t) s
  (SMap.get? (portOf t p).stall c).isNone

/-- PAUSE_WATCHDOG (R49, R50): the stall time of a class, or of the port in PAUSE mode (key 8), reaches the limit. -/
def execPauseWatchdog (p : Fin 256) (c : Fin 9) (s : State) : Result :=
  .next (
    let x := portOf s p.val
    let lim := s.fld .LEAF_PAUSE_WD_CFG_PAUSE_WD_LIMIT p.val
    let off := s.now + max 1 (s.fld .LEAF_PAUSE_WD_CFG_PAUSE_WD_HOLDOFF p.val) * clkMs
    let cs := if c.val = 8 then List.range 8 else [c.val]
    let ended := cs.any (fun i => (SMap.get? x.paused i).any (fun t => decide (t ≤ s.now))) || pauseEnds p.val c.val s
    match SMap.get? x.stall c.val with
    | some t =>
      if lim = 0 || s.now < t + lim * clkMs || ended then s
      else
        let i := if c.val = 8 then 0 else c.val
        let s := fault 1 p.val i 0 (s.count .LEAF_PAUSE_WD_CNT p.val i)
        let x := portOf s p.val
        showPause p.val (setPort p.val { x with
          paused := x.paused.filter (fun e => !cs.contains e.1)
          pend := x.pend.filter (fun e => !cs.contains e.cls)
          holdoff := cs.foldl (fun m i => SMap.insert m i off) x.holdoff } s)
    | none => s)


end Sys2Proof.Machine
end

