-- ==== Sys2Proof/Machine/Xbar.lean ====
section
/-!
DEFINITION. The crossbar (chapter 5): spraying with credit, matching, the output resequencer, admission to queues at the
frame and cell outputs (R149, R164), and planes that leave and return to service.
-/
namespace Sys2Proof.Machine

/-! ### Planes (R135 to R137) -/

def planeOn (s : State) (p : Nat) : Bool := (s.fld .XBAR_PLANE_STATUS_IN_SERVICE).testBit p
def planeDraining (s : State) (p : Nat) : Bool := (s.fld .XBAR_PLANE_STATUS_DRAINING).testBit p

/-- Planes that inputs may choose (R126, R136). -/
def planesUsable (s : State) : List Nat := (List.range 16).filter (fun p => planeOn s p && !planeDraining s p)

/-- Set or clear one bit of a number. -/
def putBit (w i : Nat) (b : Bool) : Nat := if w.testBit i = b then w else if b then w + 2 ^ i else w - 2 ^ i

/-- A plane begins to drain (R136). -/
def drainPlane (p : Nat) (s : State) : State :=
  if planeOn s p then s.setFld .XBAR_PLANE_STATUS_DRAINING (putBit (s.fld .XBAR_PLANE_STATUS_DRAINING) p true) else s

/-- A plane returns to service, its pointers at zero (R136). -/
def returnPlane (p : Nat) (s : State) : State :=
  let s := s.setFld .XBAR_PLANE_STATUS_DRAINING (putBit (s.fld .XBAR_PLANE_STATUS_DRAINING) p false)
  if planeOn s p then s
  else
    let s := s.setFld .XBAR_PLANE_STATUS_IN_SERVICE (putBit (s.fld .XBAR_PLANE_STATUS_IN_SERVICE) p true)
    { s with xbar := { s.xbar with
      grant := SMap.keep s.xbar.grant (fun k => k / 32 != p), accept := SMap.keep s.xbar.accept (fun k => k / 32 != p) } }

/-- A plane is enabled and free of any fault mark. -/
def planeMay (s : State) (p : Nat) : Bool :=
  (s.fld .XBAR_PLANE_CTRL_PLANE_EN).testBit p && !(s.fld .XBAR_PLANE_FAULT_AUTO_OUT).testBit p

/-- A plane is noted that returns in the next cell time (R136). -/
def noteBack (p : Nat) (s : State) : State :=
  if s.xbar.back.any (fun e => e.1 == p) then s
  else { s with xbar := { s.xbar with back := s.xbar.back ++ [(p, s.now / 4)] } }

/-- Planes follow PLANE_EN and the fault marks (R136, R137). -/
def planeSync (s : State) : State :=
  (List.range 16).foldl (fun s p =>
    if planeMay s p then (if planeOn s p && !planeDraining s p then s else noteBack p s)
    else drainPlane p { s with xbar := { s.xbar with back := s.xbar.back.filter (fun e => e.1 != p) } }) s

/-- The planes whose cell time has come return (R136). -/
def planeReturns (s : State) : State :=
  let due := s.xbar.back.filter (fun e => decide (e.2 < s.now / 4))
  due.foldl (fun s e => returnPlane e.1 s)
    { s with xbar := { s.xbar with back := s.xbar.back.filter (fun e => decide (s.now / 4 ≤ e.2)) } }

/-- A plane shows a lasting fault (R135): it is taken out if at least 12 planes remain. -/
def planeLasting (p : Nat) (s : State) : State :=
  let rest := ((planesUsable s).filter (· != p)).length
  if 12 ≤ rest then
    let s := s.setFld .XBAR_PLANE_FAULT_AUTO_OUT (putBit (s.fld .XBAR_PLANE_FAULT_AUTO_OUT) p true)
    fault 2 p 1 0 (drainPlane p s)
  else fault 2 p 0 0 s

/-- An event of window kind 0 (R419). -/
def planeEvent (p : Nat) (s : State) : State :=
  match winEvent 0 p s with
  | (s, true) => planeLasting p s
  | (s, false) => s

/-! ### Spraying (R126, R127) -/

def stageOf (s : State) (i o p : Nat) : List XCell := SMap.getD s.xbar.stage ((32 * i + o) * 16 + p) []

def setStage (i o p : Nat) (l : List XCell) (s : State) : State :=
  { s with xbar := { s.xbar with stage := SMap.put s.xbar.stage ((32 * i + o) * 16 + p) [] l } }

/-- Cells staged at an input. -/
def stagedAt (s : State) (i : Nat) : Nat :=
  ((s.xbar.stage.filter (fun e => e.1 / 512 == i)).map (fun e => e.2.length)).sum

/-- The plane for the next cell of an input and output (R126): round the usable planes from the one after the last
used, past planes that are too far behind. -/
def choosePlane (s : State) (i o : Nat) : Option Nat :=
  let us := planesUsable s
  let len := fun p => (stageOf s i o p).length
  let low := us.foldl (fun a p => min a (len p)) 4096
  let lim := max 1 (s.fld .XBAR_CFG_SKEW_LIMIT)
  let start := SMap.getD s.xbar.rr (32 * i + o) 0
  ((List.range 16).map (fun k => (start + k) % 16)).find? (fun p => us.contains p && decide (len p < low + lim))

/-- A cell has entered the crossbar: receive-buffer bytes and a held tile are freed, and a frame's last cell closes its
stay in the pipeline (R118, R250, R308, R345, R422). The cell goes on without what was settled here. -/
def entered (i : Nat) (x : XCell) (s : State) : XCell × State :=
  let s := match x.tile with
    | some t => freeTile 4 t s
    | none => s
  let c := x.cell
  let relayed := decide (16 ≤ i) && decide (16 ≤ x.out)
  if x.abort || relayed || !(c.kind == 2 || c.kind == 3) then ({ x with tile := none, rel := 0 }, s)
  else
    let s := if decide (i < 16) && c.tag.copy.isSome then s else s.led tOut3 i
    let s := match c.tag.copy with
      | some ses => copyEnd .MIR_DELIVER_CNT ses s
      | none => s
    match c.tag.tx with
    | some (r, id) =>
      if c.tag.txTs && decide (x.out < 16) then
        ({ x with tile := none, rel := 0, cell := { c with tag := { c.tag with copy := none } } }, s)
      else
        ({ x with tile := none, rel := 0, cell := { c with tag := { c.tag with copy := none, tx := none } } },
          unitDone r id 0 0 false s)
    | none => ({ x with tile := none, rel := 0, cell := { c with tag := { c.tag with copy := none } } }, s)

/-- XBAR_CELL_SEND (R126, R127): the oldest waiting cell of an input enters the crossbar if it has credit, room in the
staging store and a plane, from the clock of its lookup on (R122) (DESIGN CHOICE, log 28). -/
def cellSend (i : Nat) (s : State) : State :=
  match feedOf s i with
  | [] => s
  | x :: rest =>
    let k := 32 * i + x.out
    if s.now < x.cell.tag.ready || 256 ≤ SMap.getD s.xbar.spent k 0 || 4096 ≤ stagedAt s i then s
    else
      match choosePlane s i x.out with
      | none => s
      | some p =>
        let n := SMap.getD s.xbar.nextSeq k 0
        let s := { s with xbar := { s.xbar with
          feed := SMap.put s.xbar.feed i [] rest
          nextSeq := SMap.put s.xbar.nextSeq k 0 ((n + 1) % 65536)
          spent := SMap.upd s.xbar.spent k 0 (· + 1)
          rr := SMap.put s.xbar.rr k 0 ((p + 1) % 16) } }
        let (x, s) := entered i x (s.count .XBAR_IN_CELL_CNT i)
        setStage i x.out p (stageOf s i x.out p ++ [{ x with src := i, xseq := n, at_ := s.now }]) s

def execXbarCellSend (i : Fin 32) (s : State) : Result := .next (running (cellSend i.val) s)

/-! ### The crossbar tag (R125) -/

/-- The number of bits of a byte that are 1. -/
def ones8 (v : Nat) : Nat := ((List.range 8).filter (fun i => v.testBit i)).length

/-- The check column of each of the 56 data bits: the bytes of weight 3, lowest first (PRESUMED, log 28). -/
def tagCols : List Nat := (List.range 256).filter (fun v => ones8 v == 3)

/-- The check bits of the 56 other bits of a tag. -/
def tagCheck (w : Nat) : Nat :=
  (tagCols.zipIdx).foldl (fun a e => if w.testBit e.2 then a ^^^ e.1 else a) 0

/-- The tag of a cell (R125). -/
def tagWord (x : XCell) : Nat :=
  let w := x.xseq % 65536 * 2 ^ 40 + x.src % 32 * 2 ^ 35 + x.out % 32 * 2 ^ 30 + x.queue % 4096 * 2 ^ 18
    + x.cell.kind % 4 * 2 ^ 16 + b2n x.abort * 2 ^ 15
  tagCheck w * 2 ^ 56 + w

/-- What the SECDED check makes of a tag (R125, R132): its 56 bits and whether a bit was corrected; none where it cannot be
corrected. -/
def readTag (v : Nat) : Option (Nat × Bool) :=
  let w := v % 2 ^ 56
  let syn := tagCheck w ^^^ (v / 2 ^ 56 % 256)
  if syn = 0 then some (w, false)
  else if ones8 syn = 1 then some (w, true)
  else (firstIdx (fun c => c == syn) tagCols 0).map (fun i => (w ^^^ 2 ^ i, true))

/-- A cell with the fields of its tag as read. -/
def XCell.tagged (x : XCell) (w : Nat) : XCell :=
  { x with xseq := bits w 55 40, src := bits w 39 35, queue := bits w 29 18, abort := w.testBit 15 }

/-! ### Matching (R129) -/

/-- Cell times that the head cell of an input waits on a plane. -/
def headAge (s : State) (i o p : Nat) : Option Nat :=
  (stageOf s i o p).head?.map (fun x => s.now / 4 - x.at_ / 4)

/-- One choice of R129 among candidates with their ages: the oldest aged, else the first at or after the pointer. -/
def arbitrate (pri ptr : Nat) (l : List (Nat × Nat)) : Option Nat :=
  let aged := if pri = 0 then [] else l.filter (fun e => decide (pri ≤ e.2))
  let top := aged.foldl (fun a e => max a e.2) 0
  let c := if aged.isEmpty then l else aged.filter (fun e => e.2 == top)
  match c.find? (fun e => decide (ptr ≤ e.1)) with
  | some e => some e.1
  | none => c.head?.map (fun e => e.1)

/-- One iteration: the pairs (input, output) that are newly accepted. -/
def matchRound (s : State) (p : Nat) (done : List (Nat × Nat)) : List (Nat × Nat) :=
  let pri := s.fld .XBAR_CFG_AGE_PRI
  let freeIn := (List.range 32).filter (fun i => !done.any (fun e => e.1 == i))
  let freeOut := (List.range 32).filter (fun o => !done.any (fun e => e.2 == o))
  let grants := freeOut.filterMap (fun o =>
    let req := freeIn.filterMap (fun i => (headAge s i o p).map (fun a => (i, a)))
    (arbitrate pri (SMap.getD s.xbar.grant (32 * p + o) 0) req).map (fun i => (i, o)))
  freeIn.filterMap (fun i =>
    let got := (grants.filter (fun e => e.1 == i)).filterMap (fun e => (headAge s i e.2 p).map (fun a => (e.2, a)))
    (arbitrate pri (SMap.getD s.xbar.accept (32 * p + i) 0) got).map (fun o => (i, o)))

/-- The further iterations of a cell time. -/
def matchMore (s : State) (p : Nat) : Nat → List (Nat × Nat) → List (Nat × Nat)
  | 0, done => done
  | n + 1, done => matchMore s p n (done ++ matchRound s p done)

/-- A matched cell leaves its staging queue and crosses. -/
def crossCell (p : Nat) (e : Nat × Nat) (s : State) : State :=
  match stageOf s e.1 e.2 p with
  | [] => s
  | x :: l =>
    let s := setStage e.1 e.2 p l s
    let k := 32 * p + e.2
    { s with xbar := { s.xbar with
      cross := SMap.put s.xbar.cross k [] (SMap.getD s.xbar.cross k [] ++ [{ x with at_ := s.now }]) } }

/-- XBAR_MATCH (R129): once in a cell time of 4 core clocks. -/
def xbarMatch (p : Nat) (s : State) : State :=
  let t := s.now / 4 + 1
  if SMap.getD s.xbar.matched p 0 = t then s
  else
    let first := matchRound s p []
    let all := matchMore s p (max 1 (s.fld .XBAR_CFG_ITER) - 1) first
    let x := { s.xbar with
      matched := SMap.insert s.xbar.matched p t
      grant := first.foldl (fun m e => SMap.put m (32 * p + e.2) 0 ((e.1 + 1) % 32)) s.xbar.grant
      accept := first.foldl (fun m e => SMap.put m (32 * p + e.1) 0 ((e.2 + 1) % 32)) s.xbar.accept }
    all.foldl (fun s e => crossCell p e s) { s with xbar := x }

def execXbarMatch (p : Fin 16) (s : State) : Result := .next (running (xbarMatch p.val) s)

/-! ### Errors of the buffer's memories (R146, R147) -/

/-- Every tile of a state word that is not FREE goes to QUAR (R146): 16 states to a word. -/
def stateWordError (pool word : Nat) (s : State) : State :=
  let bad := (range' (16 * word) 16).filter (fun t => (tileOf s pool t).any (fun x => !x.quar))
  bad.foldl (fun s t => (winEvent 8 pool (quarTile pool t s)).1) (memReport 5 word 6 0 true s)

/-- A buffer memory shows an error to a requester with the given slots of pool D: after an error of pool D's free store it
retries in the next clock (R147). -/
def bufError (slots : List Nat) (e : BufError) (s : State) : State :=
  match e with
  | .none => s
  | .bitmap p w =>
    let s := memReport 6 (p.val * 2 ^ 61 + w) 7 p.val true (s.count .BUF_BITMAP_ERR_CNT p.val)
    if p.val = 4 && !slots.isEmpty then delaySlot slots s else s
  | .state p w => stateWordError p.val w s

/-! ### The frame output -/

def reoOf (s : State) (o i : Nat) : ReoSt := SMap.getD s.xbar.reo (32 * o + i) {}

def setReo (o i : Nat) (r : ReoSt) (s : State) : State :=
  { s with xbar := { s.xbar with reo := SMap.put s.xbar.reo (32 * o + i) {} r } }

/-- The unit of a leaf queue that an input has open. -/
def isOpen (i : Nat) (u : QUnit) : Bool := u.src == i && !u.closed

/-- A unit that closes is to be spilled where the queue's pool D tiles, its own included, exceed the share (R152). -/
def spillMark (k : Nat) (u : QUnit) (s : State) : Bool :=
  spillActive s && !u.started && decide (qShare s k < qOnDie s k)

/-- The tiles and the depth that an open unit holds beyond its cells are given back. -/
def settle (k : Nat) (p : QUnit → Bool) (f : QUnit → QUnit) (s : State) : State :=
  let q := queueOf s k
  match q.units.find? p with
  | none => s
  | some u =>
    let s := unreserve u.rsv s
    setQueue k { q with units := updUnit p (fun u => some (f { u with rsv := 0, n := u.cells.length })) q.units } s

/-- The frame that an input has open at a frame output is discarded (R133): whether it was dropped whole. A frame whose
transmission has begun stays, without its missing cells (its input becomes 32, which is none), and is ended by its
port (DEDUCED, log 29). -/
def dropOpen (o i k : Nat) (s : State) : Bool × State :=
  let q := queueOf s k
  match q.units.find? (isOpen i) with
  | none => (false, s)
  | some u =>
    if u.started then (false, settle k (isOpen i) (fun u => { u with src := 32 }) s)
    else (true, dropFrame o u (setQueue k { q with units := updUnit (isOpen i) (fun _ => none) q.units } s))

/-- A frame is discarded by the resequencer (R133). -/
def reseqDiscard (o : Nat) (s : State) : State := s.count .XBAR_RESEQ_DISCARD_CNT o

/-- A frame whose first cell is discarded: it counts at the frame output, and its cells follow. -/
def refuseFrame (o i : Nat) (c : Cell) (s : State) : State :=
  let s := txDropped c.tag (cellGone c s)
  let s := (s.led tIn4 o).led tDrop4 o
  setReo o i { reoOf s o i with openQ := none, skip := c.kind == 1 } s

/-- Why a port refuses a frame. -/
inductive TxBad where
  | inactive | doze | down
  deriving DecidableEq, Repr

/-- The counter of a refusal. -/
def TxBad.cnt : TxBad → Cnt
  | .inactive => .LEAF_TX_INACTIVE_DROP_CNT
  | .doze => .LEAF_TX_DOZE_DROP_CNT
  | .down => .LEAF_TX_DOWN_DROP_CNT

/-- The counter with which a port refuses a frame forwarded to it (R34, R56, R59). A port that the part lacks counts as
inactive (R3) (DEDUCED, log 51). -/
def portRefuses (s : State) (p : Nat) : Option TxBad :=
  if noPort s p || !s.flag .LEAF_PORT_STATUS_ACTIVE p then some .inactive
  else if s.flag .LEAF_PORT_STATUS_DOZING p then some .doze
  else if !portUp s p && !s.flag .LEAF_PORT_STATUS_FROZEN p then some .down
  else none

/-- The spilled unit that the refill engine of a queue reads next (R154): the first one, where it fits the share or nears the
head. -/
def refillNext (s : State) (k : Nat) : Option QUnit :=
  let us := (queueOf s k).units
  match us.find? (fun u => u.hbm.isSome) with
  | none => none
  | some u =>
    let before := (us.takeWhile (fun u => u.hbm.isNone)).filter (fun u => !u.started)
    if qShare s k < qOnDie s k + u.cells.length && 1 < before.length then none else some u

/-- What a command that waits asks of pool D (R149): the slot and the tiles. -/
def asks (s : State) : Instr → Option (Nat × Nat)
  | .xbarCellArrive p o dmg _ =>
    match SMap.getD s.xbar.cross (32 * p.val + o.val) [] with
    | [] => none
    | x :: _ =>
      if s.now / 4 ≤ x.at_ / 4 || dmg != CellDamage.none || x.abort || x.xseq != (reoOf s o.val x.src).next then none
      else if o.val < 16 then
        let k := 128 * o.val + x.queue
        let n := cellCount x.cell.flen
        if (x.cell.kind == 1 || x.cell.kind == 3) && (portRefuses s (k / 8)).isNone && queueAdmits s k (k % 8) n == .ok then
          some (4 * o.val, n)
        else none
      else if queueAdmits s (skyQ (o.val - 16) x.queue) x.cell.cls 1 == .ok then some (4 * o.val, 1)
      else none
  | .refillUnit k _ => (refillNext s k.val).map (fun u => (160 + qXport k.val, u.cells.length))
  | _ => none

/-- Tiles that the commands which wait ask for in this core clock before a slot's turn (R149). -/
def earlyAsks (s : State) (slot : Nat) : Nat :=
  ((s.pending.filterMap (asks s)).filter (fun e => decide (slotRank s e.1 < slotRank s slot))).foldl (fun a e => a + e.2) 0

/-- A requester's reservation in the order of R149. -/
def reserveTurn (slot n : Nat) (refill : Bool) (s : State) : Bool × State := reserve slot n (earlyAsks s slot) refill s

/-- A frame meets the admission of R164 and the reservation of R149 at a frame output. -/
def admitFrame (o i queue : Nat) (c : Cell) (s : State) : State :=
  let k := 128 * o + queue
  let n := cellCount c.flen
  match portRefuses s (k / 8) with
  | some c' => refuseFrame o i c (s.count c'.cnt (k / 8))
  | none =>
    match queueAdmits s k (k % 8) n with
    | .limit => refuseFrame o i c (s.count .TM_QLIMIT_DROP_CNT o (k % 8))
    | .dyn => refuseFrame o i c (s.count .TM_DYN_DROP_CNT o (k % 8))
    | .ok =>
      match reserveTurn (4 * o) n false s with
      | (false, s) => refuseFrame o i c ((s.count .BUF_NOBUF_CNT 4).count .BUF_NOBUF_DROP_CNT o)
      | (true, s) =>
        let m := marks s k (k % 8) || c.ecn != 0
        let (t, s) := allocRsv (outSlots o) s
        let c := { c with tag := { c.tag with at_ := s.now } }
        let u : QUnit := { n := n, cells := [(t, c)], src := i, closed := c.kind == 3, marked := m, at_ := s.now,
                           rsv := n - 1, flen := c.flen }
        let q := queueOf s k
        let s := setQueue k { q with units := q.units ++ [u] } (s.led tIn4 o)
        let s := setReo o i { reoOf s o i with openQ := if c.kind = 3 then none else some k, skip := false } s
        if c.kind = 3 && spillMark k u s then
          let q := queueOf s k
          setQueue k { q with units := updUnit (fun v => v == u) (fun v => some { v with spill := true }) q.units } s
        else s

/-- A middle or last cell joins the frame that its input has open. -/
def joinFrame (o i k : Nat) (c : Cell) (s : State) : State :=
  let q := queueOf s k
  let last := c.kind == 2
  let shut := fun (s : State) => if last then setReo o i { reoOf s o i with openQ := none } s else s
  match q.units.find? (isOpen i) with
  | none => shut (txDropped c.tag (cellGone c s))
  | some _ =>
    let (t, s) := allocRsv (outSlots o) s
    let c := { c with tag := { c.tag with at_ := s.now } }
    let s := setQueue k { q with units := updUnit (isOpen i) (fun u =>
      some { u with cells := u.cells ++ [(t, c)], rsv := u.rsv - 1 }) q.units } s
    if last then
      let s := shut s
      let sp := (queueOf s k).units.any (fun u => isOpen i u && spillMark k u s)
      settle k (isOpen i) (fun u =>
        { u with closed := true, spill := sp, flen := if c.flen = 0 then u.flen else c.flen }) s
    else s

/-- An ABORT cell ends the frame that its input has open (R122, R123). -/
def abortFrame (o i : Nat) (s : State) : State :=
  let r := reoOf s o i
  let s := setReo o i { r with openQ := none, skip := false } s
  match r.openQ with
  | none => s
  | some k =>
    let q := queueOf s k
    match q.units.find? (isOpen i) with
    | none => s
    | some u =>
      if u.started then settle k (isOpen i) (fun u => { u with closed := true, aborted := true }) s
      else
        dropFrame o u (setQueue k { q with units := updUnit (isOpen i) (fun _ => none) q.units }
          (s.count .HLT_ABORT_DISCARD_CNT))

/-- The turn of a cell with a failed check comes at a frame output: its frame is discarded (R132, R133). -/
def badAtFrame (o i : Nat) (c : Cell) (s : State) : State :=
  let r := reoOf s o i
  let ends := c.kind == 2 || c.kind == 3
  match r.openQ with
  | some k =>
    let s := setReo o i { r with openQ := none, skip := !ends } s
    (match dropOpen o i k s with
    | (true, s) => reseqDiscard o s
    | (false, s) => s)
  | none =>
    if r.skip then setReo o i { r with skip := !ends } s
    else
      let s := txDropped c.tag (reseqDiscard o s)
      let s := if c.kind = 1 || c.kind = 3 then s.led tIn4 o else s
      setReo o i { r with skip := !ends } (s.led tDrop4 o)

/-- One cell is delivered, in XSEQ order, at a frame output (R131). -/
def frameCell (o i : Nat) (x : XCell) (s : State) : State :=
  let r := reoOf s o i
  let c := x.cell
  if x.bad then badAtFrame o i c s
  else if x.abort then abortFrame o i s
  else if c.kind = 1 || c.kind = 3 then admitFrame o i x.queue c s
  else
    match r.openQ with
    | some k => joinFrame o i k c s
    | none =>
      let s := txDropped c.tag (cellGone c s)
      if c.kind = 2 then setReo o i { r with skip := false } s else s

/-! ### The cell output -/

/-- A cell of the module's own frames is discarded before sending (ledger 5). -/
def skyGone (c : Cell) (s : State) : State :=
  let s := cellGone c s
  if c.srcMod = ownMod s then s.led tDisc5 0 else s

/-- A cell is appended to its sky queue: it joins the open run, or starts one (R151). -/
def pushRun (k t : Nat) (c : Cell) (s : State) : State :=
  let q := queueOf s k
  let c := { c with tag := { c.tag with at_ := s.now, die := s.now } }
  let ends := c.kind == 2 || c.kind == 3
  let us := match q.units.find? (fun u => !u.closed) with
    | some u =>
      updUnit (fun v => !v.closed) (fun v => some { v with
        n := v.n + 1, cells := v.cells ++ [(t, c)], closed := ends || decide (64 ≤ u.n + 1) }) q.units
    | none => q.units ++ [{ n := 1, cells := [(t, c)], src := 0, closed := ends, at_ := s.now }]
  let s := setQueue k { q with units := us } s
  match us.getLast? with
  | some u =>
    if u.closed && spillMark k u s then
      setQueue k { q with units := us.dropLast ++ [{ u with spill := true }] } s
    else s
  | none => s

/-- A cell meets admission, reservation and marking at a cell output (R149, R164, R177). -/
def skyCell (o : Nat) (x : XCell) (s : State) : State :=
  let k := skyQ (o - 16) x.queue
  let c := x.cell
  if x.bad then s
  else
    match queueAdmits s k c.cls 1 with
    | .limit => skyGone c (s.count .TM_QLIMIT_CELL_DROP_CNT o c.cls)
    | .dyn => skyGone c (s.count .TM_DYN_CELL_DROP_CNT o c.cls)
    | .ok =>
      match reserveTurn (4 * o) 1 false s with
      | (false, s) => skyGone c ((s.count .BUF_NOBUF_CNT 4).count .BUF_NOBUF_CELL_DROP_CNT o)
      | (true, s) =>
        let head := c.kind == 1 || c.kind == 3
        let m := head && marks s k c.cls
        let s := s.countIf m .TM_ECN_MARK_CNT o c.cls
        let c := if m && c.ecn == 0 then { c with ecn := if isRelayed s c then 3 else 1 } else c
        let (t, s) := allocRsv (outSlots o) s
        pushRun k t c s

/-! ### The resequencer (R131, R134) -/

/-- n credits of an input for an output return (R127). -/
def creditBack (o i n : Nat) (s : State) : State :=
  { s with xbar := { s.xbar with spent := SMap.upd s.xbar.spent (32 * i + o) 0 (· - n) } }

/-- A cell leaves the reorder store: its credit returns (R127), but for one that was discarded on arrival. -/
def leaveReo (o i : Nat) (x : XCell) (s : State) : State :=
  let s := if x.bad then s else creditBack o i 1 s
  let s := s.count .XBAR_OUT_CELL_CNT o
  if o < 16 then frameCell o i x s else skyCell o x s

/-- Deliver from the store while the next XSEQ is there; a gap that remains starts its time. -/
def drainReo (o i : Nat) : Nat → State → State
  | 0, s => s
  | f + 1, s =>
    let r := reoOf s o i
    match r.held.find? (fun x => x.xseq == r.next) with
    | some x =>
      let s := setReo o i { r with
        next := (r.next + 1) % 65536, held := r.held.filter (fun y => y.xseq != r.next), gapAt := none } s
      drainReo o i f (leaveReo o i x s)
    | none => if r.held.isEmpty || r.gapAt.isSome then s else setReo o i { r with gapAt := some s.now } s

/-- A cell with a good tag enters the reorder store. -/
def enterReo (o : Nat) (x : XCell) (s : State) : State :=
  let r := reoOf s o x.src
  drainReo o x.src 257 (setReo o x.src { r with held := r.held ++ [x] } s)

/-- A timeout has passed the XSEQ of a cell (R134). -/
def passedBy (s : State) (o : Nat) (x : XCell) : Bool :=
  decide (32768 ≤ (x.xseq + 65536 - (reoOf s o x.src).next) % 65536)

/-- The stay of a cell that is discarded at an output ends. -/
def outGone (o : Nat) (c : Cell) (s : State) : State := if o < 16 then cellGone c s else skyGone c s

/-- A cell with a good tag fails its header or payload check (R132): it is discarded at once, and its XSEQ stands for it in the
reorder store until its turn, at which its frame is discarded (DEDUCED, log 28). -/
def badCell (o : Nat) (x : XCell) (s : State) : State :=
  let s := creditBack o x.src 1 (s.countIf (decide (16 ≤ o)) .XBAR_CELL_LOSS_CNT o)
  enterReo o { x with bad := true } (outGone o x.cell s)

/-- A cell with what its tag reads as (R125, R132): a corrected tag counts, an uncorrectable one delivers the cell nowhere; a
cell whose CRC fails is discarded. -/
def withTag (p o : Nat) (crc : Bool) (x : XCell) (tag : Option (Nat × Bool)) (s : State) : State :=
  match tag with
  | some (w, corr) =>
    let x := x.tagged w
    let s := s.countIf corr .XBAR_TAG_CORR_CNT p
    let s := if crc then planeEvent p (s.count .XBAR_CELL_ERR_CNT p) else s
    if passedBy s o x then outGone o x.cell s else if crc then badCell o x s else enterReo o x s
  | none =>
    let s := planeEvent p (s.count .XBAR_TAG_UNCORR_CNT p)
    cellGone x.cell (excuse 4 (memRecord 4 p 0 p s))

/-- XBAR_CELL_ARRIVE (R132): the next cell that crosses a plane to an output, in the cell time after its match. One whose XSEQ a
timeout has passed is discarded; its credit has returned (DEDUCED, log 28). -/
def cellArrive (p o : Nat) (dmg : CellDamage) (e : BufError) (s : State) : State :=
  let k := 32 * p + o
  match SMap.getD s.xbar.cross k [] with
  | [] => s
  | x :: l =>
    if s.now / 4 ≤ x.at_ / 4 then s
    else
      let s := { s with xbar := { s.xbar with cross := SMap.put s.xbar.cross k [] l } }
      let s := bufError (outSlots o) e (s.count .XBAR_PLANE_CELL_CNT p)
      withTag p o dmg.crc x (readTag (tagWord x ^^^ dmg.flips.toNat)) s

def execXbarCellArrive (p : Fin 16) (o : Fin 32) (dmg : CellDamage) (e : BufError) (s : State) : Result :=
  .next (running (cellArrive p.val o.val dmg e) s)

/-- The held cell that follows a gap. -/
def afterGap (r : ReoSt) : Option XCell :=
  r.held.foldl (fun a x => match a with
    | none => some x
    | some y => if (x.xseq + 65536 - r.next) % 65536 < (y.xseq + 65536 - r.next) % 65536 then some x else a) none

/-- Cells that the open frame of an input still lacks. -/
def openLacks (s : State) (i k : Nat) : Nat :=
  match (queueOf s k).units.find? (isOpen i) with
  | some u => u.n - u.cells.length
  | none => 0

/-- The gap of a frame output is resolved (R134). -/
def passGap (o i gap : Nat) (x : XCell) (s : State) : State :=
  let r := reoOf s o i
  let head := x.cell.kind == 1 || x.cell.kind == 3
  let count := fun (s : State) => (reseqDiscard o s).led tDrop4 o
  match r.openQ with
  | some k =>
    let same := decide (gap < openLacks s i k)
    let s := setReo o i { r with openQ := none, skip := !head } s
    let s := match dropOpen o i k s with
      | (true, s) => reseqDiscard o s
      | (false, s) => s
    if head || same then s else count s
  | none =>
    let s := setReo o i { r with skip := !head } s
    if head || !r.skip then count s else s

/-- XBAR_RESEQ_TIMEOUT (R134). The credit of the cells that the gap lost returns (R127) (DEDUCED, log 28). -/
def reseqTimeout (o i : Nat) (s : State) : State :=
  let r := reoOf s o i
  let lim := min 1024 (max 1 (s.fld .XBAR_RESEQ_CFG_TIMEOUT_US)) * clkUs
  match r.gapAt, afterGap r with
  | some t, some x =>
    if s.now < t + lim then s
    else
      let gap := (x.xseq + 65536 - r.next) % 65536
      let s := creditBack o i gap (setReo o i { r with next := x.xseq, gapAt := none } (s.count .XBAR_RESEQ_TIMEOUT_CNT o))
      drainReo o i 257 (if o < 16 then passGap o i gap x s else s)
  | _, _ => s

def execXbarReseqTimeout (o i : Fin 32) (s : State) : Result := .next (running (reseqTimeout o.val i.val) s)

/-! ### Planes that drain, and the fault marks -/

/-- XBAR_PLANE_DRAINED (R136): the queues of a draining plane are empty. -/
def planeDrained (p : Nat) (s : State) : State :=
  let empty := s.xbar.stage.all (fun e => e.1 % 16 != p) && s.xbar.cross.all (fun e => e.1 / 32 != p)
  if planeDraining s p && empty then
    (s.setFld .XBAR_PLANE_STATUS_DRAINING (putBit (s.fld .XBAR_PLANE_STATUS_DRAINING) p false)).setFld
      .XBAR_PLANE_STATUS_IN_SERVICE (putBit (s.fld .XBAR_PLANE_STATUS_IN_SERVICE) p false)
  else s

def execXbarPlaneDrained (p : Fin 16) (s : State) : Result := .next (planeDrained p.val s)

/-- A W1C write to XBAR_PLANE_FAULT (R137). -/
def planeFaultClear (v : Word) (s : State) : State :=
  planeSync (s.setReg .XBAR_PLANE_FAULT (s.reg .XBAR_PLANE_FAULT &&& ~~~v))

def execXbarFaultClear (a : Agent) (v : Word) (s : State) : Result :=
  .next (far (write32 a .XBAR_PLANE_FAULT v.toNat) (planeFaultClear v) s)

end Sys2Proof.Machine
end

