-- ==== Sys2Proof/Machine/Egress.lean ====
section
/-!
DEFINITION. Egress (R167, R168, R170 to R173, R178): shapers, the choice of a class, the egress lookup and edits, marking,
and the end of a transmission on a leaf MAC (R44, R53, R156).
-/
namespace Sys2Proof.Machine

/-! ### The egress stage (R61, R79, R178) -/

/-- What the egress stage makes of a frame. -/
structure Egr where
  /-- The rule drops it (R79). -/
  dropRule : Bool := false
  /-- What the edit engine answers (R83). -/
  res : EditRes
  dec : EgrDec := {}
  marked : Bool := false
  notEct : Bool := false
  /-- The frame as transmitted, FCS included. -/
  data : List Byte := []
  hash : Nat := 0
  fid : Nat := 0
  mac : Nat := 0
  deriving DecidableEq, Repr

/-- The egress walk, lookup, edits and marking of a unit's frame on port p. The hash of a frame from the sky, which has no
ingress walk here, is that of its egress walk (DESIGN CHOICE, log 67). -/
def egress (s : State) (p : Nat) (u : QUnit) : Egr :=
  let c := u.head
  let d := if u.closed && !u.aborted then body u.bytes else u.bytes
  if c.mirror then { res := .ok (EditFrame.ofWalk d []), data := d ++ fcsBytes d }
  else
    let w := walkEgress s d
    let hash := c.tag.hash.getD (symHash s d w)
    let key := keyOf s d w ⟨p, c.cls, c.srcMod, c.srcPort, hash⟩
    let a := ((ruleFind s true key w.profile).map (fun r => r.2)).getD {}
    let plan := a.edit.map (readPlan s)
    let dec : EgrDec := { hdrs := w.hdrs, hash := hash, counter := a.counter, mirror := a.mirror, marked := u.marked,
                          inner := s.flag .TM_CFG_ECN_INNER,
                          plan := match plan with
                            | some (.ok x) => some x
                            | _ => none }
    let f := dec.edited d
    let (x, m, n) := dec.mark f
    { dropRule := a.fwd == 1, dec := dec, marked := m, notEct := n, data := sealFrame x, hash := hash,
      res := (match plan with
        | some (.error loc) => .bad loc
        | _ => .ok f)
      fid := fidOf d w (s.fld .TBL_LEARN_CFG_REMOTE_PVID), mac := ofBe (pbytes d 6 6) }

/-! ### The choice of a class (R167, R168) -/

/-- The head unit of a class. -/
def headUnit (s : State) (p c : Nat) : Option QUnit := (queueOf s (leafQ p c)).units.head?

/-- The unit may be sent cut-through (R51). -/
def cutThrough (s : State) (p : Nat) (u : QUnit) : Bool :=
  s.flag .LEAF_PORT_CFG_CUT_THROUGH p && !u.head.mirror
    && (match u.tag.port with
      | some i => decide (portRate s p ≤ portRate s i)
      | none => false)

/-- The head unit can start (R53, R167): its egress lookup needs the first 256 bytes, or the whole frame (DEDUCED, log 27). -/
def canStart (s : State) (p : Nat) (u : QUnit) : Bool :=
  u.hbm.isNone && !u.started && !u.aborted
    && (u.closed || (cutThrough s p u && decide (max 2 (s.fld .LEAF_CT_STATUS_CT_START_CUR p) ≤ u.cells.length)))

/-- A class is eligible (R167). -/
def eligible (s : State) (p c : Nat) : Bool :=
  match headUnit s p c with
  | some u =>
    canStart s p u && (SMap.get? (portOf s p).paused c).isNone && (shaperOf s (qShaper p c)).allows false
  | none => false

/-- Length by which a head frame is scheduled (R170): as transmitted, or the bound B while it is not whole (R123). -/
def schedLen (s : State) (p c : Nat) : Nat :=
  match headUnit s p c with
  | some u => if u.closed then (egress s p u).data.length else u.flen
  | none => 0

/-- QUANTUM; a value below 64 is treated as 64. -/
def quantum (s : State) (p c : Nat) : Nat := max 64 (s.fld .TM_CLASS_QUANTUM_QUANTUM p c)

/-- Deficit round robin among classes (R168): the class and the deficits. Deficits grow until a class qualifies
(DEDUCED, log 56). -/
def drr (lens : List (Nat × Nat)) (quant : Nat → Nat) (ptr : Nat) : Nat → SMap Nat → Option (Nat × SMap Nat)
  | 0, _ => none
  | f + 1, m =>
    let order := (List.range 8).map (fun k => (ptr + k) % 8)
    let fits := fun c => lens.any (fun e => e.1 == c && decide (e.2 ≤ SMap.getD m c 0))
    match order.find? fits with
    | some c => some (c, m)
    | none => drr lens quant ptr f (lens.foldl (fun m e => SMap.put m e.1 0 (SMap.getD m e.1 0 + quant e.1)) m)

/-- The class that a port serves (R167): its number, its round, and the deficits. -/
def pickClass (s : State) (p : Nat) : Option (Nat × Nat × SMap Nat) :=
  let x := portOf s p
  let el := (List.range 8).filter (eligible s p)
  let sp := el.filter (fun c => (s.fld .TM_PORT_SCHED_SP_MASK p).testBit c)
  match sp.getLast? with
  | some c => some (c, 1, x.deficit)
  | none =>
    let com := el.filter (fun c => (shaperOf s (qShaper p c)).committed)
    let round := if com.isEmpty then 3 else 2
    let cs := if com.isEmpty then el else com
    let lens := cs.map (fun c => (c, schedLen s p c))
    (drr lens (quantum s p) (if round = 2 then x.ptr2 else x.ptr3) 1024 x.deficit).map (fun e => (e.1, round, e.2))

/-! ### Starting a transmission -/

/-- A unit leaves its queue and is dropped. -/
def dropUnit (p c : Nat) (sel : QUnit → Bool) (s : State) : State :=
  let k := leafQ p c
  let q := queueOf s k
  match q.units.find? sel with
  | some u => dropFrame (p / 16) u (setQueue k { q with units := updUnit sel (fun _ => none) q.units } s)
  | none => s

/-- A cell of a unit fails its check on a read of its tile (R156): the tile goes to QUAR, the others are released. -/
def failCell (p c idx : Nat) (sel : QUnit → Bool) (s : State) : State :=
  let k := leafQ p c
  let q := queueOf s k
  match q.units.find? sel with
  | none => s
  | some u =>
    match u.cells[idx]? with
    | none => s
    | some (t, x) =>
      let s := setQueue k { q with units := updUnit sel (fun _ => none) q.units } s
      let s := cellGone x (quarFail 4 t s)
      let v := { u with cells := (u.cells.take idx) ++ u.cells.drop (idx + 1) }
      (txDropped u.tag (releaseUnit v s)).led tDrop4 (p / 16)

/-- The egress lookup of a pipeline is started in this clock, at most four of them (R119): whether it is. -/
def startLookup (q : Nat) (s : State) : Bool × State :=
  let l := SMap.getD s.leaf.looks q {}
  let l := if l.clk = s.now then l else ⟨s.now, 0, false⟩
  let put := fun (l : LookSt) (s : State) => { s with leaf := { s.leaf with looks := SMap.put s.leaf.looks q {} l } }
  if l.n < 4 then (true, put { l with n := l.n + 1 } s)
  else if l.waited then (false, s)
  else (false, (put { l with waited := true } s).count .XBAR_EGR_LOOKUP_WAIT_CNT q)

/-- The egress copy of a frame that starts (R337, R339). -/
def egressCopy (p : Nat) (u : QUnit) (e : Egr) (s : State) : Option CopyPend × State :=
  let c := u.head
  if c.mirror then (none, s)
  else
    match copySession s true e.dec.mirror (some p) with
    | none => (none, s)
    | some ses =>
      match selectCopy ses (p / 16) s with
      | (true, s) =>
        (some ⟨ses, s.reg .MIR_SESSION_CFG ses, s.reg .MIR_SESSION_DEST ses, c.cls, e.hash, c.srcMod, c.srcPort⟩, s)
      | (false, s) => (none, s)

/-- A frame from the sky is learned where it is transmitted (R104). -/
def learnSky (p : Nat) (u : QUnit) (e : Egr) (s : State) : State :=
  let c := u.head
  if c.srcMod ≠ ownMod s && !c.mirror && s.flag .TBL_LEARN_CFG_REMOTE_EN && s.flag .TBL_LEARN_CFG_EN then
    learnFrame (p / 16) e.fid e.mac c.srcMod c.srcPort s
  else s

/-- The quanta of a decision stay with the port, and its round's pointer is left on the class chosen (R168). -/
def keepChoice (p c round : Nat) (deficit : SMap Nat) (s : State) : State :=
  let x := portOf s p
  setPort p { x with
    deficit := deficit, ptr2 := if round = 2 then c else x.ptr2, ptr3 := if round = 3 then c else x.ptr3 } s

/-- The port starts the head frame of class c: the egress stage drops it, or its transmission begins. The flow counter of an
egress rule counts a frame only when it has left whole (DESIGN CHOICE, log 67). -/
def startFrame (p c round : Nat) (u : QUnit) (s : State) : State :=
  let q := p / 16
  let e := egress s p u
  let s := if u.head.mirror then s else editCounts q e.res (ruleParity q true s)
  let me := fun (v : QUnit) => v == u
  if e.dropRule then dropUnit p c me (s.count .PARSE_EGR_RULE_DROP_CNT q)
  else
    match e.res with
    | .bad _ => dropUnit p c me s
    | .ok _ =>
      if u.closed && decide (s.fld .LEAF_PORT_CFG_MAX_FRAME p < e.data.length) then
        dropUnit p c me (s.count .LEAF_TX_OVERSIZE_CNT p)
      else
        let s := (s.countIf e.marked .TM_ECN_MARK_CNT q c).countIf e.notEct .TM_ECN_NOT_ECT_CNT q c
        let s := learnSky p u e s
        let (copy, s) := egressCopy p u e s
        let s := setPort p { portOf s p with
          tx := some { cls := c, start := s.now, ts := s.ts64, data := if u.closed then some e.data else none,
                       dec := e.dec, copy := copy, round := round } } s
        let s := if u.closed then chargeFrame p c e.data.length (round != 1) s else s
        let k := leafQ p c
        let qu := queueOf s k
        setQueue k { qu with units := updUnit me (fun v => some { v with started := true }) qu.units } s

/-- PORT_TX_START (R167). `bad` names a cell of the frame whose check fails before the first byte is sent (R156)
(DEDUCED, log 25). -/
def portTxStart (p : Nat) (bad : Option Nat) (s : State) : State :=
  let s := refreshPort p s
  let x := portOf s p
  if x.tx.isSome || !portUp s p || !lineFree s p || !x.pauseOut.isEmpty || !(shaperOf s p).allows true then s
  else
    match pickClass s p with
    | none => s
    | some (c, round, deficit) =>
      match headUnit s p c with
      | none => s
      | some u =>
        match startLookup (p / 16) s with
        | (false, s) => s
        | (true, s) =>
          let s := keepChoice p c round deficit s
          match bad with
          | some i =>
            if i < u.cells.length then
              failCell p c i (fun v => v == u) (s.count .BUF_ONDIE_CRC_DROP_CNT (p / 16))
            else startFrame p c round u s
          | none => startFrame p c round u s

def execPortTxStart (p : Fin 256) (bad : Option Nat) (s : State) : Result := .next (running (portTxStart p.val bad) s)

/-! ### The end of a transmission (R44, R53, R339) -/

/-- A frame and the complement of its FCS (R53). -/
def stomped (d : List Byte) : List Byte := d ++ (fcsBytes d).map (fun b => ~~~b)

/-- A transmission is over: its pauses take effect (R47). -/
def txOver (p : Nat) (s : State) : State := applyPend p (setPort p { portOf s p with tx := none } s)

/-- The charge of a cut-through frame, whose length as transmitted is now known (R123, R168, R170 to R172). -/
def payFrame (p n : Nat) (t : TxSt) (s : State) : State :=
  if t.data.isNone then chargeFrame p t.cls n (t.round != 1) s else s

/-- A frame is ended early after the bytes `sent` (R53): counted, its copy discarded, its cells released. -/
def endEarly (p : Nat) (t : TxSt) (cnt : Cnt) (i : Nat) (sent : List Byte) (rel : State → State) (s : State) : State :=
  let s := payFrame p (sent.length + 4) t (s.count cnt i)
  let s := match t.copy with
    | some c => copyEnd .MIR_ABORT_CNT c.session s
    | none => s
  txOver p (rel (sendOut p t.start (stomped sent) false s))

/-- A frame has left whole (R276, R308, R339, R422). -/
def txWhole (p : Nat) (t : TxSt) (u : QUnit) (d : List Byte) (s : State) : State :=
  let s := payFrame p d.length t ((s.count .LEAF_TX_FRAME_CNT p).count .LEAF_TX_BYTE_CNT p 0 d.length)
  let s := flowCount { counter := t.dec.counter } d.length s
  let s := (sendOut p t.start d true s).led tOut4 (p / 16)
  let s := match u.tag.tx with
    | some (r, id) => if u.tag.txTs then unitDone r id 0 t.ts true s else s
    | none => s
  let k := leafQ p t.cls
  let q := queueOf s k
  let s := releaseUnit u (setQueue k { q with units := updUnit (fun v => v.started) (fun _ => none) q.units } s)
  let s := txOver p s
  match t.copy with
  | none => s
  | some c =>
    deliverCopy c.session c.cfg c.dest
      { egress := true, pipe := p / 16, port := p, cls := c.cls, srcMod := c.srcMod, srcPort := c.srcPort,
        ts := if u.tag.port.isSome then u.tag.ts else s.ts64, tsValid := u.tag.port.isSome,
        capTs := t.ts, hash := c.ruleHash } d s

/-- An underrun raises CT_START_CUR and restarts the interval of R54. -/
def underrun (p : Nat) (s : State) : State :=
  let s := setPort p { portOf s p with ctAt := s.now } s
  s.setFld .LEAF_CT_STATUS_CT_START_CUR (min 16 (s.fld .LEAF_CT_STATUS_CT_START_CUR p + 1)) p

/-- The cell of a unit that fails its check. -/
def badIn (bad : Option Nat) (u : QUnit) : Option Nat := bad.bind (fun i => if i < u.cells.length then some i else none)

/-- LEAF_TX_COMPLETE (R44, R53, R156): the transmission in progress ends. `bad` names a cell whose check failed after the
start (DESIGN CHOICE, log 24). -/
def leafTxComplete (p : Nat) (bad : Option Nat) (s : State) : State :=
  match (portOf s p).tx with
  | none => s
  | some t =>
    let sel := fun (v : QUnit) => v.started
    match (queueOf s (leafQ p t.cls)).units.find? sel with
    | none => txOver p s
    | some u =>
      let whole := u.closed && !u.aborted
      let sent := sentData t u
      let d := t.data.getD (sealFrame sent)
      let max := s.fld .LEAF_PORT_CFG_MAX_FRAME p
      let lost := dropUnit p t.cls sel
      match badIn bad u with
      | some i =>
        endEarly p t .BUF_ONDIE_CRC_DROP_CNT (p / 16) (t.dec.data (u.bytes.take (240 * i))) (failCell p t.cls i sel) s
      | none =>
        if t.data.isNone && decide (max < (if whole then d.length else sent.length)) then
          endEarly p t .LEAF_TX_OVERSIZE_CNT p (sent.take max) lost s
        else if u.aborted then endEarly p t .LEAF_TX_STOMP_CNT p sent lost s
        else if !u.closed then endEarly p t .LEAF_TX_UNDERRUN_CNT p sent lost (underrun p s)
        else txWhole p t u d s

def execLeafTxComplete (p : Fin 256) (bad : Option Nat) (s : State) : Result := .next (leafTxComplete p.val bad s)

end Sys2Proof.Machine
end

