-- ==== Sys2Proof/Machine/Buffer.lean ====
section
/-!
DEFINITION. The HBM side of the buffer: the carve (R140 to R142), spill and refill (R151 to R156), and the scrub with
retirement (R157, R158).
-/
namespace Sys2Proof.Machine

/-! ### The carve -/

/-- Tiles that BUF_CARVE_TILES asks for. -/
def carveTiles (s : State) : List Nat := (List.range 4).map (fun i => s.fld .BUF_CARVE_TILES_TILES i)

/-- HBM of the part in GiB. -/
def hbmGib (s : State) : Nat := if s.sys.part = .s2048 then 128 else 64

/-- The first condition under which a carve is refused (R141); 0 where it is accepted. -/
def carveErr (s : State) : Nat :=
  let l := carveTiles s
  if l.any (fun n => n % 64 != 0) then 1
  else if hbmGib s < metaBase l + metaGib l + 8 then 2
  else if s.flag .BUF_CFG_SPILL_EN || (List.range 4).any (fun p => s.reg .BUF_POOL_ALLOC p != 0#32) then 3
  else 0

/-- The entries of BUF_RETIRE in use: pool D tiles, or HBM granules. -/
def retired (s : State) (onDie : Bool) : List Nat :=
  (List.range 1024).filterMap (fun j =>
    if s.flag .BUF_RETIRE_VALID j && (s.flag .BUF_RETIRE_ON_DIE j == onDie) then some (s.fld .BUF_RETIRE_INDEX j) else none)

/-- The HBM tile that covers a granule. -/
def granuleTile (l : List Nat) (g : Nat) : Option (Nat × Nat) :=
  (List.range 4).findSome? (fun p =>
    let a := 512 * g
    if poolBase l p ≤ a && a < poolBase l (p + 1) then some (p, (a - poolBase l p) / poolBytes p) else none)

/-- Mark a tile QUAR at a carve or a rebuild (R158). -/
def markRetired (p t : Nat) (s : State) : State :=
  if poolSize s p ≤ t || (tileOf s p t).isSome then s
  else
    regAdd .BUF_POOL_QUAR 1 p (regAdd .BUF_POOL_FREE (-1) p (setTile p t (some { quar := true, retired := true }) s))

/-- An accepted carve (R141): every HBM tile is FREE, but for those that cover a retired granule. -/
def carve (s : State) : State :=
  let l := carveTiles s
  let s := (s.setFld .BUF_CARVE_STATUS_DONE 0).setFld .BUF_CARVE_STATUS_BUSY 1
  let s := { s with buf := { s.buf with
    carved := l, tiles := SMap.keep s.buf.tiles (fun k => decide (tileKey 4 0 ≤ k)), metas := [] } }
  let s := (List.range 4).foldl (fun s p =>
    ((s.setReg .BUF_POOL_FREE (BitVec.ofNat 32 (l.getD p 0)) p).setReg .BUF_POOL_ALLOC 0#32 p).setReg
      .BUF_POOL_QUAR 0#32 p) s
  let s := (retired s false).foldl (fun s g => match granuleTile l g with
    | some (p, t) => markRetired p t s
    | none => s) s
  showSpill s

/-- A write to BUF_CARVE_CTRL (R141). -/
def carveCtrl (w : RegWrite) (s : State) : State :=
  let s := if w.val.toNat.testBit 1 then s.setFld .BUF_CARVE_CTRL_ERR 0 else s
  if !w.val.toNat.testBit 0 then s
  else if s.flag .BUF_CARVE_STATUS_BUSY then logWrite 4 w s
  else
    let e := carveErr s
    if e = 0 then carve s else (s.setFld .BUF_CARVE_CTRL_ERR 1).setFld .BUF_CARVE_STATUS_ERR_CODE e

def execBufCarve (a : Agent) (s : State) : Result :=
  .next (let w := write32 a .BUF_CARVE_CTRL 1; far w (carveCtrl w) s)

/-- BUF_CARVE_DONE (R141). -/
def carveDone (s : State) : State :=
  if s.flag .BUF_CARVE_STATUS_BUSY then
    let l := s.buf.carved
    let e := metaBase l + metaGib l
    let s := ((s.setFld .BUF_CARVE_STATUS_META_GIB (metaGib l)).setFld .BUF_CARVE_STATUS_BUF_GIB e).setFld
      .BUF_CARVE_STATUS_TC_GIB (hbmGib s - e)
    showSpill ((s.setFld .BUF_CARVE_STATUS_BUSY 0).setFld .BUF_CARVE_STATUS_DONE 1)
  else s

def execBufCarveDone (s : State) : Result := .next (carveDone s)

/-! ### Spill (R151 to R153) -/

/-- The smallest pool whose tiles hold n cells (R152). -/
def spillPool (n : Nat) : Nat := if n ≤ 2 then 0 else if n ≤ 8 then 1 else if n ≤ 16 then 2 else 3

/-- The unit that a queue spills next. -/
def spillNext (u : QUnit) : Bool := u.spill && u.closed && u.hbm.isNone && !u.started

/-- Change the first unit of a queue that satisfies a test. -/
def editUnit (k : Nat) (p : QUnit → Bool) (f : QUnit → Option QUnit) (s : State) : State :=
  let q := queueOf s k
  setQueue k { q with units := updUnit p f q.units } s

/-- A cell of a unit fails its check at the spill engine (R156): a frame is dropped whole, a sky cell alone. -/
def spillFail (k idx : Nat) (u : QUnit) (s : State) : State :=
  if k < 2048 then failCell (k / 8) (k % 8) idx spillNext (s.count .BUF_ONDIE_CRC_DROP_CNT (k / 128))
  else
    match u.cells[idx]? with
    | none => s
    | some (t, c) =>
      let rest := u.cells.take idx ++ u.cells.drop (idx + 1)
      let s := editUnit k spillNext (fun u =>
        if rest.isEmpty then none else some { u with cells := rest, n := u.n - 1 }) s
      skyGone c (quarFail 4 t (s.count .BUF_ONDIE_CRC_CELL_CNT (qXport k)))

/-- The pool of which a spill that waits asks a tile. -/
def spillAsk (s : State) (k : Nat) (bad : Option Nat) : Option Nat :=
  match (queueOf s k).units.find? spillNext with
  | some u => if spillActive s && (badIn bad u).isNone then some (spillPool u.cells.length) else none
  | none => none

/-- A spill engine asks pool p for a tile in this core clock, with a command that waits, and stands before the place `rank`
in the rotating order (R150). -/
def spillRival (s : State) (p rank : Nat) : Bool :=
  s.awaits (fun c => match c with
    | .spillUnit k e => spillAsk s k.val e.cell == some p && decide (spillRank s (qXport k.val) < rank)
    | _ => false)

/-- A unit has its HBM tile (R152): its cells and its record are written, and its pool D tiles are released. -/
def spillTo (k t : Nat) (u : QUnit) (s : State) : State :=
  let p := spillPool u.cells.length
  let s := setMeta p t (unitRecord s.buf.carved p t (u.cells.map (fun e => e.2))) s
  let s := u.cells.foldl (fun s e => freeTile 4 e.1 s) (s.count .BUF_SPILL_UNIT_CNT (qXport k))
  editUnit k spillNext (fun u => some { u with hbm := some (p, t), cells := u.cells.map (fun e => (0, e.2)) }) s

/-- A spill engine receives NOBUF (R153). -/
def spillStays (k : Nat) (s : State) : State :=
  let s := s.count .BUF_SPILL_NOBUF_CNT (qXport k)
  let q := queueOf s k
  setQueue k { q with bound := true, units := updUnit spillNext (fun u => some { u with spill := false }) q.units } s

/-- SPILL_UNIT (R150, R152, R153, R156): the oldest unit to be spilled of a queue moves into one HBM tile. `bad` names a cell
that fails its check. Where the pool's port serves another request, or an error of its free store shows (R147), the engine
tries again in a later clock. -/
def spillUnit (k : Nat) (bad : Option Nat) (e : BufError) (s : State) : State :=
  match (queueOf s k).units.find? spillNext with
  | none => s
  | some u =>
    if !spillActive s then editUnit k spillNext (fun u => some { u with spill := false }) s
    else
      match badIn bad u with
      | some i => spillFail k i u s
      | none =>
        let p := spillPool u.cells.length
        match e with
        | .bitmap q _ =>
          let s := bufError [] e s
          if q.val = p then setTaken (256 + p) (s.now + 1) s else s
        | _ =>
          match allocHbm p (spillRival s p (spillRank s (qXport k))) (bufError [] e s) with
          | (.wait, s) => s
          | (.nobuf, s) => spillStays k s
          | (.tile t, s) => spillTo k t u s

def execSpillUnit (k : Fin 22528) (e : SpillErrors) (s : State) : Result :=
  .next (running (spillUnit k.val e.cell e.alloc) s)

/-- SPILL_UNIT_CLOSE (R151): 1,600 core clocks after a run's first cell. -/
def spillUnitClose (k : Nat) (s : State) : State :=
  let run := fun (u : QUnit) => !u.closed
  match (queueOf s k).units.find? run with
  | none => s
  | some u =>
    if k < 2048 || s.now < u.at_ + 1600 then s
    else editUnit k run (fun u => some { u with closed := true, spill := spillMark k u s }) s

def execSpillUnitClose (k : Fin 22528) (s : State) : Result := .next (running (spillUnitClose k.val) s)

/-! ### Refill (R154, R156) -/

/-- Allocate n tiles under a reservation. -/
def allocMany (slots : List Nat) : List (Nat × Cell) → State → List (Nat × Cell) × State
  | [], s => ([], s)
  | (_, c) :: l, s =>
    let (t, s) := allocRsv slots s
    let (r, s) := allocMany slots l s
    ((t, { c with tag := { c.tag with die := s.now } }) :: r, s)

/-- A spilled unit fails its check at refill (R156). -/
def refillFail (k p t : Nat) (u : QUnit) (s : State) : State :=
  let me := fun (v : QUnit) => v == u
  let s := quarFail p t (editUnit k me (fun _ => none) s)
  if k < 2048 then
    let s := u.cells.foldl (fun s e => cellGone e.2 s) (s.count .BUF_HBM_CRC_DROP_CNT (qXport k))
    (txDropped u.tag s).led tDrop4 (qXport k)
  else u.cells.foldl (fun s e => skyGone e.2 (s.count .BUF_HBM_CRC_CELL_CNT (qXport k))) s

/-- REFILL_UNIT (R149, R154 to R156): the first spilled unit of a queue returns to pool D where it fits the share, or nears
the head. `flips` are the bits of its metadata record that have turned over, and `bad` says that its cells are bad or cannot
be read. -/
def refillUnit (k : Nat) (flips : DWord) (bad : Bool) (e : BufError) (s : State) : State :=
  match refillNext s k with
  | none => s
  | some u =>
    let n := u.cells.length
    match u.hbm, reserveTurn (160 + qXport k) n true s with
    | some (p, t), (true, s) =>
      if bad || !recordOk s.buf.carved p t (metaOf s p t ^^^ flips.toNat) (u.cells.map (fun e => e.2)) then
        refillFail k p t u (unreserve n s)
      else
        let (cells, s) := allocMany (refillSlots (qXport k)) u.cells (bufError (refillSlots (qXport k)) e s)
        let s := editUnit k (fun v => v == u) (fun u => some { u with hbm := none, spill := false, cells := cells }) s
        (freeTile p t s).count .BUF_REFILL_UNIT_CNT (qXport k)
    | _, (_, s) => s.count .BUF_REFILL_WAIT_CNT (qXport k)

def execRefillUnit (k : Fin 22528) (e : RefillErrors) (s : State) : Result :=
  .next (running (refillUnit k.val e.flips e.bad e.alloc) s)

/-! ### The scrub (R157, R158) -/

/-- A tile is retired: listed in the first free entry of BUF_RETIRE, counted and reported. -/
def retireTile (p t : Nat) (s : State) : State :=
  let s := setTile p t (some { quar := true, retired := true }) s
  let slot := (List.range 1024).find? (fun j => !s.flag .BUF_RETIRE_VALID j)
  let idx := if p = 4 then t else (poolBase s.buf.carved p + t * poolBytes p) / 512
  let s := match slot with
    | some j => showUsed (s.setReg .BUF_RETIRE (BitVec.ofNat 32 (2 ^ 31 + (if p = 4 then 2 ^ 30 else 0) + idx)) j)
    | none => s.setFld .BUF_RETIRE_STATUS_OVERFLOW 1
  fault 5 p t (b2n slot.isSome) (s.count .BUF_RETIRE_CNT p)

/-- The scrub's request for a FREE tile, at the lowest priority (R148, R150, R157): it is served in a clock without a spill
request for the pool, and in pool D only where some FREE tile is not reserved (R159); otherwise it waits (DEDUCED, log 29). -/
def scrubTakes (p t : Nat) (s : State) : Bool × State :=
  if p = 4 then
    if (s.reg .BUF_POOL_RSV).toNat < (s.reg .BUF_POOL_FREE 4).toNat && !(notYet s s.now).contains (tileKey 4 t) then
      (true, takeTile 4 t s)
    else (false, s.count .BUF_ALLOC_WAIT_CNT 4)
  else if portTaken s p || spillRival s p 32 then (false, (hbmLoses p (if portTaken s p then 1 else 2) s).2)
  else if (notYet s s.now).contains (tileKey p t) then (false, s.count .BUF_ALLOC_WAIT_CNT p)
  else (true, takeTile p t (setTaken (256 + p) (s.now + 1) s))

/-- The pattern that the test leaves in an HBM tile's metadata record (R157). -/
def scrubWrites (p t : Nat) (s : State) : State := if p = 4 then s else setMeta p t 0xAAAAAAAAAAAAAAAA s

/-- The scrub visits a tile: whether the visit is over. -/
def scrubTile (p t : Nat) (pass : Bool) (s : State) : Bool × State :=
  match tileOf s p t with
  | none =>
    match scrubTakes p t s with
    | (false, s) => (false, s)
    | (true, s) => (true, if pass then freeTile p t (scrubWrites p t s) else quarFail p t s)
  | some x =>
    if !x.quar || x.retired then (true, s)
    else if !pass then (true, retireTile p t s)
    else if max 1 (s.fld .BUF_SCRUB_CFG_RELEASE_PASSES) ≤ x.passes + 1 then
      (true, (regAdd .BUF_POOL_FREE 1 p (regAdd .BUF_POOL_QUAR (-1) p
        (noteFree p t (setTile p t none (scrubWrites p t s))))).count .BUF_QUAR_RELEASE_CNT p)
    else (true, setTile p t (some { x with passes := x.passes + 1 }) (scrubWrites p t s))

/-- The pools that follow one in a pass: D, then P0 to P3. -/
def poolsAfter (p : Nat) : List Nat := if p = 4 then [0, 1, 2, 3] else range' (p + 1) (3 - p)

/-- SCRUB_VISIT (R157): the next tile is visited, and the position moves on (DESIGN CHOICE, log 24)
(DEDUCED, log 29). -/
def scrubVisit (pass : Bool) (e : BufError) (s : State) : State :=
  if !s.flag .BUF_SCRUB_CFG_EN then s.setFld .BUF_SCRUB_STATUS_ACTIVE 0
  else
    let p := s.fld .BUF_SCRUB_STATUS_POOL
    let t := s.fld .BUF_SCRUB_STATUS_POSITION
    let (ended, s) := if t < poolSize s p then scrubTile p t pass (bufError [192] e s) else (true, s)
    if !ended then s.setFld .BUF_SCRUB_STATUS_ACTIVE 1
    else if t + 1 < poolSize s p then
      (s.setFld .BUF_SCRUB_STATUS_POSITION (t + 1)).setFld .BUF_SCRUB_STATUS_ACTIVE 1
    else
      match (poolsAfter p).find? (fun q => decide (0 < poolSize s q)) with
      | some q =>
        ((s.setFld .BUF_SCRUB_STATUS_POOL q).setFld .BUF_SCRUB_STATUS_POSITION 0).setFld .BUF_SCRUB_STATUS_ACTIVE 1
      | none => s.setReg .BUF_SCRUB_STATUS 0x40000000#32

def execScrubVisit (pass : Bool) (e : BufError) (s : State) : Result := .next (running (scrubVisit pass e) s)

end Sys2Proof.Machine
end

