-- ==== Sys2Proof/Machine/SkyPair.lean ====
section
/-!
DEFINITION. The sky's slots (R186), pair state and relay credit (R240 to R244), resequencer streams (R246, R247, R252),
sky queues as sources of cells (R169, R235), and lanes that have stopped (R249, R250).
-/
namespace Sys2Proof.Machine

/-! ### Slots and epochs (R186) -/

/-- TS64 units of a slot, and of an epoch. -/
def slotUnits : Nat := 2048
def epochUnits (s : State) : Nat := slotUnits * 2 ^ epochLog2 s

/-- The slot of an instant of the time counter. -/
def slotAt (s : State) (ts : Nat) : SlotId :=
  ⟨ts / epochUnits s % 2 ^ 48, ts / slotUnits % 2 ^ epochLog2 s⟩

/-- The running slot and epoch, by the module's own counter. -/
def curSlot (s : State) : SlotId := slotAt s s.ts64
def curEpoch (s : State) : Nat := (curSlot s).epoch

/-- First instant of a slot, in TS64 units. -/
def slotStart (s : State) (x : SlotId) : Nat := x.epoch * epochUnits s + x.slot * slotUnits

/-- The next slot. -/
def nextSlot (s : State) (x : SlotId) : SlotId :=
  if x.slot + 1 = 2 ^ epochLog2 s then ⟨x.epoch + 1, 0⟩ else ⟨x.epoch, x.slot + 1⟩

/-- A setting that applies at an epoch boundary (R230, R254, R277). -/
def inForce (s : State) (r : Reg) : Word := SMap.getD s.sky.inForce (r.off) (r.resetOf 0 0)
def fldF (s : State) (f : Fld) : Nat := f.get (inForce s f.reg)

/-- SKY_STATE.STATE: 0 OFF, 1 LISTEN, 2 JOINING, 3 JOINED, 4 DARK. -/
def skyState (s : State) : Nat := s.fld .SKY_STATE_STATE

/-- Some dark cause is set (R199). -/
def darkAny (s : State) : Bool :=
  s.flag .SKY_STATE_MAP || s.flag .SKY_STATE_LULL || s.flag .SKY_STATE_DUSK || s.flag .SKY_STATE_TX_OFF

/-- Peer d is present, and compatible (R196, R197). -/
def present (s : State) (d : Nat) : Bool := decide (d < 128) && s.flag .SKY_PEER_PRESENT d
def compatible (s : State) (d : Nat) : Bool := present s d && s.fld .SKY_PEER_FORMAT_TX d != 0

/-- The peers that are present. -/
def presentPeers (s : State) : List Nat := (List.range 128).filter (present s)

/-- Every sky laser is held off: dusk or emergency quiet (R396, R399). -/
def lasersOff (s : State) : Bool := s.pwr.dusk.isSome || s.pwr.quiet

def slane (s : State) (n : Nat) : SkyLane := SMap.getD s.sky.lanes n {}
def setSlane (n : Nat) (l : SkyLane) (s : State) : State :=
  { s with sky := { s.sky with lanes := SMap.put s.sky.lanes n {} l } }

def pairOf (s : State) (d : Nat) : PairSt := SMap.getD s.sky.pairs d {}
def setPair (d : Nat) (p : PairSt) (s : State) : State :=
  { s with sky := { s.sky with pairs := SMap.put s.sky.pairs d {} p } }

/-! ### Credit (R240 to R242) -/

/-- C(r) and O(x). -/
def creditHeld (s : State) (r : Nat) : Nat := (s.reg .SKY_CREDIT_HELD r).toNat
def creditOut (s : State) (x : Nat) : Int := sgn 32 (s.reg .SKY_RELAY_OUT x).toNat

/-- Add to C(r). -/
def addCredit (r : Nat) (n : Int) (s : State) : State := regAdd .SKY_CREDIT_HELD n r s

/-- Add movements of an epoch to a pair: its totals and its history of the last epochs. -/
def move (e : Nat) (f : PairEp → PairEp) (p : PairSt) : PairSt :=
  let h := (p.hist.filter (fun x => decide (e ≤ x.epoch + 8)))
  match h.find? (fun x => x.epoch == e) with
  | some x => { p with hist := h.map (fun y => if y = x then f x else y) }
  | none => { p with hist := h ++ [f { epoch := e }] }

/-- A total over bursts of epochs up to `asof`. -/
def totalTo (p : PairSt) (asof total : Nat) (f : PairEp → Nat) : Nat :=
  total - ((p.hist.filter (fun x => decide (asof < x.epoch))).map f).sum

/-- RELAY_EN in force. -/
def relayEn (s : State) : Bool := fldF s .SKY_RELAY_CFG_EN != 0

/-- The credit outstanding to every module, each count below zero taken as zero. -/
def creditOutAll (s : State) : Int := ((List.range 128).map (fun x => max 0 (creditOut s x))).sum

/-- The grant of R240. -/
def grantTo (s : State) (x : Nat) : Nat :=
  if relayEn s && compatible s x then
    (max 0 (min (fldF s .SKY_RELAY_CFG_GRANT_MAX : Int)
      (min (16 * (fldF s .SKY_RELAY_LIMIT_SRC_LIMIT : Int) - max 0 (creditOut s x))
        (64 * (fldF s .SKY_RELAY_LIMIT_TOTAL_LIMIT : Int) - creditOutAll s)))).toNat
  else 0

/-- A grant of g cells to x in a burst of epoch e. -/
def grant (x g e : Nat) (s : State) : State :=
  if g = 0 then s
  else
    let p := pairOf s x
    regAdd .SKY_RELAY_OUT g x (setPair x (move e (fun h => { h with gr := h.gr + g }) { p with gr := p.gr + g }) s)

/-! ### Cells chosen for bursts and returned (R235, R249) -/

/-- Where a returned cell stands among the cells returned before. -/
def rankBefore (r : Nat) (u : QUnit) : Bool := match u.rank with
  | some q => decide (q < r)
  | none => false

/-- A chosen cell returns to the head of its queue, in the order of choice; a relay cell returns its credit (R241,
R249). -/
def returnCell (e : Nat) (c : Chosen) (s : State) : State :=
  let q := queueOf s c.queue
  let u : QUnit := { n := 1, cells := [(c.tile, c.cell)], src := 0, closed := true, at_ := c.cell.tag.at_,
                     rank := some c.rank }
  let s := setQueue c.queue { q with
    units := q.units.takeWhile (rankBefore c.rank) ++ [u] ++ q.units.dropWhile (rankBefore c.rank) } s
  if c.relay then
    let p := pairOf s c.dst
    addCredit c.dst 1 (setPair c.dst (move e (fun h => { h with sent := h.sent - 1 }) { p with sent := p.sent - 1 }) s)
  else s

/-- The cells chosen for a lane's burst that satisfy a test return to their queues (DEDUCED, log 34). -/
def returnChosen (n : Nat) (p : Chosen → Bool) (s : State) : State :=
  let l := slane s n
  let e := match l.fill with
    | some x => x.epoch
    | none => 0
  let back := l.chosen.filter p
  let s := back.foldl (fun s c => noteDepth c.queue s) s
  back.foldl (fun s c => returnCell e c s) (setSlane n { l with chosen := l.chosen.filter (fun c => !p c) } s)

/-! ### The head of a sky queue -/

/-- The head cell of a sky queue, where it lies in pool D since before a clock. -/
def headCell (s : State) (k before : Nat) : Option (Nat × Cell) :=
  match (queueOf s k).units with
  | [] => none
  | u :: _ =>
    if u.hbm.isSome then none
    else
      match u.cells with
      | (t, c) :: _ => if c.tag.die < before then some (t, c) else none
      | [] => none

/-- Take the head cell off a sky queue; an emptied queue has its deficit set to zero (R168). -/
def popHead (k : Nat) (s : State) : State :=
  let q := queueOf s k
  match q.units with
  | [] => s
  | u :: us =>
    let rest := u.cells.drop 1
    let us := if rest.isEmpty then us else { u with n := u.n - 1, cells := rest } :: us
    setQueue k { q with units := us, deficit := if us.isEmpty then 0 else q.deficit } s

/-! ### Discards from sky queues (R244, R252, R253) -/

/-- Cells of a unit that satisfy a test are discarded and counted; the others stay. -/
def cutUnit (k : Nat) (cnt : Cnt) (p : Cell → Bool) (u : QUnit) (s : State) : Option QUnit × State :=
  let out := u.cells.filter (fun e => p e.2)
  let rest := u.cells.filter (fun e => !p e.2)
  if out.isEmpty then (some u, s)
  else
    let s := out.foldl (fun s e =>
      let s := if u.hbm.isSome then s else freeTile 4 e.1 s
      skyGone e.2 (s.count cnt (qXport k))) s
    if rest.isEmpty then
      (none, match u.hbm with
        | some (p, t) => freeTile p t s
        | none => s)
    else (some { u with cells := rest, n := rest.length }, s)

/-- Discard the cells of a sky queue that satisfy a test. -/
def cutQueue (k : Nat) (cnt : Cnt) (p : Cell → Bool) (s : State) : State :=
  let q := queueOf s k
  if q.units.isEmpty then s
  else
    let (us, s) := q.units.foldl (fun (a : List QUnit × State) u =>
      match cutUnit k cnt p u a.2 with
      | (some v, s) => (a.1 ++ [v], s)
      | (none, s) => (a.1, s)) ([], s)
    setQueue k { q with units := us, deficit := if us.isEmpty then 0 else q.deficit } s

/-- The sky queues that hold units. -/
def skyQueues (s : State) : List Nat := (s.tm.queues.filter (fun e => decide (2048 ≤ e.1))).map (fun e => e.1)

/-- Discard from every sky queue whose number satisfies a test. -/
def cutQueues (sel : Nat → Bool) (cnt : Cnt) (p : Cell → Bool) (s : State) : State :=
  ((skyQueues s).filter sel).foldl (fun s k => cutQueue k cnt p s) s

/-- The module that a sky queue leads to. -/
def qDest (k : Nat) : Nat := let v := qValue k; if v < 1024 then v / 8 else (v - 1024) / 2

/-- Every chosen cell that satisfies a test returns, lane by lane. -/
def returnAll (p : Chosen → Bool) (s : State) : State :=
  (s.sky.lanes.map (fun e => e.1)).foldl (fun s n => returnChosen n p s) s

/-! ### Resequencer streams (R246, R247, R252) -/

/-- The sky pipeline at whose input a stream's frames enter the crossbar (R247). -/
def streamPipe (src c : Nat) : Nat := (src + c) % 16

def reseqOf (s : State) (src c : Nat) : Reseq := SMap.getD s.sky.reseq (8 * src + c) {}
def setReseq (src c : Nat) (r : Reseq) (s : State) : State :=
  { s with sky := { s.sky with reseq := SMap.put s.sky.reseq (8 * src + c) {} r } }

/-- A frame of a stream is discarded: it counts on both sides of ledger 3 (R422). -/
def streamDrop (cnt : Cnt) (src c : Nat) (s : State) : State :=
  (((s.count cnt src).led tIn3 (16 + streamPipe src c)).led tDrop3 (16 + streamPipe src c))

/-- Values ahead of `next`, modulo 2^24 (DEDUCED, log 57). -/
def ahead (seq next : Nat) : Nat := (seq + 2 ^ 24 - next % 2 ^ 24) % 2 ^ 24

/-- A stream reset (R252). -/
def resetStream (src c : Nat) (s : State) : State :=
  let r := reseqOf s src c
  let top := r.held.foldl (fun a h => max a (ahead h.seq r.next + 1)) 0
  let s := s.count .SKY_PAIR_LOST_CNT src 0 (top - r.held.length)
  let s := r.held.foldl (fun s h => dropCell h.tile h.cell s) s
  let s := r.opened.foldl (fun s e => dropCell e.1 e.2 s) s
  let s := if r.held.isEmpty && r.opened.isEmpty then s else streamDrop .SKY_PAIR_FRAME_DISCARD_CNT src c s
  setReseq src c {} s

def resetStreams (src : Nat) (s : State) : State := (List.range 8).foldl (fun s c => resetStream src c s) s

/-! ### Pair resets (R244) -/

/-- Cells of source y on their way through the crossbar no longer count in O(y). -/
def undue (y : Nat) (s : State) : State :=
  let f := fun (x : XCell) =>
    if x.cell.srcMod = y then { x with cell := { x.cell with tag := { x.cell.tag with due := false } } } else x
  let g := fun (m : SMap (List XCell)) => m.map (fun e => (e.1, e.2.map f))
  { s with xbar := { s.xbar with
    feed := g s.xbar.feed, stage := g s.xbar.stage, cross := g s.xbar.cross
    reo := s.xbar.reo.map (fun e => (e.1, { e.2 with held := e.2.held.map f })) } }

/-- The module resets its pair state with y (R244). -/
def resetPair (y : Nat) (s : State) : State :=
  let s := returnAll (fun c => c.relay && c.dst == y) s
  let s := returnAll (fun c => decide (1024 ≤ qValue c.queue) && (qDest c.queue == y || c.cell.srcMod == y)) s
  let s := s.count .SKY_CREDIT_FORFEIT_CNT 0 0 (creditHeld s y)
  let s := cutQueues (fun k => qKind k == 2 && qDest k == y) .SKY_PEER_LOSS_CELL_CNT (fun _ => true) s
  let s := cutQueues (fun k => qKind k == 2) .SKY_PEER_LOSS_CELL_CNT (fun c => c.srcMod == y) s
  let s := (undue y s).setReg .SKY_CREDIT_HELD 0#32 y
  let s := s.setReg .SKY_RELAY_OUT 0#32 y
  let p := pairOf s y
  resetStreams y (setPair y { p with gr := 0, rg := 0, sent := 0, recv := 0, hist := [] } s)

/-! ### Lanes that have stopped (R249, R250) -/

/-- The pipeline that takes the cells of a pipeline whose enabled share of d is zero: the largest, the lowest on a
tie. -/
def moveTarget (s : State) (d p : Nat) : Option Nat :=
  let e := shares s d true
  if e.getD p 0 != 0 || e.sum = 0 then none else some (argMax (e.map (fun (n : Nat) => (n : Int))) 0 0 (-1))

/-- Cells of a queue that can be moved now: those in pool D ahead of any spilled unit. -/
def movable (us : List QUnit) : List QUnit := us.takeWhile (fun u => u.hbm.isNone)

/-- Move the cells of a sky queue to another pipeline (R250). -/
def moveQueue (k q : Nat) (s : State) : State :=
  let p := qXport k
  let us := (queueOf s k).units
  let cells := (movable us).flatMap (fun u => u.cells)
  if cells.isEmpty then s
  else
    let rest := us.dropWhile (fun u => u.hbm.isNone)
    let s := setQueue k { queueOf s k with units := rest, deficit := if rest.isEmpty then 0 else (queueOf s k).deficit } s
    let s := s.count .SKY_LANE_MOVE_CELL_CNT p 0 cells.length
    feedPut p (cells.map (fun e => ⟨e.2, p, 16 + q, qValue k, false, 0, 0, some e.1, 0, false⟩)) s

/-- The cells of a pipeline's queues that R250 moves. -/
def moveLanes (p : Nat) (s : State) : State :=
  ((skyQueues s).filter (fun k => qXport k == 16 + p)).foldl (fun s k =>
    match moveTarget s (qDest k) p with
    | some q => moveQueue k q s
    | none => s) s

/-- Lanes have stopped (R249): their chosen cells return, a stopped lane waits for a new selection, and R250 moves cells. -/
def lanesStopped (s : State) : State :=
  let s := ((s.sky.lanes.map (fun e => e.1)).filter (fun n => laneStopped s n)).foldl
    (fun s n => let s := returnChosen n (fun _ => true) s; setSlane n { slane s n with live := false } s) s
  (List.range 16).foldl (fun s p => moveLanes p s) s

/-- A write to SKY_LANE_EN (R249). -/
def laneEnWrite (i : Nat) (v : Word) (s : State) : State := lanesStopped (s.setReg .SKY_LANE_EN v i)

def execLaneEnWrite (a : Agent) (i : Fin 8) (v : Word) (s : State) : Result :=
  let w := write32 a .SKY_LANE_EN v.toNat i.val
  .next (guarded w (far w (laneEnWrite i.val v)) s)

/-- Set or clear bit n of an array of lane bits. -/
def putLaneBit (r : Reg) (n : Nat) (b : Bool) (s : State) : State :=
  s.setReg r (BitVec.ofNat 32 (putBit (s.reg r (n / 32)).toNat (n % 32) b)) (n / 32)

/-- LANE_TX_FAULT (R249). -/
def laneTxFault (n : Nat) (s : State) : State :=
  if n < skyLanes s then
    let s := (putLaneBit .SKY_LANE_FAULT n true s).count .SKY_LANE_TXFAULT_CNT
    lanesStopped (fault 0x0B n 0 0 s)
  else s

def execLaneTxFault (n : Fin 256) (s : State) : Result := .next (laneTxFault n.val s)

/-! ### Peers (R196, R252) -/

/-- A peer becomes absent (R252). -/
def peerGone (d : Nat) (s : State) : State :=
  let s := s.setFld .SKY_PEER_PRESENT 0 d
  let s := returnAll (fun c => c.dst == d || qDest c.queue == d) s
  let s := cutQueues (fun k => qKind k == 1 && qDest k == d) .SKY_PEER_LOSS_CELL_CNT (fun _ => true) s
  resetPair d s

/-- PEER_TIMEOUT (R196): TIMEOUT whole epochs have passed since the last accepted hello (DEDUCED, log 36). -/
def peerTimeout (d : Nat) (s : State) : State :=
  if present s d && decide ((pairOf s d).hello + max 1 (s.fld .SKY_PEER_CFG_TIMEOUT) < s.sky.epoch) then peerGone d s
  else s

def execPeerTimeout (d : Fin 128) (s : State) : Result := .next (peerTimeout d.val s)

end Sys2Proof.Machine
end

