-- ==== Sys2Proof/Machine/SkyMap.lean ====
section
/-!
DEFINITION. Slot maps (R188 to R191, R193): arming, checking, disarming and applying a bank, and the sky map M(E).
-/
namespace Sys2Proof.Machine

/-- A write to SKY_MAP_BANK word i of bank b (R189): whether the bank takes it. -/
def bankWritable (s : State) (b : Nat) : Bool :=
  let arming := match s.sky.arming with
    | some (_, c, _, _) => c == b
    | none => false
  b != activeMap s && !(s.flag .SKY_MAP_STATUS_ARMED && s.fld .SKY_MAP_STATUS_ARMED_BANK == b) && !arming

/-- A write to a map bank; on an LZ-S1024 the bytes of lanes 128 to 255 take none (R4, R189). -/
def bankWrite (rw : RegWrite) (b i : Nat) (s : State) : State :=
  if s.sys.part = .s1024 && decide (32 ≤ i % 64) then s
  else if bankWritable s b then s.setReg .SKY_MAP_BANK rw.val b i
  else logWrite 4 rw s

/-- E_a as written. -/
def applyReg (s : State) : Nat := (s.reg .SKY_MAP_APPLY_LO).toNat + 2 ^ 32 * (s.reg .SKY_MAP_APPLY_HI).toNat

/-- MAP_ARM (R190): the check starts, on the bank and the values as they stand. -/
def mapArm (rw : RegWrite) (s : State) : State :=
  if s.flag .SKY_MAP_STATUS_VALIDATING then logWrite 4 rw s
  else
    let a := (s.now, s.fld .SKY_MAP_ARM_BANK, s.fld .SKY_MAP_ARM_MAP_ID, applyReg s)
    ({ s with sky := { s.sky with arming := some a } }).setFld .SKY_MAP_STATUS_VALIDATING 1

/-- A byte that refuses an arm with code 4 (R190). -/
def badByte (s : State) (slot v : Nat) : Bool :=
  if slot = 0 then v != 0xFE else v == 0xFE || (decide (0x80 ≤ v) && decide (v ≤ 0xFD)) || v == ownMod s

/-- The bytes that the check reads, by offset. -/
def mapOffsets (s : State) : List Nat := (List.range (256 * 2 ^ epochLog2 s)).filter (fun o => decide (o % 256 < skyLanes s))

/-- The first offset of a bank whose byte satisfies a test. -/
def firstByte (s : State) (b : Nat) (p : Nat → Nat → Bool) : Option Nat :=
  (mapOffsets s).find? (fun o => p (o / 256) (mapByte s b (o / 256) (o % 256)))

/-- The first ARM_ERR code that applies, with the offending offset where there is one (R190). -/
def armErr (s : State) (b id ea : Nat) : Nat × Option Nat :=
  if b = activeMap s then (1, none)
  else if s.flag .SKY_MAP_STATUS_ARMED then (2, none)
  else if id = s.fld .SKY_MAP_STATUS_ACTIVE_MAP_ID then (3, none)
  else
    match firstByte s b (badByte s) with
    | some o => (4, some o)
    | none =>
      match (if skySize s = 32 then firstByte s b (fun j v => j != 0 && decide (32 ≤ v) && decide (v < 128)) else none) with
      | some o => (5, some o)
      | none => (if ea ≤ curEpoch s + 1 then 6 else 0, none)

/-- MAP_ARM_CHECK_DONE (R190). -/
def mapArmDone (s : State) : State :=
  match s.sky.arming with
  | none => s
  | some (_, b, id, ea) =>
    let (e, o) := armErr s b id ea
    let s := ({ s with sky := { s.sky with arming := none } }).setFld .SKY_MAP_STATUS_VALIDATING 0
    let s := s.setFld .SKY_MAP_STATUS_ARM_ERR e
    if e = 0 then
      let s := (s.setFld .SKY_MAP_STATUS_ARMED 1).setFld .SKY_MAP_STATUS_ARMED_BANK b
      { s.setFld .SKY_MAP_STATUS_ARMED_MAP_ID id with
        sky := { s.sky with applyAt := ea, lateArmed := false } }
    else
      let s := match o with
        | some v => s.setReg .SKY_MAP_ERR_ADDR (BitVec.ofNat 32 v)
        | none => s
      s.count .SKY_MAP_ARM_REFUSE_CNT

/-- The armed bank is due (R191). -/
def mapDue (s : State) : Bool := s.flag .SKY_MAP_STATUS_ARMED && decide (s.sky.applyAt ≤ curEpoch s)

/-- MAP_APPLY (R191): the armed bank becomes active. -/
def mapApply (s : State) : State :=
  if mapDue s then
    let s := (s.setFld .SKY_MAP_STATUS_ACTIVE_BANK (s.fld .SKY_MAP_STATUS_ARMED_BANK)).setFld
      .SKY_MAP_STATUS_ACTIVE_MAP_ID (s.fld .SKY_MAP_STATUS_ARMED_MAP_ID)
    let s := s.setFld .SKY_MAP_STATUS_ARMED 0
    ({ s with sky := { s.sky with lateArmed := true } }).count .SKY_MAP_APPLY_CNT
  else s

/-- ARMED clears without an application. -/
def unarm (s : State) : State := s.setFld .SKY_MAP_STATUS_ARMED 0

/-- MAP_DISARM (R191): a disarm on the apply edge or later comes too late. -/
def mapDisarm (s : State) : State :=
  let s := mapApply s
  if s.flag .SKY_MAP_STATUS_ARMED then unarm s
  else if s.sky.lateArmed then
    ({ s with sky := { s.sky with lateArmed := false } }).setFld .SKY_MAP_STATUS_DISARM_LATE 1
  else s

/-- A write to SKY_MAP_CTRL (DEDUCED, log 34). -/
def mapCtrl (rw : RegWrite) (s : State) : State :=
  let s := if Fld.SKY_MAP_CTRL_DISARM.get rw.val = 1 then mapDisarm s else s
  if Fld.SKY_MAP_CTRL_ARM.get rw.val = 1 then mapArm rw s else s

def execMapArm (a : Agent) (s : State) : Result :=
  let w := write32 a .SKY_MAP_CTRL 1
  .next (far w (mapArm w) s)

def execMapArmCheckDone (s : State) : Result := .next (mapArmDone s)

def execMapDisarm (a : Agent) (s : State) : Result := .next (far (write32 a .SKY_MAP_CTRL 2) mapDisarm s)

def execMapApply (s : State) : Result := .next (mapApply s)

/-- The sky map that the last announcement gives for epoch e (R193). -/
def annMap (s : State) (e : Nat) : Option Nat :=
  if s.flag .SKY_ANNOUNCE_TAKEN then
    let ea := (s.reg .SKY_ANNOUNCE_APPLY_LO).toNat + 2 ^ 32 * (s.reg .SKY_ANNOUNCE_APPLY_HI).toNat
    some (if s.flag .SKY_ANNOUNCE_NEXT_VALID && decide (ea ≤ e) then s.fld .SKY_ANNOUNCE_NEXT_MAP_ID
      else s.fld .SKY_ANNOUNCE_CUR_MAP_ID)
  else none

/-- M(e) (R193): the holder's is its own active map. -/
def skyMap (s : State) (e : Nat) : Option Nat :=
  if s.time.heldAt.isSome then some (s.fld .SKY_MAP_STATUS_ACTIVE_MAP_ID) else annMap s e

end Sys2Proof.Machine
end

