-- ==== Sys2Proof/Machine/SkyTime.lean ====
section
/-!
DEFINITION. Sky time and the zenith lease (chapter 11): measurement from time frames (R261, R262), rate correction (R264,
R449), steps (R265 to R267), the lease (R268 to R272), lull (R273, R274) and the TAI offset (R275).
-/
namespace Sys2Proof.Machine

/-! ### Lane delays (R262, R263) -/

/-- Measures no older than this stay in use (R261, R262). -/
def measAge (s : State) : Nat := 2 * (skySize s - 1)

def recent (s : State) (e : Nat) : Bool := decide (curEpoch s ≤ e + measAge s)

/-- The one-way delay d(n) in ps that places bursts (R263). -/
def laneDelay (s : State) (n : Nat) : Nat :=
  if s.flag .SKYT_LANE_DELAY_VALID n then s.fld .SKYT_LANE_DELAY_DELAY n else s.fld .SKYT_LANE_DELAY_CFG_DELAY n

/-- A recent sum S_ab(n), in half units of TS64. -/
def sumOf (s : State) (n a b : Nat) : Option Int :=
  match SMap.get? s.time.sums ((128 * n + min a b) * 128 + max a b) with
  | some m => if recent s m.epoch then some m.v else none
  | none => none

/-- The estimates of d(n), one for each triangle, in quarter units of TS64 (R262). -/
def estimates (s : State) (n : Nat) : List Int :=
  let i := ownMod s
  let js := (List.range 128).filterMap (fun j => if j = i then none else (sumOf s n i j).map (fun v => (j, v)))
  js.flatMap (fun a => js.filterMap (fun b =>
    if a.1 < b.1 then (sumOf s n a.1 b.1).map (fun v => a.2 + b.2 - v) else none))

/-- A quarter unit of TS64 is 125/8 ps. -/
def quartersToPs (q : Int) (n : Nat) : Int := q * 125 / (8 * (n : Int))

/-- SKYT_LANE_DELAY shows the mean of the estimates and the triangles behind it (R262). -/
def showDelay (n : Nat) (s : State) : State :=
  let l := estimates s n
  if l.isEmpty then s.setFld .SKYT_LANE_DELAY_VALID 0 n
  else
    let d := (max 0 (quartersToPs l.sum l.length)).toNat % 2 ^ 24
    s.setReg .SKYT_LANE_DELAY (BitVec.ofNat 32 (2 ^ 31 + min 127 l.length * 2 ^ 24 + d)) n

/-- The spread of a lane's estimates in 1/8 ps, where it has two or more triangles (R270). -/
def spreadOf (s : State) (n : Nat) : Option Int :=
  match estimates s n with
  | a :: b :: l => some (125 * ((b :: l).foldl max a - (b :: l).foldl min a))
  | _ => none

/-- An enabled lane of the part. -/
def laneEnabled (s : State) (n : Nat) : Bool :=
  decide (n < skyLanes s) && (s.reg .SKY_LANE_EN (n / 32)).toNat.testBit (n % 32)

def enabledLanes (s : State) : List Nat := (List.range (skyLanes s)).filter (laneEnabled s)

/-! ### Deskew alarms (R228) -/

/-- The deskew limit in force, in ps. -/
def deskewPs (s : State) : Nat := min 2000 (max 64 (fldF s .SKY_DESKEW_CFG_LIMIT_NS)) * 1000

/-- The smallest receive delay of an enabled lane. -/
def minDelay (s : State) : Nat :=
  match (enabledLanes s).map (laneDelay s) with
  | [] => 0
  | d :: l => l.foldl min d

/-- A lane is out of deskew: its receive delay exceeds the smallest by more than the limit. -/
def outOfDeskew (s : State) (n lo : Nat) : Bool := laneEnabled s n && decide (lo + deskewPs s < laneDelay s n)

/-- The deskew alarm of lane n follows its delay; a lane that goes out of deskew writes a fault record with the excess
over the smallest delay in ns. -/
def deskewAlarm (lo n : Nat) (s : State) : State :=
  let b := outOfDeskew s n lo
  let was := s.flag .SKY_LANE_ALARM_DESKEW n
  if b = was then s
  else
    let s := s.setFld .SKY_LANE_ALARM_DESKEW (b2n b) n
    if b then fault 0x0A n ((laneDelay s n - lo) / 1000) 0 s else s

/-- The alarms of every lane. -/
def deskewAlarms (s : State) : State :=
  let lo := minDelay s
  (List.range (skyLanes s)).foldl (fun s n => deskewAlarm lo n s) s

/-! ### The lease (R269) -/

/-- SKYT_LEASE and SKYT_LEASE_END show the lease (R277). -/
def showLease (s : State) : State :=
  (s.setFld .SKYT_LEASE_HELD (b2n s.time.heldAt.isSome)).setReg64 .SKYT_LEASE_END_LO .SKYT_LEASE_END_HI
    ((if s.time.heldAt.isSome then s.time.ownEnd else s.time.leaseEnd) % 2 ^ 48)

/-- The lease is taken at the start of epoch e (R269). -/
def takeLease (e : Nat) (s : State) : State :=
  let s := { s with time := { s.time with
    heldAt := some e, ownEnd := e + 1024, announced := [e + 1024], echoes := [], checked := false } }
  showLease ((s.count .SKYT_TAKEOVER_CNT).led tTake10 0)

/-- The holder stops, with this lease end: a release, or a lapse (R269). What it last heard of a holder stands (R272 to
R274) (DEDUCED, log 37). -/
def stopLease (till : Nat) (s : State) : State :=
  if s.time.heldAt.isSome then
    let s := { s with time := { s.time with
      heldAt := none, relEnd := some till, released := true } }
    showLease ((s.count .SKYT_RELEASE_CNT).led tEnd10 0)
  else s

/-- A release at once (R269): the lease ends 64 epochs on. -/
def releaseLease (s : State) : State := stopLease (curEpoch s + 64) s

/-- The candidate row of R269. -/
def mayTake (s : State) (e : Nat) : Bool :=
  let t := s.time
  ((t.role == 1 && decide (t.leaseEnd + 64 ≤ e)) || (t.role == 2 && decide (t.leaseEnd + 320 ≤ e)))
    && skyState s == 3 && t.diag == 0 && !s.flag .SKY_STATE_LULL && !s.flag .SKYT_STATUS_TAKEOVER_FAIL && !t.released
    && t.heldAt.isNone

/-- The start of the running epoch has been processed. -/
def epochOpen (s : State) : Bool := s.sky.epoch == curEpoch s

/-- LEASE_TAKEOVER (R269). -/
def leaseTakeover (s : State) : State := if epochOpen s && mayTake s s.sky.epoch then takeLease s.sky.epoch s else s

def execLeaseTakeover (s : State) : Result := .next (leaseTakeover s)

/-- LEASE_RENEW (R269). -/
def leaseRenew (s : State) : State :=
  match s.time.heldAt with
  | none => s
  | some t =>
    let e := s.sky.epoch
    if epochOpen s && (e - t) % 256 = 0 && s.time.role != 0 && s.time.diag == 0 then
      showLease { s with time := { s.time with
        ownEnd := e + 1024
        announced := if s.time.announced.contains (e + 1024) then s.time.announced else (e + 1024) :: s.time.announced } }
    else s

def execLeaseRenew (s : State) : Result := .next (leaseRenew s)

/-- LEASE_LAPSE (R269). -/
def leaseLapse (s : State) : State :=
  if s.time.heldAt.isSome && decide (s.time.ownEnd ≤ s.sky.epoch + 64) then stopLease s.time.ownEnd s else s

def execLeaseLapse (s : State) : Result := .next (leaseLapse s)

/-- TAKEOVER_CHECK (R271). -/
def takeoverCheck (s : State) : State :=
  match s.time.heldAt with
  | none => s
  | some t =>
    if s.time.checked || s.sky.epoch < t + 64 then s
    else
      let s := { s with time := { s.time with checked := true } }
      let all := (presentPeers s).length
      let n := ((presentPeers s).filter (fun d => s.time.echoes.contains d)).length
      if 2 * n < all then
        let s := (releaseLease s).setFld .SKYT_STATUS_TAKEOVER_FAIL 1
        fault 0x0F n all 0 (s.count .SKYT_TAKEOVER_FAIL_CNT)
      else s

def execTakeoverCheck (s : State) : Result := .next (takeoverCheck s)

/-! ### Lull (R273, R274) -/

/-- LULL_ENTRY (R273): r becomes f at the next boundary (R256, R264). -/
def lullEntry (s : State) : State :=
  if s.flag .SKYT_STATUS_VALID && s.time.heldAt.isNone && !s.flag .SKYT_STATUS_LULL
      && decide (s.time.heardAt + 256 ≤ s.sky.epoch) then
    (s.setFld .SKYT_STATUS_LULL 1).count .SKYT_LULL_CNT
  else s

def execLullEntry (s : State) : Result := .next (lullEntry s)

/-- The lull limit is reached (R274): by time (0) or by an offset (1), in ps. -/
def lullLimit (why : Nat) (ps : Int) (s : State) : State :=
  let s := ((s.setFld .SKY_STATE_LULL 1).setFld .SKYT_STATUS_VALID 0).count .SKYT_LULL_LIMIT_CNT
  fault 0x11 why (unsgn 64 ps) 0 { s with time := { s.time with firstOff := false } }

/-- The lull limit in force, in ms. -/
def limitMs (s : State) : Nat := min 200 (max 1 (fldF s .SKYT_LULL_CFG_LIMIT_MS))

/-- An offset in half units of TS64 as ps: a half unit is 125/4 ps. -/
def halvesToPs (h : Int) : Int := (h * 125).tdiv 4

/-- The last offset that was measured with the holder. -/
def lastOffset (s : State) : Int :=
  match s.time.holder with
  | some (j, _, _, _) => (match SMap.get? s.time.offs j with
    | some m => halvesToPs m.v
    | none => 0)
  | none => 0

/-- LULL_LIMIT (R274): LIMIT_MS has passed since the last time frame with HOLDER set. -/
def lullTime (s : State) : State :=
  match s.time.heardClk with
  | some t =>
    if s.flag .SKYT_STATUS_VALID && s.time.heldAt.isNone && decide (t + limitMs s * clkMs ≤ s.now) then
      lullLimit 0 (lastOffset s) s
    else s
  | none => s

def execLullLimit (s : State) : Result := .next (lullTime s)

/-! ### Time frames (R216, R261, R262, R268) -/

/-- Order of precedence of a module (R268): smaller goes first. -/
def precedence (cand m : Nat) : Nat := (if cand = 1 then 0 else if cand = 2 then 1 else 2) * 128 + m

/-- A module is recognised as holder: it is another than this one, so the end of a lease released before is no longer shown
(R261). -/
def recognise (j cand : Nat) (s : State) : State :=
  let same := match s.time.holder with
    | some (h, _, _, _) => h == j
    | none => false
  let s := if same then s else { s with time := { s.time with marks := [], fresh := [] } }
  let s := { s with time := { s.time with relEnd := none, holder := some (j, cand, curEpoch s, s.now) } }
  let s := s.setFld .SKYT_LEASE_KNOWN 1
  (s.setFld .SKYT_LEASE_HOLDER_ROLE cand).setFld .SKYT_LEASE_HOLDER_ID j

/-- A time frame with HOLDER set comes from module j (R268, R272). -/
def holderFrame (j cand : Nat) (s : State) : State :=
  if s.time.heldAt.isSome then
    let s := ledgerFault 10 1 (ownMod s) j s
    if precedence cand j < precedence s.time.role (ownMod s) then
      let s := fault 0x10 j 0 0 (releaseLease s)
      recognise j cand { s with time := { s.time with firstOff := true } }
    else s
  else
    match s.time.holder with
    | none => recognise j cand s
    | some (h, c, e, _) =>
      if h = j then recognise j cand s
      else if curEpoch s ≤ e + 64 then
        let s := s.count .SKYT_HOLDER_CONFLICT_CNT
        if precedence cand j < precedence c h then recognise j cand s else s
      else recognise j cand s

/-- Module j is the recognised holder. -/
def isHolder (s : State) (j : Nat) : Bool := match s.time.holder with
  | some (h, _, _, _) => h == j
  | none => false

/-- What any frame with HOLDER set changes (R266, R267, R273). -/
def heard (lo : Nat) (s : State) : State :=
  let t := s.time
  let run := if t.run = 0 then 1 else if lo = t.runAt then t.run else if lo = (t.runAt + 1) % 65536 then t.run + 1 else 1
  let s := { s with time := { t with run := run, runAt := lo, heardAt := curEpoch s, heardClk := some s.now } }
  let s := s.setFld .SKYT_STATUS_FOUND_READY 0
  if s.flag .SKYT_STATUS_LULL then
    ({ s with time := { s.time with firstOff := s.time.firstOff || s.flag .SKYT_STATUS_VALID } }).setFld .SKYT_STATUS_LULL 0
  else s

/-- The announcement of the recognised holder (R192). -/
def takeAnnouncement (j : Nat) (f : List Byte) (s : State) : State :=
  let flags := beAt f 1 1
  let s := s.setReg .SKY_ANNOUNCE (BitVec.ofNat 32
    (2 ^ 31 + bits flags 3 3 * 2 ^ 30 + j * 2 ^ 23 + beAt f 3 1 * 256 + beAt f 2 1))
  s.setReg64 .SKY_ANNOUNCE_APPLY_LO .SKY_ANNOUNCE_APPLY_HI (beAt f 4 6)

/-- L is taken from a frame of the recognised holder (R268). -/
def takeL (l : Nat) (s : State) : State :=
  showLease { s with time := { s.time with leaseEnd := l, released := false } }

/-- The measurements of R262, for a frame of module j on lane n. -/
def measure (n j : Nat) (f : List Byte) (rx : Nat) (s : State) : State :=
  let i := ownMod s
  let e := curEpoch s
  if beAt f 24 1 < 128 then s
  else
    let k := beAt f 24 1 % 128
    let d21 := sgn 64 (beAt f 34 8 + 2 ^ 64 - beAt f 26 8)
    if k = i then
      let d43 := sgn 64 (rx + 2 ^ 64 - beAt f 16 8)
      let o := d43 - d21
      let s := { s with time := { s.time with
        offs := SMap.insert s.time.offs j ⟨o, e⟩
        sums := SMap.insert s.time.sums ((128 * n + min i j) * 128 + max i j) ⟨d43 + d21, e⟩ } }
      if isHolder s j && s.time.heldAt.isNone then
        if s.time.firstOff && decide (8 < o.natAbs) then lullLimit 1 (halvesToPs o) s
        else { s with time := { s.time with firstOff := false, fresh := s.time.fresh ++ [o] } }
      else s
    else
      match SMap.get? s.time.offs j, SMap.get? s.time.offs k with
      | some a, some b =>
        if recent s a.epoch && recent s b.epoch && j != k then
          { s with time := { s.time with
            sums := SMap.insert s.time.sums ((128 * n + min j k) * 128 + max j k) ⟨2 * d21 - (b.v - a.v), e⟩ } }
        else s
      | _, _ => s

/-- A time frame is taken from module j on lane n (R261, R262, R266, R268, R271). -/
def takeTime (n j lo : Nat) (f : List Byte) (rx : Nat) (s : State) : State :=
  let flags := beAt f 1 1
  let holder := flags.testBit 7
  let s := { s with time := { s.time with
    rx := SMap.insert s.time.rx (128 * n + j) ⟨j, n, beAt f 16 8, rx, curEpoch s⟩ } }
  let s := if holder then holderFrame j (bits flags 6 5) (heard lo s) else s
  let s := if isHolder s j then
      let s := takeL (beAt f 10 6) s
      let s := { s with time := { s.time with
        marks := (n, lo, curEpoch s, rx) :: s.time.marks.filter (fun m => m.1 != n) } }
      if holder then takeAnnouncement j f s else s
    else s
  let s := if s.time.heldAt.isSome && s.time.announced.contains (beAt f 10 6) && !s.time.echoes.contains j then
      { s with time := { s.time with echoes := j :: s.time.echoes } }
    else s
  showDelay n (measure n j f rx s)

/-! ### Rate correction (R264, R449) -/

def clampI (lo hi x : Int) : Int := max lo (min hi x)

/-- Length of an epoch in ps. -/
def epochPs (s : State) : Nat := 128000 * 2 ^ epochLog2 s

/-- th × 2^48 / (te × 2^n), with th in 1/16 ps (R264). -/
def servoTerm (s : State) (th : Int) (n : Nat) : Int := (th * 2 ^ 48).tdiv (16 * epochPs s * 2 ^ n : Nat)

/-- The servo at an epoch boundary (DEDUCED, log 37). -/
def servo (s : State) : State :=
  if skyState s ≤ 1 || s.time.heldAt.isSome then s
  else
    let t := s.time
    let (th, f, r) :=
      if s.flag .SKYT_STATUS_LULL then (t.th, t.f, t.f)
      else
        let n := t.fresh.length
        let m := (500 * t.fresh.sum).tdiv n
        let th := if n = 0 then t.th else t.th + (m - t.th).tdiv (2 ^ fldF s .SKYT_SERVO_FILT_LOG2 : Nat)
        let f := clampI (-2147483648) 2147483647 (t.f - servoTerm s th (max 1 (fldF s .SKYT_SERVO_I_LOG2)))
        let r := clampI (f - 16777216) (f + 16777216) (f - servoTerm s th (max 1 (fldF s .SKYT_SERVO_P_LOG2)))
        (th, f, clampI (-2147483648) 2147483647 r)
    let s := { s with time := { t with th := th, f := f } }
    (s.setReg .SKYT_RATE (BitVec.ofInt 32 r)).setReg .SKYT_OFFSET (BitVec.ofInt 32 th)

/-- Boundaries within JOIN_PS (R449). -/
def countGood (s : State) : State :=
  if s.flag .SKYT_STATUS_STEPPED then
    let ok := !s.flag .SKYT_STATUS_LULL && decide (s.time.th.natAbs ≤ 16 * fldF s .SKYT_SERVO_JOIN_PS)
    { s with time := { s.time with good := if ok then s.time.good + 1 else 0 } }
  else s

/-- Every enabled lane that hears sync bursts has a measured delay, where two or more peers are present (R449). -/
def delaysKnown (s : State) : Bool :=
  decide ((presentPeers s).length < 2) ||
    (enabledLanes s).all (fun n =>
      (s.reg .SKY_LANE_RXLOS (n / 32)).toNat.testBit (n % 32) || s.flag .SKYT_LANE_DELAY_VALID n)

/-- Sky time is within budget (R449). -/
def withinBudget (s : State) : Bool := s.time.heldAt.isSome || s.time.founder || (decide (64 ≤ s.time.good) && delaysKnown s)

/-! ### Self-diagnosis (R270) -/

def diagnose (s : State) : Nat :=
  let osc := !s.flag .PWR_STATUS_OVEN_READY || s.time.oscApart
  let sp := (enabledLanes s).filterMap (spreadOf s)
  let bad := sp.filter (fun x => decide (((8 * fldF s .SKYT_DIAG_CFG_DELAY_TOL_PS : Nat) : Int) < x))
  let coll := ((List.range 256).filter (fun n => s.flag .SKY_LANE_ALARM_COLL n)).length
  b2n osc + 2 * b2n (decide (sp.length < 4 * bad.length)) + 4 * b2n (decide (fldF s .SKYT_DIAG_CFG_COLL_LANES < coll))

/-- The diagnosis of holders and candidates at a boundary: a failing holder releases the lease (R269, R270). -/
def runDiag (s : State) : State :=
  if s.time.heldAt.isSome || s.time.role != 0 then
    let d := diagnose s
    let was := s.time.diag
    let s := ({ s with time := { s.time with diag := d } }).setReg .SKYT_DIAG_STATUS (BitVec.ofNat 32 d)
    if s.time.heldAt.isSome && d != 0 then releaseLease (s.countIf (was == 0) .SKYT_DIAG_FAIL_CNT) else s
  else s

/-! ### Steps (R265 to R267) -/

/-- The counter steps to a value, with 48 fractional bits (R266, R267). Ages counted in epochs gone by, and the receive
times of frames still to be echoed, move with it. -/
def stepCounter (v sub : Nat) (s : State) : State :=
  let old := s.ts64
  let e0 := curEpoch s
  let s := { s with time := { s.time with
    ts := v % 2 ^ 112, before := v % 2 ^ 112, th := 0, f := 0, good := 0, offs := [], sums := [], fresh := [], marks := [] } }
  let e := curEpoch s
  let later := fun (x : Nat) => x + e - e0
  let shift := fun (x : Nat) => (x + s.ts64 + 2 ^ 64 - old) % 2 ^ 64
  let s := { s with
    time := { s.time with
      heardAt := later s.time.heardAt
      holder := s.time.holder.map (fun (h : Nat × Nat × Nat × Nat) => (h.1, h.2.1, later h.2.2.1, h.2.2.2))
      rx := s.time.rx.map (fun (r : Nat × TimeRx) =>
        (r.1, { r.2 with rxTs := shift r.2.rxTs, epoch := later r.2.epoch })) }
    sky := { s.sky with
      epoch := e, mapOld := []
      pairs := s.sky.pairs.map (fun (p : Nat × PairSt) => (p.1, { p.2 with hello := later p.2.hello }))
      lanes := s.sky.lanes.map (fun (l : Nat × SkyLane) => (l.1, { l.2 with syncAt := 0 })) } }
  let s := (s.setReg .SKYT_RATE 0#32).setReg .SKYT_OFFSET 0#32
  let s := (s.setFld .SKYT_STATUS_STEPPED 1).setFld .SKYT_STATUS_VALID 1
  let s := s.count .SKYT_STEP_CNT
  let s := offer [⟨.step, sub, 0, s.ts64, old, 0⟩] s
  if s.flag .SKY_MAP_STATUS_ARMED && decide (e0 < s.sky.applyAt) && decide (s.sky.applyAt ≤ e) then unarm s else s

/-- The largest epoch below L that is congruent to EPOCH_LO modulo 2^16 (R266). -/
def fullEpoch (l lo : Nat) : Int :=
  let b : Int := (l : Int) - 1
  b - (b - (lo : Int)) % 65536

/-- The lanes that count for the join step (R266): their EPOCH_LO and receive times. -/
def joinMarks (s : State) : List (Nat × Nat × Nat × Nat) :=
  s.time.marks.filter (fun m => laneEnabled s m.1 && decide (curEpoch s ≤ m.2.2.1 + 64))

/-- What a lane says of the step, in half ps (a unit of TS64 is 125 of them). -/
def joinTerm (s : State) (m : Nat × Nat × Nat × Nat) : Int :=
  (fullEpoch s.time.leaseEnd m.2.1 * (epochUnits s : Int) - (m.2.2.2 : Int)) * 125 + 5120
    + 2 * (s.fld .SKYT_LANE_DELAY_CFG_DELAY m.1 : Int)

/-- JOIN_STEP (R266). -/
def joinStep (s : State) : State :=
  let ms := joinMarks s
  if skyState s == 1 && !s.flag .SKYT_STATUS_STEPPED && decide (4 ≤ s.time.run) && decide (8 ≤ ms.length) then
    let sum := (ms.map (joinTerm s)).sum
    let delta := sum * 2 ^ 48 / (125 * (ms.length : Int))
    stepCounter (unsgn 112 ((s.time.ts : Int) + delta)) 0 s
  else s

def execJoinStep (s : State) : Result := .next (joinStep s)

/-- FOUND_READY_SET (R267). -/
def foundReady (s : State) : State :=
  let wait := if s.time.role = 1 then 2048 else 4096
  if skyState s == 1 && !s.flag .SKYT_STATUS_STEPPED && (s.time.role == 1 || s.time.role == 2)
      && decide (s.time.heardAt + wait ≤ s.sky.epoch) then
    s.setFld .SKYT_STATUS_FOUND_READY 1
  else s

def execFoundReadySet (s : State) : Result := .next (foundReady s)

/-- A write to SKYT_STEP_CTRL (R265, R267). -/
def foundStep (rw : RegWrite) (s : State) : State :=
  if Fld.SKYT_STEP_CTRL_FOUND.get rw.val = 0 then s
  else if s.flag .SKYT_STATUS_FOUND_READY && !s.flag .SKYT_STATUS_STEPPED then
    let s := s.setFld .SKYT_STATUS_FOUND_READY 0
    let s := stepCounter (s.reg64 .SKYT_STEP_LO .SKYT_STEP_HI * 2 ^ 48) 1 s
    { s with sky := { s.sky with founding := true }, time := { s.time with founder := true } }
  else logWrite 4 rw ((s.setFld .SKYT_STATUS_STEP_REFUSED 1).count .SKYT_STEP_REFUSED_CNT)

def execFoundStep (a : Agent) (s : State) : Result :=
  let w := write32 a .SKYT_STEP_CTRL 1
  .next (guarded w (far w (foundStep w)) s)

/-! ### TAI (R275) -/

/-- A write to SKYT_TAI_OFFSET_HI makes the new offset take effect. -/
def taiWrite (v : Word) (s : State) : State :=
  let s := s.setReg .SKYT_TAI_OFFSET_HI v
  { s with time := { s.time with tai := s.reg64 .SKYT_TAI_OFFSET_LO .SKYT_TAI_OFFSET_HI } }

def execTaiOffsetWrite (a : Agent) (v : Word) (s : State) : Result :=
  .next (far (write32 a .SKYT_TAI_OFFSET_HI v.toNat) (taiWrite v) s)

/-- TAI (R275). -/
def taiNow (s : State) : Nat := (s.ts64 + s.time.tai) % 2 ^ 64

end Sys2Proof.Machine
end

