-- ==== Sys2Proof/Machine/SkyState.lean ====
section
/-!
DEFINITION. The states of the sky side (R199): entry to OFF, LISTEN and JOINING, the writes that cause them, and what
happens at the start of each epoch (R193, R219, R237, R264, R270).
-/
namespace Sys2Proof.Machine

/-! ### OFF and LISTEN (R196, R199, R244, R253, R256) -/

/-- Every cell of the sky queues is discarded, and every pair and stream is reset (R253); reception ends, so the cells of
the deskew store are discarded with them and count with them (DESIGN CHOICE, log 33). -/
def skyFlush (s : State) : State :=
  let s := s.sky.desk.foldl (fun s (d : Desk) =>
    dropCell d.tile d.cell (s.count .SKY_STATE_FLUSH_CELL_CNT (16 + d.lane / 16))) s
  let s := { s with sky := { s.sky with desk := [] } }
  let s := returnAll (fun _ => true) s
  let s := cutQueues (fun _ => true) .SKY_STATE_FLUSH_CELL_CNT (fun _ => true) s
  (List.range 128).foldl (fun s y => resetPair y s) s

/-- Entry to OFF: at once (R199). -/
def enterOff (s : State) : State :=
  let s := skyFlush (releaseLease s)
  let s := (s.setFld .SKY_STATE_STATE 0).setFld .SKYT_STATUS_VALID 0
  { s with sky := { s.sky with founding := false } }

/-- Drop the elements of a register array, which then hold their reset values. -/
def clearRegs (lo n : Nat) (s : State) : State :=
  { s with regs := SMap.keep s.regs (fun k => !(decide (lo ≤ k) && decide (k < lo + n))) }

/-- Entry to LISTEN: at once (R199). -/
def enterListen (s : State) : State :=
  let s := skyFlush (releaseLease s)
  let s := clearRegs (Reg.SKY_PEER.off) 0x200 s
  let s := clearRegs (Reg.SKYT_LANE_DELAY.off) 0x400 s
  let s := clearRegs (Reg.SKY_STRANGER_SRC.off) 0x10 s
  let s := (List.range 256).foldl (fun s n =>
    if s.flag .SKY_LANE_ALARM_STRANGER n then s.setFld .SKY_LANE_ALARM_STRANGER 0 n else s) s
  let s := ((s.setReg .SKY_ANNOUNCE 0#32).setReg64 .SKY_ANNOUNCE_APPLY_LO .SKY_ANNOUNCE_APPLY_HI 0).setReg .SKYT_LEASE 0#32
  let s := ((s.setFld .SKY_STATE_LULL 0).setFld .SKY_STATE_DUSK 0).setFld .SKY_STATE_MAP 1
  let s := ((s.setFld .SKYT_STATUS_VALID 0).setFld .SKYT_STATUS_STEPPED 0).setFld .SKYT_STATUS_LULL 0
  let s := (s.setFld .SKYT_STATUS_FOUND_READY 0).setFld .SKY_STATE_STATE 1
  let s := { s with
    sky := { s.sky with traces := [], spare := [], cands := [], mapNow := none, mapOld := [],
                        founding := false, halfMods := [] }
    time := { s.time with rx := [], offs := [], sums := [], fresh := [], marks := [], holder := none, run := 0,
                          runAt := 0, leaseEnd := 0, released := false, relEnd := none,
                          heardAt := curEpoch s, heardClk := none, firstOff := false, good := 0, founder := false } }
  showLease s

/-- SKY_CFG is valid (R185). -/
def skyCfgOk (s : State) : Bool := s.flag .SKY_CFG_SIZE || decide (ownMod s < 32)

/-- OFF is left for LISTEN once EN and OVEN_READY are set and SKY_CFG is valid (R23, R185, R199). -/
def skyTry (s : State) : State :=
  if skyState s == 0 && s.flag .SKY_CTRL_EN && s.flag .PWR_STATUS_OVEN_READY && skyCfgOk s then enterListen s else s

/-- A write to SKY_CTRL (R199): EN in OFF with a SKY_CFG that is not valid sets CFG_ERR (R185). -/
def skyCtrl (v : Word) (s : State) : State :=
  let en := Fld.SKY_CTRL_EN.get v
  let s := s.setFld .SKY_CTRL_EN en
  if skyState s = 0 then
    (if en = 1 then (if skyCfgOk s then skyTry s else s.setFld .SKY_STATE_CFG_ERR 1) else s)
  else if en = 1 then s
  else enterOff s

def execSkyCtrlWrite (a : Agent) (v : Word) (s : State) : Result :=
  .next (far (write32 a .SKY_CTRL v.toNat) (skyCtrl v) s)

/-- A write to SKY_TX_EN (R199): TX_OFF is set while EN is clear. -/
def skyTxEn (v : Word) (s : State) : State :=
  let en := Fld.SKY_TX_EN_EN.get v
  (s.setFld .SKY_TX_EN_EN en).setFld .SKY_STATE_TX_OFF (1 - en)

def execSkyTxEnWrite (a : Agent) (v : Word) (s : State) : Result :=
  let w := write32 a .SKY_TX_EN v.toNat
  .next (guarded w (far w (skyTxEn v)) s)

/-! ### The start of an epoch -/

/-- The settings that apply at an epoch boundary (R230, R254, R277). -/
def boundaryRegs : List Reg :=
  [.SKY_FRAME_CFG, .SKY_DESKEW_CFG, .SKY_RELAY_CFG, .SKY_RELAY_LIMIT, .SKY_RESEQ_CFG, .SKYT_SERVO, .SKYT_LULL_CFG,
    .SKYT_DIAG_CFG, .SKYT_CAND]

def applySettings (s : State) : State :=
  let m := boundaryRegs.foldl (fun (m : SMap Word) r => SMap.put m r.off (r.resetOf 0 0) (s.reg r)) s.sky.inForce
  let s := { s with sky := { s.sky with inForce := m } }
  let role := fldF s .SKYT_CAND_ROLE
  { s with time := { s.time with role := if role = 3 then 0 else role } }

/-- Entry to JOINING at epoch e (R217, R219, R231, R232). -/
def enterJoining (e : Nat) (s : State) : State :=
  let s := s.setFld .SKY_STATE_STATE 2
  let s := s.setReg64 .SKY_JOIN_EPOCH_LO .SKY_JOIN_EPOCH_HI (e % 2 ^ 48)
  let s := clearRegs (Reg.SKY_SEQ_NEXT.off) 0x1000 s
  { s with sky := { s.sky with
    slip := 0, lanes := s.sky.lanes.map (fun (l : Nat × SkyLane) => (l.1, { l.2 with d := 0 })) } }

/-- A founder takes the lease on the boundary after its step (R267, R269); LISTEN is left once the step is made and
SKY_TX_EN is set (R199). -/
def joinFirst (e : Nat) (s : State) : State :=
  if skyState s == 1 && s.flag .SKYT_STATUS_STEPPED then
    let s := if s.sky.founding then takeLease e { s with sky := { s.sky with founding := false } } else s
    if s.flag .SKY_TX_EN_EN then enterJoining e { s with sky := { s.sky with since := e } } else s
  else s

/-- M(E) and the dark cause MAP (R193). -/
def agreeMap (e : Nat) (s : State) : State :=
  let m := skyMap s e
  let s := { s with sky := { s.sky with mapNow := m } }
  s.setFld .SKY_STATE_MAP (b2n (m != some (s.fld .SKY_MAP_STATUS_ACTIVE_MAP_ID)))

/-- Entry to DARK (R199); a holder releases the lease (R269). -/
def enterDark (s : State) : State := releaseLease (s.setFld .SKY_STATE_STATE 4)

/-- Causes that only a rejoin clears. -/
def mustRejoin (s : State) : Bool := s.flag .SKY_STATE_LULL || s.flag .SKY_STATE_DUSK

/-- The transitions of R199 at an epoch boundary, from state st. -/
def transit (st e : Nat) (s : State) : State :=
  if st = 2 then
    if mustRejoin s || s.flag .SKY_STATE_TX_OFF then enterDark s
    else if !darkAny s && withinBudget s then (s.setFld .SKY_STATE_STATE 3).count .SKY_JOIN_CNT
    else s
  else if st = 3 then (if darkAny s then enterDark s else s)
  else if st = 4 then
    if mustRejoin s || darkAny s then s
    else if withinBudget s then s.setFld .SKY_STATE_STATE 3
    else enterJoining e s
  else s

/-- Epochs that begin dark count (R193) (DEDUCED, log 32). -/
def darkCount (s : State) : State := s.countIf (decide (2 ≤ skyState s) && darkAny s) .SKY_DARK_EPOCH_CNT

/-- The cells that the sky cell clock counts in an epoch at its nominal rate (R219). -/
def epochCells (s : State) : Nat := 24 * (2 ^ epochLog2 s - 1) + 1

/-- What the sky cell clock has counted makes 1/65,536 cell. -/
def cellUnit (s : State) : Nat := epochUnits s * 2 ^ 32

/-- The slip balance of a large sky (R219), from what the sky cell clock counted over the last epoch (R257). -/
def slipStep (s : State) : State :=
  let cells := s.sky.cellClk / cellUnit s
  let s := { s with sky := { s.sky with cellClk := s.sky.cellClk % cellUnit s } }
  if s.flag .SKY_CFG_SIZE && decide (2 ≤ skyState s) then
    let x := s.sky.slip + (cells : Int) - (65536 * epochCells s : Nat)
    let lim : Int := 65536 * (max 1 (fldF s .SKY_FRAME_CFG_SLIP_LIMIT) : Nat)
    let fill : Nat := if lim ≤ x then 2 else if x ≤ -lim then 0 else 1
    let s := s.countIf (fill != 1) .SKY_TX_SLIP_CNT
    { s with sky := { s.sky with fill := fill, slip := x - 65536 * ((fill : Int) - 1) } }
  else { s with sky := { s.sky with fill := 1 } }

/-- Module r qualifies as a relay toward d, at this level (R237). -/
def relayLevel (s : State) (d r : Nat) : Nat :=
  let lv := SMap.getD s.sky.spare (128 * r + d) 0
  if r != d && r != ownMod s && present s r && s.fld .SKY_PEER_FORMAT_TX r == 4 && (pairOf s r).relayEn
      && decide (max 1 (fldF s .SKY_RELAY_CFG_MIN_SPARE) ≤ lv) && decide (1 ≤ creditHeld s r) then lv
  else 0

/-- The relay candidates of d: the four highest levels, the lower ID first on a tie (R237). -/
def candidatesOf (s : State) (d : Nat) : List Nat :=
  let l := (List.range 128).map (fun r => (r, relayLevel s d r))
  (([3, 2, 1].flatMap (fun v => (l.filter (fun e => e.2 == v)).map (fun e => e.1))).take 4)

def buildCandidates (s : State) : State :=
  { s with sky := { s.sky with
    cands := (List.range 128).foldl (fun (m : SMap (List Nat)) d => SMap.put m d [] (candidatesOf s d)) [] } }

/-- Lane delays whose triangles have grown old show as not valid (R262). -/
def ageDelays (s : State) : State :=
  (List.range 256).foldl (fun s n => if s.flag .SKYT_LANE_DELAY_VALID n then showDelay n s else s) s

/-- The sky maps of the epochs before epoch e, the latest first: none for an epoch whose start was not processed. -/
def mapsBefore (s : State) (e : Nat) : List (Option Nat) :=
  (List.replicate (min 8 (e - s.sky.epoch - 1)) none ++ s.sky.mapNow :: s.sky.mapOld).take 8

/-- The frequency monitor reads the root and the oven oscillator more than 5 × 10⁻⁸ of the root's reading apart (R270)
(DEDUCED, log 31). -/
def oscillatorsApart (root oven : Nat) : Bool := decide (root < 20000000 * (max root oven - min root oven))

/-- The start of epoch e. -/
def beginEpoch (e : Nat) (apart : Bool) (s : State) : State :=
  let s := applySettings s
  let s := { s with
    sky := { s.sky with
      epoch := e, mapOld := mapsBefore s e, offeredLast := s.sky.offered, usedLast := s.sky.used, offered := [],
      used := [], halfMods := (presentPeers s).filter (fun d => s.flag .SKY_PEER_RATE d) }
    time := { s.time with oscApart := apart } }
  let s := mapApply s
  let st := skyState s
  let s := agreeMap e (joinFirst e s)
  let s := countGood (servo s)
  let s := { s with time := { s.time with fresh := [] } }
  let s := ageDelays (transit st e s)
  let s := runDiag (if skyState s = 0 then s else deskewAlarms s)
  buildCandidates (slipStep (darkCount s))

/-- EPOCH_START: the time counter has entered an epoch whose start has not been processed (DESIGN CHOICE, log 31). -/
def epochStart (apart : Bool) (s : State) : State :=
  if s.sky.epoch = curEpoch s then s else beginEpoch (curEpoch s) apart s

def execEpochStart (root oven : Nat) (s : State) : Result := .next (epochStart (oscillatorsApart root oven) s)

end Sys2Proof.Machine
end

