-- ==== Sys2Proof/Machine/SkyTx.lean ====
section
/-!
DEFINITION. Sky transmission (chapters 9, 10): slot and cell headers (R209, R212), sync bursts (R187, R215, R216), the
choice of cells for a slot (R235, R238), and data bursts (R195, R217, R240).
-/
namespace Sys2Proof.Machine

/-! ### Formats (R209 to R214) -/

/-- What varies in a slot header (R209). -/
structure HdrInfo where
  lane : Nat
  slot : SlotId
  dst : Nat
  half : Bool
  code : Nat
  fill : Nat
  valid : Nat
  credit : Nat
  deriving DecidableEq, Repr

/-- The trace string of a lane (R221). -/
def traceByte (s : State) (n i : Nat) : Nat :=
  if i < 56 then wordByte (s.reg .SKY_TRACE_OWN (i / 4)) (i % 4)
  else if i = 56 then ownMod s
  else if i = 57 then n
  else 0

/-- The spare level that this module advertises for a destination (R236). -/
def spareLevel (s : State) (dst t : Nat) : Nat :=
  let a := SMap.getD s.sky.offeredLast t 0
  let u := SMap.getD s.sky.usedLast t 0
  if a = 0 || !relayEn s || !present s t || t = ownMod s || t = dst then 0
  else if a ≤ 2 * (a - u) then 3
  else if a ≤ 4 * (a - u) then 2
  else if a ≤ 16 * (a - u) then 1
  else 0

/-- The SPARE field (R236). -/
def spareField (s : State) (dst slot : Nat) : Nat :=
  let w := if s.flag .SKY_CFG_SIZE then slot % 4 else 0
  (List.range 32).foldl (fun a i => a * 4 + spareLevel s dst (32 * w + i)) 0

/-- The slot header (R209, R210). -/
def hdrBytes (s : State) (h : HdrInfo) : List Byte :=
  let idx := SMap.getD (slane s h.lane).trace h.dst 0
  let base := 0xB4E15A2D * 2 ^ 192 + 4 * 2 ^ 184 + ownMod s * 2 ^ 177 + h.lane * 2 ^ 168 + h.slot.epoch % 65536 * 2 ^ 152
    + h.slot.slot * 2 ^ 144 + s.fld .SKY_MAP_STATUS_ACTIVE_MAP_ID * 2 ^ 136 + idx * 2 ^ 130
    + traceByte s h.lane idx * 2 ^ 122 + h.fill * 2 ^ 114 + h.valid * 2 ^ 90 + h.credit * 2 ^ 74
    + spareField s h.dst h.slot.slot * 2 ^ 10
  let just := (h.code * 16 + h.code * 4 + h.code) * 2 ^ 116
  toBe 28 (base + just) ++ toBe 4 (crc32c (toBe 28 base)) ++ (if h.half then [] else List.replicate 32 0#8)

/-- The channel from this module to module d on lane n (R184). -/
def channel (s : State) (n d : Nat) : Nat := (d + 128 - ownMod s % 128 + s.fld .SKY_PLANE_OFFSET_OFFSET n) % 128

/-- The reading of the counter at which lane n launches the first preamble symbol of a slot's burst, in 1/1,000 unit of TS64
(R263). -/
def launchAt (s : State) (x : SlotId) (n : Nat) : Int := (slotStart s x : Int) * 1000 + 40960 - 16 * (laneDelay s n : Int)

/-- A burst leaves: its trace index advances, and it counts (R221, R230). What it carries is decided in its slot by the
module's counter; its light leaves at its launch instant (DEDUCED, log 34). -/
def sendBurst (h : HdrInfo) (cells : List (List Byte)) (s : State) : State :=
  let hb := hdrBytes s h
  let l := slane s h.lane
  let idx := SMap.getD l.trace h.dst 0
  let s := setSlane h.lane { l with trace := SMap.put l.trace h.dst 0 ((idx + 1) % 64), sent := some h.slot } s
  (s.count .SKY_TX_BURST_CNT (h.lane / 16)).emit
    (.burst h.lane (channel s h.lane h.dst) h.half hb cells ((burstLine h.half hb cells).flatMap symbols)
      (launchAt s h.slot h.lane))

/-- The positions of a burst with the given contents; the others are zero bytes (R210). -/
def positions (half : Bool) (l : List (Nat × List Byte)) : List (List Byte) :=
  (List.range (if half then 12 else 24)).map (fun i =>
    ((l.find? (fun e => e.1 == i)).map (fun e => e.2)).getD (List.replicate 256 0#8))

/-- CELL_VALID of positions. -/
def validMask (l : List (Nat × List Byte)) : Nat := l.foldl (fun a e => a + 2 ^ e.1) 0

/-- The module's lasers may carry bursts, and the lane has not stopped, or a selection has begun since (R249, R391, R396). -/
def laneUp (s : State) (n : Nat) : Bool :=
  decide (n < skyLanes s) && !laneStopped s n && (slane s n).live && !lasersOff s

/-- The module serves d with half-rate bursts in this epoch (R197, R208). -/
def halfTo (s : State) (d : Nat) : Bool := s.sky.halfMods.contains d

/-! ### Sync bursts (R187, R215, R216, R242, R261) -/

/-- A sync frame: its first bytes, zeros, and SF_CRC. -/
def syncFrame (l : List Byte) : List Byte := let b := fit 252 l; b ++ toBe 4 (crc32c b)

/-- n bytes that the spec leaves open (DESIGN CHOICE, log 1). -/
def freeBytes (n : Nat) (s : State) : List Byte × State :=
  ((List.range n).map (fun i => Config.freeByte (s.free + i)), { s with free := s.free + n })

/-- The same instant as TS64. -/
def launchTs (s : State) (x : SlotId) (n : Nat) : Nat := unsgn 64 (launchAt s x n / 1000)

/-- The latest time frame that may be echoed to module d on lane n (R261). -/
def echoOf (s : State) (e n d : Nat) : Option TimeRx :=
  let l := (s.time.rx.filter (fun r => r.1 / 128 == n && recent s r.2.epoch
    && (if e % 2 = 0 then r.2.mod == d else r.2.mod != d))).map (fun r => r.2)
  l.foldl (fun a r => match a with
    | none => some r
    | some b => if b.rxTs < r.rxTs then some r else some b) none

/-- The map fields of a time frame (R192, R216): those of NEXT are open where NEXT_VALID is 0. -/
def nextBytes (s : State) : List Byte × State :=
  if s.flag .SKY_MAP_STATUS_ARMED then
    ([BitVec.ofNat 8 (s.fld .SKY_MAP_STATUS_ARMED_MAP_ID)] ++ toBe 6 s.sky.applyAt, s)
  else freeBytes 7 s

/-- The echo fields of a time frame (R261): open but for the valid bit where there is nothing to echo. -/
def echoBytes (e n d : Nat) (s : State) : List Byte × State :=
  match echoOf s e n d with
  | some r => ([BitVec.ofNat 8 (128 + r.mod), BitVec.ofNat 8 n] ++ toBe 8 r.txTs ++ toBe 8 r.rxTs, s)
  | none =>
    let (m, s) := freeBytes 1 s
    let (b, s) := freeBytes 16 s
    ([(m.headD 0#8) &&& 0x7F#8, BitVec.ofNat 8 n] ++ b, s)

/-- LEASE_END of a time frame (R261). -/
def leaseField (s : State) : Nat :=
  if s.time.heldAt.isSome then s.time.ownEnd
  else
    match s.time.relEnd with
    | some e => e
    | none => s.time.leaseEnd

/-- The time frame to module d on lane n. -/
def timeFrame (x : SlotId) (n d : Nat) (s : State) : List Byte × State :=
  let (nx, s) := nextBytes s
  let (ec, s) := echoBytes x.epoch n d s
  let flags := b2n s.time.heldAt.isSome * 128 + s.time.role * 32 + s.fld .SKYT_STATUS_LULL * 16
    + s.fld .SKY_MAP_STATUS_ARMED * 8
  (syncFrame ([1#8, BitVec.ofNat 8 flags, BitVec.ofNat 8 (s.fld .SKY_MAP_STATUS_ACTIVE_MAP_ID)] ++ nx
      ++ toBe 6 (leaseField s) ++ toBe 8 (launchTs s x n) ++ ec), s)

/-- The hello frame (R5, R196, R197). -/
def helloFrame (s : State) : List Byte :=
  syncFrame [2#8, 0x18#8,
    BitVec.ofNat 8 (b2n (s.sys.part = .s1024) * 64 + s.fld .SKY_CFG_SIZE * 32 + epochLog2 s * 2)]

/-- The credit frame to module d in epoch e (R242). -/
def creditFrame (s : State) (e d : Nat) : List Byte :=
  let p := pairOf s d
  syncFrame ([3#8, BitVec.ofNat 8 (b2n (relayEn s) * 128 + d)]
    ++ toBe 6 (s.reg64 .SKY_JOIN_EPOCH_LO .SKY_JOIN_EPOCH_HI) ++ toBe 6 ((e + 2 ^ 48 - 2) % 2 ^ 48)
    ++ toBe 4 (totalTo p (e - 2) p.gr (fun h => h.gr)) ++ toBe 4 (totalTo p (e - 2) p.sent (fun h => h.sent)))

/-- The rotation of the sync slot (R187). -/
def rotation (s : State) (e n : Nat) : Nat := (ownMod s + 1 + (e + n) % (skySize s - 1)) % skySize s

/-- The states in which sync bursts are sent (R187). -/
def syncState (s : State) : Bool :=
  skyState s == 2 || skyState s == 3
    || (skyState s == 4 && s.flag .SKY_STATE_MAP && !mustRejoin s && !s.flag .SKY_STATE_TX_OFF)

/-- SYNC_SLOT_TX (R187, R215): lane n sends its sync burst of the running epoch. -/
def syncSlotTx (n : Nat) (s : State) : State :=
  let x := curSlot s
  if x.slot = 0 && epochOpen s && syncState s && laneUp s n && (slane s n).sent != some x then
    let d := rotation s x.epoch n
    let half := halfTo s d
    let fill := if s.flag .SKY_CFG_SIZE then s.sky.fill else 1
    let (tf, s) := timeFrame x n d s
    let l := [(0, tf), (1, helloFrame s), (2, creditFrame s x.epoch d)]
      ++ (List.range fill).map (fun i => (3 + i, syncFrame [4#8]))
    sendBurst ⟨n, x, d, half, 0, fill, validMask l, 0⟩ (positions half l) s
  else s

def execSyncSlotTx (n : Fin 256) (s : State) : Result := .next (syncSlotTx n.val s)

/-! ### The data positions of a burst (R217, R235) -/

/-- The last position of a burst. -/
def lastPos (half : Bool) : Nat := if half then 11 else 23

/-- What the balance of R217 makes of a slot: D, the justification code, and whether the last position is data. -/
structure Just where
  d : Int
  code : Nat
  lastData : Bool
  deriving DecidableEq, Repr

/-- The balance of R217 for lane n in data slot x; `sent` says that the lane sends a burst. -/
def justify (s : State) (n : Nat) (x : SlotId) (sent half : Bool) : Just :=
  let l := slane s n
  if s.flag .SKY_CFG_SIZE then ⟨l.d, 0, true⟩
  else
    let nom : Int := if x.slot % 2 = 0 then 1 else 0
    let last : Int := if sent then (lastPos half : Nat) else 23
    let d := l.d - (last + nom) * sgn 32 (s.reg .SKYT_RATE).toNat
    let one : Int := 2 ^ 48
    if sent && nom = 0 && decide (one ≤ d) then ⟨d - one, 1, true⟩
    else if sent && nom = 1 && decide (d ≤ -one) then ⟨d + one, 2, false⟩
    else ⟨d, 0, decide (nom = 1)⟩

/-- Lane n takes the balance of data slot x, once. -/
def balance (n : Nat) (x : SlotId) (sent half : Bool) (s : State) : State :=
  let l := slane s n
  if l.dAt = some x || (!s.flag .SKY_CFG_SIZE && decide (skyState s ≤ 1)) then s
  else
    let j := justify s n x sent half
    let s := setSlane n { l with dAt := some x, d := j.d, code := j.code, lastData := j.lastData } s
    (s.countIf (j.code == 1) .SKY_TX_NJ_CNT).countIf (j.code == 2) .SKY_TX_PJ_CNT

/-- Data positions of a lane's burst. -/
def dataPositions (s : State) (n : Nat) (half : Bool) : Nat :=
  lastPos half + b2n (slane s n).lastData

/-! ### Choosing cells (R169, R235, R238) -/

/-- A member of round 3 of R169: its number (the class, 8 for relay band 0), its queue and its quantum. -/
structure Member where
  idx : Nat
  queue : Nat
  quantum : Nat
  deriving DecidableEq, Repr

def classMember (s : State) (p d c : Nat) : Member :=
  ⟨c, skyQ p (destQ d c), max 1 (s.fld .TM_SKY_CLASS_CFG_QUANTUM c)⟩

/-- Deficit round robin with cells of length 1 (R168, R169) among members that hold a cell: the queue served
(DEDUCED, log 56). -/
def roundPick (p d : Nat) (ms : List Member) (s : State) : Option Nat × State :=
  match ms with
  | [] => (none, s)
  | _ =>
    let k := 128 * p + d
    let ptr := SMap.getD s.sky.rounds k 0
    let order := ms.filter (fun m => decide (ptr ≤ m.idx)) ++ ms.filter (fun m => decide (m.idx < ptr))
    let rich := fun (s : State) (m : Member) => decide (1 ≤ (queueOf s m.queue).deficit)
    let s := if order.any (rich s) then s
      else ms.foldl (fun s m =>
        setQueue m.queue { queueOf s m.queue with deficit := (queueOf s m.queue).deficit + m.quantum } s) s
    match order.find? (rich s) with
    | some m =>
      let s := setQueue m.queue { queueOf s m.queue with deficit := (queueOf s m.queue).deficit - 1 } s
      (some m.queue, { s with sky := { s.sky with rounds := SMap.put s.sky.rounds k 0 m.idx } })
    | none => (none, s)

/-- Steps 2 and 3 of R169 among some classes toward d, with relay band 0 where it takes part. -/
def pickClasses (p d : Nat) (cs : List Nat) (band0 : Bool) (s : State) : Option Nat × State :=
  let sp := cs.filter (fun c => s.flag .TM_SKY_CLASS_CFG_SP c)
  match sp.getLast? with
  | some c => (some (skyQ p (destQ d c)), s)
  | none =>
    let b : List Member := if band0 then [⟨8, skyQ p (relayQ d 0), max 1 (s.fld .TM_RELAY_CFG_RELAY_QUANTUM)⟩] else []
    roundPick p d (cs.map (classMember s p d) ++ b) s

/-- The choice of R169 toward d: the queue served. -/
def pickDirect (p d before : Nat) (s : State) : Option Nat × State :=
  let has := fun k => (headCell s k before).isSome
  if has (skyQ p (relayQ d 1)) then (some (skyQ p (relayQ d 1)), s)
  else
    pickClasses p d ((List.range 8).filter (fun c => has (skyQ p (destQ d c)))) (has (skyQ p (relayQ d 0))) s

/-- The preferred relay of a frame for d with relay key K (R237). -/
def preferredRelay (s : State) (d rk : Nat) : Option Nat :=
  let l := SMap.getD s.sky.cands d []
  l[rk % l.length]?

/-- Data positions per epoch that the enabled lanes of p offer toward d (R238). -/
def directOffer (s : State) (p d : Nat) : Nat := (shares s d true).getD p 0 * (if halfTo s d then 12 else 24)

/-- Classes of d in p whose head cell prefers relay r. -/
def relayClasses (s : State) (p d r before : Nat) : List Nat :=
  (List.range 8).filter (fun c => match headCell s (skyQ p (destQ d c)) before with
    | some (_, x) => preferredRelay s d x.tag.rk == some r
    | none => false)

/-- Destination d of p qualifies for relay by r (R238). -/
def relayQualifies (s : State) (p d r before : Nat) : Bool :=
  !(relayClasses s p d r before).isEmpty
    && decide (fldF s .SKY_RELAY_CFG_RELAY_AFTER * directOffer s p d
      ≤ ((List.range 8).map (fun c => qDepth s (skyQ p (destQ d c)))).sum)

/-- The relay fill of a position toward r on lane n (R238): the queue served. -/
def pickRelay (n r before : Nat) (s : State) : Option Nat × State :=
  if relayEn s && decide (1 ≤ creditHeld s r) then
    let p := n / 16
    let l := slane s n
    match ((List.range 128).map (fun i => (l.relayPtr + i) % 128)).find? (fun d => relayQualifies s p d r before) with
    | none => (none, s)
    | some d =>
      pickClasses p d (relayClasses s p d r before) false (setSlane n { l with relayPtr := d + 1 } s)
  else (none, s)

/-- The head cell of a queue is chosen for a position of a lane's burst in slot x (DEDUCED, log 34). -/
def choose (n : Nat) (x : SlotId) (dst pos k before : Nat) (relay : Bool) (s : State) : State :=
  match headCell s k before with
  | none => s
  | some (t, c) =>
    let l := slane s n
    let ch : Chosen := ⟨dst, s.sky.picks, pos, k, t, c, relay⟩
    let s := noteDepth k s
    let s := setSlane n { l with chosen := l.chosen ++ [ch] } s
    let s := popHead k { s with sky := { s.sky with picks := s.sky.picks + 1 } }
    if relay then
      let p := pairOf s dst
      addCredit dst (-1) (setPair dst (move x.epoch (fun h => { h with sent := h.sent + 1 }) { p with sent := p.sent + 1 }) s)
    else s

/-- Fill one position (R235). -/
def fillPos (n : Nat) (x : SlotId) (dst before pos : Nat) (s : State) : State :=
  match pickDirect (n / 16) dst before s with
  | (some k, s) => choose n x dst pos k before false s
  | (none, s) =>
    match pickRelay n dst before s with
    | (some k, s) => choose n x dst pos k before true s
    | (none, s) => s

/-- The destination of lane n in slot x: the module that the active map names. -/
def laneDest (s : State) (n : Nat) (x : SlotId) : Option Nat :=
  let v := mapByte s (activeMap s) x.slot n
  if x.slot != 0 && decide (v < 128) then some v else none

/-- The conditions of R195 but for those on the peer. -/
def mayBurst (s : State) (n : Nat) : Bool := skyState s == 3 && s.flag .SKY_TX_EN_EN && laneUp s n

/-- The conditions of R195 on the peer (R198). -/
def peerServes (s : State) (n d : Nat) : Bool :=
  compatible s d && (decide (n < 128) || !s.flag .SKY_PEER_LANES d)

/-- Choose the cells of lane n's burst in slot x. -/
def fillLane (n : Nat) (x : SlotId) (before : Nat) (s : State) : State :=
  if (slane s n).fill = some x then s
  else
    let s := returnChosen n (fun _ => true) s
    let s := setSlane n { slane s n with fill := some x } s
    match laneDest s n x with
    | none => s
    | some d =>
      if mayBurst s n && peerServes s n d then
        let half := halfTo s d
        (List.range (lastPos half + b2n (justify s n x true half).lastData)).foldl (fun s pos => fillPos n x d before pos s) s
      else s

/-- The core clock at which the running slot began. -/
def slotClock (s : State) : Nat := s.now - s.ts64 % slotUnits / 10

/-- The selection for a slot begins on a lane: a lane that has not stopped carries bursts again (R249). -/
def openLane (n : Nat) (s : State) : State := setSlane n { slane s n with live := !laneStopped s n } s

/-- SLOT_FILL (R235): during a slot, pipeline p chooses the cells for the next one. -/
def slotFill (p : Nat) (s : State) : State :=
  let x := nextSlot s (curSlot s)
  let before := slotClock s
  let s := (List.range 16).foldl (fun s i => openLane (16 * p + i) s) (moveLanes p s)
  if x.slot = 0 || !epochOpen s then s
  else (List.range 16).foldl (fun s i => fillLane (16 * p + i) x before s) s

def execSlotFill (p : Fin 16) (s : State) : Result := .next (slotFill p.val s)

/-! ### Data bursts (R195, R217, R240) -/

/-- A chosen cell as it goes out (R213, R238): RELAY is set on the hop to a relay and clear on the hop from one. -/
def sentCell (c : Chosen) : Cell := { c.cell with relay := c.relay }

/-- A chosen cell has been sent: its tile is freed and it counts (R235, R238, R239, R421). -/
def cellSent (p : Nat) (c : Chosen) (s : State) : State :=
  let own := c.cell.srcMod == ownMod s
  let s := dropCell c.tile c.cell s
  if c.relay then (s.count .SKY_TX_RELAY_CELL_CNT (16 + p)).led tRelay5 0
  else if own then (s.count .SKY_TX_CELL_CNT (16 + p)).led tSent5 0
  else s.count .SKY_RELAY_FWD_CELL_CNT (16 + p)

/-- A chosen cell fails its check as its tile is read (R156): it is discarded, and a relay cell's credit is not
spent. -/
def cellFailed (x : SlotId) (c : Chosen) (s : State) : State :=
  let s := skyGone c.cell (quarFail 4 c.tile (s.count .BUF_ONDIE_CRC_CELL_CNT (qXport c.queue)))
  if c.relay then
    let p := pairOf s c.dst
    addCredit c.dst 1 (setPair c.dst (move x.epoch (fun h => { h with sent := h.sent - 1 }) { p with sent := p.sent - 1 }) s)
  else s

/-- Count data positions offered and used toward d (R236) (DEDUCED, log 62). -/
def noteOffer (d a u : Nat) (s : State) : State :=
  { s with sky := { s.sky with
    offered := SMap.upd s.sky.offered d 0 (· + a), used := SMap.upd s.sky.used d 0 (· + u) } }

/-- Lane n sends its burst to d in slot x. `bad` names the positions whose cells fail their check. -/
def sendData (n d : Nat) (x : SlotId) (bad : List Nat) (s : State) : State :=
  let half := halfTo s d
  let s := if (slane s n).fill = some x then s else returnChosen n (fun _ => true) s
  let s := balance n x true half s
  let s := returnChosen n (fun c => c.dst != d || decide (dataPositions s n half ≤ c.pos)) s
  let l := slane s n
  let fail := l.chosen.filter (fun c => bad.contains c.pos)
  let good := l.chosen.filter (fun c => !bad.contains c.pos)
  let s := l.chosen.foldl (fun s c => noteDepth c.queue s) s
  let s := setSlane n { l with chosen := [] } s
  let g := grantTo s d
  let s := grant d g x.epoch s
  let body := good.map (fun c => (c.pos, cellBytes (sentCell c)))
  let s := sendBurst ⟨n, x, d, half, l.code, 0, validMask body, g⟩ (positions half body) s
  let s := noteOffer d (lastPos half + b2n l.lastData) good.length s
  let s := good.foldl (fun s c => cellSent (n / 16) c s) s
  let s := fail.foldl (fun s c => cellFailed x c s) s
  l.chosen.foldl (fun s c => boundSync c.queue s) s

/-- DATA_SLOT_TX (R195): lane n in the running data slot. -/
def dataSlotTx (n : Nat) (bad : List Nat) (s : State) : State :=
  let x := curSlot s
  if x.slot = 0 || !epochOpen s || skyLanes s ≤ n || (slane s n).sent = some x then s
  else
    let quiet := fun (s : State) =>
      let s := balance n x false false (returnChosen n (fun _ => true) s)
      setSlane n { slane s n with sent := some x } s
    match laneDest s n x with
    | none => quiet s
    | some d =>
      if !mayBurst s n then quiet s
      else if peerServes s n d then sendData n d x bad s
      else (quiet s).count .SKY_NO_PEER_SLOT_CNT (n / 16)

def execDataSlotTx (n : Fin 256) (bad : List Nat) (s : State) : Result := .next (dataSlotTx n.val bad s)

end Sys2Proof.Machine
end

