-- ==== Sys2Proof/Machine/SkyRx.lean ====
section
/-!
DEFINITION. Sky reception: the receive checks (R224), trace strings (R222, R223), collisions and noise (R225, R226), sync
frames (R196, R216, R242, R243), deskew (R228), relaying in (R239), and resequencing (R245 to R247).
-/
namespace Sys2Proof

/-! ### A burst as the receiver reads it (R203, R204, R208) -/

/-- The last samples of the preamble in pairs. -/
def RxBurst.pairs (b : RxBurst) : List (Nat × Nat) :=
  (List.range 64).map (fun i => (fun (l : List Nat) => (l.getD (2 * i) 0, l.getD (2 * i + 1) 0)) (b.pre.drop (b.pre.length - 128)))

/-- The half-rate layout (R208): a half-rate preamble shows as pairs of equal samples; the majority of the last 64 pairs
decides (DEDUCED, log 22). -/
def RxBurst.half (b : RxBurst) : Bool := decide (32 < (b.pairs.filter (fun e => e.1 == e.2)).length)

/-- The last 64 symbols of the preamble at its rate. -/
def RxBurst.symbols (b : RxBurst) : List Nat :=
  if b.half then b.pairs.map (fun e => e.2) else b.pre.drop (b.pre.length - 64)

/-- More than 16 of the last 64 preamble symbols differ from the pattern, levels 3 and 0 in turn (R205, R208). -/
def RxBurst.preBad (b : RxBurst) : Bool :=
  decide (16 < (b.symbols.zipIdx.filter (fun e => e.1 != (if e.2 % 2 = 0 then 3 else 0))).length)

/-- SYNC with at most 4 of its 32 bits in error (R208). -/
def RxBurst.syncOk (b : RxBurst) : Bool := decide (Machine.popCount (b.sync ^^^ 0xB4E15A2D#32) ≤ 4)

/-- Parity bytes, and length, of the header codeword (R204). -/
def RxBurst.hdrParity (b : RxBurst) : Nat := if b.half then 2 else 4
def RxBurst.hdrLen (b : RxBurst) : Nat := if b.half then 34 else 68

/-- The bytes after SYNC, descrambled (R203). -/
def RxBurst.clear (b : RxBurst) : List Byte := scramble (2 ^ 31 - 1) b.body

/-- The header codeword as received, and decoded (R204). -/
def RxBurst.hdrWord (b : RxBurst) : List Byte := fit b.hdrLen (toBe 4 b.sync.toNat ++ b.clear.take (b.hdrLen - 4))
def RxBurst.hdr (b : RxBurst) : Option (List Byte × Nat) := rsDecode b.hdrParity b.hdrWord

/-- The header as decoded. -/
def RxBurst.hdrData (b : RxBurst) : List Byte := (b.hdr.map (fun e => e.1)).getD []

end Sys2Proof

namespace Sys2Proof.Machine

/-! ### What a burst says -/

/-- Bits [hi:lo] of the slot header as R209 numbers them, from 511 down to 256. -/
def hdrField (h : List Byte) (hi lo : Nat) : Nat := bits (beAt h 0 32) (hi - 256) (lo - 256)

/-- The header codeword decodes (R204). -/
def hdrDecodes (b : RxBurst) : Bool := b.hdr.isSome

/-- HEADER_CRC matches: JUST counts as zero (R209). -/
def hdrCrcOk (h : List Byte) : Bool :=
  let v := setBits (beAt h 0 32) 153 148 0
  crc32c (toBe 28 (v / 2 ^ 32)) == hdrField h 287 256

/-- The positions that CELL_VALID marks; a half-rate burst has positions 0 to 11 (R210). -/
def validPositions (b : RxBurst) : List Nat :=
  (List.range (if b.half then 12 else 24)).filter (fun i => (hdrField b.hdrData 401 378).testBit i)

/-- What the decoder of a cell position makes of it (R204): the bytes, how many were corrected, and whether it decodes. -/
structure Codeword where
  data : List Byte
  errs : Nat
  ok : Bool
  deriving DecidableEq, Repr

/-- The codeword of a position: it decodes where at most 8 corrections make it a codeword. R204 gives this code more bytes than
an element of the field can tell apart, so which bytes to correct is the decoder's to find (DESIGN CHOICE, log 22). -/
def posWord (b : RxBurst) (i : Nat) : Codeword :=
  let w := fit 272 ((b.clear.drop (b.hdrLen - 4 + 272 * i)).take 272)
  let l := b.fixes.getD i []
  let w := l.foldl (fun w e => patch w e.1 [e.2]) w
  ⟨w.take 256, l.length, decide (l.length ≤ 8) && (syndromes 16 w).all (· == 0)⟩

/-- A sync frame with a good codeword, a good SF_CRC and a listed type (R216). -/
def syncOk (c : Codeword) : Bool :=
  let f := c.data
  c.ok && crc32c (f.take 252) == beAt f 252 4 && decide (1 ≤ beAt f 0 1) && decide (beAt f 0 1 ≤ 4)

/-- A cell with a good codeword, header CRC and payload CRC (R214, R224 step 11). -/
def cellOk (c : Codeword) : Bool :=
  let f := c.data
  c.ok && crc16 (f.take 14) == beAt f 14 2 && crc16 (f.drop 16) == beAt f 12 2

/-- A cell as its 256 bytes spell it (R212). -/
def cellOf (l : List Byte) : Cell :=
  let f := fit 256 l
  let h := beAt f 0 16
  { kind := bits h 127 126, relay := h.testBit 125, cls := bits h 124 122, srcMod := bits h 121 115
    srcPort := bits h 114 107, dstMod := bits h 106 100, dstPort := bits h 99 92, seq := bits h 91 68
    flen := bits h 67 54, ecn := bits h 53 52, mirror := h.testBit 51, pay := f.drop 16 }

/-- A burst in the sync slot, as its header says. -/
def isSyncBurst (b : RxBurst) : Bool := hdrField b.hdrData 439 432 == 0

/-- The majority code of JUST, where two copies agree (R211). -/
def justMajority (h : List Byte) : Option Nat :=
  let a := hdrField h 409 408
  let b := hdrField h 407 406
  let c := hdrField h 405 404
  if a = b || a = c then some a else if b = c then some b else none

/-- The last position is stuff for a small sky's receiver (R218). -/
def stuffed (h : List Byte) : Bool :=
  match justMajority h with
  | some 2 => true
  | some 0 => decide (hdrField h 439 432 % 2 = 1)
  | some 3 => true
  | some _ => false
  | none => true

/-- Positions whose content a receiver looks at: not the last one as stuff, and not beyond position 2 of a sync burst
with FILL 3 in a large sky (R218, R220). -/
def livePositions (s : State) (b : RxBurst) : List Nat :=
  let large := s.flag .SKY_CFG_SIZE
  (validPositions b).filter (fun i =>
    if isSyncBurst b then !(large && hdrField b.hdrData 403 402 == 3) || decide (i < 3)
    else large || !stuffed b.hdrData || i != lastPos b.half)

/-! ### When a burst was expected (R224, R263) -/

/-- Sky time at which the slot of a burst on lane n began, by its receive time, in 1/1,000 unit of TS64. -/
def slotTime (s : State) (n rxTs : Nat) : Int := (rxTs : Int) * 1000 - 40960 - 16 * (laneDelay s n : Int)

/-- The slot in which a burst on lane n was expected: the nearest one. -/
def expectedSlot (s : State) (n rxTs : Nat) : SlotId :=
  slotAt s ((slotTime s n rxTs + 1024 * 1000) / 1000).toNat

/-- The burst lies within 8 ns of its expected position (R208). -/
def inSearch (s : State) (n rxTs : Nat) : Bool :=
  let t := slotTime s n rxTs + 1024 * 1000
  decide ((t % (2048 * 1000) - 1024 * 1000).natAbs ≤ 128 * 1000)

/-- The lane has epoch timing (R224). -/
def timed (s : State) : Bool := s.flag .SKYT_STATUS_STEPPED

/-- The full epoch nearest to the module's own with the EPOCH_LO of a burst. -/
def burstEpoch (s : State) (lo : Nat) : Nat :=
  let e := curEpoch s
  (((e + 32768 : Nat) : Int) - (((e + 32768 : Nat) : Int) - (lo : Int)) % 65536).toNat

/-! ### Trace strings and strangers (R222, R223) -/

def traceOf (s : State) (n src : Nat) : TraceSt := SMap.getD s.sky.traces (128 * n + src) {}

/-- Store the trace assembly of a source on a lane; SKY_LANE_ALARM and SKY_STRANGER_SRC show its marks. -/
def setTrace (n src : Nat) (x : TraceSt) (s : State) : State :=
  let was := (traceOf s n src).stranger
  let s := { s with sky := { s.sky with traces := SMap.put s.sky.traces (128 * n + src) {} x } }
  if was = x.stranger then s
  else
    let on := fun (p : Nat → Bool) => s.sky.traces.any (fun e => e.2.stranger && p e.1)
    let s := s.setFld .SKY_LANE_ALARM_STRANGER (b2n (on (fun k => k / 128 == n))) n
    putLaneBit .SKY_STRANGER_SRC src (on (fun k => k % 128 == src)) s

/-- The string expected from a source on a lane. -/
def traceExpected (s : State) (n src : Nat) : List Byte :=
  (List.range 56).map (fun i => BitVec.ofNat 8 (wordByte (s.reg .SKY_TRACE_EXP src (i / 4)) (i % 4)))
    ++ [BitVec.ofNat 8 src, BitVec.ofNat 8 n] ++ List.replicate 6 0#8

/-- The records of a new stranger: one of code 6 and three of code 7 (R333). -/
def strangerRecs (s : State) (n src : Nat) (str : List Byte) : List NRec :=
  faultRec s 6 n src 0 :: (List.range 3).map (fun k =>
    ⟨.fault, 7, n, ofBe (fit 8 (slice str (24 * k) 8)), ofBe (fit 8 (slice str (24 * k + 8) 8)),
      ofBe (fit 8 (slice str (24 * k + 16) 8))⟩)

/-- The trace byte of a burst (R222). -/
def takeTrace (n src idx : Nat) (v : Byte) (s : State) : State :=
  let t := traceOf s n src
  let t := { t with buf := SMap.put t.buf idx 0#8 v, have_ := if t.have_.contains idx then t.have_ else idx :: t.have_ }
  if t.have_.length < 64 then setTrace n src t s
  else
    let str := (List.range 64).map (fun i => SMap.getD t.buf i 0#8)
    let good := fldF s .SKY_FRAME_CFG_TRACE_CHECK == 0 || str == traceExpected s n src
    let t := if good then { t with mis := 0, ok := t.ok + 1 } else { t with ok := 0, mis := t.mis + 1 }
    let t := { t with have_ := [] }
    if t.mis = 2 && !t.stranger then offer (strangerRecs s n src str) (setTrace n src { t with stranger := true } s)
    else if t.ok = 2 && t.stranger then setTrace n src { t with stranger := false } s
    else setTrace n src t s

/-! ### Collisions and noise (R225, R226) -/

/-- What the power monitor and the checks make of a slot with light. -/
inductive BurstClass where
  | good
  /-- With the index of the source counter. -/
  | noise (src : Nat)
  | coll (src : Nat)
  deriving DecidableEq, Repr

/-- Some codeword, cell CRC or sync frame of a burst failed. -/
def contentFails (s : State) (b : RxBurst) : Bool :=
  (livePositions s b).any (fun i => !(if isSyncBurst b then syncOk (posWord b i) else cellOk (posWord b i)))

/-- A step (R225): the power of a window exceeds the preamble's by STEP_DB or more; 0 is treated as 1 (R230). -/
def burstStep (s : State) (b : RxBurst) : Bool :=
  b.windows.any (fun p => decide (b.power + (max 1 (fldF s .SKY_FRAME_CFG_STEP_DB) : Nat) ≤ p))

/-- The class of a burst whose SYNC was found or not (R225). -/
def burstClass (s : State) (b : RxBurst) (sync : Bool) : BurstClass :=
  let hdr := sync && hdrDecodes b
  let src := if hdr then hdrField b.hdrData 471 465 else 128
  if b.preBad || !hdr || !hdrCrcOk b.hdrData then (if burstStep s b then .coll src else .noise 128)
  else if contentFails s b then .noise src
  else .good

/-- The sources of the events of a lane kind in the window. -/
def windowSrcs (w : WinSt) : List Nat := w.srcs.flatten

/-- A record mask over the sources counted. -/
def srcMask (l : List Nat) (lo : Nat) : Nat := (List.range 64).foldl (fun a i => if l.contains (lo + i) then a + 2 ^ i else a) 0

/-- A collision (kind 1) or noise (kind 2) event on lane n from a source (R226). -/
def laneEvent (k n src : Nat) (s : State) : State :=
  let (s, enters) := winEvent k n s
  let w := winOf s k n
  let w := { w with srcs := match w.srcs with
    | [] => [[src]]
    | l :: r => (if l.contains src then l else src :: l) :: r }
  let s := setWin k n w s
  if enters then
    let s := s.setFld (if k = 1 then .SKY_LANE_ALARM_COLL else .SKY_LANE_ALARM_NOISE) 1 n
    fault (7 + k) n (srcMask (windowSrcs w) 0) (srcMask (windowSrcs w) 64) s
  else s

/-- Count the class of a burst on lane n. -/
def countClass (n : Nat) (c : BurstClass) (s : State) : State :=
  match c with
  | .good => s
  | .noise src => laneEvent 2 n src ((s.count .SKY_LANE_NOISE_CNT n).count .SKY_SRC_NOISE_CNT src)
  | .coll src => laneEvent 1 n src ((s.count .SKY_LANE_COLL_CNT n).count .SKY_SRC_COLL_CNT src)

/-- Corrected bytes of the codewords that decode (R225). -/
def corrected (b : RxBurst) : Nat :=
  (match b.hdr with
    | some (_, n) => n
    | none => 0)
    + ((List.range (if b.half then 12 else 24)).map (fun i => let c := posWord b i; if c.ok then c.errs else 0)).sum

/-! ### Sync frames (R196, R197, R229, R243) -/

/-- A hello frame from module d (R196, R197); a format 3 sender's LANES counts as 0. -/
def takeHello (d fmt : Nat) (f : List Byte) (s : State) : State :=
  let v := beAt f 2 1
  if bits v 5 5 = s.fld .SKY_CFG_SIZE && bits v 4 1 = epochLog2 s then
    let acc := beAt f 1 1
    let s := (s.setFld .SKY_PEER_PRESENT 1 d).setFld .SKY_PEER_RATE (bits v 7 7) d
    let s := (s.setFld .SKY_PEER_LANES (if fmt = 3 then 0 else bits v 6 6) d).setFld .SKY_PEER_ACCEPT acc d
    let s := s.setFld .SKY_PEER_FORMAT_TX (if acc.testBit 4 then 4 else 0) d
    setPair d { pairOf s d with hello := curEpoch s } s
  else s.count .SKY_HELLO_MISMATCH_CNT

/-- Step 2 of R243: grants that were lost. -/
def recoverGrants (y asof total : Nat) (s : State) : State :=
  let p := pairOf s y
  let own := totalTo p asof p.rg (fun h => h.rg)
  let lost : Nat := (total + 2 ^ 32 - own % 2 ^ 32) % 2 ^ 32
  if lost = 0 then s
  else if lost < 2 ^ 31 then
    (addCredit y lost (setPair y { p with rg := p.rg + lost } s)).count .SKY_CREDIT_RECOVER_CNT 0 0 lost
  else ledgerFault 8 y total (own % 2 ^ 32) s

/-- Step 3 of R243: relay cells that were lost. -/
def recoverCells (y asof total : Nat) (s : State) : State :=
  let p := pairOf s y
  let own := totalTo p asof p.recv (fun h => h.recv)
  let lost : Nat := (total + 2 ^ 32 - own % 2 ^ 32) % 2 ^ 32
  if lost = 0 then s
  else if lost < 2 ^ 31 then
    (relayOut y lost (setPair y { p with recv := p.recv + lost } s)).count .SKY_RELAY_CELL_LOST_CNT 0 0 lost
  else ledgerFault 9 y total (own % 2 ^ 32) s

/-- A credit frame from module y that a pipeline receives (R243) (DEDUCED, log 36). -/
def takeCredit (pipe y : Nat) (f : List Byte) (s : State) : State :=
  let asof := beAt f 8 6
  let join := beAt f 2 6
  let p := pairOf s y
  if beAt f 1 1 % 128 != ownMod s then s.count .SKY_RX_SYNCFRAME_ERR_CNT pipe
  else if (match p.asof with
    | some a => decide (asof ≤ a)
    | none => false) then s
  else
    let s := if p.join.isSome && p.join != some join then resetPair y s else s
    let s := setPair y { pairOf s y with join := some join, asof := some asof } s
    let s := recoverCells y asof (beAt f 18 4) (recoverGrants y asof (beAt f 14 4) s)
    setPair y { pairOf s y with relayEn := decide (128 ≤ beAt f 1 1) } s

/-- A good sync frame of module src on lane n. -/
def takeSync (n src fmt lo rxTs : Nat) (f : List Byte) (s : State) : State :=
  let t := beAt f 0 1
  if t = 1 then takeTime n src lo f rxTs s
  else if t = 2 then takeHello src fmt f s
  else if t = 3 then takeCredit (n / 16) src f s
  else s

/-! ### Cells of a burst (steps 9 to 12, R149, R228) -/

/-- M(E) of a burst's epoch is this MAP_ID (R194). -/
def mapAgrees (s : State) (e m : Nat) : Bool :=
  if e = s.sky.epoch then s.sky.mapNow == some m
  else decide (e < s.sky.epoch) && s.sky.mapOld.getD (s.sky.epoch - e - 1) none == some m

/-- Step 12 fails. -/
def misdirected (s : State) (src : Nat) (c : Cell) : Bool :=
  if c.relay then c.dstMod == ownMod s || c.srcMod != src else c.dstMod != ownMod s

/-- A cell that passes every step enters the deskew store, in a pool D tile. -/
def deskewPut (n i src : Nat) (x : SlotId) (c : Cell) (s : State) : State :=
  let p := n / 16
  let s := s.count .SKY_RX_CELL_CNT p
  if s.flag .SKY_LANE_ALARM_DESKEW n then s.count .SKY_RX_DESKEW_DROP_CNT p
  else
    match reserveTurn (128 + 2 * p + n % 2) 1 false s with
    | (false, s) => (s.count .BUF_RX_NOBUF_CELL_CNT (16 + p)).count .BUF_NOBUF_CNT 4
    | (true, s) =>
      let (t, s) := allocRsv (rxSlots p) s
      { s with sky := { s.sky with desk := s.sky.desk ++ [⟨x, n, i, t, c, src⟩] } }

/-- A valid position of a data burst meets steps 11 and 12. -/
def takePosition (n src : Nat) (x : SlotId) (b : RxBurst) (i : Nat) (s : State) : State :=
  let w := posWord b i
  let c := cellOf w.data
  if !cellOk w then s.count .SKY_RX_CELL_ERR_CNT (n / 16)
  else if misdirected s src c then s.count .SKY_RX_MISDIRECT_CNT (n / 16)
  else deskewPut n i src x c s

/-- Step 10 counts (R218, R220). -/
def countJust (p : Nat) (b : RxBurst) (s : State) : State :=
  let m := justMajority b.hdrData
  if s.flag .SKY_CFG_SIZE then s.countIf (m.isSome && m != some 0) .SKY_RX_JUST_ERR_CNT p
  else
    let s := (s.countIf (m == some 1) .SKY_RX_NJ_CNT p).countIf (m == some 2) .SKY_RX_PJ_CNT p
    s.countIf (m == none || m == some 3 || (stuffed b.hdrData && (validPositions b).contains (lastPos b.half)))
      .SKY_RX_JUST_ERR_CNT p

/-- A data burst that passes steps 1 to 6. -/
def takeData (n src : Nat) (stranger : Bool) (x : SlotId) (b : RxBurst) (s : State) : State :=
  let p := n / 16
  let cnt := (validPositions b).length
  if stranger then s.count .SKY_RX_STRANGER_CELL_CNT p 0 cnt
  else if !timed s then s
  else if !mapAgrees s x.epoch (hdrField b.hdrData 431 424) then s.count .SKY_RX_MAP_MISMATCH_CNT p 0 cnt
  else (livePositions s b).foldl (fun s i => takePosition n src x b i s) (bufError (rxSlots p) b.buf (countJust p b s))

/-- A sync burst that passes steps 1 to 6. -/
def takeSyncBurst (n src : Nat) (stranger : Bool) (b : RxBurst) (s : State) : State :=
  let h := b.hdrData
  let p := n / 16
  let fill := hdrField h 403 402
  let large := s.flag .SKY_CFG_SIZE
  let s := s.countIf (large && fill == 3) .SKY_RX_FORMAT_ERR_CNT p
  let s := s.countIf (large && (fill == 0 || fill == 2)) .SKY_RX_SLIP_CNT p
  let live := livePositions s b
  let s := s.count .SKY_RX_SYNCFRAME_ERR_CNT p 0 ((live.filter (fun i => !syncOk (posWord b i))).length)
  if stranger then s
  else (live.filter (fun i => syncOk (posWord b i))).foldl (fun s i =>
    takeSync n src (hdrField h 479 472) (hdrField h 455 440) b.rxTs (posWord b i).data s) s

/-! ### The receive checks (R224) -/

/-- Credit and spare levels, from every burst that passes steps 1 to 4 and 8 (R236, R241). -/
def takeCreditSpare (src : Nat) (h : List Byte) (s : State) : State :=
  let g := hdrField h 377 362
  let s := if g = 0 then s else
    let p := pairOf s src
    let e := burstEpoch s (hdrField h 455 440)
    addCredit src g (setPair src (move e (fun x => { x with rg := x.rg + g }) { p with rg := p.rg + g }) s)
  if hdrField h 479 472 = 4 then
    let w := if s.flag .SKY_CFG_SIZE then hdrField h 439 432 % 4 else 0
    let sp := hdrField h 361 298
    { s with sky := { s.sky with
      spare := (List.range 32).foldl (fun (m : SMap Nat) i =>
        SMap.put m (128 * src + 32 * w + i) 0 (bits sp (63 - 2 * i) (62 - 2 * i))) s.sky.spare } }
  else s

/-- Step 1: SYNC is found within the search window. -/
def syncFound (s : State) (n : Nat) (b : RxBurst) : Bool := b.syncOk && (!timed s || inSearch s n b.rxTs)

/-- A sync burst that passes step 1 ends a loss of sync bursts (R251). -/
def noteSync (n : Nat) (b : RxBurst) (s : State) : State :=
  let x := if timed s then expectedSlot s n b.rxTs else ⟨curEpoch s, if hdrDecodes b then hdrField b.hdrData 439 432 else 1⟩
  if x.slot = 0 then
    putLaneBit .SKY_LANE_RXLOS n false (setSlane n { slane s n with syncAt := x.epoch + 1 } s)
  else s

/-- A burst whose header passes steps 1 to 4 (DEDUCED, log 35). -/
def takeBurst (n : Nat) (b : RxBurst) (s : State) : State :=
  let h := b.hdrData
  let p := n / 16
  let src := hdrField h 471 465
  let before := (traceOf s n src).stranger
  let s := takeTrace n src (hdrField h 423 418) (BitVec.ofNat 8 (hdrField h 417 410)) s
  let stranger := before || (traceOf s n src).stranger
  let s := if stranger then s else takeCreditSpare src h s
  let e := burstEpoch s (hdrField h 455 440)
  let x : SlotId := ⟨e, hdrField h 439 432⟩
  if hdrField h 463 456 != n then s.count .SKY_RX_LANE_ERR_CNT p
  else if timed s && expectedSlot s n b.rxTs != x then s.count .SKY_RX_TIMING_ERR_CNT p
  else
    let s := s.count .SKY_RX_BURST_CNT p
    if isSyncBurst b then takeSyncBurst n src stranger b s else takeData n src stranger x b s

/-- SKY_BURST_RX (R224): a slot with light on lane n. -/
def skyBurstRx (n : Nat) (b : RxBurst) (s : State) : State :=
  if skyState s = 0 || skyLanes s ≤ n then s
  else
    let p := n / 16
    let h := b.hdrData
    let sync := syncFound s n b
    let s := s.count .SKY_LANE_FEC_CORR_SYM_CNT n 0 (if sync then corrected b else 0)
    let s := countClass n (burstClass s b sync) s
    if !sync then s.count .SKY_RX_NOSYNC_CNT p
    else
      let s := noteSync n b s
      let fmt := hdrField h 479 472
      let src := hdrField h 471 465
      if !hdrDecodes b || !hdrCrcOk h then s.count .SKY_RX_HDR_ERR_CNT p
      else if !(fmt == 3 || fmt == 4) || src == ownMod s || decide (skySize s ≤ src) then s.count .SKY_RX_FORMAT_ERR_CNT p
      else takeBurst n b (deskewAlarm (minDelay s) n s)

def execSkyBurstRx (n : Fin 256) (b : RxBurst) (s : State) : Result := .next (running (skyBurstRx n.val b) s)

/-! ### Loss of sync bursts (R251) -/

/-- The last epoch whose sync slot has ended on lane n, plus 1. -/
def syncEnded (s : State) (n : Nat) : Nat :=
  let t : Int := (s.ts64 : Int) * 1000 - 16 * (laneDelay s n : Int) - 2048 * 1000
  if t < 0 then 0 else (t / 1000).toNat / epochUnits s + 1

/-- LANE_RXLOS (R251): two consecutive sync slots have passed with no burst on lane n since the module left LISTEN. -/
def laneRxlos (n : Nat) (s : State) : State :=
  let e := syncEnded s n
  if decide (2 ≤ skyState s) && decide (n < skyLanes s) && !(s.reg .SKY_LANE_RXLOS (n / 32)).toNat.testBit (n % 32)
      && decide ((slane s n).syncAt + 2 ≤ e) && decide (s.sky.since + 2 ≤ e) then
    fault 0x0C n 0 0 ((putLaneBit .SKY_LANE_RXLOS n true s).count .SKY_LANE_RXLOS_CNT)
  else s

def execLaneRxlos (n : Fin 256) (s : State) : Result := .next (laneRxlos n.val s)

/-! ### Relaying in (R239) -/

/-- Band of a class at a relay. -/
def relayBand (s : State) (c : Nat) : Nat := b2n ((s.fld .TM_RELAY_CFG_BAND1_MASK).testBit c)

/-- A relay cell from the deskew store of a lane of pipeline p (R239). -/
def relayIn (p : Nat) (k : Desk) (s : State) : State :=
  let src := k.from_
  let d := k.cell.dstMod
  let y := pairOf s src
  let over_ := decide (y.gr ≤ y.recv)
  let s := setPair src (move k.slot.epoch (fun h => { h with recv := h.recv + 1 }) { y with recv := y.recv + 1 }) s
  let c := { k.cell with tag := { k.cell.tag with due := true } }
  if over_ then fault 0x0D src 0 0 (dropCell k.tile c (s.count .SKY_RELAY_OVER_CREDIT_CNT))
  else if !compatible s d || (shares s d false).sum = 0 then dropCell k.tile c (s.count .SKY_RELAY_NOROUTE_CNT (16 + p))
  else
    let (q, s) := spread (16 + p) d s
    feedPut (16 + p) [⟨c, 16 + p, 16 + q, relayQ d (relayBand s c.cls), false, 0, 0, some k.tile, 0, false⟩] s

/-! ### The resequencer (R246, R247) -/

/-- Release the cells of the open frame. -/
def releaseOpen (r : Reseq) (s : State) : Reseq × State :=
  ({ r with opened := [] }, r.opened.foldl (fun s e => dropCell e.1 e.2 s) s)

/-- A delivered frame passes the checks of R247. -/
def deliverable (l : List (Nat × Cell)) : Bool :=
  match l with
  | [] => false
  | (_, a) :: _ =>
    decide (64 ≤ a.flen) && decide (a.flen ≤ 9728) && l.length == cellCount a.flen
      && l.all (fun e => e.2.dstPort == a.dstPort)

/-- A whole frame of a stream leaves the resequencer (R247). -/
def deliver (src c : Nat) (l : List (Nat × Cell)) (s : State) : State :=
  if deliverable l then
    let p := streamPipe src c
    let port := ((l.map (fun e => e.2.dstPort)).headD 0)
    let s := (s.count .SKY_PAIR_FRAME_CNT src).led tIn3 (16 + p)
    feedPut (16 + p) (l.map (fun e => ⟨e.2, 16 + p, port / 16, 8 * (port % 16) + c, false, 0, 0, some e.1, 0, false⟩)) s
  else streamDrop .SKY_PAIR_FORMAT_DISCARD_CNT src c (l.foldl (fun s e => dropCell e.1 e.2 s) s)

/-- `assemble` of R246. -/
def assemble (src c : Nat) (h : Held) (r : Reseq) (s : State) : Reseq × State :=
  let k := h.cell.kind
  if r.skip && (k == 0 || k == 2) then ({ r with skip := r.skip && k != 2 }, dropCell h.tile h.cell s)
  else
    let r := { r with skip := false }
    if k = 1 || k = 3 then
      let (r, s) := if r.opened.isEmpty then (r, s) else
        let (r, s) := releaseOpen r s
        (r, streamDrop .SKY_PAIR_FORMAT_DISCARD_CNT src c s)
      if k = 3 then (r, deliver src c [(h.tile, h.cell)] s) else ({ r with opened := [(h.tile, h.cell)] }, s)
    else if r.opened.isEmpty then (r, streamDrop .SKY_PAIR_FORMAT_DISCARD_CNT src c (dropCell h.tile h.cell s))
    else
      let l := r.opened ++ [(h.tile, h.cell)]
      if k = 2 then ({ r with opened := [] }, deliver src c l s) else ({ r with opened := l }, s)

/-- `drain` of R246; n bounds its turns. -/
def drain (src c : Nat) : Nat → Reseq → State → Reseq × State
  | 0, r, s => (r, s)
  | n + 1, r, s =>
    match r.held.find? (fun h => h.seq == r.next) with
    | none => (r, s)
    | some h =>
      let (r, s) := assemble src c h { r with held := r.held.filter (fun x => x.seq != h.seq) } s
      drain src c n { r with next := (r.next + 1) % 2 ^ 24 } s

/-- The held cell nearest ahead of `next`. -/
def nearest (r : Reseq) : Option Held :=
  r.held.foldl (fun a h => match a with
    | none => some h
    | some b => if ahead h.seq r.next < ahead b.seq r.next then some h else a) none

/-- `resolve` of R246: the lowest gap is declared lost (DEDUCED, log 57). -/
def resolve (src c : Nat) (r : Reseq) (s : State) : Reseq × State :=
  match nearest r with
  | none => (r, s)
  | some m =>
    let s := s.count .SKY_PAIR_LOST_CNT src 0 (ahead m.seq r.next)
    let s := streamDrop .SKY_PAIR_FRAME_DISCARD_CNT src c s
    let (r, s) := releaseOpen r s
    drain src c (r.held.length + 1) { r with skip := true, next := m.seq } s

/-- HOLD_CELLS in force, in cells; 0 is treated as 1 (R254). -/
def holdLimit (s : State) : Nat := 64 * max 1 (fldF s .SKY_RESEQ_CFG_HOLD_CELLS)

/-- HORIZON_US in force, in core clocks. -/
def horizonClk (s : State) : Nat := min 1024 (max 8 (fldF s .SKY_RESEQ_CFG_HORIZON_US)) * clkUs

/-- `on_cell` of R246 for a cell of stream (src, c) in a tile. -/
def onCell (tile : Nat) (x : Cell) (s : State) : State :=
  let src := x.srcMod
  let c := x.cls
  let r := reseqOf s src c
  let first := x.kind == 1 || x.kind == 3
  if !r.synced && !first then dropCell tile x (s.count .SKY_PAIR_LATE_CNT src)
  else
    let r := if r.synced then r else { r with next := x.seq, synced := true }
    if 2 ^ 23 ≤ ahead x.seq r.next then setReseq src c r (dropCell tile x (s.count .SKY_PAIR_LATE_CNT src))
    else if r.held.any (fun h => h.seq == x.seq) then
      fault 0x0E src (c * 2 ^ 24 + x.seq) 0 (dropCell tile x (s.count .SKY_PAIR_DUP_CNT src))
    else
      let (r, s) := if r.held.length = holdLimit s then resolve src c r (s.count .SKY_PAIR_FORCE_CNT src) else (r, s)
      let s := s.count .SKY_PAIR_RX_CELL_CNT src
      let r := { r with held := r.held ++ [⟨x.seq, tile, x, s.now⟩] }
      let (r, s) := drain src c (r.held.length + 1) r s
      setReseq src c r s

/-- RESEQ_HORIZON_EXPIRY (R246). -/
def horizonExpiry (src c : Nat) (s : State) : State :=
  let r := reseqOf s src c
  if r.held.any (fun h => decide (h.at_ + horizonClk s ≤ s.now)) then
    let (r, s) := resolve src c r s
    setReseq src c r s
  else s

def execReseqHorizonExpiry (src : Fin 128) (c : Fin 8) (s : State) : Result := .next (running (horizonExpiry src.val c.val) s)

/-! ### Deskew (R228, R245) -/

/-- The largest receive delay of a lane within the deskew limit, in ps. -/
def maxDelay (s : State) : Nat :=
  let lo := minDelay s
  (((enabledLanes s).map (laneDelay s)).filter (fun d => decide (d ≤ lo + deskewPs s))).foldl max 0

/-- The slot's burst has ended on every lane within the limit. -/
def slotEnded (s : State) (x : SlotId) : Bool :=
  decide ((slotStart s x + slotUnits) * 1000 + 16 * maxDelay s ≤ s.ts64 * 1000)

/-- Slots in order of time. -/
def slotLe (a b : SlotId) : Bool := decide (a.epoch < b.epoch) || (a.epoch == b.epoch && decide (a.slot ≤ b.slot))

/-- The oldest slot in the deskew store. -/
def oldestSlot (l : List Desk) : Option SlotId :=
  l.foldl (fun a k => match a with
    | none => some k.slot
    | some x => if slotLe x k.slot then a else some k.slot) none

/-- A cell leaves the deskew store (R245). -/
def released (k : Desk) (s : State) : State :=
  if k.cell.relay then relayIn (k.lane / 16) k s else onCell k.tile k.cell s

/-- DESKEW_RELEASE (R228): the cells of the oldest slot leave together, in order of lane and position. -/
def deskewRelease (s : State) : State :=
  match oldestSlot s.sky.desk with
  | none => s
  | some x =>
    if slotEnded s x then
      let l := s.sky.desk.filter (fun k => k.slot == x)
      let s := { s with sky := { s.sky with desk := s.sky.desk.filter (fun k => k.slot != x) } }
      ((List.range 256).flatMap (fun n => l.filter (fun k => k.lane == n))).foldl (fun s k => released k s) s
    else s

def execDeskewRelease (s : State) : Result := .next (running deskewRelease s)

end Sys2Proof.Machine
end

