-- ==== Sys2Proof/Machine/Clock.lean ====
section
/-!
DEFINITION. What happens in a core clock in which no command acts (assumption log 2): the time counter advances (R256), the
keeper core's heartbeat (R283), and the counts of stalls (R110, R127, R310).
-/
namespace Sys2Proof.Machine

/-- The time counter advances by 10 × (1 + r × 2^−48) units (R256) (DEDUCED, log 37), and in a large sky the sky cell clock by
the same factor (R257). -/
def advance (s : State) : State :=
  let r := 2 ^ 48 + sgn 32 (s.reg .SKYT_RATE).toNat
  let c := if s.flag .SKY_CFG_SIZE then r.toNat else 2 ^ 48
  { s with
    now := s.now + 1
    time := { s.time with before := s.time.ts, ts := unsgn 112 ((s.time.ts : Int) + 10 * r) }
    sky := { s.sky with cellClk := s.sky.cellClk + 10 * c * epochCells s } }

/-- The clock of the keeper core's last sign of life. -/
def noteBeat (s : State) : State := { s with ctl := { s.ctl with beatAt := s.now } }

/-- The keeper core raises HEARTBEAT once every millisecond (R283), unless its firmware hangs; the time without a change
runs while the core is alive (DESIGN CHOICE, log 68). -/
def heartbeat (s : State) : State :=
  if !s.flag .KEEP_STATUS_ALIVE then noteBeat s
  else if s.now % clkMs = 0 && !Config.keeperHangs (s.now / clkMs) then
    noteBeat (s.setFld .KEEP_STATUS_HEARTBEAT ((s.fld .KEEP_STATUS_HEARTBEAT + 1) % 65536))
  else s

/-- The oldest waiting cell of an input lacks credit (R127). -/
def lacksCredit (s : State) (i : Nat) : Bool :=
  match feedOf s i with
  | [] => false
  | x :: _ => decide (256 ≤ SMap.getD s.xbar.spent (32 * i + x.out) 0)

/-- Each input that waits for credit counts the clock (R127). -/
def creditStalls (s : State) : State :=
  (s.xbar.feed.map (fun e => e.1)).foldl (fun s i => s.countIf (lacksCredit s i) .XBAR_CREDIT_STALL_CNT i) s

/-- A ring has fetchable work and no free holding slot (R310). -/
def cplStalled (s : State) (r : Nat) : Bool :=
  decide (r < 160) && ringEn s r && headOf s r != tailOf s r && decide (64 ≤ (ringOf s r).units.length)

/-- Each stalled ring counts the microsecond (R310). -/
def cplStalls (s : State) : State :=
  if s.now % clkUs = 0 then
    (s.host.rings.map (fun e => e.1)).foldl (fun s r => s.countIf (cplStalled s r) .HOST_CPL_STALL_CNT r) s
  else s

/-- One core clock. -/
def tick (s : State) : State := serveUnknown (stallCount (cplStalls (creditStalls (heartbeat (idlClock (planeReturns (advance s)))))))

end Sys2Proof.Machine
end

