-- ==== Sys2Proof/Machine/Shaping.lean ====
section
/-!
DEFINITION. The refreshes of shapers and policers (R171 to R175), and the weather sampler (R179 to R181).
-/
namespace Sys2Proof.Machine

/-! ### Shapers -/

def execShaperRefresh (i : Fin 2304) (s : State) : Result := .next (shaperRefresh i.val s)

/-! ### Policers -/

def execPolicerRefresh (i : Fin 65536) (s : State) : Result := .next (policerRefresh i.val s)

/-! ### Weather (R179 to R181) -/

/-- PERIOD_US, 1 to 1,000 (R182). -/
def wxPeriod (s : State) : Nat := min 1000 (max 1 (s.fld .TM_WX_CFG_PERIOD_US))

/-- LOG2_RECORDS as it acts (R182). -/
def wxLog2 (s : State) : Nat :=
  let n := s.fld .TM_WX_LOG_SIZE_LOG2_RECORDS
  if n = 0 then 0 else if n < 10 then 10 else min n 26

/-- The queue that a watch entry names. -/
def watchQueue (w : Word) : Nat :=
  let x := Fld.TM_WX_WATCH_XPORT.get w
  let q := Fld.TM_WX_WATCH_QUEUE.get w
  if Fld.TM_WX_WATCH_KIND.get w = 0 then 128 * x + q % 128 else skyQ (x - 16) q

/-- Head-of-line delay of a queue (R162): the head frame's, or the head cell's. -/
def holDelay (s : State) (k : Nat) : Nat :=
  match (queueOf s k).units with
  | [] => 0
  | u :: _ => min (2 ^ 32 - 1) (s.now - (if k < 2048 then u.at_ else u.head.tag.at_))

/-- The weather record body as three words (R180) (DEDUCED, log 30). -/
def wxBody (s : State) (i : Nat) (w : Word) (ts : Nat) : Nat × Nat × Nat :=
  let k := watchQueue w
  let x := portOf s (k / 8)
  let paused := decide (k < 2048)
    && ((SMap.get? x.paused (k % 8)).isSome || s.flag .LEAF_PORT_STATUS_FROZEN (k / 8))
  let spilled := (queueOf s k).units.any (fun u => u.hbm.isSome)
  let low := (qOnDie s k % 2 ^ 24) * 2 ^ 40 + holDelay s k * 256 + 8 * b2n (s.tm.wxLost.contains i) + 4 * b2n paused
    + 2 * b2n spilled + b2n (onDieBound s k)
  let mid := Fld.TM_WX_WATCH_KIND.get w * 2 ^ 62 + Fld.TM_WX_WATCH_XPORT.get w * 2 ^ 57
    + Fld.TM_WX_WATCH_QUEUE.get w * 2 ^ 45 + i * 2 ^ 35 + qDepth s k % 2 ^ 32
  (ts, mid, low)

/-- The log fits the tables-and-counters region (R181). -/
def wxLogFits (s : State) : Bool :=
  decide (s.fld .TM_WX_LOG_BASE_OFFSET * 4096 + 2 ^ wxLog2 s * 32 ≤ s.fld .BUF_CARVE_STATUS_TC_GIB * 2 ^ 30)

/-- Step 1 of R181: the record is written to the weather log. -/
def wxLogPut (b : Nat × Nat × Nat) (s : State) : State :=
  let n := s.tm.wxSeq
  let at_ := s.fld .BUF_CARVE_STATUS_BUF_GIB * 2 ^ 30 + s.fld .TM_WX_LOG_BASE_OFFSET * 4096 + 32 * (n % 2 ^ wxLog2 s)
  let put := fun (s : State) => { s with tm := { s.tm with wxSeq := n + 1 } }
  if wxLog2 s = 0 then put s
  else if !wxLogFits s then put (s.setFld .TM_WX_STATUS_LOG_ERR 1)
  else
    let e := toLe 8 b.1 ++ toLe 8 b.2.1 ++ toLe 8 b.2.2 ++ toLe 8 n
    let s := s.setFld .TM_WX_STATUS_LOG_ERR 0
    put { s with tm := { s.tm with wxLog := SMap.insert s.tm.wxLog at_ e } }

/-- Steps 2 and 3 of R181: the record is offered to its ring. -/
def wxOffer (i : Nat) (b : Nat × Nat × Nat) (s : State) : State :=
  let told := fun (s : State) => { s with tm := { s.tm with wxLost := s.tm.wxLost.filter (· != i) } }
  let r : NRec := ⟨.weather, 0, 0, b.1, b.2.1, b.2.2⟩
  if backlogged s then
    (if groupLen s.sys.backlog + 1 ≤ 4096 then toBacklog [r] (told s) else wxMiss i (toBacklog [r] s))
  else
    match notePass [r] s with
    | (false, s) => wxMiss i (s.count .TM_WX_DROP_CNT)
    | (true, s) => noteWent [r] (told s)

/-- Watch entries in force at this sample: those of the registers (R182). -/
def wxEntries (s : State) : List (Nat × Word) :=
  ((List.range 1024).map (fun i => (i, s.reg .TM_WX_WATCH i))).filter (fun e => Fld.TM_WX_WATCH_EN.get e.2 == 1)

/-- The multiples of PERIOD_US that a value of the time counter has passed. -/
def wxCount (s : State) (ts : Nat) : Nat := ts / 2 ^ 48 / (16000 * wxPeriod s)

/-- WX_SAMPLE (R179): the time counter has reached a multiple of PERIOD_US in this core clock. -/
def wxSample (s : State) : State :=
  let per := wxPeriod s
  let n := wxCount s s.time.ts
  if s.flag .TM_WX_CFG_EN && !s.flag .SYS_PLANE_STATE_HEADLESS && decide (wxCount s s.time.before < n)
      && s.tm.wxAt != s.now + 1 then
    let all := wxEntries s
    let es := all.take (64 * per)
    let ts := n * per * 16000
    let recs := es.map (fun e => (e.1, wxBody s e.1 e.2 ts))
    let s := (s.setFld .TM_WX_STATUS_ACTIVE es.length).setFld .TM_WX_STATUS_OVERCOMMIT (b2n (64 * per < all.length))
    let s := { s with tm := { s.tm with wxAt := s.now + 1 } }
    recs.foldl (fun s r => wxOffer r.1 r.2 (wxLogPut r.2 s)) s
  else s

def execWxSample (s : State) : Result := .next (wxSample s)

end Sys2Proof.Machine
end

