-- ==== Sys2Proof/Machine/Reset.lean ====
section
/-!
DEFINITION. What the resets share (R402 to R404, R408): what the reset of the switch die and of the keeper domain leave,
the steps before a cold or warm reset, counter checkpoints (R397), and the sequencing of the rails (R385, R389).
-/
namespace Sys2Proof.Machine

/-! ### What a reset leaves (R403) -/

/-- The registers of a reset switch die keep the control die's, and BUF_RETIRE where its RWS fields are kept. -/
def keptReg (rws : Bool) (k : Nat) : Bool :=
  decide (controlBase ≤ k) || (rws && decide (Reg.BUF_RETIRE.off ≤ k) && decide (k < Reg.BUF_RETIRE.off + 4 * 1024))

/-- Sky lanes of the engines shed (R393). -/
def shedLanesOf (l : List Nat) : List Nat := (l.filter (fun e => decide (16 ≤ e))).flatMap (fun e => range' (16 * (e - 16)) 16)

/-- A fuse blow that a power loss or a reset of the switch die interrupts may or may not have blown the bit (R379, R416): a free
value (DESIGN CHOICE, log 1) (DEDUCED, log 50). -/
def fuseCut (s : State) : State :=
  match s.sys.fuseAt with
  | none => s
  | some (_, bit) =>
    let f := s.nvm.fuses.toNat
    let f := if Config.freeBit s.free && !f.testBit bit then f + 2 ^ bit else f
    { s with free := s.free + 1, sys := { s.sys with fuseAt := none }, nvm := { s.nvm with fuses := BitVec.ofNat 32 f } }

/-- Registers that show what is fixed or kept elsewhere: the fuses, the retire list that is kept, the HBM of an LZ-S1024, and a
link that trains anew. -/
def showFixed (s : State) : State :=
  let s := s.setReg .SYS_FUSE_USER s.nvm.fuses
  let s := (showUsed s).setReg .IDL_STATUS 0x40000000#32
  if s.sys.part = .s1024 then s.setReg .BUF_CARVE_STATUS 0x00003808#32 else s

/-- The switch die is reset: its registers, shadows and counters, and everything it holds. -/
def switchReset (rws : Bool) (s : State) : State :=
  let s := fuseCut s
  let near := fun (k : Nat) => decide (controlBase ≤ k)
  showFixed { s with
    regs := SMap.keep s.regs (keptReg rws)
    shadow := []
    cnts := SMap.keep s.cnts near
    hold := SMap.keep s.hold near
    pairs := SMap.keep s.pairs (fun k => near (k % 2 ^ 28))
    sys := { part := s.sys.part, slowPwr := s.sys.slowPwr, switchAt := s.now }
    ctl := { s.ctl with
      heldInts := [], heldDma := [], keySoft := none, keyKeep := none, idlDownAt := none, vcs := [], arbs := []
      pols := idlPolsFull s, polAt := 0 }
    host := { mem := s.host.mem, ext := s.host.ext, poison := s.host.poison }
    hlt := { keepq := s.hlt.keepq, flog := s.hlt.flog, logSeq := s.hlt.logSeq }
    cls := {}, tbl := {}, leaf := {}, xbar := {}, buf := {}, tm := {}, time := {}
    sky := { shedLanes := shedLanesOf s.pwr.shed }
    pwr := { s.pwr with stopped := true } }

/-- NVM_SLOT_STATUS shows flash (R417). -/
def showSlots (s : State) : State :=
  let c := curCopy s
  let v := b2n c.isSome * 2 ^ 17 + b2n (c.any (fun x => x.1 == 1)) * 2 ^ 16 + s.nvm.slotB * 1024 + s.nvm.slotA * 256
    + s.nvm.booted * 2 + s.nvm.keeper
  s.setReg .NVM_SLOT_STATUS (BitVec.ofNat 32 v)

/-- NVM_SLOT_STATUS and NVM_BOOT_SEL show flash (R417). -/
def showFlash (s : State) : State := (showSlots s).setReg .NVM_BOOT_SEL s.nvm.bootFlash

/-- PWR_SHED_ORDER shows the committed order, or the default one (R392). -/
def showOrder (s : State) : State :=
  (List.range 8).foldl (fun s w =>
    s.setReg .PWR_SHED_ORDER (BitVec.ofNat 32 (shedWord (fun k => (shedOrder s).getD k 0) w)) w) s

/-- The keeper domain is reset: its registers and counters; what the input, the bus, the oscillator and the quiet line say
stays so, and flash is shown again. -/
def keeperReset (s : State) : State :=
  let st := (s.reg .PWR_STATUS).toNat
  let keepSt := bits st 31 29 * 2 ^ 29 + bits st 21 21 * 2 ^ 21 + b2n s.pwr.quiet * 2 ^ 23
  let far := fun (k : Nat) => decide (k < controlBase)
  let s := { s with
    regs := SMap.keep s.regs far
    cnts := SMap.keep s.cnts far
    hold := SMap.keep s.hold far
    pairs := SMap.keep s.pairs (fun k => far (k % 2 ^ 28))
    sys := { s.sys with slowPwr := [] }
    ctl := { firstAdmin := s.ctl.firstAdmin, accounts := s.ctl.accounts, address := s.ctl.address
             appResets := s.ctl.appResets }
    nvm := { s.nvm with op := none, bootPend := false, recovery := false, trialAt := none, keeperFwAt := some s.now }
    pwr := { s.pwr with
      railFails := 0, railFaultAt := none, steepAt := none, steepLate := false, dusk := none, duskEndAt := none,
      abandoned := false, shed := [], dummy := false, lowSince := none, appHeld := true, ledHeld := none } }
  showOrder (showFlash (s.setReg .PWR_STATUS (BitVec.ofNat 32 keepSt)))

/-! ### Checkpoints (R397) -/

/-- A checkpoint is written to the dusk region. -/
def checkpoint (c : Checkpoint) (s : State) : State := { s with pwr := { s.pwr with region := c :: s.pwr.region.take 1 } }

/-- A counter checkpoint: the counts since power-on. -/
def counterCheckpoint (s : State) : State := checkpoint ⟨false, true, s.tot, none, []⟩ s

/-- COUNTER_CHECKPOINT (R397): every second. -/
def execCounterCheckpoint (s : State) : Result :=
  .next (
    let sec := s.now / (1000 * clkMs)
    if s.flag .KEEP_STATUS_ALIVE && s.pwr.dusk.isNone && decide (s.pwr.ckptAt < sec) then
      counterCheckpoint { s with pwr := { s.pwr with ckptAt := sec } }
    else s)

/-- Every frame in transmission on a leaf port is abandoned (R396). -/
def abandonAll (s : State) : State := (s.leaf.ports.map (fun e => e.1)).foldl (fun s p => abandonTx p s) s

/-- The steps before a cold or warm reset (R404): the sky is darkened, forwarding stops, and the counters are copied. -/
def darken (s : State) : State :=
  let s := s.setFld .SKY_STATE_DUSK 1
  counterCheckpoint (abandonAll (nvmStop 8 s))

/-! ### Rails (R385, R389) -/

/-- What the keeper core last measured shows in PWR_INPUT, PWR_THERMAL and PWR_SENSOR (R383, R388). -/
def measured (c : Climate) (s : State) : State :=
  let s := s.setReg .PWR_INPUT (BitVec.ofNat 32 (c.power % 65536 * 65536 + c.voltage % 65536))
  let s := s.setReg .PWR_THERMAL (BitVec.ofNat 32 (unsgn 16 c.tCase * 65536 + unsgn 16 c.tMin))
  ((List.range 18).zip c.sensors).foldl (fun s e =>
    s.setReg .PWR_SENSOR (BitVec.ofNat 32 (2 ^ 31 + unsgn 16 e.2)) e.1) s

/-- T_min as PWR_THERMAL shows it. -/
def tMinShown (s : State) : Int := sgn 16 (s.fld .PWR_THERMAL_T_MIN)

/-- The rails from 3 on come up: the module steeps where T_min is below −20 °C (R385, R389). -/
def sequence (tMin : Int) (s : State) : State :=
  if tMin < -2000 then
    let s := (s.setFld .PWR_STATUS_STEEP 1).setFld .KEEP_STATUS_STEEP 1
    raiseNear 177 { s with pwr := { s.pwr with seq := .steep, steepAt := some s.now, dummy := true } }
  else { s.setFld .PWR_STATUS_SEQ_DONE 1 with pwr := { s.pwr with seq := .up } }

/-- Rails 3 to 17 and the optical rails are down: the switch die and the application domain have lost what they held
(R386, R396). -/
def railsDown (s : State) : State :=
  let s := switchReset false { s with host := { s.host with mem := [], poison := [] } }
  let s := ((s.setFld .PWR_STATUS_SEQ_DONE 0).setFld .PWR_STATUS_STEEP 0).setFld .KEEP_STATUS_STEEP 0
  { s with
    pwr := { s.pwr with seq := .keeper, starting := none, resetAt := none, appHeld := true, steepAt := none, steepLate := false, dummy := false }
    nvm := { s.nvm with recovery := false, trialAt := none } }

/-- Every rail is down, the keeper domain included. -/
def allDown (s : State) : State :=
  let s := keeperReset (railsDown s)
  { s.setReg .PWR_STATUS (BitVec.ofNat 32 (b2n s.pwr.quiet * 2 ^ 23)) with
    nvm := { s.nvm with keeperFwAt := none }
    pwr := { s.pwr with seq := .off, keeperUp := false } }

/-! ### The resets (R402, R405) -/

/-- A cold reset (R402 to R404): rails 3 to 27 go down, and the sequence goes on from rail 3 once the keeper firmware runs (R385,
R412) (DESIGN CHOICE, log 24). -/
def coldReset (agent : Nat) (s : State) : State :=
  let tMin := tMinShown s
  let keys := s.ctl
  let s := darken s
  let s := keeperReset (switchReset false { s with host := { s.host with mem := [], poison := [] } })
  noteReset 1 agent keys { s with pwr := { s.pwr with seq := .keeper, starting := some tMin } }

/-- A warm reset (R402 to R404): the switch die and the application domain. -/
def warmReset (agent : Nat) (s : State) : State :=
  let keys := s.ctl
  let s := bootLost (switchReset true (darken s))
  let s := { s with
    nvm := { s.nvm with recovery := false, trialAt := none }
    pwr := { s.pwr with appHeld := true } }
  noteReset 2 agent keys s

end Sys2Proof.Machine
end

