-- ==== Sys2Proof/Machine/Power.lean ====
section
/-!
DEFINITION. Power and thermal (chapter 18): power-on and the rails (R385, R386), steep and simmer (R384, R388 to R393),
the thermal trip (R394), dusk (R395 to R398), emergency quiet (R399), the fixture's reset request (R439) and the oven
oscillator (R22).
-/
namespace Sys2Proof.Machine

/-! ### Dusk (R395, R396) -/

/-- The lasers of every sky lane are disabled by the keeper core (R396). -/
def disableSky (s : State) : State :=
  lanesStopped ((range' 256 256).foldl (fun s n => s.setFld .OPT_LANE_BIAS_DISABLE 1 n) s)

/-- Dusk is declared at D, up to D + 200 µs (R396), and the keeper core logs it (R428, code 2) (DEDUCED, logs 38, 39). -/
def beginDusk (cause : Nat) (c : Climate) (s : State) : State :=
  let alive := s.flag .KEEP_STATUS_ALIVE
  let s := if alive then keeperEvent 2 s else s
  let s := raiseNear 177 ((s.setFld .PWR_STATUS_DUSK 1).setFld .KEEP_STATUS_DUSK 1)
  let s := nvmStop 7 (s.setFld .SKY_STATE_DUSK 1)
  let d : DuskSt :=
    { t0 := s.now, ts := s.ts64, causes := [cause], voltage := c.voltage, power := c.power, tCase := c.tCase }
  let s := { s with pwr := { s.pwr with dusk := some d, abandoned := !alive } }
  if alive then disableSky s else s

/-- A cause of dusk (R395): one that arrives while dusk runs is added to the record and changes nothing else. -/
def startDusk (cause : Nat) (c : Climate) (s : State) : State :=
  if s.pwr.seq = .off then s
  else
    match s.pwr.dusk with
    | some d =>
      if d.causes.contains cause then s
      else { s with pwr := { s.pwr with dusk := some { d with causes := d.causes ++ [cause] } } }
    | none => beginDusk cause c s

/-- DUSK (R395, cause 3): the bus is below 48 V with the input present. -/
def execDusk (c : Climate) (s : State) : Result :=
  .next (if s.flag .PWR_STATUS_INPUT_OK then startDusk 3 c s else s)

/-- MAINS_LOSS (R383, R395). -/
def execMainsLoss (c : Climate) (s : State) : Result :=
  .next (if s.flag .PWR_STATUS_INPUT_OK then
    startDusk 1 c ((s.setFld .PWR_STATUS_INPUT_OK 0).count .PWR_MAINS_LOSS_CNT)
  else s)

/-- A trip temperature (R394). -/
def tripHot (c : Climate) : Bool := decide (13000 ≤ c.tCase) || ((c.sensors.drop 2).take 14).any (fun t => decide (15000 ≤ t))

/-- THERMAL_TRIP (R394). -/
def execThermalTrip (c : Climate) (s : State) : Result :=
  .next (if s.pwr.seq ≠ .off ∧ s.pwr.tripLatched = false ∧ tripHot c = true then
    startDusk 2 c (keeperEvent 6 { s with pwr := { s.pwr with tripLatched := true } })
  else s)

/-- DUSK_FORWARD_STOP (R396, R397): at D + 1 ms forwarding stops, and the counters are copied for the final checkpoint. -/
def duskForwardStop (s : State) : State :=
  match s.pwr.dusk with
  | none => s
  | some d =>
    if d.stopped = false ∧ d.t0 + clkMs ≤ s.now then
      let s := abandonAll s
      let d := { d with
        stopped := true, alloc := (List.range 5).map (fun p => (s.reg .BUF_POOL_ALLOC p).toNat)
        skyState := s.reg .SKY_STATE, lease := s.reg .SKYT_LEASE }
      let s := { s with pwr := { s.pwr with stopped := true, dusk := some d } }
      (checkpoint ⟨true, false, s.tot, some d, s.hlt.keepq⟩ s).setFld .PWR_STATUS_SEQ_DONE 0
    else s

def execDuskForwardStop (s : State) : Result := .next (duskForwardStop s)

/-- The final checkpoint is written out, its commit marker last: the dusk record has the causes that arrived meanwhile, and the
entries not in flash are those of now (R395, R397). -/
def commitMarker (d : DuskSt) (logs : List LogEnt) (l : List Checkpoint) : List Checkpoint :=
  match l with
  | [] => []
  | c :: r => { c with complete := true, dusk := some d, logs := logs } :: r

/-- The rails after the end of a dusk (R386, R394, R396): a trip takes every rail down; a lost input leaves rails 0 to 2 to
the bus; a rail fault leaves the keeper domain up; otherwise every rail goes down for a cold start. -/
def duskRails (done : Bool) (s : State) : State :=
  let t := s.now
  let s := railsDown s
  if s.pwr.tripLatched then allDown s
  else if !s.flag .PWR_STATUS_INPUT_OK then
    { s with pwr := { s.pwr with duskEndAt := some t, railFaultAt := none } }
  else if s.pwr.railFaultAt.isSome then
    s.count (if done then Cnt.PWR_DUSK_CNT else Cnt.PWR_DUSK_INCOMPLETE_CNT)
  else
    let s := (allDown s).setFld .PWR_STATUS_INPUT_OK 1
    { s with pwr := { s.pwr with duskEndAt := some t } }

/-- DUSK_CHECKPOINT_DONE (R396, R397): the final checkpoint carries its commit marker, unless a keeper restart abandoned it. -/
def duskCheckpointDone (s : State) : State :=
  match s.pwr.dusk with
  | none => s
  | some d =>
    if d.stopped then
      let done := !s.pwr.abandoned
      let region := if done then commitMarker d s.hlt.keepq s.pwr.region else s.pwr.region
      let s := (s.setFld .PWR_STATUS_DUSK 0).setFld .KEEP_STATUS_DUSK 0
      duskRails done { s with pwr := { s.pwr with region := region, dusk := none, abandoned := false } }
    else s

def execDuskCheckpointDone (s : State) : Result := .next (duskCheckpointDone s)

/-! ### Power-on (R385, R394, R398) -/

/-- What the dusk region tells of the shutdown before this power-on (R397, R398, R401). -/
def countShutdown (s : State) : State :=
  match s.pwr.region with
  | [] => s
  | c :: _ =>
    match c.final && c.complete, c.dusk with
    | true, some d =>
      let s := s.count .PWR_DUSK_CNT
      let s := s.countIf (d.causes.contains 1) .PWR_MAINS_LOSS_CNT
      if d.causes.contains 2 then (s.count .PWR_TRIP_CNT).setFld .PWR_STATUS_LAST_TRIP 1 else s
    | _, _ => s.count .PWR_DUSK_INCOMPLETE_CNT

/-- The unwritten fault-log entries that a complete final checkpoint has saved (R397, R398): after power-on they wait to be
written (DEDUCED, log 38). -/
def savedLogs (s : State) : List LogEnt :=
  match s.pwr.region with
  | c :: _ => if c.final && c.complete then s.hlt.keepq.filter (fun e => c.logs.contains e) else []
  | [] => []

/-- The start of R385 from a module without power, up to rails 0 to 2: everything is reset, and the counts since power-on start
at zero (DESIGN CHOICE, log 24). -/
def powerUp (c : Climate) (s : State) : State :=
  let trip := s.pwr.tripLatched
  let s := allDown s
  let s := (if trip then s.setFld .PWR_STATUS_LAST_TRIP 1 else s)
  let s := { s with
    tot := []
    hlt := { s.hlt with keepq := savedLogs s }
    nvm := { s.nvm with keeperFwAt := some s.now }
    pwr := { s.pwr with
      seq := .keeper, starting := some c.tMin, keeperUp := true, tripLatched := false
      evalAt := s.now / (100 * clkMs), ckptAt := s.now / (1000 * clkMs) } }
  let s := countShutdown ((s.setFld .PWR_STATUS_INPUT_OK 1).setFld .PWR_STATUS_BUS_OK 1)
  noteReset 0 0 s.ctl (measured c s)

/-- The input has met the start threshold: at least 82 V, and not above 280 V (R383). -/
def inputStarts (c : Climate) : Bool := decide (820 ≤ c.voltage) && decide (c.voltage ≤ 2800)

/-- The input is within the range of R383. -/
def inputInRange (c : Climate) : Bool := decide (850 ≤ c.voltage) && decide (c.voltage ≤ 2650)

/-- A latched trip lets the module start again (R394). -/
def tripCool (c : Climate) : Bool := decide (c.tCase ≤ 8500)

/-- POWER_ON (R385, R394): the input meets the start threshold; after a trip it must have been absent for 5 s
(DEDUCED, log 40). -/
def powerOn (c : Climate) (absentMs : Nat) (s : State) : State :=
  if s.pwr.seq = .off ∧ inputStarts c = true ∧ (s.pwr.tripLatched = false ∨ (tripCool c = true ∧ 5000 ≤ absentMs)) then
    powerUp c s
  else s

def execPowerOn (c : Climate) (absentMs : Nat) (s : State) : Result := .next (powerOn c absentMs s)

/-- DUSK_RESTART (R396): 100 ms after the end of a dusk with the input within range and no trip latched. -/
def duskRestart (c : Climate) (s : State) : State :=
  match s.pwr.duskEndAt with
  | some t =>
    if t + 100 * clkMs ≤ s.now ∧ inputInRange c = true ∧ s.pwr.tripLatched = false then powerUp c s else s
  | none => s

def execDuskRestart (c : Climate) (s : State) : Result := .next (duskRestart c s)

/-- Write the n oldest fault-log entries (DESIGN CHOICE, log 38). -/
def writeLogs : Nat → State → State
  | 0, s => s
  | n + 1, s => writeLogs n (writeLog s)

/-- BUS_COLLAPSE (R385, R398, R440): the keeper domain goes down; how many of the unwritten fault-log entries reached flash
is free (DESIGN CHOICE, log 1). -/
def busCollapse (s : State) : State :=
  if s.pwr.keeperUp then
    let n := Config.freeNat s.free % (s.hlt.keepq.length + 1)
    let s := allDown (nvmStop 8 (writeLogs n s.fresh))
    { s with hlt := { s.hlt with keepq := savedLogs s } }
  else s

def execBusCollapse (s : State) : Result := .next (busCollapse s)

/-! ### Rail faults (R386) -/

/-- RAIL_FAULT (R386): a failing rail in service starts a new count of consecutive failures. -/
def railFault (rail : Nat) (inService : Bool) (c : Climate) (s : State) : State :=
  if s.pwr.seq = .off then s
  else
    let n := if inService then 1 else s.pwr.railFails + 1
    let s := keeperEvent 1 (s.count .PWR_RAIL_FAULT_CNT) 0 rail
    let s := { s with pwr := { s.pwr with railFails := n, railFaultAt := some s.now } }
    let s := if 3 ≤ n then s.setFld .PWR_STATUS_RAIL_FAULT 1 else s
    if 3 ≤ rail then startDusk 3 c s else railsDown (nvmStop 8 s)

def execRailFault (rail : Fin 28) (inService : Bool) (c : Climate) (s : State) : Result :=
  .next (railFault rail.val inService c s)

/-- RAIL_RETRY (R386): after 1 s the sequence is tried again from rail 3, but not after the third failure. -/
def railRetry (s : State) : State :=
  match s.pwr.railFaultAt with
  | some t =>
    if t + 1000 * clkMs ≤ s.now ∧ s.pwr.railFails < 3 ∧ s.pwr.seq = .keeper ∧ s.pwr.dusk.isNone = true then
      sequence (tMinShown s) { s with pwr := { s.pwr with railFaultAt := none } }
    else s
  | none => s

def execRailRetry (s : State) : Result := .next (railRetry s)

/-! ### Steep, simmer and the power limit (R384, R388 to R393) -/

/-- The module steeps no longer: the sequence of R385 goes on (R389). -/
def endSteep (s : State) : State :=
  let s := ((s.setFld .PWR_STATUS_STEEP 0).setFld .KEEP_STATUS_STEEP 0).count .PWR_STEEP_CNT
  { s.setFld .PWR_STATUS_SEQ_DONE 1 with pwr := { s.pwr with seq := .up, steepAt := none, steepLate := false, dummy := false } }

/-- Steep ends, or dummy load comes and goes in service (R389, R390). -/
def warm (tMin : Int) (s : State) : State :=
  if s.pwr.seq = .steep then (if -2000 ≤ tMin then endSteep s else s)
  else if tMin < -2000 then { s with pwr := { s.pwr with dummy := true } }
  else if -1500 ≤ tMin then { s with pwr := { s.pwr with dummy := false } }
  else s

/-- The input power in W above which the module simmers (R3, R384), and below which that ends; for an LZ-S1024 the spec gives no
lower limit, and the model keeps the same distance (DESIGN CHOICE, log 51). -/
def powerMax (s : State) : Nat := if s.sys.part = .s2048 then 1450 else 900
def powerLow (s : State) : Nat := if s.sys.part = .s2048 then 1300 else 750

/-- The power limit (R384): SIMMER_POWER, and the stretch below the lower limit. -/
def powerLimit (power : Nat) (s : State) : State :=
  if powerMax s < power then
    let s := s.countIf (!s.flag .PWR_STATUS_SIMMER_POWER) .PWR_POWER_LIMIT_CNT
    { s.setFld .PWR_STATUS_SIMMER_POWER 1 with pwr := { s.pwr with lowSince := none } }
  else if power < powerLow s then { s with pwr := { s.pwr with lowSince := some (s.pwr.lowSince.getD s.now) } }
  else { s with pwr := { s.pwr with lowSince := none } }

/-- The stage that follows a stage at a temperature (R391), with the power limit holding it at 1 or above. -/
def nextStage (cur : Nat) (tCase : Int) (hold : Bool) : Nat :=
  if 10500 ≤ tCase then 2
  else if cur = 2 then (if tCase ≤ 10200 then 1 else 2)
  else if cur = 1 then (if tCase ≤ 8200 && !hold then 0 else 1)
  else if 8500 ≤ tCase || hold then 1 else 0

/-- An engine that the part has (R3). -/
def engineFitted (s : State) (e : Nat) : Bool := decide (s.sys.part = .s2048) || decide (e % 16 < 8)

/-- The engines shed in a stage, by the shed order (R391, R392). -/
def shedSet (stage : Nat) (s : State) : List Nat :=
  let n := if s.sys.part = .s2048 then 8 else 4
  ((shedOrder s).filter (engineFitted s)).take (n * stage)

/-- The engine of a leaf group has light again: its ports train as fresh links (R39). -/
def lightGroup (g : Nat) (s : State) : State := (range' (16 * g) 16).foldl (fun s p => startLine p s) s

/-- A leaf group is darkened: its ports go link down and its lanes lose alignment (R393) (DEDUCED, log 41). -/
def darkenGroup (g : Nat) (s : State) : State :=
  let s := (range' (16 * g) 16).foldl (fun s p => if portUp s p then linkDown p (cutRx p none s) else s) s
  let s := { s with leaf := { s.leaf with lanes := SMap.keep s.leaf.lanes (fun n => n / 16 != g) } }
  (range' (16 * g) 16).foldl (fun s p => setPort p { portOf s p with ready := none } s) s

/-- The simmer stage changes (R391 to R393). -/
def setSimmer (stage : Nat) (s : State) : State :=
  let old := s.pwr.shed
  let l := shedSet stage s
  let s := raiseNear 177 ((s.setFld .PWR_STATUS_SIMMER stage).setFld .KEEP_STATUS_SIMMER stage)
  let s := (s.countIf (stage == 1) .PWR_SIMMER1_CNT).countIf (stage == 2) .PWR_SIMMER2_CNT
  let s := { s with pwr := { s.pwr with shed := l }, sky := { s.sky with shedLanes := shedLanesOf l } }
  let s := (l.filter (fun e => decide (e < 16) && !old.contains e)).foldl (fun s g => darkenGroup g s) s
  let s := (old.filter (fun e => decide (e < 16) && !l.contains e)).foldl (fun s g => lightGroup g s) s
  showSpill (lanesStopped s)

/-- THERMAL_EVALUATION (R384, R388 to R391): once in each 100 ms the keeper core decides on the means. -/
def thermalEvaluation (c : Climate) (s : State) : State :=
  let k := s.now / (100 * clkMs)
  if s.flag .KEEP_STATUS_ALIVE = true ∧ s.pwr.dusk.isNone = true ∧ s.pwr.evalAt < k then
    let s := measured c { s with pwr := { s.pwr with evalAt := k } }
    let s := powerLimit c.power (warm c.tMin s)
    let cur := s.fld .PWR_STATUS_SIMMER
    let stage := nextStage cur c.tCase (s.flag .PWR_STATUS_SIMMER_POWER)
    if stage = cur then s else setSimmer stage s
  else s

def execThermalEvaluation (c : Climate) (s : State) : Result := .next (thermalEvaluation c s)

/-- POWER_LIMIT_CLEAR (R384): the mean has stayed below the lower limit for 10 s. -/
def powerLimitClear (s : State) : State :=
  match s.pwr.lowSince with
  | some t => if s.flag .KEEP_STATUS_ALIVE && decide (t + 10000 * clkMs ≤ s.now) then s.setFld .PWR_STATUS_SIMMER_POWER 0 else s
  | none => s

def execPowerLimitClear (s : State) : Result := .next (powerLimitClear s)

/-- STEEP_TIMEOUT (R389): steep has not ended after 300 s. -/
def steepTimeout (s : State) : State :=
  match s.pwr.steepAt with
  | some t =>
    if t + 300000 * clkMs ≤ s.now ∧ s.pwr.steepLate = false then
      keeperEvent 3 ({ s with pwr := { s.pwr with steepLate := true } }.count .PWR_STEEP_TIMEOUT_CNT)
    else s
  | none => s

def execSteepTimeout (s : State) : Result := .next (steepTimeout s)

/-! ### Quiet, the reset request and the oven oscillator (R399, R439, R440, R22) -/

/-- Every leaf port goes link down (R399). -/
def darkenLeaf (s : State) : State := (List.range 16).foldl (fun s g => darkenGroup g s) s

/-- The keeper core's part in emergency quiet (R399), once its firmware runs. -/
def keeperQuiet (s : State) : State :=
  if s.flag .KEEP_STATUS_ALIVE && s.pwr.quiet && !s.flag .PWR_STATUS_QUIET then
    skyTxEn 0#32 ((s.setFld .PWR_STATUS_QUIET 1).count .PWR_QUIET_CNT)
  else s

/-- QUIET_ASSERT (R399): the power controller holds every laser off, and leaf ports go link down. -/
def quietAssert (s : State) : State :=
  if s.pwr.quiet then s
  else
    let s := { s with pwr := { s.pwr with quiet := true } }
    if s.pwr.keeperUp then keeperQuiet (darkenLeaf s) else s

def execQuietAssert (s : State) : Result := .next (quietAssert s)

/-- QUIET_RELEASE (R399): the leaf engines have light again; SKY_TX_EN stays clear until software sets it. -/
def execQuietRelease (s : State) : Result :=
  .next (
    if s.pwr.quiet then
      (List.range 16).foldl (fun s g => lightGroup g s)
        { s.setFld .PWR_STATUS_QUIET 0 with pwr := { s.pwr with quiet := false } }
    else s)

/-- FIXTURE_RESET_RELEASE (R394, R405, R439). -/
def fixtureRelease (ms : Nat) (c : Climate) (s : State) : State :=
  let s := { s with pwr := { s.pwr with requestHeld := false } }
  if ms < 10 then s
  else if s.pwr.seq = .off then
    (if s.pwr.tripLatched && tripCool c && inputStarts c then powerUp c s else s)
  else if resetBarred s then logNear ⟨4, .keeper, 2, 0, Reg.SYS_RESET_CTRL.off⟩ s
  else if resetMet 1 s then s
  else coldReset 3 s

def execFixtureResetRelease (ms : Nat) (c : Climate) (s : State) : Result := .next (fixtureRelease ms c s)

/-- RECOVERY_HOLD (R410, R439): the reset request reaches 10 s. -/
def recoveryHold (s : State) : State :=
  let s := { s with pwr := { s.pwr with requestHeld := true } }
  if s.pwr.keeperUp then
    let s := s.setFld .NVM_BOOT_SEL_RECOVERY 1
    { s with nvm := { s.nvm with bootFlash := Fld.NVM_BOOT_SEL_RECOVERY.set s.nvm.bootFlash 1 } }
  else s

def execRecoveryHold (s : State) : Result := .next (recoveryHold s)

/-- OVEN_OSCILLATOR_READY (R22, R23): the sky side may leave OFF. -/
def ovenReady (s : State) : State :=
  if s.pwr.keeperUp then running skyTry (s.setFld .PWR_STATUS_OVEN_READY 1) else s

def execOvenOscillatorReady (s : State) : Result := .next (ovenReady s)

end Sys2Proof.Machine
end

