-- ==== Sys2Proof/Machine/Nvm.lean ====
section
/-!
DEFINITION. The NVM engine and dawn (chapter 19): the operations of NVM_CMD (R413 to R415, R417), run states (R407), the
boot of an image (R409 to R411), the recovery loader, and the keeper firmware (R412).
-/
namespace Sys2Proof.Machine

/-! ### How an NVM_CMD write ends (R413, R417) -/

/-- An operation ends with DONE (DEDUCED, log 42). -/
def nvmDone (s : State) : State := ((s.setFld .NVM_STATUS_BUSY 0).setFld .NVM_STATUS_PROGRESS 0).setFld .NVM_STATUS_DONE 1

/-- An operation fails or is refused, with a code. -/
def nvmErr (code : Nat) (s : State) : State := (s.setFld .NVM_STATUS_ERR 1).setFld .NVM_STATUS_ERR_CODE code

/-- A running operation ends with an error. -/
def nvmFail (code : Nat) (s : State) : State :=
  nvmErr code ((s.setFld .NVM_STATUS_BUSY 0).setFld .NVM_STATUS_PROGRESS 0)

/-- The NVM engine takes commands: the keeper domain is up; dusk refuses them with code 7. -/
def nvmTake (f : State → State) (s : State) : State :=
  if s.pwr.keeperUp then (if s.flag .KEEP_STATUS_DUSK then nvmErr 7 s else f s) else s

/-- A command that sets BUSY is refused while one runs (R413). -/
def nvmIdle (f : State → State) (s : State) : State := nvmTake (fun s => if s.nvm.op.isSome then nvmErr 2 s else f s) s

/-- An operation starts. -/
def nvmStart (o : NvmOp) (s : State) : State :=
  { s.setFld .NVM_STATUS_BUSY 1 with nvm := { s.nvm with op := some o } }

def nvmFlash (s : State) : Nat := s.reg64 .NVM_FLASH_ADDR_LO .NVM_FLASH_ADDR_HI
def nvmHost (s : State) : Nat := s.reg64 .NVM_HOST_ADDR_LO .NVM_HOST_ADDR_HI
def nvmLen (s : State) : Nat := (s.reg .NVM_LEN).toNat

/-- Addresses and length of READ and WRITE (R413, R417): multiples of 4 KiB within flash, and a range of host memory. -/
def nvmRange (lo : Nat) (s : State) : Bool :=
  decide (nvmFlash s % 4096 = 0) && decide (nvmLen s % 4096 = 0) && decide (lo ≤ nvmFlash s)
    && decide (nvmFlash s + nvmLen s ≤ 128 * gib) && inDram (nvmHost s) (nvmLen s)

/-- OP 0x01: flash to host memory. -/
def nvmRead (s : State) : State :=
  nvmIdle (fun s =>
    if nvmRange 0 s then nvmStart ⟨1, 0, nvmFlash s, nvmHost s, nvmLen s, none⟩ (s.count .NVM_READ_CNT)
    else nvmErr 3 s) s

/-- OP 0x02: host memory to the user partition. -/
def nvmWrite (s : State) : State :=
  nvmIdle (fun s =>
    if nvmRange (18 * gib) s then nvmStart ⟨2, 0, nvmFlash s, nvmHost s, nvmLen s, none⟩ (s.count .NVM_WRITE_CNT)
    else nvmErr 3 s) s

/-- A slot that no commit may write (R414): the active one, the one booted, and the keeper's. -/
def slotHeld (s : State) (k : Nat) : Bool := s.fld .NVM_BOOT_SEL_ACTIVE == k || s.nvm.booted == k || s.nvm.keeper == k

/-- The length of an image (R414). -/
def imageLen (n : Nat) : Bool := decide (0 < n) && decide (n ≤ 4 * gib) && decide (n % 4096 = 0)

/-- A commit is accepted: its target is INCOMPLETE from now on (R414). -/
def startCommit (k host len : Nat) (image : Option (List Byte)) (s : State) : State :=
  nvmStart ⟨3, k, slotBase k, host, len, image⟩ (showSlots (setSlot k 1 (s.count .NVM_COMMIT_CNT)))

/-- OP 0x03: an image commit (R414). -/
def imageCommit (k : Nat) (s : State) : State :=
  nvmIdle (fun s =>
    if slotHeld s k then nvmErr 4 s
    else if !imageLen (nvmLen s) || !inDram (nvmHost s) (nvmLen s) then nvmErr 3 s
    else startCommit k (nvmHost s) (nvmLen s) none s) s

/-- A field of NVM_BOOT_SEL changes in flash and in the register. -/
def setBoot (f : Fld) (v : Nat) (s : State) : State :=
  { s.setFld f v with nvm := { s.nvm with bootFlash := f.set s.nvm.bootFlash v } }

/-- OP 0x04: a VALID slot becomes ACTIVE, on trial (R411). -/
def nvmSwitch (k : Nat) (s : State) : State :=
  nvmIdle (fun s =>
    if slotState s k = 2 then
      let s := setBoot .NVM_BOOT_SEL_TRIAL 1 (setBoot .NVM_BOOT_SEL_ACTIVE k s)
      nvmDone { s with nvm := { s.nvm with trialBoots := 0, trialAt := none } }
    else nvmErr 4 s) s

/-- OP 0x05: TRIAL clears (R411); a running operation goes on. -/
def nvmConfirm (s : State) : State := nvmTake (fun s => (setBoot .NVM_BOOT_SEL_TRIAL 0 s).setFld .NVM_STATUS_DONE 1) s

/-- OP 0x06: a configuration commit (R415). -/
def cfgCommit (s : State) : State :=
  nvmIdle (fun s =>
    if nvmLen s ≤ cfgMax ∧ inDram (nvmHost s) (nvmLen s) = true then
      let k := (nextCopy s).1
      let q := (nextCopy s).2
      nvmStart ⟨6, q, cfgBase k, nvmHost s, nvmLen s, none⟩ (showSlots (setCopy k none (s.count .NVM_CFG_COMMIT_CNT)))
    else nvmErr 3 s) s

/-- OP 0x07: dawn ends in service or test (R407). -/
def nvmRun (arg : Nat) (s : State) : State :=
  nvmTake (fun s =>
    if s.fld .SYS_RUN_STATE_STATE = 0 ∧ (arg = 1 ∨ arg = 2) then
      (s.setFld .SYS_RUN_STATE_STATE arg).setFld .NVM_STATUS_DONE 1
    else nvmErr 9 s) s

/-- OP 0x08: a running operation stops with code 8; with none running nothing happens (R413, R417). -/
def nvmAbort (s : State) : State := nvmTake (nvmStop 8) s

/-- A write to NVM_CMD (R417): other values of OP give code 1. -/
def nvmCmd (v : Word) (s : State) : State :=
  let arg := Fld.NVM_CMD_ARG.get v
  match Fld.NVM_CMD_OP.get v with
  | 1 => nvmRead s
  | 2 => nvmWrite s
  | 3 => imageCommit (arg % 2) s
  | 4 => nvmSwitch (arg % 2) s
  | 5 => nvmConfirm s
  | 6 => cfgCommit s
  | 7 => nvmRun arg s
  | 8 => nvmAbort s
  | _ => nvmIdle (nvmErr 1) s

def execNvmRead (_a : Agent) (s : State) : Result := .next (near nvmRead s)
def execNvmWrite (_a : Agent) (s : State) : Result := .next (near nvmWrite s)
def execImageCommit (_a : Agent) (slot : Fin 2) (s : State) : Result := .next (near (imageCommit slot.val) s)
def execSwitch (_a : Agent) (slot : Fin 2) (s : State) : Result := .next (near (nvmSwitch slot.val) s)
def execConfirm (_a : Agent) (s : State) : Result := .next (near nvmConfirm s)
def execCfgCommit (_a : Agent) (s : State) : Result := .next (near cfgCommit s)
def execRun (_a : Agent) (arg : Byte) (s : State) : Result := .next (near (nvmRun arg.toNat) s)
def execAbort (_a : Agent) (s : State) : Result := .next (near nvmAbort s)

/-! ### The end of an operation (R413 to R415) -/

/-- The check of an image ends its commit (R409, R414). -/
def endCommit (k : Nat) (good : Bool) (s : State) : State :=
  if good then nvmDone (showSlots (setSlot k 2 s))
  else nvmFail 5 ((showSlots (setSlot k 3 s)).count .NVM_COMMIT_FAIL_CNT)

/-- NVM_OP_COMPLETE: a flash error leaves what was written; otherwise everything is moved, and a commit ends with its check
or its record. -/
def nvmOpComplete (e : NvmEnd) (s : State) : State :=
  match s.nvm.op with
  | none => s
  | some o =>
    let s := { s with nvm := { s.nvm with op := none } }
    if e = .flashError then
      nvmFail 6 (((nvmCut o s).count .NVM_FLASH_ERR_CNT).countIf (o.op == 3) .NVM_COMMIT_FAIL_CNT)
    else
      let s := nvmCopy o o.len s
      if o.op = 3 then endCommit o.arg (e == .good) s
      else if o.op = 6 then
        nvmDone (showSlots (setCopy ((o.flash - 8 * gib) / cfgSize) (some ⟨o.arg⟩) s))
      else nvmDone s

def execNvmOpComplete (e : NvmEnd) (s : State) : Result := .next (nvmOpComplete e s)

/-- BOOT_SEL_WRITE (R417): a written NVM_BOOT_SEL reaches flash. -/
def execBootSelWrite (s : State) : Result :=
  .next (if s.nvm.bootPend then
    { s with nvm := { s.nvm with bootFlash := s.reg .NVM_BOOT_SEL, bootPend := false } }
  else s)

/-- A push of UpdateService (R285, R413): the inactive slot is written under R414, or the push is rejected over HTTP
(PRESUMED, log 44). -/
def updatePush (image : List Byte) (s : State) : State :=
  let k := 1 - s.fld .NVM_BOOT_SEL_ACTIVE
  if s.nvm.op.isSome then s.emit (.redfish 503 [])
  else if slotHeld s k || !imageLen image.length then s.emit (.redfish 400 [])
  else (startCommit k 0 image.length (some image) s).emit (.redfish 202 [])

def execUpdateServicePush (authed : Bool) (image : List Byte) (s : State) : Result :=
  .next (redfish authed (updatePush image) s)

/-! ### Boot (R407, R409 to R411) -/

/-- The boot ROM checks the image of a slot (R409): one that fails becomes BAD (DEDUCED, log 43). -/
def checkSlot (k : Nat) (good : Bool) (s : State) : Bool × State :=
  if slotState s k = 2 ∧ good = true then (true, s) else (false, showSlots (setSlot k 3 (s.count .NVM_BOOT_FAIL_CNT)))

/-- The application domain runs a slot's image (R411). -/
def bootSlot (k : Nat) (s : State) : State :=
  let trial := s.flag .NVM_BOOT_SEL_TRIAL
  let s := { s with
    nvm := { s.nvm with
      booted := k, recovery := false
      trialBoots := if trial then s.nvm.trialBoots + 1 else s.nvm.trialBoots
      trialAt := if trial then some s.now else none }
    pwr := { s.pwr with appHeld := false } }
  showSlots s

/-- The boot ROM enters recovery (R407, R410) (DEDUCED, log 41). -/
def enterRecovery (s : State) : State :=
  let s := s.setFld .SYS_RUN_STATE_STATE 3
  { s with nvm := { s.nvm with recovery := true, trialAt := none }, pwr := { s.pwr with appHeld := false } }

/-- Steps 3 to 5 of R410. -/
def bootActive (good : Nat → Bool) (s : State) : State :=
  let a := s.fld .NVM_BOOT_SEL_ACTIVE
  let (ok, s) := checkSlot a (good a) s
  if ok then bootSlot a s
  else
    let b := 1 - a
    if slotState s b = 2 then
      let (ok, s) := checkSlot b (good b) s
      if ok then bootSlot b (setBoot .NVM_BOOT_SEL_TRIAL 0 (setBoot .NVM_BOOT_SEL_ACTIVE b s)) else enterRecovery s
    else enterRecovery s

/-- A slot on trial has booted once since SWITCH (R410). -/
def mustRevert (s : State) : Bool := s.flag .NVM_BOOT_SEL_TRIAL && decide (1 ≤ s.nvm.trialBoots)

/-- BOOT (R408, R410): once dawn has initialised the switch die, the application domain is released and the boot ROM chooses. -/
def boot (goodA goodB : Bool) (s : State) : State :=
  let good := fun (k : Nat) => if k = 0 then goodA else goodB
  if s.pwr.appHeld = true ∧ s.pwr.stopped = false ∧ s.pwr.seq = .up ∧ s.flag .KEEP_STATUS_ALIVE = true ∧ s.pwr.dusk.isNone = true then
    if s.flag .NVM_BOOT_SEL_RECOVERY then enterRecovery (setBoot .NVM_BOOT_SEL_RECOVERY 0 s)
    else if mustRevert s then
      let s := setBoot .NVM_BOOT_SEL_ACTIVE (1 - s.fld .NVM_BOOT_SEL_ACTIVE) s
      bootActive good ((setBoot .NVM_BOOT_SEL_TRIAL 0 s).count .NVM_TRIAL_REVERT_CNT)
    else bootActive good s
  else s

def execBoot (goodA goodB : Bool) (s : State) : Result := .next (boot goodA goodB s)

/-- DFU_IMAGE_LOAD (R410): in recovery the loader commits an image to a slot that is not VALID, and switches to it with TRIAL
clear. -/
def dfuLoad (image : List Byte) (good : Bool) (s : State) : State :=
  if s.nvm.recovery = true ∧ s.nvm.op = none ∧ imageLen image.length = true then
    match [0, 1].find? (fun k => slotState s k != 2) with
    | none => s
    | some k =>
      let o : NvmOp := ⟨3, k, slotBase k, 0, image.length, some image⟩
      let s := endCommit k good (nvmCopy o image.length (s.count .NVM_COMMIT_CNT))
      if good then setBoot .NVM_BOOT_SEL_TRIAL 0 (setBoot .NVM_BOOT_SEL_ACTIVE k s) else s
  else s

def execDfuImageLoad (image : List Byte) (good : Bool) (s : State) : Result := .next (dfuLoad image good s)

/-- TRIAL_EXPIRY (R411): the keeper core resets the application domain. -/
def trialExpiry (s : State) : State :=
  match s.nvm.trialAt with
  | some t =>
    let n := s.fld .NVM_BOOT_SEL_TRIAL_S
    if s.flag .NVM_BOOT_SEL_TRIAL = true ∧ n ≠ 0 ∧ t + n * 1000 * clkMs ≤ s.now ∧ s.flag .KEEP_STATUS_ALIVE = true
        ∧ resetBarred s = false then appRequest 2 s
    else s
  | none => s

def execTrialExpiry (s : State) : Result := .next (trialExpiry s)

/-! ### The keeper firmware (R412) -/

/-- The slot that R410 would boot, nothing being changed. -/
def keeperChoice (good : Nat → Bool) (s : State) : Option Nat :=
  let a := s.fld .NVM_BOOT_SEL_ACTIVE
  let a := if mustRevert s then 1 - a else a
  let ok := fun (k : Nat) => slotState s k == 2 && good k
  if ok a then some a else if ok (1 - a) then some (1 - a) else none

/-- The sequence of R385 goes on from rail 3 where it waits for the keeper firmware. -/
def startRails (s : State) : State :=
  match s.pwr.starting with
  | some t => sequence t { s with pwr := { s.pwr with starting := none } }
  | none => s

/-- The keeper firmware of a slot runs: ALIVE sets (R385, R412). -/
def keeperRuns (k : Nat) (s : State) : State :=
  let s := showSlots { s with nvm := { s.nvm with keeper := k, keeperFwAt := none }, pwr := { s.pwr with ledHeld := none } }
  startRails (keeperQuiet (s.setFld .KEEP_STATUS_ALIVE 1))

/-- KEEPER_FW_LOAD (R412). -/
def keeperLoad (goodA goodB : Bool) (s : State) : State :=
  if s.nvm.keeperFwAt.isSome then
    match keeperChoice (fun k => if k = 0 then goodA else goodB) s with
    | some k => keeperRuns k s
    | none => s
  else s

def execKeeperFwLoad (goodA goodB : Bool) (s : State) : Result := .next (keeperLoad goodA goodB s)

/-- KEEPER_FW_FALLBACK (R412): ALIVE is not set 50 ms after the start. -/
def keeperFallback (s : State) : State :=
  match s.nvm.keeperFwAt with
  | some t =>
    let k := 1 - (keeperChoice (fun _ => true) s).getD (s.fld .NVM_BOOT_SEL_ACTIVE)
    if t + 50 * clkMs ≤ s.now ∧ slotState s k = 2 then keeperRuns k s else s
  | none => s

def execKeeperFwFallback (s : State) : Result := .next (keeperFallback s)

end Sys2Proof.Machine
end

