-- ==== Sys2Proof/Machine/Ledger.lean ====
section
/-!
DEFINITION. The ledgers (R421 to R427): both sides of every instance, the check of every millisecond, excuses and rebases.
-/
namespace Sys2Proof.Machine

/-! ### What is held at the instant of a check -/

/-- Every cell in the crossbar and on its way in. -/
def xcells (s : State) : List XCell :=
  (s.xbar.feed ++ s.xbar.stage ++ s.xbar.cross).flatMap (fun e => e.2) ++ s.xbar.reo.flatMap (fun e => e.2.held)

/-- Every queue unit, with its queue. -/
def allUnits (s : State) : List (Nat × QUnit) := s.tm.queues.flatMap (fun e => e.2.units.map (fun u => (e.1, u)))

/-- Every cell chosen for a burst. -/
def chosenCells (s : State) : List Chosen := s.sky.lanes.flatMap (fun e => e.2.chosen)

/-- Tiles of a pool that units, receive holds and streams hold (ledger 2). -/
def tilesHeld (s : State) (p : Nat) : Nat :=
  if p = 4 then
    ((allUnits s).map (fun e => if e.2.hbm.isSome then 0 else e.2.cells.length)).sum
      + ((xcells s).filter (fun x => x.tile.isSome)).length + (chosenCells s).length + s.sky.desk.length
      + (s.sky.reseq.map (fun e => e.2.held.length + e.2.opened.length)).sum
  else ((allUnits s).filter (fun e => e.2.hbm.any (fun h => h.1 == p))).length

/-- Frames whose last cell has not entered the crossbar (ledger 3). -/
def residentIn (s : State) (i : Nat) : Nat :=
  ((feedOf s i).filter (fun x =>
    !x.abort && !(decide (16 ≤ i) && decide (16 ≤ x.out)) && (x.cell.kind == 2 || x.cell.kind == 3)
      && !(decide (i < 16) && x.cell.tag.copy.isSome))).length

/-- Frames queued or in transmission at a frame output (ledger 4). -/
def residentOut (s : State) (o : Nat) : Nat := ((allUnits s).filter (fun e => decide (e.1 < 2048) && e.1 / 128 == o)).length

/-- Cells of the module's own frames that it holds (ledger 5). -/
def ownHeld (s : State) : Nat :=
  let own := ownMod s
  ((xcells s).filter (fun x => decide (16 ≤ x.out) && !x.abort && x.cell.srcMod == own)).length
    + (((allUnits s).filter (fun e => decide (2048 ≤ e.1))).map (fun e =>
        (e.2.cells.filter (fun c => c.2.srcMod == own)).length)).sum
    + ((chosenCells s).filter (fun c => c.cell.srcMod == own)).length

/-- Cells in the crossbar toward an output (ledger 6). -/
def toward (s : State) (o : Nat) : Nat :=
  (((s.xbar.stage.filter (fun e => e.1 / 16 % 32 == o)) ++ (s.xbar.cross.filter (fun e => e.1 % 32 == o))).map
      (fun e => e.2.length)).sum
    + ((s.xbar.reo.filter (fun e => e.1 / 32 == o)).map (fun e => e.2.held.length)).sum

/-- Relay cells from a module that are still to be forwarded (ledger 9). -/
def relayHeld (s : State) (x : Nat) : Nat :=
  let f := fun (c : Cell) => c.tag.due && c.srcMod == x
  ((xcells s).filter (fun e => f e.cell)).length
    + ((allUnits s).map (fun e => (e.2.cells.filter (fun c => f c.2)).length)).sum
    + ((chosenCells s).filter (fun c => f c.cell)).length

/-- Copies of a mirror session that are held: on their way in, in transmission, or to be written to a ring (ledger 11). -/
def copiesHeld (s : State) (ses : Nat) : Nat :=
  ((s.xbar.feed.flatMap (fun e => e.2)).filter (fun x =>
      x.cell.tag.copy == some ses && (x.cell.kind == 2 || x.cell.kind == 3))).length
    + (s.leaf.ports.filter (fun e => e.2.tx.any (fun t => t.copy.any (fun c => c.session == ses)))).length
    + (s.host.recq.filter (fun r => match r with
        | .cap c => c.session == ses
        | .notes _ => false)).length

/-! ### The two sides (R421, R422) -/

/-- Credits of an output that its inputs have spent. -/
def creditSpent (s : State) (o : Nat) : Nat := ((s.xbar.spent.filter (fun e => e.1 % 32 == o)).map (fun e => e.2)).sum

/-- Tiles of a pool. -/
def poolTiles (s : State) (p : Nat) : Nat := if p = 4 then 1572864 else s.buf.carved.getD p 0

/-- Left and right side of an instance (DEDUCED, log 45). -/
def ledgerSides (s : State) (l i : Nat) : Int × Int :=
  match l with
  | 1 =>
    let free := (s.reg .BUF_POOL_FREE i).toNat
    let rsv := (s.reg .BUF_POOL_RSV).toNat
    if i = 4 ∧ free < rsv then (rsv, free)
    else ((free + (s.reg .BUF_POOL_ALLOC i).toNat + (s.reg .BUF_POOL_QUAR i).toNat : Nat), poolTiles s i)
  | 2 => ((s.reg .BUF_POOL_ALLOC i).toNat, tilesHeld s i)
  | 3 => (s.ledOf tIn3 i, (s.ledOf tOut3 i + s.ledOf tDrop3 i + residentIn s i : Nat))
  | 4 => (s.ledOf tIn4 i, (s.ledOf tOut4 i + s.ledOf tDrop4 i + residentOut s i : Nat))
  | 5 => (s.ledOf tSeq5 0, (s.ledOf tSent5 0 + s.ledOf tRelay5 0 + s.ledOf tDisc5 0 + ownHeld s : Nat))
  | 6 => (creditSpent s i, toward s i)
  | 7 =>
    let v := idlVc s (i / 2) (i % 2)
    ((v.held + v.flight + v.buffered + v.returning : Nat), vcPool (i / 2))
  | 8 =>
    let p := pairOf s i
    (creditHeld s i, (p.rg : Int) - p.sent)
  | 9 =>
    let p := pairOf s i
    (creditOut s i, (p.gr : Int) - p.recv + relayHeld s i)
  | 10 => (s.fld .SKYT_LEASE_HELD, (s.ledOf tTake10 0 : Int) - s.ledOf tEnd10 0)
  | 11 => (s.ledOf tCopy11 i, (s.ledOf tEnd11 i + copiesHeld s i : Nat))
  | _ => (0, 0)

/-- Instances that the check captures (R421): instance 1 of ledger 10 is raised only under R425. -/
def ledgerCount (l : Nat) : Nat :=
  if l = 1 ∨ l = 2 then 5 else if l = 3 ∨ l = 6 then 32 else if l = 4 ∨ l = 11 then 16 else if l = 5 ∨ l = 10 then 1
  else if l = 7 then 12 else if l = 8 ∨ l = 9 then 128 else 0

/-- Ledgers 1 and 2 of the HBM pools are not checked while there is no carve (R427). -/
def ledgerLive (s : State) (l i : Nat) : Bool := !(decide (l ≤ 2) && decide (i < 4)) || s.flag .BUF_CARVE_STATUS_DONE

/-! ### The check (R424, R426, R427) -/

/-- One instance is rebased: its present difference becomes its offset. -/
def rebaseOne (l i : Nat) (d : Int) (s : State) : State :=
  { s.count .HLT_REBASE_CNT with hlt := { (s.count .HLT_REBASE_CNT).hlt with
    offs := SMap.put s.hlt.offs (512 * l + i) 0 d, diffs := SMap.put s.hlt.diffs (512 * l + i) 0 0 } }

/-- One instance is compared: a new difference raises a fault, and the same difference raises no further one. -/
def compareOne (l i : Nat) (left right : Int) (s : State) : State :=
  let k := 512 * l + i
  let d := left - right - SMap.getD s.hlt.offs k 0
  let was := SMap.getD s.hlt.diffs k 0
  let s := { s with hlt := { s.hlt with diffs := SMap.put s.hlt.diffs k 0 d } }
  if d = 0 ∨ d = was then s else ledgerFault l i (unsgn 64 left) (unsgn 64 right) s

def checkOne (l i : Nat) (s : State) : State :=
  if !ledgerLive s l i then s
  else
    let (left, right) := ledgerSides s l i
    if s.hlt.rebase.contains l then rebaseOne l i (left - right) s
    else if s.hlt.excused.any (fun e => e.1 == l) then s
    else compareOne l i left right s

/-- LEDGER_CHECK (R424): once in each 1,600,000 core clocks (DEDUCED, log 46). -/
def ledgerCheck (s : State) : State :=
  let k := (s.now - s.sys.switchAt) / 1600000
  if s.flag .HLT_CFG_LEDGER_EN = true ∧ s.hlt.chkAt < k then
    let s := { s with hlt := { s.hlt with chkAt := k } }.count .HLT_CHECK_CNT
    let s := (range' 1 11).foldl (fun s l => (List.range (ledgerCount l)).foldl (fun s i => checkOne l i s) s) s
    { s with hlt := { s.hlt with rebase := [] } }
  else s

def execLedgerCheck (s : State) : Result := .next (running ledgerCheck s)

/-- EXCUSE_EXPIRY (R426): ledgers whose excuse has ended are rebased at the next check. -/
def excuseExpiry (s : State) : State :=
  let done : List (Nat × Nat) := s.hlt.excused.filter (fun e => decide (e.2 ≤ s.now))
  if done.isEmpty then s
  else
    let rest := s.hlt.excused.filter (fun e => !decide (e.2 ≤ s.now))
    let s := { s with hlt := { s.hlt with excused := rest, rebase := s.hlt.rebase ++ done.map (fun (e : Nat × Nat) => e.1) } }
    s.setFld .HLT_LEDGER_STATUS_EXCUSED (b2n (!rest.isEmpty))

def execExcuseExpiry (s : State) : Result := .next (excuseExpiry s)

/-- HLT_CFG.REBASE (R427): every ledger is rebased at the next check. -/
def hltRebase (s : State) : State := { s with hlt := { s.hlt with rebase := range' 1 11 } }

def execHltRebase (a : Agent) (s : State) : Result :=
  .next (far (write32 a .HLT_CFG (2 + s.fld .HLT_CFG_LEDGER_EN)) hltRebase s)

end Sys2Proof.Machine
end

