-- ==== Sys2Proof/Machine/SysBlock.lean ====
section
/-!
DEFINITION. The SYS block (R374 to R379): keys (R360), update strobes (R363 to R366), the counter snapshot (R369), the reset
requests (R402, R405, R406) and user fuses; and the slow writes (R352, R382, R387).
-/
namespace Sys2Proof.Machine

/-! ### Keys (R360) -/

/-- The value that opens a key. -/
def unlockValue : Nat := 0x7EA5

/-- A write to SYS_KEY, taken at the control-die end of the IDL. -/
def keyWrite (w : RegWrite) (s : State) : State :=
  if w.val.toNat = unlockValue then setKey w.agent (some (s.now + keyClocks)) s
  else logNear ⟨7, w.agent, w.size, w.ali, w.off⟩ (setKey w.agent none s)

def execKeyWrite (a : Agent) (v : Word) (s : State) : Result :=
  .next (near (keyWrite (write32 a .SYS_KEY v.toNat)) s)

/-- KEY_TIMEOUT (R360). -/
def keyTimeout (a : Agent) (s : State) : State :=
  match keyOf' s a with
  | some t => if t ≤ s.now then setKey a none s else s
  | none => s

def execKeyTimeout (a : Agent) (s : State) : Result := .next (keyTimeout a s)

/-! ### Update strobes (R363 to R366) -/

/-- The update group of an offset. -/
def groupAt (off : Nat) : Nat :=
  match findReg off with
  | some (r, _) => r.grp
  | none => 64

/-- Ports whose EN is set. -/
def enabledPorts (s : State) : List Nat := (List.range 256).filter (fun p => s.flag .LEAF_PORT_CFG_EN p)

/-- A port whose EN is cleared goes down and loses its alignment (R58); a frame that it was receiving is cut (R43). -/
def disablePort (p : Nat) (s : State) : State :=
  let s := dropLanes p (linkDown p (cutRx p none s))
  setPort p { portOf s p with ready := none } s

/-- Another PAUSE_MODE is applied: pauses in force and pauses sent belong to the old mode and end with it, and classes are
triggered anew (R45, R48) (DESIGN CHOICE, log 23). -/
def newPauseMode (p : Nat) (s : State) : State :=
  clearPause p (setPort p { portOf s p with trig := [], pauseOut := [], pausedAt := [] } s)

/-- A new CT_START is applied (R54). -/
def newCtStart (p : Nat) (s : State) : State :=
  (setPort p { portOf s p with ctAt := s.now } s).setFld .LEAF_CT_STATUS_CT_START_CUR (s.fld .LEAF_PORT_CFG_CT_START p) p

/-- What a port does once settings of group 1 apply: it starts to train where its EN is set (R57), takes a new CT_START (R54)
and a new PAUSE_MODE, and its thresholds trigger or release pause (R48). -/
def portApplied (old : State) (p : Nat) (s : State) : State :=
  let s := if s.flag .LEAF_PORT_CFG_EN p && !old.flag .LEAF_PORT_CFG_EN p then startLine p s else s
  let s := if s.fld .LEAF_PORT_CFG_CT_START p = old.fld .LEAF_PORT_CFG_CT_START p then s else newCtStart p s
  let s := if pauseMode s p = pauseMode old p then s else newPauseMode p s
  (List.range 8).foldl (fun s c => pauseSync p c s) s

/-- The settings of the named groups that have pending writes apply on one edge. -/
def applyGroups (mask : Nat) (s : State) : State :=
  let named := (s.reg .SYS_UPDATE_PENDING).toNat &&& mask
  let hit := fun (off : Nat) => named.testBit (groupAt off)
  let s := { s with regs := SMap.union (SMap.keep s.regs (fun k => !hit k)) (SMap.keep s.shadow hit) }
  s.setReg .SYS_UPDATE_PENDING (BitVec.ofNat 32 ((s.reg .SYS_UPDATE_PENDING).toNat - named))

/-- Another setting of mirror session i is applied (R349). -/
def newSession (old new : State) (i : Nat) : Bool :=
  old.reg .MIR_SESSION_CFG i != new.reg .MIR_SESSION_CFG i || old.reg .MIR_SESSION_DEST i != new.reg .MIR_SESSION_DEST i

/-- What follows at once from newly applied settings: ports that are disabled (R58) or take new settings (R48, R54), planes
(R137), spilling (R152), queues that a new share no longer bounds (R164), sample counts of mirror sessions that
change (R349), and a weather log that is configured anew (R181). -/
def follow (old : State) (s : State) : State :=
  let log := fun (s : State) => ((s.reg .TM_WX_LOG_BASE).toNat, (s.reg .TM_WX_LOG_SIZE).toNat)
  let new := s
  let s := ((enabledPorts old).filter (fun p => !new.flag .LEAF_PORT_CFG_EN p)).foldl (fun s p => disablePort p s) s
  let s := if (old.reg .SYS_UPDATE_PENDING).getLsbD 1 && !(new.reg .SYS_UPDATE_PENDING).getLsbD 1 then
    (List.range 256).foldl (fun s p => portApplied old p s) s else s
  let s := showSpill (planeSync s)
  let s := (s.tm.queues.map (fun e => e.1)).foldl (fun s k => boundSync k s) s
  let s := { s with leaf := { s.leaf with copies := SMap.keep s.leaf.copies (fun k => !newSession old new (k / 16)) } }
  if log old = log new then s
  else { s with tm := { s.tm with wxSeq := 0 } }

/-- A write to SYS_UPDATE_STROBE (R365): groups 32 to 63 have no members. -/
def strobe (mask : Nat) (s : State) : State :=
  follow s (applyGroups mask { s with sys := { s.sys with strobeHi := 0#32 } })

/-- A write to SYS_UPDATE_STROBE_HI stages a mask. -/
def strobeHi (v : Word) (s : State) : State := { s with sys := { s.sys with strobeHi := v } }

def execUpdateStrobeHi (a : Agent) (mask : Word) (s : State) : Result :=
  .next (far (write32 a .SYS_UPDATE_STROBE_HI mask.toNat) (strobeHi mask) s)

def execUpdateStrobe (a : Agent) (mask : Word) (s : State) : Result :=
  .next (far (write32 a .SYS_UPDATE_STROBE mask.toNat) (strobe mask.toNat) s)

/-! ### The counter snapshot (R369, R377) -/

/-- A snapshot is taken: the counters of the switch die are copied now, those of the control die follow. -/
def snapshot (clear : Bool) (s : State) : State :=
  let farPart := SMap.keep s.cnts isFar
  let s := { s with
    hold := farPart ++ SMap.keep s.hold (fun k => !isFar k)
    cnts := if clear then SMap.keep s.cnts (fun k => !isFar k) else s.cnts
    sys := { s.sys with snapClear := clear } }
  (s.setFld .SYS_SNAP_STATUS_DONE 0).setFld .SYS_SNAP_STATUS_COPYING 1

/-- A second TAKE in the register clock of a snapshot joins it (R369): with CLEAR it clears what the first has copied
(DESIGN CHOICE, log 48). -/
def snapJoin (clear : Bool) (s : State) : State :=
  if clear then
    { s with cnts := SMap.keep s.cnts (fun k => !isFar k), sys := { s.sys with snapClear := true } }
  else s

/-- SNAPSHOT_DONE (R369): the counters of the control die have been copied. -/
def snapDone (s : State) : State :=
  if s.flag .SYS_SNAP_STATUS_COPYING then
    let s := { s with
      hold := SMap.keep s.hold isFar ++ SMap.keep s.cnts (fun k => !isFar k)
      cnts := if s.sys.snapClear then SMap.keep s.cnts isFar else s.cnts }
    let s := (s.setFld .SYS_SNAP_STATUS_DONE 1).setFld .SYS_SNAP_STATUS_COPYING 0
    s.setFld .SYS_SNAP_STATUS_SEQ (s.fld .SYS_SNAP_STATUS_SEQ + 1)
  else s

def execSnapshotDone (s : State) : Result := .next (snapDone s)

/-- A write to SYS_SNAP_CTRL: TAKE writes of one register clock make one snapshot, and a later TAKE while a snapshot is
still copying is refused (R369). -/
def snapCtrl (w : RegWrite) (s : State) : State :=
  let view := fun (s : State) => s.setFld .SYS_SNAP_CTRL_VIEW (Fld.SYS_SNAP_CTRL_VIEW.get w.val)
  let clear := Fld.SYS_SNAP_CTRL_CLEAR.get w.val == 1
  if Fld.SYS_SNAP_CTRL_TAKE.get w.val = 1 then
    (if s.flag .SYS_SNAP_STATUS_COPYING then
      (if s.sys.snapAt = some s.regClk then snapJoin clear (view s) else logWrite 4 w s)
    else
      let s := view s
      snapshot clear { s with sys := { s.sys with snapAt := some s.regClk } })
  else view s

def execSnapshotTake (a : Agent) (clear view : Bool) (s : State) : Result :=
  let w := write32 a .SYS_SNAP_CTRL (1 + 2 * b2n clear + 4 * b2n view)
  .next (far w (snapCtrl w) s)

/-! ### Reset requests (R378, R402, R405, R406) -/

/-- The registers and shadows of a block return to their reset values, and its group is no longer pending (R363, R406). -/
def clearBlock (b grp : Nat) (s : State) : State :=
  let out := fun (k : Nat) => k / 2 ^ 20 != b
  let s := { s with regs := SMap.keep s.regs out, shadow := SMap.keep s.shadow out }
  s.setReg .SYS_UPDATE_PENDING (BitVec.ofNat 32 (putBit (s.reg .SYS_UPDATE_PENDING).toNat grp false))

/-- A block reset of LEAF: every group restarts in the reset mode, every port disabled. -/
def resetLeaf (s : State) : State :=
  let s := (List.range 16).foldl (fun s g =>
    groupRestart g (s.setReg .LEAF_GROUP_CFG (Reg.LEAF_GROUP_CFG.resetOf g 0) g)) s
  (List.range 16).foldl (fun s g => s.setFld .LEAF_GROUP_STATUS_RESTARTING 1 g) (clearBlock 1 1 s)

/-- A block reset of PARSE: rules, edit programs, templates and staging are gone. -/
def resetParse (s : State) : State :=
  { clearBlock 2 2 s with cls := { s.cls with rules := [], staging := [], edits := [], tmpls := [] } }

/-- A block reset of MIR: the sample counts restart. -/
def resetMir (s : State) : State :=
  { clearBlock 10 7 s with leaf := { s.leaf with samples := [], copies := [] } }

/-- A block reset of HLT: windows restart empty, offsets and excuses are gone, the running totals stay (R427). -/
def resetHlt (s : State) : State :=
  { clearBlock 11 0 s with hlt := { s.hlt with
    wins := [], winCfg := [], offs := [], diffs := [], excused := [], rebase := [] } }

/-- A KIND 4 request (R378, R406). -/
def blockReset (w : RegWrite) (b : Nat) (s : State) : State :=
  let done := noteReset 4 (resetAgent w.agent) s.ctl
  if b = 1 then done (resetLeaf s) else if b = 2 then done (resetParse s) else if b = 10 then done (resetMir s)
  else if b = 11 then done (resetHlt s) else logWrite 4 w s

/-- A stronger request than this one waits in the same register clock: the fixture's, or a register request of the other key,
which is open (R405). -/
def strongerWaits (k : Nat) (s : State) : Bool :=
  s.awaits (fun c =>
    match c with
    | .coldReset a => decide (1 < k) && keyOpen s a
    | .warmReset a => decide (2 < k) && keyOpen s a
    | .appDomainReset a => decide (3 < k) && keyOpen s a
    | .fixtureResetRelease ms _ => decide (1 < k) && decide (10 ≤ ms)
    | _ => false)

/-- A request that has spent its key (R405): ignored and logged during dusk and steep; of requests that meet, the strongest is
carried out. -/
def resetCtrl (w : RegWrite) (s : State) : State :=
  let k := Fld.SYS_RESET_CTRL_KIND.get w.val
  if k = 0 ∨ 5 ≤ k then s
  else if resetBarred s then
    (if s.flag .SYS_PLANE_STATE_IDL_UP then logWrite 4 w s else logNear ⟨4, w.agent, w.size, w.ali, w.off⟩ s)
  else if resetMet k s || strongerWaits k s then s
  else if k = 1 then coldReset (resetAgent w.agent) s
  else if k = 2 then warmReset (resetAgent w.agent) s
  else if k = 3 then appReset (resetAgent w.agent) s
  else blockReset w (Fld.SYS_RESET_CTRL_BLOCK.get w.val) s

/-- A request that has passed its key: one that meets a reset in progress resolves with it at once, any other crosses the IDL
(R405) (DEDUCED, log 50). -/
def resetIssue (w : RegWrite) (s : State) : State :=
  if s.pwr.stopped && (s.pwr.resetAt.any (fun r => decide (r.kind ≤ 2))) then resetCtrl w s else far w (resetCtrl w) s

/-- A write to SYS_RESET_CTRL: the key is checked as it leaves the control die (R361); in the register clock of a reset the
keys are those from before it (R405). -/
def resetWrite (w : RegWrite) (s : State) : State :=
  match s.pwr.resetAt with
  | some r =>
    if r.clk = s.regClk then
      let s := guarded w (resetIssue w) { s with ctl := { s.ctl with keySoft := r.keySoft, keyKeep := r.keyKeep } }
      { s with ctl := { s.ctl with keySoft := none, keyKeep := none } }
    else guarded w (resetIssue w) s
  | none => guarded w (resetIssue w) s

/-- A 32-bit write of a value to SYS_RESET_CTRL. -/
def resetValue (a : Agent) (v : Nat) (s : State) : State := resetWrite (write32 a .SYS_RESET_CTRL v) s

/-- RESET_KIND_NONE (R378): the key is spent, and nothing happens (DEDUCED, log 50). -/
def execResetKindNone (a : Agent) (kind : Fin 4) (s : State) : Result :=
  .next (resetValue a (if kind.val = 0 then 0 else kind.val + 4) s)

def execColdReset (a : Agent) (s : State) : Result := .next (resetValue a 1 s)
def execWarmReset (a : Agent) (s : State) : Result := .next (resetValue a 2 s)
def execAppDomainReset (a : Agent) (s : State) : Result := .next (resetValue a 3 s)
def execBlockReset (a : Agent) (block : Fin 32) (s : State) : Result := .next (resetValue a (4 + block.val * 65536) s)

/-! ### User fuses (R379) -/

/-- A write to SYS_FUSE_CTRL. -/
def fuseCtrl (w : RegWrite) (s : State) : State :=
  if Fld.SYS_FUSE_CTRL_BLOW.get w.val = 0 then s
  else if s.flag .SYS_FUSE_STATUS_BUSY || s.flag .KEEP_STATUS_DUSK then logWrite 4 w s
  else
    let s := { s with sys := { s.sys with fuseAt := some (s.now, Fld.SYS_FUSE_CTRL_BIT.get w.val) } }
    s.setFld .SYS_FUSE_STATUS_BUSY 1

def execFuseBlow (a : Agent) (bit : Fin 32) (s : State) : Result :=
  let w := write32 a .SYS_FUSE_CTRL (2 ^ 31 + bit.val)
  .next (guarded w (far w (fuseCtrl w)) s)

/-- FUSE_BLOW_DONE (R379): the bit is read back. -/
def fuseDone (blown : Bool) (s : State) : State :=
  match s.sys.fuseAt with
  | none => s
  | some (_, bit) =>
    let f := if blown then s.nvm.fuses ||| BitVec.ofNat 32 (2 ^ bit) else s.nvm.fuses
    let s := { s with sys := { s.sys with fuseAt := none }, nvm := { s.nvm with fuses := f } }
    let s := (s.setReg .SYS_FUSE_USER f).setFld .SYS_FUSE_STATUS_BUSY 0
    if f.toNat.testBit bit then s else s.setFld .SYS_FUSE_STATUS_ERR 1

def execFuseBlowDone (blown : Bool) (s : State) : Result := .next (fuseDone blown s)

/-! ### Slow writes (R352, R382, R387) -/

/-- A slow write arrives at OPT: refused while BUSY, but for the keeper core, whose write waits. -/
def optWrite (w : RegWrite) (s : State) : State :=
  if !s.flag .OPT_SLOW_STATUS_BUSY then
    { s.setFld .OPT_SLOW_STATUS_BUSY 1 with sys := { s.sys with slowOpt := [w] } }
  else if w.agent = .keeper then { s with sys := { s.sys with slowOpt := s.sys.slowOpt ++ [w] } }
  else logWrite 5 w s

/-- The set-point that a write to PWR_RAIL_SET[i] gives. -/
def railValue (w : RegWrite) (i : Nat) (s : State) : Nat :=
  (aliased w.ali (s.reg .PWR_RAIL_SET i) w.val Reg.PWR_RAIL_SET.rw).toNat % 65536

/-- The value of a set-point is within 3 % of the factory's, and the rail is not reserved (R387). -/
def railOk (i v : Nat) : Bool := decide (i < 28) && decide (100 * v ≤ 103 * railMv i) && decide (97 * railMv i ≤ 100 * v)

/-- A slow write arrives at the regulators (DEDUCED, log 47). -/
def railWrite (w : RegWrite) (i : Nat) (s : State) : State :=
  if !railOk i (railValue w i s) then logNear ⟨4, w.agent, w.size, w.ali, w.off⟩ s
  else if !s.flag .PWR_SLOW_STATUS_BUSY then
    { s.setFld .PWR_SLOW_STATUS_BUSY 1 with sys := { s.sys with slowPwr := [w] } }
  else if w.agent = .keeper then { s with sys := { s.sys with slowPwr := s.sys.slowPwr ++ [w] } }
  else logNear ⟨5, w.agent, w.size, w.ali, w.off⟩ s

def execRailSetWrite (a : Agent) (i : Fin 32) (v : Word) (s : State) : Result :=
  let w := write32 a .PWR_RAIL_SET v.toNat i.val
  .next (guarded w (railWrite w i.val) s)

def execOptLaneBiasWrite (a : Agent) (lane : Fin 512) (v : Word) (s : State) : Result :=
  let w := write32 a .OPT_LANE_BIAS v.toNat lane.val
  .next (guarded w (far w (optWrite w)) s)

/-- OPT_LANE_BIAS[L] takes a value: BIAS_ACT is BIAS, at most 0xC80, under OVERRIDE, and what the engine's power control
makes it otherwise (a free value); a sky lane whose DISABLE is set stops (R382) (DESIGN CHOICE, log 1)
(DEDUCED, log 49). -/
def biasTake (l : Nat) (v : Word) (s : State) : State :=
  let v := Reg.OPT_LANE_BIAS.take (s.reg .OPT_LANE_BIAS l) v
  let act := if Fld.OPT_LANE_BIAS_OVERRIDE.get v = 1 then min 0xC80 (Fld.OPT_LANE_BIAS_BIAS.get v)
    else Config.freeNat s.free % 4096
  let s := s.fresh.setReg .OPT_LANE_BIAS (Fld.OPT_LANE_BIAS_BIAS_ACT.set v act) l
  if 256 ≤ l then lanesStopped s else s

/-- SLOW_WRITE_DONE (R352) at OPT: the oldest write has reached its lane, or was not acknowledged. -/
def optDone (ack : Bool) (s : State) : State :=
  match s.sys.slowOpt with
  | [] => s
  | w :: rest =>
    let s := { s with sys := { s.sys with slowOpt := rest } }.setFld .OPT_SLOW_STATUS_BUSY (b2n (!rest.isEmpty))
    match ack, Reg.OPT_LANE_BIAS.locate w.off with
    | true, some (l, _) => biasTake l (aliased w.ali (s.reg .OPT_LANE_BIAS l) w.val Reg.OPT_LANE_BIAS.rw) s
    | _, _ => s.setFld .OPT_SLOW_STATUS_NAK 1

/-- SLOW_WRITE_DONE at the regulators (R387). -/
def railDone (ack : Bool) (s : State) : State :=
  match s.sys.slowPwr with
  | [] => s
  | w :: rest =>
    let s := { s with sys := { s.sys with slowPwr := rest } }.setFld .PWR_SLOW_STATUS_BUSY (b2n (!rest.isEmpty))
    match ack, Reg.PWR_RAIL_SET.locate w.off with
    | true, some (i, _) => s.setReg .PWR_RAIL_SET (BitVec.ofNat 32 (railValue w i s)) i
    | _, _ => s.setFld .PWR_SLOW_STATUS_NAK 1

def execSlowWriteDone (b : SlowBlock) (ack : Bool) (s : State) : Result :=
  .next (match b with
    | .opt => running (optDone ack) s
    | .pwr => railDone ack s)

end Sys2Proof.Machine
end

