-- ==== Sys2Proof/Machine/Access.lean ====
section
/-!
DEFINITION. Register access (R350 to R359, R363, R368, R370): what each register does with a write, the path of an access of
any size and alias, reads with their captures, and what waits for the IDL to train.
-/
namespace Sys2Proof.Machine

/-! ### Writes that a register refuses or acts on -/

/-- A refused write of a switch-die register is logged with kind 4 (DEDUCED, log 47). -/
def refused (w : RegWrite) (s : State) : State := logWrite 4 w s

/-- A refused write of a control-die register is logged with kind 4. -/
def refusedNear (w : RegWrite) (s : State) : State := logNear ⟨4, w.agent, w.size, w.ali, w.off⟩ s

/-- A write that a register takes only in OFF (R185, R220). -/
def inOff (w : RegWrite) (r : Reg) (i : Nat) (s : State) : State :=
  if skyState s = 0 then plain r i 0 w.val s else refused w s

/-- A field of a written LEAF_PORT_CFG lies in its range (R60). -/
def portFieldOk (f : Fld) (lo hi : Nat) (v : Word) : Bool := decide (lo ≤ f.get v) && decide (f.get v ≤ hi)

/-- A field of LEAF_PORT_CFG outside its range keeps its old value (R60) (DEDUCED, log 10). -/
def keepPortField (f : Fld) (lo hi : Nat) (old v : Word) : Word :=
  if portFieldOk f lo hi v then v else f.set v (f.get old)

/-- A write to LEAF_PORT_CFG: one with a CT_START outside 1 to 16 or a MAX_FRAME outside 64 to 9,600 is logged once
(R60, R359). -/
def portCfgWrite (r : Reg) (i j : Nat) (w : RegWrite) (s : State) : State :=
  let old := s.shad .LEAF_PORT_CFG i j
  let ok := portFieldOk .LEAF_PORT_CFG_CT_START 1 16 w.val && portFieldOk .LEAF_PORT_CFG_MAX_FRAME 64 9600 w.val
  let v := keepPortField .LEAF_PORT_CFG_CT_START 1 16 old (keepPortField .LEAF_PORT_CFG_MAX_FRAME 64 9600 old w.val)
  plain r i j v (if ok then s else refused w s)

/-- LEAF: restarts, doze commands, and a CT_START outside 1 to 16 or a MAX_FRAME outside 64 to 9,600, which is not
applied. -/
def leafWrite (r : Reg) (i j : Nat) (w : RegWrite) (s : State) : State :=
  if r.base = Reg.LEAF_GROUP_CTRL.base then (if w.val.toNat.testBit 0 then groupRestart i s else s)
  else if r.base = Reg.LEAF_DOZE_CTRL.base then dozeCtrl w i s
  else if r.base = Reg.LEAF_PORT_CFG.base then portCfgWrite r i j w s
  else plain r i j w.val s

/-- TBL: clears, and regions that must lie within their partition (R89): 1,048,576 buckets of the MAC and host tables,
524,288 of the LPM table. -/
def tblWrite (r : Reg) (i j : Nat) (w : RegWrite) (s : State) : State :=
  if r.base = Reg.TBL_CLEAR_CTRL.base then clearCtrl w s
  else if r.base = Reg.TBL_LAYOUT_GEOM.base then
    let v := r.take (s.shad r i j) w.val
    if Fld.TBL_LAYOUT_GEOM_BASE.get v + 2 ^ Fld.TBL_LAYOUT_GEOM_BUCKETS_LOG2.get v ≤ 1048576 then plain r i j w.val s
    else refused w s
  else if r.base = Reg.TBL_LPM_REGION.base then
    let v := r.take (s.shad r i j) w.val
    if Fld.TBL_LPM_REGION_BASE.get v + 2 ^ Fld.TBL_LPM_REGION_BUCKETS_LOG2.get v ≤ 524288 then plain r i j w.val s
    else refused w s
  else plain r i j w.val s

/-- XBAR (R137). -/
def xbarWrite (r : Reg) (i j : Nat) (w : RegWrite) (s : State) : State :=
  if r.base = Reg.XBAR_PLANE_CTRL.base then
    (if popCount (w.val &&& 0xFFFF#32) < 8 then refused w s else plain r i j w.val s)
  else if r.base = Reg.XBAR_PLANE_FAULT.base then planeFaultClear w.val s
  else plain r i j w.val s

/-- A watch entry that R179 refuses: KIND 3 has no range in R161. -/
def watchBad (v : Word) : Bool :=
  let k := Fld.TM_WX_WATCH_KIND.get v
  let x := Fld.TM_WX_WATCH_XPORT.get v
  let q := Fld.TM_WX_WATCH_QUEUE.get v
  if k = 0 then decide (16 ≤ x) || decide (128 ≤ q)
  else if k = 1 then decide (x < 16) || decide (1024 ≤ q)
  else if k = 2 then decide (x < 16) || decide (q < 1024) || decide (1280 ≤ q)
  else true

/-- SKY and SKYT. -/
def skyWrite (r : Reg) (i j : Nat) (w : RegWrite) (s : State) : State :=
  if r.base = Reg.SKY_CTRL.base then skyCtrl w.val s
  else if r.base = Reg.SKY_TX_EN.base then skyTxEn w.val s
  else if r.base = Reg.SKY_LANE_EN.base then laneEnWrite i w.val s
  else if r.base = Reg.SKY_MAP_CTRL.base then mapCtrl w s
  else if r.base = Reg.SKY_MAP_BANK.base then bankWrite w i j s
  else if [Reg.SKY_CFG.base, Reg.SKY_PLANE_OFFSET.base, Reg.SKY_PEER_CFG.base, Reg.SKY_TRACE_OWN.base].contains r.base then
    (let s := inOff w r i s; if r.base = Reg.SKY_CFG.base then skyTry s else s)
  else if r.base = Reg.SKYT_STEP_CTRL.base then (if w.val.toNat.testBit 0 then foundStep w s else s)
  else if r.base = Reg.SKYT_TAI_OFFSET_HI.base then taiWrite w.val s
  else plain r i j w.val s

/-- A setting of ring i (R313); PIPE is kept on transmit rings only. -/
def ringSet (r : Reg) (i : Nat) (w : RegWrite) (s : State) : State :=
  if ringWritable s i then
    let v := if r.base = Reg.HOST_RING_CFG.base ∧ 64 ≤ i then Fld.HOST_RING_CFG_PIPE.set w.val 0 else w.val
    let en := s.flag .HOST_IRQ_CFG_EN i
    irqCfg i en (plain r i 0 v s)
  else refused w s

/-- The index of a window register among the five of its window. -/
def winIndex (r : Reg) : Option Nat := (List.range 5).find? (fun k => (winReg k).base == r.base)

/-- HOST: windows (R305), rings (R313) and doorbells (R303). -/
def hostWriteReg (r : Reg) (i j : Nat) (w : RegWrite) (s : State) : State :=
  match winIndex r with
  | some k => winWrite w k i s
  | none =>
    if r.base = Reg.HOST_RING_CTRL.base then
      (if w.val.toNat.testBit 0 then ringEnable w.agent i s else ringDisable i s)
    else if r.base = Reg.HOST_DB.base then doorbell w.agent i w.val.toNat s
    else if r.base = Reg.HOST_CPL_DB.base then cplDoorbell i w.val.toNat s
    else if r.base = Reg.HOST_NOTIFY_CFG.base ∨ r.base = Reg.HOST_RING_STATUS.base ∨ r.base = Reg.HOST_CPL_STATUS.base then
      plain r i j w.val s
    else ringSet r i w s

/-- SYS (R374 to R379). -/
def sysWrite (r : Reg) (i j : Nat) (w : RegWrite) (s : State) : State :=
  if r.base = Reg.SYS_ACCESS_FAULT.base then
    (if w.val.toNat.testBit 31 then clearFault s else s)
  else if r.base = Reg.SYS_UPDATE_STROBE_HI.base then strobeHi w.val s
  else if r.base = Reg.SYS_UPDATE_STROBE.base then strobe w.val.toNat s
  else if r.base = Reg.SYS_SNAP_CTRL.base then snapCtrl w s
  else if r.base = Reg.SYS_PLANE_CTRL.base then
    (if w.val.toNat % 4 = 3 then refused w s
    else if w.val.toNat.testBit 0 then headlessReq s
    else if w.val.toNat.testBit 1 then headlessExit w.agent s else s)
  else if r.base = Reg.SYS_RESET_CTRL.base then resetCtrl w s
  else if r.base = Reg.SYS_FUSE_CTRL.base then fuseCtrl w s
  else plain r i j w.val s

/-- KEEP (R284): a mailbox takes no write while BUSY, and GO only from its own agent; an unknown CODE is answered with
status 0x01. -/
def keepWrite (r : Reg) (i j : Nat) (w : RegWrite) (s : State) : State :=
  if r.base = Reg.KEEP_MBOX_DATA.base ∨ r.base = Reg.KEEP_MBOX_CMD.base then
    if s.flag .KEEP_MBOX_CMD_BUSY i then refusedNear w s
    else if r.base = Reg.KEEP_MBOX_CMD.base ∧ w.val.toNat.testBit 31 = true then
      if (i = 0 ∧ w.agent = .app) ∨ (i = 1 ∧ w.agent = .host) then
        let s := (plain r i j w.val s).setFld .KEEP_MBOX_CMD_BUSY 1 i
        let code := s.fld .KEEP_MBOX_CMD_CODE i
        if 1 ≤ code ∧ code ≤ 6 then s else mboxServe i code (mboxAnswer i 1 []) s
      else refusedNear w s
    else plain r i j w.val s
  else plain r i j w.val s

/-- NVM (R417). -/
def nvmWriteReg (r : Reg) (i j : Nat) (w : RegWrite) (s : State) : State :=
  if r.base = Reg.NVM_CMD.base then nvmCmd w.val s
  else if r.base = Reg.NVM_BOOT_SEL.base then
    let s := plain r i j w.val s
    { s with nvm := { s.nvm with bootPend := true } }
  else plain r i j w.val s

/-- A register takes a 32-bit write, by block (R371). -/
def regWrite (r : Reg) (i j : Nat) (w : RegWrite) (s : State) : State :=
  match r.base / 2 ^ 20 with
  | 0 => sysWrite r i j w s
  | 1 => leafWrite r i j w s
  | 3 => tblWrite r i j w s
  | 4 => xbarWrite r i j w s
  | 5 =>
    if r.base = Reg.BUF_CARVE_CTRL.base then carveCtrl w s
    else if r.base = Reg.BUF_RETIRE.base then showUsed (plain r i j w.val s) else plain r i j w.val s
  | 6 =>
    if r.base = Reg.TM_WX_WATCH.base ∧ watchBad w.val = true then refused w s else plain r i j w.val s
  | 7 => skyWrite r i j w s
  | 8 => skyWrite r i j w s
  | 9 => hostWriteReg r i j w s
  | 11 =>
    let s := plain r i j w.val s
    if r.base = Reg.HLT_CFG.base ∧ w.val.toNat.testBit 1 = true then hltRebase s else s
  | 12 => if r.base = Reg.OPT_LANE_BIAS.base then optWrite w s else plain r i j w.val s
  | 16 => if r.base = Reg.CTL_RING_OWNER.base then ringOwner w s else plain r i j w.val s
  | 18 => if r.base = Reg.PWR_RAIL_SET.base then railWrite w i s else plain r i j w.val s
  | 19 => keepWrite r i j w s
  | 20 => nvmWriteReg r i j w s
  | _ => plain r i j w.val s

/-! ### The path of a write -/

/-- The slow registers keep the written value and alias until the write reaches its target (R352). -/
def slowReg (r : Reg) : Bool := r.base == Reg.OPT_LANE_BIAS.base || r.base == Reg.PWR_RAIL_SET.base

/-- Writes that this register has taken in the running register clock from sources that come after this one (R358), oldest
first: the application cores, the external host and the keeper core are taken in this order. -/
def takenAfter (s : State) (w : RegWrite) : List TakenWrite :=
  (s.sys.taken.filter (fun x =>
    x.clk == s.regClk && x.write.off == w.off && decide (w.agent.num < x.write.agent.num))).reverse

/-- What one write makes of a register's value. -/
def writeOn (r : Reg) (old : Word) (w : RegWrite) : Word := r.take old (aliased w.ali old w.val r.rw)

/-- The value that a register takes with this write (R357, R358): where later sources have written it in the same register
clock, the value that all of them leave in their order (DEDUCED, log 48). -/
def settled (r : Reg) (i j : Nat) (w : RegWrite) (s : State) : Word :=
  match takenAfter s w with
  | [] => aliased w.ali (s.seen r i j) w.val r.rw
  | x :: l =>
    let all := x :: l
    if r.w1c = 0 ∧ r.wo = 0 then
      (all.filter (fun y => y.write.agent = .host) ++ all.filter (fun y => y.write.agent = .keeper)).foldl
        (fun v y => writeOn r v y.write) (writeOn r x.old w)
    else aliased w.ali (s.seen r i j) w.val r.rw

/-- Note a write that a register has taken; those of earlier register clocks are forgotten. -/
def noteTaken (w : RegWrite) (old : Word) (s : State) : State :=
  { s with sys := { s.sys with taken := ⟨s.regClk, w, old⟩ :: s.sys.taken.filter (fun x => x.clk == s.regClk) } }

/-- A 32-bit write arrives at its register: offsets without one (R356), counters, which have no RW field (R11, R357),
elements of fused-off parts (R4), alias writes (R357), and the order of sources in one register clock (R358). -/
def takeWrite (w : RegWrite) (s : State) : State :=
  match findReg w.off with
  | none =>
    if (findCnt w.off).isSome || (findCntHi w.off).isSome then
      (if w.ali = 0 || fusedOff s w.off then s else if isFar w.off then refused w s else refusedNear w s)
    else if isFar w.off then logWrite 8 w s else logNear ⟨8, w.agent, w.size, w.ali, w.off⟩ s
  | some (r, i, j) =>
    if fusedReg s r i j then s
    else if w.ali ≠ 0 ∧ r.rw = 0 then (if isFar w.off then refused w s else refusedNear w s)
    else if slowReg r then regWrite r i j w s
    else noteTaken w (s.seen r i j) (regWrite r i j { w with val := settled r i j w s } s)

/-- A register is key-guarded, and the write is not one that R357 refuses first. -/
def keyed (w : RegWrite) : Bool :=
  match findReg w.off with
  | some (r, _) => r.key && (w.ali == 0 || r.rw != 0)
  | none => false

/-- A 32-bit write, or a half of a 64-bit write, leaves its agent (R350, R354, R361). -/
def issueWrite (w : RegWrite) (s : State) : State :=
  if w.off = Reg.SYS_KEY.off then (if w.ali = 0 then keyWrite w s else refusedNear w s)
  else if w.off = Reg.SYS_RESET_CTRL.off ∧ w.ali = 0 then resetWrite w s
  else
    let go := if isFar w.off then far w (takeWrite w) else near (takeWrite w)
    if keyed w then guarded w go s else go s

/-- REGISTER_WRITE: an access of any size at any alignment (R353, R354). One of an element that an LZ-S1024 lacks raises no
access fault (R4). -/
def registerWrite (a : Agent) (ali size off : Nat) (v : DWord) (s : State) : State :=
  let n := 2 ^ size
  if !s.pwr.keeperUp then s
  else if off % n ≠ 0 then logNear ⟨2, a, size, ali, off⟩ s
  else if size < 2 then (if fusedOff s (off - off % 4) then s else logNear ⟨1, a, size, ali, off⟩ s)
  else if size = 2 then issueWrite ⟨a, ali, off, v.setWidth 32, 2⟩ s
  else issueWrite ⟨a, ali, off + 4, (v >>> 32).setWidth 32, 3⟩ (issueWrite ⟨a, ali, off, v.setWidth 32, 3⟩ s)

/-- REGISTER_WRITE (R353, R357): a write of any size through any alias (same-clock orders: DESIGN CHOICE, log 48). -/
def execRegisterWrite (a : Agent) (ali : Fin 4) (size : Fin 4) (off : BitVec 28) (v : DWord) (s : State) : Result :=
  .next (registerWrite a ali.val size.val off.toNat v s)

/-! ### Reads (R353, R355, R368, R370) -/

/-- The capture of an agent for the high word at an offset (R355). -/
def pairKey (a : Agent) (off : Nat) : Nat := 2 ^ 28 * a.num + off

/-- Capture a high word. -/
def capture (a : Agent) (off v : Nat) (s : State) : State :=
  { s with pairs := SMap.put s.pairs (pairKey a off) 0#32 (BitVec.ofNat 32 v) }

/-- The high word that an agent's read of the low word has captured (R355) (DEDUCED, log 52). -/
def captured (s : State) (a : Agent) (off : Nat) : Nat := (SMap.getD s.pairs (pairKey a off) 0#32).toNat

/-- A 32-bit read of the same offset by a source that is taken before this one waits: it clears the counter first in this
register clock (R358) (DEDUCED, log 48). -/
def readFirst (s : State) (a : Agent) (off : Nat) : Bool :=
  s.awaits (fun c =>
    match c with
    | .counterRead b ali size o => decide (b.num < a.num) && ali.val == 0 && size.val == 2 && o.toNat == off
    | _ => false)

/-- A 32-bit read of a counter's low word: the holding register under VIEW, or the live value, which it clears. -/
def counterLow (a : Agent) (side : Bool) (off : Nat) (s : State) : Nat × State :=
  let view := s.flag .SYS_SNAP_CTRL_VIEW
  let s := if view && !isFar off then snapDone s else s
  let first := side && !view && readFirst s a off
  let v := if first then 0 else ((SMap.getD (if view then s.hold else s.cnts) off 0#64)).toNat
  let s := if side then capture a (off + 4) (v / 2 ^ 32) s else s
  (v % 2 ^ 32, if side && !view && !first then { s with cnts := SMap.put s.cnts off 0#64 0#64 } else s)

/-- The 64-bit value behind a low word that is a holding pair of its own (R355). -/
def pairValue (off : Nat) (s : State) : Option Nat :=
  if off = Reg.SKY_EPOCH_LO.off then some (curEpoch s)
  else if off = Reg.SKYT_TIME_LO.off then some s.ts64
  else if off = Reg.SKYT_LEASE_END_LO.off then some (s.reg64 .SKYT_LEASE_END_LO .SKYT_LEASE_END_HI)
  else none

/-- The high words of those pairs. -/
def pairHigh (off : Nat) : Bool :=
  off == Reg.SKY_EPOCH_HI.off || off == Reg.SKYT_TIME_HI.off || off == Reg.SKYT_LEASE_END_HI.off

/-- Registers whose value is made when they are read: identity, the reader's key, the candidate cache, progress, and what a
sensor measures, which is free. -/
def liveValue (a : Agent) (r : Reg) (i j : Nat) (s : State) : Word :=
  if r.base = Reg.SYS_ID.base then (if s.sys.part = .s2048 then 0x20481000#32 else 0x10241000#32)
  else if r.base = Reg.SYS_SERIAL_LO.base then Config.serial.setWidth 32
  else if r.base = Reg.SYS_SERIAL_HI.base then (Config.serial >>> 32).setWidth 32
  else if r.base = Reg.SYS_KEY.base then BitVec.ofNat 32 (b2n (keyOpen s a))
  else if r.base = Reg.IDL_CREDIT.base then creditWord s i
  else if r.base = Reg.TBL_LEARN_STATUS.base then BitVec.ofNat 32 s.tbl.cache.length
  else if r.base = Reg.NVM_STATUS.base ∧ s.flag .NVM_STATUS_BUSY = true then
    Fld.NVM_STATUS_PROGRESS.set (s.reg r i j) (Config.freeNat s.free % 101)
  else if r.base = Reg.OPT_ENGINE_TEMP.base then BitVec.ofNat 32 (Config.freeNat s.free % 65536)
  else if r.base = Reg.OPT_LANE_MON.base ∨ r.base = Reg.PWR_RAIL_MEAS.base then Config.freeWord s.free
  else s.seen r i j

/-- Registers of `liveValue` that use a free value (DESIGN CHOICE, log 1). -/
def readsFree (r : Reg) : Bool :=
  r.base == Reg.NVM_STATUS.base || r.base == Reg.OPT_ENGINE_TEMP.base || r.base == Reg.OPT_LANE_MON.base
    || r.base == Reg.PWR_RAIL_MEAS.base

/-- A 32-bit read of an offset; `side` is false for a read through an alias (R357) and a narrow read (R353). -/
def readWord (a : Agent) (side : Bool) (off : Nat) (s : State) : Nat × State :=
  if fusedOff s off then (0, s)
  else if (findCnt off).isSome then counterLow a side off s
  else if (findCntHi off).isSome || pairHigh off then (captured s a off, s)
  else
    match pairValue off s with
    | some v => (v % 2 ^ 32, if side then capture a (off + 4) (v / 2 ^ 32) s else s)
    | none =>
      match findReg off with
      | none => (0, s)
      | some (r, i, j) => ((liveValue a r i j s).toNat, if readsFree r then s.fresh else s)

/-- A read reaches its register: the answer leaves for its agent. A 64-bit read is two 32-bit reads, low word first. -/
def takeRead (x : FarRead) (s : State) : State :=
  let side := x.ali == 0
  if x.size = 3 then
    let (lo, s) := readWord x.agent side x.off s
    let (hi, s) := readWord x.agent side (x.off + 4) s
    s.emit (.readData x.agent 3 (lo + 2 ^ 32 * hi))
  else if x.size = 2 then
    let (v, s) := readWord x.agent side x.off s
    s.emit (.readData x.agent 2 v)
  else
    let (v, s) := readWord x.agent false (x.off - x.off % 4) s
    s.emit (.readData x.agent x.size (v / 2 ^ (8 * (x.off % 4)) % 2 ^ (8 * 2 ^ x.size)))

/-- An offset within SYS_KEY. -/
def inKey (off : Nat) : Bool := off / 4 == Reg.SYS_KEY.off / 4

/-- A read leaves its agent: an unaligned one returns ones and is logged; a far one crosses the IDL, or waits for it
(R351). SYS_KEY is read at the control-die end, in the order of far accesses (R361, R374). -/
def issueRead (x : FarRead) (s : State) : State :=
  let n := 2 ^ x.size
  if !s.pwr.keeperUp then s
  else if x.off % n ≠ 0 then
    (logNear ⟨2, x.agent, x.size, x.ali, x.off⟩ s).emit (.readData x.agent x.size (2 ^ (8 * n) - 1))
  else if !isFar x.off || (inKey x.off && !s.ctl.heldWrites.any (fun w => w.agent == x.agent)) then takeRead x s
  else if s.flag .SYS_PLANE_STATE_IDL_UP then takeRead x (idlSend 0 0 1 1 s)
  else { s with ctl := { s.ctl with heldReads := s.ctl.heldReads ++ [x] } }

/-- COUNTER_READ (R353, R368): a read of any offset and size through any alias (DESIGN CHOICE, log 15). -/
def execCounterRead (a : Agent) (ali : Fin 4) (size : Fin 4) (off : BitVec 28) (s : State) : Result :=
  .next (issueRead ⟨a, ali.val, off.toNat, size.val, s.now⟩ s)

def execHoldingPairRead (a : Agent) (ali : Fin 4) (size : Fin 4) (off : BitVec 28) (s : State) : Result :=
  .next (issueRead ⟨a, ali.val, off.toNat, size.val, s.now⟩ s)

/-- FAR_READ_TIMEOUT (R351): the oldest waiting read has not completed after 100 µs and ends with an error response. -/
def farReadTimeout (s : State) : State :=
  match s.ctl.heldReads with
  | [] => s
  | x :: rest =>
    if x.since + 100 * clkUs ≤ s.now then ({ s with ctl := { s.ctl with heldReads := rest } }).emit (.readError x.agent) else s

def execFarReadTimeout (s : State) : Result := .next (farReadTimeout s)

/-! ### The IDL trains (R16, R351, R408) -/

/-- What the control die held crosses in order: writes, then the reads that waited behind them (DEDUCED, log 17). -/
def deliverHeld (s : State) : State :=
  let ws := s.ctl.heldWrites
  let rs := s.ctl.heldReads
  let s := { s with ctl := { s.ctl with heldWrites := [], heldReads := [] } }
  let s := ws.foldl (fun s w => takeWrite w (idlSend 0 0 1 0 s)) s
  rs.foldl (fun s x => takeRead x (if inKey x.off then s else idlSend 0 0 1 1 s)) s

/-- IDL_RETRAIN_DONE (R16, R289). -/
def idlRetrainDone (s : State) : State :=
  if s.flag .SYS_PLANE_STATE_IDL_UP then s else deliverHeld (idlFlush (idlUp s))

def execIdlRetrainDone (s : State) : Result := .next (running idlRetrainDone s)

/-- DAWN_INIT (R408, steps 3 and 4): rails 8 to 17 are up; pool D is rebuilt with its retired tiles, and the IDL trains. The
tables, rules and counters are as the reset left them. -/
def dawnInit (s : State) : State :=
  if s.pwr.stopped = true ∧ s.pwr.dusk.isNone = true ∧ (s.pwr.seq = .steep ∨ s.pwr.seq = .up) then
    let s := (retired s true).foldl (fun s t => markRetired 4 t s) s
    deliverHeld (idlFlush (idlUp { s with pwr := { s.pwr with stopped := false, resetAt := none } }))
  else s

def execDawnInit (s : State) : Result := .next (dawnInit s)

end Sys2Proof.Machine
end

