-- ==== Sys2Proof/Machine/Dispatch.lean ====
section
/-!
DEFINITION. The dispatch of commands: one arm per constructor of `Instr`, each one call of its meaning.
-/
namespace Sys2Proof.Machine

def exec (i : Instr) (s : State) : Host.Outcome State Fault Refusal :=
  match i with
  | .headlessReq a => Sys2Proof.Machine.execHeadlessReq a s
  | .headlessEntryComplete => Sys2Proof.Machine.execHeadlessEntryComplete s
  | .headlessExit a => Sys2Proof.Machine.execHeadlessExit a s
  | .appResetMessage => Sys2Proof.Machine.execAppResetMessage s
  | .idlTrainingLoss => Sys2Proof.Machine.execIdlTrainingLoss s
  | .idlLossTimeout => Sys2Proof.Machine.execIdlLossTimeout s
  | .idlFlitReplay => Sys2Proof.Machine.execIdlFlitReplay s
  | .idlRetrainDone => Sys2Proof.Machine.execIdlRetrainDone s
  | .headlessBacklogDeliver => Sys2Proof.Machine.execHeadlessBacklogDeliver s
  | .leafGroupRestart a g => Sys2Proof.Machine.execLeafGroupRestart a g s
  | .groupRestartDone g => Sys2Proof.Machine.execGroupRestartDone g s
  | .laneAlign n m1 m2 apart => Sys2Proof.Machine.execLaneAlign n m1 m2 apart s
  | .laneAlignLoss l => Sys2Proof.Machine.execLaneAlignLoss l s
  | .linkUp p skewNs => Sys2Proof.Machine.execLinkUp p skewNs s
  | .linkDown p f => Sys2Proof.Machine.execLinkDown p f s
  | .flapHoldExpiry p => Sys2Proof.Machine.execFlapHoldExpiry p s
  | .leafRxFrame p f fec => Sys2Proof.Machine.execLeafRxFrame p f fec s
  | .pauseFrameRx p f => Sys2Proof.Machine.execPauseFrameRx p f s
  | .pauseExpiry p c => Sys2Proof.Machine.execPauseExpiry p c s
  | .pauseFrameTx p => Sys2Proof.Machine.execPauseFrameTx p s
  | .pauseRepeatTimer p c => Sys2Proof.Machine.execPauseRepeatTimer p c s
  | .pauseWatchdog p c => Sys2Proof.Machine.execPauseWatchdog p c s
  | .pauseWdHoldoffEnd p c => Sys2Proof.Machine.execPauseWdHoldoffEnd p c s
  | .portTxStart p bad => Sys2Proof.Machine.execPortTxStart p bad s
  | .leafTxComplete p bad => Sys2Proof.Machine.execLeafTxComplete p bad s
  | .ctStartDecay p => Sys2Proof.Machine.execCtStartDecay p s
  | .doze a p => Sys2Proof.Machine.execDoze a p s
  | .wake a p => Sys2Proof.Machine.execWake a p s
  | .wakePatternSent p => Sys2Proof.Machine.execWakePatternSent p s
  | .wakePatternDetect p seen times => Sys2Proof.Machine.execWakePatternDetect p seen times s
  | .ruleKey r => Sys2Proof.Machine.execRuleKey r s
  | .ruleMask r => Sys2Proof.Machine.execRuleMask r s
  | .ruleAction r => Sys2Proof.Machine.execRuleAction r s
  | .ruleValid r => Sys2Proof.Machine.execRuleValid r s
  | .editWrite r => Sys2Proof.Machine.execEditWrite r s
  | .templateWrite r => Sys2Proof.Machine.execTemplateWrite r s
  | .macInsert r => Sys2Proof.Machine.execMacInsert r s
  | .macDelete r => Sys2Proof.Machine.execMacDelete r s
  | .hostInsert r => Sys2Proof.Machine.execHostInsert r s
  | .hostDelete r => Sys2Proof.Machine.execHostDelete r s
  | .lpmInsert r => Sys2Proof.Machine.execLpmInsert r s
  | .lpmDelete r => Sys2Proof.Machine.execLpmDelete r s
  | .filterWrite r => Sys2Proof.Machine.execFilterWrite r s
  | .nhWrite r => Sys2Proof.Machine.execNhWrite r s
  | .ecmpWrite r => Sys2Proof.Machine.execEcmpWrite r s
  | .memberWrite r => Sys2Proof.Machine.execMemberWrite r s
  | .lagWrite r => Sys2Proof.Machine.execLagWrite r s
  | .learnAck r => Sys2Proof.Machine.execLearnAck r s
  | .dump r => Sys2Proof.Machine.execDump r s
  | .dumpRecord => Sys2Proof.Machine.execDumpRecord s
  | .learnNotify => Sys2Proof.Machine.execLearnNotify s
  | .learnHoldExpiry => Sys2Proof.Machine.execLearnHoldExpiry s
  | .ageSweepVisit => Sys2Proof.Machine.execAgeSweepVisit s
  | .tblClearStart a => Sys2Proof.Machine.execTblClearStart a s
  | .tblClearDone => Sys2Proof.Machine.execTblClearDone s
  | .xbarCellSend idx => Sys2Proof.Machine.execXbarCellSend idx s
  | .xbarMatch p => Sys2Proof.Machine.execXbarMatch p s
  | .xbarCellArrive p o dmg e => Sys2Proof.Machine.execXbarCellArrive p o dmg e s
  | .xbarReseqTimeout o idx => Sys2Proof.Machine.execXbarReseqTimeout o idx s
  | .xbarPlaneDrained p => Sys2Proof.Machine.execXbarPlaneDrained p s
  | .xbarFaultClear a v => Sys2Proof.Machine.execXbarFaultClear a v s
  | .bufCarve a => Sys2Proof.Machine.execBufCarve a s
  | .bufCarveDone => Sys2Proof.Machine.execBufCarveDone s
  | .spillUnit k e => Sys2Proof.Machine.execSpillUnit k e s
  | .spillUnitClose k => Sys2Proof.Machine.execSpillUnitClose k s
  | .refillUnit k e => Sys2Proof.Machine.execRefillUnit k e s
  | .scrubVisit pass e => Sys2Proof.Machine.execScrubVisit pass e s
  | .shaperRefresh idx => Sys2Proof.Machine.execShaperRefresh idx s
  | .policerRefresh idx => Sys2Proof.Machine.execPolicerRefresh idx s
  | .wxSample => Sys2Proof.Machine.execWxSample s
  | .skyCtrlWrite a v => Sys2Proof.Machine.execSkyCtrlWrite a v s
  | .skyTxEnWrite a v => Sys2Proof.Machine.execSkyTxEnWrite a v s
  | .laneEnWrite a idx v => Sys2Proof.Machine.execLaneEnWrite a idx v s
  | .mapArm a => Sys2Proof.Machine.execMapArm a s
  | .mapArmCheckDone => Sys2Proof.Machine.execMapArmCheckDone s
  | .mapDisarm a => Sys2Proof.Machine.execMapDisarm a s
  | .mapApply => Sys2Proof.Machine.execMapApply s
  | .epochStart root oven => Sys2Proof.Machine.execEpochStart root oven s
  | .syncSlotTx n => Sys2Proof.Machine.execSyncSlotTx n s
  | .slotFill p => Sys2Proof.Machine.execSlotFill p s
  | .dataSlotTx n bad => Sys2Proof.Machine.execDataSlotTx n bad s
  | .skyBurstRx n b => Sys2Proof.Machine.execSkyBurstRx n b s
  | .deskewRelease => Sys2Proof.Machine.execDeskewRelease s
  | .reseqHorizonExpiry src c => Sys2Proof.Machine.execReseqHorizonExpiry src c s
  | .peerTimeout d => Sys2Proof.Machine.execPeerTimeout d s
  | .laneTxFault n => Sys2Proof.Machine.execLaneTxFault n s
  | .laneRxlos n => Sys2Proof.Machine.execLaneRxlos n s
  | .joinStep => Sys2Proof.Machine.execJoinStep s
  | .foundReadySet => Sys2Proof.Machine.execFoundReadySet s
  | .foundStep a => Sys2Proof.Machine.execFoundStep a s
  | .leaseTakeover => Sys2Proof.Machine.execLeaseTakeover s
  | .leaseRenew => Sys2Proof.Machine.execLeaseRenew s
  | .leaseLapse => Sys2Proof.Machine.execLeaseLapse s
  | .takeoverCheck => Sys2Proof.Machine.execTakeoverCheck s
  | .lullEntry => Sys2Proof.Machine.execLullEntry s
  | .lullLimit => Sys2Proof.Machine.execLullLimit s
  | .taiOffsetWrite a v => Sys2Proof.Machine.execTaiOffsetWrite a v s
  | .keeperRestart => Sys2Proof.Machine.execKeeperRestart s
  | .mboxStatus m busMv => Sys2Proof.Machine.execMboxStatus m busMv s
  | .mboxCommitShedOrder m flashOk => Sys2Proof.Machine.execMboxCommitShedOrder m flashOk s
  | .mboxReadShedOrder m => Sys2Proof.Machine.execMboxReadShedOrder m s
  | .mboxAppReset m => Sys2Proof.Machine.execMboxAppReset m s
  | .mboxReadLog m => Sys2Proof.Machine.execMboxReadLog m s
  | .mboxSetFirstAdmin m => Sys2Proof.Machine.execMboxSetFirstAdmin m s
  | .redfishRequest authed op => Sys2Proof.Machine.execRedfishRequest authed op s
  | .redfishGracefulRestart authed => Sys2Proof.Machine.execRedfishGracefulRestart authed s
  | .updateServicePush authed image => Sys2Proof.Machine.execUpdateServicePush authed image s
  | .ringOwnerWrite a v => Sys2Proof.Machine.execRingOwnerWrite a v s
  | .pcieLinkDown => Sys2Proof.Machine.execPcieLinkDown s
  | .pcieLinkUp width bme => Sys2Proof.Machine.execPcieLinkUp width bme s
  | .idlPolicerRefresh => Sys2Proof.Machine.execIdlPolicerRefresh s
  | .intPendClear a idx v => Sys2Proof.Machine.execIntPendClear a idx v s
  | .doorbell a r t stores => Sys2Proof.Machine.execDoorbell a r t stores s
  | .cplDoorbell a r t => Sys2Proof.Machine.execCplDoorbell a r t s
  | .ringFetch r => Sys2Proof.Machine.execRingFetch r s
  | .txFrameInject g => Sys2Proof.Machine.execTxFrameInject g s
  | .completionWrite r => Sys2Proof.Machine.execCompletionWrite r s
  | .ringEnable a r => Sys2Proof.Machine.execRingEnable a r s
  | .ringDisable a r => Sys2Proof.Machine.execRingDisable a r s
  | .ringIdle r => Sys2Proof.Machine.execRingIdle r s
  | .winCfgWrite a w reg v => Sys2Proof.Machine.execWinCfgWrite a w reg v s
  | .notifyRecordWrite => Sys2Proof.Machine.execNotifyRecordWrite s
  | .faultBacklogDeliver => Sys2Proof.Machine.execFaultBacklogDeliver s
  | .irqModTimer r => Sys2Proof.Machine.execIrqModTimer r s
  | .txDescriptor r => Sys2Proof.Machine.execTxDescriptor r s
  | .rxBufferDescriptor r => Sys2Proof.Machine.execRxBufferDescriptor r s
  | .registerWrite a ali size off v => Sys2Proof.Machine.execRegisterWrite a ali size off v s
  | .counterRead a ali size off => Sys2Proof.Machine.execCounterRead a ali size off s
  | .holdingPairRead a ali size off => Sys2Proof.Machine.execHoldingPairRead a ali size off s
  | .farReadTimeout => Sys2Proof.Machine.execFarReadTimeout s
  | .slowWriteDone b ack => Sys2Proof.Machine.execSlowWriteDone b ack s
  | .keyWrite a v => Sys2Proof.Machine.execKeyWrite a v s
  | .keyTimeout a => Sys2Proof.Machine.execKeyTimeout a s
  | .updateStrobeHi a mask => Sys2Proof.Machine.execUpdateStrobeHi a mask s
  | .updateStrobe a mask => Sys2Proof.Machine.execUpdateStrobe a mask s
  | .snapshotTake a clear view => Sys2Proof.Machine.execSnapshotTake a clear view s
  | .snapshotDone => Sys2Proof.Machine.execSnapshotDone s
  | .resetKindNone a kind => Sys2Proof.Machine.execResetKindNone a kind s
  | .coldReset a => Sys2Proof.Machine.execColdReset a s
  | .warmReset a => Sys2Proof.Machine.execWarmReset a s
  | .appDomainReset a => Sys2Proof.Machine.execAppDomainReset a s
  | .blockReset a block => Sys2Proof.Machine.execBlockReset a block s
  | .fuseBlow a bit => Sys2Proof.Machine.execFuseBlow a bit s
  | .fuseBlowDone blown => Sys2Proof.Machine.execFuseBlowDone blown s
  | .railSetWrite a idx v => Sys2Proof.Machine.execRailSetWrite a idx v s
  | .optLaneBiasWrite a lane v => Sys2Proof.Machine.execOptLaneBiasWrite a lane v s
  | .powerOn c absentMs => Sys2Proof.Machine.execPowerOn c absentMs s
  | .railFault rail inService c => Sys2Proof.Machine.execRailFault rail inService c s
  | .railRetry => Sys2Proof.Machine.execRailRetry s
  | .thermalEvaluation c => Sys2Proof.Machine.execThermalEvaluation c s
  | .powerLimitClear => Sys2Proof.Machine.execPowerLimitClear s
  | .steepTimeout => Sys2Proof.Machine.execSteepTimeout s
  | .thermalTrip c => Sys2Proof.Machine.execThermalTrip c s
  | .mainsLoss c => Sys2Proof.Machine.execMainsLoss c s
  | .dusk c => Sys2Proof.Machine.execDusk c s
  | .duskForwardStop => Sys2Proof.Machine.execDuskForwardStop s
  | .duskCheckpointDone => Sys2Proof.Machine.execDuskCheckpointDone s
  | .counterCheckpoint => Sys2Proof.Machine.execCounterCheckpoint s
  | .faultLogWrite flashOk => Sys2Proof.Machine.execFaultLogWrite flashOk s
  | .quietAssert => Sys2Proof.Machine.execQuietAssert s
  | .quietRelease => Sys2Proof.Machine.execQuietRelease s
  | .fixtureResetRelease ms c => Sys2Proof.Machine.execFixtureResetRelease ms c s
  | .recoveryHold => Sys2Proof.Machine.execRecoveryHold s
  | .dawnInit => Sys2Proof.Machine.execDawnInit s
  | .boot goodA goodB => Sys2Proof.Machine.execBoot goodA goodB s
  | .dfuImageLoad image good => Sys2Proof.Machine.execDfuImageLoad image good s
  | .trialExpiry => Sys2Proof.Machine.execTrialExpiry s
  | .keeperFwLoad goodA goodB => Sys2Proof.Machine.execKeeperFwLoad goodA goodB s
  | .keeperFwFallback => Sys2Proof.Machine.execKeeperFwFallback s
  | .nvmRead a => Sys2Proof.Machine.execNvmRead a s
  | .nvmWrite a => Sys2Proof.Machine.execNvmWrite a s
  | .imageCommit a slot => Sys2Proof.Machine.execImageCommit a slot s
  | .switch a slot => Sys2Proof.Machine.execSwitch a slot s
  | .confirm a => Sys2Proof.Machine.execConfirm a s
  | .cfgCommit a => Sys2Proof.Machine.execCfgCommit a s
  | .run a arg => Sys2Proof.Machine.execRun a arg s
  | .abort a => Sys2Proof.Machine.execAbort a s
  | .nvmOpComplete e => Sys2Proof.Machine.execNvmOpComplete e s
  | .bootSelWrite => Sys2Proof.Machine.execBootSelWrite s
  | .windowBucketEnd k => Sys2Proof.Machine.execWindowBucketEnd k s
  | .ledgerCheck => Sys2Proof.Machine.execLedgerCheck s
  | .excuseExpiry => Sys2Proof.Machine.execExcuseExpiry s
  | .hltRebase a => Sys2Proof.Machine.execHltRebase a s
  | .ovenOscillatorReady => Sys2Proof.Machine.execOvenOscillatorReady s
  | .duskRestart c => Sys2Proof.Machine.execDuskRestart c s
  | .busCollapse => Sys2Proof.Machine.execBusCollapse s
  | .msixEntryUnmask w => Sys2Proof.Machine.execMsixEntryUnmask w s
  | .hostMemoryError addr e => Sys2Proof.Machine.execHostMemoryError addr e s

end Sys2Proof.Machine
end

