-- ==== Sys2Proof/WellFormed.lean ====
section
/-!
DEFINITION. Which operands the module's lines, pins and sensors can bring. A command's meaning is defined for every
operand; these checks say which of them a real sender can form.
-/
namespace Sys2Proof

/-- One reading for each of the sensors 0 to 17 (R388). -/
def Climate.wf (c : Climate) : Bool := c.sensors.length == 18

/-- A burst's preamble is sampled as levels 0 to 3, at least as long as R208 looks back, and each correction lies in its
codeword (R204). -/
def RxBurst.wf (b : RxBurst) : Bool :=
  decide (128 ≤ b.pre.length) && b.pre.all (fun v => decide (v < 4))
    && b.fixes.all (fun l => l.all (fun e => decide (e.1 < 272)))

/-- A frame has at least its FCS, and no more of its cells entered early than it has bytes (R43, R122). -/
def RxFrame.wf (f : RxFrame) : Bool := decide (4 ≤ f.data.length) && decide (f.early ≤ f.data.length)

/-- A PCIe link that is up has 1 to 8 lanes trained (CTL_PCIE_STATUS.WIDTH, R286). -/
def linkWidth (w : Nat) : Bool := decide (1 ≤ w) && decide (w ≤ 8)

/-- A store of a core to host memory writes at least one byte. -/
def storeWf (e : Nat × List Byte) : Bool := !e.2.isEmpty

/-- The operands of a command are ones that can arrive. -/
def Instr.wf : Instr → Bool
  | .linkDown _ (some f) => f.wf
  | .leafRxFrame _ f _ => f.wf
  | .pauseFrameRx _ f => f.wf
  | .skyBurstRx _ b => b.wf
  | .pcieLinkUp w _ => linkWidth w.val
  | .doorbell _ _ _ l => l.all storeWf
  | .powerOn c _ => c.wf
  | .railFault _ _ c => c.wf
  | .thermalEvaluation c => c.wf
  | .thermalTrip c => c.wf
  | .mainsLoss c => c.wf
  | .dusk c => c.wf
  | .duskRestart c => c.wf
  | .fixtureResetRelease _ c => c.wf
  | _ => true

end Sys2Proof
end

