-- ==== Sys2Proof/Safety.lean ====
section
/-!
DEFINITION. What claims mean by a sound state: memories in canonical form, every register file, table and queue listing
each key once and in rising order, and a step that goes on.
-/
namespace Sys2Proof

/-- Bytes by address: host memory, an external host's memory, flash. -/
abbrev Memory := List Host.Cell

/-- Canonical form of a memory: addresses rise strictly, and no entry holds what an unlisted address reads as (log 5). -/
def Memory.wf (m : Memory) : Bool := SMap.wf (fun _ => 0#8) m

/-- The offsets that a register's elements have. -/
def Reg.spans (r : Reg) (q : Nat) : Prop := ∃ i j, q = r.off i j

/-- The offsets that a counter's elements have. -/
def Cnt.spans (c : Cnt) (q : Nat) : Prop := ∃ i j, q = c.off i j

namespace Machine

/-- The maps of the control die are in order. -/
structure CtlSt.Sound (x : CtlSt) : Prop where
  msix : SMap.sorted x.msix = true
  intAt : SMap.sorted x.intAt = true
  vcs : SMap.sorted x.vcs = true
  arbs : SMap.sorted x.arbs = true
  pols : SMap.sorted x.pols = true
  accounts : SMap.sorted x.accounts = true

/-- The maps of the host interface are in order, its memories canonical. -/
structure HostSt.Sound (x : HostSt) : Prop where
  rings : SMap.sorted x.rings = true
  mem : Memory.wf x.mem = true
  ext : Memory.wf x.ext = true
  txLast : SMap.sorted x.txLast = true

/-- The maps of the health block are in order. -/
structure HltSt.Sound (x : HltSt) : Prop where
  wins : SMap.sorted x.wins = true
  winCfg : SMap.sorted x.winCfg = true
  bktAt : SMap.sorted x.bktAt = true
  led : SMap.sorted x.led = true
  offs : SMap.sorted x.offs = true
  diffs : SMap.sorted x.diffs = true
  flog : SMap.sorted x.flog = true

/-- The maps of the flash are in order, its memories canonical. -/
structure NvmSt.Sound (x : NvmSt) : Prop where
  flash : Memory.wf x.flash = true

/-- The maps of the classifier are in order. -/
structure ClsSt.Sound (x : ClsSt) : Prop where
  rules : SMap.sorted x.rules = true
  staging : SMap.sorted x.staging = true
  edits : SMap.sorted x.edits = true
  tmpls : SMap.sorted x.tmpls = true
  flows : SMap.sorted x.flows = true

/-- The maps of the sky time are in order. -/
structure TimeSt.Sound (x : TimeSt) : Prop where
  rx : SMap.sorted x.rx = true
  offs : SMap.sorted x.offs = true
  sums : SMap.sorted x.sums = true

/-- The maps of the forwarding tables are in order. -/
structure TblSt.Sound (x : TblSt) : Prop where
  slots : SMap.sorted x.slots = true
  filters : SMap.sorted x.filters = true
  nhs : SMap.sorted x.nhs = true
  groups : SMap.sorted x.groups = true
  members : SMap.sorted x.members = true
  lags : SMap.sorted x.lags = true

/-- The maps of the leaf ports are in order. -/
structure LeafSt.Sound (x : LeafSt) : Prop where
  ports : SMap.sorted x.ports = true
  lanes : SMap.sorted x.lanes = true
  samples : SMap.sorted x.samples = true
  copies : SMap.sorted x.copies = true
  looks : SMap.sorted x.looks = true
  inLooks : SMap.sorted x.inLooks = true

/-- The maps of the crossbar are in order. -/
structure XbarSt.Sound (x : XbarSt) : Prop where
  feed : SMap.sorted x.feed = true
  stage : SMap.sorted x.stage = true
  nextSeq : SMap.sorted x.nextSeq = true
  spent : SMap.sorted x.spent = true
  rr : SMap.sorted x.rr = true
  grant : SMap.sorted x.grant = true
  accept : SMap.sorted x.accept = true
  matched : SMap.sorted x.matched = true
  cross : SMap.sorted x.cross = true
  reo : SMap.sorted x.reo = true

/-- The maps of the buffer tiles are in order. -/
structure BufSt.Sound (x : BufSt) : Prop where
  tiles : SMap.sorted x.tiles = true
  freeAt : SMap.sorted x.freeAt = true
  taken : SMap.sorted x.taken = true
  metas : SMap.sorted x.metas = true

/-- The maps of the traffic manager are in order. -/
structure TmSt.Sound (x : TmSt) : Prop where
  queues : SMap.sorted x.queues = true
  charge : SMap.sorted x.charge = true
  shapers : SMap.sorted x.shapers = true
  pols : SMap.sorted x.pols = true
  was : SMap.sorted x.was = true
  wxLog : SMap.sorted x.wxLog = true

/-- The maps of the sky block are in order. -/
structure SkySt.Sound (x : SkySt) : Prop where
  lanes : SMap.sorted x.lanes = true
  traces : SMap.sorted x.traces = true
  pairs : SMap.sorted x.pairs = true
  reseq : SMap.sorted x.reseq = true
  wrr : SMap.sorted x.wrr = true
  wrr0 : SMap.sorted x.wrr0 = true
  rounds : SMap.sorted x.rounds = true
  offered : SMap.sorted x.offered = true
  used : SMap.sorted x.used = true
  offeredLast : SMap.sorted x.offeredLast = true
  usedLast : SMap.sorted x.usedLast = true
  spare : SMap.sorted x.spare = true
  cands : SMap.sorted x.cands = true
  inForce : SMap.sorted x.inForce = true

/-- A sound state: every memory of the module is canonical, and every register file, counter file, table and queue file
lists each key once, in rising order. -/
structure State.Sound (s : State) : Prop where
  regs : SMap.sorted s.regs = true
  shadow : SMap.sorted s.shadow = true
  cnts : SMap.sorted s.cnts = true
  tot : SMap.sorted s.tot = true
  hold : SMap.sorted s.hold = true
  pairs : SMap.sorted s.pairs = true
  ctl : s.ctl.Sound
  host : s.host.Sound
  hlt : s.hlt.Sound
  nvm : s.nvm.Sound
  cls : s.cls.Sound
  time : s.time.Sound
  tbl : s.tbl.Sound
  leaf : s.leaf.Sound
  xbar : s.xbar.Sound
  buf : s.buf.Sound
  tm : s.tm.Sound
  sky : s.sky.Sound

/-! ### What a command leaves alone -/

/-- The areas of the state. -/
inductive Area where
  | regs | shadow | cnts | tot | hold | pairs | now | free | out | sys | ctl | host | hlt | pwr | nvm | cls | time | tbl
  | leaf | xbar | buf | tm | sky | pending
  deriving DecidableEq, Repr

/-- Two states agree in an area; registers and counters are compared one by one. -/
def State.agree (s t : State) : Area → Prop
  | .regs => True
  | .cnts => True
  | .tot => True
  | .shadow => t.shadow = s.shadow
  | .hold => t.hold = s.hold
  | .pairs => t.pairs = s.pairs
  | .now => t.now = s.now
  | .free => t.free = s.free
  | .out => t.out = s.out
  | .sys => t.sys = s.sys
  | .ctl => t.ctl = s.ctl
  | .host => t.host = s.host
  | .hlt => t.hlt = s.hlt
  | .pwr => t.pwr = s.pwr
  | .nvm => t.nvm = s.nvm
  | .cls => t.cls = s.cls
  | .time => t.time = s.time
  | .tbl => t.tbl = s.tbl
  | .leaf => t.leaf = s.leaf
  | .xbar => t.xbar = s.xbar
  | .buf => t.buf = s.buf
  | .tm => t.tm = s.tm
  | .sky => t.sky = s.sky
  | .pending => t.pending = s.pending

/-- From s to t nothing changes but the named areas and elements of the named registers and counters: every other area is
equal, and every other offset of the aperture reads as before. -/
structure State.Changes (s t : State) (aa : List Area) (rr : List Reg) (cc : List Cnt) : Prop where
  area : ∀ a, a ∉ aa → s.agree t a
  regs : .regs ∉ aa → ∀ q, (∀ r ∈ rr, ¬ r.spans q) → SMap.get? t.regs q = SMap.get? s.regs q
  cnts : .cnts ∉ aa → ∀ q, (∀ c ∈ cc, ¬ c.spans q) → SMap.get? t.cnts q = SMap.get? s.cnts q
  tot : .tot ∉ aa → ∀ q, (∀ c ∈ cc, ¬ c.spans q) → SMap.get? t.tot q = SMap.get? s.tot q

/-- From s to t nothing changes but the named areas, and of registers and counters the elements at the named offsets. -/
structure State.Only (s t : State) (aa : List Area) (oo cc : List Nat) : Prop where
  area : ∀ a, a ∉ aa → s.agree t a
  regs : ∀ q, q ∉ oo → SMap.get? t.regs q = SMap.get? s.regs q
  cnts : ∀ q, q ∉ cc → SMap.get? t.cnts q = SMap.get? s.cnts q
  tot : ∀ q, q ∉ cc → SMap.get? t.tot q = SMap.get? s.tot q

/-- The command answers a next state, and P holds of it. -/
def completes (c : Instr) (s : State) (P : State → Prop) : Prop := ∃ t, exec c s = .next t ∧ P t

/-- The inter-die link is trained: a far access is taken at once, and its transfer waits in `ctl.vcs` (R16, R351). -/
def linked (s : State) : Prop := s.flag .SYS_PLANE_STATE_IDL_UP = true

/-- The die forwards: it is initialised and dusk has not stopped it (R396, R408). -/
def forwards (s : State) : Prop := s.pwr.stopped = false

/-- Credit of a channel of the link, wherever it is (R16): held, in flight, in the receiver's buffer, or on its way back. -/
def IdlVc.credit (x : IdlVc) : Nat := x.held + x.flight + x.buffered + x.returning

/-! ### Operations of the table-write rings -/

/-- The engine has operation op, with the entries ds of unit u, at the head of table-write ring r; the ring has its turn (R76,
R90), and no completion of it is to be discarded. -/
structure atHead (s : State) (r : Fin 32) (op : Nat) (u : RUnit) (ds : List (List Byte)) : Prop where
  sound : s.Sound
  head : ringHead s (128 + r.val) = some (u, ds)
  op : opOf ds = op
  turn : hasTurn s r.val u ds = true
  kept : ∀ v ∈ (ringOf s (128 + r.val)).units, v.lost = false

/-- The unit's completion is held in its slot, with a STATUS and a RESULT. -/
def ended (t : State) (r : Fin 32) (u : RUnit) (status result : Nat) : Prop :=
  ∃ v ∈ (ringOf t (128 + r.val)).units,
    v.id = u.id ∧ v.st = .done { status := status, cookie := u.cookie, first := u.first, w1 := result, nent := u.nent }

/-- Free slots of one of the two buckets of a key. -/
def freeIn (s : State) (rg : Region) (b : Nat) : List Nat := (bucketSlots rg b).filter (slotFree s.tbl.slots)

/-- What an insert of an entry into a bank does, where its key is there already, and where it takes free slots of one of its two
buckets (R91): a lookup then finds the new entry, and no other slot changes. -/
def insertsRight (c : Instr) (r : Fin 32) (s : State) (u : RUnit) (bank : Nat) (e : Ent) : Prop :=
  ∀ rg, regionOf s bank e.key = some rg →
    (∀ i old, findSlot s.tbl.slots (keySlots rg e.key) e.key = some (i, old) →
      completes c s fun t => ended t r u 0 i
        ∧ findSlot t.tbl.slots (keySlots rg e.key) e.key = some (i, { e with hit := old.hit, aged := false })
        ∧ (∀ j, j ≠ i → SMap.get? t.tbl.slots j = SMap.get? s.tbl.slots j)
        ∧ t.cnt .TBL_INSERT_CNT = s.cnt .TBL_INSERT_CNT + 1#64)
    ∧ (findSlot s.tbl.slots (keySlots rg e.key) e.key = none →
      (∀ i ∈ keySlots rg e.key, slotBad s.tbl.slots i = false) →
      (e.key.size ≤ (freeIn s rg (buckets rg e.key).1).length ∨ e.key.size ≤ (freeIn s rg (buckets rg e.key).2).length) →
      completes c s fun t => ∃ i ∈ keySlots rg e.key, slotFree s.tbl.slots i = true ∧ ended t r u 0 i
        ∧ findSlot t.tbl.slots (keySlots rg e.key) e.key = some (i, { e with hit := true, aged := false })
        ∧ (e.key.size = 1 → otherSlot t.tbl.slots i = none)
        ∧ (e.key.size = 2 → ∃ j ∈ keySlots rg e.key, j ≠ i ∧ slotFree s.tbl.slots j = true ∧ otherSlot t.tbl.slots i = some j)
        ∧ (∀ j, j ≠ i → otherSlot t.tbl.slots i ≠ some j → SMap.get? t.tbl.slots j = SMap.get? s.tbl.slots j)
        ∧ t.cnt .TBL_INSERT_CNT = s.cnt .TBL_INSERT_CNT + 1#64)

/-- What a delete of a key from a bank does (R92): the slots of the entry are cleared, and no others; an absent key changes no
slot. -/
def deletesRight (c : Instr) (r : Fin 32) (s : State) (u : RUnit) (bank : Nat) (k : TKey) : Prop :=
  ∀ rg, regionOf s bank k = some rg →
    (∀ i old, findSlot s.tbl.slots (keySlots rg k) k = some (i, old) →
      completes c s fun t => ended t r u 0 0 ∧ slotFree t.tbl.slots i = true
        ∧ (∀ j, otherSlot s.tbl.slots i = some j → slotFree t.tbl.slots j = true)
        ∧ (∀ j, j ≠ i → otherSlot s.tbl.slots i ≠ some j → SMap.get? t.tbl.slots j = SMap.get? s.tbl.slots j)
        ∧ t.cnt .TBL_DELETE_CNT = s.cnt .TBL_DELETE_CNT + 1#64)
    ∧ (findSlot s.tbl.slots (keySlots rg k) k = none →
      completes c s fun t => ended t r u 0x21 0 ∧ t.tbl.slots = s.tbl.slots
        ∧ t.cnt .TBL_WRITE_ERR_CNT = s.cnt .TBL_WRITE_ERR_CNT + 1#64)

/-! ### Interrupts and mailboxes -/

/-- The vector is pending (R295). -/
def pends (t : State) (v : Nat) : Prop := (t.reg .CTL_INT_PEND (v / 32)).toNat.testBit (v % 32) = true

/-- The keeper core has answered mailbox m: STATUS and the data words are set, BUSY is clear, the command counts and the
vector of the mailbox is pending (R284). -/
structure answered (s t : State) (m status : Nat) (words : List Nat) : Prop where
  busy : t.flag .KEEP_MBOX_CMD_BUSY m = false
  status : t.fld .KEEP_MBOX_CMD_STATUS m = status
  data : ∀ k < 16, t.reg .KEEP_MBOX_DATA m k = BitVec.ofNat 32 (words.getD k 0)
  counts : t.cnt .KEEP_MBOX_CMD_CNT = s.cnt .KEEP_MBOX_CMD_CNT + 1#64
  vector : pends t (175 + m)

/-- The registers that an answer of mailbox m may write: its words, its command register and the pending interrupts. -/
def mboxRegs (m : Nat) : List Nat :=
  (List.range 16).map (fun k => Reg.off .KEEP_MBOX_DATA m k) ++ [Reg.off .KEEP_MBOX_CMD m, Reg.off .CTL_INT_PEND 5]

/-- The counters that an answer may change. -/
def mboxCnts : List Nat := [Cnt.off .KEEP_MBOX_CMD_CNT, Cnt.off .CTL_INT_MERGE_CNT]

/-- The mailbox and the CODE of a mailbox command. -/
def mboxCode : Instr → Option (Nat × Nat)
  | .mboxStatus m _ => some (m.val, 1)
  | .mboxCommitShedOrder m _ => some (m.val, 2)
  | .mboxReadShedOrder m => some (m.val, 3)
  | .mboxAppReset m => some (m.val, 4)
  | .mboxReadLog m => some (m.val, 5)
  | .mboxSetFirstAdmin m => some (m.val, 6)
  | _ => none

/-- What the reset of the application domain leaves (R402, R403, R360): the agent and kind in SYS_RESET_STATUS, the cores
held, the keys closed, no operation of the NVM engine, and headless forwarding, or the message that waits for the link (R25). -/
structure appWasReset (s t : State) (agent : Nat) : Prop where
  status : t.reg .SYS_RESET_STATUS = BitVec.ofNat 32 (agent * 8 + 3)
  held : t.pwr.appHeld = true
  keys : t.ctl.keySoft = none ∧ t.ctl.keyKeep = none
  engine : t.nvm.op = none
  headless : linked s → t.flag .SYS_PLANE_STATE_HEADLESS = true
  waits : ¬ linked s → t.ctl.heldReset = true

/-! ### The access fault log, ring DMA and records -/

/-- The fault that the log shows of two in one register clock (R375): that of the access that R358 takes first. -/
def earlier (f : AccFault) : Option (AccFault × Bool) → AccFault
  | some (g, _) => if f.agent.num < g.agent.num then f else g
  | none => f

/-- The access fault log shows a fault. -/
def shows (t : State) (f : AccFault) : Prop :=
  t.reg .SYS_ACCESS_FAULT = (showFault f t).reg .SYS_ACCESS_FAULT
    ∧ t.reg .SYS_ACCESS_FAULT_ADDR = (showFault f t).reg .SYS_ACCESS_FAULT_ADDR

/-- A refused access is logged (R359): it counts; the first since the log was cleared is recorded whole, a later one is not; of two
in one register clock the earlier source's shows (R375). -/
structure faultLogged (s t : State) (kind : Nat) (a : Agent) (size ali off : Nat) : Prop where
  counts : t.cnt .SYS_ACCESS_FAULT_CNT = s.cnt .SYS_ACCESS_FAULT_CNT + 1#64
  first : s.flag .SYS_ACCESS_FAULT_VALID = false → faultInClock s = none →
    t.flag .SYS_ACCESS_FAULT_VALID = true ∧ t.fld .SYS_ACCESS_FAULT_KIND = kind
      ∧ t.fld .SYS_ACCESS_FAULT_AGENT = a.num ∧ t.fld .SYS_ACCESS_FAULT_SIZE = size
      ∧ t.fld .SYS_ACCESS_FAULT_ADDR_ALIAS = ali ∧ t.fld .SYS_ACCESS_FAULT_ADDR_OFFSET = off
  later : s.flag .SYS_ACCESS_FAULT_VALID = true → (∀ g, faultInClock s ≠ some (g, true)) →
    t.reg .SYS_ACCESS_FAULT = s.reg .SYS_ACCESS_FAULT ∧ t.reg .SYS_ACCESS_FAULT_ADDR = s.reg .SYS_ACCESS_FAULT_ADDR
  tie : ∀ g shown, faultInClock s = some (g, shown) → (shown = true ∨ s.flag .SYS_ACCESS_FAULT_VALID = false) →
    shows t (earlier ⟨kind, a, size, ali, off⟩ (some (g, shown)))

/-- The key of an agent is open, and no write of the keeper core in the same register clock beats its write to the register at an
offset (R20, R361). -/
def passesKey (s : State) (a : Agent) (off : Nat) : Prop := keyOpen s a = true ∧ (a = .keeper ∨ keeperWins s off = false)

/-- No reset has fallen in the running register clock, so that the keys are those of now (R405). -/
def keysStand (s : State) : Prop := ∀ r, s.pwr.resetAt = some r → r.clk ≠ s.regClk

/-- The registers and the counter of the access fault log. -/
def faultRegs : List Nat := [Reg.off .SYS_ACCESS_FAULT, Reg.off .SYS_ACCESS_FAULT_ADDR]
def faultCnts : List Nat := [Cnt.off .SYS_ACCESS_FAULT_CNT]

/-- One fault record more waits for its ring, and for the fault log (R315, R333). -/
def faultNoted (s t : State) (code arg : Nat) : Prop :=
  ∃ n : NRec, n.kind = .fault ∧ n.sub = code ∧ n.arg = arg ∧ n.w1 = s.ts64
    ∧ t.host.recq = s.host.recq ++ [.notes [n]] ∧ t.hlt.keepq = s.hlt.keepq ++ [⟨0, n, 0, 0, 0⟩]

/-- The memory that ring DMA reads and writes (R287). -/
def dmaMem (s : State) : Memory := if ownerExt s then s.host.ext else s.host.mem

/-- n bytes at device address a, and the write-back slot at wb, can be written: both lie in windows, at targets x and y that
are apart, and no block of them holds an uncorrected error. -/
structure canPut (s : State) (a n wb x y : Nat) : Prop where
  entry : dmaTarget s a n true = some x
  slot : dmaTarget s wb 64 true = some y
  clean : ownerExt s = true ∨ (poisoned s x n = [] ∧ poisoned s y 64 = [])
  apart : x + n ≤ y ∨ y + 64 ≤ x

/-- The bytes stand at x, and the write-back slot at y holds an index (R301); every other byte is as before. -/
structure wasPut (s t : State) (x : Nat) (l : List Byte) (y idx : Nat) : Prop where
  entry : memGet (dmaMem t) x l.length = l
  slot : memGet (dmaMem t) y 64 = fit 64 (toLe 4 idx)
  others : ∀ a, (a < x ∨ x + l.length ≤ a) → (a < y ∨ y + 64 ≤ a) → SMap.getD (dmaMem t) a 0#8 = SMap.getD (dmaMem s) a 0#8

/-- A refused doorbell (R303): it counts, the ring shows the error, does not run, and keeps its indices; its vector is raised, but
not for a consumer's doorbell on a ring with EN 0. -/
structure doorbellRefused (s t : State) (consumer : Bool) (r code value : Nat) : Prop where
  counts : t.cnt .HOST_DB_REFUSE_CNT r = s.cnt .HOST_DB_REFUSE_CNT r + 1#64
  err : t.flag .HOST_RING_STATUS_ERR r = true ∧ t.fld .HOST_RING_STATUS_ERR_CODE r = code
  stopped : ringEn t r = false
  indices : headOf t r = headOf s r ∧ tailOf t r = tailOf s r ∧ t.reg .HOST_CPL_HEAD r = s.reg .HOST_CPL_HEAD r
  noted : ∃ n : NRec, n.kind = .fault ∧ n.sub = 0x12 ∧ n.arg = r ∧ n.w2 = code ∧ n.w3 = value ∧ .notes [n] ∈ t.host.recq
  vector : s.flag .HOST_IRQ_CFG_EN r = true → (ringEn s r = true ∨ consumer = false) → pends t r
  silent : ringEn s r = false → consumer = true → ∀ i, t.reg .CTL_INT_PEND i = s.reg .CTL_INT_PEND i

/-! ### Power -/

/-- The module has come up from a state without power (R385, R398, R402): the switch die and the keeper domain are reset, host
memory is lost, nothing forwards, and the application domain is held. The sequence waits for the keeper firmware at rail 3, with
the T_min that decides whether it steeps (R389) (log 24: DESIGN CHOICE). -/
structure poweredUp (s t : State) (c : Climate) : Prop where
  keeper : t.pwr.keeperUp = true ∧ t.nvm.keeperFwAt = some s.now ∧ t.flag .KEEP_STATUS_ALIVE = false
  seq : t.pwr.seq = .keeper ∧ t.pwr.starting = some c.tMin
  early : t.flag .PWR_STATUS_STEEP = false ∧ t.flag .PWR_STATUS_SEQ_DONE = false
  input : t.flag .PWR_STATUS_INPUT_OK = true ∧ t.flag .PWR_STATUS_BUS_OK = true
  status : t.reg .SYS_RESET_STATUS = 0#32
  held : t.pwr.stopped = true ∧ t.pwr.appHeld = true ∧ t.pwr.tripLatched = false ∧ t.pwr.dusk = none
  regs : ∀ q < 0x1000000, q ∉ [Reg.off .SYS_RESET_STATUS, Reg.off .SYS_FUSE_USER, Reg.off .BUF_CARVE_STATUS] →
    SMap.get? t.regs q = none
  cnts : ∀ q < 0x1000000, SMap.get? t.cnts q = none
  lost : t.host.mem = [] ∧ t.tbl = {} ∧ t.leaf = {} ∧ t.tm = {} ∧ t.shadow = []

/-- Dusk has been declared for a cause, and no dusk was running (R395, R396): the flags, the dusk line to the switch die, the
vector, the record; the NVM engine stops; the keeper core, where it runs, disables the lasers of every sky lane. -/
structure duskBegan (s t : State) (cause : Nat) (c : Climate) : Prop where
  flags : t.flag .PWR_STATUS_DUSK = true ∧ t.flag .KEEP_STATUS_DUSK = true ∧ t.flag .SKY_STATE_DUSK = true
  vector : pends t 177
  record : t.pwr.dusk = some
    { t0 := s.now, ts := s.ts64, causes := [cause], voltage := c.voltage, power := c.power, tCase := c.tCase }
  engine : t.nvm.op = none
  keeper : t.pwr.abandoned = !s.flag .KEEP_STATUS_ALIVE
  lasers : s.flag .KEEP_STATUS_ALIVE = true → ∀ n < 256, t.flag .OPT_LANE_BIAS_DISABLE (256 + n) = true

/-- A cause of dusk has arrived: dusk begins, or the cause is added to the record of the dusk that runs (R395). -/
def duskCause (s t : State) (cause : Nat) (c : Climate) : Prop :=
  (s.pwr.dusk = none → duskBegan s t cause c)
  ∧ (∀ d, s.pwr.dusk = some d → t.pwr.dusk =
    some { d with causes := if d.causes.contains cause then d.causes else d.causes ++ [cause] })

/-- A step answers a next state: no fault and no refusal. -/
def goesOn (r : Result) : Bool :=
  match r with
  | .next _ => true
  | .fault _ => false
  | .refused _ => false

end Machine
end Sys2Proof
end

