-- ==== Sys2Proof/Touches.lean ====
section
/-!
DEFINITION. What each command may change: the areas of the state, and the registers and counters of which it may change an
element. Everything else it leaves alone. Where an area of whole registers or counters is named, any of them may change.
-/
namespace Sys2Proof.Machine

/-- What a command may change. -/
structure Touched where
  areas : List Area
  regs : List Reg
  cnts : List Cnt
  deriving DecidableEq, Repr

/-- What each command may change. -/
def touches : Instr → Touched
  | .headlessReq .. =>
    ⟨[.sys, .ctl, .host],
     [.HOST_RING_CTRL, .HOST_RING_STATUS],
     []⟩
  | .headlessEntryComplete =>
    ⟨[.out, .sys, .ctl],
     [.CTL_INT_PEND, .SYS_PLANE_STATE],
     [.CTL_INT_MERGE_CNT]⟩
  | .headlessExit .. =>
    ⟨[.out, .sys, .ctl],
     [.CTL_INT_PEND, .SYS_ACCESS_FAULT, .SYS_ACCESS_FAULT_ADDR, .SYS_PLANE_STATE],
     [.SYS_ACCESS_FAULT_CNT, .CTL_INT_MERGE_CNT]⟩
  | .appResetMessage | .idlLossTimeout =>
    ⟨[.out, .sys, .ctl, .host],
     [.HOST_RING_CTRL, .HOST_RING_STATUS, .HOST_CPL_STATUS, .CTL_INT_PEND, .SYS_PLANE_STATE],
     [.HOST_RING_UNDELIVERED_CNT, .CTL_INT_MERGE_CNT]⟩
  | .idlTrainingLoss =>
    ⟨[.ctl],
     [.IDL_STATUS, .SYS_PLANE_STATE],
     []⟩
  | .idlFlitReplay =>
    ⟨[.out, .ctl, .hlt],
     [.HLT_WIN_STATUS, .HLT_WIN_LANES, .CTL_INT_PEND, .IDL_STATUS, .SYS_PLANE_STATE],
     [.HLT_LASTING_CNT, .CTL_INT_MERGE_CNT, .IDL_REPLAY_CNT, .IDL_RETRAIN_CNT]⟩
  | .idlRetrainDone | .registerWrite .. | .dawnInit =>
    ⟨[.regs, .shadow, .cnts, .hold, .pairs, .free, .out, .sys, .ctl, .host, .hlt, .pwr, .nvm, .cls, .time, .tbl,
      .leaf, .xbar, .buf, .tm, .sky],
     [.LEAF_GROUP_CFG, .LEAF_GROUP_STATUS, .LEAF_PORT_STATUS, .LEAF_PAUSE_STATUS, .LEAF_CT_STATUS, .TBL_CLEAR_CTRL,
      .XBAR_PLANE_STATUS, .XBAR_PLANE_FAULT, .BUF_RETIRE_STATUS, .BUF_CARVE_CTRL, .BUF_CARVE_STATUS, .BUF_POOL_FREE,
      .BUF_POOL_ALLOC, .BUF_POOL_QUAR, .BUF_POOL_RSV, .TM_PORT_CREDIT, .TM_Q_CREDIT, .TM_Q_DEPTH, .SKY_CTRL,
      .SKY_TX_EN, .SKY_STATE, .SKY_MAP_STATUS, .SKY_ANNOUNCE, .SKY_ANNOUNCE_APPLY_LO, .SKY_ANNOUNCE_APPLY_HI,
      .SKY_LANE_EN, .SKY_MAP_BANK, .SKY_LANE_ALARM, .SKY_CREDIT_HELD, .SKY_RELAY_OUT, .SKY_SEQ_NEXT, .SKYT_STATUS,
      .SKYT_RATE, .SKYT_OFFSET, .SKYT_LEASE, .SKYT_LEASE_END_LO, .SKYT_LEASE_END_HI, .SKYT_TAI_OFFSET_HI,
      .HOST_WIN_CFG, .HOST_WIN_BASE_LO, .HOST_WIN_BASE_HI, .HOST_WIN_XLATE_LO, .HOST_WIN_XLATE_HI, .HOST_RING_CTRL,
      .HOST_RING_STATUS, .HOST_RING_HEAD, .HOST_RING_TAIL, .HOST_CPL_HEAD, .HOST_CPL_STATUS, .HLT_LEDGER_STATUS,
      .HLT_WIN_STATUS, .HLT_WIN_LANES, .CTL_RING_OWNER, .CTL_INT_PEND, .IDL_STATUS, .PWR_STATUS, .PWR_SLOW_STATUS,
      .PWR_SHED_ORDER, .KEEP_MBOX_DATA, .KEEP_MBOX_CMD, .NVM_SLOT_STATUS, .NVM_BOOT_SEL, .NVM_STATUS,
      .SYS_RUN_STATE, .SYS_ACCESS_FAULT, .SYS_ACCESS_FAULT_ADDR, .SYS_UPDATE_PENDING, .SYS_SNAP_CTRL,
      .SYS_SNAP_STATUS, .SYS_PLANE_STATE, .SYS_RESET_STATUS, .SYS_FUSE_STATUS, .SYS_FUSE_USER, .OPT_SLOW_STATUS],
     [.LEAF_RX_CODE_ERR_CNT, .LEAF_RX_RUNT_CNT, .LEAF_RX_OVERSIZE_CNT, .LEAF_RX_FCS_ERR_CNT, .LEAF_RX_TRUNC_CNT,
      .LEAF_TX_LINKDOWN_ABORT_CNT, .FLAP_FLUSH_CNT, .LEAF_LINK_DOWN_CNT, .LEAF_WAKE_CNT, .PARSE_MAL_CNT,
      .PARSE_RULE_DROP_CNT, .PARSE_TRAP_CNT, .PARSE_RULE_PARITY_CNT, .PARSE_EDIT_SKIP_CNT, .PARSE_EDIT_OVERSIZE_CNT,
      .PARSE_EDIT_PARITY_CNT, .TBL_L2_MISS_DROP_CNT, .TBL_L3_MISS_DROP_CNT, .TBL_TTL_EXPIRE_CNT, .TBL_MISS_TRAP_CNT,
      .TBL_MAC_DROP_CNT, .TBL_NH_INVALID_DROP_CNT, .TBL_PARITY_DROP_CNT, .TBL_NH_DROP_CNT, .TBL_STATIC_MOVE_CNT,
      .TBL_LAG_EMPTY_DROP_CNT, .TBL_ECMP_EMPTY_DROP_CNT, .TBL_PARITY_CNT, .LEARN_DEFER_CNT, .TBL_WRITE_ERR_CNT,
      .XBAR_RX_OVERRUN_CNT, .XBAR_ABORT_CNT, .BUF_FREE_CNT, .BUF_DOUBLE_FREE_CNT, .TM_POLICE_DROP_CNT,
      .TM_DEST_LIMIT_DROP_CNT, .SKY_MAP_APPLY_CNT, .SKY_CREDIT_FORFEIT_CNT, .SKY_NO_PEER_DROP_CNT,
      .SKY_PEER_LOSS_CELL_CNT, .SKY_LANE_MOVE_CELL_CNT, .SKY_STATE_FLUSH_CELL_CNT, .SKY_PAIR_TX_CELL_CNT,
      .SKY_PAIR_LOST_CNT, .SKY_PAIR_FRAME_DISCARD_CNT, .SKYT_STEP_CNT, .SKYT_STEP_REFUSED_CNT, .SKYT_RELEASE_CNT,
      .HOST_RING_UNDELIVERED_CNT, .RX_NOBUF_CNT, .HOST_RX_CPL_FULL_DROP_CNT, .HOST_RX_RING_DOWN_DROP_CNT,
      .HOST_DB_REFUSE_CNT, .HOST_RX_DROP_CNT, .MIR_COPY_CNT, .MIR_DELIVER_CNT, .MIR_POL_DROP_CNT,
      .MIR_HOST_DROP_CNT, .MIR_ABORT_CNT, .HLT_RECORD_SUPPRESS_CNT, .HLT_LASTING_CNT, .SYS_ACCESS_FAULT_CNT,
      .SYS_HEADLESS_HOST_DROP_CNT, .CTL_INT_MERGE_CNT, .CTL_DRAM_CORR_CNT, .CTL_DRAM_UNCORR_CNT,
      .IDL_POL_REFUSE_CNT, .IDL_TRAP_POL_DROP_CNT, .KEEP_MBOX_CMD_CNT, .NVM_READ_CNT, .NVM_WRITE_CNT,
      .NVM_COMMIT_CNT, .NVM_COMMIT_FAIL_CNT, .NVM_CFG_COMMIT_CNT]⟩
  | .headlessBacklogDeliver =>
    ⟨[.out, .sys, .ctl, .host, .hlt, .tm],
     [.HOST_RING_CTRL, .HOST_RING_STATUS, .HOST_RING_TAIL, .HOST_CPL_STATUS, .HLT_LEDGER_STATUS, .HLT_WIN_STATUS,
      .HLT_WIN_LANES, .CTL_INT_PEND],
     [.TM_WX_RECORD_CNT, .TM_WX_DROP_CNT, .HOST_FAULT_REC_DROP_CNT, .HOST_RING_UNDELIVERED_CNT,
      .HLT_RECORD_SUPPRESS_CNT, .HLT_LASTING_CNT, .CTL_INT_MERGE_CNT, .CTL_DRAM_CORR_CNT, .CTL_DRAM_UNCORR_CNT,
      .IDL_POL_REFUSE_CNT]⟩
  | .leafGroupRestart .. =>
    ⟨[.out, .ctl, .host, .hlt, .cls, .tbl, .leaf, .xbar, .buf, .tm, .sky],
     [.LEAF_GROUP_STATUS, .LEAF_PORT_STATUS, .LEAF_PAUSE_STATUS, .BUF_POOL_FREE, .BUF_POOL_ALLOC, .BUF_POOL_RSV,
      .TM_PORT_CREDIT, .TM_Q_CREDIT, .TM_Q_DEPTH, .SKY_RELAY_OUT, .SKY_SEQ_NEXT, .HOST_RING_CTRL, .HOST_RING_STATUS,
      .HOST_RING_HEAD, .HOST_CPL_STATUS, .HLT_LEDGER_STATUS, .HLT_WIN_STATUS, .HLT_WIN_LANES, .CTL_INT_PEND],
     [.LEAF_RX_CODE_ERR_CNT, .LEAF_RX_RUNT_CNT, .LEAF_RX_OVERSIZE_CNT, .LEAF_RX_FCS_ERR_CNT, .LEAF_RX_TRUNC_CNT,
      .LEAF_TX_LINKDOWN_ABORT_CNT, .FLAP_FLUSH_CNT, .LEAF_LINK_DOWN_CNT, .PARSE_MAL_CNT, .PARSE_RULE_DROP_CNT,
      .PARSE_TRAP_CNT, .PARSE_RULE_PARITY_CNT, .PARSE_EDIT_SKIP_CNT, .PARSE_EDIT_OVERSIZE_CNT,
      .PARSE_EDIT_PARITY_CNT, .TBL_L2_MISS_DROP_CNT, .TBL_L3_MISS_DROP_CNT, .TBL_TTL_EXPIRE_CNT, .TBL_MISS_TRAP_CNT,
      .TBL_MAC_DROP_CNT, .TBL_NH_INVALID_DROP_CNT, .TBL_PARITY_DROP_CNT, .TBL_NH_DROP_CNT, .TBL_STATIC_MOVE_CNT,
      .TBL_LAG_EMPTY_DROP_CNT, .TBL_ECMP_EMPTY_DROP_CNT, .TBL_PARITY_CNT, .LEARN_DEFER_CNT, .TBL_WRITE_ERR_CNT,
      .XBAR_RX_OVERRUN_CNT, .XBAR_ABORT_CNT, .BUF_FREE_CNT, .BUF_DOUBLE_FREE_CNT, .TM_POLICE_DROP_CNT,
      .TM_DEST_LIMIT_DROP_CNT, .SKY_NO_PEER_DROP_CNT, .SKY_PAIR_TX_CELL_CNT, .HOST_RING_UNDELIVERED_CNT,
      .RX_NOBUF_CNT, .HOST_RX_CPL_FULL_DROP_CNT, .HOST_RX_RING_DOWN_DROP_CNT, .HOST_RX_DROP_CNT, .MIR_COPY_CNT,
      .MIR_DELIVER_CNT, .MIR_POL_DROP_CNT, .MIR_HOST_DROP_CNT, .MIR_ABORT_CNT, .HLT_RECORD_SUPPRESS_CNT,
      .HLT_LASTING_CNT, .SYS_HEADLESS_HOST_DROP_CNT, .CTL_INT_MERGE_CNT, .CTL_DRAM_CORR_CNT, .CTL_DRAM_UNCORR_CNT,
      .IDL_POL_REFUSE_CNT, .IDL_TRAP_POL_DROP_CNT]⟩
  | .groupRestartDone .. =>
    ⟨[],
     [.LEAF_GROUP_STATUS],
     []⟩
  | .laneAlign .. | .pauseRepeatTimer .. =>
    ⟨[.leaf],
     [],
     []⟩
  | .laneAlignLoss .. =>
    ⟨[.out, .ctl, .host, .hlt, .cls, .tbl, .leaf, .xbar, .buf, .tm, .sky],
     [.LEAF_PORT_STATUS, .LEAF_PAUSE_STATUS, .BUF_POOL_FREE, .BUF_POOL_ALLOC, .BUF_POOL_RSV, .TM_PORT_CREDIT,
      .TM_Q_CREDIT, .TM_Q_DEPTH, .SKY_RELAY_OUT, .SKY_SEQ_NEXT, .HOST_RING_CTRL, .HOST_RING_STATUS, .HOST_RING_HEAD,
      .HOST_CPL_STATUS, .HLT_LEDGER_STATUS, .HLT_WIN_STATUS, .HLT_WIN_LANES, .CTL_INT_PEND],
     [.LEAF_RX_CODE_ERR_CNT, .LEAF_RX_RUNT_CNT, .LEAF_RX_OVERSIZE_CNT, .LEAF_RX_FCS_ERR_CNT, .LEAF_RX_TRUNC_CNT,
      .LEAF_TX_LINKDOWN_ABORT_CNT, .FLAP_FLUSH_CNT, .LEAF_LINK_DOWN_CNT, .LEAF_AM_LOSS_CNT, .PARSE_MAL_CNT,
      .PARSE_RULE_DROP_CNT, .PARSE_TRAP_CNT, .PARSE_RULE_PARITY_CNT, .PARSE_EDIT_SKIP_CNT, .PARSE_EDIT_OVERSIZE_CNT,
      .PARSE_EDIT_PARITY_CNT, .TBL_L2_MISS_DROP_CNT, .TBL_L3_MISS_DROP_CNT, .TBL_TTL_EXPIRE_CNT, .TBL_MISS_TRAP_CNT,
      .TBL_MAC_DROP_CNT, .TBL_NH_INVALID_DROP_CNT, .TBL_PARITY_DROP_CNT, .TBL_NH_DROP_CNT, .TBL_STATIC_MOVE_CNT,
      .TBL_LAG_EMPTY_DROP_CNT, .TBL_ECMP_EMPTY_DROP_CNT, .TBL_PARITY_CNT, .LEARN_DEFER_CNT, .TBL_WRITE_ERR_CNT,
      .XBAR_RX_OVERRUN_CNT, .XBAR_ABORT_CNT, .BUF_FREE_CNT, .BUF_DOUBLE_FREE_CNT, .TM_POLICE_DROP_CNT,
      .TM_DEST_LIMIT_DROP_CNT, .SKY_NO_PEER_DROP_CNT, .SKY_PAIR_TX_CELL_CNT, .HOST_RING_UNDELIVERED_CNT,
      .RX_NOBUF_CNT, .HOST_RX_CPL_FULL_DROP_CNT, .HOST_RX_RING_DOWN_DROP_CNT, .HOST_RX_DROP_CNT, .MIR_COPY_CNT,
      .MIR_DELIVER_CNT, .MIR_POL_DROP_CNT, .MIR_HOST_DROP_CNT, .MIR_ABORT_CNT, .HLT_RECORD_SUPPRESS_CNT,
      .HLT_LASTING_CNT, .SYS_HEADLESS_HOST_DROP_CNT, .CTL_INT_MERGE_CNT, .CTL_DRAM_CORR_CNT, .CTL_DRAM_UNCORR_CNT,
      .IDL_POL_REFUSE_CNT, .IDL_TRAP_POL_DROP_CNT]⟩
  | .linkUp .. | .wakePatternSent .. =>
    ⟨[.leaf],
     [.LEAF_PORT_STATUS],
     []⟩
  | .linkDown .. =>
    ⟨[.out, .ctl, .host, .hlt, .cls, .tbl, .leaf, .xbar, .buf, .tm, .sky],
     [.LEAF_PORT_STATUS, .LEAF_PAUSE_STATUS, .BUF_POOL_FREE, .BUF_POOL_ALLOC, .BUF_POOL_RSV, .TM_PORT_CREDIT,
      .TM_Q_CREDIT, .TM_Q_DEPTH, .SKY_RELAY_OUT, .SKY_SEQ_NEXT, .HOST_RING_CTRL, .HOST_RING_STATUS, .HOST_RING_HEAD,
      .HOST_CPL_STATUS, .HLT_LEDGER_STATUS, .HLT_WIN_STATUS, .HLT_WIN_LANES, .CTL_INT_PEND],
     [.LEAF_RX_CODE_ERR_CNT, .LEAF_RX_RUNT_CNT, .LEAF_RX_OVERSIZE_CNT, .LEAF_RX_FCS_ERR_CNT, .LEAF_RX_TRUNC_CNT,
      .LEAF_TX_LINKDOWN_ABORT_CNT, .FLAP_FLUSH_CNT, .LEAF_LINK_DOWN_CNT, .PARSE_MAL_CNT, .PARSE_RULE_DROP_CNT,
      .PARSE_TRAP_CNT, .PARSE_RULE_PARITY_CNT, .PARSE_EDIT_SKIP_CNT, .PARSE_EDIT_OVERSIZE_CNT,
      .PARSE_EDIT_PARITY_CNT, .TBL_L2_MISS_DROP_CNT, .TBL_L3_MISS_DROP_CNT, .TBL_TTL_EXPIRE_CNT, .TBL_MISS_TRAP_CNT,
      .TBL_MAC_DROP_CNT, .TBL_NH_INVALID_DROP_CNT, .TBL_PARITY_DROP_CNT, .TBL_NH_DROP_CNT, .TBL_STATIC_MOVE_CNT,
      .TBL_LAG_EMPTY_DROP_CNT, .TBL_ECMP_EMPTY_DROP_CNT, .TBL_PARITY_CNT, .LEARN_DEFER_CNT, .TBL_WRITE_ERR_CNT,
      .XBAR_RX_OVERRUN_CNT, .XBAR_ABORT_CNT, .BUF_FREE_CNT, .BUF_DOUBLE_FREE_CNT, .TM_POLICE_DROP_CNT,
      .TM_DEST_LIMIT_DROP_CNT, .SKY_NO_PEER_DROP_CNT, .SKY_PAIR_TX_CELL_CNT, .HOST_RING_UNDELIVERED_CNT,
      .RX_NOBUF_CNT, .HOST_RX_CPL_FULL_DROP_CNT, .HOST_RX_RING_DOWN_DROP_CNT, .HOST_RX_DROP_CNT, .MIR_COPY_CNT,
      .MIR_DELIVER_CNT, .MIR_POL_DROP_CNT, .MIR_HOST_DROP_CNT, .MIR_ABORT_CNT, .HLT_RECORD_SUPPRESS_CNT,
      .HLT_LASTING_CNT, .SYS_HEADLESS_HOST_DROP_CNT, .CTL_INT_MERGE_CNT, .CTL_DRAM_CORR_CNT, .CTL_DRAM_UNCORR_CNT,
      .IDL_POL_REFUSE_CNT, .IDL_TRAP_POL_DROP_CNT]⟩
  | .flapHoldExpiry .. =>
    ⟨[.host, .hlt, .leaf, .buf, .tm],
     [.LEAF_PORT_STATUS, .BUF_POOL_FREE, .BUF_POOL_ALLOC, .BUF_POOL_RSV, .TM_Q_DEPTH, .SKY_RELAY_OUT,
      .HOST_CPL_STATUS],
     [.FLAP_FLUSH_CNT, .TBL_WRITE_ERR_CNT, .BUF_FREE_CNT, .BUF_DOUBLE_FREE_CNT, .HOST_RING_UNDELIVERED_CNT]⟩
  | .leafRxFrame .. =>
    ⟨[.out, .ctl, .host, .hlt, .cls, .tbl, .leaf, .xbar, .buf, .tm, .sky],
     [.LEAF_PORT_STATUS, .LEAF_PAUSE_STATUS, .BUF_POOL_FREE, .BUF_POOL_ALLOC, .BUF_POOL_RSV, .TM_PORT_CREDIT,
      .TM_Q_CREDIT, .TM_Q_DEPTH, .SKY_RELAY_OUT, .SKY_SEQ_NEXT, .HOST_RING_CTRL, .HOST_RING_STATUS, .HOST_RING_HEAD,
      .HOST_CPL_STATUS, .HLT_LEDGER_STATUS, .HLT_WIN_STATUS, .HLT_WIN_LANES, .CTL_INT_PEND],
     [.LEAF_RX_FRAME_CNT, .LEAF_RX_BYTE_CNT, .LEAF_RX_CODE_ERR_CNT, .LEAF_RX_RUNT_CNT, .LEAF_RX_OVERSIZE_CNT,
      .LEAF_RX_FCS_ERR_CNT, .LEAF_RX_TRUNC_CNT, .LEAF_TX_LINKDOWN_ABORT_CNT, .LEAF_RX_PFC_CNT, .LEAF_RX_PAUSE_CNT,
      .LEAF_RX_PAUSE_IGNORED_CNT, .FLAP_FLUSH_CNT, .LEAF_LINK_DOWN_CNT, .LEAF_FEC_CORR_SYM_CNT,
      .LEAF_FEC_CORR_CW_CNT, .LEAF_FEC_UNCORR_CW_CNT, .PARSE_MAL_CNT, .PARSE_RULE_DROP_CNT, .PARSE_TRAP_CNT,
      .PARSE_RULE_PARITY_CNT, .PARSE_EDIT_SKIP_CNT, .PARSE_EDIT_OVERSIZE_CNT, .PARSE_EDIT_PARITY_CNT,
      .TBL_L2_MISS_DROP_CNT, .TBL_L3_MISS_DROP_CNT, .TBL_TTL_EXPIRE_CNT, .TBL_MISS_TRAP_CNT, .TBL_MAC_DROP_CNT,
      .TBL_NH_INVALID_DROP_CNT, .TBL_PARITY_DROP_CNT, .TBL_NH_DROP_CNT, .TBL_STATIC_MOVE_CNT,
      .TBL_LAG_EMPTY_DROP_CNT, .TBL_ECMP_EMPTY_DROP_CNT, .TBL_PARITY_CNT, .LEARN_DEFER_CNT, .TBL_WRITE_ERR_CNT,
      .XBAR_RX_OVERRUN_CNT, .XBAR_ABORT_CNT, .BUF_FREE_CNT, .BUF_DOUBLE_FREE_CNT, .TM_POLICE_DROP_CNT,
      .TM_DEST_LIMIT_DROP_CNT, .SKY_NO_PEER_DROP_CNT, .SKY_PAIR_TX_CELL_CNT, .HOST_RING_UNDELIVERED_CNT,
      .RX_NOBUF_CNT, .HOST_RX_CPL_FULL_DROP_CNT, .HOST_RX_RING_DOWN_DROP_CNT, .HOST_RX_DROP_CNT, .MIR_COPY_CNT,
      .MIR_DELIVER_CNT, .MIR_POL_DROP_CNT, .MIR_HOST_DROP_CNT, .MIR_ABORT_CNT, .MIR_SAMPLE_CNT,
      .MIR_SAMPLE_DROP_CNT, .HLT_RECORD_SUPPRESS_CNT, .HLT_LASTING_CNT, .SYS_HEADLESS_HOST_DROP_CNT,
      .CTL_INT_MERGE_CNT, .CTL_DRAM_CORR_CNT, .CTL_DRAM_UNCORR_CNT, .IDL_POL_REFUSE_CNT, .IDL_TRAP_POL_DROP_CNT]⟩
  | .pauseFrameRx .. =>
    ⟨[.out, .ctl, .host, .hlt, .cls, .tbl, .leaf, .xbar, .tm, .sky],
     [.LEAF_PAUSE_STATUS, .SKY_SEQ_NEXT, .HOST_RING_CTRL, .HOST_RING_STATUS, .HOST_RING_HEAD, .HOST_CPL_STATUS,
      .HLT_LEDGER_STATUS, .HLT_WIN_STATUS, .HLT_WIN_LANES, .CTL_INT_PEND],
     [.LEAF_RX_FRAME_CNT, .LEAF_RX_BYTE_CNT, .LEAF_RX_CODE_ERR_CNT, .LEAF_RX_RUNT_CNT, .LEAF_RX_OVERSIZE_CNT,
      .LEAF_RX_FCS_ERR_CNT, .LEAF_RX_TRUNC_CNT, .LEAF_RX_PFC_CNT, .LEAF_RX_PAUSE_CNT, .LEAF_RX_PAUSE_IGNORED_CNT,
      .PARSE_MAL_CNT, .PARSE_RULE_DROP_CNT, .PARSE_TRAP_CNT, .PARSE_RULE_PARITY_CNT, .PARSE_EDIT_SKIP_CNT,
      .PARSE_EDIT_OVERSIZE_CNT, .PARSE_EDIT_PARITY_CNT, .TBL_L2_MISS_DROP_CNT, .TBL_L3_MISS_DROP_CNT,
      .TBL_TTL_EXPIRE_CNT, .TBL_MISS_TRAP_CNT, .TBL_MAC_DROP_CNT, .TBL_NH_INVALID_DROP_CNT, .TBL_PARITY_DROP_CNT,
      .TBL_NH_DROP_CNT, .TBL_STATIC_MOVE_CNT, .TBL_LAG_EMPTY_DROP_CNT, .TBL_ECMP_EMPTY_DROP_CNT, .TBL_PARITY_CNT,
      .LEARN_DEFER_CNT, .TBL_WRITE_ERR_CNT, .XBAR_RX_OVERRUN_CNT, .XBAR_ABORT_CNT, .TM_POLICE_DROP_CNT,
      .TM_DEST_LIMIT_DROP_CNT, .SKY_NO_PEER_DROP_CNT, .SKY_PAIR_TX_CELL_CNT, .HOST_RING_UNDELIVERED_CNT,
      .RX_NOBUF_CNT, .HOST_RX_CPL_FULL_DROP_CNT, .HOST_RX_RING_DOWN_DROP_CNT, .HOST_RX_DROP_CNT, .MIR_COPY_CNT,
      .MIR_DELIVER_CNT, .MIR_POL_DROP_CNT, .MIR_HOST_DROP_CNT, .MIR_SAMPLE_CNT, .MIR_SAMPLE_DROP_CNT,
      .HLT_RECORD_SUPPRESS_CNT, .HLT_LASTING_CNT, .SYS_HEADLESS_HOST_DROP_CNT, .CTL_INT_MERGE_CNT,
      .CTL_DRAM_CORR_CNT, .CTL_DRAM_UNCORR_CNT, .IDL_POL_REFUSE_CNT, .IDL_TRAP_POL_DROP_CNT]⟩
  | .pauseExpiry .. | .pauseWdHoldoffEnd .. =>
    ⟨[.leaf],
     [.LEAF_PAUSE_STATUS],
     []⟩
  | .pauseFrameTx .. =>
    ⟨[.out, .leaf],
     [],
     [.LEAF_TX_PFC_CNT, .LEAF_TX_PAUSE_CNT]⟩
  | .pauseWatchdog .. =>
    ⟨[.host, .hlt, .leaf],
     [.LEAF_PAUSE_STATUS],
     [.LEAF_PAUSE_WD_CNT]⟩
  | .portTxStart .. =>
    ⟨[.host, .hlt, .tbl, .leaf, .buf, .tm],
     [.BUF_POOL_FREE, .BUF_POOL_ALLOC, .BUF_POOL_QUAR, .BUF_POOL_RSV, .TM_PORT_CREDIT, .TM_Q_CREDIT, .TM_Q_DEPTH,
      .SKY_RELAY_OUT, .HOST_CPL_STATUS, .HLT_LEDGER_STATUS, .HLT_WIN_STATUS, .HLT_WIN_LANES],
     [.LEAF_TX_OVERSIZE_CNT, .PARSE_EGR_RULE_DROP_CNT, .PARSE_RULE_PARITY_CNT, .PARSE_EDIT_SKIP_CNT,
      .PARSE_EDIT_PARITY_CNT, .TBL_STATIC_MOVE_CNT, .TBL_PARITY_CNT, .LEARN_DEFER_CNT, .TBL_WRITE_ERR_CNT,
      .XBAR_EGR_LOOKUP_WAIT_CNT, .BUF_FREE_CNT, .BUF_DOUBLE_FREE_CNT, .BUF_QUAR_CNT, .BUF_ONDIE_CRC_DROP_CNT,
      .TM_ECN_MARK_CNT, .TM_ECN_NOT_ECT_CNT, .HOST_RING_UNDELIVERED_CNT, .MIR_COPY_CNT, .HLT_RECORD_SUPPRESS_CNT,
      .HLT_LASTING_CNT]⟩
  | .leafTxComplete .. =>
    ⟨[.out, .ctl, .host, .hlt, .cls, .leaf, .xbar, .buf, .tm, .sky],
     [.LEAF_PAUSE_STATUS, .LEAF_CT_STATUS, .BUF_POOL_FREE, .BUF_POOL_ALLOC, .BUF_POOL_QUAR, .BUF_POOL_RSV,
      .TM_PORT_CREDIT, .TM_Q_CREDIT, .TM_Q_DEPTH, .SKY_RELAY_OUT, .SKY_SEQ_NEXT, .HOST_RING_CTRL, .HOST_RING_STATUS,
      .HOST_RING_HEAD, .HOST_CPL_STATUS, .HLT_LEDGER_STATUS, .HLT_WIN_STATUS, .HLT_WIN_LANES, .CTL_INT_PEND],
     [.LEAF_TX_FRAME_CNT, .LEAF_TX_BYTE_CNT, .LEAF_TX_UNDERRUN_CNT, .LEAF_TX_STOMP_CNT, .LEAF_TX_OVERSIZE_CNT,
      .TBL_WRITE_ERR_CNT, .BUF_FREE_CNT, .BUF_DOUBLE_FREE_CNT, .BUF_QUAR_CNT, .BUF_ONDIE_CRC_DROP_CNT,
      .TM_DEST_LIMIT_DROP_CNT, .SKY_NO_PEER_DROP_CNT, .SKY_PAIR_TX_CELL_CNT, .HOST_RING_UNDELIVERED_CNT,
      .RX_NOBUF_CNT, .HOST_RX_CPL_FULL_DROP_CNT, .HOST_RX_RING_DOWN_DROP_CNT, .HOST_RX_DROP_CNT, .MIR_DELIVER_CNT,
      .MIR_POL_DROP_CNT, .MIR_HOST_DROP_CNT, .MIR_ABORT_CNT, .HLT_RECORD_SUPPRESS_CNT, .HLT_LASTING_CNT,
      .SYS_HEADLESS_HOST_DROP_CNT, .CTL_INT_MERGE_CNT, .CTL_DRAM_CORR_CNT, .CTL_DRAM_UNCORR_CNT, .IDL_POL_REFUSE_CNT]⟩
  | .ctStartDecay .. =>
    ⟨[.leaf],
     [.LEAF_CT_STATUS],
     []⟩
  | .doze .. | .wake .. =>
    ⟨[.out, .sys, .ctl, .host, .hlt, .cls, .tbl, .leaf, .xbar, .tm, .sky],
     [.LEAF_PORT_STATUS, .LEAF_PAUSE_STATUS, .SKY_SEQ_NEXT, .HOST_RING_CTRL, .HOST_RING_STATUS, .HOST_RING_HEAD,
      .HOST_CPL_STATUS, .HLT_LEDGER_STATUS, .HLT_WIN_STATUS, .HLT_WIN_LANES, .CTL_INT_PEND, .SYS_ACCESS_FAULT,
      .SYS_ACCESS_FAULT_ADDR],
     [.LEAF_RX_CODE_ERR_CNT, .LEAF_RX_RUNT_CNT, .LEAF_RX_OVERSIZE_CNT, .LEAF_RX_FCS_ERR_CNT, .LEAF_RX_TRUNC_CNT,
      .LEAF_WAKE_CNT, .PARSE_MAL_CNT, .PARSE_RULE_DROP_CNT, .PARSE_TRAP_CNT, .PARSE_RULE_PARITY_CNT,
      .PARSE_EDIT_SKIP_CNT, .PARSE_EDIT_OVERSIZE_CNT, .PARSE_EDIT_PARITY_CNT, .TBL_L2_MISS_DROP_CNT,
      .TBL_L3_MISS_DROP_CNT, .TBL_TTL_EXPIRE_CNT, .TBL_MISS_TRAP_CNT, .TBL_MAC_DROP_CNT, .TBL_NH_INVALID_DROP_CNT,
      .TBL_PARITY_DROP_CNT, .TBL_NH_DROP_CNT, .TBL_STATIC_MOVE_CNT, .TBL_LAG_EMPTY_DROP_CNT,
      .TBL_ECMP_EMPTY_DROP_CNT, .TBL_PARITY_CNT, .LEARN_DEFER_CNT, .TBL_WRITE_ERR_CNT, .XBAR_RX_OVERRUN_CNT,
      .XBAR_ABORT_CNT, .TM_POLICE_DROP_CNT, .TM_DEST_LIMIT_DROP_CNT, .SKY_NO_PEER_DROP_CNT, .SKY_PAIR_TX_CELL_CNT,
      .HOST_RING_UNDELIVERED_CNT, .RX_NOBUF_CNT, .HOST_RX_CPL_FULL_DROP_CNT, .HOST_RX_RING_DOWN_DROP_CNT,
      .HOST_RX_DROP_CNT, .MIR_COPY_CNT, .MIR_DELIVER_CNT, .MIR_POL_DROP_CNT, .MIR_HOST_DROP_CNT,
      .HLT_RECORD_SUPPRESS_CNT, .HLT_LASTING_CNT, .SYS_ACCESS_FAULT_CNT, .SYS_HEADLESS_HOST_DROP_CNT,
      .CTL_INT_MERGE_CNT, .CTL_DRAM_CORR_CNT, .CTL_DRAM_UNCORR_CNT, .IDL_POL_REFUSE_CNT, .IDL_TRAP_POL_DROP_CNT]⟩
  | .wakePatternDetect .. =>
    ⟨[.leaf],
     [.LEAF_PORT_STATUS],
     [.LEAF_WAKE_CNT]⟩
  | .ruleKey .. | .ruleMask .. | .ruleAction .. =>
    ⟨[.host, .cls],
     [.HOST_CPL_STATUS],
     [.PARSE_STAGE_DISCARD_CNT, .TBL_WRITE_ERR_CNT, .HOST_RING_UNDELIVERED_CNT]⟩
  | .ruleValid .. | .editWrite .. | .templateWrite .. =>
    ⟨[.host, .cls],
     [.HOST_CPL_STATUS],
     [.TBL_WRITE_ERR_CNT, .HOST_RING_UNDELIVERED_CNT]⟩
  | .macInsert .. | .hostInsert .. | .lpmInsert .. =>
    ⟨[.host, .hlt, .tbl],
     [.HOST_CPL_STATUS, .HLT_LEDGER_STATUS, .HLT_WIN_STATUS, .HLT_WIN_LANES],
     [.TBL_PARITY_CNT, .TBL_INSERT_CNT, .TBL_WRITE_ERR_CNT, .TBL_MOVE_CNT, .HOST_RING_UNDELIVERED_CNT,
      .HLT_RECORD_SUPPRESS_CNT, .HLT_LASTING_CNT]⟩
  | .macDelete .. | .hostDelete .. | .lpmDelete .. =>
    ⟨[.host, .hlt, .tbl],
     [.HOST_CPL_STATUS, .HLT_LEDGER_STATUS, .HLT_WIN_STATUS, .HLT_WIN_LANES],
     [.TBL_PARITY_CNT, .TBL_DELETE_CNT, .TBL_WRITE_ERR_CNT, .HOST_RING_UNDELIVERED_CNT, .HLT_RECORD_SUPPRESS_CNT,
      .HLT_LASTING_CNT]⟩
  | .filterWrite .. | .nhWrite .. | .ecmpWrite .. | .memberWrite .. | .lagWrite .. | .learnAck .. =>
    ⟨[.host, .tbl],
     [.HOST_CPL_STATUS],
     [.TBL_WRITE_ERR_CNT, .HOST_RING_UNDELIVERED_CNT]⟩
  | .dump .. | .txDescriptor .. =>
    ⟨[.host],
     [.HOST_CPL_STATUS],
     [.TBL_WRITE_ERR_CNT, .HOST_RING_UNDELIVERED_CNT]⟩
  | .dumpRecord =>
    ⟨[.out, .sys, .ctl, .host, .hlt, .cls, .tm],
     [.HOST_RING_CTRL, .HOST_RING_STATUS, .HOST_RING_TAIL, .HOST_CPL_STATUS, .HLT_LEDGER_STATUS, .HLT_WIN_STATUS,
      .HLT_WIN_LANES, .CTL_INT_PEND],
     [.TBL_WRITE_ERR_CNT, .HOST_RING_UNDELIVERED_CNT, .HLT_RECORD_SUPPRESS_CNT, .HLT_LASTING_CNT,
      .SYS_HEADLESS_NOTIFY_DROP_CNT, .CTL_INT_MERGE_CNT, .CTL_DRAM_CORR_CNT, .CTL_DRAM_UNCORR_CNT,
      .IDL_POL_REFUSE_CNT]⟩
  | .learnNotify =>
    ⟨[.out, .sys, .ctl, .host, .hlt, .tbl],
     [.HOST_RING_CTRL, .HOST_RING_STATUS, .HOST_RING_TAIL, .HOST_CPL_STATUS, .HLT_LEDGER_STATUS, .HLT_WIN_STATUS,
      .HLT_WIN_LANES, .CTL_INT_PEND],
     [.TBL_LEARN_NOTIFY_CNT, .HOST_RING_UNDELIVERED_CNT, .HLT_RECORD_SUPPRESS_CNT, .HLT_LASTING_CNT,
      .SYS_HEADLESS_NOTIFY_DROP_CNT, .CTL_INT_MERGE_CNT, .CTL_DRAM_CORR_CNT, .CTL_DRAM_UNCORR_CNT,
      .IDL_POL_REFUSE_CNT]⟩
  | .learnHoldExpiry =>
    ⟨[.tbl],
     [],
     [.TBL_LEARN_EXPIRE_CNT]⟩
  | .ageSweepVisit =>
    ⟨[.out, .sys, .ctl, .host, .hlt, .tbl],
     [.TBL_AGE_STATUS, .HOST_RING_CTRL, .HOST_RING_STATUS, .HOST_RING_TAIL, .HOST_CPL_STATUS, .HLT_LEDGER_STATUS,
      .HLT_WIN_STATUS, .HLT_WIN_LANES, .CTL_INT_PEND],
     [.TBL_PARITY_CNT, .TBL_AGE_REMOVE_CNT, .TBL_AGE_NOTICE_CNT, .TBL_AGE_STALL_CNT, .HOST_RING_UNDELIVERED_CNT,
      .HLT_RECORD_SUPPRESS_CNT, .HLT_LASTING_CNT, .SYS_HEADLESS_NOTIFY_DROP_CNT, .CTL_INT_MERGE_CNT,
      .CTL_DRAM_CORR_CNT, .CTL_DRAM_UNCORR_CNT, .IDL_POL_REFUSE_CNT]⟩
  | .tblClearStart .. =>
    ⟨[.sys, .ctl, .tbl],
     [.TBL_CLEAR_CTRL, .SYS_ACCESS_FAULT, .SYS_ACCESS_FAULT_ADDR],
     [.SYS_ACCESS_FAULT_CNT]⟩
  | .tblClearDone =>
    ⟨[.tbl],
     [.TBL_CLEAR_CTRL],
     []⟩
  | .xbarCellSend .. =>
    ⟨[.host, .hlt, .xbar, .buf],
     [.BUF_POOL_FREE, .BUF_POOL_ALLOC, .HOST_CPL_STATUS],
     [.TBL_WRITE_ERR_CNT, .XBAR_IN_CELL_CNT, .BUF_FREE_CNT, .BUF_DOUBLE_FREE_CNT, .HOST_RING_UNDELIVERED_CNT,
      .MIR_DELIVER_CNT]⟩
  | .xbarMatch .. =>
    ⟨[.xbar],
     [],
     []⟩
  | .xbarCellArrive .. =>
    ⟨[.host, .hlt, .leaf, .xbar, .buf, .tm],
     [.XBAR_PLANE_STATUS, .XBAR_PLANE_FAULT, .BUF_POOL_FREE, .BUF_POOL_ALLOC, .BUF_POOL_QUAR, .BUF_POOL_RSV,
      .TM_Q_DEPTH, .SKY_RELAY_OUT, .HOST_CPL_STATUS, .HLT_LEDGER_STATUS, .HLT_WIN_STATUS, .HLT_WIN_LANES],
     [.LEAF_TX_INACTIVE_DROP_CNT, .LEAF_TX_DOZE_DROP_CNT, .LEAF_TX_DOWN_DROP_CNT, .TBL_WRITE_ERR_CNT,
      .XBAR_OUT_CELL_CNT, .XBAR_RESEQ_DISCARD_CNT, .XBAR_CELL_LOSS_CNT, .XBAR_PLANE_CELL_CNT, .XBAR_TAG_CORR_CNT,
      .XBAR_TAG_UNCORR_CNT, .XBAR_CELL_ERR_CNT, .BUF_ALLOC_CNT, .BUF_FREE_CNT, .BUF_NOBUF_CNT, .BUF_ALLOC_WAIT_CNT,
      .BUF_DOUBLE_FREE_CNT, .BUF_BITMAP_ERR_CNT, .BUF_QUAR_CNT, .BUF_NOBUF_DROP_CNT, .BUF_NOBUF_CELL_DROP_CNT,
      .TM_QLIMIT_DROP_CNT, .TM_DYN_DROP_CNT, .TM_QLIMIT_CELL_DROP_CNT, .TM_DYN_CELL_DROP_CNT, .TM_ECN_MARK_CNT,
      .HOST_RING_UNDELIVERED_CNT, .HLT_RECORD_SUPPRESS_CNT, .HLT_ABORT_DISCARD_CNT, .HLT_LASTING_CNT]⟩
  | .xbarReseqTimeout .. =>
    ⟨[.host, .hlt, .leaf, .xbar, .buf, .tm],
     [.BUF_POOL_FREE, .BUF_POOL_ALLOC, .BUF_POOL_RSV, .TM_Q_DEPTH, .SKY_RELAY_OUT, .HOST_CPL_STATUS],
     [.LEAF_TX_INACTIVE_DROP_CNT, .LEAF_TX_DOZE_DROP_CNT, .LEAF_TX_DOWN_DROP_CNT, .TBL_WRITE_ERR_CNT,
      .XBAR_OUT_CELL_CNT, .XBAR_RESEQ_DISCARD_CNT, .XBAR_RESEQ_TIMEOUT_CNT, .BUF_ALLOC_CNT, .BUF_FREE_CNT,
      .BUF_NOBUF_CNT, .BUF_ALLOC_WAIT_CNT, .BUF_DOUBLE_FREE_CNT, .BUF_NOBUF_DROP_CNT, .BUF_NOBUF_CELL_DROP_CNT,
      .TM_QLIMIT_DROP_CNT, .TM_DYN_DROP_CNT, .TM_QLIMIT_CELL_DROP_CNT, .TM_DYN_CELL_DROP_CNT, .TM_ECN_MARK_CNT,
      .HOST_RING_UNDELIVERED_CNT, .HLT_ABORT_DISCARD_CNT]⟩
  | .xbarPlaneDrained .. =>
    ⟨[],
     [.XBAR_PLANE_STATUS],
     []⟩
  | .xbarFaultClear .. =>
    ⟨[.ctl, .xbar],
     [.XBAR_PLANE_STATUS, .XBAR_PLANE_FAULT],
     []⟩
  | .bufCarve .. =>
    ⟨[.sys, .ctl, .buf],
     [.BUF_CARVE_CTRL, .BUF_CARVE_STATUS, .BUF_POOL_FREE, .BUF_POOL_ALLOC, .BUF_POOL_QUAR, .SYS_ACCESS_FAULT,
      .SYS_ACCESS_FAULT_ADDR],
     [.SYS_ACCESS_FAULT_CNT]⟩
  | .bufCarveDone =>
    ⟨[],
     [.BUF_CARVE_STATUS],
     []⟩
  | .spillUnit .. =>
    ⟨[.host, .hlt, .leaf, .buf, .tm],
     [.BUF_POOL_FREE, .BUF_POOL_ALLOC, .BUF_POOL_QUAR, .BUF_POOL_RSV, .TM_Q_DEPTH, .SKY_RELAY_OUT, .HOST_CPL_STATUS,
      .HLT_LEDGER_STATUS, .HLT_WIN_STATUS, .HLT_WIN_LANES],
     [.TBL_WRITE_ERR_CNT, .BUF_ALLOC_CNT, .BUF_FREE_CNT, .BUF_NOBUF_CNT, .BUF_ALLOC_WAIT_CNT, .BUF_DOUBLE_FREE_CNT,
      .BUF_BITMAP_ERR_CNT, .BUF_QUAR_CNT, .BUF_ONDIE_CRC_DROP_CNT, .BUF_ONDIE_CRC_CELL_CNT, .BUF_SPILL_UNIT_CNT,
      .BUF_SPILL_NOBUF_CNT, .HOST_RING_UNDELIVERED_CNT, .HLT_RECORD_SUPPRESS_CNT, .HLT_LASTING_CNT]⟩
  | .spillUnitClose .. =>
    ⟨[.leaf, .tm],
     [.TM_Q_DEPTH],
     []⟩
  | .refillUnit .. =>
    ⟨[.host, .hlt, .leaf, .buf, .tm],
     [.BUF_POOL_FREE, .BUF_POOL_ALLOC, .BUF_POOL_QUAR, .BUF_POOL_RSV, .TM_Q_DEPTH, .SKY_RELAY_OUT, .HOST_CPL_STATUS,
      .HLT_LEDGER_STATUS, .HLT_WIN_STATUS, .HLT_WIN_LANES],
     [.TBL_WRITE_ERR_CNT, .BUF_ALLOC_CNT, .BUF_FREE_CNT, .BUF_ALLOC_WAIT_CNT, .BUF_DOUBLE_FREE_CNT,
      .BUF_BITMAP_ERR_CNT, .BUF_QUAR_CNT, .BUF_HBM_CRC_DROP_CNT, .BUF_HBM_CRC_CELL_CNT, .BUF_REFILL_UNIT_CNT,
      .BUF_REFILL_WAIT_CNT, .HOST_RING_UNDELIVERED_CNT, .HLT_RECORD_SUPPRESS_CNT, .HLT_LASTING_CNT]⟩
  | .scrubVisit .. =>
    ⟨[.host, .hlt, .buf],
     [.BUF_SCRUB_STATUS, .BUF_RETIRE_STATUS, .BUF_POOL_FREE, .BUF_POOL_ALLOC, .BUF_POOL_QUAR, .BUF_RETIRE,
      .HLT_LEDGER_STATUS, .HLT_WIN_STATUS, .HLT_WIN_LANES],
     [.BUF_ALLOC_CNT, .BUF_FREE_CNT, .BUF_NOBUF_CNT, .BUF_ALLOC_WAIT_CNT, .BUF_DOUBLE_FREE_CNT, .BUF_BITMAP_ERR_CNT,
      .BUF_QUAR_CNT, .BUF_QUAR_RELEASE_CNT, .BUF_RETIRE_CNT, .HLT_RECORD_SUPPRESS_CNT, .HLT_LASTING_CNT]⟩
  | .shaperRefresh .. =>
    ⟨[.tm],
     [.TM_PORT_CREDIT, .TM_Q_CREDIT],
     []⟩
  | .policerRefresh .. =>
    ⟨[.tm],
     [],
     []⟩
  | .wxSample =>
    ⟨[.out, .sys, .ctl, .host, .hlt, .tm],
     [.TM_WX_STATUS, .HOST_RING_CTRL, .HOST_RING_STATUS, .HOST_RING_TAIL, .HOST_CPL_STATUS, .HLT_LEDGER_STATUS,
      .HLT_WIN_STATUS, .HLT_WIN_LANES, .CTL_INT_PEND],
     [.TM_WX_RECORD_CNT, .TM_WX_DROP_CNT, .HOST_RING_UNDELIVERED_CNT, .HLT_RECORD_SUPPRESS_CNT, .HLT_LASTING_CNT,
      .SYS_HEADLESS_NOTIFY_DROP_CNT, .CTL_INT_MERGE_CNT, .CTL_DRAM_CORR_CNT, .CTL_DRAM_UNCORR_CNT,
      .IDL_POL_REFUSE_CNT]⟩
  | .skyCtrlWrite .. =>
    ⟨[.regs, .ctl, .host, .hlt, .time, .leaf, .xbar, .buf, .tm, .sky],
     [.BUF_POOL_FREE, .BUF_POOL_ALLOC, .TM_Q_DEPTH, .SKY_CTRL, .SKY_STATE, .SKY_ANNOUNCE, .SKY_ANNOUNCE_APPLY_LO,
      .SKY_ANNOUNCE_APPLY_HI, .SKY_LANE_ALARM, .SKY_CREDIT_HELD, .SKY_RELAY_OUT, .SKYT_STATUS, .SKYT_LEASE,
      .SKYT_LEASE_END_LO, .SKYT_LEASE_END_HI],
     [.BUF_FREE_CNT, .BUF_DOUBLE_FREE_CNT, .SKY_CREDIT_FORFEIT_CNT, .SKY_PEER_LOSS_CELL_CNT,
      .SKY_STATE_FLUSH_CELL_CNT, .SKY_PAIR_LOST_CNT, .SKY_PAIR_FRAME_DISCARD_CNT, .SKYT_RELEASE_CNT]⟩
  | .skyTxEnWrite .. =>
    ⟨[.sys, .ctl],
     [.SKY_TX_EN, .SKY_STATE, .SYS_ACCESS_FAULT, .SYS_ACCESS_FAULT_ADDR],
     [.SYS_ACCESS_FAULT_CNT]⟩
  | .laneEnWrite .. =>
    ⟨[.sys, .ctl, .leaf, .xbar, .tm, .sky],
     [.TM_Q_DEPTH, .SKY_LANE_EN, .SKY_CREDIT_HELD, .SYS_ACCESS_FAULT, .SYS_ACCESS_FAULT_ADDR],
     [.SKY_LANE_MOVE_CELL_CNT, .SYS_ACCESS_FAULT_CNT]⟩
  | .mapArm .. =>
    ⟨[.sys, .ctl, .sky],
     [.SKY_MAP_STATUS, .SYS_ACCESS_FAULT, .SYS_ACCESS_FAULT_ADDR],
     [.SYS_ACCESS_FAULT_CNT]⟩
  | .mapArmCheckDone =>
    ⟨[.sky],
     [.SKY_MAP_STATUS, .SKY_MAP_ERR_ADDR],
     [.SKY_MAP_ARM_REFUSE_CNT]⟩
  | .mapDisarm .. =>
    ⟨[.ctl, .sky],
     [.SKY_MAP_STATUS],
     [.SKY_MAP_APPLY_CNT]⟩
  | .mapApply =>
    ⟨[.sky],
     [.SKY_MAP_STATUS],
     [.SKY_MAP_APPLY_CNT]⟩
  | .epochStart .. =>
    ⟨[.regs, .host, .hlt, .time, .sky],
     [.SKY_STATE, .SKY_MAP_STATUS, .SKY_LANE_ALARM, .SKY_JOIN_EPOCH_LO, .SKY_JOIN_EPOCH_HI, .SKYT_RATE,
      .SKYT_OFFSET, .SKYT_LEASE, .SKYT_LEASE_END_LO, .SKYT_LEASE_END_HI, .SKYT_DIAG_STATUS, .SKYT_LANE_DELAY],
     [.SKY_MAP_APPLY_CNT, .SKY_DARK_EPOCH_CNT, .SKY_JOIN_CNT, .SKY_TX_SLIP_CNT, .SKYT_TAKEOVER_CNT,
      .SKYT_RELEASE_CNT, .SKYT_DIAG_FAIL_CNT]⟩
  | .syncSlotTx .. =>
    ⟨[.free, .out, .sky],
     [],
     [.SKY_TX_BURST_CNT]⟩
  | .slotFill .. =>
    ⟨[.leaf, .xbar, .tm, .sky],
     [.TM_Q_DEPTH, .SKY_CREDIT_HELD],
     [.SKY_LANE_MOVE_CELL_CNT]⟩
  | .dataSlotTx .. =>
    ⟨[.out, .host, .hlt, .leaf, .buf, .tm, .sky],
     [.BUF_POOL_FREE, .BUF_POOL_ALLOC, .BUF_POOL_QUAR, .TM_Q_DEPTH, .SKY_CREDIT_HELD, .SKY_RELAY_OUT,
      .HLT_LEDGER_STATUS, .HLT_WIN_STATUS, .HLT_WIN_LANES],
     [.BUF_FREE_CNT, .BUF_DOUBLE_FREE_CNT, .BUF_QUAR_CNT, .BUF_ONDIE_CRC_CELL_CNT, .SKY_NO_PEER_SLOT_CNT,
      .SKY_TX_NJ_CNT, .SKY_TX_PJ_CNT, .SKY_TX_BURST_CNT, .SKY_TX_CELL_CNT, .SKY_TX_RELAY_CELL_CNT,
      .SKY_RELAY_FWD_CELL_CNT, .HLT_RECORD_SUPPRESS_CNT, .HLT_LASTING_CNT]⟩
  | .skyBurstRx .. =>
    ⟨[.host, .hlt, .time, .leaf, .xbar, .buf, .tm, .sky],
     [.BUF_POOL_FREE, .BUF_POOL_ALLOC, .BUF_POOL_QUAR, .BUF_POOL_RSV, .TM_Q_DEPTH, .SKY_STATE, .SKY_ANNOUNCE,
      .SKY_ANNOUNCE_APPLY_LO, .SKY_ANNOUNCE_APPLY_HI, .SKY_PEER, .SKY_STRANGER_SRC, .SKY_LANE_ALARM,
      .SKY_LANE_RXLOS, .SKY_CREDIT_HELD, .SKY_RELAY_OUT, .SKYT_STATUS, .SKYT_LEASE, .SKYT_LEASE_END_LO,
      .SKYT_LEASE_END_HI, .SKYT_LANE_DELAY, .HLT_LEDGER_STATUS, .HLT_WIN_STATUS, .HLT_WIN_LANES],
     [.BUF_ALLOC_CNT, .BUF_FREE_CNT, .BUF_NOBUF_CNT, .BUF_ALLOC_WAIT_CNT, .BUF_DOUBLE_FREE_CNT, .BUF_BITMAP_ERR_CNT,
      .BUF_QUAR_CNT, .BUF_RX_NOBUF_CELL_CNT, .SKY_HELLO_MISMATCH_CNT, .SKY_RX_MAP_MISMATCH_CNT, .SKY_RX_BURST_CNT,
      .SKY_RX_NOSYNC_CNT, .SKY_RX_HDR_ERR_CNT, .SKY_RX_FORMAT_ERR_CNT, .SKY_RX_LANE_ERR_CNT, .SKY_RX_TIMING_ERR_CNT,
      .SKY_RX_STRANGER_CELL_CNT, .SKY_RX_CELL_ERR_CNT, .SKY_RX_JUST_ERR_CNT, .SKY_RX_DESKEW_DROP_CNT,
      .SKY_RX_SYNCFRAME_ERR_CNT, .SKY_RX_NJ_CNT, .SKY_RX_PJ_CNT, .SKY_RX_SLIP_CNT, .SKY_RX_CELL_CNT,
      .SKY_RX_MISDIRECT_CNT, .SKY_LANE_COLL_CNT, .SKY_LANE_NOISE_CNT, .SKY_LANE_FEC_CORR_SYM_CNT, .SKY_SRC_COLL_CNT,
      .SKY_SRC_NOISE_CNT, .SKY_CREDIT_RECOVER_CNT, .SKY_RELAY_CELL_LOST_CNT, .SKY_CREDIT_FORFEIT_CNT,
      .SKY_PEER_LOSS_CELL_CNT, .SKY_PAIR_LOST_CNT, .SKY_PAIR_FRAME_DISCARD_CNT, .SKYT_RELEASE_CNT,
      .SKYT_HOLDER_CONFLICT_CNT, .SKYT_LULL_LIMIT_CNT, .HLT_LEDGER_FAULT_CNT, .HLT_RECORD_SUPPRESS_CNT,
      .HLT_LASTING_CNT]⟩
  | .deskewRelease =>
    ⟨[.host, .hlt, .leaf, .xbar, .buf, .tm, .sky],
     [.BUF_POOL_FREE, .BUF_POOL_ALLOC, .SKY_RELAY_OUT],
     [.BUF_FREE_CNT, .BUF_DOUBLE_FREE_CNT, .SKY_RELAY_OVER_CREDIT_CNT, .SKY_RELAY_NOROUTE_CNT,
      .SKY_PAIR_RX_CELL_CNT, .SKY_PAIR_LOST_CNT, .SKY_PAIR_LATE_CNT, .SKY_PAIR_DUP_CNT, .SKY_PAIR_FORCE_CNT,
      .SKY_PAIR_FRAME_CNT, .SKY_PAIR_FRAME_DISCARD_CNT, .SKY_PAIR_FORMAT_DISCARD_CNT]⟩
  | .reseqHorizonExpiry .. =>
    ⟨[.host, .hlt, .leaf, .xbar, .buf, .tm, .sky],
     [.BUF_POOL_FREE, .BUF_POOL_ALLOC, .SKY_RELAY_OUT],
     [.BUF_FREE_CNT, .BUF_DOUBLE_FREE_CNT, .SKY_PAIR_LOST_CNT, .SKY_PAIR_FRAME_CNT, .SKY_PAIR_FRAME_DISCARD_CNT,
      .SKY_PAIR_FORMAT_DISCARD_CNT]⟩
  | .peerTimeout .. =>
    ⟨[.host, .hlt, .leaf, .xbar, .buf, .tm, .sky],
     [.BUF_POOL_FREE, .BUF_POOL_ALLOC, .TM_Q_DEPTH, .SKY_PEER, .SKY_CREDIT_HELD, .SKY_RELAY_OUT],
     [.BUF_FREE_CNT, .BUF_DOUBLE_FREE_CNT, .SKY_CREDIT_FORFEIT_CNT, .SKY_PEER_LOSS_CELL_CNT, .SKY_PAIR_LOST_CNT,
      .SKY_PAIR_FRAME_DISCARD_CNT]⟩
  | .laneTxFault .. =>
    ⟨[.host, .hlt, .leaf, .xbar, .tm, .sky],
     [.TM_Q_DEPTH, .SKY_LANE_FAULT, .SKY_CREDIT_HELD],
     [.SKY_LANE_TXFAULT_CNT, .SKY_LANE_MOVE_CELL_CNT]⟩
  | .laneRxlos .. =>
    ⟨[.host, .hlt],
     [.SKY_LANE_RXLOS],
     [.SKY_LANE_RXLOS_CNT]⟩
  | .joinStep =>
    ⟨[.host, .hlt, .time, .sky],
     [.SKY_MAP_STATUS, .SKYT_STATUS, .SKYT_RATE, .SKYT_OFFSET],
     [.SKYT_STEP_CNT]⟩
  | .foundReadySet =>
    ⟨[],
     [.SKYT_STATUS],
     []⟩
  | .foundStep .. =>
    ⟨[.sys, .ctl, .host, .hlt, .time, .sky],
     [.SKY_MAP_STATUS, .SKYT_STATUS, .SKYT_RATE, .SKYT_OFFSET, .SYS_ACCESS_FAULT, .SYS_ACCESS_FAULT_ADDR],
     [.SKYT_STEP_CNT, .SKYT_STEP_REFUSED_CNT, .SYS_ACCESS_FAULT_CNT]⟩
  | .leaseTakeover =>
    ⟨[.hlt, .time],
     [.SKYT_LEASE, .SKYT_LEASE_END_LO, .SKYT_LEASE_END_HI],
     [.SKYT_TAKEOVER_CNT]⟩
  | .leaseRenew =>
    ⟨[.time],
     [.SKYT_LEASE, .SKYT_LEASE_END_LO, .SKYT_LEASE_END_HI],
     []⟩
  | .leaseLapse =>
    ⟨[.hlt, .time],
     [.SKYT_LEASE, .SKYT_LEASE_END_LO, .SKYT_LEASE_END_HI],
     [.SKYT_RELEASE_CNT]⟩
  | .takeoverCheck =>
    ⟨[.host, .hlt, .time],
     [.SKYT_STATUS, .SKYT_LEASE, .SKYT_LEASE_END_LO, .SKYT_LEASE_END_HI],
     [.SKYT_TAKEOVER_FAIL_CNT, .SKYT_RELEASE_CNT]⟩
  | .lullEntry =>
    ⟨[],
     [.SKYT_STATUS],
     [.SKYT_LULL_CNT]⟩
  | .lullLimit =>
    ⟨[.host, .hlt, .time],
     [.SKY_STATE, .SKYT_STATUS],
     [.SKYT_LULL_LIMIT_CNT]⟩
  | .taiOffsetWrite .. =>
    ⟨[.ctl, .time],
     [.SKYT_TAI_OFFSET_HI],
     []⟩
  | .keeperRestart .. =>
    ⟨[.out, .ctl, .hlt, .pwr, .nvm],
     [.CTL_INT_PEND, .KEEP_MBOX_DATA, .KEEP_MBOX_CMD, .KEEP_STATUS],
     [.CTL_INT_MERGE_CNT, .KEEP_RESTART_CNT, .KEEP_MBOX_CMD_CNT]⟩
  | .mboxStatus .. | .mboxReadShedOrder .. | .mboxReadLog .. | .mboxSetFirstAdmin .. =>
    ⟨[.out, .ctl],
     [.CTL_INT_PEND, .KEEP_MBOX_DATA, .KEEP_MBOX_CMD],
     [.CTL_INT_MERGE_CNT, .KEEP_MBOX_CMD_CNT]⟩
  | .mboxCommitShedOrder .. =>
    ⟨[.out, .ctl, .pwr],
     [.CTL_INT_PEND, .PWR_SHED_ORDER, .KEEP_MBOX_DATA, .KEEP_MBOX_CMD],
     [.CTL_INT_MERGE_CNT, .KEEP_MBOX_CMD_CNT, .NVM_FLASH_ERR_CNT]⟩
  | .mboxAppReset .. =>
    ⟨[.free, .out, .sys, .ctl, .host, .hlt, .pwr, .nvm],
     [.HOST_RING_CTRL, .HOST_RING_STATUS, .HOST_CPL_STATUS, .HLT_LEDGER_STATUS, .HLT_WIN_STATUS, .HLT_WIN_LANES,
      .CTL_INT_PEND, .KEEP_MBOX_DATA, .KEEP_MBOX_CMD, .NVM_BOOT_SEL, .NVM_STATUS, .SYS_PLANE_STATE,
      .SYS_RESET_STATUS],
     [.HOST_RING_UNDELIVERED_CNT, .HLT_RECORD_SUPPRESS_CNT, .HLT_LASTING_CNT, .CTL_INT_MERGE_CNT,
      .CTL_DRAM_CORR_CNT, .CTL_DRAM_UNCORR_CNT, .KEEP_MBOX_CMD_CNT, .NVM_COMMIT_FAIL_CNT]⟩
  | .redfishRequest .. =>
    ⟨[.out, .ctl],
     [],
     [.KEEP_REDFISH_REQ_CNT, .KEEP_REDFISH_AUTH_FAIL_CNT]⟩
  | .redfishGracefulRestart .. =>
    ⟨[.free, .out, .sys, .ctl, .host, .hlt, .pwr, .nvm],
     [.HOST_RING_CTRL, .HOST_RING_STATUS, .HOST_CPL_STATUS, .HLT_LEDGER_STATUS, .HLT_WIN_STATUS, .HLT_WIN_LANES,
      .CTL_INT_PEND, .NVM_BOOT_SEL, .NVM_STATUS, .SYS_PLANE_STATE, .SYS_RESET_STATUS],
     [.HOST_RING_UNDELIVERED_CNT, .HLT_RECORD_SUPPRESS_CNT, .HLT_LASTING_CNT, .CTL_INT_MERGE_CNT,
      .CTL_DRAM_CORR_CNT, .CTL_DRAM_UNCORR_CNT, .KEEP_REDFISH_REQ_CNT, .KEEP_REDFISH_AUTH_FAIL_CNT,
      .NVM_COMMIT_FAIL_CNT]⟩
  | .updateServicePush .. =>
    ⟨[.out, .nvm],
     [.NVM_SLOT_STATUS, .NVM_STATUS],
     [.KEEP_REDFISH_REQ_CNT, .KEEP_REDFISH_AUTH_FAIL_CNT, .NVM_COMMIT_CNT]⟩
  | .ringOwnerWrite .. =>
    ⟨[.sys, .ctl],
     [.CTL_RING_OWNER, .SYS_ACCESS_FAULT, .SYS_ACCESS_FAULT_ADDR],
     [.SYS_ACCESS_FAULT_CNT]⟩
  | .pcieLinkDown =>
    ⟨[.out, .ctl, .host, .hlt],
     [.HOST_RING_CTRL, .HOST_RING_STATUS, .CTL_PCIE_STATUS, .CTL_INT_PEND],
     [.CTL_INT_MERGE_CNT, .CTL_PCIE_LINK_DOWN_CNT]⟩
  | .pcieLinkUp .. =>
    ⟨[.out, .ctl],
     [.CTL_PCIE_STATUS, .CTL_INT_PEND],
     [.CTL_INT_MERGE_CNT]⟩
  | .idlPolicerRefresh | .keyTimeout .. =>
    ⟨[.ctl],
     [],
     []⟩
  | .intPendClear .. =>
    ⟨[.out, .ctl],
     [.CTL_INT_PEND],
     [.CTL_INT_MERGE_CNT]⟩
  | .doorbell .. =>
    ⟨[.out, .sys, .ctl, .host, .hlt],
     [.HOST_RING_CTRL, .HOST_RING_STATUS, .HOST_RING_HEAD, .HOST_RING_TAIL, .HLT_LEDGER_STATUS, .HLT_WIN_STATUS,
      .HLT_WIN_LANES, .CTL_INT_PEND, .SYS_ACCESS_FAULT, .SYS_ACCESS_FAULT_ADDR],
     [.HOST_DB_REFUSE_CNT, .HLT_RECORD_SUPPRESS_CNT, .HLT_LASTING_CNT, .SYS_ACCESS_FAULT_CNT, .CTL_INT_MERGE_CNT,
      .CTL_DRAM_CORR_CNT, .CTL_DRAM_UNCORR_CNT]⟩
  | .cplDoorbell .. =>
    ⟨[.out, .ctl, .host, .hlt],
     [.HOST_RING_CTRL, .HOST_RING_STATUS, .HOST_CPL_HEAD, .CTL_INT_PEND],
     [.HOST_DB_REFUSE_CNT, .CTL_INT_MERGE_CNT]⟩
  | .ringFetch .. | .rxBufferDescriptor .. =>
    ⟨[.out, .ctl, .host, .hlt],
     [.HOST_RING_CTRL, .HOST_RING_STATUS, .HOST_RING_HEAD, .HOST_CPL_STATUS, .HLT_LEDGER_STATUS, .HLT_WIN_STATUS,
      .HLT_WIN_LANES, .CTL_INT_PEND],
     [.HOST_RING_UNDELIVERED_CNT, .HLT_RECORD_SUPPRESS_CNT, .HLT_LASTING_CNT, .CTL_INT_MERGE_CNT,
      .CTL_DRAM_CORR_CNT, .CTL_DRAM_UNCORR_CNT]⟩
  | .txFrameInject .. =>
    ⟨[.out, .ctl, .host, .hlt, .cls, .tbl, .leaf, .xbar, .tm, .sky],
     [.SKY_SEQ_NEXT, .HOST_RING_CTRL, .HOST_RING_STATUS, .HOST_RING_HEAD, .HOST_CPL_STATUS, .HLT_LEDGER_STATUS,
      .HLT_WIN_STATUS, .HLT_WIN_LANES, .CTL_INT_PEND],
     [.PARSE_MAL_CNT, .PARSE_RULE_DROP_CNT, .PARSE_TRAP_CNT, .PARSE_RULE_PARITY_CNT, .PARSE_EDIT_SKIP_CNT,
      .PARSE_EDIT_OVERSIZE_CNT, .PARSE_EDIT_PARITY_CNT, .TBL_L2_MISS_DROP_CNT, .TBL_L3_MISS_DROP_CNT,
      .TBL_TTL_EXPIRE_CNT, .TBL_MISS_TRAP_CNT, .TBL_MAC_DROP_CNT, .TBL_NH_INVALID_DROP_CNT, .TBL_PARITY_DROP_CNT,
      .TBL_NH_DROP_CNT, .TBL_STATIC_MOVE_CNT, .TBL_LAG_EMPTY_DROP_CNT, .TBL_ECMP_EMPTY_DROP_CNT, .TBL_PARITY_CNT,
      .LEARN_DEFER_CNT, .TBL_WRITE_ERR_CNT, .XBAR_ABORT_CNT, .TM_POLICE_DROP_CNT, .TM_DEST_LIMIT_DROP_CNT,
      .SKY_NO_PEER_DROP_CNT, .SKY_PAIR_TX_CELL_CNT, .HOST_RING_UNDELIVERED_CNT, .RX_NOBUF_CNT,
      .HOST_RX_CPL_FULL_DROP_CNT, .HOST_RX_RING_DOWN_DROP_CNT, .HOST_RX_DROP_CNT, .MIR_COPY_CNT, .MIR_DELIVER_CNT,
      .MIR_POL_DROP_CNT, .MIR_HOST_DROP_CNT, .HLT_RECORD_SUPPRESS_CNT, .HLT_LASTING_CNT,
      .SYS_HEADLESS_HOST_DROP_CNT, .CTL_INT_MERGE_CNT, .CTL_DRAM_CORR_CNT, .CTL_DRAM_UNCORR_CNT,
      .IDL_POL_REFUSE_CNT, .IDL_TRAP_POL_DROP_CNT]⟩
  | .completionWrite .. =>
    ⟨[.out, .ctl, .host, .hlt],
     [.HOST_RING_CTRL, .HOST_RING_STATUS, .HOST_CPL_TAIL, .HOST_CPL_STATUS, .HLT_LEDGER_STATUS, .HLT_WIN_STATUS,
      .HLT_WIN_LANES, .CTL_INT_PEND],
     [.HOST_RING_ENTRY_CNT, .HOST_RING_ERR_ENTRY_CNT, .HOST_RING_UNDELIVERED_CNT, .HLT_RECORD_SUPPRESS_CNT,
      .HLT_LASTING_CNT, .CTL_INT_MERGE_CNT, .CTL_DRAM_CORR_CNT, .CTL_DRAM_UNCORR_CNT]⟩
  | .ringEnable .. =>
    ⟨[.sys, .ctl, .host],
     [.HOST_RING_CTRL, .HOST_RING_STATUS, .HOST_RING_TAIL, .SYS_ACCESS_FAULT, .SYS_ACCESS_FAULT_ADDR],
     [.SYS_ACCESS_FAULT_CNT]⟩
  | .ringDisable .. =>
    ⟨[.ctl, .host],
     [.HOST_RING_CTRL, .HOST_RING_STATUS],
     []⟩
  | .ringIdle .. =>
    ⟨[.out, .ctl, .host, .hlt],
     [.HOST_RING_STATUS, .HLT_LEDGER_STATUS, .HLT_WIN_STATUS, .HLT_WIN_LANES, .CTL_INT_PEND],
     [.HLT_RECORD_SUPPRESS_CNT, .HLT_LASTING_CNT, .CTL_INT_MERGE_CNT, .CTL_DRAM_CORR_CNT, .CTL_DRAM_UNCORR_CNT]⟩
  | .winCfgWrite .. =>
    ⟨[.sys, .ctl],
     [.HOST_WIN_CFG, .HOST_WIN_BASE_LO, .HOST_WIN_BASE_HI, .HOST_WIN_XLATE_LO, .HOST_WIN_XLATE_HI,
      .SYS_ACCESS_FAULT, .SYS_ACCESS_FAULT_ADDR],
     [.SYS_ACCESS_FAULT_CNT]⟩
  | .notifyRecordWrite =>
    ⟨[.out, .sys, .ctl, .host, .hlt, .tm],
     [.HOST_RING_CTRL, .HOST_RING_STATUS, .HOST_RING_TAIL, .HOST_CPL_STATUS, .HLT_LEDGER_STATUS, .HLT_WIN_STATUS,
      .HLT_WIN_LANES, .CTL_INT_PEND],
     [.TM_WX_DROP_CNT, .HOST_FAULT_REC_DROP_CNT, .HOST_RING_UNDELIVERED_CNT, .HOST_CAP_DROP_CNT, .MIR_DELIVER_CNT,
      .MIR_HOST_DROP_CNT, .HLT_RECORD_SUPPRESS_CNT, .HLT_LASTING_CNT, .SYS_HEADLESS_HOST_DROP_CNT,
      .SYS_HEADLESS_NOTIFY_DROP_CNT, .CTL_INT_MERGE_CNT, .CTL_DRAM_CORR_CNT, .CTL_DRAM_UNCORR_CNT]⟩
  | .faultBacklogDeliver =>
    ⟨[.out, .ctl, .host, .hlt],
     [.HOST_RING_CTRL, .HOST_RING_STATUS, .HOST_RING_TAIL, .HOST_CPL_STATUS, .HLT_LEDGER_STATUS, .HLT_WIN_STATUS,
      .HLT_WIN_LANES, .CTL_INT_PEND],
     [.HOST_RING_UNDELIVERED_CNT, .HLT_RECORD_SUPPRESS_CNT, .HLT_LASTING_CNT, .CTL_INT_MERGE_CNT,
      .CTL_DRAM_CORR_CNT, .CTL_DRAM_UNCORR_CNT]⟩
  | .irqModTimer .. =>
    ⟨[.out, .ctl, .host],
     [.CTL_INT_PEND],
     [.CTL_INT_MERGE_CNT]⟩
  | .counterRead .. | .holdingPairRead .. =>
    ⟨[.cnts, .hold, .pairs, .free, .out, .sys, .ctl],
     [.SYS_ACCESS_FAULT, .SYS_ACCESS_FAULT_ADDR, .SYS_SNAP_STATUS],
     [.SYS_ACCESS_FAULT_CNT]⟩
  | .farReadTimeout | .msixEntryUnmask .. =>
    ⟨[.out, .ctl],
     [],
     []⟩
  | .slowWriteDone .. =>
    ⟨[.free, .sys, .leaf, .xbar, .tm, .sky],
     [.TM_Q_DEPTH, .SKY_CREDIT_HELD, .PWR_SLOW_STATUS, .PWR_RAIL_SET, .OPT_SLOW_STATUS, .OPT_LANE_BIAS],
     [.SKY_LANE_MOVE_CELL_CNT]⟩
  | .keyWrite .. =>
    ⟨[.sys, .ctl],
     [.SYS_ACCESS_FAULT, .SYS_ACCESS_FAULT_ADDR],
     [.SYS_ACCESS_FAULT_CNT]⟩
  | .updateStrobeHi .. =>
    ⟨[.sys, .ctl],
     [],
     []⟩
  | .updateStrobe .. =>
    ⟨[.regs, .out, .sys, .ctl, .host, .hlt, .cls, .tbl, .leaf, .xbar, .buf, .tm, .sky],
     [.LEAF_PORT_STATUS, .LEAF_PAUSE_STATUS, .LEAF_CT_STATUS, .XBAR_PLANE_STATUS, .BUF_CARVE_STATUS, .BUF_POOL_FREE,
      .BUF_POOL_ALLOC, .BUF_POOL_RSV, .TM_PORT_CREDIT, .TM_Q_CREDIT, .TM_Q_DEPTH, .SKY_RELAY_OUT, .SKY_SEQ_NEXT,
      .HOST_RING_CTRL, .HOST_RING_STATUS, .HOST_RING_HEAD, .HOST_CPL_STATUS, .HLT_LEDGER_STATUS, .HLT_WIN_STATUS,
      .HLT_WIN_LANES, .CTL_INT_PEND, .SYS_UPDATE_PENDING],
     [.LEAF_RX_CODE_ERR_CNT, .LEAF_RX_RUNT_CNT, .LEAF_RX_OVERSIZE_CNT, .LEAF_RX_FCS_ERR_CNT, .LEAF_RX_TRUNC_CNT,
      .LEAF_TX_LINKDOWN_ABORT_CNT, .FLAP_FLUSH_CNT, .LEAF_LINK_DOWN_CNT, .PARSE_MAL_CNT, .PARSE_RULE_DROP_CNT,
      .PARSE_TRAP_CNT, .PARSE_RULE_PARITY_CNT, .PARSE_EDIT_SKIP_CNT, .PARSE_EDIT_OVERSIZE_CNT,
      .PARSE_EDIT_PARITY_CNT, .TBL_L2_MISS_DROP_CNT, .TBL_L3_MISS_DROP_CNT, .TBL_TTL_EXPIRE_CNT, .TBL_MISS_TRAP_CNT,
      .TBL_MAC_DROP_CNT, .TBL_NH_INVALID_DROP_CNT, .TBL_PARITY_DROP_CNT, .TBL_NH_DROP_CNT, .TBL_STATIC_MOVE_CNT,
      .TBL_LAG_EMPTY_DROP_CNT, .TBL_ECMP_EMPTY_DROP_CNT, .TBL_PARITY_CNT, .LEARN_DEFER_CNT, .TBL_WRITE_ERR_CNT,
      .XBAR_RX_OVERRUN_CNT, .XBAR_ABORT_CNT, .BUF_FREE_CNT, .BUF_DOUBLE_FREE_CNT, .TM_POLICE_DROP_CNT,
      .TM_DEST_LIMIT_DROP_CNT, .SKY_NO_PEER_DROP_CNT, .SKY_PAIR_TX_CELL_CNT, .HOST_RING_UNDELIVERED_CNT,
      .RX_NOBUF_CNT, .HOST_RX_CPL_FULL_DROP_CNT, .HOST_RX_RING_DOWN_DROP_CNT, .HOST_RX_DROP_CNT, .MIR_COPY_CNT,
      .MIR_DELIVER_CNT, .MIR_POL_DROP_CNT, .MIR_HOST_DROP_CNT, .MIR_ABORT_CNT, .HLT_RECORD_SUPPRESS_CNT,
      .HLT_LASTING_CNT, .SYS_HEADLESS_HOST_DROP_CNT, .CTL_INT_MERGE_CNT, .CTL_DRAM_CORR_CNT, .CTL_DRAM_UNCORR_CNT,
      .IDL_POL_REFUSE_CNT, .IDL_TRAP_POL_DROP_CNT]⟩
  | .snapshotTake .. =>
    ⟨[.cnts, .hold, .sys, .ctl],
     [.SYS_ACCESS_FAULT, .SYS_ACCESS_FAULT_ADDR, .SYS_SNAP_CTRL, .SYS_SNAP_STATUS],
     [.SYS_ACCESS_FAULT_CNT]⟩
  | .snapshotDone =>
    ⟨[.cnts, .hold],
     [.SYS_SNAP_STATUS],
     []⟩
  | .resetKindNone .. | .coldReset .. | .warmReset .. | .appDomainReset .. | .blockReset .. =>
    ⟨[.regs, .shadow, .cnts, .hold, .pairs, .free, .out, .sys, .ctl, .host, .hlt, .pwr, .nvm, .cls, .time, .tbl,
      .leaf, .xbar, .buf, .tm, .sky],
     [.LEAF_GROUP_CFG, .LEAF_GROUP_STATUS, .LEAF_PORT_STATUS, .LEAF_PAUSE_STATUS, .BUF_RETIRE_STATUS,
      .BUF_CARVE_STATUS, .BUF_POOL_FREE, .BUF_POOL_ALLOC, .BUF_POOL_RSV, .TM_PORT_CREDIT, .TM_Q_CREDIT, .TM_Q_DEPTH,
      .SKY_STATE, .SKY_RELAY_OUT, .SKY_SEQ_NEXT, .HOST_RING_CTRL, .HOST_RING_STATUS, .HOST_RING_HEAD,
      .HOST_CPL_STATUS, .HLT_LEDGER_STATUS, .HLT_WIN_STATUS, .HLT_WIN_LANES, .CTL_INT_PEND, .IDL_STATUS,
      .PWR_STATUS, .PWR_SHED_ORDER, .NVM_SLOT_STATUS, .NVM_BOOT_SEL, .NVM_STATUS, .SYS_ACCESS_FAULT,
      .SYS_ACCESS_FAULT_ADDR, .SYS_UPDATE_PENDING, .SYS_PLANE_STATE, .SYS_RESET_STATUS, .SYS_FUSE_USER],
     [.LEAF_RX_CODE_ERR_CNT, .LEAF_RX_RUNT_CNT, .LEAF_RX_OVERSIZE_CNT, .LEAF_RX_FCS_ERR_CNT, .LEAF_RX_TRUNC_CNT,
      .LEAF_TX_LINKDOWN_ABORT_CNT, .FLAP_FLUSH_CNT, .LEAF_LINK_DOWN_CNT, .PARSE_MAL_CNT, .PARSE_RULE_DROP_CNT,
      .PARSE_TRAP_CNT, .PARSE_RULE_PARITY_CNT, .PARSE_EDIT_SKIP_CNT, .PARSE_EDIT_OVERSIZE_CNT,
      .PARSE_EDIT_PARITY_CNT, .TBL_L2_MISS_DROP_CNT, .TBL_L3_MISS_DROP_CNT, .TBL_TTL_EXPIRE_CNT, .TBL_MISS_TRAP_CNT,
      .TBL_MAC_DROP_CNT, .TBL_NH_INVALID_DROP_CNT, .TBL_PARITY_DROP_CNT, .TBL_NH_DROP_CNT, .TBL_STATIC_MOVE_CNT,
      .TBL_LAG_EMPTY_DROP_CNT, .TBL_ECMP_EMPTY_DROP_CNT, .TBL_PARITY_CNT, .LEARN_DEFER_CNT, .TBL_WRITE_ERR_CNT,
      .XBAR_RX_OVERRUN_CNT, .XBAR_ABORT_CNT, .BUF_FREE_CNT, .BUF_DOUBLE_FREE_CNT, .TM_POLICE_DROP_CNT,
      .TM_DEST_LIMIT_DROP_CNT, .SKY_NO_PEER_DROP_CNT, .SKY_PAIR_TX_CELL_CNT, .HOST_RING_UNDELIVERED_CNT,
      .RX_NOBUF_CNT, .HOST_RX_CPL_FULL_DROP_CNT, .HOST_RX_RING_DOWN_DROP_CNT, .HOST_RX_DROP_CNT, .MIR_COPY_CNT,
      .MIR_DELIVER_CNT, .MIR_POL_DROP_CNT, .MIR_HOST_DROP_CNT, .MIR_ABORT_CNT, .HLT_RECORD_SUPPRESS_CNT,
      .HLT_LASTING_CNT, .SYS_ACCESS_FAULT_CNT, .SYS_HEADLESS_HOST_DROP_CNT, .CTL_INT_MERGE_CNT, .CTL_DRAM_CORR_CNT,
      .CTL_DRAM_UNCORR_CNT, .IDL_POL_REFUSE_CNT, .IDL_TRAP_POL_DROP_CNT, .NVM_COMMIT_FAIL_CNT]⟩
  | .fuseBlow .. =>
    ⟨[.sys, .ctl],
     [.SYS_ACCESS_FAULT, .SYS_ACCESS_FAULT_ADDR, .SYS_FUSE_STATUS],
     [.SYS_ACCESS_FAULT_CNT]⟩
  | .fuseBlowDone .. =>
    ⟨[.sys, .nvm],
     [.SYS_FUSE_STATUS, .SYS_FUSE_USER],
     []⟩
  | .railSetWrite .. =>
    ⟨[.sys, .ctl],
     [.PWR_SLOW_STATUS, .SYS_ACCESS_FAULT, .SYS_ACCESS_FAULT_ADDR],
     [.SYS_ACCESS_FAULT_CNT]⟩
  | .optLaneBiasWrite .. =>
    ⟨[.sys, .ctl],
     [.SYS_ACCESS_FAULT, .SYS_ACCESS_FAULT_ADDR, .OPT_SLOW_STATUS],
     [.SYS_ACCESS_FAULT_CNT]⟩
  | .powerOn .. | .duskRestart .. =>
    ⟨[.regs, .shadow, .cnts, .tot, .hold, .pairs, .free, .sys, .ctl, .host, .hlt, .pwr, .nvm, .cls, .time, .tbl,
      .leaf, .xbar, .buf, .tm, .sky],
     [.BUF_RETIRE_STATUS, .BUF_CARVE_STATUS, .IDL_STATUS, .PWR_STATUS, .PWR_INPUT, .PWR_THERMAL, .PWR_SHED_ORDER,
      .PWR_SENSOR, .KEEP_STATUS, .NVM_SLOT_STATUS, .NVM_BOOT_SEL, .SYS_RESET_STATUS, .SYS_FUSE_USER],
     [.PWR_MAINS_LOSS_CNT, .PWR_DUSK_CNT, .PWR_DUSK_INCOMPLETE_CNT, .PWR_TRIP_CNT]⟩
  | .railFault .. =>
    ⟨[.regs, .shadow, .cnts, .hold, .pairs, .free, .out, .sys, .ctl, .host, .hlt, .pwr, .nvm, .cls, .time, .tbl,
      .leaf, .xbar, .buf, .tm, .sky],
     [.BUF_RETIRE_STATUS, .BUF_CARVE_STATUS, .TM_Q_DEPTH, .SKY_STATE, .SKY_CREDIT_HELD, .HLT_LEDGER_STATUS,
      .HLT_WIN_STATUS, .HLT_WIN_LANES, .CTL_INT_PEND, .IDL_STATUS, .PWR_STATUS, .KEEP_STATUS, .NVM_STATUS,
      .SYS_FUSE_USER, .OPT_LANE_BIAS],
     [.SKY_LANE_MOVE_CELL_CNT, .HLT_RECORD_SUPPRESS_CNT, .HLT_LASTING_CNT, .CTL_INT_MERGE_CNT, .CTL_DRAM_CORR_CNT,
      .CTL_DRAM_UNCORR_CNT, .PWR_RAIL_FAULT_CNT, .NVM_COMMIT_FAIL_CNT]⟩
  | .railRetry =>
    ⟨[.out, .ctl, .pwr],
     [.CTL_INT_PEND, .PWR_STATUS, .KEEP_STATUS],
     [.CTL_INT_MERGE_CNT]⟩
  | .thermalEvaluation .. =>
    ⟨[.out, .ctl, .host, .hlt, .pwr, .cls, .tbl, .leaf, .xbar, .buf, .tm, .sky],
     [.LEAF_PORT_STATUS, .LEAF_PAUSE_STATUS, .BUF_CARVE_STATUS, .BUF_POOL_FREE, .BUF_POOL_ALLOC, .BUF_POOL_RSV,
      .TM_PORT_CREDIT, .TM_Q_CREDIT, .TM_Q_DEPTH, .SKY_CREDIT_HELD, .SKY_RELAY_OUT, .SKY_SEQ_NEXT, .HOST_RING_CTRL,
      .HOST_RING_STATUS, .HOST_RING_HEAD, .HOST_CPL_STATUS, .HLT_LEDGER_STATUS, .HLT_WIN_STATUS, .HLT_WIN_LANES,
      .CTL_INT_PEND, .PWR_STATUS, .PWR_INPUT, .PWR_THERMAL, .PWR_SENSOR, .KEEP_STATUS],
     [.LEAF_RX_CODE_ERR_CNT, .LEAF_RX_RUNT_CNT, .LEAF_RX_OVERSIZE_CNT, .LEAF_RX_FCS_ERR_CNT, .LEAF_RX_TRUNC_CNT,
      .LEAF_TX_LINKDOWN_ABORT_CNT, .FLAP_FLUSH_CNT, .LEAF_LINK_DOWN_CNT, .PARSE_MAL_CNT, .PARSE_RULE_DROP_CNT,
      .PARSE_TRAP_CNT, .PARSE_RULE_PARITY_CNT, .PARSE_EDIT_SKIP_CNT, .PARSE_EDIT_OVERSIZE_CNT,
      .PARSE_EDIT_PARITY_CNT, .TBL_L2_MISS_DROP_CNT, .TBL_L3_MISS_DROP_CNT, .TBL_TTL_EXPIRE_CNT, .TBL_MISS_TRAP_CNT,
      .TBL_MAC_DROP_CNT, .TBL_NH_INVALID_DROP_CNT, .TBL_PARITY_DROP_CNT, .TBL_NH_DROP_CNT, .TBL_STATIC_MOVE_CNT,
      .TBL_LAG_EMPTY_DROP_CNT, .TBL_ECMP_EMPTY_DROP_CNT, .TBL_PARITY_CNT, .LEARN_DEFER_CNT, .TBL_WRITE_ERR_CNT,
      .XBAR_RX_OVERRUN_CNT, .XBAR_ABORT_CNT, .BUF_FREE_CNT, .BUF_DOUBLE_FREE_CNT, .TM_POLICE_DROP_CNT,
      .TM_DEST_LIMIT_DROP_CNT, .SKY_NO_PEER_DROP_CNT, .SKY_LANE_MOVE_CELL_CNT, .SKY_PAIR_TX_CELL_CNT,
      .HOST_RING_UNDELIVERED_CNT, .RX_NOBUF_CNT, .HOST_RX_CPL_FULL_DROP_CNT, .HOST_RX_RING_DOWN_DROP_CNT,
      .HOST_RX_DROP_CNT, .MIR_COPY_CNT, .MIR_DELIVER_CNT, .MIR_POL_DROP_CNT, .MIR_HOST_DROP_CNT, .MIR_ABORT_CNT,
      .HLT_RECORD_SUPPRESS_CNT, .HLT_LASTING_CNT, .SYS_HEADLESS_HOST_DROP_CNT, .CTL_INT_MERGE_CNT,
      .CTL_DRAM_CORR_CNT, .CTL_DRAM_UNCORR_CNT, .IDL_POL_REFUSE_CNT, .IDL_TRAP_POL_DROP_CNT, .PWR_STEEP_CNT,
      .PWR_SIMMER1_CNT, .PWR_SIMMER2_CNT, .PWR_POWER_LIMIT_CNT]⟩
  | .powerLimitClear =>
    ⟨[],
     [.PWR_STATUS],
     []⟩
  | .steepTimeout =>
    ⟨[.hlt, .pwr],
     [],
     [.PWR_STEEP_TIMEOUT_CNT]⟩
  | .thermalTrip .. | .dusk .. =>
    ⟨[.free, .out, .ctl, .host, .hlt, .pwr, .nvm, .leaf, .xbar, .tm, .sky],
     [.TM_Q_DEPTH, .SKY_STATE, .SKY_CREDIT_HELD, .HLT_LEDGER_STATUS, .HLT_WIN_STATUS, .HLT_WIN_LANES, .CTL_INT_PEND,
      .PWR_STATUS, .KEEP_STATUS, .NVM_STATUS, .OPT_LANE_BIAS],
     [.SKY_LANE_MOVE_CELL_CNT, .HLT_RECORD_SUPPRESS_CNT, .HLT_LASTING_CNT, .CTL_INT_MERGE_CNT, .CTL_DRAM_CORR_CNT,
      .CTL_DRAM_UNCORR_CNT, .NVM_COMMIT_FAIL_CNT]⟩
  | .mainsLoss .. =>
    ⟨[.free, .out, .ctl, .host, .hlt, .pwr, .nvm, .leaf, .xbar, .tm, .sky],
     [.TM_Q_DEPTH, .SKY_STATE, .SKY_CREDIT_HELD, .HLT_LEDGER_STATUS, .HLT_WIN_STATUS, .HLT_WIN_LANES, .CTL_INT_PEND,
      .PWR_STATUS, .KEEP_STATUS, .NVM_STATUS, .OPT_LANE_BIAS],
     [.SKY_LANE_MOVE_CELL_CNT, .HLT_RECORD_SUPPRESS_CNT, .HLT_LASTING_CNT, .CTL_INT_MERGE_CNT, .CTL_DRAM_CORR_CNT,
      .CTL_DRAM_UNCORR_CNT, .PWR_MAINS_LOSS_CNT, .NVM_COMMIT_FAIL_CNT]⟩
  | .duskForwardStop =>
    ⟨[.out, .host, .hlt, .pwr, .leaf, .buf, .tm],
     [.BUF_POOL_FREE, .BUF_POOL_ALLOC, .BUF_POOL_RSV, .TM_PORT_CREDIT, .TM_Q_CREDIT, .TM_Q_DEPTH, .SKY_RELAY_OUT,
      .HOST_CPL_STATUS, .PWR_STATUS],
     [.LEAF_TX_LINKDOWN_ABORT_CNT, .TBL_WRITE_ERR_CNT, .BUF_FREE_CNT, .BUF_DOUBLE_FREE_CNT,
      .HOST_RING_UNDELIVERED_CNT, .MIR_ABORT_CNT]⟩
  | .duskCheckpointDone =>
    ⟨[.regs, .shadow, .cnts, .hold, .pairs, .free, .sys, .ctl, .host, .hlt, .pwr, .nvm, .cls, .time, .tbl, .leaf,
      .xbar, .buf, .tm, .sky],
     [.BUF_RETIRE_STATUS, .BUF_CARVE_STATUS, .IDL_STATUS, .PWR_STATUS, .PWR_SHED_ORDER, .KEEP_STATUS,
      .NVM_SLOT_STATUS, .NVM_BOOT_SEL, .SYS_FUSE_USER],
     [.PWR_DUSK_CNT, .PWR_DUSK_INCOMPLETE_CNT]⟩
  | .counterCheckpoint =>
    ⟨[.pwr],
     [],
     []⟩
  | .faultLogWrite .. =>
    ⟨[.hlt],
     [],
     [.NVM_FLASH_ERR_CNT]⟩
  | .quietAssert =>
    ⟨[.out, .ctl, .host, .hlt, .pwr, .cls, .tbl, .leaf, .xbar, .buf, .tm, .sky],
     [.LEAF_PORT_STATUS, .LEAF_PAUSE_STATUS, .BUF_POOL_FREE, .BUF_POOL_ALLOC, .BUF_POOL_RSV, .TM_PORT_CREDIT,
      .TM_Q_CREDIT, .TM_Q_DEPTH, .SKY_TX_EN, .SKY_STATE, .SKY_RELAY_OUT, .SKY_SEQ_NEXT, .HOST_RING_CTRL,
      .HOST_RING_STATUS, .HOST_RING_HEAD, .HOST_CPL_STATUS, .HLT_LEDGER_STATUS, .HLT_WIN_STATUS, .HLT_WIN_LANES,
      .CTL_INT_PEND, .PWR_STATUS],
     [.LEAF_RX_CODE_ERR_CNT, .LEAF_RX_RUNT_CNT, .LEAF_RX_OVERSIZE_CNT, .LEAF_RX_FCS_ERR_CNT, .LEAF_RX_TRUNC_CNT,
      .LEAF_TX_LINKDOWN_ABORT_CNT, .FLAP_FLUSH_CNT, .LEAF_LINK_DOWN_CNT, .PARSE_MAL_CNT, .PARSE_RULE_DROP_CNT,
      .PARSE_TRAP_CNT, .PARSE_RULE_PARITY_CNT, .PARSE_EDIT_SKIP_CNT, .PARSE_EDIT_OVERSIZE_CNT,
      .PARSE_EDIT_PARITY_CNT, .TBL_L2_MISS_DROP_CNT, .TBL_L3_MISS_DROP_CNT, .TBL_TTL_EXPIRE_CNT, .TBL_MISS_TRAP_CNT,
      .TBL_MAC_DROP_CNT, .TBL_NH_INVALID_DROP_CNT, .TBL_PARITY_DROP_CNT, .TBL_NH_DROP_CNT, .TBL_STATIC_MOVE_CNT,
      .TBL_LAG_EMPTY_DROP_CNT, .TBL_ECMP_EMPTY_DROP_CNT, .TBL_PARITY_CNT, .LEARN_DEFER_CNT, .TBL_WRITE_ERR_CNT,
      .XBAR_RX_OVERRUN_CNT, .XBAR_ABORT_CNT, .BUF_FREE_CNT, .BUF_DOUBLE_FREE_CNT, .TM_POLICE_DROP_CNT,
      .TM_DEST_LIMIT_DROP_CNT, .SKY_NO_PEER_DROP_CNT, .SKY_PAIR_TX_CELL_CNT, .HOST_RING_UNDELIVERED_CNT,
      .RX_NOBUF_CNT, .HOST_RX_CPL_FULL_DROP_CNT, .HOST_RX_RING_DOWN_DROP_CNT, .HOST_RX_DROP_CNT, .MIR_COPY_CNT,
      .MIR_DELIVER_CNT, .MIR_POL_DROP_CNT, .MIR_HOST_DROP_CNT, .MIR_ABORT_CNT, .HLT_RECORD_SUPPRESS_CNT,
      .HLT_LASTING_CNT, .SYS_HEADLESS_HOST_DROP_CNT, .CTL_INT_MERGE_CNT, .CTL_DRAM_CORR_CNT, .CTL_DRAM_UNCORR_CNT,
      .IDL_POL_REFUSE_CNT, .IDL_TRAP_POL_DROP_CNT, .PWR_QUIET_CNT]⟩
  | .quietRelease =>
    ⟨[.pwr, .leaf],
     [.PWR_STATUS],
     []⟩
  | .fixtureResetRelease .. =>
    ⟨[.regs, .shadow, .cnts, .tot, .hold, .pairs, .free, .out, .sys, .ctl, .host, .hlt, .pwr, .nvm, .cls, .time,
      .tbl, .leaf, .xbar, .buf, .tm, .sky],
     [.BUF_RETIRE_STATUS, .BUF_CARVE_STATUS, .BUF_POOL_FREE, .BUF_POOL_ALLOC, .BUF_POOL_RSV, .TM_PORT_CREDIT,
      .TM_Q_CREDIT, .TM_Q_DEPTH, .SKY_STATE, .SKY_RELAY_OUT, .HOST_CPL_STATUS, .HLT_LEDGER_STATUS, .HLT_WIN_STATUS,
      .HLT_WIN_LANES, .IDL_STATUS, .PWR_STATUS, .PWR_INPUT, .PWR_THERMAL, .PWR_SHED_ORDER, .PWR_SENSOR,
      .KEEP_STATUS, .NVM_SLOT_STATUS, .NVM_BOOT_SEL, .NVM_STATUS, .SYS_ACCESS_FAULT, .SYS_ACCESS_FAULT_ADDR,
      .SYS_RESET_STATUS, .SYS_FUSE_USER],
     [.LEAF_TX_LINKDOWN_ABORT_CNT, .TBL_WRITE_ERR_CNT, .BUF_FREE_CNT, .BUF_DOUBLE_FREE_CNT,
      .HOST_RING_UNDELIVERED_CNT, .MIR_ABORT_CNT, .HLT_RECORD_SUPPRESS_CNT, .HLT_LASTING_CNT, .SYS_ACCESS_FAULT_CNT,
      .CTL_DRAM_CORR_CNT, .CTL_DRAM_UNCORR_CNT, .PWR_MAINS_LOSS_CNT, .PWR_DUSK_CNT, .PWR_DUSK_INCOMPLETE_CNT,
      .PWR_TRIP_CNT, .NVM_COMMIT_FAIL_CNT]⟩
  | .recoveryHold =>
    ⟨[.pwr, .nvm],
     [.NVM_BOOT_SEL],
     []⟩
  | .boot .. =>
    ⟨[.pwr, .nvm],
     [.NVM_SLOT_STATUS, .NVM_BOOT_SEL, .SYS_RUN_STATE],
     [.NVM_TRIAL_REVERT_CNT, .NVM_BOOT_FAIL_CNT]⟩
  | .dfuImageLoad .. =>
    ⟨[.free, .host, .hlt, .nvm],
     [.HLT_LEDGER_STATUS, .HLT_WIN_STATUS, .HLT_WIN_LANES, .NVM_SLOT_STATUS, .NVM_BOOT_SEL, .NVM_STATUS],
     [.HLT_RECORD_SUPPRESS_CNT, .HLT_LASTING_CNT, .CTL_DRAM_CORR_CNT, .CTL_DRAM_UNCORR_CNT, .NVM_COMMIT_CNT,
      .NVM_COMMIT_FAIL_CNT]⟩
  | .trialExpiry =>
    ⟨[.free, .out, .sys, .ctl, .host, .hlt, .pwr, .nvm],
     [.HOST_RING_CTRL, .HOST_RING_STATUS, .HOST_CPL_STATUS, .HLT_LEDGER_STATUS, .HLT_WIN_STATUS, .HLT_WIN_LANES,
      .CTL_INT_PEND, .NVM_BOOT_SEL, .NVM_STATUS, .SYS_PLANE_STATE, .SYS_RESET_STATUS],
     [.HOST_RING_UNDELIVERED_CNT, .HLT_RECORD_SUPPRESS_CNT, .HLT_LASTING_CNT, .CTL_INT_MERGE_CNT,
      .CTL_DRAM_CORR_CNT, .CTL_DRAM_UNCORR_CNT, .NVM_COMMIT_FAIL_CNT]⟩
  | .keeperFwLoad .. | .keeperFwFallback =>
    ⟨[.out, .ctl, .pwr, .nvm],
     [.SKY_TX_EN, .SKY_STATE, .CTL_INT_PEND, .PWR_STATUS, .KEEP_STATUS, .NVM_SLOT_STATUS],
     [.CTL_INT_MERGE_CNT, .PWR_QUIET_CNT]⟩
  | .nvmRead .. =>
    ⟨[.nvm],
     [.NVM_STATUS],
     [.NVM_READ_CNT]⟩
  | .nvmWrite .. =>
    ⟨[.nvm],
     [.NVM_STATUS],
     [.NVM_WRITE_CNT]⟩
  | .imageCommit .. =>
    ⟨[.nvm],
     [.NVM_SLOT_STATUS, .NVM_STATUS],
     [.NVM_COMMIT_CNT]⟩
  | .switch .. | .confirm .. =>
    ⟨[.nvm],
     [.NVM_BOOT_SEL, .NVM_STATUS],
     []⟩
  | .cfgCommit .. =>
    ⟨[.nvm],
     [.NVM_SLOT_STATUS, .NVM_STATUS],
     [.NVM_CFG_COMMIT_CNT]⟩
  | .run .. =>
    ⟨[],
     [.NVM_STATUS, .SYS_RUN_STATE],
     []⟩
  | .abort .. =>
    ⟨[.free, .host, .hlt, .nvm],
     [.HLT_LEDGER_STATUS, .HLT_WIN_STATUS, .HLT_WIN_LANES, .NVM_STATUS],
     [.HLT_RECORD_SUPPRESS_CNT, .HLT_LASTING_CNT, .CTL_DRAM_CORR_CNT, .CTL_DRAM_UNCORR_CNT, .NVM_COMMIT_FAIL_CNT]⟩
  | .nvmOpComplete .. =>
    ⟨[.free, .host, .hlt, .nvm],
     [.HLT_LEDGER_STATUS, .HLT_WIN_STATUS, .HLT_WIN_LANES, .NVM_SLOT_STATUS, .NVM_STATUS],
     [.HLT_RECORD_SUPPRESS_CNT, .HLT_LASTING_CNT, .CTL_DRAM_CORR_CNT, .CTL_DRAM_UNCORR_CNT, .NVM_COMMIT_FAIL_CNT,
      .NVM_FLASH_ERR_CNT]⟩
  | .bootSelWrite =>
    ⟨[.nvm],
     [],
     []⟩
  | .windowBucketEnd .. =>
    ⟨[.hlt],
     [.HLT_WIN_STATUS, .HLT_WIN_LANES],
     []⟩
  | .ledgerCheck =>
    ⟨[.host, .hlt],
     [.HLT_LEDGER_STATUS],
     [.HLT_CHECK_CNT, .HLT_LEDGER_FAULT_CNT, .HLT_REBASE_CNT, .HLT_RECORD_SUPPRESS_CNT]⟩
  | .excuseExpiry =>
    ⟨[.hlt],
     [.HLT_LEDGER_STATUS],
     []⟩
  | .hltRebase .. =>
    ⟨[.ctl, .hlt],
     [],
     []⟩
  | .ovenOscillatorReady =>
    ⟨[.regs, .host, .hlt, .time, .leaf, .xbar, .buf, .tm, .sky],
     [.BUF_POOL_FREE, .BUF_POOL_ALLOC, .TM_Q_DEPTH, .SKY_STATE, .SKY_ANNOUNCE, .SKY_ANNOUNCE_APPLY_LO,
      .SKY_ANNOUNCE_APPLY_HI, .SKY_LANE_ALARM, .SKY_CREDIT_HELD, .SKY_RELAY_OUT, .SKYT_STATUS, .SKYT_LEASE,
      .SKYT_LEASE_END_LO, .SKYT_LEASE_END_HI, .PWR_STATUS],
     [.BUF_FREE_CNT, .BUF_DOUBLE_FREE_CNT, .SKY_CREDIT_FORFEIT_CNT, .SKY_PEER_LOSS_CELL_CNT,
      .SKY_STATE_FLUSH_CELL_CNT, .SKY_PAIR_LOST_CNT, .SKY_PAIR_FRAME_DISCARD_CNT, .SKYT_RELEASE_CNT]⟩
  | .busCollapse =>
    ⟨[.regs, .shadow, .cnts, .hold, .pairs, .free, .sys, .ctl, .host, .hlt, .pwr, .nvm, .cls, .time, .tbl, .leaf,
      .xbar, .buf, .tm, .sky],
     [.BUF_RETIRE_STATUS, .BUF_CARVE_STATUS, .HLT_LEDGER_STATUS, .HLT_WIN_STATUS, .HLT_WIN_LANES, .IDL_STATUS,
      .PWR_STATUS, .PWR_SHED_ORDER, .KEEP_STATUS, .NVM_SLOT_STATUS, .NVM_BOOT_SEL, .NVM_STATUS, .SYS_FUSE_USER],
     [.HLT_RECORD_SUPPRESS_CNT, .HLT_LASTING_CNT, .CTL_DRAM_CORR_CNT, .CTL_DRAM_UNCORR_CNT, .NVM_COMMIT_FAIL_CNT]⟩
  | .hostMemoryError .. =>
    ⟨[.out, .host, .hlt],
     [.HLT_LEDGER_STATUS, .HLT_WIN_STATUS, .HLT_WIN_LANES],
     [.HLT_RECORD_SUPPRESS_CNT, .HLT_LASTING_CNT, .CTL_DRAM_CORR_CNT, .CTL_DRAM_UNCORR_CNT]⟩

end Sys2Proof.Machine
end

