-- ==== Sys2Proof/Certificates/Slice0/Obligations.lean ====
section
/-!
DEFINITION. The statements for the provers. Each is about every state that meets its premises, not only states that a run
reaches. `completes c s P` says that the command answers a next state of which P holds; `s.Only t areas regs counters` is
its frame: nothing else changes.
-/
open Sys2Proof Sys2Proof.Machine

/-! ### Every command -/

/-- A step takes the command at the front of the queue and runs it with the queue's rest; where no command waits one core clock
passes: the time advances by one clock, the time counter by ten units scaled by the rate (R256), and the queue stays empty.
What a step does on an empty queue is the model's choice (log 2). -/
def Obligations.StepRunsTheFrontCommand : Prop :=
  (∀ (s : State) (c : Instr) (rest : List Instr), s.pending = c :: rest → step s = exec c { s with pending := rest })
  ∧ (∀ s : State, s.pending = [] → ∃ t, step s = .next t ∧ t.now = s.now + 1 ∧ t.pending = []
    ∧ (t.time.ts : Int) = ((s.time.ts : Int) + 10 * (2 ^ 48 + sgn 32 (s.reg .SKYT_RATE).toNat)) % 2 ^ 112
    ∧ t.host = s.host ∧ t.pwr = s.pwr ∧ t.nvm = s.nvm ∧ t.cls = s.cls ∧ t.leaf = s.leaf ∧ t.buf = s.buf ∧ t.tm = s.tm
    ∧ t.tbl = { s.tbl with stallAt := t.tbl.stallAt })

/-- Every command, whatever its operands and the state, completes: no command ends in a fault or a refusal. -/
def Obligations.EveryCommandCompletes : Prop :=
  ∀ (c : Instr) (s : State), ∃ t, exec c s = .next t

/-- The frame of every command: it changes no area, no register and no counter but those that `touches` names for it, and in
particular neither the time nor the commands that wait. -/
def Obligations.EveryCommandFrame : Prop :=
  ∀ (c : Instr) (s t : State), s.Sound → exec c s = .next t →
    s.Changes t (touches c).areas (touches c).regs (touches c).cnts ∧ t.now = s.now ∧ t.pending = s.pending

/-- The state right after reset is sound and waits for power (R385, R402): nothing is up, no command waits, no memory is written,
every register holds its reset value, and no counter has counted. -/
def Obligations.ResetState : Prop :=
  State.reset.Sound ∧ State.reset.pending = [] ∧ State.reset.pwr.seq = .off ∧ State.reset.pwr.keeperUp = false
  ∧ State.reset.pwr.stopped = true ∧ State.reset.host.mem = [] ∧ (∀ q, SMap.get? State.reset.cnts q = none)
  ∧ (∀ (r : Reg) (i j : Nat), State.reset.reg r i j = r.resetOf i j)
  ∧ (∀ r : Fin 172, ringEn State.reset r = false ∧ headOf State.reset r = 0 ∧ tailOf State.reset r = 0)
  ∧ (∀ p < 256, portUp State.reset p = false) ∧ skyState State.reset = 0

/-- Every step keeps the state sound: memories stay canonical, and every register file, counter file, table and queue lists each
key once, in rising order. -/
def Obligations.EveryStepKeepsSound : Prop :=
  ∀ s t : State, s.Sound → step s = .next t → t.Sound

/-! ### Headless and the inter-die link (chapter 1) -/

/-- R25 to R27, R314: a requested entry stops every ring, leaves every HEAD, and shows `HEADLESS` with cause 1 only once every
ring shows idle; the application-domain reset message enters with cause 2 and a loss of training above 10 µs with cause 3:
every ring that was ever enabled stops at once and discards what it can no longer write. A die that is already headless
ignores the message, but for one that became headless with a lower cause in the same register clock: `CAUSE` records the higher
one (log 66). While the link is down the message waits (log 17). -/
def Obligations.HeadlessEntry : Prop :=
  (∀ (s : State) (a : Agent), s.Sound → linked s → s.flag .SYS_PLANE_STATE_HEADLESS = false →
    completes (.headlessReq a) s fun t =>
      t.sys.headlessReq = true ∧ t.flag .SYS_PLANE_STATE_HEADLESS = false
      ∧ ∀ r < 172, ringEn t r = false ∧ headOf t r = headOf s r ∧ (ringOf t r).units = (ringOf s r).units)
  ∧ (∀ s : State, s.Sound → s.sys.headlessReq = true → allIdle s = true →
    completes .headlessEntryComplete s fun t =>
      t.flag .SYS_PLANE_STATE_HEADLESS = true ∧ t.fld .SYS_PLANE_STATE_CAUSE = 1 ∧ t.sys.headlessReq = false)
  ∧ (∀ s : State, allIdle s = false → exec .headlessEntryComplete s = .next s)
  ∧ (∀ s : State, s.Sound → linked s → s.flag .SYS_PLANE_STATE_HEADLESS = false →
    completes .appResetMessage s fun t =>
      t.flag .SYS_PLANE_STATE_HEADLESS = true ∧ t.fld .SYS_PLANE_STATE_CAUSE = 2
      ∧ ∀ r < 172, headOf t r = headOf s r ∧ ((ringOf s r).everEn = true → ringEn t r = false ∧ (ringOf t r).quiet = true))
  ∧ (∀ (s : State) (e : Nat), s.Sound → s.ctl.idlDownAt = some e → e + 16000 < s.now →
    s.flag .SYS_PLANE_STATE_HEADLESS = false →
    completes .idlLossTimeout s fun t =>
      t.flag .SYS_PLANE_STATE_HEADLESS = true ∧ t.fld .SYS_PLANE_STATE_CAUSE = 3
      ∧ ∀ r < 172, headOf t r = headOf s r ∧ ((ringOf s r).everEn = true → ringEn t r = false ∧ (ringOf t r).quiet = true))
  ∧ (∀ s : State, s.Sound → linked s → s.flag .SYS_PLANE_STATE_HEADLESS = true → s.sys.headlessAt ≠ some s.regClk →
    completes .appResetMessage s fun t => s.Only t [.ctl] [] [])
  ∧ (∀ s : State, s.Sound → linked s → s.flag .SYS_PLANE_STATE_HEADLESS = true → s.sys.headlessAt = some s.regClk →
    completes .appResetMessage s fun t =>
      t.flag .SYS_PLANE_STATE_HEADLESS = true ∧ t.fld .SYS_PLANE_STATE_CAUSE = max 2 (s.fld .SYS_PLANE_STATE_CAUSE))
  ∧ (∀ s : State, s.flag .SYS_PLANE_STATE_IDL_UP = false →
    exec .appResetMessage s = .next { s with ctl := { s.ctl with heldReset := true } })

/-- R29: the exit is accepted while the link is up; `CAUSE` keeps its value and the backlog its records. Then the oldest
records of the backlog meet their kind policer and go to their ring; where it does not take them, weather records are counted as
dropped, fault and time-step records pass to the fault backlog, and age and dump records wait at the head. -/
def Obligations.HeadlessExitAndBacklog : Prop :=
  (∀ (s : State) (a : Agent), s.Sound → linked s → s.flag .SYS_PLANE_STATE_HEADLESS = true →
    completes (.headlessExit a) s fun t =>
      t.flag .SYS_PLANE_STATE_HEADLESS = false ∧ t.fld .SYS_PLANE_STATE_CAUSE = s.fld .SYS_PLANE_STATE_CAUSE
      ∧ t.sys.backlog = s.sys.backlog)
  ∧ (∀ (s : State) (n : NRec) (rest : List (List NRec)), s.Sound → s.flag .SYS_PLANE_STATE_HEADLESS = false →
    s.sys.backlog = [n] :: rest → (n.kind = .age ∨ n.kind = .dump ∨ n.kind = .weather) →
    (idlPass (if n.kind = .weather then 3 else 4) 32 s).1 = true →
    ringTakes s (noteRing s n.kind) 1 = true → ringReach s (noteRing s n.kind) = true →
    completes .headlessBacklogDeliver s fun t =>
      t.sys.backlog = rest
      ∧ t.cnt .TM_WX_RECORD_CNT = s.cnt .TM_WX_RECORD_CNT + (if n.kind = .weather then 1#64 else 0#64))
  ∧ (∀ (s : State) (n : NRec) (rest : List (List NRec)), s.Sound → s.flag .SYS_PLANE_STATE_HEADLESS = false →
    s.sys.backlog = [n] :: rest → ringTakes s (noteRing s n.kind) 1 = false →
    (n.kind = .weather → completes .headlessBacklogDeliver s fun t =>
      t.sys.backlog = rest ∧ t.cnt .TM_WX_DROP_CNT = s.cnt .TM_WX_DROP_CNT + 1#64 ∧ wxEntry n ∈ t.tm.wxLost
        ∧ s.Only t [.sys, .ctl, .tm] [] [Cnt.off .TM_WX_DROP_CNT, Cnt.off .IDL_POL_REFUSE_CNT 3])
    ∧ ((n.kind = .fault ∨ n.kind = .step) → groupLen s.host.faultLog < 256 →
      completes .headlessBacklogDeliver s fun t =>
        t.sys.backlog = rest ∧ t.host.faultLog = s.host.faultLog ++ [[n]] ∧ s.Only t [.sys, .host] [] [])
    ∧ ((n.kind = .age ∨ n.kind = .dump) → completes .headlessBacklogDeliver s fun t =>
        s.Only t [.ctl] [] [Cnt.off .IDL_POL_REFUSE_CNT 4]))

/-- R16, R289: a loss of training takes the link down; a replay is counted, and a 17th within 1 µs counts a retrain and
takes the link down; when training is done the link is up, all outstanding credit is recovered, and what was held for the
link has crossed, a reset message with it. In a core clock no credit of a channel is created or lost. -/
def Obligations.InterDieLink : Prop :=
  (∀ s : State, s.Sound → linked s →
    completes .idlTrainingLoss s fun t =>
      t.flag .SYS_PLANE_STATE_IDL_UP = false ∧ t.ctl.idlDownAt = some s.now
      ∧ s.Only t [.ctl] [Reg.off .IDL_STATUS, Reg.off .SYS_PLANE_STATE] [])
  ∧ (∀ s : State, s.Sound → linked s → (s.ctl.replays.filter (fun e => s.now < e + 1600)).length < 16 →
    completes .idlFlitReplay s fun t =>
      t.cnt .IDL_REPLAY_CNT = s.cnt .IDL_REPLAY_CNT + 1#64 ∧ t.cnt .IDL_RETRAIN_CNT = s.cnt .IDL_RETRAIN_CNT
      ∧ t.flag .SYS_PLANE_STATE_IDL_UP = true)
  ∧ (∀ s : State, s.Sound → linked s → 16 ≤ (s.ctl.replays.filter (fun e => s.now < e + 1600)).length →
    completes .idlFlitReplay s fun t =>
      t.cnt .IDL_REPLAY_CNT = s.cnt .IDL_REPLAY_CNT + 1#64
      ∧ t.cnt .IDL_RETRAIN_CNT = s.cnt .IDL_RETRAIN_CNT + 1#64
      ∧ t.flag .SYS_PLANE_STATE_IDL_UP = false ∧ t.ctl.idlDownAt = some s.now)
  ∧ (∀ s : State, s.Sound → forwards s → s.flag .SYS_PLANE_STATE_IDL_UP = false → s.ctl.heldWrites = [] →
    s.ctl.heldReads = [] →
    completes .idlRetrainDone s fun t =>
      t.flag .SYS_PLANE_STATE_IDL_UP = true ∧ t.ctl.idlDownAt = none
      ∧ t.ctl.heldInts = [] ∧ t.ctl.heldFaults = [] ∧ t.ctl.faultsOver = 0 ∧ t.ctl.heldDma = []
      ∧ t.ctl.heldReset = false ∧ (s.ctl.heldReset = true → t.flag .SYS_PLANE_STATE_HEADLESS = true)
      ∧ (s.ctl.heldInts = [] → s.ctl.heldFaults = [] → s.ctl.heldDma = [] → s.ctl.heldReset = false →
        t.ctl.vcs = s.ctl.vcs.map (fun e => (e.1, recoverCredit e.2))))
  ∧ (∀ x : IdlVc, (recoverCredit x).credit = x.credit)
  ∧ (∀ s t : State, s.Sound → s.pending = [] → step s = .next t →
    ∀ v d, d < 2 → (idlVc t v d).credit = (idlVc s v d).credit)

/-! ### Leaf ports (chapter 2) -/

/-- R33: a restart with `LANE_RATE` 1 and `MODE` 3 is refused: the group stays in its mode and `CFG_ERR` is set; nothing
else changes but the transfers of the link. R4: a write to a group that an LZ-S1024 lacks is ignored. -/
def Obligations.GroupRestartRefused : Prop :=
  (∀ (s : State) (a : Agent) (g : Fin 16), s.Sound → linked s → noGroup s g.val = false →
    s.fld .LEAF_GROUP_CFG_LANE_RATE g.val = 1 → s.fld .LEAF_GROUP_CFG_MODE g.val = 3 →
    completes (.leafGroupRestart a g) s fun t =>
      t.flag .LEAF_GROUP_STATUS_CFG_ERR g.val = true
      ∧ t.fld .LEAF_GROUP_STATUS_MODE_ACTIVE g.val = s.fld .LEAF_GROUP_STATUS_MODE_ACTIVE g.val
      ∧ t.fld .LEAF_GROUP_STATUS_RATE_ACTIVE g.val = s.fld .LEAF_GROUP_STATUS_RATE_ACTIVE g.val
      ∧ s.Only t [.ctl] [Reg.off .LEAF_GROUP_STATUS g.val] [])
  ∧ (∀ (s : State) (a : Agent) (g : Fin 16), noGroup s g.val = true → exec (.leafGroupRestart a g) s = .next s)

/-- R32 to R35: an accepted group restart applies the written mode and rate, shows `RESTARTING`, and leaves every port of the
group down, with `ACTIVE` set where the mode uses the port number; GROUP_RESTART_DONE ends it. -/
def Obligations.GroupRestart : Prop :=
  (∀ (s : State) (a : Agent) (g : Fin 16), s.Sound → linked s → noGroup s g.val = false →
    ¬ (s.fld .LEAF_GROUP_CFG_LANE_RATE g.val = 1 ∧ s.fld .LEAF_GROUP_CFG_MODE g.val = 3) →
    completes (.leafGroupRestart a g) s fun t =>
      t.flag .LEAF_GROUP_STATUS_RESTARTING g.val = true
      ∧ t.fld .LEAF_GROUP_STATUS_MODE_ACTIVE g.val = s.fld .LEAF_GROUP_CFG_MODE g.val
      ∧ t.fld .LEAF_GROUP_STATUS_RATE_ACTIVE g.val = s.fld .LEAF_GROUP_CFG_LANE_RATE g.val
      ∧ ∀ i : Fin 16,
        t.flag .LEAF_PORT_STATUS_LINK_UP (16 * g.val + i.val) = false
        ∧ t.flag .LEAF_PORT_STATUS_FROZEN (16 * g.val + i.val) = false
        ∧ t.flag .LEAF_PORT_STATUS_DOZING (16 * g.val + i.val) = false
        ∧ t.flag .LEAF_PORT_STATUS_ACTIVE (16 * g.val + i.val)
            = (i.val % 2 ^ s.fld .LEAF_GROUP_CFG_MODE g.val == 0))
  ∧ (∀ (s : State) (g : Fin 16), s.Sound →
    completes (.groupRestartDone g) s fun t =>
      t.flag .LEAF_GROUP_STATUS_RESTARTING g.val = false
      ∧ t.fld .LEAF_GROUP_STATUS_MODE_ACTIVE g.val = s.fld .LEAF_GROUP_STATUS_MODE_ACTIVE g.val
      ∧ s.Only t [] [Reg.off .LEAF_GROUP_STATUS g.val] [])

/-- R38, R39, R41: a lane aligns on two marker blocks, at 400 Gb/s exactly one period of 4,096 codewords apart, and takes the
identity of the second; the loss of an alignment, four periods without a marker, is counted and takes the port down; a port whose
lanes are all aligned comes link up, after 100 µs at 400 Gb/s. That a 200 Gb/s port waits for no time is the model's choice
(log 23). -/
def Obligations.LaneAlignment : Prop :=
  (∀ (s : State) (n : Fin 256) (m1 m2 : Marker) (apart : Nat), s.Sound → trains s (lanePort s n.val) = true →
    laneOf s n.val = none → (fastLanes s (lanePort s n.val) = true → apart = 4096) →
    markerOk s (lanePort s n.val) m1 = true → markerOk s (lanePort s n.val) m2 = true →
    completes (.laneAlign n m1 m2 apart) s fun t =>
      laneOf t n.val = some ⟨s.now, m2.laneId.toNat⟩
      ∧ (∀ k, k ≠ n.val → laneOf t k = laneOf s k)
      ∧ (∀ p, p ≠ lanePort s n.val → portOf t p = portOf s p)
      ∧ s.Only t [.leaf] [] [])
  ∧ (∀ (s : State) (n : Fin 256) (m1 m2 : Marker), fastLanes s (lanePort s n.val) = true →
    ((∀ apart, apart ≠ 4096 → exec (.laneAlign n m1 m2 apart) s = .next s)
    ∧ (markerOk s (lanePort s n.val) m1 = false ∨ markerOk s (lanePort s n.val) m2 = false →
      ∀ apart, exec (.laneAlign n m1 m2 apart) s = .next s)))
  ∧ (∀ (s : State) (n : Fin 256) (x : LaneSt) (found : List Marker), s.Sound → laneOf s n.val = some x →
    4 ≤ found.length → (∀ m ∈ found, markerOk s (lanePort s n.val) m = false) →
    completes (.laneAlignLoss ⟨n, found⟩) s fun t =>
      t.cnt .LEAF_AM_LOSS_CNT n.val = s.cnt .LEAF_AM_LOSS_CNT n.val + 1#64
      ∧ laneOf t n.val = none
      ∧ (portUp s (lanePort s n.val) = true → portUp t (lanePort s n.val) = false
          ∧ t.cnt .LEAF_LINK_DOWN_CNT (lanePort s n.val) = s.cnt .LEAF_LINK_DOWN_CNT (lanePort s n.val) + 1#64)
      ∧ (portUp s (lanePort s n.val) = false → s.Only t [.leaf] [] [Cnt.off .LEAF_AM_LOSS_CNT n.val]))
  ∧ (∀ (s : State) (n : Fin 256) (found : List Marker), found.length < 4 → exec (.laneAlignLoss ⟨n, found⟩) s = .next s)
  ∧ (∀ (s : State) (p : Fin 256) (ns t0 : Nat), s.Sound → trains s p.val = true → portUp s p.val = false →
    (portOf s p.val).ready = some t0 → ns ≤ 180 →
    t0 + (if s.flag .LEAF_GROUP_STATUS_RATE_ACTIVE (p.val / 16) then 100 * clkUs else 0) ≤ s.now →
    completes (.linkUp p ns) s fun t =>
      portUp t p.val = true ∧ t.flag .LEAF_PORT_STATUS_ACTIVE p.val = true
      ∧ t.flag .LEAF_PORT_STATUS_FROZEN p.val = false ∧ t.flag .LEAF_PORT_STATUS_WAKING p.val = false
      ∧ t.flag .LEAF_PORT_STATUS_DOZING p.val = false
      ∧ t.fld .LEAF_PORT_STATUS_DOZE_REFUSED p.val = s.fld .LEAF_PORT_STATUS_DOZE_REFUSED p.val
      ∧ (portOf t p.val).holdTill = none
      ∧ s.Only t [.leaf] [Reg.off .LEAF_PORT_STATUS p.val] [])

/-- R43, R58, R59: a port that goes down is counted once, and a frame that it was receiving is cut and counted; with `HOLD_MS` 0
its queues are flushed, otherwise it is frozen until the hold ends; at the end of the hold it is thawed and flushed, unless the
link comes up in the same core clock. -/
def Obligations.LinkDownAndHold : Prop :=
  (∀ (s : State) (p : Fin 256) (f : Option RxFrame), s.Sound → portUp s p.val = true →
    completes (.linkDown p f) s fun t =>
      portUp t p.val = false
      ∧ t.cnt .LEAF_LINK_DOWN_CNT p.val = s.cnt .LEAF_LINK_DOWN_CNT p.val + 1#64
      ∧ (portOf t p.val).ready = none ∧ (portOf t p.val).tx = none ∧ (portOf t p.val).rx = none
      ∧ (∀ g, f = some g → (portOf s p.val).rx = none → rxFull s p.val = false →
        t.cnt (cutCheck s p.val g).cnt p.val = s.cnt (cutCheck s p.val g).cnt p.val + 1#64)
      ∧ (s.fld .LEAF_FLAP_CFG_HOLD_MS p.val ≠ 0 → t.flag .LEAF_PORT_STATUS_FROZEN p.val = true
          ∧ (portOf t p.val).holdTill = some (s.now + min 10000 (s.fld .LEAF_FLAP_CFG_HOLD_MS p.val) * 1600000))
      ∧ (s.fld .LEAF_FLAP_CFG_HOLD_MS p.val = 0 → ∀ c < 8, (queueOf t (leafQ p.val c)).units = []))
  ∧ (∀ (s : State) (p : Fin 256) (f : Option RxFrame), portUp s p.val = false → exec (.linkDown p f) s = .next s)
  ∧ (∀ (s : State) (p : Fin 256) (e : Nat), s.Sound → (portOf s p.val).holdTill = some e → e ≤ s.now →
    portUp s p.val = false → linkUpWaits s p.val = false →
    completes (.flapHoldExpiry p) s fun t =>
      t.flag .LEAF_PORT_STATUS_FROZEN p.val = false ∧ portUp t p.val = false
      ∧ (portOf t p.val).holdTill = none ∧ ∀ c < 8, (queueOf t (leafQ p.val c)).units = [])
  ∧ (∀ (s : State) (p : Fin 256), linkUpWaits s p.val = true → exec (.flapHoldExpiry p) s = .next s)

/-- R55 to R57: a doze command takes an idle port down into doze and is refused, with `DOZE_REFUSED`, where the port is busy or a
frame for it arrives in the same core clock; a wake command counts and sends the wake pattern for 1 ms, in which the port still
shows `DOZING` (log 23); its end, or 16 sightings of the pattern, light the port. R4: a write for a port that an LZ-S1024 lacks
is ignored. -/
def Obligations.DozeAndWake : Prop :=
  (∀ (s : State) (a : Agent) (p : Fin 256), s.Sound → linked s → noPort s p.val = false →
    s.flag .LEAF_PORT_STATUS_DOZING p.val = false → (portOf s p.val).tx = none →
    (∀ c < 8, (queueOf s (leafQ p.val c)).units = []) → enqueueWaits s p.val = false →
    completes (.doze a p) s fun t =>
      t.flag .LEAF_PORT_STATUS_DOZING p.val = true ∧ portUp t p.val = false
      ∧ t.flag .LEAF_PORT_STATUS_FROZEN p.val = false ∧ t.flag .LEAF_PORT_STATUS_WAKING p.val = false
      ∧ (portOf t p.val).holdTill = none ∧ (portOf t p.val).wakeAt = none ∧ (portOf t p.val).ready = none
      ∧ (portOf t p.val).paused = [])
  ∧ (∀ (s : State) (a : Agent) (p : Fin 256), s.Sound → linked s → noPort s p.val = false →
    s.flag .LEAF_PORT_STATUS_DOZING p.val = false →
    ((portOf s p.val).tx ≠ none ∨ (∃ c < 8, (queueOf s (leafQ p.val c)).units ≠ []) ∨ enqueueWaits s p.val = true) →
    completes (.doze a p) s fun t =>
      t.flag .LEAF_PORT_STATUS_DOZE_REFUSED p.val = true ∧ portUp t p.val = portUp s p.val
      ∧ s.Only t [.ctl] [Reg.off .LEAF_PORT_STATUS p.val] [])
  ∧ (∀ (s : State) (a : Agent) (p : Fin 256), s.Sound → linked s → noPort s p.val = false →
    s.flag .LEAF_PORT_STATUS_DOZING p.val = true → (portOf s p.val).wakeAt = none →
    completes (.wake a p) s fun t =>
      t.cnt .LEAF_WAKE_CNT p.val = s.cnt .LEAF_WAKE_CNT p.val + 1#64
      ∧ t.flag .LEAF_PORT_STATUS_WAKING p.val = true ∧ (portOf t p.val).wakeAt = some s.now
      ∧ t.flag .LEAF_PORT_STATUS_DOZING p.val = true
      ∧ t.out = .wake p.val (s.reg64 .LEAF_WAKE_PAT_LO .LEAF_WAKE_PAT_HI p.val) :: s.out
      ∧ s.Only t [.leaf, .out, .ctl] [Reg.off .LEAF_PORT_STATUS p.val] [Cnt.off .LEAF_WAKE_CNT p.val])
  ∧ (∀ (s : State) (p : Fin 256) (e : Nat), s.Sound → (portOf s p.val).wakeAt = some e → e + 1600000 ≤ s.now →
    completes (.wakePatternSent p) s fun t =>
      t.flag .LEAF_PORT_STATUS_DOZING p.val = false ∧ t.flag .LEAF_PORT_STATUS_WAKING p.val = true
      ∧ (portOf t p.val).wakeAt = none ∧ s.Only t [.leaf] [Reg.off .LEAF_PORT_STATUS p.val] [])
  ∧ (∀ (s : State) (p : Fin 256) (seen : DWord) (n : Nat), s.Sound → s.flag .LEAF_PORT_STATUS_DOZING p.val = true →
    16 ≤ n → seen.toNat = s.reg64 .LEAF_WAKE_PAT_LO .LEAF_WAKE_PAT_HI p.val →
    completes (.wakePatternDetect p seen n) s fun t =>
      t.cnt .LEAF_WAKE_CNT p.val
        = s.cnt .LEAF_WAKE_CNT p.val + (if (portOf s p.val).wakeAt = none then 1#64 else 0#64)
      ∧ t.flag .LEAF_PORT_STATUS_DOZING p.val = false ∧ t.flag .LEAF_PORT_STATUS_WAKING p.val = true
      ∧ s.Only t [.leaf] [Reg.off .LEAF_PORT_STATUS p.val] [Cnt.off .LEAF_WAKE_CNT p.val])
  ∧ (∀ (s : State) (p : Fin 256) (seen : DWord) (n : Nat), (n < 16 ∨ s.flag .LEAF_PORT_STATUS_DOZING p.val = false
      ∨ seen.toNat ≠ s.reg64 .LEAF_WAKE_PAT_LO .LEAF_WAKE_PAT_HI p.val) →
    exec (.wakePatternDetect p seen n) s = .next s)
  ∧ (∀ (s : State) (a : Agent) (p : Fin 256), noPort s p.val = true →
    exec (.doze a p) s = .next s ∧ exec (.wake a p) s = .next s)

/-- R45 to R50: a PAUSE frame pauses every class of a port in PAUSE mode, at once, or at the end of a frame that is in
transmission; a pause ends at its time; a pending pause frame leaves at a frame boundary and is counted; while a class stays
triggered the frame is repeated. R49, R50: a class, or a port in PAUSE mode (key 8), whose stall time reaches the limit is
counted, its pauses end and its hold-off starts, and a fault record is generated, unless a frame of the same core clock ends the
stall; the hold-off ends at its time. -/
def Obligations.PauseFramesAndWatchdog : Prop :=
  (∀ (s : State) (p : Fin 256) (f : RxFrame), s.Sound → forwards s → s.pwr.dusk = none → portUp s p.val = true →
    f.more = false → isMacControl f.data = true → macCheck s p.val f = none → slice f.data 0 6 = pauseMac →
    beAt f.data 14 2 = 1 → s.fld .LEAF_PORT_CFG_PAUSE_MODE p.val = 1 → (portOf s p.val).holdoff = [] →
    0 < quantaClocks s p.val (beAt f.data 16 2) →
    completes (.pauseFrameRx p f) s fun t =>
      t.cnt .LEAF_RX_PAUSE_CNT p.val = s.cnt .LEAF_RX_PAUSE_CNT p.val + 1#64
      ∧ ((portOf s p.val).tx = none →
        ∀ c < 8, SMap.get? (portOf t p.val).paused c = some (s.now + quantaClocks s p.val (beAt f.data 16 2)))
      ∧ (∀ x, (portOf s p.val).tx = some x → x.cls < 8 → (portOf t p.val).paused = (portOf s p.val).paused
        ∧ ∀ c < 8, (⟨c, s.now + quantaClocks s p.val (beAt f.data 16 2)⟩ : PausePend) ∈ (portOf t p.val).pend)
      ∧ s.Only t [.leaf] [Reg.off .LEAF_PAUSE_STATUS p.val] [Cnt.off .LEAF_RX_PAUSE_CNT p.val])
  ∧ (∀ (s : State) (p : Fin 256) (c : Fin 8) (e : Nat), s.Sound → SMap.get? (portOf s p.val).paused c.val = some e →
    e ≤ s.now →
    completes (.pauseExpiry p c) s fun t =>
      SMap.get? (portOf t p.val).paused c.val = none
      ∧ s.Only t [.leaf] [Reg.off .LEAF_PAUSE_STATUS p.val] [])
  ∧ (∀ (s : State) (p : Fin 256) (c n : Nat) (l : List (Nat × Nat)), s.Sound → forwards s → portUp s p.val = true →
    (portOf s p.val).tx = none → (portOf s p.val).pauseOut = (c, n) :: l → c < 9 → lineFree s p.val = true →
    completes (.pauseFrameTx p) s fun t =>
      (portOf t p.val).pauseOut = l ∧ SMap.get? (portOf t p.val).pausedAt c = some s.now
      ∧ OutEv.frame p.val (pauseFrame s c n) true ∈ t.out
      ∧ (fastLanes s p.val = false → t.out = .frame p.val (pauseFrame s c n) true :: s.out)
      ∧ (c = 8 → t.cnt .LEAF_TX_PAUSE_CNT p.val = s.cnt .LEAF_TX_PAUSE_CNT p.val + 1#64)
      ∧ (c ≠ 8 → t.cnt .LEAF_TX_PFC_CNT p.val c = s.cnt .LEAF_TX_PFC_CNT p.val c + 1#64)
      ∧ s.Only t [.leaf, .out] [] [Cnt.off .LEAF_TX_PAUSE_CNT p.val, Cnt.off .LEAF_TX_PFC_CNT p.val c])
  ∧ (∀ (s : State) (p : Fin 256) (c : Fin 9) (e : Nat), s.Sound →
    (c.val < 8 → s.fld .LEAF_PORT_CFG_PAUSE_MODE p.val = 2 ∧ (portOf s p.val).trig.contains c.val = true) →
    (c.val = 8 → s.fld .LEAF_PORT_CFG_PAUSE_MODE p.val = 1 ∧ (portOf s p.val).trig ≠ []) →
    SMap.get? (portOf s p.val).pausedAt c.val = some e →
    e + quantaClocks s p.val (max 1 (quantaOf s p.val / 2)) ≤ s.now →
    (portOf s p.val).pauseOut.any (fun x => x.1 == c.val) = false →
    completes (.pauseRepeatTimer p c) s fun t =>
      (portOf t p.val).pauseOut = (portOf s p.val).pauseOut ++ [(c.val, quantaOf s p.val)]
      ∧ s.Only t [.leaf] [] [])
  ∧ (∀ (s : State) (p : Fin 256) (c : Fin 9) (e : Nat) (cs : List Nat), s.Sound →
    cs = (if c.val = 8 then List.range 8 else [c.val]) → SMap.get? (portOf s p.val).stall c.val = some e →
    s.fld .LEAF_PAUSE_WD_CFG_PAUSE_WD_LIMIT p.val ≠ 0 →
    e + s.fld .LEAF_PAUSE_WD_CFG_PAUSE_WD_LIMIT p.val * 1600000 ≤ s.now →
    (∀ i ∈ cs, ∀ x, SMap.get? (portOf s p.val).paused i = some x → s.now < x) → pauseEnds p.val c.val s = false →
    completes (.pauseWatchdog p c) s fun t =>
      t.cnt .LEAF_PAUSE_WD_CNT p.val (c.val % 8) = s.cnt .LEAF_PAUSE_WD_CNT p.val (c.val % 8) + 1#64
      ∧ (∀ i ∈ cs, SMap.get? (portOf t p.val).paused i = none
        ∧ SMap.get? (portOf t p.val).holdoff i
          = some (s.now + max 1 (s.fld .LEAF_PAUSE_WD_CFG_PAUSE_WD_HOLDOFF p.val) * 1600000))
      ∧ t.host.recq = s.host.recq ++ [.notes [faultRec s 1 p.val (c.val % 8) 0]]
      ∧ s.Only t [.leaf, .host, .hlt] [Reg.off .LEAF_PAUSE_STATUS p.val] [Cnt.off .LEAF_PAUSE_WD_CNT p.val (c.val % 8)])
  ∧ (∀ (s : State) (p : Fin 256) (c : Fin 9), pauseEnds p.val c.val s = true → exec (.pauseWatchdog p c) s = .next s)
  ∧ (∀ (s : State) (p : Fin 256) (c : Fin 8) (e : Nat), s.Sound → SMap.get? (portOf s p.val).holdoff c.val = some e →
    e ≤ s.now →
    completes (.pauseWdHoldoffEnd p c) s fun t =>
      SMap.get? (portOf t p.val).holdoff c.val = none
      ∧ s.Only t [.leaf] [Reg.off .LEAF_PAUSE_STATUS p.val] [])

/-- R54: after 1 s without an underrun `CT_START_CUR` falls by one while it is above `CT_START`, and the interval restarts. -/
def Obligations.CutThroughStartDecays : Prop :=
  ∀ (s : State) (p : Fin 256), s.Sound → (portOf s p.val).ctAt + 1600000000 ≤ s.now →
    completes (.ctStartDecay p) s fun t =>
      t.fld .LEAF_CT_STATUS_CT_START_CUR p.val
        = (if s.fld .LEAF_PORT_CFG_CT_START p.val < s.fld .LEAF_CT_STATUS_CT_START_CUR p.val
            then s.fld .LEAF_CT_STATUS_CT_START_CUR p.val - 1 else s.fld .LEAF_CT_STATUS_CT_START_CUR p.val)
      ∧ (portOf t p.val).ctAt = s.now
      ∧ s.Only t [.leaf] [Reg.off .LEAF_CT_STATUS p.val] []

/-- R43, R44, R61, R167: a good frame on a port that is up is counted with its bytes, a bad one in the counter of the first check
that it fails; a port starts the frame that its scheduler picks, after the refreshes of its shapers that fall in this core clock
(R173); a whole frame that has left is counted with its bytes. -/
def Obligations.LeafFrames : Prop :=
  (∀ (s : State) (p : Fin 256) (f : RxFrame), s.Sound → forwards s → s.pwr.dusk = none → portUp s p.val = true →
    (portOf s p.val).uncorr = [] → (portOf s p.val).rx = none → f.more = false → rxFull s p.val = false →
    (isMacControl f.data = false → macCheck s p.val f = none →
      completes (.leafRxFrame p f []) s fun t =>
        t.cnt .LEAF_RX_FRAME_CNT p.val = s.cnt .LEAF_RX_FRAME_CNT p.val + 1#64
        ∧ t.cnt .LEAF_RX_BYTE_CNT p.val = s.cnt .LEAF_RX_BYTE_CNT p.val + BitVec.ofNat 64 f.data.length)
    ∧ (∀ c, macCheck s p.val f = some c →
      completes (.leafRxFrame p f []) s fun t =>
        t.cnt c.cnt p.val = s.cnt c.cnt p.val + 1#64 ∧ t.cnt .LEAF_RX_FRAME_CNT p.val = s.cnt .LEAF_RX_FRAME_CNT p.val))
  ∧ (∀ (s s0 s1 s2 : State) (p : Fin 256) (c round : Nat) (d : SMap Nat) (u : QUnit) (x : EditFrame),
    s.Sound → forwards s → portUp s p.val = true → (portOf s p.val).tx = none → (portOf s p.val).pauseOut = [] →
    lineFree s p.val = true → s0 = refreshPort p.val s → (shaperOf s0 p.val).allows true = true →
    pickClass s0 p.val = some (c, round, d) → headUnit s0 p.val c = some u → startLookup (p.val / 16) s0 = (true, s1) →
    s2 = keepChoice p.val c round d s1 → (egress s2 p.val u).dropRule = false → (egress s2 p.val u).res = .ok x →
    (u.closed = true → (egress s2 p.val u).data.length ≤ s.fld .LEAF_PORT_CFG_MAX_FRAME p.val) →
    completes (.portTxStart p none) s fun t =>
      ∃ y, (portOf t p.val).tx = some y ∧ y.cls = c ∧ y.start = s.now ∧ y.ts = s.ts64
        ∧ y.data = (if u.closed then some (egress s2 p.val u).data else none))
  ∧ (∀ (s : State) (p : Fin 256) (x : TxSt) (u : QUnit) (d : List Byte), s.Sound →
    (portOf s p.val).tx = some x → x.data = some d → x.copy = none →
    (queueOf s (leafQ p.val x.cls)).units.find? (fun v => v.started) = some u → u.closed = true → u.aborted = false →
    completes (.leafTxComplete p none) s fun t =>
      t.cnt .LEAF_TX_FRAME_CNT p.val = s.cnt .LEAF_TX_FRAME_CNT p.val + 1#64
      ∧ t.cnt .LEAF_TX_BYTE_CNT p.val = s.cnt .LEAF_TX_BYTE_CNT p.val + BitVec.ofNat 64 d.length
      ∧ OutEv.frame p.val d true ∈ t.out ∧ (portOf t p.val).tx = none)

/-! ### Rules, edits and tables (chapters 3 and 4) -/

/-- R73: RULE_KEY, RULE_MASK and RULE_ACTION stage their part for entry i beside the parts already staged for it, and no
entry changes; an index outside the store ends the operation with TBL_BAD_ARG. -/
def Obligations.RuleStaging : Prop :=
  (∀ (s : State) (r : Fin 32) (u : RUnit) (ds : List (List Byte)), atHead s r 0x10 u ds → indexOf ds < 98304 →
    completes (.ruleKey r) s fun t => ended t r u 0 0 ∧ t.cls.rules = s.cls.rules
      ∧ stagingOf t r.val (indexOf ds) = { stagingOf s r.val (indexOf ds) with
          key := some (keyBits ds, bits (payW ds 10) 3 0, (payW ds 10).testBit 4) })
  ∧ (∀ (s : State) (r : Fin 32) (u : RUnit) (ds : List (List Byte)), atHead s r 0x11 u ds → indexOf ds < 98304 →
    completes (.ruleMask r) s fun t => ended t r u 0 0 ∧ t.cls.rules = s.cls.rules
      ∧ stagingOf t r.val (indexOf ds) = { stagingOf s r.val (indexOf ds) with
          mask := some (keyBits ds, bits (payW ds 10) 3 0) })
  ∧ (∀ (s : State) (r : Fin 32) (u : RUnit) (ds : List (List Byte)), atHead s r 0x12 u ds → indexOf ds < 98304 →
    completes (.ruleAction r) s fun t => ended t r u 0 0 ∧ t.cls.rules = s.cls.rules
      ∧ stagingOf t r.val (indexOf ds) = { stagingOf s r.val (indexOf ds) with
          action := some (BitVec.ofNat 128 (payW ds 0 * 2 ^ 64 + payW ds 1)) })
  ∧ (∀ (s : State) (r : Fin 32) (u : RUnit) (ds : List (List Byte)), 98304 ≤ indexOf ds →
    (atHead s r 0x10 u ds → completes (.ruleKey r) s fun t => ended t r u 0x22 0 ∧ t.cls = s.cls)
    ∧ (atHead s r 0x11 u ds → completes (.ruleMask r) s fun t => ended t r u 0x22 0 ∧ t.cls = s.cls)
    ∧ (atHead s r 0x12 u ds → completes (.ruleAction r) s fun t => ended t r u 0x22 0 ∧ t.cls = s.cls)
    ∧ (atHead s r 0x13 u ds → completes (.ruleValid r) s fun t => ended t r u 0x22 0 ∧ t.cls = s.cls))

/-- R75: a part staged for entry i while the slot of its ring holds parts for another entry j discards those parts: the slot
holds the new part alone, entry j is unchanged, the discard is counted once, and the write completes normally. -/
def Obligations.StagedPartsDiscarded : Prop :=
  ∀ (s : State) (r : Fin 32) (u : RUnit) (ds : List (List Byte)) (g : Staging), indexOf ds < 98304 →
    SMap.get? s.cls.staging r.val = some g → g.index ≠ indexOf ds →
    (atHead s r 0x10 u ds → completes (.ruleKey r) s fun t => ended t r u 0 0 ∧ t.cls.rules = s.cls.rules
      ∧ SMap.get? t.cls.staging r.val = some { index := indexOf ds, key := some (keyBits ds, bits (payW ds 10) 3 0, (payW ds 10).testBit 4) }
      ∧ t.cnt .PARSE_STAGE_DISCARD_CNT = s.cnt .PARSE_STAGE_DISCARD_CNT + 1#64)
    ∧ (atHead s r 0x11 u ds → completes (.ruleMask r) s fun t => ended t r u 0 0 ∧ t.cls.rules = s.cls.rules
      ∧ SMap.get? t.cls.staging r.val = some { index := indexOf ds, mask := some (keyBits ds, bits (payW ds 10) 3 0) }
      ∧ t.cnt .PARSE_STAGE_DISCARD_CNT = s.cnt .PARSE_STAGE_DISCARD_CNT + 1#64)
    ∧ (atHead s r 0x12 u ds → completes (.ruleAction r) s fun t => ended t r u 0 0 ∧ t.cls.rules = s.cls.rules
      ∧ SMap.get? t.cls.staging r.val
          = some { index := indexOf ds, action := some (BitVec.ofNat 128 (payW ds 0 * 2 ^ 64 + payW ds 1)) }
      ∧ t.cnt .PARSE_STAGE_DISCARD_CNT = s.cnt .PARSE_STAGE_DISCARD_CNT + 1#64)

/-- R73: a commit replaces the parts that were staged, with good parity, and no other; an invalidation clears VALID; both write
the control part, discard the staging of the entry, and leave every other entry alone. R76, R90: a commit that has not its turn,
because a lower-numbered ring commits to the same entry in this core clock or has the older claim, changes nothing yet. -/
def Obligations.RuleCommit : Prop :=
  (∀ (s : State) (r : Fin 32) (u : RUnit) (ds : List (List Byte)), ringHead s (128 + r.val) = some (u, ds) →
    hasTurn s r.val u ds = false → exec (.ruleValid r) s = .next s)
  ∧ ∀ (s : State) (r : Fin 32) (u : RUnit) (ds : List (List Byte)), atHead s r 0x13 u ds → indexOf ds < 98304 →
    completes (.ruleValid r) s fun t => ended t r u 0 0
      ∧ (∀ j, j ≠ indexOf ds → SMap.getD t.cls.rules j {} = SMap.getD s.cls.rules j {})
      ∧ (∀ g, SMap.get? t.cls.staging r.val = some g → g.index ≠ indexOf ds)
      ∧ (SMap.getD t.cls.rules (indexOf ds) {}).valid = (payW ds 0).testBit 0
      ∧ (SMap.getD t.cls.rules (indexOf ds) {}).badCtl = false
      ∧ ((payW ds 0).testBit 0 = true → ∀ k p e, (stagingOf s r.val (indexOf ds)).key = some (k, p, e) →
        (SMap.getD t.cls.rules (indexOf ds) {}).key = k ∧ (SMap.getD t.cls.rules (indexOf ds) {}).profile = p
        ∧ (SMap.getD t.cls.rules (indexOf ds) {}).egress = e ∧ (SMap.getD t.cls.rules (indexOf ds) {}).badKey = false)
      ∧ ((payW ds 0).testBit 0 = true → ∀ m p, (stagingOf s r.val (indexOf ds)).mask = some (m, p) →
        (SMap.getD t.cls.rules (indexOf ds) {}).mask = m ∧ (SMap.getD t.cls.rules (indexOf ds) {}).pmask = p
        ∧ (SMap.getD t.cls.rules (indexOf ds) {}).badMask = false)
      ∧ ((payW ds 0).testBit 0 = true → ∀ x, (stagingOf s r.val (indexOf ds)).action = some x →
        (SMap.getD t.cls.rules (indexOf ds) {}).action = x ∧ (SMap.getD t.cls.rules (indexOf ds) {}).badAct = false)
      ∧ ((payW ds 0).testBit 0 = false ∨ (stagingOf s r.val (indexOf ds)).key = none →
        (SMap.getD t.cls.rules (indexOf ds) {}).key = (SMap.getD s.cls.rules (indexOf ds) {}).key
        ∧ (SMap.getD t.cls.rules (indexOf ds) {}).badKey = (SMap.getD s.cls.rules (indexOf ds) {}).badKey)
      ∧ ((payW ds 0).testBit 0 = false ∨ (stagingOf s r.val (indexOf ds)).mask = none →
        (SMap.getD t.cls.rules (indexOf ds) {}).mask = (SMap.getD s.cls.rules (indexOf ds) {}).mask
        ∧ (SMap.getD t.cls.rules (indexOf ds) {}).badMask = (SMap.getD s.cls.rules (indexOf ds) {}).badMask)
      ∧ ((payW ds 0).testBit 0 = false ∨ (stagingOf s r.val (indexOf ds)).action = none →
        (SMap.getD t.cls.rules (indexOf ds) {}).action = (SMap.getD s.cls.rules (indexOf ds) {}).action
        ∧ (SMap.getD t.cls.rules (indexOf ds) {}).badAct = (SMap.getD s.cls.rules (indexOf ds) {}).badAct)

/-- R83, R99, R328, R329: a table written by index holds the payload in its entry afterwards and leaves the other entries
alone; a filter whose lengths are not strictly descending or too long ends with TBL_BAD_FILTER, and an operand out of
range with TBL_BAD_ARG, and both change no table. An operation that has not its turn changes nothing yet (R90). -/
def Obligations.IndexedTableWrites : Prop :=
  (∀ (s : State) (r : Fin 32) (u : RUnit) (ds : List (List Byte)), ringHead s (128 + r.val) = some (u, ds) →
    hasTurn s r.val u ds = false →
    ∀ c ∈ [Instr.ruleKey r, .ruleMask r, .ruleAction r, .editWrite r, .templateWrite r, .filterWrite r, .nhWrite r, .ecmpWrite r,
      .memberWrite r, .lagWrite r, .macInsert r, .macDelete r, .hostInsert r, .hostDelete r, .lpmInsert r, .lpmDelete r,
      .learnAck r, .dump r], exec c s = .next s)
  ∧ (∀ (s : State) (r : Fin 32) (u : RUnit) (ds : List (List Byte)), atHead s r 0x14 u ds →
    (indexOf ds < 16384 → completes (.editWrite r) s fun t => ended t r u 0 0
      ∧ SMap.get? t.cls.edits (indexOf ds) = some ⟨BitVec.ofNat 256
          (payW ds 0 * 2 ^ 192 + payW ds 1 * 2 ^ 128 + payW ds 2 * 2 ^ 64 + payW ds 3), false⟩
      ∧ (∀ j, j ≠ indexOf ds → SMap.get? t.cls.edits j = SMap.get? s.cls.edits j))
    ∧ (16384 ≤ indexOf ds → completes (.editWrite r) s fun t => ended t r u 0x22 0 ∧ t.cls = s.cls))
  ∧ (∀ (s : State) (r : Fin 32) (u : RUnit) (ds : List (List Byte)), atHead s r 0x15 u ds → indexOf ds < 4096 →
    1 ≤ bits (payW ds 0) 6 0 → bits (payW ds 0) 6 0 ≤ 96 →
    completes (.templateWrite r) s fun t => ended t r u 0 0
      ∧ SMap.get? t.cls.tmpls (indexOf ds)
          = some ⟨(templateBytes ds).take (bits (payW ds 0) 6 0), bits (payW ds 0) 31 8, false⟩)
  ∧ (∀ (s : State) (r : Fin 32) (u : RUnit) (ds : List (List Byte)), atHead s r 0x26 u ds →
    (payW ds 0).testBit 63 = false → indexOf ds < 65536 →
    (filterOk false (filterOf (payW ds 0)) = true → completes (.filterWrite r) s fun t => ended t r u 0 0
      ∧ SMap.get? t.tbl.filters (1114112 * bankOf ds + indexOf ds) = some (filterOf (payW ds 0)))
    ∧ (filterOk false (filterOf (payW ds 0)) = false → completes (.filterWrite r) s fun t => ended t r u 0x23 0
      ∧ t.tbl = s.tbl))
  ∧ (∀ (s : State) (r : Fin 32) (u : RUnit) (ds : List (List Byte)), atHead s r 0x28 u ds → indexOf ds < 1048576 →
    (bits (payW ds 0) 62 60 ≤ 4 → completes (.nhWrite r) s fun t => ended t r u 0 0
      ∧ SMap.get? t.tbl.nhs (indexOf ds) = some ⟨(payW ds 0).testBit 63, bits (payW ds 0) 62 60, bits (payW ds 0) 59 40,
          (payW ds 0).testBit 39, (payW ds 0).testBit 38, bits (payW ds 0) 37 24, false⟩
      ∧ (∀ j, j ≠ indexOf ds → SMap.get? t.tbl.nhs j = SMap.get? s.tbl.nhs j))
    ∧ (4 < bits (payW ds 0) 62 60 → completes (.nhWrite r) s fun t => ended t r u 0x22 0 ∧ t.tbl = s.tbl))
  ∧ (∀ (s : State) (r : Fin 32) (u : RUnit) (ds : List (List Byte)), atHead s r 0x29 u ds → indexOf ds < 65536 →
    bits (payW ds 0) 42 32 ≤ 1024 → bits (payW ds 0) 63 44 + bits (payW ds 0) 42 32 ≤ 1048576 →
    completes (.ecmpWrite r) s fun t => ended t r u 0 0
      ∧ SMap.get? t.tbl.groups (indexOf ds) = some ⟨bits (payW ds 0) 63 44, bits (payW ds 0) 42 32, false⟩)
  ∧ (∀ (s : State) (r : Fin 32) (u : RUnit) (ds : List (List Byte)), atHead s r 0x2A u ds → indexOf ds < 1048576 →
    completes (.memberWrite r) s fun t => ended t r u 0 0
      ∧ SMap.get? t.tbl.members (indexOf ds) = some ⟨bits (payW ds 0) 63 44, false⟩)
  ∧ (∀ (s : State) (r : Fin 32) (u : RUnit) (ds : List (List Byte)), atHead s r 0x2B u ds → indexOf ds < 16384 →
    completes (.lagWrite r) s fun t => ended t r u 0 0
      ∧ SMap.get? t.tbl.lags (indexOf ds)
          = some ⟨(payW ds 0).testBit 63, bits (payW ds 0) 62 56, bits (payW ds 0) 55 48, false⟩)

/-- R91, R105, R329: an insert into a hashed table replaces the entry of its key in place, keeping HIT and clearing AGED, or takes
free slots of one of the two buckets of its key, with HIT set: either way a lookup of the key then finds the new entry,
and no other slot changes. An insert of a MAC key frees its candidate. -/
def Obligations.HashedInserts : Prop :=
  (∀ (s : State) (r : Fin 32) (u : RUnit) (ds : List (List Byte)), atHead s r 0x20 u ds →
    insertsRight (.macInsert r) r s u (bankOf ds) (macEnt ds)
    ∧ completes (.macInsert r) s fun t => ∀ c ∈ t.tbl.cache, TKey.mac c.fid c.mac ≠ (macEnt ds).key)
  ∧ (∀ (s : State) (r : Fin 32) (u : RUnit) (ds : List (List Byte)), atHead s r 0x22 u ds →
    insertsRight (.hostInsert r) r s u (bankOf ds) (hostEnt ds))
  ∧ (∀ (s : State) (r : Fin 32) (u : RUnit) (ds : List (List Byte)), atHead s r 0x24 u ds → lenOk ds = true →
    insertsRight (.lpmInsert r) r s u (bankOf ds) (lpmEnt ds)
    ∧ (regionOf s (bankOf ds) (lpmEnt ds).key = none →
      completes (.lpmInsert r) s fun t => ended t r u 0x22 0 ∧ t.tbl = s.tbl
        ∧ t.cnt .TBL_WRITE_ERR_CNT = s.cnt .TBL_WRITE_ERR_CNT + 1#64))

/-- R92, R105: a delete clears the slots of its key and is counted; a key that is absent ends it with TBL_NOT_FOUND, counted as
an error, and changes no slot. A delete of a MAC key frees its candidate. -/
def Obligations.HashedDeletes : Prop :=
  (∀ (s : State) (r : Fin 32) (u : RUnit) (ds : List (List Byte)), atHead s r 0x21 u ds →
    deletesRight (.macDelete r) r s u (bankOf ds) (macEnt ds).key
    ∧ completes (.macDelete r) s fun t => ∀ c ∈ t.tbl.cache, TKey.mac c.fid c.mac ≠ (macEnt ds).key)
  ∧ (∀ (s : State) (r : Fin 32) (u : RUnit) (ds : List (List Byte)), atHead s r 0x23 u ds →
    deletesRight (.hostDelete r) r s u (bankOf ds) (hostEnt ds).key)
  ∧ (∀ (s : State) (r : Fin 32) (u : RUnit) (ds : List (List Byte)), atHead s r 0x25 u ds → lenOk ds = true →
    deletesRight (.lpmDelete r) r s u (bankOf ds) (lpmEnt ds).key)

/-- R105, R106: a learning record that its ring takes makes the oldest PENDING candidate NOTIFIED, with a hold timer of `HOLD_MS`
milliseconds, at least one, and no other candidate changes; candidates whose timer has ended become FREE, each counted; an
acknowledged candidate becomes FREE. While headless no learning record is written.
That no learning record is written while a backlog drains is the model's reading (log 53). -/
def Obligations.CandidateStates : Prop :=
  (∀ (s : State) (c : Cand), s.Sound → s.flag .SYS_PLANE_STATE_HEADLESS = false →
    s.tbl.cache.find? (fun x => x.notified.isNone) = some c → (noteWait (learnRec c) s).1 = true →
    completes .learnNotify s fun t =>
      t.tbl.cache = s.tbl.cache.map (fun x => if x = c then
        { x with notified := some (s.now + max 1 (s.fld .TBL_LEARN_CFG_HOLD_MS) * 1600000) } else x)
      ∧ t.cnt .TBL_LEARN_NOTIFY_CNT = s.cnt .TBL_LEARN_NOTIFY_CNT + 1#64)
  ∧ (∀ s : State, s.flag .SYS_PLANE_STATE_HEADLESS = true → exec .learnNotify s = .next s)
  ∧ (∀ s : State, s.Sound →
    completes .learnHoldExpiry s fun t =>
      (∀ c ∈ t.tbl.cache, ∀ e, c.notified = some e → s.now < e)
      ∧ (∀ c ∈ s.tbl.cache, c.notified = none → c ∈ t.tbl.cache)
      ∧ t.cnt .TBL_LEARN_EXPIRE_CNT
          = s.cnt .TBL_LEARN_EXPIRE_CNT + BitVec.ofNat 64 (s.tbl.cache.length - t.tbl.cache.length)
      ∧ s.Only t [.tbl] [] [Cnt.off .TBL_LEARN_EXPIRE_CNT])
  ∧ (∀ (s : State) (r : Fin 32) (u : RUnit) (ds : List (List Byte)), atHead s r 0x2C u ds →
    completes (.learnAck r) s fun t => ended t r u 0 0
      ∧ (∀ c ∈ t.tbl.cache, ¬ (c.fid = bits (payW ds 0) 59 48 ∧ c.mac = bits (payW ds 0) 47 0)))

/-- R28, R108, R110: the sweep clears HIT; an entry found with HIT clear is removed in mode 0, with its record, and in mode 1, or
while headless, only marked AGED; while the record cannot be delivered the sweep stands at the entry. While headless no
entry is removed.
The order of the sweep, its wait behind a backlog, and the count of an entry marked in place of a removal are the model's
readings (log 53, log 54). -/
def Obligations.AgeingSweep : Prop :=
  (∀ (s : State) (i : Nat) (e : Ent), s.Sound → s.fld .TBL_AGE_CFG_PERIOD_S ≠ 0 → s.flag .TBL_AGE_STATUS_ACTIVE = true →
    s.fld .TBL_AGE_STATUS_POSITION = i → sweepAt s i = some i → entAt s.tbl.slots i = some e →
    ages e = true →
    (e.hit = true → completes .ageSweepVisit s fun t =>
      entAt t.tbl.slots i = some { e with hit := false }
      ∧ ∀ j, j ≠ i → SMap.get? t.tbl.slots j = SMap.get? s.tbl.slots j)
    ∧ (e.hit = false → s.flag .TBL_AGE_CFG_MODE = false → s.flag .SYS_PLANE_STATE_HEADLESS = false →
      (noteWait (ageRec e true) (stallCount s)).1 = true → completes .ageSweepVisit s fun t =>
        slotFree t.tbl.slots i = true ∧ (∀ j, otherSlot s.tbl.slots i = some j → slotFree t.tbl.slots j = true)
        ∧ t.cnt .TBL_AGE_REMOVE_CNT = s.cnt .TBL_AGE_REMOVE_CNT + 1#64)
    ∧ (e.hit = false → e.aged = false → (s.flag .TBL_AGE_CFG_MODE = true ∨ s.flag .SYS_PLANE_STATE_HEADLESS = true) →
      (noteWait (ageRec e false) (stallCount s)).1 = true → completes .ageSweepVisit s fun t =>
        entAt t.tbl.slots i = some { e with aged := true }
        ∧ t.cnt .TBL_AGE_NOTICE_CNT = s.cnt .TBL_AGE_NOTICE_CNT + 1#64)
    ∧ (e.hit = false → s.flag .TBL_AGE_CFG_MODE = false → s.flag .SYS_PLANE_STATE_HEADLESS = false →
      (noteWait (ageRec e true) (stallCount s)).1 = false → completes .ageSweepVisit s fun t =>
        t.tbl.slots = s.tbl.slots ∧ t.flag .TBL_AGE_STATUS_ACTIVE = true ∧ t.fld .TBL_AGE_STATUS_POSITION = i
        ∧ t.tbl.stallAt.isSome = true))
  ∧ (∀ s : State, s.Sound → s.flag .SYS_PLANE_STATE_HEADLESS = true →
    completes .ageSweepVisit s fun t => ∀ j, (SMap.get? t.tbl.slots j).isSome = (SMap.get? s.tbl.slots j).isSome)

/-- R113: START names the slots and shows BUSY where the module does not refuse the range, sets ERR where it does, and is logged
while a clear runs; when the clear is done every slot of the range is free, every other slot is as before, and BUSY is 0. -/
def Obligations.TableClear : Prop :=
  (∀ (s : State) (a : Agent), s.Sound → linked s → s.flag .TBL_CLEAR_CTRL_BUSY = false →
    (clearRefused s (s.fld .TBL_CLEAR_BASE_SLOT) (s.fld .TBL_CLEAR_COUNT_COUNT) = false →
      completes (.tblClearStart a) s fun t =>
        t.tbl.clearing = some (s.fld .TBL_CLEAR_BASE_SLOT, s.fld .TBL_CLEAR_COUNT_COUNT)
        ∧ t.flag .TBL_CLEAR_CTRL_BUSY = true ∧ t.tbl.slots = s.tbl.slots
        ∧ s.Only t [.tbl, .ctl] [Reg.off .TBL_CLEAR_CTRL] [])
    ∧ (clearRefused s (s.fld .TBL_CLEAR_BASE_SLOT) (s.fld .TBL_CLEAR_COUNT_COUNT) = true →
      completes (.tblClearStart a) s fun t =>
        t.flag .TBL_CLEAR_CTRL_ERR = true ∧ s.Only t [.ctl] [Reg.off .TBL_CLEAR_CTRL] []))
  ∧ (∀ (s : State) (a : Agent), s.Sound → linked s → s.flag .TBL_CLEAR_CTRL_BUSY = true →
    completes (.tblClearStart a) s fun t =>
      t.tbl = s.tbl ∧ t.cnt .SYS_ACCESS_FAULT_CNT = s.cnt .SYS_ACCESS_FAULT_CNT + 1#64)
  ∧ (∀ (s : State) (b n : Nat), s.Sound → s.tbl.clearing = some (b, n) →
    completes .tblClearDone s fun t =>
      (∀ i, b ≤ i → i < b + n → slotFree t.tbl.slots i = true)
      ∧ (∀ i, i < b ∨ b + n ≤ i → SMap.get? t.tbl.slots i = SMap.get? s.tbl.slots i)
      ∧ (∀ k, b ≤ filterSlot k → filterSlot k < b + n → SMap.get? t.tbl.filters k = none)
      ∧ t.tbl.clearing = none ∧ t.flag .TBL_CLEAR_CTRL_BUSY = false
      ∧ s.Only t [.tbl] [Reg.off .TBL_CLEAR_CTRL] [])

/-- R330, R332: a dump with good arguments starts, or waits behind the running one, and one with bad arguments ends with
TBL_BAD_ARG; a record that is taken moves the dump to its next counter, which was cleared where CLEAR is set; the last
record ends the dump and the next one starts. -/
def Obligations.CounterDump : Prop :=
  (∀ (s : State) (r : Fin 32) (u : RUnit) (ds : List (List Byte)), atHead s r 0x30 u ds →
    (dumpOk ds = true → s.host.dump = none → completes (.dump r) s fun t =>
      t.host.dump = some ⟨128 + r.val, u.id, bits (payW ds 0) 63 62, (payW ds 0).testBit 61, u.cookie, indexOf ds,
        bits (payW ds 0) 23 0, 0⟩)
    ∧ (dumpOk ds = true → ∀ d, s.host.dump = some d → completes (.dump r) s fun t =>
      t.host.dump = some d ∧ t.host.dumpq = s.host.dumpq ++ [⟨128 + r.val, u.id, bits (payW ds 0) 63 62,
        (payW ds 0).testBit 61, u.cookie, indexOf ds, bits (payW ds 0) 23 0, 0⟩])
    ∧ (dumpOk ds = false → completes (.dump r) s fun t => ended t r u 0x22 0 ∧ t.host.dump = s.host.dump
      ∧ t.host.dumpq = s.host.dumpq))
  ∧ (∀ (s : State) (d : DumpSt), s.Sound → s.host.dump = some d → (noteWait (dumpRec s d) s).1 = true →
    (1 < d.left → completes .dumpRecord s fun t =>
      t.host.dump = some { d with next := d.next + 1, left := d.left - 1, written := d.written + 1 }
      ∧ dumpRead t d.space d.next = (if d.clear then (0#64, 0#64) else dumpRead s d.space d.next))
    ∧ (d.left ≤ 1 → completes .dumpRecord s fun t =>
      t.host.dump = s.host.dumpq.head? ∧ t.host.dumpq = s.host.dumpq.drop 1
      ∧ dumpRead t d.space d.next = (if d.clear then (0#64, 0#64) else dumpRead s d.space d.next)))
  ∧ (∀ (s : State) (d : DumpSt), s.host.dump = some d → ringTakes s (noteRing s .dump) 1 = false →
    s.flag .SYS_PLANE_STATE_HEADLESS = false → exec .dumpRecord s = .next s)

/-! ### The crossbar and the buffer (chapters 5 and 6) -/

/-- R126, R127: the oldest cell of an input that has credit, room and a plane goes to the staging queue of a usable
plane, round robin, with the next XSEQ of its input and output; it takes one credit. With 256 cells of its output
outstanding, or before its lookup (R122), it waits. R129: once in a cell time a plane matches inputs to outputs: of each input at most one staging
queue loses its head, each output gains at most one cell, and where one input alone waits for one output its cell
crosses.
That credit is spent as the cell is sent is the model's choice (log 28). -/
def Obligations.CrossbarSendAndMatch : Prop :=
  (∀ (s : State) (i : Fin 32) (x : XCell) (l : List XCell) (p : Nat), s.Sound → forwards s → feedOf s i.val = x :: l →
    x.cell.tag.ready ≤ s.now → SMap.getD s.xbar.spent (32 * i.val + x.out) 0 < 256 → stagedAt s i.val < 4096 → choosePlane s i.val x.out = some p →
    p ∈ planesUsable s ∧ completes (.xbarCellSend i) s fun t =>
      feedOf t i.val = l
      ∧ (∃ y, stageOf t i.val x.out p = stageOf s i.val x.out p ++ [y] ∧ y.src = i.val ∧ y.out = x.out
        ∧ y.xseq = SMap.getD s.xbar.nextSeq (32 * i.val + x.out) 0 ∧ y.at_ = s.now ∧ y.queue = x.queue
        ∧ y.abort = x.abort)
      ∧ SMap.getD t.xbar.nextSeq (32 * i.val + x.out) 0 = (SMap.getD s.xbar.nextSeq (32 * i.val + x.out) 0 + 1) % 65536
      ∧ SMap.getD t.xbar.spent (32 * i.val + x.out) 0 = SMap.getD s.xbar.spent (32 * i.val + x.out) 0 + 1
      ∧ SMap.getD t.xbar.rr (32 * i.val + x.out) 0 = (p + 1) % 16
      ∧ t.cnt .XBAR_IN_CELL_CNT i.val = s.cnt .XBAR_IN_CELL_CNT i.val + 1#64)
  ∧ (∀ (s : State) (i : Fin 32) (x : XCell) (l : List XCell), feedOf s i.val = x :: l →
    (256 ≤ SMap.getD s.xbar.spent (32 * i.val + x.out) 0 ∨ s.now < x.cell.tag.ready) →
    exec (.xbarCellSend i) s = .next s)
  ∧ (∀ (s : State) (p : Fin 16), s.Sound → forwards s → SMap.getD s.xbar.matched p.val 0 ≠ s.now / 4 + 1 →
    completes (.xbarMatch p) s fun t =>
      SMap.getD t.xbar.matched p.val 0 = s.now / 4 + 1
      ∧ (∀ i < 32, ∀ o < 32, stageOf t i o p.val = stageOf s i o p.val
        ∨ (stageOf t i o p.val = (stageOf s i o p.val).tail ∧ ∀ o' < 32, o' ≠ o → stageOf t i o' p.val = stageOf s i o' p.val))
      ∧ (∀ o < 32, (SMap.getD t.xbar.cross (32 * p.val + o) []).length
          ≤ (SMap.getD s.xbar.cross (32 * p.val + o) []).length + 1)
      ∧ (∀ i < 32, ∀ o < 32, ∀ x l, stageOf s i o p.val = x :: l →
        (∀ i' < 32, ∀ o' < 32, (i', o') ≠ (i, o) → stageOf s i' o' p.val = []) →
        stageOf t i o p.val = l
        ∧ SMap.getD t.xbar.cross (32 * p.val + o) []
            = SMap.getD s.xbar.cross (32 * p.val + o) [] ++ [{ x with at_ := s.now }]))
  ∧ (∀ (s : State) (p : Fin 16), SMap.getD s.xbar.matched p.val 0 = s.now / 4 + 1 → exec (.xbarMatch p) s = .next s)

/-- R131, R132, R134: a good cell that arrives out of order is held; the next cell in order leaves the store, is counted and
returns its credit; a cell whose payload fails its check is discarded at once, returns its credit, and stands bad in the store
until its turn; a cell with an uncorrectable tag is counted and is delivered nowhere; a gap that has lasted its time is passed,
counted, and the cell after it is delivered. That the credit of the cells that a gap lost returns as it is passed is the model's
choice (log 28). -/
def Obligations.CrossbarArrival : Prop :=
  (∀ (s : State) (p : Fin 16) (o : Fin 32) (x : XCell) (l : List XCell), s.Sound → forwards s →
    SMap.getD s.xbar.cross (32 * p.val + o.val) [] = x :: l → x.at_ / 4 < s.now / 4 → x.xseq < 65536 → x.src < 32 →
    x.queue < 4096 → x.bad = false →
    (x.xseq ≠ (reoOf s o.val x.src).next → passedBy s o.val x = false →
      (∀ y ∈ (reoOf s o.val x.src).held, y.xseq ≠ (reoOf s o.val x.src).next) →
      (completes (.xbarCellArrive p o CellDamage.none .none) s fun t =>
        (reoOf t o.val x.src).held = (reoOf s o.val x.src).held ++ [x]
        ∧ (reoOf t o.val x.src).next = (reoOf s o.val x.src).next ∧ t.xbar.spent = s.xbar.spent
        ∧ t.cnt .XBAR_PLANE_CELL_CNT p.val = s.cnt .XBAR_PLANE_CELL_CNT p.val + 1#64
        ∧ t.cnt .XBAR_OUT_CELL_CNT o.val = s.cnt .XBAR_OUT_CELL_CNT o.val)
      ∧ completes (.xbarCellArrive p o ⟨0#64, true⟩ .none) s fun t =>
        (reoOf t o.val x.src).held = (reoOf s o.val x.src).held ++ [{ x with bad := true }]
        ∧ SMap.getD t.xbar.spent (32 * x.src + o.val) 0 = SMap.getD s.xbar.spent (32 * x.src + o.val) 0 - 1
        ∧ t.cnt .XBAR_CELL_ERR_CNT p.val = s.cnt .XBAR_CELL_ERR_CNT p.val + 1#64)
    ∧ (x.xseq = (reoOf s o.val x.src).next → (reoOf s o.val x.src).held = [] →
      completes (.xbarCellArrive p o CellDamage.none .none) s fun t =>
        (reoOf t o.val x.src).held = [] ∧ (reoOf t o.val x.src).next = (x.xseq + 1) % 65536
        ∧ SMap.getD t.xbar.spent (32 * x.src + o.val) 0 = SMap.getD s.xbar.spent (32 * x.src + o.val) 0 - 1
        ∧ t.cnt .XBAR_PLANE_CELL_CNT p.val = s.cnt .XBAR_PLANE_CELL_CNT p.val + 1#64
        ∧ t.cnt .XBAR_OUT_CELL_CNT o.val = s.cnt .XBAR_OUT_CELL_CNT o.val + 1#64)
    ∧ (∀ d : CellDamage, readTag (tagWord x ^^^ d.flips.toNat) = none →
      completes (.xbarCellArrive p o d .none) s fun t =>
        t.xbar.reo = s.xbar.reo ∧ t.xbar.spent = s.xbar.spent
        ∧ SMap.getD t.xbar.cross (32 * p.val + o.val) [] = l
        ∧ t.cnt .XBAR_TAG_UNCORR_CNT p.val = s.cnt .XBAR_TAG_UNCORR_CNT p.val + 1#64))
  ∧ (∀ (s : State) (o i : Fin 32) (e : Nat) (x : XCell), s.Sound → (reoOf s o.val i.val).gapAt = some e →
    afterGap (reoOf s o.val i.val) = some x →
    (forwards s → e + min 1024 (max 1 (s.fld .XBAR_RESEQ_CFG_TIMEOUT_US)) * 1600 ≤ s.now →
      completes (.xbarReseqTimeout o i) s fun t =>
        t.cnt .XBAR_RESEQ_TIMEOUT_CNT o.val = s.cnt .XBAR_RESEQ_TIMEOUT_CNT o.val + 1#64
        ∧ (∀ y ∈ (reoOf t o.val i.val).held, y.xseq ≠ x.xseq)
        ∧ SMap.getD t.xbar.spent (32 * i.val + o.val) 0 ≤ SMap.getD s.xbar.spent (32 * i.val + o.val) 0
          - (x.xseq + 65536 - (reoOf s o.val i.val).next) % 65536)
    ∧ (s.now < e + min 1024 (max 1 (s.fld .XBAR_RESEQ_CFG_TIMEOUT_US)) * 1600 →
      exec (.xbarReseqTimeout o i) s = .next s))

/-- R136, R137: a draining plane whose queues are empty leaves service; a write to the fault marks clears the bits written 1, and
then every plane that is enabled and has no mark is in service and takes cells, or returns in the next cell time, and does so
when that time comes. -/
def Obligations.CrossbarPlanes : Prop :=
  (∀ (s : State) (p : Fin 16), s.Sound → planeDraining s p.val = true → (∀ e ∈ s.xbar.stage, e.1 % 16 ≠ p.val) →
    (∀ e ∈ s.xbar.cross, e.1 / 32 ≠ p.val) →
    completes (.xbarPlaneDrained p) s fun t =>
      planeOn t p.val = false ∧ planeDraining t p.val = false
      ∧ (∀ q < 16, q ≠ p.val → planeOn t q = planeOn s q ∧ planeDraining t q = planeDraining s q)
      ∧ s.Only t [] [Reg.off .XBAR_PLANE_STATUS] [])
  ∧ (∀ (s : State) (a : Agent) (v : Word), s.Sound → linked s →
    completes (.xbarFaultClear a v) s fun t =>
      t.reg .XBAR_PLANE_FAULT = s.reg .XBAR_PLANE_FAULT &&& ~~~v
      ∧ ∀ q < 16, (s.fld .XBAR_PLANE_CTRL_PLANE_EN).testBit q = true →
        (t.fld .XBAR_PLANE_FAULT_AUTO_OUT).testBit q = false →
        (planeOn t q = true ∧ planeDraining t q = false) ∨ ∃ e ∈ t.xbar.back, e.1 = q)
  ∧ (∀ (s t : State) (e : Nat × Nat), s.Sound → s.pending = [] → e ∈ s.xbar.back → e.1 < 16 → e.2 < (s.now + 1) / 4 →
    step s = .next t → planeOn t e.1 = true ∧ planeDraining t e.1 = false)

/-- R140, R141: an accepted carve empties the four HBM pools, zeroes the metadata region and shows BUSY; a refused one sets ERR with its code; a
START while one runs is logged; at its end DONE shows it, and buffer and tables-and-counters regions fill the HBM.
R157, R158: the scrub goes on to the next tile; a FREE tile that passes stays FREE and one that fails enters QUAR; a
tile in QUAR that fails is retired, counted; one that has passed often enough is FREE again, counted; a tile in use is
left alone. With EN 0 the scrub stands still, and while its request for a FREE tile waits it stays at that tile. -/
def Obligations.BufferCarveAndScrub : Prop :=
  (∀ (s : State) (a : Agent), s.Sound → linked s → s.flag .BUF_CARVE_STATUS_BUSY = false → carveErr s = 0 →
    retired s false = [] →
    completes (.bufCarve a) s fun t =>
      t.flag .BUF_CARVE_STATUS_BUSY = true ∧ t.flag .BUF_CARVE_STATUS_DONE = false
      ∧ (∀ p < 4, poolSize t p = s.fld .BUF_CARVE_TILES_TILES p
        ∧ (t.reg .BUF_POOL_FREE p).toNat = s.fld .BUF_CARVE_TILES_TILES p ∧ t.reg .BUF_POOL_ALLOC p = 0#32
        ∧ t.reg .BUF_POOL_QUAR p = 0#32 ∧ ∀ n < 2 ^ 28, tileOf t p n = none)
      ∧ (∀ n, tileOf t 4 n = tileOf s 4 n) ∧ ∀ p n, metaOf t p n = 0)
  ∧ (∀ (s : State) (a : Agent), s.Sound → linked s → s.flag .BUF_CARVE_STATUS_BUSY = false → carveErr s ≠ 0 →
    completes (.bufCarve a) s fun t =>
      t.flag .BUF_CARVE_CTRL_ERR = true ∧ t.fld .BUF_CARVE_STATUS_ERR_CODE = carveErr s
      ∧ s.Only t [.ctl] [Reg.off .BUF_CARVE_CTRL, Reg.off .BUF_CARVE_STATUS] [])
  ∧ (∀ (s : State) (a : Agent), s.Sound → linked s → s.flag .BUF_CARVE_STATUS_BUSY = true →
    completes (.bufCarve a) s fun t =>
      t.buf = s.buf ∧ t.cnt .SYS_ACCESS_FAULT_CNT = s.cnt .SYS_ACCESS_FAULT_CNT + 1#64)
  ∧ (∀ s : State, s.Sound → s.flag .BUF_CARVE_STATUS_BUSY = true →
    metaBase s.buf.carved + metaGib s.buf.carved ≤ hbmGib s →
    completes .bufCarveDone s fun t =>
      t.flag .BUF_CARVE_STATUS_BUSY = false ∧ t.flag .BUF_CARVE_STATUS_DONE = true
      ∧ t.fld .BUF_CARVE_STATUS_META_GIB = metaGib s.buf.carved
      ∧ t.fld .BUF_CARVE_STATUS_BUF_GIB + t.fld .BUF_CARVE_STATUS_TC_GIB = hbmGib s
      ∧ s.Only t [] [Reg.off .BUF_CARVE_STATUS] [])
  ∧ (∀ (s : State) (p n : Nat), s.Sound → forwards s → s.flag .BUF_SCRUB_CFG_EN = true →
    s.fld .BUF_SCRUB_STATUS_POOL = p → p < 5 → s.fld .BUF_SCRUB_STATUS_POSITION = n → n < poolSize s p →
    (tileOf s p n = none → (scrubTakes p n s).1 = true →
      completes (.scrubVisit true .none) s fun t => tileOf t p n = none)
    ∧ (∀ pass, tileOf s p n = none → (scrubTakes p n s).1 = false → completes (.scrubVisit pass .none) s fun t =>
      t.buf = s.buf ∧ t.fld .BUF_SCRUB_STATUS_POSITION = n)
    ∧ (tileOf s p n = none → (scrubTakes p n s).1 = true → completes (.scrubVisit false .none) s fun t =>
      tileOf t p n = some { quar := true } ∧ t.cnt .BUF_QUAR_CNT p = s.cnt .BUF_QUAR_CNT p + 1#64)
    ∧ (∀ x, tileOf s p n = some x → x.quar = true → x.retired = false →
      completes (.scrubVisit false .none) s fun t =>
        tileOf t p n = some { quar := true, retired := true } ∧ t.cnt .BUF_RETIRE_CNT p = s.cnt .BUF_RETIRE_CNT p + 1#64)
    ∧ (∀ x, tileOf s p n = some x → x.quar = true → x.retired = false →
      max 1 (s.fld .BUF_SCRUB_CFG_RELEASE_PASSES) ≤ x.passes + 1 →
      completes (.scrubVisit true .none) s fun t =>
        tileOf t p n = none ∧ t.cnt .BUF_QUAR_RELEASE_CNT p = s.cnt .BUF_QUAR_RELEASE_CNT p + 1#64)
    ∧ (∀ x pass, tileOf s p n = some x → x.quar = false →
      completes (.scrubVisit pass .none) s fun t => s.Only t [] [Reg.off .BUF_SCRUB_STATUS] []))
  ∧ (∀ (s : State) (pass : Bool) (n : Nat), s.Sound → forwards s → s.flag .BUF_SCRUB_CFG_EN = true →
    s.fld .BUF_SCRUB_STATUS_POOL = 4 → s.fld .BUF_SCRUB_STATUS_POSITION = n → n + 1 < 1572864 →
    (tileOf s 4 n = none → (scrubTakes 4 n s).1 = true) →
    completes (.scrubVisit pass .none) s fun t =>
      t.fld .BUF_SCRUB_STATUS_POOL = 4 ∧ t.fld .BUF_SCRUB_STATUS_POSITION = n + 1
      ∧ t.flag .BUF_SCRUB_STATUS_ACTIVE = true)
  ∧ (∀ (s : State) (pass : Bool) (e : BufError), s.Sound → forwards s → s.flag .BUF_SCRUB_CFG_EN = false →
    completes (.scrubVisit pass e) s fun t =>
      t.flag .BUF_SCRUB_STATUS_ACTIVE = false ∧ s.Only t [] [Reg.off .BUF_SCRUB_STATUS] [])

/-- R150 to R156: while spilling is active the oldest unit marked to spill moves into one HBM tile of the smallest pool that
holds it, counted, and its metadata record is written; where that pool has none it stays, counted; while the pool's port serves
another request it waits; a run that has been open for 1 µs closes; the first spilled unit comes back into pool D where its share
and a reservation allow it, counted, unless its cells or its record fail: then its tile is quarantined. -/
def Obligations.SpillAndRefill : Prop :=
  (∀ (s : State) (k : Fin 22528) (u : QUnit) (p : Nat), s.Sound → forwards s → spillActive s = true →
    (queueOf s k.val).units.find? spillNext = some u → p = spillPool u.cells.length →
    (∀ n, portTaken s p = false → spillRival s p (spillRank s (qXport k.val)) = false →
      hbmFree s.buf.tiles (notYet s s.now) p (poolSize s p) 0 = some n →
      completes (.spillUnit k {}) s fun t =>
        (∃ v ∈ (queueOf t k.val).units, v.hbm = some (p, n) ∧ v.cells.map (fun e => e.2) = u.cells.map (fun e => e.2))
        ∧ metaOf t p n = unitRecord s.buf.carved p n (u.cells.map (fun e => e.2))
        ∧ t.cnt .BUF_SPILL_UNIT_CNT (qXport k.val) = s.cnt .BUF_SPILL_UNIT_CNT (qXport k.val) + 1#64
        ∧ t.cnt .BUF_ALLOC_CNT p = s.cnt .BUF_ALLOC_CNT p + 1#64)
    ∧ (portTaken s p = false → spillRival s p (spillRank s (qXport k.val)) = false →
      hbmFree s.buf.tiles (notYet s s.now) p (poolSize s p) 0 = none →
      completes (.spillUnit k {}) s fun t =>
        t.buf = s.buf ∧ (queueOf t k.val).bound = !decide (qOnDie t k.val ≤ qShare t k.val)
        ∧ t.cnt .BUF_SPILL_NOBUF_CNT (qXport k.val) = s.cnt .BUF_SPILL_NOBUF_CNT (qXport k.val) + 1#64)
    ∧ (portTaken s p = true → 1 ≤ hbmReady s p → completes (.spillUnit k {}) s fun t =>
        t.buf = s.buf ∧ t.tm = s.tm ∧ t.cnt .BUF_ALLOC_WAIT_CNT p = s.cnt .BUF_ALLOC_WAIT_CNT p + 1#64))
  ∧ (∀ (s : State) (k : Fin 22528) (u : QUnit), s.Sound → forwards s → 2048 ≤ k.val →
    (queueOf s k.val).units.find? (fun u => !u.closed) = some u → u.at_ + 1600 ≤ s.now →
    completes (.spillUnitClose k) s fun t =>
      ∃ v ∈ (queueOf t k.val).units, v.closed = true ∧ v.cells = u.cells ∧ v.n = u.n)
  ∧ (∀ (s : State) (k : Fin 22528) (u : QUnit) (p n : Nat), s.Sound → forwards s → refillNext s k.val = some u →
    u.hbm = some (p, n) →
    ((reserveTurn (160 + qXport k.val) u.cells.length true s).1 = true →
      (recordOk s.buf.carved p n (metaOf s p n) (u.cells.map (fun e => e.2)) = true →
        completes (.refillUnit k {}) s fun t =>
          (∃ v ∈ (queueOf t k.val).units, v.hbm = none ∧ v.spill = false ∧ v.cells.length = u.cells.length)
          ∧ t.cnt .BUF_REFILL_UNIT_CNT (qXport k.val) = s.cnt .BUF_REFILL_UNIT_CNT (qXport k.val) + 1#64)
      ∧ (∀ flips bad, (bad = true
          ∨ recordOk s.buf.carved p n (metaOf s p n ^^^ flips.toNat) (u.cells.map (fun e => e.2)) = false) →
        completes (.refillUnit k ⟨flips, bad, .none⟩) s fun t =>
          tileOf t p n = some { quar := true } ∧ t.cnt .BUF_QUAR_CNT p = s.cnt .BUF_QUAR_CNT p + 1#64))
    ∧ ((reserveTurn (160 + qXport k.val) u.cells.length true s).1 = false →
      completes (.refillUnit k {}) s fun t =>
        t.tm = s.tm ∧ t.buf = s.buf
        ∧ t.cnt .BUF_REFILL_WAIT_CNT (qXport k.val) = s.cnt .BUF_REFILL_WAIT_CNT (qXport k.val) + 1#64))

/-! ### Shapers, policers and the weather (chapter 7) -/

/-- R171 to R173: at its refresh a shaper whose MODE changes is zeroed. Otherwise a credit shaper whose queue is busy,
or whose credit is negative, gains IDLE_INC up to HI_CREDIT, and any other loses a credit above 0; a two-bucket shaper
fills both buckets up to their sizes. It refreshes once, at a multiple of 64 core clocks. While a cut-through frame of unknown
length is in transmission the refresh is kept with its settings, to be made when the length is known (log 56). R174, R175: at its clock,
and at no other, policer i takes its settings and fills its bucket by RATE_INC up to BURST; a policer that becomes
enabled starts full. -/
def Obligations.ShaperAndPolicerRefresh : Prop :=
  (∀ (s : State) (i : Fin 2304), s.Sound → s.now % 64 = 0 → (shaperOf s i.val).last ≠ s.now + 1 →
    shaperOwes s i.val = false →
    completes (.shaperRefresh i) s fun t =>
      (shaperOf t i.val).mode = (shaperRegs s i.val).mode ∧ (shaperOf t i.val).last = s.now + 1
      ∧ ((shaperOf s i.val).mode ≠ (shaperRegs s i.val).mode →
        (shaperOf t i.val).c = 0 ∧ (shaperOf t i.val).tc = 0 ∧ (shaperOf t i.val).tp = 0)
      ∧ ((shaperOf s i.val).mode = (shaperRegs s i.val).mode → (shaperRegs s i.val).mode = 1 →
        (shaperBusy s i.val = true ∨ (shaperOf s i.val).c < 0 → (shaperOf t i.val).c
          = min ((shaperOf s i.val).c + (shaperRegs s i.val).inc) (65536 * (shaperRegs s i.val).hi))
        ∧ (shaperBusy s i.val = false → 0 ≤ (shaperOf s i.val).c → (shaperOf t i.val).c = 0))
      ∧ ((shaperOf s i.val).mode = (shaperRegs s i.val).mode → (shaperRegs s i.val).mode = 2 → 256 ≤ i.val →
        (shaperOf t i.val).tc = min ((shaperOf s i.val).tc + (shaperRegs s i.val).inc) (65536 * (shaperRegs s i.val).hi)
        ∧ (shaperOf t i.val).tp = min ((shaperOf s i.val).tp + (shaperRegs s i.val).pir) (65536 * (shaperRegs s i.val).lo)))
  ∧ (∀ (s : State) (i : Fin 2304), s.Sound → s.now % 64 = 0 → (shaperOf s i.val).last ≠ s.now + 1 →
    shaperOwes s i.val = true →
    completes (.shaperRefresh i) s fun t =>
      shaperOf t i.val = { shaperOf s i.val with
        last := s.now + 1
        late := (shaperOf s i.val).late ++ [((shaperRegs s i.val).mode, (shaperRegs s i.val).inc, (shaperRegs s i.val).pir,
          (shaperRegs s i.val).hi, (shaperRegs s i.val).lo)] })
  ∧ (∀ (s : State) (i : Fin 2304), s.now % 64 ≠ 0 → exec (.shaperRefresh i) s = .next s)
  ∧ (∀ (s : State) (i : Fin 65536), s.Sound → s.now % 4096 = i.val / 16 → (polOf s i.val).last ≠ s.now + 1 →
    completes (.policerRefresh i) s fun t =>
      (polOf t i.val).en = s.flag .TM_POL_B_EN i.val
      ∧ (polOf t i.val).bucket
        = (if s.flag .TM_POL_B_EN i.val = true ∧ (polOf s i.val).en = false then 8192 * s.fld .TM_POL_B_BURST i.val
          else min ((polOf s i.val).bucket + s.fld .TM_POL_A_RATE_INC i.val) (8192 * s.fld .TM_POL_B_BURST i.val))
      ∧ (polOf t i.val).pass = (polOf s i.val).pass ∧ (polOf t i.val).drop = (polOf s i.val).drop
      ∧ (∀ j, j ≠ i.val → polOf t j = polOf s j) ∧ s.Only t [.tm] [] [])
  ∧ (∀ (s : State) (i : Fin 65536), s.now % 4096 ≠ i.val / 16 → exec (.policerRefresh i) s = .next s)

/-- R179, R181, R182: in the core clock in which the time counter reaches a multiple of PERIOD_US, once, every enabled watch entry,
at most 64 for each microsecond of the period, makes a record, and the sequence number counts it; more entries show OVERCOMMIT.
Otherwise, and while headless, nothing is sampled. -/
def Obligations.WeatherSample : Prop :=
  (∀ s : State, s.Sound → s.flag .TM_WX_CFG_EN = true → s.flag .SYS_PLANE_STATE_HEADLESS = false →
    wxCount s s.time.before < wxCount s s.time.ts → s.tm.wxAt ≠ s.now + 1 →
    completes .wxSample s fun t =>
      t.tm.wxSeq = s.tm.wxSeq + min (64 * wxPeriod s) (wxEntries s).length
      ∧ t.tm.wxAt = s.now + 1
      ∧ t.fld .TM_WX_STATUS_ACTIVE = min (64 * wxPeriod s) (wxEntries s).length
      ∧ t.flag .TM_WX_STATUS_OVERCOMMIT = decide (64 * wxPeriod s < (wxEntries s).length))
  ∧ (∀ s : State, s.flag .TM_WX_CFG_EN = false ∨ s.flag .SYS_PLANE_STATE_HEADLESS = true
      ∨ wxCount s s.time.ts ≤ wxCount s s.time.before ∨ s.tm.wxAt = s.now + 1 → exec .wxSample s = .next s)

/-! ### The sky (chapters 8 to 11) -/

/-- R20, R23, R185, R199, R253: setting EN in OFF leaves it for LISTEN, with the dark cause MAP, where the oscillator is ready and
the configuration valid; with an invalid one it sets CFG_ERR. Clearing EN enters OFF: the lease is released, the deskew store
is empty, and sky time is not valid; any other write only sets EN. A key-guarded write to SKY_TX_EN sets TX_OFF to the inverse
of EN; without its key it is only logged, and so is one that a write of the keeper core beats in the same register clock. -/
def Obligations.SkyControl : Prop :=
  (∀ (s : State) (a : Agent) (v : Word), s.Sound → linked s → Fld.SKY_CTRL_EN.get v = 1 → skyState s = 0 →
    (skyCfgOk s = true → s.flag .PWR_STATUS_OVEN_READY = true → completes (.skyCtrlWrite a v) s fun t =>
      skyState t = 1 ∧ t.flag .SKY_CTRL_EN = true ∧ t.flag .SKY_STATE_MAP = true ∧ t.flag .SKYT_STATUS_VALID = false
      ∧ t.flag .SKYT_STATUS_STEPPED = false ∧ t.time.heldAt = none ∧ ∀ d < 128, present t d = false)
    ∧ (skyCfgOk s = true → s.flag .PWR_STATUS_OVEN_READY = false → completes (.skyCtrlWrite a v) s fun t =>
      t.flag .SKY_CTRL_EN = true ∧ skyState t = 0 ∧ s.Only t [.ctl] [Reg.off .SKY_CTRL] [])
    ∧ (skyCfgOk s = false → completes (.skyCtrlWrite a v) s fun t =>
      t.flag .SKY_STATE_CFG_ERR = true ∧ skyState t = 0
      ∧ s.Only t [.ctl] [Reg.off .SKY_CTRL, Reg.off .SKY_STATE] []))
  ∧ (∀ (s : State) (a : Agent) (v : Word), s.Sound → linked s → Fld.SKY_CTRL_EN.get v = 0 → skyState s ≠ 0 →
    completes (.skyCtrlWrite a v) s fun t =>
      skyState t = 0 ∧ t.flag .SKY_CTRL_EN = false ∧ t.flag .SKYT_STATUS_VALID = false ∧ t.time.heldAt = none
      ∧ t.sky.desk = [])
  ∧ (∀ (s : State) (a : Agent) (v : Word), s.Sound → linked s →
    (Fld.SKY_CTRL_EN.get v = 0 ∧ skyState s = 0 ∨ Fld.SKY_CTRL_EN.get v = 1 ∧ skyState s ≠ 0) →
    completes (.skyCtrlWrite a v) s fun t =>
      t.fld .SKY_CTRL_EN = Fld.SKY_CTRL_EN.get v ∧ s.Only t [.ctl] [Reg.off .SKY_CTRL] [])
  ∧ (∀ (s : State) (a : Agent) (v : Word), s.Sound → linked s →
    (keyOpen s a = true → (a = .keeper ∨ keeperWins s (Reg.off .SKY_TX_EN) = false) →
      completes (.skyTxEnWrite a v) s fun t =>
        t.fld .SKY_TX_EN_EN = Fld.SKY_TX_EN_EN.get v ∧ t.fld .SKY_STATE_TX_OFF = 1 - Fld.SKY_TX_EN_EN.get v
        ∧ keyOpen t a = false ∧ s.Only t [.ctl] [Reg.off .SKY_TX_EN, Reg.off .SKY_STATE] [])
    ∧ (keyOpen s a = true → a ≠ .keeper → keeperWins s (Reg.off .SKY_TX_EN) = true →
      completes (.skyTxEnWrite a v) s fun t =>
        keyOpen t a = false ∧ faultLogged s t 6 a 2 0 (Reg.off .SKY_TX_EN) ∧ s.Only t [.sys, .ctl] faultRegs faultCnts)
    ∧ (keyOpen s a = false → completes (.skyTxEnWrite a v) s fun t =>
        faultLogged s t 3 a 2 0 (Reg.off .SKY_TX_EN) ∧ s.Only t [.sys, .ctl] faultRegs faultCnts))

/-- R4, R249 to R251: a guarded write sets the lane enables, and no lane that has stopped keeps a chosen cell or sends before a
selection; a lane that the part lacks takes no write. A laser fault stops its lane, counted and recorded; a lane on which two
sync slots have passed without a burst shows RXLOS, counted and recorded. -/
def Obligations.SkyLanes : Prop :=
  (∀ (s : State) (a : Agent) (i : Fin 8) (v : Word), s.Sound → linked s → keyOpen s a = true →
    (a = .keeper ∨ keeperWins s (Reg.off .SKY_LANE_EN i) = false) → ¬(s.sys.part = .s1024 ∧ 4 ≤ i.val) →
    completes (.laneEnWrite a i v) s fun t =>
      t.reg .SKY_LANE_EN i.val = v
      ∧ ∀ n, laneStopped t n = true → (slane t n).chosen = [] ∧ (slane t n).live = false)
  ∧ (∀ (s : State) (a : Agent) (i : Fin 8) (v : Word), s.Sound → s.sys.part = .s1024 → 4 ≤ i.val →
    completes (.laneEnWrite a i v) s fun t => s.Only t [.ctl] [] [])
  ∧ (∀ (s : State) (n : Fin 256), s.Sound → n.val < skyLanes s →
    completes (.laneTxFault n) s fun t =>
      (t.reg .SKY_LANE_FAULT (n.val / 32)).toNat.testBit (n.val % 32) = true
      ∧ (∀ k, laneStopped t k = true → (slane t k).chosen = [] ∧ (slane t k).live = false)
      ∧ t.cnt .SKY_LANE_TXFAULT_CNT = s.cnt .SKY_LANE_TXFAULT_CNT + 1#64)
  ∧ (∀ (s : State) (n : Fin 256), s.Sound → 2 ≤ skyState s → n.val < skyLanes s →
    (s.reg .SKY_LANE_RXLOS (n.val / 32)).toNat.testBit (n.val % 32) = false →
    (slane s n.val).syncAt + 2 ≤ syncEnded s n.val → s.sky.since + 2 ≤ syncEnded s n.val →
    completes (.laneRxlos n) s fun t =>
      (t.reg .SKY_LANE_RXLOS (n.val / 32)).toNat.testBit (n.val % 32) = true
      ∧ t.cnt .SKY_LANE_RXLOS_CNT = s.cnt .SKY_LANE_RXLOS_CNT + 1#64
      ∧ t.host.recq = s.host.recq ++ [.notes [faultRec s 0x0C n.val 0 0]]
      ∧ s.Only t [.host, .hlt] [Reg.off .SKY_LANE_RXLOS (n.val / 32)] [Cnt.off .SKY_LANE_RXLOS_CNT])

/-- R190: an arm command starts the check on the bank, the map ID and the epoch as they stand, and is logged while a
check runs; a check that finds no error arms the bank; any other shows its code, is counted, and arms nothing. R191:
an armed bank becomes the active one at its epoch, counted, and not before; a disarm before that clears ARMED, and a
later one only shows DISARM_LATE. -/
def Obligations.MapArmingAndApplication : Prop :=
  (∀ (s : State) (a : Agent), s.Sound → linked s →
    (s.flag .SKY_MAP_STATUS_VALIDATING = false → completes (.mapArm a) s fun t =>
      t.flag .SKY_MAP_STATUS_VALIDATING = true
      ∧ t.sky.arming = some (s.now, s.fld .SKY_MAP_ARM_BANK, s.fld .SKY_MAP_ARM_MAP_ID, applyReg s)
      ∧ s.Only t [.sky, .ctl] [Reg.off .SKY_MAP_STATUS] [])
    ∧ (s.flag .SKY_MAP_STATUS_VALIDATING = true → completes (.mapArm a) s fun t =>
      faultLogged s t 4 a 2 0 (Reg.off .SKY_MAP_CTRL) ∧ s.Only t [.sys, .ctl] faultRegs faultCnts))
  ∧ (∀ (s : State) (c b id ea : Nat), s.Sound → s.sky.arming = some (c, b, id, ea) → b < 2 → id < 256 →
    (armErr s b id ea = (0, none) → completes .mapArmCheckDone s fun t =>
      t.flag .SKY_MAP_STATUS_VALIDATING = false ∧ t.flag .SKY_MAP_STATUS_ARMED = true
      ∧ t.fld .SKY_MAP_STATUS_ARM_ERR = 0 ∧ t.fld .SKY_MAP_STATUS_ARMED_BANK = b
      ∧ t.fld .SKY_MAP_STATUS_ARMED_MAP_ID = id ∧ t.sky.applyAt = ea
      ∧ activeMap t = activeMap s ∧ s.Only t [.sky] [Reg.off .SKY_MAP_STATUS] [])
    ∧ ((armErr s b id ea).1 ≠ 0 → completes .mapArmCheckDone s fun t =>
      t.flag .SKY_MAP_STATUS_VALIDATING = false ∧ t.flag .SKY_MAP_STATUS_ARMED = s.flag .SKY_MAP_STATUS_ARMED
      ∧ t.fld .SKY_MAP_STATUS_ARM_ERR = (armErr s b id ea).1 ∧ activeMap t = activeMap s
      ∧ t.cnt .SKY_MAP_ARM_REFUSE_CNT = s.cnt .SKY_MAP_ARM_REFUSE_CNT + 1#64))
  ∧ (∀ s : State, s.Sound → s.flag .SKY_MAP_STATUS_ARMED = true → s.sky.applyAt ≤ curEpoch s →
    completes .mapApply s fun t =>
      activeMap t = s.fld .SKY_MAP_STATUS_ARMED_BANK
      ∧ t.fld .SKY_MAP_STATUS_ACTIVE_MAP_ID = s.fld .SKY_MAP_STATUS_ARMED_MAP_ID
      ∧ t.flag .SKY_MAP_STATUS_ARMED = false
      ∧ t.cnt .SKY_MAP_APPLY_CNT = s.cnt .SKY_MAP_APPLY_CNT + 1#64
      ∧ s.Only t [.sky] [Reg.off .SKY_MAP_STATUS] [Cnt.off .SKY_MAP_APPLY_CNT])
  ∧ (∀ s : State, s.flag .SKY_MAP_STATUS_ARMED = false ∨ curEpoch s < s.sky.applyAt → exec .mapApply s = .next s)
  ∧ (∀ (s : State) (a : Agent), s.Sound → linked s → s.flag .SKY_MAP_STATUS_ARMED = true →
    (curEpoch s < s.sky.applyAt → completes (.mapDisarm a) s fun t =>
      t.flag .SKY_MAP_STATUS_ARMED = false ∧ activeMap t = activeMap s
      ∧ t.fld .SKY_MAP_STATUS_ACTIVE_MAP_ID = s.fld .SKY_MAP_STATUS_ACTIVE_MAP_ID
      ∧ s.Only t [.ctl] [Reg.off .SKY_MAP_STATUS] [])
    ∧ (s.sky.applyAt ≤ curEpoch s → completes (.mapDisarm a) s fun t =>
      activeMap t = s.fld .SKY_MAP_STATUS_ARMED_BANK ∧ t.flag .SKY_MAP_STATUS_DISARM_LATE = true
      ∧ s.Only t [.sky, .ctl] [Reg.off .SKY_MAP_STATUS] [Cnt.off .SKY_MAP_APPLY_CNT]))

/-- R193, R199, R267, R269: the start of an epoch is processed once, and shows whether the active map is the sky's; a joined module
goes dark where a dark cause is set and stays joined otherwise; a joining one goes dark on a cause that only a rejoin clears, or
on TX_OFF, and waits on any other; a listening one that has stepped and may send joins; a founder takes the lease then; an epoch
that begins dark is counted. The dark count is taken after the change of state (log 32). -/
def Obligations.EpochBoundary : Prop :=
  (∀ (s : State) (root oven : Nat), s.Sound → s.sky.epoch ≠ curEpoch s →
    completes (.epochStart root oven) s fun t =>
      t.sky.epoch = curEpoch s ∧ t.sky.mapOld = mapsBefore s (curEpoch s)
      ∧ t.flag .SKY_STATE_MAP = (t.sky.mapNow != some (t.fld .SKY_MAP_STATUS_ACTIVE_MAP_ID))
      ∧ (skyState s = 0 → skyState t = 0)
      ∧ (skyState s = 1 → s.flag .SKYT_STATUS_STEPPED = true → s.flag .SKY_TX_EN_EN = true → skyState t = 2)
      ∧ (skyState s = 1 → s.flag .SKYT_STATUS_STEPPED = true → s.sky.founding = true →
        t.sky.founding = false ∧ t.cnt .SKYT_TAKEOVER_CNT = s.cnt .SKYT_TAKEOVER_CNT + 1#64)
      ∧ (skyState s = 1 → s.flag .SKYT_STATUS_STEPPED = false ∨ s.flag .SKY_TX_EN_EN = false → skyState t = 1)
      ∧ (skyState s = 2 → mustRejoin t = true ∨ t.flag .SKY_STATE_TX_OFF = true → skyState t = 4)
      ∧ (skyState s = 2 → mustRejoin t = false → t.flag .SKY_STATE_TX_OFF = false → darkAny t = true → skyState t = 2)
      ∧ (skyState s = 2 → darkAny t = false → skyState t = 2 ∨ skyState t = 3)
      ∧ (skyState s = 3 → skyState t = if darkAny t then 4 else 3)
      ∧ (skyState s = 4 → darkAny t = true → skyState t = 4)
      ∧ (skyState s = 4 → darkAny t = false → skyState t = 2 ∨ skyState t = 3)
      ∧ t.cnt .SKY_DARK_EPOCH_CNT
          = s.cnt .SKY_DARK_EPOCH_CNT + (if 2 ≤ skyState t ∧ darkAny t = true then 1#64 else 0#64))
  ∧ (∀ (s : State) (root oven : Nat), s.sky.epoch = curEpoch s → exec (.epochStart root oven) s = .next s)

/-- R187, R195, R215, R221, R235, R249, R263: in the sync slot a lane sends one burst, to the module of its rotation; in a data slot
it sends the burst of its chosen cells to the module of the active map, or none; a burst is counted and sent on the channel of
its destination at its launch instant, and the lane sends no second one in the slot. SLOT_FILL opens the lanes of its pipeline that
have not stopped, and chooses for each of them. That undefined bytes are free values is the model's choice (log 1, log 34). -/
def Obligations.SkyBursts : Prop :=
  (∀ (s : State) (n : Fin 256), s.Sound → (curSlot s).slot = 0 → epochOpen s = true → syncState s = true →
    laneUp s n.val = true → (slane s n.val).sent ≠ some (curSlot s) →
    completes (.syncSlotTx n) s fun t =>
      (slane t n.val).sent = some (curSlot s)
      ∧ t.cnt .SKY_TX_BURST_CNT (n.val / 16) = s.cnt .SKY_TX_BURST_CNT (n.val / 16) + 1#64
      ∧ ∃ half hdr cells line, t.out = .burst n.val (channel s n.val (rotation s (curSlot s).epoch n.val)) half hdr cells line
          (launchAt s (curSlot s) n.val) :: s.out)
  ∧ (∀ (s : State) (n : Fin 256) (bad : List Nat), (slane s n.val).sent = some (curSlot s) →
    exec (.syncSlotTx n) s = .next s ∧ exec (.dataSlotTx n bad) s = .next s)
  ∧ (∀ (s : State) (n : Fin 256) (d : Nat), s.Sound → (curSlot s).slot ≠ 0 → epochOpen s = true → n.val < skyLanes s →
    (slane s n.val).sent ≠ some (curSlot s) → laneDest s n.val (curSlot s) = some d → mayBurst s n.val = true →
    (peerServes s n.val d = true → completes (.dataSlotTx n []) s fun t =>
      (slane t n.val).sent = some (curSlot s) ∧ (slane t n.val).chosen = []
      ∧ t.cnt .SKY_TX_BURST_CNT (n.val / 16) = s.cnt .SKY_TX_BURST_CNT (n.val / 16) + 1#64
      ∧ ∃ half hdr cells line,
          t.out = .burst n.val (channel s n.val d) half hdr cells line (launchAt s (curSlot s) n.val) :: s.out)
    ∧ (peerServes s n.val d = false → ∀ bad, completes (.dataSlotTx n bad) s fun t =>
      (slane t n.val).sent = some (curSlot s) ∧ (slane t n.val).chosen = [] ∧ t.out = s.out
      ∧ t.cnt .SKY_NO_PEER_SLOT_CNT (n.val / 16) = s.cnt .SKY_NO_PEER_SLOT_CNT (n.val / 16) + 1#64))
  ∧ (∀ (s : State) (n : Fin 256) (bad : List Nat), s.Sound → (curSlot s).slot ≠ 0 → epochOpen s = true →
    n.val < skyLanes s → (slane s n.val).sent ≠ some (curSlot s) →
    (laneDest s n.val (curSlot s) = none ∨ mayBurst s n.val = false) →
    completes (.dataSlotTx n bad) s fun t =>
      (slane t n.val).sent = some (curSlot s) ∧ (slane t n.val).chosen = [] ∧ t.out = s.out
      ∧ t.cnt .SKY_TX_BURST_CNT (n.val / 16) = s.cnt .SKY_TX_BURST_CNT (n.val / 16))
  ∧ (∀ (s : State) (p : Fin 16), s.Sound →
    completes (.slotFill p) s fun t => ∀ i < 16,
      (slane t (16 * p.val + i)).live = !laneStopped s (16 * p.val + i)
      ∧ ((nextSlot s (curSlot s)).slot ≠ 0 → epochOpen s = true →
        (slane t (16 * p.val + i)).fill = some (nextSlot s (curSlot s))))

/-- R204, R208, R224: a received burst counts at the first step that it fails: no SYNC, a bad header, a bad format, another lane,
or the wrong slot; one that passes them counts as received. Its header is the one that the receiver decodes from its bytes.
Which step counts what follows the model's readings (log 35). -/
def Obligations.SkyReception : Prop :=
  ∀ (s : State) (n : Fin 256) (b : RxBurst), s.Sound → forwards s → skyState s ≠ 0 → n.val < skyLanes s →
    (syncFound s n.val b = false → completes (.skyBurstRx n b) s fun t =>
      t.cnt .SKY_RX_NOSYNC_CNT (n.val / 16) = s.cnt .SKY_RX_NOSYNC_CNT (n.val / 16) + 1#64
      ∧ t.sky.desk = s.sky.desk)
    ∧ (syncFound s n.val b = true → hdrDecodes b = false ∨ hdrCrcOk b.hdrData = false →
      completes (.skyBurstRx n b) s fun t =>
        t.cnt .SKY_RX_HDR_ERR_CNT (n.val / 16) = s.cnt .SKY_RX_HDR_ERR_CNT (n.val / 16) + 1#64
        ∧ t.sky.desk = s.sky.desk)
    ∧ (syncFound s n.val b = true → hdrDecodes b = true → hdrCrcOk b.hdrData = true →
      (hdrField b.hdrData 479 472 ≠ 3 ∧ hdrField b.hdrData 479 472 ≠ 4) ∨ hdrField b.hdrData 471 465 = ownMod s
        ∨ skySize s ≤ hdrField b.hdrData 471 465 →
      completes (.skyBurstRx n b) s fun t =>
        t.cnt .SKY_RX_FORMAT_ERR_CNT (n.val / 16) = s.cnt .SKY_RX_FORMAT_ERR_CNT (n.val / 16) + 1#64
        ∧ t.sky.desk = s.sky.desk)
    ∧ (syncFound s n.val b = true → hdrDecodes b = true → hdrCrcOk b.hdrData = true →
      hdrField b.hdrData 479 472 = 3 ∨ hdrField b.hdrData 479 472 = 4 → hdrField b.hdrData 471 465 ≠ ownMod s →
      hdrField b.hdrData 471 465 < skySize s →
      (hdrField b.hdrData 463 456 ≠ n.val → completes (.skyBurstRx n b) s fun t =>
        t.cnt .SKY_RX_LANE_ERR_CNT (n.val / 16) = s.cnt .SKY_RX_LANE_ERR_CNT (n.val / 16) + 1#64
        ∧ t.sky.desk = s.sky.desk)
      ∧ (hdrField b.hdrData 463 456 = n.val → timed s = true → expectedSlot s n.val b.rxTs
          ≠ ⟨burstEpoch s (hdrField b.hdrData 455 440), hdrField b.hdrData 439 432⟩ →
        completes (.skyBurstRx n b) s fun t =>
          t.cnt .SKY_RX_TIMING_ERR_CNT (n.val / 16) = s.cnt .SKY_RX_TIMING_ERR_CNT (n.val / 16) + 1#64
          ∧ t.sky.desk = s.sky.desk)
      ∧ (hdrField b.hdrData 463 456 = n.val → timed s = false ∨ expectedSlot s n.val b.rxTs
          = ⟨burstEpoch s (hdrField b.hdrData 455 440), hdrField b.hdrData 439 432⟩ →
        completes (.skyBurstRx n b) s fun t =>
          t.cnt .SKY_RX_BURST_CNT (n.val / 16) = s.cnt .SKY_RX_BURST_CNT (n.val / 16) + 1#64))

/-- R196, R228, R246, R252: the cells of the oldest slot leave the deskew store together once the slot has ended; a stream with a
cell held beyond the horizon, and no other, declares the lowest gap lost and goes on from the cell after it; a peer whose hello
frames have ceased is absent, and no credit is held from it. -/
def Obligations.SkyDelivery : Prop :=
  (∀ (s : State) (x : SlotId), s.Sound → forwards s → oldestSlot s.sky.desk = some x → slotEnded s x = true →
    completes .deskewRelease s fun t => t.sky.desk = s.sky.desk.filter (fun k => k.slot != x))
  ∧ (∀ (s : State) (x : SlotId), oldestSlot s.sky.desk = some x → slotEnded s x = false →
    exec .deskewRelease s = .next s)
  ∧ (∀ (s : State) (src : Fin 128) (c : Fin 8) (m : Held), s.Sound → forwards s →
    (∃ h ∈ (reseqOf s src.val c.val).held, h.at_ + horizonClk s ≤ s.now) →
    nearest (reseqOf s src.val c.val) = some m →
    completes (.reseqHorizonExpiry src c) s fun t =>
      (∀ h ∈ (reseqOf t src.val c.val).held, h.seq ≠ m.seq)
      ∧ t.cnt .SKY_PAIR_LOST_CNT src.val
          = s.cnt .SKY_PAIR_LOST_CNT src.val + BitVec.ofNat 64 (ahead m.seq (reseqOf s src.val c.val).next)
      ∧ t.cnt .SKY_PAIR_FRAME_DISCARD_CNT src.val = s.cnt .SKY_PAIR_FRAME_DISCARD_CNT src.val + 1#64)
  ∧ (∀ (s : State) (src : Fin 128) (c : Fin 8), (∀ h ∈ (reseqOf s src.val c.val).held, s.now < h.at_ + horizonClk s) →
    exec (.reseqHorizonExpiry src c) s = .next s)
  ∧ (∀ (s : State) (d : Fin 128), s.Sound → present s d.val = true →
    ((pairOf s d.val).hello + max 1 (s.fld .SKY_PEER_CFG_TIMEOUT) < s.sky.epoch →
      completes (.peerTimeout d) s fun t => present t d.val = false ∧ t.reg .SKY_CREDIT_HELD d.val = 0#32)
    ∧ (s.sky.epoch ≤ (pairOf s d.val).hello + max 1 (s.fld .SKY_PEER_CFG_TIMEOUT) →
      exec (.peerTimeout d) s = .next s))

/-- R20, R265 to R267: a listening module that has heard four epochs of a holder on eight lanes steps its counter, once; one that has
heard none for its time is ready to found; the key-guarded founding write steps the counter to the written value where
the module is ready, and is refused, counted and logged where it is not. -/
def Obligations.JoinAndFound : Prop :=
  (∀ s : State, s.Sound → skyState s = 1 → s.flag .SKYT_STATUS_STEPPED = false → 4 ≤ s.time.run →
    8 ≤ (joinMarks s).length →
    completes .joinStep s fun t =>
      t.flag .SKYT_STATUS_STEPPED = true ∧ t.flag .SKYT_STATUS_VALID = true ∧ t.reg .SKYT_RATE = 0#32
      ∧ t.reg .SKYT_OFFSET = 0#32 ∧ t.time.th = 0 ∧ t.time.f = 0 ∧ skyState t = 1
      ∧ t.cnt .SKYT_STEP_CNT = s.cnt .SKYT_STEP_CNT + 1#64)
  ∧ (∀ s : State, s.flag .SKYT_STATUS_STEPPED = true → exec .joinStep s = .next s)
  ∧ (∀ s : State, s.Sound → skyState s = 1 → s.flag .SKYT_STATUS_STEPPED = false →
    (s.time.role = 1 ∧ s.time.heardAt + 2048 ≤ s.sky.epoch ∨ s.time.role = 2 ∧ s.time.heardAt + 4096 ≤ s.sky.epoch) →
    completes .foundReadySet s fun t =>
      t.flag .SKYT_STATUS_FOUND_READY = true ∧ s.Only t [] [Reg.off .SKYT_STATUS] [])
  ∧ (∀ (s : State) (a : Agent), s.Sound → linked s →
    (keyOpen s a = true → (a = .keeper ∨ keeperWins s (Reg.off .SKYT_STEP_CTRL) = false) →
      (s.flag .SKYT_STATUS_FOUND_READY = true → s.flag .SKYT_STATUS_STEPPED = false →
        completes (.foundStep a) s fun t =>
          t.time.ts = s.reg64 .SKYT_STEP_LO .SKYT_STEP_HI * 2 ^ 48 ∧ t.flag .SKYT_STATUS_STEPPED = true
          ∧ t.flag .SKYT_STATUS_VALID = true ∧ t.flag .SKYT_STATUS_FOUND_READY = false ∧ t.sky.founding = true
          ∧ t.time.founder = true ∧ t.cnt .SKYT_STEP_CNT = s.cnt .SKYT_STEP_CNT + 1#64)
      ∧ (s.flag .SKYT_STATUS_FOUND_READY = false ∨ s.flag .SKYT_STATUS_STEPPED = true →
        completes (.foundStep a) s fun t =>
          t.time = s.time ∧ t.flag .SKYT_STATUS_STEP_REFUSED = true
          ∧ t.cnt .SKYT_STEP_REFUSED_CNT = s.cnt .SKYT_STEP_REFUSED_CNT + 1#64
          ∧ faultLogged s t 4 a 2 0 (Reg.off .SKYT_STEP_CTRL)))
    ∧ (keyOpen s a = false → completes (.foundStep a) s fun t =>
        faultLogged s t 3 a 2 0 (Reg.off .SKYT_STEP_CTRL) ∧ s.Only t [.sys, .ctl] faultRegs faultCnts))

/-- R269, R271: a candidate whose turn has come takes the lease for 1,024 epochs; a holder that passes its diagnosis renews it
every 256 epochs; a holder not renewed stops 64 epochs before its lease ends; a new holder that fewer than half of the
present modules echo gives the lease up. -/
def Obligations.ZenithLease : Prop :=
  (∀ s : State, s.Sound → epochOpen s = true → mayTake s s.sky.epoch = true →
    completes .leaseTakeover s fun t =>
      t.time.heldAt = some s.sky.epoch ∧ t.time.ownEnd = s.sky.epoch + 1024 ∧ t.flag .SKYT_LEASE_HELD = true
      ∧ t.cnt .SKYT_TAKEOVER_CNT = s.cnt .SKYT_TAKEOVER_CNT + 1#64)
  ∧ (∀ (s : State) (e : Nat), s.Sound → s.time.heldAt = some e → epochOpen s = true → (s.sky.epoch - e) % 256 = 0 →
    s.time.role ≠ 0 → s.time.diag = 0 →
    completes .leaseRenew s fun t =>
      t.time.heldAt = some e ∧ t.time.ownEnd = s.sky.epoch + 1024
      ∧ t.reg64 .SKYT_LEASE_END_LO .SKYT_LEASE_END_HI = (s.sky.epoch + 1024) % 2 ^ 48)
  ∧ (∀ (s : State) (e : Nat), s.Sound → s.time.heldAt = some e →
    (s.time.ownEnd ≤ s.sky.epoch + 64 → completes .leaseLapse s fun t =>
      t.time.heldAt = none ∧ t.time.relEnd = some s.time.ownEnd ∧ t.flag .SKYT_LEASE_HELD = false
      ∧ t.cnt .SKYT_RELEASE_CNT = s.cnt .SKYT_RELEASE_CNT + 1#64)
    ∧ (s.sky.epoch + 64 < s.time.ownEnd → exec .leaseLapse s = .next s))
  ∧ (∀ (s : State) (e : Nat), s.Sound → s.time.heldAt = some e → s.time.checked = false → e + 64 ≤ s.sky.epoch →
    (2 * ((presentPeers s).filter (fun d => s.time.echoes.contains d)).length < (presentPeers s).length →
      completes .takeoverCheck s fun t =>
        t.time.heldAt = none ∧ t.flag .SKYT_STATUS_TAKEOVER_FAIL = true
        ∧ t.cnt .SKYT_TAKEOVER_FAIL_CNT = s.cnt .SKYT_TAKEOVER_FAIL_CNT + 1#64)
    ∧ ((presentPeers s).length ≤ 2 * ((presentPeers s).filter (fun d => s.time.echoes.contains d)).length →
      completes .takeoverCheck s fun t =>
        t.time.heldAt = some e ∧ t.time.checked = true ∧ s.Only t [.time] [] []))

/-- R256, R273 to R275: with valid sky time and no time frame of a holder for 256 epochs a module that is not the holder enters the
lull, counted, with its rate as it stands until the next boundary; past the lull limit, counted from the last frame of a holder,
sky time is not valid and the module must rejoin; the high word of the TAI offset makes both words take effect. -/
def Obligations.LullAndTai : Prop :=
  (∀ s : State, s.Sound → s.flag .SKYT_STATUS_VALID = true → s.time.heldAt = none → s.flag .SKYT_STATUS_LULL = false →
    s.time.heardAt + 256 ≤ s.sky.epoch →
    completes .lullEntry s fun t =>
      t.flag .SKYT_STATUS_LULL = true ∧ t.cnt .SKYT_LULL_CNT = s.cnt .SKYT_LULL_CNT + 1#64
      ∧ s.Only t [] [Reg.off .SKYT_STATUS] [Cnt.off .SKYT_LULL_CNT])
  ∧ (∀ (s : State) (e : Nat), s.Sound → s.flag .SKYT_STATUS_VALID = true → s.time.heldAt = none →
    s.time.heardClk = some e →
    (e + limitMs s * 1600000 ≤ s.now → completes .lullLimit s fun t =>
      t.flag .SKY_STATE_LULL = true ∧ t.flag .SKYT_STATUS_VALID = false ∧ mustRejoin t = true
      ∧ t.cnt .SKYT_LULL_LIMIT_CNT = s.cnt .SKYT_LULL_LIMIT_CNT + 1#64
      ∧ t.host.recq = s.host.recq ++ [.notes [faultRec s 0x11 0 (unsgn 64 (lastOffset s)) 0]])
    ∧ (s.now < e + limitMs s * 1600000 → exec .lullLimit s = .next s))
  ∧ (∀ (s : State) (a : Agent) (v : Word), s.Sound → linked s →
    completes (.taiOffsetWrite a v) s fun t =>
      t.time.tai = (s.reg .SKYT_TAI_OFFSET_LO).toNat + 2 ^ 32 * v.toNat
      ∧ t.reg .SKYT_TAI_OFFSET_HI = v ∧ s.Only t [.time, .ctl] [Reg.off .SKYT_TAI_OFFSET_HI] [])

/-! ### The keeper core (chapter 12) -/

/-- R284, R392, R428: each mailbox command that is next to be served is answered: its words, its STATUS, BUSY clear, its count
and its vector, and nothing else but what the command sets; during dusk every one is answered with status 3; a command whose
mailbox is not busy with it, or whose turn it is not, changes nothing. A request for an application reset that meets a reset as
strong resolves to that one (R405). -/
def Obligations.KeeperMailbox : Prop :=
  (∀ (s : State) (c : Instr) (m code : Nat), s.Sound → mboxCode c = some (m, code) →
    (mboxTurn s m code = false → exec c s = .next s)
    ∧ (mboxTurn s m code = true → s.flag .KEEP_STATUS_DUSK = true →
      completes c s fun t => answered s t m 3 [] ∧ s.Only t [.ctl, .out] (mboxRegs m) mboxCnts))
  ∧ (∀ (s : State) (m : Fin 2) (v : Word), s.Sound → mboxTurn s m 1 = true → s.flag .KEEP_STATUS_DUSK = false →
    completes (.mboxStatus m v) s fun t =>
      answered s t m 0 [s.fld .PWR_INPUT_POWER, v.toNat, hottest s, (s.reg .KEEP_STATUS).toNat]
      ∧ s.Only t [.ctl, .out] (mboxRegs m) mboxCnts)
  ∧ (∀ (s : State) (m : Fin 2) (ok : Bool), s.Sound → mboxTurn s m 2 = true → s.flag .KEEP_STATUS_DUSK = false →
    (orderOk (orderBytes ((List.range 8).map (mboxWord s m))) = false →
      completes (.mboxCommitShedOrder m ok) s fun t =>
        answered s t m 2 [] ∧ s.Only t [.ctl, .out] (mboxRegs m) mboxCnts)
    ∧ (orderOk (orderBytes ((List.range 8).map (mboxWord s m))) = true → ok = false →
      completes (.mboxCommitShedOrder m ok) s fun t =>
        answered s t m 4 [] ∧ t.cnt .NVM_FLASH_ERR_CNT = s.cnt .NVM_FLASH_ERR_CNT + 1#64 ∧ t.pwr = s.pwr)
    ∧ (orderOk (orderBytes ((List.range 8).map (mboxWord s m))) = true → ok = true →
      completes (.mboxCommitShedOrder m ok) s fun t =>
        answered s t m 0 []
        ∧ t.pwr = { s.pwr with committed := some (orderBytes ((List.range 8).map (mboxWord s m))) }
        ∧ ∀ w < 8, (t.reg .PWR_SHED_ORDER w).toNat = mboxWord s m w))
  ∧ (∀ (s : State) (m : Fin 2), s.Sound → s.flag .KEEP_STATUS_DUSK = false →
    (mboxTurn s m 3 = true → completes (.mboxReadShedOrder m) s fun t =>
      answered s t m 0 ((List.range 8).map (shedWord (fun k => (shedOrder s).getD k 0)))
      ∧ s.Only t [.ctl, .out] (mboxRegs m) mboxCnts)
    ∧ (mboxTurn s m 4 = true →
      (mboxWord s m 0 ≠ 0xA5A5 → completes (.mboxAppReset m) s fun t =>
        answered s t m 2 [] ∧ s.Only t [.ctl, .out] (mboxRegs m) mboxCnts)
      ∧ (mboxWord s m 0 = 0xA5A5 → s.flag .PWR_STATUS_STEEP = true → completes (.mboxAppReset m) s fun t =>
        answered s t m 3 [] ∧ s.Only t [.ctl, .out] (mboxRegs m) mboxCnts)
      ∧ (mboxWord s m 0 = 0xA5A5 → s.flag .PWR_STATUS_STEEP = false → resetMet 3 s = false →
        completes (.mboxAppReset m) s fun t => answered s t m 0 [] ∧ appWasReset s t 1)
      ∧ (mboxWord s m 0 = 0xA5A5 → s.flag .PWR_STATUS_STEEP = false → resetMet 3 s = true →
        completes (.mboxAppReset m) s fun t =>
          answered s t m 0 [] ∧ s.Only t [.ctl, .out] (mboxRegs m) mboxCnts))
    ∧ (mboxTurn s m 5 = true →
      (s.hlt.logSeq ≤ mboxWord s m 0 ∨ mboxWord s m 0 + 134217728 < s.hlt.logSeq →
        completes (.mboxReadLog m) s fun t =>
          answered s t m 2 [] ∧ s.Only t [.ctl, .out] (mboxRegs m) mboxCnts)
      ∧ (∀ b, mboxWord s m 0 < s.hlt.logSeq → s.hlt.logSeq ≤ mboxWord s m 0 + 134217728 →
        SMap.get? s.hlt.flog (mboxWord s m 0 % 134217728) = some b →
        completes (.mboxReadLog m) s fun t =>
          answered s t m (if ofLe (slice b 60 4) = crc32c (b.take 60) then 0 else 4)
            ((List.range 16).map (fun k => ofLe (slice b (4 * k) 4)))
          ∧ s.Only t [.ctl, .out] (mboxRegs m) mboxCnts))
    ∧ (mboxTurn s m 6 = true → completes (.mboxSetFirstAdmin m) s fun t =>
      answered s t m 0 []
      ∧ t.ctl.firstAdmin = some (toLe 4 (mboxWord s m 0) ++ toLe 4 (mboxWord s m 1) ++ toLe 4 (mboxWord s m 2))
      ∧ s.Only t [.ctl, .out] (mboxRegs m) mboxCnts))

/-- R283, R285, R397, R414, R428: the keeper core's restart, 100 ms after its heartbeat stopped and not before; the writing of the
fault log, which needs the keeper firmware; and Redfish: its counts, its resources, sessions, accounts, address, update and
restart. The HTTP status codes are the model's (log 44). -/
def Obligations.KeeperRestartLogAndRedfish : Prop :=
  (∀ s : State, s.Sound →
    (s.flag .KEEP_STATUS_ALIVE = false ∨ s.now < s.ctl.beatAt + 100 * clkMs → exec .keeperRestart s = .next s)
    ∧ (s.flag .KEEP_STATUS_ALIVE = true → s.ctl.beatAt + 100 * clkMs ≤ s.now → completes .keeperRestart s fun t =>
      t.flag .KEEP_STATUS_ALIVE = false ∧ t.cnt .KEEP_RESTART_CNT = s.cnt .KEEP_RESTART_CNT + 1#64
      ∧ (∀ m < 2, s.flag .KEEP_MBOX_CMD_BUSY m = true →
        t.flag .KEEP_MBOX_CMD_BUSY m = false ∧ t.fld .KEEP_MBOX_CMD_STATUS m = 5 ∧ pends t (175 + m))
      ∧ t.hlt.keepq = s.hlt.keepq ++ [⟨1, ⟨.fault, 0, 0, s.ts64, 0, 0⟩, 4, 0, 0⟩]
      ∧ (s.pwr.dusk.isSome = true → t.pwr.abandoned = true) ∧ t.ctl.keySoft = none ∧ t.ctl.keyKeep = none
      ∧ t.nvm = { s.nvm with keeperFwAt := some s.now }
      ∧ (∀ q, q < 0x1000000 → SMap.get? t.regs q = SMap.get? s.regs q)))
  ∧ (∀ (s : State) (ok : Bool), s.hlt.keepq = [] ∨ s.flag .KEEP_STATUS_ALIVE = false → exec (.faultLogWrite ok) s = .next s)
  ∧ (∀ (s : State) (ok : Bool) (e : LogEnt) (rest : List LogEnt), s.Sound → s.hlt.keepq = e :: rest →
    s.flag .KEEP_STATUS_ALIVE = true →
    completes (.faultLogWrite ok) s fun t =>
      (ok = true → t.hlt.keepq = rest ∧ t.hlt.logSeq = s.hlt.logSeq + 1
        ∧ SMap.get? t.hlt.flog (s.hlt.logSeq % 134217728) = some (logBytes e s.hlt.logSeq)
        ∧ (∀ k, k ≠ s.hlt.logSeq % 134217728 → SMap.get? t.hlt.flog k = SMap.get? s.hlt.flog k)
        ∧ s.Only t [.hlt] [] [])
      ∧ (ok = false → t.cnt .NVM_FLASH_ERR_CNT = s.cnt .NVM_FLASH_ERR_CNT + 1#64
        ∧ s.Only t [] [] [Cnt.off .NVM_FLASH_ERR_CNT]))
  ∧ (∀ (s : State) (c : Instr) (authed : Bool) (op : RedfishOp) (image : List Byte), s.Sound →
    (c = .redfishRequest authed op ∨ c = .redfishGracefulRestart authed ∨ c = .updateServicePush authed image) →
    (redfishUp s = false → exec c s = .next s)
    ∧ (redfishUp s = true → completes c s fun t =>
      t.cnt .KEEP_REDFISH_REQ_CNT = s.cnt .KEEP_REDFISH_REQ_CNT + 1#64
      ∧ (authed = false → t.cnt .KEEP_REDFISH_AUTH_FAIL_CNT = s.cnt .KEEP_REDFISH_AUTH_FAIL_CNT + 1#64
        ∧ s.Only t [.out] [] [Cnt.off .KEEP_REDFISH_REQ_CNT, Cnt.off .KEEP_REDFISH_AUTH_FAIL_CNT])))
  ∧ (∀ s : State, s.Sound → redfishUp s = true →
    (completes (.redfishRequest true .login) s fun t =>
      t.ctl.sessions = (if s.ctl.sessions < 8 then s.ctl.sessions + 1 else s.ctl.sessions)
      ∧ s.Only t [.ctl, .out] [] [Cnt.off .KEEP_REDFISH_REQ_CNT])
    ∧ (completes (.redfishRequest true .logout) s fun t =>
      t.ctl.sessions = s.ctl.sessions - 1 ∧ s.Only t [.ctl, .out] [] [Cnt.off .KEEP_REDFISH_REQ_CNT])
    ∧ (completes (.redfishRequest true .chassis) s fun t =>
      t.out = .redfish 200 (chassisValues s) :: s.out ∧ s.Only t [.out] [] [Cnt.off .KEEP_REDFISH_REQ_CNT])
    ∧ (∀ n l, logValues s n = some l → completes (.redfishRequest true (.logEntry n)) s fun t =>
      t.out = .redfish 200 l :: s.out ∧ s.Only t [.out] [] [Cnt.off .KEEP_REDFISH_REQ_CNT])
    ∧ (∀ n p, completes (.redfishRequest true (.setAccount n p)) s fun t =>
      t.ctl = { s.ctl with accounts := SMap.insert s.ctl.accounts n.val p }
      ∧ s.Only t [.ctl, .out] [] [Cnt.off .KEEP_REDFISH_REQ_CNT])
    ∧ (∀ p, completes (.redfishRequest true (.setAddress p)) s fun t =>
      t.ctl = { s.ctl with address := some p } ∧ s.Only t [.ctl, .out] [] [Cnt.off .KEEP_REDFISH_REQ_CNT])
    ∧ (s.flag .PWR_STATUS_STEEP = false → resetMet 3 s = false →
      completes (.redfishGracefulRestart true) s fun t => appWasReset s t 1)
    ∧ (s.flag .PWR_STATUS_STEEP = true ∨ resetMet 3 s = true → completes (.redfishGracefulRestart true) s fun t =>
      s.Only t [.out] [] [Cnt.off .KEEP_REDFISH_REQ_CNT]))
  ∧ (∀ (s : State) (image : List Byte), s.Sound → redfishUp s = true → s.nvm.op = none →
    slotHeld s (1 - s.fld .NVM_BOOT_SEL_ACTIVE) = false → imageLen image.length = true →
    completes (.updateServicePush true image) s fun t =>
      t.nvm.op = some ⟨3, 1 - s.fld .NVM_BOOT_SEL_ACTIVE, slotBase (1 - s.fld .NVM_BOOT_SEL_ACTIVE), 0, image.length,
        some image⟩
      ∧ slotState t (1 - s.fld .NVM_BOOT_SEL_ACTIVE) = 1 ∧ t.flag .NVM_STATUS_BUSY = true
      ∧ t.cnt .NVM_COMMIT_CNT = s.cnt .NVM_COMMIT_CNT + 1#64)

/-! ### Host link, rings and records (chapters 12 to 14) -/

/-- R278, R280, R286 to R288, R292, R295, R317: ownership of the rings, the PCIe link, the MSI-X table and its held messages, pending
interrupts, of which one of the same register clock survives a clear, the kind policers, errors of host memory, and the timer of a
vector's moderation. -/
def Obligations.HostLinkAndInterrupts : Prop :=
  (∀ (s : State) (a : Agent) (v : Word), s.Sound → linked s →
    (keyOpen s a = false → completes (.ringOwnerWrite a v) s fun t =>
      faultLogged s t 3 a 2 0 (Reg.off .CTL_RING_OWNER) ∧ s.Only t [.sys, .ctl] faultRegs faultCnts)
    ∧ (passesKey s a (Reg.off .CTL_RING_OWNER) → s.flag .SYS_PLANE_STATE_HEADLESS = false →
      completes (.ringOwnerWrite a v) s fun t =>
        faultLogged s t 4 a 2 0 (Reg.off .CTL_RING_OWNER) ∧ keyOf' t a = none ∧ s.Only t [.sys, .ctl] faultRegs faultCnts)
    ∧ (passesKey s a (Reg.off .CTL_RING_OWNER) → s.flag .SYS_PLANE_STATE_HEADLESS = true →
      completes (.ringOwnerWrite a v) s fun t =>
        ownerExt t = v.getLsbD 0 ∧ keyOf' t a = none ∧ s.Only t [.ctl] [Reg.off .CTL_RING_OWNER] []))
  ∧ (∀ s : State, s.Sound → s.flag .CTL_PCIE_STATUS_LINK_UP = true →
    (ownerExt s = true → completes .pcieLinkDown s fun t =>
      t.flag .CTL_PCIE_STATUS_LINK_UP = false
      ∧ t.cnt .CTL_PCIE_LINK_DOWN_CNT = s.cnt .CTL_PCIE_LINK_DOWN_CNT + 1#64 ∧ pends t 174
      ∧ (∀ r < 172, ringEn t r = false ∧ headOf t r = headOf s r ∧ (ringOf t r).units = (ringOf s r).units)
      ∧ faultNoted s t 0x13 0 ∧ t.host.mem = s.host.mem ∧ t.host.ext = s.host.ext)
    ∧ (ownerExt s = false → completes .pcieLinkDown s fun t =>
      t.flag .CTL_PCIE_STATUS_LINK_UP = false ∧ pends t 174
      ∧ s.Only t [.ctl, .out] [Reg.off .CTL_PCIE_STATUS, Reg.off .CTL_INT_PEND 5] [Cnt.off .CTL_INT_MERGE_CNT]))
  ∧ (∀ (s : State) (w : Fin 9) (bme : Bool), s.Sound →
    completes (.pcieLinkUp w bme) s fun t =>
      t.flag .CTL_PCIE_STATUS_LINK_UP = true ∧ t.flag .CTL_PCIE_STATUS_BME = bme
      ∧ t.fld .CTL_PCIE_STATUS_WIDTH = w.val
      ∧ (bme = true → ∀ v ∈ t.ctl.msixHeld, (SMap.getD t.ctl.msix v {}).masked = true)
      ∧ s.Only t [.ctl, .out] [Reg.off .CTL_PCIE_STATUS, Reg.off .CTL_INT_PEND 5] [Cnt.off .CTL_INT_MERGE_CNT])
  ∧ (∀ (s : State) (v : Byte) (addr : DWord) (data : Word) (masked : Bool), s.Sound →
    completes (.msixEntryUnmask ⟨v, addr, data, masked⟩) s fun t =>
      SMap.getD t.ctl.msix v.toNat {} = ⟨addr, data, masked⟩
      ∧ (masked = false → s.flag .CTL_PCIE_STATUS_LINK_UP = true → s.flag .CTL_PCIE_STATUS_BME = true →
        v.toNat ∈ s.ctl.msixHeld → .msix v.toNat addr data ∈ t.out ∧ v.toNat ∉ t.ctl.msixHeld)
      ∧ s.Only t [.ctl, .out] [] [])
  ∧ (∀ (s : State) (a : Agent) (i : Fin 8) (v : Word), s.Sound →
    completes (.intPendClear a i v) s fun t =>
      (∀ j < 32, (t.reg .CTL_INT_PEND i.val).getLsbD j = ((s.reg .CTL_INT_PEND i.val).getLsbD j
        && !(v.getLsbD j && (SMap.get? s.ctl.intAt (32 * i.val + j)).all (fun e => e.1 != s.regClk + 1))))
      ∧ s.Only t [.ctl, .out] [Reg.off .CTL_INT_PEND i.val] [Cnt.off .CTL_INT_MERGE_CNT])
  ∧ (∀ s : State, s.Sound →
    (idlDue s = false → exec .idlPolicerRefresh s = .next s)
    ∧ (idlDue s = true → completes .idlPolicerRefresh s fun t => s.Only t [.ctl] [] [] ∧ ∀ k < 5,
      (idlPol t k).en = s.flag .IDL_POL_CFG_EN k
      ∧ (idlPol t k).bucket =
        (if s.flag .IDL_POL_CFG_EN k = true ∧ (idlPol s k).en = false then
          1024 * max 1 (s.fld .IDL_POL_CFG_BURST k) * 65536
        else min ((idlPol s k).bucket + 8192 * s.fld .IDL_POL_CFG_RATE k)
          (1024 * max 1 (s.fld .IDL_POL_CFG_BURST k) * 65536))))
  ∧ (∀ (s : State) (addr : Nat) (core : Bool), s.Sound →
    (inDram addr 1 = true →
      (completes (.hostMemoryError addr ⟨true, core⟩) s fun t =>
        t.cnt .CTL_DRAM_CORR_CNT = s.cnt .CTL_DRAM_CORR_CNT + 1#64 ∧ t.host = s.host)
      ∧ (completes (.hostMemoryError addr ⟨false, true⟩) s fun t =>
        t.cnt .CTL_DRAM_UNCORR_CNT = s.cnt .CTL_DRAM_UNCORR_CNT + 1#64 ∧ addr / 64 ∈ t.host.poison
        ∧ t.host.mem = s.host.mem ∧ .accessFault addr ∈ t.out)
      ∧ (completes (.hostMemoryError addr ⟨false, false⟩) s fun t =>
        addr / 64 ∈ t.host.poison ∧ t.host.mem = s.host.mem ∧ s.Only t [.host] [] []))
    ∧ (∀ corrected, inDram addr 1 = false →
      (core = true → inRom addr 1 = false → inAperture addr 1 = false →
        completes (.hostMemoryError addr ⟨corrected, core⟩) s fun t =>
          t.out = .accessFault addr :: s.out ∧ s.Only t [.out] [] [])
      ∧ (core = false ∨ inRom addr 1 = true ∨ inAperture addr 1 = true →
        exec (.hostMemoryError addr ⟨corrected, core⟩) s = .next s)))
  ∧ (∀ (s : State) (r : Fin 172) (e : Nat), s.Sound → linked s → (ringOf s r).irqAt = some e →
    (s.flag .HOST_IRQ_CFG_EN r = true → s.fld .HOST_IRQ_CFG_USEC r ≠ 0 →
      e + s.fld .HOST_IRQ_CFG_USEC r * 1600 ≤ s.now →
      completes (.irqModTimer r) s fun t =>
        pends t r ∧ (ringOf t r).irqN = 0 ∧ (ringOf t r).irqAt = none)
    ∧ ((s.flag .HOST_IRQ_CFG_EN r = false ∨ s.fld .HOST_IRQ_CFG_USEC r = 0
        ∨ s.now < e + s.fld .HOST_IRQ_CFG_USEC r * 1600) → exec (.irqModTimer r) s = .next s))

/-- R287, R302, R303, R310: doorbells. The entries that software stores before a doorbell reach host memory, the external host's its
own; then a producer's doorbell is ignored and logged on a ring that is not enabled, is refused with the first code that
applies, or sets TAIL; a consumer's sets HEAD, and frees the space from the next core clock on, or is refused.
That the DOORBELL command carries the stores before it is the model's choice (log 12). -/
def Obligations.Doorbells : Prop :=
  (∀ (s : State) (a : Agent) (r : Fin 172) (v : Word) (l : List (Nat × List Byte)), s.Sound → linked s → r.val < 160 →
    (s.flag .SYS_PLANE_STATE_HEADLESS = false → ringEn s r = false → completes (.doorbell a r v l) s fun t =>
      faultLogged s t 4 a 2 0 (Reg.off .HOST_DB r) ∧ headOf t r = headOf s r ∧ tailOf t r = tailOf s r)
    ∧ ((s.flag .SYS_PLANE_STATE_HEADLESS = true ∨ ringEn s r = true) →
      (ringSize s r < sub32 v.toNat (headOf s r) →
        completes (.doorbell a r v l) s fun t => doorbellRefused s t false r 1 v.toNat)
      ∧ (sub32 v.toNat (headOf s r) ≤ ringSize s r → 2 ^ 31 ≤ sub32 v.toNat (tailOf s r) →
        completes (.doorbell a r v l) s fun t => doorbellRefused s t false r 2 v.toNat)
      ∧ (sub32 v.toNat (headOf s r) ≤ ringSize s r → sub32 v.toNat (tailOf s r) < 2 ^ 31 →
        s.flag .SYS_PLANE_STATE_HEADLESS = true →
        completes (.doorbell a r v l) s fun t => doorbellRefused s t false r 3 v.toNat)
      ∧ (sub32 v.toNat (headOf s r) ≤ ringSize s r → sub32 v.toNat (tailOf s r) < 2 ^ 31 →
        s.flag .SYS_PLANE_STATE_HEADLESS = false →
        completes (.doorbell a r v l) s fun t => tailOf t r = v.toNat ∧ headOf t r = headOf s r
          ∧ ∀ q < 172, ringEn t q = ringEn s q ∧ headOf t q = headOf s q ∧ (q ≠ r.val → tailOf t q = tailOf s q))))
  ∧ (∀ (s : State) (a : Agent) (r : Fin 172) (v : Word) (l : List (Nat × List Byte)), s.Sound → linked s → 160 ≤ r.val →
    (s.flag .SYS_PLANE_STATE_HEADLESS = true →
      completes (.doorbell a r v l) s fun t => doorbellRefused s t true r 3 v.toNat)
    ∧ (s.flag .SYS_PLANE_STATE_HEADLESS = false → headAhead (headOf s r) (tailOf s r) v.toNat = false →
      completes (.doorbell a r v l) s fun t => doorbellRefused s t true r 5 v.toNat)
    ∧ (s.flag .SYS_PLANE_STATE_HEADLESS = false → headAhead (headOf s r) (tailOf s r) v.toNat = true →
      completes (.doorbell a r v l) s fun t =>
        headOf t r = v.toNat ∧ tailOf t r = tailOf s r ∧ freeHead t r = freeHead s r))
  ∧ (∀ (s : State) (a : Agent) (r : Fin 160) (v : Word), s.Sound → linked s →
    (s.flag .SYS_PLANE_STATE_HEADLESS = true →
      completes (.cplDoorbell a r v) s fun t => doorbellRefused s t true r 3 v.toNat)
    ∧ (s.flag .SYS_PLANE_STATE_HEADLESS = false →
      headAhead (s.reg .HOST_CPL_HEAD r).toNat (s.reg .HOST_CPL_TAIL r).toNat v.toNat = false →
      completes (.cplDoorbell a r v) s fun t => doorbellRefused s t true r 5 v.toNat)
    ∧ (s.flag .SYS_PLANE_STATE_HEADLESS = false →
      headAhead (s.reg .HOST_CPL_HEAD r).toNat (s.reg .HOST_CPL_TAIL r).toNat v.toNat = true →
      completes (.cplDoorbell a r v) s fun t =>
        t.reg .HOST_CPL_HEAD r = v ∧ freeHead t r = freeHead s r ∧ (∀ q, q ≠ r.val → ringOf t q = ringOf s q)
        ∧ (ringOf t r).units = (ringOf s r).units ∧ t.host.mem = s.host.mem ∧ t.host.ext = s.host.ext
        ∧ s.Only t [.host, .ctl] [Reg.off .HOST_CPL_HEAD r] []))
  ∧ (∀ (s : State) (a : Agent) (r : Fin 172) (v : Word) (x : Nat) (d : List Byte), s.Sound → linked s →
    (a ≠ .host → inDram x d.length = true → poisoned s x d.length = [] → completes (.doorbell a r v [(x, d)]) s fun t =>
      memGet t.host.mem x d.length = d ∧ t.host.ext = s.host.ext
      ∧ ∀ b, (b < x ∨ x + d.length ≤ b) → SMap.getD t.host.mem b 0#8 = SMap.getD s.host.mem b 0#8)
    ∧ (a = .host → completes (.doorbell a r v [(x, d)]) s fun t =>
      memGet t.host.ext x d.length = d ∧ t.host.mem = s.host.mem
      ∧ ∀ b, (b < x ∨ x + d.length ≤ b) → SMap.getD t.host.ext b 0#8 = SMap.getD s.host.ext b 0#8))

/-- R299, R301, R305, R312, R313: a ring is enabled where its settings and structures stand, shows CFG_ERR where they do not,
and is ignored and logged while it runs or stops; disabling it keeps its units; it shows idle when the last unit is gone. A
window with EN takes no new base, translation or size. -/
def Obligations.RingAndWindowSettings : Prop :=
  (∀ (s : State) (a : Agent) (r : Fin 172), s.Sound → linked s →
    (ringWritable s r = false → completes (.ringEnable a r) s fun t =>
      faultLogged s t 4 a 2 0 (Reg.off .HOST_RING_CTRL r) ∧ s.Only t [.sys, .ctl] faultRegs faultCnts)
    ∧ (ringWritable s r = true → canEnable s r = false → completes (.ringEnable a r) s fun t =>
      t.flag .HOST_RING_STATUS_CFG_ERR r = true ∧ ringEn t r = false
      ∧ s.Only t [.ctl] [Reg.off .HOST_RING_STATUS r] [])
    ∧ (ringWritable s r = true → canEnable s r = true → completes (.ringEnable a r) s fun t =>
      ringEn t r = true ∧ t.flag .HOST_RING_STATUS_RUNNING r = true ∧ t.flag .HOST_RING_STATUS_ERR r = false
      ∧ t.fld .HOST_RING_STATUS_ERR_CODE r = 0 ∧ t.flag .HOST_RING_STATUS_RING_IDLE r = false
      ∧ headOf t r = headOf s r ∧ tailOf t r = (if r.val < 160 then headOf s r else tailOf s r)
      ∧ (ringOf t r).units = (ringOf s r).units
      ∧ s.Only t [.host, .ctl] [Reg.off .HOST_RING_STATUS r, Reg.off .HOST_RING_CTRL r, Reg.off .HOST_RING_TAIL r] []))
  ∧ (∀ (s : State) (a : Agent) (r : Fin 172), s.Sound → linked s →
    (ringEn s r = true → completes (.ringDisable a r) s fun t =>
      ringEn t r = false ∧ t.flag .HOST_RING_STATUS_RUNNING r = false
      ∧ (ringOf t r).units = (ringOf s r).units ∧ (ringOf t r).raw = [] ∧ (ringOf t r).pre = []
      ∧ s.Only t [.host, .ctl] [Reg.off .HOST_RING_STATUS r, Reg.off .HOST_RING_CTRL r] [])
    ∧ (ringEn s r = false → completes (.ringDisable a r) s fun t => s.Only t [.ctl] [] []))
  ∧ (∀ (s : State) (r : Fin 172), s.Sound →
    (stopping s r = false ∨ (ringOf s r).units ≠ [] → exec (.ringIdle r) s = .next s)
    ∧ (stopping s r = true → (ringOf s r).units = [] → completes (.ringIdle r) s fun t =>
      t.flag .HOST_RING_STATUS_RING_IDLE r = true ∧ headOf t r = headOf s r ∧ tailOf t r = tailOf s r
      ∧ (linked s → s.flag .HOST_IRQ_CFG_EN r = true → pends t r)
      ∧ ((ringOf s r).quiet = true ∨ ownerDown s = true → t.host.mem = s.host.mem ∧ t.host.ext = s.host.ext)
      ∧ (∀ y, (ringOf s r).quiet = false → ownerDown s = false →
        dmaTarget s (s.reg64 .HOST_RING_WB_LO .HOST_RING_WB_HI r) 64 true = some y →
        (linked s → (ownerExt s = true ∨ poisoned s y 64 = []) →
          memGet (dmaMem t) y 64 = fit 64 (toLe 4 (if r.val < 160 then headOf s r else tailOf s r)))
        ∧ (¬ linked s → t.ctl.heldDma = s.ctl.heldDma
          ++ [⟨ownerExt s, y, fit 64 (toLe 4 (if r.val < 160 then headOf s r else tailOf s r))⟩]))))
  ∧ (∀ (s : State) (a : Agent) (w : Fin 16) (k : Fin 5) (v : Word), s.Sound → linked s → k.val ≠ 0 →
    (s.flag .HOST_WIN_CFG_EN w = true → completes (.winCfgWrite a w k v) s fun t =>
      faultLogged s t 4 a 2 0 (Reg.off (winReg k) w) ∧ s.Only t [.sys, .ctl] faultRegs faultCnts)
    ∧ (s.flag .HOST_WIN_CFG_EN w = false → completes (.winCfgWrite a w k v) s fun t =>
      t.reg (winReg k) w = v ∧ s.Only t [.ctl] [Reg.off (winReg k) w] []))
  ∧ (∀ (s : State) (a : Agent) (w : Fin 16) (v : Word), s.Sound → linked s →
    (s.flag .HOST_WIN_CFG_EN w = true → completes (.winCfgWrite a w 0 v) s fun t =>
      t.flag .HOST_WIN_CFG_EN w = v.getLsbD 31 ∧ t.flag .HOST_WIN_CFG_WRITE w = v.getLsbD 30
      ∧ t.fld .HOST_WIN_CFG_SIZE_LOG2 w = s.fld .HOST_WIN_CFG_SIZE_LOG2 w
      ∧ (v.toNat % 64 = s.fld .HOST_WIN_CFG_SIZE_LOG2 w → s.Only t [.ctl] [Reg.off .HOST_WIN_CFG w] [])
      ∧ (v.toNat % 64 ≠ s.fld .HOST_WIN_CFG_SIZE_LOG2 w → faultLogged s t 4 a 2 0 (Reg.off .HOST_WIN_CFG w)))
    ∧ (s.flag .HOST_WIN_CFG_EN w = false →
      (v.getLsbD 31 = true → (v.toNat % 64 < 12 ∨ 46 < v.toNat % 64
          ∨ s.reg64 .HOST_WIN_BASE_LO .HOST_WIN_BASE_HI w % 2 ^ (v.toNat % 64) ≠ 0) →
        completes (.winCfgWrite a w 0 v) s fun t =>
          faultLogged s t 4 a 2 0 (Reg.off .HOST_WIN_CFG w) ∧ s.Only t [.sys, .ctl] faultRegs faultCnts)
      ∧ (v.getLsbD 31 = false ∨ (12 ≤ v.toNat % 64 ∧ v.toNat % 64 ≤ 46
          ∧ s.reg64 .HOST_WIN_BASE_LO .HOST_WIN_BASE_HI w % 2 ^ (v.toNat % 64) = 0) →
        completes (.winCfgWrite a w 0 v) s fun t =>
          t.flag .HOST_WIN_CFG_EN w = v.getLsbD 31 ∧ t.flag .HOST_WIN_CFG_WRITE w = v.getLsbD 30
          ∧ t.fld .HOST_WIN_CFG_SIZE_LOG2 w = v.toNat % 64 ∧ s.Only t [.ctl] [Reg.off .HOST_WIN_CFG w] [])))

/-- R301, R302, R306 to R311, R321 to R323: one entry is fetched and HEAD written back, a receive descriptor is read ahead, with its
write-back, and checked, a transmit chain is checked and taken in round robin once there is room, and a ready completion is
written with its write-back where its ring has room. -/
def Obligations.RingWork : Prop :=
  (∀ (s : State) (r : Fin 160), dmaUp s = false → exec (.ringFetch r) s = .next s)
  ∧ (∀ (s : State) (r : Fin 160) (x y : Nat), s.Sound → (r.val < 64 ∨ 128 ≤ r.val) → dmaUp s = true → ringEn s r = true →
    (ringOf s r).units = [] → tailOf s r = add32 (headOf s r) 1 →
    dmaTarget s (ringBase s r + headOf s r % ringSize s r * 32) 32 false = some x →
    dmaTarget s (s.reg64 .HOST_RING_WB_LO .HOST_RING_WB_HI r) 64 true = some y →
    (ownerExt s = true ∨ (poisoned s x 32 = [] ∧ poisoned s y 64 = [])) →
    (entWord (memGet (dmaMem s) x 32) 0).testBit 63 = false →
    completes (.ringFetch r) s fun t =>
      headOf t r = tailOf s r ∧ tailOf t r = tailOf s r ∧ memGet (dmaMem t) y 64 = fit 64 (toLe 4 (tailOf s r))
      ∧ t.fld .HOST_CPL_STATUS_HELD r = 1
      ∧ ∃ u, (ringOf t r).units = [u] ∧ u.first = headOf s r ∧ u.nent = 1 ∧ u.lost = false ∧ u.clk = s.now
        ∧ u.cookie = bits (entWord (memGet (dmaMem s) x 32) 0) 47 32
        ∧ ((r.val < 64 → bits (entWord (memGet (dmaMem s) x 32) 0) 55 48 = 1 →
            u.st = .fetched [⟨headOf s r, some (memGet (dmaMem s) x 32)⟩])
          ∧ (r.val < 64 → bits (entWord (memGet (dmaMem s) x 32) 0) 55 48 ≠ 1 →
            u.st = .done { status := 0x10, cookie := u.cookie, first := headOf s r, nent := 1 })))
  ∧ (∀ (s : State) (r : Fin 64) (x y : Nat), s.Sound → dmaUp s = true → ringEn s (64 + r) = true →
    (ringOf s (64 + r)).raw.length + (ringOf s (64 + r)).pre.length < 64 →
    tailOf s (64 + r) = add32 (ringOf s (64 + r)).preAt 1 →
    dmaTarget s (ringBase s (64 + r) + (ringOf s (64 + r)).preAt % ringSize s (64 + r) * 32) 32 false = some x →
    dmaTarget s (s.reg64 .HOST_RING_WB_LO .HOST_RING_WB_HI (64 + r)) 64 true = some y →
    (ownerExt s = true ∨ (poisoned s x 32 = [] ∧ poisoned s y 64 = [])) →
    completes (.ringFetch ⟨64 + r, by omega⟩) s fun t =>
      (ringOf t (64 + r)).raw
        = (ringOf s (64 + r)).raw ++ [⟨(ringOf s (64 + r)).preAt, some (memGet (dmaMem s) x 32)⟩]
      ∧ (ringOf t (64 + r)).preAt = tailOf s (64 + r) ∧ (ringOf t (64 + r)).pre = (ringOf s (64 + r)).pre
      ∧ memGet (dmaMem t) y 64 = fit 64 (toLe 4 (headOf s (64 + r)))
      ∧ s.Only t [.host, .ctl] [] [])
  ∧ (∀ (s : State) (r : Fin 64) (u : RUnit) (es : List Entry), s.Sound → oldestFetched s r = some (u, es) →
    (∀ v ∈ (ringOf s r).units, v.lost = false) →
    completes (.txDescriptor r) s fun t =>
      (∃ v ∈ (ringOf t r).units, v.id = u.id
        ∧ v.st = (if txCheck s r (runData es) = 0 then UnitSt.waiting es
          else .done { status := txCheck s r (runData es), cookie := u.cookie, first := u.first, nent := u.nent }))
      ∧ s.Only t [.host] [Reg.off .HOST_CPL_STATUS r] [])
  ∧ (∀ (s : State) (r : Fin 64) (e : Entry) (i st : Nat) (d : List Byte) (l : List Entry), s.Sound →
    (ringOf s (64 + r)).raw = e :: l → e.idx = i →
    ((e.data = some d ∧ st = rxDescStatus s d) ∨ (e.data = none ∧ st = 0x14)) →
    (st = 0 → completes (.rxBufferDescriptor r) s fun t =>
      (ringOf t (64 + r)).raw = l
      ∧ (ringOf t (64 + r)).pre = (ringOf s (64 + r)).pre ++ [⟨i, entWord d 1, bits (entWord d 0) 16 0⟩]
      ∧ s.Only t [.host] [] [])
    ∧ (st ≠ 0 → 64 ≤ (ringOf s (64 + r)).units.length → exec (.rxBufferDescriptor r) s = .next s)
    ∧ (st ≠ 0 → (ringOf s (64 + r)).units.length < 64 →
      (dmaTarget s (s.reg64 .HOST_RING_WB_LO .HOST_RING_WB_HI (64 + r)) 64 true).isSome = true →
      completes (.rxBufferDescriptor r) s fun t =>
        (ringOf t (64 + r)).raw = l ∧ (ringOf t (64 + r)).pre = (ringOf s (64 + r)).pre
        ∧ ∃ u, (ringOf t (64 + r)).units = (ringOf s (64 + r)).units ++ [u] ∧ u.first = i ∧ u.nent = 1
          ∧ u.st = .done { status := st, first := i }))
  ∧ (∀ (s : State) (r : Fin 160) (u : RUnit) (us : List RUnit) (c : Cpl) (x y : Nat), s.Sound → linked s →
    (ringOf s r).units = u :: us → u.st = .done c → ownerDown s = false → (ringOf s r).quiet = false →
    sub32 (s.reg .HOST_CPL_TAIL r).toNat (freeHead s r) < 2 ^ s.fld .HOST_CPL_CFG_SIZE_LOG2 r →
    canPut s (s.reg64 .HOST_CPL_BASE_LO .HOST_CPL_BASE_HI r
        + (s.reg .HOST_CPL_TAIL r).toNat % 2 ^ s.fld .HOST_CPL_CFG_SIZE_LOG2 r * 32) 32
      (s.reg64 .HOST_CPL_WB_LO .HOST_CPL_WB_HI r) x y →
    completes (.completionWrite r) s fun t =>
      (ringOf t r).units = us ∧ t.reg .HOST_CPL_TAIL r = s.reg .HOST_CPL_TAIL r + 1#32
      ∧ wasPut s t x (cplBytes c) y (add32 (s.reg .HOST_CPL_TAIL r).toNat 1)
      ∧ (malformed c.status = false →
        t.cnt .HOST_RING_ENTRY_CNT r = s.cnt .HOST_RING_ENTRY_CNT r + BitVec.ofNat 64 c.nent)
      ∧ (malformed c.status = true →
        t.cnt .HOST_RING_ERR_ENTRY_CNT r = s.cnt .HOST_RING_ERR_ENTRY_CNT r + BitVec.ofNat 64 c.nent)
      ∧ (s.flag .HOST_IRQ_CFG_EN r = true → max 1 (s.fld .HOST_IRQ_CFG_COUNT r) ≤ (ringOf s r).irqN + 1 → pends t r))
  ∧ (∀ (s : State) (r : Fin 160), (∀ u us, (ringOf s r).units = u :: us → ∀ c, u.st ≠ .done c) ∨ ownerDown s = true
      ∨ (ringOf s r).quiet = true
      ∨ 2 ^ s.fld .HOST_CPL_CFG_SIZE_LOG2 r ≤ sub32 (s.reg .HOST_CPL_TAIL r).toNat (freeHead s r) →
    exec (.completionWrite r) s = .next s)
  ∧ (∀ (s : State) (g : Fin 16),
    (dmaUp s = false ∨ s.pwr.stopped = true ∨ noGroup s g = true ∨ nextTxRing s g = none) →
    exec (.txFrameInject g) s = .next s)
  ∧ (∀ (s : State) (g : Fin 16) (r : Nat) (u : RUnit) (es : List Entry) (d : List Byte) (l : List (List Byte)), s.Sound →
    forwards s → dmaUp s = true → noGroup s g = false → nextTxRing s g = some r → oldestWaiting s r = some (u, es) →
    runData es = d :: l →
    (rxFree s g < bits (entWord d 2) 34 21 → exec (.txFrameInject g) s = .next s)
    ∧ (bits (entWord d 2) 34 21 ≤ rxFree s g → (readSegs (d :: l) 0 [] s).1 = 0 →
      completes (.txFrameInject g) s fun t =>
        SMap.getD t.host.txLast g 0 = r + 1 ∧ t.ledOf tIn3 g = s.ledOf tIn3 g + 1))

/-- R28, R181, R315, R316, R331: a generated record goes to the backlog while headless or while one drains, else to its ring, where
it is written at TAIL with the write-back; what its ring does not take goes to the fault backlog or is counted, and the next weather
record of its entry says so; the fault backlog is delivered in order. -/
def Obligations.RecordWrites : Prop :=
  (∀ (s : State) (n : NRec) (rest : List PendRec), s.Sound → s.host.recq = .notes [n] :: rest → backlogged s = true →
    (groupLen s.sys.backlog < 4096 → completes .notifyRecordWrite s fun t =>
      t.sys.backlog = s.sys.backlog ++ [[n]] ∧ t.host.recq = rest ∧ s.Only t [.sys, .host] [] [])
    ∧ (4096 ≤ groupLen s.sys.backlog → completes .notifyRecordWrite s fun t =>
      t.cnt .SYS_HEADLESS_NOTIFY_DROP_CNT = s.cnt .SYS_HEADLESS_NOTIFY_DROP_CNT + 1#64 ∧ t.host.recq = rest
      ∧ s.Only t [.host] [] [Cnt.off .SYS_HEADLESS_NOTIFY_DROP_CNT]))
  ∧ (∀ (s : State) (n : NRec) (rest : List PendRec) (x y : Nat), s.Sound → linked s →
    s.host.recq = .notes [n] :: rest →
    backlogged s = false → ((n.kind = .fault ∨ n.kind = .step) → s.host.faultLog = []) →
    ringTakes s (noteRing s n.kind) 1 = true → ringReach s (noteRing s n.kind) = true →
    canPut s (ringBase s (noteRing s n.kind)
        + tailOf s (noteRing s n.kind) % ringSize s (noteRing s n.kind) * 32) 32
      (s.reg64 .HOST_RING_WB_LO .HOST_RING_WB_HI (noteRing s n.kind)) x y →
    completes .notifyRecordWrite s fun t =>
      tailOf t (noteRing s n.kind) = add32 (tailOf s (noteRing s n.kind)) 1
      ∧ wasPut s t x (noteBytes n (tailOf s (noteRing s n.kind))) y (add32 (tailOf s (noteRing s n.kind)) 1)
      ∧ t.host.recq = rest ∧ (n.kind = .fault → pends t 172))
  ∧ (∀ (s : State) (n : NRec) (rest : List PendRec), s.Sound → s.host.recq = .notes [n] :: rest → backlogged s = false →
    ((n.kind = .fault ∨ n.kind = .step) → (s.host.faultLog ≠ [] ∨ ringTakes s (noteRing s n.kind) 1 = false) →
      (groupLen s.host.faultLog < 256 → completes .notifyRecordWrite s fun t =>
        t.host.faultLog = s.host.faultLog ++ [[n]] ∧ t.host.recq = rest ∧ s.Only t [.host] [] [])
      ∧ (256 ≤ groupLen s.host.faultLog → completes .notifyRecordWrite s fun t =>
        t.cnt .HOST_FAULT_REC_DROP_CNT = s.cnt .HOST_FAULT_REC_DROP_CNT + 1#64 ∧ t.host.recq = rest
        ∧ s.Only t [.host] [] [Cnt.off .HOST_FAULT_REC_DROP_CNT]))
    ∧ (n.kind = .weather → ringTakes s (noteRing s n.kind) 1 = false → completes .notifyRecordWrite s fun t =>
      t.cnt .TM_WX_DROP_CNT = s.cnt .TM_WX_DROP_CNT + 1#64 ∧ wxEntry n ∈ t.tm.wxLost ∧ t.host.recq = rest
      ∧ s.Only t [.host, .tm] [] [Cnt.off .TM_WX_DROP_CNT]))
  ∧ (∀ (s : State) (c : CapRec) (rest : List PendRec), s.Sound → linked s → s.host.recq = .cap c :: rest →
    c.session < 16 → c.ring < 4 →
    (s.flag .SYS_PLANE_STATE_HEADLESS = true → completes .notifyRecordWrite s fun t =>
      t.cnt .SYS_HEADLESS_HOST_DROP_CNT = s.cnt .SYS_HEADLESS_HOST_DROP_CNT + 1#64
      ∧ t.cnt .MIR_HOST_DROP_CNT c.session = s.cnt .MIR_HOST_DROP_CNT c.session + 1#64 ∧ t.host.recq = rest)
    ∧ (s.flag .SYS_PLANE_STATE_HEADLESS = false → ringTakes s (168 + c.ring) 1 = false →
      completes .notifyRecordWrite s fun t =>
        t.cnt .HOST_CAP_DROP_CNT (168 + c.ring) = s.cnt .HOST_CAP_DROP_CNT (168 + c.ring) + 1#64
        ∧ t.cnt .MIR_HOST_DROP_CNT c.session = s.cnt .MIR_HOST_DROP_CNT c.session + 1#64 ∧ t.host.recq = rest)
    ∧ (∀ x y, s.flag .SYS_PLANE_STATE_HEADLESS = false → ringTakes s (168 + c.ring) 1 = true →
      ringReach s (168 + c.ring) = true →
      canPut s (ringBase s (168 + c.ring) + tailOf s (168 + c.ring) % ringSize s (168 + c.ring) * 256) 256
        (s.reg64 .HOST_RING_WB_LO .HOST_RING_WB_HI (168 + c.ring)) x y →
      completes .notifyRecordWrite s fun t =>
        tailOf t (168 + c.ring) = add32 (tailOf s (168 + c.ring)) 1
        ∧ wasPut s t x (capBytes c (tailOf s (168 + c.ring))) y (add32 (tailOf s (168 + c.ring)) 1)
        ∧ t.cnt .MIR_DELIVER_CNT c.session = s.cnt .MIR_DELIVER_CNT c.session + 1#64 ∧ t.host.recq = rest))
  ∧ (∀ (s : State) (n : NRec) (rest : List (List NRec)), s.Sound → s.host.faultLog = [n] :: rest →
    (backlogged s = true ∨ ringTakes s (noteRing s n.kind) 1 = false → exec .faultBacklogDeliver s = .next s)
    ∧ (backlogged s = false → ringTakes s (noteRing s n.kind) 1 = true → ringReach s (noteRing s n.kind) = true →
      completes .faultBacklogDeliver s fun t => t.host.faultLog = rest))

/-! ### Register access (chapters 16, 17 and 19) -/

/-- R350, R351, R353 to R359, R363, R368, R370, R374, R4: what an access does by size, alignment and alias. A refused write is
logged with its kind and changes no register; a write of a shadowed register lands in its shadow and marks its group, and
where a later source's write of the same register clock has been taken first, the value is what both leave in their order; a far
access waits while the link is untrained, and a read that has waited 100 µs ends with an error. A direct read of a counter
returns it, captures its high word and clears it, but for one that an earlier source's read of the same register clock beats; one
under VIEW returns the holding register; a narrow read and one through an alias have no side effect; a read of a high word
returns the capture of its agent; an element that an LZ-S1024 lacks reads as 0 and ignores writes.
COUNTER_READ serves reads of every offset (log 15); the orders within a register clock are log 48's. -/
def Obligations.RegisterAccess : Prop :=
  (∀ (s : State) (a : Agent) (ali size : Fin 4) (off : BitVec 28) (v : DWord), s.Sound → s.pwr.keeperUp = true → linked s →
    (off.toNat % 2 ^ size.val ≠ 0 → completes (.registerWrite a ali size off v) s fun t =>
      faultLogged s t 2 a size ali off.toNat ∧ s.Only t [.sys, .ctl] faultRegs faultCnts)
    ∧ (off.toNat % 2 ^ size.val = 0 → size.val < 2 → fusedOff s (off.toNat - off.toNat % 4) = false →
      completes (.registerWrite a ali size off v) s fun t =>
        faultLogged s t 1 a size ali off.toNat ∧ s.Only t [.sys, .ctl] faultRegs faultCnts)
    ∧ (off.toNat % 2 ^ size.val = 0 → size.val < 2 → fusedOff s (off.toNat - off.toNat % 4) = true →
      exec (.registerWrite a ali size off v) s = .next s)
    ∧ (off.toNat % 4 = 0 → size.val = 2 → findReg off.toNat = none → findCnt off.toNat = none →
      findCntHi off.toNat = none → completes (.registerWrite a ali size off v) s fun t =>
        faultLogged s t 8 a 2 ali off.toNat ∧ s.Only t [.sys, .ctl] faultRegs faultCnts)
    ∧ (∀ r i j, off.toNat % 4 = 0 → size.val = 2 → findReg off.toNat = some (r, i, j) → fusedOff s off.toNat = false →
      ali.val ≠ 0 → r.rw = 0 → off.toNat ≠ Reg.off .SYS_KEY → completes (.registerWrite a ali size off v) s fun t =>
        faultLogged s t 4 a 2 ali off.toNat ∧ s.Only t [.sys, .ctl] faultRegs faultCnts)
    ∧ (∀ r i j, off.toNat % 4 = 0 → size.val = 2 → findReg off.toNat = some (r, i, j) → fusedReg s r i j = true →
      (r.key = false ∨ keyOpen s a = false) → isFar off.toNat = true → exec (.registerWrite a ali size off v) s = .next s)
    ∧ (∀ r i j, off.toNat % 4 = 0 → size.val = 2 → findReg off.toNat = some (r, i, j) → fusedOff s off.toNat = false →
      (r.base / 2 ^ 20 = 2 ∨ r.base / 2 ^ 20 = 10) → r.grp < 64 → r.rw ≠ 0 →
      (takenAfter s ⟨a, ali.val, off.toNat, v.setWidth 32, 2⟩ = [] → completes (.registerWrite a ali size off v) s fun t =>
        t.shad r i j = r.take (s.shad r i j) (aliased ali (s.shad r i j) (v.setWidth 32) r.rw)
        ∧ t.reg r i j = s.reg r i j
        ∧ t.reg .SYS_UPDATE_PENDING = s.reg .SYS_UPDATE_PENDING ||| BitVec.ofNat 32 (2 ^ r.grp)
        ∧ s.Only t [.shadow, .sys, .ctl] [Reg.off .SYS_UPDATE_PENDING] [])
      ∧ (∀ x, takenAfter s ⟨a, ali.val, off.toNat, v.setWidth 32, 2⟩ = [x] → r.w1c = 0 → r.wo = 0 →
        completes (.registerWrite a ali size off v) s fun t =>
          t.shad r i j = r.take (s.shad r i j)
            (writeOn r (writeOn r x.old ⟨a, ali.val, off.toNat, v.setWidth 32, 2⟩) x.write)
          ∧ t.reg r i j = s.reg r i j ∧ s.Only t [.shadow, .sys, .ctl] [Reg.off .SYS_UPDATE_PENDING] [])))
  ∧ (∀ (s : State) (a : Agent) (off : BitVec 28) (v : DWord), s.Sound → s.pwr.keeperUp = true →
    s.flag .SYS_PLANE_STATE_IDL_UP = false → off.toNat % 4 = 0 → isFar off.toNat = true → off.toNat ≠ Reg.off .SYS_KEY →
    (keyed ⟨a, 0, off.toNat, v.setWidth 32, 2⟩ = false → fusedOff s off.toNat = false →
      completes (.registerWrite a 0 2 off v) s fun t =>
        t.ctl.heldWrites = s.ctl.heldWrites ++ [⟨a, 0, off.toNat, v.setWidth 32, 2⟩] ∧ s.Only t [.ctl] [] [])
    ∧ (completes (.counterRead a 0 2 off) s fun t =>
      t.ctl.heldReads = s.ctl.heldReads ++ [⟨a, 0, off.toNat, 2, s.now⟩] ∧ s.Only t [.ctl] [] []))
  ∧ (∀ (s : State) (x : FarRead) (rest : List FarRead), s.Sound → s.ctl.heldReads = x :: rest →
    (s.now < x.since + 160000 → exec .farReadTimeout s = .next s)
    ∧ (x.since + 160000 ≤ s.now → completes .farReadTimeout s fun t =>
      t.ctl.heldReads = rest ∧ t.out = .readError x.agent :: s.out ∧ s.Only t [.ctl, .out] [] []))
  ∧ (∀ s : State, s.ctl.heldReads = [] → exec .farReadTimeout s = .next s)
  ∧ (∀ (s : State) (a : Agent) (ali : Fin 4) (off : BitVec 28), s.Sound → s.pwr.keeperUp = true → linked s →
    off.toNat % 4 = 0 → (findCnt off.toNat).isSome = true → fusedOff s off.toNat = false →
    (ali.val = 0 → s.flag .SYS_SNAP_CTRL_VIEW = false → readFirst s a off.toNat = false →
      completes (.counterRead a ali 2 off) s fun t =>
        t.out = .readData a 2 ((SMap.getD s.cnts off.toNat 0#64).toNat % 2 ^ 32) :: s.out
        ∧ captured t a (off.toNat + 4) = (SMap.getD s.cnts off.toNat 0#64).toNat / 2 ^ 32
        ∧ SMap.getD t.cnts off.toNat 0#64 = 0#64 ∧ s.Only t [.out, .pairs, .ctl] [] [off.toNat])
    ∧ (ali.val = 0 → s.flag .SYS_SNAP_CTRL_VIEW = false → readFirst s a off.toNat = true →
      completes (.counterRead a ali 2 off) s fun t =>
        t.out = .readData a 2 0 :: s.out ∧ captured t a (off.toNat + 4) = 0 ∧ s.Only t [.out, .pairs, .ctl] [] [])
    ∧ (ali.val = 0 → s.flag .SYS_SNAP_CTRL_VIEW = true →
      (isFar off.toNat = true ∨ s.flag .SYS_SNAP_STATUS_COPYING = false) →
      completes (.counterRead a ali 2 off) s fun t =>
        t.out = .readData a 2 ((SMap.getD s.hold off.toNat 0#64).toNat % 2 ^ 32) :: s.out
        ∧ captured t a (off.toNat + 4) = (SMap.getD s.hold off.toNat 0#64).toNat / 2 ^ 32
        ∧ s.Only t [.out, .pairs, .ctl] [] [])
    ∧ (ali.val ≠ 0 → s.flag .SYS_SNAP_CTRL_VIEW = false → completes (.counterRead a ali 2 off) s fun t =>
      t.out = .readData a 2 ((SMap.getD s.cnts off.toNat 0#64).toNat % 2 ^ 32) :: s.out ∧ s.Only t [.out, .ctl] [] [])
    ∧ (ali.val = 0 → s.flag .SYS_SNAP_CTRL_VIEW = false → readFirst s a off.toNat = false → off.toNat % 8 = 0 →
      findCnt (off.toNat + 4) = none → fusedOff s (off.toNat + 4) = false →
      completes (.counterRead a ali 3 off) s fun t =>
        t.out = .readData a 3 (SMap.getD s.cnts off.toNat 0#64).toNat :: s.out
        ∧ SMap.getD t.cnts off.toNat 0#64 = 0#64)
    ∧ (s.flag .SYS_SNAP_CTRL_VIEW = false → completes (.counterRead a ali 1 off) s fun t =>
      t.out = .readData a 1 ((SMap.getD s.cnts off.toNat 0#64).toNat % 2 ^ 16) :: s.out ∧ s.Only t [.out, .ctl] [] []))
  ∧ (∀ (s : State) (a : Agent) (off : BitVec 28), s.Sound → s.pwr.keeperUp = true → linked s →
    off.toNat % 4 = 0 → fusedOff s off.toNat = true → completes (.counterRead a 0 2 off) s fun t =>
      t.out = .readData a 2 0 :: s.out ∧ s.Only t [.out, .ctl] [] [])
  ∧ (∀ (s : State) (a : Agent) (off : BitVec 28), s.Sound → s.pwr.keeperUp = true → linked s →
    off.toNat % 4 = 0 → fusedOff s off.toNat = false → findCnt off.toNat = none →
    ((findCntHi off.toNat).isSome = true ∨ pairHigh off.toNat = true) →
    completes (.holdingPairRead a 0 2 off) s fun t =>
      t.out = .readData a 2 (captured s a off.toNat) :: s.out ∧ s.Only t [.out, .ctl] [] [])
  ∧ (∀ (s : State) (a : Agent) (ali size : Fin 4) (off : BitVec 28) (c : Instr), s.Sound → s.pwr.keeperUp = true → linked s →
    (c = .counterRead a ali size off ∨ c = .holdingPairRead a ali size off) → off.toNat % 2 ^ size.val ≠ 0 →
    completes c s fun t =>
      faultLogged s t 2 a size ali off.toNat ∧ t.out = .readData a size (2 ^ (8 * 2 ^ size.val) - 1) :: s.out
      ∧ s.Only t [.out, .sys, .ctl] faultRegs faultCnts)
  ∧ (∀ (s : State) (a : Agent), s.Sound → s.pwr.keeperUp = true → linked s →
    completes (.counterRead a 0 2 0) s fun t =>
      t.out = .readData a 2 (if s.sys.part = .s2048 then 0x20481000 else 0x10241000) :: s.out)

/-- R360, R363 to R366, R369, R377: keys open on their value and close on any other or at their time; a strobe applies the shadows
of every named group with pending writes, and no other; a snapshot copies the counters of the switch die at once and those of
the control die after it, and clears what it copied where CLEAR is set. A TAKE while it copies is refused, but for one in the
same register clock, which is the same snapshot, with the CLEAR of either (log 48). -/
def Obligations.KeysStrobesAndSnapshots : Prop :=
  (∀ (s : State) (a : Agent) (v : Word), s.Sound → linked s →
    (v = 0x7EA5#32 → completes (.keyWrite a v) s fun t =>
      keyOf' t a = some (s.now + 32768) ∧ keyOpen t a = true ∧ s.Only t [.ctl] [] [])
    ∧ (v ≠ 0x7EA5#32 → completes (.keyWrite a v) s fun t =>
      keyOf' t a = none ∧ faultLogged s t 7 a 2 0 (Reg.off .SYS_KEY) ∧ s.Only t [.sys, .ctl] faultRegs faultCnts))
  ∧ (∀ (s : State) (a : Agent) (e : Nat), s.Sound → keyOf' s a = some e →
    (s.now < e → exec (.keyTimeout a) s = .next s)
    ∧ (e ≤ s.now → completes (.keyTimeout a) s fun t => keyOf' t a = none ∧ s.Only t [.ctl] [] []))
  ∧ (∀ (s : State) (a : Agent) (v : Word), s.Sound → linked s →
    completes (.updateStrobeHi a v) s fun t => t.sys = { s.sys with strobeHi := v } ∧ s.Only t [.sys, .ctl] [] [])
  ∧ (∀ (s : State) (a : Agent) (mask : Word), s.Sound → linked s →
    completes (.updateStrobe a mask) s fun t =>
      t.reg .SYS_UPDATE_PENDING = s.reg .SYS_UPDATE_PENDING &&& ~~~mask ∧ t.sys.strobeHi = 0#32
      ∧ t.shadow = s.shadow
      ∧ ∀ q, groupAt q < 64 → SMap.get? t.regs q =
        (if (s.reg .SYS_UPDATE_PENDING).toNat.testBit (groupAt q) = true ∧ mask.toNat.testBit (groupAt q) = true then
          SMap.get? s.shadow q else SMap.get? s.regs q))
  ∧ (∀ (s : State) (a : Agent) (clear view : Bool), s.Sound → linked s →
    (s.flag .SYS_SNAP_STATUS_COPYING = true → s.sys.snapAt ≠ some s.regClk → completes (.snapshotTake a clear view) s fun t =>
      faultLogged s t 4 a 2 0 (Reg.off .SYS_SNAP_CTRL) ∧ s.Only t [.sys, .ctl] faultRegs faultCnts)
    ∧ (s.flag .SYS_SNAP_STATUS_COPYING = true → s.sys.snapAt = some s.regClk → completes (.snapshotTake a clear view) s fun t =>
      t.flag .SYS_SNAP_STATUS_COPYING = true ∧ t.flag .SYS_SNAP_CTRL_VIEW = view ∧ t.hold = s.hold
      ∧ t.sys.snapClear = (clear || s.sys.snapClear)
      ∧ (∀ q < 0x1000000, SMap.get? t.cnts q = if clear then none else SMap.get? s.cnts q)
      ∧ (∀ q, 0x1000000 ≤ q → SMap.get? t.cnts q = SMap.get? s.cnts q))
    ∧ (s.flag .SYS_SNAP_STATUS_COPYING = false → completes (.snapshotTake a clear view) s fun t =>
      t.flag .SYS_SNAP_STATUS_COPYING = true ∧ t.flag .SYS_SNAP_STATUS_DONE = false ∧ t.flag .SYS_SNAP_CTRL_VIEW = view
      ∧ t.sys.snapAt = some s.regClk
      ∧ (∀ q < 0x1000000, SMap.get? t.hold q = SMap.get? s.cnts q
        ∧ SMap.get? t.cnts q = if clear then none else SMap.get? s.cnts q)
      ∧ (∀ q, 0x1000000 ≤ q → SMap.get? t.hold q = SMap.get? s.hold q)))
  ∧ (∀ s : State, s.flag .SYS_SNAP_STATUS_COPYING = false → exec .snapshotDone s = .next s)
  ∧ (∀ s : State, s.Sound → s.flag .SYS_SNAP_STATUS_COPYING = true →
    completes .snapshotDone s fun t =>
      t.flag .SYS_SNAP_STATUS_COPYING = false ∧ t.flag .SYS_SNAP_STATUS_DONE = true
      ∧ t.fld .SYS_SNAP_STATUS_SEQ = (s.fld .SYS_SNAP_STATUS_SEQ + 1) % 65536
      ∧ (∀ q, 0x1000000 ≤ q → SMap.get? t.hold q = SMap.get? s.cnts q
        ∧ SMap.get? t.cnts q = if s.sys.snapClear then none else SMap.get? s.cnts q)
      ∧ (∀ q < 0x1000000, SMap.get? t.hold q = SMap.get? s.hold q ∧ SMap.get? t.cnts q = SMap.get? s.cnts q))

/-- R361, R378, R402 to R406: a reset request needs an open key and spends it; it is refused and logged during dusk and steep. Of
requests that meet the strongest is carried out, and a weaker one only spends its key. A
cold reset leaves every register of the switch die at its reset value, no counter and no host memory, and waits for the keeper
firmware; a warm reset keeps the control die, host memory and the retired tiles; an application-domain reset leaves the
switch die alone; a block reset clears its block, where the block takes one.
A reset takes no time of its own (log 24). -/
def Obligations.ResetRequests : Prop :=
  (∀ (s : State) (c : Instr) (a : Agent) (k : Fin 4) (b : Fin 32), s.Sound → linked s → keysStand s →
    (c = .resetKindNone a k ∨ c = .coldReset a ∨ c = .warmReset a ∨ c = .appDomainReset a ∨ c = .blockReset a b) →
    (keyOpen s a = false → completes c s fun t =>
      faultLogged s t 3 a 2 0 (Reg.off .SYS_RESET_CTRL) ∧ s.Only t [.sys, .ctl] faultRegs faultCnts)
    ∧ (passesKey s a (Reg.off .SYS_RESET_CTRL) → resetBarred s = true → c ≠ .resetKindNone a k → completes c s fun t =>
      faultLogged s t 4 a 2 0 (Reg.off .SYS_RESET_CTRL) ∧ keyOf' t a = none
      ∧ s.Only t [.sys, .ctl] faultRegs faultCnts))
  ∧ (∀ (s : State) (c : Instr) (a : Agent) (k : Nat) (b : Fin 32), s.Sound → linked s → keysStand s →
    passesKey s a (Reg.off .SYS_RESET_CTRL) → resetBarred s = false →
    (resetMet k s = true ∨ strongerWaits k (setKey a none s) = true) →
    ((c = .coldReset a ∧ k = 1) ∨ (c = .warmReset a ∧ k = 2) ∨ (c = .appDomainReset a ∧ k = 3) ∨ (c = .blockReset a b ∧ k = 4)) →
    completes c s fun t => keyOf' t a = none ∧ s.Only t [.ctl] [] [])
  ∧ (∀ (s : State) (a : Agent) (k : Fin 4), s.Sound → linked s → keysStand s → passesKey s a (Reg.off .SYS_RESET_CTRL) →
    completes (.resetKindNone a k) s fun t => keyOf' t a = none ∧ s.Only t [.ctl] [] [])
  ∧ (∀ (s : State) (a : Agent), s.Sound → linked s → keysStand s → passesKey s a (Reg.off .SYS_RESET_CTRL) →
    resetBarred s = false →
    (resetMet 1 s = false → completes (.coldReset a) s fun t =>
      t.reg .SYS_RESET_STATUS = BitVec.ofNat 32 (resetAgent a * 8 + 1)
      ∧ (∀ q < 0x1000000, q ∉ [Reg.off .SYS_RESET_STATUS, Reg.off .SYS_FUSE_USER, Reg.off .BUF_CARVE_STATUS] →
        SMap.get? t.regs q = none)
      ∧ (∀ q, SMap.get? t.cnts q = none) ∧ t.shadow = [] ∧ t.host.mem = [] ∧ t.tbl = {} ∧ t.leaf = {} ∧ t.tm = {}
      ∧ t.pwr.stopped = true ∧ t.pwr.appHeld = true
      ∧ t.pwr.seq = .keeper ∧ t.pwr.starting = some (tMinShown s))
    ∧ (resetMet 2 s = false → strongerWaits 2 (setKey a none s) = false → completes (.warmReset a) s fun t =>
      t.reg .SYS_RESET_STATUS = BitVec.ofNat 32 (resetAgent a * 8 + 2)
      ∧ (∀ q < 0x1000000, q ∉ [Reg.off .SYS_RESET_STATUS, Reg.off .SYS_FUSE_USER, Reg.off .BUF_CARVE_STATUS,
          Reg.off .BUF_RETIRE_STATUS] →
        (q < Reg.off .BUF_RETIRE ∨ Reg.off .BUF_RETIRE + 4096 ≤ q) → SMap.get? t.regs q = none)
      ∧ (∀ q, Reg.off .BUF_RETIRE ≤ q → q < Reg.off .BUF_RETIRE + 4096 → SMap.get? t.regs q = SMap.get? s.regs q)
      ∧ (s.nvm.op = none → s.nvm.bootPend = false →
        t.host.mem = s.host.mem
        ∧ ∀ q, 0x1000000 ≤ q → q ≠ Reg.off .IDL_STATUS → SMap.get? t.regs q = SMap.get? s.regs q)
      ∧ t.shadow = [] ∧ t.tbl = {} ∧ t.leaf = {} ∧ t.tm = {} ∧ t.pwr.stopped = true ∧ t.pwr.appHeld = true)
    ∧ (resetMet 3 s = false → strongerWaits 3 (setKey a none s) = false → completes (.appDomainReset a) s fun t =>
      appWasReset s t (resetAgent a) ∧ t.tbl = s.tbl ∧ t.leaf = s.leaf ∧ t.tm = s.tm ∧ t.pwr.stopped = s.pwr.stopped))
  ∧ (∀ (s : State) (a : Agent) (b : Fin 32), s.Sound → linked s → keysStand s → passesKey s a (Reg.off .SYS_RESET_CTRL) →
    resetBarred s = false → resetMet 4 s = false → strongerWaits 4 (setKey a none s) = false →
    (b.val = 1 → completes (.blockReset a b) s fun t =>
      t.reg .SYS_RESET_STATUS = BitVec.ofNat 32 (resetAgent a * 8 + 4)
      ∧ (∀ p < 256, t.flag .LEAF_PORT_CFG_EN p = false ∧ t.flag .LEAF_PORT_STATUS_LINK_UP p = false)
      ∧ (∀ g < 16, t.flag .LEAF_GROUP_STATUS_RESTARTING g = true)
      ∧ (∀ q, q / 2 ^ 20 = 1 → SMap.get? t.shadow q = none))
    ∧ ((b.val = 2 ∨ b.val = 10) → completes (.blockReset a b) s fun t =>
      t.reg .SYS_RESET_STATUS = BitVec.ofNat 32 (resetAgent a * 8 + 4)
      ∧ (∀ q, q / 2 ^ 20 = b.val → SMap.get? t.regs q = none ∧ SMap.get? t.shadow q = none)
      ∧ (∀ q, q / 2 ^ 20 ≠ b.val → q ∉ [Reg.off .SYS_UPDATE_PENDING, Reg.off .SYS_RESET_STATUS] →
        SMap.get? t.regs q = SMap.get? s.regs q ∧ SMap.get? t.shadow q = SMap.get? s.shadow q)
      ∧ (b.val = 2 → t.cls.rules = [] ∧ t.cls.edits = [] ∧ t.cls.tmpls = [] ∧ t.leaf = s.leaf)
      ∧ (b.val = 10 → t.cls = s.cls ∧ t.leaf = { s.leaf with samples := [], copies := [] }))
    ∧ (b.val = 11 → completes (.blockReset a b) s fun t =>
      t.reg .SYS_RESET_STATUS = BitVec.ofNat 32 (resetAgent a * 8 + 4)
      ∧ (∀ q, q / 2 ^ 20 = 11 → SMap.get? t.regs q = none)
      ∧ t.hlt.wins = [] ∧ t.hlt.offs = [] ∧ t.hlt.excused = [] ∧ t.hlt.led = s.hlt.led ∧ t.hlt.flog = s.hlt.flog)
    ∧ (b.val ∉ [1, 2, 10, 11] → completes (.blockReset a b) s fun t =>
      faultLogged s t 4 a 2 0 (Reg.off .SYS_RESET_CTRL) ∧ keyOf' t a = none
      ∧ s.Only t [.sys, .ctl] faultRegs faultCnts))

/-- R352, R379, R382, R387: user fuses and the slow writes. A blow needs a key, is refused while one runs or dusk does, and shows at
its end whether the bit reads back; a slow write sets BUSY and takes effect only when it has reached its target, a second one is
refused and logged meanwhile, but the keeper core's waits.
That a slow write takes its value at completion is the model's reading (log 49). -/
def Obligations.FusesAndSlowWrites : Prop :=
  (∀ (s : State) (a : Agent) (b : Fin 32), s.Sound → linked s →
    (keyOpen s a = false → completes (.fuseBlow a b) s fun t =>
      faultLogged s t 3 a 2 0 (Reg.off .SYS_FUSE_CTRL) ∧ s.Only t [.sys, .ctl] faultRegs faultCnts)
    ∧ (passesKey s a (Reg.off .SYS_FUSE_CTRL) → (s.flag .SYS_FUSE_STATUS_BUSY = true ∨ s.flag .KEEP_STATUS_DUSK = true) →
      completes (.fuseBlow a b) s fun t =>
        faultLogged s t 4 a 2 0 (Reg.off .SYS_FUSE_CTRL) ∧ s.Only t [.sys, .ctl] faultRegs faultCnts)
    ∧ (passesKey s a (Reg.off .SYS_FUSE_CTRL) → s.flag .SYS_FUSE_STATUS_BUSY = false → s.flag .KEEP_STATUS_DUSK = false →
      completes (.fuseBlow a b) s fun t =>
        t.flag .SYS_FUSE_STATUS_BUSY = true ∧ t.sys.fuseAt = some (s.now, b.val) ∧ t.nvm = s.nvm
        ∧ s.Only t [.ctl, .sys] [Reg.off .SYS_FUSE_STATUS] []))
  ∧ (∀ (s : State) (blown : Bool) (e b : Nat), s.Sound → s.sys.fuseAt = some (e, b) → b < 32 →
    completes (.fuseBlowDone blown) s fun t =>
      t.nvm.fuses = (if blown then s.nvm.fuses ||| BitVec.ofNat 32 (2 ^ b) else s.nvm.fuses)
      ∧ t.reg .SYS_FUSE_USER = t.nvm.fuses ∧ t.flag .SYS_FUSE_STATUS_BUSY = false ∧ t.sys.fuseAt = none
      ∧ (t.flag .SYS_FUSE_STATUS_ERR = true ↔ (s.flag .SYS_FUSE_STATUS_ERR = true ∨ t.nvm.fuses.getLsbD b = false)))
  ∧ (∀ (s : State) (a : Agent) (i : Fin 32) (v : Word), s.Sound → linked s →
    (keyOpen s a = false → completes (.railSetWrite a i v) s fun t =>
      faultLogged s t 3 a 2 0 (Reg.off .PWR_RAIL_SET i) ∧ s.Only t [.sys, .ctl] faultRegs faultCnts)
    ∧ (passesKey s a (Reg.off .PWR_RAIL_SET i) → railOk i (v.toNat % 65536) = false → completes (.railSetWrite a i v) s fun t =>
      faultLogged s t 4 a 2 0 (Reg.off .PWR_RAIL_SET i) ∧ s.Only t [.sys, .ctl] faultRegs faultCnts)
    ∧ (passesKey s a (Reg.off .PWR_RAIL_SET i) → railOk i (v.toNat % 65536) = true →
      (s.flag .PWR_SLOW_STATUS_BUSY = false → completes (.railSetWrite a i v) s fun t =>
        t.flag .PWR_SLOW_STATUS_BUSY = true ∧ t.sys.slowPwr = [write32 a .PWR_RAIL_SET v.toNat i]
        ∧ s.Only t [.ctl, .sys] [Reg.off .PWR_SLOW_STATUS] [])
      ∧ (s.flag .PWR_SLOW_STATUS_BUSY = true → a ≠ .keeper → completes (.railSetWrite a i v) s fun t =>
        faultLogged s t 5 a 2 0 (Reg.off .PWR_RAIL_SET i) ∧ s.Only t [.sys, .ctl] faultRegs faultCnts)
      ∧ (s.flag .PWR_SLOW_STATUS_BUSY = true → a = .keeper → completes (.railSetWrite a i v) s fun t =>
        t.sys.slowPwr = s.sys.slowPwr ++ [write32 a .PWR_RAIL_SET v.toNat i] ∧ s.Only t [.ctl, .sys] [] [])))
  ∧ (∀ (s : State) (a : Agent) (l : Fin 512) (v : Word), s.Sound → linked s → fusedOff s (Reg.off .OPT_LANE_BIAS l) = false →
    (keyOpen s a = false → completes (.optLaneBiasWrite a l v) s fun t =>
      faultLogged s t 3 a 2 0 (Reg.off .OPT_LANE_BIAS l) ∧ s.Only t [.sys, .ctl] faultRegs faultCnts)
    ∧ (passesKey s a (Reg.off .OPT_LANE_BIAS l) → s.flag .OPT_SLOW_STATUS_BUSY = false →
      completes (.optLaneBiasWrite a l v) s fun t =>
        t.flag .OPT_SLOW_STATUS_BUSY = true ∧ t.sys.slowOpt = [write32 a .OPT_LANE_BIAS v.toNat l]
        ∧ s.Only t [.ctl, .sys] [Reg.off .OPT_SLOW_STATUS] [])
    ∧ (passesKey s a (Reg.off .OPT_LANE_BIAS l) → s.flag .OPT_SLOW_STATUS_BUSY = true → a ≠ .keeper →
      completes (.optLaneBiasWrite a l v) s fun t =>
        faultLogged s t 5 a 2 0 (Reg.off .OPT_LANE_BIAS l) ∧ s.Only t [.sys, .ctl] faultRegs faultCnts)
    ∧ (passesKey s a (Reg.off .OPT_LANE_BIAS l) → s.flag .OPT_SLOW_STATUS_BUSY = true → a = .keeper →
      completes (.optLaneBiasWrite a l v) s fun t =>
        t.sys.slowOpt = s.sys.slowOpt ++ [write32 a .OPT_LANE_BIAS v.toNat l] ∧ s.Only t [.ctl, .sys] [] []))
  ∧ (∀ (s : State) (a : Agent) (l : Fin 512) (v : Word), s.Sound → linked s → fusedOff s (Reg.off .OPT_LANE_BIAS l) = true →
    (passesKey s a (Reg.off .OPT_LANE_BIAS l) → completes (.optLaneBiasWrite a l v) s fun t =>
      keyOf' t a = none ∧ s.Only t [.ctl] [] [])
    ∧ (keyOpen s a = false → exec (.optLaneBiasWrite a l v) s = .next s))
  ∧ (∀ (s : State) (a : Agent) (l : Fin 512) (v : Word) (ack : Bool), s.Sound → forwards s →
    s.sys.slowOpt = [write32 a .OPT_LANE_BIAS v.toNat l] →
    completes (.slowWriteDone .opt ack) s fun t =>
      t.flag .OPT_SLOW_STATUS_BUSY = false ∧ t.sys.slowOpt = []
      ∧ (ack = false → t.flag .OPT_SLOW_STATUS_NAK = true ∧ t.reg .OPT_LANE_BIAS l = s.reg .OPT_LANE_BIAS l)
      ∧ (ack = true → t.fld .OPT_LANE_BIAS_DISABLE l = Fld.OPT_LANE_BIAS_DISABLE.get v
        ∧ t.fld .OPT_LANE_BIAS_OVERRIDE l = Fld.OPT_LANE_BIAS_OVERRIDE.get v
        ∧ t.fld .OPT_LANE_BIAS_BIAS l = Fld.OPT_LANE_BIAS_BIAS.get v
        ∧ (Fld.OPT_LANE_BIAS_OVERRIDE.get v = 1 →
          t.fld .OPT_LANE_BIAS_BIAS_ACT l = min 0xC80 (Fld.OPT_LANE_BIAS_BIAS.get v))))
  ∧ (∀ (s : State) (a : Agent) (i : Fin 32) (v : Word) (ack : Bool), s.Sound →
    s.sys.slowPwr = [write32 a .PWR_RAIL_SET v.toNat i] →
    completes (.slowWriteDone .pwr ack) s fun t =>
      t.flag .PWR_SLOW_STATUS_BUSY = false ∧ t.sys.slowPwr = []
      ∧ (ack = false → t.flag .PWR_SLOW_STATUS_NAK = true ∧ t.reg .PWR_RAIL_SET i = s.reg .PWR_RAIL_SET i)
      ∧ (ack = true → (t.reg .PWR_RAIL_SET i).toNat = v.toNat % 65536)
      ∧ s.Only t [.sys] [Reg.off .PWR_SLOW_STATUS, Reg.off .PWR_RAIL_SET i] [])

/-! ### Power, thermal and dusk (chapter 18) -/

/-- R22, R385, R386, R394, R397, R398, R405, R408, R410, R439: power-on, what it counts of the last shutdown, rail faults and their
retries, the start of forwarding at dawn, the oven oscillator, the loss of the bus, and the fixture's reset request.
Where the rules leave the count of a shutdown or a start to inference, the model's readings hold (log 39, log 40). -/
def Obligations.PowerAndRails : Prop :=
  (∀ (s : State) (c : Climate) (ms : Nat), s.Sound →
    (s.pwr.seq ≠ .off ∨ c.voltage < 820 ∨ 2800 < c.voltage ∨ (s.pwr.tripLatched = true ∧ (8500 < c.tCase ∨ ms < 5000)) →
      exec (.powerOn c ms) s = .next s)
    ∧ (s.pwr.seq = .off → 820 ≤ c.voltage → c.voltage ≤ 2800 →
      (s.pwr.tripLatched = false ∨ (c.tCase ≤ 8500 ∧ 5000 ≤ ms)) →
      completes (.powerOn c ms) s fun t => poweredUp s t c
        ∧ (s.pwr.region = [] → ∀ q, SMap.get? t.cnts q = none)
        ∧ (∀ x rest, s.pwr.region = x :: rest → x.final = false ∨ x.complete = false →
          t.cnt .PWR_DUSK_INCOMPLETE_CNT = 1#64 ∧ t.cnt .PWR_DUSK_CNT = 0#64)
        ∧ (∀ x rest d, s.pwr.region = x :: rest → x.final = true → x.complete = true → x.dusk = some d →
          t.cnt .PWR_DUSK_CNT = 1#64 ∧ t.cnt .PWR_DUSK_INCOMPLETE_CNT = 0#64
          ∧ t.cnt .PWR_TRIP_CNT = (if d.causes.contains 2 then 1#64 else 0#64)
          ∧ t.flag .PWR_STATUS_LAST_TRIP = (s.pwr.tripLatched || d.causes.contains 2))))
  ∧ (∀ (s : State) (rail : Fin 28) (inService : Bool) (c : Climate), s.Sound →
    (s.pwr.seq = .off → exec (.railFault rail inService c) s = .next s)
    ∧ (s.pwr.seq ≠ .off → completes (.railFault rail inService c) s fun t =>
      t.cnt .PWR_RAIL_FAULT_CNT = s.cnt .PWR_RAIL_FAULT_CNT + 1#64
      ∧ ⟨1, ⟨.fault, 0, 0, s.ts64, 0, 0⟩, 1, 0, rail.val⟩ ∈ t.hlt.keepq
      ∧ t.pwr.railFails = (if inService then 1 else s.pwr.railFails + 1) ∧ t.pwr.railFaultAt = some s.now
      ∧ (3 ≤ t.pwr.railFails → t.flag .PWR_STATUS_RAIL_FAULT = true)
      ∧ (3 ≤ rail.val → duskCause s t 3 c)
      ∧ (rail.val < 3 → t.pwr.seq = .keeper ∧ t.pwr.stopped = true ∧ t.flag .PWR_STATUS_SEQ_DONE = false)))
  ∧ (∀ (s : State) (e : Nat), s.Sound → s.pwr.railFaultAt = some e →
    (s.now < e + 1600000000 ∨ 3 ≤ s.pwr.railFails ∨ s.pwr.seq ≠ .keeper ∨ s.pwr.dusk.isSome = true →
      exec .railRetry s = .next s)
    ∧ (e + 1600000000 ≤ s.now → s.pwr.railFails < 3 → s.pwr.seq = .keeper → s.pwr.dusk = none →
      completes .railRetry s fun t =>
        t.pwr.railFaultAt = none ∧ t.pwr.seq = (if tMinShown s < -2000 then .steep else .up)
        ∧ t.flag .PWR_STATUS_STEEP = (decide (tMinShown s < -2000) || s.flag .PWR_STATUS_STEEP)))
  ∧ (∀ s : State, s.Sound →
    (s.pwr.stopped = false ∨ s.pwr.dusk.isSome = true ∨ s.pwr.seq = .off ∨ s.pwr.seq = .keeper →
      exec .dawnInit s = .next s)
    ∧ (s.pwr.stopped = true → s.pwr.dusk = none → (s.pwr.seq = .steep ∨ s.pwr.seq = .up) → s.ctl.heldWrites = [] →
      s.ctl.heldReads = [] → completes .dawnInit s fun t =>
        t.pwr.stopped = false ∧ t.pwr.resetAt = none ∧ linked t ∧ t.ctl.idlDownAt = none ∧ t.tbl = s.tbl ∧ t.cls = s.cls))
  ∧ (∀ s : State, s.Sound →
    (s.pwr.keeperUp = false → exec .ovenOscillatorReady s = .next s)
    ∧ (s.pwr.keeperUp = true → completes .ovenOscillatorReady s fun t =>
      t.flag .PWR_STATUS_OVEN_READY = true
      ∧ (s.pwr.stopped = true → s.Only t [] [Reg.off .PWR_STATUS] [])))
  ∧ (∀ s : State, s.Sound →
    (s.pwr.keeperUp = false → exec .busCollapse s = .next s)
    ∧ (s.pwr.keeperUp = true → completes .busCollapse s fun t =>
      t.pwr.keeperUp = false ∧ t.pwr.seq = .off ∧ t.pwr.stopped = true
      ∧ (∀ e ∈ t.hlt.keepq, e ∈ s.hlt.keepq) ∧ (s.pwr.region = [] → t.hlt.keepq = [])
      ∧ s.hlt.logSeq ≤ t.hlt.logSeq ∧ t.hlt.logSeq ≤ s.hlt.logSeq + s.hlt.keepq.length ∧ t.host.mem = []
      ∧ t.pwr.region = s.pwr.region))
  ∧ (∀ (s : State) (ms : Nat) (c : Climate), s.Sound →
    (ms < 10 ∨ (s.pwr.seq = .off ∧ (s.pwr.tripLatched = false ∨ 8500 < c.tCase ∨ c.voltage < 820 ∨ 2800 < c.voltage)) →
      exec (.fixtureResetRelease ms c) s = .next { s with pwr := { s.pwr with requestHeld := false } })
    ∧ (10 ≤ ms → s.pwr.seq = .off → s.pwr.tripLatched = true → c.tCase ≤ 8500 → 820 ≤ c.voltage → c.voltage ≤ 2800 →
      completes (.fixtureResetRelease ms c) s fun t => poweredUp s t c)
    ∧ (10 ≤ ms → s.pwr.seq ≠ .off → resetBarred s = true → linked s → completes (.fixtureResetRelease ms c) s fun t =>
      faultLogged s t 4 .keeper 2 0 (Reg.off .SYS_RESET_CTRL) ∧ s.Only t [.pwr, .sys, .ctl] faultRegs faultCnts)
    ∧ (10 ≤ ms → s.pwr.seq ≠ .off → resetBarred s = false → resetMet 1 s = true →
      exec (.fixtureResetRelease ms c) s = .next { s with pwr := { s.pwr with requestHeld := false } })
    ∧ (10 ≤ ms → s.pwr.seq ≠ .off → resetBarred s = false → resetMet 1 s = false →
      completes (.fixtureResetRelease ms c) s fun t =>
        t.reg .SYS_RESET_STATUS = 25#32 ∧ t.pwr.stopped = true ∧ t.pwr.appHeld = true ∧ t.host.mem = []
        ∧ t.pwr.seq = .keeper ∧ t.pwr.starting = some (tMinShown s)))
  ∧ (∀ s : State, s.Sound →
    completes .recoveryHold s fun t => t.pwr = { s.pwr with requestHeld := true }
      ∧ (s.pwr.keeperUp = false → s.Only t [.pwr] [] [])
      ∧ (s.pwr.keeperUp = true → t.flag .NVM_BOOT_SEL_RECOVERY = true ∧ Fld.NVM_BOOT_SEL_RECOVERY.get t.nvm.bootFlash = 1
        ∧ s.Only t [.pwr, .nvm] [Reg.off .NVM_BOOT_SEL] []))

/-- R383, R394 to R397: the causes of dusk, its stop of forwarding at 1 ms with the copy of the counters, its end with or without
the commit marker and what becomes of the rails, the restart after it, and the counter checkpoints between.
Where the rules leave the end of dusk to inference, the model's readings hold (log 39). -/
def Obligations.DuskSequence : Prop :=
  (∀ (s : State) (c : Climate), s.Sound →
    (s.flag .PWR_STATUS_INPUT_OK = false → exec (.mainsLoss c) s = .next s ∧ exec (.dusk c) s = .next s)
    ∧ (s.flag .PWR_STATUS_INPUT_OK = true → s.pwr.seq ≠ .off →
      (completes (.mainsLoss c) s fun t =>
        t.flag .PWR_STATUS_INPUT_OK = false ∧ t.cnt .PWR_MAINS_LOSS_CNT = s.cnt .PWR_MAINS_LOSS_CNT + 1#64
        ∧ duskCause s t 1 c)
      ∧ (completes (.dusk c) s fun t =>
        duskCause s t 3 c ∧ (s.pwr.dusk.isSome = true → s.Only t [.pwr] [] []))))
  ∧ (∀ (s : State) (c : Climate), s.Sound →
    (s.pwr.seq = .off ∨ s.pwr.tripLatched = true
        ∨ (c.tCase < 13000 ∧ ∀ x ∈ (c.sensors.drop 2).take 14, x < 15000) → exec (.thermalTrip c) s = .next s)
    ∧ (s.pwr.seq ≠ .off → s.pwr.tripLatched = false →
      (13000 ≤ c.tCase ∨ ∃ x ∈ (c.sensors.drop 2).take 14, 15000 ≤ x) →
      completes (.thermalTrip c) s fun t =>
        t.pwr.tripLatched = true ∧ ⟨1, ⟨.fault, 0, 0, s.ts64, 0, 0⟩, 6, 0, 0⟩ ∈ t.hlt.keepq ∧ duskCause s t 2 c))
  ∧ (∀ (s : State) (d : DuskSt), s.Sound → s.pwr.dusk = some d →
    (d.stopped = true ∨ s.now < d.t0 + 1600000 → exec .duskForwardStop s = .next s)
    ∧ (d.stopped = false → d.t0 + 1600000 ≤ s.now → completes .duskForwardStop s fun t =>
      t.pwr.stopped = true ∧ t.flag .PWR_STATUS_SEQ_DONE = false
      ∧ (∀ p, (portOf t p).tx = none)
      ∧ (∀ p < 256, t.cnt .LEAF_TX_LINKDOWN_ABORT_CNT p = s.cnt .LEAF_TX_LINKDOWN_ABORT_CNT p
        + BitVec.ofNat 64 (s.leaf.ports.filter (fun e => e.1 % 256 == p && e.2.tx.isSome)).length)
      ∧ ∃ x, t.pwr.region = x :: s.pwr.region.take 1 ∧ x.final = true ∧ x.complete = false ∧ x.counts = t.tot
        ∧ x.dusk = t.pwr.dusk ∧ x.logs = t.hlt.keepq))
  ∧ (∀ s : State, s.pwr.dusk = none →
    exec .duskForwardStop s = .next s ∧ exec .duskCheckpointDone s = .next s)
  ∧ (∀ (s : State) (d : DuskSt) (x : Checkpoint) (rest : List Checkpoint), s.Sound → s.pwr.dusk = some d →
    s.pwr.region = x :: rest →
    (d.stopped = false → exec .duskCheckpointDone s = .next s)
    ∧ (d.stopped = true → completes .duskCheckpointDone s fun t =>
      t.pwr.dusk = none ∧ t.flag .PWR_STATUS_DUSK = false ∧ t.flag .KEEP_STATUS_DUSK = false
      ∧ t.pwr.region =
        (if s.pwr.abandoned then x else { x with complete := true, dusk := some d, logs := s.hlt.keepq }) :: rest
      ∧ t.pwr.stopped = true ∧ t.host.mem = []
      ∧ (s.pwr.tripLatched = true → t.pwr.seq = .off ∧ t.pwr.keeperUp = false ∧ t.pwr.tripLatched = true)
      ∧ (s.pwr.tripLatched = false → s.flag .PWR_STATUS_INPUT_OK = false →
        t.pwr.seq = .keeper ∧ t.pwr.keeperUp = s.pwr.keeperUp ∧ t.pwr.duskEndAt = some s.now)
      ∧ (s.pwr.tripLatched = false → s.flag .PWR_STATUS_INPUT_OK = true → s.pwr.railFaultAt.isSome = true →
        t.pwr.seq = .keeper ∧ t.pwr.keeperUp = s.pwr.keeperUp ∧ t.pwr.railFaultAt = s.pwr.railFaultAt
        ∧ (s.pwr.abandoned = false → t.cnt .PWR_DUSK_CNT = s.cnt .PWR_DUSK_CNT + 1#64)
        ∧ (s.pwr.abandoned = true → t.cnt .PWR_DUSK_INCOMPLETE_CNT = s.cnt .PWR_DUSK_INCOMPLETE_CNT + 1#64))
      ∧ (s.pwr.tripLatched = false → s.flag .PWR_STATUS_INPUT_OK = true → s.pwr.railFaultAt = none →
        t.pwr.seq = .off ∧ t.pwr.keeperUp = false ∧ t.pwr.duskEndAt = some s.now)))
  ∧ (∀ (s : State) (c : Climate) (e : Nat), s.Sound → s.pwr.duskEndAt = some e →
    (s.now < e + 160000000 ∨ c.voltage < 850 ∨ 2650 < c.voltage ∨ s.pwr.tripLatched = true →
      exec (.duskRestart c) s = .next s)
    ∧ (e + 160000000 ≤ s.now → 850 ≤ c.voltage → c.voltage ≤ 2650 → s.pwr.tripLatched = false →
      completes (.duskRestart c) s fun t => poweredUp s t c ∧ t.pwr.duskEndAt = none))
  ∧ (∀ s : State, s.Sound →
    (s.flag .KEEP_STATUS_ALIVE = false ∨ s.pwr.dusk.isSome = true ∨ s.now / 1600000000 ≤ s.pwr.ckptAt →
      exec .counterCheckpoint s = .next s)
    ∧ (s.flag .KEEP_STATUS_ALIVE = true → s.pwr.dusk = none → s.pwr.ckptAt < s.now / 1600000000 →
      completes .counterCheckpoint s fun t =>
        t.pwr = { s.pwr with ckptAt := s.now / 1600000000
                             region := ⟨false, true, s.tot, none, []⟩ :: s.pwr.region.take 1 }
        ∧ s.Only t [.pwr] [] []))

/-- R384, R388 to R391, R393, R399: at a 100 ms boundary the keeper core shows the means, ends steep at −20 °C, limits power and sets
the simmer stage with its hysteresis, sheds by the shed order and raises vector 177; the power limit clears after 10 s; steep
past 300 s is noted once; quiet darkens every leaf port and, once the keeper firmware runs, clears SKY_TX_EN, which its release
does not restore. The limits are 1,450 W and 1,300 W on an LZ-S2048, and 900 W on an LZ-S1024, whose lower limit is the
model's (log 51). -/
def Obligations.SteepSimmerAndQuiet : Prop :=
  (∀ (s : State) (c : Climate), s.Sound →
    (s.flag .KEEP_STATUS_ALIVE = false ∨ s.pwr.dusk.isSome = true ∨ s.now / 160000000 ≤ s.pwr.evalAt →
      exec (.thermalEvaluation c) s = .next s)
    ∧ (s.flag .KEEP_STATUS_ALIVE = true → s.pwr.dusk = none → s.pwr.evalAt < s.now / 160000000 →
      completes (.thermalEvaluation c) s fun t =>
        t.pwr.evalAt = s.now / 160000000
        ∧ t.fld .PWR_INPUT_POWER = c.power % 65536 ∧ t.fld .PWR_INPUT_VOLTAGE = c.voltage % 65536
        ∧ t.fld .PWR_THERMAL_T_CASE = unsgn 16 c.tCase ∧ t.fld .PWR_THERMAL_T_MIN = unsgn 16 c.tMin
        ∧ (s.pwr.seq = .steep → -2000 ≤ c.tMin → t.pwr.seq = .up ∧ t.flag .PWR_STATUS_STEEP = false
          ∧ t.flag .PWR_STATUS_SEQ_DONE = true ∧ t.cnt .PWR_STEEP_CNT = s.cnt .PWR_STEEP_CNT + 1#64)
        ∧ (s.pwr.seq = .steep → c.tMin < -2000 → t.pwr.seq = .steep)
        ∧ (s.pwr.seq ≠ .steep → c.tMin < -2000 → t.pwr.dummy = true)
        ∧ (s.pwr.seq ≠ .steep → -1500 ≤ c.tMin → t.pwr.dummy = false)
        ∧ (powerMax s < c.power → t.flag .PWR_STATUS_SIMMER_POWER = true ∧ t.cnt .PWR_POWER_LIMIT_CNT =
          s.cnt .PWR_POWER_LIMIT_CNT + (if s.flag .PWR_STATUS_SIMMER_POWER then 0#64 else 1#64))
        ∧ (c.power ≤ powerMax s → t.flag .PWR_STATUS_SIMMER_POWER = s.flag .PWR_STATUS_SIMMER_POWER)
        ∧ (powerLow s ≤ c.power → t.pwr.lowSince = none)
        ∧ (c.power < powerLow s → t.pwr.lowSince = some (s.pwr.lowSince.getD s.now))
        ∧ (10500 ≤ c.tCase → t.fld .PWR_STATUS_SIMMER = 2)
        ∧ (c.tCase < 10500 → s.fld .PWR_STATUS_SIMMER = 2 → t.fld .PWR_STATUS_SIMMER = if c.tCase ≤ 10200 then 1 else 2)
        ∧ (c.tCase < 10500 → s.fld .PWR_STATUS_SIMMER = 1 → t.fld .PWR_STATUS_SIMMER =
          if c.tCase ≤ 8200 ∧ t.flag .PWR_STATUS_SIMMER_POWER = false then 0 else 1)
        ∧ (c.tCase < 10500 → s.fld .PWR_STATUS_SIMMER = 0 → t.fld .PWR_STATUS_SIMMER =
          if 8500 ≤ c.tCase ∨ t.flag .PWR_STATUS_SIMMER_POWER = true then 1 else 0)
        ∧ (t.fld .PWR_STATUS_SIMMER ≠ s.fld .PWR_STATUS_SIMMER →
          t.fld .KEEP_STATUS_SIMMER = t.fld .PWR_STATUS_SIMMER ∧ pends t 177
          ∧ t.pwr.shed = shedSet (t.fld .PWR_STATUS_SIMMER) s
          ∧ (∀ g < 16, g ∈ t.pwr.shed → g ∉ s.pwr.shed → ∀ p < 16, portUp t (16 * g + p) = false))
        ∧ (t.fld .PWR_STATUS_SIMMER = s.fld .PWR_STATUS_SIMMER → t.pwr.shed = s.pwr.shed)))
  ∧ (∀ (s : State) (e : Nat), s.Sound → s.pwr.lowSince = some e →
    (s.flag .KEEP_STATUS_ALIVE = false ∨ s.now < e + 16000000000 → exec .powerLimitClear s = .next s)
    ∧ (s.flag .KEEP_STATUS_ALIVE = true → e + 16000000000 ≤ s.now → completes .powerLimitClear s fun t =>
      t.flag .PWR_STATUS_SIMMER_POWER = false ∧ s.Only t [] [Reg.off .PWR_STATUS] []))
  ∧ (∀ (s : State) (e : Nat), s.Sound → s.pwr.steepAt = some e →
    (s.now < e + 480000000000 ∨ s.pwr.steepLate = true → exec .steepTimeout s = .next s)
    ∧ (e + 480000000000 ≤ s.now → s.pwr.steepLate = false → completes .steepTimeout s fun t =>
      t.pwr = { s.pwr with steepLate := true } ∧ t.cnt .PWR_STEEP_TIMEOUT_CNT = s.cnt .PWR_STEEP_TIMEOUT_CNT + 1#64
      ∧ t.hlt.keepq = s.hlt.keepq ++ [⟨1, ⟨.fault, 0, 0, s.ts64, 0, 0⟩, 3, 0, 0⟩] ∧ alarmOn t = true
      ∧ s.Only t [.pwr, .hlt] [] [Cnt.off .PWR_STEEP_TIMEOUT_CNT]))
  ∧ (∀ s : State, s.pwr.quiet = true → exec .quietAssert s = .next s)
  ∧ (∀ s : State, s.Sound → s.pwr.quiet = false →
    (s.pwr.keeperUp = false → exec .quietAssert s = .next { s with pwr := { s.pwr with quiet := true } })
    ∧ (s.pwr.keeperUp = true → completes .quietAssert s fun t =>
      t.pwr = { s.pwr with quiet := true } ∧ (∀ p < 256, portUp t p = false)
      ∧ (s.flag .KEEP_STATUS_ALIVE = true → s.flag .PWR_STATUS_QUIET = false →
        t.flag .PWR_STATUS_QUIET = true ∧ t.cnt .PWR_QUIET_CNT = s.cnt .PWR_QUIET_CNT + 1#64
        ∧ t.flag .SKY_TX_EN_EN = false ∧ t.flag .SKY_STATE_TX_OFF = true)
      ∧ (s.flag .KEEP_STATUS_ALIVE = false → t.reg .PWR_STATUS = s.reg .PWR_STATUS
        ∧ t.cnt .PWR_QUIET_CNT = s.cnt .PWR_QUIET_CNT ∧ t.reg .SKY_TX_EN = s.reg .SKY_TX_EN)))
  ∧ (∀ s : State, s.Sound →
    (s.pwr.quiet = false → exec .quietRelease s = .next s)
    ∧ (s.pwr.quiet = true → completes .quietRelease s fun t =>
      t.pwr = { s.pwr with quiet := false } ∧ t.flag .PWR_STATUS_QUIET = false
      ∧ s.Only t [.pwr, .leaf] [Reg.off .PWR_STATUS] []))

/-! ### The NVM engine, boot and keeper firmware (chapter 19) -/

/-- R407, R411, R413 to R415, R417: how each NVM command begins: refused without power, with code 7 during dusk and code 2 while an
operation runs; with code 3 or 4 where its range, length or slot does not stand; else it starts or completes. CONFIRM, RUN and
ABORT are never refused as busy. -/
def Obligations.NvmCommands : Prop :=
  (∀ (s : State) (c : Instr) (a : Agent) (k : Fin 2) (x : Byte), s.Sound →
    (c = .nvmRead a ∨ c = .nvmWrite a ∨ c = .imageCommit a k ∨ c = .switch a k ∨ c = .cfgCommit a ∨ c = .confirm a
      ∨ c = .run a x ∨ c = .abort a) →
    (s.pwr.keeperUp = false → exec c s = .next s)
    ∧ (s.pwr.keeperUp = true → s.flag .KEEP_STATUS_DUSK = true → completes c s fun t =>
      t.flag .NVM_STATUS_ERR = true ∧ t.fld .NVM_STATUS_ERR_CODE = 7 ∧ s.Only t [] [Reg.off .NVM_STATUS] [])
    ∧ (s.pwr.keeperUp = true → s.flag .KEEP_STATUS_DUSK = false → s.nvm.op.isSome = true →
      c ≠ .confirm a → c ≠ .run a x → c ≠ .abort a → completes c s fun t =>
        t.flag .NVM_STATUS_ERR = true ∧ t.fld .NVM_STATUS_ERR_CODE = 2 ∧ s.Only t [] [Reg.off .NVM_STATUS] []))
  ∧ (∀ (s : State) (a : Agent), s.Sound → s.pwr.keeperUp = true → s.flag .KEEP_STATUS_DUSK = false → s.nvm.op = none →
    (nvmRange 0 s = true → completes (.nvmRead a) s fun t =>
      t.nvm = { s.nvm with op := some ⟨1, 0, nvmFlash s, nvmHost s, nvmLen s, none⟩ } ∧ t.flag .NVM_STATUS_BUSY = true
      ∧ t.cnt .NVM_READ_CNT = s.cnt .NVM_READ_CNT + 1#64
      ∧ s.Only t [.nvm] [Reg.off .NVM_STATUS] [Cnt.off .NVM_READ_CNT])
    ∧ (nvmRange 0 s = false → completes (.nvmRead a) s fun t =>
      t.flag .NVM_STATUS_ERR = true ∧ t.fld .NVM_STATUS_ERR_CODE = 3 ∧ s.Only t [] [Reg.off .NVM_STATUS] [])
    ∧ (nvmRange (18 * gib) s = true → completes (.nvmWrite a) s fun t =>
      t.nvm = { s.nvm with op := some ⟨2, 0, nvmFlash s, nvmHost s, nvmLen s, none⟩ } ∧ t.flag .NVM_STATUS_BUSY = true
      ∧ t.cnt .NVM_WRITE_CNT = s.cnt .NVM_WRITE_CNT + 1#64
      ∧ s.Only t [.nvm] [Reg.off .NVM_STATUS] [Cnt.off .NVM_WRITE_CNT])
    ∧ (nvmRange (18 * gib) s = false → completes (.nvmWrite a) s fun t =>
      t.flag .NVM_STATUS_ERR = true ∧ t.fld .NVM_STATUS_ERR_CODE = 3 ∧ s.Only t [] [Reg.off .NVM_STATUS] [])
    ∧ (nvmLen s ≤ 536866816 → inDram (nvmHost s) (nvmLen s) = true → completes (.cfgCommit a) s fun t =>
      t.nvm.op = some ⟨6, (nextCopy s).2, cfgBase (nextCopy s).1, nvmHost s, nvmLen s, none⟩
      ∧ t.flag .NVM_STATUS_BUSY = true ∧ curCopy t = curCopy s
      ∧ t.cnt .NVM_CFG_COMMIT_CNT = s.cnt .NVM_CFG_COMMIT_CNT + 1#64)
    ∧ (536866816 < nvmLen s ∨ inDram (nvmHost s) (nvmLen s) = false → completes (.cfgCommit a) s fun t =>
      t.flag .NVM_STATUS_ERR = true ∧ t.fld .NVM_STATUS_ERR_CODE = 3 ∧ s.Only t [] [Reg.off .NVM_STATUS] []))
  ∧ (∀ (s : State) (a : Agent) (k : Fin 2), s.Sound → s.pwr.keeperUp = true → s.flag .KEEP_STATUS_DUSK = false →
    s.nvm.op = none →
    (slotHeld s k = true → completes (.imageCommit a k) s fun t =>
      t.flag .NVM_STATUS_ERR = true ∧ t.fld .NVM_STATUS_ERR_CODE = 4 ∧ s.Only t [] [Reg.off .NVM_STATUS] [])
    ∧ (slotHeld s k = false → (nvmLen s = 0 ∨ nvmLen s % 4096 ≠ 0 ∨ inDram (nvmHost s) (nvmLen s) = false) →
      completes (.imageCommit a k) s fun t =>
        t.flag .NVM_STATUS_ERR = true ∧ t.fld .NVM_STATUS_ERR_CODE = 3 ∧ s.Only t [] [Reg.off .NVM_STATUS] [])
    ∧ (slotHeld s k = false → nvmLen s ≠ 0 → nvmLen s % 4096 = 0 → inDram (nvmHost s) (nvmLen s) = true →
      completes (.imageCommit a k) s fun t =>
        slotState t k = 1 ∧ slotState t (1 - k) = slotState s (1 - k)
        ∧ t.nvm.op = some ⟨3, k, slotBase k, nvmHost s, nvmLen s, none⟩
        ∧ t.flag .NVM_STATUS_BUSY = true ∧ t.cnt .NVM_COMMIT_CNT = s.cnt .NVM_COMMIT_CNT + 1#64)
    ∧ (slotState s k = 2 → completes (.switch a k) s fun t =>
      t.fld .NVM_BOOT_SEL_ACTIVE = k ∧ t.flag .NVM_BOOT_SEL_TRIAL = true
      ∧ Fld.NVM_BOOT_SEL_ACTIVE.get t.nvm.bootFlash = k ∧ Fld.NVM_BOOT_SEL_TRIAL.get t.nvm.bootFlash = 1
      ∧ t.nvm.trialBoots = 0 ∧ t.flag .NVM_STATUS_DONE = true
      ∧ s.Only t [.nvm] [Reg.off .NVM_BOOT_SEL, Reg.off .NVM_STATUS] [])
    ∧ (slotState s k ≠ 2 → completes (.switch a k) s fun t =>
      t.flag .NVM_STATUS_ERR = true ∧ t.fld .NVM_STATUS_ERR_CODE = 4 ∧ s.Only t [] [Reg.off .NVM_STATUS] []))
  ∧ (∀ (s : State) (a : Agent) (x : Byte), s.Sound → s.pwr.keeperUp = true → s.flag .KEEP_STATUS_DUSK = false →
    (completes (.confirm a) s fun t =>
      t.flag .NVM_BOOT_SEL_TRIAL = false ∧ Fld.NVM_BOOT_SEL_TRIAL.get t.nvm.bootFlash = 0 ∧ t.nvm.op = s.nvm.op
      ∧ t.flag .NVM_STATUS_DONE = true ∧ s.Only t [.nvm] [Reg.off .NVM_BOOT_SEL, Reg.off .NVM_STATUS] [])
    ∧ (s.fld .SYS_RUN_STATE_STATE = 0 → (x = 1#8 ∨ x = 2#8) → completes (.run a x) s fun t =>
      t.fld .SYS_RUN_STATE_STATE = x.toNat ∧ t.flag .NVM_STATUS_DONE = true
      ∧ s.Only t [] [Reg.off .SYS_RUN_STATE, Reg.off .NVM_STATUS] [])
    ∧ (s.fld .SYS_RUN_STATE_STATE ≠ 0 ∨ (x ≠ 1#8 ∧ x ≠ 2#8) → completes (.run a x) s fun t =>
      t.flag .NVM_STATUS_ERR = true ∧ t.fld .NVM_STATUS_ERR_CODE = 9 ∧ s.Only t [] [Reg.off .NVM_STATUS] [])
    ∧ (s.nvm.op = none → exec (.abort a) s = .next s)
    ∧ (∀ o, s.nvm.op = some o → completes (.abort a) s fun t =>
      t.nvm.op = none ∧ t.flag .NVM_STATUS_BUSY = false ∧ t.flag .NVM_STATUS_ERR = true ∧ t.fld .NVM_STATUS_ERR_CODE = 8
      ∧ slotState t 0 = slotState s 0 ∧ slotState t 1 = slotState s 1 ∧ curCopy t = curCopy s))

/-- R407, R409 to R412, R413 to R415, R417: the end of each operation, the boot of a slot with its reverts and its recovery, the
loader, the trial's timer and the keeper firmware.
That a slot of any state that fails its check becomes BAD and counts, and what an interrupted operation leaves, are the
model's readings (log 42, log 43). -/
def Obligations.NvmEndsAndBoot : Prop :=
  (∀ (s : State) (e : NvmEnd), s.nvm.op = none → exec (.nvmOpComplete e) s = .next s)
  ∧ (∀ (s : State) (o : NvmOp), s.Sound → s.nvm.op = some o →
    (completes (.nvmOpComplete .flashError) s fun t =>
      t.nvm.op = none ∧ t.flag .NVM_STATUS_BUSY = false ∧ t.fld .NVM_STATUS_ERR_CODE = 6 ∧ t.flag .NVM_STATUS_ERR = true
      ∧ t.cnt .NVM_FLASH_ERR_CNT = s.cnt .NVM_FLASH_ERR_CNT + 1#64
      ∧ slotState t 0 = slotState s 0 ∧ slotState t 1 = slotState s 1 ∧ curCopy t = curCopy s)
    ∧ (∀ e, e ≠ .flashError → o.op = 1 → poisoned s o.host o.len = [] → completes (.nvmOpComplete e) s fun t =>
      t.nvm.op = none ∧ t.flag .NVM_STATUS_BUSY = false ∧ t.flag .NVM_STATUS_DONE = true
      ∧ (∀ i < o.len, SMap.getD t.host.mem (o.host + i) 0#8 = flashByte s (o.flash + i))
      ∧ (∀ b, (b < o.host ∨ o.host + o.len ≤ b) → SMap.getD t.host.mem b 0#8 = SMap.getD s.host.mem b 0#8))
    ∧ (∀ e, e ≠ .flashError → o.op = 2 → o.image = none → poisoned s o.host o.len = [] →
      completes (.nvmOpComplete e) s fun t =>
        t.nvm.op = none ∧ t.flag .NVM_STATUS_BUSY = false ∧ t.flag .NVM_STATUS_DONE = true ∧ t.host = s.host
        ∧ (∀ i < o.len, SMap.getD t.nvm.flash (o.flash + i) 0#8 = SMap.getD s.host.mem (o.host + i) 0#8)
        ∧ (∀ b, (b < o.flash ∨ o.flash + o.len ≤ b) → SMap.getD t.nvm.flash b 0#8 = SMap.getD s.nvm.flash b 0#8))
    ∧ (o.op = 3 → o.arg < 2 → completes (.nvmOpComplete .good) s fun t =>
      t.nvm.op = none ∧ slotState t o.arg = 2 ∧ slotState t (1 - o.arg) = slotState s (1 - o.arg)
      ∧ t.flag .NVM_STATUS_DONE = true)
    ∧ (o.op = 3 → o.arg < 2 → completes (.nvmOpComplete .badImage) s fun t =>
      t.nvm.op = none ∧ slotState t o.arg = 3 ∧ t.fld .NVM_STATUS_ERR_CODE = 5 ∧ t.flag .NVM_STATUS_ERR = true
      ∧ t.cnt .NVM_COMMIT_FAIL_CNT = s.cnt .NVM_COMMIT_FAIL_CNT + 1#64)
    ∧ (∀ e k, e ≠ .flashError → o.op = 6 → k < 2 → o.flash = cfgBase k → (∀ x, curCopy s = some x → x.2 < o.arg) →
      completes (.nvmOpComplete e) s fun t =>
        t.nvm.op = none ∧ curCopy t = some (k, o.arg) ∧ t.flag .NVM_STATUS_DONE = true))
  ∧ (∀ s : State, s.Sound →
    (s.nvm.bootPend = false → exec .bootSelWrite s = .next s)
    ∧ (s.nvm.bootPend = true → completes .bootSelWrite s fun t =>
      t.nvm = { s.nvm with bootFlash := s.reg .NVM_BOOT_SEL, bootPend := false } ∧ s.Only t [.nvm] [] []))
  ∧ (∀ (s : State) (goodA goodB : Bool), s.Sound →
    (s.pwr.appHeld = false ∨ s.pwr.stopped = true ∨ s.pwr.seq ≠ .up ∨ s.flag .KEEP_STATUS_ALIVE = false ∨ s.pwr.dusk.isSome = true →
      exec (.boot goodA goodB) s = .next s)
    ∧ (s.pwr.appHeld = true → s.pwr.stopped = false → s.pwr.seq = .up → s.flag .KEEP_STATUS_ALIVE = true → s.pwr.dusk = none →
      (s.flag .NVM_BOOT_SEL_RECOVERY = true → completes (.boot goodA goodB) s fun t =>
        t.nvm.recovery = true ∧ t.pwr.appHeld = false ∧ t.fld .SYS_RUN_STATE_STATE = 3
        ∧ t.flag .NVM_BOOT_SEL_RECOVERY = false ∧ t.nvm.booted = s.nvm.booted)
      ∧ (∀ k : Fin 2, s.flag .NVM_BOOT_SEL_RECOVERY = false → mustRevert s = false → s.fld .NVM_BOOT_SEL_ACTIVE = k →
        (slotState s k = 2 → (if k = 0 then goodA else goodB) = true → completes (.boot goodA goodB) s fun t =>
          t.nvm.booted = k ∧ t.pwr.appHeld = false ∧ t.nvm.recovery = false
          ∧ t.fld .SYS_RUN_STATE_STATE = s.fld .SYS_RUN_STATE_STATE
          ∧ (s.flag .NVM_BOOT_SEL_TRIAL = true → t.nvm.trialBoots = s.nvm.trialBoots + 1 ∧ t.nvm.trialAt = some s.now))
        ∧ ((slotState s k ≠ 2 ∨ (if k = 0 then goodA else goodB) = false) →
          slotState s (1 - k.val) = 2 → (if k = 0 then goodB else goodA) = true → completes (.boot goodA goodB) s fun t =>
            t.nvm.booted = 1 - k.val ∧ t.fld .NVM_BOOT_SEL_ACTIVE = 1 - k.val ∧ t.flag .NVM_BOOT_SEL_TRIAL = false
            ∧ slotState t k = 3 ∧ t.cnt .NVM_BOOT_FAIL_CNT = s.cnt .NVM_BOOT_FAIL_CNT + 1#64)
        ∧ ((slotState s k ≠ 2 ∨ (if k = 0 then goodA else goodB) = false) →
          (slotState s (1 - k.val) ≠ 2 ∨ (if k = 0 then goodB else goodA) = false) → completes (.boot goodA goodB) s fun t =>
            t.nvm.recovery = true ∧ t.pwr.appHeld = false ∧ t.fld .SYS_RUN_STATE_STATE = 3 ∧ slotState t k = 3))
      ∧ (∀ k : Fin 2, s.flag .NVM_BOOT_SEL_RECOVERY = false → mustRevert s = true → s.fld .NVM_BOOT_SEL_ACTIVE = k →
        slotState s (1 - k.val) = 2 → (if k = 0 then goodB else goodA) = true → completes (.boot goodA goodB) s fun t =>
          t.nvm.booted = 1 - k.val ∧ t.fld .NVM_BOOT_SEL_ACTIVE = 1 - k.val ∧ t.flag .NVM_BOOT_SEL_TRIAL = false
          ∧ t.cnt .NVM_TRIAL_REVERT_CNT = s.cnt .NVM_TRIAL_REVERT_CNT + 1#64 ∧ slotState t k = slotState s k)))
  ∧ (∀ (s : State) (l : List Byte) (good : Bool), s.Sound →
    (s.nvm.recovery = false ∨ s.nvm.op.isSome = true ∨ imageLen l.length = false
        ∨ (slotState s 0 = 2 ∧ slotState s 1 = 2) → exec (.dfuImageLoad l good) s = .next s)
    ∧ (∀ k < 2, s.nvm.recovery = true → s.nvm.op = none → imageLen l.length = true → slotState s k ≠ 2 →
      (∀ j < k, slotState s j = 2) → completes (.dfuImageLoad l good) s fun t =>
        slotState t k = (if good then 2 else 3) ∧ t.cnt .NVM_COMMIT_CNT = s.cnt .NVM_COMMIT_CNT + 1#64
        ∧ (∀ i < l.length, SMap.getD t.nvm.flash (slotBase k + i) 0#8 = l.getD i 0#8)
        ∧ (good = true → t.fld .NVM_BOOT_SEL_ACTIVE = k ∧ t.flag .NVM_BOOT_SEL_TRIAL = false)))
  ∧ (∀ (s : State) (e : Nat), s.Sound → s.nvm.trialAt = some e →
    (s.flag .NVM_BOOT_SEL_TRIAL = false ∨ s.fld .NVM_BOOT_SEL_TRIAL_S = 0
        ∨ s.now < e + s.fld .NVM_BOOT_SEL_TRIAL_S * 1600000000 ∨ s.flag .KEEP_STATUS_ALIVE = false
        ∨ resetBarred s = true ∨ resetMet 3 s = true → exec .trialExpiry s = .next s)
    ∧ (s.flag .NVM_BOOT_SEL_TRIAL = true → s.fld .NVM_BOOT_SEL_TRIAL_S ≠ 0 →
      e + s.fld .NVM_BOOT_SEL_TRIAL_S * 1600000000 ≤ s.now → s.flag .KEEP_STATUS_ALIVE = true → resetBarred s = false →
      resetMet 3 s = false → completes .trialExpiry s fun t => appWasReset s t 2))
  ∧ (∀ (s : State) (e : Nat) (goodA goodB : Bool), s.Sound → s.nvm.keeperFwAt = some e →
    (keeperChoice (fun k => if k = 0 then goodA else goodB) s = none → exec (.keeperFwLoad goodA goodB) s = .next s)
    ∧ (∀ k, keeperChoice (fun k => if k = 0 then goodA else goodB) s = some k →
      completes (.keeperFwLoad goodA goodB) s fun t =>
        t.nvm.keeper = k ∧ t.nvm.keeperFwAt = none ∧ t.flag .KEEP_STATUS_ALIVE = true
        ∧ (s.pwr.starting = none → s.pwr.quiet = false →
          s.Only t [.nvm, .pwr] [Reg.off .NVM_SLOT_STATUS, Reg.off .KEEP_STATUS] [])
        ∧ (∀ x, s.pwr.starting = some x → t.pwr.starting = none ∧ t.pwr.seq = (if x < -2000 then .steep else .up)
          ∧ (x < -2000 → t.flag .PWR_STATUS_STEEP = true ∧ t.pwr.steepAt = some s.now)
          ∧ (-2000 ≤ x → t.flag .PWR_STATUS_SEQ_DONE = true))
        ∧ (s.pwr.quiet = true → s.flag .PWR_STATUS_QUIET = false →
          t.flag .PWR_STATUS_QUIET = true ∧ t.flag .SKY_TX_EN_EN = false))
    ∧ (s.now < e + 80000000 ∨ keeperChoice (fun _ => true) s = none → exec .keeperFwFallback s = .next s)
    ∧ (∀ k, e + 80000000 ≤ s.now → keeperChoice (fun _ => true) s = some k → slotState s (1 - k) = 2 →
      completes .keeperFwFallback s fun t =>
        t.nvm.keeper = 1 - k ∧ t.nvm.keeperFwAt = none ∧ t.flag .KEEP_STATUS_ALIVE = true))

/-! ### Windows and ledgers (chapter 20) -/

/-- R419, R420, R424, R426, R427: at a bucket boundary of a kind its counts age, an instance whose count falls to zero leaves
lasting, and the written setting takes effect, every other kind staying as it is. A ledger check counts, records the difference of
every instance that it compares from its offset, shows a fault where a new difference appears and none where all are even, and
takes the present difference as the offset of a ledger that is to be rebased. -/
def Obligations.WindowsAndLedgers : Prop :=
  (∀ (s : State) (k : Fin 12), s.Sound →
    (s.now < s.sys.switchAt + nextBucket s k → exec (.windowBucketEnd k) s = .next s)
    ∧ (s.sys.switchAt + nextBucket s k ≤ s.now → completes (.windowBucketEnd k) s fun t =>
      winCfg t k = s.reg .HLT_WIN_CFG k ∧ SMap.getD t.hlt.bktAt k 0 = nextBucket s k
      ∧ (∀ i < 512, (winOf t k i).buckets.sum = (((winOf s k i).buckets).take 15).sum
        ∧ ((winOf t k i).lasting = true ↔
          ((winOf s k i).lasting = true ∧ (((winOf s k i).buckets).take 15).sum ≠ 0))
        ∧ (winOf t k i).recorded = false)
      ∧ (∀ j < 12, j ≠ k.val → ∀ i < 512, winOf t j i = winOf s j i)
      ∧ (k.val ≠ 1 → k.val ≠ 2 → ∀ i < 16,
        (t.reg .HLT_WIN_STATUS k).toNat.testBit (16 + i) = (winOf t k i).lasting)
      ∧ t.hlt.led = s.hlt.led ∧ t.hlt.offs = s.hlt.offs))
  ∧ (∀ s : State, s.Sound →
    (s.pwr.stopped = true ∨ s.flag .HLT_CFG_LEDGER_EN = false ∨ (s.now - s.sys.switchAt) / 1600000 ≤ s.hlt.chkAt →
      exec .ledgerCheck s = .next s)
    ∧ (forwards s → s.flag .HLT_CFG_LEDGER_EN = true → s.hlt.chkAt < (s.now - s.sys.switchAt) / 1600000 →
      completes .ledgerCheck s fun t =>
        t.cnt .HLT_CHECK_CNT = s.cnt .HLT_CHECK_CNT + 1#64 ∧ t.hlt.led = s.hlt.led ∧ t.hlt.rebase = []
        ∧ (∀ l i, 1 ≤ l → l ≤ 11 → i < ledgerCount l → ledgerLive s l i = true →
          (l ∈ s.hlt.rebase →
            SMap.getD t.hlt.offs (512 * l + i) 0 = (ledgerSides s l i).1 - (ledgerSides s l i).2
            ∧ SMap.getD t.hlt.diffs (512 * l + i) 0 = 0)
          ∧ (l ∉ s.hlt.rebase → (∀ e ∈ s.hlt.excused, e.1 ≠ l) →
            SMap.getD t.hlt.offs (512 * l + i) 0 = SMap.getD s.hlt.offs (512 * l + i) 0
            ∧ SMap.getD t.hlt.diffs (512 * l + i) 0 = (ledgerSides s l i).1 - (ledgerSides s l i).2
              - SMap.getD s.hlt.offs (512 * l + i) 0
            ∧ (SMap.getD t.hlt.diffs (512 * l + i) 0 ≠ 0 →
              SMap.getD t.hlt.diffs (512 * l + i) 0 ≠ SMap.getD s.hlt.diffs (512 * l + i) 0 →
              t.flag .HLT_LEDGER_STATUS_FAULT = true)))
        ∧ (s.hlt.rebase = [] → (∀ l i, 1 ≤ l → l ≤ 11 → i < ledgerCount l → ledgerLive s l i = true →
            (ledgerSides s l i).1 - (ledgerSides s l i).2 = SMap.getD s.hlt.offs (512 * l + i) 0) →
          t.host = s.host ∧ s.Only t [.hlt] [] [Cnt.off .HLT_CHECK_CNT])))
  ∧ (∀ s : State, s.Sound →
    ((∀ e ∈ s.hlt.excused, s.now < e.2) → exec .excuseExpiry s = .next s)
    ∧ (∀ e ∈ s.hlt.excused, e.2 ≤ s.now → completes .excuseExpiry s fun t =>
      e.1 ∈ t.hlt.rebase ∧ (∀ x, x ∈ t.hlt.excused ↔ (x ∈ s.hlt.excused ∧ s.now < x.2))
      ∧ (t.flag .HLT_LEDGER_STATUS_EXCUSED = true ↔ ∃ x ∈ s.hlt.excused, s.now < x.2)
      ∧ s.Only t [.hlt] [Reg.off .HLT_LEDGER_STATUS] []))
  ∧ (∀ (s : State) (a : Agent), s.Sound → linked s →
    completes (.hltRebase a) s fun t =>
      (∀ l, 1 ≤ l → l ≤ 11 → l ∈ t.hlt.rebase) ∧ s.Only t [.hlt, .ctl] [] [])
end

