-- ==== Sys2Proof/Laws/Map.lean ====
section
/-!
SUPPORT. Laws of sparse maps: reading what was stored, leaving the rest alone, and keeping the keys in order.
-/
namespace Sys2Proof.SMap
variable {α : Type}

/-! ### Order of the keys -/

/-- Every key of the map lies above k. -/
def above (k : Nat) (m : SMap α) : Prop := ∀ e ∈ m, k < e.1

theorem above_nil (k : Nat) : above k ([] : SMap α) := by simp [above]

theorem above_cons {k : Nat} {e : Nat × α} {m : SMap α} : above k (e :: m) ↔ k < e.1 ∧ above k m := by simp [above]

theorem above_trans {a b : Nat} {m : SMap α} (h : a < b) (hm : above b m) : above a m :=
  fun e he => Nat.lt_trans h (hm e he)

theorem sorted_cons {k : Nat} {v : α} {m : SMap α} : sorted ((k, v) :: m) = true ↔ above k m ∧ sorted m = true := by
  induction m generalizing k v with
  | nil => simp [sorted, above]
  | cons e m ih =>
    obtain ⟨k', v'⟩ := e
    simp only [sorted, Bool.and_eq_true, decide_eq_true_eq, above_cons]
    constructor
    · rintro ⟨h, h'⟩
      exact ⟨⟨h, above_trans h (ih.1 h').1⟩, h'⟩
    · rintro ⟨⟨h, _⟩, h'⟩
      exact ⟨h, h'⟩

@[simp] theorem sorted_nil : sorted ([] : SMap α) = true := rfl

theorem above_of_subset {k : Nat} {m n : SMap α} (h : ∀ e ∈ n, e ∈ m) (hm : above k m) : above k n :=
  fun e he => hm e (h e he)

theorem above_insert {k q : Nat} {x : α} {m : SMap α} (hq : k < q) (hm : above k m) : above k (insert m q x) := by
  induction m with
  | nil => simpa [insert, above] using hq
  | cons e m ih =>
    obtain ⟨k', v'⟩ := e
    rw [above_cons] at hm
    unfold insert
    split
    · exact above_cons.2 ⟨hq, hm.2⟩
    · split
      · exact above_cons.2 ⟨hq, above_cons.2 hm⟩
      · exact above_cons.2 ⟨hm.1, ih hm.2⟩

theorem above_erase {k q : Nat} {m : SMap α} (hm : above k m) : above k (erase m q) := by
  induction m with
  | nil => simpa [erase] using hm
  | cons e m ih =>
    obtain ⟨k', v'⟩ := e
    rw [above_cons] at hm
    unfold erase
    split
    · exact hm.2
    · split
      · exact above_cons.2 hm
      · exact above_cons.2 ⟨hm.1, ih hm.2⟩

theorem sorted_insert {m : SMap α} (h : sorted m = true) (q : Nat) (x : α) : sorted (insert m q x) = true := by
  induction m with
  | nil => rfl
  | cons e m ih =>
    obtain ⟨k, v⟩ := e
    obtain ⟨ha, hs⟩ := sorted_cons.1 h
    unfold insert
    split
    · rename_i hq; subst hq; exact sorted_cons.2 ⟨ha, hs⟩
    · split
      · rename_i hlt
        exact sorted_cons.2 ⟨above_cons.2 ⟨hlt, above_trans hlt ha⟩, h⟩
      · exact sorted_cons.2 ⟨above_insert (by omega) ha, ih hs⟩

theorem sorted_erase {m : SMap α} (h : sorted m = true) (q : Nat) : sorted (erase m q) = true := by
  induction m with
  | nil => rfl
  | cons e m ih =>
    obtain ⟨k, v⟩ := e
    obtain ⟨ha, hs⟩ := sorted_cons.1 h
    unfold erase
    split
    · exact hs
    · split
      · exact h
      · exact sorted_cons.2 ⟨above_erase ha, ih hs⟩

theorem sorted_put [DecidableEq α] {m : SMap α} (h : sorted m = true) (q : Nat) (d x : α) :
    sorted (put m q d x) = true := by
  unfold put
  split
  · exact sorted_erase h q
  · exact sorted_insert h q x

theorem sorted_upd [DecidableEq α] {m : SMap α} (h : sorted m = true) (q : Nat) (d : α) (f : α → α) :
    sorted (upd m q d f) = true := sorted_put h q d _

theorem sorted_filter {m : SMap α} (h : sorted m = true) (p : Nat × α → Bool) :
    sorted (List.filter p m : SMap α) = true := by
  induction m with
  | nil => rfl
  | cons e m ih =>
    obtain ⟨k, v⟩ := e
    obtain ⟨ha, hs⟩ := sorted_cons.1 h
    rw [List.filter_cons]
    split
    · exact sorted_cons.2 ⟨above_of_subset (fun e he => (List.mem_filter.1 he).1) ha, ih hs⟩
    · exact ih hs

theorem sorted_keep {m : SMap α} (h : sorted m = true) (p : Nat → Bool) : sorted (keep m p) = true :=
  sorted_filter h _

theorem sorted_map {β : Type} {m : SMap α} (h : sorted m = true) (f : Nat × α → Nat × β) (hf : ∀ e, (f e).1 = e.1) :
    sorted (List.map f m : SMap β) = true := by
  induction m with
  | nil => rfl
  | cons e m ih =>
    obtain ⟨k, v⟩ := e
    obtain ⟨ha, hs⟩ := sorted_cons.1 h
    have h1 : f (k, v) = (k, (f (k, v)).2) := Prod.ext (hf _) rfl
    rw [List.map_cons, h1]
    refine sorted_cons.2 ⟨?_, ih hs⟩
    intro e' he'
    obtain ⟨a, ham, rfl⟩ := List.mem_map.1 he'
    rw [hf]; exact ha a ham

theorem sorted_union {m : SMap α} (h : sorted m = true) (n : SMap α) : sorted (union m n) = true := by
  induction n generalizing m with
  | nil => exact h
  | cons e n ih => obtain ⟨k, v⟩ := e; exact ih (sorted_insert h k v)

/-! ### Reading after storing -/

theorem get?_above {k q : Nat} {m : SMap α} (h : above k m) (hq : q ≤ k) : get? m q = none := by
  cases m with
  | nil => rfl
  | cons e m =>
    obtain ⟨k', v⟩ := e
    have := (above_cons.1 h).1
    simp only at this
    unfold get?
    rw [if_neg (by omega), if_pos (by omega)]

theorem get?_insert_self (m : SMap α) (q : Nat) (x : α) : get? (insert m q x) q = some x := by
  induction m with
  | nil => simp [insert, get?]
  | cons e m ih =>
    obtain ⟨k, v⟩ := e
    unfold insert
    split
    · simp [get?]
    · split
      · simp [get?]
      · rename_i h1 h2; simp [get?, h1, h2, ih]

theorem get?_insert_ne {m : SMap α} {q a : Nat} (h : a ≠ q) (hs : sorted m = true) (x : α) :
    get? (insert m q x) a = get? m a := by
  induction m with
  | nil => simp [insert, get?, h]
  | cons e m ih =>
    obtain ⟨k, v⟩ := e
    obtain ⟨ha, hs'⟩ := sorted_cons.1 hs
    unfold insert
    split
    · rename_i hq; subst hq; simp [get?, h]
    · split
      · rename_i h1 h2
        simp only [get?, if_neg h]
        split
        · rw [if_neg (by omega), if_pos (by omega)]
        · rfl
      · simp only [get?, ih hs']

theorem get?_erase_self {m : SMap α} {q : Nat} (hs : sorted m = true) : get? (erase m q) q = none := by
  induction m with
  | nil => rfl
  | cons e m ih =>
    obtain ⟨k, v⟩ := e
    obtain ⟨ha, hs'⟩ := sorted_cons.1 hs
    unfold erase
    split
    · rename_i hq; subst hq; exact get?_above ha (Nat.le_refl _)
    · split
      · rename_i h1 h2; simp [get?, h1, h2]
      · rename_i h1 h2; simp [get?, h1, h2, ih hs']

theorem get?_erase_ne {m : SMap α} {q a : Nat} (h : a ≠ q) (hs : sorted m = true) :
    get? (erase m q) a = get? m a := by
  induction m with
  | nil => rfl
  | cons e m ih =>
    obtain ⟨k, v⟩ := e
    obtain ⟨ha, hs'⟩ := sorted_cons.1 hs
    unfold erase
    split
    · rename_i hq; subst hq
      simp only [get?, if_neg h]
      split
      · exact get?_above ha (by omega)
      · rfl
    · split
      · rfl
      · simp only [get?, ih hs']

theorem getD_put_self [DecidableEq α] {m : SMap α} (hs : sorted m = true) (q : Nat) (d x : α) :
    getD (put m q d x) q d = x := by
  unfold getD put
  split
  · rename_i h; rw [get?_erase_self hs, h]; rfl
  · rw [get?_insert_self]; rfl

theorem get?_put_ne [DecidableEq α] {m : SMap α} (hs : sorted m = true) {q a : Nat} (h : a ≠ q) (d x : α) :
    get? (put m q d x) a = get? m a := by
  unfold put
  split
  · exact get?_erase_ne h hs
  · exact get?_insert_ne h hs x

theorem getD_put_ne [DecidableEq α] {m : SMap α} (hs : sorted m = true) {q a : Nat} (h : a ≠ q) (d x d' : α) :
    getD (put m q d x) a d' = getD m a d' := by
  unfold getD; rw [get?_put_ne hs h]

theorem getD_upd_self [DecidableEq α] {m : SMap α} (hs : sorted m = true) (q : Nat) (d : α) (f : α → α) :
    getD (upd m q d f) q d = f (getD m q d) := getD_put_self hs q d _

theorem get?_upd_ne [DecidableEq α] {m : SMap α} (hs : sorted m = true) {q a : Nat} (h : a ≠ q) (d : α) (f : α → α) :
    get? (upd m q d f) a = get? m a := get?_put_ne hs h d _

theorem getD_upd_ne [DecidableEq α] {m : SMap α} (hs : sorted m = true) {q a : Nat} (h : a ≠ q) (d d' : α)
    (f : α → α) : getD (upd m q d f) a d' = getD m a d' := getD_put_ne hs h d _ d'

/-! ### Canonical form -/

theorem wf_sorted [DecidableEq α] {d : Nat → α} {m : SMap α} (h : wf d m = true) : sorted m = true :=
  (Bool.and_eq_true _ _ ▸ h).1

theorem wf_mem [DecidableEq α] {d : Nat → α} {m : SMap α} (h : wf d m = true) : ∀ e ∈ m, e.2 ≠ d e.1 :=
  fun e he => of_decide_eq_true (List.all_eq_true.1 (Bool.and_eq_true _ _ ▸ h).2 e he)

theorem wf_of [DecidableEq α] {d : Nat → α} {m : SMap α} (h : sorted m = true) (hm : ∀ e ∈ m, e.2 ≠ d e.1) :
    wf d m = true :=
  (Bool.and_eq_true _ _).symm ▸ ⟨h, List.all_eq_true.2 (fun e he => decide_eq_true (hm e he))⟩

theorem mem_erase {m : SMap α} {q : Nat} {e : Nat × α} (h : e ∈ erase m q) : e ∈ m := by
  induction m with
  | nil => exact h
  | cons a m ih =>
    obtain ⟨k, v⟩ := a
    unfold erase at h
    split at h
    · exact List.mem_cons_of_mem _ h
    · split at h
      · exact h
      · rcases List.mem_cons.1 h with h | h
        · exact h ▸ List.mem_cons_self
        · exact List.mem_cons_of_mem _ (ih h)

theorem mem_insert {m : SMap α} {q : Nat} {x : α} {e : Nat × α} (h : e ∈ insert m q x) : e = (q, x) ∨ e ∈ m := by
  induction m with
  | nil => simpa [insert] using h
  | cons a m ih =>
    obtain ⟨k, v⟩ := a
    unfold insert at h
    split at h
    · rcases List.mem_cons.1 h with h | h
      · exact .inl h
      · exact .inr (List.mem_cons_of_mem _ h)
    · split at h
      · rcases List.mem_cons.1 h with h | h
        · exact .inl h
        · exact .inr h
      · rcases List.mem_cons.1 h with h | h
        · exact .inr (h ▸ List.mem_cons_self)
        · exact (ih h).imp_right (List.mem_cons_of_mem _)

theorem wf_put [DecidableEq α] {d : Nat → α} {m : SMap α} (h : wf d m = true) (q : Nat) (x : α) :
    wf d (put m q (d q) x) = true := by
  refine wf_of (sorted_put (wf_sorted h) _ _ _) ?_
  unfold put
  split
  · exact fun e he => wf_mem h e (mem_erase he)
  · rename_i hx
    intro e he
    rcases mem_insert he with rfl | he
    · exact hx
    · exact wf_mem h e he

theorem wf_filter [DecidableEq α] {d : Nat → α} {m : SMap α} (h : wf d m = true) (p : Nat × α → Bool) :
    wf d (List.filter p m : SMap α) = true :=
  wf_of (sorted_filter (wf_sorted h) p) (fun e he => wf_mem h e (List.mem_filter.1 he).1)

theorem wf_keep [DecidableEq α] {d : Nat → α} {m : SMap α} (h : wf d m = true) (p : Nat → Bool) :
    wf d (keep m p) = true := wf_filter h _

/-! ### The entries listed at a key -/

/-- The entries listed at a key. -/
def ents (m : SMap α) (q : Nat) : List (Nat × α) := List.filter (fun e => e.1 == q) m

theorem ents_insert (m : SMap α) {p q : Nat} (x : α) (h : q ≠ p) :
    ents (insert m p x) q = ents m q := by
  have hp : ¬ (p == q) = true := by simpa using fun e => h e.symm
  induction m with
  | nil => simp [insert, ents, hp]
  | cons e m ih =>
    obtain ⟨k, v⟩ := e
    unfold insert
    split
    · rename_i hk; subst hk; simp [ents, hp]
    · split
      · simp [ents, hp]
      · simp only [ents, List.filter_cons] at ih ⊢
        rw [ih]

theorem ents_erase (m : SMap α) {p q : Nat} (h : q ≠ p) :
    ents (erase m p) q = ents m q := by
  have hp : ¬ (p == q) = true := by simpa using fun e => h e.symm
  induction m with
  | nil => rfl
  | cons e m ih =>
    obtain ⟨k, v⟩ := e
    unfold erase
    split
    · rename_i hk; subst hk; simp [ents, hp]
    · split
      · rfl
      · simp only [ents, List.filter_cons] at ih ⊢
        rw [ih]

theorem ents_put [DecidableEq α] (m : SMap α) {p q : Nat} (d x : α) (h : q ≠ p) :
    ents (put m p d x) q = ents m q := by
  unfold put
  split
  · exact ents_erase m h
  · exact ents_insert m x h

/-- Maps in order that list the same at a key read the same there. -/
theorem get?_ents {m : SMap α} (hm : sorted m = true) (q : Nat) :
    get? m q = (ents m q).head?.map Prod.snd := by
  induction m with
  | nil => rfl
  | cons e m ih =>
    obtain ⟨k, v⟩ := e
    obtain ⟨ha, hs⟩ := sorted_cons.1 hm
    unfold get?
    split
    · rename_i hk; subst hk; simp [ents]
    · rename_i hk
      have hk' : (k == q) = false := by simpa using fun e => hk e.symm
      split
      · rename_i hlt
        have : ents m q = [] := by
          refine List.filter_eq_nil_iff.2 (fun e he => ?_)
          have := ha e he
          simp; omega
        simpa [ents, hk'] using this
      · rw [ih hs]; simp [ents, hk']

theorem get?_of_ents {m n : SMap α} (hm : sorted m = true) (hn : sorted n = true) {q : Nat}
    (h : ents m q = ents n q) : get? m q = get? n q := by
  rw [get?_ents hm, get?_ents hn, h]

end Sys2Proof.SMap
end

