-- ==== Sys2Proof/Laws/Shapes.lean ====
section
/-!
SUPPORT. What passes through the shapes that meanings are written in: choices, folds, options, answers.
-/
namespace Sys2Proof.Machine

/-- P holds of what an option lists. -/
def OptHolds {α : Type} (P : α → Prop) (o : Option α) : Prop := ∀ x, o = some x → P x

/-- Every next state that an answer gives is sound. -/
def ResHolds (r : Result) : Prop := ∀ t, r = .next t → t.Sound

/-- P holds of the second of a pair. -/
def Snd {α β : Type} (P : β → Prop) (e : α × β) : Prop := P e.2

/-- P holds of the first of a pair. -/
def Fst {α β : Type} (P : α → Prop) (e : α × β) : Prop := P e.1

theorem snd_holds {α β : Type} {P : β → Prop} {a : α} {b : β} (h : P b) : Snd P (a, b) := h

theorem fst_holds {α β : Type} {P : α → Prop} {a : α} {b : β} (h : P a) : Fst P (a, b) := h

theorem of_snd {α β : Type} {P : β → Prop} {e : α × β} (h : Snd P e) : P e.2 := h

theorem of_fst {α β : Type} {P : α → Prop} {e : α × β} (h : Fst P e) : P e.1 := h

/-- The state that an operation of the write engine leaves is sound. -/
def EndHolds (e : OpEnd) : Prop := e.st.Sound

theorem end_holds {a b : Nat} {s : State} (h : s.Sound) : EndHolds ⟨a, b, s⟩ := h

theorem of_end {e : OpEnd} (h : EndHolds e) : e.st.Sound := h

theorem with_base {α β : Type} {P : α → Prop} {Q : β → Prop} {b : α} {t : β} (h : P b) (k : P b → Q t) : Q t := k h

theorem ite_holds {α : Sort _} {P : α → Prop} {c : Prop} [Decidable c] {a b : α} (ha : P a) (hb : P b) :
    P (if c then a else b) := by split <;> assumption

theorem foldl_holds {α β : Type} {P : β → Prop} {f : β → α → β} {l : List α} {i : β} (hf : ∀ b a, P b → P (f b a))
    (hi : P i) : P (l.foldl f i) := by
  induction l generalizing i with
  | nil => exact hi
  | cons x l ih => exact ih (hf i x hi)

theorem holds_eq {α : Type} {P : α → Prop} {a b : α} (h : a = b) (ha : P a) : P b := h ▸ ha

theorem some_holds {α : Type} {P : α → Prop} {x : α} (h : P x) : OptHolds P (some x) :=
  fun _ e => Option.some.inj e ▸ h

theorem none_holds {α : Type} {P : α → Prop} : OptHolds P none := fun _ e => by cases e

theorem getD_holds {α : Type} {P : α → Prop} {o : Option α} {d : α} (ho : OptHolds P o) (hd : P d) :
    P (o.getD d) := by
  cases o with
  | none => exact hd
  | some x => exact ho x rfl

theorem CtlSt.sound_mk {idlDownAt : Option Nat} {heldWrites : List RegWrite} {heldReads : List FarRead} {heldFaults :
    List AccFault} {faultsOver : Nat} {heldReset : Bool} {keepKeyed : List (Nat × Nat)} {heldInts : List Nat} {replays
    : List Nat} {msixHeld : List Nat} {msix : SMap MsixEntry} {intAt : SMap (Nat × Bool)} {vcs : SMap IdlVc} {arbs :
    SMap IdlArb} {pols : SMap IdlPol} {polAt : Nat} {heldDma : List DmaWrite} {mboxLast : Nat} {keySoft : Option Nat}
    {keyKeep : Option Nat} {firstAdmin : Option (List Byte)} {sessions : Nat} {accounts : SMap (List Byte)} {address :
    Option (List Byte)} {appResets beatAt : Nat} (h_msix : SMap.sorted msix = true) (h_intAt : SMap.sorted intAt = true)
    (h_vcs : SMap.sorted vcs = true) (h_arbs : SMap.sorted arbs = true) (h_pols : SMap.sorted pols = true) (h_accounts
    : SMap.sorted accounts = true) : CtlSt.Sound (CtlSt.mk idlDownAt heldWrites heldReads heldFaults faultsOver
    heldReset keepKeyed heldInts replays msixHeld msix intAt vcs arbs pols polAt heldDma mboxLast keySoft keyKeep
    firstAdmin sessions accounts address appResets beatAt) := ⟨h_msix, h_intAt, h_vcs, h_arbs, h_pols, h_accounts⟩

theorem HostSt.sound_mk {rings : SMap RingSt} {mem : SMap Byte} {ext : SMap Byte} {poison : List Nat} {recq : List
    PendRec} {faultLog : List (List NRec)} {txLast : SMap Nat} {dump : Option DumpSt} {dumpq : List DumpSt} (h_rings :
    SMap.sorted rings = true) (h_mem : Memory.wf mem = true) (h_ext : Memory.wf ext = true) (h_txLast : SMap.sorted
    txLast = true) : HostSt.Sound (HostSt.mk rings mem ext poison recq faultLog txLast dump dumpq) := ⟨h_rings, h_mem,
    h_ext, h_txLast⟩

theorem HltSt.sound_mk {wins : SMap WinSt} {winCfg : SMap Word} {bktAt : SMap Nat} {led : SMap Nat} {offs : SMap Int}
    {diffs : SMap Int} {recs : List Nat} {excused : List (Nat × Nat)} {rebase : List Nat} {chkAt : Nat} {keepq : List
    LogEnt} {flog : SMap (List Byte)} {logSeq : Nat} (h_wins : SMap.sorted wins = true) (h_winCfg : SMap.sorted winCfg
    = true) (h_bktAt : SMap.sorted bktAt = true) (h_led : SMap.sorted led = true) (h_offs : SMap.sorted offs = true)
    (h_diffs : SMap.sorted diffs = true) (h_flog : SMap.sorted flog = true) : HltSt.Sound (HltSt.mk wins winCfg bktAt
    led offs diffs recs excused rebase chkAt keepq flog logSeq) := ⟨h_wins, h_winCfg, h_bktAt, h_led, h_offs, h_diffs,
    h_flog⟩

theorem NvmSt.sound_mk {flash : SMap Byte} {slotA : Nat} {slotB : Nat} {cfg0 : Option CfgCopy} {cfg1 : Option CfgCopy}
    {op : Option NvmOp} {trialBoots : Nat} {trialAt : Option Nat} {bootFlash : Word} {bootPend : Bool} {fuses : Word}
    {recovery : Bool} {booted : Nat} {keeper : Nat} {keeperFwAt : Option Nat} (h_flash : Memory.wf flash = true) :
    NvmSt.Sound (NvmSt.mk flash slotA slotB cfg0 cfg1 op trialBoots trialAt bootFlash bootPend fuses recovery booted
    keeper keeperFwAt) := ⟨h_flash⟩

theorem ClsSt.sound_mk {rules : SMap Rule} {staging : SMap Staging} {edits : SMap EditProg} {tmpls : SMap Template}
    {flows : SMap (DWord × DWord)} (h_rules : SMap.sorted rules = true) (h_staging : SMap.sorted staging = true)
    (h_edits : SMap.sorted edits = true) (h_tmpls : SMap.sorted tmpls = true) (h_flows : SMap.sorted flows = true) :
    ClsSt.Sound (ClsSt.mk rules staging edits tmpls flows) := ⟨h_rules, h_staging, h_edits, h_tmpls, h_flows⟩

theorem TimeSt.sound_mk {ts : Nat} {before : Nat} {rx : SMap TimeRx} {offs : SMap Meas} {sums : SMap Meas} {fresh :
    List Int} {th : Int} {f : Int} {good : Nat} {holder : Option (Nat × Nat × Nat × Nat)} {run : Nat} {runAt : Nat}
    {marks : List (Nat × Nat × Nat × Nat)} {leaseEnd : Nat} {heldAt : Option Nat} {ownEnd : Nat}
    {released : Bool} {announced : List Nat} {echoes : List Nat} {checked : Bool} {heardAt : Nat} {heardClk : Option
    Nat} {founder : Bool} {firstOff : Bool} {diag : Nat} {oscApart : Bool} {role : Nat} {relEnd : Option Nat} {tai :
    Nat} (h_rx : SMap.sorted rx = true) (h_offs : SMap.sorted offs = true) (h_sums : SMap.sorted sums = true) :
    TimeSt.Sound (TimeSt.mk ts before rx offs sums fresh th f good holder run runAt marks leaseEnd heldAt
    ownEnd released announced echoes checked heardAt heardClk founder firstOff diag oscApart role relEnd tai) :=
    ⟨h_rx, h_offs, h_sums⟩

theorem TblSt.sound_mk {slots : SMap Slot} {filters : SMap Filter} {nhs : SMap NextHop} {groups : SMap EcmpGroup}
    {members : SMap EcmpMember} {lags : SMap LagMember} {cache : List Cand} {stallAt : Option Nat} {clearing : Option
    (Nat × Nat)} (h_slots : SMap.sorted slots = true) (h_filters : SMap.sorted filters = true) (h_nhs : SMap.sorted
    nhs = true) (h_groups : SMap.sorted groups = true) (h_members : SMap.sorted members = true) (h_lags : SMap.sorted
    lags = true) : TblSt.Sound (TblSt.mk slots filters nhs groups members lags cache stallAt clearing) := ⟨h_slots,
    h_filters, h_nhs, h_groups, h_members, h_lags⟩

theorem LeafSt.sound_mk {ports : SMap PortSt} {lanes : SMap LaneSt} {samples : SMap Nat} {copies : SMap Nat} {looks :
    SMap LookSt} {inLooks : SMap LookSt} (h_ports : SMap.sorted ports = true) (h_lanes : SMap.sorted lanes = true)
    (h_samples : SMap.sorted samples = true) (h_copies : SMap.sorted copies = true) (h_looks : SMap.sorted looks =
    true) (h_inLooks : SMap.sorted inLooks = true) : LeafSt.Sound (LeafSt.mk ports lanes samples copies looks inLooks)
    := ⟨h_ports, h_lanes, h_samples, h_copies, h_looks, h_inLooks⟩

theorem XbarSt.sound_mk {feed : SMap (List XCell)} {stage : SMap (List XCell)} {nextSeq : SMap Nat} {spent : SMap Nat}
    {rr : SMap Nat} {grant : SMap Nat} {accept : SMap Nat} {matched : SMap Nat} {cross : SMap (List XCell)} {reo :
    SMap ReoSt} {back : List (Nat × Nat)} (h_feed : SMap.sorted feed = true) (h_stage : SMap.sorted stage = true)
    (h_nextSeq : SMap.sorted nextSeq = true) (h_spent : SMap.sorted spent = true) (h_rr : SMap.sorted rr = true)
    (h_grant : SMap.sorted grant = true) (h_accept : SMap.sorted accept = true) (h_matched : SMap.sorted matched =
    true) (h_cross : SMap.sorted cross = true) (h_reo : SMap.sorted reo = true) : XbarSt.Sound (XbarSt.mk feed stage
    nextSeq spent rr grant accept matched cross reo back) := ⟨h_feed, h_stage, h_nextSeq, h_spent, h_rr, h_grant,
    h_accept, h_matched, h_cross, h_reo⟩

theorem BufSt.sound_mk {tiles : SMap TileSt} {carved : List Nat} {freeAt : SMap Nat} {freed : List (Nat × Nat)} {taken
    : SMap Nat} {grantAt : Nat} {grants : List (Nat × Nat)} {metas : SMap Nat} (h_tiles : SMap.sorted tiles = true)
    (h_freeAt : SMap.sorted freeAt = true) (h_taken : SMap.sorted taken = true) (h_metas : SMap.sorted metas = true) :
    BufSt.Sound (BufSt.mk tiles carved freeAt freed taken grantAt grants metas) := ⟨h_tiles, h_freeAt, h_taken,
    h_metas⟩

theorem TmSt.sound_mk {queues : SMap Queue} {charge : SMap Nat} {shapers : SMap ShSt} {pols : SMap PolSt} {was : SMap
    (Nat × Nat)} {wxAt : Nat} {wxLost : List Nat} {wxLog : SMap (List Byte)} {wxSeq : Nat}
    (h_queues : SMap.sorted queues = true) (h_charge : SMap.sorted charge = true) (h_shapers : SMap.sorted shapers =
    true) (h_pols : SMap.sorted pols = true) (h_was : SMap.sorted was = true)
    (h_wxLog : SMap.sorted wxLog = true) : TmSt.Sound (TmSt.mk queues charge shapers pols was wxAt wxLost
    wxLog wxSeq) := ⟨h_queues, h_charge, h_shapers, h_pols, h_was, h_wxLog⟩

theorem SkySt.sound_mk {lanes : SMap SkyLane} {traces : SMap TraceSt} {pairs : SMap PairSt} {reseq : SMap Reseq} {desk
    : List Desk} {wrr : SMap Int} {wrr0 : SMap Nat} {rounds : SMap Nat} {offered : SMap Nat} {used : SMap Nat}
    {offeredLast : SMap Nat} {usedLast : SMap Nat} {spare : SMap Nat} {cands : SMap (List Nat)} {epoch : Nat} {arming
    : Option (Nat × Nat × Nat × Nat)} {lateArmed : Bool} {applyAt : Nat} {slip : Int} {fill : Nat} {inForce : SMap
    Word} {shedLanes : List Nat} {founding : Bool} {mapNow : Option Nat} {mapOld : List (Option Nat)} {since : Nat}
    {cellClk : Nat} {halfMods : List Nat} {picks : Nat} (h_lanes : SMap.sorted lanes = true) (h_traces : SMap.sorted
    traces = true) (h_pairs : SMap.sorted pairs = true) (h_reseq : SMap.sorted reseq = true) (h_wrr : SMap.sorted wrr
    = true) (h_wrr0 : SMap.sorted wrr0 = true) (h_rounds : SMap.sorted rounds = true) (h_offered : SMap.sorted offered
    = true) (h_used : SMap.sorted used = true) (h_offeredLast : SMap.sorted offeredLast = true) (h_usedLast :
    SMap.sorted usedLast = true) (h_spare : SMap.sorted spare = true) (h_cands : SMap.sorted cands = true) (h_inForce
    : SMap.sorted inForce = true) : SkySt.Sound (SkySt.mk lanes traces pairs reseq desk wrr wrr0 rounds offered used
    offeredLast usedLast spare cands epoch arming lateArmed applyAt slip fill inForce shedLanes founding mapNow mapOld
    since cellClk halfMods picks) := ⟨h_lanes, h_traces, h_pairs, h_reseq, h_wrr, h_wrr0, h_rounds, h_offered, h_used,
    h_offeredLast, h_usedLast, h_spare, h_cands, h_inForce⟩

theorem State.sound_mk {regs : SMap Word} {shadow : SMap Word} {cnts : SMap DWord} {tot : SMap Nat} {hold : SMap
    DWord} {pairs : SMap Word} {now : Nat} {free : Nat} {out : List OutEv} {sys : SysSt} {ctl : CtlSt} {host : HostSt}
    {hlt : HltSt} {pwr : PwrSt} {nvm : NvmSt} {cls : ClsSt} {time : TimeSt} {tbl : TblSt} {leaf : LeafSt} {xbar :
    XbarSt} {buf : BufSt} {tm : TmSt} {sky : SkySt} {pending : List Instr} (h_regs : SMap.sorted regs = true)
    (h_shadow : SMap.sorted shadow = true) (h_cnts : SMap.sorted cnts = true) (h_tot : SMap.sorted tot = true) (h_hold
    : SMap.sorted hold = true) (h_pairs : SMap.sorted pairs = true) (h_ctl : ctl.Sound) (h_host : host.Sound) (h_hlt :
    hlt.Sound) (h_nvm : nvm.Sound) (h_cls : cls.Sound) (h_time : time.Sound) (h_tbl : tbl.Sound) (h_leaf : leaf.Sound)
    (h_xbar : xbar.Sound) (h_buf : buf.Sound) (h_tm : tm.Sound) (h_sky : sky.Sound) : State.Sound (State.mk regs
    shadow cnts tot hold pairs now free out sys ctl host hlt pwr nvm cls time tbl leaf xbar buf tm sky pending) :=
    ⟨h_regs, h_shadow, h_cnts, h_tot, h_hold, h_pairs, h_ctl, h_host, h_hlt, h_nvm, h_cls, h_time, h_tbl, h_leaf,
    h_xbar, h_buf, h_tm, h_sky⟩

theorem next_holds {s : State} (h : s.Sound) : ResHolds (.next s) := fun _ e => by cases e; exact h

end Sys2Proof.Machine
end

