-- ==== Sys2Proof/Laws/Kept.lean ====
section
/-!
SUPPORT. What an operation leaves alone: the areas, the registers and the counters that it may write, as bit masks, and how
frames compose.
-/
namespace Sys2Proof.Machine

/-- What may change: areas by their bit, registers by their place in the index, counters likewise. -/
structure Touch where
  a : Nat
  r : Nat
  c : Nat

/-- All that x may change, y may change. -/
abbrev Touch.le (x y : Touch) : Prop := x.a &&& y.a = x.a ∧ x.r &&& y.r = x.r ∧ x.c &&& y.c = x.c

theorem bit_le {x y n : Nat} (h : x &&& y = x) (hn : x.testBit n = true) : y.testBit n = true := by
  rw [← h, Nat.testBit_and, Bool.and_eq_true] at hn; exact hn.2

theorem land_le {x y z : Nat} (h : x &&& y = x) (k : y &&& z = y) : x &&& z = x := by
  rw [← h, Nat.land_assoc, k]

theorem tr {x y z : Touch} (h : x.le y) (k : y.le z) : x.le z :=
  ⟨land_le h.1 k.1, land_le h.2.1 k.2.1, land_le h.2.2 k.2.2⟩

/-- The register at a place of the index. -/
def regAt (n : Nat) : Option Reg :=
  match n / 16 with
  | 0 => Reg.all0[n % 16]?
  | 1 => Reg.all1[n % 16]?
  | 2 => Reg.all2[n % 16]?
  | 3 => Reg.all3[n % 16]?
  | 4 => Reg.all4[n % 16]?
  | 5 => Reg.all5[n % 16]?
  | 6 => Reg.all6[n % 16]?
  | 7 => Reg.all7[n % 16]?
  | 8 => Reg.all8[n % 16]?
  | 9 => Reg.all9[n % 16]?
  | 10 => Reg.all10[n % 16]?
  | 11 => Reg.all11[n % 16]?
  | 12 => Reg.all12[n % 16]?
  | 13 => Reg.all13[n % 16]?
  | 14 => Reg.all14[n % 16]?
  | _ => none

/-- The counter at a place of the index. -/
def cntAt (n : Nat) : Option Cnt :=
  match n / 16 with
  | 0 => Cnt.all0[n % 16]?
  | 1 => Cnt.all1[n % 16]?
  | 2 => Cnt.all2[n % 16]?
  | 3 => Cnt.all3[n % 16]?
  | 4 => Cnt.all4[n % 16]?
  | 5 => Cnt.all5[n % 16]?
  | 6 => Cnt.all6[n % 16]?
  | 7 => Cnt.all7[n % 16]?
  | 8 => Cnt.all8[n % 16]?
  | 9 => Cnt.all9[n % 16]?
  | 10 => Cnt.all10[n % 16]?
  | 11 => Cnt.all11[n % 16]?
  | 12 => Cnt.all12[n % 16]?
  | 13 => Cnt.all13[n % 16]?
  | 14 => Cnt.all14[n % 16]?
  | _ => none

/-- The register may change. -/
def Touch.hasR (T : Touch) (r : Reg) : Prop := T.a.testBit 0 = true ∨ ∃ n, regAt n = some r ∧ T.r.testBit n = true

/-- The counter may change. -/
def Touch.hasC (T : Touch) (c : Cnt) : Prop := T.a.testBit 2 = true ∨ ∃ n, cntAt n = some c ∧ T.c.testBit n = true

theorem hasR_of {M T : Touch} {r : Reg} {n : Nat} (hi : regAt n = some r) (hb : M.r.testBit n = true) (h : M.le T) :
    T.hasR r := .inr ⟨n, hi, bit_le h.2.1 hb⟩

theorem hasR_any {M T : Touch} {r : Reg} (hb : M.a.testBit 0 = true) (h : M.le T) : T.hasR r := .inl (bit_le h.1 hb)

theorem hasC_of {M T : Touch} {c : Cnt} {n : Nat} (hi : cntAt n = some c) (hb : M.c.testBit n = true) (h : M.le T) :
    T.hasC c := .inr ⟨n, hi, bit_le h.2.2 hb⟩

theorem hasC_any {M T : Touch} {c : Cnt} (hb : M.a.testBit 2 = true) (h : M.le T) : T.hasC c := .inl (bit_le h.1 hb)

/-- Nothing but what T names has changed since s0. -/
structure Kept (T : Touch) (s0 s : State) : Prop where
  regs : T.a.testBit 0 = false → ∀ q, (∀ r, T.hasR r → ¬ r.spans q) → SMap.ents s.regs q = SMap.ents s0.regs q
  shadow : T.a.testBit 1 = false → s.shadow = s0.shadow
  cnts : T.a.testBit 2 = false → ∀ q, (∀ c, T.hasC c → ¬ c.spans q) → SMap.ents s.cnts q = SMap.ents s0.cnts q
  tot : T.a.testBit 3 = false → ∀ q, (∀ c, T.hasC c → ¬ c.spans q) → SMap.ents s.tot q = SMap.ents s0.tot q
  hold : T.a.testBit 4 = false → s.hold = s0.hold
  pairs : T.a.testBit 5 = false → s.pairs = s0.pairs
  now : T.a.testBit 6 = false → s.now = s0.now
  free : T.a.testBit 7 = false → s.free = s0.free
  out : T.a.testBit 8 = false → s.out = s0.out
  sys : T.a.testBit 9 = false → s.sys = s0.sys
  ctl : T.a.testBit 10 = false → s.ctl = s0.ctl
  host : T.a.testBit 11 = false → s.host = s0.host
  hlt : T.a.testBit 12 = false → s.hlt = s0.hlt
  pwr : T.a.testBit 13 = false → s.pwr = s0.pwr
  nvm : T.a.testBit 14 = false → s.nvm = s0.nvm
  cls : T.a.testBit 15 = false → s.cls = s0.cls
  time : T.a.testBit 16 = false → s.time = s0.time
  tbl : T.a.testBit 17 = false → s.tbl = s0.tbl
  leaf : T.a.testBit 18 = false → s.leaf = s0.leaf
  xbar : T.a.testBit 19 = false → s.xbar = s0.xbar
  buf : T.a.testBit 20 = false → s.buf = s0.buf
  tm : T.a.testBit 21 = false → s.tm = s0.tm
  sky : T.a.testBit 22 = false → s.sky = s0.sky
  pending : T.a.testBit 23 = false → s.pending = s0.pending

/-- An answer's next state changes nothing but what T names. -/
def ResKept (T : Touch) (s0 : State) (r : Result) : Prop := ∀ t, r = .next t → Kept T s0 t

/-- The state that an operation of the write engine leaves changes nothing but what T names. -/
def EndKept (T : Touch) (s0 : State) (e : OpEnd) : Prop := Kept T s0 e.st

theorem next_kept {T : Touch} {s0 s : State} (h : Kept T s0 s) : ResKept T s0 (.next s) := fun _ e => by cases e; exact h

theorem end_kept {T : Touch} {s0 s : State} {a b : Nat} (h : Kept T s0 s) : EndKept T s0 ⟨a, b, s⟩ := h

theorem of_endk {T : Touch} {s0 : State} {e : OpEnd} (h : EndKept T s0 e) : Kept T s0 e.st := h

/-- A state has changed nothing since itself. -/
theorem Kept.refl (T : Touch) (s : State) : Kept T s s := by constructor <;> intros <;> rfl

theorem vac {x y n : Nat} {p : Prop} (hle : x &&& y = x) (h : x.testBit n = true) : y.testBit n = false → p := by
  intro hy; rw [bit_le hle h] at hy; cases hy

/-! ### The registers and counters that are written through their names -/

theorem kept_State_setReg {T : Touch} {s0 : State} : ∀ (a0 : State) (a1 : Reg) (a2 : Word) (a3 a4 : Nat), Kept T s0 a0 →
    T.hasR a1 → Kept T s0 (State.setReg a0 a1 a2 a3 a4) := by
  intro s r w i j h hr
  refine ⟨fun ha q hq => ?_, h.shadow, h.cnts, h.tot, h.hold, h.pairs, h.now, h.free, h.out, h.sys, h.ctl, h.host, h.hlt,
    h.pwr, h.nvm, h.cls, h.time, h.tbl, h.leaf, h.xbar, h.buf, h.tm, h.sky, h.pending⟩
  rw [← h.regs ha q hq]
  exact SMap.ents_put _ _ _ (fun e => hq r hr ⟨i, j, e⟩)

theorem kept_State_count {T : Touch} {s0 : State} : ∀ (a0 : State) (a1 : Cnt) (a2 a3 a4 : Nat), Kept T s0 a0 →
    T.hasC a1 → Kept T s0 (State.count a0 a1 a2 a3 a4) := by
  intro s r i j n h hr
  refine ⟨h.regs, h.shadow, fun ha q hq => ?_, fun ha q hq => ?_, h.hold, h.pairs, h.now, h.free, h.out, h.sys, h.ctl, h.host,
    h.hlt, h.pwr, h.nvm, h.cls, h.time, h.tbl, h.leaf, h.xbar, h.buf, h.tm, h.sky, h.pending⟩
  · rw [← h.cnts ha q hq]
    exact SMap.ents_put _ _ _ (fun e => hq r hr ⟨i, j, e⟩)
  · rw [← h.tot ha q hq]
    exact SMap.ents_put _ _ _ (fun e => hq r hr ⟨i, j, e⟩)

theorem kept_State_uncount {T : Touch} {s0 : State} : ∀ (a0 : State) (a1 : Cnt) (a2 a3 : Nat), Kept T s0 a0 →
    T.hasC a1 → Kept T s0 (State.uncount a0 a1 a2 a3) := by
  intro s r i j h hr
  refine ⟨h.regs, h.shadow, fun ha q hq => ?_, fun ha q hq => ?_, h.hold, h.pairs, h.now, h.free, h.out, h.sys, h.ctl, h.host,
    h.hlt, h.pwr, h.nvm, h.cls, h.time, h.tbl, h.leaf, h.xbar, h.buf, h.tm, h.sky, h.pending⟩
  · rw [← h.cnts ha q hq]
    exact SMap.ents_put _ _ _ (fun e => hq r hr ⟨i, j, e⟩)
  · rw [← h.tot ha q hq]
    exact SMap.ents_put _ _ _ (fun e => hq r hr ⟨i, j, e⟩)

end Sys2Proof.Machine
end

