-- ==== Sys2Proof/Laws/Index.lean ====
section
/-!
SUPPORT. The place of every register and every counter in its index.
-/
namespace Sys2Proof.Machine

theorem ixR_LEAF_GROUP_CFG : regAt 0 = some .LEAF_GROUP_CFG := (rfl)
theorem ixR_LEAF_GROUP_CTRL : regAt 1 = some .LEAF_GROUP_CTRL := (rfl)
theorem ixR_LEAF_GROUP_STATUS : regAt 2 = some .LEAF_GROUP_STATUS := (rfl)
theorem ixR_LEAF_PORT_CFG : regAt 3 = some .LEAF_PORT_CFG := (rfl)
theorem ixR_LEAF_PORT_STATUS : regAt 4 = some .LEAF_PORT_STATUS := (rfl)
theorem ixR_LEAF_PFC_CFG : regAt 5 = some .LEAF_PFC_CFG := (rfl)
theorem ixR_LEAF_PAUSE_WD_CFG : regAt 6 = some .LEAF_PAUSE_WD_CFG := (rfl)
theorem ixR_LEAF_PAUSE_STATUS : regAt 7 = some .LEAF_PAUSE_STATUS := (rfl)
theorem ixR_LEAF_CT_STATUS : regAt 8 = some .LEAF_CT_STATUS := (rfl)
theorem ixR_LEAF_DOZE_CTRL : regAt 9 = some .LEAF_DOZE_CTRL := (rfl)
theorem ixR_LEAF_WAKE_PAT_LO : regAt 10 = some .LEAF_WAKE_PAT_LO := (rfl)
theorem ixR_LEAF_WAKE_PAT_HI : regAt 11 = some .LEAF_WAKE_PAT_HI := (rfl)
theorem ixR_LEAF_FLAP_CFG : regAt 12 = some .LEAF_FLAP_CFG := (rfl)
theorem ixR_LEAF_PFC_THRESH : regAt 13 = some .LEAF_PFC_THRESH := (rfl)
theorem ixR_PARSE_CFG : regAt 14 = some .PARSE_CFG := (rfl)
theorem ixR_PARSE_MAL_ACT : regAt 15 = some .PARSE_MAL_ACT := (rfl)
theorem ixR_PARSE_TUNNEL_CFG : regAt 16 = some .PARSE_TUNNEL_CFG := (rfl)
theorem ixR_PARSE_HASH_CFG : regAt 17 = some .PARSE_HASH_CFG := (rfl)
theorem ixR_PARSE_HASH_SEED : regAt 18 = some .PARSE_HASH_SEED := (rfl)
theorem ixR_PARSE_DSCP_MAP : regAt 19 = some .PARSE_DSCP_MAP := (rfl)
theorem ixR_PARSE_NODE_A : regAt 20 = some .PARSE_NODE_A := (rfl)
theorem ixR_PARSE_NODE_B : regAt 21 = some .PARSE_NODE_B := (rfl)
theorem ixR_PARSE_TRANS_A : regAt 22 = some .PARSE_TRANS_A := (rfl)
theorem ixR_PARSE_TRANS_B : regAt 23 = some .PARSE_TRANS_B := (rfl)
theorem ixR_PARSE_EXTRACT : regAt 24 = some .PARSE_EXTRACT := (rfl)
theorem ixR_PARSE_PORT_CFG : regAt 25 = some .PARSE_PORT_CFG := (rfl)
theorem ixR_PARSE_PCP_MAP : regAt 26 = some .PARSE_PCP_MAP := (rfl)
theorem ixR_TBL_ROUTER_MAC_LO : regAt 27 = some .TBL_ROUTER_MAC_LO := (rfl)
theorem ixR_TBL_ROUTER_MAC_HI : regAt 28 = some .TBL_ROUTER_MAC_HI := (rfl)
theorem ixR_TBL_MISS_CFG : regAt 29 = some .TBL_MISS_CFG := (rfl)
theorem ixR_TBL_LEARN_CFG : regAt 30 = some .TBL_LEARN_CFG := (rfl)
theorem ixR_TBL_LEARN_STATUS : regAt 31 = some .TBL_LEARN_STATUS := (rfl)
theorem ixR_TBL_AGE_CFG : regAt 32 = some .TBL_AGE_CFG := (rfl)
theorem ixR_TBL_AGE_STATUS : regAt 33 = some .TBL_AGE_STATUS := (rfl)
theorem ixR_TBL_LAYOUT_SEL : regAt 34 = some .TBL_LAYOUT_SEL := (rfl)
theorem ixR_TBL_CLEAR_CTRL : regAt 35 = some .TBL_CLEAR_CTRL := (rfl)
theorem ixR_TBL_CLEAR_BASE : regAt 36 = some .TBL_CLEAR_BASE := (rfl)
theorem ixR_TBL_CLEAR_COUNT : regAt 37 = some .TBL_CLEAR_COUNT := (rfl)
theorem ixR_TBL_PORT_CFG : regAt 38 = some .TBL_PORT_CFG := (rfl)
theorem ixR_TBL_LAYOUT_SEED : regAt 39 = some .TBL_LAYOUT_SEED := (rfl)
theorem ixR_TBL_LAYOUT_GEOM : regAt 40 = some .TBL_LAYOUT_GEOM := (rfl)
theorem ixR_TBL_LPM_REGION : regAt 41 = some .TBL_LPM_REGION := (rfl)
theorem ixR_XBAR_CFG : regAt 42 = some .XBAR_CFG := (rfl)
theorem ixR_XBAR_RESEQ_CFG : regAt 43 = some .XBAR_RESEQ_CFG := (rfl)
theorem ixR_XBAR_PLANE_CTRL : regAt 44 = some .XBAR_PLANE_CTRL := (rfl)
theorem ixR_XBAR_PLANE_STATUS : regAt 45 = some .XBAR_PLANE_STATUS := (rfl)
theorem ixR_XBAR_PLANE_FAULT : regAt 46 = some .XBAR_PLANE_FAULT := (rfl)
theorem ixR_BUF_CFG : regAt 47 = some .BUF_CFG := (rfl)
theorem ixR_BUF_SPILL_THRESH : regAt 48 = some .BUF_SPILL_THRESH := (rfl)
theorem ixR_BUF_SCRUB_CFG : regAt 49 = some .BUF_SCRUB_CFG := (rfl)
theorem ixR_BUF_SCRUB_STATUS : regAt 50 = some .BUF_SCRUB_STATUS := (rfl)
theorem ixR_BUF_RETIRE_STATUS : regAt 51 = some .BUF_RETIRE_STATUS := (rfl)
theorem ixR_BUF_CARVE_CTRL : regAt 52 = some .BUF_CARVE_CTRL := (rfl)
theorem ixR_BUF_CARVE_STATUS : regAt 53 = some .BUF_CARVE_STATUS := (rfl)
theorem ixR_BUF_CARVE_TILES : regAt 54 = some .BUF_CARVE_TILES := (rfl)
theorem ixR_BUF_POOL_FREE : regAt 55 = some .BUF_POOL_FREE := (rfl)
theorem ixR_BUF_POOL_ALLOC : regAt 56 = some .BUF_POOL_ALLOC := (rfl)
theorem ixR_BUF_POOL_QUAR : regAt 57 = some .BUF_POOL_QUAR := (rfl)
theorem ixR_BUF_POOL_RSV : regAt 58 = some .BUF_POOL_RSV := (rfl)
theorem ixR_BUF_RETIRE : regAt 59 = some .BUF_RETIRE := (rfl)
theorem ixR_TM_CFG : regAt 60 = some .TM_CFG := (rfl)
theorem ixR_TM_WX_CFG : regAt 61 = some .TM_WX_CFG := (rfl)
theorem ixR_TM_WX_STATUS : regAt 62 = some .TM_WX_STATUS := (rfl)
theorem ixR_TM_WX_LOG_BASE : regAt 63 = some .TM_WX_LOG_BASE := (rfl)
theorem ixR_TM_WX_LOG_SIZE : regAt 64 = some .TM_WX_LOG_SIZE := (rfl)
theorem ixR_TM_DEST_QMAP : regAt 65 = some .TM_DEST_QMAP := (rfl)
theorem ixR_TM_RELAY_CFG : regAt 66 = some .TM_RELAY_CFG := (rfl)
theorem ixR_TM_DEST_LIMIT : regAt 67 = some .TM_DEST_LIMIT := (rfl)
theorem ixR_TM_SKY_CLASS_CFG : regAt 68 = some .TM_SKY_CLASS_CFG := (rfl)
theorem ixR_TM_QPROF_LIMIT : regAt 69 = some .TM_QPROF_LIMIT := (rfl)
theorem ixR_TM_QPROF_MARK : regAt 70 = some .TM_QPROF_MARK := (rfl)
theorem ixR_TM_WX_WATCH : regAt 71 = some .TM_WX_WATCH := (rfl)
theorem ixR_TM_PORT_SCHED : regAt 72 = some .TM_PORT_SCHED := (rfl)
theorem ixR_TM_LEAF_QMAP : regAt 73 = some .TM_LEAF_QMAP := (rfl)
theorem ixR_TM_PORT_SHAPER_A : regAt 74 = some .TM_PORT_SHAPER_A := (rfl)
theorem ixR_TM_PORT_SHAPER_B : regAt 75 = some .TM_PORT_SHAPER_B := (rfl)
theorem ixR_TM_PORT_SHAPER_C : regAt 76 = some .TM_PORT_SHAPER_C := (rfl)
theorem ixR_TM_PORT_SHAPER_D : regAt 77 = some .TM_PORT_SHAPER_D := (rfl)
theorem ixR_TM_PORT_CREDIT : regAt 78 = some .TM_PORT_CREDIT := (rfl)
theorem ixR_TM_CLASS_QUANTUM : regAt 79 = some .TM_CLASS_QUANTUM := (rfl)
theorem ixR_TM_Q_SHAPER_A : regAt 80 = some .TM_Q_SHAPER_A := (rfl)
theorem ixR_TM_Q_SHAPER_B : regAt 81 = some .TM_Q_SHAPER_B := (rfl)
theorem ixR_TM_Q_SHAPER_C : regAt 82 = some .TM_Q_SHAPER_C := (rfl)
theorem ixR_TM_Q_SHAPER_D : regAt 83 = some .TM_Q_SHAPER_D := (rfl)
theorem ixR_TM_Q_CREDIT : regAt 84 = some .TM_Q_CREDIT := (rfl)
theorem ixR_TM_Q_DEPTH : regAt 85 = some .TM_Q_DEPTH := (rfl)
theorem ixR_TM_POL_A : regAt 86 = some .TM_POL_A := (rfl)
theorem ixR_TM_POL_B : regAt 87 = some .TM_POL_B := (rfl)
theorem ixR_SKY_CFG : regAt 88 = some .SKY_CFG := (rfl)
theorem ixR_SKY_CTRL : regAt 89 = some .SKY_CTRL := (rfl)
theorem ixR_SKY_TX_EN : regAt 90 = some .SKY_TX_EN := (rfl)
theorem ixR_SKY_STATE : regAt 91 = some .SKY_STATE := (rfl)
theorem ixR_SKY_EPOCH_LO : regAt 92 = some .SKY_EPOCH_LO := (rfl)
theorem ixR_SKY_EPOCH_HI : regAt 93 = some .SKY_EPOCH_HI := (rfl)
theorem ixR_SKY_PEER_CFG : regAt 94 = some .SKY_PEER_CFG := (rfl)
theorem ixR_SKY_MAP_ARM : regAt 95 = some .SKY_MAP_ARM := (rfl)
theorem ixR_SKY_MAP_APPLY_LO : regAt 96 = some .SKY_MAP_APPLY_LO := (rfl)
theorem ixR_SKY_MAP_APPLY_HI : regAt 97 = some .SKY_MAP_APPLY_HI := (rfl)
theorem ixR_SKY_MAP_CTRL : regAt 98 = some .SKY_MAP_CTRL := (rfl)
theorem ixR_SKY_MAP_STATUS : regAt 99 = some .SKY_MAP_STATUS := (rfl)
theorem ixR_SKY_MAP_ERR_ADDR : regAt 100 = some .SKY_MAP_ERR_ADDR := (rfl)
theorem ixR_SKY_ANNOUNCE : regAt 101 = some .SKY_ANNOUNCE := (rfl)
theorem ixR_SKY_ANNOUNCE_APPLY_LO : regAt 102 = some .SKY_ANNOUNCE_APPLY_LO := (rfl)
theorem ixR_SKY_ANNOUNCE_APPLY_HI : regAt 103 = some .SKY_ANNOUNCE_APPLY_HI := (rfl)
theorem ixR_SKY_LANE_EN : regAt 104 = some .SKY_LANE_EN := (rfl)
theorem ixR_SKY_PLANE_OFFSET : regAt 105 = some .SKY_PLANE_OFFSET := (rfl)
theorem ixR_SKY_PEER : regAt 106 = some .SKY_PEER := (rfl)
theorem ixR_SKY_MAP_BANK : regAt 107 = some .SKY_MAP_BANK := (rfl)
theorem ixR_SKY_FRAME_CFG : regAt 108 = some .SKY_FRAME_CFG := (rfl)
theorem ixR_SKY_DESKEW_CFG : regAt 109 = some .SKY_DESKEW_CFG := (rfl)
theorem ixR_SKY_TRACE_OWN : regAt 110 = some .SKY_TRACE_OWN := (rfl)
theorem ixR_SKY_STRANGER_SRC : regAt 111 = some .SKY_STRANGER_SRC := (rfl)
theorem ixR_SKY_LANE_ALARM : regAt 112 = some .SKY_LANE_ALARM := (rfl)
theorem ixR_SKY_TRACE_EXP : regAt 113 = some .SKY_TRACE_EXP := (rfl)
theorem ixR_SKY_RELAY_CFG : regAt 114 = some .SKY_RELAY_CFG := (rfl)
theorem ixR_SKY_RELAY_LIMIT : regAt 115 = some .SKY_RELAY_LIMIT := (rfl)
theorem ixR_SKY_RESEQ_CFG : regAt 116 = some .SKY_RESEQ_CFG := (rfl)
theorem ixR_SKY_JOIN_EPOCH_LO : regAt 117 = some .SKY_JOIN_EPOCH_LO := (rfl)
theorem ixR_SKY_JOIN_EPOCH_HI : regAt 118 = some .SKY_JOIN_EPOCH_HI := (rfl)
theorem ixR_SKY_LANE_FAULT : regAt 119 = some .SKY_LANE_FAULT := (rfl)
theorem ixR_SKY_LANE_RXLOS : regAt 120 = some .SKY_LANE_RXLOS := (rfl)
theorem ixR_SKY_CREDIT_HELD : regAt 121 = some .SKY_CREDIT_HELD := (rfl)
theorem ixR_SKY_RELAY_OUT : regAt 122 = some .SKY_RELAY_OUT := (rfl)
theorem ixR_SKY_SEQ_NEXT : regAt 123 = some .SKY_SEQ_NEXT := (rfl)
theorem ixR_SKYT_TIME_LO : regAt 124 = some .SKYT_TIME_LO := (rfl)
theorem ixR_SKYT_TIME_HI : regAt 125 = some .SKYT_TIME_HI := (rfl)
theorem ixR_SKYT_STATUS : regAt 126 = some .SKYT_STATUS := (rfl)
theorem ixR_SKYT_RATE : regAt 127 = some .SKYT_RATE := (rfl)
theorem ixR_SKYT_OFFSET : regAt 128 = some .SKYT_OFFSET := (rfl)
theorem ixR_SKYT_SERVO : regAt 129 = some .SKYT_SERVO := (rfl)
theorem ixR_SKYT_LULL_CFG : regAt 130 = some .SKYT_LULL_CFG := (rfl)
theorem ixR_SKYT_CAND : regAt 131 = some .SKYT_CAND := (rfl)
theorem ixR_SKYT_LEASE : regAt 132 = some .SKYT_LEASE := (rfl)
theorem ixR_SKYT_LEASE_END_LO : regAt 133 = some .SKYT_LEASE_END_LO := (rfl)
theorem ixR_SKYT_LEASE_END_HI : regAt 134 = some .SKYT_LEASE_END_HI := (rfl)
theorem ixR_SKYT_DIAG_CFG : regAt 135 = some .SKYT_DIAG_CFG := (rfl)
theorem ixR_SKYT_DIAG_STATUS : regAt 136 = some .SKYT_DIAG_STATUS := (rfl)
theorem ixR_SKYT_STEP_LO : regAt 137 = some .SKYT_STEP_LO := (rfl)
theorem ixR_SKYT_STEP_HI : regAt 138 = some .SKYT_STEP_HI := (rfl)
theorem ixR_SKYT_STEP_CTRL : regAt 139 = some .SKYT_STEP_CTRL := (rfl)
theorem ixR_SKYT_TAI_OFFSET_LO : regAt 140 = some .SKYT_TAI_OFFSET_LO := (rfl)
theorem ixR_SKYT_TAI_OFFSET_HI : regAt 141 = some .SKYT_TAI_OFFSET_HI := (rfl)
theorem ixR_SKYT_LANE_DELAY_CFG : regAt 142 = some .SKYT_LANE_DELAY_CFG := (rfl)
theorem ixR_SKYT_LANE_DELAY : regAt 143 = some .SKYT_LANE_DELAY := (rfl)
theorem ixR_HOST_NOTIFY_CFG : regAt 144 = some .HOST_NOTIFY_CFG := (rfl)
theorem ixR_HOST_WIN_CFG : regAt 145 = some .HOST_WIN_CFG := (rfl)
theorem ixR_HOST_WIN_BASE_LO : regAt 146 = some .HOST_WIN_BASE_LO := (rfl)
theorem ixR_HOST_WIN_BASE_HI : regAt 147 = some .HOST_WIN_BASE_HI := (rfl)
theorem ixR_HOST_WIN_XLATE_LO : regAt 148 = some .HOST_WIN_XLATE_LO := (rfl)
theorem ixR_HOST_WIN_XLATE_HI : regAt 149 = some .HOST_WIN_XLATE_HI := (rfl)
theorem ixR_HOST_RING_BASE_LO : regAt 150 = some .HOST_RING_BASE_LO := (rfl)
theorem ixR_HOST_RING_BASE_HI : regAt 151 = some .HOST_RING_BASE_HI := (rfl)
theorem ixR_HOST_RING_CFG : regAt 152 = some .HOST_RING_CFG := (rfl)
theorem ixR_HOST_RING_CTRL : regAt 153 = some .HOST_RING_CTRL := (rfl)
theorem ixR_HOST_RING_STATUS : regAt 154 = some .HOST_RING_STATUS := (rfl)
theorem ixR_HOST_RING_HEAD : regAt 155 = some .HOST_RING_HEAD := (rfl)
theorem ixR_HOST_RING_TAIL : regAt 156 = some .HOST_RING_TAIL := (rfl)
theorem ixR_HOST_RING_WB_LO : regAt 157 = some .HOST_RING_WB_LO := (rfl)
theorem ixR_HOST_RING_WB_HI : regAt 158 = some .HOST_RING_WB_HI := (rfl)
theorem ixR_HOST_IRQ_CFG : regAt 159 = some .HOST_IRQ_CFG := (rfl)
theorem ixR_HOST_CPL_BASE_LO : regAt 160 = some .HOST_CPL_BASE_LO := (rfl)
theorem ixR_HOST_CPL_BASE_HI : regAt 161 = some .HOST_CPL_BASE_HI := (rfl)
theorem ixR_HOST_CPL_CFG : regAt 162 = some .HOST_CPL_CFG := (rfl)
theorem ixR_HOST_CPL_HEAD : regAt 163 = some .HOST_CPL_HEAD := (rfl)
theorem ixR_HOST_CPL_TAIL : regAt 164 = some .HOST_CPL_TAIL := (rfl)
theorem ixR_HOST_CPL_WB_LO : regAt 165 = some .HOST_CPL_WB_LO := (rfl)
theorem ixR_HOST_CPL_WB_HI : regAt 166 = some .HOST_CPL_WB_HI := (rfl)
theorem ixR_HOST_CPL_STATUS : regAt 167 = some .HOST_CPL_STATUS := (rfl)
theorem ixR_HOST_DB : regAt 168 = some .HOST_DB := (rfl)
theorem ixR_HOST_CPL_DB : regAt 169 = some .HOST_CPL_DB := (rfl)
theorem ixR_MIR_SESSION_CFG : regAt 170 = some .MIR_SESSION_CFG := (rfl)
theorem ixR_MIR_SESSION_DEST : regAt 171 = some .MIR_SESSION_DEST := (rfl)
theorem ixR_MIR_SAMPLE_CFG : regAt 172 = some .MIR_SAMPLE_CFG := (rfl)
theorem ixR_MIR_PORT_CFG : regAt 173 = some .MIR_PORT_CFG := (rfl)
theorem ixR_HLT_CFG : regAt 174 = some .HLT_CFG := (rfl)
theorem ixR_HLT_LEDGER_STATUS : regAt 175 = some .HLT_LEDGER_STATUS := (rfl)
theorem ixR_HLT_WIN_CFG : regAt 176 = some .HLT_WIN_CFG := (rfl)
theorem ixR_HLT_WIN_STATUS : regAt 177 = some .HLT_WIN_STATUS := (rfl)
theorem ixR_HLT_WIN_LANES : regAt 178 = some .HLT_WIN_LANES := (rfl)
theorem ixR_CTL_RING_OWNER : regAt 179 = some .CTL_RING_OWNER := (rfl)
theorem ixR_CTL_PCIE_STATUS : regAt 180 = some .CTL_PCIE_STATUS := (rfl)
theorem ixR_CTL_INT_ROUTE : regAt 181 = some .CTL_INT_ROUTE := (rfl)
theorem ixR_CTL_INT_PEND : regAt 182 = some .CTL_INT_PEND := (rfl)
theorem ixR_IDL_STATUS : regAt 183 = some .IDL_STATUS := (rfl)
theorem ixR_IDL_ARB_CFG : regAt 184 = some .IDL_ARB_CFG := (rfl)
theorem ixR_IDL_POL_CFG : regAt 185 = some .IDL_POL_CFG := (rfl)
theorem ixR_IDL_CREDIT : regAt 186 = some .IDL_CREDIT := (rfl)
theorem ixR_PWR_STATUS : regAt 187 = some .PWR_STATUS := (rfl)
theorem ixR_PWR_SLOW_STATUS : regAt 188 = some .PWR_SLOW_STATUS := (rfl)
theorem ixR_PWR_INPUT : regAt 189 = some .PWR_INPUT := (rfl)
theorem ixR_PWR_THERMAL : regAt 190 = some .PWR_THERMAL := (rfl)
theorem ixR_PWR_SHED_ORDER : regAt 191 = some .PWR_SHED_ORDER := (rfl)
theorem ixR_PWR_SENSOR : regAt 192 = some .PWR_SENSOR := (rfl)
theorem ixR_PWR_RAIL_SET : regAt 193 = some .PWR_RAIL_SET := (rfl)
theorem ixR_PWR_RAIL_MEAS : regAt 194 = some .PWR_RAIL_MEAS := (rfl)
theorem ixR_KEEP_MBOX_DATA : regAt 195 = some .KEEP_MBOX_DATA := (rfl)
theorem ixR_KEEP_MBOX_CMD : regAt 196 = some .KEEP_MBOX_CMD := (rfl)
theorem ixR_KEEP_STATUS : regAt 197 = some .KEEP_STATUS := (rfl)
theorem ixR_KEEP_CFG : regAt 198 = some .KEEP_CFG := (rfl)
theorem ixR_NVM_SLOT_STATUS : regAt 199 = some .NVM_SLOT_STATUS := (rfl)
theorem ixR_NVM_BOOT_SEL : regAt 200 = some .NVM_BOOT_SEL := (rfl)
theorem ixR_NVM_CMD : regAt 201 = some .NVM_CMD := (rfl)
theorem ixR_NVM_STATUS : regAt 202 = some .NVM_STATUS := (rfl)
theorem ixR_NVM_FLASH_ADDR_LO : regAt 203 = some .NVM_FLASH_ADDR_LO := (rfl)
theorem ixR_NVM_FLASH_ADDR_HI : regAt 204 = some .NVM_FLASH_ADDR_HI := (rfl)
theorem ixR_NVM_HOST_ADDR_LO : regAt 205 = some .NVM_HOST_ADDR_LO := (rfl)
theorem ixR_NVM_HOST_ADDR_HI : regAt 206 = some .NVM_HOST_ADDR_HI := (rfl)
theorem ixR_NVM_LEN : regAt 207 = some .NVM_LEN := (rfl)
theorem ixR_SYS_ID : regAt 208 = some .SYS_ID := (rfl)
theorem ixR_SYS_SERIAL_LO : regAt 209 = some .SYS_SERIAL_LO := (rfl)
theorem ixR_SYS_SERIAL_HI : regAt 210 = some .SYS_SERIAL_HI := (rfl)
theorem ixR_SYS_RUN_STATE : regAt 211 = some .SYS_RUN_STATE := (rfl)
theorem ixR_SYS_KEY : regAt 212 = some .SYS_KEY := (rfl)
theorem ixR_SYS_ACCESS_FAULT : regAt 213 = some .SYS_ACCESS_FAULT := (rfl)
theorem ixR_SYS_ACCESS_FAULT_ADDR : regAt 214 = some .SYS_ACCESS_FAULT_ADDR := (rfl)
theorem ixR_SYS_UPDATE_PENDING : regAt 215 = some .SYS_UPDATE_PENDING := (rfl)
theorem ixR_SYS_UPDATE_PENDING_HI : regAt 216 = some .SYS_UPDATE_PENDING_HI := (rfl)
theorem ixR_SYS_UPDATE_STROBE_HI : regAt 217 = some .SYS_UPDATE_STROBE_HI := (rfl)
theorem ixR_SYS_UPDATE_STROBE : regAt 218 = some .SYS_UPDATE_STROBE := (rfl)
theorem ixR_SYS_SNAP_CTRL : regAt 219 = some .SYS_SNAP_CTRL := (rfl)
theorem ixR_SYS_SNAP_STATUS : regAt 220 = some .SYS_SNAP_STATUS := (rfl)
theorem ixR_SYS_PLANE_CTRL : regAt 221 = some .SYS_PLANE_CTRL := (rfl)
theorem ixR_SYS_PLANE_STATE : regAt 222 = some .SYS_PLANE_STATE := (rfl)
theorem ixR_SYS_RESET_CTRL : regAt 223 = some .SYS_RESET_CTRL := (rfl)
theorem ixR_SYS_RESET_STATUS : regAt 224 = some .SYS_RESET_STATUS := (rfl)
theorem ixR_SYS_FUSE_CTRL : regAt 225 = some .SYS_FUSE_CTRL := (rfl)
theorem ixR_SYS_FUSE_STATUS : regAt 226 = some .SYS_FUSE_STATUS := (rfl)
theorem ixR_SYS_FUSE_USER : regAt 227 = some .SYS_FUSE_USER := (rfl)
theorem ixR_OPT_SLOW_STATUS : regAt 228 = some .OPT_SLOW_STATUS := (rfl)
theorem ixR_OPT_ENGINE_TEMP : regAt 229 = some .OPT_ENGINE_TEMP := (rfl)
theorem ixR_OPT_LANE_BIAS : regAt 230 = some .OPT_LANE_BIAS := (rfl)
theorem ixR_OPT_LANE_MON : regAt 231 = some .OPT_LANE_MON := (rfl)
theorem ixC_LEAF_RX_FRAME_CNT : cntAt 0 = some .LEAF_RX_FRAME_CNT := (rfl)
theorem ixC_LEAF_RX_BYTE_CNT : cntAt 1 = some .LEAF_RX_BYTE_CNT := (rfl)
theorem ixC_LEAF_TX_FRAME_CNT : cntAt 2 = some .LEAF_TX_FRAME_CNT := (rfl)
theorem ixC_LEAF_TX_BYTE_CNT : cntAt 3 = some .LEAF_TX_BYTE_CNT := (rfl)
theorem ixC_LEAF_RX_CODE_ERR_CNT : cntAt 4 = some .LEAF_RX_CODE_ERR_CNT := (rfl)
theorem ixC_LEAF_RX_RUNT_CNT : cntAt 5 = some .LEAF_RX_RUNT_CNT := (rfl)
theorem ixC_LEAF_RX_OVERSIZE_CNT : cntAt 6 = some .LEAF_RX_OVERSIZE_CNT := (rfl)
theorem ixC_LEAF_RX_FCS_ERR_CNT : cntAt 7 = some .LEAF_RX_FCS_ERR_CNT := (rfl)
theorem ixC_LEAF_RX_TRUNC_CNT : cntAt 8 = some .LEAF_RX_TRUNC_CNT := (rfl)
theorem ixC_LEAF_TX_LINKDOWN_ABORT_CNT : cntAt 9 = some .LEAF_TX_LINKDOWN_ABORT_CNT := (rfl)
theorem ixC_LEAF_TX_UNDERRUN_CNT : cntAt 10 = some .LEAF_TX_UNDERRUN_CNT := (rfl)
theorem ixC_LEAF_TX_STOMP_CNT : cntAt 11 = some .LEAF_TX_STOMP_CNT := (rfl)
theorem ixC_LEAF_TX_OVERSIZE_CNT : cntAt 12 = some .LEAF_TX_OVERSIZE_CNT := (rfl)
theorem ixC_LEAF_TX_INACTIVE_DROP_CNT : cntAt 13 = some .LEAF_TX_INACTIVE_DROP_CNT := (rfl)
theorem ixC_LEAF_TX_DOZE_DROP_CNT : cntAt 14 = some .LEAF_TX_DOZE_DROP_CNT := (rfl)
theorem ixC_LEAF_TX_DOWN_DROP_CNT : cntAt 15 = some .LEAF_TX_DOWN_DROP_CNT := (rfl)
theorem ixC_LEAF_RX_PFC_CNT : cntAt 16 = some .LEAF_RX_PFC_CNT := (rfl)
theorem ixC_LEAF_TX_PFC_CNT : cntAt 17 = some .LEAF_TX_PFC_CNT := (rfl)
theorem ixC_LEAF_PAUSE_WD_CNT : cntAt 18 = some .LEAF_PAUSE_WD_CNT := (rfl)
theorem ixC_LEAF_RX_PAUSE_CNT : cntAt 19 = some .LEAF_RX_PAUSE_CNT := (rfl)
theorem ixC_LEAF_TX_PAUSE_CNT : cntAt 20 = some .LEAF_TX_PAUSE_CNT := (rfl)
theorem ixC_LEAF_RX_PAUSE_IGNORED_CNT : cntAt 21 = some .LEAF_RX_PAUSE_IGNORED_CNT := (rfl)
theorem ixC_FLAP_FLUSH_CNT : cntAt 22 = some .FLAP_FLUSH_CNT := (rfl)
theorem ixC_LEAF_LINK_DOWN_CNT : cntAt 23 = some .LEAF_LINK_DOWN_CNT := (rfl)
theorem ixC_LEAF_WAKE_CNT : cntAt 24 = some .LEAF_WAKE_CNT := (rfl)
theorem ixC_LEAF_FEC_CORR_SYM_CNT : cntAt 25 = some .LEAF_FEC_CORR_SYM_CNT := (rfl)
theorem ixC_LEAF_FEC_CORR_CW_CNT : cntAt 26 = some .LEAF_FEC_CORR_CW_CNT := (rfl)
theorem ixC_LEAF_FEC_UNCORR_CW_CNT : cntAt 27 = some .LEAF_FEC_UNCORR_CW_CNT := (rfl)
theorem ixC_LEAF_AM_LOSS_CNT : cntAt 28 = some .LEAF_AM_LOSS_CNT := (rfl)
theorem ixC_PARSE_STAGE_DISCARD_CNT : cntAt 29 = some .PARSE_STAGE_DISCARD_CNT := (rfl)
theorem ixC_PARSE_MAL_CNT : cntAt 30 = some .PARSE_MAL_CNT := (rfl)
theorem ixC_PARSE_RULE_DROP_CNT : cntAt 31 = some .PARSE_RULE_DROP_CNT := (rfl)
theorem ixC_PARSE_TRAP_CNT : cntAt 32 = some .PARSE_TRAP_CNT := (rfl)
theorem ixC_PARSE_EGR_RULE_DROP_CNT : cntAt 33 = some .PARSE_EGR_RULE_DROP_CNT := (rfl)
theorem ixC_PARSE_RULE_PARITY_CNT : cntAt 34 = some .PARSE_RULE_PARITY_CNT := (rfl)
theorem ixC_PARSE_EDIT_SKIP_CNT : cntAt 35 = some .PARSE_EDIT_SKIP_CNT := (rfl)
theorem ixC_PARSE_EDIT_OVERSIZE_CNT : cntAt 36 = some .PARSE_EDIT_OVERSIZE_CNT := (rfl)
theorem ixC_PARSE_EDIT_PARITY_CNT : cntAt 37 = some .PARSE_EDIT_PARITY_CNT := (rfl)
theorem ixC_TBL_L2_MISS_DROP_CNT : cntAt 38 = some .TBL_L2_MISS_DROP_CNT := (rfl)
theorem ixC_TBL_L3_MISS_DROP_CNT : cntAt 39 = some .TBL_L3_MISS_DROP_CNT := (rfl)
theorem ixC_TBL_TTL_EXPIRE_CNT : cntAt 40 = some .TBL_TTL_EXPIRE_CNT := (rfl)
theorem ixC_TBL_MISS_TRAP_CNT : cntAt 41 = some .TBL_MISS_TRAP_CNT := (rfl)
theorem ixC_TBL_MAC_DROP_CNT : cntAt 42 = some .TBL_MAC_DROP_CNT := (rfl)
theorem ixC_TBL_NH_INVALID_DROP_CNT : cntAt 43 = some .TBL_NH_INVALID_DROP_CNT := (rfl)
theorem ixC_TBL_PARITY_DROP_CNT : cntAt 44 = some .TBL_PARITY_DROP_CNT := (rfl)
theorem ixC_TBL_NH_DROP_CNT : cntAt 45 = some .TBL_NH_DROP_CNT := (rfl)
theorem ixC_TBL_STATIC_MOVE_CNT : cntAt 46 = some .TBL_STATIC_MOVE_CNT := (rfl)
theorem ixC_TBL_LAG_EMPTY_DROP_CNT : cntAt 47 = some .TBL_LAG_EMPTY_DROP_CNT := (rfl)
theorem ixC_TBL_ECMP_EMPTY_DROP_CNT : cntAt 48 = some .TBL_ECMP_EMPTY_DROP_CNT := (rfl)
theorem ixC_TBL_PARITY_CNT : cntAt 49 = some .TBL_PARITY_CNT := (rfl)
theorem ixC_LEARN_DEFER_CNT : cntAt 50 = some .LEARN_DEFER_CNT := (rfl)
theorem ixC_TBL_LEARN_NOTIFY_CNT : cntAt 51 = some .TBL_LEARN_NOTIFY_CNT := (rfl)
theorem ixC_TBL_LEARN_EXPIRE_CNT : cntAt 52 = some .TBL_LEARN_EXPIRE_CNT := (rfl)
theorem ixC_TBL_AGE_REMOVE_CNT : cntAt 53 = some .TBL_AGE_REMOVE_CNT := (rfl)
theorem ixC_TBL_AGE_NOTICE_CNT : cntAt 54 = some .TBL_AGE_NOTICE_CNT := (rfl)
theorem ixC_TBL_AGE_STALL_CNT : cntAt 55 = some .TBL_AGE_STALL_CNT := (rfl)
theorem ixC_TBL_INSERT_CNT : cntAt 56 = some .TBL_INSERT_CNT := (rfl)
theorem ixC_TBL_DELETE_CNT : cntAt 57 = some .TBL_DELETE_CNT := (rfl)
theorem ixC_TBL_WRITE_ERR_CNT : cntAt 58 = some .TBL_WRITE_ERR_CNT := (rfl)
theorem ixC_TBL_MOVE_CNT : cntAt 59 = some .TBL_MOVE_CNT := (rfl)
theorem ixC_XBAR_IN_CELL_CNT : cntAt 60 = some .XBAR_IN_CELL_CNT := (rfl)
theorem ixC_XBAR_OUT_CELL_CNT : cntAt 61 = some .XBAR_OUT_CELL_CNT := (rfl)
theorem ixC_XBAR_RX_OVERRUN_CNT : cntAt 62 = some .XBAR_RX_OVERRUN_CNT := (rfl)
theorem ixC_XBAR_EGR_LOOKUP_WAIT_CNT : cntAt 63 = some .XBAR_EGR_LOOKUP_WAIT_CNT := (rfl)
theorem ixC_XBAR_CREDIT_STALL_CNT : cntAt 64 = some .XBAR_CREDIT_STALL_CNT := (rfl)
theorem ixC_XBAR_RESEQ_DISCARD_CNT : cntAt 65 = some .XBAR_RESEQ_DISCARD_CNT := (rfl)
theorem ixC_XBAR_RESEQ_TIMEOUT_CNT : cntAt 66 = some .XBAR_RESEQ_TIMEOUT_CNT := (rfl)
theorem ixC_XBAR_CELL_LOSS_CNT : cntAt 67 = some .XBAR_CELL_LOSS_CNT := (rfl)
theorem ixC_XBAR_ABORT_CNT : cntAt 68 = some .XBAR_ABORT_CNT := (rfl)
theorem ixC_XBAR_PLANE_CELL_CNT : cntAt 69 = some .XBAR_PLANE_CELL_CNT := (rfl)
theorem ixC_XBAR_TAG_CORR_CNT : cntAt 70 = some .XBAR_TAG_CORR_CNT := (rfl)
theorem ixC_XBAR_TAG_UNCORR_CNT : cntAt 71 = some .XBAR_TAG_UNCORR_CNT := (rfl)
theorem ixC_XBAR_CELL_ERR_CNT : cntAt 72 = some .XBAR_CELL_ERR_CNT := (rfl)
theorem ixC_BUF_ALLOC_CNT : cntAt 73 = some .BUF_ALLOC_CNT := (rfl)
theorem ixC_BUF_FREE_CNT : cntAt 74 = some .BUF_FREE_CNT := (rfl)
theorem ixC_BUF_NOBUF_CNT : cntAt 75 = some .BUF_NOBUF_CNT := (rfl)
theorem ixC_BUF_ALLOC_WAIT_CNT : cntAt 76 = some .BUF_ALLOC_WAIT_CNT := (rfl)
theorem ixC_BUF_DOUBLE_FREE_CNT : cntAt 77 = some .BUF_DOUBLE_FREE_CNT := (rfl)
theorem ixC_BUF_BITMAP_ERR_CNT : cntAt 78 = some .BUF_BITMAP_ERR_CNT := (rfl)
theorem ixC_BUF_QUAR_CNT : cntAt 79 = some .BUF_QUAR_CNT := (rfl)
theorem ixC_BUF_QUAR_RELEASE_CNT : cntAt 80 = some .BUF_QUAR_RELEASE_CNT := (rfl)
theorem ixC_BUF_RETIRE_CNT : cntAt 81 = some .BUF_RETIRE_CNT := (rfl)
theorem ixC_BUF_NOBUF_DROP_CNT : cntAt 82 = some .BUF_NOBUF_DROP_CNT := (rfl)
theorem ixC_BUF_NOBUF_CELL_DROP_CNT : cntAt 83 = some .BUF_NOBUF_CELL_DROP_CNT := (rfl)
theorem ixC_BUF_RX_NOBUF_CELL_CNT : cntAt 84 = some .BUF_RX_NOBUF_CELL_CNT := (rfl)
theorem ixC_BUF_ONDIE_CRC_DROP_CNT : cntAt 85 = some .BUF_ONDIE_CRC_DROP_CNT := (rfl)
theorem ixC_BUF_ONDIE_CRC_CELL_CNT : cntAt 86 = some .BUF_ONDIE_CRC_CELL_CNT := (rfl)
theorem ixC_BUF_HBM_CRC_DROP_CNT : cntAt 87 = some .BUF_HBM_CRC_DROP_CNT := (rfl)
theorem ixC_BUF_HBM_CRC_CELL_CNT : cntAt 88 = some .BUF_HBM_CRC_CELL_CNT := (rfl)
theorem ixC_BUF_SPILL_UNIT_CNT : cntAt 89 = some .BUF_SPILL_UNIT_CNT := (rfl)
theorem ixC_BUF_SPILL_NOBUF_CNT : cntAt 90 = some .BUF_SPILL_NOBUF_CNT := (rfl)
theorem ixC_BUF_REFILL_UNIT_CNT : cntAt 91 = some .BUF_REFILL_UNIT_CNT := (rfl)
theorem ixC_BUF_REFILL_WAIT_CNT : cntAt 92 = some .BUF_REFILL_WAIT_CNT := (rfl)
theorem ixC_TM_QLIMIT_DROP_CNT : cntAt 93 = some .TM_QLIMIT_DROP_CNT := (rfl)
theorem ixC_TM_DYN_DROP_CNT : cntAt 94 = some .TM_DYN_DROP_CNT := (rfl)
theorem ixC_TM_QLIMIT_CELL_DROP_CNT : cntAt 95 = some .TM_QLIMIT_CELL_DROP_CNT := (rfl)
theorem ixC_TM_DYN_CELL_DROP_CNT : cntAt 96 = some .TM_DYN_CELL_DROP_CNT := (rfl)
theorem ixC_TM_ECN_MARK_CNT : cntAt 97 = some .TM_ECN_MARK_CNT := (rfl)
theorem ixC_TM_ECN_NOT_ECT_CNT : cntAt 98 = some .TM_ECN_NOT_ECT_CNT := (rfl)
theorem ixC_TM_POLICE_DROP_CNT : cntAt 99 = some .TM_POLICE_DROP_CNT := (rfl)
theorem ixC_TM_DEST_LIMIT_DROP_CNT : cntAt 100 = some .TM_DEST_LIMIT_DROP_CNT := (rfl)
theorem ixC_TM_WX_RECORD_CNT : cntAt 101 = some .TM_WX_RECORD_CNT := (rfl)
theorem ixC_TM_WX_DROP_CNT : cntAt 102 = some .TM_WX_DROP_CNT := (rfl)
theorem ixC_SKY_MAP_APPLY_CNT : cntAt 103 = some .SKY_MAP_APPLY_CNT := (rfl)
theorem ixC_SKY_MAP_ARM_REFUSE_CNT : cntAt 104 = some .SKY_MAP_ARM_REFUSE_CNT := (rfl)
theorem ixC_SKY_DARK_EPOCH_CNT : cntAt 105 = some .SKY_DARK_EPOCH_CNT := (rfl)
theorem ixC_SKY_JOIN_CNT : cntAt 106 = some .SKY_JOIN_CNT := (rfl)
theorem ixC_SKY_HELLO_MISMATCH_CNT : cntAt 107 = some .SKY_HELLO_MISMATCH_CNT := (rfl)
theorem ixC_SKY_RX_MAP_MISMATCH_CNT : cntAt 108 = some .SKY_RX_MAP_MISMATCH_CNT := (rfl)
theorem ixC_SKY_NO_PEER_SLOT_CNT : cntAt 109 = some .SKY_NO_PEER_SLOT_CNT := (rfl)
theorem ixC_SKY_TX_NJ_CNT : cntAt 110 = some .SKY_TX_NJ_CNT := (rfl)
theorem ixC_SKY_TX_PJ_CNT : cntAt 111 = some .SKY_TX_PJ_CNT := (rfl)
theorem ixC_SKY_TX_SLIP_CNT : cntAt 112 = some .SKY_TX_SLIP_CNT := (rfl)
theorem ixC_SKY_RX_BURST_CNT : cntAt 113 = some .SKY_RX_BURST_CNT := (rfl)
theorem ixC_SKY_RX_NOSYNC_CNT : cntAt 114 = some .SKY_RX_NOSYNC_CNT := (rfl)
theorem ixC_SKY_RX_HDR_ERR_CNT : cntAt 115 = some .SKY_RX_HDR_ERR_CNT := (rfl)
theorem ixC_SKY_RX_FORMAT_ERR_CNT : cntAt 116 = some .SKY_RX_FORMAT_ERR_CNT := (rfl)
theorem ixC_SKY_RX_LANE_ERR_CNT : cntAt 117 = some .SKY_RX_LANE_ERR_CNT := (rfl)
theorem ixC_SKY_RX_TIMING_ERR_CNT : cntAt 118 = some .SKY_RX_TIMING_ERR_CNT := (rfl)
theorem ixC_SKY_RX_STRANGER_CELL_CNT : cntAt 119 = some .SKY_RX_STRANGER_CELL_CNT := (rfl)
theorem ixC_SKY_RX_CELL_ERR_CNT : cntAt 120 = some .SKY_RX_CELL_ERR_CNT := (rfl)
theorem ixC_SKY_RX_JUST_ERR_CNT : cntAt 121 = some .SKY_RX_JUST_ERR_CNT := (rfl)
theorem ixC_SKY_RX_DESKEW_DROP_CNT : cntAt 122 = some .SKY_RX_DESKEW_DROP_CNT := (rfl)
theorem ixC_SKY_RX_SYNCFRAME_ERR_CNT : cntAt 123 = some .SKY_RX_SYNCFRAME_ERR_CNT := (rfl)
theorem ixC_SKY_RX_NJ_CNT : cntAt 124 = some .SKY_RX_NJ_CNT := (rfl)
theorem ixC_SKY_RX_PJ_CNT : cntAt 125 = some .SKY_RX_PJ_CNT := (rfl)
theorem ixC_SKY_RX_SLIP_CNT : cntAt 126 = some .SKY_RX_SLIP_CNT := (rfl)
theorem ixC_SKY_TX_BURST_CNT : cntAt 127 = some .SKY_TX_BURST_CNT := (rfl)
theorem ixC_SKY_RX_CELL_CNT : cntAt 128 = some .SKY_RX_CELL_CNT := (rfl)
theorem ixC_SKY_RX_MISDIRECT_CNT : cntAt 129 = some .SKY_RX_MISDIRECT_CNT := (rfl)
theorem ixC_SKY_LANE_COLL_CNT : cntAt 130 = some .SKY_LANE_COLL_CNT := (rfl)
theorem ixC_SKY_LANE_NOISE_CNT : cntAt 131 = some .SKY_LANE_NOISE_CNT := (rfl)
theorem ixC_SKY_LANE_FEC_CORR_SYM_CNT : cntAt 132 = some .SKY_LANE_FEC_CORR_SYM_CNT := (rfl)
theorem ixC_SKY_SRC_COLL_CNT : cntAt 133 = some .SKY_SRC_COLL_CNT := (rfl)
theorem ixC_SKY_SRC_NOISE_CNT : cntAt 134 = some .SKY_SRC_NOISE_CNT := (rfl)
theorem ixC_SKY_CREDIT_RECOVER_CNT : cntAt 135 = some .SKY_CREDIT_RECOVER_CNT := (rfl)
theorem ixC_SKY_RELAY_CELL_LOST_CNT : cntAt 136 = some .SKY_RELAY_CELL_LOST_CNT := (rfl)
theorem ixC_SKY_RELAY_OVER_CREDIT_CNT : cntAt 137 = some .SKY_RELAY_OVER_CREDIT_CNT := (rfl)
theorem ixC_SKY_CREDIT_FORFEIT_CNT : cntAt 138 = some .SKY_CREDIT_FORFEIT_CNT := (rfl)
theorem ixC_SKY_LANE_TXFAULT_CNT : cntAt 139 = some .SKY_LANE_TXFAULT_CNT := (rfl)
theorem ixC_SKY_LANE_RXLOS_CNT : cntAt 140 = some .SKY_LANE_RXLOS_CNT := (rfl)
theorem ixC_SKY_NO_PEER_DROP_CNT : cntAt 141 = some .SKY_NO_PEER_DROP_CNT := (rfl)
theorem ixC_SKY_TX_CELL_CNT : cntAt 142 = some .SKY_TX_CELL_CNT := (rfl)
theorem ixC_SKY_TX_RELAY_CELL_CNT : cntAt 143 = some .SKY_TX_RELAY_CELL_CNT := (rfl)
theorem ixC_SKY_RELAY_FWD_CELL_CNT : cntAt 144 = some .SKY_RELAY_FWD_CELL_CNT := (rfl)
theorem ixC_SKY_RELAY_NOROUTE_CNT : cntAt 145 = some .SKY_RELAY_NOROUTE_CNT := (rfl)
theorem ixC_SKY_PEER_LOSS_CELL_CNT : cntAt 146 = some .SKY_PEER_LOSS_CELL_CNT := (rfl)
theorem ixC_SKY_LANE_MOVE_CELL_CNT : cntAt 147 = some .SKY_LANE_MOVE_CELL_CNT := (rfl)
theorem ixC_SKY_STATE_FLUSH_CELL_CNT : cntAt 148 = some .SKY_STATE_FLUSH_CELL_CNT := (rfl)
theorem ixC_SKY_PAIR_TX_CELL_CNT : cntAt 149 = some .SKY_PAIR_TX_CELL_CNT := (rfl)
theorem ixC_SKY_PAIR_RX_CELL_CNT : cntAt 150 = some .SKY_PAIR_RX_CELL_CNT := (rfl)
theorem ixC_SKY_PAIR_LOST_CNT : cntAt 151 = some .SKY_PAIR_LOST_CNT := (rfl)
theorem ixC_SKY_PAIR_LATE_CNT : cntAt 152 = some .SKY_PAIR_LATE_CNT := (rfl)
theorem ixC_SKY_PAIR_DUP_CNT : cntAt 153 = some .SKY_PAIR_DUP_CNT := (rfl)
theorem ixC_SKY_PAIR_FORCE_CNT : cntAt 154 = some .SKY_PAIR_FORCE_CNT := (rfl)
theorem ixC_SKY_PAIR_FRAME_CNT : cntAt 155 = some .SKY_PAIR_FRAME_CNT := (rfl)
theorem ixC_SKY_PAIR_FRAME_DISCARD_CNT : cntAt 156 = some .SKY_PAIR_FRAME_DISCARD_CNT := (rfl)
theorem ixC_SKY_PAIR_FORMAT_DISCARD_CNT : cntAt 157 = some .SKY_PAIR_FORMAT_DISCARD_CNT := (rfl)
theorem ixC_SKYT_STEP_CNT : cntAt 158 = some .SKYT_STEP_CNT := (rfl)
theorem ixC_SKYT_STEP_REFUSED_CNT : cntAt 159 = some .SKYT_STEP_REFUSED_CNT := (rfl)
theorem ixC_SKYT_TAKEOVER_CNT : cntAt 160 = some .SKYT_TAKEOVER_CNT := (rfl)
theorem ixC_SKYT_TAKEOVER_FAIL_CNT : cntAt 161 = some .SKYT_TAKEOVER_FAIL_CNT := (rfl)
theorem ixC_SKYT_RELEASE_CNT : cntAt 162 = some .SKYT_RELEASE_CNT := (rfl)
theorem ixC_SKYT_HOLDER_CONFLICT_CNT : cntAt 163 = some .SKYT_HOLDER_CONFLICT_CNT := (rfl)
theorem ixC_SKYT_LULL_CNT : cntAt 164 = some .SKYT_LULL_CNT := (rfl)
theorem ixC_SKYT_LULL_LIMIT_CNT : cntAt 165 = some .SKYT_LULL_LIMIT_CNT := (rfl)
theorem ixC_SKYT_DIAG_FAIL_CNT : cntAt 166 = some .SKYT_DIAG_FAIL_CNT := (rfl)
theorem ixC_HOST_FAULT_REC_DROP_CNT : cntAt 167 = some .HOST_FAULT_REC_DROP_CNT := (rfl)
theorem ixC_HOST_RING_ENTRY_CNT : cntAt 168 = some .HOST_RING_ENTRY_CNT := (rfl)
theorem ixC_HOST_RING_ERR_ENTRY_CNT : cntAt 169 = some .HOST_RING_ERR_ENTRY_CNT := (rfl)
theorem ixC_HOST_RING_UNDELIVERED_CNT : cntAt 170 = some .HOST_RING_UNDELIVERED_CNT := (rfl)
theorem ixC_HOST_CPL_STALL_CNT : cntAt 171 = some .HOST_CPL_STALL_CNT := (rfl)
theorem ixC_RX_NOBUF_CNT : cntAt 172 = some .RX_NOBUF_CNT := (rfl)
theorem ixC_HOST_RX_CPL_FULL_DROP_CNT : cntAt 173 = some .HOST_RX_CPL_FULL_DROP_CNT := (rfl)
theorem ixC_HOST_RX_RING_DOWN_DROP_CNT : cntAt 174 = some .HOST_RX_RING_DOWN_DROP_CNT := (rfl)
theorem ixC_HOST_CAP_DROP_CNT : cntAt 175 = some .HOST_CAP_DROP_CNT := (rfl)
theorem ixC_HOST_DB_REFUSE_CNT : cntAt 176 = some .HOST_DB_REFUSE_CNT := (rfl)
theorem ixC_HOST_RX_DROP_CNT : cntAt 177 = some .HOST_RX_DROP_CNT := (rfl)
theorem ixC_MIR_COPY_CNT : cntAt 178 = some .MIR_COPY_CNT := (rfl)
theorem ixC_MIR_DELIVER_CNT : cntAt 179 = some .MIR_DELIVER_CNT := (rfl)
theorem ixC_MIR_POL_DROP_CNT : cntAt 180 = some .MIR_POL_DROP_CNT := (rfl)
theorem ixC_MIR_HOST_DROP_CNT : cntAt 181 = some .MIR_HOST_DROP_CNT := (rfl)
theorem ixC_MIR_ABORT_CNT : cntAt 182 = some .MIR_ABORT_CNT := (rfl)
theorem ixC_MIR_SAMPLE_CNT : cntAt 183 = some .MIR_SAMPLE_CNT := (rfl)
theorem ixC_MIR_SAMPLE_DROP_CNT : cntAt 184 = some .MIR_SAMPLE_DROP_CNT := (rfl)
theorem ixC_HLT_CHECK_CNT : cntAt 185 = some .HLT_CHECK_CNT := (rfl)
theorem ixC_HLT_LEDGER_FAULT_CNT : cntAt 186 = some .HLT_LEDGER_FAULT_CNT := (rfl)
theorem ixC_HLT_REBASE_CNT : cntAt 187 = some .HLT_REBASE_CNT := (rfl)
theorem ixC_HLT_RECORD_SUPPRESS_CNT : cntAt 188 = some .HLT_RECORD_SUPPRESS_CNT := (rfl)
theorem ixC_HLT_ABORT_DISCARD_CNT : cntAt 189 = some .HLT_ABORT_DISCARD_CNT := (rfl)
theorem ixC_HLT_LASTING_CNT : cntAt 190 = some .HLT_LASTING_CNT := (rfl)
theorem ixC_SYS_ACCESS_FAULT_CNT : cntAt 191 = some .SYS_ACCESS_FAULT_CNT := (rfl)
theorem ixC_SYS_HEADLESS_HOST_DROP_CNT : cntAt 192 = some .SYS_HEADLESS_HOST_DROP_CNT := (rfl)
theorem ixC_SYS_HEADLESS_NOTIFY_DROP_CNT : cntAt 193 = some .SYS_HEADLESS_NOTIFY_DROP_CNT := (rfl)
theorem ixC_CTL_INT_MERGE_CNT : cntAt 194 = some .CTL_INT_MERGE_CNT := (rfl)
theorem ixC_CTL_PCIE_LINK_DOWN_CNT : cntAt 195 = some .CTL_PCIE_LINK_DOWN_CNT := (rfl)
theorem ixC_CTL_DRAM_CORR_CNT : cntAt 196 = some .CTL_DRAM_CORR_CNT := (rfl)
theorem ixC_CTL_DRAM_UNCORR_CNT : cntAt 197 = some .CTL_DRAM_UNCORR_CNT := (rfl)
theorem ixC_IDL_REPLAY_CNT : cntAt 198 = some .IDL_REPLAY_CNT := (rfl)
theorem ixC_IDL_RETRAIN_CNT : cntAt 199 = some .IDL_RETRAIN_CNT := (rfl)
theorem ixC_IDL_TX_FLIT_CNT : cntAt 200 = some .IDL_TX_FLIT_CNT := (rfl)
theorem ixC_IDL_RX_FLIT_CNT : cntAt 201 = some .IDL_RX_FLIT_CNT := (rfl)
theorem ixC_IDL_POL_REFUSE_CNT : cntAt 202 = some .IDL_POL_REFUSE_CNT := (rfl)
theorem ixC_IDL_TRAP_POL_DROP_CNT : cntAt 203 = some .IDL_TRAP_POL_DROP_CNT := (rfl)
theorem ixC_PWR_MAINS_LOSS_CNT : cntAt 204 = some .PWR_MAINS_LOSS_CNT := (rfl)
theorem ixC_PWR_DUSK_CNT : cntAt 205 = some .PWR_DUSK_CNT := (rfl)
theorem ixC_PWR_DUSK_INCOMPLETE_CNT : cntAt 206 = some .PWR_DUSK_INCOMPLETE_CNT := (rfl)
theorem ixC_PWR_STEEP_CNT : cntAt 207 = some .PWR_STEEP_CNT := (rfl)
theorem ixC_PWR_SIMMER1_CNT : cntAt 208 = some .PWR_SIMMER1_CNT := (rfl)
theorem ixC_PWR_SIMMER2_CNT : cntAt 209 = some .PWR_SIMMER2_CNT := (rfl)
theorem ixC_PWR_TRIP_CNT : cntAt 210 = some .PWR_TRIP_CNT := (rfl)
theorem ixC_PWR_RAIL_FAULT_CNT : cntAt 211 = some .PWR_RAIL_FAULT_CNT := (rfl)
theorem ixC_PWR_QUIET_CNT : cntAt 212 = some .PWR_QUIET_CNT := (rfl)
theorem ixC_PWR_POWER_LIMIT_CNT : cntAt 213 = some .PWR_POWER_LIMIT_CNT := (rfl)
theorem ixC_PWR_STEEP_TIMEOUT_CNT : cntAt 214 = some .PWR_STEEP_TIMEOUT_CNT := (rfl)
theorem ixC_KEEP_RESTART_CNT : cntAt 215 = some .KEEP_RESTART_CNT := (rfl)
theorem ixC_KEEP_MBOX_CMD_CNT : cntAt 216 = some .KEEP_MBOX_CMD_CNT := (rfl)
theorem ixC_KEEP_REDFISH_REQ_CNT : cntAt 217 = some .KEEP_REDFISH_REQ_CNT := (rfl)
theorem ixC_KEEP_REDFISH_AUTH_FAIL_CNT : cntAt 218 = some .KEEP_REDFISH_AUTH_FAIL_CNT := (rfl)
theorem ixC_NVM_READ_CNT : cntAt 219 = some .NVM_READ_CNT := (rfl)
theorem ixC_NVM_WRITE_CNT : cntAt 220 = some .NVM_WRITE_CNT := (rfl)
theorem ixC_NVM_COMMIT_CNT : cntAt 221 = some .NVM_COMMIT_CNT := (rfl)
theorem ixC_NVM_COMMIT_FAIL_CNT : cntAt 222 = some .NVM_COMMIT_FAIL_CNT := (rfl)
theorem ixC_NVM_CFG_COMMIT_CNT : cntAt 223 = some .NVM_CFG_COMMIT_CNT := (rfl)
theorem ixC_NVM_TRIAL_REVERT_CNT : cntAt 224 = some .NVM_TRIAL_REVERT_CNT := (rfl)
theorem ixC_NVM_FLASH_ERR_CNT : cntAt 225 = some .NVM_FLASH_ERR_CNT := (rfl)
theorem ixC_NVM_BOOT_FAIL_CNT : cntAt 226 = some .NVM_BOOT_FAIL_CNT := (rfl)

end Sys2Proof.Machine
end

