-- ==== Sys2Proof/Laws/Frames.lean ====
section
/-!
SUPPORT. Frames of record updates, and of counters and registers that a cause chooses.
-/
namespace Sys2Proof.Machine

/-! ### Changes of whole areas -/

theorem kept_up1 {T : Touch} {s0 s : State} {x_regs : SMap Word} (hm : 1 &&& T.a = 1) (h : Kept T s0 s) :
    Kept T s0 (State.mk x_regs s.shadow s.cnts s.tot s.hold s.pairs s.now s.free s.out s.sys s.ctl s.host s.hlt s.pwr
        s.nvm s.cls s.time s.tbl s.leaf s.xbar s.buf s.tm s.sky s.pending) :=
  ⟨vac hm (n := 0) (by decide), h.shadow, h.cnts, h.tot, h.hold, h.pairs, h.now, h.free, h.out, h.sys, h.ctl, h.host,
      h.hlt, h.pwr, h.nvm, h.cls, h.time, h.tbl, h.leaf, h.xbar, h.buf, h.tm, h.sky, h.pending⟩

theorem kept_up2 {T : Touch} {s0 s : State} {x_shadow : SMap Word} (hm : 2 &&& T.a = 2) (h : Kept T s0 s) :
    Kept T s0 (State.mk s.regs x_shadow s.cnts s.tot s.hold s.pairs s.now s.free s.out s.sys s.ctl s.host s.hlt s.pwr
        s.nvm s.cls s.time s.tbl s.leaf s.xbar s.buf s.tm s.sky s.pending) :=
  ⟨h.regs, vac hm (n := 1) (by decide), h.cnts, h.tot, h.hold, h.pairs, h.now, h.free, h.out, h.sys, h.ctl, h.host,
      h.hlt, h.pwr, h.nvm, h.cls, h.time, h.tbl, h.leaf, h.xbar, h.buf, h.tm, h.sky, h.pending⟩

theorem kept_up3 {T : Touch} {s0 s : State} {x_regs : SMap Word} {x_shadow : SMap Word} (hm : 3 &&& T.a = 3) (h :
    Kept T s0 s) :
    Kept T s0 (State.mk x_regs x_shadow s.cnts s.tot s.hold s.pairs s.now s.free s.out s.sys s.ctl s.host s.hlt s.pwr
        s.nvm s.cls s.time s.tbl s.leaf s.xbar s.buf s.tm s.sky s.pending) :=
  ⟨vac hm (n := 0) (by decide), vac hm (n := 1) (by decide), h.cnts, h.tot, h.hold, h.pairs, h.now, h.free, h.out,
      h.sys, h.ctl, h.host, h.hlt, h.pwr, h.nvm, h.cls, h.time, h.tbl, h.leaf, h.xbar, h.buf, h.tm, h.sky, h.pending⟩

theorem kept_up4 {T : Touch} {s0 s : State} {x_cnts : SMap DWord} (hm : 4 &&& T.a = 4) (h : Kept T s0 s) :
    Kept T s0 (State.mk s.regs s.shadow x_cnts s.tot s.hold s.pairs s.now s.free s.out s.sys s.ctl s.host s.hlt s.pwr
        s.nvm s.cls s.time s.tbl s.leaf s.xbar s.buf s.tm s.sky s.pending) :=
  ⟨h.regs, h.shadow, vac hm (n := 2) (by decide), h.tot, h.hold, h.pairs, h.now, h.free, h.out, h.sys, h.ctl, h.host,
      h.hlt, h.pwr, h.nvm, h.cls, h.time, h.tbl, h.leaf, h.xbar, h.buf, h.tm, h.sky, h.pending⟩

theorem kept_up20 {T : Touch} {s0 s : State} {x_cnts : SMap DWord} {x_hold : SMap DWord} (hm : 20 &&& T.a = 20) (h :
    Kept T s0 s) :
    Kept T s0 (State.mk s.regs s.shadow x_cnts s.tot x_hold s.pairs s.now s.free s.out s.sys s.ctl s.host s.hlt s.pwr
        s.nvm s.cls s.time s.tbl s.leaf s.xbar s.buf s.tm s.sky s.pending) :=
  ⟨h.regs, h.shadow, vac hm (n := 2) (by decide), h.tot, vac hm (n := 4) (by decide), h.pairs, h.now, h.free, h.out,
      h.sys, h.ctl, h.host, h.hlt, h.pwr, h.nvm, h.cls, h.time, h.tbl, h.leaf, h.xbar, h.buf, h.tm, h.sky, h.pending⟩

theorem kept_up32 {T : Touch} {s0 s : State} {x_pairs : SMap Word} (hm : 32 &&& T.a = 32) (h : Kept T s0 s) :
    Kept T s0 (State.mk s.regs s.shadow s.cnts s.tot s.hold x_pairs s.now s.free s.out s.sys s.ctl s.host s.hlt s.pwr
        s.nvm s.cls s.time s.tbl s.leaf s.xbar s.buf s.tm s.sky s.pending) :=
  ⟨h.regs, h.shadow, h.cnts, h.tot, h.hold, vac hm (n := 5) (by decide), h.now, h.free, h.out, h.sys, h.ctl, h.host,
      h.hlt, h.pwr, h.nvm, h.cls, h.time, h.tbl, h.leaf, h.xbar, h.buf, h.tm, h.sky, h.pending⟩

theorem kept_up128 {T : Touch} {s0 s : State} {x_free : Nat} (hm : 128 &&& T.a = 128) (h : Kept T s0 s) :
    Kept T s0 (State.mk s.regs s.shadow s.cnts s.tot s.hold s.pairs s.now x_free s.out s.sys s.ctl s.host s.hlt s.pwr
        s.nvm s.cls s.time s.tbl s.leaf s.xbar s.buf s.tm s.sky s.pending) :=
  ⟨h.regs, h.shadow, h.cnts, h.tot, h.hold, h.pairs, h.now, vac hm (n := 7) (by decide), h.out, h.sys, h.ctl, h.host,
      h.hlt, h.pwr, h.nvm, h.cls, h.time, h.tbl, h.leaf, h.xbar, h.buf, h.tm, h.sky, h.pending⟩

theorem kept_up256 {T : Touch} {s0 s : State} {x_out : List OutEv} (hm : 256 &&& T.a = 256) (h : Kept T s0 s) :
    Kept T s0 (State.mk s.regs s.shadow s.cnts s.tot s.hold s.pairs s.now s.free x_out s.sys s.ctl s.host s.hlt s.pwr
        s.nvm s.cls s.time s.tbl s.leaf s.xbar s.buf s.tm s.sky s.pending) :=
  ⟨h.regs, h.shadow, h.cnts, h.tot, h.hold, h.pairs, h.now, h.free, vac hm (n := 8) (by decide), h.sys, h.ctl,
      h.host, h.hlt, h.pwr, h.nvm, h.cls, h.time, h.tbl, h.leaf, h.xbar, h.buf, h.tm, h.sky, h.pending⟩

theorem kept_up512 {T : Touch} {s0 s : State} {x_sys : SysSt} (hm : 512 &&& T.a = 512) (h : Kept T s0 s) :
    Kept T s0 (State.mk s.regs s.shadow s.cnts s.tot s.hold s.pairs s.now s.free s.out x_sys s.ctl s.host s.hlt s.pwr
        s.nvm s.cls s.time s.tbl s.leaf s.xbar s.buf s.tm s.sky s.pending) :=
  ⟨h.regs, h.shadow, h.cnts, h.tot, h.hold, h.pairs, h.now, h.free, h.out, vac hm (n := 9) (by decide), h.ctl,
      h.host, h.hlt, h.pwr, h.nvm, h.cls, h.time, h.tbl, h.leaf, h.xbar, h.buf, h.tm, h.sky, h.pending⟩

theorem kept_up516 {T : Touch} {s0 s : State} {x_cnts : SMap DWord} {x_sys : SysSt} (hm : 516 &&& T.a = 516) (h :
    Kept T s0 s) :
    Kept T s0 (State.mk s.regs s.shadow x_cnts s.tot s.hold s.pairs s.now s.free s.out x_sys s.ctl s.host s.hlt s.pwr
        s.nvm s.cls s.time s.tbl s.leaf s.xbar s.buf s.tm s.sky s.pending) :=
  ⟨h.regs, h.shadow, vac hm (n := 2) (by decide), h.tot, h.hold, h.pairs, h.now, h.free, h.out, vac hm (n := 9) (by
      decide), h.ctl, h.host, h.hlt, h.pwr, h.nvm, h.cls, h.time, h.tbl, h.leaf, h.xbar, h.buf, h.tm, h.sky,
      h.pending⟩

theorem kept_up532 {T : Touch} {s0 s : State} {x_cnts : SMap DWord} {x_hold : SMap DWord} {x_sys : SysSt} (hm : 532
    &&& T.a = 532) (h : Kept T s0 s) :
    Kept T s0 (State.mk s.regs s.shadow x_cnts s.tot x_hold s.pairs s.now s.free s.out x_sys s.ctl s.host s.hlt s.pwr
        s.nvm s.cls s.time s.tbl s.leaf s.xbar s.buf s.tm s.sky s.pending) :=
  ⟨h.regs, h.shadow, vac hm (n := 2) (by decide), h.tot, vac hm (n := 4) (by decide), h.pairs, h.now, h.free, h.out,
      vac hm (n := 9) (by decide), h.ctl, h.host, h.hlt, h.pwr, h.nvm, h.cls, h.time, h.tbl, h.leaf, h.xbar, h.buf,
      h.tm, h.sky, h.pending⟩

theorem kept_up1024 {T : Touch} {s0 s : State} {x_ctl : CtlSt} (hm : 1024 &&& T.a = 1024) (h : Kept T s0 s) :
    Kept T s0 (State.mk s.regs s.shadow s.cnts s.tot s.hold s.pairs s.now s.free s.out s.sys x_ctl s.host s.hlt s.pwr
        s.nvm s.cls s.time s.tbl s.leaf s.xbar s.buf s.tm s.sky s.pending) :=
  ⟨h.regs, h.shadow, h.cnts, h.tot, h.hold, h.pairs, h.now, h.free, h.out, h.sys, vac hm (n := 10) (by decide),
      h.host, h.hlt, h.pwr, h.nvm, h.cls, h.time, h.tbl, h.leaf, h.xbar, h.buf, h.tm, h.sky, h.pending⟩

theorem kept_up2048 {T : Touch} {s0 s : State} {x_host : HostSt} (hm : 2048 &&& T.a = 2048) (h : Kept T s0 s) :
    Kept T s0 (State.mk s.regs s.shadow s.cnts s.tot s.hold s.pairs s.now s.free s.out s.sys s.ctl x_host s.hlt s.pwr
        s.nvm s.cls s.time s.tbl s.leaf s.xbar s.buf s.tm s.sky s.pending) :=
  ⟨h.regs, h.shadow, h.cnts, h.tot, h.hold, h.pairs, h.now, h.free, h.out, h.sys, h.ctl, vac hm (n := 11) (by
      decide), h.hlt, h.pwr, h.nvm, h.cls, h.time, h.tbl, h.leaf, h.xbar, h.buf, h.tm, h.sky, h.pending⟩

theorem kept_up4096 {T : Touch} {s0 s : State} {x_hlt : HltSt} (hm : 4096 &&& T.a = 4096) (h : Kept T s0 s) :
    Kept T s0 (State.mk s.regs s.shadow s.cnts s.tot s.hold s.pairs s.now s.free s.out s.sys s.ctl s.host x_hlt s.pwr
        s.nvm s.cls s.time s.tbl s.leaf s.xbar s.buf s.tm s.sky s.pending) :=
  ⟨h.regs, h.shadow, h.cnts, h.tot, h.hold, h.pairs, h.now, h.free, h.out, h.sys, h.ctl, h.host, vac hm (n := 12) (by
      decide), h.pwr, h.nvm, h.cls, h.time, h.tbl, h.leaf, h.xbar, h.buf, h.tm, h.sky, h.pending⟩

theorem kept_up8192 {T : Touch} {s0 s : State} {x_pwr : PwrSt} (hm : 8192 &&& T.a = 8192) (h : Kept T s0 s) :
    Kept T s0 (State.mk s.regs s.shadow s.cnts s.tot s.hold s.pairs s.now s.free s.out s.sys s.ctl s.host s.hlt x_pwr
        s.nvm s.cls s.time s.tbl s.leaf s.xbar s.buf s.tm s.sky s.pending) :=
  ⟨h.regs, h.shadow, h.cnts, h.tot, h.hold, h.pairs, h.now, h.free, h.out, h.sys, h.ctl, h.host, h.hlt, vac hm (n :=
      13) (by decide), h.nvm, h.cls, h.time, h.tbl, h.leaf, h.xbar, h.buf, h.tm, h.sky, h.pending⟩

theorem kept_up9216 {T : Touch} {s0 s : State} {x_ctl : CtlSt} {x_pwr : PwrSt} (hm : 9216 &&& T.a = 9216) (h : Kept T
    s0 s) :
    Kept T s0 (State.mk s.regs s.shadow s.cnts s.tot s.hold s.pairs s.now s.free s.out s.sys x_ctl s.host s.hlt x_pwr
        s.nvm s.cls s.time s.tbl s.leaf s.xbar s.buf s.tm s.sky s.pending) :=
  ⟨h.regs, h.shadow, h.cnts, h.tot, h.hold, h.pairs, h.now, h.free, h.out, h.sys, vac hm (n := 10) (by decide),
      h.host, h.hlt, vac hm (n := 13) (by decide), h.nvm, h.cls, h.time, h.tbl, h.leaf, h.xbar, h.buf, h.tm, h.sky,
      h.pending⟩

theorem kept_up16384 {T : Touch} {s0 s : State} {x_nvm : NvmSt} (hm : 16384 &&& T.a = 16384) (h : Kept T s0 s) :
    Kept T s0 (State.mk s.regs s.shadow s.cnts s.tot s.hold s.pairs s.now s.free s.out s.sys s.ctl s.host s.hlt s.pwr
        x_nvm s.cls s.time s.tbl s.leaf s.xbar s.buf s.tm s.sky s.pending) :=
  ⟨h.regs, h.shadow, h.cnts, h.tot, h.hold, h.pairs, h.now, h.free, h.out, h.sys, h.ctl, h.host, h.hlt, h.pwr, vac hm
      (n := 14) (by decide), h.cls, h.time, h.tbl, h.leaf, h.xbar, h.buf, h.tm, h.sky, h.pending⟩

theorem kept_up16896 {T : Touch} {s0 s : State} {x_sys : SysSt} {x_nvm : NvmSt} (hm : 16896 &&& T.a = 16896) (h :
    Kept T s0 s) :
    Kept T s0 (State.mk s.regs s.shadow s.cnts s.tot s.hold s.pairs s.now s.free s.out x_sys s.ctl s.host s.hlt s.pwr
        x_nvm s.cls s.time s.tbl s.leaf s.xbar s.buf s.tm s.sky s.pending) :=
  ⟨h.regs, h.shadow, h.cnts, h.tot, h.hold, h.pairs, h.now, h.free, h.out, vac hm (n := 9) (by decide), h.ctl,
      h.host, h.hlt, h.pwr, vac hm (n := 14) (by decide), h.cls, h.time, h.tbl, h.leaf, h.xbar, h.buf, h.tm, h.sky,
      h.pending⟩

theorem kept_up17024 {T : Touch} {s0 s : State} {x_free : Nat} {x_sys : SysSt} {x_nvm : NvmSt} (hm : 17024 &&& T.a =
    17024) (h : Kept T s0 s) :
    Kept T s0 (State.mk s.regs s.shadow s.cnts s.tot s.hold s.pairs s.now x_free s.out x_sys s.ctl s.host s.hlt s.pwr
        x_nvm s.cls s.time s.tbl s.leaf s.xbar s.buf s.tm s.sky s.pending) :=
  ⟨h.regs, h.shadow, h.cnts, h.tot, h.hold, h.pairs, h.now, vac hm (n := 7) (by decide), h.out, vac hm (n := 9) (by
      decide), h.ctl, h.host, h.hlt, h.pwr, vac hm (n := 14) (by decide), h.cls, h.time, h.tbl, h.leaf, h.xbar,
      h.buf, h.tm, h.sky, h.pending⟩

theorem kept_up24576 {T : Touch} {s0 s : State} {x_pwr : PwrSt} {x_nvm : NvmSt} (hm : 24576 &&& T.a = 24576) (h :
    Kept T s0 s) :
    Kept T s0 (State.mk s.regs s.shadow s.cnts s.tot s.hold s.pairs s.now s.free s.out s.sys s.ctl s.host s.hlt x_pwr
        x_nvm s.cls s.time s.tbl s.leaf s.xbar s.buf s.tm s.sky s.pending) :=
  ⟨h.regs, h.shadow, h.cnts, h.tot, h.hold, h.pairs, h.now, h.free, h.out, h.sys, h.ctl, h.host, h.hlt, vac hm (n :=
      13) (by decide), vac hm (n := 14) (by decide), h.cls, h.time, h.tbl, h.leaf, h.xbar, h.buf, h.tm, h.sky,
      h.pending⟩

theorem kept_up25600 {T : Touch} {s0 s : State} {x_ctl : CtlSt} {x_pwr : PwrSt} {x_nvm : NvmSt} (hm : 25600 &&& T.a =
    25600) (h : Kept T s0 s) :
    Kept T s0 (State.mk s.regs s.shadow s.cnts s.tot s.hold s.pairs s.now s.free s.out s.sys x_ctl s.host s.hlt x_pwr
        x_nvm s.cls s.time s.tbl s.leaf s.xbar s.buf s.tm s.sky s.pending) :=
  ⟨h.regs, h.shadow, h.cnts, h.tot, h.hold, h.pairs, h.now, h.free, h.out, h.sys, vac hm (n := 10) (by decide),
      h.host, h.hlt, vac hm (n := 13) (by decide), vac hm (n := 14) (by decide), h.cls, h.time, h.tbl, h.leaf,
      h.xbar, h.buf, h.tm, h.sky, h.pending⟩

theorem kept_up26165 {T : Touch} {s0 s : State} {x_regs : SMap Word} {x_cnts : SMap DWord} {x_hold : SMap DWord}
    {x_pairs : SMap Word} {x_sys : SysSt} {x_ctl : CtlSt} {x_pwr : PwrSt} {x_nvm : NvmSt} (hm : 26165 &&& T.a =
    26165) (h : Kept T s0 s) :
    Kept T s0 (State.mk x_regs s.shadow x_cnts s.tot x_hold x_pairs s.now s.free s.out x_sys x_ctl s.host s.hlt x_pwr
        x_nvm s.cls s.time s.tbl s.leaf s.xbar s.buf s.tm s.sky s.pending) :=
  ⟨vac hm (n := 0) (by decide), h.shadow, vac hm (n := 2) (by decide), h.tot, vac hm (n := 4) (by decide), vac hm (n
      := 5) (by decide), h.now, h.free, h.out, vac hm (n := 9) (by decide), vac hm (n := 10) (by decide), h.host,
      h.hlt, vac hm (n := 13) (by decide), vac hm (n := 14) (by decide), h.cls, h.time, h.tbl, h.leaf, h.xbar, h.buf,
      h.tm, h.sky, h.pending⟩

theorem kept_up28680 {T : Touch} {s0 s : State} {x_tot : SMap Nat} {x_hlt : HltSt} {x_pwr : PwrSt} {x_nvm : NvmSt}
    (hm : 28680 &&& T.a = 28680) (h : Kept T s0 s) :
    Kept T s0 (State.mk s.regs s.shadow s.cnts x_tot s.hold s.pairs s.now s.free s.out s.sys s.ctl s.host x_hlt x_pwr
        x_nvm s.cls s.time s.tbl s.leaf s.xbar s.buf s.tm s.sky s.pending) :=
  ⟨h.regs, h.shadow, h.cnts, vac hm (n := 3) (by decide), h.hold, h.pairs, h.now, h.free, h.out, h.sys, h.ctl,
      h.host, vac hm (n := 12) (by decide), vac hm (n := 13) (by decide), vac hm (n := 14) (by decide), h.cls,
      h.time, h.tbl, h.leaf, h.xbar, h.buf, h.tm, h.sky, h.pending⟩

theorem kept_up32768 {T : Touch} {s0 s : State} {x_cls : ClsSt} (hm : 32768 &&& T.a = 32768) (h : Kept T s0 s) :
    Kept T s0 (State.mk s.regs s.shadow s.cnts s.tot s.hold s.pairs s.now s.free s.out s.sys s.ctl s.host s.hlt s.pwr
        s.nvm x_cls s.time s.tbl s.leaf s.xbar s.buf s.tm s.sky s.pending) :=
  ⟨h.regs, h.shadow, h.cnts, h.tot, h.hold, h.pairs, h.now, h.free, h.out, h.sys, h.ctl, h.host, h.hlt, h.pwr, h.nvm,
      vac hm (n := 15) (by decide), h.time, h.tbl, h.leaf, h.xbar, h.buf, h.tm, h.sky, h.pending⟩

theorem kept_up65536 {T : Touch} {s0 s : State} {x_time : TimeSt} (hm : 65536 &&& T.a = 65536) (h : Kept T s0 s) :
    Kept T s0 (State.mk s.regs s.shadow s.cnts s.tot s.hold s.pairs s.now s.free s.out s.sys s.ctl s.host s.hlt s.pwr
        s.nvm s.cls x_time s.tbl s.leaf s.xbar s.buf s.tm s.sky s.pending) :=
  ⟨h.regs, h.shadow, h.cnts, h.tot, h.hold, h.pairs, h.now, h.free, h.out, h.sys, h.ctl, h.host, h.hlt, h.pwr, h.nvm,
      h.cls, vac hm (n := 16) (by decide), h.tbl, h.leaf, h.xbar, h.buf, h.tm, h.sky, h.pending⟩

theorem kept_up131072 {T : Touch} {s0 s : State} {x_tbl : TblSt} (hm : 131072 &&& T.a = 131072) (h : Kept T s0 s) :
    Kept T s0 (State.mk s.regs s.shadow s.cnts s.tot s.hold s.pairs s.now s.free s.out s.sys s.ctl s.host s.hlt s.pwr
        s.nvm s.cls s.time x_tbl s.leaf s.xbar s.buf s.tm s.sky s.pending) :=
  ⟨h.regs, h.shadow, h.cnts, h.tot, h.hold, h.pairs, h.now, h.free, h.out, h.sys, h.ctl, h.host, h.hlt, h.pwr, h.nvm,
      h.cls, h.time, vac hm (n := 17) (by decide), h.leaf, h.xbar, h.buf, h.tm, h.sky, h.pending⟩

theorem kept_up262144 {T : Touch} {s0 s : State} {x_leaf : LeafSt} (hm : 262144 &&& T.a = 262144) (h : Kept T s0 s) :
    Kept T s0 (State.mk s.regs s.shadow s.cnts s.tot s.hold s.pairs s.now s.free s.out s.sys s.ctl s.host s.hlt s.pwr
        s.nvm s.cls s.time s.tbl x_leaf s.xbar s.buf s.tm s.sky s.pending) :=
  ⟨h.regs, h.shadow, h.cnts, h.tot, h.hold, h.pairs, h.now, h.free, h.out, h.sys, h.ctl, h.host, h.hlt, h.pwr, h.nvm,
      h.cls, h.time, h.tbl, vac hm (n := 18) (by decide), h.xbar, h.buf, h.tm, h.sky, h.pending⟩

theorem kept_up524288 {T : Touch} {s0 s : State} {x_xbar : XbarSt} (hm : 524288 &&& T.a = 524288) (h : Kept T s0 s) :
    Kept T s0 (State.mk s.regs s.shadow s.cnts s.tot s.hold s.pairs s.now s.free s.out s.sys s.ctl s.host s.hlt s.pwr
        s.nvm s.cls s.time s.tbl s.leaf x_xbar s.buf s.tm s.sky s.pending) :=
  ⟨h.regs, h.shadow, h.cnts, h.tot, h.hold, h.pairs, h.now, h.free, h.out, h.sys, h.ctl, h.host, h.hlt, h.pwr, h.nvm,
      h.cls, h.time, h.tbl, h.leaf, vac hm (n := 19) (by decide), h.buf, h.tm, h.sky, h.pending⟩

theorem kept_up1048576 {T : Touch} {s0 s : State} {x_buf : BufSt} (hm : 1048576 &&& T.a = 1048576) (h : Kept T s0 s) :
    Kept T s0 (State.mk s.regs s.shadow s.cnts s.tot s.hold s.pairs s.now s.free s.out s.sys s.ctl s.host s.hlt s.pwr
        s.nvm s.cls s.time s.tbl s.leaf s.xbar x_buf s.tm s.sky s.pending) :=
  ⟨h.regs, h.shadow, h.cnts, h.tot, h.hold, h.pairs, h.now, h.free, h.out, h.sys, h.ctl, h.host, h.hlt, h.pwr, h.nvm,
      h.cls, h.time, h.tbl, h.leaf, h.xbar, vac hm (n := 20) (by decide), h.tm, h.sky, h.pending⟩

theorem kept_up2097152 {T : Touch} {s0 s : State} {x_tm : TmSt} (hm : 2097152 &&& T.a = 2097152) (h : Kept T s0 s) :
    Kept T s0 (State.mk s.regs s.shadow s.cnts s.tot s.hold s.pairs s.now s.free s.out s.sys s.ctl s.host s.hlt s.pwr
        s.nvm s.cls s.time s.tbl s.leaf s.xbar s.buf x_tm s.sky s.pending) :=
  ⟨h.regs, h.shadow, h.cnts, h.tot, h.hold, h.pairs, h.now, h.free, h.out, h.sys, h.ctl, h.host, h.hlt, h.pwr, h.nvm,
      h.cls, h.time, h.tbl, h.leaf, h.xbar, h.buf, vac hm (n := 21) (by decide), h.sky, h.pending⟩

theorem kept_up4194304 {T : Touch} {s0 s : State} {x_sky : SkySt} (hm : 4194304 &&& T.a = 4194304) (h : Kept T s0 s) :
    Kept T s0 (State.mk s.regs s.shadow s.cnts s.tot s.hold s.pairs s.now s.free s.out s.sys s.ctl s.host s.hlt s.pwr
        s.nvm s.cls s.time s.tbl s.leaf s.xbar s.buf s.tm x_sky s.pending) :=
  ⟨h.regs, h.shadow, h.cnts, h.tot, h.hold, h.pairs, h.now, h.free, h.out, h.sys, h.ctl, h.host, h.hlt, h.pwr, h.nvm,
      h.cls, h.time, h.tbl, h.leaf, h.xbar, h.buf, h.tm, vac hm (n := 22) (by decide), h.pending⟩

theorem kept_up4202496 {T : Touch} {s0 s : State} {x_pwr : PwrSt} {x_sky : SkySt} (hm : 4202496 &&& T.a = 4202496) (h
    : Kept T s0 s) :
    Kept T s0 (State.mk s.regs s.shadow s.cnts s.tot s.hold s.pairs s.now s.free s.out s.sys s.ctl s.host s.hlt x_pwr
        s.nvm s.cls s.time s.tbl s.leaf s.xbar s.buf s.tm x_sky s.pending) :=
  ⟨h.regs, h.shadow, h.cnts, h.tot, h.hold, h.pairs, h.now, h.free, h.out, h.sys, h.ctl, h.host, h.hlt, vac hm (n :=
      13) (by decide), h.nvm, h.cls, h.time, h.tbl, h.leaf, h.xbar, h.buf, h.tm, vac hm (n := 22) (by decide),
      h.pending⟩

theorem kept_up4259840 {T : Touch} {s0 s : State} {x_time : TimeSt} {x_sky : SkySt} (hm : 4259840 &&& T.a = 4259840)
    (h : Kept T s0 s) :
    Kept T s0 (State.mk s.regs s.shadow s.cnts s.tot s.hold s.pairs s.now s.free s.out s.sys s.ctl s.host s.hlt s.pwr
        s.nvm s.cls x_time s.tbl s.leaf s.xbar s.buf s.tm x_sky s.pending) :=
  ⟨h.regs, h.shadow, h.cnts, h.tot, h.hold, h.pairs, h.now, h.free, h.out, h.sys, h.ctl, h.host, h.hlt, h.pwr, h.nvm,
      h.cls, vac hm (n := 16) (by decide), h.tbl, h.leaf, h.xbar, h.buf, h.tm, vac hm (n := 22) (by decide),
      h.pending⟩

theorem kept_up4259904 {T : Touch} {s0 s : State} {x_now : Nat} {x_time : TimeSt} {x_sky : SkySt} (hm : 4259904 &&&
    T.a = 4259904) (h : Kept T s0 s) :
    Kept T s0 (State.mk s.regs s.shadow s.cnts s.tot s.hold s.pairs x_now s.free s.out s.sys s.ctl s.host s.hlt s.pwr
        s.nvm s.cls x_time s.tbl s.leaf s.xbar s.buf s.tm x_sky s.pending) :=
  ⟨h.regs, h.shadow, h.cnts, h.tot, h.hold, h.pairs, vac hm (n := 6) (by decide), h.free, h.out, h.sys, h.ctl,
      h.host, h.hlt, h.pwr, h.nvm, h.cls, vac hm (n := 16) (by decide), h.tbl, h.leaf, h.xbar, h.buf, h.tm, vac hm (n
      := 22) (by decide), h.pending⟩

theorem kept_up8371767 {T : Touch} {s0 s : State} {x_regs : SMap Word} {x_shadow : SMap Word} {x_cnts : SMap DWord}
    {x_hold : SMap DWord} {x_pairs : SMap Word} {x_sys : SysSt} {x_ctl : CtlSt} {x_host : HostSt} {x_hlt : HltSt}
    {x_pwr : PwrSt} {x_cls : ClsSt} {x_time : TimeSt} {x_tbl : TblSt} {x_leaf : LeafSt} {x_xbar : XbarSt} {x_buf :
    BufSt} {x_tm : TmSt} {x_sky : SkySt} (hm : 8371767 &&& T.a = 8371767) (h : Kept T s0 s) :
    Kept T s0 (State.mk x_regs x_shadow x_cnts s.tot x_hold x_pairs s.now s.free s.out x_sys x_ctl x_host x_hlt x_pwr
        s.nvm x_cls x_time x_tbl x_leaf x_xbar x_buf x_tm x_sky s.pending) :=
  ⟨vac hm (n := 0) (by decide), vac hm (n := 1) (by decide), vac hm (n := 2) (by decide), h.tot, vac hm (n := 4) (by
      decide), vac hm (n := 5) (by decide), h.now, h.free, h.out, vac hm (n := 9) (by decide), vac hm (n := 10) (by
      decide), vac hm (n := 11) (by decide), vac hm (n := 12) (by decide), vac hm (n := 13) (by decide), h.nvm, vac
      hm (n := 15) (by decide), vac hm (n := 16) (by decide), vac hm (n := 17) (by decide), vac hm (n := 18) (by
      decide), vac hm (n := 19) (by decide), vac hm (n := 20) (by decide), vac hm (n := 21) (by decide), vac hm (n :=
      22) (by decide), h.pending⟩

theorem kept_up8388608 {T : Touch} {s0 s : State} {x_pending : List Instr} (hm : 8388608 &&& T.a = 8388608) (h : Kept
    T s0 s) :
    Kept T s0 (State.mk s.regs s.shadow s.cnts s.tot s.hold s.pairs s.now s.free s.out s.sys s.ctl s.host s.hlt s.pwr
        s.nvm s.cls s.time s.tbl s.leaf s.xbar s.buf s.tm s.sky x_pending) :=
  ⟨h.regs, h.shadow, h.cnts, h.tot, h.hold, h.pairs, h.now, h.free, h.out, h.sys, h.ctl, h.host, h.hlt, h.pwr, h.nvm,
      h.cls, h.time, h.tbl, h.leaf, h.xbar, h.buf, h.tm, h.sky, vac hm (n := 23) (by decide)⟩

/-! ### Counters and registers chosen by a cause -/

theorem hasC_DropCause_cnt {T : Touch} (_h0 : T.hasC .PARSE_RULE_DROP_CNT) (_h1 : T.hasC .TBL_LAG_EMPTY_DROP_CNT)
    (_h2 : T.hasC .TBL_PARITY_DROP_CNT) (_h3 : T.hasC .TBL_NH_INVALID_DROP_CNT) (_h4 : T.hasC .TBL_NH_DROP_CNT) (_h5
    : T.hasC .TBL_TTL_EXPIRE_CNT) (_h6 : T.hasC .TBL_ECMP_EMPTY_DROP_CNT) (_h7 : T.hasC .TBL_L2_MISS_DROP_CNT) (_h8 :
    T.hasC .TBL_L3_MISS_DROP_CNT) (_h9 : T.hasC .TBL_MAC_DROP_CNT) : ∀ a0, T.hasC (DropCause.cnt a0) := by
  intros
  unfold DropCause.cnt
  repeat' split
  all_goals assumption

theorem hasC_SkyBad_cnt {T : Touch} (_h0 : T.hasC .SKY_NO_PEER_DROP_CNT) (_h1 : T.hasC .TM_DEST_LIMIT_DROP_CNT) : ∀
    a0, T.hasC (SkyBad.cnt a0) := by
  intros
  unfold SkyBad.cnt
  repeat' split
  all_goals assumption

theorem hasC_TxBad_cnt {T : Touch} (_h0 : T.hasC .LEAF_TX_INACTIVE_DROP_CNT) (_h1 : T.hasC .LEAF_TX_DOZE_DROP_CNT)
    (_h2 : T.hasC .LEAF_TX_DOWN_DROP_CNT) : ∀ a0, T.hasC (TxBad.cnt a0) := by
  intros
  unfold TxBad.cnt
  repeat' split
  all_goals assumption

theorem hasR_winReg {T : Touch} (_h0 : T.hasR .HOST_WIN_CFG) (_h1 : T.hasR .HOST_WIN_BASE_LO) (_h2 : T.hasR
    .HOST_WIN_BASE_HI) (_h3 : T.hasR .HOST_WIN_XLATE_LO) (_h4 : T.hasR .HOST_WIN_XLATE_HI) : ∀ a0, T.hasR (winReg a0)
    := by
  intros
  unfold winReg
  repeat' split
  all_goals assumption

theorem hasC_RxBad_cnt {T : Touch} (_h0 : T.hasC .LEAF_RX_CODE_ERR_CNT) (_h1 : T.hasC .LEAF_RX_RUNT_CNT) (_h2 :
    T.hasC .LEAF_RX_OVERSIZE_CNT) (_h3 : T.hasC .LEAF_RX_FCS_ERR_CNT) (_h4 : T.hasC .LEAF_RX_TRUNC_CNT) : ∀ a0,
    T.hasC (RxBad.cnt a0) := by
  intros
  unfold RxBad.cnt
  repeat' split
  all_goals assumption

end Sys2Proof.Machine
end

