-- ==== Sys2Proof/Laws/KeptBase.lean ====
section
/-!
SUPPORT. What the operations of these files of Machine leave alone: Ops, Link, Flags, Health, Rules, Edit, Tables, Dma, Issue.
-/
namespace Sys2Proof.Machine

/-! ### Machine/Ops.lean -/

theorem kept_State_countIf {T : Touch} {s0 : State} (hT : Touch.le ⟨0, 0x0, 0x0⟩ T) : ∀ a0 a1 a2 a3 a4, Kept T s0 a0
    → T.hasC a2 →
    Kept T s0 (State.countIf a0 a1 a2 a3 a4) := by
  intro a0 a1 a2 a3 a4 h0 h2
  unfold State.countIf
  exact (ite_holds (P := (Kept T s0)) (kept_State_count _ _ _ _ _ h0 h2) h0)

theorem kept_State_emit {T : Touch} {s0 : State} (hT : Touch.le ⟨256, 0x0, 0x0⟩ T) : ∀ a0 a1, Kept T s0 a0 →
    Kept T s0 (State.emit a0 a1) := by
  intro a0 a1 h0
  unfold State.emit
  exact (kept_up256 (land_le (by decide) hT.1) h0)

theorem kept_State_fresh {T : Touch} {s0 : State} (hT : Touch.le ⟨128, 0x0, 0x0⟩ T) : ∀ a0, Kept T s0 a0 →
    Kept T s0 (State.fresh a0) := by
  intro a0 h0
  unfold State.fresh
  exact (kept_up128 (land_le (by decide) hT.1) h0)

theorem kept_State_led {T : Touch} {s0 : State} (hT : Touch.le ⟨4096, 0x0, 0x0⟩ T) : ∀ a0 a1 a2 a3, Kept T s0 a0 →
    Kept T s0 (State.led a0 a1 a2 a3) := by
  intro a0 a1 a2 a3 h0
  unfold State.led
  exact (kept_up4096 (land_le (by decide) hT.1) h0)

theorem kept_State_setFld {T : Touch} {s0 : State} (hT : Touch.le ⟨0, 0x0, 0x0⟩ T) : ∀ a0 a1 a2 a3 a4, Kept T s0 a0 →
    T.hasR a1.reg →
    Kept T s0 (State.setFld a0 a1 a2 a3 a4) := by
  intro a0 a1 a2 a3 a4 h0 h1
  unfold State.setFld
  exact (kept_State_setReg _ _ _ _ _ h0 h1)

theorem kept_State_setReg64 {T : Touch} {s0 : State} (hT : Touch.le ⟨0, 0x0, 0x0⟩ T) : ∀ a0 a1 a2 a3 a4, Kept T s0 a0
    → T.hasR a1 → T.hasR a2 →
    Kept T s0 (State.setReg64 a0 a1 a2 a3 a4) := by
  intro a0 a1 a2 a3 a4 h0 h1 h2
  unfold State.setReg64
  exact (kept_State_setReg _ _ _ _ _ (kept_State_setReg _ _ _ _ _ h0 h1) h2)

theorem kept_State_setShad {T : Touch} {s0 : State} (hT : Touch.le ⟨2, 0x0, 0x0⟩ T) : ∀ a0 a1 a2 a3 a4, Kept T s0 a0
    → T.hasR a1 →
    Kept T s0 (State.setShad a0 a1 a2 a3 a4) := by
  intro a0 a1 a2 a3 a4 h0 h1
  unfold State.setShad
  exact (kept_up2 (land_le (by decide) hT.1) h0)

theorem kept_running {T : Touch} {s0 : State} (hT : Touch.le ⟨0, 0x0, 0x0⟩ T) : ∀ a0 a1, (∀ z0, Kept T s0 z0 → Kept T
    s0 (a0 z0)) → Kept T s0 a1 →
    Kept T s0 (running a0 a1) := by
  intro a0 a1 h0 h1
  unfold running
  refine ite_holds (P := (Kept T s0)) ?_ ?_
  · exact h1
  · refine h0 _ h1

theorem kept_admitting {T : Touch} {s0 : State} (hT : Touch.le ⟨0, 0x0, 0x0⟩ T) : ∀ a0 a1, (∀ z0, Kept T s0 z0 → Kept
    T s0 (a0 z0)) → Kept T s0 a1 →
    Kept T s0 (admitting a0 a1) := by
  intro a0 a1 h0 h1
  unfold admitting
  refine ite_holds (P := (Kept T s0)) ?_ ?_
  · exact h1
  · refine kept_running (tr (by decide) hT) _ _ ?_ h1
    · intro y0 hy0
      refine h0 _ hy0

/-! ### Machine/Link.lean -/

theorem kept_setVc {T : Touch} {s0 : State} (hT : Touch.le ⟨1024, 0x0, 0x0⟩ T) : ∀ a0 a1 a2 a3, Kept T s0 a3 →
    Kept T s0 (setVc a0 a1 a2 a3) := by
  intro a0 a1 a2 a3 h3
  unfold setVc
  exact (kept_up1024 (land_le (by decide) hT.1) h3)

theorem kept_idlSend {T : Touch} {s0 : State} (hT : Touch.le ⟨1024, 0x0, 0x0⟩ T) : ∀ a0 a1 a2 a3 a4, Kept T s0 a4 →
    Kept T s0 (idlSend a0 a1 a2 a3 a4) := by
  intro a0 a1 a2 a3 a4 h4
  unfold idlSend
  exact (ite_holds (P := (Kept T s0)) h4 (kept_setVc (tr (by decide) hT) _ _ _ _ h4))

theorem kept_sendFlit {T : Touch} {s0 : State} (hT : Touch.le ⟨1024, 0x0,
    0x300000000000000000000000000000000000000000000000000⟩ T) : ∀ a0 a1 a2, Kept T s0 a2 →
    Kept T s0 (sendFlit a0 a1 a2) := by
  intro a0 a1 a2 h2
  unfold sendFlit
  extract_lets +onlyGivenNames -merge x0
  split
  · exact h2
  · extract_lets +onlyGivenNames -merge x6
    have hx6 : Kept T s0 x6 := (kept_setVc (tr (by decide) hT) _ _ _ _ h2)
    clear_value x6
    exact (kept_idlSend (tr (by decide) hT) _ _ _ _ _ (kept_State_count _ _ _ _ _ hx6 (ite_holds (P := Touch.hasC T)
        (hasC_of ixC_IDL_TX_FLIT_CNT (by decide) hT) (hasC_of ixC_IDL_RX_FLIT_CNT (by decide) hT))))

theorem kept_idlFlit {T : Touch} {s0 : State} (hT : Touch.le ⟨1024, 0x0,
    0x300000000000000000000000000000000000000000000000000⟩ T) : ∀ a0 a1, Kept T s0 a1 →
    Kept T s0 (idlFlit a0 a1) := by
  intro a0 a1 h1
  unfold idlFlit
  extract_lets +onlyGivenNames -merge x0
  split
  · extract_lets +onlyGivenNames -merge x4
    extract_lets +onlyGivenNames -merge x5
    have hx5 : Kept T s0 x5 := (kept_up1024 (land_le (by decide) hT.1) h1)
    clear_value x5
    split
    · exact (kept_sendFlit (tr (by decide) hT) _ _ _ hx5)
    · exact hx5

theorem kept_idlClock {T : Touch} {s0 : State} (hT : Touch.le ⟨1024, 0x0,
    0x300000000000000000000000000000000000000000000000000⟩ T) : ∀ a0, Kept T s0 a0 →
    Kept T s0 (idlClock a0) := by
  intro a0 h0
  unfold idlClock
  refine ite_holds (P := (Kept T s0)) ?_ ?_
  · extract_lets +onlyGivenNames -merge x0
    extract_lets +onlyGivenNames -merge x1
    have hx1 : Kept T s0 x1 := (foldl_holds (P := (Kept T s0)) (fun _ _ hm2 => (kept_setVc (tr (by decide) hT) _ _ _
        _ hm2)) h0)
    clear_value x1
    exact (ite_holds (P := (Kept T s0)) (kept_idlFlit (tr (by decide) hT) _ _ (kept_idlFlit (tr (by decide) hT) _ _
        hx1)) hx1)
  · exact h0

/-! ### Machine/Flags.lean -/

theorem kept_logEntry {T : Touch} {s0 : State} (hT : Touch.le ⟨4096, 0x0, 0x0⟩ T) : ∀ a0 a1, Kept T s0 a1 →
    Kept T s0 (logEntry a0 a1) := by
  intro a0 a1 h1
  unfold logEntry
  exact (kept_up4096 (land_le (by decide) hT.1) h1)

theorem kept_offer {T : Touch} {s0 : State} (hT : Touch.le ⟨6144, 0x0, 0x0⟩ T) : ∀ a0 a1, Kept T s0 a1 →
    Kept T s0 (offer a0 a1) := by
  intro a0 a1 h1
  unfold offer
  extract_lets +onlyGivenNames -merge x0
  extract_lets +onlyGivenNames -merge x1
  have hx1 : Kept T s0 x1 := (kept_up2048 (land_le (by decide) hT.1) h1)
  clear_value x1
  exact (foldl_holds (P := (Kept T s0)) (fun _ _ hm2 => (ite_holds (P := (Kept T s0)) (kept_logEntry (tr (by decide)
      hT) _ _ hm2) hm2)) hx1)

theorem kept_fault {T : Touch} {s0 : State} (hT : Touch.le ⟨6144, 0x0, 0x0⟩ T) : ∀ a0 a1 a2 a3 a4, Kept T s0 a4 →
    Kept T s0 (fault a0 a1 a2 a3 a4) := by
  intro a0 a1 a2 a3 a4 h4
  unfold fault
  exact (kept_offer (tr (by decide) hT) _ _ h4)

theorem kept_sendMsix {T : Touch} {s0 : State} (hT : Touch.le ⟨1280, 0x0, 0x0⟩ T) : ∀ a0 a1, Kept T s0 a1 →
    Kept T s0 (sendMsix a0 a1) := by
  intro a0 a1 h1
  unfold sendMsix
  extract_lets +onlyGivenNames -merge x0
  exact (ite_holds (P := (Kept T s0)) (kept_State_emit (tr (by decide) hT) _ _ h1) (kept_up1024 (land_le (by decide)
      hT.1) h1))

theorem kept_newInt {T : Touch} {s0 : State} (hT : Touch.le ⟨1280, 0x0, 0x0⟩ T) : ∀ a0 a1, Kept T s0 a1 →
    Kept T s0 (newInt a0 a1) := by
  intro a0 a1 h1
  unfold newInt
  exact (ite_holds (P := (Kept T s0)) (kept_sendMsix (tr (by decide) hT) _ _ h1) h1)

theorem kept_noteInt {T : Touch} {s0 : State} (hT : Touch.le ⟨1024, 0x0, 0x0⟩ T) : ∀ a0 a1 a2, Kept T s0 a2 →
    Kept T s0 (noteInt a0 a1 a2) := by
  intro a0 a1 a2 h2
  unfold noteInt
  exact (kept_up1024 (land_le (by decide) hT.1) h2)

theorem kept_takeInt {T : Touch} {s0 : State} (hT : Touch.le ⟨1280, 0x4000000000000000000000000000000000000000000000,
    0x4000000000000000000000000000000000000000000000000⟩ T) : ∀ a0 a1, Kept T s0 a1 →
    Kept T s0 (takeInt a0 a1) := by
  intro a0 a1 h1
  unfold takeInt
  extract_lets +onlyGivenNames -merge x0
  exact (ite_holds (P := (Kept T s0)) (kept_State_count _ _ _ _ _ (kept_noteInt (tr (by decide) hT) _ _ _ h1)
      (hasC_of ixC_CTL_INT_MERGE_CNT (by decide) hT)) (kept_newInt (tr (by decide) hT) _ _ (kept_State_setReg _ _ _ _
      _ (kept_noteInt (tr (by decide) hT) _ _ _ h1) (hasR_of ixR_CTL_INT_PEND (by decide) hT))))

theorem kept_raiseVec {T : Touch} {s0 : State} (hT : Touch.le ⟨1280,
    0x4000000000000000000000000000000000000000000000, 0x4000000000000000000000000000000000000000000000000⟩ T) : ∀ a0
    a1, Kept T s0 a1 →
    Kept T s0 (raiseVec a0 a1) := by
  intro a0 a1 h1
  unfold raiseVec
  exact (ite_holds (P := (Kept T s0)) (kept_takeInt (tr (by decide) hT) _ _ (kept_idlSend (tr (by decide) hT) _ _ _ _
      _ h1)) (kept_up1024 (land_le (by decide) hT.1) h1))

theorem kept_keeperEvent {T : Touch} {s0 : State} (hT : Touch.le ⟨4096, 0x0, 0x0⟩ T) : ∀ a0 a1 a2 a3, Kept T s0 a1 →
    Kept T s0 (keeperEvent a0 a1 a2 a3) := by
  intro a0 a1 a2 a3 h1
  unfold keeperEvent
  exact (kept_logEntry (tr (by decide) hT) _ _ h1)

theorem kept_showFault {T : Touch} {s0 : State} (hT : Touch.le ⟨0,
    0x600000000000000000000000000000000000000000000000000000, 0x0⟩ T) : ∀ a0 a1, Kept T s0 a1 →
    Kept T s0 (showFault a0 a1) := by
  intro a0 a1 h1
  unfold showFault
  exact (kept_State_setReg _ _ _ _ _ (kept_State_setReg _ _ _ _ _ h1 (hasR_of ixR_SYS_ACCESS_FAULT (by decide) hT))
      (hasR_of ixR_SYS_ACCESS_FAULT_ADDR (by decide) hT))

theorem kept_recordFault {T : Touch} {s0 : State} (hT : Touch.le ⟨512,
    0x600000000000000000000000000000000000000000000000000000, 0x800000000000000000000000000000000000000000000000⟩ T)
    : ∀ a0 a1, Kept T s0 a1 →
    Kept T s0 (recordFault a0 a1) := by
  intro a0 a1 h1
  unfold recordFault
  extract_lets +onlyGivenNames -merge x0
  have hx0 : Kept T s0 x0 := (kept_State_count _ _ _ _ _ h1 (hasC_of ixC_SYS_ACCESS_FAULT_CNT (by decide) hT))
  clear_value x0
  extract_lets +onlyGivenNames -merge x1
  split
  · extract_lets +onlyGivenNames -merge x5
    extract_lets +onlyGivenNames -merge x6
    have hx6 : Kept T s0 x6 := (kept_up512 (land_le (by decide) hT.1) hx0)
    clear_value x6
    exact (ite_holds (P := (Kept T s0)) (kept_showFault (tr (by decide) hT) _ _ hx6) hx6)

theorem kept_logWrite {T : Touch} {s0 : State} (hT : Touch.le ⟨512,
    0x600000000000000000000000000000000000000000000000000000, 0x800000000000000000000000000000000000000000000000⟩ T)
    : ∀ a0 a1 a2, Kept T s0 a2 →
    Kept T s0 (logWrite a0 a1 a2) := by
  intro a0 a1 a2 h2
  unfold logWrite
  exact (kept_recordFault (tr (by decide) hT) _ _ h2)

theorem kept_raiseNear {T : Touch} {s0 : State} (hT : Touch.le ⟨1280,
    0x4000000000000000000000000000000000000000000000, 0x4000000000000000000000000000000000000000000000000⟩ T) : ∀ a0
    a1, Kept T s0 a1 →
    Kept T s0 (raiseNear a0 a1) := by
  intro a0 a1 h1
  unfold raiseNear
  exact (kept_takeInt (tr (by decide) hT) _ _ h1)

theorem kept_clearFault {T : Touch} {s0 : State} (hT : Touch.le ⟨512,
    0x600000000000000000000000000000000000000000000000000000, 0x0⟩ T) : ∀ a0, Kept T s0 a0 →
    Kept T s0 (clearFault a0) := by
  intro a0 h0
  unfold clearFault
  split
  · exact (kept_showFault (tr (by decide) hT) _ _ (kept_up512 (land_le (by decide) hT.1) h0))
  · exact (kept_State_setReg _ _ _ _ _ (kept_State_setReg _ _ _ _ _ h0 (hasR_of ixR_SYS_ACCESS_FAULT (by decide) hT))
      (hasR_of ixR_SYS_ACCESS_FAULT_ADDR (by decide) hT))

theorem kept_logNear {T : Touch} {s0 : State} (hT : Touch.le ⟨1536,
    0x600000000000000000000000000000000000000000000000000000, 0x800000000000000000000000000000000000000000000000⟩ T)
    : ∀ a0 a1, Kept T s0 a1 →
    Kept T s0 (logNear a0 a1) := by
  intro a0 a1 h1
  unfold logNear
  exact (ite_holds (P := (Kept T s0)) (kept_recordFault (tr (by decide) hT) _ _ (kept_idlSend (tr (by decide) hT) _ _
      _ _ _ h1)) (ite_holds (P := (Kept T s0)) (kept_up1024 (land_le (by decide) hT.1) h1) (kept_up1024 (land_le (by
      decide) hT.1) h1)))

/-! ### Machine/Health.lean -/

theorem kept_excuse {T : Touch} {s0 : State} (hT : Touch.le ⟨4096, 0x80000000000000000000000000000000000000000000,
    0x0⟩ T) : ∀ a0 a1, Kept T s0 a1 →
    Kept T s0 (excuse a0 a1) := by
  intro a0 a1 h1
  unfold excuse
  refine ite_holds (P := (Kept T s0)) ?_ ?_
  · exact h1
  · extract_lets +onlyGivenNames -merge x0
    extract_lets +onlyGivenNames -merge x1
    extract_lets +onlyGivenNames -merge x2
    have hx2 : Kept T s0 x2 := (kept_up4096 (land_le (by decide) hT.1) h1)
    clear_value x2
    exact (kept_State_setFld (tr (by decide) hT) _ _ _ _ _ hx2 (hasR_of ixR_HLT_LEDGER_STATUS (by decide) hT))

theorem kept_setWin {T : Touch} {s0 : State} (hT : Touch.le ⟨4096, 0x0, 0x0⟩ T) : ∀ a0 a1 a2 a3, Kept T s0 a3 →
    Kept T s0 (setWin a0 a1 a2 a3) := by
  intro a0 a1 a2 a3 h3
  unfold setWin
  exact (kept_up4096 (land_le (by decide) hT.1) h3)

theorem kept_memRecord {T : Touch} {s0 : State} (hT : Touch.le ⟨6144, 0x0,
    0x100000000000000000000000000000000000000000000000⟩ T) : ∀ a0 a1 a2 a3 a4, Kept T s0 a4 →
    Kept T s0 (memRecord a0 a1 a2 a3 a4) := by
  intro a0 a1 a2 a3 a4 h4
  unfold memRecord
  extract_lets +onlyGivenNames -merge x0
  exact (ite_holds (P := (Kept T s0)) (kept_State_count _ _ _ _ _ h4 (hasC_of ixC_HLT_RECORD_SUPPRESS_CNT (by decide)
      hT)) (kept_fault (tr (by decide) hT) _ _ _ _ _ (kept_setWin (tr (by decide) hT) _ _ _ _ h4)))

theorem kept_showLasting {T : Touch} {s0 : State} (hT : Touch.le ⟨0, 0x600000000000000000000000000000000000000000000,
    0x0⟩ T) : ∀ a0 a1, Kept T s0 a1 →
    Kept T s0 (showLasting a0 a1) := by
  intro a0 a1 h1
  unfold showLasting
  extract_lets +onlyGivenNames -merge x0
  extract_lets +onlyGivenNames -merge x1
  extract_lets +onlyGivenNames -merge x2
  subst x2
  beta_reduce
  extract_lets +onlyGivenNames -merge x3
  extract_lets +onlyGivenNames -merge x4
  have hx4 : Kept T s0 x4 := (kept_State_setReg _ _ _ _ _ h1 (hasR_of ixR_HLT_WIN_STATUS (by decide) hT))
  clear_value x4
  exact (ite_holds (P := (Kept T s0)) (foldl_holds (P := (Kept T s0)) (fun _ _ hm5 => (kept_State_setReg _ _ _ _ _
      hm5 (hasR_of ixR_HLT_WIN_LANES (by decide) hT))) hx4) hx4)

theorem kept_winEvent {T : Touch} {s0 : State} (hT : Touch.le ⟨4096, 0x600000000000000000000000000000000000000000000,
    0x400000000000000000000000000000000000000000000000⟩ T) : ∀ a0 a1 a2, Kept T s0 a2 →
    Fst (Kept T s0) (winEvent a0 a1 a2) := by
  intro a0 a1 a2 h2
  unfold winEvent
  extract_lets +onlyGivenNames -merge x0
  extract_lets +onlyGivenNames -merge x1
  extract_lets +onlyGivenNames -merge x2
  extract_lets +onlyGivenNames -merge x3
  have hx3 : Kept T s0 x3 := (kept_setWin (tr (by decide) hT) _ _ _ _ h2)
  clear_value x3
  refine ite_holds (P := (Fst (Kept T s0))) ?_ ?_
  · refine fst_holds (P := (Kept T s0)) ?_
    exact (kept_showLasting (tr (by decide) hT) _ _ (kept_keeperEvent (tr (by decide) hT) _ _ _ _ (kept_State_count _
        _ _ _ _ hx3 (hasC_of ixC_HLT_LASTING_CNT (by decide) hT))))
  · refine fst_holds (P := (Kept T s0)) ?_
    exact hx3

theorem kept_memError {T : Touch} {s0 : State} (hT : Touch.le ⟨6144, 0x680000000000000000000000000000000000000000000,
    0x500000000000000000000000000000000000000000000000⟩ T) : ∀ a0 a1 a2 a3 a4 a5, Kept T s0 a5 →
    Fst (Kept T s0) (memError a0 a1 a2 a3 a4 a5) := by
  intro a0 a1 a2 a3 a4 a5 h5
  unfold memError
  split
  · rename_i v0 v1 heq2
    have hv0 : Kept T s0 v0 := holds_eq (P := (Fst (Kept T s0))) heq2 (by
        exact (kept_winEvent (tr (by decide) hT) _ _ _ h5))
    refine fst_holds (P := (Kept T s0)) ?_
    exact (ite_holds (P := (Kept T s0)) (kept_excuse (tr (by decide) hT) _ _ (kept_memRecord (tr (by decide) hT) _ _
        _ _ _ hv0)) hv0)

theorem kept_memReport {T : Touch} {s0 : State} (hT : Touch.le ⟨6144,
    0x680000000000000000000000000000000000000000000, 0x500000000000000000000000000000000000000000000000⟩ T) : ∀ a0 a1
    a2 a3 a4 a5, Kept T s0 a5 →
    Kept T s0 (memReport a0 a1 a2 a3 a4 a5) := by
  intro a0 a1 a2 a3 a4 a5 h5
  unfold memReport
  exact (of_fst (kept_memError (tr (by decide) hT) _ _ _ _ _ _ h5))

theorem kept_hostMemError {T : Touch} {s0 : State} (hT : Touch.le ⟨6144,
    0x680000000000000000000000000000000000000000000, 0x30500000000000000000000000000000000000000000000000⟩ T) : ∀ a0
    a1 a2, Kept T s0 a2 →
    Kept T s0 (hostMemError a0 a1 a2) := by
  intro a0 a1 a2 h2
  unfold hostMemError
  exact (ite_holds (P := (Kept T s0)) (kept_memReport (tr (by decide) hT) _ _ _ _ _ _ (kept_State_count _ _ _ _ _ h2
      (hasC_of ixC_CTL_DRAM_CORR_CNT (by decide) hT))) (kept_memReport (tr (by decide) hT) _ _ _ _ _ _
      (kept_State_count _ _ _ _ _ h2 (hasC_of ixC_CTL_DRAM_UNCORR_CNT (by decide) hT))))

theorem kept_bucketEnd {T : Touch} {s0 : State} (hT : Touch.le ⟨4096,
    0x600000000000000000000000000000000000000000000, 0x0⟩ T) : ∀ a0 a1, Kept T s0 a1 →
    Kept T s0 (bucketEnd a0 a1) := by
  intro a0 a1 h1
  unfold bucketEnd
  extract_lets +onlyGivenNames -merge x0
  subst x0
  beta_reduce
  extract_lets +onlyGivenNames -merge x1
  extract_lets +onlyGivenNames -merge x2
  extract_lets +onlyGivenNames -merge x3
  have hx3 : Kept T s0 x3 := (kept_up4096 (land_le (by decide) hT.1) h1)
  clear_value x3
  exact (kept_showLasting (tr (by decide) hT) _ _ hx3)

theorem kept_ledgerFault {T : Touch} {s0 : State} (hT : Touch.le ⟨6144,
    0x80000000000000000000000000000000000000000000, 0x140000000000000000000000000000000000000000000000⟩ T) : ∀ a0 a1
    a2 a3 a4, Kept T s0 a4 →
    Kept T s0 (ledgerFault a0 a1 a2 a3 a4) := by
  intro a0 a1 a2 a3 a4 h4
  unfold ledgerFault
  extract_lets +onlyGivenNames -merge x0
  extract_lets +onlyGivenNames -merge x1
  have hx1 : Kept T s0 x1 := (kept_State_count _ _ _ _ _ h4 (hasC_of ixC_HLT_LEDGER_FAULT_CNT (by decide) hT))
  clear_value x1
  extract_lets +onlyGivenNames -merge x2
  have hx2 : Kept T s0 x2 := (kept_State_setFld (tr (by decide) hT) _ _ _ _ _ (kept_State_setFld (tr (by decide) hT)
      _ _ _ _ _ hx1 (hasR_of ixR_HLT_LEDGER_STATUS (by decide) hT)) (hasR_of ixR_HLT_LEDGER_STATUS (by decide) hT))
  clear_value x2
  extract_lets +onlyGivenNames -merge x3
  exact (ite_holds (P := (Kept T s0)) (kept_State_count _ _ _ _ _ hx2 (hasC_of ixC_HLT_RECORD_SUPPRESS_CNT (by
      decide) hT)) (kept_fault (tr (by decide) hT) _ _ _ _ _ (kept_up4096 (land_le (by decide) hT.1) hx2)))

theorem kept_windowBucketEnd {T : Touch} {s0 : State} (hT : Touch.le ⟨4096,
    0x600000000000000000000000000000000000000000000, 0x0⟩ T) : ∀ a0 a1, Kept T s0 a1 →
    Kept T s0 (windowBucketEnd a0 a1) := by
  intro a0 a1 h1
  unfold windowBucketEnd
  extract_lets +onlyGivenNames -merge x0
  exact (ite_holds (P := (Kept T s0)) (kept_bucketEnd (tr (by decide) hT) _ _ (kept_up4096 (land_le (by decide) hT.1)
      h1)) h1)

theorem kept_execWindowBucketEnd {T : Touch} {s0 : State} (hT : Touch.le ⟨4096,
    0x600000000000000000000000000000000000000000000, 0x0⟩ T) : ∀ a0 a1, Kept T s0 a1 →
    ResKept T s0 (execWindowBucketEnd a0 a1) := by
  intro a0 a1 h1
  unfold execWindowBucketEnd
  refine next_kept ?_
  exact (kept_windowBucketEnd (tr (by decide) hT) _ _ h1)

/-! ### Machine/Rules.lean -/

theorem kept_flowCount {T : Touch} {s0 : State} (hT : Touch.le ⟨32768, 0x0, 0x0⟩ T) : ∀ a0 a1 a2, Kept T s0 a2 →
    Kept T s0 (flowCount a0 a1 a2) := by
  intro a0 a1 a2 h2
  unfold flowCount
  split
  · exact h2
  · exact (kept_up32768 (land_le (by decide) hT.1) h2)

theorem kept_ruleParity {T : Touch} {s0 : State} (hT : Touch.le ⟨6144,
    0x680000000000000000000000000000000000000000000, 0x500000000000000000000000000000000000000400000000⟩ T) : ∀ a0 a1
    a2, Kept T s0 a2 →
    Kept T s0 (ruleParity a0 a1 a2) := by
  intro a0 a1 a2 h2
  unfold ruleParity
  exact (foldl_holds (P := (Kept T s0)) (fun _ _ hm0 => (kept_memReport (tr (by decide) hT) _ _ _ _ _ _
      (kept_State_count _ _ _ _ _ hm0 (hasC_of ixC_PARSE_RULE_PARITY_CNT (by decide) hT)))) h2)

/-! ### Machine/Edit.lean -/

theorem kept_editCounts {T : Touch} {s0 : State} (hT : Touch.le ⟨6144,
    0x680000000000000000000000000000000000000000000, 0x500000000000000000000000000000000000002800000000⟩ T) : ∀ a0 a1
    a2, Kept T s0 a2 →
    Kept T s0 (editCounts a0 a1 a2) := by
  intro a0 a1 a2 h2
  unfold editCounts
  split
  · exact (kept_State_count _ _ _ _ _ h2 (hasC_of ixC_PARSE_EDIT_SKIP_CNT (by decide) hT))
  · exact (kept_memReport (tr (by decide) hT) _ _ _ _ _ _ (kept_State_count _ _ _ _ _ h2 (hasC_of
      ixC_PARSE_EDIT_PARITY_CNT (by decide) hT)))

/-! ### Machine/Tables.lean -/

theorem kept_setEnt {T : Touch} {s0 : State} (hT : Touch.le ⟨131072, 0x0, 0x0⟩ T) : ∀ a0 a1 a2, Kept T s0 a2 →
    Kept T s0 (setEnt a0 a1 a2) := by
  intro a0 a1 a2 h2
  unfold setEnt
  exact (kept_up131072 (land_le (by decide) hT.1) h2)

theorem kept_slotParity {T : Touch} {s0 : State} (hT : Touch.le ⟨6144,
    0x680000000000000000000000000000000000000000000, 0x500000000000000000000000000000000002000000000000⟩ T) : ∀ a0
    a1, Kept T s0 a1 →
    Kept T s0 (slotParity a0 a1) := by
  intro a0 a1 h1
  unfold slotParity
  exact (foldl_holds (P := (Kept T s0)) (fun _ _ hm0 => (kept_memReport (tr (by decide) hT) _ _ _ _ _ _
      (kept_State_count _ _ _ _ _ hm0 (hasC_of ixC_TBL_PARITY_CNT (by decide) hT)))) h1)

theorem kept_entryParity {T : Touch} {s0 : State} (hT : Touch.le ⟨6144,
    0x680000000000000000000000000000000000000000000, 0x500000000000000000000000000000000002000000000000⟩ T) : ∀ a0
    a1, Kept T s0 a1 →
    Kept T s0 (entryParity a0 a1) := by
  intro a0 a1 h1
  unfold entryParity
  exact (kept_memReport (tr (by decide) hT) _ _ _ _ _ _ (kept_State_count _ _ _ _ _ h1 (hasC_of ixC_TBL_PARITY_CNT
      (by decide) hT)))

theorem kept_selectLag {T : Touch} {s0 : State} (hT : Touch.le ⟨6144,
    0x680000000000000000000000000000000000000000000, 0x500000000000000000000000000000000002000000000000⟩ T) : ∀ a0 a1
    a2, Kept T s0 a2 →
    Snd (Kept T s0) (selectLag a0 a1 a2) := by
  intro a0 a1 a2 h2
  unfold selectLag
  extract_lets +onlyGivenNames -merge x0
  extract_lets +onlyGivenNames -merge x1
  extract_lets +onlyGivenNames -merge x2
  have hx2 : Kept T s0 x2 := (foldl_holds (P := (Kept T s0)) (fun _ _ hm3 => (kept_entryParity (tr (by decide) hT) _
      _ hm3)) h2)
  clear_value x2
  extract_lets +onlyGivenNames -merge x4
  extract_lets +onlyGivenNames -merge x5
  split
  · refine snd_holds (P := (Kept T s0)) ?_
    exact hx2
  · refine snd_holds (P := (Kept T s0)) ?_
    exact hx2

theorem kept_resolveNh {T : Touch} {s0 : State} (hT : Touch.le ⟨6144,
    0x680000000000000000000000000000000000000000000, 0x500000000000000000000000000000000002000000000000⟩ T) : ∀ a0 a1
    a2 a3 a4, Kept T s0 a4 →
    Snd (Kept T s0) (resolveNh a0 a1 a2 a3 a4) := by
  intro a0 a1 a2 a3 a4 h4
  unfold resolveNh
  split
  · refine snd_holds (P := (Kept T s0)) ?_
    exact h4
  · refine ite_holds (P := (Snd (Kept T s0))) ?_ ?_
    · refine snd_holds (P := (Kept T s0)) ?_
      exact (kept_entryParity (tr (by decide) hT) _ _ h4)
    · refine ite_holds (P := (Snd (Kept T s0))) ?_ ?_
      · refine snd_holds (P := (Kept T s0)) ?_
        exact h4
      · refine ite_holds (P := (Snd (Kept T s0))) ?_ ?_
        · refine snd_holds (P := (Kept T s0)) ?_
          exact h4
        · refine ite_holds (P := (Snd (Kept T s0))) ?_ ?_
          · refine snd_holds (P := (Kept T s0)) ?_
            exact h4
          · refine ite_holds (P := (Snd (Kept T s0))) ?_ ?_
            · refine ite_holds (P := (Snd (Kept T s0))) ?_ ?_
              · refine snd_holds (P := (Kept T s0)) ?_
                exact h4
              · refine snd_holds (P := (Kept T s0)) ?_
                exact h4
            · extract_lets +onlyGivenNames -merge x3
              extract_lets +onlyGivenNames -merge x4
              refine ite_holds (P := (Snd (Kept T s0))) ?_ ?_
              · refine snd_holds (P := (Kept T s0)) ?_
                exact h4
              · refine ite_holds (P := (Snd (Kept T s0))) ?_ ?_
                · refine snd_holds (P := (Kept T s0)) ?_
                  exact h4
                · split
                  · rename_i v5 v6 heq7
                    have hv6 : Kept T s0 v6 := holds_eq (P := (Snd (Kept T s0))) heq7 (by
                        exact (kept_selectLag (tr (by decide) hT) _ _ _ h4))
                    refine snd_holds (P := (Kept T s0)) ?_
                    exact hv6

theorem kept_resolveEcmp {T : Touch} {s0 : State} (hT : Touch.le ⟨6144,
    0x680000000000000000000000000000000000000000000, 0x500000000000000000000000000000000002000000000000⟩ T) : ∀ a0 a1
    a2 a3 a4, Kept T s0 a4 →
    Snd (Kept T s0) (resolveEcmp a0 a1 a2 a3 a4) := by
  intro a0 a1 a2 a3 a4 h4
  unfold resolveEcmp
  split
  · refine snd_holds (P := (Kept T s0)) ?_
    exact h4
  · refine ite_holds (P := (Snd (Kept T s0))) ?_ ?_
    · refine snd_holds (P := (Kept T s0)) ?_
      exact (kept_entryParity (tr (by decide) hT) _ _ h4)
    · refine ite_holds (P := (Snd (Kept T s0))) ?_ ?_
      · refine snd_holds (P := (Kept T s0)) ?_
        exact h4
      · extract_lets +onlyGivenNames -merge x3
        extract_lets +onlyGivenNames -merge x4
        split
        · exact (kept_resolveNh (tr (by decide) hT) _ _ _ _ _ h4)
        · refine ite_holds (P := (Snd (Kept T s0))) ?_ ?_
          · refine snd_holds (P := (Kept T s0)) ?_
            exact (kept_entryParity (tr (by decide) hT) _ _ h4)
          · exact (kept_resolveNh (tr (by decide) hT) _ _ _ _ _ h4)

theorem kept_lookupKey {T : Touch} {s0 : State} (hT : Touch.le ⟨6144,
    0x680000000000000000000000000000000000000000000, 0x500000000000000000000000000000000002000000000000⟩ T) : ∀ a0 a1
    a2, Kept T s0 a2 →
    Snd (Kept T s0) (lookupKey a0 a1 a2) := by
  intro a0 a1 a2 h2
  unfold lookupKey
  split
  · refine snd_holds (P := (Kept T s0)) ?_
    exact h2
  · extract_lets +onlyGivenNames -merge x3
    refine snd_holds (P := (Kept T s0)) ?_
    exact (kept_slotParity (tr (by decide) hT) _ _ h2)

theorem kept_l2Miss {T : Touch} {s0 : State} (hT : Touch.le ⟨6144, 0x680000000000000000000000000000000000000000000,
    0x500000000000000000000000000000000002000000000000⟩ T) : ∀ a0 a1, Kept T s0 a1 →
    Snd (Kept T s0) (l2Miss a0 a1) := by
  intro a0 a1 h1
  unfold l2Miss
  split
  · refine snd_holds (P := (Kept T s0)) ?_
    exact h1
  · exact (kept_resolveNh (tr (by decide) hT) _ _ _ _ _ h1)
  · refine snd_holds (P := (Kept T s0)) ?_
    exact h1

theorem kept_lpmProbe {T : Touch} {s0 : State} (hT : Touch.le ⟨6144, 0x680000000000000000000000000000000000000000000,
    0x500000000000000000000000000000000002000000000000⟩ T) : ∀ a0 a1 a2 a3 a4 a5, Kept T s0 a5 →
    Snd (Kept T s0) (lpmProbe a0 a1 a2 a3 a4 a5) := by
  intro bank vrf v6 addr l
  induction l with
  | nil => exact fun s h => h
  | cons n l ih =>
    intro s h
    unfold lpmProbe
    have h1 := kept_lookupKey (tr (by decide) hT) bank (.lpm vrf v6 (maskAddr v6 addr n) n) s h
    split
    · rename_i heq; rw [heq] at h1; exact h1
    · rename_i heq; rw [heq] at h1; exact ih _ h1

theorem kept_lpmLookup {T : Touch} {s0 : State} (hT : Touch.le ⟨6144,
    0x680000000000000000000000000000000000000000000, 0x500000000000000000000000000000000002000000000000⟩ T) : ∀ a0 a1
    a2 a3, Kept T s0 a3 →
    Snd (Kept T s0) (lpmLookup a0 a1 a2 a3) := by
  intro a0 a1 a2 a3 h3
  unfold lpmLookup
  extract_lets +onlyGivenNames -merge x0
  extract_lets +onlyGivenNames -merge x1
  split
  · refine snd_holds (P := (Kept T s0)) ?_
    exact h3
  · refine ite_holds (P := (Snd (Kept T s0))) ?_ ?_
    · refine snd_holds (P := (Kept T s0)) ?_
      exact (kept_entryParity (tr (by decide) hT) _ _ h3)
    · exact (kept_lpmProbe (tr (by decide) hT) _ _ _ _ _ _ h3)

theorem kept_macResult {T : Touch} {s0 : State} (hT : Touch.le ⟨6144,
    0x680000000000000000000000000000000000000000000, 0x500000000000000000000000000000000002000000000000⟩ T) : ∀ a0 a1
    a2, Kept T s0 a2 →
    Snd (Kept T s0) (macResult a0 a1 a2) := by
  intro a0 a1 a2 h2
  unfold macResult
  split
  · refine snd_holds (P := (Kept T s0)) ?_
    exact h2
  · refine snd_holds (P := (Kept T s0)) ?_
    exact h2
  · exact (kept_resolveNh (tr (by decide) hT) _ _ _ _ _ h2)
  · refine snd_holds (P := (Kept T s0)) ?_
    exact h2

theorem kept_routeResult {T : Touch} {s0 : State} (hT : Touch.le ⟨6144,
    0x680000000000000000000000000000000000000000000, 0x500000000000000000000000000000000002000000000000⟩ T) : ∀ a0 a1
    a2 a3, Kept T s0 a3 →
    Snd (Kept T s0) (routeResult a0 a1 a2 a3) := by
  intro a0 a1 a2 a3 h3
  unfold routeResult
  exact (ite_holds (P := (Snd (Kept T s0))) (kept_resolveEcmp (tr (by decide) hT) _ _ _ _ _ h3) (kept_resolveNh (tr
      (by decide) hT) _ _ _ _ _ h3))

theorem kept_tableLookup {T : Touch} {s0 : State} (hT : Touch.le ⟨137216,
    0x680000000000000000000000000000000000000000000, 0x500000000000000000000000000000000002000000000000⟩ T) : ∀ a0 a1
    a2 a3 a4, Kept T s0 a4 →
    Snd (Kept T s0) (tableLookup a0 a1 a2 a3 a4) := by
  intro a0 a1 a2 a3 a4 h4
  unfold tableLookup
  extract_lets +onlyGivenNames -merge x0
  split
  · rename_i v1 v2 heq3
    have hv2 : Kept T s0 v2 := holds_eq (P := (Snd (Kept T s0))) heq3 (by
        exact (kept_lookupKey (tr (by decide) hT) _ _ _ h4))
    split
    · split
      · exact (kept_macResult (tr (by decide) hT) _ _ _ hv2)
      · exact (kept_l2Miss (tr (by decide) hT) _ _ hv2)
    · extract_lets +onlyGivenNames -merge x11
      extract_lets +onlyGivenNames -merge x12
      extract_lets +onlyGivenNames -merge x13
      extract_lets +onlyGivenNames -merge x14
      split
      · rename_i v15 v16 heq17
        have hv16 : Kept T s0 v16 := holds_eq (P := (Snd (Kept T s0))) heq17 (by
            exact (kept_lookupKey (tr (by decide) hT) _ _ _ hv2))
        split
        · exact (kept_routeResult (tr (by decide) hT) _ _ _ _ (kept_setEnt (tr (by decide) hT) _ _ _ hv16))
        · split
          · rename_i v22 v23 heq24
            have hv23 : Kept T s0 v23 := holds_eq (P := (Snd (Kept T s0))) heq24 (by
                exact (kept_lpmLookup (tr (by decide) hT) _ _ _ _ hv16))
            split
            · exact (kept_routeResult (tr (by decide) hT) _ _ _ _ hv23)
            · refine snd_holds (P := (Kept T s0)) ?_
              exact hv23

/-! ### Machine/Dma.lean -/

theorem kept_setIdlPol {T : Touch} {s0 : State} (hT : Touch.le ⟨1024, 0x0, 0x0⟩ T) : ∀ a0 a1 a2, Kept T s0 a2 →
    Kept T s0 (setIdlPol a0 a1 a2) := by
  intro a0 a1 a2 h2
  unfold setIdlPol
  exact (kept_up1024 (land_le (by decide) hT.1) h2)

theorem kept_idlRefresh {T : Touch} {s0 : State} (hT : Touch.le ⟨1024, 0x0, 0x0⟩ T) : ∀ a0 a1, Kept T s0 a1 →
    Kept T s0 (idlRefresh a0 a1) := by
  intro a0 a1 h1
  unfold idlRefresh
  extract_lets +onlyGivenNames -merge x0
  extract_lets +onlyGivenNames -merge x1
  extract_lets +onlyGivenNames -merge x2
  extract_lets +onlyGivenNames -merge x3
  extract_lets +onlyGivenNames -merge x4
  extract_lets +onlyGivenNames -merge x5
  exact (kept_setIdlPol (tr (by decide) hT) _ _ _ h1)

theorem kept_idlRefreshAll {T : Touch} {s0 : State} (hT : Touch.le ⟨1024, 0x0, 0x0⟩ T) : ∀ a0, Kept T s0 a0 →
    Kept T s0 (idlRefreshAll a0) := by
  intro a0 h0
  unfold idlRefreshAll
  exact (ite_holds (P := (Kept T s0)) (foldl_holds (P := (Kept T s0)) (fun _ _ hm0 => (kept_idlRefresh (tr (by
      decide) hT) _ _ hm0)) (kept_up1024 (land_le (by decide) hT.1) h0)) h0)

theorem kept_idlPass {T : Touch} {s0 : State} (hT : Touch.le ⟨1024, 0x0,
    0x400000000000000000000000000000000000000000000000000⟩ T) : ∀ a0 a1 a2, Kept T s0 a2 →
    Snd (Kept T s0) (idlPass a0 a1 a2) := by
  intro a0 a1 a2 h2
  unfold idlPass
  extract_lets +onlyGivenNames -merge x0
  have hx0 : Kept T s0 x0 := (kept_idlRefreshAll (tr (by decide) hT) _ h2)
  clear_value x0
  extract_lets +onlyGivenNames -merge x1
  refine ite_holds (P := (Snd (Kept T s0))) ?_ ?_
  · refine snd_holds (P := (Kept T s0)) ?_
    exact hx0
  · refine ite_holds (P := (Snd (Kept T s0))) ?_ ?_
    · refine snd_holds (P := (Kept T s0)) ?_
      exact (kept_setIdlPol (tr (by decide) hT) _ _ _ hx0)
    · refine snd_holds (P := (Kept T s0)) ?_
      exact (kept_State_count _ _ _ _ _ hx0 (hasC_of ixC_IDL_POL_REFUSE_CNT (by decide) hT))

theorem kept_memWrite {T : Touch} {s0 : State} (hT : Touch.le ⟨6144, 0x680000000000000000000000000000000000000000000,
    0x30500000000000000000000000000000000000000000000000⟩ T) : ∀ a0 a1 a2, Kept T s0 a2 →
    Snd (Kept T s0) (memWrite a0 a1 a2) := by
  intro a0 a1 a2 h2
  unfold memWrite
  extract_lets +onlyGivenNames -merge x0
  extract_lets +onlyGivenNames -merge x1
  extract_lets +onlyGivenNames -merge x2
  extract_lets +onlyGivenNames -merge x3
  extract_lets +onlyGivenNames -merge x4
  have hx4 : Kept T s0 x4 := (kept_up2048 (land_le (by decide) hT.1) h2)
  clear_value x4
  refine snd_holds (P := (Kept T s0)) ?_
  exact (foldl_holds (P := (Kept T s0)) (fun _ _ hm5 => (kept_hostMemError (tr (by decide) hT) _ _ _ hm5)) hx4)

theorem kept_dmaStore {T : Touch} {s0 : State} (hT : Touch.le ⟨7168, 0x680000000000000000000000000000000000000000000,
    0x30500000000000000000000000000000000000000000000000⟩ T) : ∀ a0 a1 a2 a3, Kept T s0 a3 →
    Snd (Kept T s0) (dmaStore a0 a1 a2 a3) := by
  intro a0 a1 a2 a3 h3
  unfold dmaStore
  extract_lets +onlyGivenNames -merge x0
  have hx0 : Kept T s0 x0 := (kept_idlSend (tr (by decide) hT) _ _ _ _ _ h3)
  clear_value x0
  refine ite_holds (P := (Snd (Kept T s0))) ?_ ?_
  · refine snd_holds (P := (Kept T s0)) ?_
    exact (kept_up2048 (land_le (by decide) hT.1) hx0)
  · exact (kept_memWrite (tr (by decide) hT) _ _ _ hx0)

theorem kept_hostWrite {T : Touch} {s0 : State} (hT : Touch.le ⟨7168,
    0x680000000000000000000000000000000000000000000, 0x30500000000000000000000000000000000000000000000000⟩ T) : ∀ a0
    a1 a2, Kept T s0 a2 →
    Snd (Kept T s0) (hostWrite a0 a1 a2) := by
  intro a0 a1 a2 h2
  unfold hostWrite
  refine ite_holds (P := (Snd (Kept T s0))) ?_ ?_
  · exact (kept_dmaStore (tr (by decide) hT) _ _ _ _ h2)
  · refine snd_holds (P := (Kept T s0)) ?_
    exact (kept_up1024 (land_le (by decide) hT.1) h2)

theorem kept_dmaWrite {T : Touch} {s0 : State} (hT : Touch.le ⟨7168, 0x680000000000000000000000000000000000000000000,
    0x30500000000000000000000000000000000000000000000000⟩ T) : ∀ a0 a1 a2, Kept T s0 a2 →
    Snd (Kept T s0) (dmaWrite a0 a1 a2) := by
  intro a0 a1 a2 h2
  unfold dmaWrite
  split
  · refine snd_holds (P := (Kept T s0)) ?_
    exact h2
  · split
    · rename_i v3 v4 heq5
      have hv4 : Kept T s0 v4 := holds_eq (P := (Snd (Kept T s0))) heq5 (by
          exact (kept_hostWrite (tr (by decide) hT) _ _ _ h2))
      refine snd_holds (P := (Kept T s0)) ?_
      exact hv4

theorem kept_coreStore {T : Touch} {s0 : State} (hT : Touch.le ⟨6400,
    0x680000000000000000000000000000000000000000000, 0x30500000000000000000000000000000000000000000000000⟩ T) : ∀ a0
    a1 a2, Kept T s0 a2 →
    Kept T s0 (coreStore a0 a1 a2) := by
  intro a0 a1 a2 h2
  unfold coreStore
  refine ite_holds (P := (Kept T s0)) ?_ ?_
  · exact h2
  · refine ite_holds (P := (Kept T s0)) ?_ ?_
    · exact (kept_State_emit (tr (by decide) hT) _ _ h2)
    · split
      · rename_i v0 v1 heq2
        have hv1 : Kept T s0 v1 := holds_eq (P := (Snd (Kept T s0))) heq2 (by
            exact (kept_memWrite (tr (by decide) hT) _ _ _ h2))
        exact (ite_holds (P := (Kept T s0)) hv1 (kept_State_emit (tr (by decide) hT) _ _ hv1))

theorem kept_flushDma {T : Touch} {s0 : State} (hT : Touch.le ⟨7168, 0x680000000000000000000000000000000000000000000,
    0x30500000000000000000000000000000000000000000000000⟩ T) : ∀ a0, Kept T s0 a0 →
    Kept T s0 (flushDma a0) := by
  intro a0 h0
  unfold flushDma
  exact (foldl_holds (P := (Kept T s0)) (fun _ _ hm0 => (of_snd (kept_dmaStore (tr (by decide) hT) _ _ _ _ hm0)))
      (kept_up1024 (land_le (by decide) hT.1) h0))

theorem kept_hostRead {T : Touch} {s0 : State} (hT : Touch.le ⟨7168, 0x680000000000000000000000000000000000000000000,
    0x30500000000000000000000000000000000000000000000000⟩ T) : ∀ a0 a1 a2, Kept T s0 a2 →
    Snd (Kept T s0) (hostRead a0 a1 a2) := by
  intro a0 a1 a2 h2
  unfold hostRead
  extract_lets +onlyGivenNames -merge x0
  have hx0 : Kept T s0 x0 := (kept_idlSend (tr (by decide) hT) _ _ _ _ _ h2)
  clear_value x0
  refine ite_holds (P := (Snd (Kept T s0))) ?_ ?_
  · refine snd_holds (P := (Kept T s0)) ?_
    exact hx0
  · split
    · refine snd_holds (P := (Kept T s0)) ?_
      exact hx0
    · refine snd_holds (P := (Kept T s0)) ?_
      exact (foldl_holds (P := (Kept T s0)) (fun _ _ hm5 => (kept_hostMemError (tr (by decide) hT) _ _ _ hm5)) hx0)

theorem kept_dmaRead {T : Touch} {s0 : State} (hT : Touch.le ⟨7168, 0x680000000000000000000000000000000000000000000,
    0x30500000000000000000000000000000000000000000000000⟩ T) : ∀ a0 a1 a2, Kept T s0 a2 →
    Snd (Kept T s0) (dmaRead a0 a1 a2) := by
  intro a0 a1 a2 h2
  unfold dmaRead
  split
  · refine snd_holds (P := (Kept T s0)) ?_
    exact h2
  · split
    · rename_i v3 v4 heq5
      have hv4 : Kept T s0 v4 := holds_eq (P := (Snd (Kept T s0))) heq5 (by
          exact (kept_hostRead (tr (by decide) hT) _ _ _ h2))
      refine snd_holds (P := (Kept T s0)) ?_
      exact hv4
    · rename_i v6 heq7
      have hv6 : Kept T s0 v6 := holds_eq (P := (Snd (Kept T s0))) heq7 (by
          exact (kept_hostRead (tr (by decide) hT) _ _ _ h2))
      refine snd_holds (P := (Kept T s0)) ?_
      exact hv6

theorem kept_softStore {T : Touch} {s0 : State} (hT : Touch.le ⟨6400,
    0x680000000000000000000000000000000000000000000, 0x30500000000000000000000000000000000000000000000000⟩ T) : ∀ a0
    a1 a2 a3, Kept T s0 a3 →
    Kept T s0 (softStore a0 a1 a2 a3) := by
  intro a0 a1 a2 a3 h3
  unfold softStore
  exact (ite_holds (P := (Kept T s0)) (kept_up2048 (land_le (by decide) hT.1) h3) (kept_coreStore (tr (by decide) hT)
      _ _ _ h3))

theorem kept_memoryError {T : Touch} {s0 : State} (hT : Touch.le ⟨6400,
    0x680000000000000000000000000000000000000000000, 0x30500000000000000000000000000000000000000000000000⟩ T) : ∀ a0
    a1 a2 a3, Kept T s0 a3 →
    Kept T s0 (memoryError a0 a1 a2 a3) := by
  intro a0 a1 a2 a3 h3
  unfold memoryError
  refine ite_holds (P := (Kept T s0)) ?_ ?_
  · exact (ite_holds (P := (Kept T s0)) (kept_State_emit (tr (by decide) hT) _ _ h3) h3)
  · refine ite_holds (P := (Kept T s0)) ?_ ?_
    · exact (kept_hostMemError (tr (by decide) hT) _ _ _ h3)
    · extract_lets +onlyGivenNames -merge x0
      extract_lets +onlyGivenNames -merge x1
      extract_lets +onlyGivenNames -merge x2
      extract_lets +onlyGivenNames -merge x3
      have hx3 : Kept T s0 x3 := (kept_up2048 (land_le (by decide) hT.1) h3)
      clear_value x3
      exact (ite_holds (P := (Kept T s0)) (kept_State_emit (tr (by decide) hT) _ _ (kept_hostMemError (tr (by decide)
          hT) _ _ _ hx3)) hx3)

theorem kept_execHostMemoryError {T : Touch} {s0 : State} (hT : Touch.le ⟨6400,
    0x680000000000000000000000000000000000000000000, 0x30500000000000000000000000000000000000000000000000⟩ T) : ∀ a0 a1 a2, Kept T s0 a2 →
    ResKept T s0 (execHostMemoryError a0 a1 a2) := by
  intro a0 a1 a2 h2
  unfold execHostMemoryError
  refine next_kept ?_
  exact (kept_memoryError (tr (by decide) hT) _ _ _ _ h2)

theorem kept_execIdlPolicerRefresh {T : Touch} {s0 : State} (hT : Touch.le ⟨1024, 0x0, 0x0⟩ T) : ∀ a0, Kept T s0 a0 →
    ResKept T s0 (execIdlPolicerRefresh a0) := by
  intro a0 h0
  unfold execIdlPolicerRefresh
  refine next_kept ?_
  exact (kept_idlRefreshAll (tr (by decide) hT) _ h0)

/-! ### Machine/Issue.lean -/

theorem kept_near {T : Touch} {s0 : State} (hT : Touch.le ⟨0, 0x0, 0x0⟩ T) : ∀ a0 a1, (∀ z0, Kept T s0 z0 → Kept T s0
    (a0 z0)) → Kept T s0 a1 →
    Kept T s0 (near a0 a1) := by
  intro a0 a1 h0 h1
  unfold near
  refine h0 _ h1

theorem kept_far {T : Touch} {s0 : State} (hT : Touch.le ⟨1024, 0x0, 0x0⟩ T) : ∀ a0 a1 a2, (∀ z0, Kept T s0 z0 → Kept
    T s0 (a1 z0)) → Kept T s0 a2 →
    Kept T s0 (far a0 a1 a2) := by
  intro a0 a1 a2 h1 h2
  unfold far
  refine ite_holds (P := (Kept T s0)) ?_ ?_
  · exact h2
  · refine ite_holds (P := (Kept T s0)) ?_ ?_
    · refine h1 _ (kept_idlSend (tr (by decide) hT) _ _ _ _ _ h2)

    · exact (kept_up1024 (land_le (by decide) hT.1) h2)

theorem kept_logAccess {T : Touch} {s0 : State} (hT : Touch.le ⟨1536,
    0x600000000000000000000000000000000000000000000000000000, 0x800000000000000000000000000000000000000000000000⟩ T)
    : ∀ a0 a1 a2, Kept T s0 a2 →
    Kept T s0 (logAccess a0 a1 a2) := by
  intro a0 a1 a2 h2
  unfold logAccess
  refine ite_holds (P := (Kept T s0)) ?_ ?_
  · refine kept_far (tr (by decide) hT) _ _ _ ?_ h2
    · intro y0 hy0
      exact (kept_logWrite (tr (by decide) hT) _ _ _ hy0)
  · exact (kept_logNear (tr (by decide) hT) _ _ h2)

theorem kept_noteKeeper {T : Touch} {s0 : State} (hT : Touch.le ⟨1024, 0x0, 0x0⟩ T) : ∀ a0 a1, Kept T s0 a1 →
    Kept T s0 (noteKeeper a0 a1) := by
  intro a0 a1 h1
  unfold noteKeeper
  exact (ite_holds (P := (Kept T s0)) (kept_up1024 (land_le (by decide) hT.1) h1) h1)

theorem kept_setKey {T : Touch} {s0 : State} (hT : Touch.le ⟨1024, 0x0, 0x0⟩ T) : ∀ a0 a1 a2, Kept T s0 a2 →
    Kept T s0 (setKey a0 a1 a2) := by
  intro a0 a1 a2 h2
  unfold setKey
  exact (ite_holds (P := (Kept T s0)) (kept_up1024 (land_le (by decide) hT.1) h2) (kept_up1024 (land_le (by decide)
      hT.1) h2))

theorem kept_guarded {T : Touch} {s0 : State} (hT : Touch.le ⟨1536,
    0x600000000000000000000000000000000000000000000000000000, 0x800000000000000000000000000000000000000000000000⟩ T)
    : ∀ a0 a1 a2, (∀ z0, Kept T s0 z0 → Kept T s0 (a1 z0)) → Kept T s0 a2 →
    Kept T s0 (guarded a0 a1 a2) := by
  intro a0 a1 a2 h1 h2
  unfold guarded
  refine ite_holds (P := (Kept T s0)) ?_ ?_
  · extract_lets +onlyGivenNames -merge x0
    have hx0 : Kept T s0 x0 := (kept_noteKeeper (tr (by decide) hT) _ _ (kept_setKey (tr (by decide) hT) _ _ _ h2))
    clear_value x0
    refine ite_holds (P := (Kept T s0)) ?_ ?_
    · exact (kept_logAccess (tr (by decide) hT) _ _ _ hx0)
    · refine h1 _ hx0

  · exact (ite_holds (P := (Kept T s0)) h2 (kept_logNear (tr (by decide) hT) _ _ h2))

end Sys2Proof.Machine
end

