-- ==== Sys2Proof/Laws/KeptHost.lean ====
section
/-!
SUPPORT. What the operations of these files of Machine leave alone: Rings, Flash, Plane, Control.
-/
namespace Sys2Proof.Machine

/-! ### Machine/Rings.lean -/

theorem kept_setRing {T : Touch} {s0 : State} (hT : Touch.le ⟨2048, 0x0, 0x0⟩ T) : ∀ a0 a1 a2, Kept T s0 a2 →
    Kept T s0 (setRing a0 a1 a2) := by
  intro a0 a1 a2 h2
  unfold setRing
  exact (kept_up2048 (land_le (by decide) hT.1) h2)

theorem kept_showHeld {T : Touch} {s0 : State} (hT : Touch.le ⟨0, 0x800000000000000000000000000000000000000000, 0x0⟩
    T) : ∀ a0 a1, Kept T s0 a1 →
    Kept T s0 (showHeld a0 a1) := by
  intro a0 a1 h1
  unfold showHeld
  exact (ite_holds (P := (Kept T s0)) (kept_State_setFld (tr (by decide) hT) _ _ _ _ _ h1 (hasR_of
      ixR_HOST_CPL_STATUS (by decide) hT)) h1)

theorem kept_setUnits {T : Touch} {s0 : State} (hT : Touch.le ⟨2048, 0x800000000000000000000000000000000000000000,
    0x0⟩ T) : ∀ a0 a1 a2, Kept T s0 a2 →
    Kept T s0 (setUnits a0 a1 a2) := by
  intro a0 a1 a2 h2
  unfold setUnits
  exact (kept_showHeld (tr (by decide) hT) _ _ (kept_setRing (tr (by decide) hT) _ _ _ h2))

theorem kept_finish {T : Touch} {s0 : State} (hT : Touch.le ⟨2048, 0x800000000000000000000000000000000000000000,
    0x4000000000000000000000000000400000000000000⟩ T) : ∀ a0 a1 a2 a3, Kept T s0 a3 →
    Kept T s0 (finish a0 a1 a2 a3) := by
  intro a0 a1 a2 a3 h3
  unfold finish
  extract_lets +onlyGivenNames -merge x0
  have hx0 : Kept T s0 x0 := (kept_State_countIf (tr (by decide) hT) _ _ _ _ _ h3 (hasC_of ixC_TBL_WRITE_ERR_CNT (by
      decide) hT))
  clear_value x0
  extract_lets +onlyGivenNames -merge x1
  exact (ite_holds (P := (Kept T s0)) (kept_State_count _ _ _ _ _ (kept_setUnits (tr (by decide) hT) _ _ _ hx0)
      (hasC_of ixC_HOST_RING_UNDELIVERED_CNT (by decide) hT)) (kept_setUnits (tr (by decide) hT) _ _ _ hx0))

theorem kept_discardHeld {T : Touch} {s0 : State} (hT : Touch.le ⟨2048, 0x800000000000000000000000000000000000000000,
    0x4000000000000000000000000000000000000000000⟩ T) : ∀ a0 a1, Kept T s0 a1 →
    Kept T s0 (discardHeld a0 a1) := by
  intro a0 a1 h1
  unfold discardHeld
  extract_lets +onlyGivenNames -merge x0
  extract_lets +onlyGivenNames -merge x1
  subst x1
  beta_reduce
  extract_lets +onlyGivenNames -merge x2
  exact (kept_State_count _ _ _ _ _ (kept_setUnits (tr (by decide) hT) _ _ _ h1) (hasC_of
      ixC_HOST_RING_UNDELIVERED_CNT (by decide) hT))

theorem kept_stopRing {T : Touch} {s0 : State} (hT : Touch.le ⟨2048, 0x600000000000000000000000000000000000000, 0x0⟩
    T) : ∀ a0 a1, Kept T s0 a1 →
    Kept T s0 (stopRing a0 a1) := by
  intro a0 a1 h1
  unfold stopRing
  extract_lets +onlyGivenNames -merge x0
  have hx0 : Kept T s0 x0 := (kept_State_setFld (tr (by decide) hT) _ _ _ _ _ (kept_State_setFld (tr (by decide) hT)
      _ _ _ _ _ h1 (hasR_of ixR_HOST_RING_CTRL (by decide) hT)) (hasR_of ixR_HOST_RING_STATUS (by decide) hT))
  clear_value x0
  exact (kept_setRing (tr (by decide) hT) _ _ _ hx0)

theorem kept_ringRaise {T : Touch} {s0 : State} (hT : Touch.le ⟨3328,
    0x4000000000000000000000000000000000000000000000, 0x4000000000000000000000000000000000000000000000000⟩ T) : ∀ a0
    a1, Kept T s0 a1 →
    Kept T s0 (ringRaise a0 a1) := by
  intro a0 a1 h1
  unfold ringRaise
  exact (ite_holds (P := (Kept T s0)) (kept_raiseVec (tr (by decide) hT) _ _ (kept_setRing (tr (by decide) hT) _ _ _
      h1)) h1)

theorem kept_entryIrq {T : Touch} {s0 : State} (hT : Touch.le ⟨3328,
    0x4000000000000000000000000000000000000000000000, 0x4000000000000000000000000000000000000000000000000⟩ T) : ∀ a0
    a1, Kept T s0 a1 →
    Kept T s0 (entryIrq a0 a1) := by
  intro a0 a1 h1
  unfold entryIrq
  exact (ite_holds (P := (Kept T s0)) (ite_holds (P := (Kept T s0)) (kept_ringRaise (tr (by decide) hT) _ _ h1)
      (kept_setRing (tr (by decide) hT) _ _ _ h1)) h1)

theorem kept_writeBack {T : Touch} {s0 : State} (hT : Touch.le ⟨7168,
    0x680000000000000000000000000000000000000000000, 0x30500000000000000000000000000000000000000000000000⟩ T) : ∀ a0
    a1 a2, Kept T s0 a2 →
    Snd (Kept T s0) (writeBack a0 a1 a2) := by
  intro a0 a1 a2 h2
  unfold writeBack
  split
  · refine snd_holds (P := (Kept T s0)) ?_
    exact h2
  · refine snd_holds (P := (Kept T s0)) ?_
    exact (of_snd (kept_hostWrite (tr (by decide) hT) _ _ _ h2))

theorem kept_ringWb {T : Touch} {s0 : State} (hT : Touch.le ⟨7168, 0x680000000000000000000000000000000000000000000,
    0x30500000000000000000000000000000000000000000000000⟩ T) : ∀ a0 a1, Kept T s0 a1 →
    Snd (Kept T s0) (ringWb a0 a1) := by
  intro a0 a1 h1
  unfold ringWb
  exact (kept_writeBack (tr (by decide) hT) _ _ _ h1)

theorem kept_setTail {T : Touch} {s0 : State} (hT : Touch.le ⟨0, 0x1000000000000000000000000000000000000000, 0x0⟩ T)
    : ∀ a0 a1 a2, Kept T s0 a2 →
    Kept T s0 (setTail a0 a1 a2) := by
  intro a0 a1 a2 h2
  unfold setTail
  exact (kept_State_setReg _ _ _ _ _ h2 (hasR_of ixR_HOST_RING_TAIL (by decide) hT))

theorem kept_stopErr {T : Touch} {s0 : State} (hT : Touch.le ⟨7424, 0x4000000600000000000000000000000000000000000000,
    0x4000000000000000000000000000000000000000000000000⟩ T) : ∀ a0 a1 a2 a3, Kept T s0 a3 →
    Kept T s0 (stopErr a0 a1 a2 a3) := by
  intro a0 a1 a2 a3 h3
  unfold stopErr
  extract_lets +onlyGivenNames -merge x0
  have hx0 : Kept T s0 x0 := (kept_State_setFld (tr (by decide) hT) _ _ _ _ _ (kept_State_setFld (tr (by decide) hT)
      _ _ _ _ _ (kept_stopRing (tr (by decide) hT) _ _ h3) (hasR_of ixR_HOST_RING_STATUS (by decide) hT)) (hasR_of
      ixR_HOST_RING_STATUS (by decide) hT))
  clear_value x0
  exact (kept_ringRaise (tr (by decide) hT) _ _ (kept_fault (tr (by decide) hT) _ _ _ _ _ hx0))

theorem kept_stopLost {T : Touch} {s0 : State} (hT : Touch.le ⟨7424,
    0x4000800600000000000000000000000000000000000000, 0x4000004000000000000000000000000000000000000000000⟩ T) : ∀ a0
    a1, Kept T s0 a1 →
    Kept T s0 (stopLost a0 a1) := by
  intro a0 a1 h1
  unfold stopLost
  extract_lets +onlyGivenNames -merge x0
  have hx0 : Kept T s0 x0 := (ite_holds (P := (Kept T s0)) (kept_stopErr (tr (by decide) hT) _ _ _ _ h1) h1)
  clear_value x0
  exact (ite_holds (P := (Kept T s0)) hx0 (kept_discardHeld (tr (by decide) hT) _ _ hx0))

theorem kept_ringPut {T : Touch} {s0 : State} (hT : Touch.le ⟨7424, 0x4680801600000000000000000000000000000000000000,
    0x34500004000000000000000000000000000000000000000000⟩ T) : ∀ a0 a1 a2, Kept T s0 a2 →
    Snd (Kept T s0) (ringPut a0 a1 a2) := by
  intro a0 a1 a2 h2
  unfold ringPut
  extract_lets +onlyGivenNames -merge x0
  split
  · rename_i v1 v2 heq3
    have hv2 : Kept T s0 v2 := holds_eq (P := (Snd (Kept T s0))) heq3 (by
        exact (kept_dmaWrite (tr (by decide) hT) _ _ _ h2))
    refine ite_holds (P := (Snd (Kept T s0))) ?_ ?_
    · refine snd_holds (P := (Kept T s0)) ?_
      exact (kept_stopLost (tr (by decide) hT) _ _ hv2)
    · split
      · rename_i v4 v5 heq6
        have hv5 : Kept T s0 v5 := holds_eq (P := (Snd (Kept T s0))) heq6 (by
            exact (kept_ringWb (tr (by decide) hT) _ _ (kept_setTail (tr (by decide) hT) _ _ _ hv2)))
        refine ite_holds (P := (Snd (Kept T s0))) ?_ ?_
        · refine snd_holds (P := (Kept T s0)) ?_
          exact (kept_entryIrq (tr (by decide) hT) _ _ hv5)
        · refine snd_holds (P := (Kept T s0)) ?_
          exact (kept_stopLost (tr (by decide) hT) _ _ hv5)

theorem kept_notePut {T : Touch} {s0 : State} (hT : Touch.le ⟨7424, 0x4680801600000000000000000000000000000000000000,
    0x34500004000000000000000000000000000000000000000000⟩ T) : ∀ a0 a1, Kept T s0 a1 →
    Snd (Kept T s0) (notePut a0 a1) := by
  intro a0 a1 h1
  unfold notePut
  split
  · refine snd_holds (P := (Kept T s0)) ?_
    exact h1
  · extract_lets +onlyGivenNames -merge x4
    refine ite_holds (P := (Snd (Kept T s0))) ?_ ?_
    · refine snd_holds (P := (Kept T s0)) ?_
      exact h1
    · refine ite_holds (P := (Snd (Kept T s0))) ?_ ?_
      · refine snd_holds (P := (Kept T s0)) ?_
        exact (kept_stopLost (tr (by decide) hT) _ _ h1)
      · refine snd_holds (P := (Kept T s0)) ?_
        exact (foldl_holds (P := (Kept T s0)) (fun _ _ hm5 => (ite_holds (P := (Kept T s0)) (kept_raiseVec (tr (by
            decide) hT) _ _ (of_snd (kept_ringPut (tr (by decide) hT) _ _ _ hm5))) (of_snd (kept_ringPut (tr (by
            decide) hT) _ _ _ hm5)))) h1)

theorem kept_notePass {T : Touch} {s0 : State} (hT : Touch.le ⟨7424,
    0x4680801600000000000000000000000000000000000000, 0x434500004000000000000000000000000000000000000000000⟩ T) : ∀
    a0 a1, Kept T s0 a1 →
    Snd (Kept T s0) (notePass a0 a1) := by
  intro a0 a1 h1
  unfold notePass
  split
  · exact (kept_notePut (tr (by decide) hT) _ _ h1)
  · split
    · rename_i v3 heq4
      have hv3 : Kept T s0 v3 := holds_eq (P := (Snd (Kept T s0))) heq4 (by
          exact (kept_idlPass (tr (by decide) hT) _ _ _ h1))
      refine snd_holds (P := (Kept T s0)) ?_
      exact hv3
    · rename_i v5 heq6
      have hv5 : Kept T s0 v5 := holds_eq (P := (Snd (Kept T s0))) heq6 (by
          exact (kept_idlPass (tr (by decide) hT) _ _ _ h1))
      exact (kept_notePut (tr (by decide) hT) _ _ hv5)

theorem kept_toBacklog {T : Touch} {s0 : State} (hT : Touch.le ⟨512, 0x0,
    0x2000000000000000000000000000000000000000000000000⟩ T) : ∀ a0 a1, Kept T s0 a1 →
    Kept T s0 (toBacklog a0 a1) := by
  intro a0 a1 h1
  unfold toBacklog
  exact (ite_holds (P := (Kept T s0)) (kept_up512 (land_le (by decide) hT.1) h1) (kept_State_count _ _ _ _ _ h1
      (hasC_of ixC_SYS_HEADLESS_NOTIFY_DROP_CNT (by decide) hT)))

theorem kept_fillBufs {T : Touch} {s0 : State} (hT : Touch.le ⟨7168, 0x680000000000000000000000000000000000000000000,
    0x30500000000000000000000000000000000000000000000000⟩ T) : ∀ a0 a1 a2 a3, Kept T s0 a3 →
    Snd (Kept T s0) (fillBufs a0 a1 a2 a3) := by
  intro l
  induction l with
  | nil => exact fun d st s h => h
  | cons b l ih => exact fun d st s h => ih _ _ _ (kept_dmaWrite (tr (by decide) hT) _ _ _ h)

theorem kept_setHead {T : Touch} {s0 : State} (hT : Touch.le ⟨0, 0x800000000000000000000000000000000000000, 0x0⟩ T) :
    ∀ a0 a1 a2, Kept T s0 a2 →
    Kept T s0 (setHead a0 a1 a2) := by
  intro a0 a1 a2 h2
  unfold setHead
  exact (kept_State_setReg _ _ _ _ _ h2 (hasR_of ixR_HOST_RING_HEAD (by decide) hT))

theorem kept_rxCount {T : Touch} {s0 : State} (hT : Touch.le ⟨7424, 0x4680800e00000000000000000000000000000000000000,
    0x34500004000000000000000000000000000000000000000000⟩ T) : ∀ a0 a1 a2, Kept T s0 a2 →
    Kept T s0 (rxCount a0 a1 a2) := by
  intro a0 a1 a2 h2
  unfold rxCount
  extract_lets +onlyGivenNames -merge x0
  extract_lets +onlyGivenNames -merge x1
  extract_lets +onlyGivenNames -merge x2
  subst x2
  beta_reduce
  split
  · extract_lets +onlyGivenNames -merge x6
    have hx6 : Kept T s0 x6 := (kept_setRing (tr (by decide) hT) _ _ _ h2)
    clear_value x6
    refine ite_holds (P := (Kept T s0)) ?_ ?_
    · exact hx6
    · split
      · rename_i v7 v8 heq9
        have hv8 : Kept T s0 v8 := holds_eq (P := (Snd (Kept T s0))) heq9 (by
            exact (kept_ringWb (tr (by decide) hT) _ _ (kept_setHead (tr (by decide) hT) _ _ _ hx6)))
        exact (ite_holds (P := (Kept T s0)) hv8 (kept_stopLost (tr (by decide) hT) _ _ hv8))

theorem kept_rxPlace {T : Touch} {s0 : State} (hT : Touch.le ⟨7424, 0x4680800e00000000000000000000000000000000000000,
    0x34500274000000000000000000000000000400000000000000⟩ T) : ∀ a0 a1 a2 a3, Kept T s0 a3 →
    Snd (Kept T s0) (rxPlace a0 a1 a2 a3) := by
  intro a0 a1 a2 a3 h3
  unfold rxPlace
  extract_lets +onlyGivenNames -merge x0
  extract_lets +onlyGivenNames -merge x1
  extract_lets +onlyGivenNames -merge x2
  subst x2
  beta_reduce
  refine ite_holds (P := (Snd (Kept T s0))) ?_ ?_
  · refine snd_holds (P := (Kept T s0)) ?_
    extract_lets +onlyGivenNames -merge x3
    have hx3 : Kept T s0 x3 := (kept_State_count _ _ _ _ _ h3 (hasC_of ixC_HOST_RX_RING_DOWN_DROP_CNT (by decide) hT))
    clear_value x3
    split
    · exact (kept_State_count _ _ _ _ _ hx3 (hasC_of ixC_HOST_RX_DROP_CNT (by decide) hT))
    · exact hx3
  · refine ite_holds (P := (Snd (Kept T s0))) ?_ ?_
    · refine snd_holds (P := (Kept T s0)) ?_
      extract_lets +onlyGivenNames -merge x7
      have hx7 : Kept T s0 x7 := (kept_State_count _ _ _ _ _ h3 (hasC_of ixC_HOST_RX_CPL_FULL_DROP_CNT (by decide)
          hT))
      clear_value x7
      split
      · exact (kept_State_count _ _ _ _ _ hx7 (hasC_of ixC_HOST_RX_DROP_CNT (by decide) hT))
      · exact hx7
    · split
      · refine snd_holds (P := (Kept T s0)) ?_
        extract_lets +onlyGivenNames -merge x12
        have hx12 : Kept T s0 x12 := (kept_State_count _ _ _ _ _ h3 (hasC_of ixC_RX_NOBUF_CNT (by decide) hT))
        clear_value x12
        split
        · exact (kept_State_count _ _ _ _ _ hx12 (hasC_of ixC_HOST_RX_DROP_CNT (by decide) hT))
        · exact hx12
      · extract_lets +onlyGivenNames -merge x18
        extract_lets +onlyGivenNames -merge x19
        extract_lets +onlyGivenNames -merge x20
        extract_lets +onlyGivenNames -merge x21
        have hx21 : Kept T s0 x21 := (kept_setRing (tr (by decide) hT) _ _ _ h3)
        clear_value x21
        extract_lets +onlyGivenNames -merge x22
        have hx22 : Kept T s0 x22 := (kept_setUnits (tr (by decide) hT) _ _ _ hx21)
        clear_value x22
        extract_lets +onlyGivenNames -merge x23
        have hx23 : Kept T s0 x23 := (kept_rxCount (tr (by decide) hT) _ _ _ hx22)
        clear_value x23
        split
        · rename_i v24 v25 heq26
          have hv25 : Kept T s0 v25 := holds_eq (P := (Snd (Kept T s0))) heq26 (by
              exact (kept_fillBufs (tr (by decide) hT) _ _ _ _ hx23))
          refine snd_holds (P := (Kept T s0)) ?_
          exact (kept_finish (tr (by decide) hT) _ _ _ _ hv25)

theorem kept_completionWrite {T : Touch} {s0 : State} (hT : Touch.le ⟨7424,
    0x4680900600000000000000000000000000000000000000, 0x34500007000000000000000000000000000000000000000000⟩ T) : ∀ a0
    a1, Kept T s0 a1 →
    Kept T s0 (completionWrite a0 a1) := by
  intro a0 a1 h1
  unfold completionWrite
  split
  · exact h1
  · split
    · extract_lets +onlyGivenNames -merge x6
      extract_lets +onlyGivenNames -merge x7
      refine ite_holds (P := (Kept T s0)) ?_ ?_
      · exact h1
      · split
        · rename_i v8 v9 heq10
          have hv9 : Kept T s0 v9 := holds_eq (P := (Snd (Kept T s0))) heq10 (by
              exact (kept_dmaWrite (tr (by decide) hT) _ _ _ h1))
          refine ite_holds (P := (Kept T s0)) ?_ ?_
          · exact (kept_stopLost (tr (by decide) hT) _ _ hv9)
          · extract_lets +onlyGivenNames -merge x11
            have hx11 : Kept T s0 x11 := (kept_State_setReg _ _ _ _ _ (kept_setUnits (tr (by decide) hT) _ _ _ hv9)
                (hasR_of ixR_HOST_CPL_TAIL (by decide) hT))
            clear_value x11
            extract_lets +onlyGivenNames -merge x12
            have hx12 : Kept T s0 x12 := (ite_holds (P := (Kept T s0)) (kept_State_count _ _ _ _ _ hx11 (hasC_of
                ixC_HOST_RING_ERR_ENTRY_CNT (by decide) hT)) (kept_State_count _ _ _ _ _ hx11 (hasC_of
                ixC_HOST_RING_ENTRY_CNT (by decide) hT)))
            clear_value x12
            split
            · rename_i v13 v14 heq15
              have hv14 : Kept T s0 v14 := holds_eq (P := (Snd (Kept T s0))) heq15 (by
                  exact (kept_writeBack (tr (by decide) hT) _ _ _ hx12))
              exact (ite_holds (P := (Kept T s0)) (kept_entryIrq (tr (by decide) hT) _ _ hv14) (kept_stopLost (tr (by
                  decide) hT) _ _ hv14))
    · exact h1

theorem kept_noteFreed {T : Touch} {s0 : State} (hT : Touch.le ⟨2048, 0x0, 0x0⟩ T) : ∀ a0 a1, Kept T s0 a1 →
    Kept T s0 (noteFreed a0 a1) := by
  intro a0 a1 h1
  unfold noteFreed
  exact (kept_setRing (tr (by decide) hT) _ _ _ h1)

theorem kept_refuseDb {T : Touch} {s0 : State} (hT : Touch.le ⟨7424,
    0x4000000600000000000000000000000000000000000000, 0x4000100000000000000000000000000000000000000000000⟩ T) : ∀ a0
    a1 a2 a3 a4, Kept T s0 a4 →
    Kept T s0 (refuseDb a0 a1 a2 a3 a4) := by
  intro a0 a1 a2 a3 a4 h4
  unfold refuseDb
  extract_lets +onlyGivenNames -merge x0
  have hx0 : Kept T s0 x0 := (kept_State_count _ _ _ _ _ h4 (hasC_of ixC_HOST_DB_REFUSE_CNT (by decide) hT))
  clear_value x0
  refine ite_holds (P := (Kept T s0)) ?_ ?_
  · exact (kept_stopErr (tr (by decide) hT) _ _ _ _ hx0)
  · extract_lets +onlyGivenNames -merge x1
    have hx1 : Kept T s0 x1 := (kept_fault (tr (by decide) hT) _ _ _ _ _ (kept_State_setFld (tr (by decide) hT) _ _ _
        _ _ (kept_State_setFld (tr (by decide) hT) _ _ _ _ _ hx0 (hasR_of ixR_HOST_RING_STATUS (by decide) hT))
        (hasR_of ixR_HOST_RING_STATUS (by decide) hT)))
    clear_value x1
    exact (ite_holds (P := (Kept T s0)) hx1 (kept_ringRaise (tr (by decide) hT) _ _ hx1))

theorem kept_cplDoorbell {T : Touch} {s0 : State} (hT : Touch.le ⟨7424,
    0x4000080600000000000000000000000000000000000000, 0x4000100000000000000000000000000000000000000000000⟩ T) : ∀ a0
    a1 a2, Kept T s0 a2 →
    Kept T s0 (cplDoorbell a0 a1 a2) := by
  intro a0 a1 a2 h2
  unfold cplDoorbell
  exact (ite_holds (P := (Kept T s0)) (kept_refuseDb (tr (by decide) hT) _ _ _ _ _ h2) (ite_holds (P := (Kept T s0))
      (kept_State_setReg _ _ _ _ _ (kept_noteFreed (tr (by decide) hT) _ _ h2) (hasR_of ixR_HOST_CPL_HEAD (by decide)
      hT)) (kept_refuseDb (tr (by decide) hT) _ _ _ _ _ h2)))

theorem kept_doorbell {T : Touch} {s0 : State} (hT : Touch.le ⟨7936,
    0x600000004000001e00000000000000000000000000000000000000, 0x4800100000000000000000000000000000000000000000000⟩ T)
    : ∀ a0 a1 a2 a3, Kept T s0 a3 →
    Kept T s0 (doorbell a0 a1 a2 a3) := by
  intro a0 a1 a2 a3 h3
  unfold doorbell
  extract_lets +onlyGivenNames -merge x0
  exact (ite_holds (P := (Kept T s0)) (ite_holds (P := (Kept T s0)) (kept_logWrite (tr (by decide) hT) _ _ _ h3)
      (ite_holds (P := (Kept T s0)) (kept_refuseDb (tr (by decide) hT) _ _ _ _ _ h3) (ite_holds (P := (Kept T s0))
      (kept_refuseDb (tr (by decide) hT) _ _ _ _ _ h3) (ite_holds (P := (Kept T s0)) (kept_refuseDb (tr (by decide)
      hT) _ _ _ _ _ h3) (kept_setTail (tr (by decide) hT) _ _ _ h3))))) (ite_holds (P := (Kept T s0)) (kept_refuseDb
      (tr (by decide) hT) _ _ _ _ _ h3) (ite_holds (P := (Kept T s0)) (kept_setHead (tr (by decide) hT) _ _ _
      (kept_noteFreed (tr (by decide) hT) _ _ h3)) (kept_refuseDb (tr (by decide) hT) _ _ _ _ _ h3))))

theorem kept_ringDisable {T : Touch} {s0 : State} (hT : Touch.le ⟨2048, 0x600000000000000000000000000000000000000,
    0x0⟩ T) : ∀ a0 a1, Kept T s0 a1 →
    Kept T s0 (ringDisable a0 a1) := by
  intro a0 a1 h1
  unfold ringDisable
  exact (ite_holds (P := (Kept T s0)) (kept_stopRing (tr (by decide) hT) _ _ h1) h1)

theorem kept_ringEnable {T : Touch} {s0 : State} (hT : Touch.le ⟨2560,
    0x600000000000001600000000000000000000000000000000000000, 0x800000000000000000000000000000000000000000000000⟩ T)
    : ∀ a0 a1 a2, Kept T s0 a2 →
    Kept T s0 (ringEnable a0 a1 a2) := by
  intro a0 a1 a2 h2
  unfold ringEnable
  refine ite_holds (P := (Kept T s0)) ?_ ?_
  · exact (kept_logWrite (tr (by decide) hT) _ _ _ h2)
  · refine ite_holds (P := (Kept T s0)) ?_ ?_
    · extract_lets +onlyGivenNames -merge x0
      have hx0 : Kept T s0 x0 := (kept_State_setFld (tr (by decide) hT) _ _ _ _ _ (kept_State_setReg _ _ _ _ _ h2
          (hasR_of ixR_HOST_RING_STATUS (by decide) hT)) (hasR_of ixR_HOST_RING_CTRL (by decide) hT))
      clear_value x0
      extract_lets +onlyGivenNames -merge x1
      have hx1 : Kept T s0 x1 := (ite_holds (P := (Kept T s0)) (kept_setTail (tr (by decide) hT) _ _ _ hx0) hx0)
      clear_value x1
      exact (kept_setRing (tr (by decide) hT) _ _ _ hx1)
    · exact (kept_State_setFld (tr (by decide) hT) _ _ _ _ _ h2 (hasR_of ixR_HOST_RING_STATUS (by decide) hT))

theorem kept_irqCfg {T : Touch} {s0 : State} (hT : Touch.le ⟨2048, 0x0, 0x0⟩ T) : ∀ a0 a1 a2, Kept T s0 a2 →
    Kept T s0 (irqCfg a0 a1 a2) := by
  intro a0 a1 a2 h2
  unfold irqCfg
  extract_lets +onlyGivenNames -merge x0
  exact (ite_holds (P := (Kept T s0)) (kept_setRing (tr (by decide) hT) _ _ _ h2) (ite_holds (P := (Kept T s0))
      (kept_setRing (tr (by decide) hT) _ _ _ h2) h2))

theorem kept_winAddr {T : Touch} {s0 : State} (hT : Touch.le ⟨512,
    0x600000000000000000000000000000000000000000000000000000, 0x800000000000000000000000000000000000000000000000⟩ T)
    : ∀ a0 a1 a2 a3, T.hasR a1 → Kept T s0 a3 →
    Kept T s0 (winAddr a0 a1 a2 a3) := by
  intro a0 a1 a2 a3 h1 h3
  unfold winAddr
  exact (ite_holds (P := (Kept T s0)) (kept_logWrite (tr (by decide) hT) _ _ _ h3) (kept_State_setReg _ _ _ _ _ h3
      h1))

theorem kept_winCfg' {T : Touch} {s0 : State} (hT : Touch.le ⟨512,
    0x600000000000000002000000000000000000000000000000000000, 0x800000000000000000000000000000000000000000000000⟩ T)
    : ∀ a0 a1 a2, Kept T s0 a2 →
    Kept T s0 (winCfg' a0 a1 a2) := by
  intro a0 a1 a2 h2
  unfold winCfg'
  extract_lets +onlyGivenNames -merge x0
  extract_lets +onlyGivenNames -merge x1
  extract_lets +onlyGivenNames -merge x2
  subst x2
  beta_reduce
  exact (ite_holds (P := (Kept T s0)) (ite_holds (P := (Kept T s0)) (kept_State_setFld (tr (by decide) hT) _ _ _ _ _
      (kept_State_setFld (tr (by decide) hT) _ _ _ _ _ (kept_State_setFld (tr (by decide) hT) _ _ _ _ _ h2 (hasR_of
      ixR_HOST_WIN_CFG (by decide) hT)) (hasR_of ixR_HOST_WIN_CFG (by decide) hT)) (hasR_of ixR_HOST_WIN_CFG (by
      decide) hT)) (kept_State_setFld (tr (by decide) hT) _ _ _ _ _ (kept_State_setFld (tr (by decide) hT) _ _ _ _ _
      (kept_State_setFld (tr (by decide) hT) _ _ _ _ _ (kept_logWrite (tr (by decide) hT) _ _ _ h2) (hasR_of
      ixR_HOST_WIN_CFG (by decide) hT)) (hasR_of ixR_HOST_WIN_CFG (by decide) hT)) (hasR_of ixR_HOST_WIN_CFG (by
      decide) hT))) (ite_holds (P := (Kept T s0)) (kept_logWrite (tr (by decide) hT) _ _ _ h2) (kept_State_setFld (tr
      (by decide) hT) _ _ _ _ _ (kept_State_setFld (tr (by decide) hT) _ _ _ _ _ (kept_State_setFld (tr (by decide)
      hT) _ _ _ _ _ h2 (hasR_of ixR_HOST_WIN_CFG (by decide) hT)) (hasR_of ixR_HOST_WIN_CFG (by decide) hT)) (hasR_of
      ixR_HOST_WIN_CFG (by decide) hT))))

theorem kept_winWrite {T : Touch} {s0 : State} (hT : Touch.le ⟨512,
    0x60000000000000003e000000000000000000000000000000000000, 0x800000000000000000000000000000000000000000000000⟩ T)
    : ∀ a0 a1 a2 a3, Kept T s0 a3 →
    Kept T s0 (winWrite a0 a1 a2 a3) := by
  intro a0 a1 a2 a3 h3
  unfold winWrite
  exact (ite_holds (P := (Kept T s0)) (kept_winCfg' (tr (by decide) hT) _ _ _ h3) (kept_winAddr (tr (by decide) hT) _
      _ _ _ (hasR_winReg (hasR_of ixR_HOST_WIN_CFG (by decide) hT) (hasR_of ixR_HOST_WIN_BASE_LO (by decide) hT)
      (hasR_of ixR_HOST_WIN_BASE_HI (by decide) hT) (hasR_of ixR_HOST_WIN_XLATE_LO (by decide) hT) (hasR_of
      ixR_HOST_WIN_XLATE_HI (by decide) hT) _) h3))

theorem kept_setUnitSt {T : Touch} {s0 : State} (hT : Touch.le ⟨2048, 0x800000000000000000000000000000000000000000,
    0x0⟩ T) : ∀ a0 a1 a2 a3, Kept T s0 a3 →
    Kept T s0 (setUnitSt a0 a1 a2 a3) := by
  intro a0 a1 a2 a3 h3
  unfold setUnitSt
  exact (kept_setUnits (tr (by decide) hT) _ _ _ h3)

theorem kept_execCompletionWrite {T : Touch} {s0 : State} (hT : Touch.le ⟨7424,
    0x4680900600000000000000000000000000000000000000, 0x34500007000000000000000000000000000000000000000000⟩ T) : ∀ a0
    a1, Kept T s0 a1 →
    ResKept T s0 (execCompletionWrite a0 a1) := by
  intro a0 a1 h1
  unfold execCompletionWrite
  refine next_kept ?_
  exact (kept_completionWrite (tr (by decide) hT) _ _ h1)

theorem kept_execCplDoorbell {T : Touch} {s0 : State} (hT : Touch.le ⟨7424,
    0x4000080600000000000000000000000000000000000000, 0x4000100000000000000000000000000000000000000000000⟩ T) : ∀ a0
    a1 a2 a3, Kept T s0 a3 →
    ResKept T s0 (execCplDoorbell a0 a1 a2 a3) := by
  intro a0 a1 a2 a3 h3
  unfold execCplDoorbell
  refine next_kept ?_
  refine kept_far (tr (by decide) hT) _ _ _ ?_ h3
  · intro y0 hy0
    exact (kept_cplDoorbell (tr (by decide) hT) _ _ _ hy0)

theorem kept_execDoorbell {T : Touch} {s0 : State} (hT : Touch.le ⟨7936,
    0x600000004680001e00000000000000000000000000000000000000, 0x34d00100000000000000000000000000000000000000000000⟩
    T) : ∀ a0 a1 a2 a3 a4, Kept T s0 a4 →
    ResKept T s0 (execDoorbell a0 a1 a2 a3 a4) := by
  intro a0 a1 a2 a3 a4 h4
  unfold execDoorbell
  refine next_kept ?_
  refine kept_far (tr (by decide) hT) _ _ _ ?_ (foldl_holds (P := (Kept T s0)) (fun _ _ hm1 => (kept_softStore (tr
      (by decide) hT) _ _ _ _ hm1)) h4)
  · intro y0 hy0
    exact (kept_doorbell (tr (by decide) hT) _ _ _ _ hy0)

theorem kept_execFaultBacklogDeliver {T : Touch} {s0 : State} (hT : Touch.le ⟨7424,
    0x4680801600000000000000000000000000000000000000, 0x34500004000000000000000000000000000000000000000000⟩ T) : ∀
    a0, Kept T s0 a0 →
    ResKept T s0 (execFaultBacklogDeliver a0) := by
  intro a0 h0
  unfold execFaultBacklogDeliver
  refine next_kept ?_
  split
  · exact h0
  · refine ite_holds (P := (Kept T s0)) ?_ ?_
    · exact h0
    · split
      · rename_i v4 heq5
        have hv4 : Kept T s0 v4 := holds_eq (P := (Snd (Kept T s0))) heq5 (by
            exact (kept_notePut (tr (by decide) hT) _ _ h0))
        exact (kept_up2048 (land_le (by decide) hT.1) hv4)
      · rename_i v6 heq7
        have hv6 : Kept T s0 v6 := holds_eq (P := (Snd (Kept T s0))) heq7 (by
            exact (kept_notePut (tr (by decide) hT) _ _ h0))
        exact hv6

theorem kept_toFaultBacklog {T : Touch} {s0 : State} (hT : Touch.le ⟨2048, 0x0,
    0x800000000000000000000000000000000000000000⟩ T) : ∀ a0 a1, Kept T s0 a1 →
    Kept T s0 (toFaultBacklog a0 a1) := by
  intro a0 a1 h1
  unfold toFaultBacklog
  exact (ite_holds (P := (Kept T s0)) (kept_up2048 (land_le (by decide) hT.1) h1) (kept_State_count _ _ _ _ _ h1
      (hasC_of ixC_HOST_FAULT_REC_DROP_CNT (by decide) hT)))

theorem kept_wxMiss {T : Touch} {s0 : State} (hT : Touch.le ⟨2097152, 0x0, 0x0⟩ T) : ∀ a0 a1, Kept T s0 a1 →
    Kept T s0 (wxMiss a0 a1) := by
  intro a0 a1 h1
  unfold wxMiss
  exact (kept_up2097152 (land_le (by decide) hT.1) h1)

theorem kept_noteMiss {T : Touch} {s0 : State} (hT : Touch.le ⟨2099200, 0x0,
    0x800000000000000040000000000000000000000000⟩ T) : ∀ a0 a1, Kept T s0 a1 →
    OptHolds (Kept T s0) (noteMiss a0 a1) := by
  intro a0 a1 h1
  unfold noteMiss
  split
  · refine some_holds (P := (Kept T s0)) ?_
    exact h1
  · split
    · refine some_holds (P := (Kept T s0)) ?_
      exact (kept_toFaultBacklog (tr (by decide) hT) _ _ h1)
    · refine some_holds (P := (Kept T s0)) ?_
      exact (kept_toFaultBacklog (tr (by decide) hT) _ _ h1)
    · refine some_holds (P := (Kept T s0)) ?_
      exact (foldl_holds (P := (Kept T s0)) (fun _ _ hm7 => (kept_wxMiss (tr (by decide) hT) _ _ (kept_State_count _
          _ _ _ _ hm7 (hasC_of ixC_TM_WX_DROP_CNT (by decide) hT)))) h1)
    · exact none_holds

theorem kept_noteWent {T : Touch} {s0 : State} (hT : Touch.le ⟨0, 0x0, 0x20000000000000000000000000⟩ T) : ∀ a0 a1,
    Kept T s0 a1 →
    Kept T s0 (noteWent a0 a1) := by
  intro a0 a1 h1
  unfold noteWent
  exact (foldl_holds (P := (Kept T s0)) (fun _ _ hm0 => (kept_State_countIf (tr (by decide) hT) _ _ _ _ _ hm0
      (hasC_of ixC_TM_WX_RECORD_CNT (by decide) hT))) h1)

theorem kept_execHeadlessBacklogDeliver {T : Touch} {s0 : State} (hT : Touch.le ⟨2105088,
    0x4680801600000000000000000000000000000000000000, 0x434500004800000000000000060000000000000000000000000⟩ T) : ∀
    a0, Kept T s0 a0 →
    ResKept T s0 (execHeadlessBacklogDeliver a0) := by
  intro a0 h0
  unfold execHeadlessBacklogDeliver
  refine next_kept ?_
  split
  · exact h0
  · refine ite_holds (P := (Kept T s0)) ?_ ?_
    · exact h0
    · extract_lets +onlyGivenNames -merge x5
      subst x5
      beta_reduce
      extract_lets +onlyGivenNames -merge x6
      refine ite_holds (P := (Kept T s0)) ?_ ?_
      · exact (with_base (P := (Kept T s0)) (kept_toFaultBacklog (tr (by decide) hT) _ _ h0) (fun hb8 => (kept_up512
          (land_le (by decide) hT.1) hb8)))
      · split
        · rename_i v9 heq10
          have hv9 : Kept T s0 v9 := holds_eq (P := (Snd (Kept T s0))) heq10 (by
              exact (kept_notePass (tr (by decide) hT) _ _ h0))
          exact (with_base (P := (Kept T s0)) (kept_noteWent (tr (by decide) hT) _ _ hv9) (fun hb11 => (kept_up512
              (land_le (by decide) hT.1) hb11)))
        · rename_i v12 heq13
          have hv12 : Kept T s0 v12 := holds_eq (P := (Snd (Kept T s0))) heq13 (by
              exact (kept_notePass (tr (by decide) hT) _ _ h0))
          split
          · rename_i v14 heq15
            have hv14 : Kept T s0 v14 := (holds_eq (P := (OptHolds (Kept T s0))) heq15 (by
                exact kept_noteMiss (tr (by decide) hT) _ _ hv12)) v14 rfl
            exact (kept_up512 (land_le (by decide) hT.1) hv14)
          · exact hv12

theorem kept_execIrqModTimer {T : Touch} {s0 : State} (hT : Touch.le ⟨3328,
    0x4000000000000000000000000000000000000000000000, 0x4000000000000000000000000000000000000000000000000⟩ T) : ∀ a0
    a1, Kept T s0 a1 →
    ResKept T s0 (execIrqModTimer a0 a1) := by
  intro a0 a1 h1
  unfold execIrqModTimer
  refine next_kept ?_
  split
  · extract_lets +onlyGivenNames -merge x2
    exact (ite_holds (P := (Kept T s0)) (kept_ringRaise (tr (by decide) hT) _ _ h1) h1)
  · exact h1

theorem kept_noteNext {T : Touch} {s0 : State} (hT : Touch.le ⟨2105088,
    0x4680801600000000000000000000000000000000000000, 0x36500004800000000000000040000000000000000000000000⟩ T) : ∀ a0
    a1, Kept T s0 a1 →
    Kept T s0 (noteNext a0 a1) := by
  intro a0 a1 h1
  unfold noteNext
  refine ite_holds (P := (Kept T s0)) ?_ ?_
  · exact (kept_toBacklog (tr (by decide) hT) _ _ h1)
  · extract_lets +onlyGivenNames -merge x0
    refine ite_holds (P := (Kept T s0)) ?_ ?_
    · exact (kept_toFaultBacklog (tr (by decide) hT) _ _ h1)
    · split
      · rename_i v1 heq2
        have hv1 : Kept T s0 v1 := holds_eq (P := (Snd (Kept T s0))) heq2 (by
            exact (kept_notePut (tr (by decide) hT) _ _ h1))
        exact hv1
      · rename_i v3 heq4
        have hv3 : Kept T s0 v3 := holds_eq (P := (Snd (Kept T s0))) heq4 (by
            exact (kept_notePut (tr (by decide) hT) _ _ h1))
        refine getD_holds (P := (Kept T s0)) ?_ ?_
        · exact kept_noteMiss (tr (by decide) hT) _ _ hv3
        · exact (kept_toBacklog (tr (by decide) hT) _ _ hv3)

theorem kept_execRingDisable {T : Touch} {s0 : State} (hT : Touch.le ⟨3072,
    0x600000000000000000000000000000000000000, 0x0⟩ T) : ∀ a0 a1 a2, Kept T s0 a2 →
    ResKept T s0 (execRingDisable a0 a1 a2) := by
  intro a0 a1 a2 h2
  unfold execRingDisable
  refine next_kept ?_
  refine kept_far (tr (by decide) hT) _ _ _ ?_ h2
  · intro y0 hy0
    exact (kept_ringDisable (tr (by decide) hT) _ _ hy0)

theorem kept_execRingEnable {T : Touch} {s0 : State} (hT : Touch.le ⟨3584,
    0x600000000000001600000000000000000000000000000000000000, 0x800000000000000000000000000000000000000000000000⟩ T)
    : ∀ a0 a1 a2, Kept T s0 a2 →
    ResKept T s0 (execRingEnable a0 a1 a2) := by
  intro a0 a1 a2 h2
  unfold execRingEnable
  refine next_kept ?_
  refine kept_far (tr (by decide) hT) _ _ _ ?_ h2
  · intro y0 hy0
    exact (kept_ringEnable (tr (by decide) hT) _ _ _ hy0)

theorem kept_readEntry {T : Touch} {s0 : State} (hT : Touch.le ⟨7168,
    0x680000000000000000000000000000000000000000000, 0x30500000000000000000000000000000000000000000000000⟩ T) : ∀ a0
    a1 a2, Kept T s0 a2 →
    Snd (Kept T s0) (readEntry a0 a1 a2) := by
  intro a0 a1 a2 h2
  unfold readEntry
  split
  · refine snd_holds (P := (Kept T s0)) ?_
    exact h2
  · split
    · rename_i v3 v4 heq5
      have hv4 : Kept T s0 v4 := holds_eq (P := (Snd (Kept T s0))) heq5 (by
          exact (kept_hostRead (tr (by decide) hT) _ _ _ h2))
      refine snd_holds (P := (Kept T s0)) ?_
      exact hv4

theorem kept_readRun {T : Touch} {s0 : State} (hT : Touch.le ⟨7168, 0x680000000000000000000000000000000000000000000,
    0x30500000000000000000000000000000000000000000000000⟩ T) : ∀ a0 a1 a2 a3 a4 a5, Kept T s0 a5 →
    Snd (Snd (Kept T s0)) (readRun a0 a1 a2 a3 a4 a5) := by
  intro r tail f
  induction f with
  | zero => exact fun i acc s h => h
  | succ f ih =>
    intro i acc s h
    unfold readRun
    refine ite_holds (P := Snd (Snd (Kept T s0))) h ?_
    have h1 := kept_readEntry (tr (by decide) hT) r i s h
    split
    · rename_i heq; rw [heq] at h1; exact h1
    · rename_i heq; rw [heq] at h1; exact ite_holds (P := Snd (Snd (Kept T s0))) h1 (ih _ _ _ h1)

theorem kept_fetchChains {T : Touch} {s0 : State} (hT : Touch.le ⟨7424,
    0x4680800e00000000000000000000000000000000000000, 0x34500004000000000000000000000000000000000000000000⟩ T) : ∀ a0
    a1 a2, Kept T s0 a2 →
    Kept T s0 (fetchChains a0 a1 a2) := by
  intro r f
  induction f with
  | zero => exact fun s h => h
  | succ f ih =>
    intro s h
    unfold fetchChains
    extract_lets x
    refine ite_holds (P := Kept T s0) h ?_
    have h1 := kept_readRun (tr (by decide) hT) r (tailOf s r) (ringSize s r) (headOf s r) [] s h
    split
    · rename_i heq; rw [heq] at h1; exact ite_holds (P := Kept T s0) h1 (kept_stopLost (tr (by decide) hT) _ _ h1)
    · rename_i heq; rw [heq] at h1
      extract_lets n
      refine ite_holds (P := Kept T s0) h1 ?_
      extract_lets
      split
      rename_i heq
      have h5 := holds_eq (P := Snd (Kept T s0)) heq (kept_ringWb (tr (by decide) hT) _ _ (kept_setUnits (tr (by
          decide) hT) _ _ _ (kept_setRing (tr (by decide) hT) _ _ _
        (kept_setHead (tr (by decide) hT) _ _ _ h1))))
      exact ite_holds (P := Kept T s0) (ih _ h5) (kept_stopLost (tr (by decide) hT) _ _ h5)

theorem kept_prefetch {T : Touch} {s0 : State} (hT : Touch.le ⟨7424,
    0x4680800600000000000000000000000000000000000000, 0x34500004000000000000000000000000000000000000000000⟩ T) : ∀ a0
    a1 a2, Kept T s0 a2 →
    Kept T s0 (prefetch a0 a1 a2) := by
  intro r f
  induction f with
  | zero => exact fun s h => h
  | succ f ih =>
    intro s h
    unfold prefetch
    extract_lets x
    refine ite_holds (P := Kept T s0) h ?_
    have h1 := kept_readEntry (tr (by decide) hT) r x.preAt s h
    split
    · rename_i heq; rw [heq] at h1; exact kept_stopLost (tr (by decide) hT) _ _ h1
    · rename_i heq; rw [heq] at h1; exact ih _ (kept_setRing (tr (by decide) hT) _ _ _ h1)

theorem kept_fetchRx {T : Touch} {s0 : State} (hT : Touch.le ⟨7424, 0x4680800600000000000000000000000000000000000000,
    0x34500004000000000000000000000000000000000000000000⟩ T) : ∀ a0 a1, Kept T s0 a1 →
    Kept T s0 (fetchRx a0 a1) := by
  intro a0 a1 h1
  unfold fetchRx
  extract_lets +onlyGivenNames -merge x0
  extract_lets +onlyGivenNames -merge x1
  have hx1 : Kept T s0 x1 := (kept_prefetch (tr (by decide) hT) _ _ _ h1)
  clear_value x1
  refine ite_holds (P := (Kept T s0)) ?_ ?_
  · exact hx1
  · split
    · rename_i v2 v3 heq4
      have hv3 : Kept T s0 v3 := holds_eq (P := (Snd (Kept T s0))) heq4 (by
          exact (kept_ringWb (tr (by decide) hT) _ _ hx1))
      exact (ite_holds (P := (Kept T s0)) hv3 (kept_stopLost (tr (by decide) hT) _ _ hv3))

theorem kept_execRingFetch {T : Touch} {s0 : State} (hT : Touch.le ⟨7424,
    0x4680800e00000000000000000000000000000000000000, 0x34500004000000000000000000000000000000000000000000⟩ T) : ∀ a0
    a1, Kept T s0 a1 →
    ResKept T s0 (execRingFetch a0 a1) := by
  intro a0 a1 h1
  unfold execRingFetch
  refine next_kept ?_
  exact (ite_holds (P := (Kept T s0)) (ite_holds (P := (Kept T s0)) (kept_fetchRx (tr (by decide) hT) _ _ h1)
      (kept_fetchChains (tr (by decide) hT) _ _ _ h1)) h1)

theorem kept_ringIdle {T : Touch} {s0 : State} (hT : Touch.le ⟨7424,
    0x4680000400000000000000000000000000000000000000, 0x34500000000000000000000000000000000000000000000000⟩ T) : ∀ a0
    a1, Kept T s0 a1 →
    Kept T s0 (ringIdle a0 a1) := by
  intro a0 a1 h1
  unfold ringIdle
  refine ite_holds (P := (Kept T s0)) ?_ ?_
  · extract_lets +onlyGivenNames -merge x0
    have hx0 : Kept T s0 x0 := (kept_State_setFld (tr (by decide) hT) _ _ _ _ _ h1 (hasR_of ixR_HOST_RING_STATUS (by
        decide) hT))
    clear_value x0
    extract_lets +onlyGivenNames -merge x1
    have hx1 : Kept T s0 x1 := (ite_holds (P := (Kept T s0)) hx0 (of_snd (kept_ringWb (tr (by decide) hT) _ _ hx0)))
    clear_value x1
    exact (kept_ringRaise (tr (by decide) hT) _ _ hx1)
  · exact h1

theorem kept_execRingIdle {T : Touch} {s0 : State} (hT : Touch.le ⟨7424,
    0x4680000400000000000000000000000000000000000000, 0x34500000000000000000000000000000000000000000000000⟩ T) : ∀ a0
    a1, Kept T s0 a1 →
    ResKept T s0 (execRingIdle a0 a1) := by
  intro a0 a1 h1
  unfold execRingIdle
  refine next_kept ?_
  exact (kept_ringIdle (tr (by decide) hT) _ _ h1)

theorem kept_rxBufferDescriptor {T : Touch} {s0 : State} (hT : Touch.le ⟨7424,
    0x4680800e00000000000000000000000000000000000000, 0x34500004000000000000000000000000000000000000000000⟩ T) : ∀ a0
    a1, Kept T s0 a1 →
    Kept T s0 (rxBufferDescriptor a0 a1) := by
  intro a0 a1 h1
  unfold rxBufferDescriptor
  extract_lets +onlyGivenNames -merge x0
  split
  · exact h1
  · extract_lets +onlyGivenNames -merge x5
    refine ite_holds (P := (Kept T s0)) ?_ ?_
    · extract_lets +onlyGivenNames -merge x6
      exact (kept_setRing (tr (by decide) hT) _ _ _ h1)
    · refine ite_holds (P := (Kept T s0)) ?_ ?_
      · exact h1
      · extract_lets +onlyGivenNames -merge x7
        extract_lets +onlyGivenNames -merge x8
        have hx8 : Kept T s0 x8 := (kept_setRing (tr (by decide) hT) _ _ _ h1)
        clear_value x8
        exact (kept_rxCount (tr (by decide) hT) _ _ _ (kept_setUnits (tr (by decide) hT) _ _ _ hx8))

theorem kept_execRxBufferDescriptor {T : Touch} {s0 : State} (hT : Touch.le ⟨7424,
    0x4680800e00000000000000000000000000000000000000, 0x34500004000000000000000000000000000000000000000000⟩ T) : ∀ a0
    a1, Kept T s0 a1 →
    ResKept T s0 (execRxBufferDescriptor a0 a1) := by
  intro a0 a1 h1
  unfold execRxBufferDescriptor
  refine next_kept ?_
  exact (kept_rxBufferDescriptor (tr (by decide) hT) _ _ h1)

theorem kept_execWinCfgWrite {T : Touch} {s0 : State} (hT : Touch.le ⟨1536,
    0x60000000000000003e000000000000000000000000000000000000, 0x800000000000000000000000000000000000000000000000⟩ T)
    : ∀ a0 a1 a2 a3 a4, Kept T s0 a4 →
    ResKept T s0 (execWinCfgWrite a0 a1 a2 a3 a4) := by
  intro a0 a1 a2 a3 a4 h4
  unfold execWinCfgWrite
  extract_lets +onlyGivenNames -merge x0
  refine next_kept ?_
  refine kept_far (tr (by decide) hT) _ _ _ ?_ h4
  · intro y1 hy1
    exact (kept_winWrite (tr (by decide) hT) _ _ _ _ hy1)

/-! ### Machine/Flash.lean -/

theorem kept_flashErase {T : Touch} {s0 : State} (hT : Touch.le ⟨16384, 0x0, 0x0⟩ T) : ∀ a0 a1 a2, Kept T s0 a2 →
    Kept T s0 (flashErase a0 a1 a2) := by
  intro a0 a1 a2 h2
  unfold flashErase
  exact (kept_up16384 (land_le (by decide) hT.1) h2)

theorem kept_flashPut {T : Touch} {s0 : State} (hT : Touch.le ⟨16384, 0x0, 0x0⟩ T) : ∀ a0 a1 a2, Kept T s0 a2 →
    Kept T s0 (flashPut a0 a1 a2) := by
  intro a0 a1 a2 h2
  unfold flashPut
  exact (kept_up16384 (land_le (by decide) hT.1) h2)

theorem kept_nvmSource {T : Touch} {s0 : State} (hT : Touch.le ⟨6272,
    0x680000000000000000000000000000000000000000000, 0x30500000000000000000000000000000000000000000000000⟩ T) : ∀ a0
    a1 a2, Kept T s0 a2 →
    Snd (Kept T s0) (nvmSource a0 a1 a2) := by
  intro a0 a1 a2 h2
  unfold nvmSource
  extract_lets +onlyGivenNames -merge x0
  extract_lets +onlyGivenNames -merge x1
  refine snd_holds (P := (Kept T s0)) ?_
  exact (foldl_holds (P := (Kept T s0)) (fun _ _ hm2 => (kept_hostMemError (tr (by decide) hT) _ _ _ hm2))
      (kept_State_fresh (tr (by decide) hT) _ h2))

theorem kept_nvmCopy {T : Touch} {s0 : State} (hT : Touch.le ⟨22656, 0x680000000000000000000000000000000000000000000,
    0x30500000000000000000000000000000000000000000000000⟩ T) : ∀ a0 a1 a2, Kept T s0 a2 →
    Kept T s0 (nvmCopy a0 a1 a2) := by
  intro a0 a1 a2 h2
  unfold nvmCopy
  refine ite_holds (P := (Kept T s0)) ?_ ?_
  · exact (of_snd (kept_memWrite (tr (by decide) hT) _ _ _ (kept_State_fresh (tr (by decide) hT) _ h2)))
  · extract_lets +onlyGivenNames -merge x0
    have hx0 : Kept T s0 x0 := (ite_holds (P := (Kept T s0)) (kept_flashErase (tr (by decide) hT) _ _ _ h2)
        (ite_holds (P := (Kept T s0)) (kept_flashErase (tr (by decide) hT) _ _ _ h2) h2))
    clear_value x0
    split
    · exact (kept_flashPut (tr (by decide) hT) _ _ _ hx0)
    · split
      · rename_i v4 v5 heq6
        have hv5 : Kept T s0 v5 := holds_eq (P := (Snd (Kept T s0))) heq6 (by
            exact (kept_nvmSource (tr (by decide) hT) _ _ _ hx0))
        exact (kept_flashPut (tr (by decide) hT) _ _ _ hv5)

theorem kept_nvmCut {T : Touch} {s0 : State} (hT : Touch.le ⟨22656, 0x680000000000000000000000000000000000000000000,
    0x30500000000000000000000000000000000000000000000000⟩ T) : ∀ a0 a1, Kept T s0 a1 →
    Kept T s0 (nvmCut a0 a1) := by
  intro a0 a1 h1
  unfold nvmCut
  exact (kept_nvmCopy (tr (by decide) hT) _ _ _ (kept_State_fresh (tr (by decide) hT) _ h1))

theorem kept_setSlot {T : Touch} {s0 : State} (hT : Touch.le ⟨16384, 0x0, 0x0⟩ T) : ∀ a0 a1 a2, Kept T s0 a2 →
    Kept T s0 (setSlot a0 a1 a2) := by
  intro a0 a1 a2 h2
  unfold setSlot
  exact (ite_holds (P := (Kept T s0)) (kept_up16384 (land_le (by decide) hT.1) h2) (kept_up16384 (land_le (by decide)
      hT.1) h2))

theorem kept_setCopy {T : Touch} {s0 : State} (hT : Touch.le ⟨16384, 0x0, 0x0⟩ T) : ∀ a0 a1 a2, Kept T s0 a2 →
    Kept T s0 (setCopy a0 a1 a2) := by
  intro a0 a1 a2 h2
  unfold setCopy
  exact (ite_holds (P := (Kept T s0)) (kept_up16384 (land_le (by decide) hT.1) h2) (kept_up16384 (land_le (by decide)
      hT.1) h2))

/-! ### Machine/Plane.lean -/

theorem kept_enterHeadless {T : Touch} {s0 : State} (hT : Touch.le ⟨1792,
    0x40000000004000000000000000000000000000000000000000000000, 0x4000000000000000000000000000000000000000000000000⟩
    T) : ∀ a0 a1, Kept T s0 a1 →
    Kept T s0 (enterHeadless a0 a1) := by
  intro a0 a1 h1
  unfold enterHeadless
  extract_lets +onlyGivenNames -merge x0
  have hx0 : Kept T s0 x0 := (kept_State_setFld (tr (by decide) hT) _ _ _ _ _ (kept_State_setFld (tr (by decide) hT)
      _ _ _ _ _ h1 (hasR_of ixR_SYS_PLANE_STATE (by decide) hT)) (hasR_of ixR_SYS_PLANE_STATE (by decide) hT))
  clear_value x0
  exact (kept_raiseVec (tr (by decide) hT) _ _ (kept_up512 (land_le (by decide) hT.1) hx0))

theorem kept_quietRings {T : Touch} {s0 : State} (hT : Touch.le ⟨2048, 0x800600000000000000000000000000000000000000,
    0x4000000000000000000000000000000000000000000⟩ T) : ∀ a0, Kept T s0 a0 →
    Kept T s0 (quietRings a0) := by
  intro a0 h0
  unfold quietRings
  exact (foldl_holds (P := (Kept T s0)) (fun _ _ hm0 => (ite_holds (P := (Kept T s0)) (kept_discardHeld (tr (by
      decide) hT) _ _ (kept_setRing (tr (by decide) hT) _ _ _ (ite_holds (P := (Kept T s0)) (kept_stopRing (tr (by
      decide) hT) _ _ hm0) hm0))) hm0)) h0)

theorem kept_abruptHeadless {T : Touch} {s0 : State} (hT : Touch.le ⟨3840,
    0x40000000004000800600000000000000000000000000000000000000, 0x4000004000000000000000000000000000000000000000000⟩
    T) : ∀ a0 a1, Kept T s0 a1 →
    Kept T s0 (abruptHeadless a0 a1) := by
  intro a0 a1 h1
  unfold abruptHeadless
  exact (ite_holds (P := (Kept T s0)) (ite_holds (P := (Kept T s0)) (kept_State_setFld (tr (by decide) hT) _ _ _ _ _
      (kept_quietRings (tr (by decide) hT) _ h1) (hasR_of ixR_SYS_PLANE_STATE (by decide) hT)) h1)
      (kept_enterHeadless (tr (by decide) hT) _ _ (kept_quietRings (tr (by decide) hT) _ h1)))

theorem kept_appResetMessage {T : Touch} {s0 : State} (hT : Touch.le ⟨3840,
    0x40000000004000800600000000000000000000000000000000000000, 0x4000004000000000000000000000000000000000000000000⟩
    T) : ∀ a0, Kept T s0 a0 →
    Kept T s0 (appResetMessage a0) := by
  intro a0 h0
  unfold appResetMessage
  exact (ite_holds (P := (Kept T s0)) (kept_abruptHeadless (tr (by decide) hT) _ _ (kept_idlSend (tr (by decide) hT)
      _ _ _ _ _ h0)) (kept_up1024 (land_le (by decide) hT.1) h0))

theorem kept_bootLost {T : Touch} {s0 : State} (hT : Touch.le ⟨16384,
    0x100000000000000000000000000000000000000000000000000, 0x0⟩ T) : ∀ a0, Kept T s0 a0 →
    Kept T s0 (bootLost a0) := by
  intro a0 h0
  unfold bootLost
  refine ite_holds (P := (Kept T s0)) ?_ ?_
  · extract_lets +onlyGivenNames -merge x0
    have hx0 : Kept T s0 x0 := (kept_State_setReg _ _ _ _ _ h0 (hasR_of ixR_NVM_BOOT_SEL (by decide) hT))
    clear_value x0
    exact (kept_up16384 (land_le (by decide) hT.1) hx0)
  · exact h0

theorem kept_noteReset {T : Touch} {s0 : State} (hT : Touch.le ⟨9216,
    0x100000000000000000000000000000000000000000000000000000000, 0x0⟩ T) : ∀ a0 a1 a2 a3, Kept T s0 a3 →
    Kept T s0 (noteReset a0 a1 a2 a3) := by
  intro a0 a1 a2 a3 h3
  unfold noteReset
  extract_lets +onlyGivenNames -merge x0
  have hx0 : Kept T s0 x0 := (kept_State_setReg _ _ _ _ _ h3 (hasR_of ixR_SYS_RESET_STATUS (by decide) hT))
  clear_value x0
  exact (kept_up9216 (land_le (by decide) hT.1) hx0)

theorem kept_nvmStop {T : Touch} {s0 : State} (hT : Touch.le ⟨22656,
    0x400000680000000000000000000000000000000000000000000,
    0x40000030500000000000000000000000000000000000000000000000⟩ T) : ∀ a0 a1, Kept T s0 a1 →
    Kept T s0 (nvmStop a0 a1) := by
  intro a0 a1 h1
  unfold nvmStop
  split
  · exact h1
  · extract_lets +onlyGivenNames -merge x3
    extract_lets +onlyGivenNames -merge x4
    have hx4 : Kept T s0 x4 := (kept_nvmCut (tr (by decide) hT) _ _ (kept_up16384 (land_le (by decide) hT.1) h1))
    clear_value x4
    extract_lets +onlyGivenNames -merge x5
    have hx5 : Kept T s0 x5 := (kept_State_countIf (tr (by decide) hT) _ _ _ _ _ hx4 (hasC_of ixC_NVM_COMMIT_FAIL_CNT
        (by decide) hT))
    clear_value x5
    exact (kept_State_setReg _ _ _ _ _ hx5 (hasR_of ixR_NVM_STATUS (by decide) hT))

theorem kept_appReset {T : Touch} {s0 : State} (hT : Touch.le ⟨32640,
    0x140000500004680800600000000000000000000000000000000000000,
    0x40000034500004000000000000000000000000000000000000000000⟩ T) : ∀ a0 a1, Kept T s0 a1 →
    Kept T s0 (appReset a0 a1) := by
  intro a0 a1 h1
  unfold appReset
  extract_lets +onlyGivenNames -merge x0
  extract_lets +onlyGivenNames -merge x1
  have hx1 : Kept T s0 x1 := (kept_noteReset (tr (by decide) hT) _ _ _ _ (kept_nvmStop (tr (by decide) hT) _ _
      (kept_appResetMessage (tr (by decide) hT) _ h1)))
  clear_value x1
  exact (kept_bootLost (tr (by decide) hT) _ (kept_up25600 (land_le (by decide) hT.1) hx1))

theorem kept_appRequest {T : Touch} {s0 : State} (hT : Touch.le ⟨32640,
    0x140000500004680800600000000000000000000000000000000000000,
    0x40000034500004000000000000000000000000000000000000000000⟩ T) : ∀ a0 a1, Kept T s0 a1 →
    Kept T s0 (appRequest a0 a1) := by
  intro a0 a1 h1
  unfold appRequest
  exact (ite_holds (P := (Kept T s0)) h1 (kept_appReset (tr (by decide) hT) _ _ h1))

theorem kept_headlessExit {T : Touch} {s0 : State} (hT : Touch.le ⟨1792,
    0x40600000004000000000000000000000000000000000000000000000, 0x4800000000000000000000000000000000000000000000000⟩
    T) : ∀ a0 a1, Kept T s0 a1 →
    Kept T s0 (headlessExit a0 a1) := by
  intro a0 a1 h1
  unfold headlessExit
  exact (ite_holds (P := (Kept T s0)) (kept_logWrite (tr (by decide) hT) _ _ _ h1) (ite_holds (P := (Kept T s0))
      (kept_raiseVec (tr (by decide) hT) _ _ (kept_State_setFld (tr (by decide) hT) _ _ _ _ _ h1 (hasR_of
      ixR_SYS_PLANE_STATE (by decide) hT))) h1))

theorem kept_headlessReq {T : Touch} {s0 : State} (hT : Touch.le ⟨2560, 0x600000000000000000000000000000000000000,
    0x0⟩ T) : ∀ a0, Kept T s0 a0 →
    Kept T s0 (headlessReq a0) := by
  intro a0 h0
  unfold headlessReq
  refine ite_holds (P := (Kept T s0)) ?_ ?_
  · exact h0
  · extract_lets +onlyGivenNames -merge x0
    have hx0 : Kept T s0 x0 := (foldl_holds (P := (Kept T s0)) (fun _ _ hm1 => (ite_holds (P := (Kept T s0))
        (kept_stopRing (tr (by decide) hT) _ _ hm1) hm1)) h0)
    clear_value x0
    exact (kept_up512 (land_le (by decide) hT.1) hx0)

theorem kept_idlFlush {T : Touch} {s0 : State} (hT : Touch.le ⟨7936,
    0x40600000004680800600000000000000000000000000000000000000, 0x34d00004000000000000000000000000000000000000000000⟩
    T) : ∀ a0, Kept T s0 a0 →
    Kept T s0 (idlFlush a0) := by
  intro a0 h0
  unfold idlFlush
  extract_lets +onlyGivenNames -merge x0
  extract_lets +onlyGivenNames -merge x1
  extract_lets +onlyGivenNames -merge x2
  extract_lets +onlyGivenNames -merge x3
  extract_lets +onlyGivenNames -merge x4
  extract_lets +onlyGivenNames -merge x5
  have hx5 : Kept T s0 x5 := (kept_up1024 (land_le (by decide) hT.1) h0)
  clear_value x5
  extract_lets +onlyGivenNames -merge x6
  have hx6 : Kept T s0 x6 := (ite_holds (P := (Kept T s0)) (kept_abruptHeadless (tr (by decide) hT) _ _ (kept_idlSend
      (tr (by decide) hT) _ _ _ _ _ hx5)) hx5)
  clear_value x6
  extract_lets +onlyGivenNames -merge x7
  have hx7 : Kept T s0 x7 := (foldl_holds (P := (Kept T s0)) (fun _ _ hm8 => (kept_takeInt (tr (by decide) hT) _ _
      (kept_idlSend (tr (by decide) hT) _ _ _ _ _ hm8))) (kept_flushDma (tr (by decide) hT) _ hx6))
  clear_value x7
  extract_lets +onlyGivenNames -merge x9
  have hx9 : Kept T s0 x9 := (foldl_holds (P := (Kept T s0)) (fun _ _ hm10 => (kept_recordFault (tr (by decide) hT) _
      _ (kept_idlSend (tr (by decide) hT) _ _ _ _ _ hm10))) hx7)
  clear_value x9
  exact (kept_State_count _ _ _ _ _ hx9 (hasC_of ixC_SYS_ACCESS_FAULT_CNT (by decide) hT))

theorem kept_idlUp {T : Touch} {s0 : State} (hT : Touch.le ⟨1024,
    0x40000000008000000000000000000000000000000000000000000000, 0x0⟩ T) : ∀ a0, Kept T s0 a0 →
    Kept T s0 (idlUp a0) := by
  intro a0 h0
  unfold idlUp
  extract_lets +onlyGivenNames -merge x0
  have hx0 : Kept T s0 x0 := (kept_State_setFld (tr (by decide) hT) _ _ _ _ _ (kept_State_setReg _ _ _ _ _ h0
      (hasR_of ixR_IDL_STATUS (by decide) hT)) (hasR_of ixR_SYS_PLANE_STATE (by decide) hT))
  clear_value x0
  exact (kept_up1024 (land_le (by decide) hT.1) hx0)

theorem kept_execAppResetMessage {T : Touch} {s0 : State} (hT : Touch.le ⟨3840,
    0x40000000004000800600000000000000000000000000000000000000, 0x4000004000000000000000000000000000000000000000000⟩
    T) : ∀ a0, Kept T s0 a0 →
    ResKept T s0 (execAppResetMessage a0) := by
  intro a0 h0
  unfold execAppResetMessage
  refine next_kept ?_
  exact (kept_appResetMessage (tr (by decide) hT) _ h0)

theorem kept_execHeadlessEntryComplete {T : Touch} {s0 : State} (hT : Touch.le ⟨1792,
    0x40000000004000000000000000000000000000000000000000000000, 0x4000000000000000000000000000000000000000000000000⟩
    T) : ∀ a0, Kept T s0 a0 →
    ResKept T s0 (execHeadlessEntryComplete a0) := by
  intro a0 h0
  unfold execHeadlessEntryComplete
  refine next_kept ?_
  exact (ite_holds (P := (Kept T s0)) (kept_enterHeadless (tr (by decide) hT) _ _ h0) h0)

theorem kept_execHeadlessExit {T : Touch} {s0 : State} (hT : Touch.le ⟨1792,
    0x40600000004000000000000000000000000000000000000000000000, 0x4800000000000000000000000000000000000000000000000⟩
    T) : ∀ a0 a1, Kept T s0 a1 →
    ResKept T s0 (execHeadlessExit a0 a1) := by
  intro a0 a1 h1
  unfold execHeadlessExit
  refine next_kept ?_
  refine kept_far (tr (by decide) hT) _ _ _ ?_ h1
  · intro y0 hy0
    exact (kept_headlessExit (tr (by decide) hT) _ _ hy0)

theorem kept_execHeadlessReq {T : Touch} {s0 : State} (hT : Touch.le ⟨3584,
    0x600000000000000000000000000000000000000, 0x0⟩ T) : ∀ a0 a1, Kept T s0 a1 →
    ResKept T s0 (execHeadlessReq a0 a1) := by
  intro a0 a1 h1
  unfold execHeadlessReq
  refine next_kept ?_
  refine kept_far (tr (by decide) hT) _ _ _ ?_ h1
  · intro y0 hy0
    exact (kept_headlessReq (tr (by decide) hT) _ hy0)

theorem kept_idlDown {T : Touch} {s0 : State} (hT : Touch.le ⟨1024,
    0x40000000008000000000000000000000000000000000000000000000, 0x0⟩ T) : ∀ a0, Kept T s0 a0 →
    Kept T s0 (idlDown a0) := by
  intro a0 h0
  unfold idlDown
  refine ite_holds (P := (Kept T s0)) ?_ ?_
  · extract_lets +onlyGivenNames -merge x0
    have hx0 : Kept T s0 x0 := (kept_State_setFld (tr (by decide) hT) _ _ _ _ _ (kept_State_setReg _ _ _ _ _ h0
        (hasR_of ixR_IDL_STATUS (by decide) hT)) (hasR_of ixR_SYS_PLANE_STATE (by decide) hT))
    clear_value x0
    exact (kept_up1024 (land_le (by decide) hT.1) hx0)
  · exact h0

theorem kept_execIdlFlitReplay {T : Touch} {s0 : State} (hT : Touch.le ⟨5376,
    0x4000000000c600000000000000000000000000000000000000000000, 0xc4400000000000000000000000000000000000000000000000⟩
    T) : ∀ a0, Kept T s0 a0 →
    ResKept T s0 (execIdlFlitReplay a0) := by
  intro a0 h0
  unfold execIdlFlitReplay
  refine next_kept ?_
  refine ite_holds (P := (Kept T s0)) ?_ ?_
  · extract_lets +onlyGivenNames -merge x0
    have hx0 : Kept T s0 x0 := (of_fst (kept_winEvent (tr (by decide) hT) _ _ _ (kept_State_count _ _ _ _ _ h0
        (hasC_of ixC_IDL_REPLAY_CNT (by decide) hT))))
    clear_value x0
    extract_lets +onlyGivenNames -merge x1
    exact (ite_holds (P := (Kept T s0)) (kept_idlDown (tr (by decide) hT) _ (kept_raiseNear (tr (by decide) hT) _ _
        (kept_State_count _ _ _ _ _ (kept_up1024 (land_le (by decide) hT.1) hx0) (hasC_of ixC_IDL_RETRAIN_CNT (by
        decide) hT)))) (kept_up1024 (land_le (by decide) hT.1) hx0))
  · exact h0

theorem kept_execIdlLossTimeout {T : Touch} {s0 : State} (hT : Touch.le ⟨3840,
    0x40000000004000800600000000000000000000000000000000000000, 0x4000004000000000000000000000000000000000000000000⟩
    T) : ∀ a0, Kept T s0 a0 →
    ResKept T s0 (execIdlLossTimeout a0) := by
  intro a0 h0
  unfold execIdlLossTimeout
  refine next_kept ?_
  split
  · exact (ite_holds (P := (Kept T s0)) (kept_abruptHeadless (tr (by decide) hT) _ _ h0) h0)
  · exact h0

theorem kept_execIdlTrainingLoss {T : Touch} {s0 : State} (hT : Touch.le ⟨1024,
    0x40000000008000000000000000000000000000000000000000000000, 0x0⟩ T) : ∀ a0, Kept T s0 a0 →
    ResKept T s0 (execIdlTrainingLoss a0) := by
  intro a0 h0
  unfold execIdlTrainingLoss
  refine next_kept ?_
  exact (kept_idlDown (tr (by decide) hT) _ h0)

/-! ### Machine/Control.lean -/

theorem kept_writeLog {T : Touch} {s0 : State} (hT : Touch.le ⟨4096, 0x0, 0x0⟩ T) : ∀ a0, Kept T s0 a0 →
    Kept T s0 (writeLog a0) := by
  intro a0 h0
  unfold writeLog
  split
  · exact h0
  · extract_lets +onlyGivenNames -merge x4
    exact (kept_up4096 (land_le (by decide) hT.1) h0)

theorem kept_mboxAnswer {T : Touch} {s0 : State} (hT : Touch.le ⟨1280,
    0x18004000000000000000000000000000000000000000000000, 0x1000004000000000000000000000000000000000000000000000000⟩
    T) : ∀ a0 a1 a2 a3, Kept T s0 a3 →
    Kept T s0 (mboxAnswer a0 a1 a2 a3) := by
  intro a0 a1 a2 a3 h3
  unfold mboxAnswer
  extract_lets +onlyGivenNames -merge x0
  have hx0 : Kept T s0 x0 := (foldl_holds (P := (Kept T s0)) (fun _ _ hm1 => (kept_State_setReg _ _ _ _ _ hm1
      (hasR_of ixR_KEEP_MBOX_DATA (by decide) hT))) h3)
  clear_value x0
  extract_lets +onlyGivenNames -merge x2
  have hx2 : Kept T s0 x2 := (kept_State_setFld (tr (by decide) hT) _ _ _ _ _ (kept_State_setFld (tr (by decide) hT)
      _ _ _ _ _ hx0 (hasR_of ixR_KEEP_MBOX_CMD (by decide) hT)) (hasR_of ixR_KEEP_MBOX_CMD (by decide) hT))
  clear_value x2
  extract_lets +onlyGivenNames -merge x3
  extract_lets +onlyGivenNames -merge x4
  have hx4 : Kept T s0 x4 := (kept_up1024 (land_le (by decide) hT.1) hx2)
  clear_value x4
  exact (kept_raiseNear (tr (by decide) hT) _ _ (kept_State_count _ _ _ _ _ hx4 (hasC_of ixC_KEEP_MBOX_CMD_CNT (by
      decide) hT)))

theorem kept_mboxServe {T : Touch} {s0 : State} (hT : Touch.le ⟨1280,
    0x18004000000000000000000000000000000000000000000000, 0x1000004000000000000000000000000000000000000000000000000⟩
    T) : ∀ a0 a1 a2 a3, (∀ z0, Kept T s0 z0 → Kept T s0 (a2 z0)) → Kept T s0 a3 →
    Kept T s0 (mboxServe a0 a1 a2 a3) := by
  intro a0 a1 a2 a3 h2 h3
  unfold mboxServe
  refine ite_holds (P := (Kept T s0)) ?_ ?_
  · refine ite_holds (P := (Kept T s0)) ?_ ?_
    · exact (kept_mboxAnswer (tr (by decide) hT) _ _ _ _ h3)
    · refine h2 _ h3

  · exact h3

theorem kept_ringOwner {T : Touch} {s0 : State} (hT : Touch.le ⟨1536,
    0x600000000800000000000000000000000000000000000000000000, 0x800000000000000000000000000000000000000000000000⟩ T)
    : ∀ a0 a1, Kept T s0 a1 →
    Kept T s0 (ringOwner a0 a1) := by
  intro a0 a1 h1
  unfold ringOwner
  exact (ite_holds (P := (Kept T s0)) (kept_State_setFld (tr (by decide) hT) _ _ _ _ _ h1 (hasR_of ixR_CTL_RING_OWNER
      (by decide) hT)) (kept_logNear (tr (by decide) hT) _ _ h1))

theorem kept_execFaultLogWrite {T : Touch} {s0 : State} (hT : Touch.le ⟨4096, 0x0,
    0x200000000000000000000000000000000000000000000000000000000⟩ T) : ∀ a0 a1, Kept T s0 a1 →
    ResKept T s0 (execFaultLogWrite a0 a1) := by
  intro a0 a1 h1
  unfold execFaultLogWrite
  refine next_kept ?_
  exact (ite_holds (P := (Kept T s0)) h1 (ite_holds (P := (Kept T s0)) (kept_writeLog (tr (by decide) hT) _ h1)
      (kept_State_count _ _ _ _ _ h1 (hasC_of ixC_NVM_FLASH_ERR_CNT (by decide) hT))))

theorem kept_intStays {T : Touch} {s0 : State} (hT : Touch.le ⟨1280, 0x0,
    0x4000000000000000000000000000000000000000000000000⟩ T) : ∀ a0 a1, Kept T s0 a1 →
    Kept T s0 (intStays a0 a1) := by
  intro a0 a1 h1
  unfold intStays
  split
  · exact (kept_newInt (tr (by decide) hT) _ _ (kept_noteInt (tr (by decide) hT) _ _ _ (kept_State_uncount _ _ _ _ h1
      (hasC_of ixC_CTL_INT_MERGE_CNT (by decide) hT))))
  · exact h1

theorem kept_intClear {T : Touch} {s0 : State} (hT : Touch.le ⟨1280,
    0x4000000000000000000000000000000000000000000000, 0x4000000000000000000000000000000000000000000000000⟩ T) : ∀ a0
    a1 a2, Kept T s0 a2 →
    Kept T s0 (intClear a0 a1 a2) := by
  intro a0 a1 a2 h2
  unfold intClear
  extract_lets +onlyGivenNames -merge x0
  extract_lets +onlyGivenNames -merge x1
  extract_lets +onlyGivenNames -merge x2
  have hx2 : Kept T s0 x2 := (foldl_holds (P := (Kept T s0)) (fun _ _ hm3 => (kept_intStays (tr (by decide) hT) _ _
      hm3)) h2)
  clear_value x2
  exact (kept_State_setReg _ _ _ _ _ hx2 (hasR_of ixR_CTL_INT_PEND (by decide) hT))

theorem kept_execIntPendClear {T : Touch} {s0 : State} (hT : Touch.le ⟨1280,
    0x4000000000000000000000000000000000000000000000, 0x4000000000000000000000000000000000000000000000000⟩ T) : ∀ a0
    a1 a2 a3, Kept T s0 a3 →
    ResKept T s0 (execIntPendClear a0 a1 a2 a3) := by
  intro a0 a1 a2 a3 h3
  unfold execIntPendClear
  refine next_kept ?_
  refine kept_near (tr (by decide) hT) _ _ ?_ h3
  · intro y0 hy0
    exact (kept_intClear (tr (by decide) hT) _ _ _ hy0)

theorem kept_mboxRestart {T : Touch} {s0 : State} (hT : Touch.le ⟨1280,
    0x18004000000000000000000000000000000000000000000000, 0x1000004000000000000000000000000000000000000000000000000⟩
    T) : ∀ a0 a1, Kept T s0 a1 →
    Kept T s0 (mboxRestart a0 a1) := by
  intro a0 a1 h1
  unfold mboxRestart
  exact (ite_holds (P := (Kept T s0)) (kept_mboxAnswer (tr (by decide) hT) _ _ _ _ h1) h1)

theorem kept_execKeeperRestart {T : Touch} {s0 : State} (hT : Touch.le ⟨29952,
    0x38004000000000000000000000000000000000000000000000, 0x1800004000000000000000000000000000000000000000000000000⟩
    T) : ∀ a0, Kept T s0 a0 →
    ResKept T s0 (execKeeperRestart a0) := by
  intro a0 h0
  unfold execKeeperRestart
  refine next_kept ?_
  refine ite_holds (P := (Kept T s0)) ?_ ?_
  · extract_lets +onlyGivenNames -merge x0
    extract_lets +onlyGivenNames -merge x1
    have hx1 : Kept T s0 x1 := (kept_keeperEvent (tr (by decide) hT) _ _ _ _ (kept_State_count _ _ _ _ _ h0 (hasC_of
        ixC_KEEP_RESTART_CNT (by decide) hT)))
    clear_value x1
    extract_lets +onlyGivenNames -merge x2
    have hx2 : Kept T s0 x2 := (kept_mboxRestart (tr (by decide) hT) _ _ (kept_mboxRestart (tr (by decide) hT) _ _
        hx1))
    clear_value x2
    extract_lets +onlyGivenNames -merge x3
    have hx3 : Kept T s0 x3 := (kept_State_setFld (tr (by decide) hT) _ _ _ _ _ hx2 (hasR_of ixR_KEEP_STATUS (by
        decide) hT))
    clear_value x3
    exact (kept_up25600 (land_le (by decide) hT.1) hx3)
  · exact h0

theorem kept_execMboxAppReset {T : Touch} {s0 : State} (hT : Touch.le ⟨32640,
    0x140000518004680800600000000000000000000000000000000000000,
    0x41000034500004000000000000000000000000000000000000000000⟩ T) : ∀ a0 a1, Kept T s0 a1 →
    ResKept T s0 (execMboxAppReset a0 a1) := by
  intro a0 a1 h1
  unfold execMboxAppReset
  refine next_kept ?_
  refine kept_mboxServe (tr (by decide) hT) _ _ _ _ ?_ h1
  · intro y0 hy0
    exact (ite_holds (P := (Kept T s0)) (kept_mboxAnswer (tr (by decide) hT) _ _ _ _ hy0) (ite_holds (P := (Kept T
        s0)) (kept_mboxAnswer (tr (by decide) hT) _ _ _ _ hy0) (kept_appRequest (tr (by decide) hT) _ _
        (kept_mboxAnswer (tr (by decide) hT) _ _ _ _ hy0))))

theorem kept_execMboxCommitShedOrder {T : Touch} {s0 : State} (hT : Touch.le ⟨9472,
    0x18804000000000000000000000000000000000000000000000,
    0x201000004000000000000000000000000000000000000000000000000⟩ T) : ∀ a0 a1 a2, Kept T s0 a2 →
    ResKept T s0 (execMboxCommitShedOrder a0 a1 a2) := by
  intro a0 a1 a2 h2
  unfold execMboxCommitShedOrder
  refine next_kept ?_
  refine kept_mboxServe (tr (by decide) hT) _ _ _ _ ?_ h2
  · intro y0 hy0
    extract_lets +onlyGivenNames -merge x1
    refine ite_holds (P := (Kept T s0)) ?_ ?_
    · exact (kept_mboxAnswer (tr (by decide) hT) _ _ _ _ hy0)
    · refine ite_holds (P := (Kept T s0)) ?_ ?_
      · exact (kept_mboxAnswer (tr (by decide) hT) _ _ _ _ (kept_State_count _ _ _ _ _ hy0 (hasC_of
          ixC_NVM_FLASH_ERR_CNT (by decide) hT)))
      · extract_lets +onlyGivenNames -merge x2
        extract_lets +onlyGivenNames -merge x3
        have hx3 : Kept T s0 x3 := (kept_up8192 (land_le (by decide) hT.1) hy0)
        clear_value x3
        extract_lets +onlyGivenNames -merge x4
        have hx4 : Kept T s0 x4 := (foldl_holds (P := (Kept T s0)) (fun _ _ hm5 => (kept_State_setReg _ _ _ _ _ hm5
            (hasR_of ixR_PWR_SHED_ORDER (by decide) hT))) hx3)
        clear_value x4
        exact (kept_mboxAnswer (tr (by decide) hT) _ _ _ _ hx4)

theorem kept_execMboxReadLog {T : Touch} {s0 : State} (hT : Touch.le ⟨1280,
    0x18004000000000000000000000000000000000000000000000, 0x1000004000000000000000000000000000000000000000000000000⟩
    T) : ∀ a0 a1, Kept T s0 a1 →
    ResKept T s0 (execMboxReadLog a0 a1) := by
  intro a0 a1 h1
  unfold execMboxReadLog
  refine next_kept ?_
  refine kept_mboxServe (tr (by decide) hT) _ _ _ _ ?_ h1
  · intro y0 hy0
    extract_lets +onlyGivenNames -merge x1
    refine ite_holds (P := (Kept T s0)) ?_ ?_
    · exact (kept_mboxAnswer (tr (by decide) hT) _ _ _ _ hy0)
    · split
      · exact (kept_mboxAnswer (tr (by decide) hT) _ _ _ _ hy0)
      · extract_lets +onlyGivenNames -merge x5
        exact (kept_mboxAnswer (tr (by decide) hT) _ _ _ _ hy0)

theorem kept_execMboxReadShedOrder {T : Touch} {s0 : State} (hT : Touch.le ⟨1280,
    0x18004000000000000000000000000000000000000000000000, 0x1000004000000000000000000000000000000000000000000000000⟩
    T) : ∀ a0 a1, Kept T s0 a1 →
    ResKept T s0 (execMboxReadShedOrder a0 a1) := by
  intro a0 a1 h1
  unfold execMboxReadShedOrder
  refine next_kept ?_
  refine kept_mboxServe (tr (by decide) hT) _ _ _ _ ?_ h1
  · intro y0 hy0
    exact (kept_mboxAnswer (tr (by decide) hT) _ _ _ _ hy0)

theorem kept_execMboxSetFirstAdmin {T : Touch} {s0 : State} (hT : Touch.le ⟨1280,
    0x18004000000000000000000000000000000000000000000000, 0x1000004000000000000000000000000000000000000000000000000⟩
    T) : ∀ a0 a1, Kept T s0 a1 →
    ResKept T s0 (execMboxSetFirstAdmin a0 a1) := by
  intro a0 a1 h1
  unfold execMboxSetFirstAdmin
  refine next_kept ?_
  refine kept_mboxServe (tr (by decide) hT) _ _ _ _ ?_ h1
  · intro y0 hy0
    extract_lets +onlyGivenNames -merge x1
    exact (kept_mboxAnswer (tr (by decide) hT) _ _ _ _ (kept_up1024 (land_le (by decide) hT.1) hy0))

theorem kept_execMboxStatus {T : Touch} {s0 : State} (hT : Touch.le ⟨1280,
    0x18004000000000000000000000000000000000000000000000, 0x1000004000000000000000000000000000000000000000000000000⟩
    T) : ∀ a0 a1 a2, Kept T s0 a2 →
    ResKept T s0 (execMboxStatus a0 a1 a2) := by
  intro a0 a1 a2 h2
  unfold execMboxStatus
  refine next_kept ?_
  refine kept_mboxServe (tr (by decide) hT) _ _ _ _ ?_ h2
  · intro y0 hy0
    exact (kept_mboxAnswer (tr (by decide) hT) _ _ _ _ hy0)

theorem kept_flushMsix {T : Touch} {s0 : State} (hT : Touch.le ⟨1280, 0x0, 0x0⟩ T) : ∀ a0, Kept T s0 a0 →
    Kept T s0 (flushMsix a0) := by
  intro a0 h0
  unfold flushMsix
  extract_lets +onlyGivenNames -merge x0
  exact (foldl_holds (P := (Kept T s0)) (fun _ _ hm1 => (kept_sendMsix (tr (by decide) hT) _ _ hm1)) (kept_up1024
      (land_le (by decide) hT.1) h0))

theorem kept_execMsixEntryUnmask {T : Touch} {s0 : State} (hT : Touch.le ⟨1280, 0x0, 0x0⟩ T) : ∀ a0 a1, Kept
    T s0 a1 →
    ResKept T s0 (execMsixEntryUnmask a0 a1) := by
  intro a0 a1 h1
  unfold execMsixEntryUnmask
  refine next_kept ?_
  exact (kept_flushMsix (tr (by decide) hT) _ (kept_up1024 (land_le (by decide) hT.1) h1))

theorem kept_execPcieLinkDown {T : Touch} {s0 : State} (hT : Touch.le ⟨7424,
    0x5000000600000000000000000000000000000000000000, 0xc000000000000000000000000000000000000000000000000⟩ T) : ∀ a0,
    Kept T s0 a0 →
    ResKept T s0 (execPcieLinkDown a0) := by
  intro a0 h0
  unfold execPcieLinkDown
  refine next_kept ?_
  refine ite_holds (P := (Kept T s0)) ?_ ?_
  · extract_lets +onlyGivenNames -merge x0
    have hx0 : Kept T s0 x0 := (kept_State_setReg _ _ _ _ _ h0 (hasR_of ixR_CTL_PCIE_STATUS (by decide) hT))
    clear_value x0
    refine ite_holds (P := (Kept T s0)) ?_ ?_
    · extract_lets +onlyGivenNames -merge x1
      have hx1 : Kept T s0 x1 := (foldl_holds (P := (Kept T s0)) (fun _ _ hm2 => (ite_holds (P := (Kept T s0))
          (kept_stopRing (tr (by decide) hT) _ _ hm2) hm2)) hx0)
      clear_value x1
      exact (kept_fault (tr (by decide) hT) _ _ _ _ _ (kept_raiseNear (tr (by decide) hT) _ _ (kept_State_count _ _ _
          _ _ hx1 (hasC_of ixC_CTL_PCIE_LINK_DOWN_CNT (by decide) hT))))
    · exact (kept_raiseNear (tr (by decide) hT) _ _ hx0)
  · exact h0

theorem kept_execPcieLinkUp {T : Touch} {s0 : State} (hT : Touch.le ⟨1280,
    0x5000000000000000000000000000000000000000000000, 0x4000000000000000000000000000000000000000000000000⟩ T) : ∀ a0
    a1 a2, Kept T s0 a2 →
    ResKept T s0 (execPcieLinkUp a0 a1 a2) := by
  intro a0 a1 a2 h2
  unfold execPcieLinkUp
  refine next_kept ?_
  extract_lets +onlyGivenNames -merge x0
  extract_lets +onlyGivenNames -merge x1
  have hx1 : Kept T s0 x1 := (kept_State_setReg _ _ _ _ _ h2 (hasR_of ixR_CTL_PCIE_STATUS (by decide) hT))
  clear_value x1
  exact (kept_flushMsix (tr (by decide) hT) _ (ite_holds (P := (Kept T s0)) hx1 (kept_raiseNear (tr (by decide) hT) _
      _ hx1)))

theorem kept_redfish {T : Touch} {s0 : State} (hT : Touch.le ⟨256, 0x0,
    0x6000000000000000000000000000000000000000000000000000000⟩ T) : ∀ a0 a1 a2, (∀ z0, Kept T s0 z0 → Kept T s0 (a1
    z0)) → Kept T s0 a2 →
    Kept T s0 (redfish a0 a1 a2) := by
  intro a0 a1 a2 h1 h2
  unfold redfish
  refine ite_holds (P := (Kept T s0)) ?_ ?_
  · extract_lets +onlyGivenNames -merge x0
    have hx0 : Kept T s0 x0 := (kept_State_count _ _ _ _ _ h2 (hasC_of ixC_KEEP_REDFISH_REQ_CNT (by decide) hT))
    clear_value x0
    refine ite_holds (P := (Kept T s0)) ?_ ?_
    · refine h1 _ hx0

    · exact (kept_State_emit (tr (by decide) hT) _ _ (kept_State_count _ _ _ _ _ hx0 (hasC_of
        ixC_KEEP_REDFISH_AUTH_FAIL_CNT (by decide) hT)))
  · exact h2

theorem kept_execRedfishGracefulRestart {T : Touch} {s0 : State} (hT : Touch.le ⟨32640,
    0x140000500004680800600000000000000000000000000000000000000,
    0x46000034500004000000000000000000000000000000000000000000⟩ T) : ∀ a0 a1, Kept T s0 a1 →
    ResKept T s0 (execRedfishGracefulRestart a0 a1) := by
  intro a0 a1 h1
  unfold execRedfishGracefulRestart
  refine next_kept ?_
  refine kept_redfish (tr (by decide) hT) _ _ _ ?_ h1
  · intro y0 hy0
    exact (ite_holds (P := (Kept T s0)) (kept_State_emit (tr (by decide) hT) _ _ hy0) (kept_appRequest (tr (by
        decide) hT) _ _ (kept_State_emit (tr (by decide) hT) _ _ hy0)))

theorem kept_redfishOp {T : Touch} {s0 : State} (hT : Touch.le ⟨1280, 0x0, 0x0⟩ T) : ∀ a0 a1, Kept T s0 a1 →
    Kept T s0 (redfishOp a0 a1) := by
  intro a0 a1 h1
  unfold redfishOp
  split
  · exact (ite_holds (P := (Kept T s0)) (kept_State_emit (tr (by decide) hT) _ _ (kept_up1024 (land_le (by decide)
      hT.1) h1)) (kept_State_emit (tr (by decide) hT) _ _ h1))
  · exact (kept_State_emit (tr (by decide) hT) _ _ (kept_up1024 (land_le (by decide) hT.1) h1))
  · exact (kept_State_emit (tr (by decide) hT) _ _ h1)
  · exact (kept_State_emit (tr (by decide) hT) _ _ h1)
  · split
    · exact (kept_State_emit (tr (by decide) hT) _ _ h1)
    · exact (kept_State_emit (tr (by decide) hT) _ _ h1)
  · exact (kept_State_emit (tr (by decide) hT) _ _ (kept_up1024 (land_le (by decide) hT.1) h1))
  · exact (kept_State_emit (tr (by decide) hT) _ _ (kept_up1024 (land_le (by decide) hT.1) h1))
  · exact (kept_State_emit (tr (by decide) hT) _ _ h1)
  · exact (kept_State_emit (tr (by decide) hT) _ _ h1)
  · exact (kept_State_emit (tr (by decide) hT) _ _ h1)

theorem kept_execRedfishRequest {T : Touch} {s0 : State} (hT : Touch.le ⟨1280, 0x0,
    0x6000000000000000000000000000000000000000000000000000000⟩ T) : ∀ a0 a1 a2, Kept T s0 a2 →
    ResKept T s0 (execRedfishRequest a0 a1 a2) := by
  intro a0 a1 a2 h2
  unfold execRedfishRequest
  refine next_kept ?_
  refine kept_redfish (tr (by decide) hT) _ _ _ ?_ h2
  · intro y0 hy0
    exact (kept_redfishOp (tr (by decide) hT) _ _ hy0)

theorem kept_execRingOwnerWrite {T : Touch} {s0 : State} (hT : Touch.le ⟨1536,
    0x600000000800000000000000000000000000000000000000000000, 0x800000000000000000000000000000000000000000000000⟩ T)
    : ∀ a0 a1 a2, Kept T s0 a2 →
    ResKept T s0 (execRingOwnerWrite a0 a1 a2) := by
  intro a0 a1 a2 h2
  unfold execRingOwnerWrite
  extract_lets +onlyGivenNames -merge x0
  refine next_kept ?_
  refine kept_guarded (tr (by decide) hT) _ _ _ ?_ h2
  · intro y1 hy1
    exact (kept_ringOwner (tr (by decide) hT) _ _ hy1)

theorem kept_serveUnknown {T : Touch} {s0 : State} (hT : Touch.le ⟨1280,
    0x18004000000000000000000000000000000000000000000000, 0x1000004000000000000000000000000000000000000000000000000⟩
    T) : ∀ a0, Kept T s0 a0 →
    Kept T s0 (serveUnknown a0) := by
  intro a0 h0
  unfold serveUnknown
  refine foldl_holds (P := (Kept T s0)) (fun b1 a2 hb1 => ?_) ?_
  · extract_lets +onlyGivenNames -merge x3
    refine ite_holds (P := (Kept T s0)) ?_ ?_
    · refine kept_mboxServe (tr (by decide) hT) _ _ _ _ ?_ hb1
      · intro y4 hy4
        exact (kept_mboxAnswer (tr (by decide) hT) _ _ _ _ hy4)
    · exact hb1
  · exact h0

end Sys2Proof.Machine
end

