-- ==== Sys2Proof/Laws/KeptLeaf.lean ====
section
/-!
SUPPORT. What the operations of these files of Machine leave alone: Tiles, Line, Shaper, Leaf, Cut, Mirror, Ingress, Receive.
-/
namespace Sys2Proof.Machine

/-! ### Machine/Tiles.lean -/

theorem kept_setPort {T : Touch} {s0 : State} (hT : Touch.le ⟨262144, 0x0, 0x0⟩ T) : ∀ a0 a1 a2, Kept T s0 a2 →
    Kept T s0 (setPort a0 a1 a2) := by
  intro a0 a1 a2 h2
  unfold setPort
  exact (kept_up262144 (land_le (by decide) hT.1) h2)

theorem kept_pauseSync {T : Touch} {s0 : State} (hT : Touch.le ⟨262144, 0x0, 0x0⟩ T) : ∀ a0 a1 a2, Kept T s0 a2 →
    Kept T s0 (pauseSync a0 a1 a2) := by
  intro a0 a1 a2 h2
  unfold pauseSync
  extract_lets +onlyGivenNames -merge x0
  extract_lets +onlyGivenNames -merge x1
  extract_lets +onlyGivenNames -merge x2
  extract_lets +onlyGivenNames -merge x3
  extract_lets +onlyGivenNames -merge x4
  extract_lets +onlyGivenNames -merge x5
  exact (ite_holds (P := (Kept T s0)) h2 (kept_setPort (tr (by decide) hT) _ _ _ h2))

theorem kept_dischargeCells {T : Touch} {s0 : State} (hT : Touch.le ⟨2359296, 0x0, 0x0⟩ T) : ∀ a0 a1 a2, Kept T s0 a2
    →
    Kept T s0 (dischargeCells a0 a1 a2) := by
  intro a0 a1 a2 h2
  unfold dischargeCells
  exact (kept_pauseSync (tr (by decide) hT) _ _ _ (kept_up2097152 (land_le (by decide) hT.1) h2))

theorem kept_regAdd {T : Touch} {s0 : State} (hT : Touch.le ⟨0, 0x0, 0x0⟩ T) : ∀ a0 a1 a2 a3, T.hasR a0 → Kept T s0
    a3 →
    Kept T s0 (regAdd a0 a1 a2 a3) := by
  intro a0 a1 a2 a3 h0 h3
  unfold regAdd
  exact (kept_State_setReg _ _ _ _ _ h3 h0)

theorem kept_relayOut {T : Touch} {s0 : State} (hT : Touch.le ⟨0, 0x4000000000000000000000000000000, 0x0⟩ T) : ∀ a0
    a1 a2, Kept T s0 a2 →
    Kept T s0 (relayOut a0 a1 a2) := by
  intro a0 a1 a2 h2
  unfold relayOut
  exact (kept_regAdd (tr (by decide) hT) _ _ _ _ (hasR_of ixR_SKY_RELAY_OUT (by decide) hT) h2)

theorem kept_cellGone {T : Touch} {s0 : State} (hT : Touch.le ⟨2359296, 0x4000000000000000000000000000000, 0x0⟩ T) :
    ∀ a0 a1, Kept T s0 a1 →
    Kept T s0 (cellGone a0 a1) := by
  intro a0 a1 h1
  unfold cellGone
  extract_lets +onlyGivenNames -merge x0
  have hx0 : Kept T s0 x0 := by
    subst x0
    split
    · exact (kept_dischargeCells (tr (by decide) hT) _ _ _ h1)
    · exact h1
  clear_value x0
  exact (ite_holds (P := (Kept T s0)) (kept_relayOut (tr (by decide) hT) _ _ _ hx0) hx0)

theorem kept_noteFree {T : Touch} {s0 : State} (hT : Touch.le ⟨1048576, 0x0, 0x0⟩ T) : ∀ a0 a1 a2, Kept T s0 a2 →
    Kept T s0 (noteFree a0 a1 a2) := by
  intro a0 a1 a2 h2
  unfold noteFree
  extract_lets +onlyGivenNames -merge x0
  exact (kept_up1048576 (land_le (by decide) hT.1) h2)

theorem kept_setTile {T : Touch} {s0 : State} (hT : Touch.le ⟨1048576, 0x0, 0x0⟩ T) : ∀ a0 a1 a2 a3, Kept T s0 a3 →
    Kept T s0 (setTile a0 a1 a2 a3) := by
  intro a0 a1 a2 a3 h3
  unfold setTile
  exact (kept_up1048576 (land_le (by decide) hT.1) h3)

theorem kept_freeTile {T : Touch} {s0 : State} (hT : Touch.le ⟨1054720, 0x180000000000000, 0x24000000000000000000⟩ T)
    : ∀ a0 a1 a2, Kept T s0 a2 →
    Kept T s0 (freeTile a0 a1 a2) := by
  intro a0 a1 a2 h2
  unfold freeTile
  split
  · exact (ite_holds (P := (Kept T s0)) (kept_fault (tr (by decide) hT) _ _ _ _ _ (kept_State_count _ _ _ _ _ h2
      (hasC_of ixC_BUF_DOUBLE_FREE_CNT (by decide) hT))) (kept_State_count _ _ _ _ _ (kept_regAdd (tr (by decide) hT)
      _ _ _ _ (hasR_of ixR_BUF_POOL_FREE (by decide) hT) (kept_regAdd (tr (by decide) hT) _ _ _ _ (hasR_of
      ixR_BUF_POOL_ALLOC (by decide) hT) (kept_noteFree (tr (by decide) hT) _ _ _ (kept_setTile (tr (by decide) hT) _
      _ _ _ h2)))) (hasC_of ixC_BUF_FREE_CNT (by decide) hT)))
  · exact (kept_fault (tr (by decide) hT) _ _ _ _ _ (kept_State_count _ _ _ _ _ h2 (hasC_of ixC_BUF_DOUBLE_FREE_CNT
      (by decide) hT)))

theorem kept_dropCell {T : Touch} {s0 : State} (hT : Touch.le ⟨3414016, 0x4000000000000000180000000000000,
    0x24000000000000000000⟩ T) : ∀ a0 a1 a2, Kept T s0 a2 →
    Kept T s0 (dropCell a0 a1 a2) := by
  intro a0 a1 a2 h2
  unfold dropCell
  exact (kept_cellGone (tr (by decide) hT) _ _ (kept_freeTile (tr (by decide) hT) _ _ _ h2))

theorem kept_unreserve {T : Touch} {s0 : State} (hT : Touch.le ⟨0, 0x400000000000000, 0x0⟩ T) : ∀ a0 a1, Kept T s0 a1
    →
    Kept T s0 (unreserve a0 a1) := by
  intro a0 a1 h1
  unfold unreserve
  exact (ite_holds (P := (Kept T s0)) h1 (kept_regAdd (tr (by decide) hT) _ _ _ _ (hasR_of ixR_BUF_POOL_RSV (by
      decide) hT) h1))

theorem kept_releaseUnit {T : Touch} {s0 : State} (hT : Touch.le ⟨3414016, 0x4000000000000000580000000000000,
    0x24000000000000000000⟩ T) : ∀ a0 a1, Kept T s0 a1 →
    Kept T s0 (releaseUnit a0 a1) := by
  intro a0 a1 h1
  unfold releaseUnit
  extract_lets +onlyGivenNames -merge x0
  have hx0 : Kept T s0 x0 := by
    subst x0
    split
    · exact (foldl_holds (P := (Kept T s0)) (fun _ _ hm4 => (kept_cellGone (tr (by decide) hT) _ _ hm4))
        (kept_freeTile (tr (by decide) hT) _ _ _ h1))
    · exact (foldl_holds (P := (Kept T s0)) (fun _ _ hm6 => (kept_dropCell (tr (by decide) hT) _ _ _ hm6)) h1)
  clear_value x0
  exact (kept_unreserve (tr (by decide) hT) _ _ hx0)

theorem kept_unitDone {T : Touch} {s0 : State} (hT : Touch.le ⟨2048, 0x800000000000000000000000000000000000000000,
    0x4000000000000000000000000000400000000000000⟩ T) : ∀ a0 a1 a2 a3 a4 a5, Kept T s0 a5 →
    Kept T s0 (unitDone a0 a1 a2 a3 a4 a5) := by
  intro a0 a1 a2 a3 a4 a5 h5
  unfold unitDone
  split
  · exact (kept_finish (tr (by decide) hT) _ _ _ _ h5)
  · exact h5

theorem kept_txDropped {T : Touch} {s0 : State} (hT : Touch.le ⟨2048, 0x800000000000000000000000000000000000000000,
    0x4000000000000000000000000000400000000000000⟩ T) : ∀ a0 a1, Kept T s0 a1 →
    Kept T s0 (txDropped a0 a1) := by
  intro a0 a1 h1
  unfold txDropped
  split
  · exact (kept_unitDone (tr (by decide) hT) _ _ _ _ _ _ h1)
  · exact h1

theorem kept_dropFrame {T : Touch} {s0 : State} (hT : Touch.le ⟨3414016,
    0x800000000004000000000000000580000000000000, 0x4000000000000000000000024000400000000000000⟩ T) : ∀ a0 a1 a2,
    Kept T s0 a2 →
    Kept T s0 (dropFrame a0 a1 a2) := by
  intro a0 a1 a2 h2
  unfold dropFrame
  exact (kept_State_led (tr (by decide) hT) _ _ _ _ (kept_txDropped (tr (by decide) hT) _ _ (kept_releaseUnit (tr (by
      decide) hT) _ _ h2)))

theorem kept_boundSync {T : Touch} {s0 : State} (hT : Touch.le ⟨2097152, 0x0, 0x0⟩ T) : ∀ a0 a1, Kept T s0 a1 →
    Kept T s0 (boundSync a0 a1) := by
  intro a0 a1 h1
  unfold boundSync
  extract_lets +onlyGivenNames -merge x0
  exact (ite_holds (P := (Kept T s0)) (kept_up2097152 (land_le (by decide) hT.1) h1) h1)

theorem kept_emptyDeficit {T : Touch} {s0 : State} (hT : Touch.le ⟨262144, 0x0, 0x0⟩ T) : ∀ a0 a1, Kept T s0 a1 →
    Kept T s0 (emptyDeficit a0 a1) := by
  intro a0 a1 h1
  unfold emptyDeficit
  extract_lets +onlyGivenNames -merge x0
  exact (ite_holds (P := (Kept T s0)) h1 (kept_setPort (tr (by decide) hT) _ _ _ h1))

theorem kept_noteDepth {T : Touch} {s0 : State} (hT : Touch.le ⟨2097152, 0x0, 0x0⟩ T) : ∀ a0 a1, Kept T s0 a1 →
    Kept T s0 (noteDepth a0 a1) := by
  intro a0 a1 h1
  unfold noteDepth
  extract_lets +onlyGivenNames -merge x0
  exact (ite_holds (P := (Kept T s0)) h1 (kept_up2097152 (land_le (by decide) hT.1) h1))

theorem kept_stallSync {T : Touch} {s0 : State} (hT : Touch.le ⟨262144, 0x0, 0x0⟩ T) : ∀ a0 a1, Kept T s0 a1 →
    Kept T s0 (stallSync a0 a1) := by
  intro a0 a1 h1
  unfold stallSync
  extract_lets +onlyGivenNames -merge x0
  extract_lets +onlyGivenNames -merge x1
  extract_lets +onlyGivenNames -merge x2
  subst x2
  beta_reduce
  extract_lets +onlyGivenNames -merge x3
  exact (ite_holds (P := (Kept T s0)) h1 (kept_setPort (tr (by decide) hT) _ _ _ h1))

theorem kept_setQueue {T : Touch} {s0 : State} (hT : Touch.le ⟨2359296, 0x2000000000000000000000, 0x0⟩ T) : ∀ a0 a1
    a2, Kept T s0 a2 →
    Kept T s0 (setQueue a0 a1 a2) := by
  intro a0 a1 a2 h2
  unfold setQueue
  extract_lets +onlyGivenNames -merge x0
  have hx0 : Kept T s0 x0 := (kept_noteDepth (tr (by decide) hT) _ _ h2)
  clear_value x0
  extract_lets +onlyGivenNames -merge x1
  extract_lets +onlyGivenNames -merge x2
  have hx2 : Kept T s0 x2 := (kept_boundSync (tr (by decide) hT) _ _ (kept_up2097152 (land_le (by decide) hT.1) hx0))
  clear_value x2
  exact (ite_holds (P := (Kept T s0)) (kept_stallSync (tr (by decide) hT) _ _ (kept_emptyDeficit (tr (by decide) hT)
      _ _ (kept_State_setReg _ _ _ _ _ hx2 (hasR_of ixR_TM_Q_DEPTH (by decide) hT)))) hx2)

theorem kept_setTaken {T : Touch} {s0 : State} (hT : Touch.le ⟨1048576, 0x0, 0x0⟩ T) : ∀ a0 a1 a2, Kept T s0 a2 →
    Kept T s0 (setTaken a0 a1 a2) := by
  intro a0 a1 a2 h2
  unfold setTaken
  exact (kept_up1048576 (land_le (by decide) hT.1) h2)

theorem kept_takeTile {T : Touch} {s0 : State} (hT : Touch.le ⟨1048576, 0x180000000000000, 0x2000000000000000000⟩ T)
    : ∀ a0 a1 a2, Kept T s0 a2 →
    Kept T s0 (takeTile a0 a1 a2) := by
  intro a0 a1 a2 h2
  unfold takeTile
  extract_lets +onlyGivenNames -merge x0
  have hx0 : Kept T s0 x0 := (kept_setTile (tr (by decide) hT) _ _ _ _ h2)
  clear_value x0
  exact (kept_State_count _ _ _ _ _ (kept_regAdd (tr (by decide) hT) _ _ _ _ (hasR_of ixR_BUF_POOL_ALLOC (by decide)
      hT) (kept_regAdd (tr (by decide) hT) _ _ _ _ (hasR_of ixR_BUF_POOL_FREE (by decide) hT) hx0)) (hasC_of
      ixC_BUF_ALLOC_CNT (by decide) hT))

theorem kept_allocFrom {T : Touch} {s0 : State} (hT : Touch.le ⟨1048576, 0x180000000000000, 0x12000000000000000000⟩
    T) : ∀ a0 a1 a2 a3, Kept T s0 a3 →
    Snd (Kept T s0) (allocFrom a0 a1 a2 a3) := by
  intro slot n
  induction n with
  | zero => intro b s h; exact h
  | succ n ih =>
    intro b s h
    unfold allocFrom
    split
    · exact kept_takeTile (tr (by decide) hT) _ _ _ (kept_setTaken (tr (by decide) hT) _ _ _ h)
    · exact ih _ _ (kept_State_count _ _ _ _ _ h (hasC_of ixC_BUF_ALLOC_WAIT_CNT (by decide) hT))

theorem kept_allocD {T : Touch} {s0 : State} (hT : Touch.le ⟨1048576, 0x180000000000000, 0x12000000000000000000⟩ T) :
    ∀ a0 a1, Kept T s0 a1 →
    Snd (Kept T s0) (allocD a0 a1) := by
  intro a0 a1 h1
  unfold allocD
  extract_lets +onlyGivenNames -merge x0
  exact (kept_allocFrom (tr (by decide) hT) _ _ _ _ h1)

theorem kept_allocRsv {T : Touch} {s0 : State} (hT : Touch.le ⟨1048576, 0x580000000000000, 0x12000000000000000000⟩ T)
    : ∀ a0 a1, Kept T s0 a1 →
    Snd (Kept T s0) (allocRsv a0 a1) := by
  intro a0 a1 h1
  unfold allocRsv
  split
  · rename_i v0 v1 heq2
    have hv1 : Kept T s0 v1 := holds_eq (P := (Snd (Kept T s0))) heq2 (by
        exact (kept_allocD (tr (by decide) hT) _ _ h1))
    refine snd_holds (P := (Kept T s0)) ?_
    exact (kept_unreserve (tr (by decide) hT) _ _ hv1)
  · rename_i v3 heq4
    have hv3 : Kept T s0 v3 := holds_eq (P := (Snd (Kept T s0))) heq4 (by
        exact (kept_allocD (tr (by decide) hT) _ _ h1))
    refine snd_holds (P := (Kept T s0)) ?_
    exact hv3

theorem kept_reserve {T : Touch} {s0 : State} (hT : Touch.le ⟨1048576, 0x400000000000000, 0x0⟩ T) : ∀ a0 a1 a2 a3 a4,
    Kept T s0 a4 →
    Snd (Kept T s0) (reserve a0 a1 a2 a3 a4) := by
  intro a0 a1 a2 a3 a4 h4
  unfold reserve
  extract_lets +onlyGivenNames -merge x0
  extract_lets +onlyGivenNames -merge x1
  refine ite_holds (P := (Snd (Kept T s0))) ?_ ?_
  · extract_lets +onlyGivenNames -merge x2
    refine snd_holds (P := (Kept T s0)) ?_
    exact (kept_regAdd (tr (by decide) hT) _ _ _ _ (hasR_of ixR_BUF_POOL_RSV (by decide) hT) (kept_up1048576 (land_le
        (by decide) hT.1) h4))
  · refine snd_holds (P := (Kept T s0)) ?_
    exact h4

theorem kept_showUsed {T : Touch} {s0 : State} (hT : Touch.le ⟨0, 0x8000000000000, 0x0⟩ T) : ∀ a0, Kept T s0 a0 →
    Kept T s0 (showUsed a0) := by
  intro a0 h0
  unfold showUsed
  exact (kept_State_setFld (tr (by decide) hT) _ _ _ _ _ h0 (hasR_of ixR_BUF_RETIRE_STATUS (by decide) hT))

theorem kept_hbmLoses {T : Touch} {s0 : State} (hT : Touch.le ⟨0, 0x0, 0x18000000000000000000⟩ T) : ∀ a0 a1 a2, Kept
    T s0 a2 →
    Snd (Kept T s0) (hbmLoses a0 a1 a2) := by
  intro a0 a1 a2 h2
  unfold hbmLoses
  refine ite_holds (P := (Snd (Kept T s0))) ?_ ?_
  · refine snd_holds (P := (Kept T s0)) ?_
    exact (kept_State_count _ _ _ _ _ h2 (hasC_of ixC_BUF_ALLOC_WAIT_CNT (by decide) hT))
  · refine snd_holds (P := (Kept T s0)) ?_
    exact (kept_State_count _ _ _ _ _ h2 (hasC_of ixC_BUF_NOBUF_CNT (by decide) hT))

theorem kept_allocHbm {T : Touch} {s0 : State} (hT : Touch.le ⟨1048576, 0x180000000000000, 0x1a000000000000000000⟩ T)
    : ∀ a0 a1 a2, Kept T s0 a2 →
    Snd (Kept T s0) (allocHbm a0 a1 a2) := by
  intro a0 a1 a2 h2
  unfold allocHbm
  refine ite_holds (P := (Snd (Kept T s0))) ?_ ?_
  · exact (kept_hbmLoses (tr (by decide) hT) _ _ _ h2)
  · refine ite_holds (P := (Snd (Kept T s0))) ?_ ?_
    · exact (kept_hbmLoses (tr (by decide) hT) _ _ _ h2)
    · split
      · refine snd_holds (P := (Kept T s0)) ?_
        exact (kept_takeTile (tr (by decide) hT) _ _ _ (kept_setTaken (tr (by decide) hT) _ _ _ h2))
      · refine snd_holds (P := (Kept T s0)) ?_
        exact (kept_State_count _ _ _ _ _ h2 (hasC_of ixC_BUF_NOBUF_CNT (by decide) hT))

theorem kept_chargeCells {T : Touch} {s0 : State} (hT : Touch.le ⟨2359296, 0x0, 0x0⟩ T) : ∀ a0 a1 a2, Kept T s0 a2 →
    Kept T s0 (chargeCells a0 a1 a2) := by
  intro a0 a1 a2 h2
  unfold chargeCells
  exact (kept_pauseSync (tr (by decide) hT) _ _ _ (kept_up2097152 (land_le (by decide) hT.1) h2))

theorem kept_delaySlot {T : Touch} {s0 : State} (hT : Touch.le ⟨1048576, 0x0, 0x0⟩ T) : ∀ a0 a1, Kept T s0 a1 →
    Kept T s0 (delaySlot a0 a1) := by
  intro a0 a1 h1
  unfold delaySlot
  extract_lets +onlyGivenNames -merge x0
  exact (kept_setTaken (tr (by decide) hT) _ _ _ h1)

theorem kept_quarTile {T : Touch} {s0 : State} (hT : Touch.le ⟨1048576, 0x300000000000000, 0x80000000000000000000⟩ T)
    : ∀ a0 a1 a2, Kept T s0 a2 →
    Kept T s0 (quarTile a0 a1 a2) := by
  intro a0 a1 a2 h2
  unfold quarTile
  extract_lets +onlyGivenNames -merge x0
  have hx0 : Kept T s0 x0 := (kept_setTile (tr (by decide) hT) _ _ _ _ h2)
  clear_value x0
  exact (kept_State_count _ _ _ _ _ (kept_regAdd (tr (by decide) hT) _ _ _ _ (hasR_of ixR_BUF_POOL_QUAR (by decide)
      hT) (kept_regAdd (tr (by decide) hT) _ _ _ _ (hasR_of ixR_BUF_POOL_ALLOC (by decide) hT) hx0)) (hasC_of
      ixC_BUF_QUAR_CNT (by decide) hT))

theorem kept_showSpill {T : Touch} {s0 : State} (hT : Touch.le ⟨0, 0x20000000000000, 0x0⟩ T) : ∀ a0, Kept T s0 a0 →
    Kept T s0 (showSpill a0) := by
  intro a0 h0
  unfold showSpill
  exact (kept_State_setFld (tr (by decide) hT) _ _ _ _ _ h0 (hasR_of ixR_BUF_CARVE_STATUS (by decide) hT))

theorem kept_quarFail {T : Touch} {s0 : State} (hT : Touch.le ⟨1054720,
    0x680000000000000000000000000000300000000000000, 0x500000000000000000000000000080000000000000000000⟩ T) : ∀ a0 a1
    a2, Kept T s0 a2 →
    Kept T s0 (quarFail a0 a1 a2) := by
  intro a0 a1 a2 h2
  unfold quarFail
  extract_lets +onlyGivenNames -merge x0
  have hx0 : Kept T s0 x0 := (kept_quarTile (tr (by decide) hT) _ _ _ h2)
  clear_value x0
  exact (ite_holds (P := (Kept T s0)) (of_fst (kept_winEvent (tr (by decide) hT) _ _ _ hx0)) (kept_memReport (tr (by
      decide) hT) _ _ _ _ _ _ hx0))

theorem kept_setMeta {T : Touch} {s0 : State} (hT : Touch.le ⟨1048576, 0x0, 0x0⟩ T) : ∀ a0 a1 a2 a3, Kept T s0 a3 →
    Kept T s0 (setMeta a0 a1 a2 a3) := by
  intro a0 a1 a2 a3 h3
  unfold setMeta
  exact (kept_up1048576 (land_le (by decide) hT.1) h3)

/-! ### Machine/Line.lean -/

theorem kept_lineSend {T : Touch} {s0 : State} (hT : Touch.le ⟨262400, 0x0, 0x0⟩ T) : ∀ a0 a1 a2 a3, Kept T s0 a3 →
    Kept T s0 (lineSend a0 a1 a2 a3) := by
  intro a0 a1 a2 a3 h3
  unfold lineSend
  extract_lets +onlyGivenNames -merge x0
  extract_lets +onlyGivenNames -merge x1
  split
  · extract_lets +onlyGivenNames -merge x5
    extract_lets +onlyGivenNames -merge x6
    exact (ite_holds (P := (Kept T s0)) (foldl_holds (P := (Kept T s0)) (fun _ _ hm7 => (kept_State_emit (tr (by
        decide) hT) _ _ hm7)) (kept_setPort (tr (by decide) hT) _ _ _ h3)) (kept_setPort (tr (by decide) hT) _ _ _
        h3))

theorem kept_sendOut {T : Touch} {s0 : State} (hT : Touch.le ⟨262400, 0x0, 0x0⟩ T) : ∀ a0 a1 a2 a3 a4, Kept T s0 a4 →
    Kept T s0 (sendOut a0 a1 a2 a3 a4) := by
  intro a0 a1 a2 a3 a4 h4
  unfold sendOut
  exact (kept_lineSend (tr (by decide) hT) _ _ _ _ (kept_State_emit (tr (by decide) hT) _ _ h4))

theorem kept_startLine {T : Touch} {s0 : State} (hT : Touch.le ⟨262144, 0x0, 0x0⟩ T) : ∀ a0 a1, Kept T s0 a1 →
    Kept T s0 (startLine a0 a1) := by
  intro a0 a1 h1
  unfold startLine
  exact (kept_setPort (tr (by decide) hT) _ _ _ h1)

/-! ### Machine/Shaper.lean -/

theorem kept_setShaper {T : Touch} {s0 : State} (hT : Touch.le ⟨2097152, 0x1040000000000000000000, 0x0⟩ T) : ∀ a0 a1
    a2, Kept T s0 a2 →
    Kept T s0 (setShaper a0 a1 a2) := by
  intro a0 a1 a2 h2
  unfold setShaper
  extract_lets +onlyGivenNames -merge x0
  extract_lets +onlyGivenNames -merge x1
  have hx1 : Kept T s0 x1 := (kept_up2097152 (land_le (by decide) hT.1) h2)
  clear_value x1
  extract_lets +onlyGivenNames -merge x2
  exact (ite_holds (P := (Kept T s0)) (kept_State_setReg _ _ _ _ _ hx1 (hasR_of ixR_TM_PORT_CREDIT (by decide) hT))
      (kept_State_setReg _ _ _ _ _ hx1 (hasR_of ixR_TM_Q_CREDIT (by decide) hT)))

theorem kept_chargeFrame {T : Touch} {s0 : State} (hT : Touch.le ⟨2359296, 0x1040000000000000000000, 0x0⟩ T) : ∀ a0
    a1 a2 a3 a4, Kept T s0 a4 →
    Kept T s0 (chargeFrame a0 a1 a2 a3 a4) := by
  intro a0 a1 a2 a3 a4 h4
  unfold chargeFrame
  extract_lets +onlyGivenNames -merge x0
  extract_lets +onlyGivenNames -merge x1
  have hx1 : Kept T s0 x1 := (ite_holds (P := (Kept T s0)) (kept_setPort (tr (by decide) hT) _ _ _ h4) h4)
  clear_value x1
  extract_lets +onlyGivenNames -merge x2
  have hx2 : Kept T s0 x2 := (kept_setShaper (tr (by decide) hT) _ _ _ hx1)
  clear_value x2
  exact (kept_setShaper (tr (by decide) hT) _ _ _ hx2)

theorem kept_shaperRefresh {T : Touch} {s0 : State} (hT : Touch.le ⟨2097152, 0x1040000000000000000000, 0x0⟩ T) : ∀ a0
    a1, Kept T s0 a1 →
    Kept T s0 (shaperRefresh a0 a1) := by
  intro a0 a1 h1
  unfold shaperRefresh
  extract_lets +onlyGivenNames -merge x0
  extract_lets +onlyGivenNames -merge x1
  exact (ite_holds (P := (Kept T s0)) (ite_holds (P := (Kept T s0)) (kept_setShaper (tr (by decide) hT) _ _ _ h1)
      (kept_setShaper (tr (by decide) hT) _ _ _ h1)) h1)

theorem kept_refreshPort {T : Touch} {s0 : State} (hT : Touch.le ⟨2097152, 0x1040000000000000000000, 0x0⟩ T) : ∀ a0
    a1, Kept T s0 a1 →
    Kept T s0 (refreshPort a0 a1) := by
  intro a0 a1 h1
  unfold refreshPort
  exact (foldl_holds (P := (Kept T s0)) (fun _ _ hm0 => (kept_shaperRefresh (tr (by decide) hT) _ _ hm0))
      (kept_shaperRefresh (tr (by decide) hT) _ _ h1))

/-! ### Machine/Leaf.lean -/

theorem kept_abandonTx {T : Touch} {s0 : State} (hT : Touch.le ⟨3414272,
    0x800000000004000000003040000580000000000000, 0x4004000000000000000000000024000400000000000200⟩ T) : ∀ a0 a1,
    Kept T s0 a1 →
    Kept T s0 (abandonTx a0 a1) := by
  intro p s h
  unfold abandonTx
  extract_lets x
  split
  · exact h
  · extract_lets k q u sent0 sent s1 x1 s2 s3 s4
    have h1 : Kept T s0 s1 := ite_holds (P := Kept T s0) (kept_chargeFrame (tr (by decide) hT) _ _ _ _ _ h) h
    have h3 : Kept T s0 s3 := kept_sendOut (tr (by decide) hT) _ _ _ _ _ (kept_State_count _ _ _ _ _
      (kept_setPort (tr (by decide) hT) _ _ _ h1) (hasC_of ixC_LEAF_TX_LINKDOWN_ABORT_CNT (by decide) hT))
    have h4 : Kept T s0 s4 := by
      subst s4
      clear_value s3
      split
      · exact kept_State_led (tr (by decide) hT) _ _ _ _ (kept_State_count _ _ _ _ _ h3
          (hasC_of ixC_MIR_ABORT_CNT (by decide) hT))
      · exact h3
    clear_value s4 u
    cases u with
    | some u => exact kept_dropFrame (tr (by decide) hT) _ _ _ (kept_setQueue (tr (by decide) hT) _ _ _ h4)
    | none => exact h4

theorem kept_showPause {T : Touch} {s0 : State} (hT : Touch.le ⟨262144, 0x80, 0x0⟩ T) : ∀ a0 a1, Kept T s0 a1 →
    Kept T s0 (showPause a0 a1) := by
  intro a0 a1 h1
  unfold showPause
  extract_lets +onlyGivenNames -merge x0
  extract_lets +onlyGivenNames -merge x1
  subst x1
  beta_reduce
  exact (kept_stallSync (tr (by decide) hT) _ _ (kept_State_setReg _ _ _ _ _ h1 (hasR_of ixR_LEAF_PAUSE_STATUS (by
      decide) hT)))

theorem kept_pauseClass {T : Touch} {s0 : State} (hT : Touch.le ⟨262144, 0x80, 0x0⟩ T) : ∀ a0 a1 a2 a3, Kept T s0 a3 →
    Kept T s0 (pauseClass a0 a1 a2 a3) := by
  intro a0 a1 a2 a3 h3
  unfold pauseClass
  extract_lets +onlyGivenNames -merge x0
  exact (kept_showPause (tr (by decide) hT) _ _ (kept_setPort (tr (by decide) hT) _ _ _ h3))

theorem kept_applyPend {T : Touch} {s0 : State} (hT : Touch.le ⟨262144, 0x80, 0x0⟩ T) : ∀ a0 a1, Kept T s0 a1 →
    Kept T s0 (applyPend a0 a1) := by
  intro a0 a1 h1
  unfold applyPend
  extract_lets +onlyGivenNames -merge x0
  exact (foldl_holds (P := (Kept T s0)) (fun _ _ hm1 => (kept_pauseClass (tr (by decide) hT) _ _ _ _ hm1))
      (kept_setPort (tr (by decide) hT) _ _ _ h1))

theorem kept_endPause {T : Touch} {s0 : State} (hT : Touch.le ⟨262144, 0x80, 0x0⟩ T) : ∀ a0 a1, Kept T s0 a1 →
    Kept T s0 (endPause a0 a1) := by
  intro a0 a1 h1
  unfold endPause
  exact (kept_showPause (tr (by decide) hT) _ _ (kept_setPort (tr (by decide) hT) _ _ _ h1))

theorem kept_clearPause {T : Touch} {s0 : State} (hT : Touch.le ⟨262144, 0x80, 0x0⟩ T) : ∀ a0 a1, Kept T s0 a1 →
    Kept T s0 (clearPause a0 a1) := by
  intro a0 a1 h1
  unfold clearPause
  exact (kept_endPause (tr (by decide) hT) _ _ (kept_setPort (tr (by decide) hT) _ _ _ h1))

theorem kept_flushPort {T : Touch} {s0 : State} (hT : Touch.le ⟨3414016,
    0x800000000004000000002000000580000000000000, 0x4000000000000000000000024000400000000400000⟩ T) : ∀ a0 a1, Kept T
    s0 a1 →
    Kept T s0 (flushPort a0 a1) := by
  intro a0 a1 h1
  unfold flushPort
  exact (foldl_holds (P := (Kept T s0)) (fun _ _ hm0 => (foldl_holds (P := (Kept T s0)) (fun _ _ hm1 =>
      (kept_dropFrame (tr (by decide) hT) _ _ _ (kept_State_count _ _ _ _ _ hm1 (hasC_of ixC_FLAP_FLUSH_CNT (by
      decide) hT)))) (kept_setQueue (tr (by decide) hT) _ _ _ hm0))) h1)

theorem kept_loseLink {T : Touch} {s0 : State} (hT : Touch.le ⟨262144, 0x10, 0x0⟩ T) : ∀ a0 a1, Kept T s0 a1 →
    Kept T s0 (loseLink a0 a1) := by
  intro a0 a1 h1
  unfold loseLink
  extract_lets +onlyGivenNames -merge x0
  have hx0 : Kept T s0 x0 := (kept_State_setFld (tr (by decide) hT) _ _ _ _ _ h1 (hasR_of ixR_LEAF_PORT_STATUS (by
      decide) hT))
  clear_value x0
  exact (kept_setPort (tr (by decide) hT) _ _ _ hx0)

theorem kept_linkDown {T : Touch} {s0 : State} (hT : Touch.le ⟨3414272, 0x800000000004000000003040000580000000000090,
    0x4004000000000000000000000024000400000000c00200⟩ T) : ∀ a0 a1, Kept T s0 a1 →
    Kept T s0 (linkDown a0 a1) := by
  intro a0 a1 h1
  unfold linkDown
  extract_lets +onlyGivenNames -merge x0
  have hx0 : Kept T s0 x0 := (kept_State_count _ _ _ _ _ h1 (hasC_of ixC_LEAF_LINK_DOWN_CNT (by decide) hT))
  clear_value x0
  extract_lets +onlyGivenNames -merge x1
  have hx1 : Kept T s0 x1 := (kept_clearPause (tr (by decide) hT) _ _ (kept_abandonTx (tr (by decide) hT) _ _
      (kept_loseLink (tr (by decide) hT) _ _ hx0)))
  clear_value x1
  refine ite_holds (P := (Kept T s0)) ?_ ?_
  · exact (kept_flushPort (tr (by decide) hT) _ _ hx1)
  · extract_lets +onlyGivenNames -merge x2
    have hx2 : Kept T s0 x2 := (kept_State_setFld (tr (by decide) hT) _ _ _ _ _ hx1 (hasR_of ixR_LEAF_PORT_STATUS (by
        decide) hT))
    clear_value x2
    exact (kept_setPort (tr (by decide) hT) _ _ _ hx2)

theorem kept_dropLanes {T : Touch} {s0 : State} (hT : Touch.le ⟨262144, 0x0, 0x0⟩ T) : ∀ a0 a1, Kept T s0 a1 →
    Kept T s0 (dropLanes a0 a1) := by
  intro a0 a1 h1
  unfold dropLanes
  exact (kept_up262144 (land_le (by decide) hT.1) h1)

theorem kept_execCtStartDecay {T : Touch} {s0 : State} (hT : Touch.le ⟨262144, 0x100, 0x0⟩ T) : ∀ a0 a1, Kept T s0 a1
    →
    ResKept T s0 (execCtStartDecay a0 a1) := by
  intro a0 a1 h1
  unfold execCtStartDecay
  refine next_kept ?_
  extract_lets +onlyGivenNames -merge x0
  refine ite_holds (P := (Kept T s0)) ?_ ?_
  · extract_lets +onlyGivenNames -merge x1
    extract_lets +onlyGivenNames -merge x2
    have hx2 : Kept T s0 x2 := (kept_setPort (tr (by decide) hT) _ _ _ h1)
    clear_value x2
    exact (ite_holds (P := (Kept T s0)) (kept_State_setFld (tr (by decide) hT) _ _ _ _ _ hx2 (hasR_of
        ixR_LEAF_CT_STATUS (by decide) hT)) hx2)
  · exact h1

theorem kept_execFlapHoldExpiry {T : Touch} {s0 : State} (hT : Touch.le ⟨3414016,
    0x800000000004000000002000000580000000000010, 0x4000000000000000000000024000400000000400000⟩ T) : ∀ a0 a1, Kept T
    s0 a1 →
    ResKept T s0 (execFlapHoldExpiry a0 a1) := by
  intro a0 a1 h1
  unfold execFlapHoldExpiry
  refine next_kept ?_
  split
  · refine ite_holds (P := (Kept T s0)) ?_ ?_
    · extract_lets +onlyGivenNames -merge x2
      have hx2 : Kept T s0 x2 := (kept_State_setFld (tr (by decide) hT) _ _ _ _ _ h1 (hasR_of ixR_LEAF_PORT_STATUS
          (by decide) hT))
      clear_value x2
      exact (kept_flushPort (tr (by decide) hT) _ _ (kept_setPort (tr (by decide) hT) _ _ _ hx2))
    · exact h1
  · exact h1

theorem kept_execGroupRestartDone {T : Touch} {s0 : State} (hT : Touch.le ⟨0, 0x4, 0x0⟩ T) : ∀ a0 a1, Kept T s0 a1 →
    ResKept T s0 (execGroupRestartDone a0 a1) := by
  intro a0 a1 h1
  unfold execGroupRestartDone
  refine next_kept ?_
  exact (kept_State_setFld (tr (by decide) hT) _ _ _ _ _ h1 (hasR_of ixR_LEAF_GROUP_STATUS (by decide) hT))

theorem kept_execLaneAlign {T : Touch} {s0 : State} (hT : Touch.le ⟨262144, 0x0, 0x0⟩ T) : ∀ a0 a1 a2 a3 a4, Kept T
    s0 a4 →
    ResKept T s0 (execLaneAlign a0 a1 a2 a3 a4) := by
  intro a0 a1 a2 a3 a4 h4
  unfold execLaneAlign
  refine next_kept ?_
  extract_lets +onlyGivenNames -merge x0
  refine ite_holds (P := (Kept T s0)) ?_ ?_
  · extract_lets +onlyGivenNames -merge x1
    extract_lets +onlyGivenNames -merge x2
    have hx2 : Kept T s0 x2 := (kept_up262144 (land_le (by decide) hT.1) h4)
    clear_value x2
    exact (kept_setPort (tr (by decide) hT) _ _ _ hx2)
  · exact h4

theorem kept_relock {T : Touch} {s0 : State} (hT : Touch.le ⟨262144, 0x0, 0x0⟩ T) : ∀ a0 a1, Kept T s0 a1 →
    Kept T s0 (relock a0 a1) := by
  intro a0 a1 h1
  unfold relock
  exact (kept_setPort (tr (by decide) hT) _ _ _ h1)

theorem kept_takePause {T : Touch} {s0 : State} (hT : Touch.le ⟨262144, 0x80, 0x0⟩ T) : ∀ a0 a1 a2, Kept T s0 a2 →
    Kept T s0 (takePause a0 a1 a2) := by
  intro a0 a1 a2 h2
  unfold takePause
  extract_lets +onlyGivenNames -merge x0
  extract_lets +onlyGivenNames -merge x1
  have hx1 : Kept T s0 x1 := (kept_setPort (tr (by decide) hT) _ _ _ h2)
  clear_value x1
  extract_lets +onlyGivenNames -merge x2
  have hx2 : Kept T s0 x2 := (foldl_holds (P := (Kept T s0)) (fun _ _ hm3 => (kept_pauseClass (tr (by decide) hT) _ _
      _ _ hm3)) hx1)
  clear_value x2
  extract_lets +onlyGivenNames -merge x4
  exact (ite_holds (P := (Kept T s0)) (kept_setPort (tr (by decide) hT) _ _ _ hx2) (foldl_holds (P := (Kept T s0))
      (fun _ _ hm5 => (kept_pauseClass (tr (by decide) hT) _ _ _ _ hm5)) hx2))

theorem kept_macControl {T : Touch} {s0 : State} (hT : Touch.le ⟨262144, 0x80, 0x290000⟩ T) : ∀ a0 a1 a2, Kept T s0
    a2 →
    Kept T s0 (macControl a0 a1 a2) := by
  intro a0 a1 a2 h2
  unfold macControl
  extract_lets +onlyGivenNames -merge x0
  have hx0 : Kept T s0 x0 := (kept_State_count _ _ _ _ _ h2 (hasC_of ixC_LEAF_RX_PAUSE_IGNORED_CNT (by decide) hT))
  clear_value x0
  extract_lets +onlyGivenNames -merge x1
  extract_lets +onlyGivenNames -merge x2
  refine ite_holds (P := (Kept T s0)) ?_ ?_
  · exact hx0
  · refine ite_holds (P := (Kept T s0)) ?_ ?_
    · exact (ite_holds (P := (Kept T s0)) (kept_takePause (tr (by decide) hT) _ _ _ (kept_State_count _ _ _ _ _ h2
        (hasC_of ixC_LEAF_RX_PAUSE_CNT (by decide) hT))) hx0)
    · refine ite_holds (P := (Kept T s0)) ?_ ?_
      · extract_lets +onlyGivenNames -merge x3
        extract_lets +onlyGivenNames -merge x4
        subst x4
        beta_reduce
        extract_lets +onlyGivenNames -merge x5
        extract_lets +onlyGivenNames -merge x6
        have hx6 : Kept T s0 x6 := (ite_holds (P := (Kept T s0)) hx0 h2)
        clear_value x6
        extract_lets +onlyGivenNames -merge x7
        have hx7 : Kept T s0 x7 := (foldl_holds (P := (Kept T s0)) (fun _ _ hm8 => (kept_State_count _ _ _ _ _ hm8
            (hasC_of ixC_LEAF_RX_PFC_CNT (by decide) hT))) hx6)
        clear_value x7
        exact (kept_takePause (tr (by decide) hT) _ _ _ hx7)
      · exact hx0

theorem kept_linkUp {T : Touch} {s0 : State} (hT : Touch.le ⟨262144, 0x10, 0x0⟩ T) : ∀ a0 a1, Kept T s0 a1 →
    Kept T s0 (linkUp a0 a1) := by
  intro a0 a1 h1
  unfold linkUp
  extract_lets +onlyGivenNames -merge x0
  have hx0 : Kept T s0 x0 := (kept_State_setReg _ _ _ _ _ h1 (hasR_of ixR_LEAF_PORT_STATUS (by decide) hT))
  clear_value x0
  exact (kept_setPort (tr (by decide) hT) _ _ _ hx0)

theorem kept_execLinkUp {T : Touch} {s0 : State} (hT : Touch.le ⟨262144, 0x10, 0x0⟩ T) : ∀ a0 a1 a2, Kept T s0 a2 →
    ResKept T s0 (execLinkUp a0 a1 a2) := by
  intro a0 a1 a2 h2
  unfold execLinkUp
  refine next_kept ?_
  exact (ite_holds (P := (Kept T s0)) (kept_linkUp (tr (by decide) hT) _ _ h2) h2)

theorem kept_execPauseExpiry {T : Touch} {s0 : State} (hT : Touch.le ⟨262144, 0x80, 0x0⟩ T) : ∀ a0 a1 a2, Kept T s0
    a2 →
    ResKept T s0 (execPauseExpiry a0 a1 a2) := by
  intro a0 a1 a2 h2
  unfold execPauseExpiry
  refine next_kept ?_
  split
  · exact (ite_holds (P := (Kept T s0)) (kept_pauseClass (tr (by decide) hT) _ _ _ _ h2) h2)
  · exact h2

theorem kept_execPauseFrameTx {T : Touch} {s0 : State} (hT : Touch.le ⟨262400, 0x0, 0x120000⟩ T) : ∀ a0 a1, Kept T s0
    a1 →
    ResKept T s0 (execPauseFrameTx a0 a1) := by
  intro a0 a1 h1
  unfold execPauseFrameTx
  refine next_kept ?_
  refine ite_holds (P := (Kept T s0)) ?_ ?_
  · exact h1
  · extract_lets +onlyGivenNames -merge x0
    split
    · exact h1
    · refine ite_holds (P := (Kept T s0)) ?_ ?_
      · exact h1
      · extract_lets +onlyGivenNames -merge x6
        have hx6 : Kept T s0 x6 := (kept_setPort (tr (by decide) hT) _ _ _ h1)
        clear_value x6
        extract_lets +onlyGivenNames -merge x7
        have hx7 : Kept T s0 x7 := (ite_holds (P := (Kept T s0)) (kept_State_count _ _ _ _ _ hx6 (hasC_of
            ixC_LEAF_TX_PAUSE_CNT (by decide) hT)) (kept_State_count _ _ _ _ _ hx6 (hasC_of ixC_LEAF_TX_PFC_CNT (by
            decide) hT)))
        clear_value x7
        exact (kept_sendOut (tr (by decide) hT) _ _ _ _ _ hx7)

theorem kept_execPauseRepeatTimer {T : Touch} {s0 : State} (hT : Touch.le ⟨262144, 0x0, 0x0⟩ T) : ∀ a0 a1 a2, Kept T
    s0 a2 →
    ResKept T s0 (execPauseRepeatTimer a0 a1 a2) := by
  intro a0 a1 a2 h2
  unfold execPauseRepeatTimer
  refine next_kept ?_
  extract_lets +onlyGivenNames -merge x0
  extract_lets +onlyGivenNames -merge x1
  extract_lets +onlyGivenNames -merge x2
  extract_lets +onlyGivenNames -merge x3
  split
  · exact (ite_holds (P := (Kept T s0)) (kept_setPort (tr (by decide) hT) _ _ _ h2) h2)
  · exact h2

theorem kept_execPauseWdHoldoffEnd {T : Touch} {s0 : State} (hT : Touch.le ⟨262144, 0x80, 0x0⟩ T) : ∀ a0 a1 a2, Kept
    T s0 a2 →
    ResKept T s0 (execPauseWdHoldoffEnd a0 a1 a2) := by
  intro a0 a1 a2 h2
  unfold execPauseWdHoldoffEnd
  refine next_kept ?_
  extract_lets +onlyGivenNames -merge x0
  split
  · exact (ite_holds (P := (Kept T s0)) (kept_showPause (tr (by decide) hT) _ _ (kept_setPort (tr (by decide) hT) _ _
      _ h2)) h2)
  · exact h2

/-! ### Machine/Cut.lean -/

theorem kept_feedPut {T : Touch} {s0 : State} (hT : Touch.le ⟨524288, 0x0, 0x0⟩ T) : ∀ a0 a1 a2, Kept T s0 a2 →
    Kept T s0 (feedPut a0 a1 a2) := by
  intro a0 a1 a2 h2
  unfold feedPut
  exact (kept_up524288 (land_le (by decide) hT.1) h2)

theorem kept_spread {T : Touch} {s0 : State} (hT : Touch.le ⟨4194304, 0x0, 0x0⟩ T) : ∀ a0 a1 a2, Kept T s0 a2 →
    Snd (Kept T s0) (spread a0 a1 a2) := by
  intro a0 a1 a2 h2
  unfold spread
  extract_lets +onlyGivenNames -merge x0
  extract_lets +onlyGivenNames -merge x1
  refine ite_holds (P := (Snd (Kept T s0))) ?_ ?_
  · extract_lets +onlyGivenNames -merge x2
    refine snd_holds (P := (Kept T s0)) ?_
    exact (kept_up4194304 (land_le (by decide) hT.1) h2)
  · extract_lets +onlyGivenNames -merge x3
    extract_lets +onlyGivenNames -merge x4
    extract_lets +onlyGivenNames -merge x5
    extract_lets +onlyGivenNames -merge x6
    refine snd_holds (P := (Kept T s0)) ?_
    exact (kept_up4194304 (land_le (by decide) hT.1) h2)

theorem kept_spreadCells {T : Touch} {s0 : State} (hT : Touch.le ⟨4194304, 0x0, 0x0⟩ T) : ∀ a0 a1 a2 a3 a4, Kept T s0
    a4 →
    Snd (Kept T s0) (spreadCells a0 a1 a2 a3 a4) := by
  intro q d c l
  induction l with
  | nil => exact fun s h => h
  | cons x l ih =>
    intro s h
    unfold spreadCells
    have h1 := kept_spread (tr (by decide) hT) q d s h
    split
    rename_i heq; rw [heq] at h1
    exact ih _ h1

theorem kept_sendSky {T : Touch} {s0 : State} (hT : Touch.le ⟨4722688, 0x8000000000000000000000000000000,
    0x20000000000000000000000000000000000000⟩ T) : ∀ a0 a1 a2 a3, Kept T s0 a3 →
    Kept T s0 (sendSky a0 a1 a2 a3) := by
  intro a0 a1 a2 a3 h3
  unfold sendSky
  extract_lets +onlyGivenNames -merge x0
  extract_lets +onlyGivenNames -merge x1
  extract_lets +onlyGivenNames -merge x2
  extract_lets +onlyGivenNames -merge x3
  have hx3 : Kept T s0 x3 := (kept_State_setReg _ _ _ _ _ h3 (hasR_of ixR_SKY_SEQ_NEXT (by decide) hT))
  clear_value x3
  extract_lets +onlyGivenNames -merge x4
  have hx4 : Kept T s0 x4 := (kept_State_led (tr (by decide) hT) _ _ _ _ (kept_State_count _ _ _ _ _ hx3 (hasC_of
      ixC_SKY_PAIR_TX_CELL_CNT (by decide) hT)))
  clear_value x4
  extract_lets +onlyGivenNames -merge x5
  extract_lets +onlyGivenNames -merge x6
  split
  · rename_i v7 v8 heq9
    have hv8 : Kept T s0 v8 := holds_eq (P := (Snd (Kept T s0))) heq9 (by
        exact (kept_spreadCells (tr (by decide) hT) _ _ _ _ _ hx4))
    exact (kept_feedPut (tr (by decide) hT) _ _ _ hv8)

theorem kept_sendFrame {T : Touch} {s0 : State} (hT : Touch.le ⟨4722688, 0x8000000000000000000000000000000,
    0x20000000000000000000000000000000000000⟩ T) : ∀ a0 a1 a2 a3, Kept T s0 a3 →
    Snd (Kept T s0) (sendFrame a0 a1 a2 a3) := by
  intro a0 a1 a2 a3 h3
  unfold sendFrame
  refine ite_holds (P := (Snd (Kept T s0))) ?_ ?_
  · refine snd_holds (P := (Kept T s0)) ?_
    exact (kept_feedPut (tr (by decide) hT) _ _ _ h3)
  · refine ite_holds (P := (Snd (Kept T s0))) ?_ ?_
    · refine snd_holds (P := (Kept T s0)) ?_
      exact h3
    · refine ite_holds (P := (Snd (Kept T s0))) ?_ ?_
      · refine snd_holds (P := (Kept T s0)) ?_
        exact h3
      · refine snd_holds (P := (Kept T s0)) ?_
        exact (kept_sendSky (tr (by decide) hT) _ _ _ _ h3)

/-! ### Machine/Mirror.lean -/

theorem kept_copyEnd {T : Touch} {s0 : State} (hT : Touch.le ⟨4096, 0x0, 0x0⟩ T) : ∀ a0 a1 a2, T.hasC a0 → Kept T s0
    a2 →
    Kept T s0 (copyEnd a0 a1 a2) := by
  intro a0 a1 a2 h0 h2
  unfold copyEnd
  exact (kept_State_led (tr (by decide) hT) _ _ _ _ (kept_State_count _ _ _ _ _ h2 h0))

theorem kept_deliverCopy {T : Touch} {s0 : State} (hT : Touch.le ⟨4726016,
    0x4680800e00000008000000000000000000000000000000, 0x435503a74000020200000000010000000000400000000000000⟩ T) : ∀
    a0 a1 a2 a3 a4 a5, Kept T s0 a5 →
    Kept T s0 (deliverCopy a0 a1 a2 a3 a4 a5) := by
  intro a0 a1 a2 a3 a4 a5 h5
  unfold deliverCopy
  extract_lets +onlyGivenNames -merge x0
  refine ite_holds (P := (Kept T s0)) ?_ ?_
  · extract_lets +onlyGivenNames -merge x1
    split
    · rename_i v2 heq3
      have hv2 : Kept T s0 v2 := holds_eq (P := (Snd (Kept T s0))) heq3 (by
          exact (kept_sendFrame (tr (by decide) hT) _ _ _ _ h5))
      exact hv2
    · rename_i v4 v5 heq6
      have hv5 : Kept T s0 v5 := holds_eq (P := (Snd (Kept T s0))) heq6 (by
          exact (kept_sendFrame (tr (by decide) hT) _ _ _ _ h5))
      exact (kept_copyEnd (tr (by decide) hT) _ _ _ (hasC_of ixC_MIR_HOST_DROP_CNT (by decide) hT) (kept_State_count
          _ _ _ _ _ hv5 (hasC_SkyBad_cnt (hasC_of ixC_SKY_NO_PEER_DROP_CNT (by decide) hT) (hasC_of
          ixC_TM_DEST_LIMIT_DROP_CNT (by decide) hT) _)))
  · refine ite_holds (P := (Kept T s0)) ?_ ?_
    · exact (kept_copyEnd (tr (by decide) hT) _ _ _ (hasC_of ixC_MIR_HOST_DROP_CNT (by decide) hT) (kept_State_count
        _ _ _ _ _ h5 (hasC_of ixC_SYS_HEADLESS_HOST_DROP_CNT (by decide) hT)))
    · refine ite_holds (P := (Kept T s0)) ?_ ?_
      · split
        · rename_i v7 heq8
          have hv7 : Kept T s0 v7 := holds_eq (P := (Snd (Kept T s0))) heq8 (by
              exact (kept_idlPass (tr (by decide) hT) _ _ _ h5))
          exact (kept_copyEnd (tr (by decide) hT) _ _ _ (hasC_of ixC_MIR_POL_DROP_CNT (by decide) hT) hv7)
        · rename_i v9 heq10
          have hv9 : Kept T s0 v9 := holds_eq (P := (Snd (Kept T s0))) heq10 (by
              exact (kept_idlPass (tr (by decide) hT) _ _ _ h5))
          split
          · rename_i v11 heq12
            have hv11 : Kept T s0 v11 := holds_eq (P := (Snd (Kept T s0))) heq12 (by
                exact (kept_rxPlace (tr (by decide) hT) _ _ _ _ hv9))
            exact (kept_copyEnd (tr (by decide) hT) _ _ _ (hasC_of ixC_MIR_DELIVER_CNT (by decide) hT) hv11)
          · rename_i v13 heq14
            have hv13 : Kept T s0 v13 := holds_eq (P := (Snd (Kept T s0))) heq14 (by
                exact (kept_rxPlace (tr (by decide) hT) _ _ _ _ hv9))
            exact (kept_copyEnd (tr (by decide) hT) _ _ _ (hasC_of ixC_MIR_HOST_DROP_CNT (by decide) hT) hv13)
      · split
        · rename_i v15 heq16
          have hv15 : Kept T s0 v15 := holds_eq (P := (Snd (Kept T s0))) heq16 (by
              exact (kept_idlPass (tr (by decide) hT) _ _ _ h5))
          exact (kept_copyEnd (tr (by decide) hT) _ _ _ (hasC_of ixC_MIR_POL_DROP_CNT (by decide) hT) hv15)
        · rename_i v17 heq18
          have hv17 : Kept T s0 v17 := holds_eq (P := (Snd (Kept T s0))) heq18 (by
              exact (kept_idlPass (tr (by decide) hT) _ _ _ h5))
          extract_lets +onlyGivenNames -merge x19
          exact (kept_up2048 (land_le (by decide) hT.1) hv17)

theorem kept_selectCopy {T : Touch} {s0 : State} (hT : Touch.le ⟨266240, 0x0,
    0x400000000000000000000000000000000000000000000⟩ T) : ∀ a0 a1 a2, Kept T s0 a2 →
    Snd (Kept T s0) (selectCopy a0 a1 a2) := by
  intro a0 a1 a2 h2
  unfold selectCopy
  refine ite_holds (P := (Snd (Kept T s0))) ?_ ?_
  · split
    · extract_lets +onlyGivenNames -merge x3
      extract_lets +onlyGivenNames -merge x4
      have hx4 : Kept T s0 x4 := (kept_up262144 (land_le (by decide) hT.1) h2)
      clear_value x4
      refine ite_holds (P := (Snd (Kept T s0))) ?_ ?_
      · refine snd_holds (P := (Kept T s0)) ?_
        exact (kept_State_led (tr (by decide) hT) _ _ _ _ (kept_State_count _ _ _ _ _ hx4 (hasC_of ixC_MIR_COPY_CNT
            (by decide) hT)))
      · refine snd_holds (P := (Kept T s0)) ?_
        exact hx4
  · refine snd_holds (P := (Kept T s0)) ?_
    exact h2

theorem kept_ingressCopy {T : Touch} {s0 : State} (hT : Touch.le ⟨4988160,
    0x4680800e00000008000000000000000000000000000000, 0x435503e74000020200000000010000000000400000000000000⟩ T) : ∀
    a0 a1 a2 a3 a4, Kept T s0 a4 →
    Kept T s0 (ingressCopy a0 a1 a2 a3 a4) := by
  intro a0 a1 a2 a3 a4 h4
  unfold ingressCopy
  split
  · exact h4
  · split
    · rename_i v3 heq4
      have hv3 : Kept T s0 v3 := holds_eq (P := (Snd (Kept T s0))) heq4 (by
          exact (kept_selectCopy (tr (by decide) hT) _ _ _ h4))
      exact hv3
    · rename_i v5 heq6
      have hv5 : Kept T s0 v5 := holds_eq (P := (Snd (Kept T s0))) heq6 (by
          exact (kept_selectCopy (tr (by decide) hT) _ _ _ h4))
      exact (kept_deliverCopy (tr (by decide) hT) _ _ _ _ _ _ hv5)

theorem kept_capWrite {T : Touch} {s0 : State} (hT : Touch.le ⟨7424,
    0x4680801600000000000000000000000000000000000000, 0x35502884000000000000000000000000000000000000000000⟩ T) : ∀ a0
    a1, Kept T s0 a1 →
    Kept T s0 (capWrite a0 a1) := by
  intro a0 a1 h1
  unfold capWrite
  extract_lets +onlyGivenNames -merge x0
  exact (ite_holds (P := (Kept T s0)) (kept_copyEnd (tr (by decide) hT) _ _ _ (hasC_of ixC_MIR_HOST_DROP_CNT (by
      decide) hT) (kept_State_count _ _ _ _ _ h1 (hasC_of ixC_SYS_HEADLESS_HOST_DROP_CNT (by decide) hT))) (ite_holds
      (P := (Kept T s0)) (kept_copyEnd (tr (by decide) hT) _ _ _ (hasC_of ixC_MIR_HOST_DROP_CNT (by decide) hT)
      (kept_State_count _ _ _ _ _ h1 (hasC_of ixC_HOST_CAP_DROP_CNT (by decide) hT))) (ite_holds (P := (Kept T s0))
      (kept_copyEnd (tr (by decide) hT) _ _ _ (hasC_of ixC_MIR_HOST_DROP_CNT (by decide) hT) (kept_State_count _ _ _
      _ _ (kept_stopLost (tr (by decide) hT) _ _ h1) (hasC_of ixC_HOST_CAP_DROP_CNT (by decide) hT))) (kept_copyEnd
      (tr (by decide) hT) _ _ _ (hasC_of ixC_MIR_DELIVER_CNT (by decide) hT) (of_snd (kept_ringPut (tr (by decide)
      hT) _ _ _ h1))))))

theorem kept_sampleFrame {T : Touch} {s0 : State} (hT : Touch.le ⟨269568,
    0x4680800e00000000000000000000000000000000000000, 0x435518274000000000000000000000000000400000000000000⟩ T) : ∀
    a0 a1 a2, Kept T s0 a2 →
    Kept T s0 (sampleFrame a0 a1 a2) := by
  intro a0 a1 a2 h2
  unfold sampleFrame
  refine ite_holds (P := (Kept T s0)) ?_ ?_
  · split
    · extract_lets +onlyGivenNames -merge x3
      extract_lets +onlyGivenNames -merge x4
      have hx4 : Kept T s0 x4 := (kept_up262144 (land_le (by decide) hT.1) h2)
      clear_value x4
      refine ite_holds (P := (Kept T s0)) ?_ ?_
      · extract_lets +onlyGivenNames -merge x5
        extract_lets +onlyGivenNames -merge x6
        subst x6
        beta_reduce
        refine ite_holds (P := (Kept T s0)) ?_ ?_
        · exact (kept_State_count _ _ _ _ _ (kept_State_count _ _ _ _ _ hx4 (hasC_of ixC_SYS_HEADLESS_HOST_DROP_CNT
            (by decide) hT)) (hasC_of ixC_MIR_SAMPLE_DROP_CNT (by decide) hT))
        · split
          · rename_i v7 heq8
            have hv7 : Kept T s0 v7 := holds_eq (P := (Snd (Kept T s0))) heq8 (by
                exact (kept_idlPass (tr (by decide) hT) _ _ _ hx4))
            exact (kept_State_count _ _ _ _ _ hv7 (hasC_of ixC_MIR_SAMPLE_DROP_CNT (by decide) hT))
          · rename_i v9 heq10
            have hv9 : Kept T s0 v9 := holds_eq (P := (Snd (Kept T s0))) heq10 (by
                exact (kept_idlPass (tr (by decide) hT) _ _ _ hx4))
            split
            · rename_i v11 heq12
              have hv11 : Kept T s0 v11 := holds_eq (P := (Snd (Kept T s0))) heq12 (by
                  exact (kept_rxPlace (tr (by decide) hT) _ _ _ _ hv9))
              exact (kept_State_count _ _ _ _ _ hv11 (hasC_of ixC_MIR_SAMPLE_CNT (by decide) hT))
            · rename_i v13 heq14
              have hv13 : Kept T s0 v13 := holds_eq (P := (Snd (Kept T s0))) heq14 (by
                  exact (kept_rxPlace (tr (by decide) hT) _ _ _ _ hv9))
              exact (kept_State_count _ _ _ _ _ hv13 (hasC_of ixC_MIR_SAMPLE_DROP_CNT (by decide) hT))
      · exact hx4
  · exact h2

theorem kept_execNotifyRecordWrite {T : Touch} {s0 : State} (hT : Touch.le ⟨2105088,
    0x4680801600000000000000000000000000000000000000, 0x37502884800000000000000040000000000000000000000000⟩ T) : ∀
    a0, Kept T s0 a0 →
    ResKept T s0 (execNotifyRecordWrite a0) := by
  intro a0 h0
  unfold execNotifyRecordWrite
  refine next_kept ?_
  split
  · exact h0
  · extract_lets +onlyGivenNames -merge x4
    extract_lets +onlyGivenNames -merge x5
    have hx5 : Kept T s0 x5 := (kept_up2048 (land_le (by decide) hT.1) h0)
    clear_value x5
    split
    · exact (kept_noteNext (tr (by decide) hT) _ _ hx5)
    · exact (kept_capWrite (tr (by decide) hT) _ _ hx5)

/-! ### Machine/Ingress.lean -/

theorem kept_inDrop {T : Touch} {s0 : State} (hT : Touch.le ⟨6144, 0x800000000000000000000000000000000000000000,
    0x4000000000000000000000000000400000000000000⟩ T) : ∀ a0 a1, Kept T s0 a1 →
    Kept T s0 (inDrop a0 a1) := by
  intro a0 a1 h1
  unfold inDrop
  extract_lets +onlyGivenNames -merge x0
  have hx0 : Kept T s0 x0 := (kept_State_led (tr (by decide) hT) _ _ _ _ h1)
  clear_value x0
  split
  · exact (kept_unitDone (tr (by decide) hT) _ _ _ _ _ _ hx0)
  · exact hx0

theorem kept_decide' {T : Touch} {s0 : State} (hT : Touch.le ⟨6144, 0x680000000000000000000000000000000000000000000,
    0x500000000000000000000000000000000002020100000000⟩ T) : ∀ a0 a1 a2 a3 a4, Kept T s0 a4 →
    Snd (Snd (Kept T s0)) (decide' a0 a1 a2 a3 a4) := by
  intro a0 a1 a2 a3 a4 h4
  unfold decide'
  extract_lets +onlyGivenNames -merge x0
  subst x0
  beta_reduce
  extract_lets +onlyGivenNames -merge x1
  subst x1
  beta_reduce
  split
  · refine snd_holds (P := (Snd (Kept T s0))) ?_
    refine snd_holds (P := (Kept T s0)) ?_
    split
    · exact (kept_State_count _ _ _ _ _ h4 (hasC_of ixC_TBL_MISS_TRAP_CNT (by decide) hT))
    · exact h4
  · refine ite_holds (P := (Snd (Snd (Kept T s0)))) ?_ ?_
    · refine snd_holds (P := (Snd (Kept T s0))) ?_
      refine snd_holds (P := (Kept T s0)) ?_
      exact h4
    · refine ite_holds (P := (Snd (Snd (Kept T s0)))) ?_ ?_
      · refine snd_holds (P := (Snd (Kept T s0))) ?_
        refine snd_holds (P := (Kept T s0)) ?_
        exact (kept_State_count _ _ _ _ _ h4 (hasC_of ixC_PARSE_TRAP_CNT (by decide) hT))
      · refine ite_holds (P := (Snd (Snd (Kept T s0)))) ?_ ?_
        · refine snd_holds (P := (Snd (Kept T s0))) ?_
          refine snd_holds (P := (Kept T s0)) ?_
          exact h4
        · refine ite_holds (P := (Snd (Snd (Kept T s0)))) ?_ ?_
          · refine snd_holds (P := (Snd (Kept T s0))) ?_
            refine snd_holds (P := (Kept T s0)) ?_
            exact h4
          · refine ite_holds (P := (Snd (Snd (Kept T s0)))) ?_ ?_
            · split
              · rename_i v11 v12 heq13
                have hv12 : Kept T s0 v12 := holds_eq (P := (Snd (Kept T s0))) heq13 (by
                    exact (kept_resolveEcmp (tr (by decide) hT) _ _ _ _ _ h4))
                refine snd_holds (P := (Snd (Kept T s0))) ?_
                refine snd_holds (P := (Kept T s0)) ?_
                split
                · exact (kept_State_count _ _ _ _ _ hv12 (hasC_of ixC_TBL_MISS_TRAP_CNT (by decide) hT))
                · exact hv12
            · refine snd_holds (P := (Snd (Kept T s0))) ?_
              refine snd_holds (P := (Kept T s0)) ?_
              split
              · exact (kept_State_count _ _ _ _ _ h4 (hasC_of ixC_TBL_MISS_TRAP_CNT (by decide) hT))
              · exact h4

theorem kept_offerCand {T : Touch} {s0 : State} (hT : Touch.le ⟨131072, 0x0, 0x4000000000000⟩ T) : ∀ a0 a1, Kept T s0
    a1 →
    Kept T s0 (offerCand a0 a1) := by
  intro a0 a1 h1
  unfold offerCand
  extract_lets +onlyGivenNames -merge x0
  subst x0
  beta_reduce
  split
  · exact (ite_holds (P := (Kept T s0)) h1 (ite_holds (P := (Kept T s0)) (kept_up131072 (land_le (by decide) hT.1)
      h1) (kept_up131072 (land_le (by decide) hT.1) h1)))
  · refine ite_holds (P := (Kept T s0)) ?_ ?_
    · exact (kept_up131072 (land_le (by decide) hT.1) h1)
    · split
      · exact (kept_State_count _ _ _ _ _ (kept_up131072 (land_le (by decide) hT.1) h1) (hasC_of ixC_LEARN_DEFER_CNT
          (by decide) hT))
      · exact (kept_State_count _ _ _ _ _ h1 (hasC_of ixC_LEARN_DEFER_CNT (by decide) hT))

theorem kept_learnFrame {T : Touch} {s0 : State} (hT : Touch.le ⟨137216,
    0x680000000000000000000000000000000000000000000, 0x500000000000000000000000000000000006400000000000⟩ T) : ∀ a0 a1
    a2 a3 a4 a5, Kept T s0 a5 →
    Kept T s0 (learnFrame a0 a1 a2 a3 a4 a5) := by
  intro a0 a1 a2 a3 a4 a5 h5
  unfold learnFrame
  refine ite_holds (P := (Kept T s0)) ?_ ?_
  · exact h5
  · extract_lets +onlyGivenNames -merge x0
    extract_lets +onlyGivenNames -merge x1
    split
    · rename_i v2 v3 heq4
      have hv3 : Kept T s0 v3 := holds_eq (P := (Snd (Kept T s0))) heq4 (by
          exact (kept_lookupKey (tr (by decide) hT) _ _ _ h5))
      split
      · exact (kept_offerCand (tr (by decide) hT) _ _ hv3)
      · exact (ite_holds (P := (Kept T s0)) (kept_setEnt (tr (by decide) hT) _ _ _ hv3) (ite_holds (P := (Kept T s0))
          (kept_State_count _ _ _ _ _ hv3 (hasC_of ixC_TBL_STATIC_MOVE_CNT (by decide) hT)) (kept_offerCand (tr (by
          decide) hT) _ _ (kept_setEnt (tr (by decide) hT) _ _ _ hv3))))

theorem kept_learnLeaf {T : Touch} {s0 : State} (hT : Touch.le ⟨137216,
    0x680000000000000000000000000000000000000000000, 0x500000000000000000000000000000000006400000000000⟩ T) : ∀ a0 a1
    a2, Kept T s0 a2 →
    Kept T s0 (learnLeaf a0 a1 a2) := by
  intro a0 a1 a2 h2
  unfold learnLeaf
  exact (ite_holds (P := (Kept T s0)) (kept_learnFrame (tr (by decide) hT) _ _ _ _ _ _ h2) h2)

theorem kept_lookIn {T : Touch} {s0 : State} (hT : Touch.le ⟨262144, 0x0, 0x0⟩ T) : ∀ a0 a1, Kept T s0 a1 →
    Snd (Kept T s0) (lookIn a0 a1) := by
  intro a0 a1 h1
  unfold lookIn
  extract_lets +onlyGivenNames -merge x0
  extract_lets +onlyGivenNames -merge x1
  refine snd_holds (P := (Kept T s0)) ?_
  exact (kept_up262144 (land_le (by decide) hT.1) h1)

theorem kept_toHost {T : Touch} {s0 : State} (hT : Touch.le ⟨7424, 0x4680800e00000000000000000000000000000000000000,
    0xc35500274000000000000000000000000000400000000000000⟩ T) : ∀ a0 a1 a2 a3 a4, Kept T s0 a4 →
    Snd (Kept T s0) (toHost a0 a1 a2 a3 a4) := by
  intro a0 a1 a2 a3 a4 h4
  unfold toHost
  refine ite_holds (P := (Snd (Kept T s0))) ?_ ?_
  · refine snd_holds (P := (Kept T s0)) ?_
    exact (kept_State_count _ _ _ _ _ h4 (hasC_of ixC_SYS_HEADLESS_HOST_DROP_CNT (by decide) hT))
  · split
    · rename_i v0 heq1
      have hv0 : Kept T s0 v0 := holds_eq (P := (Snd (Kept T s0))) heq1 (by
          exact (kept_idlPass (tr (by decide) hT) _ _ _ h4))
      refine snd_holds (P := (Kept T s0)) ?_
      exact (kept_State_count _ _ _ _ _ hv0 (hasC_of ixC_IDL_TRAP_POL_DROP_CNT (by decide) hT))
    · rename_i v2 heq3
      have hv2 : Kept T s0 v2 := holds_eq (P := (Snd (Kept T s0))) heq3 (by
          exact (kept_idlPass (tr (by decide) hT) _ _ _ h4))
      exact (kept_rxPlace (tr (by decide) hT) _ _ _ _ hv2)

theorem kept_hostFrame {T : Touch} {s0 : State} (hT : Touch.le ⟨7424,
    0x4680800e00000000000000000000000000000000000000, 0xc35500274000000000000000000000000000400000000000000⟩ T) : ∀
    a0 a1 a2 a3 a4, Kept T s0 a4 →
    Kept T s0 (hostFrame a0 a1 a2 a3 a4) := by
  intro a0 a1 a2 a3 a4 h4
  unfold hostFrame
  split
  · rename_i v0 heq1
    have hv0 : Kept T s0 v0 := holds_eq (P := (Snd (Kept T s0))) heq1 (by
        exact (kept_toHost (tr (by decide) hT) _ _ _ _ _ h4))
    exact (kept_inDrop (tr (by decide) hT) _ _ hv0)
  · rename_i v2 heq3
    have hv2 : Kept T s0 v2 := holds_eq (P := (Snd (Kept T s0))) heq3 (by
        exact (kept_toHost (tr (by decide) hT) _ _ _ _ _ h4))
    extract_lets +onlyGivenNames -merge x4
    have hx4 : Kept T s0 x4 := (kept_State_led (tr (by decide) hT) _ _ _ _ hv2)
    clear_value x4
    split
    · exact (kept_unitDone (tr (by decide) hT) _ _ _ _ _ _ hx4)
    · exact hx4

theorem kept_ingressEdit {T : Touch} {s0 : State} (hT : Touch.le ⟨6144,
    0x680000000000000000000000000000000000000000000, 0x500000000000000000000000000000000000002800000000⟩ T) : ∀ a0 a1
    a2 a3 a4 a5 a6 a7, Kept T s0 a7 →
    Snd (Kept T s0) (ingressEdit a0 a1 a2 a3 a4 a5 a6 a7) := by
  intro q f w ip fw rule hash s h
  unfold ingressEdit
  extract_lets d0 d one
  have h1 : ∀ p a, Kept T s0 a.2 → Kept T s0 (one p a).2 := by
    intro p a ha
    unfold one
    split
    · dsimp only
      split <;> exact kept_editCounts (tr (by decide) hT) _ _ _ ha
    · exact ha
  have h2 := h1 rule _ (h1 fw.edit (some (EditFrame.ofWalk d w.hdrs), s) h)
  split
  · rename_i heq; rw [heq] at h2; exact h2
  · rename_i heq; rw [heq] at h2; exact h2

theorem kept_launch {T : Touch} {s0 : State} (hT : Touch.le ⟨7084032, 0x800000000008000000000000000000000000000000,
    0x4000020200000000010000000100400000000000000⟩ T) : ∀ a0 a1 a2 a3 a4 a5 a6, Kept T s0 a6 →
    Kept T s0 (launch a0 a1 a2 a3 a4 a5 a6) := by
  intro a0 a1 a2 a3 a4 a5 a6 h6
  unfold launch
  extract_lets +onlyGivenNames -merge x0
  extract_lets +onlyGivenNames -merge x1
  extract_lets +onlyGivenNames -merge x2
  extract_lets +onlyGivenNames -merge x3
  subst x3
  beta_reduce
  extract_lets +onlyGivenNames -merge x4
  refine ite_holds (P := (Kept T s0)) ?_ ?_
  · extract_lets +onlyGivenNames -merge x5
    have hx5 : Kept T s0 x5 := (ite_holds (P := (Kept T s0)) h6 (ite_holds (P := (Kept T s0)) (kept_chargeCells (tr
        (by decide) hT) _ _ _ h6) (ite_holds (P := (Kept T s0)) (kept_dischargeCells (tr (by decide) hT) _ _ _ h6)
        h6)))
    clear_value x5
    extract_lets +onlyGivenNames -merge x6
    have hx6 : Kept T s0 x6 := (kept_feedPut (tr (by decide) hT) _ _ _ hx5)
    clear_value x6
    exact (ite_holds (P := (Kept T s0)) (kept_State_led (tr (by decide) hT) _ _ _ _ (kept_State_count _ _ _ _ _ hx6
        (hasC_of ixC_XBAR_ABORT_CNT (by decide) hT))) hx6)
  · refine ite_holds (P := (Kept T s0)) ?_ ?_
    · exact (kept_inDrop (tr (by decide) hT) _ _ (ite_holds (P := (Kept T s0)) h6 (ite_holds (P := (Kept T s0))
        (kept_chargeCells (tr (by decide) hT) _ _ _ h6) (ite_holds (P := (Kept T s0)) (kept_dischargeCells (tr (by
        decide) hT) _ _ _ h6) h6))))
    · split
      · rename_i v7 heq8
        have hv7 : Kept T s0 v7 := holds_eq (P := (Snd (Kept T s0))) heq8 (by
            exact (kept_sendFrame (tr (by decide) hT) _ _ _ _ h6))
        exact (ite_holds (P := (Kept T s0)) hv7 (ite_holds (P := (Kept T s0)) (kept_chargeCells (tr (by decide) hT) _
            _ _ hv7) (ite_holds (P := (Kept T s0)) (kept_dischargeCells (tr (by decide) hT) _ _ _ hv7) hv7)))
      · rename_i v9 v10 heq11
        have hv10 : Kept T s0 v10 := holds_eq (P := (Snd (Kept T s0))) heq11 (by
            exact (kept_sendFrame (tr (by decide) hT) _ _ _ _ h6))
        exact (kept_inDrop (tr (by decide) hT) _ _ (ite_holds (P := (Kept T s0)) (kept_State_count _ _ _ _ _ hv10
            (hasC_SkyBad_cnt (hasC_of ixC_SKY_NO_PEER_DROP_CNT (by decide) hT) (hasC_of ixC_TM_DEST_LIMIT_DROP_CNT
            (by decide) hT) _)) (ite_holds (P := (Kept T s0)) (kept_chargeCells (tr (by decide) hT) _ _ _
            (kept_State_count _ _ _ _ _ hv10 (hasC_SkyBad_cnt (hasC_of ixC_SKY_NO_PEER_DROP_CNT (by decide) hT)
            (hasC_of ixC_TM_DEST_LIMIT_DROP_CNT (by decide) hT) _))) (ite_holds (P := (Kept T s0))
            (kept_dischargeCells (tr (by decide) hT) _ _ _ (kept_State_count _ _ _ _ _ hv10 (hasC_SkyBad_cnt (hasC_of
            ixC_SKY_NO_PEER_DROP_CNT (by decide) hT) (hasC_of ixC_TM_DEST_LIMIT_DROP_CNT (by decide) hT) _)))
            (kept_State_count _ _ _ _ _ hv10 (hasC_SkyBad_cnt (hasC_of ixC_SKY_NO_PEER_DROP_CNT (by decide) hT)
            (hasC_of ixC_TM_DEST_LIMIT_DROP_CNT (by decide) hT) _))))))

theorem kept_setPol {T : Touch} {s0 : State} (hT : Touch.le ⟨2097152, 0x0, 0x0⟩ T) : ∀ a0 a1 a2, Kept T s0 a2 →
    Kept T s0 (setPol a0 a1 a2) := by
  intro a0 a1 a2 h2
  unfold setPol
  exact (kept_up2097152 (land_le (by decide) hT.1) h2)

theorem kept_policerRefresh {T : Touch} {s0 : State} (hT : Touch.le ⟨2097152, 0x0, 0x0⟩ T) : ∀ a0 a1, Kept T s0 a1 →
    Kept T s0 (policerRefresh a0 a1) := by
  intro a0 a1 h1
  unfold policerRefresh
  extract_lets +onlyGivenNames -merge x0
  exact (ite_holds (P := (Kept T s0)) (kept_setPol (tr (by decide) hT) _ _ _ h1) h1)

theorem kept_police {T : Touch} {s0 : State} (hT : Touch.le ⟨2097152, 0x0, 0x8000000000000000000000000⟩ T) : ∀ a0 a1
    a2 a3, Kept T s0 a3 →
    Snd (Kept T s0) (police a0 a1 a2 a3) := by
  intro a0 a1 a2 a3 h3
  unfold police
  extract_lets +onlyGivenNames -merge x0
  have hx0 : Kept T s0 x0 := (kept_policerRefresh (tr (by decide) hT) _ _ h3)
  clear_value x0
  extract_lets +onlyGivenNames -merge x1
  refine ite_holds (P := (Snd (Kept T s0))) ?_ ?_
  · refine snd_holds (P := (Kept T s0)) ?_
    exact hx0
  · refine ite_holds (P := (Snd (Kept T s0))) ?_ ?_
    · refine snd_holds (P := (Kept T s0)) ?_
      exact (kept_setPol (tr (by decide) hT) _ _ _ hx0)
    · refine snd_holds (P := (Kept T s0)) ?_
      exact (kept_State_count _ _ _ _ _ (kept_setPol (tr (by decide) hT) _ _ _ hx0) (hasC_of ixC_TM_POLICE_DROP_CNT
          (by decide) hT))

theorem kept_onward {T : Touch} {s0 : State} (hT : Touch.le ⟨7085312,
    0x4680800e00000008000000000000000000000000000000, 0xc35500274000020200000000018000000100400003800000000⟩ T) : ∀
    a0 a1 a2 a3 a4 a5 a6 a7 a8, Kept T s0 a8 →
    Kept T s0 (onward a0 a1 a2 a3 a4 a5 a6 a7 a8) := by
  intro a0 a1 a2 a3 a4 a5 a6 a7 a8 h8
  unfold onward
  extract_lets +onlyGivenNames -merge x0
  extract_lets +onlyGivenNames -merge x1
  extract_lets +onlyGivenNames -merge x2
  extract_lets +onlyGivenNames -merge x3
  subst x3
  beta_reduce
  extract_lets +onlyGivenNames -merge x4
  have hx4 : Kept T s0 x4 := (ite_holds (P := (Kept T s0)) h8 (kept_chargeCells (tr (by decide) hT) _ _ _ h8))
  clear_value x4
  split
  · rename_i v5 v6 heq7
    have hv6 : Kept T s0 v6 := holds_eq (P := (Snd (Kept T s0))) heq7 (by
        refine ite_holds (P := (Snd (Kept T s0))) ?_ ?_
        · refine snd_holds (P := (Kept T s0)) ?_
          exact hx4
        · split
          · exact (kept_police (tr (by decide) hT) _ _ _ _ hx4)
          · refine snd_holds (P := (Kept T s0)) ?_
            exact hx4)
    extract_lets +onlyGivenNames -merge x11
    split
    · exact (kept_inDrop (tr (by decide) hT) _ _ (ite_holds (P := (Kept T s0)) hv6 (kept_dischargeCells (tr (by
        decide) hT) _ _ _ hv6)))
    · refine ite_holds (P := (Kept T s0)) ?_ ?_
      · exact (kept_inDrop (tr (by decide) hT) _ _ (ite_holds (P := (Kept T s0)) hv6 (kept_dischargeCells (tr (by
          decide) hT) _ _ _ hv6)))
      · split
        · rename_i v17 heq18
          have hv17 : Kept T s0 v17 := holds_eq (P := (Snd (Kept T s0))) heq18 (by
              exact (kept_ingressEdit (tr (by decide) hT) _ _ _ _ _ _ _ _ hv6))
          exact (kept_inDrop (tr (by decide) hT) _ _ (ite_holds (P := (Kept T s0)) hv17 (kept_dischargeCells (tr (by
              decide) hT) _ _ _ hv17)))
        · rename_i v19 v20 heq21
          have hv20 : Kept T s0 v20 := holds_eq (P := (Snd (Kept T s0))) heq21 (by
              exact (kept_ingressEdit (tr (by decide) hT) _ _ _ _ _ _ _ _ hv6))
          exact (ite_holds (P := (Kept T s0)) (kept_inDrop (tr (by decide) hT) _ _ (ite_holds (P := (Kept T s0))
              (kept_State_count _ _ _ _ _ hv20 (hasC_of ixC_PARSE_EDIT_OVERSIZE_CNT (by decide) hT))
              (kept_dischargeCells (tr (by decide) hT) _ _ _ (kept_State_count _ _ _ _ _ hv20 (hasC_of
              ixC_PARSE_EDIT_OVERSIZE_CNT (by decide) hT))))) (ite_holds (P := (Kept T s0)) (kept_hostFrame (tr (by
              decide) hT) _ _ _ _ _ hv20) (kept_dischargeCells (tr (by decide) hT) _ _ _ (kept_hostFrame (tr (by
              decide) hT) _ _ _ _ _ hv20))))
    · split
      · refine ite_holds (P := (Kept T s0)) ?_ ?_
        · exact (kept_inDrop (tr (by decide) hT) _ _ (ite_holds (P := (Kept T s0)) hv6 (kept_dischargeCells (tr (by
            decide) hT) _ _ _ hv6)))
        · split
          · rename_i v27 heq28
            have hv27 : Kept T s0 v27 := holds_eq (P := (Snd (Kept T s0))) heq28 (by
                exact (kept_ingressEdit (tr (by decide) hT) _ _ _ _ _ _ _ _ hv6))
            exact (kept_inDrop (tr (by decide) hT) _ _ (ite_holds (P := (Kept T s0)) hv27 (kept_dischargeCells (tr
                (by decide) hT) _ _ _ hv27)))
          · rename_i v29 v30 heq31
            have hv30 : Kept T s0 v30 := holds_eq (P := (Snd (Kept T s0))) heq31 (by
                exact (kept_ingressEdit (tr (by decide) hT) _ _ _ _ _ _ _ _ hv6))
            extract_lets +onlyGivenNames -merge x32
            extract_lets +onlyGivenNames -merge x33
            have hx33 : Kept T s0 x33 := (kept_State_countIf (tr (by decide) hT) _ _ _ _ _ hv30 (hasC_of
                ixC_PARSE_EDIT_OVERSIZE_CNT (by decide) hT))
            clear_value x33
            exact (kept_launch (tr (by decide) hT) _ _ _ _ _ _ _ hx33)
    · split
      · refine ite_holds (P := (Kept T s0)) ?_ ?_
        · exact (kept_inDrop (tr (by decide) hT) _ _ (ite_holds (P := (Kept T s0)) hv6 (kept_dischargeCells (tr (by
            decide) hT) _ _ _ hv6)))
        · split
          · rename_i v40 heq41
            have hv40 : Kept T s0 v40 := holds_eq (P := (Snd (Kept T s0))) heq41 (by
                exact (kept_ingressEdit (tr (by decide) hT) _ _ _ _ _ _ _ _ hv6))
            exact (kept_inDrop (tr (by decide) hT) _ _ (ite_holds (P := (Kept T s0)) hv40 (kept_dischargeCells (tr
                (by decide) hT) _ _ _ hv40)))
          · rename_i v42 v43 heq44
            have hv43 : Kept T s0 v43 := holds_eq (P := (Snd (Kept T s0))) heq44 (by
                exact (kept_ingressEdit (tr (by decide) hT) _ _ _ _ _ _ _ _ hv6))
            extract_lets +onlyGivenNames -merge x45
            extract_lets +onlyGivenNames -merge x46
            have hx46 : Kept T s0 x46 := (kept_State_countIf (tr (by decide) hT) _ _ _ _ _ hv43 (hasC_of
                ixC_PARSE_EDIT_OVERSIZE_CNT (by decide) hT))
            clear_value x46
            exact (kept_launch (tr (by decide) hT) _ _ _ _ _ _ _ hx46)

theorem kept_classify {T : Touch} {s0 : State} (hT : Touch.le ⟨7249152,
    0x4680800e00000008000000000000000000000000000000, 0xc35503e74000020200000000018000000100407fffd80000000⟩ T) : ∀
    a0 a1 a2, Kept T s0 a2 →
    Kept T s0 (classify a0 a1 a2) := by
  intro a0 a1 a2 h2
  unfold classify
  extract_lets +onlyGivenNames -merge x0
  split
  · rename_i v1 v2 heq3
    have hv2 : Kept T s0 v2 := holds_eq (P := (Snd (Kept T s0))) heq3 (by
        exact (kept_lookIn (tr (by decide) hT) _ _ h2))
    extract_lets +onlyGivenNames -merge x4
    extract_lets +onlyGivenNames -merge x5
    extract_lets +onlyGivenNames -merge x6
    extract_lets +onlyGivenNames -merge x7
    extract_lets +onlyGivenNames -merge x8
    extract_lets +onlyGivenNames -merge x9
    extract_lets +onlyGivenNames -merge x10
    have hx10 : Kept T s0 x10 := (kept_ruleParity (tr (by decide) hT) _ _ _ hv2)
    clear_value x10
    split
    · rename_i v11 v12 heq13
      have hv12 : Kept T s0 v12 := holds_eq (P := (Snd (Kept T s0))) heq13 (by
          exact (kept_tableLookup (tr (by decide) hT) _ _ _ _ _ hx10))
      extract_lets +onlyGivenNames -merge x14
      have hx14 : Kept T s0 x14 := (kept_learnLeaf (tr (by decide) hT) _ _ _ hv12)
      clear_value x14
      extract_lets +onlyGivenNames -merge x15
      extract_lets +onlyGivenNames -merge x16
      split
      · rename_i v17 v18 v19 heq20
        have hv19 : Kept T s0 v19 := holds_eq (P := (Snd (Snd (Kept T s0)))) heq20 (by
            exact (kept_decide' (tr (by decide) hT) _ _ _ _ _ hx14))
        extract_lets +onlyGivenNames -merge x21
        have hx21 : Kept T s0 x21 := by
          subst x21
          split
          · exact (kept_inDrop (tr (by decide) hT) _ _ (ite_holds (P := (Kept T s0)) hv19 (kept_State_count _ _ _ _ _
              hv19 (hasC_DropCause_cnt (hasC_of ixC_PARSE_RULE_DROP_CNT (by decide) hT) (hasC_of
              ixC_TBL_LAG_EMPTY_DROP_CNT (by decide) hT) (hasC_of ixC_TBL_PARITY_DROP_CNT (by decide) hT) (hasC_of
              ixC_TBL_NH_INVALID_DROP_CNT (by decide) hT) (hasC_of ixC_TBL_NH_DROP_CNT (by decide) hT) (hasC_of
              ixC_TBL_TTL_EXPIRE_CNT (by decide) hT) (hasC_of ixC_TBL_ECMP_EMPTY_DROP_CNT (by decide) hT) (hasC_of
              ixC_TBL_L2_MISS_DROP_CNT (by decide) hT) (hasC_of ixC_TBL_L3_MISS_DROP_CNT (by decide) hT) (hasC_of
              ixC_TBL_MAC_DROP_CNT (by decide) hT) _))))
          · exact (kept_onward (tr (by decide) hT) _ _ _ _ _ _ _ _ _ hv19)
        clear_value x21
        refine ite_holds (P := (Kept T s0)) ?_ ?_
        · exact hx21
        · extract_lets +onlyGivenNames -merge x26
          have hx26 : Kept T s0 x26 := (kept_flowCount (tr (by decide) hT) _ _ _ hx21)
          clear_value x26
          exact (kept_ingressCopy (tr (by decide) hT) _ _ _ _ _ hx26)

theorem kept_parseStep {T : Touch} {s0 : State} (hT : Touch.le ⟨138496,
    0x4680800e00000000000000000000000000000000000000, 0xc35500274000000000000000000000000000406400040000000⟩ T) : ∀
    a0 a1 a2, Kept T s0 a2 →
    Snd (Kept T s0) (parseStep a0 a1 a2) := by
  intro a0 a1 a2 h2
  unfold parseStep
  extract_lets +onlyGivenNames -merge x0
  extract_lets +onlyGivenNames -merge x1
  split
  · refine snd_holds (P := (Kept T s0)) ?_
    exact h2
  · extract_lets +onlyGivenNames -merge x5
    have hx5 : Kept T s0 x5 := (kept_State_countIf (tr (by decide) hT) _ _ _ _ _ h2 (hasC_of ixC_PARSE_MAL_CNT (by
        decide) hT))
    clear_value x5
    extract_lets +onlyGivenNames -merge x6
    refine ite_holds (P := (Snd (Kept T s0))) ?_ ?_
    · refine snd_holds (P := (Kept T s0)) ?_
      exact hx5
    · refine ite_holds (P := (Snd (Kept T s0))) ?_ ?_
      · refine snd_holds (P := (Kept T s0)) ?_
        exact (kept_inDrop (tr (by decide) hT) _ _ hx5)
      · extract_lets +onlyGivenNames -merge x7
        have hx7 : Kept T s0 x7 := (ite_holds (P := (Kept T s0)) (kept_learnLeaf (tr (by decide) hT) _ _ _ hx5) hx5)
        clear_value x7
        extract_lets +onlyGivenNames -merge x8
        refine snd_holds (P := (Kept T s0)) ?_
        exact (kept_hostFrame (tr (by decide) hT) _ _ _ _ _ hx7)

theorem kept_ingressFrame {T : Touch} {s0 : State} (hT : Touch.le ⟨7249152,
    0x4680800e00000008000000000000000000000000000000, 0xc35503e74000020200000000018000000100407fffdc0000000⟩ T) : ∀
    a0 a1, Kept T s0 a1 →
    Kept T s0 (ingressFrame a0 a1) := by
  intro a0 a1 h1
  unfold ingressFrame
  split
  · rename_i v0 heq1
    have hv0 : Kept T s0 v0 := holds_eq (P := (Snd (Kept T s0))) heq1 (by
        exact (kept_parseStep (tr (by decide) hT) _ _ _ h1))
    exact hv0
  · rename_i v2 v3 heq4
    have hv3 : Kept T s0 v3 := holds_eq (P := (Snd (Kept T s0))) heq4 (by
        exact (kept_parseStep (tr (by decide) hT) _ _ _ h1))
    exact (kept_classify (tr (by decide) hT) _ _ _ hv3)

theorem kept_directFrame {T : Touch} {s0 : State} (hT : Touch.le ⟨7216384,
    0x4680800e00000008000000000000000000000000000000, 0xc35500274000020200000000010000000100406400040000000⟩ T) : ∀
    a0 a1 a2 a3 a4, Kept T s0 a4 →
    Kept T s0 (directFrame a0 a1 a2 a3 a4) := by
  intro a0 a1 a2 a3 a4 h4
  unfold directFrame
  split
  · rename_i v0 heq1
    have hv0 : Kept T s0 v0 := holds_eq (P := (Snd (Kept T s0))) heq1 (by
        exact (kept_parseStep (tr (by decide) hT) _ _ _ h4))
    exact hv0
  · rename_i v2 v3 heq4
    have hv3 : Kept T s0 v3 := holds_eq (P := (Snd (Kept T s0))) heq4 (by
        exact (kept_parseStep (tr (by decide) hT) _ _ _ h4))
    extract_lets +onlyGivenNames -merge x5
    exact (kept_launch (tr (by decide) hT) _ _ _ _ _ _ _ hv3)

theorem kept_execTxDescriptor {T : Touch} {s0 : State} (hT : Touch.le ⟨2048,
    0x800000000000000000000000000000000000000000, 0x4000000000000000000000000000400000000000000⟩ T) : ∀ a0 a1, Kept T
    s0 a1 →
    ResKept T s0 (execTxDescriptor a0 a1) := by
  intro a0 a1 h1
  unfold execTxDescriptor
  refine next_kept ?_
  split
  · exact h1
  · extract_lets +onlyGivenNames -merge x4
    exact (ite_holds (P := (Kept T s0)) (kept_setUnitSt (tr (by decide) hT) _ _ _ _ h1) (kept_finish (tr (by decide)
        hT) _ _ _ _ h1))

theorem kept_readSegs {T : Touch} {s0 : State} (hT : Touch.le ⟨7168, 0x680000000000000000000000000000000000000000000,
    0x30500000000000000000000000000000000000000000000000⟩ T) : ∀ a0 a1 a2 a3, Kept T s0 a3 →
    Snd (Snd (Kept T s0)) (readSegs a0 a1 a2 a3) := by
  intro l
  induction l with
  | nil => exact fun st acc s h => h
  | cons d l ih =>
    intro st acc s h
    unfold readSegs
    have h1 := kept_dmaRead (tr (by decide) hT) (entWord d 1) (bits (entWord d 0) 15 0) s h
    split
    · rename_i heq; rw [heq] at h1; exact ih _ _ _ h1
    · rename_i heq; rw [heq] at h1; exact ih _ _ _ h1

theorem kept_inject {T : Touch} {s0 : State} (hT : Touch.le ⟨7249152,
    0x4680800e00000008000000000000000000000000000000, 0xc35503e74000020200000000018000000100407fffdc0000000⟩ T) : ∀
    a0 a1 a2 a3, Kept T s0 a3 →
    Kept T s0 (inject a0 a1 a2 a3) := by
  intro a0 a1 a2 a3 h3
  unfold inject
  extract_lets +onlyGivenNames -merge x0
  extract_lets +onlyGivenNames -merge x1
  split
  · rename_i v2 v3 v4 heq5
    have hv4 : Kept T s0 v4 := holds_eq (P := (Snd (Snd (Kept T s0)))) heq5 (by
        exact (kept_readSegs (tr (by decide) hT) _ _ _ _ h3))
    refine ite_holds (P := (Kept T s0)) ?_ ?_
    · exact (kept_finish (tr (by decide) hT) _ _ _ _ hv4)
    · extract_lets +onlyGivenNames -merge x6
      have hx6 : Kept T s0 x6 := (kept_State_led (tr (by decide) hT) _ _ _ _ (kept_setUnitSt (tr (by decide) hT) _ _
          _ _ hv4))
      clear_value x6
      extract_lets +onlyGivenNames -merge x7
      exact (ite_holds (P := (Kept T s0)) (kept_directFrame (tr (by decide) hT) _ _ _ _ _ hx6) (kept_ingressFrame (tr
          (by decide) hT) _ _ hx6))

theorem kept_execTxFrameInject {T : Touch} {s0 : State} (hT : Touch.le ⟨7249152,
    0x4680800e00000008000000000000000000000000000000, 0xc35503e74000020200000000018000000100407fffdc0000000⟩ T) : ∀
    a0 a1, Kept T s0 a1 →
    ResKept T s0 (execTxFrameInject a0 a1) := by
  intro a0 a1 h1
  unfold execTxFrameInject
  refine next_kept ?_
  refine ite_holds (P := (Kept T s0)) ?_ ?_
  · exact h1
  · split
    · exact h1
    · split
      · exact h1
      · extract_lets +onlyGivenNames -merge x7
        exact (ite_holds (P := (Kept T s0)) h1 (kept_inject (tr (by decide) hT) _ _ _ _ (kept_up2048 (land_le (by
            decide) hT.1) h1)))

/-! ### Machine/Receive.lean -/

theorem kept_badFrame {T : Touch} {s0 : State} (hT : Touch.le ⟨7249152,
    0x4680800e00000008000000000000000000000000000000, 0xc35503e74000020200000000018000000100407fffdc00001f0⟩ T) : ∀
    a0 a1 a2 a3, Kept T s0 a3 →
    Kept T s0 (badFrame a0 a1 a2 a3) := by
  intro a0 a1 a2 a3 h3
  unfold badFrame
  extract_lets +onlyGivenNames -merge x0
  have hx0 : Kept T s0 x0 := (kept_State_count _ _ _ _ _ h3 (hasC_RxBad_cnt (hasC_of ixC_LEAF_RX_CODE_ERR_CNT (by
      decide) hT) (hasC_of ixC_LEAF_RX_RUNT_CNT (by decide) hT) (hasC_of ixC_LEAF_RX_OVERSIZE_CNT (by decide) hT)
      (hasC_of ixC_LEAF_RX_FCS_ERR_CNT (by decide) hT) (hasC_of ixC_LEAF_RX_TRUNC_CNT (by decide) hT) _))
  clear_value x0
  extract_lets +onlyGivenNames -merge x1
  exact (ite_holds (P := (Kept T s0)) (kept_inDrop (tr (by decide) hT) _ _ hx0) (kept_ingressFrame (tr (by decide)
      hT) _ _ hx0))

theorem kept_clearRx {T : Touch} {s0 : State} (hT : Touch.le ⟨262144, 0x0, 0x0⟩ T) : ∀ a0 a1, Kept T s0 a1 →
    Kept T s0 (clearRx a0 a1) := by
  intro a0 a1 h1
  unfold clearRx
  exact (kept_setPort (tr (by decide) hT) _ _ _ h1)

theorem kept_overrun {T : Touch} {s0 : State} (hT : Touch.le ⟨4096, 0x0, 0x4000000000000000⟩ T) : ∀ a0 a1, Kept T s0
    a1 →
    Kept T s0 (overrun a0 a1) := by
  intro a0 a1 h1
  unfold overrun
  exact (kept_State_led (tr (by decide) hT) _ _ _ _ (kept_State_count _ _ _ _ _ (kept_State_led (tr (by decide) hT) _
      _ _ _ h1) (hasC_of ixC_XBAR_RX_OVERRUN_CNT (by decide) hT)))

theorem kept_rxTaken {T : Touch} {s0 : State} (hT : Touch.le ⟨4096, 0x0, 0x4000000000000000⟩ T) : ∀ a0 a1 a2 a3, (∀
    z0, Kept T s0 z0 → Kept T s0 (a2 z0)) → Kept T s0 a3 →
    Kept T s0 (rxTaken a0 a1 a2 a3) := by
  intro a0 a1 a2 a3 h2 h3
  unfold rxTaken
  split
  · exact h3
  · refine h2 _ (kept_State_led (tr (by decide) hT) _ _ _ _ h3)

  · refine ite_holds (P := (Kept T s0)) ?_ ?_
    · exact (kept_overrun (tr (by decide) hT) _ _ h3)
    · refine h2 _ (kept_State_led (tr (by decide) hT) _ _ _ _ h3)

theorem kept_cutRx {T : Touch} {s0 : State} (hT : Touch.le ⟨7249152,
    0x4680800e00000008000000000000000000000000000000, 0xc35503e74000020200000000018000000104407fffdc00001f0⟩ T) : ∀
    a0 a1 a2, Kept T s0 a2 →
    Kept T s0 (cutRx a0 a1 a2) := by
  intro a0 a1 a2 h2
  unfold cutRx
  extract_lets +onlyGivenNames -merge x0
  extract_lets +onlyGivenNames -merge x1
  have hx1 : Kept T s0 x1 := (kept_clearRx (tr (by decide) hT) _ _ h2)
  clear_value x1
  split
  · exact hx1
  · refine ite_holds (P := (Kept T s0)) ?_ ?_
    · refine kept_rxTaken (tr (by decide) hT) _ _ _ _ ?_ hx1
      · intro y5 hy5
        exact (kept_badFrame (tr (by decide) hT) _ _ _ _ hy5)
    · exact hx1

theorem kept_groupRestart {T : Touch} {s0 : State} (hT : Touch.le ⟨8297728,
    0x4680800e0000000c000000003040000580000000000094, 0xc35507e74000020200000000018000024104407fffdc0c003f0⟩ T) : ∀
    a0 a1, Kept T s0 a1 →
    Kept T s0 (groupRestart a0 a1) := by
  intro a0 a1 h1
  unfold groupRestart
  extract_lets +onlyGivenNames -merge x0
  extract_lets +onlyGivenNames -merge x1
  refine ite_holds (P := (Kept T s0)) ?_ ?_
  · exact (kept_State_setFld (tr (by decide) hT) _ _ _ _ _ h1 (hasR_of ixR_LEAF_GROUP_STATUS (by decide) hT))
  · extract_lets +onlyGivenNames -merge x2
    have hx2 : Kept T s0 x2 := (foldl_holds (P := (Kept T s0)) (fun _ _ hm3 => (kept_setPort (tr (by decide) hT) _ _
        _ (kept_clearPause (tr (by decide) hT) _ _ (kept_flushPort (tr (by decide) hT) _ _ (kept_abandonTx (tr (by
        decide) hT) _ _ (kept_loseLink (tr (by decide) hT) _ _ (kept_cutRx (tr (by decide) hT) _ _ _ (ite_holds (P :=
        (Kept T s0)) (kept_State_count _ _ _ _ _ hm3 (hasC_of ixC_LEAF_LINK_DOWN_CNT (by decide) hT)) hm3)))))))) h1)
    clear_value x2
    extract_lets +onlyGivenNames -merge x4
    extract_lets +onlyGivenNames -merge x5
    have hx5 : Kept T s0 x5 := (kept_up262144 (land_le (by decide) hT.1) hx2)
    clear_value x5
    extract_lets +onlyGivenNames -merge x6
    have hx6 : Kept T s0 x6 := (kept_State_setFld (tr (by decide) hT) _ _ _ _ _ (kept_State_setFld (tr (by decide)
        hT) _ _ _ _ _ (kept_State_setFld (tr (by decide) hT) _ _ _ _ _ hx5 (hasR_of ixR_LEAF_GROUP_STATUS (by decide)
        hT)) (hasR_of ixR_LEAF_GROUP_STATUS (by decide) hT)) (hasR_of ixR_LEAF_GROUP_STATUS (by decide) hT))
    clear_value x6
    exact (foldl_holds (P := (Kept T s0)) (fun _ _ hm7 => (kept_startLine (tr (by decide) hT) _ _ (kept_State_setReg
        _ _ _ _ _ hm7 (hasR_of ixR_LEAF_PORT_STATUS (by decide) hT)))) hx6)

theorem kept_doze {T : Touch} {s0 : State} (hT : Touch.le ⟨7249152, 0x4680800e00000008000000000000000000000000000090,
    0xc35503e74000020200000000018000000104407fffdc00001f0⟩ T) : ∀ a0 a1, Kept T s0 a1 →
    Kept T s0 (doze a0 a1) := by
  intro a0 a1 h1
  unfold doze
  extract_lets +onlyGivenNames -merge x0
  refine ite_holds (P := (Kept T s0)) ?_ ?_
  · exact h1
  · refine ite_holds (P := (Kept T s0)) ?_ ?_
    · extract_lets +onlyGivenNames -merge x1
      have hx1 : Kept T s0 x1 := (kept_dropLanes (tr (by decide) hT) _ _ (kept_endPause (tr (by decide) hT) _ _
          (kept_loseLink (tr (by decide) hT) _ _ (kept_cutRx (tr (by decide) hT) _ _ _ h1))))
      clear_value x1
      extract_lets +onlyGivenNames -merge x2
      extract_lets +onlyGivenNames -merge x3
      have hx3 : Kept T s0 x3 := (kept_setPort (tr (by decide) hT) _ _ _ hx1)
      clear_value x3
      exact (kept_State_setFld (tr (by decide) hT) _ _ _ _ _ (kept_State_setFld (tr (by decide) hT) _ _ _ _ _
          (kept_State_setFld (tr (by decide) hT) _ _ _ _ _ hx3 (hasR_of ixR_LEAF_PORT_STATUS (by decide) hT))
          (hasR_of ixR_LEAF_PORT_STATUS (by decide) hT)) (hasR_of ixR_LEAF_PORT_STATUS (by decide) hT))
    · exact (kept_State_setFld (tr (by decide) hT) _ _ _ _ _ h1 (hasR_of ixR_LEAF_PORT_STATUS (by decide) hT))

theorem kept_wake {T : Touch} {s0 : State} (hT : Touch.le ⟨262400, 0x10, 0x1000000⟩ T) : ∀ a0 a1, Kept T s0 a1 →
    Kept T s0 (wake a0 a1) := by
  intro a0 a1 h1
  unfold wake
  refine ite_holds (P := (Kept T s0)) ?_ ?_
  · extract_lets +onlyGivenNames -merge x0
    have hx0 : Kept T s0 x0 := (kept_State_setFld (tr (by decide) hT) _ _ _ _ _ (kept_State_count _ _ _ _ _ h1
        (hasC_of ixC_LEAF_WAKE_CNT (by decide) hT)) (hasR_of ixR_LEAF_PORT_STATUS (by decide) hT))
    clear_value x0
    extract_lets +onlyGivenNames -merge x1
    extract_lets +onlyGivenNames -merge x2
    have hx2 : Kept T s0 x2 := (kept_setPort (tr (by decide) hT) _ _ _ hx0)
    clear_value x2
    exact (kept_State_emit (tr (by decide) hT) _ _ hx2)
  · exact h1

theorem kept_dozeCtrl {T : Touch} {s0 : State} (hT : Touch.le ⟨7249664,
    0x600000004680800e00000008000000000000000000000000000090, 0xc35d03e74000020200000000018000000104407fffdc10001f0⟩
    T) : ∀ a0 a1 a2, Kept T s0 a2 →
    Kept T s0 (dozeCtrl a0 a1 a2) := by
  intro a0 a1 a2 h2
  unfold dozeCtrl
  extract_lets +onlyGivenNames -merge x0
  extract_lets +onlyGivenNames -merge x1
  exact (ite_holds (P := (Kept T s0)) (kept_logWrite (tr (by decide) hT) _ _ _ h2) (ite_holds (P := (Kept T s0))
      (kept_doze (tr (by decide) hT) _ _ h2) (ite_holds (P := (Kept T s0)) (kept_wake (tr (by decide) hT) _ _ h2)
      h2)))

theorem kept_dropLane {T : Touch} {s0 : State} (hT : Touch.le ⟨8297728,
    0x4680800e0000000c000000003040000580000000000090, 0xc35507e74000020200000000018000024104407fffdc0c003f0⟩ T) : ∀
    a0 a1, Kept T s0 a1 →
    Kept T s0 (dropLane a0 a1) := by
  intro a0 a1 h1
  unfold dropLane
  extract_lets +onlyGivenNames -merge x0
  extract_lets +onlyGivenNames -merge x1
  extract_lets +onlyGivenNames -merge x2
  have hx2 : Kept T s0 x2 := (kept_up262144 (land_le (by decide) hT.1) h1)
  clear_value x2
  exact (ite_holds (P := (Kept T s0)) (kept_linkDown (tr (by decide) hT) _ _ (kept_cutRx (tr (by decide) hT) _ _ _
      hx2)) (kept_setPort (tr (by decide) hT) _ _ _ hx2))

theorem kept_execDoze {T : Touch} {s0 : State} (hT : Touch.le ⟨7249664,
    0x600000004680800e00000008000000000000000000000000000090, 0xc35d03e74000020200000000018000000104407fffdc10001f0⟩
    T) : ∀ a0 a1 a2, Kept T s0 a2 →
    ResKept T s0 (execDoze a0 a1 a2) := by
  intro a0 a1 a2 h2
  unfold execDoze
  refine next_kept ?_
  extract_lets +onlyGivenNames -merge x0
  refine kept_far (tr (by decide) hT) _ _ _ ?_ h2
  · intro y1 hy1
    exact (kept_dozeCtrl (tr (by decide) hT) _ _ _ hy1)

theorem kept_execLaneAlignLoss {T : Touch} {s0 : State} (hT : Touch.le ⟨8297728,
    0x4680800e0000000c000000003040000580000000000090, 0xc35507e74000020200000000018000024104407fffdd0c003f0⟩ T) : ∀
    a0 a1, Kept T s0 a1 →
    ResKept T s0 (execLaneAlignLoss a0 a1) := by
  intro a0 a1 h1
  unfold execLaneAlignLoss
  refine next_kept ?_
  exact (ite_holds (P := (Kept T s0)) (kept_dropLane (tr (by decide) hT) _ _ (kept_State_count _ _ _ _ _ h1 (hasC_of
      ixC_LEAF_AM_LOSS_CNT (by decide) hT))) h1)

theorem kept_execLeafGroupRestart {T : Touch} {s0 : State} (hT : Touch.le ⟨8297728,
    0x4680800e0000000c000000003040000580000000000094, 0xc35507e74000020200000000018000024104407fffdc0c003f0⟩ T) : ∀
    a0 a1 a2, Kept T s0 a2 →
    ResKept T s0 (execLeafGroupRestart a0 a1 a2) := by
  intro a0 a1 a2 h2
  unfold execLeafGroupRestart
  refine next_kept ?_
  refine kept_far (tr (by decide) hT) _ _ _ ?_ h2
  · intro y0 hy0
    exact (kept_groupRestart (tr (by decide) hT) _ _ hy0)

theorem kept_fecReport {T : Touch} {s0 : State} (hT : Touch.le ⟨8297728,
    0x4680800e0000000c000000003040000580000000000090, 0xc35507e74000020200000000018000024104407fffdcec003f0⟩ T) : ∀
    a0 a1 a2 a3, Kept T s0 a3 →
    Kept T s0 (fecReport a0 a1 a2 a3) := by
  intro a0 a1 a2 a3 h3
  unfold fecReport
  extract_lets +onlyGivenNames -merge x0
  have hx0 : Kept T s0 x0 := (foldl_holds (P := (Kept T s0)) (fun _ _ hm1 => (kept_State_count _ _ _ _ _
      (kept_State_count _ _ _ _ _ (kept_State_count _ _ _ _ _ hm1 (hasC_of ixC_LEAF_FEC_CORR_SYM_CNT (by decide) hT))
      (hasC_of ixC_LEAF_FEC_CORR_CW_CNT (by decide) hT)) (hasC_of ixC_LEAF_FEC_UNCORR_CW_CNT (by decide) hT))) h3)
  clear_value x0
  extract_lets +onlyGivenNames -merge x2
  extract_lets +onlyGivenNames -merge x3
  extract_lets +onlyGivenNames -merge x4
  extract_lets +onlyGivenNames -merge x5
  have hx5 : Kept T s0 x5 := (kept_setPort (tr (by decide) hT) _ _ _ hx0)
  clear_value x5
  exact (ite_holds (P := (Kept T s0)) (kept_relock (tr (by decide) hT) _ _ (kept_linkDown (tr (by decide) hT) _ _
      (kept_cutRx (tr (by decide) hT) _ _ _ hx5))) hx5)

theorem kept_goodFrame {T : Touch} {s0 : State} (hT : Touch.le ⟨7249152,
    0x4680800e00000008000000000000000000000000000000, 0xc3551be74000020200000000018000000100407fffdc0000003⟩ T) : ∀
    a0 a1 a2, Kept T s0 a2 →
    Kept T s0 (goodFrame a0 a1 a2) := by
  intro a0 a1 a2 h2
  unfold goodFrame
  extract_lets +onlyGivenNames -merge x0
  have hx0 : Kept T s0 x0 := (kept_State_count _ _ _ _ _ (kept_State_count _ _ _ _ _ h2 (hasC_of
      ixC_LEAF_RX_FRAME_CNT (by decide) hT)) (hasC_of ixC_LEAF_RX_BYTE_CNT (by decide) hT))
  clear_value x0
  extract_lets +onlyGivenNames -merge x1
  extract_lets +onlyGivenNames -merge x2
  extract_lets +onlyGivenNames -merge x3
  extract_lets +onlyGivenNames -merge x4
  have hx4 : Kept T s0 x4 := (kept_sampleFrame (tr (by decide) hT) _ _ _ hx0)
  clear_value x4
  exact (kept_ingressFrame (tr (by decide) hT) _ _ hx4)

theorem kept_rxMore {T : Touch} {s0 : State} (hT : Touch.le ⟨266240, 0x0, 0x4000000000000000⟩ T) : ∀ a0 a1 a2, Kept T
    s0 a2 →
    Kept T s0 (rxMore a0 a1 a2) := by
  intro a0 a1 a2 h2
  unfold rxMore
  split
  · exact (kept_setPort (tr (by decide) hT) _ _ _ h2)
  · extract_lets +onlyGivenNames -merge x4
    extract_lets +onlyGivenNames -merge x5
    have hx5 : Kept T s0 x5 := (ite_holds (P := (Kept T s0)) (kept_overrun (tr (by decide) hT) _ _ h2) h2)
    clear_value x5
    exact (kept_setPort (tr (by decide) hT) _ _ _ hx5)

theorem kept_receive {T : Touch} {s0 : State} (hT : Touch.le ⟨7249152,
    0x4680800e00000008000000000000000000000000000080, 0xc3551be74000020200000000018000000104407fffdc02901f3⟩ T) : ∀
    a0 a1 a2, Kept T s0 a2 →
    Kept T s0 (receive a0 a1 a2) := by
  intro a0 a1 a2 h2
  unfold receive
  refine ite_holds (P := (Kept T s0)) ?_ ?_
  · exact h2
  · refine ite_holds (P := (Kept T s0)) ?_ ?_
    · exact (kept_rxMore (tr (by decide) hT) _ _ _ h2)
    · extract_lets +onlyGivenNames -merge x0
      extract_lets +onlyGivenNames -merge x1
      have hx1 : Kept T s0 x1 := (kept_clearRx (tr (by decide) hT) _ _ h2)
      clear_value x1
      refine ite_holds (P := (Kept T s0)) ?_ ?_
      · exact (kept_macControl (tr (by decide) hT) _ _ _ hx1)
      · refine kept_rxTaken (tr (by decide) hT) _ _ _ _ ?_ hx1
        · intro y2 hy2
          split
          · exact (kept_badFrame (tr (by decide) hT) _ _ _ _ hy2)
          · exact (kept_goodFrame (tr (by decide) hT) _ _ _ hy2)

theorem kept_execLeafRxFrame {T : Touch} {s0 : State} (hT : Touch.le ⟨8297728,
    0x4680800e0000000c000000003040000580000000000090, 0xc3551fe74000020200000000018000024104407fffdcee903f3⟩ T) : ∀
    a0 a1 a2 a3, Kept T s0 a3 →
    ResKept T s0 (execLeafRxFrame a0 a1 a2 a3) := by
  intro a0 a1 a2 a3 h3
  unfold execLeafRxFrame
  refine next_kept ?_
  refine kept_admitting (tr (by decide) hT) _ _ ?_ h3
  · intro y0 hy0
    exact (kept_receive (tr (by decide) hT) _ _ _ (kept_fecReport (tr (by decide) hT) _ _ _ _ hy0))

theorem kept_execLinkDown {T : Touch} {s0 : State} (hT : Touch.le ⟨8297728,
    0x4680800e0000000c000000003040000580000000000090, 0xc35507e74000020200000000018000024104407fffdc0c003f0⟩ T) : ∀
    a0 a1 a2, Kept T s0 a2 →
    ResKept T s0 (execLinkDown a0 a1 a2) := by
  intro a0 a1 a2 h2
  unfold execLinkDown
  refine next_kept ?_
  exact (ite_holds (P := (Kept T s0)) (kept_dropLanes (tr (by decide) hT) _ _ (kept_linkDown (tr (by decide) hT) _ _
      (kept_cutRx (tr (by decide) hT) _ _ _ h2))) h2)

theorem kept_execPauseFrameRx {T : Touch} {s0 : State} (hT : Touch.le ⟨7249152,
    0x4680800e00000008000000000000000000000000000080, 0xc3551be74000020200000000018000000104407fffdc02901f3⟩ T) : ∀
    a0 a1 a2, Kept T s0 a2 →
    ResKept T s0 (execPauseFrameRx a0 a1 a2) := by
  intro a0 a1 a2 h2
  unfold execPauseFrameRx
  refine next_kept ?_
  refine kept_admitting (tr (by decide) hT) _ _ ?_ h2
  · intro y0 hy0
    exact (ite_holds (P := (Kept T s0)) (kept_receive (tr (by decide) hT) _ _ _ hy0) hy0)

theorem kept_execPauseWatchdog {T : Touch} {s0 : State} (hT : Touch.le ⟨268288, 0x80, 0x40000⟩ T) : ∀ a0 a1 a2, Kept
    T s0 a2 →
    ResKept T s0 (execPauseWatchdog a0 a1 a2) := by
  intro a0 a1 a2 h2
  unfold execPauseWatchdog
  refine next_kept ?_
  extract_lets +onlyGivenNames -merge x0
  extract_lets +onlyGivenNames -merge x1
  extract_lets +onlyGivenNames -merge x2
  extract_lets +onlyGivenNames -merge x3
  extract_lets +onlyGivenNames -merge x4
  split
  · refine ite_holds (P := (Kept T s0)) ?_ ?_
    · exact h2
    · extract_lets +onlyGivenNames -merge x7
      extract_lets +onlyGivenNames -merge x8
      have hx8 : Kept T s0 x8 := (kept_fault (tr (by decide) hT) _ _ _ _ _ (kept_State_count _ _ _ _ _ h2 (hasC_of
          ixC_LEAF_PAUSE_WD_CNT (by decide) hT)))
      clear_value x8
      extract_lets +onlyGivenNames -merge x9
      exact (kept_showPause (tr (by decide) hT) _ _ (kept_setPort (tr (by decide) hT) _ _ _ hx8))
  · exact h2

theorem kept_execWake {T : Touch} {s0 : State} (hT : Touch.le ⟨7249664,
    0x600000004680800e00000008000000000000000000000000000090, 0xc35d03e74000020200000000018000000104407fffdc10001f0⟩
    T) : ∀ a0 a1 a2, Kept T s0 a2 →
    ResKept T s0 (execWake a0 a1 a2) := by
  intro a0 a1 a2 h2
  unfold execWake
  refine next_kept ?_
  extract_lets +onlyGivenNames -merge x0
  refine kept_far (tr (by decide) hT) _ _ _ ?_ h2
  · intro y1 hy1
    exact (kept_dozeCtrl (tr (by decide) hT) _ _ _ hy1)

theorem kept_wakeUp {T : Touch} {s0 : State} (hT : Touch.le ⟨262144, 0x10, 0x0⟩ T) : ∀ a0 a1, Kept T s0 a1 →
    Kept T s0 (wakeUp a0 a1) := by
  intro a0 a1 h1
  unfold wakeUp
  extract_lets +onlyGivenNames -merge x0
  extract_lets +onlyGivenNames -merge x1
  have hx1 : Kept T s0 x1 := (kept_startLine (tr (by decide) hT) _ _ (kept_setPort (tr (by decide) hT) _ _ _ h1))
  clear_value x1
  exact (kept_State_setFld (tr (by decide) hT) _ _ _ _ _ (kept_State_setFld (tr (by decide) hT) _ _ _ _ _ hx1
      (hasR_of ixR_LEAF_PORT_STATUS (by decide) hT)) (hasR_of ixR_LEAF_PORT_STATUS (by decide) hT))

theorem kept_execWakePatternDetect {T : Touch} {s0 : State} (hT : Touch.le ⟨262144, 0x10, 0x1000000⟩ T) : ∀ a0 a1 a2
    a3, Kept T s0 a3 →
    ResKept T s0 (execWakePatternDetect a0 a1 a2 a3) := by
  intro a0 a1 a2 a3 h3
  unfold execWakePatternDetect
  refine next_kept ?_
  refine ite_holds (P := (Kept T s0)) ?_ ?_
  · extract_lets +onlyGivenNames -merge x0
    have hx0 : Kept T s0 x0 := (ite_holds (P := (Kept T s0)) h3 (kept_State_count _ _ _ _ _ h3 (hasC_of
        ixC_LEAF_WAKE_CNT (by decide) hT)))
    clear_value x0
    exact (kept_wakeUp (tr (by decide) hT) _ _ hx0)
  · exact h3

theorem kept_execWakePatternSent {T : Touch} {s0 : State} (hT : Touch.le ⟨262144, 0x10, 0x0⟩ T) : ∀ a0 a1, Kept T s0
    a1 →
    ResKept T s0 (execWakePatternSent a0 a1) := by
  intro a0 a1 h1
  unfold execWakePatternSent
  refine next_kept ?_
  split
  · exact (ite_holds (P := (Kept T s0)) (kept_wakeUp (tr (by decide) hT) _ _ h1) h1)
  · exact h1

end Sys2Proof.Machine
end

