-- ==== Sys2Proof/Laws/KeptFabric.lean ====
section
/-!
SUPPORT. What the operations of these files of Machine leave alone: Xbar, Egress, Buffer, Shaping.
-/
namespace Sys2Proof.Machine

/-! ### Machine/Xbar.lean -/

theorem kept_setReo {T : Touch} {s0 : State} (hT : Touch.le ⟨524288, 0x0, 0x0⟩ T) : ∀ a0 a1 a2 a3, Kept T s0 a3 →
    Kept T s0 (setReo a0 a1 a2 a3) := by
  intro a0 a1 a2 a3 h3
  unfold setReo
  exact (kept_up524288 (land_le (by decide) hT.1) h3)

theorem kept_settle {T : Touch} {s0 : State} (hT : Touch.le ⟨2359296, 0x2000000400000000000000, 0x0⟩ T) : ∀ a0 a1 a2
    a3, Kept T s0 a3 →
    Kept T s0 (settle a0 a1 a2 a3) := by
  intro a0 a1 a2 a3 h3
  unfold settle
  extract_lets +onlyGivenNames -merge x0
  split
  · exact h3
  · extract_lets +onlyGivenNames -merge x4
    have hx4 : Kept T s0 x4 := (kept_unreserve (tr (by decide) hT) _ _ h3)
    clear_value x4
    exact (kept_setQueue (tr (by decide) hT) _ _ _ hx4)

theorem kept_abortFrame {T : Touch} {s0 : State} (hT : Touch.le ⟨3938304,
    0x800000000004000000002000000580000000000000, 0x200004000000000000000000000024000400000000000000⟩ T) : ∀ a0 a1
    a2, Kept T s0 a2 →
    Kept T s0 (abortFrame a0 a1 a2) := by
  intro a0 a1 a2 h2
  unfold abortFrame
  extract_lets +onlyGivenNames -merge x0
  extract_lets +onlyGivenNames -merge x1
  have hx1 : Kept T s0 x1 := (kept_setReo (tr (by decide) hT) _ _ _ _ h2)
  clear_value x1
  split
  · exact hx1
  · extract_lets +onlyGivenNames -merge x5
    split
    · exact hx1
    · exact (ite_holds (P := (Kept T s0)) (kept_settle (tr (by decide) hT) _ _ _ _ hx1) (kept_dropFrame (tr (by
        decide) hT) _ _ _ (kept_setQueue (tr (by decide) hT) _ _ _ (kept_State_count _ _ _ _ _ hx1 (hasC_of
        ixC_HLT_ABORT_DISCARD_CNT (by decide) hT)))))

theorem kept_refuseFrame {T : Touch} {s0 : State} (hT : Touch.le ⟨2889728,
    0x800000000004000000000000000000000000000000, 0x4000000000000000000000000000400000000000000⟩ T) : ∀ a0 a1 a2 a3,
    Kept T s0 a3 →
    Kept T s0 (refuseFrame a0 a1 a2 a3) := by
  intro a0 a1 a2 a3 h3
  unfold refuseFrame
  extract_lets +onlyGivenNames -merge x0
  have hx0 : Kept T s0 x0 := (kept_txDropped (tr (by decide) hT) _ _ (kept_cellGone (tr (by decide) hT) _ _ h3))
  clear_value x0
  extract_lets +onlyGivenNames -merge x1
  have hx1 : Kept T s0 x1 := (kept_State_led (tr (by decide) hT) _ _ _ _ (kept_State_led (tr (by decide) hT) _ _ _ _
      hx0))
  clear_value x1
  exact (kept_setReo (tr (by decide) hT) _ _ _ _ hx1)

theorem kept_reserveTurn {T : Touch} {s0 : State} (hT : Touch.le ⟨1048576, 0x400000000000000, 0x0⟩ T) : ∀ a0 a1 a2
    a3, Kept T s0 a3 →
    Snd (Kept T s0) (reserveTurn a0 a1 a2 a3) := by
  intro a0 a1 a2 a3 h3
  unfold reserveTurn
  exact (kept_reserve (tr (by decide) hT) _ _ _ _ _ h3)

theorem kept_admitFrame {T : Touch} {s0 : State} (hT : Touch.le ⟨3938304,
    0x800000000004000000002000000580000000000000, 0x400000000000000000060041a00040000000000e000⟩ T) : ∀ a0 a1 a2 a3
    a4, Kept T s0 a4 →
    Kept T s0 (admitFrame a0 a1 a2 a3 a4) := by
  intro a0 a1 a2 a3 a4 h4
  unfold admitFrame
  extract_lets +onlyGivenNames -merge x0
  extract_lets +onlyGivenNames -merge x1
  split
  · exact (kept_refuseFrame (tr (by decide) hT) _ _ _ _ (kept_State_count _ _ _ _ _ h4 (hasC_TxBad_cnt (hasC_of
      ixC_LEAF_TX_INACTIVE_DROP_CNT (by decide) hT) (hasC_of ixC_LEAF_TX_DOZE_DROP_CNT (by decide) hT) (hasC_of
      ixC_LEAF_TX_DOWN_DROP_CNT (by decide) hT) _)))
  · split
    · exact (kept_refuseFrame (tr (by decide) hT) _ _ _ _ (kept_State_count _ _ _ _ _ h4 (hasC_of
        ixC_TM_QLIMIT_DROP_CNT (by decide) hT)))
    · exact (kept_refuseFrame (tr (by decide) hT) _ _ _ _ (kept_State_count _ _ _ _ _ h4 (hasC_of ixC_TM_DYN_DROP_CNT
        (by decide) hT)))
    · split
      · rename_i v8 heq9
        have hv8 : Kept T s0 v8 := holds_eq (P := (Snd (Kept T s0))) heq9 (by
            exact (kept_reserveTurn (tr (by decide) hT) _ _ _ _ h4))
        exact (kept_refuseFrame (tr (by decide) hT) _ _ _ _ (kept_State_count _ _ _ _ _ (kept_State_count _ _ _ _ _
            hv8 (hasC_of ixC_BUF_NOBUF_CNT (by decide) hT)) (hasC_of ixC_BUF_NOBUF_DROP_CNT (by decide) hT)))
      · rename_i v10 heq11
        have hv10 : Kept T s0 v10 := holds_eq (P := (Snd (Kept T s0))) heq11 (by
            exact (kept_reserveTurn (tr (by decide) hT) _ _ _ _ h4))
        extract_lets +onlyGivenNames -merge x12
        split
        · rename_i v13 v14 heq15
          have hv14 : Kept T s0 v14 := holds_eq (P := (Snd (Kept T s0))) heq15 (by
              exact (kept_allocRsv (tr (by decide) hT) _ _ hv10))
          extract_lets +onlyGivenNames -merge x16
          extract_lets +onlyGivenNames -merge x17
          extract_lets +onlyGivenNames -merge x18
          extract_lets +onlyGivenNames -merge x19
          extract_lets +onlyGivenNames -merge x20
          have hx20 : Kept T s0 x20 := (kept_setQueue (tr (by decide) hT) _ _ _ (kept_State_led (tr (by decide) hT) _
              _ _ _ hv14))
          clear_value x20
          extract_lets +onlyGivenNames -merge x21
          extract_lets +onlyGivenNames -merge x22
          have hx22 : Kept T s0 x22 := (kept_setReo (tr (by decide) hT) _ _ _ _ hx20)
          clear_value x22
          exact (ite_holds (P := (Kept T s0)) (kept_setQueue (tr (by decide) hT) _ _ _ hx22) hx22)

theorem kept_dropOpen {T : Touch} {s0 : State} (hT : Touch.le ⟨3414016, 0x800000000004000000002000000580000000000000,
    0x4000000000000000000000024000400000000000000⟩ T) : ∀ a0 a1 a2 a3, Kept T s0 a3 →
    Snd (Kept T s0) (dropOpen a0 a1 a2 a3) := by
  intro a0 a1 a2 a3 h3
  unfold dropOpen
  extract_lets +onlyGivenNames -merge x0
  split
  · refine snd_holds (P := (Kept T s0)) ?_
    exact h3
  · refine ite_holds (P := (Snd (Kept T s0))) ?_ ?_
    · refine snd_holds (P := (Kept T s0)) ?_
      exact (kept_settle (tr (by decide) hT) _ _ _ _ h3)
    · refine snd_holds (P := (Kept T s0)) ?_
      exact (kept_dropFrame (tr (by decide) hT) _ _ _ (kept_setQueue (tr (by decide) hT) _ _ _ h3))

theorem kept_reseqDiscard {T : Touch} {s0 : State} (hT : Touch.le ⟨0, 0x0, 0x20000000000000000⟩ T) : ∀ a0 a1, Kept T
    s0 a1 →
    Kept T s0 (reseqDiscard a0 a1) := by
  intro a0 a1 h1
  unfold reseqDiscard
  exact (kept_State_count _ _ _ _ _ h1 (hasC_of ixC_XBAR_RESEQ_DISCARD_CNT (by decide) hT))

theorem kept_badAtFrame {T : Touch} {s0 : State} (hT : Touch.le ⟨3938304,
    0x800000000004000000002000000580000000000000, 0x4000000000000000000000024020400000000000000⟩ T) : ∀ a0 a1 a2 a3,
    Kept T s0 a3 →
    Kept T s0 (badAtFrame a0 a1 a2 a3) := by
  intro a0 a1 a2 a3 h3
  unfold badAtFrame
  extract_lets +onlyGivenNames -merge x0
  extract_lets +onlyGivenNames -merge x1
  split
  · extract_lets +onlyGivenNames -merge x4
    have hx4 : Kept T s0 x4 := (kept_setReo (tr (by decide) hT) _ _ _ _ h3)
    clear_value x4
    split
    · rename_i v5 heq6
      have hv5 : Kept T s0 v5 := holds_eq (P := (Snd (Kept T s0))) heq6 (by
          exact (kept_dropOpen (tr (by decide) hT) _ _ _ _ hx4))
      exact (kept_reseqDiscard (tr (by decide) hT) _ _ hv5)
    · rename_i v7 heq8
      have hv7 : Kept T s0 v7 := holds_eq (P := (Snd (Kept T s0))) heq8 (by
          exact (kept_dropOpen (tr (by decide) hT) _ _ _ _ hx4))
      exact hv7
  · refine ite_holds (P := (Kept T s0)) ?_ ?_
    · exact (kept_setReo (tr (by decide) hT) _ _ _ _ h3)
    · extract_lets +onlyGivenNames -merge x10
      have hx10 : Kept T s0 x10 := (kept_txDropped (tr (by decide) hT) _ _ (kept_reseqDiscard (tr (by decide) hT) _ _
          h3))
      clear_value x10
      extract_lets +onlyGivenNames -merge x11
      have hx11 : Kept T s0 x11 := (ite_holds (P := (Kept T s0)) (kept_State_led (tr (by decide) hT) _ _ _ _ hx10)
          hx10)
      clear_value x11
      exact (kept_setReo (tr (by decide) hT) _ _ _ _ (kept_State_led (tr (by decide) hT) _ _ _ _ hx11))

theorem kept_creditBack {T : Touch} {s0 : State} (hT : Touch.le ⟨524288, 0x0, 0x0⟩ T) : ∀ a0 a1 a2 a3, Kept T s0 a3 →
    Kept T s0 (creditBack a0 a1 a2 a3) := by
  intro a0 a1 a2 a3 h3
  unfold creditBack
  exact (kept_up524288 (land_le (by decide) hT.1) h3)

theorem kept_joinFrame {T : Touch} {s0 : State} (hT : Touch.le ⟨3934208,
    0x800000000004000000002000000580000000000000, 0x4000000000000000000000012000400000000000000⟩ T) : ∀ a0 a1 a2 a3
    a4, Kept T s0 a4 →
    Kept T s0 (joinFrame a0 a1 a2 a3 a4) := by
  intro a0 a1 a2 a3 a4 h4
  unfold joinFrame
  extract_lets +onlyGivenNames -merge x0
  extract_lets +onlyGivenNames -merge x1
  extract_lets +onlyGivenNames -merge x2
  subst x2
  beta_reduce
  split
  · exact (ite_holds (P := (Kept T s0)) (kept_setReo (tr (by decide) hT) _ _ _ _ (kept_txDropped (tr (by decide) hT)
      _ _ (kept_cellGone (tr (by decide) hT) _ _ h4))) (kept_txDropped (tr (by decide) hT) _ _ (kept_cellGone (tr (by
      decide) hT) _ _ h4)))
  · split
    · rename_i v6 v7 heq8
      have hv7 : Kept T s0 v7 := holds_eq (P := (Snd (Kept T s0))) heq8 (by
          exact (kept_allocRsv (tr (by decide) hT) _ _ h4))
      extract_lets +onlyGivenNames -merge x9
      extract_lets +onlyGivenNames -merge x10
      extract_lets +onlyGivenNames -merge x11
      have hx11 : Kept T s0 x11 := (kept_setQueue (tr (by decide) hT) _ _ _ hv7)
      clear_value x11
      refine ite_holds (P := (Kept T s0)) ?_ ?_
      · extract_lets +onlyGivenNames -merge x12
        extract_lets +onlyGivenNames -merge x13
        have hx13 : Kept T s0 x13 := (ite_holds (P := (Kept T s0)) (kept_setReo (tr (by decide) hT) _ _ _ _ hx11)
            hx11)
        clear_value x13
        extract_lets +onlyGivenNames -merge x14
        exact (kept_settle (tr (by decide) hT) _ _ _ _ hx13)
      · exact hx11

theorem kept_frameCell {T : Touch} {s0 : State} (hT : Touch.le ⟨3938304,
    0x800000000004000000002000000580000000000000, 0x20000400000000000000000060043e02040000000000e000⟩ T) : ∀ a0 a1 a2
    a3, Kept T s0 a3 →
    Kept T s0 (frameCell a0 a1 a2 a3) := by
  intro a0 a1 a2 a3 h3
  unfold frameCell
  extract_lets +onlyGivenNames -merge x0
  extract_lets +onlyGivenNames -merge x1
  refine ite_holds (P := (Kept T s0)) ?_ ?_
  · exact (kept_badAtFrame (tr (by decide) hT) _ _ _ _ h3)
  · refine ite_holds (P := (Kept T s0)) ?_ ?_
    · exact (kept_abortFrame (tr (by decide) hT) _ _ _ h3)
    · refine ite_holds (P := (Kept T s0)) ?_ ?_
      · exact (kept_admitFrame (tr (by decide) hT) _ _ _ _ _ h3)
      · split
        · exact (kept_joinFrame (tr (by decide) hT) _ _ _ _ _ h3)
        · extract_lets +onlyGivenNames -merge x5
          have hx5 : Kept T s0 x5 := (kept_txDropped (tr (by decide) hT) _ _ (kept_cellGone (tr (by decide) hT) _ _
              h3))
          clear_value x5
          exact (ite_holds (P := (Kept T s0)) (kept_setReo (tr (by decide) hT) _ _ _ _ hx5) hx5)

theorem kept_pushRun {T : Touch} {s0 : State} (hT : Touch.le ⟨2359296, 0x2000000000000000000000, 0x0⟩ T) : ∀ a0 a1 a2
    a3, Kept T s0 a3 →
    Kept T s0 (pushRun a0 a1 a2 a3) := by
  intro a0 a1 a2 a3 h3
  unfold pushRun
  extract_lets +onlyGivenNames -merge x0
  extract_lets +onlyGivenNames -merge x1
  extract_lets +onlyGivenNames -merge x2
  extract_lets +onlyGivenNames -merge x3
  extract_lets +onlyGivenNames -merge x4
  extract_lets +onlyGivenNames -merge x5
  have hx5 : Kept T s0 x5 := (kept_setQueue (tr (by decide) hT) _ _ _ h3)
  clear_value x5
  split
  · exact (ite_holds (P := (Kept T s0)) (kept_setQueue (tr (by decide) hT) _ _ _ hx5) hx5)
  · exact hx5

theorem kept_skyGone {T : Touch} {s0 : State} (hT : Touch.le ⟨2363392, 0x4000000000000000000000000000000, 0x0⟩ T) : ∀
    a0 a1, Kept T s0 a1 →
    Kept T s0 (skyGone a0 a1) := by
  intro a0 a1 h1
  unfold skyGone
  extract_lets +onlyGivenNames -merge x0
  have hx0 : Kept T s0 x0 := (kept_cellGone (tr (by decide) hT) _ _ h1)
  clear_value x0
  exact (ite_holds (P := (Kept T s0)) (kept_State_led (tr (by decide) hT) _ _ _ _ hx0) hx0)

theorem kept_skyCell {T : Touch} {s0 : State} (hT : Touch.le ⟨3411968, 0x4000000002000000580000000000000,
    0x380081a000000000000000000⟩ T) : ∀ a0 a1 a2, Kept T s0 a2 →
    Kept T s0 (skyCell a0 a1 a2) := by
  intro a0 a1 a2 h2
  unfold skyCell
  extract_lets +onlyGivenNames -merge x0
  extract_lets +onlyGivenNames -merge x1
  refine ite_holds (P := (Kept T s0)) ?_ ?_
  · exact h2
  · split
    · exact (kept_skyGone (tr (by decide) hT) _ _ (kept_State_count _ _ _ _ _ h2 (hasC_of ixC_TM_QLIMIT_CELL_DROP_CNT
        (by decide) hT)))
    · exact (kept_skyGone (tr (by decide) hT) _ _ (kept_State_count _ _ _ _ _ h2 (hasC_of ixC_TM_DYN_CELL_DROP_CNT
        (by decide) hT)))
    · split
      · rename_i v5 heq6
        have hv5 : Kept T s0 v5 := holds_eq (P := (Snd (Kept T s0))) heq6 (by
            exact (kept_reserveTurn (tr (by decide) hT) _ _ _ _ h2))
        exact (kept_skyGone (tr (by decide) hT) _ _ (kept_State_count _ _ _ _ _ (kept_State_count _ _ _ _ _ hv5
            (hasC_of ixC_BUF_NOBUF_CNT (by decide) hT)) (hasC_of ixC_BUF_NOBUF_CELL_DROP_CNT (by decide) hT)))
      · rename_i v7 heq8
        have hv7 : Kept T s0 v7 := holds_eq (P := (Snd (Kept T s0))) heq8 (by
            exact (kept_reserveTurn (tr (by decide) hT) _ _ _ _ h2))
        extract_lets +onlyGivenNames -merge x9
        extract_lets +onlyGivenNames -merge x10
        extract_lets +onlyGivenNames -merge x11
        have hx11 : Kept T s0 x11 := (kept_State_countIf (tr (by decide) hT) _ _ _ _ _ hv7 (hasC_of
            ixC_TM_ECN_MARK_CNT (by decide) hT))
        clear_value x11
        extract_lets +onlyGivenNames -merge x12
        split
        · rename_i v13 v14 heq15
          have hv14 : Kept T s0 v14 := holds_eq (P := (Snd (Kept T s0))) heq15 (by
              exact (kept_allocRsv (tr (by decide) hT) _ _ hx11))
          exact (kept_pushRun (tr (by decide) hT) _ _ _ _ hv14)

theorem kept_leaveReo {T : Touch} {s0 : State} (hT : Touch.le ⟨3938304, 0x800000000004000000002000000580000000000000,
    0x200004000000000000000003e00c3e02240000000000e000⟩ T) : ∀ a0 a1 a2 a3, Kept T s0 a3 →
    Kept T s0 (leaveReo a0 a1 a2 a3) := by
  intro a0 a1 a2 a3 h3
  unfold leaveReo
  extract_lets +onlyGivenNames -merge x0
  have hx0 : Kept T s0 x0 := (ite_holds (P := (Kept T s0)) h3 (kept_creditBack (tr (by decide) hT) _ _ _ _ h3))
  clear_value x0
  extract_lets +onlyGivenNames -merge x1
  have hx1 : Kept T s0 x1 := (kept_State_count _ _ _ _ _ hx0 (hasC_of ixC_XBAR_OUT_CELL_CNT (by decide) hT))
  clear_value x1
  exact (ite_holds (P := (Kept T s0)) (kept_frameCell (tr (by decide) hT) _ _ _ _ hx1) (kept_skyCell (tr (by decide)
      hT) _ _ _ hx1))

theorem kept_drainReo {T : Touch} {s0 : State} (hT : Touch.le ⟨3938304, 0x800000000004000000002000000580000000000000,
    0x200004000000000000000003e00c3e02240000000000e000⟩ T) : ∀ a0 a1 a2 a3, Kept T s0 a3 →
    Kept T s0 (drainReo a0 a1 a2 a3) := by
  intro o i f
  induction f with
  | zero => exact fun s h => h
  | succ f ih =>
    intro s h
    unfold drainReo
    extract_lets r
    split
    · exact ih _ (kept_leaveReo (tr (by decide) hT) _ _ _ _ (kept_setReo (tr (by decide) hT) _ _ _ _ h))
    · exact ite_holds (P := Kept T s0) h (kept_setReo (tr (by decide) hT) _ _ _ _ h)

theorem kept_enterReo {T : Touch} {s0 : State} (hT : Touch.le ⟨3938304, 0x800000000004000000002000000580000000000000,
    0x200004000000000000000003e00c3e02240000000000e000⟩ T) : ∀ a0 a1 a2, Kept T s0 a2 →
    Kept T s0 (enterReo a0 a1 a2) := by
  intro a0 a1 a2 h2
  unfold enterReo
  extract_lets +onlyGivenNames -merge x0
  exact (kept_drainReo (tr (by decide) hT) _ _ _ _ (kept_setReo (tr (by decide) hT) _ _ _ _ h2))

theorem kept_outGone {T : Touch} {s0 : State} (hT : Touch.le ⟨2363392, 0x4000000000000000000000000000000, 0x0⟩ T) : ∀
    a0 a1 a2, Kept T s0 a2 →
    Kept T s0 (outGone a0 a1 a2) := by
  intro a0 a1 a2 h2
  unfold outGone
  exact (ite_holds (P := (Kept T s0)) (kept_cellGone (tr (by decide) hT) _ _ h2) (kept_skyGone (tr (by decide) hT) _
      _ h2))

theorem kept_badCell {T : Touch} {s0 : State} (hT : Touch.le ⟨3938304, 0x800000000004000000002000000580000000000000,
    0x200004000000000000000003e00c3e0a240000000000e000⟩ T) : ∀ a0 a1 a2, Kept T s0 a2 →
    Kept T s0 (badCell a0 a1 a2) := by
  intro a0 a1 a2 h2
  unfold badCell
  extract_lets +onlyGivenNames -merge x0
  have hx0 : Kept T s0 x0 := (kept_creditBack (tr (by decide) hT) _ _ _ _ (kept_State_countIf (tr (by decide) hT) _ _
      _ _ _ h2 (hasC_of ixC_XBAR_CELL_LOSS_CNT (by decide) hT)))
  clear_value x0
  exact (kept_enterReo (tr (by decide) hT) _ _ _ (kept_outGone (tr (by decide) hT) _ _ _ hx0))

theorem kept_stateWordError {T : Touch} {s0 : State} (hT : Touch.le ⟨1054720,
    0x680000000000000000000000000000300000000000000, 0x500000000000000000000000000080000000000000000000⟩ T) : ∀ a0 a1
    a2, Kept T s0 a2 →
    Kept T s0 (stateWordError a0 a1 a2) := by
  intro a0 a1 a2 h2
  unfold stateWordError
  extract_lets +onlyGivenNames -merge x0
  exact (foldl_holds (P := (Kept T s0)) (fun _ _ hm1 => (of_fst (kept_winEvent (tr (by decide) hT) _ _ _
      (kept_quarTile (tr (by decide) hT) _ _ _ hm1)))) (kept_memReport (tr (by decide) hT) _ _ _ _ _ _ h2))

theorem kept_bufError {T : Touch} {s0 : State} (hT : Touch.le ⟨1054720,
    0x680000000000000000000000000000300000000000000, 0x5000000000000000000000000000c0000000000000000000⟩ T) : ∀ a0 a1
    a2, Kept T s0 a2 →
    Kept T s0 (bufError a0 a1 a2) := by
  intro a0 a1 a2 h2
  unfold bufError
  split
  · exact h2
  · extract_lets +onlyGivenNames -merge x4
    have hx4 : Kept T s0 x4 := (kept_memReport (tr (by decide) hT) _ _ _ _ _ _ (kept_State_count _ _ _ _ _ h2
        (hasC_of ixC_BUF_BITMAP_ERR_CNT (by decide) hT)))
    clear_value x4
    exact (ite_holds (P := (Kept T s0)) (kept_delaySlot (tr (by decide) hT) _ _ hx4) hx4)
  · exact (kept_stateWordError (tr (by decide) hT) _ _ _ h2)

theorem kept_drainPlane {T : Touch} {s0 : State} (hT : Touch.le ⟨0, 0x200000000000, 0x0⟩ T) : ∀ a0 a1, Kept T s0 a1 →
    Kept T s0 (drainPlane a0 a1) := by
  intro a0 a1 h1
  unfold drainPlane
  exact (ite_holds (P := (Kept T s0)) (kept_State_setFld (tr (by decide) hT) _ _ _ _ _ h1 (hasR_of
      ixR_XBAR_PLANE_STATUS (by decide) hT)) h1)

theorem kept_planeLasting {T : Touch} {s0 : State} (hT : Touch.le ⟨6144, 0x600000000000, 0x0⟩ T) : ∀ a0 a1, Kept T s0
    a1 →
    Kept T s0 (planeLasting a0 a1) := by
  intro a0 a1 h1
  unfold planeLasting
  extract_lets +onlyGivenNames -merge x0
  refine ite_holds (P := (Kept T s0)) ?_ ?_
  · extract_lets +onlyGivenNames -merge x1
    have hx1 : Kept T s0 x1 := (kept_State_setFld (tr (by decide) hT) _ _ _ _ _ h1 (hasR_of ixR_XBAR_PLANE_FAULT (by
        decide) hT))
    clear_value x1
    exact (kept_fault (tr (by decide) hT) _ _ _ _ _ (kept_drainPlane (tr (by decide) hT) _ _ hx1))
  · exact (kept_fault (tr (by decide) hT) _ _ _ _ _ h1)

theorem kept_planeEvent {T : Touch} {s0 : State} (hT : Touch.le ⟨6144,
    0x600000000000000000000000000000000600000000000, 0x400000000000000000000000000000000000000000000000⟩ T) : ∀ a0
    a1, Kept T s0 a1 →
    Kept T s0 (planeEvent a0 a1) := by
  intro a0 a1 h1
  unfold planeEvent
  split
  · rename_i v0 heq1
    have hv0 : Kept T s0 v0 := holds_eq (P := (Fst (Kept T s0))) heq1 (by
        exact (kept_winEvent (tr (by decide) hT) _ _ _ h1))
    exact (kept_planeLasting (tr (by decide) hT) _ _ hv0)
  · rename_i v2 heq3
    have hv2 : Kept T s0 v2 := holds_eq (P := (Fst (Kept T s0))) heq3 (by
        exact (kept_winEvent (tr (by decide) hT) _ _ _ h1))
    exact hv2

theorem kept_withTag {T : Touch} {s0 : State} (hT : Touch.le ⟨3938304,
    0x680800000000004000000002000000580600000000000, 0x700004000000000000000003e00c3fca240000000000e000⟩ T) : ∀ a0 a1
    a2 a3 a4 a5, Kept T s0 a5 →
    Kept T s0 (withTag a0 a1 a2 a3 a4 a5) := by
  intro a0 a1 a2 a3 a4 a5 h5
  unfold withTag
  split
  · extract_lets +onlyGivenNames -merge x3
    extract_lets +onlyGivenNames -merge x4
    have hx4 : Kept T s0 x4 := (kept_State_countIf (tr (by decide) hT) _ _ _ _ _ h5 (hasC_of ixC_XBAR_TAG_CORR_CNT
        (by decide) hT))
    clear_value x4
    extract_lets +onlyGivenNames -merge x5
    have hx5 : Kept T s0 x5 := (ite_holds (P := (Kept T s0)) (kept_planeEvent (tr (by decide) hT) _ _
        (kept_State_count _ _ _ _ _ hx4 (hasC_of ixC_XBAR_CELL_ERR_CNT (by decide) hT))) hx4)
    clear_value x5
    exact (ite_holds (P := (Kept T s0)) (kept_outGone (tr (by decide) hT) _ _ _ hx5) (ite_holds (P := (Kept T s0))
        (kept_badCell (tr (by decide) hT) _ _ _ hx5) (kept_enterReo (tr (by decide) hT) _ _ _ hx5)))
  · extract_lets +onlyGivenNames -merge x7
    have hx7 : Kept T s0 x7 := (kept_planeEvent (tr (by decide) hT) _ _ (kept_State_count _ _ _ _ _ h5 (hasC_of
        ixC_XBAR_TAG_UNCORR_CNT (by decide) hT)))
    clear_value x7
    exact (kept_cellGone (tr (by decide) hT) _ _ (kept_excuse (tr (by decide) hT) _ _ (kept_memRecord (tr (by decide)
        hT) _ _ _ _ _ hx7)))

theorem kept_cellArrive {T : Touch} {s0 : State} (hT : Touch.le ⟨3938304,
    0x680800000000004000000002000000780600000000000, 0x700004000000000000000003e00cffea240000000000e000⟩ T) : ∀ a0 a1
    a2 a3 a4, Kept T s0 a4 →
    Kept T s0 (cellArrive a0 a1 a2 a3 a4) := by
  intro a0 a1 a2 a3 a4 h4
  unfold cellArrive
  extract_lets +onlyGivenNames -merge x0
  split
  · exact h4
  · refine ite_holds (P := (Kept T s0)) ?_ ?_
    · exact h4
    · extract_lets +onlyGivenNames -merge x5
      extract_lets +onlyGivenNames -merge x6
      have hx6 : Kept T s0 x6 := (kept_up524288 (land_le (by decide) hT.1) h4)
      clear_value x6
      extract_lets +onlyGivenNames -merge x7
      have hx7 : Kept T s0 x7 := (kept_bufError (tr (by decide) hT) _ _ _ (kept_State_count _ _ _ _ _ hx6 (hasC_of
          ixC_XBAR_PLANE_CELL_CNT (by decide) hT)))
      clear_value x7
      exact (kept_withTag (tr (by decide) hT) _ _ _ _ _ _ hx7)

theorem kept_entered {T : Touch} {s0 : State} (hT : Touch.le ⟨1054720, 0x800000000000000000000000000180000000000000,
    0x804000000000000000000000024000400000000000000⟩ T) : ∀ a0 a1 a2, Kept T s0 a2 →
    Snd (Kept T s0) (entered a0 a1 a2) := by
  intro a0 a1 a2 h2
  unfold entered
  extract_lets +onlyGivenNames -merge x0
  have hx0 : Kept T s0 x0 := by
    subst x0
    split
    · exact (kept_freeTile (tr (by decide) hT) _ _ _ h2)
    · exact h2
  clear_value x0
  extract_lets +onlyGivenNames -merge x4
  extract_lets +onlyGivenNames -merge x5
  refine ite_holds (P := (Snd (Kept T s0))) ?_ ?_
  · refine snd_holds (P := (Kept T s0)) ?_
    exact hx0
  · extract_lets +onlyGivenNames -merge x6
    have hx6 : Kept T s0 x6 := (ite_holds (P := (Kept T s0)) hx0 (kept_State_led (tr (by decide) hT) _ _ _ _ hx0))
    clear_value x6
    extract_lets +onlyGivenNames -merge x7
    have hx7 : Kept T s0 x7 := by
      subst x7
      split
      · exact (kept_copyEnd (tr (by decide) hT) _ _ _ (hasC_of ixC_MIR_DELIVER_CNT (by decide) hT) hx6)
      · exact hx6
    clear_value x7
    split
    · refine ite_holds (P := (Snd (Kept T s0))) ?_ ?_
      · refine snd_holds (P := (Kept T s0)) ?_
        exact hx7
      · refine snd_holds (P := (Kept T s0)) ?_
        exact (kept_unitDone (tr (by decide) hT) _ _ _ _ _ _ hx7)
    · refine snd_holds (P := (Kept T s0)) ?_
      exact hx7

theorem kept_setStage {T : Touch} {s0 : State} (hT : Touch.le ⟨524288, 0x0, 0x0⟩ T) : ∀ a0 a1 a2 a3 a4, Kept T s0 a4 →
    Kept T s0 (setStage a0 a1 a2 a3 a4) := by
  intro a0 a1 a2 a3 a4 h4
  unfold setStage
  exact (kept_up524288 (land_le (by decide) hT.1) h4)

theorem kept_cellSend {T : Touch} {s0 : State} (hT : Touch.le ⟨1579008, 0x800000000000000000000000000180000000000000,
    0x804000000000000000000000024001400000000000000⟩ T) : ∀ a0 a1, Kept T s0 a1 →
    Kept T s0 (cellSend a0 a1) := by
  intro a0 a1 h1
  unfold cellSend
  split
  · exact h1
  · extract_lets +onlyGivenNames -merge x4
    refine ite_holds (P := (Kept T s0)) ?_ ?_
    · exact h1
    · split
      · exact h1
      · extract_lets +onlyGivenNames -merge x8
        extract_lets +onlyGivenNames -merge x9
        extract_lets +onlyGivenNames -merge x10
        have hx10 : Kept T s0 x10 := (kept_up524288 (land_le (by decide) hT.1) h1)
        clear_value x10
        split
        · rename_i v11 v12 heq13
          have hv12 : Kept T s0 v12 := holds_eq (P := (Snd (Kept T s0))) heq13 (by
              exact (kept_entered (tr (by decide) hT) _ _ _ (kept_State_count _ _ _ _ _ hx10 (hasC_of
                  ixC_XBAR_IN_CELL_CNT (by decide) hT))))
          exact (kept_setStage (tr (by decide) hT) _ _ _ _ _ hv12)

theorem kept_crossCell {T : Touch} {s0 : State} (hT : Touch.le ⟨524288, 0x0, 0x0⟩ T) : ∀ a0 a1 a2, Kept T s0 a2 →
    Kept T s0 (crossCell a0 a1 a2) := by
  intro a0 a1 a2 h2
  unfold crossCell
  split
  · exact h2
  · extract_lets +onlyGivenNames -merge x4
    have hx4 : Kept T s0 x4 := (kept_setStage (tr (by decide) hT) _ _ _ _ _ h2)
    clear_value x4
    extract_lets +onlyGivenNames -merge x5
    exact (kept_up524288 (land_le (by decide) hT.1) hx4)

theorem kept_noteBack {T : Touch} {s0 : State} (hT : Touch.le ⟨524288, 0x0, 0x0⟩ T) : ∀ a0 a1, Kept T s0 a1 →
    Kept T s0 (noteBack a0 a1) := by
  intro a0 a1 h1
  unfold noteBack
  exact (ite_holds (P := (Kept T s0)) h1 (kept_up524288 (land_le (by decide) hT.1) h1))

theorem kept_planeSync {T : Touch} {s0 : State} (hT : Touch.le ⟨524288, 0x200000000000, 0x0⟩ T) : ∀ a0, Kept T s0 a0 →
    Kept T s0 (planeSync a0) := by
  intro a0 h0
  unfold planeSync
  exact (foldl_holds (P := (Kept T s0)) (fun _ _ hm0 => (ite_holds (P := (Kept T s0)) (ite_holds (P := (Kept T s0))
      hm0 (kept_noteBack (tr (by decide) hT) _ _ hm0)) (kept_drainPlane (tr (by decide) hT) _ _ (kept_up524288
      (land_le (by decide) hT.1) hm0)))) h0)

theorem kept_planeFaultClear {T : Touch} {s0 : State} (hT : Touch.le ⟨524288, 0x600000000000, 0x0⟩ T) : ∀ a0 a1, Kept
    T s0 a1 →
    Kept T s0 (planeFaultClear a0 a1) := by
  intro a0 a1 h1
  unfold planeFaultClear
  exact (kept_planeSync (tr (by decide) hT) _ (kept_State_setReg _ _ _ _ _ h1 (hasR_of ixR_XBAR_PLANE_FAULT (by
      decide) hT)))

theorem kept_execXbarCellArrive {T : Touch} {s0 : State} (hT : Touch.le ⟨3938304,
    0x680800000000004000000002000000780600000000000, 0x700004000000000000000003e00cffea240000000000e000⟩ T) : ∀ a0 a1
    a2 a3 a4, Kept T s0 a4 →
    ResKept T s0 (execXbarCellArrive a0 a1 a2 a3 a4) := by
  intro a0 a1 a2 a3 a4 h4
  unfold execXbarCellArrive
  refine next_kept ?_
  refine kept_running (tr (by decide) hT) _ _ ?_ h4
  · intro y0 hy0
    exact (kept_cellArrive (tr (by decide) hT) _ _ _ _ _ hy0)

theorem kept_execXbarCellSend {T : Touch} {s0 : State} (hT : Touch.le ⟨1579008,
    0x800000000000000000000000000180000000000000, 0x804000000000000000000000024001400000000000000⟩ T) : ∀ a0 a1, Kept
    T s0 a1 →
    ResKept T s0 (execXbarCellSend a0 a1) := by
  intro a0 a1 h1
  unfold execXbarCellSend
  refine next_kept ?_
  refine kept_running (tr (by decide) hT) _ _ ?_ h1
  · intro y0 hy0
    exact (kept_cellSend (tr (by decide) hT) _ _ hy0)

theorem kept_execXbarFaultClear {T : Touch} {s0 : State} (hT : Touch.le ⟨525312, 0x600000000000, 0x0⟩ T) : ∀ a0 a1
    a2, Kept T s0 a2 →
    ResKept T s0 (execXbarFaultClear a0 a1 a2) := by
  intro a0 a1 a2 h2
  unfold execXbarFaultClear
  refine next_kept ?_
  refine kept_far (tr (by decide) hT) _ _ _ ?_ h2
  · intro y0 hy0
    exact (kept_planeFaultClear (tr (by decide) hT) _ _ hy0)

theorem kept_xbarMatch {T : Touch} {s0 : State} (hT : Touch.le ⟨524288, 0x0, 0x0⟩ T) : ∀ a0 a1, Kept T s0 a1 →
    Kept T s0 (xbarMatch a0 a1) := by
  intro a0 a1 h1
  unfold xbarMatch
  extract_lets +onlyGivenNames -merge x0
  exact (ite_holds (P := (Kept T s0)) h1 (foldl_holds (P := (Kept T s0)) (fun _ _ hm1 => (kept_crossCell (tr (by
      decide) hT) _ _ _ hm1)) (kept_up524288 (land_le (by decide) hT.1) h1)))

theorem kept_execXbarMatch {T : Touch} {s0 : State} (hT : Touch.le ⟨524288, 0x0, 0x0⟩ T) : ∀ a0 a1, Kept T s0 a1 →
    ResKept T s0 (execXbarMatch a0 a1) := by
  intro a0 a1 h1
  unfold execXbarMatch
  refine next_kept ?_
  refine kept_running (tr (by decide) hT) _ _ ?_ h1
  · intro y0 hy0
    exact (kept_xbarMatch (tr (by decide) hT) _ _ hy0)

theorem kept_planeDrained {T : Touch} {s0 : State} (hT : Touch.le ⟨0, 0x200000000000, 0x0⟩ T) : ∀ a0 a1, Kept T s0 a1
    →
    Kept T s0 (planeDrained a0 a1) := by
  intro a0 a1 h1
  unfold planeDrained
  extract_lets +onlyGivenNames -merge x0
  exact (ite_holds (P := (Kept T s0)) (kept_State_setFld (tr (by decide) hT) _ _ _ _ _ (kept_State_setFld (tr (by
      decide) hT) _ _ _ _ _ h1 (hasR_of ixR_XBAR_PLANE_STATUS (by decide) hT)) (hasR_of ixR_XBAR_PLANE_STATUS (by
      decide) hT)) h1)

theorem kept_execXbarPlaneDrained {T : Touch} {s0 : State} (hT : Touch.le ⟨0, 0x200000000000, 0x0⟩ T) : ∀ a0 a1, Kept
    T s0 a1 →
    ResKept T s0 (execXbarPlaneDrained a0 a1) := by
  intro a0 a1 h1
  unfold execXbarPlaneDrained
  refine next_kept ?_
  exact (kept_planeDrained (tr (by decide) hT) _ _ h1)

theorem kept_passGap {T : Touch} {s0 : State} (hT : Touch.le ⟨3938304, 0x800000000004000000002000000580000000000000,
    0x4000000000000000000000024020400000000000000⟩ T) : ∀ a0 a1 a2 a3 a4, Kept T s0 a4 →
    Kept T s0 (passGap a0 a1 a2 a3 a4) := by
  intro a0 a1 a2 a3 a4 h4
  unfold passGap
  extract_lets +onlyGivenNames -merge x0
  extract_lets +onlyGivenNames -merge x1
  extract_lets +onlyGivenNames -merge x2
  subst x2
  beta_reduce
  split
  · extract_lets +onlyGivenNames -merge x5
    extract_lets +onlyGivenNames -merge x6
    have hx6 : Kept T s0 x6 := (kept_setReo (tr (by decide) hT) _ _ _ _ h4)
    clear_value x6
    extract_lets +onlyGivenNames -merge x7
    have hx7 : Kept T s0 x7 := by
      subst x7
      split
      · rename_i v8 heq9
        have hv8 : Kept T s0 v8 := holds_eq (P := (Snd (Kept T s0))) heq9 (by
            exact (kept_dropOpen (tr (by decide) hT) _ _ _ _ hx6))
        exact (kept_reseqDiscard (tr (by decide) hT) _ _ hv8)
      · rename_i v10 heq11
        have hv10 : Kept T s0 v10 := holds_eq (P := (Snd (Kept T s0))) heq11 (by
            exact (kept_dropOpen (tr (by decide) hT) _ _ _ _ hx6))
        exact hv10
    clear_value x7
    exact (ite_holds (P := (Kept T s0)) hx7 (kept_State_led (tr (by decide) hT) _ _ _ _ (kept_reseqDiscard (tr (by
        decide) hT) _ _ hx7)))
  · extract_lets +onlyGivenNames -merge x13
    have hx13 : Kept T s0 x13 := (kept_setReo (tr (by decide) hT) _ _ _ _ h4)
    clear_value x13
    exact (ite_holds (P := (Kept T s0)) (kept_State_led (tr (by decide) hT) _ _ _ _ (kept_reseqDiscard (tr (by
        decide) hT) _ _ hx13)) hx13)

theorem kept_reseqTimeout {T : Touch} {s0 : State} (hT : Touch.le ⟨3938304,
    0x800000000004000000002000000580000000000000, 0x200004000000000000000003e00c3e06240000000000e000⟩ T) : ∀ a0 a1
    a2, Kept T s0 a2 →
    Kept T s0 (reseqTimeout a0 a1 a2) := by
  intro a0 a1 a2 h2
  unfold reseqTimeout
  extract_lets +onlyGivenNames -merge x0
  extract_lets +onlyGivenNames -merge x1
  split
  · refine ite_holds (P := (Kept T s0)) ?_ ?_
    · exact h2
    · extract_lets +onlyGivenNames -merge x6
      extract_lets +onlyGivenNames -merge x7
      have hx7 : Kept T s0 x7 := (kept_creditBack (tr (by decide) hT) _ _ _ _ (kept_setReo (tr (by decide) hT) _ _ _
          _ (kept_State_count _ _ _ _ _ h2 (hasC_of ixC_XBAR_RESEQ_TIMEOUT_CNT (by decide) hT))))
      clear_value x7
      exact (kept_drainReo (tr (by decide) hT) _ _ _ _ (ite_holds (P := (Kept T s0)) (kept_passGap (tr (by decide)
          hT) _ _ _ _ _ hx7) hx7))
  · exact h2

theorem kept_execXbarReseqTimeout {T : Touch} {s0 : State} (hT : Touch.le ⟨3938304,
    0x800000000004000000002000000580000000000000, 0x200004000000000000000003e00c3e06240000000000e000⟩ T) : ∀ a0 a1
    a2, Kept T s0 a2 →
    ResKept T s0 (execXbarReseqTimeout a0 a1 a2) := by
  intro a0 a1 a2 h2
  unfold execXbarReseqTimeout
  refine next_kept ?_
  refine kept_running (tr (by decide) hT) _ _ ?_ h2
  · intro y0 hy0
    exact (kept_reseqTimeout (tr (by decide) hT) _ _ _ hy0)

theorem kept_returnPlane {T : Touch} {s0 : State} (hT : Touch.le ⟨524288, 0x200000000000, 0x0⟩ T) : ∀ a0 a1, Kept T
    s0 a1 →
    Kept T s0 (returnPlane a0 a1) := by
  intro a0 a1 h1
  unfold returnPlane
  extract_lets +onlyGivenNames -merge x0
  have hx0 : Kept T s0 x0 := (kept_State_setFld (tr (by decide) hT) _ _ _ _ _ h1 (hasR_of ixR_XBAR_PLANE_STATUS (by
      decide) hT))
  clear_value x0
  refine ite_holds (P := (Kept T s0)) ?_ ?_
  · exact hx0
  · extract_lets +onlyGivenNames -merge x1
    have hx1 : Kept T s0 x1 := (kept_State_setFld (tr (by decide) hT) _ _ _ _ _ hx0 (hasR_of ixR_XBAR_PLANE_STATUS
        (by decide) hT))
    clear_value x1
    exact (kept_up524288 (land_le (by decide) hT.1) hx1)

theorem kept_planeReturns {T : Touch} {s0 : State} (hT : Touch.le ⟨524288, 0x200000000000, 0x0⟩ T) : ∀ a0, Kept T s0
    a0 →
    Kept T s0 (planeReturns a0) := by
  intro a0 h0
  unfold planeReturns
  extract_lets +onlyGivenNames -merge x0
  exact (foldl_holds (P := (Kept T s0)) (fun _ _ hm1 => (kept_returnPlane (tr (by decide) hT) _ _ hm1))
      (kept_up524288 (land_le (by decide) hT.1) h0))

/-! ### Machine/Egress.lean -/

theorem kept_dropUnit {T : Touch} {s0 : State} (hT : Touch.le ⟨3414016, 0x800000000004000000002000000580000000000000,
    0x4000000000000000000000024000400000000000000⟩ T) : ∀ a0 a1 a2 a3, Kept T s0 a3 →
    Kept T s0 (dropUnit a0 a1 a2 a3) := by
  intro a0 a1 a2 a3 h3
  unfold dropUnit
  extract_lets +onlyGivenNames -merge x0
  extract_lets +onlyGivenNames -merge x1
  split
  · exact (kept_dropFrame (tr (by decide) hT) _ _ _ (kept_setQueue (tr (by decide) hT) _ _ _ h3))
  · exact h3

theorem kept_egressCopy {T : Touch} {s0 : State} (hT : Touch.le ⟨266240, 0x0,
    0x400000000000000000000000000000000000000000000⟩ T) : ∀ a0 a1 a2 a3, Kept T s0 a3 →
    Snd (Kept T s0) (egressCopy a0 a1 a2 a3) := by
  intro a0 a1 a2 a3 h3
  unfold egressCopy
  extract_lets +onlyGivenNames -merge x0
  refine ite_holds (P := (Snd (Kept T s0))) ?_ ?_
  · refine snd_holds (P := (Kept T s0)) ?_
    exact h3
  · split
    · refine snd_holds (P := (Kept T s0)) ?_
      exact h3
    · split
      · rename_i v4 heq5
        have hv4 : Kept T s0 v4 := holds_eq (P := (Snd (Kept T s0))) heq5 (by
            exact (kept_selectCopy (tr (by decide) hT) _ _ _ h3))
        refine snd_holds (P := (Kept T s0)) ?_
        exact hv4
      · rename_i v6 heq7
        have hv6 : Kept T s0 v6 := holds_eq (P := (Snd (Kept T s0))) heq7 (by
            exact (kept_selectCopy (tr (by decide) hT) _ _ _ h3))
        refine snd_holds (P := (Kept T s0)) ?_
        exact hv6

theorem kept_payFrame {T : Touch} {s0 : State} (hT : Touch.le ⟨2359296, 0x1040000000000000000000, 0x0⟩ T) : ∀ a0 a1
    a2 a3, Kept T s0 a3 →
    Kept T s0 (payFrame a0 a1 a2 a3) := by
  intro a0 a1 a2 a3 h3
  unfold payFrame
  exact (ite_holds (P := (Kept T s0)) (kept_chargeFrame (tr (by decide) hT) _ _ _ _ _ h3) h3)

theorem kept_txOver {T : Touch} {s0 : State} (hT : Touch.le ⟨262144, 0x80, 0x0⟩ T) : ∀ a0 a1, Kept T s0 a1 →
    Kept T s0 (txOver a0 a1) := by
  intro a0 a1 h1
  unfold txOver
  exact (kept_applyPend (tr (by decide) hT) _ _ (kept_setPort (tr (by decide) hT) _ _ _ h1))

theorem kept_endEarly {T : Touch} {s0 : State} (hT : Touch.le ⟨2363648, 0x1040000000000000000080,
    0x4000000000000000000000000000000000000000000000⟩ T) : ∀ a0 a1 a2 a3 a4 a5 a6, T.hasC a2 → (∀ z0, Kept T s0 z0 →
    Kept T s0 (a5 z0)) → Kept T s0 a6 →
    Kept T s0 (endEarly a0 a1 a2 a3 a4 a5 a6) := by
  intro a0 a1 a2 a3 a4 a5 a6 h2 h5 h6
  unfold endEarly
  extract_lets +onlyGivenNames -merge x0
  have hx0 : Kept T s0 x0 := (kept_payFrame (tr (by decide) hT) _ _ _ _ (kept_State_count _ _ _ _ _ h6 h2))
  clear_value x0
  extract_lets +onlyGivenNames -merge x1
  have hx1 : Kept T s0 x1 := by
    subst x1
    split
    · exact (kept_copyEnd (tr (by decide) hT) _ _ _ (hasC_of ixC_MIR_ABORT_CNT (by decide) hT) hx0)
    · exact hx0
  clear_value x1
  refine kept_txOver (tr (by decide) hT) _ _ ?_
  · refine h5 _ (kept_sendOut (tr (by decide) hT) _ _ _ _ _ hx1)

theorem kept_failCell {T : Touch} {s0 : State} (hT : Touch.le ⟨3414016,
    0x680800000000004000000002000000780000000000000, 0x5000040000000000000000000000a4000400000000000000⟩ T) : ∀ a0 a1
    a2 a3 a4, Kept T s0 a4 →
    Kept T s0 (failCell a0 a1 a2 a3 a4) := by
  intro a0 a1 a2 a3 a4 h4
  unfold failCell
  extract_lets +onlyGivenNames -merge x0
  extract_lets +onlyGivenNames -merge x1
  split
  · exact h4
  · split
    · exact h4
    · extract_lets +onlyGivenNames -merge x9
      have hx9 : Kept T s0 x9 := (kept_setQueue (tr (by decide) hT) _ _ _ h4)
      clear_value x9
      extract_lets +onlyGivenNames -merge x10
      have hx10 : Kept T s0 x10 := (kept_cellGone (tr (by decide) hT) _ _ (kept_quarFail (tr (by decide) hT) _ _ _
          hx9))
      clear_value x10
      extract_lets +onlyGivenNames -merge x11
      exact (kept_State_led (tr (by decide) hT) _ _ _ _ (kept_txDropped (tr (by decide) hT) _ _ (kept_releaseUnit (tr
          (by decide) hT) _ _ hx10)))

theorem kept_txWhole {T : Touch} {s0 : State} (hT : Touch.le ⟨8166656,
    0x4680800e0000000c000000003040000580000000000080, 0x435503a7400002020000000001000002400040000000000000c⟩ T) : ∀
    a0 a1 a2 a3 a4, Kept T s0 a4 →
    Kept T s0 (txWhole a0 a1 a2 a3 a4) := by
  intro a0 a1 a2 a3 a4 h4
  unfold txWhole
  extract_lets +onlyGivenNames -merge x0
  have hx0 : Kept T s0 x0 := (kept_payFrame (tr (by decide) hT) _ _ _ _ (kept_State_count _ _ _ _ _ (kept_State_count
      _ _ _ _ _ h4 (hasC_of ixC_LEAF_TX_FRAME_CNT (by decide) hT)) (hasC_of ixC_LEAF_TX_BYTE_CNT (by decide) hT)))
  clear_value x0
  extract_lets +onlyGivenNames -merge x1
  have hx1 : Kept T s0 x1 := (kept_flowCount (tr (by decide) hT) _ _ _ hx0)
  clear_value x1
  extract_lets +onlyGivenNames -merge x2
  have hx2 : Kept T s0 x2 := (kept_State_led (tr (by decide) hT) _ _ _ _ (kept_sendOut (tr (by decide) hT) _ _ _ _ _
      hx1))
  clear_value x2
  extract_lets +onlyGivenNames -merge x3
  have hx3 : Kept T s0 x3 := by
    subst x3
    split
    · exact (ite_holds (P := (Kept T s0)) (kept_unitDone (tr (by decide) hT) _ _ _ _ _ _ hx2) hx2)
    · exact hx2
  clear_value x3
  extract_lets +onlyGivenNames -merge x8
  extract_lets +onlyGivenNames -merge x9
  extract_lets +onlyGivenNames -merge x10
  have hx10 : Kept T s0 x10 := (kept_releaseUnit (tr (by decide) hT) _ _ (kept_setQueue (tr (by decide) hT) _ _ _
      hx3))
  clear_value x10
  extract_lets +onlyGivenNames -merge x11
  have hx11 : Kept T s0 x11 := (kept_txOver (tr (by decide) hT) _ _ hx10)
  clear_value x11
  split
  · exact hx11
  · exact (kept_deliverCopy (tr (by decide) hT) _ _ _ _ _ _ hx11)

theorem kept_underrun {T : Touch} {s0 : State} (hT : Touch.le ⟨262144, 0x100, 0x0⟩ T) : ∀ a0 a1, Kept T s0 a1 →
    Kept T s0 (underrun a0 a1) := by
  intro a0 a1 h1
  unfold underrun
  extract_lets +onlyGivenNames -merge x0
  extract_lets +onlyGivenNames -merge x1
  have hx1 : Kept T s0 x1 := (kept_setPort (tr (by decide) hT) _ _ _ h1)
  clear_value x1
  exact (kept_State_setFld (tr (by decide) hT) _ _ _ _ _ hx1 (hasR_of ixR_LEAF_CT_STATUS (by decide) hT))

theorem kept_leafTxComplete {T : Touch} {s0 : State} (hT : Touch.le ⟨8166656,
    0x4680800e0000000c000000003040000780000000000180, 0x435507a740000202000000000100020a4000400000000001c0c⟩ T) : ∀
    a0 a1 a2, Kept T s0 a2 →
    Kept T s0 (leafTxComplete a0 a1 a2) := by
  intro a0 a1 a2 h2
  unfold leafTxComplete
  split
  · exact h2
  · extract_lets +onlyGivenNames -merge x3
    subst x3
    split
    · exact (kept_txOver (tr (by decide) hT) _ _ h2)
    · extract_lets +onlyGivenNames -merge x7
      extract_lets +onlyGivenNames -merge x8
      extract_lets +onlyGivenNames -merge x9
      extract_lets +onlyGivenNames -merge x10
      extract_lets +onlyGivenNames -merge x11
      subst x11
      split
      · refine kept_endEarly (tr (by decide) hT) _ _ _ _ _ _ _ (hasC_of ixC_BUF_ONDIE_CRC_DROP_CNT (by decide) hT) ?_
          h2
        · intro y14 hy14
          exact (kept_failCell (tr (by decide) hT) _ _ _ _ _ hy14)
      · refine ite_holds (P := (Kept T s0)) ?_ ?_
        · refine kept_endEarly (tr (by decide) hT) _ _ _ _ _ _ _ (hasC_of ixC_LEAF_TX_OVERSIZE_CNT (by decide) hT) ?_
            h2
          · intro y16 hy16
            exact (kept_dropUnit (tr (by decide) hT) _ _ _ _ hy16)
        · refine ite_holds (P := (Kept T s0)) ?_ ?_
          · refine kept_endEarly (tr (by decide) hT) _ _ _ _ _ _ _ (hasC_of ixC_LEAF_TX_STOMP_CNT (by decide) hT) ?_
              h2
            · intro y17 hy17
              exact (kept_dropUnit (tr (by decide) hT) _ _ _ _ hy17)
          · refine ite_holds (P := (Kept T s0)) ?_ ?_
            · refine kept_endEarly (tr (by decide) hT) _ _ _ _ _ _ _ (hasC_of ixC_LEAF_TX_UNDERRUN_CNT (by decide)
                hT) ?_ (kept_underrun (tr (by decide) hT) _ _ h2)
              · intro y18 hy18
                exact (kept_dropUnit (tr (by decide) hT) _ _ _ _ hy18)
            · exact (kept_txWhole (tr (by decide) hT) _ _ _ _ _ h2)

theorem kept_execLeafTxComplete {T : Touch} {s0 : State} (hT : Touch.le ⟨8166656,
    0x4680800e0000000c000000003040000780000000000180, 0x435507a740000202000000000100020a4000400000000001c0c⟩ T) : ∀
    a0 a1 a2, Kept T s0 a2 →
    ResKept T s0 (execLeafTxComplete a0 a1 a2) := by
  intro a0 a1 a2 h2
  unfold execLeafTxComplete
  refine next_kept ?_
  exact (kept_leafTxComplete (tr (by decide) hT) _ _ _ h2)

theorem kept_keepChoice {T : Touch} {s0 : State} (hT : Touch.le ⟨262144, 0x0, 0x0⟩ T) : ∀ a0 a1 a2 a3 a4, Kept T s0
    a4 →
    Kept T s0 (keepChoice a0 a1 a2 a3 a4) := by
  intro a0 a1 a2 a3 a4 h4
  unfold keepChoice
  extract_lets +onlyGivenNames -merge x0
  exact (kept_setPort (tr (by decide) hT) _ _ _ h4)

theorem kept_learnSky {T : Touch} {s0 : State} (hT : Touch.le ⟨137216,
    0x680000000000000000000000000000000000000000000, 0x500000000000000000000000000000000006400000000000⟩ T) : ∀ a0 a1
    a2 a3, Kept T s0 a3 →
    Kept T s0 (learnSky a0 a1 a2 a3) := by
  intro a0 a1 a2 a3 h3
  unfold learnSky
  extract_lets +onlyGivenNames -merge x0
  exact (ite_holds (P := (Kept T s0)) (kept_learnFrame (tr (by decide) hT) _ _ _ _ _ _ h3) h3)

theorem kept_startFrame {T : Touch} {s0 : State} (hT : Touch.le ⟨3545088,
    0x680800000000004000000003040000580000000000000, 0x500404000000000000000006000024000406402e00001000⟩ T) : ∀ a0 a1
    a2 a3 a4, Kept T s0 a4 →
    Kept T s0 (startFrame a0 a1 a2 a3 a4) := by
  intro a0 a1 a2 a3 a4 h4
  unfold startFrame
  extract_lets +onlyGivenNames -merge x0
  extract_lets +onlyGivenNames -merge x1
  extract_lets +onlyGivenNames -merge x2
  have hx2 : Kept T s0 x2 := (ite_holds (P := (Kept T s0)) h4 (kept_editCounts (tr (by decide) hT) _ _ _
      (kept_ruleParity (tr (by decide) hT) _ _ _ h4)))
  clear_value x2
  extract_lets +onlyGivenNames -merge x3
  subst x3
  refine ite_holds (P := (Kept T s0)) ?_ ?_
  · exact (kept_dropUnit (tr (by decide) hT) _ _ _ _ (kept_State_count _ _ _ _ _ hx2 (hasC_of
      ixC_PARSE_EGR_RULE_DROP_CNT (by decide) hT)))
  · split
    · exact (kept_dropUnit (tr (by decide) hT) _ _ _ _ hx2)
    · refine ite_holds (P := (Kept T s0)) ?_ ?_
      · exact (kept_dropUnit (tr (by decide) hT) _ _ _ _ (kept_State_count _ _ _ _ _ hx2 (hasC_of
          ixC_LEAF_TX_OVERSIZE_CNT (by decide) hT)))
      · extract_lets +onlyGivenNames -merge x8
        have hx8 : Kept T s0 x8 := (kept_State_countIf (tr (by decide) hT) _ _ _ _ _ (kept_State_countIf (tr (by
            decide) hT) _ _ _ _ _ hx2 (hasC_of ixC_TM_ECN_MARK_CNT (by decide) hT)) (hasC_of ixC_TM_ECN_NOT_ECT_CNT
            (by decide) hT))
        clear_value x8
        extract_lets +onlyGivenNames -merge x9
        have hx9 : Kept T s0 x9 := (kept_learnSky (tr (by decide) hT) _ _ _ _ hx8)
        clear_value x9
        split
        · rename_i v10 v11 heq12
          have hv11 : Kept T s0 v11 := holds_eq (P := (Snd (Kept T s0))) heq12 (by
              exact (kept_egressCopy (tr (by decide) hT) _ _ _ _ hx9))
          extract_lets +onlyGivenNames -merge x13
          extract_lets +onlyGivenNames -merge x14
          have hx14 : Kept T s0 x14 := (kept_setPort (tr (by decide) hT) _ _ _ hv11)
          clear_value x14
          extract_lets +onlyGivenNames -merge x15
          have hx15 : Kept T s0 x15 := (ite_holds (P := (Kept T s0)) (kept_chargeFrame (tr (by decide) hT) _ _ _ _ _
              hx14) hx14)
          clear_value x15
          extract_lets +onlyGivenNames -merge x16
          extract_lets +onlyGivenNames -merge x17
          exact (kept_setQueue (tr (by decide) hT) _ _ _ hx15)

theorem kept_startLookup {T : Touch} {s0 : State} (hT : Touch.le ⟨262144, 0x0, 0x8000000000000000⟩ T) : ∀ a0 a1, Kept
    T s0 a1 →
    Snd (Kept T s0) (startLookup a0 a1) := by
  intro a0 a1 h1
  unfold startLookup
  extract_lets +onlyGivenNames -merge x0
  extract_lets +onlyGivenNames -merge x1
  extract_lets +onlyGivenNames -merge x2
  subst x2
  beta_reduce
  refine ite_holds (P := (Snd (Kept T s0))) ?_ ?_
  · refine snd_holds (P := (Kept T s0)) ?_
    exact (kept_up262144 (land_le (by decide) hT.1) h1)
  · refine ite_holds (P := (Snd (Kept T s0))) ?_ ?_
    · refine snd_holds (P := (Kept T s0)) ?_
      exact h1
    · refine snd_holds (P := (Kept T s0)) ?_
      exact (kept_State_count _ _ _ _ _ (kept_up262144 (land_le (by decide) hT.1) h1) (hasC_of
          ixC_XBAR_EGR_LOOKUP_WAIT_CNT (by decide) hT))

theorem kept_portTxStart {T : Touch} {s0 : State} (hT : Touch.le ⟨3545088,
    0x680800000000004000000003040000780000000000000, 0x5004040000000000000000060020a4008406402e00001000⟩ T) : ∀ a0 a1
    a2, Kept T s0 a2 →
    Kept T s0 (portTxStart a0 a1 a2) := by
  intro p bad s h
  unfold portTxStart
  extract_lets s1 x
  have h0 : Kept T s0 s1 := kept_refreshPort (tr (by decide) hT) _ _ h
  clear_value x s1
  refine ite_holds (P := Kept T s0) h0 ?_
  split
  · exact h0
  · split
    · exact h0
    · have h1 := kept_startLookup (tr (by decide) hT) (p / 16) s1 h0
      split
      · rename_i heq; rw [heq] at h1; exact h1
      · rename_i heq; rw [heq] at h1
        split
        · exact ite_holds (P := Kept T s0) (kept_failCell (tr (by decide) hT) _ _ _ _ _ (kept_State_count _ _ _ _ _
            (kept_keepChoice (tr (by decide) hT) _ _ _ _ _ h1) (hasC_of ixC_BUF_ONDIE_CRC_DROP_CNT (by decide) hT)))
            (kept_startFrame (tr (by decide) hT) _ _ _ _ _ (kept_keepChoice (tr (by decide) hT) _ _ _ _ _ h1))
        · exact kept_startFrame (tr (by decide) hT) _ _ _ _ _ (kept_keepChoice (tr (by decide) hT) _ _ _ _ _ h1)

theorem kept_execPortTxStart {T : Touch} {s0 : State} (hT : Touch.le ⟨3545088,
    0x680800000000004000000003040000780000000000000, 0x5004040000000000000000060020a4008406402e00001000⟩ T) : ∀ a0 a1
    a2, Kept T s0 a2 →
    ResKept T s0 (execPortTxStart a0 a1 a2) := by
  intro a0 a1 a2 h2
  unfold execPortTxStart
  refine next_kept ?_
  refine kept_running (tr (by decide) hT) _ _ ?_ h2
  · intro y0 hy0
    exact (kept_portTxStart (tr (by decide) hT) _ _ _ hy0)

/-! ### Machine/Buffer.lean -/

theorem kept_allocMany {T : Touch} {s0 : State} (hT : Touch.le ⟨1048576, 0x580000000000000, 0x12000000000000000000⟩
    T) : ∀ a0 a1 a2, Kept T s0 a2 →
    Snd (Kept T s0) (allocMany a0 a1 a2) := by
  intro slot l
  induction l with
  | nil => exact fun s h => h
  | cons e l ih => exact fun s h => ih _ (kept_allocRsv (tr (by decide) hT) _ _ h)

theorem kept_markRetired {T : Touch} {s0 : State} (hT : Touch.le ⟨1048576, 0x280000000000000, 0x0⟩ T) : ∀ a0 a1 a2,
    Kept T s0 a2 →
    Kept T s0 (markRetired a0 a1 a2) := by
  intro a0 a1 a2 h2
  unfold markRetired
  exact (ite_holds (P := (Kept T s0)) h2 (kept_regAdd (tr (by decide) hT) _ _ _ _ (hasR_of ixR_BUF_POOL_QUAR (by
      decide) hT) (kept_regAdd (tr (by decide) hT) _ _ _ _ (hasR_of ixR_BUF_POOL_FREE (by decide) hT) (kept_setTile
      (tr (by decide) hT) _ _ _ _ h2))))

theorem kept_carve {T : Touch} {s0 : State} (hT : Touch.le ⟨1048576, 0x3a0000000000000, 0x0⟩ T) : ∀ a0, Kept T s0 a0 →
    Kept T s0 (carve a0) := by
  intro a0 h0
  unfold carve
  extract_lets +onlyGivenNames -merge x0
  extract_lets +onlyGivenNames -merge x1
  have hx1 : Kept T s0 x1 := (kept_State_setFld (tr (by decide) hT) _ _ _ _ _ (kept_State_setFld (tr (by decide) hT)
      _ _ _ _ _ h0 (hasR_of ixR_BUF_CARVE_STATUS (by decide) hT)) (hasR_of ixR_BUF_CARVE_STATUS (by decide) hT))
  clear_value x1
  extract_lets +onlyGivenNames -merge x2
  extract_lets +onlyGivenNames -merge x3
  have hx3 : Kept T s0 x3 := (kept_up1048576 (land_le (by decide) hT.1) hx1)
  clear_value x3
  extract_lets +onlyGivenNames -merge x4
  have hx4 : Kept T s0 x4 := (foldl_holds (P := (Kept T s0)) (fun _ _ hm5 => (kept_State_setReg _ _ _ _ _
      (kept_State_setReg _ _ _ _ _ (kept_State_setReg _ _ _ _ _ hm5 (hasR_of ixR_BUF_POOL_FREE (by decide) hT))
      (hasR_of ixR_BUF_POOL_ALLOC (by decide) hT)) (hasR_of ixR_BUF_POOL_QUAR (by decide) hT))) hx3)
  clear_value x4
  extract_lets +onlyGivenNames -merge x6
  have hx6 : Kept T s0 x6 := by
    subst x6
    refine foldl_holds (P := (Kept T s0)) (fun b9 a10 hb9 => ?_) ?_
    · split
      · exact (kept_markRetired (tr (by decide) hT) _ _ _ hb9)
      · exact hb9
    · exact hx4
  clear_value x6
  exact (kept_showSpill (tr (by decide) hT) _ hx6)

theorem kept_carveCtrl {T : Touch} {s0 : State} (hT : Touch.le ⟨1049088,
    0x6000000000000000000000000000000000000003b0000000000000, 0x800000000000000000000000000000000000000000000000⟩ T)
    : ∀ a0 a1, Kept T s0 a1 →
    Kept T s0 (carveCtrl a0 a1) := by
  intro a0 a1 h1
  unfold carveCtrl
  extract_lets +onlyGivenNames -merge x0
  have hx0 : Kept T s0 x0 := (ite_holds (P := (Kept T s0)) (kept_State_setFld (tr (by decide) hT) _ _ _ _ _ h1
      (hasR_of ixR_BUF_CARVE_CTRL (by decide) hT)) h1)
  clear_value x0
  exact (ite_holds (P := (Kept T s0)) hx0 (ite_holds (P := (Kept T s0)) (kept_logWrite (tr (by decide) hT) _ _ _ hx0)
      (ite_holds (P := (Kept T s0)) (kept_carve (tr (by decide) hT) _ hx0) (kept_State_setFld (tr (by decide) hT) _ _
      _ _ _ (kept_State_setFld (tr (by decide) hT) _ _ _ _ _ hx0 (hasR_of ixR_BUF_CARVE_CTRL (by decide) hT))
      (hasR_of ixR_BUF_CARVE_STATUS (by decide) hT)))))

theorem kept_carveDone {T : Touch} {s0 : State} (hT : Touch.le ⟨0, 0x20000000000000, 0x0⟩ T) : ∀ a0, Kept T s0 a0 →
    Kept T s0 (carveDone a0) := by
  intro a0 h0
  unfold carveDone
  refine ite_holds (P := (Kept T s0)) ?_ ?_
  · extract_lets +onlyGivenNames -merge x0
    extract_lets +onlyGivenNames -merge x1
    extract_lets +onlyGivenNames -merge x2
    have hx2 : Kept T s0 x2 := (kept_State_setFld (tr (by decide) hT) _ _ _ _ _ (kept_State_setFld (tr (by decide)
        hT) _ _ _ _ _ (kept_State_setFld (tr (by decide) hT) _ _ _ _ _ h0 (hasR_of ixR_BUF_CARVE_STATUS (by decide)
        hT)) (hasR_of ixR_BUF_CARVE_STATUS (by decide) hT)) (hasR_of ixR_BUF_CARVE_STATUS (by decide) hT))
    clear_value x2
    exact (kept_showSpill (tr (by decide) hT) _ (kept_State_setFld (tr (by decide) hT) _ _ _ _ _ (kept_State_setFld
        (tr (by decide) hT) _ _ _ _ _ hx2 (hasR_of ixR_BUF_CARVE_STATUS (by decide) hT)) (hasR_of
        ixR_BUF_CARVE_STATUS (by decide) hT)))
  · exact h0

theorem kept_editUnit {T : Touch} {s0 : State} (hT : Touch.le ⟨2359296, 0x2000000000000000000000, 0x0⟩ T) : ∀ a0 a1
    a2 a3, Kept T s0 a3 →
    Kept T s0 (editUnit a0 a1 a2 a3) := by
  intro a0 a1 a2 a3 h3
  unfold editUnit
  extract_lets +onlyGivenNames -merge x0
  exact (kept_setQueue (tr (by decide) hT) _ _ _ h3)

theorem kept_execBufCarve {T : Touch} {s0 : State} (hT : Touch.le ⟨1050112,
    0x6000000000000000000000000000000000000003b0000000000000, 0x800000000000000000000000000000000000000000000000⟩ T)
    : ∀ a0 a1, Kept T s0 a1 →
    ResKept T s0 (execBufCarve a0 a1) := by
  intro a0 a1 h1
  unfold execBufCarve
  refine next_kept ?_
  extract_lets +onlyGivenNames -merge x0
  refine kept_far (tr (by decide) hT) _ _ _ ?_ h1
  · intro y1 hy1
    exact (kept_carveCtrl (tr (by decide) hT) _ _ hy1)

theorem kept_execBufCarveDone {T : Touch} {s0 : State} (hT : Touch.le ⟨0, 0x20000000000000, 0x0⟩ T) : ∀ a0, Kept T s0
    a0 →
    ResKept T s0 (execBufCarveDone a0) := by
  intro a0 h0
  unfold execBufCarveDone
  refine next_kept ?_
  exact (kept_carveDone (tr (by decide) hT) _ h0)

theorem kept_refillFail {T : Touch} {s0 : State} (hT : Touch.le ⟨3414016,
    0x680800000000004000000002000000300000000000000, 0x500004000000000000000000018080000400000000000000⟩ T) : ∀ a0 a1
    a2 a3 a4, Kept T s0 a4 →
    Kept T s0 (refillFail a0 a1 a2 a3 a4) := by
  intro a0 a1 a2 a3 a4 h4
  unfold refillFail
  extract_lets +onlyGivenNames -merge x0
  subst x0
  extract_lets +onlyGivenNames -merge x1
  have hx1 : Kept T s0 x1 := (kept_quarFail (tr (by decide) hT) _ _ _ (kept_editUnit (tr (by decide) hT) _ _ _ _ h4))
  clear_value x1
  refine ite_holds (P := (Kept T s0)) ?_ ?_
  · extract_lets +onlyGivenNames -merge x2
    have hx2 : Kept T s0 x2 := (foldl_holds (P := (Kept T s0)) (fun _ _ hm3 => (kept_cellGone (tr (by decide) hT) _ _
        hm3)) (kept_State_count _ _ _ _ _ hx1 (hasC_of ixC_BUF_HBM_CRC_DROP_CNT (by decide) hT)))
    clear_value x2
    exact (kept_State_led (tr (by decide) hT) _ _ _ _ (kept_txDropped (tr (by decide) hT) _ _ hx2))
  · exact (foldl_holds (P := (Kept T s0)) (fun _ _ hm4 => (kept_skyGone (tr (by decide) hT) _ _ (kept_State_count _ _
      _ _ _ hm4 (hasC_of ixC_BUF_HBM_CRC_CELL_CNT (by decide) hT)))) hx1)

theorem kept_refillUnit {T : Touch} {s0 : State} (hT : Touch.le ⟨3414016,
    0x680800000000004000000002000000780000000000000, 0x5000040000000000000000001980f6000400000000000000⟩ T) : ∀ a0 a1
    a2 a3 a4, Kept T s0 a4 →
    Kept T s0 (refillUnit a0 a1 a2 a3 a4) := by
  intro k flips bad e s h
  unfold refillUnit
  split
  · exact h
  · rename_i u _
    extract_lets n
    have h1 := kept_reserveTurn (tr (by decide) hT) (160 + qXport k) n true s h
    generalize reserveTurn (160 + qXport k) n true s = r at h1
    obtain ⟨b, s1⟩ := r
    have h2 : Kept T s0 s1 := h1
    have h3 := kept_State_count s1 .BUF_REFILL_WAIT_CNT (qXport k) 0 1 h2 (hasC_of ixC_BUF_REFILL_WAIT_CNT (by
        decide) hT)
    cases b <;> rcases u.hbm with _ | ⟨p, t⟩
    · exact h3
    · exact h3
    · exact h3
    · refine ite_holds (P := Kept T s0) (kept_refillFail (tr (by decide) hT) _ _ _ _ _
        (kept_unreserve (tr (by decide) hT) _ _ h2)) ?_
      have h4 := kept_allocMany (tr (by decide) hT) (refillSlots (qXport k)) u.cells _
        (kept_bufError (tr (by decide) hT) (refillSlots (qXport k)) e _ h2)
      split
      rename_i heq; rw [heq] at h4
      exact kept_State_count _ _ _ _ _ (kept_freeTile (tr (by decide) hT) _ _ _
        (kept_editUnit (tr (by decide) hT) _ _ _ _ h4)) (hasC_of ixC_BUF_REFILL_UNIT_CNT (by decide) hT)

theorem kept_execRefillUnit {T : Touch} {s0 : State} (hT : Touch.le ⟨3414016,
    0x680800000000004000000002000000780000000000000, 0x5000040000000000000000001980f6000400000000000000⟩ T) : ∀ a0 a1 a2, Kept T s0 a2 →
    ResKept T s0 (execRefillUnit a0 a1 a2) := by
  intro a0 a1 a2 h2
  unfold execRefillUnit
  refine next_kept ?_
  refine kept_running (tr (by decide) hT) _ _ ?_ h2
  · intro y0 hy0
    exact (kept_refillUnit (tr (by decide) hT) _ _ _ _ _ hy0)

theorem kept_retireTile {T : Touch} {s0 : State} (hT : Touch.le ⟨1054720, 0x808000000000000, 0x200000000000000000000⟩
    T) : ∀ a0 a1 a2, Kept T s0 a2 →
    Kept T s0 (retireTile a0 a1 a2) := by
  intro p t s h
  unfold retireTile
  extract_lets s1 slot idx s2
  have h1 : Kept T s0 s1 := kept_setTile (tr (by decide) hT) _ _ _ _ h
  clear_value s1
  have h2 : Kept T s0 s2 := by
    subst s2
    clear_value slot idx
    cases slot with
    | some j =>
      exact kept_State_setFld (tr (by decide) hT) _ _ _ _ _ (kept_State_setReg _ _ _ _ _ h1
        (hasR_of ixR_BUF_RETIRE (by decide) hT)) (hasR_of ixR_BUF_RETIRE_STATUS (by decide) hT)
    | none => exact kept_State_setFld (tr (by decide) hT) _ _ _ _ _ h1 (hasR_of ixR_BUF_RETIRE_STATUS (by decide) hT)
  exact kept_fault (tr (by decide) hT) _ _ _ _ _ (kept_State_count _ _ _ _ _ h2
    (hasC_of ixC_BUF_RETIRE_CNT (by decide) hT))

theorem kept_scrubTakes {T : Touch} {s0 : State} (hT : Touch.le ⟨1048576, 0x180000000000000, 0x1a000000000000000000⟩
    T) : ∀ a0 a1 a2, Kept T s0 a2 →
    Snd (Kept T s0) (scrubTakes a0 a1 a2) := by
  intro a0 a1 a2 h2
  unfold scrubTakes
  refine ite_holds (P := (Snd (Kept T s0))) ?_ ?_
  · refine ite_holds (P := (Snd (Kept T s0))) ?_ ?_
    · refine snd_holds (P := (Kept T s0)) ?_
      exact (kept_takeTile (tr (by decide) hT) _ _ _ h2)
    · refine snd_holds (P := (Kept T s0)) ?_
      exact (kept_State_count _ _ _ _ _ h2 (hasC_of ixC_BUF_ALLOC_WAIT_CNT (by decide) hT))
  · refine ite_holds (P := (Snd (Kept T s0))) ?_ ?_
    · refine snd_holds (P := (Kept T s0)) ?_
      exact (of_snd (kept_hbmLoses (tr (by decide) hT) _ _ _ h2))
    · refine ite_holds (P := (Snd (Kept T s0))) ?_ ?_
      · refine snd_holds (P := (Kept T s0)) ?_
        exact (kept_State_count _ _ _ _ _ h2 (hasC_of ixC_BUF_ALLOC_WAIT_CNT (by decide) hT))
      · refine snd_holds (P := (Kept T s0)) ?_
        exact (kept_takeTile (tr (by decide) hT) _ _ _ (kept_setTaken (tr (by decide) hT) _ _ _ h2))

theorem kept_scrubWrites {T : Touch} {s0 : State} (hT : Touch.le ⟨1048576, 0x0, 0x0⟩ T) : ∀ a0 a1 a2, Kept T s0 a2 →
    Kept T s0 (scrubWrites a0 a1 a2) := by
  intro a0 a1 a2 h2
  unfold scrubWrites
  exact (ite_holds (P := (Kept T s0)) h2 (kept_setMeta (tr (by decide) hT) _ _ _ _ h2))

theorem kept_scrubTile {T : Touch} {s0 : State} (hT : Touch.le ⟨1054720,
    0x680000000000000000000000000000b88000000000000, 0x5000000000000000000000000003be000000000000000000⟩ T) : ∀ a0 a1
    a2 a3, Kept T s0 a3 →
    Snd (Kept T s0) (scrubTile a0 a1 a2 a3) := by
  intro a0 a1 a2 a3 h3
  unfold scrubTile
  split
  · split
    · rename_i v1 heq2
      have hv1 : Kept T s0 v1 := holds_eq (P := (Snd (Kept T s0))) heq2 (by
          exact (kept_scrubTakes (tr (by decide) hT) _ _ _ h3))
      refine snd_holds (P := (Kept T s0)) ?_
      exact hv1
    · rename_i v3 heq4
      have hv3 : Kept T s0 v3 := holds_eq (P := (Snd (Kept T s0))) heq4 (by
          exact (kept_scrubTakes (tr (by decide) hT) _ _ _ h3))
      refine snd_holds (P := (Kept T s0)) ?_
      exact (ite_holds (P := (Kept T s0)) (kept_freeTile (tr (by decide) hT) _ _ _ (kept_scrubWrites (tr (by decide)
          hT) _ _ _ hv3)) (kept_quarFail (tr (by decide) hT) _ _ _ hv3))
  · refine ite_holds (P := (Snd (Kept T s0))) ?_ ?_
    · refine snd_holds (P := (Kept T s0)) ?_
      exact h3
    · refine ite_holds (P := (Snd (Kept T s0))) ?_ ?_
      · refine snd_holds (P := (Kept T s0)) ?_
        exact (kept_retireTile (tr (by decide) hT) _ _ _ h3)
      · refine ite_holds (P := (Snd (Kept T s0))) ?_ ?_
        · refine snd_holds (P := (Kept T s0)) ?_
          exact (kept_State_count _ _ _ _ _ (kept_regAdd (tr (by decide) hT) _ _ _ _ (hasR_of ixR_BUF_POOL_FREE (by
              decide) hT) (kept_regAdd (tr (by decide) hT) _ _ _ _ (hasR_of ixR_BUF_POOL_QUAR (by decide) hT)
              (kept_noteFree (tr (by decide) hT) _ _ _ (kept_setTile (tr (by decide) hT) _ _ _ _ (kept_scrubWrites
              (tr (by decide) hT) _ _ _ h3))))) (hasC_of ixC_BUF_QUAR_RELEASE_CNT (by decide) hT))
        · refine snd_holds (P := (Kept T s0)) ?_
          exact (kept_setTile (tr (by decide) hT) _ _ _ _ (kept_scrubWrites (tr (by decide) hT) _ _ _ h3))

theorem kept_scrubVisit {T : Touch} {s0 : State} (hT : Touch.le ⟨1054720,
    0x680000000000000000000000000000b8c000000000000, 0x5000000000000000000000000003fe000000000000000000⟩ T) : ∀ a0 a1
    a2, Kept T s0 a2 →
    Kept T s0 (scrubVisit a0 a1 a2) := by
  intro a0 a1 a2 h2
  unfold scrubVisit
  refine ite_holds (P := (Kept T s0)) ?_ ?_
  · exact (kept_State_setFld (tr (by decide) hT) _ _ _ _ _ h2 (hasR_of ixR_BUF_SCRUB_STATUS (by decide) hT))
  · extract_lets +onlyGivenNames -merge x0
    extract_lets +onlyGivenNames -merge x1
    split
    · rename_i v2 v3 heq4
      have hv3 : Kept T s0 v3 := holds_eq (P := (Snd (Kept T s0))) heq4 (by
          refine ite_holds (P := (Snd (Kept T s0))) ?_ ?_
          · exact (kept_scrubTile (tr (by decide) hT) _ _ _ _ (kept_bufError (tr (by decide) hT) _ _ _ h2))
          · refine snd_holds (P := (Kept T s0)) ?_
            exact h2)
      refine ite_holds (P := (Kept T s0)) ?_ ?_
      · exact (kept_State_setFld (tr (by decide) hT) _ _ _ _ _ hv3 (hasR_of ixR_BUF_SCRUB_STATUS (by decide) hT))
      · refine ite_holds (P := (Kept T s0)) ?_ ?_
        · exact (kept_State_setFld (tr (by decide) hT) _ _ _ _ _ (kept_State_setFld (tr (by decide) hT) _ _ _ _ _ hv3
            (hasR_of ixR_BUF_SCRUB_STATUS (by decide) hT)) (hasR_of ixR_BUF_SCRUB_STATUS (by decide) hT))
        · split
          · exact (kept_State_setFld (tr (by decide) hT) _ _ _ _ _ (kept_State_setFld (tr (by decide) hT) _ _ _ _ _
              (kept_State_setFld (tr (by decide) hT) _ _ _ _ _ hv3 (hasR_of ixR_BUF_SCRUB_STATUS (by decide) hT))
              (hasR_of ixR_BUF_SCRUB_STATUS (by decide) hT)) (hasR_of ixR_BUF_SCRUB_STATUS (by decide) hT))
          · exact (kept_State_setReg _ _ _ _ _ hv3 (hasR_of ixR_BUF_SCRUB_STATUS (by decide) hT))

theorem kept_execScrubVisit {T : Touch} {s0 : State} (hT : Touch.le ⟨1054720,
    0x680000000000000000000000000000b8c000000000000, 0x5000000000000000000000000003fe000000000000000000⟩ T) : ∀ a0 a1
    a2, Kept T s0 a2 →
    ResKept T s0 (execScrubVisit a0 a1 a2) := by
  intro a0 a1 a2 h2
  unfold execScrubVisit
  refine next_kept ?_
  refine kept_running (tr (by decide) hT) _ _ ?_ h2
  · intro y0 hy0
    exact (kept_scrubVisit (tr (by decide) hT) _ _ _ hy0)

theorem kept_spillFail {T : Touch} {s0 : State} (hT : Touch.le ⟨3414016,
    0x680800000000004000000002000000780000000000000, 0x5000040000000000000000000060a4000400000000000000⟩ T) : ∀ a0 a1
    a2 a3, Kept T s0 a3 →
    Kept T s0 (spillFail a0 a1 a2 a3) := by
  intro a0 a1 a2 a3 h3
  unfold spillFail
  refine ite_holds (P := (Kept T s0)) ?_ ?_
  · exact (kept_failCell (tr (by decide) hT) _ _ _ _ _ (kept_State_count _ _ _ _ _ h3 (hasC_of
      ixC_BUF_ONDIE_CRC_DROP_CNT (by decide) hT)))
  · split
    · exact h3
    · extract_lets +onlyGivenNames -merge x4
      extract_lets +onlyGivenNames -merge x5
      have hx5 : Kept T s0 x5 := (kept_editUnit (tr (by decide) hT) _ _ _ _ h3)
      clear_value x5
      exact (kept_skyGone (tr (by decide) hT) _ _ (kept_quarFail (tr (by decide) hT) _ _ _ (kept_State_count _ _ _ _
          _ hx5 (hasC_of ixC_BUF_ONDIE_CRC_CELL_CNT (by decide) hT))))

theorem kept_spillStays {T : Touch} {s0 : State} (hT : Touch.le ⟨2359296, 0x2000000000000000000000,
    0x40000000000000000000000⟩ T) : ∀ a0 a1, Kept T s0 a1 →
    Kept T s0 (spillStays a0 a1) := by
  intro a0 a1 h1
  unfold spillStays
  extract_lets +onlyGivenNames -merge x0
  have hx0 : Kept T s0 x0 := (kept_State_count _ _ _ _ _ h1 (hasC_of ixC_BUF_SPILL_NOBUF_CNT (by decide) hT))
  clear_value x0
  extract_lets +onlyGivenNames -merge x1
  exact (kept_setQueue (tr (by decide) hT) _ _ _ hx0)

theorem kept_spillTo {T : Touch} {s0 : State} (hT : Touch.le ⟨3414016, 0x2000000180000000000000,
    0x20024000000000000000000⟩ T) : ∀ a0 a1 a2 a3, Kept T s0 a3 →
    Kept T s0 (spillTo a0 a1 a2 a3) := by
  intro a0 a1 a2 a3 h3
  unfold spillTo
  extract_lets +onlyGivenNames -merge x0
  extract_lets +onlyGivenNames -merge x1
  have hx1 : Kept T s0 x1 := (kept_setMeta (tr (by decide) hT) _ _ _ _ h3)
  clear_value x1
  extract_lets +onlyGivenNames -merge x2
  have hx2 : Kept T s0 x2 := (foldl_holds (P := (Kept T s0)) (fun _ _ hm3 => (kept_freeTile (tr (by decide) hT) _ _ _
      hm3)) (kept_State_count _ _ _ _ _ hx1 (hasC_of ixC_BUF_SPILL_UNIT_CNT (by decide) hT)))
  clear_value x2
  exact (kept_editUnit (tr (by decide) hT) _ _ _ _ hx2)

theorem kept_spillUnit {T : Touch} {s0 : State} (hT : Touch.le ⟨3414016,
    0x680800000000004000000002000000780000000000000, 0x5000040000000000000000000660fe000400000000000000⟩ T) : ∀ a0 a1
    a2 a3, Kept T s0 a3 →
    Kept T s0 (spillUnit a0 a1 a2 a3) := by
  intro a0 a1 a2 a3 h3
  unfold spillUnit
  split
  · exact h3
  · refine ite_holds (P := (Kept T s0)) ?_ ?_
    · exact (kept_editUnit (tr (by decide) hT) _ _ _ _ h3)
    · split
      · exact (kept_spillFail (tr (by decide) hT) _ _ _ _ h3)
      · extract_lets +onlyGivenNames -merge x6
        split
        · extract_lets +onlyGivenNames -merge x10
          have hx10 : Kept T s0 x10 := (kept_bufError (tr (by decide) hT) _ _ _ h3)
          clear_value x10
          exact (ite_holds (P := (Kept T s0)) (kept_setTaken (tr (by decide) hT) _ _ _ hx10) hx10)
        · split
          · rename_i v13 heq14
            have hv13 : Kept T s0 v13 := holds_eq (P := (Snd (Kept T s0))) heq14 (by
                exact (kept_allocHbm (tr (by decide) hT) _ _ _ (kept_bufError (tr (by decide) hT) _ _ _ h3)))
            exact hv13
          · rename_i v15 heq16
            have hv15 : Kept T s0 v15 := holds_eq (P := (Snd (Kept T s0))) heq16 (by
                exact (kept_allocHbm (tr (by decide) hT) _ _ _ (kept_bufError (tr (by decide) hT) _ _ _ h3)))
            exact (kept_spillStays (tr (by decide) hT) _ _ hv15)
          · rename_i v17 v18 heq19
            have hv18 : Kept T s0 v18 := holds_eq (P := (Snd (Kept T s0))) heq19 (by
                exact (kept_allocHbm (tr (by decide) hT) _ _ _ (kept_bufError (tr (by decide) hT) _ _ _ h3)))
            exact (kept_spillTo (tr (by decide) hT) _ _ _ _ hv18)

theorem kept_execSpillUnit {T : Touch} {s0 : State} (hT : Touch.le ⟨3414016,
    0x680800000000004000000002000000780000000000000, 0x5000040000000000000000000660fe000400000000000000⟩ T) : ∀ a0 a1 a2, Kept T s0 a2 →
    ResKept T s0 (execSpillUnit a0 a1 a2) := by
  intro a0 a1 a2 h2
  unfold execSpillUnit
  refine next_kept ?_
  refine kept_running (tr (by decide) hT) _ _ ?_ h2
  · intro y0 hy0
    exact (kept_spillUnit (tr (by decide) hT) _ _ _ _ hy0)

theorem kept_spillUnitClose {T : Touch} {s0 : State} (hT : Touch.le ⟨2359296, 0x2000000000000000000000, 0x0⟩ T) : ∀
    a0 a1, Kept T s0 a1 →
    Kept T s0 (spillUnitClose a0 a1) := by
  intro a0 a1 h1
  unfold spillUnitClose
  extract_lets +onlyGivenNames -merge x0
  subst x0
  split
  · exact h1
  · exact (ite_holds (P := (Kept T s0)) h1 (kept_editUnit (tr (by decide) hT) _ _ _ _ h1))

theorem kept_execSpillUnitClose {T : Touch} {s0 : State} (hT : Touch.le ⟨2359296, 0x2000000000000000000000, 0x0⟩ T) :
    ∀ a0 a1, Kept T s0 a1 →
    ResKept T s0 (execSpillUnitClose a0 a1) := by
  intro a0 a1 h1
  unfold execSpillUnitClose
  refine next_kept ?_
  refine kept_running (tr (by decide) hT) _ _ ?_ h1
  · intro y0 hy0
    exact (kept_spillUnitClose (tr (by decide) hT) _ _ hy0)

/-! ### Machine/Shaping.lean -/

theorem kept_execPolicerRefresh {T : Touch} {s0 : State} (hT : Touch.le ⟨2097152, 0x0, 0x0⟩ T) : ∀ a0 a1, Kept T s0
    a1 →
    ResKept T s0 (execPolicerRefresh a0 a1) := by
  intro a0 a1 h1
  unfold execPolicerRefresh
  refine next_kept ?_
  exact (kept_policerRefresh (tr (by decide) hT) _ _ h1)

theorem kept_execShaperRefresh {T : Touch} {s0 : State} (hT : Touch.le ⟨2097152, 0x1040000000000000000000, 0x0⟩ T) :
    ∀ a0 a1, Kept T s0 a1 →
    ResKept T s0 (execShaperRefresh a0 a1) := by
  intro a0 a1 h1
  unfold execShaperRefresh
  refine next_kept ?_
  exact (kept_shaperRefresh (tr (by decide) hT) _ _ h1)

theorem kept_wxLogPut {T : Touch} {s0 : State} (hT : Touch.le ⟨2097152, 0x4000000000000000, 0x0⟩ T) : ∀ a0 a1, Kept T
    s0 a1 →
    Kept T s0 (wxLogPut a0 a1) := by
  intro a0 a1 h1
  unfold wxLogPut
  extract_lets +onlyGivenNames -merge x0
  extract_lets +onlyGivenNames -merge x1
  extract_lets +onlyGivenNames -merge x2
  subst x2
  beta_reduce
  refine ite_holds (P := (Kept T s0)) ?_ ?_
  · exact (kept_up2097152 (land_le (by decide) hT.1) h1)
  · refine ite_holds (P := (Kept T s0)) ?_ ?_
    · exact (with_base (P := (Kept T s0)) (kept_State_setFld (tr (by decide) hT) _ _ _ _ _ h1 (hasR_of
        ixR_TM_WX_STATUS (by decide) hT)) (fun hb3 => (kept_up2097152 (land_le (by decide) hT.1) hb3)))
    · extract_lets +onlyGivenNames -merge x4
      extract_lets +onlyGivenNames -merge x5
      have hx5 : Kept T s0 x5 := (kept_State_setFld (tr (by decide) hT) _ _ _ _ _ h1 (hasR_of ixR_TM_WX_STATUS (by
          decide) hT))
      clear_value x5
      exact (with_base (P := (Kept T s0)) (kept_up2097152 (land_le (by decide) hT.1) hx5) (fun hb6 => (kept_up2097152
          (land_le (by decide) hT.1) hb6)))

theorem kept_wxOffer {T : Touch} {s0 : State} (hT : Touch.le ⟨2105088,
    0x4680801600000000000000000000000000000000000000, 0x436500004000000000000000060000000000000000000000000⟩ T) : ∀
    a0 a1 a2, Kept T s0 a2 →
    Kept T s0 (wxOffer a0 a1 a2) := by
  intro a0 a1 a2 h2
  unfold wxOffer
  extract_lets +onlyGivenNames -merge x0
  subst x0
  beta_reduce
  extract_lets +onlyGivenNames -merge x1
  refine ite_holds (P := (Kept T s0)) ?_ ?_
  · exact (ite_holds (P := (Kept T s0)) (kept_toBacklog (tr (by decide) hT) _ _ (kept_up2097152 (land_le (by decide)
      hT.1) h2)) (kept_wxMiss (tr (by decide) hT) _ _ (kept_toBacklog (tr (by decide) hT) _ _ h2)))
  · split
    · rename_i v2 heq3
      have hv2 : Kept T s0 v2 := holds_eq (P := (Snd (Kept T s0))) heq3 (by
          exact (kept_notePass (tr (by decide) hT) _ _ h2))
      exact (kept_wxMiss (tr (by decide) hT) _ _ (kept_State_count _ _ _ _ _ hv2 (hasC_of ixC_TM_WX_DROP_CNT (by
          decide) hT)))
    · rename_i v4 heq5
      have hv4 : Kept T s0 v4 := holds_eq (P := (Snd (Kept T s0))) heq5 (by
          exact (kept_notePass (tr (by decide) hT) _ _ h2))
      exact (kept_noteWent (tr (by decide) hT) _ _ (kept_up2097152 (land_le (by decide) hT.1) hv4))

theorem kept_wxSample {T : Touch} {s0 : State} (hT : Touch.le ⟨2105088,
    0x4680801600000000000000000000004000000000000000, 0x436500004000000000000000060000000000000000000000000⟩ T) : ∀
    a0, Kept T s0 a0 →
    Kept T s0 (wxSample a0) := by
  intro a0 h0
  unfold wxSample
  extract_lets +onlyGivenNames -merge x0
  extract_lets +onlyGivenNames -merge x1
  refine ite_holds (P := (Kept T s0)) ?_ ?_
  · extract_lets +onlyGivenNames -merge x2
    extract_lets +onlyGivenNames -merge x3
    extract_lets +onlyGivenNames -merge x4
    extract_lets +onlyGivenNames -merge x5
    extract_lets +onlyGivenNames -merge x6
    have hx6 : Kept T s0 x6 := (kept_State_setFld (tr (by decide) hT) _ _ _ _ _ (kept_State_setFld (tr (by decide)
        hT) _ _ _ _ _ h0 (hasR_of ixR_TM_WX_STATUS (by decide) hT)) (hasR_of ixR_TM_WX_STATUS (by decide) hT))
    clear_value x6
    extract_lets +onlyGivenNames -merge x7
    extract_lets +onlyGivenNames -merge x8
    have hx8 : Kept T s0 x8 := (kept_up2097152 (land_le (by decide) hT.1) hx6)
    clear_value x8
    exact (foldl_holds (P := (Kept T s0)) (fun _ _ hm9 => (kept_wxOffer (tr (by decide) hT) _ _ _ (kept_wxLogPut (tr
        (by decide) hT) _ _ hm9))) hx8)
  · exact h0

theorem kept_execWxSample {T : Touch} {s0 : State} (hT : Touch.le ⟨2105088,
    0x4680801600000000000000000000004000000000000000, 0x436500004000000000000000060000000000000000000000000⟩ T) : ∀
    a0, Kept T s0 a0 →
    ResKept T s0 (execWxSample a0) := by
  intro a0 h0
  unfold execWxSample
  refine next_kept ?_
  exact (kept_wxSample (tr (by decide) hT) _ h0)

end Sys2Proof.Machine
end

