-- ==== Sys2Proof/Laws/KeptTable.lean ====
section
/-!
SUPPORT. What the operations of these files of Machine leave alone: TableWrite, Learn.
-/
namespace Sys2Proof.Machine

/-! ### Machine/TableWrite.lean -/

theorem kept_noteWait {T : Touch} {s0 : State} (hT : Touch.le ⟨7936,
    0x4680801600000000000000000000000000000000000000, 0x436500004000000000000000000000000000000000000000000⟩ T) : ∀
    a0 a1, Kept T s0 a1 →
    Snd (Kept T s0) (noteWait a0 a1) := by
  intro a0 a1 h1
  unfold noteWait
  refine ite_holds (P := (Snd (Kept T s0))) ?_ ?_
  · refine snd_holds (P := (Kept T s0)) ?_
    exact (kept_toBacklog (tr (by decide) hT) _ _ h1)
  · refine ite_holds (P := (Snd (Kept T s0))) ?_ ?_
    · refine snd_holds (P := (Kept T s0)) ?_
      exact h1
    · exact (kept_notePass (tr (by decide) hT) _ _ h1)

theorem kept_argOk {T : Touch} {s0 : State} (hT : Touch.le ⟨0, 0x0, 0x0⟩ T) : ∀ a0 a1 a2, (∀ z0, Kept T s0 z0 →
    EndKept T s0 (a1 z0)) → Kept T s0 a2 →
    EndKept T s0 (argOk a0 a1 a2) := by
  intro a0 a1 a2 h1 h2
  unfold argOk
  refine ite_holds (P := (EndKept T s0)) ?_ ?_
  · refine h1 _ h2

  · exact (end_kept h2)

theorem kept_dump {T : Touch} {s0 : State} (hT : Touch.le ⟨2048, 0x800000000000000000000000000000000000000000,
    0x4000000000000000000000000000400000000000000⟩ T) : ∀ a0 a1, Kept T s0 a1 →
    Kept T s0 (dump a0 a1) := by
  intro a0 a1 h1
  unfold dump
  split
  · exact h1
  · refine ite_holds (P := (Kept T s0)) ?_ ?_
    · refine ite_holds (P := (Kept T s0)) ?_ ?_
      · extract_lets +onlyGivenNames -merge x4
        extract_lets +onlyGivenNames -merge x5
        extract_lets +onlyGivenNames -merge x6
        have hx6 : Kept T s0 x6 := (kept_setUnitSt (tr (by decide) hT) _ _ _ _ h1)
        clear_value x6
        split
        · exact (kept_up2048 (land_le (by decide) hT.1) hx6)
        · exact (kept_up2048 (land_le (by decide) hT.1) hx6)
      · exact (kept_finish (tr (by decide) hT) _ _ _ _ h1)
    · exact h1

theorem kept_dumpClear {T : Touch} {s0 : State} (hT : Touch.le ⟨2129920, 0x0, 0x0⟩ T) : ∀ a0 a1 a2, Kept T s0 a2 →
    Kept T s0 (dumpClear a0 a1 a2) := by
  intro a0 a1 a2 h2
  unfold dumpClear
  exact (ite_holds (P := (Kept T s0)) (kept_up32768 (land_le (by decide) hT.1) h2) (kept_setPol (tr (by decide) hT) _
      _ _ h2))

theorem kept_dumpRecord {T : Touch} {s0 : State} (hT : Touch.le ⟨2137856,
    0x4680801600000000000000000000000000000000000000, 0x436500004000000000000000000000000000400000000000000⟩ T) : ∀
    a0, Kept T s0 a0 →
    Kept T s0 (dumpRecord a0) := by
  intro a0 h0
  unfold dumpRecord
  split
  · exact h0
  · split
    · rename_i v3 heq4
      have hv3 : Kept T s0 v3 := holds_eq (P := (Snd (Kept T s0))) heq4 (by
          exact (kept_noteWait (tr (by decide) hT) _ _ h0))
      exact hv3
    · rename_i v5 heq6
      have hv5 : Kept T s0 v5 := holds_eq (P := (Snd (Kept T s0))) heq6 (by
          exact (kept_noteWait (tr (by decide) hT) _ _ h0))
      extract_lets +onlyGivenNames -merge x7
      have hx7 : Kept T s0 x7 := (ite_holds (P := (Kept T s0)) (kept_dumpClear (tr (by decide) hT) _ _ _ hv5) hv5)
      clear_value x7
      refine ite_holds (P := (Kept T s0)) ?_ ?_
      · extract_lets +onlyGivenNames -merge x8
        extract_lets +onlyGivenNames -merge x9
        have hx9 : Kept T s0 x9 := (kept_up2048 (land_le (by decide) hT.1) hx7)
        clear_value x9
        split
        · exact (kept_finish (tr (by decide) hT) _ _ _ _ hx9)
        · exact hx9
      · exact (kept_up2048 (land_le (by decide) hT.1) hx7)

theorem kept_tblOp {T : Touch} {s0 : State} (hT : Touch.le ⟨2048, 0x800000000000000000000000000000000000000000,
    0x4000000000000000000000000000400000000000000⟩ T) : ∀ a0 a1 a2 a3, (∀ z0 z1, Kept T s0 z1 → EndKept T s0 (a2 z0
    z1)) → Kept T s0 a3 →
    Kept T s0 (tblOp a0 a1 a2 a3) := by
  intro a0 a1 a2 a3 h2 h3
  unfold tblOp
  split
  · exact h3
  · refine ite_holds (P := (Kept T s0)) ?_ ?_
    · extract_lets +onlyGivenNames -merge x4
      have hx4 : EndKept T s0 x4 := by
        subst x4
        refine h2 _ _ h3

      clear_value x4
      exact (kept_finish (tr (by decide) hT) _ _ _ _ (of_endk hx4))
    · exact h3

theorem kept_ecmpWrite {T : Touch} {s0 : State} (hT : Touch.le ⟨133120, 0x800000000000000000000000000000000000000000,
    0x4000000000000000000000000000400000000000000⟩ T) : ∀ a0 a1, Kept T s0 a1 →
    Kept T s0 (ecmpWrite a0 a1) := by
  intro a0 a1 h1
  unfold ecmpWrite
  refine kept_tblOp (tr (by decide) hT) _ _ _ _ ?_ h1
  · intro y0 y1 hy1
    refine kept_argOk (tr (by decide) hT) _ _ _ ?_ hy1
    · intro y2 hy2
      exact (end_kept (kept_up131072 (land_le (by decide) hT.1) hy2))

theorem kept_editWrite {T : Touch} {s0 : State} (hT : Touch.le ⟨34816, 0x800000000000000000000000000000000000000000,
    0x4000000000000000000000000000400000000000000⟩ T) : ∀ a0 a1, Kept T s0 a1 →
    Kept T s0 (editWrite a0 a1) := by
  intro a0 a1 h1
  unfold editWrite
  refine kept_tblOp (tr (by decide) hT) _ _ _ _ ?_ h1
  · intro y0 y1 hy1
    refine kept_argOk (tr (by decide) hT) _ _ _ ?_ hy1
    · intro y2 hy2
      extract_lets +onlyGivenNames -merge x3
      exact (end_kept (kept_up32768 (land_le (by decide) hT.1) hy2))

theorem kept_execDump {T : Touch} {s0 : State} (hT : Touch.le ⟨2048, 0x800000000000000000000000000000000000000000,
    0x4000000000000000000000000000400000000000000⟩ T) : ∀ a0 a1, Kept T s0 a1 →
    ResKept T s0 (execDump a0 a1) := by
  intro a0 a1 h1
  unfold execDump
  refine next_kept ?_
  exact (kept_dump (tr (by decide) hT) _ _ h1)

theorem kept_execDumpRecord {T : Touch} {s0 : State} (hT : Touch.le ⟨2137856,
    0x4680801600000000000000000000000000000000000000, 0x436500004000000000000000000000000000400000000000000⟩ T) : ∀
    a0, Kept T s0 a0 →
    ResKept T s0 (execDumpRecord a0) := by
  intro a0 h0
  unfold execDumpRecord
  refine next_kept ?_
  exact (kept_dumpRecord (tr (by decide) hT) _ h0)

theorem kept_execEcmpWrite {T : Touch} {s0 : State} (hT : Touch.le ⟨133120,
    0x800000000000000000000000000000000000000000, 0x4000000000000000000000000000400000000000000⟩ T) : ∀ a0 a1, Kept T
    s0 a1 →
    ResKept T s0 (execEcmpWrite a0 a1) := by
  intro a0 a1 h1
  unfold execEcmpWrite
  refine next_kept ?_
  exact (kept_ecmpWrite (tr (by decide) hT) _ _ h1)

theorem kept_execEditWrite {T : Touch} {s0 : State} (hT : Touch.le ⟨34816,
    0x800000000000000000000000000000000000000000, 0x4000000000000000000000000000400000000000000⟩ T) : ∀ a0 a1, Kept T
    s0 a1 →
    ResKept T s0 (execEditWrite a0 a1) := by
  intro a0 a1 h1
  unfold execEditWrite
  refine next_kept ?_
  exact (kept_editWrite (tr (by decide) hT) _ _ h1)

theorem kept_filterWrite {T : Touch} {s0 : State} (hT : Touch.le ⟨133120,
    0x800000000000000000000000000000000000000000, 0x4000000000000000000000000000400000000000000⟩ T) : ∀ a0 a1, Kept T
    s0 a1 →
    Kept T s0 (filterWrite a0 a1) := by
  intro a0 a1 h1
  unfold filterWrite
  refine kept_tblOp (tr (by decide) hT) _ _ _ _ ?_ h1
  · intro y0 y1 hy1
    refine kept_argOk (tr (by decide) hT) _ _ _ ?_ hy1
    · intro y2 hy2
      exact (ite_holds (P := (EndKept T s0)) (end_kept (kept_up131072 (land_le (by decide) hT.1) hy2)) (end_kept hy2))

theorem kept_execFilterWrite {T : Touch} {s0 : State} (hT : Touch.le ⟨133120,
    0x800000000000000000000000000000000000000000, 0x4000000000000000000000000000400000000000000⟩ T) : ∀ a0 a1, Kept T
    s0 a1 →
    ResKept T s0 (execFilterWrite a0 a1) := by
  intro a0 a1 h1
  unfold execFilterWrite
  refine next_kept ?_
  exact (kept_filterWrite (tr (by decide) hT) _ _ h1)

theorem kept_tblDelete {T : Touch} {s0 : State} (hT : Touch.le ⟨137216,
    0x680000000000000000000000000000000000000000000, 0x500000000000000000000000000000000202000000000000⟩ T) : ∀ a0 a1
    a2, Kept T s0 a2 →
    EndKept T s0 (tblDelete a0 a1 a2) := by
  intro a0 a1 a2 h2
  unfold tblDelete
  split
  · exact (end_kept h2)
  · extract_lets +onlyGivenNames -merge x3
    have hx3 : Kept T s0 x3 := (kept_slotParity (tr (by decide) hT) _ _ h2)
    clear_value x3
    split
    · exact (end_kept hx3)
    · exact (end_kept (kept_State_count _ _ _ _ _ (kept_up131072 (land_le (by decide) hT.1) hx3) (hasC_of
        ixC_TBL_DELETE_CNT (by decide) hT)))

theorem kept_hostDelete {T : Touch} {s0 : State} (hT : Touch.le ⟨137216,
    0x680800000000000000000000000000000000000000000, 0x500004000000000000000000000000000602000000000000⟩ T) : ∀ a0
    a1, Kept T s0 a1 →
    Kept T s0 (hostDelete a0 a1) := by
  intro a0 a1 h1
  unfold hostDelete
  refine kept_tblOp (tr (by decide) hT) _ _ _ _ ?_ h1
  · intro y0 y1 hy1
    exact (kept_tblDelete (tr (by decide) hT) _ _ _ hy1)

theorem kept_execHostDelete {T : Touch} {s0 : State} (hT : Touch.le ⟨137216,
    0x680800000000000000000000000000000000000000000, 0x500004000000000000000000000000000602000000000000⟩ T) : ∀ a0
    a1, Kept T s0 a1 →
    ResKept T s0 (execHostDelete a0 a1) := by
  intro a0 a1 h1
  unfold execHostDelete
  refine next_kept ?_
  exact (kept_hostDelete (tr (by decide) hT) _ _ h1)

theorem kept_tblInsert {T : Touch} {s0 : State} (hT : Touch.le ⟨137216,
    0x680000000000000000000000000000000000000000000, 0x500000000000000000000000000000000902000000000000⟩ T) : ∀ a0 a1
    a2, Kept T s0 a2 →
    EndKept T s0 (tblInsert a0 a1 a2) := by
  intro a0 a1 a2 h2
  unfold tblInsert
  split
  · exact (end_kept h2)
  · extract_lets +onlyGivenNames -merge x3
    extract_lets +onlyGivenNames -merge x4
    extract_lets +onlyGivenNames -merge x5
    have hx5 : Kept T s0 x5 := (kept_slotParity (tr (by decide) hT) _ _ h2)
    clear_value x5
    split
    · exact (end_kept hx5)
    · extract_lets +onlyGivenNames -merge x11
      extract_lets +onlyGivenNames -merge x12
      have hx12 : Kept T s0 x12 := (kept_up131072 (land_le (by decide) hT.1) hx5)
      clear_value x12
      exact (end_kept (kept_State_count _ _ _ _ _ (kept_State_count _ _ _ _ _ hx12 (hasC_of ixC_TBL_INSERT_CNT (by
          decide) hT)) (hasC_of ixC_TBL_MOVE_CNT (by decide) hT)))

theorem kept_hostInsert {T : Touch} {s0 : State} (hT : Touch.le ⟨137216,
    0x680800000000000000000000000000000000000000000, 0x500004000000000000000000000000000d02000000000000⟩ T) : ∀ a0
    a1, Kept T s0 a1 →
    Kept T s0 (hostInsert a0 a1) := by
  intro a0 a1 h1
  unfold hostInsert
  refine kept_tblOp (tr (by decide) hT) _ _ _ _ ?_ h1
  · intro y0 y1 hy1
    exact (kept_tblInsert (tr (by decide) hT) _ _ _ hy1)

theorem kept_execHostInsert {T : Touch} {s0 : State} (hT : Touch.le ⟨137216,
    0x680800000000000000000000000000000000000000000, 0x500004000000000000000000000000000d02000000000000⟩ T) : ∀ a0
    a1, Kept T s0 a1 →
    ResKept T s0 (execHostInsert a0 a1) := by
  intro a0 a1 h1
  unfold execHostInsert
  refine next_kept ?_
  exact (kept_hostInsert (tr (by decide) hT) _ _ h1)

theorem kept_lagWrite {T : Touch} {s0 : State} (hT : Touch.le ⟨133120, 0x800000000000000000000000000000000000000000,
    0x4000000000000000000000000000400000000000000⟩ T) : ∀ a0 a1, Kept T s0 a1 →
    Kept T s0 (lagWrite a0 a1) := by
  intro a0 a1 h1
  unfold lagWrite
  refine kept_tblOp (tr (by decide) hT) _ _ _ _ ?_ h1
  · intro y0 y1 hy1
    refine kept_argOk (tr (by decide) hT) _ _ _ ?_ hy1
    · intro y2 hy2
      exact (end_kept (kept_up131072 (land_le (by decide) hT.1) hy2))

theorem kept_execLagWrite {T : Touch} {s0 : State} (hT : Touch.le ⟨133120,
    0x800000000000000000000000000000000000000000, 0x4000000000000000000000000000400000000000000⟩ T) : ∀ a0 a1, Kept T
    s0 a1 →
    ResKept T s0 (execLagWrite a0 a1) := by
  intro a0 a1 h1
  unfold execLagWrite
  refine next_kept ?_
  exact (kept_lagWrite (tr (by decide) hT) _ _ h1)

theorem kept_freeCand {T : Touch} {s0 : State} (hT : Touch.le ⟨131072, 0x0, 0x0⟩ T) : ∀ a0 a1, Kept T s0 a1 →
    Kept T s0 (freeCand a0 a1) := by
  intro a0 a1 h1
  unfold freeCand
  extract_lets +onlyGivenNames -merge x0
  extract_lets +onlyGivenNames -merge x1
  exact (kept_up131072 (land_le (by decide) hT.1) h1)

theorem kept_learnAck {T : Touch} {s0 : State} (hT : Touch.le ⟨133120, 0x800000000000000000000000000000000000000000,
    0x4000000000000000000000000000400000000000000⟩ T) : ∀ a0 a1, Kept T s0 a1 →
    Kept T s0 (learnAck a0 a1) := by
  intro a0 a1 h1
  unfold learnAck
  refine kept_tblOp (tr (by decide) hT) _ _ _ _ ?_ h1
  · intro y0 y1 hy1
    exact (end_kept (kept_freeCand (tr (by decide) hT) _ _ hy1))

theorem kept_execLearnAck {T : Touch} {s0 : State} (hT : Touch.le ⟨133120,
    0x800000000000000000000000000000000000000000, 0x4000000000000000000000000000400000000000000⟩ T) : ∀ a0 a1, Kept T
    s0 a1 →
    ResKept T s0 (execLearnAck a0 a1) := by
  intro a0 a1 h1
  unfold execLearnAck
  refine next_kept ?_
  exact (kept_learnAck (tr (by decide) hT) _ _ h1)

theorem kept_lpmDelete {T : Touch} {s0 : State} (hT : Touch.le ⟨137216,
    0x680800000000000000000000000000000000000000000, 0x500004000000000000000000000000000602000000000000⟩ T) : ∀ a0
    a1, Kept T s0 a1 →
    Kept T s0 (lpmDelete a0 a1) := by
  intro a0 a1 h1
  unfold lpmDelete
  refine kept_tblOp (tr (by decide) hT) _ _ _ _ ?_ h1
  · intro y0 y1 hy1
    refine kept_argOk (tr (by decide) hT) _ _ _ ?_ hy1
    · intro y2 hy2
      exact (kept_tblDelete (tr (by decide) hT) _ _ _ hy2)

theorem kept_execLpmDelete {T : Touch} {s0 : State} (hT : Touch.le ⟨137216,
    0x680800000000000000000000000000000000000000000, 0x500004000000000000000000000000000602000000000000⟩ T) : ∀ a0
    a1, Kept T s0 a1 →
    ResKept T s0 (execLpmDelete a0 a1) := by
  intro a0 a1 h1
  unfold execLpmDelete
  refine next_kept ?_
  exact (kept_lpmDelete (tr (by decide) hT) _ _ h1)

theorem kept_lpmInsert {T : Touch} {s0 : State} (hT : Touch.le ⟨137216,
    0x680800000000000000000000000000000000000000000, 0x500004000000000000000000000000000d02000000000000⟩ T) : ∀ a0
    a1, Kept T s0 a1 →
    Kept T s0 (lpmInsert a0 a1) := by
  intro a0 a1 h1
  unfold lpmInsert
  refine kept_tblOp (tr (by decide) hT) _ _ _ _ ?_ h1
  · intro y0 y1 hy1
    refine kept_argOk (tr (by decide) hT) _ _ _ ?_ hy1
    · intro y2 hy2
      exact (kept_tblInsert (tr (by decide) hT) _ _ _ hy2)

theorem kept_execLpmInsert {T : Touch} {s0 : State} (hT : Touch.le ⟨137216,
    0x680800000000000000000000000000000000000000000, 0x500004000000000000000000000000000d02000000000000⟩ T) : ∀ a0
    a1, Kept T s0 a1 →
    ResKept T s0 (execLpmInsert a0 a1) := by
  intro a0 a1 h1
  unfold execLpmInsert
  refine next_kept ?_
  exact (kept_lpmInsert (tr (by decide) hT) _ _ h1)

theorem kept_freeing {T : Touch} {s0 : State} (hT : Touch.le ⟨131072, 0x0, 0x0⟩ T) : ∀ a0 a1, EndKept T s0 a1 →
    EndKept T s0 (freeing a0 a1) := by
  intro a0 a1 h1
  unfold freeing
  exact (end_kept (kept_freeCand (tr (by decide) hT) _ _ (of_endk h1)))

theorem kept_macDelete {T : Touch} {s0 : State} (hT : Touch.le ⟨137216,
    0x680800000000000000000000000000000000000000000, 0x500004000000000000000000000000000602000000000000⟩ T) : ∀ a0
    a1, Kept T s0 a1 →
    Kept T s0 (macDelete a0 a1) := by
  intro a0 a1 h1
  unfold macDelete
  refine kept_tblOp (tr (by decide) hT) _ _ _ _ ?_ h1
  · intro y0 y1 hy1
    exact (kept_freeing (tr (by decide) hT) _ _ (kept_tblDelete (tr (by decide) hT) _ _ _ hy1))

theorem kept_execMacDelete {T : Touch} {s0 : State} (hT : Touch.le ⟨137216,
    0x680800000000000000000000000000000000000000000, 0x500004000000000000000000000000000602000000000000⟩ T) : ∀ a0
    a1, Kept T s0 a1 →
    ResKept T s0 (execMacDelete a0 a1) := by
  intro a0 a1 h1
  unfold execMacDelete
  refine next_kept ?_
  exact (kept_macDelete (tr (by decide) hT) _ _ h1)

theorem kept_macInsert {T : Touch} {s0 : State} (hT : Touch.le ⟨137216,
    0x680800000000000000000000000000000000000000000, 0x500004000000000000000000000000000d02000000000000⟩ T) : ∀ a0
    a1, Kept T s0 a1 →
    Kept T s0 (macInsert a0 a1) := by
  intro a0 a1 h1
  unfold macInsert
  refine kept_tblOp (tr (by decide) hT) _ _ _ _ ?_ h1
  · intro y0 y1 hy1
    exact (kept_freeing (tr (by decide) hT) _ _ (kept_tblInsert (tr (by decide) hT) _ _ _ hy1))

theorem kept_execMacInsert {T : Touch} {s0 : State} (hT : Touch.le ⟨137216,
    0x680800000000000000000000000000000000000000000, 0x500004000000000000000000000000000d02000000000000⟩ T) : ∀ a0
    a1, Kept T s0 a1 →
    ResKept T s0 (execMacInsert a0 a1) := by
  intro a0 a1 h1
  unfold execMacInsert
  refine next_kept ?_
  exact (kept_macInsert (tr (by decide) hT) _ _ h1)

theorem kept_memberWrite {T : Touch} {s0 : State} (hT : Touch.le ⟨133120,
    0x800000000000000000000000000000000000000000, 0x4000000000000000000000000000400000000000000⟩ T) : ∀ a0 a1, Kept T
    s0 a1 →
    Kept T s0 (memberWrite a0 a1) := by
  intro a0 a1 h1
  unfold memberWrite
  refine kept_tblOp (tr (by decide) hT) _ _ _ _ ?_ h1
  · intro y0 y1 hy1
    refine kept_argOk (tr (by decide) hT) _ _ _ ?_ hy1
    · intro y2 hy2
      exact (end_kept (kept_up131072 (land_le (by decide) hT.1) hy2))

theorem kept_execMemberWrite {T : Touch} {s0 : State} (hT : Touch.le ⟨133120,
    0x800000000000000000000000000000000000000000, 0x4000000000000000000000000000400000000000000⟩ T) : ∀ a0 a1, Kept T
    s0 a1 →
    ResKept T s0 (execMemberWrite a0 a1) := by
  intro a0 a1 h1
  unfold execMemberWrite
  refine next_kept ?_
  exact (kept_memberWrite (tr (by decide) hT) _ _ h1)

theorem kept_nhWrite {T : Touch} {s0 : State} (hT : Touch.le ⟨133120, 0x800000000000000000000000000000000000000000,
    0x4000000000000000000000000000400000000000000⟩ T) : ∀ a0 a1, Kept T s0 a1 →
    Kept T s0 (nhWrite a0 a1) := by
  intro a0 a1 h1
  unfold nhWrite
  refine kept_tblOp (tr (by decide) hT) _ _ _ _ ?_ h1
  · intro y0 y1 hy1
    refine kept_argOk (tr (by decide) hT) _ _ _ ?_ hy1
    · intro y2 hy2
      exact (end_kept (kept_up131072 (land_le (by decide) hT.1) hy2))

theorem kept_execNhWrite {T : Touch} {s0 : State} (hT : Touch.le ⟨133120,
    0x800000000000000000000000000000000000000000, 0x4000000000000000000000000000400000000000000⟩ T) : ∀ a0 a1, Kept T
    s0 a1 →
    ResKept T s0 (execNhWrite a0 a1) := by
  intro a0 a1 h1
  unfold execNhWrite
  refine next_kept ?_
  exact (kept_nhWrite (tr (by decide) hT) _ _ h1)

theorem kept_stageDiscard {T : Touch} {s0 : State} (hT : Touch.le ⟨0, 0x0, 0x20000000⟩ T) : ∀ a0 a1 a2, Kept T s0 a2 →
    Kept T s0 (stageDiscard a0 a1 a2) := by
  intro a0 a1 a2 h2
  unfold stageDiscard
  split
  · exact (kept_State_countIf (tr (by decide) hT) _ _ _ _ _ h2 (hasC_of ixC_PARSE_STAGE_DISCARD_CNT (by decide) hT))
  · exact h2

theorem kept_stagePart {T : Touch} {s0 : State} (hT : Touch.le ⟨32768, 0x0, 0x20000000⟩ T) : ∀ a0 a1 a2 a3, Kept T s0
    a3 →
    Kept T s0 (stagePart a0 a1 a2 a3) := by
  intro a0 a1 a2 a3 h3
  unfold stagePart
  extract_lets +onlyGivenNames -merge x0
  extract_lets +onlyGivenNames -merge x1
  have hx1 : Kept T s0 x1 := (kept_stageDiscard (tr (by decide) hT) _ _ _ h3)
  clear_value x1
  exact (kept_up32768 (land_le (by decide) hT.1) hx1)

theorem kept_ruleAction {T : Touch} {s0 : State} (hT : Touch.le ⟨34816, 0x800000000000000000000000000000000000000000,
    0x4000000000000000000000000000400000020000000⟩ T) : ∀ a0 a1, Kept T s0 a1 →
    Kept T s0 (ruleAction a0 a1) := by
  intro a0 a1 h1
  unfold ruleAction
  refine kept_tblOp (tr (by decide) hT) _ _ _ _ ?_ h1
  · intro y0 y1 hy1
    refine kept_argOk (tr (by decide) hT) _ _ _ ?_ hy1
    · intro y2 hy2
      exact (end_kept (kept_stagePart (tr (by decide) hT) _ _ _ _ hy2))

theorem kept_execRuleAction {T : Touch} {s0 : State} (hT : Touch.le ⟨34816,
    0x800000000000000000000000000000000000000000, 0x4000000000000000000000000000400000020000000⟩ T) : ∀ a0 a1, Kept T
    s0 a1 →
    ResKept T s0 (execRuleAction a0 a1) := by
  intro a0 a1 h1
  unfold execRuleAction
  refine next_kept ?_
  exact (kept_ruleAction (tr (by decide) hT) _ _ h1)

theorem kept_ruleKey {T : Touch} {s0 : State} (hT : Touch.le ⟨34816, 0x800000000000000000000000000000000000000000,
    0x4000000000000000000000000000400000020000000⟩ T) : ∀ a0 a1, Kept T s0 a1 →
    Kept T s0 (ruleKey a0 a1) := by
  intro a0 a1 h1
  unfold ruleKey
  refine kept_tblOp (tr (by decide) hT) _ _ _ _ ?_ h1
  · intro y0 y1 hy1
    refine kept_argOk (tr (by decide) hT) _ _ _ ?_ hy1
    · intro y2 hy2
      exact (end_kept (kept_stagePart (tr (by decide) hT) _ _ _ _ hy2))

theorem kept_execRuleKey {T : Touch} {s0 : State} (hT : Touch.le ⟨34816,
    0x800000000000000000000000000000000000000000, 0x4000000000000000000000000000400000020000000⟩ T) : ∀ a0 a1, Kept T
    s0 a1 →
    ResKept T s0 (execRuleKey a0 a1) := by
  intro a0 a1 h1
  unfold execRuleKey
  refine next_kept ?_
  exact (kept_ruleKey (tr (by decide) hT) _ _ h1)

theorem kept_ruleMask {T : Touch} {s0 : State} (hT : Touch.le ⟨34816, 0x800000000000000000000000000000000000000000,
    0x4000000000000000000000000000400000020000000⟩ T) : ∀ a0 a1, Kept T s0 a1 →
    Kept T s0 (ruleMask a0 a1) := by
  intro a0 a1 h1
  unfold ruleMask
  refine kept_tblOp (tr (by decide) hT) _ _ _ _ ?_ h1
  · intro y0 y1 hy1
    refine kept_argOk (tr (by decide) hT) _ _ _ ?_ hy1
    · intro y2 hy2
      exact (end_kept (kept_stagePart (tr (by decide) hT) _ _ _ _ hy2))

theorem kept_execRuleMask {T : Touch} {s0 : State} (hT : Touch.le ⟨34816,
    0x800000000000000000000000000000000000000000, 0x4000000000000000000000000000400000020000000⟩ T) : ∀ a0 a1, Kept T
    s0 a1 →
    ResKept T s0 (execRuleMask a0 a1) := by
  intro a0 a1 h1
  unfold execRuleMask
  refine next_kept ?_
  exact (kept_ruleMask (tr (by decide) hT) _ _ h1)

theorem kept_unstage {T : Touch} {s0 : State} (hT : Touch.le ⟨32768, 0x0, 0x0⟩ T) : ∀ a0 a1 a2, Kept T s0 a2 →
    Kept T s0 (unstage a0 a1 a2) := by
  intro a0 a1 a2 h2
  unfold unstage
  split
  · exact (ite_holds (P := (Kept T s0)) (kept_up32768 (land_le (by decide) hT.1) h2) h2)
  · exact h2

theorem kept_ruleWrite {T : Touch} {s0 : State} (hT : Touch.le ⟨32768, 0x0, 0x0⟩ T) : ∀ a0 a1 a2 a3, Kept T s0 a3 →
    Kept T s0 (ruleWrite a0 a1 a2 a3) := by
  intro a0 a1 a2 a3 h3
  unfold ruleWrite
  extract_lets +onlyGivenNames -merge x0
  extract_lets +onlyGivenNames -merge x1
  exact (kept_unstage (tr (by decide) hT) _ _ _ (kept_up32768 (land_le (by decide) hT.1) h3))

theorem kept_ruleValid {T : Touch} {s0 : State} (hT : Touch.le ⟨34816, 0x800000000000000000000000000000000000000000,
    0x4000000000000000000000000000400000000000000⟩ T) : ∀ a0 a1, Kept T s0 a1 →
    Kept T s0 (ruleValid a0 a1) := by
  intro a0 a1 h1
  unfold ruleValid
  refine kept_tblOp (tr (by decide) hT) _ _ _ _ ?_ h1
  · intro y0 y1 hy1
    refine kept_argOk (tr (by decide) hT) _ _ _ ?_ hy1
    · intro y2 hy2
      exact (end_kept (kept_ruleWrite (tr (by decide) hT) _ _ _ _ hy2))

theorem kept_execRuleValid {T : Touch} {s0 : State} (hT : Touch.le ⟨34816,
    0x800000000000000000000000000000000000000000, 0x4000000000000000000000000000400000000000000⟩ T) : ∀ a0 a1, Kept T
    s0 a1 →
    ResKept T s0 (execRuleValid a0 a1) := by
  intro a0 a1 h1
  unfold execRuleValid
  refine next_kept ?_
  exact (kept_ruleValid (tr (by decide) hT) _ _ h1)

theorem kept_templateWrite {T : Touch} {s0 : State} (hT : Touch.le ⟨34816,
    0x800000000000000000000000000000000000000000, 0x4000000000000000000000000000400000000000000⟩ T) : ∀ a0 a1, Kept T
    s0 a1 →
    Kept T s0 (templateWrite a0 a1) := by
  intro a0 a1 h1
  unfold templateWrite
  refine kept_tblOp (tr (by decide) hT) _ _ _ _ ?_ h1
  · intro y0 y1 hy1
    refine kept_argOk (tr (by decide) hT) _ _ _ ?_ hy1
    · intro y2 hy2
      exact (end_kept (kept_up32768 (land_le (by decide) hT.1) hy2))

theorem kept_execTemplateWrite {T : Touch} {s0 : State} (hT : Touch.le ⟨34816,
    0x800000000000000000000000000000000000000000, 0x4000000000000000000000000000400000000000000⟩ T) : ∀ a0 a1, Kept T
    s0 a1 →
    ResKept T s0 (execTemplateWrite a0 a1) := by
  intro a0 a1 h1
  unfold execTemplateWrite
  refine next_kept ?_
  exact (kept_templateWrite (tr (by decide) hT) _ _ h1)

/-! ### Machine/Learn.lean -/

theorem kept_ageEntry {T : Touch} {s0 : State} (hT : Touch.le ⟨139008,
    0x4680801600000000000000000000000000000000000000, 0x436500004000000000000000000000000000060000000000000⟩ T) : ∀
    a0 a1 a2, Kept T s0 a2 →
    Snd (Kept T s0) (ageEntry a0 a1 a2) := by
  intro a0 a1 a2 h2
  unfold ageEntry
  refine ite_holds (P := (Snd (Kept T s0))) ?_ ?_
  · refine snd_holds (P := (Kept T s0)) ?_
    exact (kept_setEnt (tr (by decide) hT) _ _ _ h2)
  · extract_lets +onlyGivenNames -merge x0
    extract_lets +onlyGivenNames -merge x1
    refine ite_holds (P := (Snd (Kept T s0))) ?_ ?_
    · refine ite_holds (P := (Snd (Kept T s0))) ?_ ?_
      · refine snd_holds (P := (Kept T s0)) ?_
        exact h2
      · split
        · rename_i v2 heq3
          have hv2 : Kept T s0 v2 := holds_eq (P := (Snd (Kept T s0))) heq3 (by
              exact (kept_noteWait (tr (by decide) hT) _ _ h2))
          refine snd_holds (P := (Kept T s0)) ?_
          exact hv2
        · rename_i v4 heq5
          have hv4 : Kept T s0 v4 := holds_eq (P := (Snd (Kept T s0))) heq5 (by
              exact (kept_noteWait (tr (by decide) hT) _ _ h2))
          refine snd_holds (P := (Kept T s0)) ?_
          exact (kept_State_count _ _ _ _ _ (kept_setEnt (tr (by decide) hT) _ _ _ hv4) (hasC_of
              ixC_TBL_AGE_NOTICE_CNT (by decide) hT))
    · split
      · rename_i v6 heq7
        have hv6 : Kept T s0 v6 := holds_eq (P := (Snd (Kept T s0))) heq7 (by
            exact (kept_noteWait (tr (by decide) hT) _ _ h2))
        refine snd_holds (P := (Kept T s0)) ?_
        exact hv6
      · rename_i v8 heq9
        have hv8 : Kept T s0 v8 := holds_eq (P := (Snd (Kept T s0))) heq9 (by
            exact (kept_noteWait (tr (by decide) hT) _ _ h2))
        refine snd_holds (P := (Kept T s0)) ?_
        exact (kept_State_count _ _ _ _ _ (kept_up131072 (land_le (by decide) hT.1) hv8) (hasC_of
            ixC_TBL_AGE_REMOVE_CNT (by decide) hT))

theorem kept_stallCount {T : Touch} {s0 : State} (hT : Touch.le ⟨131072, 0x0, 0x80000000000000⟩ T) : ∀ a0, Kept T s0
    a0 →
    Kept T s0 (stallCount a0) := by
  intro a0 h0
  unfold stallCount
  split
  · exact h0
  · exact (ite_holds (P := (Kept T s0)) (kept_up131072 (land_le (by decide) hT.1) h0) (kept_State_count _ _ _ _ _
      (kept_up131072 (land_le (by decide) hT.1) h0) (hasC_of ixC_TBL_AGE_STALL_CNT (by decide) hT)))

theorem kept_sweepOn {T : Touch} {s0 : State} (hT : Touch.le ⟨131072, 0x200000000, 0x0⟩ T) : ∀ a0 a1, Kept T s0 a1 →
    Kept T s0 (sweepOn a0 a1) := by
  intro a0 a1 h1
  unfold sweepOn
  extract_lets +onlyGivenNames -merge x0
  extract_lets +onlyGivenNames -merge x1
  have hx1 : Kept T s0 x1 := (kept_up131072 (land_le (by decide) hT.1) h1)
  clear_value x1
  split
  · exact (kept_State_setFld (tr (by decide) hT) _ _ _ _ _ (kept_State_setFld (tr (by decide) hT) _ _ _ _ _ hx1
      (hasR_of ixR_TBL_AGE_STATUS (by decide) hT)) (hasR_of ixR_TBL_AGE_STATUS (by decide) hT))
  · exact (kept_State_setFld (tr (by decide) hT) _ _ _ _ _ (kept_State_setFld (tr (by decide) hT) _ _ _ _ _ hx1
      (hasR_of ixR_TBL_AGE_STATUS (by decide) hT)) (hasR_of ixR_TBL_AGE_STATUS (by decide) hT))

theorem kept_ageSweepVisit {T : Touch} {s0 : State} (hT : Touch.le ⟨139008,
    0x4680801600000000000000000000000000000200000000, 0x4365000040000000000000000000000000000e2000000000000⟩ T) : ∀
    a0, Kept T s0 a0 →
    Kept T s0 (ageSweepVisit a0) := by
  intro a0 h0
  unfold ageSweepVisit
  refine ite_holds (P := (Kept T s0)) ?_ ?_
  · exact (kept_State_setFld (tr (by decide) hT) _ _ _ _ _ (kept_State_setFld (tr (by decide) hT) _ _ _ _ _
      (kept_stallCount (tr (by decide) hT) _ h0) (hasR_of ixR_TBL_AGE_STATUS (by decide) hT)) (hasR_of
      ixR_TBL_AGE_STATUS (by decide) hT))
  · extract_lets +onlyGivenNames -merge x0
    split
    · exact (kept_sweepOn (tr (by decide) hT) _ _ h0)
    · extract_lets +onlyGivenNames -merge x4
      have hx4 : Kept T s0 x4 := (kept_slotParity (tr (by decide) hT) _ _ (kept_stallCount (tr (by decide) hT) _ h0))
      clear_value x4
      split
      · refine ite_holds (P := (Kept T s0)) ?_ ?_
        · split
          · rename_i v7 heq8
            have hv7 : Kept T s0 v7 := holds_eq (P := (Snd (Kept T s0))) heq8 (by
                exact (kept_ageEntry (tr (by decide) hT) _ _ _ hx4))
            exact (kept_sweepOn (tr (by decide) hT) _ _ hv7)
          · rename_i v9 heq10
            have hv9 : Kept T s0 v9 := holds_eq (P := (Snd (Kept T s0))) heq10 (by
                exact (kept_ageEntry (tr (by decide) hT) _ _ _ hx4))
            extract_lets +onlyGivenNames -merge x11
            have hx11 : Kept T s0 x11 := (kept_State_setFld (tr (by decide) hT) _ _ _ _ _ (kept_State_setFld (tr (by
                decide) hT) _ _ _ _ _ hv9 (hasR_of ixR_TBL_AGE_STATUS (by decide) hT)) (hasR_of ixR_TBL_AGE_STATUS
                (by decide) hT))
            clear_value x11
            exact (ite_holds (P := (Kept T s0)) (kept_up131072 (land_le (by decide) hT.1) hx11) hx11)
        · exact (kept_sweepOn (tr (by decide) hT) _ _ hx4)
      · exact (kept_sweepOn (tr (by decide) hT) _ _ hx4)

theorem kept_clearCtrl {T : Touch} {s0 : State} (hT : Touch.le ⟨131584,
    0x600000000000000000000000000000000000000000000800000000, 0x800000000000000000000000000000000000000000000000⟩ T)
    : ∀ a0 a1, Kept T s0 a1 →
    Kept T s0 (clearCtrl a0 a1) := by
  intro a0 a1 h1
  unfold clearCtrl
  extract_lets +onlyGivenNames -merge x0
  have hx0 : Kept T s0 x0 := (ite_holds (P := (Kept T s0)) (kept_State_setFld (tr (by decide) hT) _ _ _ _ _ h1
      (hasR_of ixR_TBL_CLEAR_CTRL (by decide) hT)) h1)
  clear_value x0
  exact (ite_holds (P := (Kept T s0)) (ite_holds (P := (Kept T s0)) (kept_logWrite (tr (by decide) hT) _ _ _ hx0)
      (ite_holds (P := (Kept T s0)) (kept_State_setFld (tr (by decide) hT) _ _ _ _ _ hx0 (hasR_of ixR_TBL_CLEAR_CTRL
      (by decide) hT)) (kept_State_setFld (tr (by decide) hT) _ _ _ _ _ (kept_up131072 (land_le (by decide) hT.1)
      hx0) (hasR_of ixR_TBL_CLEAR_CTRL (by decide) hT)))) hx0)

theorem kept_clearDone {T : Touch} {s0 : State} (hT : Touch.le ⟨131072, 0x800000000, 0x0⟩ T) : ∀ a0, Kept T s0 a0 →
    Kept T s0 (clearDone a0) := by
  intro a0 h0
  unfold clearDone
  split
  · exact h0
  · extract_lets +onlyGivenNames -merge x4
    subst x4
    beta_reduce
    exact (kept_State_setFld (tr (by decide) hT) _ _ _ _ _ (kept_up131072 (land_le (by decide) hT.1) h0) (hasR_of
        ixR_TBL_CLEAR_CTRL (by decide) hT))

theorem kept_execAgeSweepVisit {T : Touch} {s0 : State} (hT : Touch.le ⟨139008,
    0x4680801600000000000000000000000000000200000000, 0x4365000040000000000000000000000000000e2000000000000⟩ T) : ∀
    a0, Kept T s0 a0 →
    ResKept T s0 (execAgeSweepVisit a0) := by
  intro a0 h0
  unfold execAgeSweepVisit
  refine next_kept ?_
  exact (kept_ageSweepVisit (tr (by decide) hT) _ h0)

theorem kept_learnHoldExpiry {T : Touch} {s0 : State} (hT : Touch.le ⟨131072, 0x0, 0x10000000000000⟩ T) : ∀ a0, Kept
    T s0 a0 →
    Kept T s0 (learnHoldExpiry a0) := by
  intro a0 h0
  unfold learnHoldExpiry
  extract_lets +onlyGivenNames -merge x0
  exact (kept_State_count _ _ _ _ _ (kept_up131072 (land_le (by decide) hT.1) h0) (hasC_of ixC_TBL_LEARN_EXPIRE_CNT
      (by decide) hT))

theorem kept_execLearnHoldExpiry {T : Touch} {s0 : State} (hT : Touch.le ⟨131072, 0x0, 0x10000000000000⟩ T) : ∀ a0,
    Kept T s0 a0 →
    ResKept T s0 (execLearnHoldExpiry a0) := by
  intro a0 h0
  unfold execLearnHoldExpiry
  refine next_kept ?_
  exact (kept_learnHoldExpiry (tr (by decide) hT) _ h0)

theorem kept_learnNotify {T : Touch} {s0 : State} (hT : Touch.le ⟨139008,
    0x4680801600000000000000000000000000000000000000, 0x436500004000000000000000000000000000008000000000000⟩ T) : ∀
    a0, Kept T s0 a0 →
    Kept T s0 (learnNotify a0) := by
  intro a0 h0
  unfold learnNotify
  refine ite_holds (P := (Kept T s0)) ?_ ?_
  · exact h0
  · split
    · exact h0
    · split
      · rename_i v3 heq4
        have hv3 : Kept T s0 v3 := holds_eq (P := (Snd (Kept T s0))) heq4 (by
            exact (kept_noteWait (tr (by decide) hT) _ _ h0))
        exact hv3
      · rename_i v5 heq6
        have hv5 : Kept T s0 v5 := holds_eq (P := (Snd (Kept T s0))) heq6 (by
            exact (kept_noteWait (tr (by decide) hT) _ _ h0))
        extract_lets +onlyGivenNames -merge x7
        extract_lets +onlyGivenNames -merge x8
        exact (kept_State_count _ _ _ _ _ (kept_up131072 (land_le (by decide) hT.1) hv5) (hasC_of
            ixC_TBL_LEARN_NOTIFY_CNT (by decide) hT))

theorem kept_execLearnNotify {T : Touch} {s0 : State} (hT : Touch.le ⟨139008,
    0x4680801600000000000000000000000000000000000000, 0x436500004000000000000000000000000000008000000000000⟩ T) : ∀
    a0, Kept T s0 a0 →
    ResKept T s0 (execLearnNotify a0) := by
  intro a0 h0
  unfold execLearnNotify
  refine next_kept ?_
  exact (kept_learnNotify (tr (by decide) hT) _ h0)

theorem kept_execTblClearDone {T : Touch} {s0 : State} (hT : Touch.le ⟨131072, 0x800000000, 0x0⟩ T) : ∀ a0, Kept T s0
    a0 →
    ResKept T s0 (execTblClearDone a0) := by
  intro a0 h0
  unfold execTblClearDone
  refine next_kept ?_
  exact (kept_clearDone (tr (by decide) hT) _ h0)

theorem kept_execTblClearStart {T : Touch} {s0 : State} (hT : Touch.le ⟨132608,
    0x600000000000000000000000000000000000000000000800000000, 0x800000000000000000000000000000000000000000000000⟩ T)
    : ∀ a0 a1, Kept T s0 a1 →
    ResKept T s0 (execTblClearStart a0 a1) := by
  intro a0 a1 h1
  unfold execTblClearStart
  extract_lets +onlyGivenNames -merge x0
  refine next_kept ?_
  refine kept_far (tr (by decide) hT) _ _ _ ?_ h1
  · intro y1 hy1
    exact (kept_clearCtrl (tr (by decide) hT) _ _ hy1)

end Sys2Proof.Machine
end

