-- ==== Sys2Proof/Laws/KeptSky.lean ====
section
/-!
SUPPORT. What the operations of these files of Machine leave alone: SkyPair, SkyMap, SkyTime, SkyState, SkyTx, SkyRx.
-/
namespace Sys2Proof.Machine

/-! ### Machine/SkyPair.lean -/

theorem kept_addCredit {T : Touch} {s0 : State} (hT : Touch.le ⟨0, 0x2000000000000000000000000000000, 0x0⟩ T) : ∀ a0
    a1 a2, Kept T s0 a2 →
    Kept T s0 (addCredit a0 a1 a2) := by
  intro a0 a1 a2 h2
  unfold addCredit
  exact (kept_regAdd (tr (by decide) hT) _ _ _ _ (hasR_of ixR_SKY_CREDIT_HELD (by decide) hT) h2)

theorem kept_streamDrop {T : Touch} {s0 : State} (hT : Touch.le ⟨4096, 0x0, 0x0⟩ T) : ∀ a0 a1 a2 a3, T.hasC a0 → Kept
    T s0 a3 →
    Kept T s0 (streamDrop a0 a1 a2 a3) := by
  intro a0 a1 a2 a3 h0 h3
  unfold streamDrop
  exact (kept_State_led (tr (by decide) hT) _ _ _ _ (kept_State_led (tr (by decide) hT) _ _ _ _ (kept_State_count _ _
      _ _ _ h3 h0)))

theorem kept_setSlane {T : Touch} {s0 : State} (hT : Touch.le ⟨4194304, 0x0, 0x0⟩ T) : ∀ a0 a1 a2, Kept T s0 a2 →
    Kept T s0 (setSlane a0 a1 a2) := by
  intro a0 a1 a2 h2
  unfold setSlane
  exact (kept_up4194304 (land_le (by decide) hT.1) h2)

theorem kept_moveQueue {T : Touch} {s0 : State} (hT : Touch.le ⟨2883584, 0x2000000000000000000000,
    0x8000000000000000000000000000000000000⟩ T) : ∀ a0 a1 a2, Kept T s0 a2 →
    Kept T s0 (moveQueue a0 a1 a2) := by
  intro a0 a1 a2 h2
  unfold moveQueue
  extract_lets +onlyGivenNames -merge x0
  extract_lets +onlyGivenNames -merge x1
  extract_lets +onlyGivenNames -merge x2
  refine ite_holds (P := (Kept T s0)) ?_ ?_
  · exact h2
  · extract_lets +onlyGivenNames -merge x3
    extract_lets +onlyGivenNames -merge x4
    extract_lets +onlyGivenNames -merge x5
    have hx5 : Kept T s0 x5 := (kept_setQueue (tr (by decide) hT) _ _ _ h2)
    clear_value x5
    extract_lets +onlyGivenNames -merge x6
    have hx6 : Kept T s0 x6 := (kept_State_count _ _ _ _ _ hx5 (hasC_of ixC_SKY_LANE_MOVE_CELL_CNT (by decide) hT))
    clear_value x6
    exact (kept_feedPut (tr (by decide) hT) _ _ _ hx6)

theorem kept_moveLanes {T : Touch} {s0 : State} (hT : Touch.le ⟨2883584, 0x2000000000000000000000,
    0x8000000000000000000000000000000000000⟩ T) : ∀ a0 a1, Kept T s0 a1 →
    Kept T s0 (moveLanes a0 a1) := by
  intro a0 a1 h1
  unfold moveLanes
  refine foldl_holds (P := (Kept T s0)) (fun b1 a2 hb1 => ?_) ?_
  · split
    · exact (kept_moveQueue (tr (by decide) hT) _ _ _ hb1)
    · exact hb1
  · exact h1

theorem kept_setPair {T : Touch} {s0 : State} (hT : Touch.le ⟨4194304, 0x0, 0x0⟩ T) : ∀ a0 a1 a2, Kept T s0 a2 →
    Kept T s0 (setPair a0 a1 a2) := by
  intro a0 a1 a2 h2
  unfold setPair
  exact (kept_up4194304 (land_le (by decide) hT.1) h2)

theorem kept_returnCell {T : Touch} {s0 : State} (hT : Touch.le ⟨6553600, 0x2000000002000000000000000000000, 0x0⟩ T)
    : ∀ a0 a1 a2, Kept T s0 a2 →
    Kept T s0 (returnCell a0 a1 a2) := by
  intro a0 a1 a2 h2
  unfold returnCell
  extract_lets +onlyGivenNames -merge x0
  extract_lets +onlyGivenNames -merge x1
  extract_lets +onlyGivenNames -merge x2
  have hx2 : Kept T s0 x2 := (kept_setQueue (tr (by decide) hT) _ _ _ h2)
  clear_value x2
  exact (ite_holds (P := (Kept T s0)) (kept_addCredit (tr (by decide) hT) _ _ _ (kept_setPair (tr (by decide) hT) _ _
      _ hx2)) hx2)

theorem kept_returnChosen {T : Touch} {s0 : State} (hT : Touch.le ⟨6553600, 0x2000000002000000000000000000000, 0x0⟩
    T) : ∀ a0 a1 a2, Kept T s0 a2 →
    Kept T s0 (returnChosen a0 a1 a2) := by
  intro a0 a1 a2 h2
  unfold returnChosen
  extract_lets +onlyGivenNames -merge x0
  extract_lets +onlyGivenNames -merge x1
  extract_lets +onlyGivenNames -merge x2
  extract_lets +onlyGivenNames -merge x3
  have hx3 : Kept T s0 x3 := (foldl_holds (P := (Kept T s0)) (fun _ _ hm4 => (kept_noteDepth (tr (by decide) hT) _ _
      hm4)) h2)
  clear_value x3
  exact (foldl_holds (P := (Kept T s0)) (fun _ _ hm5 => (kept_returnCell (tr (by decide) hT) _ _ _ hm5))
      (kept_setSlane (tr (by decide) hT) _ _ _ hx3))

theorem kept_lanesStopped {T : Touch} {s0 : State} (hT : Touch.le ⟨7077888, 0x2000000002000000000000000000000,
    0x8000000000000000000000000000000000000⟩ T) : ∀ a0, Kept T s0 a0 →
    Kept T s0 (lanesStopped a0) := by
  intro a0 h0
  unfold lanesStopped
  extract_lets +onlyGivenNames -merge x0
  have hx0 : Kept T s0 x0 := (foldl_holds (P := (Kept T s0)) (fun _ _ hm1 => (kept_setSlane (tr (by decide) hT) _ _ _
      (kept_returnChosen (tr (by decide) hT) _ _ _ hm1))) h0)
  clear_value x0
  exact (foldl_holds (P := (Kept T s0)) (fun _ _ hm2 => (kept_moveLanes (tr (by decide) hT) _ _ hm2)) hx0)

theorem kept_popHead {T : Touch} {s0 : State} (hT : Touch.le ⟨2359296, 0x2000000000000000000000, 0x0⟩ T) : ∀ a0 a1,
    Kept T s0 a1 →
    Kept T s0 (popHead a0 a1) := by
  intro a0 a1 h1
  unfold popHead
  extract_lets +onlyGivenNames -merge x0
  split
  · exact h1
  · extract_lets +onlyGivenNames -merge x5
    extract_lets +onlyGivenNames -merge x6
    exact (kept_setQueue (tr (by decide) hT) _ _ _ h1)

theorem kept_cutUnit {T : Touch} {s0 : State} (hT : Touch.le ⟨3414016, 0x4000000000000000180000000000000,
    0x24000000000000000000⟩ T) : ∀ a0 a1 a2 a3 a4, T.hasC a1 → Kept T s0 a4 →
    Snd (Kept T s0) (cutUnit a0 a1 a2 a3 a4) := by
  intro a0 a1 a2 a3 a4 h1 h4
  unfold cutUnit
  extract_lets +onlyGivenNames -merge x0
  extract_lets +onlyGivenNames -merge x1
  refine ite_holds (P := (Snd (Kept T s0))) ?_ ?_
  · refine snd_holds (P := (Kept T s0)) ?_
    exact h4
  · extract_lets +onlyGivenNames -merge x2
    have hx2 : Kept T s0 x2 := (foldl_holds (P := (Kept T s0)) (fun _ _ hm3 => (kept_skyGone (tr (by decide) hT) _ _
        (kept_State_count _ _ _ _ _ (ite_holds (P := (Kept T s0)) hm3 (kept_freeTile (tr (by decide) hT) _ _ _ hm3))
        h1))) h4)
    clear_value x2
    refine ite_holds (P := (Snd (Kept T s0))) ?_ ?_
    · refine snd_holds (P := (Kept T s0)) ?_
      split
      · exact (kept_freeTile (tr (by decide) hT) _ _ _ hx2)
      · exact hx2
    · refine snd_holds (P := (Kept T s0)) ?_
      exact hx2

theorem kept_cutQueue {T : Touch} {s0 : State} (hT : Touch.le ⟨3414016, 0x4000000002000000180000000000000,
    0x24000000000000000000⟩ T) : ∀ a0 a1 a2 a3, T.hasC a1 → Kept T s0 a3 →
    Kept T s0 (cutQueue a0 a1 a2 a3) := by
  intro a0 a1 a2 a3 h1 h3
  unfold cutQueue
  extract_lets +onlyGivenNames -merge x0
  refine ite_holds (P := (Kept T s0)) ?_ ?_
  · exact h3
  · split
    · rename_i v1 v2 heq3
      have hv2 : Kept T s0 v2 := holds_eq (P := (Snd (Kept T s0))) heq3 (by
          refine foldl_holds (P := (Snd (Kept T s0))) (fun b4 a5 hb4 => ?_) ?_
          · split
            · rename_i v6 v7 heq8
              have hv7 : Kept T s0 v7 := holds_eq (P := (Snd (Kept T s0))) heq8 (by
                  exact (kept_cutUnit (tr (by decide) hT) _ _ _ _ _ h1 (of_snd hb4)))
              refine snd_holds (P := (Kept T s0)) ?_
              exact hv7
            · rename_i v9 heq10
              have hv9 : Kept T s0 v9 := holds_eq (P := (Snd (Kept T s0))) heq10 (by
                  exact (kept_cutUnit (tr (by decide) hT) _ _ _ _ _ h1 (of_snd hb4)))
              refine snd_holds (P := (Kept T s0)) ?_
              exact hv9
          · refine snd_holds (P := (Kept T s0)) ?_
            exact h3)
      exact (kept_setQueue (tr (by decide) hT) _ _ _ hv2)

theorem kept_cutQueues {T : Touch} {s0 : State} (hT : Touch.le ⟨3414016, 0x4000000002000000180000000000000,
    0x24000000000000000000⟩ T) : ∀ a0 a1 a2 a3, T.hasC a1 → Kept T s0 a3 →
    Kept T s0 (cutQueues a0 a1 a2 a3) := by
  intro a0 a1 a2 a3 h1 h3
  unfold cutQueues
  exact (foldl_holds (P := (Kept T s0)) (fun _ _ hm0 => (kept_cutQueue (tr (by decide) hT) _ _ _ _ h1 hm0)) h3)

theorem kept_grant {T : Touch} {s0 : State} (hT : Touch.le ⟨4194304, 0x4000000000000000000000000000000, 0x0⟩ T) : ∀
    a0 a1 a2 a3, Kept T s0 a3 →
    Kept T s0 (grant a0 a1 a2 a3) := by
  intro a0 a1 a2 a3 h3
  unfold grant
  exact (ite_holds (P := (Kept T s0)) h3 (kept_regAdd (tr (by decide) hT) _ _ _ _ (hasR_of ixR_SKY_RELAY_OUT (by
      decide) hT) (kept_setPair (tr (by decide) hT) _ _ _ h3)))

theorem kept_laneEnWrite {T : Touch} {s0 : State} (hT : Touch.le ⟨7077888, 0x2000100002000000000000000000000,
    0x8000000000000000000000000000000000000⟩ T) : ∀ a0 a1 a2, Kept T s0 a2 →
    Kept T s0 (laneEnWrite a0 a1 a2) := by
  intro a0 a1 a2 h2
  unfold laneEnWrite
  exact (kept_lanesStopped (tr (by decide) hT) _ (kept_State_setReg _ _ _ _ _ h2 (hasR_of ixR_SKY_LANE_EN (by decide)
      hT)))

theorem kept_setReseq {T : Touch} {s0 : State} (hT : Touch.le ⟨4194304, 0x0, 0x0⟩ T) : ∀ a0 a1 a2 a3, Kept T s0 a3 →
    Kept T s0 (setReseq a0 a1 a2 a3) := by
  intro a0 a1 a2 a3 h3
  unfold setReseq
  exact (kept_up4194304 (land_le (by decide) hT.1) h3)

theorem kept_resetStream {T : Touch} {s0 : State} (hT : Touch.le ⟨7608320, 0x4000000000000000180000000000000,
    0x1080000000000000000024000000000000000000⟩ T) : ∀ a0 a1 a2, Kept T s0 a2 →
    Kept T s0 (resetStream a0 a1 a2) := by
  intro a0 a1 a2 h2
  unfold resetStream
  extract_lets +onlyGivenNames -merge x0
  extract_lets +onlyGivenNames -merge x1
  extract_lets +onlyGivenNames -merge x2
  have hx2 : Kept T s0 x2 := (kept_State_count _ _ _ _ _ h2 (hasC_of ixC_SKY_PAIR_LOST_CNT (by decide) hT))
  clear_value x2
  extract_lets +onlyGivenNames -merge x3
  have hx3 : Kept T s0 x3 := (foldl_holds (P := (Kept T s0)) (fun _ _ hm4 => (kept_dropCell (tr (by decide) hT) _ _ _
      hm4)) hx2)
  clear_value x3
  extract_lets +onlyGivenNames -merge x5
  have hx5 : Kept T s0 x5 := (foldl_holds (P := (Kept T s0)) (fun _ _ hm6 => (kept_dropCell (tr (by decide) hT) _ _ _
      hm6)) hx3)
  clear_value x5
  extract_lets +onlyGivenNames -merge x7
  have hx7 : Kept T s0 x7 := (ite_holds (P := (Kept T s0)) hx5 (kept_streamDrop (tr (by decide) hT) _ _ _ _ (hasC_of
      ixC_SKY_PAIR_FRAME_DISCARD_CNT (by decide) hT) hx5))
  clear_value x7
  exact (kept_setReseq (tr (by decide) hT) _ _ _ _ hx7)

theorem kept_resetStreams {T : Touch} {s0 : State} (hT : Touch.le ⟨7608320, 0x4000000000000000180000000000000,
    0x1080000000000000000024000000000000000000⟩ T) : ∀ a0 a1, Kept T s0 a1 →
    Kept T s0 (resetStreams a0 a1) := by
  intro a0 a1 h1
  unfold resetStreams
  exact (foldl_holds (P := (Kept T s0)) (fun _ _ hm0 => (kept_resetStream (tr (by decide) hT) _ _ _ hm0)) h1)

theorem kept_returnAll {T : Touch} {s0 : State} (hT : Touch.le ⟨6553600, 0x2000000002000000000000000000000, 0x0⟩ T) :
    ∀ a0 a1, Kept T s0 a1 →
    Kept T s0 (returnAll a0 a1) := by
  intro a0 a1 h1
  unfold returnAll
  exact (foldl_holds (P := (Kept T s0)) (fun _ _ hm0 => (kept_returnChosen (tr (by decide) hT) _ _ _ hm0)) h1)

theorem kept_undue {T : Touch} {s0 : State} (hT : Touch.le ⟨524288, 0x0, 0x0⟩ T) : ∀ a0 a1, Kept T s0 a1 →
    Kept T s0 (undue a0 a1) := by
  intro a0 a1 h1
  unfold undue
  extract_lets +onlyGivenNames -merge x0
  subst x0
  extract_lets +onlyGivenNames -merge x1
  subst x1
  beta_reduce
  exact (kept_up524288 (land_le (by decide) hT.1) h1)

theorem kept_resetPair {T : Touch} {s0 : State} (hT : Touch.le ⟨8132608, 0x6000000002000000180000000000000,
    0x1084040000000000000024000000000000000000⟩ T) : ∀ a0 a1, Kept T s0 a1 →
    Kept T s0 (resetPair a0 a1) := by
  intro a0 a1 h1
  unfold resetPair
  extract_lets +onlyGivenNames -merge x0
  have hx0 : Kept T s0 x0 := (kept_returnAll (tr (by decide) hT) _ _ h1)
  clear_value x0
  extract_lets +onlyGivenNames -merge x1
  have hx1 : Kept T s0 x1 := (kept_returnAll (tr (by decide) hT) _ _ hx0)
  clear_value x1
  extract_lets +onlyGivenNames -merge x2
  have hx2 : Kept T s0 x2 := (kept_State_count _ _ _ _ _ hx1 (hasC_of ixC_SKY_CREDIT_FORFEIT_CNT (by decide) hT))
  clear_value x2
  extract_lets +onlyGivenNames -merge x3
  have hx3 : Kept T s0 x3 := (kept_cutQueues (tr (by decide) hT) _ _ _ _ (hasC_of ixC_SKY_PEER_LOSS_CELL_CNT (by
      decide) hT) hx2)
  clear_value x3
  extract_lets +onlyGivenNames -merge x4
  have hx4 : Kept T s0 x4 := (kept_cutQueues (tr (by decide) hT) _ _ _ _ (hasC_of ixC_SKY_PEER_LOSS_CELL_CNT (by
      decide) hT) hx3)
  clear_value x4
  extract_lets +onlyGivenNames -merge x5
  have hx5 : Kept T s0 x5 := (kept_State_setReg _ _ _ _ _ (kept_undue (tr (by decide) hT) _ _ hx4) (hasR_of
      ixR_SKY_CREDIT_HELD (by decide) hT))
  clear_value x5
  extract_lets +onlyGivenNames -merge x6
  have hx6 : Kept T s0 x6 := (kept_State_setReg _ _ _ _ _ hx5 (hasR_of ixR_SKY_RELAY_OUT (by decide) hT))
  clear_value x6
  extract_lets +onlyGivenNames -merge x7
  exact (kept_resetStreams (tr (by decide) hT) _ _ (kept_setPair (tr (by decide) hT) _ _ _ hx6))

theorem kept_execLaneEnWrite {T : Touch} {s0 : State} (hT : Touch.le ⟨7079424,
    0x600000000000000000000002000100002000000000000000000000, 0x800000000008000000000000000000000000000000000000⟩ T)
    : ∀ a0 a1 a2 a3, Kept T s0 a3 →
    ResKept T s0 (execLaneEnWrite a0 a1 a2 a3) := by
  intro a0 a1 a2 a3 h3
  unfold execLaneEnWrite
  extract_lets +onlyGivenNames -merge x0
  refine next_kept ?_
  refine kept_guarded (tr (by decide) hT) _ _ _ ?_ h3
  · intro y1 hy1
    refine kept_far (tr (by decide) hT) _ _ _ ?_ hy1
    · intro y2 hy2
      exact (kept_laneEnWrite (tr (by decide) hT) _ _ _ hy2)

theorem kept_putLaneBit {T : Touch} {s0 : State} (hT : Touch.le ⟨0, 0x0, 0x0⟩ T) : ∀ a0 a1 a2 a3, T.hasR a0 → Kept T
    s0 a3 →
    Kept T s0 (putLaneBit a0 a1 a2 a3) := by
  intro a0 a1 a2 a3 h0 h3
  unfold putLaneBit
  exact (kept_State_setReg _ _ _ _ _ h3 h0)

theorem kept_laneTxFault {T : Touch} {s0 : State} (hT : Touch.le ⟨7084032, 0x2800000002000000000000000000000,
    0x8080000000000000000000000000000000000⟩ T) : ∀ a0 a1, Kept T s0 a1 →
    Kept T s0 (laneTxFault a0 a1) := by
  intro a0 a1 h1
  unfold laneTxFault
  refine ite_holds (P := (Kept T s0)) ?_ ?_
  · extract_lets +onlyGivenNames -merge x0
    have hx0 : Kept T s0 x0 := (kept_State_count _ _ _ _ _ (kept_putLaneBit (tr (by decide) hT) _ _ _ _ (hasR_of
        ixR_SKY_LANE_FAULT (by decide) hT) h1) (hasC_of ixC_SKY_LANE_TXFAULT_CNT (by decide) hT))
    clear_value x0
    exact (kept_lanesStopped (tr (by decide) hT) _ (kept_fault (tr (by decide) hT) _ _ _ _ _ hx0))
  · exact h1

theorem kept_execLaneTxFault {T : Touch} {s0 : State} (hT : Touch.le ⟨7084032, 0x2800000002000000000000000000000,
    0x8080000000000000000000000000000000000⟩ T) : ∀ a0 a1, Kept T s0 a1 →
    ResKept T s0 (execLaneTxFault a0 a1) := by
  intro a0 a1 h1
  unfold execLaneTxFault
  refine next_kept ?_
  exact (kept_laneTxFault (tr (by decide) hT) _ _ h1)

theorem kept_peerGone {T : Touch} {s0 : State} (hT : Touch.le ⟨8132608, 0x6000400002000000180000000000000,
    0x1084040000000000000024000000000000000000⟩ T) : ∀ a0 a1, Kept T s0 a1 →
    Kept T s0 (peerGone a0 a1) := by
  intro a0 a1 h1
  unfold peerGone
  extract_lets +onlyGivenNames -merge x0
  have hx0 : Kept T s0 x0 := (kept_State_setFld (tr (by decide) hT) _ _ _ _ _ h1 (hasR_of ixR_SKY_PEER (by decide)
      hT))
  clear_value x0
  extract_lets +onlyGivenNames -merge x1
  have hx1 : Kept T s0 x1 := (kept_returnAll (tr (by decide) hT) _ _ hx0)
  clear_value x1
  extract_lets +onlyGivenNames -merge x2
  have hx2 : Kept T s0 x2 := (kept_cutQueues (tr (by decide) hT) _ _ _ _ (hasC_of ixC_SKY_PEER_LOSS_CELL_CNT (by
      decide) hT) hx1)
  clear_value x2
  exact (kept_resetPair (tr (by decide) hT) _ _ hx2)

theorem kept_peerTimeout {T : Touch} {s0 : State} (hT : Touch.le ⟨8132608, 0x6000400002000000180000000000000,
    0x1084040000000000000024000000000000000000⟩ T) : ∀ a0 a1, Kept T s0 a1 →
    Kept T s0 (peerTimeout a0 a1) := by
  intro a0 a1 h1
  unfold peerTimeout
  exact (ite_holds (P := (Kept T s0)) (kept_peerGone (tr (by decide) hT) _ _ h1) h1)

theorem kept_execPeerTimeout {T : Touch} {s0 : State} (hT : Touch.le ⟨8132608, 0x6000400002000000180000000000000,
    0x1084040000000000000024000000000000000000⟩ T) : ∀ a0 a1, Kept T s0 a1 →
    ResKept T s0 (execPeerTimeout a0 a1) := by
  intro a0 a1 h1
  unfold execPeerTimeout
  refine next_kept ?_
  exact (kept_peerTimeout (tr (by decide) hT) _ _ h1)

/-! ### Machine/SkyMap.lean -/

theorem kept_bankWrite {T : Touch} {s0 : State} (hT : Touch.le ⟨512,
    0x600000000000000000000000000800000000000000000000000000, 0x800000000000000000000000000000000000000000000000⟩ T)
    : ∀ a0 a1 a2 a3, Kept T s0 a3 →
    Kept T s0 (bankWrite a0 a1 a2 a3) := by
  intro a0 a1 a2 a3 h3
  unfold bankWrite
  exact (ite_holds (P := (Kept T s0)) h3 (ite_holds (P := (Kept T s0)) (kept_State_setReg _ _ _ _ _ h3 (hasR_of
      ixR_SKY_MAP_BANK (by decide) hT)) (kept_logWrite (tr (by decide) hT) _ _ _ h3)))

theorem kept_mapApply {T : Touch} {s0 : State} (hT : Touch.le ⟨4194304, 0x8000000000000000000000000,
    0x80000000000000000000000000⟩ T) : ∀ a0, Kept T s0 a0 →
    Kept T s0 (mapApply a0) := by
  intro a0 h0
  unfold mapApply
  refine ite_holds (P := (Kept T s0)) ?_ ?_
  · extract_lets +onlyGivenNames -merge x0
    have hx0 : Kept T s0 x0 := (kept_State_setFld (tr (by decide) hT) _ _ _ _ _ (kept_State_setFld (tr (by decide)
        hT) _ _ _ _ _ h0 (hasR_of ixR_SKY_MAP_STATUS (by decide) hT)) (hasR_of ixR_SKY_MAP_STATUS (by decide) hT))
    clear_value x0
    extract_lets +onlyGivenNames -merge x1
    have hx1 : Kept T s0 x1 := (kept_State_setFld (tr (by decide) hT) _ _ _ _ _ hx0 (hasR_of ixR_SKY_MAP_STATUS (by
        decide) hT))
    clear_value x1
    exact (kept_State_count _ _ _ _ _ (kept_up4194304 (land_le (by decide) hT.1) hx1) (hasC_of ixC_SKY_MAP_APPLY_CNT
        (by decide) hT))
  · exact h0

theorem kept_unarm {T : Touch} {s0 : State} (hT : Touch.le ⟨0, 0x8000000000000000000000000, 0x0⟩ T) : ∀ a0, Kept T s0
    a0 →
    Kept T s0 (unarm a0) := by
  intro a0 h0
  unfold unarm
  exact (kept_State_setFld (tr (by decide) hT) _ _ _ _ _ h0 (hasR_of ixR_SKY_MAP_STATUS (by decide) hT))

theorem kept_mapArm {T : Touch} {s0 : State} (hT : Touch.le ⟨4194816,
    0x600000000000000000000000000008000000000000000000000000, 0x800000000000000000000000000000000000000000000000⟩ T)
    : ∀ a0 a1, Kept T s0 a1 →
    Kept T s0 (mapArm a0 a1) := by
  intro a0 a1 h1
  unfold mapArm
  exact (ite_holds (P := (Kept T s0)) (kept_logWrite (tr (by decide) hT) _ _ _ h1) (kept_State_setFld (tr (by decide)
      hT) _ _ _ _ _ (kept_up4194304 (land_le (by decide) hT.1) h1) (hasR_of ixR_SKY_MAP_STATUS (by decide) hT)))

theorem kept_mapDisarm {T : Touch} {s0 : State} (hT : Touch.le ⟨4194304, 0x8000000000000000000000000,
    0x80000000000000000000000000⟩ T) : ∀ a0, Kept T s0 a0 →
    Kept T s0 (mapDisarm a0) := by
  intro a0 h0
  unfold mapDisarm
  extract_lets +onlyGivenNames -merge x0
  have hx0 : Kept T s0 x0 := (kept_mapApply (tr (by decide) hT) _ h0)
  clear_value x0
  exact (ite_holds (P := (Kept T s0)) (kept_unarm (tr (by decide) hT) _ hx0) (ite_holds (P := (Kept T s0))
      (kept_State_setFld (tr (by decide) hT) _ _ _ _ _ (kept_up4194304 (land_le (by decide) hT.1) hx0) (hasR_of
      ixR_SKY_MAP_STATUS (by decide) hT)) hx0))

theorem kept_mapCtrl {T : Touch} {s0 : State} (hT : Touch.le ⟨4194816,
    0x600000000000000000000000000008000000000000000000000000, 0x800000000000000000000080000000000000000000000000⟩ T)
    : ∀ a0 a1, Kept T s0 a1 →
    Kept T s0 (mapCtrl a0 a1) := by
  intro a0 a1 h1
  unfold mapCtrl
  extract_lets +onlyGivenNames -merge x0
  have hx0 : Kept T s0 x0 := (ite_holds (P := (Kept T s0)) (kept_mapDisarm (tr (by decide) hT) _ h1) h1)
  clear_value x0
  exact (ite_holds (P := (Kept T s0)) (kept_mapArm (tr (by decide) hT) _ _ hx0) hx0)

theorem kept_execMapApply {T : Touch} {s0 : State} (hT : Touch.le ⟨4194304, 0x8000000000000000000000000,
    0x80000000000000000000000000⟩ T) : ∀ a0, Kept T s0 a0 →
    ResKept T s0 (execMapApply a0) := by
  intro a0 h0
  unfold execMapApply
  refine next_kept ?_
  exact (kept_mapApply (tr (by decide) hT) _ h0)

theorem kept_execMapArm {T : Touch} {s0 : State} (hT : Touch.le ⟨4195840,
    0x600000000000000000000000000008000000000000000000000000, 0x800000000000000000000000000000000000000000000000⟩ T)
    : ∀ a0 a1, Kept T s0 a1 →
    ResKept T s0 (execMapArm a0 a1) := by
  intro a0 a1 h1
  unfold execMapArm
  extract_lets +onlyGivenNames -merge x0
  refine next_kept ?_
  refine kept_far (tr (by decide) hT) _ _ _ ?_ h1
  · intro y1 hy1
    exact (kept_mapArm (tr (by decide) hT) _ _ hy1)

theorem kept_mapArmDone {T : Touch} {s0 : State} (hT : Touch.le ⟨4194304, 0x18000000000000000000000000,
    0x100000000000000000000000000⟩ T) : ∀ a0, Kept T s0 a0 →
    Kept T s0 (mapArmDone a0) := by
  intro a0 h0
  unfold mapArmDone
  split
  · exact h0
  · split
    · extract_lets +onlyGivenNames -merge x9
      extract_lets +onlyGivenNames -merge x10
      have hx10 : Kept T s0 x10 := (kept_State_setFld (tr (by decide) hT) _ _ _ _ _ (kept_up4194304 (land_le (by
          decide) hT.1) h0) (hasR_of ixR_SKY_MAP_STATUS (by decide) hT))
      clear_value x10
      extract_lets +onlyGivenNames -merge x11
      have hx11 : Kept T s0 x11 := (kept_State_setFld (tr (by decide) hT) _ _ _ _ _ hx10 (hasR_of ixR_SKY_MAP_STATUS
          (by decide) hT))
      clear_value x11
      refine ite_holds (P := (Kept T s0)) ?_ ?_
      · extract_lets +onlyGivenNames -merge x12
        have hx12 : Kept T s0 x12 := (kept_State_setFld (tr (by decide) hT) _ _ _ _ _ (kept_State_setFld (tr (by
            decide) hT) _ _ _ _ _ hx11 (hasR_of ixR_SKY_MAP_STATUS (by decide) hT)) (hasR_of ixR_SKY_MAP_STATUS (by
            decide) hT))
        clear_value x12
        extract_lets +onlyGivenNames -merge x13
        have hx13 : Kept T s0 x13 := (kept_State_setFld (tr (by decide) hT) _ _ _ _ _ hx12 (hasR_of
            ixR_SKY_MAP_STATUS (by decide) hT))
        clear_value x13
        exact (kept_up4194304 (land_le (by decide) hT.1) hx13)
      · extract_lets +onlyGivenNames -merge x14
        have hx14 : Kept T s0 x14 := by
          subst x14
          split
          · exact (kept_State_setReg _ _ _ _ _ hx11 (hasR_of ixR_SKY_MAP_ERR_ADDR (by decide) hT))
          · exact hx11
        clear_value x14
        exact (kept_State_count _ _ _ _ _ hx14 (hasC_of ixC_SKY_MAP_ARM_REFUSE_CNT (by decide) hT))

theorem kept_execMapArmCheckDone {T : Touch} {s0 : State} (hT : Touch.le ⟨4194304, 0x18000000000000000000000000,
    0x100000000000000000000000000⟩ T) : ∀ a0, Kept T s0 a0 →
    ResKept T s0 (execMapArmCheckDone a0) := by
  intro a0 h0
  unfold execMapArmCheckDone
  refine next_kept ?_
  exact (kept_mapArmDone (tr (by decide) hT) _ h0)

theorem kept_execMapDisarm {T : Touch} {s0 : State} (hT : Touch.le ⟨4195328, 0x8000000000000000000000000,
    0x80000000000000000000000000⟩ T) : ∀ a0 a1, Kept T s0 a1 →
    ResKept T s0 (execMapDisarm a0 a1) := by
  intro a0 a1 h1
  unfold execMapDisarm
  refine next_kept ?_
  refine kept_far (tr (by decide) hT) _ _ _ ?_ h1
  · intro y0 hy0
    exact (kept_mapDisarm (tr (by decide) hT) _ hy0)

/-! ### Machine/SkyTime.lean -/

theorem kept_showDelay {T : Touch} {s0 : State} (hT : Touch.le ⟨0, 0x800000000000000000000000000000000000, 0x0⟩ T) :
    ∀ a0 a1, Kept T s0 a1 →
    Kept T s0 (showDelay a0 a1) := by
  intro a0 a1 h1
  unfold showDelay
  extract_lets +onlyGivenNames -merge x0
  exact (ite_holds (P := (Kept T s0)) (kept_State_setFld (tr (by decide) hT) _ _ _ _ _ h1 (hasR_of
      ixR_SKYT_LANE_DELAY (by decide) hT)) (kept_State_setReg _ _ _ _ _ h1 (hasR_of ixR_SKYT_LANE_DELAY (by decide)
      hT)))

theorem kept_countGood {T : Touch} {s0 : State} (hT : Touch.le ⟨65536, 0x0, 0x0⟩ T) : ∀ a0, Kept T s0 a0 →
    Kept T s0 (countGood a0) := by
  intro a0 h0
  unfold countGood
  exact (ite_holds (P := (Kept T s0)) (kept_up65536 (land_le (by decide) hT.1) h0) h0)

theorem kept_deskewAlarm {T : Touch} {s0 : State} (hT : Touch.le ⟨6144, 0x10000000000000000000000000000, 0x0⟩ T) : ∀
    a0 a1 a2, Kept T s0 a2 →
    Kept T s0 (deskewAlarm a0 a1 a2) := by
  intro a0 a1 a2 h2
  unfold deskewAlarm
  extract_lets +onlyGivenNames -merge x0
  extract_lets +onlyGivenNames -merge x1
  refine ite_holds (P := (Kept T s0)) ?_ ?_
  · exact h2
  · extract_lets +onlyGivenNames -merge x2
    have hx2 : Kept T s0 x2 := (kept_State_setFld (tr (by decide) hT) _ _ _ _ _ h2 (hasR_of ixR_SKY_LANE_ALARM (by
        decide) hT))
    clear_value x2
    exact (ite_holds (P := (Kept T s0)) (kept_fault (tr (by decide) hT) _ _ _ _ _ hx2) hx2)

theorem kept_deskewAlarms {T : Touch} {s0 : State} (hT : Touch.le ⟨6144, 0x10000000000000000000000000000, 0x0⟩ T) : ∀
    a0, Kept T s0 a0 →
    Kept T s0 (deskewAlarms a0) := by
  intro a0 h0
  unfold deskewAlarms
  extract_lets +onlyGivenNames -merge x0
  exact (foldl_holds (P := (Kept T s0)) (fun _ _ hm1 => (kept_deskewAlarm (tr (by decide) hT) _ _ _ hm1)) h0)

theorem kept_showLease {T : Touch} {s0 : State} (hT : Touch.le ⟨0, 0x7000000000000000000000000000000000, 0x0⟩ T) : ∀
    a0, Kept T s0 a0 →
    Kept T s0 (showLease a0) := by
  intro a0 h0
  unfold showLease
  exact (kept_State_setReg64 (tr (by decide) hT) _ _ _ _ _ (kept_State_setFld (tr (by decide) hT) _ _ _ _ _ h0
      (hasR_of ixR_SKYT_LEASE (by decide) hT)) (hasR_of ixR_SKYT_LEASE_END_LO (by decide) hT) (hasR_of
      ixR_SKYT_LEASE_END_HI (by decide) hT))

theorem kept_takeLease {T : Touch} {s0 : State} (hT : Touch.le ⟨69632, 0x7000000000000000000000000000000000,
    0x10000000000000000000000000000000000000000⟩ T) : ∀ a0 a1, Kept T s0 a1 →
    Kept T s0 (takeLease a0 a1) := by
  intro a0 a1 h1
  unfold takeLease
  extract_lets +onlyGivenNames -merge x0
  extract_lets +onlyGivenNames -merge x1
  have hx1 : Kept T s0 x1 := (kept_up65536 (land_le (by decide) hT.1) h1)
  clear_value x1
  exact (kept_showLease (tr (by decide) hT) _ (kept_State_led (tr (by decide) hT) _ _ _ _ (kept_State_count _ _ _ _ _
      hx1 (hasC_of ixC_SKYT_TAKEOVER_CNT (by decide) hT))))

theorem kept_stopLease {T : Touch} {s0 : State} (hT : Touch.le ⟨69632, 0x7000000000000000000000000000000000,
    0x40000000000000000000000000000000000000000⟩ T) : ∀ a0 a1, Kept T s0 a1 →
    Kept T s0 (stopLease a0 a1) := by
  intro a0 a1 h1
  unfold stopLease
  refine ite_holds (P := (Kept T s0)) ?_ ?_
  · extract_lets +onlyGivenNames -merge x0
    extract_lets +onlyGivenNames -merge x1
    have hx1 : Kept T s0 x1 := (kept_up65536 (land_le (by decide) hT.1) h1)
    clear_value x1
    exact (kept_showLease (tr (by decide) hT) _ (kept_State_led (tr (by decide) hT) _ _ _ _ (kept_State_count _ _ _ _
        _ hx1 (hasC_of ixC_SKYT_RELEASE_CNT (by decide) hT))))
  · exact h1

theorem kept_releaseLease {T : Touch} {s0 : State} (hT : Touch.le ⟨69632, 0x7000000000000000000000000000000000,
    0x40000000000000000000000000000000000000000⟩ T) : ∀ a0, Kept T s0 a0 →
    Kept T s0 (releaseLease a0) := by
  intro a0 h0
  unfold releaseLease
  exact (kept_stopLease (tr (by decide) hT) _ _ h0)

theorem kept_runDiag {T : Touch} {s0 : State} (hT : Touch.le ⟨69632, 0x17000000000000000000000000000000000,
    0x440000000000000000000000000000000000000000⟩ T) : ∀ a0, Kept T s0 a0 →
    Kept T s0 (runDiag a0) := by
  intro a0 h0
  unfold runDiag
  refine ite_holds (P := (Kept T s0)) ?_ ?_
  · extract_lets +onlyGivenNames -merge x0
    extract_lets +onlyGivenNames -merge x1
    extract_lets +onlyGivenNames -merge x2
    extract_lets +onlyGivenNames -merge x3
    have hx3 : Kept T s0 x3 := (kept_State_setReg _ _ _ _ _ (kept_up65536 (land_le (by decide) hT.1) h0) (hasR_of
        ixR_SKYT_DIAG_STATUS (by decide) hT))
    clear_value x3
    exact (ite_holds (P := (Kept T s0)) (kept_releaseLease (tr (by decide) hT) _ (kept_State_countIf (tr (by decide)
        hT) _ _ _ _ _ hx3 (hasC_of ixC_SKYT_DIAG_FAIL_CNT (by decide) hT))) hx3)
  · exact h0

theorem kept_servo {T : Touch} {s0 : State} (hT : Touch.le ⟨65536, 0x180000000000000000000000000000000, 0x0⟩ T) : ∀
    a0, Kept T s0 a0 →
    Kept T s0 (servo a0) := by
  intro a0 h0
  unfold servo
  refine ite_holds (P := (Kept T s0)) ?_ ?_
  · exact h0
  · extract_lets +onlyGivenNames -merge x0
    split
    · extract_lets +onlyGivenNames -merge x5
      have hx5 : Kept T s0 x5 := (kept_up65536 (land_le (by decide) hT.1) h0)
      clear_value x5
      exact (kept_State_setReg _ _ _ _ _ (kept_State_setReg _ _ _ _ _ hx5 (hasR_of ixR_SKYT_RATE (by decide) hT))
          (hasR_of ixR_SKYT_OFFSET (by decide) hT))

theorem kept_stepCounter {T : Touch} {s0 : State} (hT : Touch.le ⟨4265984, 0x1c0000008000000000000000000000000,
    0x4000000000000000000000000000000000000000⟩ T) : ∀ a0 a1 a2, Kept T s0 a2 →
    Kept T s0 (stepCounter a0 a1 a2) := by
  intro a0 a1 a2 h2
  unfold stepCounter
  extract_lets +onlyGivenNames -merge x0
  extract_lets +onlyGivenNames -merge x1
  extract_lets +onlyGivenNames -merge x2
  extract_lets +onlyGivenNames -merge x3
  have hx3 : Kept T s0 x3 := (kept_up65536 (land_le (by decide) hT.1) h2)
  clear_value x3
  extract_lets +onlyGivenNames -merge x4
  extract_lets +onlyGivenNames -merge x5
  subst x5
  beta_reduce
  extract_lets +onlyGivenNames -merge x6
  subst x6
  beta_reduce
  extract_lets +onlyGivenNames -merge x7
  extract_lets +onlyGivenNames -merge x8
  extract_lets +onlyGivenNames -merge x9
  have hx9 : Kept T s0 x9 := (kept_up4259840 (land_le (by decide) hT.1) hx3)
  clear_value x9
  extract_lets +onlyGivenNames -merge x10
  have hx10 : Kept T s0 x10 := (kept_State_setReg _ _ _ _ _ (kept_State_setReg _ _ _ _ _ hx9 (hasR_of ixR_SKYT_RATE
      (by decide) hT)) (hasR_of ixR_SKYT_OFFSET (by decide) hT))
  clear_value x10
  extract_lets +onlyGivenNames -merge x11
  have hx11 : Kept T s0 x11 := (kept_State_setFld (tr (by decide) hT) _ _ _ _ _ (kept_State_setFld (tr (by decide)
      hT) _ _ _ _ _ hx10 (hasR_of ixR_SKYT_STATUS (by decide) hT)) (hasR_of ixR_SKYT_STATUS (by decide) hT))
  clear_value x11
  extract_lets +onlyGivenNames -merge x12
  have hx12 : Kept T s0 x12 := (kept_State_count _ _ _ _ _ hx11 (hasC_of ixC_SKYT_STEP_CNT (by decide) hT))
  clear_value x12
  extract_lets +onlyGivenNames -merge x13
  have hx13 : Kept T s0 x13 := (kept_offer (tr (by decide) hT) _ _ hx12)
  clear_value x13
  exact (ite_holds (P := (Kept T s0)) (kept_unarm (tr (by decide) hT) _ hx13) hx13)

theorem kept_foundStep {T : Touch} {s0 : State} (hT : Touch.le ⟨4266496,
    0x6000000000000000000001c0000008000000000000000000000000, 0x80000000c000000000000000000000000000000000000000⟩ T)
    : ∀ a0 a1, Kept T s0 a1 →
    Kept T s0 (foundStep a0 a1) := by
  intro a0 a1 h1
  unfold foundStep
  refine ite_holds (P := (Kept T s0)) ?_ ?_
  · exact h1
  · refine ite_holds (P := (Kept T s0)) ?_ ?_
    · extract_lets +onlyGivenNames -merge x0
      have hx0 : Kept T s0 x0 := (kept_State_setFld (tr (by decide) hT) _ _ _ _ _ h1 (hasR_of ixR_SKYT_STATUS (by
          decide) hT))
      clear_value x0
      extract_lets +onlyGivenNames -merge x1
      have hx1 : Kept T s0 x1 := (kept_stepCounter (tr (by decide) hT) _ _ _ hx0)
      clear_value x1
      exact (kept_up4259840 (land_le (by decide) hT.1) hx1)
    · exact (kept_logWrite (tr (by decide) hT) _ _ _ (kept_State_count _ _ _ _ _ (kept_State_setFld (tr (by decide)
        hT) _ _ _ _ _ h1 (hasR_of ixR_SKYT_STATUS (by decide) hT)) (hasC_of ixC_SKYT_STEP_REFUSED_CNT (by decide)
        hT)))

theorem kept_taiWrite {T : Touch} {s0 : State} (hT : Touch.le ⟨65536, 0x200000000000000000000000000000000000, 0x0⟩ T)
    : ∀ a0 a1, Kept T s0 a1 →
    Kept T s0 (taiWrite a0 a1) := by
  intro a0 a1 h1
  unfold taiWrite
  extract_lets +onlyGivenNames -merge x0
  have hx0 : Kept T s0 x0 := (kept_State_setReg _ _ _ _ _ h1 (hasR_of ixR_SKYT_TAI_OFFSET_HI (by decide) hT))
  clear_value x0
  exact (kept_up65536 (land_le (by decide) hT.1) hx0)

theorem kept_foundReady {T : Touch} {s0 : State} (hT : Touch.le ⟨0, 0x40000000000000000000000000000000, 0x0⟩ T) : ∀
    a0, Kept T s0 a0 →
    Kept T s0 (foundReady a0) := by
  intro a0 h0
  unfold foundReady
  extract_lets +onlyGivenNames -merge x0
  exact (ite_holds (P := (Kept T s0)) (kept_State_setFld (tr (by decide) hT) _ _ _ _ _ h0 (hasR_of ixR_SKYT_STATUS
      (by decide) hT)) h0)

theorem kept_execFoundReadySet {T : Touch} {s0 : State} (hT : Touch.le ⟨0, 0x40000000000000000000000000000000, 0x0⟩
    T) : ∀ a0, Kept T s0 a0 →
    ResKept T s0 (execFoundReadySet a0) := by
  intro a0 h0
  unfold execFoundReadySet
  refine next_kept ?_
  exact (kept_foundReady (tr (by decide) hT) _ h0)

theorem kept_execFoundStep {T : Touch} {s0 : State} (hT : Touch.le ⟨4267520,
    0x6000000000000000000001c0000008000000000000000000000000, 0x80000000c000000000000000000000000000000000000000⟩ T)
    : ∀ a0 a1, Kept T s0 a1 →
    ResKept T s0 (execFoundStep a0 a1) := by
  intro a0 a1 h1
  unfold execFoundStep
  extract_lets +onlyGivenNames -merge x0
  refine next_kept ?_
  refine kept_guarded (tr (by decide) hT) _ _ _ ?_ h1
  · intro y1 hy1
    refine kept_far (tr (by decide) hT) _ _ _ ?_ hy1
    · intro y2 hy2
      exact (kept_foundStep (tr (by decide) hT) _ _ hy2)

theorem kept_joinStep {T : Touch} {s0 : State} (hT : Touch.le ⟨4265984, 0x1c0000008000000000000000000000000,
    0x4000000000000000000000000000000000000000⟩ T) : ∀ a0, Kept T s0 a0 →
    Kept T s0 (joinStep a0) := by
  intro a0 h0
  unfold joinStep
  extract_lets +onlyGivenNames -merge x0
  exact (ite_holds (P := (Kept T s0)) (kept_stepCounter (tr (by decide) hT) _ _ _ h0) h0)

theorem kept_execJoinStep {T : Touch} {s0 : State} (hT : Touch.le ⟨4265984, 0x1c0000008000000000000000000000000,
    0x4000000000000000000000000000000000000000⟩ T) : ∀ a0, Kept T s0 a0 →
    ResKept T s0 (execJoinStep a0) := by
  intro a0 h0
  unfold execJoinStep
  refine next_kept ?_
  exact (kept_joinStep (tr (by decide) hT) _ h0)

theorem kept_leaseLapse {T : Touch} {s0 : State} (hT : Touch.le ⟨69632, 0x7000000000000000000000000000000000,
    0x40000000000000000000000000000000000000000⟩ T) : ∀ a0, Kept T s0 a0 →
    Kept T s0 (leaseLapse a0) := by
  intro a0 h0
  unfold leaseLapse
  exact (ite_holds (P := (Kept T s0)) (kept_stopLease (tr (by decide) hT) _ _ h0) h0)

theorem kept_execLeaseLapse {T : Touch} {s0 : State} (hT : Touch.le ⟨69632, 0x7000000000000000000000000000000000,
    0x40000000000000000000000000000000000000000⟩ T) : ∀ a0, Kept T s0 a0 →
    ResKept T s0 (execLeaseLapse a0) := by
  intro a0 h0
  unfold execLeaseLapse
  refine next_kept ?_
  exact (kept_leaseLapse (tr (by decide) hT) _ h0)

theorem kept_leaseRenew {T : Touch} {s0 : State} (hT : Touch.le ⟨65536, 0x7000000000000000000000000000000000, 0x0⟩ T)
    : ∀ a0, Kept T s0 a0 →
    Kept T s0 (leaseRenew a0) := by
  intro a0 h0
  unfold leaseRenew
  split
  · exact h0
  · extract_lets +onlyGivenNames -merge x3
    exact (ite_holds (P := (Kept T s0)) (kept_showLease (tr (by decide) hT) _ (kept_up65536 (land_le (by decide)
        hT.1) h0)) h0)

theorem kept_execLeaseRenew {T : Touch} {s0 : State} (hT : Touch.le ⟨65536, 0x7000000000000000000000000000000000,
    0x0⟩ T) : ∀ a0, Kept T s0 a0 →
    ResKept T s0 (execLeaseRenew a0) := by
  intro a0 h0
  unfold execLeaseRenew
  refine next_kept ?_
  exact (kept_leaseRenew (tr (by decide) hT) _ h0)

theorem kept_leaseTakeover {T : Touch} {s0 : State} (hT : Touch.le ⟨69632, 0x7000000000000000000000000000000000,
    0x10000000000000000000000000000000000000000⟩ T) : ∀ a0, Kept T s0 a0 →
    Kept T s0 (leaseTakeover a0) := by
  intro a0 h0
  unfold leaseTakeover
  exact (ite_holds (P := (Kept T s0)) (kept_takeLease (tr (by decide) hT) _ _ h0) h0)

theorem kept_execLeaseTakeover {T : Touch} {s0 : State} (hT : Touch.le ⟨69632, 0x7000000000000000000000000000000000,
    0x10000000000000000000000000000000000000000⟩ T) : ∀ a0, Kept T s0 a0 →
    ResKept T s0 (execLeaseTakeover a0) := by
  intro a0 h0
  unfold execLeaseTakeover
  refine next_kept ?_
  exact (kept_leaseTakeover (tr (by decide) hT) _ h0)

theorem kept_lullEntry {T : Touch} {s0 : State} (hT : Touch.le ⟨0, 0x40000000000000000000000000000000,
    0x100000000000000000000000000000000000000000⟩ T) : ∀ a0, Kept T s0 a0 →
    Kept T s0 (lullEntry a0) := by
  intro a0 h0
  unfold lullEntry
  exact (ite_holds (P := (Kept T s0)) (kept_State_count _ _ _ _ _ (kept_State_setFld (tr (by decide) hT) _ _ _ _ _ h0
      (hasR_of ixR_SKYT_STATUS (by decide) hT)) (hasC_of ixC_SKYT_LULL_CNT (by decide) hT)) h0)

theorem kept_execLullEntry {T : Touch} {s0 : State} (hT : Touch.le ⟨0, 0x40000000000000000000000000000000,
    0x100000000000000000000000000000000000000000⟩ T) : ∀ a0, Kept T s0 a0 →
    ResKept T s0 (execLullEntry a0) := by
  intro a0 h0
  unfold execLullEntry
  refine next_kept ?_
  exact (kept_lullEntry (tr (by decide) hT) _ h0)

theorem kept_lullLimit {T : Touch} {s0 : State} (hT : Touch.le ⟨71680, 0x40000000080000000000000000000000,
    0x200000000000000000000000000000000000000000⟩ T) : ∀ a0 a1 a2, Kept T s0 a2 →
    Kept T s0 (lullLimit a0 a1 a2) := by
  intro a0 a1 a2 h2
  unfold lullLimit
  extract_lets +onlyGivenNames -merge x0
  have hx0 : Kept T s0 x0 := (kept_State_count _ _ _ _ _ (kept_State_setFld (tr (by decide) hT) _ _ _ _ _
      (kept_State_setFld (tr (by decide) hT) _ _ _ _ _ h2 (hasR_of ixR_SKY_STATE (by decide) hT)) (hasR_of
      ixR_SKYT_STATUS (by decide) hT)) (hasC_of ixC_SKYT_LULL_LIMIT_CNT (by decide) hT))
  clear_value x0
  exact (kept_fault (tr (by decide) hT) _ _ _ _ _ (kept_up65536 (land_le (by decide) hT.1) hx0))

theorem kept_lullTime {T : Touch} {s0 : State} (hT : Touch.le ⟨71680, 0x40000000080000000000000000000000,
    0x200000000000000000000000000000000000000000⟩ T) : ∀ a0, Kept T s0 a0 →
    Kept T s0 (lullTime a0) := by
  intro a0 h0
  unfold lullTime
  split
  · exact (ite_holds (P := (Kept T s0)) (kept_lullLimit (tr (by decide) hT) _ _ _ h0) h0)
  · exact h0

theorem kept_execLullLimit {T : Touch} {s0 : State} (hT : Touch.le ⟨71680, 0x40000000080000000000000000000000,
    0x200000000000000000000000000000000000000000⟩ T) : ∀ a0, Kept T s0 a0 →
    ResKept T s0 (execLullLimit a0) := by
  intro a0 h0
  unfold execLullLimit
  refine next_kept ?_
  exact (kept_lullTime (tr (by decide) hT) _ h0)

theorem kept_heard {T : Touch} {s0 : State} (hT : Touch.le ⟨65536, 0x40000000000000000000000000000000, 0x0⟩ T) : ∀ a0
    a1, Kept T s0 a1 →
    Kept T s0 (heard a0 a1) := by
  intro a0 a1 h1
  unfold heard
  extract_lets +onlyGivenNames -merge x0
  extract_lets +onlyGivenNames -merge x1
  extract_lets +onlyGivenNames -merge x2
  have hx2 : Kept T s0 x2 := (kept_up65536 (land_le (by decide) hT.1) h1)
  clear_value x2
  extract_lets +onlyGivenNames -merge x3
  have hx3 : Kept T s0 x3 := (kept_State_setFld (tr (by decide) hT) _ _ _ _ _ hx2 (hasR_of ixR_SKYT_STATUS (by
      decide) hT))
  clear_value x3
  exact (ite_holds (P := (Kept T s0)) (kept_State_setFld (tr (by decide) hT) _ _ _ _ _ (kept_up65536 (land_le (by
      decide) hT.1) hx3) (hasR_of ixR_SKYT_STATUS (by decide) hT)) hx3)

theorem kept_recognise {T : Touch} {s0 : State} (hT : Touch.le ⟨65536, 0x1000000000000000000000000000000000, 0x0⟩ T)
    : ∀ a0 a1 a2, Kept T s0 a2 →
    Kept T s0 (recognise a0 a1 a2) := by
  intro a0 a1 a2 h2
  unfold recognise
  extract_lets +onlyGivenNames -merge x0
  extract_lets +onlyGivenNames -merge x1
  extract_lets +onlyGivenNames -merge x2
  have hx2 : Kept T s0 x2 := (ite_holds (P := (Kept T s0)) h2 (kept_up65536 (land_le (by decide) hT.1) h2))
  clear_value x2
  extract_lets +onlyGivenNames -merge x3
  extract_lets +onlyGivenNames -merge x4
  have hx4 : Kept T s0 x4 := (kept_up65536 (land_le (by decide) hT.1) hx2)
  clear_value x4
  extract_lets +onlyGivenNames -merge x5
  have hx5 : Kept T s0 x5 := (kept_State_setFld (tr (by decide) hT) _ _ _ _ _ hx4 (hasR_of ixR_SKYT_LEASE (by decide)
      hT))
  clear_value x5
  exact (kept_State_setFld (tr (by decide) hT) _ _ _ _ _ (kept_State_setFld (tr (by decide) hT) _ _ _ _ _ hx5
      (hasR_of ixR_SKYT_LEASE (by decide) hT)) (hasR_of ixR_SKYT_LEASE (by decide) hT))

theorem kept_holderFrame {T : Touch} {s0 : State} (hT : Touch.le ⟨71680,
    0x80000000007000000000000000000000000000000000, 0x1400000c0000000000000000000000000000000000000000⟩ T) : ∀ a0 a1
    a2, Kept T s0 a2 →
    Kept T s0 (holderFrame a0 a1 a2) := by
  intro a0 a1 a2 h2
  unfold holderFrame
  refine ite_holds (P := (Kept T s0)) ?_ ?_
  · extract_lets +onlyGivenNames -merge x0
    have hx0 : Kept T s0 x0 := (kept_ledgerFault (tr (by decide) hT) _ _ _ _ _ h2)
    clear_value x0
    refine ite_holds (P := (Kept T s0)) ?_ ?_
    · extract_lets +onlyGivenNames -merge x1
      have hx1 : Kept T s0 x1 := (kept_fault (tr (by decide) hT) _ _ _ _ _ (kept_releaseLease (tr (by decide) hT) _
          hx0))
      clear_value x1
      exact (kept_recognise (tr (by decide) hT) _ _ _ (kept_up65536 (land_le (by decide) hT.1) hx1))
    · exact hx0
  · split
    · exact (kept_recognise (tr (by decide) hT) _ _ _ h2)
    · refine ite_holds (P := (Kept T s0)) ?_ ?_
      · exact (kept_recognise (tr (by decide) hT) _ _ _ h2)
      · refine ite_holds (P := (Kept T s0)) ?_ ?_
        · extract_lets +onlyGivenNames -merge x8
          have hx8 : Kept T s0 x8 := (kept_State_count _ _ _ _ _ h2 (hasC_of ixC_SKYT_HOLDER_CONFLICT_CNT (by decide)
              hT))
          clear_value x8
          exact (ite_holds (P := (Kept T s0)) (kept_recognise (tr (by decide) hT) _ _ _ hx8) hx8)
        · exact (kept_recognise (tr (by decide) hT) _ _ _ h2)

theorem kept_measure {T : Touch} {s0 : State} (hT : Touch.le ⟨71680, 0x40000000080000000000000000000000,
    0x200000000000000000000000000000000000000000⟩ T) : ∀ a0 a1 a2 a3 a4, Kept T s0 a4 →
    Kept T s0 (measure a0 a1 a2 a3 a4) := by
  intro a0 a1 a2 a3 a4 h4
  unfold measure
  extract_lets +onlyGivenNames -merge x0
  extract_lets +onlyGivenNames -merge x1
  refine ite_holds (P := (Kept T s0)) ?_ ?_
  · exact h4
  · extract_lets +onlyGivenNames -merge x2
    extract_lets +onlyGivenNames -merge x3
    refine ite_holds (P := (Kept T s0)) ?_ ?_
    · extract_lets +onlyGivenNames -merge x4
      extract_lets +onlyGivenNames -merge x5
      extract_lets +onlyGivenNames -merge x6
      extract_lets +onlyGivenNames -merge x7
      have hx7 : Kept T s0 x7 := (kept_up65536 (land_le (by decide) hT.1) h4)
      clear_value x7
      exact (ite_holds (P := (Kept T s0)) (ite_holds (P := (Kept T s0)) (kept_lullLimit (tr (by decide) hT) _ _ _
          hx7) (kept_up65536 (land_le (by decide) hT.1) hx7)) hx7)
    · split
      · exact (ite_holds (P := (Kept T s0)) (kept_up65536 (land_le (by decide) hT.1) h4) h4)
      · exact h4

theorem kept_takeAnnouncement {T : Touch} {s0 : State} (hT : Touch.le ⟨0, 0xe0000000000000000000000000, 0x0⟩ T) : ∀
    a0 a1 a2, Kept T s0 a2 →
    Kept T s0 (takeAnnouncement a0 a1 a2) := by
  intro a0 a1 a2 h2
  unfold takeAnnouncement
  extract_lets +onlyGivenNames -merge x0
  extract_lets +onlyGivenNames -merge x1
  have hx1 : Kept T s0 x1 := (kept_State_setReg _ _ _ _ _ h2 (hasR_of ixR_SKY_ANNOUNCE (by decide) hT))
  clear_value x1
  exact (kept_State_setReg64 (tr (by decide) hT) _ _ _ _ _ hx1 (hasR_of ixR_SKY_ANNOUNCE_APPLY_LO (by decide) hT)
      (hasR_of ixR_SKY_ANNOUNCE_APPLY_HI (by decide) hT))

theorem kept_takeL {T : Touch} {s0 : State} (hT : Touch.le ⟨65536, 0x7000000000000000000000000000000000, 0x0⟩ T) : ∀
    a0 a1, Kept T s0 a1 →
    Kept T s0 (takeL a0 a1) := by
  intro a0 a1 h1
  unfold takeL
  exact (kept_showLease (tr (by decide) hT) _ (kept_up65536 (land_le (by decide) hT.1) h1))

theorem kept_takeTime {T : Touch} {s0 : State} (hT : Touch.le ⟨71680, 0x800000008070400000e0080000000000000000000000,
    0x1400002c0000000000000000000000000000000000000000⟩ T) : ∀ a0 a1 a2 a3 a4 a5, Kept T s0 a5 →
    Kept T s0 (takeTime a0 a1 a2 a3 a4 a5) := by
  intro a0 a1 a2 a3 a4 a5 h5
  unfold takeTime
  extract_lets +onlyGivenNames -merge x0
  extract_lets +onlyGivenNames -merge x1
  extract_lets +onlyGivenNames -merge x2
  extract_lets +onlyGivenNames -merge x3
  have hx3 : Kept T s0 x3 := (kept_up65536 (land_le (by decide) hT.1) h5)
  clear_value x3
  extract_lets +onlyGivenNames -merge x4
  have hx4 : Kept T s0 x4 := (ite_holds (P := (Kept T s0)) (kept_holderFrame (tr (by decide) hT) _ _ _ (kept_heard
      (tr (by decide) hT) _ _ hx3)) hx3)
  clear_value x4
  extract_lets +onlyGivenNames -merge x5
  have hx5 : Kept T s0 x5 := (kept_takeL (tr (by decide) hT) _ _ hx4)
  clear_value x5
  extract_lets +onlyGivenNames -merge x6
  extract_lets +onlyGivenNames -merge x7
  have hx7 : Kept T s0 x7 := (kept_up65536 (land_le (by decide) hT.1) hx5)
  clear_value x7
  extract_lets +onlyGivenNames -merge x8
  have hx8 : Kept T s0 x8 := (ite_holds (P := (Kept T s0)) (ite_holds (P := (Kept T s0)) (kept_takeAnnouncement (tr
      (by decide) hT) _ _ _ hx7) hx7) hx4)
  clear_value x8
  extract_lets +onlyGivenNames -merge x9
  extract_lets +onlyGivenNames -merge x10
  have hx10 : Kept T s0 x10 := (ite_holds (P := (Kept T s0)) (kept_up65536 (land_le (by decide) hT.1) hx8) hx8)
  clear_value x10
  exact (kept_showDelay (tr (by decide) hT) _ _ (kept_measure (tr (by decide) hT) _ _ _ _ _ hx10))

theorem kept_execTaiOffsetWrite {T : Touch} {s0 : State} (hT : Touch.le ⟨66560,
    0x200000000000000000000000000000000000, 0x0⟩ T) : ∀ a0 a1 a2, Kept T s0 a2 →
    ResKept T s0 (execTaiOffsetWrite a0 a1 a2) := by
  intro a0 a1 a2 h2
  unfold execTaiOffsetWrite
  refine next_kept ?_
  refine kept_far (tr (by decide) hT) _ _ _ ?_ h2
  · intro y0 hy0
    exact (kept_taiWrite (tr (by decide) hT) _ _ hy0)

theorem kept_takeoverCheck {T : Touch} {s0 : State} (hT : Touch.le ⟨71680, 0x7040000000000000000000000000000000,
    0x60000000000000000000000000000000000000000⟩ T) : ∀ a0, Kept T s0 a0 →
    Kept T s0 (takeoverCheck a0) := by
  intro a0 h0
  unfold takeoverCheck
  split
  · exact h0
  · refine ite_holds (P := (Kept T s0)) ?_ ?_
    · exact h0
    · extract_lets +onlyGivenNames -merge x3
      extract_lets +onlyGivenNames -merge x4
      have hx4 : Kept T s0 x4 := (kept_up65536 (land_le (by decide) hT.1) h0)
      clear_value x4
      extract_lets +onlyGivenNames -merge x5
      extract_lets +onlyGivenNames -merge x6
      refine ite_holds (P := (Kept T s0)) ?_ ?_
      · extract_lets +onlyGivenNames -merge x7
        have hx7 : Kept T s0 x7 := (kept_State_setFld (tr (by decide) hT) _ _ _ _ _ (kept_releaseLease (tr (by
            decide) hT) _ hx4) (hasR_of ixR_SKYT_STATUS (by decide) hT))
        clear_value x7
        exact (kept_fault (tr (by decide) hT) _ _ _ _ _ (kept_State_count _ _ _ _ _ hx7 (hasC_of
            ixC_SKYT_TAKEOVER_FAIL_CNT (by decide) hT)))
      · exact hx4

theorem kept_execTakeoverCheck {T : Touch} {s0 : State} (hT : Touch.le ⟨71680, 0x7040000000000000000000000000000000,
    0x60000000000000000000000000000000000000000⟩ T) : ∀ a0, Kept T s0 a0 →
    ResKept T s0 (execTakeoverCheck a0) := by
  intro a0 h0
  unfold execTakeoverCheck
  refine next_kept ?_
  exact (kept_takeoverCheck (tr (by decide) hT) _ h0)

/-! ### Machine/SkyState.lean -/

theorem kept_ageDelays {T : Touch} {s0 : State} (hT : Touch.le ⟨0, 0x800000000000000000000000000000000000, 0x0⟩ T) :
    ∀ a0, Kept T s0 a0 →
    Kept T s0 (ageDelays a0) := by
  intro a0 h0
  unfold ageDelays
  exact (foldl_holds (P := (Kept T s0)) (fun _ _ hm0 => (ite_holds (P := (Kept T s0)) (kept_showDelay (tr (by decide)
      hT) _ _ hm0) hm0)) h0)

theorem kept_agreeMap {T : Touch} {s0 : State} (hT : Touch.le ⟨4194304, 0x80000000000000000000000, 0x0⟩ T) : ∀ a0 a1,
    Kept T s0 a1 →
    Kept T s0 (agreeMap a0 a1) := by
  intro a0 a1 h1
  unfold agreeMap
  extract_lets +onlyGivenNames -merge x0
  extract_lets +onlyGivenNames -merge x1
  extract_lets +onlyGivenNames -merge x2
  have hx2 : Kept T s0 x2 := (kept_up4194304 (land_le (by decide) hT.1) h1)
  clear_value x2
  exact (kept_State_setFld (tr (by decide) hT) _ _ _ _ _ hx2 (hasR_of ixR_SKY_STATE (by decide) hT))

theorem kept_applySettings {T : Touch} {s0 : State} (hT : Touch.le ⟨4259840, 0x0, 0x0⟩ T) : ∀ a0, Kept T s0 a0 →
    Kept T s0 (applySettings a0) := by
  intro a0 h0
  unfold applySettings
  extract_lets +onlyGivenNames -merge x0
  extract_lets +onlyGivenNames -merge x1
  extract_lets +onlyGivenNames -merge x2
  have hx2 : Kept T s0 x2 := (kept_up4194304 (land_le (by decide) hT.1) h0)
  clear_value x2
  extract_lets +onlyGivenNames -merge x3
  exact (kept_up65536 (land_le (by decide) hT.1) hx2)

theorem kept_buildCandidates {T : Touch} {s0 : State} (hT : Touch.le ⟨4194304, 0x0, 0x0⟩ T) : ∀ a0, Kept T s0 a0 →
    Kept T s0 (buildCandidates a0) := by
  intro a0 h0
  unfold buildCandidates
  exact (kept_up4194304 (land_le (by decide) hT.1) h0)

theorem kept_darkCount {T : Touch} {s0 : State} (hT : Touch.le ⟨0, 0x0, 0x200000000000000000000000000⟩ T) : ∀ a0,
    Kept T s0 a0 →
    Kept T s0 (darkCount a0) := by
  intro a0 h0
  unfold darkCount
  exact (kept_State_countIf (tr (by decide) hT) _ _ _ _ _ h0 (hasC_of ixC_SKY_DARK_EPOCH_CNT (by decide) hT))

theorem kept_clearRegs {T : Touch} {s0 : State} (hT : Touch.le ⟨1, 0x0, 0x0⟩ T) : ∀ a0 a1 a2, Kept T s0 a2 →
    Kept T s0 (clearRegs a0 a1 a2) := by
  intro a0 a1 a2 h2
  unfold clearRegs
  exact (kept_up1 (land_le (by decide) hT.1) h2)

theorem kept_enterJoining {T : Touch} {s0 : State} (hT : Touch.le ⟨4194305, 0x600000080000000000000000000000, 0x0⟩ T)
    : ∀ a0 a1, Kept T s0 a1 →
    Kept T s0 (enterJoining a0 a1) := by
  intro a0 a1 h1
  unfold enterJoining
  extract_lets +onlyGivenNames -merge x0
  have hx0 : Kept T s0 x0 := (kept_State_setFld (tr (by decide) hT) _ _ _ _ _ h1 (hasR_of ixR_SKY_STATE (by decide)
      hT))
  clear_value x0
  extract_lets +onlyGivenNames -merge x1
  have hx1 : Kept T s0 x1 := (kept_State_setReg64 (tr (by decide) hT) _ _ _ _ _ hx0 (hasR_of ixR_SKY_JOIN_EPOCH_LO
      (by decide) hT) (hasR_of ixR_SKY_JOIN_EPOCH_HI (by decide) hT))
  clear_value x1
  extract_lets +onlyGivenNames -merge x2
  have hx2 : Kept T s0 x2 := (kept_clearRegs (tr (by decide) hT) _ _ _ hx1)
  clear_value x2
  exact (kept_up4194304 (land_le (by decide) hT.1) hx2)

theorem kept_joinFirst {T : Touch} {s0 : State} (hT : Touch.le ⟨4263937, 0x7000600000080000000000000000000000,
    0x10000000000000000000000000000000000000000⟩ T) : ∀ a0 a1, Kept T s0 a1 →
    Kept T s0 (joinFirst a0 a1) := by
  intro a0 a1 h1
  unfold joinFirst
  refine ite_holds (P := (Kept T s0)) ?_ ?_
  · extract_lets +onlyGivenNames -merge x0
    extract_lets +onlyGivenNames -merge x1
    have hx1 : Kept T s0 x1 := (ite_holds (P := (Kept T s0)) (kept_takeLease (tr (by decide) hT) _ _ (kept_up4194304
        (land_le (by decide) hT.1) h1)) h1)
    clear_value x1
    exact (ite_holds (P := (Kept T s0)) (kept_enterJoining (tr (by decide) hT) _ _ (kept_up4194304 (land_le (by
        decide) hT.1) hx1)) hx1)
  · exact h1

theorem kept_slipStep {T : Touch} {s0 : State} (hT : Touch.le ⟨4194304, 0x0, 0x10000000000000000000000000000⟩ T) : ∀
    a0, Kept T s0 a0 →
    Kept T s0 (slipStep a0) := by
  intro a0 h0
  unfold slipStep
  extract_lets +onlyGivenNames -merge x0
  extract_lets +onlyGivenNames -merge x1
  extract_lets +onlyGivenNames -merge x2
  have hx2 : Kept T s0 x2 := (kept_up4194304 (land_le (by decide) hT.1) h0)
  clear_value x2
  refine ite_holds (P := (Kept T s0)) ?_ ?_
  · extract_lets +onlyGivenNames -merge x3
    extract_lets +onlyGivenNames -merge x4
    extract_lets +onlyGivenNames -merge x5
    extract_lets +onlyGivenNames -merge x6
    have hx6 : Kept T s0 x6 := (kept_State_countIf (tr (by decide) hT) _ _ _ _ _ hx2 (hasC_of ixC_SKY_TX_SLIP_CNT (by
        decide) hT))
    clear_value x6
    exact (kept_up4194304 (land_le (by decide) hT.1) hx6)
  · exact (kept_up4194304 (land_le (by decide) hT.1) hx2)

theorem kept_enterDark {T : Touch} {s0 : State} (hT : Touch.le ⟨69632, 0x7000000000080000000000000000000000,
    0x40000000000000000000000000000000000000000⟩ T) : ∀ a0, Kept T s0 a0 →
    Kept T s0 (enterDark a0) := by
  intro a0 h0
  unfold enterDark
  exact (kept_releaseLease (tr (by decide) hT) _ (kept_State_setFld (tr (by decide) hT) _ _ _ _ _ h0 (hasR_of
      ixR_SKY_STATE (by decide) hT)))

theorem kept_transit {T : Touch} {s0 : State} (hT : Touch.le ⟨4263937, 0x7000600000080000000000000000000000,
    0x40000000000000400000000000000000000000000⟩ T) : ∀ a0 a1 a2, Kept T s0 a2 →
    Kept T s0 (transit a0 a1 a2) := by
  intro a0 a1 a2 h2
  unfold transit
  exact (ite_holds (P := (Kept T s0)) (ite_holds (P := (Kept T s0)) (kept_enterDark (tr (by decide) hT) _ h2)
      (ite_holds (P := (Kept T s0)) (kept_State_count _ _ _ _ _ (kept_State_setFld (tr (by decide) hT) _ _ _ _ _ h2
      (hasR_of ixR_SKY_STATE (by decide) hT)) (hasC_of ixC_SKY_JOIN_CNT (by decide) hT)) h2)) (ite_holds (P := (Kept
      T s0)) (ite_holds (P := (Kept T s0)) (kept_enterDark (tr (by decide) hT) _ h2) h2) (ite_holds (P := (Kept T
      s0)) (ite_holds (P := (Kept T s0)) h2 (ite_holds (P := (Kept T s0)) (kept_State_setFld (tr (by decide) hT) _ _
      _ _ _ h2 (hasR_of ixR_SKY_STATE (by decide) hT)) (kept_enterJoining (tr (by decide) hT) _ _ h2))) h2)))

theorem kept_beginEpoch {T : Touch} {s0 : State} (hT : Touch.le ⟨4265985, 0x817180610008080000000000000000000000,
    0x450000000000010680000000000000000000000000⟩ T) : ∀ a0 a1 a2, Kept T s0 a2 →
    Kept T s0 (beginEpoch a0 a1 a2) := by
  intro a0 a1 a2 h2
  unfold beginEpoch
  extract_lets +onlyGivenNames -merge x0
  have hx0 : Kept T s0 x0 := (kept_applySettings (tr (by decide) hT) _ h2)
  clear_value x0
  extract_lets +onlyGivenNames -merge x1
  extract_lets +onlyGivenNames -merge x2
  extract_lets +onlyGivenNames -merge x3
  have hx3 : Kept T s0 x3 := (kept_up4259840 (land_le (by decide) hT.1) hx0)
  clear_value x3
  extract_lets +onlyGivenNames -merge x4
  have hx4 : Kept T s0 x4 := (kept_mapApply (tr (by decide) hT) _ hx3)
  clear_value x4
  extract_lets +onlyGivenNames -merge x5
  extract_lets +onlyGivenNames -merge x6
  have hx6 : Kept T s0 x6 := (kept_agreeMap (tr (by decide) hT) _ _ (kept_joinFirst (tr (by decide) hT) _ _ hx4))
  clear_value x6
  extract_lets +onlyGivenNames -merge x7
  have hx7 : Kept T s0 x7 := (kept_countGood (tr (by decide) hT) _ (kept_servo (tr (by decide) hT) _ hx6))
  clear_value x7
  extract_lets +onlyGivenNames -merge x8
  extract_lets +onlyGivenNames -merge x9
  have hx9 : Kept T s0 x9 := (kept_up65536 (land_le (by decide) hT.1) hx7)
  clear_value x9
  extract_lets +onlyGivenNames -merge x10
  have hx10 : Kept T s0 x10 := (kept_ageDelays (tr (by decide) hT) _ (kept_transit (tr (by decide) hT) _ _ _ hx9))
  clear_value x10
  extract_lets +onlyGivenNames -merge x11
  have hx11 : Kept T s0 x11 := (kept_runDiag (tr (by decide) hT) _ (ite_holds (P := (Kept T s0)) hx10
      (kept_deskewAlarms (tr (by decide) hT) _ hx10)))
  clear_value x11
  exact (kept_buildCandidates (tr (by decide) hT) _ (kept_slipStep (tr (by decide) hT) _ (kept_darkCount (tr (by
      decide) hT) _ hx11)))

theorem kept_skyFlush {T : Touch} {s0 : State} (hT : Touch.le ⟨8132608, 0x6000000002000000180000000000000,
    0x1094040000000000000024000000000000000000⟩ T) : ∀ a0, Kept T s0 a0 →
    Kept T s0 (skyFlush a0) := by
  intro a0 h0
  unfold skyFlush
  extract_lets +onlyGivenNames -merge x0
  have hx0 : Kept T s0 x0 := (foldl_holds (P := (Kept T s0)) (fun _ _ hm1 => (kept_dropCell (tr (by decide) hT) _ _ _
      (kept_State_count _ _ _ _ _ hm1 (hasC_of ixC_SKY_STATE_FLUSH_CELL_CNT (by decide) hT)))) h0)
  clear_value x0
  extract_lets +onlyGivenNames -merge x2
  extract_lets +onlyGivenNames -merge x3
  have hx3 : Kept T s0 x3 := (kept_up4194304 (land_le (by decide) hT.1) hx0)
  clear_value x3
  extract_lets +onlyGivenNames -merge x4
  have hx4 : Kept T s0 x4 := (kept_returnAll (tr (by decide) hT) _ _ hx3)
  clear_value x4
  extract_lets +onlyGivenNames -merge x5
  have hx5 : Kept T s0 x5 := (kept_cutQueues (tr (by decide) hT) _ _ _ _ (hasC_of ixC_SKY_STATE_FLUSH_CELL_CNT (by
      decide) hT) hx4)
  clear_value x5
  exact (foldl_holds (P := (Kept T s0)) (fun _ _ hm6 => (kept_resetPair (tr (by decide) hT) _ _ hm6)) hx5)

theorem kept_enterOff {T : Touch} {s0 : State} (hT : Touch.le ⟨8198144, 0x7046000000082000000180000000000000,
    0x41094040000000000000024000000000000000000⟩ T) : ∀ a0, Kept T s0 a0 →
    Kept T s0 (enterOff a0) := by
  intro a0 h0
  unfold enterOff
  extract_lets +onlyGivenNames -merge x0
  have hx0 : Kept T s0 x0 := (kept_skyFlush (tr (by decide) hT) _ (kept_releaseLease (tr (by decide) hT) _ h0))
  clear_value x0
  extract_lets +onlyGivenNames -merge x1
  have hx1 : Kept T s0 x1 := (kept_State_setFld (tr (by decide) hT) _ _ _ _ _ (kept_State_setFld (tr (by decide) hT)
      _ _ _ _ _ hx0 (hasR_of ixR_SKY_STATE (by decide) hT)) (hasR_of ixR_SKYT_STATUS (by decide) hT))
  clear_value x1
  exact (kept_up4194304 (land_le (by decide) hT.1) hx1)

theorem kept_enterListen {T : Touch} {s0 : State} (hT : Touch.le ⟨8198145, 0x70460100e0082000000180000000000000,
    0x41094040000000000000024000000000000000000⟩ T) : ∀ a0, Kept T s0 a0 →
    Kept T s0 (enterListen a0) := by
  intro a0 h0
  unfold enterListen
  extract_lets +onlyGivenNames -merge x0
  have hx0 : Kept T s0 x0 := (kept_skyFlush (tr (by decide) hT) _ (kept_releaseLease (tr (by decide) hT) _ h0))
  clear_value x0
  extract_lets +onlyGivenNames -merge x1
  have hx1 : Kept T s0 x1 := (kept_clearRegs (tr (by decide) hT) _ _ _ hx0)
  clear_value x1
  extract_lets +onlyGivenNames -merge x2
  have hx2 : Kept T s0 x2 := (kept_clearRegs (tr (by decide) hT) _ _ _ hx1)
  clear_value x2
  extract_lets +onlyGivenNames -merge x3
  have hx3 : Kept T s0 x3 := (kept_clearRegs (tr (by decide) hT) _ _ _ hx2)
  clear_value x3
  extract_lets +onlyGivenNames -merge x4
  have hx4 : Kept T s0 x4 := (foldl_holds (P := (Kept T s0)) (fun _ _ hm5 => (ite_holds (P := (Kept T s0))
      (kept_State_setFld (tr (by decide) hT) _ _ _ _ _ hm5 (hasR_of ixR_SKY_LANE_ALARM (by decide) hT)) hm5)) hx3)
  clear_value x4
  extract_lets +onlyGivenNames -merge x6
  have hx6 : Kept T s0 x6 := (kept_State_setReg _ _ _ _ _ (kept_State_setReg64 (tr (by decide) hT) _ _ _ _ _
      (kept_State_setReg _ _ _ _ _ hx4 (hasR_of ixR_SKY_ANNOUNCE (by decide) hT)) (hasR_of ixR_SKY_ANNOUNCE_APPLY_LO
      (by decide) hT) (hasR_of ixR_SKY_ANNOUNCE_APPLY_HI (by decide) hT)) (hasR_of ixR_SKYT_LEASE (by decide) hT))
  clear_value x6
  extract_lets +onlyGivenNames -merge x7
  have hx7 : Kept T s0 x7 := (kept_State_setFld (tr (by decide) hT) _ _ _ _ _ (kept_State_setFld (tr (by decide) hT)
      _ _ _ _ _ (kept_State_setFld (tr (by decide) hT) _ _ _ _ _ hx6 (hasR_of ixR_SKY_STATE (by decide) hT)) (hasR_of
      ixR_SKY_STATE (by decide) hT)) (hasR_of ixR_SKY_STATE (by decide) hT))
  clear_value x7
  extract_lets +onlyGivenNames -merge x8
  have hx8 : Kept T s0 x8 := (kept_State_setFld (tr (by decide) hT) _ _ _ _ _ (kept_State_setFld (tr (by decide) hT)
      _ _ _ _ _ (kept_State_setFld (tr (by decide) hT) _ _ _ _ _ hx7 (hasR_of ixR_SKYT_STATUS (by decide) hT))
      (hasR_of ixR_SKYT_STATUS (by decide) hT)) (hasR_of ixR_SKYT_STATUS (by decide) hT))
  clear_value x8
  extract_lets +onlyGivenNames -merge x9
  have hx9 : Kept T s0 x9 := (kept_State_setFld (tr (by decide) hT) _ _ _ _ _ (kept_State_setFld (tr (by decide) hT)
      _ _ _ _ _ hx8 (hasR_of ixR_SKYT_STATUS (by decide) hT)) (hasR_of ixR_SKY_STATE (by decide) hT))
  clear_value x9
  extract_lets +onlyGivenNames -merge x10
  extract_lets +onlyGivenNames -merge x11
  extract_lets +onlyGivenNames -merge x12
  have hx12 : Kept T s0 x12 := (kept_up4259840 (land_le (by decide) hT.1) hx9)
  clear_value x12
  exact (kept_showLease (tr (by decide) hT) _ hx12)

theorem kept_skyTry {T : Touch} {s0 : State} (hT : Touch.le ⟨8198145, 0x70460100e0082000000180000000000000,
    0x41094040000000000000024000000000000000000⟩ T) : ∀ a0, Kept T s0 a0 →
    Kept T s0 (skyTry a0) := by
  intro a0 h0
  unfold skyTry
  exact (ite_holds (P := (Kept T s0)) (kept_enterListen (tr (by decide) hT) _ h0) h0)

theorem kept_skyCtrl {T : Touch} {s0 : State} (hT : Touch.le ⟨8198145, 0x70460100e00a2000000180000000000000,
    0x41094040000000000000024000000000000000000⟩ T) : ∀ a0 a1, Kept T s0 a1 →
    Kept T s0 (skyCtrl a0 a1) := by
  intro a0 a1 h1
  unfold skyCtrl
  extract_lets +onlyGivenNames -merge x0
  extract_lets +onlyGivenNames -merge x1
  have hx1 : Kept T s0 x1 := (kept_State_setFld (tr (by decide) hT) _ _ _ _ _ h1 (hasR_of ixR_SKY_CTRL (by decide)
      hT))
  clear_value x1
  exact (ite_holds (P := (Kept T s0)) (ite_holds (P := (Kept T s0)) (ite_holds (P := (Kept T s0)) (kept_skyTry (tr
      (by decide) hT) _ hx1) (kept_State_setFld (tr (by decide) hT) _ _ _ _ _ hx1 (hasR_of ixR_SKY_STATE (by decide)
      hT))) hx1) (ite_holds (P := (Kept T s0)) hx1 (kept_enterOff (tr (by decide) hT) _ hx1)))

theorem kept_skyTxEn {T : Touch} {s0 : State} (hT : Touch.le ⟨0, 0xc0000000000000000000000, 0x0⟩ T) : ∀ a0 a1, Kept T
    s0 a1 →
    Kept T s0 (skyTxEn a0 a1) := by
  intro a0 a1 h1
  unfold skyTxEn
  extract_lets +onlyGivenNames -merge x0
  exact (kept_State_setFld (tr (by decide) hT) _ _ _ _ _ (kept_State_setFld (tr (by decide) hT) _ _ _ _ _ h1 (hasR_of
      ixR_SKY_TX_EN (by decide) hT)) (hasR_of ixR_SKY_STATE (by decide) hT))

theorem kept_epochStart {T : Touch} {s0 : State} (hT : Touch.le ⟨4265985, 0x817180610008080000000000000000000000,
    0x450000000000010680000000000000000000000000⟩ T) : ∀ a0 a1, Kept T s0 a1 →
    Kept T s0 (epochStart a0 a1) := by
  intro a0 a1 h1
  unfold epochStart
  exact (ite_holds (P := (Kept T s0)) h1 (kept_beginEpoch (tr (by decide) hT) _ _ _ h1))

theorem kept_execEpochStart {T : Touch} {s0 : State} (hT : Touch.le ⟨4265985, 0x817180610008080000000000000000000000,
    0x450000000000010680000000000000000000000000⟩ T) : ∀ a0 a1 a2, Kept T s0 a2 →
    ResKept T s0 (execEpochStart a0 a1 a2) := by
  intro a0 a1 a2 h2
  unfold execEpochStart
  refine next_kept ?_
  exact (kept_epochStart (tr (by decide) hT) _ _ h2)

theorem kept_execSkyCtrlWrite {T : Touch} {s0 : State} (hT : Touch.le ⟨8199169, 0x70460100e00a2000000180000000000000,
    0x41094040000000000000024000000000000000000⟩ T) : ∀ a0 a1 a2, Kept T s0 a2 →
    ResKept T s0 (execSkyCtrlWrite a0 a1 a2) := by
  intro a0 a1 a2 h2
  unfold execSkyCtrlWrite
  refine next_kept ?_
  refine kept_far (tr (by decide) hT) _ _ _ ?_ h2
  · intro y0 hy0
    exact (kept_skyCtrl (tr (by decide) hT) _ _ hy0)

theorem kept_execSkyTxEnWrite {T : Touch} {s0 : State} (hT : Touch.le ⟨1536,
    0x6000000000000000000000000000000c0000000000000000000000, 0x800000000000000000000000000000000000000000000000⟩ T)
    : ∀ a0 a1 a2, Kept T s0 a2 →
    ResKept T s0 (execSkyTxEnWrite a0 a1 a2) := by
  intro a0 a1 a2 h2
  unfold execSkyTxEnWrite
  extract_lets +onlyGivenNames -merge x0
  refine next_kept ?_
  refine kept_guarded (tr (by decide) hT) _ _ _ ?_ h2
  · intro y1 hy1
    refine kept_far (tr (by decide) hT) _ _ _ ?_ hy1
    · intro y2 hy2
      exact (kept_skyTxEn (tr (by decide) hT) _ _ hy2)

/-! ### Machine/SkyTx.lean -/

theorem kept_balance {T : Touch} {s0 : State} (hT : Touch.le ⟨4194304, 0x0, 0xc000000000000000000000000000⟩ T) : ∀ a0
    a1 a2 a3 a4, Kept T s0 a4 →
    Kept T s0 (balance a0 a1 a2 a3 a4) := by
  intro a0 a1 a2 a3 a4 h4
  unfold balance
  extract_lets +onlyGivenNames -merge x0
  refine ite_holds (P := (Kept T s0)) ?_ ?_
  · exact h4
  · extract_lets +onlyGivenNames -merge x1
    extract_lets +onlyGivenNames -merge x2
    have hx2 : Kept T s0 x2 := (kept_setSlane (tr (by decide) hT) _ _ _ h4)
    clear_value x2
    exact (kept_State_countIf (tr (by decide) hT) _ _ _ _ _ (kept_State_countIf (tr (by decide) hT) _ _ _ _ _ hx2
        (hasC_of ixC_SKY_TX_NJ_CNT (by decide) hT)) (hasC_of ixC_SKY_TX_PJ_CNT (by decide) hT))

theorem kept_cellFailed {T : Touch} {s0 : State} (hT : Touch.le ⟨7608320,
    0x680000000000006000000000000000300000000000000, 0x500000000000000000000000004080000000000000000000⟩ T) : ∀ a0 a1
    a2, Kept T s0 a2 →
    Kept T s0 (cellFailed a0 a1 a2) := by
  intro a0 a1 a2 h2
  unfold cellFailed
  extract_lets +onlyGivenNames -merge x0
  have hx0 : Kept T s0 x0 := (kept_skyGone (tr (by decide) hT) _ _ (kept_quarFail (tr (by decide) hT) _ _ _
      (kept_State_count _ _ _ _ _ h2 (hasC_of ixC_BUF_ONDIE_CRC_CELL_CNT (by decide) hT))))
  clear_value x0
  exact (ite_holds (P := (Kept T s0)) (kept_addCredit (tr (by decide) hT) _ _ _ (kept_setPair (tr (by decide) hT) _ _
      _ hx0)) hx0)

theorem kept_cellSent {T : Touch} {s0 : State} (hT : Touch.le ⟨3414016, 0x4000000000000000180000000000000,
    0x1c00000000000000024000000000000000000⟩ T) : ∀ a0 a1 a2, Kept T s0 a2 →
    Kept T s0 (cellSent a0 a1 a2) := by
  intro a0 a1 a2 h2
  unfold cellSent
  extract_lets +onlyGivenNames -merge x0
  extract_lets +onlyGivenNames -merge x1
  have hx1 : Kept T s0 x1 := (kept_dropCell (tr (by decide) hT) _ _ _ h2)
  clear_value x1
  exact (ite_holds (P := (Kept T s0)) (kept_State_led (tr (by decide) hT) _ _ _ _ (kept_State_count _ _ _ _ _ hx1
      (hasC_of ixC_SKY_TX_RELAY_CELL_CNT (by decide) hT))) (ite_holds (P := (Kept T s0)) (kept_State_led (tr (by
      decide) hT) _ _ _ _ (kept_State_count _ _ _ _ _ hx1 (hasC_of ixC_SKY_TX_CELL_CNT (by decide) hT)))
      (kept_State_count _ _ _ _ _ hx1 (hasC_of ixC_SKY_RELAY_FWD_CELL_CNT (by decide) hT))))

theorem kept_choose {T : Touch} {s0 : State} (hT : Touch.le ⟨6553600, 0x2000000002000000000000000000000, 0x0⟩ T) : ∀
    a0 a1 a2 a3 a4 a5 a6 a7, Kept T s0 a7 →
    Kept T s0 (choose a0 a1 a2 a3 a4 a5 a6 a7) := by
  intro a0 a1 a2 a3 a4 a5 a6 a7 h7
  unfold choose
  split
  · exact h7
  · extract_lets +onlyGivenNames -merge x4
    extract_lets +onlyGivenNames -merge x5
    extract_lets +onlyGivenNames -merge x6
    have hx6 : Kept T s0 x6 := (kept_noteDepth (tr (by decide) hT) _ _ h7)
    clear_value x6
    extract_lets +onlyGivenNames -merge x7
    have hx7 : Kept T s0 x7 := (kept_setSlane (tr (by decide) hT) _ _ _ hx6)
    clear_value x7
    extract_lets +onlyGivenNames -merge x8
    extract_lets +onlyGivenNames -merge x9
    have hx9 : Kept T s0 x9 := (kept_popHead (tr (by decide) hT) _ _ (kept_up4194304 (land_le (by decide) hT.1) hx7))
    clear_value x9
    exact (ite_holds (P := (Kept T s0)) (kept_addCredit (tr (by decide) hT) _ _ _ (kept_setPair (tr (by decide) hT) _
        _ _ hx9)) hx9)

theorem kept_noteOffer {T : Touch} {s0 : State} (hT : Touch.le ⟨4194304, 0x0, 0x0⟩ T) : ∀ a0 a1 a2 a3, Kept T s0 a3 →
    Kept T s0 (noteOffer a0 a1 a2 a3) := by
  intro a0 a1 a2 a3 h3
  unfold noteOffer
  exact (kept_up4194304 (land_le (by decide) hT.1) h3)

theorem kept_sendBurst {T : Touch} {s0 : State} (hT : Touch.le ⟨4194560, 0x0, 0x80000000000000000000000000000000⟩ T)
    : ∀ a0 a1 a2, Kept T s0 a2 →
    Kept T s0 (sendBurst a0 a1 a2) := by
  intro a0 a1 a2 h2
  unfold sendBurst
  extract_lets +onlyGivenNames -merge x0
  extract_lets +onlyGivenNames -merge x1
  extract_lets +onlyGivenNames -merge x2
  extract_lets +onlyGivenNames -merge x3
  have hx3 : Kept T s0 x3 := (kept_setSlane (tr (by decide) hT) _ _ _ h2)
  clear_value x3
  exact (kept_State_emit (tr (by decide) hT) _ _ (kept_State_count _ _ _ _ _ hx3 (hasC_of ixC_SKY_TX_BURST_CNT (by
      decide) hT)))

theorem kept_sendData {T : Touch} {s0 : State} (hT : Touch.le ⟨7608576,
    0x680000000000006000000002000000380000000000000, 0x500000000001c0008000c0000040a4000000000000000000⟩ T) : ∀ a0 a1
    a2 a3 a4, Kept T s0 a4 →
    Kept T s0 (sendData a0 a1 a2 a3 a4) := by
  intro a0 a1 a2 a3 a4 h4
  unfold sendData
  extract_lets +onlyGivenNames -merge x0
  extract_lets +onlyGivenNames -merge x1
  have hx1 : Kept T s0 x1 := (ite_holds (P := (Kept T s0)) h4 (kept_returnChosen (tr (by decide) hT) _ _ _ h4))
  clear_value x1
  extract_lets +onlyGivenNames -merge x2
  have hx2 : Kept T s0 x2 := (kept_balance (tr (by decide) hT) _ _ _ _ _ hx1)
  clear_value x2
  extract_lets +onlyGivenNames -merge x3
  have hx3 : Kept T s0 x3 := (kept_returnChosen (tr (by decide) hT) _ _ _ hx2)
  clear_value x3
  extract_lets +onlyGivenNames -merge x4
  extract_lets +onlyGivenNames -merge x5
  extract_lets +onlyGivenNames -merge x6
  extract_lets +onlyGivenNames -merge x7
  have hx7 : Kept T s0 x7 := (foldl_holds (P := (Kept T s0)) (fun _ _ hm8 => (kept_noteDepth (tr (by decide) hT) _ _
      hm8)) hx3)
  clear_value x7
  extract_lets +onlyGivenNames -merge x9
  have hx9 : Kept T s0 x9 := (kept_setSlane (tr (by decide) hT) _ _ _ hx7)
  clear_value x9
  extract_lets +onlyGivenNames -merge x10
  extract_lets +onlyGivenNames -merge x11
  have hx11 : Kept T s0 x11 := (kept_grant (tr (by decide) hT) _ _ _ _ hx9)
  clear_value x11
  extract_lets +onlyGivenNames -merge x12
  extract_lets +onlyGivenNames -merge x13
  have hx13 : Kept T s0 x13 := (kept_sendBurst (tr (by decide) hT) _ _ _ hx11)
  clear_value x13
  extract_lets +onlyGivenNames -merge x14
  have hx14 : Kept T s0 x14 := (kept_noteOffer (tr (by decide) hT) _ _ _ _ hx13)
  clear_value x14
  extract_lets +onlyGivenNames -merge x15
  have hx15 : Kept T s0 x15 := (foldl_holds (P := (Kept T s0)) (fun _ _ hm16 => (kept_cellSent (tr (by decide) hT) _
      _ _ hm16)) hx14)
  clear_value x15
  extract_lets +onlyGivenNames -merge x17
  have hx17 : Kept T s0 x17 := (foldl_holds (P := (Kept T s0)) (fun _ _ hm18 => (kept_cellFailed (tr (by decide) hT)
      _ _ _ hm18)) hx15)
  clear_value x17
  exact (foldl_holds (P := (Kept T s0)) (fun _ _ hm19 => (kept_boundSync (tr (by decide) hT) _ _ hm19)) hx17)

theorem kept_dataSlotTx {T : Touch} {s0 : State} (hT : Touch.le ⟨7608576,
    0x680000000000006000000002000000380000000000000, 0x500000000001c0008000e0000040a4000000000000000000⟩ T) : ∀ a0 a1
    a2, Kept T s0 a2 →
    Kept T s0 (dataSlotTx a0 a1 a2) := by
  intro a0 a1 a2 h2
  unfold dataSlotTx
  extract_lets +onlyGivenNames -merge x0
  refine ite_holds (P := (Kept T s0)) ?_ ?_
  · exact h2
  · extract_lets +onlyGivenNames -merge x1
    subst x1
    beta_reduce
    split
    · extract_lets +onlyGivenNames -merge x3
      have hx3 : Kept T s0 x3 := (kept_balance (tr (by decide) hT) _ _ _ _ _ (kept_returnChosen (tr (by decide) hT) _
          _ _ h2))
      clear_value x3
      exact (kept_setSlane (tr (by decide) hT) _ _ _ hx3)
    · refine ite_holds (P := (Kept T s0)) ?_ ?_
      · extract_lets +onlyGivenNames -merge x6
        have hx6 : Kept T s0 x6 := (kept_balance (tr (by decide) hT) _ _ _ _ _ (kept_returnChosen (tr (by decide) hT)
            _ _ _ h2))
        clear_value x6
        exact (kept_setSlane (tr (by decide) hT) _ _ _ hx6)
      · refine ite_holds (P := (Kept T s0)) ?_ ?_
        · exact (kept_sendData (tr (by decide) hT) _ _ _ _ _ h2)
        · exact (kept_State_count _ _ _ _ _ (kept_setSlane (tr (by decide) hT) _ _ _ (kept_balance (tr (by decide)
            hT) _ _ _ _ _ (kept_returnChosen (tr (by decide) hT) _ _ _ h2))) (hasC_of ixC_SKY_NO_PEER_SLOT_CNT (by
            decide) hT))

theorem kept_freeBytes {T : Touch} {s0 : State} (hT : Touch.le ⟨128, 0x0, 0x0⟩ T) : ∀ a0 a1, Kept T s0 a1 →
    Snd (Kept T s0) (freeBytes a0 a1) := by
  intro a0 a1 h1
  unfold freeBytes
  refine snd_holds (P := (Kept T s0)) ?_
  exact (kept_up128 (land_le (by decide) hT.1) h1)

theorem kept_echoBytes {T : Touch} {s0 : State} (hT : Touch.le ⟨128, 0x0, 0x0⟩ T) : ∀ a0 a1 a2 a3, Kept T s0 a3 →
    Snd (Kept T s0) (echoBytes a0 a1 a2 a3) := by
  intro a0 a1 a2 a3 h3
  unfold echoBytes
  split
  · refine snd_holds (P := (Kept T s0)) ?_
    exact h3
  · split
    · rename_i v3 v4 heq5
      have hv4 : Kept T s0 v4 := holds_eq (P := (Snd (Kept T s0))) heq5 (by
          exact (kept_freeBytes (tr (by decide) hT) _ _ h3))
      split
      · rename_i v6 v7 heq8
        have hv7 : Kept T s0 v7 := holds_eq (P := (Snd (Kept T s0))) heq8 (by
            exact (kept_freeBytes (tr (by decide) hT) _ _ hv4))
        refine snd_holds (P := (Kept T s0)) ?_
        exact hv7

theorem kept_execDataSlotTx {T : Touch} {s0 : State} (hT : Touch.le ⟨7608576,
    0x680000000000006000000002000000380000000000000, 0x500000000001c0008000e0000040a4000000000000000000⟩ T) : ∀ a0 a1
    a2, Kept T s0 a2 →
    ResKept T s0 (execDataSlotTx a0 a1 a2) := by
  intro a0 a1 a2 h2
  unfold execDataSlotTx
  refine next_kept ?_
  exact (kept_dataSlotTx (tr (by decide) hT) _ _ _ h2)

theorem kept_roundPick {T : Touch} {s0 : State} (hT : Touch.le ⟨6553600, 0x2000000000000000000000, 0x0⟩ T) : ∀ a0 a1
    a2 a3, Kept T s0 a3 →
    Snd (Kept T s0) (roundPick a0 a1 a2 a3) := by
  intro a0 a1 a2 a3 h3
  unfold roundPick
  split
  · refine snd_holds (P := (Kept T s0)) ?_
    exact h3
  · extract_lets +onlyGivenNames -merge x3
    extract_lets +onlyGivenNames -merge x4
    extract_lets +onlyGivenNames -merge x5
    extract_lets +onlyGivenNames -merge x6
    subst x6
    beta_reduce
    extract_lets +onlyGivenNames -merge x7
    have hx7 : Kept T s0 x7 := (ite_holds (P := (Kept T s0)) h3 (foldl_holds (P := (Kept T s0)) (fun _ _ hm8 =>
        (kept_setQueue (tr (by decide) hT) _ _ _ hm8)) h3))
    clear_value x7
    split
    · extract_lets +onlyGivenNames -merge x11
      extract_lets +onlyGivenNames -merge x12
      have hx12 : Kept T s0 x12 := (kept_setQueue (tr (by decide) hT) _ _ _ hx7)
      clear_value x12
      refine snd_holds (P := (Kept T s0)) ?_
      exact (kept_up4194304 (land_le (by decide) hT.1) hx12)
    · refine snd_holds (P := (Kept T s0)) ?_
      exact hx7

theorem kept_pickClasses {T : Touch} {s0 : State} (hT : Touch.le ⟨6553600, 0x2000000000000000000000, 0x0⟩ T) : ∀ a0
    a1 a2 a3 a4, Kept T s0 a4 →
    Snd (Kept T s0) (pickClasses a0 a1 a2 a3 a4) := by
  intro a0 a1 a2 a3 a4 h4
  unfold pickClasses
  extract_lets +onlyGivenNames -merge x0
  split
  · refine snd_holds (P := (Kept T s0)) ?_
    exact h4
  · extract_lets +onlyGivenNames -merge x4
    exact (kept_roundPick (tr (by decide) hT) _ _ _ _ h4)

theorem kept_pickDirect {T : Touch} {s0 : State} (hT : Touch.le ⟨6553600, 0x2000000000000000000000, 0x0⟩ T) : ∀ a0 a1
    a2 a3, Kept T s0 a3 →
    Snd (Kept T s0) (pickDirect a0 a1 a2 a3) := by
  intro a0 a1 a2 a3 h3
  unfold pickDirect
  extract_lets +onlyGivenNames -merge x0
  subst x0
  beta_reduce
  refine ite_holds (P := (Snd (Kept T s0))) ?_ ?_
  · refine snd_holds (P := (Kept T s0)) ?_
    exact h3
  · exact (kept_pickClasses (tr (by decide) hT) _ _ _ _ _ h3)

theorem kept_pickRelay {T : Touch} {s0 : State} (hT : Touch.le ⟨6553600, 0x2000000000000000000000, 0x0⟩ T) : ∀ a0 a1
    a2 a3, Kept T s0 a3 →
    Snd (Kept T s0) (pickRelay a0 a1 a2 a3) := by
  intro a0 a1 a2 a3 h3
  unfold pickRelay
  refine ite_holds (P := (Snd (Kept T s0))) ?_ ?_
  · extract_lets +onlyGivenNames -merge x0
    extract_lets +onlyGivenNames -merge x1
    split
    · refine snd_holds (P := (Kept T s0)) ?_
      exact h3
    · exact (kept_pickClasses (tr (by decide) hT) _ _ _ _ _ (kept_setSlane (tr (by decide) hT) _ _ _ h3))
  · refine snd_holds (P := (Kept T s0)) ?_
    exact h3

theorem kept_fillPos {T : Touch} {s0 : State} (hT : Touch.le ⟨6553600, 0x2000000002000000000000000000000, 0x0⟩ T) : ∀
    a0 a1 a2 a3 a4 a5, Kept T s0 a5 →
    Kept T s0 (fillPos a0 a1 a2 a3 a4 a5) := by
  intro a0 a1 a2 a3 a4 a5 h5
  unfold fillPos
  split
  · rename_i v0 v1 heq2
    have hv1 : Kept T s0 v1 := holds_eq (P := (Snd (Kept T s0))) heq2 (by
        exact (kept_pickDirect (tr (by decide) hT) _ _ _ _ h5))
    exact (kept_choose (tr (by decide) hT) _ _ _ _ _ _ _ _ hv1)
  · rename_i v3 heq4
    have hv3 : Kept T s0 v3 := holds_eq (P := (Snd (Kept T s0))) heq4 (by
        exact (kept_pickDirect (tr (by decide) hT) _ _ _ _ h5))
    split
    · rename_i v5 v6 heq7
      have hv6 : Kept T s0 v6 := holds_eq (P := (Snd (Kept T s0))) heq7 (by
          exact (kept_pickRelay (tr (by decide) hT) _ _ _ _ hv3))
      exact (kept_choose (tr (by decide) hT) _ _ _ _ _ _ _ _ hv6)
    · rename_i v8 heq9
      have hv8 : Kept T s0 v8 := holds_eq (P := (Snd (Kept T s0))) heq9 (by
          exact (kept_pickRelay (tr (by decide) hT) _ _ _ _ hv3))
      exact hv8

theorem kept_fillLane {T : Touch} {s0 : State} (hT : Touch.le ⟨6553600, 0x2000000002000000000000000000000, 0x0⟩ T) :
    ∀ a0 a1 a2 a3, Kept T s0 a3 →
    Kept T s0 (fillLane a0 a1 a2 a3) := by
  intro a0 a1 a2 a3 h3
  unfold fillLane
  refine ite_holds (P := (Kept T s0)) ?_ ?_
  · exact h3
  · extract_lets +onlyGivenNames -merge x0
    have hx0 : Kept T s0 x0 := (kept_returnChosen (tr (by decide) hT) _ _ _ h3)
    clear_value x0
    extract_lets +onlyGivenNames -merge x1
    extract_lets +onlyGivenNames -merge x2
    have hx2 : Kept T s0 x2 := (kept_setSlane (tr (by decide) hT) _ _ _ hx0)
    clear_value x2
    split
    · exact hx2
    · exact (ite_holds (P := (Kept T s0)) (foldl_holds (P := (Kept T s0)) (fun _ _ hm6 => (kept_fillPos (tr (by
        decide) hT) _ _ _ _ _ _ hm6)) hx2) hx2)

theorem kept_openLane {T : Touch} {s0 : State} (hT : Touch.le ⟨4194304, 0x0, 0x0⟩ T) : ∀ a0 a1, Kept T s0 a1 →
    Kept T s0 (openLane a0 a1) := by
  intro a0 a1 h1
  unfold openLane
  exact (kept_setSlane (tr (by decide) hT) _ _ _ h1)

theorem kept_slotFill {T : Touch} {s0 : State} (hT : Touch.le ⟨7077888, 0x2000000002000000000000000000000,
    0x8000000000000000000000000000000000000⟩ T) : ∀ a0 a1, Kept T s0 a1 →
    Kept T s0 (slotFill a0 a1) := by
  intro a0 a1 h1
  unfold slotFill
  extract_lets +onlyGivenNames -merge x0
  extract_lets +onlyGivenNames -merge x1
  extract_lets +onlyGivenNames -merge x2
  have hx2 : Kept T s0 x2 := (foldl_holds (P := (Kept T s0)) (fun _ _ hm3 => (kept_openLane (tr (by decide) hT) _ _
      hm3)) (kept_moveLanes (tr (by decide) hT) _ _ h1))
  clear_value x2
  exact (ite_holds (P := (Kept T s0)) hx2 (foldl_holds (P := (Kept T s0)) (fun _ _ hm4 => (kept_fillLane (tr (by
      decide) hT) _ _ _ _ hm4)) hx2))

theorem kept_execSlotFill {T : Touch} {s0 : State} (hT : Touch.le ⟨7077888, 0x2000000002000000000000000000000,
    0x8000000000000000000000000000000000000⟩ T) : ∀ a0 a1, Kept T s0 a1 →
    ResKept T s0 (execSlotFill a0 a1) := by
  intro a0 a1 h1
  unfold execSlotFill
  refine next_kept ?_
  exact (kept_slotFill (tr (by decide) hT) _ _ h1)

theorem kept_nextBytes {T : Touch} {s0 : State} (hT : Touch.le ⟨128, 0x0, 0x0⟩ T) : ∀ a0, Kept T s0 a0 →
    Snd (Kept T s0) (nextBytes a0) := by
  intro a0 h0
  unfold nextBytes
  refine ite_holds (P := (Snd (Kept T s0))) ?_ ?_
  · refine snd_holds (P := (Kept T s0)) ?_
    exact h0
  · exact (kept_freeBytes (tr (by decide) hT) _ _ h0)

theorem kept_timeFrame {T : Touch} {s0 : State} (hT : Touch.le ⟨128, 0x0, 0x0⟩ T) : ∀ a0 a1 a2 a3, Kept T s0 a3 →
    Snd (Kept T s0) (timeFrame a0 a1 a2 a3) := by
  intro a0 a1 a2 a3 h3
  unfold timeFrame
  split
  · rename_i v0 v1 heq2
    have hv1 : Kept T s0 v1 := holds_eq (P := (Snd (Kept T s0))) heq2 (by
        exact (kept_nextBytes (tr (by decide) hT) _ h3))
    split
    · rename_i v3 v4 heq5
      have hv4 : Kept T s0 v4 := holds_eq (P := (Snd (Kept T s0))) heq5 (by
          exact (kept_echoBytes (tr (by decide) hT) _ _ _ _ hv1))
      extract_lets +onlyGivenNames -merge x6
      refine snd_holds (P := (Kept T s0)) ?_
      exact hv4

theorem kept_syncSlotTx {T : Touch} {s0 : State} (hT : Touch.le ⟨4194688, 0x0, 0x80000000000000000000000000000000⟩ T)
    : ∀ a0 a1, Kept T s0 a1 →
    Kept T s0 (syncSlotTx a0 a1) := by
  intro a0 a1 h1
  unfold syncSlotTx
  extract_lets +onlyGivenNames -merge x0
  refine ite_holds (P := (Kept T s0)) ?_ ?_
  · extract_lets +onlyGivenNames -merge x1
    extract_lets +onlyGivenNames -merge x2
    extract_lets +onlyGivenNames -merge x3
    split
    · rename_i v4 v5 heq6
      have hv5 : Kept T s0 v5 := holds_eq (P := (Snd (Kept T s0))) heq6 (by
          exact (kept_timeFrame (tr (by decide) hT) _ _ _ _ h1))
      extract_lets +onlyGivenNames -merge x7
      exact (kept_sendBurst (tr (by decide) hT) _ _ _ hv5)
  · exact h1

theorem kept_execSyncSlotTx {T : Touch} {s0 : State} (hT : Touch.le ⟨4194688, 0x0,
    0x80000000000000000000000000000000⟩ T) : ∀ a0 a1, Kept T s0 a1 →
    ResKept T s0 (execSyncSlotTx a0 a1) := by
  intro a0 a1 h1
  unfold execSyncSlotTx
  refine next_kept ?_
  exact (kept_syncSlotTx (tr (by decide) hT) _ _ h1)

/-! ### Machine/SkyRx.lean -/

theorem kept_deliver {T : Touch} {s0 : State} (hT : Touch.le ⟨3938304, 0x4000000000000000180000000000000,
    0x2800000000000000000024000000000000000000⟩ T) : ∀ a0 a1 a2 a3, Kept T s0 a3 →
    Kept T s0 (deliver a0 a1 a2 a3) := by
  intro a0 a1 a2 a3 h3
  unfold deliver
  refine ite_holds (P := (Kept T s0)) ?_ ?_
  · extract_lets +onlyGivenNames -merge x0
    extract_lets +onlyGivenNames -merge x1
    extract_lets +onlyGivenNames -merge x2
    have hx2 : Kept T s0 x2 := (kept_State_led (tr (by decide) hT) _ _ _ _ (kept_State_count _ _ _ _ _ h3 (hasC_of
        ixC_SKY_PAIR_FRAME_CNT (by decide) hT)))
    clear_value x2
    exact (kept_feedPut (tr (by decide) hT) _ _ _ hx2)
  · exact (kept_streamDrop (tr (by decide) hT) _ _ _ _ (hasC_of ixC_SKY_PAIR_FORMAT_DISCARD_CNT (by decide) hT)
      (foldl_holds (P := (Kept T s0)) (fun _ _ hm3 => (kept_dropCell (tr (by decide) hT) _ _ _ hm3)) h3))

theorem kept_releaseOpen {T : Touch} {s0 : State} (hT : Touch.le ⟨3414016, 0x4000000000000000180000000000000,
    0x24000000000000000000⟩ T) : ∀ a0 a1, Kept T s0 a1 →
    Snd (Kept T s0) (releaseOpen a0 a1) := by
  intro a0 a1 h1
  unfold releaseOpen
  refine snd_holds (P := (Kept T s0)) ?_
  exact (foldl_holds (P := (Kept T s0)) (fun _ _ hm0 => (kept_dropCell (tr (by decide) hT) _ _ _ hm0)) h1)

theorem kept_assemble {T : Touch} {s0 : State} (hT : Touch.le ⟨3938304, 0x4000000000000000180000000000000,
    0x2800000000000000000024000000000000000000⟩ T) : ∀ a0 a1 a2 a3 a4, Kept T s0 a4 →
    Snd (Kept T s0) (assemble a0 a1 a2 a3 a4) := by
  intro a0 a1 a2 a3 a4 h4
  unfold assemble
  extract_lets +onlyGivenNames -merge x0
  refine ite_holds (P := (Snd (Kept T s0))) ?_ ?_
  · refine snd_holds (P := (Kept T s0)) ?_
    exact (kept_dropCell (tr (by decide) hT) _ _ _ h4)
  · extract_lets +onlyGivenNames -merge x1
    refine ite_holds (P := (Snd (Kept T s0))) ?_ ?_
    · split
      · rename_i v2 v3 heq4
        have hv3 : Kept T s0 v3 := holds_eq (P := (Snd (Kept T s0))) heq4 (by
            refine ite_holds (P := (Snd (Kept T s0))) ?_ ?_
            · refine snd_holds (P := (Kept T s0)) ?_
              exact h4
            · split
              · rename_i v5 v6 heq7
                have hv6 : Kept T s0 v6 := holds_eq (P := (Snd (Kept T s0))) heq7 (by
                    exact (kept_releaseOpen (tr (by decide) hT) _ _ h4))
                refine snd_holds (P := (Kept T s0)) ?_
                exact (kept_streamDrop (tr (by decide) hT) _ _ _ _ (hasC_of ixC_SKY_PAIR_FORMAT_DISCARD_CNT (by
                    decide) hT) hv6))
        refine ite_holds (P := (Snd (Kept T s0))) ?_ ?_
        · refine snd_holds (P := (Kept T s0)) ?_
          exact (kept_deliver (tr (by decide) hT) _ _ _ _ hv3)
        · refine snd_holds (P := (Kept T s0)) ?_
          exact hv3
    · refine ite_holds (P := (Snd (Kept T s0))) ?_ ?_
      · refine snd_holds (P := (Kept T s0)) ?_
        exact (kept_streamDrop (tr (by decide) hT) _ _ _ _ (hasC_of ixC_SKY_PAIR_FORMAT_DISCARD_CNT (by decide) hT)
            (kept_dropCell (tr (by decide) hT) _ _ _ h4))
      · extract_lets +onlyGivenNames -merge x8
        refine ite_holds (P := (Snd (Kept T s0))) ?_ ?_
        · refine snd_holds (P := (Kept T s0)) ?_
          exact (kept_deliver (tr (by decide) hT) _ _ _ _ h4)
        · refine snd_holds (P := (Kept T s0)) ?_
          exact h4

theorem kept_laneEvent {T : Touch} {s0 : State} (hT : Touch.le ⟨6144,
    0x600000000000000010000000000000000000000000000, 0x400000000000000000000000000000000000000000000000⟩ T) : ∀ a0 a1
    a2 a3, Kept T s0 a3 →
    Kept T s0 (laneEvent a0 a1 a2 a3) := by
  intro a0 a1 a2 a3 h3
  unfold laneEvent
  split
  · rename_i v0 v1 heq2
    have hv0 : Kept T s0 v0 := holds_eq (P := (Fst (Kept T s0))) heq2 (by
        exact (kept_winEvent (tr (by decide) hT) _ _ _ h3))
    extract_lets +onlyGivenNames -merge x3
    extract_lets +onlyGivenNames -merge x4
    extract_lets +onlyGivenNames -merge x5
    have hx5 : Kept T s0 x5 := (kept_setWin (tr (by decide) hT) _ _ _ _ hv0)
    clear_value x5
    refine ite_holds (P := (Kept T s0)) ?_ ?_
    · extract_lets +onlyGivenNames -merge x6
      have hx6 : Kept T s0 x6 := (kept_State_setFld (tr (by decide) hT) _ _ _ _ _ hx5 (ite_holds (P := fun x : Fld =>
          Touch.hasR T x.reg) (hasR_of ixR_SKY_LANE_ALARM (by decide) hT) (hasR_of ixR_SKY_LANE_ALARM (by decide)
          hT)))
      clear_value x6
      exact (kept_fault (tr (by decide) hT) _ _ _ _ _ hx6)
    · exact hx5

theorem kept_countClass {T : Touch} {s0 : State} (hT : Touch.le ⟨6144,
    0x600000000000000010000000000000000000000000000, 0x400000000000006c00000000000000000000000000000000⟩ T) : ∀ a0 a1
    a2, Kept T s0 a2 →
    Kept T s0 (countClass a0 a1 a2) := by
  intro a0 a1 a2 h2
  unfold countClass
  split
  · exact h2
  · exact (kept_laneEvent (tr (by decide) hT) _ _ _ _ (kept_State_count _ _ _ _ _ (kept_State_count _ _ _ _ _ h2
      (hasC_of ixC_SKY_LANE_NOISE_CNT (by decide) hT)) (hasC_of ixC_SKY_SRC_NOISE_CNT (by decide) hT)))
  · exact (kept_laneEvent (tr (by decide) hT) _ _ _ _ (kept_State_count _ _ _ _ _ (kept_State_count _ _ _ _ _ h2
      (hasC_of ixC_SKY_LANE_COLL_CNT (by decide) hT)) (hasC_of ixC_SKY_SRC_COLL_CNT (by decide) hT)))

theorem kept_countJust {T : Touch} {s0 : State} (hT : Touch.le ⟨0, 0x0, 0x32000000000000000000000000000000⟩ T) : ∀ a0
    a1 a2, Kept T s0 a2 →
    Kept T s0 (countJust a0 a1 a2) := by
  intro a0 a1 a2 h2
  unfold countJust
  extract_lets +onlyGivenNames -merge x0
  refine ite_holds (P := (Kept T s0)) ?_ ?_
  · exact (kept_State_countIf (tr (by decide) hT) _ _ _ _ _ h2 (hasC_of ixC_SKY_RX_JUST_ERR_CNT (by decide) hT))
  · extract_lets +onlyGivenNames -merge x1
    have hx1 : Kept T s0 x1 := (kept_State_countIf (tr (by decide) hT) _ _ _ _ _ (kept_State_countIf (tr (by decide)
        hT) _ _ _ _ _ h2 (hasC_of ixC_SKY_RX_NJ_CNT (by decide) hT)) (hasC_of ixC_SKY_RX_PJ_CNT (by decide) hT))
    clear_value x1
    exact (kept_State_countIf (tr (by decide) hT) _ _ _ _ _ hx1 (hasC_of ixC_SKY_RX_JUST_ERR_CNT (by decide) hT))

theorem kept_deskewPut {T : Touch} {s0 : State} (hT : Touch.le ⟨5242880, 0x580000000000000,
    0x10400000000101a000000000000000000⟩ T) : ∀ a0 a1 a2 a3 a4 a5, Kept T s0 a5 →
    Kept T s0 (deskewPut a0 a1 a2 a3 a4 a5) := by
  intro a0 a1 a2 a3 a4 a5 h5
  unfold deskewPut
  extract_lets +onlyGivenNames -merge x0
  extract_lets +onlyGivenNames -merge x1
  have hx1 : Kept T s0 x1 := (kept_State_count _ _ _ _ _ h5 (hasC_of ixC_SKY_RX_CELL_CNT (by decide) hT))
  clear_value x1
  refine ite_holds (P := (Kept T s0)) ?_ ?_
  · exact (kept_State_count _ _ _ _ _ hx1 (hasC_of ixC_SKY_RX_DESKEW_DROP_CNT (by decide) hT))
  · split
    · rename_i v2 heq3
      have hv2 : Kept T s0 v2 := holds_eq (P := (Snd (Kept T s0))) heq3 (by
          exact (kept_reserveTurn (tr (by decide) hT) _ _ _ _ hx1))
      exact (kept_State_count _ _ _ _ _ (kept_State_count _ _ _ _ _ hv2 (hasC_of ixC_BUF_RX_NOBUF_CELL_CNT (by
          decide) hT)) (hasC_of ixC_BUF_NOBUF_CNT (by decide) hT))
    · rename_i v4 heq5
      have hv4 : Kept T s0 v4 := holds_eq (P := (Snd (Kept T s0))) heq5 (by
          exact (kept_reserveTurn (tr (by decide) hT) _ _ _ _ hx1))
      split
      · rename_i v6 v7 heq8
        have hv7 : Kept T s0 v7 := holds_eq (P := (Snd (Kept T s0))) heq8 (by
            exact (kept_allocRsv (tr (by decide) hT) _ _ hv4))
        exact (kept_up4194304 (land_le (by decide) hT.1) hv7)

theorem kept_drain {T : Touch} {s0 : State} (hT : Touch.le ⟨3938304, 0x4000000000000000180000000000000,
    0x2800000000000000000024000000000000000000⟩ T) : ∀ a0 a1 a2 a3 a4, Kept T s0 a4 →
    Snd (Kept T s0) (drain a0 a1 a2 a3 a4) := by
  intro src c n
  induction n with
  | zero => exact fun r s h => h
  | succ n ih =>
    intro r s h
    unfold drain
    split
    · exact h
    · exact ih _ _ (kept_assemble (tr (by decide) hT) _ _ _ _ _ h)

theorem kept_resolve {T : Touch} {s0 : State} (hT : Touch.le ⟨3938304, 0x4000000000000000180000000000000,
    0x3880000000000000000024000000000000000000⟩ T) : ∀ a0 a1 a2 a3, Kept T s0 a3 →
    Snd (Kept T s0) (resolve a0 a1 a2 a3) := by
  intro a0 a1 a2 a3 h3
  unfold resolve
  split
  · refine snd_holds (P := (Kept T s0)) ?_
    exact h3
  · extract_lets +onlyGivenNames -merge x3
    have hx3 : Kept T s0 x3 := (kept_State_count _ _ _ _ _ h3 (hasC_of ixC_SKY_PAIR_LOST_CNT (by decide) hT))
    clear_value x3
    extract_lets +onlyGivenNames -merge x4
    have hx4 : Kept T s0 x4 := (kept_streamDrop (tr (by decide) hT) _ _ _ _ (hasC_of ixC_SKY_PAIR_FRAME_DISCARD_CNT
        (by decide) hT) hx3)
    clear_value x4
    split
    · rename_i v5 v6 heq7
      have hv6 : Kept T s0 v6 := holds_eq (P := (Snd (Kept T s0))) heq7 (by
          exact (kept_releaseOpen (tr (by decide) hT) _ _ hx4))
      exact (kept_drain (tr (by decide) hT) _ _ _ _ _ hv6)

theorem kept_onCell {T : Touch} {s0 : State} (hT : Touch.le ⟨8132608, 0x4000000000000000180000000000000,
    0x3fc0000000000000000024000000000000000000⟩ T) : ∀ a0 a1 a2, Kept T s0 a2 →
    Kept T s0 (onCell a0 a1 a2) := by
  intro a0 a1 a2 h2
  unfold onCell
  extract_lets +onlyGivenNames -merge x0
  extract_lets +onlyGivenNames -merge x1
  extract_lets +onlyGivenNames -merge x2
  extract_lets +onlyGivenNames -merge x3
  refine ite_holds (P := (Kept T s0)) ?_ ?_
  · exact (kept_dropCell (tr (by decide) hT) _ _ _ (kept_State_count _ _ _ _ _ h2 (hasC_of ixC_SKY_PAIR_LATE_CNT (by
      decide) hT)))
  · extract_lets +onlyGivenNames -merge x4
    refine ite_holds (P := (Kept T s0)) ?_ ?_
    · exact (kept_setReseq (tr (by decide) hT) _ _ _ _ (kept_dropCell (tr (by decide) hT) _ _ _ (kept_State_count _ _
        _ _ _ h2 (hasC_of ixC_SKY_PAIR_LATE_CNT (by decide) hT))))
    · refine ite_holds (P := (Kept T s0)) ?_ ?_
      · exact (kept_fault (tr (by decide) hT) _ _ _ _ _ (kept_dropCell (tr (by decide) hT) _ _ _ (kept_State_count _
          _ _ _ _ h2 (hasC_of ixC_SKY_PAIR_DUP_CNT (by decide) hT))))
      · split
        · rename_i v5 v6 heq7
          have hv6 : Kept T s0 v6 := holds_eq (P := (Snd (Kept T s0))) heq7 (by
              refine ite_holds (P := (Snd (Kept T s0))) ?_ ?_
              · exact (kept_resolve (tr (by decide) hT) _ _ _ _ (kept_State_count _ _ _ _ _ h2 (hasC_of
                  ixC_SKY_PAIR_FORCE_CNT (by decide) hT)))
              · refine snd_holds (P := (Kept T s0)) ?_
                exact h2)
          extract_lets +onlyGivenNames -merge x8
          have hx8 : Kept T s0 x8 := (kept_State_count _ _ _ _ _ hv6 (hasC_of ixC_SKY_PAIR_RX_CELL_CNT (by decide)
              hT))
          clear_value x8
          extract_lets +onlyGivenNames -merge x9
          split
          · rename_i v10 v11 heq12
            have hv11 : Kept T s0 v11 := holds_eq (P := (Snd (Kept T s0))) heq12 (by
                exact (kept_drain (tr (by decide) hT) _ _ _ _ _ hx8))
            exact (kept_setReseq (tr (by decide) hT) _ _ _ _ hv11)

theorem kept_relayIn {T : Touch} {s0 : State} (hT : Touch.le ⟨8132608, 0x4000000000000000180000000000000,
    0x2020000000000000024000000000000000000⟩ T) : ∀ a0 a1 a2, Kept T s0 a2 →
    Kept T s0 (relayIn a0 a1 a2) := by
  intro a0 a1 a2 h2
  unfold relayIn
  extract_lets +onlyGivenNames -merge x0
  extract_lets +onlyGivenNames -merge x1
  extract_lets +onlyGivenNames -merge x2
  extract_lets +onlyGivenNames -merge x3
  extract_lets +onlyGivenNames -merge x4
  have hx4 : Kept T s0 x4 := (kept_setPair (tr (by decide) hT) _ _ _ h2)
  clear_value x4
  extract_lets +onlyGivenNames -merge x5
  extract_lets +onlyGivenNames -merge x6
  extract_lets +onlyGivenNames -merge x7
  refine ite_holds (P := (Kept T s0)) ?_ ?_
  · exact (kept_fault (tr (by decide) hT) _ _ _ _ _ (kept_dropCell (tr (by decide) hT) _ _ _ (kept_State_count _ _ _
      _ _ hx4 (hasC_of ixC_SKY_RELAY_OVER_CREDIT_CNT (by decide) hT))))
  · refine ite_holds (P := (Kept T s0)) ?_ ?_
    · exact (kept_dropCell (tr (by decide) hT) _ _ _ (kept_State_count _ _ _ _ _ hx4 (hasC_of
        ixC_SKY_RELAY_NOROUTE_CNT (by decide) hT)))
    · split
      · rename_i v8 v9 heq10
        have hv9 : Kept T s0 v9 := holds_eq (P := (Snd (Kept T s0))) heq10 (by
            exact (kept_spread (tr (by decide) hT) _ _ _ hx4))
        exact (kept_feedPut (tr (by decide) hT) _ _ _ hv9)

theorem kept_released {T : Touch} {s0 : State} (hT : Touch.le ⟨8132608, 0x4000000000000000180000000000000,
    0x3fc2020000000000000024000000000000000000⟩ T) : ∀ a0 a1, Kept T s0 a1 →
    Kept T s0 (released a0 a1) := by
  intro a0 a1 h1
  unfold released
  exact (ite_holds (P := (Kept T s0)) (kept_relayIn (tr (by decide) hT) _ _ _ h1) (kept_onCell (tr (by decide) hT) _
      _ _ h1))

theorem kept_deskewRelease {T : Touch} {s0 : State} (hT : Touch.le ⟨8132608, 0x4000000000000000180000000000000,
    0x3fc2020000000000000024000000000000000000⟩ T) : ∀ a0, Kept T s0 a0 →
    Kept T s0 (deskewRelease a0) := by
  intro a0 h0
  unfold deskewRelease
  split
  · exact h0
  · refine ite_holds (P := (Kept T s0)) ?_ ?_
    · extract_lets +onlyGivenNames -merge x3
      extract_lets +onlyGivenNames -merge x4
      extract_lets +onlyGivenNames -merge x5
      have hx5 : Kept T s0 x5 := (kept_up4194304 (land_le (by decide) hT.1) h0)
      clear_value x5
      exact (foldl_holds (P := (Kept T s0)) (fun _ _ hm6 => (kept_released (tr (by decide) hT) _ _ hm6)) hx5)
    · exact h0

theorem kept_execDeskewRelease {T : Touch} {s0 : State} (hT : Touch.le ⟨8132608, 0x4000000000000000180000000000000,
    0x3fc2020000000000000024000000000000000000⟩ T) : ∀ a0, Kept T s0 a0 →
    ResKept T s0 (execDeskewRelease a0) := by
  intro a0 h0
  unfold execDeskewRelease
  refine next_kept ?_
  refine kept_running (tr (by decide) hT) _ _ ?_ h0
  · intro y0 hy0
    exact (kept_deskewRelease (tr (by decide) hT) _ hy0)

theorem kept_laneRxlos {T : Touch} {s0 : State} (hT : Touch.le ⟨6144, 0x1000000000000000000000000000000,
    0x100000000000000000000000000000000000⟩ T) : ∀ a0 a1, Kept T s0 a1 →
    Kept T s0 (laneRxlos a0 a1) := by
  intro a0 a1 h1
  unfold laneRxlos
  extract_lets +onlyGivenNames -merge x0
  exact (ite_holds (P := (Kept T s0)) (kept_fault (tr (by decide) hT) _ _ _ _ _ (kept_State_count _ _ _ _ _
      (kept_putLaneBit (tr (by decide) hT) _ _ _ _ (hasR_of ixR_SKY_LANE_RXLOS (by decide) hT) h1) (hasC_of
      ixC_SKY_LANE_RXLOS_CNT (by decide) hT))) h1)

theorem kept_execLaneRxlos {T : Touch} {s0 : State} (hT : Touch.le ⟨6144, 0x1000000000000000000000000000000,
    0x100000000000000000000000000000000000⟩ T) : ∀ a0 a1, Kept T s0 a1 →
    ResKept T s0 (execLaneRxlos a0 a1) := by
  intro a0 a1 h1
  unfold execLaneRxlos
  refine next_kept ?_
  exact (kept_laneRxlos (tr (by decide) hT) _ _ h1)

theorem kept_horizonExpiry {T : Touch} {s0 : State} (hT : Touch.le ⟨8132608, 0x4000000000000000180000000000000,
    0x3880000000000000000024000000000000000000⟩ T) : ∀ a0 a1 a2, Kept T s0 a2 →
    Kept T s0 (horizonExpiry a0 a1 a2) := by
  intro a0 a1 a2 h2
  unfold horizonExpiry
  extract_lets +onlyGivenNames -merge x0
  refine ite_holds (P := (Kept T s0)) ?_ ?_
  · split
    · rename_i v1 v2 heq3
      have hv2 : Kept T s0 v2 := holds_eq (P := (Snd (Kept T s0))) heq3 (by
          exact (kept_resolve (tr (by decide) hT) _ _ _ _ h2))
      exact (kept_setReseq (tr (by decide) hT) _ _ _ _ hv2)
  · exact h2

theorem kept_execReseqHorizonExpiry {T : Touch} {s0 : State} (hT : Touch.le ⟨8132608,
    0x4000000000000000180000000000000, 0x3880000000000000000024000000000000000000⟩ T) : ∀ a0 a1 a2, Kept T s0 a2 →
    ResKept T s0 (execReseqHorizonExpiry a0 a1 a2) := by
  intro a0 a1 a2 h2
  unfold execReseqHorizonExpiry
  refine next_kept ?_
  refine kept_running (tr (by decide) hT) _ _ ?_ h2
  · intro y0 hy0
    exact (kept_horizonExpiry (tr (by decide) hT) _ _ _ hy0)

theorem kept_noteSync {T : Touch} {s0 : State} (hT : Touch.le ⟨4194304, 0x1000000000000000000000000000000, 0x0⟩ T) :
    ∀ a0 a1 a2, Kept T s0 a2 →
    Kept T s0 (noteSync a0 a1 a2) := by
  intro a0 a1 a2 h2
  unfold noteSync
  extract_lets +onlyGivenNames -merge x0
  exact (ite_holds (P := (Kept T s0)) (kept_putLaneBit (tr (by decide) hT) _ _ _ _ (hasR_of ixR_SKY_LANE_RXLOS (by
      decide) hT) (kept_setSlane (tr (by decide) hT) _ _ _ h2)) h2)

theorem kept_takeCreditSpare {T : Touch} {s0 : State} (hT : Touch.le ⟨4194304, 0x2000000000000000000000000000000,
    0x0⟩ T) : ∀ a0 a1 a2, Kept T s0 a2 →
    Kept T s0 (takeCreditSpare a0 a1 a2) := by
  intro a0 a1 a2 h2
  unfold takeCreditSpare
  extract_lets +onlyGivenNames -merge x0
  extract_lets +onlyGivenNames -merge x1
  extract_lets +onlyGivenNames -merge x2
  extract_lets +onlyGivenNames -merge x3
  have hx3 : Kept T s0 x3 := (ite_holds (P := (Kept T s0)) h2 (kept_addCredit (tr (by decide) hT) _ _ _ (kept_setPair
      (tr (by decide) hT) _ _ _ h2)))
  clear_value x3
  exact (ite_holds (P := (Kept T s0)) (kept_up4194304 (land_le (by decide) hT.1) hx3) hx3)

theorem kept_takePosition {T : Touch} {s0 : State} (hT : Touch.le ⟨5242880, 0x580000000000000,
    0x30500000000101a000000000000000000⟩ T) : ∀ a0 a1 a2 a3 a4 a5, Kept T s0 a5 →
    Kept T s0 (takePosition a0 a1 a2 a3 a4 a5) := by
  intro a0 a1 a2 a3 a4 a5 h5
  unfold takePosition
  extract_lets +onlyGivenNames -merge x0
  extract_lets +onlyGivenNames -merge x1
  exact (ite_holds (P := (Kept T s0)) (kept_State_count _ _ _ _ _ h5 (hasC_of ixC_SKY_RX_CELL_ERR_CNT (by decide)
      hT)) (ite_holds (P := (Kept T s0)) (kept_State_count _ _ _ _ _ h5 (hasC_of ixC_SKY_RX_MISDIRECT_CNT (by decide)
      hT)) (kept_deskewPut (tr (by decide) hT) _ _ _ _ _ _ h5)))

theorem kept_takeData {T : Touch} {s0 : State} (hT : Touch.le ⟨5249024,
    0x680000000000000000000000000000780000000000000, 0x5000000000000003378010000010da000000000000000000⟩ T) : ∀ a0 a1
    a2 a3 a4 a5, Kept T s0 a5 →
    Kept T s0 (takeData a0 a1 a2 a3 a4 a5) := by
  intro a0 a1 a2 a3 a4 a5 h5
  unfold takeData
  extract_lets +onlyGivenNames -merge x0
  extract_lets +onlyGivenNames -merge x1
  exact (ite_holds (P := (Kept T s0)) (kept_State_count _ _ _ _ _ h5 (hasC_of ixC_SKY_RX_STRANGER_CELL_CNT (by
      decide) hT)) (ite_holds (P := (Kept T s0)) h5 (ite_holds (P := (Kept T s0)) (kept_State_count _ _ _ _ _ h5
      (hasC_of ixC_SKY_RX_MAP_MISMATCH_CNT (by decide) hT)) (foldl_holds (P := (Kept T s0)) (fun _ _ hm2 =>
      (kept_takePosition (tr (by decide) hT) _ _ _ _ _ _ hm2)) (kept_bufError (tr (by decide) hT) _ _ _
      (kept_countJust (tr (by decide) hT) _ _ _ h5))))))

theorem kept_recoverCells {T : Touch} {s0 : State} (hT : Touch.le ⟨4200448,
    0x80000000000004000000000000000000000000000000, 0x140000000000010000000000000000000000000000000000⟩ T) : ∀ a0 a1
    a2 a3, Kept T s0 a3 →
    Kept T s0 (recoverCells a0 a1 a2 a3) := by
  intro a0 a1 a2 a3 h3
  unfold recoverCells
  extract_lets +onlyGivenNames -merge x0
  extract_lets +onlyGivenNames -merge x1
  extract_lets +onlyGivenNames -merge x2
  exact (ite_holds (P := (Kept T s0)) h3 (ite_holds (P := (Kept T s0)) (kept_State_count _ _ _ _ _ (kept_relayOut (tr
      (by decide) hT) _ _ _ (kept_setPair (tr (by decide) hT) _ _ _ h3)) (hasC_of ixC_SKY_RELAY_CELL_LOST_CNT (by
      decide) hT)) (kept_ledgerFault (tr (by decide) hT) _ _ _ _ _ h3)))

theorem kept_recoverGrants {T : Touch} {s0 : State} (hT : Touch.le ⟨4200448,
    0x80000000000002000000000000000000000000000000, 0x140000000000008000000000000000000000000000000000⟩ T) : ∀ a0 a1
    a2 a3, Kept T s0 a3 →
    Kept T s0 (recoverGrants a0 a1 a2 a3) := by
  intro a0 a1 a2 a3 h3
  unfold recoverGrants
  extract_lets +onlyGivenNames -merge x0
  extract_lets +onlyGivenNames -merge x1
  extract_lets +onlyGivenNames -merge x2
  exact (ite_holds (P := (Kept T s0)) h3 (ite_holds (P := (Kept T s0)) (kept_State_count _ _ _ _ _ (kept_addCredit
      (tr (by decide) hT) _ _ _ (kept_setPair (tr (by decide) hT) _ _ _ h3)) (hasC_of ixC_SKY_CREDIT_RECOVER_CNT (by
      decide) hT)) (kept_ledgerFault (tr (by decide) hT) _ _ _ _ _ h3)))

theorem kept_takeCredit {T : Touch} {s0 : State} (hT : Touch.le ⟨8132608,
    0x80000000000006000000002000000180000000000000, 0x140000001084058008000000000024000000000000000000⟩ T) : ∀ a0 a1
    a2 a3, Kept T s0 a3 →
    Kept T s0 (takeCredit a0 a1 a2 a3) := by
  intro a0 a1 a2 a3 h3
  unfold takeCredit
  extract_lets +onlyGivenNames -merge x0
  extract_lets +onlyGivenNames -merge x1
  extract_lets +onlyGivenNames -merge x2
  refine ite_holds (P := (Kept T s0)) ?_ ?_
  · exact (kept_State_count _ _ _ _ _ h3 (hasC_of ixC_SKY_RX_SYNCFRAME_ERR_CNT (by decide) hT))
  · refine ite_holds (P := (Kept T s0)) ?_ ?_
    · exact h3
    · extract_lets +onlyGivenNames -merge x3
      have hx3 : Kept T s0 x3 := (ite_holds (P := (Kept T s0)) (kept_resetPair (tr (by decide) hT) _ _ h3) h3)
      clear_value x3
      extract_lets +onlyGivenNames -merge x4
      extract_lets +onlyGivenNames -merge x5
      have hx5 : Kept T s0 x5 := (kept_setPair (tr (by decide) hT) _ _ _ hx3)
      clear_value x5
      extract_lets +onlyGivenNames -merge x6
      have hx6 : Kept T s0 x6 := (kept_recoverCells (tr (by decide) hT) _ _ _ _ (kept_recoverGrants (tr (by decide)
          hT) _ _ _ _ hx5))
      clear_value x6
      exact (kept_setPair (tr (by decide) hT) _ _ _ hx6)

theorem kept_takeHello {T : Touch} {s0 : State} (hT : Touch.le ⟨4194304, 0x400000000000000000000000000,
    0x800000000000000000000000000⟩ T) : ∀ a0 a1 a2 a3, Kept T s0 a3 →
    Kept T s0 (takeHello a0 a1 a2 a3) := by
  intro a0 a1 a2 a3 h3
  unfold takeHello
  extract_lets +onlyGivenNames -merge x0
  refine ite_holds (P := (Kept T s0)) ?_ ?_
  · extract_lets +onlyGivenNames -merge x1
    extract_lets +onlyGivenNames -merge x2
    have hx2 : Kept T s0 x2 := (kept_State_setFld (tr (by decide) hT) _ _ _ _ _ (kept_State_setFld (tr (by decide)
        hT) _ _ _ _ _ h3 (hasR_of ixR_SKY_PEER (by decide) hT)) (hasR_of ixR_SKY_PEER (by decide) hT))
    clear_value x2
    extract_lets +onlyGivenNames -merge x3
    have hx3 : Kept T s0 x3 := (kept_State_setFld (tr (by decide) hT) _ _ _ _ _ (kept_State_setFld (tr (by decide)
        hT) _ _ _ _ _ hx2 (hasR_of ixR_SKY_PEER (by decide) hT)) (hasR_of ixR_SKY_PEER (by decide) hT))
    clear_value x3
    extract_lets +onlyGivenNames -merge x4
    have hx4 : Kept T s0 x4 := (kept_State_setFld (tr (by decide) hT) _ _ _ _ _ hx3 (hasR_of ixR_SKY_PEER (by decide)
        hT))
    clear_value x4
    exact (kept_setPair (tr (by decide) hT) _ _ _ hx4)
  · exact (kept_State_count _ _ _ _ _ h3 (hasC_of ixC_SKY_HELLO_MISMATCH_CNT (by decide) hT))

theorem kept_takeSync {T : Touch} {s0 : State} (hT : Touch.le ⟨8198144,
    0x800000008070460004e0082000000180000000000000, 0x1400002c1084058008000800000024000000000000000000⟩ T) : ∀ a0 a1
    a2 a3 a4 a5 a6, Kept T s0 a6 →
    Kept T s0 (takeSync a0 a1 a2 a3 a4 a5 a6) := by
  intro a0 a1 a2 a3 a4 a5 a6 h6
  unfold takeSync
  extract_lets +onlyGivenNames -merge x0
  exact (ite_holds (P := (Kept T s0)) (kept_takeTime (tr (by decide) hT) _ _ _ _ _ _ h6) (ite_holds (P := (Kept T
      s0)) (kept_takeHello (tr (by decide) hT) _ _ _ _ h6) (ite_holds (P := (Kept T s0)) (kept_takeCredit (tr (by
      decide) hT) _ _ _ _ h6) h6)))

theorem kept_takeSyncBurst {T : Touch} {s0 : State} (hT : Touch.le ⟨8198144,
    0x800000008070460004e0082000000180000000000000, 0x1400002c1084058048100800000024000000000000000000⟩ T) : ∀ a0 a1
    a2 a3 a4, Kept T s0 a4 →
    Kept T s0 (takeSyncBurst a0 a1 a2 a3 a4) := by
  intro a0 a1 a2 a3 a4 h4
  unfold takeSyncBurst
  extract_lets +onlyGivenNames -merge x0
  extract_lets +onlyGivenNames -merge x1
  extract_lets +onlyGivenNames -merge x2
  extract_lets +onlyGivenNames -merge x3
  extract_lets +onlyGivenNames -merge x4
  have hx4 : Kept T s0 x4 := (kept_State_countIf (tr (by decide) hT) _ _ _ _ _ h4 (hasC_of ixC_SKY_RX_FORMAT_ERR_CNT
      (by decide) hT))
  clear_value x4
  extract_lets +onlyGivenNames -merge x5
  have hx5 : Kept T s0 x5 := (kept_State_countIf (tr (by decide) hT) _ _ _ _ _ hx4 (hasC_of ixC_SKY_RX_SLIP_CNT (by
      decide) hT))
  clear_value x5
  extract_lets +onlyGivenNames -merge x6
  extract_lets +onlyGivenNames -merge x7
  have hx7 : Kept T s0 x7 := (kept_State_count _ _ _ _ _ hx5 (hasC_of ixC_SKY_RX_SYNCFRAME_ERR_CNT (by decide) hT))
  clear_value x7
  exact (ite_holds (P := (Kept T s0)) hx7 (foldl_holds (P := (Kept T s0)) (fun _ _ hm8 => (kept_takeSync (tr (by
      decide) hT) _ _ _ _ _ _ _ hm8)) hx7))

theorem kept_setTrace {T : Touch} {s0 : State} (hT : Touch.le ⟨4194304, 0x18000000000000000000000000000, 0x0⟩ T) : ∀
    a0 a1 a2 a3, Kept T s0 a3 →
    Kept T s0 (setTrace a0 a1 a2 a3) := by
  intro a0 a1 a2 a3 h3
  unfold setTrace
  extract_lets +onlyGivenNames -merge x0
  extract_lets +onlyGivenNames -merge x1
  extract_lets +onlyGivenNames -merge x2
  have hx2 : Kept T s0 x2 := (kept_up4194304 (land_le (by decide) hT.1) h3)
  clear_value x2
  refine ite_holds (P := (Kept T s0)) ?_ ?_
  · exact hx2
  · extract_lets +onlyGivenNames -merge x3
    subst x3
    beta_reduce
    extract_lets +onlyGivenNames -merge x4
    have hx4 : Kept T s0 x4 := (kept_State_setFld (tr (by decide) hT) _ _ _ _ _ hx2 (hasR_of ixR_SKY_LANE_ALARM (by
        decide) hT))
    clear_value x4
    exact (kept_putLaneBit (tr (by decide) hT) _ _ _ _ (hasR_of ixR_SKY_STRANGER_SRC (by decide) hT) hx4)

theorem kept_takeTrace {T : Touch} {s0 : State} (hT : Touch.le ⟨4200448, 0x18000000000000000000000000000, 0x0⟩ T) : ∀
    a0 a1 a2 a3 a4, Kept T s0 a4 →
    Kept T s0 (takeTrace a0 a1 a2 a3 a4) := by
  intro a0 a1 a2 a3 a4 h4
  unfold takeTrace
  extract_lets +onlyGivenNames -merge x0
  extract_lets +onlyGivenNames -merge x1
  exact (ite_holds (P := (Kept T s0)) (kept_setTrace (tr (by decide) hT) _ _ _ _ h4) (ite_holds (P := (Kept T s0))
      (kept_offer (tr (by decide) hT) _ _ (kept_setTrace (tr (by decide) hT) _ _ _ _ h4)) (ite_holds (P := (Kept T
      s0)) (kept_setTrace (tr (by decide) hT) _ _ _ _ h4) (kept_setTrace (tr (by decide) hT) _ _ _ _ h4))))

theorem kept_takeBurst {T : Touch} {s0 : State} (hT : Touch.le ⟨8198144,
    0x6800000008070460184e0082000000780000000000000, 0x5400002c108405837ff218000010fe000000000000000000⟩ T) : ∀ a0 a1
    a2, Kept T s0 a2 →
    Kept T s0 (takeBurst a0 a1 a2) := by
  intro a0 a1 a2 h2
  unfold takeBurst
  extract_lets +onlyGivenNames -merge x0
  extract_lets +onlyGivenNames -merge x1
  extract_lets +onlyGivenNames -merge x2
  extract_lets +onlyGivenNames -merge x3
  extract_lets +onlyGivenNames -merge x4
  have hx4 : Kept T s0 x4 := (kept_takeTrace (tr (by decide) hT) _ _ _ _ _ h2)
  clear_value x4
  extract_lets +onlyGivenNames -merge x5
  extract_lets +onlyGivenNames -merge x6
  have hx6 : Kept T s0 x6 := (ite_holds (P := (Kept T s0)) hx4 (kept_takeCreditSpare (tr (by decide) hT) _ _ _ hx4))
  clear_value x6
  extract_lets +onlyGivenNames -merge x7
  extract_lets +onlyGivenNames -merge x8
  refine ite_holds (P := (Kept T s0)) ?_ ?_
  · exact (kept_State_count _ _ _ _ _ hx6 (hasC_of ixC_SKY_RX_LANE_ERR_CNT (by decide) hT))
  · refine ite_holds (P := (Kept T s0)) ?_ ?_
    · exact (kept_State_count _ _ _ _ _ hx6 (hasC_of ixC_SKY_RX_TIMING_ERR_CNT (by decide) hT))
    · extract_lets +onlyGivenNames -merge x9
      have hx9 : Kept T s0 x9 := (kept_State_count _ _ _ _ _ hx6 (hasC_of ixC_SKY_RX_BURST_CNT (by decide) hT))
      clear_value x9
      exact (ite_holds (P := (Kept T s0)) (kept_takeSyncBurst (tr (by decide) hT) _ _ _ _ _ hx9) (kept_takeData (tr
          (by decide) hT) _ _ _ _ _ _ hx9))

theorem kept_skyBurstRx {T : Touch} {s0 : State} (hT : Touch.le ⟨8198144,
    0x6800000008070470184e0082000000780000000000000, 0x5400002c108405ff7ffe18000010fe000000000000000000⟩ T) : ∀ a0 a1
    a2, Kept T s0 a2 →
    Kept T s0 (skyBurstRx a0 a1 a2) := by
  intro a0 a1 a2 h2
  unfold skyBurstRx
  refine ite_holds (P := (Kept T s0)) ?_ ?_
  · exact h2
  · extract_lets +onlyGivenNames -merge x0
    extract_lets +onlyGivenNames -merge x1
    extract_lets +onlyGivenNames -merge x2
    extract_lets +onlyGivenNames -merge x3
    have hx3 : Kept T s0 x3 := (kept_State_count _ _ _ _ _ h2 (hasC_of ixC_SKY_LANE_FEC_CORR_SYM_CNT (by decide) hT))
    clear_value x3
    extract_lets +onlyGivenNames -merge x4
    have hx4 : Kept T s0 x4 := (kept_countClass (tr (by decide) hT) _ _ _ hx3)
    clear_value x4
    refine ite_holds (P := (Kept T s0)) ?_ ?_
    · exact (kept_State_count _ _ _ _ _ hx4 (hasC_of ixC_SKY_RX_NOSYNC_CNT (by decide) hT))
    · extract_lets +onlyGivenNames -merge x5
      have hx5 : Kept T s0 x5 := (kept_noteSync (tr (by decide) hT) _ _ _ hx4)
      clear_value x5
      extract_lets +onlyGivenNames -merge x6
      extract_lets +onlyGivenNames -merge x7
      exact (ite_holds (P := (Kept T s0)) (kept_State_count _ _ _ _ _ hx5 (hasC_of ixC_SKY_RX_HDR_ERR_CNT (by decide)
          hT)) (ite_holds (P := (Kept T s0)) (kept_State_count _ _ _ _ _ hx5 (hasC_of ixC_SKY_RX_FORMAT_ERR_CNT (by
          decide) hT)) (kept_takeBurst (tr (by decide) hT) _ _ _ (kept_deskewAlarm (tr (by decide) hT) _ _ _ hx5))))

theorem kept_execSkyBurstRx {T : Touch} {s0 : State} (hT : Touch.le ⟨8198144,
    0x6800000008070470184e0082000000780000000000000, 0x5400002c108405ff7ffe18000010fe000000000000000000⟩ T) : ∀ a0 a1
    a2, Kept T s0 a2 →
    ResKept T s0 (execSkyBurstRx a0 a1 a2) := by
  intro a0 a1 a2 h2
  unfold execSkyBurstRx
  refine next_kept ?_
  refine kept_running (tr (by decide) hT) _ _ ?_ h2
  · intro y0 hy0
    exact (kept_skyBurstRx (tr (by decide) hT) _ _ _ hy0)

end Sys2Proof.Machine
end

