-- ==== Sys2Proof/Laws/KeptSystem.lean ====
section
/-!
SUPPORT. What the operations of these files of Machine leave alone: Locate, Clock, Reset, Power, Nvm, Ledger, SysBlock, Access, Step.
-/
namespace Sys2Proof.Machine

/-! ### Machine/Locate.lean -/

theorem kept_plain {T : Touch} {s0 : State} (hT : Touch.le ⟨2,
    0x800000000000000000000000000000000000000000000000000000, 0x0⟩ T) : ∀ a0 a1 a2 a3 a4, T.hasR a0 → Kept T s0 a4 →
    Kept T s0 (plain a0 a1 a2 a3 a4) := by
  intro a0 a1 a2 a3 a4 h0 h4
  unfold plain
  exact (ite_holds (P := (Kept T s0)) (kept_State_setReg _ _ _ _ _ (kept_State_setShad (tr (by decide) hT) _ _ _ _ _
      h4 h0) (hasR_of ixR_SYS_UPDATE_PENDING (by decide) hT)) (kept_State_setReg _ _ _ _ _ h4 h0))

/-! ### Machine/Clock.lean -/

theorem kept_advance {T : Touch} {s0 : State} (hT : Touch.le ⟨4259904, 0x0, 0x0⟩ T) : ∀ a0, Kept T s0 a0 →
    Kept T s0 (advance a0) := by
  intro a0 h0
  unfold advance
  extract_lets +onlyGivenNames -merge x0
  extract_lets +onlyGivenNames -merge x1
  exact (kept_up4259904 (land_le (by decide) hT.1) h0)

theorem kept_cplStalls {T : Touch} {s0 : State} (hT : Touch.le ⟨0, 0x0,
    0x8000000000000000000000000000000000000000000⟩ T) : ∀ a0, Kept T s0 a0 →
    Kept T s0 (cplStalls a0) := by
  intro a0 h0
  unfold cplStalls
  exact (ite_holds (P := (Kept T s0)) (foldl_holds (P := (Kept T s0)) (fun _ _ hm0 => (kept_State_countIf (tr (by
      decide) hT) _ _ _ _ _ hm0 (hasC_of ixC_HOST_CPL_STALL_CNT (by decide) hT))) h0) h0)

theorem kept_creditStalls {T : Touch} {s0 : State} (hT : Touch.le ⟨0, 0x0, 0x10000000000000000⟩ T) : ∀ a0, Kept T s0
    a0 →
    Kept T s0 (creditStalls a0) := by
  intro a0 h0
  unfold creditStalls
  exact (foldl_holds (P := (Kept T s0)) (fun _ _ hm0 => (kept_State_countIf (tr (by decide) hT) _ _ _ _ _ hm0
      (hasC_of ixC_XBAR_CREDIT_STALL_CNT (by decide) hT))) h0)

theorem kept_noteBeat {T : Touch} {s0 : State} (hT : Touch.le ⟨1024, 0x0, 0x0⟩ T) : ∀ a0, Kept T s0 a0 →
    Kept T s0 (noteBeat a0) := by
  intro a0 h0
  unfold noteBeat
  exact (kept_up1024 (land_le (by decide) hT.1) h0)

theorem kept_heartbeat {T : Touch} {s0 : State} (hT : Touch.le ⟨1024,
    0x20000000000000000000000000000000000000000000000000, 0x0⟩ T) : ∀ a0, Kept T s0 a0 →
    Kept T s0 (heartbeat a0) := by
  intro a0 h0
  unfold heartbeat
  exact (ite_holds (P := (Kept T s0)) (kept_noteBeat (tr (by decide) hT) _ h0) (ite_holds (P := (Kept T s0))
      (kept_noteBeat (tr (by decide) hT) _ (kept_State_setFld (tr (by decide) hT) _ _ _ _ _ h0 (hasR_of
      ixR_KEEP_STATUS (by decide) hT))) h0))

theorem kept_tick {T : Touch} {s0 : State} (hT : Touch.le ⟨4916544,
    0x38004000000000000000000000000000000000200000000000, 0x1000304000008000000000000000000000000010080000000000000⟩
    T) : ∀ a0, Kept T s0 a0 →
    Kept T s0 (tick a0) := by
  intro a0 h0
  unfold tick
  exact (kept_serveUnknown (tr (by decide) hT) _ (kept_stallCount (tr (by decide) hT) _ (kept_cplStalls (tr (by
      decide) hT) _ (kept_creditStalls (tr (by decide) hT) _ (kept_heartbeat (tr (by decide) hT) _ (kept_idlClock (tr
      (by decide) hT) _ (kept_planeReturns (tr (by decide) hT) _ (kept_advance (tr (by decide) hT) _ h0))))))))

/-! ### Machine/Reset.lean -/

theorem kept_abandonAll {T : Touch} {s0 : State} (hT : Touch.le ⟨3414272,
    0x800000000004000000003040000580000000000000, 0x4004000000000000000000000024000400000000000200⟩ T) : ∀ a0, Kept T
    s0 a0 →
    Kept T s0 (abandonAll a0) := by
  intro a0 h0
  unfold abandonAll
  exact (foldl_holds (P := (Kept T s0)) (fun _ _ hm0 => (kept_abandonTx (tr (by decide) hT) _ _ hm0)) h0)

theorem kept_showSlots {T : Touch} {s0 : State} (hT : Touch.le ⟨0,
    0x80000000000000000000000000000000000000000000000000, 0x0⟩ T) : ∀ a0, Kept T s0 a0 →
    Kept T s0 (showSlots a0) := by
  intro a0 h0
  unfold showSlots
  extract_lets +onlyGivenNames -merge x0
  extract_lets +onlyGivenNames -merge x1
  exact (kept_State_setReg _ _ _ _ _ h0 (hasR_of ixR_NVM_SLOT_STATUS (by decide) hT))

theorem kept_showFlash {T : Touch} {s0 : State} (hT : Touch.le ⟨0,
    0x180000000000000000000000000000000000000000000000000, 0x0⟩ T) : ∀ a0, Kept T s0 a0 →
    Kept T s0 (showFlash a0) := by
  intro a0 h0
  unfold showFlash
  exact (kept_State_setReg _ _ _ _ _ (kept_showSlots (tr (by decide) hT) _ h0) (hasR_of ixR_NVM_BOOT_SEL (by decide)
      hT))

theorem kept_showOrder {T : Touch} {s0 : State} (hT : Touch.le ⟨0,
    0x800000000000000000000000000000000000000000000000, 0x0⟩ T) : ∀ a0, Kept T s0 a0 →
    Kept T s0 (showOrder a0) := by
  intro a0 h0
  unfold showOrder
  exact (foldl_holds (P := (Kept T s0)) (fun _ _ hm0 => (kept_State_setReg _ _ _ _ _ hm0 (hasR_of ixR_PWR_SHED_ORDER
      (by decide) hT))) h0)

theorem kept_keeperReset {T : Touch} {s0 : State} (hT : Touch.le ⟨26165,
    0x180880000000000000000000000000000000000000000000000, 0x0⟩ T) : ∀ a0, Kept T s0 a0 →
    Kept T s0 (keeperReset a0) := by
  intro a0 h0
  unfold keeperReset
  extract_lets +onlyGivenNames -merge x0
  extract_lets +onlyGivenNames -merge x1
  extract_lets +onlyGivenNames -merge x2
  subst x2
  beta_reduce
  extract_lets +onlyGivenNames -merge x3
  extract_lets +onlyGivenNames -merge x4
  extract_lets +onlyGivenNames -merge x5
  extract_lets +onlyGivenNames -merge x6
  have hx6 : Kept T s0 x6 := (kept_up26165 (land_le (by decide) hT.1) h0)
  clear_value x6
  exact (kept_showOrder (tr (by decide) hT) _ (kept_showFlash (tr (by decide) hT) _ (kept_State_setReg _ _ _ _ _ hx6
      (hasR_of ixR_PWR_STATUS (by decide) hT))))

theorem kept_fuseCut {T : Touch} {s0 : State} (hT : Touch.le ⟨17024, 0x0, 0x0⟩ T) : ∀ a0, Kept T s0 a0 →
    Kept T s0 (fuseCut a0) := by
  intro a0 h0
  unfold fuseCut
  split
  · exact h0
  · extract_lets +onlyGivenNames -merge x4
    extract_lets +onlyGivenNames -merge x5
    exact (kept_up17024 (land_le (by decide) hT.1) h0)

theorem kept_showFixed {T : Touch} {s0 : State} (hT : Touch.le ⟨0,
    0x800000000008000000000000000000000000000000028000000000000, 0x0⟩ T) : ∀ a0, Kept T s0 a0 →
    Kept T s0 (showFixed a0) := by
  intro a0 h0
  unfold showFixed
  extract_lets +onlyGivenNames -merge x0
  have hx0 : Kept T s0 x0 := (kept_State_setReg _ _ _ _ _ h0 (hasR_of ixR_SYS_FUSE_USER (by decide) hT))
  clear_value x0
  extract_lets +onlyGivenNames -merge x1
  have hx1 : Kept T s0 x1 := (kept_State_setReg _ _ _ _ _ (kept_showUsed (tr (by decide) hT) _ hx0) (hasR_of
      ixR_IDL_STATUS (by decide) hT))
  clear_value x1
  exact (ite_holds (P := (Kept T s0)) (kept_State_setReg _ _ _ _ _ hx1 (hasR_of ixR_BUF_CARVE_STATUS (by decide) hT))
      hx1)

theorem kept_switchReset {T : Touch} {s0 : State} (hT : Touch.le ⟨8388279,
    0x800000000008000000000000000000000000000000028000000000000, 0x0⟩ T) : ∀ a0 a1, Kept T s0 a1 →
    Kept T s0 (switchReset a0 a1) := by
  intro a0 a1 h1
  unfold switchReset
  extract_lets +onlyGivenNames -merge x0
  have hx0 : Kept T s0 x0 := (kept_fuseCut (tr (by decide) hT) _ h1)
  clear_value x0
  extract_lets +onlyGivenNames -merge x1
  subst x1
  beta_reduce
  exact (kept_showFixed (tr (by decide) hT) _ (kept_up8371767 (land_le (by decide) hT.1) hx0))

theorem kept_railsDown {T : Touch} {s0 : State} (hT : Touch.le ⟨8388279,
    0x800000020088000000000000000000000000000000028000000000000, 0x0⟩ T) : ∀ a0, Kept T s0 a0 →
    Kept T s0 (railsDown a0) := by
  intro a0 h0
  unfold railsDown
  extract_lets +onlyGivenNames -merge x0
  extract_lets +onlyGivenNames -merge x1
  have hx1 : Kept T s0 x1 := (kept_switchReset (tr (by decide) hT) _ _ (kept_up2048 (land_le (by decide) hT.1) h0))
  clear_value x1
  extract_lets +onlyGivenNames -merge x2
  have hx2 : Kept T s0 x2 := (kept_State_setFld (tr (by decide) hT) _ _ _ _ _ (kept_State_setFld (tr (by decide) hT)
      _ _ _ _ _ (kept_State_setFld (tr (by decide) hT) _ _ _ _ _ hx1 (hasR_of ixR_PWR_STATUS (by decide) hT))
      (hasR_of ixR_PWR_STATUS (by decide) hT)) (hasR_of ixR_KEEP_STATUS (by decide) hT))
  clear_value x2
  exact (kept_up24576 (land_le (by decide) hT.1) hx2)

theorem kept_allDown {T : Touch} {s0 : State} (hT : Touch.le ⟨8388279,
    0x8000001a0888000000000000000000000000000000028000000000000, 0x0⟩ T) : ∀ a0, Kept T s0 a0 →
    Kept T s0 (allDown a0) := by
  intro a0 h0
  unfold allDown
  extract_lets +onlyGivenNames -merge x0
  have hx0 : Kept T s0 x0 := (kept_keeperReset (tr (by decide) hT) _ (kept_railsDown (tr (by decide) hT) _ h0))
  clear_value x0
  extract_lets +onlyGivenNames -merge x1
  have hx1 : Kept T s0 x1 := (kept_State_setReg _ _ _ _ _ hx0 (hasR_of ixR_PWR_STATUS (by decide) hT))
  clear_value x1
  exact (kept_up24576 (land_le (by decide) hT.1) hx1)

theorem kept_checkpoint {T : Touch} {s0 : State} (hT : Touch.le ⟨8192, 0x0, 0x0⟩ T) : ∀ a0 a1, Kept T s0 a1 →
    Kept T s0 (checkpoint a0 a1) := by
  intro a0 a1 h1
  unfold checkpoint
  exact (kept_up8192 (land_le (by decide) hT.1) h1)

theorem kept_counterCheckpoint {T : Touch} {s0 : State} (hT : Touch.le ⟨8192, 0x0, 0x0⟩ T) : ∀ a0, Kept T s0 a0 →
    Kept T s0 (counterCheckpoint a0) := by
  intro a0 h0
  unfold counterCheckpoint
  exact (kept_checkpoint (tr (by decide) hT) _ _ h0)

theorem kept_darken {T : Touch} {s0 : State} (hT : Touch.le ⟨3438976,
    0x400000680800000000004000000083040000580000000000000,
    0x40000030504004000000000000000000000024000400000000000200⟩ T) : ∀ a0, Kept T s0 a0 →
    Kept T s0 (darken a0) := by
  intro a0 h0
  unfold darken
  extract_lets +onlyGivenNames -merge x0
  have hx0 : Kept T s0 x0 := (kept_State_setFld (tr (by decide) hT) _ _ _ _ _ h0 (hasR_of ixR_SKY_STATE (by decide)
      hT))
  clear_value x0
  exact (kept_counterCheckpoint (tr (by decide) hT) _ (kept_abandonAll (tr (by decide) hT) _ (kept_nvmStop (tr (by
      decide) hT) _ _ hx0)))

theorem kept_coldReset {T : Touch} {s0 : State} (hT : Touch.le ⟨8388535,
    0x9000005808886808000000000040000000830400005a8000000000000,
    0x40000030504004000000000000000000000024000400000000000200⟩ T) : ∀ a0 a1, Kept T s0 a1 →
    Kept T s0 (coldReset a0 a1) := by
  intro a0 a1 h1
  unfold coldReset
  extract_lets +onlyGivenNames -merge x0
  extract_lets +onlyGivenNames -merge x1
  extract_lets +onlyGivenNames -merge x2
  have hx2 : Kept T s0 x2 := (kept_darken (tr (by decide) hT) _ h1)
  clear_value x2
  extract_lets +onlyGivenNames -merge x3
  extract_lets +onlyGivenNames -merge x4
  have hx4 : Kept T s0 x4 := (kept_keeperReset (tr (by decide) hT) _ (kept_switchReset (tr (by decide) hT) _ _
      (kept_up2048 (land_le (by decide) hT.1) hx2)))
  clear_value x4
  exact (kept_noteReset (tr (by decide) hT) _ _ _ _ (kept_up8192 (land_le (by decide) hT.1) hx4))

theorem kept_warmReset {T : Touch} {s0 : State} (hT : Touch.le ⟨8388535,
    0x9000005000086808000000000040000000830400005a8000000000000,
    0x40000030504004000000000000000000000024000400000000000200⟩ T) : ∀ a0 a1, Kept T s0 a1 →
    Kept T s0 (warmReset a0 a1) := by
  intro a0 a1 h1
  unfold warmReset
  extract_lets +onlyGivenNames -merge x0
  extract_lets +onlyGivenNames -merge x1
  have hx1 : Kept T s0 x1 := (kept_bootLost (tr (by decide) hT) _ (kept_switchReset (tr (by decide) hT) _ _
      (kept_darken (tr (by decide) hT) _ h1)))
  clear_value x1
  extract_lets +onlyGivenNames -merge x2
  extract_lets +onlyGivenNames -merge x3
  extract_lets +onlyGivenNames -merge x4
  have hx4 : Kept T s0 x4 := (kept_up24576 (land_le (by decide) hT.1) hx1)
  clear_value x4
  exact (kept_noteReset (tr (by decide) hT) _ _ _ _ hx4)

theorem kept_measured {T : Touch} {s0 : State} (hT : Touch.le ⟨0,
    0x1600000000000000000000000000000000000000000000000, 0x0⟩ T) : ∀ a0 a1, Kept T s0 a1 →
    Kept T s0 (measured a0 a1) := by
  intro a0 a1 h1
  unfold measured
  extract_lets +onlyGivenNames -merge x0
  have hx0 : Kept T s0 x0 := (kept_State_setReg _ _ _ _ _ h1 (hasR_of ixR_PWR_INPUT (by decide) hT))
  clear_value x0
  extract_lets +onlyGivenNames -merge x1
  have hx1 : Kept T s0 x1 := (kept_State_setReg _ _ _ _ _ hx0 (hasR_of ixR_PWR_THERMAL (by decide) hT))
  clear_value x1
  exact (foldl_holds (P := (Kept T s0)) (fun _ _ hm2 => (kept_State_setReg _ _ _ _ _ hm2 (hasR_of ixR_PWR_SENSOR (by
      decide) hT))) hx1)

theorem kept_execCounterCheckpoint {T : Touch} {s0 : State} (hT : Touch.le ⟨8192, 0x0, 0x0⟩ T) : ∀ a0, Kept T s0 a0 →
    ResKept T s0 (execCounterCheckpoint a0) := by
  intro a0 h0
  unfold execCounterCheckpoint
  refine next_kept ?_
  extract_lets +onlyGivenNames -merge x0
  exact (ite_holds (P := (Kept T s0)) (kept_counterCheckpoint (tr (by decide) hT) _ (kept_up8192 (land_le (by decide)
      hT.1) h0)) h0)

theorem kept_sequence {T : Touch} {s0 : State} (hT : Touch.le ⟨9472,
    0x20084000000000000000000000000000000000000000000000, 0x4000000000000000000000000000000000000000000000000⟩ T) : ∀
    a0 a1, Kept T s0 a1 →
    Kept T s0 (sequence a0 a1) := by
  intro a0 a1 h1
  unfold sequence
  refine ite_holds (P := (Kept T s0)) ?_ ?_
  · extract_lets +onlyGivenNames -merge x0
    have hx0 : Kept T s0 x0 := (kept_State_setFld (tr (by decide) hT) _ _ _ _ _ (kept_State_setFld (tr (by decide)
        hT) _ _ _ _ _ h1 (hasR_of ixR_PWR_STATUS (by decide) hT)) (hasR_of ixR_KEEP_STATUS (by decide) hT))
    clear_value x0
    exact (kept_raiseNear (tr (by decide) hT) _ _ (kept_up8192 (land_le (by decide) hT.1) hx0))
  · extract_lets +onlyGivenNames -merge x1
    have hx1 : Kept T s0 x1 := (kept_State_setFld (tr (by decide) hT) _ _ _ _ _ h1 (hasR_of ixR_PWR_STATUS (by
        decide) hT))
    clear_value x1
    exact (kept_up8192 (land_le (by decide) hT.1) hx1)

/-! ### Machine/Power.lean -/

theorem kept_disableSky {T : Touch} {s0 : State} (hT : Touch.le ⟨7077888,
    0x4000000000000000000000000002000000002000000000000000000000, 0x8000000000000000000000000000000000000⟩ T) : ∀ a0,
    Kept T s0 a0 →
    Kept T s0 (disableSky a0) := by
  intro a0 h0
  unfold disableSky
  exact (kept_lanesStopped (tr (by decide) hT) _ (foldl_holds (P := (Kept T s0)) (fun _ _ hm0 => (kept_State_setFld
      (tr (by decide) hT) _ _ _ _ _ hm0 (hasR_of ixR_OPT_LANE_BIAS (by decide) hT))) h0))

theorem kept_beginDusk {T : Touch} {s0 : State} (hT : Touch.le ⟨7110016,
    0x4000000420084680000000000002000000082000000000000000000000,
    0x40000034500000000008000000000000000000000000000000000000⟩ T) : ∀ a0 a1 a2, Kept T s0 a2 →
    Kept T s0 (beginDusk a0 a1 a2) := by
  intro a0 a1 a2 h2
  unfold beginDusk
  extract_lets +onlyGivenNames -merge x0
  extract_lets +onlyGivenNames -merge x1
  have hx1 : Kept T s0 x1 := (ite_holds (P := (Kept T s0)) (kept_keeperEvent (tr (by decide) hT) _ _ _ _ h2) h2)
  clear_value x1
  extract_lets +onlyGivenNames -merge x2
  have hx2 : Kept T s0 x2 := (kept_raiseNear (tr (by decide) hT) _ _ (kept_State_setFld (tr (by decide) hT) _ _ _ _ _
      (kept_State_setFld (tr (by decide) hT) _ _ _ _ _ hx1 (hasR_of ixR_PWR_STATUS (by decide) hT)) (hasR_of
      ixR_KEEP_STATUS (by decide) hT)))
  clear_value x2
  extract_lets +onlyGivenNames -merge x3
  have hx3 : Kept T s0 x3 := (kept_nvmStop (tr (by decide) hT) _ _ (kept_State_setFld (tr (by decide) hT) _ _ _ _ _
      hx2 (hasR_of ixR_SKY_STATE (by decide) hT)))
  clear_value x3
  extract_lets +onlyGivenNames -merge x4
  extract_lets +onlyGivenNames -merge x5
  extract_lets +onlyGivenNames -merge x6
  have hx6 : Kept T s0 x6 := (kept_up8192 (land_le (by decide) hT.1) hx3)
  clear_value x6
  exact (ite_holds (P := (Kept T s0)) (kept_disableSky (tr (by decide) hT) _ hx6) hx6)

theorem kept_writeLogs {T : Touch} {s0 : State} (hT : Touch.le ⟨4096, 0x0, 0x0⟩ T) : ∀ a0 a1, Kept T s0 a1 →
    Kept T s0 (writeLogs a0 a1) := by
  intro n
  induction n with
  | zero => exact fun s h => h
  | succ n ih => exact fun s h => ih _ (kept_writeLog (tr (by decide) hT) _ h)

theorem kept_busCollapse {T : Touch} {s0 : State} (hT : Touch.le ⟨8388279,
    0x8000005a0888680000000000000000000000000000028000000000000,
    0x40000030500000000000000000000000000000000000000000000000⟩ T) : ∀ a0, Kept T s0 a0 →
    Kept T s0 (busCollapse a0) := by
  intro a0 h0
  unfold busCollapse
  refine ite_holds (P := (Kept T s0)) ?_ ?_
  · extract_lets +onlyGivenNames -merge x0
    extract_lets +onlyGivenNames -merge x1
    have hx1 : Kept T s0 x1 := (kept_allDown (tr (by decide) hT) _ (kept_nvmStop (tr (by decide) hT) _ _
        (kept_writeLogs (tr (by decide) hT) _ _ (kept_State_fresh (tr (by decide) hT) _ h0))))
    clear_value x1
    exact (kept_up4096 (land_le (by decide) hT.1) hx1)
  · exact h0

theorem kept_countShutdown {T : Touch} {s0 : State} (hT : Touch.le ⟨0,
    0x80000000000000000000000000000000000000000000000, 0x47000000000000000000000000000000000000000000000000000⟩ T) :
    ∀ a0, Kept T s0 a0 →
    Kept T s0 (countShutdown a0) := by
  intro a0 h0
  unfold countShutdown
  split
  · exact h0
  · split
    · extract_lets +onlyGivenNames -merge x7
      have hx7 : Kept T s0 x7 := (kept_State_count _ _ _ _ _ h0 (hasC_of ixC_PWR_DUSK_CNT (by decide) hT))
      clear_value x7
      extract_lets +onlyGivenNames -merge x8
      have hx8 : Kept T s0 x8 := (kept_State_countIf (tr (by decide) hT) _ _ _ _ _ hx7 (hasC_of
          ixC_PWR_MAINS_LOSS_CNT (by decide) hT))
      clear_value x8
      exact (ite_holds (P := (Kept T s0)) (kept_State_setFld (tr (by decide) hT) _ _ _ _ _ (kept_State_count _ _ _ _
          _ hx8 (hasC_of ixC_PWR_TRIP_CNT (by decide) hT)) (hasR_of ixR_PWR_STATUS (by decide) hT)) hx8)
    · exact (kept_State_count _ _ _ _ _ h0 (hasC_of ixC_PWR_DUSK_INCOMPLETE_CNT (by decide) hT))

theorem kept_darkenGroup {T : Touch} {s0 : State} (hT : Touch.le ⟨8297728,
    0x4680800e0000000c000000003040000580000000000090, 0xc35507e74000020200000000018000024104407fffdc0c003f0⟩ T) : ∀
    a0 a1, Kept T s0 a1 →
    Kept T s0 (darkenGroup a0 a1) := by
  intro a0 a1 h1
  unfold darkenGroup
  extract_lets +onlyGivenNames -merge x0
  have hx0 : Kept T s0 x0 := (foldl_holds (P := (Kept T s0)) (fun _ _ hm1 => (ite_holds (P := (Kept T s0))
      (kept_linkDown (tr (by decide) hT) _ _ (kept_cutRx (tr (by decide) hT) _ _ _ hm1)) hm1)) h1)
  clear_value x0
  extract_lets +onlyGivenNames -merge x2
  extract_lets +onlyGivenNames -merge x3
  have hx3 : Kept T s0 x3 := (kept_up262144 (land_le (by decide) hT.1) hx0)
  clear_value x3
  exact (foldl_holds (P := (Kept T s0)) (fun _ _ hm4 => (kept_setPort (tr (by decide) hT) _ _ _ hm4)) hx3)

theorem kept_darkenLeaf {T : Touch} {s0 : State} (hT : Touch.le ⟨8297728,
    0x4680800e0000000c000000003040000580000000000090, 0xc35507e74000020200000000018000024104407fffdc0c003f0⟩ T) : ∀
    a0, Kept T s0 a0 →
    Kept T s0 (darkenLeaf a0) := by
  intro a0 h0
  unfold darkenLeaf
  exact (foldl_holds (P := (Kept T s0)) (fun _ _ hm0 => (kept_darkenGroup (tr (by decide) hT) _ _ hm0)) h0)

theorem kept_duskRails {T : Touch} {s0 : State} (hT : Touch.le ⟨8388279,
    0x8000001a0888000000000000000000000000000000028000000000000,
    0x6000000000000000000000000000000000000000000000000000⟩ T) : ∀ a0 a1, Kept T s0 a1 →
    Kept T s0 (duskRails a0 a1) := by
  intro a0 a1 h1
  unfold duskRails
  extract_lets +onlyGivenNames -merge x0
  extract_lets +onlyGivenNames -merge x1
  have hx1 : Kept T s0 x1 := (kept_railsDown (tr (by decide) hT) _ h1)
  clear_value x1
  refine ite_holds (P := (Kept T s0)) ?_ ?_
  · exact (kept_allDown (tr (by decide) hT) _ hx1)
  · refine ite_holds (P := (Kept T s0)) ?_ ?_
    · exact (kept_up8192 (land_le (by decide) hT.1) hx1)
    · refine ite_holds (P := (Kept T s0)) ?_ ?_
      · exact (kept_State_count _ _ _ _ _ hx1 (ite_holds (P := Touch.hasC T) (hasC_of ixC_PWR_DUSK_CNT (by decide)
          hT) (hasC_of ixC_PWR_DUSK_INCOMPLETE_CNT (by decide) hT)))
      · extract_lets +onlyGivenNames -merge x2
        have hx2 : Kept T s0 x2 := (kept_State_setFld (tr (by decide) hT) _ _ _ _ _ (kept_allDown (tr (by decide) hT)
            _ hx1) (hasR_of ixR_PWR_STATUS (by decide) hT))
        clear_value x2
        exact (kept_up8192 (land_le (by decide) hT.1) hx2)

theorem kept_duskCheckpointDone {T : Touch} {s0 : State} (hT : Touch.le ⟨8388279,
    0x8000001a0888000000000000000000000000000000028000000000000,
    0x6000000000000000000000000000000000000000000000000000⟩ T) : ∀ a0, Kept T s0 a0 →
    Kept T s0 (duskCheckpointDone a0) := by
  intro a0 h0
  unfold duskCheckpointDone
  split
  · exact h0
  · refine ite_holds (P := (Kept T s0)) ?_ ?_
    · extract_lets +onlyGivenNames -merge x3
      extract_lets +onlyGivenNames -merge x4
      extract_lets +onlyGivenNames -merge x5
      have hx5 : Kept T s0 x5 := (kept_State_setFld (tr (by decide) hT) _ _ _ _ _ (kept_State_setFld (tr (by decide)
          hT) _ _ _ _ _ h0 (hasR_of ixR_PWR_STATUS (by decide) hT)) (hasR_of ixR_KEEP_STATUS (by decide) hT))
      clear_value x5
      exact (kept_duskRails (tr (by decide) hT) _ _ (kept_up8192 (land_le (by decide) hT.1) hx5))
    · exact h0

theorem kept_duskForwardStop {T : Touch} {s0 : State} (hT : Touch.le ⟨3422464,
    0x80000800000000004000000003040000580000000000000, 0x4004000000000000000000000024000400000000000200⟩ T) : ∀ a0,
    Kept T s0 a0 →
    Kept T s0 (duskForwardStop a0) := by
  intro a0 h0
  unfold duskForwardStop
  split
  · exact h0
  · refine ite_holds (P := (Kept T s0)) ?_ ?_
    · extract_lets +onlyGivenNames -merge x3
      have hx3 : Kept T s0 x3 := (kept_abandonAll (tr (by decide) hT) _ h0)
      clear_value x3
      extract_lets +onlyGivenNames -merge x4
      extract_lets +onlyGivenNames -merge x5
      extract_lets +onlyGivenNames -merge x6
      have hx6 : Kept T s0 x6 := (kept_up8192 (land_le (by decide) hT.1) hx3)
      clear_value x6
      exact (kept_State_setFld (tr (by decide) hT) _ _ _ _ _ (kept_checkpoint (tr (by decide) hT) _ _ hx6) (hasR_of
          ixR_PWR_STATUS (by decide) hT))
    · exact h0

theorem kept_powerUp {T : Touch} {s0 : State} (hT : Touch.le ⟨8388287,
    0x9000001a1e88000000000000000000000000000000028000000000000,
    0x47000000000000000000000000000000000000000000000000000⟩ T) : ∀ a0 a1, Kept T s0 a1 →
    Kept T s0 (powerUp a0 a1) := by
  intro a0 a1 h1
  unfold powerUp
  extract_lets +onlyGivenNames -merge x0
  extract_lets +onlyGivenNames -merge x1
  have hx1 : Kept T s0 x1 := (kept_allDown (tr (by decide) hT) _ h1)
  clear_value x1
  extract_lets +onlyGivenNames -merge x2
  have hx2 : Kept T s0 x2 := (ite_holds (P := (Kept T s0)) (kept_State_setFld (tr (by decide) hT) _ _ _ _ _ hx1
      (hasR_of ixR_PWR_STATUS (by decide) hT)) hx1)
  clear_value x2
  extract_lets +onlyGivenNames -merge x3
  extract_lets +onlyGivenNames -merge x4
  extract_lets +onlyGivenNames -merge x5
  extract_lets +onlyGivenNames -merge x6
  have hx6 : Kept T s0 x6 := (kept_up28680 (land_le (by decide) hT.1) hx2)
  clear_value x6
  extract_lets +onlyGivenNames -merge x7
  have hx7 : Kept T s0 x7 := (kept_countShutdown (tr (by decide) hT) _ (kept_State_setFld (tr (by decide) hT) _ _ _ _
      _ (kept_State_setFld (tr (by decide) hT) _ _ _ _ _ hx6 (hasR_of ixR_PWR_STATUS (by decide) hT)) (hasR_of
      ixR_PWR_STATUS (by decide) hT)))
  clear_value x7
  exact (kept_noteReset (tr (by decide) hT) _ _ _ _ (kept_measured (tr (by decide) hT) _ _ hx7))

theorem kept_duskRestart {T : Touch} {s0 : State} (hT : Touch.le ⟨8388287,
    0x9000001a1e88000000000000000000000000000000028000000000000,
    0x47000000000000000000000000000000000000000000000000000⟩ T) : ∀ a0 a1, Kept T s0 a1 →
    Kept T s0 (duskRestart a0 a1) := by
  intro a0 a1 h1
  unfold duskRestart
  split
  · exact (ite_holds (P := (Kept T s0)) (kept_powerUp (tr (by decide) hT) _ _ h1) h1)
  · exact h1

theorem kept_endSteep {T : Touch} {s0 : State} (hT : Touch.le ⟨8192,
    0x20080000000000000000000000000000000000000000000000, 0x8000000000000000000000000000000000000000000000000000⟩ T)
    : ∀ a0, Kept T s0 a0 →
    Kept T s0 (endSteep a0) := by
  intro a0 h0
  unfold endSteep
  extract_lets +onlyGivenNames -merge x0
  have hx0 : Kept T s0 x0 := (kept_State_count _ _ _ _ _ (kept_State_setFld (tr (by decide) hT) _ _ _ _ _
      (kept_State_setFld (tr (by decide) hT) _ _ _ _ _ h0 (hasR_of ixR_PWR_STATUS (by decide) hT)) (hasR_of
      ixR_KEEP_STATUS (by decide) hT)) (hasC_of ixC_PWR_STEEP_CNT (by decide) hT))
  clear_value x0
  extract_lets +onlyGivenNames -merge x1
  have hx1 : Kept T s0 x1 := (kept_State_setFld (tr (by decide) hT) _ _ _ _ _ hx0 (hasR_of ixR_PWR_STATUS (by decide)
      hT))
  clear_value x1
  exact (kept_up8192 (land_le (by decide) hT.1) hx1)

theorem kept_execBusCollapse {T : Touch} {s0 : State} (hT : Touch.le ⟨8388279,
    0x8000005a0888680000000000000000000000000000028000000000000,
    0x40000030500000000000000000000000000000000000000000000000⟩ T) : ∀ a0, Kept T s0 a0 →
    ResKept T s0 (execBusCollapse a0) := by
  intro a0 h0
  unfold execBusCollapse
  refine next_kept ?_
  exact (kept_busCollapse (tr (by decide) hT) _ h0)

theorem kept_startDusk {T : Touch} {s0 : State} (hT : Touch.le ⟨7110016,
    0x4000000420084680000000000002000000082000000000000000000000,
    0x40000034500000000008000000000000000000000000000000000000⟩ T) : ∀ a0 a1 a2, Kept T s0 a2 →
    Kept T s0 (startDusk a0 a1 a2) := by
  intro a0 a1 a2 h2
  unfold startDusk
  refine ite_holds (P := (Kept T s0)) ?_ ?_
  · exact h2
  · split
    · exact (ite_holds (P := (Kept T s0)) h2 (kept_up8192 (land_le (by decide) hT.1) h2))
    · exact (kept_beginDusk (tr (by decide) hT) _ _ _ h2)

theorem kept_execDusk {T : Touch} {s0 : State} (hT : Touch.le ⟨7110016,
    0x4000000420084680000000000002000000082000000000000000000000,
    0x40000034500000000008000000000000000000000000000000000000⟩ T) : ∀ a0 a1, Kept T s0 a1 →
    ResKept T s0 (execDusk a0 a1) := by
  intro a0 a1 h1
  unfold execDusk
  refine next_kept ?_
  exact (ite_holds (P := (Kept T s0)) (kept_startDusk (tr (by decide) hT) _ _ _ h1) h1)

theorem kept_execDuskCheckpointDone {T : Touch} {s0 : State} (hT : Touch.le ⟨8388279,
    0x8000001a0888000000000000000000000000000000028000000000000,
    0x6000000000000000000000000000000000000000000000000000⟩ T) : ∀ a0, Kept T s0 a0 →
    ResKept T s0 (execDuskCheckpointDone a0) := by
  intro a0 h0
  unfold execDuskCheckpointDone
  refine next_kept ?_
  exact (kept_duskCheckpointDone (tr (by decide) hT) _ h0)

theorem kept_execDuskForwardStop {T : Touch} {s0 : State} (hT : Touch.le ⟨3422464,
    0x80000800000000004000000003040000580000000000000, 0x4004000000000000000000000024000400000000000200⟩ T) : ∀ a0,
    Kept T s0 a0 →
    ResKept T s0 (execDuskForwardStop a0) := by
  intro a0 h0
  unfold execDuskForwardStop
  refine next_kept ?_
  exact (kept_duskForwardStop (tr (by decide) hT) _ h0)

theorem kept_execDuskRestart {T : Touch} {s0 : State} (hT : Touch.le ⟨8388287,
    0x9000001a1e88000000000000000000000000000000028000000000000,
    0x47000000000000000000000000000000000000000000000000000⟩ T) : ∀ a0 a1, Kept T s0 a1 →
    ResKept T s0 (execDuskRestart a0 a1) := by
  intro a0 a1 h1
  unfold execDuskRestart
  refine next_kept ?_
  exact (kept_duskRestart (tr (by decide) hT) _ _ h1)

theorem kept_fixtureRelease {T : Touch} {s0 : State} (hT : Touch.le ⟨8388543,
    0x9006005a1e886808000000000040000000830400005a8000000000000,
    0x40047030d04004000000000000000000000024000400000000000200⟩ T) : ∀ a0 a1 a2, Kept T s0 a2 →
    Kept T s0 (fixtureRelease a0 a1 a2) := by
  intro a0 a1 a2 h2
  unfold fixtureRelease
  extract_lets +onlyGivenNames -merge x0
  extract_lets +onlyGivenNames -merge x1
  have hx1 : Kept T s0 x1 := (kept_up8192 (land_le (by decide) hT.1) h2)
  clear_value x1
  exact (ite_holds (P := (Kept T s0)) hx1 (ite_holds (P := (Kept T s0)) (ite_holds (P := (Kept T s0)) (kept_powerUp
      (tr (by decide) hT) _ _ hx1) hx1) (ite_holds (P := (Kept T s0)) (kept_logNear (tr (by decide) hT) _ _ hx1)
      (ite_holds (P := (Kept T s0)) hx1 (kept_coldReset (tr (by decide) hT) _ _ hx1)))))

theorem kept_execFixtureResetRelease {T : Touch} {s0 : State} (hT : Touch.le ⟨8388543,
    0x9006005a1e886808000000000040000000830400005a8000000000000,
    0x40047030d04004000000000000000000000024000400000000000200⟩ T) : ∀ a0 a1 a2, Kept T s0 a2 →
    ResKept T s0 (execFixtureResetRelease a0 a1 a2) := by
  intro a0 a1 a2 h2
  unfold execFixtureResetRelease
  refine next_kept ?_
  exact (kept_fixtureRelease (tr (by decide) hT) _ _ _ h2)

theorem kept_keeperQuiet {T : Touch} {s0 : State} (hT : Touch.le ⟨0,
    0x800000000000000000000000c0000000000000000000000, 0x100000000000000000000000000000000000000000000000000000⟩ T) :
    ∀ a0, Kept T s0 a0 →
    Kept T s0 (keeperQuiet a0) := by
  intro a0 h0
  unfold keeperQuiet
  exact (ite_holds (P := (Kept T s0)) (kept_skyTxEn (tr (by decide) hT) _ _ (kept_State_count _ _ _ _ _
      (kept_State_setFld (tr (by decide) hT) _ _ _ _ _ h0 (hasR_of ixR_PWR_STATUS (by decide) hT)) (hasC_of
      ixC_PWR_QUIET_CNT (by decide) hT))) h0)

theorem kept_execMainsLoss {T : Touch} {s0 : State} (hT : Touch.le ⟨7110016,
    0x4000000420084680000000000002000000082000000000000000000000,
    0x40001034500000000008000000000000000000000000000000000000⟩ T) : ∀ a0 a1, Kept T s0 a1 →
    ResKept T s0 (execMainsLoss a0 a1) := by
  intro a0 a1 h1
  unfold execMainsLoss
  refine next_kept ?_
  exact (ite_holds (P := (Kept T s0)) (kept_startDusk (tr (by decide) hT) _ _ _ (kept_State_count _ _ _ _ _
      (kept_State_setFld (tr (by decide) hT) _ _ _ _ _ h1 (hasR_of ixR_PWR_STATUS (by decide) hT)) (hasC_of
      ixC_PWR_MAINS_LOSS_CNT (by decide) hT))) h1)

theorem kept_ovenReady {T : Touch} {s0 : State} (hT : Touch.le ⟨8198145,
    0x800000000000070460100e0082000000180000000000000, 0x41094040000000000000024000000000000000000⟩ T) : ∀ a0, Kept T
    s0 a0 →
    Kept T s0 (ovenReady a0) := by
  intro a0 h0
  unfold ovenReady
  refine ite_holds (P := (Kept T s0)) ?_ ?_
  · refine kept_running (tr (by decide) hT) _ _ ?_ (kept_State_setFld (tr (by decide) hT) _ _ _ _ _ h0 (hasR_of
      ixR_PWR_STATUS (by decide) hT))
    · intro y0 hy0
      exact (kept_skyTry (tr (by decide) hT) _ hy0)
  · exact h0

theorem kept_execOvenOscillatorReady {T : Touch} {s0 : State} (hT : Touch.le ⟨8198145,
    0x800000000000070460100e0082000000180000000000000, 0x41094040000000000000024000000000000000000⟩ T) : ∀ a0, Kept T
    s0 a0 →
    ResKept T s0 (execOvenOscillatorReady a0) := by
  intro a0 h0
  unfold execOvenOscillatorReady
  refine next_kept ?_
  exact (kept_ovenReady (tr (by decide) hT) _ h0)

theorem kept_powerLimitClear {T : Touch} {s0 : State} (hT : Touch.le ⟨0,
    0x80000000000000000000000000000000000000000000000, 0x0⟩ T) : ∀ a0, Kept T s0 a0 →
    Kept T s0 (powerLimitClear a0) := by
  intro a0 h0
  unfold powerLimitClear
  split
  · exact (ite_holds (P := (Kept T s0)) (kept_State_setFld (tr (by decide) hT) _ _ _ _ _ h0 (hasR_of ixR_PWR_STATUS
      (by decide) hT)) h0)
  · exact h0

theorem kept_execPowerLimitClear {T : Touch} {s0 : State} (hT : Touch.le ⟨0,
    0x80000000000000000000000000000000000000000000000, 0x0⟩ T) : ∀ a0, Kept T s0 a0 →
    ResKept T s0 (execPowerLimitClear a0) := by
  intro a0 h0
  unfold execPowerLimitClear
  refine next_kept ?_
  exact (kept_powerLimitClear (tr (by decide) hT) _ h0)

theorem kept_powerOn {T : Touch} {s0 : State} (hT : Touch.le ⟨8388287,
    0x9000001a1e88000000000000000000000000000000028000000000000,
    0x47000000000000000000000000000000000000000000000000000⟩ T) : ∀ a0 a1 a2, Kept T s0 a2 →
    Kept T s0 (powerOn a0 a1 a2) := by
  intro a0 a1 a2 h2
  unfold powerOn
  exact (ite_holds (P := (Kept T s0)) (kept_powerUp (tr (by decide) hT) _ _ h2) h2)

theorem kept_execPowerOn {T : Touch} {s0 : State} (hT : Touch.le ⟨8388287,
    0x9000001a1e88000000000000000000000000000000028000000000000,
    0x47000000000000000000000000000000000000000000000000000⟩ T) : ∀ a0 a1 a2, Kept T s0 a2 →
    ResKept T s0 (execPowerOn a0 a1 a2) := by
  intro a0 a1 a2 h2
  unfold execPowerOn
  refine next_kept ?_
  exact (kept_powerOn (tr (by decide) hT) _ _ _ h2)

theorem kept_quietAssert {T : Touch} {s0 : State} (hT : Touch.le ⟨8305920,
    0x84680800e0000000c0000000c3040000580000000000090, 0x100c35507e74000020200000000018000024104407fffdc0c003f0⟩ T) :
    ∀ a0, Kept T s0 a0 →
    Kept T s0 (quietAssert a0) := by
  intro a0 h0
  unfold quietAssert
  refine ite_holds (P := (Kept T s0)) ?_ ?_
  · exact h0
  · extract_lets +onlyGivenNames -merge x0
    extract_lets +onlyGivenNames -merge x1
    have hx1 : Kept T s0 x1 := (kept_up8192 (land_le (by decide) hT.1) h0)
    clear_value x1
    exact (ite_holds (P := (Kept T s0)) (kept_keeperQuiet (tr (by decide) hT) _ (kept_darkenLeaf (tr (by decide) hT)
        _ hx1)) hx1)

theorem kept_execQuietAssert {T : Touch} {s0 : State} (hT : Touch.le ⟨8305920,
    0x84680800e0000000c0000000c3040000580000000000090, 0x100c35507e74000020200000000018000024104407fffdc0c003f0⟩ T) :
    ∀ a0, Kept T s0 a0 →
    ResKept T s0 (execQuietAssert a0) := by
  intro a0 h0
  unfold execQuietAssert
  refine next_kept ?_
  exact (kept_quietAssert (tr (by decide) hT) _ h0)

theorem kept_lightGroup {T : Touch} {s0 : State} (hT : Touch.le ⟨262144, 0x0, 0x0⟩ T) : ∀ a0 a1, Kept T s0 a1 →
    Kept T s0 (lightGroup a0 a1) := by
  intro a0 a1 h1
  unfold lightGroup
  exact (foldl_holds (P := (Kept T s0)) (fun _ _ hm0 => (kept_startLine (tr (by decide) hT) _ _ hm0)) h1)

theorem kept_execQuietRelease {T : Touch} {s0 : State} (hT : Touch.le ⟨270336,
    0x80000000000000000000000000000000000000000000000, 0x0⟩ T) : ∀ a0, Kept T s0 a0 →
    ResKept T s0 (execQuietRelease a0) := by
  intro a0 h0
  unfold execQuietRelease
  refine next_kept ?_
  refine ite_holds (P := (Kept T s0)) ?_ ?_
  · exact (foldl_holds (P := (Kept T s0)) (fun _ _ hm1 => (kept_lightGroup (tr (by decide) hT) _ _ hm1)) (with_base
      (P := (Kept T s0)) (kept_State_setFld (tr (by decide) hT) _ _ _ _ _ h0 (hasR_of ixR_PWR_STATUS (by decide) hT))
      (fun hb0 => (kept_up8192 (land_le (by decide) hT.1) hb0))))
  · exact h0

theorem kept_railFault {T : Touch} {s0 : State} (hT : Touch.le ⟨8388535,
    0x480000042008c680000000000002000000082000000028000000000000,
    0x40080034500000000008000000000000000000000000000000000000⟩ T) : ∀ a0 a1 a2 a3, Kept T s0 a3 →
    Kept T s0 (railFault a0 a1 a2 a3) := by
  intro a0 a1 a2 a3 h3
  unfold railFault
  refine ite_holds (P := (Kept T s0)) ?_ ?_
  · exact h3
  · extract_lets +onlyGivenNames -merge x0
    extract_lets +onlyGivenNames -merge x1
    have hx1 : Kept T s0 x1 := (kept_keeperEvent (tr (by decide) hT) _ _ _ _ (kept_State_count _ _ _ _ _ h3 (hasC_of
        ixC_PWR_RAIL_FAULT_CNT (by decide) hT)))
    clear_value x1
    extract_lets +onlyGivenNames -merge x2
    extract_lets +onlyGivenNames -merge x3
    have hx3 : Kept T s0 x3 := (kept_up8192 (land_le (by decide) hT.1) hx1)
    clear_value x3
    extract_lets +onlyGivenNames -merge x4
    have hx4 : Kept T s0 x4 := (ite_holds (P := (Kept T s0)) (kept_State_setFld (tr (by decide) hT) _ _ _ _ _ hx3
        (hasR_of ixR_PWR_STATUS (by decide) hT)) hx3)
    clear_value x4
    exact (ite_holds (P := (Kept T s0)) (kept_startDusk (tr (by decide) hT) _ _ _ hx4) (kept_railsDown (tr (by
        decide) hT) _ (kept_nvmStop (tr (by decide) hT) _ _ hx4)))

theorem kept_execRailFault {T : Touch} {s0 : State} (hT : Touch.le ⟨8388535,
    0x480000042008c680000000000002000000082000000028000000000000,
    0x40080034500000000008000000000000000000000000000000000000⟩ T) : ∀ a0 a1 a2 a3, Kept T s0 a3 →
    ResKept T s0 (execRailFault a0 a1 a2 a3) := by
  intro a0 a1 a2 a3 h3
  unfold execRailFault
  refine next_kept ?_
  exact (kept_railFault (tr (by decide) hT) _ _ _ _ h3)

theorem kept_railRetry {T : Touch} {s0 : State} (hT : Touch.le ⟨9472,
    0x20084000000000000000000000000000000000000000000000, 0x4000000000000000000000000000000000000000000000000⟩ T) : ∀
    a0, Kept T s0 a0 →
    Kept T s0 (railRetry a0) := by
  intro a0 h0
  unfold railRetry
  split
  · exact (ite_holds (P := (Kept T s0)) (kept_sequence (tr (by decide) hT) _ _ (kept_up8192 (land_le (by decide)
      hT.1) h0)) h0)
  · exact h0

theorem kept_execRailRetry {T : Touch} {s0 : State} (hT : Touch.le ⟨9472,
    0x20084000000000000000000000000000000000000000000000, 0x4000000000000000000000000000000000000000000000000⟩ T) : ∀
    a0, Kept T s0 a0 →
    ResKept T s0 (execRailRetry a0) := by
  intro a0 h0
  unfold execRailRetry
  refine next_kept ?_
  exact (kept_railRetry (tr (by decide) hT) _ h0)

theorem kept_recoveryHold {T : Touch} {s0 : State} (hT : Touch.le ⟨24576,
    0x100000000000000000000000000000000000000000000000000, 0x0⟩ T) : ∀ a0, Kept T s0 a0 →
    Kept T s0 (recoveryHold a0) := by
  intro a0 h0
  unfold recoveryHold
  extract_lets +onlyGivenNames -merge x0
  extract_lets +onlyGivenNames -merge x1
  have hx1 : Kept T s0 x1 := (kept_up8192 (land_le (by decide) hT.1) h0)
  clear_value x1
  refine ite_holds (P := (Kept T s0)) ?_ ?_
  · extract_lets +onlyGivenNames -merge x2
    have hx2 : Kept T s0 x2 := (kept_State_setFld (tr (by decide) hT) _ _ _ _ _ hx1 (hasR_of ixR_NVM_BOOT_SEL (by
        decide) hT))
    clear_value x2
    exact (kept_up16384 (land_le (by decide) hT.1) hx2)
  · exact hx1

theorem kept_execRecoveryHold {T : Touch} {s0 : State} (hT : Touch.le ⟨24576,
    0x100000000000000000000000000000000000000000000000000, 0x0⟩ T) : ∀ a0, Kept T s0 a0 →
    ResKept T s0 (execRecoveryHold a0) := by
  intro a0 h0
  unfold execRecoveryHold
  refine next_kept ?_
  exact (kept_recoveryHold (tr (by decide) hT) _ h0)

theorem kept_steepTimeout {T : Touch} {s0 : State} (hT : Touch.le ⟨12288, 0x0,
    0x400000000000000000000000000000000000000000000000000000⟩ T) : ∀ a0, Kept T s0 a0 →
    Kept T s0 (steepTimeout a0) := by
  intro a0 h0
  unfold steepTimeout
  split
  · exact (ite_holds (P := (Kept T s0)) (kept_keeperEvent (tr (by decide) hT) _ _ _ _ (kept_State_count _ _ _ _ _
      (kept_up8192 (land_le (by decide) hT.1) h0) (hasC_of ixC_PWR_STEEP_TIMEOUT_CNT (by decide) hT))) h0)
  · exact h0

theorem kept_execSteepTimeout {T : Touch} {s0 : State} (hT : Touch.le ⟨12288, 0x0,
    0x400000000000000000000000000000000000000000000000000000⟩ T) : ∀ a0, Kept T s0 a0 →
    ResKept T s0 (execSteepTimeout a0) := by
  intro a0 h0
  unfold execSteepTimeout
  refine next_kept ?_
  exact (kept_steepTimeout (tr (by decide) hT) _ h0)

theorem kept_powerLimit {T : Touch} {s0 : State} (hT : Touch.le ⟨8192,
    0x80000000000000000000000000000000000000000000000, 0x200000000000000000000000000000000000000000000000000000⟩ T) :
    ∀ a0 a1, Kept T s0 a1 →
    Kept T s0 (powerLimit a0 a1) := by
  intro a0 a1 h1
  unfold powerLimit
  refine ite_holds (P := (Kept T s0)) ?_ ?_
  · extract_lets +onlyGivenNames -merge x0
    have hx0 : Kept T s0 x0 := (kept_State_countIf (tr (by decide) hT) _ _ _ _ _ h1 (hasC_of ixC_PWR_POWER_LIMIT_CNT
        (by decide) hT))
    clear_value x0
    extract_lets +onlyGivenNames -merge x1
    have hx1 : Kept T s0 x1 := (kept_State_setFld (tr (by decide) hT) _ _ _ _ _ hx0 (hasR_of ixR_PWR_STATUS (by
        decide) hT))
    clear_value x1
    exact (kept_up8192 (land_le (by decide) hT.1) hx1)
  · exact (ite_holds (P := (Kept T s0)) (kept_up8192 (land_le (by decide) hT.1) h1) (kept_up8192 (land_le (by decide)
      hT.1) h1))

theorem kept_setSimmer {T : Touch} {s0 : State} (hT : Touch.le ⟨8305920,
    0x20084680800e0000000e0000000030400005a0000000000090, 0x30c35507e74000028200000000018000024104407fffdc0c003f0⟩ T)
    : ∀ a0 a1, Kept T s0 a1 →
    Kept T s0 (setSimmer a0 a1) := by
  intro a0 a1 h1
  unfold setSimmer
  extract_lets +onlyGivenNames -merge x0
  extract_lets +onlyGivenNames -merge x1
  extract_lets +onlyGivenNames -merge x2
  have hx2 : Kept T s0 x2 := (kept_raiseNear (tr (by decide) hT) _ _ (kept_State_setFld (tr (by decide) hT) _ _ _ _ _
      (kept_State_setFld (tr (by decide) hT) _ _ _ _ _ h1 (hasR_of ixR_PWR_STATUS (by decide) hT)) (hasR_of
      ixR_KEEP_STATUS (by decide) hT)))
  clear_value x2
  extract_lets +onlyGivenNames -merge x3
  have hx3 : Kept T s0 x3 := (kept_State_countIf (tr (by decide) hT) _ _ _ _ _ (kept_State_countIf (tr (by decide)
      hT) _ _ _ _ _ hx2 (hasC_of ixC_PWR_SIMMER1_CNT (by decide) hT)) (hasC_of ixC_PWR_SIMMER2_CNT (by decide) hT))
  clear_value x3
  extract_lets +onlyGivenNames -merge x4
  extract_lets +onlyGivenNames -merge x5
  extract_lets +onlyGivenNames -merge x6
  have hx6 : Kept T s0 x6 := (kept_up4202496 (land_le (by decide) hT.1) hx3)
  clear_value x6
  extract_lets +onlyGivenNames -merge x7
  have hx7 : Kept T s0 x7 := (foldl_holds (P := (Kept T s0)) (fun _ _ hm8 => (kept_darkenGroup (tr (by decide) hT) _
      _ hm8)) hx6)
  clear_value x7
  extract_lets +onlyGivenNames -merge x9
  have hx9 : Kept T s0 x9 := (foldl_holds (P := (Kept T s0)) (fun _ _ hm10 => (kept_lightGroup (tr (by decide) hT) _
      _ hm10)) hx7)
  clear_value x9
  exact (kept_showSpill (tr (by decide) hT) _ (kept_lanesStopped (tr (by decide) hT) _ hx9))

theorem kept_warm {T : Touch} {s0 : State} (hT : Touch.le ⟨8192,
    0x20080000000000000000000000000000000000000000000000, 0x8000000000000000000000000000000000000000000000000000⟩ T)
    : ∀ a0 a1, Kept T s0 a1 →
    Kept T s0 (warm a0 a1) := by
  intro a0 a1 h1
  unfold warm
  exact (ite_holds (P := (Kept T s0)) (ite_holds (P := (Kept T s0)) (kept_endSteep (tr (by decide) hT) _ h1) h1)
      (ite_holds (P := (Kept T s0)) (kept_up8192 (land_le (by decide) hT.1) h1) (ite_holds (P := (Kept T s0))
      (kept_up8192 (land_le (by decide) hT.1) h1) h1)))

theorem kept_thermalEvaluation {T : Touch} {s0 : State} (hT : Touch.le ⟨8305920,
    0x21684680800e0000000e0000000030400005a0000000000090, 0x238c35507e74000028200000000018000024104407fffdc0c003f0⟩
    T) : ∀ a0 a1, Kept T s0 a1 →
    Kept T s0 (thermalEvaluation a0 a1) := by
  intro a0 a1 h1
  unfold thermalEvaluation
  extract_lets +onlyGivenNames -merge x0
  refine ite_holds (P := (Kept T s0)) ?_ ?_
  · extract_lets +onlyGivenNames -merge x1
    extract_lets +onlyGivenNames -merge x2
    have hx2 : Kept T s0 x2 := (kept_measured (tr (by decide) hT) _ _ (kept_up8192 (land_le (by decide) hT.1) h1))
    clear_value x2
    extract_lets +onlyGivenNames -merge x3
    have hx3 : Kept T s0 x3 := (kept_powerLimit (tr (by decide) hT) _ _ (kept_warm (tr (by decide) hT) _ _ hx2))
    clear_value x3
    extract_lets +onlyGivenNames -merge x4
    extract_lets +onlyGivenNames -merge x5
    exact (ite_holds (P := (Kept T s0)) hx3 (kept_setSimmer (tr (by decide) hT) _ _ hx3))
  · exact h1

theorem kept_execThermalEvaluation {T : Touch} {s0 : State} (hT : Touch.le ⟨8305920,
    0x21684680800e0000000e0000000030400005a0000000000090, 0x238c35507e74000028200000000018000024104407fffdc0c003f0⟩
    T) : ∀ a0 a1, Kept T s0 a1 →
    ResKept T s0 (execThermalEvaluation a0 a1) := by
  intro a0 a1 h1
  unfold execThermalEvaluation
  refine next_kept ?_
  exact (kept_thermalEvaluation (tr (by decide) hT) _ _ h1)

theorem kept_execThermalTrip {T : Touch} {s0 : State} (hT : Touch.le ⟨7110016,
    0x4000000420084680000000000002000000082000000000000000000000,
    0x40000034500000000008000000000000000000000000000000000000⟩ T) : ∀ a0 a1, Kept T s0 a1 →
    ResKept T s0 (execThermalTrip a0 a1) := by
  intro a0 a1 h1
  unfold execThermalTrip
  refine next_kept ?_
  exact (ite_holds (P := (Kept T s0)) (kept_startDusk (tr (by decide) hT) _ _ _ (kept_keeperEvent (tr (by decide) hT)
      _ _ _ _ (kept_up8192 (land_le (by decide) hT.1) h1))) h1)

/-! ### Machine/Nvm.lean -/

theorem kept_bootSlot {T : Touch} {s0 : State} (hT : Touch.le ⟨24576,
    0x80000000000000000000000000000000000000000000000000, 0x0⟩ T) : ∀ a0 a1, Kept T s0 a1 →
    Kept T s0 (bootSlot a0 a1) := by
  intro a0 a1 h1
  unfold bootSlot
  extract_lets +onlyGivenNames -merge x0
  extract_lets +onlyGivenNames -merge x1
  extract_lets +onlyGivenNames -merge x2
  extract_lets +onlyGivenNames -merge x3
  have hx3 : Kept T s0 x3 := (kept_up24576 (land_le (by decide) hT.1) h1)
  clear_value x3
  exact (kept_showSlots (tr (by decide) hT) _ hx3)

theorem kept_checkSlot {T : Touch} {s0 : State} (hT : Touch.le ⟨16384,
    0x80000000000000000000000000000000000000000000000000,
    0x400000000000000000000000000000000000000000000000000000000⟩ T) : ∀ a0 a1 a2, Kept T s0 a2 →
    Snd (Kept T s0) (checkSlot a0 a1 a2) := by
  intro a0 a1 a2 h2
  unfold checkSlot
  refine ite_holds (P := (Snd (Kept T s0))) ?_ ?_
  · refine snd_holds (P := (Kept T s0)) ?_
    exact h2
  · refine snd_holds (P := (Kept T s0)) ?_
    exact (kept_showSlots (tr (by decide) hT) _ (kept_setSlot (tr (by decide) hT) _ _ _ (kept_State_count _ _ _ _ _
        h2 (hasC_of ixC_NVM_BOOT_FAIL_CNT (by decide) hT))))

theorem kept_enterRecovery {T : Touch} {s0 : State} (hT : Touch.le ⟨24576,
    0x80000000000000000000000000000000000000000000000000000, 0x0⟩ T) : ∀ a0, Kept T s0 a0 →
    Kept T s0 (enterRecovery a0) := by
  intro a0 h0
  unfold enterRecovery
  extract_lets +onlyGivenNames -merge x0
  have hx0 : Kept T s0 x0 := (kept_State_setFld (tr (by decide) hT) _ _ _ _ _ h0 (hasR_of ixR_SYS_RUN_STATE (by
      decide) hT))
  clear_value x0
  exact (kept_up24576 (land_le (by decide) hT.1) hx0)

theorem kept_setBoot {T : Touch} {s0 : State} (hT : Touch.le ⟨16384, 0x0, 0x0⟩ T) : ∀ a0 a1 a2, T.hasR a0.reg → Kept
    T s0 a2 →
    Kept T s0 (setBoot a0 a1 a2) := by
  intro a0 a1 a2 h0 h2
  unfold setBoot
  extract_lets +onlyGivenNames -merge x0
  have hx0 : Kept T s0 x0 := (kept_State_setFld (tr (by decide) hT) _ _ _ _ _ h2 h0)
  clear_value x0
  exact (kept_up16384 (land_le (by decide) hT.1) hx0)

theorem kept_bootActive {T : Touch} {s0 : State} (hT : Touch.le ⟨24576,
    0x80180000000000000000000000000000000000000000000000000,
    0x400000000000000000000000000000000000000000000000000000000⟩ T) : ∀ a0 a1, Kept T s0 a1 →
    Kept T s0 (bootActive a0 a1) := by
  intro a0 a1 h1
  unfold bootActive
  extract_lets +onlyGivenNames -merge x0
  split
  · rename_i v1 v2 heq3
    have hv2 : Kept T s0 v2 := holds_eq (P := (Snd (Kept T s0))) heq3 (by
        exact (kept_checkSlot (tr (by decide) hT) _ _ _ h1))
    refine ite_holds (P := (Kept T s0)) ?_ ?_
    · exact (kept_bootSlot (tr (by decide) hT) _ _ hv2)
    · extract_lets +onlyGivenNames -merge x4
      refine ite_holds (P := (Kept T s0)) ?_ ?_
      · split
        · rename_i v5 v6 heq7
          have hv6 : Kept T s0 v6 := holds_eq (P := (Snd (Kept T s0))) heq7 (by
              exact (kept_checkSlot (tr (by decide) hT) _ _ _ hv2))
          exact (ite_holds (P := (Kept T s0)) (kept_bootSlot (tr (by decide) hT) _ _ (kept_setBoot (tr (by decide)
              hT) _ _ _ (hasR_of ixR_NVM_BOOT_SEL (by decide) hT) (kept_setBoot (tr (by decide) hT) _ _ _ (hasR_of
              ixR_NVM_BOOT_SEL (by decide) hT) hv6))) (kept_enterRecovery (tr (by decide) hT) _ hv6))
      · exact (kept_enterRecovery (tr (by decide) hT) _ hv2)

theorem kept_boot {T : Touch} {s0 : State} (hT : Touch.le ⟨24576,
    0x80180000000000000000000000000000000000000000000000000,
    0x500000000000000000000000000000000000000000000000000000000⟩ T) : ∀ a0 a1 a2, Kept T s0 a2 →
    Kept T s0 (boot a0 a1 a2) := by
  intro a0 a1 a2 h2
  unfold boot
  extract_lets +onlyGivenNames -merge x0
  subst x0
  refine ite_holds (P := (Kept T s0)) ?_ ?_
  · refine ite_holds (P := (Kept T s0)) ?_ ?_
    · exact (kept_enterRecovery (tr (by decide) hT) _ (kept_setBoot (tr (by decide) hT) _ _ _ (hasR_of
        ixR_NVM_BOOT_SEL (by decide) hT) h2))
    · refine ite_holds (P := (Kept T s0)) ?_ ?_
      · extract_lets +onlyGivenNames -merge x1
        have hx1 : Kept T s0 x1 := (kept_setBoot (tr (by decide) hT) _ _ _ (hasR_of ixR_NVM_BOOT_SEL (by decide) hT)
            h2)
        clear_value x1
        exact (kept_bootActive (tr (by decide) hT) _ _ (kept_State_count _ _ _ _ _ (kept_setBoot (tr (by decide) hT)
            _ _ _ (hasR_of ixR_NVM_BOOT_SEL (by decide) hT) hx1) (hasC_of ixC_NVM_TRIAL_REVERT_CNT (by decide) hT)))
      · exact (kept_bootActive (tr (by decide) hT) _ _ h2)
  · exact h2

theorem kept_nvmErr {T : Touch} {s0 : State} (hT : Touch.le ⟨0,
    0x400000000000000000000000000000000000000000000000000, 0x0⟩ T) : ∀ a0 a1, Kept T s0 a1 →
    Kept T s0 (nvmErr a0 a1) := by
  intro a0 a1 h1
  unfold nvmErr
  exact (kept_State_setFld (tr (by decide) hT) _ _ _ _ _ (kept_State_setFld (tr (by decide) hT) _ _ _ _ _ h1 (hasR_of
      ixR_NVM_STATUS (by decide) hT)) (hasR_of ixR_NVM_STATUS (by decide) hT))

theorem kept_nvmTake {T : Touch} {s0 : State} (hT : Touch.le ⟨0,
    0x400000000000000000000000000000000000000000000000000, 0x0⟩ T) : ∀ a0 a1, (∀ z0, Kept T s0 z0 → Kept T s0 (a0
    z0)) → Kept T s0 a1 →
    Kept T s0 (nvmTake a0 a1) := by
  intro a0 a1 h0 h1
  unfold nvmTake
  refine ite_holds (P := (Kept T s0)) ?_ ?_
  · refine ite_holds (P := (Kept T s0)) ?_ ?_
    · exact (kept_nvmErr (tr (by decide) hT) _ _ h1)
    · refine h0 _ h1

  · exact h1

theorem kept_nvmIdle {T : Touch} {s0 : State} (hT : Touch.le ⟨0,
    0x400000000000000000000000000000000000000000000000000, 0x0⟩ T) : ∀ a0 a1, (∀ z0, Kept T s0 z0 → Kept T s0 (a0
    z0)) → Kept T s0 a1 →
    Kept T s0 (nvmIdle a0 a1) := by
  intro a0 a1 h0 h1
  unfold nvmIdle
  refine kept_nvmTake (tr (by decide) hT) _ _ ?_ h1
  · intro y0 hy0
    refine ite_holds (P := (Kept T s0)) ?_ ?_
    · exact (kept_nvmErr (tr (by decide) hT) _ _ hy0)
    · refine h0 _ hy0

theorem kept_nvmStart {T : Touch} {s0 : State} (hT : Touch.le ⟨16384,
    0x400000000000000000000000000000000000000000000000000, 0x0⟩ T) : ∀ a0 a1, Kept T s0 a1 →
    Kept T s0 (nvmStart a0 a1) := by
  intro a0 a1 h1
  unfold nvmStart
  extract_lets +onlyGivenNames -merge x0
  have hx0 : Kept T s0 x0 := (kept_State_setFld (tr (by decide) hT) _ _ _ _ _ h1 (hasR_of ixR_NVM_STATUS (by decide)
      hT))
  clear_value x0
  exact (kept_up16384 (land_le (by decide) hT.1) hx0)

theorem kept_cfgCommit {T : Touch} {s0 : State} (hT : Touch.le ⟨16384,
    0x480000000000000000000000000000000000000000000000000,
    0x80000000000000000000000000000000000000000000000000000000⟩ T) : ∀ a0, Kept T s0 a0 →
    Kept T s0 (cfgCommit a0) := by
  intro a0 h0
  unfold cfgCommit
  refine kept_nvmIdle (tr (by decide) hT) _ _ ?_ h0
  · intro y0 hy0
    exact (ite_holds (P := (Kept T s0)) (kept_nvmStart (tr (by decide) hT) _ _ (kept_showSlots (tr (by decide) hT) _
        (kept_setCopy (tr (by decide) hT) _ _ _ (kept_State_count _ _ _ _ _ hy0 (hasC_of ixC_NVM_CFG_COMMIT_CNT (by
        decide) hT))))) (kept_nvmErr (tr (by decide) hT) _ _ hy0))

theorem kept_startCommit {T : Touch} {s0 : State} (hT : Touch.le ⟨16384,
    0x480000000000000000000000000000000000000000000000000,
    0x20000000000000000000000000000000000000000000000000000000⟩ T) : ∀ a0 a1 a2 a3 a4, Kept T s0 a4 →
    Kept T s0 (startCommit a0 a1 a2 a3 a4) := by
  intro a0 a1 a2 a3 a4 h4
  unfold startCommit
  exact (kept_nvmStart (tr (by decide) hT) _ _ (kept_showSlots (tr (by decide) hT) _ (kept_setSlot (tr (by decide)
      hT) _ _ _ (kept_State_count _ _ _ _ _ h4 (hasC_of ixC_NVM_COMMIT_CNT (by decide) hT)))))

theorem kept_imageCommit {T : Touch} {s0 : State} (hT : Touch.le ⟨16384,
    0x480000000000000000000000000000000000000000000000000,
    0x20000000000000000000000000000000000000000000000000000000⟩ T) : ∀ a0 a1, Kept T s0 a1 →
    Kept T s0 (imageCommit a0 a1) := by
  intro a0 a1 h1
  unfold imageCommit
  refine kept_nvmIdle (tr (by decide) hT) _ _ ?_ h1
  · intro y0 hy0
    exact (ite_holds (P := (Kept T s0)) (kept_nvmErr (tr (by decide) hT) _ _ hy0) (ite_holds (P := (Kept T s0))
        (kept_nvmErr (tr (by decide) hT) _ _ hy0) (kept_startCommit (tr (by decide) hT) _ _ _ _ _ hy0)))

theorem kept_nvmAbort {T : Touch} {s0 : State} (hT : Touch.le ⟨22656,
    0x400000680000000000000000000000000000000000000000000,
    0x40000030500000000000000000000000000000000000000000000000⟩ T) : ∀ a0, Kept T s0 a0 →
    Kept T s0 (nvmAbort a0) := by
  intro a0 h0
  unfold nvmAbort
  refine kept_nvmTake (tr (by decide) hT) _ _ ?_ h0
  · intro y0 hy0
    exact (kept_nvmStop (tr (by decide) hT) _ _ hy0)

theorem kept_nvmConfirm {T : Touch} {s0 : State} (hT : Touch.le ⟨16384,
    0x500000000000000000000000000000000000000000000000000, 0x0⟩ T) : ∀ a0, Kept T s0 a0 →
    Kept T s0 (nvmConfirm a0) := by
  intro a0 h0
  unfold nvmConfirm
  refine kept_nvmTake (tr (by decide) hT) _ _ ?_ h0
  · intro y0 hy0
    exact (kept_State_setFld (tr (by decide) hT) _ _ _ _ _ (kept_setBoot (tr (by decide) hT) _ _ _ (hasR_of
        ixR_NVM_BOOT_SEL (by decide) hT) hy0) (hasR_of ixR_NVM_STATUS (by decide) hT))

theorem kept_nvmRead {T : Touch} {s0 : State} (hT : Touch.le ⟨16384,
    0x400000000000000000000000000000000000000000000000000, 0x8000000000000000000000000000000000000000000000000000000⟩
    T) : ∀ a0, Kept T s0 a0 →
    Kept T s0 (nvmRead a0) := by
  intro a0 h0
  unfold nvmRead
  refine kept_nvmIdle (tr (by decide) hT) _ _ ?_ h0
  · intro y0 hy0
    exact (ite_holds (P := (Kept T s0)) (kept_nvmStart (tr (by decide) hT) _ _ (kept_State_count _ _ _ _ _ hy0
        (hasC_of ixC_NVM_READ_CNT (by decide) hT))) (kept_nvmErr (tr (by decide) hT) _ _ hy0))

theorem kept_nvmRun {T : Touch} {s0 : State} (hT : Touch.le ⟨0,
    0x80400000000000000000000000000000000000000000000000000, 0x0⟩ T) : ∀ a0 a1, Kept T s0 a1 →
    Kept T s0 (nvmRun a0 a1) := by
  intro a0 a1 h1
  unfold nvmRun
  refine kept_nvmTake (tr (by decide) hT) _ _ ?_ h1
  · intro y0 hy0
    exact (ite_holds (P := (Kept T s0)) (kept_State_setFld (tr (by decide) hT) _ _ _ _ _ (kept_State_setFld (tr (by
        decide) hT) _ _ _ _ _ hy0 (hasR_of ixR_SYS_RUN_STATE (by decide) hT)) (hasR_of ixR_NVM_STATUS (by decide)
        hT)) (kept_nvmErr (tr (by decide) hT) _ _ hy0))

theorem kept_nvmDone {T : Touch} {s0 : State} (hT : Touch.le ⟨0,
    0x400000000000000000000000000000000000000000000000000, 0x0⟩ T) : ∀ a0, Kept T s0 a0 →
    Kept T s0 (nvmDone a0) := by
  intro a0 h0
  unfold nvmDone
  exact (kept_State_setFld (tr (by decide) hT) _ _ _ _ _ (kept_State_setFld (tr (by decide) hT) _ _ _ _ _
      (kept_State_setFld (tr (by decide) hT) _ _ _ _ _ h0 (hasR_of ixR_NVM_STATUS (by decide) hT)) (hasR_of
      ixR_NVM_STATUS (by decide) hT)) (hasR_of ixR_NVM_STATUS (by decide) hT))

theorem kept_nvmSwitch {T : Touch} {s0 : State} (hT : Touch.le ⟨16384,
    0x500000000000000000000000000000000000000000000000000, 0x0⟩ T) : ∀ a0 a1, Kept T s0 a1 →
    Kept T s0 (nvmSwitch a0 a1) := by
  intro a0 a1 h1
  unfold nvmSwitch
  refine kept_nvmIdle (tr (by decide) hT) _ _ ?_ h1
  · intro y0 hy0
    refine ite_holds (P := (Kept T s0)) ?_ ?_
    · extract_lets +onlyGivenNames -merge x1
      have hx1 : Kept T s0 x1 := (kept_setBoot (tr (by decide) hT) _ _ _ (hasR_of ixR_NVM_BOOT_SEL (by decide) hT)
          (kept_setBoot (tr (by decide) hT) _ _ _ (hasR_of ixR_NVM_BOOT_SEL (by decide) hT) hy0))
      clear_value x1
      exact (kept_nvmDone (tr (by decide) hT) _ (kept_up16384 (land_le (by decide) hT.1) hx1))
    · exact (kept_nvmErr (tr (by decide) hT) _ _ hy0)

theorem kept_nvmWrite {T : Touch} {s0 : State} (hT : Touch.le ⟨16384,
    0x400000000000000000000000000000000000000000000000000,
    0x10000000000000000000000000000000000000000000000000000000⟩ T) : ∀ a0, Kept T s0 a0 →
    Kept T s0 (nvmWrite a0) := by
  intro a0 h0
  unfold nvmWrite
  refine kept_nvmIdle (tr (by decide) hT) _ _ ?_ h0
  · intro y0 hy0
    exact (ite_holds (P := (Kept T s0)) (kept_nvmStart (tr (by decide) hT) _ _ (kept_State_count _ _ _ _ _ hy0
        (hasC_of ixC_NVM_WRITE_CNT (by decide) hT))) (kept_nvmErr (tr (by decide) hT) _ _ hy0))

theorem kept_nvmCmd {T : Touch} {s0 : State} (hT : Touch.le ⟨22656,
    0x80580000680000000000000000000000000000000000000000000,
    0xf8000030500000000000000000000000000000000000000000000000⟩ T) : ∀ a0 a1, Kept T s0 a1 →
    Kept T s0 (nvmCmd a0 a1) := by
  intro a0 a1 h1
  unfold nvmCmd
  extract_lets +onlyGivenNames -merge x0
  split
  · exact (kept_nvmRead (tr (by decide) hT) _ h1)
  · exact (kept_nvmWrite (tr (by decide) hT) _ h1)
  · exact (kept_imageCommit (tr (by decide) hT) _ _ h1)
  · exact (kept_nvmSwitch (tr (by decide) hT) _ _ h1)
  · exact (kept_nvmConfirm (tr (by decide) hT) _ h1)
  · exact (kept_cfgCommit (tr (by decide) hT) _ h1)
  · exact (kept_nvmRun (tr (by decide) hT) _ _ h1)
  · exact (kept_nvmAbort (tr (by decide) hT) _ h1)
  · refine kept_nvmIdle (tr (by decide) hT) _ _ ?_ h1
    · intro y11 hy11
      exact (kept_nvmErr (tr (by decide) hT) _ _ hy11)

theorem kept_nvmFail {T : Touch} {s0 : State} (hT : Touch.le ⟨0,
    0x400000000000000000000000000000000000000000000000000, 0x0⟩ T) : ∀ a0 a1, Kept T s0 a1 →
    Kept T s0 (nvmFail a0 a1) := by
  intro a0 a1 h1
  unfold nvmFail
  exact (kept_nvmErr (tr (by decide) hT) _ _ (kept_State_setFld (tr (by decide) hT) _ _ _ _ _ (kept_State_setFld (tr
      (by decide) hT) _ _ _ _ _ h1 (hasR_of ixR_NVM_STATUS (by decide) hT)) (hasR_of ixR_NVM_STATUS (by decide) hT)))

theorem kept_endCommit {T : Touch} {s0 : State} (hT : Touch.le ⟨16384,
    0x480000000000000000000000000000000000000000000000000,
    0x40000000000000000000000000000000000000000000000000000000⟩ T) : ∀ a0 a1 a2, Kept T s0 a2 →
    Kept T s0 (endCommit a0 a1 a2) := by
  intro a0 a1 a2 h2
  unfold endCommit
  exact (ite_holds (P := (Kept T s0)) (kept_nvmDone (tr (by decide) hT) _ (kept_showSlots (tr (by decide) hT) _
      (kept_setSlot (tr (by decide) hT) _ _ _ h2))) (kept_nvmFail (tr (by decide) hT) _ _ (kept_State_count _ _ _ _ _
      (kept_showSlots (tr (by decide) hT) _ (kept_setSlot (tr (by decide) hT) _ _ _ h2)) (hasC_of
      ixC_NVM_COMMIT_FAIL_CNT (by decide) hT))))

theorem kept_dfuLoad {T : Touch} {s0 : State} (hT : Touch.le ⟨22656,
    0x580000680000000000000000000000000000000000000000000,
    0x60000030500000000000000000000000000000000000000000000000⟩ T) : ∀ a0 a1 a2, Kept T s0 a2 →
    Kept T s0 (dfuLoad a0 a1 a2) := by
  intro a0 a1 a2 h2
  unfold dfuLoad
  refine ite_holds (P := (Kept T s0)) ?_ ?_
  · split
    · exact h2
    · extract_lets +onlyGivenNames -merge x3
      extract_lets +onlyGivenNames -merge x4
      have hx4 : Kept T s0 x4 := (kept_endCommit (tr (by decide) hT) _ _ _ (kept_nvmCopy (tr (by decide) hT) _ _ _
          (kept_State_count _ _ _ _ _ h2 (hasC_of ixC_NVM_COMMIT_CNT (by decide) hT))))
      clear_value x4
      exact (ite_holds (P := (Kept T s0)) (kept_setBoot (tr (by decide) hT) _ _ _ (hasR_of ixR_NVM_BOOT_SEL (by
          decide) hT) (kept_setBoot (tr (by decide) hT) _ _ _ (hasR_of ixR_NVM_BOOT_SEL (by decide) hT) hx4)) hx4)
  · exact h2

theorem kept_execAbort {T : Touch} {s0 : State} (hT : Touch.le ⟨22656,
    0x400000680000000000000000000000000000000000000000000,
    0x40000030500000000000000000000000000000000000000000000000⟩ T) : ∀ a0 a1, Kept T s0 a1 →
    ResKept T s0 (execAbort a0 a1) := by
  intro a0 a1 h1
  unfold execAbort
  refine next_kept ?_
  refine kept_near (tr (by decide) hT) _ _ ?_ h1
  · intro y0 hy0
    exact (kept_nvmAbort (tr (by decide) hT) _ hy0)

theorem kept_execBoot {T : Touch} {s0 : State} (hT : Touch.le ⟨24576,
    0x80180000000000000000000000000000000000000000000000000,
    0x500000000000000000000000000000000000000000000000000000000⟩ T) : ∀ a0 a1 a2, Kept T s0 a2 →
    ResKept T s0 (execBoot a0 a1 a2) := by
  intro a0 a1 a2 h2
  unfold execBoot
  refine next_kept ?_
  exact (kept_boot (tr (by decide) hT) _ _ _ h2)

theorem kept_execBootSelWrite {T : Touch} {s0 : State} (hT : Touch.le ⟨16384, 0x0, 0x0⟩ T) : ∀ a0, Kept T s0 a0 →
    ResKept T s0 (execBootSelWrite a0) := by
  intro a0 h0
  unfold execBootSelWrite
  refine next_kept ?_
  exact (ite_holds (P := (Kept T s0)) (kept_up16384 (land_le (by decide) hT.1) h0) h0)

theorem kept_execCfgCommit {T : Touch} {s0 : State} (hT : Touch.le ⟨16384,
    0x480000000000000000000000000000000000000000000000000,
    0x80000000000000000000000000000000000000000000000000000000⟩ T) : ∀ a0 a1, Kept T s0 a1 →
    ResKept T s0 (execCfgCommit a0 a1) := by
  intro a0 a1 h1
  unfold execCfgCommit
  refine next_kept ?_
  refine kept_near (tr (by decide) hT) _ _ ?_ h1
  · intro y0 hy0
    exact (kept_cfgCommit (tr (by decide) hT) _ hy0)

theorem kept_execConfirm {T : Touch} {s0 : State} (hT : Touch.le ⟨16384,
    0x500000000000000000000000000000000000000000000000000, 0x0⟩ T) : ∀ a0 a1, Kept T s0 a1 →
    ResKept T s0 (execConfirm a0 a1) := by
  intro a0 a1 h1
  unfold execConfirm
  refine next_kept ?_
  refine kept_near (tr (by decide) hT) _ _ ?_ h1
  · intro y0 hy0
    exact (kept_nvmConfirm (tr (by decide) hT) _ hy0)

theorem kept_execDfuImageLoad {T : Touch} {s0 : State} (hT : Touch.le ⟨22656,
    0x580000680000000000000000000000000000000000000000000,
    0x60000030500000000000000000000000000000000000000000000000⟩ T) : ∀ a0 a1 a2, Kept T s0 a2 →
    ResKept T s0 (execDfuImageLoad a0 a1 a2) := by
  intro a0 a1 a2 h2
  unfold execDfuImageLoad
  refine next_kept ?_
  exact (kept_dfuLoad (tr (by decide) hT) _ _ _ h2)

theorem kept_execImageCommit {T : Touch} {s0 : State} (hT : Touch.le ⟨16384,
    0x480000000000000000000000000000000000000000000000000,
    0x20000000000000000000000000000000000000000000000000000000⟩ T) : ∀ a0 a1 a2, Kept T s0 a2 →
    ResKept T s0 (execImageCommit a0 a1 a2) := by
  intro a0 a1 a2 h2
  unfold execImageCommit
  refine next_kept ?_
  refine kept_near (tr (by decide) hT) _ _ ?_ h2
  · intro y0 hy0
    exact (kept_imageCommit (tr (by decide) hT) _ _ hy0)

theorem kept_startRails {T : Touch} {s0 : State} (hT : Touch.le ⟨9472,
    0x20084000000000000000000000000000000000000000000000, 0x4000000000000000000000000000000000000000000000000⟩ T) : ∀
    a0, Kept T s0 a0 →
    Kept T s0 (startRails a0) := by
  intro a0 h0
  unfold startRails
  split
  · exact (kept_sequence (tr (by decide) hT) _ _ (kept_up8192 (land_le (by decide) hT.1) h0))
  · exact h0

theorem kept_keeperRuns {T : Touch} {s0 : State} (hT : Touch.le ⟨25856,
    0xa00840000000000000000000000c0000000000000000000000, 0x100004000000000000000000000000000000000000000000000000⟩
    T) : ∀ a0 a1, Kept T s0 a1 →
    Kept T s0 (keeperRuns a0 a1) := by
  intro a0 a1 h1
  unfold keeperRuns
  extract_lets +onlyGivenNames -merge x0
  extract_lets +onlyGivenNames -merge x1
  extract_lets +onlyGivenNames -merge x2
  have hx2 : Kept T s0 x2 := (kept_showSlots (tr (by decide) hT) _ (kept_up24576 (land_le (by decide) hT.1) h1))
  clear_value x2
  exact (kept_startRails (tr (by decide) hT) _ (kept_keeperQuiet (tr (by decide) hT) _ (kept_State_setFld (tr (by
      decide) hT) _ _ _ _ _ hx2 (hasR_of ixR_KEEP_STATUS (by decide) hT))))

theorem kept_keeperFallback {T : Touch} {s0 : State} (hT : Touch.le ⟨25856,
    0xa00840000000000000000000000c0000000000000000000000, 0x100004000000000000000000000000000000000000000000000000⟩
    T) : ∀ a0, Kept T s0 a0 →
    Kept T s0 (keeperFallback a0) := by
  intro a0 h0
  unfold keeperFallback
  split
  · extract_lets +onlyGivenNames -merge x2
    exact (ite_holds (P := (Kept T s0)) (kept_keeperRuns (tr (by decide) hT) _ _ h0) h0)
  · exact h0

theorem kept_execKeeperFwFallback {T : Touch} {s0 : State} (hT : Touch.le ⟨25856,
    0xa00840000000000000000000000c0000000000000000000000, 0x100004000000000000000000000000000000000000000000000000⟩
    T) : ∀ a0, Kept T s0 a0 →
    ResKept T s0 (execKeeperFwFallback a0) := by
  intro a0 h0
  unfold execKeeperFwFallback
  refine next_kept ?_
  exact (kept_keeperFallback (tr (by decide) hT) _ h0)

theorem kept_keeperLoad {T : Touch} {s0 : State} (hT : Touch.le ⟨25856,
    0xa00840000000000000000000000c0000000000000000000000, 0x100004000000000000000000000000000000000000000000000000⟩
    T) : ∀ a0 a1 a2, Kept T s0 a2 →
    Kept T s0 (keeperLoad a0 a1 a2) := by
  intro a0 a1 a2 h2
  unfold keeperLoad
  refine ite_holds (P := (Kept T s0)) ?_ ?_
  · split
    · exact (kept_keeperRuns (tr (by decide) hT) _ _ h2)
    · exact h2
  · exact h2

theorem kept_execKeeperFwLoad {T : Touch} {s0 : State} (hT : Touch.le ⟨25856,
    0xa00840000000000000000000000c0000000000000000000000, 0x100004000000000000000000000000000000000000000000000000⟩
    T) : ∀ a0 a1 a2, Kept T s0 a2 →
    ResKept T s0 (execKeeperFwLoad a0 a1 a2) := by
  intro a0 a1 a2 h2
  unfold execKeeperFwLoad
  refine next_kept ?_
  exact (kept_keeperLoad (tr (by decide) hT) _ _ _ h2)

theorem kept_nvmOpComplete {T : Touch} {s0 : State} (hT : Touch.le ⟨22656,
    0x480000680000000000000000000000000000000000000000000,
    0x240000030500000000000000000000000000000000000000000000000⟩ T) : ∀ a0 a1, Kept T s0 a1 →
    Kept T s0 (nvmOpComplete a0 a1) := by
  intro a0 a1 h1
  unfold nvmOpComplete
  split
  · exact h1
  · extract_lets +onlyGivenNames -merge x3
    extract_lets +onlyGivenNames -merge x4
    have hx4 : Kept T s0 x4 := (kept_up16384 (land_le (by decide) hT.1) h1)
    clear_value x4
    refine ite_holds (P := (Kept T s0)) ?_ ?_
    · exact (kept_nvmFail (tr (by decide) hT) _ _ (kept_State_countIf (tr (by decide) hT) _ _ _ _ _ (kept_State_count
        _ _ _ _ _ (kept_nvmCut (tr (by decide) hT) _ _ hx4) (hasC_of ixC_NVM_FLASH_ERR_CNT (by decide) hT)) (hasC_of
        ixC_NVM_COMMIT_FAIL_CNT (by decide) hT)))
    · extract_lets +onlyGivenNames -merge x5
      have hx5 : Kept T s0 x5 := (kept_nvmCopy (tr (by decide) hT) _ _ _ hx4)
      clear_value x5
      exact (ite_holds (P := (Kept T s0)) (kept_endCommit (tr (by decide) hT) _ _ _ hx5) (ite_holds (P := (Kept T
          s0)) (kept_nvmDone (tr (by decide) hT) _ (kept_showSlots (tr (by decide) hT) _ (kept_setCopy (tr (by
          decide) hT) _ _ _ hx5))) (kept_nvmDone (tr (by decide) hT) _ hx5)))

theorem kept_execNvmOpComplete {T : Touch} {s0 : State} (hT : Touch.le ⟨22656,
    0x480000680000000000000000000000000000000000000000000,
    0x240000030500000000000000000000000000000000000000000000000⟩ T) : ∀ a0 a1, Kept T s0 a1 →
    ResKept T s0 (execNvmOpComplete a0 a1) := by
  intro a0 a1 h1
  unfold execNvmOpComplete
  refine next_kept ?_
  exact (kept_nvmOpComplete (tr (by decide) hT) _ _ h1)

theorem kept_execNvmRead {T : Touch} {s0 : State} (hT : Touch.le ⟨16384,
    0x400000000000000000000000000000000000000000000000000, 0x8000000000000000000000000000000000000000000000000000000⟩
    T) : ∀ a0 a1, Kept T s0 a1 →
    ResKept T s0 (execNvmRead a0 a1) := by
  intro a0 a1 h1
  unfold execNvmRead
  refine next_kept ?_
  refine kept_near (tr (by decide) hT) _ _ ?_ h1
  · intro y0 hy0
    exact (kept_nvmRead (tr (by decide) hT) _ hy0)

theorem kept_execNvmWrite {T : Touch} {s0 : State} (hT : Touch.le ⟨16384,
    0x400000000000000000000000000000000000000000000000000,
    0x10000000000000000000000000000000000000000000000000000000⟩ T) : ∀ a0 a1, Kept T s0 a1 →
    ResKept T s0 (execNvmWrite a0 a1) := by
  intro a0 a1 h1
  unfold execNvmWrite
  refine next_kept ?_
  refine kept_near (tr (by decide) hT) _ _ ?_ h1
  · intro y0 hy0
    exact (kept_nvmWrite (tr (by decide) hT) _ hy0)

theorem kept_execRun {T : Touch} {s0 : State} (hT : Touch.le ⟨0,
    0x80400000000000000000000000000000000000000000000000000, 0x0⟩ T) : ∀ a0 a1 a2, Kept T s0 a2 →
    ResKept T s0 (execRun a0 a1 a2) := by
  intro a0 a1 a2 h2
  unfold execRun
  refine next_kept ?_
  refine kept_near (tr (by decide) hT) _ _ ?_ h2
  · intro y0 hy0
    exact (kept_nvmRun (tr (by decide) hT) _ _ hy0)

theorem kept_execSwitch {T : Touch} {s0 : State} (hT : Touch.le ⟨16384,
    0x500000000000000000000000000000000000000000000000000, 0x0⟩ T) : ∀ a0 a1 a2, Kept T s0 a2 →
    ResKept T s0 (execSwitch a0 a1 a2) := by
  intro a0 a1 a2 h2
  unfold execSwitch
  refine next_kept ?_
  refine kept_near (tr (by decide) hT) _ _ ?_ h2
  · intro y0 hy0
    exact (kept_nvmSwitch (tr (by decide) hT) _ _ hy0)

theorem kept_trialExpiry {T : Touch} {s0 : State} (hT : Touch.le ⟨32640,
    0x140000500004680800600000000000000000000000000000000000000,
    0x40000034500004000000000000000000000000000000000000000000⟩ T) : ∀ a0, Kept T s0 a0 →
    Kept T s0 (trialExpiry a0) := by
  intro a0 h0
  unfold trialExpiry
  split
  · extract_lets +onlyGivenNames -merge x2
    exact (ite_holds (P := (Kept T s0)) (kept_appRequest (tr (by decide) hT) _ _ h0) h0)
  · exact h0

theorem kept_execTrialExpiry {T : Touch} {s0 : State} (hT : Touch.le ⟨32640,
    0x140000500004680800600000000000000000000000000000000000000,
    0x40000034500004000000000000000000000000000000000000000000⟩ T) : ∀ a0, Kept T s0 a0 →
    ResKept T s0 (execTrialExpiry a0) := by
  intro a0 h0
  unfold execTrialExpiry
  refine next_kept ?_
  exact (kept_trialExpiry (tr (by decide) hT) _ h0)

theorem kept_updatePush {T : Touch} {s0 : State} (hT : Touch.le ⟨16640,
    0x480000000000000000000000000000000000000000000000000,
    0x20000000000000000000000000000000000000000000000000000000⟩ T) : ∀ a0 a1, Kept T s0 a1 →
    Kept T s0 (updatePush a0 a1) := by
  intro a0 a1 h1
  unfold updatePush
  extract_lets +onlyGivenNames -merge x0
  exact (ite_holds (P := (Kept T s0)) (kept_State_emit (tr (by decide) hT) _ _ h1) (ite_holds (P := (Kept T s0))
      (kept_State_emit (tr (by decide) hT) _ _ h1) (kept_State_emit (tr (by decide) hT) _ _ (kept_startCommit (tr (by
      decide) hT) _ _ _ _ _ h1))))

theorem kept_execUpdateServicePush {T : Touch} {s0 : State} (hT : Touch.le ⟨16640,
    0x480000000000000000000000000000000000000000000000000,
    0x26000000000000000000000000000000000000000000000000000000⟩ T) : ∀ a0 a1 a2, Kept T s0 a2 →
    ResKept T s0 (execUpdateServicePush a0 a1 a2) := by
  intro a0 a1 a2 h2
  unfold execUpdateServicePush
  refine next_kept ?_
  refine kept_redfish (tr (by decide) hT) _ _ _ ?_ h2
  · intro y0 hy0
    exact (kept_updatePush (tr (by decide) hT) _ _ hy0)

/-! ### Machine/Ledger.lean -/

theorem kept_compareOne {T : Touch} {s0 : State} (hT : Touch.le ⟨6144,
    0x80000000000000000000000000000000000000000000, 0x140000000000000000000000000000000000000000000000⟩ T) : ∀ a0 a1
    a2 a3 a4, Kept T s0 a4 →
    Kept T s0 (compareOne a0 a1 a2 a3 a4) := by
  intro a0 a1 a2 a3 a4 h4
  unfold compareOne
  extract_lets +onlyGivenNames -merge x0
  extract_lets +onlyGivenNames -merge x1
  extract_lets +onlyGivenNames -merge x2
  extract_lets +onlyGivenNames -merge x3
  extract_lets +onlyGivenNames -merge x4
  have hx4 : Kept T s0 x4 := (kept_up4096 (land_le (by decide) hT.1) h4)
  clear_value x4
  exact (ite_holds (P := (Kept T s0)) hx4 (kept_ledgerFault (tr (by decide) hT) _ _ _ _ _ hx4))

theorem kept_rebaseOne {T : Touch} {s0 : State} (hT : Touch.le ⟨4096, 0x0,
    0x80000000000000000000000000000000000000000000000⟩ T) : ∀ a0 a1 a2 a3, Kept T s0 a3 →
    Kept T s0 (rebaseOne a0 a1 a2 a3) := by
  intro a0 a1 a2 a3 h3
  unfold rebaseOne
  extract_lets +onlyGivenNames -merge x0
  have hx0 : Kept T s0 x0 := (kept_State_count _ _ _ _ _ h3 (hasC_of ixC_HLT_REBASE_CNT (by decide) hT))
  clear_value x0
  exact (kept_up4096 (land_le (by decide) hT.1) hx0)

theorem kept_checkOne {T : Touch} {s0 : State} (hT : Touch.le ⟨6144, 0x80000000000000000000000000000000000000000000,
    0x1c0000000000000000000000000000000000000000000000⟩ T) : ∀ a0 a1 a2, Kept T s0 a2 →
    Kept T s0 (checkOne a0 a1 a2) := by
  intro a0 a1 a2 h2
  unfold checkOne
  refine ite_holds (P := (Kept T s0)) ?_ ?_
  · exact h2
  · split
    · exact (ite_holds (P := (Kept T s0)) (kept_rebaseOne (tr (by decide) hT) _ _ _ _ h2) (ite_holds (P := (Kept T
        s0)) h2 (kept_compareOne (tr (by decide) hT) _ _ _ _ _ h2)))

theorem kept_hltRebase {T : Touch} {s0 : State} (hT : Touch.le ⟨4096, 0x0, 0x0⟩ T) : ∀ a0, Kept T s0 a0 →
    Kept T s0 (hltRebase a0) := by
  intro a0 h0
  unfold hltRebase
  exact (kept_up4096 (land_le (by decide) hT.1) h0)

theorem kept_excuseExpiry {T : Touch} {s0 : State} (hT : Touch.le ⟨4096,
    0x80000000000000000000000000000000000000000000, 0x0⟩ T) : ∀ a0, Kept T s0 a0 →
    Kept T s0 (excuseExpiry a0) := by
  intro a0 h0
  unfold excuseExpiry
  extract_lets +onlyGivenNames -merge x0
  refine ite_holds (P := (Kept T s0)) ?_ ?_
  · exact h0
  · extract_lets +onlyGivenNames -merge x1
    extract_lets +onlyGivenNames -merge x2
    extract_lets +onlyGivenNames -merge x3
    have hx3 : Kept T s0 x3 := (kept_up4096 (land_le (by decide) hT.1) h0)
    clear_value x3
    exact (kept_State_setFld (tr (by decide) hT) _ _ _ _ _ hx3 (hasR_of ixR_HLT_LEDGER_STATUS (by decide) hT))

theorem kept_execExcuseExpiry {T : Touch} {s0 : State} (hT : Touch.le ⟨4096,
    0x80000000000000000000000000000000000000000000, 0x0⟩ T) : ∀ a0, Kept T s0 a0 →
    ResKept T s0 (execExcuseExpiry a0) := by
  intro a0 h0
  unfold execExcuseExpiry
  refine next_kept ?_
  exact (kept_excuseExpiry (tr (by decide) hT) _ h0)

theorem kept_execHltRebase {T : Touch} {s0 : State} (hT : Touch.le ⟨5120, 0x0, 0x0⟩ T) : ∀ a0 a1, Kept T s0 a1 →
    ResKept T s0 (execHltRebase a0 a1) := by
  intro a0 a1 h1
  unfold execHltRebase
  refine next_kept ?_
  refine kept_far (tr (by decide) hT) _ _ _ ?_ h1
  · intro y0 hy0
    exact (kept_hltRebase (tr (by decide) hT) _ hy0)

theorem kept_ledgerCheck {T : Touch} {s0 : State} (hT : Touch.le ⟨6144,
    0x80000000000000000000000000000000000000000000, 0x1e0000000000000000000000000000000000000000000000⟩ T) : ∀ a0,
    Kept T s0 a0 →
    Kept T s0 (ledgerCheck a0) := by
  intro a0 h0
  unfold ledgerCheck
  extract_lets +onlyGivenNames -merge x0
  refine ite_holds (P := (Kept T s0)) ?_ ?_
  · extract_lets +onlyGivenNames -merge x1
    extract_lets +onlyGivenNames -merge x2
    have hx2 : Kept T s0 x2 := (kept_State_count _ _ _ _ _ (kept_up4096 (land_le (by decide) hT.1) h0) (hasC_of
        ixC_HLT_CHECK_CNT (by decide) hT))
    clear_value x2
    extract_lets +onlyGivenNames -merge x3
    have hx3 : Kept T s0 x3 := (foldl_holds (P := (Kept T s0)) (fun _ _ hm4 => (foldl_holds (P := (Kept T s0)) (fun _
        _ hm5 => (kept_checkOne (tr (by decide) hT) _ _ _ hm5)) hm4)) hx2)
    clear_value x3
    exact (kept_up4096 (land_le (by decide) hT.1) hx3)
  · exact h0

theorem kept_execLedgerCheck {T : Touch} {s0 : State} (hT : Touch.le ⟨6144,
    0x80000000000000000000000000000000000000000000, 0x1e0000000000000000000000000000000000000000000000⟩ T) : ∀ a0,
    Kept T s0 a0 →
    ResKept T s0 (execLedgerCheck a0) := by
  intro a0 h0
  unfold execLedgerCheck
  refine next_kept ?_
  refine kept_running (tr (by decide) hT) _ _ ?_ h0
  · intro y0 hy0
    exact (kept_ledgerCheck (tr (by decide) hT) _ hy0)

/-! ### Machine/SysBlock.lean -/

theorem kept_applyGroups {T : Touch} {s0 : State} (hT : Touch.le ⟨1,
    0x800000000000000000000000000000000000000000000000000000, 0x0⟩ T) : ∀ a0 a1, Kept T s0 a1 →
    Kept T s0 (applyGroups a0 a1) := by
  intro a0 a1 h1
  unfold applyGroups
  extract_lets +onlyGivenNames -merge x0
  extract_lets +onlyGivenNames -merge x1
  subst x1
  beta_reduce
  extract_lets +onlyGivenNames -merge x2
  have hx2 : Kept T s0 x2 := (kept_up1 (land_le (by decide) hT.1) h1)
  clear_value x2
  exact (kept_State_setReg _ _ _ _ _ hx2 (hasR_of ixR_SYS_UPDATE_PENDING (by decide) hT))

theorem kept_biasTake {T : Touch} {s0 : State} (hT : Touch.le ⟨7078016,
    0x4000000000000000000000000002000000002000000000000000000000, 0x8000000000000000000000000000000000000⟩ T) : ∀ a0
    a1 a2, Kept T s0 a2 →
    Kept T s0 (biasTake a0 a1 a2) := by
  intro a0 a1 a2 h2
  unfold biasTake
  extract_lets +onlyGivenNames -merge x0
  extract_lets +onlyGivenNames -merge x1
  extract_lets +onlyGivenNames -merge x2
  have hx2 : Kept T s0 x2 := (kept_State_setReg _ _ _ _ _ (kept_State_fresh (tr (by decide) hT) _ h2) (hasR_of
      ixR_OPT_LANE_BIAS (by decide) hT))
  clear_value x2
  exact (ite_holds (P := (Kept T s0)) (kept_lanesStopped (tr (by decide) hT) _ hx2) hx2)

theorem kept_clearBlock {T : Touch} {s0 : State} (hT : Touch.le ⟨3,
    0x800000000000000000000000000000000000000000000000000000, 0x0⟩ T) : ∀ a0 a1 a2, Kept T s0 a2 →
    Kept T s0 (clearBlock a0 a1 a2) := by
  intro a0 a1 a2 h2
  unfold clearBlock
  extract_lets +onlyGivenNames -merge x0
  subst x0
  extract_lets +onlyGivenNames -merge x1
  have hx1 : Kept T s0 x1 := (kept_up3 (land_le (by decide) hT.1) h2)
  clear_value x1
  exact (kept_State_setReg _ _ _ _ _ hx1 (hasR_of ixR_SYS_UPDATE_PENDING (by decide) hT))

theorem kept_resetHlt {T : Touch} {s0 : State} (hT : Touch.le ⟨4099,
    0x800000000000000000000000000000000000000000000000000000, 0x0⟩ T) : ∀ a0, Kept T s0 a0 →
    Kept T s0 (resetHlt a0) := by
  intro a0 h0
  unfold resetHlt
  extract_lets +onlyGivenNames -merge x0
  have hx0 : Kept T s0 x0 := (kept_clearBlock (tr (by decide) hT) _ _ _ h0)
  clear_value x0
  exact (kept_up4096 (land_le (by decide) hT.1) hx0)

theorem kept_resetLeaf {T : Touch} {s0 : State} (hT : Touch.le ⟨8297731,
    0x800000004680800e0000000c000000003040000580000000000095, 0xc35507e74000020200000000018000024104407fffdc0c003f0⟩
    T) : ∀ a0, Kept T s0 a0 →
    Kept T s0 (resetLeaf a0) := by
  intro a0 h0
  unfold resetLeaf
  extract_lets +onlyGivenNames -merge x0
  have hx0 : Kept T s0 x0 := (foldl_holds (P := (Kept T s0)) (fun _ _ hm1 => (kept_groupRestart (tr (by decide) hT) _
      _ (kept_State_setReg _ _ _ _ _ hm1 (hasR_of ixR_LEAF_GROUP_CFG (by decide) hT)))) h0)
  clear_value x0
  exact (foldl_holds (P := (Kept T s0)) (fun _ _ hm2 => (kept_State_setFld (tr (by decide) hT) _ _ _ _ _ hm2 (hasR_of
      ixR_LEAF_GROUP_STATUS (by decide) hT))) (kept_clearBlock (tr (by decide) hT) _ _ _ hx0))

theorem kept_resetMir {T : Touch} {s0 : State} (hT : Touch.le ⟨262147,
    0x800000000000000000000000000000000000000000000000000000, 0x0⟩ T) : ∀ a0, Kept T s0 a0 →
    Kept T s0 (resetMir a0) := by
  intro a0 h0
  unfold resetMir
  extract_lets +onlyGivenNames -merge x0
  have hx0 : Kept T s0 x0 := (kept_clearBlock (tr (by decide) hT) _ _ _ h0)
  clear_value x0
  exact (kept_up262144 (land_le (by decide) hT.1) hx0)

theorem kept_resetParse {T : Touch} {s0 : State} (hT : Touch.le ⟨32771,
    0x800000000000000000000000000000000000000000000000000000, 0x0⟩ T) : ∀ a0, Kept T s0 a0 →
    Kept T s0 (resetParse a0) := by
  intro a0 h0
  unfold resetParse
  extract_lets +onlyGivenNames -merge x0
  have hx0 : Kept T s0 x0 := (kept_clearBlock (tr (by decide) hT) _ _ _ h0)
  clear_value x0
  exact (kept_up32768 (land_le (by decide) hT.1) hx0)

theorem kept_blockReset {T : Touch} {s0 : State} (hT : Touch.le ⟨8306435,
    0x100e00000004680800e0000000c000000003040000580000000000095,
    0xc35d07e74000020200000000018000024104407fffdc0c003f0⟩ T) : ∀ a0 a1 a2, Kept T s0 a2 →
    Kept T s0 (blockReset a0 a1 a2) := by
  intro a0 a1 a2 h2
  unfold blockReset
  extract_lets +onlyGivenNames -merge x0
  subst x0
  exact (ite_holds (P := (Kept T s0)) (kept_noteReset (tr (by decide) hT) _ _ _ _ (kept_resetLeaf (tr (by decide) hT)
      _ h2)) (ite_holds (P := (Kept T s0)) (kept_noteReset (tr (by decide) hT) _ _ _ _ (kept_resetParse (tr (by
      decide) hT) _ h2)) (ite_holds (P := (Kept T s0)) (kept_noteReset (tr (by decide) hT) _ _ _ _ (kept_resetMir (tr
      (by decide) hT) _ h2)) (ite_holds (P := (Kept T s0)) (kept_noteReset (tr (by decide) hT) _ _ _ _ (kept_resetHlt
      (tr (by decide) hT) _ h2)) (kept_logWrite (tr (by decide) hT) _ _ _ h2)))))

theorem kept_snapDone {T : Touch} {s0 : State} (hT : Touch.le ⟨20,
    0x10000000000000000000000000000000000000000000000000000000, 0x0⟩ T) : ∀ a0, Kept T s0 a0 →
    Kept T s0 (snapDone a0) := by
  intro a0 h0
  unfold snapDone
  refine ite_holds (P := (Kept T s0)) ?_ ?_
  · extract_lets +onlyGivenNames -merge x0
    have hx0 : Kept T s0 x0 := (kept_up20 (land_le (by decide) hT.1) h0)
    clear_value x0
    extract_lets +onlyGivenNames -merge x1
    have hx1 : Kept T s0 x1 := (kept_State_setFld (tr (by decide) hT) _ _ _ _ _ (kept_State_setFld (tr (by decide)
        hT) _ _ _ _ _ hx0 (hasR_of ixR_SYS_SNAP_STATUS (by decide) hT)) (hasR_of ixR_SYS_SNAP_STATUS (by decide) hT))
    clear_value x1
    exact (kept_State_setFld (tr (by decide) hT) _ _ _ _ _ hx1 (hasR_of ixR_SYS_SNAP_STATUS (by decide) hT))
  · exact h0

theorem kept_optWrite {T : Touch} {s0 : State} (hT : Touch.le ⟨512,
    0x1000600000000000000000000000000000000000000000000000000000, 0x800000000000000000000000000000000000000000000000⟩
    T) : ∀ a0 a1, Kept T s0 a1 →
    Kept T s0 (optWrite a0 a1) := by
  intro a0 a1 h1
  unfold optWrite
  refine ite_holds (P := (Kept T s0)) ?_ ?_
  · extract_lets +onlyGivenNames -merge x0
    have hx0 : Kept T s0 x0 := (kept_State_setFld (tr (by decide) hT) _ _ _ _ _ h1 (hasR_of ixR_OPT_SLOW_STATUS (by
        decide) hT))
    clear_value x0
    exact (kept_up512 (land_le (by decide) hT.1) hx0)
  · exact (ite_holds (P := (Kept T s0)) (kept_up512 (land_le (by decide) hT.1) h1) (kept_logWrite (tr (by decide) hT)
      _ _ _ h1))

theorem kept_railWrite {T : Touch} {s0 : State} (hT : Touch.le ⟨1536,
    0x600000100000000000000000000000000000000000000000000000, 0x800000000000000000000000000000000000000000000000⟩ T)
    : ∀ a0 a1 a2, Kept T s0 a2 →
    Kept T s0 (railWrite a0 a1 a2) := by
  intro a0 a1 a2 h2
  unfold railWrite
  refine ite_holds (P := (Kept T s0)) ?_ ?_
  · exact (kept_logNear (tr (by decide) hT) _ _ h2)
  · refine ite_holds (P := (Kept T s0)) ?_ ?_
    · extract_lets +onlyGivenNames -merge x0
      have hx0 : Kept T s0 x0 := (kept_State_setFld (tr (by decide) hT) _ _ _ _ _ h2 (hasR_of ixR_PWR_SLOW_STATUS (by
          decide) hT))
      clear_value x0
      exact (kept_up512 (land_le (by decide) hT.1) hx0)
    · exact (ite_holds (P := (Kept T s0)) (kept_up512 (land_le (by decide) hT.1) h2) (kept_logNear (tr (by decide)
        hT) _ _ h2))

theorem kept_fuseCtrl {T : Touch} {s0 : State} (hT : Touch.le ⟨512,
    0x400600000000000000000000000000000000000000000000000000000, 0x800000000000000000000000000000000000000000000000⟩
    T) : ∀ a0 a1, Kept T s0 a1 →
    Kept T s0 (fuseCtrl a0 a1) := by
  intro a0 a1 h1
  unfold fuseCtrl
  refine ite_holds (P := (Kept T s0)) ?_ ?_
  · exact h1
  · refine ite_holds (P := (Kept T s0)) ?_ ?_
    · exact (kept_logWrite (tr (by decide) hT) _ _ _ h1)
    · extract_lets +onlyGivenNames -merge x0
      extract_lets +onlyGivenNames -merge x1
      have hx1 : Kept T s0 x1 := (kept_up512 (land_le (by decide) hT.1) h1)
      clear_value x1
      exact (kept_State_setFld (tr (by decide) hT) _ _ _ _ _ hx1 (hasR_of ixR_SYS_FUSE_STATUS (by decide) hT))

theorem kept_resetCtrl {T : Touch} {s0 : State} (hT : Touch.le ⟨8388535,
    0x940e0058088c680800e0000000c0000000830400005a8000000000095,
    0x40000c35d07e74000020200000000018000024104407fffdc0c003f0⟩ T) : ∀ a0 a1, Kept T s0 a1 →
    Kept T s0 (resetCtrl a0 a1) := by
  intro a0 a1 h1
  unfold resetCtrl
  extract_lets +onlyGivenNames -merge x0
  exact (ite_holds (P := (Kept T s0)) h1 (ite_holds (P := (Kept T s0)) (ite_holds (P := (Kept T s0)) (kept_logWrite
      (tr (by decide) hT) _ _ _ h1) (kept_logNear (tr (by decide) hT) _ _ h1)) (ite_holds (P := (Kept T s0)) h1
      (ite_holds (P := (Kept T s0)) (kept_coldReset (tr (by decide) hT) _ _ h1) (ite_holds (P := (Kept T s0))
      (kept_warmReset (tr (by decide) hT) _ _ h1) (ite_holds (P := (Kept T s0)) (kept_appReset (tr (by decide) hT) _
      _ h1) (kept_blockReset (tr (by decide) hT) _ _ _ h1)))))))

theorem kept_snapJoin {T : Touch} {s0 : State} (hT : Touch.le ⟨516, 0x0, 0x0⟩ T) : ∀ a0 a1, Kept T s0 a1 →
    Kept T s0 (snapJoin a0 a1) := by
  intro a0 a1 h1
  unfold snapJoin
  exact (ite_holds (P := (Kept T s0)) (kept_up516 (land_le (by decide) hT.1) h1) h1)

theorem kept_snapshot {T : Touch} {s0 : State} (hT : Touch.le ⟨532,
    0x10000000000000000000000000000000000000000000000000000000, 0x0⟩ T) : ∀ a0 a1, Kept T s0 a1 →
    Kept T s0 (snapshot a0 a1) := by
  intro a0 a1 h1
  unfold snapshot
  extract_lets +onlyGivenNames -merge x0
  extract_lets +onlyGivenNames -merge x1
  extract_lets +onlyGivenNames -merge x2
  have hx2 : Kept T s0 x2 := (kept_up532 (land_le (by decide) hT.1) h1)
  clear_value x2
  exact (kept_State_setFld (tr (by decide) hT) _ _ _ _ _ (kept_State_setFld (tr (by decide) hT) _ _ _ _ _ hx2
      (hasR_of ixR_SYS_SNAP_STATUS (by decide) hT)) (hasR_of ixR_SYS_SNAP_STATUS (by decide) hT))

theorem kept_snapCtrl {T : Touch} {s0 : State} (hT : Touch.le ⟨532,
    0x18600000000000000000000000000000000000000000000000000000, 0x800000000000000000000000000000000000000000000000⟩
    T) : ∀ a0 a1, Kept T s0 a1 →
    Kept T s0 (snapCtrl a0 a1) := by
  intro a0 a1 h1
  unfold snapCtrl
  extract_lets +onlyGivenNames -merge x0
  subst x0
  beta_reduce
  extract_lets +onlyGivenNames -merge x1
  refine ite_holds (P := (Kept T s0)) ?_ ?_
  · refine ite_holds (P := (Kept T s0)) ?_ ?_
    · exact (ite_holds (P := (Kept T s0)) (kept_snapJoin (tr (by decide) hT) _ _ (kept_State_setFld (tr (by decide)
        hT) _ _ _ _ _ h1 (hasR_of ixR_SYS_SNAP_CTRL (by decide) hT))) (kept_logWrite (tr (by decide) hT) _ _ _ h1))
    · extract_lets +onlyGivenNames -merge x2
      have hx2 : Kept T s0 x2 := (kept_State_setFld (tr (by decide) hT) _ _ _ _ _ h1 (hasR_of ixR_SYS_SNAP_CTRL (by
          decide) hT))
      clear_value x2
      exact (kept_snapshot (tr (by decide) hT) _ _ (kept_up512 (land_le (by decide) hT.1) hx2))
  · exact (kept_State_setFld (tr (by decide) hT) _ _ _ _ _ h1 (hasR_of ixR_SYS_SNAP_CTRL (by decide) hT))

theorem kept_disablePort {T : Touch} {s0 : State} (hT : Touch.le ⟨8297728,
    0x4680800e0000000c000000003040000580000000000090, 0xc35507e74000020200000000018000024104407fffdc0c003f0⟩ T) : ∀
    a0 a1, Kept T s0 a1 →
    Kept T s0 (disablePort a0 a1) := by
  intro a0 a1 h1
  unfold disablePort
  extract_lets +onlyGivenNames -merge x0
  have hx0 : Kept T s0 x0 := (kept_dropLanes (tr (by decide) hT) _ _ (kept_linkDown (tr (by decide) hT) _ _
      (kept_cutRx (tr (by decide) hT) _ _ _ h1)))
  clear_value x0
  exact (kept_setPort (tr (by decide) hT) _ _ _ hx0)

theorem kept_newCtStart {T : Touch} {s0 : State} (hT : Touch.le ⟨262144, 0x100, 0x0⟩ T) : ∀ a0 a1, Kept T s0 a1 →
    Kept T s0 (newCtStart a0 a1) := by
  intro a0 a1 h1
  unfold newCtStart
  exact (kept_State_setFld (tr (by decide) hT) _ _ _ _ _ (kept_setPort (tr (by decide) hT) _ _ _ h1) (hasR_of
      ixR_LEAF_CT_STATUS (by decide) hT))

theorem kept_newPauseMode {T : Touch} {s0 : State} (hT : Touch.le ⟨262144, 0x80, 0x0⟩ T) : ∀ a0 a1, Kept T s0 a1 →
    Kept T s0 (newPauseMode a0 a1) := by
  intro a0 a1 h1
  unfold newPauseMode
  exact (kept_clearPause (tr (by decide) hT) _ _ (kept_setPort (tr (by decide) hT) _ _ _ h1))

theorem kept_portApplied {T : Touch} {s0 : State} (hT : Touch.le ⟨262144, 0x180, 0x0⟩ T) : ∀ a0 a1 a2, Kept T s0 a0 →
    Kept T s0 a2 →
    Kept T s0 (portApplied a0 a1 a2) := by
  intro a0 a1 a2 h0 h2
  unfold portApplied
  extract_lets +onlyGivenNames -merge x0
  have hx0 : Kept T s0 x0 := (ite_holds (P := (Kept T s0)) (kept_startLine (tr (by decide) hT) _ _ h2) h2)
  clear_value x0
  extract_lets +onlyGivenNames -merge x1
  have hx1 : Kept T s0 x1 := (ite_holds (P := (Kept T s0)) hx0 (kept_newCtStart (tr (by decide) hT) _ _ hx0))
  clear_value x1
  extract_lets +onlyGivenNames -merge x2
  have hx2 : Kept T s0 x2 := (ite_holds (P := (Kept T s0)) hx1 (kept_newPauseMode (tr (by decide) hT) _ _ hx1))
  clear_value x2
  exact (foldl_holds (P := (Kept T s0)) (fun _ _ hm3 => (kept_pauseSync (tr (by decide) hT) _ _ _ hm3)) hx2)

theorem kept_follow {T : Touch} {s0 : State} (hT : Touch.le ⟨8297728,
    0x4680800e0000000c0000000030400005a0200000000190, 0xc35507e74000020200000000018000024104407fffdc0c003f0⟩ T) : ∀
    a0 a1, Kept T s0 a0 → Kept T s0 a1 →
    Kept T s0 (follow a0 a1) := by
  intro a0 a1 h0 h1
  unfold follow
  extract_lets +onlyGivenNames -merge x0
  subst x0
  beta_reduce
  extract_lets +onlyGivenNames -merge x1
  have hx1 : Kept T s0 x1 := h1
  clear_value x1
  extract_lets +onlyGivenNames -merge x2
  have hx2 : Kept T s0 x2 := (foldl_holds (P := (Kept T s0)) (fun _ _ hm3 => (kept_disablePort (tr (by decide) hT) _
      _ hm3)) h1)
  clear_value x2
  extract_lets +onlyGivenNames -merge x4
  have hx4 : Kept T s0 x4 := (ite_holds (P := (Kept T s0)) (foldl_holds (P := (Kept T s0)) (fun _ _ hm5 =>
      (kept_portApplied (tr (by decide) hT) _ _ _ h0 hm5)) hx2) hx2)
  clear_value x4
  extract_lets +onlyGivenNames -merge x6
  have hx6 : Kept T s0 x6 := (kept_showSpill (tr (by decide) hT) _ (kept_planeSync (tr (by decide) hT) _ hx4))
  clear_value x6
  extract_lets +onlyGivenNames -merge x7
  have hx7 : Kept T s0 x7 := (foldl_holds (P := (Kept T s0)) (fun _ _ hm8 => (kept_boundSync (tr (by decide) hT) _ _
      hm8)) hx6)
  clear_value x7
  extract_lets +onlyGivenNames -merge x9
  extract_lets +onlyGivenNames -merge x10
  have hx10 : Kept T s0 x10 := (kept_up262144 (land_le (by decide) hT.1) hx7)
  clear_value x10
  exact (ite_holds (P := (Kept T s0)) hx10 (kept_up2097152 (land_le (by decide) hT.1) hx10))

theorem kept_strobe {T : Touch} {s0 : State} (hT : Touch.le ⟨8298241,
    0x800000004680800e0000000c0000000030400005a0200000000190, 0xc35507e74000020200000000018000024104407fffdc0c003f0⟩
    T) : ∀ a0 a1, Kept T s0 a1 →
    Kept T s0 (strobe a0 a1) := by
  intro a0 a1 h1
  unfold strobe
  exact (kept_follow (tr (by decide) hT) _ _ h1 (kept_applyGroups (tr (by decide) hT) _ _ (kept_up512 (land_le (by
      decide) hT.1) h1)))

theorem kept_strobeHi {T : Touch} {s0 : State} (hT : Touch.le ⟨512, 0x0, 0x0⟩ T) : ∀ a0 a1, Kept T s0 a1 →
    Kept T s0 (strobeHi a0 a1) := by
  intro a0 a1 h1
  unfold strobeHi
  exact (kept_up512 (land_le (by decide) hT.1) h1)

theorem kept_resetIssue {T : Touch} {s0 : State} (hT : Touch.le ⟨8388535,
    0x940e0058088c680800e0000000c0000000830400005a8000000000095,
    0x40000c35d07e74000020200000000018000024104407fffdc0c003f0⟩ T) : ∀ a0 a1, Kept T s0 a1 →
    Kept T s0 (resetIssue a0 a1) := by
  intro a0 a1 h1
  unfold resetIssue
  refine ite_holds (P := (Kept T s0)) ?_ ?_
  · exact (kept_resetCtrl (tr (by decide) hT) _ _ h1)
  · refine kept_far (tr (by decide) hT) _ _ _ ?_ h1
    · intro y0 hy0
      exact (kept_resetCtrl (tr (by decide) hT) _ _ hy0)

theorem kept_resetWrite {T : Touch} {s0 : State} (hT : Touch.le ⟨8388535,
    0x940e0058088c680800e0000000c0000000830400005a8000000000095,
    0x40000c35d07e74000020200000000018000024104407fffdc0c003f0⟩ T) : ∀ a0 a1, Kept T s0 a1 →
    Kept T s0 (resetWrite a0 a1) := by
  intro a0 a1 h1
  unfold resetWrite
  split
  · refine ite_holds (P := (Kept T s0)) ?_ ?_
    · extract_lets +onlyGivenNames -merge x2
      extract_lets +onlyGivenNames -merge x3
      have hx3 : Kept T s0 x3 := by
        subst x3
        refine kept_guarded (tr (by decide) hT) _ _ _ ?_ (kept_up1024 (land_le (by decide) hT.1) h1)
        · intro y4 hy4
          exact (kept_resetIssue (tr (by decide) hT) _ _ hy4)
      clear_value x3
      exact (kept_up1024 (land_le (by decide) hT.1) hx3)
    · refine kept_guarded (tr (by decide) hT) _ _ _ ?_ h1
      · intro y5 hy5
        exact (kept_resetIssue (tr (by decide) hT) _ _ hy5)
  · refine kept_guarded (tr (by decide) hT) _ _ _ ?_ h1
    · intro y7 hy7
      exact (kept_resetIssue (tr (by decide) hT) _ _ hy7)

theorem kept_resetValue {T : Touch} {s0 : State} (hT : Touch.le ⟨8388535,
    0x940e0058088c680800e0000000c0000000830400005a8000000000095,
    0x40000c35d07e74000020200000000018000024104407fffdc0c003f0⟩ T) : ∀ a0 a1 a2, Kept T s0 a2 →
    Kept T s0 (resetValue a0 a1 a2) := by
  intro a0 a1 a2 h2
  unfold resetValue
  exact (kept_resetWrite (tr (by decide) hT) _ _ h2)

theorem kept_execAppDomainReset {T : Touch} {s0 : State} (hT : Touch.le ⟨8388535,
    0x940e0058088c680800e0000000c0000000830400005a8000000000095,
    0x40000c35d07e74000020200000000018000024104407fffdc0c003f0⟩ T) : ∀ a0 a1, Kept T s0 a1 →
    ResKept T s0 (execAppDomainReset a0 a1) := by
  intro a0 a1 h1
  unfold execAppDomainReset
  refine next_kept ?_
  exact (kept_resetValue (tr (by decide) hT) _ _ _ h1)

theorem kept_execBlockReset {T : Touch} {s0 : State} (hT : Touch.le ⟨8388535,
    0x940e0058088c680800e0000000c0000000830400005a8000000000095,
    0x40000c35d07e74000020200000000018000024104407fffdc0c003f0⟩ T) : ∀ a0 a1 a2, Kept T s0 a2 →
    ResKept T s0 (execBlockReset a0 a1 a2) := by
  intro a0 a1 a2 h2
  unfold execBlockReset
  refine next_kept ?_
  exact (kept_resetValue (tr (by decide) hT) _ _ _ h2)

theorem kept_execColdReset {T : Touch} {s0 : State} (hT : Touch.le ⟨8388535,
    0x940e0058088c680800e0000000c0000000830400005a8000000000095,
    0x40000c35d07e74000020200000000018000024104407fffdc0c003f0⟩ T) : ∀ a0 a1, Kept T s0 a1 →
    ResKept T s0 (execColdReset a0 a1) := by
  intro a0 a1 h1
  unfold execColdReset
  refine next_kept ?_
  exact (kept_resetValue (tr (by decide) hT) _ _ _ h1)

theorem kept_execFuseBlow {T : Touch} {s0 : State} (hT : Touch.le ⟨1536,
    0x400600000000000000000000000000000000000000000000000000000, 0x800000000000000000000000000000000000000000000000⟩
    T) : ∀ a0 a1 a2, Kept T s0 a2 →
    ResKept T s0 (execFuseBlow a0 a1 a2) := by
  intro a0 a1 a2 h2
  unfold execFuseBlow
  extract_lets +onlyGivenNames -merge x0
  refine next_kept ?_
  refine kept_guarded (tr (by decide) hT) _ _ _ ?_ h2
  · intro y1 hy1
    refine kept_far (tr (by decide) hT) _ _ _ ?_ hy1
    · intro y2 hy2
      exact (kept_fuseCtrl (tr (by decide) hT) _ _ hy2)

theorem kept_fuseDone {T : Touch} {s0 : State} (hT : Touch.le ⟨16896,
    0xc00000000000000000000000000000000000000000000000000000000, 0x0⟩ T) : ∀ a0 a1, Kept T s0 a1 →
    Kept T s0 (fuseDone a0 a1) := by
  intro a0 a1 h1
  unfold fuseDone
  split
  · exact h1
  · extract_lets +onlyGivenNames -merge x4
    extract_lets +onlyGivenNames -merge x5
    extract_lets +onlyGivenNames -merge x6
    extract_lets +onlyGivenNames -merge x7
    have hx7 : Kept T s0 x7 := (kept_up16896 (land_le (by decide) hT.1) h1)
    clear_value x7
    extract_lets +onlyGivenNames -merge x8
    have hx8 : Kept T s0 x8 := (kept_State_setFld (tr (by decide) hT) _ _ _ _ _ (kept_State_setReg _ _ _ _ _ hx7
        (hasR_of ixR_SYS_FUSE_USER (by decide) hT)) (hasR_of ixR_SYS_FUSE_STATUS (by decide) hT))
    clear_value x8
    exact (ite_holds (P := (Kept T s0)) hx8 (kept_State_setFld (tr (by decide) hT) _ _ _ _ _ hx8 (hasR_of
        ixR_SYS_FUSE_STATUS (by decide) hT)))

theorem kept_execFuseBlowDone {T : Touch} {s0 : State} (hT : Touch.le ⟨16896,
    0xc00000000000000000000000000000000000000000000000000000000, 0x0⟩ T) : ∀ a0 a1, Kept T s0 a1 →
    ResKept T s0 (execFuseBlowDone a0 a1) := by
  intro a0 a1 h1
  unfold execFuseBlowDone
  refine next_kept ?_
  exact (kept_fuseDone (tr (by decide) hT) _ _ h1)

theorem kept_keyTimeout {T : Touch} {s0 : State} (hT : Touch.le ⟨1024, 0x0, 0x0⟩ T) : ∀ a0 a1, Kept T s0 a1 →
    Kept T s0 (keyTimeout a0 a1) := by
  intro a0 a1 h1
  unfold keyTimeout
  split
  · exact (ite_holds (P := (Kept T s0)) (kept_setKey (tr (by decide) hT) _ _ _ h1) h1)
  · exact h1

theorem kept_execKeyTimeout {T : Touch} {s0 : State} (hT : Touch.le ⟨1024, 0x0, 0x0⟩ T) : ∀ a0 a1, Kept T s0 a1 →
    ResKept T s0 (execKeyTimeout a0 a1) := by
  intro a0 a1 h1
  unfold execKeyTimeout
  refine next_kept ?_
  exact (kept_keyTimeout (tr (by decide) hT) _ _ h1)

theorem kept_keyWrite {T : Touch} {s0 : State} (hT : Touch.le ⟨1536,
    0x600000000000000000000000000000000000000000000000000000, 0x800000000000000000000000000000000000000000000000⟩ T)
    : ∀ a0 a1, Kept T s0 a1 →
    Kept T s0 (keyWrite a0 a1) := by
  intro a0 a1 h1
  unfold keyWrite
  exact (ite_holds (P := (Kept T s0)) (kept_setKey (tr (by decide) hT) _ _ _ h1) (kept_logNear (tr (by decide) hT) _
      _ (kept_setKey (tr (by decide) hT) _ _ _ h1)))

theorem kept_execKeyWrite {T : Touch} {s0 : State} (hT : Touch.le ⟨1536,
    0x600000000000000000000000000000000000000000000000000000, 0x800000000000000000000000000000000000000000000000⟩ T)
    : ∀ a0 a1 a2, Kept T s0 a2 →
    ResKept T s0 (execKeyWrite a0 a1 a2) := by
  intro a0 a1 a2 h2
  unfold execKeyWrite
  refine next_kept ?_
  refine kept_near (tr (by decide) hT) _ _ ?_ h2
  · intro y0 hy0
    exact (kept_keyWrite (tr (by decide) hT) _ _ hy0)

theorem kept_execOptLaneBiasWrite {T : Touch} {s0 : State} (hT : Touch.le ⟨1536,
    0x1000600000000000000000000000000000000000000000000000000000, 0x800000000000000000000000000000000000000000000000⟩
    T) : ∀ a0 a1 a2 a3, Kept T s0 a3 →
    ResKept T s0 (execOptLaneBiasWrite a0 a1 a2 a3) := by
  intro a0 a1 a2 a3 h3
  unfold execOptLaneBiasWrite
  extract_lets +onlyGivenNames -merge x0
  refine next_kept ?_
  refine kept_guarded (tr (by decide) hT) _ _ _ ?_ h3
  · intro y1 hy1
    refine kept_far (tr (by decide) hT) _ _ _ ?_ hy1
    · intro y2 hy2
      exact (kept_optWrite (tr (by decide) hT) _ _ hy2)

theorem kept_execRailSetWrite {T : Touch} {s0 : State} (hT : Touch.le ⟨1536,
    0x600000100000000000000000000000000000000000000000000000, 0x800000000000000000000000000000000000000000000000⟩ T)
    : ∀ a0 a1 a2 a3, Kept T s0 a3 →
    ResKept T s0 (execRailSetWrite a0 a1 a2 a3) := by
  intro a0 a1 a2 a3 h3
  unfold execRailSetWrite
  extract_lets +onlyGivenNames -merge x0
  refine next_kept ?_
  refine kept_guarded (tr (by decide) hT) _ _ _ ?_ h3
  · intro y1 hy1
    exact (kept_railWrite (tr (by decide) hT) _ _ _ hy1)

theorem kept_execResetKindNone {T : Touch} {s0 : State} (hT : Touch.le ⟨8388535,
    0x940e0058088c680800e0000000c0000000830400005a8000000000095,
    0x40000c35d07e74000020200000000018000024104407fffdc0c003f0⟩ T) : ∀ a0 a1 a2, Kept T s0 a2 →
    ResKept T s0 (execResetKindNone a0 a1 a2) := by
  intro a0 a1 a2 h2
  unfold execResetKindNone
  refine next_kept ?_
  exact (kept_resetValue (tr (by decide) hT) _ _ _ h2)

theorem kept_optDone {T : Touch} {s0 : State} (hT : Touch.le ⟨7078528,
    0x5000000000000000000000000002000000002000000000000000000000, 0x8000000000000000000000000000000000000⟩ T) : ∀ a0
    a1, Kept T s0 a1 →
    Kept T s0 (optDone a0 a1) := by
  intro a0 a1 h1
  unfold optDone
  split
  · exact h1
  · extract_lets +onlyGivenNames -merge x4
    extract_lets +onlyGivenNames -merge x5
    have hx5 : Kept T s0 x5 := (kept_State_setFld (tr (by decide) hT) _ _ _ _ _ (kept_up512 (land_le (by decide)
        hT.1) h1) (hasR_of ixR_OPT_SLOW_STATUS (by decide) hT))
    clear_value x5
    split
    · exact (kept_biasTake (tr (by decide) hT) _ _ _ hx5)
    · exact (kept_State_setFld (tr (by decide) hT) _ _ _ _ _ hx5 (hasR_of ixR_OPT_SLOW_STATUS (by decide) hT))

theorem kept_railDone {T : Touch} {s0 : State} (hT : Touch.le ⟨512,
    0x2100000000000000000000000000000000000000000000000, 0x0⟩ T) : ∀ a0 a1, Kept T s0 a1 →
    Kept T s0 (railDone a0 a1) := by
  intro a0 a1 h1
  unfold railDone
  split
  · exact h1
  · extract_lets +onlyGivenNames -merge x4
    extract_lets +onlyGivenNames -merge x5
    have hx5 : Kept T s0 x5 := (kept_State_setFld (tr (by decide) hT) _ _ _ _ _ (kept_up512 (land_le (by decide)
        hT.1) h1) (hasR_of ixR_PWR_SLOW_STATUS (by decide) hT))
    clear_value x5
    split
    · exact (kept_State_setReg _ _ _ _ _ hx5 (hasR_of ixR_PWR_RAIL_SET (by decide) hT))
    · exact (kept_State_setFld (tr (by decide) hT) _ _ _ _ _ hx5 (hasR_of ixR_PWR_SLOW_STATUS (by decide) hT))

theorem kept_execSlowWriteDone {T : Touch} {s0 : State} (hT : Touch.le ⟨7078528,
    0x5000000002100000000000000002000000002000000000000000000000, 0x8000000000000000000000000000000000000⟩ T) : ∀ a0
    a1 a2, Kept T s0 a2 →
    ResKept T s0 (execSlowWriteDone a0 a1 a2) := by
  intro a0 a1 a2 h2
  unfold execSlowWriteDone
  refine next_kept ?_
  split
  · refine kept_running (tr (by decide) hT) _ _ ?_ h2
    · intro y1 hy1
      exact (kept_optDone (tr (by decide) hT) _ _ hy1)
  · exact (kept_railDone (tr (by decide) hT) _ _ h2)

theorem kept_execSnapshotDone {T : Touch} {s0 : State} (hT : Touch.le ⟨20,
    0x10000000000000000000000000000000000000000000000000000000, 0x0⟩ T) : ∀ a0, Kept T s0 a0 →
    ResKept T s0 (execSnapshotDone a0) := by
  intro a0 h0
  unfold execSnapshotDone
  refine next_kept ?_
  exact (kept_snapDone (tr (by decide) hT) _ h0)

theorem kept_execSnapshotTake {T : Touch} {s0 : State} (hT : Touch.le ⟨1556,
    0x18600000000000000000000000000000000000000000000000000000, 0x800000000000000000000000000000000000000000000000⟩
    T) : ∀ a0 a1 a2 a3, Kept T s0 a3 →
    ResKept T s0 (execSnapshotTake a0 a1 a2 a3) := by
  intro a0 a1 a2 a3 h3
  unfold execSnapshotTake
  extract_lets +onlyGivenNames -merge x0
  refine next_kept ?_
  refine kept_far (tr (by decide) hT) _ _ _ ?_ h3
  · intro y1 hy1
    exact (kept_snapCtrl (tr (by decide) hT) _ _ hy1)

theorem kept_execUpdateStrobe {T : Touch} {s0 : State} (hT : Touch.le ⟨8298241,
    0x800000004680800e0000000c0000000030400005a0200000000190, 0xc35507e74000020200000000018000024104407fffdc0c003f0⟩
    T) : ∀ a0 a1 a2, Kept T s0 a2 →
    ResKept T s0 (execUpdateStrobe a0 a1 a2) := by
  intro a0 a1 a2 h2
  unfold execUpdateStrobe
  refine next_kept ?_
  refine kept_far (tr (by decide) hT) _ _ _ ?_ h2
  · intro y0 hy0
    exact (kept_strobe (tr (by decide) hT) _ _ hy0)

theorem kept_execUpdateStrobeHi {T : Touch} {s0 : State} (hT : Touch.le ⟨1536, 0x0, 0x0⟩ T) : ∀ a0 a1 a2, Kept T s0
    a2 →
    ResKept T s0 (execUpdateStrobeHi a0 a1 a2) := by
  intro a0 a1 a2 h2
  unfold execUpdateStrobeHi
  refine next_kept ?_
  refine kept_far (tr (by decide) hT) _ _ _ ?_ h2
  · intro y0 hy0
    exact (kept_strobeHi (tr (by decide) hT) _ _ hy0)

theorem kept_execWarmReset {T : Touch} {s0 : State} (hT : Touch.le ⟨8388535,
    0x940e0058088c680800e0000000c0000000830400005a8000000000095,
    0x40000c35d07e74000020200000000018000024104407fffdc0c003f0⟩ T) : ∀ a0 a1, Kept T s0 a1 →
    ResKept T s0 (execWarmReset a0 a1) := by
  intro a0 a1 h1
  unfold execWarmReset
  refine next_kept ?_
  exact (kept_resetValue (tr (by decide) hT) _ _ _ h1)

/-! ### Machine/Access.lean -/

theorem kept_capture {T : Touch} {s0 : State} (hT : Touch.le ⟨32, 0x0, 0x0⟩ T) : ∀ a0 a1 a2 a3, Kept T s0 a3 →
    Kept T s0 (capture a0 a1 a2 a3) := by
  intro a0 a1 a2 a3 h3
  unfold capture
  exact (kept_up32 (land_le (by decide) hT.1) h3)

theorem kept_counterLow {T : Touch} {s0 : State} (hT : Touch.le ⟨52,
    0x10000000000000000000000000000000000000000000000000000000, 0x0⟩ T) : ∀ a0 a1 a2 a3, Kept T s0 a3 →
    Snd (Kept T s0) (counterLow a0 a1 a2 a3) := by
  intro a0 a1 a2 a3 h3
  unfold counterLow
  extract_lets +onlyGivenNames -merge x0
  extract_lets +onlyGivenNames -merge x1
  have hx1 : Kept T s0 x1 := (ite_holds (P := (Kept T s0)) (kept_snapDone (tr (by decide) hT) _ h3) h3)
  clear_value x1
  extract_lets +onlyGivenNames -merge x2
  extract_lets +onlyGivenNames -merge x3
  extract_lets +onlyGivenNames -merge x4
  have hx4 : Kept T s0 x4 := (ite_holds (P := (Kept T s0)) (kept_capture (tr (by decide) hT) _ _ _ _ hx1) hx1)
  clear_value x4
  refine snd_holds (P := (Kept T s0)) ?_
  exact (ite_holds (P := (Kept T s0)) (kept_up4 (land_le (by decide) hT.1) hx4) hx4)

theorem kept_readWord {T : Touch} {s0 : State} (hT : Touch.le ⟨180,
    0x10000000000000000000000000000000000000000000000000000000, 0x0⟩ T) : ∀ a0 a1 a2 a3, Kept T s0 a3 →
    Snd (Kept T s0) (readWord a0 a1 a2 a3) := by
  intro a0 a1 a2 a3 h3
  unfold readWord
  refine ite_holds (P := (Snd (Kept T s0))) ?_ ?_
  · refine snd_holds (P := (Kept T s0)) ?_
    exact h3
  · refine ite_holds (P := (Snd (Kept T s0))) ?_ ?_
    · exact (kept_counterLow (tr (by decide) hT) _ _ _ _ h3)
    · refine ite_holds (P := (Snd (Kept T s0))) ?_ ?_
      · refine snd_holds (P := (Kept T s0)) ?_
        exact h3
      · split
        · refine snd_holds (P := (Kept T s0)) ?_
          exact (ite_holds (P := (Kept T s0)) (kept_capture (tr (by decide) hT) _ _ _ _ h3) h3)
        · split
          · refine snd_holds (P := (Kept T s0)) ?_
            exact h3
          · refine snd_holds (P := (Kept T s0)) ?_
            exact (ite_holds (P := (Kept T s0)) (kept_State_fresh (tr (by decide) hT) _ h3) h3)

theorem kept_takeRead {T : Touch} {s0 : State} (hT : Touch.le ⟨436,
    0x10000000000000000000000000000000000000000000000000000000, 0x0⟩ T) : ∀ a0 a1, Kept T s0 a1 →
    Kept T s0 (takeRead a0 a1) := by
  intro a0 a1 h1
  unfold takeRead
  extract_lets +onlyGivenNames -merge x0
  refine ite_holds (P := (Kept T s0)) ?_ ?_
  · split
    · rename_i v1 v2 heq3
      have hv2 : Kept T s0 v2 := holds_eq (P := (Snd (Kept T s0))) heq3 (by
          exact (kept_readWord (tr (by decide) hT) _ _ _ _ h1))
      split
      · rename_i v4 v5 heq6
        have hv5 : Kept T s0 v5 := holds_eq (P := (Snd (Kept T s0))) heq6 (by
            exact (kept_readWord (tr (by decide) hT) _ _ _ _ hv2))
        exact (kept_State_emit (tr (by decide) hT) _ _ hv5)
  · refine ite_holds (P := (Kept T s0)) ?_ ?_
    · split
      · rename_i v7 v8 heq9
        have hv8 : Kept T s0 v8 := holds_eq (P := (Snd (Kept T s0))) heq9 (by
            exact (kept_readWord (tr (by decide) hT) _ _ _ _ h1))
        exact (kept_State_emit (tr (by decide) hT) _ _ hv8)
    · split
      · rename_i v10 v11 heq12
        have hv11 : Kept T s0 v11 := holds_eq (P := (Snd (Kept T s0))) heq12 (by
            exact (kept_readWord (tr (by decide) hT) _ _ _ _ h1))
        exact (kept_State_emit (tr (by decide) hT) _ _ hv11)

theorem kept_noteTaken {T : Touch} {s0 : State} (hT : Touch.le ⟨512, 0x0, 0x0⟩ T) : ∀ a0 a1 a2, Kept T s0 a2 →
    Kept T s0 (noteTaken a0 a1 a2) := by
  intro a0 a1 a2 h2
  unfold noteTaken
  exact (kept_up512 (land_le (by decide) hT.1) h2)

theorem kept_refused {T : Touch} {s0 : State} (hT : Touch.le ⟨512,
    0x600000000000000000000000000000000000000000000000000000, 0x800000000000000000000000000000000000000000000000⟩ T)
    : ∀ a0 a1, Kept T s0 a1 →
    Kept T s0 (refused a0 a1) := by
  intro a0 a1 h1
  unfold refused
  exact (kept_logWrite (tr (by decide) hT) _ _ _ h1)

theorem kept_refusedNear {T : Touch} {s0 : State} (hT : Touch.le ⟨1536,
    0x600000000000000000000000000000000000000000000000000000, 0x800000000000000000000000000000000000000000000000⟩ T)
    : ∀ a0 a1, Kept T s0 a1 →
    Kept T s0 (refusedNear a0 a1) := by
  intro a0 a1 h1
  unfold refusedNear
  exact (kept_logNear (tr (by decide) hT) _ _ h1)

theorem kept_ringSet {T : Touch} {s0 : State} (hT : Touch.le ⟨2562,
    0xe00000000000000000000000000000000000000000000000000000, 0x800000000000000000000000000000000000000000000000⟩ T)
    : ∀ a0 a1 a2 a3, T.hasR a0 → Kept T s0 a3 →
    Kept T s0 (ringSet a0 a1 a2 a3) := by
  intro a0 a1 a2 a3 h0 h3
  unfold ringSet
  exact (ite_holds (P := (Kept T s0)) (kept_irqCfg (tr (by decide) hT) _ _ _ (kept_plain (tr (by decide) hT) _ _ _ _
      _ h0 h3)) (kept_refused (tr (by decide) hT) _ _ h3))

theorem kept_hostWriteReg {T : Touch} {s0 : State} (hT : Touch.le ⟨7938,
    0xe00000004000081e3e000000000000000000000000000000000000, 0x4800100000000000000000000000000000000000000000000⟩ T)
    : ∀ a0 a1 a2 a3 a4, T.hasR a0 → Kept T s0 a4 →
    Kept T s0 (hostWriteReg a0 a1 a2 a3 a4) := by
  intro a0 a1 a2 a3 a4 h0 h4
  unfold hostWriteReg
  split
  · exact (kept_winWrite (tr (by decide) hT) _ _ _ _ h4)
  · exact (ite_holds (P := (Kept T s0)) (ite_holds (P := (Kept T s0)) (kept_ringEnable (tr (by decide) hT) _ _ _ h4)
      (kept_ringDisable (tr (by decide) hT) _ _ h4)) (ite_holds (P := (Kept T s0)) (kept_doorbell (tr (by decide) hT)
      _ _ _ _ h4) (ite_holds (P := (Kept T s0)) (kept_cplDoorbell (tr (by decide) hT) _ _ _ h4) (ite_holds (P :=
      (Kept T s0)) (kept_plain (tr (by decide) hT) _ _ _ _ _ h0 h4) (kept_ringSet (tr (by decide) hT) _ _ _ _ h0
      h4)))))

theorem kept_keepWrite {T : Touch} {s0 : State} (hT : Touch.le ⟨1794,
    0xe00018004000000000000000000000000000000000000000000000,
    0x1000004800000000000000000000000000000000000000000000000⟩ T) : ∀ a0 a1 a2 a3 a4, T.hasR a0 → Kept T s0 a4 →
    Kept T s0 (keepWrite a0 a1 a2 a3 a4) := by
  intro a0 a1 a2 a3 a4 h0 h4
  unfold keepWrite
  refine ite_holds (P := (Kept T s0)) ?_ ?_
  · refine ite_holds (P := (Kept T s0)) ?_ ?_
    · exact (kept_refusedNear (tr (by decide) hT) _ _ h4)
    · refine ite_holds (P := (Kept T s0)) ?_ ?_
      · refine ite_holds (P := (Kept T s0)) ?_ ?_
        · extract_lets +onlyGivenNames -merge x0
          have hx0 : Kept T s0 x0 := (kept_State_setFld (tr (by decide) hT) _ _ _ _ _ (kept_plain (tr (by decide) hT)
              _ _ _ _ _ h0 h4) (hasR_of ixR_KEEP_MBOX_CMD (by decide) hT))
          clear_value x0
          extract_lets +onlyGivenNames -merge x1
          refine ite_holds (P := (Kept T s0)) ?_ ?_
          · exact hx0
          · refine kept_mboxServe (tr (by decide) hT) _ _ _ _ ?_ hx0
            · intro y2 hy2
              exact (kept_mboxAnswer (tr (by decide) hT) _ _ _ _ hy2)
        · exact (kept_refusedNear (tr (by decide) hT) _ _ h4)
      · exact (kept_plain (tr (by decide) hT) _ _ _ _ _ h0 h4)
  · exact (kept_plain (tr (by decide) hT) _ _ _ _ _ h0 h4)

theorem kept_portCfgWrite {T : Touch} {s0 : State} (hT : Touch.le ⟨514,
    0xe00000000000000000000000000000000000000000000000000000, 0x800000000000000000000000000000000000000000000000⟩ T)
    : ∀ a0 a1 a2 a3 a4, T.hasR a0 → Kept T s0 a4 →
    Kept T s0 (portCfgWrite a0 a1 a2 a3 a4) := by
  intro a0 a1 a2 a3 a4 h0 h4
  unfold portCfgWrite
  extract_lets +onlyGivenNames -merge x0
  extract_lets +onlyGivenNames -merge x1
  extract_lets +onlyGivenNames -merge x2
  exact (kept_plain (tr (by decide) hT) _ _ _ _ _ h0 (ite_holds (P := (Kept T s0)) h4 (kept_refused (tr (by decide)
      hT) _ _ h4)))

theorem kept_leafWrite {T : Touch} {s0 : State} (hT : Touch.le ⟨8298242,
    0xe00000004680800e0000000c000000003040000580000000000094, 0xc35d07e74000020200000000018000024104407fffdc1c003f0⟩
    T) : ∀ a0 a1 a2 a3 a4, T.hasR a0 → Kept T s0 a4 →
    Kept T s0 (leafWrite a0 a1 a2 a3 a4) := by
  intro a0 a1 a2 a3 a4 h0 h4
  unfold leafWrite
  exact (ite_holds (P := (Kept T s0)) (ite_holds (P := (Kept T s0)) (kept_groupRestart (tr (by decide) hT) _ _ h4)
      h4) (ite_holds (P := (Kept T s0)) (kept_dozeCtrl (tr (by decide) hT) _ _ _ h4) (ite_holds (P := (Kept T s0))
      (kept_portCfgWrite (tr (by decide) hT) _ _ _ _ _ h0 h4) (kept_plain (tr (by decide) hT) _ _ _ _ _ h0 h4))))

theorem kept_nvmWriteReg {T : Touch} {s0 : State} (hT : Touch.le ⟨22658,
    0x880580000680000000000000000000000000000000000000000000,
    0xf8000030500000000000000000000000000000000000000000000000⟩ T) : ∀ a0 a1 a2 a3 a4, T.hasR a0 → Kept T s0 a4 →
    Kept T s0 (nvmWriteReg a0 a1 a2 a3 a4) := by
  intro a0 a1 a2 a3 a4 h0 h4
  unfold nvmWriteReg
  refine ite_holds (P := (Kept T s0)) ?_ ?_
  · exact (kept_nvmCmd (tr (by decide) hT) _ _ h4)
  · refine ite_holds (P := (Kept T s0)) ?_ ?_
    · extract_lets +onlyGivenNames -merge x0
      have hx0 : Kept T s0 x0 := (kept_plain (tr (by decide) hT) _ _ _ _ _ h0 h4)
      clear_value x0
      exact (kept_up16384 (land_le (by decide) hT.1) hx0)
    · exact (kept_plain (tr (by decide) hT) _ _ _ _ _ h0 h4)

theorem kept_inOff {T : Touch} {s0 : State} (hT : Touch.le ⟨514,
    0xe00000000000000000000000000000000000000000000000000000, 0x800000000000000000000000000000000000000000000000⟩ T)
    : ∀ a0 a1 a2 a3, T.hasR a1 → Kept T s0 a3 →
    Kept T s0 (inOff a0 a1 a2 a3) := by
  intro a0 a1 a2 a3 h1 h3
  unfold inOff
  exact (ite_holds (P := (Kept T s0)) (kept_plain (tr (by decide) hT) _ _ _ _ _ h1 h3) (kept_refused (tr (by decide)
      hT) _ _ h3))

theorem kept_skyWrite {T : Touch} {s0 : State} (hT : Touch.le ⟨8198659,
    0xe000000000000000002071c60109e80e2000000180000000000000, 0x80000004d09c040000000080000024000000000000000000⟩ T)
    : ∀ a0 a1 a2 a3 a4, T.hasR a0 → Kept T s0 a4 →
    Kept T s0 (skyWrite a0 a1 a2 a3 a4) := by
  intro a0 a1 a2 a3 a4 h0 h4
  unfold skyWrite
  refine ite_holds (P := (Kept T s0)) ?_ ?_
  · exact (kept_skyCtrl (tr (by decide) hT) _ _ h4)
  · refine ite_holds (P := (Kept T s0)) ?_ ?_
    · exact (kept_skyTxEn (tr (by decide) hT) _ _ h4)
    · refine ite_holds (P := (Kept T s0)) ?_ ?_
      · exact (kept_laneEnWrite (tr (by decide) hT) _ _ _ h4)
      · refine ite_holds (P := (Kept T s0)) ?_ ?_
        · exact (kept_mapCtrl (tr (by decide) hT) _ _ h4)
        · refine ite_holds (P := (Kept T s0)) ?_ ?_
          · exact (kept_bankWrite (tr (by decide) hT) _ _ _ _ h4)
          · refine ite_holds (P := (Kept T s0)) ?_ ?_
            · extract_lets +onlyGivenNames -merge x0
              have hx0 : Kept T s0 x0 := (kept_inOff (tr (by decide) hT) _ _ _ _ h0 h4)
              clear_value x0
              exact (ite_holds (P := (Kept T s0)) (kept_skyTry (tr (by decide) hT) _ hx0) hx0)
            · exact (ite_holds (P := (Kept T s0)) (ite_holds (P := (Kept T s0)) (kept_foundStep (tr (by decide) hT) _
                _ h4) h4) (ite_holds (P := (Kept T s0)) (kept_taiWrite (tr (by decide) hT) _ _ h4) (kept_plain (tr
                (by decide) hT) _ _ _ _ _ h0 h4)))

theorem kept_sysWrite {T : Touch} {s0 : State} (hT : Touch.le ⟨8388535,
    0xd58e0058088c680800e0000000c0000000830400005a8200000000195,
    0x40000c35d07e74000020200000000018000024104407fffdc0c003f0⟩ T) : ∀ a0 a1 a2 a3 a4, T.hasR a0 → Kept T s0 a4 →
    Kept T s0 (sysWrite a0 a1 a2 a3 a4) := by
  intro a0 a1 a2 a3 a4 h0 h4
  unfold sysWrite
  exact (ite_holds (P := (Kept T s0)) (ite_holds (P := (Kept T s0)) (kept_clearFault (tr (by decide) hT) _ h4) h4)
      (ite_holds (P := (Kept T s0)) (kept_strobeHi (tr (by decide) hT) _ _ h4) (ite_holds (P := (Kept T s0))
      (kept_strobe (tr (by decide) hT) _ _ h4) (ite_holds (P := (Kept T s0)) (kept_snapCtrl (tr (by decide) hT) _ _
      h4) (ite_holds (P := (Kept T s0)) (ite_holds (P := (Kept T s0)) (kept_refused (tr (by decide) hT) _ _ h4)
      (ite_holds (P := (Kept T s0)) (kept_headlessReq (tr (by decide) hT) _ h4) (ite_holds (P := (Kept T s0))
      (kept_headlessExit (tr (by decide) hT) _ _ h4) h4))) (ite_holds (P := (Kept T s0)) (kept_resetCtrl (tr (by
      decide) hT) _ _ h4) (ite_holds (P := (Kept T s0)) (kept_fuseCtrl (tr (by decide) hT) _ _ h4) (kept_plain (tr
      (by decide) hT) _ _ _ _ _ h0 h4))))))))

theorem kept_tblWrite {T : Touch} {s0 : State} (hT : Touch.le ⟨131586,
    0xe00000000000000000000000000000000000000000000800000000, 0x800000000000000000000000000000000000000000000000⟩ T)
    : ∀ a0 a1 a2 a3 a4, T.hasR a0 → Kept T s0 a4 →
    Kept T s0 (tblWrite a0 a1 a2 a3 a4) := by
  intro a0 a1 a2 a3 a4 h0 h4
  unfold tblWrite
  exact (ite_holds (P := (Kept T s0)) (kept_clearCtrl (tr (by decide) hT) _ _ h4) (ite_holds (P := (Kept T s0))
      (ite_holds (P := (Kept T s0)) (kept_plain (tr (by decide) hT) _ _ _ _ _ h0 h4) (kept_refused (tr (by decide)
      hT) _ _ h4)) (ite_holds (P := (Kept T s0)) (ite_holds (P := (Kept T s0)) (kept_plain (tr (by decide) hT) _ _ _
      _ _ h0 h4) (kept_refused (tr (by decide) hT) _ _ h4)) (kept_plain (tr (by decide) hT) _ _ _ _ _ h0 h4))))

theorem kept_xbarWrite {T : Touch} {s0 : State} (hT : Touch.le ⟨524802,
    0xe00000000000000000000000000000000000000000600000000000, 0x800000000000000000000000000000000000000000000000⟩ T)
    : ∀ a0 a1 a2 a3 a4, T.hasR a0 → Kept T s0 a4 →
    Kept T s0 (xbarWrite a0 a1 a2 a3 a4) := by
  intro a0 a1 a2 a3 a4 h0 h4
  unfold xbarWrite
  exact (ite_holds (P := (Kept T s0)) (ite_holds (P := (Kept T s0)) (kept_refused (tr (by decide) hT) _ _ h4)
      (kept_plain (tr (by decide) hT) _ _ _ _ _ h0 h4)) (ite_holds (P := (Kept T s0)) (kept_planeFaultClear (tr (by
      decide) hT) _ _ h4) (kept_plain (tr (by decide) hT) _ _ _ _ _ h0 h4)))

theorem kept_regWrite {T : Touch} {s0 : State} (hT : Touch.le ⟨8388535,
    0x1d58e8059898ce80881e3e2071ce0109e80e30400007b8600800000195,
    0xf9000c35d07f7404d0bc240000000098000024104407fffdc1c003f0⟩ T) : ∀ a0 a1 a2 a3 a4, T.hasR a0 → Kept T s0 a4 →
    Kept T s0 (regWrite a0 a1 a2 a3 a4) := by
  intro a0 a1 a2 a3 a4 h0 h4
  unfold regWrite
  split
  · exact (kept_sysWrite (tr (by decide) hT) _ _ _ _ _ h0 h4)
  · exact (kept_leafWrite (tr (by decide) hT) _ _ _ _ _ h0 h4)
  · exact (kept_tblWrite (tr (by decide) hT) _ _ _ _ _ h0 h4)
  · exact (kept_xbarWrite (tr (by decide) hT) _ _ _ _ _ h0 h4)
  · exact (ite_holds (P := (Kept T s0)) (kept_carveCtrl (tr (by decide) hT) _ _ h4) (ite_holds (P := (Kept T s0))
      (kept_showUsed (tr (by decide) hT) _ (kept_plain (tr (by decide) hT) _ _ _ _ _ h0 h4)) (kept_plain (tr (by
      decide) hT) _ _ _ _ _ h0 h4)))
  · exact (ite_holds (P := (Kept T s0)) (kept_refused (tr (by decide) hT) _ _ h4) (kept_plain (tr (by decide) hT) _ _
      _ _ _ h0 h4))
  · exact (kept_skyWrite (tr (by decide) hT) _ _ _ _ _ h0 h4)
  · exact (kept_skyWrite (tr (by decide) hT) _ _ _ _ _ h0 h4)
  · exact (kept_hostWriteReg (tr (by decide) hT) _ _ _ _ _ h0 h4)
  · extract_lets +onlyGivenNames -merge x10
    have hx10 : Kept T s0 x10 := (kept_plain (tr (by decide) hT) _ _ _ _ _ h0 h4)
    clear_value x10
    exact (ite_holds (P := (Kept T s0)) (kept_hltRebase (tr (by decide) hT) _ hx10) hx10)
  · exact (ite_holds (P := (Kept T s0)) (kept_optWrite (tr (by decide) hT) _ _ h4) (kept_plain (tr (by decide) hT) _
      _ _ _ _ h0 h4))
  · exact (ite_holds (P := (Kept T s0)) (kept_ringOwner (tr (by decide) hT) _ _ h4) (kept_plain (tr (by decide) hT) _
      _ _ _ _ h0 h4))
  · exact (ite_holds (P := (Kept T s0)) (kept_railWrite (tr (by decide) hT) _ _ _ h4) (kept_plain (tr (by decide) hT)
      _ _ _ _ _ h0 h4))
  · exact (kept_keepWrite (tr (by decide) hT) _ _ _ _ _ h0 h4)
  · exact (kept_nvmWriteReg (tr (by decide) hT) _ _ _ _ _ h0 h4)
  · exact (kept_plain (tr (by decide) hT) _ _ _ _ _ h0 h4)

theorem kept_takeWrite {T : Touch} {s0 : State} (hT : Touch.le ⟨8388535,
    0x1d58e8059898ce80881e3e2071ce0109e80e30400007b8600800000195,
    0xf9000c35d07f7404d0bc240000000098000024104407fffdc1c003f0⟩ T) : ∀ a0 a1, Kept T s0 a1 →
    Kept T s0 (takeWrite a0 a1) := by
  intro a0 a1 h1
  unfold takeWrite
  split
  · exact (ite_holds (P := (Kept T s0)) (ite_holds (P := (Kept T s0)) h1 (ite_holds (P := (Kept T s0)) (kept_refused
      (tr (by decide) hT) _ _ h1) (kept_refusedNear (tr (by decide) hT) _ _ h1))) (ite_holds (P := (Kept T s0))
      (kept_logWrite (tr (by decide) hT) _ _ _ h1) (kept_logNear (tr (by decide) hT) _ _ h1)))
  · exact (ite_holds (P := (Kept T s0)) h1 (ite_holds (P := (Kept T s0)) (ite_holds (P := (Kept T s0)) (kept_refused
      (tr (by decide) hT) _ _ h1) (kept_refusedNear (tr (by decide) hT) _ _ h1)) (ite_holds (P := (Kept T s0))
      (kept_regWrite (tr (by decide) hT) _ _ _ _ _ (hasR_any (by decide) hT) h1) (kept_noteTaken (tr (by decide) hT)
      _ _ _ (kept_regWrite (tr (by decide) hT) _ _ _ _ _ (hasR_any (by decide) hT) h1)))))

theorem kept_deliverHeld {T : Touch} {s0 : State} (hT : Touch.le ⟨8388535,
    0x1d58e8059898ce80881e3e2071ce0109e80e30400007b8600800000195,
    0xf9000c35d07f7404d0bc240000000098000024104407fffdc1c003f0⟩ T) : ∀ a0, Kept T s0 a0 →
    Kept T s0 (deliverHeld a0) := by
  intro a0 h0
  unfold deliverHeld
  extract_lets +onlyGivenNames -merge x0
  extract_lets +onlyGivenNames -merge x1
  extract_lets +onlyGivenNames -merge x2
  extract_lets +onlyGivenNames -merge x3
  have hx3 : Kept T s0 x3 := (kept_up1024 (land_le (by decide) hT.1) h0)
  clear_value x3
  extract_lets +onlyGivenNames -merge x4
  have hx4 : Kept T s0 x4 := (foldl_holds (P := (Kept T s0)) (fun _ _ hm5 => (kept_takeWrite (tr (by decide) hT) _ _
      (kept_idlSend (tr (by decide) hT) _ _ _ _ _ hm5))) hx3)
  clear_value x4
  exact (foldl_holds (P := (Kept T s0)) (fun _ _ hm6 => (kept_takeRead (tr (by decide) hT) _ _ (ite_holds (P := (Kept
      T s0)) hm6 (kept_idlSend (tr (by decide) hT) _ _ _ _ _ hm6)))) hx4)

theorem kept_dawnInit {T : Touch} {s0 : State} (hT : Touch.le ⟨8388535,
    0x1d58e8059898ce80881e3e2071ce0109e80e30400007b8600800000195,
    0xf9000c35d07f7404d0bc240000000098000024104407fffdc1c003f0⟩ T) : ∀ a0, Kept T s0 a0 →
    Kept T s0 (dawnInit a0) := by
  intro a0 h0
  unfold dawnInit
  refine ite_holds (P := (Kept T s0)) ?_ ?_
  · extract_lets +onlyGivenNames -merge x0
    have hx0 : Kept T s0 x0 := (foldl_holds (P := (Kept T s0)) (fun _ _ hm1 => (kept_markRetired (tr (by decide) hT)
        _ _ _ hm1)) h0)
    clear_value x0
    exact (kept_deliverHeld (tr (by decide) hT) _ (kept_idlFlush (tr (by decide) hT) _ (kept_idlUp (tr (by decide)
        hT) _ (kept_up8192 (land_le (by decide) hT.1) hx0))))
  · exact h0

theorem kept_issueRead {T : Touch} {s0 : State} (hT : Touch.le ⟨1972,
    0x10600000000000000000000000000000000000000000000000000000, 0x800000000000000000000000000000000000000000000000⟩
    T) : ∀ a0 a1, Kept T s0 a1 →
    Kept T s0 (issueRead a0 a1) := by
  intro a0 a1 h1
  unfold issueRead
  extract_lets +onlyGivenNames -merge x0
  exact (ite_holds (P := (Kept T s0)) h1 (ite_holds (P := (Kept T s0)) (kept_State_emit (tr (by decide) hT) _ _
      (kept_logNear (tr (by decide) hT) _ _ h1)) (ite_holds (P := (Kept T s0)) (kept_takeRead (tr (by decide) hT) _ _
      h1) (ite_holds (P := (Kept T s0)) (kept_takeRead (tr (by decide) hT) _ _ (kept_idlSend (tr (by decide) hT) _ _
      _ _ _ h1)) (kept_up1024 (land_le (by decide) hT.1) h1)))))

theorem kept_execCounterRead {T : Touch} {s0 : State} (hT : Touch.le ⟨1972,
    0x10600000000000000000000000000000000000000000000000000000, 0x800000000000000000000000000000000000000000000000⟩
    T) : ∀ a0 a1 a2 a3 a4, Kept T s0 a4 →
    ResKept T s0 (execCounterRead a0 a1 a2 a3 a4) := by
  intro a0 a1 a2 a3 a4 h4
  unfold execCounterRead
  refine next_kept ?_
  exact (kept_issueRead (tr (by decide) hT) _ _ h4)

theorem kept_execDawnInit {T : Touch} {s0 : State} (hT : Touch.le ⟨8388535,
    0x1d58e8059898ce80881e3e2071ce0109e80e30400007b8600800000195,
    0xf9000c35d07f7404d0bc240000000098000024104407fffdc1c003f0⟩ T) : ∀ a0, Kept T s0 a0 →
    ResKept T s0 (execDawnInit a0) := by
  intro a0 h0
  unfold execDawnInit
  refine next_kept ?_
  exact (kept_dawnInit (tr (by decide) hT) _ h0)

theorem kept_farReadTimeout {T : Touch} {s0 : State} (hT : Touch.le ⟨1280, 0x0, 0x0⟩ T) : ∀ a0, Kept T s0 a0 →
    Kept T s0 (farReadTimeout a0) := by
  intro a0 h0
  unfold farReadTimeout
  split
  · exact h0
  · exact (ite_holds (P := (Kept T s0)) (kept_State_emit (tr (by decide) hT) _ _ (kept_up1024 (land_le (by decide)
      hT.1) h0)) h0)

theorem kept_execFarReadTimeout {T : Touch} {s0 : State} (hT : Touch.le ⟨1280, 0x0, 0x0⟩ T) : ∀ a0, Kept T s0 a0 →
    ResKept T s0 (execFarReadTimeout a0) := by
  intro a0 h0
  unfold execFarReadTimeout
  refine next_kept ?_
  exact (kept_farReadTimeout (tr (by decide) hT) _ h0)

theorem kept_execHoldingPairRead {T : Touch} {s0 : State} (hT : Touch.le ⟨1972,
    0x10600000000000000000000000000000000000000000000000000000, 0x800000000000000000000000000000000000000000000000⟩
    T) : ∀ a0 a1 a2 a3 a4, Kept T s0 a4 →
    ResKept T s0 (execHoldingPairRead a0 a1 a2 a3 a4) := by
  intro a0 a1 a2 a3 a4 h4
  unfold execHoldingPairRead
  refine next_kept ?_
  exact (kept_issueRead (tr (by decide) hT) _ _ h4)

theorem kept_idlRetrainDone {T : Touch} {s0 : State} (hT : Touch.le ⟨8388535,
    0x1d58e8059898ce80881e3e2071ce0109e80e30400007b8600800000195,
    0xf9000c35d07f7404d0bc240000000098000024104407fffdc1c003f0⟩ T) : ∀ a0, Kept T s0 a0 →
    Kept T s0 (idlRetrainDone a0) := by
  intro a0 h0
  unfold idlRetrainDone
  exact (ite_holds (P := (Kept T s0)) h0 (kept_deliverHeld (tr (by decide) hT) _ (kept_idlFlush (tr (by decide) hT) _
      (kept_idlUp (tr (by decide) hT) _ h0))))

theorem kept_execIdlRetrainDone {T : Touch} {s0 : State} (hT : Touch.le ⟨8388535,
    0x1d58e8059898ce80881e3e2071ce0109e80e30400007b8600800000195,
    0xf9000c35d07f7404d0bc240000000098000024104407fffdc1c003f0⟩ T) : ∀ a0, Kept T s0 a0 →
    ResKept T s0 (execIdlRetrainDone a0) := by
  intro a0 h0
  unfold execIdlRetrainDone
  refine next_kept ?_
  refine kept_running (tr (by decide) hT) _ _ ?_ h0
  · intro y0 hy0
    exact (kept_idlRetrainDone (tr (by decide) hT) _ hy0)

theorem kept_issueWrite {T : Touch} {s0 : State} (hT : Touch.le ⟨8388535,
    0x1d58e8059898ce80881e3e2071ce0109e80e30400007b8600800000195,
    0xf9000c35d07f7404d0bc240000000098000024104407fffdc1c003f0⟩ T) : ∀ a0 a1, Kept T s0 a1 →
    Kept T s0 (issueWrite a0 a1) := by
  intro a0 a1 h1
  unfold issueWrite
  refine ite_holds (P := (Kept T s0)) ?_ ?_
  · exact (ite_holds (P := (Kept T s0)) (kept_keyWrite (tr (by decide) hT) _ _ h1) (kept_refusedNear (tr (by decide)
      hT) _ _ h1))
  · refine ite_holds (P := (Kept T s0)) ?_ ?_
    · exact (kept_resetWrite (tr (by decide) hT) _ _ h1)
    · extract_lets +onlyGivenNames -merge x0
      subst x0
      refine ite_holds (P := (Kept T s0)) ?_ ?_
      · refine kept_guarded (tr (by decide) hT) _ _ _ ?_ h1
        · intro y1 hy1
          split
          · refine kept_far (tr (by decide) hT) _ _ _ ?_ hy1
            · intro y2 hy2
              exact (kept_takeWrite (tr (by decide) hT) _ _ hy2)
          · refine kept_near (tr (by decide) hT) _ _ ?_ hy1
            · intro y3 hy3
              exact (kept_takeWrite (tr (by decide) hT) _ _ hy3)
      · split
        · refine kept_far (tr (by decide) hT) _ _ _ ?_ h1
          · intro y4 hy4
            exact (kept_takeWrite (tr (by decide) hT) _ _ hy4)
        · refine kept_near (tr (by decide) hT) _ _ ?_ h1
          · intro y5 hy5
            exact (kept_takeWrite (tr (by decide) hT) _ _ hy5)

theorem kept_registerWrite {T : Touch} {s0 : State} (hT : Touch.le ⟨8388535,
    0x1d58e8059898ce80881e3e2071ce0109e80e30400007b8600800000195,
    0xf9000c35d07f7404d0bc240000000098000024104407fffdc1c003f0⟩ T) : ∀ a0 a1 a2 a3 a4 a5, Kept T s0 a5 →
    Kept T s0 (registerWrite a0 a1 a2 a3 a4 a5) := by
  intro a0 a1 a2 a3 a4 a5 h5
  unfold registerWrite
  extract_lets +onlyGivenNames -merge x0
  exact (ite_holds (P := (Kept T s0)) h5 (ite_holds (P := (Kept T s0)) (kept_logNear (tr (by decide) hT) _ _ h5)
      (ite_holds (P := (Kept T s0)) (ite_holds (P := (Kept T s0)) h5 (kept_logNear (tr (by decide) hT) _ _ h5))
      (ite_holds (P := (Kept T s0)) (kept_issueWrite (tr (by decide) hT) _ _ h5) (kept_issueWrite (tr (by decide) hT)
      _ _ (kept_issueWrite (tr (by decide) hT) _ _ h5))))))

theorem kept_execRegisterWrite {T : Touch} {s0 : State} (hT : Touch.le ⟨8388535,
    0x1d58e8059898ce80881e3e2071ce0109e80e30400007b8600800000195,
    0xf9000c35d07f7404d0bc240000000098000024104407fffdc1c003f0⟩ T) : ∀ a0 a1 a2 a3 a4 a5, Kept T s0 a5 →
    ResKept T s0 (execRegisterWrite a0 a1 a2 a3 a4 a5) := by
  intro a0 a1 a2 a3 a4 a5 h5
  unfold execRegisterWrite
  refine next_kept ?_
  exact (kept_registerWrite (tr (by decide) hT) _ _ _ _ _ _ h5)

/-! ### Machine/Step.lean -/

theorem kept_State_withFetchWord {T : Touch} {s0 : State} (hT : Touch.le ⟨8388608, 0x0, 0x0⟩ T) : ∀ a0 a1 a2, Kept T
    s0 a0 →
    Kept T s0 (State.withFetchWord a0 a1 a2) := by
  intro a0 a1 a2 h0
  unfold State.withFetchWord
  split
  · exact (kept_up8388608 (land_le (by decide) hT.1) h0)
  · exact h0

end Sys2Proof.Machine
end

