-- ==== Sys2Proof/Laws/PerInstr.lean ====
section
/-!
SUPPORT. One statement for each command, about its row in the table of what commands may change: neither the time nor the
queue of commands is among it.
-/
namespace Sys2Proof.Laws.Untouched
open Sys2Proof.Machine

/-- A command's row in `touches` names neither the time nor the commands that wait. -/
def Statement (i : Instr) : Prop := Area.now ∉ (touches i).areas ∧ Area.pending ∉ (touches i).areas

theorem headlessReq (a : Agent) : Statement (.headlessReq a) := by
  constructor <;> exact of_decide_eq_true rfl

theorem headlessEntryComplete : Statement (.headlessEntryComplete) := by
  constructor <;> exact of_decide_eq_true rfl

theorem headlessExit (a : Agent) : Statement (.headlessExit a) := by
  constructor <;> exact of_decide_eq_true rfl

theorem appResetMessage : Statement (.appResetMessage) := by
  constructor <;> exact of_decide_eq_true rfl

theorem idlTrainingLoss : Statement (.idlTrainingLoss) := by
  constructor <;> exact of_decide_eq_true rfl

theorem idlLossTimeout : Statement (.idlLossTimeout) := by
  constructor <;> exact of_decide_eq_true rfl

theorem idlFlitReplay : Statement (.idlFlitReplay) := by
  constructor <;> exact of_decide_eq_true rfl

theorem idlRetrainDone : Statement (.idlRetrainDone) := by
  constructor <;> exact of_decide_eq_true rfl

theorem headlessBacklogDeliver : Statement (.headlessBacklogDeliver) := by
  constructor <;> exact of_decide_eq_true rfl

theorem leafGroupRestart (a : Agent) (g : Fin 16) : Statement (.leafGroupRestart a g) := by
  constructor <;> exact of_decide_eq_true rfl

theorem groupRestartDone (g : Fin 16) : Statement (.groupRestartDone g) := by
  constructor <;> exact of_decide_eq_true rfl

theorem laneAlign (n : Fin 256) (m1 m2 : Marker) (apart : Nat) : Statement (.laneAlign n m1 m2 apart) := by
  constructor <;> exact of_decide_eq_true rfl

theorem laneAlignLoss (l : LaneLoss) : Statement (.laneAlignLoss l) := by
  constructor <;> exact of_decide_eq_true rfl

theorem linkUp (p : Fin 256) (skewNs : Nat) : Statement (.linkUp p skewNs) := by
  constructor <;> exact of_decide_eq_true rfl

theorem linkDown (p : Fin 256) (f : Option RxFrame) : Statement (.linkDown p f) := by
  constructor <;> exact of_decide_eq_true rfl

theorem flapHoldExpiry (p : Fin 256) : Statement (.flapHoldExpiry p) := by
  constructor <;> exact of_decide_eq_true rfl

theorem leafRxFrame (p : Fin 256) (f : RxFrame) (fec : List FecReport) : Statement (.leafRxFrame p f fec) := by
  constructor <;> exact of_decide_eq_true rfl

theorem pauseFrameRx (p : Fin 256) (f : RxFrame) : Statement (.pauseFrameRx p f) := by
  constructor <;> exact of_decide_eq_true rfl

theorem pauseExpiry (p : Fin 256) (c : Fin 8) : Statement (.pauseExpiry p c) := by
  constructor <;> exact of_decide_eq_true rfl

theorem pauseFrameTx (p : Fin 256) : Statement (.pauseFrameTx p) := by
  constructor <;> exact of_decide_eq_true rfl

theorem pauseRepeatTimer (p : Fin 256) (c : Fin 9) : Statement (.pauseRepeatTimer p c) := by
  constructor <;> exact of_decide_eq_true rfl

theorem pauseWatchdog (p : Fin 256) (c : Fin 9) : Statement (.pauseWatchdog p c) := by
  constructor <;> exact of_decide_eq_true rfl

theorem pauseWdHoldoffEnd (p : Fin 256) (c : Fin 8) : Statement (.pauseWdHoldoffEnd p c) := by
  constructor <;> exact of_decide_eq_true rfl

theorem portTxStart (p : Fin 256) (bad : Option Nat) : Statement (.portTxStart p bad) := by
  constructor <;> exact of_decide_eq_true rfl

theorem leafTxComplete (p : Fin 256) (bad : Option Nat) : Statement (.leafTxComplete p bad) := by
  constructor <;> exact of_decide_eq_true rfl

theorem ctStartDecay (p : Fin 256) : Statement (.ctStartDecay p) := by
  constructor <;> exact of_decide_eq_true rfl

theorem doze (a : Agent) (p : Fin 256) : Statement (.doze a p) := by
  constructor <;> exact of_decide_eq_true rfl

theorem wake (a : Agent) (p : Fin 256) : Statement (.wake a p) := by
  constructor <;> exact of_decide_eq_true rfl

theorem wakePatternSent (p : Fin 256) : Statement (.wakePatternSent p) := by
  constructor <;> exact of_decide_eq_true rfl

theorem wakePatternDetect (p : Fin 256) (seen : DWord) (times : Nat) :
    Statement (.wakePatternDetect p seen times) := by
  constructor <;> exact of_decide_eq_true rfl

theorem ruleKey (r : Fin 32) : Statement (.ruleKey r) := by
  constructor <;> exact of_decide_eq_true rfl

theorem ruleMask (r : Fin 32) : Statement (.ruleMask r) := by
  constructor <;> exact of_decide_eq_true rfl

theorem ruleAction (r : Fin 32) : Statement (.ruleAction r) := by
  constructor <;> exact of_decide_eq_true rfl

theorem ruleValid (r : Fin 32) : Statement (.ruleValid r) := by
  constructor <;> exact of_decide_eq_true rfl

theorem editWrite (r : Fin 32) : Statement (.editWrite r) := by
  constructor <;> exact of_decide_eq_true rfl

theorem templateWrite (r : Fin 32) : Statement (.templateWrite r) := by
  constructor <;> exact of_decide_eq_true rfl

theorem macInsert (r : Fin 32) : Statement (.macInsert r) := by
  constructor <;> exact of_decide_eq_true rfl

theorem macDelete (r : Fin 32) : Statement (.macDelete r) := by
  constructor <;> exact of_decide_eq_true rfl

theorem hostInsert (r : Fin 32) : Statement (.hostInsert r) := by
  constructor <;> exact of_decide_eq_true rfl

theorem hostDelete (r : Fin 32) : Statement (.hostDelete r) := by
  constructor <;> exact of_decide_eq_true rfl

theorem lpmInsert (r : Fin 32) : Statement (.lpmInsert r) := by
  constructor <;> exact of_decide_eq_true rfl

theorem lpmDelete (r : Fin 32) : Statement (.lpmDelete r) := by
  constructor <;> exact of_decide_eq_true rfl

theorem filterWrite (r : Fin 32) : Statement (.filterWrite r) := by
  constructor <;> exact of_decide_eq_true rfl

theorem nhWrite (r : Fin 32) : Statement (.nhWrite r) := by
  constructor <;> exact of_decide_eq_true rfl

theorem ecmpWrite (r : Fin 32) : Statement (.ecmpWrite r) := by
  constructor <;> exact of_decide_eq_true rfl

theorem memberWrite (r : Fin 32) : Statement (.memberWrite r) := by
  constructor <;> exact of_decide_eq_true rfl

theorem lagWrite (r : Fin 32) : Statement (.lagWrite r) := by
  constructor <;> exact of_decide_eq_true rfl

theorem learnAck (r : Fin 32) : Statement (.learnAck r) := by
  constructor <;> exact of_decide_eq_true rfl

theorem dump (r : Fin 32) : Statement (.dump r) := by
  constructor <;> exact of_decide_eq_true rfl

theorem dumpRecord : Statement (.dumpRecord) := by
  constructor <;> exact of_decide_eq_true rfl

theorem learnNotify : Statement (.learnNotify) := by
  constructor <;> exact of_decide_eq_true rfl

theorem learnHoldExpiry : Statement (.learnHoldExpiry) := by
  constructor <;> exact of_decide_eq_true rfl

theorem ageSweepVisit : Statement (.ageSweepVisit) := by
  constructor <;> exact of_decide_eq_true rfl

theorem tblClearStart (a : Agent) : Statement (.tblClearStart a) := by
  constructor <;> exact of_decide_eq_true rfl

theorem tblClearDone : Statement (.tblClearDone) := by
  constructor <;> exact of_decide_eq_true rfl

theorem xbarCellSend (i : Fin 32) : Statement (.xbarCellSend i) := by
  constructor <;> exact of_decide_eq_true rfl

theorem xbarMatch (p : Fin 16) : Statement (.xbarMatch p) := by
  constructor <;> exact of_decide_eq_true rfl

theorem xbarCellArrive (p : Fin 16) (o : Fin 32) (dmg : CellDamage) (e : BufError) :
    Statement (.xbarCellArrive p o dmg e) := by
  constructor <;> exact of_decide_eq_true rfl

theorem xbarReseqTimeout (o i : Fin 32) : Statement (.xbarReseqTimeout o i) := by
  constructor <;> exact of_decide_eq_true rfl

theorem xbarPlaneDrained (p : Fin 16) : Statement (.xbarPlaneDrained p) := by
  constructor <;> exact of_decide_eq_true rfl

theorem xbarFaultClear (a : Agent) (v : Word) : Statement (.xbarFaultClear a v) := by
  constructor <;> exact of_decide_eq_true rfl

theorem bufCarve (a : Agent) : Statement (.bufCarve a) := by
  constructor <;> exact of_decide_eq_true rfl

theorem bufCarveDone : Statement (.bufCarveDone) := by
  constructor <;> exact of_decide_eq_true rfl

theorem spillUnit (k : Fin 22528) (e : SpillErrors) : Statement (.spillUnit k e) := by
  constructor <;> exact of_decide_eq_true rfl

theorem spillUnitClose (k : Fin 22528) : Statement (.spillUnitClose k) := by
  constructor <;> exact of_decide_eq_true rfl

theorem refillUnit (k : Fin 22528) (e : RefillErrors) : Statement (.refillUnit k e) := by
  constructor <;> exact of_decide_eq_true rfl

theorem scrubVisit (pass : Bool) (e : BufError) : Statement (.scrubVisit pass e) := by
  constructor <;> exact of_decide_eq_true rfl

theorem shaperRefresh (i : Fin 2304) : Statement (.shaperRefresh i) := by
  constructor <;> exact of_decide_eq_true rfl

theorem policerRefresh (i : Fin 65536) : Statement (.policerRefresh i) := by
  constructor <;> exact of_decide_eq_true rfl

theorem wxSample : Statement (.wxSample) := by
  constructor <;> exact of_decide_eq_true rfl

theorem skyCtrlWrite (a : Agent) (v : Word) : Statement (.skyCtrlWrite a v) := by
  constructor <;> exact of_decide_eq_true rfl

theorem skyTxEnWrite (a : Agent) (v : Word) : Statement (.skyTxEnWrite a v) := by
  constructor <;> exact of_decide_eq_true rfl

theorem laneEnWrite (a : Agent) (i : Fin 8) (v : Word) : Statement (.laneEnWrite a i v) := by
  constructor <;> exact of_decide_eq_true rfl

theorem mapArm (a : Agent) : Statement (.mapArm a) := by
  constructor <;> exact of_decide_eq_true rfl

theorem mapArmCheckDone : Statement (.mapArmCheckDone) := by
  constructor <;> exact of_decide_eq_true rfl

theorem mapDisarm (a : Agent) : Statement (.mapDisarm a) := by
  constructor <;> exact of_decide_eq_true rfl

theorem mapApply : Statement (.mapApply) := by
  constructor <;> exact of_decide_eq_true rfl

theorem epochStart (root oven : Nat) : Statement (.epochStart root oven) := by
  constructor <;> exact of_decide_eq_true rfl

theorem syncSlotTx (n : Fin 256) : Statement (.syncSlotTx n) := by
  constructor <;> exact of_decide_eq_true rfl

theorem slotFill (p : Fin 16) : Statement (.slotFill p) := by
  constructor <;> exact of_decide_eq_true rfl

theorem dataSlotTx (n : Fin 256) (bad : List Nat) : Statement (.dataSlotTx n bad) := by
  constructor <;> exact of_decide_eq_true rfl

theorem skyBurstRx (n : Fin 256) (b : RxBurst) : Statement (.skyBurstRx n b) := by
  constructor <;> exact of_decide_eq_true rfl

theorem deskewRelease : Statement (.deskewRelease) := by
  constructor <;> exact of_decide_eq_true rfl

theorem reseqHorizonExpiry (src : Fin 128) (c : Fin 8) : Statement (.reseqHorizonExpiry src c) := by
  constructor <;> exact of_decide_eq_true rfl

theorem peerTimeout (d : Fin 128) : Statement (.peerTimeout d) := by
  constructor <;> exact of_decide_eq_true rfl

theorem laneTxFault (n : Fin 256) : Statement (.laneTxFault n) := by
  constructor <;> exact of_decide_eq_true rfl

theorem laneRxlos (n : Fin 256) : Statement (.laneRxlos n) := by
  constructor <;> exact of_decide_eq_true rfl

theorem joinStep : Statement (.joinStep) := by
  constructor <;> exact of_decide_eq_true rfl

theorem foundReadySet : Statement (.foundReadySet) := by
  constructor <;> exact of_decide_eq_true rfl

theorem foundStep (a : Agent) : Statement (.foundStep a) := by
  constructor <;> exact of_decide_eq_true rfl

theorem leaseTakeover : Statement (.leaseTakeover) := by
  constructor <;> exact of_decide_eq_true rfl

theorem leaseRenew : Statement (.leaseRenew) := by
  constructor <;> exact of_decide_eq_true rfl

theorem leaseLapse : Statement (.leaseLapse) := by
  constructor <;> exact of_decide_eq_true rfl

theorem takeoverCheck : Statement (.takeoverCheck) := by
  constructor <;> exact of_decide_eq_true rfl

theorem lullEntry : Statement (.lullEntry) := by
  constructor <;> exact of_decide_eq_true rfl

theorem lullLimit : Statement (.lullLimit) := by
  constructor <;> exact of_decide_eq_true rfl

theorem taiOffsetWrite (a : Agent) (v : Word) : Statement (.taiOffsetWrite a v) := by
  constructor <;> exact of_decide_eq_true rfl

theorem keeperRestart : Statement .keeperRestart := by
  constructor <;> exact of_decide_eq_true rfl

theorem mboxStatus (m : Fin 2) (busMv : Word) : Statement (.mboxStatus m busMv) := by
  constructor <;> exact of_decide_eq_true rfl

theorem mboxCommitShedOrder (m : Fin 2) (flashOk : Bool) : Statement (.mboxCommitShedOrder m flashOk) := by
  constructor <;> exact of_decide_eq_true rfl

theorem mboxReadShedOrder (m : Fin 2) : Statement (.mboxReadShedOrder m) := by
  constructor <;> exact of_decide_eq_true rfl

theorem mboxAppReset (m : Fin 2) : Statement (.mboxAppReset m) := by
  constructor <;> exact of_decide_eq_true rfl

theorem mboxReadLog (m : Fin 2) : Statement (.mboxReadLog m) := by
  constructor <;> exact of_decide_eq_true rfl

theorem mboxSetFirstAdmin (m : Fin 2) : Statement (.mboxSetFirstAdmin m) := by
  constructor <;> exact of_decide_eq_true rfl

theorem redfishRequest (authed : Bool) (op : RedfishOp) : Statement (.redfishRequest authed op) := by
  constructor <;> exact of_decide_eq_true rfl

theorem redfishGracefulRestart (authed : Bool) : Statement (.redfishGracefulRestart authed) := by
  constructor <;> exact of_decide_eq_true rfl

theorem updateServicePush (authed : Bool) (image : List Byte) : Statement (.updateServicePush authed image) := by
  constructor <;> exact of_decide_eq_true rfl

theorem ringOwnerWrite (a : Agent) (v : Word) : Statement (.ringOwnerWrite a v) := by
  constructor <;> exact of_decide_eq_true rfl

theorem pcieLinkDown : Statement (.pcieLinkDown) := by
  constructor <;> exact of_decide_eq_true rfl

theorem pcieLinkUp (width : Fin 9) (bme : Bool) : Statement (.pcieLinkUp width bme) := by
  constructor <;> exact of_decide_eq_true rfl

theorem idlPolicerRefresh : Statement (.idlPolicerRefresh) := by
  constructor <;> exact of_decide_eq_true rfl

theorem intPendClear (a : Agent) (i : Fin 8) (v : Word) : Statement (.intPendClear a i v) := by
  constructor <;> exact of_decide_eq_true rfl

theorem doorbell (a : Agent) (r : Fin 172) (t : Word) (stores : List (Nat × List Byte)) :
    Statement (.doorbell a r t stores) := by
  constructor <;> exact of_decide_eq_true rfl

theorem cplDoorbell (a : Agent) (r : Fin 160) (t : Word) : Statement (.cplDoorbell a r t) := by
  constructor <;> exact of_decide_eq_true rfl

theorem ringFetch (r : Fin 160) : Statement (.ringFetch r) := by
  constructor <;> exact of_decide_eq_true rfl

theorem txFrameInject (g : Fin 16) : Statement (.txFrameInject g) := by
  constructor <;> exact of_decide_eq_true rfl

theorem completionWrite (r : Fin 160) : Statement (.completionWrite r) := by
  constructor <;> exact of_decide_eq_true rfl

theorem ringEnable (a : Agent) (r : Fin 172) : Statement (.ringEnable a r) := by
  constructor <;> exact of_decide_eq_true rfl

theorem ringDisable (a : Agent) (r : Fin 172) : Statement (.ringDisable a r) := by
  constructor <;> exact of_decide_eq_true rfl

theorem ringIdle (r : Fin 172) : Statement (.ringIdle r) := by
  constructor <;> exact of_decide_eq_true rfl

theorem winCfgWrite (a : Agent) (w : Fin 16) (reg : Fin 5) (v : Word) : Statement (.winCfgWrite a w reg v) := by
  constructor <;> exact of_decide_eq_true rfl

theorem notifyRecordWrite : Statement (.notifyRecordWrite) := by
  constructor <;> exact of_decide_eq_true rfl

theorem faultBacklogDeliver : Statement (.faultBacklogDeliver) := by
  constructor <;> exact of_decide_eq_true rfl

theorem irqModTimer (r : Fin 172) : Statement (.irqModTimer r) := by
  constructor <;> exact of_decide_eq_true rfl

theorem txDescriptor (r : Fin 64) : Statement (.txDescriptor r) := by
  constructor <;> exact of_decide_eq_true rfl

theorem rxBufferDescriptor (r : Fin 64) : Statement (.rxBufferDescriptor r) := by
  constructor <;> exact of_decide_eq_true rfl

theorem registerWrite (a : Agent) (ali : Fin 4) (size : Fin 4) (off : BitVec 28) (v : DWord) :
    Statement (.registerWrite a ali size off v) := by
  constructor <;> exact of_decide_eq_true rfl

theorem counterRead (a : Agent) (ali : Fin 4) (size : Fin 4) (off : BitVec 28) :
    Statement (.counterRead a ali size off) := by
  constructor <;> exact of_decide_eq_true rfl

theorem holdingPairRead (a : Agent) (ali : Fin 4) (size : Fin 4) (off : BitVec 28) :
    Statement (.holdingPairRead a ali size off) := by
  constructor <;> exact of_decide_eq_true rfl

theorem farReadTimeout : Statement (.farReadTimeout) := by
  constructor <;> exact of_decide_eq_true rfl

theorem slowWriteDone (b : SlowBlock) (ack : Bool) : Statement (.slowWriteDone b ack) := by
  constructor <;> exact of_decide_eq_true rfl

theorem keyWrite (a : Agent) (v : Word) : Statement (.keyWrite a v) := by
  constructor <;> exact of_decide_eq_true rfl

theorem keyTimeout (a : Agent) : Statement (.keyTimeout a) := by
  constructor <;> exact of_decide_eq_true rfl

theorem updateStrobeHi (a : Agent) (mask : Word) : Statement (.updateStrobeHi a mask) := by
  constructor <;> exact of_decide_eq_true rfl

theorem updateStrobe (a : Agent) (mask : Word) : Statement (.updateStrobe a mask) := by
  constructor <;> exact of_decide_eq_true rfl

theorem snapshotTake (a : Agent) (clear view : Bool) : Statement (.snapshotTake a clear view) := by
  constructor <;> exact of_decide_eq_true rfl

theorem snapshotDone : Statement (.snapshotDone) := by
  constructor <;> exact of_decide_eq_true rfl

theorem resetKindNone (a : Agent) (kind : Fin 4) : Statement (.resetKindNone a kind) := by
  constructor <;> exact of_decide_eq_true rfl

theorem coldReset (a : Agent) : Statement (.coldReset a) := by
  constructor <;> exact of_decide_eq_true rfl

theorem warmReset (a : Agent) : Statement (.warmReset a) := by
  constructor <;> exact of_decide_eq_true rfl

theorem appDomainReset (a : Agent) : Statement (.appDomainReset a) := by
  constructor <;> exact of_decide_eq_true rfl

theorem blockReset (a : Agent) (block : Fin 32) : Statement (.blockReset a block) := by
  constructor <;> exact of_decide_eq_true rfl

theorem fuseBlow (a : Agent) (bit : Fin 32) : Statement (.fuseBlow a bit) := by
  constructor <;> exact of_decide_eq_true rfl

theorem fuseBlowDone (blown : Bool) : Statement (.fuseBlowDone blown) := by
  constructor <;> exact of_decide_eq_true rfl

theorem railSetWrite (a : Agent) (i : Fin 32) (v : Word) : Statement (.railSetWrite a i v) := by
  constructor <;> exact of_decide_eq_true rfl

theorem optLaneBiasWrite (a : Agent) (lane : Fin 512) (v : Word) : Statement (.optLaneBiasWrite a lane v) := by
  constructor <;> exact of_decide_eq_true rfl

theorem powerOn (c : Climate) (absentMs : Nat) : Statement (.powerOn c absentMs) := by
  constructor <;> exact of_decide_eq_true rfl

theorem railFault (rail : Fin 28) (inService : Bool) (c : Climate) : Statement (.railFault rail inService c) := by
  constructor <;> exact of_decide_eq_true rfl

theorem railRetry : Statement (.railRetry) := by
  constructor <;> exact of_decide_eq_true rfl

theorem thermalEvaluation (c : Climate) : Statement (.thermalEvaluation c) := by
  constructor <;> exact of_decide_eq_true rfl

theorem powerLimitClear : Statement (.powerLimitClear) := by
  constructor <;> exact of_decide_eq_true rfl

theorem steepTimeout : Statement (.steepTimeout) := by
  constructor <;> exact of_decide_eq_true rfl

theorem thermalTrip (c : Climate) : Statement (.thermalTrip c) := by
  constructor <;> exact of_decide_eq_true rfl

theorem mainsLoss (c : Climate) : Statement (.mainsLoss c) := by
  constructor <;> exact of_decide_eq_true rfl

theorem dusk (c : Climate) : Statement (.dusk c) := by
  constructor <;> exact of_decide_eq_true rfl

theorem duskForwardStop : Statement (.duskForwardStop) := by
  constructor <;> exact of_decide_eq_true rfl

theorem duskCheckpointDone : Statement (.duskCheckpointDone) := by
  constructor <;> exact of_decide_eq_true rfl

theorem counterCheckpoint : Statement (.counterCheckpoint) := by
  constructor <;> exact of_decide_eq_true rfl

theorem faultLogWrite (flashOk : Bool) : Statement (.faultLogWrite flashOk) := by
  constructor <;> exact of_decide_eq_true rfl

theorem quietAssert : Statement (.quietAssert) := by
  constructor <;> exact of_decide_eq_true rfl

theorem quietRelease : Statement (.quietRelease) := by
  constructor <;> exact of_decide_eq_true rfl

theorem fixtureResetRelease (ms : Nat) (c : Climate) : Statement (.fixtureResetRelease ms c) := by
  constructor <;> exact of_decide_eq_true rfl

theorem recoveryHold : Statement (.recoveryHold) := by
  constructor <;> exact of_decide_eq_true rfl

theorem dawnInit : Statement (.dawnInit) := by
  constructor <;> exact of_decide_eq_true rfl

theorem boot (goodA goodB : Bool) : Statement (.boot goodA goodB) := by
  constructor <;> exact of_decide_eq_true rfl

theorem dfuImageLoad (image : List Byte) (good : Bool) : Statement (.dfuImageLoad image good) := by
  constructor <;> exact of_decide_eq_true rfl

theorem trialExpiry : Statement (.trialExpiry) := by
  constructor <;> exact of_decide_eq_true rfl

theorem keeperFwLoad (goodA goodB : Bool) : Statement (.keeperFwLoad goodA goodB) := by
  constructor <;> exact of_decide_eq_true rfl

theorem keeperFwFallback : Statement (.keeperFwFallback) := by
  constructor <;> exact of_decide_eq_true rfl

theorem nvmRead (a : Agent) : Statement (.nvmRead a) := by
  constructor <;> exact of_decide_eq_true rfl

theorem nvmWrite (a : Agent) : Statement (.nvmWrite a) := by
  constructor <;> exact of_decide_eq_true rfl

theorem imageCommit (a : Agent) (slot : Fin 2) : Statement (.imageCommit a slot) := by
  constructor <;> exact of_decide_eq_true rfl

theorem switch (a : Agent) (slot : Fin 2) : Statement (.switch a slot) := by
  constructor <;> exact of_decide_eq_true rfl

theorem confirm (a : Agent) : Statement (.confirm a) := by
  constructor <;> exact of_decide_eq_true rfl

theorem cfgCommit (a : Agent) : Statement (.cfgCommit a) := by
  constructor <;> exact of_decide_eq_true rfl

theorem run (a : Agent) (arg : Byte) : Statement (.run a arg) := by
  constructor <;> exact of_decide_eq_true rfl

theorem abort (a : Agent) : Statement (.abort a) := by
  constructor <;> exact of_decide_eq_true rfl

theorem nvmOpComplete (e : NvmEnd) : Statement (.nvmOpComplete e) := by
  constructor <;> exact of_decide_eq_true rfl

theorem bootSelWrite : Statement (.bootSelWrite) := by
  constructor <;> exact of_decide_eq_true rfl

theorem windowBucketEnd (k : Fin 12) : Statement (.windowBucketEnd k) := by
  constructor <;> exact of_decide_eq_true rfl

theorem ledgerCheck : Statement (.ledgerCheck) := by
  constructor <;> exact of_decide_eq_true rfl

theorem excuseExpiry : Statement (.excuseExpiry) := by
  constructor <;> exact of_decide_eq_true rfl

theorem hltRebase (a : Agent) : Statement (.hltRebase a) := by
  constructor <;> exact of_decide_eq_true rfl

theorem ovenOscillatorReady : Statement (.ovenOscillatorReady) := by
  constructor <;> exact of_decide_eq_true rfl

theorem duskRestart (c : Climate) : Statement (.duskRestart c) := by
  constructor <;> exact of_decide_eq_true rfl

theorem busCollapse : Statement (.busCollapse) := by
  constructor <;> exact of_decide_eq_true rfl

theorem msixEntryUnmask (w : MsixWrite) : Statement (.msixEntryUnmask w) := by
  constructor <;> exact of_decide_eq_true rfl

theorem hostMemoryError (addr : Nat) (e : MemError) : Statement (.hostMemoryError addr e) := by
  constructor <;> exact of_decide_eq_true rfl

end Sys2Proof.Laws.Untouched
end

