-- ==== Sys2Proof/Laws/SoundBase.lean ====
section
/-!
SUPPORT. A sound state stays sound under the operations of these files of Machine: State, Ops, Link, Flags, Health, Rules, Edit, Tables, Dma, Issue.
-/
namespace Sys2Proof.Machine

/-! ### Machine/State.lean -/

theorem sound_State_reset :
    State.Sound State.reset := by
  unfold State.reset
  exact (State.sound_mk SMap.sorted_nil SMap.sorted_nil SMap.sorted_nil SMap.sorted_nil SMap.sorted_nil
      SMap.sorted_nil (CtlSt.sound_mk SMap.sorted_nil SMap.sorted_nil SMap.sorted_nil SMap.sorted_nil SMap.sorted_nil
      SMap.sorted_nil) (HostSt.sound_mk SMap.sorted_nil rfl rfl SMap.sorted_nil) (HltSt.sound_mk SMap.sorted_nil
      SMap.sorted_nil SMap.sorted_nil SMap.sorted_nil SMap.sorted_nil SMap.sorted_nil SMap.sorted_nil)
      (NvmSt.sound_mk rfl) (ClsSt.sound_mk SMap.sorted_nil SMap.sorted_nil SMap.sorted_nil SMap.sorted_nil
      SMap.sorted_nil) (TimeSt.sound_mk SMap.sorted_nil SMap.sorted_nil SMap.sorted_nil) (TblSt.sound_mk
      SMap.sorted_nil SMap.sorted_nil SMap.sorted_nil SMap.sorted_nil SMap.sorted_nil SMap.sorted_nil)
      (LeafSt.sound_mk SMap.sorted_nil SMap.sorted_nil SMap.sorted_nil SMap.sorted_nil SMap.sorted_nil
      SMap.sorted_nil) (XbarSt.sound_mk SMap.sorted_nil SMap.sorted_nil SMap.sorted_nil SMap.sorted_nil
      SMap.sorted_nil SMap.sorted_nil SMap.sorted_nil SMap.sorted_nil SMap.sorted_nil SMap.sorted_nil)
      (BufSt.sound_mk SMap.sorted_nil SMap.sorted_nil SMap.sorted_nil SMap.sorted_nil) (TmSt.sound_mk SMap.sorted_nil
      SMap.sorted_nil SMap.sorted_nil SMap.sorted_nil SMap.sorted_nil SMap.sorted_nil)
      (SkySt.sound_mk SMap.sorted_nil SMap.sorted_nil SMap.sorted_nil SMap.sorted_nil SMap.sorted_nil SMap.sorted_nil
      SMap.sorted_nil SMap.sorted_nil SMap.sorted_nil SMap.sorted_nil SMap.sorted_nil SMap.sorted_nil SMap.sorted_nil
      SMap.sorted_nil))

/-! ### Machine/Ops.lean -/

theorem sound_State_count : ∀ a0 a1 a2 a3 a4, State.Sound a0 →
    State.Sound (State.count a0 a1 a2 a3 a4) := by
  intro a0 a1 a2 a3 a4 h0
  unfold State.count
  exact (State.sound_mk h0.regs h0.shadow (SMap.sorted_upd h0.cnts _ _ _) (SMap.sorted_upd h0.tot _ _ _) h0.hold
      h0.pairs h0.ctl h0.host h0.hlt h0.nvm h0.cls h0.time h0.tbl h0.leaf h0.xbar h0.buf h0.tm h0.sky)

theorem sound_State_countIf : ∀ a0 a1 a2 a3 a4, State.Sound a0 →
    State.Sound (State.countIf a0 a1 a2 a3 a4) := by
  intro a0 a1 a2 a3 a4 h0
  unfold State.countIf
  exact (ite_holds (P := State.Sound) (sound_State_count _ _ _ _ _ h0) h0)

theorem sound_State_emit : ∀ a0 a1, State.Sound a0 →
    State.Sound (State.emit a0 a1) := by
  intro a0 a1 h0
  unfold State.emit
  exact (State.sound_mk h0.regs h0.shadow h0.cnts h0.tot h0.hold h0.pairs h0.ctl h0.host h0.hlt h0.nvm h0.cls h0.time
      h0.tbl h0.leaf h0.xbar h0.buf h0.tm h0.sky)

theorem sound_State_fresh : ∀ a0, State.Sound a0 →
    State.Sound (State.fresh a0) := by
  intro a0 h0
  unfold State.fresh
  exact (State.sound_mk h0.regs h0.shadow h0.cnts h0.tot h0.hold h0.pairs h0.ctl h0.host h0.hlt h0.nvm h0.cls h0.time
      h0.tbl h0.leaf h0.xbar h0.buf h0.tm h0.sky)

theorem sound_State_led : ∀ a0 a1 a2 a3, State.Sound a0 →
    State.Sound (State.led a0 a1 a2 a3) := by
  intro a0 a1 a2 a3 h0
  unfold State.led
  exact (State.sound_mk h0.regs h0.shadow h0.cnts h0.tot h0.hold h0.pairs h0.ctl h0.host (HltSt.sound_mk h0.hlt.wins
      h0.hlt.winCfg h0.hlt.bktAt (SMap.sorted_upd h0.hlt.led _ _ _) h0.hlt.offs h0.hlt.diffs h0.hlt.flog) h0.nvm
      h0.cls h0.time h0.tbl h0.leaf h0.xbar h0.buf h0.tm h0.sky)

theorem sound_State_setReg : ∀ a0 a1 a2 a3 a4, State.Sound a0 →
    State.Sound (State.setReg a0 a1 a2 a3 a4) := by
  intro a0 a1 a2 a3 a4 h0
  unfold State.setReg
  exact (State.sound_mk (SMap.sorted_put h0.regs _ _ _) h0.shadow h0.cnts h0.tot h0.hold h0.pairs h0.ctl h0.host
      h0.hlt h0.nvm h0.cls h0.time h0.tbl h0.leaf h0.xbar h0.buf h0.tm h0.sky)

theorem sound_State_setFld : ∀ a0 a1 a2 a3 a4, State.Sound a0 →
    State.Sound (State.setFld a0 a1 a2 a3 a4) := by
  intro a0 a1 a2 a3 a4 h0
  unfold State.setFld
  exact (sound_State_setReg _ _ _ _ _ h0)

theorem sound_State_setReg64 : ∀ a0 a1 a2 a3 a4, State.Sound a0 →
    State.Sound (State.setReg64 a0 a1 a2 a3 a4) := by
  intro a0 a1 a2 a3 a4 h0
  unfold State.setReg64
  exact (sound_State_setReg _ _ _ _ _ (sound_State_setReg _ _ _ _ _ h0))

theorem sound_State_setShad : ∀ a0 a1 a2 a3 a4, State.Sound a0 →
    State.Sound (State.setShad a0 a1 a2 a3 a4) := by
  intro a0 a1 a2 a3 a4 h0
  unfold State.setShad
  exact (State.sound_mk h0.regs (SMap.sorted_put h0.shadow _ _ _) h0.cnts h0.tot h0.hold h0.pairs h0.ctl h0.host
      h0.hlt h0.nvm h0.cls h0.time h0.tbl h0.leaf h0.xbar h0.buf h0.tm h0.sky)

theorem sound_State_uncount : ∀ a0 a1 a2 a3, State.Sound a0 →
    State.Sound (State.uncount a0 a1 a2 a3) := by
  intro a0 a1 a2 a3 h0
  unfold State.uncount
  exact (State.sound_mk h0.regs h0.shadow (SMap.sorted_upd h0.cnts _ _ _) (SMap.sorted_upd h0.tot _ _ _) h0.hold
      h0.pairs h0.ctl h0.host h0.hlt h0.nvm h0.cls h0.time h0.tbl h0.leaf h0.xbar h0.buf h0.tm h0.sky)

theorem sound_running : ∀ a0 a1, (∀ z0, State.Sound z0 → State.Sound (a0 z0)) → State.Sound a1 →
    State.Sound (running a0 a1) := by
  intro a0 a1 h0 h1
  unfold running
  refine ite_holds (P := State.Sound) ?_ ?_
  · exact h1
  · refine h0 _ h1

theorem sound_admitting : ∀ a0 a1, (∀ z0, State.Sound z0 → State.Sound (a0 z0)) → State.Sound a1 →
    State.Sound (admitting a0 a1) := by
  intro a0 a1 h0 h1
  unfold admitting
  refine ite_holds (P := State.Sound) ?_ ?_
  · exact h1
  · refine sound_running _ _ ?_ h1
    · intro y0 hy0
      refine h0 _ hy0

/-! ### Machine/Link.lean -/

theorem sound_setVc : ∀ a0 a1 a2 a3, State.Sound a3 →
    State.Sound (setVc a0 a1 a2 a3) := by
  intro a0 a1 a2 a3 h3
  unfold setVc
  exact (State.sound_mk h3.regs h3.shadow h3.cnts h3.tot h3.hold h3.pairs (CtlSt.sound_mk h3.ctl.msix h3.ctl.intAt
      (SMap.sorted_put h3.ctl.vcs _ _ _) h3.ctl.arbs h3.ctl.pols h3.ctl.accounts) h3.host h3.hlt h3.nvm h3.cls
      h3.time h3.tbl h3.leaf h3.xbar h3.buf h3.tm h3.sky)

theorem sound_idlSend : ∀ a0 a1 a2 a3 a4, State.Sound a4 →
    State.Sound (idlSend a0 a1 a2 a3 a4) := by
  intro a0 a1 a2 a3 a4 h4
  unfold idlSend
  exact (ite_holds (P := State.Sound) h4 (sound_setVc _ _ _ _ h4))

theorem sound_sendFlit : ∀ a0 a1 a2, State.Sound a2 →
    State.Sound (sendFlit a0 a1 a2) := by
  intro a0 a1 a2 h2
  unfold sendFlit
  extract_lets +onlyGivenNames -merge x0
  split
  · exact h2
  · extract_lets +onlyGivenNames -merge x6
    have hx6 : State.Sound x6 := (sound_setVc _ _ _ _ h2)
    clear_value x6
    exact (sound_idlSend _ _ _ _ _ (sound_State_count _ _ _ _ _ hx6))

theorem sound_idlFlit : ∀ a0 a1, State.Sound a1 →
    State.Sound (idlFlit a0 a1) := by
  intro a0 a1 h1
  unfold idlFlit
  extract_lets +onlyGivenNames -merge x0
  split
  · extract_lets +onlyGivenNames -merge x4
    have hx4 : CtlSt.Sound x4 := h1.ctl
    clear_value x4
    extract_lets +onlyGivenNames -merge x5
    have hx5 : State.Sound x5 := (State.sound_mk h1.regs h1.shadow h1.cnts h1.tot h1.hold h1.pairs (CtlSt.sound_mk
        hx4.msix hx4.intAt hx4.vcs (SMap.sorted_put h1.ctl.arbs _ _ _) hx4.pols hx4.accounts) h1.host h1.hlt h1.nvm
        h1.cls h1.time h1.tbl h1.leaf h1.xbar h1.buf h1.tm h1.sky)
    clear_value x5
    split
    · exact (sound_sendFlit _ _ _ hx5)
    · exact hx5

theorem sound_idlClock : ∀ a0, State.Sound a0 →
    State.Sound (idlClock a0) := by
  intro a0 h0
  unfold idlClock
  refine ite_holds (P := State.Sound) ?_ ?_
  · extract_lets +onlyGivenNames -merge x0
    extract_lets +onlyGivenNames -merge x1
    have hx1 : State.Sound x1 := (foldl_holds (P := State.Sound) (fun _ _ hm2 => (sound_setVc _ _ _ _ hm2)) h0)
    clear_value x1
    exact (ite_holds (P := State.Sound) (sound_idlFlit _ _ (sound_idlFlit _ _ hx1)) hx1)
  · exact h0

/-! ### Machine/Flags.lean -/

theorem sound_logEntry : ∀ a0 a1, State.Sound a1 →
    State.Sound (logEntry a0 a1) := by
  intro a0 a1 h1
  unfold logEntry
  exact (State.sound_mk h1.regs h1.shadow h1.cnts h1.tot h1.hold h1.pairs h1.ctl h1.host (HltSt.sound_mk h1.hlt.wins
      h1.hlt.winCfg h1.hlt.bktAt h1.hlt.led h1.hlt.offs h1.hlt.diffs h1.hlt.flog) h1.nvm h1.cls h1.time h1.tbl
      h1.leaf h1.xbar h1.buf h1.tm h1.sky)

theorem sound_offer : ∀ a0 a1, State.Sound a1 →
    State.Sound (offer a0 a1) := by
  intro a0 a1 h1
  unfold offer
  extract_lets +onlyGivenNames -merge x0
  have hx0 : HostSt.Sound x0 := h1.host
  clear_value x0
  extract_lets +onlyGivenNames -merge x1
  have hx1 : State.Sound x1 := (State.sound_mk h1.regs h1.shadow h1.cnts h1.tot h1.hold h1.pairs h1.ctl
      (HostSt.sound_mk hx0.rings hx0.mem hx0.ext hx0.txLast) h1.hlt h1.nvm h1.cls h1.time h1.tbl h1.leaf h1.xbar
      h1.buf h1.tm h1.sky)
  clear_value x1
  exact (foldl_holds (P := State.Sound) (fun _ _ hm2 => (ite_holds (P := State.Sound) (sound_logEntry _ _ hm2) hm2))
      hx1)

theorem sound_fault : ∀ a0 a1 a2 a3 a4, State.Sound a4 →
    State.Sound (fault a0 a1 a2 a3 a4) := by
  intro a0 a1 a2 a3 a4 h4
  unfold fault
  exact (sound_offer _ _ h4)

theorem sound_sendMsix : ∀ a0 a1, State.Sound a1 →
    State.Sound (sendMsix a0 a1) := by
  intro a0 a1 h1
  unfold sendMsix
  extract_lets +onlyGivenNames -merge x0
  exact (ite_holds (P := State.Sound) (sound_State_emit _ _ h1) (State.sound_mk h1.regs h1.shadow h1.cnts h1.tot
      h1.hold h1.pairs (CtlSt.sound_mk h1.ctl.msix h1.ctl.intAt h1.ctl.vcs h1.ctl.arbs h1.ctl.pols h1.ctl.accounts)
      h1.host h1.hlt h1.nvm h1.cls h1.time h1.tbl h1.leaf h1.xbar h1.buf h1.tm h1.sky))

theorem sound_newInt : ∀ a0 a1, State.Sound a1 →
    State.Sound (newInt a0 a1) := by
  intro a0 a1 h1
  unfold newInt
  exact (ite_holds (P := State.Sound) (sound_sendMsix _ _ h1) h1)

theorem sound_noteInt : ∀ a0 a1 a2, State.Sound a2 →
    State.Sound (noteInt a0 a1 a2) := by
  intro a0 a1 a2 h2
  unfold noteInt
  exact (State.sound_mk h2.regs h2.shadow h2.cnts h2.tot h2.hold h2.pairs (CtlSt.sound_mk h2.ctl.msix
      (SMap.sorted_insert h2.ctl.intAt _ _) h2.ctl.vcs h2.ctl.arbs h2.ctl.pols h2.ctl.accounts) h2.host h2.hlt h2.nvm
      h2.cls h2.time h2.tbl h2.leaf h2.xbar h2.buf h2.tm h2.sky)

theorem sound_takeInt : ∀ a0 a1, State.Sound a1 →
    State.Sound (takeInt a0 a1) := by
  intro a0 a1 h1
  unfold takeInt
  extract_lets +onlyGivenNames -merge x0
  exact (ite_holds (P := State.Sound) (sound_State_count _ _ _ _ _ (sound_noteInt _ _ _ h1)) (sound_newInt _ _
      (sound_State_setReg _ _ _ _ _ (sound_noteInt _ _ _ h1))))

theorem sound_raiseVec : ∀ a0 a1, State.Sound a1 →
    State.Sound (raiseVec a0 a1) := by
  intro a0 a1 h1
  unfold raiseVec
  exact (ite_holds (P := State.Sound) (sound_takeInt _ _ (sound_idlSend _ _ _ _ _ h1)) (State.sound_mk h1.regs
      h1.shadow h1.cnts h1.tot h1.hold h1.pairs (CtlSt.sound_mk h1.ctl.msix h1.ctl.intAt h1.ctl.vcs h1.ctl.arbs
      h1.ctl.pols h1.ctl.accounts) h1.host h1.hlt h1.nvm h1.cls h1.time h1.tbl h1.leaf h1.xbar h1.buf h1.tm h1.sky))

theorem sound_keeperEvent : ∀ a0 a1 a2 a3, State.Sound a1 →
    State.Sound (keeperEvent a0 a1 a2 a3) := by
  intro a0 a1 a2 a3 h1
  unfold keeperEvent
  exact (sound_logEntry _ _ h1)

theorem sound_showFault : ∀ a0 a1, State.Sound a1 →
    State.Sound (showFault a0 a1) := by
  intro a0 a1 h1
  unfold showFault
  exact (sound_State_setReg _ _ _ _ _ (sound_State_setReg _ _ _ _ _ h1))

theorem sound_recordFault : ∀ a0 a1, State.Sound a1 →
    State.Sound (recordFault a0 a1) := by
  intro a0 a1 h1
  unfold recordFault
  extract_lets +onlyGivenNames -merge x0
  have hx0 : State.Sound x0 := (sound_State_count _ _ _ _ _ h1)
  clear_value x0
  extract_lets +onlyGivenNames -merge x1
  split
  · extract_lets +onlyGivenNames -merge x5
    extract_lets +onlyGivenNames -merge x6
    have hx6 : State.Sound x6 := (State.sound_mk hx0.regs hx0.shadow hx0.cnts hx0.tot hx0.hold hx0.pairs hx0.ctl
        hx0.host hx0.hlt hx0.nvm hx0.cls hx0.time hx0.tbl hx0.leaf hx0.xbar hx0.buf hx0.tm hx0.sky)
    clear_value x6
    exact (ite_holds (P := State.Sound) (sound_showFault _ _ hx6) hx6)

theorem sound_logWrite : ∀ a0 a1 a2, State.Sound a2 →
    State.Sound (logWrite a0 a1 a2) := by
  intro a0 a1 a2 h2
  unfold logWrite
  exact (sound_recordFault _ _ h2)

theorem sound_raiseNear : ∀ a0 a1, State.Sound a1 →
    State.Sound (raiseNear a0 a1) := by
  intro a0 a1 h1
  unfold raiseNear
  exact (sound_takeInt _ _ h1)

theorem sound_clearFault : ∀ a0, State.Sound a0 →
    State.Sound (clearFault a0) := by
  intro a0 h0
  unfold clearFault
  split
  · exact (sound_showFault _ _ (State.sound_mk h0.regs h0.shadow h0.cnts h0.tot h0.hold h0.pairs h0.ctl h0.host
      h0.hlt h0.nvm h0.cls h0.time h0.tbl h0.leaf h0.xbar h0.buf h0.tm h0.sky))
  · exact (sound_State_setReg _ _ _ _ _ (sound_State_setReg _ _ _ _ _ h0))

theorem sound_logNear : ∀ a0 a1, State.Sound a1 →
    State.Sound (logNear a0 a1) := by
  intro a0 a1 h1
  unfold logNear
  exact (ite_holds (P := State.Sound) (sound_recordFault _ _ (sound_idlSend _ _ _ _ _ h1)) (ite_holds (P :=
      State.Sound) (State.sound_mk h1.regs h1.shadow h1.cnts h1.tot h1.hold h1.pairs (CtlSt.sound_mk h1.ctl.msix
      h1.ctl.intAt h1.ctl.vcs h1.ctl.arbs h1.ctl.pols h1.ctl.accounts) h1.host h1.hlt h1.nvm h1.cls h1.time h1.tbl
      h1.leaf h1.xbar h1.buf h1.tm h1.sky) (State.sound_mk h1.regs h1.shadow h1.cnts h1.tot h1.hold h1.pairs
      (CtlSt.sound_mk h1.ctl.msix h1.ctl.intAt h1.ctl.vcs h1.ctl.arbs h1.ctl.pols h1.ctl.accounts) h1.host h1.hlt
      h1.nvm h1.cls h1.time h1.tbl h1.leaf h1.xbar h1.buf h1.tm h1.sky)))

/-! ### Machine/Health.lean -/

theorem sound_excuse : ∀ a0 a1, State.Sound a1 →
    State.Sound (excuse a0 a1) := by
  intro a0 a1 h1
  unfold excuse
  refine ite_holds (P := State.Sound) ?_ ?_
  · exact h1
  · extract_lets +onlyGivenNames -merge x0
    extract_lets +onlyGivenNames -merge x1
    have hx1 : HltSt.Sound x1 := h1.hlt
    clear_value x1
    extract_lets +onlyGivenNames -merge x2
    have hx2 : State.Sound x2 := (State.sound_mk h1.regs h1.shadow h1.cnts h1.tot h1.hold h1.pairs h1.ctl h1.host
        (HltSt.sound_mk hx1.wins hx1.winCfg hx1.bktAt hx1.led hx1.offs hx1.diffs hx1.flog) h1.nvm h1.cls h1.time
        h1.tbl h1.leaf h1.xbar h1.buf h1.tm h1.sky)
    clear_value x2
    exact (sound_State_setFld _ _ _ _ _ hx2)

theorem sound_setWin : ∀ a0 a1 a2 a3, State.Sound a3 →
    State.Sound (setWin a0 a1 a2 a3) := by
  intro a0 a1 a2 a3 h3
  unfold setWin
  exact (State.sound_mk h3.regs h3.shadow h3.cnts h3.tot h3.hold h3.pairs h3.ctl h3.host (HltSt.sound_mk
      (SMap.sorted_put h3.hlt.wins _ _ _) h3.hlt.winCfg h3.hlt.bktAt h3.hlt.led h3.hlt.offs h3.hlt.diffs h3.hlt.flog)
      h3.nvm h3.cls h3.time h3.tbl h3.leaf h3.xbar h3.buf h3.tm h3.sky)

theorem sound_memRecord : ∀ a0 a1 a2 a3 a4, State.Sound a4 →
    State.Sound (memRecord a0 a1 a2 a3 a4) := by
  intro a0 a1 a2 a3 a4 h4
  unfold memRecord
  extract_lets +onlyGivenNames -merge x0
  exact (ite_holds (P := State.Sound) (sound_State_count _ _ _ _ _ h4) (sound_fault _ _ _ _ _ (sound_setWin _ _ _ _
      h4)))

theorem sound_showLasting : ∀ a0 a1, State.Sound a1 →
    State.Sound (showLasting a0 a1) := by
  intro a0 a1 h1
  unfold showLasting
  extract_lets +onlyGivenNames -merge x0
  extract_lets +onlyGivenNames -merge x1
  extract_lets +onlyGivenNames -merge x2
  subst x2
  beta_reduce
  extract_lets +onlyGivenNames -merge x3
  extract_lets +onlyGivenNames -merge x4
  have hx4 : State.Sound x4 := (sound_State_setReg _ _ _ _ _ h1)
  clear_value x4
  exact (ite_holds (P := State.Sound) (foldl_holds (P := State.Sound) (fun _ _ hm5 => (sound_State_setReg _ _ _ _ _
      hm5)) hx4) hx4)

theorem sound_winEvent : ∀ a0 a1 a2, State.Sound a2 →
    Fst State.Sound (winEvent a0 a1 a2) := by
  intro a0 a1 a2 h2
  unfold winEvent
  extract_lets +onlyGivenNames -merge x0
  extract_lets +onlyGivenNames -merge x1
  extract_lets +onlyGivenNames -merge x2
  extract_lets +onlyGivenNames -merge x3
  have hx3 : State.Sound x3 := (sound_setWin _ _ _ _ h2)
  clear_value x3
  refine ite_holds (P := (Fst State.Sound)) ?_ ?_
  · refine fst_holds (P := State.Sound) ?_
    exact (sound_showLasting _ _ (sound_keeperEvent _ _ _ _ (sound_State_count _ _ _ _ _ hx3)))
  · refine fst_holds (P := State.Sound) ?_
    exact hx3

theorem sound_memError : ∀ a0 a1 a2 a3 a4 a5, State.Sound a5 →
    Fst State.Sound (memError a0 a1 a2 a3 a4 a5) := by
  intro a0 a1 a2 a3 a4 a5 h5
  unfold memError
  split
  · rename_i v0 v1 heq2
    have hv0 : State.Sound v0 := holds_eq (P := (Fst State.Sound)) heq2 (by
        exact (sound_winEvent _ _ _ h5))
    refine fst_holds (P := State.Sound) ?_
    exact (ite_holds (P := State.Sound) (sound_excuse _ _ (sound_memRecord _ _ _ _ _ hv0)) hv0)

theorem sound_memReport : ∀ a0 a1 a2 a3 a4 a5, State.Sound a5 →
    State.Sound (memReport a0 a1 a2 a3 a4 a5) := by
  intro a0 a1 a2 a3 a4 a5 h5
  unfold memReport
  exact (of_fst (sound_memError _ _ _ _ _ _ h5))

theorem sound_hostMemError : ∀ a0 a1 a2, State.Sound a2 →
    State.Sound (hostMemError a0 a1 a2) := by
  intro a0 a1 a2 h2
  unfold hostMemError
  exact (ite_holds (P := State.Sound) (sound_memReport _ _ _ _ _ _ (sound_State_count _ _ _ _ _ h2)) (sound_memReport
      _ _ _ _ _ _ (sound_State_count _ _ _ _ _ h2)))

theorem pick_holds {c d : Prop} [Decidable c] [Decidable d] {k : Nat} {v w : WinSt} {m : SMap WinSt} :
    (if c then (if d then m else (k, v) :: m) else (k, w) :: m) = m
    ∨ ∃ u, (if c then (if d then m else (k, v) :: m) else (k, w) :: m) = (k, u) :: m := by
  split
  · split
    · exact .inl rfl
    · exact .inr ⟨_, rfl⟩
  · exact .inr ⟨_, rfl⟩

/-- A walk over a map that keeps, changes or leaves out each entry keeps the keys in order. -/
theorem sorted_foldr (l : SMap WinSt) (g : Nat × WinSt → SMap WinSt → SMap WinSt)
    (hg : ∀ e m, g e m = m ∨ ∃ v, g e m = (e.1, v) :: m) (hl : SMap.sorted l = true) :
    SMap.sorted (l.foldr g []) = true ∧ ∀ b, SMap.above b l → SMap.above b (l.foldr g []) := by
  induction l with
  | nil => exact ⟨rfl, fun b _ => SMap.above_nil b⟩
  | cons e l ih =>
    obtain ⟨q, v⟩ := e
    obtain ⟨ha, hs⟩ := SMap.sorted_cons.1 hl
    obtain ⟨i1, i2⟩ := ih hs
    rw [List.foldr_cons]
    rcases hg (q, v) (l.foldr g []) with h | ⟨w, h⟩
    · rw [h]; exact ⟨i1, fun b hb => i2 _ (SMap.above_cons.1 hb).2⟩
    · rw [h]
      exact ⟨SMap.sorted_cons.2 ⟨i2 _ ha, i1⟩,
        fun b hb => SMap.above_cons.2 ⟨(SMap.above_cons.1 hb).1, i2 _ (SMap.above_cons.1 hb).2⟩⟩

theorem sound_bucketEnd : ∀ a0 a1, State.Sound a1 →
    State.Sound (bucketEnd a0 a1) := by
  intro k s h
  unfold bucketEnd
  refine sound_showLasting _ _ (State.sound_mk h.regs h.shadow h.cnts h.tot h.hold h.pairs h.ctl h.host
    (HltSt.sound_mk (sorted_foldr _ _ ?_ h.hlt.wins).1 (SMap.sorted_put h.hlt.winCfg _ _ _) h.hlt.bktAt h.hlt.led
      h.hlt.offs h.hlt.diffs h.hlt.flog) h.nvm h.cls h.time h.tbl h.leaf h.xbar h.buf h.tm h.sky)
  exact fun e m => pick_holds

theorem sound_ledgerFault : ∀ a0 a1 a2 a3 a4, State.Sound a4 →
    State.Sound (ledgerFault a0 a1 a2 a3 a4) := by
  intro a0 a1 a2 a3 a4 h4
  unfold ledgerFault
  extract_lets +onlyGivenNames -merge x0
  extract_lets +onlyGivenNames -merge x1
  have hx1 : State.Sound x1 := (sound_State_count _ _ _ _ _ h4)
  clear_value x1
  extract_lets +onlyGivenNames -merge x2
  have hx2 : State.Sound x2 := (sound_State_setFld _ _ _ _ _ (sound_State_setFld _ _ _ _ _ hx1))
  clear_value x2
  extract_lets +onlyGivenNames -merge x3
  exact (ite_holds (P := State.Sound) (sound_State_count _ _ _ _ _ hx2) (sound_fault _ _ _ _ _ (State.sound_mk
      hx2.regs hx2.shadow hx2.cnts hx2.tot hx2.hold hx2.pairs hx2.ctl hx2.host (HltSt.sound_mk hx2.hlt.wins
      hx2.hlt.winCfg hx2.hlt.bktAt hx2.hlt.led hx2.hlt.offs hx2.hlt.diffs hx2.hlt.flog) hx2.nvm hx2.cls hx2.time
      hx2.tbl hx2.leaf hx2.xbar hx2.buf hx2.tm hx2.sky)))

theorem sound_windowBucketEnd : ∀ a0 a1, State.Sound a1 →
    State.Sound (windowBucketEnd a0 a1) := by
  intro a0 a1 h1
  unfold windowBucketEnd
  extract_lets +onlyGivenNames -merge x0
  exact (ite_holds (P := State.Sound) (sound_bucketEnd _ _ (State.sound_mk h1.regs h1.shadow h1.cnts h1.tot h1.hold
      h1.pairs h1.ctl h1.host (HltSt.sound_mk h1.hlt.wins h1.hlt.winCfg (SMap.sorted_put h1.hlt.bktAt _ _ _)
      h1.hlt.led h1.hlt.offs h1.hlt.diffs h1.hlt.flog) h1.nvm h1.cls h1.time h1.tbl h1.leaf h1.xbar h1.buf h1.tm
      h1.sky)) h1)

theorem sound_execWindowBucketEnd : ∀ a0 a1, State.Sound a1 →
    ResHolds (execWindowBucketEnd a0 a1) := by
  intro a0 a1 h1
  unfold execWindowBucketEnd
  refine next_holds ?_
  exact (sound_windowBucketEnd _ _ h1)

/-! ### Machine/Rules.lean -/

theorem sound_flowCount : ∀ a0 a1 a2, State.Sound a2 →
    State.Sound (flowCount a0 a1 a2) := by
  intro a0 a1 a2 h2
  unfold flowCount
  split
  · exact h2
  · exact (State.sound_mk h2.regs h2.shadow h2.cnts h2.tot h2.hold h2.pairs h2.ctl h2.host h2.hlt h2.nvm
      (ClsSt.sound_mk h2.cls.rules h2.cls.staging h2.cls.edits h2.cls.tmpls (SMap.sorted_upd h2.cls.flows _ _ _))
      h2.time h2.tbl h2.leaf h2.xbar h2.buf h2.tm h2.sky)

theorem sound_ruleParity : ∀ a0 a1 a2, State.Sound a2 →
    State.Sound (ruleParity a0 a1 a2) := by
  intro a0 a1 a2 h2
  unfold ruleParity
  exact (foldl_holds (P := State.Sound) (fun _ _ hm0 => (sound_memReport _ _ _ _ _ _ (sound_State_count _ _ _ _ _
      hm0))) h2)

/-! ### Machine/Edit.lean -/

theorem sound_editCounts : ∀ a0 a1 a2, State.Sound a2 →
    State.Sound (editCounts a0 a1 a2) := by
  intro a0 a1 a2 h2
  unfold editCounts
  split
  · exact (sound_State_count _ _ _ _ _ h2)
  · exact (sound_memReport _ _ _ _ _ _ (sound_State_count _ _ _ _ _ h2))

/-! ### Machine/Tables.lean -/

theorem sound_clearEnt : ∀ a0 a1, SMap.sorted a0 = true →
    SMap.sorted (clearEnt a0 a1) = true := by
  intro a0 a1 h0
  unfold clearEnt
  split
  · exact (ite_holds (P := (fun e => SMap.sorted e = true)) (SMap.sorted_erase (SMap.sorted_erase h0 _) _)
      (SMap.sorted_erase h0 _))
  · exact (SMap.sorted_erase h0 _)

theorem sound_placeAt : ∀ a0 a1 a2, SMap.sorted a0 = true →
    SMap.sorted (placeAt a0 a1 a2) = true := by
  intro a0 a1 a2 h0
  unfold placeAt
  split
  · exact (ite_holds (P := (fun e => SMap.sorted e = true)) (SMap.sorted_insert (SMap.sorted_insert (sound_clearEnt _
      _ (sound_clearEnt _ _ h0)) _ _) _ _) (SMap.sorted_insert (sound_clearEnt _ _ h0) _ _))
  · exact (SMap.sorted_insert (sound_clearEnt _ _ h0) _ _)
  · exact h0

theorem sound_replaceEnt : ∀ a0 a1 a2, SMap.sorted a0 = true →
    SMap.sorted (replaceEnt a0 a1 a2) = true := by
  intro a0 a1 a2 h0
  unfold replaceEnt
  exact (SMap.sorted_insert h0 _ _)

theorem sound_setEnt : ∀ a0 a1 a2, State.Sound a2 →
    State.Sound (setEnt a0 a1 a2) := by
  intro a0 a1 a2 h2
  unfold setEnt
  exact (State.sound_mk h2.regs h2.shadow h2.cnts h2.tot h2.hold h2.pairs h2.ctl h2.host h2.hlt h2.nvm h2.cls h2.time
      (TblSt.sound_mk (sound_replaceEnt _ _ _ h2.tbl.slots) h2.tbl.filters h2.tbl.nhs h2.tbl.groups h2.tbl.members
      h2.tbl.lags) h2.leaf h2.xbar h2.buf h2.tm h2.sky)

theorem sound_slotParity : ∀ a0 a1, State.Sound a1 →
    State.Sound (slotParity a0 a1) := by
  intro a0 a1 h1
  unfold slotParity
  exact (foldl_holds (P := State.Sound) (fun _ _ hm0 => (sound_memReport _ _ _ _ _ _ (sound_State_count _ _ _ _ _
      hm0))) h1)

theorem sound_entryParity : ∀ a0 a1, State.Sound a1 →
    State.Sound (entryParity a0 a1) := by
  intro a0 a1 h1
  unfold entryParity
  exact (sound_memReport _ _ _ _ _ _ (sound_State_count _ _ _ _ _ h1))

theorem sound_selectLag : ∀ a0 a1 a2, State.Sound a2 →
    Snd State.Sound (selectLag a0 a1 a2) := by
  intro a0 a1 a2 h2
  unfold selectLag
  extract_lets +onlyGivenNames -merge x0
  extract_lets +onlyGivenNames -merge x1
  extract_lets +onlyGivenNames -merge x2
  have hx2 : State.Sound x2 := (foldl_holds (P := State.Sound) (fun _ _ hm3 => (sound_entryParity _ _ hm3)) h2)
  clear_value x2
  extract_lets +onlyGivenNames -merge x4
  extract_lets +onlyGivenNames -merge x5
  split
  · refine snd_holds (P := State.Sound) ?_
    exact hx2
  · refine snd_holds (P := State.Sound) ?_
    exact hx2

theorem sound_resolveNh : ∀ a0 a1 a2 a3 a4, State.Sound a4 →
    Snd State.Sound (resolveNh a0 a1 a2 a3 a4) := by
  intro a0 a1 a2 a3 a4 h4
  unfold resolveNh
  split
  · refine snd_holds (P := State.Sound) ?_
    exact h4
  · refine ite_holds (P := (Snd State.Sound)) ?_ ?_
    · refine snd_holds (P := State.Sound) ?_
      exact (sound_entryParity _ _ h4)
    · refine ite_holds (P := (Snd State.Sound)) ?_ ?_
      · refine snd_holds (P := State.Sound) ?_
        exact h4
      · refine ite_holds (P := (Snd State.Sound)) ?_ ?_
        · refine snd_holds (P := State.Sound) ?_
          exact h4
        · refine ite_holds (P := (Snd State.Sound)) ?_ ?_
          · refine snd_holds (P := State.Sound) ?_
            exact h4
          · refine ite_holds (P := (Snd State.Sound)) ?_ ?_
            · refine ite_holds (P := (Snd State.Sound)) ?_ ?_
              · refine snd_holds (P := State.Sound) ?_
                exact h4
              · refine snd_holds (P := State.Sound) ?_
                exact h4
            · extract_lets +onlyGivenNames -merge x3
              extract_lets +onlyGivenNames -merge x4
              refine ite_holds (P := (Snd State.Sound)) ?_ ?_
              · refine snd_holds (P := State.Sound) ?_
                exact h4
              · refine ite_holds (P := (Snd State.Sound)) ?_ ?_
                · refine snd_holds (P := State.Sound) ?_
                  exact h4
                · split
                  · rename_i v5 v6 heq7
                    have hv6 : State.Sound v6 := holds_eq (P := (Snd State.Sound)) heq7 (by
                        exact (sound_selectLag _ _ _ h4))
                    refine snd_holds (P := State.Sound) ?_
                    exact hv6

theorem sound_resolveEcmp : ∀ a0 a1 a2 a3 a4, State.Sound a4 →
    Snd State.Sound (resolveEcmp a0 a1 a2 a3 a4) := by
  intro a0 a1 a2 a3 a4 h4
  unfold resolveEcmp
  split
  · refine snd_holds (P := State.Sound) ?_
    exact h4
  · refine ite_holds (P := (Snd State.Sound)) ?_ ?_
    · refine snd_holds (P := State.Sound) ?_
      exact (sound_entryParity _ _ h4)
    · refine ite_holds (P := (Snd State.Sound)) ?_ ?_
      · refine snd_holds (P := State.Sound) ?_
        exact h4
      · extract_lets +onlyGivenNames -merge x3
        extract_lets +onlyGivenNames -merge x4
        split
        · exact (sound_resolveNh _ _ _ _ _ h4)
        · refine ite_holds (P := (Snd State.Sound)) ?_ ?_
          · refine snd_holds (P := State.Sound) ?_
            exact (sound_entryParity _ _ h4)
          · exact (sound_resolveNh _ _ _ _ _ h4)

theorem sound_lookupKey : ∀ a0 a1 a2, State.Sound a2 →
    Snd State.Sound (lookupKey a0 a1 a2) := by
  intro a0 a1 a2 h2
  unfold lookupKey
  split
  · refine snd_holds (P := State.Sound) ?_
    exact h2
  · extract_lets +onlyGivenNames -merge x3
    refine snd_holds (P := State.Sound) ?_
    exact (sound_slotParity _ _ h2)

theorem sound_l2Miss : ∀ a0 a1, State.Sound a1 →
    Snd State.Sound (l2Miss a0 a1) := by
  intro a0 a1 h1
  unfold l2Miss
  split
  · refine snd_holds (P := State.Sound) ?_
    exact h1
  · exact (sound_resolveNh _ _ _ _ _ h1)
  · refine snd_holds (P := State.Sound) ?_
    exact h1

theorem sound_lpmProbe : ∀ a0 a1 a2 a3 a4 a5, State.Sound a5 →
    Snd State.Sound (lpmProbe a0 a1 a2 a3 a4 a5) := by
  intro bank vrf v6 addr l
  induction l with
  | nil => exact fun s h => h
  | cons n l ih =>
    intro s h
    unfold lpmProbe
    have h1 := sound_lookupKey bank (.lpm vrf v6 (maskAddr v6 addr n) n) s h
    split
    · rename_i heq; rw [heq] at h1; exact h1
    · rename_i heq; rw [heq] at h1; exact ih _ h1

theorem sound_lpmLookup : ∀ a0 a1 a2 a3, State.Sound a3 →
    Snd State.Sound (lpmLookup a0 a1 a2 a3) := by
  intro a0 a1 a2 a3 h3
  unfold lpmLookup
  extract_lets +onlyGivenNames -merge x0
  extract_lets +onlyGivenNames -merge x1
  split
  · refine snd_holds (P := State.Sound) ?_
    exact h3
  · refine ite_holds (P := (Snd State.Sound)) ?_ ?_
    · refine snd_holds (P := State.Sound) ?_
      exact (sound_entryParity _ _ h3)
    · exact (sound_lpmProbe _ _ _ _ _ _ h3)

theorem sound_macResult : ∀ a0 a1 a2, State.Sound a2 →
    Snd State.Sound (macResult a0 a1 a2) := by
  intro a0 a1 a2 h2
  unfold macResult
  split
  · refine snd_holds (P := State.Sound) ?_
    exact h2
  · refine snd_holds (P := State.Sound) ?_
    exact h2
  · exact (sound_resolveNh _ _ _ _ _ h2)
  · refine snd_holds (P := State.Sound) ?_
    exact h2

theorem sound_routeResult : ∀ a0 a1 a2 a3, State.Sound a3 →
    Snd State.Sound (routeResult a0 a1 a2 a3) := by
  intro a0 a1 a2 a3 h3
  unfold routeResult
  exact (ite_holds (P := (Snd State.Sound)) (sound_resolveEcmp _ _ _ _ _ h3) (sound_resolveNh _ _ _ _ _ h3))

theorem sound_tableLookup : ∀ a0 a1 a2 a3 a4, State.Sound a4 →
    Snd State.Sound (tableLookup a0 a1 a2 a3 a4) := by
  intro a0 a1 a2 a3 a4 h4
  unfold tableLookup
  extract_lets +onlyGivenNames -merge x0
  split
  · rename_i v1 v2 heq3
    have hv2 : State.Sound v2 := holds_eq (P := (Snd State.Sound)) heq3 (by
        exact (sound_lookupKey _ _ _ h4))
    split
    · split
      · exact (sound_macResult _ _ _ hv2)
      · exact (sound_l2Miss _ _ hv2)
    · extract_lets +onlyGivenNames -merge x11
      extract_lets +onlyGivenNames -merge x12
      extract_lets +onlyGivenNames -merge x13
      extract_lets +onlyGivenNames -merge x14
      split
      · rename_i v15 v16 heq17
        have hv16 : State.Sound v16 := holds_eq (P := (Snd State.Sound)) heq17 (by
            exact (sound_lookupKey _ _ _ hv2))
        split
        · exact (sound_routeResult _ _ _ _ (sound_setEnt _ _ _ hv16))
        · split
          · rename_i v22 v23 heq24
            have hv23 : State.Sound v23 := holds_eq (P := (Snd State.Sound)) heq24 (by
                exact (sound_lpmLookup _ _ _ _ hv16))
            split
            · exact (sound_routeResult _ _ _ _ hv23)
            · refine snd_holds (P := State.Sound) ?_
              exact hv23

/-! ### Machine/Dma.lean -/

theorem sound_setIdlPol : ∀ a0 a1 a2, State.Sound a2 →
    State.Sound (setIdlPol a0 a1 a2) := by
  intro a0 a1 a2 h2
  unfold setIdlPol
  exact (State.sound_mk h2.regs h2.shadow h2.cnts h2.tot h2.hold h2.pairs (CtlSt.sound_mk h2.ctl.msix h2.ctl.intAt
      h2.ctl.vcs h2.ctl.arbs (SMap.sorted_put h2.ctl.pols _ _ _) h2.ctl.accounts) h2.host h2.hlt h2.nvm h2.cls
      h2.time h2.tbl h2.leaf h2.xbar h2.buf h2.tm h2.sky)

theorem sound_idlRefresh : ∀ a0 a1, State.Sound a1 →
    State.Sound (idlRefresh a0 a1) := by
  intro a0 a1 h1
  unfold idlRefresh
  extract_lets +onlyGivenNames -merge x0
  extract_lets +onlyGivenNames -merge x1
  extract_lets +onlyGivenNames -merge x2
  extract_lets +onlyGivenNames -merge x3
  extract_lets +onlyGivenNames -merge x4
  extract_lets +onlyGivenNames -merge x5
  exact (sound_setIdlPol _ _ _ h1)

theorem sound_idlRefreshAll : ∀ a0, State.Sound a0 →
    State.Sound (idlRefreshAll a0) := by
  intro a0 h0
  unfold idlRefreshAll
  exact (ite_holds (P := State.Sound) (foldl_holds (P := State.Sound) (fun _ _ hm0 => (sound_idlRefresh _ _ hm0))
      (State.sound_mk h0.regs h0.shadow h0.cnts h0.tot h0.hold h0.pairs (CtlSt.sound_mk h0.ctl.msix h0.ctl.intAt
      h0.ctl.vcs h0.ctl.arbs h0.ctl.pols h0.ctl.accounts) h0.host h0.hlt h0.nvm h0.cls h0.time h0.tbl h0.leaf h0.xbar
      h0.buf h0.tm h0.sky)) h0)

theorem sound_idlPass : ∀ a0 a1 a2, State.Sound a2 →
    Snd State.Sound (idlPass a0 a1 a2) := by
  intro a0 a1 a2 h2
  unfold idlPass
  extract_lets +onlyGivenNames -merge x0
  have hx0 : State.Sound x0 := (sound_idlRefreshAll _ h2)
  clear_value x0
  extract_lets +onlyGivenNames -merge x1
  refine ite_holds (P := (Snd State.Sound)) ?_ ?_
  · refine snd_holds (P := State.Sound) ?_
    exact hx0
  · refine ite_holds (P := (Snd State.Sound)) ?_ ?_
    · refine snd_holds (P := State.Sound) ?_
      exact (sound_setIdlPol _ _ _ hx0)
    · refine snd_holds (P := State.Sound) ?_
      exact (sound_State_count _ _ _ _ _ hx0)

theorem sound_memPut : ∀ a0 a1 a2, Memory.wf a0 = true →
    Memory.wf (memPut a0 a1 a2) = true := by
  intro m a l
  induction l generalizing m a with
  | nil => exact id
  | cons b l ih => exact fun h => ih _ _ (SMap.wf_put (d := fun _ => 0#8) h a b)

theorem sound_memWrite : ∀ a0 a1 a2, State.Sound a2 →
    Snd State.Sound (memWrite a0 a1 a2) := by
  intro a0 a1 a2 h2
  unfold memWrite
  extract_lets +onlyGivenNames -merge x0
  extract_lets +onlyGivenNames -merge x1
  extract_lets +onlyGivenNames -merge x2
  extract_lets +onlyGivenNames -merge x3
  have hx3 : HostSt.Sound x3 := h2.host
  clear_value x3
  extract_lets +onlyGivenNames -merge x4
  have hx4 : State.Sound x4 := (State.sound_mk h2.regs h2.shadow h2.cnts h2.tot h2.hold h2.pairs h2.ctl
      (HostSt.sound_mk hx3.rings (ite_holds (P := (fun e => Memory.wf e = true)) (sound_memPut _ _ _ h2.host.mem)
      (foldl_holds (P := (fun e => Memory.wf e = true)) (fun _ _ hm5 => (ite_holds (P := (fun e => Memory.wf e =
      true)) hm5 (SMap.wf_put (d := fun _ => 0#8) hm5 _ _))) h2.host.mem)) hx3.ext hx3.txLast) h2.hlt h2.nvm h2.cls
      h2.time h2.tbl h2.leaf h2.xbar h2.buf h2.tm h2.sky)
  clear_value x4
  refine snd_holds (P := State.Sound) ?_
  exact (foldl_holds (P := State.Sound) (fun _ _ hm6 => (sound_hostMemError _ _ _ hm6)) hx4)

theorem sound_dmaStore : ∀ a0 a1 a2 a3, State.Sound a3 →
    Snd State.Sound (dmaStore a0 a1 a2 a3) := by
  intro a0 a1 a2 a3 h3
  unfold dmaStore
  extract_lets +onlyGivenNames -merge x0
  have hx0 : State.Sound x0 := (sound_idlSend _ _ _ _ _ h3)
  clear_value x0
  refine ite_holds (P := (Snd State.Sound)) ?_ ?_
  · refine snd_holds (P := State.Sound) ?_
    exact (State.sound_mk hx0.regs hx0.shadow hx0.cnts hx0.tot hx0.hold hx0.pairs hx0.ctl (HostSt.sound_mk
        hx0.host.rings hx0.host.mem (sound_memPut _ _ _ hx0.host.ext) hx0.host.txLast) hx0.hlt hx0.nvm hx0.cls
        hx0.time hx0.tbl hx0.leaf hx0.xbar hx0.buf hx0.tm hx0.sky)
  · exact (sound_memWrite _ _ _ hx0)

theorem sound_hostWrite : ∀ a0 a1 a2, State.Sound a2 →
    Snd State.Sound (hostWrite a0 a1 a2) := by
  intro a0 a1 a2 h2
  unfold hostWrite
  refine ite_holds (P := (Snd State.Sound)) ?_ ?_
  · exact (sound_dmaStore _ _ _ _ h2)
  · refine snd_holds (P := State.Sound) ?_
    exact (State.sound_mk h2.regs h2.shadow h2.cnts h2.tot h2.hold h2.pairs (CtlSt.sound_mk h2.ctl.msix h2.ctl.intAt
        h2.ctl.vcs h2.ctl.arbs h2.ctl.pols h2.ctl.accounts) h2.host h2.hlt h2.nvm h2.cls h2.time h2.tbl h2.leaf
        h2.xbar h2.buf h2.tm h2.sky)

theorem sound_dmaWrite : ∀ a0 a1 a2, State.Sound a2 →
    Snd State.Sound (dmaWrite a0 a1 a2) := by
  intro a0 a1 a2 h2
  unfold dmaWrite
  split
  · refine snd_holds (P := State.Sound) ?_
    exact h2
  · split
    · rename_i v3 v4 heq5
      have hv4 : State.Sound v4 := holds_eq (P := (Snd State.Sound)) heq5 (by
          exact (sound_hostWrite _ _ _ h2))
      refine snd_holds (P := State.Sound) ?_
      exact hv4

theorem sound_coreStore : ∀ a0 a1 a2, State.Sound a2 →
    State.Sound (coreStore a0 a1 a2) := by
  intro a0 a1 a2 h2
  unfold coreStore
  refine ite_holds (P := State.Sound) ?_ ?_
  · exact h2
  · refine ite_holds (P := State.Sound) ?_ ?_
    · exact (sound_State_emit _ _ h2)
    · split
      · rename_i v0 v1 heq2
        have hv1 : State.Sound v1 := holds_eq (P := (Snd State.Sound)) heq2 (by
            exact (sound_memWrite _ _ _ h2))
        exact (ite_holds (P := State.Sound) hv1 (sound_State_emit _ _ hv1))

theorem sound_flushDma : ∀ a0, State.Sound a0 →
    State.Sound (flushDma a0) := by
  intro a0 h0
  unfold flushDma
  exact (foldl_holds (P := State.Sound) (fun _ _ hm0 => (of_snd (sound_dmaStore _ _ _ _ hm0))) (State.sound_mk
      h0.regs h0.shadow h0.cnts h0.tot h0.hold h0.pairs (CtlSt.sound_mk h0.ctl.msix h0.ctl.intAt h0.ctl.vcs
      h0.ctl.arbs h0.ctl.pols h0.ctl.accounts) h0.host h0.hlt h0.nvm h0.cls h0.time h0.tbl h0.leaf h0.xbar h0.buf
      h0.tm h0.sky))

theorem sound_hostRead : ∀ a0 a1 a2, State.Sound a2 →
    Snd State.Sound (hostRead a0 a1 a2) := by
  intro a0 a1 a2 h2
  unfold hostRead
  extract_lets +onlyGivenNames -merge x0
  have hx0 : State.Sound x0 := (sound_idlSend _ _ _ _ _ h2)
  clear_value x0
  refine ite_holds (P := (Snd State.Sound)) ?_ ?_
  · refine snd_holds (P := State.Sound) ?_
    exact hx0
  · split
    · refine snd_holds (P := State.Sound) ?_
      exact hx0
    · refine snd_holds (P := State.Sound) ?_
      exact (foldl_holds (P := State.Sound) (fun _ _ hm5 => (sound_hostMemError _ _ _ hm5)) hx0)

theorem sound_dmaRead : ∀ a0 a1 a2, State.Sound a2 →
    Snd State.Sound (dmaRead a0 a1 a2) := by
  intro a0 a1 a2 h2
  unfold dmaRead
  split
  · refine snd_holds (P := State.Sound) ?_
    exact h2
  · split
    · rename_i v3 v4 heq5
      have hv4 : State.Sound v4 := holds_eq (P := (Snd State.Sound)) heq5 (by
          exact (sound_hostRead _ _ _ h2))
      refine snd_holds (P := State.Sound) ?_
      exact hv4
    · rename_i v6 heq7
      have hv6 : State.Sound v6 := holds_eq (P := (Snd State.Sound)) heq7 (by
          exact (sound_hostRead _ _ _ h2))
      refine snd_holds (P := State.Sound) ?_
      exact hv6

theorem sound_softStore : ∀ a0 a1 a2 a3, State.Sound a3 →
    State.Sound (softStore a0 a1 a2 a3) := by
  intro a0 a1 a2 a3 h3
  unfold softStore
  exact (ite_holds (P := State.Sound) (State.sound_mk h3.regs h3.shadow h3.cnts h3.tot h3.hold h3.pairs h3.ctl
      (HostSt.sound_mk h3.host.rings h3.host.mem (sound_memPut _ _ _ h3.host.ext) h3.host.txLast) h3.hlt h3.nvm
      h3.cls h3.time h3.tbl h3.leaf h3.xbar h3.buf h3.tm h3.sky) (sound_coreStore _ _ _ h3))

theorem sound_memoryError : ∀ a0 a1 a2 a3, State.Sound a3 →
    State.Sound (memoryError a0 a1 a2 a3) := by
  intro a0 a1 a2 a3 h3
  unfold memoryError
  refine ite_holds (P := State.Sound) ?_ ?_
  · exact (ite_holds (P := State.Sound) (sound_State_emit _ _ h3) h3)
  · refine ite_holds (P := State.Sound) ?_ ?_
    · exact (sound_hostMemError _ _ _ h3)
    · extract_lets +onlyGivenNames -merge x0
      extract_lets +onlyGivenNames -merge x1
      extract_lets +onlyGivenNames -merge x2
      have hx2 : HostSt.Sound x2 := h3.host
      clear_value x2
      extract_lets +onlyGivenNames -merge x3
      have hx3 : State.Sound x3 := (State.sound_mk h3.regs h3.shadow h3.cnts h3.tot h3.hold h3.pairs h3.ctl
          (HostSt.sound_mk hx2.rings hx2.mem hx2.ext hx2.txLast) h3.hlt h3.nvm h3.cls h3.time h3.tbl h3.leaf h3.xbar
          h3.buf h3.tm h3.sky)
      clear_value x3
      exact (ite_holds (P := State.Sound) (sound_State_emit _ _ (sound_hostMemError _ _ _ hx3)) hx3)

theorem sound_execHostMemoryError : ∀ a0 a1 a2, State.Sound a2 →
    ResHolds (execHostMemoryError a0 a1 a2) := by
  intro a0 a1 a2 h2
  unfold execHostMemoryError
  refine next_holds ?_
  exact (sound_memoryError _ _ _ _ h2)

theorem sound_execIdlPolicerRefresh : ∀ a0, State.Sound a0 →
    ResHolds (execIdlPolicerRefresh a0) := by
  intro a0 h0
  unfold execIdlPolicerRefresh
  refine next_holds ?_
  exact (sound_idlRefreshAll _ h0)

/-! ### Machine/Issue.lean -/

theorem sound_near : ∀ a0 a1, (∀ z0, State.Sound z0 → State.Sound (a0 z0)) → State.Sound a1 →
    State.Sound (near a0 a1) := by
  intro a0 a1 h0 h1
  unfold near
  refine h0 _ h1

theorem sound_far : ∀ a0 a1 a2, (∀ z0, State.Sound z0 → State.Sound (a1 z0)) → State.Sound a2 →
    State.Sound (far a0 a1 a2) := by
  intro a0 a1 a2 h1 h2
  unfold far
  refine ite_holds (P := State.Sound) ?_ ?_
  · exact h2
  · refine ite_holds (P := State.Sound) ?_ ?_
    · refine h1 _ (sound_idlSend _ _ _ _ _ h2)

    · exact (State.sound_mk h2.regs h2.shadow h2.cnts h2.tot h2.hold h2.pairs (CtlSt.sound_mk h2.ctl.msix
        h2.ctl.intAt h2.ctl.vcs h2.ctl.arbs h2.ctl.pols h2.ctl.accounts) h2.host h2.hlt h2.nvm h2.cls h2.time h2.tbl
        h2.leaf h2.xbar h2.buf h2.tm h2.sky)

theorem sound_logAccess : ∀ a0 a1 a2, State.Sound a2 →
    State.Sound (logAccess a0 a1 a2) := by
  intro a0 a1 a2 h2
  unfold logAccess
  refine ite_holds (P := State.Sound) ?_ ?_
  · refine sound_far _ _ _ ?_ h2
    · intro y0 hy0
      exact (sound_logWrite _ _ _ hy0)
  · exact (sound_logNear _ _ h2)

theorem sound_noteKeeper : ∀ a0 a1, State.Sound a1 →
    State.Sound (noteKeeper a0 a1) := by
  intro a0 a1 h1
  unfold noteKeeper
  exact (ite_holds (P := State.Sound) (State.sound_mk h1.regs h1.shadow h1.cnts h1.tot h1.hold h1.pairs
      (CtlSt.sound_mk h1.ctl.msix h1.ctl.intAt h1.ctl.vcs h1.ctl.arbs h1.ctl.pols h1.ctl.accounts) h1.host h1.hlt
      h1.nvm h1.cls h1.time h1.tbl h1.leaf h1.xbar h1.buf h1.tm h1.sky) h1)

theorem sound_setKey : ∀ a0 a1 a2, State.Sound a2 →
    State.Sound (setKey a0 a1 a2) := by
  intro a0 a1 a2 h2
  unfold setKey
  exact (ite_holds (P := State.Sound) (State.sound_mk h2.regs h2.shadow h2.cnts h2.tot h2.hold h2.pairs
      (CtlSt.sound_mk h2.ctl.msix h2.ctl.intAt h2.ctl.vcs h2.ctl.arbs h2.ctl.pols h2.ctl.accounts) h2.host h2.hlt
      h2.nvm h2.cls h2.time h2.tbl h2.leaf h2.xbar h2.buf h2.tm h2.sky) (State.sound_mk h2.regs h2.shadow h2.cnts
      h2.tot h2.hold h2.pairs (CtlSt.sound_mk h2.ctl.msix h2.ctl.intAt h2.ctl.vcs h2.ctl.arbs h2.ctl.pols
      h2.ctl.accounts) h2.host h2.hlt h2.nvm h2.cls h2.time h2.tbl h2.leaf h2.xbar h2.buf h2.tm h2.sky))

theorem sound_guarded : ∀ a0 a1 a2, (∀ z0, State.Sound z0 → State.Sound (a1 z0)) → State.Sound a2 →
    State.Sound (guarded a0 a1 a2) := by
  intro a0 a1 a2 h1 h2
  unfold guarded
  refine ite_holds (P := State.Sound) ?_ ?_
  · extract_lets +onlyGivenNames -merge x0
    have hx0 : State.Sound x0 := (sound_noteKeeper _ _ (sound_setKey _ _ _ h2))
    clear_value x0
    refine ite_holds (P := State.Sound) ?_ ?_
    · exact (sound_logAccess _ _ _ hx0)
    · refine h1 _ hx0

  · exact (ite_holds (P := State.Sound) h2 (sound_logNear _ _ h2))

end Sys2Proof.Machine
end

