-- ==== Sys2Proof/Laws/SoundHost.lean ====
section
/-!
SUPPORT. A sound state stays sound under the operations of these files of Machine: Rings, Flash, Plane, Control.
-/
namespace Sys2Proof.Machine

/-! ### Machine/Rings.lean -/

theorem sound_setRing : ∀ a0 a1 a2, State.Sound a2 →
    State.Sound (setRing a0 a1 a2) := by
  intro a0 a1 a2 h2
  unfold setRing
  exact (State.sound_mk h2.regs h2.shadow h2.cnts h2.tot h2.hold h2.pairs h2.ctl (HostSt.sound_mk (SMap.sorted_put
      h2.host.rings _ _ _) h2.host.mem h2.host.ext h2.host.txLast) h2.hlt h2.nvm h2.cls h2.time h2.tbl h2.leaf
      h2.xbar h2.buf h2.tm h2.sky)

theorem sound_showHeld : ∀ a0 a1, State.Sound a1 →
    State.Sound (showHeld a0 a1) := by
  intro a0 a1 h1
  unfold showHeld
  exact (ite_holds (P := State.Sound) (sound_State_setFld _ _ _ _ _ h1) h1)

theorem sound_setUnits : ∀ a0 a1 a2, State.Sound a2 →
    State.Sound (setUnits a0 a1 a2) := by
  intro a0 a1 a2 h2
  unfold setUnits
  exact (sound_showHeld _ _ (sound_setRing _ _ _ h2))

theorem sound_finish : ∀ a0 a1 a2 a3, State.Sound a3 →
    State.Sound (finish a0 a1 a2 a3) := by
  intro a0 a1 a2 a3 h3
  unfold finish
  extract_lets +onlyGivenNames -merge x0
  have hx0 : State.Sound x0 := (sound_State_countIf _ _ _ _ _ h3)
  clear_value x0
  extract_lets +onlyGivenNames -merge x1
  exact (ite_holds (P := State.Sound) (sound_State_count _ _ _ _ _ (sound_setUnits _ _ _ hx0)) (sound_setUnits _ _ _
      hx0))

theorem sound_discardHeld : ∀ a0 a1, State.Sound a1 →
    State.Sound (discardHeld a0 a1) := by
  intro a0 a1 h1
  unfold discardHeld
  extract_lets +onlyGivenNames -merge x0
  extract_lets +onlyGivenNames -merge x1
  subst x1
  beta_reduce
  extract_lets +onlyGivenNames -merge x2
  exact (sound_State_count _ _ _ _ _ (sound_setUnits _ _ _ h1))

theorem sound_stopRing : ∀ a0 a1, State.Sound a1 →
    State.Sound (stopRing a0 a1) := by
  intro a0 a1 h1
  unfold stopRing
  extract_lets +onlyGivenNames -merge x0
  have hx0 : State.Sound x0 := (sound_State_setFld _ _ _ _ _ (sound_State_setFld _ _ _ _ _ h1))
  clear_value x0
  exact (sound_setRing _ _ _ hx0)

theorem sound_ringRaise : ∀ a0 a1, State.Sound a1 →
    State.Sound (ringRaise a0 a1) := by
  intro a0 a1 h1
  unfold ringRaise
  exact (ite_holds (P := State.Sound) (sound_raiseVec _ _ (sound_setRing _ _ _ h1)) h1)

theorem sound_entryIrq : ∀ a0 a1, State.Sound a1 →
    State.Sound (entryIrq a0 a1) := by
  intro a0 a1 h1
  unfold entryIrq
  exact (ite_holds (P := State.Sound) (ite_holds (P := State.Sound) (sound_ringRaise _ _ h1) (sound_setRing _ _ _
      h1)) h1)

theorem sound_writeBack : ∀ a0 a1 a2, State.Sound a2 →
    Snd State.Sound (writeBack a0 a1 a2) := by
  intro a0 a1 a2 h2
  unfold writeBack
  split
  · refine snd_holds (P := State.Sound) ?_
    exact h2
  · refine snd_holds (P := State.Sound) ?_
    exact (of_snd (sound_hostWrite _ _ _ h2))

theorem sound_ringWb : ∀ a0 a1, State.Sound a1 →
    Snd State.Sound (ringWb a0 a1) := by
  intro a0 a1 h1
  unfold ringWb
  exact (sound_writeBack _ _ _ h1)

theorem sound_setTail : ∀ a0 a1 a2, State.Sound a2 →
    State.Sound (setTail a0 a1 a2) := by
  intro a0 a1 a2 h2
  unfold setTail
  exact (sound_State_setReg _ _ _ _ _ h2)

theorem sound_stopErr : ∀ a0 a1 a2 a3, State.Sound a3 →
    State.Sound (stopErr a0 a1 a2 a3) := by
  intro a0 a1 a2 a3 h3
  unfold stopErr
  extract_lets +onlyGivenNames -merge x0
  have hx0 : State.Sound x0 := (sound_State_setFld _ _ _ _ _ (sound_State_setFld _ _ _ _ _ (sound_stopRing _ _ h3)))
  clear_value x0
  exact (sound_ringRaise _ _ (sound_fault _ _ _ _ _ hx0))

theorem sound_stopLost : ∀ a0 a1, State.Sound a1 →
    State.Sound (stopLost a0 a1) := by
  intro a0 a1 h1
  unfold stopLost
  extract_lets +onlyGivenNames -merge x0
  have hx0 : State.Sound x0 := (ite_holds (P := State.Sound) (sound_stopErr _ _ _ _ h1) h1)
  clear_value x0
  exact (ite_holds (P := State.Sound) hx0 (sound_discardHeld _ _ hx0))

theorem sound_ringPut : ∀ a0 a1 a2, State.Sound a2 →
    Snd State.Sound (ringPut a0 a1 a2) := by
  intro a0 a1 a2 h2
  unfold ringPut
  extract_lets +onlyGivenNames -merge x0
  split
  · rename_i v1 v2 heq3
    have hv2 : State.Sound v2 := holds_eq (P := (Snd State.Sound)) heq3 (by
        exact (sound_dmaWrite _ _ _ h2))
    refine ite_holds (P := (Snd State.Sound)) ?_ ?_
    · refine snd_holds (P := State.Sound) ?_
      exact (sound_stopLost _ _ hv2)
    · split
      · rename_i v4 v5 heq6
        have hv5 : State.Sound v5 := holds_eq (P := (Snd State.Sound)) heq6 (by
            exact (sound_ringWb _ _ (sound_setTail _ _ _ hv2)))
        refine ite_holds (P := (Snd State.Sound)) ?_ ?_
        · refine snd_holds (P := State.Sound) ?_
          exact (sound_entryIrq _ _ hv5)
        · refine snd_holds (P := State.Sound) ?_
          exact (sound_stopLost _ _ hv5)

theorem sound_notePut : ∀ a0 a1, State.Sound a1 →
    Snd State.Sound (notePut a0 a1) := by
  intro a0 a1 h1
  unfold notePut
  split
  · refine snd_holds (P := State.Sound) ?_
    exact h1
  · extract_lets +onlyGivenNames -merge x4
    refine ite_holds (P := (Snd State.Sound)) ?_ ?_
    · refine snd_holds (P := State.Sound) ?_
      exact h1
    · refine ite_holds (P := (Snd State.Sound)) ?_ ?_
      · refine snd_holds (P := State.Sound) ?_
        exact (sound_stopLost _ _ h1)
      · refine snd_holds (P := State.Sound) ?_
        exact (foldl_holds (P := State.Sound) (fun _ _ hm5 => (ite_holds (P := State.Sound) (sound_raiseVec _ _
            (of_snd (sound_ringPut _ _ _ hm5))) (of_snd (sound_ringPut _ _ _ hm5)))) h1)

theorem sound_notePass : ∀ a0 a1, State.Sound a1 →
    Snd State.Sound (notePass a0 a1) := by
  intro a0 a1 h1
  unfold notePass
  split
  · exact (sound_notePut _ _ h1)
  · split
    · rename_i v3 heq4
      have hv3 : State.Sound v3 := holds_eq (P := (Snd State.Sound)) heq4 (by
          exact (sound_idlPass _ _ _ h1))
      refine snd_holds (P := State.Sound) ?_
      exact hv3
    · rename_i v5 heq6
      have hv5 : State.Sound v5 := holds_eq (P := (Snd State.Sound)) heq6 (by
          exact (sound_idlPass _ _ _ h1))
      exact (sound_notePut _ _ hv5)

theorem sound_toBacklog : ∀ a0 a1, State.Sound a1 →
    State.Sound (toBacklog a0 a1) := by
  intro a0 a1 h1
  unfold toBacklog
  exact (ite_holds (P := State.Sound) (State.sound_mk h1.regs h1.shadow h1.cnts h1.tot h1.hold h1.pairs h1.ctl
      h1.host h1.hlt h1.nvm h1.cls h1.time h1.tbl h1.leaf h1.xbar h1.buf h1.tm h1.sky) (sound_State_count _ _ _ _ _
      h1))

theorem sound_fillBufs : ∀ a0 a1 a2 a3, State.Sound a3 →
    Snd State.Sound (fillBufs a0 a1 a2 a3) := by
  intro l
  induction l with
  | nil => exact fun d st s h => h
  | cons b l ih => exact fun d st s h => ih _ _ _ (sound_dmaWrite _ _ _ h)

theorem sound_setHead : ∀ a0 a1 a2, State.Sound a2 →
    State.Sound (setHead a0 a1 a2) := by
  intro a0 a1 a2 h2
  unfold setHead
  exact (sound_State_setReg _ _ _ _ _ h2)

theorem sound_rxCount : ∀ a0 a1 a2, State.Sound a2 →
    State.Sound (rxCount a0 a1 a2) := by
  intro a0 a1 a2 h2
  unfold rxCount
  extract_lets +onlyGivenNames -merge x0
  extract_lets +onlyGivenNames -merge x1
  extract_lets +onlyGivenNames -merge x2
  subst x2
  beta_reduce
  split
  · extract_lets +onlyGivenNames -merge x6
    have hx6 : State.Sound x6 := (sound_setRing _ _ _ h2)
    clear_value x6
    refine ite_holds (P := State.Sound) ?_ ?_
    · exact hx6
    · split
      · rename_i v7 v8 heq9
        have hv8 : State.Sound v8 := holds_eq (P := (Snd State.Sound)) heq9 (by
            exact (sound_ringWb _ _ (sound_setHead _ _ _ hx6)))
        exact (ite_holds (P := State.Sound) hv8 (sound_stopLost _ _ hv8))

theorem sound_rxPlace : ∀ a0 a1 a2 a3, State.Sound a3 →
    Snd State.Sound (rxPlace a0 a1 a2 a3) := by
  intro a0 a1 a2 a3 h3
  unfold rxPlace
  extract_lets +onlyGivenNames -merge x0
  extract_lets +onlyGivenNames -merge x1
  extract_lets +onlyGivenNames -merge x2
  subst x2
  beta_reduce
  refine ite_holds (P := (Snd State.Sound)) ?_ ?_
  · refine snd_holds (P := State.Sound) ?_
    extract_lets +onlyGivenNames -merge x3
    have hx3 : State.Sound x3 := (sound_State_count _ _ _ _ _ h3)
    clear_value x3
    split
    · exact (sound_State_count _ _ _ _ _ hx3)
    · exact hx3
  · refine ite_holds (P := (Snd State.Sound)) ?_ ?_
    · refine snd_holds (P := State.Sound) ?_
      extract_lets +onlyGivenNames -merge x7
      have hx7 : State.Sound x7 := (sound_State_count _ _ _ _ _ h3)
      clear_value x7
      split
      · exact (sound_State_count _ _ _ _ _ hx7)
      · exact hx7
    · split
      · refine snd_holds (P := State.Sound) ?_
        extract_lets +onlyGivenNames -merge x12
        have hx12 : State.Sound x12 := (sound_State_count _ _ _ _ _ h3)
        clear_value x12
        split
        · exact (sound_State_count _ _ _ _ _ hx12)
        · exact hx12
      · extract_lets +onlyGivenNames -merge x18
        extract_lets +onlyGivenNames -merge x19
        extract_lets +onlyGivenNames -merge x20
        extract_lets +onlyGivenNames -merge x21
        have hx21 : State.Sound x21 := (sound_setRing _ _ _ h3)
        clear_value x21
        extract_lets +onlyGivenNames -merge x22
        have hx22 : State.Sound x22 := (sound_setUnits _ _ _ hx21)
        clear_value x22
        extract_lets +onlyGivenNames -merge x23
        have hx23 : State.Sound x23 := (sound_rxCount _ _ _ hx22)
        clear_value x23
        split
        · rename_i v24 v25 heq26
          have hv25 : State.Sound v25 := holds_eq (P := (Snd State.Sound)) heq26 (by
              exact (sound_fillBufs _ _ _ _ hx23))
          refine snd_holds (P := State.Sound) ?_
          exact (sound_finish _ _ _ _ hv25)

theorem sound_completionWrite : ∀ a0 a1, State.Sound a1 →
    State.Sound (completionWrite a0 a1) := by
  intro a0 a1 h1
  unfold completionWrite
  split
  · exact h1
  · split
    · extract_lets +onlyGivenNames -merge x6
      extract_lets +onlyGivenNames -merge x7
      refine ite_holds (P := State.Sound) ?_ ?_
      · exact h1
      · split
        · rename_i v8 v9 heq10
          have hv9 : State.Sound v9 := holds_eq (P := (Snd State.Sound)) heq10 (by
              exact (sound_dmaWrite _ _ _ h1))
          refine ite_holds (P := State.Sound) ?_ ?_
          · exact (sound_stopLost _ _ hv9)
          · extract_lets +onlyGivenNames -merge x11
            have hx11 : State.Sound x11 := (sound_State_setReg _ _ _ _ _ (sound_setUnits _ _ _ hv9))
            clear_value x11
            extract_lets +onlyGivenNames -merge x12
            have hx12 : State.Sound x12 := (ite_holds (P := State.Sound) (sound_State_count _ _ _ _ _ hx11)
                (sound_State_count _ _ _ _ _ hx11))
            clear_value x12
            split
            · rename_i v13 v14 heq15
              have hv14 : State.Sound v14 := holds_eq (P := (Snd State.Sound)) heq15 (by
                  exact (sound_writeBack _ _ _ hx12))
              exact (ite_holds (P := State.Sound) (sound_entryIrq _ _ hv14) (sound_stopLost _ _ hv14))
    · exact h1

theorem sound_noteFreed : ∀ a0 a1, State.Sound a1 →
    State.Sound (noteFreed a0 a1) := by
  intro a0 a1 h1
  unfold noteFreed
  exact (sound_setRing _ _ _ h1)

theorem sound_refuseDb : ∀ a0 a1 a2 a3 a4, State.Sound a4 →
    State.Sound (refuseDb a0 a1 a2 a3 a4) := by
  intro a0 a1 a2 a3 a4 h4
  unfold refuseDb
  extract_lets +onlyGivenNames -merge x0
  have hx0 : State.Sound x0 := (sound_State_count _ _ _ _ _ h4)
  clear_value x0
  refine ite_holds (P := State.Sound) ?_ ?_
  · exact (sound_stopErr _ _ _ _ hx0)
  · extract_lets +onlyGivenNames -merge x1
    have hx1 : State.Sound x1 := (sound_fault _ _ _ _ _ (sound_State_setFld _ _ _ _ _ (sound_State_setFld _ _ _ _ _
        hx0)))
    clear_value x1
    exact (ite_holds (P := State.Sound) hx1 (sound_ringRaise _ _ hx1))

theorem sound_cplDoorbell : ∀ a0 a1 a2, State.Sound a2 →
    State.Sound (cplDoorbell a0 a1 a2) := by
  intro a0 a1 a2 h2
  unfold cplDoorbell
  exact (ite_holds (P := State.Sound) (sound_refuseDb _ _ _ _ _ h2) (ite_holds (P := State.Sound) (sound_State_setReg
      _ _ _ _ _ (sound_noteFreed _ _ h2)) (sound_refuseDb _ _ _ _ _ h2)))

theorem sound_doorbell : ∀ a0 a1 a2 a3, State.Sound a3 →
    State.Sound (doorbell a0 a1 a2 a3) := by
  intro a0 a1 a2 a3 h3
  unfold doorbell
  extract_lets +onlyGivenNames -merge x0
  exact (ite_holds (P := State.Sound) (ite_holds (P := State.Sound) (sound_logWrite _ _ _ h3) (ite_holds (P :=
      State.Sound) (sound_refuseDb _ _ _ _ _ h3) (ite_holds (P := State.Sound) (sound_refuseDb _ _ _ _ _ h3)
      (ite_holds (P := State.Sound) (sound_refuseDb _ _ _ _ _ h3) (sound_setTail _ _ _ h3))))) (ite_holds (P :=
      State.Sound) (sound_refuseDb _ _ _ _ _ h3) (ite_holds (P := State.Sound) (sound_setHead _ _ _ (sound_noteFreed
      _ _ h3)) (sound_refuseDb _ _ _ _ _ h3))))

theorem sound_ringDisable : ∀ a0 a1, State.Sound a1 →
    State.Sound (ringDisable a0 a1) := by
  intro a0 a1 h1
  unfold ringDisable
  exact (ite_holds (P := State.Sound) (sound_stopRing _ _ h1) h1)

theorem sound_ringEnable : ∀ a0 a1 a2, State.Sound a2 →
    State.Sound (ringEnable a0 a1 a2) := by
  intro a0 a1 a2 h2
  unfold ringEnable
  refine ite_holds (P := State.Sound) ?_ ?_
  · exact (sound_logWrite _ _ _ h2)
  · refine ite_holds (P := State.Sound) ?_ ?_
    · extract_lets +onlyGivenNames -merge x0
      have hx0 : State.Sound x0 := (sound_State_setFld _ _ _ _ _ (sound_State_setReg _ _ _ _ _ h2))
      clear_value x0
      extract_lets +onlyGivenNames -merge x1
      have hx1 : State.Sound x1 := (ite_holds (P := State.Sound) (sound_setTail _ _ _ hx0) hx0)
      clear_value x1
      exact (sound_setRing _ _ _ hx1)
    · exact (sound_State_setFld _ _ _ _ _ h2)

theorem sound_irqCfg : ∀ a0 a1 a2, State.Sound a2 →
    State.Sound (irqCfg a0 a1 a2) := by
  intro a0 a1 a2 h2
  unfold irqCfg
  extract_lets +onlyGivenNames -merge x0
  exact (ite_holds (P := State.Sound) (sound_setRing _ _ _ h2) (ite_holds (P := State.Sound) (sound_setRing _ _ _ h2)
      h2))

theorem sound_winAddr : ∀ a0 a1 a2 a3, State.Sound a3 →
    State.Sound (winAddr a0 a1 a2 a3) := by
  intro a0 a1 a2 a3 h3
  unfold winAddr
  exact (ite_holds (P := State.Sound) (sound_logWrite _ _ _ h3) (sound_State_setReg _ _ _ _ _ h3))

theorem sound_winCfg' : ∀ a0 a1 a2, State.Sound a2 →
    State.Sound (winCfg' a0 a1 a2) := by
  intro a0 a1 a2 h2
  unfold winCfg'
  extract_lets +onlyGivenNames -merge x0
  extract_lets +onlyGivenNames -merge x1
  extract_lets +onlyGivenNames -merge x2
  subst x2
  beta_reduce
  exact (ite_holds (P := State.Sound) (ite_holds (P := State.Sound) (sound_State_setFld _ _ _ _ _ (sound_State_setFld
      _ _ _ _ _ (sound_State_setFld _ _ _ _ _ h2))) (sound_State_setFld _ _ _ _ _ (sound_State_setFld _ _ _ _ _
      (sound_State_setFld _ _ _ _ _ (sound_logWrite _ _ _ h2))))) (ite_holds (P := State.Sound) (sound_logWrite _ _ _
      h2) (sound_State_setFld _ _ _ _ _ (sound_State_setFld _ _ _ _ _ (sound_State_setFld _ _ _ _ _ h2)))))

theorem sound_winWrite : ∀ a0 a1 a2 a3, State.Sound a3 →
    State.Sound (winWrite a0 a1 a2 a3) := by
  intro a0 a1 a2 a3 h3
  unfold winWrite
  exact (ite_holds (P := State.Sound) (sound_winCfg' _ _ _ h3) (sound_winAddr _ _ _ _ h3))

theorem sound_setUnitSt : ∀ a0 a1 a2 a3, State.Sound a3 →
    State.Sound (setUnitSt a0 a1 a2 a3) := by
  intro a0 a1 a2 a3 h3
  unfold setUnitSt
  exact (sound_setUnits _ _ _ h3)

theorem sound_execCompletionWrite : ∀ a0 a1, State.Sound a1 →
    ResHolds (execCompletionWrite a0 a1) := by
  intro a0 a1 h1
  unfold execCompletionWrite
  refine next_holds ?_
  exact (sound_completionWrite _ _ h1)

theorem sound_execCplDoorbell : ∀ a0 a1 a2 a3, State.Sound a3 →
    ResHolds (execCplDoorbell a0 a1 a2 a3) := by
  intro a0 a1 a2 a3 h3
  unfold execCplDoorbell
  refine next_holds ?_
  refine sound_far _ _ _ ?_ h3
  · intro y0 hy0
    exact (sound_cplDoorbell _ _ _ hy0)

theorem sound_execDoorbell : ∀ a0 a1 a2 a3 a4, State.Sound a4 →
    ResHolds (execDoorbell a0 a1 a2 a3 a4) := by
  intro a0 a1 a2 a3 a4 h4
  unfold execDoorbell
  refine next_holds ?_
  refine sound_far _ _ _ ?_ (foldl_holds (P := State.Sound) (fun _ _ hm1 => (sound_softStore _ _ _ _ hm1)) h4)
  · intro y0 hy0
    exact (sound_doorbell _ _ _ _ hy0)

theorem sound_execFaultBacklogDeliver : ∀ a0, State.Sound a0 →
    ResHolds (execFaultBacklogDeliver a0) := by
  intro a0 h0
  unfold execFaultBacklogDeliver
  refine next_holds ?_
  split
  · exact h0
  · refine ite_holds (P := State.Sound) ?_ ?_
    · exact h0
    · split
      · rename_i v4 heq5
        have hv4 : State.Sound v4 := holds_eq (P := (Snd State.Sound)) heq5 (by
            exact (sound_notePut _ _ h0))
        exact (State.sound_mk hv4.regs hv4.shadow hv4.cnts hv4.tot hv4.hold hv4.pairs hv4.ctl (HostSt.sound_mk
            hv4.host.rings hv4.host.mem hv4.host.ext hv4.host.txLast) hv4.hlt hv4.nvm hv4.cls hv4.time hv4.tbl
            hv4.leaf hv4.xbar hv4.buf hv4.tm hv4.sky)
      · rename_i v6 heq7
        have hv6 : State.Sound v6 := holds_eq (P := (Snd State.Sound)) heq7 (by
            exact (sound_notePut _ _ h0))
        exact hv6

theorem sound_toFaultBacklog : ∀ a0 a1, State.Sound a1 →
    State.Sound (toFaultBacklog a0 a1) := by
  intro a0 a1 h1
  unfold toFaultBacklog
  exact (ite_holds (P := State.Sound) (State.sound_mk h1.regs h1.shadow h1.cnts h1.tot h1.hold h1.pairs h1.ctl
      (HostSt.sound_mk h1.host.rings h1.host.mem h1.host.ext h1.host.txLast) h1.hlt h1.nvm h1.cls h1.time h1.tbl
      h1.leaf h1.xbar h1.buf h1.tm h1.sky) (sound_State_count _ _ _ _ _ h1))

theorem sound_wxMiss : ∀ a0 a1, State.Sound a1 →
    State.Sound (wxMiss a0 a1) := by
  intro a0 a1 h1
  unfold wxMiss
  exact (State.sound_mk h1.regs h1.shadow h1.cnts h1.tot h1.hold h1.pairs h1.ctl h1.host h1.hlt h1.nvm h1.cls h1.time
      h1.tbl h1.leaf h1.xbar h1.buf (TmSt.sound_mk h1.tm.queues h1.tm.charge h1.tm.shapers h1.tm.pols h1.tm.was h1.tm.wxLog) h1.sky)

theorem sound_noteMiss : ∀ a0 a1, State.Sound a1 →
    OptHolds State.Sound (noteMiss a0 a1) := by
  intro a0 a1 h1
  unfold noteMiss
  split
  · refine some_holds (P := State.Sound) ?_
    exact h1
  · split
    · refine some_holds (P := State.Sound) ?_
      exact (sound_toFaultBacklog _ _ h1)
    · refine some_holds (P := State.Sound) ?_
      exact (sound_toFaultBacklog _ _ h1)
    · refine some_holds (P := State.Sound) ?_
      exact (foldl_holds (P := State.Sound) (fun _ _ hm7 => (sound_wxMiss _ _ (sound_State_count _ _ _ _ _ hm7))) h1)
    · exact none_holds

theorem sound_noteWent : ∀ a0 a1, State.Sound a1 →
    State.Sound (noteWent a0 a1) := by
  intro a0 a1 h1
  unfold noteWent
  exact (foldl_holds (P := State.Sound) (fun _ _ hm0 => (sound_State_countIf _ _ _ _ _ hm0)) h1)

theorem sound_execHeadlessBacklogDeliver : ∀ a0, State.Sound a0 →
    ResHolds (execHeadlessBacklogDeliver a0) := by
  intro a0 h0
  unfold execHeadlessBacklogDeliver
  refine next_holds ?_
  split
  · exact h0
  · refine ite_holds (P := State.Sound) ?_ ?_
    · exact h0
    · extract_lets +onlyGivenNames -merge x5
      subst x5
      beta_reduce
      extract_lets +onlyGivenNames -merge x6
      refine ite_holds (P := State.Sound) ?_ ?_
      · exact (with_base (P := State.Sound) (sound_toFaultBacklog _ _ h0) (fun hb8 => (State.sound_mk hb8.regs
          hb8.shadow hb8.cnts hb8.tot hb8.hold hb8.pairs hb8.ctl hb8.host hb8.hlt hb8.nvm hb8.cls hb8.time hb8.tbl
          hb8.leaf hb8.xbar hb8.buf hb8.tm hb8.sky)))
      · split
        · rename_i v9 heq10
          have hv9 : State.Sound v9 := holds_eq (P := (Snd State.Sound)) heq10 (by
              exact (sound_notePass _ _ h0))
          exact (with_base (P := State.Sound) (sound_noteWent _ _ hv9) (fun hb11 => (State.sound_mk hb11.regs
              hb11.shadow hb11.cnts hb11.tot hb11.hold hb11.pairs hb11.ctl hb11.host hb11.hlt hb11.nvm hb11.cls
              hb11.time hb11.tbl hb11.leaf hb11.xbar hb11.buf hb11.tm hb11.sky)))
        · rename_i v12 heq13
          have hv12 : State.Sound v12 := holds_eq (P := (Snd State.Sound)) heq13 (by
              exact (sound_notePass _ _ h0))
          split
          · rename_i v14 heq15
            have hv14 : State.Sound v14 := (holds_eq (P := (OptHolds State.Sound)) heq15 (by
                exact sound_noteMiss _ _ hv12)) v14 rfl
            exact (State.sound_mk hv14.regs hv14.shadow hv14.cnts hv14.tot hv14.hold hv14.pairs hv14.ctl hv14.host
                hv14.hlt hv14.nvm hv14.cls hv14.time hv14.tbl hv14.leaf hv14.xbar hv14.buf hv14.tm hv14.sky)
          · exact hv12

theorem sound_execIrqModTimer : ∀ a0 a1, State.Sound a1 →
    ResHolds (execIrqModTimer a0 a1) := by
  intro a0 a1 h1
  unfold execIrqModTimer
  refine next_holds ?_
  split
  · extract_lets +onlyGivenNames -merge x2
    exact (ite_holds (P := State.Sound) (sound_ringRaise _ _ h1) h1)
  · exact h1

theorem sound_noteNext : ∀ a0 a1, State.Sound a1 →
    State.Sound (noteNext a0 a1) := by
  intro a0 a1 h1
  unfold noteNext
  refine ite_holds (P := State.Sound) ?_ ?_
  · exact (sound_toBacklog _ _ h1)
  · extract_lets +onlyGivenNames -merge x0
    refine ite_holds (P := State.Sound) ?_ ?_
    · exact (sound_toFaultBacklog _ _ h1)
    · split
      · rename_i v1 heq2
        have hv1 : State.Sound v1 := holds_eq (P := (Snd State.Sound)) heq2 (by
            exact (sound_notePut _ _ h1))
        exact hv1
      · rename_i v3 heq4
        have hv3 : State.Sound v3 := holds_eq (P := (Snd State.Sound)) heq4 (by
            exact (sound_notePut _ _ h1))
        refine getD_holds (P := State.Sound) ?_ ?_
        · exact sound_noteMiss _ _ hv3
        · exact (sound_toBacklog _ _ hv3)

theorem sound_execRingDisable : ∀ a0 a1 a2, State.Sound a2 →
    ResHolds (execRingDisable a0 a1 a2) := by
  intro a0 a1 a2 h2
  unfold execRingDisable
  refine next_holds ?_
  refine sound_far _ _ _ ?_ h2
  · intro y0 hy0
    exact (sound_ringDisable _ _ hy0)

theorem sound_execRingEnable : ∀ a0 a1 a2, State.Sound a2 →
    ResHolds (execRingEnable a0 a1 a2) := by
  intro a0 a1 a2 h2
  unfold execRingEnable
  refine next_holds ?_
  refine sound_far _ _ _ ?_ h2
  · intro y0 hy0
    exact (sound_ringEnable _ _ _ hy0)

theorem sound_readEntry : ∀ a0 a1 a2, State.Sound a2 →
    Snd State.Sound (readEntry a0 a1 a2) := by
  intro a0 a1 a2 h2
  unfold readEntry
  split
  · refine snd_holds (P := State.Sound) ?_
    exact h2
  · split
    · rename_i v3 v4 heq5
      have hv4 : State.Sound v4 := holds_eq (P := (Snd State.Sound)) heq5 (by
          exact (sound_hostRead _ _ _ h2))
      refine snd_holds (P := State.Sound) ?_
      exact hv4

theorem sound_readRun : ∀ a0 a1 a2 a3 a4 a5, State.Sound a5 →
    Snd (Snd State.Sound) (readRun a0 a1 a2 a3 a4 a5) := by
  intro r tail f
  induction f with
  | zero => exact fun i acc s h => h
  | succ f ih =>
    intro i acc s h
    unfold readRun
    refine ite_holds (P := Snd (Snd State.Sound)) h ?_
    have h1 := sound_readEntry r i s h
    split
    · rename_i heq; rw [heq] at h1; exact h1
    · rename_i heq; rw [heq] at h1; exact ite_holds (P := Snd (Snd State.Sound)) h1 (ih _ _ _ h1)

theorem sound_fetchChains : ∀ a0 a1 a2, State.Sound a2 →
    State.Sound (fetchChains a0 a1 a2) := by
  intro r f
  induction f with
  | zero => exact fun s h => h
  | succ f ih =>
    intro s h
    unfold fetchChains
    extract_lets x
    refine ite_holds h ?_
    have h1 := sound_readRun r (tailOf s r) (ringSize s r) (headOf s r) [] s h
    split
    · rename_i heq; rw [heq] at h1; exact ite_holds h1 (sound_stopLost _ _ h1)
    · rename_i heq; rw [heq] at h1
      extract_lets n
      refine ite_holds h1 ?_
      extract_lets
      split
      rename_i heq
      have h5 := holds_eq (P := Snd State.Sound) heq (sound_ringWb _ _ (sound_setUnits _ _ _ (sound_setRing _ _ _
        (sound_setHead _ _ _ h1))))
      exact ite_holds (ih _ h5) (sound_stopLost _ _ h5)

theorem sound_prefetch : ∀ a0 a1 a2, State.Sound a2 →
    State.Sound (prefetch a0 a1 a2) := by
  intro r f
  induction f with
  | zero => exact fun s h => h
  | succ f ih =>
    intro s h
    unfold prefetch
    extract_lets x
    refine ite_holds h ?_
    have h1 := sound_readEntry r x.preAt s h
    split
    · rename_i heq; rw [heq] at h1; exact sound_stopLost _ _ h1
    · rename_i heq; rw [heq] at h1; exact ih _ (sound_setRing _ _ _ h1)

theorem sound_fetchRx : ∀ a0 a1, State.Sound a1 →
    State.Sound (fetchRx a0 a1) := by
  intro a0 a1 h1
  unfold fetchRx
  extract_lets +onlyGivenNames -merge x0
  extract_lets +onlyGivenNames -merge x1
  have hx1 : State.Sound x1 := (sound_prefetch _ _ _ h1)
  clear_value x1
  refine ite_holds (P := State.Sound) ?_ ?_
  · exact hx1
  · split
    · rename_i v2 v3 heq4
      have hv3 : State.Sound v3 := holds_eq (P := (Snd State.Sound)) heq4 (by
          exact (sound_ringWb _ _ hx1))
      exact (ite_holds (P := State.Sound) hv3 (sound_stopLost _ _ hv3))

theorem sound_execRingFetch : ∀ a0 a1, State.Sound a1 →
    ResHolds (execRingFetch a0 a1) := by
  intro a0 a1 h1
  unfold execRingFetch
  refine next_holds ?_
  exact (ite_holds (P := State.Sound) (ite_holds (P := State.Sound) (sound_fetchRx _ _ h1) (sound_fetchChains _ _ _
      h1)) h1)

theorem sound_ringIdle : ∀ a0 a1, State.Sound a1 →
    State.Sound (ringIdle a0 a1) := by
  intro a0 a1 h1
  unfold ringIdle
  refine ite_holds (P := State.Sound) ?_ ?_
  · extract_lets +onlyGivenNames -merge x0
    have hx0 : State.Sound x0 := (sound_State_setFld _ _ _ _ _ h1)
    clear_value x0
    extract_lets +onlyGivenNames -merge x1
    have hx1 : State.Sound x1 := (ite_holds (P := State.Sound) hx0 (of_snd (sound_ringWb _ _ hx0)))
    clear_value x1
    exact (sound_ringRaise _ _ hx1)
  · exact h1

theorem sound_execRingIdle : ∀ a0 a1, State.Sound a1 →
    ResHolds (execRingIdle a0 a1) := by
  intro a0 a1 h1
  unfold execRingIdle
  refine next_holds ?_
  exact (sound_ringIdle _ _ h1)

theorem sound_rxBufferDescriptor : ∀ a0 a1, State.Sound a1 →
    State.Sound (rxBufferDescriptor a0 a1) := by
  intro a0 a1 h1
  unfold rxBufferDescriptor
  extract_lets +onlyGivenNames -merge x0
  split
  · exact h1
  · extract_lets +onlyGivenNames -merge x5
    refine ite_holds (P := State.Sound) ?_ ?_
    · extract_lets +onlyGivenNames -merge x6
      exact (sound_setRing _ _ _ h1)
    · refine ite_holds (P := State.Sound) ?_ ?_
      · exact h1
      · extract_lets +onlyGivenNames -merge x7
        extract_lets +onlyGivenNames -merge x8
        have hx8 : State.Sound x8 := (sound_setRing _ _ _ h1)
        clear_value x8
        exact (sound_rxCount _ _ _ (sound_setUnits _ _ _ hx8))

theorem sound_execRxBufferDescriptor : ∀ a0 a1, State.Sound a1 →
    ResHolds (execRxBufferDescriptor a0 a1) := by
  intro a0 a1 h1
  unfold execRxBufferDescriptor
  refine next_holds ?_
  exact (sound_rxBufferDescriptor _ _ h1)

theorem sound_execWinCfgWrite : ∀ a0 a1 a2 a3 a4, State.Sound a4 →
    ResHolds (execWinCfgWrite a0 a1 a2 a3 a4) := by
  intro a0 a1 a2 a3 a4 h4
  unfold execWinCfgWrite
  extract_lets +onlyGivenNames -merge x0
  refine next_holds ?_
  refine sound_far _ _ _ ?_ h4
  · intro y1 hy1
    exact (sound_winWrite _ _ _ _ hy1)

/-! ### Machine/Flash.lean -/

theorem sound_flashErase : ∀ a0 a1 a2, State.Sound a2 →
    State.Sound (flashErase a0 a1 a2) := by
  intro a0 a1 a2 h2
  unfold flashErase
  exact (State.sound_mk h2.regs h2.shadow h2.cnts h2.tot h2.hold h2.pairs h2.ctl h2.host h2.hlt (NvmSt.sound_mk
      (SMap.wf_keep h2.nvm.flash _)) h2.cls h2.time h2.tbl h2.leaf h2.xbar h2.buf h2.tm h2.sky)

theorem sound_flashPut : ∀ a0 a1 a2, State.Sound a2 →
    State.Sound (flashPut a0 a1 a2) := by
  intro a0 a1 a2 h2
  unfold flashPut
  exact (State.sound_mk h2.regs h2.shadow h2.cnts h2.tot h2.hold h2.pairs h2.ctl h2.host h2.hlt (NvmSt.sound_mk
      (sound_memPut _ _ _ h2.nvm.flash)) h2.cls h2.time h2.tbl h2.leaf h2.xbar h2.buf h2.tm h2.sky)

theorem sound_nvmSource : ∀ a0 a1 a2, State.Sound a2 →
    Snd State.Sound (nvmSource a0 a1 a2) := by
  intro a0 a1 a2 h2
  unfold nvmSource
  extract_lets +onlyGivenNames -merge x0
  extract_lets +onlyGivenNames -merge x1
  refine snd_holds (P := State.Sound) ?_
  exact (foldl_holds (P := State.Sound) (fun _ _ hm2 => (sound_hostMemError _ _ _ hm2)) (sound_State_fresh _ h2))

theorem sound_nvmCopy : ∀ a0 a1 a2, State.Sound a2 →
    State.Sound (nvmCopy a0 a1 a2) := by
  intro a0 a1 a2 h2
  unfold nvmCopy
  refine ite_holds (P := State.Sound) ?_ ?_
  · exact (of_snd (sound_memWrite _ _ _ (sound_State_fresh _ h2)))
  · extract_lets +onlyGivenNames -merge x0
    have hx0 : State.Sound x0 := (ite_holds (P := State.Sound) (sound_flashErase _ _ _ h2) (ite_holds (P :=
        State.Sound) (sound_flashErase _ _ _ h2) h2))
    clear_value x0
    split
    · exact (sound_flashPut _ _ _ hx0)
    · split
      · rename_i v4 v5 heq6
        have hv5 : State.Sound v5 := holds_eq (P := (Snd State.Sound)) heq6 (by
            exact (sound_nvmSource _ _ _ hx0))
        exact (sound_flashPut _ _ _ hv5)

theorem sound_nvmCut : ∀ a0 a1, State.Sound a1 →
    State.Sound (nvmCut a0 a1) := by
  intro a0 a1 h1
  unfold nvmCut
  exact (sound_nvmCopy _ _ _ (sound_State_fresh _ h1))

theorem sound_setSlot : ∀ a0 a1 a2, State.Sound a2 →
    State.Sound (setSlot a0 a1 a2) := by
  intro a0 a1 a2 h2
  unfold setSlot
  exact (ite_holds (P := State.Sound) (State.sound_mk h2.regs h2.shadow h2.cnts h2.tot h2.hold h2.pairs h2.ctl
      h2.host h2.hlt (NvmSt.sound_mk h2.nvm.flash) h2.cls h2.time h2.tbl h2.leaf h2.xbar h2.buf h2.tm h2.sky)
      (State.sound_mk h2.regs h2.shadow h2.cnts h2.tot h2.hold h2.pairs h2.ctl h2.host h2.hlt (NvmSt.sound_mk
      h2.nvm.flash) h2.cls h2.time h2.tbl h2.leaf h2.xbar h2.buf h2.tm h2.sky))

theorem sound_setCopy : ∀ a0 a1 a2, State.Sound a2 →
    State.Sound (setCopy a0 a1 a2) := by
  intro a0 a1 a2 h2
  unfold setCopy
  exact (ite_holds (P := State.Sound) (State.sound_mk h2.regs h2.shadow h2.cnts h2.tot h2.hold h2.pairs h2.ctl
      h2.host h2.hlt (NvmSt.sound_mk h2.nvm.flash) h2.cls h2.time h2.tbl h2.leaf h2.xbar h2.buf h2.tm h2.sky)
      (State.sound_mk h2.regs h2.shadow h2.cnts h2.tot h2.hold h2.pairs h2.ctl h2.host h2.hlt (NvmSt.sound_mk
      h2.nvm.flash) h2.cls h2.time h2.tbl h2.leaf h2.xbar h2.buf h2.tm h2.sky))

/-! ### Machine/Plane.lean -/

theorem sound_enterHeadless : ∀ a0 a1, State.Sound a1 →
    State.Sound (enterHeadless a0 a1) := by
  intro a0 a1 h1
  unfold enterHeadless
  extract_lets +onlyGivenNames -merge x0
  have hx0 : State.Sound x0 := (sound_State_setFld _ _ _ _ _ (sound_State_setFld _ _ _ _ _ h1))
  clear_value x0
  exact (sound_raiseVec _ _ (State.sound_mk hx0.regs hx0.shadow hx0.cnts hx0.tot hx0.hold hx0.pairs hx0.ctl hx0.host
      hx0.hlt hx0.nvm hx0.cls hx0.time hx0.tbl hx0.leaf hx0.xbar hx0.buf hx0.tm hx0.sky))

theorem sound_quietRings : ∀ a0, State.Sound a0 →
    State.Sound (quietRings a0) := by
  intro a0 h0
  unfold quietRings
  exact (foldl_holds (P := State.Sound) (fun _ _ hm0 => (ite_holds (P := State.Sound) (sound_discardHeld _ _
      (sound_setRing _ _ _ (ite_holds (P := State.Sound) (sound_stopRing _ _ hm0) hm0))) hm0)) h0)

theorem sound_abruptHeadless : ∀ a0 a1, State.Sound a1 →
    State.Sound (abruptHeadless a0 a1) := by
  intro a0 a1 h1
  unfold abruptHeadless
  exact (ite_holds (P := State.Sound) (ite_holds (P := State.Sound) (sound_State_setFld _ _ _ _ _ (sound_quietRings _
      h1)) h1) (sound_enterHeadless _ _ (sound_quietRings _ h1)))

theorem sound_appResetMessage : ∀ a0, State.Sound a0 →
    State.Sound (appResetMessage a0) := by
  intro a0 h0
  unfold appResetMessage
  exact (ite_holds (P := State.Sound) (sound_abruptHeadless _ _ (sound_idlSend _ _ _ _ _ h0)) (State.sound_mk h0.regs
      h0.shadow h0.cnts h0.tot h0.hold h0.pairs (CtlSt.sound_mk h0.ctl.msix h0.ctl.intAt h0.ctl.vcs h0.ctl.arbs
      h0.ctl.pols h0.ctl.accounts) h0.host h0.hlt h0.nvm h0.cls h0.time h0.tbl h0.leaf h0.xbar h0.buf h0.tm h0.sky))

theorem sound_bootLost : ∀ a0, State.Sound a0 →
    State.Sound (bootLost a0) := by
  intro a0 h0
  unfold bootLost
  refine ite_holds (P := State.Sound) ?_ ?_
  · extract_lets +onlyGivenNames -merge x0
    have hx0 : State.Sound x0 := (sound_State_setReg _ _ _ _ _ h0)
    clear_value x0
    exact (State.sound_mk hx0.regs hx0.shadow hx0.cnts hx0.tot hx0.hold hx0.pairs hx0.ctl hx0.host hx0.hlt
        (NvmSt.sound_mk h0.nvm.flash) hx0.cls hx0.time hx0.tbl hx0.leaf hx0.xbar hx0.buf hx0.tm hx0.sky)
  · exact h0

theorem sound_noteReset : ∀ a0 a1 a2 a3, CtlSt.Sound a2 → State.Sound a3 →
    State.Sound (noteReset a0 a1 a2 a3) := by
  intro a0 a1 a2 a3 h2 h3
  unfold noteReset
  extract_lets +onlyGivenNames -merge x0
  have hx0 : State.Sound x0 := (sound_State_setReg _ _ _ _ _ h3)
  clear_value x0
  exact (State.sound_mk hx0.regs hx0.shadow hx0.cnts hx0.tot hx0.hold hx0.pairs (CtlSt.sound_mk hx0.ctl.msix
      hx0.ctl.intAt hx0.ctl.vcs hx0.ctl.arbs hx0.ctl.pols hx0.ctl.accounts) hx0.host hx0.hlt hx0.nvm hx0.cls hx0.time
      hx0.tbl hx0.leaf hx0.xbar hx0.buf hx0.tm hx0.sky)

theorem sound_nvmStop : ∀ a0 a1, State.Sound a1 →
    State.Sound (nvmStop a0 a1) := by
  intro a0 a1 h1
  unfold nvmStop
  split
  · exact h1
  · extract_lets +onlyGivenNames -merge x3
    have hx3 : NvmSt.Sound x3 := h1.nvm
    clear_value x3
    extract_lets +onlyGivenNames -merge x4
    have hx4 : State.Sound x4 := (sound_nvmCut _ _ (State.sound_mk h1.regs h1.shadow h1.cnts h1.tot h1.hold h1.pairs
        h1.ctl h1.host h1.hlt (NvmSt.sound_mk hx3.flash) h1.cls h1.time h1.tbl h1.leaf h1.xbar h1.buf h1.tm h1.sky))
    clear_value x4
    extract_lets +onlyGivenNames -merge x5
    have hx5 : State.Sound x5 := (sound_State_countIf _ _ _ _ _ hx4)
    clear_value x5
    exact (sound_State_setReg _ _ _ _ _ hx5)

theorem sound_appReset : ∀ a0 a1, State.Sound a1 →
    State.Sound (appReset a0 a1) := by
  intro a0 a1 h1
  unfold appReset
  extract_lets +onlyGivenNames -merge x0
  have hx0 : CtlSt.Sound x0 := h1.ctl
  clear_value x0
  extract_lets +onlyGivenNames -merge x1
  have hx1 : State.Sound x1 := (sound_noteReset _ _ _ _ hx0 (sound_nvmStop _ _ (sound_appResetMessage _ h1)))
  clear_value x1
  exact (sound_bootLost _ (State.sound_mk hx1.regs hx1.shadow hx1.cnts hx1.tot hx1.hold hx1.pairs (CtlSt.sound_mk
      hx1.ctl.msix hx1.ctl.intAt hx1.ctl.vcs hx1.ctl.arbs hx1.ctl.pols hx1.ctl.accounts) hx1.host hx1.hlt
      (NvmSt.sound_mk hx1.nvm.flash) hx1.cls hx1.time hx1.tbl hx1.leaf hx1.xbar hx1.buf hx1.tm hx1.sky))

theorem sound_appRequest : ∀ a0 a1, State.Sound a1 →
    State.Sound (appRequest a0 a1) := by
  intro a0 a1 h1
  unfold appRequest
  exact (ite_holds (P := State.Sound) h1 (sound_appReset _ _ h1))

theorem sound_headlessExit : ∀ a0 a1, State.Sound a1 →
    State.Sound (headlessExit a0 a1) := by
  intro a0 a1 h1
  unfold headlessExit
  exact (ite_holds (P := State.Sound) (sound_logWrite _ _ _ h1) (ite_holds (P := State.Sound) (sound_raiseVec _ _
      (sound_State_setFld _ _ _ _ _ h1)) h1))

theorem sound_headlessReq : ∀ a0, State.Sound a0 →
    State.Sound (headlessReq a0) := by
  intro a0 h0
  unfold headlessReq
  refine ite_holds (P := State.Sound) ?_ ?_
  · exact h0
  · extract_lets +onlyGivenNames -merge x0
    have hx0 : State.Sound x0 := (foldl_holds (P := State.Sound) (fun _ _ hm1 => (ite_holds (P := State.Sound)
        (sound_stopRing _ _ hm1) hm1)) h0)
    clear_value x0
    exact (State.sound_mk hx0.regs hx0.shadow hx0.cnts hx0.tot hx0.hold hx0.pairs hx0.ctl hx0.host hx0.hlt hx0.nvm
        hx0.cls hx0.time hx0.tbl hx0.leaf hx0.xbar hx0.buf hx0.tm hx0.sky)

theorem sound_idlFlush : ∀ a0, State.Sound a0 →
    State.Sound (idlFlush a0) := by
  intro a0 h0
  unfold idlFlush
  extract_lets +onlyGivenNames -merge x0
  extract_lets +onlyGivenNames -merge x1
  extract_lets +onlyGivenNames -merge x2
  extract_lets +onlyGivenNames -merge x3
  extract_lets +onlyGivenNames -merge x4
  have hx4 : CtlSt.Sound x4 := h0.ctl
  clear_value x4
  extract_lets +onlyGivenNames -merge x5
  have hx5 : State.Sound x5 := (State.sound_mk h0.regs h0.shadow h0.cnts h0.tot h0.hold h0.pairs (CtlSt.sound_mk
      hx4.msix hx4.intAt hx4.vcs hx4.arbs hx4.pols hx4.accounts) h0.host h0.hlt h0.nvm h0.cls h0.time h0.tbl h0.leaf
      h0.xbar h0.buf h0.tm h0.sky)
  clear_value x5
  extract_lets +onlyGivenNames -merge x6
  have hx6 : State.Sound x6 := (ite_holds (P := State.Sound) (sound_abruptHeadless _ _ (sound_idlSend _ _ _ _ _ hx5))
      hx5)
  clear_value x6
  extract_lets +onlyGivenNames -merge x7
  have hx7 : State.Sound x7 := (foldl_holds (P := State.Sound) (fun _ _ hm8 => (sound_takeInt _ _ (sound_idlSend _ _
      _ _ _ hm8))) (sound_flushDma _ hx6))
  clear_value x7
  extract_lets +onlyGivenNames -merge x9
  have hx9 : State.Sound x9 := (foldl_holds (P := State.Sound) (fun _ _ hm10 => (sound_recordFault _ _ (sound_idlSend
      _ _ _ _ _ hm10))) hx7)
  clear_value x9
  exact (sound_State_count _ _ _ _ _ hx9)

theorem sound_idlUp : ∀ a0, State.Sound a0 →
    State.Sound (idlUp a0) := by
  intro a0 h0
  unfold idlUp
  extract_lets +onlyGivenNames -merge x0
  have hx0 : State.Sound x0 := (sound_State_setFld _ _ _ _ _ (sound_State_setReg _ _ _ _ _ h0))
  clear_value x0
  exact (State.sound_mk hx0.regs hx0.shadow hx0.cnts hx0.tot hx0.hold hx0.pairs (CtlSt.sound_mk hx0.ctl.msix
      hx0.ctl.intAt (SMap.sorted_map hx0.ctl.vcs _ (fun _ => rfl)) hx0.ctl.arbs hx0.ctl.pols hx0.ctl.accounts)
      hx0.host hx0.hlt hx0.nvm hx0.cls hx0.time hx0.tbl hx0.leaf hx0.xbar hx0.buf hx0.tm hx0.sky)

theorem sound_execAppResetMessage : ∀ a0, State.Sound a0 →
    ResHolds (execAppResetMessage a0) := by
  intro a0 h0
  unfold execAppResetMessage
  refine next_holds ?_
  exact (sound_appResetMessage _ h0)

theorem sound_execHeadlessEntryComplete : ∀ a0, State.Sound a0 →
    ResHolds (execHeadlessEntryComplete a0) := by
  intro a0 h0
  unfold execHeadlessEntryComplete
  refine next_holds ?_
  exact (ite_holds (P := State.Sound) (sound_enterHeadless _ _ h0) h0)

theorem sound_execHeadlessExit : ∀ a0 a1, State.Sound a1 →
    ResHolds (execHeadlessExit a0 a1) := by
  intro a0 a1 h1
  unfold execHeadlessExit
  refine next_holds ?_
  refine sound_far _ _ _ ?_ h1
  · intro y0 hy0
    exact (sound_headlessExit _ _ hy0)

theorem sound_execHeadlessReq : ∀ a0 a1, State.Sound a1 →
    ResHolds (execHeadlessReq a0 a1) := by
  intro a0 a1 h1
  unfold execHeadlessReq
  refine next_holds ?_
  refine sound_far _ _ _ ?_ h1
  · intro y0 hy0
    exact (sound_headlessReq _ hy0)

theorem sound_idlDown : ∀ a0, State.Sound a0 →
    State.Sound (idlDown a0) := by
  intro a0 h0
  unfold idlDown
  refine ite_holds (P := State.Sound) ?_ ?_
  · extract_lets +onlyGivenNames -merge x0
    have hx0 : State.Sound x0 := (sound_State_setFld _ _ _ _ _ (sound_State_setReg _ _ _ _ _ h0))
    clear_value x0
    exact (State.sound_mk hx0.regs hx0.shadow hx0.cnts hx0.tot hx0.hold hx0.pairs (CtlSt.sound_mk hx0.ctl.msix
        hx0.ctl.intAt hx0.ctl.vcs hx0.ctl.arbs hx0.ctl.pols hx0.ctl.accounts) hx0.host hx0.hlt hx0.nvm hx0.cls
        hx0.time hx0.tbl hx0.leaf hx0.xbar hx0.buf hx0.tm hx0.sky)
  · exact h0

theorem sound_execIdlFlitReplay : ∀ a0, State.Sound a0 →
    ResHolds (execIdlFlitReplay a0) := by
  intro a0 h0
  unfold execIdlFlitReplay
  refine next_holds ?_
  refine ite_holds (P := State.Sound) ?_ ?_
  · extract_lets +onlyGivenNames -merge x0
    have hx0 : State.Sound x0 := (of_fst (sound_winEvent _ _ _ (sound_State_count _ _ _ _ _ h0)))
    clear_value x0
    extract_lets +onlyGivenNames -merge x1
    exact (ite_holds (P := State.Sound) (sound_idlDown _ (sound_raiseNear _ _ (sound_State_count _ _ _ _ _
        (State.sound_mk hx0.regs hx0.shadow hx0.cnts hx0.tot hx0.hold hx0.pairs (CtlSt.sound_mk hx0.ctl.msix
        hx0.ctl.intAt hx0.ctl.vcs hx0.ctl.arbs hx0.ctl.pols hx0.ctl.accounts) hx0.host hx0.hlt hx0.nvm hx0.cls
        hx0.time hx0.tbl hx0.leaf hx0.xbar hx0.buf hx0.tm hx0.sky)))) (State.sound_mk hx0.regs hx0.shadow hx0.cnts
        hx0.tot hx0.hold hx0.pairs (CtlSt.sound_mk hx0.ctl.msix hx0.ctl.intAt hx0.ctl.vcs hx0.ctl.arbs hx0.ctl.pols
        hx0.ctl.accounts) hx0.host hx0.hlt hx0.nvm hx0.cls hx0.time hx0.tbl hx0.leaf hx0.xbar hx0.buf hx0.tm hx0.sky))
  · exact h0

theorem sound_execIdlLossTimeout : ∀ a0, State.Sound a0 →
    ResHolds (execIdlLossTimeout a0) := by
  intro a0 h0
  unfold execIdlLossTimeout
  refine next_holds ?_
  split
  · exact (ite_holds (P := State.Sound) (sound_abruptHeadless _ _ h0) h0)
  · exact h0

theorem sound_execIdlTrainingLoss : ∀ a0, State.Sound a0 →
    ResHolds (execIdlTrainingLoss a0) := by
  intro a0 h0
  unfold execIdlTrainingLoss
  refine next_holds ?_
  exact (sound_idlDown _ h0)

/-! ### Machine/Control.lean -/

theorem sound_writeLog : ∀ a0, State.Sound a0 →
    State.Sound (writeLog a0) := by
  intro a0 h0
  unfold writeLog
  split
  · exact h0
  · extract_lets +onlyGivenNames -merge x4
    exact (State.sound_mk h0.regs h0.shadow h0.cnts h0.tot h0.hold h0.pairs h0.ctl h0.host (HltSt.sound_mk
        h0.hlt.wins h0.hlt.winCfg h0.hlt.bktAt h0.hlt.led h0.hlt.offs h0.hlt.diffs (SMap.sorted_insert h0.hlt.flog _
        _)) h0.nvm h0.cls h0.time h0.tbl h0.leaf h0.xbar h0.buf h0.tm h0.sky)

theorem sound_mboxAnswer : ∀ a0 a1 a2 a3, State.Sound a3 →
    State.Sound (mboxAnswer a0 a1 a2 a3) := by
  intro a0 a1 a2 a3 h3
  unfold mboxAnswer
  extract_lets +onlyGivenNames -merge x0
  have hx0 : State.Sound x0 := (foldl_holds (P := State.Sound) (fun _ _ hm1 => (sound_State_setReg _ _ _ _ _ hm1)) h3)
  clear_value x0
  extract_lets +onlyGivenNames -merge x2
  have hx2 : State.Sound x2 := (sound_State_setFld _ _ _ _ _ (sound_State_setFld _ _ _ _ _ hx0))
  clear_value x2
  extract_lets +onlyGivenNames -merge x3
  have hx3 : CtlSt.Sound x3 := hx2.ctl
  clear_value x3
  extract_lets +onlyGivenNames -merge x4
  have hx4 : State.Sound x4 := (State.sound_mk hx2.regs hx2.shadow hx2.cnts hx2.tot hx2.hold hx2.pairs
      (CtlSt.sound_mk hx3.msix hx3.intAt hx3.vcs hx3.arbs hx3.pols hx3.accounts) hx2.host hx2.hlt hx2.nvm hx2.cls
      hx2.time hx2.tbl hx2.leaf hx2.xbar hx2.buf hx2.tm hx2.sky)
  clear_value x4
  exact (sound_raiseNear _ _ (sound_State_count _ _ _ _ _ hx4))

theorem sound_mboxServe : ∀ a0 a1 a2 a3, (∀ z0, State.Sound z0 → State.Sound (a2 z0)) → State.Sound a3 →
    State.Sound (mboxServe a0 a1 a2 a3) := by
  intro a0 a1 a2 a3 h2 h3
  unfold mboxServe
  refine ite_holds (P := State.Sound) ?_ ?_
  · refine ite_holds (P := State.Sound) ?_ ?_
    · exact (sound_mboxAnswer _ _ _ _ h3)
    · refine h2 _ h3

  · exact h3

theorem sound_ringOwner : ∀ a0 a1, State.Sound a1 →
    State.Sound (ringOwner a0 a1) := by
  intro a0 a1 h1
  unfold ringOwner
  exact (ite_holds (P := State.Sound) (sound_State_setFld _ _ _ _ _ h1) (sound_logNear _ _ h1))

theorem sound_execFaultLogWrite : ∀ a0 a1, State.Sound a1 →
    ResHolds (execFaultLogWrite a0 a1) := by
  intro a0 a1 h1
  unfold execFaultLogWrite
  refine next_holds ?_
  exact (ite_holds (P := State.Sound) h1 (ite_holds (P := State.Sound) (sound_writeLog _ h1) (sound_State_count _ _ _
      _ _ h1)))

theorem sound_intStays : ∀ a0 a1, State.Sound a1 →
    State.Sound (intStays a0 a1) := by
  intro a0 a1 h1
  unfold intStays
  split
  · exact (sound_newInt _ _ (sound_noteInt _ _ _ (sound_State_uncount _ _ _ _ h1)))
  · exact h1

theorem sound_intClear : ∀ a0 a1 a2, State.Sound a2 →
    State.Sound (intClear a0 a1 a2) := by
  intro a0 a1 a2 h2
  unfold intClear
  extract_lets +onlyGivenNames -merge x0
  extract_lets +onlyGivenNames -merge x1
  extract_lets +onlyGivenNames -merge x2
  have hx2 : State.Sound x2 := (foldl_holds (P := State.Sound) (fun _ _ hm3 => (sound_intStays _ _ hm3)) h2)
  clear_value x2
  exact (sound_State_setReg _ _ _ _ _ hx2)

theorem sound_execIntPendClear : ∀ a0 a1 a2 a3, State.Sound a3 →
    ResHolds (execIntPendClear a0 a1 a2 a3) := by
  intro a0 a1 a2 a3 h3
  unfold execIntPendClear
  refine next_holds ?_
  refine sound_near _ _ ?_ h3
  · intro y0 hy0
    exact (sound_intClear _ _ _ hy0)

theorem sound_mboxRestart : ∀ a0 a1, State.Sound a1 →
    State.Sound (mboxRestart a0 a1) := by
  intro a0 a1 h1
  unfold mboxRestart
  exact (ite_holds (P := State.Sound) (sound_mboxAnswer _ _ _ _ h1) h1)

theorem sound_execKeeperRestart : ∀ a0, State.Sound a0 →
    ResHolds (execKeeperRestart a0) := by
  intro a0 h0
  unfold execKeeperRestart
  refine next_holds ?_
  refine ite_holds (P := State.Sound) ?_ ?_
  · extract_lets +onlyGivenNames -merge x0
    extract_lets +onlyGivenNames -merge x1
    have hx1 : State.Sound x1 := (sound_keeperEvent _ _ _ _ (sound_State_count _ _ _ _ _ h0))
    clear_value x1
    extract_lets +onlyGivenNames -merge x2
    have hx2 : State.Sound x2 := (sound_mboxRestart _ _ (sound_mboxRestart _ _ hx1))
    clear_value x2
    extract_lets +onlyGivenNames -merge x3
    have hx3 : State.Sound x3 := (sound_State_setFld _ _ _ _ _ hx2)
    clear_value x3
    exact (State.sound_mk hx3.regs hx3.shadow hx3.cnts hx3.tot hx3.hold hx3.pairs (CtlSt.sound_mk hx3.ctl.msix
        hx3.ctl.intAt hx3.ctl.vcs hx3.ctl.arbs hx3.ctl.pols hx3.ctl.accounts) hx3.host hx3.hlt (NvmSt.sound_mk
        hx3.nvm.flash) hx3.cls hx3.time hx3.tbl hx3.leaf hx3.xbar hx3.buf hx3.tm hx3.sky)
  · exact h0

theorem sound_execMboxAppReset : ∀ a0 a1, State.Sound a1 →
    ResHolds (execMboxAppReset a0 a1) := by
  intro a0 a1 h1
  unfold execMboxAppReset
  refine next_holds ?_
  refine sound_mboxServe _ _ _ _ ?_ h1
  · intro y0 hy0
    exact (ite_holds (P := State.Sound) (sound_mboxAnswer _ _ _ _ hy0) (ite_holds (P := State.Sound)
        (sound_mboxAnswer _ _ _ _ hy0) (sound_appRequest _ _ (sound_mboxAnswer _ _ _ _ hy0))))

theorem sound_execMboxCommitShedOrder : ∀ a0 a1 a2, State.Sound a2 →
    ResHolds (execMboxCommitShedOrder a0 a1 a2) := by
  intro a0 a1 a2 h2
  unfold execMboxCommitShedOrder
  refine next_holds ?_
  refine sound_mboxServe _ _ _ _ ?_ h2
  · intro y0 hy0
    extract_lets +onlyGivenNames -merge x1
    refine ite_holds (P := State.Sound) ?_ ?_
    · exact (sound_mboxAnswer _ _ _ _ hy0)
    · refine ite_holds (P := State.Sound) ?_ ?_
      · exact (sound_mboxAnswer _ _ _ _ (sound_State_count _ _ _ _ _ hy0))
      · extract_lets +onlyGivenNames -merge x2
        extract_lets +onlyGivenNames -merge x3
        have hx3 : State.Sound x3 := (State.sound_mk hy0.regs hy0.shadow hy0.cnts hy0.tot hy0.hold hy0.pairs hy0.ctl
            hy0.host hy0.hlt hy0.nvm hy0.cls hy0.time hy0.tbl hy0.leaf hy0.xbar hy0.buf hy0.tm hy0.sky)
        clear_value x3
        extract_lets +onlyGivenNames -merge x4
        have hx4 : State.Sound x4 := (foldl_holds (P := State.Sound) (fun _ _ hm5 => (sound_State_setReg _ _ _ _ _
            hm5)) hx3)
        clear_value x4
        exact (sound_mboxAnswer _ _ _ _ hx4)

theorem sound_execMboxReadLog : ∀ a0 a1, State.Sound a1 →
    ResHolds (execMboxReadLog a0 a1) := by
  intro a0 a1 h1
  unfold execMboxReadLog
  refine next_holds ?_
  refine sound_mboxServe _ _ _ _ ?_ h1
  · intro y0 hy0
    extract_lets +onlyGivenNames -merge x1
    refine ite_holds (P := State.Sound) ?_ ?_
    · exact (sound_mboxAnswer _ _ _ _ hy0)
    · split
      · exact (sound_mboxAnswer _ _ _ _ hy0)
      · extract_lets +onlyGivenNames -merge x5
        exact (sound_mboxAnswer _ _ _ _ hy0)

theorem sound_execMboxReadShedOrder : ∀ a0 a1, State.Sound a1 →
    ResHolds (execMboxReadShedOrder a0 a1) := by
  intro a0 a1 h1
  unfold execMboxReadShedOrder
  refine next_holds ?_
  refine sound_mboxServe _ _ _ _ ?_ h1
  · intro y0 hy0
    exact (sound_mboxAnswer _ _ _ _ hy0)

theorem sound_execMboxSetFirstAdmin : ∀ a0 a1, State.Sound a1 →
    ResHolds (execMboxSetFirstAdmin a0 a1) := by
  intro a0 a1 h1
  unfold execMboxSetFirstAdmin
  refine next_holds ?_
  refine sound_mboxServe _ _ _ _ ?_ h1
  · intro y0 hy0
    extract_lets +onlyGivenNames -merge x1
    exact (sound_mboxAnswer _ _ _ _ (State.sound_mk hy0.regs hy0.shadow hy0.cnts hy0.tot hy0.hold hy0.pairs
        (CtlSt.sound_mk hy0.ctl.msix hy0.ctl.intAt hy0.ctl.vcs hy0.ctl.arbs hy0.ctl.pols (SMap.sorted_insert
        hy0.ctl.accounts _ _)) hy0.host hy0.hlt hy0.nvm hy0.cls hy0.time hy0.tbl hy0.leaf hy0.xbar hy0.buf hy0.tm
        hy0.sky))

theorem sound_execMboxStatus : ∀ a0 a1 a2, State.Sound a2 →
    ResHolds (execMboxStatus a0 a1 a2) := by
  intro a0 a1 a2 h2
  unfold execMboxStatus
  refine next_holds ?_
  refine sound_mboxServe _ _ _ _ ?_ h2
  · intro y0 hy0
    exact (sound_mboxAnswer _ _ _ _ hy0)

theorem sound_flushMsix : ∀ a0, State.Sound a0 →
    State.Sound (flushMsix a0) := by
  intro a0 h0
  unfold flushMsix
  extract_lets +onlyGivenNames -merge x0
  exact (foldl_holds (P := State.Sound) (fun _ _ hm1 => (sound_sendMsix _ _ hm1)) (State.sound_mk h0.regs h0.shadow
      h0.cnts h0.tot h0.hold h0.pairs (CtlSt.sound_mk h0.ctl.msix h0.ctl.intAt h0.ctl.vcs h0.ctl.arbs h0.ctl.pols
      h0.ctl.accounts) h0.host h0.hlt h0.nvm h0.cls h0.time h0.tbl h0.leaf h0.xbar h0.buf h0.tm h0.sky))

theorem sound_execMsixEntryUnmask : ∀ a0 a1, State.Sound a1 →
    ResHolds (execMsixEntryUnmask a0 a1) := by
  intro a0 a1 h1
  unfold execMsixEntryUnmask
  refine next_holds ?_
  exact (sound_flushMsix _ (State.sound_mk h1.regs h1.shadow h1.cnts h1.tot h1.hold h1.pairs (CtlSt.sound_mk
      (SMap.sorted_put h1.ctl.msix _ _ _) h1.ctl.intAt h1.ctl.vcs h1.ctl.arbs h1.ctl.pols h1.ctl.accounts) h1.host
      h1.hlt h1.nvm h1.cls h1.time h1.tbl h1.leaf h1.xbar h1.buf h1.tm h1.sky))

theorem sound_execPcieLinkDown : ∀ a0, State.Sound a0 →
    ResHolds (execPcieLinkDown a0) := by
  intro a0 h0
  unfold execPcieLinkDown
  refine next_holds ?_
  refine ite_holds (P := State.Sound) ?_ ?_
  · extract_lets +onlyGivenNames -merge x0
    have hx0 : State.Sound x0 := (sound_State_setReg _ _ _ _ _ h0)
    clear_value x0
    refine ite_holds (P := State.Sound) ?_ ?_
    · extract_lets +onlyGivenNames -merge x1
      have hx1 : State.Sound x1 := (foldl_holds (P := State.Sound) (fun _ _ hm2 => (ite_holds (P := State.Sound)
          (sound_stopRing _ _ hm2) hm2)) hx0)
      clear_value x1
      exact (sound_fault _ _ _ _ _ (sound_raiseNear _ _ (sound_State_count _ _ _ _ _ hx1)))
    · exact (sound_raiseNear _ _ hx0)
  · exact h0

theorem sound_execPcieLinkUp : ∀ a0 a1 a2, State.Sound a2 →
    ResHolds (execPcieLinkUp a0 a1 a2) := by
  intro a0 a1 a2 h2
  unfold execPcieLinkUp
  refine next_holds ?_
  extract_lets +onlyGivenNames -merge x0
  extract_lets +onlyGivenNames -merge x1
  have hx1 : State.Sound x1 := (sound_State_setReg _ _ _ _ _ h2)
  clear_value x1
  exact (sound_flushMsix _ (ite_holds (P := State.Sound) hx1 (sound_raiseNear _ _ hx1)))

theorem sound_redfish : ∀ a0 a1 a2, (∀ z0, State.Sound z0 → State.Sound (a1 z0)) → State.Sound a2 →
    State.Sound (redfish a0 a1 a2) := by
  intro a0 a1 a2 h1 h2
  unfold redfish
  refine ite_holds (P := State.Sound) ?_ ?_
  · extract_lets +onlyGivenNames -merge x0
    have hx0 : State.Sound x0 := (sound_State_count _ _ _ _ _ h2)
    clear_value x0
    refine ite_holds (P := State.Sound) ?_ ?_
    · refine h1 _ hx0

    · exact (sound_State_emit _ _ (sound_State_count _ _ _ _ _ hx0))
  · exact h2

theorem sound_execRedfishGracefulRestart : ∀ a0 a1, State.Sound a1 →
    ResHolds (execRedfishGracefulRestart a0 a1) := by
  intro a0 a1 h1
  unfold execRedfishGracefulRestart
  refine next_holds ?_
  refine sound_redfish _ _ _ ?_ h1
  · intro y0 hy0
    exact (ite_holds (P := State.Sound) (sound_State_emit _ _ hy0) (sound_appRequest _ _ (sound_State_emit _ _ hy0)))

theorem sound_redfishOp : ∀ a0 a1, State.Sound a1 →
    State.Sound (redfishOp a0 a1) := by
  intro a0 a1 h1
  unfold redfishOp
  split
  · exact (ite_holds (P := State.Sound) (sound_State_emit _ _ (State.sound_mk h1.regs h1.shadow h1.cnts h1.tot
      h1.hold h1.pairs (CtlSt.sound_mk h1.ctl.msix h1.ctl.intAt h1.ctl.vcs h1.ctl.arbs h1.ctl.pols h1.ctl.accounts)
      h1.host h1.hlt h1.nvm h1.cls h1.time h1.tbl h1.leaf h1.xbar h1.buf h1.tm h1.sky)) (sound_State_emit _ _ h1))
  · exact (sound_State_emit _ _ (State.sound_mk h1.regs h1.shadow h1.cnts h1.tot h1.hold h1.pairs (CtlSt.sound_mk
      h1.ctl.msix h1.ctl.intAt h1.ctl.vcs h1.ctl.arbs h1.ctl.pols h1.ctl.accounts) h1.host h1.hlt h1.nvm h1.cls
      h1.time h1.tbl h1.leaf h1.xbar h1.buf h1.tm h1.sky))
  · exact (sound_State_emit _ _ h1)
  · exact (sound_State_emit _ _ h1)
  · split
    · exact (sound_State_emit _ _ h1)
    · exact (sound_State_emit _ _ h1)
  · exact (sound_State_emit _ _ (State.sound_mk h1.regs h1.shadow h1.cnts h1.tot h1.hold h1.pairs (CtlSt.sound_mk
      h1.ctl.msix h1.ctl.intAt h1.ctl.vcs h1.ctl.arbs h1.ctl.pols (SMap.sorted_insert h1.ctl.accounts _ _)) h1.host
      h1.hlt h1.nvm h1.cls h1.time h1.tbl h1.leaf h1.xbar h1.buf h1.tm h1.sky))
  · exact (sound_State_emit _ _ (State.sound_mk h1.regs h1.shadow h1.cnts h1.tot h1.hold h1.pairs (CtlSt.sound_mk
      h1.ctl.msix h1.ctl.intAt h1.ctl.vcs h1.ctl.arbs h1.ctl.pols h1.ctl.accounts) h1.host h1.hlt h1.nvm h1.cls
      h1.time h1.tbl h1.leaf h1.xbar h1.buf h1.tm h1.sky))
  · exact (sound_State_emit _ _ h1)
  · exact (sound_State_emit _ _ h1)
  · exact (sound_State_emit _ _ h1)

theorem sound_execRedfishRequest : ∀ a0 a1 a2, State.Sound a2 →
    ResHolds (execRedfishRequest a0 a1 a2) := by
  intro a0 a1 a2 h2
  unfold execRedfishRequest
  refine next_holds ?_
  refine sound_redfish _ _ _ ?_ h2
  · intro y0 hy0
    exact (sound_redfishOp _ _ hy0)

theorem sound_execRingOwnerWrite : ∀ a0 a1 a2, State.Sound a2 →
    ResHolds (execRingOwnerWrite a0 a1 a2) := by
  intro a0 a1 a2 h2
  unfold execRingOwnerWrite
  extract_lets +onlyGivenNames -merge x0
  refine next_holds ?_
  refine sound_guarded _ _ _ ?_ h2
  · intro y1 hy1
    exact (sound_ringOwner _ _ hy1)

theorem sound_serveUnknown : ∀ a0, State.Sound a0 →
    State.Sound (serveUnknown a0) := by
  intro a0 h0
  unfold serveUnknown
  refine foldl_holds (P := State.Sound) (fun b1 a2 hb1 => ?_) ?_
  · extract_lets +onlyGivenNames -merge x3
    refine ite_holds (P := State.Sound) ?_ ?_
    · refine sound_mboxServe _ _ _ _ ?_ hb1
      · intro y4 hy4
        exact (sound_mboxAnswer _ _ _ _ hy4)
    · exact hb1
  · exact h0

end Sys2Proof.Machine
end

