-- ==== Sys2Proof/Laws/SoundLeaf.lean ====
section
/-!
SUPPORT. A sound state stays sound under the operations of these files of Machine: Tiles, Line, Shaper, Leaf, Cut, Mirror, Ingress, Receive.
-/
namespace Sys2Proof.Machine

/-! ### Machine/Tiles.lean -/

theorem sound_setPort : ∀ a0 a1 a2, State.Sound a2 →
    State.Sound (setPort a0 a1 a2) := by
  intro a0 a1 a2 h2
  unfold setPort
  exact (State.sound_mk h2.regs h2.shadow h2.cnts h2.tot h2.hold h2.pairs h2.ctl h2.host h2.hlt h2.nvm h2.cls h2.time
      h2.tbl (LeafSt.sound_mk (SMap.sorted_put h2.leaf.ports _ _ _) h2.leaf.lanes h2.leaf.samples h2.leaf.copies
      h2.leaf.looks h2.leaf.inLooks) h2.xbar h2.buf h2.tm h2.sky)

theorem sound_pauseSync : ∀ a0 a1 a2, State.Sound a2 →
    State.Sound (pauseSync a0 a1 a2) := by
  intro a0 a1 a2 h2
  unfold pauseSync
  extract_lets +onlyGivenNames -merge x0
  extract_lets +onlyGivenNames -merge x1
  extract_lets +onlyGivenNames -merge x2
  extract_lets +onlyGivenNames -merge x3
  extract_lets +onlyGivenNames -merge x4
  extract_lets +onlyGivenNames -merge x5
  exact (ite_holds (P := State.Sound) h2 (sound_setPort _ _ _ h2))

theorem sound_dischargeCells : ∀ a0 a1 a2, State.Sound a2 →
    State.Sound (dischargeCells a0 a1 a2) := by
  intro a0 a1 a2 h2
  unfold dischargeCells
  exact (sound_pauseSync _ _ _ (State.sound_mk h2.regs h2.shadow h2.cnts h2.tot h2.hold h2.pairs h2.ctl h2.host
      h2.hlt h2.nvm h2.cls h2.time h2.tbl h2.leaf h2.xbar h2.buf (TmSt.sound_mk h2.tm.queues (SMap.sorted_upd
      h2.tm.charge _ _ _) h2.tm.shapers h2.tm.pols h2.tm.was h2.tm.wxLog) h2.sky))

theorem sound_regAdd : ∀ a0 a1 a2 a3, State.Sound a3 →
    State.Sound (regAdd a0 a1 a2 a3) := by
  intro a0 a1 a2 a3 h3
  unfold regAdd
  exact (sound_State_setReg _ _ _ _ _ h3)

theorem sound_relayOut : ∀ a0 a1 a2, State.Sound a2 →
    State.Sound (relayOut a0 a1 a2) := by
  intro a0 a1 a2 h2
  unfold relayOut
  exact (sound_regAdd _ _ _ _ h2)

theorem sound_cellGone : ∀ a0 a1, State.Sound a1 →
    State.Sound (cellGone a0 a1) := by
  intro a0 a1 h1
  unfold cellGone
  extract_lets +onlyGivenNames -merge x0
  have hx0 : State.Sound x0 := by
    subst x0
    split
    · exact (sound_dischargeCells _ _ _ h1)
    · exact h1
  clear_value x0
  exact (ite_holds (P := State.Sound) (sound_relayOut _ _ _ hx0) hx0)

theorem sound_noteFree : ∀ a0 a1 a2, State.Sound a2 →
    State.Sound (noteFree a0 a1 a2) := by
  intro a0 a1 a2 h2
  unfold noteFree
  extract_lets +onlyGivenNames -merge x0
  exact (State.sound_mk h2.regs h2.shadow h2.cnts h2.tot h2.hold h2.pairs h2.ctl h2.host h2.hlt h2.nvm h2.cls h2.time
      h2.tbl h2.leaf h2.xbar (BufSt.sound_mk h2.buf.tiles (SMap.sorted_insert h2.buf.freeAt _ _) h2.buf.taken
      h2.buf.metas) h2.tm h2.sky)

theorem sound_setTile : ∀ a0 a1 a2 a3, State.Sound a3 →
    State.Sound (setTile a0 a1 a2 a3) := by
  intro p t x s h
  unfold setTile
  refine State.sound_mk h.regs h.shadow h.cnts h.tot h.hold h.pairs h.ctl h.host h.hlt h.nvm h.cls h.time h.tbl h.leaf
    h.xbar (BufSt.sound_mk ?_ h.buf.freeAt h.buf.taken h.buf.metas) h.tm h.sky
  split
  · exact SMap.sorted_insert h.buf.tiles _ _
  · exact SMap.sorted_erase h.buf.tiles _

theorem sound_freeTile : ∀ a0 a1 a2, State.Sound a2 →
    State.Sound (freeTile a0 a1 a2) := by
  intro a0 a1 a2 h2
  unfold freeTile
  split
  · exact (ite_holds (P := State.Sound) (sound_fault _ _ _ _ _ (sound_State_count _ _ _ _ _ h2)) (sound_State_count _
      _ _ _ _ (sound_regAdd _ _ _ _ (sound_regAdd _ _ _ _ (sound_noteFree _ _ _ (sound_setTile _ _ _ _ h2))))))
  · exact (sound_fault _ _ _ _ _ (sound_State_count _ _ _ _ _ h2))

theorem sound_dropCell : ∀ a0 a1 a2, State.Sound a2 →
    State.Sound (dropCell a0 a1 a2) := by
  intro a0 a1 a2 h2
  unfold dropCell
  exact (sound_cellGone _ _ (sound_freeTile _ _ _ h2))

theorem sound_unreserve : ∀ a0 a1, State.Sound a1 →
    State.Sound (unreserve a0 a1) := by
  intro a0 a1 h1
  unfold unreserve
  exact (ite_holds (P := State.Sound) h1 (sound_regAdd _ _ _ _ h1))

theorem sound_releaseUnit : ∀ a0 a1, State.Sound a1 →
    State.Sound (releaseUnit a0 a1) := by
  intro a0 a1 h1
  unfold releaseUnit
  extract_lets +onlyGivenNames -merge x0
  have hx0 : State.Sound x0 := by
    subst x0
    split
    · exact (foldl_holds (P := State.Sound) (fun _ _ hm4 => (sound_cellGone _ _ hm4)) (sound_freeTile _ _ _ h1))
    · exact (foldl_holds (P := State.Sound) (fun _ _ hm6 => (sound_dropCell _ _ _ hm6)) h1)
  clear_value x0
  exact (sound_unreserve _ _ hx0)

theorem sound_unitDone : ∀ a0 a1 a2 a3 a4 a5, State.Sound a5 →
    State.Sound (unitDone a0 a1 a2 a3 a4 a5) := by
  intro a0 a1 a2 a3 a4 a5 h5
  unfold unitDone
  split
  · exact (sound_finish _ _ _ _ h5)
  · exact h5

theorem sound_txDropped : ∀ a0 a1, State.Sound a1 →
    State.Sound (txDropped a0 a1) := by
  intro a0 a1 h1
  unfold txDropped
  split
  · exact (sound_unitDone _ _ _ _ _ _ h1)
  · exact h1

theorem sound_dropFrame : ∀ a0 a1 a2, State.Sound a2 →
    State.Sound (dropFrame a0 a1 a2) := by
  intro a0 a1 a2 h2
  unfold dropFrame
  exact (sound_State_led _ _ _ _ (sound_txDropped _ _ (sound_releaseUnit _ _ h2)))

theorem sound_boundSync : ∀ a0 a1, State.Sound a1 →
    State.Sound (boundSync a0 a1) := by
  intro a0 a1 h1
  unfold boundSync
  extract_lets +onlyGivenNames -merge x0
  exact (ite_holds (P := State.Sound) (State.sound_mk h1.regs h1.shadow h1.cnts h1.tot h1.hold h1.pairs h1.ctl
      h1.host h1.hlt h1.nvm h1.cls h1.time h1.tbl h1.leaf h1.xbar h1.buf (TmSt.sound_mk (SMap.sorted_put h1.tm.queues
      _ _ _) h1.tm.charge h1.tm.shapers h1.tm.pols h1.tm.was h1.tm.wxLog) h1.sky) h1)

theorem sound_emptyDeficit : ∀ a0 a1, State.Sound a1 →
    State.Sound (emptyDeficit a0 a1) := by
  intro a0 a1 h1
  unfold emptyDeficit
  extract_lets +onlyGivenNames -merge x0
  exact (ite_holds (P := State.Sound) h1 (sound_setPort _ _ _ h1))

theorem sound_noteDepth : ∀ a0 a1, State.Sound a1 →
    State.Sound (noteDepth a0 a1) := by
  intro a0 a1 h1
  unfold noteDepth
  extract_lets +onlyGivenNames -merge x0
  exact (ite_holds (P := State.Sound) h1 (State.sound_mk h1.regs h1.shadow h1.cnts h1.tot h1.hold h1.pairs h1.ctl
      h1.host h1.hlt h1.nvm h1.cls h1.time h1.tbl h1.leaf h1.xbar h1.buf (TmSt.sound_mk h1.tm.queues h1.tm.charge
      h1.tm.shapers h1.tm.pols (SMap.sorted_insert h1.tm.was _ _) h1.tm.wxLog) h1.sky))

theorem sound_stallSync : ∀ a0 a1, State.Sound a1 →
    State.Sound (stallSync a0 a1) := by
  intro a0 a1 h1
  unfold stallSync
  extract_lets +onlyGivenNames -merge x0
  extract_lets +onlyGivenNames -merge x1
  extract_lets +onlyGivenNames -merge x2
  subst x2
  beta_reduce
  extract_lets +onlyGivenNames -merge x3
  exact (ite_holds (P := State.Sound) h1 (sound_setPort _ _ _ h1))

theorem sound_setQueue : ∀ a0 a1 a2, State.Sound a2 →
    State.Sound (setQueue a0 a1 a2) := by
  intro a0 a1 a2 h2
  unfold setQueue
  extract_lets +onlyGivenNames -merge x0
  have hx0 : State.Sound x0 := (sound_noteDepth _ _ h2)
  clear_value x0
  extract_lets +onlyGivenNames -merge x1
  have hx1 : TmSt.Sound x1 := hx0.tm
  clear_value x1
  extract_lets +onlyGivenNames -merge x2
  have hx2 : State.Sound x2 := (sound_boundSync _ _ (State.sound_mk hx0.regs hx0.shadow hx0.cnts hx0.tot hx0.hold
      hx0.pairs hx0.ctl hx0.host hx0.hlt hx0.nvm hx0.cls hx0.time hx0.tbl hx0.leaf hx0.xbar hx0.buf (TmSt.sound_mk
      (SMap.sorted_put hx0.tm.queues _ _ _) hx1.charge hx1.shapers hx1.pols hx1.was hx1.wxLog) hx0.sky))
  clear_value x2
  exact (ite_holds (P := State.Sound) (sound_stallSync _ _ (sound_emptyDeficit _ _ (sound_State_setReg _ _ _ _ _
      hx2))) hx2)

theorem sound_setTaken : ∀ a0 a1 a2, State.Sound a2 →
    State.Sound (setTaken a0 a1 a2) := by
  intro a0 a1 a2 h2
  unfold setTaken
  exact (State.sound_mk h2.regs h2.shadow h2.cnts h2.tot h2.hold h2.pairs h2.ctl h2.host h2.hlt h2.nvm h2.cls h2.time
      h2.tbl h2.leaf h2.xbar (BufSt.sound_mk h2.buf.tiles h2.buf.freeAt (SMap.sorted_insert h2.buf.taken _ _)
      h2.buf.metas) h2.tm h2.sky)

theorem sound_takeTile : ∀ a0 a1 a2, State.Sound a2 →
    State.Sound (takeTile a0 a1 a2) := by
  intro a0 a1 a2 h2
  unfold takeTile
  extract_lets +onlyGivenNames -merge x0
  have hx0 : State.Sound x0 := (sound_setTile _ _ _ _ h2)
  clear_value x0
  exact (sound_State_count _ _ _ _ _ (sound_regAdd _ _ _ _ (sound_regAdd _ _ _ _ hx0)))

theorem sound_allocFrom : ∀ a0 a1 a2 a3, State.Sound a3 →
    Snd State.Sound (allocFrom a0 a1 a2 a3) := by
  intro slot n
  induction n with
  | zero => intro b s h; exact h
  | succ n ih =>
    intro b s h
    unfold allocFrom
    split
    · exact sound_takeTile _ _ _ (sound_setTaken _ _ _ h)
    · exact ih _ _ (sound_State_count _ _ _ _ _ h)

theorem sound_allocD : ∀ a0 a1, State.Sound a1 →
    Snd State.Sound (allocD a0 a1) := by
  intro a0 a1 h1
  unfold allocD
  extract_lets +onlyGivenNames -merge x0
  exact (sound_allocFrom _ _ _ _ h1)

theorem sound_allocRsv : ∀ a0 a1, State.Sound a1 →
    Snd State.Sound (allocRsv a0 a1) := by
  intro a0 a1 h1
  unfold allocRsv
  split
  · rename_i v0 v1 heq2
    have hv1 : State.Sound v1 := holds_eq (P := (Snd State.Sound)) heq2 (by
        exact (sound_allocD _ _ h1))
    refine snd_holds (P := State.Sound) ?_
    exact (sound_unreserve _ _ hv1)
  · rename_i v3 heq4
    have hv3 : State.Sound v3 := holds_eq (P := (Snd State.Sound)) heq4 (by
        exact (sound_allocD _ _ h1))
    refine snd_holds (P := State.Sound) ?_
    exact hv3

theorem sound_reserve : ∀ a0 a1 a2 a3 a4, State.Sound a4 →
    Snd State.Sound (reserve a0 a1 a2 a3 a4) := by
  intro a0 a1 a2 a3 a4 h4
  unfold reserve
  extract_lets +onlyGivenNames -merge x0
  extract_lets +onlyGivenNames -merge x1
  refine ite_holds (P := (Snd State.Sound)) ?_ ?_
  · extract_lets +onlyGivenNames -merge x2
    refine snd_holds (P := State.Sound) ?_
    exact (sound_regAdd _ _ _ _ (State.sound_mk h4.regs h4.shadow h4.cnts h4.tot h4.hold h4.pairs h4.ctl h4.host
        h4.hlt h4.nvm h4.cls h4.time h4.tbl h4.leaf h4.xbar (BufSt.sound_mk h4.buf.tiles h4.buf.freeAt h4.buf.taken
        h4.buf.metas) h4.tm h4.sky))
  · refine snd_holds (P := State.Sound) ?_
    exact h4

theorem sound_showUsed : ∀ a0, State.Sound a0 →
    State.Sound (showUsed a0) := by
  intro a0 h0
  unfold showUsed
  exact (sound_State_setFld _ _ _ _ _ h0)

theorem sound_hbmLoses : ∀ a0 a1 a2, State.Sound a2 →
    Snd State.Sound (hbmLoses a0 a1 a2) := by
  intro a0 a1 a2 h2
  unfold hbmLoses
  refine ite_holds (P := (Snd State.Sound)) ?_ ?_
  · refine snd_holds (P := State.Sound) ?_
    exact (sound_State_count _ _ _ _ _ h2)
  · refine snd_holds (P := State.Sound) ?_
    exact (sound_State_count _ _ _ _ _ h2)

theorem sound_allocHbm : ∀ a0 a1 a2, State.Sound a2 →
    Snd State.Sound (allocHbm a0 a1 a2) := by
  intro a0 a1 a2 h2
  unfold allocHbm
  refine ite_holds (P := (Snd State.Sound)) ?_ ?_
  · exact (sound_hbmLoses _ _ _ h2)
  · refine ite_holds (P := (Snd State.Sound)) ?_ ?_
    · exact (sound_hbmLoses _ _ _ h2)
    · split
      · refine snd_holds (P := State.Sound) ?_
        exact (sound_takeTile _ _ _ (sound_setTaken _ _ _ h2))
      · refine snd_holds (P := State.Sound) ?_
        exact (sound_State_count _ _ _ _ _ h2)

theorem sound_chargeCells : ∀ a0 a1 a2, State.Sound a2 →
    State.Sound (chargeCells a0 a1 a2) := by
  intro a0 a1 a2 h2
  unfold chargeCells
  exact (sound_pauseSync _ _ _ (State.sound_mk h2.regs h2.shadow h2.cnts h2.tot h2.hold h2.pairs h2.ctl h2.host
      h2.hlt h2.nvm h2.cls h2.time h2.tbl h2.leaf h2.xbar h2.buf (TmSt.sound_mk h2.tm.queues (SMap.sorted_upd
      h2.tm.charge _ _ _) h2.tm.shapers h2.tm.pols h2.tm.was h2.tm.wxLog) h2.sky))

theorem sound_delaySlot : ∀ a0 a1, State.Sound a1 →
    State.Sound (delaySlot a0 a1) := by
  intro a0 a1 h1
  unfold delaySlot
  extract_lets +onlyGivenNames -merge x0
  exact (sound_setTaken _ _ _ h1)

theorem sound_quarTile : ∀ a0 a1 a2, State.Sound a2 →
    State.Sound (quarTile a0 a1 a2) := by
  intro a0 a1 a2 h2
  unfold quarTile
  extract_lets +onlyGivenNames -merge x0
  have hx0 : State.Sound x0 := (sound_setTile _ _ _ _ h2)
  clear_value x0
  exact (sound_State_count _ _ _ _ _ (sound_regAdd _ _ _ _ (sound_regAdd _ _ _ _ hx0)))

theorem sound_showSpill : ∀ a0, State.Sound a0 →
    State.Sound (showSpill a0) := by
  intro a0 h0
  unfold showSpill
  exact (sound_State_setFld _ _ _ _ _ h0)

theorem sound_quarFail : ∀ a0 a1 a2, State.Sound a2 →
    State.Sound (quarFail a0 a1 a2) := by
  intro a0 a1 a2 h2
  unfold quarFail
  extract_lets +onlyGivenNames -merge x0
  have hx0 : State.Sound x0 := (sound_quarTile _ _ _ h2)
  clear_value x0
  exact (ite_holds (P := State.Sound) (of_fst (sound_winEvent _ _ _ hx0)) (sound_memReport _ _ _ _ _ _ hx0))

theorem sound_setMeta : ∀ a0 a1 a2 a3, State.Sound a3 →
    State.Sound (setMeta a0 a1 a2 a3) := by
  intro a0 a1 a2 a3 h3
  unfold setMeta
  exact (State.sound_mk h3.regs h3.shadow h3.cnts h3.tot h3.hold h3.pairs h3.ctl h3.host h3.hlt h3.nvm h3.cls h3.time
      h3.tbl h3.leaf h3.xbar (BufSt.sound_mk h3.buf.tiles h3.buf.freeAt h3.buf.taken (SMap.sorted_put h3.buf.metas _
      _ _)) h3.tm h3.sky)

/-! ### Machine/Line.lean -/

theorem sound_lineSend : ∀ a0 a1 a2 a3, State.Sound a3 →
    State.Sound (lineSend a0 a1 a2 a3) := by
  intro a0 a1 a2 a3 h3
  unfold lineSend
  extract_lets +onlyGivenNames -merge x0
  extract_lets +onlyGivenNames -merge x1
  split
  · extract_lets +onlyGivenNames -merge x5
    extract_lets +onlyGivenNames -merge x6
    exact (ite_holds (P := State.Sound) (foldl_holds (P := State.Sound) (fun _ _ hm7 => (sound_State_emit _ _ hm7))
        (sound_setPort _ _ _ h3)) (sound_setPort _ _ _ h3))

theorem sound_sendOut : ∀ a0 a1 a2 a3 a4, State.Sound a4 →
    State.Sound (sendOut a0 a1 a2 a3 a4) := by
  intro a0 a1 a2 a3 a4 h4
  unfold sendOut
  exact (sound_lineSend _ _ _ _ (sound_State_emit _ _ h4))

theorem sound_startLine : ∀ a0 a1, State.Sound a1 →
    State.Sound (startLine a0 a1) := by
  intro a0 a1 h1
  unfold startLine
  exact (sound_setPort _ _ _ h1)

/-! ### Machine/Shaper.lean -/

theorem sound_setShaper : ∀ a0 a1 a2, State.Sound a2 →
    State.Sound (setShaper a0 a1 a2) := by
  intro a0 a1 a2 h2
  unfold setShaper
  extract_lets +onlyGivenNames -merge x0
  have hx0 : TmSt.Sound x0 := h2.tm
  clear_value x0
  extract_lets +onlyGivenNames -merge x1
  have hx1 : State.Sound x1 := (State.sound_mk h2.regs h2.shadow h2.cnts h2.tot h2.hold h2.pairs h2.ctl h2.host
      h2.hlt h2.nvm h2.cls h2.time h2.tbl h2.leaf h2.xbar h2.buf (TmSt.sound_mk hx0.queues hx0.charge
      (SMap.sorted_put h2.tm.shapers _ _ _) hx0.pols hx0.was hx0.wxLog) h2.sky)
  clear_value x1
  extract_lets +onlyGivenNames -merge x2
  exact (ite_holds (P := State.Sound) (sound_State_setReg _ _ _ _ _ hx1) (sound_State_setReg _ _ _ _ _ hx1))

theorem sound_chargeFrame : ∀ a0 a1 a2 a3 a4, State.Sound a4 →
    State.Sound (chargeFrame a0 a1 a2 a3 a4) := by
  intro a0 a1 a2 a3 a4 h4
  unfold chargeFrame
  extract_lets +onlyGivenNames -merge x0
  extract_lets +onlyGivenNames -merge x1
  have hx1 : State.Sound x1 := (ite_holds (P := State.Sound) (sound_setPort _ _ _ h4) h4)
  clear_value x1
  extract_lets +onlyGivenNames -merge x2
  have hx2 : State.Sound x2 := (sound_setShaper _ _ _ hx1)
  clear_value x2
  exact (sound_setShaper _ _ _ hx2)

theorem sound_shaperRefresh : ∀ a0 a1, State.Sound a1 →
    State.Sound (shaperRefresh a0 a1) := by
  intro a0 a1 h1
  unfold shaperRefresh
  extract_lets +onlyGivenNames -merge x0
  extract_lets +onlyGivenNames -merge x1
  exact (ite_holds (P := State.Sound) (ite_holds (P := State.Sound) (sound_setShaper _ _ _ h1) (sound_setShaper _ _ _
      h1)) h1)

theorem sound_refreshPort : ∀ a0 a1, State.Sound a1 →
    State.Sound (refreshPort a0 a1) := by
  intro a0 a1 h1
  unfold refreshPort
  exact (foldl_holds (P := State.Sound) (fun _ _ hm0 => (sound_shaperRefresh _ _ hm0)) (sound_shaperRefresh _ _ h1))

/-! ### Machine/Leaf.lean -/

theorem sound_abandonTx : ∀ a0 a1, State.Sound a1 →
    State.Sound (abandonTx a0 a1) := by
  intro p s h
  unfold abandonTx
  extract_lets x
  split
  · exact h
  · extract_lets k q u sent0 sent s1 x1 s2 s3 s4
    have h1 : State.Sound s1 := ite_holds (sound_chargeFrame _ _ _ _ _ h) h
    have h3 : State.Sound s3 := sound_sendOut _ _ _ _ _ (sound_State_count _ _ _ _ _ (sound_setPort _ _ _ h1))
    have h4 : State.Sound s4 := by
      subst s4
      clear_value s3
      split
      · exact sound_State_led _ _ _ _ (sound_State_count _ _ _ _ _ h3)
      · exact h3
    clear_value s4 u
    cases u with
    | some u => exact sound_dropFrame _ _ _ (sound_setQueue _ _ _ h4)
    | none => exact h4

theorem sound_showPause : ∀ a0 a1, State.Sound a1 →
    State.Sound (showPause a0 a1) := by
  intro a0 a1 h1
  unfold showPause
  extract_lets +onlyGivenNames -merge x0
  extract_lets +onlyGivenNames -merge x1
  subst x1
  beta_reduce
  exact (sound_stallSync _ _ (sound_State_setReg _ _ _ _ _ h1))

theorem sound_pauseClass : ∀ a0 a1 a2 a3, State.Sound a3 →
    State.Sound (pauseClass a0 a1 a2 a3) := by
  intro a0 a1 a2 a3 h3
  unfold pauseClass
  extract_lets +onlyGivenNames -merge x0
  exact (sound_showPause _ _ (sound_setPort _ _ _ h3))

theorem sound_applyPend : ∀ a0 a1, State.Sound a1 →
    State.Sound (applyPend a0 a1) := by
  intro a0 a1 h1
  unfold applyPend
  extract_lets +onlyGivenNames -merge x0
  exact (foldl_holds (P := State.Sound) (fun _ _ hm1 => (sound_pauseClass _ _ _ _ hm1)) (sound_setPort _ _ _ h1))

theorem sound_endPause : ∀ a0 a1, State.Sound a1 →
    State.Sound (endPause a0 a1) := by
  intro a0 a1 h1
  unfold endPause
  exact (sound_showPause _ _ (sound_setPort _ _ _ h1))

theorem sound_clearPause : ∀ a0 a1, State.Sound a1 →
    State.Sound (clearPause a0 a1) := by
  intro a0 a1 h1
  unfold clearPause
  exact (sound_endPause _ _ (sound_setPort _ _ _ h1))

theorem sound_flushPort : ∀ a0 a1, State.Sound a1 →
    State.Sound (flushPort a0 a1) := by
  intro a0 a1 h1
  unfold flushPort
  exact (foldl_holds (P := State.Sound) (fun _ _ hm0 => (foldl_holds (P := State.Sound) (fun _ _ hm1 =>
      (sound_dropFrame _ _ _ (sound_State_count _ _ _ _ _ hm1))) (sound_setQueue _ _ _ hm0))) h1)

theorem sound_loseLink : ∀ a0 a1, State.Sound a1 →
    State.Sound (loseLink a0 a1) := by
  intro a0 a1 h1
  unfold loseLink
  extract_lets +onlyGivenNames -merge x0
  have hx0 : State.Sound x0 := (sound_State_setFld _ _ _ _ _ h1)
  clear_value x0
  exact (sound_setPort _ _ _ hx0)

theorem sound_linkDown : ∀ a0 a1, State.Sound a1 →
    State.Sound (linkDown a0 a1) := by
  intro a0 a1 h1
  unfold linkDown
  extract_lets +onlyGivenNames -merge x0
  have hx0 : State.Sound x0 := (sound_State_count _ _ _ _ _ h1)
  clear_value x0
  extract_lets +onlyGivenNames -merge x1
  have hx1 : State.Sound x1 := (sound_clearPause _ _ (sound_abandonTx _ _ (sound_loseLink _ _ hx0)))
  clear_value x1
  refine ite_holds (P := State.Sound) ?_ ?_
  · exact (sound_flushPort _ _ hx1)
  · extract_lets +onlyGivenNames -merge x2
    have hx2 : State.Sound x2 := (sound_State_setFld _ _ _ _ _ hx1)
    clear_value x2
    exact (sound_setPort _ _ _ hx2)

theorem sound_dropLanes : ∀ a0 a1, State.Sound a1 →
    State.Sound (dropLanes a0 a1) := by
  intro a0 a1 h1
  unfold dropLanes
  exact (State.sound_mk h1.regs h1.shadow h1.cnts h1.tot h1.hold h1.pairs h1.ctl h1.host h1.hlt h1.nvm h1.cls h1.time
      h1.tbl (LeafSt.sound_mk h1.leaf.ports (SMap.sorted_keep h1.leaf.lanes _) h1.leaf.samples h1.leaf.copies
      h1.leaf.looks h1.leaf.inLooks) h1.xbar h1.buf h1.tm h1.sky)

theorem sound_execCtStartDecay : ∀ a0 a1, State.Sound a1 →
    ResHolds (execCtStartDecay a0 a1) := by
  intro a0 a1 h1
  unfold execCtStartDecay
  refine next_holds ?_
  extract_lets +onlyGivenNames -merge x0
  refine ite_holds (P := State.Sound) ?_ ?_
  · extract_lets +onlyGivenNames -merge x1
    extract_lets +onlyGivenNames -merge x2
    have hx2 : State.Sound x2 := (sound_setPort _ _ _ h1)
    clear_value x2
    exact (ite_holds (P := State.Sound) (sound_State_setFld _ _ _ _ _ hx2) hx2)
  · exact h1

theorem sound_execFlapHoldExpiry : ∀ a0 a1, State.Sound a1 →
    ResHolds (execFlapHoldExpiry a0 a1) := by
  intro a0 a1 h1
  unfold execFlapHoldExpiry
  refine next_holds ?_
  split
  · refine ite_holds (P := State.Sound) ?_ ?_
    · extract_lets +onlyGivenNames -merge x2
      have hx2 : State.Sound x2 := (sound_State_setFld _ _ _ _ _ h1)
      clear_value x2
      exact (sound_flushPort _ _ (sound_setPort _ _ _ hx2))
    · exact h1
  · exact h1

theorem sound_execGroupRestartDone : ∀ a0 a1, State.Sound a1 →
    ResHolds (execGroupRestartDone a0 a1) := by
  intro a0 a1 h1
  unfold execGroupRestartDone
  refine next_holds ?_
  exact (sound_State_setFld _ _ _ _ _ h1)

theorem sound_execLaneAlign : ∀ a0 a1 a2 a3 a4, State.Sound a4 →
    ResHolds (execLaneAlign a0 a1 a2 a3 a4) := by
  intro a0 a1 a2 a3 a4 h4
  unfold execLaneAlign
  refine next_holds ?_
  extract_lets +onlyGivenNames -merge x0
  refine ite_holds (P := State.Sound) ?_ ?_
  · extract_lets +onlyGivenNames -merge x1
    have hx1 : LeafSt.Sound x1 := h4.leaf
    clear_value x1
    extract_lets +onlyGivenNames -merge x2
    have hx2 : State.Sound x2 := (State.sound_mk h4.regs h4.shadow h4.cnts h4.tot h4.hold h4.pairs h4.ctl h4.host
        h4.hlt h4.nvm h4.cls h4.time h4.tbl (LeafSt.sound_mk hx1.ports (SMap.sorted_insert h4.leaf.lanes _ _)
        hx1.samples hx1.copies hx1.looks hx1.inLooks) h4.xbar h4.buf h4.tm h4.sky)
    clear_value x2
    exact (sound_setPort _ _ _ hx2)
  · exact h4

theorem sound_relock : ∀ a0 a1, State.Sound a1 →
    State.Sound (relock a0 a1) := by
  intro a0 a1 h1
  unfold relock
  exact (sound_setPort _ _ _ h1)

theorem sound_takePause : ∀ a0 a1 a2, State.Sound a2 →
    State.Sound (takePause a0 a1 a2) := by
  intro a0 a1 a2 h2
  unfold takePause
  extract_lets +onlyGivenNames -merge x0
  extract_lets +onlyGivenNames -merge x1
  have hx1 : State.Sound x1 := (sound_setPort _ _ _ h2)
  clear_value x1
  extract_lets +onlyGivenNames -merge x2
  have hx2 : State.Sound x2 := (foldl_holds (P := State.Sound) (fun _ _ hm3 => (sound_pauseClass _ _ _ _ hm3)) hx1)
  clear_value x2
  extract_lets +onlyGivenNames -merge x4
  exact (ite_holds (P := State.Sound) (sound_setPort _ _ _ hx2) (foldl_holds (P := State.Sound) (fun _ _ hm5 =>
      (sound_pauseClass _ _ _ _ hm5)) hx2))

theorem sound_macControl : ∀ a0 a1 a2, State.Sound a2 →
    State.Sound (macControl a0 a1 a2) := by
  intro a0 a1 a2 h2
  unfold macControl
  extract_lets +onlyGivenNames -merge x0
  have hx0 : State.Sound x0 := (sound_State_count _ _ _ _ _ h2)
  clear_value x0
  extract_lets +onlyGivenNames -merge x1
  extract_lets +onlyGivenNames -merge x2
  refine ite_holds (P := State.Sound) ?_ ?_
  · exact hx0
  · refine ite_holds (P := State.Sound) ?_ ?_
    · exact (ite_holds (P := State.Sound) (sound_takePause _ _ _ (sound_State_count _ _ _ _ _ h2)) hx0)
    · refine ite_holds (P := State.Sound) ?_ ?_
      · extract_lets +onlyGivenNames -merge x3
        extract_lets +onlyGivenNames -merge x4
        subst x4
        beta_reduce
        extract_lets +onlyGivenNames -merge x5
        extract_lets +onlyGivenNames -merge x6
        have hx6 : State.Sound x6 := (ite_holds (P := State.Sound) hx0 h2)
        clear_value x6
        extract_lets +onlyGivenNames -merge x7
        have hx7 : State.Sound x7 := (foldl_holds (P := State.Sound) (fun _ _ hm8 => (sound_State_count _ _ _ _ _
            hm8)) hx6)
        clear_value x7
        exact (sound_takePause _ _ _ hx7)
      · exact hx0

theorem sound_linkUp : ∀ a0 a1, State.Sound a1 →
    State.Sound (linkUp a0 a1) := by
  intro a0 a1 h1
  unfold linkUp
  extract_lets +onlyGivenNames -merge x0
  have hx0 : State.Sound x0 := (sound_State_setReg _ _ _ _ _ h1)
  clear_value x0
  exact (sound_setPort _ _ _ hx0)

theorem sound_execLinkUp : ∀ a0 a1 a2, State.Sound a2 →
    ResHolds (execLinkUp a0 a1 a2) := by
  intro a0 a1 a2 h2
  unfold execLinkUp
  refine next_holds ?_
  exact (ite_holds (P := State.Sound) (sound_linkUp _ _ h2) h2)

theorem sound_execPauseExpiry : ∀ a0 a1 a2, State.Sound a2 →
    ResHolds (execPauseExpiry a0 a1 a2) := by
  intro a0 a1 a2 h2
  unfold execPauseExpiry
  refine next_holds ?_
  split
  · exact (ite_holds (P := State.Sound) (sound_pauseClass _ _ _ _ h2) h2)
  · exact h2

theorem sound_execPauseFrameTx : ∀ a0 a1, State.Sound a1 →
    ResHolds (execPauseFrameTx a0 a1) := by
  intro a0 a1 h1
  unfold execPauseFrameTx
  refine next_holds ?_
  refine ite_holds (P := State.Sound) ?_ ?_
  · exact h1
  · extract_lets +onlyGivenNames -merge x0
    split
    · exact h1
    · refine ite_holds (P := State.Sound) ?_ ?_
      · exact h1
      · extract_lets +onlyGivenNames -merge x6
        have hx6 : State.Sound x6 := (sound_setPort _ _ _ h1)
        clear_value x6
        extract_lets +onlyGivenNames -merge x7
        have hx7 : State.Sound x7 := (ite_holds (P := State.Sound) (sound_State_count _ _ _ _ _ hx6)
            (sound_State_count _ _ _ _ _ hx6))
        clear_value x7
        exact (sound_sendOut _ _ _ _ _ hx7)

theorem sound_execPauseRepeatTimer : ∀ a0 a1 a2, State.Sound a2 →
    ResHolds (execPauseRepeatTimer a0 a1 a2) := by
  intro a0 a1 a2 h2
  unfold execPauseRepeatTimer
  refine next_holds ?_
  extract_lets +onlyGivenNames -merge x0
  extract_lets +onlyGivenNames -merge x1
  extract_lets +onlyGivenNames -merge x2
  extract_lets +onlyGivenNames -merge x3
  split
  · exact (ite_holds (P := State.Sound) (sound_setPort _ _ _ h2) h2)
  · exact h2

theorem sound_execPauseWdHoldoffEnd : ∀ a0 a1 a2, State.Sound a2 →
    ResHolds (execPauseWdHoldoffEnd a0 a1 a2) := by
  intro a0 a1 a2 h2
  unfold execPauseWdHoldoffEnd
  refine next_holds ?_
  extract_lets +onlyGivenNames -merge x0
  split
  · exact (ite_holds (P := State.Sound) (sound_showPause _ _ (sound_setPort _ _ _ h2)) h2)
  · exact h2

/-! ### Machine/Cut.lean -/

theorem sound_feedPut : ∀ a0 a1 a2, State.Sound a2 →
    State.Sound (feedPut a0 a1 a2) := by
  intro a0 a1 a2 h2
  unfold feedPut
  exact (State.sound_mk h2.regs h2.shadow h2.cnts h2.tot h2.hold h2.pairs h2.ctl h2.host h2.hlt h2.nvm h2.cls h2.time
      h2.tbl h2.leaf (XbarSt.sound_mk (SMap.sorted_put h2.xbar.feed _ _ _) h2.xbar.stage h2.xbar.nextSeq
      h2.xbar.spent h2.xbar.rr h2.xbar.grant h2.xbar.accept h2.xbar.matched h2.xbar.cross h2.xbar.reo) h2.buf h2.tm
      h2.sky)

theorem sound_spread : ∀ a0 a1 a2, State.Sound a2 →
    Snd State.Sound (spread a0 a1 a2) := by
  intro a0 a1 a2 h2
  unfold spread
  extract_lets +onlyGivenNames -merge x0
  extract_lets +onlyGivenNames -merge x1
  refine ite_holds (P := (Snd State.Sound)) ?_ ?_
  · extract_lets +onlyGivenNames -merge x2
    refine snd_holds (P := State.Sound) ?_
    exact (State.sound_mk h2.regs h2.shadow h2.cnts h2.tot h2.hold h2.pairs h2.ctl h2.host h2.hlt h2.nvm h2.cls
        h2.time h2.tbl h2.leaf h2.xbar h2.buf h2.tm (SkySt.sound_mk h2.sky.lanes h2.sky.traces h2.sky.pairs
        h2.sky.reseq h2.sky.wrr (SMap.sorted_put h2.sky.wrr0 _ _ _) h2.sky.rounds h2.sky.offered h2.sky.used
        h2.sky.offeredLast h2.sky.usedLast h2.sky.spare h2.sky.cands h2.sky.inForce))
  · extract_lets +onlyGivenNames -merge x3
    extract_lets +onlyGivenNames -merge x4
    extract_lets +onlyGivenNames -merge x5
    extract_lets +onlyGivenNames -merge x6
    refine snd_holds (P := State.Sound) ?_
    exact (State.sound_mk h2.regs h2.shadow h2.cnts h2.tot h2.hold h2.pairs h2.ctl h2.host h2.hlt h2.nvm h2.cls
        h2.time h2.tbl h2.leaf h2.xbar h2.buf h2.tm (SkySt.sound_mk h2.sky.lanes h2.sky.traces h2.sky.pairs
        h2.sky.reseq (foldl_holds (P := (fun e => SMap.sorted e = true)) (fun _ _ hm7 => (SMap.sorted_put hm7 _ _ _))
        h2.sky.wrr) h2.sky.wrr0 h2.sky.rounds h2.sky.offered h2.sky.used h2.sky.offeredLast h2.sky.usedLast
        h2.sky.spare h2.sky.cands h2.sky.inForce))

theorem sound_spreadCells : ∀ a0 a1 a2 a3 a4, State.Sound a4 →
    Snd State.Sound (spreadCells a0 a1 a2 a3 a4) := by
  intro q d c l
  induction l with
  | nil => exact fun s h => h
  | cons x l ih =>
    intro s h
    unfold spreadCells
    have h1 := sound_spread q d s h
    split
    rename_i heq; rw [heq] at h1
    exact ih _ h1

theorem sound_sendSky : ∀ a0 a1 a2 a3, State.Sound a3 →
    State.Sound (sendSky a0 a1 a2 a3) := by
  intro a0 a1 a2 a3 h3
  unfold sendSky
  extract_lets +onlyGivenNames -merge x0
  extract_lets +onlyGivenNames -merge x1
  extract_lets +onlyGivenNames -merge x2
  extract_lets +onlyGivenNames -merge x3
  have hx3 : State.Sound x3 := (sound_State_setReg _ _ _ _ _ h3)
  clear_value x3
  extract_lets +onlyGivenNames -merge x4
  have hx4 : State.Sound x4 := (sound_State_led _ _ _ _ (sound_State_count _ _ _ _ _ hx3))
  clear_value x4
  extract_lets +onlyGivenNames -merge x5
  extract_lets +onlyGivenNames -merge x6
  split
  · rename_i v7 v8 heq9
    have hv8 : State.Sound v8 := holds_eq (P := (Snd State.Sound)) heq9 (by
        exact (sound_spreadCells _ _ _ _ _ hx4))
    exact (sound_feedPut _ _ _ hv8)

theorem sound_sendFrame : ∀ a0 a1 a2 a3, State.Sound a3 →
    Snd State.Sound (sendFrame a0 a1 a2 a3) := by
  intro a0 a1 a2 a3 h3
  unfold sendFrame
  refine ite_holds (P := (Snd State.Sound)) ?_ ?_
  · refine snd_holds (P := State.Sound) ?_
    exact (sound_feedPut _ _ _ h3)
  · refine ite_holds (P := (Snd State.Sound)) ?_ ?_
    · refine snd_holds (P := State.Sound) ?_
      exact h3
    · refine ite_holds (P := (Snd State.Sound)) ?_ ?_
      · refine snd_holds (P := State.Sound) ?_
        exact h3
      · refine snd_holds (P := State.Sound) ?_
        exact (sound_sendSky _ _ _ _ h3)

/-! ### Machine/Mirror.lean -/

theorem sound_copyEnd : ∀ a0 a1 a2, State.Sound a2 →
    State.Sound (copyEnd a0 a1 a2) := by
  intro a0 a1 a2 h2
  unfold copyEnd
  exact (sound_State_led _ _ _ _ (sound_State_count _ _ _ _ _ h2))

theorem sound_deliverCopy : ∀ a0 a1 a2 a3 a4 a5, State.Sound a5 →
    State.Sound (deliverCopy a0 a1 a2 a3 a4 a5) := by
  intro a0 a1 a2 a3 a4 a5 h5
  unfold deliverCopy
  extract_lets +onlyGivenNames -merge x0
  refine ite_holds (P := State.Sound) ?_ ?_
  · extract_lets +onlyGivenNames -merge x1
    split
    · rename_i v2 heq3
      have hv2 : State.Sound v2 := holds_eq (P := (Snd State.Sound)) heq3 (by
          exact (sound_sendFrame _ _ _ _ h5))
      exact hv2
    · rename_i v4 v5 heq6
      have hv5 : State.Sound v5 := holds_eq (P := (Snd State.Sound)) heq6 (by
          exact (sound_sendFrame _ _ _ _ h5))
      exact (sound_copyEnd _ _ _ (sound_State_count _ _ _ _ _ hv5))
  · refine ite_holds (P := State.Sound) ?_ ?_
    · exact (sound_copyEnd _ _ _ (sound_State_count _ _ _ _ _ h5))
    · refine ite_holds (P := State.Sound) ?_ ?_
      · split
        · rename_i v7 heq8
          have hv7 : State.Sound v7 := holds_eq (P := (Snd State.Sound)) heq8 (by
              exact (sound_idlPass _ _ _ h5))
          exact (sound_copyEnd _ _ _ hv7)
        · rename_i v9 heq10
          have hv9 : State.Sound v9 := holds_eq (P := (Snd State.Sound)) heq10 (by
              exact (sound_idlPass _ _ _ h5))
          split
          · rename_i v11 heq12
            have hv11 : State.Sound v11 := holds_eq (P := (Snd State.Sound)) heq12 (by
                exact (sound_rxPlace _ _ _ _ hv9))
            exact (sound_copyEnd _ _ _ hv11)
          · rename_i v13 heq14
            have hv13 : State.Sound v13 := holds_eq (P := (Snd State.Sound)) heq14 (by
                exact (sound_rxPlace _ _ _ _ hv9))
            exact (sound_copyEnd _ _ _ hv13)
      · split
        · rename_i v15 heq16
          have hv15 : State.Sound v15 := holds_eq (P := (Snd State.Sound)) heq16 (by
              exact (sound_idlPass _ _ _ h5))
          exact (sound_copyEnd _ _ _ hv15)
        · rename_i v17 heq18
          have hv17 : State.Sound v17 := holds_eq (P := (Snd State.Sound)) heq18 (by
              exact (sound_idlPass _ _ _ h5))
          extract_lets +onlyGivenNames -merge x19
          exact (State.sound_mk hv17.regs hv17.shadow hv17.cnts hv17.tot hv17.hold hv17.pairs hv17.ctl
              (HostSt.sound_mk hv17.host.rings hv17.host.mem hv17.host.ext hv17.host.txLast) hv17.hlt hv17.nvm
              hv17.cls hv17.time hv17.tbl hv17.leaf hv17.xbar hv17.buf hv17.tm hv17.sky)

theorem sound_sampleStep : ∀ a0 a1 a2, SMap.sorted a0 = true →
    Snd (fun e => SMap.sorted e = true) (sampleStep a0 a1 a2) := by
  intro a0 a1 a2 h0
  unfold sampleStep
  extract_lets +onlyGivenNames -merge x0
  refine ite_holds (P := (Snd (fun e => SMap.sorted e = true))) ?_ ?_
  · refine snd_holds (P := (fun e => SMap.sorted e = true)) ?_
    exact (SMap.sorted_put h0 _ _ _)
  · refine snd_holds (P := (fun e => SMap.sorted e = true)) ?_
    exact (SMap.sorted_put h0 _ _ _)

theorem sound_selectCopy : ∀ a0 a1 a2, State.Sound a2 →
    Snd State.Sound (selectCopy a0 a1 a2) := by
  intro a0 a1 a2 h2
  unfold selectCopy
  refine ite_holds (P := (Snd State.Sound)) ?_ ?_
  · split
    · rename_i v0 v1 heq2
      have hv1 : SMap.sorted v1 = true := holds_eq (P := (Snd (fun e => SMap.sorted e = true))) heq2 (by
          exact (sound_sampleStep _ _ _ h2.leaf.copies))
      extract_lets +onlyGivenNames -merge x3
      have hx3 : LeafSt.Sound x3 := h2.leaf
      clear_value x3
      extract_lets +onlyGivenNames -merge x4
      have hx4 : State.Sound x4 := (State.sound_mk h2.regs h2.shadow h2.cnts h2.tot h2.hold h2.pairs h2.ctl h2.host
          h2.hlt h2.nvm h2.cls h2.time h2.tbl (LeafSt.sound_mk hx3.ports hx3.lanes hx3.samples hv1 hx3.looks
          hx3.inLooks) h2.xbar h2.buf h2.tm h2.sky)
      clear_value x4
      refine ite_holds (P := (Snd State.Sound)) ?_ ?_
      · refine snd_holds (P := State.Sound) ?_
        exact (sound_State_led _ _ _ _ (sound_State_count _ _ _ _ _ hx4))
      · refine snd_holds (P := State.Sound) ?_
        exact hx4
  · refine snd_holds (P := State.Sound) ?_
    exact h2

theorem sound_ingressCopy : ∀ a0 a1 a2 a3 a4, State.Sound a4 →
    State.Sound (ingressCopy a0 a1 a2 a3 a4) := by
  intro a0 a1 a2 a3 a4 h4
  unfold ingressCopy
  split
  · exact h4
  · split
    · rename_i v3 heq4
      have hv3 : State.Sound v3 := holds_eq (P := (Snd State.Sound)) heq4 (by
          exact (sound_selectCopy _ _ _ h4))
      exact hv3
    · rename_i v5 heq6
      have hv5 : State.Sound v5 := holds_eq (P := (Snd State.Sound)) heq6 (by
          exact (sound_selectCopy _ _ _ h4))
      exact (sound_deliverCopy _ _ _ _ _ _ hv5)

theorem sound_capWrite : ∀ a0 a1, State.Sound a1 →
    State.Sound (capWrite a0 a1) := by
  intro a0 a1 h1
  unfold capWrite
  extract_lets +onlyGivenNames -merge x0
  exact (ite_holds (P := State.Sound) (sound_copyEnd _ _ _ (sound_State_count _ _ _ _ _ h1)) (ite_holds (P :=
      State.Sound) (sound_copyEnd _ _ _ (sound_State_count _ _ _ _ _ h1)) (ite_holds (P := State.Sound)
      (sound_copyEnd _ _ _ (sound_State_count _ _ _ _ _ (sound_stopLost _ _ h1))) (sound_copyEnd _ _ _ (of_snd
      (sound_ringPut _ _ _ h1))))))

theorem sound_sampleFrame : ∀ a0 a1 a2, State.Sound a2 →
    State.Sound (sampleFrame a0 a1 a2) := by
  intro a0 a1 a2 h2
  unfold sampleFrame
  refine ite_holds (P := State.Sound) ?_ ?_
  · split
    · rename_i v0 v1 heq2
      have hv1 : SMap.sorted v1 = true := holds_eq (P := (Snd (fun e => SMap.sorted e = true))) heq2 (by
          exact (sound_sampleStep _ _ _ h2.leaf.samples))
      extract_lets +onlyGivenNames -merge x3
      have hx3 : LeafSt.Sound x3 := h2.leaf
      clear_value x3
      extract_lets +onlyGivenNames -merge x4
      have hx4 : State.Sound x4 := (State.sound_mk h2.regs h2.shadow h2.cnts h2.tot h2.hold h2.pairs h2.ctl h2.host
          h2.hlt h2.nvm h2.cls h2.time h2.tbl (LeafSt.sound_mk hx3.ports hx3.lanes hv1 hx3.copies hx3.looks
          hx3.inLooks) h2.xbar h2.buf h2.tm h2.sky)
      clear_value x4
      refine ite_holds (P := State.Sound) ?_ ?_
      · extract_lets +onlyGivenNames -merge x5
        extract_lets +onlyGivenNames -merge x6
        subst x6
        beta_reduce
        refine ite_holds (P := State.Sound) ?_ ?_
        · exact (sound_State_count _ _ _ _ _ (sound_State_count _ _ _ _ _ hx4))
        · split
          · rename_i v7 heq8
            have hv7 : State.Sound v7 := holds_eq (P := (Snd State.Sound)) heq8 (by
                exact (sound_idlPass _ _ _ hx4))
            exact (sound_State_count _ _ _ _ _ hv7)
          · rename_i v9 heq10
            have hv9 : State.Sound v9 := holds_eq (P := (Snd State.Sound)) heq10 (by
                exact (sound_idlPass _ _ _ hx4))
            split
            · rename_i v11 heq12
              have hv11 : State.Sound v11 := holds_eq (P := (Snd State.Sound)) heq12 (by
                  exact (sound_rxPlace _ _ _ _ hv9))
              exact (sound_State_count _ _ _ _ _ hv11)
            · rename_i v13 heq14
              have hv13 : State.Sound v13 := holds_eq (P := (Snd State.Sound)) heq14 (by
                  exact (sound_rxPlace _ _ _ _ hv9))
              exact (sound_State_count _ _ _ _ _ hv13)
      · exact hx4
  · exact h2

theorem sound_execNotifyRecordWrite : ∀ a0, State.Sound a0 →
    ResHolds (execNotifyRecordWrite a0) := by
  intro a0 h0
  unfold execNotifyRecordWrite
  refine next_holds ?_
  split
  · exact h0
  · extract_lets +onlyGivenNames -merge x4
    have hx4 : HostSt.Sound x4 := h0.host
    clear_value x4
    extract_lets +onlyGivenNames -merge x5
    have hx5 : State.Sound x5 := (State.sound_mk h0.regs h0.shadow h0.cnts h0.tot h0.hold h0.pairs h0.ctl
        (HostSt.sound_mk hx4.rings hx4.mem hx4.ext hx4.txLast) h0.hlt h0.nvm h0.cls h0.time h0.tbl h0.leaf h0.xbar
        h0.buf h0.tm h0.sky)
    clear_value x5
    split
    · exact (sound_noteNext _ _ hx5)
    · exact (sound_capWrite _ _ hx5)

/-! ### Machine/Ingress.lean -/

theorem sound_inDrop : ∀ a0 a1, State.Sound a1 →
    State.Sound (inDrop a0 a1) := by
  intro a0 a1 h1
  unfold inDrop
  extract_lets +onlyGivenNames -merge x0
  have hx0 : State.Sound x0 := (sound_State_led _ _ _ _ h1)
  clear_value x0
  split
  · exact (sound_unitDone _ _ _ _ _ _ hx0)
  · exact hx0

theorem sound_decide' : ∀ a0 a1 a2 a3 a4, State.Sound a4 →
    Snd (Snd State.Sound) (decide' a0 a1 a2 a3 a4) := by
  intro a0 a1 a2 a3 a4 h4
  unfold decide'
  extract_lets +onlyGivenNames -merge x0
  subst x0
  beta_reduce
  extract_lets +onlyGivenNames -merge x1
  subst x1
  beta_reduce
  split
  · refine snd_holds (P := (Snd State.Sound)) ?_
    refine snd_holds (P := State.Sound) ?_
    split
    · exact (sound_State_count _ _ _ _ _ h4)
    · exact h4
  · refine ite_holds (P := (Snd (Snd State.Sound))) ?_ ?_
    · refine snd_holds (P := (Snd State.Sound)) ?_
      refine snd_holds (P := State.Sound) ?_
      exact h4
    · refine ite_holds (P := (Snd (Snd State.Sound))) ?_ ?_
      · refine snd_holds (P := (Snd State.Sound)) ?_
        refine snd_holds (P := State.Sound) ?_
        exact (sound_State_count _ _ _ _ _ h4)
      · refine ite_holds (P := (Snd (Snd State.Sound))) ?_ ?_
        · refine snd_holds (P := (Snd State.Sound)) ?_
          refine snd_holds (P := State.Sound) ?_
          exact h4
        · refine ite_holds (P := (Snd (Snd State.Sound))) ?_ ?_
          · refine snd_holds (P := (Snd State.Sound)) ?_
            refine snd_holds (P := State.Sound) ?_
            exact h4
          · refine ite_holds (P := (Snd (Snd State.Sound))) ?_ ?_
            · split
              · rename_i v11 v12 heq13
                have hv12 : State.Sound v12 := holds_eq (P := (Snd State.Sound)) heq13 (by
                    exact (sound_resolveEcmp _ _ _ _ _ h4))
                refine snd_holds (P := (Snd State.Sound)) ?_
                refine snd_holds (P := State.Sound) ?_
                split
                · exact (sound_State_count _ _ _ _ _ hv12)
                · exact hv12
            · refine snd_holds (P := (Snd State.Sound)) ?_
              refine snd_holds (P := State.Sound) ?_
              split
              · exact (sound_State_count _ _ _ _ _ h4)
              · exact h4

theorem sound_offerCand : ∀ a0 a1, State.Sound a1 →
    State.Sound (offerCand a0 a1) := by
  intro a0 a1 h1
  unfold offerCand
  extract_lets +onlyGivenNames -merge x0
  subst x0
  beta_reduce
  split
  · exact (ite_holds (P := State.Sound) h1 (ite_holds (P := State.Sound) (State.sound_mk h1.regs h1.shadow h1.cnts
      h1.tot h1.hold h1.pairs h1.ctl h1.host h1.hlt h1.nvm h1.cls h1.time (TblSt.sound_mk h1.tbl.slots h1.tbl.filters
      h1.tbl.nhs h1.tbl.groups h1.tbl.members h1.tbl.lags) h1.leaf h1.xbar h1.buf h1.tm h1.sky) (State.sound_mk
      h1.regs h1.shadow h1.cnts h1.tot h1.hold h1.pairs h1.ctl h1.host h1.hlt h1.nvm h1.cls h1.time (TblSt.sound_mk
      h1.tbl.slots h1.tbl.filters h1.tbl.nhs h1.tbl.groups h1.tbl.members h1.tbl.lags) h1.leaf h1.xbar h1.buf h1.tm
      h1.sky)))
  · refine ite_holds (P := State.Sound) ?_ ?_
    · exact (State.sound_mk h1.regs h1.shadow h1.cnts h1.tot h1.hold h1.pairs h1.ctl h1.host h1.hlt h1.nvm h1.cls
        h1.time (TblSt.sound_mk h1.tbl.slots h1.tbl.filters h1.tbl.nhs h1.tbl.groups h1.tbl.members h1.tbl.lags)
        h1.leaf h1.xbar h1.buf h1.tm h1.sky)
    · split
      · exact (sound_State_count _ _ _ _ _ (State.sound_mk h1.regs h1.shadow h1.cnts h1.tot h1.hold h1.pairs h1.ctl
          h1.host h1.hlt h1.nvm h1.cls h1.time (TblSt.sound_mk h1.tbl.slots h1.tbl.filters h1.tbl.nhs h1.tbl.groups
          h1.tbl.members h1.tbl.lags) h1.leaf h1.xbar h1.buf h1.tm h1.sky))
      · exact (sound_State_count _ _ _ _ _ h1)

theorem sound_learnFrame : ∀ a0 a1 a2 a3 a4 a5, State.Sound a5 →
    State.Sound (learnFrame a0 a1 a2 a3 a4 a5) := by
  intro a0 a1 a2 a3 a4 a5 h5
  unfold learnFrame
  refine ite_holds (P := State.Sound) ?_ ?_
  · exact h5
  · extract_lets +onlyGivenNames -merge x0
    extract_lets +onlyGivenNames -merge x1
    split
    · rename_i v2 v3 heq4
      have hv3 : State.Sound v3 := holds_eq (P := (Snd State.Sound)) heq4 (by
          exact (sound_lookupKey _ _ _ h5))
      split
      · exact (sound_offerCand _ _ hv3)
      · exact (ite_holds (P := State.Sound) (sound_setEnt _ _ _ hv3) (ite_holds (P := State.Sound) (sound_State_count
          _ _ _ _ _ hv3) (sound_offerCand _ _ (sound_setEnt _ _ _ hv3))))

theorem sound_learnLeaf : ∀ a0 a1 a2, State.Sound a2 →
    State.Sound (learnLeaf a0 a1 a2) := by
  intro a0 a1 a2 h2
  unfold learnLeaf
  exact (ite_holds (P := State.Sound) (sound_learnFrame _ _ _ _ _ _ h2) h2)

theorem sound_lookIn : ∀ a0 a1, State.Sound a1 →
    Snd State.Sound (lookIn a0 a1) := by
  intro a0 a1 h1
  unfold lookIn
  extract_lets +onlyGivenNames -merge x0
  extract_lets +onlyGivenNames -merge x1
  refine snd_holds (P := State.Sound) ?_
  exact (State.sound_mk h1.regs h1.shadow h1.cnts h1.tot h1.hold h1.pairs h1.ctl h1.host h1.hlt h1.nvm h1.cls h1.time
      h1.tbl (LeafSt.sound_mk h1.leaf.ports h1.leaf.lanes h1.leaf.samples h1.leaf.copies h1.leaf.looks
      (SMap.sorted_put h1.leaf.inLooks _ _ _)) h1.xbar h1.buf h1.tm h1.sky)

theorem sound_toHost : ∀ a0 a1 a2 a3 a4, State.Sound a4 →
    Snd State.Sound (toHost a0 a1 a2 a3 a4) := by
  intro a0 a1 a2 a3 a4 h4
  unfold toHost
  refine ite_holds (P := (Snd State.Sound)) ?_ ?_
  · refine snd_holds (P := State.Sound) ?_
    exact (sound_State_count _ _ _ _ _ h4)
  · split
    · rename_i v0 heq1
      have hv0 : State.Sound v0 := holds_eq (P := (Snd State.Sound)) heq1 (by
          exact (sound_idlPass _ _ _ h4))
      refine snd_holds (P := State.Sound) ?_
      exact (sound_State_count _ _ _ _ _ hv0)
    · rename_i v2 heq3
      have hv2 : State.Sound v2 := holds_eq (P := (Snd State.Sound)) heq3 (by
          exact (sound_idlPass _ _ _ h4))
      exact (sound_rxPlace _ _ _ _ hv2)

theorem sound_hostFrame : ∀ a0 a1 a2 a3 a4, State.Sound a4 →
    State.Sound (hostFrame a0 a1 a2 a3 a4) := by
  intro a0 a1 a2 a3 a4 h4
  unfold hostFrame
  split
  · rename_i v0 heq1
    have hv0 : State.Sound v0 := holds_eq (P := (Snd State.Sound)) heq1 (by
        exact (sound_toHost _ _ _ _ _ h4))
    exact (sound_inDrop _ _ hv0)
  · rename_i v2 heq3
    have hv2 : State.Sound v2 := holds_eq (P := (Snd State.Sound)) heq3 (by
        exact (sound_toHost _ _ _ _ _ h4))
    extract_lets +onlyGivenNames -merge x4
    have hx4 : State.Sound x4 := (sound_State_led _ _ _ _ hv2)
    clear_value x4
    split
    · exact (sound_unitDone _ _ _ _ _ _ hx4)
    · exact hx4

theorem sound_ingressEdit : ∀ a0 a1 a2 a3 a4 a5 a6 a7, State.Sound a7 →
    Snd State.Sound (ingressEdit a0 a1 a2 a3 a4 a5 a6 a7) := by
  intro q f w ip fw rule hash s h
  unfold ingressEdit
  extract_lets d0 d one
  have h1 : ∀ p a, State.Sound a.2 → State.Sound (one p a).2 := by
    intro p a ha
    unfold one
    split
    · dsimp only
      split <;> exact sound_editCounts _ _ _ ha
    · exact ha
  have h2 := h1 rule _ (h1 fw.edit (some (EditFrame.ofWalk d w.hdrs), s) h)
  split
  · rename_i heq; rw [heq] at h2; exact h2
  · rename_i heq; rw [heq] at h2; exact h2

theorem sound_launch : ∀ a0 a1 a2 a3 a4 a5 a6, State.Sound a6 →
    State.Sound (launch a0 a1 a2 a3 a4 a5 a6) := by
  intro a0 a1 a2 a3 a4 a5 a6 h6
  unfold launch
  extract_lets +onlyGivenNames -merge x0
  extract_lets +onlyGivenNames -merge x1
  extract_lets +onlyGivenNames -merge x2
  extract_lets +onlyGivenNames -merge x3
  subst x3
  beta_reduce
  extract_lets +onlyGivenNames -merge x4
  refine ite_holds (P := State.Sound) ?_ ?_
  · extract_lets +onlyGivenNames -merge x5
    have hx5 : State.Sound x5 := (ite_holds (P := State.Sound) h6 (ite_holds (P := State.Sound) (sound_chargeCells _
        _ _ h6) (ite_holds (P := State.Sound) (sound_dischargeCells _ _ _ h6) h6)))
    clear_value x5
    extract_lets +onlyGivenNames -merge x6
    have hx6 : State.Sound x6 := (sound_feedPut _ _ _ hx5)
    clear_value x6
    exact (ite_holds (P := State.Sound) (sound_State_led _ _ _ _ (sound_State_count _ _ _ _ _ hx6)) hx6)
  · refine ite_holds (P := State.Sound) ?_ ?_
    · exact (sound_inDrop _ _ (ite_holds (P := State.Sound) h6 (ite_holds (P := State.Sound) (sound_chargeCells _ _ _
        h6) (ite_holds (P := State.Sound) (sound_dischargeCells _ _ _ h6) h6))))
    · split
      · rename_i v7 heq8
        have hv7 : State.Sound v7 := holds_eq (P := (Snd State.Sound)) heq8 (by
            exact (sound_sendFrame _ _ _ _ h6))
        exact (ite_holds (P := State.Sound) hv7 (ite_holds (P := State.Sound) (sound_chargeCells _ _ _ hv7)
            (ite_holds (P := State.Sound) (sound_dischargeCells _ _ _ hv7) hv7)))
      · rename_i v9 v10 heq11
        have hv10 : State.Sound v10 := holds_eq (P := (Snd State.Sound)) heq11 (by
            exact (sound_sendFrame _ _ _ _ h6))
        exact (sound_inDrop _ _ (ite_holds (P := State.Sound) (sound_State_count _ _ _ _ _ hv10) (ite_holds (P :=
            State.Sound) (sound_chargeCells _ _ _ (sound_State_count _ _ _ _ _ hv10)) (ite_holds (P := State.Sound)
            (sound_dischargeCells _ _ _ (sound_State_count _ _ _ _ _ hv10)) (sound_State_count _ _ _ _ _ hv10)))))

theorem sound_setPol : ∀ a0 a1 a2, State.Sound a2 →
    State.Sound (setPol a0 a1 a2) := by
  intro a0 a1 a2 h2
  unfold setPol
  exact (State.sound_mk h2.regs h2.shadow h2.cnts h2.tot h2.hold h2.pairs h2.ctl h2.host h2.hlt h2.nvm h2.cls h2.time
      h2.tbl h2.leaf h2.xbar h2.buf (TmSt.sound_mk h2.tm.queues h2.tm.charge h2.tm.shapers (SMap.sorted_put
      h2.tm.pols _ _ _) h2.tm.was h2.tm.wxLog) h2.sky)

theorem sound_policerRefresh : ∀ a0 a1, State.Sound a1 →
    State.Sound (policerRefresh a0 a1) := by
  intro a0 a1 h1
  unfold policerRefresh
  extract_lets +onlyGivenNames -merge x0
  exact (ite_holds (P := State.Sound) (sound_setPol _ _ _ h1) h1)

theorem sound_police : ∀ a0 a1 a2 a3, State.Sound a3 →
    Snd State.Sound (police a0 a1 a2 a3) := by
  intro a0 a1 a2 a3 h3
  unfold police
  extract_lets +onlyGivenNames -merge x0
  have hx0 : State.Sound x0 := (sound_policerRefresh _ _ h3)
  clear_value x0
  extract_lets +onlyGivenNames -merge x1
  refine ite_holds (P := (Snd State.Sound)) ?_ ?_
  · refine snd_holds (P := State.Sound) ?_
    exact hx0
  · refine ite_holds (P := (Snd State.Sound)) ?_ ?_
    · refine snd_holds (P := State.Sound) ?_
      exact (sound_setPol _ _ _ hx0)
    · refine snd_holds (P := State.Sound) ?_
      exact (sound_State_count _ _ _ _ _ (sound_setPol _ _ _ hx0))

theorem sound_onward : ∀ a0 a1 a2 a3 a4 a5 a6 a7 a8, State.Sound a8 →
    State.Sound (onward a0 a1 a2 a3 a4 a5 a6 a7 a8) := by
  intro a0 a1 a2 a3 a4 a5 a6 a7 a8 h8
  unfold onward
  extract_lets +onlyGivenNames -merge x0
  extract_lets +onlyGivenNames -merge x1
  extract_lets +onlyGivenNames -merge x2
  extract_lets +onlyGivenNames -merge x3
  subst x3
  beta_reduce
  extract_lets +onlyGivenNames -merge x4
  have hx4 : State.Sound x4 := (ite_holds (P := State.Sound) h8 (sound_chargeCells _ _ _ h8))
  clear_value x4
  split
  · rename_i v5 v6 heq7
    have hv6 : State.Sound v6 := holds_eq (P := (Snd State.Sound)) heq7 (by
        refine ite_holds (P := (Snd State.Sound)) ?_ ?_
        · refine snd_holds (P := State.Sound) ?_
          exact hx4
        · split
          · exact (sound_police _ _ _ _ hx4)
          · refine snd_holds (P := State.Sound) ?_
            exact hx4)
    extract_lets +onlyGivenNames -merge x11
    split
    · exact (sound_inDrop _ _ (ite_holds (P := State.Sound) hv6 (sound_dischargeCells _ _ _ hv6)))
    · refine ite_holds (P := State.Sound) ?_ ?_
      · exact (sound_inDrop _ _ (ite_holds (P := State.Sound) hv6 (sound_dischargeCells _ _ _ hv6)))
      · split
        · rename_i v17 heq18
          have hv17 : State.Sound v17 := holds_eq (P := (Snd State.Sound)) heq18 (by
              exact (sound_ingressEdit _ _ _ _ _ _ _ _ hv6))
          exact (sound_inDrop _ _ (ite_holds (P := State.Sound) hv17 (sound_dischargeCells _ _ _ hv17)))
        · rename_i v19 v20 heq21
          have hv20 : State.Sound v20 := holds_eq (P := (Snd State.Sound)) heq21 (by
              exact (sound_ingressEdit _ _ _ _ _ _ _ _ hv6))
          exact (ite_holds (P := State.Sound) (sound_inDrop _ _ (ite_holds (P := State.Sound) (sound_State_count _ _
              _ _ _ hv20) (sound_dischargeCells _ _ _ (sound_State_count _ _ _ _ _ hv20)))) (ite_holds (P :=
              State.Sound) (sound_hostFrame _ _ _ _ _ hv20) (sound_dischargeCells _ _ _ (sound_hostFrame _ _ _ _ _
              hv20))))
    · split
      · refine ite_holds (P := State.Sound) ?_ ?_
        · exact (sound_inDrop _ _ (ite_holds (P := State.Sound) hv6 (sound_dischargeCells _ _ _ hv6)))
        · split
          · rename_i v27 heq28
            have hv27 : State.Sound v27 := holds_eq (P := (Snd State.Sound)) heq28 (by
                exact (sound_ingressEdit _ _ _ _ _ _ _ _ hv6))
            exact (sound_inDrop _ _ (ite_holds (P := State.Sound) hv27 (sound_dischargeCells _ _ _ hv27)))
          · rename_i v29 v30 heq31
            have hv30 : State.Sound v30 := holds_eq (P := (Snd State.Sound)) heq31 (by
                exact (sound_ingressEdit _ _ _ _ _ _ _ _ hv6))
            extract_lets +onlyGivenNames -merge x32
            extract_lets +onlyGivenNames -merge x33
            have hx33 : State.Sound x33 := (sound_State_countIf _ _ _ _ _ hv30)
            clear_value x33
            exact (sound_launch _ _ _ _ _ _ _ hx33)
    · split
      · refine ite_holds (P := State.Sound) ?_ ?_
        · exact (sound_inDrop _ _ (ite_holds (P := State.Sound) hv6 (sound_dischargeCells _ _ _ hv6)))
        · split
          · rename_i v40 heq41
            have hv40 : State.Sound v40 := holds_eq (P := (Snd State.Sound)) heq41 (by
                exact (sound_ingressEdit _ _ _ _ _ _ _ _ hv6))
            exact (sound_inDrop _ _ (ite_holds (P := State.Sound) hv40 (sound_dischargeCells _ _ _ hv40)))
          · rename_i v42 v43 heq44
            have hv43 : State.Sound v43 := holds_eq (P := (Snd State.Sound)) heq44 (by
                exact (sound_ingressEdit _ _ _ _ _ _ _ _ hv6))
            extract_lets +onlyGivenNames -merge x45
            extract_lets +onlyGivenNames -merge x46
            have hx46 : State.Sound x46 := (sound_State_countIf _ _ _ _ _ hv43)
            clear_value x46
            exact (sound_launch _ _ _ _ _ _ _ hx46)

theorem sound_classify : ∀ a0 a1 a2, State.Sound a2 →
    State.Sound (classify a0 a1 a2) := by
  intro a0 a1 a2 h2
  unfold classify
  extract_lets +onlyGivenNames -merge x0
  split
  · rename_i v1 v2 heq3
    have hv2 : State.Sound v2 := holds_eq (P := (Snd State.Sound)) heq3 (by
        exact (sound_lookIn _ _ h2))
    extract_lets +onlyGivenNames -merge x4
    extract_lets +onlyGivenNames -merge x5
    extract_lets +onlyGivenNames -merge x6
    extract_lets +onlyGivenNames -merge x7
    extract_lets +onlyGivenNames -merge x8
    extract_lets +onlyGivenNames -merge x9
    extract_lets +onlyGivenNames -merge x10
    have hx10 : State.Sound x10 := (sound_ruleParity _ _ _ hv2)
    clear_value x10
    split
    · rename_i v11 v12 heq13
      have hv12 : State.Sound v12 := holds_eq (P := (Snd State.Sound)) heq13 (by
          exact (sound_tableLookup _ _ _ _ _ hx10))
      extract_lets +onlyGivenNames -merge x14
      have hx14 : State.Sound x14 := (sound_learnLeaf _ _ _ hv12)
      clear_value x14
      extract_lets +onlyGivenNames -merge x15
      extract_lets +onlyGivenNames -merge x16
      split
      · rename_i v17 v18 v19 heq20
        have hv19 : State.Sound v19 := holds_eq (P := (Snd (Snd State.Sound))) heq20 (by
            exact (sound_decide' _ _ _ _ _ hx14))
        extract_lets +onlyGivenNames -merge x21
        have hx21 : State.Sound x21 := by
          subst x21
          split
          · exact (sound_inDrop _ _ (ite_holds (P := State.Sound) hv19 (sound_State_count _ _ _ _ _ hv19)))
          · exact (sound_onward _ _ _ _ _ _ _ _ _ hv19)
        clear_value x21
        refine ite_holds (P := State.Sound) ?_ ?_
        · exact hx21
        · extract_lets +onlyGivenNames -merge x26
          have hx26 : State.Sound x26 := (sound_flowCount _ _ _ hx21)
          clear_value x26
          exact (sound_ingressCopy _ _ _ _ _ hx26)

theorem sound_parseStep : ∀ a0 a1 a2, State.Sound a2 →
    Snd State.Sound (parseStep a0 a1 a2) := by
  intro a0 a1 a2 h2
  unfold parseStep
  extract_lets +onlyGivenNames -merge x0
  extract_lets +onlyGivenNames -merge x1
  split
  · refine snd_holds (P := State.Sound) ?_
    exact h2
  · extract_lets +onlyGivenNames -merge x5
    have hx5 : State.Sound x5 := (sound_State_countIf _ _ _ _ _ h2)
    clear_value x5
    extract_lets +onlyGivenNames -merge x6
    refine ite_holds (P := (Snd State.Sound)) ?_ ?_
    · refine snd_holds (P := State.Sound) ?_
      exact hx5
    · refine ite_holds (P := (Snd State.Sound)) ?_ ?_
      · refine snd_holds (P := State.Sound) ?_
        exact (sound_inDrop _ _ hx5)
      · extract_lets +onlyGivenNames -merge x7
        have hx7 : State.Sound x7 := (ite_holds (P := State.Sound) (sound_learnLeaf _ _ _ hx5) hx5)
        clear_value x7
        extract_lets +onlyGivenNames -merge x8
        refine snd_holds (P := State.Sound) ?_
        exact (sound_hostFrame _ _ _ _ _ hx7)

theorem sound_ingressFrame : ∀ a0 a1, State.Sound a1 →
    State.Sound (ingressFrame a0 a1) := by
  intro a0 a1 h1
  unfold ingressFrame
  split
  · rename_i v0 heq1
    have hv0 : State.Sound v0 := holds_eq (P := (Snd State.Sound)) heq1 (by
        exact (sound_parseStep _ _ _ h1))
    exact hv0
  · rename_i v2 v3 heq4
    have hv3 : State.Sound v3 := holds_eq (P := (Snd State.Sound)) heq4 (by
        exact (sound_parseStep _ _ _ h1))
    exact (sound_classify _ _ _ hv3)

theorem sound_directFrame : ∀ a0 a1 a2 a3 a4, State.Sound a4 →
    State.Sound (directFrame a0 a1 a2 a3 a4) := by
  intro a0 a1 a2 a3 a4 h4
  unfold directFrame
  split
  · rename_i v0 heq1
    have hv0 : State.Sound v0 := holds_eq (P := (Snd State.Sound)) heq1 (by
        exact (sound_parseStep _ _ _ h4))
    exact hv0
  · rename_i v2 v3 heq4
    have hv3 : State.Sound v3 := holds_eq (P := (Snd State.Sound)) heq4 (by
        exact (sound_parseStep _ _ _ h4))
    extract_lets +onlyGivenNames -merge x5
    exact (sound_launch _ _ _ _ _ _ _ hv3)

theorem sound_execTxDescriptor : ∀ a0 a1, State.Sound a1 →
    ResHolds (execTxDescriptor a0 a1) := by
  intro a0 a1 h1
  unfold execTxDescriptor
  refine next_holds ?_
  split
  · exact h1
  · extract_lets +onlyGivenNames -merge x4
    exact (ite_holds (P := State.Sound) (sound_setUnitSt _ _ _ _ h1) (sound_finish _ _ _ _ h1))

theorem sound_readSegs : ∀ a0 a1 a2 a3, State.Sound a3 →
    Snd (Snd State.Sound) (readSegs a0 a1 a2 a3) := by
  intro l
  induction l with
  | nil => exact fun st acc s h => h
  | cons d l ih =>
    intro st acc s h
    unfold readSegs
    have h1 := sound_dmaRead (entWord d 1) (bits (entWord d 0) 15 0) s h
    split
    · rename_i heq; rw [heq] at h1; exact ih _ _ _ h1
    · rename_i heq; rw [heq] at h1; exact ih _ _ _ h1

theorem sound_inject : ∀ a0 a1 a2 a3, State.Sound a3 →
    State.Sound (inject a0 a1 a2 a3) := by
  intro a0 a1 a2 a3 h3
  unfold inject
  extract_lets +onlyGivenNames -merge x0
  extract_lets +onlyGivenNames -merge x1
  split
  · rename_i v2 v3 v4 heq5
    have hv4 : State.Sound v4 := holds_eq (P := (Snd (Snd State.Sound))) heq5 (by
        exact (sound_readSegs _ _ _ _ h3))
    refine ite_holds (P := State.Sound) ?_ ?_
    · exact (sound_finish _ _ _ _ hv4)
    · extract_lets +onlyGivenNames -merge x6
      have hx6 : State.Sound x6 := (sound_State_led _ _ _ _ (sound_setUnitSt _ _ _ _ hv4))
      clear_value x6
      extract_lets +onlyGivenNames -merge x7
      exact (ite_holds (P := State.Sound) (sound_directFrame _ _ _ _ _ hx6) (sound_ingressFrame _ _ hx6))

theorem sound_execTxFrameInject : ∀ a0 a1, State.Sound a1 →
    ResHolds (execTxFrameInject a0 a1) := by
  intro a0 a1 h1
  unfold execTxFrameInject
  refine next_holds ?_
  refine ite_holds (P := State.Sound) ?_ ?_
  · exact h1
  · split
    · exact h1
    · split
      · exact h1
      · extract_lets +onlyGivenNames -merge x7
        exact (ite_holds (P := State.Sound) h1 (sound_inject _ _ _ _ (State.sound_mk h1.regs h1.shadow h1.cnts h1.tot
            h1.hold h1.pairs h1.ctl (HostSt.sound_mk h1.host.rings h1.host.mem h1.host.ext (SMap.sorted_insert
            h1.host.txLast _ _)) h1.hlt h1.nvm h1.cls h1.time h1.tbl h1.leaf h1.xbar h1.buf h1.tm h1.sky)))

/-! ### Machine/Receive.lean -/

theorem sound_badFrame : ∀ a0 a1 a2 a3, State.Sound a3 →
    State.Sound (badFrame a0 a1 a2 a3) := by
  intro a0 a1 a2 a3 h3
  unfold badFrame
  extract_lets +onlyGivenNames -merge x0
  have hx0 : State.Sound x0 := (sound_State_count _ _ _ _ _ h3)
  clear_value x0
  extract_lets +onlyGivenNames -merge x1
  exact (ite_holds (P := State.Sound) (sound_inDrop _ _ hx0) (sound_ingressFrame _ _ hx0))

theorem sound_clearRx : ∀ a0 a1, State.Sound a1 →
    State.Sound (clearRx a0 a1) := by
  intro a0 a1 h1
  unfold clearRx
  exact (sound_setPort _ _ _ h1)

theorem sound_overrun : ∀ a0 a1, State.Sound a1 →
    State.Sound (overrun a0 a1) := by
  intro a0 a1 h1
  unfold overrun
  exact (sound_State_led _ _ _ _ (sound_State_count _ _ _ _ _ (sound_State_led _ _ _ _ h1)))

theorem sound_rxTaken : ∀ a0 a1 a2 a3, (∀ z0, State.Sound z0 → State.Sound (a2 z0)) → State.Sound a3 →
    State.Sound (rxTaken a0 a1 a2 a3) := by
  intro a0 a1 a2 a3 h2 h3
  unfold rxTaken
  split
  · exact h3
  · refine h2 _ (sound_State_led _ _ _ _ h3)

  · refine ite_holds (P := State.Sound) ?_ ?_
    · exact (sound_overrun _ _ h3)
    · refine h2 _ (sound_State_led _ _ _ _ h3)

theorem sound_cutRx : ∀ a0 a1 a2, State.Sound a2 →
    State.Sound (cutRx a0 a1 a2) := by
  intro a0 a1 a2 h2
  unfold cutRx
  extract_lets +onlyGivenNames -merge x0
  extract_lets +onlyGivenNames -merge x1
  have hx1 : State.Sound x1 := (sound_clearRx _ _ h2)
  clear_value x1
  split
  · exact hx1
  · refine ite_holds (P := State.Sound) ?_ ?_
    · refine sound_rxTaken _ _ _ _ ?_ hx1
      · intro y5 hy5
        exact (sound_badFrame _ _ _ _ hy5)
    · exact hx1

theorem sound_groupRestart : ∀ a0 a1, State.Sound a1 →
    State.Sound (groupRestart a0 a1) := by
  intro a0 a1 h1
  unfold groupRestart
  extract_lets +onlyGivenNames -merge x0
  extract_lets +onlyGivenNames -merge x1
  refine ite_holds (P := State.Sound) ?_ ?_
  · exact (sound_State_setFld _ _ _ _ _ h1)
  · extract_lets +onlyGivenNames -merge x2
    have hx2 : State.Sound x2 := (foldl_holds (P := State.Sound) (fun _ _ hm3 => (sound_setPort _ _ _
        (sound_clearPause _ _ (sound_flushPort _ _ (sound_abandonTx _ _ (sound_loseLink _ _ (sound_cutRx _ _ _
        (ite_holds (P := State.Sound) (sound_State_count _ _ _ _ _ hm3) hm3)))))))) h1)
    clear_value x2
    extract_lets +onlyGivenNames -merge x4
    have hx4 : LeafSt.Sound x4 := hx2.leaf
    clear_value x4
    extract_lets +onlyGivenNames -merge x5
    have hx5 : State.Sound x5 := (State.sound_mk hx2.regs hx2.shadow hx2.cnts hx2.tot hx2.hold hx2.pairs hx2.ctl
        hx2.host hx2.hlt hx2.nvm hx2.cls hx2.time hx2.tbl (LeafSt.sound_mk hx4.ports (SMap.sorted_keep hx2.leaf.lanes
        _) hx4.samples hx4.copies hx4.looks hx4.inLooks) hx2.xbar hx2.buf hx2.tm hx2.sky)
    clear_value x5
    extract_lets +onlyGivenNames -merge x6
    have hx6 : State.Sound x6 := (sound_State_setFld _ _ _ _ _ (sound_State_setFld _ _ _ _ _ (sound_State_setFld _ _
        _ _ _ hx5)))
    clear_value x6
    exact (foldl_holds (P := State.Sound) (fun _ _ hm7 => (sound_startLine _ _ (sound_State_setReg _ _ _ _ _ hm7)))
        hx6)

theorem sound_doze : ∀ a0 a1, State.Sound a1 →
    State.Sound (doze a0 a1) := by
  intro a0 a1 h1
  unfold doze
  extract_lets +onlyGivenNames -merge x0
  refine ite_holds (P := State.Sound) ?_ ?_
  · exact h1
  · refine ite_holds (P := State.Sound) ?_ ?_
    · extract_lets +onlyGivenNames -merge x1
      have hx1 : State.Sound x1 := (sound_dropLanes _ _ (sound_endPause _ _ (sound_loseLink _ _ (sound_cutRx _ _ _
          h1))))
      clear_value x1
      extract_lets +onlyGivenNames -merge x2
      extract_lets +onlyGivenNames -merge x3
      have hx3 : State.Sound x3 := (sound_setPort _ _ _ hx1)
      clear_value x3
      exact (sound_State_setFld _ _ _ _ _ (sound_State_setFld _ _ _ _ _ (sound_State_setFld _ _ _ _ _ hx3)))
    · exact (sound_State_setFld _ _ _ _ _ h1)

theorem sound_wake : ∀ a0 a1, State.Sound a1 →
    State.Sound (wake a0 a1) := by
  intro a0 a1 h1
  unfold wake
  refine ite_holds (P := State.Sound) ?_ ?_
  · extract_lets +onlyGivenNames -merge x0
    have hx0 : State.Sound x0 := (sound_State_setFld _ _ _ _ _ (sound_State_count _ _ _ _ _ h1))
    clear_value x0
    extract_lets +onlyGivenNames -merge x1
    extract_lets +onlyGivenNames -merge x2
    have hx2 : State.Sound x2 := (sound_setPort _ _ _ hx0)
    clear_value x2
    exact (sound_State_emit _ _ hx2)
  · exact h1

theorem sound_dozeCtrl : ∀ a0 a1 a2, State.Sound a2 →
    State.Sound (dozeCtrl a0 a1 a2) := by
  intro a0 a1 a2 h2
  unfold dozeCtrl
  extract_lets +onlyGivenNames -merge x0
  extract_lets +onlyGivenNames -merge x1
  exact (ite_holds (P := State.Sound) (sound_logWrite _ _ _ h2) (ite_holds (P := State.Sound) (sound_doze _ _ h2)
      (ite_holds (P := State.Sound) (sound_wake _ _ h2) h2)))

theorem sound_dropLane : ∀ a0 a1, State.Sound a1 →
    State.Sound (dropLane a0 a1) := by
  intro a0 a1 h1
  unfold dropLane
  extract_lets +onlyGivenNames -merge x0
  extract_lets +onlyGivenNames -merge x1
  have hx1 : LeafSt.Sound x1 := h1.leaf
  clear_value x1
  extract_lets +onlyGivenNames -merge x2
  have hx2 : State.Sound x2 := (State.sound_mk h1.regs h1.shadow h1.cnts h1.tot h1.hold h1.pairs h1.ctl h1.host
      h1.hlt h1.nvm h1.cls h1.time h1.tbl (LeafSt.sound_mk hx1.ports (SMap.sorted_erase h1.leaf.lanes _) hx1.samples
      hx1.copies hx1.looks hx1.inLooks) h1.xbar h1.buf h1.tm h1.sky)
  clear_value x2
  exact (ite_holds (P := State.Sound) (sound_linkDown _ _ (sound_cutRx _ _ _ hx2)) (sound_setPort _ _ _ hx2))

theorem sound_execDoze : ∀ a0 a1 a2, State.Sound a2 →
    ResHolds (execDoze a0 a1 a2) := by
  intro a0 a1 a2 h2
  unfold execDoze
  refine next_holds ?_
  extract_lets +onlyGivenNames -merge x0
  refine sound_far _ _ _ ?_ h2
  · intro y1 hy1
    exact (sound_dozeCtrl _ _ _ hy1)

theorem sound_execLaneAlignLoss : ∀ a0 a1, State.Sound a1 →
    ResHolds (execLaneAlignLoss a0 a1) := by
  intro a0 a1 h1
  unfold execLaneAlignLoss
  refine next_holds ?_
  exact (ite_holds (P := State.Sound) (sound_dropLane _ _ (sound_State_count _ _ _ _ _ h1)) h1)

theorem sound_execLeafGroupRestart : ∀ a0 a1 a2, State.Sound a2 →
    ResHolds (execLeafGroupRestart a0 a1 a2) := by
  intro a0 a1 a2 h2
  unfold execLeafGroupRestart
  refine next_holds ?_
  refine sound_far _ _ _ ?_ h2
  · intro y0 hy0
    exact (sound_groupRestart _ _ hy0)

theorem sound_fecReport : ∀ a0 a1 a2 a3, State.Sound a3 →
    State.Sound (fecReport a0 a1 a2 a3) := by
  intro a0 a1 a2 a3 h3
  unfold fecReport
  extract_lets +onlyGivenNames -merge x0
  have hx0 : State.Sound x0 := (foldl_holds (P := State.Sound) (fun _ _ hm1 => (sound_State_count _ _ _ _ _
      (sound_State_count _ _ _ _ _ (sound_State_count _ _ _ _ _ hm1)))) h3)
  clear_value x0
  extract_lets +onlyGivenNames -merge x2
  extract_lets +onlyGivenNames -merge x3
  extract_lets +onlyGivenNames -merge x4
  extract_lets +onlyGivenNames -merge x5
  have hx5 : State.Sound x5 := (sound_setPort _ _ _ hx0)
  clear_value x5
  exact (ite_holds (P := State.Sound) (sound_relock _ _ (sound_linkDown _ _ (sound_cutRx _ _ _ hx5))) hx5)

theorem sound_goodFrame : ∀ a0 a1 a2, State.Sound a2 →
    State.Sound (goodFrame a0 a1 a2) := by
  intro a0 a1 a2 h2
  unfold goodFrame
  extract_lets +onlyGivenNames -merge x0
  have hx0 : State.Sound x0 := (sound_State_count _ _ _ _ _ (sound_State_count _ _ _ _ _ h2))
  clear_value x0
  extract_lets +onlyGivenNames -merge x1
  extract_lets +onlyGivenNames -merge x2
  extract_lets +onlyGivenNames -merge x3
  extract_lets +onlyGivenNames -merge x4
  have hx4 : State.Sound x4 := (sound_sampleFrame _ _ _ hx0)
  clear_value x4
  exact (sound_ingressFrame _ _ hx4)

theorem sound_rxMore : ∀ a0 a1 a2, State.Sound a2 →
    State.Sound (rxMore a0 a1 a2) := by
  intro a0 a1 a2 h2
  unfold rxMore
  split
  · exact (sound_setPort _ _ _ h2)
  · extract_lets +onlyGivenNames -merge x4
    extract_lets +onlyGivenNames -merge x5
    have hx5 : State.Sound x5 := (ite_holds (P := State.Sound) (sound_overrun _ _ h2) h2)
    clear_value x5
    exact (sound_setPort _ _ _ hx5)

theorem sound_receive : ∀ a0 a1 a2, State.Sound a2 →
    State.Sound (receive a0 a1 a2) := by
  intro a0 a1 a2 h2
  unfold receive
  refine ite_holds (P := State.Sound) ?_ ?_
  · exact h2
  · refine ite_holds (P := State.Sound) ?_ ?_
    · exact (sound_rxMore _ _ _ h2)
    · extract_lets +onlyGivenNames -merge x0
      extract_lets +onlyGivenNames -merge x1
      have hx1 : State.Sound x1 := (sound_clearRx _ _ h2)
      clear_value x1
      refine ite_holds (P := State.Sound) ?_ ?_
      · exact (sound_macControl _ _ _ hx1)
      · refine sound_rxTaken _ _ _ _ ?_ hx1
        · intro y2 hy2
          split
          · exact (sound_badFrame _ _ _ _ hy2)
          · exact (sound_goodFrame _ _ _ hy2)

theorem sound_execLeafRxFrame : ∀ a0 a1 a2 a3, State.Sound a3 →
    ResHolds (execLeafRxFrame a0 a1 a2 a3) := by
  intro a0 a1 a2 a3 h3
  unfold execLeafRxFrame
  refine next_holds ?_
  refine sound_admitting _ _ ?_ h3
  · intro y0 hy0
    exact (sound_receive _ _ _ (sound_fecReport _ _ _ _ hy0))

theorem sound_execLinkDown : ∀ a0 a1 a2, State.Sound a2 →
    ResHolds (execLinkDown a0 a1 a2) := by
  intro a0 a1 a2 h2
  unfold execLinkDown
  refine next_holds ?_
  exact (ite_holds (P := State.Sound) (sound_dropLanes _ _ (sound_linkDown _ _ (sound_cutRx _ _ _ h2))) h2)

theorem sound_execPauseFrameRx : ∀ a0 a1 a2, State.Sound a2 →
    ResHolds (execPauseFrameRx a0 a1 a2) := by
  intro a0 a1 a2 h2
  unfold execPauseFrameRx
  refine next_holds ?_
  refine sound_admitting _ _ ?_ h2
  · intro y0 hy0
    exact (ite_holds (P := State.Sound) (sound_receive _ _ _ hy0) hy0)

theorem sound_execPauseWatchdog : ∀ a0 a1 a2, State.Sound a2 →
    ResHolds (execPauseWatchdog a0 a1 a2) := by
  intro a0 a1 a2 h2
  unfold execPauseWatchdog
  refine next_holds ?_
  extract_lets +onlyGivenNames -merge x0
  extract_lets +onlyGivenNames -merge x1
  extract_lets +onlyGivenNames -merge x2
  extract_lets +onlyGivenNames -merge x3
  extract_lets +onlyGivenNames -merge x4
  split
  · refine ite_holds (P := State.Sound) ?_ ?_
    · exact h2
    · extract_lets +onlyGivenNames -merge x7
      extract_lets +onlyGivenNames -merge x8
      have hx8 : State.Sound x8 := (sound_fault _ _ _ _ _ (sound_State_count _ _ _ _ _ h2))
      clear_value x8
      extract_lets +onlyGivenNames -merge x9
      exact (sound_showPause _ _ (sound_setPort _ _ _ hx8))
  · exact h2

theorem sound_execWake : ∀ a0 a1 a2, State.Sound a2 →
    ResHolds (execWake a0 a1 a2) := by
  intro a0 a1 a2 h2
  unfold execWake
  refine next_holds ?_
  extract_lets +onlyGivenNames -merge x0
  refine sound_far _ _ _ ?_ h2
  · intro y1 hy1
    exact (sound_dozeCtrl _ _ _ hy1)

theorem sound_wakeUp : ∀ a0 a1, State.Sound a1 →
    State.Sound (wakeUp a0 a1) := by
  intro a0 a1 h1
  unfold wakeUp
  extract_lets +onlyGivenNames -merge x0
  extract_lets +onlyGivenNames -merge x1
  have hx1 : State.Sound x1 := (sound_startLine _ _ (sound_setPort _ _ _ h1))
  clear_value x1
  exact (sound_State_setFld _ _ _ _ _ (sound_State_setFld _ _ _ _ _ hx1))

theorem sound_execWakePatternDetect : ∀ a0 a1 a2 a3, State.Sound a3 →
    ResHolds (execWakePatternDetect a0 a1 a2 a3) := by
  intro a0 a1 a2 a3 h3
  unfold execWakePatternDetect
  refine next_holds ?_
  refine ite_holds (P := State.Sound) ?_ ?_
  · extract_lets +onlyGivenNames -merge x0
    have hx0 : State.Sound x0 := (ite_holds (P := State.Sound) h3 (sound_State_count _ _ _ _ _ h3))
    clear_value x0
    exact (sound_wakeUp _ _ hx0)
  · exact h3

theorem sound_execWakePatternSent : ∀ a0 a1, State.Sound a1 →
    ResHolds (execWakePatternSent a0 a1) := by
  intro a0 a1 h1
  unfold execWakePatternSent
  refine next_holds ?_
  split
  · exact (ite_holds (P := State.Sound) (sound_wakeUp _ _ h1) h1)
  · exact h1

end Sys2Proof.Machine
end

