-- ==== Sys2Proof/Laws/SoundFabric.lean ====
section
/-!
SUPPORT. A sound state stays sound under the operations of these files of Machine: Xbar, Egress, Buffer, Shaping.
-/
namespace Sys2Proof.Machine

/-! ### Machine/Xbar.lean -/

theorem sound_setReo : ∀ a0 a1 a2 a3, State.Sound a3 →
    State.Sound (setReo a0 a1 a2 a3) := by
  intro a0 a1 a2 a3 h3
  unfold setReo
  exact (State.sound_mk h3.regs h3.shadow h3.cnts h3.tot h3.hold h3.pairs h3.ctl h3.host h3.hlt h3.nvm h3.cls h3.time
      h3.tbl h3.leaf (XbarSt.sound_mk h3.xbar.feed h3.xbar.stage h3.xbar.nextSeq h3.xbar.spent h3.xbar.rr
      h3.xbar.grant h3.xbar.accept h3.xbar.matched h3.xbar.cross (SMap.sorted_put h3.xbar.reo _ _ _)) h3.buf h3.tm
      h3.sky)

theorem sound_settle : ∀ a0 a1 a2 a3, State.Sound a3 →
    State.Sound (settle a0 a1 a2 a3) := by
  intro a0 a1 a2 a3 h3
  unfold settle
  extract_lets +onlyGivenNames -merge x0
  split
  · exact h3
  · extract_lets +onlyGivenNames -merge x4
    have hx4 : State.Sound x4 := (sound_unreserve _ _ h3)
    clear_value x4
    exact (sound_setQueue _ _ _ hx4)

theorem sound_abortFrame : ∀ a0 a1 a2, State.Sound a2 →
    State.Sound (abortFrame a0 a1 a2) := by
  intro a0 a1 a2 h2
  unfold abortFrame
  extract_lets +onlyGivenNames -merge x0
  extract_lets +onlyGivenNames -merge x1
  have hx1 : State.Sound x1 := (sound_setReo _ _ _ _ h2)
  clear_value x1
  split
  · exact hx1
  · extract_lets +onlyGivenNames -merge x5
    split
    · exact hx1
    · exact (ite_holds (P := State.Sound) (sound_settle _ _ _ _ hx1) (sound_dropFrame _ _ _ (sound_setQueue _ _ _
        (sound_State_count _ _ _ _ _ hx1))))

theorem sound_refuseFrame : ∀ a0 a1 a2 a3, State.Sound a3 →
    State.Sound (refuseFrame a0 a1 a2 a3) := by
  intro a0 a1 a2 a3 h3
  unfold refuseFrame
  extract_lets +onlyGivenNames -merge x0
  have hx0 : State.Sound x0 := (sound_txDropped _ _ (sound_cellGone _ _ h3))
  clear_value x0
  extract_lets +onlyGivenNames -merge x1
  have hx1 : State.Sound x1 := (sound_State_led _ _ _ _ (sound_State_led _ _ _ _ hx0))
  clear_value x1
  exact (sound_setReo _ _ _ _ hx1)

theorem sound_reserveTurn : ∀ a0 a1 a2 a3, State.Sound a3 →
    Snd State.Sound (reserveTurn a0 a1 a2 a3) := by
  intro a0 a1 a2 a3 h3
  unfold reserveTurn
  exact (sound_reserve _ _ _ _ _ h3)

theorem sound_admitFrame : ∀ a0 a1 a2 a3 a4, State.Sound a4 →
    State.Sound (admitFrame a0 a1 a2 a3 a4) := by
  intro a0 a1 a2 a3 a4 h4
  unfold admitFrame
  extract_lets +onlyGivenNames -merge x0
  extract_lets +onlyGivenNames -merge x1
  split
  · exact (sound_refuseFrame _ _ _ _ (sound_State_count _ _ _ _ _ h4))
  · split
    · exact (sound_refuseFrame _ _ _ _ (sound_State_count _ _ _ _ _ h4))
    · exact (sound_refuseFrame _ _ _ _ (sound_State_count _ _ _ _ _ h4))
    · split
      · rename_i v8 heq9
        have hv8 : State.Sound v8 := holds_eq (P := (Snd State.Sound)) heq9 (by
            exact (sound_reserveTurn _ _ _ _ h4))
        exact (sound_refuseFrame _ _ _ _ (sound_State_count _ _ _ _ _ (sound_State_count _ _ _ _ _ hv8)))
      · rename_i v10 heq11
        have hv10 : State.Sound v10 := holds_eq (P := (Snd State.Sound)) heq11 (by
            exact (sound_reserveTurn _ _ _ _ h4))
        extract_lets +onlyGivenNames -merge x12
        split
        · rename_i v13 v14 heq15
          have hv14 : State.Sound v14 := holds_eq (P := (Snd State.Sound)) heq15 (by
              exact (sound_allocRsv _ _ hv10))
          extract_lets +onlyGivenNames -merge x16
          extract_lets +onlyGivenNames -merge x17
          extract_lets +onlyGivenNames -merge x18
          extract_lets +onlyGivenNames -merge x19
          extract_lets +onlyGivenNames -merge x20
          have hx20 : State.Sound x20 := (sound_setQueue _ _ _ (sound_State_led _ _ _ _ hv14))
          clear_value x20
          extract_lets +onlyGivenNames -merge x21
          extract_lets +onlyGivenNames -merge x22
          have hx22 : State.Sound x22 := (sound_setReo _ _ _ _ hx20)
          clear_value x22
          exact (ite_holds (P := State.Sound) (sound_setQueue _ _ _ hx22) hx22)

theorem sound_dropOpen : ∀ a0 a1 a2 a3, State.Sound a3 →
    Snd State.Sound (dropOpen a0 a1 a2 a3) := by
  intro a0 a1 a2 a3 h3
  unfold dropOpen
  extract_lets +onlyGivenNames -merge x0
  split
  · refine snd_holds (P := State.Sound) ?_
    exact h3
  · refine ite_holds (P := (Snd State.Sound)) ?_ ?_
    · refine snd_holds (P := State.Sound) ?_
      exact (sound_settle _ _ _ _ h3)
    · refine snd_holds (P := State.Sound) ?_
      exact (sound_dropFrame _ _ _ (sound_setQueue _ _ _ h3))

theorem sound_reseqDiscard : ∀ a0 a1, State.Sound a1 →
    State.Sound (reseqDiscard a0 a1) := by
  intro a0 a1 h1
  unfold reseqDiscard
  exact (sound_State_count _ _ _ _ _ h1)

theorem sound_badAtFrame : ∀ a0 a1 a2 a3, State.Sound a3 →
    State.Sound (badAtFrame a0 a1 a2 a3) := by
  intro a0 a1 a2 a3 h3
  unfold badAtFrame
  extract_lets +onlyGivenNames -merge x0
  extract_lets +onlyGivenNames -merge x1
  split
  · extract_lets +onlyGivenNames -merge x4
    have hx4 : State.Sound x4 := (sound_setReo _ _ _ _ h3)
    clear_value x4
    split
    · rename_i v5 heq6
      have hv5 : State.Sound v5 := holds_eq (P := (Snd State.Sound)) heq6 (by
          exact (sound_dropOpen _ _ _ _ hx4))
      exact (sound_reseqDiscard _ _ hv5)
    · rename_i v7 heq8
      have hv7 : State.Sound v7 := holds_eq (P := (Snd State.Sound)) heq8 (by
          exact (sound_dropOpen _ _ _ _ hx4))
      exact hv7
  · refine ite_holds (P := State.Sound) ?_ ?_
    · exact (sound_setReo _ _ _ _ h3)
    · extract_lets +onlyGivenNames -merge x10
      have hx10 : State.Sound x10 := (sound_txDropped _ _ (sound_reseqDiscard _ _ h3))
      clear_value x10
      extract_lets +onlyGivenNames -merge x11
      have hx11 : State.Sound x11 := (ite_holds (P := State.Sound) (sound_State_led _ _ _ _ hx10) hx10)
      clear_value x11
      exact (sound_setReo _ _ _ _ (sound_State_led _ _ _ _ hx11))

theorem sound_creditBack : ∀ a0 a1 a2 a3, State.Sound a3 →
    State.Sound (creditBack a0 a1 a2 a3) := by
  intro a0 a1 a2 a3 h3
  unfold creditBack
  exact (State.sound_mk h3.regs h3.shadow h3.cnts h3.tot h3.hold h3.pairs h3.ctl h3.host h3.hlt h3.nvm h3.cls h3.time
      h3.tbl h3.leaf (XbarSt.sound_mk h3.xbar.feed h3.xbar.stage h3.xbar.nextSeq (SMap.sorted_upd h3.xbar.spent _ _
      _) h3.xbar.rr h3.xbar.grant h3.xbar.accept h3.xbar.matched h3.xbar.cross h3.xbar.reo) h3.buf h3.tm h3.sky)

theorem sound_joinFrame : ∀ a0 a1 a2 a3 a4, State.Sound a4 →
    State.Sound (joinFrame a0 a1 a2 a3 a4) := by
  intro a0 a1 a2 a3 a4 h4
  unfold joinFrame
  extract_lets +onlyGivenNames -merge x0
  extract_lets +onlyGivenNames -merge x1
  extract_lets +onlyGivenNames -merge x2
  subst x2
  beta_reduce
  split
  · exact (ite_holds (P := State.Sound) (sound_setReo _ _ _ _ (sound_txDropped _ _ (sound_cellGone _ _ h4)))
      (sound_txDropped _ _ (sound_cellGone _ _ h4)))
  · split
    · rename_i v6 v7 heq8
      have hv7 : State.Sound v7 := holds_eq (P := (Snd State.Sound)) heq8 (by
          exact (sound_allocRsv _ _ h4))
      extract_lets +onlyGivenNames -merge x9
      extract_lets +onlyGivenNames -merge x10
      extract_lets +onlyGivenNames -merge x11
      have hx11 : State.Sound x11 := (sound_setQueue _ _ _ hv7)
      clear_value x11
      refine ite_holds (P := State.Sound) ?_ ?_
      · extract_lets +onlyGivenNames -merge x12
        extract_lets +onlyGivenNames -merge x13
        have hx13 : State.Sound x13 := (ite_holds (P := State.Sound) (sound_setReo _ _ _ _ hx11) hx11)
        clear_value x13
        extract_lets +onlyGivenNames -merge x14
        exact (sound_settle _ _ _ _ hx13)
      · exact hx11

theorem sound_frameCell : ∀ a0 a1 a2 a3, State.Sound a3 →
    State.Sound (frameCell a0 a1 a2 a3) := by
  intro a0 a1 a2 a3 h3
  unfold frameCell
  extract_lets +onlyGivenNames -merge x0
  extract_lets +onlyGivenNames -merge x1
  refine ite_holds (P := State.Sound) ?_ ?_
  · exact (sound_badAtFrame _ _ _ _ h3)
  · refine ite_holds (P := State.Sound) ?_ ?_
    · exact (sound_abortFrame _ _ _ h3)
    · refine ite_holds (P := State.Sound) ?_ ?_
      · exact (sound_admitFrame _ _ _ _ _ h3)
      · split
        · exact (sound_joinFrame _ _ _ _ _ h3)
        · extract_lets +onlyGivenNames -merge x5
          have hx5 : State.Sound x5 := (sound_txDropped _ _ (sound_cellGone _ _ h3))
          clear_value x5
          exact (ite_holds (P := State.Sound) (sound_setReo _ _ _ _ hx5) hx5)

theorem sound_pushRun : ∀ a0 a1 a2 a3, State.Sound a3 →
    State.Sound (pushRun a0 a1 a2 a3) := by
  intro a0 a1 a2 a3 h3
  unfold pushRun
  extract_lets +onlyGivenNames -merge x0
  extract_lets +onlyGivenNames -merge x1
  extract_lets +onlyGivenNames -merge x2
  extract_lets +onlyGivenNames -merge x3
  extract_lets +onlyGivenNames -merge x4
  extract_lets +onlyGivenNames -merge x5
  have hx5 : State.Sound x5 := (sound_setQueue _ _ _ h3)
  clear_value x5
  split
  · exact (ite_holds (P := State.Sound) (sound_setQueue _ _ _ hx5) hx5)
  · exact hx5

theorem sound_skyGone : ∀ a0 a1, State.Sound a1 →
    State.Sound (skyGone a0 a1) := by
  intro a0 a1 h1
  unfold skyGone
  extract_lets +onlyGivenNames -merge x0
  have hx0 : State.Sound x0 := (sound_cellGone _ _ h1)
  clear_value x0
  exact (ite_holds (P := State.Sound) (sound_State_led _ _ _ _ hx0) hx0)

theorem sound_skyCell : ∀ a0 a1 a2, State.Sound a2 →
    State.Sound (skyCell a0 a1 a2) := by
  intro a0 a1 a2 h2
  unfold skyCell
  extract_lets +onlyGivenNames -merge x0
  extract_lets +onlyGivenNames -merge x1
  refine ite_holds (P := State.Sound) ?_ ?_
  · exact h2
  · split
    · exact (sound_skyGone _ _ (sound_State_count _ _ _ _ _ h2))
    · exact (sound_skyGone _ _ (sound_State_count _ _ _ _ _ h2))
    · split
      · rename_i v5 heq6
        have hv5 : State.Sound v5 := holds_eq (P := (Snd State.Sound)) heq6 (by
            exact (sound_reserveTurn _ _ _ _ h2))
        exact (sound_skyGone _ _ (sound_State_count _ _ _ _ _ (sound_State_count _ _ _ _ _ hv5)))
      · rename_i v7 heq8
        have hv7 : State.Sound v7 := holds_eq (P := (Snd State.Sound)) heq8 (by
            exact (sound_reserveTurn _ _ _ _ h2))
        extract_lets +onlyGivenNames -merge x9
        extract_lets +onlyGivenNames -merge x10
        extract_lets +onlyGivenNames -merge x11
        have hx11 : State.Sound x11 := (sound_State_countIf _ _ _ _ _ hv7)
        clear_value x11
        extract_lets +onlyGivenNames -merge x12
        split
        · rename_i v13 v14 heq15
          have hv14 : State.Sound v14 := holds_eq (P := (Snd State.Sound)) heq15 (by
              exact (sound_allocRsv _ _ hx11))
          exact (sound_pushRun _ _ _ _ hv14)

theorem sound_leaveReo : ∀ a0 a1 a2 a3, State.Sound a3 →
    State.Sound (leaveReo a0 a1 a2 a3) := by
  intro a0 a1 a2 a3 h3
  unfold leaveReo
  extract_lets +onlyGivenNames -merge x0
  have hx0 : State.Sound x0 := (ite_holds (P := State.Sound) h3 (sound_creditBack _ _ _ _ h3))
  clear_value x0
  extract_lets +onlyGivenNames -merge x1
  have hx1 : State.Sound x1 := (sound_State_count _ _ _ _ _ hx0)
  clear_value x1
  exact (ite_holds (P := State.Sound) (sound_frameCell _ _ _ _ hx1) (sound_skyCell _ _ _ hx1))

theorem sound_drainReo : ∀ a0 a1 a2 a3, State.Sound a3 →
    State.Sound (drainReo a0 a1 a2 a3) := by
  intro o i f
  induction f with
  | zero => exact fun s h => h
  | succ f ih =>
    intro s h
    unfold drainReo
    extract_lets r
    split
    · exact ih _ (sound_leaveReo _ _ _ _ (sound_setReo _ _ _ _ h))
    · exact ite_holds h (sound_setReo _ _ _ _ h)

theorem sound_enterReo : ∀ a0 a1 a2, State.Sound a2 →
    State.Sound (enterReo a0 a1 a2) := by
  intro a0 a1 a2 h2
  unfold enterReo
  extract_lets +onlyGivenNames -merge x0
  exact (sound_drainReo _ _ _ _ (sound_setReo _ _ _ _ h2))

theorem sound_outGone : ∀ a0 a1 a2, State.Sound a2 →
    State.Sound (outGone a0 a1 a2) := by
  intro a0 a1 a2 h2
  unfold outGone
  exact (ite_holds (P := State.Sound) (sound_cellGone _ _ h2) (sound_skyGone _ _ h2))

theorem sound_badCell : ∀ a0 a1 a2, State.Sound a2 →
    State.Sound (badCell a0 a1 a2) := by
  intro a0 a1 a2 h2
  unfold badCell
  extract_lets +onlyGivenNames -merge x0
  have hx0 : State.Sound x0 := (sound_creditBack _ _ _ _ (sound_State_countIf _ _ _ _ _ h2))
  clear_value x0
  exact (sound_enterReo _ _ _ (sound_outGone _ _ _ hx0))

theorem sound_stateWordError : ∀ a0 a1 a2, State.Sound a2 →
    State.Sound (stateWordError a0 a1 a2) := by
  intro a0 a1 a2 h2
  unfold stateWordError
  extract_lets +onlyGivenNames -merge x0
  exact (foldl_holds (P := State.Sound) (fun _ _ hm1 => (of_fst (sound_winEvent _ _ _ (sound_quarTile _ _ _ hm1))))
      (sound_memReport _ _ _ _ _ _ h2))

theorem sound_bufError : ∀ a0 a1 a2, State.Sound a2 →
    State.Sound (bufError a0 a1 a2) := by
  intro a0 a1 a2 h2
  unfold bufError
  split
  · exact h2
  · extract_lets +onlyGivenNames -merge x4
    have hx4 : State.Sound x4 := (sound_memReport _ _ _ _ _ _ (sound_State_count _ _ _ _ _ h2))
    clear_value x4
    exact (ite_holds (P := State.Sound) (sound_delaySlot _ _ hx4) hx4)
  · exact (sound_stateWordError _ _ _ h2)

theorem sound_drainPlane : ∀ a0 a1, State.Sound a1 →
    State.Sound (drainPlane a0 a1) := by
  intro a0 a1 h1
  unfold drainPlane
  exact (ite_holds (P := State.Sound) (sound_State_setFld _ _ _ _ _ h1) h1)

theorem sound_planeLasting : ∀ a0 a1, State.Sound a1 →
    State.Sound (planeLasting a0 a1) := by
  intro a0 a1 h1
  unfold planeLasting
  extract_lets +onlyGivenNames -merge x0
  refine ite_holds (P := State.Sound) ?_ ?_
  · extract_lets +onlyGivenNames -merge x1
    have hx1 : State.Sound x1 := (sound_State_setFld _ _ _ _ _ h1)
    clear_value x1
    exact (sound_fault _ _ _ _ _ (sound_drainPlane _ _ hx1))
  · exact (sound_fault _ _ _ _ _ h1)

theorem sound_planeEvent : ∀ a0 a1, State.Sound a1 →
    State.Sound (planeEvent a0 a1) := by
  intro a0 a1 h1
  unfold planeEvent
  split
  · rename_i v0 heq1
    have hv0 : State.Sound v0 := holds_eq (P := (Fst State.Sound)) heq1 (by
        exact (sound_winEvent _ _ _ h1))
    exact (sound_planeLasting _ _ hv0)
  · rename_i v2 heq3
    have hv2 : State.Sound v2 := holds_eq (P := (Fst State.Sound)) heq3 (by
        exact (sound_winEvent _ _ _ h1))
    exact hv2

theorem sound_withTag : ∀ a0 a1 a2 a3 a4 a5, State.Sound a5 →
    State.Sound (withTag a0 a1 a2 a3 a4 a5) := by
  intro a0 a1 a2 a3 a4 a5 h5
  unfold withTag
  split
  · extract_lets +onlyGivenNames -merge x3
    extract_lets +onlyGivenNames -merge x4
    have hx4 : State.Sound x4 := (sound_State_countIf _ _ _ _ _ h5)
    clear_value x4
    extract_lets +onlyGivenNames -merge x5
    have hx5 : State.Sound x5 := (ite_holds (P := State.Sound) (sound_planeEvent _ _ (sound_State_count _ _ _ _ _
        hx4)) hx4)
    clear_value x5
    exact (ite_holds (P := State.Sound) (sound_outGone _ _ _ hx5) (ite_holds (P := State.Sound) (sound_badCell _ _ _
        hx5) (sound_enterReo _ _ _ hx5)))
  · extract_lets +onlyGivenNames -merge x7
    have hx7 : State.Sound x7 := (sound_planeEvent _ _ (sound_State_count _ _ _ _ _ h5))
    clear_value x7
    exact (sound_cellGone _ _ (sound_excuse _ _ (sound_memRecord _ _ _ _ _ hx7)))

theorem sound_cellArrive : ∀ a0 a1 a2 a3 a4, State.Sound a4 →
    State.Sound (cellArrive a0 a1 a2 a3 a4) := by
  intro a0 a1 a2 a3 a4 h4
  unfold cellArrive
  extract_lets +onlyGivenNames -merge x0
  split
  · exact h4
  · refine ite_holds (P := State.Sound) ?_ ?_
    · exact h4
    · extract_lets +onlyGivenNames -merge x5
      have hx5 : XbarSt.Sound x5 := h4.xbar
      clear_value x5
      extract_lets +onlyGivenNames -merge x6
      have hx6 : State.Sound x6 := (State.sound_mk h4.regs h4.shadow h4.cnts h4.tot h4.hold h4.pairs h4.ctl h4.host
          h4.hlt h4.nvm h4.cls h4.time h4.tbl h4.leaf (XbarSt.sound_mk hx5.feed hx5.stage hx5.nextSeq hx5.spent
          hx5.rr hx5.grant hx5.accept hx5.matched (SMap.sorted_put h4.xbar.cross _ _ _) hx5.reo) h4.buf h4.tm h4.sky)
      clear_value x6
      extract_lets +onlyGivenNames -merge x7
      have hx7 : State.Sound x7 := (sound_bufError _ _ _ (sound_State_count _ _ _ _ _ hx6))
      clear_value x7
      exact (sound_withTag _ _ _ _ _ _ hx7)

theorem sound_entered : ∀ a0 a1 a2, State.Sound a2 →
    Snd State.Sound (entered a0 a1 a2) := by
  intro a0 a1 a2 h2
  unfold entered
  extract_lets +onlyGivenNames -merge x0
  have hx0 : State.Sound x0 := by
    subst x0
    split
    · exact (sound_freeTile _ _ _ h2)
    · exact h2
  clear_value x0
  extract_lets +onlyGivenNames -merge x4
  extract_lets +onlyGivenNames -merge x5
  refine ite_holds (P := (Snd State.Sound)) ?_ ?_
  · refine snd_holds (P := State.Sound) ?_
    exact hx0
  · extract_lets +onlyGivenNames -merge x6
    have hx6 : State.Sound x6 := (ite_holds (P := State.Sound) hx0 (sound_State_led _ _ _ _ hx0))
    clear_value x6
    extract_lets +onlyGivenNames -merge x7
    have hx7 : State.Sound x7 := by
      subst x7
      split
      · exact (sound_copyEnd _ _ _ hx6)
      · exact hx6
    clear_value x7
    split
    · refine ite_holds (P := (Snd State.Sound)) ?_ ?_
      · refine snd_holds (P := State.Sound) ?_
        exact hx7
      · refine snd_holds (P := State.Sound) ?_
        exact (sound_unitDone _ _ _ _ _ _ hx7)
    · refine snd_holds (P := State.Sound) ?_
      exact hx7

theorem sound_setStage : ∀ a0 a1 a2 a3 a4, State.Sound a4 →
    State.Sound (setStage a0 a1 a2 a3 a4) := by
  intro a0 a1 a2 a3 a4 h4
  unfold setStage
  exact (State.sound_mk h4.regs h4.shadow h4.cnts h4.tot h4.hold h4.pairs h4.ctl h4.host h4.hlt h4.nvm h4.cls h4.time
      h4.tbl h4.leaf (XbarSt.sound_mk h4.xbar.feed (SMap.sorted_put h4.xbar.stage _ _ _) h4.xbar.nextSeq
      h4.xbar.spent h4.xbar.rr h4.xbar.grant h4.xbar.accept h4.xbar.matched h4.xbar.cross h4.xbar.reo) h4.buf h4.tm
      h4.sky)

theorem sound_cellSend : ∀ a0 a1, State.Sound a1 →
    State.Sound (cellSend a0 a1) := by
  intro a0 a1 h1
  unfold cellSend
  split
  · exact h1
  · extract_lets +onlyGivenNames -merge x4
    refine ite_holds (P := State.Sound) ?_ ?_
    · exact h1
    · split
      · exact h1
      · extract_lets +onlyGivenNames -merge x8
        extract_lets +onlyGivenNames -merge x9
        have hx9 : XbarSt.Sound x9 := h1.xbar
        clear_value x9
        extract_lets +onlyGivenNames -merge x10
        have hx10 : State.Sound x10 := (State.sound_mk h1.regs h1.shadow h1.cnts h1.tot h1.hold h1.pairs h1.ctl
            h1.host h1.hlt h1.nvm h1.cls h1.time h1.tbl h1.leaf (XbarSt.sound_mk (SMap.sorted_put h1.xbar.feed _ _ _)
            hx9.stage (SMap.sorted_put h1.xbar.nextSeq _ _ _) (SMap.sorted_upd h1.xbar.spent _ _ _) (SMap.sorted_put
            h1.xbar.rr _ _ _) hx9.grant hx9.accept hx9.matched hx9.cross hx9.reo) h1.buf h1.tm h1.sky)
        clear_value x10
        split
        · rename_i v11 v12 heq13
          have hv12 : State.Sound v12 := holds_eq (P := (Snd State.Sound)) heq13 (by
              exact (sound_entered _ _ _ (sound_State_count _ _ _ _ _ hx10)))
          exact (sound_setStage _ _ _ _ _ hv12)

theorem sound_crossCell : ∀ a0 a1 a2, State.Sound a2 →
    State.Sound (crossCell a0 a1 a2) := by
  intro a0 a1 a2 h2
  unfold crossCell
  split
  · exact h2
  · extract_lets +onlyGivenNames -merge x4
    have hx4 : State.Sound x4 := (sound_setStage _ _ _ _ _ h2)
    clear_value x4
    extract_lets +onlyGivenNames -merge x5
    exact (State.sound_mk hx4.regs hx4.shadow hx4.cnts hx4.tot hx4.hold hx4.pairs hx4.ctl hx4.host hx4.hlt hx4.nvm
        hx4.cls hx4.time hx4.tbl hx4.leaf (XbarSt.sound_mk hx4.xbar.feed hx4.xbar.stage hx4.xbar.nextSeq
        hx4.xbar.spent hx4.xbar.rr hx4.xbar.grant hx4.xbar.accept hx4.xbar.matched (SMap.sorted_put hx4.xbar.cross _
        _ _) hx4.xbar.reo) hx4.buf hx4.tm hx4.sky)

theorem sound_noteBack : ∀ a0 a1, State.Sound a1 →
    State.Sound (noteBack a0 a1) := by
  intro a0 a1 h1
  unfold noteBack
  exact (ite_holds (P := State.Sound) h1 (State.sound_mk h1.regs h1.shadow h1.cnts h1.tot h1.hold h1.pairs h1.ctl
      h1.host h1.hlt h1.nvm h1.cls h1.time h1.tbl h1.leaf (XbarSt.sound_mk h1.xbar.feed h1.xbar.stage h1.xbar.nextSeq
      h1.xbar.spent h1.xbar.rr h1.xbar.grant h1.xbar.accept h1.xbar.matched h1.xbar.cross h1.xbar.reo) h1.buf h1.tm
      h1.sky))

theorem sound_planeSync : ∀ a0, State.Sound a0 →
    State.Sound (planeSync a0) := by
  intro a0 h0
  unfold planeSync
  exact (foldl_holds (P := State.Sound) (fun _ _ hm0 => (ite_holds (P := State.Sound) (ite_holds (P := State.Sound)
      hm0 (sound_noteBack _ _ hm0)) (sound_drainPlane _ _ (State.sound_mk hm0.regs hm0.shadow hm0.cnts hm0.tot
      hm0.hold hm0.pairs hm0.ctl hm0.host hm0.hlt hm0.nvm hm0.cls hm0.time hm0.tbl hm0.leaf (XbarSt.sound_mk
      hm0.xbar.feed hm0.xbar.stage hm0.xbar.nextSeq hm0.xbar.spent hm0.xbar.rr hm0.xbar.grant hm0.xbar.accept
      hm0.xbar.matched hm0.xbar.cross hm0.xbar.reo) hm0.buf hm0.tm hm0.sky)))) h0)

theorem sound_planeFaultClear : ∀ a0 a1, State.Sound a1 →
    State.Sound (planeFaultClear a0 a1) := by
  intro a0 a1 h1
  unfold planeFaultClear
  exact (sound_planeSync _ (sound_State_setReg _ _ _ _ _ h1))

theorem sound_execXbarCellArrive : ∀ a0 a1 a2 a3 a4, State.Sound a4 →
    ResHolds (execXbarCellArrive a0 a1 a2 a3 a4) := by
  intro a0 a1 a2 a3 a4 h4
  unfold execXbarCellArrive
  refine next_holds ?_
  refine sound_running _ _ ?_ h4
  · intro y0 hy0
    exact (sound_cellArrive _ _ _ _ _ hy0)

theorem sound_execXbarCellSend : ∀ a0 a1, State.Sound a1 →
    ResHolds (execXbarCellSend a0 a1) := by
  intro a0 a1 h1
  unfold execXbarCellSend
  refine next_holds ?_
  refine sound_running _ _ ?_ h1
  · intro y0 hy0
    exact (sound_cellSend _ _ hy0)

theorem sound_execXbarFaultClear : ∀ a0 a1 a2, State.Sound a2 →
    ResHolds (execXbarFaultClear a0 a1 a2) := by
  intro a0 a1 a2 h2
  unfold execXbarFaultClear
  refine next_holds ?_
  refine sound_far _ _ _ ?_ h2
  · intro y0 hy0
    exact (sound_planeFaultClear _ _ hy0)

theorem sound_xbarMatch : ∀ a0 a1, State.Sound a1 →
    State.Sound (xbarMatch a0 a1) := by
  intro a0 a1 h1
  unfold xbarMatch
  extract_lets +onlyGivenNames -merge x0
  exact (ite_holds (P := State.Sound) h1 (foldl_holds (P := State.Sound) (fun _ _ hm3 => (sound_crossCell _ _ _ hm3))
      (State.sound_mk h1.regs h1.shadow h1.cnts h1.tot h1.hold h1.pairs h1.ctl h1.host h1.hlt h1.nvm h1.cls h1.time
      h1.tbl h1.leaf (XbarSt.sound_mk h1.xbar.feed h1.xbar.stage h1.xbar.nextSeq h1.xbar.spent h1.xbar.rr
      (foldl_holds (P := (fun e => SMap.sorted e = true)) (fun _ _ hm1 => (SMap.sorted_put hm1 _ _ _)) h1.xbar.grant)
      (foldl_holds (P := (fun e => SMap.sorted e = true)) (fun _ _ hm2 => (SMap.sorted_put hm2 _ _ _))
      h1.xbar.accept) (SMap.sorted_insert h1.xbar.matched _ _) h1.xbar.cross h1.xbar.reo) h1.buf h1.tm h1.sky)))

theorem sound_execXbarMatch : ∀ a0 a1, State.Sound a1 →
    ResHolds (execXbarMatch a0 a1) := by
  intro a0 a1 h1
  unfold execXbarMatch
  refine next_holds ?_
  refine sound_running _ _ ?_ h1
  · intro y0 hy0
    exact (sound_xbarMatch _ _ hy0)

theorem sound_planeDrained : ∀ a0 a1, State.Sound a1 →
    State.Sound (planeDrained a0 a1) := by
  intro a0 a1 h1
  unfold planeDrained
  extract_lets +onlyGivenNames -merge x0
  exact (ite_holds (P := State.Sound) (sound_State_setFld _ _ _ _ _ (sound_State_setFld _ _ _ _ _ h1)) h1)

theorem sound_execXbarPlaneDrained : ∀ a0 a1, State.Sound a1 →
    ResHolds (execXbarPlaneDrained a0 a1) := by
  intro a0 a1 h1
  unfold execXbarPlaneDrained
  refine next_holds ?_
  exact (sound_planeDrained _ _ h1)

theorem sound_passGap : ∀ a0 a1 a2 a3 a4, State.Sound a4 →
    State.Sound (passGap a0 a1 a2 a3 a4) := by
  intro a0 a1 a2 a3 a4 h4
  unfold passGap
  extract_lets +onlyGivenNames -merge x0
  extract_lets +onlyGivenNames -merge x1
  extract_lets +onlyGivenNames -merge x2
  subst x2
  beta_reduce
  split
  · extract_lets +onlyGivenNames -merge x5
    extract_lets +onlyGivenNames -merge x6
    have hx6 : State.Sound x6 := (sound_setReo _ _ _ _ h4)
    clear_value x6
    extract_lets +onlyGivenNames -merge x7
    have hx7 : State.Sound x7 := by
      subst x7
      split
      · rename_i v8 heq9
        have hv8 : State.Sound v8 := holds_eq (P := (Snd State.Sound)) heq9 (by
            exact (sound_dropOpen _ _ _ _ hx6))
        exact (sound_reseqDiscard _ _ hv8)
      · rename_i v10 heq11
        have hv10 : State.Sound v10 := holds_eq (P := (Snd State.Sound)) heq11 (by
            exact (sound_dropOpen _ _ _ _ hx6))
        exact hv10
    clear_value x7
    exact (ite_holds (P := State.Sound) hx7 (sound_State_led _ _ _ _ (sound_reseqDiscard _ _ hx7)))
  · extract_lets +onlyGivenNames -merge x13
    have hx13 : State.Sound x13 := (sound_setReo _ _ _ _ h4)
    clear_value x13
    exact (ite_holds (P := State.Sound) (sound_State_led _ _ _ _ (sound_reseqDiscard _ _ hx13)) hx13)

theorem sound_reseqTimeout : ∀ a0 a1 a2, State.Sound a2 →
    State.Sound (reseqTimeout a0 a1 a2) := by
  intro a0 a1 a2 h2
  unfold reseqTimeout
  extract_lets +onlyGivenNames -merge x0
  extract_lets +onlyGivenNames -merge x1
  split
  · refine ite_holds (P := State.Sound) ?_ ?_
    · exact h2
    · extract_lets +onlyGivenNames -merge x6
      extract_lets +onlyGivenNames -merge x7
      have hx7 : State.Sound x7 := (sound_creditBack _ _ _ _ (sound_setReo _ _ _ _ (sound_State_count _ _ _ _ _ h2)))
      clear_value x7
      exact (sound_drainReo _ _ _ _ (ite_holds (P := State.Sound) (sound_passGap _ _ _ _ _ hx7) hx7))
  · exact h2

theorem sound_execXbarReseqTimeout : ∀ a0 a1 a2, State.Sound a2 →
    ResHolds (execXbarReseqTimeout a0 a1 a2) := by
  intro a0 a1 a2 h2
  unfold execXbarReseqTimeout
  refine next_holds ?_
  refine sound_running _ _ ?_ h2
  · intro y0 hy0
    exact (sound_reseqTimeout _ _ _ hy0)

theorem sound_returnPlane : ∀ a0 a1, State.Sound a1 →
    State.Sound (returnPlane a0 a1) := by
  intro a0 a1 h1
  unfold returnPlane
  extract_lets +onlyGivenNames -merge x0
  have hx0 : State.Sound x0 := (sound_State_setFld _ _ _ _ _ h1)
  clear_value x0
  refine ite_holds (P := State.Sound) ?_ ?_
  · exact hx0
  · extract_lets +onlyGivenNames -merge x1
    have hx1 : State.Sound x1 := (sound_State_setFld _ _ _ _ _ hx0)
    clear_value x1
    exact (State.sound_mk hx1.regs hx1.shadow hx1.cnts hx1.tot hx1.hold hx1.pairs hx1.ctl hx1.host hx1.hlt hx1.nvm
        hx1.cls hx1.time hx1.tbl hx1.leaf (XbarSt.sound_mk hx1.xbar.feed hx1.xbar.stage hx1.xbar.nextSeq
        hx1.xbar.spent hx1.xbar.rr (SMap.sorted_keep hx1.xbar.grant _) (SMap.sorted_keep hx1.xbar.accept _)
        hx1.xbar.matched hx1.xbar.cross hx1.xbar.reo) hx1.buf hx1.tm hx1.sky)

theorem sound_planeReturns : ∀ a0, State.Sound a0 →
    State.Sound (planeReturns a0) := by
  intro a0 h0
  unfold planeReturns
  extract_lets +onlyGivenNames -merge x0
  exact (foldl_holds (P := State.Sound) (fun _ _ hm1 => (sound_returnPlane _ _ hm1)) (State.sound_mk h0.regs
      h0.shadow h0.cnts h0.tot h0.hold h0.pairs h0.ctl h0.host h0.hlt h0.nvm h0.cls h0.time h0.tbl h0.leaf
      (XbarSt.sound_mk h0.xbar.feed h0.xbar.stage h0.xbar.nextSeq h0.xbar.spent h0.xbar.rr h0.xbar.grant
      h0.xbar.accept h0.xbar.matched h0.xbar.cross h0.xbar.reo) h0.buf h0.tm h0.sky))

/-! ### Machine/Egress.lean -/

theorem sound_dropUnit : ∀ a0 a1 a2 a3, State.Sound a3 →
    State.Sound (dropUnit a0 a1 a2 a3) := by
  intro a0 a1 a2 a3 h3
  unfold dropUnit
  extract_lets +onlyGivenNames -merge x0
  extract_lets +onlyGivenNames -merge x1
  split
  · exact (sound_dropFrame _ _ _ (sound_setQueue _ _ _ h3))
  · exact h3

theorem sound_egressCopy : ∀ a0 a1 a2 a3, State.Sound a3 →
    Snd State.Sound (egressCopy a0 a1 a2 a3) := by
  intro a0 a1 a2 a3 h3
  unfold egressCopy
  extract_lets +onlyGivenNames -merge x0
  refine ite_holds (P := (Snd State.Sound)) ?_ ?_
  · refine snd_holds (P := State.Sound) ?_
    exact h3
  · split
    · refine snd_holds (P := State.Sound) ?_
      exact h3
    · split
      · rename_i v4 heq5
        have hv4 : State.Sound v4 := holds_eq (P := (Snd State.Sound)) heq5 (by
            exact (sound_selectCopy _ _ _ h3))
        refine snd_holds (P := State.Sound) ?_
        exact hv4
      · rename_i v6 heq7
        have hv6 : State.Sound v6 := holds_eq (P := (Snd State.Sound)) heq7 (by
            exact (sound_selectCopy _ _ _ h3))
        refine snd_holds (P := State.Sound) ?_
        exact hv6

theorem sound_payFrame : ∀ a0 a1 a2 a3, State.Sound a3 →
    State.Sound (payFrame a0 a1 a2 a3) := by
  intro a0 a1 a2 a3 h3
  unfold payFrame
  exact (ite_holds (P := State.Sound) (sound_chargeFrame _ _ _ _ _ h3) h3)

theorem sound_txOver : ∀ a0 a1, State.Sound a1 →
    State.Sound (txOver a0 a1) := by
  intro a0 a1 h1
  unfold txOver
  exact (sound_applyPend _ _ (sound_setPort _ _ _ h1))

theorem sound_endEarly : ∀ a0 a1 a2 a3 a4 a5 a6, (∀ z0, State.Sound z0 → State.Sound (a5 z0)) → State.Sound a6 →
    State.Sound (endEarly a0 a1 a2 a3 a4 a5 a6) := by
  intro a0 a1 a2 a3 a4 a5 a6 h5 h6
  unfold endEarly
  extract_lets +onlyGivenNames -merge x0
  have hx0 : State.Sound x0 := (sound_payFrame _ _ _ _ (sound_State_count _ _ _ _ _ h6))
  clear_value x0
  extract_lets +onlyGivenNames -merge x1
  have hx1 : State.Sound x1 := by
    subst x1
    split
    · exact (sound_copyEnd _ _ _ hx0)
    · exact hx0
  clear_value x1
  refine sound_txOver _ _ ?_
  · refine h5 _ (sound_sendOut _ _ _ _ _ hx1)

theorem sound_failCell : ∀ a0 a1 a2 a3 a4, State.Sound a4 →
    State.Sound (failCell a0 a1 a2 a3 a4) := by
  intro a0 a1 a2 a3 a4 h4
  unfold failCell
  extract_lets +onlyGivenNames -merge x0
  extract_lets +onlyGivenNames -merge x1
  split
  · exact h4
  · split
    · exact h4
    · extract_lets +onlyGivenNames -merge x9
      have hx9 : State.Sound x9 := (sound_setQueue _ _ _ h4)
      clear_value x9
      extract_lets +onlyGivenNames -merge x10
      have hx10 : State.Sound x10 := (sound_cellGone _ _ (sound_quarFail _ _ _ hx9))
      clear_value x10
      extract_lets +onlyGivenNames -merge x11
      exact (sound_State_led _ _ _ _ (sound_txDropped _ _ (sound_releaseUnit _ _ hx10)))

theorem sound_txWhole : ∀ a0 a1 a2 a3 a4, State.Sound a4 →
    State.Sound (txWhole a0 a1 a2 a3 a4) := by
  intro a0 a1 a2 a3 a4 h4
  unfold txWhole
  extract_lets +onlyGivenNames -merge x0
  have hx0 : State.Sound x0 := (sound_payFrame _ _ _ _ (sound_State_count _ _ _ _ _ (sound_State_count _ _ _ _ _ h4)))
  clear_value x0
  extract_lets +onlyGivenNames -merge x1
  have hx1 : State.Sound x1 := (sound_flowCount _ _ _ hx0)
  clear_value x1
  extract_lets +onlyGivenNames -merge x2
  have hx2 : State.Sound x2 := (sound_State_led _ _ _ _ (sound_sendOut _ _ _ _ _ hx1))
  clear_value x2
  extract_lets +onlyGivenNames -merge x3
  have hx3 : State.Sound x3 := by
    subst x3
    split
    · exact (ite_holds (P := State.Sound) (sound_unitDone _ _ _ _ _ _ hx2) hx2)
    · exact hx2
  clear_value x3
  extract_lets +onlyGivenNames -merge x8
  extract_lets +onlyGivenNames -merge x9
  extract_lets +onlyGivenNames -merge x10
  have hx10 : State.Sound x10 := (sound_releaseUnit _ _ (sound_setQueue _ _ _ hx3))
  clear_value x10
  extract_lets +onlyGivenNames -merge x11
  have hx11 : State.Sound x11 := (sound_txOver _ _ hx10)
  clear_value x11
  split
  · exact hx11
  · exact (sound_deliverCopy _ _ _ _ _ _ hx11)

theorem sound_underrun : ∀ a0 a1, State.Sound a1 →
    State.Sound (underrun a0 a1) := by
  intro a0 a1 h1
  unfold underrun
  extract_lets +onlyGivenNames -merge x0
  extract_lets +onlyGivenNames -merge x1
  have hx1 : State.Sound x1 := (sound_setPort _ _ _ h1)
  clear_value x1
  exact (sound_State_setFld _ _ _ _ _ hx1)

theorem sound_leafTxComplete : ∀ a0 a1 a2, State.Sound a2 →
    State.Sound (leafTxComplete a0 a1 a2) := by
  intro a0 a1 a2 h2
  unfold leafTxComplete
  split
  · exact h2
  · extract_lets +onlyGivenNames -merge x3
    subst x3
    split
    · exact (sound_txOver _ _ h2)
    · extract_lets +onlyGivenNames -merge x7
      extract_lets +onlyGivenNames -merge x8
      extract_lets +onlyGivenNames -merge x9
      extract_lets +onlyGivenNames -merge x10
      extract_lets +onlyGivenNames -merge x11
      subst x11
      split
      · refine sound_endEarly _ _ _ _ _ _ _ ?_ h2
        · intro y14 hy14
          exact (sound_failCell _ _ _ _ _ hy14)
      · refine ite_holds (P := State.Sound) ?_ ?_
        · refine sound_endEarly _ _ _ _ _ _ _ ?_ h2
          · intro y16 hy16
            exact (sound_dropUnit _ _ _ _ hy16)
        · refine ite_holds (P := State.Sound) ?_ ?_
          · refine sound_endEarly _ _ _ _ _ _ _ ?_ h2
            · intro y17 hy17
              exact (sound_dropUnit _ _ _ _ hy17)
          · refine ite_holds (P := State.Sound) ?_ ?_
            · refine sound_endEarly _ _ _ _ _ _ _ ?_ (sound_underrun _ _ h2)
              · intro y18 hy18
                exact (sound_dropUnit _ _ _ _ hy18)
            · exact (sound_txWhole _ _ _ _ _ h2)

theorem sound_execLeafTxComplete : ∀ a0 a1 a2, State.Sound a2 →
    ResHolds (execLeafTxComplete a0 a1 a2) := by
  intro a0 a1 a2 h2
  unfold execLeafTxComplete
  refine next_holds ?_
  exact (sound_leafTxComplete _ _ _ h2)

theorem sound_keepChoice : ∀ a0 a1 a2 a3 a4, State.Sound a4 →
    State.Sound (keepChoice a0 a1 a2 a3 a4) := by
  intro a0 a1 a2 a3 a4 h4
  unfold keepChoice
  extract_lets +onlyGivenNames -merge x0
  exact (sound_setPort _ _ _ h4)

theorem sound_learnSky : ∀ a0 a1 a2 a3, State.Sound a3 →
    State.Sound (learnSky a0 a1 a2 a3) := by
  intro a0 a1 a2 a3 h3
  unfold learnSky
  extract_lets +onlyGivenNames -merge x0
  exact (ite_holds (P := State.Sound) (sound_learnFrame _ _ _ _ _ _ h3) h3)

theorem sound_startFrame : ∀ a0 a1 a2 a3 a4, State.Sound a4 →
    State.Sound (startFrame a0 a1 a2 a3 a4) := by
  intro a0 a1 a2 a3 a4 h4
  unfold startFrame
  extract_lets +onlyGivenNames -merge x0
  extract_lets +onlyGivenNames -merge x1
  extract_lets +onlyGivenNames -merge x2
  have hx2 : State.Sound x2 := (ite_holds (P := State.Sound) h4 (sound_editCounts _ _ _ (sound_ruleParity _ _ _ h4)))
  clear_value x2
  extract_lets +onlyGivenNames -merge x3
  subst x3
  refine ite_holds (P := State.Sound) ?_ ?_
  · exact (sound_dropUnit _ _ _ _ (sound_State_count _ _ _ _ _ hx2))
  · split
    · exact (sound_dropUnit _ _ _ _ hx2)
    · refine ite_holds (P := State.Sound) ?_ ?_
      · exact (sound_dropUnit _ _ _ _ (sound_State_count _ _ _ _ _ hx2))
      · extract_lets +onlyGivenNames -merge x8
        have hx8 : State.Sound x8 := (sound_State_countIf _ _ _ _ _ (sound_State_countIf _ _ _ _ _ hx2))
        clear_value x8
        extract_lets +onlyGivenNames -merge x9
        have hx9 : State.Sound x9 := (sound_learnSky _ _ _ _ hx8)
        clear_value x9
        split
        · rename_i v10 v11 heq12
          have hv11 : State.Sound v11 := holds_eq (P := (Snd State.Sound)) heq12 (by
              exact (sound_egressCopy _ _ _ _ hx9))
          extract_lets +onlyGivenNames -merge x13
          extract_lets +onlyGivenNames -merge x14
          have hx14 : State.Sound x14 := (sound_setPort _ _ _ hv11)
          clear_value x14
          extract_lets +onlyGivenNames -merge x15
          have hx15 : State.Sound x15 := (ite_holds (P := State.Sound) (sound_chargeFrame _ _ _ _ _ hx14) hx14)
          clear_value x15
          extract_lets +onlyGivenNames -merge x16
          extract_lets +onlyGivenNames -merge x17
          exact (sound_setQueue _ _ _ hx15)

theorem sound_startLookup : ∀ a0 a1, State.Sound a1 →
    Snd State.Sound (startLookup a0 a1) := by
  intro a0 a1 h1
  unfold startLookup
  extract_lets +onlyGivenNames -merge x0
  extract_lets +onlyGivenNames -merge x1
  extract_lets +onlyGivenNames -merge x2
  subst x2
  beta_reduce
  refine ite_holds (P := (Snd State.Sound)) ?_ ?_
  · refine snd_holds (P := State.Sound) ?_
    exact (State.sound_mk h1.regs h1.shadow h1.cnts h1.tot h1.hold h1.pairs h1.ctl h1.host h1.hlt h1.nvm h1.cls
        h1.time h1.tbl (LeafSt.sound_mk h1.leaf.ports h1.leaf.lanes h1.leaf.samples h1.leaf.copies (SMap.sorted_put
        h1.leaf.looks _ _ _) h1.leaf.inLooks) h1.xbar h1.buf h1.tm h1.sky)
  · refine ite_holds (P := (Snd State.Sound)) ?_ ?_
    · refine snd_holds (P := State.Sound) ?_
      exact h1
    · refine snd_holds (P := State.Sound) ?_
      exact (sound_State_count _ _ _ _ _ (State.sound_mk h1.regs h1.shadow h1.cnts h1.tot h1.hold h1.pairs h1.ctl
          h1.host h1.hlt h1.nvm h1.cls h1.time h1.tbl (LeafSt.sound_mk h1.leaf.ports h1.leaf.lanes h1.leaf.samples
          h1.leaf.copies (SMap.sorted_put h1.leaf.looks _ _ _) h1.leaf.inLooks) h1.xbar h1.buf h1.tm h1.sky))

theorem sound_portTxStart : ∀ a0 a1 a2, State.Sound a2 →
    State.Sound (portTxStart a0 a1 a2) := by
  intro p bad s h
  unfold portTxStart
  extract_lets s1 x
  have h0 : State.Sound s1 := sound_refreshPort _ _ h
  clear_value x s1
  refine ite_holds h0 ?_
  split
  · exact h0
  · split
    · exact h0
    · have h1 := sound_startLookup (p / 16) s1 h0
      split
      · rename_i heq; rw [heq] at h1; exact h1
      · rename_i heq; rw [heq] at h1
        split
        · exact ite_holds (sound_failCell _ _ _ _ _ (sound_State_count _ _ _ _ _ (sound_keepChoice _ _ _ _ _ h1)))
            (sound_startFrame _ _ _ _ _ (sound_keepChoice _ _ _ _ _ h1))
        · exact sound_startFrame _ _ _ _ _ (sound_keepChoice _ _ _ _ _ h1)

theorem sound_execPortTxStart : ∀ a0 a1 a2, State.Sound a2 →
    ResHolds (execPortTxStart a0 a1 a2) := by
  intro a0 a1 a2 h2
  unfold execPortTxStart
  refine next_holds ?_
  refine sound_running _ _ ?_ h2
  · intro y0 hy0
    exact (sound_portTxStart _ _ _ hy0)

/-! ### Machine/Buffer.lean -/

theorem sound_allocMany : ∀ a0 a1 a2, State.Sound a2 →
    Snd State.Sound (allocMany a0 a1 a2) := by
  intro slot l
  induction l with
  | nil => exact fun s h => h
  | cons e l ih => exact fun s h => ih _ (sound_allocRsv _ _ h)

theorem sound_markRetired : ∀ a0 a1 a2, State.Sound a2 →
    State.Sound (markRetired a0 a1 a2) := by
  intro a0 a1 a2 h2
  unfold markRetired
  exact (ite_holds (P := State.Sound) h2 (sound_regAdd _ _ _ _ (sound_regAdd _ _ _ _ (sound_setTile _ _ _ _ h2))))

theorem sound_carve : ∀ a0, State.Sound a0 →
    State.Sound (carve a0) := by
  intro a0 h0
  unfold carve
  extract_lets +onlyGivenNames -merge x0
  extract_lets +onlyGivenNames -merge x1
  have hx1 : State.Sound x1 := (sound_State_setFld _ _ _ _ _ (sound_State_setFld _ _ _ _ _ h0))
  clear_value x1
  extract_lets +onlyGivenNames -merge x2
  have hx2 : BufSt.Sound x2 := hx1.buf
  clear_value x2
  extract_lets +onlyGivenNames -merge x3
  have hx3 : State.Sound x3 := (State.sound_mk hx1.regs hx1.shadow hx1.cnts hx1.tot hx1.hold hx1.pairs hx1.ctl
      hx1.host hx1.hlt hx1.nvm hx1.cls hx1.time hx1.tbl hx1.leaf hx1.xbar (BufSt.sound_mk (SMap.sorted_keep
      hx1.buf.tiles _) hx2.freeAt hx2.taken SMap.sorted_nil) hx1.tm hx1.sky)
  clear_value x3
  extract_lets +onlyGivenNames -merge x4
  have hx4 : State.Sound x4 := (foldl_holds (P := State.Sound) (fun _ _ hm5 => (sound_State_setReg _ _ _ _ _
      (sound_State_setReg _ _ _ _ _ (sound_State_setReg _ _ _ _ _ hm5)))) hx3)
  clear_value x4
  extract_lets +onlyGivenNames -merge x6
  have hx6 : State.Sound x6 := by
    subst x6
    refine foldl_holds (P := State.Sound) (fun b9 a10 hb9 => ?_) ?_
    · split
      · exact (sound_markRetired _ _ _ hb9)
      · exact hb9
    · exact hx4
  clear_value x6
  exact (sound_showSpill _ hx6)

theorem sound_carveCtrl : ∀ a0 a1, State.Sound a1 →
    State.Sound (carveCtrl a0 a1) := by
  intro a0 a1 h1
  unfold carveCtrl
  extract_lets +onlyGivenNames -merge x0
  have hx0 : State.Sound x0 := (ite_holds (P := State.Sound) (sound_State_setFld _ _ _ _ _ h1) h1)
  clear_value x0
  exact (ite_holds (P := State.Sound) hx0 (ite_holds (P := State.Sound) (sound_logWrite _ _ _ hx0) (ite_holds (P :=
      State.Sound) (sound_carve _ hx0) (sound_State_setFld _ _ _ _ _ (sound_State_setFld _ _ _ _ _ hx0)))))

theorem sound_carveDone : ∀ a0, State.Sound a0 →
    State.Sound (carveDone a0) := by
  intro a0 h0
  unfold carveDone
  refine ite_holds (P := State.Sound) ?_ ?_
  · extract_lets +onlyGivenNames -merge x0
    extract_lets +onlyGivenNames -merge x1
    extract_lets +onlyGivenNames -merge x2
    have hx2 : State.Sound x2 := (sound_State_setFld _ _ _ _ _ (sound_State_setFld _ _ _ _ _ (sound_State_setFld _ _
        _ _ _ h0)))
    clear_value x2
    exact (sound_showSpill _ (sound_State_setFld _ _ _ _ _ (sound_State_setFld _ _ _ _ _ hx2)))
  · exact h0

theorem sound_editUnit : ∀ a0 a1 a2 a3, State.Sound a3 →
    State.Sound (editUnit a0 a1 a2 a3) := by
  intro a0 a1 a2 a3 h3
  unfold editUnit
  extract_lets +onlyGivenNames -merge x0
  exact (sound_setQueue _ _ _ h3)

theorem sound_execBufCarve : ∀ a0 a1, State.Sound a1 →
    ResHolds (execBufCarve a0 a1) := by
  intro a0 a1 h1
  unfold execBufCarve
  refine next_holds ?_
  extract_lets +onlyGivenNames -merge x0
  refine sound_far _ _ _ ?_ h1
  · intro y1 hy1
    exact (sound_carveCtrl _ _ hy1)

theorem sound_execBufCarveDone : ∀ a0, State.Sound a0 →
    ResHolds (execBufCarveDone a0) := by
  intro a0 h0
  unfold execBufCarveDone
  refine next_holds ?_
  exact (sound_carveDone _ h0)

theorem sound_refillFail : ∀ a0 a1 a2 a3 a4, State.Sound a4 →
    State.Sound (refillFail a0 a1 a2 a3 a4) := by
  intro a0 a1 a2 a3 a4 h4
  unfold refillFail
  extract_lets +onlyGivenNames -merge x0
  subst x0
  extract_lets +onlyGivenNames -merge x1
  have hx1 : State.Sound x1 := (sound_quarFail _ _ _ (sound_editUnit _ _ _ _ h4))
  clear_value x1
  refine ite_holds (P := State.Sound) ?_ ?_
  · extract_lets +onlyGivenNames -merge x2
    have hx2 : State.Sound x2 := (foldl_holds (P := State.Sound) (fun _ _ hm3 => (sound_cellGone _ _ hm3))
        (sound_State_count _ _ _ _ _ hx1))
    clear_value x2
    exact (sound_State_led _ _ _ _ (sound_txDropped _ _ hx2))
  · exact (foldl_holds (P := State.Sound) (fun _ _ hm4 => (sound_skyGone _ _ (sound_State_count _ _ _ _ _ hm4))) hx1)

theorem sound_refillUnit : ∀ a0 a1 a2 a3 a4, State.Sound a4 →
    State.Sound (refillUnit a0 a1 a2 a3 a4) := by
  intro k flips bad e s h
  unfold refillUnit
  split
  · exact h
  · rename_i u _
    extract_lets n
    have h1 := sound_reserveTurn (160 + qXport k) n true s h
    generalize reserveTurn (160 + qXport k) n true s = r at h1
    obtain ⟨b, s1⟩ := r
    have h2 : State.Sound s1 := h1
    cases b <;> rcases u.hbm with _ | ⟨p, t⟩
    · exact sound_State_count _ _ _ _ _ h2
    · exact sound_State_count _ _ _ _ _ h2
    · exact sound_State_count _ _ _ _ _ h2
    · refine ite_holds (sound_refillFail _ _ _ _ _ (sound_unreserve _ _ h2)) ?_
      have h3 := sound_allocMany (refillSlots (qXport k)) u.cells _ (sound_bufError (refillSlots (qXport k)) e _ h2)
      split
      rename_i heq; rw [heq] at h3
      exact sound_State_count _ _ _ _ _ (sound_freeTile _ _ _ (sound_editUnit _ _ _ _ h3))

theorem sound_execRefillUnit : ∀ a0 a1 a2, State.Sound a2 →
    ResHolds (execRefillUnit a0 a1 a2) := by
  intro a0 a1 a2 h2
  unfold execRefillUnit
  refine next_holds ?_
  refine sound_running _ _ ?_ h2
  · intro y0 hy0
    exact (sound_refillUnit _ _ _ _ _ hy0)

theorem sound_retireTile : ∀ a0 a1 a2, State.Sound a2 →
    State.Sound (retireTile a0 a1 a2) := by
  intro p t s h
  unfold retireTile
  extract_lets s1 slot idx s2
  have h1 : State.Sound s1 := sound_setTile _ _ _ _ h
  clear_value s1
  have h2 : State.Sound s2 := by
    subst s2
    clear_value slot idx
    cases slot with
    | some j => exact sound_State_setFld _ _ _ _ _ (sound_State_setReg _ _ _ _ _ h1)
    | none => exact sound_State_setFld _ _ _ _ _ h1
  exact sound_fault _ _ _ _ _ (sound_State_count _ _ _ _ _ h2)

theorem sound_scrubTakes : ∀ a0 a1 a2, State.Sound a2 →
    Snd State.Sound (scrubTakes a0 a1 a2) := by
  intro a0 a1 a2 h2
  unfold scrubTakes
  refine ite_holds (P := (Snd State.Sound)) ?_ ?_
  · refine ite_holds (P := (Snd State.Sound)) ?_ ?_
    · refine snd_holds (P := State.Sound) ?_
      exact (sound_takeTile _ _ _ h2)
    · refine snd_holds (P := State.Sound) ?_
      exact (sound_State_count _ _ _ _ _ h2)
  · refine ite_holds (P := (Snd State.Sound)) ?_ ?_
    · refine snd_holds (P := State.Sound) ?_
      exact (of_snd (sound_hbmLoses _ _ _ h2))
    · refine ite_holds (P := (Snd State.Sound)) ?_ ?_
      · refine snd_holds (P := State.Sound) ?_
        exact (sound_State_count _ _ _ _ _ h2)
      · refine snd_holds (P := State.Sound) ?_
        exact (sound_takeTile _ _ _ (sound_setTaken _ _ _ h2))

theorem sound_scrubWrites : ∀ a0 a1 a2, State.Sound a2 →
    State.Sound (scrubWrites a0 a1 a2) := by
  intro a0 a1 a2 h2
  unfold scrubWrites
  exact (ite_holds (P := State.Sound) h2 (sound_setMeta _ _ _ _ h2))

theorem sound_scrubTile : ∀ a0 a1 a2 a3, State.Sound a3 →
    Snd State.Sound (scrubTile a0 a1 a2 a3) := by
  intro a0 a1 a2 a3 h3
  unfold scrubTile
  split
  · split
    · rename_i v1 heq2
      have hv1 : State.Sound v1 := holds_eq (P := (Snd State.Sound)) heq2 (by
          exact (sound_scrubTakes _ _ _ h3))
      refine snd_holds (P := State.Sound) ?_
      exact hv1
    · rename_i v3 heq4
      have hv3 : State.Sound v3 := holds_eq (P := (Snd State.Sound)) heq4 (by
          exact (sound_scrubTakes _ _ _ h3))
      refine snd_holds (P := State.Sound) ?_
      exact (ite_holds (P := State.Sound) (sound_freeTile _ _ _ (sound_scrubWrites _ _ _ hv3)) (sound_quarFail _ _ _
          hv3))
  · refine ite_holds (P := (Snd State.Sound)) ?_ ?_
    · refine snd_holds (P := State.Sound) ?_
      exact h3
    · refine ite_holds (P := (Snd State.Sound)) ?_ ?_
      · refine snd_holds (P := State.Sound) ?_
        exact (sound_retireTile _ _ _ h3)
      · refine ite_holds (P := (Snd State.Sound)) ?_ ?_
        · refine snd_holds (P := State.Sound) ?_
          exact (sound_State_count _ _ _ _ _ (sound_regAdd _ _ _ _ (sound_regAdd _ _ _ _ (sound_noteFree _ _ _
              (sound_setTile _ _ _ _ (sound_scrubWrites _ _ _ h3))))))
        · refine snd_holds (P := State.Sound) ?_
          exact (sound_setTile _ _ _ _ (sound_scrubWrites _ _ _ h3))

theorem sound_scrubVisit : ∀ a0 a1 a2, State.Sound a2 →
    State.Sound (scrubVisit a0 a1 a2) := by
  intro a0 a1 a2 h2
  unfold scrubVisit
  refine ite_holds (P := State.Sound) ?_ ?_
  · exact (sound_State_setFld _ _ _ _ _ h2)
  · extract_lets +onlyGivenNames -merge x0
    extract_lets +onlyGivenNames -merge x1
    split
    · rename_i v2 v3 heq4
      have hv3 : State.Sound v3 := holds_eq (P := (Snd State.Sound)) heq4 (by
          refine ite_holds (P := (Snd State.Sound)) ?_ ?_
          · exact (sound_scrubTile _ _ _ _ (sound_bufError _ _ _ h2))
          · refine snd_holds (P := State.Sound) ?_
            exact h2)
      refine ite_holds (P := State.Sound) ?_ ?_
      · exact (sound_State_setFld _ _ _ _ _ hv3)
      · refine ite_holds (P := State.Sound) ?_ ?_
        · exact (sound_State_setFld _ _ _ _ _ (sound_State_setFld _ _ _ _ _ hv3))
        · split
          · exact (sound_State_setFld _ _ _ _ _ (sound_State_setFld _ _ _ _ _ (sound_State_setFld _ _ _ _ _ hv3)))
          · exact (sound_State_setReg _ _ _ _ _ hv3)

theorem sound_execScrubVisit : ∀ a0 a1 a2, State.Sound a2 →
    ResHolds (execScrubVisit a0 a1 a2) := by
  intro a0 a1 a2 h2
  unfold execScrubVisit
  refine next_holds ?_
  refine sound_running _ _ ?_ h2
  · intro y0 hy0
    exact (sound_scrubVisit _ _ _ hy0)

theorem sound_spillFail : ∀ a0 a1 a2 a3, State.Sound a3 →
    State.Sound (spillFail a0 a1 a2 a3) := by
  intro a0 a1 a2 a3 h3
  unfold spillFail
  refine ite_holds (P := State.Sound) ?_ ?_
  · exact (sound_failCell _ _ _ _ _ (sound_State_count _ _ _ _ _ h3))
  · split
    · exact h3
    · extract_lets +onlyGivenNames -merge x4
      extract_lets +onlyGivenNames -merge x5
      have hx5 : State.Sound x5 := (sound_editUnit _ _ _ _ h3)
      clear_value x5
      exact (sound_skyGone _ _ (sound_quarFail _ _ _ (sound_State_count _ _ _ _ _ hx5)))

theorem sound_spillStays : ∀ a0 a1, State.Sound a1 →
    State.Sound (spillStays a0 a1) := by
  intro a0 a1 h1
  unfold spillStays
  extract_lets +onlyGivenNames -merge x0
  have hx0 : State.Sound x0 := (sound_State_count _ _ _ _ _ h1)
  clear_value x0
  extract_lets +onlyGivenNames -merge x1
  exact (sound_setQueue _ _ _ hx0)

theorem sound_spillTo : ∀ a0 a1 a2 a3, State.Sound a3 →
    State.Sound (spillTo a0 a1 a2 a3) := by
  intro a0 a1 a2 a3 h3
  unfold spillTo
  extract_lets +onlyGivenNames -merge x0
  extract_lets +onlyGivenNames -merge x1
  have hx1 : State.Sound x1 := (sound_setMeta _ _ _ _ h3)
  clear_value x1
  extract_lets +onlyGivenNames -merge x2
  have hx2 : State.Sound x2 := (foldl_holds (P := State.Sound) (fun _ _ hm3 => (sound_freeTile _ _ _ hm3))
      (sound_State_count _ _ _ _ _ hx1))
  clear_value x2
  exact (sound_editUnit _ _ _ _ hx2)

theorem sound_spillUnit : ∀ a0 a1 a2 a3, State.Sound a3 →
    State.Sound (spillUnit a0 a1 a2 a3) := by
  intro a0 a1 a2 a3 h3
  unfold spillUnit
  split
  · exact h3
  · refine ite_holds (P := State.Sound) ?_ ?_
    · exact (sound_editUnit _ _ _ _ h3)
    · split
      · exact (sound_spillFail _ _ _ _ h3)
      · extract_lets +onlyGivenNames -merge x6
        split
        · extract_lets +onlyGivenNames -merge x10
          have hx10 : State.Sound x10 := (sound_bufError _ _ _ h3)
          clear_value x10
          exact (ite_holds (P := State.Sound) (sound_setTaken _ _ _ hx10) hx10)
        · split
          · rename_i v13 heq14
            have hv13 : State.Sound v13 := holds_eq (P := (Snd State.Sound)) heq14 (by
                exact (sound_allocHbm _ _ _ (sound_bufError _ _ _ h3)))
            exact hv13
          · rename_i v15 heq16
            have hv15 : State.Sound v15 := holds_eq (P := (Snd State.Sound)) heq16 (by
                exact (sound_allocHbm _ _ _ (sound_bufError _ _ _ h3)))
            exact (sound_spillStays _ _ hv15)
          · rename_i v17 v18 heq19
            have hv18 : State.Sound v18 := holds_eq (P := (Snd State.Sound)) heq19 (by
                exact (sound_allocHbm _ _ _ (sound_bufError _ _ _ h3)))
            exact (sound_spillTo _ _ _ _ hv18)

theorem sound_execSpillUnit : ∀ a0 a1 a2, State.Sound a2 →
    ResHolds (execSpillUnit a0 a1 a2) := by
  intro a0 a1 a2 h2
  unfold execSpillUnit
  refine next_holds ?_
  refine sound_running _ _ ?_ h2
  · intro y0 hy0
    exact (sound_spillUnit _ _ _ _ hy0)

theorem sound_spillUnitClose : ∀ a0 a1, State.Sound a1 →
    State.Sound (spillUnitClose a0 a1) := by
  intro a0 a1 h1
  unfold spillUnitClose
  extract_lets +onlyGivenNames -merge x0
  subst x0
  split
  · exact h1
  · exact (ite_holds (P := State.Sound) h1 (sound_editUnit _ _ _ _ h1))

theorem sound_execSpillUnitClose : ∀ a0 a1, State.Sound a1 →
    ResHolds (execSpillUnitClose a0 a1) := by
  intro a0 a1 h1
  unfold execSpillUnitClose
  refine next_holds ?_
  refine sound_running _ _ ?_ h1
  · intro y0 hy0
    exact (sound_spillUnitClose _ _ hy0)

/-! ### Machine/Shaping.lean -/

theorem sound_execPolicerRefresh : ∀ a0 a1, State.Sound a1 →
    ResHolds (execPolicerRefresh a0 a1) := by
  intro a0 a1 h1
  unfold execPolicerRefresh
  refine next_holds ?_
  exact (sound_policerRefresh _ _ h1)

theorem sound_execShaperRefresh : ∀ a0 a1, State.Sound a1 →
    ResHolds (execShaperRefresh a0 a1) := by
  intro a0 a1 h1
  unfold execShaperRefresh
  refine next_holds ?_
  exact (sound_shaperRefresh _ _ h1)

theorem sound_wxLogPut : ∀ a0 a1, State.Sound a1 →
    State.Sound (wxLogPut a0 a1) := by
  intro a0 a1 h1
  unfold wxLogPut
  extract_lets +onlyGivenNames -merge x0
  extract_lets +onlyGivenNames -merge x1
  extract_lets +onlyGivenNames -merge x2
  subst x2
  beta_reduce
  refine ite_holds (P := State.Sound) ?_ ?_
  · exact (State.sound_mk h1.regs h1.shadow h1.cnts h1.tot h1.hold h1.pairs h1.ctl h1.host h1.hlt h1.nvm h1.cls
      h1.time h1.tbl h1.leaf h1.xbar h1.buf (TmSt.sound_mk h1.tm.queues h1.tm.charge h1.tm.shapers h1.tm.pols
      h1.tm.was h1.tm.wxLog) h1.sky)
  · refine ite_holds (P := State.Sound) ?_ ?_
    · exact (with_base (P := State.Sound) (sound_State_setFld _ _ _ _ _ h1) (fun hb3 => (State.sound_mk hb3.regs
        hb3.shadow hb3.cnts hb3.tot hb3.hold hb3.pairs hb3.ctl hb3.host hb3.hlt hb3.nvm hb3.cls hb3.time hb3.tbl
        hb3.leaf hb3.xbar hb3.buf (with_base (P := TmSt.Sound) hb3.tm (fun hb4 => (TmSt.sound_mk hb4.queues
        hb4.charge hb4.shapers hb4.pols hb4.was hb4.wxLog))) hb3.sky)))
    · extract_lets +onlyGivenNames -merge x5
      extract_lets +onlyGivenNames -merge x6
      have hx6 : State.Sound x6 := (sound_State_setFld _ _ _ _ _ h1)
      clear_value x6
      exact (with_base (P := State.Sound) (State.sound_mk hx6.regs hx6.shadow hx6.cnts hx6.tot hx6.hold hx6.pairs
          hx6.ctl hx6.host hx6.hlt hx6.nvm hx6.cls hx6.time hx6.tbl hx6.leaf hx6.xbar hx6.buf (TmSt.sound_mk
          hx6.tm.queues hx6.tm.charge hx6.tm.shapers hx6.tm.pols hx6.tm.was (SMap.sorted_insert
          hx6.tm.wxLog _ _)) hx6.sky) (fun hb7 => (State.sound_mk hb7.regs hb7.shadow hb7.cnts hb7.tot hb7.hold
          hb7.pairs hb7.ctl hb7.host hb7.hlt hb7.nvm hb7.cls hb7.time hb7.tbl hb7.leaf hb7.xbar hb7.buf (with_base (P
          := TmSt.Sound) hb7.tm (fun hb8 => (TmSt.sound_mk hb8.queues hb8.charge hb8.shapers hb8.pols hb8.was hb8.wxLog))) hb7.sky)))

theorem sound_wxOffer : ∀ a0 a1 a2, State.Sound a2 →
    State.Sound (wxOffer a0 a1 a2) := by
  intro a0 a1 a2 h2
  unfold wxOffer
  extract_lets +onlyGivenNames -merge x0
  subst x0
  beta_reduce
  extract_lets +onlyGivenNames -merge x1
  refine ite_holds (P := State.Sound) ?_ ?_
  · exact (ite_holds (P := State.Sound) (sound_toBacklog _ _ (State.sound_mk h2.regs h2.shadow h2.cnts h2.tot h2.hold
      h2.pairs h2.ctl h2.host h2.hlt h2.nvm h2.cls h2.time h2.tbl h2.leaf h2.xbar h2.buf (TmSt.sound_mk h2.tm.queues
      h2.tm.charge h2.tm.shapers h2.tm.pols h2.tm.was h2.tm.wxLog) h2.sky)) (sound_wxMiss _ _
      (sound_toBacklog _ _ h2)))
  · split
    · rename_i v2 heq3
      have hv2 : State.Sound v2 := holds_eq (P := (Snd State.Sound)) heq3 (by
          exact (sound_notePass _ _ h2))
      exact (sound_wxMiss _ _ (sound_State_count _ _ _ _ _ hv2))
    · rename_i v4 heq5
      have hv4 : State.Sound v4 := holds_eq (P := (Snd State.Sound)) heq5 (by
          exact (sound_notePass _ _ h2))
      exact (sound_noteWent _ _ (State.sound_mk hv4.regs hv4.shadow hv4.cnts hv4.tot hv4.hold hv4.pairs hv4.ctl
          hv4.host hv4.hlt hv4.nvm hv4.cls hv4.time hv4.tbl hv4.leaf hv4.xbar hv4.buf (TmSt.sound_mk hv4.tm.queues
          hv4.tm.charge hv4.tm.shapers hv4.tm.pols hv4.tm.was hv4.tm.wxLog) hv4.sky))

theorem sound_wxSample : ∀ a0, State.Sound a0 →
    State.Sound (wxSample a0) := by
  intro a0 h0
  unfold wxSample
  extract_lets +onlyGivenNames -merge x0
  extract_lets +onlyGivenNames -merge x1
  refine ite_holds (P := State.Sound) ?_ ?_
  · extract_lets +onlyGivenNames -merge x2
    extract_lets +onlyGivenNames -merge x3
    extract_lets +onlyGivenNames -merge x4
    extract_lets +onlyGivenNames -merge x5
    extract_lets +onlyGivenNames -merge x6
    have hx6 : State.Sound x6 := (sound_State_setFld _ _ _ _ _ (sound_State_setFld _ _ _ _ _ h0))
    clear_value x6
    extract_lets +onlyGivenNames -merge x7
    have hx7 : TmSt.Sound x7 := hx6.tm
    clear_value x7
    extract_lets +onlyGivenNames -merge x8
    have hx8 : State.Sound x8 := (State.sound_mk hx6.regs hx6.shadow hx6.cnts hx6.tot hx6.hold hx6.pairs hx6.ctl
        hx6.host hx6.hlt hx6.nvm hx6.cls hx6.time hx6.tbl hx6.leaf hx6.xbar hx6.buf (TmSt.sound_mk hx7.queues
        hx7.charge hx7.shapers hx7.pols hx7.was hx7.wxLog) hx6.sky)
    clear_value x8
    exact (foldl_holds (P := State.Sound) (fun _ _ hm9 => (sound_wxOffer _ _ _ (sound_wxLogPut _ _ hm9))) hx8)
  · exact h0

theorem sound_execWxSample : ∀ a0, State.Sound a0 →
    ResHolds (execWxSample a0) := by
  intro a0 h0
  unfold execWxSample
  refine next_holds ?_
  exact (sound_wxSample _ h0)

end Sys2Proof.Machine
end

