-- ==== Sys2Proof/Laws/SoundTable.lean ====
section
/-!
SUPPORT. A sound state stays sound under the operations of these files of Machine: TableWrite, Learn.
-/
namespace Sys2Proof.Machine

/-! ### Machine/TableWrite.lean -/

theorem sound_noteWait : ∀ a0 a1, State.Sound a1 →
    Snd State.Sound (noteWait a0 a1) := by
  intro a0 a1 h1
  unfold noteWait
  refine ite_holds (P := (Snd State.Sound)) ?_ ?_
  · refine snd_holds (P := State.Sound) ?_
    exact (sound_toBacklog _ _ h1)
  · refine ite_holds (P := (Snd State.Sound)) ?_ ?_
    · refine snd_holds (P := State.Sound) ?_
      exact h1
    · exact (sound_notePass _ _ h1)

theorem sound_argOk : ∀ a0 a1 a2, (∀ z0, State.Sound z0 → EndHolds (a1 z0)) → State.Sound a2 →
    EndHolds (argOk a0 a1 a2) := by
  intro a0 a1 a2 h1 h2
  unfold argOk
  refine ite_holds (P := EndHolds) ?_ ?_
  · refine h1 _ h2

  · exact (end_holds h2)

theorem sound_dump : ∀ a0 a1, State.Sound a1 →
    State.Sound (dump a0 a1) := by
  intro a0 a1 h1
  unfold dump
  split
  · exact h1
  · refine ite_holds (P := State.Sound) ?_ ?_
    · refine ite_holds (P := State.Sound) ?_ ?_
      · extract_lets +onlyGivenNames -merge x4
        extract_lets +onlyGivenNames -merge x5
        extract_lets +onlyGivenNames -merge x6
        have hx6 : State.Sound x6 := (sound_setUnitSt _ _ _ _ h1)
        clear_value x6
        split
        · exact (State.sound_mk hx6.regs hx6.shadow hx6.cnts hx6.tot hx6.hold hx6.pairs hx6.ctl (HostSt.sound_mk
            hx6.host.rings hx6.host.mem hx6.host.ext hx6.host.txLast) hx6.hlt hx6.nvm hx6.cls hx6.time hx6.tbl
            hx6.leaf hx6.xbar hx6.buf hx6.tm hx6.sky)
        · exact (State.sound_mk hx6.regs hx6.shadow hx6.cnts hx6.tot hx6.hold hx6.pairs hx6.ctl (HostSt.sound_mk
            hx6.host.rings hx6.host.mem hx6.host.ext hx6.host.txLast) hx6.hlt hx6.nvm hx6.cls hx6.time hx6.tbl
            hx6.leaf hx6.xbar hx6.buf hx6.tm hx6.sky)
      · exact (sound_finish _ _ _ _ h1)
    · exact h1

theorem sound_dumpClear : ∀ a0 a1 a2, State.Sound a2 →
    State.Sound (dumpClear a0 a1 a2) := by
  intro a0 a1 a2 h2
  unfold dumpClear
  exact (ite_holds (P := State.Sound) (State.sound_mk h2.regs h2.shadow h2.cnts h2.tot h2.hold h2.pairs h2.ctl
      h2.host h2.hlt h2.nvm (ClsSt.sound_mk h2.cls.rules h2.cls.staging h2.cls.edits h2.cls.tmpls (SMap.sorted_erase
      h2.cls.flows _)) h2.time h2.tbl h2.leaf h2.xbar h2.buf h2.tm h2.sky) (sound_setPol _ _ _ h2))

theorem sound_dumpRecord : ∀ a0, State.Sound a0 →
    State.Sound (dumpRecord a0) := by
  intro a0 h0
  unfold dumpRecord
  split
  · exact h0
  · split
    · rename_i v3 heq4
      have hv3 : State.Sound v3 := holds_eq (P := (Snd State.Sound)) heq4 (by
          exact (sound_noteWait _ _ h0))
      exact hv3
    · rename_i v5 heq6
      have hv5 : State.Sound v5 := holds_eq (P := (Snd State.Sound)) heq6 (by
          exact (sound_noteWait _ _ h0))
      extract_lets +onlyGivenNames -merge x7
      have hx7 : State.Sound x7 := (ite_holds (P := State.Sound) (sound_dumpClear _ _ _ hv5) hv5)
      clear_value x7
      refine ite_holds (P := State.Sound) ?_ ?_
      · extract_lets +onlyGivenNames -merge x8
        have hx8 : HostSt.Sound x8 := hx7.host
        clear_value x8
        extract_lets +onlyGivenNames -merge x9
        have hx9 : State.Sound x9 := (State.sound_mk hx7.regs hx7.shadow hx7.cnts hx7.tot hx7.hold hx7.pairs hx7.ctl
            (HostSt.sound_mk hx8.rings hx8.mem hx8.ext hx8.txLast) hx7.hlt hx7.nvm hx7.cls hx7.time hx7.tbl hx7.leaf
            hx7.xbar hx7.buf hx7.tm hx7.sky)
        clear_value x9
        split
        · exact (sound_finish _ _ _ _ hx9)
        · exact hx9
      · exact (State.sound_mk hx7.regs hx7.shadow hx7.cnts hx7.tot hx7.hold hx7.pairs hx7.ctl (HostSt.sound_mk
          hx7.host.rings hx7.host.mem hx7.host.ext hx7.host.txLast) hx7.hlt hx7.nvm hx7.cls hx7.time hx7.tbl hx7.leaf
          hx7.xbar hx7.buf hx7.tm hx7.sky)

theorem sound_tblOp : ∀ a0 a1 a2 a3, (∀ z0 z1, State.Sound z1 → EndHolds (a2 z0 z1)) → State.Sound a3 →
    State.Sound (tblOp a0 a1 a2 a3) := by
  intro a0 a1 a2 a3 h2 h3
  unfold tblOp
  split
  · exact h3
  · refine ite_holds (P := State.Sound) ?_ ?_
    · extract_lets +onlyGivenNames -merge x4
      have hx4 : EndHolds x4 := by
        subst x4
        refine h2 _ _ h3

      clear_value x4
      exact (sound_finish _ _ _ _ (of_end hx4))
    · exact h3

theorem sound_ecmpWrite : ∀ a0 a1, State.Sound a1 →
    State.Sound (ecmpWrite a0 a1) := by
  intro a0 a1 h1
  unfold ecmpWrite
  refine sound_tblOp _ _ _ _ ?_ h1
  · intro y0 y1 hy1
    refine sound_argOk _ _ _ ?_ hy1
    · intro y2 hy2
      exact (end_holds (State.sound_mk hy2.regs hy2.shadow hy2.cnts hy2.tot hy2.hold hy2.pairs hy2.ctl hy2.host
          hy2.hlt hy2.nvm hy2.cls hy2.time (TblSt.sound_mk hy2.tbl.slots hy2.tbl.filters hy2.tbl.nhs
          (SMap.sorted_insert hy2.tbl.groups _ _) hy2.tbl.members hy2.tbl.lags) hy2.leaf hy2.xbar hy2.buf hy2.tm
          hy2.sky))

theorem sound_editWrite : ∀ a0 a1, State.Sound a1 →
    State.Sound (editWrite a0 a1) := by
  intro a0 a1 h1
  unfold editWrite
  refine sound_tblOp _ _ _ _ ?_ h1
  · intro y0 y1 hy1
    refine sound_argOk _ _ _ ?_ hy1
    · intro y2 hy2
      extract_lets +onlyGivenNames -merge x3
      exact (end_holds (State.sound_mk hy2.regs hy2.shadow hy2.cnts hy2.tot hy2.hold hy2.pairs hy2.ctl hy2.host
          hy2.hlt hy2.nvm (ClsSt.sound_mk hy2.cls.rules hy2.cls.staging (SMap.sorted_insert hy2.cls.edits _ _)
          hy2.cls.tmpls hy2.cls.flows) hy2.time hy2.tbl hy2.leaf hy2.xbar hy2.buf hy2.tm hy2.sky))

theorem sound_execDump : ∀ a0 a1, State.Sound a1 →
    ResHolds (execDump a0 a1) := by
  intro a0 a1 h1
  unfold execDump
  refine next_holds ?_
  exact (sound_dump _ _ h1)

theorem sound_execDumpRecord : ∀ a0, State.Sound a0 →
    ResHolds (execDumpRecord a0) := by
  intro a0 h0
  unfold execDumpRecord
  refine next_holds ?_
  exact (sound_dumpRecord _ h0)

theorem sound_execEcmpWrite : ∀ a0 a1, State.Sound a1 →
    ResHolds (execEcmpWrite a0 a1) := by
  intro a0 a1 h1
  unfold execEcmpWrite
  refine next_holds ?_
  exact (sound_ecmpWrite _ _ h1)

theorem sound_execEditWrite : ∀ a0 a1, State.Sound a1 →
    ResHolds (execEditWrite a0 a1) := by
  intro a0 a1 h1
  unfold execEditWrite
  refine next_holds ?_
  exact (sound_editWrite _ _ h1)

theorem sound_filterWrite : ∀ a0 a1, State.Sound a1 →
    State.Sound (filterWrite a0 a1) := by
  intro a0 a1 h1
  unfold filterWrite
  refine sound_tblOp _ _ _ _ ?_ h1
  · intro y0 y1 hy1
    refine sound_argOk _ _ _ ?_ hy1
    · intro y2 hy2
      exact (ite_holds (P := EndHolds) (end_holds (State.sound_mk hy2.regs hy2.shadow hy2.cnts hy2.tot hy2.hold
          hy2.pairs hy2.ctl hy2.host hy2.hlt hy2.nvm hy2.cls hy2.time (TblSt.sound_mk hy2.tbl.slots
          (SMap.sorted_insert hy2.tbl.filters _ _) hy2.tbl.nhs hy2.tbl.groups hy2.tbl.members hy2.tbl.lags) hy2.leaf
          hy2.xbar hy2.buf hy2.tm hy2.sky)) (end_holds hy2))

theorem sound_execFilterWrite : ∀ a0 a1, State.Sound a1 →
    ResHolds (execFilterWrite a0 a1) := by
  intro a0 a1 h1
  unfold execFilterWrite
  refine next_holds ?_
  exact (sound_filterWrite _ _ h1)

theorem sound_tblDelete : ∀ a0 a1 a2, State.Sound a2 →
    EndHolds (tblDelete a0 a1 a2) := by
  intro a0 a1 a2 h2
  unfold tblDelete
  split
  · exact (end_holds h2)
  · extract_lets +onlyGivenNames -merge x3
    have hx3 : State.Sound x3 := (sound_slotParity _ _ h2)
    clear_value x3
    split
    · exact (end_holds hx3)
    · exact (end_holds (sound_State_count _ _ _ _ _ (State.sound_mk hx3.regs hx3.shadow hx3.cnts hx3.tot hx3.hold
        hx3.pairs hx3.ctl hx3.host hx3.hlt hx3.nvm hx3.cls hx3.time (TblSt.sound_mk (sound_clearEnt _ _
        hx3.tbl.slots) hx3.tbl.filters hx3.tbl.nhs hx3.tbl.groups hx3.tbl.members hx3.tbl.lags) hx3.leaf hx3.xbar
        hx3.buf hx3.tm hx3.sky)))

theorem sound_hostDelete : ∀ a0 a1, State.Sound a1 →
    State.Sound (hostDelete a0 a1) := by
  intro a0 a1 h1
  unfold hostDelete
  refine sound_tblOp _ _ _ _ ?_ h1
  · intro y0 y1 hy1
    exact (sound_tblDelete _ _ _ hy1)

theorem sound_execHostDelete : ∀ a0 a1, State.Sound a1 →
    ResHolds (execHostDelete a0 a1) := by
  intro a0 a1 h1
  unfold execHostDelete
  refine next_holds ?_
  exact (sound_hostDelete _ _ h1)

theorem tryAll_some {α : Type} {f : Nat → List Nat × Option α} {l : List Nat} {x : α} (h : (tryAll f l).2 = some x) :
    ∃ i, (f i).2 = some x := by
  induction l with
  | nil => cases h
  | cons i l ih =>
    unfold tryAll at h
    split at h
    · rename_i heq; exact ⟨i, by rw [heq]; exact h⟩
    · exact ih h

theorem sorted_chain (r : Region) : ∀ d m b n seen m', SMap.sorted m = true → (chain r d m b n seen).2 = some m' →
    SMap.sorted m' = true := by
  intro d
  induction d with
  | zero =>
    intro m b n seen m' hm h
    unfold chain at h
    obtain ⟨i, hi⟩ := tryAll_some h
    split at hi
    · dsimp only at hi
      split at hi
      · rcases ite_eq_iff.1 hi with ⟨-, hi⟩ | ⟨-, hi⟩
        · cases hi; exact sound_clearEnt _ _ (sound_placeAt _ _ _ hm)
        · cases hi
      · cases hi
    · cases hi
  | succ d ih =>
    intro m b n seen m' hm h
    unfold chain at h
    obtain ⟨i, hi⟩ := tryAll_some h
    split at hi
    · dsimp only at hi
      split at hi
      · obtain ⟨m2, h2, rfl⟩ := Option.map_eq_some_iff.1 hi
        exact sound_clearEnt _ _ (sound_placeAt _ _ _ (ih _ _ _ _ _ hm h2))
      · cases hi
    · cases hi

theorem sorted_chains (r : Region) (m : SMap Slot) (b1 b2 n : Nat) (hm : SMap.sorted m = true) : ∀ f d x,
    (chains r m b1 b2 n f d).2 = some x → SMap.sorted x.1 = true := by
  intro f
  induction f with
  | zero => intro d x h; cases h
  | succ f ih =>
    intro d x h
    unfold chains at h
    split at h
    · rename_i heq; cases h; exact sorted_chain _ _ _ _ _ _ _ hm (by rw [heq])
    · split at h
      · rename_i heq; cases h; exact sorted_chain _ _ _ _ _ _ _ hm (by rw [heq])
      · exact ih _ _ h

theorem sorted_insertEnt (r : Region) (m : SMap Slot) (e : Ent) (x : SMap Slot × Nat × Nat)
    (hm : SMap.sorted m = true) (h : (insertEnt r m e).2 = some x) : SMap.sorted x.1 = true := by
  unfold insertEnt at h
  split at h
  · cases h; exact SMap.sorted_insert hm _ _
  · extract_lets at h
    split at h
    clear_value *
    split at h
    · cases h; exact sound_placeAt _ _ _ hm
    · obtain ⟨y, h2, rfl⟩ := Option.map_eq_some_iff.1 h
      exact sound_placeAt _ _ _ (sorted_chains _ _ _ _ _ hm _ _ _ h2)

theorem sound_tblInsert : ∀ a0 a1 a2, State.Sound a2 →
    EndHolds (tblInsert a0 a1 a2) := by
  intro bank e s h
  unfold tblInsert
  split
  · exact end_holds h
  · extract_lets y own s1
    have h1 : State.Sound s1 := sound_slotParity _ _ h
    clear_value s1
    split
    · exact end_holds h1
    · rename_i heq
      exact end_holds (sound_State_count _ _ _ _ _ (sound_State_count _ _ _ _ _
        (State.sound_mk h1.regs h1.shadow h1.cnts h1.tot h1.hold h1.pairs h1.ctl h1.host h1.hlt h1.nvm h1.cls h1.time
          (TblSt.sound_mk (sorted_insertEnt _ _ _ (_, _, _) h.tbl.slots heq) h1.tbl.filters h1.tbl.nhs h1.tbl.groups
            h1.tbl.members h1.tbl.lags) h1.leaf h1.xbar h1.buf h1.tm h1.sky)))

theorem sound_hostInsert : ∀ a0 a1, State.Sound a1 →
    State.Sound (hostInsert a0 a1) := by
  intro a0 a1 h1
  unfold hostInsert
  refine sound_tblOp _ _ _ _ ?_ h1
  · intro y0 y1 hy1
    exact (sound_tblInsert _ _ _ hy1)

theorem sound_execHostInsert : ∀ a0 a1, State.Sound a1 →
    ResHolds (execHostInsert a0 a1) := by
  intro a0 a1 h1
  unfold execHostInsert
  refine next_holds ?_
  exact (sound_hostInsert _ _ h1)

theorem sound_lagWrite : ∀ a0 a1, State.Sound a1 →
    State.Sound (lagWrite a0 a1) := by
  intro a0 a1 h1
  unfold lagWrite
  refine sound_tblOp _ _ _ _ ?_ h1
  · intro y0 y1 hy1
    refine sound_argOk _ _ _ ?_ hy1
    · intro y2 hy2
      exact (end_holds (State.sound_mk hy2.regs hy2.shadow hy2.cnts hy2.tot hy2.hold hy2.pairs hy2.ctl hy2.host
          hy2.hlt hy2.nvm hy2.cls hy2.time (TblSt.sound_mk hy2.tbl.slots hy2.tbl.filters hy2.tbl.nhs hy2.tbl.groups
          hy2.tbl.members (SMap.sorted_insert hy2.tbl.lags _ _)) hy2.leaf hy2.xbar hy2.buf hy2.tm hy2.sky))

theorem sound_execLagWrite : ∀ a0 a1, State.Sound a1 →
    ResHolds (execLagWrite a0 a1) := by
  intro a0 a1 h1
  unfold execLagWrite
  refine next_holds ?_
  exact (sound_lagWrite _ _ h1)

theorem sound_freeCand : ∀ a0 a1, State.Sound a1 →
    State.Sound (freeCand a0 a1) := by
  intro a0 a1 h1
  unfold freeCand
  extract_lets +onlyGivenNames -merge x0
  extract_lets +onlyGivenNames -merge x1
  exact (State.sound_mk h1.regs h1.shadow h1.cnts h1.tot h1.hold h1.pairs h1.ctl h1.host h1.hlt h1.nvm h1.cls h1.time
      (TblSt.sound_mk h1.tbl.slots h1.tbl.filters h1.tbl.nhs h1.tbl.groups h1.tbl.members h1.tbl.lags) h1.leaf
      h1.xbar h1.buf h1.tm h1.sky)

theorem sound_learnAck : ∀ a0 a1, State.Sound a1 →
    State.Sound (learnAck a0 a1) := by
  intro a0 a1 h1
  unfold learnAck
  refine sound_tblOp _ _ _ _ ?_ h1
  · intro y0 y1 hy1
    exact (end_holds (sound_freeCand _ _ hy1))

theorem sound_execLearnAck : ∀ a0 a1, State.Sound a1 →
    ResHolds (execLearnAck a0 a1) := by
  intro a0 a1 h1
  unfold execLearnAck
  refine next_holds ?_
  exact (sound_learnAck _ _ h1)

theorem sound_lpmDelete : ∀ a0 a1, State.Sound a1 →
    State.Sound (lpmDelete a0 a1) := by
  intro a0 a1 h1
  unfold lpmDelete
  refine sound_tblOp _ _ _ _ ?_ h1
  · intro y0 y1 hy1
    refine sound_argOk _ _ _ ?_ hy1
    · intro y2 hy2
      exact (sound_tblDelete _ _ _ hy2)

theorem sound_execLpmDelete : ∀ a0 a1, State.Sound a1 →
    ResHolds (execLpmDelete a0 a1) := by
  intro a0 a1 h1
  unfold execLpmDelete
  refine next_holds ?_
  exact (sound_lpmDelete _ _ h1)

theorem sound_lpmInsert : ∀ a0 a1, State.Sound a1 →
    State.Sound (lpmInsert a0 a1) := by
  intro a0 a1 h1
  unfold lpmInsert
  refine sound_tblOp _ _ _ _ ?_ h1
  · intro y0 y1 hy1
    refine sound_argOk _ _ _ ?_ hy1
    · intro y2 hy2
      exact (sound_tblInsert _ _ _ hy2)

theorem sound_execLpmInsert : ∀ a0 a1, State.Sound a1 →
    ResHolds (execLpmInsert a0 a1) := by
  intro a0 a1 h1
  unfold execLpmInsert
  refine next_holds ?_
  exact (sound_lpmInsert _ _ h1)

theorem sound_freeing : ∀ a0 a1, EndHolds a1 →
    EndHolds (freeing a0 a1) := by
  intro a0 a1 h1
  unfold freeing
  exact (end_holds (sound_freeCand _ _ (of_end h1)))

theorem sound_macDelete : ∀ a0 a1, State.Sound a1 →
    State.Sound (macDelete a0 a1) := by
  intro a0 a1 h1
  unfold macDelete
  refine sound_tblOp _ _ _ _ ?_ h1
  · intro y0 y1 hy1
    exact (sound_freeing _ _ (sound_tblDelete _ _ _ hy1))

theorem sound_execMacDelete : ∀ a0 a1, State.Sound a1 →
    ResHolds (execMacDelete a0 a1) := by
  intro a0 a1 h1
  unfold execMacDelete
  refine next_holds ?_
  exact (sound_macDelete _ _ h1)

theorem sound_macInsert : ∀ a0 a1, State.Sound a1 →
    State.Sound (macInsert a0 a1) := by
  intro a0 a1 h1
  unfold macInsert
  refine sound_tblOp _ _ _ _ ?_ h1
  · intro y0 y1 hy1
    exact (sound_freeing _ _ (sound_tblInsert _ _ _ hy1))

theorem sound_execMacInsert : ∀ a0 a1, State.Sound a1 →
    ResHolds (execMacInsert a0 a1) := by
  intro a0 a1 h1
  unfold execMacInsert
  refine next_holds ?_
  exact (sound_macInsert _ _ h1)

theorem sound_memberWrite : ∀ a0 a1, State.Sound a1 →
    State.Sound (memberWrite a0 a1) := by
  intro a0 a1 h1
  unfold memberWrite
  refine sound_tblOp _ _ _ _ ?_ h1
  · intro y0 y1 hy1
    refine sound_argOk _ _ _ ?_ hy1
    · intro y2 hy2
      exact (end_holds (State.sound_mk hy2.regs hy2.shadow hy2.cnts hy2.tot hy2.hold hy2.pairs hy2.ctl hy2.host
          hy2.hlt hy2.nvm hy2.cls hy2.time (TblSt.sound_mk hy2.tbl.slots hy2.tbl.filters hy2.tbl.nhs hy2.tbl.groups
          (SMap.sorted_insert hy2.tbl.members _ _) hy2.tbl.lags) hy2.leaf hy2.xbar hy2.buf hy2.tm hy2.sky))

theorem sound_execMemberWrite : ∀ a0 a1, State.Sound a1 →
    ResHolds (execMemberWrite a0 a1) := by
  intro a0 a1 h1
  unfold execMemberWrite
  refine next_holds ?_
  exact (sound_memberWrite _ _ h1)

theorem sound_nhWrite : ∀ a0 a1, State.Sound a1 →
    State.Sound (nhWrite a0 a1) := by
  intro a0 a1 h1
  unfold nhWrite
  refine sound_tblOp _ _ _ _ ?_ h1
  · intro y0 y1 hy1
    refine sound_argOk _ _ _ ?_ hy1
    · intro y2 hy2
      exact (end_holds (State.sound_mk hy2.regs hy2.shadow hy2.cnts hy2.tot hy2.hold hy2.pairs hy2.ctl hy2.host
          hy2.hlt hy2.nvm hy2.cls hy2.time (TblSt.sound_mk hy2.tbl.slots hy2.tbl.filters (SMap.sorted_insert
          hy2.tbl.nhs _ _) hy2.tbl.groups hy2.tbl.members hy2.tbl.lags) hy2.leaf hy2.xbar hy2.buf hy2.tm hy2.sky))

theorem sound_execNhWrite : ∀ a0 a1, State.Sound a1 →
    ResHolds (execNhWrite a0 a1) := by
  intro a0 a1 h1
  unfold execNhWrite
  refine next_holds ?_
  exact (sound_nhWrite _ _ h1)

theorem sound_stageDiscard : ∀ a0 a1 a2, State.Sound a2 →
    State.Sound (stageDiscard a0 a1 a2) := by
  intro a0 a1 a2 h2
  unfold stageDiscard
  split
  · exact (sound_State_countIf _ _ _ _ _ h2)
  · exact h2

theorem sound_stagePart : ∀ a0 a1 a2 a3, State.Sound a3 →
    State.Sound (stagePart a0 a1 a2 a3) := by
  intro a0 a1 a2 a3 h3
  unfold stagePart
  extract_lets +onlyGivenNames -merge x0
  extract_lets +onlyGivenNames -merge x1
  have hx1 : State.Sound x1 := (sound_stageDiscard _ _ _ h3)
  clear_value x1
  exact (State.sound_mk hx1.regs hx1.shadow hx1.cnts hx1.tot hx1.hold hx1.pairs hx1.ctl hx1.host hx1.hlt hx1.nvm
      (ClsSt.sound_mk hx1.cls.rules (SMap.sorted_insert hx1.cls.staging _ _) hx1.cls.edits hx1.cls.tmpls
      hx1.cls.flows) hx1.time hx1.tbl hx1.leaf hx1.xbar hx1.buf hx1.tm hx1.sky)

theorem sound_ruleAction : ∀ a0 a1, State.Sound a1 →
    State.Sound (ruleAction a0 a1) := by
  intro a0 a1 h1
  unfold ruleAction
  refine sound_tblOp _ _ _ _ ?_ h1
  · intro y0 y1 hy1
    refine sound_argOk _ _ _ ?_ hy1
    · intro y2 hy2
      exact (end_holds (sound_stagePart _ _ _ _ hy2))

theorem sound_execRuleAction : ∀ a0 a1, State.Sound a1 →
    ResHolds (execRuleAction a0 a1) := by
  intro a0 a1 h1
  unfold execRuleAction
  refine next_holds ?_
  exact (sound_ruleAction _ _ h1)

theorem sound_ruleKey : ∀ a0 a1, State.Sound a1 →
    State.Sound (ruleKey a0 a1) := by
  intro a0 a1 h1
  unfold ruleKey
  refine sound_tblOp _ _ _ _ ?_ h1
  · intro y0 y1 hy1
    refine sound_argOk _ _ _ ?_ hy1
    · intro y2 hy2
      exact (end_holds (sound_stagePart _ _ _ _ hy2))

theorem sound_execRuleKey : ∀ a0 a1, State.Sound a1 →
    ResHolds (execRuleKey a0 a1) := by
  intro a0 a1 h1
  unfold execRuleKey
  refine next_holds ?_
  exact (sound_ruleKey _ _ h1)

theorem sound_ruleMask : ∀ a0 a1, State.Sound a1 →
    State.Sound (ruleMask a0 a1) := by
  intro a0 a1 h1
  unfold ruleMask
  refine sound_tblOp _ _ _ _ ?_ h1
  · intro y0 y1 hy1
    refine sound_argOk _ _ _ ?_ hy1
    · intro y2 hy2
      exact (end_holds (sound_stagePart _ _ _ _ hy2))

theorem sound_execRuleMask : ∀ a0 a1, State.Sound a1 →
    ResHolds (execRuleMask a0 a1) := by
  intro a0 a1 h1
  unfold execRuleMask
  refine next_holds ?_
  exact (sound_ruleMask _ _ h1)

theorem sound_unstage : ∀ a0 a1 a2, State.Sound a2 →
    State.Sound (unstage a0 a1 a2) := by
  intro a0 a1 a2 h2
  unfold unstage
  split
  · exact (ite_holds (P := State.Sound) (State.sound_mk h2.regs h2.shadow h2.cnts h2.tot h2.hold h2.pairs h2.ctl
      h2.host h2.hlt h2.nvm (ClsSt.sound_mk h2.cls.rules (SMap.sorted_erase h2.cls.staging _) h2.cls.edits
      h2.cls.tmpls h2.cls.flows) h2.time h2.tbl h2.leaf h2.xbar h2.buf h2.tm h2.sky) h2)
  · exact h2

theorem sound_ruleWrite : ∀ a0 a1 a2 a3, State.Sound a3 →
    State.Sound (ruleWrite a0 a1 a2 a3) := by
  intro a0 a1 a2 a3 h3
  unfold ruleWrite
  extract_lets +onlyGivenNames -merge x0
  extract_lets +onlyGivenNames -merge x1
  exact (sound_unstage _ _ _ (State.sound_mk h3.regs h3.shadow h3.cnts h3.tot h3.hold h3.pairs h3.ctl h3.host h3.hlt
      h3.nvm (ClsSt.sound_mk (SMap.sorted_put h3.cls.rules _ _ _) h3.cls.staging h3.cls.edits h3.cls.tmpls
      h3.cls.flows) h3.time h3.tbl h3.leaf h3.xbar h3.buf h3.tm h3.sky))

theorem sound_ruleValid : ∀ a0 a1, State.Sound a1 →
    State.Sound (ruleValid a0 a1) := by
  intro a0 a1 h1
  unfold ruleValid
  refine sound_tblOp _ _ _ _ ?_ h1
  · intro y0 y1 hy1
    refine sound_argOk _ _ _ ?_ hy1
    · intro y2 hy2
      exact (end_holds (sound_ruleWrite _ _ _ _ hy2))

theorem sound_execRuleValid : ∀ a0 a1, State.Sound a1 →
    ResHolds (execRuleValid a0 a1) := by
  intro a0 a1 h1
  unfold execRuleValid
  refine next_holds ?_
  exact (sound_ruleValid _ _ h1)

theorem sound_templateWrite : ∀ a0 a1, State.Sound a1 →
    State.Sound (templateWrite a0 a1) := by
  intro a0 a1 h1
  unfold templateWrite
  refine sound_tblOp _ _ _ _ ?_ h1
  · intro y0 y1 hy1
    refine sound_argOk _ _ _ ?_ hy1
    · intro y2 hy2
      exact (end_holds (State.sound_mk hy2.regs hy2.shadow hy2.cnts hy2.tot hy2.hold hy2.pairs hy2.ctl hy2.host
          hy2.hlt hy2.nvm (ClsSt.sound_mk hy2.cls.rules hy2.cls.staging hy2.cls.edits (SMap.sorted_insert
          hy2.cls.tmpls _ _) hy2.cls.flows) hy2.time hy2.tbl hy2.leaf hy2.xbar hy2.buf hy2.tm hy2.sky))

theorem sound_execTemplateWrite : ∀ a0 a1, State.Sound a1 →
    ResHolds (execTemplateWrite a0 a1) := by
  intro a0 a1 h1
  unfold execTemplateWrite
  refine next_holds ?_
  exact (sound_templateWrite _ _ h1)

/-! ### Machine/Learn.lean -/

theorem sound_ageEntry : ∀ a0 a1 a2, State.Sound a2 →
    Snd State.Sound (ageEntry a0 a1 a2) := by
  intro a0 a1 a2 h2
  unfold ageEntry
  refine ite_holds (P := (Snd State.Sound)) ?_ ?_
  · refine snd_holds (P := State.Sound) ?_
    exact (sound_setEnt _ _ _ h2)
  · extract_lets +onlyGivenNames -merge x0
    extract_lets +onlyGivenNames -merge x1
    refine ite_holds (P := (Snd State.Sound)) ?_ ?_
    · refine ite_holds (P := (Snd State.Sound)) ?_ ?_
      · refine snd_holds (P := State.Sound) ?_
        exact h2
      · split
        · rename_i v2 heq3
          have hv2 : State.Sound v2 := holds_eq (P := (Snd State.Sound)) heq3 (by
              exact (sound_noteWait _ _ h2))
          refine snd_holds (P := State.Sound) ?_
          exact hv2
        · rename_i v4 heq5
          have hv4 : State.Sound v4 := holds_eq (P := (Snd State.Sound)) heq5 (by
              exact (sound_noteWait _ _ h2))
          refine snd_holds (P := State.Sound) ?_
          exact (sound_State_count _ _ _ _ _ (sound_setEnt _ _ _ hv4))
    · split
      · rename_i v6 heq7
        have hv6 : State.Sound v6 := holds_eq (P := (Snd State.Sound)) heq7 (by
            exact (sound_noteWait _ _ h2))
        refine snd_holds (P := State.Sound) ?_
        exact hv6
      · rename_i v8 heq9
        have hv8 : State.Sound v8 := holds_eq (P := (Snd State.Sound)) heq9 (by
            exact (sound_noteWait _ _ h2))
        refine snd_holds (P := State.Sound) ?_
        exact (sound_State_count _ _ _ _ _ (State.sound_mk hv8.regs hv8.shadow hv8.cnts hv8.tot hv8.hold hv8.pairs
            hv8.ctl hv8.host hv8.hlt hv8.nvm hv8.cls hv8.time (TblSt.sound_mk (sound_clearEnt _ _ hv8.tbl.slots)
            hv8.tbl.filters hv8.tbl.nhs hv8.tbl.groups hv8.tbl.members hv8.tbl.lags) hv8.leaf hv8.xbar hv8.buf hv8.tm
            hv8.sky))

theorem sound_stallCount : ∀ a0, State.Sound a0 →
    State.Sound (stallCount a0) := by
  intro a0 h0
  unfold stallCount
  split
  · exact h0
  · exact (ite_holds (P := State.Sound) (State.sound_mk h0.regs h0.shadow h0.cnts h0.tot h0.hold h0.pairs h0.ctl
      h0.host h0.hlt h0.nvm h0.cls h0.time (TblSt.sound_mk h0.tbl.slots h0.tbl.filters h0.tbl.nhs h0.tbl.groups
      h0.tbl.members h0.tbl.lags) h0.leaf h0.xbar h0.buf h0.tm h0.sky) (sound_State_count _ _ _ _ _ (State.sound_mk
      h0.regs h0.shadow h0.cnts h0.tot h0.hold h0.pairs h0.ctl h0.host h0.hlt h0.nvm h0.cls h0.time (TblSt.sound_mk
      h0.tbl.slots h0.tbl.filters h0.tbl.nhs h0.tbl.groups h0.tbl.members h0.tbl.lags) h0.leaf h0.xbar h0.buf h0.tm
      h0.sky)))

theorem sound_sweepOn : ∀ a0 a1, State.Sound a1 →
    State.Sound (sweepOn a0 a1) := by
  intro a0 a1 h1
  unfold sweepOn
  extract_lets +onlyGivenNames -merge x0
  have hx0 : TblSt.Sound x0 := h1.tbl
  clear_value x0
  extract_lets +onlyGivenNames -merge x1
  have hx1 : State.Sound x1 := (State.sound_mk h1.regs h1.shadow h1.cnts h1.tot h1.hold h1.pairs h1.ctl h1.host
      h1.hlt h1.nvm h1.cls h1.time (TblSt.sound_mk hx0.slots hx0.filters hx0.nhs hx0.groups hx0.members hx0.lags)
      h1.leaf h1.xbar h1.buf h1.tm h1.sky)
  clear_value x1
  split
  · exact (sound_State_setFld _ _ _ _ _ (sound_State_setFld _ _ _ _ _ hx1))
  · exact (sound_State_setFld _ _ _ _ _ (sound_State_setFld _ _ _ _ _ hx1))

theorem sound_ageSweepVisit : ∀ a0, State.Sound a0 →
    State.Sound (ageSweepVisit a0) := by
  intro a0 h0
  unfold ageSweepVisit
  refine ite_holds (P := State.Sound) ?_ ?_
  · exact (sound_State_setFld _ _ _ _ _ (sound_State_setFld _ _ _ _ _ (sound_stallCount _ h0)))
  · extract_lets +onlyGivenNames -merge x0
    split
    · exact (sound_sweepOn _ _ h0)
    · extract_lets +onlyGivenNames -merge x4
      have hx4 : State.Sound x4 := (sound_slotParity _ _ (sound_stallCount _ h0))
      clear_value x4
      split
      · refine ite_holds (P := State.Sound) ?_ ?_
        · split
          · rename_i v7 heq8
            have hv7 : State.Sound v7 := holds_eq (P := (Snd State.Sound)) heq8 (by
                exact (sound_ageEntry _ _ _ hx4))
            exact (sound_sweepOn _ _ hv7)
          · rename_i v9 heq10
            have hv9 : State.Sound v9 := holds_eq (P := (Snd State.Sound)) heq10 (by
                exact (sound_ageEntry _ _ _ hx4))
            extract_lets +onlyGivenNames -merge x11
            have hx11 : State.Sound x11 := (sound_State_setFld _ _ _ _ _ (sound_State_setFld _ _ _ _ _ hv9))
            clear_value x11
            exact (ite_holds (P := State.Sound) (State.sound_mk hx11.regs hx11.shadow hx11.cnts hx11.tot hx11.hold
                hx11.pairs hx11.ctl hx11.host hx11.hlt hx11.nvm hx11.cls hx11.time (TblSt.sound_mk hx11.tbl.slots
                hx11.tbl.filters hx11.tbl.nhs hx11.tbl.groups hx11.tbl.members hx11.tbl.lags) hx11.leaf hx11.xbar
                hx11.buf hx11.tm hx11.sky) hx11)
        · exact (sound_sweepOn _ _ hx4)
      · exact (sound_sweepOn _ _ hx4)

theorem sound_clearCtrl : ∀ a0 a1, State.Sound a1 →
    State.Sound (clearCtrl a0 a1) := by
  intro a0 a1 h1
  unfold clearCtrl
  extract_lets +onlyGivenNames -merge x0
  have hx0 : State.Sound x0 := (ite_holds (P := State.Sound) (sound_State_setFld _ _ _ _ _ h1) h1)
  clear_value x0
  exact (ite_holds (P := State.Sound) (ite_holds (P := State.Sound) (sound_logWrite _ _ _ hx0) (ite_holds (P :=
      State.Sound) (sound_State_setFld _ _ _ _ _ hx0) (sound_State_setFld _ _ _ _ _ (State.sound_mk hx0.regs
      hx0.shadow hx0.cnts hx0.tot hx0.hold hx0.pairs hx0.ctl hx0.host hx0.hlt hx0.nvm hx0.cls hx0.time
      (TblSt.sound_mk hx0.tbl.slots hx0.tbl.filters hx0.tbl.nhs hx0.tbl.groups hx0.tbl.members hx0.tbl.lags) hx0.leaf
      hx0.xbar hx0.buf hx0.tm hx0.sky)))) hx0)

theorem sound_clearDone : ∀ a0, State.Sound a0 →
    State.Sound (clearDone a0) := by
  intro a0 h0
  unfold clearDone
  split
  · exact h0
  · extract_lets +onlyGivenNames -merge x4
    subst x4
    beta_reduce
    exact (sound_State_setFld _ _ _ _ _ (State.sound_mk h0.regs h0.shadow h0.cnts h0.tot h0.hold h0.pairs h0.ctl
        h0.host h0.hlt h0.nvm h0.cls h0.time (TblSt.sound_mk (SMap.sorted_keep h0.tbl.slots _) (SMap.sorted_keep
        h0.tbl.filters _) h0.tbl.nhs h0.tbl.groups h0.tbl.members h0.tbl.lags) h0.leaf h0.xbar h0.buf h0.tm h0.sky))

theorem sound_execAgeSweepVisit : ∀ a0, State.Sound a0 →
    ResHolds (execAgeSweepVisit a0) := by
  intro a0 h0
  unfold execAgeSweepVisit
  refine next_holds ?_
  exact (sound_ageSweepVisit _ h0)

theorem sound_learnHoldExpiry : ∀ a0, State.Sound a0 →
    State.Sound (learnHoldExpiry a0) := by
  intro a0 h0
  unfold learnHoldExpiry
  extract_lets +onlyGivenNames -merge x0
  exact (sound_State_count _ _ _ _ _ (State.sound_mk h0.regs h0.shadow h0.cnts h0.tot h0.hold h0.pairs h0.ctl h0.host
      h0.hlt h0.nvm h0.cls h0.time (TblSt.sound_mk h0.tbl.slots h0.tbl.filters h0.tbl.nhs h0.tbl.groups
      h0.tbl.members h0.tbl.lags) h0.leaf h0.xbar h0.buf h0.tm h0.sky))

theorem sound_execLearnHoldExpiry : ∀ a0, State.Sound a0 →
    ResHolds (execLearnHoldExpiry a0) := by
  intro a0 h0
  unfold execLearnHoldExpiry
  refine next_holds ?_
  exact (sound_learnHoldExpiry _ h0)

theorem sound_learnNotify : ∀ a0, State.Sound a0 →
    State.Sound (learnNotify a0) := by
  intro a0 h0
  unfold learnNotify
  refine ite_holds (P := State.Sound) ?_ ?_
  · exact h0
  · split
    · exact h0
    · split
      · rename_i v3 heq4
        have hv3 : State.Sound v3 := holds_eq (P := (Snd State.Sound)) heq4 (by
            exact (sound_noteWait _ _ h0))
        exact hv3
      · rename_i v5 heq6
        have hv5 : State.Sound v5 := holds_eq (P := (Snd State.Sound)) heq6 (by
            exact (sound_noteWait _ _ h0))
        extract_lets +onlyGivenNames -merge x7
        extract_lets +onlyGivenNames -merge x8
        exact (sound_State_count _ _ _ _ _ (State.sound_mk hv5.regs hv5.shadow hv5.cnts hv5.tot hv5.hold hv5.pairs
            hv5.ctl hv5.host hv5.hlt hv5.nvm hv5.cls hv5.time (TblSt.sound_mk hv5.tbl.slots hv5.tbl.filters
            hv5.tbl.nhs hv5.tbl.groups hv5.tbl.members hv5.tbl.lags) hv5.leaf hv5.xbar hv5.buf hv5.tm hv5.sky))

theorem sound_execLearnNotify : ∀ a0, State.Sound a0 →
    ResHolds (execLearnNotify a0) := by
  intro a0 h0
  unfold execLearnNotify
  refine next_holds ?_
  exact (sound_learnNotify _ h0)

theorem sound_execTblClearDone : ∀ a0, State.Sound a0 →
    ResHolds (execTblClearDone a0) := by
  intro a0 h0
  unfold execTblClearDone
  refine next_holds ?_
  exact (sound_clearDone _ h0)

theorem sound_execTblClearStart : ∀ a0 a1, State.Sound a1 →
    ResHolds (execTblClearStart a0 a1) := by
  intro a0 a1 h1
  unfold execTblClearStart
  extract_lets +onlyGivenNames -merge x0
  refine next_holds ?_
  refine sound_far _ _ _ ?_ h1
  · intro y1 hy1
    exact (sound_clearCtrl _ _ hy1)

end Sys2Proof.Machine
end

