-- ==== Sys2Proof/Laws/SoundSky.lean ====
section
/-!
SUPPORT. A sound state stays sound under the operations of these files of Machine: SkyPair, SkyMap, SkyTime, SkyState, SkyTx, SkyRx.
-/
namespace Sys2Proof.Machine

/-! ### Machine/SkyPair.lean -/

theorem sound_addCredit : ∀ a0 a1 a2, State.Sound a2 →
    State.Sound (addCredit a0 a1 a2) := by
  intro a0 a1 a2 h2
  unfold addCredit
  exact (sound_regAdd _ _ _ _ h2)

theorem sound_streamDrop : ∀ a0 a1 a2 a3, State.Sound a3 →
    State.Sound (streamDrop a0 a1 a2 a3) := by
  intro a0 a1 a2 a3 h3
  unfold streamDrop
  exact (sound_State_led _ _ _ _ (sound_State_led _ _ _ _ (sound_State_count _ _ _ _ _ h3)))

theorem sound_setSlane : ∀ a0 a1 a2, State.Sound a2 →
    State.Sound (setSlane a0 a1 a2) := by
  intro a0 a1 a2 h2
  unfold setSlane
  exact (State.sound_mk h2.regs h2.shadow h2.cnts h2.tot h2.hold h2.pairs h2.ctl h2.host h2.hlt h2.nvm h2.cls h2.time
      h2.tbl h2.leaf h2.xbar h2.buf h2.tm (SkySt.sound_mk (SMap.sorted_put h2.sky.lanes _ _ _) h2.sky.traces
      h2.sky.pairs h2.sky.reseq h2.sky.wrr h2.sky.wrr0 h2.sky.rounds h2.sky.offered h2.sky.used h2.sky.offeredLast
      h2.sky.usedLast h2.sky.spare h2.sky.cands h2.sky.inForce))

theorem sound_moveQueue : ∀ a0 a1 a2, State.Sound a2 →
    State.Sound (moveQueue a0 a1 a2) := by
  intro a0 a1 a2 h2
  unfold moveQueue
  extract_lets +onlyGivenNames -merge x0
  extract_lets +onlyGivenNames -merge x1
  extract_lets +onlyGivenNames -merge x2
  refine ite_holds (P := State.Sound) ?_ ?_
  · exact h2
  · extract_lets +onlyGivenNames -merge x3
    extract_lets +onlyGivenNames -merge x4
    extract_lets +onlyGivenNames -merge x5
    have hx5 : State.Sound x5 := (sound_setQueue _ _ _ h2)
    clear_value x5
    extract_lets +onlyGivenNames -merge x6
    have hx6 : State.Sound x6 := (sound_State_count _ _ _ _ _ hx5)
    clear_value x6
    exact (sound_feedPut _ _ _ hx6)

theorem sound_moveLanes : ∀ a0 a1, State.Sound a1 →
    State.Sound (moveLanes a0 a1) := by
  intro a0 a1 h1
  unfold moveLanes
  refine foldl_holds (P := State.Sound) (fun b1 a2 hb1 => ?_) ?_
  · split
    · exact (sound_moveQueue _ _ _ hb1)
    · exact hb1
  · exact h1

theorem sound_setPair : ∀ a0 a1 a2, State.Sound a2 →
    State.Sound (setPair a0 a1 a2) := by
  intro a0 a1 a2 h2
  unfold setPair
  exact (State.sound_mk h2.regs h2.shadow h2.cnts h2.tot h2.hold h2.pairs h2.ctl h2.host h2.hlt h2.nvm h2.cls h2.time
      h2.tbl h2.leaf h2.xbar h2.buf h2.tm (SkySt.sound_mk h2.sky.lanes h2.sky.traces (SMap.sorted_put h2.sky.pairs _
      _ _) h2.sky.reseq h2.sky.wrr h2.sky.wrr0 h2.sky.rounds h2.sky.offered h2.sky.used h2.sky.offeredLast
      h2.sky.usedLast h2.sky.spare h2.sky.cands h2.sky.inForce))

theorem sound_returnCell : ∀ a0 a1 a2, State.Sound a2 →
    State.Sound (returnCell a0 a1 a2) := by
  intro a0 a1 a2 h2
  unfold returnCell
  extract_lets +onlyGivenNames -merge x0
  extract_lets +onlyGivenNames -merge x1
  extract_lets +onlyGivenNames -merge x2
  have hx2 : State.Sound x2 := (sound_setQueue _ _ _ h2)
  clear_value x2
  exact (ite_holds (P := State.Sound) (sound_addCredit _ _ _ (sound_setPair _ _ _ hx2)) hx2)

theorem sound_returnChosen : ∀ a0 a1 a2, State.Sound a2 →
    State.Sound (returnChosen a0 a1 a2) := by
  intro a0 a1 a2 h2
  unfold returnChosen
  extract_lets +onlyGivenNames -merge x0
  extract_lets +onlyGivenNames -merge x1
  extract_lets +onlyGivenNames -merge x2
  extract_lets +onlyGivenNames -merge x3
  have hx3 : State.Sound x3 := (foldl_holds (P := State.Sound) (fun _ _ hm4 => (sound_noteDepth _ _ hm4)) h2)
  clear_value x3
  exact (foldl_holds (P := State.Sound) (fun _ _ hm5 => (sound_returnCell _ _ _ hm5)) (sound_setSlane _ _ _ hx3))

theorem sound_lanesStopped : ∀ a0, State.Sound a0 →
    State.Sound (lanesStopped a0) := by
  intro a0 h0
  unfold lanesStopped
  extract_lets +onlyGivenNames -merge x0
  have hx0 : State.Sound x0 := (foldl_holds (P := State.Sound) (fun _ _ hm1 => (sound_setSlane _ _ _
      (sound_returnChosen _ _ _ hm1))) h0)
  clear_value x0
  exact (foldl_holds (P := State.Sound) (fun _ _ hm2 => (sound_moveLanes _ _ hm2)) hx0)

theorem sound_popHead : ∀ a0 a1, State.Sound a1 →
    State.Sound (popHead a0 a1) := by
  intro a0 a1 h1
  unfold popHead
  extract_lets +onlyGivenNames -merge x0
  split
  · exact h1
  · extract_lets +onlyGivenNames -merge x5
    extract_lets +onlyGivenNames -merge x6
    exact (sound_setQueue _ _ _ h1)

theorem sound_cutUnit : ∀ a0 a1 a2 a3 a4, State.Sound a4 →
    Snd State.Sound (cutUnit a0 a1 a2 a3 a4) := by
  intro a0 a1 a2 a3 a4 h4
  unfold cutUnit
  extract_lets +onlyGivenNames -merge x0
  extract_lets +onlyGivenNames -merge x1
  refine ite_holds (P := (Snd State.Sound)) ?_ ?_
  · refine snd_holds (P := State.Sound) ?_
    exact h4
  · extract_lets +onlyGivenNames -merge x2
    have hx2 : State.Sound x2 := (foldl_holds (P := State.Sound) (fun _ _ hm3 => (sound_skyGone _ _
        (sound_State_count _ _ _ _ _ (ite_holds (P := State.Sound) hm3 (sound_freeTile _ _ _ hm3))))) h4)
    clear_value x2
    refine ite_holds (P := (Snd State.Sound)) ?_ ?_
    · refine snd_holds (P := State.Sound) ?_
      split
      · exact (sound_freeTile _ _ _ hx2)
      · exact hx2
    · refine snd_holds (P := State.Sound) ?_
      exact hx2

theorem sound_cutQueue : ∀ a0 a1 a2 a3, State.Sound a3 →
    State.Sound (cutQueue a0 a1 a2 a3) := by
  intro a0 a1 a2 a3 h3
  unfold cutQueue
  extract_lets +onlyGivenNames -merge x0
  refine ite_holds (P := State.Sound) ?_ ?_
  · exact h3
  · split
    · rename_i v1 v2 heq3
      have hv2 : State.Sound v2 := holds_eq (P := (Snd State.Sound)) heq3 (by
          refine foldl_holds (P := (Snd State.Sound)) (fun b4 a5 hb4 => ?_) ?_
          · split
            · rename_i v6 v7 heq8
              have hv7 : State.Sound v7 := holds_eq (P := (Snd State.Sound)) heq8 (by
                  exact (sound_cutUnit _ _ _ _ _ (of_snd hb4)))
              refine snd_holds (P := State.Sound) ?_
              exact hv7
            · rename_i v9 heq10
              have hv9 : State.Sound v9 := holds_eq (P := (Snd State.Sound)) heq10 (by
                  exact (sound_cutUnit _ _ _ _ _ (of_snd hb4)))
              refine snd_holds (P := State.Sound) ?_
              exact hv9
          · refine snd_holds (P := State.Sound) ?_
            exact h3)
      exact (sound_setQueue _ _ _ hv2)

theorem sound_cutQueues : ∀ a0 a1 a2 a3, State.Sound a3 →
    State.Sound (cutQueues a0 a1 a2 a3) := by
  intro a0 a1 a2 a3 h3
  unfold cutQueues
  exact (foldl_holds (P := State.Sound) (fun _ _ hm0 => (sound_cutQueue _ _ _ _ hm0)) h3)

theorem sound_grant : ∀ a0 a1 a2 a3, State.Sound a3 →
    State.Sound (grant a0 a1 a2 a3) := by
  intro a0 a1 a2 a3 h3
  unfold grant
  exact (ite_holds (P := State.Sound) h3 (sound_regAdd _ _ _ _ (sound_setPair _ _ _ h3)))

theorem sound_laneEnWrite : ∀ a0 a1 a2, State.Sound a2 →
    State.Sound (laneEnWrite a0 a1 a2) := by
  intro a0 a1 a2 h2
  unfold laneEnWrite
  exact (sound_lanesStopped _ (sound_State_setReg _ _ _ _ _ h2))

theorem sound_setReseq : ∀ a0 a1 a2 a3, State.Sound a3 →
    State.Sound (setReseq a0 a1 a2 a3) := by
  intro a0 a1 a2 a3 h3
  unfold setReseq
  exact (State.sound_mk h3.regs h3.shadow h3.cnts h3.tot h3.hold h3.pairs h3.ctl h3.host h3.hlt h3.nvm h3.cls h3.time
      h3.tbl h3.leaf h3.xbar h3.buf h3.tm (SkySt.sound_mk h3.sky.lanes h3.sky.traces h3.sky.pairs (SMap.sorted_put
      h3.sky.reseq _ _ _) h3.sky.wrr h3.sky.wrr0 h3.sky.rounds h3.sky.offered h3.sky.used h3.sky.offeredLast
      h3.sky.usedLast h3.sky.spare h3.sky.cands h3.sky.inForce))

theorem sound_resetStream : ∀ a0 a1 a2, State.Sound a2 →
    State.Sound (resetStream a0 a1 a2) := by
  intro a0 a1 a2 h2
  unfold resetStream
  extract_lets +onlyGivenNames -merge x0
  extract_lets +onlyGivenNames -merge x1
  extract_lets +onlyGivenNames -merge x2
  have hx2 : State.Sound x2 := (sound_State_count _ _ _ _ _ h2)
  clear_value x2
  extract_lets +onlyGivenNames -merge x3
  have hx3 : State.Sound x3 := (foldl_holds (P := State.Sound) (fun _ _ hm4 => (sound_dropCell _ _ _ hm4)) hx2)
  clear_value x3
  extract_lets +onlyGivenNames -merge x5
  have hx5 : State.Sound x5 := (foldl_holds (P := State.Sound) (fun _ _ hm6 => (sound_dropCell _ _ _ hm6)) hx3)
  clear_value x5
  extract_lets +onlyGivenNames -merge x7
  have hx7 : State.Sound x7 := (ite_holds (P := State.Sound) hx5 (sound_streamDrop _ _ _ _ hx5))
  clear_value x7
  exact (sound_setReseq _ _ _ _ hx7)

theorem sound_resetStreams : ∀ a0 a1, State.Sound a1 →
    State.Sound (resetStreams a0 a1) := by
  intro a0 a1 h1
  unfold resetStreams
  exact (foldl_holds (P := State.Sound) (fun _ _ hm0 => (sound_resetStream _ _ _ hm0)) h1)

theorem sound_returnAll : ∀ a0 a1, State.Sound a1 →
    State.Sound (returnAll a0 a1) := by
  intro a0 a1 h1
  unfold returnAll
  exact (foldl_holds (P := State.Sound) (fun _ _ hm0 => (sound_returnChosen _ _ _ hm0)) h1)

theorem sound_undue : ∀ a0 a1, State.Sound a1 →
    State.Sound (undue a0 a1) := by
  intro a0 a1 h1
  unfold undue
  extract_lets +onlyGivenNames -merge x0
  subst x0
  extract_lets +onlyGivenNames -merge x1
  subst x1
  beta_reduce
  exact (State.sound_mk h1.regs h1.shadow h1.cnts h1.tot h1.hold h1.pairs h1.ctl h1.host h1.hlt h1.nvm h1.cls h1.time
      h1.tbl h1.leaf (XbarSt.sound_mk (SMap.sorted_map h1.xbar.feed _ (fun _ => rfl)) (SMap.sorted_map h1.xbar.stage
      _ (fun _ => rfl)) h1.xbar.nextSeq h1.xbar.spent h1.xbar.rr h1.xbar.grant h1.xbar.accept h1.xbar.matched
      (SMap.sorted_map h1.xbar.cross _ (fun _ => rfl)) (SMap.sorted_map h1.xbar.reo _ (fun _ => rfl))) h1.buf h1.tm
      h1.sky)

theorem sound_resetPair : ∀ a0 a1, State.Sound a1 →
    State.Sound (resetPair a0 a1) := by
  intro a0 a1 h1
  unfold resetPair
  extract_lets +onlyGivenNames -merge x0
  have hx0 : State.Sound x0 := (sound_returnAll _ _ h1)
  clear_value x0
  extract_lets +onlyGivenNames -merge x1
  have hx1 : State.Sound x1 := (sound_returnAll _ _ hx0)
  clear_value x1
  extract_lets +onlyGivenNames -merge x2
  have hx2 : State.Sound x2 := (sound_State_count _ _ _ _ _ hx1)
  clear_value x2
  extract_lets +onlyGivenNames -merge x3
  have hx3 : State.Sound x3 := (sound_cutQueues _ _ _ _ hx2)
  clear_value x3
  extract_lets +onlyGivenNames -merge x4
  have hx4 : State.Sound x4 := (sound_cutQueues _ _ _ _ hx3)
  clear_value x4
  extract_lets +onlyGivenNames -merge x5
  have hx5 : State.Sound x5 := (sound_State_setReg _ _ _ _ _ (sound_undue _ _ hx4))
  clear_value x5
  extract_lets +onlyGivenNames -merge x6
  have hx6 : State.Sound x6 := (sound_State_setReg _ _ _ _ _ hx5)
  clear_value x6
  extract_lets +onlyGivenNames -merge x7
  exact (sound_resetStreams _ _ (sound_setPair _ _ _ hx6))

theorem sound_execLaneEnWrite : ∀ a0 a1 a2 a3, State.Sound a3 →
    ResHolds (execLaneEnWrite a0 a1 a2 a3) := by
  intro a0 a1 a2 a3 h3
  unfold execLaneEnWrite
  extract_lets +onlyGivenNames -merge x0
  refine next_holds ?_
  refine sound_guarded _ _ _ ?_ h3
  · intro y1 hy1
    refine sound_far _ _ _ ?_ hy1
    · intro y2 hy2
      exact (sound_laneEnWrite _ _ _ hy2)

theorem sound_putLaneBit : ∀ a0 a1 a2 a3, State.Sound a3 →
    State.Sound (putLaneBit a0 a1 a2 a3) := by
  intro a0 a1 a2 a3 h3
  unfold putLaneBit
  exact (sound_State_setReg _ _ _ _ _ h3)

theorem sound_laneTxFault : ∀ a0 a1, State.Sound a1 →
    State.Sound (laneTxFault a0 a1) := by
  intro a0 a1 h1
  unfold laneTxFault
  refine ite_holds (P := State.Sound) ?_ ?_
  · extract_lets +onlyGivenNames -merge x0
    have hx0 : State.Sound x0 := (sound_State_count _ _ _ _ _ (sound_putLaneBit _ _ _ _ h1))
    clear_value x0
    exact (sound_lanesStopped _ (sound_fault _ _ _ _ _ hx0))
  · exact h1

theorem sound_execLaneTxFault : ∀ a0 a1, State.Sound a1 →
    ResHolds (execLaneTxFault a0 a1) := by
  intro a0 a1 h1
  unfold execLaneTxFault
  refine next_holds ?_
  exact (sound_laneTxFault _ _ h1)

theorem sound_peerGone : ∀ a0 a1, State.Sound a1 →
    State.Sound (peerGone a0 a1) := by
  intro a0 a1 h1
  unfold peerGone
  extract_lets +onlyGivenNames -merge x0
  have hx0 : State.Sound x0 := (sound_State_setFld _ _ _ _ _ h1)
  clear_value x0
  extract_lets +onlyGivenNames -merge x1
  have hx1 : State.Sound x1 := (sound_returnAll _ _ hx0)
  clear_value x1
  extract_lets +onlyGivenNames -merge x2
  have hx2 : State.Sound x2 := (sound_cutQueues _ _ _ _ hx1)
  clear_value x2
  exact (sound_resetPair _ _ hx2)

theorem sound_peerTimeout : ∀ a0 a1, State.Sound a1 →
    State.Sound (peerTimeout a0 a1) := by
  intro a0 a1 h1
  unfold peerTimeout
  exact (ite_holds (P := State.Sound) (sound_peerGone _ _ h1) h1)

theorem sound_execPeerTimeout : ∀ a0 a1, State.Sound a1 →
    ResHolds (execPeerTimeout a0 a1) := by
  intro a0 a1 h1
  unfold execPeerTimeout
  refine next_holds ?_
  exact (sound_peerTimeout _ _ h1)

/-! ### Machine/SkyMap.lean -/

theorem sound_bankWrite : ∀ a0 a1 a2 a3, State.Sound a3 →
    State.Sound (bankWrite a0 a1 a2 a3) := by
  intro a0 a1 a2 a3 h3
  unfold bankWrite
  exact (ite_holds (P := State.Sound) h3 (ite_holds (P := State.Sound) (sound_State_setReg _ _ _ _ _ h3)
      (sound_logWrite _ _ _ h3)))

theorem sound_mapApply : ∀ a0, State.Sound a0 →
    State.Sound (mapApply a0) := by
  intro a0 h0
  unfold mapApply
  refine ite_holds (P := State.Sound) ?_ ?_
  · extract_lets +onlyGivenNames -merge x0
    have hx0 : State.Sound x0 := (sound_State_setFld _ _ _ _ _ (sound_State_setFld _ _ _ _ _ h0))
    clear_value x0
    extract_lets +onlyGivenNames -merge x1
    have hx1 : State.Sound x1 := (sound_State_setFld _ _ _ _ _ hx0)
    clear_value x1
    exact (sound_State_count _ _ _ _ _ (State.sound_mk hx1.regs hx1.shadow hx1.cnts hx1.tot hx1.hold hx1.pairs
        hx1.ctl hx1.host hx1.hlt hx1.nvm hx1.cls hx1.time hx1.tbl hx1.leaf hx1.xbar hx1.buf hx1.tm (SkySt.sound_mk
        hx1.sky.lanes hx1.sky.traces hx1.sky.pairs hx1.sky.reseq hx1.sky.wrr hx1.sky.wrr0 hx1.sky.rounds
        hx1.sky.offered hx1.sky.used hx1.sky.offeredLast hx1.sky.usedLast hx1.sky.spare hx1.sky.cands
        hx1.sky.inForce)))
  · exact h0

theorem sound_unarm : ∀ a0, State.Sound a0 →
    State.Sound (unarm a0) := by
  intro a0 h0
  unfold unarm
  exact (sound_State_setFld _ _ _ _ _ h0)

theorem sound_mapArm : ∀ a0 a1, State.Sound a1 →
    State.Sound (mapArm a0 a1) := by
  intro a0 a1 h1
  unfold mapArm
  exact (ite_holds (P := State.Sound) (sound_logWrite _ _ _ h1) (sound_State_setFld _ _ _ _ _ (State.sound_mk h1.regs
      h1.shadow h1.cnts h1.tot h1.hold h1.pairs h1.ctl h1.host h1.hlt h1.nvm h1.cls h1.time h1.tbl h1.leaf h1.xbar
      h1.buf h1.tm (SkySt.sound_mk h1.sky.lanes h1.sky.traces h1.sky.pairs h1.sky.reseq h1.sky.wrr h1.sky.wrr0
      h1.sky.rounds h1.sky.offered h1.sky.used h1.sky.offeredLast h1.sky.usedLast h1.sky.spare h1.sky.cands
      h1.sky.inForce))))

theorem sound_mapDisarm : ∀ a0, State.Sound a0 →
    State.Sound (mapDisarm a0) := by
  intro a0 h0
  unfold mapDisarm
  extract_lets +onlyGivenNames -merge x0
  have hx0 : State.Sound x0 := (sound_mapApply _ h0)
  clear_value x0
  exact (ite_holds (P := State.Sound) (sound_unarm _ hx0) (ite_holds (P := State.Sound) (sound_State_setFld _ _ _ _ _
      (State.sound_mk hx0.regs hx0.shadow hx0.cnts hx0.tot hx0.hold hx0.pairs hx0.ctl hx0.host hx0.hlt hx0.nvm
      hx0.cls hx0.time hx0.tbl hx0.leaf hx0.xbar hx0.buf hx0.tm (SkySt.sound_mk hx0.sky.lanes hx0.sky.traces
      hx0.sky.pairs hx0.sky.reseq hx0.sky.wrr hx0.sky.wrr0 hx0.sky.rounds hx0.sky.offered hx0.sky.used
      hx0.sky.offeredLast hx0.sky.usedLast hx0.sky.spare hx0.sky.cands hx0.sky.inForce))) hx0))

theorem sound_mapCtrl : ∀ a0 a1, State.Sound a1 →
    State.Sound (mapCtrl a0 a1) := by
  intro a0 a1 h1
  unfold mapCtrl
  extract_lets +onlyGivenNames -merge x0
  have hx0 : State.Sound x0 := (ite_holds (P := State.Sound) (sound_mapDisarm _ h1) h1)
  clear_value x0
  exact (ite_holds (P := State.Sound) (sound_mapArm _ _ hx0) hx0)

theorem sound_execMapApply : ∀ a0, State.Sound a0 →
    ResHolds (execMapApply a0) := by
  intro a0 h0
  unfold execMapApply
  refine next_holds ?_
  exact (sound_mapApply _ h0)

theorem sound_execMapArm : ∀ a0 a1, State.Sound a1 →
    ResHolds (execMapArm a0 a1) := by
  intro a0 a1 h1
  unfold execMapArm
  extract_lets +onlyGivenNames -merge x0
  refine next_holds ?_
  refine sound_far _ _ _ ?_ h1
  · intro y1 hy1
    exact (sound_mapArm _ _ hy1)

theorem sound_mapArmDone : ∀ a0, State.Sound a0 →
    State.Sound (mapArmDone a0) := by
  intro a0 h0
  unfold mapArmDone
  split
  · exact h0
  · split
    · extract_lets +onlyGivenNames -merge x9
      have hx9 : SkySt.Sound x9 := h0.sky
      clear_value x9
      extract_lets +onlyGivenNames -merge x10
      have hx10 : State.Sound x10 := (sound_State_setFld _ _ _ _ _ (State.sound_mk h0.regs h0.shadow h0.cnts h0.tot
          h0.hold h0.pairs h0.ctl h0.host h0.hlt h0.nvm h0.cls h0.time h0.tbl h0.leaf h0.xbar h0.buf h0.tm
          (SkySt.sound_mk hx9.lanes hx9.traces hx9.pairs hx9.reseq hx9.wrr hx9.wrr0 hx9.rounds hx9.offered hx9.used
          hx9.offeredLast hx9.usedLast hx9.spare hx9.cands hx9.inForce)))
      clear_value x10
      extract_lets +onlyGivenNames -merge x11
      have hx11 : State.Sound x11 := (sound_State_setFld _ _ _ _ _ hx10)
      clear_value x11
      refine ite_holds (P := State.Sound) ?_ ?_
      · extract_lets +onlyGivenNames -merge x12
        have hx12 : State.Sound x12 := (sound_State_setFld _ _ _ _ _ (sound_State_setFld _ _ _ _ _ hx11))
        clear_value x12
        extract_lets +onlyGivenNames -merge x13
        have hx13 : State.Sound x13 := (sound_State_setFld _ _ _ _ _ hx12)
        clear_value x13
        exact (State.sound_mk hx13.regs hx13.shadow hx13.cnts hx13.tot hx13.hold hx13.pairs hx13.ctl hx13.host
            hx13.hlt hx13.nvm hx13.cls hx13.time hx13.tbl hx13.leaf hx13.xbar hx13.buf hx13.tm (SkySt.sound_mk
            hx12.sky.lanes hx12.sky.traces hx12.sky.pairs hx12.sky.reseq hx12.sky.wrr hx12.sky.wrr0 hx12.sky.rounds
            hx12.sky.offered hx12.sky.used hx12.sky.offeredLast hx12.sky.usedLast hx12.sky.spare hx12.sky.cands
            hx12.sky.inForce))
      · extract_lets +onlyGivenNames -merge x14
        have hx14 : State.Sound x14 := by
          subst x14
          split
          · exact (sound_State_setReg _ _ _ _ _ hx11)
          · exact hx11
        clear_value x14
        exact (sound_State_count _ _ _ _ _ hx14)

theorem sound_execMapArmCheckDone : ∀ a0, State.Sound a0 →
    ResHolds (execMapArmCheckDone a0) := by
  intro a0 h0
  unfold execMapArmCheckDone
  refine next_holds ?_
  exact (sound_mapArmDone _ h0)

theorem sound_execMapDisarm : ∀ a0 a1, State.Sound a1 →
    ResHolds (execMapDisarm a0 a1) := by
  intro a0 a1 h1
  unfold execMapDisarm
  refine next_holds ?_
  refine sound_far _ _ _ ?_ h1
  · intro y0 hy0
    exact (sound_mapDisarm _ hy0)

/-! ### Machine/SkyTime.lean -/

theorem sound_showDelay : ∀ a0 a1, State.Sound a1 →
    State.Sound (showDelay a0 a1) := by
  intro a0 a1 h1
  unfold showDelay
  extract_lets +onlyGivenNames -merge x0
  exact (ite_holds (P := State.Sound) (sound_State_setFld _ _ _ _ _ h1) (sound_State_setReg _ _ _ _ _ h1))

theorem sound_countGood : ∀ a0, State.Sound a0 →
    State.Sound (countGood a0) := by
  intro a0 h0
  unfold countGood
  exact (ite_holds (P := State.Sound) (State.sound_mk h0.regs h0.shadow h0.cnts h0.tot h0.hold h0.pairs h0.ctl
      h0.host h0.hlt h0.nvm h0.cls (TimeSt.sound_mk h0.time.rx h0.time.offs h0.time.sums) h0.tbl h0.leaf h0.xbar
      h0.buf h0.tm h0.sky) h0)

theorem sound_deskewAlarm : ∀ a0 a1 a2, State.Sound a2 →
    State.Sound (deskewAlarm a0 a1 a2) := by
  intro a0 a1 a2 h2
  unfold deskewAlarm
  extract_lets +onlyGivenNames -merge x0
  extract_lets +onlyGivenNames -merge x1
  refine ite_holds (P := State.Sound) ?_ ?_
  · exact h2
  · extract_lets +onlyGivenNames -merge x2
    have hx2 : State.Sound x2 := (sound_State_setFld _ _ _ _ _ h2)
    clear_value x2
    exact (ite_holds (P := State.Sound) (sound_fault _ _ _ _ _ hx2) hx2)

theorem sound_deskewAlarms : ∀ a0, State.Sound a0 →
    State.Sound (deskewAlarms a0) := by
  intro a0 h0
  unfold deskewAlarms
  extract_lets +onlyGivenNames -merge x0
  exact (foldl_holds (P := State.Sound) (fun _ _ hm1 => (sound_deskewAlarm _ _ _ hm1)) h0)

theorem sound_showLease : ∀ a0, State.Sound a0 →
    State.Sound (showLease a0) := by
  intro a0 h0
  unfold showLease
  exact (sound_State_setReg64 _ _ _ _ _ (sound_State_setFld _ _ _ _ _ h0))

theorem sound_takeLease : ∀ a0 a1, State.Sound a1 →
    State.Sound (takeLease a0 a1) := by
  intro a0 a1 h1
  unfold takeLease
  extract_lets +onlyGivenNames -merge x0
  have hx0 : TimeSt.Sound x0 := h1.time
  clear_value x0
  extract_lets +onlyGivenNames -merge x1
  have hx1 : State.Sound x1 := (State.sound_mk h1.regs h1.shadow h1.cnts h1.tot h1.hold h1.pairs h1.ctl h1.host
      h1.hlt h1.nvm h1.cls (TimeSt.sound_mk hx0.rx hx0.offs hx0.sums) h1.tbl h1.leaf h1.xbar h1.buf h1.tm h1.sky)
  clear_value x1
  exact (sound_showLease _ (sound_State_led _ _ _ _ (sound_State_count _ _ _ _ _ hx1)))

theorem sound_stopLease : ∀ a0 a1, State.Sound a1 →
    State.Sound (stopLease a0 a1) := by
  intro a0 a1 h1
  unfold stopLease
  refine ite_holds (P := State.Sound) ?_ ?_
  · extract_lets +onlyGivenNames -merge x0
    have hx0 : TimeSt.Sound x0 := h1.time
    clear_value x0
    extract_lets +onlyGivenNames -merge x1
    have hx1 : State.Sound x1 := (State.sound_mk h1.regs h1.shadow h1.cnts h1.tot h1.hold h1.pairs h1.ctl h1.host
        h1.hlt h1.nvm h1.cls (TimeSt.sound_mk hx0.rx hx0.offs hx0.sums) h1.tbl h1.leaf h1.xbar h1.buf h1.tm h1.sky)
    clear_value x1
    exact (sound_showLease _ (sound_State_led _ _ _ _ (sound_State_count _ _ _ _ _ hx1)))
  · exact h1

theorem sound_releaseLease : ∀ a0, State.Sound a0 →
    State.Sound (releaseLease a0) := by
  intro a0 h0
  unfold releaseLease
  exact (sound_stopLease _ _ h0)

theorem sound_runDiag : ∀ a0, State.Sound a0 →
    State.Sound (runDiag a0) := by
  intro a0 h0
  unfold runDiag
  refine ite_holds (P := State.Sound) ?_ ?_
  · extract_lets +onlyGivenNames -merge x0
    extract_lets +onlyGivenNames -merge x1
    extract_lets +onlyGivenNames -merge x2
    have hx2 : TimeSt.Sound x2 := h0.time
    clear_value x2
    extract_lets +onlyGivenNames -merge x3
    have hx3 : State.Sound x3 := (sound_State_setReg _ _ _ _ _ (State.sound_mk h0.regs h0.shadow h0.cnts h0.tot
        h0.hold h0.pairs h0.ctl h0.host h0.hlt h0.nvm h0.cls (TimeSt.sound_mk hx2.rx hx2.offs hx2.sums) h0.tbl
        h0.leaf h0.xbar h0.buf h0.tm h0.sky))
    clear_value x3
    exact (ite_holds (P := State.Sound) (sound_releaseLease _ (sound_State_countIf _ _ _ _ _ hx3)) hx3)
  · exact h0

theorem sound_servo : ∀ a0, State.Sound a0 →
    State.Sound (servo a0) := by
  intro a0 h0
  unfold servo
  refine ite_holds (P := State.Sound) ?_ ?_
  · exact h0
  · extract_lets +onlyGivenNames -merge x0
    have hx0 : TimeSt.Sound x0 := h0.time
    clear_value x0
    split
    · extract_lets +onlyGivenNames -merge x5
      have hx5 : State.Sound x5 := (State.sound_mk h0.regs h0.shadow h0.cnts h0.tot h0.hold h0.pairs h0.ctl h0.host
          h0.hlt h0.nvm h0.cls (TimeSt.sound_mk hx0.rx hx0.offs hx0.sums) h0.tbl h0.leaf h0.xbar h0.buf h0.tm h0.sky)
      clear_value x5
      exact (sound_State_setReg _ _ _ _ _ (sound_State_setReg _ _ _ _ _ hx5))

theorem sound_stepCounter : ∀ a0 a1 a2, State.Sound a2 →
    State.Sound (stepCounter a0 a1 a2) := by
  intro a0 a1 a2 h2
  unfold stepCounter
  extract_lets +onlyGivenNames -merge x0
  extract_lets +onlyGivenNames -merge x1
  extract_lets +onlyGivenNames -merge x2
  have hx2 : TimeSt.Sound x2 := h2.time
  clear_value x2
  extract_lets +onlyGivenNames -merge x3
  have hx3 : State.Sound x3 := (State.sound_mk h2.regs h2.shadow h2.cnts h2.tot h2.hold h2.pairs h2.ctl h2.host
      h2.hlt h2.nvm h2.cls (TimeSt.sound_mk hx2.rx SMap.sorted_nil SMap.sorted_nil) h2.tbl h2.leaf h2.xbar h2.buf
      h2.tm h2.sky)
  clear_value x3
  extract_lets +onlyGivenNames -merge x4
  extract_lets +onlyGivenNames -merge x5
  subst x5
  beta_reduce
  extract_lets +onlyGivenNames -merge x6
  subst x6
  beta_reduce
  extract_lets +onlyGivenNames -merge x7
  have hx7 : TimeSt.Sound x7 := hx3.time
  clear_value x7
  extract_lets +onlyGivenNames -merge x8
  have hx8 : SkySt.Sound x8 := hx3.sky
  clear_value x8
  extract_lets +onlyGivenNames -merge x9
  have hx9 : State.Sound x9 := (State.sound_mk hx3.regs hx3.shadow hx3.cnts hx3.tot hx3.hold hx3.pairs hx3.ctl
      hx3.host hx3.hlt hx3.nvm hx3.cls (TimeSt.sound_mk (SMap.sorted_map hx3.time.rx _ (fun _ => rfl)) hx7.offs
      hx7.sums) hx3.tbl hx3.leaf hx3.xbar hx3.buf hx3.tm (SkySt.sound_mk (SMap.sorted_map hx3.sky.lanes _ (fun _ =>
      rfl)) hx8.traces (SMap.sorted_map hx3.sky.pairs _ (fun _ => rfl)) hx8.reseq hx8.wrr hx8.wrr0 hx8.rounds
      hx8.offered hx8.used hx8.offeredLast hx8.usedLast hx8.spare hx8.cands hx8.inForce))
  clear_value x9
  extract_lets +onlyGivenNames -merge x10
  have hx10 : State.Sound x10 := (sound_State_setReg _ _ _ _ _ (sound_State_setReg _ _ _ _ _ hx9))
  clear_value x10
  extract_lets +onlyGivenNames -merge x11
  have hx11 : State.Sound x11 := (sound_State_setFld _ _ _ _ _ (sound_State_setFld _ _ _ _ _ hx10))
  clear_value x11
  extract_lets +onlyGivenNames -merge x12
  have hx12 : State.Sound x12 := (sound_State_count _ _ _ _ _ hx11)
  clear_value x12
  extract_lets +onlyGivenNames -merge x13
  have hx13 : State.Sound x13 := (sound_offer _ _ hx12)
  clear_value x13
  exact (ite_holds (P := State.Sound) (sound_unarm _ hx13) hx13)

theorem sound_foundStep : ∀ a0 a1, State.Sound a1 →
    State.Sound (foundStep a0 a1) := by
  intro a0 a1 h1
  unfold foundStep
  refine ite_holds (P := State.Sound) ?_ ?_
  · exact h1
  · refine ite_holds (P := State.Sound) ?_ ?_
    · extract_lets +onlyGivenNames -merge x0
      have hx0 : State.Sound x0 := (sound_State_setFld _ _ _ _ _ h1)
      clear_value x0
      extract_lets +onlyGivenNames -merge x1
      have hx1 : State.Sound x1 := (sound_stepCounter _ _ _ hx0)
      clear_value x1
      exact (State.sound_mk hx1.regs hx1.shadow hx1.cnts hx1.tot hx1.hold hx1.pairs hx1.ctl hx1.host hx1.hlt hx1.nvm
          hx1.cls (TimeSt.sound_mk hx1.time.rx hx1.time.offs hx1.time.sums) hx1.tbl hx1.leaf hx1.xbar hx1.buf hx1.tm
          (SkySt.sound_mk hx1.sky.lanes hx1.sky.traces hx1.sky.pairs hx1.sky.reseq hx1.sky.wrr hx1.sky.wrr0
          hx1.sky.rounds hx1.sky.offered hx1.sky.used hx1.sky.offeredLast hx1.sky.usedLast hx1.sky.spare
          hx1.sky.cands hx1.sky.inForce))
    · exact (sound_logWrite _ _ _ (sound_State_count _ _ _ _ _ (sound_State_setFld _ _ _ _ _ h1)))

theorem sound_taiWrite : ∀ a0 a1, State.Sound a1 →
    State.Sound (taiWrite a0 a1) := by
  intro a0 a1 h1
  unfold taiWrite
  extract_lets +onlyGivenNames -merge x0
  have hx0 : State.Sound x0 := (sound_State_setReg _ _ _ _ _ h1)
  clear_value x0
  exact (State.sound_mk hx0.regs hx0.shadow hx0.cnts hx0.tot hx0.hold hx0.pairs hx0.ctl hx0.host hx0.hlt hx0.nvm
      hx0.cls (TimeSt.sound_mk hx0.time.rx hx0.time.offs hx0.time.sums) hx0.tbl hx0.leaf hx0.xbar hx0.buf hx0.tm
      hx0.sky)

theorem sound_foundReady : ∀ a0, State.Sound a0 →
    State.Sound (foundReady a0) := by
  intro a0 h0
  unfold foundReady
  extract_lets +onlyGivenNames -merge x0
  exact (ite_holds (P := State.Sound) (sound_State_setFld _ _ _ _ _ h0) h0)

theorem sound_execFoundReadySet : ∀ a0, State.Sound a0 →
    ResHolds (execFoundReadySet a0) := by
  intro a0 h0
  unfold execFoundReadySet
  refine next_holds ?_
  exact (sound_foundReady _ h0)

theorem sound_execFoundStep : ∀ a0 a1, State.Sound a1 →
    ResHolds (execFoundStep a0 a1) := by
  intro a0 a1 h1
  unfold execFoundStep
  extract_lets +onlyGivenNames -merge x0
  refine next_holds ?_
  refine sound_guarded _ _ _ ?_ h1
  · intro y1 hy1
    refine sound_far _ _ _ ?_ hy1
    · intro y2 hy2
      exact (sound_foundStep _ _ hy2)

theorem sound_joinStep : ∀ a0, State.Sound a0 →
    State.Sound (joinStep a0) := by
  intro a0 h0
  unfold joinStep
  extract_lets +onlyGivenNames -merge x0
  exact (ite_holds (P := State.Sound) (sound_stepCounter _ _ _ h0) h0)

theorem sound_execJoinStep : ∀ a0, State.Sound a0 →
    ResHolds (execJoinStep a0) := by
  intro a0 h0
  unfold execJoinStep
  refine next_holds ?_
  exact (sound_joinStep _ h0)

theorem sound_leaseLapse : ∀ a0, State.Sound a0 →
    State.Sound (leaseLapse a0) := by
  intro a0 h0
  unfold leaseLapse
  exact (ite_holds (P := State.Sound) (sound_stopLease _ _ h0) h0)

theorem sound_execLeaseLapse : ∀ a0, State.Sound a0 →
    ResHolds (execLeaseLapse a0) := by
  intro a0 h0
  unfold execLeaseLapse
  refine next_holds ?_
  exact (sound_leaseLapse _ h0)

theorem sound_leaseRenew : ∀ a0, State.Sound a0 →
    State.Sound (leaseRenew a0) := by
  intro a0 h0
  unfold leaseRenew
  split
  · exact h0
  · extract_lets +onlyGivenNames -merge x3
    exact (ite_holds (P := State.Sound) (sound_showLease _ (State.sound_mk h0.regs h0.shadow h0.cnts h0.tot h0.hold
        h0.pairs h0.ctl h0.host h0.hlt h0.nvm h0.cls (TimeSt.sound_mk h0.time.rx h0.time.offs h0.time.sums) h0.tbl
        h0.leaf h0.xbar h0.buf h0.tm h0.sky)) h0)

theorem sound_execLeaseRenew : ∀ a0, State.Sound a0 →
    ResHolds (execLeaseRenew a0) := by
  intro a0 h0
  unfold execLeaseRenew
  refine next_holds ?_
  exact (sound_leaseRenew _ h0)

theorem sound_leaseTakeover : ∀ a0, State.Sound a0 →
    State.Sound (leaseTakeover a0) := by
  intro a0 h0
  unfold leaseTakeover
  exact (ite_holds (P := State.Sound) (sound_takeLease _ _ h0) h0)

theorem sound_execLeaseTakeover : ∀ a0, State.Sound a0 →
    ResHolds (execLeaseTakeover a0) := by
  intro a0 h0
  unfold execLeaseTakeover
  refine next_holds ?_
  exact (sound_leaseTakeover _ h0)

theorem sound_lullEntry : ∀ a0, State.Sound a0 →
    State.Sound (lullEntry a0) := by
  intro a0 h0
  unfold lullEntry
  exact (ite_holds (P := State.Sound) (sound_State_count _ _ _ _ _ (sound_State_setFld _ _ _ _ _ h0)) h0)

theorem sound_execLullEntry : ∀ a0, State.Sound a0 →
    ResHolds (execLullEntry a0) := by
  intro a0 h0
  unfold execLullEntry
  refine next_holds ?_
  exact (sound_lullEntry _ h0)

theorem sound_lullLimit : ∀ a0 a1 a2, State.Sound a2 →
    State.Sound (lullLimit a0 a1 a2) := by
  intro a0 a1 a2 h2
  unfold lullLimit
  extract_lets +onlyGivenNames -merge x0
  have hx0 : State.Sound x0 := (sound_State_count _ _ _ _ _ (sound_State_setFld _ _ _ _ _ (sound_State_setFld _ _ _ _
      _ h2)))
  clear_value x0
  exact (sound_fault _ _ _ _ _ (State.sound_mk hx0.regs hx0.shadow hx0.cnts hx0.tot hx0.hold hx0.pairs hx0.ctl
      hx0.host hx0.hlt hx0.nvm hx0.cls (TimeSt.sound_mk hx0.time.rx hx0.time.offs hx0.time.sums) hx0.tbl hx0.leaf
      hx0.xbar hx0.buf hx0.tm hx0.sky))

theorem sound_lullTime : ∀ a0, State.Sound a0 →
    State.Sound (lullTime a0) := by
  intro a0 h0
  unfold lullTime
  split
  · exact (ite_holds (P := State.Sound) (sound_lullLimit _ _ _ h0) h0)
  · exact h0

theorem sound_execLullLimit : ∀ a0, State.Sound a0 →
    ResHolds (execLullLimit a0) := by
  intro a0 h0
  unfold execLullLimit
  refine next_holds ?_
  exact (sound_lullTime _ h0)

theorem sound_heard : ∀ a0 a1, State.Sound a1 →
    State.Sound (heard a0 a1) := by
  intro a0 a1 h1
  unfold heard
  extract_lets +onlyGivenNames -merge x0
  have hx0 : TimeSt.Sound x0 := h1.time
  clear_value x0
  extract_lets +onlyGivenNames -merge x1
  extract_lets +onlyGivenNames -merge x2
  have hx2 : State.Sound x2 := (State.sound_mk h1.regs h1.shadow h1.cnts h1.tot h1.hold h1.pairs h1.ctl h1.host
      h1.hlt h1.nvm h1.cls (TimeSt.sound_mk hx0.rx hx0.offs hx0.sums) h1.tbl h1.leaf h1.xbar h1.buf h1.tm h1.sky)
  clear_value x2
  extract_lets +onlyGivenNames -merge x3
  have hx3 : State.Sound x3 := (sound_State_setFld _ _ _ _ _ hx2)
  clear_value x3
  exact (ite_holds (P := State.Sound) (sound_State_setFld _ _ _ _ _ (State.sound_mk hx3.regs hx3.shadow hx3.cnts
      hx3.tot hx3.hold hx3.pairs hx3.ctl hx3.host hx3.hlt hx3.nvm hx3.cls (TimeSt.sound_mk hx3.time.rx hx3.time.offs
      hx3.time.sums) hx3.tbl hx3.leaf hx3.xbar hx3.buf hx3.tm hx3.sky)) hx3)

theorem sound_recognise : ∀ a0 a1 a2, State.Sound a2 →
    State.Sound (recognise a0 a1 a2) := by
  intro a0 a1 a2 h2
  unfold recognise
  extract_lets +onlyGivenNames -merge x0
  extract_lets +onlyGivenNames -merge x1
  have hx1 : TimeSt.Sound x1 := h2.time
  clear_value x1
  extract_lets +onlyGivenNames -merge x2
  have hx2 : State.Sound x2 := (ite_holds (P := State.Sound) h2 (State.sound_mk h2.regs h2.shadow h2.cnts h2.tot
      h2.hold h2.pairs h2.ctl h2.host h2.hlt h2.nvm h2.cls (TimeSt.sound_mk hx1.rx hx1.offs hx1.sums) h2.tbl h2.leaf
      h2.xbar h2.buf h2.tm h2.sky))
  clear_value x2
  extract_lets +onlyGivenNames -merge x3
  have hx3 : TimeSt.Sound x3 := hx2.time
  clear_value x3
  extract_lets +onlyGivenNames -merge x4
  have hx4 : State.Sound x4 := (State.sound_mk hx2.regs hx2.shadow hx2.cnts hx2.tot hx2.hold hx2.pairs hx2.ctl
      hx2.host hx2.hlt hx2.nvm hx2.cls (TimeSt.sound_mk hx3.rx hx3.offs hx3.sums) hx2.tbl hx2.leaf hx2.xbar hx2.buf
      hx2.tm hx2.sky)
  clear_value x4
  extract_lets +onlyGivenNames -merge x5
  have hx5 : State.Sound x5 := (sound_State_setFld _ _ _ _ _ hx4)
  clear_value x5
  exact (sound_State_setFld _ _ _ _ _ (sound_State_setFld _ _ _ _ _ hx5))

theorem sound_holderFrame : ∀ a0 a1 a2, State.Sound a2 →
    State.Sound (holderFrame a0 a1 a2) := by
  intro a0 a1 a2 h2
  unfold holderFrame
  refine ite_holds (P := State.Sound) ?_ ?_
  · extract_lets +onlyGivenNames -merge x0
    have hx0 : State.Sound x0 := (sound_ledgerFault _ _ _ _ _ h2)
    clear_value x0
    refine ite_holds (P := State.Sound) ?_ ?_
    · extract_lets +onlyGivenNames -merge x1
      have hx1 : State.Sound x1 := (sound_fault _ _ _ _ _ (sound_releaseLease _ hx0))
      clear_value x1
      exact (sound_recognise _ _ _ (State.sound_mk hx1.regs hx1.shadow hx1.cnts hx1.tot hx1.hold hx1.pairs hx1.ctl
          hx1.host hx1.hlt hx1.nvm hx1.cls (TimeSt.sound_mk hx1.time.rx hx1.time.offs hx1.time.sums) hx1.tbl hx1.leaf
          hx1.xbar hx1.buf hx1.tm hx1.sky))
    · exact hx0
  · split
    · exact (sound_recognise _ _ _ h2)
    · refine ite_holds (P := State.Sound) ?_ ?_
      · exact (sound_recognise _ _ _ h2)
      · refine ite_holds (P := State.Sound) ?_ ?_
        · extract_lets +onlyGivenNames -merge x8
          have hx8 : State.Sound x8 := (sound_State_count _ _ _ _ _ h2)
          clear_value x8
          exact (ite_holds (P := State.Sound) (sound_recognise _ _ _ hx8) hx8)
        · exact (sound_recognise _ _ _ h2)

theorem sound_measure : ∀ a0 a1 a2 a3 a4, State.Sound a4 →
    State.Sound (measure a0 a1 a2 a3 a4) := by
  intro a0 a1 a2 a3 a4 h4
  unfold measure
  extract_lets +onlyGivenNames -merge x0
  extract_lets +onlyGivenNames -merge x1
  refine ite_holds (P := State.Sound) ?_ ?_
  · exact h4
  · extract_lets +onlyGivenNames -merge x2
    extract_lets +onlyGivenNames -merge x3
    refine ite_holds (P := State.Sound) ?_ ?_
    · extract_lets +onlyGivenNames -merge x4
      extract_lets +onlyGivenNames -merge x5
      extract_lets +onlyGivenNames -merge x6
      have hx6 : TimeSt.Sound x6 := h4.time
      clear_value x6
      extract_lets +onlyGivenNames -merge x7
      have hx7 : State.Sound x7 := (State.sound_mk h4.regs h4.shadow h4.cnts h4.tot h4.hold h4.pairs h4.ctl h4.host
          h4.hlt h4.nvm h4.cls (TimeSt.sound_mk hx6.rx (SMap.sorted_insert h4.time.offs _ _) (SMap.sorted_insert
          h4.time.sums _ _)) h4.tbl h4.leaf h4.xbar h4.buf h4.tm h4.sky)
      clear_value x7
      exact (ite_holds (P := State.Sound) (ite_holds (P := State.Sound) (sound_lullLimit _ _ _ hx7) (State.sound_mk
          hx7.regs hx7.shadow hx7.cnts hx7.tot hx7.hold hx7.pairs hx7.ctl hx7.host hx7.hlt hx7.nvm hx7.cls
          (TimeSt.sound_mk hx7.time.rx hx7.time.offs hx7.time.sums) hx7.tbl hx7.leaf hx7.xbar hx7.buf hx7.tm
          hx7.sky)) hx7)
    · split
      · exact (ite_holds (P := State.Sound) (State.sound_mk h4.regs h4.shadow h4.cnts h4.tot h4.hold h4.pairs h4.ctl
          h4.host h4.hlt h4.nvm h4.cls (TimeSt.sound_mk h4.time.rx h4.time.offs (SMap.sorted_insert h4.time.sums _
          _)) h4.tbl h4.leaf h4.xbar h4.buf h4.tm h4.sky) h4)
      · exact h4

theorem sound_takeAnnouncement : ∀ a0 a1 a2, State.Sound a2 →
    State.Sound (takeAnnouncement a0 a1 a2) := by
  intro a0 a1 a2 h2
  unfold takeAnnouncement
  extract_lets +onlyGivenNames -merge x0
  extract_lets +onlyGivenNames -merge x1
  have hx1 : State.Sound x1 := (sound_State_setReg _ _ _ _ _ h2)
  clear_value x1
  exact (sound_State_setReg64 _ _ _ _ _ hx1)

theorem sound_takeL : ∀ a0 a1, State.Sound a1 →
    State.Sound (takeL a0 a1) := by
  intro a0 a1 h1
  unfold takeL
  exact (sound_showLease _ (State.sound_mk h1.regs h1.shadow h1.cnts h1.tot h1.hold h1.pairs h1.ctl h1.host h1.hlt
      h1.nvm h1.cls (TimeSt.sound_mk h1.time.rx h1.time.offs h1.time.sums) h1.tbl h1.leaf h1.xbar h1.buf h1.tm
      h1.sky))

theorem sound_takeTime : ∀ a0 a1 a2 a3 a4 a5, State.Sound a5 →
    State.Sound (takeTime a0 a1 a2 a3 a4 a5) := by
  intro a0 a1 a2 a3 a4 a5 h5
  unfold takeTime
  extract_lets +onlyGivenNames -merge x0
  extract_lets +onlyGivenNames -merge x1
  extract_lets +onlyGivenNames -merge x2
  have hx2 : TimeSt.Sound x2 := h5.time
  clear_value x2
  extract_lets +onlyGivenNames -merge x3
  have hx3 : State.Sound x3 := (State.sound_mk h5.regs h5.shadow h5.cnts h5.tot h5.hold h5.pairs h5.ctl h5.host
      h5.hlt h5.nvm h5.cls (TimeSt.sound_mk (SMap.sorted_insert h5.time.rx _ _) hx2.offs hx2.sums) h5.tbl h5.leaf
      h5.xbar h5.buf h5.tm h5.sky)
  clear_value x3
  extract_lets +onlyGivenNames -merge x4
  have hx4 : State.Sound x4 := (ite_holds (P := State.Sound) (sound_holderFrame _ _ _ (sound_heard _ _ hx3)) hx3)
  clear_value x4
  extract_lets +onlyGivenNames -merge x5
  have hx5 : State.Sound x5 := (sound_takeL _ _ hx4)
  clear_value x5
  extract_lets +onlyGivenNames -merge x6
  have hx6 : TimeSt.Sound x6 := hx5.time
  clear_value x6
  extract_lets +onlyGivenNames -merge x7
  have hx7 : State.Sound x7 := (State.sound_mk hx5.regs hx5.shadow hx5.cnts hx5.tot hx5.hold hx5.pairs hx5.ctl
      hx5.host hx5.hlt hx5.nvm hx5.cls (TimeSt.sound_mk hx6.rx hx6.offs hx6.sums) hx5.tbl hx5.leaf hx5.xbar hx5.buf
      hx5.tm hx5.sky)
  clear_value x7
  extract_lets +onlyGivenNames -merge x8
  have hx8 : State.Sound x8 := (ite_holds (P := State.Sound) (ite_holds (P := State.Sound) (sound_takeAnnouncement _
      _ _ hx7) hx7) hx4)
  clear_value x8
  extract_lets +onlyGivenNames -merge x9
  have hx9 : TimeSt.Sound x9 := hx8.time
  clear_value x9
  extract_lets +onlyGivenNames -merge x10
  have hx10 : State.Sound x10 := (ite_holds (P := State.Sound) (State.sound_mk hx8.regs hx8.shadow hx8.cnts hx8.tot
      hx8.hold hx8.pairs hx8.ctl hx8.host hx8.hlt hx8.nvm hx8.cls (TimeSt.sound_mk hx9.rx hx9.offs hx9.sums) hx8.tbl
      hx8.leaf hx8.xbar hx8.buf hx8.tm hx8.sky) hx8)
  clear_value x10
  exact (sound_showDelay _ _ (sound_measure _ _ _ _ _ hx10))

theorem sound_execTaiOffsetWrite : ∀ a0 a1 a2, State.Sound a2 →
    ResHolds (execTaiOffsetWrite a0 a1 a2) := by
  intro a0 a1 a2 h2
  unfold execTaiOffsetWrite
  refine next_holds ?_
  refine sound_far _ _ _ ?_ h2
  · intro y0 hy0
    exact (sound_taiWrite _ _ hy0)

theorem sound_takeoverCheck : ∀ a0, State.Sound a0 →
    State.Sound (takeoverCheck a0) := by
  intro a0 h0
  unfold takeoverCheck
  split
  · exact h0
  · refine ite_holds (P := State.Sound) ?_ ?_
    · exact h0
    · extract_lets +onlyGivenNames -merge x3
      have hx3 : TimeSt.Sound x3 := h0.time
      clear_value x3
      extract_lets +onlyGivenNames -merge x4
      have hx4 : State.Sound x4 := (State.sound_mk h0.regs h0.shadow h0.cnts h0.tot h0.hold h0.pairs h0.ctl h0.host
          h0.hlt h0.nvm h0.cls (TimeSt.sound_mk hx3.rx hx3.offs hx3.sums) h0.tbl h0.leaf h0.xbar h0.buf h0.tm h0.sky)
      clear_value x4
      extract_lets +onlyGivenNames -merge x5
      extract_lets +onlyGivenNames -merge x6
      refine ite_holds (P := State.Sound) ?_ ?_
      · extract_lets +onlyGivenNames -merge x7
        have hx7 : State.Sound x7 := (sound_State_setFld _ _ _ _ _ (sound_releaseLease _ hx4))
        clear_value x7
        exact (sound_fault _ _ _ _ _ (sound_State_count _ _ _ _ _ hx7))
      · exact hx4

theorem sound_execTakeoverCheck : ∀ a0, State.Sound a0 →
    ResHolds (execTakeoverCheck a0) := by
  intro a0 h0
  unfold execTakeoverCheck
  refine next_holds ?_
  exact (sound_takeoverCheck _ h0)

/-! ### Machine/SkyState.lean -/

theorem sound_ageDelays : ∀ a0, State.Sound a0 →
    State.Sound (ageDelays a0) := by
  intro a0 h0
  unfold ageDelays
  exact (foldl_holds (P := State.Sound) (fun _ _ hm0 => (ite_holds (P := State.Sound) (sound_showDelay _ _ hm0) hm0))
      h0)

theorem sound_agreeMap : ∀ a0 a1, State.Sound a1 →
    State.Sound (agreeMap a0 a1) := by
  intro a0 a1 h1
  unfold agreeMap
  extract_lets +onlyGivenNames -merge x0
  extract_lets +onlyGivenNames -merge x1
  have hx1 : SkySt.Sound x1 := h1.sky
  clear_value x1
  extract_lets +onlyGivenNames -merge x2
  have hx2 : State.Sound x2 := (State.sound_mk h1.regs h1.shadow h1.cnts h1.tot h1.hold h1.pairs h1.ctl h1.host
      h1.hlt h1.nvm h1.cls h1.time h1.tbl h1.leaf h1.xbar h1.buf h1.tm (SkySt.sound_mk hx1.lanes hx1.traces hx1.pairs
      hx1.reseq hx1.wrr hx1.wrr0 hx1.rounds hx1.offered hx1.used hx1.offeredLast hx1.usedLast hx1.spare hx1.cands
      hx1.inForce))
  clear_value x2
  exact (sound_State_setFld _ _ _ _ _ hx2)

theorem sound_applySettings : ∀ a0, State.Sound a0 →
    State.Sound (applySettings a0) := by
  intro a0 h0
  unfold applySettings
  extract_lets +onlyGivenNames -merge x0
  extract_lets +onlyGivenNames -merge x1
  have hx1 : SkySt.Sound x1 := h0.sky
  clear_value x1
  extract_lets +onlyGivenNames -merge x2
  have hx2 : State.Sound x2 := (State.sound_mk h0.regs h0.shadow h0.cnts h0.tot h0.hold h0.pairs h0.ctl h0.host
      h0.hlt h0.nvm h0.cls h0.time h0.tbl h0.leaf h0.xbar h0.buf h0.tm (SkySt.sound_mk hx1.lanes hx1.traces hx1.pairs
      hx1.reseq hx1.wrr hx1.wrr0 hx1.rounds hx1.offered hx1.used hx1.offeredLast hx1.usedLast hx1.spare hx1.cands
      (foldl_holds (P := (fun e => SMap.sorted e = true)) (fun _ _ hm3 => (SMap.sorted_put hm3 _ _ _))
      h0.sky.inForce)))
  clear_value x2
  extract_lets +onlyGivenNames -merge x4
  exact (State.sound_mk hx2.regs hx2.shadow hx2.cnts hx2.tot hx2.hold hx2.pairs hx2.ctl hx2.host hx2.hlt hx2.nvm
      hx2.cls (TimeSt.sound_mk hx2.time.rx hx2.time.offs hx2.time.sums) hx2.tbl hx2.leaf hx2.xbar hx2.buf hx2.tm
      hx2.sky)

theorem sound_buildCandidates : ∀ a0, State.Sound a0 →
    State.Sound (buildCandidates a0) := by
  intro a0 h0
  unfold buildCandidates
  exact (State.sound_mk h0.regs h0.shadow h0.cnts h0.tot h0.hold h0.pairs h0.ctl h0.host h0.hlt h0.nvm h0.cls h0.time
      h0.tbl h0.leaf h0.xbar h0.buf h0.tm (SkySt.sound_mk h0.sky.lanes h0.sky.traces h0.sky.pairs h0.sky.reseq
      h0.sky.wrr h0.sky.wrr0 h0.sky.rounds h0.sky.offered h0.sky.used h0.sky.offeredLast h0.sky.usedLast h0.sky.spare
      (foldl_holds (P := (fun e => SMap.sorted e = true)) (fun _ _ hm0 => (SMap.sorted_put hm0 _ _ _))
      SMap.sorted_nil) h0.sky.inForce))

theorem sound_darkCount : ∀ a0, State.Sound a0 →
    State.Sound (darkCount a0) := by
  intro a0 h0
  unfold darkCount
  exact (sound_State_countIf _ _ _ _ _ h0)

theorem sound_clearRegs : ∀ a0 a1 a2, State.Sound a2 →
    State.Sound (clearRegs a0 a1 a2) := by
  intro a0 a1 a2 h2
  unfold clearRegs
  exact (State.sound_mk (SMap.sorted_keep h2.regs _) h2.shadow h2.cnts h2.tot h2.hold h2.pairs h2.ctl h2.host h2.hlt
      h2.nvm h2.cls h2.time h2.tbl h2.leaf h2.xbar h2.buf h2.tm h2.sky)

theorem sound_enterJoining : ∀ a0 a1, State.Sound a1 →
    State.Sound (enterJoining a0 a1) := by
  intro a0 a1 h1
  unfold enterJoining
  extract_lets +onlyGivenNames -merge x0
  have hx0 : State.Sound x0 := (sound_State_setFld _ _ _ _ _ h1)
  clear_value x0
  extract_lets +onlyGivenNames -merge x1
  have hx1 : State.Sound x1 := (sound_State_setReg64 _ _ _ _ _ hx0)
  clear_value x1
  extract_lets +onlyGivenNames -merge x2
  have hx2 : State.Sound x2 := (sound_clearRegs _ _ _ hx1)
  clear_value x2
  exact (State.sound_mk hx2.regs hx2.shadow hx2.cnts hx2.tot hx2.hold hx2.pairs hx2.ctl hx2.host hx2.hlt hx2.nvm
      hx2.cls hx2.time hx2.tbl hx2.leaf hx2.xbar hx2.buf hx2.tm (SkySt.sound_mk (SMap.sorted_map hx2.sky.lanes _ (fun
      _ => rfl)) hx2.sky.traces hx2.sky.pairs hx2.sky.reseq hx2.sky.wrr hx2.sky.wrr0 hx2.sky.rounds hx2.sky.offered
      hx2.sky.used hx2.sky.offeredLast hx2.sky.usedLast hx2.sky.spare hx2.sky.cands hx2.sky.inForce))

theorem sound_joinFirst : ∀ a0 a1, State.Sound a1 →
    State.Sound (joinFirst a0 a1) := by
  intro a0 a1 h1
  unfold joinFirst
  refine ite_holds (P := State.Sound) ?_ ?_
  · extract_lets +onlyGivenNames -merge x0
    have hx0 : SkySt.Sound x0 := h1.sky
    clear_value x0
    extract_lets +onlyGivenNames -merge x1
    have hx1 : State.Sound x1 := (ite_holds (P := State.Sound) (sound_takeLease _ _ (State.sound_mk h1.regs h1.shadow
        h1.cnts h1.tot h1.hold h1.pairs h1.ctl h1.host h1.hlt h1.nvm h1.cls h1.time h1.tbl h1.leaf h1.xbar h1.buf
        h1.tm (SkySt.sound_mk hx0.lanes hx0.traces hx0.pairs hx0.reseq hx0.wrr hx0.wrr0 hx0.rounds hx0.offered
        hx0.used hx0.offeredLast hx0.usedLast hx0.spare hx0.cands hx0.inForce))) h1)
    clear_value x1
    exact (ite_holds (P := State.Sound) (sound_enterJoining _ _ (State.sound_mk hx1.regs hx1.shadow hx1.cnts hx1.tot
        hx1.hold hx1.pairs hx1.ctl hx1.host hx1.hlt hx1.nvm hx1.cls hx1.time hx1.tbl hx1.leaf hx1.xbar hx1.buf hx1.tm
        (SkySt.sound_mk hx1.sky.lanes hx1.sky.traces hx1.sky.pairs hx1.sky.reseq hx1.sky.wrr hx1.sky.wrr0
        hx1.sky.rounds hx1.sky.offered hx1.sky.used hx1.sky.offeredLast hx1.sky.usedLast hx1.sky.spare hx1.sky.cands
        hx1.sky.inForce))) hx1)
  · exact h1

theorem sound_slipStep : ∀ a0, State.Sound a0 →
    State.Sound (slipStep a0) := by
  intro a0 h0
  unfold slipStep
  extract_lets +onlyGivenNames -merge x0
  extract_lets +onlyGivenNames -merge x1
  have hx1 : SkySt.Sound x1 := h0.sky
  clear_value x1
  extract_lets +onlyGivenNames -merge x2
  have hx2 : State.Sound x2 := (State.sound_mk h0.regs h0.shadow h0.cnts h0.tot h0.hold h0.pairs h0.ctl h0.host
      h0.hlt h0.nvm h0.cls h0.time h0.tbl h0.leaf h0.xbar h0.buf h0.tm (SkySt.sound_mk hx1.lanes hx1.traces hx1.pairs
      hx1.reseq hx1.wrr hx1.wrr0 hx1.rounds hx1.offered hx1.used hx1.offeredLast hx1.usedLast hx1.spare hx1.cands
      hx1.inForce))
  clear_value x2
  refine ite_holds (P := State.Sound) ?_ ?_
  · extract_lets +onlyGivenNames -merge x3
    extract_lets +onlyGivenNames -merge x4
    extract_lets +onlyGivenNames -merge x5
    extract_lets +onlyGivenNames -merge x6
    have hx6 : State.Sound x6 := (sound_State_countIf _ _ _ _ _ hx2)
    clear_value x6
    exact (State.sound_mk hx6.regs hx6.shadow hx6.cnts hx6.tot hx6.hold hx6.pairs hx6.ctl hx6.host hx6.hlt hx6.nvm
        hx6.cls hx6.time hx6.tbl hx6.leaf hx6.xbar hx6.buf hx6.tm (SkySt.sound_mk hx6.sky.lanes hx6.sky.traces
        hx6.sky.pairs hx6.sky.reseq hx6.sky.wrr hx6.sky.wrr0 hx6.sky.rounds hx6.sky.offered hx6.sky.used
        hx6.sky.offeredLast hx6.sky.usedLast hx6.sky.spare hx6.sky.cands hx6.sky.inForce))
  · exact (State.sound_mk hx2.regs hx2.shadow hx2.cnts hx2.tot hx2.hold hx2.pairs hx2.ctl hx2.host hx2.hlt hx2.nvm
      hx2.cls hx2.time hx2.tbl hx2.leaf hx2.xbar hx2.buf hx2.tm (SkySt.sound_mk hx2.sky.lanes hx2.sky.traces
      hx2.sky.pairs hx2.sky.reseq hx2.sky.wrr hx2.sky.wrr0 hx2.sky.rounds hx2.sky.offered hx2.sky.used
      hx2.sky.offeredLast hx2.sky.usedLast hx2.sky.spare hx2.sky.cands hx2.sky.inForce))

theorem sound_enterDark : ∀ a0, State.Sound a0 →
    State.Sound (enterDark a0) := by
  intro a0 h0
  unfold enterDark
  exact (sound_releaseLease _ (sound_State_setFld _ _ _ _ _ h0))

theorem sound_transit : ∀ a0 a1 a2, State.Sound a2 →
    State.Sound (transit a0 a1 a2) := by
  intro a0 a1 a2 h2
  unfold transit
  exact (ite_holds (P := State.Sound) (ite_holds (P := State.Sound) (sound_enterDark _ h2) (ite_holds (P :=
      State.Sound) (sound_State_count _ _ _ _ _ (sound_State_setFld _ _ _ _ _ h2)) h2)) (ite_holds (P := State.Sound)
      (ite_holds (P := State.Sound) (sound_enterDark _ h2) h2) (ite_holds (P := State.Sound) (ite_holds (P :=
      State.Sound) h2 (ite_holds (P := State.Sound) (sound_State_setFld _ _ _ _ _ h2) (sound_enterJoining _ _ h2)))
      h2)))

theorem sound_beginEpoch : ∀ a0 a1 a2, State.Sound a2 →
    State.Sound (beginEpoch a0 a1 a2) := by
  intro a0 a1 a2 h2
  unfold beginEpoch
  extract_lets +onlyGivenNames -merge x0
  have hx0 : State.Sound x0 := (sound_applySettings _ h2)
  clear_value x0
  extract_lets +onlyGivenNames -merge x1
  have hx1 : TimeSt.Sound x1 := hx0.time
  clear_value x1
  extract_lets +onlyGivenNames -merge x2
  have hx2 : SkySt.Sound x2 := hx0.sky
  clear_value x2
  extract_lets +onlyGivenNames -merge x3
  have hx3 : State.Sound x3 := (State.sound_mk hx0.regs hx0.shadow hx0.cnts hx0.tot hx0.hold hx0.pairs hx0.ctl
      hx0.host hx0.hlt hx0.nvm hx0.cls (TimeSt.sound_mk hx1.rx hx1.offs hx1.sums) hx0.tbl hx0.leaf hx0.xbar hx0.buf
      hx0.tm (SkySt.sound_mk hx2.lanes hx2.traces hx2.pairs hx2.reseq hx2.wrr hx2.wrr0 hx2.rounds SMap.sorted_nil
      SMap.sorted_nil hx0.sky.offered hx0.sky.used hx2.spare hx2.cands hx2.inForce))
  clear_value x3
  extract_lets +onlyGivenNames -merge x4
  have hx4 : State.Sound x4 := (sound_mapApply _ hx3)
  clear_value x4
  extract_lets +onlyGivenNames -merge x5
  extract_lets +onlyGivenNames -merge x6
  have hx6 : State.Sound x6 := (sound_agreeMap _ _ (sound_joinFirst _ _ hx4))
  clear_value x6
  extract_lets +onlyGivenNames -merge x7
  have hx7 : State.Sound x7 := (sound_countGood _ (sound_servo _ hx6))
  clear_value x7
  extract_lets +onlyGivenNames -merge x8
  have hx8 : TimeSt.Sound x8 := hx7.time
  clear_value x8
  extract_lets +onlyGivenNames -merge x9
  have hx9 : State.Sound x9 := (State.sound_mk hx7.regs hx7.shadow hx7.cnts hx7.tot hx7.hold hx7.pairs hx7.ctl
      hx7.host hx7.hlt hx7.nvm hx7.cls (TimeSt.sound_mk hx8.rx hx8.offs hx8.sums) hx7.tbl hx7.leaf hx7.xbar hx7.buf
      hx7.tm hx7.sky)
  clear_value x9
  extract_lets +onlyGivenNames -merge x10
  have hx10 : State.Sound x10 := (sound_ageDelays _ (sound_transit _ _ _ hx9))
  clear_value x10
  extract_lets +onlyGivenNames -merge x11
  have hx11 : State.Sound x11 := (sound_runDiag _ (ite_holds (P := State.Sound) hx10 (sound_deskewAlarms _ hx10)))
  clear_value x11
  exact (sound_buildCandidates _ (sound_slipStep _ (sound_darkCount _ hx11)))

theorem sound_skyFlush : ∀ a0, State.Sound a0 →
    State.Sound (skyFlush a0) := by
  intro a0 h0
  unfold skyFlush
  extract_lets +onlyGivenNames -merge x0
  have hx0 : State.Sound x0 := (foldl_holds (P := State.Sound) (fun _ _ hm1 => (sound_dropCell _ _ _
      (sound_State_count _ _ _ _ _ hm1))) h0)
  clear_value x0
  extract_lets +onlyGivenNames -merge x2
  have hx2 : SkySt.Sound x2 := hx0.sky
  clear_value x2
  extract_lets +onlyGivenNames -merge x3
  have hx3 : State.Sound x3 := (State.sound_mk hx0.regs hx0.shadow hx0.cnts hx0.tot hx0.hold hx0.pairs hx0.ctl
      hx0.host hx0.hlt hx0.nvm hx0.cls hx0.time hx0.tbl hx0.leaf hx0.xbar hx0.buf hx0.tm (SkySt.sound_mk hx2.lanes
      hx2.traces hx2.pairs hx2.reseq hx2.wrr hx2.wrr0 hx2.rounds hx2.offered hx2.used hx2.offeredLast hx2.usedLast
      hx2.spare hx2.cands hx2.inForce))
  clear_value x3
  extract_lets +onlyGivenNames -merge x4
  have hx4 : State.Sound x4 := (sound_returnAll _ _ hx3)
  clear_value x4
  extract_lets +onlyGivenNames -merge x5
  have hx5 : State.Sound x5 := (sound_cutQueues _ _ _ _ hx4)
  clear_value x5
  exact (foldl_holds (P := State.Sound) (fun _ _ hm6 => (sound_resetPair _ _ hm6)) hx5)

theorem sound_enterOff : ∀ a0, State.Sound a0 →
    State.Sound (enterOff a0) := by
  intro a0 h0
  unfold enterOff
  extract_lets +onlyGivenNames -merge x0
  have hx0 : State.Sound x0 := (sound_skyFlush _ (sound_releaseLease _ h0))
  clear_value x0
  extract_lets +onlyGivenNames -merge x1
  have hx1 : State.Sound x1 := (sound_State_setFld _ _ _ _ _ (sound_State_setFld _ _ _ _ _ hx0))
  clear_value x1
  exact (State.sound_mk hx1.regs hx1.shadow hx1.cnts hx1.tot hx1.hold hx1.pairs hx1.ctl hx1.host hx1.hlt hx1.nvm
      hx1.cls hx1.time hx1.tbl hx1.leaf hx1.xbar hx1.buf hx1.tm (SkySt.sound_mk hx1.sky.lanes hx1.sky.traces
      hx1.sky.pairs hx1.sky.reseq hx1.sky.wrr hx1.sky.wrr0 hx1.sky.rounds hx1.sky.offered hx1.sky.used
      hx1.sky.offeredLast hx1.sky.usedLast hx1.sky.spare hx1.sky.cands hx1.sky.inForce))

theorem sound_enterListen : ∀ a0, State.Sound a0 →
    State.Sound (enterListen a0) := by
  intro a0 h0
  unfold enterListen
  extract_lets +onlyGivenNames -merge x0
  have hx0 : State.Sound x0 := (sound_skyFlush _ (sound_releaseLease _ h0))
  clear_value x0
  extract_lets +onlyGivenNames -merge x1
  have hx1 : State.Sound x1 := (sound_clearRegs _ _ _ hx0)
  clear_value x1
  extract_lets +onlyGivenNames -merge x2
  have hx2 : State.Sound x2 := (sound_clearRegs _ _ _ hx1)
  clear_value x2
  extract_lets +onlyGivenNames -merge x3
  have hx3 : State.Sound x3 := (sound_clearRegs _ _ _ hx2)
  clear_value x3
  extract_lets +onlyGivenNames -merge x4
  have hx4 : State.Sound x4 := (foldl_holds (P := State.Sound) (fun _ _ hm5 => (ite_holds (P := State.Sound)
      (sound_State_setFld _ _ _ _ _ hm5) hm5)) hx3)
  clear_value x4
  extract_lets +onlyGivenNames -merge x6
  have hx6 : State.Sound x6 := (sound_State_setReg _ _ _ _ _ (sound_State_setReg64 _ _ _ _ _ (sound_State_setReg _ _
      _ _ _ hx4)))
  clear_value x6
  extract_lets +onlyGivenNames -merge x7
  have hx7 : State.Sound x7 := (sound_State_setFld _ _ _ _ _ (sound_State_setFld _ _ _ _ _ (sound_State_setFld _ _ _
      _ _ hx6)))
  clear_value x7
  extract_lets +onlyGivenNames -merge x8
  have hx8 : State.Sound x8 := (sound_State_setFld _ _ _ _ _ (sound_State_setFld _ _ _ _ _ (sound_State_setFld _ _ _
      _ _ hx7)))
  clear_value x8
  extract_lets +onlyGivenNames -merge x9
  have hx9 : State.Sound x9 := (sound_State_setFld _ _ _ _ _ (sound_State_setFld _ _ _ _ _ hx8))
  clear_value x9
  extract_lets +onlyGivenNames -merge x10
  have hx10 : TimeSt.Sound x10 := hx9.time
  clear_value x10
  extract_lets +onlyGivenNames -merge x11
  have hx11 : SkySt.Sound x11 := hx9.sky
  clear_value x11
  extract_lets +onlyGivenNames -merge x12
  have hx12 : State.Sound x12 := (State.sound_mk hx9.regs hx9.shadow hx9.cnts hx9.tot hx9.hold hx9.pairs hx9.ctl
      hx9.host hx9.hlt hx9.nvm hx9.cls (TimeSt.sound_mk SMap.sorted_nil SMap.sorted_nil SMap.sorted_nil) hx9.tbl
      hx9.leaf hx9.xbar hx9.buf hx9.tm (SkySt.sound_mk hx11.lanes SMap.sorted_nil hx11.pairs hx11.reseq hx11.wrr
      hx11.wrr0 hx11.rounds hx11.offered hx11.used hx11.offeredLast hx11.usedLast SMap.sorted_nil SMap.sorted_nil
      hx11.inForce))
  clear_value x12
  exact (sound_showLease _ hx12)

theorem sound_skyTry : ∀ a0, State.Sound a0 →
    State.Sound (skyTry a0) := by
  intro a0 h0
  unfold skyTry
  exact (ite_holds (P := State.Sound) (sound_enterListen _ h0) h0)

theorem sound_skyCtrl : ∀ a0 a1, State.Sound a1 →
    State.Sound (skyCtrl a0 a1) := by
  intro a0 a1 h1
  unfold skyCtrl
  extract_lets +onlyGivenNames -merge x0
  extract_lets +onlyGivenNames -merge x1
  have hx1 : State.Sound x1 := (sound_State_setFld _ _ _ _ _ h1)
  clear_value x1
  exact (ite_holds (P := State.Sound) (ite_holds (P := State.Sound) (ite_holds (P := State.Sound) (sound_skyTry _
      hx1) (sound_State_setFld _ _ _ _ _ hx1)) hx1) (ite_holds (P := State.Sound) hx1 (sound_enterOff _ hx1)))

theorem sound_skyTxEn : ∀ a0 a1, State.Sound a1 →
    State.Sound (skyTxEn a0 a1) := by
  intro a0 a1 h1
  unfold skyTxEn
  extract_lets +onlyGivenNames -merge x0
  exact (sound_State_setFld _ _ _ _ _ (sound_State_setFld _ _ _ _ _ h1))

theorem sound_epochStart : ∀ a0 a1, State.Sound a1 →
    State.Sound (epochStart a0 a1) := by
  intro a0 a1 h1
  unfold epochStart
  exact (ite_holds (P := State.Sound) h1 (sound_beginEpoch _ _ _ h1))

theorem sound_execEpochStart : ∀ a0 a1 a2, State.Sound a2 →
    ResHolds (execEpochStart a0 a1 a2) := by
  intro a0 a1 a2 h2
  unfold execEpochStart
  refine next_holds ?_
  exact (sound_epochStart _ _ h2)

theorem sound_execSkyCtrlWrite : ∀ a0 a1 a2, State.Sound a2 →
    ResHolds (execSkyCtrlWrite a0 a1 a2) := by
  intro a0 a1 a2 h2
  unfold execSkyCtrlWrite
  refine next_holds ?_
  refine sound_far _ _ _ ?_ h2
  · intro y0 hy0
    exact (sound_skyCtrl _ _ hy0)

theorem sound_execSkyTxEnWrite : ∀ a0 a1 a2, State.Sound a2 →
    ResHolds (execSkyTxEnWrite a0 a1 a2) := by
  intro a0 a1 a2 h2
  unfold execSkyTxEnWrite
  extract_lets +onlyGivenNames -merge x0
  refine next_holds ?_
  refine sound_guarded _ _ _ ?_ h2
  · intro y1 hy1
    refine sound_far _ _ _ ?_ hy1
    · intro y2 hy2
      exact (sound_skyTxEn _ _ hy2)

/-! ### Machine/SkyTx.lean -/

theorem sound_balance : ∀ a0 a1 a2 a3 a4, State.Sound a4 →
    State.Sound (balance a0 a1 a2 a3 a4) := by
  intro a0 a1 a2 a3 a4 h4
  unfold balance
  extract_lets +onlyGivenNames -merge x0
  refine ite_holds (P := State.Sound) ?_ ?_
  · exact h4
  · extract_lets +onlyGivenNames -merge x1
    extract_lets +onlyGivenNames -merge x2
    have hx2 : State.Sound x2 := (sound_setSlane _ _ _ h4)
    clear_value x2
    exact (sound_State_countIf _ _ _ _ _ (sound_State_countIf _ _ _ _ _ hx2))

theorem sound_cellFailed : ∀ a0 a1 a2, State.Sound a2 →
    State.Sound (cellFailed a0 a1 a2) := by
  intro a0 a1 a2 h2
  unfold cellFailed
  extract_lets +onlyGivenNames -merge x0
  have hx0 : State.Sound x0 := (sound_skyGone _ _ (sound_quarFail _ _ _ (sound_State_count _ _ _ _ _ h2)))
  clear_value x0
  exact (ite_holds (P := State.Sound) (sound_addCredit _ _ _ (sound_setPair _ _ _ hx0)) hx0)

theorem sound_cellSent : ∀ a0 a1 a2, State.Sound a2 →
    State.Sound (cellSent a0 a1 a2) := by
  intro a0 a1 a2 h2
  unfold cellSent
  extract_lets +onlyGivenNames -merge x0
  extract_lets +onlyGivenNames -merge x1
  have hx1 : State.Sound x1 := (sound_dropCell _ _ _ h2)
  clear_value x1
  exact (ite_holds (P := State.Sound) (sound_State_led _ _ _ _ (sound_State_count _ _ _ _ _ hx1)) (ite_holds (P :=
      State.Sound) (sound_State_led _ _ _ _ (sound_State_count _ _ _ _ _ hx1)) (sound_State_count _ _ _ _ _ hx1)))

theorem sound_choose : ∀ a0 a1 a2 a3 a4 a5 a6 a7, State.Sound a7 →
    State.Sound (choose a0 a1 a2 a3 a4 a5 a6 a7) := by
  intro a0 a1 a2 a3 a4 a5 a6 a7 h7
  unfold choose
  split
  · exact h7
  · extract_lets +onlyGivenNames -merge x4
    extract_lets +onlyGivenNames -merge x5
    extract_lets +onlyGivenNames -merge x6
    have hx6 : State.Sound x6 := (sound_noteDepth _ _ h7)
    clear_value x6
    extract_lets +onlyGivenNames -merge x7
    have hx7 : State.Sound x7 := (sound_setSlane _ _ _ hx6)
    clear_value x7
    extract_lets +onlyGivenNames -merge x8
    have hx8 : SkySt.Sound x8 := hx7.sky
    clear_value x8
    extract_lets +onlyGivenNames -merge x9
    have hx9 : State.Sound x9 := (sound_popHead _ _ (State.sound_mk hx7.regs hx7.shadow hx7.cnts hx7.tot hx7.hold
        hx7.pairs hx7.ctl hx7.host hx7.hlt hx7.nvm hx7.cls hx7.time hx7.tbl hx7.leaf hx7.xbar hx7.buf hx7.tm
        (SkySt.sound_mk hx8.lanes hx8.traces hx8.pairs hx8.reseq hx8.wrr hx8.wrr0 hx8.rounds hx8.offered hx8.used
        hx8.offeredLast hx8.usedLast hx8.spare hx8.cands hx8.inForce)))
    clear_value x9
    exact (ite_holds (P := State.Sound) (sound_addCredit _ _ _ (sound_setPair _ _ _ hx9)) hx9)

theorem sound_noteOffer : ∀ a0 a1 a2 a3, State.Sound a3 →
    State.Sound (noteOffer a0 a1 a2 a3) := by
  intro a0 a1 a2 a3 h3
  unfold noteOffer
  exact (State.sound_mk h3.regs h3.shadow h3.cnts h3.tot h3.hold h3.pairs h3.ctl h3.host h3.hlt h3.nvm h3.cls h3.time
      h3.tbl h3.leaf h3.xbar h3.buf h3.tm (SkySt.sound_mk h3.sky.lanes h3.sky.traces h3.sky.pairs h3.sky.reseq
      h3.sky.wrr h3.sky.wrr0 h3.sky.rounds (SMap.sorted_upd h3.sky.offered _ _ _) (SMap.sorted_upd h3.sky.used _ _ _)
      h3.sky.offeredLast h3.sky.usedLast h3.sky.spare h3.sky.cands h3.sky.inForce))

theorem sound_sendBurst : ∀ a0 a1 a2, State.Sound a2 →
    State.Sound (sendBurst a0 a1 a2) := by
  intro a0 a1 a2 h2
  unfold sendBurst
  extract_lets +onlyGivenNames -merge x0
  extract_lets +onlyGivenNames -merge x1
  extract_lets +onlyGivenNames -merge x2
  extract_lets +onlyGivenNames -merge x3
  have hx3 : State.Sound x3 := (sound_setSlane _ _ _ h2)
  clear_value x3
  exact (sound_State_emit _ _ (sound_State_count _ _ _ _ _ hx3))

theorem sound_sendData : ∀ a0 a1 a2 a3 a4, State.Sound a4 →
    State.Sound (sendData a0 a1 a2 a3 a4) := by
  intro a0 a1 a2 a3 a4 h4
  unfold sendData
  extract_lets +onlyGivenNames -merge x0
  extract_lets +onlyGivenNames -merge x1
  have hx1 : State.Sound x1 := (ite_holds (P := State.Sound) h4 (sound_returnChosen _ _ _ h4))
  clear_value x1
  extract_lets +onlyGivenNames -merge x2
  have hx2 : State.Sound x2 := (sound_balance _ _ _ _ _ hx1)
  clear_value x2
  extract_lets +onlyGivenNames -merge x3
  have hx3 : State.Sound x3 := (sound_returnChosen _ _ _ hx2)
  clear_value x3
  extract_lets +onlyGivenNames -merge x4
  extract_lets +onlyGivenNames -merge x5
  extract_lets +onlyGivenNames -merge x6
  extract_lets +onlyGivenNames -merge x7
  have hx7 : State.Sound x7 := (foldl_holds (P := State.Sound) (fun _ _ hm8 => (sound_noteDepth _ _ hm8)) hx3)
  clear_value x7
  extract_lets +onlyGivenNames -merge x9
  have hx9 : State.Sound x9 := (sound_setSlane _ _ _ hx7)
  clear_value x9
  extract_lets +onlyGivenNames -merge x10
  extract_lets +onlyGivenNames -merge x11
  have hx11 : State.Sound x11 := (sound_grant _ _ _ _ hx9)
  clear_value x11
  extract_lets +onlyGivenNames -merge x12
  extract_lets +onlyGivenNames -merge x13
  have hx13 : State.Sound x13 := (sound_sendBurst _ _ _ hx11)
  clear_value x13
  extract_lets +onlyGivenNames -merge x14
  have hx14 : State.Sound x14 := (sound_noteOffer _ _ _ _ hx13)
  clear_value x14
  extract_lets +onlyGivenNames -merge x15
  have hx15 : State.Sound x15 := (foldl_holds (P := State.Sound) (fun _ _ hm16 => (sound_cellSent _ _ _ hm16)) hx14)
  clear_value x15
  extract_lets +onlyGivenNames -merge x17
  have hx17 : State.Sound x17 := (foldl_holds (P := State.Sound) (fun _ _ hm18 => (sound_cellFailed _ _ _ hm18)) hx15)
  clear_value x17
  exact (foldl_holds (P := State.Sound) (fun _ _ hm19 => (sound_boundSync _ _ hm19)) hx17)

theorem sound_dataSlotTx : ∀ a0 a1 a2, State.Sound a2 →
    State.Sound (dataSlotTx a0 a1 a2) := by
  intro a0 a1 a2 h2
  unfold dataSlotTx
  extract_lets +onlyGivenNames -merge x0
  refine ite_holds (P := State.Sound) ?_ ?_
  · exact h2
  · extract_lets +onlyGivenNames -merge x1
    subst x1
    beta_reduce
    split
    · extract_lets +onlyGivenNames -merge x3
      have hx3 : State.Sound x3 := (sound_balance _ _ _ _ _ (sound_returnChosen _ _ _ h2))
      clear_value x3
      exact (sound_setSlane _ _ _ hx3)
    · refine ite_holds (P := State.Sound) ?_ ?_
      · extract_lets +onlyGivenNames -merge x6
        have hx6 : State.Sound x6 := (sound_balance _ _ _ _ _ (sound_returnChosen _ _ _ h2))
        clear_value x6
        exact (sound_setSlane _ _ _ hx6)
      · refine ite_holds (P := State.Sound) ?_ ?_
        · exact (sound_sendData _ _ _ _ _ h2)
        · exact (sound_State_count _ _ _ _ _ (sound_setSlane _ _ _ (sound_balance _ _ _ _ _ (sound_returnChosen _ _ _
            h2))))

theorem sound_freeBytes : ∀ a0 a1, State.Sound a1 →
    Snd State.Sound (freeBytes a0 a1) := by
  intro a0 a1 h1
  unfold freeBytes
  refine snd_holds (P := State.Sound) ?_
  exact (State.sound_mk h1.regs h1.shadow h1.cnts h1.tot h1.hold h1.pairs h1.ctl h1.host h1.hlt h1.nvm h1.cls h1.time
      h1.tbl h1.leaf h1.xbar h1.buf h1.tm h1.sky)

theorem sound_echoBytes : ∀ a0 a1 a2 a3, State.Sound a3 →
    Snd State.Sound (echoBytes a0 a1 a2 a3) := by
  intro a0 a1 a2 a3 h3
  unfold echoBytes
  split
  · refine snd_holds (P := State.Sound) ?_
    exact h3
  · split
    · rename_i v3 v4 heq5
      have hv4 : State.Sound v4 := holds_eq (P := (Snd State.Sound)) heq5 (by
          exact (sound_freeBytes _ _ h3))
      split
      · rename_i v6 v7 heq8
        have hv7 : State.Sound v7 := holds_eq (P := (Snd State.Sound)) heq8 (by
            exact (sound_freeBytes _ _ hv4))
        refine snd_holds (P := State.Sound) ?_
        exact hv7

theorem sound_execDataSlotTx : ∀ a0 a1 a2, State.Sound a2 →
    ResHolds (execDataSlotTx a0 a1 a2) := by
  intro a0 a1 a2 h2
  unfold execDataSlotTx
  refine next_holds ?_
  exact (sound_dataSlotTx _ _ _ h2)

theorem sound_roundPick : ∀ a0 a1 a2 a3, State.Sound a3 →
    Snd State.Sound (roundPick a0 a1 a2 a3) := by
  intro a0 a1 a2 a3 h3
  unfold roundPick
  split
  · refine snd_holds (P := State.Sound) ?_
    exact h3
  · extract_lets +onlyGivenNames -merge x3
    extract_lets +onlyGivenNames -merge x4
    extract_lets +onlyGivenNames -merge x5
    extract_lets +onlyGivenNames -merge x6
    subst x6
    beta_reduce
    extract_lets +onlyGivenNames -merge x7
    have hx7 : State.Sound x7 := (ite_holds (P := State.Sound) h3 (foldl_holds (P := State.Sound) (fun _ _ hm8 =>
        (sound_setQueue _ _ _ hm8)) h3))
    clear_value x7
    split
    · extract_lets +onlyGivenNames -merge x11
      extract_lets +onlyGivenNames -merge x12
      have hx12 : State.Sound x12 := (sound_setQueue _ _ _ hx7)
      clear_value x12
      refine snd_holds (P := State.Sound) ?_
      exact (State.sound_mk hx12.regs hx12.shadow hx12.cnts hx12.tot hx12.hold hx12.pairs hx12.ctl hx12.host hx12.hlt
          hx12.nvm hx12.cls hx12.time hx12.tbl hx12.leaf hx12.xbar hx12.buf hx12.tm (SkySt.sound_mk hx12.sky.lanes
          hx12.sky.traces hx12.sky.pairs hx12.sky.reseq hx12.sky.wrr hx12.sky.wrr0 (SMap.sorted_put hx12.sky.rounds _
          _ _) hx12.sky.offered hx12.sky.used hx12.sky.offeredLast hx12.sky.usedLast hx12.sky.spare hx12.sky.cands
          hx12.sky.inForce))
    · refine snd_holds (P := State.Sound) ?_
      exact hx7

theorem sound_pickClasses : ∀ a0 a1 a2 a3 a4, State.Sound a4 →
    Snd State.Sound (pickClasses a0 a1 a2 a3 a4) := by
  intro a0 a1 a2 a3 a4 h4
  unfold pickClasses
  extract_lets +onlyGivenNames -merge x0
  split
  · refine snd_holds (P := State.Sound) ?_
    exact h4
  · extract_lets +onlyGivenNames -merge x4
    exact (sound_roundPick _ _ _ _ h4)

theorem sound_pickDirect : ∀ a0 a1 a2 a3, State.Sound a3 →
    Snd State.Sound (pickDirect a0 a1 a2 a3) := by
  intro a0 a1 a2 a3 h3
  unfold pickDirect
  extract_lets +onlyGivenNames -merge x0
  subst x0
  beta_reduce
  refine ite_holds (P := (Snd State.Sound)) ?_ ?_
  · refine snd_holds (P := State.Sound) ?_
    exact h3
  · exact (sound_pickClasses _ _ _ _ _ h3)

theorem sound_pickRelay : ∀ a0 a1 a2 a3, State.Sound a3 →
    Snd State.Sound (pickRelay a0 a1 a2 a3) := by
  intro a0 a1 a2 a3 h3
  unfold pickRelay
  refine ite_holds (P := (Snd State.Sound)) ?_ ?_
  · extract_lets +onlyGivenNames -merge x0
    extract_lets +onlyGivenNames -merge x1
    split
    · refine snd_holds (P := State.Sound) ?_
      exact h3
    · exact (sound_pickClasses _ _ _ _ _ (sound_setSlane _ _ _ h3))
  · refine snd_holds (P := State.Sound) ?_
    exact h3

theorem sound_fillPos : ∀ a0 a1 a2 a3 a4 a5, State.Sound a5 →
    State.Sound (fillPos a0 a1 a2 a3 a4 a5) := by
  intro a0 a1 a2 a3 a4 a5 h5
  unfold fillPos
  split
  · rename_i v0 v1 heq2
    have hv1 : State.Sound v1 := holds_eq (P := (Snd State.Sound)) heq2 (by
        exact (sound_pickDirect _ _ _ _ h5))
    exact (sound_choose _ _ _ _ _ _ _ _ hv1)
  · rename_i v3 heq4
    have hv3 : State.Sound v3 := holds_eq (P := (Snd State.Sound)) heq4 (by
        exact (sound_pickDirect _ _ _ _ h5))
    split
    · rename_i v5 v6 heq7
      have hv6 : State.Sound v6 := holds_eq (P := (Snd State.Sound)) heq7 (by
          exact (sound_pickRelay _ _ _ _ hv3))
      exact (sound_choose _ _ _ _ _ _ _ _ hv6)
    · rename_i v8 heq9
      have hv8 : State.Sound v8 := holds_eq (P := (Snd State.Sound)) heq9 (by
          exact (sound_pickRelay _ _ _ _ hv3))
      exact hv8

theorem sound_fillLane : ∀ a0 a1 a2 a3, State.Sound a3 →
    State.Sound (fillLane a0 a1 a2 a3) := by
  intro a0 a1 a2 a3 h3
  unfold fillLane
  refine ite_holds (P := State.Sound) ?_ ?_
  · exact h3
  · extract_lets +onlyGivenNames -merge x0
    have hx0 : State.Sound x0 := (sound_returnChosen _ _ _ h3)
    clear_value x0
    extract_lets +onlyGivenNames -merge x1
    extract_lets +onlyGivenNames -merge x2
    have hx2 : State.Sound x2 := (sound_setSlane _ _ _ hx0)
    clear_value x2
    split
    · exact hx2
    · exact (ite_holds (P := State.Sound) (foldl_holds (P := State.Sound) (fun _ _ hm6 => (sound_fillPos _ _ _ _ _ _
        hm6)) hx2) hx2)

theorem sound_openLane : ∀ a0 a1, State.Sound a1 →
    State.Sound (openLane a0 a1) := by
  intro a0 a1 h1
  unfold openLane
  exact (sound_setSlane _ _ _ h1)

theorem sound_slotFill : ∀ a0 a1, State.Sound a1 →
    State.Sound (slotFill a0 a1) := by
  intro a0 a1 h1
  unfold slotFill
  extract_lets +onlyGivenNames -merge x0
  extract_lets +onlyGivenNames -merge x1
  extract_lets +onlyGivenNames -merge x2
  have hx2 : State.Sound x2 := (foldl_holds (P := State.Sound) (fun _ _ hm3 => (sound_openLane _ _ hm3))
      (sound_moveLanes _ _ h1))
  clear_value x2
  exact (ite_holds (P := State.Sound) hx2 (foldl_holds (P := State.Sound) (fun _ _ hm4 => (sound_fillLane _ _ _ _
      hm4)) hx2))

theorem sound_execSlotFill : ∀ a0 a1, State.Sound a1 →
    ResHolds (execSlotFill a0 a1) := by
  intro a0 a1 h1
  unfold execSlotFill
  refine next_holds ?_
  exact (sound_slotFill _ _ h1)

theorem sound_nextBytes : ∀ a0, State.Sound a0 →
    Snd State.Sound (nextBytes a0) := by
  intro a0 h0
  unfold nextBytes
  refine ite_holds (P := (Snd State.Sound)) ?_ ?_
  · refine snd_holds (P := State.Sound) ?_
    exact h0
  · exact (sound_freeBytes _ _ h0)

theorem sound_timeFrame : ∀ a0 a1 a2 a3, State.Sound a3 →
    Snd State.Sound (timeFrame a0 a1 a2 a3) := by
  intro a0 a1 a2 a3 h3
  unfold timeFrame
  split
  · rename_i v0 v1 heq2
    have hv1 : State.Sound v1 := holds_eq (P := (Snd State.Sound)) heq2 (by
        exact (sound_nextBytes _ h3))
    split
    · rename_i v3 v4 heq5
      have hv4 : State.Sound v4 := holds_eq (P := (Snd State.Sound)) heq5 (by
          exact (sound_echoBytes _ _ _ _ hv1))
      extract_lets +onlyGivenNames -merge x6
      refine snd_holds (P := State.Sound) ?_
      exact hv4

theorem sound_syncSlotTx : ∀ a0 a1, State.Sound a1 →
    State.Sound (syncSlotTx a0 a1) := by
  intro a0 a1 h1
  unfold syncSlotTx
  extract_lets +onlyGivenNames -merge x0
  refine ite_holds (P := State.Sound) ?_ ?_
  · extract_lets +onlyGivenNames -merge x1
    extract_lets +onlyGivenNames -merge x2
    extract_lets +onlyGivenNames -merge x3
    split
    · rename_i v4 v5 heq6
      have hv5 : State.Sound v5 := holds_eq (P := (Snd State.Sound)) heq6 (by
          exact (sound_timeFrame _ _ _ _ h1))
      extract_lets +onlyGivenNames -merge x7
      exact (sound_sendBurst _ _ _ hv5)
  · exact h1

theorem sound_execSyncSlotTx : ∀ a0 a1, State.Sound a1 →
    ResHolds (execSyncSlotTx a0 a1) := by
  intro a0 a1 h1
  unfold execSyncSlotTx
  refine next_holds ?_
  exact (sound_syncSlotTx _ _ h1)

/-! ### Machine/SkyRx.lean -/

theorem sound_deliver : ∀ a0 a1 a2 a3, State.Sound a3 →
    State.Sound (deliver a0 a1 a2 a3) := by
  intro a0 a1 a2 a3 h3
  unfold deliver
  refine ite_holds (P := State.Sound) ?_ ?_
  · extract_lets +onlyGivenNames -merge x0
    extract_lets +onlyGivenNames -merge x1
    extract_lets +onlyGivenNames -merge x2
    have hx2 : State.Sound x2 := (sound_State_led _ _ _ _ (sound_State_count _ _ _ _ _ h3))
    clear_value x2
    exact (sound_feedPut _ _ _ hx2)
  · exact (sound_streamDrop _ _ _ _ (foldl_holds (P := State.Sound) (fun _ _ hm3 => (sound_dropCell _ _ _ hm3)) h3))

theorem sound_releaseOpen : ∀ a0 a1, State.Sound a1 →
    Snd State.Sound (releaseOpen a0 a1) := by
  intro a0 a1 h1
  unfold releaseOpen
  refine snd_holds (P := State.Sound) ?_
  exact (foldl_holds (P := State.Sound) (fun _ _ hm0 => (sound_dropCell _ _ _ hm0)) h1)

theorem sound_assemble : ∀ a0 a1 a2 a3 a4, State.Sound a4 →
    Snd State.Sound (assemble a0 a1 a2 a3 a4) := by
  intro a0 a1 a2 a3 a4 h4
  unfold assemble
  extract_lets +onlyGivenNames -merge x0
  refine ite_holds (P := (Snd State.Sound)) ?_ ?_
  · refine snd_holds (P := State.Sound) ?_
    exact (sound_dropCell _ _ _ h4)
  · extract_lets +onlyGivenNames -merge x1
    refine ite_holds (P := (Snd State.Sound)) ?_ ?_
    · split
      · rename_i v2 v3 heq4
        have hv3 : State.Sound v3 := holds_eq (P := (Snd State.Sound)) heq4 (by
            refine ite_holds (P := (Snd State.Sound)) ?_ ?_
            · refine snd_holds (P := State.Sound) ?_
              exact h4
            · split
              · rename_i v5 v6 heq7
                have hv6 : State.Sound v6 := holds_eq (P := (Snd State.Sound)) heq7 (by
                    exact (sound_releaseOpen _ _ h4))
                refine snd_holds (P := State.Sound) ?_
                exact (sound_streamDrop _ _ _ _ hv6))
        refine ite_holds (P := (Snd State.Sound)) ?_ ?_
        · refine snd_holds (P := State.Sound) ?_
          exact (sound_deliver _ _ _ _ hv3)
        · refine snd_holds (P := State.Sound) ?_
          exact hv3
    · refine ite_holds (P := (Snd State.Sound)) ?_ ?_
      · refine snd_holds (P := State.Sound) ?_
        exact (sound_streamDrop _ _ _ _ (sound_dropCell _ _ _ h4))
      · extract_lets +onlyGivenNames -merge x8
        refine ite_holds (P := (Snd State.Sound)) ?_ ?_
        · refine snd_holds (P := State.Sound) ?_
          exact (sound_deliver _ _ _ _ h4)
        · refine snd_holds (P := State.Sound) ?_
          exact h4

theorem sound_laneEvent : ∀ a0 a1 a2 a3, State.Sound a3 →
    State.Sound (laneEvent a0 a1 a2 a3) := by
  intro a0 a1 a2 a3 h3
  unfold laneEvent
  split
  · rename_i v0 v1 heq2
    have hv0 : State.Sound v0 := holds_eq (P := (Fst State.Sound)) heq2 (by
        exact (sound_winEvent _ _ _ h3))
    extract_lets +onlyGivenNames -merge x3
    extract_lets +onlyGivenNames -merge x4
    extract_lets +onlyGivenNames -merge x5
    have hx5 : State.Sound x5 := (sound_setWin _ _ _ _ hv0)
    clear_value x5
    refine ite_holds (P := State.Sound) ?_ ?_
    · extract_lets +onlyGivenNames -merge x6
      have hx6 : State.Sound x6 := (sound_State_setFld _ _ _ _ _ hx5)
      clear_value x6
      exact (sound_fault _ _ _ _ _ hx6)
    · exact hx5

theorem sound_countClass : ∀ a0 a1 a2, State.Sound a2 →
    State.Sound (countClass a0 a1 a2) := by
  intro a0 a1 a2 h2
  unfold countClass
  split
  · exact h2
  · exact (sound_laneEvent _ _ _ _ (sound_State_count _ _ _ _ _ (sound_State_count _ _ _ _ _ h2)))
  · exact (sound_laneEvent _ _ _ _ (sound_State_count _ _ _ _ _ (sound_State_count _ _ _ _ _ h2)))

theorem sound_countJust : ∀ a0 a1 a2, State.Sound a2 →
    State.Sound (countJust a0 a1 a2) := by
  intro a0 a1 a2 h2
  unfold countJust
  extract_lets +onlyGivenNames -merge x0
  refine ite_holds (P := State.Sound) ?_ ?_
  · exact (sound_State_countIf _ _ _ _ _ h2)
  · extract_lets +onlyGivenNames -merge x1
    have hx1 : State.Sound x1 := (sound_State_countIf _ _ _ _ _ (sound_State_countIf _ _ _ _ _ h2))
    clear_value x1
    exact (sound_State_countIf _ _ _ _ _ hx1)

theorem sound_deskewPut : ∀ a0 a1 a2 a3 a4 a5, State.Sound a5 →
    State.Sound (deskewPut a0 a1 a2 a3 a4 a5) := by
  intro a0 a1 a2 a3 a4 a5 h5
  unfold deskewPut
  extract_lets +onlyGivenNames -merge x0
  extract_lets +onlyGivenNames -merge x1
  have hx1 : State.Sound x1 := (sound_State_count _ _ _ _ _ h5)
  clear_value x1
  refine ite_holds (P := State.Sound) ?_ ?_
  · exact (sound_State_count _ _ _ _ _ hx1)
  · split
    · rename_i v2 heq3
      have hv2 : State.Sound v2 := holds_eq (P := (Snd State.Sound)) heq3 (by
          exact (sound_reserveTurn _ _ _ _ hx1))
      exact (sound_State_count _ _ _ _ _ (sound_State_count _ _ _ _ _ hv2))
    · rename_i v4 heq5
      have hv4 : State.Sound v4 := holds_eq (P := (Snd State.Sound)) heq5 (by
          exact (sound_reserveTurn _ _ _ _ hx1))
      split
      · rename_i v6 v7 heq8
        have hv7 : State.Sound v7 := holds_eq (P := (Snd State.Sound)) heq8 (by
            exact (sound_allocRsv _ _ hv4))
        exact (State.sound_mk hv7.regs hv7.shadow hv7.cnts hv7.tot hv7.hold hv7.pairs hv7.ctl hv7.host hv7.hlt
            hv7.nvm hv7.cls hv7.time hv7.tbl hv7.leaf hv7.xbar hv7.buf hv7.tm (SkySt.sound_mk hv7.sky.lanes
            hv7.sky.traces hv7.sky.pairs hv7.sky.reseq hv7.sky.wrr hv7.sky.wrr0 hv7.sky.rounds hv7.sky.offered
            hv7.sky.used hv7.sky.offeredLast hv7.sky.usedLast hv7.sky.spare hv7.sky.cands hv7.sky.inForce))

theorem sound_drain : ∀ a0 a1 a2 a3 a4, State.Sound a4 →
    Snd State.Sound (drain a0 a1 a2 a3 a4) := by
  intro src c n
  induction n with
  | zero => exact fun r s h => h
  | succ n ih =>
    intro r s h
    unfold drain
    split
    · exact h
    · exact ih _ _ (sound_assemble _ _ _ _ _ h)

theorem sound_resolve : ∀ a0 a1 a2 a3, State.Sound a3 →
    Snd State.Sound (resolve a0 a1 a2 a3) := by
  intro a0 a1 a2 a3 h3
  unfold resolve
  split
  · refine snd_holds (P := State.Sound) ?_
    exact h3
  · extract_lets +onlyGivenNames -merge x3
    have hx3 : State.Sound x3 := (sound_State_count _ _ _ _ _ h3)
    clear_value x3
    extract_lets +onlyGivenNames -merge x4
    have hx4 : State.Sound x4 := (sound_streamDrop _ _ _ _ hx3)
    clear_value x4
    split
    · rename_i v5 v6 heq7
      have hv6 : State.Sound v6 := holds_eq (P := (Snd State.Sound)) heq7 (by
          exact (sound_releaseOpen _ _ hx4))
      exact (sound_drain _ _ _ _ _ hv6)

theorem sound_onCell : ∀ a0 a1 a2, State.Sound a2 →
    State.Sound (onCell a0 a1 a2) := by
  intro a0 a1 a2 h2
  unfold onCell
  extract_lets +onlyGivenNames -merge x0
  extract_lets +onlyGivenNames -merge x1
  extract_lets +onlyGivenNames -merge x2
  extract_lets +onlyGivenNames -merge x3
  refine ite_holds (P := State.Sound) ?_ ?_
  · exact (sound_dropCell _ _ _ (sound_State_count _ _ _ _ _ h2))
  · extract_lets +onlyGivenNames -merge x4
    refine ite_holds (P := State.Sound) ?_ ?_
    · exact (sound_setReseq _ _ _ _ (sound_dropCell _ _ _ (sound_State_count _ _ _ _ _ h2)))
    · refine ite_holds (P := State.Sound) ?_ ?_
      · exact (sound_fault _ _ _ _ _ (sound_dropCell _ _ _ (sound_State_count _ _ _ _ _ h2)))
      · split
        · rename_i v5 v6 heq7
          have hv6 : State.Sound v6 := holds_eq (P := (Snd State.Sound)) heq7 (by
              refine ite_holds (P := (Snd State.Sound)) ?_ ?_
              · exact (sound_resolve _ _ _ _ (sound_State_count _ _ _ _ _ h2))
              · refine snd_holds (P := State.Sound) ?_
                exact h2)
          extract_lets +onlyGivenNames -merge x8
          have hx8 : State.Sound x8 := (sound_State_count _ _ _ _ _ hv6)
          clear_value x8
          extract_lets +onlyGivenNames -merge x9
          split
          · rename_i v10 v11 heq12
            have hv11 : State.Sound v11 := holds_eq (P := (Snd State.Sound)) heq12 (by
                exact (sound_drain _ _ _ _ _ hx8))
            exact (sound_setReseq _ _ _ _ hv11)

theorem sound_relayIn : ∀ a0 a1 a2, State.Sound a2 →
    State.Sound (relayIn a0 a1 a2) := by
  intro a0 a1 a2 h2
  unfold relayIn
  extract_lets +onlyGivenNames -merge x0
  extract_lets +onlyGivenNames -merge x1
  extract_lets +onlyGivenNames -merge x2
  extract_lets +onlyGivenNames -merge x3
  extract_lets +onlyGivenNames -merge x4
  have hx4 : State.Sound x4 := (sound_setPair _ _ _ h2)
  clear_value x4
  extract_lets +onlyGivenNames -merge x5
  extract_lets +onlyGivenNames -merge x6
  extract_lets +onlyGivenNames -merge x7
  refine ite_holds (P := State.Sound) ?_ ?_
  · exact (sound_fault _ _ _ _ _ (sound_dropCell _ _ _ (sound_State_count _ _ _ _ _ hx4)))
  · refine ite_holds (P := State.Sound) ?_ ?_
    · exact (sound_dropCell _ _ _ (sound_State_count _ _ _ _ _ hx4))
    · split
      · rename_i v8 v9 heq10
        have hv9 : State.Sound v9 := holds_eq (P := (Snd State.Sound)) heq10 (by
            exact (sound_spread _ _ _ hx4))
        exact (sound_feedPut _ _ _ hv9)

theorem sound_released : ∀ a0 a1, State.Sound a1 →
    State.Sound (released a0 a1) := by
  intro a0 a1 h1
  unfold released
  exact (ite_holds (P := State.Sound) (sound_relayIn _ _ _ h1) (sound_onCell _ _ _ h1))

theorem sound_deskewRelease : ∀ a0, State.Sound a0 →
    State.Sound (deskewRelease a0) := by
  intro a0 h0
  unfold deskewRelease
  split
  · exact h0
  · refine ite_holds (P := State.Sound) ?_ ?_
    · extract_lets +onlyGivenNames -merge x3
      extract_lets +onlyGivenNames -merge x4
      have hx4 : SkySt.Sound x4 := h0.sky
      clear_value x4
      extract_lets +onlyGivenNames -merge x5
      have hx5 : State.Sound x5 := (State.sound_mk h0.regs h0.shadow h0.cnts h0.tot h0.hold h0.pairs h0.ctl h0.host
          h0.hlt h0.nvm h0.cls h0.time h0.tbl h0.leaf h0.xbar h0.buf h0.tm (SkySt.sound_mk hx4.lanes hx4.traces
          hx4.pairs hx4.reseq hx4.wrr hx4.wrr0 hx4.rounds hx4.offered hx4.used hx4.offeredLast hx4.usedLast hx4.spare
          hx4.cands hx4.inForce))
      clear_value x5
      exact (foldl_holds (P := State.Sound) (fun _ _ hm6 => (sound_released _ _ hm6)) hx5)
    · exact h0

theorem sound_execDeskewRelease : ∀ a0, State.Sound a0 →
    ResHolds (execDeskewRelease a0) := by
  intro a0 h0
  unfold execDeskewRelease
  refine next_holds ?_
  refine sound_running _ _ ?_ h0
  · intro y0 hy0
    exact (sound_deskewRelease _ hy0)

theorem sound_laneRxlos : ∀ a0 a1, State.Sound a1 →
    State.Sound (laneRxlos a0 a1) := by
  intro a0 a1 h1
  unfold laneRxlos
  extract_lets +onlyGivenNames -merge x0
  exact (ite_holds (P := State.Sound) (sound_fault _ _ _ _ _ (sound_State_count _ _ _ _ _ (sound_putLaneBit _ _ _ _
      h1))) h1)

theorem sound_execLaneRxlos : ∀ a0 a1, State.Sound a1 →
    ResHolds (execLaneRxlos a0 a1) := by
  intro a0 a1 h1
  unfold execLaneRxlos
  refine next_holds ?_
  exact (sound_laneRxlos _ _ h1)

theorem sound_horizonExpiry : ∀ a0 a1 a2, State.Sound a2 →
    State.Sound (horizonExpiry a0 a1 a2) := by
  intro a0 a1 a2 h2
  unfold horizonExpiry
  extract_lets +onlyGivenNames -merge x0
  refine ite_holds (P := State.Sound) ?_ ?_
  · split
    · rename_i v1 v2 heq3
      have hv2 : State.Sound v2 := holds_eq (P := (Snd State.Sound)) heq3 (by
          exact (sound_resolve _ _ _ _ h2))
      exact (sound_setReseq _ _ _ _ hv2)
  · exact h2

theorem sound_execReseqHorizonExpiry : ∀ a0 a1 a2, State.Sound a2 →
    ResHolds (execReseqHorizonExpiry a0 a1 a2) := by
  intro a0 a1 a2 h2
  unfold execReseqHorizonExpiry
  refine next_holds ?_
  refine sound_running _ _ ?_ h2
  · intro y0 hy0
    exact (sound_horizonExpiry _ _ _ hy0)

theorem sound_noteSync : ∀ a0 a1 a2, State.Sound a2 →
    State.Sound (noteSync a0 a1 a2) := by
  intro a0 a1 a2 h2
  unfold noteSync
  extract_lets +onlyGivenNames -merge x0
  exact (ite_holds (P := State.Sound) (sound_putLaneBit _ _ _ _ (sound_setSlane _ _ _ h2)) h2)

theorem sound_takeCreditSpare : ∀ a0 a1 a2, State.Sound a2 →
    State.Sound (takeCreditSpare a0 a1 a2) := by
  intro a0 a1 a2 h2
  unfold takeCreditSpare
  extract_lets +onlyGivenNames -merge x0
  extract_lets +onlyGivenNames -merge x1
  extract_lets +onlyGivenNames -merge x2
  extract_lets +onlyGivenNames -merge x3
  have hx3 : State.Sound x3 := (ite_holds (P := State.Sound) h2 (sound_addCredit _ _ _ (sound_setPair _ _ _ h2)))
  clear_value x3
  exact (ite_holds (P := State.Sound) (State.sound_mk hx3.regs hx3.shadow hx3.cnts hx3.tot hx3.hold hx3.pairs hx3.ctl
      hx3.host hx3.hlt hx3.nvm hx3.cls hx3.time hx3.tbl hx3.leaf hx3.xbar hx3.buf hx3.tm (SkySt.sound_mk
      hx3.sky.lanes hx3.sky.traces hx3.sky.pairs hx3.sky.reseq hx3.sky.wrr hx3.sky.wrr0 hx3.sky.rounds
      hx3.sky.offered hx3.sky.used hx3.sky.offeredLast hx3.sky.usedLast (foldl_holds (P := (fun e => SMap.sorted e =
      true)) (fun _ _ hm4 => (SMap.sorted_put hm4 _ _ _)) hx3.sky.spare) hx3.sky.cands hx3.sky.inForce)) hx3)

theorem sound_takePosition : ∀ a0 a1 a2 a3 a4 a5, State.Sound a5 →
    State.Sound (takePosition a0 a1 a2 a3 a4 a5) := by
  intro a0 a1 a2 a3 a4 a5 h5
  unfold takePosition
  extract_lets +onlyGivenNames -merge x0
  extract_lets +onlyGivenNames -merge x1
  exact (ite_holds (P := State.Sound) (sound_State_count _ _ _ _ _ h5) (ite_holds (P := State.Sound)
      (sound_State_count _ _ _ _ _ h5) (sound_deskewPut _ _ _ _ _ _ h5)))

theorem sound_takeData : ∀ a0 a1 a2 a3 a4 a5, State.Sound a5 →
    State.Sound (takeData a0 a1 a2 a3 a4 a5) := by
  intro a0 a1 a2 a3 a4 a5 h5
  unfold takeData
  extract_lets +onlyGivenNames -merge x0
  extract_lets +onlyGivenNames -merge x1
  exact (ite_holds (P := State.Sound) (sound_State_count _ _ _ _ _ h5) (ite_holds (P := State.Sound) h5 (ite_holds (P
      := State.Sound) (sound_State_count _ _ _ _ _ h5) (foldl_holds (P := State.Sound) (fun _ _ hm2 =>
      (sound_takePosition _ _ _ _ _ _ hm2)) (sound_bufError _ _ _ (sound_countJust _ _ _ h5))))))

theorem sound_recoverCells : ∀ a0 a1 a2 a3, State.Sound a3 →
    State.Sound (recoverCells a0 a1 a2 a3) := by
  intro a0 a1 a2 a3 h3
  unfold recoverCells
  extract_lets +onlyGivenNames -merge x0
  extract_lets +onlyGivenNames -merge x1
  extract_lets +onlyGivenNames -merge x2
  exact (ite_holds (P := State.Sound) h3 (ite_holds (P := State.Sound) (sound_State_count _ _ _ _ _ (sound_relayOut _
      _ _ (sound_setPair _ _ _ h3))) (sound_ledgerFault _ _ _ _ _ h3)))

theorem sound_recoverGrants : ∀ a0 a1 a2 a3, State.Sound a3 →
    State.Sound (recoverGrants a0 a1 a2 a3) := by
  intro a0 a1 a2 a3 h3
  unfold recoverGrants
  extract_lets +onlyGivenNames -merge x0
  extract_lets +onlyGivenNames -merge x1
  extract_lets +onlyGivenNames -merge x2
  exact (ite_holds (P := State.Sound) h3 (ite_holds (P := State.Sound) (sound_State_count _ _ _ _ _ (sound_addCredit
      _ _ _ (sound_setPair _ _ _ h3))) (sound_ledgerFault _ _ _ _ _ h3)))

theorem sound_takeCredit : ∀ a0 a1 a2 a3, State.Sound a3 →
    State.Sound (takeCredit a0 a1 a2 a3) := by
  intro a0 a1 a2 a3 h3
  unfold takeCredit
  extract_lets +onlyGivenNames -merge x0
  extract_lets +onlyGivenNames -merge x1
  extract_lets +onlyGivenNames -merge x2
  refine ite_holds (P := State.Sound) ?_ ?_
  · exact (sound_State_count _ _ _ _ _ h3)
  · refine ite_holds (P := State.Sound) ?_ ?_
    · exact h3
    · extract_lets +onlyGivenNames -merge x3
      have hx3 : State.Sound x3 := (ite_holds (P := State.Sound) (sound_resetPair _ _ h3) h3)
      clear_value x3
      extract_lets +onlyGivenNames -merge x4
      extract_lets +onlyGivenNames -merge x5
      have hx5 : State.Sound x5 := (sound_setPair _ _ _ hx3)
      clear_value x5
      extract_lets +onlyGivenNames -merge x6
      have hx6 : State.Sound x6 := (sound_recoverCells _ _ _ _ (sound_recoverGrants _ _ _ _ hx5))
      clear_value x6
      exact (sound_setPair _ _ _ hx6)

theorem sound_takeHello : ∀ a0 a1 a2 a3, State.Sound a3 →
    State.Sound (takeHello a0 a1 a2 a3) := by
  intro a0 a1 a2 a3 h3
  unfold takeHello
  extract_lets +onlyGivenNames -merge x0
  refine ite_holds (P := State.Sound) ?_ ?_
  · extract_lets +onlyGivenNames -merge x1
    extract_lets +onlyGivenNames -merge x2
    have hx2 : State.Sound x2 := (sound_State_setFld _ _ _ _ _ (sound_State_setFld _ _ _ _ _ h3))
    clear_value x2
    extract_lets +onlyGivenNames -merge x3
    have hx3 : State.Sound x3 := (sound_State_setFld _ _ _ _ _ (sound_State_setFld _ _ _ _ _ hx2))
    clear_value x3
    extract_lets +onlyGivenNames -merge x4
    have hx4 : State.Sound x4 := (sound_State_setFld _ _ _ _ _ hx3)
    clear_value x4
    exact (sound_setPair _ _ _ hx4)
  · exact (sound_State_count _ _ _ _ _ h3)

theorem sound_takeSync : ∀ a0 a1 a2 a3 a4 a5 a6, State.Sound a6 →
    State.Sound (takeSync a0 a1 a2 a3 a4 a5 a6) := by
  intro a0 a1 a2 a3 a4 a5 a6 h6
  unfold takeSync
  extract_lets +onlyGivenNames -merge x0
  exact (ite_holds (P := State.Sound) (sound_takeTime _ _ _ _ _ _ h6) (ite_holds (P := State.Sound) (sound_takeHello
      _ _ _ _ h6) (ite_holds (P := State.Sound) (sound_takeCredit _ _ _ _ h6) h6)))

theorem sound_takeSyncBurst : ∀ a0 a1 a2 a3 a4, State.Sound a4 →
    State.Sound (takeSyncBurst a0 a1 a2 a3 a4) := by
  intro a0 a1 a2 a3 a4 h4
  unfold takeSyncBurst
  extract_lets +onlyGivenNames -merge x0
  extract_lets +onlyGivenNames -merge x1
  extract_lets +onlyGivenNames -merge x2
  extract_lets +onlyGivenNames -merge x3
  extract_lets +onlyGivenNames -merge x4
  have hx4 : State.Sound x4 := (sound_State_countIf _ _ _ _ _ h4)
  clear_value x4
  extract_lets +onlyGivenNames -merge x5
  have hx5 : State.Sound x5 := (sound_State_countIf _ _ _ _ _ hx4)
  clear_value x5
  extract_lets +onlyGivenNames -merge x6
  extract_lets +onlyGivenNames -merge x7
  have hx7 : State.Sound x7 := (sound_State_count _ _ _ _ _ hx5)
  clear_value x7
  exact (ite_holds (P := State.Sound) hx7 (foldl_holds (P := State.Sound) (fun _ _ hm8 => (sound_takeSync _ _ _ _ _ _
      _ hm8)) hx7))

theorem sound_setTrace : ∀ a0 a1 a2 a3, State.Sound a3 →
    State.Sound (setTrace a0 a1 a2 a3) := by
  intro a0 a1 a2 a3 h3
  unfold setTrace
  extract_lets +onlyGivenNames -merge x0
  extract_lets +onlyGivenNames -merge x1
  have hx1 : SkySt.Sound x1 := h3.sky
  clear_value x1
  extract_lets +onlyGivenNames -merge x2
  have hx2 : State.Sound x2 := (State.sound_mk h3.regs h3.shadow h3.cnts h3.tot h3.hold h3.pairs h3.ctl h3.host
      h3.hlt h3.nvm h3.cls h3.time h3.tbl h3.leaf h3.xbar h3.buf h3.tm (SkySt.sound_mk hx1.lanes (SMap.sorted_put
      h3.sky.traces _ _ _) hx1.pairs hx1.reseq hx1.wrr hx1.wrr0 hx1.rounds hx1.offered hx1.used hx1.offeredLast
      hx1.usedLast hx1.spare hx1.cands hx1.inForce))
  clear_value x2
  refine ite_holds (P := State.Sound) ?_ ?_
  · exact hx2
  · extract_lets +onlyGivenNames -merge x3
    subst x3
    beta_reduce
    extract_lets +onlyGivenNames -merge x4
    have hx4 : State.Sound x4 := (sound_State_setFld _ _ _ _ _ hx2)
    clear_value x4
    exact (sound_putLaneBit _ _ _ _ hx4)

theorem sound_takeTrace : ∀ a0 a1 a2 a3 a4, State.Sound a4 →
    State.Sound (takeTrace a0 a1 a2 a3 a4) := by
  intro a0 a1 a2 a3 a4 h4
  unfold takeTrace
  extract_lets +onlyGivenNames -merge x0
  extract_lets +onlyGivenNames -merge x1
  exact (ite_holds (P := State.Sound) (sound_setTrace _ _ _ _ h4) (ite_holds (P := State.Sound) (sound_offer _ _
      (sound_setTrace _ _ _ _ h4)) (ite_holds (P := State.Sound) (sound_setTrace _ _ _ _ h4) (sound_setTrace _ _ _ _
      h4))))

theorem sound_takeBurst : ∀ a0 a1 a2, State.Sound a2 →
    State.Sound (takeBurst a0 a1 a2) := by
  intro a0 a1 a2 h2
  unfold takeBurst
  extract_lets +onlyGivenNames -merge x0
  extract_lets +onlyGivenNames -merge x1
  extract_lets +onlyGivenNames -merge x2
  extract_lets +onlyGivenNames -merge x3
  extract_lets +onlyGivenNames -merge x4
  have hx4 : State.Sound x4 := (sound_takeTrace _ _ _ _ _ h2)
  clear_value x4
  extract_lets +onlyGivenNames -merge x5
  extract_lets +onlyGivenNames -merge x6
  have hx6 : State.Sound x6 := (ite_holds (P := State.Sound) hx4 (sound_takeCreditSpare _ _ _ hx4))
  clear_value x6
  extract_lets +onlyGivenNames -merge x7
  extract_lets +onlyGivenNames -merge x8
  refine ite_holds (P := State.Sound) ?_ ?_
  · exact (sound_State_count _ _ _ _ _ hx6)
  · refine ite_holds (P := State.Sound) ?_ ?_
    · exact (sound_State_count _ _ _ _ _ hx6)
    · extract_lets +onlyGivenNames -merge x9
      have hx9 : State.Sound x9 := (sound_State_count _ _ _ _ _ hx6)
      clear_value x9
      exact (ite_holds (P := State.Sound) (sound_takeSyncBurst _ _ _ _ _ hx9) (sound_takeData _ _ _ _ _ _ hx9))

theorem sound_skyBurstRx : ∀ a0 a1 a2, State.Sound a2 →
    State.Sound (skyBurstRx a0 a1 a2) := by
  intro a0 a1 a2 h2
  unfold skyBurstRx
  refine ite_holds (P := State.Sound) ?_ ?_
  · exact h2
  · extract_lets +onlyGivenNames -merge x0
    extract_lets +onlyGivenNames -merge x1
    extract_lets +onlyGivenNames -merge x2
    extract_lets +onlyGivenNames -merge x3
    have hx3 : State.Sound x3 := (sound_State_count _ _ _ _ _ h2)
    clear_value x3
    extract_lets +onlyGivenNames -merge x4
    have hx4 : State.Sound x4 := (sound_countClass _ _ _ hx3)
    clear_value x4
    refine ite_holds (P := State.Sound) ?_ ?_
    · exact (sound_State_count _ _ _ _ _ hx4)
    · extract_lets +onlyGivenNames -merge x5
      have hx5 : State.Sound x5 := (sound_noteSync _ _ _ hx4)
      clear_value x5
      extract_lets +onlyGivenNames -merge x6
      extract_lets +onlyGivenNames -merge x7
      exact (ite_holds (P := State.Sound) (sound_State_count _ _ _ _ _ hx5) (ite_holds (P := State.Sound)
          (sound_State_count _ _ _ _ _ hx5) (sound_takeBurst _ _ _ (sound_deskewAlarm _ _ _ hx5))))

theorem sound_execSkyBurstRx : ∀ a0 a1 a2, State.Sound a2 →
    ResHolds (execSkyBurstRx a0 a1 a2) := by
  intro a0 a1 a2 h2
  unfold execSkyBurstRx
  refine next_holds ?_
  refine sound_running _ _ ?_ h2
  · intro y0 hy0
    exact (sound_skyBurstRx _ _ _ hy0)

end Sys2Proof.Machine
end

