-- ==== Sys2Proof/Laws/SoundSystem.lean ====
section
/-!
SUPPORT. A sound state stays sound under the operations of these files of Machine: Locate, Clock, Reset, Power, Nvm, Ledger, SysBlock, Access, Step.
-/
namespace Sys2Proof.Machine

/-! ### Machine/Locate.lean -/

theorem sound_plain : ∀ a0 a1 a2 a3 a4, State.Sound a4 →
    State.Sound (plain a0 a1 a2 a3 a4) := by
  intro a0 a1 a2 a3 a4 h4
  unfold plain
  exact (ite_holds (P := State.Sound) (sound_State_setReg _ _ _ _ _ (sound_State_setShad _ _ _ _ _ h4))
      (sound_State_setReg _ _ _ _ _ h4))

/-! ### Machine/Clock.lean -/

theorem sound_advance : ∀ a0, State.Sound a0 →
    State.Sound (advance a0) := by
  intro a0 h0
  unfold advance
  extract_lets +onlyGivenNames -merge x0
  extract_lets +onlyGivenNames -merge x1
  exact (State.sound_mk h0.regs h0.shadow h0.cnts h0.tot h0.hold h0.pairs h0.ctl h0.host h0.hlt h0.nvm h0.cls
      (TimeSt.sound_mk h0.time.rx h0.time.offs h0.time.sums) h0.tbl h0.leaf h0.xbar h0.buf h0.tm (SkySt.sound_mk
      h0.sky.lanes h0.sky.traces h0.sky.pairs h0.sky.reseq h0.sky.wrr h0.sky.wrr0 h0.sky.rounds h0.sky.offered
      h0.sky.used h0.sky.offeredLast h0.sky.usedLast h0.sky.spare h0.sky.cands h0.sky.inForce))

theorem sound_cplStalls : ∀ a0, State.Sound a0 →
    State.Sound (cplStalls a0) := by
  intro a0 h0
  unfold cplStalls
  exact (ite_holds (P := State.Sound) (foldl_holds (P := State.Sound) (fun _ _ hm0 => (sound_State_countIf _ _ _ _ _
      hm0)) h0) h0)

theorem sound_creditStalls : ∀ a0, State.Sound a0 →
    State.Sound (creditStalls a0) := by
  intro a0 h0
  unfold creditStalls
  exact (foldl_holds (P := State.Sound) (fun _ _ hm0 => (sound_State_countIf _ _ _ _ _ hm0)) h0)

theorem sound_noteBeat : ∀ a0, State.Sound a0 →
    State.Sound (noteBeat a0) := by
  intro a0 h0
  unfold noteBeat
  exact (State.sound_mk h0.regs h0.shadow h0.cnts h0.tot h0.hold h0.pairs (CtlSt.sound_mk h0.ctl.msix h0.ctl.intAt
      h0.ctl.vcs h0.ctl.arbs h0.ctl.pols h0.ctl.accounts) h0.host h0.hlt h0.nvm h0.cls h0.time h0.tbl h0.leaf h0.xbar
      h0.buf h0.tm h0.sky)

theorem sound_heartbeat : ∀ a0, State.Sound a0 →
    State.Sound (heartbeat a0) := by
  intro a0 h0
  unfold heartbeat
  exact (ite_holds (P := State.Sound) (sound_noteBeat _ h0) (ite_holds (P := State.Sound)
      (sound_noteBeat _ (sound_State_setFld _ _ _ _ _ h0)) h0))

theorem sound_tick : ∀ a0, State.Sound a0 →
    State.Sound (tick a0) := by
  intro a0 h0
  unfold tick
  exact (sound_serveUnknown _ (sound_stallCount _ (sound_cplStalls _ (sound_creditStalls _ (sound_heartbeat _
      (sound_idlClock _ (sound_planeReturns _ (sound_advance _ h0))))))))

/-! ### Machine/Reset.lean -/

theorem sound_abandonAll : ∀ a0, State.Sound a0 →
    State.Sound (abandonAll a0) := by
  intro a0 h0
  unfold abandonAll
  exact (foldl_holds (P := State.Sound) (fun _ _ hm0 => (sound_abandonTx _ _ hm0)) h0)

theorem sound_showSlots : ∀ a0, State.Sound a0 →
    State.Sound (showSlots a0) := by
  intro a0 h0
  unfold showSlots
  extract_lets +onlyGivenNames -merge x0
  extract_lets +onlyGivenNames -merge x1
  exact (sound_State_setReg _ _ _ _ _ h0)

theorem sound_showFlash : ∀ a0, State.Sound a0 →
    State.Sound (showFlash a0) := by
  intro a0 h0
  unfold showFlash
  exact (sound_State_setReg _ _ _ _ _ (sound_showSlots _ h0))

theorem sound_showOrder : ∀ a0, State.Sound a0 →
    State.Sound (showOrder a0) := by
  intro a0 h0
  unfold showOrder
  exact (foldl_holds (P := State.Sound) (fun _ _ hm0 => (sound_State_setReg _ _ _ _ _ hm0)) h0)

theorem sound_keeperReset : ∀ a0, State.Sound a0 →
    State.Sound (keeperReset a0) := by
  intro a0 h0
  unfold keeperReset
  extract_lets +onlyGivenNames -merge x0
  extract_lets +onlyGivenNames -merge x1
  extract_lets +onlyGivenNames -merge x2
  subst x2
  beta_reduce
  extract_lets +onlyGivenNames -merge x3
  extract_lets +onlyGivenNames -merge x4
  extract_lets +onlyGivenNames -merge x5
  have hx5 : NvmSt.Sound x5 := h0.nvm
  clear_value x5
  extract_lets +onlyGivenNames -merge x6
  have hx6 : State.Sound x6 := (State.sound_mk (SMap.sorted_keep h0.regs _) h0.shadow (SMap.sorted_keep h0.cnts _)
      h0.tot (SMap.sorted_keep h0.hold _) (SMap.sorted_keep h0.pairs _) (CtlSt.sound_mk SMap.sorted_nil
      SMap.sorted_nil SMap.sorted_nil SMap.sorted_nil SMap.sorted_nil h0.ctl.accounts) h0.host h0.hlt (NvmSt.sound_mk
      hx5.flash) h0.cls h0.time h0.tbl h0.leaf h0.xbar h0.buf h0.tm h0.sky)
  clear_value x6
  exact (sound_showOrder _ (sound_showFlash _ (sound_State_setReg _ _ _ _ _ hx6)))

theorem sound_fuseCut : ∀ a0, State.Sound a0 →
    State.Sound (fuseCut a0) := by
  intro a0 h0
  unfold fuseCut
  split
  · exact h0
  · extract_lets +onlyGivenNames -merge x4
    extract_lets +onlyGivenNames -merge x5
    exact (State.sound_mk h0.regs h0.shadow h0.cnts h0.tot h0.hold h0.pairs h0.ctl h0.host h0.hlt (NvmSt.sound_mk
        h0.nvm.flash) h0.cls h0.time h0.tbl h0.leaf h0.xbar h0.buf h0.tm h0.sky)

theorem sound_showFixed : ∀ a0, State.Sound a0 →
    State.Sound (showFixed a0) := by
  intro a0 h0
  unfold showFixed
  extract_lets +onlyGivenNames -merge x0
  have hx0 : State.Sound x0 := (sound_State_setReg _ _ _ _ _ h0)
  clear_value x0
  extract_lets +onlyGivenNames -merge x1
  have hx1 : State.Sound x1 := (sound_State_setReg _ _ _ _ _ (sound_showUsed _ hx0))
  clear_value x1
  exact (ite_holds (P := State.Sound) (sound_State_setReg _ _ _ _ _ hx1) hx1)

/-- The kind policers of a reset switch die are in order. -/
theorem sorted_idlPolsFull (s : State) : SMap.sorted (idlPolsFull s) = true :=
  foldl_holds (P := fun m => SMap.sorted m = true) (fun _ _ h => SMap.sorted_put h _ _ _) SMap.sorted_nil

theorem sound_switchReset : ∀ a0 a1, State.Sound a1 →
    State.Sound (switchReset a0 a1) := by
  intro a0 a1 h1
  unfold switchReset
  extract_lets +onlyGivenNames -merge x0
  have hx0 : State.Sound x0 := (sound_fuseCut _ h1)
  clear_value x0
  extract_lets +onlyGivenNames -merge x1
  subst x1
  beta_reduce
  exact (sound_showFixed _ (State.sound_mk (SMap.sorted_keep hx0.regs _) SMap.sorted_nil (SMap.sorted_keep hx0.cnts
      _) hx0.tot (SMap.sorted_keep hx0.hold _) (SMap.sorted_keep hx0.pairs _) (CtlSt.sound_mk hx0.ctl.msix
      hx0.ctl.intAt SMap.sorted_nil SMap.sorted_nil (sorted_idlPolsFull _) hx0.ctl.accounts) (HostSt.sound_mk
      SMap.sorted_nil hx0.host.mem hx0.host.ext SMap.sorted_nil) (HltSt.sound_mk SMap.sorted_nil SMap.sorted_nil
      SMap.sorted_nil SMap.sorted_nil SMap.sorted_nil SMap.sorted_nil hx0.hlt.flog) hx0.nvm (ClsSt.sound_mk
      SMap.sorted_nil SMap.sorted_nil SMap.sorted_nil SMap.sorted_nil SMap.sorted_nil) (TimeSt.sound_mk
      SMap.sorted_nil SMap.sorted_nil SMap.sorted_nil) (TblSt.sound_mk SMap.sorted_nil SMap.sorted_nil
      SMap.sorted_nil SMap.sorted_nil SMap.sorted_nil SMap.sorted_nil) (LeafSt.sound_mk SMap.sorted_nil
      SMap.sorted_nil SMap.sorted_nil SMap.sorted_nil SMap.sorted_nil SMap.sorted_nil) (XbarSt.sound_mk
      SMap.sorted_nil SMap.sorted_nil SMap.sorted_nil SMap.sorted_nil SMap.sorted_nil SMap.sorted_nil SMap.sorted_nil
      SMap.sorted_nil SMap.sorted_nil SMap.sorted_nil) (BufSt.sound_mk SMap.sorted_nil SMap.sorted_nil
      SMap.sorted_nil SMap.sorted_nil) (TmSt.sound_mk SMap.sorted_nil SMap.sorted_nil SMap.sorted_nil SMap.sorted_nil
      SMap.sorted_nil SMap.sorted_nil) (SkySt.sound_mk SMap.sorted_nil SMap.sorted_nil
      SMap.sorted_nil SMap.sorted_nil SMap.sorted_nil SMap.sorted_nil SMap.sorted_nil SMap.sorted_nil SMap.sorted_nil
      SMap.sorted_nil SMap.sorted_nil SMap.sorted_nil SMap.sorted_nil SMap.sorted_nil)))

theorem sound_railsDown : ∀ a0, State.Sound a0 →
    State.Sound (railsDown a0) := by
  intro a0 h0
  unfold railsDown
  extract_lets +onlyGivenNames -merge x0
  have hx0 : HostSt.Sound x0 := h0.host
  clear_value x0
  extract_lets +onlyGivenNames -merge x1
  have hx1 : State.Sound x1 := (sound_switchReset _ _ (State.sound_mk h0.regs h0.shadow h0.cnts h0.tot h0.hold
      h0.pairs h0.ctl (HostSt.sound_mk hx0.rings rfl hx0.ext hx0.txLast) h0.hlt h0.nvm h0.cls h0.time h0.tbl h0.leaf
      h0.xbar h0.buf h0.tm h0.sky))
  clear_value x1
  extract_lets +onlyGivenNames -merge x2
  have hx2 : State.Sound x2 := (sound_State_setFld _ _ _ _ _ (sound_State_setFld _ _ _ _ _ (sound_State_setFld _ _ _
      _ _ hx1)))
  clear_value x2
  exact (State.sound_mk hx2.regs hx2.shadow hx2.cnts hx2.tot hx2.hold hx2.pairs hx2.ctl hx2.host hx2.hlt
      (NvmSt.sound_mk hx2.nvm.flash) hx2.cls hx2.time hx2.tbl hx2.leaf hx2.xbar hx2.buf hx2.tm hx2.sky)

theorem sound_allDown : ∀ a0, State.Sound a0 →
    State.Sound (allDown a0) := by
  intro a0 h0
  unfold allDown
  extract_lets +onlyGivenNames -merge x0
  have hx0 : State.Sound x0 := (sound_keeperReset _ (sound_railsDown _ h0))
  clear_value x0
  extract_lets +onlyGivenNames -merge x1
  have hx1 : State.Sound x1 := (sound_State_setReg _ _ _ _ _ hx0)
  clear_value x1
  exact (State.sound_mk hx1.regs hx1.shadow hx1.cnts hx1.tot hx1.hold hx1.pairs hx1.ctl hx1.host hx1.hlt
      (NvmSt.sound_mk hx0.nvm.flash) hx1.cls hx1.time hx1.tbl hx1.leaf hx1.xbar hx1.buf hx1.tm hx1.sky)

theorem sound_checkpoint : ∀ a0 a1, State.Sound a1 →
    State.Sound (checkpoint a0 a1) := by
  intro a0 a1 h1
  unfold checkpoint
  exact (State.sound_mk h1.regs h1.shadow h1.cnts h1.tot h1.hold h1.pairs h1.ctl h1.host h1.hlt h1.nvm h1.cls h1.time
      h1.tbl h1.leaf h1.xbar h1.buf h1.tm h1.sky)

theorem sound_counterCheckpoint : ∀ a0, State.Sound a0 →
    State.Sound (counterCheckpoint a0) := by
  intro a0 h0
  unfold counterCheckpoint
  exact (sound_checkpoint _ _ h0)

theorem sound_darken : ∀ a0, State.Sound a0 →
    State.Sound (darken a0) := by
  intro a0 h0
  unfold darken
  extract_lets +onlyGivenNames -merge x0
  have hx0 : State.Sound x0 := (sound_State_setFld _ _ _ _ _ h0)
  clear_value x0
  exact (sound_counterCheckpoint _ (sound_abandonAll _ (sound_nvmStop _ _ hx0)))

theorem sound_coldReset : ∀ a0 a1, State.Sound a1 →
    State.Sound (coldReset a0 a1) := by
  intro a0 a1 h1
  unfold coldReset
  extract_lets +onlyGivenNames -merge x0
  extract_lets +onlyGivenNames -merge x1
  have hx1 : CtlSt.Sound x1 := h1.ctl
  clear_value x1
  extract_lets +onlyGivenNames -merge x2
  have hx2 : State.Sound x2 := (sound_darken _ h1)
  clear_value x2
  extract_lets +onlyGivenNames -merge x3
  have hx3 : HostSt.Sound x3 := hx2.host
  clear_value x3
  extract_lets +onlyGivenNames -merge x4
  have hx4 : State.Sound x4 := (sound_keeperReset _ (sound_switchReset _ _ (State.sound_mk hx2.regs hx2.shadow
      hx2.cnts hx2.tot hx2.hold hx2.pairs hx2.ctl (HostSt.sound_mk hx3.rings rfl hx3.ext hx3.txLast) hx2.hlt hx2.nvm
      hx2.cls hx2.time hx2.tbl hx2.leaf hx2.xbar hx2.buf hx2.tm hx2.sky)))
  clear_value x4
  exact (sound_noteReset _ _ _ _ hx1 (State.sound_mk hx4.regs hx4.shadow hx4.cnts hx4.tot hx4.hold hx4.pairs hx4.ctl
      hx4.host hx4.hlt hx4.nvm hx4.cls hx4.time hx4.tbl hx4.leaf hx4.xbar hx4.buf hx4.tm hx4.sky))

theorem sound_warmReset : ∀ a0 a1, State.Sound a1 →
    State.Sound (warmReset a0 a1) := by
  intro a0 a1 h1
  unfold warmReset
  extract_lets +onlyGivenNames -merge x0
  have hx0 : CtlSt.Sound x0 := h1.ctl
  clear_value x0
  extract_lets +onlyGivenNames -merge x1
  have hx1 : State.Sound x1 := (sound_bootLost _ (sound_switchReset _ _ (sound_darken _ h1)))
  clear_value x1
  extract_lets +onlyGivenNames -merge x2
  extract_lets +onlyGivenNames -merge x3
  have hx3 : NvmSt.Sound x3 := hx1.nvm
  clear_value x3
  extract_lets +onlyGivenNames -merge x4
  have hx4 : State.Sound x4 := (State.sound_mk hx1.regs hx1.shadow hx1.cnts hx1.tot hx1.hold hx1.pairs hx1.ctl
      hx1.host hx1.hlt (NvmSt.sound_mk hx3.flash) hx1.cls hx1.time hx1.tbl hx1.leaf hx1.xbar hx1.buf hx1.tm hx1.sky)
  clear_value x4
  exact (sound_noteReset _ _ _ _ hx0 hx4)

theorem sound_measured : ∀ a0 a1, State.Sound a1 →
    State.Sound (measured a0 a1) := by
  intro a0 a1 h1
  unfold measured
  extract_lets +onlyGivenNames -merge x0
  have hx0 : State.Sound x0 := (sound_State_setReg _ _ _ _ _ h1)
  clear_value x0
  extract_lets +onlyGivenNames -merge x1
  have hx1 : State.Sound x1 := (sound_State_setReg _ _ _ _ _ hx0)
  clear_value x1
  exact (foldl_holds (P := State.Sound) (fun _ _ hm2 => (sound_State_setReg _ _ _ _ _ hm2)) hx1)

theorem sound_execCounterCheckpoint : ∀ a0, State.Sound a0 →
    ResHolds (execCounterCheckpoint a0) := by
  intro a0 h0
  unfold execCounterCheckpoint
  refine next_holds ?_
  extract_lets +onlyGivenNames -merge x0
  exact (ite_holds (P := State.Sound) (sound_counterCheckpoint _ (State.sound_mk h0.regs h0.shadow h0.cnts h0.tot
      h0.hold h0.pairs h0.ctl h0.host h0.hlt h0.nvm h0.cls h0.time h0.tbl h0.leaf h0.xbar h0.buf h0.tm h0.sky)) h0)

theorem sound_sequence : ∀ a0 a1, State.Sound a1 →
    State.Sound (sequence a0 a1) := by
  intro a0 a1 h1
  unfold sequence
  refine ite_holds (P := State.Sound) ?_ ?_
  · extract_lets +onlyGivenNames -merge x0
    have hx0 : State.Sound x0 := (sound_State_setFld _ _ _ _ _ (sound_State_setFld _ _ _ _ _ h1))
    clear_value x0
    exact (sound_raiseNear _ _ (State.sound_mk hx0.regs hx0.shadow hx0.cnts hx0.tot hx0.hold hx0.pairs hx0.ctl
        hx0.host hx0.hlt hx0.nvm hx0.cls hx0.time hx0.tbl hx0.leaf hx0.xbar hx0.buf hx0.tm hx0.sky))
  · extract_lets +onlyGivenNames -merge x1
    have hx1 : State.Sound x1 := (sound_State_setFld _ _ _ _ _ h1)
    clear_value x1
    exact (State.sound_mk hx1.regs hx1.shadow hx1.cnts hx1.tot hx1.hold hx1.pairs hx1.ctl hx1.host hx1.hlt hx1.nvm
        hx1.cls hx1.time hx1.tbl hx1.leaf hx1.xbar hx1.buf hx1.tm hx1.sky)

/-! ### Machine/Power.lean -/

theorem sound_disableSky : ∀ a0, State.Sound a0 →
    State.Sound (disableSky a0) := by
  intro a0 h0
  unfold disableSky
  exact (sound_lanesStopped _ (foldl_holds (P := State.Sound) (fun _ _ hm0 => (sound_State_setFld _ _ _ _ _ hm0)) h0))

theorem sound_beginDusk : ∀ a0 a1 a2, State.Sound a2 →
    State.Sound (beginDusk a0 a1 a2) := by
  intro a0 a1 a2 h2
  unfold beginDusk
  extract_lets +onlyGivenNames -merge x0
  extract_lets +onlyGivenNames -merge x1
  have hx1 : State.Sound x1 := (ite_holds (P := State.Sound) (sound_keeperEvent _ _ _ _ h2) h2)
  clear_value x1
  extract_lets +onlyGivenNames -merge x2
  have hx2 : State.Sound x2 := (sound_raiseNear _ _ (sound_State_setFld _ _ _ _ _ (sound_State_setFld _ _ _ _ _ hx1)))
  clear_value x2
  extract_lets +onlyGivenNames -merge x3
  have hx3 : State.Sound x3 := (sound_nvmStop _ _ (sound_State_setFld _ _ _ _ _ hx2))
  clear_value x3
  extract_lets +onlyGivenNames -merge x4
  extract_lets +onlyGivenNames -merge x5
  extract_lets +onlyGivenNames -merge x6
  have hx6 : State.Sound x6 := (State.sound_mk hx3.regs hx3.shadow hx3.cnts hx3.tot hx3.hold hx3.pairs hx3.ctl
      hx3.host hx3.hlt hx3.nvm hx3.cls hx3.time hx3.tbl hx3.leaf hx3.xbar hx3.buf hx3.tm hx3.sky)
  clear_value x6
  exact (ite_holds (P := State.Sound) (sound_disableSky _ hx6) hx6)

theorem sound_writeLogs : ∀ a0 a1, State.Sound a1 →
    State.Sound (writeLogs a0 a1) := by
  intro n
  induction n with
  | zero => exact fun s h => h
  | succ n ih => exact fun s h => ih _ (sound_writeLog _ h)

theorem sound_busCollapse : ∀ a0, State.Sound a0 →
    State.Sound (busCollapse a0) := by
  intro a0 h0
  unfold busCollapse
  refine ite_holds (P := State.Sound) ?_ ?_
  · extract_lets +onlyGivenNames -merge x0
    extract_lets +onlyGivenNames -merge x1
    have hx1 : State.Sound x1 := (sound_allDown _ (sound_nvmStop _ _ (sound_writeLogs _ _ (sound_State_fresh _ h0))))
    clear_value x1
    exact (State.sound_mk hx1.regs hx1.shadow hx1.cnts hx1.tot hx1.hold hx1.pairs hx1.ctl hx1.host (HltSt.sound_mk
        hx1.hlt.wins hx1.hlt.winCfg hx1.hlt.bktAt hx1.hlt.led hx1.hlt.offs hx1.hlt.diffs hx1.hlt.flog) hx1.nvm
        hx1.cls hx1.time hx1.tbl hx1.leaf hx1.xbar hx1.buf hx1.tm hx1.sky)
  · exact h0

theorem sound_countShutdown : ∀ a0, State.Sound a0 →
    State.Sound (countShutdown a0) := by
  intro a0 h0
  unfold countShutdown
  split
  · exact h0
  · split
    · extract_lets +onlyGivenNames -merge x7
      have hx7 : State.Sound x7 := (sound_State_count _ _ _ _ _ h0)
      clear_value x7
      extract_lets +onlyGivenNames -merge x8
      have hx8 : State.Sound x8 := (sound_State_countIf _ _ _ _ _ hx7)
      clear_value x8
      exact (ite_holds (P := State.Sound) (sound_State_setFld _ _ _ _ _ (sound_State_count _ _ _ _ _ hx8)) hx8)
    · exact (sound_State_count _ _ _ _ _ h0)

theorem sound_darkenGroup : ∀ a0 a1, State.Sound a1 →
    State.Sound (darkenGroup a0 a1) := by
  intro a0 a1 h1
  unfold darkenGroup
  extract_lets +onlyGivenNames -merge x0
  have hx0 : State.Sound x0 := (foldl_holds (P := State.Sound) (fun _ _ hm1 => (ite_holds (P := State.Sound)
      (sound_linkDown _ _ (sound_cutRx _ _ _ hm1)) hm1)) h1)
  clear_value x0
  extract_lets +onlyGivenNames -merge x2
  have hx2 : LeafSt.Sound x2 := hx0.leaf
  clear_value x2
  extract_lets +onlyGivenNames -merge x3
  have hx3 : State.Sound x3 := (State.sound_mk hx0.regs hx0.shadow hx0.cnts hx0.tot hx0.hold hx0.pairs hx0.ctl
      hx0.host hx0.hlt hx0.nvm hx0.cls hx0.time hx0.tbl (LeafSt.sound_mk hx2.ports (SMap.sorted_keep hx0.leaf.lanes
      _) hx2.samples hx2.copies hx2.looks hx2.inLooks) hx0.xbar hx0.buf hx0.tm hx0.sky)
  clear_value x3
  exact (foldl_holds (P := State.Sound) (fun _ _ hm4 => (sound_setPort _ _ _ hm4)) hx3)

theorem sound_darkenLeaf : ∀ a0, State.Sound a0 →
    State.Sound (darkenLeaf a0) := by
  intro a0 h0
  unfold darkenLeaf
  exact (foldl_holds (P := State.Sound) (fun _ _ hm0 => (sound_darkenGroup _ _ hm0)) h0)

theorem sound_duskRails : ∀ a0 a1, State.Sound a1 →
    State.Sound (duskRails a0 a1) := by
  intro a0 a1 h1
  unfold duskRails
  extract_lets +onlyGivenNames -merge x0
  extract_lets +onlyGivenNames -merge x1
  have hx1 : State.Sound x1 := (sound_railsDown _ h1)
  clear_value x1
  refine ite_holds (P := State.Sound) ?_ ?_
  · exact (sound_allDown _ hx1)
  · refine ite_holds (P := State.Sound) ?_ ?_
    · exact (State.sound_mk hx1.regs hx1.shadow hx1.cnts hx1.tot hx1.hold hx1.pairs hx1.ctl hx1.host hx1.hlt hx1.nvm
        hx1.cls hx1.time hx1.tbl hx1.leaf hx1.xbar hx1.buf hx1.tm hx1.sky)
    · refine ite_holds (P := State.Sound) ?_ ?_
      · exact (sound_State_count _ _ _ _ _ hx1)
      · extract_lets +onlyGivenNames -merge x2
        have hx2 : State.Sound x2 := (sound_State_setFld _ _ _ _ _ (sound_allDown _ hx1))
        clear_value x2
        exact (State.sound_mk hx2.regs hx2.shadow hx2.cnts hx2.tot hx2.hold hx2.pairs hx2.ctl hx2.host hx2.hlt
            hx2.nvm hx2.cls hx2.time hx2.tbl hx2.leaf hx2.xbar hx2.buf hx2.tm hx2.sky)

theorem sound_duskCheckpointDone : ∀ a0, State.Sound a0 →
    State.Sound (duskCheckpointDone a0) := by
  intro a0 h0
  unfold duskCheckpointDone
  split
  · exact h0
  · refine ite_holds (P := State.Sound) ?_ ?_
    · extract_lets +onlyGivenNames -merge x3
      extract_lets +onlyGivenNames -merge x4
      extract_lets +onlyGivenNames -merge x5
      have hx5 : State.Sound x5 := (sound_State_setFld _ _ _ _ _ (sound_State_setFld _ _ _ _ _ h0))
      clear_value x5
      exact (sound_duskRails _ _ (State.sound_mk hx5.regs hx5.shadow hx5.cnts hx5.tot hx5.hold hx5.pairs hx5.ctl
          hx5.host hx5.hlt hx5.nvm hx5.cls hx5.time hx5.tbl hx5.leaf hx5.xbar hx5.buf hx5.tm hx5.sky))
    · exact h0

theorem sound_duskForwardStop : ∀ a0, State.Sound a0 →
    State.Sound (duskForwardStop a0) := by
  intro a0 h0
  unfold duskForwardStop
  split
  · exact h0
  · refine ite_holds (P := State.Sound) ?_ ?_
    · extract_lets +onlyGivenNames -merge x3
      have hx3 : State.Sound x3 := (sound_abandonAll _ h0)
      clear_value x3
      extract_lets +onlyGivenNames -merge x4
      extract_lets +onlyGivenNames -merge x5
      extract_lets +onlyGivenNames -merge x6
      have hx6 : State.Sound x6 := (State.sound_mk hx3.regs hx3.shadow hx3.cnts hx3.tot hx3.hold hx3.pairs hx3.ctl
          hx3.host hx3.hlt hx3.nvm hx3.cls hx3.time hx3.tbl hx3.leaf hx3.xbar hx3.buf hx3.tm hx3.sky)
      clear_value x6
      exact (sound_State_setFld _ _ _ _ _ (sound_checkpoint _ _ hx6))
    · exact h0

theorem sound_powerUp : ∀ a0 a1, State.Sound a1 →
    State.Sound (powerUp a0 a1) := by
  intro a0 a1 h1
  unfold powerUp
  extract_lets +onlyGivenNames -merge x0
  extract_lets +onlyGivenNames -merge x1
  have hx1 : State.Sound x1 := (sound_allDown _ h1)
  clear_value x1
  extract_lets +onlyGivenNames -merge x2
  have hx2 : State.Sound x2 := (ite_holds (P := State.Sound) (sound_State_setFld _ _ _ _ _ hx1) hx1)
  clear_value x2
  extract_lets +onlyGivenNames -merge x3
  have hx3 : HltSt.Sound x3 := hx2.hlt
  clear_value x3
  extract_lets +onlyGivenNames -merge x4
  extract_lets +onlyGivenNames -merge x5
  have hx5 : NvmSt.Sound x5 := hx2.nvm
  clear_value x5
  extract_lets +onlyGivenNames -merge x6
  have hx6 : State.Sound x6 := (State.sound_mk hx2.regs hx2.shadow hx2.cnts SMap.sorted_nil hx2.hold hx2.pairs
      hx2.ctl hx2.host (HltSt.sound_mk hx3.wins hx3.winCfg hx3.bktAt hx3.led hx3.offs hx3.diffs hx3.flog)
      (NvmSt.sound_mk hx5.flash) hx2.cls hx2.time hx2.tbl hx2.leaf hx2.xbar hx2.buf hx2.tm hx2.sky)
  clear_value x6
  extract_lets +onlyGivenNames -merge x7
  have hx7 : State.Sound x7 := (sound_countShutdown _ (sound_State_setFld _ _ _ _ _ (sound_State_setFld _ _ _ _ _
      hx6)))
  clear_value x7
  exact (sound_noteReset _ _ _ _ hx7.ctl (sound_measured _ _ hx7))

theorem sound_duskRestart : ∀ a0 a1, State.Sound a1 →
    State.Sound (duskRestart a0 a1) := by
  intro a0 a1 h1
  unfold duskRestart
  split
  · exact (ite_holds (P := State.Sound) (sound_powerUp _ _ h1) h1)
  · exact h1

theorem sound_endSteep : ∀ a0, State.Sound a0 →
    State.Sound (endSteep a0) := by
  intro a0 h0
  unfold endSteep
  extract_lets +onlyGivenNames -merge x0
  have hx0 : State.Sound x0 := (sound_State_count _ _ _ _ _ (sound_State_setFld _ _ _ _ _ (sound_State_setFld _ _ _ _
      _ h0)))
  clear_value x0
  extract_lets +onlyGivenNames -merge x1
  have hx1 : State.Sound x1 := (sound_State_setFld _ _ _ _ _ hx0)
  clear_value x1
  exact (State.sound_mk hx1.regs hx1.shadow hx1.cnts hx1.tot hx1.hold hx1.pairs hx1.ctl hx1.host hx1.hlt hx1.nvm
      hx1.cls hx1.time hx1.tbl hx1.leaf hx1.xbar hx1.buf hx1.tm hx1.sky)

theorem sound_execBusCollapse : ∀ a0, State.Sound a0 →
    ResHolds (execBusCollapse a0) := by
  intro a0 h0
  unfold execBusCollapse
  refine next_holds ?_
  exact (sound_busCollapse _ h0)

theorem sound_startDusk : ∀ a0 a1 a2, State.Sound a2 →
    State.Sound (startDusk a0 a1 a2) := by
  intro a0 a1 a2 h2
  unfold startDusk
  refine ite_holds (P := State.Sound) ?_ ?_
  · exact h2
  · split
    · exact (ite_holds (P := State.Sound) h2 (State.sound_mk h2.regs h2.shadow h2.cnts h2.tot h2.hold h2.pairs h2.ctl
        h2.host h2.hlt h2.nvm h2.cls h2.time h2.tbl h2.leaf h2.xbar h2.buf h2.tm h2.sky))
    · exact (sound_beginDusk _ _ _ h2)

theorem sound_execDusk : ∀ a0 a1, State.Sound a1 →
    ResHolds (execDusk a0 a1) := by
  intro a0 a1 h1
  unfold execDusk
  refine next_holds ?_
  exact (ite_holds (P := State.Sound) (sound_startDusk _ _ _ h1) h1)

theorem sound_execDuskCheckpointDone : ∀ a0, State.Sound a0 →
    ResHolds (execDuskCheckpointDone a0) := by
  intro a0 h0
  unfold execDuskCheckpointDone
  refine next_holds ?_
  exact (sound_duskCheckpointDone _ h0)

theorem sound_execDuskForwardStop : ∀ a0, State.Sound a0 →
    ResHolds (execDuskForwardStop a0) := by
  intro a0 h0
  unfold execDuskForwardStop
  refine next_holds ?_
  exact (sound_duskForwardStop _ h0)

theorem sound_execDuskRestart : ∀ a0 a1, State.Sound a1 →
    ResHolds (execDuskRestart a0 a1) := by
  intro a0 a1 h1
  unfold execDuskRestart
  refine next_holds ?_
  exact (sound_duskRestart _ _ h1)

theorem sound_fixtureRelease : ∀ a0 a1 a2, State.Sound a2 →
    State.Sound (fixtureRelease a0 a1 a2) := by
  intro a0 a1 a2 h2
  unfold fixtureRelease
  extract_lets +onlyGivenNames -merge x0
  extract_lets +onlyGivenNames -merge x1
  have hx1 : State.Sound x1 := (State.sound_mk h2.regs h2.shadow h2.cnts h2.tot h2.hold h2.pairs h2.ctl h2.host
      h2.hlt h2.nvm h2.cls h2.time h2.tbl h2.leaf h2.xbar h2.buf h2.tm h2.sky)
  clear_value x1
  exact (ite_holds (P := State.Sound) hx1 (ite_holds (P := State.Sound) (ite_holds (P := State.Sound) (sound_powerUp
      _ _ hx1) hx1) (ite_holds (P := State.Sound) (sound_logNear _ _ hx1) (ite_holds (P := State.Sound) hx1
      (sound_coldReset _ _ hx1)))))

theorem sound_execFixtureResetRelease : ∀ a0 a1 a2, State.Sound a2 →
    ResHolds (execFixtureResetRelease a0 a1 a2) := by
  intro a0 a1 a2 h2
  unfold execFixtureResetRelease
  refine next_holds ?_
  exact (sound_fixtureRelease _ _ _ h2)

theorem sound_keeperQuiet : ∀ a0, State.Sound a0 →
    State.Sound (keeperQuiet a0) := by
  intro a0 h0
  unfold keeperQuiet
  exact (ite_holds (P := State.Sound) (sound_skyTxEn _ _ (sound_State_count _ _ _ _ _ (sound_State_setFld _ _ _ _ _
      h0))) h0)

theorem sound_execMainsLoss : ∀ a0 a1, State.Sound a1 →
    ResHolds (execMainsLoss a0 a1) := by
  intro a0 a1 h1
  unfold execMainsLoss
  refine next_holds ?_
  exact (ite_holds (P := State.Sound) (sound_startDusk _ _ _ (sound_State_count _ _ _ _ _ (sound_State_setFld _ _ _ _
      _ h1))) h1)

theorem sound_ovenReady : ∀ a0, State.Sound a0 →
    State.Sound (ovenReady a0) := by
  intro a0 h0
  unfold ovenReady
  refine ite_holds (P := State.Sound) ?_ ?_
  · refine sound_running _ _ ?_ (sound_State_setFld _ _ _ _ _ h0)
    · intro y0 hy0
      exact (sound_skyTry _ hy0)
  · exact h0

theorem sound_execOvenOscillatorReady : ∀ a0, State.Sound a0 →
    ResHolds (execOvenOscillatorReady a0) := by
  intro a0 h0
  unfold execOvenOscillatorReady
  refine next_holds ?_
  exact (sound_ovenReady _ h0)

theorem sound_powerLimitClear : ∀ a0, State.Sound a0 →
    State.Sound (powerLimitClear a0) := by
  intro a0 h0
  unfold powerLimitClear
  split
  · exact (ite_holds (P := State.Sound) (sound_State_setFld _ _ _ _ _ h0) h0)
  · exact h0

theorem sound_execPowerLimitClear : ∀ a0, State.Sound a0 →
    ResHolds (execPowerLimitClear a0) := by
  intro a0 h0
  unfold execPowerLimitClear
  refine next_holds ?_
  exact (sound_powerLimitClear _ h0)

theorem sound_powerOn : ∀ a0 a1 a2, State.Sound a2 →
    State.Sound (powerOn a0 a1 a2) := by
  intro a0 a1 a2 h2
  unfold powerOn
  exact (ite_holds (P := State.Sound) (sound_powerUp _ _ h2) h2)

theorem sound_execPowerOn : ∀ a0 a1 a2, State.Sound a2 →
    ResHolds (execPowerOn a0 a1 a2) := by
  intro a0 a1 a2 h2
  unfold execPowerOn
  refine next_holds ?_
  exact (sound_powerOn _ _ _ h2)

theorem sound_quietAssert : ∀ a0, State.Sound a0 →
    State.Sound (quietAssert a0) := by
  intro a0 h0
  unfold quietAssert
  refine ite_holds (P := State.Sound) ?_ ?_
  · exact h0
  · extract_lets +onlyGivenNames -merge x0
    extract_lets +onlyGivenNames -merge x1
    have hx1 : State.Sound x1 := (State.sound_mk h0.regs h0.shadow h0.cnts h0.tot h0.hold h0.pairs h0.ctl h0.host
        h0.hlt h0.nvm h0.cls h0.time h0.tbl h0.leaf h0.xbar h0.buf h0.tm h0.sky)
    clear_value x1
    exact (ite_holds (P := State.Sound) (sound_keeperQuiet _ (sound_darkenLeaf _ hx1)) hx1)

theorem sound_execQuietAssert : ∀ a0, State.Sound a0 →
    ResHolds (execQuietAssert a0) := by
  intro a0 h0
  unfold execQuietAssert
  refine next_holds ?_
  exact (sound_quietAssert _ h0)

theorem sound_lightGroup : ∀ a0 a1, State.Sound a1 →
    State.Sound (lightGroup a0 a1) := by
  intro a0 a1 h1
  unfold lightGroup
  exact (foldl_holds (P := State.Sound) (fun _ _ hm0 => (sound_startLine _ _ hm0)) h1)

theorem sound_execQuietRelease : ∀ a0, State.Sound a0 →
    ResHolds (execQuietRelease a0) := by
  intro a0 h0
  unfold execQuietRelease
  refine next_holds ?_
  refine ite_holds (P := State.Sound) ?_ ?_
  · exact (foldl_holds (P := State.Sound) (fun _ _ hm1 => (sound_lightGroup _ _ hm1)) (with_base (P := State.Sound)
      (sound_State_setFld _ _ _ _ _ h0) (fun hb0 => (State.sound_mk hb0.regs hb0.shadow hb0.cnts hb0.tot hb0.hold
      hb0.pairs hb0.ctl hb0.host hb0.hlt hb0.nvm hb0.cls hb0.time hb0.tbl hb0.leaf hb0.xbar hb0.buf hb0.tm hb0.sky))))
  · exact h0

theorem sound_railFault : ∀ a0 a1 a2 a3, State.Sound a3 →
    State.Sound (railFault a0 a1 a2 a3) := by
  intro a0 a1 a2 a3 h3
  unfold railFault
  refine ite_holds (P := State.Sound) ?_ ?_
  · exact h3
  · extract_lets +onlyGivenNames -merge x0
    extract_lets +onlyGivenNames -merge x1
    have hx1 : State.Sound x1 := (sound_keeperEvent _ _ _ _ (sound_State_count _ _ _ _ _ h3))
    clear_value x1
    extract_lets +onlyGivenNames -merge x2
    extract_lets +onlyGivenNames -merge x3
    have hx3 : State.Sound x3 := (State.sound_mk hx1.regs hx1.shadow hx1.cnts hx1.tot hx1.hold hx1.pairs hx1.ctl
        hx1.host hx1.hlt hx1.nvm hx1.cls hx1.time hx1.tbl hx1.leaf hx1.xbar hx1.buf hx1.tm hx1.sky)
    clear_value x3
    extract_lets +onlyGivenNames -merge x4
    have hx4 : State.Sound x4 := (ite_holds (P := State.Sound) (sound_State_setFld _ _ _ _ _ hx3) hx3)
    clear_value x4
    exact (ite_holds (P := State.Sound) (sound_startDusk _ _ _ hx4) (sound_railsDown _ (sound_nvmStop _ _ hx4)))

theorem sound_execRailFault : ∀ a0 a1 a2 a3, State.Sound a3 →
    ResHolds (execRailFault a0 a1 a2 a3) := by
  intro a0 a1 a2 a3 h3
  unfold execRailFault
  refine next_holds ?_
  exact (sound_railFault _ _ _ _ h3)

theorem sound_railRetry : ∀ a0, State.Sound a0 →
    State.Sound (railRetry a0) := by
  intro a0 h0
  unfold railRetry
  split
  · exact (ite_holds (P := State.Sound) (sound_sequence _ _ (State.sound_mk h0.regs h0.shadow h0.cnts h0.tot h0.hold
      h0.pairs h0.ctl h0.host h0.hlt h0.nvm h0.cls h0.time h0.tbl h0.leaf h0.xbar h0.buf h0.tm h0.sky)) h0)
  · exact h0

theorem sound_execRailRetry : ∀ a0, State.Sound a0 →
    ResHolds (execRailRetry a0) := by
  intro a0 h0
  unfold execRailRetry
  refine next_holds ?_
  exact (sound_railRetry _ h0)

theorem sound_recoveryHold : ∀ a0, State.Sound a0 →
    State.Sound (recoveryHold a0) := by
  intro a0 h0
  unfold recoveryHold
  extract_lets +onlyGivenNames -merge x0
  extract_lets +onlyGivenNames -merge x1
  have hx1 : State.Sound x1 := (State.sound_mk h0.regs h0.shadow h0.cnts h0.tot h0.hold h0.pairs h0.ctl h0.host
      h0.hlt h0.nvm h0.cls h0.time h0.tbl h0.leaf h0.xbar h0.buf h0.tm h0.sky)
  clear_value x1
  refine ite_holds (P := State.Sound) ?_ ?_
  · extract_lets +onlyGivenNames -merge x2
    have hx2 : State.Sound x2 := (sound_State_setFld _ _ _ _ _ hx1)
    clear_value x2
    exact (State.sound_mk hx2.regs hx2.shadow hx2.cnts hx2.tot hx2.hold hx2.pairs hx2.ctl hx2.host hx2.hlt
        (NvmSt.sound_mk hx2.nvm.flash) hx2.cls hx2.time hx2.tbl hx2.leaf hx2.xbar hx2.buf hx2.tm hx2.sky)
  · exact hx1

theorem sound_execRecoveryHold : ∀ a0, State.Sound a0 →
    ResHolds (execRecoveryHold a0) := by
  intro a0 h0
  unfold execRecoveryHold
  refine next_holds ?_
  exact (sound_recoveryHold _ h0)

theorem sound_steepTimeout : ∀ a0, State.Sound a0 →
    State.Sound (steepTimeout a0) := by
  intro a0 h0
  unfold steepTimeout
  split
  · exact (ite_holds (P := State.Sound) (sound_keeperEvent _ _ _ _ (sound_State_count _ _ _ _ _ (State.sound_mk
      h0.regs h0.shadow h0.cnts h0.tot h0.hold h0.pairs h0.ctl h0.host h0.hlt h0.nvm h0.cls h0.time h0.tbl h0.leaf
      h0.xbar h0.buf h0.tm h0.sky))) h0)
  · exact h0

theorem sound_execSteepTimeout : ∀ a0, State.Sound a0 →
    ResHolds (execSteepTimeout a0) := by
  intro a0 h0
  unfold execSteepTimeout
  refine next_holds ?_
  exact (sound_steepTimeout _ h0)

theorem sound_powerLimit : ∀ a0 a1, State.Sound a1 →
    State.Sound (powerLimit a0 a1) := by
  intro a0 a1 h1
  unfold powerLimit
  refine ite_holds (P := State.Sound) ?_ ?_
  · extract_lets +onlyGivenNames -merge x0
    have hx0 : State.Sound x0 := (sound_State_countIf _ _ _ _ _ h1)
    clear_value x0
    extract_lets +onlyGivenNames -merge x1
    have hx1 : State.Sound x1 := (sound_State_setFld _ _ _ _ _ hx0)
    clear_value x1
    exact (State.sound_mk hx1.regs hx1.shadow hx1.cnts hx1.tot hx1.hold hx1.pairs hx1.ctl hx1.host hx1.hlt hx1.nvm
        hx1.cls hx1.time hx1.tbl hx1.leaf hx1.xbar hx1.buf hx1.tm hx1.sky)
  · exact (ite_holds (P := State.Sound) (State.sound_mk h1.regs h1.shadow h1.cnts h1.tot h1.hold h1.pairs h1.ctl
      h1.host h1.hlt h1.nvm h1.cls h1.time h1.tbl h1.leaf h1.xbar h1.buf h1.tm h1.sky) (State.sound_mk h1.regs
      h1.shadow h1.cnts h1.tot h1.hold h1.pairs h1.ctl h1.host h1.hlt h1.nvm h1.cls h1.time h1.tbl h1.leaf h1.xbar
      h1.buf h1.tm h1.sky))

theorem sound_setSimmer : ∀ a0 a1, State.Sound a1 →
    State.Sound (setSimmer a0 a1) := by
  intro a0 a1 h1
  unfold setSimmer
  extract_lets +onlyGivenNames -merge x0
  extract_lets +onlyGivenNames -merge x1
  extract_lets +onlyGivenNames -merge x2
  have hx2 : State.Sound x2 := (sound_raiseNear _ _ (sound_State_setFld _ _ _ _ _ (sound_State_setFld _ _ _ _ _ h1)))
  clear_value x2
  extract_lets +onlyGivenNames -merge x3
  have hx3 : State.Sound x3 := (sound_State_countIf _ _ _ _ _ (sound_State_countIf _ _ _ _ _ hx2))
  clear_value x3
  extract_lets +onlyGivenNames -merge x4
  extract_lets +onlyGivenNames -merge x5
  have hx5 : SkySt.Sound x5 := hx3.sky
  clear_value x5
  extract_lets +onlyGivenNames -merge x6
  have hx6 : State.Sound x6 := (State.sound_mk hx3.regs hx3.shadow hx3.cnts hx3.tot hx3.hold hx3.pairs hx3.ctl
      hx3.host hx3.hlt hx3.nvm hx3.cls hx3.time hx3.tbl hx3.leaf hx3.xbar hx3.buf hx3.tm (SkySt.sound_mk hx5.lanes
      hx5.traces hx5.pairs hx5.reseq hx5.wrr hx5.wrr0 hx5.rounds hx5.offered hx5.used hx5.offeredLast hx5.usedLast
      hx5.spare hx5.cands hx5.inForce))
  clear_value x6
  extract_lets +onlyGivenNames -merge x7
  have hx7 : State.Sound x7 := (foldl_holds (P := State.Sound) (fun _ _ hm8 => (sound_darkenGroup _ _ hm8)) hx6)
  clear_value x7
  extract_lets +onlyGivenNames -merge x9
  have hx9 : State.Sound x9 := (foldl_holds (P := State.Sound) (fun _ _ hm10 => (sound_lightGroup _ _ hm10)) hx7)
  clear_value x9
  exact (sound_showSpill _ (sound_lanesStopped _ hx9))

theorem sound_warm : ∀ a0 a1, State.Sound a1 →
    State.Sound (warm a0 a1) := by
  intro a0 a1 h1
  unfold warm
  exact (ite_holds (P := State.Sound) (ite_holds (P := State.Sound) (sound_endSteep _ h1) h1) (ite_holds (P :=
      State.Sound) (State.sound_mk h1.regs h1.shadow h1.cnts h1.tot h1.hold h1.pairs h1.ctl h1.host h1.hlt h1.nvm
      h1.cls h1.time h1.tbl h1.leaf h1.xbar h1.buf h1.tm h1.sky) (ite_holds (P := State.Sound) (State.sound_mk
      h1.regs h1.shadow h1.cnts h1.tot h1.hold h1.pairs h1.ctl h1.host h1.hlt h1.nvm h1.cls h1.time h1.tbl h1.leaf
      h1.xbar h1.buf h1.tm h1.sky) h1)))

theorem sound_thermalEvaluation : ∀ a0 a1, State.Sound a1 →
    State.Sound (thermalEvaluation a0 a1) := by
  intro a0 a1 h1
  unfold thermalEvaluation
  extract_lets +onlyGivenNames -merge x0
  refine ite_holds (P := State.Sound) ?_ ?_
  · extract_lets +onlyGivenNames -merge x1
    extract_lets +onlyGivenNames -merge x2
    have hx2 : State.Sound x2 := (sound_measured _ _ (State.sound_mk h1.regs h1.shadow h1.cnts h1.tot h1.hold
        h1.pairs h1.ctl h1.host h1.hlt h1.nvm h1.cls h1.time h1.tbl h1.leaf h1.xbar h1.buf h1.tm h1.sky))
    clear_value x2
    extract_lets +onlyGivenNames -merge x3
    have hx3 : State.Sound x3 := (sound_powerLimit _ _ (sound_warm _ _ hx2))
    clear_value x3
    extract_lets +onlyGivenNames -merge x4
    extract_lets +onlyGivenNames -merge x5
    exact (ite_holds (P := State.Sound) hx3 (sound_setSimmer _ _ hx3))
  · exact h1

theorem sound_execThermalEvaluation : ∀ a0 a1, State.Sound a1 →
    ResHolds (execThermalEvaluation a0 a1) := by
  intro a0 a1 h1
  unfold execThermalEvaluation
  refine next_holds ?_
  exact (sound_thermalEvaluation _ _ h1)

theorem sound_execThermalTrip : ∀ a0 a1, State.Sound a1 →
    ResHolds (execThermalTrip a0 a1) := by
  intro a0 a1 h1
  unfold execThermalTrip
  refine next_holds ?_
  exact (ite_holds (P := State.Sound) (sound_startDusk _ _ _ (sound_keeperEvent _ _ _ _ (State.sound_mk h1.regs
      h1.shadow h1.cnts h1.tot h1.hold h1.pairs h1.ctl h1.host h1.hlt h1.nvm h1.cls h1.time h1.tbl h1.leaf h1.xbar
      h1.buf h1.tm h1.sky))) h1)

/-! ### Machine/Nvm.lean -/

theorem sound_bootSlot : ∀ a0 a1, State.Sound a1 →
    State.Sound (bootSlot a0 a1) := by
  intro a0 a1 h1
  unfold bootSlot
  extract_lets +onlyGivenNames -merge x0
  extract_lets +onlyGivenNames -merge x1
  extract_lets +onlyGivenNames -merge x2
  have hx2 : NvmSt.Sound x2 := h1.nvm
  clear_value x2
  extract_lets +onlyGivenNames -merge x3
  have hx3 : State.Sound x3 := (State.sound_mk h1.regs h1.shadow h1.cnts h1.tot h1.hold h1.pairs h1.ctl h1.host
      h1.hlt (NvmSt.sound_mk hx2.flash) h1.cls h1.time h1.tbl h1.leaf h1.xbar h1.buf h1.tm h1.sky)
  clear_value x3
  exact (sound_showSlots _ hx3)

theorem sound_checkSlot : ∀ a0 a1 a2, State.Sound a2 →
    Snd State.Sound (checkSlot a0 a1 a2) := by
  intro a0 a1 a2 h2
  unfold checkSlot
  refine ite_holds (P := (Snd State.Sound)) ?_ ?_
  · refine snd_holds (P := State.Sound) ?_
    exact h2
  · refine snd_holds (P := State.Sound) ?_
    exact (sound_showSlots _ (sound_setSlot _ _ _ (sound_State_count _ _ _ _ _ h2)))

theorem sound_enterRecovery : ∀ a0, State.Sound a0 →
    State.Sound (enterRecovery a0) := by
  intro a0 h0
  unfold enterRecovery
  extract_lets +onlyGivenNames -merge x0
  have hx0 : State.Sound x0 := (sound_State_setFld _ _ _ _ _ h0)
  clear_value x0
  exact (State.sound_mk hx0.regs hx0.shadow hx0.cnts hx0.tot hx0.hold hx0.pairs hx0.ctl hx0.host hx0.hlt
      (NvmSt.sound_mk hx0.nvm.flash) hx0.cls hx0.time hx0.tbl hx0.leaf hx0.xbar hx0.buf hx0.tm hx0.sky)

theorem sound_setBoot : ∀ a0 a1 a2, State.Sound a2 →
    State.Sound (setBoot a0 a1 a2) := by
  intro a0 a1 a2 h2
  unfold setBoot
  extract_lets +onlyGivenNames -merge x0
  have hx0 : State.Sound x0 := (sound_State_setFld _ _ _ _ _ h2)
  clear_value x0
  exact (State.sound_mk hx0.regs hx0.shadow hx0.cnts hx0.tot hx0.hold hx0.pairs hx0.ctl hx0.host hx0.hlt
      (NvmSt.sound_mk h2.nvm.flash) hx0.cls hx0.time hx0.tbl hx0.leaf hx0.xbar hx0.buf hx0.tm hx0.sky)

theorem sound_bootActive : ∀ a0 a1, State.Sound a1 →
    State.Sound (bootActive a0 a1) := by
  intro a0 a1 h1
  unfold bootActive
  extract_lets +onlyGivenNames -merge x0
  split
  · rename_i v1 v2 heq3
    have hv2 : State.Sound v2 := holds_eq (P := (Snd State.Sound)) heq3 (by
        exact (sound_checkSlot _ _ _ h1))
    refine ite_holds (P := State.Sound) ?_ ?_
    · exact (sound_bootSlot _ _ hv2)
    · extract_lets +onlyGivenNames -merge x4
      refine ite_holds (P := State.Sound) ?_ ?_
      · split
        · rename_i v5 v6 heq7
          have hv6 : State.Sound v6 := holds_eq (P := (Snd State.Sound)) heq7 (by
              exact (sound_checkSlot _ _ _ hv2))
          exact (ite_holds (P := State.Sound) (sound_bootSlot _ _ (sound_setBoot _ _ _ (sound_setBoot _ _ _ hv6)))
              (sound_enterRecovery _ hv6))
      · exact (sound_enterRecovery _ hv2)

theorem sound_boot : ∀ a0 a1 a2, State.Sound a2 →
    State.Sound (boot a0 a1 a2) := by
  intro a0 a1 a2 h2
  unfold boot
  extract_lets +onlyGivenNames -merge x0
  subst x0
  refine ite_holds (P := State.Sound) ?_ ?_
  · refine ite_holds (P := State.Sound) ?_ ?_
    · exact (sound_enterRecovery _ (sound_setBoot _ _ _ h2))
    · refine ite_holds (P := State.Sound) ?_ ?_
      · extract_lets +onlyGivenNames -merge x1
        have hx1 : State.Sound x1 := (sound_setBoot _ _ _ h2)
        clear_value x1
        exact (sound_bootActive _ _ (sound_State_count _ _ _ _ _ (sound_setBoot _ _ _ hx1)))
      · exact (sound_bootActive _ _ h2)
  · exact h2

theorem sound_nvmErr : ∀ a0 a1, State.Sound a1 →
    State.Sound (nvmErr a0 a1) := by
  intro a0 a1 h1
  unfold nvmErr
  exact (sound_State_setFld _ _ _ _ _ (sound_State_setFld _ _ _ _ _ h1))

theorem sound_nvmTake : ∀ a0 a1, (∀ z0, State.Sound z0 → State.Sound (a0 z0)) → State.Sound a1 →
    State.Sound (nvmTake a0 a1) := by
  intro a0 a1 h0 h1
  unfold nvmTake
  refine ite_holds (P := State.Sound) ?_ ?_
  · refine ite_holds (P := State.Sound) ?_ ?_
    · exact (sound_nvmErr _ _ h1)
    · refine h0 _ h1

  · exact h1

theorem sound_nvmIdle : ∀ a0 a1, (∀ z0, State.Sound z0 → State.Sound (a0 z0)) → State.Sound a1 →
    State.Sound (nvmIdle a0 a1) := by
  intro a0 a1 h0 h1
  unfold nvmIdle
  refine sound_nvmTake _ _ ?_ h1
  · intro y0 hy0
    refine ite_holds (P := State.Sound) ?_ ?_
    · exact (sound_nvmErr _ _ hy0)
    · refine h0 _ hy0

theorem sound_nvmStart : ∀ a0 a1, State.Sound a1 →
    State.Sound (nvmStart a0 a1) := by
  intro a0 a1 h1
  unfold nvmStart
  extract_lets +onlyGivenNames -merge x0
  have hx0 : State.Sound x0 := (sound_State_setFld _ _ _ _ _ h1)
  clear_value x0
  exact (State.sound_mk hx0.regs hx0.shadow hx0.cnts hx0.tot hx0.hold hx0.pairs hx0.ctl hx0.host hx0.hlt
      (NvmSt.sound_mk h1.nvm.flash) hx0.cls hx0.time hx0.tbl hx0.leaf hx0.xbar hx0.buf hx0.tm hx0.sky)

theorem sound_cfgCommit : ∀ a0, State.Sound a0 →
    State.Sound (cfgCommit a0) := by
  intro a0 h0
  unfold cfgCommit
  refine sound_nvmIdle _ _ ?_ h0
  · intro y0 hy0
    exact (ite_holds (P := State.Sound) (sound_nvmStart _ _ (sound_showSlots _ (sound_setCopy _ _ _
        (sound_State_count _ _ _ _ _ hy0)))) (sound_nvmErr _ _ hy0))

theorem sound_startCommit : ∀ a0 a1 a2 a3 a4, State.Sound a4 →
    State.Sound (startCommit a0 a1 a2 a3 a4) := by
  intro a0 a1 a2 a3 a4 h4
  unfold startCommit
  exact (sound_nvmStart _ _ (sound_showSlots _ (sound_setSlot _ _ _ (sound_State_count _ _ _ _ _ h4))))

theorem sound_imageCommit : ∀ a0 a1, State.Sound a1 →
    State.Sound (imageCommit a0 a1) := by
  intro a0 a1 h1
  unfold imageCommit
  refine sound_nvmIdle _ _ ?_ h1
  · intro y0 hy0
    exact (ite_holds (P := State.Sound) (sound_nvmErr _ _ hy0) (ite_holds (P := State.Sound) (sound_nvmErr _ _ hy0)
        (sound_startCommit _ _ _ _ _ hy0)))

theorem sound_nvmAbort : ∀ a0, State.Sound a0 →
    State.Sound (nvmAbort a0) := by
  intro a0 h0
  unfold nvmAbort
  refine sound_nvmTake _ _ ?_ h0
  · intro y0 hy0
    exact (sound_nvmStop _ _ hy0)

theorem sound_nvmConfirm : ∀ a0, State.Sound a0 →
    State.Sound (nvmConfirm a0) := by
  intro a0 h0
  unfold nvmConfirm
  refine sound_nvmTake _ _ ?_ h0
  · intro y0 hy0
    exact (sound_State_setFld _ _ _ _ _ (sound_setBoot _ _ _ hy0))

theorem sound_nvmRead : ∀ a0, State.Sound a0 →
    State.Sound (nvmRead a0) := by
  intro a0 h0
  unfold nvmRead
  refine sound_nvmIdle _ _ ?_ h0
  · intro y0 hy0
    exact (ite_holds (P := State.Sound) (sound_nvmStart _ _ (sound_State_count _ _ _ _ _ hy0)) (sound_nvmErr _ _ hy0))

theorem sound_nvmRun : ∀ a0 a1, State.Sound a1 →
    State.Sound (nvmRun a0 a1) := by
  intro a0 a1 h1
  unfold nvmRun
  refine sound_nvmTake _ _ ?_ h1
  · intro y0 hy0
    exact (ite_holds (P := State.Sound) (sound_State_setFld _ _ _ _ _ (sound_State_setFld _ _ _ _ _ hy0))
        (sound_nvmErr _ _ hy0))

theorem sound_nvmDone : ∀ a0, State.Sound a0 →
    State.Sound (nvmDone a0) := by
  intro a0 h0
  unfold nvmDone
  exact (sound_State_setFld _ _ _ _ _ (sound_State_setFld _ _ _ _ _ (sound_State_setFld _ _ _ _ _ h0)))

theorem sound_nvmSwitch : ∀ a0 a1, State.Sound a1 →
    State.Sound (nvmSwitch a0 a1) := by
  intro a0 a1 h1
  unfold nvmSwitch
  refine sound_nvmIdle _ _ ?_ h1
  · intro y0 hy0
    refine ite_holds (P := State.Sound) ?_ ?_
    · extract_lets +onlyGivenNames -merge x1
      have hx1 : State.Sound x1 := (sound_setBoot _ _ _ (sound_setBoot _ _ _ hy0))
      clear_value x1
      exact (sound_nvmDone _ (State.sound_mk hx1.regs hx1.shadow hx1.cnts hx1.tot hx1.hold hx1.pairs hx1.ctl hx1.host
          hx1.hlt (NvmSt.sound_mk hx1.nvm.flash) hx1.cls hx1.time hx1.tbl hx1.leaf hx1.xbar hx1.buf hx1.tm hx1.sky))
    · exact (sound_nvmErr _ _ hy0)

theorem sound_nvmWrite : ∀ a0, State.Sound a0 →
    State.Sound (nvmWrite a0) := by
  intro a0 h0
  unfold nvmWrite
  refine sound_nvmIdle _ _ ?_ h0
  · intro y0 hy0
    exact (ite_holds (P := State.Sound) (sound_nvmStart _ _ (sound_State_count _ _ _ _ _ hy0)) (sound_nvmErr _ _ hy0))

theorem sound_nvmCmd : ∀ a0 a1, State.Sound a1 →
    State.Sound (nvmCmd a0 a1) := by
  intro a0 a1 h1
  unfold nvmCmd
  extract_lets +onlyGivenNames -merge x0
  split
  · exact (sound_nvmRead _ h1)
  · exact (sound_nvmWrite _ h1)
  · exact (sound_imageCommit _ _ h1)
  · exact (sound_nvmSwitch _ _ h1)
  · exact (sound_nvmConfirm _ h1)
  · exact (sound_cfgCommit _ h1)
  · exact (sound_nvmRun _ _ h1)
  · exact (sound_nvmAbort _ h1)
  · refine sound_nvmIdle _ _ ?_ h1
    · intro y11 hy11
      exact (sound_nvmErr _ _ hy11)

theorem sound_nvmFail : ∀ a0 a1, State.Sound a1 →
    State.Sound (nvmFail a0 a1) := by
  intro a0 a1 h1
  unfold nvmFail
  exact (sound_nvmErr _ _ (sound_State_setFld _ _ _ _ _ (sound_State_setFld _ _ _ _ _ h1)))

theorem sound_endCommit : ∀ a0 a1 a2, State.Sound a2 →
    State.Sound (endCommit a0 a1 a2) := by
  intro a0 a1 a2 h2
  unfold endCommit
  exact (ite_holds (P := State.Sound) (sound_nvmDone _ (sound_showSlots _ (sound_setSlot _ _ _ h2))) (sound_nvmFail _
      _ (sound_State_count _ _ _ _ _ (sound_showSlots _ (sound_setSlot _ _ _ h2)))))

theorem sound_dfuLoad : ∀ a0 a1 a2, State.Sound a2 →
    State.Sound (dfuLoad a0 a1 a2) := by
  intro a0 a1 a2 h2
  unfold dfuLoad
  refine ite_holds (P := State.Sound) ?_ ?_
  · split
    · exact h2
    · extract_lets +onlyGivenNames -merge x3
      extract_lets +onlyGivenNames -merge x4
      have hx4 : State.Sound x4 := (sound_endCommit _ _ _ (sound_nvmCopy _ _ _ (sound_State_count _ _ _ _ _ h2)))
      clear_value x4
      exact (ite_holds (P := State.Sound) (sound_setBoot _ _ _ (sound_setBoot _ _ _ hx4)) hx4)
  · exact h2

theorem sound_execAbort : ∀ a0 a1, State.Sound a1 →
    ResHolds (execAbort a0 a1) := by
  intro a0 a1 h1
  unfold execAbort
  refine next_holds ?_
  refine sound_near _ _ ?_ h1
  · intro y0 hy0
    exact (sound_nvmAbort _ hy0)

theorem sound_execBoot : ∀ a0 a1 a2, State.Sound a2 →
    ResHolds (execBoot a0 a1 a2) := by
  intro a0 a1 a2 h2
  unfold execBoot
  refine next_holds ?_
  exact (sound_boot _ _ _ h2)

theorem sound_execBootSelWrite : ∀ a0, State.Sound a0 →
    ResHolds (execBootSelWrite a0) := by
  intro a0 h0
  unfold execBootSelWrite
  refine next_holds ?_
  exact (ite_holds (P := State.Sound) (State.sound_mk h0.regs h0.shadow h0.cnts h0.tot h0.hold h0.pairs h0.ctl
      h0.host h0.hlt (NvmSt.sound_mk h0.nvm.flash) h0.cls h0.time h0.tbl h0.leaf h0.xbar h0.buf h0.tm h0.sky) h0)

theorem sound_execCfgCommit : ∀ a0 a1, State.Sound a1 →
    ResHolds (execCfgCommit a0 a1) := by
  intro a0 a1 h1
  unfold execCfgCommit
  refine next_holds ?_
  refine sound_near _ _ ?_ h1
  · intro y0 hy0
    exact (sound_cfgCommit _ hy0)

theorem sound_execConfirm : ∀ a0 a1, State.Sound a1 →
    ResHolds (execConfirm a0 a1) := by
  intro a0 a1 h1
  unfold execConfirm
  refine next_holds ?_
  refine sound_near _ _ ?_ h1
  · intro y0 hy0
    exact (sound_nvmConfirm _ hy0)

theorem sound_execDfuImageLoad : ∀ a0 a1 a2, State.Sound a2 →
    ResHolds (execDfuImageLoad a0 a1 a2) := by
  intro a0 a1 a2 h2
  unfold execDfuImageLoad
  refine next_holds ?_
  exact (sound_dfuLoad _ _ _ h2)

theorem sound_execImageCommit : ∀ a0 a1 a2, State.Sound a2 →
    ResHolds (execImageCommit a0 a1 a2) := by
  intro a0 a1 a2 h2
  unfold execImageCommit
  refine next_holds ?_
  refine sound_near _ _ ?_ h2
  · intro y0 hy0
    exact (sound_imageCommit _ _ hy0)

theorem sound_startRails : ∀ a0, State.Sound a0 →
    State.Sound (startRails a0) := by
  intro a0 h0
  unfold startRails
  split
  · exact (sound_sequence _ _ (State.sound_mk h0.regs h0.shadow h0.cnts h0.tot h0.hold h0.pairs h0.ctl h0.host h0.hlt
      h0.nvm h0.cls h0.time h0.tbl h0.leaf h0.xbar h0.buf h0.tm h0.sky))
  · exact h0

theorem sound_keeperRuns : ∀ a0 a1, State.Sound a1 →
    State.Sound (keeperRuns a0 a1) := by
  intro a0 a1 h1
  unfold keeperRuns
  extract_lets +onlyGivenNames -merge x0
  extract_lets +onlyGivenNames -merge x1
  have hx1 : NvmSt.Sound x1 := h1.nvm
  clear_value x1
  extract_lets +onlyGivenNames -merge x2
  have hx2 : State.Sound x2 := (sound_showSlots _ (State.sound_mk h1.regs h1.shadow h1.cnts h1.tot h1.hold h1.pairs
      h1.ctl h1.host h1.hlt (NvmSt.sound_mk hx1.flash) h1.cls h1.time h1.tbl h1.leaf h1.xbar h1.buf h1.tm h1.sky))
  clear_value x2
  exact (sound_startRails _ (sound_keeperQuiet _ (sound_State_setFld _ _ _ _ _ hx2)))

theorem sound_keeperFallback : ∀ a0, State.Sound a0 →
    State.Sound (keeperFallback a0) := by
  intro a0 h0
  unfold keeperFallback
  split
  · extract_lets +onlyGivenNames -merge x2
    exact (ite_holds (P := State.Sound) (sound_keeperRuns _ _ h0) h0)
  · exact h0

theorem sound_execKeeperFwFallback : ∀ a0, State.Sound a0 →
    ResHolds (execKeeperFwFallback a0) := by
  intro a0 h0
  unfold execKeeperFwFallback
  refine next_holds ?_
  exact (sound_keeperFallback _ h0)

theorem sound_keeperLoad : ∀ a0 a1 a2, State.Sound a2 →
    State.Sound (keeperLoad a0 a1 a2) := by
  intro a0 a1 a2 h2
  unfold keeperLoad
  refine ite_holds (P := State.Sound) ?_ ?_
  · split
    · exact (sound_keeperRuns _ _ h2)
    · exact h2
  · exact h2

theorem sound_execKeeperFwLoad : ∀ a0 a1 a2, State.Sound a2 →
    ResHolds (execKeeperFwLoad a0 a1 a2) := by
  intro a0 a1 a2 h2
  unfold execKeeperFwLoad
  refine next_holds ?_
  exact (sound_keeperLoad _ _ _ h2)

theorem sound_nvmOpComplete : ∀ a0 a1, State.Sound a1 →
    State.Sound (nvmOpComplete a0 a1) := by
  intro a0 a1 h1
  unfold nvmOpComplete
  split
  · exact h1
  · extract_lets +onlyGivenNames -merge x3
    have hx3 : NvmSt.Sound x3 := h1.nvm
    clear_value x3
    extract_lets +onlyGivenNames -merge x4
    have hx4 : State.Sound x4 := (State.sound_mk h1.regs h1.shadow h1.cnts h1.tot h1.hold h1.pairs h1.ctl h1.host
        h1.hlt (NvmSt.sound_mk hx3.flash) h1.cls h1.time h1.tbl h1.leaf h1.xbar h1.buf h1.tm h1.sky)
    clear_value x4
    refine ite_holds (P := State.Sound) ?_ ?_
    · exact (sound_nvmFail _ _ (sound_State_countIf _ _ _ _ _ (sound_State_count _ _ _ _ _ (sound_nvmCut _ _ hx4))))
    · extract_lets +onlyGivenNames -merge x5
      have hx5 : State.Sound x5 := (sound_nvmCopy _ _ _ hx4)
      clear_value x5
      exact (ite_holds (P := State.Sound) (sound_endCommit _ _ _ hx5) (ite_holds (P := State.Sound) (sound_nvmDone _
          (sound_showSlots _ (sound_setCopy _ _ _ hx5))) (sound_nvmDone _ hx5)))

theorem sound_execNvmOpComplete : ∀ a0 a1, State.Sound a1 →
    ResHolds (execNvmOpComplete a0 a1) := by
  intro a0 a1 h1
  unfold execNvmOpComplete
  refine next_holds ?_
  exact (sound_nvmOpComplete _ _ h1)

theorem sound_execNvmRead : ∀ a0 a1, State.Sound a1 →
    ResHolds (execNvmRead a0 a1) := by
  intro a0 a1 h1
  unfold execNvmRead
  refine next_holds ?_
  refine sound_near _ _ ?_ h1
  · intro y0 hy0
    exact (sound_nvmRead _ hy0)

theorem sound_execNvmWrite : ∀ a0 a1, State.Sound a1 →
    ResHolds (execNvmWrite a0 a1) := by
  intro a0 a1 h1
  unfold execNvmWrite
  refine next_holds ?_
  refine sound_near _ _ ?_ h1
  · intro y0 hy0
    exact (sound_nvmWrite _ hy0)

theorem sound_execRun : ∀ a0 a1 a2, State.Sound a2 →
    ResHolds (execRun a0 a1 a2) := by
  intro a0 a1 a2 h2
  unfold execRun
  refine next_holds ?_
  refine sound_near _ _ ?_ h2
  · intro y0 hy0
    exact (sound_nvmRun _ _ hy0)

theorem sound_execSwitch : ∀ a0 a1 a2, State.Sound a2 →
    ResHolds (execSwitch a0 a1 a2) := by
  intro a0 a1 a2 h2
  unfold execSwitch
  refine next_holds ?_
  refine sound_near _ _ ?_ h2
  · intro y0 hy0
    exact (sound_nvmSwitch _ _ hy0)

theorem sound_trialExpiry : ∀ a0, State.Sound a0 →
    State.Sound (trialExpiry a0) := by
  intro a0 h0
  unfold trialExpiry
  split
  · extract_lets +onlyGivenNames -merge x2
    exact (ite_holds (P := State.Sound) (sound_appRequest _ _ h0) h0)
  · exact h0

theorem sound_execTrialExpiry : ∀ a0, State.Sound a0 →
    ResHolds (execTrialExpiry a0) := by
  intro a0 h0
  unfold execTrialExpiry
  refine next_holds ?_
  exact (sound_trialExpiry _ h0)

theorem sound_updatePush : ∀ a0 a1, State.Sound a1 →
    State.Sound (updatePush a0 a1) := by
  intro a0 a1 h1
  unfold updatePush
  extract_lets +onlyGivenNames -merge x0
  exact (ite_holds (P := State.Sound) (sound_State_emit _ _ h1) (ite_holds (P := State.Sound) (sound_State_emit _ _
      h1) (sound_State_emit _ _ (sound_startCommit _ _ _ _ _ h1))))

theorem sound_execUpdateServicePush : ∀ a0 a1 a2, State.Sound a2 →
    ResHolds (execUpdateServicePush a0 a1 a2) := by
  intro a0 a1 a2 h2
  unfold execUpdateServicePush
  refine next_holds ?_
  refine sound_redfish _ _ _ ?_ h2
  · intro y0 hy0
    exact (sound_updatePush _ _ hy0)

/-! ### Machine/Ledger.lean -/

theorem sound_compareOne : ∀ a0 a1 a2 a3 a4, State.Sound a4 →
    State.Sound (compareOne a0 a1 a2 a3 a4) := by
  intro a0 a1 a2 a3 a4 h4
  unfold compareOne
  extract_lets +onlyGivenNames -merge x0
  extract_lets +onlyGivenNames -merge x1
  extract_lets +onlyGivenNames -merge x2
  extract_lets +onlyGivenNames -merge x3
  have hx3 : HltSt.Sound x3 := h4.hlt
  clear_value x3
  extract_lets +onlyGivenNames -merge x4
  have hx4 : State.Sound x4 := (State.sound_mk h4.regs h4.shadow h4.cnts h4.tot h4.hold h4.pairs h4.ctl h4.host
      (HltSt.sound_mk hx3.wins hx3.winCfg hx3.bktAt hx3.led hx3.offs (SMap.sorted_put h4.hlt.diffs _ _ _) hx3.flog)
      h4.nvm h4.cls h4.time h4.tbl h4.leaf h4.xbar h4.buf h4.tm h4.sky)
  clear_value x4
  exact (ite_holds (P := State.Sound) hx4 (sound_ledgerFault _ _ _ _ _ hx4))

theorem sound_rebaseOne : ∀ a0 a1 a2 a3, State.Sound a3 →
    State.Sound (rebaseOne a0 a1 a2 a3) := by
  intro a0 a1 a2 a3 h3
  unfold rebaseOne
  extract_lets +onlyGivenNames -merge x0
  have hx0 : State.Sound x0 := (sound_State_count _ _ _ _ _ h3)
  clear_value x0
  exact (State.sound_mk hx0.regs hx0.shadow hx0.cnts hx0.tot hx0.hold hx0.pairs hx0.ctl hx0.host (with_base (P :=
      HltSt.Sound) (sound_State_count _ _ _ _ _ h3).hlt (fun hb1 => (HltSt.sound_mk hb1.wins hb1.winCfg hb1.bktAt
      hb1.led (SMap.sorted_put h3.hlt.offs _ _ _) (SMap.sorted_put h3.hlt.diffs _ _ _) hb1.flog))) hx0.nvm hx0.cls
      hx0.time hx0.tbl hx0.leaf hx0.xbar hx0.buf hx0.tm hx0.sky)

theorem sound_checkOne : ∀ a0 a1 a2, State.Sound a2 →
    State.Sound (checkOne a0 a1 a2) := by
  intro a0 a1 a2 h2
  unfold checkOne
  refine ite_holds (P := State.Sound) ?_ ?_
  · exact h2
  · split
    · exact (ite_holds (P := State.Sound) (sound_rebaseOne _ _ _ _ h2) (ite_holds (P := State.Sound) h2
        (sound_compareOne _ _ _ _ _ h2)))

theorem sound_hltRebase : ∀ a0, State.Sound a0 →
    State.Sound (hltRebase a0) := by
  intro a0 h0
  unfold hltRebase
  exact (State.sound_mk h0.regs h0.shadow h0.cnts h0.tot h0.hold h0.pairs h0.ctl h0.host (HltSt.sound_mk h0.hlt.wins
      h0.hlt.winCfg h0.hlt.bktAt h0.hlt.led h0.hlt.offs h0.hlt.diffs h0.hlt.flog) h0.nvm h0.cls h0.time h0.tbl
      h0.leaf h0.xbar h0.buf h0.tm h0.sky)

theorem sound_excuseExpiry : ∀ a0, State.Sound a0 →
    State.Sound (excuseExpiry a0) := by
  intro a0 h0
  unfold excuseExpiry
  extract_lets +onlyGivenNames -merge x0
  refine ite_holds (P := State.Sound) ?_ ?_
  · exact h0
  · extract_lets +onlyGivenNames -merge x1
    extract_lets +onlyGivenNames -merge x2
    have hx2 : HltSt.Sound x2 := h0.hlt
    clear_value x2
    extract_lets +onlyGivenNames -merge x3
    have hx3 : State.Sound x3 := (State.sound_mk h0.regs h0.shadow h0.cnts h0.tot h0.hold h0.pairs h0.ctl h0.host
        (HltSt.sound_mk hx2.wins hx2.winCfg hx2.bktAt hx2.led hx2.offs hx2.diffs hx2.flog) h0.nvm h0.cls h0.time
        h0.tbl h0.leaf h0.xbar h0.buf h0.tm h0.sky)
    clear_value x3
    exact (sound_State_setFld _ _ _ _ _ hx3)

theorem sound_execExcuseExpiry : ∀ a0, State.Sound a0 →
    ResHolds (execExcuseExpiry a0) := by
  intro a0 h0
  unfold execExcuseExpiry
  refine next_holds ?_
  exact (sound_excuseExpiry _ h0)

theorem sound_execHltRebase : ∀ a0 a1, State.Sound a1 →
    ResHolds (execHltRebase a0 a1) := by
  intro a0 a1 h1
  unfold execHltRebase
  refine next_holds ?_
  refine sound_far _ _ _ ?_ h1
  · intro y0 hy0
    exact (sound_hltRebase _ hy0)

theorem sound_ledgerCheck : ∀ a0, State.Sound a0 →
    State.Sound (ledgerCheck a0) := by
  intro a0 h0
  unfold ledgerCheck
  extract_lets +onlyGivenNames -merge x0
  refine ite_holds (P := State.Sound) ?_ ?_
  · extract_lets +onlyGivenNames -merge x1
    have hx1 : HltSt.Sound x1 := h0.hlt
    clear_value x1
    extract_lets +onlyGivenNames -merge x2
    have hx2 : State.Sound x2 := (sound_State_count _ _ _ _ _ (State.sound_mk h0.regs h0.shadow h0.cnts h0.tot
        h0.hold h0.pairs h0.ctl h0.host (HltSt.sound_mk hx1.wins hx1.winCfg hx1.bktAt hx1.led hx1.offs hx1.diffs
        hx1.flog) h0.nvm h0.cls h0.time h0.tbl h0.leaf h0.xbar h0.buf h0.tm h0.sky))
    clear_value x2
    extract_lets +onlyGivenNames -merge x3
    have hx3 : State.Sound x3 := (foldl_holds (P := State.Sound) (fun _ _ hm4 => (foldl_holds (P := State.Sound) (fun
        _ _ hm5 => (sound_checkOne _ _ _ hm5)) hm4)) hx2)
    clear_value x3
    exact (State.sound_mk hx3.regs hx3.shadow hx3.cnts hx3.tot hx3.hold hx3.pairs hx3.ctl hx3.host (HltSt.sound_mk
        hx3.hlt.wins hx3.hlt.winCfg hx3.hlt.bktAt hx3.hlt.led hx3.hlt.offs hx3.hlt.diffs hx3.hlt.flog) hx3.nvm
        hx3.cls hx3.time hx3.tbl hx3.leaf hx3.xbar hx3.buf hx3.tm hx3.sky)
  · exact h0

theorem sound_execLedgerCheck : ∀ a0, State.Sound a0 →
    ResHolds (execLedgerCheck a0) := by
  intro a0 h0
  unfold execLedgerCheck
  refine next_holds ?_
  refine sound_running _ _ ?_ h0
  · intro y0 hy0
    exact (sound_ledgerCheck _ hy0)

/-! ### Machine/SysBlock.lean -/

theorem sound_applyGroups : ∀ a0 a1, State.Sound a1 →
    State.Sound (applyGroups a0 a1) := by
  intro a0 a1 h1
  unfold applyGroups
  extract_lets +onlyGivenNames -merge x0
  extract_lets +onlyGivenNames -merge x1
  subst x1
  beta_reduce
  extract_lets +onlyGivenNames -merge x2
  have hx2 : State.Sound x2 := (State.sound_mk (SMap.sorted_union (SMap.sorted_keep h1.regs _) _) h1.shadow h1.cnts
      h1.tot h1.hold h1.pairs h1.ctl h1.host h1.hlt h1.nvm h1.cls h1.time h1.tbl h1.leaf h1.xbar h1.buf h1.tm h1.sky)
  clear_value x2
  exact (sound_State_setReg _ _ _ _ _ hx2)

theorem sound_biasTake : ∀ a0 a1 a2, State.Sound a2 →
    State.Sound (biasTake a0 a1 a2) := by
  intro a0 a1 a2 h2
  unfold biasTake
  extract_lets +onlyGivenNames -merge x0
  extract_lets +onlyGivenNames -merge x1
  extract_lets +onlyGivenNames -merge x2
  have hx2 : State.Sound x2 := (sound_State_setReg _ _ _ _ _ (sound_State_fresh _ h2))
  clear_value x2
  exact (ite_holds (P := State.Sound) (sound_lanesStopped _ hx2) hx2)

theorem sound_clearBlock : ∀ a0 a1 a2, State.Sound a2 →
    State.Sound (clearBlock a0 a1 a2) := by
  intro a0 a1 a2 h2
  unfold clearBlock
  extract_lets +onlyGivenNames -merge x0
  subst x0
  extract_lets +onlyGivenNames -merge x1
  have hx1 : State.Sound x1 := (State.sound_mk (SMap.sorted_keep h2.regs _) (SMap.sorted_keep h2.shadow _) h2.cnts
      h2.tot h2.hold h2.pairs h2.ctl h2.host h2.hlt h2.nvm h2.cls h2.time h2.tbl h2.leaf h2.xbar h2.buf h2.tm h2.sky)
  clear_value x1
  exact (sound_State_setReg _ _ _ _ _ hx1)

theorem sound_resetHlt : ∀ a0, State.Sound a0 →
    State.Sound (resetHlt a0) := by
  intro a0 h0
  unfold resetHlt
  extract_lets +onlyGivenNames -merge x0
  have hx0 : State.Sound x0 := (sound_clearBlock _ _ _ h0)
  clear_value x0
  exact (State.sound_mk hx0.regs hx0.shadow hx0.cnts hx0.tot hx0.hold hx0.pairs hx0.ctl hx0.host (HltSt.sound_mk
      SMap.sorted_nil SMap.sorted_nil h0.hlt.bktAt h0.hlt.led SMap.sorted_nil SMap.sorted_nil h0.hlt.flog) hx0.nvm
      hx0.cls hx0.time hx0.tbl hx0.leaf hx0.xbar hx0.buf hx0.tm hx0.sky)

theorem sound_resetLeaf : ∀ a0, State.Sound a0 →
    State.Sound (resetLeaf a0) := by
  intro a0 h0
  unfold resetLeaf
  extract_lets +onlyGivenNames -merge x0
  have hx0 : State.Sound x0 := (foldl_holds (P := State.Sound) (fun _ _ hm1 => (sound_groupRestart _ _
      (sound_State_setReg _ _ _ _ _ hm1))) h0)
  clear_value x0
  exact (foldl_holds (P := State.Sound) (fun _ _ hm2 => (sound_State_setFld _ _ _ _ _ hm2)) (sound_clearBlock _ _ _
      hx0))

theorem sound_resetMir : ∀ a0, State.Sound a0 →
    State.Sound (resetMir a0) := by
  intro a0 h0
  unfold resetMir
  extract_lets +onlyGivenNames -merge x0
  have hx0 : State.Sound x0 := (sound_clearBlock _ _ _ h0)
  clear_value x0
  exact (State.sound_mk hx0.regs hx0.shadow hx0.cnts hx0.tot hx0.hold hx0.pairs hx0.ctl hx0.host hx0.hlt hx0.nvm
      hx0.cls hx0.time hx0.tbl (LeafSt.sound_mk h0.leaf.ports h0.leaf.lanes SMap.sorted_nil SMap.sorted_nil
      h0.leaf.looks h0.leaf.inLooks) hx0.xbar hx0.buf hx0.tm hx0.sky)

theorem sound_resetParse : ∀ a0, State.Sound a0 →
    State.Sound (resetParse a0) := by
  intro a0 h0
  unfold resetParse
  extract_lets +onlyGivenNames -merge x0
  have hx0 : State.Sound x0 := (sound_clearBlock _ _ _ h0)
  clear_value x0
  exact (State.sound_mk hx0.regs hx0.shadow hx0.cnts hx0.tot hx0.hold hx0.pairs hx0.ctl hx0.host hx0.hlt hx0.nvm
      (ClsSt.sound_mk SMap.sorted_nil SMap.sorted_nil SMap.sorted_nil SMap.sorted_nil h0.cls.flows) hx0.time hx0.tbl
      hx0.leaf hx0.xbar hx0.buf hx0.tm hx0.sky)

theorem sound_blockReset : ∀ a0 a1 a2, State.Sound a2 →
    State.Sound (blockReset a0 a1 a2) := by
  intro a0 a1 a2 h2
  unfold blockReset
  extract_lets +onlyGivenNames -merge x0
  subst x0
  exact (ite_holds (P := State.Sound) (sound_noteReset _ _ _ _ h2.ctl (sound_resetLeaf _ h2)) (ite_holds (P :=
      State.Sound) (sound_noteReset _ _ _ _ h2.ctl (sound_resetParse _ h2)) (ite_holds (P := State.Sound)
      (sound_noteReset _ _ _ _ h2.ctl (sound_resetMir _ h2)) (ite_holds (P := State.Sound) (sound_noteReset _ _ _ _
      h2.ctl (sound_resetHlt _ h2)) (sound_logWrite _ _ _ h2)))))

/-- Far offsets lie below near offsets. -/
theorem sorted_halves {α : Type} (a b : SMap α) (ha : SMap.sorted a = true) (hb : SMap.sorted b = true) :
    SMap.sorted (SMap.keep a isFar ++ SMap.keep b (fun k => !isFar k)) = true := by
  have hn := SMap.sorted_keep hb (fun k => !isFar k)
  have hlow : ∀ e ∈ SMap.keep b (fun k => !isFar k), controlBase ≤ e.1 := by
    intro e he
    have := (List.mem_filter.1 he).2
    simpa [isFar] using this
  generalize SMap.keep b (fun k => !isFar k) = n at hn hlow
  have hf : ∀ e ∈ SMap.keep a isFar, e.1 < controlBase := by
    intro e he
    have := (List.mem_filter.1 he).2
    simpa [isFar] using this
  have hs := SMap.sorted_keep ha isFar
  generalize SMap.keep a isFar = m at hs hf
  induction m with
  | nil => exact hn
  | cons e m ih =>
    obtain ⟨k, v⟩ := e
    obtain ⟨hk, hm⟩ := SMap.sorted_cons.1 hs
    have hkc := hf (k, v) List.mem_cons_self
    refine SMap.sorted_cons.2 ⟨?_, ih hm (fun e he => hf e (List.mem_cons_of_mem _ he))⟩
    intro e he
    rcases List.mem_append.1 he with he | he
    · exact hk e he
    · exact Nat.lt_of_lt_of_le hkc (hlow e he)

theorem sound_snapDone : ∀ a0, State.Sound a0 →
    State.Sound (snapDone a0) := by
  intro s h
  unfold snapDone
  exact ite_holds (P := State.Sound) (sound_State_setFld _ _ _ _ _ (sound_State_setFld _ _ _ _ _
    (sound_State_setFld _ _ _ _ _ (State.sound_mk h.regs h.shadow
      (ite_holds (P := (fun e => SMap.sorted e = true)) (SMap.sorted_keep h.cnts _) h.cnts) h.tot
      (sorted_halves _ _ h.hold h.cnts) h.pairs h.ctl h.host h.hlt h.nvm h.cls h.time h.tbl h.leaf h.xbar h.buf h.tm
      h.sky)))) h

theorem sound_optWrite : ∀ a0 a1, State.Sound a1 →
    State.Sound (optWrite a0 a1) := by
  intro a0 a1 h1
  unfold optWrite
  refine ite_holds (P := State.Sound) ?_ ?_
  · extract_lets +onlyGivenNames -merge x0
    have hx0 : State.Sound x0 := (sound_State_setFld _ _ _ _ _ h1)
    clear_value x0
    exact (State.sound_mk hx0.regs hx0.shadow hx0.cnts hx0.tot hx0.hold hx0.pairs hx0.ctl hx0.host hx0.hlt hx0.nvm
        hx0.cls hx0.time hx0.tbl hx0.leaf hx0.xbar hx0.buf hx0.tm hx0.sky)
  · exact (ite_holds (P := State.Sound) (State.sound_mk h1.regs h1.shadow h1.cnts h1.tot h1.hold h1.pairs h1.ctl
      h1.host h1.hlt h1.nvm h1.cls h1.time h1.tbl h1.leaf h1.xbar h1.buf h1.tm h1.sky) (sound_logWrite _ _ _ h1))

theorem sound_railWrite : ∀ a0 a1 a2, State.Sound a2 →
    State.Sound (railWrite a0 a1 a2) := by
  intro a0 a1 a2 h2
  unfold railWrite
  refine ite_holds (P := State.Sound) ?_ ?_
  · exact (sound_logNear _ _ h2)
  · refine ite_holds (P := State.Sound) ?_ ?_
    · extract_lets +onlyGivenNames -merge x0
      have hx0 : State.Sound x0 := (sound_State_setFld _ _ _ _ _ h2)
      clear_value x0
      exact (State.sound_mk hx0.regs hx0.shadow hx0.cnts hx0.tot hx0.hold hx0.pairs hx0.ctl hx0.host hx0.hlt hx0.nvm
          hx0.cls hx0.time hx0.tbl hx0.leaf hx0.xbar hx0.buf hx0.tm hx0.sky)
    · exact (ite_holds (P := State.Sound) (State.sound_mk h2.regs h2.shadow h2.cnts h2.tot h2.hold h2.pairs h2.ctl
        h2.host h2.hlt h2.nvm h2.cls h2.time h2.tbl h2.leaf h2.xbar h2.buf h2.tm h2.sky) (sound_logNear _ _ h2))

theorem sound_fuseCtrl : ∀ a0 a1, State.Sound a1 →
    State.Sound (fuseCtrl a0 a1) := by
  intro a0 a1 h1
  unfold fuseCtrl
  refine ite_holds (P := State.Sound) ?_ ?_
  · exact h1
  · refine ite_holds (P := State.Sound) ?_ ?_
    · exact (sound_logWrite _ _ _ h1)
    · extract_lets +onlyGivenNames -merge x0
      extract_lets +onlyGivenNames -merge x1
      have hx1 : State.Sound x1 := (State.sound_mk h1.regs h1.shadow h1.cnts h1.tot h1.hold h1.pairs h1.ctl h1.host
          h1.hlt h1.nvm h1.cls h1.time h1.tbl h1.leaf h1.xbar h1.buf h1.tm h1.sky)
      clear_value x1
      exact (sound_State_setFld _ _ _ _ _ hx1)

theorem sound_resetCtrl : ∀ a0 a1, State.Sound a1 →
    State.Sound (resetCtrl a0 a1) := by
  intro a0 a1 h1
  unfold resetCtrl
  extract_lets +onlyGivenNames -merge x0
  exact (ite_holds (P := State.Sound) h1 (ite_holds (P := State.Sound) (ite_holds (P := State.Sound) (sound_logWrite
      _ _ _ h1) (sound_logNear _ _ h1)) (ite_holds (P := State.Sound) h1 (ite_holds (P := State.Sound)
      (sound_coldReset _ _ h1) (ite_holds (P := State.Sound) (sound_warmReset _ _ h1) (ite_holds (P := State.Sound)
      (sound_appReset _ _ h1) (sound_blockReset _ _ _ h1)))))))

theorem sound_snapJoin : ∀ a0 a1, State.Sound a1 →
    State.Sound (snapJoin a0 a1) := by
  intro a0 a1 h1
  unfold snapJoin
  exact (ite_holds (P := State.Sound) (State.sound_mk h1.regs h1.shadow (SMap.sorted_keep h1.cnts _) h1.tot h1.hold
      h1.pairs h1.ctl h1.host h1.hlt h1.nvm h1.cls h1.time h1.tbl h1.leaf h1.xbar h1.buf h1.tm h1.sky) h1)

theorem sound_snapshot : ∀ a0 a1, State.Sound a1 →
    State.Sound (snapshot a0 a1) := by
  intro c s h
  unfold snapshot
  exact sound_State_setFld _ _ _ _ _ (sound_State_setFld _ _ _ _ _ (State.sound_mk h.regs h.shadow
      (ite_holds (P := (fun e => SMap.sorted e = true)) (SMap.sorted_keep h.cnts _) h.cnts) h.tot
      (sorted_halves _ _ h.cnts h.hold) h.pairs h.ctl h.host h.hlt h.nvm h.cls h.time h.tbl h.leaf h.xbar h.buf h.tm
      h.sky))

theorem sound_snapCtrl : ∀ a0 a1, State.Sound a1 →
    State.Sound (snapCtrl a0 a1) := by
  intro a0 a1 h1
  unfold snapCtrl
  extract_lets +onlyGivenNames -merge x0
  subst x0
  beta_reduce
  extract_lets +onlyGivenNames -merge x1
  refine ite_holds (P := State.Sound) ?_ ?_
  · refine ite_holds (P := State.Sound) ?_ ?_
    · exact (ite_holds (P := State.Sound) (sound_snapJoin _ _ (sound_State_setFld _ _ _ _ _ h1)) (sound_logWrite _ _
        _ h1))
    · extract_lets +onlyGivenNames -merge x2
      have hx2 : State.Sound x2 := (sound_State_setFld _ _ _ _ _ h1)
      clear_value x2
      exact (sound_snapshot _ _ (State.sound_mk hx2.regs hx2.shadow hx2.cnts hx2.tot hx2.hold hx2.pairs hx2.ctl
          hx2.host hx2.hlt hx2.nvm hx2.cls hx2.time hx2.tbl hx2.leaf hx2.xbar hx2.buf hx2.tm hx2.sky))
  · exact (sound_State_setFld _ _ _ _ _ h1)

theorem sound_disablePort : ∀ a0 a1, State.Sound a1 →
    State.Sound (disablePort a0 a1) := by
  intro a0 a1 h1
  unfold disablePort
  extract_lets +onlyGivenNames -merge x0
  have hx0 : State.Sound x0 := (sound_dropLanes _ _ (sound_linkDown _ _ (sound_cutRx _ _ _ h1)))
  clear_value x0
  exact (sound_setPort _ _ _ hx0)

theorem sound_newCtStart : ∀ a0 a1, State.Sound a1 →
    State.Sound (newCtStart a0 a1) := by
  intro a0 a1 h1
  unfold newCtStart
  exact (sound_State_setFld _ _ _ _ _ (sound_setPort _ _ _ h1))

theorem sound_newPauseMode : ∀ a0 a1, State.Sound a1 →
    State.Sound (newPauseMode a0 a1) := by
  intro a0 a1 h1
  unfold newPauseMode
  exact (sound_clearPause _ _ (sound_setPort _ _ _ h1))

theorem sound_portApplied : ∀ a0 a1 a2, State.Sound a0 → State.Sound a2 →
    State.Sound (portApplied a0 a1 a2) := by
  intro a0 a1 a2 h0 h2
  unfold portApplied
  extract_lets +onlyGivenNames -merge x0
  have hx0 : State.Sound x0 := (ite_holds (P := State.Sound) (sound_startLine _ _ h2) h2)
  clear_value x0
  extract_lets +onlyGivenNames -merge x1
  have hx1 : State.Sound x1 := (ite_holds (P := State.Sound) hx0 (sound_newCtStart _ _ hx0))
  clear_value x1
  extract_lets +onlyGivenNames -merge x2
  have hx2 : State.Sound x2 := (ite_holds (P := State.Sound) hx1 (sound_newPauseMode _ _ hx1))
  clear_value x2
  exact (foldl_holds (P := State.Sound) (fun _ _ hm3 => (sound_pauseSync _ _ _ hm3)) hx2)

theorem sound_follow : ∀ a0 a1, State.Sound a0 → State.Sound a1 →
    State.Sound (follow a0 a1) := by
  intro a0 a1 h0 h1
  unfold follow
  extract_lets +onlyGivenNames -merge x0
  subst x0
  beta_reduce
  extract_lets +onlyGivenNames -merge x1
  have hx1 : State.Sound x1 := h1
  clear_value x1
  extract_lets +onlyGivenNames -merge x2
  have hx2 : State.Sound x2 := (foldl_holds (P := State.Sound) (fun _ _ hm3 => (sound_disablePort _ _ hm3)) h1)
  clear_value x2
  extract_lets +onlyGivenNames -merge x4
  have hx4 : State.Sound x4 := (ite_holds (P := State.Sound) (foldl_holds (P := State.Sound) (fun _ _ hm5 =>
      (sound_portApplied _ _ _ h0 hm5)) hx2) hx2)
  clear_value x4
  extract_lets +onlyGivenNames -merge x6
  have hx6 : State.Sound x6 := (sound_showSpill _ (sound_planeSync _ hx4))
  clear_value x6
  extract_lets +onlyGivenNames -merge x7
  have hx7 : State.Sound x7 := (foldl_holds (P := State.Sound) (fun _ _ hm8 => (sound_boundSync _ _ hm8)) hx6)
  clear_value x7
  extract_lets +onlyGivenNames -merge x9
  have hx9 : LeafSt.Sound x9 := hx7.leaf
  clear_value x9
  extract_lets +onlyGivenNames -merge x10
  have hx10 : State.Sound x10 := (State.sound_mk hx7.regs hx7.shadow hx7.cnts hx7.tot hx7.hold hx7.pairs hx7.ctl
      hx7.host hx7.hlt hx7.nvm hx7.cls hx7.time hx7.tbl (LeafSt.sound_mk hx9.ports hx9.lanes hx9.samples
      (SMap.sorted_keep hx7.leaf.copies _) hx9.looks hx9.inLooks) hx7.xbar hx7.buf hx7.tm hx7.sky)
  clear_value x10
  exact (ite_holds (P := State.Sound) hx10 (State.sound_mk hx10.regs hx10.shadow hx10.cnts hx10.tot hx10.hold
      hx10.pairs hx10.ctl hx10.host hx10.hlt hx10.nvm hx10.cls hx10.time hx10.tbl hx10.leaf hx10.xbar hx10.buf
      (TmSt.sound_mk hx10.tm.queues hx10.tm.charge hx10.tm.shapers hx10.tm.pols hx10.tm.was
      hx10.tm.wxLog) hx10.sky))

theorem sound_strobe : ∀ a0 a1, State.Sound a1 →
    State.Sound (strobe a0 a1) := by
  intro a0 a1 h1
  unfold strobe
  exact (sound_follow _ _ h1 (sound_applyGroups _ _ (State.sound_mk h1.regs h1.shadow h1.cnts h1.tot h1.hold h1.pairs
      h1.ctl h1.host h1.hlt h1.nvm h1.cls h1.time h1.tbl h1.leaf h1.xbar h1.buf h1.tm h1.sky)))

theorem sound_strobeHi : ∀ a0 a1, State.Sound a1 →
    State.Sound (strobeHi a0 a1) := by
  intro a0 a1 h1
  unfold strobeHi
  exact (State.sound_mk h1.regs h1.shadow h1.cnts h1.tot h1.hold h1.pairs h1.ctl h1.host h1.hlt h1.nvm h1.cls h1.time
      h1.tbl h1.leaf h1.xbar h1.buf h1.tm h1.sky)

theorem sound_resetIssue : ∀ a0 a1, State.Sound a1 →
    State.Sound (resetIssue a0 a1) := by
  intro a0 a1 h1
  unfold resetIssue
  refine ite_holds (P := State.Sound) ?_ ?_
  · exact (sound_resetCtrl _ _ h1)
  · refine sound_far _ _ _ ?_ h1
    · intro y0 hy0
      exact (sound_resetCtrl _ _ hy0)

theorem sound_resetWrite : ∀ a0 a1, State.Sound a1 →
    State.Sound (resetWrite a0 a1) := by
  intro a0 a1 h1
  unfold resetWrite
  split
  · refine ite_holds (P := State.Sound) ?_ ?_
    · extract_lets +onlyGivenNames -merge x2
      have hx2 : CtlSt.Sound x2 := h1.ctl
      clear_value x2
      extract_lets +onlyGivenNames -merge x3
      have hx3 : State.Sound x3 := by
        subst x3
        refine sound_guarded _ _ _ ?_ (State.sound_mk h1.regs h1.shadow h1.cnts h1.tot h1.hold h1.pairs
            (CtlSt.sound_mk hx2.msix hx2.intAt hx2.vcs hx2.arbs hx2.pols hx2.accounts) h1.host h1.hlt h1.nvm h1.cls
            h1.time h1.tbl h1.leaf h1.xbar h1.buf h1.tm h1.sky)
        · intro y4 hy4
          exact (sound_resetIssue _ _ hy4)
      clear_value x3
      exact (State.sound_mk hx3.regs hx3.shadow hx3.cnts hx3.tot hx3.hold hx3.pairs (CtlSt.sound_mk hx3.ctl.msix
          hx3.ctl.intAt hx3.ctl.vcs hx3.ctl.arbs hx3.ctl.pols hx3.ctl.accounts) hx3.host hx3.hlt hx3.nvm hx3.cls
          hx3.time hx3.tbl hx3.leaf hx3.xbar hx3.buf hx3.tm hx3.sky)
    · refine sound_guarded _ _ _ ?_ h1
      · intro y5 hy5
        exact (sound_resetIssue _ _ hy5)
  · refine sound_guarded _ _ _ ?_ h1
    · intro y7 hy7
      exact (sound_resetIssue _ _ hy7)

theorem sound_resetValue : ∀ a0 a1 a2, State.Sound a2 →
    State.Sound (resetValue a0 a1 a2) := by
  intro a0 a1 a2 h2
  unfold resetValue
  exact (sound_resetWrite _ _ h2)

theorem sound_execAppDomainReset : ∀ a0 a1, State.Sound a1 →
    ResHolds (execAppDomainReset a0 a1) := by
  intro a0 a1 h1
  unfold execAppDomainReset
  refine next_holds ?_
  exact (sound_resetValue _ _ _ h1)

theorem sound_execBlockReset : ∀ a0 a1 a2, State.Sound a2 →
    ResHolds (execBlockReset a0 a1 a2) := by
  intro a0 a1 a2 h2
  unfold execBlockReset
  refine next_holds ?_
  exact (sound_resetValue _ _ _ h2)

theorem sound_execColdReset : ∀ a0 a1, State.Sound a1 →
    ResHolds (execColdReset a0 a1) := by
  intro a0 a1 h1
  unfold execColdReset
  refine next_holds ?_
  exact (sound_resetValue _ _ _ h1)

theorem sound_execFuseBlow : ∀ a0 a1 a2, State.Sound a2 →
    ResHolds (execFuseBlow a0 a1 a2) := by
  intro a0 a1 a2 h2
  unfold execFuseBlow
  extract_lets +onlyGivenNames -merge x0
  refine next_holds ?_
  refine sound_guarded _ _ _ ?_ h2
  · intro y1 hy1
    refine sound_far _ _ _ ?_ hy1
    · intro y2 hy2
      exact (sound_fuseCtrl _ _ hy2)

theorem sound_fuseDone : ∀ a0 a1, State.Sound a1 →
    State.Sound (fuseDone a0 a1) := by
  intro a0 a1 h1
  unfold fuseDone
  split
  · exact h1
  · extract_lets +onlyGivenNames -merge x4
    extract_lets +onlyGivenNames -merge x5
    extract_lets +onlyGivenNames -merge x6
    have hx6 : NvmSt.Sound x6 := h1.nvm
    clear_value x6
    extract_lets +onlyGivenNames -merge x7
    have hx7 : State.Sound x7 := (State.sound_mk h1.regs h1.shadow h1.cnts h1.tot h1.hold h1.pairs h1.ctl h1.host
        h1.hlt (NvmSt.sound_mk hx6.flash) h1.cls h1.time h1.tbl h1.leaf h1.xbar h1.buf h1.tm h1.sky)
    clear_value x7
    extract_lets +onlyGivenNames -merge x8
    have hx8 : State.Sound x8 := (sound_State_setFld _ _ _ _ _ (sound_State_setReg _ _ _ _ _ hx7))
    clear_value x8
    exact (ite_holds (P := State.Sound) hx8 (sound_State_setFld _ _ _ _ _ hx8))

theorem sound_execFuseBlowDone : ∀ a0 a1, State.Sound a1 →
    ResHolds (execFuseBlowDone a0 a1) := by
  intro a0 a1 h1
  unfold execFuseBlowDone
  refine next_holds ?_
  exact (sound_fuseDone _ _ h1)

theorem sound_keyTimeout : ∀ a0 a1, State.Sound a1 →
    State.Sound (keyTimeout a0 a1) := by
  intro a0 a1 h1
  unfold keyTimeout
  split
  · exact (ite_holds (P := State.Sound) (sound_setKey _ _ _ h1) h1)
  · exact h1

theorem sound_execKeyTimeout : ∀ a0 a1, State.Sound a1 →
    ResHolds (execKeyTimeout a0 a1) := by
  intro a0 a1 h1
  unfold execKeyTimeout
  refine next_holds ?_
  exact (sound_keyTimeout _ _ h1)

theorem sound_keyWrite : ∀ a0 a1, State.Sound a1 →
    State.Sound (keyWrite a0 a1) := by
  intro a0 a1 h1
  unfold keyWrite
  exact (ite_holds (P := State.Sound) (sound_setKey _ _ _ h1) (sound_logNear _ _ (sound_setKey _ _ _ h1)))

theorem sound_execKeyWrite : ∀ a0 a1 a2, State.Sound a2 →
    ResHolds (execKeyWrite a0 a1 a2) := by
  intro a0 a1 a2 h2
  unfold execKeyWrite
  refine next_holds ?_
  refine sound_near _ _ ?_ h2
  · intro y0 hy0
    exact (sound_keyWrite _ _ hy0)

theorem sound_execOptLaneBiasWrite : ∀ a0 a1 a2 a3, State.Sound a3 →
    ResHolds (execOptLaneBiasWrite a0 a1 a2 a3) := by
  intro a0 a1 a2 a3 h3
  unfold execOptLaneBiasWrite
  extract_lets +onlyGivenNames -merge x0
  refine next_holds ?_
  refine sound_guarded _ _ _ ?_ h3
  · intro y1 hy1
    refine sound_far _ _ _ ?_ hy1
    · intro y2 hy2
      exact (sound_optWrite _ _ hy2)

theorem sound_execRailSetWrite : ∀ a0 a1 a2 a3, State.Sound a3 →
    ResHolds (execRailSetWrite a0 a1 a2 a3) := by
  intro a0 a1 a2 a3 h3
  unfold execRailSetWrite
  extract_lets +onlyGivenNames -merge x0
  refine next_holds ?_
  refine sound_guarded _ _ _ ?_ h3
  · intro y1 hy1
    exact (sound_railWrite _ _ _ hy1)

theorem sound_execResetKindNone : ∀ a0 a1 a2, State.Sound a2 →
    ResHolds (execResetKindNone a0 a1 a2) := by
  intro a0 a1 a2 h2
  unfold execResetKindNone
  refine next_holds ?_
  exact (sound_resetValue _ _ _ h2)

theorem sound_optDone : ∀ a0 a1, State.Sound a1 →
    State.Sound (optDone a0 a1) := by
  intro a0 a1 h1
  unfold optDone
  split
  · exact h1
  · extract_lets +onlyGivenNames -merge x4
    extract_lets +onlyGivenNames -merge x5
    have hx5 : State.Sound x5 := (sound_State_setFld _ _ _ _ _ (State.sound_mk h1.regs h1.shadow h1.cnts h1.tot
        h1.hold h1.pairs h1.ctl h1.host h1.hlt h1.nvm h1.cls h1.time h1.tbl h1.leaf h1.xbar h1.buf h1.tm h1.sky))
    clear_value x5
    split
    · exact (sound_biasTake _ _ _ hx5)
    · exact (sound_State_setFld _ _ _ _ _ hx5)

theorem sound_railDone : ∀ a0 a1, State.Sound a1 →
    State.Sound (railDone a0 a1) := by
  intro a0 a1 h1
  unfold railDone
  split
  · exact h1
  · extract_lets +onlyGivenNames -merge x4
    extract_lets +onlyGivenNames -merge x5
    have hx5 : State.Sound x5 := (sound_State_setFld _ _ _ _ _ (State.sound_mk h1.regs h1.shadow h1.cnts h1.tot
        h1.hold h1.pairs h1.ctl h1.host h1.hlt h1.nvm h1.cls h1.time h1.tbl h1.leaf h1.xbar h1.buf h1.tm h1.sky))
    clear_value x5
    split
    · exact (sound_State_setReg _ _ _ _ _ hx5)
    · exact (sound_State_setFld _ _ _ _ _ hx5)

theorem sound_execSlowWriteDone : ∀ a0 a1 a2, State.Sound a2 →
    ResHolds (execSlowWriteDone a0 a1 a2) := by
  intro a0 a1 a2 h2
  unfold execSlowWriteDone
  refine next_holds ?_
  split
  · refine sound_running _ _ ?_ h2
    · intro y1 hy1
      exact (sound_optDone _ _ hy1)
  · exact (sound_railDone _ _ h2)

theorem sound_execSnapshotDone : ∀ a0, State.Sound a0 →
    ResHolds (execSnapshotDone a0) := by
  intro a0 h0
  unfold execSnapshotDone
  refine next_holds ?_
  exact (sound_snapDone _ h0)

theorem sound_execSnapshotTake : ∀ a0 a1 a2 a3, State.Sound a3 →
    ResHolds (execSnapshotTake a0 a1 a2 a3) := by
  intro a0 a1 a2 a3 h3
  unfold execSnapshotTake
  extract_lets +onlyGivenNames -merge x0
  refine next_holds ?_
  refine sound_far _ _ _ ?_ h3
  · intro y1 hy1
    exact (sound_snapCtrl _ _ hy1)

theorem sound_execUpdateStrobe : ∀ a0 a1 a2, State.Sound a2 →
    ResHolds (execUpdateStrobe a0 a1 a2) := by
  intro a0 a1 a2 h2
  unfold execUpdateStrobe
  refine next_holds ?_
  refine sound_far _ _ _ ?_ h2
  · intro y0 hy0
    exact (sound_strobe _ _ hy0)

theorem sound_execUpdateStrobeHi : ∀ a0 a1 a2, State.Sound a2 →
    ResHolds (execUpdateStrobeHi a0 a1 a2) := by
  intro a0 a1 a2 h2
  unfold execUpdateStrobeHi
  refine next_holds ?_
  refine sound_far _ _ _ ?_ h2
  · intro y0 hy0
    exact (sound_strobeHi _ _ hy0)

theorem sound_execWarmReset : ∀ a0 a1, State.Sound a1 →
    ResHolds (execWarmReset a0 a1) := by
  intro a0 a1 h1
  unfold execWarmReset
  refine next_holds ?_
  exact (sound_resetValue _ _ _ h1)

/-! ### Machine/Access.lean -/

theorem sound_capture : ∀ a0 a1 a2 a3, State.Sound a3 →
    State.Sound (capture a0 a1 a2 a3) := by
  intro a0 a1 a2 a3 h3
  unfold capture
  exact (State.sound_mk h3.regs h3.shadow h3.cnts h3.tot h3.hold (SMap.sorted_put h3.pairs _ _ _) h3.ctl h3.host
      h3.hlt h3.nvm h3.cls h3.time h3.tbl h3.leaf h3.xbar h3.buf h3.tm h3.sky)

theorem sound_counterLow : ∀ a0 a1 a2 a3, State.Sound a3 →
    Snd State.Sound (counterLow a0 a1 a2 a3) := by
  intro a0 a1 a2 a3 h3
  unfold counterLow
  extract_lets +onlyGivenNames -merge x0
  extract_lets +onlyGivenNames -merge x1
  have hx1 : State.Sound x1 := (ite_holds (P := State.Sound) (sound_snapDone _ h3) h3)
  clear_value x1
  extract_lets +onlyGivenNames -merge x2
  extract_lets +onlyGivenNames -merge x3
  extract_lets +onlyGivenNames -merge x4
  have hx4 : State.Sound x4 := (ite_holds (P := State.Sound) (sound_capture _ _ _ _ hx1) hx1)
  clear_value x4
  refine snd_holds (P := State.Sound) ?_
  exact (ite_holds (P := State.Sound) (State.sound_mk hx4.regs hx4.shadow (SMap.sorted_put hx4.cnts _ _ _) hx4.tot
      hx4.hold hx4.pairs hx4.ctl hx4.host hx4.hlt hx4.nvm hx4.cls hx4.time hx4.tbl hx4.leaf hx4.xbar hx4.buf hx4.tm
      hx4.sky) hx4)

theorem sound_readWord : ∀ a0 a1 a2 a3, State.Sound a3 →
    Snd State.Sound (readWord a0 a1 a2 a3) := by
  intro a0 a1 a2 a3 h3
  unfold readWord
  refine ite_holds (P := (Snd State.Sound)) ?_ ?_
  · refine snd_holds (P := State.Sound) ?_
    exact h3
  · refine ite_holds (P := (Snd State.Sound)) ?_ ?_
    · exact (sound_counterLow _ _ _ _ h3)
    · refine ite_holds (P := (Snd State.Sound)) ?_ ?_
      · refine snd_holds (P := State.Sound) ?_
        exact h3
      · split
        · refine snd_holds (P := State.Sound) ?_
          exact (ite_holds (P := State.Sound) (sound_capture _ _ _ _ h3) h3)
        · split
          · refine snd_holds (P := State.Sound) ?_
            exact h3
          · refine snd_holds (P := State.Sound) ?_
            exact (ite_holds (P := State.Sound) (sound_State_fresh _ h3) h3)

theorem sound_takeRead : ∀ a0 a1, State.Sound a1 →
    State.Sound (takeRead a0 a1) := by
  intro a0 a1 h1
  unfold takeRead
  extract_lets +onlyGivenNames -merge x0
  refine ite_holds (P := State.Sound) ?_ ?_
  · split
    · rename_i v1 v2 heq3
      have hv2 : State.Sound v2 := holds_eq (P := (Snd State.Sound)) heq3 (by
          exact (sound_readWord _ _ _ _ h1))
      split
      · rename_i v4 v5 heq6
        have hv5 : State.Sound v5 := holds_eq (P := (Snd State.Sound)) heq6 (by
            exact (sound_readWord _ _ _ _ hv2))
        exact (sound_State_emit _ _ hv5)
  · refine ite_holds (P := State.Sound) ?_ ?_
    · split
      · rename_i v7 v8 heq9
        have hv8 : State.Sound v8 := holds_eq (P := (Snd State.Sound)) heq9 (by
            exact (sound_readWord _ _ _ _ h1))
        exact (sound_State_emit _ _ hv8)
    · split
      · rename_i v10 v11 heq12
        have hv11 : State.Sound v11 := holds_eq (P := (Snd State.Sound)) heq12 (by
            exact (sound_readWord _ _ _ _ h1))
        exact (sound_State_emit _ _ hv11)

theorem sound_noteTaken : ∀ a0 a1 a2, State.Sound a2 →
    State.Sound (noteTaken a0 a1 a2) := by
  intro a0 a1 a2 h2
  unfold noteTaken
  exact (State.sound_mk h2.regs h2.shadow h2.cnts h2.tot h2.hold h2.pairs h2.ctl h2.host h2.hlt h2.nvm h2.cls h2.time
      h2.tbl h2.leaf h2.xbar h2.buf h2.tm h2.sky)

theorem sound_refused : ∀ a0 a1, State.Sound a1 →
    State.Sound (refused a0 a1) := by
  intro a0 a1 h1
  unfold refused
  exact (sound_logWrite _ _ _ h1)

theorem sound_refusedNear : ∀ a0 a1, State.Sound a1 →
    State.Sound (refusedNear a0 a1) := by
  intro a0 a1 h1
  unfold refusedNear
  exact (sound_logNear _ _ h1)

theorem sound_ringSet : ∀ a0 a1 a2 a3, State.Sound a3 →
    State.Sound (ringSet a0 a1 a2 a3) := by
  intro a0 a1 a2 a3 h3
  unfold ringSet
  exact (ite_holds (P := State.Sound) (sound_irqCfg _ _ _ (sound_plain _ _ _ _ _ h3)) (sound_refused _ _ h3))

theorem sound_hostWriteReg : ∀ a0 a1 a2 a3 a4, State.Sound a4 →
    State.Sound (hostWriteReg a0 a1 a2 a3 a4) := by
  intro a0 a1 a2 a3 a4 h4
  unfold hostWriteReg
  split
  · exact (sound_winWrite _ _ _ _ h4)
  · exact (ite_holds (P := State.Sound) (ite_holds (P := State.Sound) (sound_ringEnable _ _ _ h4) (sound_ringDisable
      _ _ h4)) (ite_holds (P := State.Sound) (sound_doorbell _ _ _ _ h4) (ite_holds (P := State.Sound)
      (sound_cplDoorbell _ _ _ h4) (ite_holds (P := State.Sound) (sound_plain _ _ _ _ _ h4) (sound_ringSet _ _ _ _
      h4)))))

theorem sound_keepWrite : ∀ a0 a1 a2 a3 a4, State.Sound a4 →
    State.Sound (keepWrite a0 a1 a2 a3 a4) := by
  intro a0 a1 a2 a3 a4 h4
  unfold keepWrite
  refine ite_holds (P := State.Sound) ?_ ?_
  · refine ite_holds (P := State.Sound) ?_ ?_
    · exact (sound_refusedNear _ _ h4)
    · refine ite_holds (P := State.Sound) ?_ ?_
      · refine ite_holds (P := State.Sound) ?_ ?_
        · extract_lets +onlyGivenNames -merge x0
          have hx0 : State.Sound x0 := (sound_State_setFld _ _ _ _ _ (sound_plain _ _ _ _ _ h4))
          clear_value x0
          extract_lets +onlyGivenNames -merge x1
          refine ite_holds (P := State.Sound) ?_ ?_
          · exact hx0
          · refine sound_mboxServe _ _ _ _ ?_ hx0
            · intro y2 hy2
              exact (sound_mboxAnswer _ _ _ _ hy2)
        · exact (sound_refusedNear _ _ h4)
      · exact (sound_plain _ _ _ _ _ h4)
  · exact (sound_plain _ _ _ _ _ h4)

theorem sound_portCfgWrite : ∀ a0 a1 a2 a3 a4, State.Sound a4 →
    State.Sound (portCfgWrite a0 a1 a2 a3 a4) := by
  intro a0 a1 a2 a3 a4 h4
  unfold portCfgWrite
  extract_lets +onlyGivenNames -merge x0
  extract_lets +onlyGivenNames -merge x1
  extract_lets +onlyGivenNames -merge x2
  exact (sound_plain _ _ _ _ _ (ite_holds (P := State.Sound) h4 (sound_refused _ _ h4)))

theorem sound_leafWrite : ∀ a0 a1 a2 a3 a4, State.Sound a4 →
    State.Sound (leafWrite a0 a1 a2 a3 a4) := by
  intro a0 a1 a2 a3 a4 h4
  unfold leafWrite
  exact (ite_holds (P := State.Sound) (ite_holds (P := State.Sound) (sound_groupRestart _ _ h4) h4) (ite_holds (P :=
      State.Sound) (sound_dozeCtrl _ _ _ h4) (ite_holds (P := State.Sound) (sound_portCfgWrite _ _ _ _ _ h4)
      (sound_plain _ _ _ _ _ h4))))

theorem sound_nvmWriteReg : ∀ a0 a1 a2 a3 a4, State.Sound a4 →
    State.Sound (nvmWriteReg a0 a1 a2 a3 a4) := by
  intro a0 a1 a2 a3 a4 h4
  unfold nvmWriteReg
  refine ite_holds (P := State.Sound) ?_ ?_
  · exact (sound_nvmCmd _ _ h4)
  · refine ite_holds (P := State.Sound) ?_ ?_
    · extract_lets +onlyGivenNames -merge x0
      have hx0 : State.Sound x0 := (sound_plain _ _ _ _ _ h4)
      clear_value x0
      exact (State.sound_mk hx0.regs hx0.shadow hx0.cnts hx0.tot hx0.hold hx0.pairs hx0.ctl hx0.host hx0.hlt
          (NvmSt.sound_mk hx0.nvm.flash) hx0.cls hx0.time hx0.tbl hx0.leaf hx0.xbar hx0.buf hx0.tm hx0.sky)
    · exact (sound_plain _ _ _ _ _ h4)

theorem sound_inOff : ∀ a0 a1 a2 a3, State.Sound a3 →
    State.Sound (inOff a0 a1 a2 a3) := by
  intro a0 a1 a2 a3 h3
  unfold inOff
  exact (ite_holds (P := State.Sound) (sound_plain _ _ _ _ _ h3) (sound_refused _ _ h3))

theorem sound_skyWrite : ∀ a0 a1 a2 a3 a4, State.Sound a4 →
    State.Sound (skyWrite a0 a1 a2 a3 a4) := by
  intro a0 a1 a2 a3 a4 h4
  unfold skyWrite
  refine ite_holds (P := State.Sound) ?_ ?_
  · exact (sound_skyCtrl _ _ h4)
  · refine ite_holds (P := State.Sound) ?_ ?_
    · exact (sound_skyTxEn _ _ h4)
    · refine ite_holds (P := State.Sound) ?_ ?_
      · exact (sound_laneEnWrite _ _ _ h4)
      · refine ite_holds (P := State.Sound) ?_ ?_
        · exact (sound_mapCtrl _ _ h4)
        · refine ite_holds (P := State.Sound) ?_ ?_
          · exact (sound_bankWrite _ _ _ _ h4)
          · refine ite_holds (P := State.Sound) ?_ ?_
            · extract_lets +onlyGivenNames -merge x0
              have hx0 : State.Sound x0 := (sound_inOff _ _ _ _ h4)
              clear_value x0
              exact (ite_holds (P := State.Sound) (sound_skyTry _ hx0) hx0)
            · exact (ite_holds (P := State.Sound) (ite_holds (P := State.Sound) (sound_foundStep _ _ h4) h4)
                (ite_holds (P := State.Sound) (sound_taiWrite _ _ h4) (sound_plain _ _ _ _ _ h4)))

theorem sound_sysWrite : ∀ a0 a1 a2 a3 a4, State.Sound a4 →
    State.Sound (sysWrite a0 a1 a2 a3 a4) := by
  intro a0 a1 a2 a3 a4 h4
  unfold sysWrite
  exact (ite_holds (P := State.Sound) (ite_holds (P := State.Sound) (sound_clearFault _ h4) h4) (ite_holds (P :=
      State.Sound) (sound_strobeHi _ _ h4) (ite_holds (P := State.Sound) (sound_strobe _ _ h4) (ite_holds (P :=
      State.Sound) (sound_snapCtrl _ _ h4) (ite_holds (P := State.Sound) (ite_holds (P := State.Sound) (sound_refused
      _ _ h4) (ite_holds (P := State.Sound) (sound_headlessReq _ h4) (ite_holds (P := State.Sound)
      (sound_headlessExit _ _ h4) h4))) (ite_holds (P := State.Sound) (sound_resetCtrl _ _ h4) (ite_holds (P :=
      State.Sound) (sound_fuseCtrl _ _ h4) (sound_plain _ _ _ _ _ h4))))))))

theorem sound_tblWrite : ∀ a0 a1 a2 a3 a4, State.Sound a4 →
    State.Sound (tblWrite a0 a1 a2 a3 a4) := by
  intro a0 a1 a2 a3 a4 h4
  unfold tblWrite
  exact (ite_holds (P := State.Sound) (sound_clearCtrl _ _ h4) (ite_holds (P := State.Sound) (ite_holds (P :=
      State.Sound) (sound_plain _ _ _ _ _ h4) (sound_refused _ _ h4)) (ite_holds (P := State.Sound) (ite_holds (P :=
      State.Sound) (sound_plain _ _ _ _ _ h4) (sound_refused _ _ h4)) (sound_plain _ _ _ _ _ h4))))

theorem sound_xbarWrite : ∀ a0 a1 a2 a3 a4, State.Sound a4 →
    State.Sound (xbarWrite a0 a1 a2 a3 a4) := by
  intro a0 a1 a2 a3 a4 h4
  unfold xbarWrite
  exact (ite_holds (P := State.Sound) (ite_holds (P := State.Sound) (sound_refused _ _ h4) (sound_plain _ _ _ _ _
      h4)) (ite_holds (P := State.Sound) (sound_planeFaultClear _ _ h4) (sound_plain _ _ _ _ _ h4)))

theorem sound_regWrite : ∀ a0 a1 a2 a3 a4, State.Sound a4 →
    State.Sound (regWrite a0 a1 a2 a3 a4) := by
  intro a0 a1 a2 a3 a4 h4
  unfold regWrite
  split
  · exact (sound_sysWrite _ _ _ _ _ h4)
  · exact (sound_leafWrite _ _ _ _ _ h4)
  · exact (sound_tblWrite _ _ _ _ _ h4)
  · exact (sound_xbarWrite _ _ _ _ _ h4)
  · exact (ite_holds (P := State.Sound) (sound_carveCtrl _ _ h4) (ite_holds (P := State.Sound) (sound_showUsed _
      (sound_plain _ _ _ _ _ h4)) (sound_plain _ _ _ _ _ h4)))
  · exact (ite_holds (P := State.Sound) (sound_refused _ _ h4) (sound_plain _ _ _ _ _ h4))
  · exact (sound_skyWrite _ _ _ _ _ h4)
  · exact (sound_skyWrite _ _ _ _ _ h4)
  · exact (sound_hostWriteReg _ _ _ _ _ h4)
  · extract_lets +onlyGivenNames -merge x10
    have hx10 : State.Sound x10 := (sound_plain _ _ _ _ _ h4)
    clear_value x10
    exact (ite_holds (P := State.Sound) (sound_hltRebase _ hx10) hx10)
  · exact (ite_holds (P := State.Sound) (sound_optWrite _ _ h4) (sound_plain _ _ _ _ _ h4))
  · exact (ite_holds (P := State.Sound) (sound_ringOwner _ _ h4) (sound_plain _ _ _ _ _ h4))
  · exact (ite_holds (P := State.Sound) (sound_railWrite _ _ _ h4) (sound_plain _ _ _ _ _ h4))
  · exact (sound_keepWrite _ _ _ _ _ h4)
  · exact (sound_nvmWriteReg _ _ _ _ _ h4)
  · exact (sound_plain _ _ _ _ _ h4)

theorem sound_takeWrite : ∀ a0 a1, State.Sound a1 →
    State.Sound (takeWrite a0 a1) := by
  intro a0 a1 h1
  unfold takeWrite
  split
  · exact (ite_holds (P := State.Sound) (ite_holds (P := State.Sound) h1 (ite_holds (P := State.Sound) (sound_refused
      _ _ h1) (sound_refusedNear _ _ h1))) (ite_holds (P := State.Sound) (sound_logWrite _ _ _ h1) (sound_logNear _ _
      h1)))
  · exact (ite_holds (P := State.Sound) h1 (ite_holds (P := State.Sound) (ite_holds (P := State.Sound) (sound_refused
      _ _ h1) (sound_refusedNear _ _ h1)) (ite_holds (P := State.Sound) (sound_regWrite _ _ _ _ _ h1)
      (sound_noteTaken _ _ _ (sound_regWrite _ _ _ _ _ h1)))))

theorem sound_deliverHeld : ∀ a0, State.Sound a0 →
    State.Sound (deliverHeld a0) := by
  intro a0 h0
  unfold deliverHeld
  extract_lets +onlyGivenNames -merge x0
  extract_lets +onlyGivenNames -merge x1
  extract_lets +onlyGivenNames -merge x2
  have hx2 : CtlSt.Sound x2 := h0.ctl
  clear_value x2
  extract_lets +onlyGivenNames -merge x3
  have hx3 : State.Sound x3 := (State.sound_mk h0.regs h0.shadow h0.cnts h0.tot h0.hold h0.pairs (CtlSt.sound_mk
      hx2.msix hx2.intAt hx2.vcs hx2.arbs hx2.pols hx2.accounts) h0.host h0.hlt h0.nvm h0.cls h0.time h0.tbl h0.leaf
      h0.xbar h0.buf h0.tm h0.sky)
  clear_value x3
  extract_lets +onlyGivenNames -merge x4
  have hx4 : State.Sound x4 := (foldl_holds (P := State.Sound) (fun _ _ hm5 => (sound_takeWrite _ _ (sound_idlSend _
      _ _ _ _ hm5))) hx3)
  clear_value x4
  exact (foldl_holds (P := State.Sound) (fun _ _ hm6 => (sound_takeRead _ _ (ite_holds (P := State.Sound) hm6
      (sound_idlSend _ _ _ _ _ hm6)))) hx4)

theorem sound_dawnInit : ∀ a0, State.Sound a0 →
    State.Sound (dawnInit a0) := by
  intro a0 h0
  unfold dawnInit
  refine ite_holds (P := State.Sound) ?_ ?_
  · extract_lets +onlyGivenNames -merge x0
    have hx0 : State.Sound x0 := (foldl_holds (P := State.Sound) (fun _ _ hm1 => (sound_markRetired _ _ _ hm1)) h0)
    clear_value x0
    exact (sound_deliverHeld _ (sound_idlFlush _ (sound_idlUp _ (State.sound_mk hx0.regs hx0.shadow hx0.cnts hx0.tot
        hx0.hold hx0.pairs hx0.ctl hx0.host hx0.hlt hx0.nvm hx0.cls hx0.time hx0.tbl hx0.leaf hx0.xbar hx0.buf hx0.tm
        hx0.sky))))
  · exact h0

theorem sound_issueRead : ∀ a0 a1, State.Sound a1 →
    State.Sound (issueRead a0 a1) := by
  intro a0 a1 h1
  unfold issueRead
  extract_lets +onlyGivenNames -merge x0
  exact (ite_holds (P := State.Sound) h1 (ite_holds (P := State.Sound) (sound_State_emit _ _ (sound_logNear _ _ h1))
      (ite_holds (P := State.Sound) (sound_takeRead _ _ h1) (ite_holds (P := State.Sound) (sound_takeRead _ _
      (sound_idlSend _ _ _ _ _ h1)) (State.sound_mk h1.regs h1.shadow h1.cnts h1.tot h1.hold h1.pairs (CtlSt.sound_mk
      h1.ctl.msix h1.ctl.intAt h1.ctl.vcs h1.ctl.arbs h1.ctl.pols h1.ctl.accounts) h1.host h1.hlt h1.nvm h1.cls
      h1.time h1.tbl h1.leaf h1.xbar h1.buf h1.tm h1.sky)))))

theorem sound_execCounterRead : ∀ a0 a1 a2 a3 a4, State.Sound a4 →
    ResHolds (execCounterRead a0 a1 a2 a3 a4) := by
  intro a0 a1 a2 a3 a4 h4
  unfold execCounterRead
  refine next_holds ?_
  exact (sound_issueRead _ _ h4)

theorem sound_execDawnInit : ∀ a0, State.Sound a0 →
    ResHolds (execDawnInit a0) := by
  intro a0 h0
  unfold execDawnInit
  refine next_holds ?_
  exact (sound_dawnInit _ h0)

theorem sound_farReadTimeout : ∀ a0, State.Sound a0 →
    State.Sound (farReadTimeout a0) := by
  intro a0 h0
  unfold farReadTimeout
  split
  · exact h0
  · exact (ite_holds (P := State.Sound) (sound_State_emit _ _ (State.sound_mk h0.regs h0.shadow h0.cnts h0.tot
      h0.hold h0.pairs (CtlSt.sound_mk h0.ctl.msix h0.ctl.intAt h0.ctl.vcs h0.ctl.arbs h0.ctl.pols h0.ctl.accounts)
      h0.host h0.hlt h0.nvm h0.cls h0.time h0.tbl h0.leaf h0.xbar h0.buf h0.tm h0.sky)) h0)

theorem sound_execFarReadTimeout : ∀ a0, State.Sound a0 →
    ResHolds (execFarReadTimeout a0) := by
  intro a0 h0
  unfold execFarReadTimeout
  refine next_holds ?_
  exact (sound_farReadTimeout _ h0)

theorem sound_execHoldingPairRead : ∀ a0 a1 a2 a3 a4, State.Sound a4 →
    ResHolds (execHoldingPairRead a0 a1 a2 a3 a4) := by
  intro a0 a1 a2 a3 a4 h4
  unfold execHoldingPairRead
  refine next_holds ?_
  exact (sound_issueRead _ _ h4)

theorem sound_idlRetrainDone : ∀ a0, State.Sound a0 →
    State.Sound (idlRetrainDone a0) := by
  intro a0 h0
  unfold idlRetrainDone
  exact (ite_holds (P := State.Sound) h0 (sound_deliverHeld _ (sound_idlFlush _ (sound_idlUp _ h0))))

theorem sound_execIdlRetrainDone : ∀ a0, State.Sound a0 →
    ResHolds (execIdlRetrainDone a0) := by
  intro a0 h0
  unfold execIdlRetrainDone
  refine next_holds ?_
  refine sound_running _ _ ?_ h0
  · intro y0 hy0
    exact (sound_idlRetrainDone _ hy0)

theorem sound_issueWrite : ∀ a0 a1, State.Sound a1 →
    State.Sound (issueWrite a0 a1) := by
  intro a0 a1 h1
  unfold issueWrite
  refine ite_holds (P := State.Sound) ?_ ?_
  · exact (ite_holds (P := State.Sound) (sound_keyWrite _ _ h1) (sound_refusedNear _ _ h1))
  · refine ite_holds (P := State.Sound) ?_ ?_
    · exact (sound_resetWrite _ _ h1)
    · extract_lets +onlyGivenNames -merge x0
      subst x0
      refine ite_holds (P := State.Sound) ?_ ?_
      · refine sound_guarded _ _ _ ?_ h1
        · intro y1 hy1
          split
          · refine sound_far _ _ _ ?_ hy1
            · intro y2 hy2
              exact (sound_takeWrite _ _ hy2)
          · refine sound_near _ _ ?_ hy1
            · intro y3 hy3
              exact (sound_takeWrite _ _ hy3)
      · split
        · refine sound_far _ _ _ ?_ h1
          · intro y4 hy4
            exact (sound_takeWrite _ _ hy4)
        · refine sound_near _ _ ?_ h1
          · intro y5 hy5
            exact (sound_takeWrite _ _ hy5)

theorem sound_registerWrite : ∀ a0 a1 a2 a3 a4 a5, State.Sound a5 →
    State.Sound (registerWrite a0 a1 a2 a3 a4 a5) := by
  intro a0 a1 a2 a3 a4 a5 h5
  unfold registerWrite
  extract_lets +onlyGivenNames -merge x0
  exact (ite_holds (P := State.Sound) h5 (ite_holds (P := State.Sound) (sound_logNear _ _ h5) (ite_holds (P :=
      State.Sound) (ite_holds (P := State.Sound) h5 (sound_logNear _ _ h5)) (ite_holds (P := State.Sound)
      (sound_issueWrite _ _ h5) (sound_issueWrite _ _ (sound_issueWrite _ _ h5))))))

theorem sound_execRegisterWrite : ∀ a0 a1 a2 a3 a4 a5, State.Sound a5 →
    ResHolds (execRegisterWrite a0 a1 a2 a3 a4 a5) := by
  intro a0 a1 a2 a3 a4 a5 h5
  unfold execRegisterWrite
  refine next_holds ?_
  exact (sound_registerWrite _ _ _ _ _ _ h5)

/-! ### Machine/Step.lean -/

theorem sound_State_withFetchWord : ∀ a0 a1 a2, State.Sound a0 →
    State.Sound (State.withFetchWord a0 a1 a2) := by
  intro a0 a1 a2 h0
  unfold State.withFetchWord
  split
  · exact (State.sound_mk h0.regs h0.shadow h0.cnts h0.tot h0.hold h0.pairs h0.ctl h0.host h0.hlt h0.nvm h0.cls
      h0.time h0.tbl h0.leaf h0.xbar h0.buf h0.tm h0.sky)
  · exact h0

end Sys2Proof.Machine
end

