-- ==== Sys2Proof/Laws/State.lean ====
section
/-!
SUPPORT. Reading a state after one of the operations of Machine/Ops.lean: what an operation leaves alone, by field, and what
a register, a field or a counter reads after it was written.
-/
namespace Sys2Proof.Machine

/-! ### Fields that an operation leaves alone -/

@[simp] theorem setReg_shadow (s : State) (r : Reg) (w : Word) (i j : Nat) : (s.setReg r w i j).shadow = s.shadow := rfl
@[simp] theorem setReg_cnts (s : State) (r : Reg) (w : Word) (i j : Nat) : (s.setReg r w i j).cnts = s.cnts := rfl
@[simp] theorem setReg_tot (s : State) (r : Reg) (w : Word) (i j : Nat) : (s.setReg r w i j).tot = s.tot := rfl
@[simp] theorem setReg_hold (s : State) (r : Reg) (w : Word) (i j : Nat) : (s.setReg r w i j).hold = s.hold := rfl
@[simp] theorem setReg_pairs (s : State) (r : Reg) (w : Word) (i j : Nat) : (s.setReg r w i j).pairs = s.pairs := rfl
@[simp] theorem setReg_now (s : State) (r : Reg) (w : Word) (i j : Nat) : (s.setReg r w i j).now = s.now := rfl
@[simp] theorem setReg_free (s : State) (r : Reg) (w : Word) (i j : Nat) : (s.setReg r w i j).free = s.free := rfl
@[simp] theorem setReg_out (s : State) (r : Reg) (w : Word) (i j : Nat) : (s.setReg r w i j).out = s.out := rfl
@[simp] theorem setReg_sys (s : State) (r : Reg) (w : Word) (i j : Nat) : (s.setReg r w i j).sys = s.sys := rfl
@[simp] theorem setReg_ctl (s : State) (r : Reg) (w : Word) (i j : Nat) : (s.setReg r w i j).ctl = s.ctl := rfl
@[simp] theorem setReg_host (s : State) (r : Reg) (w : Word) (i j : Nat) : (s.setReg r w i j).host = s.host := rfl
@[simp] theorem setReg_hlt (s : State) (r : Reg) (w : Word) (i j : Nat) : (s.setReg r w i j).hlt = s.hlt := rfl
@[simp] theorem setReg_pwr (s : State) (r : Reg) (w : Word) (i j : Nat) : (s.setReg r w i j).pwr = s.pwr := rfl
@[simp] theorem setReg_nvm (s : State) (r : Reg) (w : Word) (i j : Nat) : (s.setReg r w i j).nvm = s.nvm := rfl
@[simp] theorem setReg_cls (s : State) (r : Reg) (w : Word) (i j : Nat) : (s.setReg r w i j).cls = s.cls := rfl
@[simp] theorem setReg_time (s : State) (r : Reg) (w : Word) (i j : Nat) : (s.setReg r w i j).time = s.time := rfl
@[simp] theorem setReg_tbl (s : State) (r : Reg) (w : Word) (i j : Nat) : (s.setReg r w i j).tbl = s.tbl := rfl
@[simp] theorem setReg_leaf (s : State) (r : Reg) (w : Word) (i j : Nat) : (s.setReg r w i j).leaf = s.leaf := rfl
@[simp] theorem setReg_xbar (s : State) (r : Reg) (w : Word) (i j : Nat) : (s.setReg r w i j).xbar = s.xbar := rfl
@[simp] theorem setReg_buf (s : State) (r : Reg) (w : Word) (i j : Nat) : (s.setReg r w i j).buf = s.buf := rfl
@[simp] theorem setReg_tm (s : State) (r : Reg) (w : Word) (i j : Nat) : (s.setReg r w i j).tm = s.tm := rfl
@[simp] theorem setReg_sky (s : State) (r : Reg) (w : Word) (i j : Nat) : (s.setReg r w i j).sky = s.sky := rfl
@[simp] theorem setReg_pending (s : State) (r : Reg) (w : Word) (i j : Nat) : (s.setReg r w i j).pending = s.pending := rfl

@[simp] theorem setFld_shadow (s : State) (f : Fld) (v i j : Nat) : (s.setFld f v i j).shadow = s.shadow := rfl
@[simp] theorem setFld_cnts (s : State) (f : Fld) (v i j : Nat) : (s.setFld f v i j).cnts = s.cnts := rfl
@[simp] theorem setFld_tot (s : State) (f : Fld) (v i j : Nat) : (s.setFld f v i j).tot = s.tot := rfl
@[simp] theorem setFld_hold (s : State) (f : Fld) (v i j : Nat) : (s.setFld f v i j).hold = s.hold := rfl
@[simp] theorem setFld_pairs (s : State) (f : Fld) (v i j : Nat) : (s.setFld f v i j).pairs = s.pairs := rfl
@[simp] theorem setFld_now (s : State) (f : Fld) (v i j : Nat) : (s.setFld f v i j).now = s.now := rfl
@[simp] theorem setFld_free (s : State) (f : Fld) (v i j : Nat) : (s.setFld f v i j).free = s.free := rfl
@[simp] theorem setFld_out (s : State) (f : Fld) (v i j : Nat) : (s.setFld f v i j).out = s.out := rfl
@[simp] theorem setFld_sys (s : State) (f : Fld) (v i j : Nat) : (s.setFld f v i j).sys = s.sys := rfl
@[simp] theorem setFld_ctl (s : State) (f : Fld) (v i j : Nat) : (s.setFld f v i j).ctl = s.ctl := rfl
@[simp] theorem setFld_host (s : State) (f : Fld) (v i j : Nat) : (s.setFld f v i j).host = s.host := rfl
@[simp] theorem setFld_hlt (s : State) (f : Fld) (v i j : Nat) : (s.setFld f v i j).hlt = s.hlt := rfl
@[simp] theorem setFld_pwr (s : State) (f : Fld) (v i j : Nat) : (s.setFld f v i j).pwr = s.pwr := rfl
@[simp] theorem setFld_nvm (s : State) (f : Fld) (v i j : Nat) : (s.setFld f v i j).nvm = s.nvm := rfl
@[simp] theorem setFld_cls (s : State) (f : Fld) (v i j : Nat) : (s.setFld f v i j).cls = s.cls := rfl
@[simp] theorem setFld_time (s : State) (f : Fld) (v i j : Nat) : (s.setFld f v i j).time = s.time := rfl
@[simp] theorem setFld_tbl (s : State) (f : Fld) (v i j : Nat) : (s.setFld f v i j).tbl = s.tbl := rfl
@[simp] theorem setFld_leaf (s : State) (f : Fld) (v i j : Nat) : (s.setFld f v i j).leaf = s.leaf := rfl
@[simp] theorem setFld_xbar (s : State) (f : Fld) (v i j : Nat) : (s.setFld f v i j).xbar = s.xbar := rfl
@[simp] theorem setFld_buf (s : State) (f : Fld) (v i j : Nat) : (s.setFld f v i j).buf = s.buf := rfl
@[simp] theorem setFld_tm (s : State) (f : Fld) (v i j : Nat) : (s.setFld f v i j).tm = s.tm := rfl
@[simp] theorem setFld_sky (s : State) (f : Fld) (v i j : Nat) : (s.setFld f v i j).sky = s.sky := rfl
@[simp] theorem setFld_pending (s : State) (f : Fld) (v i j : Nat) : (s.setFld f v i j).pending = s.pending := rfl

@[simp] theorem setReg64_shadow (s : State) (lo hi : Reg) (v i : Nat) : (s.setReg64 lo hi v i).shadow = s.shadow := rfl
@[simp] theorem setReg64_cnts (s : State) (lo hi : Reg) (v i : Nat) : (s.setReg64 lo hi v i).cnts = s.cnts := rfl
@[simp] theorem setReg64_tot (s : State) (lo hi : Reg) (v i : Nat) : (s.setReg64 lo hi v i).tot = s.tot := rfl
@[simp] theorem setReg64_hold (s : State) (lo hi : Reg) (v i : Nat) : (s.setReg64 lo hi v i).hold = s.hold := rfl
@[simp] theorem setReg64_pairs (s : State) (lo hi : Reg) (v i : Nat) : (s.setReg64 lo hi v i).pairs = s.pairs := rfl
@[simp] theorem setReg64_now (s : State) (lo hi : Reg) (v i : Nat) : (s.setReg64 lo hi v i).now = s.now := rfl
@[simp] theorem setReg64_free (s : State) (lo hi : Reg) (v i : Nat) : (s.setReg64 lo hi v i).free = s.free := rfl
@[simp] theorem setReg64_out (s : State) (lo hi : Reg) (v i : Nat) : (s.setReg64 lo hi v i).out = s.out := rfl
@[simp] theorem setReg64_sys (s : State) (lo hi : Reg) (v i : Nat) : (s.setReg64 lo hi v i).sys = s.sys := rfl
@[simp] theorem setReg64_ctl (s : State) (lo hi : Reg) (v i : Nat) : (s.setReg64 lo hi v i).ctl = s.ctl := rfl
@[simp] theorem setReg64_host (s : State) (lo hi : Reg) (v i : Nat) : (s.setReg64 lo hi v i).host = s.host := rfl
@[simp] theorem setReg64_hlt (s : State) (lo hi : Reg) (v i : Nat) : (s.setReg64 lo hi v i).hlt = s.hlt := rfl
@[simp] theorem setReg64_pwr (s : State) (lo hi : Reg) (v i : Nat) : (s.setReg64 lo hi v i).pwr = s.pwr := rfl
@[simp] theorem setReg64_nvm (s : State) (lo hi : Reg) (v i : Nat) : (s.setReg64 lo hi v i).nvm = s.nvm := rfl
@[simp] theorem setReg64_cls (s : State) (lo hi : Reg) (v i : Nat) : (s.setReg64 lo hi v i).cls = s.cls := rfl
@[simp] theorem setReg64_time (s : State) (lo hi : Reg) (v i : Nat) : (s.setReg64 lo hi v i).time = s.time := rfl
@[simp] theorem setReg64_tbl (s : State) (lo hi : Reg) (v i : Nat) : (s.setReg64 lo hi v i).tbl = s.tbl := rfl
@[simp] theorem setReg64_leaf (s : State) (lo hi : Reg) (v i : Nat) : (s.setReg64 lo hi v i).leaf = s.leaf := rfl
@[simp] theorem setReg64_xbar (s : State) (lo hi : Reg) (v i : Nat) : (s.setReg64 lo hi v i).xbar = s.xbar := rfl
@[simp] theorem setReg64_buf (s : State) (lo hi : Reg) (v i : Nat) : (s.setReg64 lo hi v i).buf = s.buf := rfl
@[simp] theorem setReg64_tm (s : State) (lo hi : Reg) (v i : Nat) : (s.setReg64 lo hi v i).tm = s.tm := rfl
@[simp] theorem setReg64_sky (s : State) (lo hi : Reg) (v i : Nat) : (s.setReg64 lo hi v i).sky = s.sky := rfl
@[simp] theorem setReg64_pending (s : State) (lo hi : Reg) (v i : Nat) : (s.setReg64 lo hi v i).pending = s.pending := rfl

@[simp] theorem setShad_regs (s : State) (r : Reg) (w : Word) (i j : Nat) : (s.setShad r w i j).regs = s.regs := rfl
@[simp] theorem setShad_cnts (s : State) (r : Reg) (w : Word) (i j : Nat) : (s.setShad r w i j).cnts = s.cnts := rfl
@[simp] theorem setShad_tot (s : State) (r : Reg) (w : Word) (i j : Nat) : (s.setShad r w i j).tot = s.tot := rfl
@[simp] theorem setShad_hold (s : State) (r : Reg) (w : Word) (i j : Nat) : (s.setShad r w i j).hold = s.hold := rfl
@[simp] theorem setShad_pairs (s : State) (r : Reg) (w : Word) (i j : Nat) : (s.setShad r w i j).pairs = s.pairs := rfl
@[simp] theorem setShad_now (s : State) (r : Reg) (w : Word) (i j : Nat) : (s.setShad r w i j).now = s.now := rfl
@[simp] theorem setShad_free (s : State) (r : Reg) (w : Word) (i j : Nat) : (s.setShad r w i j).free = s.free := rfl
@[simp] theorem setShad_out (s : State) (r : Reg) (w : Word) (i j : Nat) : (s.setShad r w i j).out = s.out := rfl
@[simp] theorem setShad_sys (s : State) (r : Reg) (w : Word) (i j : Nat) : (s.setShad r w i j).sys = s.sys := rfl
@[simp] theorem setShad_ctl (s : State) (r : Reg) (w : Word) (i j : Nat) : (s.setShad r w i j).ctl = s.ctl := rfl
@[simp] theorem setShad_host (s : State) (r : Reg) (w : Word) (i j : Nat) : (s.setShad r w i j).host = s.host := rfl
@[simp] theorem setShad_hlt (s : State) (r : Reg) (w : Word) (i j : Nat) : (s.setShad r w i j).hlt = s.hlt := rfl
@[simp] theorem setShad_pwr (s : State) (r : Reg) (w : Word) (i j : Nat) : (s.setShad r w i j).pwr = s.pwr := rfl
@[simp] theorem setShad_nvm (s : State) (r : Reg) (w : Word) (i j : Nat) : (s.setShad r w i j).nvm = s.nvm := rfl
@[simp] theorem setShad_cls (s : State) (r : Reg) (w : Word) (i j : Nat) : (s.setShad r w i j).cls = s.cls := rfl
@[simp] theorem setShad_time (s : State) (r : Reg) (w : Word) (i j : Nat) : (s.setShad r w i j).time = s.time := rfl
@[simp] theorem setShad_tbl (s : State) (r : Reg) (w : Word) (i j : Nat) : (s.setShad r w i j).tbl = s.tbl := rfl
@[simp] theorem setShad_leaf (s : State) (r : Reg) (w : Word) (i j : Nat) : (s.setShad r w i j).leaf = s.leaf := rfl
@[simp] theorem setShad_xbar (s : State) (r : Reg) (w : Word) (i j : Nat) : (s.setShad r w i j).xbar = s.xbar := rfl
@[simp] theorem setShad_buf (s : State) (r : Reg) (w : Word) (i j : Nat) : (s.setShad r w i j).buf = s.buf := rfl
@[simp] theorem setShad_tm (s : State) (r : Reg) (w : Word) (i j : Nat) : (s.setShad r w i j).tm = s.tm := rfl
@[simp] theorem setShad_sky (s : State) (r : Reg) (w : Word) (i j : Nat) : (s.setShad r w i j).sky = s.sky := rfl
@[simp] theorem setShad_pending (s : State) (r : Reg) (w : Word) (i j : Nat) : (s.setShad r w i j).pending = s.pending := rfl

@[simp] theorem count_regs (s : State) (c : Cnt) (i j n : Nat) : (s.count c i j n).regs = s.regs := rfl
@[simp] theorem count_shadow (s : State) (c : Cnt) (i j n : Nat) : (s.count c i j n).shadow = s.shadow := rfl
@[simp] theorem count_hold (s : State) (c : Cnt) (i j n : Nat) : (s.count c i j n).hold = s.hold := rfl
@[simp] theorem count_pairs (s : State) (c : Cnt) (i j n : Nat) : (s.count c i j n).pairs = s.pairs := rfl
@[simp] theorem count_now (s : State) (c : Cnt) (i j n : Nat) : (s.count c i j n).now = s.now := rfl
@[simp] theorem count_free (s : State) (c : Cnt) (i j n : Nat) : (s.count c i j n).free = s.free := rfl
@[simp] theorem count_out (s : State) (c : Cnt) (i j n : Nat) : (s.count c i j n).out = s.out := rfl
@[simp] theorem count_sys (s : State) (c : Cnt) (i j n : Nat) : (s.count c i j n).sys = s.sys := rfl
@[simp] theorem count_ctl (s : State) (c : Cnt) (i j n : Nat) : (s.count c i j n).ctl = s.ctl := rfl
@[simp] theorem count_host (s : State) (c : Cnt) (i j n : Nat) : (s.count c i j n).host = s.host := rfl
@[simp] theorem count_hlt (s : State) (c : Cnt) (i j n : Nat) : (s.count c i j n).hlt = s.hlt := rfl
@[simp] theorem count_pwr (s : State) (c : Cnt) (i j n : Nat) : (s.count c i j n).pwr = s.pwr := rfl
@[simp] theorem count_nvm (s : State) (c : Cnt) (i j n : Nat) : (s.count c i j n).nvm = s.nvm := rfl
@[simp] theorem count_cls (s : State) (c : Cnt) (i j n : Nat) : (s.count c i j n).cls = s.cls := rfl
@[simp] theorem count_time (s : State) (c : Cnt) (i j n : Nat) : (s.count c i j n).time = s.time := rfl
@[simp] theorem count_tbl (s : State) (c : Cnt) (i j n : Nat) : (s.count c i j n).tbl = s.tbl := rfl
@[simp] theorem count_leaf (s : State) (c : Cnt) (i j n : Nat) : (s.count c i j n).leaf = s.leaf := rfl
@[simp] theorem count_xbar (s : State) (c : Cnt) (i j n : Nat) : (s.count c i j n).xbar = s.xbar := rfl
@[simp] theorem count_buf (s : State) (c : Cnt) (i j n : Nat) : (s.count c i j n).buf = s.buf := rfl
@[simp] theorem count_tm (s : State) (c : Cnt) (i j n : Nat) : (s.count c i j n).tm = s.tm := rfl
@[simp] theorem count_sky (s : State) (c : Cnt) (i j n : Nat) : (s.count c i j n).sky = s.sky := rfl
@[simp] theorem count_pending (s : State) (c : Cnt) (i j n : Nat) : (s.count c i j n).pending = s.pending := rfl

@[simp] theorem uncount_regs (s : State) (c : Cnt) (i j : Nat) : (s.uncount c i j).regs = s.regs := rfl
@[simp] theorem uncount_shadow (s : State) (c : Cnt) (i j : Nat) : (s.uncount c i j).shadow = s.shadow := rfl
@[simp] theorem uncount_hold (s : State) (c : Cnt) (i j : Nat) : (s.uncount c i j).hold = s.hold := rfl
@[simp] theorem uncount_pairs (s : State) (c : Cnt) (i j : Nat) : (s.uncount c i j).pairs = s.pairs := rfl
@[simp] theorem uncount_now (s : State) (c : Cnt) (i j : Nat) : (s.uncount c i j).now = s.now := rfl
@[simp] theorem uncount_free (s : State) (c : Cnt) (i j : Nat) : (s.uncount c i j).free = s.free := rfl
@[simp] theorem uncount_out (s : State) (c : Cnt) (i j : Nat) : (s.uncount c i j).out = s.out := rfl
@[simp] theorem uncount_sys (s : State) (c : Cnt) (i j : Nat) : (s.uncount c i j).sys = s.sys := rfl
@[simp] theorem uncount_ctl (s : State) (c : Cnt) (i j : Nat) : (s.uncount c i j).ctl = s.ctl := rfl
@[simp] theorem uncount_host (s : State) (c : Cnt) (i j : Nat) : (s.uncount c i j).host = s.host := rfl
@[simp] theorem uncount_hlt (s : State) (c : Cnt) (i j : Nat) : (s.uncount c i j).hlt = s.hlt := rfl
@[simp] theorem uncount_pwr (s : State) (c : Cnt) (i j : Nat) : (s.uncount c i j).pwr = s.pwr := rfl
@[simp] theorem uncount_nvm (s : State) (c : Cnt) (i j : Nat) : (s.uncount c i j).nvm = s.nvm := rfl
@[simp] theorem uncount_cls (s : State) (c : Cnt) (i j : Nat) : (s.uncount c i j).cls = s.cls := rfl
@[simp] theorem uncount_time (s : State) (c : Cnt) (i j : Nat) : (s.uncount c i j).time = s.time := rfl
@[simp] theorem uncount_tbl (s : State) (c : Cnt) (i j : Nat) : (s.uncount c i j).tbl = s.tbl := rfl
@[simp] theorem uncount_leaf (s : State) (c : Cnt) (i j : Nat) : (s.uncount c i j).leaf = s.leaf := rfl
@[simp] theorem uncount_xbar (s : State) (c : Cnt) (i j : Nat) : (s.uncount c i j).xbar = s.xbar := rfl
@[simp] theorem uncount_buf (s : State) (c : Cnt) (i j : Nat) : (s.uncount c i j).buf = s.buf := rfl
@[simp] theorem uncount_tm (s : State) (c : Cnt) (i j : Nat) : (s.uncount c i j).tm = s.tm := rfl
@[simp] theorem uncount_sky (s : State) (c : Cnt) (i j : Nat) : (s.uncount c i j).sky = s.sky := rfl
@[simp] theorem uncount_pending (s : State) (c : Cnt) (i j : Nat) : (s.uncount c i j).pending = s.pending := rfl

@[simp] theorem fresh_regs (s : State) : (s.fresh).regs = s.regs := rfl
@[simp] theorem fresh_shadow (s : State) : (s.fresh).shadow = s.shadow := rfl
@[simp] theorem fresh_cnts (s : State) : (s.fresh).cnts = s.cnts := rfl
@[simp] theorem fresh_tot (s : State) : (s.fresh).tot = s.tot := rfl
@[simp] theorem fresh_hold (s : State) : (s.fresh).hold = s.hold := rfl
@[simp] theorem fresh_pairs (s : State) : (s.fresh).pairs = s.pairs := rfl
@[simp] theorem fresh_now (s : State) : (s.fresh).now = s.now := rfl
@[simp] theorem fresh_out (s : State) : (s.fresh).out = s.out := rfl
@[simp] theorem fresh_sys (s : State) : (s.fresh).sys = s.sys := rfl
@[simp] theorem fresh_ctl (s : State) : (s.fresh).ctl = s.ctl := rfl
@[simp] theorem fresh_host (s : State) : (s.fresh).host = s.host := rfl
@[simp] theorem fresh_hlt (s : State) : (s.fresh).hlt = s.hlt := rfl
@[simp] theorem fresh_pwr (s : State) : (s.fresh).pwr = s.pwr := rfl
@[simp] theorem fresh_nvm (s : State) : (s.fresh).nvm = s.nvm := rfl
@[simp] theorem fresh_cls (s : State) : (s.fresh).cls = s.cls := rfl
@[simp] theorem fresh_time (s : State) : (s.fresh).time = s.time := rfl
@[simp] theorem fresh_tbl (s : State) : (s.fresh).tbl = s.tbl := rfl
@[simp] theorem fresh_leaf (s : State) : (s.fresh).leaf = s.leaf := rfl
@[simp] theorem fresh_xbar (s : State) : (s.fresh).xbar = s.xbar := rfl
@[simp] theorem fresh_buf (s : State) : (s.fresh).buf = s.buf := rfl
@[simp] theorem fresh_tm (s : State) : (s.fresh).tm = s.tm := rfl
@[simp] theorem fresh_sky (s : State) : (s.fresh).sky = s.sky := rfl
@[simp] theorem fresh_pending (s : State) : (s.fresh).pending = s.pending := rfl

@[simp] theorem emit_regs (s : State) (e : OutEv) : (s.emit e).regs = s.regs := rfl
@[simp] theorem emit_shadow (s : State) (e : OutEv) : (s.emit e).shadow = s.shadow := rfl
@[simp] theorem emit_cnts (s : State) (e : OutEv) : (s.emit e).cnts = s.cnts := rfl
@[simp] theorem emit_tot (s : State) (e : OutEv) : (s.emit e).tot = s.tot := rfl
@[simp] theorem emit_hold (s : State) (e : OutEv) : (s.emit e).hold = s.hold := rfl
@[simp] theorem emit_pairs (s : State) (e : OutEv) : (s.emit e).pairs = s.pairs := rfl
@[simp] theorem emit_now (s : State) (e : OutEv) : (s.emit e).now = s.now := rfl
@[simp] theorem emit_free (s : State) (e : OutEv) : (s.emit e).free = s.free := rfl
@[simp] theorem emit_sys (s : State) (e : OutEv) : (s.emit e).sys = s.sys := rfl
@[simp] theorem emit_ctl (s : State) (e : OutEv) : (s.emit e).ctl = s.ctl := rfl
@[simp] theorem emit_host (s : State) (e : OutEv) : (s.emit e).host = s.host := rfl
@[simp] theorem emit_hlt (s : State) (e : OutEv) : (s.emit e).hlt = s.hlt := rfl
@[simp] theorem emit_pwr (s : State) (e : OutEv) : (s.emit e).pwr = s.pwr := rfl
@[simp] theorem emit_nvm (s : State) (e : OutEv) : (s.emit e).nvm = s.nvm := rfl
@[simp] theorem emit_cls (s : State) (e : OutEv) : (s.emit e).cls = s.cls := rfl
@[simp] theorem emit_time (s : State) (e : OutEv) : (s.emit e).time = s.time := rfl
@[simp] theorem emit_tbl (s : State) (e : OutEv) : (s.emit e).tbl = s.tbl := rfl
@[simp] theorem emit_leaf (s : State) (e : OutEv) : (s.emit e).leaf = s.leaf := rfl
@[simp] theorem emit_xbar (s : State) (e : OutEv) : (s.emit e).xbar = s.xbar := rfl
@[simp] theorem emit_buf (s : State) (e : OutEv) : (s.emit e).buf = s.buf := rfl
@[simp] theorem emit_tm (s : State) (e : OutEv) : (s.emit e).tm = s.tm := rfl
@[simp] theorem emit_sky (s : State) (e : OutEv) : (s.emit e).sky = s.sky := rfl
@[simp] theorem emit_pending (s : State) (e : OutEv) : (s.emit e).pending = s.pending := rfl

@[simp] theorem led_regs (s : State) (t i n : Nat) : (s.led t i n).regs = s.regs := rfl
@[simp] theorem led_shadow (s : State) (t i n : Nat) : (s.led t i n).shadow = s.shadow := rfl
@[simp] theorem led_cnts (s : State) (t i n : Nat) : (s.led t i n).cnts = s.cnts := rfl
@[simp] theorem led_tot (s : State) (t i n : Nat) : (s.led t i n).tot = s.tot := rfl
@[simp] theorem led_hold (s : State) (t i n : Nat) : (s.led t i n).hold = s.hold := rfl
@[simp] theorem led_pairs (s : State) (t i n : Nat) : (s.led t i n).pairs = s.pairs := rfl
@[simp] theorem led_now (s : State) (t i n : Nat) : (s.led t i n).now = s.now := rfl
@[simp] theorem led_free (s : State) (t i n : Nat) : (s.led t i n).free = s.free := rfl
@[simp] theorem led_out (s : State) (t i n : Nat) : (s.led t i n).out = s.out := rfl
@[simp] theorem led_sys (s : State) (t i n : Nat) : (s.led t i n).sys = s.sys := rfl
@[simp] theorem led_ctl (s : State) (t i n : Nat) : (s.led t i n).ctl = s.ctl := rfl
@[simp] theorem led_host (s : State) (t i n : Nat) : (s.led t i n).host = s.host := rfl
@[simp] theorem led_pwr (s : State) (t i n : Nat) : (s.led t i n).pwr = s.pwr := rfl
@[simp] theorem led_nvm (s : State) (t i n : Nat) : (s.led t i n).nvm = s.nvm := rfl
@[simp] theorem led_cls (s : State) (t i n : Nat) : (s.led t i n).cls = s.cls := rfl
@[simp] theorem led_time (s : State) (t i n : Nat) : (s.led t i n).time = s.time := rfl
@[simp] theorem led_tbl (s : State) (t i n : Nat) : (s.led t i n).tbl = s.tbl := rfl
@[simp] theorem led_leaf (s : State) (t i n : Nat) : (s.led t i n).leaf = s.leaf := rfl
@[simp] theorem led_xbar (s : State) (t i n : Nat) : (s.led t i n).xbar = s.xbar := rfl
@[simp] theorem led_buf (s : State) (t i n : Nat) : (s.led t i n).buf = s.buf := rfl
@[simp] theorem led_tm (s : State) (t i n : Nat) : (s.led t i n).tm = s.tm := rfl
@[simp] theorem led_sky (s : State) (t i n : Nat) : (s.led t i n).sky = s.sky := rfl
@[simp] theorem led_pending (s : State) (t i n : Nat) : (s.led t i n).pending = s.pending := rfl

@[simp] theorem countIf_regs (s : State) (b : Bool) (c : Cnt) (i j : Nat) : (s.countIf b c i j).regs = s.regs := by
  unfold State.countIf; split <;> rfl
@[simp] theorem countIf_shadow (s : State) (b : Bool) (c : Cnt) (i j : Nat) : (s.countIf b c i j).shadow = s.shadow := by
  unfold State.countIf; split <;> rfl
@[simp] theorem countIf_hold (s : State) (b : Bool) (c : Cnt) (i j : Nat) : (s.countIf b c i j).hold = s.hold := by
  unfold State.countIf; split <;> rfl
@[simp] theorem countIf_pairs (s : State) (b : Bool) (c : Cnt) (i j : Nat) : (s.countIf b c i j).pairs = s.pairs := by
  unfold State.countIf; split <;> rfl
@[simp] theorem countIf_now (s : State) (b : Bool) (c : Cnt) (i j : Nat) : (s.countIf b c i j).now = s.now := by
  unfold State.countIf; split <;> rfl
@[simp] theorem countIf_free (s : State) (b : Bool) (c : Cnt) (i j : Nat) : (s.countIf b c i j).free = s.free := by
  unfold State.countIf; split <;> rfl
@[simp] theorem countIf_out (s : State) (b : Bool) (c : Cnt) (i j : Nat) : (s.countIf b c i j).out = s.out := by
  unfold State.countIf; split <;> rfl
@[simp] theorem countIf_sys (s : State) (b : Bool) (c : Cnt) (i j : Nat) : (s.countIf b c i j).sys = s.sys := by
  unfold State.countIf; split <;> rfl
@[simp] theorem countIf_ctl (s : State) (b : Bool) (c : Cnt) (i j : Nat) : (s.countIf b c i j).ctl = s.ctl := by
  unfold State.countIf; split <;> rfl
@[simp] theorem countIf_host (s : State) (b : Bool) (c : Cnt) (i j : Nat) : (s.countIf b c i j).host = s.host := by
  unfold State.countIf; split <;> rfl
@[simp] theorem countIf_hlt (s : State) (b : Bool) (c : Cnt) (i j : Nat) : (s.countIf b c i j).hlt = s.hlt := by
  unfold State.countIf; split <;> rfl
@[simp] theorem countIf_pwr (s : State) (b : Bool) (c : Cnt) (i j : Nat) : (s.countIf b c i j).pwr = s.pwr := by
  unfold State.countIf; split <;> rfl
@[simp] theorem countIf_nvm (s : State) (b : Bool) (c : Cnt) (i j : Nat) : (s.countIf b c i j).nvm = s.nvm := by
  unfold State.countIf; split <;> rfl
@[simp] theorem countIf_cls (s : State) (b : Bool) (c : Cnt) (i j : Nat) : (s.countIf b c i j).cls = s.cls := by
  unfold State.countIf; split <;> rfl
@[simp] theorem countIf_time (s : State) (b : Bool) (c : Cnt) (i j : Nat) : (s.countIf b c i j).time = s.time := by
  unfold State.countIf; split <;> rfl
@[simp] theorem countIf_tbl (s : State) (b : Bool) (c : Cnt) (i j : Nat) : (s.countIf b c i j).tbl = s.tbl := by
  unfold State.countIf; split <;> rfl
@[simp] theorem countIf_leaf (s : State) (b : Bool) (c : Cnt) (i j : Nat) : (s.countIf b c i j).leaf = s.leaf := by
  unfold State.countIf; split <;> rfl
@[simp] theorem countIf_xbar (s : State) (b : Bool) (c : Cnt) (i j : Nat) : (s.countIf b c i j).xbar = s.xbar := by
  unfold State.countIf; split <;> rfl
@[simp] theorem countIf_buf (s : State) (b : Bool) (c : Cnt) (i j : Nat) : (s.countIf b c i j).buf = s.buf := by
  unfold State.countIf; split <;> rfl
@[simp] theorem countIf_tm (s : State) (b : Bool) (c : Cnt) (i j : Nat) : (s.countIf b c i j).tm = s.tm := by
  unfold State.countIf; split <;> rfl
@[simp] theorem countIf_sky (s : State) (b : Bool) (c : Cnt) (i j : Nat) : (s.countIf b c i j).sky = s.sky := by
  unfold State.countIf; split <;> rfl
@[simp] theorem countIf_pending (s : State) (b : Bool) (c : Cnt) (i j : Nat) : (s.countIf b c i j).pending = s.pending := by
  unfold State.countIf; split <;> rfl

@[simp] theorem fresh_free (s : State) : s.fresh.free = s.free + 1 := rfl
@[simp] theorem emit_out (s : State) (e : OutEv) : (s.emit e).out = e :: s.out := rfl

/-! ### States that agree read alike -/

theorem reg_congr {s t : State} (h : t.regs = s.regs) (r : Reg) (i j : Nat) : t.reg r i j = s.reg r i j := by
  unfold State.reg; rw [h]

theorem fld_congr {s t : State} (h : t.regs = s.regs) (f : Fld) (i j : Nat) : t.fld f i j = s.fld f i j := by
  unfold State.fld; rw [reg_congr h]

theorem flag_congr {s t : State} (h : t.regs = s.regs) (f : Fld) (i j : Nat) : t.flag f i j = s.flag f i j := by
  unfold State.flag; rw [fld_congr h]

theorem cnt_congr {s t : State} (h : t.cnts = s.cnts) (c : Cnt) (i j : Nat) : t.cnt c i j = s.cnt c i j := by
  unfold State.cnt; rw [h]

@[simp] theorem setReg_cnt (s : State) (r : Reg) (w : Word) (i j : Nat) (q : Cnt) (k l : Nat) : (s.setReg r w i j).cnt q k l = s.cnt q k l := rfl
@[simp] theorem setFld_cnt (s : State) (f : Fld) (v i j : Nat) (q : Cnt) (k l : Nat) : (s.setFld f v i j).cnt q k l = s.cnt q k l := rfl
@[simp] theorem setReg64_cnt (s : State) (lo hi : Reg) (v i : Nat) (q : Cnt) (k l : Nat) : (s.setReg64 lo hi v i).cnt q k l = s.cnt q k l := rfl
@[simp] theorem setShad_reg (s : State) (r : Reg) (w : Word) (i j : Nat) (q : Reg) (k l : Nat) : (s.setShad r w i j).reg q k l = s.reg q k l := rfl
@[simp] theorem setShad_fld (s : State) (r : Reg) (w : Word) (i j : Nat) (q : Fld) (k l : Nat) : (s.setShad r w i j).fld q k l = s.fld q k l := rfl
@[simp] theorem setShad_flag (s : State) (r : Reg) (w : Word) (i j : Nat) (q : Fld) (k l : Nat) : (s.setShad r w i j).flag q k l = s.flag q k l := rfl
@[simp] theorem setShad_cnt (s : State) (r : Reg) (w : Word) (i j : Nat) (q : Cnt) (k l : Nat) : (s.setShad r w i j).cnt q k l = s.cnt q k l := rfl
@[simp] theorem count_reg (s : State) (c : Cnt) (i j n : Nat) (q : Reg) (k l : Nat) : (s.count c i j n).reg q k l = s.reg q k l := rfl
@[simp] theorem count_fld (s : State) (c : Cnt) (i j n : Nat) (q : Fld) (k l : Nat) : (s.count c i j n).fld q k l = s.fld q k l := rfl
@[simp] theorem count_flag (s : State) (c : Cnt) (i j n : Nat) (q : Fld) (k l : Nat) : (s.count c i j n).flag q k l = s.flag q k l := rfl
@[simp] theorem uncount_reg (s : State) (c : Cnt) (i j : Nat) (q : Reg) (k l : Nat) : (s.uncount c i j).reg q k l = s.reg q k l := rfl
@[simp] theorem uncount_fld (s : State) (c : Cnt) (i j : Nat) (q : Fld) (k l : Nat) : (s.uncount c i j).fld q k l = s.fld q k l := rfl
@[simp] theorem uncount_flag (s : State) (c : Cnt) (i j : Nat) (q : Fld) (k l : Nat) : (s.uncount c i j).flag q k l = s.flag q k l := rfl
@[simp] theorem fresh_reg (s : State) (q : Reg) (k l : Nat) : (s.fresh).reg q k l = s.reg q k l := rfl
@[simp] theorem fresh_fld (s : State) (q : Fld) (k l : Nat) : (s.fresh).fld q k l = s.fld q k l := rfl
@[simp] theorem fresh_flag (s : State) (q : Fld) (k l : Nat) : (s.fresh).flag q k l = s.flag q k l := rfl
@[simp] theorem fresh_cnt (s : State) (q : Cnt) (k l : Nat) : (s.fresh).cnt q k l = s.cnt q k l := rfl
@[simp] theorem emit_reg (s : State) (e : OutEv) (q : Reg) (k l : Nat) : (s.emit e).reg q k l = s.reg q k l := rfl
@[simp] theorem emit_fld (s : State) (e : OutEv) (q : Fld) (k l : Nat) : (s.emit e).fld q k l = s.fld q k l := rfl
@[simp] theorem emit_flag (s : State) (e : OutEv) (q : Fld) (k l : Nat) : (s.emit e).flag q k l = s.flag q k l := rfl
@[simp] theorem emit_cnt (s : State) (e : OutEv) (q : Cnt) (k l : Nat) : (s.emit e).cnt q k l = s.cnt q k l := rfl
@[simp] theorem led_reg (s : State) (t i n : Nat) (q : Reg) (k l : Nat) : (s.led t i n).reg q k l = s.reg q k l := rfl
@[simp] theorem led_fld (s : State) (t i n : Nat) (q : Fld) (k l : Nat) : (s.led t i n).fld q k l = s.fld q k l := rfl
@[simp] theorem led_flag (s : State) (t i n : Nat) (q : Fld) (k l : Nat) : (s.led t i n).flag q k l = s.flag q k l := rfl
@[simp] theorem led_cnt (s : State) (t i n : Nat) (q : Cnt) (k l : Nat) : (s.led t i n).cnt q k l = s.cnt q k l := rfl

/-! ### Reading what was written -/

theorem reg_setReg {s : State} (hs : SMap.sorted s.regs = true) (r : Reg) (w : Word) (i j : Nat) :
    (s.setReg r w i j).reg r i j = w := SMap.getD_put_self hs _ _ _

theorem reg_setReg_ne {s : State} (hs : SMap.sorted s.regs = true) {r q : Reg} {i j k l : Nat}
    (h : q.off k l ≠ r.off i j) (w : Word) : (s.setReg r w i j).reg q k l = s.reg q k l := SMap.getD_put_ne hs h _ _ _

theorem shad_setShad {s : State} (hs : SMap.sorted s.shadow = true) (r : Reg) (w : Word) (i j : Nat) :
    (s.setShad r w i j).shad r i j = w := SMap.getD_put_self hs _ _ _

theorem sorted_setReg {s : State} (hs : SMap.sorted s.regs = true) (r : Reg) (w : Word) (i j : Nat) :
    SMap.sorted (s.setReg r w i j).regs = true := SMap.sorted_put hs _ _ _

theorem sorted_setFld {s : State} (hs : SMap.sorted s.regs = true) (f : Fld) (v i j : Nat) :
    SMap.sorted (s.setFld f v i j).regs = true := SMap.sorted_put hs _ _ _

theorem sorted_count {s : State} (hs : SMap.sorted s.cnts = true) (c : Cnt) (i j n : Nat) :
    SMap.sorted (s.count c i j n).cnts = true := by
  exact SMap.sorted_upd hs (c.off i j) 0#64 (fun x => x + BitVec.ofNat 64 n)

theorem cnt_count {s : State} (hs : SMap.sorted s.cnts = true) (c : Cnt) (i j n : Nat) :
    (s.count c i j n).cnt c i j = s.cnt c i j + BitVec.ofNat 64 n := by
  exact SMap.getD_upd_self hs (c.off i j) 0#64 (fun x => x + BitVec.ofNat 64 n)

theorem cnt_count_ne {s : State} (hs : SMap.sorted s.cnts = true) {c q : Cnt} {i j k l : Nat}
    (h : q.off k l ≠ c.off i j) (n : Nat) : (s.count c i j n).cnt q k l = s.cnt q k l := by
  exact SMap.getD_upd_ne hs h 0#64 0#64 (fun x => x + BitVec.ofNat 64 n)

/-! ### Bit fields -/

/-- A number with a field replaced, in its three parts. -/
theorem setBits_parts (w hi lo x : Nat) (h : lo ≤ hi + 1) :
    setBits w hi lo x = w / 2 ^ (hi + 1) * 2 ^ (hi + 1) + x % 2 ^ (hi + 1 - lo) * 2 ^ lo + w % 2 ^ lo := by
  have e : 2 ^ (hi + 1) = 2 ^ lo * 2 ^ (hi + 1 - lo) := by rw [← pow_add]; congr 1; omega
  unfold setBits bits
  simp only [Nat.shiftLeft_eq, Nat.shiftRight_eq_div_pow]
  have h1 := Nat.div_add_mod w (2 ^ lo)
  have h2 := Nat.div_add_mod (w / 2 ^ lo) (2 ^ (hi + 1 - lo))
  rw [Nat.div_div_eq_div_mul, ← e] at h2
  have h3 : w = w / 2 ^ (hi + 1) * 2 ^ (hi + 1) + w / 2 ^ lo % 2 ^ (hi + 1 - lo) * 2 ^ lo + w % 2 ^ lo := by
    conv_lhs => rw [← h1, ← h2]
    rw [e]; ring
  omega

theorem setBits_lt (w hi lo x n : Nat) (h : lo ≤ hi + 1) (hn : hi + 1 ≤ n) (hw : w < 2 ^ n) :
    setBits w hi lo x < 2 ^ n := by
  rw [setBits_parts w hi lo x h]
  have e : 2 ^ (hi + 1) = 2 ^ lo * 2 ^ (hi + 1 - lo) := by rw [← pow_add]; congr 1; omega
  have e2 : 2 ^ n = 2 ^ (hi + 1) * 2 ^ (n - (hi + 1)) := by rw [← pow_add]; congr 1; omega
  have a1 : w / 2 ^ (hi + 1) + 1 ≤ 2 ^ (n - (hi + 1)) := by
    apply Nat.succ_le_of_lt
    rw [Nat.div_lt_iff_lt_mul (by positivity), mul_comm, ← e2]; exact hw
  have a2 : x % 2 ^ (hi + 1 - lo) + 1 ≤ 2 ^ (hi + 1 - lo) := Nat.mod_lt _ (by positivity)
  have a3 : w % 2 ^ lo < 2 ^ lo := Nat.mod_lt _ (by positivity)
  have b1 := Nat.mul_le_mul_right (2 ^ (hi + 1)) a1
  have b2 := Nat.mul_le_mul_right (2 ^ lo) a2
  rw [mul_comm (2 ^ (n - (hi + 1))), ← e2] at b1
  rw [mul_comm (2 ^ (hi + 1 - lo)), ← e] at b2
  rw [Nat.add_mul] at b1 b2
  omega

theorem bits_setBits (w hi lo x : Nat) (h : lo ≤ hi + 1) : bits (setBits w hi lo x) hi lo = x % 2 ^ (hi + 1 - lo) := by
  rw [setBits_parts w hi lo x h]
  have e : 2 ^ (hi + 1) = 2 ^ lo * 2 ^ (hi + 1 - lo) := by rw [← pow_add]; congr 1; omega
  unfold bits
  rw [Nat.shiftRight_eq_div_pow]
  have a3 : w % 2 ^ lo < 2 ^ lo := Nat.mod_lt _ (by positivity)
  have : w / 2 ^ (hi + 1) * 2 ^ (hi + 1) + x % 2 ^ (hi + 1 - lo) * 2 ^ lo + w % 2 ^ lo
      = (w / 2 ^ (hi + 1) * 2 ^ (hi + 1 - lo) + x % 2 ^ (hi + 1 - lo)) * 2 ^ lo + w % 2 ^ lo := by rw [e]; ring
  rw [this, Nat.add_comm, Nat.add_mul_div_right _ _ (by positivity), Nat.div_eq_of_lt a3, Nat.zero_add,
    Nat.mul_comm, Nat.mul_add_mod, Nat.mod_mod]

/-- A bit outside the replaced field stays. -/
theorem testBit_setBits (w hi lo x k : Nat) (h : lo ≤ hi + 1) (hk : k < lo ∨ hi < k) :
    (setBits w hi lo x).testBit k = w.testBit k := by
  have e : 2 ^ (hi + 1) = 2 ^ lo * 2 ^ (hi + 1 - lo) := by rw [← pow_add]; congr 1; omega
  have low : ∀ y, y % 2 ^ (hi + 1 - lo) * 2 ^ lo + w % 2 ^ lo < 2 ^ (hi + 1) := by
    intro y
    have a2 : y % 2 ^ (hi + 1 - lo) + 1 ≤ 2 ^ (hi + 1 - lo) := Nat.mod_lt _ (by positivity)
    have a3 : w % 2 ^ lo < 2 ^ lo := Nat.mod_lt _ (by positivity)
    have b2 := Nat.mul_le_mul_right (2 ^ lo) a2
    rw [mul_comm (2 ^ (hi + 1 - lo)), ← e, Nat.add_mul] at b2
    omega
  have key : ∀ y, (w / 2 ^ (hi + 1) * 2 ^ (hi + 1) + y % 2 ^ (hi + 1 - lo) * 2 ^ lo + w % 2 ^ lo).testBit k
      = if k < hi + 1 then (w % 2 ^ lo).testBit k else (w / 2 ^ (hi + 1)).testBit (k - (hi + 1)) := by
    intro y
    rw [Nat.add_assoc, Nat.mul_comm (w / 2 ^ (hi + 1)), Nat.testBit_two_pow_mul_add _ (low y)]
    split
    · rw [Nat.mul_comm, Nat.testBit_two_pow_mul_add _ (Nat.mod_lt _ (by positivity)), if_pos (by omega)]
    · rfl
  have hw : w = setBits w hi lo (bits w hi lo) := by
    rw [setBits_parts w hi lo _ h]
    have h1 := Nat.div_add_mod w (2 ^ lo)
    have h2 := Nat.div_add_mod (w / 2 ^ lo) (2 ^ (hi + 1 - lo))
    rw [Nat.div_div_eq_div_mul, ← e] at h2
    unfold bits
    rw [Nat.shiftRight_eq_div_pow, Nat.mod_mod]
    conv_lhs => rw [← h1, ← h2]
    rw [e]; ring
  conv_rhs => rw [hw]
  rw [setBits_parts w hi lo x h, setBits_parts w hi lo (bits w hi lo) h, key, key]

/-- A field that does not meet the replaced one stays. -/
theorem bits_setBits_ne (w hi lo x hi' lo' : Nat) (h : lo ≤ hi + 1) (h' : hi' < lo ∨ hi < lo') :
    bits (setBits w hi lo x) hi' lo' = bits w hi' lo' := by
  apply Nat.eq_of_testBit_eq
  intro k
  unfold bits
  rw [Nat.testBit_mod_two_pow, Nat.testBit_mod_two_pow, Nat.testBit_shiftRight, Nat.testBit_shiftRight]
  by_cases hk : k < hi' + 1 - lo'
  · rw [testBit_setBits _ _ _ _ _ h (by omega)]
  · simp [hk]

/-! ### Fields of registers -/

theorem get_set {f : Fld} (h : f.lo ≤ f.hi) (h' : f.hi < 32) (w : Word) (v : Nat) :
    f.get (f.set w v) = v % 2 ^ (f.hi + 1 - f.lo) := by
  unfold Fld.get Fld.set
  rw [BitVec.toNat_ofNat, Nat.mod_eq_of_lt (setBits_lt _ _ _ _ 32 (by omega) (by omega) w.isLt),
    bits_setBits _ _ _ _ (by omega)]

theorem get_set_ne {f g : Fld} (h : f.lo ≤ f.hi) (h' : f.hi < 32) (hg : g.hi < f.lo ∨ f.hi < g.lo) (w : Word) (v : Nat) :
    g.get (f.set w v) = g.get w := by
  unfold Fld.get Fld.set
  rw [BitVec.toNat_ofNat, Nat.mod_eq_of_lt (setBits_lt _ _ _ _ 32 (by omega) (by omega) w.isLt),
    bits_setBits_ne _ _ _ _ _ _ (by omega) hg]

/-- A field reads what was written, cut to its width. -/
theorem fld_setFld {s : State} (hs : SMap.sorted s.regs = true) {f : Fld} (h : f.lo ≤ f.hi) (h' : f.hi < 32)
    (v i j : Nat) : (s.setFld f v i j).fld f i j = v % 2 ^ (f.hi + 1 - f.lo) := by
  unfold State.fld State.setFld
  rw [reg_setReg hs, get_set h h']

/-- Another field of the same element stays. -/
theorem fld_setFld_ne {s : State} (hs : SMap.sorted s.regs = true) {f g : Fld} (h : f.lo ≤ f.hi) (h' : f.hi < 32)
    (hr : g.reg = f.reg) (hg : g.hi < f.lo ∨ f.hi < g.lo) (v i j : Nat) : (s.setFld f v i j).fld g i j = s.fld g i j := by
  unfold State.fld State.setFld
  rw [hr, reg_setReg hs, get_set_ne h h' hg]

/-- An element at another offset stays. -/
theorem fld_setFld_off {s : State} (hs : SMap.sorted s.regs = true) {f g : Fld} {i j k l : Nat}
    (h : g.reg.off k l ≠ f.reg.off i j) (v : Nat) : (s.setFld f v i j).fld g k l = s.fld g k l := by
  unfold State.fld State.setFld
  rw [reg_setReg_ne hs h]

theorem fld_setReg {s : State} (hs : SMap.sorted s.regs = true) (f : Fld) (w : Word) (i j : Nat) :
    (s.setReg f.reg w i j).fld f i j = f.get w := by
  unfold State.fld
  rw [reg_setReg hs]

theorem fld_setReg_off {s : State} (hs : SMap.sorted s.regs = true) {r : Reg} {g : Fld} {i j k l : Nat}
    (h : g.reg.off k l ≠ r.off i j) (w : Word) : (s.setReg r w i j).fld g k l = s.fld g k l := by
  unfold State.fld
  rw [reg_setReg_ne hs h]

/-! ### Arrays that do not meet -/

/-- No element of the first array of offsets is one of the second: they lie in separate ranges, or in separate parts of one
stride. -/
def apart (b s1 n1 s2 n2 b' s1' n1' s2' n2' : Nat) : Bool :=
  decide (b + s1 * (n1 - 1) + s2 * (n2 - 1) < b') || decide (b' + s1' * (n1' - 1) + s2' * (n2' - 1) < b)
  || (decide (s1 = s1') && decide (b % s1 + s2 * (n2 - 1) < s1) && decide (b' % s1 + s2' * (n2' - 1) < s1)
      && (decide (b % s1 + s2 * (n2 - 1) < b' % s1) || decide (b' % s1 + s2' * (n2' - 1) < b % s1)))

theorem apart_ne {b s1 n1 s2 n2 b' s1' n1' s2' n2' : Nat} (h : apart b s1 n1 s2 n2 b' s1' n1' s2' n2' = true)
    (h1 : 0 < n1) (h2 : 0 < n2) (h3 : 0 < n1') (h4 : 0 < n2') (i j k l : Nat) :
    b + s1 * (i % n1) + s2 * (j % n2) ≠ b' + s1' * (k % n1') + s2' * (l % n2') := by
  have i1 : s1 * (i % n1) ≤ s1 * (n1 - 1) := Nat.mul_le_mul_left _ (by have := Nat.mod_lt i h1; omega)
  have j1 : s2 * (j % n2) ≤ s2 * (n2 - 1) := Nat.mul_le_mul_left _ (by have := Nat.mod_lt j h2; omega)
  have k1 : s1' * (k % n1') ≤ s1' * (n1' - 1) := Nat.mul_le_mul_left _ (by have := Nat.mod_lt k h3; omega)
  have l1 : s2' * (l % n2') ≤ s2' * (n2' - 1) := Nat.mul_le_mul_left _ (by have := Nat.mod_lt l h4; omega)
  simp only [apart, Bool.or_eq_true, Bool.and_eq_true, decide_eq_true_eq] at h
  rcases h with (h | h) | ⟨⟨⟨hs, ha⟩, hb⟩, hc⟩
  · omega
  · omega
  · subst hs
    intro e
    have e2 := congrArg (· % s1) e
    have f : ∀ x c d, x % s1 + c < s1 → (x + s1 * d + c) % s1 = x % s1 + c := by
      intro x c d hx
      rw [Nat.add_right_comm, Nat.add_mul_mod_self_left, Nat.add_mod, Nat.mod_eq_of_lt (a := c) (by omega),
        Nat.mod_eq_of_lt hx]
    rw [f _ _ _ (by omega), f _ _ _ (by omega)] at e2
    omega

/-- Two registers of the map are apart. -/
def regApart (r q : Reg) : Bool :=
  Machine.apart r.base r.s1 r.n1 r.s2 r.n2 q.base q.s1 q.n1 q.s2 q.n2
  && decide (0 < r.n1) && decide (0 < r.n2) && decide (0 < q.n1) && decide (0 < q.n2)

/-- Two counters of the map are apart. -/
def cntApart (r q : Cnt) : Bool :=
  Machine.apart r.base r.s1 r.n1 r.s2 r.n2 q.base q.s1 q.n1 q.s2 q.n2
  && decide (0 < r.n1) && decide (0 < r.n2) && decide (0 < q.n1) && decide (0 < q.n2)

theorem regOff_ne {r q : Reg} (h : regApart r q = true) (i j k l : Nat) : r.off i j ≠ q.off k l := by
  simp only [regApart, Bool.and_eq_true, decide_eq_true_eq] at h
  exact apart_ne h.1.1.1.1 h.1.1.1.2 h.1.1.2 h.1.2 h.2 i j k l

theorem cntOff_ne {r q : Cnt} (h : cntApart r q = true) (i j k l : Nat) : r.off i j ≠ q.off k l := by
  simp only [cntApart, Bool.and_eq_true, decide_eq_true_eq] at h
  exact apart_ne h.1.1.1.1 h.1.1.1.2 h.1.1.2 h.1.2 h.2 i j k l

theorem reg_setReg_apart {s : State} (hs : SMap.sorted s.regs = true) {r q : Reg} (h : regApart q r = true) (w : Word)
    (i j k l : Nat) : (s.setReg r w i j).reg q k l = s.reg q k l := reg_setReg_ne hs (regOff_ne h k l i j) w

theorem reg_setFld_apart {s : State} (hs : SMap.sorted s.regs = true) {f : Fld} {q : Reg} (h : regApart q f.reg = true)
    (v i j k l : Nat) : (s.setFld f v i j).reg q k l = s.reg q k l := reg_setReg_ne hs (regOff_ne h k l i j) _

theorem fld_setReg_apart {s : State} (hs : SMap.sorted s.regs = true) {r : Reg} {g : Fld} (h : regApart g.reg r = true)
    (w : Word) (i j k l : Nat) : (s.setReg r w i j).fld g k l = s.fld g k l :=
  fld_setReg_off hs (regOff_ne h k l i j) w

theorem fld_setFld_apart {s : State} (hs : SMap.sorted s.regs = true) {f g : Fld} (h : regApart g.reg f.reg = true)
    (v i j k l : Nat) : (s.setFld f v i j).fld g k l = s.fld g k l := fld_setFld_off hs (regOff_ne h k l i j) v

theorem flag_setReg_apart {s : State} (hs : SMap.sorted s.regs = true) {r : Reg} {g : Fld} (h : regApart g.reg r = true)
    (w : Word) (i j k l : Nat) : (s.setReg r w i j).flag g k l = s.flag g k l := by
  unfold State.flag; rw [fld_setReg_apart hs h]

theorem flag_setFld_apart {s : State} (hs : SMap.sorted s.regs = true) {f g : Fld} (h : regApart g.reg f.reg = true)
    (v i j k l : Nat) : (s.setFld f v i j).flag g k l = s.flag g k l := by
  unfold State.flag; rw [fld_setFld_apart hs h]

theorem cnt_count_apart {s : State} (hs : SMap.sorted s.cnts = true) {c q : Cnt} (h : cntApart q c = true)
    (i j n k l : Nat) : (s.count c i j n).cnt q k l = s.cnt q k l := cnt_count_ne hs (cntOff_ne h k l i j) n

/-- A field of one bit set to 1 is set. -/
theorem flag_setFld {s : State} (hs : SMap.sorted s.regs = true) {f : Fld} (h : f.lo ≤ f.hi) (h' : f.hi < 32)
    (v i j : Nat) : (s.setFld f v i j).flag f i j = (v % 2 ^ (f.hi + 1 - f.lo) != 0) := by
  unfold State.flag; rw [fld_setFld hs h h']

theorem flag_setFld_ne {s : State} (hs : SMap.sorted s.regs = true) {f g : Fld} (h : f.lo ≤ f.hi) (h' : f.hi < 32)
    (hr : g.reg = f.reg) (hg : g.hi < f.lo ∨ f.hi < g.lo) (v i j : Nat) : (s.setFld f v i j).flag g i j = s.flag g i j := by
  unfold State.flag; rw [fld_setFld_ne hs h h' hr hg]

end Sys2Proof.Machine
end

