-- ==== Sys2Proof/Laws/Read.lean ====
section
/-!
SUPPORT. What reads as before after an operation that does not write it, and exact frames step by step.
-/
namespace Sys2Proof.Machine

theorem le_same (T : Touch) : T.le T := ⟨Nat.and_self _, Nat.and_self _, Nat.and_self _⟩

/-- No register that T names meets r. -/
def freeR (T : Touch) (r : Reg) : Bool :=
  !T.a.testBit 0 && (List.range 240).all fun n => !T.r.testBit n || (match regAt n with
    | some q => regApart r q
    | none => true)

/-- No counter that T names meets c. -/
def freeC (T : Touch) (c : Cnt) : Bool :=
  !T.a.testBit 2 && (List.range 240).all fun n => !T.c.testBit n || (match cntAt n with
    | some q => cntApart c q
    | none => true)

theorem regAt_lt {n : Nat} {r : Reg} (h : regAt n = some r) : n < 240 := by
  rcases Nat.lt_or_ge n 240 with h1 | h1
  · exact h1
  · unfold regAt at h
    split at h <;> first | omega | cases h

theorem cntAt_lt {n : Nat} {r : Cnt} (h : cntAt n = some r) : n < 240 := by
  rcases Nat.lt_or_ge n 240 with h1 | h1
  · exact h1
  · unfold cntAt at h
    split at h <;> first | omega | cases h

theorem ents_of_freeR {T : Touch} {s0 s : State} (h : Kept T s0 s) {r : Reg} (hf : freeR T r = true) (i j : Nat) :
    SMap.ents s.regs (r.off i j) = SMap.ents s0.regs (r.off i j) := by
  simp only [freeR, Bool.and_eq_true, Bool.not_eq_true', List.all_eq_true, List.mem_range, Bool.or_eq_true] at hf
  refine h.regs hf.1 _ ?_
  rintro q hq ⟨k, l, e⟩
  rcases hq with hq | ⟨n, hn, hb⟩
  · rw [hf.1] at hq; cases hq
  · rcases hf.2 n (regAt_lt hn) with h1 | h1
    · rw [h1] at hb; cases hb
    · rw [hn] at h1; exact regOff_ne h1 i j k l e

theorem ents_of_freeC {T : Touch} {s0 s : State} (h : Kept T s0 s) {c : Cnt} (hf : freeC T c = true) (i j : Nat) :
    SMap.ents s.cnts (c.off i j) = SMap.ents s0.cnts (c.off i j) := by
  simp only [freeC, Bool.and_eq_true, Bool.not_eq_true', List.all_eq_true, List.mem_range, Bool.or_eq_true] at hf
  refine h.cnts hf.1 _ ?_
  rintro q hq ⟨k, l, e⟩
  rcases hq with hq | ⟨n, hn, hb⟩
  · rw [hf.1] at hq; cases hq
  · rcases hf.2 n (cntAt_lt hn) with h1 | h1
    · rw [h1] at hb; cases hb
    · rw [hn] at h1; exact cntOff_ne h1 i j k l e

theorem Kept.reg {T : Touch} {s0 s : State} (h : Kept T s0 s) (h0 : s0.Sound) (h1 : s.Sound) {r : Reg}
    (hf : freeR T r = true) (i j : Nat) : s.reg r i j = s0.reg r i j := by
  unfold State.reg SMap.getD
  rw [SMap.get?_of_ents h1.regs h0.regs (ents_of_freeR h hf i j)]

theorem Kept.fld {T : Touch} {s0 s : State} (h : Kept T s0 s) (h0 : s0.Sound) (h1 : s.Sound) {f : Fld}
    (hf : freeR T f.reg = true) (i j : Nat) : s.fld f i j = s0.fld f i j := by
  unfold State.fld; rw [h.reg h0 h1 hf]

theorem Kept.flag {T : Touch} {s0 s : State} (h : Kept T s0 s) (h0 : s0.Sound) (h1 : s.Sound) {f : Fld}
    (hf : freeR T f.reg = true) (i j : Nat) : s.flag f i j = s0.flag f i j := by
  unfold State.flag; rw [h.fld h0 h1 hf]

theorem Kept.cnt {T : Touch} {s0 s : State} (h : Kept T s0 s) (h0 : s0.Sound) (h1 : s.Sound) {c : Cnt}
    (hf : freeC T c = true) (i j : Nat) : s.cnt c i j = s0.cnt c i j := by
  unfold State.cnt SMap.getD
  rw [SMap.get?_of_ents h1.cnts h0.cnts (ents_of_freeC h hf i j)]

/-! ### Exact frames -/

/-- The three files of s are in order, and only what is named has changed since s0. -/
structure Sofar (s0 s : State) (aa : List Area) (oo cc : List Nat) : Prop where
  sr : SMap.sorted s.regs = true
  sc : SMap.sorted s.cnts = true
  st : SMap.sorted s.tot = true
  only : s0.Only s aa oo cc

theorem Sofar.start {s : State} (h : s.Sound) (aa : List Area) (oo cc : List Nat) : Sofar s s aa oo cc :=
  ⟨h.regs, h.cnts, h.tot, ⟨fun a _ => by cases a <;> first | rfl | trivial, fun _ _ => rfl, fun _ _ => rfl,
    fun _ _ => rfl⟩⟩

theorem Sofar.setReg {s0 s : State} {aa : List Area} {oo cc : List Nat} (h : Sofar s0 s aa oo cc) (r : Reg) (w : Word)
    (i j : Nat) (hm : r.off i j ∈ oo) : Sofar s0 (s.setReg r w i j) aa oo cc := by
  refine ⟨SMap.sorted_put h.sr _ _ _, h.sc, h.st, ⟨fun a ha => ?_, fun q hq => ?_, h.only.cnts, h.only.tot⟩⟩
  · have := h.only.area a ha; cases a <;> exact this
  · rw [← h.only.regs q hq]
    exact SMap.get?_put_ne h.sr (fun e => hq (by rw [e]; exact hm)) _ _

theorem Sofar.setFld {s0 s : State} {aa : List Area} {oo cc : List Nat} (h : Sofar s0 s aa oo cc) (f : Fld) (v i j : Nat)
    (hm : f.reg.off i j ∈ oo) : Sofar s0 (s.setFld f v i j) aa oo cc := h.setReg _ _ _ _ hm

theorem Sofar.count {s0 s : State} {aa : List Area} {oo cc : List Nat} (h : Sofar s0 s aa oo cc) (c : Cnt) (i j n : Nat)
    (hm : c.off i j ∈ cc) : Sofar s0 (s.count c i j n) aa oo cc := by
  refine ⟨h.sr, sorted_count h.sc _ _ _ _, SMap.sorted_upd h.st (c.off i j) 0 (fun x => x + n),
    ⟨fun a ha => ?_, h.only.regs, fun q hq => ?_, fun q hq => ?_⟩⟩
  · have := h.only.area a ha; cases a <;> exact this
  · rw [← h.only.cnts q hq]
    exact SMap.get?_upd_ne h.sc (fun e => hq (by rw [e]; exact hm)) 0#64 (fun x => x + BitVec.ofNat 64 n)
  · rw [← h.only.tot q hq]
    exact SMap.get?_upd_ne h.st (fun e => hq (by rw [e]; exact hm)) 0 (fun x => x + n)

/-- A state that differs only in areas that are named. -/
theorem Sofar.areas {s0 s t : State} {aa : List Area} {oo cc : List Nat} (h : Sofar s0 s aa oo cc) (hr : t.regs = s.regs)
    (hc : t.cnts = s.cnts) (ht : t.tot = s.tot) (ha : ∀ a, a ∉ aa → s.agree t a) : Sofar s0 t aa oo cc := by
  refine ⟨hr ▸ h.sr, hc ▸ h.sc, ht ▸ h.st, ⟨fun a hn => ?_, fun q hq => hr ▸ h.only.regs q hq,
    fun q hq => hc ▸ h.only.cnts q hq, fun q hq => ht ▸ h.only.tot q hq⟩⟩
  have h1 := h.only.area a hn
  have h2 := ha a hn
  cases a <;> first | trivial | exact h2.trans h1

/-! ### Areas, fields, ports -/

/-- What a touch mask leaves out agrees. -/
theorem agree_of_kept {T : Touch} {s t : State} (h : Kept T s t) (a : Area) (ha : T.a.testBit (match a with
  | .regs => 0 | .shadow => 1 | .cnts => 2 | .tot => 3 | .hold => 4 | .pairs => 5 | .now => 6 | .free => 7 | .out => 8 | .sys => 9
  | .ctl => 10 | .host => 11 | .hlt => 12 | .pwr => 13 | .nvm => 14 | .cls => 15 | .time => 16 | .tbl => 17 | .leaf => 18
  | .xbar => 19 | .buf => 20 | .tm => 21 | .sky => 22 | .pending => 23) = false) : s.agree t a := by
  cases a <;> first
    | trivial | exact h.shadow ha | exact h.hold ha | exact h.pairs ha | exact h.now ha | exact h.free ha | exact h.out ha
    | exact h.sys ha | exact h.ctl ha | exact h.host ha | exact h.hlt ha | exact h.pwr ha | exact h.nvm ha
    | exact h.cls ha | exact h.time ha | exact h.tbl ha | exact h.leaf ha | exact h.xbar ha | exact h.buf ha
    | exact h.tm ha | exact h.sky ha | exact h.pending ha

theorem fld_lt (s : State) (f : Fld) (i j : Nat) : s.fld f i j < 2 ^ (f.hi + 1 - f.lo) := by
  unfold State.fld Fld.get bits; exact Nat.mod_lt _ (by positivity)

theorem portOf_setPort {s : State} (h : SMap.sorted s.leaf.ports = true) (p : Nat) (x : PortSt) :
    portOf (setPort p x s) p = x := SMap.getD_put_self h _ _ _

theorem portOf_setPort_ne {s : State} (h : SMap.sorted s.leaf.ports = true) {p q : Nat} (hq : q ≠ p) (x : PortSt) :
    portOf (setPort p x s) q = portOf s q := SMap.getD_put_ne h hq _ _ _

theorem Sofar.setPort {s0 s : State} {aa oo cc} (h : Sofar s0 s aa oo cc) (p : Nat) (x : PortSt) (hl : Area.leaf ∈ aa) :
    Sofar s0 (setPort p x s) aa oo cc := by
  refine h.areas rfl rfl rfl (fun a ha => ?_)
  cases a <;> first | rfl | trivial

theorem portOf_congr {s t : State} (h : t.leaf = s.leaf) (p : Nat) : portOf t p = portOf s p := by unfold portOf; rw [h]

theorem fld_mod (s : State) (f : Fld) (i j : Nat) : s.fld f i j % 2 ^ (f.hi + 1 - f.lo) = s.fld f i j := Nat.mod_eq_of_lt (fld_lt _ _ _ _)

/-! ### Transfers on the link -/

/-- A transfer that waits on a channel changes the channels of the link and nothing else. -/
theorem idlSend_eq (v d n room : Nat) (s : State) : ∃ m, idlSend v d n room s = { s with ctl := { s.ctl with vcs := m } } := by
  unfold idlSend
  split
  · exact ⟨s.ctl.vcs, rfl⟩
  · exact ⟨_, rfl⟩

@[simp] theorem idlSend_regs (v d n room : Nat) (s : State) : (idlSend v d n room s).regs = s.regs := by
  unfold idlSend; split <;> rfl

@[simp] theorem idlSend_cnts (v d n room : Nat) (s : State) : (idlSend v d n room s).cnts = s.cnts := by
  unfold idlSend; split <;> rfl

@[simp] theorem idlSend_tot (v d n room : Nat) (s : State) : (idlSend v d n room s).tot = s.tot := by
  unfold idlSend; split <;> rfl

@[simp] theorem idlSend_reg (v d n room : Nat) (s : State) (r : Reg) (i j : Nat) :
    (idlSend v d n room s).reg r i j = s.reg r i j := reg_congr (idlSend_regs ..) r i j

@[simp] theorem idlSend_fld (v d n room : Nat) (s : State) (f : Fld) (i j : Nat) :
    (idlSend v d n room s).fld f i j = s.fld f i j := fld_congr (idlSend_regs ..) f i j

@[simp] theorem idlSend_flag (v d n room : Nat) (s : State) (f : Fld) (i j : Nat) :
    (idlSend v d n room s).flag f i j = s.flag f i j := flag_congr (idlSend_regs ..) f i j

@[simp] theorem idlSend_cnt (v d n room : Nat) (s : State) (c : Cnt) (i j : Nat) :
    (idlSend v d n room s).cnt c i j = s.cnt c i j := cnt_congr (idlSend_cnts ..) c i j

/-- A far write of an element that the part has, with the link trained. -/
theorem far_linked {w : RegWrite} {op : State → State} {s : State} (h : linked s) (hf : fusedOff s w.off = false) :
    far w op s = op (idlSend 0 0 1 0 s) := by
  unfold far
  rw [hf]
  exact if_pos h

/-- A transfer on the link is within a frame that names the control die. -/
theorem Sofar.send {s0 s : State} {aa : List Area} {oo cc : List Nat} (h : Sofar s0 s aa oo cc) (hc : Area.ctl ∈ aa)
    (v d n room : Nat) : Sofar s0 (idlSend v d n room s) aa oo cc := by
  obtain ⟨m, e⟩ := idlSend_eq v d n room s
  rw [e]
  refine h.areas rfl rfl rfl (fun a ha => ?_)
  cases a <;> first | rfl | trivial

end Sys2Proof.Machine

namespace Sys2Proof
/-- A key that is not kept is not listed. -/
theorem SMap.get?_keep_ne {α} {m : SMap α} (q : Nat) : SMap.get? (SMap.keep m (· != q)) q = none := by
  induction m with
  | nil => rfl
  | cons e m ih =>
    obtain ⟨k, v⟩ := e
    unfold SMap.keep at ih ⊢
    rw [List.filter_cons]
    split
    · rename_i hk
      have : q ≠ k := by intro e; subst e; simp at hk
      unfold SMap.get?
      rw [if_neg this]
      split
      · rfl
      · exact ih
    · exact ih
end Sys2Proof
end

