-- ==== Sys2Proof/Tests/Slice0.lean ====
section
/-!
SUPPORT. Tests of the model: ill-formed terms that the checks refuse, small tests of single steps with results taken from
the rules of the spec, and for every statement with premises a state and operands that meet them all together.
-/
set_option Elab.async false

namespace Sys2Proof.Tests
open Sys2Proof Sys2Proof.Machine

/-! ### Soundness, decided -/

/-- Every part of `State.Sound` as one test. -/
def soundB (s : State) : Bool :=
  SMap.sorted s.regs && SMap.sorted s.shadow && SMap.sorted s.cnts && SMap.sorted s.tot && SMap.sorted s.hold
  && SMap.sorted s.pairs && SMap.sorted s.ctl.msix && SMap.sorted s.ctl.intAt && SMap.sorted s.ctl.vcs
  && SMap.sorted s.ctl.arbs && SMap.sorted s.ctl.pols && SMap.sorted s.ctl.accounts
  && SMap.sorted s.host.rings && Memory.wf s.host.mem && Memory.wf s.host.ext && SMap.sorted s.host.txLast
  && SMap.sorted s.hlt.wins && SMap.sorted s.hlt.winCfg && SMap.sorted s.hlt.bktAt && SMap.sorted s.hlt.led
  && SMap.sorted s.hlt.offs && SMap.sorted s.hlt.diffs && SMap.sorted s.hlt.flog && Memory.wf s.nvm.flash
  && SMap.sorted s.cls.rules && SMap.sorted s.cls.staging && SMap.sorted s.cls.edits && SMap.sorted s.cls.tmpls
  && SMap.sorted s.cls.flows && SMap.sorted s.time.rx && SMap.sorted s.time.offs && SMap.sorted s.time.sums
  && SMap.sorted s.tbl.slots && SMap.sorted s.tbl.filters && SMap.sorted s.tbl.nhs && SMap.sorted s.tbl.groups
  && SMap.sorted s.tbl.members && SMap.sorted s.tbl.lags && SMap.sorted s.leaf.ports && SMap.sorted s.leaf.lanes
  && SMap.sorted s.leaf.samples && SMap.sorted s.leaf.copies && SMap.sorted s.leaf.looks && SMap.sorted s.leaf.inLooks
  && SMap.sorted s.xbar.feed && SMap.sorted s.xbar.stage && SMap.sorted s.xbar.nextSeq && SMap.sorted s.xbar.spent
  && SMap.sorted s.xbar.rr && SMap.sorted s.xbar.grant && SMap.sorted s.xbar.accept && SMap.sorted s.xbar.matched
  && SMap.sorted s.xbar.cross && SMap.sorted s.xbar.reo && SMap.sorted s.buf.tiles
  && SMap.sorted s.buf.freeAt && SMap.sorted s.buf.taken && SMap.sorted s.buf.metas
  && SMap.sorted s.tm.queues && SMap.sorted s.tm.charge && SMap.sorted s.tm.shapers && SMap.sorted s.tm.pols
  && SMap.sorted s.tm.was && SMap.sorted s.tm.wxLog
  && SMap.sorted s.sky.lanes && SMap.sorted s.sky.traces && SMap.sorted s.sky.pairs && SMap.sorted s.sky.reseq
  && SMap.sorted s.sky.wrr && SMap.sorted s.sky.wrr0 && SMap.sorted s.sky.rounds && SMap.sorted s.sky.offered
  && SMap.sorted s.sky.used && SMap.sorted s.sky.offeredLast && SMap.sorted s.sky.usedLast && SMap.sorted s.sky.spare
  && SMap.sorted s.sky.cands && SMap.sorted s.sky.inForce

theorem sound_of {s : State} (h : soundB s = true) : s.Sound := by
  simp only [soundB, Bool.and_eq_true, and_assoc] at h
  obtain ⟨h1, h2, h3, h4, h5, h6, c1, c2, c3, c4, c5, c6, o1, o2, o3, o4, l1, l2, l3, l4, l5, l6, l7, n1, k1, k2, k3, k4,
      k5, t1, t2, t3,
    b1, b2, b3, b4, b5, b6, p1, p2, p3, p4, p5, p6, x1, x2, x3, x4, x5, x6, x7, x8, x9, x10, f1, f2, f3, f4, m1, m2, m3,
        m4, m5, m6,
    s1, s2, s3, s4, s5, s6, s7, s8, s9, s10, s11, s12, s13, s14⟩ := h
  exact ⟨h1, h2, h3, h4, h5, h6, ⟨c1, c2, c3, c4, c5, c6⟩, ⟨o1, o2, o3, o4⟩, ⟨l1, l2, l3, l4, l5, l6, l7⟩, ⟨n1⟩, ⟨k1, k2,
      k3, k4, k5⟩,
    ⟨t1, t2, t3⟩, ⟨b1, b2, b3, b4, b5, b6⟩, ⟨p1, p2, p3, p4, p5, p6⟩, ⟨x1, x2, x3, x4, x5, x6, x7, x8, x9, x10⟩, ⟨f1, f2,
        f3, f4⟩,
    ⟨m1, m2, m3, m4, m5, m6⟩, ⟨s1, s2, s3, s4, s5, s6, s7, s8, s9, s10, s11, s12, s13, s14⟩⟩

theorem all_some {α : Type} {o : Option α} {P : α → Prop} [DecidablePred P] (h : o.all (fun x => decide (P x)) = true) :
    ∀ x, o = some x → P x := by
  rintro x rfl
  simpa using h

theorem keys_stand {s : State} (h : s.pwr.resetAt.all (fun r => decide (r.clk ≠ s.regClk)) = true) : keysStand s := by
  intro r hr
  simpa [hr] using h

def openB (l : List RUnit) : Bool :=
  match l with
  | u :: _ => match u.st with
    | .done _ => false
    | _ => true
  | [] => true

theorem head_open {l : List RUnit} (h : openB l = true) : ∀ u us, l = u :: us → ∀ c, u.st ≠ .done c := by
  rintro u us rfl c hc
  simp [openB, hc] at h

/-! ### Ill-formed operands are refused -/

/-- R388: a reading for each of 18 sensors. -/
theorem test_wf_climate : (Instr.dusk ⟨2500, 2500, 900, 2300, List.replicate 17 2600⟩).wf = false := by decide

/-- R43: a frame has its FCS. -/
theorem test_wf_frame_short : (Instr.leafRxFrame 5 ⟨[1, 2, 3], false, 0, false⟩ []).wf = false := by decide

/-- R122: no more cells have entered early than the frame has bytes. -/
theorem test_wf_frame_early : (Instr.pauseFrameRx 5 ⟨[1, 2, 3, 4], false, 5, false⟩).wf = false := by decide

/-- R205: a receiver has at least the 128 symbols of a preamble, of four levels. -/
theorem test_wf_burst : (Instr.skyBurstRx 3 ⟨[3, 0], 0, 0, [], [], 0, [], .none⟩).wf = false := by decide

/-- R205: a sample of a preamble is a level of PAM4. -/
theorem test_wf_burst_level : (Instr.skyBurstRx 3 ⟨List.replicate 128 4, 0, 0, [], [], 0, [],
    .none⟩).wf = false := by decide +kernel

/-- R204: a correction lies in its codeword of 272 bytes. -/
theorem test_wf_burst_fix :
    (Instr.skyBurstRx 3 ⟨List.replicate 128 3, 0, 0, [], [[(272, 1)]], 0, [], .none⟩).wf = false := by decide +kernel

/-- R286: a link that is up has a width. -/
theorem test_wf_link : (Instr.pcieLinkUp 0 true).wf = false := by decide

/-- A store writes at least one byte. -/
theorem test_wf_store : (Instr.doorbell .app 3 7#32 [(0x80000000, [])]).wf = false := by decide

/-- No row of the table gives bits. -/
theorem test_decode_none : decodeTableWord 16 0x1234 = none := by decide

/-! ### Numbers of the spec's examples -/

/-- The address of TM_Q_SHAPER_A of port 52 and class 3 in the example after R370. -/
theorem test_shaper_address : Reg.off .TM_Q_SHAPER_A 52 3 = 0x613470 := by decide

/-- The offset of SKY_PAIR_LOST_CNT for peer 77 in the example after R375. -/
theorem test_pair_counter_address : Cnt.off .SKY_PAIR_LOST_CNT 77 = 0x744690 := by decide

/-- 100 quanta at 400 Gb/s are 204.8 core clocks, counted as 205 (the example after R47). -/
theorem test_pause_quanta : quantaClocks State.reset 52 100 = 205 := by decide +kernel

/-- Plane 0 with OFFSET 5: module 1 reaches module 3 on channel 7 (the example after R184). -/
theorem test_channel :
    channel ((State.reset.setFld .SKY_PLANE_OFFSET_OFFSET 5 0).setFld .SKY_CFG_MODULE_ID 1) 0 3 = 7 := by decide +kernel

/-- A frame of 1,518 bytes occupies 7 cells (the example of the frame's path). -/
theorem test_cells : cellCount 1518 = 7 := by decide

/-- Readings that differ by 1 in 20,000,000 are 5 × 10⁻⁸ apart, not more (R270). -/
theorem test_oscillators :
    oscillatorsApart 20000000 20000001 = false ∧ oscillatorsApart 20000000 19999998 = true := by decide

/-- HEAD 0xFFFF_FE10 and TAIL 0x0000_0010 are 512 entries apart (the example after R311). -/
theorem test_ring_distance : sub32 0x00000010 0xFFFFFE10 = 512 := by decide

/-- The carve of the example after R160: the pools end at 119 GiB and the metadata takes 1 GiB. -/
theorem test_carve :
    metaBase [16777216, 4194304, 4194304, 5701632] = 119 ∧ metaGib [16777216, 4194304, 4194304, 5701632] = 1 := by
  decide +kernel

/-- Port 52 of a group in MODE 2 uses lanes 52 to 55 (the example after R433). -/
theorem test_port_lanes :
    portLanes (State.reset.setFld .LEAF_GROUP_STATUS_MODE_ACTIVE 2 3) 52 = [52, 53, 54, 55]
    ∧ lanePort (State.reset.setFld .LEAF_GROUP_STATUS_MODE_ACTIVE 2 3) 55 = 52 := by decide +kernel

/-- The published check values of CRC-32 and CRC-32C over the digits 1 to 9. -/
theorem test_crcs :
    fcsOf [0x31, 0x32, 0x33, 0x34, 0x35, 0x36, 0x37, 0x38, 0x39] = 0xCBF43926
    ∧ crc32c [0x31, 0x32, 0x33, 0x34, 0x35, 0x36, 0x37, 0x38, 0x39] = 0xE3069283 := by decide +kernel

/-- α^8 is 0x1D in the field of R204. -/
theorem test_field : gfPow 8 = 0x1D ∧ gfMul 0x80 2 = 0x1D := by decide

/-- A codeword of R204 divides by its generator: its syndromes at α^0 and α^1 are zero. -/
theorem test_parity :
    ((rsEncode 4 [1, 2, 3, 4, 5]).foldl (fun a b => a ^^^ b.toNat) 0) = 0
    ∧ ((rsEncode 4 [1, 2, 3, 4, 5]).foldl (fun a b => gfMul a 2 ^^^ b.toNat) 0) = 0 := by decide

set_option maxRecDepth 10000 in
/-- R204: four parity bytes correct two wrong bytes of a codeword, wherever they stand. -/
theorem test_decode_two :
    (rsDecode 4 ((rsEncode 4 [1, 2, 3, 4, 5]).set 1 0x77#8 |>.set 7 0x55#8)).map (fun e => (e.1, e.2))
      = some ([1, 2, 3, 4, 5], 2) := by decide +kernel

/-- R132: a check bit and a data bit of a crossbar tag that turn over cannot be corrected, and one alone can. -/
theorem test_tag_errors :
    let x : XCell := { cell := {}, src := 3, out := 5, queue := 77, xseq := 1234 }
    (readTag (tagWord x ^^^ 3)).isNone = true ∧ (readTag (tagWord x ^^^ 2 ^ 40)).isSome = true := by decide +kernel

/-! ### Single steps -/

/-- A step on an empty queue passes one clock and ten units of the time counter (R256). -/
theorem test_tick : (match step State.reset with
    | .next t => decide (t.now = 1 ∧ t.time.ts = 10 * 2 ^ 48)
    | _ => false) = true := by decide +kernel

/-- A step takes the command at the front and leaves the rest. -/
theorem test_step_order : (match step { State.reset with pending := [.headlessEntryComplete, .pcieLinkDown] } with
    | .next t => decide (t.pending = [.pcieLinkDown])
    | _ => false) = true := by decide +kernel

/-! ### States and operands that meet the premises -/

def up : State := ((({ State.reset with now := 5000000000, pwr := { State.reset.pwr with seq := .up, stopped := false, keeperUp := true, appHeld := false } }
  ).setFld .SYS_PLANE_STATE_IDL_UP 1).setFld .KEEP_STATUS_ALIVE 1)
def hdl (n : Nat) : State := ((up.setFld .SYS_PLANE_STATE_HEADLESS 1).setFld .SYS_PLANE_STATE_CAUSE n)
def modP (p : Nat) (f : PortSt → PortSt) (s : State) : State := setPort p (f (portOf s p)) s
def modR (p : Nat) (f : RingSt → RingSt) (s : State) : State := setRing p (f (ringOf s p)) s
def win0 (s : State) : State :=
  (s.setReg .HOST_WIN_CFG 0xC000001E#32).setReg .HOST_WIN_XLATE_LO 0x80000000#32
def ringOn (r : Nat) (s : State) : State :=
  modR r (fun x => { x with everEn := true }) ((((((s.setFld .HOST_RING_CTRL_EN 1 r).setReg .HOST_RING_BASE_LO (BitVec.ofNat 32 (r * 0x10000)) r).setReg
    .HOST_RING_WB_LO (BitVec.ofNat 32 (0x1000000 + 64 * r)) r).setFld .HOST_RING_STATUS_RUNNING 1 r).setReg
    .HOST_CPL_BASE_LO (BitVec.ofNat 32 (0x2000000 + r * 0x10000)) r).setReg .HOST_CPL_WB_LO (BitVec.ofNat 32 (0x3000000 + 64 * r)) r)
def note (k : RKind) : NRec := ⟨k, 1, 2, 3, 4, 5⟩
def withLog (l : List (List NRec)) (s : State) : State := { s with sys := { s.sys with backlog := l } }
def u1 : State := win0 up
def mk1 (id : Byte) : Marker := ⟨Machine.markerPattern, id, ~~~id, false⟩
def trainP (p : Nat) (s : State) : State := startLine p ((s.setFld .LEAF_PORT_CFG_EN 1 p).setFld .LEAF_PORT_STATUS_ACTIVE 1 p)
def portOn (p : Nat) (s : State) : State := ((trainP p s).setFld .LEAF_PORT_STATUS_LINK_UP 1 p)
def frame (h : List Byte) : RxFrame :=
  let d := h ++ List.replicate (60 - h.length) 0
  ⟨d ++ fcsBytes d, false, 0, false⟩
def pauseF : RxFrame := frame (pauseMac ++ [2,0,0,0,0,1, 0x88,0x08, 0,1, 0,7])
def eth : RxFrame := frame [2,0,0,0,0,9, 2,0,0,0,0,1, 0x86,0xDD]
def ent (w : List Nat) : List Byte := toLe 8 (w.getD 0 0) ++ toLe 8 (w.getD 1 0) ++ toLe 8 (w.getD 2 0) ++ toLe 8 (w.getD 3 0)
def hd (op bank idx : Nat) : Nat := bank * 2^56 + op * 2^48 + idx
def ents (op bank idx : Nat) (pay : List Nat) : List (List Byte) :=
  (List.range (max 1 ((pay.length + 2) / 3))).map (fun p => ent (((if p = 0 then hd op bank idx else 0)) :: (pay.drop (3*p)).take 3))
def unitOf (ds : List (List Byte)) : RUnit := { id := 4, first := 7, nent := ds.length, cookie := 99, st := .fetched (ds.mapIdx (fun i d => ⟨7 + i, some d⟩)) }
def putOp (r : Nat) (ds : List (List Byte)) (s : State) : State := modR (128 + r) (fun x => { x with units := [unitOf ds], nextId := 5, everEn := true }) s
def dn : State := { up.setFld .SYS_PLANE_STATE_IDL_UP 0 with ctl := { up.ctl with idlDownAt := some 4999000000, vcs := [(0, ⟨1,2,3,4,[]⟩)] } }
def grp3 : State := (up.setFld .LEAF_GROUP_CFG_MODE 3 2).setFld .LEAF_GROUP_CFG_LANE_RATE 1 2
def half : State := { up with sys := { up.sys with part := .s1024 } }
def bad4 : List Marker := List.replicate 4 { mk1 0 with laneIdInv := 7 }
def hw : State := modP 5 (fun x => { x with holdTill := some 7, ready := some 1000000 }) ((trainP 5 up).setFld .LEAF_PORT_STATUS_FROZEN 1 5)
def wp : State := ((trainP 5 up).setFld .LEAF_PORT_STATUS_DOZING 1 5).setReg .LEAF_WAKE_PAT_LO 0x12345678 5
def pz : State := (portOn 5 up).setFld .LEAF_PORT_CFG_PAUSE_MODE 1 5
def pd : State := modP 5 (fun x => { x with paused := [(3, 4999000000)], pauseOut := [(3, 9), (4, 8)], pausedAt := [(3, 1)], trig := [3], stall := [(4, 5)], holdoff := [(3, 8)] }) ((((portOn 5 up).setFld .LEAF_PORT_CFG_PAUSE_MODE 2 5)).setFld .LEAF_PAUSE_WD_CFG_PAUSE_WD_LIMIT 5 5)
def ethCell : Cell := { kind := 3, flen := 68, dstPort := 5, srcPort := 3, pay := eth.data }
def qs (u : QUnit) : State := setQueue (leafQ 5 0) { units := [u] } (portOn 5 up)
def un : QUnit := { n := 1, cells := [(3, ethCell)], src := 0, closed := true, at_ := 0, flen := eth.data.length }
def qs0 : State := refreshPort 5 (qs un)
def qs1 : State := (startLookup 0 qs0).2
def qd : SMap Nat := ((pickClass qs0 5).get!).2.2
def qr : Nat := ((pickClass qs0 5).get!).2.1
def qs2 : State := keepChoice 5 0 qr qd qs1
def egx (s : State) : EditFrame := match (egress s 5 un).res with | .ok x => x | _ => EditFrame.ofWalk [] []
def us : QUnit := { un with started := true }
def rules (s : State) : State := { s with cls := { s.cls with rules := [(77, { valid := true, badKey := true, badMask := true, badAct := true, badCtl := true }), (78, { valid := true })] } }
def stg (i : Nat) (s : State) : State := { s with cls := { s.cls with staging := [(2, { index := 77, mask := some (5, 3) }), (3, { index := i, key := some (7, 2, true), mask := some (5, 3), action := some 12 })] } }
def d1 := ents 0x10 0 77 [1,2,3,4,5,6,7,8,9,10,0x15]
def d3 := ents 0x10 0 77 [1,2,3,4,5,6,7,8,9,10,0x15]
def d7 := ents 0x10 0 98304 [1,2,3,4,5,6,7,8,9,10,0x15]
def d10 := ents 0x11 0 77 [1,2,3,4,5,6,7,8,9,10,0x15]
def d12 := ents 0x11 0 77 [1,2,3,4,5,6,7,8,9,10,0x15]
def d16 := ents 0x11 0 98304 [1,2,3,4,5,6,7,8,9,10,0x15]
def d19 := ents 0x12 0 77 [1,2,3,4,5,6,7,8,9,10,0x15]
def d21 := ents 0x12 0 77 [1,2,3,4,5,6,7,8,9,10,0x15]
def d25 := ents 0x12 0 98304 [1,2,3,4,5,6,7,8,9,10,0x15]
def d34 := ents 0x13 0 98304 [1,2,3,4,5,6,7,8,9,10,0x15]
def d37 := ents 0x13 0 77 [1]
def d49 := ents 0x14 0 16383 [1,2,3,4]
def d50 := ents 0x14 0 16384 [1,2,3,4]
def d51 := ents 0x15 0 7 [0x1260,2,3,4,5,6,7,8,9,10,11,12]
def d52 := ents 0x26 0 7 [3*2^48 + 24*2^40 + 16*2^32 + 8*2^24]
def d53 := ents 0x26 1 7 [3*2^48 + 24*2^40 + 16*2^32 + 16*2^24]
def d54 := ents 0x28 0 7 [2^63+4*2^60+77*2^40+2^38+5*2^24]
def d55 := ents 0x28 0 7 [2^63+5*2^60+77*2^40+2^38+5*2^24]
def d56 := ents 0x29 0 7 [1047552*2^44+1024*2^32]
def d57 := ents 0x2A 0 7 [1047552*2^44]
def d58 := ents 0x2B 0 7 [2^63+5*2^56+7*2^48]
def cach (s : State) : State := { s with tbl := { s.tbl with cache := [⟨5, 0x020000000001, 0, 3, none, none, 0, 0⟩, ⟨6, 0x020000000001, 0, 3, none, some 7, 0, 0⟩] } }
def lpmR (s : State) : State := (s.setFld .TBL_LPM_REGION_EN 1 0 24).setFld .TBL_LPM_REGION_EN 1 0 133
def d60 := ents 0x21 0 0 [5*2^48+0x020000000001, 2^62+9*2^42+2^41]
def d63 := ents 0x20 0 0 [5*2^48+0x020000000001, 2^62+9*2^42+2^41]
def d65 := ents 0x23 0 0 [0,0x0A000001,3*2^54+7*2^32+2^31]
def d68 := ents 0x22 0 0 [0,0x0A000001,3*2^54+7*2^32+2^31]
def d75 := ents 0x25 0 0 [0,0x0A000001,3*2^54+7*2^32+24*2^23]
def d78 := ents 0x24 0 0 [0,0x0A000001,3*2^54+7*2^32+24*2^23]
def c5 : Cand := ⟨5, 0x020000000001, 0, 3, none, none, 0, 0⟩
def lr (s : State) := cach (ringOn 160 (win0 s))
def d84 := ents 0x2C 0 0 [5*2^48+0x020000000001]
def me : Ent := { key := .mac 5 7, hit := true }
def sw (e : Ent) (s : State) : State := let s := ((s.setFld .TBL_AGE_CFG_PERIOD_S 10).setFld .TBL_AGE_STATUS_ACTIVE 1).setFld .TBL_AGE_STATUS_POSITION 5
  { s with tbl := { s.tbl with slots := [(5, ⟨some e, false, none⟩), (6, ⟨some { e with key := .mac 5 8 }, false, none⟩)] } }
def i5 : Nat := 5
def tc (b n : Nat) (s : State) : State := (s.setReg .TBL_CLEAR_BASE (BitVec.ofNat 32 b)).setReg .TBL_CLEAR_COUNT (BitVec.ofNat 32 n)
def cl : State := let s := sw me (up.setFld .TBL_CLEAR_CTRL_BUSY 1); { s with tbl := { s.tbl with clearing := some (6, 3) } }
def dm (n : Nat) : DumpSt := ⟨131, 4, 0, true, 99, 7, n, 3⟩
def dst (n : Nat) (s : State) : State := { s with host := { s.host with dump := some (dm n), dumpq := [dm 44, dm 45] }, cls := { s.cls with flows := [(7, (1, 2)), (8, (3, 4))] } }
def d85 := ents 0x30 0 5 [2^61+10]
def d86 := ents 0x30 0 5 [2^61+10]
def d87 := ents 0x30 0 5 [0]
def e2 := ents 0x13 0 77 [1]
def xc (n : Nat) : XCell := { cell := { kind := 3, flen := 68, pay := eth.data, dstPort := 5 }, src := 2, out := 0, queue := 40, xseq := n, at_ := 100 }
def sf (s : State) : State := { s with xbar := { s.xbar with feed := [(2, [xc 0, xc 0])], nextSeq := [(64, 65535)], spent := [(64, 17)], rr := [(64, 15)] } }
def sf2 (s : State) : State := { s with xbar := { (sf s).xbar with spent := [(64, 256)] } }
def sm (s : State) : State := { s with xbar := { s.xbar with stage := [((32*2+5)*16+3, [xc 1, xc 2]), ((32*2+6)*16+3, [xc 1]), ((32*4+5)*16+3, [xc 1])] } }
def sm1 (s : State) : State := { s with xbar := { s.xbar with stage := [((32*2+5)*16+3, [xc 1, xc 2]), ((32*2+5)*16+4, [xc 1])] } }
def sm2 (s : State) : State := { s with xbar := { (sm1 s).xbar with matched := [(3, s.now/4 + 1)] } }
def sa (x : XCell) (s : State) : State := (portOn 5 { s with xbar := { s.xbar with cross := [(3*32, [x, xc 9])], spent := [(64, 3)], reo := [(2, { next := 7 })] } }).setReg .BUF_POOL_FREE 1572864 4
def sg (e : Nat) (s : State) : State := { s with xbar := { s.xbar with reo := [(2, { next := 7, held := [xc 10, xc 9, xc 9], gapAt := some e })], spent := [(64, 5)] } }
def pb : State := { ((up.setFld .XBAR_PLANE_CTRL_PLANE_EN 0xFFFF).setFld .XBAR_PLANE_STATUS_IN_SERVICE 0xFFEF) with xbar := { up.xbar with back := [(4, 1249999999)] } }
def pbx : State := { pb with xbar := { pb.xbar with back := [(4, 1250000000)] } }
def crv (s : State) : State := ((((s.setReg .BUF_CARVE_TILES 6400 0).setReg .BUF_CARVE_TILES 640 1).setReg .BUF_CARVE_TILES 64 2).setReg .BUF_CARVE_TILES 64 3).setFld .BUF_CFG_SPILL_EN 0
def scr (x : List (Nat × TileSt)) (p n : Nat) (s : State) : State := { ((s.setFld .BUF_SCRUB_CFG_EN 1).setFld .BUF_SCRUB_STATUS_POOL p).setFld .BUF_SCRUB_STATUS_POSITION n with buf := { tiles := x, carved := [64,0,0,64] } }
def spu (u : QUnit) (k : Nat) (s : State) : State := setQueue k { units := [{ u with spill := false }, u] } { ((s.setFld .BUF_CFG_SPILL_EN 1).setFld .BUF_CARVE_STATUS_DONE 1).setFld .PWR_STATUS_SIMMER 0 with buf := { tiles := [(0, {}), (7 + 2^30, {}), (8 + 2^30, {})], carved := [64,0,0,0] } }
def ce (n : Nat) : Cell := { kind := 2, flen := n, pay := [1,2,3], dstPort := 5 }
def un1 : QUnit := { n := 2, cells := [(7, ce 300), (8, ce 300)], src := 0, closed := true, at_ := 0, flen := 300, spill := true }
def un3 : QUnit := { un1 with closed := false, spill := false }
def un4 : QUnit := { un1 with hbm := some (0, 0), spill := true }
def rf (u : QUnit) (k : Nat) (s : State) : State := setQueue k { units := [u] } { ((s.setFld .BUF_CFG_SPILL_EN 1).setFld .BUF_CARVE_STATUS_DONE 1).setFld .PWR_STATUS_SIMMER 0 with buf := { tiles := [(0, {}), (7 + 2^30, {}), (8 + 2^30, {})], carved := [64,0,0,0] } }
def rfm (s : State) : State := setMeta 0 0 (unitRecord [64,0,0,0] 0 0 (un4.cells.map (fun e => e.2))) (rf un4 40 s)
def spt (s : State) : State := { spu un1 40 s with buf := { (spu un1 40 s).buf with taken := [(256, 5000000001)] } }
def spf (s : State) : State := { spu un1 40 s with buf := { (spu un1 40 s).buf with carved := [1,0,0,0] } }
def shp (s : State) (m : Nat) : State := { (((s.setFld .TM_PORT_SHAPER_A_MODE m 5).setFld .TM_PORT_SHAPER_A_INC 1000 5).setFld .TM_Q_SHAPER_A_MODE m 5 3).setFld .TM_Q_SHAPER_B_PIR_INC 77777 5 3 with now := 6400, tm := { s.tm with shapers := [(5, { mode := 1, c := -5, tc := 55, tp := 56, last := 3 }), (299, { mode := 2, c := -5, tc := 55, tp := 56, last := 3 })] } }
def shl : State := setPort 5 { portOf (shp up 1) 5 with tx := some ⟨3, 5, 5, none, {}, none, 1⟩ } (shp up 1)
def wxs (n : Nat) (s : State) : State := (List.range n).foldl (fun s i => s.setFld .TM_WX_WATCH_EN 1 (3 * i)) ({ ((s.setFld .TM_WX_CFG_EN 1).setFld .TM_WX_CFG_PERIOD_US 2).setFld .SYS_PLANE_STATE_HEADLESS 0 with time := { s.time with ts := 16000 * 20 * 2^48, before := (16000 * 20 - 10) * 2^48 } })
def sk (st k : Nat) (s : State) : State :=
  let s := { s with regs := s.regs.filter (fun e => !(e.1 == Reg.off .SKY_CFG || e.1 == Reg.off .SKY_MAP_STATUS || e.1 == Reg.off .SKY_STATE || e.1 == Reg.off .SKYT_STATUS || (decide (Reg.off .SKY_MAP_BANK ≤ e.1) && decide (e.1 < Reg.off .SKY_MAP_BANK + 0x40000)))) }
  let s := { s with time := { s.time with ts := ((100 * 128 + k) * 2048 + 100) * 2^48 }, sky := { s.sky with epoch := 100 } }
  (((((s.setFld .SKY_STATE_STATE st).setFld .SKY_STATE_MAP 0).setFld .SKY_STATE_TX_OFF 0).setFld .SKYT_STATUS_STEPPED 1).setFld .SKYT_STATUS_VALID 1).setFld .SKY_TX_EN_EN 1
def ky (s : State) : State := { s with ctl := { s.ctl with keySoft := some 6000000000, keyKeep := some 7000000000 } }
def wEN : Word := 1
def chs (n : Nat) (s : State) : State := setSlane n { slane s n with chosen := [⟨3, 0, 4, 2060, 9, {}, true⟩], fill := some ⟨100, 4⟩, live := true } s
def lv (n : Nat) (s : State) : State := setSlane n { slane s n with live := true } s
def bank (b : Nat) (s : State) : State := (List.range 64).foldl (fun s i => s.setReg .SKY_MAP_BANK 0xFEFEFEFE#32 b i) s
def goodBank (s : State) : State := (bank 1 (s.setFld .SKY_CFG_EPOCH_LOG2 5))
def arm (b id ea : Nat) (s : State) : State := { s.setFld .SKY_MAP_STATUS_VALIDATING 1 with sky := { s.sky with arming := some (5, b, id, ea) } }
def armd (ea : Nat) (s : State) : State := { ((s.setFld .SKY_MAP_STATUS_ARMED 1).setFld .SKY_MAP_STATUS_ARMED_BANK 1).setFld .SKY_MAP_STATUS_ARMED_MAP_ID 9 with sky := { s.sky with applyAt := ea } }
def ep (s : State) : State := { s with sky := { s.sky with epoch := 99 } }
def T := true
def lanesOn (s : State) : State := ((List.range 8).foldl (fun s i => (s.setReg .SKY_LANE_EN 0xFFFFFFFF#32 i).setReg .SKY_LANE_FAULT 0 i) s).setFld .OPT_LANE_BIAS_DISABLE 0 (256 + 17)
def pp (s : State) : State := ((lanesOn (s.setReg .SKY_MAP_BANK 0x07070707 0 ((256*3+16)/4))).setFld .SKY_PEER_PRESENT 1 7)
def hdrOf (fmt src lane elo slot : Nat) : List Byte :=
  let v := 0xB4E15A2D * 2^(480-256) + fmt * 2^(472-256) + src * 2^(465-256) + lane * 2^(456-256) + elo * 2^(440-256) + slot * 2^(432-256)
  let c := crc32c (toBe 28 (v / 2^32))
  toBe 32 (v + c)
def preOf : List Nat := (List.range 128).map (fun i => if i % 2 = 0 then 3 else 0)
def brst (h : List Byte) (e : Nat) (ts : Nat) : RxBurst :=
  let w := scramble (2 ^ 31 - 1) ((rsEncode 4 (h ++ List.replicate 32 0)).drop 4)
  ⟨preOf, 0xB4E15A2D, ts,
      (w.take 20).map (fun b => b) ++ ((w.drop 20).mapIdx (fun i b => if i < e then b ^^^ 0x55#8 else b)), [], 0, [],
      .none⟩
def tsOf (k : Nat) : Nat := (100 * 128 + k) * 2048
def rcv := sk 3 3 up
def dsk (s : State) : State := { s with sky := { s.sky with desk := [⟨⟨99, 5⟩, 3, 4, 2, { kind := 3, dstMod := 0 }, 7⟩, ⟨⟨99, 6⟩, 3, 4, 2, {}, 7⟩, ⟨⟨99, 5⟩, 2, 4, 2, {}, 7⟩] } }
def hl (q : Nat) : Held := ⟨q, 4, { kind := 3, seq := q }, 7⟩
def rsq (s : State) : State := setReseq 5 2 { synced := true, next := 10, held := [hl 20, hl 15, hl 15, hl 16], opened := [(3, { kind := 1 })] } s
def pto (e : Nat) (s : State) : State := { (setPair 5 { hello := 20, rg := 7 } (s.setFld .SKY_PEER_PRESENT 1 5)).setFld .SKY_PEER_CFG_TIMEOUT 70 with sky := { (setPair 5 { hello := 20, rg := 7 } (s.setFld .SKY_PEER_PRESENT 1 5)).sky with epoch := e } }
def jn (s : State) : State := let s := (s.setFld .SKYT_STATUS_STEPPED 0).setFld .SKYT_STATUS_FOUND_READY 0; { s with time := { s.time with run := 4, marks := (List.range 9).map (fun i => (i, 100, 100, 5)), role := 1, heardAt := 0 } }
def hold (e own : Nat) (s : State) : State := { s with time := { s.time with role := 1, heldAt := some e, ownEnd := own } }
def lh (e : Option Nat) : State := let s := sk 3 3 up; { s with time := { s.time with heardClk := e } }
def kw (off : Nat) (s : State) : State := { s with ctl := { s.ctl with keepKeyed := [(s.regClk, off)] } }
def ky_a6 (s : State) : State := { s with ctl := { s.ctl with keySoft := some 6000000000, keyKeep := some 7000000000 } }
def mb (m code : Nat) (s : State) : State := (((s.setFld .KEEP_MBOX_CMD_BUSY 1 m).setFld .KEEP_MBOX_CMD_CODE code m).setFld .KEEP_MBOX_CMD_BUSY 0 (1-m)).setFld .KEEP_STATUS_DUSK 0
def mw (m : Nat) (l : List Nat) (s : State) : State := (l.zipIdx).foldl (fun s e => s.setReg .KEEP_MBOX_DATA (BitVec.ofNat 32 e.1) m e.2) s
def ord : List Nat := (List.range 8).map (fun w => shedWord (fun k => 31 - k) w)
def lg (s : State) : State := { s with hlt := { s.hlt with logSeq := 8, flog := [(5, logBytes ⟨1, note .fault, 4, 0, 0⟩ 5), (6, [1,2,3])] } }
def cc : Instr := .mboxReadLog 1
def rfu (s : State) : State := (s.setFld .KEEP_STATUS_DUSK 0).setFld .KEEP_CFG_REDFISH_EN 1
def img : List Byte := List.replicate 4096 7
def own (b : Nat) (s : State) : State := s.setReg .CTL_RING_OWNER (BitVec.ofNat 32 b)
def hl0 (s : State) : State := s.setFld .SYS_PLANE_STATE_HEADLESS 0
def cf (s : State) (r : Nat) : State := (s.setReg .HOST_RING_CFG 0x00060000#32 r).setReg .HOST_CPL_CFG 6 r
def rd (r h t : Nat) (s : State) : State := setHead r h (setTail r t (cf (ringOn r (win0 s)) r))
def dl : List (Nat × List Byte) := [(0x80000005, [1,0,3])]
def cr (r h t : Nat) (s : State) : State := (s.setReg .HOST_CPL_HEAD (BitVec.ofNat 32 h) r).setReg .HOST_CPL_TAIL (BitVec.ofNat 32 t) r
def hb : State := { (own 0 (up.setReg .CTL_PCIE_STATUS 9)) with ctl := { up.ctl with msixHeld := [5, 175, 4], msix := [(5, ⟨0xFEE00010, 77, false⟩)] } }
def rf1 : State := (rfu up).setFld .PWR_STATUS_STEEP 0
def cf_a7 (s : State) (r : Nat) : State := (s.setReg .HOST_RING_CFG 0x00060000#32 r).setReg .HOST_CPL_CFG 6 r
def rd_a7 (r h t : Nat) (s : State) : State := setHead r h (setTail r t (cf_a7 (ringOn r (win0 s)) r))
def cr_a7 (r h t : Nat) (s : State) : State := (s.setReg .HOST_CPL_HEAD (BitVec.ofNat 32 h) r).setReg .HOST_CPL_TAIL (BitVec.ofNat 32 t) r
def own_a7 (b : Nat) (s : State) : State := s.setReg .CTL_RING_OWNER (BitVec.ofNat 32 b)
def base (s : State) : State := (List.range 16).foldl (fun s i => s.setFld .HOST_WIN_CFG_EN 0 i) (own_a7 0 s)
def stp (s : State) : State := ((rd_a7 5 3 4 (base s)).setFld .HOST_RING_CTRL_EN 0 5).setFld .HOST_RING_STATUS_RING_IDLE 0 5
def memAt (a : Nat) (d : List Byte) (s : State) : State := { s with host := { s.host with mem := memPut s.host.mem a d } }
def d1_a7 : List Byte := ent [2^48 * 1 + 77 * 2^32 + 2^16 + 60, 0x5000, (64 * 2^21), 0]
def d0 : List Byte := ent [2^48 * 7 + 77 * 2^32 + 60, 0x5000, 64 * 2^21, 0]
def e5 (d : List Byte) (s : State) : State := memAt (0x80000000 + 5 * 0x10000 + 3 * 32) d (rd_a7 5 3 4 (base s))
def e69 (s : State) : State := modR 69 (fun x => { x with preAt := 3, raw := [⟨2, some [9]⟩], pre := [⟨1, 2, 3⟩] }) (memAt (0x80000000 + 69 * 0x10000 + 3 * 32) d1_a7 (rd_a7 69 3 4 (base s)))
def fu (d : List Byte) : RUnit := { id := 3, first := 3, nent := 1, cookie := 77, st := .fetched [⟨3, some d⟩] }
def rx (w0 w1 : Nat) : List Byte := ent [w0, w1]
def e70 (e : Entry) (s : State) : State := modR 69 (fun x => { x with preAt := 9, raw := [e, ⟨5, none⟩], pre := [⟨1, 2, 3⟩], units := [fu d1_a7] }) (rd_a7 69 3 9 (base s))
def cp (st : Nat) : Cpl := { status := st, cookie := 5, first := 3, nent := 2 }
def du (st : Nat) : RUnit := { id := 3, first := 3, nent := 2, cookie := 77, st := .done (cp st) }
def wu : RUnit := { id := 3, first := 3, nent := 1, cookie := 77, st := .waiting [⟨3, some d1_a7⟩] }
def rq (l : List PendRec) (s : State) : State := { s with host := { s.host with recq := l } }
def nr (k : RKind) : NRec := note k
def nrg (s : State) (h t : Nat) : State := (List.range 4).foldl (fun s k => rd_a7 (168 + k) h t s) ((List.range 8).foldl (fun s k => rd_a7 (160 + k) h t s) (base s))
def cpr : CapRec := ⟨2, 5, true, 1, 2, 3, 4, 5, 6, [1,2,3]⟩
def ky_a8 (s : State) : State := { s with ctl := { s.ctl with keySoft := some 6000000000, keyKeep := some 7000000000 } }
def A := Agent.app
def vv : DWord := 0x123456789
def kn (s : State) : State := { s with regs := s.regs.filter (fun e => e.1 < 0x2000000), pwr := { s.pwr with keeperUp := true } }
def roR : Reg := (Reg.all.find? (fun r => r.rw == 0 && decide (r.base < 0x1000000))).getD .SYS_ID
def shR : Reg := (Reg.all.find? (fun r => decide (r.grp < 64) && r.base / 2^20 == 2 && decide (r.rw ≠ 0))).getD .SYS_ID
def dn_a8 : State := kn (up.setFld .SYS_PLANE_STATE_IDL_UP 0)
def cS (v : Nat) : State := { (kn up).setFld .SYS_SNAP_CTRL_VIEW v with cnts := [(Cnt.off .LEAF_RX_FRAME_CNT 5, 0x123456789AB)], hold := [(Cnt.off .LEAF_RX_FRAME_CNT 5, 0x77777777777)] }
def cO : BitVec 28 := BitVec.ofNat 28 (Cnt.off .LEAF_RX_FRAME_CNT 5)
def fz : State := { kn up with sys := { up.sys with part := .s1024 } }
def tkw : TakenWrite := ⟨up.regClk, ⟨Agent.keeper, 0, shR.base, 0x44, 2⟩, 0x11⟩
def kup : State := kn up
def shs : State := ((kup.setShad shR 0x55).setShad .LEAF_FLAP_CFG 7 5).setReg .SYS_UPDATE_PENDING 0xFFFF
def c2 (c : Nat) : State := { kup.setFld .SYS_SNAP_STATUS_COPYING c with cnts := [(Cnt.off .LEAF_RX_FRAME_CNT 5, 5), (Cnt.off .KEEP_MBOX_CMD_CNT, 9)], hold := [(Cnt.off .LEAF_RX_FRAME_CNT 6, 6), (Cnt.off .KEEP_MBOX_CMD_CNT, 7), (Cnt.off .KEEP_MBOX_CMD_CNT + 64, 7)] }
def rb (s : State) : State := (s.setFld .KEEP_STATUS_DUSK 0).setFld .PWR_STATUS_STEEP 0
def full : State := rb (ky_a8 { portOn 5 (ringOn 5 (win0 kup)) with cnts := [(Cnt.off .LEAF_RX_FRAME_CNT 5, 5), (Cnt.off .KEEP_MBOX_CMD_CNT, 9)], tot := [(Cnt.off .LEAF_RX_FRAME_CNT 5, 5)], host := { up.host with mem := [(0x80000005, 7)] }, shadow := [(Reg.off .LEAF_FLAP_CFG 5, 7)], cls := { up.cls with rules := [(7, { valid := true })] } })
def A_a9 := Agent.app
def cl_a9 (tc tm : Int) (p v : Nat) : Climate := ⟨tc, tm, p, v, List.replicate 18 (tc + 100)⟩
def pw (f : PwrSt → PwrSt) (s : State) : State := { s with pwr := f s.pwr }
def nv (f : NvmSt → NvmSt) (s : State) : State := { s with nvm := f s.nvm }
def off (s : State) : State := pw (fun p => { p with seq := .off, keeperUp := false, stopped := true }) s
def dk : DuskSt := { t0 := 1, ts := 2, causes := [1], voltage := 3, power := 4, tCase := 5 }
def T1 := true
def F1 := false
def nd (s : State) : State := s.setFld .KEEP_STATUS_DUSK 0
def ad (fa ha len : Nat) (s : State) : State := (((nd s).setReg64 .NVM_FLASH_ADDR_LO .NVM_FLASH_ADDR_HI fa).setReg64 .NVM_HOST_ADDR_LO .NVM_HOST_ADDR_HI ha).setReg .NVM_LEN (BitVec.ofNat 32 len)
def op1 (k : Nat) : NvmOp := ⟨k, 1, 4096, 0x80000000, 4096, none⟩
def hm (s : State) : State := { s with host := { s.host with mem := [(0x80000001, 5), (0x80000FFF, 6), (0x80001000, 7)] }, nvm := { s.nvm with flash := [(4097, 9), (8191, 3), (8192, 4)] } }
def bt (tr rec ac : Nat) (s : State) : State := pw (fun p => { p with appHeld := true }) (((s.setFld .NVM_BOOT_SEL_TRIAL tr).setFld .NVM_BOOT_SEL_RECOVERY rec).setFld .NVM_BOOT_SEL_ACTIVE ac)
def im : List Byte := List.replicate 4096 7
def wn (k i : Nat) : SMap WinSt := [(512*k+i, ⟨[3,0,0,0,0,0,0,0,0,0,0,0,0,0,0,9], true, true, []⟩), (512*k+i+1,
    ⟨[0,0,0,0,0,0,0,0,0,0,0,0,0,0,0,9], true, true, []⟩), (512*k+i+2, ⟨[1,9], false, true, []⟩)]
def le1 (s : State) : State := { s.setFld .HLT_CFG_LEDGER_EN 1 with hlt := { s.hlt with chkAt := 3, excused := [(4, 4999999999), (5, 5000000001)] } }


/-! ### Effects of single commands -/

/-- The state after a command; the state itself where it does not complete. -/
def after (c : Instr) (s : State) : State :=
  match exec c s with
  | .next t => t
  | _ => s

/-- R357: through the SET alias a write sets the bits written as 1. -/
theorem test_set_alias :
    (after (.registerWrite .app 1 2 0x800018#28 0x07#64) up).reg .SKYT_LULL_CFG = 0xCF#32 := by decide +kernel

/-- R357: through the CLR alias a write clears the bits written as 1. -/
theorem test_clr_alias :
    (after (.registerWrite .app 2 2 0x800018#28 0x48#64) up).reg .SKYT_LULL_CFG = 0x80#32 := by decide +kernel

/-- R363: a write of a shadowed register lands in the shadow; the value in force stays. -/
theorem test_shadow :
    (after (.registerWrite .app 0 2 0x110008#28 5#64) up).reg .LEAF_PFC_CFG = 0xFFFF00FF#32
    ∧ (after (.registerWrite .app 0 2 0x110008#28 5#64) up).shad .LEAF_PFC_CFG = 5#32 := by decide +kernel

/-- R353: a misaligned access is refused and logged with kind 2. -/
theorem test_misaligned :
    (after (.registerWrite .app 0 2 0x800019#28 5#64) up).fld .SYS_ACCESS_FAULT_KIND = 2
    ∧ (after (.registerWrite .app 0 2 0x800019#28 5#64) up).reg .SKYT_LULL_CFG = 0xC8#32 := by decide +kernel

/-- R33: MODE 3 at 400 Gb/s lanes is refused. -/
theorem test_restart_refused :
    (after (.leafGroupRestart .app 2) (up.setFld .LEAF_GROUP_CFG_MODE 3 2)).flag .LEAF_GROUP_STATUS_CFG_ERR 2 = true
    ∧ (after (.leafGroupRestart .app 2) (up.setFld .LEAF_GROUP_CFG_MODE 3 2)).flag .LEAF_GROUP_STATUS_RESTARTING 2 = false := by
  decide +kernel

/-- R32: in MODE 2 the ports of a group are those divisible by 4. -/
theorem test_restart_ports :
    let t := after (.leafGroupRestart .app 2) (up.setFld .LEAF_GROUP_CFG_MODE 2 2)
    t.flag .LEAF_PORT_STATUS_ACTIVE 36 = true ∧ t.flag .LEAF_PORT_STATUS_ACTIVE 34 = false := by decide +kernel

/-- R26: a request stops the rings and leaves HEADLESS clear until they are idle. -/
theorem test_headless_request :
    let t := after (.headlessReq .app) (ringOn 3 up)
    ringEn t 3 = false ∧ t.flag .SYS_PLANE_STATE_HEADLESS = false := by decide +kernel

/-- R289: the 17th replay within 1 µs takes the link down. -/
theorem test_replays :
    let s := { up with ctl := { up.ctl with replays := List.replicate 16 4999999999 } }
    (after .idlFlitReplay s).flag .SYS_PLANE_STATE_IDL_UP = false
    ∧ (after .idlFlitReplay up).flag .SYS_PLANE_STATE_IDL_UP = true := by decide +kernel

/-- R46: a PAUSE frame of 7 quanta pauses every class for 7 · 512 bit times, at 400 Gb/s 15 core clocks. -/
theorem test_pause_frame :
    let t := after (.pauseFrameRx 5 pauseF) ((portOn 5 up).setFld .LEAF_PORT_CFG_PAUSE_MODE 1 5)
    SMap.get? (portOf t 5).paused 0 = some 5000000015
        ∧ SMap.get? (portOf t 5).paused 7 = some 5000000015 := by decide +kernel

/-- R43, R44: a good frame counts with its bytes. -/
theorem test_frame_counts :
    (after (.leafRxFrame 5 eth []) (portOn 5 up)).cnt .LEAF_RX_FRAME_CNT 5 = 1#64
    ∧ (after (.leafRxFrame 5 eth []) (portOn 5 up)).cnt .LEAF_RX_BYTE_CNT 5 = 64#64 := by decide +kernel

/-- R43: a frame below 64 bytes is a runt, and a frame with a wrong FCS counts as one. -/
theorem test_bad_frames :
    (after (.leafRxFrame 5 ⟨eth.data.take 63, false, 0, false⟩ []) (portOn 5 up)).cnt .LEAF_RX_RUNT_CNT 5 = 1#64
    ∧ (after (.leafRxFrame 5 ⟨eth.data.take 63 ++ [0], false, 0,
        false⟩ []) (portOn 5 up)).cnt .LEAF_RX_FCS_ERR_CNT 5 = 1#64 := by
  decide +kernel


/-! A bank that the check of R190 accepts: slot 0 holds 0xFE and no other byte is written. -/

def armS : State := arm 1 7 1000 (goodBank (sk 3 3 up))

theorem get_none {α : Type} {m : SMap α} {q : Nat} (h : ∀ e ∈ m, e.1 ≠ q) : SMap.get? m q = none := by
  induction m with
  | nil => rfl
  | cons e m ih =>
    simp only [List.mem_cons, forall_eq_or_imp] at h
    simp only [SMap.get?, Ne.symm h.1, if_false]
    split
    · rfl
    · exact ih h.2

theorem armS_low : ∀ k < 64, armS.reg .SKY_MAP_BANK 1 k = 0xFEFEFEFE#32 := by decide +kernel

theorem armS_keys : armS.regs.all (fun e => decide (e.1 < 0x720100) || decide (0x730000 ≤ e.1)) = true := by decide +kernel

theorem armS_high {k : Nat} (h1 : 64 ≤ k) (h2 : k < 16384) : armS.reg .SKY_MAP_BANK 1 k = 0xFFFFFFFF#32 := by
  have hq : Reg.SKY_MAP_BANK.off 1 k = 0x720000 + 4 * k := by
    simp only [Reg.off, Reg.SKY_MAP_BANK]; omega
  have : SMap.get? armS.regs (Reg.SKY_MAP_BANK.off 1 k) = none := by
    refine get_none fun e he => ?_
    have := List.all_eq_true.1 armS_keys e he
    simp only [Bool.or_eq_true, decide_eq_true_eq] at this
    rw [hq]; omega
  simp only [State.reg, SMap.getD, this, Option.getD_none]
  simp only [Reg.resetOf, Reg.resetNat, Nat.zero_mul]
  rfl

theorem armS_byte {o : Nat} (h : o < 65536) : mapByte armS 1 (o / 256) (o % 256) = if o < 256 then 254 else 255 := by
  have e : (256 * (o / 256) + o % 256) / 4 = o / 4 := by omega
  have hl : ∀ j < 4, wordByte 0xFEFEFEFE#32 j = 254 ∧ wordByte 0xFFFFFFFF#32 j = 255 := by decide
  have hj := hl (o % 256 % 4) (Nat.mod_lt _ (by decide))
  unfold mapByte
  rw [e]
  split
  · rw [armS_low _ (by omega)]; exact hj.1
  · rw [armS_high (by omega) (by omega)]; exact hj.2

theorem bank_arms : armErr armS 1 7 1000 = (0, none) := by
  have h0 : epochLog2 armS = 5 := by decide +kernel
  have own : ownMod armS < 128 := by decide +kernel
  have lim : ∀ o ∈ mapOffsets armS, o < 65536 := by
    intro o ho
    simp only [mapOffsets, h0, List.mem_filter, List.mem_range] at ho
    omega
  have n1 : firstByte armS 1 (badByte armS) = none := by
    refine List.find?_eq_none.2 fun o ho => ?_
    rw [armS_byte (lim o ho)]
    unfold badByte
    by_cases h : o < 256
    · simp [h, Nat.div_eq_of_lt h]
    · have : o / 256 ≠ 0 := by omega
      have own' : ¬ 255 = ownMod armS := by omega
      simp [h, this, own']
  have n2 : firstByte armS 1 (fun j v => j != 0 && decide (32 ≤ v) && decide (v < 128)) = none := by
    refine List.find?_eq_none.2 fun o ho => ?_
    rw [armS_byte (lim o ho)]
    by_cases h : o < 256 <;> simp [h, Nat.div_eq_of_lt]
  have h1 : ¬ 1 = activeMap armS := by decide +kernel
  have h2 : armS.flag .SKY_MAP_STATUS_ARMED = false := by decide +kernel
  have h3 : ¬ 7 = armS.fld .SKY_MAP_STATUS_ACTIVE_MAP_ID := by decide +kernel
  have h4 : ¬ 1000 ≤ curEpoch armS + 1 := by decide +kernel
  unfold armErr
  simp [h1, h2, h3, h4, n1, n2]

/-! ### Every premise is met -/

theorem test_meets_StepRunsTheFrontCommand :
    (∃ (s : State) (c : Instr) (rest : List Instr), s.pending = c :: rest)
    ∧ (∃ (s : State), s.pending = []) :=
  ⟨⟨{ up with pending := [.headlessEntryComplete, .idlTrainingLoss] }, .headlessEntryComplete, [.idlTrainingLoss],
      by decide +kernel⟩,
   ⟨up, by decide +kernel⟩⟩

theorem test_meets_HeadlessEntry :
    (∃ (s : State) (a : Agent), s.Sound ∧ linked s ∧ s.flag .SYS_PLANE_STATE_HEADLESS = false)
    ∧ (∃ (s : State), s.Sound ∧ s.sys.headlessReq = true ∧ allIdle s = true)
    ∧ (∃ (s : State), allIdle s = false)
    ∧ (∃ (s : State), s.Sound ∧ linked s ∧ s.flag .SYS_PLANE_STATE_HEADLESS = false)
    ∧ (∃ (s : State) (e : Nat), s.Sound ∧ s.ctl.idlDownAt = some e ∧ e + 16000 < s.now
        ∧ s.flag .SYS_PLANE_STATE_HEADLESS = false)
    ∧ (∃ (s : State), s.Sound ∧ linked s ∧ s.flag .SYS_PLANE_STATE_HEADLESS = true ∧ s.sys.headlessAt ≠ some s.regClk) :=
  ⟨⟨up, Agent.app, sound_of (by decide +kernel), by unfold linked; decide +kernel, by decide +kernel⟩,
   ⟨({ up with sys := { up.sys with headlessReq := true }, ctl := { up.ctl with idlDownAt := some 5} } : State),
       sound_of (by decide +kernel), by decide +kernel⟩,
   ⟨ringOn 3 up, by decide +kernel⟩,
   ⟨up, sound_of (by decide +kernel), by unfold linked; decide +kernel, by decide +kernel⟩,
   ⟨({ up with sys := { up.sys with headlessReq := true }, ctl := { up.ctl with idlDownAt := some 5} } : State), 5,
       sound_of (by decide +kernel), by decide +kernel⟩,
   ⟨hdl 1, sound_of (by decide +kernel), by unfold linked; decide +kernel, by decide +kernel⟩⟩

theorem test_meets_HeadlessEntry_2 :
    (∃ (s : State), s.Sound ∧ linked s ∧ s.flag .SYS_PLANE_STATE_HEADLESS = true ∧ s.sys.headlessAt = some s.regClk)
    ∧ (∃ (s : State), s.flag .SYS_PLANE_STATE_IDL_UP = false) :=
  ⟨⟨({ hdl 1 with sys := { (hdl 1).sys with headlessAt := some (hdl 1).regClk } } : State), sound_of (by decide +kernel),
      by unfold linked; decide +kernel, by decide +kernel⟩,
   ⟨up.setFld .SYS_PLANE_STATE_IDL_UP 0, by decide +kernel⟩⟩

theorem test_meets_HeadlessExitAndBacklog :
    (∃ (s : State) (a : Agent), s.Sound ∧ linked s ∧ s.flag .SYS_PLANE_STATE_HEADLESS = true)
    ∧ (∃ (s : State) (n : NRec) (rest : List (List NRec)), s.Sound ∧ s.flag .SYS_PLANE_STATE_HEADLESS = false
        ∧ s.sys.backlog = [n] :: rest ∧ (n.kind = .age ∨ n.kind = .dump ∨ n.kind = .weather)
        ∧ (idlPass (if n.kind = .weather then 3 else 4) 32 s).1 = true ∧ ringTakes s (noteRing s n.kind) 1 = true
        ∧ ringReach s (noteRing s n.kind) = true)
    ∧ (∃ (s : State) (n : NRec) (rest : List (List NRec)), s.Sound ∧ s.flag .SYS_PLANE_STATE_HEADLESS = false
        ∧ s.sys.backlog = [n] :: rest ∧ ringTakes s (noteRing s n.kind) 1 = false ∧ n.kind = .weather)
    ∧ (∃ (s : State) (n : NRec) (rest : List (List NRec)), s.Sound ∧ s.flag .SYS_PLANE_STATE_HEADLESS = false
        ∧ s.sys.backlog = [n] :: rest ∧ ringTakes s (noteRing s n.kind) 1 = false ∧ (n.kind = .fault ∨ n.kind = .step)
        ∧ groupLen s.host.faultLog < 256)
    ∧ (∃ (s : State) (n : NRec) (rest : List (List NRec)), s.Sound ∧ s.flag .SYS_PLANE_STATE_HEADLESS = false
        ∧ s.sys.backlog = [n] :: rest ∧ ringTakes s (noteRing s n.kind) 1 = false ∧ (n.kind = .age ∨ n.kind = .dump)) :=
  ⟨⟨(withLog [[note .age]] (ringOn 160 (win0 (hdl 2)))), Agent.host, sound_of (by decide +kernel),
      by unfold linked; decide +kernel, by decide +kernel⟩,
   ⟨(withLog [[note .age],[note .fault]] (ringOn 160 u1)), note .age, [[note .fault]], sound_of (by decide +kernel),
       by decide +kernel⟩,
   ⟨(withLog [[note .weather],[note .fault]] u1), note .weather, [[note .fault]], sound_of (by decide +kernel),
       by decide +kernel⟩,
   ⟨(withLog [[note .fault],[note .fault]] u1), note .fault, [[note .fault]], sound_of (by decide +kernel),
       by decide +kernel⟩,
   ⟨(withLog [[note .dump],[note .fault]] u1), note .dump, [[note .fault]], sound_of (by decide +kernel),
       by decide +kernel⟩⟩

theorem test_meets_InterDieLink :
    (∃ (s : State), s.Sound ∧ linked s)
    ∧ (∃ (s : State), s.Sound ∧ linked s ∧ (s.ctl.replays.filter (fun e => s.now < e + 1600)).length < 16)
    ∧ (∃ (s : State), s.Sound ∧ linked s ∧ 16 ≤ (s.ctl.replays.filter (fun e => s.now < e + 1600)).length)
    ∧ (∃ (s : State), s.Sound ∧ forwards s ∧ s.flag .SYS_PLANE_STATE_IDL_UP = false ∧ s.ctl.heldWrites = []
        ∧ s.ctl.heldReads = []) :=
  ⟨⟨up, sound_of (by decide +kernel), by unfold linked; decide +kernel⟩,
   ⟨up, sound_of (by decide +kernel), by unfold linked; decide +kernel, by decide +kernel⟩,
   ⟨({ up with ctl := { up.ctl with replays := List.replicate 16 4999999999 } } : State), sound_of (by decide +kernel),
       by unfold linked; decide +kernel, by decide +kernel⟩,
   ⟨dn, sound_of (by decide +kernel), by unfold forwards; decide +kernel, by decide +kernel⟩⟩

theorem test_meets_GroupRestartRefused :
    (∃ (s : State) (a : Agent) (g : Fin 16), s.Sound ∧ linked s ∧ noGroup s g.val = false
        ∧ s.fld .LEAF_GROUP_CFG_LANE_RATE g.val = 1 ∧ s.fld .LEAF_GROUP_CFG_MODE g.val = 3)
    ∧ (∃ (s : State) (a : Agent) (g : Fin 16), noGroup s g.val = true) :=
  ⟨⟨grp3, Agent.app, (2 : Fin 16), sound_of (by decide +kernel), by unfold linked; decide +kernel, by decide +kernel⟩,
   ⟨half, Agent.app, (8 : Fin 16), by decide +kernel⟩⟩

theorem test_meets_GroupRestart :
    (∃ (s : State) (a : Agent) (g : Fin 16), s.Sound ∧ linked s ∧ noGroup s g.val = false
        ∧ ¬ (s.fld .LEAF_GROUP_CFG_LANE_RATE g.val = 1 ∧ s.fld .LEAF_GROUP_CFG_MODE g.val = 3))
    ∧ (∃ (s : State) (g : Fin 16), s.Sound) :=
  ⟨⟨(up.setFld .LEAF_GROUP_CFG_MODE 2 2), Agent.app, (2 : Fin 16), sound_of (by decide +kernel),
      by unfold linked; decide +kernel, by decide +kernel⟩,
   ⟨(up.setFld .LEAF_GROUP_CFG_MODE 2 2), (2 : Fin 16), sound_of (by decide +kernel)⟩⟩

theorem test_meets_LaneAlignment :
    (∃ (s : State) (n : Fin 256) (m1 : Marker) (m2 : Marker) (apart : Nat), s.Sound ∧ trains s (lanePort s n.val) = true
        ∧ laneOf s n.val = none ∧ (fastLanes s (lanePort s n.val) = true → apart = 4096)
        ∧ markerOk s (lanePort s n.val) m1 = true ∧ markerOk s (lanePort s n.val) m2 = true)
    ∧ (∃ (s : State) (n : Fin 256) (m1 : Marker) (m2 : Marker) (apart : Nat), fastLanes s (lanePort s n.val) = true
        ∧ apart ≠ 4096)
    ∧ (∃ (s : State) (n : Fin 256) (m1 : Marker) (m2 : Marker) (apart : Nat), fastLanes s (lanePort s n.val) = true
        ∧ (markerOk s (lanePort s n.val) m1 = false ∨ markerOk s (lanePort s n.val) m2 = false))
    ∧ (∃ (s : State) (n : Fin 256) (x : LaneSt) (found : List Marker), s.Sound ∧ laneOf s n.val = some x
        ∧ 4 ≤ found.length ∧ (∀ m ∈ found, markerOk s (lanePort s n.val) m = false))
    ∧ (∃ (s : State) (n : Fin 256) (found : List Marker), found.length < 4)
    ∧ (∃ (s : State) (p : Fin 256) (ns : Nat) (t0 : Nat), s.Sound ∧ trains s p.val = true ∧ portUp s p.val = false
        ∧ (portOf s p.val).ready = some t0 ∧ ns ≤ 180
        ∧ t0 + (if s.flag .LEAF_GROUP_STATUS_RATE_ACTIVE (p.val / 16) then 100 * clkUs else 0) ≤ s.now) :=
  ⟨⟨(trainP 5 up), (5 : Fin 256), mk1 0, mk1 0, 4096, sound_of (by decide +kernel), by decide +kernel⟩,
   ⟨(trainP 5 up), (5 : Fin 256), { mk1 0 with laneIdInv := 7 }, mk1 0, 4097, by decide +kernel⟩,
   ⟨(trainP 5 up), (5 : Fin 256), { mk1 0 with laneIdInv := 7 }, mk1 0, 4097, by decide +kernel⟩,
   ⟨modP 5 (fun x => { x with ready := some 1000000 }) { trainP 5 up with leaf := { up.leaf with lanes := [(5, ⟨1000000, 0⟩)] } },
       (5 : Fin 256), LaneSt.mk 1000000 0, bad4, sound_of (by decide +kernel), by decide +kernel⟩,
   ⟨(trainP 5 up), (5 : Fin 256), ([mk1 0] : List Marker), by decide +kernel⟩,
   ⟨modP 5 (fun x => { x with ready := some 1000000 }) { trainP 5 up with leaf := { up.leaf with lanes := [(5, ⟨1000000, 0⟩)] } },
       (5 : Fin 256), 100, 1000000, sound_of (by decide +kernel), by decide +kernel⟩⟩

theorem test_meets_LinkDownAndHold :
    (∃ (s : State) (p : Fin 256) (f : Option RxFrame), s.Sound ∧ portUp s p.val = true)
    ∧ (∃ (s : State) (p : Fin 256) (f : Option RxFrame), portUp s p.val = false)
    ∧ (∃ (s : State) (p : Fin 256) (e : Nat), s.Sound ∧ (portOf s p.val).holdTill = some e ∧ e ≤ s.now
        ∧ portUp s p.val = false ∧ linkUpWaits s p.val = false)
    ∧ (∃ (s : State) (p : Fin 256), linkUpWaits s p.val = true) :=
  ⟨⟨portOn 5 up, (5 : Fin 256), (none : Option RxFrame), sound_of (by decide +kernel), by decide +kernel⟩,
   ⟨{ hw with pending := [.linkUp 5 100] }, (5 : Fin 256), (none : Option RxFrame), by decide +kernel⟩,
   ⟨modP 5 (fun x => { x with holdTill := some 7 }) ((trainP 5 up).setFld .LEAF_PORT_STATUS_FROZEN 1 5), (5 : Fin 256), 7,
       sound_of (by decide +kernel), by decide +kernel⟩,
   ⟨{ hw with pending := [.linkUp 5 100] }, (5 : Fin 256), by decide +kernel⟩⟩

theorem test_meets_DozeAndWake :
    (∃ (s : State) (a : Agent) (p : Fin 256), s.Sound ∧ linked s ∧ noPort s p.val = false
        ∧ s.flag .LEAF_PORT_STATUS_DOZING p.val = false ∧ (portOf s p.val).tx = none ∧ (∀ c < 8,
        (queueOf s (leafQ p.val c)).units = []) ∧ enqueueWaits s p.val = false)
    ∧ (∃ (s : State) (a : Agent) (p : Fin 256), s.Sound ∧ linked s ∧ noPort s p.val = false
        ∧ s.flag .LEAF_PORT_STATUS_DOZING p.val = true ∧ (portOf s p.val).wakeAt = none)
    ∧ (∃ (s : State) (p : Fin 256) (e : Nat), s.Sound ∧ (portOf s p.val).wakeAt = some e ∧ e + 1600000 ≤ s.now)
    ∧ (∃ (s : State) (p : Fin 256) (seen : DWord) (n : Nat), s.Sound ∧ s.flag .LEAF_PORT_STATUS_DOZING p.val = true
        ∧ 16 ≤ n ∧ seen.toNat = s.reg64 .LEAF_WAKE_PAT_LO .LEAF_WAKE_PAT_HI p.val)
    ∧ (∃ (s : State) (p : Fin 256) (seen : DWord) (n : Nat), (n < 16 ∨ s.flag .LEAF_PORT_STATUS_DOZING p.val = false
        ∨ seen.toNat ≠ s.reg64 .LEAF_WAKE_PAT_LO .LEAF_WAKE_PAT_HI p.val))
    ∧ (∃ (s : State) (a : Agent) (p : Fin 256), noPort s p.val = true) :=
  ⟨⟨portOn 5 up, Agent.app, (5 : Fin 256), sound_of (by decide +kernel), by unfold linked; decide +kernel,
      by decide +kernel⟩,
   ⟨wp, Agent.app, (5 : Fin 256), sound_of (by decide +kernel), by unfold linked; decide +kernel, by decide +kernel⟩,
   ⟨modP 5 (fun x => { x with wakeAt := some 7 }) wp, (5 : Fin 256), 7, sound_of (by decide +kernel), by decide +kernel⟩,
   ⟨wp, (5 : Fin 256), BitVec.ofNat 64 (wp.reg64 .LEAF_WAKE_PAT_LO .LEAF_WAKE_PAT_HI 5), 16, sound_of (by decide +kernel),
       by decide +kernel⟩,
   ⟨portOn 5 up, (5 : Fin 256), (0 : DWord), 3, by decide +kernel⟩,
   ⟨half, Agent.app, (128 : Fin 256), by decide +kernel⟩⟩

theorem test_meets_PauseFramesAndWatchdog :
    (∃ (s : State) (p : Fin 256) (f : RxFrame), s.Sound ∧ forwards s ∧ s.pwr.dusk = none ∧ portUp s p.val = true
        ∧ f.more = false ∧ isMacControl f.data = true ∧ macCheck s p.val f = none ∧ slice f.data 0 6 = pauseMac
        ∧ beAt f.data 14 2 = 1 ∧ s.fld .LEAF_PORT_CFG_PAUSE_MODE p.val = 1 ∧ (portOf s p.val).holdoff = []
        ∧ 0 < quantaClocks s p.val (beAt f.data 16 2))
    ∧ (∃ (s : State) (p : Fin 256) (c : Fin 8) (e : Nat), s.Sound ∧ SMap.get? (portOf s p.val).paused c.val = some e
        ∧ e ≤ s.now)
    ∧ (∃ (s : State) (p : Fin 256) (c : Nat) (n : Nat) (l : List (Nat × Nat)), s.Sound ∧ forwards s
        ∧ portUp s p.val = true ∧ (portOf s p.val).tx = none ∧ (portOf s p.val).pauseOut = (c, n) :: l ∧ c < 9
        ∧ lineFree s p.val = true)
    ∧ (∃ (s : State) (p : Fin 256) (c : Fin 9) (e : Nat), s.Sound ∧ (c.val < 8 → s.fld .LEAF_PORT_CFG_PAUSE_MODE p.val = 2
        ∧ (portOf s p.val).trig.contains c.val = true) ∧ (c.val = 8 → s.fld .LEAF_PORT_CFG_PAUSE_MODE p.val = 1
        ∧ (portOf s p.val).trig ≠ []) ∧ SMap.get? (portOf s p.val).pausedAt c.val = some e
        ∧ e + quantaClocks s p.val (max 1 (quantaOf s p.val / 2)) ≤ s.now
        ∧ (portOf s p.val).pauseOut.any (fun x => x.1 == c.val) = false)
    ∧ (∃ (s : State) (p : Fin 256) (c : Fin 9) (e : Nat) (cs : List Nat), s.Sound ∧ (∀ i ∈ cs, ∀ x,
        SMap.get? (portOf s p.val).paused i = some x → s.now < x) ∧ cs = (if c.val = 8 then List.range 8 else [c.val])
        ∧ SMap.get? (portOf s p.val).stall c.val = some e ∧ s.fld .LEAF_PAUSE_WD_CFG_PAUSE_WD_LIMIT p.val ≠ 0
        ∧ e + s.fld .LEAF_PAUSE_WD_CFG_PAUSE_WD_LIMIT p.val * 1600000 ≤ s.now ∧ pauseEnds p.val c.val s = false)
    ∧ (∃ (s : State) (p : Fin 256) (c : Fin 9), pauseEnds p.val c.val s = true) :=
  ⟨⟨pz, (5 : Fin 256), pauseF, sound_of (by decide +kernel), by unfold forwards; decide +kernel, by decide +kernel⟩,
   ⟨pd, (5 : Fin 256), (3 : Fin 8), 4999000000, sound_of (by decide +kernel), by decide +kernel⟩,
   ⟨modP 5 (fun x => { x with tx := none }) pd, (5 : Fin 256), (3 : Nat), 9, [(4,8)], sound_of (by decide +kernel),
       by unfold forwards; decide +kernel, by decide +kernel⟩,
   ⟨modP 5 (fun x => { x with pauseOut := [] }) pd, (5 : Fin 256), (3 : Fin 9), 1, sound_of (by decide +kernel),
       by decide +kernel⟩,
   ⟨pd, (5 : Fin 256), (4 : Fin 9), 5, [4], sound_of (by decide +kernel),
       by intro i hi; rw [List.mem_singleton.1 hi]; exact all_some (by decide +kernel), by decide +kernel⟩,
   ⟨modP 5 (fun x => { x with pauseOut := [(8,1)] }) pd, (5 : Fin 256), 8, by decide +kernel⟩⟩

theorem test_meets_PauseFramesAndWatchdog_2 :
    (∃ (s : State) (p : Fin 256) (c : Fin 8) (e : Nat), s.Sound ∧ SMap.get? (portOf s p.val).holdoff c.val = some e
        ∧ e ≤ s.now) :=
  ⟨pd, (5 : Fin 256), (3 : Fin 8), 8, sound_of (by decide +kernel), by decide +kernel⟩

theorem test_meets_CutThroughStartDecays :
    (∃ (s : State) (p : Fin 256), s.Sound ∧ (portOf s p.val).ctAt + 1600000000 ≤ s.now) :=
  ⟨pd, (5 : Fin 256), sound_of (by decide +kernel), by decide +kernel⟩

theorem test_meets_LeafFrames :
    (∃ (s : State) (p : Fin 256) (f : RxFrame), s.Sound ∧ forwards s ∧ s.pwr.dusk = none ∧ portUp s p.val = true
        ∧ (portOf s p.val).uncorr = [] ∧ (portOf s p.val).rx = none ∧ f.more = false ∧ rxFull s p.val = false
        ∧ isMacControl f.data = false ∧ macCheck s p.val f = none)
    ∧ (∃ (s : State) (s0 : State) (s1 : State) (s2 : State) (p : Fin 256) (c : Nat) (round : Nat) (d : SMap Nat) (u : QUnit) (x : EditFrame),
        s.Sound ∧ forwards s ∧ portUp s p.val = true ∧ (portOf s p.val).tx = none ∧ (portOf s p.val).pauseOut = []
        ∧ lineFree s p.val = true ∧ s0 = refreshPort p.val s ∧ (shaperOf s0 p.val).allows true = true
        ∧ pickClass s0 p.val = some (c, round, d) ∧ headUnit s0 p.val c = some u ∧ startLookup (p.val / 16) s0 = (true,
        s1) ∧ s2 = keepChoice p.val c round d s1 ∧ (egress s2 p.val u).dropRule = false ∧ (egress s2 p.val u).res = .ok x
        ∧ (u.closed = true → (egress s2 p.val u).data.length ≤ s.fld .LEAF_PORT_CFG_MAX_FRAME p.val))
    ∧ (∃ (s : State) (p : Fin 256) (x : TxSt) (u : QUnit) (d : List Byte), s.Sound ∧ (portOf s p.val).tx = some x
        ∧ x.data = some d ∧ x.copy = none ∧ (queueOf s (leafQ p.val x.cls)).units.find? (fun v => v.started) = some u
        ∧ u.closed = true ∧ u.aborted = false) :=
  ⟨⟨qs un, (5 : Fin 256), eth, sound_of (by decide +kernel), by unfold forwards; decide +kernel, by decide +kernel⟩,
   ⟨qs un, qs0, qs1, qs2, (5 : Fin 256), 0, qr, qd, un, egx qs2, sound_of (by decide +kernel),
       by unfold forwards; decide +kernel, by decide +kernel⟩,
   ⟨modP 5 (fun x => { x with tx := some ⟨0, 5, 5, some eth.data, {}, none, 1⟩ }) (qs us), (5 : Fin 256), (⟨0, 5, 5,
       some eth.data, {}, none, 1⟩ : TxSt), us, eth.data, sound_of (by decide +kernel), by decide +kernel⟩⟩

theorem test_meets_RuleStaging :
    (∃ (s : State) (r : Fin 32) (u : RUnit) (ds : List (List Byte)), atHead s r 0x10 u ds ∧ indexOf ds < 98304)
    ∧ (∃ (s : State) (r : Fin 32) (u : RUnit) (ds : List (List Byte)), atHead s r 0x11 u ds ∧ indexOf ds < 98304)
    ∧ (∃ (s : State) (r : Fin 32) (u : RUnit) (ds : List (List Byte)), atHead s r 0x12 u ds ∧ indexOf ds < 98304)
    ∧ (∃ (s : State) (r : Fin 32) (u : RUnit) (ds : List (List Byte)), atHead s r 0x10 u ds ∧ 98304 ≤ indexOf ds)
    ∧ (∃ (s : State) (r : Fin 32) (u : RUnit) (ds : List (List Byte)), atHead s r 0x11 u ds ∧ 98304 ≤ indexOf ds)
    ∧ (∃ (s : State) (r : Fin 32) (u : RUnit) (ds : List (List Byte)), atHead s r 0x12 u ds ∧ 98304 ≤ indexOf ds) :=
  ⟨⟨putOp 3 d1 (rules up), (3 : Fin 32), unitOf d1, d1, ⟨sound_of (by decide +kernel), by decide +kernel,
      by decide +kernel, by decide +kernel, by decide +kernel⟩, by decide +kernel⟩,
   ⟨putOp 3 d10 (rules up), (3 : Fin 32), unitOf d10, d10, ⟨sound_of (by decide +kernel), by decide +kernel,
       by decide +kernel, by decide +kernel, by decide +kernel⟩, by decide +kernel⟩,
   ⟨putOp 3 d19 (rules up), (3 : Fin 32), unitOf d19, d19, ⟨sound_of (by decide +kernel), by decide +kernel,
       by decide +kernel, by decide +kernel, by decide +kernel⟩, by decide +kernel⟩,
   ⟨putOp 3 d7 (rules up), (3 : Fin 32), unitOf d7, d7, ⟨sound_of (by decide +kernel), by decide +kernel,
       by decide +kernel, by decide +kernel, by decide +kernel⟩, by decide +kernel⟩,
   ⟨putOp 3 d16 (rules up), (3 : Fin 32), unitOf d16, d16, ⟨sound_of (by decide +kernel), by decide +kernel,
       by decide +kernel, by decide +kernel, by decide +kernel⟩, by decide +kernel⟩,
   ⟨putOp 3 d25 (rules up), (3 : Fin 32), unitOf d25, d25, ⟨sound_of (by decide +kernel), by decide +kernel,
       by decide +kernel, by decide +kernel, by decide +kernel⟩, by decide +kernel⟩⟩

theorem test_meets_RuleStaging_2 :
    (∃ (s : State) (r : Fin 32) (u : RUnit) (ds : List (List Byte)), atHead s r 0x13 u ds ∧ 98304 ≤ indexOf ds) :=
  ⟨putOp 3 d34 (rules up), (3 : Fin 32), unitOf d34, d34, ⟨sound_of (by decide +kernel), by decide +kernel,
      by decide +kernel, by decide +kernel, by decide +kernel⟩, by decide +kernel⟩

theorem test_meets_StagedPartsDiscarded :
    (∃ (s : State) (r : Fin 32) (u : RUnit) (ds : List (List Byte)) (g : Staging), atHead s r 0x10 u ds
        ∧ indexOf ds < 98304 ∧ SMap.get? s.cls.staging r.val = some g ∧ g.index ≠ indexOf ds)
    ∧ (∃ (s : State) (r : Fin 32) (u : RUnit) (ds : List (List Byte)) (g : Staging), atHead s r 0x11 u ds
        ∧ indexOf ds < 98304 ∧ SMap.get? s.cls.staging r.val = some g ∧ g.index ≠ indexOf ds)
    ∧ (∃ (s : State) (r : Fin 32) (u : RUnit) (ds : List (List Byte)) (g : Staging), atHead s r 0x12 u ds
        ∧ indexOf ds < 98304 ∧ SMap.get? s.cls.staging r.val = some g ∧ g.index ≠ indexOf ds) :=
  ⟨⟨putOp 3 d3 (stg 78 (rules up)), (3 : Fin 32), unitOf d3, d3,
      ({ index := 78, key := some (7, 2, true), mask := some (5, 3), action := some 12 } : Staging),
      ⟨sound_of (by decide +kernel), by decide +kernel, by decide +kernel, by decide +kernel, by decide +kernel⟩,
      by decide +kernel⟩,
   ⟨putOp 3 d12 (stg 78 (rules up)), (3 : Fin 32), unitOf d12, d12,
       ({ index := 78, key := some (7, 2, true), mask := some (5, 3), action := some 12 } : Staging),
       ⟨sound_of (by decide +kernel), by decide +kernel, by decide +kernel, by decide +kernel, by decide +kernel⟩,
       by decide +kernel⟩,
   ⟨putOp 3 d21 (stg 78 (rules up)), (3 : Fin 32), unitOf d21, d21,
       ({ index := 78, key := some (7, 2, true), mask := some (5, 3), action := some 12 } : Staging),
       ⟨sound_of (by decide +kernel), by decide +kernel, by decide +kernel, by decide +kernel, by decide +kernel⟩,
       by decide +kernel⟩⟩

theorem test_meets_RuleCommit :
    (∃ (s : State) (r : Fin 32) (u : RUnit) (ds : List (List Byte)), ringHead s (128 + r.val) = some (u, ds)
        ∧ hasTurn s r.val u ds = false)
    ∧ (∃ (s : State) (r : Fin 32) (u : RUnit) (ds : List (List Byte)), atHead s r 0x13 u ds ∧ indexOf ds < 98304) :=
  ⟨⟨putOp 2 e2 (putOp 3 e2 (rules up)), (3 : Fin 32), unitOf e2, e2, by decide +kernel⟩,
   ⟨putOp 3 d37 (rules up), (3 : Fin 32), unitOf d37, d37, ⟨sound_of (by decide +kernel), by decide +kernel,
       by decide +kernel, by decide +kernel, by decide +kernel⟩, by decide +kernel⟩⟩

theorem test_meets_IndexedTableWrites :
    (∃ (s : State) (r : Fin 32) (u : RUnit) (ds : List (List Byte)), atHead s r 0x14 u ds ∧ indexOf ds < 16384)
    ∧ (∃ (s : State) (r : Fin 32) (u : RUnit) (ds : List (List Byte)), atHead s r 0x14 u ds ∧ 16384 ≤ indexOf ds)
    ∧ (∃ (s : State) (r : Fin 32) (u : RUnit) (ds : List (List Byte)), atHead s r 0x15 u ds ∧ indexOf ds < 4096
        ∧ 1 ≤ bits (payW ds 0) 6 0 ∧ bits (payW ds 0) 6 0 ≤ 96)
    ∧ (∃ (s : State) (r : Fin 32) (u : RUnit) (ds : List (List Byte)), atHead s r 0x26 u ds
        ∧ (payW ds 0).testBit 63 = false ∧ indexOf ds < 65536 ∧ filterOk false (filterOf (payW ds 0)) = true)
    ∧ (∃ (s : State) (r : Fin 32) (u : RUnit) (ds : List (List Byte)), atHead s r 0x26 u ds
        ∧ (payW ds 0).testBit 63 = false ∧ indexOf ds < 65536 ∧ filterOk false (filterOf (payW ds 0)) = false)
    ∧ (∃ (s : State) (r : Fin 32) (u : RUnit) (ds : List (List Byte)), atHead s r 0x28 u ds ∧ indexOf ds < 1048576
        ∧ bits (payW ds 0) 62 60 ≤ 4) :=
  ⟨⟨putOp 3 d49 (up), (3 : Fin 32), unitOf d49, d49, ⟨sound_of (by decide +kernel), by decide +kernel, by decide +kernel,
      by decide +kernel, by decide +kernel⟩, by decide +kernel⟩,
   ⟨putOp 3 d50 (up), (3 : Fin 32), unitOf d50, d50, ⟨sound_of (by decide +kernel), by decide +kernel, by decide +kernel,
       by decide +kernel, by decide +kernel⟩, by decide +kernel⟩,
   ⟨putOp 3 d51 (up), (3 : Fin 32), unitOf d51, d51, ⟨sound_of (by decide +kernel), by decide +kernel, by decide +kernel,
       by decide +kernel, by decide +kernel⟩, by decide +kernel⟩,
   ⟨putOp 3 d52 (up), (3 : Fin 32), unitOf d52, d52, ⟨sound_of (by decide +kernel), by decide +kernel, by decide +kernel,
       by decide +kernel, by decide +kernel⟩, by decide +kernel⟩,
   ⟨putOp 3 d53 (up), (3 : Fin 32), unitOf d53, d53, ⟨sound_of (by decide +kernel), by decide +kernel, by decide +kernel,
       by decide +kernel, by decide +kernel⟩, by decide +kernel⟩,
   ⟨putOp 3 d54 (up), (3 : Fin 32), unitOf d54, d54, ⟨sound_of (by decide +kernel), by decide +kernel, by decide +kernel,
       by decide +kernel, by decide +kernel⟩, by decide +kernel⟩⟩

theorem test_meets_IndexedTableWrites_2 :
    (∃ (s : State) (r : Fin 32) (u : RUnit) (ds : List (List Byte)), atHead s r 0x28 u ds ∧ indexOf ds < 1048576
        ∧ 4 < bits (payW ds 0) 62 60)
    ∧ (∃ (s : State) (r : Fin 32) (u : RUnit) (ds : List (List Byte)), atHead s r 0x29 u ds ∧ indexOf ds < 65536
        ∧ bits (payW ds 0) 42 32 ≤ 1024 ∧ bits (payW ds 0) 63 44 + bits (payW ds 0) 42 32 ≤ 1048576)
    ∧ (∃ (s : State) (r : Fin 32) (u : RUnit) (ds : List (List Byte)), atHead s r 0x2A u ds ∧ indexOf ds < 1048576)
    ∧ (∃ (s : State) (r : Fin 32) (u : RUnit) (ds : List (List Byte)), atHead s r 0x2B u ds ∧ indexOf ds < 16384) :=
  ⟨⟨putOp 3 d55 (up), (3 : Fin 32), unitOf d55, d55, ⟨sound_of (by decide +kernel), by decide +kernel, by decide +kernel,
      by decide +kernel, by decide +kernel⟩, by decide +kernel⟩,
   ⟨putOp 3 d56 (up), (3 : Fin 32), unitOf d56, d56, ⟨sound_of (by decide +kernel), by decide +kernel, by decide +kernel,
       by decide +kernel, by decide +kernel⟩, by decide +kernel⟩,
   ⟨putOp 3 d57 (up), (3 : Fin 32), unitOf d57, d57, ⟨sound_of (by decide +kernel), by decide +kernel, by decide +kernel,
       by decide +kernel, by decide +kernel⟩, by decide +kernel⟩,
   ⟨putOp 3 d58 (up), (3 : Fin 32), unitOf d58, d58, ⟨sound_of (by decide +kernel), by decide +kernel, by decide +kernel,
       by decide +kernel, by decide +kernel⟩, by decide +kernel⟩⟩

theorem test_meets_HashedInserts :
    (∃ (s : State) (r : Fin 32) (u : RUnit) (ds : List (List Byte)), atHead s r 0x20 u ds)
    ∧ (∃ (s : State) (r : Fin 32) (u : RUnit) (ds : List (List Byte)), atHead s r 0x22 u ds)
    ∧ (∃ (s : State) (r : Fin 32) (u : RUnit) (ds : List (List Byte)), atHead s r 0x24 u ds ∧ lenOk ds = true)
    ∧ (∃ (s : State) (r : Fin 32) (u : RUnit) (ds : List (List Byte)), atHead s r 0x24 u ds ∧ lenOk ds = true
        ∧ regionOf s (bankOf ds) (lpmEnt ds).key = none) :=
  ⟨⟨putOp 3 d63 (cach up), (3 : Fin 32), unitOf d63, d63, ⟨sound_of (by decide +kernel), by decide +kernel,
      by decide +kernel, by decide +kernel, by decide +kernel⟩⟩,
   ⟨putOp 3 d68 (cach up), (3 : Fin 32), unitOf d68, d68, ⟨sound_of (by decide +kernel), by decide +kernel,
       by decide +kernel, by decide +kernel, by decide +kernel⟩⟩,
   ⟨putOp 3 d78 (cach up), (3 : Fin 32), unitOf d78, d78, ⟨sound_of (by decide +kernel), by decide +kernel,
       by decide +kernel, by decide +kernel, by decide +kernel⟩, by decide +kernel⟩,
   ⟨putOp 3 d78 (cach up), (3 : Fin 32), unitOf d78, d78, ⟨sound_of (by decide +kernel), by decide +kernel,
       by decide +kernel, by decide +kernel, by decide +kernel⟩, by decide +kernel⟩⟩

theorem test_meets_HashedDeletes :
    (∃ (s : State) (r : Fin 32) (u : RUnit) (ds : List (List Byte)), atHead s r 0x21 u ds)
    ∧ (∃ (s : State) (r : Fin 32) (u : RUnit) (ds : List (List Byte)), atHead s r 0x23 u ds)
    ∧ (∃ (s : State) (r : Fin 32) (u : RUnit) (ds : List (List Byte)), atHead s r 0x25 u ds ∧ lenOk ds = true) :=
  ⟨⟨putOp 3 d60 (lpmR (cach up)), (3 : Fin 32), unitOf d60, d60, ⟨sound_of (by decide +kernel), by decide +kernel,
      by decide +kernel, by decide +kernel, by decide +kernel⟩⟩,
   ⟨putOp 3 d65 (lpmR (cach up)), (3 : Fin 32), unitOf d65, d65, ⟨sound_of (by decide +kernel), by decide +kernel,
       by decide +kernel, by decide +kernel, by decide +kernel⟩⟩,
   ⟨putOp 3 d75 (lpmR (cach up)), (3 : Fin 32), unitOf d75, d75, ⟨sound_of (by decide +kernel), by decide +kernel,
       by decide +kernel, by decide +kernel, by decide +kernel⟩, by decide +kernel⟩⟩

theorem test_meets_CandidateStates :
    (∃ (s : State) (c : Cand), s.Sound ∧ s.flag .SYS_PLANE_STATE_HEADLESS = false
        ∧ s.tbl.cache.find? (fun x => x.notified.isNone) = some c ∧ (noteWait (learnRec c) s).1 = true)
    ∧ (∃ (s : State), s.flag .SYS_PLANE_STATE_HEADLESS = true)
    ∧ (∃ (s : State), s.Sound)
    ∧ (∃ (s : State) (r : Fin 32) (u : RUnit) (ds : List (List Byte)), atHead s r 0x2C u ds) :=
  ⟨⟨lr up, c5, sound_of (by decide +kernel), by decide +kernel⟩,
   ⟨lr (hdl 1), by decide +kernel⟩,
   ⟨lr up, sound_of (by decide +kernel)⟩,
   ⟨putOp 3 d84 (cach up), (3 : Fin 32), unitOf d84, d84, ⟨sound_of (by decide +kernel), by decide +kernel,
       by decide +kernel, by decide +kernel, by decide +kernel⟩⟩⟩

theorem test_meets_AgeingSweep :
    (∃ (s : State) (i : Nat) (e : Ent), s.Sound ∧ s.fld .TBL_AGE_CFG_PERIOD_S ≠ 0 ∧ s.flag .TBL_AGE_STATUS_ACTIVE = true
        ∧ s.fld .TBL_AGE_STATUS_POSITION = i ∧ sweepAt s i = some i ∧ entAt s.tbl.slots i = some e ∧ ages e = true
        ∧ e.hit = true)
    ∧ (∃ (s : State) (i : Nat) (e : Ent), s.Sound ∧ s.fld .TBL_AGE_CFG_PERIOD_S ≠ 0 ∧ s.flag .TBL_AGE_STATUS_ACTIVE = true
        ∧ s.fld .TBL_AGE_STATUS_POSITION = i ∧ sweepAt s i = some i ∧ entAt s.tbl.slots i = some e ∧ ages e = true
        ∧ e.hit = false ∧ s.flag .TBL_AGE_CFG_MODE = false ∧ s.flag .SYS_PLANE_STATE_HEADLESS = false
        ∧ (noteWait (ageRec e true) (stallCount s)).1 = true)
    ∧ (∃ (s : State) (i : Nat) (e : Ent), s.Sound ∧ s.fld .TBL_AGE_CFG_PERIOD_S ≠ 0 ∧ s.flag .TBL_AGE_STATUS_ACTIVE = true
        ∧ s.fld .TBL_AGE_STATUS_POSITION = i ∧ sweepAt s i = some i ∧ entAt s.tbl.slots i = some e ∧ ages e = true
        ∧ e.hit = false ∧ e.aged = false ∧ (s.flag .TBL_AGE_CFG_MODE = true ∨ s.flag .SYS_PLANE_STATE_HEADLESS = true)
        ∧ (noteWait (ageRec e false) (stallCount s)).1 = true)
    ∧ (∃ (s : State) (i : Nat) (e : Ent), s.Sound ∧ s.fld .TBL_AGE_CFG_PERIOD_S ≠ 0 ∧ s.flag .TBL_AGE_STATUS_ACTIVE = true
        ∧ s.fld .TBL_AGE_STATUS_POSITION = i ∧ sweepAt s i = some i ∧ entAt s.tbl.slots i = some e ∧ ages e = true
        ∧ e.hit = false ∧ s.flag .TBL_AGE_CFG_MODE = false ∧ s.flag .SYS_PLANE_STATE_HEADLESS = false
        ∧ (noteWait (ageRec e true) (stallCount s)).1 = false)
    ∧ (∃ (s : State), s.Sound ∧ s.flag .SYS_PLANE_STATE_HEADLESS = true) :=
  ⟨⟨sw me up, i5, me, sound_of (by decide +kernel), by decide +kernel⟩,
   ⟨sw { me with hit := false } (ringOn 160 u1), i5, { me with hit := false }, sound_of (by decide +kernel),
       by decide +kernel⟩,
   ⟨sw { me with hit := false } (hdl 1), i5, { me with hit := false }, sound_of (by decide +kernel), by decide +kernel⟩,
   ⟨sw { me with hit := false } u1, i5, { me with hit := false }, sound_of (by decide +kernel), by decide +kernel⟩,
   ⟨sw { me with hit := false } (hdl 1), sound_of (by decide +kernel), by decide +kernel⟩⟩

theorem test_meets_TableClear :
    (∃ (s : State) (a : Agent), s.Sound ∧ linked s ∧ s.flag .TBL_CLEAR_CTRL_BUSY = false
        ∧ clearRefused s (s.fld .TBL_CLEAR_BASE_SLOT) (s.fld .TBL_CLEAR_COUNT_COUNT) = false)
    ∧ (∃ (s : State) (a : Agent), s.Sound ∧ linked s ∧ s.flag .TBL_CLEAR_CTRL_BUSY = false
        ∧ clearRefused s (s.fld .TBL_CLEAR_BASE_SLOT) (s.fld .TBL_CLEAR_COUNT_COUNT) = true)
    ∧ (∃ (s : State) (a : Agent), s.Sound ∧ linked s ∧ s.flag .TBL_CLEAR_CTRL_BUSY = true)
    ∧ (∃ (s : State) (b : Nat) (n : Nat), s.Sound ∧ s.tbl.clearing = some (b, n)) :=
  ⟨⟨tc 11042816 6 (up.setFld .TBL_CLEAR_CTRL_BUSY 0), Agent.app, sound_of (by decide +kernel),
      by unfold linked; decide +kernel, by decide +kernel⟩,
   ⟨tc 3 6 (up.setFld .TBL_CLEAR_CTRL_BUSY 0), Agent.app, sound_of (by decide +kernel), by unfold linked; decide +kernel,
       by decide +kernel⟩,
   ⟨cl, Agent.app, sound_of (by decide +kernel), by unfold linked; decide +kernel, by decide +kernel⟩,
   ⟨cl, 6, 3, sound_of (by decide +kernel), by decide +kernel⟩⟩

theorem test_meets_CounterDump :
    (∃ (s : State) (r : Fin 32) (u : RUnit) (ds : List (List Byte)), atHead s r 0x30 u ds ∧ dumpOk ds = true
        ∧ s.host.dump = none)
    ∧ (∃ (s : State) (r : Fin 32) (u : RUnit) (ds : List (List Byte)) (d : DumpSt), atHead s r 0x30 u ds
        ∧ dumpOk ds = true ∧ s.host.dump = some d)
    ∧ (∃ (s : State) (r : Fin 32) (u : RUnit) (ds : List (List Byte)), atHead s r 0x30 u ds ∧ dumpOk ds = false)
    ∧ (∃ (s : State) (d : DumpSt), s.Sound ∧ s.host.dump = some d ∧ (noteWait (dumpRec s d) s).1 = true ∧ 1 < d.left)
    ∧ (∃ (s : State) (d : DumpSt), s.Sound ∧ s.host.dump = some d ∧ (noteWait (dumpRec s d) s).1 = true ∧ d.left ≤ 1)
    ∧ (∃ (s : State) (d : DumpSt), s.host.dump = some d ∧ ringTakes s (noteRing s .dump) 1 = false
        ∧ s.flag .SYS_PLANE_STATE_HEADLESS = false) :=
  ⟨⟨putOp 3 d85 (u1), (3 : Fin 32), unitOf d85, d85, ⟨sound_of (by decide +kernel), by decide +kernel, by decide +kernel,
      by decide +kernel, by decide +kernel⟩, by decide +kernel⟩,
   ⟨putOp 3 d86 (dst 4 u1), (3 : Fin 32), unitOf d86, d86, dm 4, ⟨sound_of (by decide +kernel), by decide +kernel,
       by decide +kernel, by decide +kernel, by decide +kernel⟩, by decide +kernel⟩,
   ⟨putOp 3 d87 (u1), (3 : Fin 32), unitOf d87, d87, ⟨sound_of (by decide +kernel), by decide +kernel, by decide +kernel,
       by decide +kernel, by decide +kernel⟩, by decide +kernel⟩,
   ⟨dst 4 (ringOn 160 u1), dm 4, sound_of (by decide +kernel), by decide +kernel⟩,
   ⟨dst 1 (ringOn 160 u1), dm 1, sound_of (by decide +kernel), by decide +kernel⟩,
   ⟨dst 1 u1, dm 1, by decide +kernel⟩⟩

theorem test_meets_CrossbarSendAndMatch :
    (∃ (s : State) (i : Fin 32) (x : XCell) (l : List XCell) (p : Nat), s.Sound ∧ forwards s ∧ feedOf s i.val = x :: l
        ∧ x.cell.tag.ready ≤ s.now ∧ SMap.getD s.xbar.spent (32 * i.val + x.out) 0 < 256 ∧ stagedAt s i.val < 4096
        ∧ choosePlane s i.val x.out = some p)
    ∧ (∃ (s : State) (i : Fin 32) (x : XCell) (l : List XCell), feedOf s i.val = x :: l
        ∧ (256 ≤ SMap.getD s.xbar.spent (32 * i.val + x.out) 0 ∨ s.now < x.cell.tag.ready))
    ∧ (∃ (s : State) (p : Fin 16), s.Sound ∧ forwards s ∧ SMap.getD s.xbar.matched p.val 0 ≠ s.now / 4 + 1)
    ∧ (∃ (s : State) (p : Fin 16), SMap.getD s.xbar.matched p.val 0 = s.now / 4 + 1) :=
  ⟨⟨sf up, (2 : Fin 32), xc 0, [xc 0], ((choosePlane (sf up) 2 0).getD 0), sound_of (by decide +kernel),
      by unfold forwards; decide +kernel, by decide +kernel⟩,
   ⟨sf2 up, (2 : Fin 32), xc 0, [xc 0], by decide +kernel⟩,
   ⟨sm up, (3 : Fin 16), sound_of (by decide +kernel), by unfold forwards; decide +kernel, by decide +kernel⟩,
   ⟨sm2 up, (3 : Fin 16), by decide +kernel⟩⟩

theorem test_meets_CrossbarArrival :
    (∃ (s : State) (p : Fin 16) (o : Fin 32) (x : XCell) (l : List XCell), s.Sound ∧ forwards s
        ∧ SMap.getD s.xbar.cross (32 * p.val + o.val) [] = x :: l ∧ x.at_ / 4 < s.now / 4 ∧ x.xseq < 65536 ∧ x.src < 32
        ∧ x.queue < 4096 ∧ x.bad = false ∧ x.xseq ≠ (reoOf s o.val x.src).next ∧ passedBy s o.val x = false
        ∧ (∀ y ∈ (reoOf s o.val x.src).held, y.xseq ≠ (reoOf s o.val x.src).next))
    ∧ (∃ (s : State) (p : Fin 16) (o : Fin 32) (x : XCell) (l : List XCell), s.Sound ∧ forwards s
        ∧ SMap.getD s.xbar.cross (32 * p.val + o.val) [] = x :: l ∧ x.at_ / 4 < s.now / 4 ∧ x.xseq < 65536 ∧ x.src < 32
        ∧ x.queue < 4096 ∧ x.bad = false ∧ x.xseq = (reoOf s o.val x.src).next ∧ (reoOf s o.val x.src).held = [])
    ∧ (∃ (s : State) (p : Fin 16) (o : Fin 32) (x : XCell) (l : List XCell) (d : CellDamage), s.Sound ∧ forwards s
        ∧ SMap.getD s.xbar.cross (32 * p.val + o.val) [] = x :: l ∧ x.at_ / 4 < s.now / 4 ∧ x.xseq < 65536 ∧ x.src < 32
        ∧ x.queue < 4096 ∧ x.bad = false ∧ readTag (tagWord x ^^^ d.flips.toNat) = none)
    ∧ (∃ (s : State) (o : Fin 32) (i : Fin 32) (e : Nat) (x : XCell), s.Sound ∧ forwards s
        ∧ (reoOf s o.val i.val).gapAt = some e ∧ afterGap (reoOf s o.val i.val) = some x
        ∧ e + min 1024 (max 1 (s.fld .XBAR_RESEQ_CFG_TIMEOUT_US)) * 1600 ≤ s.now)
    ∧ (∃ (s : State) (o : Fin 32) (i : Fin 32) (e : Nat) (x : XCell), s.Sound ∧ (reoOf s o.val i.val).gapAt = some e
        ∧ afterGap (reoOf s o.val i.val) = some x
        ∧ s.now < e + min 1024 (max 1 (s.fld .XBAR_RESEQ_CFG_TIMEOUT_US)) * 1600) :=
  ⟨⟨sa (xc 8) up, (3 : Fin 16), (0 : Fin 32), xc 8, [xc 9], sound_of (by decide +kernel),
      by unfold forwards; decide +kernel, by decide +kernel⟩,
   ⟨sa (xc 7) up, (3 : Fin 16), (0 : Fin 32), xc 7, [xc 9], sound_of (by decide +kernel),
       by unfold forwards; decide +kernel, by decide +kernel⟩,
   ⟨sa (xc 8) up, (3 : Fin 16), (0 : Fin 32), xc 8, [xc 9], (⟨3#64, false⟩ : CellDamage), sound_of (by decide +kernel),
       by unfold forwards; decide +kernel, by decide +kernel⟩,
   ⟨sg 5 up, (0 : Fin 32), (2 : Fin 32), 5, xc 9, sound_of (by decide +kernel), by unfold forwards; decide +kernel,
       by decide +kernel⟩,
   ⟨sg 5000000000 up, (0 : Fin 32), (2 : Fin 32), 5000000000, xc 9, sound_of (by decide +kernel), by decide +kernel⟩⟩

theorem test_meets_CrossbarPlanes :
    (∃ (s : State) (p : Fin 16), s.Sound ∧ planeDraining s p.val = true ∧ (∀ e ∈ s.xbar.stage, e.1 % 16 ≠ p.val)
        ∧ (∀ e ∈ s.xbar.cross, e.1 / 32 ≠ p.val))
    ∧ (∃ (s : State) (a : Agent) (v : Word), s.Sound ∧ linked s) :=
  ⟨⟨(up.setFld .XBAR_PLANE_STATUS_DRAINING 8).setFld .XBAR_PLANE_STATUS_IN_SERVICE 0xFFFF, (3 : Fin 16),
      sound_of (by decide +kernel), by decide +kernel⟩,
   ⟨pbx, Agent.app, (0x11 : Word), sound_of (by decide +kernel), by unfold linked; decide +kernel⟩⟩

theorem test_meets_BufferCarveAndScrub :
    (∃ (s : State) (a : Agent), s.Sound ∧ linked s ∧ s.flag .BUF_CARVE_STATUS_BUSY = false ∧ carveErr s = 0
        ∧ retired s false = [])
    ∧ (∃ (s : State) (a : Agent), s.Sound ∧ linked s ∧ s.flag .BUF_CARVE_STATUS_BUSY = false ∧ carveErr s ≠ 0)
    ∧ (∃ (s : State) (a : Agent), s.Sound ∧ linked s ∧ s.flag .BUF_CARVE_STATUS_BUSY = true)
    ∧ (∃ (s : State), s.Sound ∧ s.flag .BUF_CARVE_STATUS_BUSY = true
        ∧ metaBase s.buf.carved + metaGib s.buf.carved ≤ hbmGib s)
    ∧ (∃ (s : State) (p : Nat) (n : Nat), s.Sound ∧ forwards s ∧ s.flag .BUF_SCRUB_CFG_EN = true
        ∧ s.fld .BUF_SCRUB_STATUS_POOL = p ∧ p < 5 ∧ s.fld .BUF_SCRUB_STATUS_POSITION = n ∧ n < poolSize s p
        ∧ tileOf s p n = none ∧ (scrubTakes p n s).1 = true)
    ∧ (∃ (s : State) (p : Nat) (n : Nat) (pass : Bool), s.Sound ∧ forwards s ∧ s.flag .BUF_SCRUB_CFG_EN = true
        ∧ s.fld .BUF_SCRUB_STATUS_POOL = p ∧ p < 5 ∧ s.fld .BUF_SCRUB_STATUS_POSITION = n ∧ n < poolSize s p
        ∧ tileOf s p n = none ∧ (scrubTakes p n s).1 = false) :=
  ⟨⟨scr [] 0 5 up, Agent.app, sound_of (by decide +kernel), by unfold linked; decide +kernel, by decide +kernel⟩,
   ⟨((crv up).setFld .BUF_CARVE_STATUS_BUSY 0).setReg .BUF_CARVE_TILES 65 0, Agent.app, sound_of (by decide +kernel),
       by unfold linked; decide +kernel, by decide +kernel⟩,
   ⟨{ (crv up).setFld .BUF_CARVE_STATUS_BUSY 1 with buf := { tiles := [(5, {}), (2^30+7, {})], carved := [6400,640,64,64] } },
       Agent.app, sound_of (by decide +kernel), by unfold linked; decide +kernel, by decide +kernel⟩,
   ⟨{ (crv up).setFld .BUF_CARVE_STATUS_BUSY 1 with buf := { tiles := [(5, {}), (2^30+7, {})], carved := [6400,640,64,64] } },
       sound_of (by decide +kernel), by decide +kernel⟩,
   ⟨scr [] 0 5 up, 0, 5, sound_of (by decide +kernel), by unfold forwards; decide +kernel, by decide +kernel⟩,
   ⟨scr [] 4 5 ((up.setReg .BUF_POOL_FREE 7 4).setReg .BUF_POOL_RSV 7), 4, 5, true, sound_of (by decide +kernel),
       by unfold forwards; decide +kernel, by decide +kernel⟩⟩

theorem test_meets_BufferCarveAndScrub_2 :
    (∃ (s : State) (p : Nat) (n : Nat) (x : TileSt), s.Sound ∧ forwards s ∧ s.flag .BUF_SCRUB_CFG_EN = true
        ∧ s.fld .BUF_SCRUB_STATUS_POOL = p ∧ p < 5 ∧ s.fld .BUF_SCRUB_STATUS_POSITION = n ∧ n < poolSize s p
        ∧ tileOf s p n = some x ∧ x.quar = true ∧ x.retired = false)
    ∧ (∃ (s : State) (p : Nat) (n : Nat) (x : TileSt), s.Sound ∧ forwards s ∧ s.flag .BUF_SCRUB_CFG_EN = true
        ∧ s.fld .BUF_SCRUB_STATUS_POOL = p ∧ p < 5 ∧ s.fld .BUF_SCRUB_STATUS_POSITION = n ∧ n < poolSize s p
        ∧ tileOf s p n = some x ∧ x.quar = true ∧ x.retired = false
        ∧ max 1 (s.fld .BUF_SCRUB_CFG_RELEASE_PASSES) ≤ x.passes + 1)
    ∧ (∃ (s : State) (p : Nat) (n : Nat) (x : TileSt) (pass : Bool), s.Sound ∧ forwards s
        ∧ s.flag .BUF_SCRUB_CFG_EN = true ∧ s.fld .BUF_SCRUB_STATUS_POOL = p ∧ p < 5
        ∧ s.fld .BUF_SCRUB_STATUS_POSITION = n ∧ n < poolSize s p ∧ tileOf s p n = some x ∧ x.quar = false)
    ∧ (∃ (s : State) (pass : Bool) (n : Nat), s.Sound ∧ forwards s ∧ s.flag .BUF_SCRUB_CFG_EN = true
        ∧ s.fld .BUF_SCRUB_STATUS_POOL = 4 ∧ s.fld .BUF_SCRUB_STATUS_POSITION = n ∧ n + 1 < 1572864
        ∧ (tileOf s 4 n = none → (scrubTakes 4 n s).1 = true))
    ∧ (∃ (s : State) (pass : Bool) (e : BufError), s.Sound ∧ forwards s ∧ s.flag .BUF_SCRUB_CFG_EN = false) :=
  ⟨⟨scr [(5, { quar := true })] 0 5 up, 0, 5, ({ quar := true } : TileSt), sound_of (by decide +kernel),
      by unfold forwards; decide +kernel, by decide +kernel⟩,
   ⟨scr [(5, { quar := true })] 0 5 (up.setFld .BUF_SCRUB_CFG_RELEASE_PASSES 1), 0, 5, ({ quar := true } : TileSt),
       sound_of (by decide +kernel), by unfold forwards; decide +kernel, by decide +kernel⟩,
   ⟨scr [(5, {})] 0 5 up, 0, 5, ({} : TileSt), false, sound_of (by decide +kernel), by unfold forwards; decide +kernel,
       by decide +kernel⟩,
   ⟨scr [(2^30+5, {})] 4 5 up, false, 5, sound_of (by decide +kernel), by unfold forwards; decide +kernel,
       by decide +kernel⟩,
   ⟨(scr [(3*2^28+63, {})] 3 63 up).setFld .BUF_SCRUB_CFG_EN 0, false, BufError.bitmap 3 2, sound_of (by decide +kernel),
       by unfold forwards; decide +kernel, by decide +kernel⟩⟩

set_option maxRecDepth 100000 in
theorem test_meets_SpillAndRefill :
    (∃ (s : State) (k : Fin 22528) (u : QUnit) (p : Nat) (n : Nat), s.Sound ∧ forwards s ∧ spillActive s = true
        ∧ (queueOf s k.val).units.find? spillNext = some u ∧ p = spillPool u.cells.length ∧ portTaken s p = false
        ∧ spillRival s p (spillRank s (qXport k.val)) = false
        ∧ hbmFree s.buf.tiles (notYet s s.now) p (poolSize s p) 0 = some n)
    ∧ (∃ (s : State) (k : Fin 22528) (u : QUnit) (p : Nat), s.Sound ∧ forwards s ∧ spillActive s = true
        ∧ (queueOf s k.val).units.find? spillNext = some u ∧ p = spillPool u.cells.length ∧ portTaken s p = false
        ∧ spillRival s p (spillRank s (qXport k.val)) = false
        ∧ hbmFree s.buf.tiles (notYet s s.now) p (poolSize s p) 0 = none)
    ∧ (∃ (s : State) (k : Fin 22528) (u : QUnit) (p : Nat), s.Sound ∧ forwards s ∧ spillActive s = true
        ∧ (queueOf s k.val).units.find? spillNext = some u ∧ p = spillPool u.cells.length ∧ portTaken s p = true
        ∧ 1 ≤ hbmReady s p)
    ∧ (∃ (s : State) (k : Fin 22528) (u : QUnit), s.Sound ∧ forwards s ∧ 2048 ≤ k.val
        ∧ (queueOf s k.val).units.find? (fun u => !u.closed) = some u ∧ u.at_ + 1600 ≤ s.now)
    ∧ (∃ (s : State) (k : Fin 22528) (u : QUnit) (p : Nat) (n : Nat), s.Sound ∧ forwards s ∧ refillNext s k.val = some u
        ∧ u.hbm = some (p, n) ∧ (reserveTurn (160 + qXport k.val) u.cells.length true s).1 = true
        ∧ recordOk s.buf.carved p n (metaOf s p n) (u.cells.map (fun e => e.2)) = true)
    ∧ (∃ (s : State) (k : Fin 22528) (u : QUnit) (p : Nat) (n : Nat) (flips : DWord) (bad : Bool), s.Sound ∧ forwards s
        ∧ refillNext s k.val = some u ∧ u.hbm = some (p, n)
        ∧ (reserveTurn (160 + qXport k.val) u.cells.length true s).1 = true ∧ (bad = true
        ∨ recordOk s.buf.carved p n (metaOf s p n ^^^ flips.toNat) (u.cells.map (fun e => e.2)) = false)) :=
  ⟨⟨spu un1 40 up, (40 : Fin 22528), un1, 0, 1, sound_of (by decide +kernel), by unfold forwards; decide +kernel,
      by decide +kernel⟩,
   ⟨spf up, (40 : Fin 22528), un1, 0, sound_of (by decide +kernel), by unfold forwards; decide +kernel,
       by decide +kernel⟩,
   ⟨(spt up).setReg .BUF_POOL_FREE 61 0, (40 : Fin 22528), un1, 0, sound_of (by decide +kernel),
       by unfold forwards; decide +kernel, by decide +kernel⟩,
   ⟨spu un3 2060 up, (2060 : Fin 22528), { un3 with spill := false }, sound_of (by decide +kernel),
       by unfold forwards; decide +kernel, by decide +kernel⟩,
   ⟨rfm ((up.setReg .BUF_POOL_RSV 0).setReg .BUF_POOL_FREE 1000 4), (40 : Fin 22528), un4, 0, 0,
       sound_of (by decide +kernel), by unfold forwards; decide +kernel, by decide +kernel⟩,
   ⟨rf un4 40 ((up.setReg .BUF_POOL_RSV 0).setReg .BUF_POOL_FREE 1000 4), (40 : Fin 22528), un4, 0, 0, (0 : DWord), false,
       sound_of (by decide +kernel), by unfold forwards; decide +kernel, by decide +kernel⟩⟩

set_option maxRecDepth 100000 in
theorem test_meets_SpillAndRefill_2 :
    (∃ (s : State) (k : Fin 22528) (u : QUnit) (p : Nat) (n : Nat), s.Sound ∧ forwards s ∧ refillNext s k.val = some u
        ∧ u.hbm = some (p, n) ∧ (reserveTurn (160 + qXport k.val) u.cells.length true s).1 = false) :=
  ⟨rf un4 40 ((up.setReg .BUF_POOL_RSV 999).setReg .BUF_POOL_FREE 1000 4), (40 : Fin 22528), un4, 0, 0,
      sound_of (by decide +kernel), by unfold forwards; decide +kernel, by decide +kernel⟩

theorem test_meets_ShaperAndPolicerRefresh :
    (∃ (s : State) (i : Fin 2304), s.Sound ∧ s.now % 64 = 0 ∧ (shaperOf s i.val).last ≠ s.now + 1
        ∧ shaperOwes s i.val = false)
    ∧ (∃ (s : State) (i : Fin 2304), s.Sound ∧ s.now % 64 = 0 ∧ (shaperOf s i.val).last ≠ s.now + 1
        ∧ shaperOwes s i.val = true)
    ∧ (∃ (s : State) (i : Fin 2304), s.now % 64 ≠ 0)
    ∧ (∃ (s : State) (i : Fin 65536), s.Sound ∧ s.now % 4096 = i.val / 16 ∧ (polOf s i.val).last ≠ s.now + 1)
    ∧ (∃ (s : State) (i : Fin 65536), s.now % 4096 ≠ i.val / 16) :=
  ⟨⟨shp up 1, (5 : Fin 2304), sound_of (by decide +kernel), by decide +kernel⟩,
   ⟨shl, (5 : Fin 2304), sound_of (by decide +kernel), by decide +kernel⟩,
   ⟨{ shp up 1 with now := 6401}, (5 : Fin 2304), by decide +kernel⟩,
   ⟨{ (up.setFld .TM_POL_B_EN 1 33).setFld .TM_POL_A_RATE_INC 99 33 with now := 4096 + 2}, (33 : Fin 65536),
       sound_of (by decide +kernel), by decide +kernel⟩,
   ⟨{ (up.setFld .TM_POL_B_EN 1 33).setFld .TM_POL_A_RATE_INC 99 33 with now := 4096 + 3}, (33 : Fin 65536),
       by decide +kernel⟩⟩

theorem test_meets_WeatherSample :
    (∃ (s : State), s.Sound ∧ s.flag .TM_WX_CFG_EN = true ∧ s.flag .SYS_PLANE_STATE_HEADLESS = false
        ∧ wxCount s s.time.before < wxCount s s.time.ts ∧ s.tm.wxAt ≠ s.now + 1)
    ∧ (∃ (s : State), (s.flag .TM_WX_CFG_EN = false ∨ s.flag .SYS_PLANE_STATE_HEADLESS = true
        ∨ wxCount s s.time.ts ≤ wxCount s s.time.before ∨ s.tm.wxAt = s.now + 1)) :=
  ⟨⟨wxs 5 up, sound_of (by decide +kernel), by decide +kernel⟩,
   ⟨(wxs 5 up).setFld .TM_WX_CFG_EN 0, by decide +kernel⟩⟩

theorem test_meets_SkyControl :
    (∃ (s : State) (a : Agent) (v : Word), s.Sound ∧ linked s ∧ Fld.SKY_CTRL_EN.get v = 1 ∧ skyState s = 0
        ∧ skyCfgOk s = true ∧ s.flag .PWR_STATUS_OVEN_READY = true)
    ∧ (∃ (s : State) (a : Agent) (v : Word), s.Sound ∧ linked s ∧ Fld.SKY_CTRL_EN.get v = 1 ∧ skyState s = 0
        ∧ skyCfgOk s = true ∧ s.flag .PWR_STATUS_OVEN_READY = false)
    ∧ (∃ (s : State) (a : Agent) (v : Word), s.Sound ∧ linked s ∧ Fld.SKY_CTRL_EN.get v = 1 ∧ skyState s = 0
        ∧ skyCfgOk s = false)
    ∧ (∃ (s : State) (a : Agent) (v : Word), s.Sound ∧ linked s ∧ Fld.SKY_CTRL_EN.get v = 0 ∧ skyState s ≠ 0)
    ∧ (∃ (s : State) (a : Agent) (v : Word), s.Sound ∧ linked s ∧ (Fld.SKY_CTRL_EN.get v = 0 ∧ skyState s = 0
        ∨ Fld.SKY_CTRL_EN.get v = 1 ∧ skyState s ≠ 0))
    ∧ (∃ (s : State) (a : Agent) (v : Word), s.Sound ∧ linked s ∧ keyOpen s a = true ∧ (a = .keeper
        ∨ keeperWins s (Reg.off .SKY_TX_EN) = false)) :=
  ⟨⟨(sk 0 3 up).setFld .PWR_STATUS_OVEN_READY 1, Agent.app, wEN, sound_of (by decide +kernel),
      by unfold linked; decide +kernel, by decide +kernel⟩,
   ⟨(sk 0 3 up).setFld .PWR_STATUS_OVEN_READY 0, Agent.app, wEN, sound_of (by decide +kernel),
       by unfold linked; decide +kernel, by decide +kernel⟩,
   ⟨((sk 0 3 up).setFld .PWR_STATUS_OVEN_READY 1).setReg .SKY_CFG 0x0E45#32, Agent.app, wEN, sound_of (by decide +kernel),
       by unfold linked; decide +kernel, by decide +kernel⟩,
   ⟨ky (sk 3 3 up), Agent.app, (0 : Word), sound_of (by decide +kernel), by unfold linked; decide +kernel,
       by decide +kernel⟩,
   ⟨ky (sk 3 3 up), Agent.keeper, (1 : Word), sound_of (by decide +kernel), by unfold linked; decide +kernel,
       by decide +kernel⟩,
   ⟨ky (sk 3 3 up), Agent.app, (0 : Word), sound_of (by decide +kernel), by unfold linked; decide +kernel,
       by decide +kernel⟩⟩

theorem test_meets_SkyControl_2 :
    (∃ (s : State) (a : Agent) (v : Word), s.Sound ∧ linked s ∧ keyOpen s a = true ∧ a ≠ .keeper
        ∧ keeperWins s (Reg.off .SKY_TX_EN) = true)
    ∧ (∃ (s : State) (a : Agent) (v : Word), s.Sound ∧ linked s ∧ keyOpen s a = false) :=
  ⟨⟨kw (Reg.off .SKY_TX_EN) (ky (sk 3 3 up)), Agent.app, (0 : Word), sound_of (by decide +kernel),
      by unfold linked; decide +kernel, by decide +kernel⟩,
   ⟨(sk 0 3 up).setFld .PWR_STATUS_OVEN_READY 1, Agent.app, wEN, sound_of (by decide +kernel),
       by unfold linked; decide +kernel, by decide +kernel⟩⟩

theorem test_meets_SkyLanes :
    (∃ (s : State) (a : Agent) (i : Fin 8) (v : Word), s.Sound ∧ linked s ∧ keyOpen s a = true ∧ (a = .keeper
        ∨ keeperWins s (Reg.off .SKY_LANE_EN i) = false) ∧ ¬(s.sys.part = .s1024 ∧ 4 ≤ i.val))
    ∧ (∃ (s : State) (a : Agent) (i : Fin 8) (v : Word), s.Sound ∧ s.sys.part = .s1024 ∧ 4 ≤ i.val)
    ∧ (∃ (s : State) (n : Fin 256), s.Sound ∧ n.val < skyLanes s)
    ∧ (∃ (s : State) (n : Fin 256), s.Sound ∧ 2 ≤ skyState s ∧ n.val < skyLanes s
        ∧ (s.reg .SKY_LANE_RXLOS (n.val / 32)).toNat.testBit (n.val % 32) = false
        ∧ (slane s n.val).syncAt + 2 ≤ syncEnded s n.val ∧ s.sky.since + 2 ≤ syncEnded s n.val) :=
  ⟨⟨chs 3 (ky (sk 3 3 up)), Agent.app, (0 : Fin 8), (0 : Word), sound_of (by decide +kernel),
      by unfold linked; decide +kernel, by decide +kernel⟩,
   ⟨{ ky (sk 3 3 up) with sys := { up.sys with part := .s1024 } }, Agent.app, (5 : Fin 8), (8 : Word),
       sound_of (by decide +kernel), by decide +kernel⟩,
   ⟨(sk 3 3 up), (3 : Fin 256), sound_of (by decide +kernel), by decide +kernel⟩,
   ⟨(sk 3 3 up), (3 : Fin 256), sound_of (by decide +kernel), by decide +kernel⟩⟩

theorem test_meets_MapArmingAndApplication :
    (∃ (s : State) (a : Agent), s.Sound ∧ linked s ∧ s.flag .SKY_MAP_STATUS_VALIDATING = false)
    ∧ (∃ (s : State) (a : Agent), s.Sound ∧ linked s ∧ s.flag .SKY_MAP_STATUS_VALIDATING = true)
    ∧ (∃ (s : State) (c : Nat) (b : Nat) (id : Nat) (ea : Nat), s.Sound ∧ s.sky.arming = some (c, b, id, ea) ∧ b < 2
        ∧ id < 256 ∧ armErr s b id ea = (0, none))
    ∧ (∃ (s : State) (c : Nat) (b : Nat) (id : Nat) (ea : Nat), s.Sound ∧ s.sky.arming = some (c, b, id, ea) ∧ b < 2
        ∧ id < 256 ∧ (armErr s b id ea).1 ≠ 0)
    ∧ (∃ (s : State), s.Sound ∧ s.flag .SKY_MAP_STATUS_ARMED = true ∧ s.sky.applyAt ≤ curEpoch s)
    ∧ (∃ (s : State), (s.flag .SKY_MAP_STATUS_ARMED = false ∨ curEpoch s < s.sky.applyAt)) :=
  ⟨⟨armd 100 (sk 3 3 up), Agent.app, sound_of (by decide +kernel), by unfold linked; decide +kernel, by decide +kernel⟩,
   ⟨arm 1 7 1000 (((sk 3 3 up))), Agent.app, sound_of (by decide +kernel), by unfold linked; decide +kernel,
       by decide +kernel⟩,
   ⟨arm 1 7 1000 (goodBank (sk 3 3 up)), 5, 1, 7, 1000, sound_of (by decide +kernel), ⟨by decide +kernel, by decide,
       by decide, bank_arms⟩⟩,
   ⟨arm 1 7 1000 (((sk 3 3 up))), 5, 1, 7, 1000, sound_of (by decide +kernel), by decide +kernel⟩,
   ⟨armd 100 (sk 3 3 up), sound_of (by decide +kernel), by decide +kernel⟩,
   ⟨armd 101 (sk 3 3 up), by decide +kernel⟩⟩

theorem test_meets_MapArmingAndApplication_2 :
    (∃ (s : State) (a : Agent), s.Sound ∧ linked s ∧ s.flag .SKY_MAP_STATUS_ARMED = true ∧ curEpoch s < s.sky.applyAt)
    ∧ (∃ (s : State) (a : Agent), s.Sound ∧ linked s ∧ s.flag .SKY_MAP_STATUS_ARMED = true
        ∧ s.sky.applyAt ≤ curEpoch s) :=
  ⟨⟨armd 101 (sk 3 3 up), Agent.app, sound_of (by decide +kernel), by unfold linked; decide +kernel, by decide +kernel⟩,
   ⟨armd 100 (sk 3 3 up), Agent.app, sound_of (by decide +kernel), by unfold linked; decide +kernel, by decide +kernel⟩⟩

theorem test_meets_EpochBoundary :
    (∃ (s : State) (root oven : Nat), s.Sound ∧ s.sky.epoch ≠ curEpoch s)
    ∧ (∃ (s : State) (root oven : Nat), s.sky.epoch = curEpoch s) :=
  ⟨⟨ep (sk 1 3 up), 20000000, 20000001, sound_of (by decide +kernel), by decide +kernel⟩,
   ⟨sk 3 3 up, 20000000, 20000002, by decide +kernel⟩⟩

theorem test_meets_SkyBursts :
    (∃ (s : State) (n : Fin 256), s.Sound ∧ (curSlot s).slot = 0 ∧ epochOpen s = true ∧ syncState s = true
        ∧ laneUp s n.val = true ∧ (slane s n.val).sent ≠ some (curSlot s))
    ∧ (∃ (s : State) (n : Fin 256) (bad : List Nat), (slane s n.val).sent = some (curSlot s))
    ∧ (∃ (s : State) (n : Fin 256) (d : Nat), s.Sound ∧ (curSlot s).slot ≠ 0 ∧ epochOpen s = true ∧ n.val < skyLanes s
        ∧ (slane s n.val).sent ≠ some (curSlot s) ∧ laneDest s n.val (curSlot s) = some d ∧ mayBurst s n.val = true
        ∧ peerServes s n.val d = true)
    ∧ (∃ (s : State) (n : Fin 256) (d : Nat) (bad : List Nat), s.Sound ∧ (curSlot s).slot ≠ 0 ∧ epochOpen s = true
        ∧ n.val < skyLanes s ∧ (slane s n.val).sent ≠ some (curSlot s) ∧ laneDest s n.val (curSlot s) = some d
        ∧ mayBurst s n.val = true ∧ peerServes s n.val d = false)
    ∧ (∃ (s : State) (n : Fin 256) (bad : List Nat), s.Sound ∧ (curSlot s).slot ≠ 0 ∧ epochOpen s = true
        ∧ n.val < skyLanes s ∧ (slane s n.val).sent ≠ some (curSlot s) ∧ (laneDest s n.val (curSlot s) = none
        ∨ mayBurst s n.val = false))
    ∧ (∃ (s : State) (p : Fin 16), s.Sound) :=
  ⟨⟨lv 17 (lanesOn (sk 3 0 up)), (17 : Fin 256), sound_of (by decide +kernel), by decide +kernel⟩,
   ⟨setSlane 17 { sent := some ⟨100, 0⟩ } (lanesOn (sk 3 0 up)), (17 : Fin 256), [2], by decide +kernel⟩,
   ⟨chs 17 ((pp (sk 3 3 up)).setFld .SKY_PEER_FORMAT_TX 2 7), (17 : Fin 256), 7, sound_of (by decide +kernel),
       by decide +kernel⟩,
   ⟨chs 17 ((pp (sk 3 3 up)).setFld .SKY_PEER_FORMAT_TX 0 7), (17 : Fin 256), 7, [1, 2], sound_of (by decide +kernel),
       by decide +kernel⟩,
   ⟨lanesOn (pp (sk 3 4 up)), (17 : Fin 256), [2], sound_of (by decide +kernel), by decide +kernel⟩,
   ⟨lanesOn (pp (sk 3 4 up)), (1 : Fin 16), sound_of (by decide +kernel)⟩⟩

set_option maxRecDepth 100000 in
theorem test_meets_SkyReception :
    (∃ (s : State) (n : Fin 256) (b : RxBurst), s.Sound ∧ forwards s ∧ skyState s ≠ 0 ∧ n.val < skyLanes s
        ∧ syncFound s n.val b = false)
    ∧ (∃ (s : State) (n : Fin 256) (b : RxBurst), s.Sound ∧ forwards s ∧ skyState s ≠ 0 ∧ n.val < skyLanes s
        ∧ syncFound s n.val b = true ∧ (hdrDecodes b = false ∨ hdrCrcOk b.hdrData = false))
    ∧ (∃ (s : State) (n : Fin 256) (b : RxBurst), s.Sound ∧ forwards s ∧ skyState s ≠ 0 ∧ n.val < skyLanes s
        ∧ syncFound s n.val b = true ∧ hdrDecodes b = true ∧ hdrCrcOk b.hdrData = true ∧ ((hdrField b.hdrData 479 472 ≠ 3
        ∧ hdrField b.hdrData 479 472 ≠ 4) ∨ hdrField b.hdrData 471 465 = ownMod s
        ∨ skySize s ≤ hdrField b.hdrData 471 465))
    ∧ (∃ (s : State) (n : Fin 256) (b : RxBurst), s.Sound ∧ forwards s ∧ skyState s ≠ 0 ∧ n.val < skyLanes s
        ∧ syncFound s n.val b = true ∧ hdrDecodes b = true ∧ hdrCrcOk b.hdrData = true ∧ (hdrField b.hdrData 479 472 = 3
        ∨ hdrField b.hdrData 479 472 = 4) ∧ hdrField b.hdrData 471 465 ≠ ownMod s ∧ hdrField b.hdrData 471 465 < skySize s
        ∧ hdrField b.hdrData 463 456 ≠ n.val)
    ∧ (∃ (s : State) (n : Fin 256) (b : RxBurst), s.Sound ∧ forwards s ∧ skyState s ≠ 0 ∧ n.val < skyLanes s
        ∧ syncFound s n.val b = true ∧ hdrDecodes b = true ∧ hdrCrcOk b.hdrData = true ∧ (hdrField b.hdrData 479 472 = 3
        ∨ hdrField b.hdrData 479 472 = 4) ∧ hdrField b.hdrData 471 465 ≠ ownMod s ∧ hdrField b.hdrData 471 465 < skySize s
        ∧ hdrField b.hdrData 463 456 = n.val ∧ timed s = true
        ∧ expectedSlot s n.val b.rxTs ≠ ⟨burstEpoch s (hdrField b.hdrData 455 440), hdrField b.hdrData 439 432⟩)
    ∧ (∃ (s : State) (n : Fin 256) (b : RxBurst), s.Sound ∧ forwards s ∧ skyState s ≠ 0 ∧ n.val < skyLanes s
        ∧ syncFound s n.val b = true ∧ hdrDecodes b = true ∧ hdrCrcOk b.hdrData = true ∧ (hdrField b.hdrData 479 472 = 3
        ∨ hdrField b.hdrData 479 472 = 4) ∧ hdrField b.hdrData 471 465 ≠ ownMod s ∧ hdrField b.hdrData 471 465 < skySize s
        ∧ hdrField b.hdrData 463 456 = n.val ∧ (timed s = false
        ∨ expectedSlot s n.val b.rxTs = ⟨burstEpoch s (hdrField b.hdrData 455 440), hdrField b.hdrData 439 432⟩)) :=
  ⟨⟨rcv, (17 : Fin 256), brst (hdrOf 4 5 17 100 3) 0 (tsOf 3 + 1024), sound_of (by decide +kernel),
      by unfold forwards; decide +kernel, by decide +kernel⟩,
   ⟨rcv, (17 : Fin 256), brst (hdrOf 4 5 17 100 3) 3 (tsOf 3), sound_of (by decide +kernel),
       by unfold forwards; decide +kernel, by decide +kernel⟩,
   ⟨rcv, (17 : Fin 256), brst (hdrOf 7 5 17 100 3) 0 (tsOf 3), sound_of (by decide +kernel),
       by unfold forwards; decide +kernel, by decide +kernel⟩,
   ⟨rcv, (17 : Fin 256), brst (hdrOf 4 5 16 100 3) 0 (tsOf 3), sound_of (by decide +kernel),
       by unfold forwards; decide +kernel, by decide +kernel⟩,
   ⟨rcv, (17 : Fin 256), brst (hdrOf 4 5 17 100 3) 1 (tsOf 5), sound_of (by decide +kernel),
       by unfold forwards; decide +kernel, by decide +kernel⟩,
   ⟨rcv, (17 : Fin 256), brst (hdrOf 4 5 17 100 3) 0 (tsOf 3), sound_of (by decide +kernel),
       by unfold forwards; decide +kernel, by decide +kernel⟩⟩

theorem test_meets_SkyDelivery :
    (∃ (s : State) (x : SlotId), s.Sound ∧ forwards s ∧ oldestSlot s.sky.desk = some x ∧ slotEnded s x = true)
    ∧ (∃ (s : State) (x : SlotId), oldestSlot s.sky.desk = some x ∧ slotEnded s x = false)
    ∧ (∃ (s : State) (src : Fin 128) (c : Fin 8) (m : Held), s.Sound ∧ forwards s ∧ (∃ h ∈ (reseqOf s src.val c.val).held,
        h.at_ + horizonClk s ≤ s.now) ∧ nearest (reseqOf s src.val c.val) = some m)
    ∧ (∃ (s : State) (src : Fin 128) (c : Fin 8), (∀ h ∈ (reseqOf s src.val c.val).held, s.now < h.at_ + horizonClk s))
    ∧ (∃ (s : State) (d : Fin 128), s.Sound ∧ present s d.val = true
        ∧ (pairOf s d.val).hello + max 1 (s.fld .SKY_PEER_CFG_TIMEOUT) < s.sky.epoch)
    ∧ (∃ (s : State) (d : Fin 128), s.Sound ∧ present s d.val = true
        ∧ s.sky.epoch ≤ (pairOf s d.val).hello + max 1 (s.fld .SKY_PEER_CFG_TIMEOUT)) :=
  ⟨⟨dsk (sk 3 3 up), SlotId.mk 99 5, sound_of (by decide +kernel), by unfold forwards; decide +kernel, by decide +kernel⟩,
   ⟨dsk { sk 3 3 up with time := { up.time with ts := 99*128*2048*2^48 } }, SlotId.mk 99 5, by decide +kernel⟩,
   ⟨rsq (sk 3 3 up), (5 : Fin 128), (2 : Fin 8), hl 15, sound_of (by decide +kernel), by unfold forwards; decide +kernel,
       by decide +kernel⟩,
   ⟨setReseq 5 2 { synced := true, next := 10, held := [⟨15, 4, {}, 4999999999⟩], opened := [] } (sk 3 3 up),
       (5 : Fin 128), (2 : Fin 8), by decide +kernel⟩,
   ⟨pto 91 (sk 3 3 up), (5 : Fin 128), sound_of (by decide +kernel), by decide +kernel⟩,
   ⟨pto 90 (sk 3 3 up), (5 : Fin 128), sound_of (by decide +kernel), by decide +kernel⟩⟩

theorem test_meets_JoinAndFound :
    (∃ (s : State), s.Sound ∧ skyState s = 1 ∧ s.flag .SKYT_STATUS_STEPPED = false ∧ 4 ≤ s.time.run
        ∧ 8 ≤ (joinMarks s).length)
    ∧ (∃ (s : State), s.flag .SKYT_STATUS_STEPPED = true)
    ∧ (∃ (s : State), s.Sound ∧ skyState s = 1 ∧ s.flag .SKYT_STATUS_STEPPED = false ∧ (s.time.role = 1
        ∧ s.time.heardAt + 2048 ≤ s.sky.epoch ∨ s.time.role = 2 ∧ s.time.heardAt + 4096 ≤ s.sky.epoch))
    ∧ (∃ (s : State) (a : Agent), s.Sound ∧ linked s ∧ keyOpen s a = true ∧ (a = .keeper
        ∨ keeperWins s (Reg.off .SKYT_STEP_CTRL) = false) ∧ s.flag .SKYT_STATUS_FOUND_READY = true
        ∧ s.flag .SKYT_STATUS_STEPPED = false)
    ∧ (∃ (s : State) (a : Agent), s.Sound ∧ linked s ∧ keyOpen s a = true ∧ (a = .keeper
        ∨ keeperWins s (Reg.off .SKYT_STEP_CTRL) = false) ∧ (s.flag .SKYT_STATUS_FOUND_READY = false
        ∨ s.flag .SKYT_STATUS_STEPPED = true))
    ∧ (∃ (s : State) (a : Agent), s.Sound ∧ linked s ∧ keyOpen s a = false) :=
  ⟨⟨jn (lanesOn (sk 1 3 up)), sound_of (by decide +kernel), by decide +kernel⟩,
   ⟨(sk 1 3 up), by decide +kernel⟩,
   ⟨let s := jn (sk 1 3 up); { s with sky := { s.sky with epoch := 2048 } }, sound_of (by decide +kernel),
       by decide +kernel⟩,
   ⟨ky ((jn (sk 1 3 up)).setFld .SKYT_STATUS_FOUND_READY 1), Agent.app, sound_of (by decide +kernel),
       by unfold linked; decide +kernel, by decide +kernel⟩,
   ⟨ky ((jn (sk 1 3 up)).setFld .SKYT_STATUS_FOUND_READY 0), Agent.app, sound_of (by decide +kernel),
       by unfold linked; decide +kernel, by decide +kernel⟩,
   ⟨(sk 1 3 up), Agent.app, sound_of (by decide +kernel), by unfold linked; decide +kernel, by decide +kernel⟩⟩

theorem test_meets_ZenithLease :
    (∃ (s : State), s.Sound ∧ epochOpen s = true ∧ mayTake s s.sky.epoch = true)
    ∧ (∃ (s : State) (e : Nat), s.Sound ∧ s.time.heldAt = some e ∧ epochOpen s = true ∧ (s.sky.epoch - e) % 256 = 0
        ∧ s.time.role ≠ 0 ∧ s.time.diag = 0)
    ∧ (∃ (s : State) (e : Nat), s.Sound ∧ s.time.heldAt = some e ∧ s.time.ownEnd ≤ s.sky.epoch + 64)
    ∧ (∃ (s : State) (e : Nat), s.Sound ∧ s.time.heldAt = some e ∧ s.sky.epoch + 64 < s.time.ownEnd)
    ∧ (∃ (s : State) (e : Nat), s.Sound ∧ s.time.heldAt = some e ∧ s.time.checked = false ∧ e + 64 ≤ s.sky.epoch
        ∧ 2 * ((presentPeers s).filter (fun d => s.time.echoes.contains d)).length < (presentPeers s).length)
    ∧ (∃ (s : State) (e : Nat), s.Sound ∧ s.time.heldAt = some e ∧ s.time.checked = false ∧ e + 64 ≤ s.sky.epoch
        ∧ (presentPeers s).length ≤ 2 * ((presentPeers s).filter (fun d => s.time.echoes.contains d)).length) :=
  ⟨⟨let s := sk 3 3 up; { s with time := { s.time with role := 1, leaseEnd := 36 } }, sound_of (by decide +kernel),
      by decide +kernel⟩,
   ⟨hold 100 164 (sk 3 3 up), 100, sound_of (by decide +kernel), by decide +kernel⟩,
   ⟨hold 100 164 (sk 3 3 up), 100, sound_of (by decide +kernel), by decide +kernel⟩,
   ⟨hold 100 1000 (sk 3 3 up), 100, sound_of (by decide +kernel), by decide +kernel⟩,
   ⟨hold 30 165 (sk 3 3 (up.setFld .SKY_PEER_PRESENT 1 5)), 30, sound_of (by decide +kernel), by decide +kernel⟩,
   ⟨let s := hold 30 165 (sk 3 3 (up.setFld .SKY_PEER_PRESENT 1 5)); { s with time := { s.time with echoes := presentPeers s } },
       30, sound_of (by decide +kernel), by decide +kernel⟩⟩

theorem test_meets_LullAndTai :
    (∃ (s : State), s.Sound ∧ s.flag .SKYT_STATUS_VALID = true ∧ s.time.heldAt = none ∧ s.flag .SKYT_STATUS_LULL = false
        ∧ s.time.heardAt + 256 ≤ s.sky.epoch)
    ∧ (∃ (s : State) (e : Nat), s.Sound ∧ s.flag .SKYT_STATUS_VALID = true ∧ s.time.heldAt = none
        ∧ s.time.heardClk = some e ∧ e + limitMs s * 1600000 ≤ s.now)
    ∧ (∃ (s : State) (e : Nat), s.Sound ∧ s.flag .SKYT_STATUS_VALID = true ∧ s.time.heldAt = none
        ∧ s.time.heardClk = some e ∧ s.now < e + limitMs s * 1600000)
    ∧ (∃ (s : State) (a : Agent) (v : Word), s.Sound ∧ linked s) :=
  ⟨⟨let s := sk 3 3 up; { s with sky := { s.sky with epoch := 256 }, time := { s.time with f := -5 } },
      sound_of (by decide +kernel), by decide +kernel⟩,
   ⟨lh (some 1), 1, sound_of (by decide +kernel), by decide +kernel⟩,
   ⟨lh (some 4999999000), 4999999000, sound_of (by decide +kernel), by decide +kernel⟩,
   ⟨lh (some 1), Agent.app, (77 : Word), sound_of (by decide +kernel), by unfold linked; decide +kernel⟩⟩

theorem test_meets_KeeperMailbox :
    (∃ (s : State) (c : Instr) (m : Nat) (code : Nat), s.Sound ∧ mboxCode c = some (m, code) ∧ mboxTurn s m code = false)
    ∧ (∃ (s : State) (c : Instr) (m : Nat) (code : Nat), s.Sound ∧ mboxCode c = some (m, code) ∧ mboxTurn s m code = true
        ∧ s.flag .KEEP_STATUS_DUSK = true)
    ∧ (∃ (s : State) (m : Fin 2) (v : Word), s.Sound ∧ mboxTurn s m 1 = true ∧ s.flag .KEEP_STATUS_DUSK = false)
    ∧ (∃ (s : State) (m : Fin 2) (ok : Bool), s.Sound ∧ mboxTurn s m 2 = true ∧ s.flag .KEEP_STATUS_DUSK = false
        ∧ orderOk (orderBytes ((List.range 8).map (mboxWord s m))) = false)
    ∧ (∃ (s : State) (m : Fin 2) (ok : Bool), s.Sound ∧ mboxTurn s m 2 = true ∧ s.flag .KEEP_STATUS_DUSK = false
        ∧ orderOk (orderBytes ((List.range 8).map (mboxWord s m))) = true ∧ ok = false)
    ∧ (∃ (s : State) (m : Fin 2) (ok : Bool), s.Sound ∧ mboxTurn s m 2 = true ∧ s.flag .KEEP_STATUS_DUSK = false
        ∧ orderOk (orderBytes ((List.range 8).map (mboxWord s m))) = true ∧ ok = true) :=
  ⟨⟨mb 0 5 up, cc, 1, 5, sound_of (by decide +kernel), by decide +kernel⟩,
   ⟨(mb 1 5 up).setFld .KEEP_STATUS_DUSK 1, cc, 1, 5, sound_of (by decide +kernel), by decide +kernel⟩,
   ⟨mb 1 1 up, (1 : Fin 2), (55 : Word), sound_of (by decide +kernel), by decide +kernel⟩,
   ⟨mb 1 2 up, (1 : Fin 2), true, sound_of (by decide +kernel), by decide +kernel⟩,
   ⟨mw 1 ord (mb 1 2 up), (1 : Fin 2), false, sound_of (by decide +kernel), by decide +kernel⟩,
   ⟨mw 1 ord (mb 1 2 up), (1 : Fin 2), true, sound_of (by decide +kernel), by decide +kernel⟩⟩

theorem test_meets_KeeperMailbox_2 :
    (∃ (s : State) (m : Fin 2), s.Sound ∧ s.flag .KEEP_STATUS_DUSK = false ∧ mboxTurn s m 3 = true)
    ∧ (∃ (s : State) (m : Fin 2), s.Sound ∧ s.flag .KEEP_STATUS_DUSK = false ∧ mboxTurn s m 4 = true
        ∧ mboxWord s m 0 ≠ 0xA5A5)
    ∧ (∃ (s : State) (m : Fin 2), s.Sound ∧ s.flag .KEEP_STATUS_DUSK = false ∧ mboxTurn s m 4 = true
        ∧ mboxWord s m 0 = 0xA5A5 ∧ s.flag .PWR_STATUS_STEEP = true)
    ∧ (∃ (s : State) (m : Fin 2), s.Sound ∧ s.flag .KEEP_STATUS_DUSK = false ∧ mboxTurn s m 4 = true
        ∧ mboxWord s m 0 = 0xA5A5 ∧ s.flag .PWR_STATUS_STEEP = false ∧ resetMet 3 s = false)
    ∧ (∃ (s : State) (m : Fin 2), s.Sound ∧ s.flag .KEEP_STATUS_DUSK = false ∧ mboxTurn s m 4 = true
        ∧ mboxWord s m 0 = 0xA5A5 ∧ s.flag .PWR_STATUS_STEEP = false ∧ resetMet 3 s = true)
    ∧ (∃ (s : State) (m : Fin 2), s.Sound ∧ s.flag .KEEP_STATUS_DUSK = false ∧ mboxTurn s m 5 = true
        ∧ (s.hlt.logSeq ≤ mboxWord s m 0 ∨ mboxWord s m 0 + 134217728 < s.hlt.logSeq)) :=
  ⟨⟨mb 0 3 up, (0 : Fin 2), sound_of (by decide +kernel), by decide +kernel⟩,
   ⟨mb 0 4 up, (0 : Fin 2), sound_of (by decide +kernel), by decide +kernel⟩,
   ⟨mw 0 [0xA5A5] (mb 0 4 (up.setFld .PWR_STATUS_STEEP 1)), (0 : Fin 2), sound_of (by decide +kernel), by decide +kernel⟩,
   ⟨mw 0 [0xA5A5] (mb 0 4 (up.setFld .PWR_STATUS_STEEP 0)), (0 : Fin 2), sound_of (by decide +kernel), by decide +kernel⟩,
   ⟨{ (mw 0 [0xA5A5] (mb 0 4 (up.setFld .PWR_STATUS_STEEP 0))) with pwr := { up.pwr with resetAt := some ⟨up.regClk, 2, none, none⟩ } },
       (0 : Fin 2), sound_of (by decide +kernel), by decide +kernel⟩,
   ⟨mw 0 [9] (mb 0 5 (lg up)), (0 : Fin 2), sound_of (by decide +kernel), by decide +kernel⟩⟩

theorem test_meets_KeeperMailbox_3 :
    (∃ (s : State) (m : Fin 2) (b : List Byte), s.Sound ∧ s.flag .KEEP_STATUS_DUSK = false ∧ mboxTurn s m 5 = true
        ∧ mboxWord s m 0 < s.hlt.logSeq ∧ s.hlt.logSeq ≤ mboxWord s m 0 + 134217728
        ∧ SMap.get? s.hlt.flog (mboxWord s m 0 % 134217728) = some b)
    ∧ (∃ (s : State) (m : Fin 2), s.Sound ∧ s.flag .KEEP_STATUS_DUSK = false ∧ mboxTurn s m 6 = true) :=
  ⟨⟨mw 0 [6] (mb 0 5 (lg up)), (0 : Fin 2), ([1,2,3] : List Byte), sound_of (by decide +kernel), by decide +kernel⟩,
   ⟨mw 0 [6, 7, 8] (mb 0 6 (lg up)), (0 : Fin 2), sound_of (by decide +kernel), by decide +kernel⟩⟩

theorem test_meets_KeeperRestartLogAndRedfish :
    (∃ (s : State), s.Sound ∧ (s.flag .KEEP_STATUS_ALIVE = false ∨ s.now < s.ctl.beatAt + 100 * clkMs))
    ∧ (∃ (s : State), s.Sound ∧ s.flag .KEEP_STATUS_ALIVE = true ∧ s.ctl.beatAt + 100 * clkMs ≤ s.now)
    ∧ (∃ (s : State) (ok : Bool), (s.hlt.keepq = [] ∨ s.flag .KEEP_STATUS_ALIVE = false))
    ∧ (∃ (s : State) (ok : Bool) (e : LogEnt) (rest : List LogEnt), s.Sound ∧ s.hlt.keepq = e :: rest
        ∧ s.flag .KEEP_STATUS_ALIVE = true)
    ∧ (∃ (s : State) (c : Instr) (authed : Bool) (op : RedfishOp) (image : List Byte), s.Sound
        ∧ (c = .redfishRequest authed op ∨ c = .redfishGracefulRestart authed ∨ c = .updateServicePush authed image)
        ∧ redfishUp s = false)
    ∧ (∃ (s : State) (c : Instr) (authed : Bool) (op : RedfishOp) (image : List Byte), s.Sound
        ∧ (c = .redfishRequest authed op ∨ c = .redfishGracefulRestart authed ∨ c = .updateServicePush authed image)
        ∧ redfishUp s = true) :=
  ⟨⟨{ (rfu up) with now := 159999999 }, sound_of (by decide +kernel), by decide +kernel⟩,
   ⟨{ (rfu up) with now := 160000000 }, sound_of (by decide +kernel), by decide +kernel⟩,
   ⟨(rfu up), true, by decide +kernel⟩,
   ⟨{ (mb 0 5 up) with hlt := { (lg up).hlt with keepq := [⟨1, note .fault, 4, 0, 0⟩] }, pwr := { up.pwr with dusk := some { t0 := 1, ts := 2, causes := [1], voltage := 3, power := 4, tCase := 5 } } },
       true, LogEnt.mk 1 (note .fault) 4 0 0, ([] : List LogEnt), sound_of (by decide +kernel), by decide +kernel⟩,
   ⟨(rfu up).setFld .KEEP_STATUS_DUSK 1, Instr.redfishGracefulRestart true, true, RedfishOp.login, [],
       sound_of (by decide +kernel), by decide +kernel⟩,
   ⟨(rfu up), Instr.updateServicePush true [], true, RedfishOp.login, [], sound_of (by decide +kernel),
       by decide +kernel⟩⟩

theorem test_meets_KeeperRestartLogAndRedfish_2 :
    (∃ (s : State), s.Sound ∧ redfishUp s = true)
    ∧ (∃ (s : State) (n : Nat) (l : List Int), s.Sound ∧ redfishUp s = true ∧ logValues s n = some l)
    ∧ (∃ (s : State) (n : Fin 8) (p : List Byte), s.Sound ∧ redfishUp s = true)
    ∧ (∃ (s : State) (p : List Byte), s.Sound ∧ redfishUp s = true)
    ∧ (∃ (s : State), s.Sound ∧ redfishUp s = true ∧ s.flag .PWR_STATUS_STEEP = false ∧ resetMet 3 s = false)
    ∧ (∃ (s : State), s.Sound ∧ redfishUp s = true ∧ (s.flag .PWR_STATUS_STEEP = true ∨ resetMet 3 s = true)) :=
  ⟨⟨(rfu up), sound_of (by decide +kernel), by decide +kernel⟩,
   ⟨{ rf1 with hlt := (lg up).hlt }, (5 : Nat), (logBytes ⟨1, note .fault, 4, 0, 0⟩ 5).map (fun x => (x.toNat : Int)),
       sound_of (by decide +kernel), by decide +kernel⟩,
   ⟨(rfu up).setFld .PWR_STATUS_STEEP 1, (5 : Fin 8), ([1, 2] : List Byte), sound_of (by decide +kernel),
       by decide +kernel⟩,
   ⟨(rfu up), [], sound_of (by decide +kernel), by decide +kernel⟩,
   ⟨(rfu up), sound_of (by decide +kernel), by decide +kernel⟩,
   ⟨(rfu up).setFld .PWR_STATUS_STEEP 1, sound_of (by decide +kernel), by decide +kernel⟩⟩

theorem test_meets_KeeperRestartLogAndRedfish_3 :
    (∃ (s : State) (image : List Byte), s.Sound ∧ redfishUp s = true ∧ s.nvm.op = none
        ∧ slotHeld s (1 - s.fld .NVM_BOOT_SEL_ACTIVE) = false ∧ imageLen image.length = true) :=
  ⟨(rfu up), img, sound_of (by decide +kernel), by decide +kernel⟩

theorem test_meets_HostLinkAndInterrupts :
    (∃ (s : State) (a : Agent) (v : Word), s.Sound ∧ linked s ∧ keyOpen s a = false)
    ∧ (∃ (s : State) (a : Agent) (v : Word), s.Sound ∧ linked s ∧ passesKey s a (Reg.off .CTL_RING_OWNER)
        ∧ s.flag .SYS_PLANE_STATE_HEADLESS = false)
    ∧ (∃ (s : State) (a : Agent) (v : Word), s.Sound ∧ linked s ∧ passesKey s a (Reg.off .CTL_RING_OWNER)
        ∧ s.flag .SYS_PLANE_STATE_HEADLESS = true)
    ∧ (∃ (s : State), s.Sound ∧ s.flag .CTL_PCIE_STATUS_LINK_UP = true ∧ ownerExt s = true)
    ∧ (∃ (s : State), s.Sound ∧ s.flag .CTL_PCIE_STATUS_LINK_UP = true ∧ ownerExt s = false)
    ∧ (∃ (s : State) (w : Fin 9) (bme : Bool), s.Sound) :=
  ⟨⟨up, Agent.app, (1 : Word), sound_of (by decide +kernel), by unfold linked; decide +kernel, by decide +kernel⟩,
   ⟨ky_a6 up, Agent.app, (1 : Word), sound_of (by decide +kernel), by unfold linked; decide +kernel, ⟨by decide +kernel,
       by decide +kernel⟩, by decide +kernel⟩,
   ⟨ky_a6 (hdl 2), Agent.host, (1 : Word), sound_of (by decide +kernel), by unfold linked; decide +kernel,
       ⟨by decide +kernel, by decide +kernel⟩, by decide +kernel⟩,
   ⟨ringOn 3 (own 1 ((win0 up).setReg .CTL_PCIE_STATUS 1)), sound_of (by decide +kernel), by decide +kernel⟩,
   ⟨{ hb with now := 6401 }, sound_of (by decide +kernel), by decide +kernel⟩,
   ⟨ringOn 3 (own 1 ((win0 up).setReg .CTL_PCIE_STATUS 1)), (4 : Fin 9), true, sound_of (by decide +kernel)⟩⟩

theorem test_meets_HostLinkAndInterrupts_2 :
    (∃ (s : State) (v : Byte) (addr : DWord) (data : Word) (masked : Bool), s.Sound)
    ∧ (∃ (s : State) (a : Agent) (i : Fin 8) (v : Word), s.Sound)
    ∧ (∃ (s : State), s.Sound ∧ idlDue s = false)
    ∧ (∃ (s : State), s.Sound ∧ idlDue s = true)
    ∧ (∃ (s : State) (addr : Nat) (core : Bool), s.Sound ∧ inDram addr 1 = true)
    ∧ (∃ (s : State) (addr : Nat) (core : Bool) (corrected : Bool), s.Sound ∧ inDram addr 1 = false ∧ core = true
        ∧ inRom addr 1 = false ∧ inAperture addr 1 = false) :=
  ⟨⟨{ hb with now := 6401 }, (5 : Byte), (0xFEE0 : DWord), (9 : Word), true, sound_of (by decide +kernel)⟩,
   ⟨{ (own 0 (up.setReg .CTL_INT_PEND 0xFFFF 5)) with now := 6400, ctl := { up.ctl with intAt := [(164, (801, true)), (165, (800, true))] } },
       Agent.host, (5 : Fin 8), (0xF0 : Word), sound_of (by decide +kernel)⟩,
   ⟨{ hb with now := 6401 }, sound_of (by decide +kernel), by decide +kernel⟩,
   ⟨up, sound_of (by decide +kernel), by decide +kernel⟩,
   ⟨up, (0x80000040 : Nat), true, sound_of (by decide +kernel), by decide +kernel⟩,
   ⟨up, (0x20040 : Nat), true, false, sound_of (by decide +kernel), by decide +kernel⟩⟩

theorem test_meets_HostLinkAndInterrupts_3 :
    (∃ (s : State) (addr : Nat) (core : Bool) (corrected : Bool), s.Sound ∧ inDram addr 1 = false ∧ (core = false
        ∨ inRom addr 1 = true ∨ inAperture addr 1 = true))
    ∧ (∃ (s : State) (r : Fin 172) (e : Nat), s.Sound ∧ linked s ∧ (ringOf s r).irqAt = some e
        ∧ s.flag .HOST_IRQ_CFG_EN r = true ∧ s.fld .HOST_IRQ_CFG_USEC r ≠ 0
        ∧ e + s.fld .HOST_IRQ_CFG_USEC r * 1600 ≤ s.now)
    ∧ (∃ (s : State) (r : Fin 172) (e : Nat), s.Sound ∧ linked s ∧ (ringOf s r).irqAt = some e
        ∧ (s.flag .HOST_IRQ_CFG_EN r = false ∨ s.fld .HOST_IRQ_CFG_USEC r = 0
        ∨ s.now < e + s.fld .HOST_IRQ_CFG_USEC r * 1600)) :=
  ⟨⟨up, (0x40 : Nat), true, false, sound_of (by decide +kernel), by decide +kernel⟩,
   ⟨modR 5 (fun x => { x with irqAt := some 7, irqN := 3 }) (ringOn 5 (((win0 up).setFld .HOST_IRQ_CFG_EN 1 5).setFld .HOST_IRQ_CFG_USEC 9 5)),
       (5 : Fin 172), 7, sound_of (by decide +kernel), by unfold linked; decide +kernel, by decide +kernel⟩,
   ⟨modR 5 (fun x => { x with irqAt := some 4999999999, irqN := 3 }) (ringOn 5 (((win0 up).setFld .HOST_IRQ_CFG_EN 1 5).setFld .HOST_IRQ_CFG_USEC 9 5)),
       (5 : Fin 172), 4999999999, sound_of (by decide +kernel), by unfold linked; decide +kernel, by decide +kernel⟩⟩

theorem test_meets_Doorbells :
    (∃ (s : State) (a : Agent) (r : Fin 172) (v : Word) (l : List (Nat × List Byte)), s.Sound ∧ linked s ∧ r.val < 160
        ∧ s.flag .SYS_PLANE_STATE_HEADLESS = false ∧ ringEn s r = false)
    ∧ (∃ (s : State) (a : Agent) (r : Fin 172) (v : Word) (l : List (Nat × List Byte)), s.Sound ∧ linked s ∧ r.val < 160
        ∧ (s.flag .SYS_PLANE_STATE_HEADLESS = true ∨ ringEn s r = true) ∧ ringSize s r < sub32 v.toNat (headOf s r))
    ∧ (∃ (s : State) (a : Agent) (r : Fin 172) (v : Word) (l : List (Nat × List Byte)), s.Sound ∧ linked s ∧ r.val < 160
        ∧ (s.flag .SYS_PLANE_STATE_HEADLESS = true ∨ ringEn s r = true) ∧ sub32 v.toNat (headOf s r) ≤ ringSize s r
        ∧ 2 ^ 31 ≤ sub32 v.toNat (tailOf s r))
    ∧ (∃ (s : State) (a : Agent) (r : Fin 172) (v : Word) (l : List (Nat × List Byte)), s.Sound ∧ linked s ∧ r.val < 160
        ∧ (s.flag .SYS_PLANE_STATE_HEADLESS = true ∨ ringEn s r = true) ∧ sub32 v.toNat (headOf s r) ≤ ringSize s r
        ∧ sub32 v.toNat (tailOf s r) < 2 ^ 31 ∧ s.flag .SYS_PLANE_STATE_HEADLESS = true)
    ∧ (∃ (s : State) (a : Agent) (r : Fin 172) (v : Word) (l : List (Nat × List Byte)), s.Sound ∧ linked s ∧ r.val < 160
        ∧ (s.flag .SYS_PLANE_STATE_HEADLESS = true ∨ ringEn s r = true) ∧ sub32 v.toNat (headOf s r) ≤ ringSize s r
        ∧ sub32 v.toNat (tailOf s r) < 2 ^ 31 ∧ s.flag .SYS_PLANE_STATE_HEADLESS = false)
    ∧ (∃ (s : State) (a : Agent) (r : Fin 172) (v : Word) (l : List (Nat × List Byte)), s.Sound ∧ linked s ∧ 160 ≤ r.val
        ∧ s.flag .SYS_PLANE_STATE_HEADLESS = true) :=
  ⟨⟨hl0 (up.setFld .HOST_RING_CTRL_EN 0 5), Agent.host, (5 : Fin 172), (5 : Word), dl, sound_of (by decide +kernel),
      by unfold linked; decide +kernel, by decide +kernel⟩,
   ⟨rd 5 3 4 up, Agent.host, (5 : Fin 172), (68 : Word), dl, sound_of (by decide +kernel),
       by unfold linked; decide +kernel, by decide +kernel⟩,
   ⟨rd 5 3 9 up, Agent.host, (5 : Fin 172), (8 : Word), dl, sound_of (by decide +kernel),
       by unfold linked; decide +kernel, by decide +kernel⟩,
   ⟨rd 5 3 4 (hdl 1), Agent.host, (5 : Fin 172), (67 : Word), dl, sound_of (by decide +kernel),
       by unfold linked; decide +kernel, by decide +kernel⟩,
   ⟨rd 5 3 4 up, Agent.host, (5 : Fin 172), (67 : Word), dl, sound_of (by decide +kernel),
       by unfold linked; decide +kernel, by decide +kernel⟩,
   ⟨rd 165 3 9 (hdl 1), Agent.host, (165 : Fin 172), (10 : Word), dl, sound_of (by decide +kernel),
       by unfold linked; decide +kernel, by decide +kernel⟩⟩

theorem test_meets_Doorbells_2 :
    (∃ (s : State) (a : Agent) (r : Fin 172) (v : Word) (l : List (Nat × List Byte)), s.Sound ∧ linked s ∧ 160 ≤ r.val
        ∧ s.flag .SYS_PLANE_STATE_HEADLESS = false ∧ headAhead (headOf s r) (tailOf s r) v.toNat = false)
    ∧ (∃ (s : State) (a : Agent) (r : Fin 172) (v : Word) (l : List (Nat × List Byte)), s.Sound ∧ linked s ∧ 160 ≤ r.val
        ∧ s.flag .SYS_PLANE_STATE_HEADLESS = false ∧ headAhead (headOf s r) (tailOf s r) v.toNat = true)
    ∧ (∃ (s : State) (a : Agent) (r : Fin 160) (v : Word), s.Sound ∧ linked s ∧ s.flag .SYS_PLANE_STATE_HEADLESS = true)
    ∧ (∃ (s : State) (a : Agent) (r : Fin 160) (v : Word), s.Sound ∧ linked s ∧ s.flag .SYS_PLANE_STATE_HEADLESS = false
        ∧ headAhead (s.reg .HOST_CPL_HEAD r).toNat (s.reg .HOST_CPL_TAIL r).toNat v.toNat = false)
    ∧ (∃ (s : State) (a : Agent) (r : Fin 160) (v : Word), s.Sound ∧ linked s ∧ s.flag .SYS_PLANE_STATE_HEADLESS = false
        ∧ headAhead (s.reg .HOST_CPL_HEAD r).toNat (s.reg .HOST_CPL_TAIL r).toNat v.toNat = true)
    ∧ (∃ (s : State) (a : Agent) (r : Fin 172) (v : Word) (x : Nat) (d : List Byte), s.Sound ∧ linked s ∧ a ≠ .host
        ∧ inDram x d.length = true ∧ poisoned s x d.length = []) :=
  ⟨⟨rd 165 3 9 up, Agent.host, (165 : Fin 172), (10 : Word), dl, sound_of (by decide +kernel),
      by unfold linked; decide +kernel, by decide +kernel⟩,
   ⟨rd 165 3 9 up, Agent.host, (165 : Fin 172), (9 : Word), dl, sound_of (by decide +kernel),
       by unfold linked; decide +kernel, by decide +kernel⟩,
   ⟨cr 5 3 9 (rd 5 3 9 (hdl 1)), Agent.host, (5 : Fin 160), (10 : Word), sound_of (by decide +kernel),
       by unfold linked; decide +kernel, by decide +kernel⟩,
   ⟨cr 5 3 9 (rd 5 3 9 up), Agent.host, (5 : Fin 160), (10 : Word), sound_of (by decide +kernel),
       by unfold linked; decide +kernel, by decide +kernel⟩,
   ⟨cr 5 3 9 (rd 5 3 9 up), Agent.host, (5 : Fin 160), (9 : Word), sound_of (by decide +kernel),
       by unfold linked; decide +kernel, by decide +kernel⟩,
   ⟨rd 5 3 4 up, Agent.keeper, (5 : Fin 172), (67 : Word), 0x80000005, ([1,0,3] : List Byte),
       sound_of (by decide +kernel), by unfold linked; decide +kernel, by decide +kernel⟩⟩

theorem test_meets_Doorbells_3 :
    (∃ (s : State) (a : Agent) (r : Fin 172) (v : Word) (x : Nat) (d : List Byte), s.Sound ∧ linked s ∧ a = .host) :=
  ⟨rd 5 3 4 up, Agent.host, (5 : Fin 172), (67 : Word), 0x80000005, ([1,0,3] : List Byte), sound_of (by decide +kernel),
      by unfold linked; decide +kernel, by decide +kernel⟩

theorem test_meets_RingAndWindowSettings :
    (∃ (s : State) (a : Agent) (r : Fin 172), s.Sound ∧ linked s ∧ ringWritable s r = false)
    ∧ (∃ (s : State) (a : Agent) (r : Fin 172), s.Sound ∧ linked s ∧ ringWritable s r = true ∧ canEnable s r = false)
    ∧ (∃ (s : State) (a : Agent) (r : Fin 172), s.Sound ∧ linked s ∧ ringWritable s r = true ∧ canEnable s r = true)
    ∧ (∃ (s : State) (a : Agent) (r : Fin 172), s.Sound ∧ linked s ∧ ringEn s r = true)
    ∧ (∃ (s : State) (a : Agent) (r : Fin 172), s.Sound ∧ linked s ∧ ringEn s r = false)
    ∧ (∃ (s : State) (r : Fin 172), s.Sound ∧ (stopping s r = false ∨ (ringOf s r).units ≠ [])) :=
  ⟨⟨stp up, Agent.host, (5 : Fin 172), sound_of (by decide +kernel), by unfold linked; decide +kernel, by decide +kernel⟩,
   ⟨modR 5 (fun _ => {}) (((rd_a7 5 3 4 (base up)).setFld .HOST_RING_CTRL_EN 0 5).setReg .HOST_RING_BASE_LO 0x7FFFFFFF 5),
       Agent.host, (5 : Fin 172), sound_of (by decide +kernel), by unfold linked; decide +kernel, by decide +kernel⟩,
   ⟨modR 5 (fun _ => {}) ((rd_a7 5 3 4 (base up)).setFld .HOST_RING_CTRL_EN 0 5), Agent.host, (5 : Fin 172),
       sound_of (by decide +kernel), by unfold linked; decide +kernel, by decide +kernel⟩,
   ⟨rd_a7 5 3 4 (base up), Agent.host, (5 : Fin 172), sound_of (by decide +kernel), by unfold linked; decide +kernel,
       by decide +kernel⟩,
   ⟨stp up, Agent.host, (5 : Fin 172), sound_of (by decide +kernel), by unfold linked; decide +kernel, by decide +kernel⟩,
   ⟨rd_a7 5 3 4 (base up), (5 : Fin 172), sound_of (by decide +kernel), by decide +kernel⟩⟩

theorem test_meets_RingAndWindowSettings_2 :
    (∃ (s : State) (r : Fin 172), s.Sound ∧ stopping s r = true ∧ (ringOf s r).units = [])
    ∧ (∃ (s : State) (a : Agent) (w : Fin 16) (k : Fin 5) (v : Word), s.Sound ∧ linked s ∧ k.val ≠ 0
        ∧ s.flag .HOST_WIN_CFG_EN w = true)
    ∧ (∃ (s : State) (a : Agent) (w : Fin 16) (k : Fin 5) (v : Word), s.Sound ∧ linked s ∧ k.val ≠ 0
        ∧ s.flag .HOST_WIN_CFG_EN w = false)
    ∧ (∃ (s : State) (a : Agent) (w : Fin 16) (v : Word), s.Sound ∧ linked s ∧ s.flag .HOST_WIN_CFG_EN w = true)
    ∧ (∃ (s : State) (a : Agent) (w : Fin 16) (v : Word), s.Sound ∧ linked s ∧ s.flag .HOST_WIN_CFG_EN w = false
        ∧ v.getLsbD 31 = true ∧ (v.toNat % 64 < 12 ∨ 46 < v.toNat % 64
        ∨ s.reg64 .HOST_WIN_BASE_LO .HOST_WIN_BASE_HI w % 2 ^ (v.toNat % 64) ≠ 0))
    ∧ (∃ (s : State) (a : Agent) (w : Fin 16) (v : Word), s.Sound ∧ linked s ∧ s.flag .HOST_WIN_CFG_EN w = false
        ∧ (v.getLsbD 31 = false ∨ (12 ≤ v.toNat % 64 ∧ v.toNat % 64 ≤ 46
        ∧ s.reg64 .HOST_WIN_BASE_LO .HOST_WIN_BASE_HI w % 2 ^ (v.toNat % 64) = 0))) :=
  ⟨⟨stp up, (5 : Fin 172), sound_of (by decide +kernel), by decide +kernel⟩,
   ⟨rd_a7 5 3 4 (base up), Agent.host, (0 : Fin 16), (2 : Fin 5), (0x123 : Word), sound_of (by decide +kernel),
       by unfold linked; decide +kernel, by decide +kernel⟩,
   ⟨modR 5 (fun _ => {}) ((rd_a7 5 3 4 (base up)).setFld .HOST_RING_CTRL_EN 0 5), Agent.host, (1 : Fin 16), (2 : Fin 5),
       (0x123 : Word), sound_of (by decide +kernel), by unfold linked; decide +kernel, by decide +kernel⟩,
   ⟨stp up, Agent.host, (0 : Fin 16), (0x8000000D : Word), sound_of (by decide +kernel), by unfold linked; decide +kernel,
       by decide +kernel⟩,
   ⟨(stp up).setReg .HOST_WIN_BASE_LO 0x1000 1, Agent.host, (1 : Fin 16), (0x8000000D : Word),
       sound_of (by decide +kernel), by unfold linked; decide +kernel, by decide +kernel⟩,
   ⟨(stp up).setReg .HOST_WIN_BASE_LO 0x1000 1, Agent.host, (1 : Fin 16), (0x0000002F : Word),
       sound_of (by decide +kernel), by unfold linked; decide +kernel, by decide +kernel⟩⟩

theorem test_meets_RingWork :
    (∃ (s : State) (r : Fin 160), dmaUp s = false)
    ∧ (∃ (s : State) (r : Fin 160) (x : Nat) (y : Nat), s.Sound ∧ (r.val < 64 ∨ 128 ≤ r.val) ∧ dmaUp s = true
        ∧ ringEn s r = true ∧ (ringOf s r).units = [] ∧ tailOf s r = add32 (headOf s r) 1
        ∧ dmaTarget s (ringBase s r + headOf s r % ringSize s r * 32) 32 false = some x
        ∧ dmaTarget s (s.reg64 .HOST_RING_WB_LO .HOST_RING_WB_HI r) 64 true = some y ∧ (ownerExt s = true
        ∨ (poisoned s x 32 = [] ∧ poisoned s y 64 = [])) ∧ (entWord (memGet (dmaMem s) x 32) 0).testBit 63 = false)
    ∧ (∃ (s : State) (r : Fin 64) (x : Nat) (y : Nat), s.Sound ∧ dmaUp s = true ∧ ringEn s (64 + r) = true
        ∧ (ringOf s (64 + r)).raw.length + (ringOf s (64 + r)).pre.length < 64
        ∧ tailOf s (64 + r) = add32 (ringOf s (64 + r)).preAt 1
        ∧ dmaTarget s (ringBase s (64 + r) + (ringOf s (64 + r)).preAt % ringSize s (64 + r) * 32) 32 false = some x
        ∧ dmaTarget s (s.reg64 .HOST_RING_WB_LO .HOST_RING_WB_HI (64 + r)) 64 true = some y ∧ (ownerExt s = true
        ∨ (poisoned s x 32 = [] ∧ poisoned s y 64 = [])))
    ∧ (∃ (s : State) (r : Fin 64) (u : RUnit) (es : List Entry), s.Sound ∧ oldestFetched s r = some (u, es)
        ∧ (∀ v ∈ (ringOf s r).units, v.lost = false))
    ∧ (∃ (s : State) (r : Fin 64) (e : Entry) (i : Nat) (st : Nat) (d : List Byte) (l : List Entry), s.Sound
        ∧ (ringOf s (64 + r)).raw = e :: l ∧ e.idx = i ∧ ((e.data = some d ∧ st = rxDescStatus s d) ∨ (e.data = none
        ∧ st = 0x14)) ∧ st = 0)
    ∧ (∃ (s : State) (r : Fin 64) (e : Entry) (i : Nat) (st : Nat) (d : List Byte) (l : List Entry), s.Sound
        ∧ (ringOf s (64 + r)).raw = e :: l ∧ e.idx = i ∧ ((e.data = some d ∧ st = rxDescStatus s d) ∨ (e.data = none
        ∧ st = 0x14)) ∧ st ≠ 0 ∧ 64 ≤ (ringOf s (64 + r)).units.length) :=
  ⟨⟨(e5 d0 up).setFld .SYS_PLANE_STATE_IDL_UP 0, (5 : Fin 160), by decide +kernel⟩,
   ⟨e5 d1_a7 up, (5 : Fin 160), 0x80000000 + 5 * 0x10000 + 3 * 32, 0x81000000 + 64 * 5, sound_of (by decide +kernel),
       by decide +kernel⟩,
   ⟨e69 up, (5 : Fin 64), 0x80000000 + 69 * 0x10000 + 3 * 32, 0x81000000 + 64 * 69, sound_of (by decide +kernel),
       by decide +kernel⟩,
   ⟨modR 5 (fun x => { x with units := [fu d1_a7] }) (e5 d1_a7 up), (5 : Fin 64), fu d1_a7, [Entry.mk 3 (some d1_a7)],
       sound_of (by decide +kernel), by decide +kernel⟩,
   ⟨e70 ⟨4, some (rx (2 * 2^48 + 4096) 0x8000)⟩ up, (5 : Fin 64), Entry.mk 4 (some (rx (2 * 2^48 + 4096) 0x8000)), 4, 0,
       rx (2 * 2^48 + 4096) 0x8000, [Entry.mk 5 none], sound_of (by decide +kernel), by decide +kernel⟩,
   ⟨modR 69 (fun x => { x with units := List.replicate 64 (fu d1_a7) }) (e70 ⟨4, none⟩ up), (5 : Fin 64), Entry.mk 4 none,
       4, 0x14, rx (2 * 2^48 + 40) 0x8000, [Entry.mk 5 none], sound_of (by decide +kernel), by decide +kernel⟩⟩

theorem test_meets_RingWork_2 :
    (∃ (s : State) (r : Fin 64) (e : Entry) (i : Nat) (st : Nat) (d : List Byte) (l : List Entry), s.Sound
        ∧ (ringOf s (64 + r)).raw = e :: l ∧ e.idx = i ∧ ((e.data = some d ∧ st = rxDescStatus s d) ∨ (e.data = none
        ∧ st = 0x14)) ∧ st ≠ 0 ∧ (ringOf s (64 + r)).units.length < 64
        ∧ (dmaTarget s (s.reg64 .HOST_RING_WB_LO .HOST_RING_WB_HI (64 + r)) 64 true).isSome = true)
    ∧ (∃ (s : State) (r : Fin 160) (u : RUnit) (us : List RUnit) (c : Cpl) (x : Nat) (y : Nat), s.Sound ∧ linked s
        ∧ canPut s (s.reg64 .HOST_CPL_BASE_LO .HOST_CPL_BASE_HI r + (s.reg .HOST_CPL_TAIL r).toNat % 2 ^ s.fld .HOST_CPL_CFG_SIZE_LOG2 r * 32) 32 (s.reg64 .HOST_CPL_WB_LO .HOST_CPL_WB_HI r) x y
        ∧ (ringOf s r).units = u :: us ∧ u.st = .done c ∧ ownerDown s = false ∧ (ringOf s r).quiet = false
        ∧ sub32 (s.reg .HOST_CPL_TAIL r).toNat (freeHead s r) < 2 ^ s.fld .HOST_CPL_CFG_SIZE_LOG2 r)
    ∧ (∃ (s : State) (r : Fin 160), ((∀ u us, (ringOf s r).units = u :: us → ∀ c, u.st ≠ .done c) ∨ ownerDown s = true
        ∨ (ringOf s r).quiet = true
        ∨ 2 ^ s.fld .HOST_CPL_CFG_SIZE_LOG2 r ≤ sub32 (s.reg .HOST_CPL_TAIL r).toNat (freeHead s r)))
    ∧ (∃ (s : State) (g : Fin 16), (dmaUp s = false ∨ s.pwr.stopped = true ∨ noGroup s g = true ∨ nextTxRing s g = none))
    ∧ (∃ (s : State) (g : Fin 16) (r : Nat) (u : RUnit) (es : List Entry) (d : List Byte) (l : List (List Byte)), s.Sound
        ∧ forwards s ∧ dmaUp s = true ∧ noGroup s g = false ∧ nextTxRing s g = some r ∧ oldestWaiting s r = some (u, es)
        ∧ runData es = d :: l ∧ rxFree s g < bits (entWord d 2) 34 21)
    ∧ (∃ (s : State) (g : Fin 16) (r : Nat) (u : RUnit) (es : List Entry) (d : List Byte) (l : List (List Byte)), s.Sound
        ∧ forwards s ∧ dmaUp s = true ∧ noGroup s g = false ∧ nextTxRing s g = some r ∧ oldestWaiting s r = some (u, es)
        ∧ runData es = d :: l ∧ bits (entWord d 2) 34 21 ≤ rxFree s g ∧ (readSegs (d :: l) 0 [] s).1 = 0) :=
  ⟨⟨e70 ⟨4, none⟩ up, (5 : Fin 64), Entry.mk 4 none, 4, 0x14, rx (2 * 2^48 + 40) 0x8000, [Entry.mk 5 none],
      sound_of (by decide +kernel), by decide +kernel⟩,
   ⟨modR 5 (fun x => { x with units := [du 0, fu d1_a7] }) (cr_a7 5 3 7 (e5 d1_a7 up)), (5 : Fin 160), du 0, [fu d1_a7],
       cp 0, 0x82000000 + 5 * 0x10000 + 7 * 32, 0x83000000 + 64 * 5, sound_of (by decide +kernel),
       by unfold linked; decide +kernel, ⟨by decide +kernel, by decide +kernel, by decide +kernel, by decide +kernel⟩,
       by decide +kernel⟩,
   ⟨e5 d1_a7 up, (5 : Fin 160), .inl (head_open (by decide +kernel))⟩,
   ⟨up, (0 : Fin 16), by decide +kernel⟩,
   ⟨{ modR 5 (fun x => { x with units := [wu] }) (memAt 0x80005000 eth.data (e5 d1_a7 up)) with xbar := { up.xbar with feed := [(0, [{ cell := {}, src := 0, out := 1, queue := 2, rel := 262100 }])] } },
       (0 : Fin 16), 5, wu, [Entry.mk 3 (some d1_a7)], d1_a7, ([] : List (List Byte)), sound_of (by decide +kernel),
       by unfold forwards; decide +kernel, by decide +kernel⟩,
   ⟨modR 5 (fun x => { x with units := [wu] }) (memAt 0x80005000 eth.data (e5 d1_a7 up)), (0 : Fin 16), 5, wu,
       [Entry.mk 3 (some d1_a7)], d1_a7, ([] : List (List Byte)), sound_of (by decide +kernel),
       by unfold forwards; decide +kernel, by decide +kernel⟩⟩

theorem test_meets_RecordWrites :
    (∃ (s : State) (n : NRec) (rest : List PendRec), s.Sound ∧ s.host.recq = .notes [n] :: rest ∧ backlogged s = true
        ∧ groupLen s.sys.backlog < 4096)
    ∧ (∃ (s : State) (n : NRec) (rest : List PendRec), s.Sound ∧ s.host.recq = .notes [n] :: rest ∧ backlogged s = true
        ∧ 4096 ≤ groupLen s.sys.backlog)
    ∧ (∃ (s : State) (n : NRec) (rest : List PendRec) (x : Nat) (y : Nat), s.Sound ∧ linked s
        ∧ canPut s (ringBase s (noteRing s n.kind) + tailOf s (noteRing s n.kind) % ringSize s (noteRing s n.kind) * 32) 32 (s.reg64 .HOST_RING_WB_LO .HOST_RING_WB_HI (noteRing s n.kind)) x y
        ∧ s.host.recq = .notes [n] :: rest ∧ backlogged s = false ∧ ((n.kind = .fault ∨ n.kind = .step) →
        s.host.faultLog = []) ∧ ringTakes s (noteRing s n.kind) 1 = true ∧ ringReach s (noteRing s n.kind) = true)
    ∧ (∃ (s : State) (n : NRec) (rest : List PendRec), s.Sound ∧ s.host.recq = .notes [n] :: rest ∧ backlogged s = false
        ∧ (n.kind = .fault ∨ n.kind = .step) ∧ (s.host.faultLog ≠ [] ∨ ringTakes s (noteRing s n.kind) 1 = false)
        ∧ groupLen s.host.faultLog < 256)
    ∧ (∃ (s : State) (n : NRec) (rest : List PendRec), s.Sound ∧ s.host.recq = .notes [n] :: rest ∧ backlogged s = false
        ∧ (n.kind = .fault ∨ n.kind = .step) ∧ (s.host.faultLog ≠ [] ∨ ringTakes s (noteRing s n.kind) 1 = false)
        ∧ 256 ≤ groupLen s.host.faultLog)
    ∧ (∃ (s : State) (n : NRec) (rest : List PendRec), s.Sound ∧ s.host.recq = .notes [n] :: rest ∧ backlogged s = false
        ∧ n.kind = .weather ∧ ringTakes s (noteRing s n.kind) 1 = false) :=
  ⟨⟨rq [.notes [nr .age], .notes [nr .fault]] (hdl 1), nr .age, [PendRec.notes [nr .fault]], sound_of (by decide +kernel),
      by decide +kernel⟩,
   ⟨{ rq [.notes [nr .age], .notes [nr .fault]] (hdl 1) with sys := { up.sys with backlog := [List.replicate 4096 (nr .age)] } },
       nr .age, [PendRec.notes [nr .fault]], sound_of (by decide +kernel), by decide +kernel⟩,
   ⟨rq [.notes [nr .fault], .notes [nr .fault]] ((nrg up 3 4).setReg .HOST_NOTIFY_CFG 0), nr .fault,
       [PendRec.notes [nr .fault]], 0x80000000 + 160 * 0x10000 + 4 * 32, 0x81000000 + 64 * 160,
       sound_of (by decide +kernel), by unfold linked; decide +kernel, ⟨by decide +kernel, by decide +kernel,
       by decide +kernel, by decide +kernel⟩, by decide +kernel⟩,
   ⟨rq [.notes [nr .fault], .notes [nr .fault]] ((nrg up 3 67).setReg .HOST_NOTIFY_CFG 0), nr .fault,
       [PendRec.notes [nr .fault]], sound_of (by decide +kernel), by decide +kernel⟩,
   ⟨let s := rq [.notes [nr .step],
       .notes [nr .fault]] ((nrg up 3 67).setReg .HOST_NOTIFY_CFG 0); { s with host := { s.host with faultLog := [List.replicate 256 (nr .fault)] } },
       nr .step, [PendRec.notes [nr .fault]], sound_of (by decide +kernel), by decide +kernel⟩,
   ⟨rq [.notes [nr .weather], .notes [nr .fault]] ((nrg up 3 67).setReg .HOST_NOTIFY_CFG 0), nr .weather,
       [PendRec.notes [nr .fault]], sound_of (by decide +kernel), by decide +kernel⟩⟩

theorem test_meets_RecordWrites_2 :
    (∃ (s : State) (c : CapRec) (rest : List PendRec), s.Sound ∧ linked s ∧ s.host.recq = .cap c :: rest ∧ c.session < 16
        ∧ c.ring < 4 ∧ s.flag .SYS_PLANE_STATE_HEADLESS = true)
    ∧ (∃ (s : State) (c : CapRec) (rest : List PendRec), s.Sound ∧ linked s ∧ s.host.recq = .cap c :: rest
        ∧ c.session < 16 ∧ c.ring < 4 ∧ s.flag .SYS_PLANE_STATE_HEADLESS = false ∧ ringTakes s (168 + c.ring) 1 = false)
    ∧ (∃ (s : State) (c : CapRec) (rest : List PendRec) (x : Nat) (y : Nat), s.Sound ∧ linked s
        ∧ canPut s (ringBase s (168 + c.ring) + tailOf s (168 + c.ring) % ringSize s (168 + c.ring) * 256) 256 (s.reg64 .HOST_RING_WB_LO .HOST_RING_WB_HI (168 + c.ring)) x y
        ∧ s.host.recq = .cap c :: rest ∧ c.session < 16 ∧ c.ring < 4 ∧ s.flag .SYS_PLANE_STATE_HEADLESS = false
        ∧ ringTakes s (168 + c.ring) 1 = true ∧ ringReach s (168 + c.ring) = true)
    ∧ (∃ (s : State) (n : NRec) (rest : List (List NRec)), s.Sound ∧ s.host.faultLog = [n] :: rest ∧ (backlogged s = true
        ∨ ringTakes s (noteRing s n.kind) 1 = false))
    ∧ (∃ (s : State) (n : NRec) (rest : List (List NRec)), s.Sound ∧ s.host.faultLog = [n] :: rest ∧ backlogged s = false
        ∧ ringTakes s (noteRing s n.kind) 1 = true ∧ ringReach s (noteRing s n.kind) = true) :=
  ⟨⟨rq [.cap cpr, .notes [nr .fault]] (hdl 1), cpr, [PendRec.notes [nr .fault]], sound_of (by decide +kernel),
      by unfold linked; decide +kernel, by decide +kernel⟩,
   ⟨rq [.cap cpr, .notes [nr .fault]] (nrg up 3 67), cpr, [PendRec.notes [nr .fault]], sound_of (by decide +kernel),
       by unfold linked; decide +kernel, by decide +kernel⟩,
   ⟨rq [.cap cpr, .notes [nr .fault]] (nrg up 3 4), cpr, [PendRec.notes [nr .fault]],
       0x80000000 + 170 * 0x10000 + 4 * 256, 0x81000000 + 64 * 170, sound_of (by decide +kernel),
       by unfold linked; decide +kernel, ⟨by decide +kernel, by decide +kernel, by decide +kernel, by decide +kernel⟩,
       by decide +kernel⟩,
   ⟨let s := (nrg up 3 67).setReg .HOST_NOTIFY_CFG 0; { s with host := { s.host with faultLog := [[nr .fault], [nr .step]] } },
       nr .fault, [[nr .step]], sound_of (by decide +kernel), by decide +kernel⟩,
   ⟨let s := (nrg up 3 4).setReg .HOST_NOTIFY_CFG 0; { s with host := { s.host with faultLog := [[nr .fault], [nr .step]] } },
       nr .fault, [[nr .step]], sound_of (by decide +kernel), by decide +kernel⟩⟩

theorem test_meets_RegisterAccess :
    (∃ (s : State) (a : Agent) (ali : Fin 4) (size : Fin 4) (off : BitVec 28) (v : DWord), s.Sound ∧ linked s
        ∧ s.pwr.keeperUp = true ∧ off.toNat % 2 ^ size.val ≠ 0)
    ∧ (∃ (s : State) (a : Agent) (ali : Fin 4) (size : Fin 4) (off : BitVec 28) (v : DWord), s.Sound ∧ linked s
        ∧ s.pwr.keeperUp = true ∧ off.toNat % 2 ^ size.val = 0 ∧ size.val < 2
        ∧ fusedOff s (off.toNat - off.toNat % 4) = false)
    ∧ (∃ (s : State) (a : Agent) (ali : Fin 4) (size : Fin 4) (off : BitVec 28) (v : DWord), s.Sound ∧ linked s
        ∧ s.pwr.keeperUp = true ∧ off.toNat % 2 ^ size.val = 0 ∧ size.val < 2
        ∧ fusedOff s (off.toNat - off.toNat % 4) = true)
    ∧ (∃ (s : State) (a : Agent) (ali : Fin 4) (size : Fin 4) (off : BitVec 28) (v : DWord), s.Sound ∧ linked s
        ∧ s.pwr.keeperUp = true ∧ off.toNat % 4 = 0 ∧ size.val = 2 ∧ findReg off.toNat = none ∧ findCnt off.toNat = none
        ∧ findCntHi off.toNat = none)
    ∧ (∃ (s : State) (a : Agent) (ali : Fin 4) (size : Fin 4) (off : BitVec 28) (v : DWord) (r : Reg) (i : Nat) (j : Nat),
        s.Sound ∧ linked s ∧ s.pwr.keeperUp = true ∧ off.toNat % 4 = 0 ∧ size.val = 2 ∧ findReg off.toNat = some (r, i, j)
        ∧ fusedOff s off.toNat = false ∧ ali.val ≠ 0 ∧ r.rw = 0 ∧ off.toNat ≠ Reg.off .SYS_KEY)
    ∧ (∃ (s : State) (a : Agent) (ali : Fin 4) (size : Fin 4) (off : BitVec 28) (v : DWord) (r : Reg) (i : Nat) (j : Nat),
        s.Sound ∧ linked s ∧ s.pwr.keeperUp = true ∧ off.toNat % 4 = 0 ∧ size.val = 2 ∧ findReg off.toNat = some (r, i, j)
        ∧ fusedReg s r i j = true ∧ (r.key = false ∨ keyOpen s a = false) ∧ isFar off.toNat = true) :=
  ⟨⟨up, A, (0 : Fin 4), (2 : Fin 4), (16777218 : BitVec 28), vv, sound_of (by decide +kernel),
      by unfold linked; decide +kernel, by decide +kernel⟩,
   ⟨up, A, (0 : Fin 4), (1 : Fin 4), (16777216 : BitVec 28), vv, sound_of (by decide +kernel),
       by unfold linked; decide +kernel, by decide +kernel⟩,
   ⟨fz, A, (0 : Fin 4), (0 : Fin 4), (BitVec.ofNat 28 (Reg.off .SKY_LANE_EN 5)), vv, sound_of (by decide +kernel),
       by unfold linked; decide +kernel, by decide +kernel⟩,
   ⟨up, A, (0 : Fin 4), (2 : Fin 4), (16777212 : BitVec 28), vv, sound_of (by decide +kernel),
       by unfold linked; decide +kernel, by decide +kernel⟩,
   ⟨up, A, (1 : Fin 4), (2 : Fin 4), (BitVec.ofNat 28 roR.base), vv, roR, 0, 0, sound_of (by decide +kernel),
       by unfold linked; decide +kernel, by decide +kernel⟩,
   ⟨fz, A, (0 : Fin 4), (2 : Fin 4), (BitVec.ofNat 28 (Reg.off .SKY_LANE_EN 5)), vv, Reg.SKY_LANE_EN, 5, 0,
       sound_of (by decide +kernel), by unfold linked; decide +kernel, by decide +kernel⟩⟩

theorem test_meets_RegisterAccess_2 :
    (∃ (s : State) (a : Agent) (ali : Fin 4) (size : Fin 4) (off : BitVec 28) (v : DWord) (r : Reg) (i : Nat) (j : Nat),
        s.Sound ∧ linked s ∧ s.pwr.keeperUp = true ∧ off.toNat % 4 = 0 ∧ size.val = 2 ∧ findReg off.toNat = some (r, i, j)
        ∧ fusedOff s off.toNat = false ∧ (r.base / 2 ^ 20 = 2 ∨ r.base / 2 ^ 20 = 10) ∧ r.grp < 64 ∧ r.rw ≠ 0
        ∧ takenAfter s ⟨a, ali.val, off.toNat, v.setWidth 32, 2⟩ = [])
    ∧ (∃ (s : State) (a : Agent) (ali : Fin 4) (size : Fin 4) (off : BitVec 28) (v : DWord) (r : Reg) (i : Nat) (j : Nat) (x : TakenWrite),
        s.Sound ∧ linked s ∧ s.pwr.keeperUp = true ∧ off.toNat % 4 = 0 ∧ size.val = 2 ∧ findReg off.toNat = some (r, i, j)
        ∧ fusedOff s off.toNat = false ∧ (r.base / 2 ^ 20 = 2 ∨ r.base / 2 ^ 20 = 10) ∧ r.grp < 64 ∧ r.rw ≠ 0
        ∧ takenAfter s ⟨a, ali.val, off.toNat, v.setWidth 32, 2⟩ = [x] ∧ r.w1c = 0 ∧ r.wo = 0)
    ∧ (∃ (s : State) (a : Agent) (off : BitVec 28) (v : DWord), s.Sound ∧ s.pwr.keeperUp = true
        ∧ s.flag .SYS_PLANE_STATE_IDL_UP = false ∧ off.toNat % 4 = 0 ∧ isFar off.toNat = true
        ∧ off.toNat ≠ Reg.off .SYS_KEY ∧ keyed ⟨a, 0, off.toNat, v.setWidth 32, 2⟩ = false ∧ fusedOff s off.toNat = false)
    ∧ (∃ (s : State) (a : Agent) (off : BitVec 28) (v : DWord), s.Sound ∧ s.pwr.keeperUp = true
        ∧ s.flag .SYS_PLANE_STATE_IDL_UP = false ∧ off.toNat % 4 = 0 ∧ isFar off.toNat = true
        ∧ off.toNat ≠ Reg.off .SYS_KEY)
    ∧ (∃ (s : State) (x : FarRead) (rest : List FarRead), s.Sound ∧ s.ctl.heldReads = x :: rest
        ∧ s.now < x.since + 160000)
    ∧ (∃ (s : State) (x : FarRead) (rest : List FarRead), s.Sound ∧ s.ctl.heldReads = x :: rest
        ∧ x.since + 160000 ≤ s.now) :=
  ⟨⟨up.setShad shR 0x55, A, (0 : Fin 4), (2 : Fin 4), (BitVec.ofNat 28 shR.base), vv, shR, 0, 0,
      sound_of (by decide +kernel), by unfold linked; decide +kernel, by decide +kernel⟩,
   ⟨let s := up.setShad shR 0x55; { s with sys := { s.sys with taken := [tkw] } }, A, (0 : Fin 4), (2 : Fin 4),
       (BitVec.ofNat 28 shR.base), vv, shR, 0, 0, tkw, sound_of (by decide +kernel), by unfold linked; decide +kernel,
       by decide +kernel⟩,
   ⟨dn_a8, A, (BitVec.ofNat 28 (Reg.off .LEAF_PORT_CFG 5)), vv, sound_of (by decide +kernel), by decide +kernel⟩,
   ⟨dn_a8, A, (BitVec.ofNat 28 (Reg.off .LEAF_PORT_CFG 5)), vv, sound_of (by decide +kernel), by decide +kernel⟩,
   ⟨({ dn_a8 with ctl := { dn_a8.ctl with heldReads := [⟨A, 0, 64, 2, 4999999000⟩, ⟨A, 0, 68, 2, 4999999000⟩] } } : State),
       FarRead.mk A 0 64 2 4999999000, [FarRead.mk A 0 68 2 4999999000], sound_of (by decide +kernel), by decide +kernel⟩,
   ⟨({ dn_a8 with ctl := { dn_a8.ctl with heldReads := [⟨A, 0, 64, 2, 4999000000⟩, ⟨A, 0, 68, 2, 4999000000⟩] } } : State),
       FarRead.mk A 0 64 2 4999000000, [FarRead.mk A 0 68 2 4999000000], sound_of (by decide +kernel), by decide +kernel⟩⟩

theorem test_meets_RegisterAccess_3 :
    (∃ (s : State), s.ctl.heldReads = [])
    ∧ (∃ (s : State) (a : Agent) (ali : Fin 4) (off : BitVec 28), s.Sound ∧ linked s ∧ s.pwr.keeperUp = true
        ∧ off.toNat % 4 = 0 ∧ (findCnt off.toNat).isSome = true ∧ fusedOff s off.toNat = false ∧ ali.val = 0
        ∧ s.flag .SYS_SNAP_CTRL_VIEW = false ∧ readFirst s a off.toNat = false)
    ∧ (∃ (s : State) (a : Agent) (ali : Fin 4) (off : BitVec 28), s.Sound ∧ linked s ∧ s.pwr.keeperUp = true
        ∧ off.toNat % 4 = 0 ∧ (findCnt off.toNat).isSome = true ∧ fusedOff s off.toNat = false ∧ ali.val = 0
        ∧ s.flag .SYS_SNAP_CTRL_VIEW = false ∧ readFirst s a off.toNat = true)
    ∧ (∃ (s : State) (a : Agent) (ali : Fin 4) (off : BitVec 28), s.Sound ∧ linked s ∧ s.pwr.keeperUp = true
        ∧ off.toNat % 4 = 0 ∧ (findCnt off.toNat).isSome = true ∧ fusedOff s off.toNat = false ∧ ali.val = 0
        ∧ s.flag .SYS_SNAP_CTRL_VIEW = true ∧ (isFar off.toNat = true ∨ s.flag .SYS_SNAP_STATUS_COPYING = false))
    ∧ (∃ (s : State) (a : Agent) (ali : Fin 4) (off : BitVec 28), s.Sound ∧ linked s ∧ s.pwr.keeperUp = true
        ∧ off.toNat % 4 = 0 ∧ (findCnt off.toNat).isSome = true ∧ fusedOff s off.toNat = false ∧ ali.val ≠ 0
        ∧ s.flag .SYS_SNAP_CTRL_VIEW = false)
    ∧ (∃ (s : State) (a : Agent) (ali : Fin 4) (off : BitVec 28), s.Sound ∧ linked s ∧ s.pwr.keeperUp = true
        ∧ off.toNat % 4 = 0 ∧ (findCnt off.toNat).isSome = true ∧ fusedOff s off.toNat = false ∧ ali.val = 0
        ∧ s.flag .SYS_SNAP_CTRL_VIEW = false ∧ readFirst s a off.toNat = false ∧ off.toNat % 8 = 0
        ∧ findCnt (off.toNat + 4) = none ∧ fusedOff s (off.toNat + 4) = false) :=
  ⟨⟨up, by decide +kernel⟩,
   ⟨cS 0, A, (0 : Fin 4), cO, sound_of (by decide +kernel), by unfold linked; decide +kernel, by decide +kernel⟩,
   ⟨{ cS 0 with pending := [.counterRead Agent.app 0 2 cO] }, Agent.keeper, (0 : Fin 4), cO, sound_of (by decide +kernel),
       by unfold linked; decide +kernel, by decide +kernel⟩,
   ⟨cS 1, A, (0 : Fin 4), cO, sound_of (by decide +kernel), by unfold linked; decide +kernel, by decide +kernel⟩,
   ⟨cS 0, A, (2 : Fin 4), cO, sound_of (by decide +kernel), by unfold linked; decide +kernel, by decide +kernel⟩,
   ⟨cS 0, A, (0 : Fin 4), cO, sound_of (by decide +kernel), by unfold linked; decide +kernel, by decide +kernel⟩⟩

theorem test_meets_RegisterAccess_4 :
    (∃ (s : State) (a : Agent) (ali : Fin 4) (off : BitVec 28), s.Sound ∧ linked s ∧ s.pwr.keeperUp = true
        ∧ off.toNat % 4 = 0 ∧ (findCnt off.toNat).isSome = true ∧ fusedOff s off.toNat = false
        ∧ s.flag .SYS_SNAP_CTRL_VIEW = false)
    ∧ (∃ (s : State) (a : Agent) (off : BitVec 28), s.Sound ∧ linked s ∧ s.pwr.keeperUp = true ∧ off.toNat % 4 = 0
        ∧ fusedOff s off.toNat = true)
    ∧ (∃ (s : State) (a : Agent) (off : BitVec 28), s.Sound ∧ linked s ∧ s.pwr.keeperUp = true ∧ off.toNat % 4 = 0
        ∧ fusedOff s off.toNat = false ∧ findCnt off.toNat = none ∧ ((findCntHi off.toNat).isSome = true
        ∨ pairHigh off.toNat = true))
    ∧ (∃ (s : State) (a : Agent) (ali : Fin 4) (size : Fin 4) (off : BitVec 28) (c : Instr), s.Sound ∧ linked s
        ∧ s.pwr.keeperUp = true ∧ (c = .counterRead a ali size off ∨ c = .holdingPairRead a ali size off)
        ∧ off.toNat % 2 ^ size.val ≠ 0)
    ∧ (∃ (s : State) (a : Agent), s.Sound ∧ linked s ∧ s.pwr.keeperUp = true) :=
  ⟨⟨cS 0, A, (0 : Fin 4), cO, sound_of (by decide +kernel), by unfold linked; decide +kernel, by decide +kernel⟩,
   ⟨fz, A, (BitVec.ofNat 28 (Reg.off .SKY_LANE_EN 5)), sound_of (by decide +kernel), by unfold linked; decide +kernel,
       by decide +kernel⟩,
   ⟨cS 0, A, cO + 4, sound_of (by decide +kernel), by unfold linked; decide +kernel, by decide +kernel⟩,
   ⟨cS 0, A, (0 : Fin 4), (3 : Fin 4), cO + 4, Instr.counterRead A 0 3 (cO + 4), sound_of (by decide +kernel),
       by unfold linked; decide +kernel, by decide +kernel⟩,
   ⟨up, A, sound_of (by decide +kernel), by unfold linked; decide +kernel, by decide +kernel⟩⟩

theorem test_meets_KeysStrobesAndSnapshots :
    (∃ (s : State) (a : Agent) (v : Word), s.Sound ∧ linked s ∧ v = 0x7EA5#32)
    ∧ (∃ (s : State) (a : Agent) (v : Word), s.Sound ∧ linked s ∧ v ≠ 0x7EA5#32)
    ∧ (∃ (s : State) (a : Agent) (e : Nat), s.Sound ∧ keyOf' s a = some e ∧ s.now < e)
    ∧ (∃ (s : State) (a : Agent) (e : Nat), s.Sound ∧ keyOf' s a = some e ∧ e ≤ s.now)
    ∧ (∃ (s : State) (a : Agent) (v : Word), s.Sound ∧ linked s)
    ∧ (∃ (s : State) (a : Agent) (mask : Word), s.Sound ∧ linked s) :=
  ⟨⟨kup, A, (0x7EA5 : Word), sound_of (by decide +kernel), by unfold linked; decide +kernel, by decide +kernel⟩,
   ⟨kup, A, (77 : Word), sound_of (by decide +kernel), by unfold linked; decide +kernel, by decide +kernel⟩,
   ⟨ky_a8 kup, A, 6000000000, sound_of (by decide +kernel), by decide +kernel⟩,
   ⟨({ kup with ctl := { kup.ctl with keySoft := some 4000000000 } } : State), A, 4000000000,
       sound_of (by decide +kernel), by decide +kernel⟩,
   ⟨kup, A, (77 : Word), sound_of (by decide +kernel), by unfold linked; decide +kernel⟩,
   ⟨shs, A, (0 : Word), sound_of (by decide +kernel), by unfold linked; decide +kernel⟩⟩

theorem test_meets_KeysStrobesAndSnapshots_2 :
    (∃ (s : State) (a : Agent) (clear : Bool) (view : Bool), s.Sound ∧ linked s ∧ s.flag .SYS_SNAP_STATUS_COPYING = true
        ∧ s.sys.snapAt ≠ some s.regClk)
    ∧ (∃ (s : State) (a : Agent) (clear : Bool) (view : Bool), s.Sound ∧ linked s ∧ s.flag .SYS_SNAP_STATUS_COPYING = true
        ∧ s.sys.snapAt = some s.regClk)
    ∧ (∃ (s : State) (a : Agent) (clear : Bool) (view : Bool), s.Sound ∧ linked s
        ∧ s.flag .SYS_SNAP_STATUS_COPYING = false)
    ∧ (∃ (s : State), s.flag .SYS_SNAP_STATUS_COPYING = false)
    ∧ (∃ (s : State), s.Sound ∧ s.flag .SYS_SNAP_STATUS_COPYING = true) :=
  ⟨⟨c2 1, A, true, true, sound_of (by decide +kernel), by unfold linked; decide +kernel, by decide +kernel⟩,
   ⟨let s := c2 1; { s with sys := { s.sys with snapClear := true, snapAt := some s.regClk } }, A, true, true,
       sound_of (by decide +kernel), by unfold linked; decide +kernel, by decide +kernel⟩,
   ⟨kup, A, true, true, sound_of (by decide +kernel), by unfold linked; decide +kernel, by decide +kernel⟩,
   ⟨kup, by decide +kernel⟩,
   ⟨c2 1, sound_of (by decide +kernel), by decide +kernel⟩⟩

theorem test_meets_ResetRequests :
    (∃ (s : State) (c : Instr) (a : Agent) (k : Fin 4) (b : Fin 32), s.Sound ∧ linked s ∧ keysStand s
        ∧ (c = .resetKindNone a k ∨ c = .coldReset a ∨ c = .warmReset a ∨ c = .appDomainReset a ∨ c = .blockReset a b)
        ∧ keyOpen s a = false)
    ∧ (∃ (s : State) (c : Instr) (a : Agent) (k : Fin 4) (b : Fin 32), s.Sound ∧ linked s ∧ keysStand s
        ∧ passesKey s a (Reg.off .SYS_RESET_CTRL) ∧ (c = .resetKindNone a k ∨ c = .coldReset a ∨ c = .warmReset a
        ∨ c = .appDomainReset a ∨ c = .blockReset a b) ∧ resetBarred s = true ∧ c ≠ .resetKindNone a k)
    ∧ (∃ (s : State) (c : Instr) (a : Agent) (k : Nat) (b : Fin 32), s.Sound ∧ linked s ∧ keysStand s
        ∧ passesKey s a (Reg.off .SYS_RESET_CTRL) ∧ resetBarred s = false ∧ (resetMet k s = true
        ∨ strongerWaits k (setKey a none s) = true) ∧ ((c = .coldReset a ∧ k = 1) ∨ (c = .warmReset a ∧ k = 2)
        ∨ (c = .appDomainReset a ∧ k = 3) ∨ (c = .blockReset a b ∧ k = 4)))
    ∧ (∃ (s : State) (a : Agent) (k : Fin 4), s.Sound ∧ linked s ∧ keysStand s ∧ passesKey s a (Reg.off .SYS_RESET_CTRL))
    ∧ (∃ (s : State) (a : Agent), s.Sound ∧ linked s ∧ keysStand s ∧ passesKey s a (Reg.off .SYS_RESET_CTRL)
        ∧ resetBarred s = false ∧ resetMet 1 s = false)
    ∧ (∃ (s : State) (a : Agent), s.Sound ∧ linked s ∧ keysStand s ∧ passesKey s a (Reg.off .SYS_RESET_CTRL)
        ∧ resetBarred s = false ∧ resetMet 2 s = false ∧ strongerWaits 2 (setKey a none s) = false) :=
  ⟨⟨kup, Instr.coldReset A, A, (2 : Fin 4), (1 : Fin 32), sound_of (by decide +kernel), by unfold linked; decide +kernel,
      keys_stand (by decide +kernel), by decide +kernel⟩,
   ⟨(ky_a8 kup).setFld .KEEP_STATUS_DUSK 1, Instr.coldReset A, A, (2 : Fin 4), (1 : Fin 32), sound_of (by decide +kernel),
       by unfold linked; decide +kernel, keys_stand (by decide +kernel), ⟨by decide +kernel, by decide +kernel⟩,
       by decide +kernel⟩,
   ⟨{ full with pwr := { full.pwr with stopped := true, resetAt := some ⟨full.regClk - 1, 1, none, none⟩ } },
       Instr.coldReset A, A, (1 : Nat), (1 : Fin 32), sound_of (by decide +kernel), by unfold linked; decide +kernel,
       keys_stand (by decide +kernel), ⟨by decide +kernel, by decide +kernel⟩, by decide +kernel⟩,
   ⟨full, A, (2 : Fin 4), sound_of (by decide +kernel), by unfold linked; decide +kernel, keys_stand (by decide +kernel),
       ⟨by decide +kernel, by decide +kernel⟩⟩,
   ⟨full, A, sound_of (by decide +kernel), by unfold linked; decide +kernel, keys_stand (by decide +kernel),
       ⟨by decide +kernel, by decide +kernel⟩, by decide +kernel⟩,
   ⟨full, A, sound_of (by decide +kernel), by unfold linked; decide +kernel, keys_stand (by decide +kernel),
       ⟨by decide +kernel, by decide +kernel⟩, by decide +kernel⟩⟩

theorem test_meets_ResetRequests_2 :
    (∃ (s : State) (a : Agent), s.Sound ∧ linked s ∧ keysStand s ∧ passesKey s a (Reg.off .SYS_RESET_CTRL)
        ∧ resetBarred s = false ∧ resetMet 3 s = false ∧ strongerWaits 3 (setKey a none s) = false)
    ∧ (∃ (s : State) (a : Agent) (b : Fin 32), s.Sound ∧ linked s ∧ keysStand s ∧ passesKey s a (Reg.off .SYS_RESET_CTRL)
        ∧ resetBarred s = false ∧ resetMet 4 s = false ∧ strongerWaits 4 (setKey a none s) = false ∧ b.val = 1)
    ∧ (∃ (s : State) (a : Agent) (b : Fin 32), s.Sound ∧ linked s ∧ keysStand s ∧ passesKey s a (Reg.off .SYS_RESET_CTRL)
        ∧ resetBarred s = false ∧ resetMet 4 s = false ∧ strongerWaits 4 (setKey a none s) = false ∧ (b.val = 2
        ∨ b.val = 10))
    ∧ (∃ (s : State) (a : Agent) (b : Fin 32), s.Sound ∧ linked s ∧ keysStand s ∧ passesKey s a (Reg.off .SYS_RESET_CTRL)
        ∧ resetBarred s = false ∧ resetMet 4 s = false ∧ strongerWaits 4 (setKey a none s) = false ∧ b.val = 11)
    ∧ (∃ (s : State) (a : Agent) (b : Fin 32), s.Sound ∧ linked s ∧ keysStand s ∧ passesKey s a (Reg.off .SYS_RESET_CTRL)
        ∧ resetBarred s = false ∧ resetMet 4 s = false ∧ strongerWaits 4 (setKey a none s) = false ∧ b.val ∉ [1, 2, 10,
        11]) :=
  ⟨⟨full, A, sound_of (by decide +kernel), by unfold linked; decide +kernel, keys_stand (by decide +kernel),
      ⟨by decide +kernel, by decide +kernel⟩, by decide +kernel⟩,
   ⟨full, A, (1 : Fin 32), sound_of (by decide +kernel), by unfold linked; decide +kernel, keys_stand (by decide +kernel),
       ⟨by decide +kernel, by decide +kernel⟩, by decide +kernel⟩,
   ⟨full, A, (2 : Fin 32), sound_of (by decide +kernel), by unfold linked; decide +kernel, keys_stand (by decide +kernel),
       ⟨by decide +kernel, by decide +kernel⟩, by decide +kernel⟩,
   ⟨full, A, (11 : Fin 32), sound_of (by decide +kernel), by unfold linked; decide +kernel,
       keys_stand (by decide +kernel), ⟨by decide +kernel, by decide +kernel⟩, by decide +kernel⟩,
   ⟨full, A, (5 : Fin 32), sound_of (by decide +kernel), by unfold linked; decide +kernel, keys_stand (by decide +kernel),
       ⟨by decide +kernel, by decide +kernel⟩, by decide +kernel⟩⟩

theorem test_meets_FusesAndSlowWrites :
    (∃ (s : State) (a : Agent) (b : Fin 32), s.Sound ∧ linked s ∧ keyOpen s a = false)
    ∧ (∃ (s : State) (a : Agent) (b : Fin 32), s.Sound ∧ linked s ∧ passesKey s a (Reg.off .SYS_FUSE_CTRL)
        ∧ (s.flag .SYS_FUSE_STATUS_BUSY = true ∨ s.flag .KEEP_STATUS_DUSK = true))
    ∧ (∃ (s : State) (a : Agent) (b : Fin 32), s.Sound ∧ linked s ∧ passesKey s a (Reg.off .SYS_FUSE_CTRL)
        ∧ s.flag .SYS_FUSE_STATUS_BUSY = false ∧ s.flag .KEEP_STATUS_DUSK = false)
    ∧ (∃ (s : State) (blown : Bool) (e : Nat) (b : Nat), s.Sound ∧ s.sys.fuseAt = some (e, b) ∧ b < 32)
    ∧ (∃ (s : State) (a : Agent) (i : Fin 32) (v : Word), s.Sound ∧ linked s ∧ keyOpen s a = false)
    ∧ (∃ (s : State) (a : Agent) (i : Fin 32) (v : Word), s.Sound ∧ linked s ∧ passesKey s a (Reg.off .PWR_RAIL_SET i)
        ∧ railOk i (v.toNat % 65536) = false) :=
  ⟨⟨kup, A, (7 : Fin 32), sound_of (by decide +kernel), by unfold linked; decide +kernel, by decide +kernel⟩,
   ⟨(ky_a8 kup).setFld .SYS_FUSE_STATUS_BUSY 1, A, (7 : Fin 32), sound_of (by decide +kernel),
       by unfold linked; decide +kernel, ⟨by decide +kernel, by decide +kernel⟩, by decide +kernel⟩,
   ⟨((ky_a8 kup).setFld .SYS_FUSE_STATUS_BUSY 0).setFld .KEEP_STATUS_DUSK 0, A, (7 : Fin 32),
       sound_of (by decide +kernel), by unfold linked; decide +kernel, ⟨by decide +kernel, by decide +kernel⟩,
       by decide +kernel⟩,
   ⟨({ kup with sys := { kup.sys with fuseAt := some (5, 7) } } : State), true, 5, (7 : Nat),
       sound_of (by decide +kernel), by decide +kernel⟩,
   ⟨kup, A, (3 : Fin 32), (750 : Word), sound_of (by decide +kernel), by unfold linked; decide +kernel,
       by decide +kernel⟩,
   ⟨(ky_a8 kup).setFld .PWR_SLOW_STATUS_BUSY 0, A, (3 : Fin 32), (900 : Word), sound_of (by decide +kernel),
       by unfold linked; decide +kernel, ⟨by decide +kernel, by decide +kernel⟩, by decide +kernel⟩⟩

theorem test_meets_FusesAndSlowWrites_2 :
    (∃ (s : State) (a : Agent) (i : Fin 32) (v : Word), s.Sound ∧ linked s ∧ passesKey s a (Reg.off .PWR_RAIL_SET i)
        ∧ railOk i (v.toNat % 65536) = true ∧ s.flag .PWR_SLOW_STATUS_BUSY = false)
    ∧ (∃ (s : State) (a : Agent) (i : Fin 32) (v : Word), s.Sound ∧ linked s ∧ passesKey s a (Reg.off .PWR_RAIL_SET i)
        ∧ railOk i (v.toNat % 65536) = true ∧ s.flag .PWR_SLOW_STATUS_BUSY = true ∧ a ≠ .keeper)
    ∧ (∃ (s : State) (a : Agent) (i : Fin 32) (v : Word), s.Sound ∧ linked s ∧ passesKey s a (Reg.off .PWR_RAIL_SET i)
        ∧ railOk i (v.toNat % 65536) = true ∧ s.flag .PWR_SLOW_STATUS_BUSY = true ∧ a = .keeper)
    ∧ (∃ (s : State) (a : Agent) (l : Fin 512) (v : Word), s.Sound ∧ linked s
        ∧ fusedOff s (Reg.off .OPT_LANE_BIAS l) = false ∧ keyOpen s a = false)
    ∧ (∃ (s : State) (a : Agent) (l : Fin 512) (v : Word), s.Sound ∧ linked s ∧ passesKey s a (Reg.off .OPT_LANE_BIAS l)
        ∧ fusedOff s (Reg.off .OPT_LANE_BIAS l) = false ∧ s.flag .OPT_SLOW_STATUS_BUSY = false)
    ∧ (∃ (s : State) (a : Agent) (l : Fin 512) (v : Word), s.Sound ∧ linked s ∧ passesKey s a (Reg.off .OPT_LANE_BIAS l)
        ∧ fusedOff s (Reg.off .OPT_LANE_BIAS l) = false ∧ s.flag .OPT_SLOW_STATUS_BUSY = true ∧ a ≠ .keeper) :=
  ⟨⟨(ky_a8 kup).setFld .PWR_SLOW_STATUS_BUSY 0, A, (3 : Fin 32), (750 : Word), sound_of (by decide +kernel),
      by unfold linked; decide +kernel, ⟨by decide +kernel, by decide +kernel⟩, by decide +kernel⟩,
   ⟨(ky_a8 kup).setFld .PWR_SLOW_STATUS_BUSY 1, A, (3 : Fin 32), (750 : Word), sound_of (by decide +kernel),
       by unfold linked; decide +kernel, ⟨by decide +kernel, by decide +kernel⟩, by decide +kernel⟩,
   ⟨(ky_a8 kup).setFld .PWR_SLOW_STATUS_BUSY 1, Agent.keeper, (3 : Fin 32), (750 : Word), sound_of (by decide +kernel),
       by unfold linked; decide +kernel, ⟨by decide +kernel, by decide +kernel⟩, by decide +kernel⟩,
   ⟨kup, A, (200 : Fin 512), (0x80000F01 : Word), sound_of (by decide +kernel), by unfold linked; decide +kernel,
       by decide +kernel⟩,
   ⟨(ky_a8 kup).setFld .OPT_SLOW_STATUS_BUSY 0, A, (200 : Fin 512), (0x80000F01 : Word), sound_of (by decide +kernel),
       by unfold linked; decide +kernel, ⟨by decide +kernel, by decide +kernel⟩, by decide +kernel⟩,
   ⟨(ky_a8 kup).setFld .OPT_SLOW_STATUS_BUSY 1, A, (200 : Fin 512), (0x80000F01 : Word), sound_of (by decide +kernel),
       by unfold linked; decide +kernel, ⟨by decide +kernel, by decide +kernel⟩, by decide +kernel⟩⟩

theorem test_meets_FusesAndSlowWrites_3 :
    (∃ (s : State) (a : Agent) (l : Fin 512) (v : Word), s.Sound ∧ linked s ∧ passesKey s a (Reg.off .OPT_LANE_BIAS l)
        ∧ fusedOff s (Reg.off .OPT_LANE_BIAS l) = false ∧ s.flag .OPT_SLOW_STATUS_BUSY = true ∧ a = .keeper)
    ∧ (∃ (s : State) (a : Agent) (l : Fin 512) (v : Word), s.Sound ∧ linked s ∧ passesKey s a (Reg.off .OPT_LANE_BIAS l)
        ∧ fusedOff s (Reg.off .OPT_LANE_BIAS l) = true)
    ∧ (∃ (s : State) (a : Agent) (l : Fin 512) (v : Word), s.Sound ∧ linked s
        ∧ fusedOff s (Reg.off .OPT_LANE_BIAS l) = true ∧ keyOpen s a = false)
    ∧ (∃ (s : State) (a : Agent) (l : Fin 512) (v : Word) (ack : Bool), s.Sound ∧ forwards s
        ∧ s.sys.slowOpt = [write32 a .OPT_LANE_BIAS v.toNat l])
    ∧ (∃ (s : State) (a : Agent) (i : Fin 32) (v : Word) (ack : Bool), s.Sound
        ∧ s.sys.slowPwr = [write32 a .PWR_RAIL_SET v.toNat i]) :=
  ⟨⟨(ky_a8 kup).setFld .OPT_SLOW_STATUS_BUSY 1, Agent.keeper, (200 : Fin 512), (0x80000F01 : Word),
      sound_of (by decide +kernel), by unfold linked; decide +kernel, ⟨by decide +kernel, by decide +kernel⟩,
      by decide +kernel⟩,
   ⟨ky_a8 fz, A, (200 : Fin 512), (0x80000F01 : Word), sound_of (by decide +kernel), by unfold linked; decide +kernel,
       ⟨by decide +kernel, by decide +kernel⟩, by decide +kernel⟩,
   ⟨fz, A, (200 : Fin 512), (0x80000F01 : Word), sound_of (by decide +kernel), by unfold linked; decide +kernel,
       by decide +kernel⟩,
   ⟨({ kup with sys := { kup.sys with slowOpt := [write32 A .OPT_LANE_BIAS ((0xC0000FFF : Word)).toNat 5] } } : State), A,
       (5 : Fin 512), (0xC0000FFF : Word), true, sound_of (by decide +kernel), by unfold forwards; decide +kernel,
       by decide +kernel⟩,
   ⟨({ kup with sys := { kup.sys with slowPwr := [write32 A .PWR_RAIL_SET ((750 : Word)).toNat 3] } } : State), A,
       (3 : Fin 32), (750 : Word), true, sound_of (by decide +kernel), by decide +kernel⟩⟩

theorem test_meets_PowerAndRails :
    (∃ (s : State) (c : Climate) (ms : Nat), s.Sound ∧ (s.pwr.seq ≠ .off ∨ c.voltage < 820 ∨ 2800 < c.voltage
        ∨ (s.pwr.tripLatched = true ∧ (8500 < c.tCase ∨ ms < 5000))))
    ∧ (∃ (s : State) (c : Climate) (ms : Nat), s.Sound ∧ s.pwr.seq = .off ∧ 820 ≤ c.voltage ∧ c.voltage ≤ 2800
        ∧ (s.pwr.tripLatched = false ∨ (c.tCase ≤ 8500 ∧ 5000 ≤ ms)))
    ∧ (∃ (s : State) (rail : Fin 28) (inService : Bool) (c : Climate), s.Sound ∧ s.pwr.seq = .off)
    ∧ (∃ (s : State) (rail : Fin 28) (inService : Bool) (c : Climate), s.Sound ∧ s.pwr.seq ≠ .off)
    ∧ (∃ (s : State) (e : Nat), s.Sound ∧ s.pwr.railFaultAt = some e ∧ (s.now < e + 1600000000 ∨ 3 ≤ s.pwr.railFails
        ∨ s.pwr.seq ≠ .keeper ∨ s.pwr.dusk.isSome = true))
    ∧ (∃ (s : State) (e : Nat), s.Sound ∧ s.pwr.railFaultAt = some e ∧ e + 1600000000 ≤ s.now ∧ s.pwr.railFails < 3
        ∧ s.pwr.seq = .keeper ∧ s.pwr.dusk = none) :=
  ⟨⟨up, cl_a9 2500 2500 900 2300, 9, sound_of (by decide +kernel), by decide +kernel⟩,
   ⟨off up, cl_a9 2500 2500 900 2300, 6000, sound_of (by decide +kernel), by decide +kernel⟩,
   ⟨off up, (0 : Fin 28), T1, cl_a9 2500 2500 900 2300, sound_of (by decide +kernel), by decide +kernel⟩,
   ⟨up, (0 : Fin 28), T1, cl_a9 2500 2500 900 2300, sound_of (by decide +kernel), by decide +kernel⟩,
   ⟨pw (fun p => { p with railFaultAt := some 5, seq := .keeper, railFails := 3 }) up, 5, sound_of (by decide +kernel),
       by decide +kernel⟩,
   ⟨pw (fun p => { p with railFaultAt := some 5, seq := .keeper }) up, 5, sound_of (by decide +kernel),
       by decide +kernel⟩⟩

theorem test_meets_PowerAndRails_2 :
    (∃ (s : State), s.Sound ∧ (s.pwr.stopped = false ∨ s.pwr.dusk.isSome = true ∨ s.pwr.seq = .off ∨ s.pwr.seq = .keeper))
    ∧ (∃ (s : State), s.Sound ∧ s.pwr.stopped = true ∧ s.pwr.dusk = none ∧ (s.pwr.seq = .steep ∨ s.pwr.seq = .up)
        ∧ s.ctl.heldWrites = [] ∧ s.ctl.heldReads = [])
    ∧ (∃ (s : State), s.Sound ∧ s.pwr.keeperUp = false)
    ∧ (∃ (s : State), s.Sound ∧ s.pwr.keeperUp = true)
    ∧ (∃ (s : State) (ms : Nat) (c : Climate), s.Sound ∧ (ms < 10 ∨ (s.pwr.seq = .off ∧ (s.pwr.tripLatched = false
        ∨ 8500 < c.tCase ∨ c.voltage < 820 ∨ 2800 < c.voltage))))
    ∧ (∃ (s : State) (ms : Nat) (c : Climate), s.Sound ∧ 10 ≤ ms ∧ s.pwr.seq = .off ∧ s.pwr.tripLatched = true
        ∧ c.tCase ≤ 8500 ∧ 820 ≤ c.voltage ∧ c.voltage ≤ 2800) :=
  ⟨⟨up, sound_of (by decide +kernel), by decide +kernel⟩,
   ⟨pw (fun p => { p with stopped := true }) up, sound_of (by decide +kernel), by decide +kernel⟩,
   ⟨off up, sound_of (by decide +kernel), by decide +kernel⟩,
   ⟨up, sound_of (by decide +kernel), by decide +kernel⟩,
   ⟨up, 9, cl_a9 2500 2500 900 2300, sound_of (by decide +kernel), by decide +kernel⟩,
   ⟨pw (fun p => { p with tripLatched := true }) (off up), 60, cl_a9 2500 2500 900 2300, sound_of (by decide +kernel),
       by decide +kernel⟩⟩

theorem test_meets_PowerAndRails_3 :
    (∃ (s : State) (ms : Nat) (c : Climate), s.Sound ∧ linked s ∧ 10 ≤ ms ∧ s.pwr.seq ≠ .off ∧ resetBarred s = true)
    ∧ (∃ (s : State) (ms : Nat) (c : Climate), s.Sound ∧ 10 ≤ ms ∧ s.pwr.seq ≠ .off ∧ resetBarred s = false
        ∧ resetMet 1 s = true)
    ∧ (∃ (s : State) (ms : Nat) (c : Climate), s.Sound ∧ 10 ≤ ms ∧ s.pwr.seq ≠ .off ∧ resetBarred s = false
        ∧ resetMet 1 s = false)
    ∧ (∃ (s : State), s.Sound) :=
  ⟨⟨up.setFld .PWR_STATUS_STEEP 1, 11, cl_a9 2500 2500 900 2300, sound_of (by decide +kernel),
      by unfold linked; decide +kernel, by decide +kernel⟩,
   ⟨pw (fun p => { p with resetAt := some ⟨up.regClk, 1, none, none⟩ }) ((up.setFld .PWR_STATUS_STEEP 0).setFld .KEEP_STATUS_DUSK 0),
       11, cl_a9 2500 2500 900 2300, sound_of (by decide +kernel), by decide +kernel⟩,
   ⟨up, 11, cl_a9 2500 2500 900 2300, sound_of (by decide +kernel), by decide +kernel⟩,
   ⟨up, sound_of (by decide +kernel)⟩⟩

theorem test_meets_DuskSequence :
    (∃ (s : State) (c : Climate), s.Sound ∧ s.flag .PWR_STATUS_INPUT_OK = false)
    ∧ (∃ (s : State) (c : Climate), s.Sound ∧ s.flag .PWR_STATUS_INPUT_OK = true ∧ s.pwr.seq ≠ .off)
    ∧ (∃ (s : State) (c : Climate), s.Sound ∧ (s.pwr.seq = .off ∨ s.pwr.tripLatched = true ∨ (c.tCase < 13000
        ∧ ∀ x ∈ (c.sensors.drop 2).take 14, x < 15000)))
    ∧ (∃ (s : State) (c : Climate), s.Sound ∧ s.pwr.seq ≠ .off ∧ s.pwr.tripLatched = false ∧ (13000 ≤ c.tCase
        ∨ ∃ x ∈ (c.sensors.drop 2).take 14, 15000 ≤ x))
    ∧ (∃ (s : State) (d : DuskSt), s.Sound ∧ s.pwr.dusk = some d ∧ (d.stopped = true ∨ s.now < d.t0 + 1600000))
    ∧ (∃ (s : State) (d : DuskSt), s.Sound ∧ s.pwr.dusk = some d ∧ d.stopped = false ∧ d.t0 + 1600000 ≤ s.now) :=
  ⟨⟨off up, cl_a9 2500 2500 900 2300, sound_of (by decide +kernel), by decide +kernel⟩,
   ⟨up.setFld .PWR_STATUS_INPUT_OK 1, cl_a9 2500 2500 900 2300, sound_of (by decide +kernel), by decide +kernel⟩,
   ⟨off up, cl_a9 2500 2500 900 2300, sound_of (by decide +kernel), by decide +kernel⟩,
   ⟨up.setFld .PWR_STATUS_INPUT_OK 0, cl_a9 13000 2500 900 2300, sound_of (by decide +kernel), by decide +kernel⟩,
   ⟨pw (fun p => { p with dusk := some { dk with stopped := true }, tripLatched := true, abandoned := true, railFaultAt := none, region := [⟨true, false, [], some dk, []⟩, ⟨false,true,[],none,[]⟩] }) (up.setFld .PWR_STATUS_INPUT_OK 0),
       ({ dk with stopped := true } : DuskSt), sound_of (by decide +kernel), by decide +kernel⟩,
   ⟨pw (fun p => { p with dusk := some dk }) (up.setFld .PWR_STATUS_INPUT_OK 1), dk, sound_of (by decide +kernel),
       by decide +kernel⟩⟩

theorem test_meets_DuskSequence_2 :
    (∃ (s : State), s.pwr.dusk = none)
    ∧ (∃ (s : State) (d : DuskSt) (x : Checkpoint) (rest : List Checkpoint), s.Sound ∧ s.pwr.dusk = some d
        ∧ s.pwr.region = x :: rest ∧ d.stopped = false)
    ∧ (∃ (s : State) (d : DuskSt) (x : Checkpoint) (rest : List Checkpoint), s.Sound ∧ s.pwr.dusk = some d
        ∧ s.pwr.region = x :: rest ∧ d.stopped = true)
    ∧ (∃ (s : State) (c : Climate) (e : Nat), s.Sound ∧ s.pwr.duskEndAt = some e ∧ (s.now < e + 160000000
        ∨ c.voltage < 850 ∨ 2650 < c.voltage ∨ s.pwr.tripLatched = true))
    ∧ (∃ (s : State) (c : Climate) (e : Nat), s.Sound ∧ s.pwr.duskEndAt = some e ∧ e + 160000000 ≤ s.now ∧ 850 ≤ c.voltage
        ∧ c.voltage ≤ 2650 ∧ s.pwr.tripLatched = false)
    ∧ (∃ (s : State), s.Sound ∧ (s.flag .KEEP_STATUS_ALIVE = false ∨ s.pwr.dusk.isSome = true
        ∨ s.now / 1600000000 ≤ s.pwr.ckptAt)) :=
  ⟨⟨off up, by decide +kernel⟩,
   ⟨pw (fun p => { p with dusk := some { dk with stopped := false }, region := [⟨true, false, [], some dk, []⟩, ⟨false,true,[],none,[]⟩] }) up,
       ({ dk with stopped := false } : DuskSt), (⟨true, false, [], some dk, []⟩ : Checkpoint),
       [(⟨false,true,[],none,[]⟩ : Checkpoint)], sound_of (by decide +kernel), by decide +kernel⟩,
   ⟨pw (fun p => { p with dusk := some { dk with stopped := true }, tripLatched := true, abandoned := true, railFaultAt := none, region := [⟨true, false, [], some dk, []⟩, ⟨false,true,[],none,[]⟩] }) (up.setFld .PWR_STATUS_INPUT_OK 0),
       ({ dk with stopped := true } : DuskSt), (⟨true, false, [], some dk, []⟩ : Checkpoint),
       [(⟨false,true,[],none,[]⟩ : Checkpoint)], sound_of (by decide +kernel), by decide +kernel⟩,
   ⟨pw (fun p => { p with duskEndAt := some 6, tripLatched := true }) (off up), cl_a9 2500 2500 900 2300, 6,
       sound_of (by decide +kernel), by decide +kernel⟩,
   ⟨pw (fun p => { p with duskEndAt := some 6, tripLatched := false }) (off up), cl_a9 2500 2500 900 2300, 6,
       sound_of (by decide +kernel), by decide +kernel⟩,
   ⟨pw (fun p => { p with ckptAt := 3 }) up, sound_of (by decide +kernel), by decide +kernel⟩⟩

theorem test_meets_DuskSequence_3 :
    (∃ (s : State), s.Sound ∧ s.flag .KEEP_STATUS_ALIVE = true ∧ s.pwr.dusk = none ∧ s.pwr.ckptAt < s.now / 1600000000) :=
  ⟨off up, sound_of (by decide +kernel), by decide +kernel⟩

theorem test_meets_SteepSimmerAndQuiet :
    (∃ (s : State) (c : Climate), s.Sound ∧ (s.flag .KEEP_STATUS_ALIVE = false ∨ s.pwr.dusk.isSome = true
        ∨ s.now / 160000000 ≤ s.pwr.evalAt))
    ∧ (∃ (s : State) (c : Climate), s.Sound ∧ s.flag .KEEP_STATUS_ALIVE = true ∧ s.pwr.dusk = none
        ∧ s.pwr.evalAt < s.now / 160000000)
    ∧ (∃ (s : State) (e : Nat), s.Sound ∧ s.pwr.lowSince = some e ∧ (s.flag .KEEP_STATUS_ALIVE = false
        ∨ s.now < e + 16000000000))
    ∧ (∃ (s : State) (e : Nat), s.Sound ∧ s.pwr.lowSince = some e ∧ s.flag .KEEP_STATUS_ALIVE = true
        ∧ e + 16000000000 ≤ s.now)
    ∧ (∃ (s : State) (e : Nat), s.Sound ∧ s.pwr.steepAt = some e ∧ (s.now < e + 480000000000 ∨ s.pwr.steepLate = true))
    ∧ (∃ (s : State) (e : Nat), s.Sound ∧ s.pwr.steepAt = some e ∧ e + 480000000000 ≤ s.now ∧ s.pwr.steepLate = false) :=
  ⟨⟨pw (fun p => { p with evalAt := 31 }) up, cl_a9 2500 2500 900 2300, sound_of (by decide +kernel), by decide +kernel⟩,
   ⟨pw (fun p => { p with seq := .up }) ((portOn 5 up).setFld .PWR_STATUS_SIMMER 0), cl_a9 8000 (2000) 900 2300,
       sound_of (by decide +kernel), by decide +kernel⟩,
   ⟨pw (fun p => { p with lowSince := some 5 }) up, 5, sound_of (by decide +kernel), by decide +kernel⟩,
   ⟨pw (fun p => { p with lowSince := some 5 }) ({ up with now := 20000000000 }), 5, sound_of (by decide +kernel),
       by decide +kernel⟩,
   ⟨pw (fun p => { p with steepAt := some 5 }) up, 5, sound_of (by decide +kernel), by decide +kernel⟩,
   ⟨pw (fun p => { p with steepAt := some 5 }) ({ up with now := 600000000000 }), 5, sound_of (by decide +kernel),
       by decide +kernel⟩⟩

theorem test_meets_SteepSimmerAndQuiet_2 :
    (∃ (s : State), s.pwr.quiet = true)
    ∧ (∃ (s : State), s.Sound ∧ s.pwr.quiet = false ∧ s.pwr.keeperUp = false)
    ∧ (∃ (s : State), s.Sound ∧ s.pwr.quiet = false ∧ s.pwr.keeperUp = true)
    ∧ (∃ (s : State), s.Sound ∧ s.pwr.quiet = false)
    ∧ (∃ (s : State), s.Sound ∧ s.pwr.quiet = true) :=
  ⟨⟨pw (fun p => { p with quiet := true }) up, by decide +kernel⟩,
   ⟨off up, sound_of (by decide +kernel), by decide +kernel⟩,
   ⟨portOn 5 up, sound_of (by decide +kernel), by decide +kernel⟩,
   ⟨off up, sound_of (by decide +kernel), by decide +kernel⟩,
   ⟨pw (fun p => { p with quiet := true }) up, sound_of (by decide +kernel), by decide +kernel⟩⟩

theorem test_meets_NvmCommands :
    (∃ (s : State) (c : Instr) (a : Agent) (k : Fin 2) (x : Byte), s.Sound ∧ (c = .nvmRead a ∨ c = .nvmWrite a
        ∨ c = .imageCommit a k ∨ c = .switch a k ∨ c = .cfgCommit a ∨ c = .confirm a ∨ c = .run a x ∨ c = .abort a)
        ∧ s.pwr.keeperUp = false)
    ∧ (∃ (s : State) (c : Instr) (a : Agent) (k : Fin 2) (x : Byte), s.Sound ∧ (c = .nvmRead a ∨ c = .nvmWrite a
        ∨ c = .imageCommit a k ∨ c = .switch a k ∨ c = .cfgCommit a ∨ c = .confirm a ∨ c = .run a x ∨ c = .abort a)
        ∧ s.pwr.keeperUp = true ∧ s.flag .KEEP_STATUS_DUSK = true)
    ∧ (∃ (s : State) (c : Instr) (a : Agent) (k : Fin 2) (x : Byte), s.Sound ∧ (c = .nvmRead a ∨ c = .nvmWrite a
        ∨ c = .imageCommit a k ∨ c = .switch a k ∨ c = .cfgCommit a ∨ c = .confirm a ∨ c = .run a x ∨ c = .abort a)
        ∧ s.pwr.keeperUp = true ∧ s.flag .KEEP_STATUS_DUSK = false ∧ s.nvm.op.isSome = true ∧ c ≠ .confirm a
        ∧ c ≠ .run a x ∧ c ≠ .abort a)
    ∧ (∃ (s : State) (a : Agent), s.Sound ∧ s.pwr.keeperUp = true ∧ s.flag .KEEP_STATUS_DUSK = false ∧ s.nvm.op = none
        ∧ nvmRange 0 s = true)
    ∧ (∃ (s : State) (a : Agent), s.Sound ∧ s.pwr.keeperUp = true ∧ s.flag .KEEP_STATUS_DUSK = false ∧ s.nvm.op = none
        ∧ nvmRange 0 s = false)
    ∧ (∃ (s : State) (a : Agent), s.Sound ∧ s.pwr.keeperUp = true ∧ s.flag .KEEP_STATUS_DUSK = false ∧ s.nvm.op = none
        ∧ nvmRange (18 * gib) s = true) :=
  ⟨⟨off up, Instr.run A_a9 1, A_a9, (1 : Fin 2), (1 : Byte), sound_of (by decide +kernel), by decide +kernel⟩,
   ⟨up.setFld .KEEP_STATUS_DUSK 1, Instr.run A_a9 1, A_a9, (1 : Fin 2), (1 : Byte), sound_of (by decide +kernel),
       by decide +kernel⟩,
   ⟨nv (fun n => { n with op := some (op1 1) }) (nd up), Instr.nvmRead A_a9, A_a9, (1 : Fin 2), (1 : Byte),
       sound_of (by decide +kernel), by decide +kernel⟩,
   ⟨nv (fun n => n) ((ad 4096 2147483648 8192 up).setFld .SYS_RUN_STATE_STATE 0), A_a9, sound_of (by decide +kernel),
       by decide +kernel⟩,
   ⟨nd (up.setFld .SYS_RUN_STATE_STATE 1), A_a9, sound_of (by decide +kernel), by decide +kernel⟩,
   ⟨nv (fun n => n) ((ad 19327352832 2147483648 8192 up).setFld .SYS_RUN_STATE_STATE 0), A_a9,
       sound_of (by decide +kernel), by decide +kernel⟩⟩

theorem test_meets_NvmCommands_2 :
    (∃ (s : State) (a : Agent), s.Sound ∧ s.pwr.keeperUp = true ∧ s.flag .KEEP_STATUS_DUSK = false ∧ s.nvm.op = none
        ∧ nvmRange (18 * gib) s = false)
    ∧ (∃ (s : State) (a : Agent), s.Sound ∧ s.pwr.keeperUp = true ∧ s.flag .KEEP_STATUS_DUSK = false ∧ s.nvm.op = none
        ∧ nvmLen s ≤ 536866816 ∧ inDram (nvmHost s) (nvmLen s) = true)
    ∧ (∃ (s : State) (a : Agent), s.Sound ∧ s.pwr.keeperUp = true ∧ s.flag .KEEP_STATUS_DUSK = false ∧ s.nvm.op = none
        ∧ (536866816 < nvmLen s ∨ inDram (nvmHost s) (nvmLen s) = false))
    ∧ (∃ (s : State) (a : Agent) (k : Fin 2), s.Sound ∧ s.pwr.keeperUp = true ∧ s.flag .KEEP_STATUS_DUSK = false
        ∧ s.nvm.op = none ∧ slotHeld s k = true)
    ∧ (∃ (s : State) (a : Agent) (k : Fin 2), s.Sound ∧ s.pwr.keeperUp = true ∧ s.flag .KEEP_STATUS_DUSK = false
        ∧ s.nvm.op = none ∧ slotHeld s k = false ∧ (nvmLen s = 0 ∨ nvmLen s % 4096 ≠ 0
        ∨ inDram (nvmHost s) (nvmLen s) = false))
    ∧ (∃ (s : State) (a : Agent) (k : Fin 2), s.Sound ∧ s.pwr.keeperUp = true ∧ s.flag .KEEP_STATUS_DUSK = false
        ∧ s.nvm.op = none ∧ slotHeld s k = false ∧ nvmLen s ≠ 0 ∧ nvmLen s % 4096 = 0
        ∧ inDram (nvmHost s) (nvmLen s) = true) :=
  ⟨⟨nd (up.setFld .SYS_RUN_STATE_STATE 1), A_a9, sound_of (by decide +kernel), by decide +kernel⟩,
   ⟨nv (fun n => n) ((ad 4096 2147483648 8192 up).setFld .SYS_RUN_STATE_STATE 0), A_a9, sound_of (by decide +kernel),
       by decide +kernel⟩,
   ⟨nd (up.setFld .SYS_RUN_STATE_STATE 1), A_a9, sound_of (by decide +kernel), by decide +kernel⟩,
   ⟨nv (fun n => n) ((ad 4096 2147483648 8192 up).setFld .SYS_RUN_STATE_STATE 0), A_a9, (0 : Fin 2),
       sound_of (by decide +kernel), by decide +kernel⟩,
   ⟨nd (up.setFld .SYS_RUN_STATE_STATE 1), A_a9, (1 : Fin 2), sound_of (by decide +kernel), by decide +kernel⟩,
   ⟨nv (fun n => n) ((ad 4096 2147483648 8192 up).setFld .SYS_RUN_STATE_STATE 0), A_a9, (1 : Fin 2),
       sound_of (by decide +kernel), by decide +kernel⟩⟩

theorem test_meets_NvmCommands_3 :
    (∃ (s : State) (a : Agent) (k : Fin 2), s.Sound ∧ s.pwr.keeperUp = true ∧ s.flag .KEEP_STATUS_DUSK = false
        ∧ s.nvm.op = none ∧ slotState s k = 2)
    ∧ (∃ (s : State) (a : Agent) (k : Fin 2), s.Sound ∧ s.pwr.keeperUp = true ∧ s.flag .KEEP_STATUS_DUSK = false
        ∧ s.nvm.op = none ∧ slotState s k ≠ 2)
    ∧ (∃ (s : State) (a : Agent) (x : Byte), s.Sound ∧ s.pwr.keeperUp = true ∧ s.flag .KEEP_STATUS_DUSK = false)
    ∧ (∃ (s : State) (a : Agent) (x : Byte), s.Sound ∧ s.pwr.keeperUp = true ∧ s.flag .KEEP_STATUS_DUSK = false
        ∧ s.fld .SYS_RUN_STATE_STATE = 0 ∧ (x = 1#8 ∨ x = 2#8))
    ∧ (∃ (s : State) (a : Agent) (x : Byte), s.Sound ∧ s.pwr.keeperUp = true ∧ s.flag .KEEP_STATUS_DUSK = false
        ∧ (s.fld .SYS_RUN_STATE_STATE ≠ 0 ∨ (x ≠ 1#8 ∧ x ≠ 2#8)))
    ∧ (∃ (s : State) (a : Agent) (x : Byte), s.Sound ∧ s.pwr.keeperUp = true ∧ s.flag .KEEP_STATUS_DUSK = false
        ∧ s.nvm.op = none) :=
  ⟨⟨nv (fun n => n) ((ad 4096 2147483648 8192 up).setFld .SYS_RUN_STATE_STATE 0), A_a9, (0 : Fin 2),
      sound_of (by decide +kernel), by decide +kernel⟩,
   ⟨nd (up.setFld .SYS_RUN_STATE_STATE 1), A_a9, (1 : Fin 2), sound_of (by decide +kernel), by decide +kernel⟩,
   ⟨nd (up.setFld .SYS_RUN_STATE_STATE 1), A_a9, (1 : Byte), sound_of (by decide +kernel), by decide +kernel⟩,
   ⟨nv (fun n => { n with op := some (op1 1) }) (nd up), A_a9, (1 : Byte), sound_of (by decide +kernel),
       by decide +kernel⟩,
   ⟨nd (up.setFld .SYS_RUN_STATE_STATE 1), A_a9, (1 : Byte), sound_of (by decide +kernel), by decide +kernel⟩,
   ⟨nd (up.setFld .SYS_RUN_STATE_STATE 1), A_a9, (1 : Byte), sound_of (by decide +kernel), by decide +kernel⟩⟩

theorem test_meets_NvmCommands_4 :
    (∃ (s : State) (a : Agent) (x : Byte) (o : NvmOp), s.Sound ∧ s.pwr.keeperUp = true ∧ s.flag .KEEP_STATUS_DUSK = false
        ∧ s.nvm.op = some o) :=
  ⟨nv (fun n => { n with op := some (op1 1) }) (nd up), A_a9, (1 : Byte), op1 1, sound_of (by decide +kernel),
      by decide +kernel⟩

theorem test_meets_NvmEndsAndBoot :
    (∃ (s : State) (e : NvmEnd), s.nvm.op = none)
    ∧ (∃ (s : State) (o : NvmOp), s.Sound ∧ s.nvm.op = some o)
    ∧ (∃ (s : State) (o : NvmOp) (e : NvmEnd), s.Sound ∧ s.nvm.op = some o ∧ e ≠ .flashError ∧ o.op = 1
        ∧ poisoned s o.host o.len = [])
    ∧ (∃ (s : State) (o : NvmOp) (e : NvmEnd), s.Sound ∧ s.nvm.op = some o ∧ e ≠ .flashError ∧ o.op = 2 ∧ o.image = none
        ∧ poisoned s o.host o.len = [])
    ∧ (∃ (s : State) (o : NvmOp), s.Sound ∧ s.nvm.op = some o ∧ o.op = 3 ∧ o.arg < 2)
    ∧ (∃ (s : State) (o : NvmOp) (e : NvmEnd) (k : Nat), s.Sound ∧ (∀ x, curCopy s = some x → x.2 < o.arg)
        ∧ s.nvm.op = some o ∧ e ≠ .flashError ∧ o.op = 6 ∧ k < 2 ∧ o.flash = cfgBase k) :=
  ⟨⟨up, NvmEnd.good, by decide +kernel⟩,
   ⟨nv (fun n => { n with op := some (⟨1, 1, 4096, 0x80000000, 4096, none⟩ : NvmOp), cfg0 := some ⟨8⟩ }) (hm up), (⟨1, 1,
       4096, 0x80000000, 4096, none⟩ : NvmOp), sound_of (by decide +kernel), by decide +kernel⟩,
   ⟨nv (fun n => { n with op := some (⟨1, 1, 4096, 0x80000000, 4096, none⟩ : NvmOp), cfg0 := some ⟨8⟩ }) (hm up), (⟨1, 1,
       4096, 0x80000000, 4096, none⟩ : NvmOp), NvmEnd.good, sound_of (by decide +kernel), by decide +kernel⟩,
   ⟨nv (fun n => { n with op := some (⟨2, 1, 4096, 0x80000000, 4096, none⟩ : NvmOp), cfg0 := some ⟨8⟩ }) (hm up), (⟨2, 1,
       4096, 0x80000000, 4096, none⟩ : NvmOp), NvmEnd.good, sound_of (by decide +kernel), by decide +kernel⟩,
   ⟨nv (fun n => { n with op := some (⟨3, 1, 4294967296, 0x80000000, 4096, none⟩ : NvmOp), cfg0 := some ⟨8⟩ }) (hm up),
       (⟨3, 1, 4294967296, 0x80000000, 4096, none⟩ : NvmOp), sound_of (by decide +kernel), by decide +kernel⟩,
   ⟨nv (fun n => { n with op := some (⟨6, 9, cfgBase 1, 0x80000000, 4096, none⟩ : NvmOp), cfg0 := some ⟨8⟩ }) (hm up),
       (⟨6, 9, cfgBase 1, 0x80000000, 4096, none⟩ : NvmOp), NvmEnd.good, (1 : Nat), sound_of (by decide +kernel),
       all_some (by decide +kernel), by decide +kernel⟩⟩

theorem test_meets_NvmEndsAndBoot_2 :
    (∃ (s : State), s.Sound ∧ s.nvm.bootPend = false)
    ∧ (∃ (s : State), s.Sound ∧ s.nvm.bootPend = true)
    ∧ (∃ (s : State) (goodA : Bool) (goodB : Bool), s.Sound ∧ (s.pwr.appHeld = false ∨ s.pwr.stopped = true
        ∨ s.pwr.seq ≠ .up ∨ s.flag .KEEP_STATUS_ALIVE = false ∨ s.pwr.dusk.isSome = true))
    ∧ (∃ (s : State) (goodA : Bool) (goodB : Bool), s.Sound ∧ s.pwr.appHeld = true ∧ s.pwr.stopped = false
        ∧ s.pwr.seq = .up ∧ s.flag .KEEP_STATUS_ALIVE = true ∧ s.pwr.dusk = none ∧ s.flag .NVM_BOOT_SEL_RECOVERY = true)
    ∧ (∃ (s : State) (goodA : Bool) (goodB : Bool) (k : Fin 2), s.Sound ∧ s.pwr.appHeld = true ∧ s.pwr.stopped = false
        ∧ s.pwr.seq = .up ∧ s.flag .KEEP_STATUS_ALIVE = true ∧ s.pwr.dusk = none ∧ s.flag .NVM_BOOT_SEL_RECOVERY = false
        ∧ mustRevert s = false ∧ s.fld .NVM_BOOT_SEL_ACTIVE = k ∧ slotState s k = 2
        ∧ (if k = 0 then goodA else goodB) = true)
    ∧ (∃ (s : State) (goodA : Bool) (goodB : Bool) (k : Fin 2), s.Sound ∧ s.pwr.appHeld = true ∧ s.pwr.stopped = false
        ∧ s.pwr.seq = .up ∧ s.flag .KEEP_STATUS_ALIVE = true ∧ s.pwr.dusk = none ∧ s.flag .NVM_BOOT_SEL_RECOVERY = false
        ∧ mustRevert s = false ∧ s.fld .NVM_BOOT_SEL_ACTIVE = k ∧ (slotState s k ≠ 2
        ∨ (if k = 0 then goodA else goodB) = false) ∧ slotState s (1 - k.val) = 2
        ∧ (if k = 0 then goodB else goodA) = true) :=
  ⟨⟨up, sound_of (by decide +kernel), by decide +kernel⟩,
   ⟨nv (fun n => { n with bootPend := true }) up, sound_of (by decide +kernel), by decide +kernel⟩,
   ⟨up, true, true, sound_of (by decide +kernel), by decide +kernel⟩,
   ⟨nv (fun n => n) (bt 0 1 0 up), T1, T1, sound_of (by decide +kernel), by decide +kernel⟩,
   ⟨nv (fun n => n) (bt 0 0 0 up), T1, T1, (0 : Fin 2), sound_of (by decide +kernel), by decide +kernel⟩,
   ⟨nv (fun n => n) (bt 0 0 1 up), T1, T1, (1 : Fin 2), sound_of (by decide +kernel), by decide +kernel⟩⟩

theorem test_meets_NvmEndsAndBoot_3 :
    (∃ (s : State) (goodA : Bool) (goodB : Bool) (k : Fin 2), s.Sound ∧ s.pwr.appHeld = true ∧ s.pwr.stopped = false
        ∧ s.pwr.seq = .up ∧ s.flag .KEEP_STATUS_ALIVE = true ∧ s.pwr.dusk = none ∧ s.flag .NVM_BOOT_SEL_RECOVERY = false
        ∧ mustRevert s = false ∧ s.fld .NVM_BOOT_SEL_ACTIVE = k ∧ (slotState s k ≠ 2
        ∨ (if k = 0 then goodA else goodB) = false) ∧ (slotState s (1 - k.val) ≠ 2
        ∨ (if k = 0 then goodB else goodA) = false))
    ∧ (∃ (s : State) (goodA : Bool) (goodB : Bool) (k : Fin 2), s.Sound ∧ s.pwr.appHeld = true ∧ s.pwr.stopped = false
        ∧ s.pwr.seq = .up ∧ s.flag .KEEP_STATUS_ALIVE = true ∧ s.pwr.dusk = none ∧ s.flag .NVM_BOOT_SEL_RECOVERY = false
        ∧ mustRevert s = true ∧ s.fld .NVM_BOOT_SEL_ACTIVE = k ∧ slotState s (1 - k.val) = 2
        ∧ (if k = 0 then goodB else goodA) = true)
    ∧ (∃ (s : State) (l : List Byte) (good : Bool), s.Sound ∧ (s.nvm.recovery = false ∨ s.nvm.op.isSome = true
        ∨ imageLen l.length = false ∨ (slotState s 0 = 2 ∧ slotState s 1 = 2)))
    ∧ (∃ (s : State) (l : List Byte) (good : Bool) (k : Nat), s.Sound ∧ k < 2 ∧ s.nvm.recovery = true ∧ s.nvm.op = none
        ∧ imageLen l.length = true ∧ slotState s k ≠ 2 ∧ (∀ j < k, slotState s j = 2))
    ∧ (∃ (s : State) (e : Nat), s.Sound ∧ s.nvm.trialAt = some e ∧ (s.flag .NVM_BOOT_SEL_TRIAL = false
        ∨ s.fld .NVM_BOOT_SEL_TRIAL_S = 0 ∨ s.now < e + s.fld .NVM_BOOT_SEL_TRIAL_S * 1600000000
        ∨ s.flag .KEEP_STATUS_ALIVE = false ∨ resetBarred s = true ∨ resetMet 3 s = true))
    ∧ (∃ (s : State) (e : Nat), s.Sound ∧ s.nvm.trialAt = some e ∧ s.flag .NVM_BOOT_SEL_TRIAL = true
        ∧ s.fld .NVM_BOOT_SEL_TRIAL_S ≠ 0 ∧ e + s.fld .NVM_BOOT_SEL_TRIAL_S * 1600000000 ≤ s.now
        ∧ s.flag .KEEP_STATUS_ALIVE = true ∧ resetBarred s = false ∧ resetMet 3 s = false) :=
  ⟨⟨nv (fun n => n) (bt 0 0 1 up), F1, T1, (1 : Fin 2), sound_of (by decide +kernel), by decide +kernel⟩,
   ⟨nv (fun n => { n with slotB := 2, trialBoots := 1 }) (bt 1 0 0 up), T1, T1, (0 : Fin 2), sound_of (by decide +kernel),
       by decide +kernel⟩,
   ⟨up, [], true, sound_of (by decide +kernel), by decide +kernel⟩,
   ⟨nv (fun n => { n with recovery := true }) up, im, T1, (1 : Nat), sound_of (by decide +kernel), by decide +kernel⟩,
   ⟨nv (fun n => { n with trialAt := some 4999999999 }) ((((((nd up).setFld .PWR_STATUS_STEEP 0)).setFld .NVM_BOOT_SEL_TRIAL 1).setFld .NVM_BOOT_SEL_TRIAL_S 3)),
       4999999999, sound_of (by decide +kernel), by decide +kernel⟩,
   ⟨nv (fun n => { n with trialAt := some 5 }) ((((((nd up).setFld .PWR_STATUS_STEEP 0)).setFld .NVM_BOOT_SEL_TRIAL 1).setFld .NVM_BOOT_SEL_TRIAL_S 3)),
       5, sound_of (by decide +kernel), by decide +kernel⟩⟩

theorem test_meets_NvmEndsAndBoot_4 :
    (∃ (s : State) (e : Nat) (goodA : Bool) (goodB : Bool), s.Sound ∧ s.nvm.keeperFwAt = some e
        ∧ keeperChoice (fun k => if k = 0 then goodA else goodB) s = none)
    ∧ (∃ (s : State) (e : Nat) (goodA : Bool) (goodB : Bool) (k : Nat), s.Sound ∧ s.nvm.keeperFwAt = some e
        ∧ keeperChoice (fun k => if k = 0 then goodA else goodB) s = some k)
    ∧ (∃ (s : State) (e : Nat) (goodA : Bool) (goodB : Bool), s.Sound ∧ s.nvm.keeperFwAt = some e ∧ (s.now < e + 80000000
        ∨ keeperChoice (fun _ => true) s = none))
    ∧ (∃ (s : State) (e : Nat) (goodA : Bool) (goodB : Bool) (k : Nat), s.Sound ∧ s.nvm.keeperFwAt = some e
        ∧ e + 80000000 ≤ s.now ∧ keeperChoice (fun _ => true) s = some k ∧ slotState s (1 - k) = 2) :=
  ⟨⟨nv (fun n => let n : NvmSt := n; { n with keeperFwAt := some 5 }) up, 5, F1, T1, sound_of (by decide +kernel),
      by decide +kernel⟩,
   ⟨nv (fun n => let n : NvmSt := n; { n with keeperFwAt := some 5 }) up, 5, T1, T1, (0 : Nat),
       sound_of (by decide +kernel), by decide +kernel⟩,
   ⟨nv (fun n => let n : NvmSt := n; { n with keeperFwAt := some 4999999999 }) up, 4999999999, T1, T1,
       sound_of (by decide +kernel), by decide +kernel⟩,
   ⟨nv (fun n => let n : NvmSt := { n with slotB := 2 }; { n with keeperFwAt := some 5 }) up, 5, T1, T1, (0 : Nat),
       sound_of (by decide +kernel), by decide +kernel⟩⟩

theorem test_meets_WindowsAndLedgers :
    (∃ (s : State) (k : Fin 12), s.Sound ∧ s.now < s.sys.switchAt + nextBucket s k)
    ∧ (∃ (s : State) (k : Fin 12), s.Sound ∧ s.sys.switchAt + nextBucket s k ≤ s.now)
    ∧ (∃ (s : State), s.Sound ∧ (s.pwr.stopped = true ∨ s.flag .HLT_CFG_LEDGER_EN = false
        ∨ (s.now - s.sys.switchAt) / 1600000 ≤ s.hlt.chkAt))
    ∧ (∃ (s : State), s.Sound ∧ forwards s ∧ s.flag .HLT_CFG_LEDGER_EN = true
        ∧ s.hlt.chkAt < (s.now - s.sys.switchAt) / 1600000)
    ∧ (∃ (s : State), s.Sound ∧ (∀ e ∈ s.hlt.excused, s.now < e.2))
    ∧ (∃ (s : State) (e : Nat × Nat), s.Sound ∧ e ∈ s.hlt.excused ∧ e.2 ≤ s.now) :=
  ⟨⟨{ up with hlt := { up.hlt with wins := wn 3 3, bktAt := [(3, 5000000000)] } }, (3 : Fin 12),
      sound_of (by decide +kernel), by decide +kernel⟩,
   ⟨{ up with hlt := { up.hlt with wins := wn 0 3, bktAt := [(0, 700000)] } }, (0 : Fin 12), sound_of (by decide +kernel),
       by decide +kernel⟩,
   ⟨up.setFld .HLT_CFG_LEDGER_EN 0, sound_of (by decide +kernel), by decide +kernel⟩,
   ⟨le1 up, sound_of (by decide +kernel), by unfold forwards; decide +kernel, by decide +kernel⟩,
   ⟨up.setFld .HLT_CFG_LEDGER_EN 0, sound_of (by decide +kernel), by decide +kernel⟩,
   ⟨le1 up, ((4, 4999999999) : Nat × Nat), sound_of (by decide +kernel), by decide +kernel⟩⟩

theorem test_meets_WindowsAndLedgers_2 :
    (∃ (s : State) (a : Agent), s.Sound ∧ linked s) :=
  ⟨le1 up, A_a9, sound_of (by decide +kernel), by unfold linked; decide +kernel⟩

/-! ### Premises about what a step or a table holds -/

theorem test_meets_EveryCommandFrame : ∃ c s t, s.Sound ∧ exec c s = .next t :=
  ⟨.headlessEntryComplete, up, _, sound_of (by decide +kernel), rfl⟩

theorem test_meets_EveryStepKeepsSound : ∃ s t, s.Sound ∧ step s = .next t :=
  ⟨up, _, sound_of (by decide +kernel), rfl⟩

theorem test_meets_InterDieLink_clock : ∃ (s t : State) (d : Nat), s.Sound ∧ s.pending = [] ∧ step s = .next t ∧ d < 2 :=
  ⟨up, _, 1, sound_of (by decide +kernel), by decide +kernel, rfl, by decide⟩

theorem test_meets_CrossbarPlanes_return :
    ∃ (s t : State) (e : Nat × Nat), s.Sound ∧ s.pending = [] ∧ e ∈ s.xbar.back ∧ e.1 < 16 ∧ e.2 < (s.now + 1) / 4
      ∧ step s = .next t :=
  ⟨{ up with xbar := { up.xbar with back := [(3, 7)] } }, _, (3, 7), sound_of (by decide +kernel), by decide +kernel,
    by decide +kernel, by decide, by decide +kernel, rfl⟩

theorem test_meets_DozeAndWake_refused :
    ∃ (s : State) (p : Fin 256), s.Sound ∧ linked s ∧ noPort s p.val = false
      ∧ s.flag .LEAF_PORT_STATUS_DOZING p.val = false
      ∧ ((portOf s p.val).tx ≠ none ∨ (∃ c < 8, (queueOf s (leafQ p.val c)).units ≠ []) ∨ enqueueWaits s p.val = true) :=
  ⟨modP 5 (fun x => { x with tx := some ⟨0, 5, 5, none, {}, none, 1⟩ }) (portOn 5 up), 5, sound_of (by decide +kernel),
    by unfold linked; decide +kernel, by decide +kernel, by decide +kernel, .inl (by decide +kernel)⟩

theorem test_meets_LeafFrames_bad :
    ∃ (s : State) (p : Fin 256) (f : RxFrame) (c : RxBad), s.Sound ∧ forwards s ∧ s.pwr.dusk = none
        ∧ portUp s p.val = true
      ∧ (portOf s p.val).uncorr = [] ∧ (portOf s p.val).rx = none ∧ f.more = false ∧ rxFull s p.val = false
      ∧ macCheck s p.val f = some c :=
  ⟨portOn 5 up, 5, ⟨eth.data.take 63, false, 0, false⟩, .runt, sound_of (by decide +kernel),
    by unfold forwards; decide +kernel, by decide +kernel⟩

theorem test_meets_IndexedTableWrites_turn :
    ∃ (s : State) (r : Fin 32) (u : RUnit) (ds : List (List Byte)) (c : Instr),
      c ∈ [Instr.ruleKey r, .ruleMask r, .ruleAction r] ∧ ringHead s (128 + r.val) = some (u, ds)
      ∧ hasTurn s r.val u ds = false :=
  ⟨putOp 3 (ents 0x10 0 77 [1]) (putOp 1 (ents 0x10 0 77 [1]) up), 3, unitOf (ents 0x10 0 77 [1]), ents 0x10 0 77 [1],
    .ruleKey 3, by decide, by decide +kernel⟩

end Sys2Proof.Tests
end

section
/-!
SUPPORT. Offsets of the aperture and what stands at them (R371 to R374): the element of a register or a counter is found at
its offset, no two registers share an offset, and no register lies at a word of a counter.
-/
namespace Sys2Proof

/-! ### Elements of arrays and their offsets -/

/-- An offset that `locate` finds is that of the element. -/
theorem locate_some {b s1 n1 s2 n2 off i j : Nat} (h : locate b s1 n1 s2 n2 off = some (i, j)) :
    i < n1 ∧ j < n2 ∧ b + s1 * i + s2 * j = off := by
  unfold locate at h
  split at h
  · cases h
  · simp only [Option.ite_none_right_eq_some, Option.some.injEq, Prod.mk.injEq] at h
    obtain ⟨⟨hi, hj, hd⟩, rfl, rfl⟩ := h
    exact ⟨hi, hj, by omega⟩

/-- The rows of an array do not overlap, and a dimension without a stride has one element. -/
def regular (s1 n1 s2 n2 : Nat) : Bool :=
  (s1 == 0 && n1 == 1 || decide (s2 * (n2 - 1) < s1)) && (decide (0 < s2) || n2 == 1)

/-- In a regular array `locate` finds every element at its offset. -/
theorem locate_element {b s1 n1 s2 n2 i j : Nat} (h : regular s1 n1 s2 n2 = true) (hi : i < n1) (hj : j < n2) :
    locate b s1 n1 s2 n2 (b + s1 * i + s2 * j) = some (i, j) := by
  simp only [regular, Bool.and_eq_true, Bool.or_eq_true, beq_iff_eq, decide_eq_true_eq] at h
  obtain ⟨h1, h2⟩ := h
  have hle : s2 * j ≤ s2 * (n2 - 1) := Nat.mul_le_mul_left _ (by omega)
  have hrow : (if s1 = 0 then 0 else (s1 * i + s2 * j) / s1) = i := by
    split
    · omega
    · rw [Nat.mul_add_div (by omega), Nat.div_eq_of_lt (by omega), Nat.add_zero]
  have hcol : (if s2 = 0 then 0 else s2 * j / s2) = j := by
    split
    · omega
    · exact Nat.mul_div_cancel_left _ (by omega)
  have hd : b + s1 * i + s2 * j - b = s1 * i + s2 * j := by omega
  unfold locate
  simp only [hd, hrow, Nat.add_sub_cancel_left, hcol]
  rw [if_neg (by omega), if_pos ⟨hi, hj, trivial⟩]

theorem Reg.locate_some {r : Reg} {off i j : Nat} (h : r.locate off = some (i, j)) :
    i < r.n1 ∧ j < r.n2 ∧ r.off i j = off := by
  obtain ⟨hi, hj, he⟩ := Sys2Proof.locate_some h
  exact ⟨hi, hj, by rw [Reg.off, Nat.mod_eq_of_lt hi, Nat.mod_eq_of_lt hj, he]⟩

theorem Cnt.locate_some {c : Cnt} {off i j : Nat} (h : c.locate off = some (i, j)) :
    i < c.n1 ∧ j < c.n2 ∧ c.off i j = off := by
  obtain ⟨hi, hj, he⟩ := Sys2Proof.locate_some h
  exact ⟨hi, hj, by rw [Cnt.off, Nat.mod_eq_of_lt hi, Nat.mod_eq_of_lt hj, he]⟩

theorem findReg_some {off : Nat} {r : Reg} {i j : Nat} (h : findReg off = some (r, i, j)) :
    r ∈ Reg.all ∧ i < r.n1 ∧ j < r.n2 ∧ r.off i j = off := by
  obtain ⟨q, hq, e⟩ := List.exists_of_findSome?_eq_some h
  obtain ⟨p, hp, e⟩ := Option.map_eq_some_iff.mp e
  cases e
  exact ⟨hq, Reg.locate_some hp⟩

theorem findCnt_some {off : Nat} {c : Cnt} {i j : Nat} (h : findCnt off = some (c, i, j)) :
    c ∈ Cnt.all ∧ i < c.n1 ∧ j < c.n2 ∧ c.off i j = off := by
  obtain ⟨q, hq, e⟩ := List.exists_of_findSome?_eq_some h
  obtain ⟨p, hp, e⟩ := Option.map_eq_some_iff.mp e
  cases e
  exact ⟨hq, Cnt.locate_some hp⟩

/-! ### The map of R371 to R374 as a whole -/

/-- The offset of the last element of an array. -/
def lastOf (b s1 n1 s2 n2 : Nat) : Nat := b + s1 * (n1 - 1) + s2 * (n2 - 1)

theorem off_le_last {b s1 n1 s2 n2 i j : Nat} (hi : i < n1) (hj : j < n2) :
    b + s1 * (i % n1) + s2 * (j % n2) ≤ lastOf b s1 n1 s2 n2 := by
  rw [Nat.mod_eq_of_lt hi, Nat.mod_eq_of_lt hj]
  have h1 : s1 * i ≤ s1 * (n1 - 1) := Nat.mul_le_mul_left _ (by omega)
  have h2 : s2 * j ≤ s2 * (n2 - 1) := Nat.mul_le_mul_left _ (by omega)
  unfold lastOf
  omega

/-- The greatest common stride of two registers. -/
def commonStride (r q : Reg) : Nat := Nat.gcd (Nat.gcd r.s1 r.s2) (Nat.gcd q.s1 q.s2)

/-- Two registers of the map share no offset: they lie in separate ranges or parts of one stride, or, as the four words of a
shaper, their bases differ within the common stride. -/
def regsDiffer (r q : Reg) : Bool :=
  Nat.ble (lastOf r.base r.s1 r.n1 r.s2 r.n2 + 1) q.base || Nat.ble (lastOf q.base q.s1 q.n1 q.s2 q.n2 + 1) r.base
    || Machine.regApart r q || r.base % commonStride r q != q.base % commonStride r q

/-- A register shares no offset with the words of a counter. -/
def wordsDiffer (r : Reg) (c : Cnt) : Bool :=
  Nat.ble (lastOf r.base r.s1 r.n1 r.s2 r.n2 + 1) c.base || Nat.ble (lastOf c.base c.s1 c.n1 c.s2 c.n2 + 5) r.base
    || (Machine.apart r.base r.s1 r.n1 r.s2 r.n2 c.base c.s1 c.n1 c.s2 c.n2
      && Machine.apart r.base r.s1 r.n1 r.s2 r.n2 (c.base + 4) c.s1 c.n1 c.s2 c.n2)

theorem regs_regular : ∀ r ∈ Reg.all, regular r.s1 r.n1 r.s2 r.n2 = true := by decide +kernel
theorem regs_differ : Reg.all.Pairwise (fun r q => regsDiffer r q = true) := by decide +kernel
theorem regs_differ_cnts : (Reg.all.all fun r => Cnt.all.all fun c => wordsDiffer r c) = true := by decide +kernel

theorem Reg.off_mod {r : Reg} {g : Nat} (h1 : g ∣ r.s1) (h2 : g ∣ r.s2) (i j : Nat) : r.off i j % g = r.base % g := by
  obtain ⟨a, ha⟩ := h1
  obtain ⟨b, hb⟩ := h2
  rw [Reg.off, ha, hb, Nat.mul_assoc, Nat.mul_assoc, Nat.add_mul_mod_self_left, Nat.add_mul_mod_self_left]

theorem off_ne_of_regsDiffer {r q : Reg} (h : regsDiffer r q = true) {i j k l : Nat} (hi : i < r.n1) (hj : j < r.n2)
    (hk : k < q.n1) (hl : l < q.n2) : r.off i j ≠ q.off k l := by
  have hr : r.off i j ≤ _ := off_le_last hi hj
  have hq : q.off k l ≤ _ := off_le_last hk hl
  have br : r.base ≤ r.off i j := by unfold Reg.off; omega
  have bq : q.base ≤ q.off k l := by unfold Reg.off; omega
  simp only [regsDiffer, Bool.or_eq_true, Nat.ble_eq, bne_iff_ne] at h
  rcases h with ((h | h) | h) | h
  · omega
  · omega
  · exact Machine.regOff_ne h i j k l
  · intro e
    have mr : r.off i j % commonStride r q = r.base % commonStride r q :=
      Reg.off_mod ((Nat.gcd_dvd_left _ _).trans (Nat.gcd_dvd_left _ _))
        ((Nat.gcd_dvd_left _ _).trans (Nat.gcd_dvd_right _ _)) i j
    have mq : q.off k l % commonStride r q = q.base % commonStride r q :=
      Reg.off_mod ((Nat.gcd_dvd_right _ _).trans (Nat.gcd_dvd_left _ _))
        ((Nat.gcd_dvd_right _ _).trans (Nat.gcd_dvd_right _ _)) k l
    exact h (by rw [← mr, ← mq, e])

/-- An element of a register lies at neither word of a counter's element. -/
theorem off_ne_words {r : Reg} (hr : r ∈ Reg.all) {c : Cnt} (hc : c ∈ Cnt.all) {i j k l : Nat} (hi : i < r.n1)
    (hj : j < r.n2) (hk : k < c.n1) (hl : l < c.n2) : r.off i j ≠ c.off k l ∧ r.off i j ≠ c.off k l + 4 := by
  have h := List.all_eq_true.mp (List.all_eq_true.mp regs_differ_cnts r hr) c hc
  have hr : r.off i j ≤ _ := off_le_last hi hj
  have hc : c.off k l ≤ _ := off_le_last hk hl
  have br : r.base ≤ r.off i j := by unfold Reg.off; omega
  have bc : c.base ≤ c.off k l := by unfold Cnt.off; omega
  simp only [wordsDiffer, Bool.or_eq_true, Bool.and_eq_true, Nat.ble_eq] at h
  rcases h with (h | h) | ⟨low, high⟩
  · omega
  · omega
  · have e1 := Machine.apart_ne low (by omega) (by omega) (by omega) (by omega) i j k l
    have e2 := Machine.apart_ne high (by omega) (by omega) (by omega) (by omega) i j k l
    unfold Reg.off Cnt.off
    omega

theorem Reg.locate_off {r : Reg} (hr : r ∈ Reg.all) {i j : Nat} (hi : i < r.n1) (hj : j < r.n2) :
    r.locate (r.off i j) = some (i, j) := by
  rw [Reg.off, Nat.mod_eq_of_lt hi, Nat.mod_eq_of_lt hj]
  exact locate_element (regs_regular r hr) hi hj

theorem Reg.locate_off_of_differ {r q : Reg} (h : regsDiffer q r = true) {i j : Nat} (hi : i < r.n1) (hj : j < r.n2) :
    q.locate (r.off i j) = none := by
  rcases e : q.locate (r.off i j) with _ | ⟨k, l⟩
  · rfl
  · obtain ⟨hk, hl, he⟩ := Reg.locate_some e
    exact absurd he (off_ne_of_regsDiffer h hk hl hi hj)

/-- In a list of registers that share no offset, the register of an element is found at its offset. -/
theorem findSome_locate_off {r : Reg} (hr : r ∈ Reg.all) {i j : Nat} (hi : i < r.n1) (hj : j < r.n2) {l : List Reg}
    (hl : r ∈ l) (hd : l.Pairwise (fun r q => regsDiffer r q = true)) :
    l.findSome? (fun q => (q.locate (r.off i j)).map (fun p => (q, p))) = some (r, i, j) := by
  induction l with
  | nil => cases hl
  | cons q l ih =>
    obtain ⟨hq, hd⟩ := List.pairwise_cons.mp hd
    rcases List.mem_cons.mp hl with rfl | hl
    · simp [Reg.locate_off hr hi hj]
    · rw [List.findSome?_cons, Reg.locate_off_of_differ (hq r hl) hi hj]
      exact ih hl hd

/-- The register of an element is found at its offset (R372). -/
theorem findReg_off {r : Reg} (hr : r ∈ Reg.all) {i j : Nat} (hi : i < r.n1) (hj : j < r.n2) :
    findReg (r.off i j) = some (r, i, j) := findSome_locate_off hr hi hj hr regs_differ

/-- No counter has its low word at the offset of a register. -/
theorem findCnt_off {r : Reg} (hr : r ∈ Reg.all) {i j : Nat} (hi : i < r.n1) (hj : j < r.n2) :
    findCnt (r.off i j) = none := by
  rcases e : findCnt (r.off i j) with _ | ⟨c, k, l⟩
  · rfl
  · obtain ⟨hc, hk, hl, he⟩ := findCnt_some e
    exact absurd he.symm (off_ne_words hr hc hi hj hk hl).1

/-- No counter has its high word at the offset of a register. -/
theorem findCntHi_off {r : Reg} (hr : r ∈ Reg.all) {i j : Nat} (hi : i < r.n1) (hj : j < r.n2) :
    findCntHi (r.off i j) = none := by
  unfold findCntHi
  split
  · rfl
  · rcases e : findCnt (r.off i j - 4) with _ | ⟨c, k, l⟩
    · rfl
    · obtain ⟨hc, hk, hl, he⟩ := findCnt_some e
      exact absurd (by omega) (off_ne_words hr hc hi hj hk hl).2

namespace Machine

/-- The offset of a register's element is fused off where the element is. -/
theorem fusedOff_off {r : Reg} (hr : r ∈ Reg.all) {i j : Nat} (hi : i < r.n1) (hj : j < r.n2) (s : State) :
    fusedOff s (r.off i j) = fusedReg s r i j := by
  unfold fusedOff fusedReg
  rw [findReg_off hr hi hj, findCnt_off hr hi hj, findCntHi_off hr hi hj]
  simp

theorem fusedReg_of_find {s : State} {off : Nat} {r : Reg} {i j : Nat} (h : findReg off = some (r, i, j)) :
    fusedOff s off = fusedReg s r i j := by
  obtain ⟨hr, hi, hj, rfl⟩ := findReg_some h
  exact fusedOff_off hr hi hj s

end Machine
end Sys2Proof
end

section
/-!
SUPPORT. Transfers on the link that a command makes before it acts, and frames of more operations.
-/
namespace Sys2Proof.Machine

/-! ### Transfers on the link change nothing that a command reads -/

/-- s' is s after transfers have been put on the inter-die link. -/
structure Sends (s s' : State) : Prop where
  sound : s'.Sound
  vcs : ∃ m, s' = { s with ctl := { s.ctl with vcs := m } }

theorem Sends.refl {s : State} (h : s.Sound) : Sends s s := ⟨h, s.ctl.vcs, rfl⟩

theorem Sends.send {s s' : State} (h : Sends s s') (v d n room : Nat) : Sends s (idlSend v d n room s') := by
  obtain ⟨hs, m, rfl⟩ := h
  obtain ⟨m', e⟩ := idlSend_eq v d n room { s with ctl := { s.ctl with vcs := m } }
  exact ⟨sound_idlSend _ _ _ _ _ hs, m', e⟩

section
variable {s s' : State} (h : Sends s s')
include h

theorem Sends.regs : s'.regs = s.regs := by obtain ⟨-, m, rfl⟩ := h; rfl
theorem Sends.cnts : s'.cnts = s.cnts := by obtain ⟨-, m, rfl⟩ := h; rfl
theorem Sends.hold : s'.hold = s.hold := by obtain ⟨-, m, rfl⟩ := h; rfl
theorem Sends.pairs : s'.pairs = s.pairs := by obtain ⟨-, m, rfl⟩ := h; rfl
theorem Sends.out : s'.out = s.out := by obtain ⟨-, m, rfl⟩ := h; rfl
theorem Sends.sys : s'.sys = s.sys := by obtain ⟨-, m, rfl⟩ := h; rfl
theorem Sends.pending : s'.pending = s.pending := by obtain ⟨-, m, rfl⟩ := h; rfl

theorem Sends.flag (f : Fld) (i j : Nat) : s'.flag f i j = s.flag f i j := flag_congr h.regs f i j

theorem Sends.keeps_linked (hl : linked s) : linked s' := (h.flag _ 0 0).trans hl

theorem Sends.fusedOff (off : Nat) : fusedOff s' off = fusedOff s off := by unfold Machine.fusedOff; rw [h.sys]

end

/-- A frame that names the control die takes in the transfers before it. -/
theorem Sends.only {s s' t : State} (h : Sends s s') {aa : List Area} {oo cc : List Nat} (ho : s'.Only t aa oo cc)
    (hc : Area.ctl ∈ aa) : s.Only t aa oo cc := by
  obtain ⟨-, m, rfl⟩ := h
  refine ⟨fun a ha => ?_, ho.regs, ho.cnts, ho.tot⟩
  have := ho.area a ha
  cases a with
  | ctl => exact absurd hc ha
  | _ => exact this

/-! ### Fields of one register -/

/-- Two fields of one register that share no bit. -/
abbrev sideBySide (f g : Fld) : Prop := f.lo ≤ f.hi ∧ f.hi < 32 ∧ g.reg = f.reg ∧ (g.hi < f.lo ∨ f.hi < g.lo)

theorem flag_setFld_beside {s : State} (hs : SMap.sorted s.regs = true) {f g : Fld} (h : sideBySide f g) (v i j : Nat) :
    (s.setFld f v i j).flag g i j = s.flag g i j := by
  obtain ⟨h1, h2, hr, hg⟩ := h
  exact flag_setFld_ne hs h1 h2 hr hg v i j

/-! ### Frames of more operations -/

theorem State.Only.emit {s t : State} {aa : List Area} {oo cc : List Nat} (h : s.Only t aa oo cc) (e : OutEv) :
    s.Only (t.emit e) (.out :: aa) oo cc := by
  refine ⟨fun a ha => ?_, h.regs, h.cnts, h.tot⟩
  have := h.area a (fun hm => ha (List.mem_cons_of_mem _ hm))
  cases a with
  | out => exact absurd List.mem_cons_self ha
  | _ => exact this

theorem Sofar.emit {s0 s : State} {aa : List Area} {oo cc : List Nat} (h : Sofar s0 s aa oo cc) (ho : Area.out ∈ aa)
    (e : OutEv) : Sofar s0 (s.emit e) aa oo cc := by
  refine h.areas rfl rfl rfl (fun a ha => ?_)
  cases a <;> trivial

theorem Sofar.capture {s0 s : State} {aa : List Area} {oo cc : List Nat} (h : Sofar s0 s aa oo cc) (hp : Area.pairs ∈ aa)
    (a : Agent) (off v : Nat) : Sofar s0 (capture a off v s) aa oo cc := by
  refine h.areas rfl rfl rfl (fun a ha => ?_)
  cases a <;> trivial

theorem Sofar.noteTaken {s0 s : State} {aa : List Area} {oo cc : List Nat} (h : Sofar s0 s aa oo cc) (hp : Area.sys ∈ aa)
    (w : RegWrite) (old : Word) : Sofar s0 (noteTaken w old s) aa oo cc := by
  refine h.areas rfl rfl rfl (fun a ha => ?_)
  cases a <;> trivial

theorem Sofar.setShad {s0 s : State} {aa : List Area} {oo cc : List Nat} (h : Sofar s0 s aa oo cc) (hp : Area.shadow ∈ aa)
    (r : Reg) (w : Word) (i j : Nat) : Sofar s0 (s.setShad r w i j) aa oo cc := by
  refine h.areas rfl rfl rfl (fun a ha => ?_)
  cases a <;> trivial

/-- The control die beside its registers. -/
theorem Sofar.setCtl {s0 s : State} {aa : List Area} {oo cc : List Nat} (h : Sofar s0 s aa oo cc) (hc : Area.ctl ∈ aa)
    (x : CtlSt) : Sofar s0 { s with ctl := x } aa oo cc := by
  refine h.areas rfl rfl rfl (fun a ha => ?_)
  cases a <;> trivial

end Sys2Proof.Machine
end

section
/-!
SUPPORT. The doze commands of a port (R55): the path of a write of LEAF_DOZE_CTRL, and what a port loses when its
light goes out.
-/
namespace Sys2Proof.Machine

/-! ### Writes of LEAF_DOZE_CTRL -/

theorem dozeCtrl_mem : Reg.LEAF_DOZE_CTRL ∈ Reg.all := by decide +kernel

@[simp] theorem write32_off (a : Agent) (r : Reg) (v i j : Nat) : (write32 a r v i j).off = r.off i j := by rw [write32]

/-- LEAF_DOZE_CTRL of a port is there where the port is. -/
theorem fusedOff_dozeCtrl (s : State) (a : Agent) (v : Nat) (p : Fin 256) :
    fusedOff s (write32 a .LEAF_DOZE_CTRL v p.val).off = noPort s p.val := by
  have h : fusedIdx .LEAF_DOZE_CTRL p.val 0 = decide (128 ≤ p.val) := by revert p; decide +kernel
  rw [write32_off, fusedOff_off dozeCtrl_mem p.isLt (by decide), fusedReg, h, noPort]

theorem dozeCtrl_doze (a : Agent) (p : Nat) (s : State) : dozeCtrl (write32 a .LEAF_DOZE_CTRL 1 p) p s = doze p s := by
  simp [dozeCtrl, write32]

theorem dozeCtrl_wake (a : Agent) (p : Nat) (s : State) : dozeCtrl (write32 a .LEAF_DOZE_CTRL 2 p) p s = wake p s := by
  simp [dozeCtrl, write32]

/-- A doze command for a port of the part, with the link trained (R55). -/
theorem exec_doze {s : State} (h : s.Sound) (hl : linked s) (a : Agent) {p : Fin 256} (hp : noPort s p.val = false) :
    ∃ s', Sends s s' ∧ exec (.doze a p) s = .next (doze p.val s') := by
  refine ⟨_, (Sends.refl h).send 0 0 1 0, ?_⟩
  unfold exec execDoze
  dsimp only
  rw [far_linked hl ((fusedOff_dozeCtrl s a _ p).trans hp), dozeCtrl_doze]

/-- A wake command for a port of the part, with the link trained (R57). -/
theorem exec_wake {s : State} (h : s.Sound) (hl : linked s) (a : Agent) {p : Fin 256} (hp : noPort s p.val = false) :
    ∃ s', Sends s s' ∧ exec (.wake a p) s = .next (wake p.val s') := by
  refine ⟨_, (Sends.refl h).send 0 0 1 0, ?_⟩
  unfold exec execWake
  dsimp only
  rw [far_linked hl ((fusedOff_dozeCtrl s a _ p).trans hp), dozeCtrl_wake]

theorem far_fused {w : RegWrite} {s : State} (h : fusedOff s w.off = true) (op : State → State) : far w op s = s :=
  if_pos h

/-- A doze or wake command for a port that an LZ-S1024 lacks is ignored (R4). -/
theorem exec_doze_wake_noPort {s : State} {p : Fin 256} (hp : noPort s p.val = true) (a : Agent) :
    exec (.doze a p) s = .next s ∧ exec (.wake a p) s = .next s := by
  have hf (v : Nat) := (fusedOff_dozeCtrl s a v p).trans hp
  unfold exec execDoze execWake
  dsimp only
  rw [far_fused (hf 1), far_fused (hf 2)]
  exact ⟨rfl, rfl⟩

/-! ### What link loss leaves of a port -/

theorem stallSync_port {s : State} (h : s.Sound) (p : Nat) :
    (stallSync p s).regs = s.regs ∧ ∃ st, portOf (stallSync p s) p = { portOf s p with stall := st } := by
  unfold stallSync
  dsimp only
  split
  · exact ⟨rfl, _, rfl⟩
  · exact ⟨rfl, _, portOf_setPort h.leaf.ports p _⟩

/-- The end of a pause leaves the rest of the port alone, and its status. -/
theorem endPause_port {s : State} (h : s.Sound) (p : Nat) :
    (portOf (endPause p s) p).paused = [] ∧ (portOf (endPause p s) p).ready = (portOf s p).ready
      ∧ portUp (endPause p s) p = portUp s p := by
  unfold endPause showPause
  dsimp only
  generalize BitVec.ofNat 32 _ = w
  have h1 : (setPort p { portOf s p with paused := [], pend := [], stall := [] } s).Sound := sound_setPort _ _ _ h
  obtain ⟨hr, st, hp⟩ := stallSync_port (sound_State_setReg _ .LEAF_PAUSE_STATUS w p 0 h1) p
  have hp' := portOf_setPort h.leaf.ports p { portOf s p with paused := [], pend := [], stall := [] }
  rw [portOf_congr (setReg_leaf _ _ _ _ _), hp'] at hp
  refine ⟨by rw [hp], by rw [hp], ?_⟩
  exact (flag_congr hr _ _ _).trans (flag_setReg_apart h1.regs (by decide) w p 0 p 0)

theorem loseLink_port {s : State} (h : s.Sound) (p : Nat) :
    (portOf (loseLink p s) p).ready = none ∧ portUp (loseLink p s) p = false := by
  refine ⟨congrArg PortSt.ready (portOf_setPort h.leaf.ports p _), ?_⟩
  exact flag_setFld (f := .LEAF_PORT_STATUS_LINK_UP) h.regs (by decide) (by decide) 0 p 0

/-- The light of a port goes out: reception is cut, the link, the pauses and the alignment are lost (R55). -/
def lightsOut (p : Nat) (s : State) : State := dropLanes p (endPause p (loseLink p (cutRx p none s)))

theorem sound_lightsOut {s : State} (h : s.Sound) (p : Nat) : (lightsOut p s).Sound :=
  sound_dropLanes _ _ (sound_endPause _ _ (sound_loseLink _ _ (sound_cutRx _ _ _ h)))

theorem lightsOut_port {s : State} (h : s.Sound) (p : Nat) :
    (portOf (lightsOut p s) p).paused = [] ∧ (portOf (lightsOut p s) p).ready = none ∧ portUp (lightsOut p s) p = false := by
  have hc : (cutRx p none s).Sound := sound_cutRx _ _ _ h
  obtain ⟨hr, hu⟩ := loseLink_port hc p
  obtain ⟨ep, er, eu⟩ := endPause_port (sound_loseLink p _ hc) p
  exact ⟨ep, er.trans hr, eu.trans hu⟩

/-! ### Doze (R55) -/

/-- The test of R55: the port transmits nothing, holds no frame, and none arrives in this core clock. -/
def dozeIdle (p : Nat) (s : State) : Bool :=
  (portOf s p).tx.isNone && (List.range 8).all (fun c => (queueOf s (leafQ p c)).units.isEmpty) && !enqueueWaits s p

theorem dozeIdle_iff {p : Nat} {s : State} : dozeIdle p s = true ↔
    (portOf s p).tx = none ∧ (∀ c < 8, (queueOf s (leafQ p c)).units = []) ∧ enqueueWaits s p = false := by
  simp [dozeIdle, and_assoc]

/-- The status of a port that dozes. -/
def showDoze (p : Nat) (s : State) : State :=
  ((s.setFld .LEAF_PORT_STATUS_FROZEN 0 p).setFld .LEAF_PORT_STATUS_WAKING 0 p).setFld .LEAF_PORT_STATUS_DOZING 1 p

/-- A port in doze: no hold and no wake pattern of it stays. -/
def dozed (p : Nat) (s : State) : State :=
  showDoze p (setPort p { portOf s p with holdTill := none, wakeAt := none } s)

/-- What a doze command does with a port that does not doze. -/
theorem doze_awake {p : Nat} {s : State} (h : s.flag .LEAF_PORT_STATUS_DOZING p = false) :
    doze p s = if dozeIdle p s then dozed p (lightsOut p s) else s.setFld .LEAF_PORT_STATUS_DOZE_REFUSED 1 p := by
  unfold doze dozeIdle dozed showDoze lightsOut
  rw [h, if_neg Bool.false_ne_true]

end Sys2Proof.Machine
end

section
/-!
SUPPORT. What a doze command, a wake command and a wake pattern leave of a port (R55 to R57).
-/
namespace Sys2Proof.Machine

theorem showDoze_flags {s : State} (h1 : s.regs.sorted = true) (p : Nat) :
    (showDoze p s).flag .LEAF_PORT_STATUS_DOZING p = true ∧ (showDoze p s).flag .LEAF_PORT_STATUS_FROZEN p = false
      ∧ (showDoze p s).flag .LEAF_PORT_STATUS_WAKING p = false ∧ portUp (showDoze p s) p = portUp s p := by
  unfold showDoze portUp
  have h2 := sorted_setFld h1 .LEAF_PORT_STATUS_FROZEN 0 p 0
  have h3 := sorted_setFld h2 .LEAF_PORT_STATUS_WAKING 0 p 0
  refine ⟨flag_setFld h3 (by decide) (by decide) 1 p 0, ?_, ?_, ?_⟩
  · rw [flag_setFld_beside h3 (by decide), flag_setFld_beside h2 (by decide)]
    exact flag_setFld h1 (by decide) (by decide) 0 p 0
  · rw [flag_setFld_beside h3 (by decide)]
    exact flag_setFld h2 (by decide) (by decide) 0 p 0
  · rw [flag_setFld_beside h3 (by decide), flag_setFld_beside h2 (by decide),
      flag_setFld_beside h1 (by decide)]

theorem portOf_dozed {s : State} (h : s.Sound) (p : Nat) :
    portOf (dozed p s) p = { portOf s p with holdTill := none, wakeAt := none } := portOf_setPort h.leaf.ports p _

/-- A doze command that an idle port accepts. -/
theorem doze_of_idle {s : State} (h : s.Sound) {p : Nat} (hd : s.flag .LEAF_PORT_STATUS_DOZING p = false)
    (hi : dozeIdle p s = true) :
    (doze p s).flag .LEAF_PORT_STATUS_DOZING p = true ∧ portUp (doze p s) p = false
      ∧ (doze p s).flag .LEAF_PORT_STATUS_FROZEN p = false ∧ (doze p s).flag .LEAF_PORT_STATUS_WAKING p = false
      ∧ (portOf (doze p s) p).holdTill = none ∧ (portOf (doze p s) p).wakeAt = none ∧ (portOf (doze p s) p).ready = none
      ∧ (portOf (doze p s) p).paused = [] := by
  rw [doze_awake hd, if_pos hi]
  obtain ⟨hp, hr, hu⟩ := lightsOut_port h p
  have h' := sound_lightsOut h p
  obtain ⟨d, f, w, u⟩ := showDoze_flags (s := setPort p _ (lightsOut p s)) h'.regs p
  rw [portOf_dozed h']
  exact ⟨d, u.trans hu, f, w, rfl, rfl, hr, hp⟩

/-- A doze command that a busy port refuses. -/
theorem doze_of_busy {s : State} (h : s.Sound) {p : Nat} (hd : s.flag .LEAF_PORT_STATUS_DOZING p = false)
    (hi : dozeIdle p s = false) :
    (doze p s).flag .LEAF_PORT_STATUS_DOZE_REFUSED p = true ∧ portUp (doze p s) p = portUp s p
      ∧ s.Only (doze p s) [.ctl] [Reg.off .LEAF_PORT_STATUS p] [] := by
  rw [doze_awake hd, if_neg (by rw [hi]; exact Bool.false_ne_true)]
  exact ⟨flag_setFld h.regs (by decide) (by decide) 1 p 0,
    flag_setFld_beside (f := .LEAF_PORT_STATUS_DOZE_REFUSED) (g := .LEAF_PORT_STATUS_LINK_UP) h.regs (by decide) 1 p 0,
    ((Sofar.start h _ _ _).setFld .LEAF_PORT_STATUS_DOZE_REFUSED 1 p 0 (List.mem_singleton.mpr rfl)).only⟩

/-! ### Wake (R57) -/

/-- A wake command of a dozing port that sends no wake pattern yet. -/
theorem wake_of_dozing {s : State} (h : s.Sound) {p : Nat} (hd : s.flag .LEAF_PORT_STATUS_DOZING p = true)
    (hw : (portOf s p).wakeAt = none) :
    (wake p s).cnt .LEAF_WAKE_CNT p = s.cnt .LEAF_WAKE_CNT p + 1#64
      ∧ (wake p s).flag .LEAF_PORT_STATUS_WAKING p = true ∧ (portOf (wake p s) p).wakeAt = some s.now
      ∧ (wake p s).flag .LEAF_PORT_STATUS_DOZING p = true
      ∧ (wake p s).out = .wake p (s.reg64 .LEAF_WAKE_PAT_LO .LEAF_WAKE_PAT_HI p) :: s.out
      ∧ s.Only (wake p s) [.leaf, .out, .ctl] [Reg.off .LEAF_PORT_STATUS p] [Cnt.off .LEAF_WAKE_CNT p] := by
  have e : wake p s = let u := (s.count .LEAF_WAKE_CNT p).setFld .LEAF_PORT_STATUS_WAKING 1 p
      let u := setPort p { portOf u p with wakeAt := some u.now } u
      u.emit (.wake p (u.reg64 .LEAF_WAKE_PAT_LO .LEAF_WAKE_PAT_HI p)) := by
    unfold wake
    rw [hd, hw]
    rfl
  rw [e]
  have hr : (s.count .LEAF_WAKE_CNT p).regs.sorted = true := h.regs
  refine ⟨cnt_count h.cnts .LEAF_WAKE_CNT p 0 1, flag_setFld hr (by decide) (by decide) 1 p 0, ?_, ?_, ?_, ?_⟩
  · exact congrArg PortSt.wakeAt (portOf_setPort h.leaf.ports p _)
  · exact (flag_setFld_beside (f := .LEAF_PORT_STATUS_WAKING) (g := .LEAF_PORT_STATUS_DOZING) hr (by decide) 1 p 0).trans hd
  · have lo : _ = s.reg .LEAF_WAKE_PAT_LO p := reg_setFld_apart hr (f := .LEAF_PORT_STATUS_WAKING) (by decide) 1 p 0 p 0
    have hi : _ = s.reg .LEAF_WAKE_PAT_HI p := reg_setFld_apart hr (f := .LEAF_PORT_STATUS_WAKING) (by decide) 1 p 0 p 0
    unfold State.reg64
    rw [← lo, ← hi]
    rfl
  · exact (((((Sofar.start h _ _ _).count .LEAF_WAKE_CNT p 0 1 (List.mem_singleton.mpr rfl)).setFld
      .LEAF_PORT_STATUS_WAKING 1 p 0 (List.mem_singleton.mpr rfl)).setPort p _ (by decide)).emit (by decide) _).only

/-- A port that lights up again. -/
theorem wakeUp_port {s : State} (h : s.Sound) (p : Nat) :
    (wakeUp p s).flag .LEAF_PORT_STATUS_DOZING p = false ∧ (wakeUp p s).flag .LEAF_PORT_STATUS_WAKING p = true
      ∧ (portOf (wakeUp p s) p).wakeAt = none ∧ (wakeUp p s).cnts = s.cnts := by
  have lit : ∃ u : State, u.Sound ∧ (portOf u p).wakeAt = none ∧ u.cnts = s.cnts
      ∧ wakeUp p s = (u.setFld .LEAF_PORT_STATUS_DOZING 0 p).setFld .LEAF_PORT_STATUS_WAKING 1 p := by
    have dark := sound_setPort p { portOf s p with wakeAt := none } s h
    refine ⟨_, sound_startLine p _ dark, ?_, rfl, rfl⟩
    rw [startLine, portOf_setPort dark.leaf.ports, portOf_setPort h.leaf.ports]
  obtain ⟨u, hu, pu, cu, e⟩ := lit
  have h2 := sorted_setFld hu.regs .LEAF_PORT_STATUS_DOZING 0 p 0
  rw [e]
  refine ⟨?_, flag_setFld h2 (by decide) (by decide) 1 p 0, pu, cu⟩
  rw [flag_setFld_beside h2 (by decide)]
  exact flag_setFld hu.regs (by decide) (by decide) 0 p 0

theorem Sofar.wakeUp {s0 s : State} {aa : List Area} {oo cc : List Nat} {p : Nat} (h : Sofar s0 s aa oo cc)
    (hl : Area.leaf ∈ aa) (hm : Reg.off .LEAF_PORT_STATUS p ∈ oo) : Sofar s0 (wakeUp p s) aa oo cc :=
  (((h.setPort p _ hl).setPort p _ hl).setFld .LEAF_PORT_STATUS_DOZING 0 p 0 hm).setFld .LEAF_PORT_STATUS_WAKING 1 p 0 hm

/-- The wake pattern has been sent for 1 ms. -/
theorem exec_wakePatternSent {s : State} {p : Fin 256} {e : Nat} (hw : (portOf s p.val).wakeAt = some e)
    (he : e + 1600000 ≤ s.now) : exec (.wakePatternSent p) s = .next (wakeUp p.val s) := by
  unfold exec execWakePatternSent
  dsimp only
  rw [hw]
  exact congrArg _ (if_pos he)

/-- The wake pattern is seen: 16 times, by a dozing port, and it is the port's own. -/
def wakeSeen (s : State) (p : Nat) (seen : DWord) (n : Nat) : Bool :=
  s.flag .LEAF_PORT_STATUS_DOZING p && 16 ≤ n && seen.toNat == s.reg64 .LEAF_WAKE_PAT_LO .LEAF_WAKE_PAT_HI p

theorem wakeSeen_eq_true {s : State} {p : Nat} {seen : DWord} {n : Nat} : wakeSeen s p seen n = true ↔
    s.flag .LEAF_PORT_STATUS_DOZING p = true ∧ 16 ≤ n ∧ seen.toNat = s.reg64 .LEAF_WAKE_PAT_LO .LEAF_WAKE_PAT_HI p := by
  simp [wakeSeen, and_assoc]

/-- The count of a wake that a seen pattern causes: none where the wake command has counted it. -/
def countWake (p : Nat) (s : State) : State := if (portOf s p).wakeAt.isSome then s else s.count .LEAF_WAKE_CNT p

theorem countWake_spec {s : State} (h : s.Sound) (p : Nat) :
    (countWake p s).Sound ∧ Sofar s (countWake p s) [.leaf] [Reg.off .LEAF_PORT_STATUS p] [Cnt.off .LEAF_WAKE_CNT p]
      ∧ (countWake p s).cnt .LEAF_WAKE_CNT p
        = s.cnt .LEAF_WAKE_CNT p + (if (portOf s p).wakeAt = none then 1#64 else 0#64) := by
  unfold countWake
  cases (portOf s p).wakeAt with
  | none => exact ⟨sound_State_count _ _ _ _ _ h,
      (Sofar.start h _ _ _).count .LEAF_WAKE_CNT p 0 1 (List.mem_singleton.mpr rfl), cnt_count h.cnts .LEAF_WAKE_CNT p 0 1⟩
  | some e => exact ⟨h, Sofar.start h _ _ _, (BitVec.add_zero _).symm⟩

theorem exec_wakePatternDetect (s : State) (p : Fin 256) (seen : DWord) (n : Nat) : exec (.wakePatternDetect p seen n) s
    = .next (if wakeSeen s p.val seen n then wakeUp p.val (countWake p.val s) else s) := rfl

end Sys2Proof.Machine
end

section
/-!
SUPPORT. The access fault log (R359, R375): what a recorded fault shows and counts.
-/
namespace Sys2Proof

theorem Agent.num_lt (a : Agent) : a.num < 3 := by cases a <;> decide

namespace Machine

/-! ### The access fault log (R359, R375) -/

/-- What SYS_ACCESS_FAULT and SYS_ACCESS_FAULT_ADDR show of a fault. -/
def faultWord (f : AccFault) : Word := BitVec.ofNat 32 (2 ^ 31 + f.kind * 2 ^ 24 + f.agent.num * 2 ^ 22 + f.size * 2 ^ 20)
def faultAddr (f : AccFault) : Word := BitVec.ofNat 32 (f.ali * 2 ^ 28 + f.off)

/-- The fields of a fault fit their bits. -/
def AccFault.fits (f : AccFault) : Prop := f.kind < 16 ∧ f.size < 4 ∧ f.ali < 4 ∧ f.off < 2 ^ 28

theorem AccFault.fits_mk {kind size ali off : Nat} {a : Agent} (hk : kind < 16) (hs : size < 4) (ha : ali < 4)
    (ho : off < 2 ^ 28) : AccFault.fits ⟨kind, a, size, ali, off⟩ := ⟨hk, hs, ha, ho⟩

theorem faultWord_fields {f : AccFault} (h : f.fits) :
    Fld.SYS_ACCESS_FAULT_VALID.get (faultWord f) = 1 ∧ Fld.SYS_ACCESS_FAULT_KIND.get (faultWord f) = f.kind
      ∧ Fld.SYS_ACCESS_FAULT_AGENT.get (faultWord f) = f.agent.num
      ∧ Fld.SYS_ACCESS_FAULT_SIZE.get (faultWord f) = f.size := by
  obtain ⟨hk, hs, -, -⟩ := h
  have ha := f.agent.num_lt
  simp only [Fld.get, faultWord, bits, BitVec.toNat_ofNat, Nat.shiftRight_eq_div_pow, Fld.SYS_ACCESS_FAULT_VALID,
    Fld.SYS_ACCESS_FAULT_KIND, Fld.SYS_ACCESS_FAULT_AGENT, Fld.SYS_ACCESS_FAULT_SIZE]
  omega

theorem faultAddr_fields {f : AccFault} (h : f.fits) :
    Fld.SYS_ACCESS_FAULT_ADDR_ALIAS.get (faultAddr f) = f.ali
      ∧ Fld.SYS_ACCESS_FAULT_ADDR_OFFSET.get (faultAddr f) = f.off := by
  obtain ⟨-, -, ha, ho⟩ := h
  simp only [Fld.get, faultAddr, bits, BitVec.toNat_ofNat, Nat.shiftRight_eq_div_pow, Fld.SYS_ACCESS_FAULT_ADDR_ALIAS,
    Fld.SYS_ACCESS_FAULT_ADDR_OFFSET]
  omega

theorem showFault_regs {s : State} (h : s.regs.sorted = true) (f : AccFault) :
    (showFault f s).reg .SYS_ACCESS_FAULT = faultWord f ∧ (showFault f s).reg .SYS_ACCESS_FAULT_ADDR = faultAddr f := by
  have h1 := sorted_setReg h .SYS_ACCESS_FAULT (faultWord f) 0 0
  exact ⟨(reg_setReg_apart h1 (by decide) (faultAddr f) 0 0 0 0).trans (reg_setReg h _ _ 0 0), reg_setReg h1 _ _ 0 0⟩

/-- A fault recorded now shows: the log is open, or shows a fault of this register clock. -/
def faultShows (s : State) : Bool := (faultInClock s).any (fun e => e.2) || !s.flag .SYS_ACCESS_FAULT_VALID

/-- A fault counts, and stands for its register clock. -/
def noteFault (f : AccFault) (s : State) : State :=
  { s.count .SYS_ACCESS_FAULT_CNT with
    sys := { s.sys with faultNow := some (s.regClk, earlier f (faultInClock s), faultShows s) } }

@[simp] theorem noteFault_regs (f : AccFault) (s : State) : (noteFault f s).regs = s.regs := rfl
@[simp] theorem noteFault_cnts (f : AccFault) (s : State) :
    (noteFault f s).cnts = (s.count .SYS_ACCESS_FAULT_CNT).cnts := rfl
@[simp] theorem showFault_cnts (f : AccFault) (s : State) : (showFault f s).cnts = s.cnts := by
  rw [showFault, setReg_cnts, setReg_cnts]

theorem recordFault_eq (f : AccFault) (s : State) : recordFault f s =
    if faultShows s then showFault (earlier f (faultInClock s)) (noteFault f s) else noteFault f s := by
  have hc : faultInClock (s.count .SYS_ACCESS_FAULT_CNT) = faultInClock s := rfl
  unfold recordFault noteFault faultShows
  dsimp only
  rw [hc]
  cases faultInClock s <;> rfl

theorem recordFault_cnts (f : AccFault) (s : State) :
    (recordFault f s).cnts = (s.count .SYS_ACCESS_FAULT_CNT).cnts := by
  rw [recordFault_eq]
  split <;> simp

/-- The registers of the log after a fault that shows. -/
theorem recordFault_shown {s : State} (h : s.regs.sorted = true) (hs : faultShows s = true) (f : AccFault) :
    (recordFault f s).reg .SYS_ACCESS_FAULT = faultWord (earlier f (faultInClock s))
      ∧ (recordFault f s).reg .SYS_ACCESS_FAULT_ADDR = faultAddr (earlier f (faultInClock s)) := by
  rw [recordFault_eq, if_pos hs]
  exact showFault_regs (by rw [noteFault_regs]; exact h) _

/-- The registers of the log after a fault that does not show. -/
theorem recordFault_hidden {s : State} (hs : faultShows s = false) (f : AccFault) : (recordFault f s).regs = s.regs := by
  rw [recordFault_eq, if_neg (by rw [hs]; exact Bool.false_ne_true), noteFault_regs]

/-- What a recorded fault leaves in the log. -/
theorem recordFault_logged {s : State} (h : s.Sound) {f : AccFault} (hf : f.fits) :
    faultLogged s (recordFault f s) f.kind f.agent f.size f.ali f.off := by
  refine ⟨?counts, fun hv hi => ?first, fun hv hi => ?later, fun g shown hi hv => ?tie⟩
  case counts => exact (cnt_congr (recordFault_cnts f s) _ _ _).trans (cnt_count h.cnts .SYS_ACCESS_FAULT_CNT 0 0 1)
  case first =>
    have hs : faultShows s = true := by rw [faultShows, hv, Bool.not_false, Bool.or_true]
    obtain ⟨hw, ha⟩ := recordFault_shown h.regs hs f
    obtain ⟨h1, h2, h3, h4⟩ := faultWord_fields hf
    obtain ⟨h5, h6⟩ := faultAddr_fields hf
    rw [hi] at hw ha
    have hv : (recordFault f s).fld .SYS_ACCESS_FAULT_VALID = 1 := (congrArg _ hw).trans h1
    exact ⟨by rw [State.flag, hv]; rfl, (congrArg _ hw).trans h2, (congrArg _ hw).trans h3, (congrArg _ hw).trans h4,
      (congrArg _ ha).trans h5, (congrArg _ ha).trans h6⟩
  case later =>
    have hs : faultShows s = false := by
      rw [faultShows, hv, Bool.not_true, Bool.or_false, Option.any_eq_false]
      exact fun e he => Bool.eq_false_iff.mpr fun hs => hi e.1 (by rw [he, ← hs])
    exact ⟨reg_congr (recordFault_hidden hs f) _ _ _, reg_congr (recordFault_hidden hs f) _ _ _⟩
  case tie =>
    have hs : faultShows s = true := by
      rcases hv with rfl | hv <;> simp [faultShows, *]
    obtain ⟨hw, ha⟩ := recordFault_shown h.regs hs f
    have hr : (recordFault f s).regs.sorted = true := (sound_recordFault f s h).regs
    obtain ⟨sw, sa⟩ := showFault_regs hr (earlier f (some (g, shown)))
    rw [hi] at hw ha
    exact ⟨hw.trans sw.symm, ha.trans sa.symm⟩

end Machine
end Sys2Proof
end

section
/-!
SUPPORT. The path of a register write (R350 to R357) up to its register, and the writes that are refused on the way.
-/
namespace Sys2Proof.Machine

theorem faultLogged.of_sends {s s' t : State} (hs : Sends s s') {kind size ali off : Nat} {a : Agent}
    (h : faultLogged s' t kind a size ali off) : faultLogged s t kind a size ali off := by
  obtain ⟨-, m, rfl⟩ := hs
  exact ⟨h.counts, h.first, h.later, h.tie⟩

theorem faultLogged.emit {s t : State} {kind size ali off : Nat} {a : Agent} (h : faultLogged s t kind a size ali off)
    (e : OutEv) : faultLogged s (t.emit e) kind a size ali off := ⟨h.counts, h.first, h.later, h.tie⟩

theorem Sofar.recordFault {s0 s : State} {aa : List Area} (h : Sofar s0 s aa faultRegs faultCnts) (hs : Area.sys ∈ aa)
    (f : AccFault) : Sofar s0 (recordFault f s) aa faultRegs faultCnts := by
  have hn : Sofar s0 (noteFault f s) aa faultRegs faultCnts := by
    refine (h.count .SYS_ACCESS_FAULT_CNT 0 0 1 (List.mem_singleton.mpr rfl)).areas rfl rfl rfl (fun a ha => ?_)
    cases a <;> trivial
  rw [recordFault_eq]
  split
  · exact (hn.setReg .SYS_ACCESS_FAULT _ 0 0 (by decide)).setReg .SYS_ACCESS_FAULT_ADDR _ 0 0 (by decide)
  · exact hn

/-- A refused access is recorded: once on the link, it is in the log, and nothing else has changed. -/
def Logged (s t : State) (f : AccFault) : Prop :=
  faultLogged s t f.kind f.agent f.size f.ali f.off ∧ s.Only t [.sys, .ctl] faultRegs faultCnts

theorem Sends.logged {s s' : State} (h : Sends s s') {f : AccFault} (hf : f.fits) : Logged s (recordFault f s') f :=
  ⟨.of_sends h (recordFault_logged h.sound hf),
    h.only ((Sofar.start h.sound [.sys, .ctl] faultRegs faultCnts).recordFault (by decide) f).only (by decide)⟩

theorem logNear_linked {s : State} (hl : linked s) (f : AccFault) :
    logNear f s = recordFault f (idlSend 2 0 1 0 s) := if_pos hl

/-- A refusal on the control die, with the link trained. -/
theorem Sends.logged_near {s s' : State} (h : Sends s s') (hl : linked s) {f : AccFault} (hf : f.fits) :
    Logged s (logNear f s') f := by
  rw [logNear_linked (h.keeps_linked hl)]
  exact (h.send 2 0 1 0).logged hf

/-- A refusal of a register write on either die. -/
theorem Sends.logged_either {s s' : State} (h : Sends s s') (hl : linked s) {kind : Nat} {w : RegWrite}
    (hf : (⟨kind, w.agent, w.size, w.ali, w.off⟩ : AccFault).fits) (b : Bool) :
    Logged s (if b then logWrite kind w s' else logNear ⟨kind, w.agent, w.size, w.ali, w.off⟩ s')
      ⟨kind, w.agent, w.size, w.ali, w.off⟩ := by
  cases b
  · exact h.logged_near hl hf
  · exact h.logged hf

/-! ### The path of a write (R350, R351, R353) -/

/-- A write that meets no key, and is none of SYS_KEY and SYS_RESET_CTRL, goes straight to its die. -/
theorem issueWrite_keyless {w : RegWrite} (hk : w.off ≠ Reg.off .SYS_KEY) (hr : w.off ≠ Reg.off .SYS_RESET_CTRL ∨ w.ali ≠ 0)
    (hg : keyed w = false) (s : State) :
    issueWrite w s = if isFar w.off then far w (takeWrite w) s else takeWrite w s := by
  unfold issueWrite
  rw [if_neg hk, if_neg (by rcases hr with h | h <;> simp [h]), hg]
  cases isFar w.off <;> rfl

/-- With the link trained, a write of an element of the part arrives. -/
theorem issueWrite_arrives {s : State} (h : s.Sound) (hl : linked s) {w : RegWrite} (hk : w.off ≠ Reg.off .SYS_KEY)
    (hr : w.off ≠ Reg.off .SYS_RESET_CTRL ∨ w.ali ≠ 0) (hg : keyed w = false) (hf : fusedOff s w.off = false) :
    ∃ s', Sends s s' ∧ issueWrite w s = takeWrite w s' := by
  rw [issueWrite_keyless hk hr hg]
  cases isFar w.off
  · exact ⟨s, .refl h, rfl⟩
  · exact ⟨_, (Sends.refl h).send 0 0 1 0, far_linked hl hf⟩

theorem registerWrite_word {s : State} (hp : s.pwr.keeperUp = true) {off : Nat} (ho : off % 4 = 0) (a : Agent) (ali : Nat)
    (v : DWord) : registerWrite a ali 2 off v s = issueWrite ⟨a, ali, off, v.setWidth 32, 2⟩ s := by
  unfold registerWrite
  simp [hp, ho]

theorem registerWrite_unaligned {s : State} (hp : s.pwr.keeperUp = true) {off size : Nat} (ho : off % 2 ^ size ≠ 0)
    (a : Agent) (ali : Nat) (v : DWord) : registerWrite a ali size off v s = logNear ⟨2, a, size, ali, off⟩ s := by
  unfold registerWrite
  simp [hp, ho]

theorem registerWrite_narrow {s : State} (hp : s.pwr.keeperUp = true) {off size : Nat} (ho : off % 2 ^ size = 0)
    (hs : size < 2) (a : Agent) (ali : Nat) (v : DWord) : registerWrite a ali size off v s =
      if fusedOff s (off - off % 4) then s else logNear ⟨1, a, size, ali, off⟩ s := by
  unfold registerWrite
  simp [hp, ho, hs]

/-! ### What stands at an offset -/

theorem findReg_key : findReg (Reg.off .SYS_KEY) = some (.SYS_KEY, 0, 0) := by decide +kernel
theorem findReg_resetCtrl : findReg (Reg.off .SYS_RESET_CTRL) = some (.SYS_RESET_CTRL, 0, 0) := by decide +kernel

/-- An offset where nothing stands is in no element that an LZ-S1024 lacks. -/
theorem fusedOff_of_none {off : Nat} (h1 : findReg off = none) (h2 : findCnt off = none) (h3 : findCntHi off = none)
    (s : State) : fusedOff s off = false := by
  unfold fusedOff
  rw [h1, h2, h3]
  simp

/-- A write of an offset where nothing stands (R356). -/
theorem takeWrite_nothing {w : RegWrite} (h1 : findReg w.off = none) (h2 : findCnt w.off = none)
    (h3 : findCntHi w.off = none) (s : State) : takeWrite w s =
      if isFar w.off then logWrite 8 w s else logNear ⟨8, w.agent, w.size, w.ali, w.off⟩ s := by
  unfold takeWrite
  rw [h1, h2, h3]
  rfl

/-- A SET, CLR or TGL write of a register without an RW field (R357). -/
theorem takeWrite_alias {w : RegWrite} {r : Reg} {i j : Nat} (hr : findReg w.off = some (r, i, j)) {s : State}
    (hf : fusedReg s r i j = false) (ha : w.ali ≠ 0) (hw : r.rw = 0) : takeWrite w s =
      if isFar w.off then logWrite 4 w s else logNear ⟨4, w.agent, w.size, w.ali, w.off⟩ s := by
  unfold takeWrite
  rw [hr]
  dsimp only
  rw [hf, if_neg Bool.false_ne_true, if_pos ⟨ha, hw⟩]
  rfl

theorem fusedReg_eq_true {s : State} {r : Reg} {i j : Nat} (h : fusedReg s r i j = true) : fusedIdx r i j = true := by
  simp only [fusedReg, Bool.and_eq_true] at h
  exact h.2

/-- A write of an element that the part lacks, far and with no open key for it, is ignored (R4). -/
theorem issueWrite_fused {s : State} {w : RegWrite} {r : Reg} {i j : Nat} (hr : findReg w.off = some (r, i, j))
    (hf : fusedReg s r i j = true) (hk : r.key = false ∨ keyOpen s w.agent = false) (hi : isFar w.off = true) :
    issueWrite w s = s := by
  have ho : fusedOff s w.off = true := (fusedReg_of_find hr).trans hf
  have hn : ∀ q : Reg, fusedIdx q 0 0 = false → findReg (q.off) = some (q, 0, 0) → w.off ≠ q.off := by
    intro q hq hs he
    rw [he, hs] at hr
    cases hr
    rw [fusedReg_eq_true hf] at hq
    cases hq
  unfold issueWrite
  rw [if_neg (hn .SYS_KEY (by decide) findReg_key),
    if_neg (fun h => hn .SYS_RESET_CTRL (by decide) findReg_resetCtrl h.1), if_pos hi]
  dsimp only
  split
  · next hg =>
    have hk : keyOpen s w.agent = false := by
      rcases hk with hk | hk
      · rw [keyed, hr] at hg
        simp [hk] at hg
      · exact hk
    unfold guarded
    rw [hk, if_neg Bool.false_ne_true, if_pos ho]
  · exact far_fused ho _

end Sys2Proof.Machine
end

section
/-!
SUPPORT. Writes of shadowed registers, and the order of sources in one register clock (R358, R363).
-/
namespace Sys2Proof.Machine

/-! ### Writes of shadowed registers (R358, R363) -/

/-- The registers of the parser and of the mirrors (blocks 2 and 10 of R371) are far, without a key, and without a write of
their own. -/
theorem plain_blocks : ∀ r ∈ Reg.all, r.base / 2 ^ 20 = 2 ∨ r.base / 2 ^ 20 = 10 →
    r.key = false ∧ slowReg r = false ∧ lastOf r.base r.s1 r.n1 r.s2 r.n2 < controlBase := by decide +kernel

theorem plain_shadowed {r : Reg} (hg : r.grp < 64) (i j : Nat) (v : Word) (s : State) : plain r i j v s =
    (s.setShad r (r.take (s.shad r i j) v) i j).setReg .SYS_UPDATE_PENDING
      (s.reg .SYS_UPDATE_PENDING ||| BitVec.ofNat 32 (2 ^ r.grp)) := if_pos hg

theorem seen_shadowed {r : Reg} (hg : r.grp < 64) (s : State) (i j : Nat) : s.seen r i j = s.shad r i j := if_pos hg

/-- The value of a write that no later source's write of the same register clock precedes. -/
theorem settled_first {r : Reg} {w : RegWrite} {s : State} (h : takenAfter s w = []) (i j : Nat) :
    settled r i j w s = aliased w.ali (s.seen r i j) w.val r.rw := by
  unfold settled
  rw [h]

/-- Only writes of later sources are taken after a write. -/
theorem later_of_takenAfter {s : State} {w : RegWrite} {x : TakenWrite} (h : x ∈ takenAfter s w) : x.write.agent ≠ .app := by
  simp only [takenAfter, List.mem_reverse, List.mem_filter, Bool.and_eq_true, decide_eq_true_eq] at h
  obtain ⟨-, -, hn⟩ := h
  intro e
  rw [e] at hn
  exact Nat.not_lt_zero _ hn

/-- The value of a write that one later source's write has preceded: both, in the order of R358. -/
theorem settled_second {r : Reg} {w : RegWrite} {s : State} {x : TakenWrite} (h : takenAfter s w = [x]) (h1 : r.w1c = 0)
    (h2 : r.wo = 0) (i j : Nat) : settled r i j w s = writeOn r (writeOn r x.old w) x.write := by
  have hx : x.write.agent ≠ .app := later_of_takenAfter (s := s) (w := w) (by rw [h]; exact List.mem_singleton.mpr rfl)
  unfold settled
  rw [h]
  dsimp only
  rw [if_pos ⟨h1, h2⟩]
  cases e : x.write.agent with
  | app => exact absurd e hx
  | host => simp [e]
  | keeper => simp [e]

/-- A register of a plain block takes a write into its shadow. -/
theorem takeWrite_plain {w : RegWrite} {r : Reg} {i j : Nat} (hr : findReg w.off = some (r, i, j))
    (hb : r.base / 2 ^ 20 = 2 ∨ r.base / 2 ^ 20 = 10) (hw : r.rw ≠ 0) {s : State} (hf : fusedReg s r i j = false) :
    takeWrite w s = noteTaken w (s.seen r i j) (plain r i j (settled r i j w s) s) := by
  obtain ⟨hm, -⟩ := findReg_some hr
  obtain ⟨-, hs, -⟩ := plain_blocks r hm hb
  have hp : ∀ v, regWrite r i j { w with val := v } s = plain r i j v s := by
    intro v
    unfold regWrite
    rcases hb with hb | hb <;> rw [hb] <;> rfl
  unfold takeWrite
  rw [hr]
  dsimp only
  rw [hf, if_neg Bool.false_ne_true, if_neg (fun h => hw h.2), hs, if_neg Bool.false_ne_true, hp]

/-- What a write of a shadowed register leaves: its shadow, its group's pending bit, and nothing else. -/
structure shadowTakes (s t : State) (r : Reg) (i j : Nat) (v : Word) : Prop where
  shad : t.shad r i j = r.take (s.shad r i j) v
  reg : t.reg r i j = s.reg r i j
  pending : t.reg .SYS_UPDATE_PENDING = s.reg .SYS_UPDATE_PENDING ||| BitVec.ofNat 32 (2 ^ r.grp)
  only : s.Only t [.shadow, .sys, .ctl] [Reg.off .SYS_UPDATE_PENDING] []

theorem plain_takes {s : State} (h : s.Sound) {r : Reg} (hg : r.grp < 64) {i j : Nat}
    (hn : r.off i j ≠ Reg.off .SYS_UPDATE_PENDING) (v : Word) (w : RegWrite) (old : Word) :
    shadowTakes s (noteTaken w old (plain r i j v s)) r i j v := by
  rw [plain_shadowed hg]
  refine ⟨shad_setShad h.shadow r _ i j, reg_setReg_ne (s := s.setShad r _ i j) h.regs hn _,
    reg_setReg (s := s.setShad r _ i j) h.regs _ _ 0 0, ?_⟩
  exact ((((Sofar.start h _ _ _).setShad (by decide) r _ i j).setReg .SYS_UPDATE_PENDING _ 0 0
    (List.mem_singleton.mpr rfl)).noteTaken (by decide) w old).only

theorem shadowTakes.of_sends {s s' t : State} (hs : Sends s s') {r : Reg} {i j : Nat} {v : Word}
    (h : shadowTakes s' t r i j v) : shadowTakes s t r i j v := by
  have ho := hs.only h.only (by decide)
  obtain ⟨-, m, rfl⟩ := hs
  exact ⟨h.shad, h.reg, h.pending, ho⟩

theorem Sends.settled {s s' : State} (h : Sends s s') {r : Reg} {i j : Nat} {w : RegWrite} :
    settled r i j w s' = settled r i j w s := by
  obtain ⟨-, m, rfl⟩ := h
  rfl

/-- A write of a shadowed register of a plain block, with the link trained, normal or not. -/
theorem registerWrite_shadowed {s : State} (h : s.Sound) (hp : s.pwr.keeperUp = true) (hl : linked s) {a : Agent}
    {ali off : Nat} {v : DWord} {r : Reg} {i j : Nat} (ho : off % 4 = 0) (hr : findReg off = some (r, i, j))
    (hf : fusedOff s off = false) (hb : r.base / 2 ^ 20 = 2 ∨ r.base / 2 ^ 20 = 10) (hg : r.grp < 64) (hw : r.rw ≠ 0) :
    shadowTakes s (registerWrite a ali 2 off v s) r i j (settled r i j ⟨a, ali, off, v.setWidth 32, 2⟩ s) := by
  obtain ⟨hm, hi, hj, he⟩ := findReg_some hr
  obtain ⟨hk, -, -⟩ := plain_blocks r hm hb
  have hlow : 2 * 2 ^ 20 ≤ off := by
    have : r.base ≤ r.off i j := by unfold Reg.off; omega
    omega
  have hne : ∀ q : Reg, q.off < 2 * 2 ^ 20 → off ≠ q.off := fun q hq => by omega
  have hkey : keyed ⟨a, ali, off, v.setWidth 32, 2⟩ = false := by
    unfold keyed
    rw [hr]
    simp [hk]
  obtain ⟨s', hs, e⟩ := issueWrite_arrives h hl (w := ⟨a, ali, off, v.setWidth 32, 2⟩) (hne .SYS_KEY (by decide))
    (.inl (hne .SYS_RESET_CTRL (by decide))) hkey hf
  have hf' : fusedReg s' r i j = false := (fusedReg_of_find hr).symm.trans ((hs.fusedOff off).trans hf)
  rw [registerWrite_word hp ho, e, takeWrite_plain hr hb hw hf', hs.settled]
  exact .of_sends hs (plain_takes hs.sound hg (by rw [he]; exact hne .SYS_UPDATE_PENDING (by decide)) _ _ _)

end Sys2Proof.Machine
end

section
/-!
SUPPORT. The path of a register read, and what a read of a counter returns, captures and clears (R351 to R358, R368).
-/
namespace Sys2Proof.Machine

/-! ### The path of a read (R351, R353) -/

/-- With the link trained, an aligned read reaches its register. -/
theorem issueRead_arrives {s : State} (h : s.Sound) (hp : s.pwr.keeperUp = true) (hl : linked s) {x : FarRead}
    (ho : x.off % 2 ^ x.size = 0) : ∃ s', Sends s s' ∧ issueRead x s = takeRead x s' := by
  have hu : s.flag .SYS_PLANE_STATE_IDL_UP = true := hl
  unfold issueRead
  rw [hp, Bool.not_true, if_neg Bool.false_ne_true, if_neg (not_not.mpr ho), if_pos hu]
  split
  · exact ⟨s, .refl h, rfl⟩
  · exact ⟨_, (Sends.refl h).send 0 0 1 1, rfl⟩

/-- An unaligned read is logged and returns ones. -/
theorem issueRead_unaligned {s : State} (hp : s.pwr.keeperUp = true) {x : FarRead} (ho : x.off % 2 ^ x.size ≠ 0) :
    issueRead x s = (logNear ⟨2, x.agent, x.size, x.ali, x.off⟩ s).emit
      (.readData x.agent x.size (2 ^ (8 * 2 ^ x.size) - 1)) := by
  unfold issueRead
  rw [hp, Bool.not_true, if_neg Bool.false_ne_true, if_pos ho]

/-- A far read waits while the link is untrained. -/
theorem issueRead_held {s : State} (hp : s.pwr.keeperUp = true) (hl : s.flag .SYS_PLANE_STATE_IDL_UP = false) {x : FarRead}
    (ho : x.off % 2 ^ x.size = 0) (hf : isFar x.off = true) (hk : inKey x.off = false) :
    issueRead x s = { s with ctl := { s.ctl with heldReads := s.ctl.heldReads ++ [x] } } := by
  unfold issueRead
  rw [hp, Bool.not_true, if_neg Bool.false_ne_true, if_neg (not_not.mpr ho), hf, hk, hl]
  rfl

theorem inKey_of_aligned {off : Nat} (ho : off % 4 = 0) (hk : off ≠ Reg.off .SYS_KEY) : inKey off = false := by
  have e : Reg.off .SYS_KEY = 16 := by decide
  rw [inKey, beq_eq_false_iff_ne, e]
  omega

theorem takeRead_word {x : FarRead} (hx : x.size = 2) (s : State) : takeRead x s =
    (readWord x.agent (x.ali == 0) x.off s).2.emit (.readData x.agent 2 (readWord x.agent (x.ali == 0) x.off s).1) := by
  unfold takeRead
  simp [hx]

theorem takeRead_half {x : FarRead} (hx : x.size = 1) (ho : x.off % 4 = 0) (s : State) : takeRead x s =
    (readWord x.agent false x.off s).2.emit (.readData x.agent 1 ((readWord x.agent false x.off s).1 % 2 ^ 16)) := by
  unfold takeRead
  simp [hx, ho]

/-! ### What stands behind an offset -/

theorem readWord_fused {s : State} {off : Nat} (hf : fusedOff s off = true) (a : Agent) (side : Bool) :
    readWord a side off s = (0, s) := if_pos hf

theorem readWord_counter {s : State} {off : Nat} (hf : fusedOff s off = false) (hc : (findCnt off).isSome = true) (a : Agent)
    (side : Bool) : readWord a side off s = counterLow a side off s := by
  unfold readWord
  rw [hf, if_neg Bool.false_ne_true, if_pos hc]

theorem readWord_high {s : State} {off : Nat} (hf : fusedOff s off = false) (hc : findCnt off = none)
    (hh : (findCntHi off).isSome = true ∨ pairHigh off = true) (a : Agent) (side : Bool) :
    readWord a side off s = (captured s a off, s) := by
  unfold readWord
  rw [hf, if_neg Bool.false_ne_true, hc, Option.isSome_none, if_neg Bool.false_ne_true,
    if_pos ((Bool.or_eq_true _ _).mpr hh)]

theorem findCntHi_above (off : Nat) : findCntHi (off + 4) = findCnt off := by
  unfold findCntHi
  rw [if_neg (by omega), Nat.add_sub_cancel]

/-- A plain register that is no holding pair and shows no free value. -/
theorem readWord_reg {r : Reg} (hr : r ∈ Reg.all) {i j : Nat} (hi : i < r.n1) (hj : j < r.n2) {s : State}
    (hf : fusedReg s r i j = false) (hh : pairHigh (r.off i j) = false) (hp : pairValue (r.off i j) s = none)
    (hn : readsFree r = false) (a : Agent) (side : Bool) :
    readWord a side (r.off i j) s = ((liveValue a r i j s).toNat, s) := by
  unfold readWord
  rw [fusedOff_off hr hi hj, hf, findCnt_off hr hi hj, findCntHi_off hr hi hj, hh, hp, findReg_off hr hi hj]
  simp [hn]

/-! ### Counters (R355, R357, R358, R368) -/

/-- The live value of the counter at an offset, and its holding register. -/
def liveCount (s : State) (off : Nat) : Nat := (SMap.getD s.cnts off 0#64).toNat
def heldCount (s : State) (off : Nat) : Nat := (SMap.getD s.hold off 0#64).toNat

/-- A read clears the counter at an offset. -/
def clearCount (off : Nat) (s : State) : State := { s with cnts := SMap.put s.cnts off 0#64 0#64 }

theorem Sofar.clearCount {s0 s : State} {aa : List Area} {oo cc : List Nat} (h : Sofar s0 s aa oo cc) {off : Nat}
    (hm : off ∈ cc) : Sofar s0 (clearCount off s) aa oo cc := by
  refine ⟨h.sr, SMap.sorted_put h.sc off 0#64 0#64, h.st, ⟨fun a ha => ?_, h.only.regs, fun q hq => ?_, h.only.tot⟩⟩
  · have := h.only.area a ha
    cases a <;> exact this
  · rw [← h.only.cnts q hq]
    have hn : q ≠ off := fun e => hq (e ▸ hm)
    exact SMap.get?_put_ne h.sc hn 0#64 0#64

theorem liveCount_clearCount {s : State} (h : s.cnts.sorted = true) (off : Nat) :
    SMap.getD (clearCount off s).cnts off 0#64 = 0#64 := SMap.getD_put_self h off 0#64 0#64

section
variable {s s' : State} (h : Sends s s')
include h

theorem Sends.liveCount (off : Nat) : liveCount s' off = liveCount s off := by unfold Machine.liveCount; rw [h.cnts]
theorem Sends.heldCount (off : Nat) : heldCount s' off = heldCount s off := by unfold Machine.heldCount; rw [h.hold]
theorem Sends.captured (a : Agent) (off : Nat) : captured s' a off = captured s a off := by
  unfold Machine.captured; rw [h.pairs]
theorem Sends.readFirst (a : Agent) (off : Nat) : readFirst s' a off = readFirst s a off := by
  unfold Machine.readFirst State.awaits; rw [h.pending]

end

section
variable {s : State} {off : Nat} {a : Agent}

theorem counterLow_alias (hv : s.flag .SYS_SNAP_CTRL_VIEW = false) :
    counterLow a false off s = (liveCount s off % 2 ^ 32, s) := by
  unfold counterLow liveCount
  simp [hv]

theorem counterLow_taken (hv : s.flag .SYS_SNAP_CTRL_VIEW = false) (hf : readFirst s a off = false) :
    counterLow a true off s =
      (liveCount s off % 2 ^ 32, clearCount off (capture a (off + 4) (liveCount s off / 2 ^ 32) s)) := by
  unfold counterLow liveCount clearCount
  simp [hv, hf, capture]

theorem counterLow_beaten (hv : s.flag .SYS_SNAP_CTRL_VIEW = false) (hf : readFirst s a off = true) :
    counterLow a true off s = (0, capture a (off + 4) 0 s) := by
  unfold counterLow
  simp [hv, hf]

theorem counterLow_held (hv : s.flag .SYS_SNAP_CTRL_VIEW = true)
    (hc : isFar off = true ∨ s.flag .SYS_SNAP_STATUS_COPYING = false) :
    counterLow a true off s = (heldCount s off % 2 ^ 32, capture a (off + 4) (heldCount s off / 2 ^ 32) s) := by
  have hd : (if (true && !isFar off) = true then snapDone s else s) = s := by
    rcases hc with hc | hc
    · simp [hc]
    · simp [snapDone, hc]
  unfold counterLow heldCount
  simp only [hv, hd, Bool.not_true, Bool.and_false, Bool.false_and, Bool.false_eq_true, if_false, if_true]

theorem captured_capture (h : s.pairs.sorted = true) {v : Nat} (hv : v < 2 ^ 32) :
    captured (capture a off v s) a off = v := by
  unfold captured
  rw [show SMap.getD (capture a off v s).pairs (pairKey a off) 0#32 = BitVec.ofNat 32 v from SMap.getD_put_self h _ _ _,
    BitVec.toNat_ofNat, Nat.mod_eq_of_lt hv]

theorem liveCount_high : liveCount s off / 2 ^ 32 < 2 ^ 32 := by
  have := (SMap.getD s.cnts off 0#64).isLt
  unfold liveCount
  omega

theorem heldCount_high : heldCount s off / 2 ^ 32 < 2 ^ 32 := by
  have := (SMap.getD s.hold off 0#64).isLt
  unfold heldCount
  omega

end

end Sys2Proof.Machine
end

section
/-!
SUPPORT. Each kind of register access as a whole: what it leaves, by size, alignment, the way it is written, and register.
-/
namespace Sys2Proof.Machine

/-! ### What each kind of write leaves -/

section
variable {s : State} {a : Agent} {ali size off : Nat} {v : DWord}

theorem registerWrite_logs_unaligned (h : s.Sound) (hp : s.pwr.keeperUp = true) (hl : linked s) (hz : size < 4)
    (ha : ali < 4) (hf : off < 2 ^ 28) (ho : off % 2 ^ size ≠ 0) :
    Logged s (registerWrite a ali size off v s) ⟨2, a, size, ali, off⟩ := by
  rw [registerWrite_unaligned hp ho]
  exact (Sends.refl h).logged_near hl (AccFault.fits_mk (by decide) hz ha hf)

theorem registerWrite_logs_narrow (h : s.Sound) (hp : s.pwr.keeperUp = true) (hl : linked s) (hz : size < 2)
    (ha : ali < 4) (hf : off < 2 ^ 28) (ho : off % 2 ^ size = 0) (hu : fusedOff s (off - off % 4) = false) :
    Logged s (registerWrite a ali size off v s) ⟨1, a, size, ali, off⟩ := by
  rw [registerWrite_narrow hp ho hz, hu, if_neg Bool.false_ne_true]
  exact (Sends.refl h).logged_near hl (AccFault.fits_mk (by decide) (by omega) ha hf)

theorem registerWrite_logs_nothing (h : s.Sound) (hp : s.pwr.keeperUp = true) (hl : linked s) (ha : ali < 4)
    (hf : off < 2 ^ 28) (ho : off % 4 = 0) (h1 : findReg off = none) (h2 : findCnt off = none) (h3 : findCntHi off = none) :
    Logged s (registerWrite a ali 2 off v s) ⟨8, a, 2, ali, off⟩ := by
  have hn : ∀ q : Reg, findReg q.off = some (q, 0, 0) → off ≠ q.off := by
    rintro q hq rfl
    rw [h1] at hq
    cases hq
  have hg : keyed ⟨a, ali, off, v.setWidth 32, 2⟩ = false := by
    unfold keyed
    rw [h1]
  obtain ⟨s', hs, e⟩ := issueWrite_arrives h hl (w := ⟨a, ali, off, v.setWidth 32, 2⟩) (hn _ findReg_key)
    (.inl (hn _ findReg_resetCtrl)) hg (fusedOff_of_none h1 h2 h3 s)
  rw [registerWrite_word hp ho, e, takeWrite_nothing h1 h2 h3]
  exact hs.logged_either hl (AccFault.fits_mk (by decide) (show 2 < 4 by decide) ha hf) _

theorem registerWrite_logs_alias (h : s.Sound) (hp : s.pwr.keeperUp = true) (hl : linked s) (ha : ali < 4)
    (hf : off < 2 ^ 28) (ho : off % 4 = 0) {r : Reg} {i j : Nat} (hr : findReg off = some (r, i, j))
    (hu : fusedOff s off = false) (hz : ali ≠ 0) (hw : r.rw = 0) (hk : off ≠ Reg.off .SYS_KEY) :
    Logged s (registerWrite a ali 2 off v s) ⟨4, a, 2, ali, off⟩ := by
  have hg : keyed ⟨a, ali, off, v.setWidth 32, 2⟩ = false := by
    unfold keyed
    rw [hr]
    simp [hz, hw]
  obtain ⟨s', hs, e⟩ := issueWrite_arrives h hl (w := ⟨a, ali, off, v.setWidth 32, 2⟩) hk (.inr hz) hg hu
  have hu' : fusedReg s' r i j = false := (fusedReg_of_find hr).symm.trans ((hs.fusedOff off).trans hu)
  rw [registerWrite_word hp ho, e, takeWrite_alias hr hu' hz hw]
  exact hs.logged_either hl (AccFault.fits_mk (by decide) (show 2 < 4 by decide) ha hf) _

theorem registerWrite_held (hp : s.pwr.keeperUp = true) (hl : s.flag .SYS_PLANE_STATE_IDL_UP = false) (ho : off % 4 = 0)
    (hi : isFar off = true) (hk : off ≠ Reg.off .SYS_KEY) (hg : keyed ⟨a, 0, off, v.setWidth 32, 2⟩ = false)
    (hu : fusedOff s off = false) : registerWrite a 0 2 off v s =
      { s with ctl := { s.ctl with heldWrites := s.ctl.heldWrites ++ [⟨a, 0, off, v.setWidth 32, 2⟩] } } := by
  have hr : off ≠ Reg.off .SYS_RESET_CTRL := by
    intro e
    unfold keyed at hg
    dsimp only at hg
    rw [e, findReg_resetCtrl] at hg
    cases hg
  rw [registerWrite_word hp ho, issueWrite_keyless hk (.inl hr) hg, if_pos hi, far,
    if_neg (by rw [hu]; exact Bool.false_ne_true), if_neg (by rw [hl]; exact Bool.false_ne_true)]

end

theorem completes_registerWrite {s t : State} {a : Agent} {ali size : Fin 4} {off : BitVec 28} {v : DWord} {P : State → Prop}
    (e : registerWrite a ali.val size.val off.toNat v s = t) (h : P t) : completes (.registerWrite a ali size off v) s P :=
  ⟨t, congrArg _ e, h⟩

/-! ### What each kind of read leaves -/

/-- Both read commands issue the read that they name. -/
theorem completes_read {s t : State} {a : Agent} {ali size : Fin 4} {off : BitVec 28} {c : Instr} {P : State → Prop}
    (hc : c = .counterRead a ali size off ∨ c = .holdingPairRead a ali size off)
    (e : issueRead ⟨a, ali.val, off.toNat, size.val, s.now⟩ s = t) (h : P t) : completes c s P := by
  rcases hc with rfl | rfl <;> exact ⟨t, congrArg _ e, h⟩

/-- The answer to a 32-bit read leaves for its agent. -/
def answer (a : Agent) (x : Nat × State) : State := x.2.emit (.readData a 2 x.1)

section
variable {s : State} {off : Nat} (h : s.Sound) (hp : s.pwr.keeperUp = true) (hl : linked s)
include h hp hl

theorem issueRead_word (ho : off % 4 = 0) (a : Agent) (ali t : Nat) :
    ∃ s', Sends s s' ∧ issueRead ⟨a, ali, off, 2, t⟩ s = answer a (readWord a (ali == 0) off s') := by
  obtain ⟨s', hs, e⟩ := issueRead_arrives h hp hl (x := ⟨a, ali, off, 2, t⟩) ho
  exact ⟨s', hs, e.trans (takeRead_word rfl s')⟩

theorem issueRead_counter (ho : off % 4 = 0) (hc : (findCnt off).isSome = true) (hf : fusedOff s off = false) (a : Agent)
    (ali t : Nat) : ∃ s', Sends s s' ∧ issueRead ⟨a, ali, off, 2, t⟩ s = answer a (counterLow a (ali == 0) off s') := by
  obtain ⟨s', hs, e⟩ := issueRead_word h hp hl ho a ali t
  exact ⟨s', hs, by rw [e, readWord_counter ((hs.fusedOff off).trans hf) hc]⟩

end

/-- A 64-bit read of a counter takes both its words: it returns the whole value and clears it. -/
theorem takeRead_double {s : State} {off : Nat} {a : Agent} (h : s.Sound) (hc : (findCnt off).isSome = true)
    (hf : fusedOff s off = false) (hv : s.flag .SYS_SNAP_CTRL_VIEW = false) (hr : readFirst s a off = false)
    (hn : findCnt (off + 4) = none) (hf' : fusedOff s (off + 4) = false) (t : Nat) : takeRead ⟨a, 0, off, 3, t⟩ s =
      (clearCount off (capture a (off + 4) (liveCount s off / 2 ^ 32) s)).emit (.readData a 3 (liveCount s off)) := by
  have lo := (readWord_counter hf hc a true).trans (counterLow_taken hv hr)
  have hi := readWord_high (s := clearCount off (capture a (off + 4) (liveCount s off / 2 ^ 32) s)) hf' hn
    (.inl (by rw [findCntHi_above]; exact hc)) a true
  have hcap : captured (clearCount off (capture a (off + 4) (liveCount s off / 2 ^ 32) s)) a (off + 4)
      = liveCount s off / 2 ^ 32 := captured_capture h.pairs liveCount_high
  unfold takeRead
  simp only [beq_self_eq_true, if_true, lo, hi, hcap, Nat.mod_add_div]

/-- FAR_READ_TIMEOUT on the oldest waiting read: 100 µs are 160,000 core clocks (R351). -/
theorem farReadTimeout_cons {s : State} {x : FarRead} {rest : List FarRead} (h : s.ctl.heldReads = x :: rest) :
    farReadTimeout s = if x.since + 160000 ≤ s.now then
      ({ s with ctl := { s.ctl with heldReads := rest } }).emit (.readError x.agent) else s := by
  unfold farReadTimeout
  rw [h]
  rfl

theorem farReadTimeout_nil {s : State} (h : s.ctl.heldReads = []) : farReadTimeout s = s := by
  unfold farReadTimeout
  rw [h]

/-- SYS_ID names the part (R374). -/
theorem readWord_id (s : State) (a : Agent) (side : Bool) :
    readWord a side 0 s = (if s.sys.part = .s2048 then 0x20481000 else 0x10241000, s) := by
  have hf : fusedReg s .SYS_ID 0 0 = false := by rw [fusedReg, show fusedIdx .SYS_ID 0 0 = false by decide, Bool.and_false]
  have h : readWord a side 0 s = ((liveValue a .SYS_ID 0 0 s).toNat, s) :=
    readWord_reg (r := .SYS_ID) (by decide +kernel) (i := 0) (j := 0) (by decide) (by decide) hf (by decide) rfl (by decide)
      a side
  rw [h, liveValue, if_pos rfl]
  split <;> rfl

end Sys2Proof.Machine
end

section
/-!
The obligations of the scope: every command completes, doze and wake, register accesses.
-/
open Sys2Proof Sys2Proof.Machine

/-- Settles O2, command by command: every meaning is a next state. -/
theorem everyCommandCompletes : Obligations.EveryCommandCompletes := by
  intro c s
  cases c <;> exact ⟨_, rfl⟩

/-- Settles O13: each clause runs the command to `doze`, `wake` or `wakeUp` of the port and reads what that leaves. -/
theorem dozeAndWake : Obligations.DozeAndWake := by
  unfold Obligations.DozeAndWake
  refine ⟨?accepted, ?refused, ?woken, ?sent, ?detected, ?unseen, fun s a p hp => exec_doze_wake_noPort hp a⟩
  case accepted =>
    intro s a p h hl hp hd ht hq he
    obtain ⟨s', ⟨h', m, rfl⟩, e⟩ := exec_doze h hl a hp
    exact ⟨_, e, doze_of_idle h' hd (dozeIdle_iff.mpr ⟨ht, hq, he⟩)⟩
  case refused =>
    intro s a p h hl hp hd hb
    obtain ⟨s', hs, e⟩ := exec_doze h hl a hp
    have hi : dozeIdle p.val s = false := by
      rw [← Bool.not_eq_true, dozeIdle_iff]
      rintro ⟨ht, hq, he⟩
      rcases hb with hb | ⟨c, hc, hb⟩ | hb
      · exact hb ht
      · exact hb (hq c hc)
      · exact Bool.false_ne_true (he.symm.trans hb)
    have hs' := hs
    obtain ⟨h', m, rfl⟩ := hs'
    obtain ⟨hr, hu, ho⟩ := doze_of_busy h' hd hi
    exact ⟨_, e, hr, hu, hs.only ho (by decide)⟩
  case woken =>
    intro s a p h hl hp hd hw
    obtain ⟨s', hs, e⟩ := exec_wake h hl a hp
    have hs' := hs
    obtain ⟨h', m, rfl⟩ := hs'
    obtain ⟨hc, hk, ha, hz, hu, ho⟩ := wake_of_dozing h' hd hw
    exact ⟨_, e, hc, hk, ha, hz, hu, hs.only ho (by decide)⟩
  case sent =>
    intro s p e h hw he
    obtain ⟨hd, hk, ha, -⟩ := wakeUp_port h p.val
    exact ⟨_, exec_wakePatternSent hw he, hd, hk, ha,
      ((Sofar.start h _ _ _).wakeUp (List.mem_singleton.mpr rfl) (List.mem_singleton.mpr rfl)).only⟩
  case detected =>
    intro s p seen n h hd hn hp
    refine ⟨_, (exec_wakePatternDetect s p seen n).trans (by rw [if_pos (wakeSeen_eq_true.mpr ⟨hd, hn, hp⟩)]), ?_⟩
    obtain ⟨h', hf, hc⟩ := countWake_spec h p.val
    obtain ⟨hz, hk, -, he⟩ := wakeUp_port h' p.val
    exact ⟨(cnt_congr he _ _ _).trans hc, hz, hk, (hf.wakeUp (List.mem_singleton.mpr rfl) (List.mem_singleton.mpr rfl)).only⟩
  case unseen =>
    intro s p seen n hb
    have hs : ¬ wakeSeen s p.val seen n = true := by
      rw [wakeSeen_eq_true]
      rintro ⟨hd, hn, hp⟩
      rcases hb with hb | hb | hb
      · omega
      · exact Bool.false_ne_true (hb.symm.trans hd)
      · exact hb hp
    rw [exec_wakePatternDetect, if_neg hs]

/-- Settles O51: each access is followed to its register, with what the link has carried before it (`Sends`), and the clause
is what the register's own step leaves: a log entry, a shadow, a held access or an answer. -/
theorem registerAccess : Obligations.RegisterAccess := by
  unfold Obligations.RegisterAccess
  refine ⟨?writes, ?untrained, ?timeout, ?idle, ?counters, ?lacking, ?highs, ?unaligned, ?identity⟩
  case writes =>
    intro s a ali size off v h hp hl
    refine ⟨fun ho => ?oddWrite, fun ho hz hu => ?narrow, fun ho hz hu => ?narrowLacking, fun ho hz h1 h2 h3 => ?nothing,
      fun r i j ho hz hr hu ha hw hk => ?noField, fun r i j ho hz hr hu hk hi => ?lackingWrite,
      fun r i j ho hz hr hu hb hg hw => ⟨fun ht => ?first, fun x ht h1 h2 => ?second⟩⟩
    case oddWrite => exact completes_registerWrite rfl (registerWrite_logs_unaligned h hp hl size.isLt ali.isLt off.isLt ho)
    case narrow => exact completes_registerWrite rfl (registerWrite_logs_narrow h hp hl hz ali.isLt off.isLt ho hu)
    case narrowLacking => exact congrArg _ ((registerWrite_narrow hp ho hz a ali.val v).trans (if_pos hu))
    all_goals obtain rfl : size = 2 := Fin.ext hz
    case nothing => exact completes_registerWrite rfl (registerWrite_logs_nothing h hp hl ali.isLt off.isLt ho h1 h2 h3)
    case noField => exact completes_registerWrite rfl (registerWrite_logs_alias h hp hl ali.isLt off.isLt ho hr hu ha hw hk)
    case lackingWrite => exact congrArg _ ((registerWrite_word hp ho a ali.val v).trans (issueWrite_fused hr hu hk hi))
    case first =>
      obtain ⟨t1, t2, t3, t4⟩ := registerWrite_shadowed (a := a) (ali := ali.val) (v := v) h hp hl ho hr hu hb hg hw
      rw [settled_first ht, seen_shadowed hg] at t1
      exact completes_registerWrite rfl ⟨t1, t2, t3, t4⟩
    case second =>
      obtain ⟨t1, t2, t3, t4⟩ := registerWrite_shadowed (a := a) (ali := ali.val) (v := v) h hp hl ho hr hu hb hg hw
      rw [settled_second ht h1 h2] at t1
      exact completes_registerWrite rfl ⟨t1, t2, t4⟩
  case untrained =>
    intro s a off v h hp hl ho hi hk
    have frame := fun x => ((Sofar.start h [.ctl] [] []).setCtl (by decide) x).only
    exact ⟨fun hg hu => completes_registerWrite (registerWrite_held hp hl ho hi hk hg hu) ⟨rfl, frame _⟩,
      completes_read (.inl rfl) (issueRead_held hp hl ho hi (inKey_of_aligned ho hk)) ⟨rfl, frame _⟩⟩
  case timeout =>
    intro s x rest h hx
    refine ⟨fun hn => congrArg Host.Outcome.next ((farReadTimeout_cons hx).trans (if_neg (by omega))),
      fun hn => ⟨_, congrArg Host.Outcome.next ((farReadTimeout_cons hx).trans (if_pos hn)), rfl, rfl, ?_⟩⟩
    exact (((Sofar.start h [.ctl, .out] _ _).setCtl (by decide) _).emit (by decide) _).only
  case idle => exact fun s hx => congrArg _ (farReadTimeout_nil hx)
  case counters =>
    intro s a ali off h hp hl ho hc hf
    refine ⟨fun ha hv hr => ?taken, fun ha hv hr => ?beaten, fun ha hv hd => ?viewed, fun ha hv => ?aliased,
      fun ha hv hr h8 hn hf' => ?double, fun hv => ?half⟩
    case taken =>
      obtain rfl : ali = 0 := Fin.ext ha
      obtain ⟨s', hs, e⟩ := issueRead_counter h hp hl ho hc hf a 0 s.now
      rw [beq_self_eq_true, counterLow_taken ((hs.flag _ 0 0).trans hv) ((hs.readFirst a _).trans hr), hs.liveCount] at e
      refine completes_read (.inl rfl) e ⟨congrArg _ hs.out, captured_capture hs.sound.pairs liveCount_high,
        liveCount_clearCount hs.sound.cnts _, hs.only ?_ (by decide)⟩
      exact ((((Sofar.start hs.sound _ _ _).capture (by decide) a _ _).clearCount (List.mem_singleton.mpr rfl)).emit
        (by decide) _).only
    case beaten =>
      obtain rfl : ali = 0 := Fin.ext ha
      obtain ⟨s', hs, e⟩ := issueRead_counter h hp hl ho hc hf a 0 s.now
      rw [beq_self_eq_true, counterLow_beaten ((hs.flag _ 0 0).trans hv) ((hs.readFirst a _).trans hr)] at e
      refine completes_read (.inl rfl) e ⟨congrArg _ hs.out, captured_capture (v := 0) hs.sound.pairs (by decide),
        hs.only ?_ (by decide)⟩
      exact (((Sofar.start hs.sound _ _ _).capture (by decide) a _ _).emit (by decide) _).only
    case viewed =>
      obtain rfl : ali = 0 := Fin.ext ha
      obtain ⟨s', hs, e⟩ := issueRead_counter h hp hl ho hc hf a 0 s.now
      have hd' := hd.imp_right (hs.flag .SYS_SNAP_STATUS_COPYING 0 0).trans
      rw [beq_self_eq_true, counterLow_held ((hs.flag _ 0 0).trans hv) hd', hs.heldCount] at e
      refine completes_read (.inl rfl) e ⟨congrArg _ hs.out, captured_capture hs.sound.pairs heldCount_high,
        hs.only ?_ (by decide)⟩
      exact (((Sofar.start hs.sound _ _ _).capture (by decide) a _ _).emit (by decide) _).only
    case aliased =>
      obtain ⟨s', hs, e⟩ := issueRead_counter h hp hl ho hc hf a ali.val s.now
      rw [beq_false_of_ne ha, counterLow_alias ((hs.flag _ 0 0).trans hv), hs.liveCount] at e
      exact completes_read (.inl rfl) e ⟨congrArg _ hs.out,
        hs.only ((Sofar.start hs.sound _ _ _).emit (by decide) _).only (by decide)⟩
    case double =>
      obtain rfl : ali = 0 := Fin.ext ha
      obtain ⟨s', hs, e⟩ := issueRead_arrives h hp hl (x := ⟨a, 0, off.toNat, 3, s.now⟩) h8
      rw [takeRead_double hs.sound hc ((hs.fusedOff _).trans hf) ((hs.flag _ 0 0).trans hv) ((hs.readFirst a _).trans hr) hn
        ((hs.fusedOff _).trans hf'), hs.liveCount] at e
      exact completes_read (.inl rfl) e ⟨congrArg _ hs.out, liveCount_clearCount hs.sound.cnts _⟩
    case half =>
      obtain ⟨s', hs, e⟩ := issueRead_arrives h hp hl (x := ⟨a, ali.val, off.toNat, 1, s.now⟩) (by dsimp only; omega)
      rw [takeRead_half rfl ho, readWord_counter ((hs.fusedOff _).trans hf) hc, counterLow_alias ((hs.flag _ 0 0).trans hv),
        hs.liveCount, Nat.mod_mod_of_dvd _ (by decide : 2 ^ 16 ∣ 2 ^ 32)] at e
      have frame {u : OutEv} := hs.only ((Sofar.start hs.sound [.out, .ctl] [] []).emit (by decide) u).only (by decide)
      exact completes_read (.inl rfl) e ⟨congrArg _ hs.out, frame⟩
  case lacking =>
    intro s a off h hp hl ho hf
    obtain ⟨s', hs, e⟩ := issueRead_word h hp hl ho a 0 s.now
    rw [readWord_fused ((hs.fusedOff _).trans hf)] at e
    exact completes_read (.inl rfl) e ⟨congrArg _ hs.out,
      hs.only ((Sofar.start hs.sound _ _ _).emit (by decide) _).only (by decide)⟩
  case highs =>
    intro s a off h hp hl ho hf hc hh
    obtain ⟨s', hs, e⟩ := issueRead_word h hp hl ho a 0 s.now
    rw [readWord_high ((hs.fusedOff _).trans hf) hc hh, hs.captured] at e
    exact completes_read (.inr rfl) e ⟨congrArg _ hs.out,
      hs.only ((Sofar.start hs.sound _ _ _).emit (by decide) _).only (by decide)⟩
  case unaligned =>
    intro s a ali size off c h hp hl hc ho
    have fits := AccFault.fits_mk (a := a) (by decide : 2 < 16) size.isLt ali.isLt off.isLt
    obtain ⟨lg, fr⟩ := (Sends.refl h).logged_near hl fits
    exact completes_read hc (issueRead_unaligned hp ho) ⟨lg.emit _, congrArg _ (fr.area .out (by decide)), fr.emit _⟩
  case identity =>
    intro s a h hp hl
    obtain ⟨s', hs, e⟩ := issueRead_word h hp hl (off := 0) rfl a 0 s.now
    rw [readWord_id, hs.sys] at e
    exact completes_read (.inl rfl) e (congrArg _ hs.out)
end

section
/-!
SUPPORT. The ageing sweep (R108, R110): entries of the slots that it reads, and what it does with one.
-/
namespace Sys2Proof.Machine

/-! ### Entries of slots -/

/-- An entry of one slot, or of two that name each other. -/
theorem entAt_some {m : SMap Slot} {i : Nat} {e : Ent} : entAt m i = some e ↔
    SMap.get? m i = some ⟨some e, false, none⟩
      ∨ ∃ j, SMap.get? m i = some ⟨some e, false, some j⟩ ∧ SMap.get? m j = some ⟨none, false, some i⟩ := by
  unfold entAt
  split
  · next e' h => simp [h]
  · next e' j h =>
    rw [h]
    split <;> simp_all
  · next h1 h2 =>
    refine ⟨nofun, ?_⟩
    rintro (h | ⟨j, h, -⟩)
    · exact absurd h (h1 e)
    · exact absurd h (h2 e j)

theorem get?_of_entAt {m : SMap Slot} {i : Nat} {e : Ent} (h : entAt m i = some e) :
    SMap.get? m i = some ⟨some e, false, otherSlot m i⟩ := by
  unfold otherSlot
  rcases entAt_some.mp h with h | ⟨j, h, -⟩ <;> rw [h]

/-- The other slot of an entry names the first. -/
theorem get?_otherSlot {m : SMap Slot} {i j : Nat} {e : Ent} (h : entAt m i = some e) (ho : otherSlot m i = some j) :
    SMap.get? m j = some ⟨none, false, some i⟩ := by
  unfold otherSlot at ho
  rcases entAt_some.mp h with h | ⟨k, h, hk⟩
  · rw [h] at ho
    cases ho
  · rw [h] at ho
    cases ho
    exact hk

theorem otherSlot_ne {m : SMap Slot} {i j : Nat} {e : Ent} (h : entAt m i = some e) (ho : otherSlot m i = some j) :
    j ≠ i := by
  rintro rfl
  have := (get?_of_entAt h).symm.trans (get?_otherSlot h ho)
  cases this

theorem entAt_replaceEnt {m : SMap Slot} {i : Nat} {e : Ent} (h : entAt m i = some e) (hm : m.sorted = true) (x : Ent) :
    entAt (replaceEnt m i x) i = some x := by
  unfold replaceEnt
  rw [entAt_some]
  rcases ho : otherSlot m i with _ | j
  · exact .inl (SMap.get?_insert_self _ _ _)
  · exact .inr ⟨j, SMap.get?_insert_self _ _ _,
      (SMap.get?_insert_ne (otherSlot_ne h ho) hm _).trans (get?_otherSlot h ho)⟩

theorem get?_replaceEnt_ne {m : SMap Slot} {i j : Nat} (hj : j ≠ i) (hm : m.sorted = true) (x : Ent) :
    SMap.get? (replaceEnt m i x) j = SMap.get? m j := SMap.get?_insert_ne hj hm _

/-- Another entry in a slot that is used leaves the same slots free. -/
theorem isSome_replaceEnt {m : SMap Slot} {i : Nat} {e : Ent} (h : entAt m i = some e) (hm : m.sorted = true) (x : Ent)
    (j : Nat) : (SMap.get? (replaceEnt m i x) j).isSome = (SMap.get? m j).isSome := by
  by_cases hj : j = i
  · subst hj
    rw [get?_of_entAt h, replaceEnt, SMap.get?_insert_self]
    rfl
  · rw [get?_replaceEnt_ne hj hm]

/-- Both slots of a cleared entry are free. -/
theorem slotFree_clearEnt {m : SMap Slot} {i : Nat} {e : Ent} (h : entAt m i = some e) (hm : m.sorted = true) :
    slotFree (clearEnt m i) i = true ∧ ∀ j, otherSlot m i = some j → slotFree (clearEnt m i) j = true := by
  unfold clearEnt slotFree
  rcases ho : otherSlot m i with _ | j
  · exact ⟨by rw [SMap.get?_erase_self hm]; rfl, fun j hj => by cases hj⟩
  · have hb : otherSlot m j = some i := by rw [otherSlot, get?_otherSlot h ho]
    have hs := SMap.sorted_erase hm i
    dsimp only
    rw [if_pos hb]
    refine ⟨?_, fun k hk => ?_⟩
    · rw [SMap.get?_erase_ne (otherSlot_ne h ho).symm hs, SMap.get?_erase_self hm]
      rfl
    · cases hk
      rw [SMap.get?_erase_self hs]
      rfl

/-- A slot whose entry is read in good parity reports nothing (R103). -/
theorem slotParity_good {s : State} {i : Nat} {e : Ent} (h : entAt s.tbl.slots i = some e) : slotParity [i] s = s := by
  unfold slotParity
  rw [List.filter_singleton, get?_of_entAt h]
  rfl

/-! ### The count of stalls (R110) -/

theorem stallCount_slots (s : State) : (stallCount s).tbl.slots = s.tbl.slots := by
  unfold stallCount
  split
  · rfl
  · split <;> rfl

theorem stallCount_regs (s : State) : (stallCount s).regs = s.regs := by
  unfold stallCount
  split
  · rfl
  · split <;> rfl

theorem cnt_stallCount {s : State} (h : s.Sound) {c : Cnt} (hc : freeC ⟨131072, 0x0, 0x80000000000000⟩ c = true) :
    (stallCount s).cnt c = s.cnt c :=
  (kept_stallCount (le_same _) s (.refl _ s)).cnt h (sound_stallCount s h) hc 0 0

/-! ### A record that waits -/

/-- What a record that waits for its ring leaves: the tables, the plane's state and the counts of the sweep. -/
theorem noteWait_leaves {s : State} (h : s.Sound) (n : NRec) :
    (noteWait n s).2.Sound ∧ (noteWait n s).2.tbl = s.tbl
      ∧ (noteWait n s).2.cnt .TBL_AGE_REMOVE_CNT = s.cnt .TBL_AGE_REMOVE_CNT
      ∧ (noteWait n s).2.cnt .TBL_AGE_NOTICE_CNT = s.cnt .TBL_AGE_NOTICE_CNT := by
  have hk := of_snd (kept_noteWait (le_same _) n s (.refl _ s))
  have hs := of_snd (sound_noteWait n s h)
  exact ⟨hs, hk.tbl (by decide), hk.cnt h hs (by decide +kernel) 0 0, hk.cnt h hs (by decide +kernel) 0 0⟩

/-! ### What the sweep does with an entry (R108, R110) -/

section
variable {s : State} {i : Nat} {e : Ent}

theorem ageEntry_hit (hh : e.hit = true) : ageEntry i e s = (true, setEnt i { e with hit := false } s) := if_pos hh

/-- The entry leaves the slots that it stands in. -/
def removeEnt (i : Nat) (s : State) : State :=
  ({ s with tbl := { s.tbl with slots := clearEnt s.tbl.slots i } }).count .TBL_AGE_REMOVE_CNT

/-- The entry is marked AGED. -/
def markAged (i : Nat) (e : Ent) (s : State) : State := (setEnt i { e with aged := true } s).count .TBL_AGE_NOTICE_CNT

theorem ageEntry_removal (hh : e.hit = false) (hm : s.flag .TBL_AGE_CFG_MODE = false)
    (hp : s.flag .SYS_PLANE_STATE_HEADLESS = false) : ageEntry i e s =
      if (noteWait (ageRec e true) s).1 then (true, removeEnt i (noteWait (ageRec e true) s).2)
      else (false, (noteWait (ageRec e true) s).2) := by
  unfold ageEntry
  rw [hh, hm, hp, if_neg Bool.false_ne_true]
  rcases noteWait (ageRec e true) s with ⟨_ | _, t⟩ <;> rfl

theorem ageEntry_mark (hh : e.hit = false) (ha : e.aged = false)
    (hm : s.flag .TBL_AGE_CFG_MODE = true ∨ s.flag .SYS_PLANE_STATE_HEADLESS = true) : ageEntry i e s =
      if (noteWait (ageRec e false) s).1 then (true, markAged i e (noteWait (ageRec e false) s).2)
      else (false, (noteWait (ageRec e false) s).2) := by
  unfold ageEntry
  rw [if_neg (by rw [hh]; exact Bool.false_ne_true)]
  dsimp only
  rw [if_pos ((Bool.or_eq_true _ _).mpr hm), if_neg (by rw [ha]; exact Bool.false_ne_true)]
  rcases noteWait (ageRec e false) s with ⟨_ | _, t⟩ <;> rfl

theorem ageEntry_marked (hh : e.hit = false) (ha : e.aged = true)
    (hm : s.flag .TBL_AGE_CFG_MODE = true ∨ s.flag .SYS_PLANE_STATE_HEADLESS = true) : ageEntry i e s = (true, s) := by
  unfold ageEntry
  rw [hh, ha, if_neg Bool.false_ne_true]
  dsimp only
  rw [if_pos ((Bool.or_eq_true _ _).mpr hm)]
  rfl

end

/-! ### The sweep at a slot -/

theorem sweepOn_slots (i : Nat) (s : State) : (sweepOn i s).tbl.slots = s.tbl.slots := by
  unfold sweepOn
  dsimp only
  split <;> rw [setFld_tbl, setFld_tbl]

theorem sweepOn_cnts (i : Nat) (s : State) : (sweepOn i s).cnts = s.cnts := by
  unfold sweepOn
  dsimp only
  split <;> rw [setFld_cnts, setFld_cnts]

/-- The sweep stands halted from now on, if it does not stand already (R110). -/
def halted (u : State) : State :=
  if u.tbl.stallAt.isNone then { u with tbl := { u.tbl with stallAt := some u.now } } else u

theorem halted_leaves (u : State) :
    (halted u).tbl.slots = u.tbl.slots ∧ (halted u).tbl.stallAt.isSome = true ∧ (halted u).regs = u.regs := by
  unfold halted
  split
  · exact ⟨rfl, rfl, rfl⟩
  · next hn => exact ⟨rfl, by rwa [← Option.not_isSome, Bool.not_eq_true', Bool.not_eq_false] at hn, rfl⟩

/-- The sweep stands at a slot (R110). -/
def standAt (i : Nat) (s : State) : State :=
  halted ((s.setFld .TBL_AGE_STATUS_ACTIVE 1).setFld .TBL_AGE_STATUS_POSITION i)

theorem standAt_shows {s : State} (h : s.Sound) (i : Nat) :
    (standAt i s).tbl.slots = s.tbl.slots ∧ (standAt i s).tbl.stallAt.isSome = true
      ∧ (standAt i s).flag .TBL_AGE_STATUS_ACTIVE = true ∧ (standAt i s).fld .TBL_AGE_STATUS_POSITION = i % 2 ^ 24 := by
  have h2 := sorted_setFld h.regs .TBL_AGE_STATUS_ACTIVE 1 0 0
  have active : ((s.setFld .TBL_AGE_STATUS_ACTIVE 1).setFld .TBL_AGE_STATUS_POSITION i).flag .TBL_AGE_STATUS_ACTIVE = true :=
    (flag_setFld_beside h2 (by decide) i 0 0).trans (flag_setFld h.regs (by decide) (by decide) 1 0 0)
  have pos := fld_setFld h2 (f := .TBL_AGE_STATUS_POSITION) (by decide) (by decide) i 0 0
  obtain ⟨slots, stall, regs⟩ := halted_leaves ((s.setFld .TBL_AGE_STATUS_ACTIVE 1).setFld .TBL_AGE_STATUS_POSITION i)
  rw [setFld_tbl, setFld_tbl] at slots
  exact ⟨slots, stall, (flag_congr regs _ _ _).trans active, (fld_congr regs _ _ _).trans pos⟩

/-- What follows what the sweep has done with the entry of its slot. -/
def afterEntry (i : Nat) (r : Bool × State) : State := if r.1 then sweepOn i r.2 else standAt i r.2

/-- The sweep reads the slot of an entry that ages. -/
theorem ageSweepVisit_entry {s : State} {i : Nat} {e : Ent} (hp : s.fld .TBL_AGE_CFG_PERIOD_S ≠ 0)
    (hw : sweepAt s (if s.flag .TBL_AGE_STATUS_ACTIVE then s.fld .TBL_AGE_STATUS_POSITION else 0) = some i)
    (he : entAt s.tbl.slots i = some e) (ha : ages e = true) :
    ageSweepVisit s = afterEntry i (ageEntry i e (stallCount s)) := by
  have he' : entAt (stallCount s).tbl.slots i = some e := by rw [stallCount_slots, he]
  unfold ageSweepVisit
  rw [if_neg hp]
  dsimp only
  rw [hw]
  dsimp only
  rw [slotParity_good he', he']
  dsimp only
  rw [if_pos ha]
  rcases ageEntry i e (stallCount s) with ⟨_ | _, t⟩
  · exact (if_neg Bool.false_ne_true).symm
  · exact (if_pos rfl).symm

/-- Every other visit leaves the slots of the tables alone. -/
theorem ageSweepVisit_rest {s : State}
    (hn : s.fld .TBL_AGE_CFG_PERIOD_S = 0 ∨ ∀ i e,
      sweepAt s (if s.flag .TBL_AGE_STATUS_ACTIVE then s.fld .TBL_AGE_STATUS_POSITION else 0) = some i →
      entAt s.tbl.slots i = some e → ages e = false) : (ageSweepVisit s).tbl.slots = s.tbl.slots := by
  unfold ageSweepVisit
  split
  · exact stallCount_slots s
  · next hp =>
    replace hn := hn.resolve_left hp
    dsimp only
    generalize hw : sweepAt s _ = w at hn ⊢
    cases w with
    | none => exact sweepOn_slots _ _
    | some i =>
      have hq : (slotParity [i] (stallCount s)).tbl.slots = s.tbl.slots := by
        rw [(kept_slotParity (le_same _) [i] (stallCount s) (.refl _ _)).tbl (by decide), stallCount_slots]
      dsimp only
      rw [hq]
      rcases he : entAt s.tbl.slots i with _ | e
      · exact (sweepOn_slots _ _).trans hq
      · dsimp only
        rw [if_neg (by rw [hn i e rfl he]; exact Bool.false_ne_true)]
        exact (sweepOn_slots _ _).trans hq

/-- While headless a visit frees no slot and fills none. -/
theorem ageEntry_headless {s : State} (h : s.Sound) {i : Nat} {e : Ent} (he : entAt s.tbl.slots i = some e)
    (hp : s.flag .SYS_PLANE_STATE_HEADLESS = true) (j : Nat) :
    (SMap.get? (ageEntry i e s).2.tbl.slots j).isSome = (SMap.get? s.tbl.slots j).isSome := by
  cases hh : e.hit with
  | true => rw [ageEntry_hit hh]; exact isSome_replaceEnt he h.tbl.slots _ j
  | false =>
    cases ha : e.aged with
    | true => rw [ageEntry_marked hh ha (.inr hp)]
    | false =>
      obtain ⟨-, ht, -⟩ := noteWait_leaves h (ageRec e false)
      rw [ageEntry_mark hh ha (.inr hp)]
      split
      · change (SMap.get? (replaceEnt (noteWait (ageRec e false) s).2.tbl.slots i _) j).isSome = _
        rw [ht]
        exact isSome_replaceEnt he h.tbl.slots _ j
      · exact congrArg (fun t : TblSt => (SMap.get? t.slots j).isSome) ht

theorem afterEntry_slots (i : Nat) {r : Bool × State} (h : r.2.Sound) : (afterEntry i r).tbl.slots = r.2.tbl.slots := by
  unfold afterEntry
  split
  · exact sweepOn_slots _ _
  · exact (standAt_shows h i).1

end Sys2Proof.Machine
end

section
open Sys2Proof Sys2Proof.Machine

/-- Settles O24: a visit is what the sweep does with the entry of its slot (`ageEntry`), after the count of stalls. -/
theorem ageingSweep : Obligations.AgeingSweep := by
  unfold Obligations.AgeingSweep
  refine ⟨fun s i e h hp hact hpos hw he hage => ?_, fun s h hp => ⟨_, rfl, fun j => ?headless⟩⟩
  case headless =>
    generalize hq : (if s.flag .TBL_AGE_STATUS_ACTIVE then s.fld .TBL_AGE_STATUS_POSITION else 0) = q
    by_cases hr : s.fld .TBL_AGE_CFG_PERIOD_S ≠ 0 ∧ ∃ i e, sweepAt s q = some i ∧ entAt s.tbl.slots i = some e ∧ ages e = true
    · obtain ⟨hz, i, e, hw, he, ha⟩ := hr
      have hs := sound_stallCount s h
      have he' : entAt (stallCount s).tbl.slots i = some e := by rw [stallCount_slots, he]
      rw [ageSweepVisit_entry hz (hq ▸ hw) he ha, afterEntry_slots i (of_snd (sound_ageEntry i e _ hs)),
        ageEntry_headless hs he' ((flag_congr (stallCount_regs s) _ _ _).trans hp), stallCount_slots]
    · rw [ageSweepVisit_rest]
      rw [hq]
      by_contra hc
      push Not at hc hr
      obtain ⟨hz, i, e, hw, he, ha⟩ := hc
      exact ha (by simpa using hr hz i e hw he)
  have hs := sound_stallCount s h
  have he' : entAt (stallCount s).tbl.slots i = some e := by rw [stallCount_slots, he]
  have hm := hs.tbl.slots
  have visit : ageSweepVisit s = afterEntry i (ageEntry i e (stallCount s)) :=
    ageSweepVisit_entry hp (by rw [hact, if_pos rfl, hpos, hw]) he hage
  have flag (f : Fld) := flag_congr (stallCount_regs s) f 0 0
  have step {P : State → Prop} (k : P (afterEntry i (ageEntry i e (stallCount s)))) : completes .ageSweepVisit s P :=
    ⟨_, rfl, by rw [visit]; exact k⟩
  refine ⟨fun hh => step ?hit, fun hh hmode hpl hn => step ?removed, fun hh ha hmode hn => step ?marked,
    fun hh hmode hpl hn => step ?stands⟩
  case hit =>
    rw [ageEntry_hit hh, afterEntry, if_pos rfl, sweepOn_slots]
    exact ⟨entAt_replaceEnt he' hm _, fun j hj => (get?_replaceEnt_ne hj hm _).trans (by rw [stallCount_slots])⟩
  case removed =>
    obtain ⟨hw, ht, hc, -⟩ := noteWait_leaves hs (ageRec e true)
    rw [ageEntry_removal hh ((flag _).trans hmode) ((flag _).trans hpl), if_pos hn, afterEntry, if_pos rfl, sweepOn_slots,
      cnt_congr (sweepOn_cnts _ _)]
    obtain ⟨free, other⟩ := slotFree_clearEnt he' hm
    have hr : (removeEnt i (noteWait (ageRec e true) (stallCount s)).2).tbl.slots = clearEnt (stallCount s).tbl.slots i :=
      congrArg (fun t : TblSt => clearEnt t.slots i) ht
    rw [hr]
    refine ⟨free, fun j hj => other j (by rw [stallCount_slots, hj]), ?_⟩
    rw [← cnt_stallCount h (by decide +kernel), ← hc]
    exact cnt_count hw.cnts .TBL_AGE_REMOVE_CNT 0 0 1
  case marked =>
    obtain ⟨hw, ht, -, hc⟩ := noteWait_leaves hs (ageRec e false)
    rw [ageEntry_mark hh ha (hmode.imp (flag _).trans (flag _).trans), if_pos hn, afterEntry, if_pos rfl, sweepOn_slots,
      cnt_congr (sweepOn_cnts _ _)]
    have hr : (markAged i e (noteWait (ageRec e false) (stallCount s)).2).tbl.slots
        = replaceEnt (stallCount s).tbl.slots i { e with aged := true } :=
      congrArg (fun t : TblSt => replaceEnt t.slots i { e with aged := true }) ht
    rw [hr]
    refine ⟨entAt_replaceEnt he' hm _, ?_⟩
    rw [← cnt_stallCount h (by decide +kernel), ← hc]
    exact cnt_count (s := setEnt i { e with aged := true } _) hw.cnts .TBL_AGE_NOTICE_CNT 0 0 1
  case stands =>
    obtain ⟨hw, ht, -⟩ := noteWait_leaves hs (ageRec e true)
    rw [ageEntry_removal hh ((flag _).trans hmode) ((flag _).trans hpl), if_neg (by rw [hn]; exact Bool.false_ne_true), afterEntry,
      if_neg Bool.false_ne_true]
    obtain ⟨slots, stall, active, pos⟩ := standAt_shows hw i
    refine ⟨slots.trans ((congrArg TblSt.slots ht).trans (stallCount_slots s)), active, pos.trans ?_, stall⟩
    rw [← hpos]
    exact fld_mod s .TBL_AGE_STATUS_POSITION 0 0
end

section
/-!
SUPPORT. Rings that stop (R26, R27, R312, R314): what `stopRing`, `setRing`, `discardHeld` and the folds over all rings leave.
-/
namespace Sys2Proof.Machine

/-! ### Elements of one register array -/

/-- Two elements of a register array lie at two offsets. -/
theorem off_ne_index {r : Reg} (hr : r ∈ Reg.all) (h2 : 0 < r.n2) {i k : Nat} (hi : i < r.n1) (hk : k < r.n1) (h : i ≠ k) :
    r.off i ≠ r.off k := by
  intro e
  have hl := Reg.locate_off hr hi h2
  rw [e, Reg.locate_off hr hk h2] at hl
  cases hl
  exact h rfl

/-- A register of the map whose elements the part has. -/
theorem fusedOff_write32 {r : Reg} (hr : r ∈ Reg.all) {i : Nat} (hi : i < r.n1) (h2 : 0 < r.n2)
    (hf : fusedIdx r i 0 = false) (s : State) (a : Agent) (v : Nat) : fusedOff s (write32 a r v i).off = false := by
  rw [write32_off, fusedOff_off hr hi h2, fusedReg, hf, Bool.and_false]

/-! ### The working state of a ring -/

theorem ringOf_setRing {s : State} (h : s.Sound) (r : Nat) (x : RingSt) : ringOf (setRing r x s) r = x :=
  SMap.getD_put_self h.host.rings r _ x

theorem ringOf_setRing_ne {s : State} (h : s.Sound) {r q : Nat} (hq : q ≠ r) (x : RingSt) :
    ringOf (setRing r x s) q = ringOf s q := SMap.getD_put_ne h.host.rings hq _ x _

theorem ringOf_congr {s t : State} (h : t.host = s.host) (r : Nat) : ringOf t r = ringOf s r := by unfold ringOf; rw [h]

theorem setRing_regs (r : Nat) (x : RingSt) (s : State) : (setRing r x s).regs = s.regs := rfl

theorem ringEn_congr {s t : State} (h : t.regs = s.regs) (r : Nat) : ringEn t r = ringEn s r := flag_congr h _ _ _

theorem headOf_congr {s t : State} (h : t.regs = s.regs) (r : Nat) : headOf t r = headOf s r := by
  unfold headOf; rw [reg_congr h]

theorem tailOf_congr {s t : State} (h : t.regs = s.regs) (r : Nat) : tailOf t r = tailOf s r := by
  unfold tailOf; rw [reg_congr h]

theorem ringCtrl_mem : Reg.HOST_RING_CTRL ∈ Reg.all := by decide +kernel

/-- EN and RUNNING of a ring that stops are clear. -/
def ringOff (r : Nat) (s : State) : State := (s.setFld .HOST_RING_CTRL_EN 0 r).setFld .HOST_RING_STATUS_RUNNING 0 r

theorem ringEn_ringOff {s : State} (h : s.Sound) {r q : Nat} (hr : r < 172) (hq : q < 172) :
    ringEn (ringOff r s) q = (ringEn s q && decide (q ≠ r)) := by
  have h2 := sorted_setFld h.regs .HOST_RING_CTRL_EN 0 r 0
  have hs : ringEn (ringOff r s) q = (s.setFld .HOST_RING_CTRL_EN 0 r).flag .HOST_RING_CTRL_EN q :=
    flag_setFld_apart h2 (by decide) 0 r 0 q 0
  rw [hs]
  by_cases e : q = r
  · subst e
    rw [flag_setFld h.regs (by decide) (by decide)]
    simp
  · have := fld_setFld_off (f := .HOST_RING_CTRL_EN) (g := .HOST_RING_CTRL_EN) h.regs (off_ne_index ringCtrl_mem (by decide) hq hr e) 0
    simp only [ringEn, State.flag, this, e, ne_eq, not_false_eq_true, decide_true, Bool.and_true]

theorem sound_ringOff {s : State} (h : s.Sound) (r : Nat) : (ringOff r s).Sound :=
  sound_State_setFld _ _ _ _ _ (sound_State_setFld _ _ _ _ _ h)

theorem ringOff_host (r : Nat) (s : State) : (ringOff r s).host = s.host := by unfold ringOff; rw [setFld_host, setFld_host]

theorem headOf_ringOff {s : State} (h : s.Sound) (r q : Nat) : headOf (ringOff r s) q = headOf s q := by
  have h2 := sorted_setFld h.regs .HOST_RING_CTRL_EN 0 r 0
  unfold headOf ringOff
  rw [reg_setFld_apart h2 (by decide), reg_setFld_apart h.regs (by decide)]

theorem stopRing_eq (r : Nat) (s : State) : stopRing r s =
    setRing r { ringOf (ringOff r s) r with raw := [], pre := [], preAt := headOf (ringOff r s) r } (ringOff r s) := rfl

/-- A stopping ring keeps its units. -/
theorem units_stopRing {s : State} (h : s.Sound) (r q : Nat) : (ringOf (stopRing r s) q).units = (ringOf s q).units := by
  rw [stopRing_eq]
  by_cases e : q = r
  · rw [e, ringOf_setRing (sound_ringOff h r), ringOf_congr (ringOff_host r s)]
  · rw [ringOf_setRing_ne (sound_ringOff h r) e, ringOf_congr (ringOff_host r s)]

/-! ### What only stops rings -/

/-- From s to t rings may only stop: no HEAD moves, no ring starts, and a quiet ring stays quiet. -/
structure RingsStop (s t : State) : Prop where
  sound : t.Sound
  head : ∀ q, headOf t q = headOf s q
  ever : ∀ q, (ringOf t q).everEn = (ringOf s q).everEn
  off : ∀ q < 172, ringEn s q = false → ringEn t q = false
  quiet : ∀ q, (ringOf s q).quiet = true → (ringOf t q).quiet = true

theorem RingsStop.refl {s : State} (h : s.Sound) : RingsStop s s :=
  ⟨h, fun _ => rfl, fun _ => rfl, fun _ _ => id, fun _ => id⟩

theorem RingsStop.trans {s t u : State} (h : RingsStop s t) (k : RingsStop t u) : RingsStop s u :=
  ⟨k.sound, fun q => (k.head q).trans (h.head q), fun q => (k.ever q).trans (h.ever q),
    fun q hq e => k.off q hq (h.off q hq e), fun q e => k.quiet q (h.quiet q e)⟩

/-- What leaves the rings' working states, their EN and their HEAD alone. -/
theorem RingsStop.of_kept {T : Touch} {s t : State} (hk : Kept T s t) (hs : s.Sound) (ht : t.Sound)
    (hh : T.a.testBit 11 = false) (h1 : freeR T .HOST_RING_HEAD = true) (h2 : freeR T .HOST_RING_CTRL = true) :
    RingsStop s t := by
  have host := hk.host hh
  have en (q : Nat) : ringEn t q = ringEn s q := hk.flag (f := .HOST_RING_CTRL_EN) hs ht h2 q 0
  exact ⟨ht, fun q => by rw [headOf, headOf, hk.reg hs ht h1], fun q => by rw [ringOf_congr host],
    fun q _ e => (en q).trans e, fun q e => by rwa [ringOf_congr host]⟩

/-- Another working state of a ring that was enabled as before, and is as quiet. -/
theorem RingsStop.setRing {s : State} (h : s.Sound) (r : Nat) {x : RingSt} (hx : x.everEn = (ringOf s r).everEn)
    (hq : (ringOf s r).quiet = true → x.quiet = true) : RingsStop s (setRing r x s) := by
  refine ⟨sound_setRing _ _ _ h, fun q => rfl, fun q => ?_, fun q _ => id, fun q e => ?_⟩
  · by_cases hr : q = r
    · rw [hr, ringOf_setRing h, hx]
    · rw [ringOf_setRing_ne h hr]
  · by_cases hr : q = r
    · rw [hr, ringOf_setRing h]; exact hq (hr ▸ e)
    · rwa [ringOf_setRing_ne h hr]

theorem RingsStop.stopRing {s : State} (h : s.Sound) {r : Nat} (hr : r < 172) : RingsStop s (stopRing r s) := by
  have ho : RingsStop s (ringOff r s) := ⟨sound_ringOff h r, headOf_ringOff h r,
    fun q => by rw [ringOf_congr (ringOff_host r s)], fun q hq e => by rw [ringEn_ringOff h hr hq, e, Bool.false_and],
    fun q e => by rwa [ringOf_congr (ringOff_host r s)]⟩
  exact ho.trans (.setRing ho.sound r rfl id)

theorem ringEn_stopRing {s : State} (h : s.Sound) {r : Nat} (hr : r < 172) : ringEn (stopRing r s) r = false := by
  rw [stopRing_eq, ringEn_congr (setRing_regs _ _ _), ringEn_ringOff h hr hr]
  simp

theorem RingsStop.discardHeld {s : State} (h : s.Sound) (r : Nat) : RingsStop s (discardHeld r s) := by
  have units (l : List RUnit) : RingsStop s (setUnits r l s) := by
    have hr : RingsStop s (Machine.setRing r { ringOf s r with units := l } s) := .setRing h r rfl id
    exact hr.trans (.of_kept (kept_showHeld (le_same _) r _ (.refl _ _)) hr.sound (sound_showHeld _ _ hr.sound) (by decide)
      (by decide +kernel) (by decide +kernel))
  unfold Machine.discardHeld
  exact (units _).trans ⟨sound_State_count _ _ _ _ _ (units _).sound, fun _ => rfl, fun _ => rfl, fun _ _ => id, fun _ => id⟩

/-- Over a list of rings: each step only stops rings and does its part, which later steps keep. -/
theorem RingsStop.foldl {f : State → Nat → State} {D : Nat → State → Prop} {l : List Nat}
    (step : ∀ s, s.Sound → ∀ r ∈ l, RingsStop s (f s r) ∧ D r (f s r))
    (stays : ∀ r ∈ l, ∀ s t, D r s → RingsStop s t → D r t) {s : State} (h : s.Sound) :
    RingsStop s (l.foldl f s) ∧ ∀ r ∈ l, D r (l.foldl f s) := by
  induction l generalizing s with
  | nil => exact ⟨.refl h, fun r hr => by cases hr⟩
  | cons a l ih =>
    obtain ⟨h1, h2⟩ := step s h a List.mem_cons_self
    obtain ⟨k1, k2⟩ := ih (fun s h r hr => step s h r (List.mem_cons_of_mem _ hr))
      (fun r hr => stays r (List.mem_cons_of_mem _ hr)) h1.sound
    refine ⟨h1.trans k1, fun r hr => ?_⟩
    rcases List.mem_cons.mp hr with rfl | hr
    · exact stays _ List.mem_cons_self _ _ h2 k1
    · exact k2 r hr

/-! ### Every ring stops (R26, R314) -/

/-- A ring that runs begins to stop. -/
def stopIfOn (s : State) (r : Nat) : State := if ringEn s r then stopRing r s else s

theorem stopIfOn_stops {s : State} (h : s.Sound) {r : Nat} (hr : r < 172) :
    RingsStop s (stopIfOn s r) ∧ ringEn (stopIfOn s r) r = false := by
  unfold stopIfOn
  split
  · exact ⟨.stopRing h hr, ringEn_stopRing h hr⟩
  · next e => exact ⟨.refl h, Bool.eq_false_iff.mpr e⟩

/-- The requested stop of every ring. -/
def stopAll (s : State) : State := (List.range 172).foldl stopIfOn s

theorem stopAll_stops {s : State} (h : s.Sound) : RingsStop s (stopAll s) ∧ ∀ r < 172, ringEn (stopAll s) r = false := by
  obtain ⟨h1, h2⟩ := RingsStop.foldl (D := fun r t => ringEn t r = false) (l := List.range 172)
    (fun s h r hr => stopIfOn_stops h (List.mem_range.mp hr)) (fun r hr s t e k => k.off r (List.mem_range.mp hr) e) h
  exact ⟨h1, fun r hr => h2 r (List.mem_range.mpr hr)⟩

theorem units_stopAll {s : State} (h : s.Sound) (q : Nat) : (ringOf (stopAll s) q).units = (ringOf s q).units := by
  refine (foldl_holds (P := fun t => t.Sound ∧ (ringOf t q).units = (ringOf s q).units) ?_ ⟨h, rfl⟩).2
  rintro t r ⟨ht, e⟩
  unfold stopIfOn
  split
  · exact ⟨sound_stopRing _ _ ht, (units_stopRing ht r q).trans e⟩
  · exact ⟨ht, e⟩

/-- A ring that was ever enabled stops, and is written no more. -/
def quietRing (s : State) (r : Nat) : State :=
  if (ringOf s r).everEn then
    discardHeld r (setRing r { ringOf (stopIfOn s r) r with quiet := true } (stopIfOn s r))
  else s

theorem quietRings_eq (s : State) : quietRings s = (List.range 172).foldl quietRing s := rfl

/-- What an entry with cause 2 or 3 does to a ring. -/
def silenced (r : Nat) (t : State) : Prop :=
  (ringOf t r).everEn = true → ringEn t r = false ∧ (ringOf t r).quiet = true

theorem silenced.stays {r : Nat} (hr : r < 172) {s t : State} (h : silenced r s) (k : RingsStop s t) : silenced r t := by
  intro e
  obtain ⟨h1, h2⟩ := h ((k.ever r).symm.trans e)
  exact ⟨k.off r hr h1, k.quiet r h2⟩

theorem quietRing_silences {s : State} (h : s.Sound) {r : Nat} (hr : r < 172) :
    RingsStop s (quietRing s r) ∧ silenced r (quietRing s r) := by
  unfold quietRing
  split
  · obtain ⟨h1, h2⟩ := stopIfOn_stops h hr
    have k : RingsStop (stopIfOn s r) (setRing r { ringOf (stopIfOn s r) r with quiet := true } (stopIfOn s r)) :=
      .setRing h1.sound r rfl (fun _ => rfl)
    have quiet : silenced r (setRing r { ringOf (stopIfOn s r) r with quiet := true } (stopIfOn s r)) := fun _ =>
      ⟨h2, by rw [ringOf_setRing h1.sound]⟩
    have d := RingsStop.discardHeld k.sound r
    exact ⟨(h1.trans k).trans d, quiet.stays hr d⟩
  · next e => exact ⟨.refl h, fun e' => absurd e' e⟩

theorem quietRings_silences {s : State} (h : s.Sound) :
    RingsStop s (quietRings s) ∧ ∀ r < 172, silenced r (quietRings s) := by
  rw [quietRings_eq]
  obtain ⟨h1, h2⟩ := RingsStop.foldl (D := silenced) (l := List.range 172)
    (fun s h r hr => quietRing_silences h (List.mem_range.mp hr)) (fun r hr s t e k => e.stays (List.mem_range.mp hr) k) h
  exact ⟨h1, fun r hr => h2 r (List.mem_range.mpr hr)⟩

end Sys2Proof.Machine
end

section
/-!
SUPPORT. Entry to headless forwarding (R25 to R27).
-/
namespace Sys2Proof.Machine

/-! ### SYS_PLANE_STATE -/

theorem planeCtrl_there (s : State) (a : Agent) (v : Nat) : fusedOff s (write32 a .SYS_PLANE_CTRL v).off = false :=
  fusedOff_write32 (by decide +kernel) (by decide) (by decide) (by decide) s a v

/-- HEADLESS and CAUSE are set, and IDL_UP stays. -/
theorem plane_setHeadless {s : State} (h : s.regs.sorted = true) {cause : Nat} (hc : cause < 4) :
    ((s.setFld .SYS_PLANE_STATE_HEADLESS 1).setFld .SYS_PLANE_STATE_CAUSE cause).flag .SYS_PLANE_STATE_HEADLESS = true
      ∧ ((s.setFld .SYS_PLANE_STATE_HEADLESS 1).setFld .SYS_PLANE_STATE_CAUSE cause).fld .SYS_PLANE_STATE_CAUSE = cause
      ∧ ((s.setFld .SYS_PLANE_STATE_HEADLESS 1).setFld .SYS_PLANE_STATE_CAUSE cause).flag .SYS_PLANE_STATE_IDL_UP
        = s.flag .SYS_PLANE_STATE_IDL_UP := by
  have h2 := sorted_setFld h .SYS_PLANE_STATE_HEADLESS 1 0 0
  refine ⟨?_, (fld_setFld h2 (f := .SYS_PLANE_STATE_CAUSE) (by decide) (by decide) cause 0 0).trans (Nat.mod_eq_of_lt hc), ?_⟩
  · rw [flag_setFld_beside h2 (by decide)]
    exact flag_setFld h (by decide) (by decide) 1 0 0
  · rw [flag_setFld_beside h2 (by decide), flag_setFld_beside h (by decide)]

/-- What the model notes at an entry: the request is served, and the register clock of the entry (R25). -/
def noteEntry (u : State) : State := { u with sys := { u.sys with headlessReq := false, headlessAt := some u.regClk } }

theorem noteEntry_regs (u : State) : (noteEntry u).regs = u.regs := rfl
theorem noteEntry_sys (u : State) : (noteEntry u).sys.headlessReq = false := rfl

theorem sound_noteEntry {u : State} (h : u.Sound) : (noteEntry u).Sound :=
  ⟨h.regs, h.shadow, h.cnts, h.tot, h.hold, h.pairs, h.ctl, h.host, h.hlt, h.nvm, h.cls, h.time, h.tbl, h.leaf, h.xbar, h.buf,
    h.tm, h.sky⟩

theorem enterHeadless_eq (cause : Nat) (s : State) : enterHeadless cause s =
    raiseVec 173 (noteEntry ((s.setFld .SYS_PLANE_STATE_HEADLESS 1).setFld .SYS_PLANE_STATE_CAUSE cause)) := by
  unfold enterHeadless noteEntry
  rfl

/-- An entry to headless forwarding: the plane shows it with its cause, and the rings are left alone. -/
structure Entered (s t : State) (cause : Nat) : Prop where
  headless : t.flag .SYS_PLANE_STATE_HEADLESS = true
  cause : t.fld .SYS_PLANE_STATE_CAUSE = cause
  link : t.flag .SYS_PLANE_STATE_IDL_UP = s.flag .SYS_PLANE_STATE_IDL_UP
  request : t.sys.headlessReq = false
  rings : RingsStop s t

theorem enterHeadless_enters {s : State} (h : s.Sound) {cause : Nat} (hc : cause < 4) :
    Entered s (enterHeadless cause s) cause := by
  have rings : RingsStop s (enterHeadless cause s) := .of_kept (kept_enterHeadless (le_same _) cause s (.refl _ s)) h
    (sound_enterHeadless cause s h) (by decide) (by decide +kernel) (by decide +kernel)
  have hu := sound_State_setFld _ .SYS_PLANE_STATE_CAUSE cause 0 0 (sound_State_setFld s .SYS_PLANE_STATE_HEADLESS 1 0 0 h)
  obtain ⟨h1, h2, h3⟩ := plane_setHeadless h.regs hc
  rw [enterHeadless_eq] at rings ⊢
  generalize (s.setFld .SYS_PLANE_STATE_HEADLESS 1).setFld .SYS_PLANE_STATE_CAUSE cause = u at *
  have hk := kept_raiseVec (le_same _) 173 (noteEntry u) (.refl _ _)
  have hn := sound_noteEntry hu
  have ht := sound_raiseVec 173 _ hn
  have plane (f : Fld) (hf : f.reg = .SYS_PLANE_STATE) : (raiseVec 173 (noteEntry u)).fld f = u.fld f :=
    (hk.fld hn ht (by rw [hf]; decide +kernel) 0 0).trans (fld_congr (noteEntry_regs u) f 0 0)
  refine ⟨?_, (plane _ rfl).trans h2, ?_, (congrArg SysSt.headlessReq (hk.sys (by decide))).trans (noteEntry_sys u), rings⟩
  · exact (congrArg (· != 0) (plane .SYS_PLANE_STATE_HEADLESS rfl)).trans h1
  · exact (congrArg (· != 0) (plane .SYS_PLANE_STATE_IDL_UP rfl)).trans h3

/-! ### Entry by request (R26, R314) -/

/-- The model notes the request. -/
def noteRequest (u : State) : State := { u with sys := { u.sys with headlessReq := true } }

theorem headlessReq_eq {s : State} (hp : s.flag .SYS_PLANE_STATE_HEADLESS = false) :
    headlessReq s = noteRequest (stopAll s) := by
  unfold headlessReq noteRequest stopAll stopIfOn
  rw [hp, if_neg Bool.false_ne_true]

theorem headlessReq_requests {s : State} (h : s.Sound) (hp : s.flag .SYS_PLANE_STATE_HEADLESS = false) :
    (headlessReq s).sys.headlessReq = true ∧ (headlessReq s).flag .SYS_PLANE_STATE_HEADLESS = false
      ∧ ∀ r < 172, ringEn (headlessReq s) r = false ∧ headOf (headlessReq s) r = headOf s r
        ∧ (ringOf (headlessReq s) r).units = (ringOf s r).units := by
  have plane := (kept_headlessReq (le_same _) s (.refl _ s)).flag (f := .SYS_PLANE_STATE_HEADLESS) h (sound_headlessReq s h)
    (by decide +kernel) 0 0
  obtain ⟨hs, ho⟩ := stopAll_stops h
  have units := units_stopAll h
  rw [headlessReq_eq hp] at plane ⊢
  generalize stopAll s = u at *
  exact ⟨rfl, plane.trans hp, fun r hr => ⟨ho r hr, hs.head r, units r⟩⟩

/-! ### Entry with cause 2 or 3 (R27, R314) -/

/-- Every ring that was ever enabled has stopped and is written no more; no HEAD has moved. -/
def allSilenced (s t : State) : Prop :=
  ∀ r < 172, headOf t r = headOf s r ∧ ((ringOf s r).everEn = true → ringEn t r = false ∧ (ringOf t r).quiet = true)

theorem abruptHeadless_enters {s : State} (h : s.Sound) {cause : Nat} (hc : cause < 4)
    (hp : s.flag .SYS_PLANE_STATE_HEADLESS = false) :
    (abruptHeadless cause s).flag .SYS_PLANE_STATE_HEADLESS = true ∧ (abruptHeadless cause s).fld .SYS_PLANE_STATE_CAUSE = cause
      ∧ allSilenced s (abruptHeadless cause s) := by
  unfold abruptHeadless
  rw [hp, if_neg Bool.false_ne_true]
  obtain ⟨hq, hs⟩ := quietRings_silences h
  obtain ⟨h1, h2, -, -, hr⟩ := enterHeadless_enters hq.sound hc
  exact ⟨h1, h2, fun r hlt => ⟨((hq.trans hr).head r), fun e => (hs r hlt).stays hlt hr (((hq.trans hr).ever r).trans e)⟩⟩

/-- A die that became headless in an earlier register clock ignores the cause. -/
theorem abruptHeadless_ignored {s : State} (cause : Nat) (hp : s.flag .SYS_PLANE_STATE_HEADLESS = true)
    (ha : s.sys.headlessAt ≠ some s.regClk) : abruptHeadless cause s = s := by
  unfold abruptHeadless
  rw [hp, if_pos rfl, if_neg (fun h => ha h.1)]

/-- In the register clock of the entry the higher cause is recorded (R25). -/
theorem abruptHeadless_raises {s : State} (h : s.Sound) {cause : Nat} (hc : cause < 4)
    (hp : s.flag .SYS_PLANE_STATE_HEADLESS = true) (ha : s.sys.headlessAt = some s.regClk) :
    (abruptHeadless cause s).flag .SYS_PLANE_STATE_HEADLESS = true
      ∧ (abruptHeadless cause s).fld .SYS_PLANE_STATE_CAUSE = max cause (s.fld .SYS_PLANE_STATE_CAUSE) := by
  unfold abruptHeadless
  rw [hp, if_pos rfl]
  split
  · next hl =>
    have hq := sound_quietRings s h
    have plane := (kept_quietRings (le_same _) s (.refl _ s)).flag (f := .SYS_PLANE_STATE_HEADLESS) h hq (by decide +kernel) 0 0
    refine ⟨(flag_setFld_beside hq.regs (by decide) cause 0 0).trans (plane.trans hp), ?_⟩
    rw [Nat.max_eq_left (Nat.le_of_lt hl.2)]
    exact (fld_setFld hq.regs (f := .SYS_PLANE_STATE_CAUSE) (by decide) (by decide) cause 0 0).trans (Nat.mod_eq_of_lt hc)
  · next hl => exact ⟨hp, by rw [Nat.max_eq_right (Nat.le_of_not_lt fun k => hl ⟨ha, k⟩)]⟩

/-- The reset message of the application domain crosses a trained link (R25). -/
theorem exec_appResetMessage {s : State} (hl : linked s) :
    exec .appResetMessage s = .next (abruptHeadless 2 (idlSend 2 0 1 0 s)) :=
  congrArg Host.Outcome.next (if_pos hl)

theorem Sends.host {s s' : State} (h : Sends s s') : s'.host = s.host := by
  obtain ⟨-, m, rfl⟩ := h
  rfl

/-- What crosses the link leaves whether the die became headless in this register clock. -/
theorem Sends.entryClock {s s' : State} (h : Sends s s') :
    (s'.sys.headlessAt = some s'.regClk) = (s.sys.headlessAt = some s.regClk) := by
  obtain ⟨-, m, rfl⟩ := h
  rfl

theorem Sends.silenced {s s' t : State} (hs : Sends s s') (h : allSilenced s' t) : allSilenced s t := by
  obtain ⟨-, m, rfl⟩ := hs
  exact h

end Sys2Proof.Machine
end

section
open Sys2Proof Sys2Proof.Machine

/-- Settles O6: a request stops every ring (`stopAll`), the message and the loss silence them (`quietRings`), and the plane shows
the entry with its cause. -/
theorem headlessEntry : Obligations.HeadlessEntry := by
  unfold Obligations.HeadlessEntry
  refine ⟨?request, ?complete, ?waits, ?message, ?loss, ?ignored, ?raised, fun s hi => congrArg Host.Outcome.next (if_neg ?held)⟩
  case request =>
    intro s a h hl hp
    have hs := (Sends.refl h).send 0 0 1 0
    obtain ⟨hr, hf, hrings⟩ := headlessReq_requests hs.sound ((hs.flag _ 0 0).trans hp)
    refine ⟨_, congrArg Host.Outcome.next (far_linked (op := headlessReq) hl (planeCtrl_there s a 1)), hr, hf, fun r hlt => ?_⟩
    obtain ⟨en, head, units⟩ := hrings r hlt
    exact ⟨en, head.trans (headOf_congr hs.regs r), units.trans (by rw [ringOf_congr hs.host r])⟩
  case complete =>
    intro s h hr hi
    obtain ⟨h1, h2, -, h4, -⟩ := enterHeadless_enters h (cause := 1) (by decide)
    exact ⟨_, congrArg Host.Outcome.next (if_pos (by rw [hr, hi]; rfl)), h1, h2, h4⟩
  case waits => exact fun s hi => congrArg Host.Outcome.next (if_neg (by rw [hi, Bool.and_false]; exact Bool.false_ne_true))
  case message =>
    intro s h hl hp
    have hs := (Sends.refl h).send 2 0 1 0
    obtain ⟨h1, h2, h3⟩ := abruptHeadless_enters hs.sound (cause := 2) (by decide) ((hs.flag _ 0 0).trans hp)
    exact ⟨_, exec_appResetMessage hl, h1, h2, hs.silenced h3⟩
  case loss =>
    intro s e h he ht hp
    refine ⟨_, ?_, abruptHeadless_enters h (cause := 3) (by decide) hp⟩
    unfold exec execIdlLossTimeout
    dsimp only
    rw [he]
    exact congrArg Host.Outcome.next (if_pos ht)
  case ignored =>
    intro s h hl hp ha
    have hs := (Sends.refl h).send 2 0 1 0
    refine ⟨_, exec_appResetMessage hl, ?_⟩
    rw [abruptHeadless_ignored 2 ((hs.flag _ 0 0).trans hp) (fun h => ha (hs.entryClock ▸ h))]
    exact hs.only (Sofar.start hs.sound [.ctl] [] []).only (by decide)
  case raised =>
    intro s h hl hp ha
    have hs := (Sends.refl h).send 2 0 1 0
    refine ⟨_, exec_appResetMessage hl, ?_⟩
    rw [← fld_congr hs.regs .SYS_PLANE_STATE_CAUSE 0 0]
    exact abruptHeadless_raises hs.sound (by decide) ((hs.flag _ 0 0).trans hp) (hs.entryClock ▸ ha)
  case held => rw [hi]; exact Bool.false_ne_true
end

section
/-!
SUPPORT. The inter-die link (R16, R289): loss of training, what crosses when training is done, and the credit of its channels.
-/
namespace Sys2Proof.Machine

theorem sound_withCtl {s : State} (h : s.Sound) {c : CtlSt} (hc : c.Sound) : State.Sound { s with ctl := c } :=
  ⟨h.regs, h.shadow, h.cnts, h.tot, h.hold, h.pairs, hc, h.host, h.hlt, h.nvm, h.cls, h.time, h.tbl, h.leaf, h.xbar, h.buf,
    h.tm, h.sky⟩

/-! ### Loss of training -/

/-- The clock of the loss is noted. -/
def noteLoss (u : State) : State := { u with ctl := { u.ctl with idlDownAt := some u.now } }

theorem noteLoss_regs (u : State) : (noteLoss u).regs = u.regs := rfl
theorem noteLoss_downAt (u : State) : (noteLoss u).ctl.idlDownAt = some u.now := rfl

theorem Sofar.noteLoss {s u : State} {oo cc : List Nat} (h : Sofar s u [.ctl] oo cc) :
    Sofar s (noteLoss u) [.ctl] oo cc := h.setCtl (by decide) _

theorem idlDown_eq {s : State} (hl : linked s) :
    idlDown s = noteLoss ((s.setReg .IDL_STATUS 0x40000000#32).setFld .SYS_PLANE_STATE_IDL_UP 0) := by
  unfold idlDown noteLoss
  rw [show s.flag .SYS_PLANE_STATE_IDL_UP = true from hl, if_pos rfl]

theorem idlDown_loses {s : State} (h : s.Sound) (hl : linked s) :
    (idlDown s).flag .SYS_PLANE_STATE_IDL_UP = false ∧ (idlDown s).ctl.idlDownAt = some s.now
      ∧ s.Only (idlDown s) [.ctl] [Reg.off .IDL_STATUS, Reg.off .SYS_PLANE_STATE] [] := by
  have frame := (((Sofar.start h [.ctl] [Reg.off .IDL_STATUS, Reg.off .SYS_PLANE_STATE] []).setReg .IDL_STATUS 0x40000000#32
    0 0 (by decide)).setFld .SYS_PLANE_STATE_IDL_UP 0 0 0 (by decide)).noteLoss
  rw [idlDown_eq hl]
  refine ⟨?_, (noteLoss_downAt _).trans (congrArg some (setFld_now _ _ _ _ _)), frame.only⟩
  rw [flag_congr (noteLoss_regs _)]
  exact flag_setFld (sorted_setReg h.regs _ _ _ _) (by decide) (by decide) 0 0 0

/-! ### Replays -/

/-- A replay is counted and meets its window (R289, R419). -/
def replayed (s : State) : State := (winEvent 11 0 (s.count .IDL_REPLAY_CNT)).1

/-- The replays of the last microsecond, with this one. -/
def recentReplays (s : State) : List Nat := s.now :: s.ctl.replays.filter (fun e => s.now < e + clkUs)

def setReplays (l : List Nat) (s : State) : State := { s with ctl := { s.ctl with replays := l } }

theorem setReplays_regs (l : List Nat) (s : State) : (setReplays l s).regs = s.regs := rfl
theorem setReplays_cnts (l : List Nat) (s : State) : (setReplays l s).cnts = s.cnts := rfl
theorem setReplays_now (l : List Nat) (s : State) : (setReplays l s).now = s.now := rfl

theorem sound_setReplays {s : State} (h : s.Sound) (l : List Nat) : (setReplays l s).Sound :=
  sound_withCtl h ⟨h.ctl.msix, h.ctl.intAt, h.ctl.vcs, h.ctl.arbs, h.ctl.pols, h.ctl.accounts⟩

theorem exec_idlFlitReplay {s : State} (hl : linked s) : exec .idlFlitReplay s = .next
    (if 16 < (recentReplays (replayed s)).length
      then idlDown (raiseNear 178 ((setReplays [] (replayed s)).count .IDL_RETRAIN_CNT))
      else setReplays (recentReplays (replayed s)) (replayed s)) :=
  congrArg Host.Outcome.next (if_pos hl)

/-- What a replay leaves before the retrain that it may start. -/
theorem replayed_counts {s : State} (h : s.Sound) :
    (replayed s).Sound ∧ (replayed s).cnt .IDL_REPLAY_CNT = s.cnt .IDL_REPLAY_CNT + 1#64
      ∧ (replayed s).cnt .IDL_RETRAIN_CNT = s.cnt .IDL_RETRAIN_CNT
      ∧ (replayed s).flag .SYS_PLANE_STATE_IDL_UP = s.flag .SYS_PLANE_STATE_IDL_UP
      ∧ (replayed s).now = s.now ∧ (recentReplays (replayed s)).length
        = (s.ctl.replays.filter (fun e => s.now < e + 1600)).length + 1 := by
  have hc := sound_State_count s .IDL_REPLAY_CNT 0 0 1 h
  have hs : (replayed s).Sound := of_fst (sound_winEvent 11 0 _ hc)
  have hk := of_fst (kept_winEvent (le_same _) 11 0 (s.count .IDL_REPLAY_CNT) (.refl _ _))
  have now : (replayed s).now = s.now := hk.now (by decide)
  have ctl : (replayed s).ctl = s.ctl := hk.ctl (by decide)
  refine ⟨hs, (hk.cnt hc hs (by decide +kernel) 0 0).trans ?_, (hk.cnt hc hs (by decide +kernel) 0 0).trans ?_,
    (hk.flag (f := .SYS_PLANE_STATE_IDL_UP) hc hs (by decide +kernel) 0 0).trans (flag_congr rfl _ _ _), now, ?_⟩
  · exact cnt_count h.cnts _ _ _ _
  · exact cnt_count_ne h.cnts (by decide +kernel) _
  · unfold recentReplays
    rw [now, ctl]
    rfl

/-- More than 16 replays in a microsecond start a retrain (R289). -/
theorem retrain_counts {u : State} (h : u.Sound) (hl : linked u) :
    (idlDown (raiseNear 178 (u.count .IDL_RETRAIN_CNT))).cnt .IDL_REPLAY_CNT = u.cnt .IDL_REPLAY_CNT
      ∧ (idlDown (raiseNear 178 (u.count .IDL_RETRAIN_CNT))).cnt .IDL_RETRAIN_CNT = u.cnt .IDL_RETRAIN_CNT + 1#64
      ∧ (idlDown (raiseNear 178 (u.count .IDL_RETRAIN_CNT))).flag .SYS_PLANE_STATE_IDL_UP = false
      ∧ (idlDown (raiseNear 178 (u.count .IDL_RETRAIN_CNT))).ctl.idlDownAt = some u.now := by
  have hc := sound_State_count u .IDL_RETRAIN_CNT 0 0 1 h
  have hr := sound_raiseNear 178 _ hc
  have hk := kept_raiseNear (le_same _) 178 (u.count .IDL_RETRAIN_CNT) (.refl _ _)
  have linked' : linked (raiseNear 178 (u.count .IDL_RETRAIN_CNT)) :=
    ((hk.flag (f := .SYS_PLANE_STATE_IDL_UP) hc hr (by decide +kernel) 0 0).trans (flag_congr rfl _ _ _)).trans hl
  obtain ⟨down, lost, frame⟩ := idlDown_loses hr linked'
  have cnts (c : Cnt) : (idlDown (raiseNear 178 (u.count .IDL_RETRAIN_CNT))).cnt c
      = (raiseNear 178 (u.count .IDL_RETRAIN_CNT)).cnt c := by
    unfold State.cnt SMap.getD
    rw [frame.cnts _ (List.not_mem_nil)]
  refine ⟨?_, ?_, down, lost.trans (congrArg some (hk.now (by decide)))⟩
  · exact (cnts _).trans ((hk.cnt hc hr (by decide +kernel) 0 0).trans (cnt_count_ne h.cnts (by decide +kernel) _))
  · exact (cnts _).trans ((hk.cnt hc hr (by decide +kernel) 0 0).trans (cnt_count h.cnts _ _ _ _))

/-! ### What was held for the link crosses it -/

/-- An operation with the link up: of the control die's state it changes only the channels and the interrupts that it took, the
link stays up, and a headless die stays so. -/
structure Crosses (s t : State) : Prop where
  sound : t.Sound
  link : linked s → linked t
  headless : s.flag .SYS_PLANE_STATE_HEADLESS = true → t.flag .SYS_PLANE_STATE_HEADLESS = true
  ctl : ∃ vcs ints msix, t.ctl = { s.ctl with vcs := vcs, intAt := ints, msixHeld := msix }

theorem Crosses.refl {s : State} (h : s.Sound) : Crosses s s := ⟨h, id, id, _, _, _, rfl⟩

theorem Crosses.trans {s t u : State} (h : Crosses s t) (h' : Crosses t u) : Crosses s u := by
  obtain ⟨-, l1, p1, _, _, _, c1⟩ := h
  obtain ⟨hu, l2, p2, v, i, m, c2⟩ := h'
  exact ⟨hu, l2 ∘ l1, p2 ∘ p1, v, i, m, by rw [c2, c1]⟩

/-- An operation that leaves SYS_PLANE_STATE. -/
theorem Crosses.of_kept {T : Touch} {s t : State} (hk : Kept T s t) (hs : s.Sound) (ht : t.Sound)
    (free : freeR T .SYS_PLANE_STATE = true)
    (hc : ∃ vcs ints msix, t.ctl = { s.ctl with vcs := vcs, intAt := ints, msixHeld := msix }) : Crosses s t :=
  ⟨ht, fun h => (hk.flag (f := .SYS_PLANE_STATE_IDL_UP) hs ht free 0 0).trans h,
    fun h => (hk.flag (f := .SYS_PLANE_STATE_HEADLESS) hs ht free 0 0).trans h, hc⟩

theorem Sends.crosses {s t : State} (h : Sends s t) : Crosses s t := by
  refine ⟨h.sound, h.keeps_linked, fun hp => (h.flag _ 0 0).trans hp, ?_⟩
  obtain ⟨-, m, rfl⟩ := h
  exact ⟨m, _, _, rfl⟩

theorem ctl_sendMsix (v : Nat) (s : State) : ∃ msix, (sendMsix v s).ctl = { s.ctl with msixHeld := msix } := by
  unfold sendMsix
  extract_lets e
  split
  · exact ⟨_, rfl⟩
  · exact ⟨_, rfl⟩

theorem ctl_newInt (v : Nat) (s : State) : ∃ msix, (newInt v s).ctl = { s.ctl with msixHeld := msix } := by
  unfold newInt
  split
  · exact ctl_sendMsix v s
  · exact ⟨_, rfl⟩

theorem ctl_takeInt (v : Nat) (s : State) : ∃ ints msix, (takeInt v s).ctl = { s.ctl with intAt := ints, msixHeld := msix } := by
  unfold takeInt
  extract_lets w
  split
  · exact ⟨_, _, rfl⟩
  · obtain ⟨msix, e⟩ := ctl_newInt v ((noteInt v false s).setReg .CTL_INT_PEND (BitVec.ofNat 32 (w + 2 ^ (v % 32))) (v / 32))
    exact ⟨_, msix, e⟩

theorem crosses_takeInt {s : State} (h : s.Sound) (v : Nat) : Crosses s (takeInt v s) := by
  obtain ⟨ints, msix, e⟩ := ctl_takeInt v s
  exact .of_kept (kept_takeInt (le_same _) v s (.refl _ s)) h (sound_takeInt v s h) (by decide +kernel) ⟨_, ints, msix, e⟩

theorem crosses_count {s : State} (h : s.Sound) (c : Cnt) (i j n : Nat) : Crosses s (s.count c i j n) :=
  ⟨sound_State_count s c i j n h, id, id, _, _, _, rfl⟩

theorem crosses_recordFault {s : State} (h : s.Sound) (f : AccFault) : Crosses s (recordFault f s) := by
  have hk := kept_recordFault (le_same _) f s (.refl _ s)
  exact .of_kept hk h (sound_recordFault f s h) (by decide +kernel) ⟨_, _, _, hk.ctl (by decide)⟩

theorem ctl_dmaStore (ext : Bool) (a : Nat) (l : List Byte) (s : State) :
    (dmaStore ext a l s).2.ctl = (idlSend 5 1 (flitsOf l.length) 0 s).ctl := by
  unfold dmaStore
  extract_lets u
  split
  · rfl
  · exact (of_snd (kept_memWrite (le_same _) a l u (.refl _ u))).ctl (by decide)

theorem crosses_dmaStore {s : State} (h : s.Sound) (ext : Bool) (a : Nat) (l : List Byte) :
    Crosses s (dmaStore ext a l s).2 := by
  obtain ⟨m, e⟩ := idlSend_eq 5 1 (flitsOf l.length) 0 s
  refine .of_kept (of_snd (kept_dmaStore (le_same _) ext a l s (.refl _ s))) h (of_snd (sound_dmaStore ext a l s h))
    (by decide +kernel) ⟨m, s.ctl.intAt, s.ctl.msixHeld, ?_⟩
  rw [ctl_dmaStore, e]

theorem ctl_raiseVec {s : State} (hl : linked s) (v : Nat) :
    ∃ vcs ints msix, (raiseVec v s).ctl = { s.ctl with vcs := vcs, intAt := ints, msixHeld := msix } := by
  obtain ⟨m, e⟩ := idlSend_eq 2 1 1 0 s
  obtain ⟨ints, msix, e'⟩ := ctl_takeInt v (idlSend 2 1 1 0 s)
  refine ⟨m, ints, msix, ?_⟩
  unfold raiseVec
  rw [show s.flag .SYS_PLANE_STATE_IDL_UP = true from hl, if_pos rfl, e', e]

theorem noteEntry_linked {u : State} (h : linked u) : linked (noteEntry u) := (flag_congr (noteEntry_regs u) _ 0 0).trans h

theorem noteEntry_ctl (u : State) : (noteEntry u).ctl = u.ctl := rfl

theorem crosses_enterHeadless {s : State} (h : s.Sound) (hl : linked s) {cause : Nat} (hc : cause < 4) :
    Crosses s (enterHeadless cause s) := by
  obtain ⟨hp, -, hlink, -, -⟩ := enterHeadless_enters h hc
  obtain ⟨-, -, link⟩ := plane_setHeadless h.regs hc
  have ctl : ((s.setFld .SYS_PLANE_STATE_HEADLESS 1).setFld .SYS_PLANE_STATE_CAUSE cause).ctl = s.ctl :=
    (setFld_ctl _ _ _ _ _).trans (setFld_ctl _ _ _ _ _)
  refine ⟨sound_enterHeadless cause s h, hlink.trans, fun _ => hp, ?_⟩
  rw [enterHeadless_eq]
  generalize (s.setFld .SYS_PLANE_STATE_HEADLESS 1).setFld .SYS_PLANE_STATE_CAUSE cause = u at *
  obtain ⟨vcs, ints, msix, e⟩ := ctl_raiseVec (noteEntry_linked (link.trans hl)) 173
  exact ⟨vcs, ints, msix, by rw [e, noteEntry_ctl, ctl]⟩

theorem crosses_quietRings {s : State} (h : s.Sound) : Crosses s (quietRings s) := by
  have hk := kept_quietRings (le_same _) s (.refl _ s)
  exact .of_kept hk h (sound_quietRings s h) (by decide +kernel) ⟨_, _, _, hk.ctl (by decide)⟩

theorem crosses_setCause {s : State} (h : s.Sound) (cause : Nat) : Crosses s (s.setFld .SYS_PLANE_STATE_CAUSE cause) := by
  refine ⟨sound_State_setFld s _ cause 0 0 h, fun hl => ?_, fun hp => ?_, s.ctl.vcs, s.ctl.intAt, s.ctl.msixHeld,
    setFld_ctl s _ cause 0 0⟩
  · exact (flag_setFld_beside h.regs (by decide) cause 0 0).trans hl
  · exact (flag_setFld_beside h.regs (by decide) cause 0 0).trans hp

/-- After an entry with cause 2 or 3 the die is headless, whether it was or not. -/
theorem abruptHeadless_crosses {s : State} (h : s.Sound) (hl : linked s) {cause : Nat} (hc : cause < 4) :
    Crosses s (abruptHeadless cause s) ∧ (abruptHeadless cause s).flag .SYS_PLANE_STATE_HEADLESS = true := by
  have quiet := crosses_quietRings h
  unfold abruptHeadless
  split
  · next hp =>
    split
    · have raised := quiet.trans (crosses_setCause quiet.sound cause)
      exact ⟨raised, raised.headless hp⟩
    · exact ⟨.refl h, hp⟩
  · obtain ⟨hp, -, -, -, -⟩ := enterHeadless_enters quiet.sound hc
    exact ⟨quiet.trans (crosses_enterHeadless quiet.sound (quiet.link hl) hc), hp⟩

theorem Crosses.foldl {α : Type} {f : State → α → State} (step : ∀ s a, s.Sound → Crosses s (f s a)) {s : State} (h : s.Sound)
    (l : List α) : Crosses s (l.foldl f s) :=
  foldl_holds (P := Crosses s) (fun t a ht => ht.trans (step t a ht.sound)) (.refl h)

/-! ### Training is done (R16) -/

/-- The control die's state after what it held has crossed. -/
def noneHeld (c : CtlSt) : CtlSt :=
  { c with heldInts := [], heldFaults := [], faultsOver := 0, heldReset := false, heldDma := [] }

/-- The messages are taken out of what is held. -/
def takeMessages (s : State) : State :=
  { s with ctl := { s.ctl with heldInts := [], heldFaults := [], faultsOver := 0, heldReset := false } }

def takeDma (s : State) : State := { s with ctl := { s.ctl with heldDma := [] } }

/-- A held reset message reaches the switch die. -/
def crossReset (held : Bool) (s : State) : State := if held then abruptHeadless 2 (idlSend 2 0 1 0 s) else s

def crossInt (s : State) (v : Nat) : State := takeInt v (idlSend 2 1 1 0 s)
def crossFault (s : State) (f : AccFault) : State := recordFault f (idlSend 2 0 1 0 s)
def crossDma (s : State) (w : DmaWrite) : State := (dmaStore w.ext w.addr w.data s).2

theorem flushDma_eq (s : State) : flushDma s = s.ctl.heldDma.foldl crossDma (takeDma s) := rfl

theorem idlFlush_eq (s : State) : idlFlush s = (s.ctl.heldFaults.foldl crossFault (s.ctl.heldInts.foldl crossInt
    (flushDma (crossReset s.ctl.heldReset (takeMessages s))))).count .SYS_ACCESS_FAULT_CNT 0 0 s.ctl.faultsOver := by
  unfold idlFlush crossReset takeMessages crossFault crossInt
  rfl

theorem sound_takeMessages {s : State} (h : s.Sound) : (takeMessages s).Sound :=
  sound_withCtl h ⟨h.ctl.msix, h.ctl.intAt, h.ctl.vcs, h.ctl.arbs, h.ctl.pols, h.ctl.accounts⟩

theorem sound_takeDma {s : State} (h : s.Sound) : (takeDma s).Sound :=
  sound_withCtl h ⟨h.ctl.msix, h.ctl.intAt, h.ctl.vcs, h.ctl.arbs, h.ctl.pols, h.ctl.accounts⟩

theorem crosses_crossInt (s : State) (v : Nat) (h : s.Sound) : Crosses s (crossInt s v) :=
  have sent := (Sends.refl h).send 2 1 1 0
  sent.crosses.trans (crosses_takeInt sent.sound v)

theorem crosses_crossFault (s : State) (f : AccFault) (h : s.Sound) : Crosses s (crossFault s f) :=
  have sent := (Sends.refl h).send 2 0 1 0
  sent.crosses.trans (crosses_recordFault sent.sound f)

/-- The reset message crosses: the die is headless then. -/
theorem crosses_crossReset {s : State} (h : s.Sound) (hl : linked s) (held : Bool) : Crosses s (crossReset held s)
    ∧ (held = true → (crossReset held s).flag .SYS_PLANE_STATE_HEADLESS = true) := by
  unfold crossReset
  cases held
  · rw [if_neg Bool.false_ne_true]
    exact ⟨.refl h, nofun⟩
  · rw [if_pos rfl]
    have sent := (Sends.refl h).send 2 0 1 0
    obtain ⟨hc, hp⟩ := abruptHeadless_crosses sent.sound (sent.keeps_linked hl) (cause := 2) (by decide)
    exact ⟨sent.crosses.trans hc, fun _ => hp⟩

/-- What the link carries once it is up: all that was held, and the die is headless where a reset message was held. -/
theorem idlFlush_crosses {s : State} (h : s.Sound) (hl : linked s) :
    linked (idlFlush s) ∧ (s.ctl.heldReset = true → (idlFlush s).flag .SYS_PLANE_STATE_HEADLESS = true)
      ∧ ∃ vcs ints msix, (idlFlush s).ctl = { noneHeld s.ctl with vcs := vcs, intAt := ints, msixHeld := msix } := by
  obtain ⟨reset, headless⟩ := crosses_crossReset (sound_takeMessages h) hl s.ctl.heldReset
  rw [idlFlush_eq, flushDma_eq]
  generalize crossReset s.ctl.heldReset (takeMessages s) = u at *
  obtain ⟨hu, link, -, vcs, ints, msix, ctl⟩ := reset
  have dma := Crosses.foldl (f := crossDma) (fun s w h => crosses_dmaStore h w.ext w.addr w.data) (sound_takeDma hu) u.ctl.heldDma
  have ints := dma.trans (.foldl crosses_crossInt dma.sound s.ctl.heldInts)
  have faults := ints.trans (.foldl crosses_crossFault ints.sound s.ctl.heldFaults)
  obtain ⟨-, link', headless', vcs', ints', msix', ctl'⟩ :=
    faults.trans (crosses_count faults.sound .SYS_ACCESS_FAULT_CNT 0 0 s.ctl.faultsOver)
  refine ⟨link' (link hl), fun hr => headless' (headless hr), vcs', ints', msix', ctl'.trans ?_⟩
  unfold takeDma
  rw [ctl]
  rfl

/-- With nothing held, the link carries nothing. -/
theorem idlFlush_quiet {s : State} (hi : s.ctl.heldInts = []) (hf : s.ctl.heldFaults = []) (hd : s.ctl.heldDma = [])
    (hr : s.ctl.heldReset = false) : (idlFlush s).ctl.vcs = s.ctl.vcs := by
  rw [idlFlush_eq, hr, hi, hf, flushDma_eq]
  unfold crossReset takeMessages
  rw [if_neg Bool.false_ne_true, hd]
  rfl

/-- The control die notes the trained link: both ends recover credit. -/
def noteTrained (u : State) : State := { u with ctl := { u.ctl with
  idlDownAt := none
  vcs := u.ctl.vcs.map (fun e => (e.1, recoverCredit e.2)) } }

theorem idlUp_eq (s : State) : idlUp s = noteTrained ((s.setReg .IDL_STATUS 0x800000FF#32).setFld .SYS_PLANE_STATE_IDL_UP 1) := rfl

theorem noteTrained_regs (u : State) : (noteTrained u).regs = u.regs := rfl

theorem noteTrained_ctl (u : State) : (noteTrained u).ctl = { u.ctl with
  idlDownAt := none
  vcs := u.ctl.vcs.map (fun e => (e.1, recoverCredit e.2)) } := rfl

theorem idlUp_trains {s : State} (h : s.Sound) : linked (idlUp s) ∧ (idlUp s).ctl = { s.ctl with
    idlDownAt := none
    vcs := s.ctl.vcs.map (fun e => (e.1, recoverCredit e.2)) } := by
  rw [idlUp_eq]
  constructor
  · unfold linked
    rw [flag_congr (noteTrained_regs _)]
    exact flag_setFld (sorted_setReg h.regs _ _ _ _) (by decide) (by decide) 1 0 0
  · rw [noteTrained_ctl, setFld_ctl, setReg_ctl]

/-- No register access is held any longer. -/
def takeAccesses (s : State) : State := { s with ctl := { s.ctl with heldWrites := [], heldReads := [] } }

theorem takeAccesses_regs (s : State) : (takeAccesses s).regs = s.regs := rfl
theorem takeAccesses_ctl (s : State) : (takeAccesses s).ctl = { s.ctl with heldWrites := [], heldReads := [] } := rfl

theorem deliverHeld_none {s : State} (hw : s.ctl.heldWrites = []) (hr : s.ctl.heldReads = []) :
    deliverHeld s = takeAccesses s := by
  unfold deliverHeld takeAccesses
  rw [hw, hr]
  rfl

theorem exec_idlRetrainDone {s : State} (hf : forwards s) (hd : s.flag .SYS_PLANE_STATE_IDL_UP = false) :
    exec .idlRetrainDone s = .next (deliverHeld (idlFlush (idlUp s))) := by
  refine congrArg Host.Outcome.next ((if_neg ?_).trans (if_neg ?_))
  · rw [show s.pwr.stopped = false from hf]
    exact Bool.false_ne_true
  · rw [hd]
    exact Bool.false_ne_true

/-! ### Credit in a core clock (R16, R289) -/

theorem recoverCredit_credit (x : IdlVc) : (recoverCredit x).credit = x.credit := by
  unfold recoverCredit IdlVc.credit
  dsimp only
  omega

theorem pass_credit (x : IdlVc) : x.pass.credit = x.credit := by
  unfold IdlVc.pass IdlVc.credit
  dsimp only
  omega

/-- No channel gains or loses credit. -/
structure SameCredit (s t : State) : Prop where
  sound : t.Sound
  credit : ∀ v d, d < 2 → (idlVc t v d).credit = (idlVc s v d).credit

theorem SameCredit.refl {s : State} (h : s.Sound) : SameCredit s s := ⟨h, fun _ _ _ => rfl⟩

theorem SameCredit.trans {s t u : State} (h : SameCredit s t) (h' : SameCredit t u) : SameCredit s u :=
  ⟨h'.sound, fun v d hd => (h'.credit v d hd).trans (h.credit v d hd)⟩

theorem SameCredit.of_vcs {s t : State} (ht : t.Sound) (e : t.ctl.vcs = s.ctl.vcs) : SameCredit s t :=
  ⟨ht, fun v d _ => by unfold idlVc; rw [e]⟩

theorem SameCredit.foldl {α : Type} {f : State → α → State} (step : ∀ s a, s.Sound → SameCredit s (f s a)) {s : State}
    (h : s.Sound) (l : List α) : SameCredit s (l.foldl f s) :=
  foldl_holds (P := SameCredit s) (fun t a ht => ht.trans (step t a ht.sound)) (.refl h)

/-- A channel is written with the credit that it had. -/
theorem sameCredit_setVc {s : State} (h : s.Sound) {v d : Nat} (hd : d < 2) {x : IdlVc} (hx : x.credit = (idlVc s v d).credit) :
    SameCredit s (setVc v d x s) := by
  refine ⟨sound_setVc v d x s h, fun w e he => ?_⟩
  by_cases hk : 2 * w + e = 2 * v + d
  · obtain ⟨rfl, rfl⟩ : w = v ∧ e = d := by omega
    rw [← hx]
    exact congrArg IdlVc.credit (SMap.getD_put_self h.ctl.vcs _ _ _)
  · exact congrArg IdlVc.credit (SMap.getD_put_ne h.ctl.vcs hk _ _ _)

theorem sameCredit_idlSend {s : State} (h : s.Sound) (v : Nat) {d : Nat} (hd : d < 2) (n room : Nat) :
    SameCredit s (idlSend v d n room s) := by
  unfold idlSend
  split
  · exact .refl h
  · exact sameCredit_setVc h hd rfl

/-- A flit is ready only where a credit is held for it. -/
theorem held_of_flitReady {s : State} {v d : Nat} (h : flitReady s v d = true) : 0 < (idlVc s v d).held := by
  unfold flitReady at h
  dsimp only at h
  split at h
  · cases h
  · exact of_decide_eq_true (Bool.and_eq_true_iff.mp h).1

theorem sameCredit_sendFlit {s : State} (h : s.Sound) {v d : Nat} (hd : d < 2) (hr : flitReady s v d = true) :
    SameCredit s (sendFlit v d s) := by
  have held := held_of_flitReady hr
  unfold sendFlit
  dsimp only
  split
  · exact .refl h
  · next n room l _ =>
    have spent := sameCredit_setVc h (v := v) hd (x := { idlVc s v d with
      held := (idlVc s v d).held - 1, flight := (idlVc s v d).flight + 1,
      waiting := if n ≤ 1 then l else (n - 1, 0) :: l }) (by unfold IdlVc.credit; dsimp only; omega)
    generalize setVc v d _ s = u at *
    have counted : SameCredit u (u.count (if d = 0 then Cnt.IDL_TX_FLIT_CNT else Cnt.IDL_RX_FLIT_CNT)) :=
      .of_vcs (sound_State_count _ _ _ _ _ spent.sound) rfl
    exact (spent.trans counted).trans (sameCredit_idlSend counted.sound _ (by omega) _ _)

/-- The channel that the arbiter picks can send. -/
theorem flitReady_of_idlRound {s : State} {d v : Nat} {a : IdlArb} (h : (idlRound s d a).1 = some v) :
    flitReady s v d = true := by
  unfold idlRound at h
  dsimp only at h
  split at h
  · next w e =>
    cases h
    have := List.mem_of_find?_eq_some e
    simp only [List.mem_append, List.mem_filter] at this
    rcases this with ⟨⟨-, hr⟩, -⟩ | ⟨⟨-, hr⟩, -⟩ <;> exact hr
  · cases h

theorem flitReady_of_idlPick {s : State} {d v : Nat} {a : IdlArb} (h : (idlPick s d a).1 = some v) : flitReady s v d = true := by
  unfold idlPick at h
  dsimp only at h
  split at h
  · next hr => cases h; exact hr
  · split at h
    · next hr => cases h; exact hr
    · split at h
      · next hr => cases h; exact hr
      · exact flitReady_of_idlRound h

/-- The arbiter of a direction is noted. -/
def setArb (d : Nat) (a : IdlArb) (s : State) : State := { s with ctl := { s.ctl with arbs := SMap.put s.ctl.arbs d {} a } }

theorem sound_setArb {s : State} (h : s.Sound) (d : Nat) (a : IdlArb) : (setArb d a s).Sound :=
  sound_withCtl h ⟨h.ctl.msix, h.ctl.intAt, h.ctl.vcs, SMap.sorted_put h.ctl.arbs _ _ _, h.ctl.pols, h.ctl.accounts⟩

theorem sameCredit_idlFlit {s : State} (h : s.Sound) {d : Nat} (hd : d < 2) : SameCredit s (idlFlit d s) := by
  have arb := SameCredit.of_vcs (s := s) (sound_setArb h d (idlPick s d (SMap.getD s.ctl.arbs d {})).2) rfl
  unfold idlFlit
  dsimp only
  split
  · next v e => exact arb.trans (sameCredit_sendFlit arb.sound hd (flitReady_of_idlPick e))
  · exact arb

theorem sameCredit_idlClock {s : State} (h : s.Sound) : SameCredit s (idlClock s) := by
  have pass := SameCredit.foldl (f := fun s k => setVc (k / 2) (k % 2) (idlVc s (k / 2) (k % 2)).pass s)
    (fun s k h => sameCredit_setVc h (Nat.mod_lt _ (by decide)) (pass_credit _)) h (s.ctl.vcs.map (fun e => e.1))
  unfold idlClock
  dsimp only
  split
  · split
    · have first := pass.trans (sameCredit_idlFlit pass.sound (d := 0) (by decide))
      exact first.trans (sameCredit_idlFlit first.sound (by decide))
    · exact pass
  · exact .refl h

/-- Beside the link itself, a core clock leaves the channels alone. -/
theorem sameCredit_of_kept {T : Touch} {s t : State} (hk : Kept T s t) (ht : t.Sound) (hc : T.a.testBit 10 = false) :
    SameCredit s t := .of_vcs ht (congrArg CtlSt.vcs (hk.ctl hc))

theorem vcs_takeInt (v : Nat) (s : State) : (takeInt v s).ctl.vcs = s.ctl.vcs := by
  obtain ⟨ints, msix, e⟩ := ctl_takeInt v s
  rw [e]

theorem sameCredit_heartbeat {s : State} (h : s.Sound) : SameCredit s (heartbeat s) := by
  refine .of_vcs (sound_heartbeat s h) ?_
  unfold heartbeat noteBeat
  split
  · rfl
  · split <;> rfl

theorem sameCredit_mboxAnswer {s : State} (h : s.Sound) (m status : Nat) (words : List Nat) :
    SameCredit s (mboxAnswer m status words s) := by
  have data : ((List.range 16).foldl (fun s k => s.setReg .KEEP_MBOX_DATA (BitVec.ofNat 32 (words.getD k 0)) m k) s).ctl = s.ctl :=
    foldl_holds (P := fun t => t.ctl = s.ctl) (fun t k e => (setReg_ctl t _ _ m k).trans e) rfl
  refine .of_vcs (sound_mboxAnswer m status words s h) ?_
  unfold mboxAnswer raiseNear
  dsimp only
  generalize (List.range 16).foldl _ s = u at *
  rw [vcs_takeInt, ← data]
  rfl

theorem sameCredit_serveUnknown {s : State} (h : s.Sound) : SameCredit s (serveUnknown s) := by
  refine .foldl (fun s m h => ?_) h (List.range 2)
  dsimp only
  unfold mboxServe
  split
  · split
    · split
      · exact sameCredit_mboxAnswer h _ _ _
      · exact sameCredit_mboxAnswer h _ _ _
    · exact .refl h
  · exact .refl h

theorem sameCredit_tick {s : State} (h : s.Sound) : SameCredit s (tick s) := by
  have h1 := sameCredit_of_kept (kept_advance (le_same _) s (.refl _ s)) (sound_advance s h) (by decide)
  have h2 := h1.trans (sameCredit_of_kept (kept_planeReturns (le_same _) _ (.refl _ _)) (sound_planeReturns _ h1.sound) (by decide))
  have h3 := h2.trans (sameCredit_idlClock h2.sound)
  have h4 := h3.trans (sameCredit_heartbeat h3.sound)
  have h5 := h4.trans (sameCredit_of_kept (kept_creditStalls (le_same _) _ (.refl _ _)) (sound_creditStalls _ h4.sound) (by decide))
  have h6 := h5.trans (sameCredit_of_kept (kept_cplStalls (le_same _) _ (.refl _ _)) (sound_cplStalls _ h5.sound) (by decide))
  have h7 := h6.trans (sameCredit_of_kept (kept_stallCount (le_same _) _ (.refl _ _)) (sound_stallCount _ h6.sound) (by decide))
  exact h7.trans (sameCredit_serveUnknown h7.sound)

end Sys2Proof.Machine
end

section
open Sys2Proof Sys2Proof.Machine

/-- Settles O8: a loss of training (`idlDown_loses`), replays and the retrain that they start (`replayed_counts`,
`retrain_counts`), what crosses when training is done (`idlFlush_crosses`), and the credit of a core clock (`sameCredit_tick`). -/
theorem interDieLink : Obligations.InterDieLink := by
  unfold Obligations.InterDieLink
  refine ⟨fun s h hl => ⟨_, rfl, idlDown_loses h hl⟩, ?few, ?many, ?trained, recoverCredit_credit, ?clock⟩
  case few =>
    intro s h hl few
    obtain ⟨hs, replays, retrains, link, now, len⟩ := replayed_counts h
    refine ⟨_, exec_idlFlitReplay hl, ?_⟩
    rw [if_neg (by omega)]
    exact ⟨(cnt_congr (setReplays_cnts _ _) _ _ _).trans replays, (cnt_congr (setReplays_cnts _ _) _ _ _).trans retrains,
      (flag_congr (setReplays_regs _ _) _ _ _).trans (link.trans hl)⟩
  case many =>
    intro s h hl many
    obtain ⟨hs, replays, retrains, link, now, len⟩ := replayed_counts h
    refine ⟨_, exec_idlFlitReplay hl, ?_⟩
    rw [if_pos (by omega)]
    have hl' : linked (setReplays [] (replayed s)) := (flag_congr (setReplays_regs _ _) _ _ _).trans (link.trans hl)
    obtain ⟨c1, c2, down, lost⟩ := retrain_counts (sound_setReplays hs []) hl'
    rw [cnt_congr (setReplays_cnts _ _)] at c1 c2
    exact ⟨c1.trans replays, c2.trans (congrArg (· + 1#64) retrains), down,
      lost.trans (congrArg some ((setReplays_now _ _).trans now))⟩
  case trained =>
    intro s h hf hd hw hr
    obtain ⟨up, trained⟩ := idlUp_trains h
    have hu := sound_idlUp s h
    obtain ⟨link, headless, vcs, ints, msix, ctl⟩ := idlFlush_crosses hu up
    have quiet := idlFlush_quiet (s := idlUp s)
    refine ⟨_, exec_idlRetrainDone hf hd, ?_⟩
    rw [trained] at ctl headless quiet
    rw [deliverHeld_none (by rw [ctl]; exact hw) (by rw [ctl]; exact hr)]
    rw [flag_congr (takeAccesses_regs _), flag_congr (takeAccesses_regs _), takeAccesses_ctl]
    exact ⟨link, by rw [ctl]; rfl, by rw [ctl]; rfl, by rw [ctl]; rfl, by rw [ctl]; rfl, by rw [ctl]; rfl, by rw [ctl]; rfl,
      headless, fun hi hf hd hr => quiet hi hf hd hr⟩
  case clock =>
    intro s t h hp hstep v d hd
    unfold step at hstep
    rw [hp] at hstep
    cases hstep
    exact (sameCredit_tick h).credit v d hd
end

section
/-!
SUPPORT. Writes to the memory of the rings (R280, R301, R304): bytes that are put, entries that a ring takes, and what is left
alone.
-/
namespace Sys2Proof.Machine

/-! ### Bytes of a memory -/

theorem sorted_memPut {m : SMap Byte} (h : m.sorted = true) (t : Nat) (l : List Byte) : (memPut m t l).sorted = true := by
  induction l generalizing m t with
  | nil => exact h
  | cons b l ih => exact ih (SMap.sorted_put h _ _ _) _

theorem getD_memPut_out {m : SMap Byte} (h : m.sorted = true) {t a : Nat} {l : List Byte} (ha : a < t ∨ t + l.length ≤ a) :
    SMap.getD (memPut m t l) a 0#8 = SMap.getD m a 0#8 := by
  induction l generalizing m t with
  | nil => rfl
  | cons b l ih =>
    rw [List.length_cons] at ha
    exact (ih (SMap.sorted_put h _ _ _) (by omega)).trans (SMap.getD_put_ne h (by omega) _ _ _)

theorem getD_memPut_in {m : SMap Byte} (h : m.sorted = true) (t : Nat) {l : List Byte} {i : Nat} (hi : i < l.length) :
    SMap.getD (memPut m t l) (t + i) 0#8 = l[i] := by
  induction l generalizing m t i with
  | nil => cases hi
  | cons b l ih =>
    cases i with
    | zero => exact (getD_memPut_out (SMap.sorted_put h _ _ _) (.inl (by omega))).trans (SMap.getD_put_self h _ _ _)
    | succ i =>
      have := ih (SMap.sorted_put h t 0#8 b) (t + 1) (Nat.lt_of_succ_lt_succ hi)
      rwa [Nat.add_assoc, Nat.add_comm 1 i] at this

theorem length_memGet (m : SMap Byte) (t n : Nat) : (memGet m t n).length = n := by simp [memGet]

theorem memGet_memPut {m : SMap Byte} (h : m.sorted = true) (t : Nat) (l : List Byte) : memGet (memPut m t l) t l.length = l := by
  refine List.ext_getElem (length_memGet _ _ _) fun i _ hi => ?_
  simp only [memGet, List.getElem_map, List.getElem_range]
  exact getD_memPut_in h t hi

theorem memGet_memPut_apart {m : SMap Byte} (h : m.sorted = true) {t a n : Nat} {l : List Byte}
    (ha : a + n ≤ t ∨ t + l.length ≤ a) : memGet (memPut m t l) a n = memGet m a n :=
  List.map_congr_left fun i hi => getD_memPut_out h (by have := List.mem_range.mp hi; omega)

theorem length_toLe (n v : Nat) : (toLe n v).length = n := by
  induction n generalizing v with
  | zero => rfl
  | succ n ih => rw [toLe, List.length_cons, ih]

theorem length_fit (n : Nat) (l : List Byte) : (fit n l).length = n := by
  unfold fit
  rw [List.length_append, List.length_take, List.length_replicate]
  omega

theorem length_noteBytes (n : NRec) (idx : Nat) : (noteBytes n idx).length = 32 := by
  unfold noteBytes
  simp only [List.length_append, length_toLe]

theorem length_capBytes (c : CapRec) (idx : Nat) : (capBytes c idx).length = 256 := length_fit _ _

/-! ### Windows (R304) -/

/-- The registers that say where an access of ring DMA goes. -/
def windowRegs : List Reg := [.HOST_WIN_CFG, .HOST_WIN_BASE_LO, .HOST_WIN_BASE_HI, .HOST_WIN_XLATE_LO, .HOST_WIN_XLATE_HI,
  .CTL_RING_OWNER]

theorem ownerExt_congr {s t : State} (h : ∀ r ∈ windowRegs, ∀ i, t.reg r i = s.reg r i) : ownerExt t = ownerExt s := by
  unfold ownerExt State.flag State.fld
  rw [h _ (by decide) 0]

theorem dmaTarget_congr {s t : State} (h : ∀ r ∈ windowRegs, ∀ i, t.reg r i = s.reg r i) (a n : Nat) (write : Bool) :
    dmaTarget t a n write = dmaTarget s a n write := by
  have cfg (f : Fld) (hf : f.reg = .HOST_WIN_CFG) (i : Nat) : t.fld f i = s.fld f i := by
    unfold State.fld
    rw [hf, h _ (by decide) i]
  have blo := h .HOST_WIN_BASE_LO (by decide)
  have bhi := h .HOST_WIN_BASE_HI (by decide)
  have xlo := h .HOST_WIN_XLATE_LO (by decide)
  have xhi := h .HOST_WIN_XLATE_HI (by decide)
  unfold dmaTarget winFor winHolds
  simp only [ownerExt_congr h, State.flag, State.reg64, cfg .HOST_WIN_CFG_EN rfl, cfg .HOST_WIN_CFG_SIZE_LOG2 rfl,
    cfg .HOST_WIN_CFG_WRITE rfl, blo, bhi, xlo, xhi]
  rfl

/-! ### A write that meets no error (R280) -/

/-- From s to t bytes l are put at x in the memory of ring DMA; beside it only the transfers of the link change. -/
structure Puts (s t : State) (x : Nat) (l : List Byte) : Prop where
  sound : t.Sound
  regs : t.regs = s.regs
  mem : dmaMem t = memPut (dmaMem s) x l
  clean : ∀ a n, poisoned s a n = [] → poisoned t a n = []
  host : ∃ m e p, t.host = { s.host with mem := m, ext := e, poison := p }

theorem sorted_dmaMem {s : State} (h : s.Sound) : SMap.sorted (dmaMem s) = true := by
  unfold dmaMem
  split
  · exact SMap.wf_sorted h.host.ext
  · exact SMap.wf_sorted h.host.mem

theorem ownerExt_regs {s t : State} (h : t.regs = s.regs) : ownerExt t = ownerExt s := flag_congr h _ 0 0

theorem hostWrite_linked {s : State} (hl : linked s) (x : Nat) (l : List Byte) :
    hostWrite x l s = dmaStore (ownerExt s) x l s := if_pos hl

/-- With no poisoned block at hand all of it is written. -/
theorem memWrite_clean {s : State} {x : Nat} {l : List Byte} (h : poisoned s x l.length = []) :
    ∃ p : List Nat, (∀ b ∈ p, b ∈ s.host.poison)
      ∧ memWrite x l s = (true, { s with host := { s.host with mem := memPut s.host.mem x l, poison := p } }) := by
  unfold memWrite
  rw [h]
  exact ⟨_, fun b hb => (List.mem_filter.mp hb).1, rfl⟩

theorem poisoned_nil {s t : State} (h : ∀ b ∈ t.host.poison, b ∈ s.host.poison) {a n : Nat} (hp : poisoned s a n = []) :
    poisoned t a n = [] := by
  unfold poisoned at *
  rw [List.filter_eq_nil_iff] at *
  intro b hb hc
  exact hp b hb (List.contains_iff_mem.mpr (h b (List.contains_iff_mem.mp hc)))

theorem sound_withHost {s : State} (h : s.Sound) {x : HostSt} (hx : x.Sound) : State.Sound { s with host := x } :=
  ⟨h.regs, h.shadow, h.cnts, h.tot, h.hold, h.pairs, h.ctl, hx, h.hlt, h.nvm, h.cls, h.time, h.tbl, h.leaf, h.xbar, h.buf,
    h.tm, h.sky⟩

/-- The memory of an external host has no errors of this die's (R280). -/
theorem puts_ext {s : State} (h : s.Sound) (ho : ownerExt s = true) (x : Nat) (l : List Byte) :
    Puts s { s with host := { s.host with ext := memPut s.host.ext x l } } x l := by
  refine ⟨sound_withHost h ⟨h.host.rings, h.host.mem, sound_memPut _ _ _ h.host.ext, h.host.txLast⟩, rfl, ?_, fun _ _ => id, _, _, _, rfl⟩
  exact (if_pos ho).trans (congrArg (memPut · x l) (if_pos ho).symm)

theorem puts_mem {s : State} (h : s.Sound) (ho : ownerExt s = false) (x : Nat) (l : List Byte) {p : List Nat}
    (hp : ∀ b ∈ p, b ∈ s.host.poison) :
    Puts s { s with host := { s.host with mem := memPut s.host.mem x l, poison := p } } x l := by
  refine ⟨sound_withHost h ⟨h.host.rings, sound_memPut _ _ _ h.host.mem, h.host.ext, h.host.txLast⟩, rfl, ?_,
    fun _ _ => poisoned_nil hp, _, _, _, rfl⟩
  have no : ¬ ownerExt s = true := by rw [ho]; exact Bool.false_ne_true
  exact (if_neg no).trans (congrArg (memPut · x l) (if_neg no).symm)

theorem Sends.puts {s u t : State} (hs : Sends s u) {x : Nat} {l : List Byte} (h : Puts u t x l) : Puts s t x l := by
  obtain ⟨-, m, rfl⟩ := hs
  exact ⟨h.sound, h.regs, h.mem, h.clean, h.host⟩

theorem hostWrite_clean {s : State} (h : s.Sound) (hl : linked s) {x : Nat} {l : List Byte}
    (hc : ownerExt s = true ∨ poisoned s x l.length = []) :
    (hostWrite x l s).1 = true ∧ Puts s (hostWrite x l s).2 x l := by
  have sent := (Sends.refl h).send 5 1 (flitsOf l.length) 0
  have owner := ownerExt_regs sent.regs
  have errors : poisoned (idlSend 5 1 (flitsOf l.length) 0 s) x l.length = poisoned s x l.length := by
    unfold poisoned; rw [sent.host]
  rw [hostWrite_linked hl]
  unfold dmaStore
  dsimp only
  split
  · next ho => exact ⟨rfl, sent.puts (puts_ext sent.sound (owner.trans ho) x l)⟩
  · next ho =>
    obtain ⟨p, hp, e⟩ := memWrite_clean (errors.trans (hc.resolve_left ho))
    rw [e]
    exact ⟨rfl, sent.puts (puts_mem sent.sound (owner.trans (Bool.eq_false_iff.mpr ho)) x l hp)⟩

/-! ### An entry of a ring (R301, R317) -/

theorem dmaWrite_target {s : State} {a x : Nat} {l : List Byte} (h : dmaTarget s a l.length true = some x) :
    dmaWrite a l s = (if (hostWrite x l s).1 then 0 else 0x14, (hostWrite x l s).2) := by
  unfold dmaWrite
  rw [h]

theorem ringWb_target {s : State} {r y : Nat} (hr : 160 ≤ r)
    (h : dmaTarget s (s.reg64 .HOST_RING_WB_LO .HOST_RING_WB_HI r) 64 true = some y) :
    ringWb r s = (true, (hostWrite y (fit 64 (toLe 4 (tailOf s r))) s).2) := by
  unfold ringWb writeBack
  rw [if_neg (Nat.not_lt.mpr hr), h]

/-- An entry and the write-back slot, put one after the other, stand side by side. -/
theorem wasPut_of_memPut {s t : State} (h : s.Sound) {x y idx : Nat} {l : List Byte} (hx : x + l.length ≤ y ∨ y + 64 ≤ x)
    (ht : dmaMem t = memPut (memPut (dmaMem s) x l) y (fit 64 (toLe 4 idx))) : wasPut s t x l y idx := by
  have hs := sorted_dmaMem h
  have h1 := sorted_memPut hs x l
  have len : (fit 64 (toLe 4 idx)).length = 64 := length_fit _ _
  refine ⟨?_, ?_, fun a ha hb => ?_⟩ <;> rw [ht]
  · rw [memGet_memPut_apart h1 (by rw [len]; exact hx), memGet_memPut hs]
  · have := memGet_memPut h1 y (fit 64 (toLe 4 idx))
    rwa [len] at this
  · rw [getD_memPut_out h1 (by rw [len]; exact hb), getD_memPut_out hs ha]

theorem add32_lt (a n : Nat) : add32 a n < 2 ^ 32 := Nat.mod_lt _ (by decide)

theorem tailOf_setTail {s : State} (h : s.Sound) (r : Nat) {v : Nat} (hv : v < 2 ^ 32) : tailOf (setTail r v s) r = v := by
  unfold tailOf setTail
  rw [reg_setReg h.regs, BitVec.toNat_ofNat, Nat.mod_eq_of_lt hv]

theorem setTail_host (r v : Nat) (s : State) : (setTail r v s).host = s.host := rfl

/-- TAIL is no register of the windows. -/
theorem windows_setTail {s : State} (h : s.Sound) (r v : Nat) : ∀ q ∈ windowRegs, ∀ i, (setTail r v s).reg q i = s.reg q i :=
  fun _ hq i => reg_setReg_apart h.regs ((by decide : ∀ q ∈ windowRegs, regApart q .HOST_RING_TAIL = true) _ hq) _ _ _ _ _

theorem reg64_setTail {s : State} (h : s.Sound) (r v i : Nat) :
    (setTail r v s).reg64 .HOST_RING_WB_LO .HOST_RING_WB_HI i = s.reg64 .HOST_RING_WB_LO .HOST_RING_WB_HI i := by
  unfold State.reg64 setTail
  rw [reg_setReg_apart h.regs (by decide), reg_setReg_apart h.regs (by decide)]

theorem linked_setTail {s : State} (h : s.Sound) (hl : linked s) (r v : Nat) : linked (setTail r v s) :=
  (flag_setReg_apart h.regs (by decide) _ _ _ _ _).trans hl

theorem host_raiseVec (v : Nat) (s : State) : (raiseVec v s).host = s.host :=
  (kept_raiseVec (le_same _) v s (.refl _ s)).host (by decide)

/-- The moderation of a ring leaves the memories and the records alone. -/
theorem host_entryIrq (r : Nat) (s : State) : ∃ m, (entryIrq r s).host = { s.host with rings := m } := by
  unfold entryIrq ringRaise
  dsimp only
  split
  · split
    · rw [host_raiseVec]
      exact ⟨_, rfl⟩
    · exact ⟨_, rfl⟩
  · exact ⟨_, rfl⟩

/-- What an operation on interrupts and rings leaves of the registers that say where DMA goes. -/
theorem dmaMem_congr {s t : State} (ho : ownerExt t = ownerExt s) (hm : t.host.mem = s.host.mem) (he : t.host.ext = s.host.ext) :
    dmaMem t = dmaMem s := by
  unfold dmaMem
  rw [ho, hm, he]

/-- An entry has been written to a ring: TAIL stands after it, entry and write-back slot are in memory, and the records that wait
are as before. -/
structure EntryPut (s t : State) (r : Nat) (l : List Byte) (x y : Nat) : Prop where
  sound : t.Sound
  link : linked t
  tail : tailOf t r = add32 (tailOf s r) 1
  put : wasPut s t x l y (add32 (tailOf s r) 1)
  recq : t.host.recq = s.host.recq
  faultLog : t.host.faultLog = s.host.faultLog

/-- The entry stands in memory and TAIL after it; the write-back is still to come. -/
structure Stored (s u : State) (r x : Nat) (l : List Byte) : Prop where
  sound : u.Sound
  link : linked u
  windows : ∀ q ∈ windowRegs, ∀ i, u.reg q i = s.reg q i
  slot : u.reg64 .HOST_RING_WB_LO .HOST_RING_WB_HI r = s.reg64 .HOST_RING_WB_LO .HOST_RING_WB_HI r
  tail : tailOf u r = add32 (tailOf s r) 1
  mem : dmaMem u = memPut (dmaMem s) x l
  clean : ∀ a n, poisoned s a n = [] → poisoned u a n = []
  recq : u.host.recq = s.host.recq
  faultLog : u.host.faultLog = s.host.faultLog

theorem stored_setTail {s u : State} {r x : Nat} {l : List Byte} (hl : linked s) (p : Puts s u x l) :
    Stored s (setTail r (add32 (tailOf s r) 1) u) r x l := by
  obtain ⟨hu, regs, mem, clean, m, e, q, host⟩ := p
  have windows : ∀ q ∈ windowRegs, ∀ i, (setTail r (add32 (tailOf s r) 1) u).reg q i = s.reg q i :=
    fun q hq i => (windows_setTail hu r _ q hq i).trans (reg_congr regs q i 0)
  refine ⟨sound_State_setReg _ _ _ _ _ hu, linked_setTail hu ((flag_congr regs _ 0 0).trans hl) r _, windows, ?_,
    tailOf_setTail hu r (add32_lt _ _), ?_, clean, by rw [setTail_host, host], by rw [setTail_host, host]⟩
  · rw [reg64_setTail hu]
    unfold State.reg64
    rw [reg_congr regs, reg_congr regs]
  · exact (dmaMem_congr ((ownerExt_congr windows).trans (ownerExt_regs regs).symm) rfl rfl).trans mem

/-- What leaves TAIL, the link, the owner, the memories and the records alone leaves an entry that was put. -/
theorem EntryPut.of_kept {T : Touch} {s v t : State} {r x y : Nat} {l : List Byte} (h : EntryPut s v r l x y) (hk : Kept T v t)
    (ht : t.Sound) (free : ∀ q ∈ [Reg.CTL_RING_OWNER, .SYS_PLANE_STATE, .HOST_RING_TAIL], freeR T q = true)
    (host : ∃ m, t.host = { v.host with rings := m }) : EntryPut s t r l x y := by
  obtain ⟨m, host⟩ := host
  have mem : dmaMem t = dmaMem v := dmaMem_congr
    (hk.flag (f := .CTL_RING_OWNER_OWNER) h.sound ht (free _ (by decide)) 0 0) (by rw [host]) (by rw [host])
  refine ⟨ht, (hk.flag (f := .SYS_PLANE_STATE_IDL_UP) h.sound ht (free _ (by decide)) 0 0).trans h.link, ?_, ?_,
    (congrArg HostSt.recq host).trans h.recq, (congrArg HostSt.faultLog host).trans h.faultLog⟩
  · unfold tailOf
    rw [hk.reg h.sound ht (free _ (by decide))]
    exact h.tail
  · obtain ⟨entry, slot, others⟩ := h.put
    exact ⟨by rw [mem]; exact entry, by rw [mem]; exact slot, by rw [mem]; exact others⟩

theorem EntryPut.congr {s v t : State} {r x y : Nat} {l : List Byte} (h : EntryPut s v r l x y) (ht : t.Sound)
    (regs : t.regs = v.regs) (host : t.host = v.host) : EntryPut s t r l x y := by
  have mem : dmaMem t = dmaMem v := dmaMem_congr (ownerExt_regs regs) (by rw [host]) (by rw [host])
  refine ⟨ht, (flag_congr regs _ 0 0).trans h.link, (tailOf_congr regs r).trans h.tail, ?_, by rw [host]; exact h.recq,
    by rw [host]; exact h.faultLog⟩
  obtain ⟨entry, slot, others⟩ := h.put
  exact ⟨by rw [mem]; exact entry, by rw [mem]; exact slot, by rw [mem]; exact others⟩

theorem EntryPut.entryIrq {s v : State} {r x y : Nat} {l : List Byte} (h : EntryPut s v r l x y) :
    EntryPut s (entryIrq r v) r l x y :=
  h.of_kept (kept_entryIrq (le_same _) r v (.refl _ v)) (sound_entryIrq r v h.sound) (by decide +kernel) (host_entryIrq r v)

theorem EntryPut.raiseVec {s t : State} {r x y : Nat} {l : List Byte} (h : EntryPut s t r l x y) (v : Nat) :
    EntryPut s (raiseVec v t) r l x y :=
  h.of_kept (kept_raiseVec (le_same _) v t (.refl _ t)) (sound_raiseVec v t h.sound) (by decide +kernel) ⟨_, host_raiseVec v t⟩

theorem entryPut_of_stored {s u v : State} {r x y : Nat} {l : List Byte} (h : s.Sound) (st : Stored s u r x l)
    (p : Puts u v y (fit 64 (toLe 4 (tailOf u r)))) (apart : x + l.length ≤ y ∨ y + 64 ≤ x) : EntryPut s v r l x y := by
  obtain ⟨hv, regs, mem, -, m, e, q, host⟩ := p
  refine ⟨hv, (flag_congr regs _ 0 0).trans st.link, (tailOf_congr regs r).trans st.tail, ?_,
    by rw [host]; exact st.recq, by rw [host]; exact st.faultLog⟩
  rw [st.mem, st.tail] at mem
  exact wasPut_of_memPut h apart mem

theorem ringPut_eq {s u : State} {r st : Nat} {mk : Nat → List Byte}
    (hw : dmaWrite (ringBase s r + tailOf s r % ringSize s r * entLen r) (mk (tailOf s r)) s = (st, u)) (hst : st ≠ 0x13) :
    (ringPut r mk s).2 = (if (ringWb r (setTail r (add32 (tailOf s r) 1) u)).1 then
        entryIrq r (ringWb r (setTail r (add32 (tailOf s r) 1) u)).2
      else stopLost r (ringWb r (setTail r (add32 (tailOf s r) 1) u)).2) := by
  unfold ringPut
  dsimp only
  rw [hw]
  dsimp only
  rw [if_neg hst]
  split <;> rfl

/-- The write of an entry that the windows and the memory take. -/
theorem ringPut_puts {s : State} (h : s.Sound) (hl : linked s) {r x y : Nat} {mk : Nat → List Byte} (hr : 160 ≤ r)
    (hlen : (mk (tailOf s r)).length = entLen r)
    (hp : canPut s (ringBase s r + tailOf s r % ringSize s r * entLen r) (entLen r)
      (s.reg64 .HOST_RING_WB_LO .HOST_RING_WB_HI r) x y) :
    EntryPut s (ringPut r mk s).2 r (mk (tailOf s r)) x y := by
  obtain ⟨hx, hy, clean, apart⟩ := hp
  rw [← hlen] at hx
  obtain ⟨ok, put⟩ := hostWrite_clean h hl (x := x) (l := mk (tailOf s r)) (clean.imp id fun c => by rw [hlen]; exact c.1)
  have hw := dmaWrite_target hx
  rw [ok, if_pos rfl, hlen] at hw
  have st := stored_setTail (r := r) hl put
  rw [ringPut_eq hw (by decide)]
  generalize setTail r (add32 (tailOf s r) 1) (hostWrite x (mk (tailOf s r)) s).2 = u at *
  rw [ringWb_target (y := y) hr (by rw [dmaTarget_congr st.windows, st.slot]; exact hy), if_pos rfl]
  have slot : (fit 64 (toLe 4 (tailOf u r))).length = 64 := length_fit _ _
  obtain ⟨-, put'⟩ := hostWrite_clean st.sound st.link (x := y) (l := fit 64 (toLe 4 (tailOf u r)))
    (by rw [ownerExt_congr st.windows, slot]; exact clean.imp id fun c => st.clean y 64 c.2)
  exact (entryPut_of_stored h st put' (by rw [hlen]; exact apart)).entryIrq

/-! ### The vector of a fault record (R294) -/

theorem testBit_setBit {w k : Nat} (h : w.testBit k = false) (hk : k < 32) : (BitVec.ofNat 32 (w + 2 ^ k)).toNat.testBit k = true := by
  rw [BitVec.toNat_ofNat, Nat.testBit_mod_two_pow, Nat.add_comm, Nat.testBit_two_pow_add_eq, h]
  simp [hk]

theorem regs_newInt (v : Nat) (s : State) : (newInt v s).regs = s.regs := by
  unfold newInt sendMsix
  dsimp only
  split
  · split <;> rfl
  · rfl

theorem pends_takeInt {s : State} (h : s.Sound) (v : Nat) : pends (takeInt v s) v := by
  unfold takeInt
  dsimp only
  split
  · next hb => exact hb
  · next hb =>
    unfold pends
    rw [reg_congr (regs_newInt v _), reg_setReg (s := noteInt v false s) h.regs]
    exact testBit_setBit (Bool.eq_false_iff.mpr hb) (Nat.mod_lt _ (by decide))

theorem pends_raiseVec {s : State} (h : s.Sound) (hl : linked s) (v : Nat) : pends (raiseVec v s) v := by
  unfold raiseVec
  rw [show s.flag .SYS_PLANE_STATE_IDL_UP = true from hl, if_pos rfl]
  exact pends_takeInt ((Sends.refl h).send 2 1 1 0).sound v

/-! ### Records (R315, R316, R331) -/

/-- The oldest generated record is taken. -/
def popRec (rest : List PendRec) (s : State) : State := { s with host := { s.host with recq := rest } }

theorem exec_notes {s : State} {l : List NRec} {rest : List PendRec} (h : s.host.recq = .notes l :: rest) :
    exec .notifyRecordWrite s = .next (noteNext l (popRec rest s)) := by
  unfold exec execNotifyRecordWrite
  rw [h]
  rfl

theorem exec_cap {s : State} {c : CapRec} {rest : List PendRec} (h : s.host.recq = .cap c :: rest) :
    exec .notifyRecordWrite s = .next (capWrite c (popRec rest s)) := by
  unfold exec execNotifyRecordWrite
  rw [h]
  rfl

theorem sound_popRec {s : State} (h : s.Sound) (rest : List PendRec) : (popRec rest s).Sound :=
  sound_withHost h ⟨h.host.rings, h.host.mem, h.host.ext, h.host.txLast⟩

theorem Sofar.popRec {s : State} (h : s.Sound) (rest : List PendRec) (aa : List Area) (hh : Area.host ∈ aa) (cc : List Nat) :
    Sofar s (popRec rest s) aa [] cc := by
  refine (Sofar.start h aa [] cc).areas rfl rfl rfl (fun a ha => ?_)
  cases a <;> trivial

theorem Sofar.setSys {s u : State} {aa : List Area} {oo cc : List Nat} (h : Sofar s u aa oo cc) (hm : Area.sys ∈ aa) (x : SysSt) :
    Sofar s { u with sys := x } aa oo cc := by
  refine h.areas rfl rfl rfl fun a ha => ?_
  cases a <;> trivial

theorem Sofar.setHost {s u : State} {aa : List Area} {oo cc : List Nat} (h : Sofar s u aa oo cc) (hm : Area.host ∈ aa) (x : HostSt) :
    Sofar s { u with host := x } aa oo cc := by
  refine h.areas rfl rfl rfl fun a ha => ?_
  cases a <;> trivial

theorem cnt_popRec (s : State) (rest : List PendRec) (c : Cnt) (i : Nat) : (popRec rest s).cnt c i = s.cnt c i := rfl

/-- A record that is only counted. -/
theorem count_popRec {s : State} (h : s.Sound) (rest : List PendRec) (c : Cnt) :
    ((popRec rest s).count c).cnt c = s.cnt c + 1#64 ∧ ((popRec rest s).count c).host.recq = rest
      ∧ s.Only ((popRec rest s).count c) [.host] [] [Cnt.off c] := by
  refine ⟨?_, by rw [count_host]; rfl, ((Sofar.popRec h rest [.host] (by decide) [Cnt.off c]).count c 0 0 1
    (List.mem_singleton.mpr rfl)).only⟩
  rw [← cnt_popRec s rest]
  exact cnt_count (s := popRec rest s) h.cnts _ _ _ _

/-- A record's ring is one of the notification rings. -/
theorem noteRing_bounds (s : State) (k : RKind) : 160 ≤ noteRing s k ∧ noteRing s k < 168 := by
  refine ⟨Nat.le_add_right _ _, ?_⟩
  cases k with
  | learn => exact Nat.add_lt_add_left (fld_lt s .TBL_LEARN_CFG_RING 0 0) 160
  | age => exact Nat.add_lt_add_left (fld_lt s .TBL_AGE_CFG_RING 0 0) 160
  | weather => exact Nat.add_lt_add_left (fld_lt s .TM_WX_CFG_RING 0 0) 160
  | dump => exact Nat.add_lt_add_left (fld_lt s .HOST_NOTIFY_CFG_DUMP_RING 0 0) 160
  | fault => exact Nat.add_lt_add_left (fld_lt s .HOST_NOTIFY_CFG_FAULT_RING 0 0) 160
  | step => exact Nat.add_lt_add_left (fld_lt s .HOST_NOTIFY_CFG_FAULT_RING 0 0) 160

theorem entLen_noteRing (s : State) (k : RKind) : entLen (noteRing s k) = 32 :=
  if_neg (by have := (noteRing_bounds s k).2; omega)

theorem noteNext_backlog {s : State} (h : backlogged s = true) (l : List NRec) : noteNext l s = toBacklog l s := if_pos h

theorem toBacklog_room {s : State} {n : NRec} (h : groupLen s.sys.backlog < 4096) :
    toBacklog [n] s = { s with sys := { s.sys with backlog := s.sys.backlog ++ [[n]] } } := if_pos h

theorem toBacklog_full {s : State} {n : NRec} (h : 4096 ≤ groupLen s.sys.backlog) :
    toBacklog [n] s = s.count .SYS_HEADLESS_NOTIFY_DROP_CNT := if_neg (Nat.not_le.mpr (Nat.lt_succ_of_le h))

theorem toFaultBacklog_room {s : State} {n : NRec} (h : groupLen s.host.faultLog < 256) :
    toFaultBacklog [n] s = { s with host := { s.host with faultLog := s.host.faultLog ++ [[n]] } } := if_pos h

theorem toFaultBacklog_full {s : State} {n : NRec} (h : 256 ≤ groupLen s.host.faultLog) :
    toFaultBacklog [n] s = s.count .HOST_FAULT_REC_DROP_CNT := if_neg (Nat.not_le.mpr (Nat.lt_succ_of_le h))

/-- A record that the ring takes, with the vector of a fault record. -/
def writeNote (n : NRec) (s : State) : State :=
  if n.kind = .fault then raiseVec 172 (ringPut (noteRing s n.kind) (noteBytes n) s).2
  else (ringPut (noteRing s n.kind) (noteBytes n) s).2

theorem notePut_takes {s : State} {n : NRec} (ht : ringTakes s (noteRing s n.kind) 1 = true)
    (hr : ringReach s (noteRing s n.kind) = true) : notePut [n] s = (true, writeNote n s) := by
  exact (if_neg (by simp [ht])).trans (if_neg (by simp [hr]))

theorem notePut_refuses {s : State} {n : NRec} (ht : ringTakes s (noteRing s n.kind) 1 = false) : notePut [n] s = (false, s) := by
  exact if_pos (by simp [ht])

/-- A record of this kind may wait in the fault backlog (R316). -/
theorem any_fault (n : NRec) :
    [n].any (fun n => n.kind == .fault || n.kind == .step) = decide (n.kind = .fault ∨ n.kind = .step) := by
  cases h : n.kind <;> simp [h]

/-- No fault record stands before this one. -/
theorem no_fault_ahead {s : State} {n : NRec} (hf : (n.kind = .fault ∨ n.kind = .step) → s.host.faultLog = []) :
    ¬ ([n].any (fun n => n.kind == .fault || n.kind == .step) && !s.host.faultLog.isEmpty) = true := by
  rw [any_fault]
  by_cases hk : n.kind = .fault ∨ n.kind = .step
  · rw [hf hk]
    simp
  · simp [hk]

/-- A record meets its ring where no backlog stands before it. -/
theorem noteNext_takes {s : State} {n : NRec} (hb : backlogged s = false)
    (hf : (n.kind = .fault ∨ n.kind = .step) → s.host.faultLog = []) (ht : ringTakes s (noteRing s n.kind) 1 = true)
    (hr : ringReach s (noteRing s n.kind) = true) : noteNext [n] s = writeNote n s := by
  unfold noteNext
  dsimp only
  rw [hb, if_neg Bool.false_ne_true, if_neg (no_fault_ahead hf), notePut_takes ht hr]

theorem noteNext_misses {s : State} {n : NRec} (hb : backlogged s = false)
    (hf : (n.kind = .fault ∨ n.kind = .step) → s.host.faultLog = []) (ht : ringTakes s (noteRing s n.kind) 1 = false) :
    noteNext [n] s = (noteMiss [n] s).getD (toBacklog [n] s) := by
  unfold noteNext
  dsimp only
  rw [hb, if_neg Bool.false_ne_true, if_neg (no_fault_ahead hf), notePut_refuses ht]

/-- What its ring does not take, or what stands behind an earlier fault record, goes to the fault backlog. -/
theorem noteNext_fault {s : State} {n : NRec} (hb : backlogged s = false) (hk : n.kind = .fault ∨ n.kind = .step)
    (h : s.host.faultLog ≠ [] ∨ ringTakes s (noteRing s n.kind) 1 = false) : noteNext [n] s = toFaultBacklog [n] s := by
  by_cases he : s.host.faultLog = []
  · rw [noteNext_misses hb (fun _ => he) (h.resolve_left (not_not_intro he))]
    unfold noteMiss
    rcases hk with hk | hk <;> simp [hk]
  · unfold noteNext
    dsimp only
    rw [hb, if_neg Bool.false_ne_true, any_fault, if_pos]
    simp [hk, he]

theorem noteNext_weather {s : State} {n : NRec} (hb : backlogged s = false) (hk : n.kind = .weather)
    (h : ringTakes s (noteRing s n.kind) 1 = false) :
    noteNext [n] s = wxMiss (wxEntry n) (s.count .TM_WX_DROP_CNT) := by
  rw [noteNext_misses hb (fun h => by rw [hk] at h; simp at h) h]
  unfold noteMiss
  simp [hk]

theorem wxMiss_cnts (i : Nat) (s : State) : (wxMiss i s).cnts = s.cnts := rfl

theorem wxMiss_host (i : Nat) (s : State) : (wxMiss i s).host = s.host := rfl

theorem Sofar.wxMiss {s u : State} {aa : List Area} {oo cc : List Nat} (h : Sofar s u aa oo cc) (hm : Area.tm ∈ aa) (i : Nat) :
    Sofar s (wxMiss i u) aa oo cc := by
  refine h.areas rfl rfl rfl fun a ha => ?_
  cases a <;> trivial

/-- FAULT_BACKLOG_DELIVER as a step of the state. -/
def deliverFault (s : State) : State :=
  match s.host.faultLog with
  | [] => s
  | l :: rest =>
    if backlogged s then s
    else
      match notePut l s with
      | (true, s) => { s with host := { s.host with faultLog := rest } }
      | (false, s) => s

theorem exec_faultBacklogDeliver (s : State) : exec .faultBacklogDeliver s = .next (deliverFault s) := rfl

/-- The fault log after its oldest group. -/
def setFaultLog (rest : List (List NRec)) (s : State) : State := { s with host := { s.host with faultLog := rest } }

/-- A fault record waits behind a backlog, and for room in its ring. -/
theorem deliverFault_waits {s : State} {n : NRec} {rest : List (List NRec)} (hq : s.host.faultLog = [n] :: rest)
    (h : backlogged s = true ∨ ringTakes s (noteRing s n.kind) 1 = false) : deliverFault s = s := by
  unfold deliverFault
  rw [hq]
  dsimp only
  by_cases hb : backlogged s = true
  · rw [hb, if_pos rfl]
  · rw [if_neg hb, notePut_refuses (h.resolve_left hb)]

theorem deliverFault_takes {s : State} {n : NRec} {rest : List (List NRec)} (hq : s.host.faultLog = [n] :: rest)
    (hb : backlogged s = false) (ht : ringTakes s (noteRing s n.kind) 1 = true) (hr : ringReach s (noteRing s n.kind) = true) :
    deliverFault s = setFaultLog rest (writeNote n s) := by
  unfold deliverFault
  rw [hq]
  dsimp only
  rw [hb, if_neg Bool.false_ne_true, notePut_takes ht hr]
  rfl

theorem mem_wxMiss (i : Nat) (s : State) : i ∈ (wxMiss i s).tm.wxLost := by
  unfold wxMiss
  dsimp only
  split
  · next h => exact List.contains_iff_mem.mp h
  · exact List.mem_cons_self

/-- A record that is written stands in its ring, and a fault record raises its vector. -/
theorem writeNote_puts {s : State} (h : s.Sound) (hl : linked s) {n : NRec} {x y : Nat}
    (hp : canPut s (ringBase s (noteRing s n.kind) + tailOf s (noteRing s n.kind) % ringSize s (noteRing s n.kind) * 32) 32
      (s.reg64 .HOST_RING_WB_LO .HOST_RING_WB_HI (noteRing s n.kind)) x y) :
    EntryPut s (writeNote n s) (noteRing s n.kind) (noteBytes n (tailOf s (noteRing s n.kind))) x y
      ∧ (n.kind = .fault → pends (writeNote n s) 172) := by
  have entry := entLen_noteRing s n.kind
  have put := ringPut_puts h hl (mk := noteBytes n) (noteRing_bounds s n.kind).1 ((length_noteBytes n _).trans entry.symm)
    (by rw [entry]; exact hp)
  unfold writeNote
  split
  · exact ⟨put.raiseVec 172, fun _ => pends_raiseVec put.sound put.link 172⟩
  · next hk => exact ⟨put, fun e => absurd e hk⟩

/-- An entry that is put after the record has been taken from the queue. -/
theorem EntryPut.of_popRec {s t : State} {rest : List PendRec} {r x y : Nat} {l : List Byte}
    (h : EntryPut (popRec rest s) t r l x y) : tailOf t r = add32 (tailOf s r) 1 ∧ wasPut s t x l y (add32 (tailOf s r) 1)
      ∧ t.host.recq = rest := ⟨h.tail, ⟨h.put.entry, h.put.slot, h.put.others⟩, h.recq⟩

theorem canPut_popRec {s : State} {rest : List PendRec} {a n wb x y : Nat} (h : canPut s a n wb x y) :
    canPut (popRec rest s) a n wb x y := ⟨h.entry, h.slot, h.clean, h.apart⟩

/-! ### Captures (R316, R335, R345) -/

theorem copyEnd_cnts (c : Cnt) (ses : Nat) (s : State) : (copyEnd c ses s).cnts = (s.count c ses).cnts := led_cnts _ _ _ _

theorem copyEnd_host (c : Cnt) (ses : Nat) (s : State) : (copyEnd c ses s).host = s.host :=
  (led_host _ _ _ _).trans (count_host _ _ _ _ _)

theorem copyEnd_regs (c : Cnt) (ses : Nat) (s : State) : (copyEnd c ses s).regs = s.regs :=
  (led_regs _ _ _ _).trans (count_regs _ _ _ _ _)

theorem cnt_copyEnd {s : State} (h : s.Sound) (c : Cnt) (ses : Nat) : (copyEnd c ses s).cnt c ses = s.cnt c ses + 1#64 :=
  (cnt_congr (copyEnd_cnts c ses s) _ _ _).trans (cnt_count h.cnts _ _ _ _)

theorem cnt_copyEnd_apart {s : State} (h : s.Sound) {c q : Cnt} (ha : cntApart q c = true) (ses i : Nat) :
    (copyEnd c ses s).cnt q i = s.cnt q i :=
  (cnt_congr (copyEnd_cnts c ses s) _ _ _).trans (cnt_count_apart h.cnts ha _ _ _ _ _)

/-- A copy that is dropped counts at the session and with its cause. -/
theorem copyEnd_drops {s : State} (h : s.Sound) {c : Cnt} (ha : cntApart c .MIR_HOST_DROP_CNT = true)
    (ha' : cntApart .MIR_HOST_DROP_CNT c = true) (i ses : Nat) :
    (copyEnd .MIR_HOST_DROP_CNT ses (s.count c i)).cnt c i = s.cnt c i + 1#64
      ∧ (copyEnd .MIR_HOST_DROP_CNT ses (s.count c i)).cnt .MIR_HOST_DROP_CNT ses = s.cnt .MIR_HOST_DROP_CNT ses + 1#64
      ∧ (copyEnd .MIR_HOST_DROP_CNT ses (s.count c i)).host.recq = s.host.recq := by
  have hc := sound_State_count s c i 0 1 h
  refine ⟨(cnt_copyEnd_apart hc ha ses i).trans (cnt_count h.cnts _ _ _ _), ?_, by rw [copyEnd_host, count_host]⟩
  rw [cnt_copyEnd hc, cnt_count_apart h.cnts ha']

theorem capWrite_headless {s : State} {c : CapRec} (h : s.flag .SYS_PLANE_STATE_HEADLESS = true) :
    capWrite c s = copyEnd .MIR_HOST_DROP_CNT c.session (s.count .SYS_HEADLESS_HOST_DROP_CNT) := if_pos h

theorem capWrite_refused {s : State} {c : CapRec} (h : s.flag .SYS_PLANE_STATE_HEADLESS = false)
    (ht : ringTakes s (168 + c.ring) 1 = false) :
    capWrite c s = copyEnd .MIR_HOST_DROP_CNT c.session (s.count .HOST_CAP_DROP_CNT (168 + c.ring)) :=
  (if_neg (by simp [h])).trans (if_pos (by simp [ht]))

theorem capWrite_takes {s : State} {c : CapRec} (h : s.flag .SYS_PLANE_STATE_HEADLESS = false)
    (ht : ringTakes s (168 + c.ring) 1 = true) (hr : ringReach s (168 + c.ring) = true) :
    capWrite c s = copyEnd .MIR_DELIVER_CNT c.session (ringPut (168 + c.ring) (capBytes c) s).2 :=
  (if_neg (by simp [h])).trans ((if_neg (by simp [ht])).trans (if_neg (by simp [hr])))

theorem entLen_capture (i : Nat) : entLen (168 + i) = 256 := if_pos (Nat.le_add_right _ _)

/-- A capture that its ring takes stands in it, and the copy has ended. -/
theorem capture_puts {s : State} (h : s.Sound) (hl : linked s) {c : CapRec} {x y : Nat}
    (hp : canPut s (ringBase s (168 + c.ring) + tailOf s (168 + c.ring) % ringSize s (168 + c.ring) * 256) 256
      (s.reg64 .HOST_RING_WB_LO .HOST_RING_WB_HI (168 + c.ring)) x y) :
    EntryPut s (copyEnd .MIR_DELIVER_CNT c.session (ringPut (168 + c.ring) (capBytes c) s).2) (168 + c.ring)
        (capBytes c (tailOf s (168 + c.ring))) x y
      ∧ (copyEnd .MIR_DELIVER_CNT c.session (ringPut (168 + c.ring) (capBytes c) s).2).cnt .MIR_DELIVER_CNT c.session
        = s.cnt .MIR_DELIVER_CNT c.session + 1#64 := by
  have entry := entLen_capture c.ring
  have put := ringPut_puts h hl (mk := capBytes c) (by omega) ((length_capBytes c _).trans entry.symm) (by rw [entry]; exact hp)
  have count := (of_snd (kept_ringPut (le_same _) (168 + c.ring) (capBytes c) s (.refl _ s))).cnt (c := .MIR_DELIVER_CNT) h put.sound
    (by decide +kernel) c.session 0
  generalize (ringPut (168 + c.ring) (capBytes c) s).2 = u at *
  exact ⟨put.congr (sound_copyEnd _ _ _ put.sound) (copyEnd_regs _ _ _) (copyEnd_host _ _ _),
    (cnt_copyEnd put.sound _ _).trans (congrArg (· + 1#64) count)⟩

end Sys2Proof.Machine
end

section
open Sys2Proof Sys2Proof.Machine

/-- Settles O50: a record goes to the backlog, to its ring (`writeNote_puts`), to the fault backlog, or is counted; captures
likewise (`capture_puts`). -/
theorem recordWrites : Obligations.RecordWrites := by
  unfold Obligations.RecordWrites
  refine ⟨?backlog, ?written, ?refused, ?capture, ?deliver⟩
  case backlog =>
    intro s n rest h hq hb
    have e : exec .notifyRecordWrite s = .next (toBacklog [n] (popRec rest s)) :=
      (exec_notes hq).trans (congrArg Host.Outcome.next (noteNext_backlog (s := popRec rest s) hb _))
    refine ⟨fun room => ⟨_, e, ?_⟩, fun full => ⟨_, e, ?_⟩⟩
    · rw [toBacklog_room (s := popRec rest s) room]
      exact ⟨rfl, rfl, ((Sofar.popRec h rest [.sys, .host] (by decide) []).setSys (by decide) _).only⟩
    · rw [toBacklog_full (s := popRec rest s) full]
      exact count_popRec h rest _
  case written =>
    intro s n rest x y h hl hq hb hf ht hr hp
    obtain ⟨put, fault⟩ := writeNote_puts (sound_popRec h rest) hl (n := n) (canPut_popRec hp)
    obtain ⟨tail, was, recq⟩ := put.of_popRec
    exact ⟨_, (exec_notes hq).trans (congrArg Host.Outcome.next (noteNext_takes (s := popRec rest s) hb hf ht hr)), tail, was, recq, fault⟩
  case refused =>
    intro s n rest h hq hb
    refine ⟨fun hk hw => ?_, fun hk ht => ?_⟩
    · have e : exec .notifyRecordWrite s = .next (toFaultBacklog [n] (popRec rest s)) :=
        (exec_notes hq).trans (congrArg Host.Outcome.next (noteNext_fault (s := popRec rest s) hb hk hw))
      refine ⟨fun room => ⟨_, e, ?_⟩, fun full => ⟨_, e, ?_⟩⟩
      · rw [toFaultBacklog_room (s := popRec rest s) room]
        exact ⟨rfl, rfl, ((Sofar.popRec h rest [.host] (by decide) []).setHost (by decide) _).only⟩
      · rw [toFaultBacklog_full (s := popRec rest s) full]
        exact count_popRec h rest _
    · have e : exec .notifyRecordWrite s = .next (wxMiss (wxEntry n) ((popRec rest s).count .TM_WX_DROP_CNT)) :=
        (exec_notes hq).trans (congrArg Host.Outcome.next (noteNext_weather (s := popRec rest s) hb hk ht))
      obtain ⟨count, recq, -⟩ := count_popRec h rest .TM_WX_DROP_CNT
      exact ⟨_, e, (cnt_congr (wxMiss_cnts _ _) _ _ _).trans count, mem_wxMiss _ _, (by rw [wxMiss_host]; exact recq),
        (((Sofar.popRec h rest [.host, .tm] (by decide) [Cnt.off .TM_WX_DROP_CNT]).count .TM_WX_DROP_CNT 0 0 1
          (by decide)).wxMiss (by decide) _).only⟩
  case capture =>
    intro s c rest h hl hq _ _
    have e := exec_cap hq
    have hu := sound_popRec h rest
    refine ⟨fun hh => ⟨_, e, ?_⟩, fun hh ht => ⟨_, e, ?_⟩, fun x y hh ht hr hp => ⟨_, e, ?_⟩⟩
    · rw [capWrite_headless (s := popRec rest s) hh]
      exact copyEnd_drops hu (by decide +kernel) (by decide +kernel) 0 c.session
    · rw [capWrite_refused (s := popRec rest s) hh ht]
      exact copyEnd_drops hu (by decide +kernel) (by decide +kernel) (168 + c.ring) c.session
    · rw [capWrite_takes (s := popRec rest s) hh ht hr]
      obtain ⟨put, count⟩ := capture_puts hu hl (canPut_popRec hp)
      obtain ⟨tail, was, recq⟩ := put.of_popRec
      exact ⟨tail, was, count, recq⟩
  case deliver =>
    intro s n rest h hq
    exact ⟨fun hw => (exec_faultBacklogDeliver s).trans (congrArg Host.Outcome.next (deliverFault_waits hq hw)),
      fun hb ht hr => ⟨_, (exec_faultBacklogDeliver s).trans (congrArg Host.Outcome.next (deliverFault_takes hq hb ht hr)), rfl⟩⟩
end

section
/-!
SUPPORT. The sky side in OFF and LISTEN (R199, R253): the deskew store that a flush empties, and what an entry to each state shows.
-/
namespace Sys2Proof.Machine

/-! ### The deskew store -/

/-- From s to t the deskew store stays as it is. -/
def SameDesk (s t : State) : Prop := t.sky.desk = s.sky.desk

theorem SameDesk.of_kept {T : Touch} {s t : State} (hk : Kept T s t) (hs : T.a.testBit 22 = false) : SameDesk s t :=
  congrArg SkySt.desk (hk.sky hs)

theorem SameDesk.trans {s t u : State} (h : SameDesk s t) (h' : SameDesk t u) : SameDesk s u := Eq.trans h' h

theorem SameDesk.foldl {α : Type} {f : State → α → State} (step : ∀ s a, SameDesk s (f s a)) (s : State) (l : List α) :
    SameDesk s (l.foldl f s) := foldl_holds (P := SameDesk s) (fun t a h => h.trans (step t a)) rfl

theorem sameDesk_returnCell (e : Nat) (c : Chosen) (s : State) : SameDesk s (returnCell e c s) := by
  unfold returnCell
  dsimp only
  have queue (q : Queue) : SameDesk s (setQueue c.queue q s) :=
    .of_kept (kept_setQueue (le_same _) c.queue q s (.refl _ s)) (by decide)
  have credit (d : Nat) (u : State) : SameDesk u (addCredit d 1 u) :=
    .of_kept (kept_addCredit (le_same _) d 1 u (.refl _ u)) (by decide)
  split
  · exact (queue _).trans (credit c.dst _)
  · exact queue _

theorem sameDesk_returnChosen (n : Nat) (p : Chosen → Bool) (s : State) : SameDesk s (returnChosen n p s) := by
  unfold returnChosen
  dsimp only
  have depths (l : List Chosen) : SameDesk s (l.foldl (fun s c => noteDepth c.queue s) s) :=
    .foldl (fun s c => .of_kept (kept_noteDepth (le_same _) c.queue s (.refl _ s)) (by decide)) s l
  exact (depths _).trans (.foldl (fun s c => sameDesk_returnCell _ c s) (setSlane n _ _) _)

theorem sameDesk_returnAll (p : Chosen → Bool) (s : State) : SameDesk s (returnAll p s) :=
  .foldl (fun s n => sameDesk_returnChosen n p s) s _

theorem sameDesk_cutQueues (sel : Nat → Bool) (c : Cnt) (p : Cell → Bool) (s : State) : SameDesk s (cutQueues sel c p s) :=
  .of_kept (T := ⟨3414020, 0x4000000002000000180000000000000, 0x24000000000000000000⟩)
    (kept_cutQueues (by decide) sel c p s (.inl (by decide)) (.refl _ s)) (by decide)

theorem sameDesk_dropCell (i : Nat) (c : Cell) (s : State) : SameDesk s (dropCell i c s) :=
  .of_kept (kept_dropCell (le_same _) i c s (.refl _ s)) (by decide)

theorem sameDesk_resetStream (src c : Nat) (s : State) : SameDesk s (resetStream src c s) := by
  unfold resetStream
  dsimp only
  have held (u : State) : SameDesk u ((reseqOf s src c).held.foldl (fun s h => dropCell h.tile h.cell s) u) :=
    .foldl (fun s h => sameDesk_dropCell _ _ s) u _
  have opened (u : State) : SameDesk u ((reseqOf s src c).opened.foldl (fun s e => dropCell e.1 e.2 s) u) :=
    .foldl (fun s e => sameDesk_dropCell _ _ s) u _
  split
  · exact (held (s.count _ _ _ _)).trans (opened _)
  · exact (held (s.count _ _ _ _)).trans (opened _)

theorem sameDesk_resetPair (y : Nat) (s : State) : SameDesk s (resetPair y s) := by
  have cells := (sameDesk_returnAll (fun c => c.relay && c.dst == y) s).trans
    (sameDesk_returnAll (fun c => decide (1024 ≤ qValue c.queue) && (qDest c.queue == y || c.cell.srcMod == y)) _)
  unfold resetPair resetStreams
  dsimp only
  generalize returnAll _ (returnAll _ s) = u at *
  have counted : SameDesk u (u.count .SKY_CREDIT_FORFEIT_CNT 0 0 (creditHeld u y)) := rfl
  generalize State.count u _ _ _ _ = v at *
  have cut := (sameDesk_cutQueues (fun k => qKind k == 2 && qDest k == y) .SKY_PEER_LOSS_CELL_CNT (fun _ => true) v).trans
    (sameDesk_cutQueues (fun k => qKind k == 2) .SKY_PEER_LOSS_CELL_CNT (fun c => c.srcMod == y) _)
  generalize cutQueues _ _ _ (cutQueues _ _ _ v) = w at *
  have shown : SameDesk w (((undue y w).setReg .SKY_CREDIT_HELD 0#32 y).setReg .SKY_RELAY_OUT 0#32 y) := rfl
  generalize State.setReg (State.setReg (undue y w) _ _ _ _) _ _ _ _ = x at *
  have pair (p : PairSt) : SameDesk x (setPair y p x) := rfl
  exact (((cells.trans counted).trans cut).trans shown).trans
    ((pair _).trans (.foldl (fun s c => sameDesk_resetStream y c s) _ _))

/-- A flush empties the deskew store (R253). -/
theorem desk_skyFlush (s : State) : (skyFlush s).sky.desk = [] := by
  unfold skyFlush
  dsimp only
  generalize s.sky.desk.foldl _ s = u
  have empty : SameDesk { u with sky := { u.sky with desk := [] } } (returnAll (fun _ => true) { u with sky := { u.sky with desk := [] } }) :=
    sameDesk_returnAll _ _
  exact (empty.trans (sameDesk_cutQueues _ _ _ _)).trans (.foldl (fun s y => sameDesk_resetPair y s) _ _)

/-! ### The lease (R269) -/

theorem time_showLease (s : State) : (showLease s).time = s.time :=
  (kept_showLease (le_same _) s (.refl _ s)).time (by decide)

theorem heldAt_releaseLease (s : State) : (releaseLease s).time.heldAt = none := by
  unfold releaseLease stopLease
  split
  · rw [time_showLease]
    rfl
  · next h => exact Option.not_isSome_iff_eq_none.mp h

theorem time_skyFlush (s : State) : (skyFlush s).time = s.time :=
  (kept_skyFlush (le_same _) s (.refl _ s)).time (by decide)

/-- A flush after the release of the lease. -/
def leave (s : State) : State := skyFlush (releaseLease s)

theorem sound_leave {s : State} (h : s.Sound) : (leave s).Sound := sound_skyFlush _ (sound_releaseLease s h)

theorem leave_leaves (s : State) : (leave s).time.heldAt = none ∧ (leave s).sky.desk = [] :=
  ⟨(congrArg TimeSt.heldAt (time_skyFlush _)).trans (heldAt_releaseLease s), desk_skyFlush _⟩

/-! ### Entry to OFF (R199, R253) -/

/-- The sky is not being founded. -/
def noFounding (u : State) : State := { u with sky := { u.sky with founding := false } }

theorem noFounding_regs (u : State) : (noFounding u).regs = u.regs := rfl
theorem noFounding_time (u : State) : (noFounding u).time = u.time := rfl
theorem noFounding_desk (u : State) : (noFounding u).sky.desk = u.sky.desk := rfl

theorem enterOff_eq (s : State) :
    enterOff s = noFounding (((leave s).setFld .SKY_STATE_STATE 0).setFld .SKYT_STATUS_VALID 0) := by
  unfold enterOff leave noFounding
  rfl

theorem enterOff_shows {s : State} (h : s.Sound) : skyState (enterOff s) = 0 ∧ (enterOff s).flag .SKYT_STATUS_VALID = false
    ∧ (enterOff s).time.heldAt = none ∧ (enterOff s).sky.desk = []
    ∧ (enterOff s).flag .SKY_CTRL_EN = s.flag .SKY_CTRL_EN := by
  have enabled := (kept_enterOff (le_same _) s (.refl _ s)).flag (f := .SKY_CTRL_EN) h (sound_enterOff s h) (by decide +kernel) 0 0
  refine ⟨?_, ?_, ?_, ?_, enabled⟩ <;> rw [enterOff_eq]
  all_goals
    obtain ⟨lease, desk⟩ := leave_leaves s
    have hu := (sound_leave h).regs
    generalize leave s = u at *
    have h1 := sorted_setFld hu .SKY_STATE_STATE 0 0 0
  · unfold skyState
    rw [fld_congr (noFounding_regs _), fld_setFld_apart h1 (by decide)]
    exact fld_setFld hu (by decide) (by decide) 0 0 0
  · rw [flag_congr (noFounding_regs _)]
    exact flag_setFld h1 (by decide) (by decide) 0 0 0
  · rw [noFounding_time, setFld_time, setFld_time]
    exact lease
  · rw [noFounding_desk, setFld_sky, setFld_sky]
    exact desk

/-! ### Entry to LISTEN (R199, R244, R256) -/

theorem get?_keep_out {α : Type} {m : SMap α} {p : Nat → Bool} {q : Nat} (h : p q = false) :
    SMap.get? (SMap.keep m p) q = none := by
  unfold SMap.keep
  induction m with
  | nil => rfl
  | cons e m ih =>
    obtain ⟨k, v⟩ := e
    by_cases hk : p k = true
    · have hq : q ≠ k := by
        rintro rfl
        rw [h] at hk
        cases hk
      simp only [List.filter_cons, hk, if_true, SMap.get?, hq, if_false, ih, ite_self]
    · rw [List.filter_cons, if_neg hk, ih]

theorem get?_keep_in {α : Type} {m : SMap α} (hs : SMap.sorted m = true) {p : Nat → Bool} {q : Nat} (h : p q = true) :
    SMap.get? (SMap.keep m p) q = SMap.get? m q := by
  unfold SMap.keep
  induction m with
  | nil => rfl
  | cons e m ih =>
    obtain ⟨k, v⟩ := e
    obtain ⟨ha, hs'⟩ := SMap.sorted_cons.1 hs
    by_cases hk : p k = true
    · simp only [List.filter_cons, hk, if_true, SMap.get?, ih hs']
    · have hq : q ≠ k := by
        rintro rfl
        exact hk h
      have tail : SMap.get? ((k, v) :: m) q = if q < k then none else SMap.get? m q := if_neg hq
      rw [List.filter_cons, if_neg hk, tail]
      split
      · next hl => exact (ih hs').trans (SMap.get?_above ha (Nat.le_of_lt hl))
      · exact ih hs'

theorem reg_clearRegs_in {s : State} {lo n : Nat} {r : Reg} {i : Nat} (h : lo ≤ r.off i ∧ r.off i < lo + n) :
    (clearRegs lo n s).reg r i = r.resetOf i 0 := by
  unfold State.reg SMap.getD clearRegs
  rw [get?_keep_out]
  · rfl
  · simp [h]

theorem reg_clearRegs_out {s : State} (hs : s.regs.sorted = true) {lo n : Nat} {r : Reg} {i : Nat}
    (h : r.off i < lo ∨ lo + n ≤ r.off i) : (clearRegs lo n s).reg r i = s.reg r i := by
  unfold State.reg SMap.getD clearRegs
  rw [get?_keep_in hs]
  simp only [Bool.not_eq_true', Bool.and_eq_false_iff, decide_eq_false_iff_not]
  omega

/-- From s to t a register array stays as it is. -/
structure Beside (r : Reg) (s t : State) : Prop where
  sorted : t.regs.sorted = true
  reg : ∀ i, t.reg r i = s.reg r i

theorem Beside.refl {r : Reg} {s : State} (h : s.regs.sorted = true) : Beside r s s := ⟨h, fun _ => rfl⟩

theorem Beside.setReg {r q : Reg} {s t : State} (h : Beside r s t) (ha : regApart r q = true) (w : Word) (i j : Nat) :
    Beside r s (t.setReg q w i j) :=
  ⟨sorted_setReg h.sorted _ _ _ _, fun k => (reg_setReg_apart h.sorted ha w i j k 0).trans (h.reg k)⟩

theorem Beside.setFld {r : Reg} {f : Fld} {s t : State} (h : Beside r s t) (ha : regApart r f.reg = true) (v i j : Nat) :
    Beside r s (t.setFld f v i j) := h.setReg ha _ _ _

theorem Beside.setReg64 {r lo hi : Reg} {s t : State} (h : Beside r s t) (ha : regApart r lo = true) (ha' : regApart r hi = true)
    (v i : Nat) : Beside r s (t.setReg64 lo hi v i) := (h.setReg ha _ _ _).setReg ha' _ _ _

/-- The peers, the measured delays and the strangers are forgotten. -/
def clearPeers (s : State) : State :=
  clearRegs (Reg.SKY_STRANGER_SRC.off) 0x10 (clearRegs (Reg.SKYT_LANE_DELAY.off) 0x400 (clearRegs (Reg.SKY_PEER.off) 0x200 s))

def clearAlarms (s : State) : State :=
  (List.range 256).foldl (fun s n =>
    if s.flag .SKY_LANE_ALARM_STRANGER n then s.setFld .SKY_LANE_ALARM_STRANGER 0 n else s) s

/-- The map announced, and the lease heard of, are forgotten. -/
def dropAnnounce (s : State) : State :=
  ((s.setReg .SKY_ANNOUNCE 0#32).setReg64 .SKY_ANNOUNCE_APPLY_LO .SKY_ANNOUNCE_APPLY_HI 0).setReg .SKYT_LEASE 0#32

/-- The dark cause is MAP. -/
def darkByMap (s : State) : State := ((s.setFld .SKY_STATE_LULL 0).setFld .SKY_STATE_DUSK 0).setFld .SKY_STATE_MAP 1

/-- Sky time is neither valid nor stepped. -/
def dropTime (s : State) : State :=
  (((s.setFld .SKYT_STATUS_VALID 0).setFld .SKYT_STATUS_STEPPED 0).setFld .SKYT_STATUS_LULL 0).setFld .SKYT_STATUS_FOUND_READY 0

/-- What the model keeps of the sky and of its time is forgotten. -/
def forgetSky (s : State) : State :=
  { s with
    sky := { s.sky with traces := [], spare := [], cands := [], mapNow := none, mapOld := [],
                        founding := false, halfMods := [] }
    time := { s.time with rx := [], offs := [], sums := [], fresh := [], marks := [], holder := none, run := 0,
                          runAt := 0, leaseEnd := 0, released := false, relEnd := none,
                          heardAt := curEpoch s, heardClk := none, firstOff := false, good := 0, founder := false } }

theorem forgetSky_heldAt (s : State) : (forgetSky s).time.heldAt = s.time.heldAt := rfl

/-- What LISTEN shows in the registers, once the peers are forgotten. -/
def showListen (s : State) : State := (dropTime (darkByMap (dropAnnounce (clearAlarms s)))).setFld .SKY_STATE_STATE 1

theorem enterListen_eq (s : State) : enterListen s = showLease (forgetSky (showListen (clearPeers (leave s)))) := by
  unfold enterListen
  extract_lets s1 s2 s3 s4 s5 s6 s7 s8 s9 t9 k9 s10
  have e4 : s4 = clearPeers (leave s) := rfl
  clear_value s4 s3 s2 s1
  have e5 : s5 = clearAlarms s4 := rfl
  clear_value s5
  have e6 : s6 = dropAnnounce s5 := rfl
  clear_value s6
  have e7 : s7 = darkByMap s6 := rfl
  clear_value s7
  have e9 : s9 = (dropTime s7).setFld .SKY_STATE_STATE 1 := rfl
  clear_value s9 s8
  have e10 : s10 = forgetSky s9 := rfl
  rw [e10, e9, e7, e6, e5, e4]
  rfl

/-- The registers that LISTEN shows. -/
def listenRegs : List Reg := [.SKY_LANE_ALARM, .SKY_ANNOUNCE, .SKY_ANNOUNCE_APPLY_LO, .SKY_ANNOUNCE_APPLY_HI, .SKYT_LEASE,
  .SKY_STATE, .SKYT_STATUS]

theorem Beside.clearAlarms {r : Reg} {s : State} (h : s.regs.sorted = true) (ha : regApart r .SKY_LANE_ALARM = true) :
    Beside r s (clearAlarms s) := by
  refine foldl_holds (P := Beside r s) (fun t n ht => ?_) (.refl h)
  split
  · exact ht.setFld ha _ _ _
  · exact ht

theorem sorted_clearAlarms {s : State} (h : s.regs.sorted = true) : (clearAlarms s).regs.sorted = true :=
  (Beside.clearAlarms (r := .SKY_CTRL) h (by decide)).sorted

theorem sorted_dropAnnounce {s : State} (h : s.regs.sorted = true) : (dropAnnounce s).regs.sorted = true :=
  (((Beside.refl (r := .SKY_CTRL) h).setReg (by decide) _ 0 0).setReg64 (by decide) (by decide) _ 0).setReg
    (q := .SKYT_LEASE) (by decide) _ 0 0 |>.sorted

theorem Beside.showListen {r : Reg} {s : State} (h : s.regs.sorted = true) (ha : ∀ q ∈ listenRegs, regApart r q = true) :
    Beside r s (showListen s) := by
  have state := ha .SKY_STATE (by decide)
  have status := ha .SKYT_STATUS (by decide)
  have announced := (((Beside.clearAlarms h (ha _ (by decide))).setReg (ha .SKY_ANNOUNCE (by decide)) 0#32 0 0).setReg64
    (ha .SKY_ANNOUNCE_APPLY_LO (by decide)) (ha .SKY_ANNOUNCE_APPLY_HI (by decide)) 0 0).setReg (ha .SKYT_LEASE (by decide)) 0#32 0 0
  have dark := ((announced.setFld (f := .SKY_STATE_LULL) state 0 0 0).setFld (f := .SKY_STATE_DUSK) state 0 0 0).setFld
    (f := .SKY_STATE_MAP) state 1 0 0
  have time := (((dark.setFld (f := .SKYT_STATUS_VALID) status 0 0 0).setFld (f := .SKYT_STATUS_STEPPED) status 0 0 0).setFld
    (f := .SKYT_STATUS_LULL) status 0 0 0).setFld (f := .SKYT_STATUS_FOUND_READY) status 0 0 0
  exact time.setFld (f := .SKY_STATE_STATE) state 1 0 0

theorem sorted_darkByMap {s : State} (h : s.regs.sorted = true) : (darkByMap s).regs.sorted = true :=
  sorted_setFld (sorted_setFld (sorted_setFld h _ _ _ _) _ _ _ _) _ _ _ _

theorem darkByMap_map {s : State} (h : s.regs.sorted = true) : (darkByMap s).flag .SKY_STATE_MAP = true :=
  flag_setFld (sorted_setFld (sorted_setFld h _ _ _ _) _ _ _ _) (by decide) (by decide) 1 0 0

theorem dropTime_shows {s : State} (h : s.regs.sorted = true) : (dropTime s).regs.sorted = true
    ∧ (dropTime s).flag .SKYT_STATUS_VALID = false ∧ (dropTime s).flag .SKYT_STATUS_STEPPED = false
    ∧ (dropTime s).flag .SKY_STATE_MAP = s.flag .SKY_STATE_MAP := by
  have h1 := sorted_setFld h .SKYT_STATUS_VALID 0 0 0
  have h2 := sorted_setFld h1 .SKYT_STATUS_STEPPED 0 0 0
  have h3 := sorted_setFld h2 .SKYT_STATUS_LULL 0 0 0
  unfold dropTime
  refine ⟨sorted_setFld h3 _ _ _ _, ?_, ?_, ?_⟩
  · rw [flag_setFld_beside h3 (by decide), flag_setFld_beside h2 (by decide), flag_setFld_beside h1 (by decide)]
    exact flag_setFld h (by decide) (by decide) 0 0 0
  · rw [flag_setFld_beside h3 (by decide), flag_setFld_beside h2 (by decide)]
    exact flag_setFld h1 (by decide) (by decide) 0 0 0
  · rw [flag_setFld_apart h3 (by decide), flag_setFld_apart h2 (by decide), flag_setFld_apart h1 (by decide),
      flag_setFld_apart h (by decide)]

theorem showListen_shows {s : State} (h : s.regs.sorted = true) : skyState (showListen s) = 1
    ∧ (showListen s).flag .SKY_STATE_MAP = true ∧ (showListen s).flag .SKYT_STATUS_VALID = false
    ∧ (showListen s).flag .SKYT_STATUS_STEPPED = false := by
  have h1 := sorted_dropAnnounce (sorted_clearAlarms h)
  have h2 := sorted_darkByMap h1
  have map := darkByMap_map h1
  obtain ⟨h3, valid, stepped, kept⟩ := dropTime_shows h2
  unfold showListen
  refine ⟨fld_setFld h3 (by decide) (by decide) 1 0 0, ?_, ?_, ?_⟩
  · exact (flag_setFld_beside h3 (by decide) 1 0 0).trans (kept.trans map)
  · exact (flag_setFld_apart h3 (by decide) 1 0 0 0 0).trans valid
  · exact (flag_setFld_apart h3 (by decide) 1 0 0 0 0).trans stepped

/-- Where the peers lie, apart from the delays and the strangers. -/
theorem peer_range {d : Nat} (h : d < 128) : (Reg.off .SKY_PEER ≤ Reg.off .SKY_PEER d ∧ Reg.off .SKY_PEER d < Reg.off .SKY_PEER + 0x200)
    ∧ Reg.off .SKY_PEER d < Reg.off .SKYT_LANE_DELAY ∧ Reg.off .SKY_PEER d < Reg.off .SKY_STRANGER_SRC :=
  (by decide +kernel : ∀ d < 128, (Reg.off .SKY_PEER ≤ Reg.off .SKY_PEER d ∧ Reg.off .SKY_PEER d < Reg.off .SKY_PEER + 0x200)
    ∧ Reg.off .SKY_PEER d < Reg.off .SKYT_LANE_DELAY ∧ Reg.off .SKY_PEER d < Reg.off .SKY_STRANGER_SRC) d h

theorem sorted_clearRegs {s : State} (h : s.regs.sorted = true) (lo n : Nat) : (clearRegs lo n s).regs.sorted = true := by
  exact SMap.sorted_keep h (fun k => !(decide (lo ≤ k) && decide (k < lo + n)))

theorem sorted_clearPeers {s : State} (h : s.regs.sorted = true) : (clearPeers s).regs.sorted = true :=
  sorted_clearRegs (sorted_clearRegs (sorted_clearRegs h _ _) _ _) _ _

/-- The peers are forgotten. -/
theorem clearPeers_peer {s : State} (h : s.regs.sorted = true) {d : Nat} (hd : d < 128) :
    (clearPeers s).reg .SKY_PEER d = Reg.resetOf .SKY_PEER d 0 := by
  obtain ⟨inside, delays, strangers⟩ := peer_range hd
  have h1 := sorted_clearRegs h (Reg.SKY_PEER.off) 0x200
  have h2 := sorted_clearRegs h1 (Reg.SKYT_LANE_DELAY.off) 0x400
  unfold clearPeers
  rw [reg_clearRegs_out h2 (.inl strangers), reg_clearRegs_out h1 (.inl delays), reg_clearRegs_in inside]

/-- The switch of the sky side stands. -/
theorem clearPeers_ctrl {s : State} (h : s.regs.sorted = true) (i : Nat) :
    (clearPeers s).reg .SKY_CTRL i = s.reg .SKY_CTRL i := by
  have ctrl : Reg.off .SKY_CTRL i = 0x700004 := by
    unfold Reg.off
    simp [Reg.SKY_CTRL]
  have h1 := sorted_clearRegs h (Reg.SKY_PEER.off) 0x200
  have h2 := sorted_clearRegs h1 (Reg.SKYT_LANE_DELAY.off) 0x400
  unfold clearPeers
  rw [reg_clearRegs_out h2 (.inl (by rw [ctrl]; decide)), reg_clearRegs_out h1 (.inl (by rw [ctrl]; decide)),
    reg_clearRegs_out h (.inl (by rw [ctrl]; decide))]

/-- No peer is present after a reset. -/
theorem absent_at_reset : ∀ d < 128, Fld.get .SKY_PEER_PRESENT (Reg.resetOf .SKY_PEER d 0) = 0 := by decide +kernel

theorem leave_ctrl {s : State} (h : s.Sound) : (leave s).reg .SKY_CTRL = s.reg .SKY_CTRL := by
  have hr := sound_releaseLease s h
  exact ((kept_skyFlush (le_same _) _ (.refl _ _)).reg hr (sound_skyFlush _ hr) (by decide +kernel) 0 0).trans
    ((kept_releaseLease (le_same _) s (.refl _ s)).reg h hr (by decide +kernel) 0 0)

theorem time_showListen (s : State) : (showListen s).time = s.time := by
  have alarms : (clearAlarms s).time = s.time := foldl_holds (P := fun t : State => t.time = s.time) (fun t n e => by
    split
    · exact e
    · exact e) rfl
  unfold showListen dropTime darkByMap dropAnnounce State.setReg64
  simp only [setFld_time, setReg_time, alarms]

theorem clearPeers_time (s : State) : (clearPeers s).time = s.time := rfl

theorem Beside.showLease {r : Reg} {u : State} (h : u.regs.sorted = true)
    (ha : ∀ q ∈ [Reg.SKYT_LEASE, .SKYT_LEASE_END_LO, .SKYT_LEASE_END_HI], regApart r q = true) : Beside r u (showLease u) :=
  ((Beside.refl h).setFld (f := .SKYT_LEASE_HELD) (ha .SKYT_LEASE (by decide)) _ 0 0).setReg64 (ha _ (by decide)) (ha _ (by decide)) _ 0

theorem forgetSky_reg (u : State) (r : Reg) (i : Nat) : (forgetSky u).reg r i = u.reg r i := rfl

/-- What the registers show is what they showed before the lease and the working state. -/
theorem reg_listened {u : State} (h : u.regs.sorted = true) {r : Reg}
    (ha : ∀ q ∈ [Reg.SKYT_LEASE, .SKYT_LEASE_END_LO, .SKYT_LEASE_END_HI], regApart r q = true) (i : Nat) :
    (showLease (forgetSky u)).reg r i = u.reg r i :=
  ((Beside.showLease (u := forgetSky u) h ha).reg i).trans (forgetSky_reg u r i)

theorem enterListen_shows {s : State} (h : s.Sound) : skyState (enterListen s) = 1
    ∧ (enterListen s).flag .SKY_CTRL_EN = s.flag .SKY_CTRL_EN ∧ (enterListen s).flag .SKY_STATE_MAP = true
    ∧ (enterListen s).flag .SKYT_STATUS_VALID = false ∧ (enterListen s).flag .SKYT_STATUS_STEPPED = false
    ∧ (enterListen s).time.heldAt = none ∧ ∀ d < 128, present (enterListen s) d = false := by
  have hl := (sound_leave h).regs
  have hp := sorted_clearPeers hl
  obtain ⟨state, map, valid, stepped⟩ := showListen_shows hp
  obtain ⟨lease, -⟩ := leave_leaves s
  have time := time_showListen (clearPeers (leave s))
  have besideCtrl := Beside.showListen (r := .SKY_CTRL) hp (by decide)
  have ctrl := (besideCtrl.reg 0).trans ((clearPeers_ctrl hl 0).trans (leave_ctrl h))
  have peer {d : Nat} (hd : d < 128) := ((Beside.showListen (r := .SKY_PEER) hp (by decide)).reg d).trans (clearPeers_peer hl hd)
  have sorted := besideCtrl.sorted
  have held : (clearPeers (leave s)).time.heldAt = none := by
    rw [clearPeers_time, lease]
  rw [enterListen_eq]
  generalize showListen (clearPeers (leave s)) = u at *
  have state' := reg_listened sorted (r := .SKY_STATE) (by decide) 0
  have status' := reg_listened sorted (r := .SKYT_STATUS) (by decide) 0
  have ctrl' := (reg_listened sorted (r := .SKY_CTRL) (by decide) 0).trans ctrl
  refine ⟨?_, ?_, ?_, ?_, ?_, ?_, fun d hd => ?_⟩
  · exact (congrArg (Fld.get .SKY_STATE_STATE) state').trans state
  · exact congrArg (fun w => Fld.get .SKY_CTRL_EN w != 0) ctrl'
  · exact (congrArg (fun w => Fld.get .SKY_STATE_MAP w != 0) state').trans map
  · exact (congrArg (fun w => Fld.get .SKYT_STATUS_VALID w != 0) status').trans valid
  · exact (congrArg (fun w => Fld.get .SKYT_STATUS_STEPPED w != 0) status').trans stepped
  · rw [time_showLease, forgetSky_heldAt, time, held]
  · have absent : Fld.get .SKY_PEER_PRESENT ((showLease (forgetSky u)).reg .SKY_PEER d) = 0 :=
      (congrArg _ ((reg_listened sorted (r := .SKY_PEER) (by decide) d).trans (peer hd))).trans (absent_at_reset d hd)
    unfold present State.flag State.fld
    rw [show Fld.reg .SKY_PEER_PRESENT = .SKY_PEER from rfl, absent]
    exact Bool.and_false _

/-! ### SKY_CTRL (R20, R23, R185, R199) -/

theorem skyCtrl_there (s : State) (a : Agent) (v : Nat) : fusedOff s (write32 a .SKY_CTRL v).off = false :=
  fusedOff_write32 (by decide +kernel) (by decide) (by decide) (by decide) s a v

theorem exec_skyCtrlWrite {s : State} (hl : linked s) (a : Agent) (v : Word) :
    exec (.skyCtrlWrite a v) s = .next (skyCtrl v (idlSend 0 0 1 0 s)) :=
  congrArg Host.Outcome.next (far_linked (op := skyCtrl v) hl (skyCtrl_there s a v.toNat))

/-- EN as it is written. -/
def enabled (v : Word) (s : State) : State := s.setFld .SKY_CTRL_EN (Fld.SKY_CTRL_EN.get v)

theorem sound_enabled {s : State} (h : s.Sound) (v : Word) : (enabled v s).Sound := sound_State_setFld _ _ _ _ _ h

theorem enabled_fld {s : State} (h : s.Sound) (v : Word) : (enabled v s).fld .SKY_CTRL_EN = Fld.SKY_CTRL_EN.get v := by
  refine (fld_setFld h.regs (f := .SKY_CTRL_EN) (by decide) (by decide) _ 0 0).trans (Nat.mod_eq_of_lt ?_)
  unfold Fld.get bits
  exact Nat.mod_lt _ (by decide)

/-- EN is no field of another register. -/
theorem enabled_apart {s : State} (h : s.Sound) (v : Word) {g : Fld} (hg : regApart g.reg .SKY_CTRL = true) :
    (enabled v s).fld g = s.fld g := fld_setFld_apart (f := .SKY_CTRL_EN) h.regs hg _ 0 0 0 0

theorem enabled_state {s : State} (h : s.Sound) (v : Word) : skyState (enabled v s) = skyState s := enabled_apart h v (by decide)

theorem enabled_cfgOk {s : State} (h : s.Sound) (v : Word) : skyCfgOk (enabled v s) = skyCfgOk s := by
  unfold skyCfgOk ownMod State.flag
  rw [enabled_apart h v (by decide), enabled_apart h v (by decide)]

theorem enabled_only {s : State} (h : s.Sound) (v : Word) (aa : List Area) (oo : List Nat) (hm : Reg.off .SKY_CTRL ∈ oo) :
    Sofar s (enabled v s) aa oo [] := (Sofar.start h aa oo []).setFld .SKY_CTRL_EN _ 0 0 hm

theorem skyCtrl_eq (v : Word) (s : State) : skyCtrl v s =
    if skyState (enabled v s) = 0 then
      if Fld.SKY_CTRL_EN.get v = 1 then
        if skyCfgOk (enabled v s) then skyTry (enabled v s) else (enabled v s).setFld .SKY_STATE_CFG_ERR 1
      else enabled v s
    else if Fld.SKY_CTRL_EN.get v = 1 then enabled v s else enterOff (enabled v s) := rfl

/-- OFF is left for LISTEN. -/
theorem skyCtrl_listens {s : State} (h : s.Sound) {v : Word} (hv : Fld.SKY_CTRL_EN.get v = 1) (h0 : skyState s = 0)
    (hc : skyCfgOk s = true) (ho : s.flag .PWR_STATUS_OVEN_READY = true) : skyCtrl v s = enterListen (enabled v s) := by
  have h0 := (enabled_state h v).trans h0
  have hc := (enabled_cfgOk h v).trans hc
  have en : (enabled v s).flag .SKY_CTRL_EN = true := congrArg (· != 0) ((enabled_fld h v).trans hv)
  have oven : (enabled v s).flag .PWR_STATUS_OVEN_READY = true :=
    (congrArg (· != 0) (enabled_apart h v (g := .PWR_STATUS_OVEN_READY) (by decide))).trans ho
  rw [skyCtrl_eq, if_pos h0, if_pos hv, if_pos hc]
  unfold skyTry
  rw [h0, en, oven, hc]
  rfl

/-- An oscillator that is not ready keeps the sky side in OFF. -/
theorem skyCtrl_waits {s : State} (h : s.Sound) {v : Word} (hv : Fld.SKY_CTRL_EN.get v = 1) (h0 : skyState s = 0)
    (hc : skyCfgOk s = true) (ho : s.flag .PWR_STATUS_OVEN_READY = false) : skyCtrl v s = enabled v s := by
  have h0 := (enabled_state h v).trans h0
  have hc := (enabled_cfgOk h v).trans hc
  have oven : (enabled v s).flag .PWR_STATUS_OVEN_READY = false :=
    (congrArg (· != 0) (enabled_apart h v (g := .PWR_STATUS_OVEN_READY) (by decide))).trans ho
  rw [skyCtrl_eq, if_pos h0, if_pos hv, if_pos hc]
  unfold skyTry
  rw [oven]
  simp

theorem skyCtrl_misfit {s : State} (h : s.Sound) {v : Word} (hv : Fld.SKY_CTRL_EN.get v = 1) (h0 : skyState s = 0)
    (hc : skyCfgOk s = false) : skyCtrl v s = (enabled v s).setFld .SKY_STATE_CFG_ERR 1 := by
  rw [skyCtrl_eq, if_pos ((enabled_state h v).trans h0), if_pos hv, if_neg (by rw [enabled_cfgOk h, hc]; exact Bool.false_ne_true)]

theorem skyCtrl_leaves {s : State} (h : s.Sound) {v : Word} (hv : Fld.SKY_CTRL_EN.get v = 0) (h0 : skyState s ≠ 0) :
    skyCtrl v s = enterOff (enabled v s) := by
  rw [skyCtrl_eq, if_neg (by rw [enabled_state h]; exact h0), if_neg (by omega)]

theorem skyCtrl_stays {s : State} (h : s.Sound) {v : Word}
    (hv : Fld.SKY_CTRL_EN.get v = 0 ∧ skyState s = 0 ∨ Fld.SKY_CTRL_EN.get v = 1 ∧ skyState s ≠ 0) :
    skyCtrl v s = enabled v s := by
  rw [skyCtrl_eq]
  rcases hv with ⟨hv, h0⟩ | ⟨hv, h0⟩
  · rw [if_pos ((enabled_state h v).trans h0), if_neg (by omega)]
  · rw [if_neg (by rw [enabled_state h]; exact h0), if_pos hv]

/-! ### A write that spends a key (R20, R361) -/

/-- Of a state only the control die's side is another one, and the key of an agent is closed. -/
structure KeySpent (s u : State) (a : Agent) : Prop where
  sound : u.Sound
  ctl : ∃ c, u = { s with ctl := c }
  closed : keyOf' u a = none

theorem keyOpen_of_closed {s : State} {a : Agent} (h : keyOf' s a = none) : keyOpen s a = false := by
  unfold keyOpen
  rw [h]

/-- The key is spent, and the keeper core's write is noted. -/
def spend (w : RegWrite) (s : State) : State := noteKeeper w (setKey w.agent none s)

theorem keySpent_spend {s : State} (h : s.Sound) (w : RegWrite) : KeySpent s (spend w s) w.agent := by
  obtain ⟨a, ali, off, val, size⟩ := w
  refine ⟨sound_noteKeeper _ _ (sound_setKey _ _ _ h), ?_, ?_⟩
  · cases a <;> exact ⟨_, rfl⟩
  · cases a <;> rfl

/-- A write of software does not change what the keeper core claims. -/
theorem keeperWins_spend {w : RegWrite} (hw : w.agent ≠ .keeper) (s : State) (off : Nat) :
    keeperWins (spend w s) off = keeperWins s off := by
  obtain ⟨a, ali, woff, val, size⟩ := w
  cases a with
  | keeper => exact absurd rfl hw
  | app => rfl
  | host => rfl

theorem guarded_passes {s : State} {w : RegWrite} (hk : keyOpen s w.agent = true)
    (hp : w.agent = .keeper ∨ keeperWins s w.off = false) (op : State → State) : guarded w op s = op (spend w s) := by
  refine (if_pos hk).trans (if_neg ?_)
  rintro ⟨hn, hw⟩
  have := (keeperWins_spend hn s w.off).symm.trans hw
  rw [hp.resolve_left hn] at this
  cases this

theorem guarded_beaten {s : State} {w : RegWrite} (hk : keyOpen s w.agent = true) (hn : w.agent ≠ .keeper)
    (hw : keeperWins s w.off = true) (op : State → State) : guarded w op s = logAccess 6 w (spend w s) :=
  (if_pos hk).trans (if_pos ⟨hn, (keeperWins_spend hn s w.off).trans hw⟩)

theorem guarded_closed {s : State} {w : RegWrite} (hk : keyOpen s w.agent = false) (hf : fusedOff s w.off = false)
    (op : State → State) : guarded w op s = logNear ⟨3, w.agent, w.size, w.ali, w.off⟩ s :=
  (if_neg (by rw [hk]; exact Bool.false_ne_true)).trans (if_neg (by rw [hf]; exact Bool.false_ne_true))

theorem logAccess_far {s : State} {kind : Nat} {w : RegWrite} (hi : isFar w.off = true) (hl : linked s)
    (hf : fusedOff s w.off = false) : logAccess kind w s = logWrite kind w (idlSend 0 0 1 0 s) := by
  unfold logAccess
  rw [if_pos hi, far_linked hl hf]

section
variable {s u : State} {b : Agent} (k : KeySpent s u b)
include k

theorem KeySpent.keeps_linked (hl : linked s) : linked u := by
  obtain ⟨-, ⟨c, rfl⟩, -⟩ := k
  exact hl

/-- A frame that names the control die holds from before the key was spent. -/
theorem KeySpent.only {t : State} {aa : List Area} {oo cc : List Nat} (h : u.Only t aa oo cc) (hc : Area.ctl ∈ aa) :
    s.Only t aa oo cc := by
  obtain ⟨-, ⟨c, rfl⟩, -⟩ := k
  refine ⟨fun a ha => ?_, h.regs, h.cnts, h.tot⟩
  have := h.area a ha
  cases a with
  | ctl => exact absurd hc ha
  | _ => exact this

theorem KeySpent.logged {t : State} {f : AccFault} (h : Logged u t f) : Logged s t f := by
  refine ⟨?_, k.only h.2 (by decide)⟩
  obtain ⟨-, ⟨c, rfl⟩, -⟩ := k
  exact ⟨h.1.counts, h.1.first, h.1.later, h.1.tie⟩

end

/-- Transfers and the fault log leave the keys alone. -/
theorem Sends.keyOf {s u : State} (h : Sends s u) (a : Agent) : keyOf' u a = keyOf' s a := by
  obtain ⟨-, m, rfl⟩ := h
  cases a <;> rfl

theorem keyOf_recordFault (f : AccFault) (s : State) (a : Agent) : keyOf' (recordFault f s) a = keyOf' s a := by
  have ctl := (kept_recordFault (le_same _) f s (.refl _ s)).ctl (by decide)
  unfold keyOf'
  rw [ctl]

/-! ### SKY_TX_EN (R20, R199) -/

theorem skyTxEn_there (s : State) (a : Agent) (v : Nat) : fusedOff s (write32 a .SKY_TX_EN v).off = false :=
  fusedOff_write32 (by decide +kernel) (by decide) (by decide) (by decide) s a v

theorem get_txEn_lt (v : Word) : Fld.SKY_TX_EN_EN.get v < 2 := by
  unfold Fld.get bits
  exact Nat.mod_lt _ (by decide)

theorem skyTxEn_shows {s : State} (h : s.Sound) (v : Word) : (skyTxEn v s).fld .SKY_TX_EN_EN = Fld.SKY_TX_EN_EN.get v
    ∧ (skyTxEn v s).fld .SKY_STATE_TX_OFF = 1 - Fld.SKY_TX_EN_EN.get v ∧ (skyTxEn v s).ctl = s.ctl := by
  have lt := get_txEn_lt v
  have h1 := sorted_setFld h.regs .SKY_TX_EN_EN (Fld.SKY_TX_EN_EN.get v) 0 0
  unfold skyTxEn
  refine ⟨?_, ?_, (setFld_ctl _ _ _ _ _).trans (setFld_ctl _ _ _ _ _)⟩
  · rw [fld_setFld_apart h1 (by decide)]
    exact (fld_setFld h.regs (f := .SKY_TX_EN_EN) (by decide) (by decide) _ 0 0).trans (Nat.mod_eq_of_lt lt)
  · exact (fld_setFld h1 (f := .SKY_STATE_TX_OFF) (by decide) (by decide) _ 0 0).trans
      (Nat.mod_eq_of_lt (show 1 - Fld.SKY_TX_EN_EN.get v < 2 by omega))

theorem txEn_far (a : Agent) (v : Nat) : isFar (write32 a .SKY_TX_EN v).off = true := by
  rw [write32_off]
  decide +kernel

theorem exec_skyTxEnWrite (s : State) (a : Agent) (v : Word) : exec (.skyTxEnWrite a v) s =
    .next (guarded (write32 a .SKY_TX_EN v.toNat) (far (write32 a .SKY_TX_EN v.toNat) (skyTxEn v)) s) := rfl

theorem txEn_fits {kind : Nat} (hk : kind < 16) (a : Agent) : AccFault.fits ⟨kind, a, 2, 0, Reg.off .SKY_TX_EN⟩ :=
  AccFault.fits_mk hk (by decide) (by decide) (by decide)

section
variable {s : State} (h : s.Sound) (hl : linked s) {a : Agent} {v : Word}
include h hl

theorem skyTxEnWrite_passes (hk : keyOpen s a = true) (hp : a = .keeper ∨ keeperWins s (Reg.off .SKY_TX_EN) = false) :
    completes (.skyTxEnWrite a v) s fun t =>
      t.fld .SKY_TX_EN_EN = Fld.SKY_TX_EN_EN.get v ∧ t.fld .SKY_STATE_TX_OFF = 1 - Fld.SKY_TX_EN_EN.get v
      ∧ keyOpen t a = false ∧ s.Only t [.ctl] [Reg.off .SKY_TX_EN, Reg.off .SKY_STATE] [] := by
  have spent := keySpent_spend h (write32 a .SKY_TX_EN v.toNat)
  have e := (exec_skyTxEnWrite s a v).trans (congrArg Host.Outcome.next
    (guarded_passes (w := write32 a .SKY_TX_EN v.toNat) hk hp (far (write32 a .SKY_TX_EN v.toNat) (skyTxEn v))))
  generalize spend (write32 a .SKY_TX_EN v.toNat) s = u at *
  rw [far_linked (op := skyTxEn v) (spent.keeps_linked hl) (skyTxEn_there u a v.toNat)] at e
  have hs := (Sends.refl spent.sound).send 0 0 1 0
  obtain ⟨en, off, ctl⟩ := skyTxEn_shows hs.sound v
  have keys : keyOf' (skyTxEn v (idlSend 0 0 1 0 u)) a = keyOf' (idlSend 0 0 1 0 u) a := by
    unfold keyOf'
    rw [ctl]
  have frame := ((Sofar.start hs.sound [.ctl] [Reg.off .SKY_TX_EN, Reg.off .SKY_STATE] []).setFld .SKY_TX_EN_EN
    (Fld.SKY_TX_EN_EN.get v) 0 0 (by decide)).setFld .SKY_STATE_TX_OFF (1 - Fld.SKY_TX_EN_EN.get v) 0 0 (by decide)
  exact ⟨_, e, en, off, keyOpen_of_closed (keys.trans ((hs.keyOf a).trans spent.closed)),
    spent.only (hs.only frame.only (by decide)) (by decide)⟩

theorem skyTxEnWrite_beaten (hk : keyOpen s a = true) (hn : a ≠ .keeper) (hw : keeperWins s (Reg.off .SKY_TX_EN) = true) :
    completes (.skyTxEnWrite a v) s fun t =>
      keyOpen t a = false ∧ faultLogged s t 6 a 2 0 (Reg.off .SKY_TX_EN) ∧ s.Only t [.sys, .ctl] faultRegs faultCnts := by
  have spent := keySpent_spend h (write32 a .SKY_TX_EN v.toNat)
  have e := (exec_skyTxEnWrite s a v).trans (congrArg Host.Outcome.next
    (guarded_beaten (w := write32 a .SKY_TX_EN v.toNat) hk hn hw (far (write32 a .SKY_TX_EN v.toNat) (skyTxEn v))))
  generalize spend (write32 a .SKY_TX_EN v.toNat) s = u at *
  rw [logAccess_far (w := write32 a .SKY_TX_EN v.toNat) (txEn_far a v.toNat) (spent.keeps_linked hl) (skyTxEn_there u a v.toNat)] at e
  have hs := (Sends.refl spent.sound).send 0 0 1 0
  exact ⟨_, e, keyOpen_of_closed ((keyOf_recordFault _ _ a).trans ((hs.keyOf a).trans spent.closed)),
    spent.logged (hs.logged (txEn_fits (kind := 6) (by decide) a))⟩

theorem skyTxEnWrite_closed (hk : keyOpen s a = false) : completes (.skyTxEnWrite a v) s fun t =>
    faultLogged s t 3 a 2 0 (Reg.off .SKY_TX_EN) ∧ s.Only t [.sys, .ctl] faultRegs faultCnts :=
  ⟨_, (exec_skyTxEnWrite s a v).trans (congrArg Host.Outcome.next
    (guarded_closed (w := write32 a .SKY_TX_EN v.toNat) hk (skyTxEn_there s a v.toNat) _)),
    (Sends.refl h).logged_near hl (txEn_fits (kind := 3) (by decide) a)⟩

end

end Sys2Proof.Machine
end

section
open Sys2Proof Sys2Proof.Machine

/-- Settles O34: a write to SKY_CTRL in each case (`skyCtrl_listens` and its fellows), what LISTEN and OFF show
(`enterListen_shows`, `enterOff_shows`), and the key that a write to SKY_TX_EN meets (`guarded_passes`, `guarded_beaten`,
`guarded_closed`). -/
theorem skyControl : Obligations.SkyControl := by
  unfold Obligations.SkyControl
  refine ⟨?on, ?off, ?same, ?lasers⟩
  case on =>
    intro s a v h hl hv h0
    have hs := (Sends.refl h).send 0 0 1 0
    have e := exec_skyCtrlWrite hl a v
    have state := (fld_congr hs.regs .SKY_STATE_STATE 0 0).trans h0
    have oven := hs.flag .PWR_STATUS_OVEN_READY 0 0
    have cfg : skyCfgOk (idlSend 0 0 1 0 s) = skyCfgOk s := by
      unfold skyCfgOk ownMod
      rw [hs.flag, fld_congr hs.regs]
    have hu := hs.sound
    refine ⟨fun hc ho => ⟨_, e, ?_⟩, fun hc ho => ⟨_, e, ?_⟩, fun hc => ⟨_, e, ?_⟩⟩
    · rw [skyCtrl_listens hu hv state (cfg.trans hc) (oven.trans ho)]
      obtain ⟨h1, h2, h3, h4, h5, h6, h7⟩ := enterListen_shows (sound_enabled hu v)
      exact ⟨h1, h2.trans (congrArg (· != 0) ((enabled_fld hu v).trans hv)), h3, h4, h5, h6, h7⟩
    · rw [skyCtrl_waits hu hv state (cfg.trans hc) (oven.trans ho)]
      exact ⟨congrArg (· != 0) ((enabled_fld hu v).trans hv), (enabled_state hu v).trans state,
        hs.only (enabled_only hu v [.ctl] _ (List.mem_singleton.mpr rfl)).only (by decide)⟩
    · rw [skyCtrl_misfit hu hv state (cfg.trans hc)]
      have sorted := (sound_enabled hu v).regs
      refine ⟨flag_setFld sorted (by decide) (by decide) 1 0 0, ?_, hs.only ((enabled_only hu v [.ctl]
        [Reg.off .SKY_CTRL, Reg.off .SKY_STATE] (by decide)).setFld .SKY_STATE_CFG_ERR 1 0 0 (by decide)).only (by decide)⟩
      exact (fld_setFld_ne sorted (f := .SKY_STATE_CFG_ERR) (g := .SKY_STATE_STATE) (by decide) (by decide) rfl (by decide) 1 0 0).trans
        ((enabled_state hu v).trans state)
  case off =>
    intro s a v h hl hv h0
    have hs := (Sends.refl h).send 0 0 1 0
    have state : skyState (idlSend 0 0 1 0 s) ≠ 0 := fun k => h0 ((fld_congr hs.regs .SKY_STATE_STATE 0 0).symm.trans k)
    refine ⟨_, exec_skyCtrlWrite hl a v, ?_⟩
    rw [skyCtrl_leaves hs.sound hv state]
    obtain ⟨h1, h2, h3, h4, h5⟩ := enterOff_shows (sound_enabled hs.sound v)
    exact ⟨h1, h5.trans (congrArg (· != 0) ((enabled_fld hs.sound v).trans hv)), h2, h3, h4⟩
  case same =>
    intro s a v h hl hv
    have hs := (Sends.refl h).send 0 0 1 0
    have state : skyState (idlSend 0 0 1 0 s) = skyState s := fld_congr hs.regs .SKY_STATE_STATE 0 0
    refine ⟨_, exec_skyCtrlWrite hl a v, ?_⟩
    rw [skyCtrl_stays hs.sound (by rw [state]; exact hv)]
    exact ⟨enabled_fld hs.sound v, hs.only (enabled_only hs.sound v [.ctl] _ (List.mem_singleton.mpr rfl)).only (by decide)⟩
  case lasers =>
    intro s a v h hl
    exact ⟨skyTxEnWrite_passes h hl, skyTxEnWrite_beaten h hl, skyTxEnWrite_closed h hl⟩
end

section
/-!
SUPPORT. Leaf groups (R32 to R35): a restart that is refused, the registers that an accepted one leaves, and its end.
-/
namespace Sys2Proof.Machine

theorem groupCtrl_mem : Reg.LEAF_GROUP_CTRL ∈ Reg.all := by decide +kernel
theorem portStatus_mem : Reg.LEAF_PORT_STATUS ∈ Reg.all := by decide +kernel

/-- LEAF_GROUP_CTRL of a group is there where the group is. -/
theorem fusedOff_groupCtrl (s : State) (a : Agent) (v : Nat) (g : Fin 16) :
    fusedOff s (write32 a .LEAF_GROUP_CTRL v g.val).off = noGroup s g.val := by
  have h : fusedIdx .LEAF_GROUP_CTRL g.val 0 = decide (8 ≤ g.val) := by revert g; decide +kernel
  rw [write32_off, fusedOff_off groupCtrl_mem g.isLt (by decide), fusedReg, h, noGroup]

/-- A restart of a group of the part, with the link trained. -/
theorem exec_leafGroupRestart {s : State} (h : s.Sound) (hl : linked s) (a : Agent) {g : Fin 16}
    (hg : noGroup s g.val = false) :
    ∃ s', Sends s s' ∧ exec (.leafGroupRestart a g) s = .next (groupRestart g.val s') := by
  refine ⟨_, (Sends.refl h).send 0 0 1 0, ?_⟩
  unfold exec execLeafGroupRestart
  dsimp only
  rw [far_linked hl ((fusedOff_groupCtrl s a _ g).trans hg)]

/-- A restart of a group that an LZ-S1024 lacks is ignored (R4). -/
theorem exec_leafGroupRestart_noGroup {s : State} {g : Fin 16} (hg : noGroup s g.val = true) (a : Agent) :
    exec (.leafGroupRestart a g) s = .next s :=
  congrArg Host.Outcome.next (far_fused ((fusedOff_groupCtrl s a 1 g).trans hg) (groupRestart g.val))

/-! ### A refused restart (R33) -/

theorem groupRestart_refused {s : State} {g : Nat} (hr : s.fld .LEAF_GROUP_CFG_LANE_RATE g = 1)
    (hm : s.fld .LEAF_GROUP_CFG_MODE g = 3) : groupRestart g s = s.setFld .LEAF_GROUP_STATUS_CFG_ERR 1 g := by
  unfold groupRestart
  rw [hr, hm]
  rfl

theorem setCfgErr_shows {s : State} (h : s.Sound) (g : Nat) :
    (s.setFld .LEAF_GROUP_STATUS_CFG_ERR 1 g).flag .LEAF_GROUP_STATUS_CFG_ERR g = true
      ∧ (s.setFld .LEAF_GROUP_STATUS_CFG_ERR 1 g).fld .LEAF_GROUP_STATUS_MODE_ACTIVE g = s.fld .LEAF_GROUP_STATUS_MODE_ACTIVE g
      ∧ (s.setFld .LEAF_GROUP_STATUS_CFG_ERR 1 g).fld .LEAF_GROUP_STATUS_RATE_ACTIVE g
        = s.fld .LEAF_GROUP_STATUS_RATE_ACTIVE g :=
  ⟨flag_setFld h.regs (by decide) (by decide) 1 g 0,
    fld_setFld_ne (f := .LEAF_GROUP_STATUS_CFG_ERR) (g := .LEAF_GROUP_STATUS_MODE_ACTIVE) h.regs (by decide) (by decide) rfl (by decide) 1 g 0,
    fld_setFld_ne (f := .LEAF_GROUP_STATUS_CFG_ERR) (g := .LEAF_GROUP_STATUS_RATE_ACTIVE) h.regs (by decide) (by decide) rfl (by decide) 1 g 0⟩

/-! ### An accepted restart (R32, R35) -/

theorem mem_range'_iff {a n x : Nat} : x ∈ range' a n ↔ a ≤ x ∧ x < a + n := by
  induction n generalizing a with
  | zero => exact iff_of_false List.not_mem_nil (by omega)
  | succ n ih =>
    rw [range', List.mem_cons, ih]
    omega

/-- A port of a group that restarts goes down: reception and transmission are cut, its queues are flushed, and nothing of its
pauses, hold and wake stays. -/
def stopPort (p : Nat) (s : State) : State :=
  let s := if portUp s p then s.count .LEAF_LINK_DOWN_CNT p else s
  let s := clearPause p (flushPort p (abandonTx p (loseLink p (cutRx p none s))))
  setPort p { portOf s p with holdTill := none, wakeAt := none, trig := [], pauseOut := [], pausedAt := [] } s

/-- Every port of a group goes down, and its lanes lose their alignment. -/
def stopGroup (g : Nat) (s : State) : State :=
  let s := (range' (16 * g) 16).foldl (fun s p => stopPort p s) s
  { s with leaf := { s.leaf with lanes := SMap.keep s.leaf.lanes (fun n => n / 16 != g) } }

/-- A group shows its new mode and rate, and that it restarts. -/
def showMode (g mode rate : Nat) (s : State) : State :=
  ((s.setFld .LEAF_GROUP_STATUS_MODE_ACTIVE mode g).setFld .LEAF_GROUP_STATUS_RATE_ACTIVE rate g).setFld
    .LEAF_GROUP_STATUS_RESTARTING 1 g

/-- A port of a restarted group: ACTIVE where the mode uses its number, and a line that trains as a fresh link. -/
def freshPort (mode p : Nat) (s : State) : State :=
  startLine p (s.setReg .LEAF_PORT_STATUS
    (BitVec.ofNat 32 (64 * b2n (p % 16 % 2 ^ mode == 0) + 2 * s.fld .LEAF_PORT_STATUS_DOZE_REFUSED p)) p)

theorem groupRestart_accepted {s : State} {g : Nat}
    (h : ¬ (s.fld .LEAF_GROUP_CFG_LANE_RATE g = 1 ∧ s.fld .LEAF_GROUP_CFG_MODE g = 3)) :
    groupRestart g s = (range' (16 * g) 16).foldl (fun s' p => freshPort (s.fld .LEAF_GROUP_CFG_MODE g) p s')
      (showMode g (s.fld .LEAF_GROUP_CFG_MODE g) (s.fld .LEAF_GROUP_CFG_LANE_RATE g) (stopGroup g s)) :=
  if_neg (by rw [Bool.and_eq_true, decide_eq_true_eq, decide_eq_true_eq]; exact h)

theorem sound_stopPort (p : Nat) {s : State} (h : s.Sound) : (stopPort p s).Sound := by
  have counted : (if portUp s p then s.count .LEAF_LINK_DOWN_CNT p else s).Sound :=
    ite_holds (P := State.Sound) (sound_State_count _ _ _ _ _ h) h
  exact sound_setPort _ _ _ (sound_clearPause _ _ (sound_flushPort _ _ (sound_abandonTx _ _ (sound_loseLink _ _
    (sound_cutRx _ _ _ counted)))))

theorem sound_stopGroup (g : Nat) {s : State} (h : s.Sound) : (stopGroup g s).Sound := by
  have stopped := foldl_holds (P := State.Sound) (l := range' (16 * g) 16) (fun _ p hs => sound_stopPort p hs) h
  obtain ⟨h1, h2, h3, h4, h5, h6⟩ := stopped.leaf
  exact ⟨stopped.regs, stopped.shadow, stopped.cnts, stopped.tot, stopped.hold, stopped.pairs, stopped.ctl, stopped.host,
    stopped.hlt, stopped.nvm, stopped.cls, stopped.time, stopped.tbl, ⟨h1, SMap.sorted_keep h2 (fun n => n / 16 != g), h3, h4, h5, h6⟩, stopped.xbar,
    stopped.buf, stopped.tm, stopped.sky⟩

theorem sound_showMode (g mode rate : Nat) {s : State} (h : s.Sound) : (showMode g mode rate s).Sound :=
  sound_State_setFld _ _ _ _ _ (sound_State_setFld _ _ _ _ _ (sound_State_setFld _ _ _ _ _ h))

theorem sound_freshPort (mode p : Nat) {s : State} (h : s.Sound) : (freshPort mode p s).Sound :=
  sound_startLine _ _ (sound_State_setReg _ _ _ _ _ h)

/-- What a group shows of a mode of two bits and a rate of one. -/
theorem showMode_shows {s : State} (h : s.Sound) {g mode rate : Nat} (hm : mode < 4) (hr : rate < 2) :
    (showMode g mode rate s).flag .LEAF_GROUP_STATUS_RESTARTING g = true
      ∧ (showMode g mode rate s).fld .LEAF_GROUP_STATUS_MODE_ACTIVE g = mode
      ∧ (showMode g mode rate s).fld .LEAF_GROUP_STATUS_RATE_ACTIVE g = rate := by
  have h1 := sorted_setFld h.regs .LEAF_GROUP_STATUS_MODE_ACTIVE mode g 0
  have h2 := sorted_setFld h1 .LEAF_GROUP_STATUS_RATE_ACTIVE rate g 0
  refine ⟨flag_setFld h2 (by decide) (by decide) 1 g 0, ?_, ?_⟩
  · refine (fld_setFld_ne (f := .LEAF_GROUP_STATUS_RESTARTING) (g := .LEAF_GROUP_STATUS_MODE_ACTIVE) h2 (by decide) (by decide) rfl (by decide) 1 g 0).trans ?_
    refine (fld_setFld_ne (f := .LEAF_GROUP_STATUS_RATE_ACTIVE) (g := .LEAF_GROUP_STATUS_MODE_ACTIVE) h1 (by decide) (by decide) rfl (by decide) rate g 0).trans ?_
    exact (fld_setFld h.regs (f := .LEAF_GROUP_STATUS_MODE_ACTIVE) (by decide) (by decide) mode g 0).trans (Nat.mod_eq_of_lt hm)
  · refine (fld_setFld_ne (f := .LEAF_GROUP_STATUS_RESTARTING) (g := .LEAF_GROUP_STATUS_RATE_ACTIVE) h2 (by decide) (by decide) rfl (by decide) 1 g 0).trans ?_
    exact (fld_setFld h1 (f := .LEAF_GROUP_STATUS_RATE_ACTIVE) (by decide) (by decide) rate g 0).trans (Nat.mod_eq_of_lt hr)

/-! ### The ports of a restarted group -/

/-- The status of a port that trains after a restart: down, ACTIVE or not, and its DOZE_REFUSED. -/
def startsOver (active : Bool) (q : Nat) (s : State) : Prop :=
  ∃ r < 2, s.reg .LEAF_PORT_STATUS q = BitVec.ofNat 32 (64 * b2n active + 2 * r)

theorem startsOver_flags {active : Bool} {q : Nat} {s : State} (h : startsOver active q s) :
    s.flag .LEAF_PORT_STATUS_LINK_UP q = false ∧ s.flag .LEAF_PORT_STATUS_FROZEN q = false
      ∧ s.flag .LEAF_PORT_STATUS_DOZING q = false ∧ s.flag .LEAF_PORT_STATUS_ACTIVE q = active := by
  obtain ⟨r, hr, e⟩ := h
  have reads : ∀ a : Bool, ∀ r < 2, let w := BitVec.ofNat 32 (64 * b2n a + 2 * r)
      (Fld.LEAF_PORT_STATUS_LINK_UP.get w != 0) = false ∧ (Fld.LEAF_PORT_STATUS_FROZEN.get w != 0) = false
        ∧ (Fld.LEAF_PORT_STATUS_DOZING.get w != 0) = false ∧ (Fld.LEAF_PORT_STATUS_ACTIVE.get w != 0) = a := by decide
  have read (f : Fld) (hf : f.reg = .LEAF_PORT_STATUS) : s.flag f q = (f.get (BitVec.ofNat 32 (64 * b2n active + 2 * r)) != 0) := by
    unfold State.flag State.fld
    rw [hf, e]
  rw [read _ rfl, read _ rfl, read _ rfl, read _ rfl]
  exact reads active r hr

theorem freshPort_self {s : State} (h : s.Sound) (mode p : Nat) :
    startsOver (p % 16 % 2 ^ mode == 0) p (freshPort mode p s) :=
  ⟨s.fld .LEAF_PORT_STATUS_DOZE_REFUSED p, fld_lt s .LEAF_PORT_STATUS_DOZE_REFUSED p 0, reg_setReg h.regs .LEAF_PORT_STATUS _ p 0⟩

theorem freshPort_ne {s : State} (h : s.Sound) (mode : Nat) {p q : Nat} (hp : p < 256) (hq : q < 256) (hpq : q ≠ p) :
    (freshPort mode p s).reg .LEAF_PORT_STATUS q = s.reg .LEAF_PORT_STATUS q :=
  reg_setReg_ne h.regs (off_ne_index portStatus_mem (by decide) hq hp hpq) _

/-- After ports have started over one by one, each of them shows it. -/
theorem foldl_freshPort {mode : Nat} {l : List Nat} (hl : ∀ p ∈ l, p < 256) {q : Nat} (hq : q < 256) {s : State} (h : s.Sound)
    (hs : q ∈ l ∨ startsOver (q % 16 % 2 ^ mode == 0) q s) :
    startsOver (q % 16 % 2 ^ mode == 0) q (l.foldl (fun s p => freshPort mode p s) s) := by
  induction l generalizing s with
  | nil => exact hs.resolve_left List.not_mem_nil
  | cons p l ih =>
    refine ih (fun p hp => hl p (List.mem_cons_of_mem _ hp)) (sound_freshPort mode p h) ?_
    by_cases e : q = p
    · subst e
      exact .inr (freshPort_self h mode q)
    · refine hs.imp (fun hm => (List.mem_cons.mp hm).resolve_left e) (fun ⟨r, hr, k⟩ => ⟨r, hr, ?_⟩)
      exact (freshPort_ne h mode (hl p List.mem_cons_self) hq e).trans k

theorem kept_freshPort (mode p : Nat) {s0 s : State} (h : Kept ⟨262144, 0x10, 0⟩ s0 s) :
    Kept ⟨262144, 0x10, 0⟩ s0 (freshPort mode p s) :=
  kept_startLine (by decide) _ _ (kept_State_setReg _ _ _ _ _ h (hasR_of ixR_LEAF_PORT_STATUS (by decide) (le_same _)))

/-- What an accepted restart leaves: the group shows its new mode, and its ports start over. -/
theorem groupRestart_shows {s : State} (h : s.Sound) {g : Nat} (hg : g < 16)
    (hr : ¬ (s.fld .LEAF_GROUP_CFG_LANE_RATE g = 1 ∧ s.fld .LEAF_GROUP_CFG_MODE g = 3)) :
    (groupRestart g s).flag .LEAF_GROUP_STATUS_RESTARTING g = true
      ∧ (groupRestart g s).fld .LEAF_GROUP_STATUS_MODE_ACTIVE g = s.fld .LEAF_GROUP_CFG_MODE g
      ∧ (groupRestart g s).fld .LEAF_GROUP_STATUS_RATE_ACTIVE g = s.fld .LEAF_GROUP_CFG_LANE_RATE g
      ∧ ∀ i < 16, startsOver (i % 2 ^ s.fld .LEAF_GROUP_CFG_MODE g == 0) (16 * g + i) (groupRestart g s) := by
  rw [groupRestart_accepted hr]
  generalize hm : s.fld .LEAF_GROUP_CFG_MODE g = mode
  generalize hrate : s.fld .LEAF_GROUP_CFG_LANE_RATE g = rate
  have hm4 : mode < 4 := hm ▸ fld_lt s .LEAF_GROUP_CFG_MODE g 0
  have hr2 : rate < 2 := hrate ▸ fld_lt s .LEAF_GROUP_CFG_LANE_RATE g 0
  have hs := sound_showMode g mode rate (sound_stopGroup g h)
  obtain ⟨restarting, shown, rated⟩ := showMode_shows (g := g) (sound_stopGroup g h) hm4 hr2
  generalize showMode g mode rate (stopGroup g s) = u at *
  have ht := foldl_holds (P := State.Sound) (l := range' (16 * g) 16) (fun _ p hs => sound_freshPort mode p hs) hs
  have hk := foldl_holds (P := Kept ⟨262144, 0x10, 0⟩ u) (l := range' (16 * g) 16) (fun _ p hs => kept_freshPort mode p hs)
    (.refl _ _)
  refine ⟨(hk.flag (f := .LEAF_GROUP_STATUS_RESTARTING) hs ht (by decide +kernel) g 0).trans restarting,
    (hk.fld (f := .LEAF_GROUP_STATUS_MODE_ACTIVE) hs ht (by decide +kernel) g 0).trans shown,
    (hk.fld (f := .LEAF_GROUP_STATUS_RATE_ACTIVE) hs ht (by decide +kernel) g 0).trans rated, fun i hi => ?_⟩
  have e : i = (16 * g + i) % 16 := by omega
  conv in i % 2 ^ mode => rw [e]
  refine foldl_freshPort (fun p hp => ?_) (by omega) hs (.inl (mem_range'_iff.mpr (by omega)))
  have := mem_range'_iff.mp hp
  omega

/-! ### The start threshold of cut-through (R54) -/

/-- The decay of CT_START_CUR after a second without an underrun. -/
theorem exec_ctStartDecay {s : State} {p : Fin 256} (h : (portOf s p.val).ctAt + 1600000000 ≤ s.now) :
    exec (.ctStartDecay p) s = .next
      (if s.fld .LEAF_PORT_CFG_CT_START p.val < s.fld .LEAF_CT_STATUS_CT_START_CUR p.val then
        (setPort p.val { portOf s p.val with ctAt := s.now } s).setFld .LEAF_CT_STATUS_CT_START_CUR
          (s.fld .LEAF_CT_STATUS_CT_START_CUR p.val - 1) p.val
      else setPort p.val { portOf s p.val with ctAt := s.now } s) :=
  congrArg Host.Outcome.next (if_pos h)

end Sys2Proof.Machine
end

section
open Sys2Proof Sys2Proof.Machine

/-- Settles O9: the refused restart only sets CFG_ERR (`groupRestart_refused`). -/
theorem groupRestartRefused : Obligations.GroupRestartRefused := by
  unfold Obligations.GroupRestartRefused
  refine ⟨fun s a g h hl hg hr hm => ?_, fun s a g hg => exec_leafGroupRestart_noGroup hg a⟩
  obtain ⟨s', hs, e⟩ := exec_leafGroupRestart h hl a hg
  obtain ⟨err, mode, rate⟩ := setCfgErr_shows hs.sound g.val
  refine ⟨_, e, ?_⟩
  rw [groupRestart_refused ((fld_congr hs.regs _ _ _).trans hr) ((fld_congr hs.regs _ _ _).trans hm)]
  exact ⟨err, mode.trans (fld_congr hs.regs _ _ _), rate.trans (fld_congr hs.regs _ _ _),
    hs.only ((Sofar.start hs.sound _ _ _).setFld .LEAF_GROUP_STATUS_CFG_ERR 1 g.val 0 (List.mem_singleton.mpr rfl)).only
      (List.mem_singleton.mpr rfl)⟩

/-- Settles O10: `groupRestart_shows` after the transfers of the write; the end clears RESTARTING alone. -/
theorem groupRestart : Obligations.GroupRestart := by
  unfold Obligations.GroupRestart
  refine ⟨fun s a g h hl hg hr => ?accepted, fun s g h => ?done⟩
  case accepted =>
    obtain ⟨s', hs, e⟩ := exec_leafGroupRestart h hl a hg
    have cfg (f : Fld) : s'.fld f g.val = s.fld f g.val := fld_congr hs.regs _ _ _
    obtain ⟨restarting, mode, rate, ports⟩ := groupRestart_shows hs.sound g.isLt (by rw [cfg, cfg]; exact hr)
    refine ⟨_, e, restarting, mode.trans (cfg _), rate.trans (cfg _), fun i => ?_⟩
    have port := ports i.val i.isLt
    rw [cfg] at port
    exact startsOver_flags port
  case done =>
    refine ⟨_, rfl, flag_setFld h.regs (by decide) (by decide) 0 g.val 0,
      fld_setFld_ne (f := .LEAF_GROUP_STATUS_RESTARTING) (g := .LEAF_GROUP_STATUS_MODE_ACTIVE) h.regs (by decide) (by decide)
        rfl (by decide) 0 g.val 0, ?_⟩
    exact ((Sofar.start h _ _ _).setFld .LEAF_GROUP_STATUS_RESTARTING 0 g.val 0 (List.mem_singleton.mpr rfl)).only

/-- Settles O15: the two outcomes of `exec_ctStartDecay`. -/
theorem cutThroughStartDecays : Obligations.CutThroughStartDecays := by
  unfold Obligations.CutThroughStartDecays
  intro s p h hc
  refine ⟨_, exec_ctStartDecay hc, ?_⟩
  have restarted : (portOf (setPort p.val { portOf s p.val with ctAt := s.now } s) p.val).ctAt = s.now :=
    congrArg PortSt.ctAt (portOf_setPort h.leaf.ports p.val _)
  have frame := (Sofar.start h [.leaf] [Reg.off .LEAF_CT_STATUS p.val] []).setPort p.val
    { portOf s p.val with ctAt := s.now } (List.mem_singleton.mpr rfl)
  by_cases hd : s.fld .LEAF_PORT_CFG_CT_START p.val < s.fld .LEAF_CT_STATUS_CT_START_CUR p.val
  · rw [if_pos hd, if_pos hd]
    have fits : s.fld .LEAF_CT_STATUS_CT_START_CUR p.val - 1 < 32 :=
      Nat.lt_of_le_of_lt (Nat.sub_le _ _) (fld_lt s .LEAF_CT_STATUS_CT_START_CUR p.val 0)
    exact ⟨(fld_setFld (f := .LEAF_CT_STATUS_CT_START_CUR) h.regs (by decide) (by decide) _ p.val 0).trans (Nat.mod_eq_of_lt fits),
      restarted, (frame.setFld .LEAF_CT_STATUS_CT_START_CUR _ p.val 0 (List.mem_singleton.mpr rfl)).only⟩
  · rw [if_neg hd, if_neg hd]
    exact ⟨rfl, restarted, frame.only⟩
end

section
/-!
SUPPORT. What the traffic of the leaf ports leaves of them: tiles, queues, pauses, shapers, the line and the ingress pipeline
change no lane, and of a port neither its link, its hold, nor the frames that it receives and sends.
-/
namespace Sys2Proof.Machine

/-- What traffic leaves of a port: since when its lanes are ready, its flap hold, and the frames in transmission and reception. -/
def PortSt.core (x : PortSt) : Option Nat × Option Nat × Option TxSt × Option (RxFrame × Bool) :=
  (x.ready, x.holdTill, x.tx, x.rx)

theorem PortSt.core_eq {x y : PortSt} (h : x.core = y.core) :
    x.ready = y.ready ∧ x.holdTill = y.holdTill ∧ x.tx = y.tx ∧ x.rx = y.rx := by
  simpa [PortSt.core] using h

/-- From s0 to s no lane and no port's core has changed. -/
structure Steady (s0 s : State) : Prop where
  sorted : s.leaf.ports.sorted = true
  lanes : s.leaf.lanes = s0.leaf.lanes
  core : ∀ p, (portOf s p).core = (portOf s0 p).core

theorem Steady.refl {s : State} (h : s.Sound) : Steady s s := ⟨h.leaf.ports, rfl, fun _ => rfl⟩

section
variable {s0 s : State} (h : Steady s0 s)
include h

/-- Ports and lanes as they were. -/
theorem Steady.same {t : State} (hp : t.leaf.ports = s.leaf.ports) (hl : t.leaf.lanes = s.leaf.lanes) : Steady s0 t :=
  ⟨hp ▸ h.sorted, hl.trans h.lanes, fun p => by rw [portOf, hp]; exact h.core p⟩

theorem Steady.leaf {t : State} (e : t.leaf = s.leaf) : Steady s0 t := h.same (by rw [e]) (by rw [e])

/-- An operation whose touches leave out the leaf ports. -/
theorem Steady.kept {T : Touch} {t : State} (k : Kept T s t) (hT : T.a.testBit 18 = false) : Steady s0 t := h.leaf (k.leaf hT)

theorem Steady.setPort (p : Nat) {x : PortSt} (hx : x.core = (portOf s p).core) : Steady s0 (setPort p x s) := by
  refine ⟨SMap.sorted_put h.sorted _ _ _, h.lanes, fun q => ?_⟩
  by_cases e : q = p
  · rw [e, portOf_setPort h.sorted, hx, h.core]
  · rw [portOf_setPort_ne h.sorted e, h.core]

theorem Steady.count (c : Cnt) (i j n : Nat) : Steady s0 (s.count c i j n) := h.leaf rfl
theorem Steady.led (term inst n : Nat) : Steady s0 (s.led term inst n) := h.leaf rfl
theorem Steady.setReg (r : Reg) (w : Word) (i j : Nat) : Steady s0 (s.setReg r w i j) := h.leaf rfl
theorem Steady.setFld (f : Fld) (v i j : Nat) : Steady s0 (s.setFld f v i j) := h.leaf rfl

/-! ### Charges, cells and frames that end -/

theorem Steady.pauseSync (p c : Nat) : Steady s0 (pauseSync p c s) := ite_holds (P := Steady s0) h (h.setPort p rfl)

theorem Steady.chargeCells (k n : Nat) : Steady s0 (chargeCells k n s) :=
  (h.leaf (t := { s with tm := { s.tm with charge := SMap.upd s.tm.charge k 0 (· + n) } }) rfl).pauseSync _ _

theorem Steady.dischargeCells (k n : Nat) : Steady s0 (dischargeCells k n s) :=
  (h.leaf (t := { s with tm := { s.tm with charge := SMap.upd s.tm.charge k 0 (· - n) } }) rfl).pauseSync _ _

theorem Steady.cellGone (c : Cell) : Steady s0 (cellGone c s) := by
  unfold Machine.cellGone
  have gone : Steady s0 (match c.tag.org with
      | some k => Machine.dischargeCells k 1 s
      | none => s) := by
    split
    · exact h.dischargeCells _ 1
    · exact h
  exact ite_holds (P := Steady s0) (gone.kept (kept_relayOut (le_same _) _ _ _ (.refl _ _)) (by decide)) gone

theorem Steady.freeTile (pool t : Nat) : Steady s0 (freeTile pool t s) :=
  h.kept (kept_freeTile (le_same _) pool t s (.refl _ _)) (by decide)

theorem Steady.releaseUnit (u : QUnit) : Steady s0 (releaseUnit u s) := by
  unfold Machine.releaseUnit
  have released : Steady s0 (match u.hbm with
      | some (p, t) => u.cells.foldl (fun s e => Machine.cellGone e.2 s) (Machine.freeTile p t s)
      | none => u.cells.foldl (fun s e => dropCell e.1 e.2 s) s) := by
    split
    · exact foldl_holds (P := Steady s0) (fun _ e hs => hs.cellGone e.2) (h.freeTile _ _)
    · exact foldl_holds (P := Steady s0) (fun _ e hs => (hs.freeTile 4 e.1).cellGone e.2) h
  exact released.kept (kept_unreserve (le_same _) u.rsv _ (.refl _ _)) (by decide)

theorem Steady.dropFrame (xp : Nat) (u : QUnit) : Steady s0 (dropFrame xp u s) :=
  (((h.releaseUnit u).kept (kept_txDropped (le_same _) u.tag _ (.refl _ _)) (by decide)).led _ _ _)

/-! ### Queues and pauses -/

theorem Steady.stallSync (p : Nat) : Steady s0 (stallSync p s) := ite_holds (P := Steady s0) h (h.setPort p rfl)

theorem Steady.emptyDeficit (k : Nat) : Steady s0 (emptyDeficit k s) := ite_holds (P := Steady s0) h (h.setPort _ rfl)

theorem Steady.setQueue (k : Nat) (q : Queue) : Steady s0 (setQueue k q s) := by
  unfold Machine.setQueue
  have noted := h.kept (kept_noteDepth (le_same _) k s (.refl _ _)) (by decide)
  have stored := (noted.leaf (t := { noteDepth k s with
    tm := { (noteDepth k s).tm with queues := SMap.put (noteDepth k s).tm.queues k {} q } }) rfl).kept
      (kept_boundSync (le_same _) k _ (.refl _ _)) (by decide)
  exact ite_holds (P := Steady s0) (((stored.setReg _ _ _ _).emptyDeficit k).stallSync _) stored

theorem Steady.flushPort (p : Nat) : Steady s0 (flushPort p s) :=
  foldl_holds (P := Steady s0) (fun _ _ hs => foldl_holds (P := Steady s0)
    (fun _ u ht => (ht.count _ _ _ _).dropFrame _ u) (hs.setQueue _ _)) h

theorem Steady.showPause (p : Nat) : Steady s0 (showPause p s) := (h.setReg _ _ _ _).stallSync p

theorem Steady.pauseClass (p c till : Nat) : Steady s0 (pauseClass p c till s) := by
  unfold Machine.pauseClass
  dsimp only
  refine (h.setPort p ?_).showPause p
  rfl

theorem Steady.applyPend (p : Nat) : Steady s0 (applyPend p s) := by
  unfold Machine.applyPend
  dsimp only
  exact foldl_holds (P := Steady s0) (fun _ q hs => hs.pauseClass p q.cls q.till) (h.setPort p rfl)

theorem Steady.endPause (p : Nat) : Steady s0 (endPause p s) := by
  unfold Machine.endPause
  dsimp only
  refine (h.setPort p ?_).showPause p
  rfl

theorem Steady.clearPause (p : Nat) : Steady s0 (clearPause p s) := by
  unfold Machine.clearPause
  dsimp only
  refine (h.setPort p ?_).endPause p
  rfl

/-! ### Transmission -/

theorem Steady.lineSend (p start : Nat) (d : List Byte) : Steady s0 (lineSend p start d s) := by
  unfold Machine.lineSend
  extract_lets x b
  split
  · exact ite_holds (P := Steady s0) (foldl_holds (P := Steady s0) (fun _ _ hs => hs.leaf rfl) (h.setPort p rfl))
      (h.setPort p rfl)

theorem Steady.sendOut (p start : Nat) (d : List Byte) (whole : Bool) : Steady s0 (sendOut p start d whole s) :=
  (h.leaf (t := s.emit (.frame p d whole)) rfl).lineSend p start d

theorem Steady.setShaper (i : Nat) (x : ShSt) : Steady s0 (setShaper i x s) :=
  h.kept (kept_setShaper (le_same _) i x s (.refl _ _)) (by decide)

theorem Steady.chargeFrame (p c n : Nat) (b : Bool) : Steady s0 (chargeFrame p c n b s) := by
  unfold Machine.chargeFrame
  dsimp only
  refine ((ite_holds (P := Steady s0) (h.setPort p ?_) h).setShaper _ _).setShaper _ _
  rfl

/-! ### The ingress pipeline (R61) -/

theorem Steady.inDrop (f : InFrame) : Steady s0 (inDrop f s) := h.kept (kept_inDrop (le_same _) f s (.refl _ _)) (by decide)

theorem Steady.lookIn (q : Nat) : Steady s0 (lookIn q s).2 := h.same rfl rfl

theorem Steady.selectCopy (ses pipe : Nat) : Steady s0 (selectCopy ses pipe s).2 := by
  unfold Machine.selectCopy
  dsimp only
  split
  · split
    · exact h.same rfl rfl
    · exact h.same rfl rfl
  · exact h

theorem Steady.ingressCopy (rule port : Option Nat) (i : CopyInfo) (d : List Byte) : Steady s0 (ingressCopy rule port i d s) := by
  unfold Machine.ingressCopy
  split
  · exact h
  · rename_i ses _
    have selected := h.selectCopy ses i.pipe
    split
    · rename_i heq; rw [heq] at selected; exact selected
    · rename_i heq; rw [heq] at selected
      exact selected.kept (kept_deliverCopy (le_same _) _ _ _ _ _ _ (.refl _ _)) (by decide)

theorem Steady.launch (f : InFrame) (b : Cell) (d : List Byte) (bound n0 : Nat) (fails : Bool) :
    Steady s0 (launch f b d bound n0 fails s) := by
  have recharge (k n : Nat) {t : State} (ht : Steady s0 t) : Steady s0 (if f.tx.isSome then t
      else if n0 < n then Machine.chargeCells k (n - n0) t else if n < n0 then Machine.dischargeCells k (n0 - n) t else t) :=
    ite_holds (P := Steady s0) ht (ite_holds (P := Steady s0) (ht.chargeCells _ _) (ite_holds (P := Steady s0)
      (ht.dischargeCells _ _) ht))
  unfold Machine.launch
  refine ite_holds (P := Steady s0) ?cut (ite_holds (P := Steady s0) ((recharge _ _ h).inDrop f) ?whole)
  case cut =>
    have fed {t : State} (ht : Steady s0 t) (l : List XCell) : Steady s0 (feedPut (f.port / 16) l t) :=
      ht.kept (kept_feedPut (le_same _) _ l t (.refl _ _)) (by decide)
    exact ite_holds (P := Steady s0) (((fed (recharge _ _ h) _).count _ _ _ _).led _ _ _) (fed (recharge _ _ h) _)
  case whole =>
    have sent := h.kept (of_snd (kept_sendFrame (le_same _) (f.port / 16) b d s (.refl _ _))) (by decide)
    split
    · rename_i heq; rw [heq] at sent; exact recharge _ _ sent
    · rename_i heq; rw [heq] at sent; exact (recharge _ _ (sent.count _ _ _ _)).inDrop f

theorem Steady.police (i n q : Nat) : Steady s0 (police i n q s).2 :=
  h.kept (of_snd (kept_police (le_same _) i n q s (.refl _ _))) (by decide)

theorem Steady.ingressEdit (q : Nat) (f : InFrame) (w : Walk) (ip : Option Hdr) (fw : Fwd) (rule : Option Nat) (hash : Nat) :
    Steady s0 (ingressEdit q f w ip fw rule hash s).2 :=
  h.kept (of_snd (kept_ingressEdit (le_same _) q f w ip fw rule hash s (.refl _ _))) (by decide)

theorem Steady.hostFrame (f : InFrame) (ring : Nat) (d : List Byte) (i : RxInfo) : Steady s0 (hostFrame f ring d i s) :=
  h.kept (kept_hostFrame (le_same _) f ring d i s (.refl _ _)) (by decide)

theorem Steady.onward (f : InFrame) (w : Walk) (ip : Option Hdr) (fw : Fwd) (a : Action) (cls hash : Nat) (rule : Option Nat) :
    Steady s0 (onward f w ip fw a cls hash rule s) := by
  have uncharge (n k : Nat) {t : State} (ht : Steady s0 t) : Steady s0 (if n = 0 then t else Machine.dischargeCells k n t) :=
    ite_holds (P := Steady s0) ht (ht.dischargeCells _ _)
  have dropped (n k : Nat) {t : State} (ht : Steady s0 t) :
      Steady s0 (Machine.inDrop f (if n = 0 then t else Machine.dischargeCells k n t)) := (uncharge n k ht).inDrop f
  unfold Machine.onward
  extract_lets q n0 org
  dsimp only
  have policed : Steady s0 (if f.failed then (true, if n0 = 0 then s else Machine.chargeCells org n0 s)
      else match a.policer with
        | some i => Machine.police i f.data.length q (if n0 = 0 then s else Machine.chargeCells org n0 s)
        | none => (true, if n0 = 0 then s else Machine.chargeCells org n0 s)).2 := by
    have charged := ite_holds (P := Steady s0) (c := n0 = 0) h (h.chargeCells org n0)
    split
    · exact charged
    · split
      · exact charged.police _ _ _
      · exact charged
  have edited (t : State) (ht : Steady s0 t) (k : List Byte → State → State) (hk : ∀ d u, Steady s0 u → Steady s0 (k d u)) :
      Steady s0 (match Machine.ingressEdit q f w ip fw a.edit hash t with
        | (none, s) => Machine.inDrop f (if n0 = 0 then s else Machine.dischargeCells org n0 s)
        | (some d, s) => k d s) := by
    have after := ht.ingressEdit q f w ip fw a.edit hash
    split
    · rename_i heq; rw [heq] at after; exact dropped _ _ after
    · rename_i heq; rw [heq] at after; exact hk _ _ after
  have counted (b : Bool) (c : Cnt) (i : Nat) (u : State) (hu : Steady s0 u) : Steady s0 (u.countIf b c i) :=
    ite_holds (P := Steady s0) (hu.count _ _ _ _) hu
  split
  · exact dropped n0 org policed
  · exact ite_holds (P := Steady s0) (dropped _ _ policed) (edited _ policed _ fun d u hu =>
      ite_holds (P := Steady s0) (dropped _ _ (hu.count _ _ _ _)) (uncharge _ _ (hu.hostFrame _ _ _ _)))
  · exact ite_holds (P := Steady s0) (dropped _ _ policed) (edited _ policed _ fun d u hu =>
      (counted _ _ _ _ hu).launch _ _ _ _ _ _)
  · exact ite_holds (P := Steady s0) (dropped _ _ policed) (edited _ policed _ fun d u hu =>
      (counted _ _ _ _ hu).launch _ _ _ _ _ _)

theorem Steady.learnLeaf (f : InFrame) (w : Walk) : Steady s0 (learnLeaf f w s) :=
  h.kept (kept_learnLeaf (le_same _) f w s (.refl _ _)) (by decide)

theorem Steady.tableLookup (p : Nat) (d : List Byte) (w : Walk) (hash : Nat) : Steady s0 (tableLookup p d w hash s).2 :=
  h.kept (of_snd (kept_tableLookup (le_same _) p d w hash s (.refl _ _))) (by decide)

theorem Steady.decide' (q : Nat) (rule : Option (Nat × Action)) (tbl : Fwd) (hash : Nat) :
    Steady s0 (decide' q rule tbl hash s).2.2 :=
  h.kept (of_snd (of_snd (kept_decide' (le_same _) q rule tbl hash s (.refl _ _)))) (by decide)

theorem Steady.ruleParity (q : Nat) (b : Bool) : Steady s0 (ruleParity q b s) :=
  h.kept (kept_ruleParity (le_same _) q b s (.refl _ _)) (by decide)

theorem Steady.flowCount (a : Action) (n : Nat) : Steady s0 (flowCount a n s) :=
  h.kept (kept_flowCount (le_same _) a n s (.refl _ _)) (by decide)

theorem Steady.parseStep (f : InFrame) (cls : Option Nat) : Steady s0 (parseStep f cls s).2 :=
  h.kept (of_snd (kept_parseStep (le_same _) f cls s (.refl _ _))) (by decide)

theorem Steady.classify (f : InFrame) (w : Walk) : Steady s0 (classify f w s) := by
  unfold Machine.classify
  extract_lets +onlyGivenNames -merge q
  split
  rename_i look t looked
  have h1 : Steady s0 t := holds_eq (congrArg Prod.snd looked) (h.lookIn q)
  extract_lets +onlyGivenNames -merge f d cls0 hash key rule t
  have h2 : Steady s0 t := h1.ruleParity q false
  split
  rename_i tbl u found
  have h3 : Steady s0 u := holds_eq (congrArg Prod.snd found) (h2.tableLookup f.port d w hash)
  extract_lets +onlyGivenNames -merge u a cls
  have h4 : Steady s0 u := h3.learnLeaf f w
  split
  rename_i fw trap v decided
  have h5 : Steady s0 v := holds_eq (congrArg (fun e => e.2.2) decided) (h4.decide' q rule tbl hash)
  have h6 : Steady s0 (match fw.dest with
      | .drop c => Machine.inDrop f (if f.failed then v else v.count c.cnt q)
      | _ => Machine.onward f w (isRouted v f.port d w) fw a cls hash trap v) := by
    split
    · exact (ite_holds (P := Steady s0) h5 (h5.count _ _ _ _)).inDrop f
    · exact h5.onward f w _ fw a cls hash trap
  exact ite_holds (P := Steady s0) h6 (Steady.ingressCopy (h6.flowCount _ _) _ _ _ _)

theorem Steady.ingressFrame (f : InFrame) : Steady s0 (ingressFrame f s) := by
  have parsed := h.parseStep f none
  unfold Machine.ingressFrame
  split
  · rename_i t e; exact holds_eq (congrArg Prod.snd e) parsed
  · rename_i w t e; exact (holds_eq (P := Steady s0) (congrArg Prod.snd e) parsed).classify f w

theorem Steady.badFrame (p : Nat) (c : RxBad) (f : RxFrame) : Steady s0 (badFrame p c f s) :=
  ite_holds (P := Steady s0) ((h.count _ _ _ _).inDrop _) ((h.count _ _ _ _).ingressFrame _)

end

end Sys2Proof.Machine
end

section
/-!
SUPPORT. How a leaf port goes down (R43, R58, R59): the frame that it receives is cut, its transmission is abandoned, its pauses end,
and its queues are flushed or frozen.
-/
namespace Sys2Proof

/-- What one step of a fold reaches and every step keeps holds after the fold. -/
theorem foldl_reaches {α β : Type} {P Q : β → Prop} {f : β → α → β} {x : α} (inv : ∀ b a, Q b → Q (f b a))
    (reach : ∀ b, Q b → P (f b x)) (stay : ∀ b a, Q b → P b → P (f b a)) {l : List α} (hx : x ∈ l) {b : β} (hb : Q b) :
    P (l.foldl f b) := by
  induction l generalizing b with
  | nil => cases hx
  | cons a l ih =>
    rcases List.mem_cons.mp hx with rfl | hx
    · exact (Machine.foldl_holds (P := fun b => Q b ∧ P b) (fun b a h => ⟨inv b a h.1, stay b a h.1 h.2⟩)
        ⟨inv b x hb, reach b hb⟩).2
    · exact ih hx (inv b a hb)

namespace Machine

/-! ### Queues -/

theorem queueOf_congr {s t : State} (h : t.tm.queues = s.tm.queues) (k : Nat) : queueOf t k = queueOf s k := by
  unfold queueOf; rw [h]

@[simp] theorem pauseSync_tm (p c : Nat) (s : State) : (pauseSync p c s).tm = s.tm :=
  ite_holds (P := fun t : State => t.tm = s.tm) rfl rfl

theorem cellGone_queues (c : Cell) (s : State) : (cellGone c s).tm.queues = s.tm.queues := by
  have gone : (match c.tag.org with
      | some k => dischargeCells k 1 s
      | none => s).tm.queues = s.tm.queues := by
    split
    · rw [dischargeCells, pauseSync_tm]
    · rfl
  unfold cellGone
  exact ite_holds (P := fun t : State => t.tm.queues = s.tm.queues) gone gone

theorem freeTile_tm (pool t : Nat) (s : State) : (freeTile pool t s).tm = s.tm :=
  (kept_freeTile (le_same _) pool t s (.refl _ _)).tm (by decide)

theorem releaseUnit_queues (u : QUnit) (s : State) : (releaseUnit u s).tm.queues = s.tm.queues := by
  have released : (match u.hbm with
      | some (p, t) => u.cells.foldl (fun s (e : Nat × Cell) => cellGone e.2 s) (freeTile p t s)
      | none => u.cells.foldl (fun s (e : Nat × Cell) => dropCell e.1 e.2 s) s).tm.queues = s.tm.queues := by
    split
    · exact foldl_holds (P := fun t : State => t.tm.queues = s.tm.queues) (fun t (e : Nat × Cell) h => (cellGone_queues e.2 t).trans h)
        (by rw [freeTile_tm])
    · exact foldl_holds (P := fun t : State => t.tm.queues = s.tm.queues)
        (fun t (e : Nat × Cell) h => (cellGone_queues e.2 (freeTile 4 e.1 t)).trans (by rw [freeTile_tm]; exact h)) rfl
  unfold releaseUnit
  rw [(kept_unreserve (le_same _) u.rsv _ (.refl _ _)).tm (by decide)]
  exact released

theorem dropFrame_queues (xp : Nat) (u : QUnit) (s : State) : (dropFrame xp u s).tm.queues = s.tm.queues := by
  have dropped := (kept_txDropped (le_same _) u.tag (releaseUnit u s) (.refl _ _)).tm (by decide)
  exact (congrArg TmSt.queues dropped).trans (releaseUnit_queues u s)

theorem noteDepth_queues (k : Nat) (s : State) : (noteDepth k s).tm.queues = s.tm.queues := by
  unfold noteDepth
  exact ite_holds (P := fun t : State => t.tm.queues = s.tm.queues) rfl rfl

/-- A map of queues in which one has been stored. -/
theorem queueOf_put {s t : State} (h : s.tm.queues.sorted = true) {k : Nat} {q : Queue}
    (e : t.tm.queues = SMap.put s.tm.queues k {} q) (j : Nat) : queueOf t j = if j = k then q else queueOf s j := by
  unfold queueOf
  rw [e]
  split
  · next hj => rw [hj]; exact SMap.getD_put_self h _ _ _
  · next hj => exact SMap.getD_put_ne h hj _ _ _

/-- The end of the condition of R164 leaves the units of every queue. -/
theorem boundSync_units {s : State} (h : s.tm.queues.sorted = true) (k j : Nat) :
    (queueOf (boundSync k s) j).units = (queueOf s j).units := by
  refine ite_holds (P := fun t => (queueOf t j).units = (queueOf s j).units) ?_ rfl
  rw [queueOf_put h (k := k) rfl j]
  split
  · next e => rw [e]
  · rfl

theorem setQueue_tail_tm (k p i j : Nat) (w : Word) (s : State) :
    (stallSync p (emptyDeficit k (s.setReg .TM_Q_DEPTH w i j))).tm = s.tm :=
  ((kept_stallSync (le_same _) p _ (.refl _ _)).tm (by decide)).trans
    ((kept_emptyDeficit (le_same _) k _ (.refl _ _)).tm (by decide))

/-- The units of every queue after one has been stored. -/
theorem setQueue_units {s : State} (h : s.Sound) (k : Nat) (q : Queue) (j : Nat) :
    (queueOf (setQueue k q s) j).units = if j = k then q.units else (queueOf s j).units := by
  have sorted : (noteDepth k s).tm.queues.sorted = true := by rw [noteDepth_queues]; exact h.tm.queues
  have stored : (queueOf (boundSync k { noteDepth k s with
      tm := { (noteDepth k s).tm with queues := SMap.put (noteDepth k s).tm.queues k {} q } }) j).units
      = if j = k then q.units else (queueOf s j).units := by
    refine (boundSync_units (SMap.sorted_put sorted k {} q) k j).trans ?_
    rw [queueOf_put sorted (k := k) rfl j, queueOf_congr (noteDepth_queues k s)]
    exact apply_ite Queue.units _ _ _
  unfold setQueue
  refine ite_holds (P := fun t => (queueOf t j).units = if j = k then q.units else (queueOf s j).units) ?_ stored
  rw [queueOf_congr (congrArg TmSt.queues (setQueue_tail_tm k _ _ _ _ _))]
  exact stored

/-- The frames of one class of a port are flushed (R59). -/
def flushClass (p c : Nat) (s : State) : State :=
  (queueOf s (leafQ p c)).units.foldl (fun s u => dropFrame (p / 16) u (s.count .FLAP_FLUSH_CNT p))
    (setQueue (leafQ p c) { queueOf s (leafQ p c) with units := [] } s)

theorem flushPort_eq (p : Nat) (s : State) : flushPort p s = (List.range 8).foldl (fun s c => flushClass p c s) s := rfl

theorem sound_flushClass (p c : Nat) {s : State} (h : s.Sound) : (flushClass p c s).Sound :=
  foldl_holds (P := State.Sound) (fun _ _ ht => sound_dropFrame _ _ _ (sound_State_count _ _ _ _ _ ht)) (sound_setQueue _ _ _ h)

theorem flushClass_units {s : State} (h : s.Sound) (p c j : Nat) :
    (queueOf (flushClass p c s) j).units = if j = leafQ p c then [] else (queueOf s j).units :=
  foldl_holds (P := fun t : State => (queueOf t j).units = if j = leafQ p c then [] else (queueOf s j).units)
    (fun t u ht => by rw [queueOf_congr (dropFrame_queues _ u _)]; exact ht) (setQueue_units h _ _ j)

/-- After a flush every queue of the port is empty. -/
theorem flushPort_empties {s : State} (h : s.Sound) (p : Nat) {c : Nat} (hc : c < 8) :
    (queueOf (flushPort p s) (leafQ p c)).units = [] := by
  rw [flushPort_eq]
  refine foldl_reaches (P := fun t => (queueOf t (leafQ p c)).units = []) (Q := State.Sound) (x := c)
    (fun t a ht => sound_flushClass p a ht) (fun t ht => ?_) (fun t a ht e => ?_) (List.mem_range.mpr hc) h
  · rw [flushClass_units ht, if_pos rfl]
  · rw [flushClass_units ht, e, ite_self]

/-! ### A frame in reception is cut (R43) -/

theorem clearRx_eq (p : Nat) (s : State) : clearRx p s = setPort p { portOf s p with rx := none } s := rfl

theorem Steady.rxTaken {s0 s : State} (h : Steady s0 s) (p : Nat) (began : Option (RxFrame × Bool)) {op : State → State}
    (hop : ∀ t, Steady s0 t → Steady s0 (op t)) : Steady s0 (rxTaken p began op s) := by
  unfold Machine.rxTaken
  split
  · exact h
  · exact hop _ (h.led _ _ _)
  · exact ite_holds (P := Steady s0) (h.kept (kept_overrun (le_same _) p s (.refl _ _)) (by decide)) (hop _ (h.led _ _ _))

/-- Cutting a reception leaves of every port and lane what clearing it leaves. -/
theorem cutRx_steady {s : State} (h : s.Sound) (p : Nat) (cur : Option RxFrame) : Steady (clearRx p s) (cutRx p cur s) := by
  have cleared := Steady.refl (sound_clearRx p s h)
  unfold cutRx
  dsimp only
  split
  · exact cleared
  · refine ite_holds (P := Steady (clearRx p s)) (cleared.rxTaken p _ fun t ht => ?_) cleared
    exact ht.badFrame p _ _

theorem cutRx_rx {s : State} (h : s.Sound) (p : Nat) (cur : Option RxFrame) : (portOf (cutRx p cur s) p).rx = none := by
  obtain ⟨-, -, -, hr⟩ := PortSt.core_eq ((cutRx_steady h p cur).core p)
  rw [hr, clearRx_eq, portOf_setPort h.leaf.ports]

theorem cutRx_lanes {s : State} (h : s.Sound) (p : Nat) (cur : Option RxFrame) : (cutRx p cur s).leaf.lanes = s.leaf.lanes :=
  (cutRx_steady h p cur).lanes

/-! ### The receive buffer -/

/-- The bytes that a port is receiving, refused frames not counted (R118). -/
def arriving (x : PortSt) : Nat :=
  match x.rx with
  | some (f, false) => f.data.length
  | _ => 0

/-- The sum over the entries of a map that a test selects. -/
def sumOver (f : Nat → Bool) (g : PortSt → Nat) (m : SMap PortSt) : Nat := ((m.filter (fun e => f e.1)).map (fun e => g e.2)).sum

theorem rxArriving_eq (s : State) (q : Nat) : rxArriving s q = sumOver (fun k => k / 16 == q) arriving s.leaf.ports := rfl

theorem sumOver_cons (f : Nat → Bool) (g : PortSt → Nat) (e : Nat × PortSt) (m : SMap PortSt) :
    sumOver f g (e :: m) = (if f e.1 then g e.2 else 0) + sumOver f g m := by
  unfold sumOver
  rw [List.filter_cons]
  split <;> simp

theorem sumOver_insert (f : Nat → Bool) {g : PortSt → Nat} {x : PortSt} (hx : g x = 0) (m : SMap PortSt) (k : Nat) :
    sumOver f g (SMap.insert m k x) ≤ sumOver f g m := by
  induction m with
  | nil => simp [SMap.insert, sumOver_cons, hx]
  | cons e m ih =>
    unfold SMap.insert
    split
    · simp only [sumOver_cons, hx, ite_self]; omega
    · split
      · simp only [sumOver_cons, hx, ite_self]; omega
      · simp only [sumOver_cons]; omega

theorem sumOver_erase (f : Nat → Bool) (g : PortSt → Nat) (m : SMap PortSt) (k : Nat) :
    sumOver f g (SMap.erase m k) ≤ sumOver f g m := by
  induction m with
  | nil => exact Nat.le_refl _
  | cons e m ih =>
    unfold SMap.erase
    split
    · simp only [sumOver_cons]; omega
    · split
      · exact Nat.le_refl _
      · simp only [sumOver_cons]; omega

/-- A port that receives nothing takes no room of the receive buffer. -/
theorem rxArriving_setPort (p : Nat) {x : PortSt} (hx : x.rx = none) (s : State) (q : Nat) :
    rxArriving (setPort p x s) q ≤ rxArriving s q := by
  have none_arrives : arriving x = 0 := by rw [arriving, hx]
  rw [rxArriving_eq, rxArriving_eq]
  show sumOver _ arriving (SMap.put s.leaf.ports p {} x) ≤ _
  unfold SMap.put
  split
  · exact sumOver_erase _ _ _ _
  · exact sumOver_insert _ none_arrives _ _

theorem rxFull_setPort (p : Nat) {x : PortSt} (hx : x.rx = none) {s : State} {q : Nat} (h : rxFull s q = false) :
    rxFull (setPort p x s) q = false := by
  have arrives := rxArriving_setPort p hx s (q / 16)
  have feeds : feedOf (setPort p x s) (q / 16) = feedOf s (q / 16) := rfl
  have room : (setPort p x s).fld .LEAF_PORT_CFG_MAX_FRAME q = s.fld .LEAF_PORT_CFG_MAX_FRAME q := rfl
  unfold rxFull rxFree rxUsed at h ⊢
  rw [decide_eq_false_iff_not] at h ⊢
  rw [feeds, room]
  omega

end Machine
end Sys2Proof
end

section
/-!
SUPPORT. Link down, the flap hold and the alignment of lanes (R38, R39, R58, R59): what they leave of a port and what they count.
-/
namespace Sys2Proof.Machine

/-! ### The link of a port is lost -/

/-- The link of a port is lost: its transmission is abandoned and its pauses and hold-offs end (R58). -/
def cutOff (p : Nat) (s : State) : State := clearPause p (abandonTx p (loseLink p s))

theorem sound_cutOff (p : Nat) {s : State} (h : s.Sound) : (cutOff p s).Sound :=
  sound_clearPause _ _ (sound_abandonTx _ _ (sound_loseLink _ _ h))

/-- Two ways on from one state with the same core of a port. -/
theorem Steady.setPort_both {s0 s : State} (h : Steady s0 s) (h0 : s0.leaf.ports.sorted = true) (p : Nat) {x y : PortSt}
    (hx : y.core = x.core) : Steady (Machine.setPort p x s0) (Machine.setPort p y s) := by
  refine ⟨SMap.sorted_put h.sorted _ _ _, h.lanes, fun q => ?_⟩
  by_cases e : q = p
  · rw [e, portOf_setPort h.sorted, portOf_setPort h0, hx]
  · rw [portOf_setPort_ne h.sorted e, portOf_setPort_ne h0 e, h.core]

/-- A frame in transmission is abandoned: of ports and lanes only the frame is gone. -/
theorem abandonTx_steady {s : State} (h : s.Sound) (p : Nat) :
    Steady (setPort p { portOf s p with tx := none } s) (abandonTx p s) := by
  have untransmitted {u : State} (hu : Steady s u) :
      Steady (setPort p { portOf s p with tx := none } s) (setPort p { portOf u p with tx := none } u) := by
    obtain ⟨h1, h2, -, h4⟩ := PortSt.core_eq (hu.core p)
    exact hu.setPort_both h.leaf.ports p (by simp only [PortSt.core, h1, h2, h4])
  unfold abandonTx
  extract_lets x
  split
  · next hx =>
    refine ⟨h.leaf.ports, rfl, fun q => ?_⟩
    by_cases e : q = p
    · rw [e, portOf_setPort h.leaf.ports]
      simp only [PortSt.core, show (portOf s p).tx = none from hx]
      rfl
    · rw [portOf_setPort_ne h.leaf.ports e]
  · extract_lets k q u sent0 sent s1 x1 s2 s3 s4
    have h1 : Steady s s1 := ite_holds (P := Steady s) ((Steady.refl h).chargeFrame _ _ _ _) (.refl h)
    have h3 : Steady (setPort p { portOf s p with tx := none } s) s3 := ((untransmitted h1).count _ _ _ _).sendOut _ _ _ _
    have h4 : Steady (setPort p { portOf s p with tx := none } s) s4 := by
      subst s4
      clear_value s3
      split
      · exact (h3.count _ _ _ _).led _ _ _
      · exact h3
    clear_value s4 u
    cases u with
    | some u => exact (h4.setQueue _ _).dropFrame _ _
    | none => exact h4

/-- The port after its link was lost: no ready lanes, no frame in transmission; what it receives, and the lanes, are as before. -/
theorem cutOff_steady {s : State} (h : s.Sound) (p : Nat) :
    Steady (setPort p { portOf s p with ready := none, tx := none } s) (cutOff p s) := by
  have lost := sound_loseLink p s h
  refine Steady.clearPause ?_ p
  have left := abandonTx_steady lost p
  have start : Steady (setPort p { portOf s p with ready := none, tx := none } s)
      (setPort p { portOf (loseLink p s) p with tx := none } (loseLink p s)) := by
    have e : portOf (loseLink p s) p = { portOf s p with ready := none, uncorr := [] } := portOf_setPort h.leaf.ports p _
    refine ⟨SMap.sorted_put lost.leaf.ports _ _ _, rfl, fun q => ?_⟩
    by_cases hq : q = p
    · rw [hq, portOf_setPort lost.leaf.ports, portOf_setPort h.leaf.ports, e]
      rfl
    · rw [portOf_setPort_ne lost.leaf.ports hq, portOf_setPort_ne h.leaf.ports hq]
      exact congrArg PortSt.core (portOf_setPort_ne (s := s.setFld .LEAF_PORT_STATUS_LINK_UP 0 p) h.leaf.ports hq _)
  exact ⟨left.sorted, left.lanes.trans start.lanes, fun q => (left.core q).trans (start.core q)⟩

theorem cutOff_port {s : State} (h : s.Sound) (p : Nat) : (portOf (cutOff p s) p).ready = none ∧ (portOf (cutOff p s) p).tx = none
    ∧ (portOf (cutOff p s) p).rx = (portOf s p).rx ∧ portUp (cutOff p s) p = false := by
  obtain ⟨hr, -, ht, hx⟩ := PortSt.core_eq ((cutOff_steady h p).core p)
  rw [portOf_setPort h.leaf.ports] at hr ht hx
  have lost := sound_loseLink p s h
  have cut := sound_abandonTx p _ lost
  have k1 := kept_abandonTx (le_same _) p (loseLink p s) (.refl _ _)
  have k2 := kept_clearPause (le_same _) p (abandonTx p (loseLink p s)) (.refl _ _)
  refine ⟨hr, ht, hx, (k2.flag (f := .LEAF_PORT_STATUS_LINK_UP) cut (sound_cutOff p h) (by decide +kernel) p 0).trans ?_⟩
  exact (k1.flag (f := .LEAF_PORT_STATUS_LINK_UP) lost cut (by decide +kernel) p 0).trans (loseLink_port h p).2

/-! ### Link down (R58) -/

/-- What link down does beside its count. -/
def goDown (p : Nat) (s : State) : State :=
  if holdClocks (cutOff p s) p = 0 then flushPort p (cutOff p s)
  else
    let u := (cutOff p s).setFld .LEAF_PORT_STATUS_FROZEN 1 p
    setPort p { portOf u p with holdTill := some (u.now + holdClocks u p) } u

theorem linkDown_eq (p : Nat) (s : State) : linkDown p s = goDown p (s.count .LEAF_LINK_DOWN_CNT p) := by
  unfold linkDown goDown cutOff
  rfl

/-- FROZEN is no part of a port's hold time. -/
theorem holdClocks_setFrozen {s : State} (h : s.Sound) (p : Nat) :
    holdClocks (s.setFld .LEAF_PORT_STATUS_FROZEN 1 p) p = holdClocks s p :=
  congrArg (fun ms => min 10000 ms * clkMs)
    (fld_setFld_apart (f := .LEAF_PORT_STATUS_FROZEN) (g := .LEAF_FLAP_CFG_HOLD_MS) h.regs (by decide) 1 p 0 p 0)

/-- What a port that goes down may change, beside the count of it. -/
def downTouch : Touch := ⟨3414272, 0x800000000004000000003040000580000000000090, 0x4004000000000000000000000024000400000000400200⟩

theorem kept_cutOff (p : Nat) (s : State) : Kept downTouch s (cutOff p s) :=
  kept_clearPause (by decide +kernel) _ _ (kept_abandonTx (by decide +kernel) _ _ (kept_loseLink (by decide +kernel) _ _ (.refl _ _)))

theorem kept_goDown (p : Nat) (s : State) : Kept downTouch s (goDown p s) :=
  ite_holds (P := Kept downTouch s) (kept_flushPort (by decide +kernel) _ _ (kept_cutOff p s))
    (kept_setPort (by decide +kernel) _ _ _ (kept_State_setReg _ _ _ _ _ (kept_cutOff p s)
      (hasR_of ixR_LEAF_PORT_STATUS (by decide) (le_same _))))

theorem sound_goDown (p : Nat) {s : State} (h : s.Sound) : (goDown p s).Sound :=
  ite_holds (P := State.Sound) (sound_flushPort _ _ (sound_cutOff p h))
    (sound_setPort _ _ _ (sound_State_setFld _ _ _ _ _ (sound_cutOff p h)))

/-- The time for which a port is held is that of its HOLD_MS (R58, R60). -/
theorem holdClocks_cutOff {s : State} (h : s.Sound) (p : Nat) :
    holdClocks (cutOff p s) p = min 10000 (s.fld .LEAF_FLAP_CFG_HOLD_MS p) * 1600000 := by
  unfold holdClocks
  rw [(kept_cutOff p s).fld (f := .LEAF_FLAP_CFG_HOLD_MS) h (sound_cutOff p h) (by decide +kernel) p 0]
  rfl

theorem holdClocks_eq_zero {s : State} (h : s.Sound) (p : Nat) :
    holdClocks (cutOff p s) p = 0 ↔ s.fld .LEAF_FLAP_CFG_HOLD_MS p = 0 := by
  rw [holdClocks_cutOff h]
  omega

/-- A port that goes down with HOLD_MS 0. -/
theorem goDown_flushes {s : State} (h : s.Sound) {p : Nat} (h0 : s.fld .LEAF_FLAP_CFG_HOLD_MS p = 0) :
    goDown p s = flushPort p (cutOff p s) := if_pos ((holdClocks_eq_zero h p).mpr h0)

/-- A port that goes down with a flap hold. -/
theorem goDown_holds {s : State} (h : s.Sound) {p : Nat} (h0 : s.fld .LEAF_FLAP_CFG_HOLD_MS p ≠ 0) :
    goDown p s = setPort p { portOf (cutOff p s) p with
        holdTill := some (s.now + min 10000 (s.fld .LEAF_FLAP_CFG_HOLD_MS p) * 1600000) }
      ((cutOff p s).setFld .LEAF_PORT_STATUS_FROZEN 1 p) := by
  rw [← holdClocks_cutOff h, ← (kept_cutOff p s).now (by decide), ← holdClocks_setFrozen (sound_cutOff p h)]
  exact if_neg (mt (holdClocks_eq_zero h p).mp h0)

/-- What every link down leaves of the port. -/
theorem goDown_port {s : State} (h : s.Sound) (p : Nat) : portUp (goDown p s) p = false ∧ (portOf (goDown p s) p).ready = none
    ∧ (portOf (goDown p s) p).tx = none ∧ (portOf (goDown p s) p).rx = (portOf s p).rx
    ∧ (goDown p s).leaf.lanes = s.leaf.lanes := by
  obtain ⟨hr, ht, hx, hu⟩ := cutOff_port h p
  have cut := sound_cutOff p h
  by_cases h0 : s.fld .LEAF_FLAP_CFG_HOLD_MS p = 0
  · rw [goDown_flushes h h0]
    have flushed := (Steady.refl cut).flushPort p
    obtain ⟨er, -, et, ex⟩ := PortSt.core_eq (flushed.core p)
    have up := (kept_flushPort (le_same _) p (cutOff p s) (.refl _ _)).flag (f := .LEAF_PORT_STATUS_LINK_UP) cut
      (sound_flushPort _ _ cut) (by decide +kernel) p 0
    exact ⟨up.trans hu, er.trans hr, et.trans ht, ex.trans hx, flushed.lanes.trans (cutOff_steady h p).lanes⟩
  · rw [goDown_holds h h0, portOf_setPort (s := (cutOff p s).setFld .LEAF_PORT_STATUS_FROZEN 1 p) cut.leaf.ports]
    refine ⟨?_, hr, ht, hx, (cutOff_steady h p).lanes⟩
    exact (flag_setFld_beside (f := .LEAF_PORT_STATUS_FROZEN) (g := .LEAF_PORT_STATUS_LINK_UP) cut.regs (by decide) 1 p 0).trans hu

/-- The flap hold of a port that goes down (R58). -/
theorem goDown_frozen {s : State} (h : s.Sound) {p : Nat} (h0 : s.fld .LEAF_FLAP_CFG_HOLD_MS p ≠ 0) :
    (goDown p s).flag .LEAF_PORT_STATUS_FROZEN p = true
      ∧ (portOf (goDown p s) p).holdTill = some (s.now + min 10000 (s.fld .LEAF_FLAP_CFG_HOLD_MS p) * 1600000) := by
  rw [goDown_holds h h0]
  have cut := sound_cutOff p h
  exact ⟨flag_setFld (f := .LEAF_PORT_STATUS_FROZEN) cut.regs (by decide) (by decide) 1 p 0,
    congrArg PortSt.holdTill (portOf_setPort (s := (cutOff p s).setFld .LEAF_PORT_STATUS_FROZEN 1 p) cut.leaf.ports p _)⟩

/-! ### Counts of a cut frame and of a link down -/

/-- What the cut of a frame may change. -/
def cutTouch : Touch := ⟨7249152, 0x4680800e00000008000000000000000000000000000000, 0xc35503e74000020200000000018000000104407fffdc00001f0⟩

theorem kept_cut (p : Nat) (cur : Option RxFrame) (s : State) : Kept cutTouch s (cutRx p cur s) :=
  kept_cutRx (le_same _) p cur s (.refl _ _)

/-- Link down after a cut: the port is down, it is counted once, and nothing that is received or sent remains. -/
theorem linkDown_cutRx {s : State} (h : s.Sound) (p : Nat) (cur : Option RxFrame) :
    portUp (linkDown p (cutRx p cur s)) p = false
      ∧ (linkDown p (cutRx p cur s)).cnt .LEAF_LINK_DOWN_CNT p = s.cnt .LEAF_LINK_DOWN_CNT p + 1#64
      ∧ (portOf (linkDown p (cutRx p cur s)) p).ready = none ∧ (portOf (linkDown p (cutRx p cur s)) p).tx = none
      ∧ (portOf (linkDown p (cutRx p cur s)) p).rx = none
      ∧ (linkDown p (cutRx p cur s)).leaf.lanes = s.leaf.lanes := by
  have cut := sound_cutRx p cur s h
  have counted := sound_State_count _ .LEAF_LINK_DOWN_CNT p 0 1 cut
  obtain ⟨up, ready, tx, rx, lanes⟩ := goDown_port counted p
  rw [linkDown_eq]
  refine ⟨up, ?_, ready, tx, rx.trans (cutRx_rx h p cur), lanes.trans (cutRx_lanes h p cur)⟩
  refine ((kept_goDown p _).cnt counted (sound_goDown p counted) (by decide +kernel) p 0).trans ?_
  refine (cnt_count cut.cnts _ _ _ _).trans ?_
  rw [(kept_cut p cur s).cnt h cut (by decide +kernel)]

/-- The rest of link down counts nothing of the kind of a frame's checks. -/
theorem linkDown_rxBad {s : State} (h : s.Sound) (p : Nat) (c : RxBad) :
    (linkDown p s).cnt c.cnt p = s.cnt c.cnt p := by
  have counted := sound_State_count s .LEAF_LINK_DOWN_CNT p 0 1 h
  have apart : ∀ c : RxBad, freeC downTouch c.cnt = true ∧ cntApart c.cnt .LEAF_LINK_DOWN_CNT = true := by
    intro c; cases c <;> decide +kernel
  rw [linkDown_eq, (kept_goDown p _).cnt counted (sound_goDown p counted) (apart c).1]
  exact cnt_count_apart h.cnts (apart c).2 p 0 1 p 0

/-- What follows the count of a frame that fails a check. -/
def badTouch : Touch := ⟨7249152, 0x4680800e00000008000000000000000000000000000000, 0xc35503e74000020200000000018000000100407fffdc0000000⟩

/-- The counters of what follows a frame that fails a check. -/
theorem badFrame_counts {s : State} (h : s.Sound) (p : Nat) (c : RxBad) (f : RxFrame) :
    (badFrame p c f s).cnt c.cnt p = s.cnt c.cnt p + 1#64
      ∧ (badFrame p c f s).cnt .LEAF_RX_FRAME_CNT p = s.cnt .LEAF_RX_FRAME_CNT p := by
  have counted := sound_State_count s c.cnt p 0 1 h
  have free : ∀ c : RxBad, freeC badTouch c.cnt = true
      ∧ cntApart .LEAF_RX_FRAME_CNT c.cnt = true := by intro c; cases c <;> decide +kernel
  have hk (i : InFrame) : Kept badTouch
      (s.count c.cnt p) (if rxEntered f = 0 then inDrop i (s.count c.cnt p) else ingressFrame i (s.count c.cnt p)) :=
    ite_holds (P := Kept _ _) (kept_inDrop (by decide +kernel) _ _ (.refl _ _)) (kept_ingressFrame (le_same _) _ _ (.refl _ _))
  have bad := sound_badFrame p c f s h
  exact ⟨((hk _).cnt counted bad (free c).1 p 0).trans (cnt_count h.cnts _ _ _ _),
    ((hk _).cnt counted bad (by decide +kernel) p 0).trans (cnt_count_apart h.cnts (free c).2 p 0 1 p 0)⟩

/-- A frame that the cut finds, taken by the receive buffer, counts at the check that it fails first. -/
theorem cutRx_counts {s : State} (h : s.Sound) {p : Nat} (hu : portUp s p = true) (hr : (portOf s p).rx = none)
    (hf : rxFull s p = false) (g : RxFrame) :
    (cutRx p (some g) s).cnt (cutCheck s p g).cnt p = s.cnt (cutCheck s p g).cnt p + 1#64 := by
  have e : cutRx p (some g) s = badFrame p (cutCheck s p g) g ((clearRx p s).led tIn3 (p / 16)) := by
    have up : portUp (clearRx p s) p = true := hu
    have room : rxFull (clearRx p s) p = false := rxFull_setPort p rfl hf
    unfold cutRx
    rw [hr]
    simp only [Option.some_or, Option.map_none, up, if_true, rxTaken, room]
    rfl
  rw [e]
  exact (badFrame_counts (sound_State_led _ _ _ _ (sound_clearRx p s h)) p (cutCheck s p g) g).1

end Sys2Proof.Machine
end

section
/-!
SUPPORT. Lanes (R38, R39, R41): one that aligns, one that loses its alignment, and a port that comes link up.
-/
namespace Sys2Proof.Machine

/-! ### A lane aligns, or loses its alignment (R38, R41) -/

/-- A lane with its alignment. -/
def alignLane (n : Nat) (x : LaneSt) (s : State) : State :=
  { s with leaf := { s.leaf with lanes := SMap.insert s.leaf.lanes n x } }

/-- A lane without its alignment. -/
def looseLane (n : Nat) (s : State) : State := { s with leaf := { s.leaf with lanes := SMap.erase s.leaf.lanes n } }

/-- What a port shows after a change of its lanes. -/
def showReady (p : Nat) (r : Option Nat) (s : State) : State := setPort p { portOf s p with ready := r } s

theorem Sofar.alignLane {s0 s : State} {aa oo cc} (h : Sofar s0 s aa oo cc) (hl : Area.leaf ∈ aa) (n : Nat) (x : LaneSt) :
    Sofar s0 (alignLane n x s) aa oo cc := by
  refine h.areas rfl rfl rfl (fun a ha => ?_)
  cases a <;> trivial

theorem Sofar.looseLane {s0 s : State} {aa oo cc} (h : Sofar s0 s aa oo cc) (hl : Area.leaf ∈ aa) (n : Nat) :
    Sofar s0 (looseLane n s) aa oo cc := by
  refine h.areas rfl rfl rfl (fun a ha => ?_)
  cases a <;> trivial

theorem sound_looseLane (n : Nat) {s : State} (h : s.Sound) : (looseLane n s).Sound := by
  obtain ⟨h1, h2, h3, h4, h5, h6⟩ := h.leaf
  exact ⟨h.regs, h.shadow, h.cnts, h.tot, h.hold, h.pairs, h.ctl, h.host, h.hlt, h.nvm, h.cls, h.time, h.tbl,
    ⟨h1, SMap.sorted_erase h2 n, h3, h4, h5, h6⟩, h.xbar, h.buf, h.tm, h.sky⟩

theorem exec_laneAlign {s : State} {n : Fin 256} {m1 m2 : Marker} {apart : Nat} (ht : trains s (lanePort s n.val) = true)
    (hn : laneOf s n.val = none) (ha : fastLanes s (lanePort s n.val) = true → apart = 4096)
    (h1 : markerOk s (lanePort s n.val) m1 = true) (h2 : markerOk s (lanePort s n.val) m2 = true) :
    exec (.laneAlign n m1 m2 apart) s = .next (showReady (lanePort s n.val)
      (lanesReady (alignLane n.val ⟨s.now, m2.laneId.toNat⟩ s) (lanePort s n.val)) (alignLane n.val ⟨s.now, m2.laneId.toNat⟩ s)) := by
  refine congrArg Host.Outcome.next (if_pos ?_)
  have period : (!fastLanes s (lanePort s n.val) || decide (apart = 4096)) = true := by
    cases hf : fastLanes s (lanePort s n.val) with
    | false => rfl
    | true => exact decide_eq_true (ha hf)
  rw [ht, hn, h1, h2, period]
  rfl

/-- Blocks that are no two markers one period apart align nothing. -/
theorem exec_laneAlign_refused {s : State} {n : Fin 256} {m1 m2 : Marker} {apart : Nat}
    (h : ((!fastLanes s (lanePort s n.val) || decide (apart = 4096)) && markerOk s (lanePort s n.val) m1
      && markerOk s (lanePort s n.val) m2) = false) :
    exec (.laneAlign n m1 m2 apart) s = .next s := by
  refine congrArg Host.Outcome.next (if_neg fun hc => ?_)
  simp only [Bool.and_eq_true] at hc
  obtain ⟨⟨⟨-, period⟩, first⟩, second⟩ := hc
  rw [period, first, second] at h
  cases h

theorem markersLost_of {s : State} {p : Nat} {found : List Marker} (hl : 4 ≤ found.length)
    (h : ∀ m ∈ found, markerOk s p m = false) : markersLost s p found = true := by
  unfold markersLost
  rw [Bool.and_eq_true, decide_eq_true_eq, List.all_eq_true]
  exact ⟨hl, fun m hm => by rw [h m (List.mem_of_mem_drop hm)]; rfl⟩

theorem dropLane_eq (n : Nat) (s : State) : dropLane n s = if portUp s (lanePort s n)
    then linkDown (lanePort s n) (cutRx (lanePort s n) none (looseLane n s))
    else showReady (lanePort s n) none (looseLane n s) := rfl

theorem laneOf_looseLane {s : State} (h : s.Sound) (n : Nat) : laneOf (looseLane n s) n = none :=
  SMap.get?_erase_self h.leaf.lanes

/-- A port whose lane loses its alignment goes down, and is counted once; the lane has no alignment. -/
theorem dropLane_up {s : State} (h : s.Sound) {n : Nat} (hu : portUp s (lanePort s n) = true) :
    portUp (dropLane n s) (lanePort s n) = false
      ∧ (dropLane n s).cnt .LEAF_LINK_DOWN_CNT (lanePort s n) = s.cnt .LEAF_LINK_DOWN_CNT (lanePort s n) + 1#64
      ∧ laneOf (dropLane n s) n = none
      ∧ (dropLane n s).cnt .LEAF_AM_LOSS_CNT n = s.cnt .LEAF_AM_LOSS_CNT n := by
  rw [dropLane_eq, if_pos hu]
  have loose := sound_looseLane n h
  have cut := sound_cutRx (lanePort s n) none _ loose
  obtain ⟨down, counted, -, -, -, lanes⟩ := linkDown_cutRx loose (lanePort s n) none
  refine ⟨down, counted, (congrArg (SMap.get? · n) lanes).trans (laneOf_looseLane h n), ?_⟩
  refine ((kept_linkDown (le_same _) _ _ (.refl _ _)).cnt cut (sound_linkDown _ _ cut) (by decide +kernel) n 0).trans ?_
  exact (kept_cut (lanePort s n) none _).cnt loose cut (by decide +kernel) n 0

/-! ### Link up (R39) -/

theorem canLink_of {s : State} {p ns t0 : Nat} (ht : trains s p = true) (hd : portUp s p = false) (hr : (portOf s p).ready = some t0)
    (hn : ns ≤ 180) (hw : t0 + (if s.flag .LEAF_GROUP_STATUS_RATE_ACTIVE (p / 16) then 100 * clkUs else 0) ≤ s.now) :
    canLink s p ns = true := by
  unfold canLink
  rw [hr]
  simp only [ht, hd, Bool.not_false, Bool.and_true, Bool.and_eq_true, decide_eq_true_eq, true_and]
  exact ⟨hn, hw⟩

/-- The status of a port that comes link up: up and ACTIVE, with its DOZE_REFUSED. -/
theorem linkUp_flags {s : State} (h : s.Sound) (p : Nat) : portUp (linkUp p s) p = true
    ∧ (linkUp p s).flag .LEAF_PORT_STATUS_ACTIVE p = true ∧ (linkUp p s).flag .LEAF_PORT_STATUS_FROZEN p = false
    ∧ (linkUp p s).flag .LEAF_PORT_STATUS_WAKING p = false ∧ (linkUp p s).flag .LEAF_PORT_STATUS_DOZING p = false
    ∧ (linkUp p s).fld .LEAF_PORT_STATUS_DOZE_REFUSED p = s.fld .LEAF_PORT_STATUS_DOZE_REFUSED p := by
  have reads : ∀ r < 2, let w := BitVec.ofNat 32 (64 + 32 + 2 * r)
      (Fld.LEAF_PORT_STATUS_LINK_UP.get w != 0) = true ∧ (Fld.LEAF_PORT_STATUS_ACTIVE.get w != 0) = true
        ∧ (Fld.LEAF_PORT_STATUS_FROZEN.get w != 0) = false ∧ (Fld.LEAF_PORT_STATUS_WAKING.get w != 0) = false
        ∧ (Fld.LEAF_PORT_STATUS_DOZING.get w != 0) = false ∧ Fld.LEAF_PORT_STATUS_DOZE_REFUSED.get w = r := by decide
  have status : (linkUp p s).reg .LEAF_PORT_STATUS p = BitVec.ofNat 32 (64 + 32 + 2 * s.fld .LEAF_PORT_STATUS_DOZE_REFUSED p) :=
    reg_setReg h.regs .LEAF_PORT_STATUS _ p 0
  have read (f : Fld) (hf : f.reg = .LEAF_PORT_STATUS) :
      (linkUp p s).fld f p = f.get (BitVec.ofNat 32 (64 + 32 + 2 * s.fld .LEAF_PORT_STATUS_DOZE_REFUSED p)) := by
    unfold State.fld at status ⊢
    rw [hf, status]
  unfold portUp State.flag
  rw [read _ rfl, read _ rfl, read _ rfl, read _ rfl, read _ rfl, read _ rfl]
  exact reads _ (fld_lt s .LEAF_PORT_STATUS_DOZE_REFUSED p 0)

end Sys2Proof.Machine
end

section
open Sys2Proof Sys2Proof.Machine

/-- Settles O11: `exec_laneAlign` and its refusals, `dropLane_up` for a loss, and `linkUp_flags`. -/
theorem laneAlignment : Obligations.LaneAlignment := by
  unfold Obligations.LaneAlignment
  refine ⟨fun s n m1 m2 apart h ht hn ha h1 h2 => ?aligns, fun s n m1 m2 hf => ⟨fun apart ha => ?period, fun hm apart => ?block⟩,
    fun s n x found h hx hl hm => ?loss, fun s n found hl => ?few, fun s p ns t0 h ht hd hr hn hw => ?up⟩
  case aligns =>
    refine ⟨_, exec_laneAlign ht hn ha h1 h2, SMap.get?_insert_self _ _ _,
      fun k hk => SMap.get?_insert_ne hk h.leaf.lanes _, fun p hp => portOf_setPort_ne (s := alignLane _ _ s) h.leaf.ports hp _, ?_⟩
    exact (((Sofar.start h [.leaf] [] []).alignLane (List.mem_singleton.mpr rfl) _ _).setPort _ _ (List.mem_singleton.mpr rfl)).only
  case period =>
    exact exec_laneAlign_refused (by rw [hf, decide_eq_false ha]; rfl)
  case block =>
    refine exec_laneAlign_refused ?_
    rcases hm with e | e
    · rw [e, Bool.and_false, Bool.false_and]
    · rw [e, Bool.and_false]
  case loss =>
    have counted := sound_State_count s .LEAF_AM_LOSS_CNT n.val 0 1 h
    have once := cnt_count h.cnts .LEAF_AM_LOSS_CNT n.val 0 1
    have run : exec (.laneAlignLoss ⟨n, found⟩) s = .next (dropLane n.val (s.count .LEAF_AM_LOSS_CNT n.val)) :=
      congrArg Host.Outcome.next (if_pos (by rw [hx, markersLost_of hl hm]; rfl))
    refine ⟨_, run, ?_⟩
    cases hu : portUp s (lanePort s n.val) with
    | true =>
      obtain ⟨down, linkDowns, loose, losses⟩ := dropLane_up counted hu
      refine ⟨losses.trans once, loose, fun _ => ⟨down, linkDowns.trans ?_⟩, fun e => nomatch e⟩
      exact congrArg (· + 1#64) (cnt_count_apart h.cnts (by decide +kernel) n.val 0 1 (lanePort s n.val) 0)
    | false =>
      have down : ¬ portUp (s.count .LEAF_AM_LOSS_CNT n.val) (lanePort (s.count .LEAF_AM_LOSS_CNT n.val) n.val) = true :=
        Bool.eq_false_iff.mp hu
      rw [dropLane_eq, if_neg down]
      refine ⟨once, laneOf_looseLane counted n.val, fun e => (nomatch e), fun _ => ?_⟩
      exact ((((Sofar.start h [.leaf] [] _).count .LEAF_AM_LOSS_CNT n.val 0 1 (List.mem_singleton.mpr rfl)).looseLane
        (List.mem_singleton.mpr rfl) _).setPort _ _ (List.mem_singleton.mpr rfl)).only
  case few =>
    refine congrArg Host.Outcome.next (if_neg ?_)
    rw [Bool.and_eq_true, markersLost, Bool.and_eq_true, decide_eq_true_eq]
    exact fun hc => absurd hc.2.1 (by show ¬ 4 ≤ found.length; omega)
  case up =>
    obtain ⟨up, active, frozen, waking, dozing, refused⟩ := linkUp_flags h p.val
    refine ⟨linkUp p.val s, congrArg Host.Outcome.next (if_pos (canLink_of ht hd hr hn hw)), up, active, frozen, waking, dozing,
      refused, ?_, ?_⟩
    · exact congrArg PortSt.holdTill (portOf_setPort (s := s.setReg .LEAF_PORT_STATUS _ p.val) h.leaf.ports p.val _)
    · exact (((Sofar.start h [.leaf] _ []).setReg .LEAF_PORT_STATUS _ p.val 0 (List.mem_singleton.mpr rfl)).setPort _ _
        (List.mem_singleton.mpr rfl)).only
end

section
/-!
SUPPORT. The end of a flap hold (R59).
-/
namespace Sys2Proof.Machine

/-- A port whose hold ends is thawed. -/
def thaw (p : Nat) (s : State) : State :=
  let u := s.setFld .LEAF_PORT_STATUS_FROZEN 0 p
  setPort p { portOf u p with holdTill := none } u

theorem sound_thaw (p : Nat) {s : State} (h : s.Sound) : (thaw p s).Sound :=
  sound_setPort _ _ _ (sound_State_setFld _ _ _ _ _ h)

theorem exec_flapHoldExpiry {s : State} {p : Fin 256} {e : Nat} (hh : (portOf s p.val).holdTill = some e) (he : e ≤ s.now)
    (hu : portUp s p.val = false) (hw : linkUpWaits s p.val = false) :
    exec (.flapHoldExpiry p) s = .next (flushPort p.val (thaw p.val s)) := by
  have waited : (decide (e ≤ s.now) && !portUp s p.val && !linkUpWaits s p.val) = true := by
    rw [hu, hw, decide_eq_true he]
    rfl
  show execFlapHoldExpiry p s = _
  unfold execFlapHoldExpiry
  rw [hh]
  exact congrArg Host.Outcome.next (if_pos waited)

/-- The link comes up in this core clock: the end of the hold leaves everything to it. -/
theorem exec_flapHoldExpiry_linkUp {s : State} {p : Fin 256} (hw : linkUpWaits s p.val = true) :
    exec (.flapHoldExpiry p) s = .next s := by
  show execFlapHoldExpiry p s = _
  unfold execFlapHoldExpiry
  cases (portOf s p.val).holdTill with
  | none => rfl
  | some e =>
    refine congrArg Host.Outcome.next (if_neg ?_)
    rw [hw, Bool.not_true, Bool.and_false]
    exact Bool.false_ne_true

/-- The port after the end of its hold: thawed, as it was up or down, with no end of a hold. -/
theorem flushPort_thaw {s : State} (h : s.Sound) (p : Nat) : (flushPort p (thaw p s)).flag .LEAF_PORT_STATUS_FROZEN p = false
    ∧ portUp (flushPort p (thaw p s)) p = portUp s p ∧ (portOf (flushPort p (thaw p s)) p).holdTill = none := by
  have thawed := sound_thaw p h
  have flushed := sound_flushPort p _ thawed
  have kept := kept_flushPort (le_same _) p (thaw p s) (.refl _ _)
  obtain ⟨-, hold, -, -⟩ := PortSt.core_eq (((Steady.refl thawed).flushPort p).core p)
  refine ⟨(kept.flag (f := .LEAF_PORT_STATUS_FROZEN) thawed flushed (by decide +kernel) p 0).trans ?_,
    (kept.flag (f := .LEAF_PORT_STATUS_LINK_UP) thawed flushed (by decide +kernel) p 0).trans ?_, hold.trans ?_⟩
  · exact flag_setFld (f := .LEAF_PORT_STATUS_FROZEN) h.regs (by decide) (by decide) 0 p 0
  · exact flag_setFld_beside (f := .LEAF_PORT_STATUS_FROZEN) (g := .LEAF_PORT_STATUS_LINK_UP) h.regs (by decide) 0 p 0
  · exact congrArg PortSt.holdTill (portOf_setPort (s := s.setFld .LEAF_PORT_STATUS_FROZEN 0 p) h.leaf.ports p _)

/-! ### The lanes of a port that goes down -/

@[simp] theorem dropLanes_flag (p : Nat) (s : State) (f : Fld) (i j : Nat) : (dropLanes p s).flag f i j = s.flag f i j := rfl

@[simp] theorem dropLanes_up (p : Nat) (s : State) (q : Nat) : portUp (dropLanes p s) q = portUp s q := rfl

@[simp] theorem dropLanes_cnt (p : Nat) (s : State) (c : Cnt) (i j : Nat) : (dropLanes p s).cnt c i j = s.cnt c i j := rfl

@[simp] theorem dropLanes_port (p : Nat) (s : State) (q : Nat) : portOf (dropLanes p s) q = portOf s q := rfl

@[simp] theorem dropLanes_queue (p : Nat) (s : State) (k : Nat) : queueOf (dropLanes p s) k = queueOf s k := rfl

/-! ### Link down after the cut of a frame (R43, R58) -/

theorem exec_linkDown {s : State} {p : Fin 256} (hu : portUp s p.val = true) (f : Option RxFrame) :
    exec (.linkDown p f) s = .next (dropLanes p.val (linkDown p.val (cutRx p.val f s))) :=
  congrArg Host.Outcome.next (if_pos hu)

theorem exec_linkDown_down {s : State} {p : Fin 256} (hu : portUp s p.val = false) (f : Option RxFrame) :
    exec (.linkDown p f) s = .next s := congrArg Host.Outcome.next (if_neg (Bool.eq_false_iff.mp hu))

/-- The state in which a cut port goes down: its count made, its hold time and the clock as before. -/
theorem counted_cut {s : State} (h : s.Sound) (p : Nat) (f : Option RxFrame) :
    ((cutRx p f s).count .LEAF_LINK_DOWN_CNT p).Sound
      ∧ ((cutRx p f s).count .LEAF_LINK_DOWN_CNT p).fld .LEAF_FLAP_CFG_HOLD_MS p = s.fld .LEAF_FLAP_CFG_HOLD_MS p
      ∧ ((cutRx p f s).count .LEAF_LINK_DOWN_CNT p).now = s.now := by
  have cut := sound_cutRx p f s h
  exact ⟨sound_State_count _ _ _ _ _ cut, (kept_cut p f s).fld (f := .LEAF_FLAP_CFG_HOLD_MS) h cut (by decide +kernel) p 0,
    (kept_cut p f s).now (by decide)⟩

/-- A cut port that goes down with a flap hold is frozen until its end. -/
theorem linkDown_cutRx_holds {s : State} (h : s.Sound) {p : Nat} (h0 : s.fld .LEAF_FLAP_CFG_HOLD_MS p ≠ 0) (f : Option RxFrame) :
    (linkDown p (cutRx p f s)).flag .LEAF_PORT_STATUS_FROZEN p = true
      ∧ (portOf (linkDown p (cutRx p f s)) p).holdTill = some (s.now + min 10000 (s.fld .LEAF_FLAP_CFG_HOLD_MS p) * 1600000) := by
  obtain ⟨counted, hold, now⟩ := counted_cut h p f
  rw [linkDown_eq, ← hold, ← now]
  exact goDown_frozen counted (by rw [hold]; exact h0)

/-- A cut port that goes down with no hold has its queues flushed. -/
theorem linkDown_cutRx_flushes {s : State} (h : s.Sound) {p : Nat} (h0 : s.fld .LEAF_FLAP_CFG_HOLD_MS p = 0) (f : Option RxFrame)
    {c : Nat} (hc : c < 8) : (queueOf (linkDown p (cutRx p f s)) (leafQ p c)).units = [] := by
  obtain ⟨counted, hold, -⟩ := counted_cut h p f
  rw [linkDown_eq, goDown_flushes counted (hold.trans h0)]
  exact flushPort_empties (sound_cutOff p counted) p hc

end Sys2Proof.Machine
end

section
open Sys2Proof Sys2Proof.Machine

/-- Settles O12: the rules of `linkDown` after a cut, and the flush that ends a hold. -/
theorem linkDownAndHold : Obligations.LinkDownAndHold := by
  unfold Obligations.LinkDownAndHold
  refine ⟨fun s p f h hu => ?down, fun s p f hu => exec_linkDown_down hu f,
    fun s p e h hh he hu hw => ?ends, fun s p hw => exec_flapHoldExpiry_linkUp hw⟩
  case down =>
    obtain ⟨down, counted, ready, tx, rx, -⟩ := linkDown_cutRx h p.val f
    refine ⟨_, exec_linkDown hu f, ?_⟩
    beta_reduce
    rw [dropLanes_up, dropLanes_cnt, dropLanes_port, dropLanes_flag]
    refine ⟨down, counted, ready, tx, rx, fun g hg hr hf => ?_, fun h0 => linkDown_cutRx_holds h h0 f,
      fun h0 c hc => (congrArg Queue.units (dropLanes_queue _ _ _)).trans (linkDown_cutRx_flushes h h0 f hc)⟩
    subst hg
    rw [dropLanes_cnt]
    exact (linkDown_rxBad (sound_cutRx p.val (some g) s h) p.val _).trans (cutRx_counts h hu hr hf g)
  case ends =>
    obtain ⟨thawed, down, hold⟩ := flushPort_thaw h p.val
    exact ⟨_, exec_flapHoldExpiry hh he hu hw, thawed, down.trans hu, hold,
      fun c hc => flushPort_empties (sound_thaw p.val h) p.val hc⟩
end

section
/-!
SUPPORT. Pauses of a leaf port (R45 to R50): a class that is paused, a pause frame that is taken, and one that leaves.
-/
namespace Sys2Proof

/-- An entry stored in a map leaves every other as it was, in order or not. -/
theorem SMap.get?_insert_other {α : Type} (m : SMap α) {q a : Nat} (h : a ≠ q) (x : α) :
    SMap.get? (SMap.insert m q x) a = SMap.get? m a := by
  induction m with
  | nil => simp [SMap.insert, SMap.get?, h]
  | cons e m ih =>
    unfold SMap.insert
    split
    · next hq => simp only [SMap.get?, ← hq, if_neg h]
    · split
      · simp only [SMap.get?, if_neg h]
        split
        · rw [if_neg (by omega), if_pos (by omega)]
        · rfl
      · simp only [SMap.get?, ih]

namespace Machine

/-- Outside dusk, a die that forwards takes frames in. -/
theorem admitting_runs {s : State} (hf : forwards s) (hd : s.pwr.dusk = none) (op : State → State) : admitting op s = op s := by
  unfold admitting running
  rw [hd, show s.pwr.stopped = false from hf]
  rfl

/-! ### LEAF_PAUSE_STATUS -/

theorem stallSync_ports {s : State} (h : s.Sound) (p : Nat) : ∃ st, portOf (stallSync p s) p = { portOf s p with stall := st } :=
  (stallSync_port h p).2

/-- Of the port, its status leaves all but the times of its stalls. -/
theorem showPause_port {s : State} (h : s.Sound) (p : Nat) : ∃ st, portOf (showPause p s) p = { portOf s p with stall := st } :=
  stallSync_ports (sound_State_setReg _ .LEAF_PAUSE_STATUS _ p 0 h) p

theorem Sofar.stallSync {s0 s : State} {aa oo cc} (h : Sofar s0 s aa oo cc) (hl : Area.leaf ∈ aa) (p : Nat) :
    Sofar s0 (stallSync p s) aa oo cc := ite_holds (P := fun t => Sofar s0 t aa oo cc) h (h.setPort p _ hl)

theorem Sofar.showPause {s0 s : State} {aa oo cc} (h : Sofar s0 s aa oo cc) (hl : Area.leaf ∈ aa) {p : Nat}
    (hr : Reg.off .LEAF_PAUSE_STATUS p ∈ oo) : Sofar s0 (showPause p s) aa oo cc :=
  (h.setReg .LEAF_PAUSE_STATUS _ p 0 hr).stallSync hl p

/-- The port is given what it shows from now on. -/
theorem showPause_setPort {s : State} (h : s.Sound) (p : Nat) (x : PortSt) :
    ∃ st, portOf (showPause p (setPort p x s)) p = { x with stall := st } := by
  obtain ⟨st, e⟩ := showPause_port (sound_setPort p x s h) p
  exact ⟨st, e.trans (by rw [portOf_setPort h.leaf.ports])⟩

/-! ### A class is paused (R46) -/

theorem Sofar.pauseClass {s0 s : State} {aa oo cc} (h : Sofar s0 s aa oo cc) (hl : Area.leaf ∈ aa) {p : Nat}
    (hr : Reg.off .LEAF_PAUSE_STATUS p ∈ oo) (c till : Nat) : Sofar s0 (pauseClass p c till s) aa oo cc :=
  (h.setPort p _ hl).showPause hl hr

theorem pauseClass_now (p c till : Nat) (s : State) : (pauseClass p c till s).now = s.now :=
  (kept_pauseClass (le_same _) p c till s (.refl _ _)).now (by decide)

/-- A class paused until a later clock. -/
theorem pauseClass_later {s : State} (h : s.Sound) (p c : Nat) {till : Nat} (ht : s.now < till) :
    (portOf (pauseClass p c till s) p).paused = SMap.insert (portOf s p).paused c till := by
  obtain ⟨st, e⟩ := showPause_setPort h p
    { portOf s p with paused := if s.now < till then SMap.insert (portOf s p).paused c till else SMap.keep (portOf s p).paused (· != c) }
  exact (congrArg PortSt.paused e).trans (if_pos ht)

/-- A class whose pause ends. -/
theorem pauseClass_ends {s : State} (h : s.Sound) (p c : Nat) :
    SMap.get? (portOf (pauseClass p c 0 s) p).paused c = none := by
  obtain ⟨st, e⟩ := showPause_setPort h p
    { portOf s p with paused := if s.now < 0 then SMap.insert (portOf s p).paused c 0 else SMap.keep (portOf s p).paused (· != c) }
  refine (congrArg (fun x : PortSt => SMap.get? x.paused c) e).trans ?_
  exact get?_keep_out (p := (· != c)) (bne_self_eq_false c)

/-- Every class of a list is paused until one later clock. -/
theorem foldl_pauseClass {s : State} (h : s.Sound) (p : Nat) {till : Nat} (ht : s.now < till) {l : List Nat} {c : Nat} (hc : c ∈ l) :
    SMap.get? (portOf (l.foldl (fun s c => pauseClass p c till s) s) p).paused c = some till := by
  refine foldl_reaches (P := fun t : State => SMap.get? (portOf t p).paused c = some till)
    (Q := fun t : State => t.Sound ∧ t.now = s.now) (fun t a ht => ⟨sound_pauseClass _ _ _ _ ht.1, (pauseClass_now _ _ _ _).trans ht.2⟩)
    (fun t q => ?_) (fun t a q e => ?_) hc ⟨h, rfl⟩
  · rw [pauseClass_later q.1 p c (q.2 ▸ ht)]
    exact SMap.get?_insert_self _ _ _
  · rw [pauseClass_later q.1 p a (q.2 ▸ ht)]
    by_cases ea : c = a
    · rw [ea]; exact SMap.get?_insert_self _ _ _
    · exact (SMap.get?_insert_other _ ea _).trans e

/-! ### A PAUSE frame (R45 to R47) -/

/-- The classes with the end of a pause of all of them. -/
def allClasses (till : Nat) : List (Nat × Nat) := (List.range 8).map (fun c => (c, till))

/-- The pauses that waited for classes that a new pause names are forgotten. -/
def forgetPend (p : Nat) (l : List (Nat × Nat)) (s : State) : State :=
  setPort p { portOf s p with pend := (portOf s p).pend.filter (fun q => !l.any (fun e => e.1 == q.cls)) } s

theorem sound_forgetPend (p : Nat) (l : List (Nat × Nat)) {s : State} (h : s.Sound) : (forgetPend p l s).Sound := sound_setPort _ _ _ h

/-- A pause of every class until a later clock, with a frame in transmission: it waits for the end of the frame. -/
def pausePends (p till : Nat) (s : State) : State :=
  setPort p { portOf s p with pend := (portOf s p).pend ++ (allClasses till).map (fun e => ⟨e.1, e.2⟩) } s

theorem takePause_all {s : State} (p : Nat) {till : Nat} (ht : s.now < till) :
    takePause p (allClasses till) s = if (portOf s p).tx.any (fun t => decide (t.cls < 8)) then pausePends p till (forgetPend p (allClasses till) s)
      else (List.range 8).foldl (fun s c => pauseClass p c till s) (forgetPend p (allClasses till) s) := by
  have later : ∀ e ∈ allClasses till, e.2 ≠ s.now := by
    intro e he
    obtain ⟨c, -, rfl⟩ := List.mem_map.mp he
    exact Nat.ne_of_gt ht
  have noneNow : (allClasses till).filter (fun e => e.2 == s.now) = [] :=
    List.filter_eq_nil_iff.mpr fun e he => by rw [beq_iff_eq]; exact later e he
  have allGo : (allClasses till).filter (fun e => e.2 != s.now) = allClasses till :=
    List.filter_eq_self.mpr fun e he => bne_iff_ne.mpr (later e he)
  have named : (fun t : TxSt => (allClasses till).any (fun e => e.1 == t.cls)) = fun t => decide (t.cls < 8) := by
    funext t
    rw [Bool.eq_iff_iff, List.any_eq_true, decide_eq_true_eq]
    constructor
    · rintro ⟨e, he, ec⟩
      obtain ⟨c, hc, rfl⟩ := List.mem_map.mp he
      exact (beq_iff_eq.mp ec) ▸ List.mem_range.mp hc
    · exact fun hc => ⟨(t.cls, till), List.mem_map.mpr ⟨_, List.mem_range.mpr hc, rfl⟩, beq_self_eq_true _⟩
  unfold takePause
  extract_lets x u v go
  have hv : v = forgetPend p (allClasses till) s := congrArg (fun l => l.foldl (fun s e => pauseClass p e.1 0 s) u) noneNow
  have hgo : go = allClasses till := by
    subst go
    rw [hv]
    exact allGo
  clear_value go v
  subst hv hgo
  rw [named, allClasses, List.foldl_map]
  rfl

theorem Sofar.takePause_all {s0 s : State} {aa oo cc} (h : Sofar s0 s aa oo cc) (hl : Area.leaf ∈ aa) {p : Nat}
    (hr : Reg.off .LEAF_PAUSE_STATUS p ∈ oo) {till : Nat} (ht : s.now < till) : Sofar s0 (takePause p (allClasses till) s) aa oo cc := by
  rw [Machine.takePause_all p ht]
  have forgot := h.setPort p { portOf s p with
    pend := (portOf s p).pend.filter (fun q => !(allClasses till).any (fun e => e.1 == q.cls)) } hl
  exact ite_holds (P := fun t => Sofar s0 t aa oo cc) (forgot.setPort p _ hl)
    (foldl_holds (P := fun t => Sofar s0 t aa oo cc) (fun t c k => k.pauseClass hl hr c till) forgot)

/-- With no frame in transmission a pause of all classes is there at once. -/
theorem takePause_all_idle {s : State} (h : s.Sound) {p till c : Nat} (ht : s.now < till) (hx : (portOf s p).tx = none) (hc : c < 8) :
    SMap.get? (portOf (takePause p (allClasses till) s) p).paused c = some till := by
  rw [takePause_all p ht, hx]
  exact foldl_pauseClass (sound_forgetPend p _ h) p ht (List.mem_range.mpr hc)

/-- During a frame a pause of all classes waits for its end. -/
theorem takePause_all_busy {s : State} (h : s.Sound) {p till : Nat} (ht : s.now < till) {x : TxSt} (hx : (portOf s p).tx = some x)
    (hc : x.cls < 8) : (portOf (takePause p (allClasses till) s) p).paused = (portOf s p).paused
      ∧ ∀ c < 8, (⟨c, till⟩ : PausePend) ∈ (portOf (takePause p (allClasses till) s) p).pend := by
  have forgot := sound_forgetPend p (allClasses till) h
  have paused : (portOf (forgetPend p (allClasses till) s) p).paused = (portOf s p).paused := by
    rw [forgetPend, portOf_setPort h.leaf.ports]
  have busy : (some x).any (fun t : TxSt => decide (t.cls < 8)) = true := decide_eq_true hc
  rw [takePause_all p ht, hx, if_pos busy, pausePends, portOf_setPort forgot.leaf.ports]
  refine ⟨paused, fun c hc => List.mem_append_right _ (List.mem_map.mpr ⟨(c, till), ?_, rfl⟩)⟩
  exact List.mem_map.mpr ⟨c, List.mem_range.mpr hc, rfl⟩

theorem pauseMode_eq {s : State} {p m : Nat} (h : s.fld .LEAF_PORT_CFG_PAUSE_MODE p = m) (hm : m ≠ 3) : pauseMode s p = m :=
  (if_neg (by rw [h]; exact hm)).trans h

theorem macControl_pause {s : State} {p : Nat} {d : List Byte} (hd : slice d 0 6 = pauseMac) (ho : beAt d 14 2 = 1)
    (hm : pauseMode s p = 1) (hh : (portOf s p).holdoff = []) : macControl p d s
      = takePause p (allClasses (s.now + quantaClocks s p (beAt d 16 2))) (s.count .LEAF_RX_PAUSE_CNT p) := by
  have mac : ¬ (slice d 0 6 != pauseMac) = true := by rw [hd, bne_self_eq_false]; exact Bool.false_ne_true
  have op : (beAt d 14 2 = 0x0001 && pauseMode s p = 1) = true := by rw [ho, hm]; rfl
  have none : (portOf s p).holdoff.isEmpty = true := by rw [hh]; rfl
  unfold macControl
  extract_lets ignored o m till
  exact (if_neg mac).trans ((if_pos op).trans (if_pos none))

/-- A whole MAC control frame that passes its checks. -/
theorem receive_macControl {s : State} {p : Nat} {f : RxFrame} (hu : portUp s p = true) (hm : f.more = false)
    (hc : isMacControl f.data = true) (hk : macCheck s p f = none) : receive p f s = macControl p f.data (clearRx p s) := by
  have up : ¬ (!portUp s p) = true := by rw [hu]; exact Bool.false_ne_true
  have whole : ¬ f.more = true := Bool.eq_false_iff.mp hm
  have good : (isMacControl f.data && (macCheck (clearRx p s) p f).isNone) = true := by
    rw [hc, show macCheck (clearRx p s) p f = none from hk]; rfl
  unfold receive
  extract_lets began u
  exact (if_neg up).trans ((if_neg whole).trans (if_pos good))

/-! ### A pause frame leaves (R45, R48) -/

/-- A pause frame is counted: key 8 is PAUSE, any other that class of PFC. -/
def countPause (p c : Nat) (s : State) : State :=
  if c = 8 then s.count .LEAF_TX_PAUSE_CNT p else s.count .LEAF_TX_PFC_CNT p c

/-- The port from which a pause frame of class c leaves at a clock. -/
def pauseLeaves (x : PortSt) (c now : Nat) (l : List (Nat × Nat)) : PortSt :=
  { x with pauseOut := l, pausedAt := SMap.insert x.pausedAt c now }

/-- The state in which a pause frame goes to the line. -/
def beforePause (p c : Nat) (l : List (Nat × Nat)) (s : State) : State :=
  countPause p c (setPort p (pauseLeaves (portOf s p) c s.now l) s)

theorem exec_pauseFrameTx {s : State} {p : Fin 256} {c n : Nat} {l : List (Nat × Nat)} (hf : forwards s) (hu : portUp s p.val = true)
    (hx : (portOf s p.val).tx = none) (ho : (portOf s p.val).pauseOut = (c, n) :: l) (hl : lineFree s p.val = true) :
    exec (.pauseFrameTx p) s = .next (sendOut p.val (beforePause p.val c l s).now (pauseFrame (beforePause p.val c l s) c n) true
      (beforePause p.val c l s)) := by
  have free : ¬ ((portOf s p.val).tx.isSome || !portUp s p.val || !lineFree s p.val) = true := by
    rw [hx, hu, hl]; exact Bool.false_ne_true
  show execPauseFrameTx p s = _
  unfold execPauseFrameTx
  rw [if_neg (Bool.eq_false_iff.mp hf)]
  dsimp only
  rw [ho]
  exact congrArg Host.Outcome.next (if_neg free)

theorem countPause_leaf (p c : Nat) (s : State) : (countPause p c s).leaf = s.leaf := ite_holds (P := fun t : State => t.leaf = s.leaf) rfl rfl
theorem countPause_regs (p c : Nat) (s : State) : (countPause p c s).regs = s.regs := ite_holds (P := fun t : State => t.regs = s.regs) rfl rfl
theorem countPause_now (p c : Nat) (s : State) : (countPause p c s).now = s.now := ite_holds (P := fun t : State => t.now = s.now) rfl rfl
theorem countPause_out (p c : Nat) (s : State) : (countPause p c s).out = s.out := ite_holds (P := fun t : State => t.out = s.out) rfl rfl

/-- The bytes of a pause frame are those of the registers. -/
theorem pauseFrame_congr {s t : State} (h : t.regs = s.regs) (c n : Nat) : pauseFrame t c n = pauseFrame s c n := by
  have mac : routerMac t = routerMac s := by unfold routerMac; rw [reg_congr h, fld_congr h]
  unfold pauseFrame
  rw [mac]

/-! ### The line -/

/-- Of the port, the line alone takes part in a transmission. -/
theorem lineSend_port {s : State} (h : s.leaf.ports.sorted = true) (p start : Nat) (d : List Byte) :
    ∃ l, portOf (lineSend p start d s) p = { portOf s p with line := l } := by
  unfold lineSend
  extract_lets x b
  split
  extract_lets l
  split
  · rename_i c _
    have emitted : (c.2.foldl (fun s e => s.emit (.lane (p + e.1) e.2)) (setPort p { x with line := c.1 } s)).leaf
        = (setPort p { x with line := c.1 } s).leaf := foldl_holds (P := fun t : State => t.leaf = _) (fun _ _ h => h) rfl
    exact ⟨c.1, (portOf_congr emitted p).trans (portOf_setPort h p _)⟩
  · exact ⟨l, portOf_setPort h p _⟩

theorem sendOut_port {s : State} (h : s.Sound) (p start : Nat) (d : List Byte) (whole : Bool) :
    ∃ l, portOf (sendOut p start d whole s) p = { portOf s p with line := l } :=
  lineSend_port (s := s.emit (.frame p d whole)) h.leaf.ports p start d

/-- What is out stays out. -/
theorem lineSend_out {s : State} {e : OutEv} (he : e ∈ s.out) (p start : Nat) (d : List Byte) : e ∈ (lineSend p start d s).out := by
  unfold lineSend
  extract_lets x b
  split
  exact ite_holds (P := fun t : State => e ∈ t.out)
    (foldl_holds (P := fun t : State => e ∈ t.out) (fun _ _ h => List.mem_cons_of_mem _ h) he) he

/-- At 200 Gb/s the model shows no words of the lanes. -/
theorem lineSend_out_slow {s : State} {p : Nat} (hs : fastLanes s p = false) (start : Nat) (d : List Byte) :
    (lineSend p start d s).out = s.out := by
  unfold lineSend
  extract_lets x b
  split
  rw [if_neg (Bool.eq_false_iff.mp hs)]
  rfl

theorem Sofar.lineSend {s0 s : State} {aa oo cc} (h : Sofar s0 s aa oo cc) (hl : Area.leaf ∈ aa) (ho : Area.out ∈ aa) (p start : Nat)
    (d : List Byte) : Sofar s0 (lineSend p start d s) aa oo cc := by
  unfold Machine.lineSend
  extract_lets x b
  split
  exact ite_holds (P := fun t => Sofar s0 t aa oo cc)
    (foldl_holds (P := fun t => Sofar s0 t aa oo cc) (fun _ e k => k.emit ho _) (h.setPort p _ hl)) (h.setPort p _ hl)

end Machine
end Sys2Proof
end

section
/-!
SUPPORT. Pause frames that are sent and repeated, and the pause watchdog (R48 to R50).
-/
namespace Sys2Proof.Machine

/-! ### A pause frame leaves, and is repeated (R48) -/

theorem sound_beforePause (p c : Nat) (l : List (Nat × Nat)) {s : State} (h : s.Sound) : (beforePause p c l s).Sound :=
  ite_holds (P := State.Sound) (sound_State_count _ _ _ _ _ (sound_setPort _ _ _ h)) (sound_State_count _ _ _ _ _ (sound_setPort _ _ _ h))

theorem beforePause_now (p c : Nat) (l : List (Nat × Nat)) (s : State) : (beforePause p c l s).now = s.now := countPause_now _ _ _

theorem beforePause_frame (p c : Nat) (l : List (Nat × Nat)) (s : State) (n : Nat) :
    pauseFrame (beforePause p c l s) c n = pauseFrame s c n := pauseFrame_congr (countPause_regs _ _ _) _ _

theorem beforePause_port {s : State} (h : s.Sound) (p c : Nat) (l : List (Nat × Nat)) :
    portOf (beforePause p c l s) p = pauseLeaves (portOf s p) c s.now l :=
  (portOf_congr (countPause_leaf _ _ _) p).trans (portOf_setPort h.leaf.ports p _)

theorem Sofar.beforePause {s0 s : State} {aa oo cc} (h : Sofar s0 s aa oo cc) (hl : Area.leaf ∈ aa) {p c : Nat}
    (h8 : Cnt.off .LEAF_TX_PAUSE_CNT p ∈ cc) (hc : Cnt.off .LEAF_TX_PFC_CNT p c ∈ cc) (l : List (Nat × Nat)) :
    Sofar s0 (beforePause p c l s) aa oo cc :=
  ite_holds (P := fun t => Sofar s0 t aa oo cc) ((h.setPort p _ hl).count _ _ _ _ h8) ((h.setPort p _ hl).count _ _ _ _ hc)

/-- The count of a pause frame. -/
theorem countPause_counts {s : State} (h : s.Sound) (p c : Nat) :
    (c = 8 → (countPause p c s).cnt .LEAF_TX_PAUSE_CNT p = s.cnt .LEAF_TX_PAUSE_CNT p + 1#64)
      ∧ (c ≠ 8 → (countPause p c s).cnt .LEAF_TX_PFC_CNT p c = s.cnt .LEAF_TX_PFC_CNT p c + 1#64) := by
  unfold countPause
  constructor
  · intro hc
    rw [if_pos hc]
    exact cnt_count h.cnts _ _ _ _
  · intro hc
    rw [if_neg hc]
    exact cnt_count h.cnts _ _ _ _

/-- What leaves a port counts nothing of itself. -/
theorem sendOut_cnt {s : State} (h : s.Sound) (p start : Nat) (d : List Byte) (whole : Bool) (c : Cnt) (hc : freeC ⟨262400, 0, 0⟩ c = true)
    (i j : Nat) : (sendOut p start d whole s).cnt c i j = s.cnt c i j :=
  (kept_sendOut (le_same _) p start d whole s (.refl _ _)).cnt h (sound_sendOut p start d whole s h) hc i j

/-- A trigger holds for the key of a pause: a class in PFC mode, or in PAUSE mode (key 8) any. -/
theorem exec_pauseRepeatTimer {s : State} {p : Fin 256} {c : Fin 9} {e : Nat}
    (hc : c.val < 8 → s.fld .LEAF_PORT_CFG_PAUSE_MODE p.val = 2 ∧ (portOf s p.val).trig.contains c.val = true)
    (h8 : c.val = 8 → s.fld .LEAF_PORT_CFG_PAUSE_MODE p.val = 1 ∧ (portOf s p.val).trig ≠ [])
    (he : SMap.get? (portOf s p.val).pausedAt c.val = some e)
    (hn : e + quantaClocks s p.val (max 1 (quantaOf s p.val / 2)) ≤ s.now)
    (ho : (portOf s p.val).pauseOut.any (fun x => x.1 == c.val) = false) :
    exec (.pauseRepeatTimer p c) s = .next (setPort p.val
      { portOf s p.val with pauseOut := (portOf s p.val).pauseOut ++ [(c.val, quantaOf s p.val)] } s) := by
  have on : (if c.val = 8 then pauseMode s p.val == 1 && !(portOf s p.val).trig.isEmpty
      else pauseMode s p.val == 2 && (portOf s p.val).trig.contains c.val) = true := by
    by_cases e8 : c.val = 8
    · obtain ⟨mode, trig⟩ := h8 e8
      have some : (portOf s p.val).trig.isEmpty = false := by rwa [List.isEmpty_eq_false_iff]
      rw [if_pos e8, pauseMode_eq mode (by decide), some]
      rfl
    · obtain ⟨mode, trig⟩ := hc (by omega)
      rw [if_neg e8, pauseMode_eq mode (by decide), trig]
      rfl
  show execPauseRepeatTimer p c s = _
  unfold execPauseRepeatTimer
  dsimp only
  rw [he]
  refine congrArg Host.Outcome.next (if_pos ?_)
  rw [on, decide_eq_true hn, ho]
  rfl

/-! ### The pause watchdog (R49, R50) -/

/-- The classes of a key: 8 stands for all of them. -/
def keyClasses (c : Nat) : List Nat := if c = 8 then List.range 8 else [c]

/-- A port whose watchdog trips: its pauses of these classes end, and their hold-off starts. -/
def wdPort (cs : List Nat) (off : Nat) (x : PortSt) : PortSt :=
  { x with
    paused := x.paused.filter (fun e => !cs.contains e.1)
    pend := x.pend.filter (fun e => !cs.contains e.cls)
    holdoff := cs.foldl (fun m i => SMap.insert m i off) x.holdoff }

/-- The pause watchdog trips. -/
def wdTrip (p : Nat) (cs : List Nat) (off : Nat) (s : State) : State := showPause p (setPort p (wdPort cs off (portOf s p)) s)

/-- A trip is counted and gives a fault record. -/
def wdFault (p i : Nat) (s : State) : State := fault 1 p i 0 (s.count .LEAF_PAUSE_WD_CNT p i)

theorem exec_pauseWatchdog {s : State} {p : Fin 256} {c : Fin 9} {e : Nat} (he : SMap.get? (portOf s p.val).stall c.val = some e)
    (hl : s.fld .LEAF_PAUSE_WD_CFG_PAUSE_WD_LIMIT p.val ≠ 0) (hn : e + s.fld .LEAF_PAUSE_WD_CFG_PAUSE_WD_LIMIT p.val * 1600000 ≤ s.now)
    (hp : ∀ i ∈ keyClasses c.val, ∀ x, SMap.get? (portOf s p.val).paused i = some x → s.now < x)
    (hw : pauseEnds p.val c.val s = false) :
    exec (.pauseWatchdog p c) s = .next (wdTrip p.val (keyClasses c.val)
      (s.now + max 1 (s.fld .LEAF_PAUSE_WD_CFG_PAUSE_WD_HOLDOFF p.val) * 1600000) (wdFault p.val (c.val % 8) s)) := by
  have lasts : (keyClasses c.val).any (fun i => (SMap.get? (portOf s p.val).paused i).any (fun t => decide (t ≤ s.now))) = false := by
    rw [List.any_eq_false]
    intro i hi
    cases hx : SMap.get? (portOf s p.val).paused i with
    | none => exact Bool.false_ne_true
    | some x => exact fun hc => Nat.not_lt.mpr (of_decide_eq_true hc) (hp i hi x hx)
  have index : (if c.val = 8 then 0 else c.val) = c.val % 8 := by
    split <;> omega
  have trips : ¬ (s.fld .LEAF_PAUSE_WD_CFG_PAUSE_WD_LIMIT p.val = 0
      || s.now < e + s.fld .LEAF_PAUSE_WD_CFG_PAUSE_WD_LIMIT p.val * clkMs
      || ((keyClasses c.val).any (fun i => (SMap.get? (portOf s p.val).paused i).any (fun t => decide (t ≤ s.now)))
        || pauseEnds p.val c.val s)) = true := by
    have reached : decide (s.now < e + s.fld .LEAF_PAUSE_WD_CFG_PAUSE_WD_LIMIT p.val * clkMs) = false :=
      decide_eq_false (Nat.not_lt.mpr hn)
    rw [lasts, hw, decide_eq_false hl, reached]
    exact Bool.false_ne_true
  show execPauseWatchdog p c s = _
  unfold execPauseWatchdog
  dsimp only
  rw [he, index]
  exact congrArg Host.Outcome.next (if_neg trips)

/-- A frame of this core clock ends the stall: the watchdog leaves everything to it. -/
theorem exec_pauseWatchdog_ends {s : State} {p : Fin 256} {c : Fin 9} (hw : pauseEnds p.val c.val s = true) :
    exec (.pauseWatchdog p c) s = .next s := by
  show execPauseWatchdog p c s = _
  unfold execPauseWatchdog
  extract_lets x lim off cs ended
  have left : ended = true := by
    subst ended
    rw [hw, Bool.or_true]
  cases SMap.get? x.stall c.val with
  | none => rfl
  | some e => exact congrArg Host.Outcome.next (if_pos (by rw [left, Bool.or_true]))

theorem sound_wdFault (p i : Nat) {s : State} (h : s.Sound) : (wdFault p i s).Sound :=
  sound_fault _ _ _ _ _ (sound_State_count _ _ _ _ _ h)

theorem Sofar.wdFault {s0 s : State} {aa oo cc} (h : Sofar s0 s aa oo cc) (hh : Area.host ∈ aa) (hk : Area.hlt ∈ aa) {p i : Nat}
    (hc : Cnt.off .LEAF_PAUSE_WD_CNT p i ∈ cc) : Sofar s0 (wdFault p i s) aa oo cc := by
  refine (h.count .LEAF_PAUSE_WD_CNT p i 1 hc).areas rfl rfl rfl (fun a ha => ?_)
  cases a <;> trivial

/-- The port after its watchdog has tripped. -/
theorem wdTrip_port {s : State} (h : s.Sound) (p : Nat) (cs : List Nat) (off : Nat) :
    ∃ st, portOf (wdTrip p cs off s) p = { wdPort cs off (portOf s p) with stall := st } := showPause_setPort h p _

theorem wdPort_paused {cs : List Nat} {i : Nat} (hi : i ∈ cs) (off : Nat) (x : PortSt) : SMap.get? (wdPort cs off x).paused i = none :=
  get?_keep_out (p := fun k => !cs.contains k) (by rw [List.contains_iff_mem.mpr hi]; rfl)

theorem wdPort_holdoff {cs : List Nat} {i : Nat} (hi : i ∈ cs) (off : Nat) (x : PortSt) :
    SMap.get? (wdPort cs off x).holdoff i = some off := by
  refine foldl_reaches (P := fun m => SMap.get? m i = some off) (Q := fun _ => True) (f := fun m i => SMap.insert m i off)
    (fun _ _ _ => trivial) (fun m _ => SMap.get?_insert_self m i off) (fun m a _ e => ?_) hi trivial
  by_cases ea : i = a
  · rw [ea]; exact SMap.get?_insert_self m a off
  · exact (SMap.get?_insert_other m ea off).trans e

/-- The pauses of the classes have ended. -/
theorem wdTrip_paused {s : State} (h : s.Sound) (p : Nat) {cs : List Nat} {i : Nat} (hi : i ∈ cs) (off : Nat) :
    SMap.get? (portOf (wdTrip p cs off s) p).paused i = none := by
  obtain ⟨st, e⟩ := wdTrip_port h p cs off
  exact (congrArg (fun x : PortSt => SMap.get? x.paused i) e).trans (wdPort_paused hi off (portOf s p))

/-- The hold-offs of the classes have started. -/
theorem wdTrip_holdoff {s : State} (h : s.Sound) (p : Nat) {cs : List Nat} {i : Nat} (hi : i ∈ cs) (off : Nat) :
    SMap.get? (portOf (wdTrip p cs off s) p).holdoff i = some off := by
  obtain ⟨st, e⟩ := wdTrip_port h p cs off
  exact (congrArg (fun x : PortSt => SMap.get? x.holdoff i) e).trans (wdPort_holdoff hi off (portOf s p))

theorem wdTrip_cnt {s : State} (h : s.Sound) (p : Nat) (cs : List Nat) (off : Nat) (c : Cnt) (hc : freeC ⟨262144, 0x80, 0⟩ c = true)
    (i j : Nat) : (wdTrip p cs off s).cnt c i j = s.cnt c i j :=
  (kept_showPause (le_same _) p _ (.refl _ _)).cnt (sound_setPort p _ s h) (sound_showPause p _ (sound_setPort p _ s h)) hc i j

theorem wdTrip_host (p : Nat) (cs : List Nat) (off : Nat) (s : State) : (wdTrip p cs off s).host = s.host :=
  (kept_showPause (le_same _) p (setPort p (wdPort cs off (portOf s p)) s) (.refl _ _)).host (by decide)

end Sys2Proof.Machine
end

section
open Sys2Proof Sys2Proof.Machine

/-- Settles O14: a pause of all classes is taken (`takePause_all_idle`, `takePause_all_busy`), ends, leaves and is repeated; the
watchdog trips (`wdTrip_paused`, `wdTrip_holdoff`), and its hold-off ends. -/
theorem pauseFramesAndWatchdog : Obligations.PauseFramesAndWatchdog := by
  unfold Obligations.PauseFramesAndWatchdog
  refine ⟨fun s p f h hf hd hu hm hc hk ha ho hp hh hq => ?taken, fun s p c e h he hn => ?expires,
    fun s p c n l h hf hu hx ho hc hl => ?leaves, fun s p c e h hc h8 he hn ho => ?repeated,
    fun s p c e cs h hcs he hl hn hp hw => ?trips, fun s p c hw => exec_pauseWatchdog_ends hw, fun s p c e h he hn => ?holdoff⟩
  case taken =>
    have cleared := sound_clearRx p.val s h
    have run : exec (.pauseFrameRx p f) s = .next (takePause p.val (allClasses (s.now + quantaClocks s p.val (beAt f.data 16 2)))
        ((clearRx p.val s).count .LEAF_RX_PAUSE_CNT p.val)) := by
      refine congrArg Host.Outcome.next ((admitting_runs hf hd _).trans ((if_pos hc).trans ((receive_macControl hu hm hc hk).trans ?_)))
      exact macControl_pause ha ho (pauseMode_eq hp (by decide))
        ((congrArg PortSt.holdoff (portOf_setPort h.leaf.ports p.val _)).trans hh)
    have later : ((clearRx p.val s).count .LEAF_RX_PAUSE_CNT p.val).now < s.now + quantaClocks s p.val (beAt f.data 16 2) :=
      Nat.lt_add_of_pos_right hq
    have counted := sound_State_count _ .LEAF_RX_PAUSE_CNT p.val 0 1 cleared
    have port : portOf ((clearRx p.val s).count .LEAF_RX_PAUSE_CNT p.val) p.val = { portOf s p.val with rx := none } :=
      portOf_setPort h.leaf.ports p.val _
    refine ⟨_, run, ?_, fun hx c hc => takePause_all_idle counted later ((congrArg PortSt.tx port).trans hx) hc,
      fun x hx hc => ?_, ?_⟩
    · refine ((kept_takePause (le_same _) p.val _ _ (.refl _ _)).cnt counted (sound_takePause _ _ _ counted) (by decide +kernel) p.val 0).trans ?_
      exact cnt_count h.cnts _ _ _ _
    · obtain ⟨paused, pend⟩ := takePause_all_busy counted later ((congrArg PortSt.tx port).trans hx) hc
      exact ⟨paused.trans (by rw [port]), pend⟩
    · exact ((((Sofar.start h [.leaf] [Reg.off .LEAF_PAUSE_STATUS p.val] [Cnt.off .LEAF_RX_PAUSE_CNT p.val]).setPort p.val _
        (List.mem_singleton.mpr rfl)).count _ _ _ _ (List.mem_singleton.mpr rfl)).takePause_all (List.mem_singleton.mpr rfl)
          (List.mem_singleton.mpr rfl) later).only
  case expires =>
    have run : exec (.pauseExpiry p c) s = .next (pauseClass p.val c.val 0 s) := by
      show execPauseExpiry p c s = _
      unfold execPauseExpiry
      rw [he]
      exact congrArg Host.Outcome.next (if_pos hn)
    exact ⟨_, run, pauseClass_ends h p.val c.val, ((Sofar.start h [.leaf] [Reg.off .LEAF_PAUSE_STATUS p.val] []).pauseClass
      (List.mem_singleton.mpr rfl) (List.mem_singleton.mpr rfl) _ _).only⟩
  case leaves =>
    have before := sound_beforePause p.val c l h
    have run := exec_pauseFrameTx (n := n) hf hu hx ho hl
    rw [beforePause_now, beforePause_frame] at run
    obtain ⟨line, port⟩ := sendOut_port before p.val s.now (pauseFrame s c n) true
    rw [beforePause_port h] at port
    obtain ⟨pauses, classes⟩ := countPause_counts (sound_setPort p.val (pauseLeaves (portOf s p.val) c s.now l) s h) p.val c
    refine ⟨_, run, congrArg PortSt.pauseOut port, (congrArg (fun x : PortSt => SMap.get? x.pausedAt c) port).trans
      (SMap.get?_insert_self _ _ _), lineSend_out List.mem_cons_self _ _ _, fun hs => ?_, fun e8 => ?_, fun e8 => ?_, ?_⟩
    · refine (lineSend_out_slow ?_ _ _).trans (congrArg (_ :: ·) (countPause_out _ _ _))
      exact (flag_congr (countPause_regs _ _ _) _ _ _).trans hs
    · exact (sendOut_cnt before _ _ _ _ _ (by decide +kernel) _ _).trans (pauses e8)
    · exact (sendOut_cnt before _ _ _ _ _ (by decide +kernel) _ _).trans (classes e8)
    · exact ((((Sofar.start h [.leaf, .out] [] [Cnt.off .LEAF_TX_PAUSE_CNT p.val, Cnt.off .LEAF_TX_PFC_CNT p.val c]).beforePause
        (by decide) (by simp) (by simp) l).emit (by decide) _).lineSend (by decide) (by decide) _ _ _).only
  case repeated =>
    exact ⟨_, exec_pauseRepeatTimer hc h8 he hn ho, congrArg PortSt.pauseOut (portOf_setPort h.leaf.ports p.val _),
      ((Sofar.start h [.leaf] [] []).setPort p.val _ (List.mem_singleton.mpr rfl)).only⟩
  case trips =>
    have faulted := sound_wdFault p.val (c.val % 8) h
    obtain rfl : cs = keyClasses c.val := hcs
    refine ⟨_, exec_pauseWatchdog he hl hn hp hw, ?_, fun i hi => ⟨wdTrip_paused faulted _ hi _, wdTrip_holdoff faulted _ hi _⟩,
      congrArg HostSt.recq (wdTrip_host _ _ _ _), ?_⟩
    · exact (wdTrip_cnt faulted _ _ _ _ (by decide +kernel) _ _).trans (cnt_count h.cnts _ _ _ _)
    · exact ((((Sofar.start h [.leaf, .host, .hlt] [Reg.off .LEAF_PAUSE_STATUS p.val] _).wdFault (by decide) (by decide)
        (List.mem_singleton.mpr rfl)).setPort p.val _ (by decide)).showPause (by decide) (List.mem_singleton.mpr rfl)).only
  case holdoff =>
    have run : exec (.pauseWdHoldoffEnd p c) s = .next (showPause p.val (setPort p.val
        { portOf s p.val with holdoff := SMap.keep (portOf s p.val).holdoff (· != c.val) } s)) := by
      show execPauseWdHoldoffEnd p c s = _
      unfold execPauseWdHoldoffEnd
      dsimp only
      rw [he]
      exact congrArg Host.Outcome.next (if_pos hn)
    obtain ⟨st, port⟩ := showPause_setPort h p.val { portOf s p.val with holdoff := SMap.keep (portOf s p.val).holdoff (· != c.val) }
    refine ⟨_, run, (congrArg (fun x : PortSt => SMap.get? x.holdoff c.val) port).trans
      (get?_keep_out (p := (· != c.val)) (bne_self_eq_false c.val)), ?_⟩
    exact (((Sofar.start h [.leaf] [Reg.off .LEAF_PAUSE_STATUS p.val] []).setPort p.val _ (List.mem_singleton.mpr rfl)).showPause
      (List.mem_singleton.mpr rfl) (List.mem_singleton.mpr rfl)).only
end

section
/-!
SUPPORT. The frames of a leaf port: reception (R43, R44), the start of a transmission (R167, R173) and its completion (R61).
-/
namespace Sys2Proof.Machine

/-! ### Reception (R43, R44) -/

/-- A port on which the codewords of a frame bring no report, with none left in its window. -/
def fecQuiet (p : Nat) (s : State) : State := setPort p { portOf s p with uncorr := [] } s

theorem fecReport_nil {s : State} {p : Nat} (h : (portOf s p).uncorr = []) (cur : Option RxFrame) :
    fecReport p cur [] s = fecQuiet p s := by
  unfold fecReport
  extract_lets t n x u v
  have none : u = [] := by
    have window : x.uncorr = [] := h
    subst u
    rw [window]
    rfl
  have few : ¬ (decide (64 < u.length) && portUp v p) = true := by
    rw [none]
    exact Bool.false_ne_true
  rw [if_neg few]
  subst v
  rw [none]
  rfl

/-- The state in which a frame that the receive buffer has taken is looked at. -/
def takenIn (p : Nat) (s : State) : State := (clearRx p (fecQuiet p s)).led tIn3 (p / 16)

theorem sound_takenIn (p : Nat) {s : State} (h : s.Sound) : (takenIn p s).Sound :=
  sound_State_led _ _ _ _ (sound_clearRx _ _ (sound_setPort _ _ _ h))

/-- A whole frame that begins and ends in this core clock and finds room: its check decides what becomes of it. -/
theorem exec_leafRxFrame {s : State} {p : Fin 256} {f : RxFrame} (h : s.Sound) (hf : forwards s) (hd : s.pwr.dusk = none)
    (hu : portUp s p.val = true) (hn : (portOf s p.val).uncorr = []) (hx : (portOf s p.val).rx = none) (hm : f.more = false)
    (hr : rxFull s p.val = false) (hc : (isMacControl f.data && (macCheck s p.val f).isNone) = false) :
    exec (.leafRxFrame p f []) s = .next (match macCheck s p.val f with
      | some c => badFrame p.val c f (takenIn p.val s)
      | none => goodFrame p.val f (takenIn p.val s)) := by
  have up : ¬ (!portUp (fecQuiet p.val s) p.val) = true := by
    rw [show portUp (fecQuiet p.val s) p.val = true from hu]
    exact Bool.false_ne_true
  have began : (portOf (fecQuiet p.val s) p.val).rx = none :=
    (congrArg PortSt.rx (portOf_setPort h.leaf.ports p.val _)).trans hx
  have other : ¬ (isMacControl f.data && (macCheck (clearRx p.val (fecQuiet p.val s)) p.val f).isNone) = true :=
    Bool.eq_false_iff.mp hc
  have room : ¬ rxFull (clearRx p.val (fecQuiet p.val s)) p.val = true :=
    Bool.eq_false_iff.mp (rxFull_setPort p.val rfl (rxFull_setPort p.val (x := { portOf s p.val with uncorr := [] }) hx hr))
  refine congrArg Host.Outcome.next ((admitting_runs hf hd _).trans ?_)
  rw [fecReport_nil hn, receive, if_neg up, if_neg (Bool.eq_false_iff.mp hm)]
  refine (if_neg other).trans ?_
  rw [began]
  exact if_neg room

/-- What follows the counts of a good frame. -/
def goodTouch : Touch := ⟨7249152, 0x4680800e00000008000000000000000000000000000000, 0xc3551be74000020200000000018000000100407fffdc0000000⟩

/-- A good frame is counted with its bytes, once. -/
theorem goodFrame_counts {s : State} (h : s.Sound) (p : Nat) (f : RxFrame) :
    (goodFrame p f s).cnt .LEAF_RX_FRAME_CNT p = s.cnt .LEAF_RX_FRAME_CNT p + 1#64
      ∧ (goodFrame p f s).cnt .LEAF_RX_BYTE_CNT p = s.cnt .LEAF_RX_BYTE_CNT p + BitVec.ofNat 64 f.data.length := by
  have counted := sound_State_count s .LEAF_RX_FRAME_CNT p 0 1 h
  have both := sound_State_count _ .LEAF_RX_BYTE_CNT p 0 f.data.length counted
  have kept : Kept goodTouch ((s.count .LEAF_RX_FRAME_CNT p).count .LEAF_RX_BYTE_CNT p 0 f.data.length) (goodFrame p f s) :=
    kept_ingressFrame (by decide +kernel) _ _ (kept_sampleFrame (by decide +kernel) _ _ _ (.refl _ _))
  have good := sound_goodFrame p f s h
  constructor
  · refine (kept.cnt both good (by decide +kernel) p 0).trans ?_
    exact (cnt_count_apart counted.cnts (by decide +kernel) p 0 f.data.length p 0).trans (cnt_count h.cnts _ _ _ _)
  · refine (kept.cnt both good (by decide +kernel) p 0).trans ((cnt_count counted.cnts _ _ _ _).trans ?_)
    exact congrArg (· + _) (cnt_count_apart h.cnts (by decide +kernel) p 0 1 p 0)

/-! ### The start of a transmission (R167, R173) -/

/-- What happens to a port before a frame that starts shows on it. -/
def startTouch : Touch := ⟨2496512, 0x680000000000000000000001040000000000000000000, 0x500400000000000000000006000000008006402c00000000⟩

/-- The refreshes of the shapers leave the port, its line and its size limit. -/
theorem refreshPort_leaves {s : State} (h : s.Sound) (p : Nat) : portOf (refreshPort p s) p = portOf s p
    ∧ portUp (refreshPort p s) p = portUp s p ∧ lineFree (refreshPort p s) p = lineFree s p := by
  have kept := kept_refreshPort (le_same _) p s (.refl _ _)
  have fresh := sound_refreshPort p s h
  have port : portOf (refreshPort p s) p = portOf s p := portOf_congr (kept.leaf (by decide)) p
  have mode (i : Nat) : (refreshPort p s).fld .LEAF_GROUP_STATUS_MODE_ACTIVE i = s.fld .LEAF_GROUP_STATUS_MODE_ACTIVE i :=
    kept.fld (f := .LEAF_GROUP_STATUS_MODE_ACTIVE) h fresh (by decide +kernel) i 0
  have rate (i : Nat) : (refreshPort p s).flag .LEAF_GROUP_STATUS_RATE_ACTIVE i = s.flag .LEAF_GROUP_STATUS_RATE_ACTIVE i :=
    kept.flag (f := .LEAF_GROUP_STATUS_RATE_ACTIVE) h fresh (by decide +kernel) i 0
  refine ⟨port, kept.flag (f := .LEAF_PORT_STATUS_LINK_UP) h fresh (by decide +kernel) p 0, ?_⟩
  unfold lineFree blockAt portRate portWidth fastLanes
  rw [port, kept.now (by decide), mode, rate]

theorem portTxStart_picks {s : State} {p c round : Nat} {d : SMap Nat} {u : QUnit} {t : State} (h : s.Sound)
    (hu : portUp s p = true) (hx : (portOf s p).tx = none) (ho : (portOf s p).pauseOut = []) (hl : lineFree s p = true)
    (ha : (shaperOf (refreshPort p s) p).allows true = true) (hp : pickClass (refreshPort p s) p = some (c, round, d))
    (hh : headUnit (refreshPort p s) p c = some u) (hk : startLookup (p / 16) (refreshPort p s) = (true, t)) :
    portTxStart p none s = startFrame p c round u (keepChoice p c round d t) := by
  obtain ⟨port, up, line⟩ := refreshPort_leaves h p
  have idle : ¬ ((portOf (refreshPort p s) p).tx.isSome || !portUp (refreshPort p s) p || !lineFree (refreshPort p s) p
      || !(portOf (refreshPort p s) p).pauseOut.isEmpty || !(shaperOf (refreshPort p s) p).allows true) = true := by
    rw [port, up, line, hx, hu, hl, ho, ha]
    exact Bool.false_ne_true
  unfold portTxStart
  dsimp only
  rw [if_neg idle, hp]
  dsimp only
  rw [hh]
  dsimp only
  rw [hk]

/-- The state in which a frame is chosen (R167). -/
theorem keepChoice_kept {s : State} {p c round : Nat} {d : SMap Nat} {t : State} (h : s.Sound)
    (hk : startLookup (p / 16) (refreshPort p s) = (true, t)) :
    (keepChoice p c round d t).Sound ∧ Kept startTouch s (keepChoice p c round d t) := by
  have fresh := sound_refreshPort p s h
  have looked : t.Sound := holds_eq (P := State.Sound) (congrArg Prod.snd hk) (of_snd (sound_startLookup (p / 16) _ fresh))
  have kept : Kept startTouch s t := holds_eq (P := Kept startTouch s) (congrArg Prod.snd hk)
    (of_snd (kept_startLookup (by decide +kernel) (p / 16) _ (kept_refreshPort (by decide +kernel) p s (.refl _ _))))
  exact ⟨sound_keepChoice _ _ _ _ _ looked, kept_keepChoice (by decide +kernel) _ _ _ _ _ kept⟩

/-- A frame that passes the edit and fits shows on the port from now on. -/
theorem startFrame_shows {s0 s : State} (h0 : s0.Sound) (h : s.Sound) (hk : Kept startTouch s0 s) {p : Nat} {u : QUnit} {x : EditFrame}
    (hd : (egress s p u).dropRule = false) (hx : (egress s p u).res = .ok x)
    (hm : u.closed = true → (egress s p u).data.length ≤ s0.fld .LEAF_PORT_CFG_MAX_FRAME p) (c round : Nat) :
    ∃ y, (portOf (startFrame p c round u s) p).tx = some y ∧ y.cls = c ∧ y.start = s0.now ∧ y.ts = s0.ts64
      ∧ y.data = if u.closed then some (egress s p u).data else none := by
  unfold startFrame
  extract_lets q e s1 me s2 s3 k
  have k1 : Kept startTouch s0 s1 := ite_holds (P := Kept startTouch s0) hk
    (kept_editCounts (by decide +kernel) _ _ _ (kept_ruleParity (by decide +kernel) _ _ _ hk))
  have w1 : s1.Sound := ite_holds (P := State.Sound) h (sound_editCounts _ _ _ (sound_ruleParity _ _ _ h))
  clear_value s1
  have fits : ¬ (u.closed && decide (s1.fld .LEAF_PORT_CFG_MAX_FRAME p < e.data.length)) = true := by
    rw [Bool.and_eq_true, decide_eq_true_eq, k1.fld (f := .LEAF_PORT_CFG_MAX_FRAME) h0 w1 (by decide +kernel) p 0]
    exact fun hc => absurd (hm hc.1) (Nat.not_le.mpr hc.2)
  rw [if_neg (Bool.eq_false_iff.mp hd)]
  split
  · next loc hb => exact absurd (hb.symm.trans hx) (by simp)
  rw [if_neg fits]
  have k2 : Kept startTouch s0 s2 := kept_State_countIf (by decide) _ _ _ _ _ (kept_State_countIf (by decide) _ _ _ _ _ k1
    (hasC_of ixC_TM_ECN_MARK_CNT (by decide) (le_same _))) (hasC_of ixC_TM_ECN_NOT_ECT_CNT (by decide) (le_same _))
  have k3 : Kept startTouch s0 s3 := kept_learnSky (by decide +kernel) _ _ _ _ k2
  have w3 : s3.Sound := sound_learnSky _ _ _ _ (sound_State_countIf _ _ _ _ _ (sound_State_countIf _ _ _ _ _ w1))
  clear_value s3
  split
  rename_i copy s4 copied
  have k4 : Kept startTouch s0 s4 := holds_eq (P := Kept startTouch s0) (congrArg Prod.snd copied)
    (of_snd (kept_egressCopy (by decide +kernel) p u e s3 k3))
  have w4 : s4.Sound := holds_eq (P := State.Sound) (congrArg Prod.snd copied) (of_snd (sound_egressCopy p u e s3 w3))
  extract_lets x5 s5 s6 qu
  have started : Steady s5 (setQueue k { qu with units := updUnit me (fun v => some { v with started := true }) qu.units } s6) := by
    have w5 : s5.Sound := sound_setPort _ _ _ w4
    exact (ite_holds (P := Steady s5) ((Steady.refl w5).chargeFrame _ _ _ _) (.refl w5)).setQueue _ _
  obtain ⟨-, -, tx, -⟩ := PortSt.core_eq (started.core p)
  refine ⟨_, tx.trans (congrArg PortSt.tx (portOf_setPort w4.leaf.ports p _)), rfl, k4.now (by decide), ?_, rfl⟩
  unfold State.ts64
  rw [k4.time (by decide)]

/-! ### A whole frame has left (R61) -/

/-- What follows once the frame is on the line. -/
def afterSent (p : Nat) (t : TxSt) (u : QUnit) (s : State) : State :=
  let s := s.led tOut4 (p / 16)
  let s := match u.tag.tx with
    | some (r, id) => if u.tag.txTs then unitDone r id 0 t.ts true s else s
    | none => s
  let q := queueOf s (leafQ p t.cls)
  txOver p (releaseUnit u (setQueue (leafQ p t.cls) { q with units := updUnit (fun v => v.started) (fun _ => none) q.units } s))

/-- The counts, charges and flow counts of a frame that has left whole. -/
def paidFor (p : Nat) (t : TxSt) (d : List Byte) (s : State) : State :=
  flowCount { counter := t.dec.counter } d.length
    (payFrame p d.length t ((s.count .LEAF_TX_FRAME_CNT p).count .LEAF_TX_BYTE_CNT p 0 d.length))

theorem txWhole_uncopied {p : Nat} {t : TxSt} (hc : t.copy = none) (u : QUnit) (d : List Byte) (s : State) :
    txWhole p t u d s = afterSent p t u (sendOut p t.start d true (paidFor p t d s)) := by
  unfold txWhole
  rw [hc]
  rfl

/-- What may change once the frame is on the line. -/
def afterTouch : Touch := ⟨3414016, 0x800000000004000000002000000580000000000080, 0x4000000000000000000000024000400000000000000⟩

theorem afterSent_leaves {s : State} (h : s.Sound) (p : Nat) (t : TxSt) (u : QUnit) :
    (afterSent p t u s).Sound ∧ Kept afterTouch s (afterSent p t u s) ∧ (portOf (afterSent p t u s) p).tx = none := by
  unfold afterSent
  extract_lets s1 s2 q
  have k1 : Kept afterTouch s s1 := kept_State_led (by decide) _ _ _ _ (.refl _ _)
  have w1 : s1.Sound := sound_State_led _ _ _ _ h
  have k2 : Kept afterTouch s s2 := by
    subst s2
    split
    · exact ite_holds (P := Kept afterTouch s) (kept_unitDone (by decide +kernel) _ _ _ _ _ _ k1) k1
    · exact k1
  have w2 : s2.Sound := by
    subst s2
    split
    · exact ite_holds (P := State.Sound) (sound_unitDone _ _ _ _ _ _ w1) w1
    · exact w1
  clear_value s2
  have w3 := sound_releaseUnit u _ (sound_setQueue (leafQ p t.cls)
    { q with units := updUnit (fun v => v.started) (fun _ => none) q.units } s2 w2)
  refine ⟨sound_txOver _ _ w3, kept_txOver (by decide +kernel) _ _ (kept_releaseUnit (by decide +kernel) _ _
    (kept_setQueue (by decide +kernel) _ _ _ k2)), ?_⟩
  obtain ⟨-, -, tx, -⟩ := PortSt.core_eq (((Steady.refl (sound_setPort p { portOf _ p with tx := none } _ w3)).applyPend p).core p)
  exact tx.trans (congrArg PortSt.tx (portOf_setPort w3.leaf.ports p _))

/-- What the charge of a frame may change. -/
def payTouch : Touch := ⟨2392320, 0x1040000000000000000000, 0x0⟩

/-- What a whole frame that leaves uncopied does: it is counted with its bytes, it is out, and the port transmits nothing. -/
theorem txWhole_leaves {s : State} (h : s.Sound) {p : Nat} {t : TxSt} (hc : t.copy = none) (u : QUnit) (d : List Byte) :
    (txWhole p t u d s).cnt .LEAF_TX_FRAME_CNT p = s.cnt .LEAF_TX_FRAME_CNT p + 1#64
      ∧ (txWhole p t u d s).cnt .LEAF_TX_BYTE_CNT p = s.cnt .LEAF_TX_BYTE_CNT p + BitVec.ofNat 64 d.length
      ∧ OutEv.frame p d true ∈ (txWhole p t u d s).out ∧ (portOf (txWhole p t u d s) p).tx = none := by
  have counted := sound_State_count s .LEAF_TX_FRAME_CNT p 0 1 h
  have both := sound_State_count _ .LEAF_TX_BYTE_CNT p 0 d.length counted
  have paid : Kept payTouch ((s.count .LEAF_TX_FRAME_CNT p).count .LEAF_TX_BYTE_CNT p 0 d.length) (paidFor p t d s) :=
    kept_flowCount (by decide +kernel) _ _ _ (kept_payFrame (by decide +kernel) _ _ _ _ (.refl _ _))
  have w : (paidFor p t d s).Sound := sound_flowCount { counter := t.dec.counter } d.length _ (sound_payFrame p d.length t _ both)
  have sent := sound_sendOut p t.start d true _ w
  obtain ⟨after, kept, tx⟩ := afterSent_leaves sent p t u
  have counts (c : Cnt) (hf : freeC afterTouch c = true) (hs : freeC ⟨262400, 0, 0⟩ c = true) (hp : freeC payTouch c = true) :
      (afterSent p t u (sendOut p t.start d true (paidFor p t d s))).cnt c p
        = ((s.count .LEAF_TX_FRAME_CNT p).count .LEAF_TX_BYTE_CNT p 0 d.length).cnt c p :=
    (kept.cnt sent after hf p 0).trans ((sendOut_cnt w p t.start d true c hs p 0).trans (paid.cnt both w hp p 0))
  rw [txWhole_uncopied hc]
  refine ⟨(counts _ (by decide +kernel) (by decide +kernel) (by decide +kernel)).trans ?_,
    (counts _ (by decide +kernel) (by decide +kernel) (by decide +kernel)).trans ?_, ?_, tx⟩
  · exact (cnt_count_apart counted.cnts (by decide +kernel) p 0 d.length p 0).trans (cnt_count h.cnts _ _ _ _)
  · refine (cnt_count counted.cnts _ _ _ _).trans (congrArg (· + _) ?_)
    exact cnt_count_apart h.cnts (by decide +kernel) p 0 1 p 0
  · rw [kept.out (by decide)]
    exact lineSend_out List.mem_cons_self _ _ _

theorem leafTxComplete_whole {s : State} {p : Nat} {x : TxSt} {u : QUnit} {d : List Byte} (hx : (portOf s p).tx = some x)
    (hd : x.data = some d) (hu : (queueOf s (leafQ p x.cls)).units.find? (fun v => v.started) = some u) (hc : u.closed = true)
    (ha : u.aborted = false) : leafTxComplete p none s = txWhole p x u d s := by
  unfold leafTxComplete
  rw [hx]
  dsimp only
  rw [hu]
  simp only [badIn, Option.bind_none, hd, Option.isNone_some, Bool.false_and, Bool.false_eq_true, if_false, ha, hc, Bool.not_true,
    Option.getD_some]

end Sys2Proof.Machine
end

section
open Sys2Proof Sys2Proof.Machine

/-- Settles O16: the frame that arrives (`goodFrame_counts`, `badFrame_counts`), the one that starts (`startFrame_shows`) and the one
that has left (`txWhole_leaves`). -/
theorem leafFrames : Obligations.LeafFrames := by
  unfold Obligations.LeafFrames
  refine ⟨fun s p f h hf hd hu hn hx hm hr => ⟨fun hc hk => ?good, fun c hk => ?bad⟩,
    fun s s0 s1 s2 p c round d u x h hf hu hx ho hl h0 ha hp hh hk h2 hd hr hm => ?starts, fun s p x u d h hx hd hc hu hw ha => ?left⟩
  case good =>
    have run := exec_leafRxFrame h hf hd hu hn hx hm hr (by rw [hc]; rfl)
    rw [hk] at run
    exact ⟨_, run, goodFrame_counts (sound_takenIn p.val h) p.val f⟩
  case bad =>
    have run := exec_leafRxFrame h hf hd hu hn hx hm hr (by rw [hk]; exact Bool.and_false _)
    rw [hk] at run
    exact ⟨_, run, badFrame_counts (sound_takenIn p.val h) p.val c f⟩
  case starts =>
    subst h0 h2
    obtain ⟨chosen, kept⟩ := keepChoice_kept (c := c) (round := round) (d := d) h hk
    refine ⟨_, congrArg Host.Outcome.next ((if_neg (Bool.eq_false_iff.mp hf)).trans
      (portTxStart_picks h hu hx ho hl ha hp hh hk)), ?_⟩
    exact startFrame_shows h chosen kept hd hr hm c round
  case left =>
    exact ⟨_, congrArg Host.Outcome.next (leafTxComplete_whole hx hd hu hw ha), txWhole_leaves h hc u d⟩
end

section
/-!
SUPPORT. The write engine of the table-write rings (R90, R92, R310): an operation that has its turn is made and its completion is
held; one that has not waits; one whose arguments are out of range changes nothing.
-/
namespace Sys2Proof.Machine

/-! ### The completion of an operation -/

theorem mem_units_of_ringHead {s : State} {r : Nat} {u : RUnit} {ds : List (List Byte)} (h : ringHead s r = some (u, ds)) :
    u ∈ (ringOf s r).units := by
  obtain ⟨v, hv, e⟩ := List.exists_of_findSome?_eq_some h
  split at e
  · cases e
    exact hv
  · cases e

@[simp] theorem showHeld_host (r : Nat) (s : State) : (showHeld r s).host = s.host :=
  ite_holds (P := fun t : State => t.host = s.host) rfl rfl

theorem units_setUnits {s : State} (h : s.Sound) (r : Nat) (l : List RUnit) : (ringOf (setUnits r l s) r).units = l := by
  rw [setUnits, ringOf_congr (showHeld_host r _), ringOf_setRing h]

/-- A completion that is not to be discarded is held by its unit (R310). -/
theorem done_mem_finish {s : State} (h : s.Sound) {r : Nat} {u : RUnit} (hu : u ∈ (ringOf s r).units)
    (hk : ∀ v ∈ (ringOf s r).units, v.lost = false) (c : Cpl) :
    { u with st := .done c } ∈ (ringOf (finish r u.id c s) r).units := by
  unfold finish
  extract_lets t us
  have units : us = (ringOf s r).units := congrArg RingSt.units (ringOf_congr (countIf_host ..) r)
  have held : ¬ us.any (fun v => v.id == u.id && v.lost) = true := by
    rw [units, List.any_eq_true]
    rintro ⟨v, hv, e⟩
    rw [hk v hv, Bool.and_false] at e
    cases e
  rw [if_neg held, units_setUnits (sound_State_countIf _ _ _ _ _ h), units]
  exact List.mem_map.mpr ⟨u, hu, if_pos rfl⟩

/-- What the completion of an operation may write: the host area, HELD and two counters. -/
def finishTouch : Touch :=
  ⟨2048, 0x800000000000000000000000000000000000000000, 0x4000000000000000000000000000400000000000000⟩

/-! ### An operation at the head of its ring -/

section
variable {s : State} {r : Fin 32} {op : Nat} {u : RUnit} {ds : List (List Byte)} {f : List (List Byte) → State → OpEnd}

/-- An operation that has its turn is made, and completes. -/
theorem tblOp_runs (h : atHead s r op u ds) : tblOp r op f s = finish (128 + r.val) u.id
    { status := (f ds s).status, cookie := u.cookie, first := u.first, w1 := (f ds s).result, nent := u.nent } (f ds s).st := by
  unfold tblOp
  rw [h.head]
  exact if_pos (by rw [h.op, h.turn, decide_eq_true rfl]; rfl)

/-- An operation that has not its turn waits (R76, R90). -/
theorem tblOp_waits (hu : ringHead s (128 + r.val) = some (u, ds)) (ht : hasTurn s r.val u ds = false) : tblOp r op f s = s := by
  unfold tblOp
  rw [hu]
  exact if_neg (by rw [ht, Bool.and_false]; exact Bool.false_ne_true)

/-- A command that has the engine make an operation: the completion is held, with the STATUS and RESULT of the operation, and
nothing else has changed since the operation was made. -/
theorem completes_tblOp {c : Instr} {P : State → Prop} (h : atHead s r op u ds) (run : exec c s = .next (tblOp r op f s))
    (sound : (f ds s).st.Sound) (host : (f ds s).st.host = s.host)
    (shows : ∀ t, t.Sound → Kept finishTouch (f ds s).st t → P t) :
    completes c s fun t => ended t r u (f ds s).status (f ds s).result ∧ P t := by
  have units := congrArg RingSt.units (ringOf_congr host (128 + r.val))
  refine ⟨_, run.trans (congrArg Host.Outcome.next (tblOp_runs h)), ⟨_, done_mem_finish sound ?_ ?_ _, rfl, rfl⟩,
    shows _ (sound_finish _ _ _ _ sound) (kept_finish (le_same _) _ _ _ _ (.refl _ _))⟩
  · exact units ▸ mem_units_of_ringHead h.head
  · exact units ▸ h.kept

/-- An operation with an argument out of its range ends with TBL_BAD_ARG and changes no table and no rule (R92, R327). -/
theorem completes_badArg {c : Instr} {ok : List (List Byte) → Bool} {g : List (List Byte) → State → OpEnd}
    (h : atHead s r op u ds) (run : exec c s = .next (tblOp r op (fun ds => argOk (ok ds) (g ds)) s)) (hb : ok ds = false) :
    completes c s fun t => ended t r u 0x22 0 ∧ t.cls = s.cls ∧ t.tbl = s.tbl := by
  have refused : argOk (ok ds) (g ds) s = ⟨0x22, 0, s⟩ := if_neg (by rw [hb]; exact Bool.false_ne_true)
  have k := completes_tblOp (f := fun ds => argOk (ok ds) (g ds)) (P := fun t => t.cls = s.cls ∧ t.tbl = s.tbl) h run
  rw [refused] at k
  exact k h.sound rfl fun t _ hk => ⟨hk.cls (by decide), hk.tbl (by decide)⟩

end

/-! ### Rule parts (R73, R75) -/

/-- An operation on an entry of the rule store. -/
def ruleOp (g : List (List Byte) → State → State) (ds : List (List Byte)) : State → OpEnd :=
  argOk (decide (indexOf ds < numRules)) fun s => ⟨0, 0, g ds s⟩

/-- What RULE_KEY, RULE_MASK and RULE_ACTION put into the staging slot. -/
def keyPart (ds : List (List Byte)) (g : Staging) : Staging :=
  { g with key := some (keyBits ds, bits (payW ds 10) 3 0, (payW ds 10).testBit 4) }
def maskPart (ds : List (List Byte)) (g : Staging) : Staging := { g with mask := some (keyBits ds, bits (payW ds 10) 3 0) }
def actionPart (ds : List (List Byte)) (g : Staging) : Staging :=
  { g with action := some (BitVec.ofNat 128 (payW ds 0 * 2 ^ 64 + payW ds 1)) }

/-- A part goes to the slot of ring r. -/
def partOp (r : Fin 32) (part : List (List Byte) → Staging → Staging) (ds : List (List Byte)) : State → State :=
  stagePart r.val (indexOf ds) (part ds)

/-- A commit or an invalidation by ring r. -/
def validOp (r : Fin 32) (ds : List (List Byte)) : State → State := ruleWrite r.val (indexOf ds) ((payW ds 0).testBit 0)

theorem exec_ruleKey (r : Fin 32) (s : State) : exec (.ruleKey r) s = .next (tblOp r 0x10 (ruleOp (partOp r keyPart)) s) := rfl
theorem exec_ruleMask (r : Fin 32) (s : State) : exec (.ruleMask r) s = .next (tblOp r 0x11 (ruleOp (partOp r maskPart)) s) := rfl
theorem exec_ruleAction (r : Fin 32) (s : State) :
    exec (.ruleAction r) s = .next (tblOp r 0x12 (ruleOp (partOp r actionPart)) s) := rfl
theorem exec_ruleValid (r : Fin 32) (s : State) : exec (.ruleValid r) s = .next (tblOp r 0x13 (ruleOp (validOp r)) s) := rfl

theorem stagingOf_index (s : State) (r i : Nat) : (stagingOf s r i).index = i := by
  unfold stagingOf
  split
  · split
    · assumption
    · rfl
  · rfl

/-- The slot holds parts for the entry. -/
theorem stagingOf_same {s : State} {r i : Nat} {g : Staging} (hg : SMap.get? s.cls.staging r = some g) (hi : g.index = i) :
    stagingOf s r i = g := by
  rw [stagingOf, hg]
  exact if_pos hi

/-- The slot holds parts for another entry. -/
theorem stagingOf_other {s : State} {r i : Nat} {g : Staging} (hg : SMap.get? s.cls.staging r = some g) (hi : g.index ≠ i) :
    stagingOf s r i = { index := i } := by
  rw [stagingOf, hg]
  exact if_neg hi

@[simp] theorem stageDiscard_cls (r i : Nat) (s : State) : (stageDiscard r i s).cls = s.cls :=
  (kept_stageDiscard (le_same _) r i s (.refl _ _)).cls (by decide)

/-- Parts of another entry are discarded, and the discard is counted (R75). -/
theorem stageDiscard_other {s : State} {r i : Nat} {g : Staging} (hg : SMap.get? s.cls.staging r = some g) (hi : g.index ≠ i) :
    stageDiscard r i s = s.count .PARSE_STAGE_DISCARD_CNT := by
  rw [stageDiscard, hg]
  exact if_pos (bne_iff_ne.mpr hi)

theorem stagePart_cls (r i : Nat) (f : Staging → Staging) (s : State) :
    (stagePart r i f s).cls = { s.cls with staging := SMap.insert s.cls.staging r (f (stagingOf s r i)) } := by
  rw [← stageDiscard_cls r i s]
  rfl

theorem stagePart_cnts (r i : Nat) (f : Staging → Staging) (s : State) :
    (stagePart r i f s).cnts = (stageDiscard r i s).cnts := rfl

section
variable {s : State} {r : Fin 32} {op : Nat} {u : RUnit} {ds : List (List Byte)} {c : Instr}

/-- An operation on an entry of the rule store. -/
theorem completes_ruleOp {g : List (List Byte) → State → State} {P : State → Prop} (h : atHead s r op u ds)
    (run : exec c s = .next (tblOp r op (ruleOp g) s)) (hi : indexOf ds < 98304) (sound : (g ds s).Sound)
    (host : (g ds s).host = s.host) (shows : ∀ t, t.Sound → Kept finishTouch (g ds s) t → P t) :
    completes c s fun t => ended t r u 0 0 ∧ P t := by
  have made : ruleOp g ds s = ⟨0, 0, g ds s⟩ := if_pos (decide_eq_true hi)
  have k := completes_tblOp (P := P) h run
  rw [made] at k
  exact k sound host shows

/-- An entry outside the rule store ends the operation with TBL_BAD_ARG (R327). -/
theorem completes_ruleOp_outside {g : List (List Byte) → State → State} (h : atHead s r op u ds)
    (run : exec c s = .next (tblOp r op (ruleOp g) s)) (hi : 98304 ≤ indexOf ds) :
    completes c s fun t => ended t r u 0x22 0 ∧ t.cls = s.cls := by
  obtain ⟨t, e, he, hc, -⟩ := completes_badArg h run (decide_eq_false (Nat.not_lt.mpr hi))
  exact ⟨t, e, he, hc⟩

/-- A part goes into the slot of its ring, beside those of its entry: no entry changes, and what is discarded is counted. -/
theorem completes_stages {part : List (List Byte) → Staging → Staging} (h : atHead s r op u ds)
    (run : exec c s = .next (tblOp r op (ruleOp (partOp r part)) s)) (hi : indexOf ds < 98304) :
    completes c s fun t => ended t r u 0 0 ∧ t.cls.rules = s.cls.rules
      ∧ SMap.get? t.cls.staging r.val = some (part ds (stagingOf s r.val (indexOf ds)))
      ∧ t.cnt .PARSE_STAGE_DISCARD_CNT = (stageDiscard r.val (indexOf ds) s).cnt .PARSE_STAGE_DISCARD_CNT := by
  have sound : (partOp r part ds s).Sound := sound_stagePart _ _ _ _ h.sound
  refine completes_ruleOp h run hi sound ((kept_stagePart (le_same _) _ _ _ _ (.refl _ _)).host (by decide)) fun t ht hk => ?_
  have cls : t.cls = _ := (hk.cls (by decide)).trans (stagePart_cls _ _ _ _)
  rw [cls]
  exact ⟨rfl, SMap.get?_insert_self _ _ _,
    (hk.cnt sound ht (by decide +kernel) _ _).trans (cnt_congr (stagePart_cnts _ _ _ _) _ _ _)⟩

/-- A part is staged beside the parts already staged for its entry (R73). -/
theorem completes_stages_beside {part : List (List Byte) → Staging → Staging} (h : atHead s r op u ds)
    (run : exec c s = .next (tblOp r op (ruleOp (partOp r part)) s)) (hi : indexOf ds < 98304)
    (keeps : ∀ g, (part ds g).index = g.index) :
    completes c s fun t => ended t r u 0 0 ∧ t.cls.rules = s.cls.rules
      ∧ stagingOf t r.val (indexOf ds) = part ds (stagingOf s r.val (indexOf ds)) := by
  obtain ⟨t, e, he, hr, hg, -⟩ := completes_stages h run hi
  exact ⟨t, e, he, hr, stagingOf_same hg ((keeps _).trans (stagingOf_index _ _ _))⟩

/-- A part for another entry than the slot's is staged alone, and the discard is counted once (R75). -/
theorem completes_stages_alone {part : List (List Byte) → Staging → Staging} {g : Staging} (h : atHead s r op u ds)
    (run : exec c s = .next (tblOp r op (ruleOp (partOp r part)) s)) (hi : indexOf ds < 98304)
    (hg : SMap.get? s.cls.staging r.val = some g) (hn : g.index ≠ indexOf ds) :
    completes c s fun t => ended t r u 0 0 ∧ t.cls.rules = s.cls.rules
      ∧ SMap.get? t.cls.staging r.val = some (part ds { index := indexOf ds })
      ∧ t.cnt .PARSE_STAGE_DISCARD_CNT = s.cnt .PARSE_STAGE_DISCARD_CNT + 1#64 := by
  have k := completes_stages h run hi
  rw [stagingOf_other hg hn, stageDiscard_other hg hn, cnt_count h.sound.cnts] at k
  exact k

end

/-! ### Commits and invalidations (R73) -/

/-- What RULE_VALID makes of an entry, by its VALID bit. -/
def writtenRule (valid : Bool) (old : Rule) (g : Staging) : Rule :=
  if valid then commitRule old g else { old with valid := false, badCtl := false }

/-- The parts that RULE_VALID takes from the slot: an invalidation takes none. -/
def takenParts (valid : Bool) (g : Staging) : Staging := if valid then g else { index := g.index }

/-- Each part that is taken replaces the stored one, with good parity, and no other does; the control part is written in either
case. -/
theorem writtenRule_eq (valid : Bool) (old : Rule) (g : Staging) : writtenRule valid old g =
    { key := ((takenParts valid g).key.map (·.1)).getD old.key, profile := ((takenParts valid g).key.map (·.2.1)).getD old.profile
      egress := ((takenParts valid g).key.map (·.2.2)).getD old.egress
      badKey := (takenParts valid g).key.isNone && old.badKey
      mask := ((takenParts valid g).mask.map (·.1)).getD old.mask, pmask := ((takenParts valid g).mask.map (·.2)).getD old.pmask
      badMask := (takenParts valid g).mask.isNone && old.badMask
      action := (takenParts valid g).action.getD old.action, badAct := (takenParts valid g).action.isNone && old.badAct
      valid := valid, badCtl := false } := by
  cases valid with
  | false => rfl
  | true =>
    obtain ⟨i, key, mask, action⟩ := g
    rcases key with _ | ⟨k, p, e⟩ <;> rcases mask with _ | ⟨m, q⟩ <;> rcases action with _ | a <;> rfl

/-- A part that is not staged, or that an invalidation leaves in the slot, is not taken. -/
theorem takenParts_none {α : Type} {valid : Bool} {g : Staging} (part : Staging → Option α)
    (empty : part { index := g.index } = none) (h : valid = false ∨ part g = none) : part (takenParts valid g) = none := by
  cases valid with
  | false => exact empty
  | true => exact h.resolve_left Bool.noConfusion

section
variable (old : Rule) {g : Staging}

theorem writtenRule_key {k : BitVec 640} {p : Nat} {e : Bool} (hg : g.key = some (k, p, e)) :
    (writtenRule true old g).key = k ∧ (writtenRule true old g).profile = p ∧ (writtenRule true old g).egress = e
      ∧ (writtenRule true old g).badKey = false := by
  rw [writtenRule_eq, takenParts, if_pos rfl, hg]
  exact ⟨rfl, rfl, rfl, rfl⟩

theorem writtenRule_mask {m : BitVec 640} {p : Nat} (hg : g.mask = some (m, p)) :
    (writtenRule true old g).mask = m ∧ (writtenRule true old g).pmask = p ∧ (writtenRule true old g).badMask = false := by
  rw [writtenRule_eq, takenParts, if_pos rfl, hg]
  exact ⟨rfl, rfl, rfl⟩

theorem writtenRule_action {a : BitVec 128} (hg : g.action = some a) :
    (writtenRule true old g).action = a ∧ (writtenRule true old g).badAct = false := by
  rw [writtenRule_eq, takenParts, if_pos rfl, hg]
  exact ⟨rfl, rfl⟩

theorem writtenRule_key_stays {valid : Bool} (h : valid = false ∨ g.key = none) :
    (writtenRule valid old g).key = old.key ∧ (writtenRule valid old g).badKey = old.badKey := by
  rw [writtenRule_eq, takenParts_none Staging.key rfl h]
  exact ⟨rfl, Bool.true_and _⟩

theorem writtenRule_mask_stays {valid : Bool} (h : valid = false ∨ g.mask = none) :
    (writtenRule valid old g).mask = old.mask ∧ (writtenRule valid old g).badMask = old.badMask := by
  rw [writtenRule_eq, takenParts_none Staging.mask rfl h]
  exact ⟨rfl, Bool.true_and _⟩

theorem writtenRule_action_stays {valid : Bool} (h : valid = false ∨ g.action = none) :
    (writtenRule valid old g).action = old.action ∧ (writtenRule valid old g).badAct = old.badAct := by
  rw [writtenRule_eq, takenParts_none Staging.action rfl h]
  exact ⟨rfl, Bool.true_and _⟩

end

@[simp] theorem unstage_rules (r i : Nat) (s : State) : (unstage r i s).cls.rules = s.cls.rules := by
  unfold unstage
  split
  · exact ite_holds (P := fun t : State => t.cls.rules = s.cls.rules) rfl rfl
  · rfl

/-- The slot holds nothing for the entry afterwards. -/
theorem unstage_index_ne {s : State} (h : s.Sound) {r i : Nat} {g : Staging}
    (hg : SMap.get? (unstage r i s).cls.staging r = some g) : g.index ≠ i := by
  unfold unstage at hg
  split at hg
  · next x hx =>
    split at hg
    · cases (SMap.get?_erase_self h.cls.staging).symm.trans hg
    · next hn =>
      cases hx.symm.trans hg
      exact hn
  · next hx => cases hx.symm.trans hg

section
variable {s : State} (h : s.Sound) (r i : Nat) (valid : Bool)
include h

theorem ruleWrite_self : SMap.getD (ruleWrite r i valid s).cls.rules i {}
    = writtenRule valid (SMap.getD s.cls.rules i {}) (stagingOf s r i) := by
  rw [ruleWrite, unstage_rules]
  exact SMap.getD_put_self h.cls.rules _ _ _

theorem ruleWrite_other {j : Nat} (hj : j ≠ i) :
    SMap.getD (ruleWrite r i valid s).cls.rules j {} = SMap.getD s.cls.rules j {} := by
  rw [ruleWrite, unstage_rules]
  exact SMap.getD_put_ne h.cls.rules hj _ _ _

theorem ruleWrite_unstages {g : Staging} (hg : SMap.get? (ruleWrite r i valid s).cls.staging r = some g) : g.index ≠ i := by
  refine unstage_index_ne ?_ hg
  exact State.sound_mk h.regs h.shadow h.cnts h.tot h.hold h.pairs h.ctl h.host h.hlt h.nvm
    (ClsSt.sound_mk (SMap.sorted_put h.cls.rules _ _ _) h.cls.staging h.cls.edits h.cls.tmpls h.cls.flows)
    h.time h.tbl h.leaf h.xbar h.buf h.tm h.sky

end

/-- RULE_VALID replaces its entry, leaves the others alone, and discards the staging of the entry. -/
theorem completes_ruleValid {s : State} {r : Fin 32} {u : RUnit} {ds : List (List Byte)} (h : atHead s r 0x13 u ds)
    (hi : indexOf ds < 98304) : completes (.ruleValid r) s fun t => ended t r u 0 0
      ∧ (∀ j, j ≠ indexOf ds → SMap.getD t.cls.rules j {} = SMap.getD s.cls.rules j {})
      ∧ (∀ g, SMap.get? t.cls.staging r.val = some g → g.index ≠ indexOf ds)
      ∧ SMap.getD t.cls.rules (indexOf ds) {} = writtenRule ((payW ds 0).testBit 0) (SMap.getD s.cls.rules (indexOf ds) {})
          (stagingOf s r.val (indexOf ds)) := by
  refine completes_ruleOp h (exec_ruleValid r s) hi (sound_ruleWrite _ _ _ _ h.sound)
    ((kept_ruleWrite (le_same _) _ _ _ _ (.refl _ _)).host (by decide)) fun t _ hk => ?_
  rw [hk.cls (by decide)]
  exact ⟨fun j hj => ruleWrite_other h.sound _ _ _ hj, fun g hg => ruleWrite_unstages h.sound _ _ _ hg,
    ruleWrite_self h.sound _ _ _⟩

end Sys2Proof.Machine
end

section
/-!
The obligations of the rule store: staging, discards and commits.
-/
open Sys2Proof Sys2Proof.Machine

/-- Settles O17: the three parts are staged alike (`completes_stages_beside`), and the four operations refuse an index outside the
store alike (`completes_ruleOp_outside`). -/
theorem ruleStaging : Obligations.RuleStaging := by
  unfold Obligations.RuleStaging
  refine ⟨fun s r u ds h hi => ?key, fun s r u ds h hi => ?mask, fun s r u ds h hi => ?action,
    fun s r u ds hi => ⟨fun h => ?keyOutside, fun h => ?maskOutside, fun h => ?actionOutside, fun h => ?validOutside⟩⟩
  case key => exact completes_stages_beside h (exec_ruleKey r s) hi fun _ => rfl
  case mask => exact completes_stages_beside h (exec_ruleMask r s) hi fun _ => rfl
  case action => exact completes_stages_beside h (exec_ruleAction r s) hi fun _ => rfl
  case keyOutside => exact completes_ruleOp_outside h (exec_ruleKey r s) hi
  case maskOutside => exact completes_ruleOp_outside h (exec_ruleMask r s) hi
  case actionOutside => exact completes_ruleOp_outside h (exec_ruleAction r s) hi
  case validOutside => exact completes_ruleOp_outside h (exec_ruleValid r s) hi

/-- Settles O18: each part is staged alone (`completes_stages_alone`). -/
theorem stagedPartsDiscarded : Obligations.StagedPartsDiscarded := by
  unfold Obligations.StagedPartsDiscarded
  refine fun s r u ds g hi hg hn => ⟨fun h => ?key, fun h => ?mask, fun h => ?action⟩
  case key => exact completes_stages_alone h (exec_ruleKey r s) hi hg hn
  case mask => exact completes_stages_alone h (exec_ruleMask r s) hi hg hn
  case action => exact completes_stages_alone h (exec_ruleAction r s) hi hg hn

/-- Settles O19: `tblOp_waits` without the turn; otherwise the entry is the `writtenRule` of the VALID bit and the staged parts. -/
theorem ruleCommit : Obligations.RuleCommit := by
  unfold Obligations.RuleCommit
  refine ⟨fun s r u ds hu ht => ?waits, fun s r u ds h hi => ?commits⟩
  case waits => exact congrArg Host.Outcome.next (tblOp_waits hu ht)
  case commits =>
    obtain ⟨t, run, hend, others, unstaged, written⟩ := completes_ruleValid h hi
    refine ⟨t, run, hend, others, unstaged, ?_⟩
    rw [written]
    generalize (payW ds 0).testBit 0 = valid
    refine ⟨congrArg Rule.valid (writtenRule_eq _ _ _), congrArg Rule.badCtl (writtenRule_eq _ _ _), ?_, ?_, ?_,
      writtenRule_key_stays _, writtenRule_mask_stays _, writtenRule_action_stays _⟩
    · rintro rfl k p e hg
      exact writtenRule_key _ hg
    · rintro rfl m p hg
      exact writtenRule_mask _ hg
    · rintro rfl x hg
      exact writtenRule_action _ hg
end

section
/-!
SUPPORT. Table clears (R113): a START that arrives, and a clear that is done.
-/
namespace Sys2Proof.Machine

/-- The tables beside registers and counters. -/
theorem Sofar.setTbl {s0 s : State} {aa : List Area} {oo cc : List Nat} (h : Sofar s0 s aa oo cc) (ht : Area.tbl ∈ aa)
    (x : TblSt) : Sofar s0 { s with tbl := x } aa oo cc := by
  refine h.areas rfl rfl rfl fun a ha => ?_
  cases a with
  | tbl => exact absurd ht ha
  | _ => trivial

/-- The write of START. -/
def clearStart (a : Agent) : RegWrite := write32 a .TBL_CLEAR_CTRL 0x80000000

theorem clearStart_there (s : State) (a : Agent) : fusedOff s (clearStart a).off = false :=
  fusedOff_write32 (by decide +kernel) (by decide) (by decide) (by decide) s a _

/-- A START, with the link trained. -/
theorem exec_tblClearStart {s : State} (h : s.Sound) (hl : linked s) (a : Agent) :
    ∃ s', Sends s s' ∧ exec (.tblClearStart a) s = .next (clearCtrl (clearStart a) s') :=
  ⟨_, (Sends.refl h).send 0 0 1 0,
    congrArg Host.Outcome.next (far_linked (op := clearCtrl (clearStart a)) hl (clearStart_there s a))⟩

/-- The clear of n slots from slot b runs. -/
def clearRuns (b n : Nat) (s : State) : State :=
  ({ s with tbl := { s.tbl with clearing := some (b, n) } }).setFld .TBL_CLEAR_CTRL_BUSY 1

/-- A clear that runs shows BUSY and names its slots; nothing else has changed. -/
theorem clearRuns_shows {s : State} (h : s.Sound) (b n : Nat) :
    (clearRuns b n s).tbl.clearing = some (b, n) ∧ (clearRuns b n s).flag .TBL_CLEAR_CTRL_BUSY = true
      ∧ (clearRuns b n s).tbl.slots = s.tbl.slots ∧ s.Only (clearRuns b n s) [.tbl, .ctl] [Reg.off .TBL_CLEAR_CTRL] [] := by
  refine ⟨rfl, ?_, rfl, ?_⟩
  · exact flag_setFld (s := { s with tbl := { s.tbl with clearing := some (b, n) } }) h.regs (by decide) (by decide) 1 0 0
  · exact (((Sofar.start h _ _ _).setTbl List.mem_cons_self _).setFld .TBL_CLEAR_CTRL_BUSY 1 0 0 (List.mem_singleton.mpr rfl)).only

/-- What START does: it is logged, refused, or taken. -/
theorem clearCtrl_start (a : Agent) (s : State) : clearCtrl (clearStart a) s =
    if s.flag .TBL_CLEAR_CTRL_BUSY then logWrite 4 (clearStart a) s
    else if clearRefused s (s.fld .TBL_CLEAR_BASE_SLOT) (s.fld .TBL_CLEAR_COUNT_COUNT) then s.setFld .TBL_CLEAR_CTRL_ERR 1
    else clearRuns (s.fld .TBL_CLEAR_BASE_SLOT) (s.fld .TBL_CLEAR_COUNT_COUNT) s := by
  have start : Fld.TBL_CLEAR_CTRL_START.get (clearStart a).val = 1 := by
    simp [clearStart, write32, Fld.get, bits, Fld.TBL_CLEAR_CTRL_START]
  have err : Fld.TBL_CLEAR_CTRL_ERR.get (clearStart a).val ≠ 1 := by
    simp [clearStart, write32, Fld.get, bits, Fld.TBL_CLEAR_CTRL_ERR]
  rw [clearCtrl, if_neg err, if_pos start]
  rfl

theorem Sends.clearRefused {s s' : State} (h : Sends s s') (b n : Nat) : clearRefused s' b n = clearRefused s b n := by
  obtain ⟨-, m, rfl⟩ := h
  rfl

theorem Sends.tbl {s s' : State} (h : Sends s s') : s'.tbl = s.tbl := by
  obtain ⟨-, m, rfl⟩ := h
  rfl

/-- Slot i lies outside the n slots from slot b. -/
def outside (b n i : Nat) : Bool := !(decide (b ≤ i) && decide (i < b + n))

theorem outside_eq_false {b n i : Nat} (h : b ≤ i) (h' : i < b + n) : outside b n i = false := by
  rw [outside, decide_eq_true h, decide_eq_true h']
  rfl

theorem outside_eq_true {b n i : Nat} (h : i < b ∨ b + n ≤ i) : outside b n i = true := by
  rw [outside, Bool.not_eq_true', Bool.and_eq_false_iff, decide_eq_false_iff_not, decide_eq_false_iff_not]
  omega

/-- The tables after the clear of n slots from slot b. -/
def clearedTbl (b n : Nat) (x : TblSt) : TblSt :=
  { x with clearing := none, slots := SMap.keep x.slots (outside b n)
           filters := SMap.keep x.filters fun k => outside b n (filterSlot k) }

theorem clearDone_of_clearing {s : State} {b n : Nat} (hc : s.tbl.clearing = some (b, n)) :
    clearDone s = ({ s with tbl := clearedTbl b n s.tbl }).setFld .TBL_CLEAR_CTRL_BUSY 0 := by
  rw [clearDone, hc]
  rfl

end Sys2Proof.Machine
end

section
open Sys2Proof Sys2Proof.Machine

/-- Settles O25: the three outcomes of START (`clearCtrl_start`) after the transfers of the write; the end keeps what lies outside
the range (`clearedTbl`). -/
theorem tableClear : Obligations.TableClear := by
  unfold Obligations.TableClear
  refine ⟨fun s a h hl hb => ⟨fun hr => ?taken, fun hr => ?refused⟩, fun s a h hl hb => ?logged, fun s b n h hc => ?done⟩
  case done =>
    refine ⟨_, congrArg Host.Outcome.next (clearDone_of_clearing hc), fun i hi hn => ?_, fun i hi => ?_, fun k hk hn => ?_, rfl,
      ?_, ?_⟩
    · exact Option.isNone_iff_eq_none.mpr (get?_keep_out (p := outside b n) (outside_eq_false hi hn))
    · exact get?_keep_in h.tbl.slots (outside_eq_true hi)
    · exact get?_keep_out (p := fun k => outside b n (filterSlot k)) (outside_eq_false hk hn)
    · exact flag_setFld (s := { s with tbl := clearedTbl b n s.tbl }) h.regs (by decide) (by decide) 0 0 0
    · exact (((Sofar.start h _ _ _).setTbl (List.mem_singleton.mpr rfl) _).setFld .TBL_CLEAR_CTRL_BUSY 0 0 0
        (List.mem_singleton.mpr rfl)).only
  all_goals
    obtain ⟨s', hs, run⟩ := exec_tblClearStart h hl a
    rw [clearCtrl_start, hs.flag, hb] at run
  case logged =>
    obtain ⟨⟨counts, -, -, -⟩, frame⟩ := hs.logged (f := ⟨4, a, 2, 0, Reg.off .TBL_CLEAR_CTRL⟩)
      (AccFault.fits_mk (by decide) (by decide) (by decide) (by decide))
    exact ⟨_, run, frame.area .tbl (by decide), counts⟩
  all_goals rw [if_neg Bool.false_ne_true, hs.clearRefused, fld_congr hs.regs, fld_congr hs.regs, hr] at run
  case refused =>
    exact ⟨_, run, flag_setFld (f := .TBL_CLEAR_CTRL_ERR) hs.sound.regs (by decide) (by decide) 1 0 0, hs.only
      ((Sofar.start hs.sound _ _ _).setFld .TBL_CLEAR_CTRL_ERR 1 0 0 (List.mem_singleton.mpr rfl)).only (by decide)⟩
  case taken =>
    obtain ⟨named, busy, slots, frame⟩ := clearRuns_shows hs.sound (s.fld .TBL_CLEAR_BASE_SLOT) (s.fld .TBL_CLEAR_COUNT_COUNT)
    exact ⟨_, run, named, busy, slots.trans (congrArg TblSt.slots hs.tbl), hs.only frame (by decide)⟩
end

section
/-!
SUPPORT. Table operations whose parity reports go to the fault log (R92, R103): the rings of the engine stay as they are, and
the completion leaves the tables and the counters that the operation made.
-/
namespace Sys2Proof.Machine

/-! ### Parity reports and the rings -/

theorem offer_rings (l : List NRec) (s : State) : (offer l s).host.rings = s.host.rings := by
  unfold offer
  refine foldl_holds (P := fun t : State => t.host.rings = s.host.rings) (fun t n ht => ?_) rfl
  exact ite_holds (P := fun t : State => t.host.rings = s.host.rings) ht ht

theorem memRecord_rings (u loc k inst : Nat) (s : State) : (memRecord u loc k inst s).host.rings = s.host.rings :=
  ite_holds (P := fun t : State => t.host.rings = s.host.rings) rfl (offer_rings _ _)

theorem memReport_rings (u loc k inst : Nat) (uncorr : Bool) (s : State) :
    (memReport u loc k inst uncorr s).host.rings = s.host.rings := by
  have event : (winEvent k inst s).1.host = s.host := (of_fst (kept_winEvent (le_same _) k inst s (.refl _ _))).host (by decide)
  have report : (excuse u (memRecord u loc k inst (winEvent k inst s).1)).host.rings = s.host.rings := by
    rw [(kept_excuse (le_same _) u _ (.refl _ _)).host (by decide), memRecord_rings, event]
  exact ite_holds (P := fun t : State => t.host.rings = s.host.rings) report (congrArg HostSt.rings event)

theorem slotParity_rings (l : List Nat) (s : State) : (slotParity l s).host.rings = s.host.rings :=
  foldl_holds (P := fun t : State => t.host.rings = s.host.rings) (fun _ _ ht => (memReport_rings ..).trans ht) rfl

theorem slotParity_tbl (l : List Nat) (s : State) : (slotParity l s).tbl = s.tbl :=
  (kept_slotParity (le_same _) l s (.refl _ _)).tbl (by decide)

theorem slotParity_cnt {s : State} (h : s.Sound) (l : List Nat) {c : Cnt}
    (hc : freeC ⟨6144, 0x680000000000000000000000000000000000000000000, 0x500000000000000000000000000000000002000000000000⟩ c
      = true) : (slotParity l s).cnt c = s.cnt c :=
  (kept_slotParity (le_same _) l s (.refl _ _)).cnt h (sound_slotParity l s h) hc 0 0

/-! ### What a completion leaves -/

theorem finish_tbl (r id : Nat) (c : Cpl) (s : State) : (finish r id c s).tbl = s.tbl :=
  (kept_finish (le_same _) r id c s (.refl _ _)).tbl (by decide)

@[simp] theorem setUnits_cnts (r : Nat) (l : List RUnit) (s : State) : (setUnits r l s).cnts = s.cnts :=
  ite_holds (P := fun t : State => t.cnts = s.cnts) rfl rfl

/-- The codes of R336 that count as errors of table writes (R92). -/
def errorStatus (n : Nat) : Bool := decide (0x20 ≤ n) && decide (n ≤ 0x23)

/-- A completion with one of these codes counts (R92). -/
theorem finish_writeErr {s : State} (h : s.Sound) (r id : Nat) (c : Cpl) : (finish r id c s).cnt .TBL_WRITE_ERR_CNT
    = (s.countIf (errorStatus c.status) .TBL_WRITE_ERR_CNT).cnt .TBL_WRITE_ERR_CNT := by
  unfold finish
  extract_lets t us
  have ht : (setUnits r (us.filter fun u => u.id != id) t).cnts.sorted = true := by
    rw [setUnits_cnts]
    exact (sound_State_countIf _ _ _ _ _ h).cnts
  refine ite_holds (P := fun x : State => x.cnt .TBL_WRITE_ERR_CNT = t.cnt .TBL_WRITE_ERR_CNT) ?_ ?_
  · exact (cnt_count_apart ht (by decide) r 0 1 0 0).trans (cnt_congr (setUnits_cnts ..) _ _ _)
  · exact cnt_congr (setUnits_cnts ..) _ _ _

/-- The completion of an operation leaves its tables and its counters, but for the count of operations that end in error. -/
structure Finished (e : OpEnd) (t : State) : Prop where
  tbl : t.tbl = e.st.tbl
  cnt : ∀ c, freeC finishTouch c = true → t.cnt c = e.st.cnt c
  err : t.cnt .TBL_WRITE_ERR_CNT
    = (e.st.countIf (errorStatus e.status) .TBL_WRITE_ERR_CNT).cnt .TBL_WRITE_ERR_CNT

/-- An operation that ends in error is counted. -/
theorem Finished.counts_error {e : OpEnd} {t : State} (h : Finished e t) (hs : e.st.Sound)
    (hx : errorStatus e.status = true) :
    t.cnt .TBL_WRITE_ERR_CNT = e.st.cnt .TBL_WRITE_ERR_CNT + 1#64 := by
  rw [h.err, hx]
  exact cnt_count hs.cnts .TBL_WRITE_ERR_CNT 0 0 1

section
variable {s : State} {r : Fin 32} {op : Nat} {u : RUnit} {ds : List (List Byte)} {c : Instr}

/-- A command that has the engine make an operation which leaves the rings alone. -/
theorem completes_finished {f : List (List Byte) → State → OpEnd} {e : OpEnd} (h : atHead s r op u ds)
    (run : exec c s = .next (tblOp r op f s)) (made : f ds s = e) (sound : e.st.Sound)
    (rings : e.st.host.rings = s.host.rings) : completes c s fun t => ended t r u e.status e.result ∧ Finished e t := by
  subst made
  have units : (ringOf (f ds s).st (128 + r.val)).units = (ringOf s (128 + r.val)).units := by rw [ringOf, rings, ringOf]
  refine ⟨_, run.trans (congrArg Host.Outcome.next (tblOp_runs h)), ⟨_, done_mem_finish sound ?_ ?_ _, rfl, rfl⟩, finish_tbl ..,
    fun q hq => ?_, finish_writeErr sound ..⟩
  · exact units ▸ mem_units_of_ringHead h.head
  · exact units ▸ h.kept
  · exact (kept_finish (le_same _) _ _ _ _ (.refl _ _)).cnt sound (sound_finish _ _ _ _ sound) hq 0 0

end
end Sys2Proof.Machine
end

section
/-!
SUPPORT. Inserts into the hashed tables and deletes from them (R88, R91, R92): what a lookup finds in the slots afterwards.
-/
namespace Sys2Proof.Machine

/-! ### Slots that are free -/

theorem slotFree_iff {m : SMap Slot} {i : Nat} : slotFree m i = true ↔ SMap.get? m i = none := Option.isNone_iff_eq_none

theorem erase_of_get?_none {α : Type} {m : SMap α} {q : Nat} (h : SMap.get? m q = none) : SMap.erase m q = m := by
  induction m with
  | nil => rfl
  | cons e m ih =>
    obtain ⟨k, v⟩ := e
    unfold SMap.get? at h
    unfold SMap.erase
    split at h
    · cases h
    · next hk =>
      rw [if_neg hk]
      split at h
      · next hl => rw [if_pos hl]
      · next hl => rw [if_neg hl, ih h]

theorem clearEnt_free {m : SMap Slot} {i : Nat} (h : slotFree m i = true) : clearEnt m i = m := by
  rw [slotFree_iff] at h
  rw [clearEnt, otherSlot, h]
  exact erase_of_get?_none h

theorem entAt_free {m : SMap Slot} {i : Nat} (h : slotFree m i = true) : entAt m i = none := by
  rw [entAt, slotFree_iff.mp h]

theorem size_one_or_two (k : TKey) : k.size = 1 ∨ k.size = 2 := by
  cases k with
  | mac => exact .inl rfl
  | host _ v6 _ => exact ite_holds (P := fun n => n = 1 ∨ n = 2) (.inr rfl) (.inl rfl)
  | lpm _ v6 _ len => exact ite_holds (P := fun n => n = 1 ∨ n = 2) (.inr rfl) (.inl rfl)

/-- The slots of a cleared entry apart, all slots are as before. -/
theorem get?_clearEnt_ne {m : SMap Slot} (hm : m.sorted = true) {i j : Nat} (hj : j ≠ i) (ho : otherSlot m i ≠ some j) :
    SMap.get? (clearEnt m i) j = SMap.get? m j := by
  unfold clearEnt
  split
  · next k hk =>
    have hk' : j ≠ k := fun e => ho (e ▸ hk)
    split
    · exact (SMap.get?_erase_ne hk' (SMap.sorted_erase hm i)).trans (SMap.get?_erase_ne hj hm)
    · exact SMap.get?_erase_ne hj hm
  · exact SMap.get?_erase_ne hj hm

/-! ### Lookups -/

/-- The entry of a slot is read from the slot, and from the one that it names. -/
theorem entAt_congr {m m' : SMap Slot} {j : Nat} (h : SMap.get? m' j = SMap.get? m j)
    (other : ∀ k, SMap.get? m' k = some ⟨none, false, some j⟩ ↔ SMap.get? m k = some ⟨none, false, some j⟩) :
    entAt m' j = entAt m j := by
  ext x
  simp only [entAt_some, h, other]

theorem findSlot_some {m : SMap Slot} {l : List Nat} {k : TKey} {i : Nat} {e : Ent} (h : findSlot m l k = some (i, e)) :
    i ∈ l ∧ entAt m i = some e ∧ e.key = k := by
  obtain ⟨j, hj, hx⟩ := List.exists_of_findSome?_eq_some h
  split at hx
  · next x he =>
    split at hx
    · next hk =>
      cases hx
      exact ⟨hj, he, hk⟩
    · cases hx
  · cases hx

theorem findSlot_cons_hit {m : SMap Slot} {a : Nat} {l : List Nat} {k : TKey} {e : Ent} (he : entAt m a = some e)
    (hk : e.key = k) : findSlot m (a :: l) k = some (a, e) := by
  simp only [findSlot, List.findSome?_cons, he, if_pos hk]

theorem findSlot_cons_miss {m : SMap Slot} {a : Nat} {l : List Nat} {k : TKey} (h : ∀ e, entAt m a = some e → e.key ≠ k) :
    findSlot m (a :: l) k = findSlot m l k := by
  rcases he : entAt m a with _ | e
  · simp only [findSlot, List.findSome?_cons, he]
  · simp only [findSlot, List.findSome?_cons, he, if_neg (h e he)]

/-- An entry that is put where its key stood, or where it stood nowhere, is found. -/
theorem findSlot_put {m m' : SMap Slot} {l : List Nat} {k : TKey} {i : Nat} {e : Ent} (hi : i ∈ l) (he : entAt m' i = some e)
    (hk : e.key = k) (same : ∀ j, j ≠ i → entAt m' j = entAt m j) (first : ∀ j x, findSlot m l k = some (j, x) → j = i) :
    findSlot m' l k = some (i, e) := by
  induction l with
  | nil => cases hi
  | cons a l ih =>
    by_cases ha : a = i
    · subst ha
      exact findSlot_cons_hit he hk
    · have miss : ∀ x, entAt m a = some x → x.key ≠ k := fun x hx hxk => ha (first a x (findSlot_cons_hit hx hxk))
      rw [findSlot_cons_miss miss] at first
      rw [findSlot_cons_miss (by rwa [same a ha])]
      exact ih ((List.mem_cons.mp hi).resolve_left (Ne.symm ha)) first

/-! ### An entry is replaced -/

theorem entAt_replaceEnt_ne {m : SMap Slot} {i j : Nat} {e : Ent} (h : entAt m i = some e) (hm : m.sorted = true) (hj : j ≠ i)
    (x : Ent) : entAt (replaceEnt m i x) j = entAt m j := by
  refine entAt_congr (get?_replaceEnt_ne hj hm x) fun k => ?_
  by_cases hk : k = i
  · subst hk
    rw [get?_of_entAt h, replaceEnt, SMap.get?_insert_self]
    constructor <;> nofun
  · rw [get?_replaceEnt_ne hk hm x]

/-! ### An entry is placed in free slots (R91) -/

theorem placeAt_one {m : SMap Slot} {i : Nat} (l : List Nat) {e : Ent} (hi : slotFree m i = true) (hs : e.key.size = 1) :
    placeAt m (i :: l) e = SMap.insert m i ⟨some e, false, none⟩ := by
  cases l with
  | nil => rw [placeAt, clearEnt_free hi]
  | cons j l => rw [placeAt, if_neg (by rw [hs]; decide), clearEnt_free hi]

theorem placeAt_two {m : SMap Slot} {i j : Nat} (l : List Nat) {e : Ent} (hi : slotFree m i = true) (hj : slotFree m j = true)
    (hs : e.key.size = 2) : placeAt m (i :: j :: l) e
      = SMap.insert (SMap.insert m i ⟨some e, false, some j⟩) j ⟨none, false, some i⟩ := by
  rw [placeAt, if_pos hs, clearEnt_free hi, clearEnt_free hj]

/-- In m', slot i and as many more of the slots l as the entry takes hold it; they were free in m, and nothing else has
changed. -/
structure Placed (m m' : SMap Slot) (l : List Nat) (i : Nat) (e : Ent) : Prop where
  free : slotFree m i = true
  entry : entAt m' i = some e
  one : e.key.size = 1 → otherSlot m' i = none
  two : e.key.size = 2 → ∃ j ∈ l, j ≠ i ∧ slotFree m j = true ∧ otherSlot m' i = some j
  slots : ∀ j, j ≠ i → otherSlot m' i ≠ some j → SMap.get? m' j = SMap.get? m j
  others : ∀ j, j ≠ i → entAt m' j = entAt m j

section
variable {m : SMap Slot} (hm : m.sorted = true) {i j : Nat} {l : List Nat} {e : Ent}
include hm

theorem placed_one (hi : slotFree m i = true) (hs : e.key.size = 1) : Placed m (placeAt m (i :: l) e) (i :: l) i e := by
  have self : SMap.get? (placeAt m (i :: l) e) i = some ⟨some e, false, none⟩ := by
    rw [placeAt_one l hi hs]
    exact SMap.get?_insert_self _ _ _
  have rest : ∀ k, k ≠ i → SMap.get? (placeAt m (i :: l) e) k = SMap.get? m k := by
    rw [placeAt_one l hi hs]
    exact fun k hk => SMap.get?_insert_ne hk hm _
  refine ⟨hi, entAt_some.mpr (.inl self), fun _ => by rw [otherSlot, self], fun h2 => ?_, fun k hk _ => rest k hk, fun k hk => ?_⟩
  · rw [hs] at h2
    cases h2
  · refine entAt_congr (rest k hk) fun q => ?_
    by_cases hq : q = i
    · subst hq
      rw [self, slotFree_iff.mp hi]
      constructor <;> nofun
    · rw [rest q hq]

theorem placed_two (hi : slotFree m i = true) (hj : slotFree m j = true) (hij : j ≠ i) (hs : e.key.size = 2) :
    Placed m (placeAt m (i :: j :: l) e) (i :: j :: l) i e := by
  have hm' := SMap.sorted_insert hm i ⟨some e, false, some j⟩
  have first : SMap.get? (placeAt m (i :: j :: l) e) i = some ⟨some e, false, some j⟩ := by
    rw [placeAt_two l hi hj hs]
    exact (SMap.get?_insert_ne hij.symm hm' _).trans (SMap.get?_insert_self _ _ _)
  have second : SMap.get? (placeAt m (i :: j :: l) e) j = some ⟨none, false, some i⟩ := by
    rw [placeAt_two l hi hj hs]
    exact SMap.get?_insert_self _ _ _
  have rest : ∀ k, k ≠ i → k ≠ j → SMap.get? (placeAt m (i :: j :: l) e) k = SMap.get? m k := by
    rw [placeAt_two l hi hj hs]
    exact fun k hk hk' => (SMap.get?_insert_ne hk' hm' _).trans (SMap.get?_insert_ne hk hm _)
  have other : otherSlot (placeAt m (i :: j :: l) e) i = some j := by rw [otherSlot, first]
  refine ⟨hi, entAt_some.mpr (.inr ⟨j, first, second⟩), fun h1 => ?_, fun _ => ⟨j, by simp, hij, hj, other⟩,
    fun k hk ho => rest k hk fun e => ho (e ▸ other), fun k hk => ?_⟩
  · rw [hs] at h1
    cases h1
  · by_cases hkj : k = j
    · subst hkj
      rw [entAt_free hj, entAt, second]
    · refine entAt_congr (rest k hk hkj) fun q => ?_
      by_cases hqi : q = i
      · subst hqi
        rw [first, slotFree_iff.mp hi]
        constructor <;> nofun
      · by_cases hqj : q = j
        · subst hqj
          rw [second, slotFree_iff.mp hj]
          refine ⟨fun h => ?_, nofun⟩
          cases h
          exact absurd rfl hk
        · rw [rest q hqi hqj]

/-- Enough free slots take an entry. -/
theorem placed_of_free (hl : ∀ k ∈ l, slotFree m k = true) (hd : l.Nodup) (hn : e.key.size ≤ l.length) :
    ∃ i rest, l = i :: rest ∧ Placed m (placeAt m l e) l i e := by
  rcases size_one_or_two e.key with hs | hs <;> rw [hs] at hn
  · match l, hn with
    | i :: rest, _ => exact ⟨i, rest, rfl, placed_one hm (hl i List.mem_cons_self) hs⟩
  · match l, hn with
    | i :: j :: rest, _ =>
      have hij : j ≠ i := fun e => (List.nodup_cons.mp hd).1 (e ▸ List.mem_cons_self)
      exact ⟨i, j :: rest, rfl, placed_two hm (hl i List.mem_cons_self) (hl j (by simp)) hij hs⟩

end

/-! ### The slots of a key -/

theorem bucketSlots_nodup (r : Region) (b : Nat) : (bucketSlots r b).Nodup :=
  List.Nodup.map (fun _ _ h => Nat.add_left_cancel h) List.nodup_range

theorem mem_keySlots {r : Region} {k : TKey} {i : Nat} :
    i ∈ keySlots r k ↔ i ∈ bucketSlots r (buckets r k).1 ∨ i ∈ bucketSlots r (buckets r k).2 := by
  unfold keySlots
  dsimp only
  split
  · next h => rw [← h, or_self]
  · exact List.mem_append

/-- The free slots of the bucket that has more of them, of the first where both have as many (R91). -/
def lessOccupied (f1 f2 : List Nat) : List Nat := if f1.length < f2.length then f2 else f1

/-- Without a slot that fails its parity an entry goes into free slots of the less occupied bucket (R91). -/
theorem openSlots_free {m : SMap Slot} {l1 l2 : List Nat} {n : Nat} (bad1 : ∀ i ∈ l1, slotBad m i = false)
    (bad2 : ∀ i ∈ l2, slotBad m i = false) (hn : n ≤ (l1.filter (slotFree m)).length ∨ n ≤ (l2.filter (slotFree m)).length) :
    ∃ l, (l = l1 ∨ l = l2) ∧ openSlots m l1 l2 n = l.filter (slotFree m) ∧ n ≤ (l.filter (slotFree m)).length := by
  have none1 : l1.filter (slotBad m) = [] := List.filter_eq_nil_iff.mpr fun i hi => by rw [bad1 i hi]; exact Bool.false_ne_true
  have none2 : l2.filter (slotBad m) = [] := List.filter_eq_nil_iff.mpr fun i hi => by rw [bad2 i hi]; exact Bool.false_ne_true
  have chosen : openSlots m l1 l2 n = if n ≤ (lessOccupied (l1.filter (slotFree m)) (l2.filter (slotFree m))).length
      then lessOccupied (l1.filter (slotFree m)) (l2.filter (slotFree m)) else [] := by
    simp only [openSlots, none1, none2, List.isEmpty_nil, if_true]
    rfl
  rw [chosen, lessOccupied]
  split
  · next hlt =>
    have fits : n ≤ (l2.filter (slotFree m)).length := by omega
    exact ⟨l2, .inr rfl, if_pos fits, fits⟩
  · next hlt =>
    have fits : n ≤ (l1.filter (slotFree m)).length := by omega
    exact ⟨l1, .inl rfl, if_pos fits, fits⟩

/-! ### What an insert does (R91) -/

/-- An entry as an insert stores it. -/
def stored (hit : Bool) (e : Ent) : Ent := { e with hit := hit, aged := false }

section
variable {rg : Region} {m : SMap Slot} {e : Ent}

theorem insertEnt_replaces {i : Nat} {old : Ent} (h : findSlot m (keySlots rg e.key) e.key = some (i, old)) :
    insertEnt rg m e = ([], some (replaceEnt m i (stored old.hit e), i, 0)) := by
  rw [insertEnt, h]
  rfl

/-- A key that is there stays in its slot. -/
theorem findSlot_replaces (hm : m.sorted = true) {i : Nat} {old : Ent}
    (h : findSlot m (keySlots rg e.key) e.key = some (i, old)) (hit : Bool) :
    findSlot (replaceEnt m i (stored hit e)) (keySlots rg e.key) e.key = some (i, stored hit e) := by
  obtain ⟨hi, he, -⟩ := findSlot_some h
  refine findSlot_put hi (entAt_replaceEnt he hm _) rfl (fun j hj => entAt_replaceEnt_ne he hm hj _) fun j x hx => ?_
  cases h.symm.trans hx
  rfl

/-- A new key takes free slots of one of its buckets, where they are enough. -/
theorem insertEnt_places (hm : m.sorted = true) (h : findSlot m (keySlots rg e.key) e.key = none)
    (hb : ∀ i ∈ keySlots rg e.key, slotBad m i = false)
    (hn : e.key.size ≤ ((bucketSlots rg (buckets rg e.key).1).filter (slotFree m)).length
      ∨ e.key.size ≤ ((bucketSlots rg (buckets rg e.key).2).filter (slotFree m)).length) :
    ∃ m' i, insertEnt rg m e = ([], some (m', i, 0)) ∧ i ∈ keySlots rg e.key
      ∧ Placed m m' (keySlots rg e.key) i (stored true e) := by
  obtain ⟨l, hl, ho, fits⟩ := openSlots_free (fun i hi => hb i (mem_keySlots.mpr (.inl hi)))
    (fun i hi => hb i (mem_keySlots.mpr (.inr hi))) hn
  have sub : ∀ i ∈ l.filter (slotFree m), i ∈ keySlots rg e.key := fun i hi => by
    have := List.mem_of_mem_filter hi
    rcases hl with rfl | rfl
    · exact mem_keySlots.mpr (.inl this)
    · exact mem_keySlots.mpr (.inr this)
  have distinct : (l.filter (slotFree m)).Nodup := by
    refine List.Nodup.filter _ ?_
    rcases hl with rfl | rfl <;> exact bucketSlots_nodup _ _
  obtain ⟨i, rest, hir, p⟩ := placed_of_free (e := stored true e) hm (fun k hk => List.of_mem_filter hk) distinct fits
  refine ⟨_, i, ?_, sub i (hir ▸ List.mem_cons_self), p.free, p.entry, p.one, fun h2 => ?_, p.slots, p.others⟩
  · rw [insertEnt, h]
    dsimp only
    rw [ho, hir]
    rfl
  · obtain ⟨j, hj, found⟩ := p.two h2
    exact ⟨j, sub j hj, found⟩

/-- A new key is found where it was placed. -/
theorem Placed.found {m' : SMap Slot} {l : List Nat} {i : Nat} (p : Placed m m' l i e) (hi : i ∈ l)
    (h : findSlot m l e.key = none) : findSlot m' l e.key = some (i, e) :=
  findSlot_put hi p.entry rfl p.others fun j x hx => by cases h.symm.trans hx

end

/-! ### The engine's inserts and deletes -/

/-- Slots have been written by an insert after some relocations. -/
def inserted (m : SMap Slot) (moves : Nat) (s : State) : State :=
  (({ s with tbl := { s.tbl with slots := m } }).count .TBL_INSERT_CNT).count .TBL_MOVE_CNT 0 0 moves

/-- The entry in slot i has been deleted. -/
def deleted (i : Nat) (s : State) : State :=
  ({ s with tbl := { s.tbl with slots := clearEnt s.tbl.slots i } }).count .TBL_DELETE_CNT

theorem cnt_inserted {s : State} (h : s.Sound) (m : SMap Slot) (moves : Nat) :
    (inserted m moves s).cnt .TBL_INSERT_CNT = s.cnt .TBL_INSERT_CNT + 1#64 := by
  have hs : (({ s with tbl := { s.tbl with slots := m } } : State).count .TBL_INSERT_CNT).cnts.sorted = true :=
    sorted_count h.cnts _ _ _ _
  exact (cnt_count_apart hs (by decide) 0 0 moves 0 0).trans (cnt_count h.cnts .TBL_INSERT_CNT 0 0 1)

theorem cnt_deleted {s : State} (h : s.Sound) (i : Nat) :
    (deleted i s).cnt .TBL_DELETE_CNT = s.cnt .TBL_DELETE_CNT + 1#64 := cnt_count h.cnts .TBL_DELETE_CNT 0 0 1

section
variable {s : State} {bank : Nat} {rg : Region}

theorem tblInsert_no_region {e : Ent} (h : regionOf s bank e.key = none) : tblInsert bank e s = ⟨0x22, 0, s⟩ := by
  rw [tblInsert, h]

/-- An insert that finds its slots, after the parity reports of the slots that it has read. -/
theorem tblInsert_takes {e : Ent} (h : regionOf s bank e.key = some rg) {b : List Nat} {m : SMap Slot} {i moves : Nat}
    (hi : insertEnt rg s.tbl.slots e = (b, some (m, i, moves))) :
    ∃ l, tblInsert bank e s = ⟨0, i + moves * 2 ^ 32, inserted m moves (slotParity l s)⟩ := by
  unfold tblInsert
  rw [h]
  dsimp only
  rw [hi]
  exact ⟨_, rfl⟩

theorem tblDelete_absent {k : TKey} (h : regionOf s bank k = some rg) (hf : findSlot s.tbl.slots (keySlots rg k) k = none) :
    tblDelete bank k s = ⟨0x21, 0, slotParity (keySlots rg k) s⟩ := by
  unfold tblDelete
  rw [h]
  dsimp only
  rw [slotParity_tbl, hf]

theorem tblDelete_found {k : TKey} (h : regionOf s bank k = some rg) {i : Nat} {old : Ent}
    (hf : findSlot s.tbl.slots (keySlots rg k) k = some (i, old)) :
    tblDelete bank k s = ⟨0, 0, deleted i (slotParity (keySlots rg k) s)⟩ := by
  rw [← slotParity_tbl (keySlots rg k) s] at hf
  unfold tblDelete
  rw [h]
  dsimp only
  rw [hf]
  rfl

end

/-- The candidate cache beside the tables. -/
def withCache (l : List Cand) (s : State) : State := { s with tbl := { s.tbl with cache := l } }

theorem sound_withCache {s : State} (h : s.Sound) (l : List Cand) : (withCache l s).Sound :=
  State.sound_mk h.regs h.shadow h.cnts h.tot h.hold h.pairs h.ctl h.host h.hlt h.nvm h.cls h.time
    (TblSt.sound_mk h.tbl.slots h.tbl.filters h.tbl.nhs h.tbl.groups h.tbl.members h.tbl.lags) h.leaf h.xbar h.buf h.tm h.sky

/-- x is the operation e, and may have changed the candidate cache. -/
def SameButCache (x e : OpEnd) : Prop := ∃ l, x = { e with st := withCache l e.st }

theorem SameButCache.refl (e : OpEnd) : SameButCache e e := ⟨e.st.tbl.cache, rfl⟩
theorem SameButCache.freeing (ds : List (List Byte)) (e : OpEnd) : SameButCache (freeing ds e) e := ⟨_, rfl⟩

theorem tblInsert_rings (bank : Nat) (e : Ent) (s : State) : (tblInsert bank e s).st.host.rings = s.host.rings := by
  unfold tblInsert
  split
  · rfl
  · dsimp only
    split <;> exact slotParity_rings _ _

theorem tblDelete_rings (bank : Nat) (k : TKey) (s : State) : (tblDelete bank k s).st.host.rings = s.host.rings := by
  unfold tblDelete
  split
  · rfl
  · dsimp only
    split <;> exact slotParity_rings _ _

section
variable {s : State} {r : Fin 32} {op : Nat} {u : RUnit} {ds : List (List Byte)} {c : Instr} {bank : Nat}
  {f : List (List Byte) → State → OpEnd}

/-- A command that has the engine make an operation beside the candidate cache. -/
theorem completes_sameButCache {e : OpEnd} (h : atHead s r op u ds) (run : exec c s = .next (tblOp r op f s))
    (made : SameButCache (f ds s) e) (sound : e.st.Sound) (rings : e.st.host.rings = s.host.rings) :
    completes c s fun t => ended t r u e.status e.result ∧ t.tbl.slots = e.st.tbl.slots
      ∧ (∀ q, freeC finishTouch q = true → t.cnt q = e.st.cnt q)
      ∧ (errorStatus e.status = true → t.cnt .TBL_WRITE_ERR_CNT = e.st.cnt .TBL_WRITE_ERR_CNT + 1#64) := by
  obtain ⟨l, made⟩ := made
  have sound' := sound_withCache sound l
  obtain ⟨t, e, he, hf⟩ := completes_finished h run made sound' rings
  have slots := congrArg TblSt.slots hf.tbl
  exact ⟨t, e, he, slots, hf.cnt, hf.counts_error sound'⟩

/-- An operation whose insert finds slots without a relocation writes them and counts. -/
theorem completes_insert_takes {e : Ent} {rg : Region} {b : List Nat} {m : SMap Slot} {i : Nat} (h : atHead s r op u ds)
    (run : exec c s = .next (tblOp r op f s)) (made : SameButCache (f ds s) (tblInsert bank e s))
    (hr : regionOf s bank e.key = some rg) (hi : insertEnt rg s.tbl.slots e = (b, some (m, i, 0))) :
    completes c s fun t => ended t r u 0 i ∧ t.tbl.slots = m ∧ t.cnt .TBL_INSERT_CNT = s.cnt .TBL_INSERT_CNT + 1#64 := by
  obtain ⟨l, hx⟩ := tblInsert_takes hr hi
  obtain ⟨t, run, he, hs, hc, -⟩ :=
    completes_sameButCache h run made (of_end (sound_tblInsert _ _ _ h.sound)) (tblInsert_rings _ _ _)
  rw [hx] at he hs hc
  rw [Nat.zero_mul, Nat.add_zero] at he
  refine ⟨t, run, he, hs, ?_⟩
  rw [hc _ (by decide +kernel), cnt_inserted (sound_slotParity l s h.sound), slotParity_cnt h.sound l (by decide +kernel)]

/-- An operation that inserts an entry does so as R91 says. -/
theorem insertsRight_of_tblOp {e : Ent} (h : atHead s r op u ds) (run : exec c s = .next (tblOp r op f s))
    (made : SameButCache (f ds s) (tblInsert bank e s)) : insertsRight c r s u bank e := by
  intro rg hr
  have hm := h.sound.tbl.slots
  refine ⟨fun i old hf => ?replaces, fun hf hb hn => ?places⟩
  case replaces =>
    obtain ⟨t, x, he, hs, hc⟩ := completes_insert_takes h run made hr (insertEnt_replaces hf)
    refine ⟨t, x, he, ?_, fun j hj => ?_, hc⟩
    · rw [hs]
      exact findSlot_replaces hm hf old.hit
    · rw [hs, get?_replaceEnt_ne hj hm]
  case places =>
    obtain ⟨m, i, hi, mem, p⟩ := insertEnt_places hm hf hb hn
    obtain ⟨t, x, he, hs, hc⟩ := completes_insert_takes h run made hr hi
    subst hs
    exact ⟨t, x, i, mem, p.free, he, p.found mem hf, p.one, p.two, p.slots, hc⟩

/-- An operation that deletes a key does so as R92 says. -/
theorem deletesRight_of_tblOp {k : TKey} (h : atHead s r op u ds) (run : exec c s = .next (tblOp r op f s))
    (made : SameButCache (f ds s) (tblDelete bank k s)) : deletesRight c r s u bank k := by
  intro rg hr
  have hm := h.sound.tbl.slots
  have tbl := slotParity_tbl (keySlots rg k) s
  obtain ⟨t, x, he, hs, hc, herr⟩ :=
    completes_sameButCache h run made (of_end (sound_tblDelete _ _ _ h.sound)) (tblDelete_rings _ _ _)
  refine ⟨fun i old hf => ⟨t, x, ?found⟩, fun hf => ⟨t, x, ?absent⟩⟩
  case found =>
    rw [tblDelete_found hr hf] at he hs hc
    have slots : t.tbl.slots = clearEnt s.tbl.slots i := hs.trans (congrArg (fun x : TblSt => clearEnt x.slots i) tbl)
    rw [slots]
    obtain ⟨-, hi, -⟩ := findSlot_some hf
    obtain ⟨free, other⟩ := slotFree_clearEnt hi hm
    refine ⟨he, free, other, fun j hj ho => get?_clearEnt_ne hm hj ho, ?_⟩
    rw [hc _ (by decide +kernel), cnt_deleted (sound_slotParity _ s h.sound), slotParity_cnt h.sound _ (by decide +kernel)]
  case absent =>
    rw [tblDelete_absent hr hf] at he hs herr
    refine ⟨he, hs.trans (congrArg TblSt.slots tbl), ?_⟩
    rw [herr rfl, slotParity_cnt h.sound _ (by decide +kernel)]

/-- An operation that ends by freeing the candidate of its MAC key leaves none. -/
theorem completes_freeing {e : OpEnd} (h : atHead s r op u ds) (run : exec c s = .next (tblOp r op f s))
    (made : f ds s = freeing ds e) (sound : e.st.Sound) (rings : e.st.host.rings = s.host.rings) :
    completes c s fun t => ended t r u e.status e.result
      ∧ ∀ x ∈ t.tbl.cache, ¬ (x.fid = bits (payW ds 0) 59 48 ∧ x.mac = bits (payW ds 0) 47 0) := by
  obtain ⟨t, run, he, hf⟩ := completes_finished h run made (of_end (sound_freeing ds e sound)) rings
  refine ⟨t, run, he, fun x hx hk => ?_⟩
  rw [hf.tbl] at hx
  have keeps := List.of_mem_filter hx
  rw [beq_iff_eq.mpr hk.1, beq_iff_eq.mpr hk.2] at keeps
  cases keeps

end

end Sys2Proof.Machine
end

section
/-!
SUPPORT. The commands of the hashed tables (R91, R92, R105, R329).
-/
namespace Sys2Proof.Machine

theorem exec_macInsert (r : Fin 32) (s : State) : exec (.macInsert r) s
    = .next (tblOp r 0x20 (fun ds s => freeing ds (tblInsert (bankOf ds) (macEnt ds) s)) s) := rfl
theorem exec_macDelete (r : Fin 32) (s : State) : exec (.macDelete r) s
    = .next (tblOp r 0x21 (fun ds s => freeing ds (tblDelete (bankOf ds) (macEnt ds).key s)) s) := rfl
theorem exec_hostInsert (r : Fin 32) (s : State) : exec (.hostInsert r) s
    = .next (tblOp r 0x22 (fun ds s => tblInsert (bankOf ds) (hostEnt ds) s) s) := rfl
theorem exec_hostDelete (r : Fin 32) (s : State) : exec (.hostDelete r) s
    = .next (tblOp r 0x23 (fun ds s => tblDelete (bankOf ds) (hostEnt ds).key s) s) := rfl
theorem exec_lpmInsert (r : Fin 32) (s : State) : exec (.lpmInsert r) s
    = .next (tblOp r 0x24 (fun ds => argOk (lenOk ds) (tblInsert (bankOf ds) (lpmEnt ds))) s) := rfl
theorem exec_lpmDelete (r : Fin 32) (s : State) : exec (.lpmDelete r) s
    = .next (tblOp r 0x25 (fun ds => argOk (lenOk ds) (tblDelete (bankOf ds) (lpmEnt ds).key)) s) := rfl
theorem exec_learnAck (r : Fin 32) (s : State) : exec (.learnAck r) s
    = .next (tblOp r 0x2C (fun ds s => ⟨0, 0, freeCand ds s⟩) s) := rfl

theorem argOk_true (f : State → OpEnd) (s : State) : argOk true f s = f s := if_pos rfl

/-- The key of an operation on the MAC table is that of its candidate. -/
theorem mac_key {ds : List (List Byte)} {x : Cand} :
    TKey.mac x.fid x.mac = (macEnt ds).key ↔ x.fid = bits (payW ds 0) 59 48 ∧ x.mac = bits (payW ds 0) 47 0 :=
  Iff.of_eq (TKey.mac.injEq ..)

/-- An operation on a MAC key leaves no candidate of it (R105). -/
theorem completes_frees_candidate {s : State} {r : Fin 32} {op : Nat} {u : RUnit} {ds : List (List Byte)} {c : Instr}
    {f : List (List Byte) → State → OpEnd} {e : OpEnd} (h : atHead s r op u ds) (run : exec c s = .next (tblOp r op f s))
    (made : f ds s = freeing ds e) (sound : e.st.Sound) (rings : e.st.host.rings = s.host.rings) :
    completes c s fun t => ∀ x ∈ t.tbl.cache, TKey.mac x.fid x.mac ≠ (macEnt ds).key := by
  obtain ⟨t, run, -, gone⟩ := completes_freeing h run made sound rings
  exact ⟨t, run, fun x hx hk => gone x hx (mac_key.mp hk)⟩

/-- An insert into a length without a region ends with TBL_BAD_ARG and changes no table (R329). -/
theorem completes_no_region {s : State} {r : Fin 32} {op : Nat} {u : RUnit} {ds : List (List Byte)} {c : Instr}
    {f : List (List Byte) → State → OpEnd} (h : atHead s r op u ds) (run : exec c s = .next (tblOp r op f s))
    (made : f ds s = ⟨0x22, 0, s⟩) : completes c s fun t => ended t r u 0x22 0 ∧ t.tbl = s.tbl
      ∧ t.cnt .TBL_WRITE_ERR_CNT = s.cnt .TBL_WRITE_ERR_CNT + 1#64 := by
  obtain ⟨t, run, he, hf⟩ := completes_finished h run made h.sound rfl
  exact ⟨t, run, he, hf.tbl, hf.counts_error h.sound rfl⟩

end Sys2Proof.Machine
end

section
open Sys2Proof Sys2Proof.Machine

/-- Settles O21: the three inserts are one operation beside the candidate cache (`insertsRight_of_tblOp`). -/
theorem hashedInserts : Obligations.HashedInserts := by
  unfold Obligations.HashedInserts
  refine ⟨fun s r u ds h => ⟨?mac, ?candidate⟩, fun s r u ds h => ?host, fun s r u ds h hl => ⟨?lpm, fun hn => ?noRegion⟩⟩
  case mac => exact insertsRight_of_tblOp h (exec_macInsert r s) (.freeing ds _)
  case candidate =>
    exact completes_frees_candidate h (exec_macInsert r s) rfl (of_end (sound_tblInsert _ _ _ h.sound)) (tblInsert_rings _ _ _)
  case host => exact insertsRight_of_tblOp h (exec_hostInsert r s) (.refl _)
  case lpm => exact insertsRight_of_tblOp h (exec_lpmInsert r s) (by rw [hl, argOk_true]; exact .refl _)
  case noRegion => exact completes_no_region h (exec_lpmInsert r s) (by rw [hl, argOk_true, tblInsert_no_region hn])

/-- Settles O22: the three deletes are one operation beside the candidate cache (`deletesRight_of_tblOp`). -/
theorem hashedDeletes : Obligations.HashedDeletes := by
  unfold Obligations.HashedDeletes
  refine ⟨fun s r u ds h => ⟨?mac, ?candidate⟩, fun s r u ds h => ?host, fun s r u ds h hl => ?lpm⟩
  case mac => exact deletesRight_of_tblOp h (exec_macDelete r s) (.freeing ds _)
  case candidate =>
    exact completes_frees_candidate h (exec_macDelete r s) rfl (of_end (sound_tblDelete _ _ _ h.sound)) (tblDelete_rings _ _ _)
  case host => exact deletesRight_of_tblOp h (exec_hostDelete r s) (.refl _)
  case lpm => exact deletesRight_of_tblOp h (exec_lpmDelete r s) (by rw [hl, argOk_true]; exact .refl _)
end

section
/-!
SUPPORT. Learning candidates (R105, R106): a record that is taken, hold timers that end, and acknowledgements.
-/
namespace Sys2Proof.Machine

/-- The candidate c becomes NOTIFIED, with a hold timer that ends at `till`. -/
def markNotified (c : Cand) (till : Nat) (s : State) : State :=
  (withCache (s.tbl.cache.map fun x => if x = c then { x with notified := some till } else x) s).count .TBL_LEARN_NOTIFY_CNT

/-- When a hold timer that starts now ends (R105). -/
def holdTill (s : State) : Nat := s.now + max 1 (s.fld .TBL_LEARN_CFG_HOLD_MS) * clkMs

theorem learnNotify_headless {s : State} (h : s.flag .SYS_PLANE_STATE_HEADLESS = true) : learnNotify s = s := if_pos h

theorem learnNotify_taken {s : State} {c : Cand} (hp : s.flag .SYS_PLANE_STATE_HEADLESS = false)
    (hc : s.tbl.cache.find? (fun x => x.notified.isNone) = some c) (hw : (noteWait (learnRec c) s).1 = true) :
    learnNotify s = markNotified c (holdTill (noteWait (learnRec c) s).2) (noteWait (learnRec c) s).2 := by
  unfold learnNotify
  rw [hp, if_neg Bool.false_ne_true, hc]
  dsimp only
  revert hw
  rcases noteWait (learnRec c) s with ⟨_ | _, t⟩ <;> intro hw
  · cases hw
  · rfl

/-- A record that waits for its ring leaves the tables, the time, the hold timer's setting and the count of records. -/
theorem noteWait_learn {s : State} (h : s.Sound) (n : NRec) : (noteWait n s).2.Sound ∧ (noteWait n s).2.tbl = s.tbl
    ∧ holdTill (noteWait n s).2 = holdTill s ∧ (noteWait n s).2.cnt .TBL_LEARN_NOTIFY_CNT = s.cnt .TBL_LEARN_NOTIFY_CNT := by
  have hk := of_snd (kept_noteWait (le_same _) n s (.refl _ s))
  have hs := of_snd (sound_noteWait n s h)
  refine ⟨hs, hk.tbl (by decide), ?_, hk.cnt h hs (by decide +kernel) 0 0⟩
  rw [holdTill, holdTill, hk.now (by decide), hk.fld h hs (by decide +kernel)]

theorem Cand.expired_eq_false {now : Nat} {c : Cand} : c.expired now = false ↔ ∀ e, c.notified = some e → now < e := by
  unfold Cand.expired
  cases c.notified <;> simp

/-- The candidates that leave a list and those that stay. -/
theorem length_filter_expired (now : Nat) (l : List Cand) :
    (l.filter fun c => c.expired now).length = l.length - (l.filter fun c => !c.expired now).length := by
  have := List.length_eq_length_filter_add (l := l) (fun c => c.expired now)
  omega

end Sys2Proof.Machine
end

section
open Sys2Proof Sys2Proof.Machine

/-- Settles O23: a record that is taken (`learnNotify_taken`), timers that end, and an acknowledgement (`completes_freeing`). -/
theorem candidateStates : Obligations.CandidateStates := by
  unfold Obligations.CandidateStates
  refine ⟨fun s c h hp hc hw => ?taken, fun s hp => congrArg Host.Outcome.next (learnNotify_headless hp), fun s h => ?expiry,
    fun s r u ds h => ?acknowledged⟩
  case taken =>
    obtain ⟨hs, tbl, till, cnt⟩ := noteWait_learn h (learnRec c)
    refine ⟨_, congrArg Host.Outcome.next (learnNotify_taken hp hc hw), ?_, ?_⟩
    · rw [till, markNotified, tbl]
      rfl
    · rw [← cnt]
      exact cnt_count (s := withCache _ _) hs.cnts .TBL_LEARN_NOTIFY_CNT 0 0 1
  case expiry =>
    refine ⟨_, rfl, fun c hc => ?_, fun c hc hn => ?_, ?_, ?_⟩
    · exact Cand.expired_eq_false.mp (by simpa using List.of_mem_filter hc)
    · refine List.mem_filter.mpr ⟨hc, ?_⟩
      rw [Cand.expired_eq_false.mpr fun e he => by cases hn.symm.trans he]
      rfl
    · change _ = _ + BitVec.ofNat 64 (s.tbl.cache.length - (s.tbl.cache.filter fun c => !c.expired s.now).length)
      rw [← length_filter_expired]
      exact cnt_count (s := withCache _ s) h.cnts .TBL_LEARN_EXPIRE_CNT 0 0 _
    · exact (((Sofar.start h _ _ _).setTbl (List.mem_singleton.mpr rfl) _).count .TBL_LEARN_EXPIRE_CNT 0 0 _
        (List.mem_singleton.mpr rfl)).only
  case acknowledged => exact completes_freeing (e := ⟨0, 0, s⟩) h (exec_learnAck r s) rfl h.sound rfl
end

section
/-!
SUPPORT. The planes of the crossbar (R136, R137): how their bits of XBAR_PLANE_STATUS read after a plane begins to drain, leaves
service or returns, and which planes are noted to return.
-/
namespace Sys2Proof.Machine

/-! ### One bit of a number -/

theorem bits_one (w i : Nat) : bits w i i = b2n (w.testBit i) := by
  rw [bits, Nat.add_sub_cancel_left, Nat.shiftRight_eq_div_pow, pow_one, ← Nat.toNat_testBit, b2n]
  cases w.testBit i <;> rfl

theorem putBit_eq_setBits (w i : Nat) (b : Bool) : putBit w i b = setBits w i i (b2n b) := by
  rw [putBit, setBits, bits_one, Nat.add_sub_cancel_left, Nat.shiftLeft_eq, Nat.shiftLeft_eq]
  cases hw : w.testBit i
  · cases b <;> simp [b2n]
  · have := Nat.ge_two_pow_of_testBit hw
    cases b <;> simp [b2n, Nat.sub_add_cancel this]

/-- A bit that is put reads as put, and the other bits stay. -/
theorem testBit_putBit (w i k : Nat) (b : Bool) : (putBit w i b).testBit k = if k = i then b else w.testBit k := by
  rw [putBit_eq_setBits]
  split
  next hk =>
    subst hk
    have read := bits_setBits w k k (b2n b) (Nat.le_succ k)
    rw [bits_one, Nat.add_sub_cancel_left] at read
    revert read
    generalize (setBits w k k (b2n b)).testBit k = c
    revert b c
    decide
  next hk => exact testBit_setBits _ _ _ _ _ (Nat.le_succ i) (by omega)

/-! ### The status of a plane -/

/-- The bit of plane p in DRAINING and in IN_SERVICE is set to b. -/
def putDraining (p : Nat) (b : Bool) (s : State) : State :=
  s.setFld .XBAR_PLANE_STATUS_DRAINING (putBit (s.fld .XBAR_PLANE_STATUS_DRAINING) p b)
def putOn (p : Nat) (b : Bool) (s : State) : State :=
  s.setFld .XBAR_PLANE_STATUS_IN_SERVICE (putBit (s.fld .XBAR_PLANE_STATUS_IN_SERVICE) p b)

/-- A field of 16 bits after one bit of it is written. -/
theorem testBit_setFld_putBit {s : State} (hs : s.regs.sorted = true) {f : Fld} (hf : f.lo ≤ f.hi) (hf' : f.hi < 32)
    (hw : f.hi + 1 - f.lo = 16) (p : Nat) (b : Bool) {q : Nat} (hq : q < 16) :
    ((s.setFld f (putBit (s.fld f) p b)).fld f).testBit q = if q = p then b else (s.fld f).testBit q := by
  rw [fld_setFld hs hf hf', hw, Nat.testBit_mod_two_pow, decide_eq_true hq, Bool.true_and, testBit_putBit]

theorem planeDraining_putDraining {s : State} (h : s.Sound) (p : Nat) (b : Bool) {q : Nat} (hq : q < 16) :
    planeDraining (putDraining p b s) q = if q = p then b else planeDraining s q :=
  testBit_setFld_putBit (f := .XBAR_PLANE_STATUS_DRAINING) h.regs (by decide) (by decide) (by decide) p b hq

theorem planeOn_putOn {s : State} (h : s.Sound) (p : Nat) (b : Bool) {q : Nat} (hq : q < 16) :
    planeOn (putOn p b s) q = if q = p then b else planeOn s q :=
  testBit_setFld_putBit (f := .XBAR_PLANE_STATUS_IN_SERVICE) h.regs (by decide) (by decide) (by decide) p b hq

theorem fld_on_putDraining {s : State} (h : s.Sound) (p : Nat) (b : Bool) :
    (putDraining p b s).fld .XBAR_PLANE_STATUS_IN_SERVICE = s.fld .XBAR_PLANE_STATUS_IN_SERVICE := by
  rw [putDraining, fld_setFld_ne (f := .XBAR_PLANE_STATUS_DRAINING) (g := .XBAR_PLANE_STATUS_IN_SERVICE) h.regs (by decide)
    (by decide) rfl (by decide)]

theorem planeOn_putDraining {s : State} (h : s.Sound) (p : Nat) (b : Bool) (q : Nat) :
    planeOn (putDraining p b s) q = planeOn s q := by
  rw [planeOn, fld_on_putDraining h, planeOn]

theorem planeDraining_putOn {s : State} (h : s.Sound) (p : Nat) (b : Bool) (q : Nat) :
    planeDraining (putOn p b s) q = planeDraining s q := by
  rw [planeDraining, putOn, fld_setFld_ne (f := .XBAR_PLANE_STATUS_IN_SERVICE) (g := .XBAR_PLANE_STATUS_DRAINING) h.regs
    (by decide) (by decide) rfl (by decide), planeDraining]

/-- Plane p is in service and takes cells. -/
def serves (s : State) (p : Nat) : Prop := planeOn s p = true ∧ planeDraining s p = false

theorem serves_congr {s t : State} (h : t.reg .XBAR_PLANE_STATUS = s.reg .XBAR_PLANE_STATUS) (p : Nat) :
    serves t p ↔ serves s p := by
  unfold serves planeOn planeDraining State.fld
  rw [show t.reg Fld.XBAR_PLANE_STATUS_IN_SERVICE.reg = _ from h, show t.reg Fld.XBAR_PLANE_STATUS_DRAINING.reg = _ from h]
  rfl

/-! ### The crossbar beside its registers -/

/-- The state with another crossbar. -/
def withXbar (x : XbarSt) (s : State) : State := { s with xbar := x }

theorem sound_withXbar {s : State} (h : s.Sound) {x : XbarSt} (hx : x.Sound) : (withXbar x s).Sound := { h with xbar := hx }

/-- The planes that are noted to return. -/
def noted (l : List (Nat × Nat)) (s : State) : State := withXbar { s.xbar with back := l } s

theorem sound_noted {s : State} (h : s.Sound) (l : List (Nat × Nat)) : (noted l s).Sound :=
  sound_withXbar h { h.xbar with }

theorem serves_withXbar (x : XbarSt) (s : State) (p : Nat) : serves (withXbar x s) p ↔ serves s p := Iff.rfl

/-! ### A plane that drains -/

/-- A draining plane with empty queues leaves service. -/
theorem planeDrained_of_empty {s : State} (h : s.Sound) {p : Nat} (hd : planeDraining s p = true)
    (hs : ∀ e ∈ s.xbar.stage, e.1 % 16 ≠ p) (hc : ∀ e ∈ s.xbar.cross, e.1 / 32 ≠ p) :
    planeDrained p s = putOn p false (putDraining p false s) := by
  have stage : s.xbar.stage.all (fun e => e.1 % 16 != p) = true := List.all_eq_true.mpr fun e he => bne_iff_ne.mpr (hs e he)
  have cross : s.xbar.cross.all (fun e => e.1 / 32 != p) = true := List.all_eq_true.mpr fun e he => bne_iff_ne.mpr (hc e he)
  rw [planeDrained, hd, stage, cross, putOn, fld_on_putDraining h]
  rfl

theorem drainPlane_eq (p : Nat) (s : State) : drainPlane p s = if planeOn s p then putDraining p true s else s := rfl

theorem drainPlane_xbar (p : Nat) (s : State) : (drainPlane p s).xbar = s.xbar := by
  rw [drainPlane_eq, apply_ite State.xbar, putDraining, setFld_xbar, ite_self]

theorem serves_drainPlane {s : State} (h : s.Sound) {p q : Nat} (hq : q < 16) (hp : q ≠ p) (hs : serves s q) :
    serves (drainPlane p s) q := by
  obtain ⟨on, takes⟩ := hs
  rw [drainPlane_eq]
  split
  · exact ⟨(planeOn_putDraining h p true q).trans on, (planeDraining_putDraining h p true hq).trans ((if_neg hp).trans takes)⟩
  · exact ⟨on, takes⟩

/-! ### Planes that may serve again -/

/-- Plane q serves, or is noted to return. -/
def comesBack (q : Nat) (s : State) : Prop := serves s q ∨ ∃ e ∈ s.xbar.back, e.1 = q

/-- Plane p follows PLANE_EN and its fault mark. -/
def syncPlane (s : State) (p : Nat) : State :=
  if planeMay s p then (if planeOn s p && !planeDraining s p then s else noteBack p s)
  else drainPlane p (noted (s.xbar.back.filter (fun e => e.1 != p)) s)

theorem planeSync_eq (s : State) : planeSync s = (List.range 16).foldl syncPlane s := rfl

theorem noteBack_regs (p : Nat) (s : State) : (noteBack p s).regs = s.regs := by
  unfold noteBack
  split <;> rfl

theorem noteBack_notes (p : Nat) (s : State) : ∃ e ∈ (noteBack p s).xbar.back, e.1 = p := by
  unfold noteBack
  split
  next h =>
    obtain ⟨e, he, hp⟩ := List.any_eq_true.mp h
    exact ⟨e, he, beq_iff_eq.mp hp⟩
  next => exact ⟨(p, s.now / 4), List.mem_append_right _ (List.mem_singleton.mpr rfl), rfl⟩

theorem comesBack_noteBack {q p : Nat} {s : State} (h : comesBack q s) : comesBack q (noteBack p s) := by
  rcases h with h | ⟨e, he, hq⟩
  · exact .inl ((serves_congr (reg_congr (noteBack_regs p s) _ 0 0) q).mpr h)
  · refine .inr ⟨e, ?_, hq⟩
    unfold noteBack
    split
    · exact he
    · exact List.mem_append_left _ he

/-- The state is sound, and plane q is enabled and has no mark. -/
def mayServe (q : Nat) (s : State) : Prop := s.Sound ∧ planeMay s q = true

theorem mayServe_syncPlane {q : Nat} (s : State) (p : Nat) (h : mayServe q s) : mayServe q (syncPlane s p) := by
  have kept : Kept ⟨524288, 0x200000000000, 0x0⟩ s (syncPlane s p) :=
    ite_holds (P := Kept _ s) (ite_holds (P := Kept _ s) (.refl _ s) (kept_noteBack (by decide) _ _ (.refl _ s)))
      (kept_drainPlane (by decide) _ _ (kept_up524288 (by decide) (.refl _ s)))
  have sound : (syncPlane s p).Sound :=
    ite_holds (P := State.Sound) (ite_holds (P := State.Sound) h.1 (sound_noteBack _ _ h.1))
      (sound_drainPlane _ _ (sound_noted h.1 _))
  refine ⟨sound, ?_⟩
  rw [← h.2, planeMay, kept.fld h.1 sound (by decide +kernel), kept.fld h.1 sound (by decide +kernel), planeMay]

theorem comesBack_syncPlane_self {q : Nat} (s : State) (h : mayServe q s) : comesBack q (syncPlane s q) := by
  rw [syncPlane, if_pos h.2]
  split
  next hs => exact .inl (by simpa [serves] using hs)
  next => exact .inr (noteBack_notes q s)

theorem comesBack_syncPlane {q : Nat} (hq : q < 16) (s : State) (p : Nat) (h : mayServe q s) (hc : comesBack q s) :
    comesBack q (syncPlane s p) := by
  by_cases hp : q = p
  · exact hp ▸ comesBack_syncPlane_self s h
  unfold syncPlane
  split
  · split
    · exact hc
    · exact comesBack_noteBack hc
  · rcases hc with hs | ⟨e, he, rfl⟩
    · exact .inl (serves_drainPlane (sound_noted h.1 _) hq hp ((serves_withXbar _ _ _).mpr hs))
    · refine .inr ⟨e, ?_, rfl⟩
      rw [drainPlane_xbar]
      exact List.mem_filter.mpr ⟨he, bne_iff_ne.mpr hp⟩

theorem comesBack_planeSync {q : Nat} (hq : q < 16) {s : State} (h : mayServe q s) : comesBack q (planeSync s) := by
  rw [planeSync_eq]
  exact foldl_reaches mayServe_syncPlane comesBack_syncPlane_self (comesBack_syncPlane hq) (List.mem_range.mpr hq) h

/-! ### The fault marks -/

/-- A write to the fault marks, with the link trained. -/
theorem exec_xbarFaultClear {s : State} (h : s.Sound) (hl : linked s) (a : Agent) (v : Word) :
    ∃ s', Sends s s' ∧ exec (.xbarFaultClear a v) s = .next (planeFaultClear v s') :=
  ⟨_, (Sends.refl h).send 0 0 1 0, congrArg Host.Outcome.next
    (far_linked hl (fusedOff_write32 (by decide +kernel) (by decide) (by decide) (by decide) s a _))⟩

/-- The marks cleared by v, before the planes follow. -/
def clearMarks (v : Word) (s : State) : State := s.setReg .XBAR_PLANE_FAULT (s.reg .XBAR_PLANE_FAULT &&& ~~~v)

theorem planeFaultClear_kept {s : State} (h : s.Sound) (v : Word) :
    Kept ⟨524288, 0x200000000000, 0x0⟩ (clearMarks v s) (planeFaultClear v s) ∧ (clearMarks v s).Sound
      ∧ (planeFaultClear v s).Sound :=
  ⟨kept_planeSync (le_same _) _ (.refl _ _), sound_State_setReg _ _ _ _ _ h, sound_planeFaultClear v s h⟩

/-! ### Planes that return -/

/-- The crossbar with the pointers of plane p at zero. -/
def zeroPointers (p : Nat) (x : XbarSt) : XbarSt :=
  { x with grant := SMap.keep x.grant (fun k => k / 32 != p), accept := SMap.keep x.accept (fun k => k / 32 != p) }

theorem returnPlane_eq (p : Nat) (s : State) : returnPlane p s =
    if planeOn (putDraining p false s) p then putDraining p false s
    else withXbar (zeroPointers p s.xbar) (putOn p true (putDraining p false s)) := rfl

/-- The plane that returns serves, and so does every plane that served. -/
theorem serves_returnPlane {s : State} (h : s.Sound) (p : Nat) {q : Nat} (hq : q < 16) (ho : q = p ∨ serves s q) :
    serves (returnPlane p s) q := by
  have hd : (putDraining p false s).Sound := sound_State_setFld _ _ _ _ _ h
  have takes : planeDraining (putDraining p false s) q = false := by
    rw [planeDraining_putDraining h p false hq]
    split
    · rfl
    next hne => exact (ho.resolve_left hne).2
  rw [returnPlane_eq]
  split
  next on =>
    refine ⟨?_, takes⟩
    rcases ho with rfl | ho
    · exact on
    · rw [planeOn_putDraining h, ho.1]
  next =>
    refine (serves_withXbar _ _ _).mpr ⟨?_, ?_⟩
    · rw [planeOn_putOn hd p true hq]
      split
      · rfl
      next hne => rw [planeOn_putDraining h, (ho.resolve_left hne).1]
    · rw [planeDraining_putOn hd, takes]

/-- The returns that fall due at a clock, one after the other. -/
theorem planeReturns_eq (s : State) : planeReturns s =
    (s.xbar.back.filter fun e => decide (e.2 < s.now / 4)).foldl (fun s e => returnPlane e.1 s)
      (noted (s.xbar.back.filter fun e => decide (s.now / 4 ≤ e.2)) s) := rfl

/-- A plane whose cell time has come serves after the returns. -/
theorem serves_planeReturns {s : State} (h : s.Sound) {e : Nat × Nat} (he : e ∈ s.xbar.back) (hp : e.1 < 16)
    (ht : e.2 < s.now / 4) : serves (planeReturns s) e.1 := by
  have inv : ∀ (t : State) (d : Nat × Nat), t.Sound → (returnPlane d.1 t).Sound := fun t d => sound_returnPlane d.1 t
  have reach : ∀ t : State, t.Sound → serves (returnPlane e.1 t) e.1 := fun t ht => serves_returnPlane ht e.1 hp (.inl rfl)
  have stay : ∀ (t : State) (d : Nat × Nat), t.Sound → serves t e.1 → serves (returnPlane d.1 t) e.1 :=
    fun t d ht hs => serves_returnPlane ht d.1 hp (.inr hs)
  have due : e ∈ s.xbar.back.filter fun e => decide (e.2 < s.now / 4) := List.mem_filter.mpr ⟨he, decide_eq_true ht⟩
  rw [planeReturns_eq]
  exact foldl_reaches (P := fun t => serves t e.1) (Q := State.Sound) inv reach stay due (sound_noted h _)

/-- The status of the planes stays in the rest of a core clock. -/
theorem tick_planeStatus {s : State} (h : s.Sound) :
    (tick s).reg .XBAR_PLANE_STATUS = (planeReturns (advance s)).reg .XBAR_PLANE_STATUS := by
  have hr := sound_planeReturns _ (sound_advance s h)
  have kept : Kept ⟨132352, 0x38004000000000000000000000000000000000000000000000,
      0x1000304000008000000000000000000000000010080000000000000⟩ (planeReturns (advance s)) (tick s) :=
    kept_serveUnknown (by decide) _ (kept_stallCount (by decide) _ (kept_cplStalls (by decide) _ (kept_creditStalls (by decide) _
      (kept_heartbeat (by decide) _ (kept_idlClock (by decide) _ (.refl _ _))))))
  exact kept.reg hr (sound_tick s h) (by decide +kernel) 0 0

end Sys2Proof.Machine
end

section
open Sys2Proof Sys2Proof.Machine

/-- Settles O29: the two bits of a plane that drained (`planeDrained_of_empty`), the planes after the marks are cleared
(`comesBack_planeSync`), and the return in its cell time (`serves_planeReturns`). -/
theorem crossbarPlanes : Obligations.CrossbarPlanes := by
  unfold Obligations.CrossbarPlanes
  refine ⟨fun s p h hd hs hc => ?drained, fun s a v h hl => ?cleared, fun s t e h hq he hp ht hstep => ?returned⟩
  case drained =>
    have hdr : (putDraining p.val false s).Sound := sound_State_setFld _ _ _ _ _ h
    refine ⟨_, congrArg Host.Outcome.next (planeDrained_of_empty h hd hs hc), ?_, ?_, fun q hq hne => ⟨?_, ?_⟩, ?_⟩
    · rw [planeOn_putOn hdr _ _ p.isLt, if_pos rfl]
    · rw [planeDraining_putOn hdr, planeDraining_putDraining h _ _ p.isLt, if_pos rfl]
    · rw [planeOn_putOn hdr _ _ hq, if_neg hne, planeOn_putDraining h]
    · rw [planeDraining_putOn hdr, planeDraining_putDraining h _ _ hq, if_neg hne]
    · exact (((Sofar.start h _ _ _).setFld .XBAR_PLANE_STATUS_DRAINING _ 0 0 (List.mem_singleton.mpr rfl)).setFld
        .XBAR_PLANE_STATUS_IN_SERVICE _ 0 0 (List.mem_singleton.mpr rfl)).only
  case cleared =>
    obtain ⟨s', hs, run⟩ := exec_xbarFaultClear h hl a v
    obtain ⟨kept, hm, ht⟩ := planeFaultClear_kept hs.sound v
    refine ⟨_, run, ?_, fun q hq hen hmark => comesBack_planeSync hq ⟨hm, ?_⟩⟩
    · rw [kept.reg hm ht (by decide +kernel), clearMarks, reg_setReg hs.sound.regs, reg_congr hs.regs]
    · have enabled : (clearMarks v s').fld .XBAR_PLANE_CTRL_PLANE_EN = s.fld .XBAR_PLANE_CTRL_PLANE_EN := by
        rw [clearMarks, fld_setReg_apart hs.sound.regs (by decide), fld_congr hs.regs]
      rw [kept.fld hm ht (by decide +kernel)] at hmark
      change (((clearMarks v s').fld _).testBit q && !((clearMarks v s').fld _).testBit q) = true
      rw [enabled, hen, hmark]
      rfl
  case returned =>
    rw [step, hq] at hstep
    obtain rfl := Host.Outcome.next.inj hstep
    exact (serves_congr (tick_planeStatus h) e.1).mpr (serves_planeReturns (sound_advance s h) he hp ht)
end

section
/-!
SUPPORT. Spraying (R126, R127): the cell that an input sends, and what its entry into the crossbar leaves.
-/
namespace Sys2Proof.Machine

/-- A die that forwards runs its operations. -/
theorem running_runs {s : State} (hf : forwards s) (op : State → State) : running op s = op s := by
  rw [running, show s.pwr.stopped = false from hf]
  rfl

theorem running_of_unchanged {op : State → State} {s : State} (h : op s = s) : running op s = s := by
  rw [running, h, ite_self]

/-! ### The choice of a plane -/

theorem choosePlane_usable {s : State} {i o p : Nat} (h : choosePlane s i o = some p) : p ∈ planesUsable s := by
  have test := List.find?_some h
  rw [Bool.and_eq_true] at test
  exact List.contains_iff_mem.mp test.1

/-! ### The cell on its way into the crossbar -/

/-- The cell that enters keeps its output, its queue and its ABORT mark. -/
theorem entered_tag (i : Nat) (x : XCell) (s : State) :
    (entered i x s).1.out = x.out ∧ (entered i x s).1.queue = x.queue ∧ (entered i x s).1.abort = x.abort := by
  unfold entered
  extract_lets
  split
  · exact ⟨rfl, rfl, rfl⟩
  · split
    · split <;> exact ⟨rfl, rfl, rfl⟩
    · exact ⟨rfl, rfl, rfl⟩

/-- Its entry settles receive-buffer bytes, tiles and completions, and leaves the crossbar and the time as they are. -/
theorem entered_leaves {s : State} (h : s.Sound) (i : Nat) (x : XCell) :
    (entered i x s).2.xbar = s.xbar ∧ (entered i x s).2.now = s.now
      ∧ ∀ k, (entered i x s).2.cnt .XBAR_IN_CELL_CNT k = s.cnt .XBAR_IN_CELL_CNT k := by
  have kept := of_snd (kept_entered (le_same _) i x s (.refl _ s))
  exact ⟨kept.xbar (by decide), kept.now (by decide),
    fun k => kept.cnt h (of_snd (sound_entered i x s h)) (by decide +kernel) k 0⟩

/-- The crossbar once the oldest cell of input i, bound for output o, has left its feed for plane p. -/
def drawnXbar (i o p : Nat) (rest : List XCell) (x : XbarSt) : XbarSt :=
  { x with
    feed := SMap.put x.feed i [] rest
    nextSeq := SMap.put x.nextSeq (32 * i + o) 0 ((SMap.getD x.nextSeq (32 * i + o) 0 + 1) % 65536)
    spent := SMap.upd x.spent (32 * i + o) 0 (· + 1)
    rr := SMap.put x.rr (32 * i + o) 0 ((p + 1) % 16) }

/-- The state in which that cell enters the crossbar. -/
def drawn (i o p : Nat) (rest : List XCell) (s : State) : State :=
  (withXbar (drawnXbar i o p rest s.xbar) s).count .XBAR_IN_CELL_CNT i

theorem sound_drawn {s : State} (h : s.Sound) (i o p : Nat) (rest : List XCell) : (drawn i o p rest s).Sound :=
  sound_State_count _ _ _ _ _ (sound_withXbar h { h.xbar with
    feed := SMap.sorted_put h.xbar.feed _ _ _, nextSeq := SMap.sorted_put h.xbar.nextSeq _ _ _
    spent := SMap.sorted_upd h.xbar.spent _ 0 (fun n => n + 1), rr := SMap.sorted_put h.xbar.rr _ _ _ })

/-- The cell as it is staged. -/
def staged (i n : Nat) (e : XCell × State) : XCell := { e.1 with src := i, xseq := n, at_ := e.2.now }

/-- The oldest cell of an input that has credit, room and a plane goes to the staging queue of that plane (R126, R127). -/
theorem cellSend_of_plane {s : State} {i p : Nat} {x : XCell} {l : List XCell} (hf : feedOf s i = x :: l)
    (hr : x.cell.tag.ready ≤ s.now) (hc : SMap.getD s.xbar.spent (32 * i + x.out) 0 < 256) (hs : stagedAt s i < 4096)
    (hp : choosePlane s i x.out = some p) {e : XCell × State} (he : entered i x (drawn i x.out p l s) = e) :
    cellSend i s = setStage i e.1.out p
      (stageOf e.2 i e.1.out p ++ [staged i (SMap.getD s.xbar.nextSeq (32 * i + x.out) 0) e]) e.2 := by
  have go : (decide (s.now < x.cell.tag.ready) || decide (256 ≤ SMap.getD s.xbar.spent (32 * i + x.out) 0)
      || decide (4096 ≤ stagedAt s i)) = false := by
    simp only [Bool.or_eq_false_iff, decide_eq_false_iff_not]
    omega
  unfold cellSend
  rw [hf]
  dsimp only
  rw [go, if_neg Bool.false_ne_true, hp, ← he]
  rfl

/-- An input without credit for its oldest cell, or before that cell's lookup, waits (R122, R127). -/
theorem cellSend_waits {s : State} {i : Nat} {x : XCell} {l : List XCell} (hf : feedOf s i = x :: l)
    (hw : 256 ≤ SMap.getD s.xbar.spent (32 * i + x.out) 0 ∨ s.now < x.cell.tag.ready) : cellSend i s = s := by
  have stop : (decide (s.now < x.cell.tag.ready) || decide (256 ≤ SMap.getD s.xbar.spent (32 * i + x.out) 0)
      || decide (4096 ≤ stagedAt s i)) = true := by
    simp only [Bool.or_eq_true, decide_eq_true_eq]
    exact .inl hw.symm
  unfold cellSend
  rw [hf]
  dsimp only
  rw [stop, if_pos rfl]

end Sys2Proof.Machine
end

section
/-!
SUPPORT. Matching (R129): the pairs of inputs and outputs of a cell time, of which no two share an input or an output, and the
cells that cross for them.
-/
namespace Sys2Proof.Machine

/-! ### One choice -/

/-- The largest of a start and the ages of a list is the start, which is then above all of them, or one of the ages. -/
theorem foldl_max_attained (l : List (Nat × Nat)) (a : Nat) :
    (l.foldl (fun a e => max a e.2) a = a ∧ ∀ e ∈ l, e.2 ≤ a) ∨ ∃ e ∈ l, e.2 = l.foldl (fun a e => max a e.2) a := by
  induction l generalizing a with
  | nil => exact .inl ⟨rfl, fun e he => by cases he⟩
  | cons x l ih =>
    rw [List.foldl_cons]
    rcases ih (max a x.2) with ⟨top, below⟩ | ⟨e, he, top⟩
    · rw [top]
      rcases Nat.le_total x.2 a with hx | hx
      · rw [Nat.max_eq_left hx] at below ⊢
        exact .inl ⟨rfl, List.forall_mem_cons.mpr ⟨hx, below⟩⟩
      · exact .inr ⟨x, List.mem_cons_self, (Nat.max_eq_right hx).symm⟩
    · exact .inr ⟨e, List.mem_cons_of_mem _ he, top⟩

/-- The candidates among which the pointer chooses: the oldest aged ones, else all. -/
def contenders (pri : Nat) (l : List (Nat × Nat)) : List (Nat × Nat) :=
  let aged := if pri = 0 then [] else l.filter (fun e => decide (pri ≤ e.2))
  let top := aged.foldl (fun a e => max a e.2) 0
  if aged.isEmpty then l else aged.filter (fun e => e.2 == top)

theorem arbitrate_eq (pri ptr : Nat) (l : List (Nat × Nat)) : arbitrate pri ptr l =
    match (contenders pri l).find? (fun e => decide (ptr ≤ e.1)) with
    | some e => some e.1
    | none => (contenders pri l).head?.map (fun e => e.1) := rfl

theorem contenders_subset (pri : Nat) (l : List (Nat × Nat)) : contenders pri l ⊆ l := by
  have sub : (if pri = 0 then [] else l.filter (fun e => decide (pri ≤ e.2))) ⊆ l := by
    split
    · exact List.nil_subset l
    · exact List.filter_subset_self l
  unfold contenders
  dsimp only
  generalize (if pri = 0 then [] else l.filter (fun e => decide (pri ≤ e.2))) = aged at sub ⊢
  split
  · exact List.Subset.refl l
  · exact List.Subset.trans (List.filter_subset_self _) sub

theorem contenders_ne_nil (pri : Nat) {l : List (Nat × Nat)} (h : l ≠ []) : contenders pri l ≠ [] := by
  unfold contenders
  dsimp only
  generalize (if pri = 0 then [] else l.filter (fun e => decide (pri ≤ e.2))) = aged
  split
  · exact h
  next hne =>
    obtain ⟨d, hd⟩ := List.exists_mem_of_ne_nil aged (fun e => hne (List.isEmpty_iff.mpr e))
    have : ∃ e ∈ aged, e.2 = aged.foldl (fun a e => max a e.2) 0 := by
      rcases foldl_max_attained aged 0 with ⟨top, below⟩ | top
      · exact ⟨d, hd, (Nat.le_zero.mp (below d hd)).trans top.symm⟩
      · exact top
    obtain ⟨e, he, top⟩ := this
    exact List.ne_nil_of_mem (List.mem_filter.mpr ⟨he, beq_iff_eq.mpr top⟩)

theorem arbitrate_mem {pri ptr : Nat} {l : List (Nat × Nat)} {j : Nat} (h : arbitrate pri ptr l = some j) : ∃ a, (j, a) ∈ l := by
  rw [arbitrate_eq] at h
  split at h
  next e he =>
    obtain rfl := Option.some.inj h
    exact ⟨e.2, contenders_subset pri l (List.mem_of_find?_eq_some he)⟩
  next =>
    obtain ⟨e, he, rfl⟩ := Option.map_eq_some_iff.mp h
    exact ⟨e.2, contenders_subset pri l (List.mem_of_head? he)⟩

theorem arbitrate_of_mem (pri ptr : Nat) {l : List (Nat × Nat)} {e : Nat × Nat} (h : e ∈ l) :
    ∃ j, arbitrate pri ptr l = some j := by
  obtain ⟨c, cs, hc⟩ := List.exists_cons_of_ne_nil (contenders_ne_nil pri (List.ne_nil_of_mem h))
  rw [arbitrate_eq, hc]
  split
  next e _ => exact ⟨e.1, rfl⟩
  next => exact ⟨c.1, rfl⟩

/-! ### One iteration -/

/-- The inputs and the outputs that no pair has yet. -/
def freeIns (done : List (Nat × Nat)) : List Nat := (List.range 32).filter (fun i => !done.any (fun e => e.1 == i))
def freeOuts (done : List (Nat × Nat)) : List Nat := (List.range 32).filter (fun o => !done.any (fun e => e.2 == o))

theorem mem_freeIns {done : List (Nat × Nat)} {i : Nat} : i ∈ freeIns done ↔ i < 32 ∧ ∀ e ∈ done, e.1 ≠ i := by
  simp [freeIns]

theorem mem_freeOuts {done : List (Nat × Nat)} {o : Nat} : o ∈ freeOuts done ↔ o < 32 ∧ ∀ e ∈ done, e.2 ≠ o := by
  simp [freeOuts]

/-- The inputs with a cell for output o, each with its age. -/
def requests (s : State) (p : Nat) (done : List (Nat × Nat)) (o : Nat) : List (Nat × Nat) :=
  (freeIns done).filterMap (fun i => (headAge s i o p).map (fun a => (i, a)))

/-- The input to which output o grants. -/
def grantOf (s : State) (p : Nat) (done : List (Nat × Nat)) (o : Nat) : Option Nat :=
  arbitrate (s.fld .XBAR_CFG_AGE_PRI) (SMap.getD s.xbar.grant (32 * p + o) 0) (requests s p done o)

/-- The grants of one iteration, as pairs. -/
def grants (s : State) (p : Nat) (done : List (Nat × Nat)) : List (Nat × Nat) :=
  (freeOuts done).filterMap (fun o => (grantOf s p done o).map (fun i => (i, o)))

/-- The outputs that grant to input i, each with the age of the input's cell. -/
def offers (s : State) (p : Nat) (done : List (Nat × Nat)) (i : Nat) : List (Nat × Nat) :=
  ((grants s p done).filter (fun e => e.1 == i)).filterMap (fun e => (headAge s i e.2 p).map (fun a => (e.2, a)))

/-- The output that input i accepts. -/
def acceptOf (s : State) (p : Nat) (done : List (Nat × Nat)) (i : Nat) : Option Nat :=
  arbitrate (s.fld .XBAR_CFG_AGE_PRI) (SMap.getD s.xbar.accept (32 * p + i) 0) (offers s p done i)

theorem matchRound_eq (s : State) (p : Nat) (done : List (Nat × Nat)) :
    matchRound s p done = (freeIns done).filterMap (fun i => (acceptOf s p done i).map (fun o => (i, o))) := rfl

theorem stageOf_ne_nil_of_headAge {s : State} {i o p a : Nat} (h : headAge s i o p = some a) : stageOf s i o p ≠ [] := by
  intro e
  rw [headAge, e] at h
  cases h

theorem headAge_of_cons {s : State} {i o p : Nat} {x : XCell} {l : List XCell} (h : stageOf s i o p = x :: l) :
    headAge s i o p = some (s.now / 4 - x.at_ / 4) := by
  rw [headAge, h]
  rfl

section
variable {s : State} {p : Nat} {done : List (Nat × Nat)}

theorem mem_grants {i o : Nat} : (i, o) ∈ grants s p done ↔ o ∈ freeOuts done ∧ grantOf s p done o = some i := by
  unfold grants
  rw [List.mem_filterMap]
  constructor
  · rintro ⟨o', ho, hg⟩
    obtain ⟨i', hi, e⟩ := Option.map_eq_some_iff.mp hg
    cases e
    exact ⟨ho, hi⟩
  · rintro ⟨ho, hg⟩
    exact ⟨o, ho, by rw [hg]; rfl⟩

theorem stageOf_ne_nil_of_grantOf {i o : Nat} (h : grantOf s p done o = some i) : stageOf s i o p ≠ [] := by
  obtain ⟨a, ha⟩ := arbitrate_mem h
  obtain ⟨i', hi, he⟩ := List.mem_filterMap.mp ha
  obtain ⟨b, hb, e⟩ := Option.map_eq_some_iff.mp he
  cases e
  exact stageOf_ne_nil_of_headAge hb

theorem mem_grants_of_acceptOf {i o : Nat} (h : acceptOf s p done i = some o) : (i, o) ∈ grants s p done := by
  obtain ⟨a, ha⟩ := arbitrate_mem h
  obtain ⟨⟨i', o'⟩, he, hm⟩ := List.mem_filterMap.mp ha
  obtain ⟨hg, hi⟩ := List.mem_filter.mp he
  obtain ⟨b, hb, e⟩ := Option.map_eq_some_iff.mp hm
  cases e
  obtain rfl := beq_iff_eq.mp hi
  exact hg

theorem mem_matchRound {e : Nat × Nat} : e ∈ matchRound s p done ↔ e.1 ∈ freeIns done ∧ acceptOf s p done e.1 = some e.2 := by
  rw [matchRound_eq, List.mem_filterMap]
  constructor
  · rintro ⟨i, hi, ha⟩
    obtain ⟨o, ho, rfl⟩ := Option.map_eq_some_iff.mp ha
    exact ⟨hi, ho⟩
  · rintro ⟨hi, ha⟩
    exact ⟨e.1, hi, by rw [ha]; rfl⟩

/-- Where one input alone waits for one output, the first iteration pairs them. -/
theorem mem_matchRound_of_alone {i o : Nat} (hi : i < 32) (ho : o < 32) {x : XCell} {l : List XCell}
    (hx : stageOf s i o p = x :: l) (alone : ∀ i' < 32, ∀ o' < 32, (i', o') ≠ (i, o) → stageOf s i' o' p = []) :
    (i, o) ∈ matchRound s p [] := by
  have freeI : ∀ j, j ∈ freeIns [] ↔ j < 32 := fun j => by simp [mem_freeIns]
  have freeO : ∀ j, j ∈ freeOuts [] ↔ j < 32 := fun j => by simp [mem_freeOuts]
  have only : ∀ {i' o'}, i' < 32 → o' < 32 → stageOf s i' o' p ≠ [] → i' = i ∧ o' = o := fun hi' ho' hne => by
    by_contra hc
    exact hne (alone _ hi' _ ho' (fun e => hc (Prod.mk.inj e)))
  have granted : grantOf s p [] o = some i := by
    have asks : (i, s.now / 4 - x.at_ / 4) ∈ requests s p [] o :=
      List.mem_filterMap.mpr ⟨i, (freeI i).mpr hi, by rw [headAge_of_cons hx]; rfl⟩
    obtain ⟨j, hj⟩ := arbitrate_of_mem (s.fld .XBAR_CFG_AGE_PRI) (SMap.getD s.xbar.grant (32 * p + o) 0) asks
    obtain ⟨a, ha⟩ := arbitrate_mem hj
    obtain ⟨i', hi', he⟩ := List.mem_filterMap.mp ha
    obtain ⟨b, hb, e⟩ := Option.map_eq_some_iff.mp he
    cases e
    obtain ⟨rfl, -⟩ := only ((freeI _).mp hi') ho (stageOf_ne_nil_of_headAge hb)
    exact hj
  have offered : (o, s.now / 4 - x.at_ / 4) ∈ offers s p [] i :=
    List.mem_filterMap.mpr ⟨(i, o), List.mem_filter.mpr ⟨mem_grants.mpr ⟨(freeO o).mpr ho, granted⟩, beq_self_eq_true i⟩,
      by rw [headAge_of_cons hx]; rfl⟩
  obtain ⟨o', ho'⟩ := arbitrate_of_mem (s.fld .XBAR_CFG_AGE_PRI) (SMap.getD s.xbar.accept (32 * p + i) 0) offered
  obtain ⟨hfree, hgrant⟩ := mem_grants.mp (mem_grants_of_acceptOf (done := []) ho')
  obtain ⟨-, rfl⟩ := only hi ((freeO _).mp hfree) (stageOf_ne_nil_of_grantOf hgrant)
  exact mem_matchRound.mpr ⟨(freeI i).mpr hi, ho'⟩

end

/-! ### The pairs of a cell time -/

/-- Two pairs share no port. -/
def apartPairs (d e : Nat × Nat) : Prop := d.1 ≠ e.1 ∧ d.2 ≠ e.2

/-- A matching of inputs and outputs: no two of its pairs share a port. -/
structure Matching (l : List (Nat × Nat)) : Prop where
  ports : ∀ e ∈ l, e.1 < 32 ∧ e.2 < 32
  apart : l.Pairwise apartPairs

theorem Matching.nil : Matching [] := ⟨fun _ he => absurd he List.not_mem_nil, List.Pairwise.nil⟩

theorem Matching.tail {e : Nat × Nat} {l : List (Nat × Nat)} (h : Matching (e :: l)) : Matching l :=
  ⟨fun d hd => h.ports d (List.mem_cons_of_mem _ hd), h.apart.of_cons⟩

theorem Matching.apart_head {e d : Nat × Nat} {l : List (Nat × Nat)} (h : Matching (e :: l)) (hd : d ∈ l) : apartPairs e d :=
  List.rel_of_pairwise_cons h.apart hd

/-- A pair of a matching is the only one with its input, and the only one with its output. -/
theorem Matching.unique {l : List (Nat × Nat)} (h : Matching l) {d e : Nat × Nat} (hd : d ∈ l) (he : e ∈ l)
    (hs : d.1 = e.1 ∨ d.2 = e.2) : d = e := by
  induction l with
  | nil => cases hd
  | cons a l ih =>
    rcases List.mem_cons.mp hd with rfl | hd' <;> rcases List.mem_cons.mp he with rfl | he'
    · rfl
    · exact absurd hs (not_or.mpr (h.apart_head he'))
    · obtain ⟨h1, h2⟩ := h.apart_head hd'
      exact absurd hs (not_or.mpr ⟨h1.symm, h2.symm⟩)
    · exact ih h.tail hd' he'

theorem freeIns_nodup (done : List (Nat × Nat)) : (freeIns done).Nodup := List.nodup_range.filter _

theorem matchRound_apart (s : State) (p : Nat) (done : List (Nat × Nat)) : (matchRound s p done).Pairwise apartPairs := by
  rw [matchRound_eq, List.pairwise_filterMap]
  refine (freeIns_nodup done).imp fun {i j} hne d hd e he => ?_
  obtain ⟨o, ho, rfl⟩ := Option.map_eq_some_iff.mp hd
  obtain ⟨o', ho', rfl⟩ := Option.map_eq_some_iff.mp he
  refine ⟨hne, fun (same : o = o') => hne ?_⟩
  subst same
  exact Option.some.inj ((mem_grants.mp (mem_grants_of_acceptOf ho)).2.symm.trans (mem_grants.mp (mem_grants_of_acceptOf ho')).2)

/-- An iteration adds pairs of ports that were free. -/
theorem Matching.round {done : List (Nat × Nat)} (h : Matching done) (s : State) (p : Nat) :
    Matching (done ++ matchRound s p done) := by
  have new : ∀ e ∈ matchRound s p done, (e.1 < 32 ∧ e.2 < 32) ∧ ∀ d ∈ done, apartPairs d e := fun e he => by
    obtain ⟨hi, ha⟩ := mem_matchRound.mp he
    obtain ⟨hi, usedI⟩ := mem_freeIns.mp hi
    obtain ⟨ho, usedO⟩ := mem_freeOuts.mp (mem_grants.mp (mem_grants_of_acceptOf ha)).1
    exact ⟨⟨hi, ho⟩, fun d hd => ⟨usedI d hd, usedO d hd⟩⟩
  refine ⟨fun e he => (List.mem_append.mp he).elim (h.ports e) fun he => (new e he).1, ?_⟩
  exact List.pairwise_append.mpr ⟨h.apart, matchRound_apart s p done, fun d hd e he => (new e he).2 d hd⟩

theorem Matching.more (s : State) (p n : Nat) {done : List (Nat × Nat)} (h : Matching done) : Matching (matchMore s p n done) := by
  induction n generalizing done with
  | zero => exact h
  | succ n ih => exact ih (h.round s p)

theorem mem_matchMore (s : State) (p n : Nat) {done : List (Nat × Nat)} {e : Nat × Nat} (h : e ∈ done) :
    e ∈ matchMore s p n done := by
  induction n generalizing done with
  | zero => exact h
  | succ n ih => exact ih (List.mem_append_left _ h)

/-- All the pairs of a cell time of plane p. -/
def pairsOf (s : State) (p : Nat) : List (Nat × Nat) :=
  matchMore s p (max 1 (s.fld .XBAR_CFG_ITER) - 1) (matchRound s p [])

theorem matching_pairsOf (s : State) (p : Nat) : Matching (pairsOf s p) :=
  (Matching.nil.round s p).more s p _

/-! ### The cells that cross -/

/-- The cells on their way over plane p to output o. -/
def crossOf (s : State) (p o : Nat) : List XCell := SMap.getD s.xbar.cross (32 * p + o) []

/-- The cells of the pairs l cross, one after the other. -/
def crossAll (p : Nat) (l : List (Nat × Nat)) (s : State) : State := l.foldl (fun s e => crossCell p e s) s

theorem sound_crossAll (p : Nat) (l : List (Nat × Nat)) {s : State} (h : s.Sound) : (crossAll p l s).Sound :=
  foldl_holds (P := State.Sound) (fun t e ht => sound_crossCell p e t ht) h

theorem crossCell_empty {s : State} {p : Nat} {e : Nat × Nat} (h : stageOf s e.1 e.2 p = []) : crossCell p e s = s := by
  rw [crossCell, h]

/-- The crossbar once the head of a staging queue has crossed. -/
def crossedXbar (p : Nat) (e : Nat × Nat) (x : XCell) (l : List XCell) (s : State) : XbarSt :=
  { s.xbar with
    stage := SMap.put s.xbar.stage ((32 * e.1 + e.2) * 16 + p) [] l
    cross := SMap.put s.xbar.cross (32 * p + e.2) [] (crossOf s p e.2 ++ [{ x with at_ := s.now }]) }

theorem crossCell_cons {s : State} {p : Nat} {e : Nat × Nat} {x : XCell} {l : List XCell} (h : stageOf s e.1 e.2 p = x :: l) :
    crossCell p e s = withXbar (crossedXbar p e x l s) s := by
  rw [crossCell, h]
  rfl

theorem crossCell_keeps (p : Nat) (e : Nat × Nat) (s : State) :
    (crossCell p e s).now = s.now ∧ (crossCell p e s).xbar.matched = s.xbar.matched := by
  unfold crossCell
  split <;> exact ⟨rfl, rfl⟩

theorem crossAll_keeps (p : Nat) (l : List (Nat × Nat)) (s : State) :
    (crossAll p l s).now = s.now ∧ (crossAll p l s).xbar.matched = s.xbar.matched :=
  foldl_holds (P := fun t => t.now = s.now ∧ t.xbar.matched = s.xbar.matched)
    (fun t e h => ⟨(crossCell_keeps p e t).1.trans h.1, (crossCell_keeps p e t).2.trans h.2⟩) ⟨rfl, rfl⟩

theorem stageOf_crossCell {s : State} (h : s.Sound) {p i o : Nat} {e : Nat × Nat} (ho : o < 32) (he : e.2 < 32) :
    stageOf (crossCell p e s) i o p = if e = (i, o) then (stageOf s i o p).tail else stageOf s i o p := by
  rcases hs : stageOf s e.1 e.2 p with _ | ⟨x, l⟩
  · rw [crossCell_empty hs]
    split
    next heq =>
      subst heq
      rw [hs]
      rfl
    next => rfl
  · rw [crossCell_cons hs]
    split
    next heq =>
      subst heq
      exact (SMap.getD_put_self h.xbar.stage _ _ _).trans (congrArg List.tail hs).symm
    next hne =>
      refine SMap.getD_put_ne h.xbar.stage (fun heq => hne ?_) _ _ _
      exact Prod.ext (by omega) (by omega)

/-- The head of the staging queue of a pair as it crosses at the present clock. -/
def crosser (s : State) (p : Nat) (e : Nat × Nat) : List XCell :=
  (stageOf s e.1 e.2 p).head?.toList.map fun x => { x with at_ := s.now }

theorem crossOf_crossCell {s : State} (h : s.Sound) (p : Nat) (e : Nat × Nat) {o : Nat} :
    crossOf (crossCell p e s) p o = if e.2 = o then crossOf s p o ++ crosser s p e else crossOf s p o := by
  unfold crosser
  rcases hs : stageOf s e.1 e.2 p with _ | ⟨x, l⟩
  · rw [crossCell_empty hs]
    split
    · exact (List.append_nil _).symm
    · rfl
  · rw [crossCell_cons hs]
    split
    next heq =>
      subst heq
      exact SMap.getD_put_self h.xbar.cross _ _ _
    next hne => exact SMap.getD_put_ne h.xbar.cross (by omega) _ _ _

/-- Of the pairs of a matching, each takes the head of its own queue, and no other queue loses a cell. -/
theorem stageOf_crossAll {l : List (Nat × Nat)} (hm : Matching l) {s : State} (h : s.Sound) {p i o : Nat}
    (ho : o < 32) : stageOf (crossAll p l s) i o p = if (i, o) ∈ l then (stageOf s i o p).tail else stageOf s i o p := by
  induction l generalizing s with
  | nil => rfl
  | cons e l ih =>
    have rest := ih hm.tail (sound_crossCell p e s h)
    rw [stageOf_crossCell h ho (hm.ports e List.mem_cons_self).2] at rest
    refine rest.trans ?_
    by_cases he : e = (i, o)
    · have out : (i, o) ∉ l := fun hin => (hm.apart_head hin).1 (congrArg Prod.fst he)
      rw [if_neg out, if_pos he, if_pos (List.mem_cons.mpr (.inl he.symm))]
    · have same : (i, o) ∈ e :: l ↔ (i, o) ∈ l := List.mem_cons.trans (or_iff_right fun heq => he heq.symm)
      simp only [same, if_neg he]

theorem crosser_crossCell {s : State} (h : s.Sound) {p : Nat} {e d : Nat × Nat} (he : e.2 < 32) (hd : d.2 < 32)
    (hne : e ≠ d) : crosser (crossCell p e s) p d = crosser s p d := by
  rw [crosser, stageOf_crossCell h hd he, if_neg hne, (crossCell_keeps p e s).1, crosser]

theorem crossOf_crossAll_none {l : List (Nat × Nat)} {s : State} (h : s.Sound) {p o : Nat} (hn : ∀ e ∈ l, e.2 ≠ o) :
    crossOf (crossAll p l s) p o = crossOf s p o := by
  induction l generalizing s with
  | nil => rfl
  | cons e l ih =>
    have rest := ih (sound_crossCell p e s h) fun d hd => hn d (List.mem_cons_of_mem _ hd)
    rwa [crossOf_crossCell h, if_neg (hn e List.mem_cons_self)] at rest

/-- The output of a pair gains that pair's cell. -/
theorem crossOf_crossAll {l : List (Nat × Nat)} (hm : Matching l) {s : State} (h : s.Sound) {p : Nat}
    {d : Nat × Nat} (hd : d ∈ l) : crossOf (crossAll p l s) p d.2 = crossOf s p d.2 ++ crosser s p d := by
  induction l generalizing s with
  | nil => cases hd
  | cons e l ih =>
    have hs := sound_crossCell p e s h
    rcases List.mem_cons.mp hd with rfl | hd
    · exact (crossOf_crossAll_none hs fun e he => (hm.apart_head he).2.symm).trans ((crossOf_crossCell h p d).trans (if_pos rfl))
    · obtain ⟨ins, outs⟩ := hm.apart_head hd
      have rest := ih hm.tail hs hd
      rw [crossOf_crossCell h, if_neg outs, crosser_crossCell h (hm.ports e List.mem_cons_self).2
        (hm.tail.ports d hd).2 fun heq => ins (congrArg Prod.fst heq)] at rest
      exact rest

theorem length_crosser_le (s : State) (p : Nat) (e : Nat × Nat) : (crosser s p e).length ≤ 1 := by
  rw [crosser, List.length_map]
  cases (stageOf s e.1 e.2 p).head? <;> simp

/-- Each output gains at most one cell. -/
theorem length_crossOf_crossAll {l : List (Nat × Nat)} (hm : Matching l) {s : State} (h : s.Sound) {p : Nat} (o : Nat) :
    (crossOf (crossAll p l s) p o).length ≤ (crossOf s p o).length + 1 := by
  by_cases ho : ∃ e ∈ l, e.2 = o
  · obtain ⟨e, he, rfl⟩ := ho
    rw [crossOf_crossAll hm h he, List.length_append]
    exact Nat.add_le_add_left (length_crosser_le s p e) _
  · rw [crossOf_crossAll_none h fun e he heq => ho ⟨e, he, heq⟩]
    exact Nat.le_succ _

/-! ### A cell time of a plane -/

/-- The crossbar that notes the cell time of plane p, with the pointers that its first iteration leaves. -/
def matchedXbar (p : Nat) (s : State) : XbarSt :=
  { s.xbar with
    matched := SMap.insert s.xbar.matched p (s.now / 4 + 1)
    grant := (matchRound s p []).foldl (fun m e => SMap.put m (32 * p + e.2) 0 ((e.1 + 1) % 32)) s.xbar.grant
    accept := (matchRound s p []).foldl (fun m e => SMap.put m (32 * p + e.1) 0 ((e.2 + 1) % 32)) s.xbar.accept }

theorem xbarMatch_matched {s : State} {p : Nat} (h : SMap.getD s.xbar.matched p 0 = s.now / 4 + 1) : xbarMatch p s = s := if_pos h

theorem xbarMatch_due {s : State} {p : Nat} (h : SMap.getD s.xbar.matched p 0 ≠ s.now / 4 + 1) :
    xbarMatch p s = crossAll p (pairsOf s p) (withXbar (matchedXbar p s) s) := if_neg h

theorem sound_matchedXbar {s : State} (h : s.Sound) (p : Nat) : (withXbar (matchedXbar p s) s).Sound :=
  sound_withXbar h { h.xbar with
    matched := SMap.sorted_insert h.xbar.matched _ _
    grant := foldl_holds (P := fun m => SMap.sorted m = true) (fun _ _ hm => SMap.sorted_put hm _ _ _) h.xbar.grant
    accept := foldl_holds (P := fun m => SMap.sorted m = true) (fun _ _ hm => SMap.sorted_put hm _ _ _) h.xbar.accept }

end Sys2Proof.Machine
end

section
open Sys2Proof Sys2Proof.Machine

/-- Settles O27: the cell that an input sends (`cellSend_of_plane`), and the cells of a matching that cross (`stageOf_crossAll`,
`crossOf_crossAll`). -/
theorem crossbarSendAndMatch : Obligations.CrossbarSendAndMatch := by
  unfold Obligations.CrossbarSendAndMatch
  refine ⟨fun s i x l p h hf hx hr hc hs hp => ⟨choosePlane_usable hp, ?sent⟩,
    fun s i x l hx hw => congrArg Host.Outcome.next (running_of_unchanged (cellSend_waits hx hw)), fun s p h hf hm => ?matched,
    fun s p hm => congrArg Host.Outcome.next (running_of_unchanged (xbarMatch_matched hm))⟩
  case sent =>
    obtain ⟨out, queue, mark⟩ := entered_tag i.val x (drawn i.val x.out p l s)
    obtain ⟨xbar, now, cnt⟩ := entered_leaves (sound_drawn h i.val x.out p l) i.val x
    have run := (running_runs hf (cellSend i.val)).trans (cellSend_of_plane hx hr hc hs hp rfl)
    rw [out, stageOf, xbar] at run
    refine ⟨_, congrArg Host.Outcome.next run, ?_, ⟨staged i.val _ (entered i.val x (drawn i.val x.out p l s)), ?_, rfl, out, rfl,
      now, queue, mark⟩, ?_, ?_, ?_, ?_⟩
    · exact (congrArg (fun z => SMap.getD z.feed i.val []) xbar).trans (SMap.getD_put_self h.xbar.feed _ _ _)
    · refine SMap.getD_put_self ?_ _ _ _
      rw [xbar]
      exact h.xbar.stage
    · exact (congrArg (fun z => SMap.getD z.nextSeq _ 0) xbar).trans (SMap.getD_put_self h.xbar.nextSeq _ _ _)
    · exact (congrArg (fun z => SMap.getD z.spent _ 0) xbar).trans (SMap.getD_upd_self h.xbar.spent _ 0 (fun n => n + 1))
    · exact (congrArg (fun z => SMap.getD z.rr _ 0) xbar).trans (SMap.getD_put_self h.xbar.rr _ _ _)
    · exact (cnt i.val).trans (cnt_count (s := withXbar _ s) h.cnts .XBAR_IN_CELL_CNT i.val 0 1)
  case matched =>
    have hm' := matching_pairsOf s p.val
    have hs := sound_matchedXbar h p.val
    refine ⟨_, congrArg Host.Outcome.next ((running_runs hf (xbarMatch p.val)).trans (xbarMatch_due hm)), ?_, ?_, ?_, ?_⟩
    · rw [(crossAll_keeps p.val _ _).2]
      exact congrArg (fun v => Option.getD v 0) (SMap.get?_insert_self s.xbar.matched p.val (s.now / 4 + 1))
    · intro i hi o ho
      have stays : ∀ o' < 32, (i, o') ∉ pairsOf s p.val →
          stageOf (crossAll p.val (pairsOf s p.val) (withXbar (matchedXbar p.val s) s)) i o' p.val = stageOf s i o' p.val :=
        fun o' ho' hn => (stageOf_crossAll hm' hs ho').trans (if_neg hn)
      by_cases hin : (i, o) ∈ pairsOf s p.val
      · refine .inr ⟨(stageOf_crossAll hm' hs ho).trans (if_pos hin), fun o' ho' hne => stays o' ho' fun hin' => hne ?_⟩
        exact congrArg Prod.snd (hm'.unique hin' hin (.inl rfl))
      · exact .inl (stays o ho hin)
    · exact fun o ho => length_crossOf_crossAll hm' hs o
    · intro i hi o ho x l hx alone
      have hin : (i, o) ∈ pairsOf s p.val := mem_matchMore s p.val _ (mem_matchRound_of_alone hi ho hx alone)
      refine ⟨?_, ?_⟩
      · exact (stageOf_crossAll hm' hs ho).trans ((if_pos hin).trans (congrArg List.tail hx))
      · refine (crossOf_crossAll hm' hs hin).trans (congrArg (crossOf s p.val o ++ ·) ?_)
        change (stageOf s i o p.val).head?.toList.map _ = _
        rw [hx]
        rfl
end

section
/-!
SUPPORT. The reorder stores (R131 to R134): what a frame output or a cell output does with a delivered cell leaves the cells of
the store and the credit as they are.
-/
namespace Sys2Proof.Machine

/-! ### One reorder store -/

theorem reoOf_setReo {s : State} (h : s.Sound) (o i : Nat) (r : ReoSt) : reoOf (setReo o i r s) o i = r :=
  SMap.getD_put_self h.xbar.reo _ _ _

theorem reoOf_congr {s t : State} (h : t.xbar = s.xbar) (o i : Nat) : reoOf t o i = reoOf s o i := by
  rw [reoOf, h, reoOf]

/-- From s to t the store of output o for input i keeps its cells and its next XSEQ, and no credit moves. -/
structure StoreStays (o i : Nat) (s t : State) : Prop where
  sound : t.Sound
  spent : t.xbar.spent = s.xbar.spent
  next : (reoOf t o i).next = (reoOf s o i).next
  held : (reoOf t o i).held = (reoOf s o i).held

section
variable {o i : Nat} {s t u : State}

theorem StoreStays.refl (h : s.Sound) : StoreStays o i s s := ⟨h, rfl, rfl, rfl⟩

theorem StoreStays.trans (h : StoreStays o i s t) (h' : StoreStays o i t u) : StoreStays o i s u :=
  ⟨h'.sound, h'.spent.trans h.spent, h'.next.trans h.next, h'.held.trans h.held⟩

theorem StoreStays.of_xbar (h : StoreStays o i s t) (hx : u.xbar = t.xbar) (hu : u.Sound) : StoreStays o i s u :=
  ⟨hu, by rw [hx, h.spent], by rw [reoOf_congr hx, h.next], by rw [reoOf_congr hx, h.held]⟩

theorem StoreStays.of_pair {α : Type} {a : α} {e : α × State} (h : StoreStays o i s e.2) (he : e = (a, u)) : StoreStays o i s u := by
  rwa [he] at h

/-- An operation that does not touch the crossbar. -/
theorem StoreStays.keep (h : StoreStays o i s t) {T : Touch} (hk : Kept T t u) (hu : u.Sound)
    (hT : T.a.testBit 19 = false := by decide) : StoreStays o i s u := h.of_xbar (hk.xbar hT) hu

theorem StoreStays.count (h : StoreStays o i s t) (c : Cnt) (j k n : Nat) : StoreStays o i s (t.count c j k n) :=
  h.of_xbar rfl (sound_State_count _ _ _ _ _ h.sound)

theorem StoreStays.led (h : StoreStays o i s t) (term inst n : Nat) : StoreStays o i s (t.led term inst n) :=
  h.of_xbar rfl (sound_State_led _ _ _ _ h.sound)

/-- The open frame of the store, or whether its cells are discarded, is set. -/
theorem StoreStays.setReo (h : StoreStays o i s t) {r : ReoSt} (hn : r.next = (reoOf s o i).next)
    (hh : r.held = (reoOf s o i).held) : StoreStays o i s (setReo o i r t) :=
  ⟨sound_setReo _ _ _ _ h.sound, h.spent, by rw [reoOf_setReo h.sound, hn], by rw [reoOf_setReo h.sound, hh]⟩

theorem StoreStays.cellGone (h : StoreStays o i s t) (c : Cell) : StoreStays o i s (cellGone c t) :=
  h.keep (kept_cellGone (le_same _) c t (.refl _ t)) (sound_cellGone c t h.sound)

theorem StoreStays.txDropped (h : StoreStays o i s t) (g : Tag) : StoreStays o i s (txDropped g t) :=
  h.keep (kept_txDropped (le_same _) g t (.refl _ t)) (sound_txDropped g t h.sound)

theorem StoreStays.setQueue (h : StoreStays o i s t) (k : Nat) (q : Queue) : StoreStays o i s (setQueue k q t) :=
  h.keep (kept_setQueue (le_same _) k q t (.refl _ t)) (sound_setQueue k q t h.sound)

theorem StoreStays.settle (h : StoreStays o i s t) (k : Nat) (p : QUnit → Bool) (f : QUnit → QUnit) :
    StoreStays o i s (settle k p f t) :=
  h.keep (kept_settle (le_same _) k p f t (.refl _ t)) (sound_settle k p f t h.sound)

theorem StoreStays.dropFrame (h : StoreStays o i s t) (xp : Nat) (v : QUnit) : StoreStays o i s (dropFrame xp v t) :=
  h.keep (kept_dropFrame (le_same _) xp v t (.refl _ t)) (sound_dropFrame xp v t h.sound)

theorem StoreStays.dropOpen (h : StoreStays o i s t) (x j k : Nat) : StoreStays o i s (dropOpen x j k t).2 :=
  h.keep (of_snd (kept_dropOpen (le_same _) x j k t (.refl _ t))) (of_snd (sound_dropOpen x j k t h.sound))

theorem StoreStays.allocRsv (h : StoreStays o i s t) (l : List Nat) : StoreStays o i s (allocRsv l t).2 :=
  h.keep (of_snd (kept_allocRsv (le_same _) l t (.refl _ t))) (of_snd (sound_allocRsv l t h.sound))

theorem StoreStays.reserveTurn (h : StoreStays o i s t) (slot n : Nat) (refill : Bool) :
    StoreStays o i s (reserveTurn slot n refill t).2 :=
  h.keep (of_snd (kept_reserveTurn (le_same _) slot n refill t (.refl _ t))) (of_snd (sound_reserveTurn slot n refill t h.sound))

/-! ### The frame output -/

theorem StoreStays.refuseFrame (h : StoreStays o i s t) (c : Cell) : StoreStays o i s (refuseFrame o i c t) := by
  have h' := (((h.cellGone c).txDropped c.tag).led tIn4 o 1).led tDrop4 o 1
  exact h'.setReo h'.next h'.held

theorem stays_admitFrame (h : s.Sound) (queue : Nat) (c : Cell) : StoreStays o i s (admitFrame o i queue c s) := by
  have h0 : StoreStays o i s s := .refl h
  unfold admitFrame
  extract_lets +onlyGivenNames -merge k n
  split
  · exact (h0.count _ _ _ _).refuseFrame c
  · split
    · exact (h0.count _ _ _ _).refuseFrame c
    · exact (h0.count _ _ _ _).refuseFrame c
    · split
      next s1 taken => exact (((h0.reserveTurn _ _ _).of_pair taken).count _ _ _ _ |>.count _ _ _ _).refuseFrame c
      next s1 taken =>
        have h1 := (h0.reserveTurn _ _ _).of_pair taken
        extract_lets +onlyGivenNames -merge m
        split
        next tile s2 kept =>
          have h2 := (h1.allocRsv _).of_pair kept
          extract_lets +onlyGivenNames -merge _ c' v q s3 _ s4
          have h3 : StoreStays o i s s3 := (h2.led tIn4 o 1).setQueue k _
          have h4 : StoreStays o i s s4 := h3.setReo h3.next h3.held
          exact ite_holds (P := StoreStays o i s) (h4.setQueue k _) h4

/-- A middle or last cell that joins, or is lost with its frame. -/
theorem stays_joinFrame (h : s.Sound) (k : Nat) (c : Cell) : StoreStays o i s (joinFrame o i k c s) := by
  have shut : ∀ {t}, StoreStays o i s t → StoreStays o i s
      (if c.kind == 2 then Machine.setReo o i { reoOf t o i with openQ := none } t else t) := fun {t} ht =>
    ite_holds (P := StoreStays o i s) (ht.setReo ht.next ht.held) ht
  have h0 : StoreStays o i s s := .refl h
  unfold joinFrame
  extract_lets +onlyGivenNames -merge q last shutting
  split
  · exact shut ((h0.cellGone c).txDropped c.tag)
  · split
    next tile s1 kept =>
      have h1 := (h0.allocRsv _).of_pair kept
      extract_lets +onlyGivenNames -merge _ c' s2
      have h2 : StoreStays o i s s2 := h1.setQueue k _
      refine ite_holds (P := StoreStays o i s) ?_ h2
      exact (shut h2).settle k _ _

theorem stays_abortFrame (h : s.Sound) : StoreStays o i s (abortFrame o i s) := by
  unfold abortFrame
  extract_lets +onlyGivenNames -merge r s1
  have h1 : StoreStays o i s s1 := (StoreStays.refl h).setReo rfl rfl
  split
  · exact h1
  · extract_lets +onlyGivenNames -merge q
    split
    · exact h1
    · exact ite_holds (P := StoreStays o i s) (h1.settle _ _ _) (((h1.count _ _ _ _).setQueue _ _).dropFrame _ _)

theorem stays_badAtFrame (h : s.Sound) (c : Cell) : StoreStays o i s (badAtFrame o i c s) := by
  unfold badAtFrame
  extract_lets +onlyGivenNames -merge r ends
  have flags : ∀ {t} (x : Option Nat) (b : Bool), StoreStays o i s t →
      StoreStays o i s (Machine.setReo o i { r with openQ := x, skip := b } t) := fun _ _ ht => ht.setReo rfl rfl
  split
  next k _ =>
    extract_lets +onlyGivenNames -merge s1
    have h1 : StoreStays o i s s1 := flags none _ (.refl h)
    split
    next s2 dropped => exact ((h1.dropOpen o i k).of_pair dropped).count _ _ _ _
    next s2 dropped => exact (h1.dropOpen o i k).of_pair dropped
  · refine ite_holds (P := StoreStays o i s) (flags _ _ (.refl h)) ?_
    extract_lets +onlyGivenNames -merge s1 s2
    have h1 : StoreStays o i s s1 := ((StoreStays.refl h).count _ _ _ _).txDropped _
    have h2 : StoreStays o i s s2 := ite_holds (P := StoreStays o i s) (h1.led _ _ _) h1
    exact flags _ _ (h2.led _ _ _)

theorem stays_frameCell (h : s.Sound) (x : XCell) : StoreStays o i s (frameCell o i x s) := by
  unfold frameCell
  extract_lets +onlyGivenNames -merge r c
  refine ite_holds (P := StoreStays o i s) (stays_badAtFrame h c) ?_
  refine ite_holds (P := StoreStays o i s) (stays_abortFrame h) ?_
  refine ite_holds (P := StoreStays o i s) (stays_admitFrame h _ c) ?_
  split
  · exact stays_joinFrame h _ c
  · extract_lets +onlyGivenNames -merge s1
    have h1 : StoreStays o i s s1 := ((StoreStays.refl h).cellGone c).txDropped c.tag
    exact ite_holds (P := StoreStays o i s) (h1.setReo rfl rfl) h1

/-- A gap that is passed ends the open frame of the store. -/
theorem StoreStays.passGap (h : StoreStays o i s t) (gap : Nat) (x : XCell) : StoreStays o i s (passGap o i gap x t) := by
  unfold Machine.passGap
  extract_lets +onlyGivenNames -merge r head counted
  have counts : ∀ {u}, StoreStays o i s u → StoreStays o i s (counted u) := fun hu => (hu.count _ _ _ _).led _ _ _
  split
  next k _ =>
    extract_lets +onlyGivenNames -merge same s1 s2
    have h1 : StoreStays o i s s1 := h.setReo h.next h.held
    have h2 : StoreStays o i s s2 := by
      subst s2
      split
      next s3 dropped => exact ((h1.dropOpen o i k).of_pair dropped).count _ _ _ _
      next s3 dropped => exact (h1.dropOpen o i k).of_pair dropped
    exact ite_holds (P := StoreStays o i s) h2 (counts h2)
  · extract_lets +onlyGivenNames -merge s1
    have h1 : StoreStays o i s s1 := h.setReo h.next h.held
    exact ite_holds (P := StoreStays o i s) (counts h1) h1

/-! ### The outputs -/

theorem StoreStays.skyCell (h : StoreStays o i s t) (x : XCell) : StoreStays o i s (skyCell o x t) :=
  h.keep (kept_skyCell (le_same _) o x t (.refl _ t)) (sound_skyCell o x t h.sound)

theorem StoreStays.outGone (h : StoreStays o i s t) (c : Cell) : StoreStays o i s (outGone o c t) :=
  h.keep (kept_outGone (le_same _) o c t (.refl _ t)) (sound_outGone o c t h.sound)

/-- The credit that a cell which leaves the store returns. -/
def creditOf (o i : Nat) (x : XCell) (s : State) : State := if x.bad then s else creditBack o i 1 s

theorem sound_creditOf (h : s.Sound) (x : XCell) : (creditOf o i x s).Sound :=
  ite_holds (P := State.Sound) h (sound_creditBack _ _ _ _ h)

theorem stays_leaveReo (h : s.Sound) (x : XCell) : StoreStays o i (creditOf o i x s) (leaveReo o i x s) := by
  have h1 := (StoreStays.refl (o := o) (i := i) (sound_creditOf (o := o) (i := i) h x)).count .XBAR_OUT_CELL_CNT o 0 1
  change StoreStays o i _ (if o < 16 then frameCell o i x _ else Machine.skyCell o x _)
  split
  · exact h1.trans (stays_frameCell h1.sound x)
  · exact h1.skyCell x

end

end Sys2Proof.Machine
end

section
/-!
SUPPORT. The resequencer (R131, R134): the store delivers while the next XSEQ is there, and a gap that has lasted is passed.
-/
namespace Sys2Proof.Machine

/-- The credit that input i has spent for output o. -/
def spentOf (s : State) (i o : Nat) : Nat := SMap.getD s.xbar.spent (32 * i + o) 0

section
variable {o i : Nat} {s t : State} {x : XCell}

/-! ### Credit -/

theorem spentOf_creditBack (h : s.Sound) (n : Nat) : spentOf (creditBack o i n s) i o = spentOf s i o - n :=
  SMap.getD_upd_self h.xbar.spent _ 0 (fun k => k - n)

theorem StoreStays.spentOf_eq (h : StoreStays o i s t) (j k : Nat) : spentOf t j k = spentOf s j k := by
  rw [spentOf, h.spent, spentOf]

theorem reoOf_creditOf : reoOf (creditOf o i x s) o i = reoOf s o i := by
  unfold creditOf
  split <;> rfl

theorem spentOf_creditOf_le (h : s.Sound) : spentOf (creditOf o i x s) i o ≤ spentOf s i o := by
  unfold creditOf
  split
  · exact Nat.le_refl _
  · exact (spentOf_creditBack h 1).trans_le (Nat.sub_le _ _)

theorem spentOf_creditOf_good (h : s.Sound) (hb : x.bad = false) : spentOf (creditOf o i x s) i o = spentOf s i o - 1 := by
  rw [creditOf, hb, if_neg Bool.false_ne_true, spentOf_creditBack h]

/-! ### Delivery -/

/-- The store once the cells of the next XSEQ have left it. -/
def takeNext (r : ReoSt) : ReoSt :=
  { r with next := (r.next + 1) % 65536, held := r.held.filter (fun y => y.xseq != r.next), gapAt := none }

/-- The cell of the next XSEQ that the store holds. -/
def nextHeld (r : ReoSt) : Option XCell := r.held.find? (fun x => x.xseq == r.next)

theorem nextHeld_none {r : ReoSt} : nextHeld r = none ↔ ∀ y ∈ r.held, y.xseq ≠ r.next := by
  simp [nextHeld]

/-- The cell x leaves the store and is delivered. -/
def deliverNext (o i : Nat) (x : XCell) (s : State) : State := leaveReo o i x (setReo o i (takeNext (reoOf s o i)) s)

theorem drainReo_delivers (hx : nextHeld (reoOf s o i) = some x) (f : Nat) :
    drainReo o i (f + 1) s = drainReo o i f (deliverNext o i x s) := by
  rw [nextHeld] at hx
  rw [drainReo, hx]
  rfl

/-- A store without its next cell keeps what it holds. -/
theorem drainReo_waits (h : s.Sound) (hw : nextHeld (reoOf s o i) = none) (f : Nat) :
    StoreStays o i s (drainReo o i f s) ∧ (drainReo o i f s).cnts = s.cnts := by
  cases f with
  | zero => exact ⟨.refl h, rfl⟩
  | succ f =>
    rw [nextHeld] at hw
    rw [drainReo, hw]
    dsimp only
    split
    · exact ⟨.refl h, rfl⟩
    · exact ⟨(StoreStays.refl h).setReo rfl rfl, rfl⟩

theorem sound_deliverNext (h : s.Sound) : (deliverNext o i x s).Sound := sound_leaveReo _ _ _ _ (sound_setReo _ _ _ _ h)

/-- What a delivery leaves: the store without its next cells, and no more credit spent than before; the credit of a good cell has
returned. -/
theorem deliverNext_store (h : s.Sound) : (reoOf (deliverNext o i x s) o i).next = (takeNext (reoOf s o i)).next
    ∧ (reoOf (deliverNext o i x s) o i).held = (takeNext (reoOf s o i)).held ∧ spentOf (deliverNext o i x s) i o ≤ spentOf s i o
    ∧ (x.bad = false → spentOf (deliverNext o i x s) i o = spentOf s i o - 1) := by
  have h1 : (setReo o i (takeNext (reoOf s o i)) s).Sound := sound_setReo _ _ _ _ h
  have stays := stays_leaveReo (o := o) (i := i) h1 x
  refine ⟨?_, ?_, ?_, fun hb => ?_⟩
  · rw [deliverNext, stays.next, reoOf_creditOf, reoOf_setReo h]
  · rw [deliverNext, stays.held, reoOf_creditOf, reoOf_setReo h]
  · exact (stays.spentOf_eq i o).trans_le (spentOf_creditOf_le h1)
  · exact (stays.spentOf_eq i o).trans (spentOf_creditOf_good h1 hb)

/-- A delivered cell counts at its output. -/
theorem cnt_deliverNext (h : s.Sound) : (deliverNext o i x s).cnt .XBAR_OUT_CELL_CNT o = s.cnt .XBAR_OUT_CELL_CNT o + 1#64
    ∧ ∀ k, (deliverNext o i x s).cnt .XBAR_PLANE_CELL_CNT k = s.cnt .XBAR_PLANE_CELL_CNT k := by
  have h1 : (setReo o i (takeNext (reoOf s o i)) s).Sound := sound_setReo _ _ _ _ h
  have h2 := sound_creditOf (o := o) (i := i) h1 x
  have cnts : (creditOf o i x (setReo o i (takeNext (reoOf s o i)) s)).cnts = s.cnts := by
    unfold creditOf
    split <;> rfl
  have counted := cnt_count h2.cnts .XBAR_OUT_CELL_CNT o 0 1
  have h3 := sound_State_count _ .XBAR_OUT_CELL_CNT o 0 1 h2
  rw [cnt_congr cnts] at counted
  refine ⟨?_, fun k => (kept_leaveReo (le_same _) o i x _ (.refl _ _)).cnt h1 (sound_deliverNext h) (by decide +kernel) k 0⟩
  rw [← show _ = s.cnt .XBAR_OUT_CELL_CNT o + 1#64 from counted]
  change (if o < 16 then frameCell o i x _ else skyCell o x _).cnt _ _ = _
  split
  · exact (kept_frameCell (le_same _) o i x _ (.refl _ _)).cnt h3 (sound_frameCell _ _ _ _ h3) (by decide +kernel) o 0
  · exact (kept_skyCell (le_same _) o x _ (.refl _ _)).cnt h3 (sound_skyCell _ _ _ h3) (by decide +kernel) o 0

/-- Draining takes cells out of the store and credit back, and nothing else. -/
theorem drainReo_removes (h : s.Sound) (f : Nat) : (∀ y ∈ (reoOf (drainReo o i f s) o i).held, y ∈ (reoOf s o i).held)
    ∧ spentOf (drainReo o i f s) i o ≤ spentOf s i o := by
  induction f generalizing s with
  | zero => exact ⟨fun y hy => hy, Nat.le_refl _⟩
  | succ f ih =>
    rcases hx : nextHeld (reoOf s o i) with _ | x
    · obtain ⟨stays, -⟩ := drainReo_waits h hx (f + 1)
      exact ⟨fun y hy => stays.held ▸ hy, (stays.spentOf_eq i o).le⟩
    · rw [drainReo_delivers hx]
      obtain ⟨-, held, le, -⟩ := deliverNext_store (x := x) (o := o) (i := i) h
      obtain ⟨sub, le'⟩ := ih (sound_deliverNext (x := x) h)
      exact ⟨fun y hy => List.mem_of_mem_filter (held ▸ sub y hy), le'.trans le⟩

/-- Where the store holds its next XSEQ, draining leaves no cell of that XSEQ. -/
theorem drainReo_takes_next (h : s.Sound) {y : XCell} (hy : y ∈ (reoOf s o i).held) (hn : y.xseq = (reoOf s o i).next) (f : Nat) :
    ∀ z ∈ (reoOf (drainReo o i (f + 1) s) o i).held, z.xseq ≠ (reoOf s o i).next := by
  rcases hx : nextHeld (reoOf s o i) with _ | x
  · exact absurd hn (nextHeld_none.mp hx y hy)
  · rw [drainReo_delivers hx]
    intro z hz
    have hz' := (drainReo_removes (sound_deliverNext (x := x) h) f).1 z hz
    rw [(deliverNext_store h).2.1] at hz'
    exact bne_iff_ne.mp (List.mem_filter.mp hz').2

/-! ### A cell enters -/

/-- The store with a cell more. -/
def heldToo (r : ReoSt) (x : XCell) : ReoSt := { r with held := r.held ++ [x] }

theorem enterReo_eq (o : Nat) (x : XCell) (s : State) :
    enterReo o x s = drainReo o x.src 257 (setReo o x.src (heldToo (reoOf s o x.src) x) s) := rfl

/-- A cell out of order is held, and no other cell moves (R131). -/
theorem enterReo_early (h : s.Sound) (hx : x.xseq ≠ (reoOf s o x.src).next) (hh : nextHeld (reoOf s o x.src) = none) :
    (reoOf (enterReo o x s) o x.src).held = (reoOf s o x.src).held ++ [x]
      ∧ (reoOf (enterReo o x s) o x.src).next = (reoOf s o x.src).next
      ∧ (enterReo o x s).xbar.spent = s.xbar.spent ∧ (enterReo o x s).cnts = s.cnts := by
  have h1 : (setReo o x.src (heldToo (reoOf s o x.src) x) s).Sound := sound_setReo _ _ _ _ h
  have read := reoOf_setReo h o x.src (heldToo (reoOf s o x.src) x)
  have waits : nextHeld (reoOf (setReo o x.src (heldToo (reoOf s o x.src) x) s) o x.src) = none := by
    rw [read, nextHeld_none]
    intro y hy
    rcases List.mem_append.mp hy with hy | hy
    · exact nextHeld_none.mp hh y hy
    · rw [List.mem_singleton.mp hy]
      exact hx
  obtain ⟨stays, cnts⟩ := drainReo_waits h1 waits 257
  rw [enterReo_eq]
  exact ⟨by rw [stays.held, read]; rfl, by rw [stays.next, read]; rfl, stays.spent, cnts⟩

/-- The next cell in order passes an empty store (R131). -/
theorem enterReo_next (h : s.Sound) (hb : x.bad = false) (hx : x.xseq = (reoOf s o x.src).next)
    (hh : (reoOf s o x.src).held = []) :
    (reoOf (enterReo o x s) o x.src).held = [] ∧ (reoOf (enterReo o x s) o x.src).next = (x.xseq + 1) % 65536
      ∧ spentOf (enterReo o x s) x.src o = spentOf s x.src o - 1
      ∧ (∀ k, (enterReo o x s).cnt .XBAR_PLANE_CELL_CNT k = s.cnt .XBAR_PLANE_CELL_CNT k)
      ∧ (enterReo o x s).cnt .XBAR_OUT_CELL_CNT o = s.cnt .XBAR_OUT_CELL_CNT o + 1#64 := by
  have h1 : (setReo o x.src (heldToo (reoOf s o x.src) x) s).Sound := sound_setReo _ _ _ _ h
  have read := reoOf_setReo h o x.src (heldToo (reoOf s o x.src) x)
  have alone : heldToo (reoOf s o x.src) x = { reoOf s o x.src with held := [x] } := by rw [heldToo, hh]; rfl
  have due : nextHeld { reoOf s o x.src with held := [x] } = some x := by simp [nextHeld, hx]
  have left : (takeNext { reoOf s o x.src with held := [x] }).held = [] := by simp [takeNext, hx]
  have spent : spentOf (setReo o x.src (heldToo (reoOf s o x.src) x) s) x.src o = spentOf s x.src o := rfl
  have cnts : (setReo o x.src (heldToo (reoOf s o x.src) x) s).cnts = s.cnts := rfl
  rw [enterReo_eq]
  generalize setReo o x.src (heldToo (reoOf s o x.src) x) s = u at *
  rw [alone] at read
  obtain ⟨next, held, -, credit⟩ := deliverNext_store (x := x) (o := o) (i := x.src) h1
  obtain ⟨out, plane⟩ := cnt_deliverNext (x := x) (o := o) (i := x.src) h1
  rw [read] at next held
  rw [left] at held
  obtain ⟨stays, same⟩ := drainReo_waits (sound_deliverNext (x := x) h1) (nextHeld_none.mpr fun y hy => by
    rw [held] at hy
    cases hy) 256
  rw [drainReo_delivers (read ▸ due)]
  refine ⟨stays.held.trans held, stays.next.trans (next.trans ?_), (stays.spentOf_eq _ _).trans ((credit hb).trans (by rw [spent])),
    fun k => ?_, ?_⟩
  · rw [hx]
    rfl
  · rw [cnt_congr same, plane, cnt_congr cnts]
  · rw [cnt_congr same, out, cnt_congr cnts]

/-- A cell that failed its check returns its credit at once and stands bad in the store until its turn (R132). -/
theorem badCell_early (h : s.Sound) (hx : x.xseq ≠ (reoOf s o x.src).next) (hh : nextHeld (reoOf s o x.src) = none) :
    (reoOf (badCell o x s) o x.src).held = (reoOf s o x.src).held ++ [{ x with bad := true }]
      ∧ spentOf (badCell o x s) x.src o = spentOf s x.src o - 1 := by
  have h1 := sound_State_countIf s (decide (16 ≤ o)) .XBAR_CELL_LOSS_CNT o 0 h
  have h2 := sound_creditBack o x.src 1 _ h1
  have xbar := countIf_xbar s (decide (16 ≤ o)) .XBAR_CELL_LOSS_CNT o 0
  have store : reoOf (creditBack o x.src 1 (s.countIf (decide (16 ≤ o)) .XBAR_CELL_LOSS_CNT o)) o x.src = reoOf s o x.src :=
    reoOf_congr xbar o x.src
  have stays := (StoreStays.refl (o := o) (i := x.src) h2).outGone x.cell
  have next := stays.next
  have held := stays.held
  have credit := (stays.spentOf_eq x.src o).trans (spentOf_creditBack h1 1)
  rw [store] at next held
  rw [spentOf, spentOf, xbar] at credit
  have waits : nextHeld (reoOf (outGone o x.cell
      (creditBack o x.src 1 (s.countIf (decide (16 ≤ o)) .XBAR_CELL_LOSS_CNT o))) o x.src) = none := by
    rw [nextHeld, next, held]
    exact hh
  obtain ⟨stored, -, spent, -⟩ := enterReo_early (x := { x with bad := true }) stays.sound (by rwa [next]) waits
  refine ⟨stored.trans (by rw [held]), ?_⟩
  rw [badCell, spentOf, spent, credit, spentOf]

/-! ### A gap -/

theorem afterGap_mem {r : ReoSt} (h : afterGap r = some x) : x ∈ r.held := by
  have held : OptHolds (· ∈ r.held) (afterGap r) := by
    refine List.foldlRecOn r.held _ none_holds fun a ha y hy => ?_
    split
    · exact some_holds hy
    · exact ite_holds (P := OptHolds (· ∈ r.held)) (some_holds hy) ha
  exact held x h

/-- The clocks that a gap may last (R134). -/
def gapLimit (s : State) : Nat := min 1024 (max 1 (s.fld .XBAR_RESEQ_CFG_TIMEOUT_US)) * 1600

/-- The XSEQs between the next one and that of x. -/
def gapBefore (r : ReoSt) (x : XCell) : Nat := (x.xseq + 65536 - r.next) % 65536

/-- The state in which a gap before x has been passed and counted, and the credit of its cells has returned. -/
def gapPassed (o i : Nat) (x : XCell) (s : State) : State :=
  creditBack o i (gapBefore (reoOf s o i) x)
    (setReo o i { reoOf s o i with next := x.xseq, gapAt := none } (s.count .XBAR_RESEQ_TIMEOUT_CNT o))

theorem reseqTimeout_early {e : Nat} (hg : (reoOf s o i).gapAt = some e) (ha : afterGap (reoOf s o i) = some x)
    (ht : s.now < e + gapLimit s) : reseqTimeout o i s = s := by
  rw [reseqTimeout, hg, ha]
  exact if_pos ht

theorem reseqTimeout_due {e : Nat} (hg : (reoOf s o i).gapAt = some e) (ha : afterGap (reoOf s o i) = some x)
    (ht : e + gapLimit s ≤ s.now) : reseqTimeout o i s = drainReo o i 257
      (if o < 16 then passGap o i (gapBefore (reoOf s o i) x) x (gapPassed o i x s) else gapPassed o i x s) := by
  rw [reseqTimeout, hg, ha]
  exact if_neg (Nat.not_lt.mpr ht)

/-- A gap that has lasted its time is counted; the cell after it is delivered, and the credit of the lost cells returns (R134). -/
theorem reseqTimeout_passes (h : s.Sound) {e : Nat} (hg : (reoOf s o i).gapAt = some e) (ha : afterGap (reoOf s o i) = some x)
    (ht : e + gapLimit s ≤ s.now) :
    (reseqTimeout o i s).cnt .XBAR_RESEQ_TIMEOUT_CNT o = s.cnt .XBAR_RESEQ_TIMEOUT_CNT o + 1#64
      ∧ (∀ y ∈ (reoOf (reseqTimeout o i s) o i).held, y.xseq ≠ x.xseq)
      ∧ spentOf (reseqTimeout o i s) i o ≤ spentOf s i o - gapBefore (reoOf s o i) x := by
  have h1 : (s.count .XBAR_RESEQ_TIMEOUT_CNT o).Sound := sound_State_count _ _ _ _ _ h
  have h2 := sound_setReo o i { reoOf s o i with next := x.xseq, gapAt := none } _ h1
  have h3 : (gapPassed o i x s).Sound := sound_creditBack _ _ _ _ h2
  have read : reoOf (gapPassed o i x s) o i = { reoOf s o i with next := x.xseq, gapAt := none } := reoOf_setReo h1 _ _ _
  have credit : spentOf (gapPassed o i x s) i o = spentOf s i o - gapBefore (reoOf s o i) x := spentOf_creditBack h2 _
  have counted : (gapPassed o i x s).cnt .XBAR_RESEQ_TIMEOUT_CNT o = s.cnt .XBAR_RESEQ_TIMEOUT_CNT o + 1#64 :=
    cnt_count h.cnts .XBAR_RESEQ_TIMEOUT_CNT o 0 1
  have stays : StoreStays o i (gapPassed o i x s)
      (if o < 16 then passGap o i (gapBefore (reoOf s o i) x) x (gapPassed o i x s) else gapPassed o i x s) :=
    ite_holds (P := StoreStays o i _) ((StoreStays.refl h3).passGap _ x) (.refl h3)
  have kept : Kept ⟨3938304, 0x800000000004000000002000000580000000000000,
      0x4000000000000000000000024020400000000000000⟩ (gapPassed o i x s)
      (if o < 16 then passGap o i (gapBefore (reoOf s o i) x) x (gapPassed o i x s) else gapPassed o i x s) :=
    ite_holds (P := Kept _ _) (kept_passGap (le_same _) _ _ _ _ _ (.refl _ _)) (.refl _ _)
  have count := kept.cnt h3 stays.sound (c := .XBAR_RESEQ_TIMEOUT_CNT) (by decide +kernel) o 0
  have next := stays.next
  have held := stays.held
  have spent := stays.spentOf_eq i o
  have sound := stays.sound
  rw [read] at next held
  rw [reseqTimeout_due hg ha ht]
  generalize (if o < 16 then passGap o i (gapBefore (reoOf s o i) x) x (gapPassed o i x s) else gapPassed o i x s) = u at *
  refine ⟨?_, ?_, ?_⟩
  · rw [← counted, ← count]
    exact (kept_drainReo (le_same _) o i 257 u (.refl _ u)).cnt sound (sound_drainReo _ _ _ _ sound) (by decide +kernel) o 0
  · have inStore : x ∈ (reoOf u o i).held := held ▸ afterGap_mem (r := reoOf s o i) ha
    have gone := drainReo_takes_next sound inStore next.symm 256
    rwa [next] at gone
  · rw [← credit, ← spent]
    exact (drainReo_removes sound 257).2

end

end Sys2Proof.Machine
end

section
/-!
SUPPORT. Cells that arrive over a plane (R125, R132): what an undamaged tag reads as, and the three outcomes of an arrival.
-/
namespace Sys2Proof.Machine

/-! ### The tag -/

theorem tagCheck_lt (w : Nat) : tagCheck w < 256 := by
  refine List.foldlRecOn (motive := fun a => a < 256) _ _ (by decide) fun a ha e he => ?_
  have col : e.1 < 256 := List.mem_range.mp (List.mem_of_mem_filter (List.fst_mem_of_mem_zipIdx he))
  exact ite_holds (P := fun a => a < 256) (Nat.xor_lt_two_pow (n := 8) ha col) ha

/-- The 56 bits of a tag beside its check bits. -/
def tagBits (x : XCell) : Nat :=
  x.xseq % 65536 * 2 ^ 40 + x.src % 32 * 2 ^ 35 + x.out % 32 * 2 ^ 30 + x.queue % 4096 * 2 ^ 18
    + x.cell.kind % 4 * 2 ^ 16 + b2n x.abort * 2 ^ 15

theorem b2n_le (b : Bool) : b2n b ≤ 1 := by cases b <;> decide

theorem tagBits_lt (x : XCell) : tagBits x < 2 ^ 56 := by
  have := b2n_le x.abort
  unfold tagBits
  omega

theorem tagWord_eq (x : XCell) : tagWord x = tagCheck (tagBits x) * 2 ^ 56 + tagBits x := rfl

/-- An undamaged tag reads as it was written. -/
theorem readTag_tagWord (x : XCell) : readTag (tagWord x) = some (tagBits x, false) := by
  have low : tagWord x % 2 ^ 56 = tagBits x := by
    rw [tagWord_eq, Nat.mul_add_mod_self_right, Nat.mod_eq_of_lt (tagBits_lt x)]
  have high : tagWord x / 2 ^ 56 % 256 = tagCheck (tagBits x) := by
    rw [tagWord_eq, Nat.add_comm, Nat.add_mul_div_right _ _ (by decide), Nat.div_eq_of_lt (tagBits_lt x), Nat.zero_add,
      Nat.mod_eq_of_lt (tagCheck_lt _)]
  unfold readTag
  dsimp only
  rw [low, high, Nat.xor_self, if_pos rfl]

/-- The fields of a cell that fit their places in the tag are read back. -/
theorem tagged_tagBits {x : XCell} (hx : x.xseq < 65536) (hs : x.src < 32) (hq : x.queue < 4096) : x.tagged (tagBits x) = x := by
  have := b2n_le x.abort
  have xseq : bits (tagBits x) 55 40 = x.xseq := by
    rw [bits, Nat.shiftRight_eq_div_pow, tagBits]
    omega
  have src : bits (tagBits x) 39 35 = x.src := by
    rw [bits, Nat.shiftRight_eq_div_pow, tagBits]
    omega
  have queue : bits (tagBits x) 29 18 = x.queue := by
    rw [bits, Nat.shiftRight_eq_div_pow, tagBits]
    omega
  have abort : (tagBits x).testBit 15 = x.abort := by
    have mark : bits (tagBits x) 15 15 = b2n x.abort := by
      rw [bits, Nat.shiftRight_eq_div_pow, tagBits]
      omega
    rw [bits_one] at mark
    revert mark
    cases (tagBits x).testBit 15 <;> cases x.abort <;> decide
  rw [XCell.tagged, xseq, src, queue, abort]

/-! ### The cell leaves its plane -/

/-- The state once the first cell for output o has left plane p, counted. -/
def leftPlane (p o : Nat) (rest : List XCell) (s : State) : State :=
  (withXbar { s.xbar with cross := SMap.put s.xbar.cross (32 * p + o) [] rest } s).count .XBAR_PLANE_CELL_CNT p

section
variable {p o : Nat} {s : State} {x : XCell} {rest : List XCell}

theorem sound_leftPlane (h : s.Sound) : (leftPlane p o rest s).Sound :=
  sound_State_count _ _ _ _ _ (sound_withXbar h { h.xbar with cross := SMap.sorted_put h.xbar.cross _ _ _ })

theorem cnt_leftPlane (h : s.Sound) : (leftPlane p o rest s).cnt .XBAR_PLANE_CELL_CNT p = s.cnt .XBAR_PLANE_CELL_CNT p + 1#64 :=
  cnt_count (s := withXbar _ s) h.cnts .XBAR_PLANE_CELL_CNT p 0 1

theorem cnt_leftPlane_apart (h : s.Sound) {c : Cnt} (hc : cntApart c .XBAR_PLANE_CELL_CNT = true) (k : Nat) :
    (leftPlane p o rest s).cnt c k = s.cnt c k :=
  cnt_count_apart (s := withXbar _ s) h.cnts hc p 0 1 k 0

/-- A cell that was matched in an earlier cell time arrives. -/
theorem cellArrive_of_cons (hc : SMap.getD s.xbar.cross (32 * p + o) [] = x :: rest) (ht : x.at_ / 4 < s.now / 4) (d : CellDamage) :
    cellArrive p o d .none s = withTag p o d.crc x (readTag (tagWord x ^^^ d.flips.toNat)) (leftPlane p o rest s) := by
  unfold cellArrive
  dsimp only
  rw [hc]
  exact if_neg (Nat.not_le.mpr ht)

/-- With its tag undamaged, and not passed by a timeout, it enters the store, good or bad. -/
theorem cellArrive_undamaged (hc : SMap.getD s.xbar.cross (32 * p + o) [] = x :: rest) (ht : x.at_ / 4 < s.now / 4)
    (hx : x.xseq < 65536) (hs : x.src < 32) (hq : x.queue < 4096) (hp : passedBy s o x = false) :
    cellArrive p o CellDamage.none .none s = enterReo o x (leftPlane p o rest s)
      ∧ cellArrive p o ⟨0#64, true⟩ .none s = badCell o x (planeEvent p ((leftPlane p o rest s).count .XBAR_CELL_ERR_CNT p)) := by
  have event : (planeEvent p ((leftPlane p o rest s).count .XBAR_CELL_ERR_CNT p)).xbar = (leftPlane p o rest s).xbar :=
    (kept_planeEvent (le_same _) p _ (.refl _ _)).xbar (by decide)
  have clean : ∀ crc, withTag p o crc x (readTag (tagWord x ^^^ 0)) (leftPlane p o rest s) =
      let u := if crc then planeEvent p ((leftPlane p o rest s).count .XBAR_CELL_ERR_CNT p) else leftPlane p o rest s
      if passedBy u o x then outGone o x.cell u else if crc then badCell o x u else enterReo o x u := fun crc => by
    rw [Nat.xor_zero, readTag_tagWord, withTag, tagged_tagBits hx hs hq]
    rfl
  have open1 : passedBy (leftPlane p o rest s) o x = false := hp
  have open2 : passedBy (planeEvent p ((leftPlane p o rest s).count .XBAR_CELL_ERR_CNT p)) o x = false := by
    rw [passedBy, reoOf_congr event]
    exact hp
  refine ⟨(cellArrive_of_cons hc ht _).trans ((clean false).trans ?_), (cellArrive_of_cons hc ht _).trans ((clean true).trans ?_)⟩
  · dsimp only
    rw [if_neg Bool.false_ne_true, open1, if_neg Bool.false_ne_true, if_neg Bool.false_ne_true]
  · dsimp only
    rw [if_pos rfl, open2, if_neg Bool.false_ne_true, if_pos rfl]

/-- What becomes of a cell without a tag: the event of its plane, the report and the excuse, and the end of its stay. -/
def tagLost (p : Nat) (x : XCell) (s : State) : State := cellGone x.cell (excuse 4 (memRecord 4 p 0 p (planeEvent p s)))

theorem tagLost_kept (p : Nat) (x : XCell) (s : State) : Kept ⟨2365440, 0x680000000000004000000000000000000600000000000,
    0x500000000000000000000000000000000000000000000000⟩ s (tagLost p x s) :=
  kept_cellGone (by decide) _ _ (kept_excuse (by decide) _ _ (kept_memRecord (by decide) _ _ _ _ _
    (kept_planeEvent (by decide) _ _ (.refl _ s))))

theorem sound_tagLost (h : s.Sound) : (tagLost p x s).Sound :=
  sound_cellGone _ _ (sound_excuse _ _ (sound_memRecord _ _ _ _ _ (sound_planeEvent _ _ h)))

/-- A cell whose tag cannot be corrected is counted and delivered nowhere (R132). -/
theorem cellArrive_lost (h : s.Sound) (hc : SMap.getD s.xbar.cross (32 * p + o) [] = x :: rest) (ht : x.at_ / 4 < s.now / 4)
    {d : CellDamage} (hd : readTag (tagWord x ^^^ d.flips.toNat) = none) :
    (cellArrive p o d .none s).xbar = (leftPlane p o rest s).xbar
      ∧ (cellArrive p o d .none s).cnt .XBAR_TAG_UNCORR_CNT p = s.cnt .XBAR_TAG_UNCORR_CNT p + 1#64 := by
  have hl := sound_leftPlane (p := p) (o := o) (rest := rest) h
  have h1 := sound_State_count _ .XBAR_TAG_UNCORR_CNT p 0 1 hl
  have run : cellArrive p o d .none s = tagLost p x ((leftPlane p o rest s).count .XBAR_TAG_UNCORR_CNT p) := by
    rw [cellArrive_of_cons hc ht, hd]
    rfl
  have kept := tagLost_kept p x ((leftPlane p o rest s).count .XBAR_TAG_UNCORR_CNT p)
  rw [run]
  refine ⟨(kept.xbar (by decide)).trans (count_xbar _ _ _ _ _), ?_⟩
  rw [kept.cnt h1 (sound_tagLost h1) (by decide +kernel), cnt_count hl.cnts, cnt_leftPlane_apart h (by decide)]

end

end Sys2Proof.Machine
end

section
open Sys2Proof Sys2Proof.Machine

/-- Settles O28: a cell that enters the store early, bad or in order (`enterReo_early`, `badCell_early`, `enterReo_next`), one
without a tag (`cellArrive_lost`), and the gap that is passed (`reseqTimeout_passes`). -/
theorem crossbarArrival : Obligations.CrossbarArrival := by
  unfold Obligations.CrossbarArrival
  refine ⟨fun s p o x l h hf hc ht hx hs hq hb => ⟨fun hne hp hh => ⟨?early, ?bad⟩, fun hn he => ?next, fun d hd => ?lost⟩,
    fun s o i e x h hg ha => ⟨fun hf ht => ?passed, fun ht => ?waits⟩⟩
  case lost =>
    obtain ⟨xbar, count⟩ := cellArrive_lost h hc ht hd
    refine ⟨_, congrArg Host.Outcome.next (running_runs hf (cellArrive p.val o.val d .none)), ?_, ?_, ?_, count⟩
    · rw [xbar]
      rfl
    · rw [xbar]
      rfl
    · rw [xbar]
      exact SMap.getD_put_self h.xbar.cross _ _ _
  case passed =>
    exact ⟨_, congrArg Host.Outcome.next (running_runs hf (reseqTimeout o.val i.val)), reseqTimeout_passes h hg ha ht⟩
  case waits => exact congrArg Host.Outcome.next (running_of_unchanged (reseqTimeout_early hg ha ht))
  all_goals have hl := sound_leftPlane (p := p.val) (o := o.val) (rest := l) h
  case early =>
    obtain ⟨good, -⟩ := cellArrive_undamaged hc ht hx hs hq hp
    obtain ⟨held, next, spent, cnts⟩ := enterReo_early hl hne (nextHeld_none.mpr hh)
    refine ⟨_, congrArg Host.Outcome.next ((running_runs hf _).trans good), held, next, spent, ?_, ?_⟩
    · rw [cnt_congr cnts, cnt_leftPlane h]
    · rw [cnt_congr cnts, cnt_leftPlane_apart h (by decide)]
  case bad =>
    obtain ⟨-, bad⟩ := cellArrive_undamaged hc ht hx hs hq hp
    have h1 := sound_State_count _ .XBAR_CELL_ERR_CNT p.val 0 1 hl
    have h2 := sound_planeEvent p.val _ h1
    have event := kept_planeEvent (le_same _) p.val _ (.refl _ ((leftPlane p.val o.val l s).count .XBAR_CELL_ERR_CNT p.val))
    have store : reoOf (planeEvent p.val ((leftPlane p.val o.val l s).count .XBAR_CELL_ERR_CNT p.val)) o.val x.src
        = reoOf s o.val x.src := reoOf_congr (event.xbar (by decide)) _ _
    obtain ⟨held, spent⟩ := badCell_early (o := o.val) (x := x) h2 (by rwa [store]) (by rw [store]; exact nextHeld_none.mpr hh)
    refine ⟨_, congrArg Host.Outcome.next ((running_runs hf _).trans bad), by rw [held, store], ?_, ?_⟩
    · refine spent.trans ?_
      rw [spentOf, event.xbar (by decide)]
      rfl
    · rw [(kept_badCell (le_same _) o.val x _ (.refl _ _)).cnt h2 (sound_badCell _ _ _ h2) (by decide +kernel),
        event.cnt h1 h2 (by decide +kernel), cnt_count hl.cnts, cnt_leftPlane_apart h (by decide)]
  case next =>
    have hp : passedBy s o.val x = false := by
      rw [passedBy, decide_eq_false_iff_not]
      omega
    obtain ⟨good, -⟩ := cellArrive_undamaged hc ht hx hs hq hp
    obtain ⟨held, next, spent, plane, out⟩ := enterReo_next hl hb hn he
    refine ⟨_, congrArg Host.Outcome.next ((running_runs hf _).trans good), held, next, spent, ?_, ?_⟩
    · rw [plane, cnt_leftPlane h]
    · rw [out, cnt_leftPlane_apart h (by decide)]
end

section
/-!
SUPPORT. Tiles (R144 to R146): their states after an allocation, a release and a failed check, and what such an operation leaves of
the buffer and of a counter.
-/
namespace Sys2Proof.Machine

/-! ### The state of a tile -/

theorem tileOf_setTile {s : State} (h : s.Sound) (p t : Nat) (x : Option TileSt) : tileOf (setTile p t x s) p t = x := by
  cases x with
  | none => exact SMap.get?_erase_self h.buf.tiles
  | some v => exact SMap.get?_insert_self _ _ _

theorem tileOf_congr {s t : State} (h : t.buf = s.buf) (p n : Nat) : tileOf t p n = tileOf s p n := by
  unfold tileOf; rw [h]

theorem metaOf_congr {s t : State} (h : t.buf = s.buf) (p n : Nat) : metaOf t p n = metaOf s p n := by
  unfold metaOf; rw [h]

theorem tileOf_takeTile {s : State} (h : s.Sound) (p t : Nat) : tileOf (takeTile p t s) p t = some {} :=
  tileOf_setTile h p t (some {})

/-- A tile in use that is released is FREE. -/
theorem tileOf_freeTile {s : State} (h : s.Sound) {p t : Nat} {x : TileSt} (hx : tileOf s p t = some x) (hq : x.quar = false) :
    tileOf (freeTile p t s) p t = none := by
  unfold freeTile
  rw [hx]
  dsimp only
  rw [if_neg (by rw [hq]; exact Bool.false_ne_true)]
  exact tileOf_setTile h p t none

/-- A release changes no metadata record and no carve. -/
theorem freeTile_metas (p t : Nat) (s : State) :
    (freeTile p t s).buf.metas = s.buf.metas ∧ (freeTile p t s).buf.carved = s.buf.carved := by
  have double : (fault 4 p t 0 (s.count .BUF_DOUBLE_FREE_CNT p)).buf = s.buf :=
    (kept_fault (le_same _) 4 p t 0 _ (.refl _ (s.count .BUF_DOUBLE_FREE_CNT p))).buf (by decide)
  unfold freeTile
  split
  · refine ite_holds (P := fun u : State => u.buf.metas = s.buf.metas ∧ u.buf.carved = s.buf.carved) ?_ ⟨rfl, rfl⟩
    rw [double]
    exact ⟨rfl, rfl⟩
  · rw [double]
    exact ⟨rfl, rfl⟩

theorem freeTiles_metas (p : Nat) (l : List (Nat × Cell)) (s : State) :
    (l.foldl (fun s e => freeTile p e.1 s) s).buf.metas = s.buf.metas
      ∧ (l.foldl (fun s e => freeTile p e.1 s) s).buf.carved = s.buf.carved :=
  foldl_holds (P := fun u : State => u.buf.metas = s.buf.metas ∧ u.buf.carved = s.buf.carved)
    (fun u (e : Nat × Cell) ⟨hm, hc⟩ => ⟨(freeTile_metas p e.1 u).1.trans hm, (freeTile_metas p e.1 u).2.trans hc⟩) ⟨rfl, rfl⟩

/-! ### What stays beside the buffer -/

/-- Since s the buffer has not changed, and counter c reads as before. -/
structure BufStays (c : Cnt) (s t : State) : Prop where
  sound : t.Sound
  buf : t.buf = s.buf
  cnt : ∀ i, t.cnt c i = s.cnt c i

theorem BufStays.refl {c : Cnt} {s : State} (h : s.Sound) : BufStays c s s := ⟨h, rfl, fun _ => rfl⟩

/-- An operation whose frame names neither the buffer nor the counter. -/
theorem BufStays.kept {c : Cnt} {s t u : State} (h : BufStays c s t) {T : Touch} (k : Kept T t u) (hu : u.Sound)
    (hb : T.a.testBit 20 = false) (hc : freeC T c = true) : BufStays c s u :=
  ⟨hu, (k.buf hb).trans h.buf, fun i => (k.cnt h.sound hu hc i 0).trans (h.cnt i)⟩

/-! ### A failed check (R156) -/

/-- A tile that fails its check is in QUAR, counted. -/
theorem quarFail_quarantines {s : State} (h : s.Sound) (p t : Nat) :
    tileOf (quarFail p t s) p t = some { quar := true }
      ∧ (quarFail p t s).cnt .BUF_QUAR_CNT p = s.cnt .BUF_QUAR_CNT p + 1#64 := by
  have h1 : (quarTile p t s).Sound := sound_quarTile p t s h
  have h2 := sound_setTile p t (some { quar := true }) s h
  have counted : (quarTile p t s).cnt .BUF_QUAR_CNT p = s.cnt .BUF_QUAR_CNT p + 1#64 := cnt_count h2.cnts .BUF_QUAR_CNT p 0 1
  have reported : BufStays .BUF_QUAR_CNT (quarTile p t s) (quarFail p t s) := by
    unfold quarFail
    refine ite_holds (P := BufStays .BUF_QUAR_CNT (quarTile p t s)) ?_ ?_
    · exact (BufStays.refl h1).kept (of_fst (kept_winEvent (le_same _) 8 4 _ (.refl _ _))) (of_fst (sound_winEvent 8 4 _ h1))
        (by decide) (by decide +kernel)
    · exact (BufStays.refl h1).kept (kept_memReport (le_same _) 7 _ 8 p true _ (.refl _ _)) (sound_memReport _ _ _ _ _ _ h1)
        (by decide) (by decide +kernel)
  exact ⟨(tileOf_congr reported.buf p t).trans (tileOf_setTile h p t (some { quar := true })), (reported.cnt p).trans counted⟩

end Sys2Proof.Machine
end

section
/-!
SUPPORT. The carve of HBM (R140, R141): what a START does, the pools after it, and its end.
-/
namespace Sys2Proof.Machine

/-! ### A START -/

/-- The write of START. -/
def carveStart (a : Agent) : RegWrite := write32 a .BUF_CARVE_CTRL 1

theorem carveStart_there (s : State) (a : Agent) : fusedOff s (carveStart a).off = false :=
  fusedOff_write32 (by decide +kernel) (by decide) (by decide) (by decide) s a _

/-- A START, with the link trained. -/
theorem exec_bufCarve {s : State} (h : s.Sound) (hl : linked s) (a : Agent) :
    ∃ s', Sends s s' ∧ exec (.bufCarve a) s = .next (carveCtrl (carveStart a) s') :=
  ⟨_, (Sends.refl h).send 0 0 1 0,
    congrArg Host.Outcome.next (far_linked (op := carveCtrl (carveStart a)) hl (carveStart_there s a))⟩

/-- A carve is refused with a code. -/
def carveRefused (e : Nat) (s : State) : State := (s.setFld .BUF_CARVE_CTRL_ERR 1).setFld .BUF_CARVE_STATUS_ERR_CODE e

/-- What START does: it is logged, taken, or refused. -/
theorem carveCtrl_start (a : Agent) (s : State) : carveCtrl (carveStart a) s =
    if s.flag .BUF_CARVE_STATUS_BUSY then logWrite 4 (carveStart a) s
    else if carveErr s = 0 then carve s else carveRefused (carveErr s) s := by
  have start : (carveStart a).val.toNat.testBit 0 = true := by simp [carveStart, write32]
  have err : (carveStart a).val.toNat.testBit 1 = false := by simp [carveStart, write32, Nat.testBit]
  unfold carveCtrl
  rw [start, err]
  rfl

theorem Sends.carveErr {s s' : State} (h : Sends s s') : carveErr s' = carveErr s := by
  obtain ⟨-, m, rfl⟩ := h
  rfl

theorem Sends.buf {s s' : State} (h : Sends s s') : s'.buf = s.buf := by
  obtain ⟨-, m, rfl⟩ := h
  rfl

theorem carveErr_le (s : State) : carveErr s ≤ 3 := by
  unfold carveErr
  dsimp only
  split_ifs <;> decide

/-- A refused carve shows ERR with its code, and nothing else has changed. -/
theorem carveRefused_shows {s : State} (h : s.Sound) {e : Nat} (he : e ≤ 3) :
    (carveRefused e s).flag .BUF_CARVE_CTRL_ERR = true ∧ (carveRefused e s).fld .BUF_CARVE_STATUS_ERR_CODE = e
      ∧ s.Only (carveRefused e s) [.ctl] [Reg.off .BUF_CARVE_CTRL, Reg.off .BUF_CARVE_STATUS] [] := by
  have h1 := sorted_setFld h.regs .BUF_CARVE_CTRL_ERR 1 0 0
  refine ⟨?_, ?_, ?_⟩
  · exact (flag_setFld_apart h1 (f := .BUF_CARVE_STATUS_ERR_CODE) (g := .BUF_CARVE_CTRL_ERR) (by decide) e 0 0 0 0).trans
      (flag_setFld h.regs (f := .BUF_CARVE_CTRL_ERR) (by decide) (by decide) 1 0 0)
  · exact (fld_setFld h1 (f := .BUF_CARVE_STATUS_ERR_CODE) (by decide) (by decide) e 0 0).trans
      (Nat.mod_eq_of_lt (he.trans_lt (by decide)))
  · exact (((Sofar.start h _ _ _).setFld .BUF_CARVE_CTRL_ERR 1 0 0 (by decide)).setFld .BUF_CARVE_STATUS_ERR_CODE e 0 0
      (by decide)).only

/-! ### The pools of a carve -/

/-- The counts of a pool: FREE, ALLOC and QUAR. -/
def poolCounts (s : State) (p : Nat) : Word × Word × Word :=
  (s.reg .BUF_POOL_FREE p, s.reg .BUF_POOL_ALLOC p, s.reg .BUF_POOL_QUAR p)

/-- The counts of pool p when all its tiles are FREE. -/
def freshCounts (l : List Nat) (p : Nat) : Word × Word × Word := (BitVec.ofNat 32 (l.getD p 0), 0#32, 0#32)

/-- A pool of a carve has all its tiles FREE. -/
def freshPool (l : List Nat) (s : State) (p : Nat) : State :=
  ((s.setReg .BUF_POOL_FREE (BitVec.ofNat 32 (l.getD p 0)) p).setReg .BUF_POOL_ALLOC 0#32 p).setReg .BUF_POOL_QUAR 0#32 p

theorem sound_freshPool {s : State} (h : s.Sound) (l : List Nat) (p : Nat) : (freshPool l s p).Sound :=
  sound_State_setReg _ _ _ _ _ (sound_State_setReg _ _ _ _ _ (sound_State_setReg _ _ _ _ _ h))

/-- A register that is no count of a pool stays. -/
theorem reg_freshPool {s : State} (h : s.Sound) (l : List Nat) (p : Nat) {r : Reg} (hf : regApart r .BUF_POOL_FREE = true)
    (ha : regApart r .BUF_POOL_ALLOC = true) (hq : regApart r .BUF_POOL_QUAR = true) (i : Nat) :
    (freshPool l s p).reg r i = s.reg r i := by
  have h1 := sorted_setReg h.regs .BUF_POOL_FREE (BitVec.ofNat 32 (l.getD p 0)) p 0
  have h2 := sorted_setReg h1 .BUF_POOL_ALLOC 0#32 p 0
  rw [freshPool, reg_setReg_apart h2 hq, reg_setReg_apart h1 ha, reg_setReg_apart h.regs hf]

theorem poolCounts_freshPool {s : State} (h : s.Sound) (l : List Nat) {p q : Nat} (hp : p < 5) (hq : q < 5) :
    poolCounts (freshPool l s p) q = if q = p then freshCounts l q else poolCounts s q := by
  have h1 := sorted_setReg h.regs .BUF_POOL_FREE (BitVec.ofNat 32 (l.getD p 0)) p 0
  have h2 := sorted_setReg h1 .BUF_POOL_ALLOC 0#32 p 0
  unfold poolCounts freshPool
  rw [reg_setReg_apart h2 (by decide), reg_setReg_apart h1 (by decide), reg_setReg_apart h2 (r := .BUF_POOL_QUAR)
    (q := .BUF_POOL_ALLOC) (by decide)]
  split
  next e =>
    subst e
    rw [reg_setReg h.regs, reg_setReg h1, reg_setReg h2, freshCounts]
  next e =>
    rw [reg_setReg_ne h.regs (off_ne_index (by decide +kernel) (by decide) hq hp e),
      reg_setReg_ne h1 (off_ne_index (by decide +kernel) (by decide) hq hp e), reg_setReg_apart h.regs (by decide),
      reg_setReg_ne h2 (off_ne_index (by decide +kernel) (by decide) hq hp e), reg_setReg_apart h1 (by decide),
      reg_setReg_apart h.regs (by decide)]

/-- The counts of every pool after those of a list are fresh. -/
theorem poolCounts_freshPools (l : List Nat) {ps : List Nat} (hps : ∀ p ∈ ps, p < 5) {q : Nat} (hq : q < 5) {s : State}
    (h : s.Sound) : poolCounts (ps.foldl (freshPool l) s) q = if q ∈ ps then freshCounts l q else poolCounts s q := by
  induction ps generalizing s with
  | nil => simp
  | cons p ps ih =>
    rw [List.foldl_cons, ih (fun p' hp' => hps p' (List.mem_cons_of_mem _ hp')) (sound_freshPool h l p),
      poolCounts_freshPool h l (hps p List.mem_cons_self) hq]
    by_cases e : q = p <;> simp [e]

theorem retired_congr {s t : State} (h : ∀ j, t.reg .BUF_RETIRE j = s.reg .BUF_RETIRE j) (b : Bool) :
    retired t b = retired s b := by
  unfold retired State.flag State.fld
  have e : ∀ j, t.reg Fld.BUF_RETIRE_VALID.reg j = s.reg Fld.BUF_RETIRE_VALID.reg j := h
  have e' : ∀ j, t.reg Fld.BUF_RETIRE_ON_DIE.reg j = s.reg Fld.BUF_RETIRE_ON_DIE.reg j := h
  have e'' : ∀ j, t.reg Fld.BUF_RETIRE_INDEX.reg j = s.reg Fld.BUF_RETIRE_INDEX.reg j := h
  simp only [e, e', e'']

/-! ### An accepted carve -/

/-- The buffer of a carve with l tiles: no HBM tile is in use, and the metadata region is zero. -/
def carvedBuf (l : List Nat) (x : BufSt) : BufSt :=
  { x with carved := l, tiles := SMap.keep x.tiles (fun k => decide (tileKey 4 0 ≤ k)), metas := [] }

theorem sound_carvedBuf {x : BufSt} (h : x.Sound) (l : List Nat) : (carvedBuf l x).Sound :=
  BufSt.sound_mk (SMap.sorted_keep h.tiles _) h.freeAt h.taken SMap.sorted_nil

/-- The state with another buffer. -/
def withBuf (x : BufSt) (s : State) : State := { s with buf := x }

theorem sound_withBuf {s : State} (h : s.Sound) {x : BufSt} (hx : x.Sound) : (withBuf x s).Sound := { h with buf := hx }

theorem withBuf_reg (x : BufSt) (s : State) (r : Reg) (i j : Nat) : (withBuf x s).reg r i j = s.reg r i j := rfl

theorem withBuf_buf (x : BufSt) (s : State) : (withBuf x s).buf = x := rfl

/-- BUSY shows that a carve runs. -/
def showBusy (s : State) : State := (s.setFld .BUF_CARVE_STATUS_DONE 0).setFld .BUF_CARVE_STATUS_BUSY 1

theorem sound_showBusy {s : State} (h : s.Sound) : (showBusy s).Sound :=
  sound_State_setFld _ .BUF_CARVE_STATUS_BUSY 1 0 0 (sound_State_setFld _ .BUF_CARVE_STATUS_DONE 0 0 0 h)

theorem showBusy_buf (s : State) : (showBusy s).buf = s.buf := by
  rw [showBusy, setFld_buf, setFld_buf]

/-- A carve runs. -/
def carveRuns (s : State) : State := withBuf (carvedBuf (carveTiles s) (showBusy s).buf) (showBusy s)

theorem sound_carveRuns {s : State} (h : s.Sound) : (carveRuns s).Sound :=
  sound_withBuf (sound_showBusy h) (sound_carvedBuf (sound_showBusy h).buf _)

theorem carveRuns_reg (s : State) (r : Reg) (i j : Nat) : (carveRuns s).reg r i j = (showBusy s).reg r i j :=
  withBuf_reg _ _ r i j

/-- A carve with its pools fresh. -/
def carvedState (s : State) : State := (List.range 4).foldl (freshPool (carveTiles s)) (carveRuns s)

theorem sound_carvedState {s : State} (h : s.Sound) : (carvedState s).Sound := by
  unfold carvedState
  exact foldl_holds (P := State.Sound) (fun _ p hu => sound_freshPool hu _ p) (sound_carveRuns h)

theorem carvedState_buf (s : State) : (carvedState s).buf = carvedBuf (carveTiles s) s.buf := by
  rw [← showBusy_buf s]
  unfold carvedState
  exact foldl_holds (P := fun u : State => u.buf = carvedBuf (carveTiles s) (showBusy s).buf) (fun _ _ hu => hu)
    (withBuf_buf _ _)

theorem showSpill_buf (s : State) : (showSpill s).buf = s.buf := by
  rw [showSpill, setFld_buf]

theorem reg_carvedState {s : State} (h : s.Sound) {r : Reg} (hf : regApart r .BUF_POOL_FREE = true)
    (ha : regApart r .BUF_POOL_ALLOC = true) (hq : regApart r .BUF_POOL_QUAR = true) (i : Nat) :
    (carvedState s).reg r i = (carveRuns s).reg r i := by
  unfold carvedState
  exact (foldl_holds (P := fun u : State => u.Sound ∧ u.reg r i = (carveRuns s).reg r i)
    (fun _ p ⟨hu, e⟩ => ⟨sound_freshPool hu _ p, (reg_freshPool hu _ p hf ha hq i).trans e⟩) ⟨sound_carveRuns h, rfl⟩).2

/-- Without a retired granule a carve leaves every HBM tile FREE. -/
theorem carve_of_none_retired {s : State} (h : s.Sound) (hr : retired s false = []) :
    carve s = showSpill (carvedState s) := by
  have none : retired (carvedState s) false = [] := by
    rw [← hr]
    refine retired_congr (fun j => ?_) false
    have h1 := sorted_setFld h.regs .BUF_CARVE_STATUS_DONE 0 0 0
    rw [reg_carvedState h (by decide) (by decide) (by decide), carveRuns_reg]
    exact (reg_setFld_apart h1 (f := .BUF_CARVE_STATUS_BUSY) (q := .BUF_RETIRE) (by decide) 1 0 0 j 0).trans
      (reg_setFld_apart h.regs (f := .BUF_CARVE_STATUS_DONE) (q := .BUF_RETIRE) (by decide) 0 0 0 j 0)
  change showSpill ((retired (carvedState s) false).foldl _ (carvedState s)) = _
  rw [none, List.foldl_nil]

theorem carveTiles_getD (s : State) {p : Nat} (hp : p < 4) : (carveTiles s).getD p 0 = s.fld .BUF_CARVE_TILES_TILES p := by
  simp [carveTiles, hp]

/-- BUF_CARVE_STATUS of a carve that runs. -/
theorem carve_shows {s : State} (h : s.Sound) : (showSpill (carvedState s)).flag .BUF_CARVE_STATUS_BUSY = true
    ∧ (showSpill (carvedState s)).flag .BUF_CARVE_STATUS_DONE = false := by
  have h1 := sorted_setFld h.regs .BUF_CARVE_STATUS_DONE 0 0 0
  have status : (carvedState s).reg .BUF_CARVE_STATUS = (showBusy s).reg .BUF_CARVE_STATUS :=
    (reg_carvedState h (by decide) (by decide) (by decide) 0).trans (carveRuns_reg s _ 0 0)
  have reads {f : Fld} (hf : sideBySide .BUF_CARVE_STATUS_SPILL_ACTIVE f) :
      (showSpill (carvedState s)).flag f = (showBusy s).flag f := by
    rw [showSpill, flag_setFld_beside (sound_carvedState h).regs hf]
    unfold State.flag State.fld
    rw [show f.reg = .BUF_CARVE_STATUS from hf.2.2.1, status]
  constructor
  · rw [reads (by decide)]
    exact flag_setFld h1 (f := .BUF_CARVE_STATUS_BUSY) (by decide) (by decide) 1 0 0
  · rw [reads (by decide)]
    exact (flag_setFld_beside h1 (f := .BUF_CARVE_STATUS_BUSY) (g := .BUF_CARVE_STATUS_DONE) (by decide) 1 0 0).trans
      (flag_setFld h.regs (f := .BUF_CARVE_STATUS_DONE) (by decide) (by decide) 0 0 0)

/-- The counts of an HBM pool that has been carved. -/
theorem carve_pool {s : State} (h : s.Sound) {p : Nat} (hp : p < 4) :
    poolCounts (showSpill (carvedState s)) p = freshCounts (carveTiles s) p := by
  have counts := poolCounts_freshPools (carveTiles s) (ps := List.range 4) (by decide) (q := p) (by omega) (sound_carveRuns h)
  have beside {r : Reg} (hr : regApart r .BUF_CARVE_STATUS = true) :
      (showSpill (carvedState s)).reg r p = (carvedState s).reg r p :=
    reg_setFld_apart (sound_carvedState h).regs (f := .BUF_CARVE_STATUS_SPILL_ACTIVE) hr _ 0 0 p 0
  rw [if_pos (List.mem_range.mpr hp)] at counts
  rw [← counts]
  unfold poolCounts
  rw [beside (by decide), beside (by decide), beside (by decide)]
  rfl

/-- A carve frees the tiles of HBM and leaves those of pool D. -/
theorem tileOf_carve {s : State} (h : s.Sound) (p t : Nat) : tileOf (showSpill (carvedState s)) p t
    = if tileKey 4 0 ≤ tileKey p t then tileOf s p t else none := by
  change SMap.get? (showSpill (carvedState s)).buf.tiles (tileKey p t) = _
  rw [showSpill_buf, carvedState_buf]
  split
  next e => exact get?_keep_in (p := fun k => decide (tileKey 4 0 ≤ k)) h.buf.tiles (decide_eq_true e)
  next e => exact get?_keep_out (p := fun k => decide (tileKey 4 0 ≤ k)) (decide_eq_false e)

theorem metaOf_carve (s : State) (p t : Nat) : metaOf (showSpill (carvedState s)) p t = 0 := by
  rw [metaOf, showSpill_buf, carvedState_buf]
  rfl

/-! ### The end of a carve -/

/-- The regions of HBM are shown. -/
def showRegions (s : State) : State :=
  ((s.setFld .BUF_CARVE_STATUS_META_GIB (metaGib s.buf.carved)).setFld .BUF_CARVE_STATUS_BUF_GIB
    (metaBase s.buf.carved + metaGib s.buf.carved)).setFld .BUF_CARVE_STATUS_TC_GIB
      (hbmGib s - (metaBase s.buf.carved + metaGib s.buf.carved))

/-- The end of a carve, but for SPILL_ACTIVE. -/
def carveEnded (s : State) : State := ((showRegions s).setFld .BUF_CARVE_STATUS_BUSY 0).setFld .BUF_CARVE_STATUS_DONE 1

theorem carveDone_of_busy {s : State} (hb : s.flag .BUF_CARVE_STATUS_BUSY = true) : carveDone s = showSpill (carveEnded s) := by
  unfold carveDone
  rw [hb]
  rfl

theorem sorted_showRegions {s : State} (h : s.Sound) : (showRegions s).regs.sorted = true :=
  sorted_setFld (sorted_setFld (sorted_setFld h.regs _ _ _ _) _ _ _ _) _ _ _ _

/-- The regions read as shown: the buffer region and the region of tables and counters fill the HBM (R140). -/
theorem showRegions_fill {s : State} (h : s.Sound) (hf : metaBase s.buf.carved + metaGib s.buf.carved ≤ hbmGib s) :
    (showRegions s).fld .BUF_CARVE_STATUS_META_GIB = metaGib s.buf.carved
      ∧ (showRegions s).fld .BUF_CARVE_STATUS_BUF_GIB + (showRegions s).fld .BUF_CARVE_STATUS_TC_GIB = hbmGib s := by
  have gib : hbmGib s ≤ 128 := by unfold hbmGib; split <;> decide
  have h1 := sorted_setFld h.regs .BUF_CARVE_STATUS_META_GIB (metaGib s.buf.carved) 0 0
  have h2 := sorted_setFld h1 .BUF_CARVE_STATUS_BUF_GIB (metaBase s.buf.carved + metaGib s.buf.carved) 0 0
  unfold showRegions
  rw [fld_setFld_ne h2 (f := .BUF_CARVE_STATUS_TC_GIB) (g := .BUF_CARVE_STATUS_META_GIB) (by decide) (by decide) rfl (by decide),
    fld_setFld_ne h1 (f := .BUF_CARVE_STATUS_BUF_GIB) (g := .BUF_CARVE_STATUS_META_GIB) (by decide) (by decide) rfl (by decide),
    fld_setFld h.regs (by decide) (by decide),
    fld_setFld_ne h2 (f := .BUF_CARVE_STATUS_TC_GIB) (g := .BUF_CARVE_STATUS_BUF_GIB) (by decide) (by decide) rfl (by decide),
    fld_setFld h1 (by decide) (by decide), fld_setFld h2 (by decide) (by decide)]
  simp only [Fld.BUF_CARVE_STATUS_META_GIB, Fld.BUF_CARVE_STATUS_BUF_GIB, Fld.BUF_CARVE_STATUS_TC_GIB]
  omega

/-- A field of BUF_CARVE_STATUS that is none of SPILL_ACTIVE, DONE and BUSY reads as the regions were shown. -/
theorem fld_carveEnd {s : State} (h : s.Sound) {f : Fld} (hs : sideBySide .BUF_CARVE_STATUS_SPILL_ACTIVE f)
    (hd : sideBySide .BUF_CARVE_STATUS_DONE f) (hb : sideBySide .BUF_CARVE_STATUS_BUSY f) :
    (showSpill (carveEnded s)).fld f = (showRegions s).fld f := by
  have h1 := sorted_setFld (sorted_showRegions h) .BUF_CARVE_STATUS_BUSY 0 0 0
  have h2 := sorted_setFld h1 .BUF_CARVE_STATUS_DONE 1 0 0
  obtain ⟨s1, s2, s3, s4⟩ := hs
  obtain ⟨d1, d2, d3, d4⟩ := hd
  obtain ⟨b1, b2, b3, b4⟩ := hb
  exact (fld_setFld_ne h2 s1 s2 s3 s4 _ 0 0).trans ((fld_setFld_ne h1 d1 d2 d3 d4 _ 0 0).trans
    (fld_setFld_ne (sorted_showRegions h) b1 b2 b3 b4 _ 0 0))

/-- DONE shows the end of a carve. -/
theorem carveEnd_shows {s : State} (h : s.Sound) : (showSpill (carveEnded s)).flag .BUF_CARVE_STATUS_BUSY = false
    ∧ (showSpill (carveEnded s)).flag .BUF_CARVE_STATUS_DONE = true := by
  have h0 := sorted_showRegions h
  have h1 := sorted_setFld h0 .BUF_CARVE_STATUS_BUSY 0 0 0
  have h2 := sorted_setFld h1 .BUF_CARVE_STATUS_DONE 1 0 0
  constructor
  · exact (flag_setFld_beside h2 (f := .BUF_CARVE_STATUS_SPILL_ACTIVE) (g := .BUF_CARVE_STATUS_BUSY) (by decide) _ 0 0).trans
      ((flag_setFld_beside h1 (f := .BUF_CARVE_STATUS_DONE) (g := .BUF_CARVE_STATUS_BUSY) (by decide) 1 0 0).trans
        (flag_setFld h0 (f := .BUF_CARVE_STATUS_BUSY) (by decide) (by decide) 0 0 0))
  · exact (flag_setFld_beside h2 (f := .BUF_CARVE_STATUS_SPILL_ACTIVE) (g := .BUF_CARVE_STATUS_DONE) (by decide) _ 0 0).trans
      (flag_setFld h1 (f := .BUF_CARVE_STATUS_DONE) (by decide) (by decide) 1 0 0)

theorem carveEnd_only {s : State} (h : s.Sound) : s.Only (showSpill (carveEnded s)) [] [Reg.off .BUF_CARVE_STATUS] [] := by
  have regions : Sofar s (showRegions s) [] [Reg.off .BUF_CARVE_STATUS] [] :=
    (((Sofar.start h _ _ _).setFld .BUF_CARVE_STATUS_META_GIB _ 0 0 List.mem_cons_self).setFld .BUF_CARVE_STATUS_BUF_GIB _ 0 0
      List.mem_cons_self).setFld .BUF_CARVE_STATUS_TC_GIB _ 0 0 List.mem_cons_self
  exact (((regions.setFld .BUF_CARVE_STATUS_BUSY 0 0 0 List.mem_cons_self).setFld .BUF_CARVE_STATUS_DONE 1 0 0
    List.mem_cons_self).setFld .BUF_CARVE_STATUS_SPILL_ACTIVE _ 0 0 List.mem_cons_self).only

end Sys2Proof.Machine
end

section
/-!
SUPPORT. The scrub (R157, R158): its request for a FREE tile, what a visit does with a tile, and the place that it goes on to.
-/
namespace Sys2Proof.Machine

/-! ### The request for a FREE tile -/

theorem hbmLoses_waits (p left : Nat) (s : State) : (hbmLoses p left s).2.buf = s.buf ∧ (hbmLoses p left s).2.regs = s.regs := by
  unfold hbmLoses
  split <;> exact ⟨rfl, rfl⟩

/-- A request that is not served only counts. -/
theorem scrubTakes_waits {s : State} {p t : Nat} (h : (scrubTakes p t s).1 = false) :
    (scrubTakes p t s).2.buf = s.buf ∧ (scrubTakes p t s).2.regs = s.regs := by
  revert h
  unfold scrubTakes
  split_ifs
  all_goals intro h
  · cases h
  · exact ⟨rfl, rfl⟩
  · exact hbmLoses_waits p _ s
  · exact hbmLoses_waits p _ s
  · exact ⟨rfl, rfl⟩
  · cases h

/-- A request that is served takes the tile. -/
theorem scrubTakes_takes {s : State} (h : s.Sound) {p t : Nat} (ht : (scrubTakes p t s).1 = true) :
    tileOf (scrubTakes p t s).2 p t = some {} := by
  revert ht
  unfold scrubTakes
  split_ifs with hp
  all_goals intro ht
  · subst hp
    exact tileOf_takeTile h 4 t
  · cases ht
  · cases ht
  · cases ht
  · cases ht
  · exact tileOf_takeTile (sound_setTaken _ _ _ h) p t

theorem sound_scrubbed {s : State} (h : s.Sound) (p t : Nat) : (scrubTakes p t s).2.Sound :=
  of_snd (sound_scrubTakes p t s h)

/-- The request changes no count of quarantined tiles. -/
theorem scrubTakes_quarCnt {s : State} (h : s.Sound) (p t i : Nat) :
    (scrubTakes p t s).2.cnt .BUF_QUAR_CNT i = s.cnt .BUF_QUAR_CNT i :=
  (of_snd (kept_scrubTakes (le_same _) p t s (.refl _ _))).cnt h (sound_scrubbed h p t) (by decide +kernel) i 0

/-! ### A visit to a tile -/

/-- A FREE tile that is taken for its test: it is FREE again, or in QUAR. -/
def scrubTest (p t : Nat) (pass : Bool) (s : State) : State :=
  if pass then freeTile p t (scrubWrites p t s) else quarFail p t s

/-- A tile in QUAR becomes FREE again. -/
def releaseQuar (p t : Nat) (s : State) : State :=
  (regAdd .BUF_POOL_FREE 1 p (regAdd .BUF_POOL_QUAR (-1) p
    (noteFree p t (setTile p t none (scrubWrites p t s))))).count .BUF_QUAR_RELEASE_CNT p

theorem scrubTile_free {s : State} {p t : Nat} (hf : tileOf s p t = none) (ht : (scrubTakes p t s).1 = true) (pass : Bool) :
    scrubTile p t pass s = (true, scrubTest p t pass (scrubTakes p t s).2) := by
  unfold scrubTile
  rw [hf]
  dsimp only
  generalize scrubTakes p t s = r at ht ⊢
  obtain ⟨b, u⟩ := r
  cases ht
  rfl

theorem scrubTile_waits {s : State} {p t : Nat} (hf : tileOf s p t = none) (ht : (scrubTakes p t s).1 = false) (pass : Bool) :
    scrubTile p t pass s = (false, (scrubTakes p t s).2) := by
  unfold scrubTile
  rw [hf]
  dsimp only
  generalize scrubTakes p t s = r at ht ⊢
  obtain ⟨b, u⟩ := r
  cases ht
  rfl

/-- A visit to a tile that is not FREE. -/
theorem scrubTile_listed {s : State} {p t : Nat} {x : TileSt} (hx : tileOf s p t = some x) (pass : Bool) :
    scrubTile p t pass s = if !x.quar || x.retired then (true, s)
      else if !pass then (true, retireTile p t s)
      else if max 1 (s.fld .BUF_SCRUB_CFG_RELEASE_PASSES) ≤ x.passes + 1 then (true, releaseQuar p t s)
      else (true, setTile p t (some { x with passes := x.passes + 1 }) (scrubWrites p t s)) := by
  unfold scrubTile
  rw [hx]
  rfl

theorem scrubTile_used {s : State} {p t : Nat} {x : TileSt} (hx : tileOf s p t = some x) (hq : x.quar = false) (pass : Bool) :
    scrubTile p t pass s = (true, s) := by
  rw [scrubTile_listed hx, hq]
  rfl

/-- Only a request for a FREE tile that waits keeps the scrub at its tile. -/
theorem scrubTile_ends {s : State} {p t : Nat} (h : tileOf s p t = none → (scrubTakes p t s).1 = true) (pass : Bool) :
    (scrubTile p t pass s).1 = true := by
  cases hx : tileOf s p t with
  | none => rw [scrubTile_free hx (h hx)]
  | some x =>
    rw [scrubTile_listed hx]
    split_ifs <;> rfl

/-- A retired tile is listed in the free entry that was found, or the list overflows (R160). -/
def listRetired (p idx : Nat) (slot : Option Nat) (s : State) : State :=
  match slot with
  | some j => showUsed (s.setReg .BUF_RETIRE (BitVec.ofNat 32 (2 ^ 31 + (if p = 4 then 2 ^ 30 else 0) + idx)) j)
  | none => s.setFld .BUF_RETIRE_STATUS_OVERFLOW 1

theorem bufStays_listRetired {s : State} (h : s.Sound) (c : Cnt) (p idx : Nat) (slot : Option Nat) :
    BufStays c s (listRetired p idx slot s) := by
  cases slot with
  | some j =>
    refine ⟨sound_showUsed _ (sound_State_setReg _ _ _ _ _ h), ?_, fun i => ?_⟩
    · exact (setFld_buf _ _ _ _ _).trans (setReg_buf s _ _ _ _)
    · exact (setFld_cnt _ _ _ _ _ c i 0).trans (setReg_cnt s _ _ _ _ c i 0)
  | none => exact ⟨sound_State_setFld _ _ _ _ _ h, setFld_buf _ _ _ _ _, fun i => setFld_cnt _ _ _ _ _ c i 0⟩

theorem retireTile_eq (p t : Nat) (s : State) : ∃ slot idx, retireTile p t s = fault 5 p t (b2n (Option.isSome slot))
    ((listRetired p idx slot (setTile p t (some { quar := true, retired := true }) s)).count .BUF_RETIRE_CNT p) := by
  unfold retireTile
  dsimp only
  generalize (List.range 1024).find? _ = slot
  generalize (if p = 4 then t else _) = idx
  exact ⟨slot, idx, by cases slot <;> rfl⟩

/-- A tile of QUAR that fails is retired, counted (R158). -/
theorem retireTile_retires {s : State} (h : s.Sound) (p t : Nat) :
    tileOf (retireTile p t s) p t = some { quar := true, retired := true }
      ∧ (retireTile p t s).cnt .BUF_RETIRE_CNT p = s.cnt .BUF_RETIRE_CNT p + 1#64 := by
  obtain ⟨slot, idx, e⟩ := retireTile_eq p t s
  obtain ⟨hu, buf, cnt⟩ := bufStays_listRetired (sound_setTile p t (some { quar := true, retired := true }) s h) .BUF_RETIRE_CNT
    p idx slot
  have hv := sound_State_count _ .BUF_RETIRE_CNT p 0 1 hu
  have reported := (BufStays.refl (c := .BUF_RETIRE_CNT) hv).kept
    (kept_fault (le_same _) 5 p t (b2n slot.isSome) _ (.refl _ _)) (sound_fault _ _ _ _ _ hv) (by decide) (by decide +kernel)
  rw [e]
  constructor
  · exact (tileOf_congr (reported.buf.trans buf) p t).trans (tileOf_setTile h p t _)
  · exact (reported.cnt p).trans ((cnt_count hu.cnts .BUF_RETIRE_CNT p 0 1).trans (congrArg (· + 1#64) (cnt p)))

/-- A tile of QUAR that has passed often enough is FREE again, counted (R157). -/
theorem releaseQuar_frees {s : State} (h : s.Sound) (p t : Nat) : tileOf (releaseQuar p t s) p t = none
    ∧ (releaseQuar p t s).cnt .BUF_QUAR_RELEASE_CNT p = s.cnt .BUF_QUAR_RELEASE_CNT p + 1#64 := by
  have h1 := sound_scrubWrites p t s h
  have cnts : (scrubWrites p t s).cnts = s.cnts := ite_holds (P := fun u : State => u.cnts = s.cnts) rfl rfl
  refine ⟨tileOf_setTile h1 p t none, ?_⟩
  rw [← cnt_congr cnts]
  exact cnt_count (s := regAdd .BUF_POOL_FREE 1 p (regAdd .BUF_POOL_QUAR (-1) p (noteFree p t (setTile p t none _)))) h1.cnts
    .BUF_QUAR_RELEASE_CNT p 0 1

/-- A tile that passes the test of a FREE tile is FREE; one that fails is in QUAR. -/
theorem tileOf_scrubTest_pass {s : State} (h : s.Sound) {p t : Nat} (ht : tileOf s p t = some {}) :
    tileOf (scrubTest p t true s) p t = none := by
  have same : tileOf (scrubWrites p t s) p t = tileOf s p t := ite_holds (P := fun u : State => tileOf u p t = tileOf s p t) rfl rfl
  exact tileOf_freeTile (sound_scrubWrites p t s h) (same.trans ht) rfl

/-! ### The place of the scrub -/

/-- The scrub goes on from tile t of pool p. -/
def scrubMoves (p t : Nat) (s : State) : State :=
  if t + 1 < poolSize s p then (s.setFld .BUF_SCRUB_STATUS_POSITION (t + 1)).setFld .BUF_SCRUB_STATUS_ACTIVE 1
  else
    match (poolsAfter p).find? (fun q => decide (0 < poolSize s q)) with
    | some q => ((s.setFld .BUF_SCRUB_STATUS_POOL q).setFld .BUF_SCRUB_STATUS_POSITION 0).setFld .BUF_SCRUB_STATUS_ACTIVE 1
    | none => s.setReg .BUF_SCRUB_STATUS 0x40000000#32

/-- After a visit the scrub goes on, or stays where it waits. -/
def scrubShows (p t : Nat) (ended : Bool) (s : State) : State :=
  if !ended then s.setFld .BUF_SCRUB_STATUS_ACTIVE 1 else scrubMoves p t s

/-- A visit to a tile of the pools. -/
theorem scrubVisit_at {s : State} {p t : Nat} (he : s.flag .BUF_SCRUB_CFG_EN = true) (hp : s.fld .BUF_SCRUB_STATUS_POOL = p)
    (ht : s.fld .BUF_SCRUB_STATUS_POSITION = t) (hn : t < poolSize s p) (pass : Bool) :
    scrubVisit pass .none s = scrubShows p t (scrubTile p t pass s).1 (scrubTile p t pass s).2 := by
  unfold scrubVisit
  rw [he, hp, ht]
  dsimp only
  rw [if_neg (show ¬ (!true) = true by decide), if_pos hn, bufError]
  rfl

/-- Going on changes BUF_SCRUB_STATUS alone. -/
theorem scrubShows_only {s : State} (h : s.Sound) (p t : Nat) (ended : Bool) :
    s.Only (scrubShows p t ended s) [] [Reg.off .BUF_SCRUB_STATUS] [] := by
  have start := Sofar.start h [] [Reg.off .BUF_SCRUB_STATUS] []
  refine Sofar.only (ite_holds (P := fun u : State => Sofar s u _ _ _) ?_ ?_)
  · exact start.setFld .BUF_SCRUB_STATUS_ACTIVE 1 0 0 List.mem_cons_self
  · unfold scrubMoves
    split
    · exact (start.setFld .BUF_SCRUB_STATUS_POSITION _ 0 0 List.mem_cons_self).setFld .BUF_SCRUB_STATUS_ACTIVE 1 0 0
        List.mem_cons_self
    · split
      · exact ((start.setFld .BUF_SCRUB_STATUS_POOL _ 0 0 List.mem_cons_self).setFld .BUF_SCRUB_STATUS_POSITION 0 0 0
          List.mem_cons_self).setFld .BUF_SCRUB_STATUS_ACTIVE 1 0 0 List.mem_cons_self
      · exact start.setReg .BUF_SCRUB_STATUS _ 0 0 List.mem_cons_self

/-- t is the state after a visit of the scrub, which left the state u of the tile. -/
structure Visited (s : State) (pass : Bool) (u t : State) : Prop where
  sound : u.Sound
  run : exec (.scrubVisit pass .none) s = .next t
  buf : t.buf = u.buf
  cnt : ∀ c i, t.cnt c i = u.cnt c i

/-- What a visit whose tile `scrubTile` answers leaves. -/
theorem visited_of_tile {s u : State} {p t : Nat} (h : s.Sound) (hf : forwards s) (he : s.flag .BUF_SCRUB_CFG_EN = true)
    (hp : s.fld .BUF_SCRUB_STATUS_POOL = p) (ht : s.fld .BUF_SCRUB_STATUS_POSITION = t) (hn : t < poolSize s p) {pass b : Bool}
    (hv : scrubTile p t pass s = (b, u)) : Visited s pass u (scrubShows p t b u) := by
  have hu : u.Sound := by
    have := of_snd (sound_scrubTile p t pass s h)
    rwa [hv] at this
  have visit : scrubVisit pass .none s = scrubShows p t b u := by rw [scrubVisit_at he hp ht hn, hv]
  have frame := scrubShows_only hu p t b
  exact ⟨hu, congrArg Host.Outcome.next ((running_runs hf _).trans visit), frame.area .buf (by decide),
    fun c i => congrArg (fun o : Option DWord => o.getD 0#64) (frame.cnts (c.off i) List.not_mem_nil)⟩

/-- Within a pool the scrub goes on to the next tile. -/
theorem scrubMoves_next {s : State} (h : s.Sound) {p t : Nat} (hn : t + 1 < poolSize s p) (ht : t + 1 < 2 ^ 28) :
    (scrubMoves p t s).fld .BUF_SCRUB_STATUS_POOL = s.fld .BUF_SCRUB_STATUS_POOL
      ∧ (scrubMoves p t s).fld .BUF_SCRUB_STATUS_POSITION = t + 1
      ∧ (scrubMoves p t s).flag .BUF_SCRUB_STATUS_ACTIVE = true := by
  have h1 := sorted_setFld h.regs .BUF_SCRUB_STATUS_POSITION (t + 1) 0 0
  unfold scrubMoves
  rw [if_pos hn]
  refine ⟨?_, ?_, flag_setFld h1 (f := .BUF_SCRUB_STATUS_ACTIVE) (by decide) (by decide) 1 0 0⟩
  · rw [fld_setFld_ne h1 (f := .BUF_SCRUB_STATUS_ACTIVE) (g := .BUF_SCRUB_STATUS_POOL) (by decide) (by decide) rfl (by decide),
      fld_setFld_ne h.regs (f := .BUF_SCRUB_STATUS_POSITION) (g := .BUF_SCRUB_STATUS_POOL) (by decide) (by decide) rfl (by decide)]
  · rw [fld_setFld_ne h1 (f := .BUF_SCRUB_STATUS_ACTIVE) (g := .BUF_SCRUB_STATUS_POSITION) (by decide) (by decide) rfl (by decide),
      fld_setFld h.regs (f := .BUF_SCRUB_STATUS_POSITION) (by decide) (by decide)]
    exact Nat.mod_eq_of_lt ht

/-- While the scrub waits, its position stays. -/
theorem scrubShows_waits {s u : State} (h : u.Sound) (hr : u.regs = s.regs) (p t : Nat) :
    (scrubShows p t false u).fld .BUF_SCRUB_STATUS_POSITION = s.fld .BUF_SCRUB_STATUS_POSITION := by
  rw [← fld_congr hr]
  exact fld_setFld_ne h.regs (f := .BUF_SCRUB_STATUS_ACTIVE) (g := .BUF_SCRUB_STATUS_POSITION) (by decide) (by decide) rfl
    (by decide) 1 0 0

end Sys2Proof.Machine
end

section
/-!
Obligation O30: the carve of HBM and the scrub of tiles.
-/
open Sys2Proof Sys2Proof.Machine

/-- Settles O30: a START is taken, refused or logged (`carveCtrl_start`), and a visit of the scrub is `scrubShows` after what
`scrubTile` does with the tile. -/
theorem bufferCarveAndScrub : Obligations.BufferCarveAndScrub := by
  unfold Obligations.BufferCarveAndScrub
  refine ⟨fun s a h hl hb he hr => ?taken, fun s a h hl hb he => ?refused, fun s a h hl hb => ?logged,
    fun s h hb hf => ?done, fun s p n h hf he hp _ ht hn => ?visit, fun s pass n h hf he hp ht hn hw => ?next,
    fun s pass e h hf he => ?off⟩
  case taken =>
    obtain ⟨s', hs, run⟩ := exec_bufCarve h hl a
    have retire : retired s' false = [] := (retired_congr (fun j => reg_congr hs.regs _ j 0) false).trans hr
    have tiles : carveTiles s' = carveTiles s := by
      unfold carveTiles
      simp only [fld_congr hs.regs]
    rw [carveCtrl_start, hs.flag, hb, if_neg Bool.false_ne_true, hs.carveErr, if_pos he,
      carve_of_none_retired hs.sound retire] at run
    obtain ⟨busy, done⟩ := carve_shows hs.sound
    refine ⟨_, run, busy, done, fun p hp => ?_, fun n => ?_, metaOf_carve s'⟩
    · have counts := carve_pool hs.sound hp
      rw [freshCounts, tiles, carveTiles_getD s hp] at counts
      obtain ⟨free, alloc, quar⟩ := by simpa [poolCounts] using counts
      refine ⟨?_, ?_, alloc, quar, fun n hn => ?_⟩
      · rw [poolSize, if_neg (by omega), showSpill_buf, carvedState_buf]
        exact (congrArg (fun l : List Nat => l.getD p 0) tiles).trans (carveTiles_getD s hp)
      · rw [free, BitVec.toNat_ofNat]
        exact Nat.mod_eq_of_lt ((fld_lt s .BUF_CARVE_TILES_TILES p 0).trans (by decide))
      · exact (tileOf_carve hs.sound p n).trans (if_neg (by unfold tileKey; omega))
    · rw [tileOf_carve hs.sound, if_pos (by unfold tileKey; omega), tileOf_congr hs.buf]
  case refused =>
    obtain ⟨s', hs, run⟩ := exec_bufCarve h hl a
    rw [carveCtrl_start, hs.flag, hb, if_neg Bool.false_ne_true, hs.carveErr, if_neg he] at run
    obtain ⟨err, code, frame⟩ := carveRefused_shows hs.sound (carveErr_le s)
    exact ⟨_, run, err, code, hs.only frame (by decide)⟩
  case logged =>
    obtain ⟨s', hs, run⟩ := exec_bufCarve h hl a
    rw [carveCtrl_start, hs.flag, hb] at run
    obtain ⟨⟨counts, -, -, -⟩, frame⟩ := hs.logged (f := ⟨4, a, 2, 0, Reg.off .BUF_CARVE_CTRL⟩)
      (AccFault.fits_mk (by decide) (by decide) (by decide) (by decide))
    exact ⟨_, run, frame.area .buf (by decide), counts⟩
  case done =>
    obtain ⟨busy, shown⟩ := carveEnd_shows h
    obtain ⟨size, fill⟩ := showRegions_fill h hf
    refine ⟨_, congrArg Host.Outcome.next (carveDone_of_busy hb), busy, shown, ?_, ?_, carveEnd_only h⟩
    · rw [fld_carveEnd h (by decide) (by decide) (by decide), size]
    · rw [fld_carveEnd h (by decide) (by decide) (by decide), fld_carveEnd h (by decide) (by decide) (by decide), fill]
  case visit =>
    have left {pass b : Bool} {u : State} (hv : scrubTile p n pass s = (b, u)) : Visited s pass u (scrubShows p n b u) :=
      visited_of_tile h hf he hp ht hn hv
    have hu := sound_scrubbed h p n
    refine ⟨fun free takes => ?passes, fun pass free waits => ?waits, fun free takes => ?fails, fun x hx hq hx' => ?retires,
      fun x hx hq hx' often => ?released, fun x pass hx hq => ?used⟩
    case passes =>
      have visit := left (scrubTile_free free takes true)
      exact ⟨_, visit.run, (tileOf_congr visit.buf p n).trans (tileOf_scrubTest_pass hu (scrubTakes_takes h takes))⟩
    case waits =>
      have visit := left (scrubTile_waits free waits pass)
      obtain ⟨buf, regs⟩ := scrubTakes_waits waits
      exact ⟨_, visit.run, visit.buf.trans buf, (scrubShows_waits hu regs p n).trans ht⟩
    case fails =>
      have visit := left (scrubTile_free free takes false)
      obtain ⟨quar, counted⟩ := quarFail_quarantines hu p n
      rw [scrubTakes_quarCnt h] at counted
      exact ⟨_, visit.run, (tileOf_congr visit.buf p n).trans quar, (visit.cnt _ p).trans counted⟩
    case retires =>
      have visit := left (show scrubTile p n false s = (true, retireTile p n s) by rw [scrubTile_listed hx, hq, hx']; rfl)
      obtain ⟨tile, counted⟩ := retireTile_retires h p n
      exact ⟨_, visit.run, (tileOf_congr visit.buf p n).trans tile, (visit.cnt _ p).trans counted⟩
    case released =>
      have visit := left (show scrubTile p n true s = (true, releaseQuar p n s) by
        rw [scrubTile_listed hx, hq, hx', if_pos often]
        rfl)
      obtain ⟨tile, counted⟩ := releaseQuar_frees h p n
      exact ⟨_, visit.run, (tileOf_congr visit.buf p n).trans tile, (visit.cnt _ p).trans counted⟩
    case used => exact ⟨_, (left (scrubTile_used hx hq pass)).run, scrubShows_only h p n true⟩
  case next =>
    have size : ∀ u : State, poolSize u 4 = 1572864 := fun u => if_pos rfl
    have ends : scrubTile 4 n pass s = (true, (scrubTile 4 n pass s).2) := Prod.ext (scrubTile_ends hw pass) rfl
    have visit := visited_of_tile h hf he hp ht (by rw [size]; omega) ends
    have stays : (scrubTile 4 n pass s).2.fld .BUF_SCRUB_STATUS_POOL = s.fld .BUF_SCRUB_STATUS_POOL :=
      (of_snd (kept_scrubTile (le_same _) 4 n pass s (.refl _ _))).fld h visit.sound (by decide +kernel) 0 0
    obtain ⟨pool, place, active⟩ := scrubMoves_next (p := 4) (t := n) visit.sound (by rw [size]; exact hn) (hn.trans (by decide))
    exact ⟨_, visit.run, (pool.trans stays).trans hp, place, active⟩
  case off =>
    have idle : scrubVisit pass e s = s.setFld .BUF_SCRUB_STATUS_ACTIVE 0 := by rw [scrubVisit, he]; rfl
    refine ⟨_, congrArg Host.Outcome.next ((running_runs hf _).trans idle), ?_, ?_⟩
    · exact flag_setFld h.regs (f := .BUF_SCRUB_STATUS_ACTIVE) (by decide) (by decide) 0 0 0
    · exact ((Sofar.start h _ _ _).setFld .BUF_SCRUB_STATUS_ACTIVE 0 0 0 List.mem_cons_self).only
end

section
/-!
SUPPORT. Units of a queue that are changed in place, and the condition of R164 when a queue is stored.
-/
namespace Sys2Proof.Machine

/-! ### One unit of a queue -/

/-- The first unit that satisfies the test is replaced. -/
theorem mem_updUnit {p : QUnit → Bool} {f : QUnit → Option QUnit} {l : List QUnit} {u v : QUnit} (hu : l.find? p = some u)
    (hv : f u = some v) : v ∈ updUnit p f l := by
  induction l with
  | nil => cases hu
  | cons w l ih =>
    unfold updUnit
    by_cases hw : p w = true
    · rw [List.find?_cons_of_pos hw] at hu
      cases hu
      rw [if_pos hw, hv]
      exact List.mem_cons_self
    · rw [List.find?_cons_of_neg hw] at hu
      rw [if_neg hw]
      exact List.mem_cons_of_mem _ (ih hu)

theorem mem_editUnit {s : State} (h : s.Sound) {k : Nat} {p : QUnit → Bool} {f : QUnit → Option QUnit} {u v : QUnit}
    (hu : (queueOf s k).units.find? p = some u) (hv : f u = some v) : v ∈ (queueOf (editUnit k p f s) k).units := by
  rw [editUnit, setQueue_units h, if_pos rfl]
  exact mem_updUnit hu hv

theorem editUnit_buf (k : Nat) (p : QUnit → Bool) (f : QUnit → Option QUnit) (s : State) : (editUnit k p f s).buf = s.buf :=
  (kept_editUnit (le_same _) k p f s (.refl _ _)).buf (by decide)

/-! ### The condition of R164 -/

theorem qOnDie_congr {s t : State} {k : Nat} (hu : (queueOf t k).units = (queueOf s k).units) (hs : t.sky = s.sky) :
    qOnDie t k = qOnDie s k := by
  unfold qOnDie chosenOf
  rw [hu, hs]

/-- The state in which queue k is stored, before its condition of R164 is looked at. -/
def storeQueue (k : Nat) (q : Queue) (s : State) : State :=
  { noteDepth k s with tm := { (noteDepth k s).tm with queues := SMap.put (noteDepth k s).tm.queues k {} q } }

theorem storeQueue_queue {s : State} (h : s.Sound) (k : Nat) (q : Queue) : queueOf (storeQueue k q s) k = q :=
  SMap.getD_put_self (sound_noteDepth k s h).tm.queues _ _ _

theorem storeQueue_stays (k : Nat) (q : Queue) (s : State) :
    (storeQueue k q s).regs = s.regs ∧ (storeQueue k q s).sky = s.sky := by
  have noted : (noteDepth k s).regs = s.regs ∧ (noteDepth k s).sky = s.sky := by
    unfold noteDepth
    exact ite_holds (P := fun u : State => u.regs = s.regs ∧ u.sky = s.sky) ⟨rfl, rfl⟩ ⟨rfl, rfl⟩
  exact noted

theorem setQueue_tm (k : Nat) (q : Queue) (s : State) : (setQueue k q s).tm = (boundSync k (storeQueue k q s)).tm :=
  ite_holds (P := fun u : State => u.tm = (boundSync k (storeQueue k q s)).tm) (setQueue_tail_tm k _ _ _ _ _) rfl

/-- The condition ends where Qd is at or below the share. -/
theorem boundSync_bound {s : State} (h : s.tm.queues.sorted = true) {k : Nat} (hb : (queueOf s k).bound = true) :
    (queueOf (boundSync k s) k).bound = !decide (qOnDie s k ≤ qShare s k) := by
  unfold boundSync
  dsimp only
  rw [hb, Bool.true_and]
  split
  next e =>
    rw [queueOf_put h (k := k) rfl k, if_pos rfl, e]
    rfl
  next e => rw [hb, Bool.eq_false_iff.mpr e, Bool.not_false]

/-- A queue that is stored with the condition of R164 keeps it while Qd is above the share. -/
theorem setQueue_bound {s : State} (h : s.Sound) (k : Nat) {q : Queue} (hq : q.bound = true) :
    (queueOf (setQueue k q s) k).bound = !decide (qOnDie (setQueue k q s) k ≤ qShare (setQueue k q s) k) := by
  have kept := kept_setQueue (le_same _) k q s (.refl _ _)
  obtain ⟨regs, sky⟩ := storeQueue_stays k q s
  have sorted : (storeQueue k q s).tm.queues.sorted = true := SMap.sorted_put (sound_noteDepth k s h).tm.queues _ _ _
  have die : qOnDie (setQueue k q s) k = qOnDie (storeQueue k q s) k := by
    refine qOnDie_congr ?_ ((kept.sky (by decide)).trans sky.symm)
    rw [setQueue_units h, if_pos rfl, storeQueue_queue h]
  have share : qShare (setQueue k q s) k = qShare (storeQueue k q s) k :=
    (kept.fld (f := .BUF_SPILL_THRESH_ON_DIE_TILES) h (sound_setQueue k q s h) (by decide +kernel) _ 0).trans
      (fld_congr regs _ _ _).symm
  rw [die, share, ← boundSync_bound sorted (by rw [storeQueue_queue h]; exact hq)]
  exact congrArg Queue.bound (queueOf_congr (congrArg TmSt.queues (setQueue_tm k q s)) k)

end Sys2Proof.Machine
end

section
/-!
SUPPORT. Spill (R150 to R153): what an engine does with the answer of the port of an HBM pool.
-/
namespace Sys2Proof.Machine

/-! ### The port of an HBM pool -/

theorem allocHbm_waits {s : State} {p : Nat} (ht : portTaken s p = true) (hr : 1 ≤ hbmReady s p) (rival : Bool) :
    allocHbm p rival s = (.wait, s.count .BUF_ALLOC_WAIT_CNT p) := by
  rw [allocHbm, if_pos ht, hbmLoses, if_pos hr]

/-- The port of HBM pool p hands out tile t. -/
def handOut (p t : Nat) (s : State) : State := takeTile p t (setTaken (256 + p) (s.now + 1) s)

/-- A tile that is handed out counts, and no queue and no carve changes. -/
theorem handOut_hands {s : State} (h : s.Sound) (p t : Nat) : (handOut p t s).Sound ∧ (handOut p t s).tm = s.tm
    ∧ (handOut p t s).buf.carved = s.buf.carved ∧ (handOut p t s).cnt .BUF_ALLOC_CNT p = s.cnt .BUF_ALLOC_CNT p + 1#64
    ∧ ∀ i, (handOut p t s).cnt .BUF_SPILL_UNIT_CNT i = s.cnt .BUF_SPILL_UNIT_CNT i :=
  ⟨sound_takeTile p t _ (sound_setTaken _ _ _ h), rfl, rfl, cnt_count h.cnts .BUF_ALLOC_CNT p 0 1,
    fun i => cnt_count_apart h.cnts (c := .BUF_ALLOC_CNT) (q := .BUF_SPILL_UNIT_CNT) (by decide) p 0 1 i 0⟩

theorem allocHbm_hands {s : State} {p t : Nat} (ht : portTaken s p = false)
    (hf : hbmFree s.buf.tiles (notYet s s.now) p (poolSize s p) 0 = some t) :
    allocHbm p false s = (.tile t, handOut p t s) := by
  rw [allocHbm, ht, if_neg Bool.false_ne_true, if_neg Bool.false_ne_true, hf, handOut]

theorem allocHbm_none {s : State} {p : Nat} (ht : portTaken s p = false)
    (hf : hbmFree s.buf.tiles (notYet s s.now) p (poolSize s p) 0 = none) :
    allocHbm p false s = (.nobuf, s.count .BUF_NOBUF_CNT p) := by
  rw [allocHbm, ht, if_neg Bool.false_ne_true, if_neg Bool.false_ne_true, hf]

/-! ### The spill engine -/

/-- What a spill engine does with the answer of the port. -/
def spillGets (k : Nat) (u : QUnit) (e : HbmGrant × State) : State :=
  match e.1 with
  | .wait => e.2
  | .nobuf => spillStays k e.2
  | .tile t => spillTo k t u e.2

/-- A spill engine with a unit to spill, and no error, asks for a tile. -/
theorem spillUnit_asks {s : State} {k : Nat} {u : QUnit} (ha : spillActive s = true)
    (hu : (queueOf s k).units.find? spillNext = some u) : spillUnit k none .none s = spillGets k u
      (allocHbm (spillPool u.cells.length) (spillRival s (spillPool u.cells.length) (spillRank s (qXport k))) s) := by
  unfold spillUnit
  rw [hu, ha]
  change (match allocHbm _ _ s with
    | (.wait, s) => s
    | (.nobuf, s) => spillStays k s
    | (.tile t, s) => spillTo k t u s) = _
  generalize allocHbm _ _ s = e
  obtain ⟨g, t⟩ := e
  cases g <;> rfl

theorem exec_spillUnit {s : State} {k : Fin 22528} {u : QUnit} (hf : forwards s) (ha : spillActive s = true)
    (hu : (queueOf s k.val).units.find? spillNext = some u) {e : HbmGrant × State} (he : allocHbm (spillPool u.cells.length)
      (spillRival s (spillPool u.cells.length) (spillRank s (qXport k.val))) s = e) :
    exec (.spillUnit k {}) s = .next (spillGets k.val u e) := by
  rw [← he, ← spillUnit_asks ha hu]
  exact congrArg Host.Outcome.next (running_runs hf _)

/-! ### The unit stays (R153) -/

/-- A unit for which its pool has no tile stays, counted, and its queue is bound by its share (R153, R164). -/
theorem spillStays_stays {s : State} (h : s.Sound) (k : Nat) : (spillStays k s).buf = s.buf
    ∧ (queueOf (spillStays k s) k).bound = !decide (qOnDie (spillStays k s) k ≤ qShare (spillStays k s) k)
    ∧ (spillStays k s).cnt .BUF_SPILL_NOBUF_CNT (qXport k) = s.cnt .BUF_SPILL_NOBUF_CNT (qXport k) + 1#64 := by
  have h1 := sound_State_count s .BUF_SPILL_NOBUF_CNT (qXport k) 0 1 h
  refine ⟨?_, setQueue_bound h1 k rfl, ?_⟩
  · exact ((kept_setQueue (le_same _) k _ _ (.refl _ _)).buf (by decide)).trans (count_buf s _ _ _ _)
  · exact ((kept_setQueue (le_same _) k _ _ (.refl _ _)).cnt h1 (sound_setQueue _ _ _ h1) (by decide +kernel) _ 0).trans
      (cnt_count h.cnts .BUF_SPILL_NOBUF_CNT (qXport k) 0 1)

/-! ### The unit moves (R152, R155) -/

theorem metaOf_setMeta {s : State} (h : s.Sound) (p t v : Nat) : metaOf (setMeta p t v s) p t = v :=
  SMap.getD_put_self h.buf.metas _ _ _

theorem setMeta_stays (p t v : Nat) (s : State) : (setMeta p t v s).tm = s.tm ∧ (setMeta p t v s).cnts = s.cnts := ⟨rfl, rfl⟩

/-- The tiles of pool D of a unit are released. -/
def freeCells (u : QUnit) (s : State) : State := u.cells.foldl (fun s e => freeTile 4 e.1 s) s

theorem sound_freeCells {s : State} (h : s.Sound) (u : QUnit) : (freeCells u s).Sound :=
  foldl_holds (P := State.Sound) (fun _ (e : Nat × Cell) hs => sound_freeTile 4 e.1 _ hs) h

theorem freeCells_tm (u : QUnit) (s : State) : (freeCells u s).tm = s.tm :=
  foldl_holds (P := fun t : State => t.tm = s.tm) (fun t (e : Nat × Cell) ht => (freeTile_tm 4 e.1 t).trans ht) rfl

theorem metaOf_freeCells (u : QUnit) (s : State) (p t : Nat) : metaOf (freeCells u s) p t = metaOf s p t := by
  obtain ⟨metas, carved⟩ := freeTiles_metas 4 u.cells s
  unfold metaOf freeCells
  rw [metas, carved]

/-- The release of a unit's tiles counts in no counter but those of releases. -/
theorem cnt_freeCells {s : State} (h : s.Sound) (u : QUnit) {c : Cnt} (hf : freeC ⟨1054720, 0x180000000000000,
    0x24000000000000000000⟩ c = true) (i : Nat) : (freeCells u s).cnt c i = s.cnt c i :=
  (foldl_holds (P := fun t : State => t.Sound ∧ t.cnt c i = s.cnt c i) (fun t (e : Nat × Cell) ⟨ht, hc⟩ =>
    ⟨sound_freeTile 4 e.1 t ht, ((kept_freeTile (le_same _) 4 e.1 t (.refl _ _)).cnt ht (sound_freeTile 4 e.1 t ht) hf i 0).trans hc⟩)
    ⟨h, rfl⟩).2

/-- The metadata record w is written, the spill counts, and the unit's tiles of pool D are released. -/
def spillWrites (k t w : Nat) (u : QUnit) (s : State) : State :=
  freeCells u ((setMeta (spillPool u.cells.length) t w s).count .BUF_SPILL_UNIT_CNT (qXport k))

/-- What the writes of a spill leave. -/
theorem spillWrites_writes {s : State} (h : s.Sound) (k t w : Nat) (u : QUnit) : (spillWrites k t w u s).Sound
    ∧ (spillWrites k t w u s).tm = s.tm ∧ metaOf (spillWrites k t w u s) (spillPool u.cells.length) t = w
    ∧ (spillWrites k t w u s).cnt .BUF_SPILL_UNIT_CNT (qXport k) = s.cnt .BUF_SPILL_UNIT_CNT (qXport k) + 1#64
    ∧ ∀ p, (spillWrites k t w u s).cnt .BUF_ALLOC_CNT p = s.cnt .BUF_ALLOC_CNT p := by
  obtain ⟨tm, cnts⟩ := setMeta_stays (spillPool u.cells.length) t w s
  have h1 := sound_setMeta (spillPool u.cells.length) t w s h
  have h2 := sound_State_count _ .BUF_SPILL_UNIT_CNT (qXport k) 0 1 h1
  unfold spillWrites
  refine ⟨sound_freeCells h2 u, ?_, ?_, ?_, fun p => ?_⟩
  · rw [freeCells_tm, count_tm, tm]
  · rw [metaOf_freeCells, metaOf_congr (count_buf _ _ _ _ _), metaOf_setMeta h]
  · rw [cnt_freeCells h2 u (by decide +kernel), cnt_count h1.cnts, cnt_congr cnts]
  · rw [cnt_freeCells h2 u (by decide +kernel), cnt_count_apart h1.cnts (by decide), cnt_congr cnts]

/-- A unit that lies in tile t of an HBM pool. -/
def spilled (p t : Nat) (u : QUnit) : QUnit := { u with hbm := some (p, t), cells := u.cells.map (fun e => (0, e.2)) }

theorem spillTo_eq (k t : Nat) (u : QUnit) (s : State) : spillTo k t u s =
    editUnit k spillNext (fun v => some (spilled (spillPool u.cells.length) t v)) (spillWrites k t
      (unitRecord s.buf.carved (spillPool u.cells.length) t (u.cells.map (fun e => e.2))) u s) := rfl

theorem spilled_cells (p t : Nat) (u : QUnit) : (spilled p t u).cells.map (fun e => e.2) = u.cells.map (fun e => e.2) := by
  simp [spilled]

/-- A unit that has its tile lies in it, counted, with its record (R152, R155). -/
theorem spillTo_moves {s : State} (h : s.Sound) {k : Nat} {u : QUnit} (hu : (queueOf s k).units.find? spillNext = some u) (t : Nat) :
    spilled (spillPool u.cells.length) t u ∈ (queueOf (spillTo k t u s) k).units
      ∧ metaOf (spillTo k t u s) (spillPool u.cells.length) t
        = unitRecord s.buf.carved (spillPool u.cells.length) t (u.cells.map (fun e => e.2))
      ∧ (spillTo k t u s).cnt .BUF_SPILL_UNIT_CNT (qXport k) = s.cnt .BUF_SPILL_UNIT_CNT (qXport k) + 1#64
      ∧ ∀ p, (spillTo k t u s).cnt .BUF_ALLOC_CNT p = s.cnt .BUF_ALLOC_CNT p := by
  rw [spillTo_eq]
  generalize unitRecord s.buf.carved _ t _ = w
  obtain ⟨h1, tm, record, spills, allocs⟩ := spillWrites_writes h k t w u
  have stays {c : Cnt} (hc : freeC ⟨2359296, 0x2000000000000000000000, 0x0⟩ c = true) (i : Nat) :=
    (kept_editUnit (le_same _) k spillNext (fun v => some (spilled (spillPool u.cells.length) t v)) _ (.refl _ _)).cnt h1
      (sound_editUnit _ _ _ _ h1) hc i 0
  refine ⟨mem_editUnit h1 ?_ rfl, ?_, ?_, fun p => ?_⟩
  · rw [queueOf_congr (congrArg TmSt.queues tm)]
    exact hu
  · rw [metaOf_congr (editUnit_buf _ _ _ _), record]
  · rw [stays (by decide +kernel), spills]
  · rw [stays (by decide +kernel), allocs]

/-! ### A run that closes (R151) -/

/-- A run of a sky queue that has been open for 1 µs closes. -/
theorem spillUnitClose_closes {s : State} {k : Nat} (hk : 2048 ≤ k) {u : QUnit}
    (hu : (queueOf s k).units.find? (fun u => !u.closed) = some u) (ho : u.at_ + 1600 ≤ s.now) : spillUnitClose k s =
      editUnit k (fun u => !u.closed) (fun v => some { v with closed := true, spill := spillMark k v s }) s := by
  unfold spillUnitClose
  dsimp only
  rw [hu]
  dsimp only
  rw [if_neg]
  simp only [Bool.or_eq_true, decide_eq_true_eq]
  omega

end Sys2Proof.Machine
end

section
/-!
SUPPORT. Refill (R149, R154, R156): a spilled unit comes back into pool D, or fails its check.
-/
namespace Sys2Proof.Machine

/-! ### The reservation -/

/-- A reservation changes no queue, no tile, no metadata record and no carve. -/
theorem reserveTurn_stays (slot n : Nat) (refill : Bool) (s : State) : (reserveTurn slot n refill s).2.tm = s.tm
    ∧ (∀ p t, tileOf (reserveTurn slot n refill s).2 p t = tileOf s p t)
    ∧ (∀ p t, metaOf (reserveTurn slot n refill s).2 p t = metaOf s p t)
    ∧ (reserveTurn slot n refill s).2.buf.carved = s.buf.carved ∧ (reserveTurn slot n refill s).2.cnts = s.cnts := by
  unfold reserveTurn reserve
  dsimp only
  split <;> exact ⟨rfl, fun _ _ => rfl, fun _ _ => rfl, rfl, rfl⟩

theorem reserveTurn_refused {slot n : Nat} {refill : Bool} {s : State} (h : (reserveTurn slot n refill s).1 = false) :
    (reserveTurn slot n refill s).2 = s := by
  revert h
  unfold reserveTurn reserve
  dsimp only
  split
  · intro h
    cases h
  · exact fun _ => rfl

/-! ### The refill engine -/

/-- The first unit that is u is u. -/
theorem find?_self {l : List QUnit} {u : QUnit} (hu : u ∈ l) : l.find? (fun v => v == u) = some u := by
  cases hf : l.find? (fun v => v == u) with
  | none => exact absurd (beq_self_eq_true u) (List.find?_eq_none.mp hf u hu)
  | some v =>
    have hv : (v == u) = true := List.find?_some (p := fun v => v == u) hf
    rw [eq_of_beq hv]

/-- The spilled unit that is read next stands in its queue. -/
theorem mem_of_refillNext {s : State} {k : Nat} {u : QUnit} (h : refillNext s k = some u) : u ∈ (queueOf s k).units := by
  revert h
  unfold refillNext
  dsimp only
  split
  · intro h
    cases h
  next v hv =>
    split
    · intro h
      cases h
    · intro h
      cases h
      exact List.mem_of_find?_eq_some hv

/-- A refill that has no reservation waits. -/
theorem refillUnit_waits {s : State} {k : Nat} {u : QUnit} {p t : Nat} (hu : refillNext s k = some u) (hp : u.hbm = some (p, t))
    (hr : (reserveTurn (160 + qXport k) u.cells.length true s).1 = false) (flips : DWord) (bad : Bool) (e : BufError) :
    refillUnit k flips bad e s = s.count .BUF_REFILL_WAIT_CNT (qXport k) := by
  have stays := reserveTurn_refused hr
  unfold refillUnit
  rw [hu]
  dsimp only
  generalize reserveTurn (160 + qXport k) u.cells.length true s = r at hr stays ⊢
  obtain ⟨b, s1⟩ := r
  cases hr
  cases stays
  rw [hp]

/-- The unit is back in pool D, in the tiles of `cells`. -/
def refilled (cells : List (Nat × Cell)) (u : QUnit) : QUnit := { u with hbm := none, spill := false, cells := cells }

/-- A unit that is read from tile t of HBM pool p takes its tiles of pool D; the HBM tile is released. -/
def refillFrom (k p t : Nat) (u : QUnit) (s : State) : State :=
  (freeTile p t (editUnit k (fun v => v == u)
    (fun v => some (refilled (allocMany (refillSlots (qXport k)) u.cells s).1 v))
      (allocMany (refillSlots (qXport k)) u.cells s).2)).count .BUF_REFILL_UNIT_CNT (qXport k)

/-- A refill with a reservation: the unit fails its check, or comes back. -/
theorem refillUnit_reserved {s : State} {k : Nat} {u : QUnit} {p t : Nat} (hu : refillNext s k = some u)
    (hp : u.hbm = some (p, t)) (hr : (reserveTurn (160 + qXport k) u.cells.length true s).1 = true) (flips : DWord) (bad : Bool) :
    refillUnit k flips bad .none s =
      if bad || !recordOk s.buf.carved p t (metaOf s p t ^^^ flips.toNat) (u.cells.map (fun e => e.2)) then
        refillFail k p t u (unreserve u.cells.length (reserveTurn (160 + qXport k) u.cells.length true s).2)
      else refillFrom k p t u (reserveTurn (160 + qXport k) u.cells.length true s).2 := by
  obtain ⟨-, -, metas, carved, -⟩ := reserveTurn_stays (160 + qXport k) u.cells.length true s
  rw [← metas, ← carved]
  unfold refillUnit
  rw [hu]
  dsimp only
  generalize reserveTurn (160 + qXport k) u.cells.length true s = r at hr ⊢
  obtain ⟨b, s1⟩ := r
  cases hr
  rw [hp]
  rfl

theorem exec_refillUnit {s : State} (hf : forwards s) (k : Fin 22528) (e : RefillErrors) :
    exec (.refillUnit k e) s = .next (refillUnit k.val e.flips e.bad e.alloc s) :=
  congrArg Host.Outcome.next (running_runs hf _)

/-! ### The unit comes back -/

theorem length_allocMany (slots : List Nat) (l : List (Nat × Cell)) (s : State) : (allocMany slots l s).1.length = l.length := by
  induction l generalizing s with
  | nil => rfl
  | cons e l ih => exact congrArg (· + 1) (ih _)

theorem allocMany_tm (slots : List Nat) (l : List (Nat × Cell)) (s : State) : (allocMany slots l s).2.tm = s.tm :=
  (of_snd (kept_allocMany (le_same _) slots l s (.refl _ _))).tm (by decide)

/-- A unit that comes back lies in pool D, counted (R154). -/
theorem refillFrom_returns {s : State} (h : s.Sound) {k : Nat} {u : QUnit} (hu : u ∈ (queueOf s k).units) (p t : Nat) :
    (∃ v ∈ (queueOf (refillFrom k p t u s) k).units, v.hbm = none ∧ v.spill = false ∧ v.cells.length = u.cells.length)
      ∧ (refillFrom k p t u s).cnt .BUF_REFILL_UNIT_CNT (qXport k) = s.cnt .BUF_REFILL_UNIT_CNT (qXport k) + 1#64 := by
  have h1 := of_snd (sound_allocMany (refillSlots (qXport k)) u.cells s h)
  have h2 := sound_editUnit k (fun v => v == u)
    (fun v => some (refilled (allocMany (refillSlots (qXport k)) u.cells s).1 v)) _ h1
  have h3 := sound_freeTile p t _ h2
  constructor
  · refine ⟨refilled (allocMany (refillSlots (qXport k)) u.cells s).1 u, ?_, rfl, rfl, length_allocMany _ _ _⟩
    have tm : (refillFrom k p t u s).tm = _ := (count_tm _ _ _ _ _).trans (freeTile_tm p t _)
    rw [queueOf_congr (congrArg TmSt.queues tm)]
    refine mem_editUnit h1 ?_ rfl
    rw [queueOf_congr (congrArg TmSt.queues (allocMany_tm _ _ s))]
    exact find?_self hu
  · refine (cnt_count h3.cnts .BUF_REFILL_UNIT_CNT (qXport k) 0 1).trans (congrArg (· + 1#64) ?_)
    rw [(kept_freeTile (le_same _) p t _ (.refl _ _)).cnt h2 h3 (by decide +kernel),
      (kept_editUnit (le_same _) k _ _ _ (.refl _ _)).cnt h1 h2 (by decide +kernel),
      (of_snd (kept_allocMany (le_same _) _ u.cells s (.refl _ _))).cnt h h1 (by decide +kernel)]

/-! ### The unit fails its check (R156) -/

section
variable {c : Cnt} {s t : State} (h : BufStays c s t)
include h

theorem BufStays.cellGone (hc : freeC ⟨2359296, 0x4000000000000000000000000000000, 0x0⟩ c = true) (x : Cell) :
    BufStays c s (cellGone x t) :=
  h.kept (kept_cellGone (le_same _) x t (.refl _ _)) (sound_cellGone x t h.sound) (by decide) hc

theorem BufStays.count {d : Cnt} (hd : cntApart c d = true) (i : Nat) : BufStays c s (t.count d i) :=
  ⟨sound_State_count t d i 0 1 h.sound, h.buf, fun j => (cnt_count_apart h.sound.cnts hd i 0 1 j 0).trans (h.cnt j)⟩

end

/-- What follows the quarantine of a unit's tile: its frame is dropped whole, or each of its sky cells alone. -/
def loseCells (k : Nat) (u : QUnit) (s : State) : State :=
  if k < 2048 then
    (txDropped u.tag (u.cells.foldl (fun s e => cellGone e.2 s) (s.count .BUF_HBM_CRC_DROP_CNT (qXport k)))).led tDrop4 (qXport k)
  else u.cells.foldl (fun s e => skyGone e.2 (s.count .BUF_HBM_CRC_CELL_CNT (qXport k))) s

theorem refillFail_eq (k p t : Nat) (u : QUnit) (s : State) :
    refillFail k p t u s = loseCells k u (quarFail p t (editUnit k (fun v => v == u) (fun _ => none) s)) := rfl

/-- The end of a unit's cells changes neither the buffer nor a count of quarantined tiles. -/
theorem bufStays_loseCells {s : State} (h : s.Sound) (k : Nat) (u : QUnit) : BufStays .BUF_QUAR_CNT s (loseCells k u s) := by
  refine ite_holds (P := BufStays .BUF_QUAR_CNT s) ?frame ?sky
  case frame =>
    have gone : BufStays .BUF_QUAR_CNT s (u.cells.foldl (fun s e => cellGone e.2 s) (s.count .BUF_HBM_CRC_DROP_CNT (qXport k))) :=
      foldl_holds (P := BufStays .BUF_QUAR_CNT s) (fun _ (e : Nat × Cell) ht => ht.cellGone (by decide +kernel) e.2)
        ((BufStays.refl h).count (by decide) _)
    have done := gone.kept (kept_txDropped (le_same _) u.tag _ (.refl _ _)) (sound_txDropped _ _ gone.sound) (by decide)
      (by decide +kernel)
    exact ⟨sound_State_led _ _ _ _ done.sound, done.buf, done.cnt⟩
  case sky =>
    refine foldl_holds (P := BufStays .BUF_QUAR_CNT s) (fun t (e : Nat × Cell) ht => ?_) (.refl h)
    have counted := ht.count (d := .BUF_HBM_CRC_CELL_CNT) (by decide) (qXport k)
    exact counted.kept (kept_skyGone (le_same _) e.2 _ (.refl _ _)) (sound_skyGone _ _ counted.sound) (by decide)
      (by decide +kernel)

theorem unreserve_cnts (n : Nat) (s : State) : (unreserve n s).cnts = s.cnts :=
  ite_holds (P := fun t : State => t.cnts = s.cnts) rfl rfl

/-- The tile of a unit that fails its check is in QUAR, counted. -/
theorem refillFail_quarantines {s : State} (h : s.Sound) (k p t : Nat) (u : QUnit) :
    tileOf (refillFail k p t u s) p t = some { quar := true }
      ∧ (refillFail k p t u s).cnt .BUF_QUAR_CNT p = s.cnt .BUF_QUAR_CNT p + 1#64 := by
  have h1 := sound_editUnit k (fun v => v == u) (fun _ => none) s h
  have edited := (kept_editUnit (le_same _) k (fun v => v == u) (fun _ => none) s (.refl _ _)).cnt h h1 (c := .BUF_QUAR_CNT)
    (by decide +kernel) p 0
  obtain ⟨quar, counted⟩ := quarFail_quarantines h1 p t
  have lost := bufStays_loseCells (sound_quarFail p t _ h1) k u
  rw [refillFail_eq]
  exact ⟨(tileOf_congr lost.buf p t).trans quar, (lost.cnt p).trans (counted.trans (by rw [edited]))⟩

end Sys2Proof.Machine
end

section
/-!
Obligation O31: spill, close and refill of units.
-/
open Sys2Proof Sys2Proof.Machine

/-- Settles O31: a spill is what `spillGets` does with the port's answer, a run closes by `editUnit`, and a refill with its
reservation is `refillFrom` or `refillFail`. -/
theorem spillAndRefill : Obligations.SpillAndRefill := by
  unfold Obligations.SpillAndRefill
  refine ⟨fun s k u p h hf ha hu hp => ?spill, fun s k u h hf hk hu ho => ?close,
    fun s k u p n h hf hu hp => ⟨fun hr => ?refill, fun hr => ?refused⟩⟩
  case spill =>
    subst hp
    refine ⟨fun n ht hr hn => ?moves, fun ht hr hn => ?stays, fun ht hr => ?waits⟩
    case moves =>
      have port := allocHbm_hands ht hn
      rw [← hr] at port
      obtain ⟨hands, tm, carved, alloc, spill⟩ := handOut_hands h (spillPool u.cells.length) n
      obtain ⟨unit, record, spills, allocs⟩ := spillTo_moves hands
        (by rw [queueOf_congr (congrArg TmSt.queues tm)]; exact hu) n
      rw [carved] at record
      rw [spill] at spills
      exact ⟨_, exec_spillUnit hf ha hu port, ⟨_, unit, rfl, spilled_cells _ _ _⟩, record, spills, (allocs _).trans alloc⟩
    case stays =>
      have port := allocHbm_none ht hn
      rw [← hr] at port
      obtain ⟨buf, bound, stayed⟩ := spillStays_stays
        (sound_State_count s .BUF_NOBUF_CNT (spillPool u.cells.length) 0 1 h) k.val
      rw [cnt_count_apart h.cnts (by decide)] at stayed
      exact ⟨_, exec_spillUnit hf ha hu port, buf.trans (count_buf s _ _ _ _), bound, stayed⟩
    case waits =>
      exact ⟨_, exec_spillUnit hf ha hu (allocHbm_waits ht hr _), count_buf _ _ _ _ _, count_tm _ _ _ _ _,
        cnt_count h.cnts .BUF_ALLOC_WAIT_CNT (spillPool u.cells.length) 0 1⟩
  case close =>
    refine ⟨_, congrArg Host.Outcome.next ((running_runs hf _).trans (spillUnitClose_closes hk hu ho)), ?_⟩
    exact ⟨{ u with closed := true, spill := spillMark k.val u s }, mem_editUnit h hu rfl, rfl, rfl, rfl⟩
  case refill =>
    have reserved := of_snd (sound_reserveTurn (160 + qXport k.val) u.cells.length true s h)
    obtain ⟨tm, -, -, -, cnts⟩ := reserveTurn_stays (160 + qXport k.val) u.cells.length true s
    refine ⟨fun ok => ?good, fun flips bad fails => ?failed⟩
    case good =>
      have unit : u ∈ (queueOf (reserveTurn (160 + qXport k.val) u.cells.length true s).2 k.val).units := by
        rw [queueOf_congr (congrArg TmSt.queues tm)]
        exact mem_of_refillNext hu
      obtain ⟨back, counted⟩ := refillFrom_returns reserved unit p n
      have run := exec_refillUnit hf k {}
      rw [refillUnit_reserved hu hp hr, show metaOf s p n ^^^ (0#64).toNat = metaOf s p n from Nat.xor_zero _, ok] at run
      exact ⟨_, run, back, counted.trans (congrArg (· + 1#64) (cnt_congr cnts _ _ _))⟩
    case failed =>
      have given := sound_unreserve u.cells.length _ reserved
      obtain ⟨quar, counted⟩ := refillFail_quarantines given k.val p n u
      have cnts' : (unreserve u.cells.length (reserveTurn (160 + qXport k.val) u.cells.length true s).2).cnts = s.cnts :=
        (unreserve_cnts _ _).trans cnts
      have run := exec_refillUnit hf k ⟨flips, bad, .none⟩
      rw [refillUnit_reserved hu hp hr, if_pos (by simpa using fails)] at run
      exact ⟨_, run, quar, counted.trans (congrArg (· + 1#64) (cnt_congr cnts' _ _ _))⟩
  case refused =>
    have run := exec_refillUnit hf k {}
    rw [refillUnit_waits hu hp hr] at run
    exact ⟨_, run, count_tm _ _ _ _ _, count_buf _ _ _ _ _, cnt_count h.cnts .BUF_REFILL_WAIT_CNT (qXport k.val) 0 1⟩
end

section
/-!
SUPPORT. The refreshes of shapers and policers (R171 to R175): what one makes of the settings and the credit, and when it takes place.
-/
namespace Sys2Proof.Machine

/-! ### One refresh of a shaper (R171 to R173) -/

@[simp] theorem refresh_mode (x r : ShSt) (port busy : Bool) (now : Nat) : (x.refresh r port busy now).mode = r.mode := by
  unfold ShSt.refresh
  extract_lets y
  split_ifs <;> rfl

@[simp] theorem refresh_last (x r : ShSt) (port busy : Bool) (now : Nat) : (x.refresh r port busy now).last = now + 1 := by
  unfold ShSt.refresh
  extract_lets y
  split_ifs <;> rfl

/-- A changed MODE zeroes the shaper (R173). -/
theorem refresh_modeChanges {x r : ShSt} (h : x.mode ≠ r.mode) (port busy : Bool) (now : Nat) :
    x.refresh r port busy now = { r with c := 0, tc := 0, tp := 0, last := now + 1 } := if_pos h

/-- The credit of a credit shaper after its refresh (R171). -/
theorem refresh_credit {x r : ShSt} (h : x.mode = r.mode) (hm : r.mode = 1) (port busy : Bool) (now : Nat) :
    (x.refresh r port busy now).c
      = if busy || decide (x.c < 0) then min (x.c + r.inc) (65536 * r.hi) else if 0 < x.c then 0 else x.c := by
  unfold ShSt.refresh
  extract_lets y
  have acts : y.act port = 1 := if_pos hm
  rw [if_neg (not_not.mpr h), if_pos acts]

/-- A credit shaper whose queue is busy, or whose credit is negative, gains its increment up to its bound. -/
theorem refresh_gains {x r : ShSt} (h : x.mode = r.mode) (hm : r.mode = 1) {busy : Bool} (hb : busy = true ∨ x.c < 0)
    (port : Bool) (now : Nat) : (x.refresh r port busy now).c = min (x.c + r.inc) (65536 * r.hi) := by
  rw [refresh_credit h hm, if_pos (by simpa using hb)]

/-- An idle credit shaper holds no credit after its refresh. -/
theorem refresh_losesCredit {x r : ShSt} (h : x.mode = r.mode) (hm : r.mode = 1) (hc : 0 ≤ x.c) (port : Bool) (now : Nat) :
    (x.refresh r port false now).c = 0 := by
  rw [refresh_credit h hm, if_neg (by simpa using hc)]
  split_ifs <;> omega

/-- A two-bucket shaper of a class fills both buckets up to their sizes (R172). -/
theorem refresh_fills {x r : ShSt} (h : x.mode = r.mode) (hm : r.mode = 2) (busy : Bool) (now : Nat) :
    (x.refresh r false busy now).tc = min (x.tc + r.inc) (65536 * r.hi)
      ∧ (x.refresh r false busy now).tp = min (x.tp + r.pir) (65536 * r.lo) := by
  unfold ShSt.refresh
  extract_lets y
  have mode : y.mode = 2 := hm
  have acts : y.act false = 2 := by simp [ShSt.act, mode]
  rw [if_neg (not_not.mpr h), acts, if_neg (by decide), if_pos rfl]
  exact ⟨rfl, rfl⟩

/-! ### SHAPER_REFRESH -/

theorem setShaper_tm (i : Nat) (x : ShSt) (s : State) :
    (setShaper i x s).tm = { s.tm with shapers := SMap.put s.tm.shapers i {} x } := by
  unfold setShaper
  dsimp only
  split_ifs <;> rfl

theorem shaperOf_setShaper {s : State} (h : s.Sound) (i : Nat) (x : ShSt) : shaperOf (setShaper i x s) i = x := by
  rw [shaperOf, setShaper_tm]
  exact SMap.getD_put_self h.tm.shapers i _ _

section
variable {s : State} {i : Fin 2304}

/-- Only a core clock whose number is a multiple of 64 refreshes a shaper. -/
theorem exec_shaperRefresh_off (h : s.now % 64 ≠ 0) : exec (.shaperRefresh i) s = .next s := by
  refine congrArg Host.Outcome.next (if_neg ?_)
  simp [h]

variable (hn : s.now % 64 = 0) (hl : (shaperOf s i.val).last ≠ s.now + 1)
include hn hl

theorem exec_shaperRefresh_due (ho : shaperOwes s i.val = false) :
    exec (.shaperRefresh i) s = .next (setShaper i.val ((shaperOf s i.val).refresh (shaperRegs s i.val) (decide (i.val < 256))
      (shaperBusy s i.val) s.now) s) :=
  congrArg Host.Outcome.next ((if_pos (by simp [hn, hl])).trans (if_neg (by simp [ho])))

/-- A refresh that falls into a frame of unknown length is kept with its settings (log 56). -/
theorem exec_shaperRefresh_owed (ho : shaperOwes s i.val = true) :
    exec (.shaperRefresh i) s = .next (setShaper i.val { shaperOf s i.val with
      last := s.now + 1
      late := (shaperOf s i.val).late ++ [((shaperRegs s i.val).mode, (shaperRegs s i.val).inc, (shaperRegs s i.val).pir,
        (shaperRegs s i.val).hi, (shaperRegs s i.val).lo)] } s) :=
  congrArg Host.Outcome.next ((if_pos (by simp [hn, hl])).trans (if_pos ho))

end

/-! ### POLICER_REFRESH (R174, R175) -/

/-- Policer i after its refresh: the settings of its registers, and a bucket that is full where it becomes enabled. -/
def refreshedPol (s : State) (i : Nat) : PolSt :=
  { polOf s i with
    en := s.flag .TM_POL_B_EN i
    rate := s.fld .TM_POL_A_RATE_INC i
    burst := s.fld .TM_POL_B_BURST i
    bucket := if s.flag .TM_POL_B_EN i = true ∧ (polOf s i).en = false then 8192 * s.fld .TM_POL_B_BURST i
      else min ((polOf s i).bucket + s.fld .TM_POL_A_RATE_INC i) (8192 * s.fld .TM_POL_B_BURST i)
    last := s.now + 1 }

theorem polOf_setPol {s : State} (h : s.Sound) (i : Nat) (p : PolSt) : polOf (setPol i p s) i = p :=
  SMap.getD_put_self h.tm.pols i _ _

theorem polOf_setPol_ne {s : State} (h : s.Sound) {i j : Nat} (hj : j ≠ i) (p : PolSt) : polOf (setPol i p s) j = polOf s j :=
  SMap.getD_put_ne h.tm.pols hj _ _ _

theorem Sofar.setPol {s0 s : State} {aa : List Area} {oo cc : List Nat} (h : Sofar s0 s aa oo cc) (ht : Area.tm ∈ aa)
    (i : Nat) (p : PolSt) : Sofar s0 (setPol i p s) aa oo cc := by
  refine h.areas rfl rfl rfl (fun a ha => ?_)
  cases a <;> trivial

section
variable {s : State} {i : Fin 65536}

theorem exec_policerRefresh_due (hn : s.now % 4096 = i.val / 16) (hl : (polOf s i.val).last ≠ s.now + 1) :
    exec (.policerRefresh i) s = .next (setPol i.val (refreshedPol s i.val) s) := by
  refine congrArg Host.Outcome.next ((if_pos (by simp [hn, hl])).trans ?_)
  simp only [refreshedPol, Bool.and_eq_true, Bool.not_eq_true']

theorem exec_policerRefresh_off (h : s.now % 4096 ≠ i.val / 16) : exec (.policerRefresh i) s = .next s := by
  refine congrArg Host.Outcome.next (if_neg ?_)
  simp [h]

end

end Sys2Proof.Machine
end

section
/-!
Obligation O32: the refresh of shapers and policers.
-/
open Sys2Proof Sys2Proof.Machine

/-- Settles O32: what is stored is `ShSt.refresh` of the shaper's registers, the shaper with the refresh kept, or `refreshedPol`. -/
theorem shaperAndPolicerRefresh : Obligations.ShaperAndPolicerRefresh := by
  unfold Obligations.ShaperAndPolicerRefresh
  refine ⟨fun s i h hn hl ho => ?refreshed, fun s i h hn hl ho => ?kept, fun s i hn => exec_shaperRefresh_off hn,
    fun s i h hn hl => ?policer, fun s i hn => exec_policerRefresh_off hn⟩
  case refreshed =>
    refine ⟨_, exec_shaperRefresh_due hn hl ho, ?_⟩
    dsimp only
    rw [shaperOf_setShaper h]
    refine ⟨refresh_mode _ _ _ _ _, refresh_last _ _ _ _ _, fun hm => ?changed, fun hm h1 => ⟨fun hb => ?gains, fun hb hc => ?loses⟩,
      fun hm h2 hi => ?fills⟩
    case changed =>
      rw [refresh_modeChanges hm]
      exact ⟨rfl, rfl, rfl⟩
    case gains => exact refresh_gains hm h1 hb _ _
    case loses =>
      rw [hb]
      exact refresh_losesCredit hm h1 hc _ _
    case fills =>
      rw [decide_eq_false (Nat.not_lt.mpr hi)]
      exact refresh_fills hm h2 _ _
  case kept => exact ⟨_, exec_shaperRefresh_owed hn hl ho, shaperOf_setShaper h _ _⟩
  case policer =>
    refine ⟨_, exec_policerRefresh_due hn hl, ?_⟩
    dsimp only
    rw [polOf_setPol h]
    exact ⟨rfl, rfl, rfl, rfl, fun j hj => polOf_setPol_ne h hj _,
      ((Sofar.start h _ _ _).setPol (List.mem_singleton.mpr rfl) _ _).only⟩
end

section
/-!
SUPPORT. Slot maps (R190, R191): what arming, its check, applying and disarming a bank leave in SKY_MAP_STATUS and beside it.
-/
namespace Sys2Proof.Machine

theorem fld_setFld_beside {s : State} (hs : SMap.sorted s.regs = true) {f g : Fld} (h : sideBySide f g) (v i j : Nat) :
    (s.setFld f v i j).fld g i j = s.fld g i j := by
  obtain ⟨h1, h2, hr, hg⟩ := h
  exact fld_setFld_ne hs h1 h2 hr hg v i j

/-- The sky side beside its registers. -/
theorem Sofar.setSky {s0 s : State} {aa : List Area} {oo cc : List Nat} (h : Sofar s0 s aa oo cc) (hk : Area.sky ∈ aa)
    (x : SkySt) : Sofar s0 { s with sky := x } aa oo cc := by
  refine h.areas rfl rfl rfl (fun a ha => ?_)
  cases a <;> trivial

theorem Sends.sky {s s' : State} (h : Sends s s') : s'.sky = s.sky := by obtain ⟨-, m, rfl⟩ := h; rfl
theorem Sends.now {s s' : State} (h : Sends s s') : s'.now = s.now := by obtain ⟨-, m, rfl⟩ := h; rfl
theorem Sends.curEpoch {s s' : State} (h : Sends s s') : curEpoch s' = curEpoch s := by obtain ⟨-, m, rfl⟩ := h; rfl

/-! ### SKY_MAP_CTRL (R189) -/

theorem mapCtrl_there (s : State) (a : Agent) (v : Nat) : fusedOff s (write32 a .SKY_MAP_CTRL v).off = false :=
  fusedOff_write32 (by decide +kernel) (by decide) (by decide) (by decide) s a v

theorem exec_mapArm {s : State} (hl : linked s) (a : Agent) :
    exec (.mapArm a) s = .next (mapArm (write32 a .SKY_MAP_CTRL 1) (idlSend 0 0 1 0 s)) :=
  congrArg Host.Outcome.next (far_linked (op := mapArm (write32 a .SKY_MAP_CTRL 1)) hl (mapCtrl_there s a 1))

theorem exec_mapDisarm {s : State} (hl : linked s) (a : Agent) :
    exec (.mapDisarm a) s = .next (mapDisarm (idlSend 0 0 1 0 s)) :=
  congrArg Host.Outcome.next (far_linked (op := mapDisarm) hl (mapCtrl_there s a 2))

/-! ### Arming (R190) -/

theorem mapArm_starts {s : State} (hv : s.flag .SKY_MAP_STATUS_VALIDATING = false) (w : RegWrite) :
    mapArm w s = ({ s with sky := { s.sky with
      arming := some (s.now, s.fld .SKY_MAP_ARM_BANK, s.fld .SKY_MAP_ARM_MAP_ID, applyReg s) } }).setFld
        .SKY_MAP_STATUS_VALIDATING 1 :=
  if_neg (by rw [hv]; exact Bool.false_ne_true)

theorem mapArm_busy {s : State} (hv : s.flag .SKY_MAP_STATUS_VALIDATING = true) (w : RegWrite) :
    mapArm w s = logWrite 4 w s := if_pos hv

theorem armErr_le (s : State) (b id ea : Nat) : (armErr s b id ea).1 ≤ 6 := by
  unfold armErr
  split
  · exact (by decide : 1 ≤ 6)
  split
  · exact (by decide : 2 ≤ 6)
  split
  · exact (by decide : 3 ≤ 6)
  split
  · exact (by decide : 4 ≤ 6)
  generalize (if skySize s = 32 then firstByte s b _ else none) = o
  cases o with
  | some o => exact (by decide : 5 ≤ 6)
  | none => exact ite_holds (P := (· ≤ 6)) (Nat.le_refl 6) (Nat.zero_le 6)

/-- No check runs. -/
def noArming (s : State) : State := { s with sky := { s.sky with arming := none } }

/-- The check is over, with this code. -/
def checkOver (e : Nat) (s : State) : State :=
  ((noArming s).setFld .SKY_MAP_STATUS_VALIDATING 0).setFld .SKY_MAP_STATUS_ARM_ERR e

/-- A bank shows as armed, with its map ID. -/
def showArmed (b id : Nat) (s : State) : State :=
  ((s.setFld .SKY_MAP_STATUS_ARMED 1).setFld .SKY_MAP_STATUS_ARMED_BANK b).setFld .SKY_MAP_STATUS_ARMED_MAP_ID id

/-- The bank applies at epoch ea, and no disarm has come too late. -/
def appliesAt (ea : Nat) (s : State) : State := { s with sky := { s.sky with applyAt := ea, lateArmed := false } }

theorem appliesAt_regs (ea : Nat) (s : State) : (appliesAt ea s).regs = s.regs := rfl

/-- The offending offset shows, where there is one. -/
def showErrAddr (o : Option Nat) (s : State) : State :=
  match o with
  | some v => s.setReg .SKY_MAP_ERR_ADDR (BitVec.ofNat 32 v)
  | none => s

section
variable {s : State} {c b id ea : Nat} (ha : s.sky.arming = some (c, b, id, ea))
include ha

theorem mapArmDone_arms (he : armErr s b id ea = (0, none)) :
    mapArmDone s = appliesAt ea (showArmed b id (checkOver 0 s)) := by
  unfold mapArmDone
  rw [ha]
  dsimp -zeta only
  rw [he]
  dsimp -zeta only
  extract_lets +onlyGivenNames -merge k u v
  have checked : v = checkOver 0 s := rfl
  clear_value v
  rw [if_pos rfl, ← checked]
  extract_lets x y z
  have armed : y = showArmed b id v := rfl
  have sky : z = y.sky := (setFld_sky x _ _ _ _).symm
  clear_value z y
  rw [← armed, sky]
  rfl

theorem mapArmDone_refuses (he : (armErr s b id ea).1 ≠ 0) :
    mapArmDone s = (showErrAddr (armErr s b id ea).2 (checkOver (armErr s b id ea).1 s)).count .SKY_MAP_ARM_REFUSE_CNT := by
  unfold mapArmDone
  rw [ha]
  dsimp -zeta only
  generalize armErr s b id ea = p at *
  obtain ⟨e, o⟩ := p
  dsimp -zeta only at he ⊢
  rw [if_neg he]
  cases o <;> rfl

end

section
variable {s : State} (h : s.regs.sorted = true)
include h

theorem sorted_noArming : (noArming s).regs.sorted = true := h

theorem sorted_checkOver (e : Nat) : (checkOver e s).regs.sorted = true :=
  sorted_setFld (sorted_setFld (sorted_noArming h) _ _ _ _) _ _ _ _

/-- A check that ends leaves the other fields of SKY_MAP_STATUS. -/
theorem fld_checkOver {f : Fld} (hv : sideBySide .SKY_MAP_STATUS_VALIDATING f) (he : sideBySide .SKY_MAP_STATUS_ARM_ERR f)
    (e : Nat) : (checkOver e s).fld f = s.fld f := by
  have h0 := sorted_noArming h
  unfold checkOver
  rw [fld_setFld_beside (sorted_setFld h0 _ _ _ _) he, fld_setFld_beside h0 hv]
  rfl

theorem checkOver_shows {e : Nat} (he : e ≤ 6) : (checkOver e s).fld .SKY_MAP_STATUS_VALIDATING = 0
    ∧ (checkOver e s).fld .SKY_MAP_STATUS_ARM_ERR = e := by
  have h0 := sorted_noArming h
  have h1 := sorted_setFld h0 .SKY_MAP_STATUS_VALIDATING 0 0 0
  unfold checkOver
  refine ⟨?_, ?_⟩
  · rw [fld_setFld_beside h1 (by decide)]
    exact fld_setFld h0 (by decide) (by decide) 0 0 0
  · exact (fld_setFld h1 (by decide) (by decide) e 0 0).trans (Nat.mod_eq_of_lt (show e < 8 by omega))

/-- Arming leaves the other fields of SKY_MAP_STATUS. -/
theorem fld_showArmed {f : Fld} (ha : sideBySide .SKY_MAP_STATUS_ARMED f) (hb : sideBySide .SKY_MAP_STATUS_ARMED_BANK f)
    (hm : sideBySide .SKY_MAP_STATUS_ARMED_MAP_ID f) (b id : Nat) : (showArmed b id s).fld f = s.fld f := by
  have h1 := sorted_setFld h .SKY_MAP_STATUS_ARMED 1 0 0
  have h2 := sorted_setFld h1 .SKY_MAP_STATUS_ARMED_BANK b 0 0
  unfold showArmed
  rw [fld_setFld_beside h2 hm, fld_setFld_beside h1 hb, fld_setFld_beside h ha]

theorem showArmed_shows {b id : Nat} (hb : b < 2) (hid : id < 256) : (showArmed b id s).fld .SKY_MAP_STATUS_ARMED = 1
    ∧ (showArmed b id s).fld .SKY_MAP_STATUS_ARMED_BANK = b ∧ (showArmed b id s).fld .SKY_MAP_STATUS_ARMED_MAP_ID = id := by
  have h1 := sorted_setFld h .SKY_MAP_STATUS_ARMED 1 0 0
  have h2 := sorted_setFld h1 .SKY_MAP_STATUS_ARMED_BANK b 0 0
  unfold showArmed
  refine ⟨?_, ?_, ?_⟩
  · rw [fld_setFld_beside h2 (by decide), fld_setFld_beside h1 (by decide)]
    exact fld_setFld h (by decide) (by decide) 1 0 0
  · rw [fld_setFld_beside h2 (by decide)]
    exact (fld_setFld h1 (by decide) (by decide) b 0 0).trans (Nat.mod_eq_of_lt hb)
  · exact (fld_setFld h2 (by decide) (by decide) id 0 0).trans (Nat.mod_eq_of_lt hid)

/-- The offending offset is no field of another register. -/
theorem fld_showErrAddr {f : Fld} (hf : regApart f.reg .SKY_MAP_ERR_ADDR = true) (o : Option Nat) :
    (showErrAddr o s).fld f = s.fld f := by
  cases o with
  | none => rfl
  | some v => exact fld_setReg_apart h hf _ 0 0 0 0

end

theorem showErrAddr_cnts (o : Option Nat) (s : State) : (showErrAddr o s).cnts = s.cnts := by
  cases o <;> rfl

theorem checkOver_cnts (e : Nat) (s : State) : (checkOver e s).cnts = s.cnts := by
  unfold checkOver
  rw [setFld_cnts, setFld_cnts]
  rfl

theorem Sofar.checkOver {s0 s : State} {aa : List Area} {oo cc : List Nat} (h : Sofar s0 s aa oo cc) (hk : Area.sky ∈ aa)
    (hm : Reg.off .SKY_MAP_STATUS ∈ oo) (e : Nat) : Sofar s0 (checkOver e s) aa oo cc :=
  ((h.setSky hk _).setFld .SKY_MAP_STATUS_VALIDATING 0 0 0 hm).setFld .SKY_MAP_STATUS_ARM_ERR e 0 0 hm

theorem Sofar.showArmed {s0 s : State} {aa : List Area} {oo cc : List Nat} (h : Sofar s0 s aa oo cc)
    (hm : Reg.off .SKY_MAP_STATUS ∈ oo) (b id : Nat) : Sofar s0 (showArmed b id s) aa oo cc :=
  ((h.setFld .SKY_MAP_STATUS_ARMED 1 0 0 hm).setFld .SKY_MAP_STATUS_ARMED_BANK b 0 0 hm).setFld
    .SKY_MAP_STATUS_ARMED_MAP_ID id 0 0 hm

/-! ### Applying (R191) -/

/-- The armed bank shows as the active one. -/
def showApplied (s : State) : State :=
  ((s.setFld .SKY_MAP_STATUS_ACTIVE_BANK (s.fld .SKY_MAP_STATUS_ARMED_BANK)).setFld .SKY_MAP_STATUS_ACTIVE_MAP_ID
    (s.fld .SKY_MAP_STATUS_ARMED_MAP_ID)).setFld .SKY_MAP_STATUS_ARMED 0

/-- A disarm that comes now is too late. -/
def lateFrom (s : State) : State := { s with sky := { s.sky with lateArmed := true } }

theorem lateFrom_regs (s : State) : (lateFrom s).regs = s.regs := rfl
theorem lateFrom_cnts (s : State) : (lateFrom s).cnts = s.cnts := rfl

theorem showApplied_cnts (s : State) : (showApplied s).cnts = s.cnts := by
  unfold showApplied
  rw [setFld_cnts, setFld_cnts, setFld_cnts]

theorem mapDue_iff (s : State) : mapDue s = true ↔ s.flag .SKY_MAP_STATUS_ARMED = true ∧ s.sky.applyAt ≤ curEpoch s := by
  rw [mapDue, Bool.and_eq_true, decide_eq_true_eq]

theorem mapApply_due {s : State} (hd : mapDue s = true) :
    mapApply s = (lateFrom (showApplied s)).count .SKY_MAP_APPLY_CNT := if_pos hd

theorem mapApply_early {s : State} (hd : ¬ mapDue s = true) : mapApply s = s := if_neg hd

theorem showApplied_shows {s : State} (h : s.regs.sorted = true) : activeMap (showApplied s) = s.fld .SKY_MAP_STATUS_ARMED_BANK
    ∧ (showApplied s).fld .SKY_MAP_STATUS_ACTIVE_MAP_ID = s.fld .SKY_MAP_STATUS_ARMED_MAP_ID
    ∧ (showApplied s).flag .SKY_MAP_STATUS_ARMED = false := by
  have h1 := sorted_setFld h .SKY_MAP_STATUS_ACTIVE_BANK (s.fld .SKY_MAP_STATUS_ARMED_BANK) 0 0
  have h2 := sorted_setFld h1 .SKY_MAP_STATUS_ACTIVE_MAP_ID (s.fld .SKY_MAP_STATUS_ARMED_MAP_ID) 0 0
  unfold showApplied
  refine ⟨?_, ?_, flag_setFld h2 (by decide) (by decide) 0 0 0⟩
  · unfold activeMap
    rw [fld_setFld_beside h2 (by decide), fld_setFld_beside h1 (by decide)]
    exact (fld_setFld h (by decide) (by decide) _ 0 0).trans (fld_mod s .SKY_MAP_STATUS_ARMED_BANK 0 0)
  · rw [fld_setFld_beside h2 (by decide)]
    exact (fld_setFld h1 (by decide) (by decide) _ 0 0).trans (fld_mod s .SKY_MAP_STATUS_ARMED_MAP_ID 0 0)

/-- What the application of a due bank shows and counts. -/
theorem mapApply_shows {s : State} (h : s.Sound) (hd : mapDue s = true) :
    activeMap (mapApply s) = s.fld .SKY_MAP_STATUS_ARMED_BANK
    ∧ (mapApply s).fld .SKY_MAP_STATUS_ACTIVE_MAP_ID = s.fld .SKY_MAP_STATUS_ARMED_MAP_ID
    ∧ (mapApply s).flag .SKY_MAP_STATUS_ARMED = false
    ∧ (mapApply s).cnt .SKY_MAP_APPLY_CNT = s.cnt .SKY_MAP_APPLY_CNT + 1#64 ∧ (mapApply s).sky.lateArmed = true := by
  obtain ⟨bank, mapId, armed⟩ := showApplied_shows h.regs
  have regs := lateFrom_regs (showApplied s)
  have cnts := (lateFrom_cnts (showApplied s)).trans (showApplied_cnts s)
  rw [mapApply_due hd]
  unfold activeMap at *
  rw [count_fld, count_fld, count_flag, fld_congr regs, fld_congr regs, flag_congr regs, count_sky]
  have sorted : (lateFrom (showApplied s)).cnts.sorted = true := by
    rw [cnts]
    exact h.cnts
  exact ⟨bank, mapId, armed, (cnt_count sorted _ 0 0 1).trans (congrArg (· + 1#64) (cnt_congr cnts _ 0 0)), rfl⟩

theorem Sofar.mapApply {s0 s : State} {aa : List Area} {oo cc : List Nat} (h : Sofar s0 s aa oo cc) (hk : Area.sky ∈ aa)
    (hm : Reg.off .SKY_MAP_STATUS ∈ oo) (hc : Cnt.off .SKY_MAP_APPLY_CNT ∈ cc) : Sofar s0 (mapApply s) aa oo cc := by
  by_cases hd : mapDue s = true
  · rw [mapApply_due hd]
    exact ((((h.setFld .SKY_MAP_STATUS_ACTIVE_BANK _ 0 0 hm).setFld .SKY_MAP_STATUS_ACTIVE_MAP_ID _ 0 0 hm).setFld
      .SKY_MAP_STATUS_ARMED 0 0 0 hm).setSky hk _).count .SKY_MAP_APPLY_CNT 0 0 1 hc
  · rw [mapApply_early hd]
    exact h

/-! ### Disarming (R191) -/

/-- A disarm that came too late shows, once. -/
def showLate (s : State) : State :=
  ({ s with sky := { s.sky with lateArmed := false } }).setFld .SKY_MAP_STATUS_DISARM_LATE 1

theorem mapDisarm_early {s : State} (hd : ¬ mapDue s = true) (ha : s.flag .SKY_MAP_STATUS_ARMED = true) :
    mapDisarm s = unarm s := by
  unfold mapDisarm
  rw [mapApply_early hd]
  exact if_pos ha

theorem mapDisarm_late {s : State} (h : s.Sound) (hd : mapDue s = true) : mapDisarm s = showLate (mapApply s) := by
  obtain ⟨-, -, armed, -, late⟩ := mapApply_shows h hd
  unfold mapDisarm
  dsimp only
  rw [if_neg (by rw [armed]; exact Bool.false_ne_true), if_pos late]
  rfl

end Sys2Proof.Machine
end

section
open Sys2Proof Sys2Proof.Machine

/-- Settles O36: the cases of `mapArm`, `mapArmDone`, `mapApply` and `mapDisarm`, and the fields of SKY_MAP_STATUS in each. -/
theorem mapArmingAndApplication : Obligations.MapArmingAndApplication := by
  unfold Obligations.MapArmingAndApplication
  refine ⟨?arm, ?check, ?apply, ?early, ?disarm⟩
  case arm =>
    intro s a h hl
    have hs := (Sends.refl h).send 0 0 1 0
    have e := exec_mapArm hl a
    generalize idlSend 0 0 1 0 s = u at *
    refine ⟨fun hv => ⟨_, e, ?_⟩, fun hv => ⟨_, e, ?_⟩⟩
    · rw [mapArm_starts ((hs.flag _ 0 0).trans hv)]
      refine ⟨flag_setFld (s := { u with sky := _ }) hs.sound.regs (by decide) (by decide) 1 0 0, ?_,
        hs.only (((Sofar.start hs.sound [.sky, .ctl] [Reg.off .SKY_MAP_STATUS] []).setSky (by decide) _).setFld
          .SKY_MAP_STATUS_VALIDATING 1 0 0 (by decide)).only (by decide)⟩
      obtain ⟨-, m, rfl⟩ := hs
      rfl
    · rw [mapArm_busy ((hs.flag _ 0 0).trans hv)]
      exact hs.logged (f := ⟨4, a, 2, 0, Reg.off .SKY_MAP_CTRL⟩)
        (AccFault.fits_mk (by decide) (by decide) (by decide) (by decide))
  case check =>
    intro s c b id ea h ha hb hid
    refine ⟨fun he => ⟨_, rfl, ?_⟩, fun he => ⟨_, rfl, ?_⟩⟩
    · have h1 := sorted_checkOver h.regs 0
      obtain ⟨validating, code⟩ := checkOver_shows h.regs (e := 0) (by decide)
      obtain ⟨armed, bank, mapId⟩ := showArmed_shows h1 hb hid
      rw [mapArmDone_arms ha he]
      have regs := appliesAt_regs ea (showArmed b id (checkOver 0 s))
      have fields {f : Fld} := fld_congr regs f 0 0
      have shown {f : Fld} (hf : sideBySide .SKY_MAP_STATUS_ARMED f ∧ sideBySide .SKY_MAP_STATUS_ARMED_BANK f
        ∧ sideBySide .SKY_MAP_STATUS_ARMED_MAP_ID f) := fields.trans (fld_showArmed h1 hf.1 hf.2.1 hf.2.2 b id)
      refine ⟨congrArg (· != 0) ((shown (by decide)).trans validating), congrArg (· != 0) (fields.trans armed),
        (shown (by decide)).trans code, fields.trans bank, fields.trans mapId, rfl,
        (shown (by decide)).trans (fld_checkOver h.regs (by decide) (by decide) 0), ?_⟩
      exact ((((Sofar.start h [.sky] [Reg.off .SKY_MAP_STATUS] []).checkOver (by decide) (by decide) 0).showArmed
        (by decide) b id).setSky (by decide) _).only
    · have h1 := sorted_checkOver h.regs (armErr s b id ea).1
      obtain ⟨validating, code⟩ := checkOver_shows h.regs (armErr_le s b id ea)
      have addr {f : Fld} (hf : regApart f.reg .SKY_MAP_ERR_ADDR = true) := fld_showErrAddr h1 hf (armErr s b id ea).2
      rw [mapArmDone_refuses ha he]
      refine ⟨congrArg (· != 0) ((addr (by decide)).trans validating), congrArg (· != 0) ((addr (by decide)).trans
        (fld_checkOver h.regs (by decide) (by decide) _)), (addr (by decide)).trans code, (addr (by decide)).trans
        (fld_checkOver h.regs (by decide) (by decide) _), ?_⟩
      have cnts := (showErrAddr_cnts (armErr s b id ea).2 (checkOver (armErr s b id ea).1 s)).trans (checkOver_cnts _ s)
      exact (cnt_count (by rw [cnts]; exact h.cnts) .SKY_MAP_ARM_REFUSE_CNT 0 0 1).trans
        (congrArg (· + 1#64) (cnt_congr cnts _ 0 0))
  case apply =>
    intro s h ha hd
    obtain ⟨bank, mapId, armed, count, -⟩ := mapApply_shows h ((mapDue_iff s).mpr ⟨ha, hd⟩)
    exact ⟨_, rfl, bank, mapId, armed, count, ((Sofar.start h _ _ _).mapApply (by decide) (by decide) (by decide)).only⟩
  case early =>
    intro s hn
    refine congrArg Host.Outcome.next (mapApply_early fun hd => ?_)
    obtain ⟨ha, hd⟩ := (mapDue_iff s).mp hd
    rcases hn with hn | hn
    · exact Bool.false_ne_true (hn.symm.trans ha)
    · omega
  case disarm =>
    intro s a h hl ha
    have hs := (Sends.refl h).send 0 0 1 0
    have e := exec_mapDisarm hl a
    generalize idlSend 0 0 1 0 s = u at *
    have due : mapDue u = true ↔ s.sky.applyAt ≤ curEpoch s := by
      rw [mapDue_iff, hs.flag, hs.sky, hs.curEpoch]
      exact and_iff_right ha
    refine ⟨fun hd => ⟨_, e, ?_⟩, fun hd => ⟨_, e, ?_⟩⟩
    · rw [mapDisarm_early (fun hn => absurd (due.mp hn) (by omega)) ((hs.flag _ 0 0).trans ha)]
      unfold unarm
      exact ⟨flag_setFld hs.sound.regs (by decide) (by decide) 0 0 0,
        (fld_setFld_beside hs.sound.regs (by decide) 0 0 0).trans (fld_congr hs.regs _ 0 0),
        (fld_setFld_beside hs.sound.regs (by decide) 0 0 0).trans (fld_congr hs.regs _ 0 0),
        hs.only ((Sofar.start hs.sound [.ctl] [Reg.off .SKY_MAP_STATUS] []).setFld .SKY_MAP_STATUS_ARMED 0 0 0
          (by decide)).only (by decide)⟩
    · have hu := sound_mapApply u hs.sound
      obtain ⟨bank, -⟩ := mapApply_shows hs.sound (due.mpr hd)
      rw [mapDisarm_late hs.sound (due.mpr hd)]
      unfold showLate
      exact ⟨(fld_setFld_beside (s := { mapApply u with sky := _ }) hu.regs (by decide) 1 0 0).trans
          (bank.trans (fld_congr hs.regs _ 0 0)),
        flag_setFld (s := { mapApply u with sky := _ }) hu.regs (by decide) (by decide) 1 0 0,
        hs.only ((((Sofar.start hs.sound [.sky, .ctl] [Reg.off .SKY_MAP_STATUS] [Cnt.off .SKY_MAP_APPLY_CNT]).mapApply
          (by decide) (by decide) (by decide)).setSky (by decide) _).setFld .SKY_MAP_STATUS_DISARM_LATE 1 0 0
          (by decide)).only (by decide)⟩
end

section
/-!
SUPPORT. Delivery from the sky (R228, R246, R252): the deskew store as cells leave it, a stream whose lowest gap is declared lost,
and a peer that is gone.
-/
namespace Sys2Proof.Machine

/-! ### Cells that leave the deskew store (R228, R245) -/

section
variable {s t : State} (h : SameDesk s t)
include h

theorem SameDesk.count (c : Cnt) (i j n : Nat) : SameDesk s (t.count c i j n) := (congrArg SkySt.desk (count_sky t c i j n)).trans h

theorem SameDesk.dropCell (i : Nat) (c : Cell) : SameDesk s (dropCell i c t) := h.trans (sameDesk_dropCell i c t)

theorem SameDesk.fault (code a b c : Nat) : SameDesk s (fault code a b c t) :=
  h.trans (.of_kept (kept_fault (le_same _) code a b c t (.refl _ t)) (by decide))

theorem SameDesk.feedPut (p : Nat) (l : List XCell) : SameDesk s (feedPut p l t) :=
  h.trans (.of_kept (kept_feedPut (le_same _) p l t (.refl _ t)) (by decide))

theorem SameDesk.setPair (d : Nat) (p : PairSt) : SameDesk s (setPair d p t) := h

theorem SameDesk.setReseq (src c : Nat) (r : Reseq) : SameDesk s (setReseq src c r t) := h

theorem SameDesk.spread (p d : Nat) : SameDesk s (spread p d t).2 := by
  refine h.trans ?_
  unfold Machine.spread
  dsimp only
  split <;> rfl

theorem SameDesk.resolve (src c : Nat) (r : Reseq) : SameDesk s (resolve src c r t).2 :=
  h.trans (.of_kept (of_snd (kept_resolve (le_same _) src c r t (.refl _ t))) (by decide))

theorem SameDesk.drain (src c n : Nat) (r : Reseq) : SameDesk s (drain src c n r t).2 :=
  h.trans (.of_kept (of_snd (kept_drain (le_same _) src c n r t (.refl _ t))) (by decide))

end

theorem sameDesk_relayIn (p : Nat) (k : Desk) (s : State) : SameDesk s (relayIn p k s) := by
  unfold relayIn
  extract_lets src d y over_ u c
  have pair : SameDesk s u := SameDesk.setPair rfl _ _
  clear_value u
  split
  · exact ((pair.count _ _ _ _).dropCell _ _).fault _ _ _ _
  · split
    · exact (pair.count _ _ _ _).dropCell _ _
    · have spread := pair.spread (16 + p) d
      generalize Machine.spread (16 + p) d u = e at *
      exact SameDesk.feedPut spread _ _

theorem sameDesk_onCell (tile : Nat) (x : Cell) (s : State) : SameDesk s (onCell tile x s) := by
  have same : SameDesk s s := rfl
  unfold onCell
  extract_lets src c r first r'
  clear_value r'
  split
  · exact (same.count _ _ _ _).dropCell _ _
  split
  · exact ((same.count _ _ _ _).dropCell _ _).setReseq _ _ _
  split
  · exact ((same.count _ _ _ _).dropCell _ _).fault _ _ _ _
  have room : SameDesk s (if r'.held.length = holdLimit s then resolve src c r' (s.count .SKY_PAIR_FORCE_CNT src) else (r', s)).2 := by
    split
    · exact (same.count _ _ _ _).resolve _ _ _
    · exact same
  generalize (if r'.held.length = holdLimit s then _ else _ : Reseq × State) = e at *
  obtain ⟨r1, u⟩ := e
  dsimp -zeta only
  extract_lets v r2
  have drained := SameDesk.drain (t := v) (room.count _ _ _ _) src c (r2.held.length + 1) r2
  generalize drain src c (r2.held.length + 1) r2 v = e at *
  exact drained.setReseq _ _ _

theorem sameDesk_released (k : Desk) (s : State) : SameDesk s (released k s) := by
  unfold released
  split
  · exact sameDesk_relayIn _ k s
  · exact sameDesk_onCell _ _ s

/-- What stays in the deskew store when the oldest slot has ended. -/
theorem desk_deskewRelease {s : State} {x : SlotId} (ho : oldestSlot s.sky.desk = some x) (he : slotEnded s x = true) :
    (deskewRelease s).sky.desk = s.sky.desk.filter (fun k => k.slot != x) := by
  unfold deskewRelease
  rw [ho]
  dsimp only
  rw [if_pos he]
  exact SameDesk.foldl (fun s k => sameDesk_released k s) _ _

theorem deskewRelease_waits {s : State} {x : SlotId} (ho : oldestSlot s.sky.desk = some x) (he : slotEnded s x = false) :
    deskewRelease s = s := by
  unfold deskewRelease
  rw [ho]
  exact if_neg (by rw [he]; exact Bool.false_ne_true)

/-! ### The cells that a stream holds (R246) -/

theorem held_assemble (src c : Nat) (h : Held) (r : Reseq) (s : State) : (assemble src c h r s).1.held = r.held := by
  unfold assemble releaseOpen
  dsimp only
  split_ifs <;> rfl

/-- A cell of the stream is on its way out. -/
def takeOut (h : Held) (r : Reseq) : Reseq := { r with held := r.held.filter (fun x => x.seq != h.seq) }

/-- The stream waits for the next cell. -/
def nextCell (r : Reseq) : Reseq := { r with next := (r.next + 1) % 2 ^ 24 }

theorem drain_stops {src c n : Nat} {r : Reseq} {s : State} (hf : r.held.find? (fun h => h.seq == r.next) = none) :
    drain src c (n + 1) r s = (r, s) := by
  unfold drain
  rw [hf]

theorem drain_takes {src c n : Nat} {r : Reseq} {s : State} {h : Held} (hf : r.held.find? (fun h => h.seq == r.next) = some h) :
    drain src c (n + 1) r s = drain src c n (nextCell (assemble src c h (takeOut h r) s).1) (assemble src c h (takeOut h r) s).2 := by
  rw [drain, hf]
  rfl

theorem held_advanced (src c : Nat) (h : Held) (r : Reseq) (s : State) :
    (nextCell (assemble src c h (takeOut h r) s).1).held = r.held.filter (fun x => x.seq != h.seq) :=
  held_assemble src c h (takeOut h r) s

/-- A stream that drains takes no cell. -/
theorem held_drain (src c n : Nat) (r : Reseq) (s : State) : (drain src c n r s).1.held ⊆ r.held := by
  induction n generalizing r s with
  | zero => exact List.Subset.refl _
  | succ n ih =>
    cases hf : r.held.find? (fun h => h.seq == r.next) with
    | none =>
      rw [drain_stops hf]
      exact List.Subset.refl _
    | some h =>
      rw [drain_takes hf]
      refine List.Subset.trans (ih _ _) ?_
      rw [held_advanced]
      exact List.filter_sublist.subset

/-- A stream that drains hands on the cell that it waits for. -/
theorem drain_hands_on {src c n : Nat} {r : Reseq} {s : State} {m : Held} (hm : m ∈ r.held) (hn : m.seq = r.next) :
    ∀ h ∈ (drain src c (n + 1) r s).1.held, h.seq ≠ r.next := by
  cases hf : r.held.find? (fun h => h.seq == r.next) with
  | none => exact absurd (beq_iff_eq.mpr hn) (List.find?_eq_none.mp hf m hm)
  | some k =>
    have hk : k.seq = r.next := beq_iff_eq.mp (List.find?_some (p := fun h : Held => h.seq == r.next) hf)
    rw [drain_takes hf]
    intro h hh
    have left := held_drain _ _ _ _ _ hh
    rw [held_advanced, hk] at left
    exact bne_iff_ne.mp (List.mem_filter.mp left).2

/-- The nearer of two cells ahead of what a stream waits for. -/
def nearer (r : Reseq) (a : Option Held) (h : Held) : Option Held :=
  match a with
  | none => some h
  | some b => if ahead h.seq r.next < ahead b.seq r.next then some h else a

theorem nearest_eq (r : Reseq) : nearest r = r.held.foldl (nearer r) none := rfl

theorem nearer_mem {r : Reseq} {a : Option Held} {h m : Held} (e : nearer r a h = some m) : some m = a ∨ m = h := by
  unfold nearer at e
  split at e
  · exact .inr (Option.some.inj e).symm
  · split at e
    · exact .inr (Option.some.inj e).symm
    · exact .inl e.symm

theorem mem_of_foldl_nearer {r : Reseq} {l : List Held} {a : Option Held} {m : Held} (e : l.foldl (nearer r) a = some m) :
    some m = a ∨ m ∈ l := by
  induction l generalizing a with
  | nil => exact .inl e.symm
  | cons h l ih =>
    rcases ih e with hm | hm
    · rcases nearer_mem hm.symm with ha | rfl
      · exact .inl ha
      · exact .inr List.mem_cons_self
    · exact .inr (List.mem_cons_of_mem _ hm)

theorem mem_nearest {r : Reseq} {m : Held} (h : nearest r = some m) : m ∈ r.held :=
  (mem_of_foldl_nearer ((nearest_eq r).symm.trans h)).resolve_left (fun e => nomatch e)

/-! ### A gap that is declared lost (R246) -/

/-- n cells of a stream are lost, and its open frame with them. -/
def loseGap (src c n : Nat) (r : Reseq) (s : State) : State :=
  (releaseOpen r (streamDrop .SKY_PAIR_FRAME_DISCARD_CNT src c (s.count .SKY_PAIR_LOST_CNT src 0 n))).2

theorem streamDrop_cnt (q : Cnt) (src c : Nat) (s : State) (k : Cnt) (i j : Nat) :
    (streamDrop q src c s).cnt k i j = (s.count q src).cnt k i j := by
  unfold streamDrop
  rw [led_cnt, led_cnt]

section
variable {src c : Nat} {r : Reseq} {s : State}

theorem sound_loseGap (h : s.Sound) (n : Nat) : (loseGap src c n r s).Sound :=
  of_snd (sound_releaseOpen _ _ (sound_streamDrop _ _ _ _ (sound_State_count _ _ _ _ _ h)))

theorem loseGap_counts (h : s.Sound) (n : Nat) :
    (loseGap src c n r s).cnt .SKY_PAIR_LOST_CNT src = s.cnt .SKY_PAIR_LOST_CNT src + BitVec.ofNat 64 n
    ∧ (loseGap src c n r s).cnt .SKY_PAIR_FRAME_DISCARD_CNT src = s.cnt .SKY_PAIR_FRAME_DISCARD_CNT src + 1#64 := by
  have h1 := sound_State_count s .SKY_PAIR_LOST_CNT src 0 n h
  have h2 := sound_streamDrop .SKY_PAIR_FRAME_DISCARD_CNT src c _ h1
  have lost := cnt_count h.cnts .SKY_PAIR_LOST_CNT src 0 n
  have other := cnt_count_apart (c := .SKY_PAIR_LOST_CNT) (q := .SKY_PAIR_FRAME_DISCARD_CNT) h.cnts (by decide) src 0 n src 0
  have released := of_snd (kept_releaseOpen (le_same _) r _ (.refl _ (streamDrop .SKY_PAIR_FRAME_DISCARD_CNT src c
    (s.count .SKY_PAIR_LOST_CNT src 0 n))))
  have after {k : Cnt} hk := (released.cnt h2 (sound_loseGap h n) (c := k) hk src 0).trans (streamDrop_cnt _ _ _ _ _ _ _)
  unfold loseGap
  generalize s.count .SKY_PAIR_LOST_CNT src 0 n = u at *
  refine ⟨?_, ?_⟩
  · exact (after (by decide +kernel)).trans ((cnt_count_apart h1.cnts (by decide) _ _ _ _ _).trans lost)
  · exact (after (by decide +kernel)).trans ((cnt_count h1.cnts _ _ _ _).trans (congrArg (· + 1#64) other))

variable {m : Held} (hm : nearest r = some m)
include hm

theorem resolve_eq : resolve src c r s =
    drain src c (r.held.length + 1) { r with opened := [], skip := true, next := m.seq }
      (loseGap src c (ahead m.seq r.next) r s) := by
  unfold resolve
  rw [hm]
  rfl

/-- The stream goes on from the cell after the gap. -/
theorem resolve_hands_on : ∀ h ∈ (resolve src c r s).1.held, h.seq ≠ m.seq := by
  have held := mem_nearest hm
  rw [resolve_eq hm]
  exact drain_hands_on (r := { r with opened := [], skip := true, next := m.seq }) held rfl

theorem resolve_counts (h : s.Sound) :
    (resolve src c r s).2.cnt .SKY_PAIR_LOST_CNT src
      = s.cnt .SKY_PAIR_LOST_CNT src + BitVec.ofNat 64 (ahead m.seq r.next)
    ∧ (resolve src c r s).2.cnt .SKY_PAIR_FRAME_DISCARD_CNT src = s.cnt .SKY_PAIR_FRAME_DISCARD_CNT src + 1#64 := by
  obtain ⟨lost, discarded⟩ := loseGap_counts (src := src) (c := c) (r := r) h (ahead m.seq r.next)
  have hu := sound_loseGap (src := src) (c := c) (r := r) h (ahead m.seq r.next)
  rw [resolve_eq hm]
  generalize loseGap src c (ahead m.seq r.next) r s = u at *
  have drained := fun n q => of_snd (kept_drain (le_same _) src c n q u (.refl _ u))
  have sound := fun n q => of_snd (sound_drain src c n q u hu)
  exact ⟨((drained _ _).cnt hu (sound _ _) (by decide +kernel) src 0).trans lost,
    ((drained _ _).cnt hu (sound _ _) (by decide +kernel) src 0).trans discarded⟩

end

theorem horizonExpiry_due {src c : Nat} {s : State} {h : Held} (hh : h ∈ (reseqOf s src c).held)
    (hd : h.at_ + horizonClk s ≤ s.now) : horizonExpiry src c s =
      setReseq src c (resolve src c (reseqOf s src c) s).1 (resolve src c (reseqOf s src c) s).2 :=
  if_pos (List.any_eq_true.mpr ⟨h, hh, decide_eq_true hd⟩)

theorem horizonExpiry_early {src c : Nat} {s : State} (hn : ∀ h ∈ (reseqOf s src c).held, s.now < h.at_ + horizonClk s) :
    horizonExpiry src c s = s := by
  refine if_neg fun hd => ?_
  obtain ⟨h, hh, hd⟩ := List.any_eq_true.mp hd
  have := hn h hh
  have := of_decide_eq_true hd
  omega

theorem reseqOf_setReseq {s : State} (h : s.Sound) (src c : Nat) (r : Reseq) : reseqOf (setReseq src c r s) src c = r :=
  SMap.getD_put_self h.sky.reseq _ _ _

/-! ### A peer that is gone (R196, R252) -/

/-- A pair that is reset holds no credit (R244). -/
theorem resetPair_credit {s : State} (h : s.Sound) (y : Nat) : (resetPair y s).reg .SKY_CREDIT_HELD y = 0#32 := by
  unfold resetPair
  extract_lets u1 u2 u3 u4 u5 u6 u7 p
  have h5 : u5.Sound := sound_cutQueues _ _ _ _ (sound_cutQueues _ _ _ _ (sound_State_count _ _ _ _ _
    (sound_returnAll _ _ (sound_returnAll _ _ h))))
  clear_value u5
  have h6 : u6.Sound := sound_State_setReg _ _ _ _ _ (sound_undue _ _ h5)
  have zero : u6.reg .SKY_CREDIT_HELD y = 0#32 := reg_setReg (sound_undue y u5 h5).regs _ _ _ _
  clear_value u6
  have h7 : u7.Sound := sound_State_setReg _ _ _ _ _ h6
  have zero : u7.reg .SKY_CREDIT_HELD y = 0#32 :=
    (reg_setReg_apart h6.regs (r := .SKY_RELAY_OUT) (by decide) _ _ _ _ _).trans zero
  clear_value u7
  generalize ({ p with gr := 0, rg := 0, sent := 0, recv := 0, hist := [] } : PairSt) = q
  have h8 := sound_setPair y q u7 h7
  exact ((kept_resetStreams (le_same _) y _ (.refl _ _)).reg h8 (sound_resetStreams y _ h8) (by decide +kernel) y 0).trans
    ((reg_congr rfl _ _ _).trans zero)

/-- A peer that is gone is absent. -/
theorem peerGone_absent {s : State} (h : s.Sound) (d : Nat) : present (peerGone d s) d = false := by
  unfold peerGone
  extract_lets u v w
  have hu : u.Sound := sound_State_setFld _ _ _ _ _ h
  have absent : u.flag .SKY_PEER_PRESENT d = false := flag_setFld h.regs (by decide) (by decide) 0 d 0
  clear_value u
  have hv : v.Sound := sound_returnAll _ _ hu
  have hw : w.Sound := sound_cutQueues _ _ _ _ hv
  have same := ((kept_resetPair (le_same _) d w (.refl _ w)).flag hw (sound_resetPair d w hw) (by decide +kernel) d 0
    (f := .SKY_PEER_PRESENT)).trans
    (((kept_cutQueues (T := ⟨3414020, 0x4000000002000000180000000000000, 0x24000000000000000000⟩) (by decide) _ _ _ v
      (.inl (by decide)) (.refl _ v)).flag hv hw (by decide +kernel) d 0).trans
    ((kept_returnAll (le_same _) _ u (.refl _ u)).flag hu hv (by decide +kernel) d 0))
  rw [present, same.trans absent, Bool.and_false]

/-- No credit is held from a peer that is gone. -/
theorem peerGone_credit {s : State} (h : s.Sound) (d : Nat) : (peerGone d s).reg .SKY_CREDIT_HELD d = 0#32 :=
  resetPair_credit (sound_cutQueues _ _ _ _ (sound_returnAll _ _ (sound_State_setFld _ _ _ _ _ h))) d

theorem peerTimeout_due {s : State} {d : Nat} (hp : present s d = true)
    (hd : (pairOf s d).hello + max 1 (s.fld .SKY_PEER_CFG_TIMEOUT) < s.sky.epoch) : peerTimeout d s = peerGone d s :=
  if_pos (by rw [hp, decide_eq_true hd]; rfl)

theorem peerTimeout_early {s : State} {d : Nat}
    (hd : s.sky.epoch ≤ (pairOf s d).hello + max 1 (s.fld .SKY_PEER_CFG_TIMEOUT)) : peerTimeout d s = s :=
  if_neg (by rw [decide_eq_false (Nat.not_lt.mpr hd), Bool.and_false]; exact Bool.false_ne_true)

end Sys2Proof.Machine
end

section
open Sys2Proof Sys2Proof.Machine

/-- Settles O40: the deskew store after a release (`desk_deskewRelease`), the gap that a stream gives up (`resolve_hands_on`,
`resolve_counts`), and the peer that is gone once more than TIMEOUT epochs have passed (log 36). -/
theorem skyDelivery : Obligations.SkyDelivery := by
  unfold Obligations.SkyDelivery
  refine ⟨?released, ?waits, ?lost, ?held, ?peer⟩
  case released =>
    intro s x h hf ho he
    refine ⟨_, congrArg Host.Outcome.next (running_runs hf deskewRelease), desk_deskewRelease ho he⟩
  case waits =>
    intro s x ho he
    exact congrArg Host.Outcome.next (running_of_unchanged (deskewRelease_waits ho he))
  case lost =>
    intro s src c m h hf ⟨k, hk, hd⟩ hm
    refine ⟨_, congrArg Host.Outcome.next ((running_runs hf (horizonExpiry src.val c.val)).trans (horizonExpiry_due hk hd)), ?_⟩
    obtain ⟨lost, discarded⟩ := resolve_counts (src := src.val) (c := c.val) hm h
    have hands := resolve_hands_on (src := src.val) (c := c.val) (s := s) hm
    have sound := of_snd (sound_resolve src.val c.val (reseqOf s src.val c.val) s h)
    rw [reseqOf_setReseq sound]
    exact ⟨hands, lost, discarded⟩
  case held =>
    intro s src c hn
    exact congrArg Host.Outcome.next (running_of_unchanged (horizonExpiry_early hn))
  case peer =>
    intro s d h hp
    exact ⟨fun hd => ⟨_, congrArg Host.Outcome.next (peerTimeout_due hp hd), peerGone_absent h d.val, peerGone_credit h d.val⟩,
      fun hd => congrArg Host.Outcome.next (peerTimeout_early hd)⟩
end

section
/-!
SUPPORT. The start of an epoch (R193, R199, R267, R269): what each part of it leaves of the epoch's marks, of SKY_STATE and of the
counters, and the state of the sky side that it leads to.
-/
namespace Sys2Proof.Machine

/-! ### What stays -/

/-- From s to t the running epoch, the maps before it and SKY_MAP_STATUS stay. -/
structure SameEpoch (s t : State) : Prop where
  epoch : t.sky.epoch = s.sky.epoch
  old : t.sky.mapOld = s.sky.mapOld
  status : t.reg .SKY_MAP_STATUS = s.reg .SKY_MAP_STATUS

/-- From s to t the marks of the epoch stay: M(E), a founding that is still due, and the leases taken too. -/
structure SameMarks (s t : State) : Prop extends SameEpoch s t where
  now : t.sky.mapNow = s.sky.mapNow
  founding : t.sky.founding = s.sky.founding
  takeovers : t.cnt .SKYT_TAKEOVER_CNT = s.cnt .SKYT_TAKEOVER_CNT

/-- From s to t the dark causes stay. -/
structure SameDark (s t : State) : Prop where
  map : t.flag .SKY_STATE_MAP = s.flag .SKY_STATE_MAP
  lull : t.flag .SKY_STATE_LULL = s.flag .SKY_STATE_LULL
  dusk : t.flag .SKY_STATE_DUSK = s.flag .SKY_STATE_DUSK
  txOff : t.flag .SKY_STATE_TX_OFF = s.flag .SKY_STATE_TX_OFF

/-- From s to t the sky side goes to state v, and the marks, the dark causes and the dark epochs stay. -/
structure Goes (s t : State) (v : Nat) : Prop extends SameMarks s t, SameDark s t where
  state : skyState t = v
  darks : t.cnt .SKY_DARK_EPOCH_CNT = s.cnt .SKY_DARK_EPOCH_CNT

theorem SameEpoch.trans {s t u : State} (h : SameEpoch s t) (k : SameEpoch t u) : SameEpoch s u :=
  ⟨k.epoch.trans h.epoch, k.old.trans h.old, k.status.trans h.status⟩

theorem SameMarks.trans {s t u : State} (h : SameMarks s t) (k : SameMarks t u) : SameMarks s u :=
  ⟨h.toSameEpoch.trans k.toSameEpoch, k.now.trans h.now, k.founding.trans h.founding, k.takeovers.trans h.takeovers⟩

theorem SameDark.trans {s t u : State} (h : SameDark s t) (k : SameDark t u) : SameDark s u :=
  ⟨k.map.trans h.map, k.lull.trans h.lull, k.dusk.trans h.dusk, k.txOff.trans h.txOff⟩

theorem SameDark.darkAny {s t : State} (h : SameDark s t) : darkAny t = darkAny s := by
  unfold Machine.darkAny
  rw [h.map, h.lull, h.dusk, h.txOff]

theorem SameDark.mustRejoin {s t : State} (h : SameDark s t) : mustRejoin t = mustRejoin s := by
  unfold Machine.mustRejoin
  rw [h.lull, h.dusk]

theorem spared_of_light {s : State} (hd : darkAny s = false) : mustRejoin s = false ∧ s.flag .SKY_STATE_TX_OFF = false := by
  simp only [Machine.darkAny, Bool.or_eq_false_iff] at hd
  obtain ⟨⟨⟨-, lull⟩, dusk⟩, txOff⟩ := hd
  exact ⟨Bool.or_eq_false_iff.2 ⟨lull, dusk⟩, txOff⟩

theorem SameDark.of_reg {s t : State} (h : t.reg .SKY_STATE = s.reg .SKY_STATE) : SameDark s t :=
  ⟨congrArg (fun w => Fld.get .SKY_STATE_MAP w != 0) h, congrArg (fun w => Fld.get .SKY_STATE_LULL w != 0) h,
    congrArg (fun w => Fld.get .SKY_STATE_DUSK w != 0) h, congrArg (fun w => Fld.get .SKY_STATE_TX_OFF w != 0) h⟩

theorem skyState_of_reg {s t : State} (h : t.reg .SKY_STATE = s.reg .SKY_STATE) : skyState t = skyState s :=
  congrArg (Fld.get .SKY_STATE_STATE) h

theorem Goes.refl (s : State) : Goes s s (skyState s) := ⟨⟨⟨rfl, rfl, rfl⟩, rfl, rfl, rfl⟩, .of_reg rfl, rfl, rfl⟩

theorem Goes.trans {s t u : State} {v w : Nat} (h : Goes s t v) (k : Goes t u w) : Goes s u w :=
  ⟨h.toSameMarks.trans k.toSameMarks, h.toSameDark.trans k.toSameDark, k.state, k.darks.trans h.darks⟩

/-- What T names leaves SKY_STATE, SKY_MAP_STATUS and the counts of dark epochs and of leases taken alone. -/
def sparesShown (T : Touch) : Bool :=
  freeR T .SKY_STATE && freeR T .SKY_MAP_STATUS && freeC T .SKYT_TAKEOVER_CNT && freeC T .SKY_DARK_EPOCH_CNT

theorem Goes.of_marks {T : Touch} {s t : State} (h : s.Sound) (ht : t.Sound) (k : Kept T s t) (hf : sparesShown T = true)
    (sky : t.sky.epoch = s.sky.epoch ∧ t.sky.mapOld = s.sky.mapOld ∧ t.sky.mapNow = s.sky.mapNow
      ∧ t.sky.founding = s.sky.founding) : Goes s t (skyState s) := by
  simp only [sparesShown, Bool.and_eq_true] at hf
  obtain ⟨⟨⟨state, status⟩, takeovers⟩, darks⟩ := hf
  obtain ⟨epoch, old, now, founding⟩ := sky
  have state := k.reg h ht state 0 0
  exact ⟨⟨⟨epoch, old, k.reg h ht status 0 0⟩, now, founding, k.cnt h ht takeovers 0 0⟩, .of_reg state, skyState_of_reg state,
    k.cnt h ht darks 0 0⟩

theorem Goes.of_kept {T : Touch} {s t : State} (h : s.Sound) (ht : t.Sound) (k : Kept T s t) (hk : T.a.testBit 22 = false)
    (hf : sparesShown T = true) : Goes s t (skyState s) :=
  have sky := k.sky hk
  .of_marks h ht k hf ⟨congrArg SkySt.epoch sky, congrArg SkySt.mapOld sky, congrArg SkySt.mapNow sky, congrArg SkySt.founding sky⟩

/-! ### Changes of the state -/

theorem skyState_setFld {s : State} (h : s.regs.sorted = true) {v : Nat} (hv : v < 8) :
    skyState (s.setFld .SKY_STATE_STATE v) = v :=
  (fld_setFld h (by decide) (by decide) v 0 0).trans (Nat.mod_eq_of_lt hv)

theorem goes_setFld {s : State} (h : s.Sound) {v : Nat} (hv : v < 8) : Goes s (s.setFld .SKY_STATE_STATE v) v where
  epoch := congrArg SkySt.epoch (setFld_sky _ _ _ _ _)
  old := congrArg SkySt.mapOld (setFld_sky _ _ _ _ _)
  now := congrArg SkySt.mapNow (setFld_sky _ _ _ _ _)
  founding := congrArg SkySt.founding (setFld_sky _ _ _ _ _)
  status := reg_setFld_apart h.regs (by decide) v 0 0 0 0
  takeovers := setFld_cnt _ _ _ _ _ _ _ _
  darks := setFld_cnt _ _ _ _ _ _ _ _
  map := flag_setFld_beside h.regs (by decide) v 0 0
  lull := flag_setFld_beside h.regs (by decide) v 0 0
  dusk := flag_setFld_beside h.regs (by decide) v 0 0
  txOff := flag_setFld_beside h.regs (by decide) v 0 0
  state := skyState_setFld h.regs hv

theorem goes_count {s : State} (h : s.Sound) {c : Cnt} (ht : cntApart .SKYT_TAKEOVER_CNT c = true)
    (hd : cntApart .SKY_DARK_EPOCH_CNT c = true) : Goes s (s.count c) (skyState s) where
  epoch := congrArg SkySt.epoch (count_sky _ _ _ _ _)
  old := congrArg SkySt.mapOld (count_sky _ _ _ _ _)
  now := congrArg SkySt.mapNow (count_sky _ _ _ _ _)
  founding := congrArg SkySt.founding (count_sky _ _ _ _ _)
  status := count_reg _ _ _ _ _ _ _ _
  takeovers := cnt_count_apart h.cnts ht _ _ _ _ _
  darks := cnt_count_apart h.cnts hd _ _ _ _ _
  map := count_flag _ _ _ _ _ _ _ _
  lull := count_flag _ _ _ _ _ _ _ _
  dusk := count_flag _ _ _ _ _ _ _ _
  txOff := count_flag _ _ _ _ _ _ _ _
  state := count_fld _ _ _ _ _ _ _ _

theorem goes_enterDark {s : State} (h : s.Sound) : Goes s (enterDark s) 4 := by
  have h1 := sound_State_setFld s .SKY_STATE_STATE 4 0 0 h
  have dark := goes_setFld h (v := 4) (by decide)
  have released := Goes.of_kept h1 (sound_releaseLease _ h1) (kept_releaseLease (le_same _) _ (.refl _ _)) (by decide)
    (by decide +kernel)
  rw [dark.state] at released
  exact dark.trans released

/-- The SEQ values of the pairs start again. -/
def clearSeq (s : State) : State := clearRegs (Reg.SKY_SEQ_NEXT.off) 0x1000 s

/-- The slip balance and the lanes' differences start again. -/
def clearSlip (s : State) : State := { s with sky := { s.sky with
  slip := 0, lanes := s.sky.lanes.map (fun (l : Nat × SkyLane) => (l.1, { l.2 with d := 0 })) } }

theorem enterJoining_eq (e : Nat) (s : State) : enterJoining e s =
    clearSlip (clearSeq ((s.setFld .SKY_STATE_STATE 2).setReg64 .SKY_JOIN_EPOCH_LO .SKY_JOIN_EPOCH_HI (e % 2 ^ 48))) := rfl

theorem reg_clearSeq {s : State} (h : s.regs.sorted = true) {r : Reg} (hr : r.off 0 < Reg.SKY_SEQ_NEXT.off) :
    (clearSeq s).reg r = s.reg r := reg_clearRegs_out h (.inl hr)

theorem clearSlip_reg (s : State) (r : Reg) : (clearSlip s).reg r = s.reg r := reg_congr rfl r 0 0
theorem clearSlip_cnt (s : State) (c : Cnt) : (clearSlip s).cnt c = s.cnt c := cnt_congr rfl c 0 0
theorem clearSlip_marks (s : State) : (clearSlip s).sky.epoch = s.sky.epoch ∧ (clearSlip s).sky.mapOld = s.sky.mapOld
    ∧ (clearSlip s).sky.mapNow = s.sky.mapNow ∧ (clearSlip s).sky.founding = s.sky.founding := ⟨rfl, rfl, rfl, rfl⟩
theorem clearSeq_sky (s : State) : (clearSeq s).sky = s.sky := rfl
theorem clearSeq_cnts (s : State) : (clearSeq s).cnts = s.cnts := rfl

/-- Joining starts the SEQ values and the slip balance again, and writes SKY_JOIN_EPOCH. -/
theorem goes_enterJoining {s : State} (h : s.Sound) (e : Nat) : Goes s (enterJoining e s) 2 := by
  have joining := goes_setFld h (v := 2) (by decide)
  have h1 := sound_State_setFld s .SKY_STATE_STATE 2 0 0 h
  rw [enterJoining_eq]
  generalize s.setFld .SKY_STATE_STATE 2 = t at *
  refine joining.trans ?_
  have join {r : Reg} (hl : regApart r .SKY_JOIN_EPOCH_LO = true) (hh : regApart r .SKY_JOIN_EPOCH_HI = true) :=
    (Beside.refl (r := r) h1.regs).setReg64 hl hh (e % 2 ^ 48) 0
  have sky := setReg64_sky t .SKY_JOIN_EPOCH_LO .SKY_JOIN_EPOCH_HI (e % 2 ^ 48) 0
  have cnts := setReg64_cnts t .SKY_JOIN_EPOCH_LO .SKY_JOIN_EPOCH_HI (e % 2 ^ 48) 0
  have state := join (r := .SKY_STATE) (by decide) (by decide)
  have status := join (r := .SKY_MAP_STATUS) (by decide) (by decide)
  generalize t.setReg64 .SKY_JOIN_EPOCH_LO .SKY_JOIN_EPOCH_HI (e % 2 ^ 48) = u at *
  have state := (clearSlip_reg (clearSeq u) .SKY_STATE).trans ((reg_clearSeq state.sorted (by decide)).trans (state.reg 0))
  have status := (clearSlip_reg (clearSeq u) .SKY_MAP_STATUS).trans ((reg_clearSeq status.sorted (by decide)).trans (status.reg 0))
  have count (c : Cnt) := (clearSlip_cnt (clearSeq u) c).trans (cnt_congr ((clearSeq_cnts u).trans cnts) c 0 0)
  have sky := (clearSeq_sky u).trans sky
  obtain ⟨epoch, old, now, founding⟩ := clearSlip_marks (clearSeq u)
  generalize clearSeq u = v at *
  exact ⟨⟨⟨epoch.trans (congrArg SkySt.epoch sky), old.trans (congrArg SkySt.mapOld sky), status⟩,
    now.trans (congrArg SkySt.mapNow sky), founding.trans (congrArg SkySt.founding sky), count _⟩,
    .of_reg state, (skyState_of_reg state).trans joining.state, count _⟩

/-! ### The transitions of R199 -/

/-- The state that a boundary in state st leads to. -/
def nextState (st : Nat) (s : State) : Nat :=
  if st = 2 then
    if mustRejoin s || s.flag .SKY_STATE_TX_OFF then 4
    else if !darkAny s && withinBudget s then 3
    else skyState s
  else if st = 3 then (if darkAny s then 4 else skyState s)
  else if st = 4 then
    if mustRejoin s || darkAny s then skyState s
    else if withinBudget s then 3
    else 2
  else skyState s

theorem goes_transit {s : State} (h : s.Sound) (st e : Nat) : Goes s (transit st e s) (nextState st s) := by
  have joined := goes_setFld h (v := 3) (by decide)
  unfold transit nextState
  split_ifs
  · exact goes_enterDark h
  · have counted := goes_count (c := .SKY_JOIN_CNT) (sound_State_setFld s .SKY_STATE_STATE 3 0 0 h) (by decide) (by decide)
    rw [joined.state] at counted
    exact joined.trans counted
  · exact .refl s
  · exact goes_enterDark h
  · exact .refl s
  · exact .refl s
  · exact joined
  · exact goes_enterJoining h e
  · exact .refl s

/-! ### The epoch opens -/

/-- The running epoch is e; the maps and the demand of the one before it are kept. -/
def markEpoch (e : Nat) (apart : Bool) (s : State) : State :=
  { s with
    sky := { s.sky with
      epoch := e, mapOld := mapsBefore s e, offeredLast := s.sky.offered, usedLast := s.sky.used, offered := [],
      used := [], halfMods := (presentPeers s).filter (fun d => s.flag .SKY_PEER_RATE d) }
    time := { s.time with oscApart := apart } }

/-- The settings apply, the epoch is marked, and a map that is due applies. -/
def openEpoch (e : Nat) (apart : Bool) (s : State) : State := mapApply (markEpoch e apart (applySettings s))

/-- The offsets measured in the epoch before are used up. -/
def freshOver (s : State) : State := { s with time := { s.time with fresh := [] } }

theorem sound_markEpoch {s : State} (h : s.Sound) (e : Nat) (apart : Bool) : (markEpoch e apart s).Sound :=
  { h with
    time := { h.time with }
    sky := { h.sky with offered := SMap.sorted_nil, used := SMap.sorted_nil, offeredLast := h.sky.offered, usedLast := h.sky.used } }

theorem sound_freshOver {s : State} (h : s.Sound) : (freshOver s).Sound := { h with time := { h.time with } }

theorem lateFrom_marks (s : State) : (lateFrom s).sky.epoch = s.sky.epoch ∧ (lateFrom s).sky.mapOld = s.sky.mapOld
    ∧ (lateFrom s).sky.founding = s.sky.founding := ⟨rfl, rfl, rfl⟩

theorem mapApply_marks (s : State) : (mapApply s).sky.epoch = s.sky.epoch ∧ (mapApply s).sky.mapOld = s.sky.mapOld
    ∧ (mapApply s).sky.founding = s.sky.founding := by
  by_cases hd : mapDue s = true
  · rw [mapApply_due hd, count_sky]
    have sky : (showApplied s).sky = s.sky := by
      unfold showApplied
      rw [setFld_sky, setFld_sky, setFld_sky]
    obtain ⟨epoch, old, founding⟩ := lateFrom_marks (showApplied s)
    generalize showApplied s = u at *
    exact ⟨epoch.trans (congrArg SkySt.epoch sky), old.trans (congrArg SkySt.mapOld sky), founding.trans (congrArg SkySt.founding sky)⟩
  · rw [mapApply_early hd]
    exact ⟨rfl, rfl, rfl⟩

/-- What an epoch that opens leaves. -/
structure Opens (e : Nat) (s t : State) : Prop where
  sound : t.Sound
  epoch : t.sky.epoch = e
  old : t.sky.mapOld = mapsBefore s e
  founding : t.sky.founding = s.sky.founding
  state : skyState t = skyState s
  stepped : t.flag .SKYT_STATUS_STEPPED = s.flag .SKYT_STATUS_STEPPED
  txEn : t.flag .SKY_TX_EN_EN = s.flag .SKY_TX_EN_EN
  takeovers : t.cnt .SKYT_TAKEOVER_CNT = s.cnt .SKYT_TAKEOVER_CNT
  darks : t.cnt .SKY_DARK_EPOCH_CNT = s.cnt .SKY_DARK_EPOCH_CNT

theorem applySettings_regs (s : State) : (applySettings s).regs = s.regs := rfl
theorem applySettings_cnts (s : State) : (applySettings s).cnts = s.cnts := rfl
theorem applySettings_founding (s : State) : (applySettings s).sky.founding = s.sky.founding := rfl
theorem mapsBefore_applySettings (s : State) (e : Nat) : mapsBefore (applySettings s) e = mapsBefore s e := rfl
theorem markEpoch_regs (e : Nat) (b : Bool) (s : State) : (markEpoch e b s).regs = s.regs := rfl
theorem markEpoch_cnts (e : Nat) (b : Bool) (s : State) : (markEpoch e b s).cnts = s.cnts := rfl

theorem opens_openEpoch {s : State} (h : s.Sound) (e : Nat) (apart : Bool) : Opens e s (openEpoch e apart s) := by
  have hm := sound_markEpoch (sound_applySettings s h) e apart
  have regs := (markEpoch_regs e apart (applySettings s)).trans (applySettings_regs s)
  have cnts := (markEpoch_cnts e apart (applySettings s)).trans (applySettings_cnts s)
  have old : (markEpoch e apart (applySettings s)).sky.mapOld = mapsBefore s e := mapsBefore_applySettings s e
  have founding : (markEpoch e apart (applySettings s)).sky.founding = s.sky.founding := applySettings_founding s
  have epoch : (markEpoch e apart (applySettings s)).sky.epoch = e := rfl
  unfold openEpoch
  generalize markEpoch e apart (applySettings s) = u at *
  have ht := sound_mapApply u hm
  have k := kept_mapApply (le_same _) u (.refl _ u)
  obtain ⟨epoch', old', founding'⟩ := mapApply_marks u
  exact ⟨ht, epoch'.trans epoch, old'.trans old, founding'.trans founding,
    (k.fld hm ht (f := .SKY_STATE_STATE) (by decide +kernel) 0 0).trans (fld_congr regs _ 0 0),
    (k.flag hm ht (f := .SKYT_STATUS_STEPPED) (by decide +kernel) 0 0).trans (flag_congr regs _ 0 0),
    (k.flag hm ht (f := .SKY_TX_EN_EN) (by decide +kernel) 0 0).trans (flag_congr regs _ 0 0),
    (k.cnt hm ht (by decide +kernel) 0 0).trans (cnt_congr cnts _ 0 0),
    (k.cnt hm ht (by decide +kernel) 0 0).trans (cnt_congr cnts _ 0 0)⟩

/-! ### A founder takes the lease, and LISTEN is left (R199, R267, R269) -/

/-- A founder takes the lease. -/
def leaseFounded (e : Nat) (s : State) : State := if s.sky.founding then takeLease e (noFounding s) else s

/-- LISTEN is left at epoch e. -/
def leftAt (e : Nat) (s : State) : State := { s with sky := { s.sky with since := e } }

theorem joinFirst_waits {s : State} (hn : ¬ (skyState s = 1 ∧ s.flag .SKYT_STATUS_STEPPED = true)) (e : Nat) : joinFirst e s = s :=
  if_neg (by rwa [Bool.and_eq_true, beq_iff_eq])

theorem joinFirst_steps {s : State} (h1 : skyState s = 1) (hs : s.flag .SKYT_STATUS_STEPPED = true) (e : Nat) :
    joinFirst e s = if (leaseFounded e s).flag .SKY_TX_EN_EN then enterJoining e (leftAt e (leaseFounded e s)) else leaseFounded e s :=
  if_pos (by rw [h1, hs]; rfl)

theorem showLease_cnt (s : State) (c : Cnt) : (showLease s).cnt c = s.cnt c := by
  unfold showLease
  rw [setReg64_cnt, setFld_cnt]

theorem takeLease_takeovers {s : State} (h : s.Sound) (e : Nat) :
    (takeLease e s).cnt .SKYT_TAKEOVER_CNT = s.cnt .SKYT_TAKEOVER_CNT + 1#64 := by
  unfold takeLease
  rw [showLease_cnt, led_cnt]
  exact cnt_count h.cnts .SKYT_TAKEOVER_CNT 0 0 1

theorem sound_noFounding {s : State} (h : s.Sound) : (noFounding s).Sound := { h with sky := { h.sky with } }
theorem sound_leftAt {s : State} (h : s.Sound) (e : Nat) : (leftAt e s).Sound := { h with sky := { h.sky with } }

theorem goes_leftAt (e : Nat) (s : State) : Goes s (leftAt e s) (skyState s) :=
  ⟨⟨⟨rfl, rfl, reg_congr rfl _ 0 0⟩, rfl, rfl, cnt_congr rfl _ 0 0⟩, .of_reg (reg_congr rfl _ 0 0),
    skyState_of_reg (reg_congr rfl _ 0 0), cnt_congr rfl _ 0 0⟩

/-- What the first boundary after the step leaves: the epoch's marks, the dark epochs, and the state that it leads to. -/
structure Joins (s t : State) : Prop extends SameEpoch s t where
  sound : t.Sound
  darks : t.cnt .SKY_DARK_EPOCH_CNT = s.cnt .SKY_DARK_EPOCH_CNT
  state : skyState t =
    if skyState s = 1 ∧ s.flag .SKYT_STATUS_STEPPED = true ∧ s.flag .SKY_TX_EN_EN = true then 2 else skyState s
  takes : skyState s = 1 → s.flag .SKYT_STATUS_STEPPED = true → s.sky.founding = true →
    t.sky.founding = false ∧ t.cnt .SKYT_TAKEOVER_CNT = s.cnt .SKYT_TAKEOVER_CNT + 1#64

/-- What a founder that takes the lease leaves. -/
structure Founds (s t : State) : Prop extends SameEpoch s t where
  sound : t.Sound
  darks : t.cnt .SKY_DARK_EPOCH_CNT = s.cnt .SKY_DARK_EPOCH_CNT
  state : skyState t = skyState s
  txEn : t.flag .SKY_TX_EN_EN = s.flag .SKY_TX_EN_EN
  takes : s.sky.founding = true →
    t.sky.founding = false ∧ t.cnt .SKYT_TAKEOVER_CNT = s.cnt .SKYT_TAKEOVER_CNT + 1#64

theorem founds_leaseFounded {s : State} (h : s.Sound) (e : Nat) : Founds s (leaseFounded e s) := by
  unfold leaseFounded
  split
  · have hu := sound_noFounding h
    have ht := sound_takeLease e _ hu
    have k := kept_takeLease (le_same _) e _ (.refl _ (noFounding s))
    have sky := k.sky (by decide)
    have regs := noFounding_regs s
    have cnts : (noFounding s).cnts = s.cnts := rfl
    have takeovers := (takeLease_takeovers hu e).trans (congrArg (· + 1#64) (cnt_congr cnts _ 0 0))
    have epoch : (noFounding s).sky.epoch = s.sky.epoch := rfl
    have old : (noFounding s).sky.mapOld = s.sky.mapOld := rfl
    have founding : (noFounding s).sky.founding = false := rfl
    generalize noFounding s = u at *
    exact ⟨⟨(congrArg SkySt.epoch sky).trans epoch, (congrArg SkySt.mapOld sky).trans old,
      (k.reg hu ht (by decide +kernel) 0 0).trans (reg_congr regs _ 0 0)⟩, ht,
      (k.cnt hu ht (by decide +kernel) 0 0).trans (cnt_congr cnts _ 0 0),
      (k.fld hu ht (f := .SKY_STATE_STATE) (by decide +kernel) 0 0).trans (fld_congr regs _ 0 0),
      (k.flag hu ht (f := .SKY_TX_EN_EN) (by decide +kernel) 0 0).trans (flag_congr regs _ 0 0),
      fun _ => ⟨(congrArg SkySt.founding sky).trans founding, takeovers⟩⟩
  · next hn => exact ⟨⟨rfl, rfl, rfl⟩, h, rfl, rfl, rfl, fun hf => absurd hf hn⟩

theorem joins_joinFirst {s : State} (h : s.Sound) (e : Nat) : Joins s (joinFirst e s) := by
  by_cases hw : skyState s = 1 ∧ s.flag .SKYT_STATUS_STEPPED = true
  · obtain ⟨h1, hs⟩ := hw
    have founded := founds_leaseFounded h e
    rw [joinFirst_steps h1 hs, founded.txEn]
    generalize leaseFounded e s = u at *
    split
    · next hx =>
      have joining := (goes_leftAt e u).trans (goes_enterJoining (sound_leftAt founded.sound e) e)
      refine ⟨founded.toSameEpoch.trans joining.toSameEpoch, sound_enterJoining _ _ (sound_leftAt founded.sound e),
        joining.darks.trans founded.darks, joining.state.trans (if_pos ⟨h1, hs, hx⟩).symm, fun _ _ hf => ?_⟩
      obtain ⟨due, takeovers⟩ := founded.takes hf
      exact ⟨joining.founding.trans due, joining.takeovers.trans takeovers⟩
    · next hx => exact ⟨founded.toSameEpoch, founded.sound, founded.darks,
        founded.state.trans (if_neg (fun hc => hx hc.2.2)).symm, fun _ _ hf => founded.takes hf⟩
  · rw [joinFirst_waits hw]
    exact ⟨⟨rfl, rfl, rfl⟩, h, rfl, (if_neg (fun hc => hw ⟨hc.1, hc.2.1⟩)).symm, fun h1 hs => absurd ⟨h1, hs⟩ hw⟩

/-! ### M(E) and the dark cause MAP (R193) -/

/-- M(E) as it is found. -/
def mapFound (m : Option Nat) (s : State) : State := { s with sky := { s.sky with mapNow := m } }

theorem mapFound_regs (m : Option Nat) (s : State) : (mapFound m s).regs = s.regs := rfl

theorem sound_mapFound {s : State} (h : s.Sound) (m : Option Nat) : (mapFound m s).Sound := { h with sky := { h.sky with } }

theorem agreeMap_eq (e : Nat) (s : State) : agreeMap e s = (mapFound (skyMap s e) s).setFld .SKY_STATE_MAP
    (b2n (skyMap s e != some (s.fld .SKY_MAP_STATUS_ACTIVE_MAP_ID))) := rfl

/-- What the agreement on M(E) leaves, and the cause MAP. -/
structure Agrees (s t : State) : Prop extends SameEpoch s t where
  sound : t.Sound
  founding : t.sky.founding = s.sky.founding
  takeovers : t.cnt .SKYT_TAKEOVER_CNT = s.cnt .SKYT_TAKEOVER_CNT
  darks : t.cnt .SKY_DARK_EPOCH_CNT = s.cnt .SKY_DARK_EPOCH_CNT
  state : skyState t = skyState s
  map : t.flag .SKY_STATE_MAP = (t.sky.mapNow != some (t.fld .SKY_MAP_STATUS_ACTIVE_MAP_ID))

theorem b2n_bit (b : Bool) : (b2n b % 2 != 0) = b := by cases b <;> rfl

theorem agrees_agreeMap {s : State} (h : s.Sound) (e : Nat) : Agrees s (agreeMap e s) := by
  have hu := sound_mapFound h (skyMap s e)
  have regs := mapFound_regs (skyMap s e) s
  have cnts : (mapFound (skyMap s e) s).cnts = s.cnts := rfl
  have epoch : (mapFound (skyMap s e) s).sky.epoch = s.sky.epoch := rfl
  have old : (mapFound (skyMap s e) s).sky.mapOld = s.sky.mapOld := rfl
  have founding : (mapFound (skyMap s e) s).sky.founding = s.sky.founding := rfl
  have now : (mapFound (skyMap s e) s).sky.mapNow = skyMap s e := rfl
  rw [agreeMap_eq]
  generalize mapFound (skyMap s e) s = u at *
  generalize hb : (skyMap s e != some (s.fld .SKY_MAP_STATUS_ACTIVE_MAP_ID)) = b
  have sky := setFld_sky u .SKY_STATE_MAP (b2n b) 0 0
  have status := reg_setFld_apart hu.regs (f := .SKY_STATE_MAP) (q := .SKY_MAP_STATUS) (by decide) (b2n b) 0 0 0 0
  have active := (fld_setFld_apart hu.regs (f := .SKY_STATE_MAP) (g := .SKY_MAP_STATUS_ACTIVE_MAP_ID) (by decide) (b2n b) 0 0 0 0).trans
    (fld_congr regs _ 0 0)
  refine ⟨⟨(congrArg SkySt.epoch sky).trans epoch, (congrArg SkySt.mapOld sky).trans old, status.trans (reg_congr regs _ 0 0)⟩,
    sound_State_setFld _ _ _ _ _ hu, (congrArg SkySt.founding sky).trans founding,
    (setFld_cnt _ _ _ _ _ _ _ _).trans (cnt_congr cnts _ 0 0), (setFld_cnt _ _ _ _ _ _ _ _).trans (cnt_congr cnts _ 0 0),
    (fld_setFld_beside hu.regs (f := .SKY_STATE_MAP) (g := .SKY_STATE_STATE) (by decide) (b2n b) 0 0).trans (fld_congr regs _ 0 0), ?_⟩
  rw [active, congrArg SkySt.mapNow sky, now, hb]
  exact (flag_setFld hu.regs (f := .SKY_STATE_MAP) (by decide) (by decide) (b2n b) 0 0).trans (b2n_bit b)

/-! ### The rest of the boundary -/

theorem goes_freshOver (s : State) : Goes s (freshOver s) (skyState s) :=
  ⟨⟨⟨rfl, rfl, reg_congr rfl _ 0 0⟩, rfl, rfl, cnt_congr rfl _ 0 0⟩, .of_reg (reg_congr rfl _ 0 0),
    skyState_of_reg (reg_congr rfl _ 0 0), cnt_congr rfl _ 0 0⟩

/-- The servo runs on the offsets of the epoch before. -/
def steer (s : State) : State := freshOver (countGood (servo s))

theorem sound_steer {s : State} (h : s.Sound) : (steer s).Sound := sound_freshOver (sound_countGood _ (sound_servo _ h))

theorem goes_steer {s : State} (h : s.Sound) : Goes s (steer s) (skyState s) := by
  have h1 := sound_servo s h
  have h2 := sound_countGood _ h1
  have servo := Goes.of_kept h h1 (kept_servo (le_same _) s (.refl _ s)) (by decide) (by decide +kernel)
  have good := Goes.of_kept h1 h2 (kept_countGood (le_same _) _ (.refl _ _)) (by decide) (by decide +kernel)
  have fresh := goes_freshOver (countGood (Machine.servo s))
  rw [good.state, servo.state] at fresh
  exact (servo.trans good).trans fresh

/-- The alarms of lanes, which an OFF sky side has none of, and the diagnosis. -/
def watch (s : State) : State := runDiag (if skyState (ageDelays s) = 0 then ageDelays s else deskewAlarms (ageDelays s))

theorem goes_watch {s : State} (h : s.Sound) : (watch s).Sound ∧ Goes s (watch s) (skyState s) := by
  have h1 := sound_ageDelays s h
  have aged := Goes.of_kept h h1 (kept_ageDelays (le_same _) s (.refl _ s)) (by decide) (by decide +kernel)
  have diagnosed {u : State} (hu : u.Sound) (g : Goes s u (skyState s)) : (runDiag u).Sound ∧ Goes s (runDiag u) (skyState s) := by
    have h2 := sound_runDiag u hu
    have d := Goes.of_kept hu h2 (kept_runDiag (le_same _) u (.refl _ u)) (by decide) (by decide +kernel)
    rw [g.state] at d
    exact ⟨h2, g.trans d⟩
  unfold watch
  generalize ageDelays s = u at *
  split
  · exact diagnosed h1 aged
  · have h2 := sound_deskewAlarms u h1
    have alarmed := Goes.of_kept h1 h2 (kept_deskewAlarms (le_same _) u (.refl _ u)) (by decide) (by decide +kernel)
    rw [aged.state] at alarmed
    exact diagnosed h2 (aged.trans alarmed)

theorem slipStep_marks (s : State) : (slipStep s).sky.epoch = s.sky.epoch ∧ (slipStep s).sky.mapOld = s.sky.mapOld
    ∧ (slipStep s).sky.mapNow = s.sky.mapNow ∧ (slipStep s).sky.founding = s.sky.founding := by
  unfold slipStep
  extract_lets cells k u x lim fill v
  split
  · have sky : v.sky = u.sky := countIf_sky _ _ _ _ _
    show v.sky.epoch = u.sky.epoch ∧ v.sky.mapOld = u.sky.mapOld ∧ v.sky.mapNow = u.sky.mapNow
      ∧ v.sky.founding = u.sky.founding
    rw [sky]
    exact ⟨rfl, rfl, rfl, rfl⟩
  · exact ⟨rfl, rfl, rfl, rfl⟩

/-- The slip balance and the relay candidates. -/
def plan (s : State) : State := buildCandidates (slipStep s)

theorem goes_plan {s : State} (h : s.Sound) : Goes s (plan s) (skyState s) := by
  have h1 := sound_slipStep s h
  have slip := Goes.of_marks h h1 (kept_slipStep (le_same _) s (.refl _ s)) (by decide +kernel) (slipStep_marks s)
  have cands := Goes.of_marks h1 (sound_buildCandidates _ h1) (kept_buildCandidates (le_same _) _ (.refl _ _)) (by decide +kernel)
    ⟨rfl, rfl, rfl, rfl⟩
  rw [slip.state] at cands
  exact slip.trans cands

/-! ### The dark count (log 32) -/

/-- What the dark count leaves: an epoch that begins dark is counted. -/
structure Counts (s t : State) : Prop extends SameMarks s t, SameDark s t where
  sound : t.Sound
  state : skyState t = skyState s
  darks : t.cnt .SKY_DARK_EPOCH_CNT = s.cnt .SKY_DARK_EPOCH_CNT + (if 2 ≤ skyState s ∧ darkAny s = true then 1#64 else 0#64)

theorem darkCount_dark {s : State} (hd : 2 ≤ skyState s ∧ darkAny s = true) : darkCount s = s.count .SKY_DARK_EPOCH_CNT :=
  if_pos (by rw [decide_eq_true hd.1, hd.2]; rfl)

theorem darkCount_light {s : State} (hd : ¬ (2 ≤ skyState s ∧ darkAny s = true)) : darkCount s = s :=
  if_neg (by rwa [Bool.and_eq_true, decide_eq_true_eq])

theorem counts_darkCount {s : State} (h : s.Sound) : Counts s (darkCount s) := by
  by_cases hd : 2 ≤ skyState s ∧ darkAny s = true
  · have sky := count_sky s .SKY_DARK_EPOCH_CNT 0 0 1
    have reg (r : Reg) := count_reg s .SKY_DARK_EPOCH_CNT 0 0 1 r 0 0
    rw [darkCount_dark hd]
    exact ⟨⟨⟨congrArg SkySt.epoch sky, congrArg SkySt.mapOld sky, reg _⟩, congrArg SkySt.mapNow sky, congrArg SkySt.founding sky,
      cnt_count_apart h.cnts (by decide) _ _ _ _ _⟩, .of_reg (reg _), sound_State_count _ _ _ _ _ h, skyState_of_reg (reg _),
      by rw [if_pos hd]; exact cnt_count h.cnts _ 0 0 1⟩
  · rw [darkCount_light hd]
    exact ⟨⟨⟨rfl, rfl, rfl⟩, rfl, rfl, rfl⟩, .of_reg rfl, h, rfl, by rw [if_neg hd, BitVec.add_zero]⟩

/-! ### The whole boundary -/

/-- The boundary from the agreement on M(E) on; st is the state before it. -/
def closeEpoch (st e : Nat) (s : State) : State := plan (darkCount (watch (transit st e (steer s))))

/-- What the boundary leaves from there on. The transition looks at the causes of the state r, which stay. -/
structure Closes (st : Nat) (s t : State) : Prop extends SameMarks s t where
  map : t.flag .SKY_STATE_MAP = s.flag .SKY_STATE_MAP
  transits : ∃ r, SameDark r t ∧ skyState r = skyState s ∧ skyState t = nextState st r
  darks : t.cnt .SKY_DARK_EPOCH_CNT = s.cnt .SKY_DARK_EPOCH_CNT + (if 2 ≤ skyState t ∧ darkAny t = true then 1#64 else 0#64)

theorem closes_closeEpoch {s : State} (h : s.Sound) (st e : Nat) : Closes st s (closeEpoch st e s) := by
  have steered := goes_steer h
  have moved := goes_transit (sound_steer h) st e
  obtain ⟨sound, watched⟩ := goes_watch (sound_transit st e _ (sound_steer h))
  have through := moved.trans watched
  have counted := counts_darkCount sound
  have planned := goes_plan counted.sound
  have dark := counted.toSameDark.trans planned.toSameDark
  have state := planned.state.trans counted.state
  refine ⟨((steered.trans through).toSameMarks.trans counted.toSameMarks).trans planned.toSameMarks,
    dark.map.trans (steered.trans through).map, ⟨steer s, through.toSameDark.trans dark, steered.state, ?_⟩, ?_⟩
  · exact state.trans (watched.state.trans moved.state)
  · unfold closeEpoch
    rw [state, dark.darkAny, planned.darks, counted.darks, (steered.trans through).darks]

theorem beginEpoch_eq (e : Nat) (apart : Bool) (s : State) : beginEpoch e apart s =
    closeEpoch (skyState (openEpoch e apart s)) e (agreeMap e (joinFirst e (openEpoch e apart s))) := rfl

/-- What the start of epoch e leaves. -/
structure Begins (e : Nat) (s t : State) : Prop where
  epoch : t.sky.epoch = e
  old : t.sky.mapOld = mapsBefore s e
  map : t.flag .SKY_STATE_MAP = (t.sky.mapNow != some (t.fld .SKY_MAP_STATUS_ACTIVE_MAP_ID))
  takes : skyState s = 1 → s.flag .SKYT_STATUS_STEPPED = true → s.sky.founding = true →
    t.sky.founding = false ∧ t.cnt .SKYT_TAKEOVER_CNT = s.cnt .SKYT_TAKEOVER_CNT + 1#64
  transits : ∃ r, SameDark r t ∧ skyState t = nextState (skyState s) r ∧ skyState r =
    if skyState s = 1 ∧ s.flag .SKYT_STATUS_STEPPED = true ∧ s.flag .SKY_TX_EN_EN = true then 2 else skyState s
  darks : t.cnt .SKY_DARK_EPOCH_CNT = s.cnt .SKY_DARK_EPOCH_CNT + (if 2 ≤ skyState t ∧ darkAny t = true then 1#64 else 0#64)

theorem begins_beginEpoch {s : State} (h : s.Sound) (e : Nat) (apart : Bool) : Begins e s (beginEpoch e apart s) := by
  have opened := opens_openEpoch h e apart
  have joined := joins_joinFirst opened.sound e
  have agreed := agrees_agreeMap joined.sound e
  have closed := closes_closeEpoch agreed.sound (skyState (openEpoch e apart s)) e
  rw [beginEpoch_eq]
  generalize openEpoch e apart s = o at *
  generalize joinFirst e o = j at *
  generalize agreeMap e j = q at *
  generalize closeEpoch (skyState o) e q = t at *
  have active : t.fld .SKY_MAP_STATUS_ACTIVE_MAP_ID = q.fld .SKY_MAP_STATUS_ACTIVE_MAP_ID :=
    congrArg (Fld.get .SKY_MAP_STATUS_ACTIVE_MAP_ID) closed.status
  obtain ⟨r, dark, same, next⟩ := closed.transits
  refine ⟨?_, ?_, ?_, fun h1 hs hf => ?_, ⟨r, dark, ?_, ?_⟩, ?_⟩
  · rw [closed.epoch, agreed.epoch, joined.epoch, opened.epoch]
  · rw [closed.old, agreed.old, joined.old, opened.old]
  · rw [closed.map, agreed.map, closed.now, active]
  · rw [← opened.state] at h1
    rw [← opened.stepped] at hs
    rw [← opened.founding] at hf
    obtain ⟨founding, takeovers⟩ := joined.takes h1 hs hf
    rw [closed.founding, closed.takeovers, agreed.founding, agreed.takeovers, takeovers, opened.takeovers]
    exact ⟨founding, rfl⟩
  · rw [next, opened.state]
  · rw [same, agreed.state, joined.state, opened.state, opened.stepped, opened.txEn]
  · rw [closed.darks, agreed.darks, joined.darks, opened.darks]

theorem exec_epochStart (root oven : Nat) (s : State) :
    exec (.epochStart root oven) s = .next (epochStart (oscillatorsApart root oven) s) := rfl

theorem epochStart_again {s : State} (he : s.sky.epoch = curEpoch s) (apart : Bool) : epochStart apart s = s := if_pos he

theorem epochStart_begins {s : State} (he : s.sky.epoch ≠ curEpoch s) (apart : Bool) :
    epochStart apart s = beginEpoch (curEpoch s) apart s := if_neg he

/-! ### The state of the sky side after the boundary, by the state before it and the causes then -/

section
variable {e : Nat} {s t : State} (h : Begins e s t)
include h

theorem Begins.off (h0 : skyState s = 0) : skyState t = 0 := by
  obtain ⟨r, -, next, before⟩ := h.transits
  rw [h0] at next before
  exact next.trans before

theorem Begins.joins (h1 : skyState s = 1) (hs : s.flag .SKYT_STATUS_STEPPED = true) (hx : s.flag .SKY_TX_EN_EN = true) :
    skyState t = 2 := by
  obtain ⟨r, -, next, before⟩ := h.transits
  rw [h1] at next
  exact next.trans (before.trans (if_pos ⟨h1, hs, hx⟩))

theorem Begins.listens (h1 : skyState s = 1) (hw : s.flag .SKYT_STATUS_STEPPED = false ∨ s.flag .SKY_TX_EN_EN = false) :
    skyState t = 1 := by
  obtain ⟨r, -, next, before⟩ := h.transits
  rw [if_neg (by rintro ⟨-, hs, hx⟩; simp [hs, hx] at hw), h1] at before
  rw [h1] at next
  exact next.trans before

/-- A sky side that has left LISTEN comes to the transition in its state. -/
theorem Begins.transitsFrom {v : Nat} (hv : skyState s = v) (hl : v ≠ 1) :
    ∃ r, SameDark r t ∧ skyState r = v ∧ skyState t = nextState v r := by
  obtain ⟨r, dark, next, before⟩ := h.transits
  rw [if_neg (by rintro ⟨h1, -⟩; exact hl (hv.symm.trans h1)), hv] at before
  rw [hv] at next
  exact ⟨r, dark, before, next⟩

theorem Begins.joining_rejoins (h2 : skyState s = 2) (hc : mustRejoin t = true ∨ t.flag .SKY_STATE_TX_OFF = true) :
    skyState t = 4 := by
  obtain ⟨r, dark, -, next⟩ := h.transitsFrom h2 (by decide)
  rw [dark.mustRejoin, dark.txOff, ← Bool.or_eq_true] at hc
  rw [next]
  exact if_pos hc

theorem Begins.joining_waits (h2 : skyState s = 2) (hm : mustRejoin t = false) (hx : t.flag .SKY_STATE_TX_OFF = false)
    (hd : darkAny t = true) : skyState t = 2 := by
  obtain ⟨r, dark, before, next⟩ := h.transitsFrom h2 (by decide)
  rw [dark.mustRejoin] at hm
  rw [dark.txOff] at hx
  rw [dark.darkAny] at hd
  simpa [nextState, hm, hx, hd, before] using next

theorem Begins.joining_light (h2 : skyState s = 2) (hd : darkAny t = false) : skyState t = 2 ∨ skyState t = 3 := by
  obtain ⟨r, dark, before, next⟩ := h.transitsFrom h2 (by decide)
  rw [dark.darkAny] at hd
  obtain ⟨hm, hx⟩ := spared_of_light hd
  cases hb : withinBudget r
  · exact .inl (by simpa [nextState, hm, hx, hd, hb, before] using next)
  · exact .inr (by simpa [nextState, hm, hx, hd, hb] using next)

theorem Begins.joined (h3 : skyState s = 3) : skyState t = if darkAny t then 4 else 3 := by
  obtain ⟨r, dark, before, next⟩ := h.transitsFrom h3 (by decide)
  rw [next, dark.darkAny]
  exact congrArg (ite (darkAny r = true) 4) before

theorem Begins.dark_stays (h4 : skyState s = 4) (hd : darkAny t = true) : skyState t = 4 := by
  obtain ⟨r, dark, before, next⟩ := h.transitsFrom h4 (by decide)
  rw [dark.darkAny] at hd
  simpa [nextState, hd, before] using next

theorem Begins.dark_ends (h4 : skyState s = 4) (hd : darkAny t = false) : skyState t = 2 ∨ skyState t = 3 := by
  obtain ⟨r, dark, -, next⟩ := h.transitsFrom h4 (by decide)
  rw [dark.darkAny] at hd
  obtain ⟨hm, -⟩ := spared_of_light hd
  cases hb : withinBudget r
  · exact .inl (by simpa [nextState, hm, hd, hb] using next)
  · exact .inr (by simpa [nextState, hm, hd, hb] using next)

end

end Sys2Proof.Machine
end

section
open Sys2Proof Sys2Proof.Machine

/-- Settles O37: the boundary is taken through its parts in order. Each says what it leaves of the marks, the causes and the counters,
and the transition answers by the causes that stand at its end. The epoch that the counter shows is processed once (log 31), and
the dark count follows the change of state (log 32). -/
theorem epochBoundary : Obligations.EpochBoundary := by
  unfold Obligations.EpochBoundary
  refine ⟨fun s root oven h he => ⟨_, exec_epochStart root oven s, ?_⟩,
    fun s root oven he => by rw [exec_epochStart, epochStart_again he]⟩
  rw [epochStart_begins he]
  have begun := begins_beginEpoch h (curEpoch s) (oscillatorsApart root oven)
  exact ⟨begun.epoch, begun.old, begun.map, begun.off, begun.joins, begun.takes, begun.listens, begun.joining_rejoins,
    begun.joining_waits, begun.joining_light, begun.joined, begun.dark_stays, begun.dark_ends, begun.darks⟩

end

section
/-!
SUPPORT. Reception of a burst (R224, log 35): what the work before each check leaves of the values that the checks look at, of the
counters of their outcomes and of the deskew store, and what a burst comes to at each outcome.
-/
namespace Sys2Proof.Machine

/-! ### What the checks look at -/

/-- The counters of the outcomes of R224. -/
def outcomeCnts : List Cnt :=
  [.SKY_RX_NOSYNC_CNT, .SKY_RX_HDR_ERR_CNT, .SKY_RX_FORMAT_ERR_CNT, .SKY_RX_LANE_ERR_CNT, .SKY_RX_TIMING_ERR_CNT,
    .SKY_RX_BURST_CNT]

/-- The registers that the checks of R224 read. -/
def checkRegs : List Reg := [.SKY_CFG, .SKYT_STATUS, .SKYT_LANE_DELAY, .SKYT_LANE_DELAY_CFG]

/-- From s to t no outcome of R224 is counted, and what its checks look at and the deskew store stay. -/
structure Unjudged (s t : State) : Prop where
  sound : t.Sound
  time : t.time = s.time
  reg : ∀ r ∈ checkRegs, ∀ i, t.reg r i = s.reg r i
  cnt : ∀ c ∈ outcomeCnts, ∀ i, t.cnt c i = s.cnt c i
  desk : SameDesk s t

/-- What T names leaves what the checks look at and the counters of their outcomes alone. -/
def sparesChecks (T : Touch) : Bool := !T.a.testBit 16 && checkRegs.all (freeR T) && outcomeCnts.all (freeC T)

/-- The slot that a burst says it belongs to. -/
def saidSlot (s : State) (b : RxBurst) : SlotId :=
  ⟨burstEpoch s (hdrField b.hdrData 455 440), hdrField b.hdrData 439 432⟩

/-- From s to t a burst on lane n is counted at the check of counter c, and the deskew store stays. -/
def FailedAt (c : Cnt) (n : Nat) (s t : State) : Prop := t.cnt c (n / 16) = s.cnt c (n / 16) + 1#64 ∧ t.sky.desk = s.sky.desk

theorem Unjudged.of_kept {T : Touch} {s t : State} (h : s.Sound) (ht : t.Sound) (k : Kept T s t) (hf : sparesChecks T = true)
    (desk : SameDesk s t) : Unjudged s t := by
  simp only [sparesChecks, Bool.and_eq_true, Bool.not_eq_true', List.all_eq_true] at hf
  obtain ⟨⟨time, regs⟩, cnts⟩ := hf
  exact ⟨ht, k.time time, fun r hr i => k.reg h ht (regs r hr) i 0, fun c hc i => k.cnt h ht (cnts c hc) i 0, desk⟩

section
variable {s t u : State} (h : Unjudged s t)
include h

theorem Unjudged.trans (k : Unjudged t u) : Unjudged s u :=
  ⟨k.sound, k.time.trans h.time, fun r hr i => (k.reg r hr i).trans (h.reg r hr i),
    fun c hc i => (k.cnt c hc i).trans (h.cnt c hc i), h.desk.trans k.desk⟩

/-! ### The checks answer alike -/

theorem Unjudged.fld {f : Fld} (hf : f.reg ∈ checkRegs) (i : Nat) : t.fld f i = s.fld f i := congrArg f.get (h.reg f.reg hf i)

theorem Unjudged.flag {f : Fld} (hf : f.reg ∈ checkRegs) (i : Nat) : t.flag f i = s.flag f i :=
  congrArg (· != 0) (h.fld hf i)

theorem Unjudged.ownMod : ownMod t = ownMod s := h.fld (f := .SKY_CFG_MODULE_ID) (by decide) 0

theorem Unjudged.skySize : skySize t = skySize s := by
  unfold Machine.skySize
  rw [h.flag (by decide)]

theorem Unjudged.timed : timed t = timed s := h.flag (f := .SKYT_STATUS_STEPPED) (by decide) 0

theorem Unjudged.slotAt (ts : Nat) : slotAt t ts = slotAt s ts := by
  unfold Machine.slotAt epochUnits epochLog2
  rw [h.fld (by decide)]

theorem Unjudged.laneDelay (n : Nat) : laneDelay t n = laneDelay s n := by
  unfold Machine.laneDelay
  rw [h.flag (by decide), h.fld (by decide), h.fld (by decide)]

theorem Unjudged.expectedSlot (n rxTs : Nat) : expectedSlot t n rxTs = expectedSlot s n rxTs := by
  unfold Machine.expectedSlot slotTime
  rw [h.laneDelay, h.slotAt]

theorem Unjudged.burstEpoch (lo : Nat) : burstEpoch t lo = burstEpoch s lo := by
  unfold Machine.burstEpoch curEpoch curSlot State.ts64
  rw [h.time, h.slotAt]

theorem Unjudged.saidSlot (b : RxBurst) : saidSlot t b = saidSlot s b := by
  unfold Machine.saidSlot
  rw [h.burstEpoch]

/-- An outcome is counted once. -/
theorem Unjudged.counts {c : Cnt} (hc : c ∈ outcomeCnts) (i : Nat) : (t.count c i).cnt c i = s.cnt c i + 1#64 :=
  (cnt_count h.sound.cnts c i 0 1).trans (congrArg (· + 1#64) (h.cnt c hc i))

/-- A burst that fails a check is counted at it, and none of its cells enters the deskew store. -/
theorem Unjudged.fails {c : Cnt} (hc : c ∈ outcomeCnts) (n : Nat) : FailedAt c n s (t.count c (n / 16)) :=
  ⟨h.counts hc (n / 16), h.desk.count c (n / 16) 0 1⟩

end

/-! ### What comes before the checks -/

theorem sameDesk_setTrace (n src : Nat) (x : TraceSt) (s : State) : SameDesk s (setTrace n src x s) := by
  unfold setTrace
  exact ite_holds (P := SameDesk s) rfl rfl

section
variable {s : State} (h : s.Sound)
include h

theorem unjudged_fecCount (n k : Nat) : Unjudged s (s.count .SKY_LANE_FEC_CORR_SYM_CNT n 0 k) where
  sound := sound_State_count _ _ _ _ _ h
  time := count_time _ _ _ _ _
  reg r _ i := count_reg _ _ _ _ _ r i 0
  cnt c hc i := cnt_count_apart h.cnts ((by decide : ∀ c ∈ outcomeCnts, cntApart c .SKY_LANE_FEC_CORR_SYM_CNT = true) c hc) _ _ _ _ _
  desk := SameDesk.count rfl _ _ _ _

theorem unjudged_countClass (n : Nat) (c : BurstClass) : Unjudged s (countClass n c s) :=
  have k := kept_countClass (le_same _) n c s (.refl _ s)
  .of_kept h (sound_countClass n c s h) k (by decide +kernel) (.of_kept k (by decide))

theorem unjudged_noteSync (n : Nat) (b : RxBurst) : Unjudged s (noteSync n b s) := by
  refine .of_kept h (sound_noteSync n b s h) (kept_noteSync (le_same _) n b s (.refl _ s)) (by decide +kernel) ?_
  unfold noteSync
  exact ite_holds (P := SameDesk s) rfl rfl

theorem unjudged_deskewAlarm (lo n : Nat) : Unjudged s (deskewAlarm lo n s) :=
  have k := kept_deskewAlarm (le_same _) lo n s (.refl _ s)
  .of_kept h (sound_deskewAlarm lo n s h) k (by decide +kernel) (.of_kept k (by decide))

theorem unjudged_takeTrace (n src idx : Nat) (v : Byte) : Unjudged s (takeTrace n src idx v s) := by
  refine .of_kept h (sound_takeTrace n src idx v s h) (kept_takeTrace (le_same _) n src idx v s (.refl _ s)) (by decide +kernel) ?_
  have set (x : TraceSt) : SameDesk s (setTrace n src x s) := sameDesk_setTrace n src x s
  have offered (l : List NRec) (u : State) : SameDesk u (offer l u) :=
    .of_kept (kept_offer (le_same _) l u (.refl _ u)) (by decide)
  unfold takeTrace
  exact ite_holds (P := SameDesk s) (set _) (ite_holds (P := SameDesk s) ((set _).trans (offered _ _))
    (ite_holds (P := SameDesk s) (set _) (set _)))

theorem unjudged_takeCreditSpare (src : Nat) (d : List Byte) : Unjudged s (takeCreditSpare src d s) := by
  refine .of_kept h (sound_takeCreditSpare src d s h) (kept_takeCreditSpare (le_same _) src d s (.refl _ s)) (by decide +kernel) ?_
  unfold takeCreditSpare
  extract_lets g p e u
  have credit : SameDesk s u := ite_holds (P := SameDesk s) rfl rfl
  exact ite_holds (P := SameDesk s) credit credit

end

/-! ### The steps in order -/

/-- A slot with light is counted and classed (R225). -/
def classed (n : Nat) (b : RxBurst) (s : State) : State :=
  countClass n (burstClass s b (syncFound s n b))
    (s.count .SKY_LANE_FEC_CORR_SYM_CNT n 0 (if syncFound s n b then corrected b else 0))

/-- A burst with its SYNC found may end a loss of sync bursts (R251). -/
def syncNoted (n : Nat) (b : RxBurst) (s : State) : State := noteSync n b (classed n b s)

/-- A burst of module src gives its trace byte and, where it is no stranger's, its credit and spare levels. -/
def traced (n src : Nat) (b : RxBurst) (s : State) : State :=
  takeTrace n src (hdrField b.hdrData 423 418) (BitVec.ofNat 8 (hdrField b.hdrData 417 410)) s

def isStranger (n src : Nat) (b : RxBurst) (s : State) : Bool :=
  (traceOf s n src).stranger || (traceOf (traced n src b s) n src).stranger

def credited (n src : Nat) (b : RxBurst) (s : State) : State :=
  if isStranger n src b s then traced n src b s else takeCreditSpare src b.hdrData (traced n src b s)

/-- The cells or the sync frames of a burst that passes every check. -/
def takeContent (n src : Nat) (stranger : Bool) (x : SlotId) (b : RxBurst) (s : State) : State :=
  if isSyncBurst b then takeSyncBurst n src stranger b s else takeData n src stranger x b s

theorem takeBurst_eq (n : Nat) (b : RxBurst) (s : State) : takeBurst n b s =
    let src := hdrField b.hdrData 471 465
    let t := credited n src b s
    if hdrField b.hdrData 463 456 != n then t.count .SKY_RX_LANE_ERR_CNT (n / 16)
    else if timed t && expectedSlot t n b.rxTs != saidSlot t b then t.count .SKY_RX_TIMING_ERR_CNT (n / 16)
    else takeContent n src (isStranger n src b s) (saidSlot t b) b (t.count .SKY_RX_BURST_CNT (n / 16)) := rfl

theorem skyBurstRx_eq (n : Nat) (b : RxBurst) (s : State) : skyBurstRx n b s =
    if skyState s = 0 || skyLanes s ≤ n then s
    else if !syncFound s n b then (classed n b s).count .SKY_RX_NOSYNC_CNT (n / 16)
    else
      let t := syncNoted n b s
      let fmt := hdrField b.hdrData 479 472
      let src := hdrField b.hdrData 471 465
      if !hdrDecodes b || !hdrCrcOk b.hdrData then t.count .SKY_RX_HDR_ERR_CNT (n / 16)
      else if !(fmt == 3 || fmt == 4) || src == ownMod t || decide (skySize t ≤ src) then t.count .SKY_RX_FORMAT_ERR_CNT (n / 16)
      else takeBurst n b (deskewAlarm (minDelay t) n t) := rfl

section
variable {s : State} (h : s.Sound)
include h

theorem unjudged_classed (n : Nat) (b : RxBurst) : Unjudged s (classed n b s) :=
  have counted := unjudged_fecCount h n (if syncFound s n b then corrected b else 0)
  counted.trans (unjudged_countClass counted.sound n _)

theorem unjudged_syncNoted (n : Nat) (b : RxBurst) : Unjudged s (syncNoted n b s) :=
  have first := unjudged_classed h n b
  first.trans (unjudged_noteSync first.sound n b)

theorem unjudged_credited (n src : Nat) (b : RxBurst) : Unjudged s (credited n src b s) :=
  have trace := unjudged_takeTrace h n src (hdrField b.hdrData 423 418) (BitVec.ofNat 8 (hdrField b.hdrData 417 410))
  ite_holds (P := Unjudged s) trace (trace.trans (unjudged_takeCreditSpare trace.sound src b.hdrData))

/-- The content of a burst is not counted as a burst again. -/
theorem takeContent_burstCnt (n src : Nat) (stranger : Bool) (x : SlotId) (b : RxBurst) (i : Nat) :
    (takeContent n src stranger x b s).cnt .SKY_RX_BURST_CNT i = s.cnt .SKY_RX_BURST_CNT i :=
  ite_holds (P := fun t : State => t.cnt .SKY_RX_BURST_CNT i = s.cnt .SKY_RX_BURST_CNT i)
    ((kept_takeSyncBurst (le_same _) n src stranger b s (.refl _ s)).cnt h (sound_takeSyncBurst _ _ _ _ _ h) (by decide +kernel) i 0)
    ((kept_takeData (le_same _) n src stranger x b s (.refl _ s)).cnt h (sound_takeData _ _ _ _ _ _ h) (by decide +kernel) i 0)

end

/-! ### The outcomes of R224 -/

section
variable {s0 s : State} (h : Unjudged s0 s) {n : Nat} {b : RxBurst}
include h

theorem takeBurst_otherLane (hl : hdrField b.hdrData 463 456 ≠ n) : FailedAt .SKY_RX_LANE_ERR_CNT n s0 (takeBurst n b s) := by
  have before := h.trans (unjudged_credited h.sound n (hdrField b.hdrData 471 465) b)
  rw [takeBurst_eq, if_pos (bne_iff_ne.2 hl)]
  exact before.fails (by decide) _

theorem takeBurst_otherSlot (hl : hdrField b.hdrData 463 456 = n) (ht : timed s0 = true)
    (hx : expectedSlot s0 n b.rxTs ≠ saidSlot s0 b) : FailedAt .SKY_RX_TIMING_ERR_CNT n s0 (takeBurst n b s) := by
  have before := h.trans (unjudged_credited h.sound n (hdrField b.hdrData 471 465) b)
  simp only [takeBurst_eq, before.timed, before.expectedSlot, before.saidSlot]
  rw [if_neg (by simp [hl]), if_pos (by rw [ht, Bool.true_and]; exact bne_iff_ne.2 hx)]
  exact before.fails (by decide) _

theorem takeBurst_passes (hl : hdrField b.hdrData 463 456 = n) (hx : timed s0 = false ∨ expectedSlot s0 n b.rxTs = saidSlot s0 b) :
    (takeBurst n b s).cnt .SKY_RX_BURST_CNT (n / 16) = s0.cnt .SKY_RX_BURST_CNT (n / 16) + 1#64 := by
  have before := h.trans (unjudged_credited h.sound n (hdrField b.hdrData 471 465) b)
  have here : (timed s0 && expectedSlot s0 n b.rxTs != saidSlot s0 b) = false := by
    rcases hx with hx | hx <;> simp [hx]
  simp only [takeBurst_eq, before.timed, before.expectedSlot, before.saidSlot]
  rw [if_neg (by simp [hl]), if_neg (by simp [here])]
  exact (takeContent_burstCnt (sound_State_count _ _ _ _ _ before.sound) _ _ _ _ _ _).trans (before.counts (by decide) _)

end

section
variable {s : State} {n : Nat} {b : RxBurst} (h : s.Sound) (hs : skyState s ≠ 0) (hn : n < skyLanes s)
include h hs hn

theorem skyBurstRx_noSync (hy : syncFound s n b = false) : FailedAt .SKY_RX_NOSYNC_CNT n s (skyBurstRx n b s) := by
  rw [skyBurstRx_eq, if_neg (by simp [hs, hn]), if_pos (by rw [hy]; rfl)]
  exact (unjudged_classed h n b).fails (by decide) _

variable (hy : syncFound s n b = true)
include hy

theorem skyBurstRx_badHeader (hb : hdrDecodes b = false ∨ hdrCrcOk b.hdrData = false) :
    FailedAt .SKY_RX_HDR_ERR_CNT n s (skyBurstRx n b s) := by
  have before := unjudged_syncNoted h n b
  rw [skyBurstRx_eq, if_neg (by simp [hs, hn]), if_neg (by simp [hy])]
  dsimp only
  rw [if_pos (by rcases hb with hb | hb <;> simp [hb])]
  exact before.fails (by decide) _

variable (hd : hdrDecodes b = true) (hc : hdrCrcOk b.hdrData = true)
include hd hc

theorem skyBurstRx_badFormat (hb : (hdrField b.hdrData 479 472 ≠ 3 ∧ hdrField b.hdrData 479 472 ≠ 4)
      ∨ hdrField b.hdrData 471 465 = ownMod s ∨ skySize s ≤ hdrField b.hdrData 471 465) :
    FailedAt .SKY_RX_FORMAT_ERR_CNT n s (skyBurstRx n b s) := by
  have before := unjudged_syncNoted h n b
  rw [skyBurstRx_eq, if_neg (by simp [hs, hn]), if_neg (by simp [hy])]
  dsimp only
  rw [if_neg (by simp [hd, hc]), before.ownMod, before.skySize, if_pos (by rcases hb with hb | hb | hb <;> simp [hb])]
  exact before.fails (by decide) _

/-- A burst whose header is good goes on to the checks of its lane and slot. -/
theorem skyBurstRx_goodHeader (hf : hdrField b.hdrData 479 472 = 3 ∨ hdrField b.hdrData 479 472 = 4)
    (ho : hdrField b.hdrData 471 465 ≠ ownMod s) (hm : hdrField b.hdrData 471 465 < skySize s) :
    ∃ t, Unjudged s t ∧ skyBurstRx n b s = takeBurst n b t := by
  have before := unjudged_syncNoted h n b
  refine ⟨_, before.trans (unjudged_deskewAlarm before.sound (minDelay (syncNoted n b s)) n), ?_⟩
  rw [skyBurstRx_eq, if_neg (by simp [hs, hn]), if_neg (by simp [hy])]
  dsimp only
  rw [if_neg (by simp [hd, hc]), before.ownMod, before.skySize, if_neg (by rcases hf with hf | hf <;> simp [hf, ho, hm])]

end

/-- A die that forwards takes a burst. -/
theorem completes_skyBurstRx {s : State} (hf : forwards s) {n : Fin 256} {b : RxBurst} {P : State → Prop}
    (h : P (skyBurstRx n.val b s)) : completes (.skyBurstRx n b) s P :=
  ⟨_, congrArg Host.Outcome.next (running_runs hf (skyBurstRx n.val b)), h⟩

end Sys2Proof.Machine
end

section
open Sys2Proof Sys2Proof.Machine

/-- Settles O39: each check of R224 in its order (log 35). The work before a check leaves what the checks look at, the counters of
their outcomes and the deskew store alone (`Unjudged`), so the first check that fails is the one of the state before the burst. -/
theorem skyReception : Obligations.SkyReception := by
  unfold Obligations.SkyReception
  intro s n b h hf hs hn
  refine ⟨?noSync, ?badHeader, ?badFormat, ?goodHeader⟩
  case noSync => exact fun hy => completes_skyBurstRx hf (skyBurstRx_noSync h hs hn hy)
  case badHeader => exact fun hy hb => completes_skyBurstRx hf (skyBurstRx_badHeader h hs hn hy hb)
  case badFormat => exact fun hy hd hc hb => completes_skyBurstRx hf (skyBurstRx_badFormat h hs hn hy hd hc hb)
  case goodHeader =>
    intro hy hd hc hfmt ho hm
    obtain ⟨t, before, e⟩ := skyBurstRx_goodHeader h hs hn hy hd hc hfmt ho hm
    refine ⟨fun hl => completes_skyBurstRx hf ?_, fun hl ht hx => completes_skyBurstRx hf ?_,
      fun hl hx => completes_skyBurstRx hf ?_⟩
    all_goals rw [e]
    · exact takeBurst_otherLane before hl
    · exact takeBurst_otherSlot before hl ht hx
    · exact takeBurst_passes before hl hx
end

section
/-!
SUPPORT. The zenith lease (R269, R271): what a takeover, a renewal, the end of a lease and its takeover check leave.
-/
namespace Sys2Proof.Machine

/-- The sky time beside its registers. -/
theorem Sofar.setTime {s0 s : State} {aa : List Area} {oo cc : List Nat} (h : Sofar s0 s aa oo cc) (hm : Area.time ∈ aa)
    (x : TimeSt) : Sofar s0 { s with time := x } aa oo cc := by
  refine h.areas rfl rfl rfl (fun a ha => ?_)
  cases a <;> trivial

/-! ### SKYT_LEASE and SKYT_LEASE_END (R277) -/

/-- A pair of registers reads the 64-bit value written to it. -/
theorem reg64_setReg64 {s : State} (hs : SMap.sorted s.regs = true) {lo hi : Reg} (ha : regApart lo hi = true) {v : Nat}
    (hv : v < 2 ^ 64) (i : Nat) : (s.setReg64 lo hi v i).reg64 lo hi i = v := by
  have low := sorted_setReg hs lo (BitVec.ofNat 32 v) i 0
  unfold State.setReg64 State.reg64
  rw [reg_setReg low, reg_setReg_apart low ha, reg_setReg hs, BitVec.toNat_ofNat, BitVec.toNat_ofNat]
  omega

theorem held_showLease {s : State} (h : s.Sound) : (showLease s).flag .SKYT_LEASE_HELD = s.time.heldAt.isSome := by
  have held := sorted_setFld h.regs .SKYT_LEASE_HELD (b2n s.time.heldAt.isSome) 0 0
  unfold showLease State.setReg64
  rw [flag_setReg_apart (sorted_setReg held _ _ _ _) (by decide), flag_setReg_apart held (by decide),
    flag_setFld h.regs (by decide) (by decide)]
  cases s.time.heldAt <;> rfl

/-- SKYT_LEASE_END shows a holder the end of its own lease. -/
theorem end_showLease {s : State} (h : s.Sound) {e : Nat} (he : s.time.heldAt = some e) :
    (showLease s).reg64 .SKYT_LEASE_END_LO .SKYT_LEASE_END_HI = s.time.ownEnd % 2 ^ 48 := by
  unfold showLease
  rw [he, reg64_setReg64 (sorted_setFld h.regs _ _ _ _) (by decide) (by simp only [Option.isSome_some, if_true]; omega)]
  rfl

/-- The registers follow a lease whose start or end is counted. -/
theorem showLease_counted {u : State} (h : u.Sound) (c : Cnt) (term : Nat) :
    (showLease ((u.count c).led term 0)).time = u.time
      ∧ (showLease ((u.count c).led term 0)).flag .SKYT_LEASE_HELD = u.time.heldAt.isSome
      ∧ (showLease ((u.count c).led term 0)).cnt c = u.cnt c + 1#64 := by
  refine ⟨time_showLease _, held_showLease (sound_State_led _ _ _ _ (sound_State_count _ _ _ _ _ h)), ?_⟩
  rw [showLease_cnt, led_cnt]
  exact cnt_count h.cnts c 0 0 1

/-! ### The lease starts, is renewed, and ends (R269) -/

/-- The lease runs from epoch e. -/
def leaseFrom (e : Nat) (s : State) : State :=
  { s with time := { s.time with heldAt := some e, ownEnd := e + 1024, announced := [e + 1024], echoes := [], checked := false } }

/-- The lease has ended, with `till` as the end that is shown. -/
def leaseOver (till : Nat) (s : State) : State :=
  { s with time := { s.time with heldAt := none, relEnd := some till, released := true } }

/-- The lease runs for 1,024 epochs from now, and its new end is announced. -/
def leaseRenewed (s : State) : State :=
  { s with time := { s.time with
    ownEnd := s.sky.epoch + 1024
    announced := if s.time.announced.contains (s.sky.epoch + 1024) then s.time.announced
      else (s.sky.epoch + 1024) :: s.time.announced } }

theorem sound_leaseFrom {s : State} (h : s.Sound) (e : Nat) : (leaseFrom e s).Sound := { h with time := { h.time with } }
theorem sound_leaseOver {s : State} (h : s.Sound) (till : Nat) : (leaseOver till s).Sound := { h with time := { h.time with } }
theorem sound_leaseRenewed {s : State} (h : s.Sound) : (leaseRenewed s).Sound := { h with time := { h.time with } }

theorem leaseTakeover_takes {s : State} (ho : epochOpen s = true) (hm : mayTake s s.sky.epoch = true) :
    leaseTakeover s = showLease (((leaseFrom s.sky.epoch s).count .SKYT_TAKEOVER_CNT).led tTake10 0) :=
  if_pos (by rw [ho, hm]; rfl)

theorem stopLease_stops {s : State} {e : Nat} (he : s.time.heldAt = some e) (till : Nat) :
    stopLease till s = showLease (((leaseOver till s).count .SKYT_RELEASE_CNT).led tEnd10 0) := if_pos (by rw [he]; rfl)

theorem leaseRenew_renews {s : State} {e : Nat} (he : s.time.heldAt = some e) (ho : epochOpen s = true)
    (hm : (s.sky.epoch - e) % 256 = 0) (hr : s.time.role ≠ 0) (hd : s.time.diag = 0) :
    leaseRenew s = showLease (leaseRenewed s) := by
  unfold leaseRenew
  split
  · next hn => rw [he] at hn; cases hn
  · next t ht =>
    obtain rfl := Option.some.inj (he.symm.trans ht)
    exact if_pos (by simp [ho, hm, hr, hd])

theorem leaseLapse_stops {s : State} {e : Nat} (he : s.time.heldAt = some e) (hl : s.time.ownEnd ≤ s.sky.epoch + 64) :
    leaseLapse s = stopLease s.time.ownEnd s := if_pos (by simp [he, hl])

theorem leaseLapse_waits {s : State} (hl : s.sky.epoch + 64 < s.time.ownEnd) : leaseLapse s = s := if_neg (by simp [hl])

/-! ### The takeover check (R271) -/

/-- The present peers that have echoed the lease. -/
def echoing (s : State) : List Nat := (presentPeers s).filter (fun d => s.time.echoes.contains d)

/-- The takeover check has been made. -/
def checkMade (s : State) : State := { s with time := { s.time with checked := true } }

theorem sound_checkMade {s : State} (h : s.Sound) : (checkMade s).Sound := { h with time := { h.time with } }

theorem fault_regs (code arg w2 w3 : Nat) (s : State) : (fault code arg w2 w3 s).regs = s.regs := rfl
theorem fault_cnts (code arg w2 w3 : Nat) (s : State) : (fault code arg w2 w3 s).cnts = s.cnts := rfl
theorem fault_time (code arg w2 w3 : Nat) (s : State) : (fault code arg w2 w3 s).time = s.time := rfl

/-- The failure is shown, counted and recorded: n of all present peers have echoed. -/
def noteRefusal (n all : Nat) (s : State) : State :=
  fault 0x0F n all 0 ((s.setFld .SKYT_STATUS_TAKEOVER_FAIL 1).count .SKYT_TAKEOVER_FAIL_CNT)

theorem noteRefusal_shows {s : State} (h : s.Sound) (n all : Nat) : (noteRefusal n all s).time = s.time
    ∧ (noteRefusal n all s).flag .SKYT_STATUS_TAKEOVER_FAIL = true
    ∧ (noteRefusal n all s).cnt .SKYT_TAKEOVER_FAIL_CNT = s.cnt .SKYT_TAKEOVER_FAIL_CNT + 1#64 := by
  unfold noteRefusal
  rw [fault_time, count_time, setFld_time, flag_congr (fault_regs ..), cnt_congr (fault_cnts ..), count_flag]
  refine ⟨rfl, flag_setFld h.regs (by decide) (by decide) 1 0 0, ?_⟩
  rw [cnt_count (sound_State_setFld _ _ _ _ _ h).cnts, setFld_cnt]

theorem takeoverCheck_runs {s : State} {e : Nat} (he : s.time.heldAt = some e) (hc : s.time.checked = false)
    (hw : e + 64 ≤ s.sky.epoch) :
    takeoverCheck s = if 2 * (echoing s).length < (presentPeers s).length
      then noteRefusal (echoing s).length (presentPeers s).length (releaseLease (checkMade s)) else checkMade s := by
  unfold takeoverCheck
  split
  · next hn => rw [he] at hn; cases hn
  · next t ht =>
    obtain rfl := Option.some.inj (he.symm.trans ht)
    exact if_neg (by simp [hc, hw])

/-- A lease that is refused has ended, and the failure is noted. -/
theorem refused_gives_up {s : State} (h : s.Sound) (n all : Nat) :
    (noteRefusal n all (releaseLease (checkMade s))).time.heldAt = none
      ∧ (noteRefusal n all (releaseLease (checkMade s))).flag .SKYT_STATUS_TAKEOVER_FAIL = true
      ∧ (noteRefusal n all (releaseLease (checkMade s))).cnt .SKYT_TAKEOVER_FAIL_CNT = s.cnt .SKYT_TAKEOVER_FAIL_CNT + 1#64 := by
  have hm := sound_checkMade h
  have released := sound_releaseLease _ hm
  obtain ⟨time, flag, count⟩ := noteRefusal_shows released n all
  have before : (releaseLease (checkMade s)).cnt .SKYT_TAKEOVER_FAIL_CNT = s.cnt .SKYT_TAKEOVER_FAIL_CNT :=
    (kept_releaseLease (le_same _) _ (.refl _ (checkMade s))).cnt hm released (by decide +kernel) 0 0
  exact ⟨(congrArg TimeSt.heldAt time).trans (heldAt_releaseLease _), flag, count.trans (congrArg (· + 1#64) before)⟩

end Sys2Proof.Machine
end

section
open Sys2Proof Sys2Proof.Machine

/-- Settles O42: the lease that starts or ends is shown and counted (`showLease_counted`), a renewal moves its end, and the
check comes to a refusal or to its mark (`takeoverCheck_runs`). -/
theorem zenithLease : Obligations.ZenithLease := by
  unfold Obligations.ZenithLease
  refine ⟨?takeover, ?renewal, ?lapse, ?check⟩
  case takeover =>
    intro s h ho hm
    obtain ⟨time, held, count⟩ := showLease_counted (sound_leaseFrom h s.sky.epoch) .SKYT_TAKEOVER_CNT tTake10
    exact ⟨_, congrArg Host.Outcome.next (leaseTakeover_takes ho hm), congrArg TimeSt.heldAt time,
      congrArg TimeSt.ownEnd time, held, count⟩
  case renewal =>
    intro s e h he ho hm hr hd
    have time := time_showLease (leaseRenewed s)
    exact ⟨_, congrArg Host.Outcome.next (leaseRenew_renews he ho hm hr hd), (congrArg TimeSt.heldAt time).trans he,
      congrArg TimeSt.ownEnd time, end_showLease (sound_leaseRenewed h) he⟩
  case lapse =>
    intro s e h he
    refine ⟨fun hl => ?_, fun hl => congrArg Host.Outcome.next (leaseLapse_waits hl)⟩
    obtain ⟨time, held, count⟩ := showLease_counted (sound_leaseOver h s.time.ownEnd) .SKYT_RELEASE_CNT tEnd10
    exact ⟨_, congrArg Host.Outcome.next ((leaseLapse_stops he hl).trans (stopLease_stops he _)),
      congrArg TimeSt.heldAt time, congrArg TimeSt.relEnd time, held, count⟩
  case check =>
    intro s e h he hc hw
    refine ⟨fun few => ?_, fun enough => ?_⟩
    · exact ⟨_, congrArg Host.Outcome.next ((takeoverCheck_runs he hc hw).trans (if_pos few)), refused_gives_up h _ _⟩
    · refine ⟨_, congrArg Host.Outcome.next ((takeoverCheck_runs he hc hw).trans (if_neg (Nat.not_lt.mpr enough))), he, rfl, ?_⟩
      exact ((Sofar.start h [.time] [] []).setTime (List.mem_singleton.mpr rfl) _).only
end

section
/-!
SUPPORT. Lull (R273, R274) and the TAI offset (R275): the conditions of LULL_ENTRY and LULL_LIMIT, what the limit leaves, and a
write of the offset's high word.
-/
namespace Sys2Proof.Machine

/-! ### Lull -/

theorem lullEntry_enters {s : State} (hv : s.flag .SKYT_STATUS_VALID = true) (hh : s.time.heldAt = none)
    (hl : s.flag .SKYT_STATUS_LULL = false) (he : s.time.heardAt + 256 ≤ s.sky.epoch) :
    lullEntry s = (s.setFld .SKYT_STATUS_LULL 1).count .SKYT_LULL_CNT := if_pos (by simp [hv, hh, hl, he])

theorem lullTime_ends {s : State} {e : Nat} (hv : s.flag .SKYT_STATUS_VALID = true) (hh : s.time.heldAt = none)
    (he : s.time.heardClk = some e) (past : e + limitMs s * clkMs ≤ s.now) : lullTime s = lullLimit 0 (lastOffset s) s := by
  unfold lullTime
  split
  · next t ht =>
    obtain rfl := Option.some.inj (he.symm.trans ht)
    exact if_pos (by simp [hv, hh, past])
  · next hn => rw [he] at hn; cases hn

theorem lullTime_waits {s : State} {e : Nat} (he : s.time.heardClk = some e) (early : s.now < e + limitMs s * clkMs) :
    lullTime s = s := by
  unfold lullTime
  split
  · next t ht =>
    obtain rfl := Option.some.inj (he.symm.trans ht)
    exact if_neg (by simp [early])
  · rfl

/-- The registers at the lull limit (R274): the dark cause LULL is set, and sky time is not valid. -/
def showLimit (s : State) : State := (s.setFld .SKY_STATE_LULL 1).setFld .SKYT_STATUS_VALID 0

/-- The next offset from a holder is no first one (R274). -/
def noFirstOff (s : State) : State := { s with time := { s.time with firstOff := false } }

theorem noFirstOff_regs (s : State) : (noFirstOff s).regs = s.regs := rfl
theorem noFirstOff_cnts (s : State) : (noFirstOff s).cnts = s.cnts := rfl
theorem noFirstOff_host (s : State) : (noFirstOff s).host = s.host := rfl
theorem noFirstOff_ts64 (s : State) : (noFirstOff s).ts64 = s.ts64 := rfl

theorem lullLimit_eq (why : Nat) (ps : Int) (s : State) : lullLimit why ps s =
    fault 0x11 why (unsgn 64 ps) 0 (noFirstOff ((showLimit s).count .SKYT_LULL_LIMIT_CNT)) := by
  unfold lullLimit showLimit noFirstOff
  rfl

theorem showLimit_shows {s : State} (h : s.Sound) :
    (showLimit s).flag .SKY_STATE_LULL = true ∧ (showLimit s).flag .SKYT_STATUS_VALID = false := by
  have lull := sorted_setFld h.regs .SKY_STATE_LULL 1 0 0
  refine ⟨?_, flag_setFld lull (by decide) (by decide) 0 0 0⟩
  exact (flag_setFld_apart lull (by decide) 0 0 0 0 0).trans (flag_setFld h.regs (by decide) (by decide) 1 0 0)

theorem lullLimit_flag (why : Nat) (ps : Int) (s : State) (f : Fld) : (lullLimit why ps s).flag f = (showLimit s).flag f := by
  rw [lullLimit_eq, flag_congr (fault_regs ..), flag_congr (noFirstOff_regs _), count_flag]

theorem lullLimit_counts {s : State} (h : s.Sound) (why : Nat) (ps : Int) :
    (lullLimit why ps s).cnt .SKYT_LULL_LIMIT_CNT = s.cnt .SKYT_LULL_LIMIT_CNT + 1#64 := by
  rw [lullLimit_eq, cnt_congr (fault_cnts ..), cnt_congr (noFirstOff_cnts _), showLimit,
    cnt_count (sound_State_setFld _ _ _ _ _ (sound_State_setFld _ _ _ _ _ h)).cnts, setFld_cnt, setFld_cnt]

theorem ts64_congr {s t : State} (h : t.time = s.time) : t.ts64 = s.ts64 := by unfold State.ts64; rw [h]

theorem fault_recq (code arg w2 w3 : Nat) (s : State) :
    (fault code arg w2 w3 s).host.recq = s.host.recq ++ [.notes [faultRec s code arg w2 w3]] := rfl

theorem faultRec_congr {s t : State} (h : t.ts64 = s.ts64) (code arg w2 w3 : Nat) :
    faultRec t code arg w2 w3 = faultRec s code arg w2 w3 := by unfold faultRec; rw [h]

/-- The limit makes one fault record. -/
theorem lullLimit_recq (why : Nat) (ps : Int) (s : State) :
    (lullLimit why ps s).host.recq = s.host.recq ++ [.notes [faultRec s 0x11 why (unsgn 64 ps) 0]] := by
  have time : ((showLimit s).count .SKYT_LULL_LIMIT_CNT).time = s.time := by
    rw [count_time, showLimit, setFld_time, setFld_time]
  have host : ((showLimit s).count .SKYT_LULL_LIMIT_CNT).host = s.host := by
    rw [count_host, showLimit, setFld_host, setFld_host]
  rw [lullLimit_eq, fault_recq, noFirstOff_host, host, faultRec_congr ((noFirstOff_ts64 _).trans (ts64_congr time))]

/-! ### The TAI offset -/

theorem taiOffset_there (s : State) (a : Agent) (v : Nat) : fusedOff s (write32 a .SKYT_TAI_OFFSET_HI v).off = false :=
  fusedOff_write32 (by decide +kernel) (by decide) (by decide) (by decide) s a v

theorem exec_taiOffsetWrite {s : State} (hl : linked s) (a : Agent) (v : Word) :
    exec (.taiOffsetWrite a v) s = .next (taiWrite v (idlSend 0 0 1 0 s)) :=
  congrArg Host.Outcome.next (far_linked (op := taiWrite v) hl (taiOffset_there s a v.toNat))

/-- Both words of the offset take effect with a write of the high one. -/
theorem tai_taiWrite {s : State} (h : s.Sound) (v : Word) :
    (taiWrite v s).time.tai = (s.reg .SKYT_TAI_OFFSET_LO).toNat + 2 ^ 32 * v.toNat := by
  show (s.setReg .SKYT_TAI_OFFSET_HI v).reg64 .SKYT_TAI_OFFSET_LO .SKYT_TAI_OFFSET_HI = _
  rw [State.reg64, reg_setReg h.regs, reg_setReg_apart h.regs (by decide)]

end Sys2Proof.Machine
end

section
open Sys2Proof Sys2Proof.Machine

/-- Settles O43: the entry sets one flag and counts; the limit is the registers of `showLimit` with a count and a fault record; the
offset is what both registers hold once the high word is written (`tai_taiWrite`). -/
theorem lullAndTai : Obligations.LullAndTai := by
  unfold Obligations.LullAndTai
  refine ⟨?entry, ?limit, ?tai⟩
  case entry =>
    intro s h hv hh hl he
    refine ⟨_, congrArg Host.Outcome.next (lullEntry_enters hv hh hl he), ?_, ?_, ?_⟩
    · rw [count_flag]
      exact flag_setFld h.regs (by decide) (by decide) 1 0 0
    · rw [cnt_count (sound_State_setFld _ _ _ _ _ h).cnts, setFld_cnt]
    · exact (((Sofar.start h _ _ _).setFld .SKYT_STATUS_LULL 1 0 0 (List.mem_singleton.mpr rfl)).count .SKYT_LULL_CNT 0 0 1
        (List.mem_singleton.mpr rfl)).only
  case limit =>
    intro s e h hv hh he
    refine ⟨fun past => ?_, fun early => congrArg Host.Outcome.next (lullTime_waits he early)⟩
    obtain ⟨lull, valid⟩ := showLimit_shows h
    have dark := (lullLimit_flag 0 (lastOffset s) s .SKY_STATE_LULL).trans lull
    refine ⟨_, congrArg Host.Outcome.next (lullTime_ends hv hh he past), dark, (lullLimit_flag _ _ s _).trans valid, ?_,
      lullLimit_counts h _ _, lullLimit_recq _ _ s⟩
    rw [mustRejoin, dark, Bool.true_or]
  case tai =>
    intro s a v h hl
    have sent := (Sends.refl h).send 0 0 1 0
    refine ⟨_, exec_taiOffsetWrite hl a v, ?_, reg_setReg sent.sound.regs _ _ _ _, ?_⟩
    · rw [tai_taiWrite sent.sound, reg_congr sent.regs]
    · exact (((Sofar.start h [.time, .ctl] _ []).send (by decide) 0 0 1 0).setReg .SKYT_TAI_OFFSET_HI v 0 0
        (List.mem_singleton.mpr rfl) |>.setTime (by decide) _).only
end

section
/-!
SUPPORT. A core clock (R256): what it leaves beside the time, the sky cell clock and the count of stalls.
-/
namespace Sys2Proof.Machine

/-- A core clock up to the count of stalls. -/
def clockWork (s : State) : State := cplStalls (creditStalls (heartbeat (idlClock (planeReturns (advance s)))))

theorem tick_eq (s : State) : tick s = serveUnknown (stallCount (clockWork s)) := rfl

theorem stallCount_tbl (s : State) : (stallCount s).tbl = { s.tbl with stallAt := (stallCount s).tbl.stallAt } := by
  unfold stallCount
  split
  · rfl
  · split <;> rfl

/-- Up to the count of stalls, and once the time has advanced, a core clock changes the control die and the crossbar. -/
theorem kept_clockWork {T : Touch} (hT : Touch.le ⟨525312, 0x38004000000000000000000000000000000000200000000000,
    0x1000304000008000000000000000000000000010080000000000000⟩ T) (s : State) : Kept T (advance s) (clockWork s) :=
  kept_cplStalls (tr (by decide) hT) _ (kept_creditStalls (tr (by decide) hT) _ (kept_heartbeat (tr (by decide) hT) _
    (kept_idlClock (tr (by decide) hT) _ (kept_planeReturns (tr (by decide) hT) _ (.refl _ _)))))

theorem clockWork_tbl (s : State) : (clockWork s).tbl = s.tbl := (kept_clockWork (le_same _) s).tbl (by decide)

theorem tick_tbl (s : State) : (tick s).tbl = { s.tbl with stallAt := (tick s).tbl.stallAt } := by
  have served : (tick s).tbl = (stallCount (clockWork s)).tbl :=
    (kept_serveUnknown (le_same _) _ (.refl _ (stallCount (clockWork s)))).tbl (by decide)
  rw [served, ← clockWork_tbl s]
  exact stallCount_tbl _

/-- After the time has advanced, a core clock changes the control die, the crossbar, the tables and what leaves the module. -/
theorem tick_after_advance (s : State) : Kept ⟨656640, 0x38004000000000000000000000000000000000200000000000,
    0x1000304000008000000000000000000000000010080000000000000⟩ (advance s) (tick s) :=
  kept_serveUnknown (by decide) _ (kept_stallCount (by decide) _ (kept_clockWork (by decide) s))

/-- The time counter moves on by ten units scaled by the rate, modulo its width. -/
theorem advance_ts (s : State) :
    ((advance s).time.ts : Int) = ((s.time.ts : Int) + 10 * (2 ^ 48 + sgn 32 (s.reg .SKYT_RATE).toNat)) % 2 ^ 112 := by
  unfold advance unsgn
  exact Int.toNat_of_nonneg (Int.emod_nonneg _ (by decide))

end Sys2Proof.Machine
end

section
open Sys2Proof Sys2Proof.Machine

/-- Settles O1: a step is `exec` on the rest of the queue, or `tick`; the clock is `advance` with what the rest of it keeps. -/
theorem stepRunsTheFrontCommand : Obligations.StepRunsTheFrontCommand := by
  unfold Obligations.StepRunsTheFrontCommand
  refine ⟨fun s c rest hq => ?command, fun s hq => ?clock⟩
  case command => rw [step, hq]
  case clock =>
    have kept := tick_after_advance s
    refine ⟨tick s, by rw [step, hq], kept.now (by decide), (kept.pending (by decide)).trans hq, ?_, kept.host (by decide),
      kept.pwr (by decide), kept.nvm (by decide), kept.cls (by decide), kept.leaf (by decide), kept.buf (by decide),
      kept.tm (by decide), tick_tbl s⟩
    rw [kept.time (by decide)]
    exact advance_ts s
end

section
/-!
SUPPORT. A step keeps a state sound, and a frame by masks (`Kept`) is a frame by lists (`State.Changes`).
-/
namespace Sys2Proof.Machine

/-- The declaration of a type waits until all that stands before it is checked: this one bounds how many proofs wait at once, and
so the memory that a check of the whole text takes. -/
inductive CheckedAbove : Prop where
  | done

/-- Every command leaves a sound state sound. -/
theorem sound_exec {s : State} (h : s.Sound) (c : Instr) : ResHolds (exec c s) := by
  cases c with
  | headlessReq a => exact sound_execHeadlessReq a s h
  | headlessEntryComplete => exact sound_execHeadlessEntryComplete s h
  | headlessExit a => exact sound_execHeadlessExit a s h
  | appResetMessage => exact sound_execAppResetMessage s h
  | idlTrainingLoss => exact sound_execIdlTrainingLoss s h
  | idlLossTimeout => exact sound_execIdlLossTimeout s h
  | idlFlitReplay => exact sound_execIdlFlitReplay s h
  | idlRetrainDone => exact sound_execIdlRetrainDone s h
  | headlessBacklogDeliver => exact sound_execHeadlessBacklogDeliver s h
  | leafGroupRestart a g => exact sound_execLeafGroupRestart a g s h
  | groupRestartDone g => exact sound_execGroupRestartDone g s h
  | laneAlign n m1 m2 apart => exact sound_execLaneAlign n m1 m2 apart s h
  | laneAlignLoss l => exact sound_execLaneAlignLoss l s h
  | linkUp p skewNs => exact sound_execLinkUp p skewNs s h
  | linkDown p f => exact sound_execLinkDown p f s h
  | flapHoldExpiry p => exact sound_execFlapHoldExpiry p s h
  | leafRxFrame p f fec => exact sound_execLeafRxFrame p f fec s h
  | pauseFrameRx p f => exact sound_execPauseFrameRx p f s h
  | pauseExpiry p c => exact sound_execPauseExpiry p c s h
  | pauseFrameTx p => exact sound_execPauseFrameTx p s h
  | pauseRepeatTimer p c => exact sound_execPauseRepeatTimer p c s h
  | pauseWatchdog p c => exact sound_execPauseWatchdog p c s h
  | pauseWdHoldoffEnd p c => exact sound_execPauseWdHoldoffEnd p c s h
  | portTxStart p bad => exact sound_execPortTxStart p bad s h
  | leafTxComplete p bad => exact sound_execLeafTxComplete p bad s h
  | ctStartDecay p => exact sound_execCtStartDecay p s h
  | doze a p => exact sound_execDoze a p s h
  | wake a p => exact sound_execWake a p s h
  | wakePatternSent p => exact sound_execWakePatternSent p s h
  | wakePatternDetect p seen times => exact sound_execWakePatternDetect p seen times s h
  | ruleKey r => exact sound_execRuleKey r s h
  | ruleMask r => exact sound_execRuleMask r s h
  | ruleAction r => exact sound_execRuleAction r s h
  | ruleValid r => exact sound_execRuleValid r s h
  | editWrite r => exact sound_execEditWrite r s h
  | templateWrite r => exact sound_execTemplateWrite r s h
  | macInsert r => exact sound_execMacInsert r s h
  | macDelete r => exact sound_execMacDelete r s h
  | hostInsert r => exact sound_execHostInsert r s h
  | hostDelete r => exact sound_execHostDelete r s h
  | lpmInsert r => exact sound_execLpmInsert r s h
  | lpmDelete r => exact sound_execLpmDelete r s h
  | filterWrite r => exact sound_execFilterWrite r s h
  | nhWrite r => exact sound_execNhWrite r s h
  | ecmpWrite r => exact sound_execEcmpWrite r s h
  | memberWrite r => exact sound_execMemberWrite r s h
  | lagWrite r => exact sound_execLagWrite r s h
  | learnAck r => exact sound_execLearnAck r s h
  | dump r => exact sound_execDump r s h
  | dumpRecord => exact sound_execDumpRecord s h
  | learnNotify => exact sound_execLearnNotify s h
  | learnHoldExpiry => exact sound_execLearnHoldExpiry s h
  | ageSweepVisit => exact sound_execAgeSweepVisit s h
  | tblClearStart a => exact sound_execTblClearStart a s h
  | tblClearDone => exact sound_execTblClearDone s h
  | xbarCellSend idx => exact sound_execXbarCellSend idx s h
  | xbarMatch p => exact sound_execXbarMatch p s h
  | xbarCellArrive p o dmg e => exact sound_execXbarCellArrive p o dmg e s h
  | xbarReseqTimeout o idx => exact sound_execXbarReseqTimeout o idx s h
  | xbarPlaneDrained p => exact sound_execXbarPlaneDrained p s h
  | xbarFaultClear a v => exact sound_execXbarFaultClear a v s h
  | bufCarve a => exact sound_execBufCarve a s h
  | bufCarveDone => exact sound_execBufCarveDone s h
  | spillUnit k e => exact sound_execSpillUnit k e s h
  | spillUnitClose k => exact sound_execSpillUnitClose k s h
  | refillUnit k e => exact sound_execRefillUnit k e s h
  | scrubVisit pass e => exact sound_execScrubVisit pass e s h
  | shaperRefresh idx => exact sound_execShaperRefresh idx s h
  | policerRefresh idx => exact sound_execPolicerRefresh idx s h
  | wxSample => exact sound_execWxSample s h
  | skyCtrlWrite a v => exact sound_execSkyCtrlWrite a v s h
  | skyTxEnWrite a v => exact sound_execSkyTxEnWrite a v s h
  | laneEnWrite a idx v => exact sound_execLaneEnWrite a idx v s h
  | mapArm a => exact sound_execMapArm a s h
  | mapArmCheckDone => exact sound_execMapArmCheckDone s h
  | mapDisarm a => exact sound_execMapDisarm a s h
  | mapApply => exact sound_execMapApply s h
  | epochStart root oven => exact sound_execEpochStart root oven s h
  | syncSlotTx n => exact sound_execSyncSlotTx n s h
  | slotFill p => exact sound_execSlotFill p s h
  | dataSlotTx n bad => exact sound_execDataSlotTx n bad s h
  | skyBurstRx n b => exact sound_execSkyBurstRx n b s h
  | deskewRelease => exact sound_execDeskewRelease s h
  | reseqHorizonExpiry src c => exact sound_execReseqHorizonExpiry src c s h
  | peerTimeout d => exact sound_execPeerTimeout d s h
  | laneTxFault n => exact sound_execLaneTxFault n s h
  | laneRxlos n => exact sound_execLaneRxlos n s h
  | joinStep => exact sound_execJoinStep s h
  | foundReadySet => exact sound_execFoundReadySet s h
  | foundStep a => exact sound_execFoundStep a s h
  | leaseTakeover => exact sound_execLeaseTakeover s h
  | leaseRenew => exact sound_execLeaseRenew s h
  | leaseLapse => exact sound_execLeaseLapse s h
  | takeoverCheck => exact sound_execTakeoverCheck s h
  | lullEntry => exact sound_execLullEntry s h
  | lullLimit => exact sound_execLullLimit s h
  | taiOffsetWrite a v => exact sound_execTaiOffsetWrite a v s h
  | keeperRestart => exact sound_execKeeperRestart s h
  | mboxStatus m busMv => exact sound_execMboxStatus m busMv s h
  | mboxCommitShedOrder m flashOk => exact sound_execMboxCommitShedOrder m flashOk s h
  | mboxReadShedOrder m => exact sound_execMboxReadShedOrder m s h
  | mboxAppReset m => exact sound_execMboxAppReset m s h
  | mboxReadLog m => exact sound_execMboxReadLog m s h
  | mboxSetFirstAdmin m => exact sound_execMboxSetFirstAdmin m s h
  | redfishRequest authed op => exact sound_execRedfishRequest authed op s h
  | redfishGracefulRestart authed => exact sound_execRedfishGracefulRestart authed s h
  | updateServicePush authed image => exact sound_execUpdateServicePush authed image s h
  | ringOwnerWrite a v => exact sound_execRingOwnerWrite a v s h
  | pcieLinkDown => exact sound_execPcieLinkDown s h
  | pcieLinkUp width bme => exact sound_execPcieLinkUp width bme s h
  | idlPolicerRefresh => exact sound_execIdlPolicerRefresh s h
  | intPendClear a idx v => exact sound_execIntPendClear a idx v s h
  | doorbell a r t stores => exact sound_execDoorbell a r t stores s h
  | cplDoorbell a r t => exact sound_execCplDoorbell a r t s h
  | ringFetch r => exact sound_execRingFetch r s h
  | txFrameInject g => exact sound_execTxFrameInject g s h
  | completionWrite r => exact sound_execCompletionWrite r s h
  | ringEnable a r => exact sound_execRingEnable a r s h
  | ringDisable a r => exact sound_execRingDisable a r s h
  | ringIdle r => exact sound_execRingIdle r s h
  | winCfgWrite a w reg v => exact sound_execWinCfgWrite a w reg v s h
  | notifyRecordWrite => exact sound_execNotifyRecordWrite s h
  | faultBacklogDeliver => exact sound_execFaultBacklogDeliver s h
  | irqModTimer r => exact sound_execIrqModTimer r s h
  | txDescriptor r => exact sound_execTxDescriptor r s h
  | rxBufferDescriptor r => exact sound_execRxBufferDescriptor r s h
  | registerWrite a ali size off v => exact sound_execRegisterWrite a ali size off v s h
  | counterRead a ali size off => exact sound_execCounterRead a ali size off s h
  | holdingPairRead a ali size off => exact sound_execHoldingPairRead a ali size off s h
  | farReadTimeout => exact sound_execFarReadTimeout s h
  | slowWriteDone b ack => exact sound_execSlowWriteDone b ack s h
  | keyWrite a v => exact sound_execKeyWrite a v s h
  | keyTimeout a => exact sound_execKeyTimeout a s h
  | updateStrobeHi a mask => exact sound_execUpdateStrobeHi a mask s h
  | updateStrobe a mask => exact sound_execUpdateStrobe a mask s h
  | snapshotTake a clear view => exact sound_execSnapshotTake a clear view s h
  | snapshotDone => exact sound_execSnapshotDone s h
  | resetKindNone a kind => exact sound_execResetKindNone a kind s h
  | coldReset a => exact sound_execColdReset a s h
  | warmReset a => exact sound_execWarmReset a s h
  | appDomainReset a => exact sound_execAppDomainReset a s h
  | blockReset a block => exact sound_execBlockReset a block s h
  | fuseBlow a bit => exact sound_execFuseBlow a bit s h
  | fuseBlowDone blown => exact sound_execFuseBlowDone blown s h
  | railSetWrite a idx v => exact sound_execRailSetWrite a idx v s h
  | optLaneBiasWrite a lane v => exact sound_execOptLaneBiasWrite a lane v s h
  | powerOn c absentMs => exact sound_execPowerOn c absentMs s h
  | railFault rail inService c => exact sound_execRailFault rail inService c s h
  | railRetry => exact sound_execRailRetry s h
  | thermalEvaluation c => exact sound_execThermalEvaluation c s h
  | powerLimitClear => exact sound_execPowerLimitClear s h
  | steepTimeout => exact sound_execSteepTimeout s h
  | thermalTrip c => exact sound_execThermalTrip c s h
  | mainsLoss c => exact sound_execMainsLoss c s h
  | dusk c => exact sound_execDusk c s h
  | duskForwardStop => exact sound_execDuskForwardStop s h
  | duskCheckpointDone => exact sound_execDuskCheckpointDone s h
  | counterCheckpoint => exact sound_execCounterCheckpoint s h
  | faultLogWrite flashOk => exact sound_execFaultLogWrite flashOk s h
  | quietAssert => exact sound_execQuietAssert s h
  | quietRelease => exact sound_execQuietRelease s h
  | fixtureResetRelease ms c => exact sound_execFixtureResetRelease ms c s h
  | recoveryHold => exact sound_execRecoveryHold s h
  | dawnInit => exact sound_execDawnInit s h
  | boot goodA goodB => exact sound_execBoot goodA goodB s h
  | dfuImageLoad image good => exact sound_execDfuImageLoad image good s h
  | trialExpiry => exact sound_execTrialExpiry s h
  | keeperFwLoad goodA goodB => exact sound_execKeeperFwLoad goodA goodB s h
  | keeperFwFallback => exact sound_execKeeperFwFallback s h
  | nvmRead a => exact sound_execNvmRead a s h
  | nvmWrite a => exact sound_execNvmWrite a s h
  | imageCommit a slot => exact sound_execImageCommit a slot s h
  | switch a slot => exact sound_execSwitch a slot s h
  | confirm a => exact sound_execConfirm a s h
  | cfgCommit a => exact sound_execCfgCommit a s h
  | run a arg => exact sound_execRun a arg s h
  | abort a => exact sound_execAbort a s h
  | nvmOpComplete e => exact sound_execNvmOpComplete e s h
  | bootSelWrite => exact sound_execBootSelWrite s h
  | windowBucketEnd k => exact sound_execWindowBucketEnd k s h
  | ledgerCheck => exact sound_execLedgerCheck s h
  | excuseExpiry => exact sound_execExcuseExpiry s h
  | hltRebase a => exact sound_execHltRebase a s h
  | ovenOscillatorReady => exact sound_execOvenOscillatorReady s h
  | duskRestart c => exact sound_execDuskRestart c s h
  | busCollapse => exact sound_execBusCollapse s h
  | msixEntryUnmask w => exact sound_execMsixEntryUnmask w s h
  | hostMemoryError addr e => exact sound_execHostMemoryError addr e s h

/-! ### Frames by masks and frames by lists -/

/-- The areas, in the order of their bits in a mask. -/
def areasByBit : List Area :=
  [.regs, .shadow, .cnts, .tot, .hold, .pairs, .now, .free, .out, .sys, .ctl, .host, .hlt, .pwr, .nvm, .cls, .time, .tbl, .leaf,
    .xbar, .buf, .tm, .sky, .pending]

/-- The areas, registers and counters of a mask are all named in a row of `touches`. -/
def Touch.within (T : Touch) (x : Touched) : Bool :=
  (areasByBit.zipIdx.all fun e => x.areas.contains e.1 || !T.a.testBit e.2)
    && ((List.range 240).all fun n => !T.r.testBit n || (regAt n).all x.regs.contains)
    && ((List.range 240).all fun n => !T.c.testBit n || (cntAt n).all x.cnts.contains)

theorem Touch.within_area {T : Touch} {x : Touched} (h : T.within x = true) {a : Area} {n : Nat}
    (hn : (a, n) ∈ areasByBit.zipIdx) (ha : a ∉ x.areas) : T.a.testBit n = false := by
  simp only [within, Bool.and_eq_true, List.all_eq_true, Bool.or_eq_true] at h
  simpa [ha] using h.1.1 (a, n) hn

theorem Touch.within_reg {T : Touch} {x : Touched} (h : T.within x = true) (hr : .regs ∉ x.areas) {r : Reg}
    (hT : T.hasR r) : r ∈ x.regs := by
  rcases hT with hT | ⟨n, hn, hb⟩
  · exact absurd hT (by rw [within_area h (n := 0) (by decide) hr]; decide)
  · simp only [within, Bool.and_eq_true, List.all_eq_true, List.mem_range, Bool.or_eq_true] at h
    simpa [hn, hb] using h.1.2 n (regAt_lt hn)

theorem Touch.within_counted {T : Touch} {x : Touched} (h : T.within x = true) {c : Cnt} {n : Nat}
    (hn : cntAt n = some c) (hb : T.c.testBit n = true) : c ∈ x.cnts := by
  simp only [within, Bool.and_eq_true, List.all_eq_true, List.mem_range, Bool.or_eq_true] at h
  simpa [hn, hb] using h.2 n (cntAt_lt hn)

theorem Touch.within_cnt {T : Touch} {x : Touched} (h : T.within x = true) (hc : .cnts ∉ x.areas) {c : Cnt}
    (hT : T.hasC c) : c ∈ x.cnts := by
  rcases hT with hT | ⟨n, hn, hb⟩
  · exact absurd hT (by rw [within_area h (n := 2) (by decide) hc]; decide)
  · exact within_counted h hn hb

end Sys2Proof.Machine
end

section
open Sys2Proof Sys2Proof.Machine

/-- Settles O5: a command keeps soundness (`sound_exec`), and so does a core clock. -/
theorem everyStepKeepsSound : Obligations.EveryStepKeepsSound := by
  intro s t h hst
  rcases hq : s.pending with _ | ⟨c, rest⟩
  · rw [step, hq] at hst
    cases hst
    exact sound_tick s h
  · rw [step, hq] at hst
    have hs : State.Sound { s with pending := rest } := { h with }
    exact sound_exec hs c t hst

/-- Settles O4: every map of the reset state is empty, so every register reads its reset value. -/
theorem resetState : Obligations.ResetState := by
  have reset (r : Reg) (i j : Nat) : State.reset.reg r i j = r.resetOf i j := rfl
  refine ⟨sound_State_reset, rfl, rfl, rfl, rfl, rfl, fun _ => rfl, reset, ?rings, ?ports, by decide⟩
  case rings =>
    intro r
    simp only [ringEn, headOf, tailOf, State.flag, State.fld, reset]
    revert r
    decide +kernel
  case ports =>
    intro p hp
    simp only [portUp, State.flag, State.fld, reset]
    revert p
    decide +kernel
end

section
/-!
SUPPORT. The totals since power-on (R397) under the commands that may change counters as a whole: such a command still
counts through its own counters only.
-/
namespace Sys2Proof.Machine

/-- The totals m have become n at elements of the counters of a mask only. -/
def TotKept (C : Nat) (m n : SMap Nat) : Prop :=
  ∀ q, (∀ c k, cntAt k = some c → C.testBit k = true → ¬ c.spans q) → SMap.ents n q = SMap.ents m q

theorem TotKept.refl (C : Nat) (m : SMap Nat) : TotKept C m m := fun _ _ => rfl

theorem TotKept.trans {C : Nat} {m n o : SMap Nat} (h : TotKept C m n) (k : TotKept C n o) : TotKept C m o :=
  fun q hq => (k q hq).trans (h q hq)

theorem TotKept.of_eq {C : Nat} {m n : SMap Nat} (e : n = m) : TotKept C m n := e ▸ .refl C n

/-- All that may change beside the counters as a whole and the totals, and the counters of a mask. -/
def totTouch (C : Nat) : Touch := ⟨0xFFFFF3, 2 ^ 240 - 1, C⟩

theorem totTouch_bits {C : Nat} : (totTouch C).a.testBit 2 = false ∧ (totTouch C).a.testBit 3 = false := by
  show Nat.testBit 0xFFFFF3 2 = false ∧ Nat.testBit 0xFFFFF3 3 = false
  decide

theorem totTouch_pwr {C : Nat} : 8192 &&& (totTouch C).a = 8192 := by
  show 8192 &&& 0xFFFFF3 = 8192
  decide

theorem Kept.totKept {C : Nat} {s t : State} (k : Kept (totTouch C) s t) : TotKept C s.tot t.tot := by
  intro q hq
  refine k.tot totTouch_bits.2 q (fun c hc => ?_)
  rcases hc with hc | ⟨n, hn, hb⟩
  · exact absurd hc (by rw [totTouch_bits.1]; decide)
  · exact hq c n hn hb

theorem totTouch_mono {C D : Nat} (h : C &&& D = C) : (totTouch C).le (totTouch D) := ⟨Nat.and_self _, Nat.and_self _, h⟩

/-- A mask without the counters as a whole, whose counters are among those of C. -/
theorem le_totTouch {U : Touch} {M C : Nat} (hC : M &&& C = M) (h : U.le (totTouch M) := by decide) : U.le (totTouch C) :=
  tr h (totTouch_mono hC)

/-- A mask without counters. -/
theorem le_totTouch0 {U : Touch} {C : Nat} (h : U.le (totTouch 0) := by decide) : U.le (totTouch C) :=
  tr h (totTouch_mono (Nat.zero_and C))

theorem totTouch_hasR (C : Nat) (r : Reg) : (totTouch C).hasR r := .inl (by decide : Nat.testBit 0xFFFFF3 0 = true)

/-! ### Resets of the dies -/

theorem fuseCut_tot (s : State) : (fuseCut s).tot = s.tot := by
  unfold fuseCut
  split <;> rfl

theorem showUsed_tot (s : State) : (showUsed s).tot = s.tot := by rw [showUsed, setFld_tot]

theorem showFixed_tot (s : State) : (showFixed s).tot = s.tot := by
  simp only [showFixed, apply_ite State.tot, setReg_tot, showUsed_tot, ite_self]

theorem switchReset_tot (rws : Bool) (s : State) : (switchReset rws s).tot = s.tot := by
  simp only [switchReset, showFixed_tot, fuseCut_tot]

theorem showOrder_tot (s : State) : (showOrder s).tot = s.tot :=
  foldl_holds (P := fun t : State => t.tot = s.tot) (fun _ _ e => e) rfl

theorem keeperReset_tot (s : State) : (keeperReset s).tot = s.tot := by
  unfold keeperReset showFlash showSlots
  dsimp only
  rw [showOrder_tot, setReg_tot, setReg_tot, setReg_tot]

theorem railsDown_tot (s : State) : (railsDown s).tot = s.tot := by
  unfold railsDown
  dsimp only
  rw [setFld_tot, setFld_tot, setFld_tot, switchReset_tot]

theorem allDown_tot (s : State) : (allDown s).tot = s.tot := by
  unfold allDown
  dsimp only
  rw [setReg_tot, keeperReset_tot, railsDown_tot]

/-! ### Commands that take the rails down -/

section
variable {C : Nat} (s : State)

theorem tot_busCollapse (hC : 0x40000030500000000000000000000000000000000000000000000000 &&& C =
    0x40000030500000000000000000000000000000000000000000000000) : TotKept C s.tot (busCollapse s).tot := by
  have stopped (n : Nat) : TotKept C s.tot (nvmStop 8 (writeLogs n s.fresh)).tot := (kept_nvmStop (le_totTouch hC) 8 _
    (kept_writeLogs le_totTouch0 n _ (kept_State_fresh le_totTouch0 _ (.refl _ s)))).totKept
  unfold busCollapse
  split
  · simpa only [allDown_tot] using stopped _
  · exact .refl C _

theorem tot_duskRails (done : Bool) (hC : 0x6000000000000000000000000000000000000000000000000000 &&& C =
    0x6000000000000000000000000000000000000000000000000000) : TotKept C s.tot (duskRails done s).tot := by
  have ended (u : State) : TotKept C u.tot (u.count (if done then .PWR_DUSK_CNT else .PWR_DUSK_INCOMPLETE_CNT)).tot :=
    (kept_State_count _ _ _ _ _ (.refl _ u) (ite_holds (P := Touch.hasC _)
      (hasC_of (M := totTouch _) ixC_PWR_DUSK_CNT (by decide) (totTouch_mono hC))
      (hasC_of (M := totTouch _) ixC_PWR_DUSK_INCOMPLETE_CNT (by decide) (totTouch_mono hC)))).totKept
  unfold duskRails
  dsimp only
  split
  · exact .of_eq ((allDown_tot _).trans (railsDown_tot s))
  · split
    · dsimp only
      exact .of_eq (railsDown_tot s)
    · split
      · exact (TotKept.of_eq (railsDown_tot s)).trans (ended _)
      · dsimp only
        exact .of_eq (by rw [setFld_tot, allDown_tot, railsDown_tot])

theorem tot_duskCheckpointDone (hC : 0x6000000000000000000000000000000000000000000000000000 &&& C =
    0x6000000000000000000000000000000000000000000000000000) : TotKept C s.tot (duskCheckpointDone s).tot := by
  unfold duskCheckpointDone
  split
  · exact .refl C _
  · split
    · refine TotKept.trans ?_ (tot_duskRails _ _ hC)
      dsimp only
      exact .of_eq (by rw [setFld_tot, setFld_tot])
    · exact .refl C _

end

/-! ### The snapshot -/

section
variable {C : Nat} (s : State)

theorem snapDone_tot : (snapDone s).tot = s.tot := by
  unfold snapDone
  split
  · dsimp only
    rw [setFld_tot, setFld_tot, setFld_tot]
  · rfl

theorem snapJoin_tot (clear : Bool) : (snapJoin clear s).tot = s.tot := by
  unfold snapJoin
  split <;> rfl

theorem snapshot_tot (clear : Bool) : (snapshot clear s).tot = s.tot := by
  unfold snapshot
  dsimp only
  rw [setFld_tot, setFld_tot]

theorem tot_snapCtrl (w : RegWrite) (hC : 0x800000000000000000000000000000000000000000000000 &&& C =
    0x800000000000000000000000000000000000000000000000) : TotKept C s.tot (snapCtrl w s).tot := by
  unfold snapCtrl
  dsimp only
  split
  · split
    · split
      · exact .of_eq (by rw [snapJoin_tot, setFld_tot])
      · exact (kept_logWrite (le_totTouch hC) _ _ s (.refl _ s)).totKept
    · exact .of_eq (by rw [snapshot_tot, setFld_tot])
  · exact .of_eq (setFld_tot ..)

end

/-! ### Reads -/

section
variable {C : Nat} (s : State)

theorem counterLow_tot (a : Agent) (side : Bool) (off : Nat) : (counterLow a side off s).2.tot = s.tot := by
  simp only [counterLow, apply_ite State.tot, capture, snapDone_tot, ite_self]

theorem readWord_tot (a : Agent) (side : Bool) (off : Nat) : (readWord a side off s).2.tot = s.tot := by
  unfold readWord
  split
  · rfl
  · split
    · exact counterLow_tot s a side off
    · split
      · rfl
      · split
        · split <;> rfl
        · split
          · rfl
          · dsimp only
            split <;> rfl

theorem takeRead_tot (x : FarRead) : (takeRead x s).tot = s.tot := by
  unfold takeRead
  dsimp only
  split
  · exact (readWord_tot _ _ _ _).trans (readWord_tot _ _ _ _)
  · split <;> exact readWord_tot _ _ _ _

theorem tot_issueRead (x : FarRead) (hC : 0x800000000000000000000000000000000000000000000000 &&& C =
    0x800000000000000000000000000000000000000000000000) : TotKept C s.tot (issueRead x s).tot := by
  unfold issueRead
  dsimp only
  split
  · exact .refl C _
  · split
    · exact (kept_logNear (le_totTouch hC) _ s (.refl _ s)).totKept
    · split
      · exact .of_eq (takeRead_tot s x)
      · split
        · exact .of_eq ((takeRead_tot _ x).trans (idlSend_tot ..))
        · exact .refl C _

end

end Sys2Proof.Machine
end

section
/-!
SUPPORT. The totals under the commands that write registers: resets, the paths of a write, and what the link has held.
-/
namespace Sys2Proof.Machine

/-- The counters that a reset request may count, and those that a register write may count. -/
abbrev resetCnts : Nat := 0x40000c35d07e74000020200000000018000024104407fffdc0c003f0
abbrev writeCnts : Nat := 0xf9000c35d07f7404d0bc240000000098000024104407fffdc1c003f0

/-- As `CheckedAbove`. -/
inductive CheckedToReads : Prop where
  | done

/-! ### Writes on their way -/

section
variable {C : Nat} {op : State → State}

theorem tot_far (hop : ∀ u, TotKept C u.tot (op u).tot) (w : RegWrite) (s : State) : TotKept C s.tot (far w op s).tot := by
  unfold far
  split
  · exact .refl C _
  · split
    · exact (TotKept.of_eq (idlSend_tot ..)).trans (hop _)
    · exact .refl C _

theorem setKey_tot (a : Agent) (k : Option Nat) (s : State) : (setKey a k s).tot = s.tot := by
  unfold setKey
  split <;> rfl

theorem noteKeeper_tot (w : RegWrite) (s : State) : (noteKeeper w s).tot = s.tot := by
  unfold noteKeeper
  split <;> rfl

theorem tot_guarded (hop : ∀ u, TotKept C u.tot (op u).tot) (hC : resetCnts &&& C = resetCnts) (w : RegWrite) (s : State) :
    TotKept C s.tot (guarded w op s).tot := by
  have noted : TotKept C s.tot (noteKeeper w (setKey w.agent none s)).tot :=
    .of_eq ((noteKeeper_tot _ _).trans (setKey_tot _ _ s))
  unfold guarded
  dsimp only
  split
  · split
    · exact noted.trans (kept_logAccess (le_totTouch hC) _ _ _ (.refl _ _)).totKept
    · exact noted.trans (hop _)
  · split
    · exact .refl C _
    · exact (kept_logNear (le_totTouch hC) _ s (.refl _ s)).totKept

end

/-! ### Resets -/

section
variable {C : Nat} (hC : resetCnts &&& C = resetCnts)
include hC

theorem tot_coldReset (agent : Nat) (s : State) : TotKept C s.tot (coldReset agent s).tot := by
  have dark : TotKept C s.tot (darken s).tot := (kept_darken (le_totTouch hC) s (.refl _ s)).totKept
  unfold coldReset noteReset
  dsimp only
  rw [setReg_tot, keeperReset_tot, switchReset_tot]
  exact dark

theorem tot_warmReset (agent : Nat) (s : State) : TotKept C s.tot (warmReset agent s).tot := by
  have dark : TotKept C s.tot (darken s).tot := (kept_darken (le_totTouch hC) s (.refl _ s)).totKept
  have lost (u : State) : (bootLost u).tot = u.tot := by
    unfold bootLost
    split
    · dsimp only
      rw [setReg_tot]
    · rfl
  unfold warmReset noteReset
  dsimp only
  rw [setReg_tot, lost, switchReset_tot]
  exact dark

theorem tot_resetCtrl (w : RegWrite) (s : State) : TotKept C s.tot (resetCtrl w s).tot := by
  unfold resetCtrl
  dsimp only
  split
  · exact .refl C _
  · split
    · split
      · exact (kept_logWrite (le_totTouch hC) _ _ s (.refl _ s)).totKept
      · exact (kept_logNear (le_totTouch hC) _ s (.refl _ s)).totKept
    · split
      · exact .refl C _
      · split
        · exact tot_coldReset hC _ s
        · split
          · exact tot_warmReset hC _ s
          · split
            · exact (kept_appReset (le_totTouch hC) _ s (.refl _ s)).totKept
            · exact (kept_blockReset (le_totTouch hC) _ _ s (.refl _ s)).totKept

theorem tot_resetIssue (w : RegWrite) (s : State) : TotKept C s.tot (resetIssue w s).tot := by
  unfold resetIssue
  split
  · exact tot_resetCtrl hC w s
  · exact tot_far (tot_resetCtrl hC w) w s

theorem tot_resetWrite (w : RegWrite) (s : State) : TotKept C s.tot (resetWrite w s).tot := by
  have issued (u : State) := tot_guarded (tot_resetIssue hC w) hC w u
  unfold resetWrite
  split
  · split
    · exact issued _
    · exact issued s
  · exact issued s

theorem tot_resetValue (a : Agent) (v : Nat) (s : State) : TotKept C s.tot (resetValue a v s).tot := tot_resetWrite hC _ s

end

/-- The counters that a rail fault may count. -/
abbrev railCnts : Nat := 0x40080034500000000008000000000000000000000000000000000000

theorem tot_railFault {C : Nat} (hC : railCnts &&& C = railCnts) (rail : Nat) (inService : Bool) (c : Climate) (s : State) :
    TotKept C s.tot (railFault rail inService c s).tot := by
  have counted : Kept (totTouch C) s (keeperEvent 1 (s.count .PWR_RAIL_FAULT_CNT) 0 rail) :=
    kept_keeperEvent le_totTouch0 _ _ _ _ (kept_State_count _ _ _ _ _ (.refl _ s)
      (hasC_of (M := totTouch railCnts) ixC_PWR_RAIL_FAULT_CNT (by decide) (totTouch_mono hC)))
  unfold railFault
  split
  · exact .refl C _
  · dsimp only
    rw [apply_ite State.tot, railsDown_tot, ← apply_ite State.tot]
    have failed (p : PwrSt) := kept_up8192 (x_pwr := p) totTouch_pwr counted
    have shown {b : Prop} [Decidable b] (p : PwrSt) := ite_holds (P := Kept (totTouch C) s) (c := b)
      (kept_State_setFld le_totTouch0 _ .PWR_STATUS_RAIL_FAULT 1 0 0 (failed p) (totTouch_hasR C _)) (failed p)
    exact (ite_holds (P := Kept (totTouch C) s) (kept_startDusk (le_totTouch hC) _ _ _ (shown _))
      (kept_nvmStop (le_totTouch hC) _ _ (shown _))).totKept

/-- As `CheckedAbove`. -/
inductive CheckedToResets : Prop where
  | done

/-! ### Register writes -/

section
variable {C : Nat} (hC : writeCnts &&& C = writeCnts)
include hC

theorem tot_sysWrite (r : Reg) (i j : Nat) (w : RegWrite) (s : State) : TotKept C s.tot (sysWrite r i j w s).tot := by
  have hR : resetCnts &&& C = resetCnts := land_le (by decide) hC
  unfold sysWrite
  split
  · split
    · exact (kept_clearFault (le_totTouch hC) s (.refl _ s)).totKept
    · exact .refl C _
  · split
    · exact .refl C _
    · split
      · exact (kept_strobe (le_totTouch hC) _ s (.refl _ s)).totKept
      · split
        · exact tot_snapCtrl s w (land_le (by decide) hC)
        · split
          · split
            · exact (kept_refused (le_totTouch hC) w s (.refl _ s)).totKept
            · split
              · exact (kept_headlessReq (le_totTouch hC) s (.refl _ s)).totKept
              · split
                · exact (kept_headlessExit (le_totTouch hC) _ s (.refl _ s)).totKept
                · exact .refl C _
          · split
            · exact tot_resetCtrl hR w s
            · split
              · exact (kept_fuseCtrl (le_totTouch hC) w s (.refl _ s)).totKept
              · exact (kept_plain (le_totTouch hC) _ _ _ _ s (totTouch_hasR C r) (.refl _ s)).totKept

theorem tot_regWrite (r : Reg) (i j : Nat) (w : RegWrite) (s : State) : TotKept C s.tot (regWrite r i j w s).tot := by
  have hr := totTouch_hasR C r
  have same : Kept (totTouch C) s s := .refl _ s
  have kept_p : Kept (totTouch C) s (plain r i j w.val s) := kept_plain (le_totTouch hC) _ _ _ _ s hr same
  have either {b : Prop} [Decidable b] {u : State} (h : Kept (totTouch C) s u) :
      TotKept C s.tot (if b then u else plain r i j w.val s).tot :=
    (ite_holds (P := Kept (totTouch C) s) h kept_p).totKept
  unfold regWrite
  split
  case h_1 => exact tot_sysWrite hC r i j w s
  case h_2 => exact (kept_leafWrite (le_totTouch hC) _ _ _ _ s hr same).totKept
  case h_3 => exact (kept_tblWrite (le_totTouch hC) _ _ _ _ s hr same).totKept
  case h_4 => exact (kept_xbarWrite (le_totTouch hC) _ _ _ _ s hr same).totKept
  case h_5 =>
    have used := kept_showUsed le_totTouch0 _ kept_p
    exact (ite_holds (P := Kept (totTouch C) s) (kept_carveCtrl (le_totTouch hC) w s same)
      (ite_holds (P := Kept (totTouch C) s) used kept_p)).totKept
  case h_6 => exact either (kept_refused (le_totTouch hC) w s same)
  case h_7 => exact (kept_skyWrite (le_totTouch hC) _ _ _ _ s hr same).totKept
  case h_8 => exact (kept_skyWrite (le_totTouch hC) _ _ _ _ s hr same).totKept
  case h_9 => exact (kept_hostWriteReg (le_totTouch hC) _ _ _ _ s hr same).totKept
  case h_10 => exact (ite_holds (P := Kept (totTouch C) s) (kept_hltRebase le_totTouch0 _ kept_p) kept_p).totKept
  case h_11 => exact either (kept_optWrite (le_totTouch hC) w s same)
  case h_12 => exact either (kept_ringOwner (le_totTouch hC) w s same)
  case h_13 => exact either (kept_railWrite (le_totTouch hC) w _ s same)
  case h_14 => exact (kept_keepWrite (le_totTouch hC) _ _ _ _ s hr same).totKept
  case h_15 => exact (kept_nvmWriteReg (le_totTouch hC) _ _ _ _ s hr same).totKept
  case h_16 => exact kept_p.totKept

theorem tot_takeWrite (w : RegWrite) (s : State) : TotKept C s.tot (takeWrite w s).tot := by
  have same : Kept (totTouch C) s s := .refl _ s
  have refusal : TotKept C s.tot (if isFar w.off then refused w s else refusedNear w s).tot :=
    (ite_holds (P := Kept (totTouch C) s) (kept_refused (le_totTouch hC) w s same)
      (kept_refusedNear (le_totTouch hC) w s same)).totKept
  unfold takeWrite
  split
  · split
    · split
      · exact .refl C _
      · exact refusal
    · exact (ite_holds (P := Kept (totTouch C) s) (kept_logWrite (le_totTouch hC) _ _ s same)
        (kept_logNear (le_totTouch hC) _ s same)).totKept
  · split
    · exact .refl C _
    · split
      · exact refusal
      · split
        · exact tot_regWrite hC _ _ _ _ s
        · exact tot_regWrite hC _ _ _ _ s

theorem tot_issueWrite (w : RegWrite) (s : State) : TotKept C s.tot (issueWrite w s).tot := by
  have hR : resetCnts &&& C = resetCnts := land_le (by decide) hC
  have same : Kept (totTouch C) s s := .refl _ s
  have go (u : State) : TotKept C u.tot ((if isFar w.off then far w (takeWrite w) else near (takeWrite w)) u).tot := by
    split
    · exact tot_far (tot_takeWrite hC w) w u
    · exact tot_takeWrite hC w u
  unfold issueWrite
  split
  · exact (ite_holds (P := Kept (totTouch C) s) (kept_keyWrite (le_totTouch hC) w s same)
      (kept_refusedNear (le_totTouch hC) w s same)).totKept
  · split
    · exact tot_resetWrite hR w s
    · dsimp only
      split
      · exact tot_guarded go hR w s
      · exact go s

theorem tot_registerWrite (a : Agent) (ali size off : Nat) (v : DWord) (s : State) :
    TotKept C s.tot (registerWrite a ali size off v s).tot := by
  have logged (f : AccFault) : TotKept C s.tot (logNear f s).tot :=
    (kept_logNear (le_totTouch hC) f s (.refl _ s)).totKept
  unfold registerWrite
  dsimp only
  split
  · exact .refl C _
  · split
    · exact logged _
    · split
      · split
        · exact .refl C _
        · exact logged _
      · split
        · exact tot_issueWrite hC _ s
        · exact (tot_issueWrite hC _ s).trans (tot_issueWrite hC _ _)

/-- As `CheckedAbove`. -/
inductive CheckedToWrites : Prop where
  | done

/-! ### What the link has held -/

theorem tot_deliverHeld (s : State) : TotKept C s.tot (deliverHeld s).tot := by
  have written (u : State) (w : RegWrite) : TotKept C u.tot (takeWrite w (idlSend 0 0 1 0 u)).tot :=
    (TotKept.of_eq (idlSend_tot ..)).trans (tot_takeWrite hC w _)
  have read (u : State) (x : FarRead) : (takeRead x (if inKey x.off then u else idlSend 0 0 1 1 u)).tot = u.tot := by
    rw [takeRead_tot]
    split
    · rfl
    · exact idlSend_tot ..
  unfold deliverHeld
  refine foldl_holds (P := fun u : State => TotKept C s.tot u.tot) (fun u x h => h.trans (.of_eq (read u x))) ?_
  exact foldl_holds (P := fun u : State => TotKept C s.tot u.tot) (fun u w h => h.trans (written u w)) (.refl C _)

/-- The link comes up and delivers what it has held. -/
theorem tot_linkBack (s : State) : TotKept C s.tot (deliverHeld (idlFlush (idlUp s))).tot :=
  (kept_idlFlush (le_totTouch hC) _ (kept_idlUp le_totTouch0 s (.refl _ s))).totKept.trans (tot_deliverHeld hC _)

theorem tot_idlRetrainDone (s : State) : TotKept C s.tot (running idlRetrainDone s).tot := by
  unfold running idlRetrainDone
  split
  · exact .refl C _
  · split
    · exact .refl C _
    · exact tot_linkBack hC s

theorem tot_dawnInit (s : State) : TotKept C s.tot (dawnInit s).tot := by
  have rebuilt : TotKept C s.tot ((retired s true).foldl (fun s t => markRetired 4 t s) s).tot :=
    (foldl_holds (P := Kept (totTouch C) s) (fun u t h => kept_markRetired le_totTouch0 4 t u h) (.refl _ s)).totKept
  unfold dawnInit
  dsimp only
  split
  · refine TotKept.trans ?_ (tot_linkBack hC _)
    dsimp only
    exact rebuilt
  · exact .refl C _

end

end Sys2Proof.Machine
end

section
/-!
SUPPORT. The row of `touches` of every command holds: nothing changes but what it names.
-/
namespace Sys2Proof.Machine

/-- A frame by masks, with the totals, is a frame by lists. -/
theorem Kept.changes {T : Touch} {x : Touched} {s t : State} (k : Kept T s t) (hs : s.Sound) (ht : t.Sound)
    (hw : T.within x = true) (hT : T.a.testBit 3 = false → TotKept T.c s.tot t.tot) :
    s.Changes t x.areas x.regs x.cnts where
  area a ha := agree_of_kept k a (by cases a <;> exact Touch.within_area hw (by decide) ha)
  regs ha q hq := SMap.get?_of_ents ht.regs hs.regs
    (k.regs (Touch.within_area hw (by decide) ha) q (fun r hr => hq r (Touch.within_reg hw ha hr)))
  cnts ha q hq := SMap.get?_of_ents ht.cnts hs.cnts
    (k.cnts (Touch.within_area hw (by decide) ha) q (fun c hc => hq c (Touch.within_cnt hw ha hc)))
  tot ha q hq := SMap.get?_of_ents ht.tot hs.tot
    (hT (Touch.within_area hw (by decide) ha) q (fun c n hn hb => hq c (Touch.within_counted hw hn hb)))

/-- A mask that spares the counters as a whole says the same of the totals. -/
theorem Kept.spared_tot {T : Touch} {s t : State} (k : Kept T s t) (h2 : T.a.testBit 2 = false) (h3 : T.a.testBit 3 = false) :
    TotKept T.c s.tot t.tot := by
  intro q hq
  refine k.tot h3 q (fun c hc => ?_)
  rcases hc with hc | ⟨n, hn, hb⟩
  · rw [h2] at hc
    cases hc
  · exact hq c n hn hb

section
variable {T : Touch} {c : Instr} {s t : State} (k : ResKept T s (exec c s))
include k

/-- The row of a command that changes no counters as a whole, or all totals. -/
theorem ResKept.row (h : s.Sound) (e : exec c s = .next t)
    (hw : (T.within (touches c) && (!T.a.testBit 2 || T.a.testBit 3)) = true := by dsimp only [touches]; decide +kernel) :
    s.Changes t (touches c).areas (touches c).regs (touches c).cnts := by
  rw [Bool.and_eq_true] at hw
  obtain ⟨hw, hb⟩ := hw
  refine (k t e).changes h (sound_exec h c t e) hw (fun h3 => (k t e).spared_tot ?_ h3)
  simpa [h3] using hb

/-- The row of a command that changes counters as a whole, and counts in the totals. -/
theorem ResKept.rowTot {u : State} (hu : exec c s = .next u) (hT : TotKept T.c s.tot u.tot) (h : s.Sound)
    (e : exec c s = .next t) (hw : T.within (touches c) = true := by dsimp only [touches]; decide +kernel) :
    s.Changes t (touches c).areas (touches c).regs (touches c).cnts := by
  obtain rfl : u = t := Host.Outcome.next.inj (hu.symm.trans e)
  exact (k u e).changes h (sound_exec h c u e) hw (fun _ => hT)

end

/-- The row of every command: the mask of its frame lies within the row. -/
theorem exec_changes {s t : State} (h : s.Sound) (c : Instr) (ran : exec c s = .next t) :
    s.Changes t (touches c).areas (touches c).regs (touches c).cnts := by
  cases c with
  | headlessReq a => exact ResKept.row (kept_execHeadlessReq (le_same _) a s (.refl _ s)) h ran
  | headlessEntryComplete => exact ResKept.row (kept_execHeadlessEntryComplete (le_same _) s (.refl _ s)) h ran
  | headlessExit a => exact ResKept.row (kept_execHeadlessExit (le_same _) a s (.refl _ s)) h ran
  | appResetMessage => exact ResKept.row (kept_execAppResetMessage (le_same _) s (.refl _ s)) h ran
  | idlTrainingLoss => exact ResKept.row (kept_execIdlTrainingLoss (le_same _) s (.refl _ s)) h ran
  | idlLossTimeout => exact ResKept.row (kept_execIdlLossTimeout (le_same _) s (.refl _ s)) h ran
  | idlFlitReplay => exact ResKept.row (kept_execIdlFlitReplay (le_same _) s (.refl _ s)) h ran
  | idlRetrainDone =>
    exact ResKept.rowTot (kept_execIdlRetrainDone (le_same _) s (.refl _ s)) rfl
      (tot_idlRetrainDone (by decide) s) h ran
  | headlessBacklogDeliver => exact ResKept.row (kept_execHeadlessBacklogDeliver (le_same _) s (.refl _ s)) h ran
  | leafGroupRestart a g => exact ResKept.row (kept_execLeafGroupRestart (le_same _) a g s (.refl _ s)) h ran
  | groupRestartDone g => exact ResKept.row (kept_execGroupRestartDone (le_same _) g s (.refl _ s)) h ran
  | laneAlign n m1 m2 apart => exact ResKept.row (kept_execLaneAlign (le_same _) n m1 m2 apart s (.refl _ s)) h ran
  | laneAlignLoss l => exact ResKept.row (kept_execLaneAlignLoss (le_same _) l s (.refl _ s)) h ran
  | linkUp p skewNs => exact ResKept.row (kept_execLinkUp (le_same _) p skewNs s (.refl _ s)) h ran
  | linkDown p f => exact ResKept.row (kept_execLinkDown (le_same _) p f s (.refl _ s)) h ran
  | flapHoldExpiry p => exact ResKept.row (kept_execFlapHoldExpiry (le_same _) p s (.refl _ s)) h ran
  | leafRxFrame p f fec => exact ResKept.row (kept_execLeafRxFrame (le_same _) p f fec s (.refl _ s)) h ran
  | pauseFrameRx p f => exact ResKept.row (kept_execPauseFrameRx (le_same _) p f s (.refl _ s)) h ran
  | pauseExpiry p c => exact ResKept.row (kept_execPauseExpiry (le_same _) p c s (.refl _ s)) h ran
  | pauseFrameTx p => exact ResKept.row (kept_execPauseFrameTx (le_same _) p s (.refl _ s)) h ran
  | pauseRepeatTimer p c => exact ResKept.row (kept_execPauseRepeatTimer (le_same _) p c s (.refl _ s)) h ran
  | pauseWatchdog p c => exact ResKept.row (kept_execPauseWatchdog (le_same _) p c s (.refl _ s)) h ran
  | pauseWdHoldoffEnd p c => exact ResKept.row (kept_execPauseWdHoldoffEnd (le_same _) p c s (.refl _ s)) h ran
  | portTxStart p bad => exact ResKept.row (kept_execPortTxStart (le_same _) p bad s (.refl _ s)) h ran
  | leafTxComplete p bad => exact ResKept.row (kept_execLeafTxComplete (le_same _) p bad s (.refl _ s)) h ran
  | ctStartDecay p => exact ResKept.row (kept_execCtStartDecay (le_same _) p s (.refl _ s)) h ran
  | doze a p => exact ResKept.row (kept_execDoze (le_same _) a p s (.refl _ s)) h ran
  | wake a p => exact ResKept.row (kept_execWake (le_same _) a p s (.refl _ s)) h ran
  | wakePatternSent p => exact ResKept.row (kept_execWakePatternSent (le_same _) p s (.refl _ s)) h ran
  | wakePatternDetect p seen times => exact ResKept.row (kept_execWakePatternDetect (le_same _) p seen times s (.refl _ s)) h ran
  | ruleKey r => exact ResKept.row (kept_execRuleKey (le_same _) r s (.refl _ s)) h ran
  | ruleMask r => exact ResKept.row (kept_execRuleMask (le_same _) r s (.refl _ s)) h ran
  | ruleAction r => exact ResKept.row (kept_execRuleAction (le_same _) r s (.refl _ s)) h ran
  | ruleValid r => exact ResKept.row (kept_execRuleValid (le_same _) r s (.refl _ s)) h ran
  | editWrite r => exact ResKept.row (kept_execEditWrite (le_same _) r s (.refl _ s)) h ran
  | templateWrite r => exact ResKept.row (kept_execTemplateWrite (le_same _) r s (.refl _ s)) h ran
  | macInsert r => exact ResKept.row (kept_execMacInsert (le_same _) r s (.refl _ s)) h ran
  | macDelete r => exact ResKept.row (kept_execMacDelete (le_same _) r s (.refl _ s)) h ran
  | hostInsert r => exact ResKept.row (kept_execHostInsert (le_same _) r s (.refl _ s)) h ran
  | hostDelete r => exact ResKept.row (kept_execHostDelete (le_same _) r s (.refl _ s)) h ran
  | lpmInsert r => exact ResKept.row (kept_execLpmInsert (le_same _) r s (.refl _ s)) h ran
  | lpmDelete r => exact ResKept.row (kept_execLpmDelete (le_same _) r s (.refl _ s)) h ran
  | filterWrite r => exact ResKept.row (kept_execFilterWrite (le_same _) r s (.refl _ s)) h ran
  | nhWrite r => exact ResKept.row (kept_execNhWrite (le_same _) r s (.refl _ s)) h ran
  | ecmpWrite r => exact ResKept.row (kept_execEcmpWrite (le_same _) r s (.refl _ s)) h ran
  | memberWrite r => exact ResKept.row (kept_execMemberWrite (le_same _) r s (.refl _ s)) h ran
  | lagWrite r => exact ResKept.row (kept_execLagWrite (le_same _) r s (.refl _ s)) h ran
  | learnAck r => exact ResKept.row (kept_execLearnAck (le_same _) r s (.refl _ s)) h ran
  | dump r => exact ResKept.row (kept_execDump (le_same _) r s (.refl _ s)) h ran
  | dumpRecord => exact ResKept.row (kept_execDumpRecord (le_same _) s (.refl _ s)) h ran
  | learnNotify => exact ResKept.row (kept_execLearnNotify (le_same _) s (.refl _ s)) h ran
  | learnHoldExpiry => exact ResKept.row (kept_execLearnHoldExpiry (le_same _) s (.refl _ s)) h ran
  | ageSweepVisit => exact ResKept.row (kept_execAgeSweepVisit (le_same _) s (.refl _ s)) h ran
  | tblClearStart a => exact ResKept.row (kept_execTblClearStart (le_same _) a s (.refl _ s)) h ran
  | tblClearDone => exact ResKept.row (kept_execTblClearDone (le_same _) s (.refl _ s)) h ran
  | xbarCellSend idx => exact ResKept.row (kept_execXbarCellSend (le_same _) idx s (.refl _ s)) h ran
  | xbarMatch p => exact ResKept.row (kept_execXbarMatch (le_same _) p s (.refl _ s)) h ran
  | xbarCellArrive p o dmg e => exact ResKept.row (kept_execXbarCellArrive (le_same _) p o dmg e s (.refl _ s)) h ran
  | xbarReseqTimeout o idx => exact ResKept.row (kept_execXbarReseqTimeout (le_same _) o idx s (.refl _ s)) h ran
  | xbarPlaneDrained p => exact ResKept.row (kept_execXbarPlaneDrained (le_same _) p s (.refl _ s)) h ran
  | xbarFaultClear a v => exact ResKept.row (kept_execXbarFaultClear (le_same _) a v s (.refl _ s)) h ran
  | bufCarve a => exact ResKept.row (kept_execBufCarve (le_same _) a s (.refl _ s)) h ran
  | bufCarveDone => exact ResKept.row (kept_execBufCarveDone (le_same _) s (.refl _ s)) h ran
  | spillUnit k e => exact ResKept.row (kept_execSpillUnit (le_same _) k e s (.refl _ s)) h ran
  | spillUnitClose k => exact ResKept.row (kept_execSpillUnitClose (le_same _) k s (.refl _ s)) h ran
  | refillUnit k e => exact ResKept.row (kept_execRefillUnit (le_same _) k e s (.refl _ s)) h ran
  | scrubVisit pass e => exact ResKept.row (kept_execScrubVisit (le_same _) pass e s (.refl _ s)) h ran
  | shaperRefresh idx => exact ResKept.row (kept_execShaperRefresh (le_same _) idx s (.refl _ s)) h ran
  | policerRefresh idx => exact ResKept.row (kept_execPolicerRefresh (le_same _) idx s (.refl _ s)) h ran
  | wxSample => exact ResKept.row (kept_execWxSample (le_same _) s (.refl _ s)) h ran
  | skyCtrlWrite a v => exact ResKept.row (kept_execSkyCtrlWrite (le_same _) a v s (.refl _ s)) h ran
  | skyTxEnWrite a v => exact ResKept.row (kept_execSkyTxEnWrite (le_same _) a v s (.refl _ s)) h ran
  | laneEnWrite a idx v => exact ResKept.row (kept_execLaneEnWrite (le_same _) a idx v s (.refl _ s)) h ran
  | mapArm a => exact ResKept.row (kept_execMapArm (le_same _) a s (.refl _ s)) h ran
  | mapArmCheckDone => exact ResKept.row (kept_execMapArmCheckDone (le_same _) s (.refl _ s)) h ran
  | mapDisarm a => exact ResKept.row (kept_execMapDisarm (le_same _) a s (.refl _ s)) h ran
  | mapApply => exact ResKept.row (kept_execMapApply (le_same _) s (.refl _ s)) h ran
  | epochStart root oven => exact ResKept.row (kept_execEpochStart (le_same _) root oven s (.refl _ s)) h ran
  | syncSlotTx n => exact ResKept.row (kept_execSyncSlotTx (le_same _) n s (.refl _ s)) h ran
  | slotFill p => exact ResKept.row (kept_execSlotFill (le_same _) p s (.refl _ s)) h ran
  | dataSlotTx n bad => exact ResKept.row (kept_execDataSlotTx (le_same _) n bad s (.refl _ s)) h ran
  | skyBurstRx n b => exact ResKept.row (kept_execSkyBurstRx (le_same _) n b s (.refl _ s)) h ran
  | deskewRelease => exact ResKept.row (kept_execDeskewRelease (le_same _) s (.refl _ s)) h ran
  | reseqHorizonExpiry src c => exact ResKept.row (kept_execReseqHorizonExpiry (le_same _) src c s (.refl _ s)) h ran
  | peerTimeout d => exact ResKept.row (kept_execPeerTimeout (le_same _) d s (.refl _ s)) h ran
  | laneTxFault n => exact ResKept.row (kept_execLaneTxFault (le_same _) n s (.refl _ s)) h ran
  | laneRxlos n => exact ResKept.row (kept_execLaneRxlos (le_same _) n s (.refl _ s)) h ran
  | joinStep => exact ResKept.row (kept_execJoinStep (le_same _) s (.refl _ s)) h ran
  | foundReadySet => exact ResKept.row (kept_execFoundReadySet (le_same _) s (.refl _ s)) h ran
  | foundStep a => exact ResKept.row (kept_execFoundStep (le_same _) a s (.refl _ s)) h ran
  | leaseTakeover => exact ResKept.row (kept_execLeaseTakeover (le_same _) s (.refl _ s)) h ran
  | leaseRenew => exact ResKept.row (kept_execLeaseRenew (le_same _) s (.refl _ s)) h ran
  | leaseLapse => exact ResKept.row (kept_execLeaseLapse (le_same _) s (.refl _ s)) h ran
  | takeoverCheck => exact ResKept.row (kept_execTakeoverCheck (le_same _) s (.refl _ s)) h ran
  | lullEntry => exact ResKept.row (kept_execLullEntry (le_same _) s (.refl _ s)) h ran
  | lullLimit => exact ResKept.row (kept_execLullLimit (le_same _) s (.refl _ s)) h ran
  | taiOffsetWrite a v => exact ResKept.row (kept_execTaiOffsetWrite (le_same _) a v s (.refl _ s)) h ran
  | keeperRestart => exact ResKept.row (kept_execKeeperRestart (le_same _) s (.refl _ s)) h ran
  | mboxStatus m busMv => exact ResKept.row (kept_execMboxStatus (le_same _) m busMv s (.refl _ s)) h ran
  | mboxCommitShedOrder m flashOk => exact ResKept.row (kept_execMboxCommitShedOrder (le_same _) m flashOk s (.refl _ s)) h ran
  | mboxReadShedOrder m => exact ResKept.row (kept_execMboxReadShedOrder (le_same _) m s (.refl _ s)) h ran
  | mboxAppReset m => exact ResKept.row (kept_execMboxAppReset (le_same _) m s (.refl _ s)) h ran
  | mboxReadLog m => exact ResKept.row (kept_execMboxReadLog (le_same _) m s (.refl _ s)) h ran
  | mboxSetFirstAdmin m => exact ResKept.row (kept_execMboxSetFirstAdmin (le_same _) m s (.refl _ s)) h ran
  | redfishRequest authed op => exact ResKept.row (kept_execRedfishRequest (le_same _) authed op s (.refl _ s)) h ran
  | redfishGracefulRestart authed => exact ResKept.row (kept_execRedfishGracefulRestart (le_same _) authed s (.refl _ s)) h ran
  | updateServicePush authed image => exact ResKept.row (kept_execUpdateServicePush (le_same _) authed image s (.refl _ s)) h ran
  | ringOwnerWrite a v => exact ResKept.row (kept_execRingOwnerWrite (le_same _) a v s (.refl _ s)) h ran
  | pcieLinkDown => exact ResKept.row (kept_execPcieLinkDown (le_same _) s (.refl _ s)) h ran
  | pcieLinkUp width bme => exact ResKept.row (kept_execPcieLinkUp (le_same _) width bme s (.refl _ s)) h ran
  | idlPolicerRefresh => exact ResKept.row (kept_execIdlPolicerRefresh (le_same _) s (.refl _ s)) h ran
  | intPendClear a idx v => exact ResKept.row (kept_execIntPendClear (le_same _) a idx v s (.refl _ s)) h ran
  | doorbell a r t stores => exact ResKept.row (kept_execDoorbell (le_same _) a r t stores s (.refl _ s)) h ran
  | cplDoorbell a r t => exact ResKept.row (kept_execCplDoorbell (le_same _) a r t s (.refl _ s)) h ran
  | ringFetch r => exact ResKept.row (kept_execRingFetch (le_same _) r s (.refl _ s)) h ran
  | txFrameInject g => exact ResKept.row (kept_execTxFrameInject (le_same _) g s (.refl _ s)) h ran
  | completionWrite r => exact ResKept.row (kept_execCompletionWrite (le_same _) r s (.refl _ s)) h ran
  | ringEnable a r => exact ResKept.row (kept_execRingEnable (le_same _) a r s (.refl _ s)) h ran
  | ringDisable a r => exact ResKept.row (kept_execRingDisable (le_same _) a r s (.refl _ s)) h ran
  | ringIdle r => exact ResKept.row (kept_execRingIdle (le_same _) r s (.refl _ s)) h ran
  | winCfgWrite a w reg v => exact ResKept.row (kept_execWinCfgWrite (le_same _) a w reg v s (.refl _ s)) h ran
  | notifyRecordWrite => exact ResKept.row (kept_execNotifyRecordWrite (le_same _) s (.refl _ s)) h ran
  | faultBacklogDeliver => exact ResKept.row (kept_execFaultBacklogDeliver (le_same _) s (.refl _ s)) h ran
  | irqModTimer r => exact ResKept.row (kept_execIrqModTimer (le_same _) r s (.refl _ s)) h ran
  | txDescriptor r => exact ResKept.row (kept_execTxDescriptor (le_same _) r s (.refl _ s)) h ran
  | rxBufferDescriptor r => exact ResKept.row (kept_execRxBufferDescriptor (le_same _) r s (.refl _ s)) h ran
  | registerWrite a ali size off v =>
    exact ResKept.rowTot (kept_execRegisterWrite (le_same _) a ali size off v s (.refl _ s)) rfl
      (tot_registerWrite (by decide) _ _ _ _ _ s) h ran
  | counterRead a ali size off =>
    exact ResKept.rowTot (kept_execCounterRead (le_same _) a ali size off s (.refl _ s)) rfl
      (tot_issueRead s _ (by decide)) h ran
  | holdingPairRead a ali size off =>
    exact ResKept.rowTot (kept_execHoldingPairRead (le_same _) a ali size off s (.refl _ s)) rfl
      (tot_issueRead s _ (by decide)) h ran
  | farReadTimeout => exact ResKept.row (kept_execFarReadTimeout (le_same _) s (.refl _ s)) h ran
  | slowWriteDone b ack => exact ResKept.row (kept_execSlowWriteDone (le_same _) b ack s (.refl _ s)) h ran
  | keyWrite a v => exact ResKept.row (kept_execKeyWrite (le_same _) a v s (.refl _ s)) h ran
  | keyTimeout a => exact ResKept.row (kept_execKeyTimeout (le_same _) a s (.refl _ s)) h ran
  | updateStrobeHi a mask => exact ResKept.row (kept_execUpdateStrobeHi (le_same _) a mask s (.refl _ s)) h ran
  | updateStrobe a mask => exact ResKept.row (kept_execUpdateStrobe (le_same _) a mask s (.refl _ s)) h ran
  | snapshotTake a clear view =>
    exact ResKept.rowTot (kept_execSnapshotTake (le_same _) a clear view s (.refl _ s)) rfl
      (tot_far (fun u => tot_snapCtrl u _ (by decide)) _ s) h ran
  | snapshotDone =>
    exact ResKept.rowTot (kept_execSnapshotDone (le_same _) s (.refl _ s)) rfl
      (.of_eq (snapDone_tot s)) h ran
  | resetKindNone a kind =>
    exact ResKept.rowTot (kept_execResetKindNone (le_same _) a kind s (.refl _ s)) rfl
      (tot_resetValue (by decide) _ _ s) h ran
  | coldReset a =>
    exact ResKept.rowTot (kept_execColdReset (le_same _) a s (.refl _ s)) rfl
      (tot_resetValue (by decide) _ _ s) h ran
  | warmReset a =>
    exact ResKept.rowTot (kept_execWarmReset (le_same _) a s (.refl _ s)) rfl
      (tot_resetValue (by decide) _ _ s) h ran
  | appDomainReset a =>
    exact ResKept.rowTot (kept_execAppDomainReset (le_same _) a s (.refl _ s)) rfl
      (tot_resetValue (by decide) _ _ s) h ran
  | blockReset a block =>
    exact ResKept.rowTot (kept_execBlockReset (le_same _) a block s (.refl _ s)) rfl
      (tot_resetValue (by decide) _ _ s) h ran
  | fuseBlow a bit => exact ResKept.row (kept_execFuseBlow (le_same _) a bit s (.refl _ s)) h ran
  | fuseBlowDone blown => exact ResKept.row (kept_execFuseBlowDone (le_same _) blown s (.refl _ s)) h ran
  | railSetWrite a idx v => exact ResKept.row (kept_execRailSetWrite (le_same _) a idx v s (.refl _ s)) h ran
  | optLaneBiasWrite a lane v => exact ResKept.row (kept_execOptLaneBiasWrite (le_same _) a lane v s (.refl _ s)) h ran
  | powerOn c absentMs => exact ResKept.row (kept_execPowerOn (le_same _) c absentMs s (.refl _ s)) h ran
  | railFault rail inService c =>
    exact ResKept.rowTot (kept_execRailFault (le_same _) rail inService c s (.refl _ s)) rfl
      (tot_railFault (by decide) _ _ _ s) h ran
  | railRetry => exact ResKept.row (kept_execRailRetry (le_same _) s (.refl _ s)) h ran
  | thermalEvaluation c => exact ResKept.row (kept_execThermalEvaluation (le_same _) c s (.refl _ s)) h ran
  | powerLimitClear => exact ResKept.row (kept_execPowerLimitClear (le_same _) s (.refl _ s)) h ran
  | steepTimeout => exact ResKept.row (kept_execSteepTimeout (le_same _) s (.refl _ s)) h ran
  | thermalTrip c => exact ResKept.row (kept_execThermalTrip (le_same _) c s (.refl _ s)) h ran
  | mainsLoss c => exact ResKept.row (kept_execMainsLoss (le_same _) c s (.refl _ s)) h ran
  | dusk c => exact ResKept.row (kept_execDusk (le_same _) c s (.refl _ s)) h ran
  | duskForwardStop => exact ResKept.row (kept_execDuskForwardStop (le_same _) s (.refl _ s)) h ran
  | duskCheckpointDone =>
    exact ResKept.rowTot (kept_execDuskCheckpointDone (le_same _) s (.refl _ s)) rfl
      (tot_duskCheckpointDone s (by decide)) h ran
  | counterCheckpoint => exact ResKept.row (kept_execCounterCheckpoint (le_same _) s (.refl _ s)) h ran
  | faultLogWrite flashOk => exact ResKept.row (kept_execFaultLogWrite (le_same _) flashOk s (.refl _ s)) h ran
  | quietAssert => exact ResKept.row (kept_execQuietAssert (le_same _) s (.refl _ s)) h ran
  | quietRelease => exact ResKept.row (kept_execQuietRelease (le_same _) s (.refl _ s)) h ran
  | fixtureResetRelease ms c => exact ResKept.row (kept_execFixtureResetRelease (le_same _) ms c s (.refl _ s)) h ran
  | recoveryHold => exact ResKept.row (kept_execRecoveryHold (le_same _) s (.refl _ s)) h ran
  | dawnInit =>
    exact ResKept.rowTot (kept_execDawnInit (le_same _) s (.refl _ s)) rfl
      (tot_dawnInit (by decide) s) h ran
  | boot goodA goodB => exact ResKept.row (kept_execBoot (le_same _) goodA goodB s (.refl _ s)) h ran
  | dfuImageLoad image good => exact ResKept.row (kept_execDfuImageLoad (le_same _) image good s (.refl _ s)) h ran
  | trialExpiry => exact ResKept.row (kept_execTrialExpiry (le_same _) s (.refl _ s)) h ran
  | keeperFwLoad goodA goodB => exact ResKept.row (kept_execKeeperFwLoad (le_same _) goodA goodB s (.refl _ s)) h ran
  | keeperFwFallback => exact ResKept.row (kept_execKeeperFwFallback (le_same _) s (.refl _ s)) h ran
  | nvmRead a => exact ResKept.row (kept_execNvmRead (le_same _) a s (.refl _ s)) h ran
  | nvmWrite a => exact ResKept.row (kept_execNvmWrite (le_same _) a s (.refl _ s)) h ran
  | imageCommit a slot => exact ResKept.row (kept_execImageCommit (le_same _) a slot s (.refl _ s)) h ran
  | switch a slot => exact ResKept.row (kept_execSwitch (le_same _) a slot s (.refl _ s)) h ran
  | confirm a => exact ResKept.row (kept_execConfirm (le_same _) a s (.refl _ s)) h ran
  | cfgCommit a => exact ResKept.row (kept_execCfgCommit (le_same _) a s (.refl _ s)) h ran
  | run a arg => exact ResKept.row (kept_execRun (le_same _) a arg s (.refl _ s)) h ran
  | abort a => exact ResKept.row (kept_execAbort (le_same _) a s (.refl _ s)) h ran
  | nvmOpComplete e => exact ResKept.row (kept_execNvmOpComplete (le_same _) e s (.refl _ s)) h ran
  | bootSelWrite => exact ResKept.row (kept_execBootSelWrite (le_same _) s (.refl _ s)) h ran
  | windowBucketEnd k => exact ResKept.row (kept_execWindowBucketEnd (le_same _) k s (.refl _ s)) h ran
  | ledgerCheck => exact ResKept.row (kept_execLedgerCheck (le_same _) s (.refl _ s)) h ran
  | excuseExpiry => exact ResKept.row (kept_execExcuseExpiry (le_same _) s (.refl _ s)) h ran
  | hltRebase a => exact ResKept.row (kept_execHltRebase (le_same _) a s (.refl _ s)) h ran
  | ovenOscillatorReady => exact ResKept.row (kept_execOvenOscillatorReady (le_same _) s (.refl _ s)) h ran
  | duskRestart c => exact ResKept.row (kept_execDuskRestart (le_same _) c s (.refl _ s)) h ran
  | busCollapse =>
    exact ResKept.rowTot (kept_execBusCollapse (le_same _) s (.refl _ s)) rfl
      (tot_busCollapse s (by decide)) h ran
  | msixEntryUnmask w => exact ResKept.row (kept_execMsixEntryUnmask (le_same _) w s (.refl _ s)) h ran
  | hostMemoryError addr e => exact ResKept.row (kept_execHostMemoryError (le_same _) addr e s (.refl _ s)) h ran

end Sys2Proof.Machine
end

section
open Sys2Proof Sys2Proof.Machine

/-- Settles O3: the row of each command (`exec_changes`), which names neither the time nor the queue (`Laws.Untouched`). -/
theorem everyCommandFrame : Obligations.EveryCommandFrame := by
  intro c s t h e
  have row := exec_changes h c e
  have spared : Laws.Untouched.Statement c := by cases c <;> constructor <;> exact of_decide_eq_true rfl
  exact ⟨row, row.area .now spared.1, row.area .pending spared.2⟩
end

section
/-!
SUPPORT. The host interface beside its rings and waiting records: what rings, records, interrupts and reports of memory errors
leave of it.
-/
namespace Sys2Proof.Machine

/-- As `CheckedAbove`. -/
inductive CheckedToFrames : Prop where
  | done

/-- The host interface but for its rings and the records that wait to be written. -/
def hostRest (s : State) : HostSt := { s.host with rings := [], recq := [] }

theorem hostRest_congr {s t : State} (h : t.host = s.host) : hostRest t = hostRest s := by
  unfold hostRest
  rw [h]

theorem hostRest_foldl {α : Type} {f : State → α → State} (hf : ∀ s x, hostRest (f s x) = hostRest s) (l : List α) (s : State) :
    hostRest (l.foldl f s) = hostRest s :=
  foldl_holds (P := fun t => hostRest t = hostRest s) (fun t x ht => (hf t x).trans ht) rfl

theorem hostRest_ite {p : Prop} [Decidable p] {a b s : State} (ha : hostRest a = hostRest s) (hb : hostRest b = hostRest s) :
    hostRest (if p then a else b) = hostRest s :=
  ite_holds (P := fun t => hostRest t = hostRest s) ha hb

/-! ### Rings -/

theorem hostRest_setRing (r : Nat) (x : RingSt) (s : State) : hostRest (setRing r x s) = hostRest s := rfl

theorem hostRest_setFld (f : Fld) (v : Nat) (i j : Nat) (s : State) : hostRest (s.setFld f v i j) = hostRest s := rfl

theorem hostRest_setReg (r : Reg) (v : Word) (i j : Nat) (s : State) : hostRest (s.setReg r v i j) = hostRest s := rfl

theorem hostRest_count (c : Cnt) (i j n : Nat) (s : State) : hostRest (s.count c i j n) = hostRest s := rfl

theorem hostRest_setUnits (r : Nat) (l : List RUnit) (s : State) : hostRest (setUnits r l s) = hostRest s :=
  hostRest_ite rfl rfl

theorem hostRest_finish (r id : Nat) (c : Cpl) (s : State) : hostRest (finish r id c s) = hostRest s := by
  have counted : hostRest (s.countIf (decide (0x20 ≤ c.status) && decide (c.status ≤ 0x23)) .TBL_WRITE_ERR_CNT) = hostRest s :=
    hostRest_congr (countIf_host ..)
  exact hostRest_ite ((hostRest_count ..).trans ((hostRest_setUnits ..).trans counted)) ((hostRest_setUnits ..).trans counted)

/-! ### Records and interrupts -/

theorem hostRest_offer (l : List NRec) (s : State) : hostRest (offer l s) = hostRest s :=
  foldl_holds (P := fun t => hostRest t = hostRest s)
    (fun _ _ ht => ite_holds (P := fun t => hostRest t = hostRest s) ht ht) rfl

theorem hostRest_raiseVec (v : Nat) (s : State) : hostRest (raiseVec v s) = hostRest s := hostRest_congr (host_raiseVec v s)

theorem hostRest_ringRaise (r : Nat) (s : State) : hostRest (ringRaise r s) = hostRest s :=
  hostRest_ite (hostRest_raiseVec ..) rfl

theorem hostRest_entryIrq (r : Nat) (s : State) : hostRest (entryIrq r s) = hostRest s :=
  hostRest_ite (hostRest_ite (hostRest_ringRaise ..) rfl) rfl

theorem hostRest_stopRing (r : Nat) (s : State) : hostRest (stopRing r s) = hostRest s := by
  rw [stopRing_eq, hostRest_setRing, hostRest_congr (ringOff_host r s)]

theorem hostRest_stopErr (r code value : Nat) (s : State) : hostRest (stopErr r code value s) = hostRest s := by
  unfold stopErr
  rw [hostRest_ringRaise, fault, hostRest_offer, hostRest_setFld, hostRest_setFld, hostRest_stopRing]

theorem hostRest_discardHeld (r : Nat) (s : State) : hostRest (discardHeld r s) = hostRest s :=
  (hostRest_count ..).trans (hostRest_setUnits ..)

theorem hostRest_stopLost (r : Nat) (s : State) : hostRest (stopLost r s) = hostRest s := by
  have stopped : hostRest (if ringEn s r then stopErr r 4 0 s else s) = hostRest s := hostRest_ite (hostRest_stopErr ..) rfl
  exact hostRest_ite stopped ((hostRest_discardHeld ..).trans stopped)

/-! ### Errors of memory -/

theorem hostRest_memReport (u loc k inst : Nat) (uncorr : Bool) (s : State) :
    hostRest (memReport u loc k inst uncorr s) = hostRest s := by
  have event : hostRest (winEvent k inst s).1 = hostRest s :=
    hostRest_congr ((of_fst (kept_winEvent (le_same _) k inst s (.refl _ _))).host (by decide))
  have noted : hostRest (memRecord u loc k inst (winEvent k inst s).1) = hostRest s :=
    ite_holds (P := fun t => hostRest t = hostRest s) event ((hostRest_offer ..).trans event)
  exact ite_holds (P := fun t => hostRest t = hostRest s)
    ((hostRest_congr ((kept_excuse (le_same _) u _ (.refl _ _)).host (by decide))).trans noted) event

theorem hostRest_hostMemError (addr : Nat) (corrected : Bool) (s : State) : hostRest (hostMemError addr corrected s) = hostRest s :=
  hostRest_ite ((hostRest_memReport ..).trans (hostRest_count ..)) ((hostRest_memReport ..).trans (hostRest_count ..))

end Sys2Proof.Machine
end

section
/-!
SUPPORT. The engine of the counter dumps (R330, R332): what host memory and the writing of records leave of it, and what a record
that is taken does to the counter that it shows.
-/
namespace Sys2Proof.Machine

/-- The dump that runs and the dumps that wait for the engine. -/
def dumps (s : State) : Option DumpSt × List DumpSt := (s.host.dump, s.host.dumpq)

theorem dumps_congr {s t : State} (h : t.host = s.host) : dumps t = dumps s := by
  unfold dumps
  rw [h]

theorem dumps_of_rest {s t : State} (h : hostRest t = hostRest s) : dumps t = dumps s := by
  have same := congrArg (fun x : HostSt => (x.dump, x.dumpq)) h
  exact same

theorem dumps_foldl {α : Type} {f : State → α → State} (hf : ∀ s x, dumps (f s x) = dumps s) (l : List α) (s : State) :
    dumps (l.foldl f s) = dumps s :=
  foldl_holds (P := fun t => dumps t = dumps s) (fun t x ht => (hf t x).trans ht) rfl

theorem dumps_ite {p : Prop} [Decidable p] {a b s : State} (ha : dumps a = dumps s) (hb : dumps b = dumps s) :
    dumps (if p then a else b) = dumps s :=
  ite_holds (P := fun t => dumps t = dumps s) ha hb

theorem dumps_memWrite (t : Nat) (l : List Byte) (s : State) : dumps (memWrite t l s).2 = dumps s :=
  dumps_foldl (fun _ _ => dumps_of_rest (hostRest_hostMemError ..)) _ _

theorem dumps_hostWrite (t : Nat) (l : List Byte) (s : State) : dumps (hostWrite t l s).2 = dumps s := by
  have sent : dumps (idlSend 5 1 (flitsOf l.length) 0 s) = dumps s := by
    obtain ⟨m, e⟩ := idlSend_eq 5 1 (flitsOf l.length) 0 s
    rw [e]
    rfl
  unfold hostWrite dmaStore
  split
  · split
    · exact sent
    · exact (dumps_memWrite ..).trans sent
  · rfl

theorem dumps_dmaWrite (a : Nat) (l : List Byte) (s : State) : dumps (dmaWrite a l s).2 = dumps s := by
  unfold dmaWrite
  split
  · rfl
  · exact dumps_hostWrite ..

theorem dumps_ringWb (r : Nat) (s : State) : dumps (ringWb r s).2 = dumps s := by
  unfold ringWb writeBack
  split
  · rfl
  · exact dumps_hostWrite ..

theorem dumps_ringPut (r : Nat) (mk : Nat → List Byte) (s : State) : dumps (ringPut r mk s).2 = dumps s := by
  have put := dumps_dmaWrite (ringBase s r + tailOf s r % ringSize s r * entLen r) (mk (tailOf s r)) s
  have backed : dumps (ringWb r (setTail r (add32 (tailOf s r) 1)
      (dmaWrite (ringBase s r + tailOf s r % ringSize s r * entLen r) (mk (tailOf s r)) s).2)).2 = dumps s :=
    (dumps_ringWb ..).trans ((dumps_congr (setTail_host ..)).trans put)
  unfold ringPut
  dsimp only
  split
  · exact (dumps_of_rest (hostRest_stopLost ..)).trans put
  · split
    · exact (dumps_of_rest (hostRest_entryIrq ..)).trans backed
    · exact (dumps_of_rest (hostRest_stopLost ..)).trans backed

/-! ### Records that wait -/

theorem dumps_notePut (l : List NRec) (s : State) : dumps (notePut l s).2 = dumps s := by
  unfold notePut
  split
  · rfl
  · dsimp only
    split
    · rfl
    · split
      · exact dumps_of_rest (hostRest_stopLost ..)
      · exact dumps_foldl (fun _ _ => dumps_ite ((dumps_of_rest (hostRest_raiseVec ..)).trans (dumps_ringPut ..)) (dumps_ringPut ..)) _ _

theorem dumps_idlPass (k len : Nat) (s : State) : dumps (idlPass k len s).2 = dumps s :=
  dumps_congr ((of_snd (kept_idlPass (le_same _) k len s (.refl _ s))).host (by decide))

theorem dumps_notePass (l : List NRec) (s : State) : dumps (notePass l s).2 = dumps s := by
  unfold notePass
  split
  · exact dumps_notePut ..
  · split
    next h => exact (congrArg (fun x => dumps x.2) h).symm.trans (dumps_idlPass ..)
    next h => exact (dumps_notePut ..).trans ((congrArg (fun x => dumps x.2) h).symm.trans (dumps_idlPass ..))

theorem dumps_noteWait (n : NRec) (s : State) : dumps (noteWait n s).2 = dumps s := by
  unfold noteWait
  split
  · exact dumps_ite rfl (dumps_of_rest (hostRest_count ..))
  · split
    · rfl
    · exact dumps_notePass ..

/-! ### A dump at the head of its ring -/

/-- The dump that the entries at the head of ring r ask for. -/
def dumpAsked (r : Nat) (u : RUnit) (ds : List (List Byte)) : DumpSt :=
  ⟨128 + r, u.id, bits (payW ds 0) 63 62, (payW ds 0).testBit 61, u.cookie, indexOf ds, bits (payW ds 0) 23 0, 0⟩

/-- The engine takes a dump, or notes that it waits. -/
def takeDump (d : DumpSt) (s : State) : State :=
  match s.host.dump with
  | none => { s with host := { s.host with dump := some d } }
  | some _ => { s with host := { s.host with dumpq := s.host.dumpq ++ [d] } }

theorem dumps_takeDump (d : DumpSt) (s : State) : dumps (takeDump d s) =
    match s.host.dump with
    | none => (some d, s.host.dumpq)
    | some e => (some e, s.host.dumpq ++ [d]) := by
  unfold takeDump dumps
  cases h : s.host.dump
  · rfl
  · exact Prod.ext h rfl

theorem dump_of_atHead {s : State} {r : Fin 32} {u : RUnit} {ds : List (List Byte)} (h : atHead s r 0x30 u ds) :
    dump r s = if dumpOk ds then takeDump (dumpAsked r u ds) (setUnitSt (128 + r.val) u.id .busy s)
      else finish (128 + r.val) u.id { status := 0x22, cookie := u.cookie, first := u.first, nent := u.nent } s := by
  unfold dump
  rw [h.head]
  dsimp only
  rw [h.op, h.turn, if_pos (by rfl)]
  rfl

theorem takesDump {s : State} {r : Fin 32} {u : RUnit} {ds : List (List Byte)} (h : atHead s r 0x30 u ds)
    (ok : dumpOk ds = true) : dumps (dump r s) =
    match s.host.dump with
    | none => (some (dumpAsked r u ds), s.host.dumpq)
    | some e => (some e, s.host.dumpq ++ [dumpAsked r u ds]) := by
  rw [dump_of_atHead h, if_pos ok, dumps_takeDump]
  have marked : dumps (setUnitSt (128 + r.val) u.id .busy s) = dumps s := dumps_of_rest (hostRest_setUnits ..)
  rw [show (setUnitSt (128 + r.val) u.id .busy s).host.dump = s.host.dump from congrArg Prod.fst marked,
    show (setUnitSt (128 + r.val) u.id .busy s).host.dumpq = s.host.dumpq from congrArg Prod.snd marked]

/-! ### A record that is taken -/

/-- The engine after a record: the next counter of the dump, or the dump that waits first. -/
def dumpOn (d : DumpSt) (s : State) : State :=
  if d.left ≤ 1 then
    match (ringOf s d.ring).units.find? (fun u => u.id == d.unit) with
    | some u => finish d.ring d.unit
        { cookie := d.cookie, first := u.first, nent := u.nent, w1 := d.written + 1, status := 0 }
        { s with host := { s.host with dump := s.host.dumpq.head?, dumpq := s.host.dumpq.drop 1 } }
    | none => { s with host := { s.host with dump := s.host.dumpq.head?, dumpq := s.host.dumpq.drop 1 } }
  else { s with host := { s.host with
    dump := some { d with next := d.next + 1, left := d.left - 1, written := d.written + 1 } } }

/-- The counter that a record shows, cleared where the dump clears. -/
def dumpCleared (d : DumpSt) (s : State) : State := if d.clear then dumpClear d.space d.next s else s

theorem dumpRecord_taken {s : State} {d : DumpSt} (run : s.host.dump = some d) (taken : (noteWait (dumpRec s d) s).1 = true) :
    dumpRecord s = dumpOn d (dumpCleared d (noteWait (dumpRec s d) s).2) := by
  unfold dumpRecord
  rw [run]
  dsimp only
  revert taken
  rcases noteWait (dumpRec s d) s with ⟨_ | _, t⟩ <;> intro taken
  · cases taken
  · rfl

theorem dumpRecord_waits {s : State} {d : DumpSt} (run : s.host.dump = some d)
    (full : ringTakes s (noteRing s .dump) 1 = false) (up : s.flag .SYS_PLANE_STATE_HEADLESS = false) : dumpRecord s = s := by
  have wait : noteWait (dumpRec s d) s = (false, s) := by
    unfold noteWait
    rw [up, if_neg Bool.false_ne_true, show (dumpRec s d).kind = .dump from rfl, full, Bool.not_false, Bool.or_true, if_pos rfl]
  unfold dumpRecord
  rw [run]
  dsimp only
  rw [wait]

theorem dumpRead_congr {s t : State} (hc : t.cls = s.cls) (ht : t.tm = s.tm) (space i : Nat) :
    dumpRead t space i = dumpRead s space i := by
  unfold dumpRead polOf
  rw [hc, ht]

theorem dumpRead_noteWait (n : NRec) (s : State) (space i : Nat) :
    dumpRead (noteWait n s).2 space i = dumpRead s space i := by
  have hk := of_snd (kept_noteWait (le_same _) n s (.refl _ s))
  exact dumpRead_congr (hk.cls (by decide)) (hk.tm (by decide)) space i

theorem dumpRead_dumpClear {s : State} (h : s.Sound) (space i : Nat) :
    dumpRead (dumpClear space i s) space i = (0#64, 0#64) := by
  unfold dumpClear dumpRead
  split
  · exact congrArg (Option.getD · (0#64, 0#64)) (SMap.get?_erase_self h.cls.flows)
  · have cleared : polOf (setPol i { polOf s i with pass := 0#64, drop := 0#64 } s) i
        = { polOf s i with pass := 0#64, drop := 0#64 } := SMap.getD_put_self h.tm.pols i {} _
    dsimp only
    rw [cleared]

theorem dumpRead_finish (r id : Nat) (c : Cpl) (s : State) (space i : Nat) :
    dumpRead (finish r id c s) space i = dumpRead s space i :=
  have hk := kept_finish (le_same _) r id c s (.refl _ s)
  dumpRead_congr (hk.cls (by decide)) (hk.tm (by decide)) space i

theorem dumpRead_dumpOn (d : DumpSt) (s : State) (space i : Nat) : dumpRead (dumpOn d s) space i = dumpRead s space i := by
  unfold dumpOn
  split
  · split
    · exact dumpRead_finish ..
    · rfl
  · rfl

theorem dumpRead_taken {s : State} (h : s.Sound) {d : DumpSt} (run : s.host.dump = some d)
    (taken : (noteWait (dumpRec s d) s).1 = true) :
    dumpRead (dumpRecord s) d.space d.next = if d.clear then (0#64, 0#64) else dumpRead s d.space d.next := by
  rw [dumpRecord_taken run taken, dumpRead_dumpOn, dumpCleared]
  split
  · exact dumpRead_dumpClear (of_snd (sound_noteWait _ s h)) ..
  · exact dumpRead_noteWait ..

theorem dumps_dumpCleared (d : DumpSt) (s : State) : dumps (dumpCleared d s) = dumps s :=
  dumps_ite (dumps_ite rfl rfl) rfl

theorem dumps_dumpOn (d : DumpSt) (s : State) : dumps (dumpOn d s) =
    if d.left ≤ 1 then ((dumps s).2.head?, (dumps s).2.drop 1)
    else (some { d with next := d.next + 1, left := d.left - 1, written := d.written + 1 }, (dumps s).2) := by
  unfold dumpOn
  split
  · split
    · exact dumps_of_rest (hostRest_finish ..)
    · rfl
  · rfl

theorem dumps_taken {s : State} {d : DumpSt} (run : s.host.dump = some d) (taken : (noteWait (dumpRec s d) s).1 = true) :
    dumps (dumpRecord s) =
    if d.left ≤ 1 then (s.host.dumpq.head?, s.host.dumpq.drop 1)
    else (some { d with next := d.next + 1, left := d.left - 1, written := d.written + 1 }, s.host.dumpq) := by
  rw [dumpRecord_taken run taken, dumps_dumpOn, dumps_dumpCleared, dumps_noteWait]
  rfl

end Sys2Proof.Machine
end

section
open Sys2Proof Sys2Proof.Machine

/-- Settles O26: what the engine holds after a dump is taken (`takesDump`) or a record (`dumps_taken`), and the counter that the
record showed (`dumpRead_taken`). -/
theorem counterDump : Obligations.CounterDump := by
  unfold Obligations.CounterDump
  refine ⟨fun s r u ds h => ⟨fun ok idle => ?starts, fun ok d busy => ?waits, fun bad => ?refused⟩, fun s d h run taken => ?record,
    fun s d run full up => congrArg Host.Outcome.next (dumpRecord_waits run full up)⟩
  case starts =>
    have held := takesDump h ok
    rw [idle] at held
    exact ⟨_, rfl, congrArg Prod.fst held⟩
  case waits =>
    have held := takesDump h ok
    rw [busy] at held
    exact ⟨_, rfl, congrArg Prod.fst held, congrArg Prod.snd held⟩
  case refused =>
    have run := dump_of_atHead h
    rw [bad, if_neg Bool.false_ne_true] at run
    have held := dumps_of_rest (hostRest_finish (128 + r.val) u.id
      { status := 0x22, cookie := u.cookie, first := u.first, nent := u.nent } s)
    exact ⟨_, congrArg Host.Outcome.next run, ⟨_, done_mem_finish h.sound (mem_units_of_ringHead h.head) h.kept _, rfl, rfl⟩,
      congrArg Prod.fst held, congrArg Prod.snd held⟩
  case record =>
    have held := dumps_taken run taken
    have shown := dumpRead_taken h run taken
    refine ⟨fun more => ?_, fun last => ?_⟩
    · rw [if_neg (Nat.not_le.mpr more)] at held
      exact ⟨_, rfl, congrArg Prod.fst held, shown⟩
    · rw [if_pos last] at held
      exact ⟨_, rfl, congrArg Prod.fst held, congrArg Prod.snd held, shown⟩
end

section
/-!
SUPPORT. Writes that spend a key (R360, R361): what a guarded write leaves where its key is closed, and the state that its
register meets where it passes.
-/
namespace Sys2Proof.Machine

/-! ### A key that is spent -/

section
variable {s u : State} {a : Agent} (k : KeySpent s u a)
include k

theorem KeySpent.send (v d n room : Nat) : KeySpent s (idlSend v d n room u) a := by
  have closed := (((Sends.refl k.sound).send v d n room).keyOf a).trans k.closed
  obtain ⟨hu, ⟨c, rfl⟩, -⟩ := k
  obtain ⟨m, e⟩ := idlSend_eq v d n room { s with ctl := c }
  exact ⟨sound_idlSend _ _ _ _ _ hu, ⟨_, e⟩, closed⟩

theorem KeySpent.regs : u.regs = s.regs := by obtain ⟨-, ⟨c, rfl⟩, -⟩ := k; rfl
theorem KeySpent.sys : u.sys = s.sys := by obtain ⟨-, ⟨c, rfl⟩, -⟩ := k; rfl
theorem KeySpent.nvm : u.nvm = s.nvm := by obtain ⟨-, ⟨c, rfl⟩, -⟩ := k; rfl
theorem KeySpent.pwr : u.pwr = s.pwr := by obtain ⟨-, ⟨c, rfl⟩, -⟩ := k; rfl
theorem KeySpent.flag (f : Fld) (i j : Nat) : u.flag f i j = s.flag f i j := flag_congr k.regs f i j
theorem KeySpent.fld (f : Fld) (i j : Nat) : u.fld f i j = s.fld f i j := fld_congr k.regs f i j

theorem KeySpent.fusedOff (off : Nat) : fusedOff u off = fusedOff s off := by unfold Machine.fusedOff; rw [k.sys]

/-- Only the control die's side has changed. -/
theorem KeySpent.frame : s.Only u [.ctl] [] [] :=
  k.only (Sofar.start k.sound [.ctl] [] []).only (by decide)

/-- A refusal of the register is logged, and the key stays closed. -/
theorem KeySpent.refuses {f : AccFault} (hf : f.fits) :
    Logged s (recordFault f u) f ∧ keyOf' (recordFault f u) a = none :=
  ⟨k.logged ((Sends.refl k.sound).logged hf), (keyOf_recordFault f u a).trans k.closed⟩

theorem KeySpent.refuses_near (hl : linked s) {f : AccFault} (hf : f.fits) :
    Logged s (logNear f u) f ∧ keyOf' (logNear f u) a = none := by
  rw [logNear_linked (k.keeps_linked hl)]
  exact (k.send 2 0 1 0).refuses hf

end

/-! ### Writes that meet a key -/

section
variable {s : State} (h : s.Sound) {w : RegWrite}
include h

/-- A write without its key is logged. -/
theorem guarded_refuses (hl : linked s) (hk : keyOpen s w.agent = false) (there : fusedOff s w.off = false)
    (fits : AccFault.fits ⟨3, w.agent, w.size, w.ali, w.off⟩) (op : State → State) :
    Logged s (guarded w op s) ⟨3, w.agent, w.size, w.ali, w.off⟩ := by
  rw [guarded_closed hk there]
  exact (Sends.refl h).logged_near hl fits

/-- A write that passes meets its register with the key spent. -/
theorem guarded_spends (hk : passesKey s w.agent w.off) (op : State → State) :
    ∃ u, KeySpent s u w.agent ∧ guarded w op s = op u :=
  ⟨_, keySpent_spend h w, guarded_passes hk.1 hk.2 op⟩

/-- A write that passes and crosses the link. -/
theorem guarded_crosses (hl : linked s) (hk : passesKey s w.agent w.off) (there : fusedOff s w.off = false)
    (op : State → State) : ∃ u, KeySpent s u w.agent ∧ guarded w (far w op) s = op u := by
  obtain ⟨u, k, e⟩ := guarded_spends h hk (far w op)
  exact ⟨_, k.send 0 0 1 0, e.trans (far_linked (k.keeps_linked hl) ((k.fusedOff _).trans there))⟩

end

/-- A 32-bit write of a register's element fits the access fault log. -/
theorem write32_fits {kind : Nat} (hk : kind < 16) (a : Agent) {r : Reg} {v i : Nat} (ho : r.off i 0 < 2 ^ 28) :
    AccFault.fits ⟨kind, (write32 a r v i).agent, (write32 a r v i).size, (write32 a r v i).ali, (write32 a r v i).off⟩ :=
  AccFault.fits_mk hk (show 2 < 4 by decide) (show 0 < 4 by decide) ho

end Sys2Proof.Machine
end

section
/-!
SUPPORT. User fuses and slow writes (R352, R379, R382, R387).
-/
namespace Sys2Proof.Machine

/-! ### The value that a write leaves in RW fields -/

/-- Every bit of the field is RW in its register, and none is W1C. -/
abbrev writable (f : Fld) : Prop := f.hi < 32 ∧ ∀ k < 32, f.lo ≤ k → k ≤ f.hi → f.reg.rw.testBit k = true ∧ f.reg.w1c.testBit k = false

/-- A field that is RW takes what is written (R11). -/
theorem get_take {f : Fld} (hf : writable f) (old v : Word) : f.get (f.reg.take old v) = f.get v := by
  obtain ⟨hi, rw_⟩ := hf
  unfold Fld.get bits
  refine Nat.eq_of_testBit_eq fun k => ?_
  rw [Nat.testBit_mod_two_pow, Nat.testBit_mod_two_pow, Nat.testBit_shiftRight, Nat.testBit_shiftRight]
  by_cases hk : k < f.hi + 1 - f.lo
  · obtain ⟨hrw, hw1c⟩ := rw_ (f.lo + k) (by omega) (by omega) (by omega)
    have lt : f.lo + k < 32 := by omega
    rw [BitVec.testBit_toNat, BitVec.testBit_toNat, Reg.take]
    simp only [BitVec.getLsbD_and, BitVec.getLsbD_or, BitVec.getLsbD_not, BitVec.getLsbD_ofNat, hrw, hw1c, lt, decide_true,
      Bool.and_true, Bool.not_true, Bool.and_false, Bool.false_or, Bool.not_false]
  · simp [hk]

/-! ### User fuses (R379) -/

theorem fuse_there (s : State) (a : Agent) (v : Nat) : fusedOff s (write32 a .SYS_FUSE_CTRL v).off = false :=
  fusedOff_write32 (by decide +kernel) (by decide) (by decide) (by decide) s a v

theorem blow_asks (a : Agent) (b : Fin 32) : Fld.SYS_FUSE_CTRL_BLOW.get (write32 a .SYS_FUSE_CTRL (2 ^ 31 + b.val)).val = 1
    ∧ Fld.SYS_FUSE_CTRL_BIT.get (write32 a .SYS_FUSE_CTRL (2 ^ 31 + b.val)).val = b.val := by
  have fields : ∀ b : Fin 32, Fld.SYS_FUSE_CTRL_BLOW.get (BitVec.ofNat 32 (2 ^ 31 + b.val)) = 1
      ∧ Fld.SYS_FUSE_CTRL_BIT.get (BitVec.ofNat 32 (2 ^ 31 + b.val)) = b.val := by decide
  exact fields b

/-- A blow that begins. -/
def beginBlow (b : Nat) (s : State) : State :=
  { s with sys := { s.sys with fuseAt := some (s.now, b) } }.setFld .SYS_FUSE_STATUS_BUSY 1

theorem fuseCtrl_blow (a : Agent) (b : Fin 32) (s : State) :
    fuseCtrl (write32 a .SYS_FUSE_CTRL (2 ^ 31 + b.val)) s =
      if s.flag .SYS_FUSE_STATUS_BUSY || s.flag .KEEP_STATUS_DUSK then
        logWrite 4 (write32 a .SYS_FUSE_CTRL (2 ^ 31 + b.val)) s
      else beginBlow b.val s := by
  obtain ⟨blow, bit⟩ := blow_asks a b
  unfold fuseCtrl
  rw [blow, bit, if_neg Nat.one_ne_zero]
  rfl

/-- A blow that ends, and the bit reads back. -/
def endBlow (f : Word) (s : State) : State :=
  ({ s with sys := { s.sys with fuseAt := none }, nvm := { s.nvm with fuses := f } }.setReg .SYS_FUSE_USER f).setFld
    .SYS_FUSE_STATUS_BUSY 0

theorem fuseDone_eq {s : State} {e b : Nat} (h : s.sys.fuseAt = some (e, b)) (blown : Bool) (f : Word)
    (hf : f = if blown then s.nvm.fuses ||| BitVec.ofNat 32 (2 ^ b) else s.nvm.fuses) : fuseDone blown s =
      if f.toNat.testBit b then endBlow f s else (endBlow f s).setFld .SYS_FUSE_STATUS_ERR 1 := by
  unfold fuseDone
  rw [h, hf]
  rfl

theorem endBlow_shows {s : State} (h : s.Sound) (f : Word) : (endBlow f s).regs.sorted = true
    ∧ (endBlow f s).nvm.fuses = f ∧ (endBlow f s).sys.fuseAt = none ∧ (endBlow f s).reg .SYS_FUSE_USER = f
    ∧ (endBlow f s).flag .SYS_FUSE_STATUS_BUSY = false
    ∧ (endBlow f s).flag .SYS_FUSE_STATUS_ERR = s.flag .SYS_FUSE_STATUS_ERR := by
  have h1 : SMap.sorted ({ s with sys := { s.sys with fuseAt := none }, nvm := { s.nvm with fuses := f } }.setReg
    .SYS_FUSE_USER f).regs = true := sorted_setReg h.regs .SYS_FUSE_USER f 0 0
  refine ⟨sorted_setFld h1 _ _ _ _, rfl, rfl, ?_, flag_setFld h1 (f := .SYS_FUSE_STATUS_BUSY) (by decide) (by decide) 0 0 0, ?_⟩
  · exact (reg_setFld_apart h1 (f := .SYS_FUSE_STATUS_BUSY) (q := .SYS_FUSE_USER) (by decide) 0 0 0 0 0).trans
      (reg_setReg h.regs .SYS_FUSE_USER f 0 0)
  · exact (flag_setFld_beside h1 (f := .SYS_FUSE_STATUS_BUSY) (g := .SYS_FUSE_STATUS_ERR) (by decide) 0 0 0).trans
      (flag_setReg_apart h.regs (r := .SYS_FUSE_USER) (g := .SYS_FUSE_STATUS_ERR) (by decide) f 0 0 0 0)

/-! ### Slow writes that arrive (R352, R382, R387) -/

theorem rail_there (s : State) (a : Agent) (v : Nat) (i : Fin 32) : fusedOff s (write32 a .PWR_RAIL_SET v i).off = false :=
  fusedOff_write32 (by decide +kernel) i.isLt (by decide) (by revert i; decide +kernel) s a v

theorem rail_fits {kind : Nat} (hk : kind < 16) (a : Agent) (i : Fin 32) :
    AccFault.fits ⟨kind, a, 2, 0, Reg.off .PWR_RAIL_SET i⟩ :=
  AccFault.fits_mk hk (by decide) (by decide) (by revert i; decide +kernel)

theorem bias_fits {kind : Nat} (hk : kind < 16) (a : Agent) (l : Fin 512) :
    AccFault.fits ⟨kind, a, 2, 0, Reg.off .OPT_LANE_BIAS l⟩ :=
  AccFault.fits_mk hk (by decide) (by decide) (by revert l; decide +kernel)

theorem write32_val (a : Agent) (r : Reg) (v : Word) (i : Nat) : (write32 a r v.toNat i).val = v := BitVec.ofNat_toNat .. |>.trans (BitVec.setWidth_eq v)

theorem railValue_write32 (a : Agent) (v : Word) (i : Nat) (s : State) :
    railValue (write32 a .PWR_RAIL_SET v.toNat i) i s = v.toNat % 65536 :=
  congrArg (fun x : Word => x.toNat % 65536) (write32_val a .PWR_RAIL_SET v i)

/-- The state with another record of the system block. -/
def withSys (x : SysSt) (s : State) : State := { s with sys := x }

theorem flag_withSys (x : SysSt) (s : State) (f : Fld) (i j : Nat) : (withSys x s).flag f i j = s.flag f i j := rfl

/-- The regulators begin a write. -/
def beginRail (w : RegWrite) (s : State) : State := withSys { s.sys with slowPwr := [w] } (s.setFld .PWR_SLOW_STATUS_BUSY 1)

/-- OPT begins a write. -/
def beginBias (w : RegWrite) (s : State) : State := withSys { s.sys with slowOpt := [w] } (s.setFld .OPT_SLOW_STATUS_BUSY 1)

theorem beginRail_shows {s : State} (h : s.Sound) (w : RegWrite) : (beginRail w s).flag .PWR_SLOW_STATUS_BUSY = true
    ∧ (beginRail w s).sys.slowPwr = [w] ∧ s.Only (beginRail w s) [.ctl, .sys] [Reg.off .PWR_SLOW_STATUS] [] := by
  exact ⟨(flag_withSys ..).trans (flag_setFld h.regs (f := .PWR_SLOW_STATUS_BUSY) (by decide) (by decide) 1 0 0), rfl,
    (((Sofar.start h [.ctl, .sys] [Reg.off .PWR_SLOW_STATUS] []).setFld .PWR_SLOW_STATUS_BUSY 1 0 0 (by decide)).setSys
      (by decide) _).only⟩

theorem beginBias_shows {s : State} (h : s.Sound) (w : RegWrite) : (beginBias w s).flag .OPT_SLOW_STATUS_BUSY = true
    ∧ (beginBias w s).sys.slowOpt = [w] ∧ s.Only (beginBias w s) [.ctl, .sys] [Reg.off .OPT_SLOW_STATUS] [] := by
  exact ⟨(flag_withSys ..).trans (flag_setFld h.regs (f := .OPT_SLOW_STATUS_BUSY) (by decide) (by decide) 1 0 0), rfl,
    (((Sofar.start h [.ctl, .sys] [Reg.off .OPT_SLOW_STATUS] []).setFld .OPT_SLOW_STATUS_BUSY 1 0 0 (by decide)).setSys
      (by decide) _).only⟩

theorem railWrite_bad {w : RegWrite} {i : Nat} {s : State} (hv : railOk i (railValue w i s) = false) :
    railWrite w i s = logNear ⟨4, w.agent, w.size, w.ali, w.off⟩ s := by
  unfold railWrite
  rw [hv]
  rfl

theorem railWrite_ok {w : RegWrite} {i : Nat} {s : State} (hv : railOk i (railValue w i s) = true) : railWrite w i s =
    if s.flag .PWR_SLOW_STATUS_BUSY = false then beginRail w s
    else if w.agent = .keeper then withSys { s.sys with slowPwr := s.sys.slowPwr ++ [w] } s
    else logNear ⟨5, w.agent, w.size, w.ali, w.off⟩ s := by
  unfold railWrite beginRail withSys
  rw [hv, Bool.not_true, if_neg Bool.false_ne_true]
  cases s.flag .PWR_SLOW_STATUS_BUSY
  · rw [if_pos rfl, if_pos Bool.not_false]
  · rw [if_neg (show ¬ true = false by decide), if_neg (show ¬ (!true) = true by decide)]

theorem optWrite_eq (w : RegWrite) (s : State) : optWrite w s =
    if s.flag .OPT_SLOW_STATUS_BUSY = false then beginBias w s
    else if w.agent = .keeper then withSys { s.sys with slowOpt := s.sys.slowOpt ++ [w] } s
    else logWrite 5 w s := by
  unfold optWrite beginBias withSys
  cases s.flag .OPT_SLOW_STATUS_BUSY
  · rw [if_pos rfl, if_pos Bool.not_false]
  · rw [if_neg (show ¬ true = false by decide), if_neg (show ¬ (!true) = true by decide)]

theorem withSys_only {s : State} (h : s.Sound) (x : SysSt) : s.Only (withSys x s) [.ctl, .sys] [] [] :=
  ((Sofar.start h [.ctl, .sys] [] []).setSys (by decide) x).only

/-! ### Slow writes that end -/

/-- The regulators are done with their only write. -/
def endRail (s : State) : State := (withSys { s.sys with slowPwr := [] } s).setFld .PWR_SLOW_STATUS_BUSY 0

/-- OPT is done with its only write. -/
def endBias (s : State) : State := (withSys { s.sys with slowOpt := [] } s).setFld .OPT_SLOW_STATUS_BUSY 0

theorem rail_locate (i : Fin 32) : Reg.PWR_RAIL_SET.locate (Reg.off .PWR_RAIL_SET i) = some (i.val, 0) :=
  Reg.locate_off (by decide +kernel) i.isLt (by decide)

theorem bias_locate (l : Fin 512) : Reg.OPT_LANE_BIAS.locate (Reg.off .OPT_LANE_BIAS l) = some (l.val, 0) :=
  Reg.locate_off (by decide +kernel) l.isLt (by decide)

theorem railDone_one {s : State} {a : Agent} {v : Word} {i : Fin 32} (ack : Bool)
    (h : s.sys.slowPwr = [write32 a .PWR_RAIL_SET v.toNat i]) : railDone ack s =
      if ack then (endRail s).setReg .PWR_RAIL_SET (BitVec.ofNat 32 (v.toNat % 65536)) i
      else (endRail s).setFld .PWR_SLOW_STATUS_NAK 1 := by
  unfold railDone
  rw [h]
  dsimp only
  rw [write32_off, rail_locate]
  cases ack
  · rfl
  · exact congrArg (fun x => (endRail s).setReg .PWR_RAIL_SET (BitVec.ofNat 32 x) i) (railValue_write32 a v i (endRail s))

theorem aliased_plain (old v : Word) (m : Nat) : aliased 0 old v m = v := rfl

theorem optDone_one {s : State} {a : Agent} {v : Word} {l : Fin 512} (ack : Bool)
    (h : s.sys.slowOpt = [write32 a .OPT_LANE_BIAS v.toNat l]) : optDone ack s =
      if ack then biasTake l v (endBias s) else (endBias s).setFld .OPT_SLOW_STATUS_NAK 1 := by
  have value := write32_val a .OPT_LANE_BIAS v l
  unfold optDone
  rw [h]
  dsimp only
  rw [write32_off, bias_locate]
  cases ack
  · rfl
  · dsimp only
    rw [value, show (write32 a .OPT_LANE_BIAS v.toNat l).ali = 0 from rfl, aliased_plain]
    rw [if_pos rfl]
    exact congrArg (biasTake l v) rfl

theorem sound_withSys {s : State} (h : s.Sound) (x : SysSt) : (withSys x s).Sound := { h with }

theorem endRail_shows {s : State} (h : s.Sound) : (endRail s).Sound ∧ (endRail s).flag .PWR_SLOW_STATUS_BUSY = false
    ∧ (endRail s).sys = { s.sys with slowPwr := [] } ∧ ∀ i, (endRail s).reg .PWR_RAIL_SET i = s.reg .PWR_RAIL_SET i := by
  have h' := sound_withSys h { s.sys with slowPwr := [] }
  unfold endRail
  refine ⟨sound_State_setFld _ _ _ _ _ h', flag_setFld h'.regs (f := .PWR_SLOW_STATUS_BUSY) (by decide) (by decide) 0 0 0,
    setFld_sys .., fun i => ?_⟩
  exact reg_setFld_apart h'.regs (f := .PWR_SLOW_STATUS_BUSY) (q := .PWR_RAIL_SET) (by decide) 0 0 0 i 0

theorem endBias_shows {s : State} (h : s.Sound) : (endBias s).Sound ∧ (endBias s).flag .OPT_SLOW_STATUS_BUSY = false
    ∧ (endBias s).sys = { s.sys with slowOpt := [] } ∧ ∀ l, (endBias s).reg .OPT_LANE_BIAS l = s.reg .OPT_LANE_BIAS l := by
  have h' := sound_withSys h { s.sys with slowOpt := [] }
  unfold endBias
  refine ⟨sound_State_setFld _ _ _ _ _ h', flag_setFld h'.regs (f := .OPT_SLOW_STATUS_BUSY) (by decide) (by decide) 0 0 0,
    setFld_sys .., fun l => ?_⟩
  exact reg_setFld_apart h'.regs (f := .OPT_SLOW_STATUS_BUSY) (q := .OPT_LANE_BIAS) (by decide) 0 0 0 l 0

/-- What OPT_LANE_BIAS of a lane holds after a write of v; BIAS_ACT is a free value without OVERRIDE. -/
def biasWord (old v : Word) (free : Nat) : Word :=
  Fld.OPT_LANE_BIAS_BIAS_ACT.set (Reg.OPT_LANE_BIAS.take old v)
    (if Fld.OPT_LANE_BIAS_OVERRIDE.get (Reg.OPT_LANE_BIAS.take old v) = 1 then
      min 0xC80 (Fld.OPT_LANE_BIAS_BIAS.get (Reg.OPT_LANE_BIAS.take old v))
    else Config.freeNat free % 4096)

theorem biasWord_fields (old v : Word) (free : Nat) :
    Fld.OPT_LANE_BIAS_DISABLE.get (biasWord old v free) = Fld.OPT_LANE_BIAS_DISABLE.get v
    ∧ Fld.OPT_LANE_BIAS_OVERRIDE.get (biasWord old v free) = Fld.OPT_LANE_BIAS_OVERRIDE.get v
    ∧ Fld.OPT_LANE_BIAS_BIAS.get (biasWord old v free) = Fld.OPT_LANE_BIAS_BIAS.get v
    ∧ (Fld.OPT_LANE_BIAS_OVERRIDE.get v = 1 →
      Fld.OPT_LANE_BIAS_BIAS_ACT.get (biasWord old v free) = min 0xC80 (Fld.OPT_LANE_BIAS_BIAS.get v)) := by
  have disable : Fld.OPT_LANE_BIAS_DISABLE.get (Reg.OPT_LANE_BIAS.take old v) = _ :=
    get_take (f := .OPT_LANE_BIAS_DISABLE) (by decide) old v
  have override : Fld.OPT_LANE_BIAS_OVERRIDE.get (Reg.OPT_LANE_BIAS.take old v) = _ :=
    get_take (f := .OPT_LANE_BIAS_OVERRIDE) (by decide) old v
  have bias : Fld.OPT_LANE_BIAS_BIAS.get (Reg.OPT_LANE_BIAS.take old v) = _ :=
    get_take (f := .OPT_LANE_BIAS_BIAS) (by decide) old v
  unfold biasWord
  refine ⟨?_, ?_, ?_, fun forced => ?_⟩
  · rw [get_set_ne (by decide) (by decide) (by decide), disable]
  · rw [get_set_ne (by decide) (by decide) (by decide), override]
  · rw [get_set_ne (by decide) (by decide) (by decide), bias]
  · rw [get_set (by decide) (by decide), if_pos (override.trans forced), bias]
    exact Nat.mod_eq_of_lt (lt_of_le_of_lt (Nat.min_le_left _ _) (by decide))

/-- The lane takes its value; what follows from a stopped lane leaves the register and OPT as they are. -/
theorem biasTake_shows {s : State} (h : s.Sound) (l : Nat) (v : Word) :
    (biasTake l v s).reg .OPT_LANE_BIAS l = biasWord (s.reg .OPT_LANE_BIAS l) v s.free
    ∧ (biasTake l v s).flag .OPT_SLOW_STATUS_BUSY = s.flag .OPT_SLOW_STATUS_BUSY ∧ (biasTake l v s).sys = s.sys := by
  have hf := sound_State_fresh s h
  have taken : biasTake l v s = if 256 ≤ l then
      lanesStopped (s.fresh.setReg .OPT_LANE_BIAS (biasWord (s.reg .OPT_LANE_BIAS l) v s.free) l)
    else s.fresh.setReg .OPT_LANE_BIAS (biasWord (s.reg .OPT_LANE_BIAS l) v s.free) l := rfl
  have hw := sound_State_setReg _ .OPT_LANE_BIAS (biasWord (s.reg .OPT_LANE_BIAS l) v s.free) l 0 hf
  have word := reg_setReg hf.regs .OPT_LANE_BIAS (biasWord (s.reg .OPT_LANE_BIAS l) v s.free) l 0
  have busy := flag_setReg_apart hf.regs (r := .OPT_LANE_BIAS) (g := .OPT_SLOW_STATUS_BUSY) (by decide)
    (biasWord (s.reg .OPT_LANE_BIAS l) v s.free) l 0 0 0
  rw [taken]
  have sys : (s.fresh.setReg .OPT_LANE_BIAS (biasWord (s.reg .OPT_LANE_BIAS l) v s.free) l).sys = s.sys := (setReg_sys ..).trans rfl
  have busy0 : s.fresh.flag .OPT_SLOW_STATUS_BUSY = s.flag .OPT_SLOW_STATUS_BUSY := rfl
  generalize s.fresh.setReg .OPT_LANE_BIAS (biasWord (s.reg .OPT_LANE_BIAS l) v s.free) l = u at *
  split
  · have kept := kept_lanesStopped (le_same _) u (.refl _ u)
    have sound := sound_lanesStopped u hw
    exact ⟨(kept.reg hw sound (by decide +kernel) _ _).trans word, (kept.flag hw sound (by decide +kernel) _ _).trans (busy.trans busy0),
      (kept.sys (by decide)).trans sys⟩
  · exact ⟨word, busy.trans busy0, sys⟩

end Sys2Proof.Machine
end

section
open Sys2Proof Sys2Proof.Machine

/-- Settles O54: the path of a write that needs a key (`guarded_refuses`, `guarded_crosses`), what a fuse blow and a slow write begin
(`beginBlow`, `beginRail`, `beginBias`), and what shows at their ends (`endBlow_shows`, `railDone_one`, `biasTake_shows`). -/
theorem fusesAndSlowWrites : Obligations.FusesAndSlowWrites := by
  unfold Obligations.FusesAndSlowWrites
  refine ⟨fun s a b h hl => ?blow, fun s blown e b h run hb => ?blown, fun s a i v h hl => ?rail, fun s a l v h hl there => ?bias,
    fun s a l v h hl gone => ?lacking, fun s a l v ack h up run => ?biasEnd, fun s a i v ack h run => ?railEnd⟩
  case blow =>
    have fits {kind : Nat} (hk : kind < 16) : AccFault.fits ⟨kind, a, 2, 0, Reg.off .SYS_FUSE_CTRL⟩ :=
      AccFault.fits_mk hk (by decide) (by decide) (by decide)
    have there := fuse_there s a (2 ^ 31 + b.val)
    refine ⟨fun hk => ⟨_, rfl, guarded_refuses h (w := write32 a .SYS_FUSE_CTRL (2 ^ 31 + b.val)) hl hk there (fits (by decide)) _⟩,
      fun hk busy => ?_, fun hk idle light => ?_⟩
    all_goals
      obtain ⟨u, k, run⟩ := guarded_crosses h (w := write32 a .SYS_FUSE_CTRL (2 ^ 31 + b.val)) hl hk there
        (fuseCtrl (write32 a .SYS_FUSE_CTRL (2 ^ 31 + b.val)))
      rw [fuseCtrl_blow, k.flag, k.flag] at run
      refine ⟨_, congrArg Host.Outcome.next run, ?_⟩
    · rw [if_pos (Bool.or_eq_true_iff.mpr busy)]
      exact (k.refuses (fits (kind := 4) (by decide))).1
    · have now : u.now = s.now := k.frame.area .now (by decide)
      rw [idle, light, if_neg (by decide)]
      refine ⟨flag_setFld k.sound.regs (f := .SYS_FUSE_STATUS_BUSY) (by decide) (by decide) 1 0 0, ?_, ?_, k.only ?_ (by decide)⟩
      · exact (congrArg SysSt.fuseAt (setFld_sys ..)).trans (congrArg (fun n => some (n, b.val)) now)
      · exact (setFld_nvm ..).trans k.nvm
      · exact (((Sofar.start k.sound [.ctl, .sys] [Reg.off .SYS_FUSE_STATUS] []).setSys (by decide) _).setFld
          .SYS_FUSE_STATUS_BUSY 1 0 0 (by decide)).only
  case blown =>
    have ends := fuseDone_eq run blown _ rfl
    obtain ⟨sorted, fuses, done, user, idle, err⟩ := endBlow_shows h
      (if blown then s.nvm.fuses ||| BitVec.ofNat 32 (2 ^ b) else s.nvm.fuses)
    refine ⟨_, congrArg Host.Outcome.next ends, ?_⟩
    generalize (if blown then s.nvm.fuses ||| BitVec.ofNat 32 (2 ^ b) else s.nvm.fuses) = f at *
    rw [BitVec.testBit_toNat]
    split
    next good =>
      exact ⟨fuses, user.trans fuses.symm, idle, done, by rw [err, fuses, good]; simp⟩
    next bad =>
      have bad : f.getLsbD b = false := Bool.eq_false_iff.mpr bad
      have mark := flag_setFld sorted (f := .SYS_FUSE_STATUS_ERR) (by decide) (by decide) 1 0 0
      rw [setFld_nvm, setFld_sys, fuses]
      refine ⟨rfl, ?_, ?_, done, ?_⟩
      · exact (reg_setFld_apart sorted (f := .SYS_FUSE_STATUS_ERR) (q := .SYS_FUSE_USER) (by decide) 1 0 0 0 0).trans user
      · exact (flag_setFld_beside sorted (f := .SYS_FUSE_STATUS_ERR) (g := .SYS_FUSE_STATUS_BUSY) (by decide) 1 0 0).trans idle
      · exact iff_of_true mark (.inr bad)
  case rail =>
    have there := rail_there s a v.toNat i
    refine ⟨fun hk => ⟨_, rfl, guarded_refuses h (w := write32 a .PWR_RAIL_SET v.toNat i) hl hk there (rail_fits (by decide) a i) _⟩,
      fun hk bad => ?_, fun hk ok => ⟨fun idle => ?_, fun busy soft => ?_, fun busy keeper => ?_⟩⟩
    all_goals
      obtain ⟨u, k, run⟩ := guarded_spends h (w := write32 a .PWR_RAIL_SET v.toNat i) hk
        (railWrite (write32 a .PWR_RAIL_SET v.toNat i) i)
      refine ⟨_, congrArg Host.Outcome.next run, ?_⟩
    · rw [railWrite_bad (by rw [railValue_write32]; exact bad)]
      exact (k.refuses_near hl (rail_fits (kind := 4) (by decide) a i)).1
    all_goals rw [railWrite_ok (by rw [railValue_write32]; exact ok), k.flag]
    · obtain ⟨shown, held, frame⟩ := beginRail_shows k.sound (write32 a .PWR_RAIL_SET v.toNat i)
      rw [if_pos idle]
      exact ⟨shown, held, k.only frame (by decide)⟩
    · rw [busy, if_neg (by decide), if_neg (show ¬ (write32 a .PWR_RAIL_SET v.toNat i).agent = .keeper from soft)]
      exact (k.refuses_near hl (rail_fits (kind := 5) (by decide) a i)).1
    · rw [busy, if_neg (by decide), if_pos (show (write32 a .PWR_RAIL_SET v.toNat i).agent = .keeper from keeper)]
      exact ⟨congrArg (fun x : SysSt => x.slowPwr ++ [write32 a .PWR_RAIL_SET v.toNat i]) k.sys,
        k.only (withSys_only k.sound _) (by decide)⟩
  case bias =>
    have there : fusedOff s (write32 a .OPT_LANE_BIAS v.toNat l).off = false := there
    refine ⟨fun hk => ⟨_, rfl, guarded_refuses h (w := write32 a .OPT_LANE_BIAS v.toNat l) hl hk there (bias_fits (by decide) a l) _⟩,
      fun hk idle => ?_, fun hk busy soft => ?_, fun hk busy keeper => ?_⟩
    all_goals
      obtain ⟨u, k, run⟩ := guarded_crosses h (w := write32 a .OPT_LANE_BIAS v.toNat l) hl hk there
        (optWrite (write32 a .OPT_LANE_BIAS v.toNat l))
      refine ⟨_, congrArg Host.Outcome.next run, ?_⟩
      rw [optWrite_eq, k.flag]
    · obtain ⟨shown, held, frame⟩ := beginBias_shows k.sound (write32 a .OPT_LANE_BIAS v.toNat l)
      rw [if_pos idle]
      exact ⟨shown, held, k.only frame (by decide)⟩
    · rw [busy, if_neg (by decide), if_neg (show ¬ (write32 a .OPT_LANE_BIAS v.toNat l).agent = .keeper from soft)]
      exact (k.refuses (bias_fits (kind := 5) (by decide) a l)).1
    · rw [busy, if_neg (by decide), if_pos (show (write32 a .OPT_LANE_BIAS v.toNat l).agent = .keeper from keeper)]
      exact ⟨congrArg (fun x : SysSt => x.slowOpt ++ [write32 a .OPT_LANE_BIAS v.toNat l]) k.sys,
        k.only (withSys_only k.sound _) (by decide)⟩
  case lacking =>
    have gone : fusedOff s (write32 a .OPT_LANE_BIAS v.toNat l).off = true := gone
    refine ⟨fun hk => ?_, fun hk => ?_⟩
    · obtain ⟨u, k, run⟩ := guarded_spends h (w := write32 a .OPT_LANE_BIAS v.toNat l) hk
        (far (write32 a .OPT_LANE_BIAS v.toNat l) (optWrite (write32 a .OPT_LANE_BIAS v.toNat l)))
      rw [far_fused ((k.fusedOff _).trans gone)] at run
      exact ⟨_, congrArg Host.Outcome.next run, k.closed, k.frame⟩
    · have shut : ¬ keyOpen s (write32 a .OPT_LANE_BIAS v.toNat l).agent = true := by
        rw [show keyOpen s (write32 a .OPT_LANE_BIAS v.toNat l).agent = false from hk]
        exact Bool.false_ne_true
      exact congrArg Host.Outcome.next ((if_neg shut).trans (if_pos gone))
  case biasEnd =>
    obtain ⟨sound, idle, sys, word⟩ := endBias_shows h
    have runs : running (optDone ack) s = optDone ack s := if_neg (by rw [show s.pwr.stopped = false from up]; decide)
    refine ⟨_, congrArg Host.Outcome.next (runs.trans (optDone_one ack run)), ?_⟩
    cases ack
    · rw [if_neg Bool.false_ne_true]
      refine ⟨?_, ?_, fun _ => ⟨flag_setFld sound.regs (f := .OPT_SLOW_STATUS_NAK) (by decide) (by decide) 1 0 0, ?_⟩, nofun⟩
      · exact (flag_setFld_beside sound.regs (f := .OPT_SLOW_STATUS_NAK) (g := .OPT_SLOW_STATUS_BUSY) (by decide) 1 0 0).trans idle
      · rw [setFld_sys, sys]
      · exact (reg_setFld_apart sound.regs (f := .OPT_SLOW_STATUS_NAK) (q := .OPT_LANE_BIAS) (by decide) 1 0 0 l 0).trans (word l)
    · rw [if_pos rfl]
      obtain ⟨taken, busy, kept⟩ := biasTake_shows sound l.val v
      obtain ⟨disable, override, bias, act⟩ := biasWord_fields ((endBias s).reg .OPT_LANE_BIAS l) v (endBias s).free
      rw [← taken] at disable override bias act
      exact ⟨busy.trans idle, (congrArg SysSt.slowOpt (kept.trans sys)), nofun, fun _ => ⟨disable, override, bias, act⟩⟩
  case railEnd =>
    obtain ⟨sound, idle, sys, word⟩ := endRail_shows h
    have frame : Sofar s (endRail s) [.sys] [Reg.off .PWR_SLOW_STATUS, Reg.off .PWR_RAIL_SET i] [] :=
      ((Sofar.start h _ _ _).setSys (by decide) { s.sys with slowPwr := [] }).setFld .PWR_SLOW_STATUS_BUSY 0 0 0
        List.mem_cons_self
    refine ⟨_, congrArg Host.Outcome.next (railDone_one ack run), ?_⟩
    cases ack
    · rw [if_neg Bool.false_ne_true]
      refine ⟨?_, ?_, fun _ => ⟨flag_setFld sound.regs (f := .PWR_SLOW_STATUS_NAK) (by decide) (by decide) 1 0 0, ?_⟩, nofun,
        (frame.setFld .PWR_SLOW_STATUS_NAK 1 0 0 List.mem_cons_self).only⟩
      · exact (flag_setFld_beside sound.regs (f := .PWR_SLOW_STATUS_NAK) (g := .PWR_SLOW_STATUS_BUSY) (by decide) 1 0 0).trans idle
      · rw [setFld_sys, sys]
      · exact (reg_setFld_apart sound.regs (f := .PWR_SLOW_STATUS_NAK) (q := .PWR_RAIL_SET) (by decide) 1 0 0 i 0).trans (word i)
    · rw [if_pos rfl]
      refine ⟨?_, ?_, nofun, fun _ => ?_, (frame.setReg .PWR_RAIL_SET _ i 0 (List.mem_cons_of_mem _ (List.mem_singleton.mpr rfl))).only⟩
      · exact (flag_setReg_apart sound.regs (r := .PWR_RAIL_SET) (g := .PWR_SLOW_STATUS_BUSY) (by decide) _ i 0 0 0).trans idle
      · rw [setReg_sys, sys]
      · rw [reg_setReg sound.regs, BitVec.toNat_ofNat]
        exact Nat.mod_eq_of_lt (lt_trans (Nat.mod_lt _ (by decide)) (by decide))
end

section
/-!
SUPPORT. Keys, update strobes and the counter snapshot (R360, R363 to R366, R369, R377).
-/
namespace Sys2Proof.Machine

/-! ### Keys (R360) -/

theorem keyOf_setKey (a : Agent) (k : Option Nat) (s : State) : keyOf' (setKey a k s) a = k := by
  cases a <;> rfl

theorem keyOpen_of_key {s : State} {a : Agent} {e : Nat} (hk : keyOf' s a = some e) (he : s.now < e) : keyOpen s a = true := by
  unfold keyOpen
  rw [hk]
  exact decide_eq_true he

theorem setKey_only {s : State} (h : s.Sound) (a : Agent) (k : Option Nat) : s.Only (setKey a k s) [.ctl] [] [] := by
  unfold setKey
  split
  · exact ((Sofar.start h [.ctl] [] []).setCtl (by decide) _).only
  · exact ((Sofar.start h [.ctl] [] []).setCtl (by decide) _).only

/-- A key that is closed. -/
theorem keySpent_setKey {s : State} (h : s.Sound) (a : Agent) : KeySpent s (setKey a none s) a :=
  ⟨sound_setKey _ _ _ h, by cases a <;> exact ⟨_, rfl⟩, keyOf_setKey a none s⟩

theorem keyWrite_opens {w : RegWrite} (hv : w.val = 0x7EA5#32) (s : State) :
    keyWrite w s = setKey w.agent (some (s.now + 32768)) s := by
  unfold keyWrite
  rw [hv]
  rfl

theorem keyWrite_closes {w : RegWrite} (hv : w.val ≠ 0x7EA5#32) (s : State) :
    keyWrite w s = logNear ⟨7, w.agent, w.size, w.ali, w.off⟩ (setKey w.agent none s) :=
  if_neg fun e => hv (BitVec.eq_of_toNat_eq e)

theorem keyTimeout_of_key {s : State} {a : Agent} {e : Nat} (hk : keyOf' s a = some e) :
    keyTimeout a s = if e ≤ s.now then setKey a none s else s := by
  unfold keyTimeout
  rw [hk]

/-! ### Update strobes (R363 to R366) -/

/-- Registers and counters that what follows from new settings may write, and its areas. -/
def followTouch : Touch := ⟨8297728, 0x4680800e0000000c0000000030400005a0200000000190,
  0xc35507e74000020200000000018000024104407fffdc0c003f0⟩

theorem portApplied_keeps {T : Touch} {s0 : State} (hT : Touch.le ⟨262144, 0x180, 0x0⟩ T) (old : State) (p : Nat) (s : State)
    (h : Kept T s0 s) : Kept T s0 (portApplied old p s) := by
  unfold portApplied
  extract_lets started set mode
  have hs : Kept T s0 started := ite_holds (P := Kept T s0) (kept_startLine (tr (by decide) hT) _ _ h) h
  have hc : Kept T s0 set := ite_holds (P := Kept T s0) hs (kept_newCtStart (tr (by decide) hT) _ _ hs)
  have hm : Kept T s0 mode := ite_holds (P := Kept T s0) hc (kept_newPauseMode (tr (by decide) hT) _ _ hc)
  exact foldl_holds (P := Kept T s0) (fun _ _ hx => kept_pauseSync (tr (by decide) hT) _ _ _ hx) hm

/-- What follows from new settings writes what `followTouch` names, whatever the old settings were. -/
theorem follow_keeps (old s : State) : Kept followTouch s (follow old s) := by
  have hT : Touch.le followTouch followTouch := le_same _
  unfold follow
  extract_lets log new off on spill bound leaf gone
  have hoff : Kept followTouch s off :=
    foldl_holds (P := Kept followTouch s) (fun _ _ hx => kept_disablePort (tr (by decide) hT) _ _ hx) (.refl _ s)
  have hon : Kept followTouch s on := ite_holds (P := Kept followTouch s)
    (foldl_holds (P := Kept followTouch s) (fun _ _ hx => portApplied_keeps (tr (by decide) hT) _ _ _ hx) hoff) hoff
  have hspill : Kept followTouch s spill := kept_showSpill (tr (by decide) hT) _ (kept_planeSync (tr (by decide) hT) _ hon)
  have hbound : Kept followTouch s bound :=
    foldl_holds (P := Kept followTouch s) (fun _ _ hx => kept_boundSync (tr (by decide) hT) _ _ hx) hspill
  have hgone : Kept followTouch s gone := kept_up262144 (by decide) hbound
  exact ite_holds (P := Kept followTouch s) hgone (kept_up2097152 (by decide) hgone)

/-- No register of an update group is written by what follows. -/
theorem follow_spares : (List.range 240).all (fun n => !followTouch.r.testBit n || match regAt n with
    | some r => decide (r ∈ Reg.all) && decide (0 < r.n1) && decide (0 < r.n2) && decide (64 ≤ r.grp)
    | none => true) = true := by decide +kernel

/-- The group of an element's offset is that of its register. -/
theorem groupAt_off {r : Reg} (hr : r ∈ Reg.all) (h1 : 0 < r.n1) (h2 : 0 < r.n2) (i j : Nat) : groupAt (r.off i j) = r.grp := by
  have wrap : r.off i j = r.off (i % r.n1) (j % r.n2) := by rw [Reg.off, Reg.off, Nat.mod_mod, Nat.mod_mod]
  unfold groupAt
  rw [wrap, findReg_off hr (Nat.mod_lt i h1) (Nat.mod_lt j h2)]

theorem follow_regs {old s : State} (ho : old.Sound) (h : s.Sound) {q : Nat} (hq : groupAt q < 64) :
    SMap.get? (follow old s).regs q = SMap.get? s.regs q := by
  refine SMap.get?_of_ents (sound_follow _ _ ho h).regs h.regs ((follow_keeps old s).regs (by decide) q ?_)
  rintro r hr ⟨i, j, rfl⟩
  rcases hr with hr | ⟨n, hn, hb⟩
  · exact absurd hr (by decide)
  · have spared := List.all_eq_true.mp follow_spares n (List.mem_range.mpr (regAt_lt hn))
    rw [hb, hn] at spared
    simp only [Bool.not_true, Bool.false_or, Bool.and_eq_true, decide_eq_true_eq] at spared
    obtain ⟨⟨⟨hm, h1⟩, h2⟩, hg⟩ := spared
    rw [groupAt_off hm h1 h2] at hq
    omega

theorem get?_union {α : Type} {m n : SMap α} (hm : m.sorted = true) (hn : n.sorted = true) (q : Nat) :
    SMap.get? (SMap.union m n) q = (SMap.get? n q).or (SMap.get? m q) := by
  induction n generalizing m with
  | nil => rfl
  | cons e n ih =>
    obtain ⟨k, v⟩ := e
    obtain ⟨above, hn⟩ := SMap.sorted_cons.1 hn
    rw [SMap.union, ih (SMap.sorted_insert hm k v) hn, SMap.get?]
    by_cases hk : q = k
    · subst hk
      rw [if_pos rfl, SMap.get?_insert_self, SMap.get?_above above (Nat.le_refl _)]
      rfl
    · rw [if_neg hk, SMap.get?_insert_ne hk hm]
      split
      next lt => rw [SMap.get?_above above (Nat.le_of_lt lt)]
      next => rfl

/-- The groups that a strobe names and that have pending writes. -/
def strobed (mask : Nat) (s : State) : Nat := (s.reg .SYS_UPDATE_PENDING).toNat &&& mask

/-- Of pending groups those that are named are taken away. -/
theorem clear_pending (p m : Word) : BitVec.ofNat 32 (p.toNat - (p.toNat &&& m.toNat)) = p &&& ~~~m := by
  have parts : p = (p &&& ~~~m) + (p &&& m) := by
    rw [BitVec.add_eq_or_of_and_eq_zero]
    · ext i hi
      simp only [BitVec.getElem_or, BitVec.getElem_and, BitVec.getElem_not]
      cases p[i] <;> cases m[i] <;> rfl
    · ext i hi
      simp only [BitVec.getElem_and, BitVec.getElem_not, BitVec.getElem_zero]
      cases p[i] <;> cases m[i] <;> rfl
  have le : p &&& m ≤ p := BitVec.le_def.mpr (by rw [BitVec.toNat_and]; exact Nat.and_le_left)
  rw [← BitVec.toNat_and, ← BitVec.toNat_sub_of_le le, BitVec.ofNat_toNat, BitVec.setWidth_eq]
  exact (eq_sub_of_add_eq parts.symm).symm

/-- A setting of a strobed group. -/
def strobes (mask : Nat) (s : State) (q : Nat) : Bool := (strobed mask s).testBit (groupAt q)

/-- The settings of the strobed groups are those that were staged. -/
def applied (mask : Nat) (s : State) : State :=
  { s with regs := SMap.union (SMap.keep s.regs fun q => !strobes mask s q) (SMap.keep s.shadow (strobes mask s)) }

theorem applyGroups_eq (mask : Nat) (s : State) : applyGroups mask s = (applied mask s).setReg .SYS_UPDATE_PENDING
    (BitVec.ofNat 32 (((applied mask s).reg .SYS_UPDATE_PENDING).toNat - strobed mask s)) := rfl

theorem sound_applied {s : State} (h : s.Sound) (mask : Nat) : (applied mask s).Sound :=
  { h with regs := SMap.sorted_union (SMap.sorted_keep h.regs _) _ }

theorem applied_regs {s : State} (h : s.Sound) (mask q : Nat) : SMap.get? (applied mask s).regs q =
    if strobes mask s q = true then SMap.get? s.shadow q else SMap.get? s.regs q := by
  refine (get?_union (SMap.sorted_keep h.regs _) (SMap.sorted_keep h.shadow _) q).trans ?_
  split
  next hit =>
    rw [get?_keep_in h.shadow hit, get?_keep_out (by rw [hit]; rfl), Option.or_none]
  next miss =>
    have miss : strobes mask s q = false := Bool.eq_false_iff.mpr miss
    rw [get?_keep_out miss, get?_keep_in h.regs (by rw [miss]; rfl), Option.none_or]

theorem strobed_lt (mask : Nat) (s : State) : strobed mask s < 2 ^ 64 :=
  lt_of_le_of_lt Nat.and_le_left (lt_trans (s.reg .SYS_UPDATE_PENDING).isLt (by decide))

theorem groupAt_pending : groupAt (Reg.off .SYS_UPDATE_PENDING) = 64 :=
  groupAt_off (by decide +kernel) (by decide) (by decide) 0 0

theorem applied_pending {s : State} (h : s.Sound) (mask : Nat) :
    (applied mask s).reg .SYS_UPDATE_PENDING = s.reg .SYS_UPDATE_PENDING := by
  have miss : strobes mask s (Reg.off .SYS_UPDATE_PENDING) = false := by
    rw [strobes, groupAt_pending]
    exact Nat.testBit_eq_false_of_lt (strobed_lt mask s)
  have same := applied_regs h mask (Reg.off .SYS_UPDATE_PENDING)
  rw [miss, if_neg Bool.false_ne_true] at same
  unfold State.reg SMap.getD
  rw [same]

/-- The strobed groups take what was staged and have no pending writes any more, and no other setting changes (R365). -/
theorem strobe_shows {s : State} (h : s.Sound) (mask : Word) :
    (strobe mask.toNat s).reg .SYS_UPDATE_PENDING = s.reg .SYS_UPDATE_PENDING &&& ~~~mask
    ∧ (strobe mask.toNat s).sys.strobeHi = 0#32 ∧ (strobe mask.toNat s).shadow = s.shadow
    ∧ ∀ q, groupAt q < 64 → SMap.get? (strobe mask.toNat s).regs q =
      if (s.reg .SYS_UPDATE_PENDING).toNat.testBit (groupAt q) = true ∧ mask.toNat.testBit (groupAt q) = true then
        SMap.get? s.shadow q else SMap.get? s.regs q := by
  have h0 := sound_withSys h { s.sys with strobeHi := 0#32 }
  have pending0 : (withSys { s.sys with strobeHi := 0#32 } s).reg .SYS_UPDATE_PENDING = s.reg .SYS_UPDATE_PENDING := rfl
  have run : strobe mask.toNat s = follow s (applyGroups mask.toNat (withSys { s.sys with strobeHi := 0#32 } s)) := rfl
  have sys : (withSys { s.sys with strobeHi := 0#32 } s).sys.strobeHi = 0#32 := rfl
  have shadow : (withSys { s.sys with strobeHi := 0#32 } s).shadow = s.shadow := rfl
  have regs : (withSys { s.sys with strobeHi := 0#32 } s).regs = s.regs := rfl
  rw [run]
  generalize withSys { s.sys with strobeHi := 0#32 } s = u at *
  have ha := sound_applied h0 mask.toNat
  have hg := sound_applyGroups mask.toNat u h0
  have kept := follow_keeps s (applyGroups mask.toNat u)
  have hf := sound_follow s _ h hg
  refine ⟨?_, ?_, ?_, fun q hq => ?_⟩
  · rw [kept.reg hg hf (by decide +kernel), applyGroups_eq, reg_setReg ha.regs, applied_pending h0, strobed, clear_pending,
      pending0]
  · rw [kept.sys (by decide), applyGroups_eq, setReg_sys]
    exact sys
  · rw [kept.shadow (by decide), applyGroups_eq, setReg_shadow]
    exact shadow
  · have apart : q ≠ Reg.off .SYS_UPDATE_PENDING := by
      rintro rfl
      rw [groupAt_pending] at hq
      exact absurd hq (by decide)
    have named : strobes mask.toNat u q = true ↔ (s.reg .SYS_UPDATE_PENDING).toNat.testBit (groupAt q) = true
        ∧ mask.toNat.testBit (groupAt q) = true := by
      rw [strobes, strobed, pending0, Nat.testBit_and, Bool.and_eq_true]
    have stays : SMap.get? (applyGroups mask.toNat u).regs q = SMap.get? (applied mask.toNat u).regs q :=
      SMap.get?_put_ne ha.regs apart _ _
    rw [follow_regs h hg hq, stays, applied_regs h0, shadow, regs]
    exact if_congr named rfl rfl

/-! ### The snapshot (R369) -/

theorem take_fields (a : Agent) (clear view : Bool) :
    Fld.SYS_SNAP_CTRL_TAKE.get (write32 a .SYS_SNAP_CTRL (1 + 2 * b2n clear + 4 * b2n view)).val = 1
    ∧ (Fld.SYS_SNAP_CTRL_CLEAR.get (write32 a .SYS_SNAP_CTRL (1 + 2 * b2n clear + 4 * b2n view)).val == 1) = clear
    ∧ Fld.SYS_SNAP_CTRL_VIEW.get (write32 a .SYS_SNAP_CTRL (1 + 2 * b2n clear + 4 * b2n view)).val = b2n view := by
  have fields : ∀ c v : Bool, Fld.SYS_SNAP_CTRL_TAKE.get (BitVec.ofNat 32 (1 + 2 * b2n c + 4 * b2n v)) = 1
      ∧ (Fld.SYS_SNAP_CTRL_CLEAR.get (BitVec.ofNat 32 (1 + 2 * b2n c + 4 * b2n v)) == 1) = c
      ∧ Fld.SYS_SNAP_CTRL_VIEW.get (BitVec.ofNat 32 (1 + 2 * b2n c + 4 * b2n v)) = b2n v := by decide
  exact fields clear view

/-- VIEW as it is written. -/
def viewed (v : Bool) (s : State) : State := s.setFld .SYS_SNAP_CTRL_VIEW (b2n v)

theorem snapCtrl_take (a : Agent) (clear view : Bool) (s : State) :
    snapCtrl (write32 a .SYS_SNAP_CTRL (1 + 2 * b2n clear + 4 * b2n view)) s =
      if s.flag .SYS_SNAP_STATUS_COPYING then
        if s.sys.snapAt = some s.regClk then snapJoin clear (viewed view s)
        else logWrite 4 (write32 a .SYS_SNAP_CTRL (1 + 2 * b2n clear + 4 * b2n view)) s
      else snapshot clear (withSys { s.sys with snapAt := some s.regClk } (viewed view s)) := by
  obtain ⟨take, clears, views⟩ := take_fields a clear view
  unfold snapCtrl
  rw [take, clears, views, if_pos rfl]
  rfl

theorem viewed_shows {s : State} (h : s.Sound) (v : Bool) : (viewed v s).Sound ∧ (viewed v s).flag .SYS_SNAP_CTRL_VIEW = v
    ∧ (viewed v s).flag .SYS_SNAP_STATUS_COPYING = s.flag .SYS_SNAP_STATUS_COPYING ∧ (viewed v s).cnts = s.cnts
    ∧ (viewed v s).hold = s.hold := by
  unfold viewed
  refine ⟨sound_State_setFld _ _ _ _ _ h, ?_, flag_setFld_apart h.regs (by decide) _ 0 0 0 0, setFld_cnts .., setFld_hold ..⟩
  rw [flag_setFld h.regs (by decide) (by decide)]
  cases v <;> decide

/-- Of a map whose low keys come first, a key is read from its part. -/
theorem get?_append {α : Type} {m n : SMap α} {b : Nat} (low : ∀ e ∈ m, e.1 < b) (high : ∀ e ∈ n, b ≤ e.1) (hm : m.sorted = true)
    (hn : n.sorted = true) (q : Nat) : SMap.get? (m ++ n) q = if q < b then SMap.get? m q else SMap.get? n q := by
  induction m with
  | nil =>
    split
    next lt =>
      cases n with
      | nil => rfl
      | cons e n =>
        obtain ⟨k, v⟩ := e
        have above : b ≤ k := high (k, v) List.mem_cons_self
        exact (if_neg (by omega)).trans (if_pos (by omega))
    next => rfl
  | cons e m ih =>
    obtain ⟨k, v⟩ := e
    obtain ⟨above, hm⟩ := SMap.sorted_cons.1 hm
    have hk := low (k, v) List.mem_cons_self
    rw [List.cons_append, SMap.get?, SMap.get?, ih (fun e he => low e (List.mem_cons_of_mem _ he)) hm]
    by_cases e : q = k
    · rw [if_pos e, if_pos (by omega), if_pos e]
    · rw [if_neg e, if_neg e]
      by_cases lt : q < k
      · rw [if_pos lt, if_pos (by omega), if_pos lt]
      · rw [if_neg lt, if_neg lt]

theorem isFar_iff {q : Nat} : isFar q = true ↔ q < 0x1000000 := decide_eq_true_iff

theorem keep_far {α : Type} {m : SMap α} (hm : m.sorted = true) (q : Nat) :
    SMap.get? (SMap.keep m isFar) q = if q < 0x1000000 then SMap.get? m q else none := by
  split
  next lt => exact get?_keep_in hm (isFar_iff.mpr lt)
  next ge => exact get?_keep_out (Bool.eq_false_iff.mpr fun e => ge (isFar_iff.mp e))

theorem keep_near {α : Type} {m : SMap α} (hm : m.sorted = true) (q : Nat) :
    SMap.get? (SMap.keep m fun k => !isFar k) q = if q < 0x1000000 then none else SMap.get? m q := by
  split
  next lt => exact get?_keep_out (by rw [isFar_iff.mpr lt]; rfl)
  next ge => exact get?_keep_in hm (by rw [Bool.eq_false_iff.mpr fun e => ge (isFar_iff.mp e)]; rfl)

/-- The counters of the switch die from one map, those of the control die from another. -/
theorem get?_far_near {α : Type} {m n : SMap α} (hm : m.sorted = true) (hn : n.sorted = true) (q : Nat) :
    SMap.get? (SMap.keep m isFar ++ SMap.keep n fun k => !isFar k) q
      = if q < 0x1000000 then SMap.get? m q else SMap.get? n q := by
  rw [get?_append (b := 0x1000000) ?low ?high (SMap.sorted_keep hm _) (SMap.sorted_keep hn _), keep_far hm, keep_near hn]
  · split <;> rfl
  · exact fun e he => isFar_iff.mp (List.mem_filter.mp he).2
  · intro e he
    have near := (List.mem_filter.mp he).2
    rw [Bool.not_eq_true', Bool.eq_false_iff] at near
    exact Nat.le_of_not_lt fun lt => near (isFar_iff.mpr lt)

/-- What a snapshot copies at once, and clears. -/
def farCopied (clear : Bool) (s : State) : State :=
  { s with
    hold := SMap.keep s.cnts isFar ++ SMap.keep s.hold (fun k => !isFar k)
    cnts := if clear then SMap.keep s.cnts (fun k => !isFar k) else s.cnts
    sys := { s.sys with snapClear := clear } }

theorem snapshot_shows {s : State} (h : s.Sound) (clear : Bool) :
    (snapshot clear s).flag .SYS_SNAP_STATUS_COPYING = true ∧ (snapshot clear s).flag .SYS_SNAP_STATUS_DONE = false
    ∧ (snapshot clear s).flag .SYS_SNAP_CTRL_VIEW = s.flag .SYS_SNAP_CTRL_VIEW ∧ (snapshot clear s).sys.snapAt = s.sys.snapAt
    ∧ (snapshot clear s).hold = (farCopied clear s).hold ∧ (snapshot clear s).cnts = (farCopied clear s).cnts := by
  have run : snapshot clear s = ((farCopied clear s).setFld .SYS_SNAP_STATUS_DONE 0).setFld .SYS_SNAP_STATUS_COPYING 1 := rfl
  have regs : (farCopied clear s).regs.sorted = true := h.regs
  have view : (farCopied clear s).flag .SYS_SNAP_CTRL_VIEW = s.flag .SYS_SNAP_CTRL_VIEW := rfl
  have at_ : (farCopied clear s).sys.snapAt = s.sys.snapAt := rfl
  rw [run]
  generalize farCopied clear s = u at *
  have regs1 := sorted_setFld regs .SYS_SNAP_STATUS_DONE 0 0 0
  refine ⟨flag_setFld regs1 (by decide) (by decide) 1 0 0, ?_, ?_, ?_, ?_, ?_⟩
  · rw [flag_setFld_beside regs1 (by decide)]
    exact flag_setFld regs (by decide) (by decide) 0 0 0
  · rw [flag_setFld_apart regs1 (by decide), flag_setFld_apart regs (by decide), view]
  · rw [setFld_sys, setFld_sys, at_]
  · rw [setFld_hold, setFld_hold]
  · rw [setFld_cnts, setFld_cnts]

/-- What is copied, and cleared where CLEAR is set, when a snapshot ends. -/
def nearCopied (s : State) : State :=
  { s with
    hold := SMap.keep s.hold isFar ++ SMap.keep s.cnts (fun k => !isFar k)
    cnts := if s.sys.snapClear then SMap.keep s.cnts isFar else s.cnts }

theorem snapDone_shows {s : State} (h : s.Sound) (copying : s.flag .SYS_SNAP_STATUS_COPYING = true) :
    (snapDone s).flag .SYS_SNAP_STATUS_COPYING = false ∧ (snapDone s).flag .SYS_SNAP_STATUS_DONE = true
    ∧ (snapDone s).fld .SYS_SNAP_STATUS_SEQ = (s.fld .SYS_SNAP_STATUS_SEQ + 1) % 65536
    ∧ (snapDone s).hold = (nearCopied s).hold ∧ (snapDone s).cnts = (nearCopied s).cnts := by
  have run : snapDone s = (((nearCopied s).setFld .SYS_SNAP_STATUS_DONE 1).setFld .SYS_SNAP_STATUS_COPYING 0).setFld
      .SYS_SNAP_STATUS_SEQ ((((nearCopied s).setFld .SYS_SNAP_STATUS_DONE 1).setFld .SYS_SNAP_STATUS_COPYING 0).fld
        .SYS_SNAP_STATUS_SEQ + 1) := if_pos copying
  have regs : (nearCopied s).regs.sorted = true := h.regs
  have seq : (nearCopied s).fld .SYS_SNAP_STATUS_SEQ = s.fld .SYS_SNAP_STATUS_SEQ := rfl
  rw [run]
  generalize nearCopied s = u at *
  have regs1 := sorted_setFld regs .SYS_SNAP_STATUS_DONE 1 0 0
  have regs2 := sorted_setFld regs1 .SYS_SNAP_STATUS_COPYING 0 0 0
  refine ⟨?_, ?_, ?_, ?_, ?_⟩
  · rw [flag_setFld_beside regs2 (by decide)]
    exact flag_setFld regs1 (by decide) (by decide) 0 0 0
  · rw [flag_setFld_beside regs2 (by decide), flag_setFld_beside regs1 (by decide)]
    exact flag_setFld regs (by decide) (by decide) 1 0 0
  · rw [fld_setFld regs2 (by decide) (by decide), fld_setFld_ne (f := .SYS_SNAP_STATUS_COPYING) (g := .SYS_SNAP_STATUS_SEQ) regs1
      (by decide) (by decide) rfl (by decide), fld_setFld_ne (f := .SYS_SNAP_STATUS_DONE) (g := .SYS_SNAP_STATUS_SEQ) regs
      (by decide) (by decide) rfl (by decide), seq]
    rfl
  · rw [setFld_hold, setFld_hold, setFld_hold]
  · rw [setFld_cnts, setFld_cnts, setFld_cnts]

end Sys2Proof.Machine
end

section
open Sys2Proof Sys2Proof.Machine

/-- Settles O52: keys that are written or run out, a strobe (`strobe_shows`), and what a snapshot copies at once
(`snapshot_shows`) and at its end (`snapDone_shows`). -/
theorem keysStrobesAndSnapshots : Obligations.KeysStrobesAndSnapshots := by
  unfold Obligations.KeysStrobesAndSnapshots
  refine ⟨fun s a v h hl => ⟨fun hv => ?opens, fun hv => ?closes⟩, fun s a e h hk => ⟨fun early => ?early, fun late => ?late⟩,
    fun s a v h hl => ?high, fun s a mask h hl => ?strobe, fun s a clear view h hl => ?take,
    fun s idle => congrArg Host.Outcome.next (if_neg (by rw [idle]; exact Bool.false_ne_true)), fun s h copying => ?done⟩
  case opens =>
    refine ⟨_, congrArg Host.Outcome.next (keyWrite_opens ((write32_val a .SYS_KEY v 0).trans hv) s), keyOf_setKey .., ?_,
      setKey_only h a _⟩
    have now : (setKey a (some (s.now + 32768)) s).now = s.now := (setKey_only h a _).area .now (by decide)
    exact keyOpen_of_key (keyOf_setKey a (some (s.now + 32768)) s) (now.trans_lt (by omega))
  case closes =>
    obtain ⟨logged, closed⟩ := (keySpent_setKey h a).refuses_near hl (f := ⟨7, a, 2, 0, Reg.off .SYS_KEY⟩)
      (AccFault.fits_mk (by decide) (by decide) (by decide) (by decide))
    exact ⟨_, congrArg Host.Outcome.next (keyWrite_closes (fun e => hv ((write32_val a .SYS_KEY v 0).symm.trans e)) s),
      closed, logged⟩
  case early =>
    exact congrArg Host.Outcome.next ((keyTimeout_of_key hk).trans (if_neg (by omega)))
  case late =>
    exact ⟨_, congrArg Host.Outcome.next ((keyTimeout_of_key hk).trans (if_pos late)), keyOf_setKey .., setKey_only h a none⟩
  case high =>
    have there := fusedOff_write32 (r := .SYS_UPDATE_STROBE_HI) (by decide +kernel) (i := 0) (by decide) (by decide) (by decide) s a
      v.toNat
    have hs := (Sends.refl h).send 0 0 1 0
    refine ⟨_, congrArg Host.Outcome.next (far_linked hl there), ?_, hs.only ?_ (by decide)⟩
    · exact congrArg (fun x : SysSt => { x with strobeHi := v }) hs.sys
    · exact ((Sofar.start hs.sound [.sys, .ctl] [] []).setSys (by decide) _).only
  case strobe =>
    have there := fusedOff_write32 (r := .SYS_UPDATE_STROBE) (by decide +kernel) (i := 0) (by decide) (by decide) (by decide) s a
      mask.toNat
    have hs := (Sends.refl h).send 0 0 1 0
    obtain ⟨pending, high, shadow, settings⟩ := strobe_shows hs.sound mask
    have shadow' : (idlSend 0 0 1 0 s).shadow = s.shadow := by obtain ⟨-, m, e⟩ := hs; rw [e]
    rw [reg_congr hs.regs] at pending settings
    rw [shadow'] at shadow settings
    rw [hs.regs] at settings
    exact ⟨_, congrArg Host.Outcome.next (far_linked hl there), pending, high, shadow, settings⟩
  case take =>
    have there := fusedOff_write32 (r := .SYS_SNAP_CTRL) (by decide +kernel) (i := 0) (by decide) (by decide) (by decide) s a
      (1 + 2 * b2n clear + 4 * b2n view)
    have hs := (Sends.refl h).send 0 0 1 0
    have run : exec (.snapshotTake a clear view) s = .next _ :=
      congrArg Host.Outcome.next ((far_linked (op := snapCtrl (write32 a .SYS_SNAP_CTRL (1 + 2 * b2n clear + 4 * b2n view)))
        hl there).trans (snapCtrl_take a clear view (idlSend 0 0 1 0 s)))
    have clk : (idlSend 0 0 1 0 s).regClk = s.regClk := by obtain ⟨-, m, e⟩ := hs; rw [e]; rfl
    rw [hs.flag, hs.sys, clk] at run
    obtain ⟨sound, shown, busy, cnts, hold⟩ := viewed_shows hs.sound view
    rw [hs.flag] at busy
    rw [hs.cnts] at cnts
    rw [hs.hold] at hold
    refine ⟨fun copying later => ⟨_, run, ?_⟩, fun copying same => ⟨_, run, ?_⟩, fun idle => ⟨_, run, ?_⟩⟩
    · rw [if_pos copying, if_neg later]
      exact hs.logged (f := ⟨4, a, 2, 0, Reg.off .SYS_SNAP_CTRL⟩)
        (AccFault.fits_mk (by decide) (by decide) (by decide) (by decide))
    · have sys : (viewed view (idlSend 0 0 1 0 s)).sys = s.sys := (setFld_sys ..).trans hs.sys
      rw [if_pos copying, if_pos same]
      generalize viewed view (idlSend 0 0 1 0 s) = u at *
      cases clear
      · exact ⟨busy.trans copying, shown, hold, congrArg SysSt.snapClear sys, fun q _ => congrArg (SMap.get? · q) cnts,
          fun q _ => congrArg (SMap.get? · q) cnts⟩
      · refine ⟨busy.trans copying, shown, hold, rfl, fun q hq => ?_, fun q hq => ?_⟩
        · exact (keep_near sound.cnts q).trans (if_pos hq)
        · exact (keep_near sound.cnts q).trans ((if_neg (by omega)).trans (congrArg (SMap.get? · q) cnts))
    · rw [if_neg (by rw [idle]; exact Bool.false_ne_true)]
      have sound' := sound_withSys sound { s.sys with snapAt := some s.regClk }
      obtain ⟨copies, done, view', at_, held, left⟩ := snapshot_shows sound' clear
      refine ⟨copies, done, view'.trans shown, at_, fun q hq => ⟨?_, ?_⟩, fun q hq => ?_⟩
      · rw [held]
        exact (get?_far_near sound.cnts sound.hold q).trans ((if_pos hq).trans (congrArg (SMap.get? · q) cnts))
      · rw [left]
        cases clear
        · exact congrArg (SMap.get? · q) cnts
        · exact (keep_near sound.cnts q).trans (if_pos hq)
      · rw [held]
        exact (get?_far_near sound.cnts sound.hold q).trans ((if_neg (by omega)).trans (congrArg (SMap.get? · q) hold))
  case done =>
    obtain ⟨idle, done, seq, held, left⟩ := snapDone_shows h copying
    refine ⟨_, rfl, idle, done, seq, fun q hq => ?_, fun q hq => ?_⟩
    all_goals rw [held, left]
    · refine ⟨(get?_far_near h.hold h.cnts q).trans (if_neg (by omega)), ?_⟩
      cases hc : s.sys.snapClear
      · exact congrArg (SMap.get? · q) (if_neg (by rw [hc]; exact Bool.false_ne_true))
      · exact (congrArg (SMap.get? · q) (if_pos hc)).trans ((keep_far h.cnts q).trans (if_neg (by omega)))
    · refine ⟨(get?_far_near h.hold h.cnts q).trans (if_pos hq), ?_⟩
      cases hc : s.sys.snapClear
      · exact congrArg (SMap.get? · q) (if_neg (by rw [hc]; exact Bool.false_ne_true))
      · exact (congrArg (SMap.get? · q) (if_pos hc)).trans ((keep_far h.cnts q).trans (if_pos hq))
end

section
/-!
SUPPORT. What the resets of the switch die and of the keeper domain leave (R402 to R404), register by register.
-/
namespace Sys2Proof.Machine

/-! ### Elements that a function spares -/

/-- Every register that T names is one of those of `ok`. -/
def namesOnly (T : Touch) (ok : Reg → Bool) : Bool := !T.a.testBit 0 && (List.range 240).all fun n =>
  !T.r.testBit n || match regAt n with
    | some r => ok r
    | none => true

/-- An offset of no such register reads as before. -/
theorem Kept.spares {T : Touch} {s t : State} (k : Kept T s t) (hs : s.regs.sorted = true) (ht : t.regs.sorted = true)
    {ok : Reg → Bool} (names : namesOnly T ok = true) {q : Nat} (apart : ∀ r, ok r = true → ¬ r.spans q) :
    SMap.get? t.regs q = SMap.get? s.regs q := by
  rw [namesOnly, Bool.and_eq_true, Bool.not_eq_true', List.all_eq_true] at names
  obtain ⟨none_, each⟩ := names
  refine SMap.get?_of_ents ht hs (k.regs none_ q fun r hr => ?_)
  rcases hr with hr | ⟨n, hn, hb⟩
  · rw [none_] at hr
    cases hr
  · have := each n (List.mem_range.mpr (regAt_lt hn))
    rw [hb, hn] at this
    exact apart r (by simpa using this)

/-- The register lies in a range of offsets. -/
def within (lo hi : Nat) (r : Reg) : Bool :=
  decide (lo ≤ r.base) && decide (lastOf r.base r.s1 r.n1 r.s2 r.n2 < hi) && decide (0 < r.n1) && decide (0 < r.n2)

theorem spans_within {lo hi q : Nat} {r : Reg} (h : within lo hi r = true) (hs : r.spans q) : lo ≤ q ∧ q < hi := by
  simp only [within, Bool.and_eq_true, decide_eq_true_eq] at h
  obtain ⟨⟨⟨low, high⟩, h1⟩, h2⟩ := h
  obtain ⟨i, j, rfl⟩ := hs
  have base : r.base ≤ r.off i j := by
    unfold Reg.off
    omega
  have last := off_le_last (b := r.base) (s1 := r.s1) (s2 := r.s2) (Nat.mod_lt i h1) (Nat.mod_lt j h2)
  rw [Nat.mod_mod, Nat.mod_mod] at last
  exact ⟨low.trans base, lt_of_le_of_lt last high⟩

/-- A function that names registers of the control die alone leaves those of the switch die. -/
theorem Kept.far_regs {T : Touch} {s t : State} (k : Kept T s t) (hs : s.regs.sorted = true) (ht : t.regs.sorted = true)
    (names : namesOnly T (within 0x1000000 0x10000000) = true) {q : Nat} (hq : q < 0x1000000) :
    SMap.get? t.regs q = SMap.get? s.regs q :=
  k.spares hs ht names fun r hr hs => absurd (spans_within hr hs).1 (by omega)

/-- A function that names registers of the switch die alone leaves those of the control die. -/
theorem Kept.near_regs {T : Touch} {s t : State} (k : Kept T s t) (hs : s.regs.sorted = true) (ht : t.regs.sorted = true)
    (names : namesOnly T (within 0 0x1000000) = true) {q : Nat} (hq : 0x1000000 ≤ q) :
    SMap.get? t.regs q = SMap.get? s.regs q :=
  k.spares hs ht names fun r hr hs => absurd (spans_within hr hs).2 (by omega)

/-! ### The switch die (R403) -/

/-- What a reset switch die shows anew. -/
def shownRegs : List Nat :=
  [Reg.off .SYS_FUSE_USER, Reg.off .BUF_RETIRE_STATUS, Reg.off .IDL_STATUS, Reg.off .BUF_CARVE_STATUS]

/-- The register is one word, at one of the offsets. -/
def oneOf (l : List Nat) (r : Reg) : Bool := l.contains r.base && r.n1 == 1 && r.n2 == 1

theorem spans_oneOf {l : List Nat} {q : Nat} {r : Reg} (h : oneOf l r = true) (hs : r.spans q) : q ∈ l := by
  simp only [oneOf, Bool.and_eq_true, List.contains_iff_mem, beq_iff_eq] at h
  obtain ⟨⟨listed, h1⟩, h2⟩ := h
  obtain ⟨i, j, rfl⟩ := hs
  rwa [Reg.off, h1, h2, Nat.mod_one, Nat.mod_one]

theorem showFixed_cnts (s : State) : (showFixed s).cnts = s.cnts := by
  have used (s : State) : (showUsed s).cnts = s.cnts := setFld_cnts ..
  unfold showFixed
  dsimp only
  split
  · rw [setReg_cnts, setReg_cnts, used, setReg_cnts]
  · rw [setReg_cnts, used, setReg_cnts]

/-- What the reset of the switch die leaves. -/
structure SwitchCleared (rws : Bool) (s t : State) : Prop where
  sound : t.Sound
  regs : ∀ q, q ∉ shownRegs → SMap.get? t.regs q = if keptReg rws q = true then SMap.get? s.regs q else none
  cnts : t.cnts = SMap.keep s.cnts (fun k => decide (controlBase ≤ k))
  shadow : t.shadow = []
  mem : t.host.mem = s.host.mem
  tbl : t.tbl = {}
  leaf : t.leaf = {}
  tm : t.tm = {}
  pwr : t.pwr = { s.pwr with stopped := true }
  part : t.sys.part = s.sys.part
  pend : t.nvm.bootPend = s.nvm.bootPend
  now : t.now = s.now

/-- The fuses after a blow that is cut off, and what else it leaves. -/
theorem fuseCut_leaves (s : State) : (fuseCut s).regs = s.regs ∧ (fuseCut s).cnts = s.cnts ∧ (fuseCut s).host = s.host
    ∧ (fuseCut s).pwr = s.pwr ∧ (fuseCut s).sys.part = s.sys.part ∧ (fuseCut s).nvm.bootPend = s.nvm.bootPend
    ∧ (fuseCut s).now = s.now := by
  unfold fuseCut
  split
  · exact ⟨rfl, rfl, rfl, rfl, rfl, rfl, rfl⟩
  · exact ⟨rfl, rfl, rfl, rfl, rfl, rfl, rfl⟩

theorem switchReset_clears {s : State} (h : s.Sound) (rws : Bool) : SwitchCleared rws s (switchReset rws s) := by
  obtain ⟨cutRegs, cutCnts, cutHost, cutPwr, cutPart, cutPend, cutNow⟩ := fuseCut_leaves s
  have sound := sound_switchReset rws s h
  obtain ⟨u, run, regs, cnts, shadow, mem, tbl, leaf, tm, pwr, part, pend, now⟩ : ∃ u, switchReset rws s = showFixed u
      ∧ u.regs = SMap.keep (fuseCut s).regs (keptReg rws)
      ∧ u.cnts = SMap.keep (fuseCut s).cnts (fun k => decide (controlBase ≤ k)) ∧ u.shadow = []
      ∧ u.host.mem = (fuseCut s).host.mem ∧ u.tbl = {} ∧ u.leaf = {} ∧ u.tm = {} ∧ u.pwr = { (fuseCut s).pwr with stopped := true }
      ∧ u.sys.part = (fuseCut s).sys.part ∧ u.nvm.bootPend = (fuseCut s).nvm.bootPend ∧ u.now = (fuseCut s).now :=
    ⟨_, rfl, rfl, rfl, rfl, rfl, rfl, rfl, rfl, rfl, rfl, rfl, rfl⟩
  rw [cutRegs] at regs
  rw [cutCnts] at cnts
  rw [cutHost] at mem
  rw [cutPwr] at pwr
  rw [run] at sound ⊢
  have k := kept_showFixed (le_same _) u (.refl _ u)
  have sorted : u.regs.sorted = true := by
    rw [regs]
    exact SMap.sorted_keep h.regs _
  refine ⟨sound, fun q hq => ?_, (showFixed_cnts u).trans cnts, (k.shadow (by decide)).trans shadow,
    (congrArg HostSt.mem (k.host (by decide))).trans mem, (k.tbl (by decide)).trans tbl, (k.leaf (by decide)).trans leaf,
    (k.tm (by decide)).trans tm, (k.pwr (by decide)).trans pwr, (congrArg SysSt.part (k.sys (by decide))).trans (part.trans cutPart),
    (congrArg NvmSt.bootPend (k.nvm (by decide))).trans (pend.trans cutPend), (k.now (by decide)).trans (now.trans cutNow)⟩
  rw [k.spares sorted sound.regs (ok := oneOf shownRegs) (by decide +kernel) (fun r hr hs => hq (spans_oneOf hr hs)), regs]
  split
  next kept => exact get?_keep_in h.regs kept
  next gone => exact get?_keep_out (Bool.eq_false_iff.mpr gone)

/-! ### The keeper domain (R403) -/

/-- The supply side of a module whose keeper domain has been reset. -/
def keeperPwr (x : PwrSt) : PwrSt := { x with
  railFails := 0, railFaultAt := none, steepAt := none, steepLate := false, dusk := none, duskEndAt := none,
  abandoned := false, shed := [], dummy := false, lowSince := none, appHeld := true, ledHeld := none }

/-- What the reset of the keeper domain leaves. -/
structure KeeperCleared (s t : State) : Prop where
  sound : t.Sound
  regs : ∀ q < 0x1000000, SMap.get? t.regs q = SMap.get? s.regs q
  cnts : t.cnts = SMap.keep s.cnts (fun k => decide (k < controlBase))
  shadow : t.shadow = s.shadow
  host : t.host = s.host
  tbl : t.tbl = s.tbl
  leaf : t.leaf = s.leaf
  tm : t.tm = s.tm
  pwr : t.pwr = keeperPwr s.pwr
  now : t.now = s.now

/-- The registers that show flash and the shed order anew. -/
def showKeeper (w : Word) (s : State) : State := showOrder (showFlash (s.setReg .PWR_STATUS w))

/-- Registers that `showKeeper` writes. -/
def showKeeperTouch : Touch := ⟨0, 0x180880000000000000000000000000000000000000000000000, 0x0⟩

theorem kept_showKeeper (w : Word) (s : State) : Kept showKeeperTouch s (showKeeper w s) :=
  kept_showOrder (by decide) _ (kept_showFlash (by decide) _ (kept_State_setReg _ _ _ _ _ (.refl _ s)
    (hasR_of ixR_PWR_STATUS (by decide) (le_same _))))

theorem showKeeper_cnts (w : Word) (s : State) : (showKeeper w s).cnts = s.cnts := by
  have order (s : State) : (showOrder s).cnts = s.cnts :=
    foldl_holds (P := fun t : State => t.cnts = s.cnts) (fun _ _ e => e) rfl
  unfold showKeeper showFlash showSlots
  dsimp only
  rw [order, setReg_cnts, setReg_cnts, setReg_cnts]

theorem keeperReset_clears {s : State} (h : s.Sound) : KeeperCleared s (keeperReset s) := by
  have sound := sound_keeperReset s h
  obtain ⟨w, u, run, regs, cnts, shadow, host, tbl, leaf, tm, pwr, now⟩ : ∃ w u, keeperReset s = showKeeper w u
      ∧ u.regs = SMap.keep s.regs (fun k => decide (k < controlBase))
      ∧ u.cnts = SMap.keep s.cnts (fun k => decide (k < controlBase)) ∧ u.shadow = s.shadow ∧ u.host = s.host
      ∧ u.tbl = s.tbl ∧ u.leaf = s.leaf ∧ u.tm = s.tm ∧ u.pwr = keeperPwr s.pwr ∧ u.now = s.now :=
    ⟨_, _, rfl, rfl, rfl, rfl, rfl, rfl, rfl, rfl, rfl, rfl⟩
  have k := kept_showKeeper w u
  rw [run] at sound ⊢
  have sorted : u.regs.sorted = true := by
    rw [regs]
    exact SMap.sorted_keep h.regs _
  refine ⟨sound, fun q hq => ?_, (showKeeper_cnts w u).trans cnts, (k.shadow (by decide)).trans shadow,
    (k.host (by decide)).trans host, (k.tbl (by decide)).trans tbl, (k.leaf (by decide)).trans leaf,
    (k.tm (by decide)).trans tm, (k.pwr (by decide)).trans pwr, (k.now (by decide)).trans now⟩
  rw [k.far_regs sorted sound.regs (by decide +kernel) hq, regs]
  exact get?_keep_in h.regs (decide_eq_true hq)

/-! ### The record of a reset (R402) -/

/-- What the record of a reset adds: its status, and closed keys. -/
theorem noteReset_shows {s : State} (h : s.Sound) (kind agent : Nat) (c : CtlSt) :
    (noteReset kind agent c s).reg .SYS_RESET_STATUS = BitVec.ofNat 32 (agent * 8 + kind)
    ∧ (∀ q, q ≠ Reg.off .SYS_RESET_STATUS → SMap.get? (noteReset kind agent c s).regs q = SMap.get? s.regs q)
    ∧ (noteReset kind agent c s).ctl.keySoft = none ∧ (noteReset kind agent c s).ctl.keyKeep = none := by
  refine ⟨?_, fun q hq => SMap.get?_put_ne h.regs hq _ _, rfl, rfl⟩
  exact reg_setReg h.regs .SYS_RESET_STATUS (BitVec.ofNat 32 (agent * 8 + kind)) 0 0

/-! ### Before a cold or warm reset (R404) -/

theorem hostRest_kept {T : Touch} {s t : State} (k : Kept T s t) (hT : T.a.testBit 11 = false) : hostRest t = hostRest s :=
  hostRest_congr (k.host hT)

theorem hostRest_led (term inst n : Nat) (s : State) : hostRest (s.led term inst n) = hostRest s := rfl

theorem hostRest_freeTile (p t : Nat) (s : State) : hostRest (freeTile p t s) = hostRest s := by
  unfold freeTile fault
  split
  · split
    · rw [hostRest_offer, hostRest_count]
    · exact (hostRest_count ..).trans ((hostRest_setReg ..).trans ((hostRest_setReg ..).trans rfl))
  · rw [hostRest_offer, hostRest_count]

theorem hostRest_cellGone (c : Cell) (s : State) : hostRest (cellGone c s) = hostRest s :=
  hostRest_kept (kept_cellGone (le_same _) c s (.refl _ s)) (by decide)

theorem hostRest_releaseUnit (u : QUnit) (s : State) : hostRest (releaseUnit u s) = hostRest s := by
  have unreserved (x : State) : hostRest (unreserve u.rsv x) = hostRest x :=
    hostRest_kept (kept_unreserve (le_same _) u.rsv x (.refl _ x)) (by decide)
  unfold releaseUnit
  extract_lets freed
  refine (unreserved freed).trans ?_
  subst freed
  split
  · exact (hostRest_foldl (fun x (e : Nat × Cell) => hostRest_cellGone e.2 x) _ _).trans (hostRest_freeTile ..)
  · exact hostRest_foldl (fun x (e : Nat × Cell) => (hostRest_cellGone e.2 _).trans (hostRest_freeTile 4 e.1 x)) _ _

theorem hostRest_txDropped (t : Tag) (s : State) : hostRest (txDropped t s) = hostRest s := by
  unfold txDropped
  split
  · unfold unitDone
    split
    · exact hostRest_finish ..
    · rfl
  · rfl

theorem hostRest_dropFrame (p : Nat) (u : QUnit) (s : State) : hostRest (dropFrame p u s) = hostRest s :=
  (hostRest_txDropped ..).trans (hostRest_releaseUnit ..)

theorem hostRest_abandonTx (p : Nat) (s : State) : hostRest (abandonTx p s) = hostRest s := by
  unfold abandonTx
  extract_lets x
  split
  · rfl
  · next tx _ =>
    extract_lets k q u sent sent' charged y ended sent'' copied
    have hc : hostRest charged = hostRest s :=
      hostRest_ite (hostRest_kept (kept_chargeFrame (le_same _) _ _ _ _ s (.refl _ s)) (by decide)) rfl
    clear_value charged
    have he : hostRest ended = hostRest s := by
      refine (hostRest_count ..).trans (Eq.trans ?_ hc)
      exact hostRest_kept (kept_setPort (le_same _) _ _ charged (.refl _ charged)) (by decide)
    clear_value ended
    have hs : hostRest sent'' = hostRest s :=
      (hostRest_kept (kept_sendOut (le_same _) _ _ _ _ ended (.refl _ ended)) (by decide)).trans he
    clear_value sent''
    have hm : hostRest copied = hostRest s := by
      subst copied
      split
      · exact (hostRest_led ..).trans ((hostRest_count ..).trans hs)
      · exact hs
    clear_value copied u
    cases u with
    | none => exact hm
    | some u =>
      exact (hostRest_dropFrame ..).trans ((hostRest_kept (kept_setQueue (le_same _) _ _ copied (.refl _ copied))
        (by decide)).trans hm)

theorem hostRest_abandonAll (s : State) : hostRest (abandonAll s) = hostRest s :=
  hostRest_foldl (fun x p => hostRest_abandonTx p x) _ s

/-! ### A cold reset (R402 to R404) -/

theorem reg_of_none {s : State} {r : Reg} {i j : Nat} (h : SMap.get? s.regs (r.off i j) = none) : s.reg r i j = r.resetOf i j := by
  unfold State.reg SMap.getD
  rw [h]
  rfl

theorem get?_setReg_ne {s : State} (h : s.regs.sorted = true) {r : Reg} {i j q : Nat} (ne : q ≠ r.off i j) (w : Word) :
    SMap.get? (s.setReg r w i j).regs q = SMap.get? s.regs q :=
  SMap.get?_put_ne h ne _ _

/-- A register that is set to its reset value is not listed. -/
theorem get?_setReg_reset {s : State} (h : s.regs.sorted = true) (r : Reg) (i j : Nat) :
    SMap.get? (s.setReg r (r.resetOf i j) i j).regs (r.off i j) = none := by
  unfold State.setReg SMap.put
  rw [if_pos rfl]
  exact SMap.get?_erase_self h

/-- With no retired tile the register that counts them is at its reset value. -/
theorem showUsed_none {s : State} (h : s.regs.sorted = true) (count : SMap.get? s.regs (Reg.off .BUF_RETIRE_STATUS) = none)
    (tiles : ∀ j < 1024, SMap.get? s.regs (Reg.off .BUF_RETIRE j) = none) :
    SMap.get? (showUsed s).regs (Reg.off .BUF_RETIRE_STATUS) = none := by
  have valid : (List.range 1024).filter (fun j => s.flag .BUF_RETIRE_VALID j) = [] := by
    refine List.filter_eq_nil_iff.mpr fun j hj => ?_
    have word : s.reg .BUF_RETIRE j = Reg.resetOf .BUF_RETIRE j 0 := reg_of_none (tiles j (List.mem_range.mp hj))
    unfold State.flag State.fld
    rw [show s.reg Fld.BUF_RETIRE_VALID.reg j = Reg.resetOf .BUF_RETIRE j 0 from word, show Reg.resetOf .BUF_RETIRE j 0 = 0#32 from rfl]
    decide
  have word : s.reg .BUF_RETIRE_STATUS = Reg.resetOf .BUF_RETIRE_STATUS 0 0 := reg_of_none count
  have zero : showUsed s = s.setReg .BUF_RETIRE_STATUS (Reg.resetOf .BUF_RETIRE_STATUS 0 0) := by
    unfold showUsed State.setFld
    rw [valid, show s.reg Fld.BUF_RETIRE_STATUS_USED.reg = _ from word]
    exact congrArg (fun w => s.setReg .BUF_RETIRE_STATUS w) (by decide)
  rw [zero]
  exact get?_setReg_reset h .BUF_RETIRE_STATUS 0 0

/-- A reset that keeps no retired tile leaves none. -/
theorem switchReset_unused {s : State} (h : s.Sound) :
    SMap.get? (switchReset false s).regs (Reg.off .BUF_RETIRE_STATUS) = none := by
  obtain ⟨u, run, regs⟩ : ∃ u, switchReset false s = showFixed u ∧ u.regs = SMap.keep (fuseCut s).regs (keptReg false) :=
    ⟨_, rfl, rfl⟩
  have far {q : Nat} (hq : q < controlBase) : keptReg false q = false := by
    rw [keptReg, decide_eq_false (Nat.not_le.mpr hq)]
    rfl
  have gone {q : Nat} (hq : q < controlBase) : SMap.get? u.regs q = none := by
    rw [regs]
    exact get?_keep_out (far hq)
  have sorted : u.regs.sorted = true := by
    rw [regs, (fuseCut_leaves s).1]
    exact SMap.sorted_keep h.regs _
  have sorted' : (u.setReg .SYS_FUSE_USER u.nvm.fuses).regs.sorted = true := sorted_setReg sorted _ _ _ _
  have beside {q : Nat} (hq : q < controlBase) (hf : q ≠ Reg.off .SYS_FUSE_USER) :
      SMap.get? (u.setReg .SYS_FUSE_USER u.nvm.fuses).regs q = none :=
    (SMap.get?_put_ne sorted hf _ _).trans (gone hq)
  have tile {j : Nat} (hj : j < 1024) : Reg.off .BUF_RETIRE j < controlBase ∧ Reg.off .BUF_RETIRE j ≠ Reg.off .SYS_FUSE_USER := by
    have low : Reg.off .BUF_RETIRE j = 0x520000 + 4 * (j % 1024) := by simp [Reg.off, Reg.BUF_RETIRE]
    rw [low, show Reg.off .SYS_FUSE_USER = 0x50 by decide,
      controlBase]
    omega
  have unused := showUsed_none sorted' (beside (by decide) (by decide)) fun j hj => beside (tile hj).1 (tile hj).2
  obtain ⟨n, used⟩ : ∃ n, showUsed (u.setReg .SYS_FUSE_USER u.nvm.fuses)
      = (u.setReg .SYS_FUSE_USER u.nvm.fuses).setFld .BUF_RETIRE_STATUS_USED n := ⟨_, rfl⟩
  have sortedUsed : (showUsed (u.setReg .SYS_FUSE_USER u.nvm.fuses)).regs.sorted = true := by
    rw [used]
    exact sorted_setFld sorted' _ _ _ _
  have apart : Reg.off .BUF_RETIRE_STATUS ≠ Reg.off .IDL_STATUS := by decide
  have apart' : Reg.off .BUF_RETIRE_STATUS ≠ Reg.off .BUF_CARVE_STATUS := by decide
  have link : SMap.get? ((showUsed (u.setReg .SYS_FUSE_USER u.nvm.fuses)).setReg .IDL_STATUS 0x40000000#32).regs
      (Reg.off .BUF_RETIRE_STATUS) = none := (get?_setReg_ne sortedUsed apart _).trans unused
  rw [run]
  exact ite_holds (P := fun t : State => SMap.get? t.regs (Reg.off .BUF_RETIRE_STATUS) = none)
    ((get?_setReg_ne (sorted_setReg sortedUsed _ _ _ _) apart' _).trans link) link

end Sys2Proof.Machine
end

section
/-!
SUPPORT. A request to SYS_RESET_CTRL (R361, R405): the key that it spends, and what it meets.
-/
namespace Sys2Proof.Machine

/-- KIND of a value of SYS_RESET_CTRL. -/
def kindOf (v : Nat) : Nat := Fld.SYS_RESET_CTRL_KIND.get (BitVec.ofNat 32 v)

/-- The requests, by what is written and its KIND. -/
theorem exec_resetRequest {c : Instr} {a : Agent} {k : Fin 4} {b : Fin 32}
    (hc : c = .resetKindNone a k ∨ c = .coldReset a ∨ c = .warmReset a ∨ c = .appDomainReset a ∨ c = .blockReset a b) :
    ∃ v, (∀ s, exec c s = .next (resetValue a v s)) ∧ (c ≠ .resetKindNone a k → kindOf v ≠ 0 ∧ kindOf v < 5) := by
  rcases hc with rfl | rfl | rfl | rfl | rfl
  · exact ⟨_, fun _ => rfl, fun e => absurd rfl e⟩
  · exact ⟨1, fun _ => rfl, fun _ => by decide⟩
  · exact ⟨2, fun _ => rfl, fun _ => by decide⟩
  · exact ⟨3, fun _ => rfl, fun _ => by decide⟩
  · exact ⟨4 + b.val * 65536, fun _ => rfl, fun _ => (by decide : ∀ b : Fin 32, kindOf (4 + b.val * 65536) ≠ 0 ∧ kindOf (4 + b.val * 65536) < 5) b⟩

theorem kindOf_none (k : Fin 4) : kindOf (if k.val = 0 then 0 else k.val + 4) = 0 ∨ 5 ≤ kindOf (if k.val = 0 then 0 else k.val + 4) := by
  revert k; decide

theorem kindOf_block (b : Fin 32) : kindOf (4 + b.val * 65536) = 4
    ∧ Fld.SYS_RESET_CTRL_BLOCK.get (BitVec.ofNat 32 (4 + b.val * 65536)) = b.val := by
  revert b; decide

/-! ### What waits in the same register clock -/

theorem strongerWaits_congr {s t : State} (pending : t.pending = s.pending) (keys : ∀ a, keyOpen t a = keyOpen s a) (k : Nat) :
    strongerWaits k t = strongerWaits k s := by
  unfold strongerWaits State.awaits
  simp only [pending, keys]

theorem strongerWaits_spend (w : RegWrite) (k : Nat) (s : State) :
    strongerWaits k (spend w s) = strongerWaits k (setKey w.agent none s) := by
  unfold spend noteKeeper
  split
  · exact strongerWaits_congr rfl (fun a => by cases a <;> rfl) k
  · rfl

theorem strongerWaits_send (v d n room k : Nat) (s : State) :
    strongerWaits k (idlSend v d n room s) = strongerWaits k s := by
  obtain ⟨m, e⟩ := idlSend_eq v d n room s
  rw [e]
  exact strongerWaits_congr rfl (fun a => by cases a <;> rfl) k

/-- Nothing is stronger than a cold reset. -/
theorem strongerWaits_cold (s : State) : strongerWaits 1 s = false := by
  unfold strongerWaits State.awaits
  refine List.any_eq_false.mpr fun c _ => ?_
  split <;> simp

/-! ### The path of the request -/

theorem resetRequest_fits {kind : Nat} (hk : kind < 16) (a : Agent) (v : Nat) :
    AccFault.fits ⟨kind, a, 2, 0, (write32 a .SYS_RESET_CTRL v).off⟩ :=
  write32_fits hk a (by decide)

theorem resetRequest_there (s : State) (a : Agent) (v : Nat) : fusedOff s (write32 a .SYS_RESET_CTRL v).off = false :=
  fusedOff_write32 (i := 0) (by decide +kernel) (by decide) (by decide) (by decide) s a v

theorem resetValue_guarded {s : State} (hk : keysStand s) (a : Agent) (v : Nat) :
    resetValue a v s = guarded (write32 a .SYS_RESET_CTRL v) (resetIssue (write32 a .SYS_RESET_CTRL v)) s := by
  unfold resetValue resetWrite
  split
  · next r hr => exact if_neg (hk r hr)
  · rfl

/-- Without its key the request is logged. -/
theorem resetValue_refuses {s : State} (h : s.Sound) (hl : linked s) (hk : keysStand s) {a : Agent} (closed : keyOpen s a = false)
    (v : Nat) : Logged s (resetValue a v s) ⟨3, a, 2, 0, Reg.off .SYS_RESET_CTRL⟩ := by
  rw [resetValue_guarded hk]
  exact guarded_refuses h (w := write32 a .SYS_RESET_CTRL v) hl closed (resetRequest_there s a v)
    (resetRequest_fits (by decide) a v) _

/-- With its key the request meets its register, whatever else waits. -/
theorem resetValue_passes {s : State} (h : s.Sound) (hl : linked s) (hk : keysStand s) {a : Agent}
    (pass : passesKey s a (Reg.off .SYS_RESET_CTRL)) (v : Nat) : ∃ u, KeySpent s u a
      ∧ (∀ k, strongerWaits k u = strongerWaits k (setKey a none s))
      ∧ resetValue a v s = resetCtrl (write32 a .SYS_RESET_CTRL v) u := by
  have spent := keySpent_spend h (write32 a .SYS_RESET_CTRL v)
  have waits := fun k => strongerWaits_spend (write32 a .SYS_RESET_CTRL v) k s
  have run := guarded_passes (w := write32 a .SYS_RESET_CTRL v) pass.1 pass.2 (resetIssue (write32 a .SYS_RESET_CTRL v))
  rw [resetValue_guarded hk, run]
  unfold resetIssue
  split
  · exact ⟨_, spent, waits, rfl⟩
  · refine ⟨_, spent.send 0 0 1 0, fun k => (strongerWaits_send ..).trans (waits k), ?_⟩
    exact far_linked (spent.keeps_linked hl) ((spent.fusedOff _).trans (resetRequest_there s a v))

theorem KeySpent.resetMet {s u : State} {a : Agent} (k : KeySpent s u a) (n : Nat) : resetMet n u = resetMet n s := by
  obtain ⟨-, ⟨c, rfl⟩, -⟩ := k
  rfl

theorem KeySpent.resetBarred {s u : State} {a : Agent} (k : KeySpent s u a) : resetBarred u = resetBarred s := by
  unfold Machine.resetBarred
  rw [k.flag, k.flag]

/-! ### What the register does with it -/

section
variable {s : State} {a : Agent} {v : Nat}

theorem resetCtrl_none (hv : kindOf v = 0 ∨ 5 ≤ kindOf v) : resetCtrl (write32 a .SYS_RESET_CTRL v) s = s := if_pos hv

theorem resetCtrl_barred (h0 : kindOf v ≠ 0) (h5 : kindOf v < 5) (hb : resetBarred s = true) (hl : linked s) :
    resetCtrl (write32 a .SYS_RESET_CTRL v) s = logWrite 4 (write32 a .SYS_RESET_CTRL v) s :=
  (if_neg (by unfold kindOf at h0 h5; exact not_or.mpr ⟨h0, Nat.not_le.mpr h5⟩)).trans ((if_pos hb).trans (if_pos hl))

/-- A request that meets a reset as strong, or a stronger request, changes nothing more. -/
theorem resetCtrl_met {k : Nat} (hv : kindOf v = k) (hb : resetBarred s = false)
    (met : resetMet k s = true ∨ strongerWaits k s = true) : resetCtrl (write32 a .SYS_RESET_CTRL v) s = s := by
  subst hv
  refine ite_holds (P := (· = s)) rfl ((if_neg (by rw [hb]; exact Bool.false_ne_true)).trans (if_pos ?_))
  exact (Bool.or_eq_true _ _).mpr met

/-- A request that is carried out. -/
theorem resetCtrl_does {k : Nat} (hv : kindOf v = k) (h0 : k ≠ 0) (h5 : k < 5) (hb : resetBarred s = false)
    (met : resetMet k s = false) (waits : strongerWaits k s = false) : resetCtrl (write32 a .SYS_RESET_CTRL v) s
      = if k = 1 then coldReset (resetAgent a) s else if k = 2 then warmReset (resetAgent a) s
        else if k = 3 then appReset (resetAgent a) s
        else blockReset (write32 a .SYS_RESET_CTRL v) (Fld.SYS_RESET_CTRL_BLOCK.get (BitVec.ofNat 32 v)) s := by
  subst hv
  refine (if_neg (not_or.mpr ⟨h0, Nat.not_le.mpr h5⟩)).trans ((if_neg (by rw [hb]; exact Bool.false_ne_true)).trans
    (if_neg ?_))
  rw [Bool.or_eq_true, not_or]
  exact ⟨Bool.eq_false_iff.mp met, Bool.eq_false_iff.mp waits⟩

end

end Sys2Proof.Machine
end

section
/-!
SUPPORT. What the cold and the warm reset leave (R402 to R404).
-/
namespace Sys2Proof.Machine

theorem keptReg_near {q : Nat} (hq : q < 0x1000000) : keptReg false q = false := by
  rw [keptReg, decide_eq_false (show ¬ controlBase ≤ q from Nat.not_le.mpr hq)]
  rfl

/-! ### A cold reset -/

/-- What a cold reset leaves. -/
structure ColdCleared (agent : Nat) (s t : State) : Prop where
  status : t.reg .SYS_RESET_STATUS = BitVec.ofNat 32 (agent * 8 + 1)
  regs : ∀ q < 0x1000000, q ∉ [Reg.off .SYS_RESET_STATUS, Reg.off .SYS_FUSE_USER, Reg.off .BUF_CARVE_STATUS] →
    SMap.get? t.regs q = none
  cnts : ∀ q, SMap.get? t.cnts q = none
  shadow : t.shadow = []
  mem : t.host.mem = []
  tbl : t.tbl = {}
  leaf : t.leaf = {}
  tm : t.tm = {}
  stopped : t.pwr.stopped = true
  held : t.pwr.appHeld = true
  seq : t.pwr.seq = .keeper
  starting : t.pwr.starting = some (tMinShown s)
  keys : t.ctl.keySoft = none ∧ t.ctl.keyKeep = none

/-- The state in which host memory has been lost. -/
def memLost (s : State) : State := { s with host := { s.host with mem := [], poison := [] } }

theorem sound_memLost {s : State} (h : s.Sound) : (memLost s).Sound :=
  sound_withHost h (HostSt.sound_mk h.host.rings rfl h.host.ext h.host.txLast)

/-- The sequence goes on from rail 3 once the keeper firmware runs. -/
def awaitKeeper (tMin : Int) (s : State) : State := { s with pwr := { s.pwr with seq := .keeper, starting := some tMin } }

theorem sound_awaitKeeper {s : State} (h : s.Sound) (tMin : Int) : (awaitKeeper tMin s).Sound :=
  ⟨h.regs, h.shadow, h.cnts, h.tot, h.hold, h.pairs, h.ctl, h.host, h.hlt, h.nvm, h.cls, h.time, h.tbl, h.leaf, h.xbar, h.buf,
    h.tm, h.sky⟩

/-- What the record of the reset leaves of a module that awaits its keeper firmware. -/
theorem noteReset_awaitKeeper (kind agent : Nat) (c : CtlSt) (tMin : Int) (v : State) :
    (noteReset kind agent c (awaitKeeper tMin v)).shadow = v.shadow
    ∧ (noteReset kind agent c (awaitKeeper tMin v)).cnts = v.cnts
    ∧ (noteReset kind agent c (awaitKeeper tMin v)).host = v.host
    ∧ (noteReset kind agent c (awaitKeeper tMin v)).tbl = v.tbl
    ∧ (noteReset kind agent c (awaitKeeper tMin v)).leaf = v.leaf
    ∧ (noteReset kind agent c (awaitKeeper tMin v)).tm = v.tm
    ∧ (noteReset kind agent c (awaitKeeper tMin v)).pwr.stopped = v.pwr.stopped
    ∧ (noteReset kind agent c (awaitKeeper tMin v)).pwr.appHeld = v.pwr.appHeld
    ∧ (awaitKeeper tMin v).regs = v.regs := ⟨rfl, rfl, rfl, rfl, rfl, rfl, rfl, rfl, rfl⟩

theorem coldReset_eq (agent : Nat) (s : State) : coldReset agent s
    = noteReset 1 agent s.ctl (awaitKeeper (tMinShown s) (keeperReset (switchReset false (memLost (darken s))))) := rfl

theorem idl_far : ¬ Reg.off .IDL_STATUS < 0x1000000 := by decide

theorem coldReset_clears {s : State} (h : s.Sound) (agent : Nat) : ColdCleared agent s (coldReset agent s) := by
  have sound := sound_memLost (sound_darken s h)
  have mem : (memLost (darken s)).host.mem = [] := rfl
  rw [coldReset_eq]
  generalize memLost (darken s) = x at *
  have near := switchReset_clears sound false
  have far := keeperReset_clears near.sound
  have unused := switchReset_unused sound
  generalize switchReset false x = u at *
  generalize keeperReset u = v at *
  obtain ⟨status, regs, soft, keep⟩ := noteReset_shows (sound_awaitKeeper far.sound (tMinShown s)) 1 agent s.ctl
  have dieRegs {q : Nat} (hq : q < 0x1000000) (hf : q ≠ Reg.off .SYS_FUSE_USER) (hc : q ≠ Reg.off .BUF_CARVE_STATUS) :
      SMap.get? u.regs q = none := by
    by_cases hr : q = Reg.off .BUF_RETIRE_STATUS
    · exact hr ▸ unused
    · refine (near.regs q fun hm => ?_).trans (if_neg (by rw [keptReg_near hq]; exact Bool.false_ne_true))
      simp only [shownRegs, List.mem_cons, List.not_mem_nil, or_false] at hm
      rcases hm with e | e | e | e
      · exact hf e
      · exact hr e
      · exact absurd (e ▸ hq) idl_far
      · exact hc e
  have noCnts (q : Nat) : SMap.get? v.cnts q = none := by
    rw [far.cnts, near.cnts]
    by_cases hq : q < controlBase
    · exact (get?_keep_in (SMap.sorted_keep sound.cnts _) (decide_eq_true hq)).trans
        (get?_keep_out (decide_eq_false (Nat.not_le.mpr hq)))
    · exact get?_keep_out (decide_eq_false hq)
  obtain ⟨shadow, cnts, host, tbl, leaf, tm, stopped, held, same⟩ := noteReset_awaitKeeper 1 agent s.ctl (tMinShown s) v
  refine ⟨status, fun q hq hn => ?_, fun q => ?_, shadow.trans (far.shadow.trans near.shadow), ?_,
    tbl.trans (far.tbl.trans near.tbl), leaf.trans (far.leaf.trans near.leaf), tm.trans (far.tm.trans near.tm), stopped.trans ?_,
    held.trans ?_, rfl, rfl, soft, keep⟩
  · rw [List.mem_cons, List.mem_cons, List.mem_singleton, not_or, not_or] at hn
    obtain ⟨record, fuses, carve⟩ := hn
    rw [regs q record, same, far.regs q hq, dieRegs hq fuses carve]
  · rw [cnts, noCnts]
  · rw [host, far.host, near.mem, mem]
  · rw [far.pwr, keeperPwr, near.pwr]
  · rw [far.pwr, keeperPwr]

/-! ### A warm reset -/

/-- The register lies beside the retired tiles. -/
def besideTiles (r : Reg) : Bool := within 0 (Reg.off .BUF_RETIRE) r || within (Reg.off .BUF_RETIRE + 4096) 0x10000000 r

theorem spans_besideTiles {q : Nat} {r : Reg} (hb : besideTiles r = true) (hs : r.spans q) :
    ¬ (Reg.off .BUF_RETIRE ≤ q ∧ q < Reg.off .BUF_RETIRE + 4096) := by
  rw [besideTiles, Bool.or_eq_true] at hb
  rcases hb with hb | hb
  · exact fun hq => absurd hq.1 (Nat.not_le.mpr (spans_within hb hs).2)
  · exact fun hq => absurd hq.2 (Nat.not_lt.mpr (spans_within hb hs).1)

/-- The steps before a reset leave the retired tiles. -/
theorem darken_tiles {s : State} (h : s.Sound) {q : Nat} (low : Reg.off .BUF_RETIRE ≤ q) (high : q < Reg.off .BUF_RETIRE + 4096) :
    SMap.get? (darken s).regs q = SMap.get? s.regs q :=
  (kept_darken (le_same _) s (.refl _ s)).spares h.regs (sound_darken s h).regs (ok := besideTiles) (by decide +kernel)
    fun _ hb hs => spans_besideTiles hb hs ⟨low, high⟩

theorem nvmStop_idle (code : Nat) {s : State} (idle : s.nvm.op = none) : nvmStop code s = s := by
  unfold nvmStop
  rw [idle]

/-- With no NVM operation they leave the registers of the control die, host memory and what waits for the restart. -/
theorem darken_control {s : State} (h : s.Sound) (idle : s.nvm.op = none) : (darken s).host.mem = s.host.mem
    ∧ (darken s).nvm.bootPend = s.nvm.bootPend
    ∧ ∀ q, 0x1000000 ≤ q → SMap.get? (darken s).regs q = SMap.get? s.regs q := by
  have run : darken s = counterCheckpoint (abandonAll (s.setFld .SKY_STATE_DUSK 1)) :=
    congrArg (fun x => counterCheckpoint (abandonAll x)) (nvmStop_idle 8 (show (s.setFld .SKY_STATE_DUSK 1).nvm.op = none from idle))
  have sound := sound_State_setFld s .SKY_STATE_DUSK 1 0 0 h
  have k := kept_abandonAll (le_same _) _ (.refl _ (s.setFld .SKY_STATE_DUSK 1))
  rw [run]
  have rest : hostRest (abandonAll (s.setFld .SKY_STATE_DUSK 1)) = hostRest s := (hostRest_abandonAll _).trans (hostRest_setFld ..)
  have nvm : (abandonAll (s.setFld .SKY_STATE_DUSK 1)).nvm = s.nvm := (k.nvm (by decide)).trans (setFld_nvm ..)
  have mem : (hostRest (abandonAll (s.setFld .SKY_STATE_DUSK 1))).mem = (hostRest s).mem := congrArg HostSt.mem rest
  refine ⟨mem, congrArg NvmSt.bootPend nvm, fun q hq => ?_⟩
  exact (k.near_regs sound.regs (sound_abandonAll _ sound).regs (by decide +kernel) hq).trans
    (get?_setReg_ne h.regs (fun e => absurd (e ▸ hq) (by decide)) _)

/-- The application domain has no trial and no recovery under way, and waits for its release. -/
def appLost (s : State) : State := { s with
  nvm := { s.nvm with recovery := false, trialAt := none }
  pwr := { s.pwr with appHeld := true } }

theorem sound_appLost {s : State} (h : s.Sound) : (appLost s).Sound :=
  ⟨h.regs, h.shadow, h.cnts, h.tot, h.hold, h.pairs, h.ctl, h.host, h.hlt, NvmSt.sound_mk h.nvm.flash, h.cls, h.time, h.tbl,
    h.leaf, h.xbar, h.buf, h.tm, h.sky⟩

theorem warmReset_eq (agent : Nat) (s : State) : warmReset agent s
    = noteReset 2 agent s.ctl (appLost (bootLost (switchReset true (darken s)))) := rfl

/-- What the record of the reset leaves of a module whose application domain is held. -/
theorem noteReset_appLost (kind agent : Nat) (c : CtlSt) (v : State) :
    (noteReset kind agent c (appLost v)).shadow = v.shadow
    ∧ (noteReset kind agent c (appLost v)).host = v.host
    ∧ (noteReset kind agent c (appLost v)).tbl = v.tbl
    ∧ (noteReset kind agent c (appLost v)).leaf = v.leaf
    ∧ (noteReset kind agent c (appLost v)).tm = v.tm
    ∧ (noteReset kind agent c (appLost v)).pwr.stopped = v.pwr.stopped
    ∧ (appLost v).regs = v.regs := ⟨rfl, rfl, rfl, rfl, rfl, rfl, rfl⟩

theorem bootLost_idle {s : State} (idle : s.nvm.bootPend = false) : bootLost s = s :=
  if_neg (by rw [idle]; exact Bool.false_ne_true)

/-- What a warm reset leaves. -/
structure WarmCleared (agent : Nat) (s t : State) : Prop where
  status : t.reg .SYS_RESET_STATUS = BitVec.ofNat 32 (agent * 8 + 2)
  regs : ∀ q < 0x1000000, q ∉ [Reg.off .SYS_RESET_STATUS, Reg.off .SYS_FUSE_USER, Reg.off .BUF_CARVE_STATUS,
      Reg.off .BUF_RETIRE_STATUS] →
    (q < Reg.off .BUF_RETIRE ∨ Reg.off .BUF_RETIRE + 4096 ≤ q) → SMap.get? t.regs q = none
  tiles : ∀ q, Reg.off .BUF_RETIRE ≤ q → q < Reg.off .BUF_RETIRE + 4096 → SMap.get? t.regs q = SMap.get? s.regs q
  control : s.nvm.op = none → s.nvm.bootPend = false → t.host.mem = s.host.mem
    ∧ ∀ q, 0x1000000 ≤ q → q ≠ Reg.off .IDL_STATUS → SMap.get? t.regs q = SMap.get? s.regs q
  shadow : t.shadow = []
  tbl : t.tbl = {}
  leaf : t.leaf = {}
  tm : t.tm = {}
  stopped : t.pwr.stopped = true
  held : t.pwr.appHeld = true
  keys : t.ctl.keySoft = none ∧ t.ctl.keyKeep = none

theorem keptReg_outside {q : Nat} (hq : q < 0x1000000) (out : q < Reg.off .BUF_RETIRE ∨ Reg.off .BUF_RETIRE + 4096 ≤ q) :
    keptReg true q = false := by
  have fold : keptReg true q = (decide (controlBase ≤ q) || (decide (Reg.off .BUF_RETIRE ≤ q)
    && decide (q < Reg.off .BUF_RETIRE + 4096))) := rfl
  rw [fold, decide_eq_false (show ¬ controlBase ≤ q from Nat.not_le.mpr hq), Bool.false_or, Bool.and_eq_false_iff,
    decide_eq_false_iff_not, decide_eq_false_iff_not, Nat.not_le, Nat.not_lt]
  exact out

theorem keptReg_tiles {q : Nat} (low : Reg.off .BUF_RETIRE ≤ q) (high : q < Reg.off .BUF_RETIRE + 4096) : keptReg true q = true := by
  have fold : keptReg true q = (decide (controlBase ≤ q) || (decide (Reg.off .BUF_RETIRE ≤ q)
    && decide (q < Reg.off .BUF_RETIRE + 4096))) := rfl
  rw [fold, decide_eq_true low, decide_eq_true high, Bool.and_self, Bool.or_true]

theorem keptReg_far {q : Nat} (hq : 0x1000000 ≤ q) (rws : Bool) : keptReg rws q = true := by
  rw [keptReg, decide_eq_true (show controlBase ≤ q from hq), Bool.true_or]

theorem warmReset_clears {s : State} (h : s.Sound) (agent : Nat) : WarmCleared agent s (warmReset agent s) := by
  have dark := sound_darken s h
  have near := switchReset_clears dark true
  have lost := sound_bootLost _ near.sound
  have k := kept_bootLost (le_same _) _ (.refl _ (switchReset true (darken s)))
  have kNear {q : Nat} (hq : q < 0x1000000) : SMap.get? (bootLost (switchReset true (darken s))).regs q
      = SMap.get? (switchReset true (darken s)).regs q := k.far_regs near.sound.regs lost.regs (by decide +kernel) hq
  obtain ⟨status, regs, soft, keep⟩ := noteReset_shows (sound_appLost lost) 2 agent s.ctl
  obtain ⟨shadow, host, tbl, leaf, tm, stopped, same⟩ := noteReset_appLost 2 agent s.ctl (bootLost (switchReset true (darken s)))
  rw [warmReset_eq]
  refine ⟨status, fun q hq hn out => ?_, fun q low high => ?_, fun idle fixed => ?_, ?_, ?_, ?_, ?_, ?_, rfl, soft, keep⟩
  · simp only [List.mem_cons, List.not_mem_nil, or_false, not_or] at hn
    obtain ⟨record, fuses, carve, retired⟩ := hn
    rw [regs q record, same, kNear hq, near.regs q, if_neg (by rw [keptReg_outside hq out]; exact Bool.false_ne_true)]
    simp only [shownRegs, List.mem_cons, List.not_mem_nil, or_false, not_or]
    exact ⟨fuses, retired, fun e => absurd (e ▸ hq) idl_far, carve⟩
  · have apart : ∀ r ∈ Reg.off .SYS_RESET_STATUS :: shownRegs, r < Reg.off .BUF_RETIRE ∨ Reg.off .BUF_RETIRE + 4096 ≤ r := by
      decide
    have ne {r : Nat} (hr : r ∈ Reg.off .SYS_RESET_STATUS :: shownRegs) : q ≠ r := by
      rintro rfl
      have := apart _ hr
      omega
    have below : Reg.off .BUF_RETIRE + 4096 ≤ 0x1000000 := by decide
    rw [regs q (ne List.mem_cons_self), same, kNear (by omega), near.regs q fun hm => ne (List.mem_cons_of_mem _ hm) rfl,
      if_pos (keptReg_tiles low high)]
    exact darken_tiles h low high
  · obtain ⟨mem, pend, control⟩ := darken_control h idle
    rw [bootLost_idle (near.pend.trans (pend.trans fixed))] at host regs same ⊢
    refine ⟨?_, fun q hq ne => ?_⟩
    · rw [host, near.mem, mem]
    · have apart : ∀ r ∈ Reg.off .SYS_RESET_STATUS :: shownRegs, r = Reg.off .IDL_STATUS ∨ r < 0x1000000 := by decide
      have beside {r : Nat} (hr : r ∈ Reg.off .SYS_RESET_STATUS :: shownRegs) : q ≠ r := by
        rintro rfl
        rcases apart _ hr with e | e
        · exact ne e
        · omega
      rw [regs q (beside List.mem_cons_self), same, near.regs q fun hm => beside (List.mem_cons_of_mem _ hm) rfl,
        if_pos (keptReg_far hq true), control q hq]
  · rw [shadow, k.shadow (by decide), near.shadow]
  · rw [tbl, k.tbl (by decide), near.tbl]
  · rw [leaf, k.leaf (by decide), near.leaf]
  · rw [tm, k.tm (by decide), near.tm]
  · rw [stopped, k.pwr (by decide), near.pwr]

end Sys2Proof.Machine
end

section
/-!
SUPPORT. What an NVM operation that is stopped leaves of flash, and the application-domain reset (R402, R411).
-/
namespace Sys2Proof.Machine

/-! ### The NVM engine, but for flash -/

/-- The state of the NVM engine but for what flash holds. -/
def nvmRest (s : State) : NvmSt := { s.nvm with flash := [] }

theorem nvmRest_congr {s t : State} (e : t.nvm = s.nvm) : nvmRest t = nvmRest s := by rw [nvmRest, nvmRest, e]

theorem nvmRest_nvmCopy (o : NvmOp) (n : Nat) (s : State) : nvmRest (nvmCopy o n s) = nvmRest s := by
  have erased : nvmRest (if o.op = 3 then flashErase o.flash (4 * gib) s else if o.op = 6 then flashErase o.flash cfgSize s else s)
      = nvmRest s :=
    ite_holds (P := fun t => nvmRest t = nvmRest s) rfl (ite_holds (P := fun t => nvmRest t = nvmRest s) rfl rfl)
  unfold nvmCopy
  split
  · exact nvmRest_congr ((of_snd (kept_memWrite (le_same _) _ _ s.fresh (.refl _ _))).nvm (by decide))
  · dsimp only
    split
    · exact erased
    · exact (nvmRest_congr (s := ite _ _ _) ((of_snd (kept_nvmSource (le_same _) o.host n _ (.refl _ _))).nvm (by decide))).trans erased

theorem nvmRest_nvmCut (o : NvmOp) (s : State) : nvmRest (nvmCut o s) = nvmRest s := nvmRest_nvmCopy ..

/-- The engine without its operation. -/
def engineIdle (s : State) : State := { s with nvm := { s.nvm with op := none } }

/-- A stopped engine has no operation. -/
theorem nvmStop_op (code : Nat) (s : State) : (nvmStop code s).nvm.op = none := by
  unfold nvmStop
  split
  · next idle => exact idle
  · next o _ =>
    have cut : (nvmCut o (engineIdle s)).nvm.op = none := congrArg NvmSt.op (nvmRest_nvmCut o (engineIdle s))
    have counted := countIf_nvm (nvmCut o (engineIdle s)) (o.op == 3) .NVM_COMMIT_FAIL_CNT 0 0
    exact (congrArg NvmSt.op (setReg_nvm ..)).trans ((congrArg NvmSt.op counted).trans cut)

/-! ### The application-domain reset -/

/-- The reset is counted, and the domain waits for its release. -/
def appCounted (s : State) : State := { s with
  ctl := { s.ctl with appResets := s.ctl.appResets + 1 }
  nvm := { s.nvm with recovery := false, trialAt := none }
  pwr := { s.pwr with appHeld := true } }

theorem sound_appCounted {s : State} (h : s.Sound) : (appCounted s).Sound :=
  ⟨h.regs, h.shadow, h.cnts, h.tot, h.hold, h.pairs,
    CtlSt.sound_mk h.ctl.msix h.ctl.intAt h.ctl.vcs h.ctl.arbs h.ctl.pols h.ctl.accounts, h.host, h.hlt,
    NvmSt.sound_mk h.nvm.flash, h.cls, h.time, h.tbl, h.leaf, h.xbar, h.buf, h.tm, h.sky⟩

theorem appReset_eq (agent : Nat) (s : State) : appReset agent s
    = bootLost (appCounted (noteReset 3 agent s.ctl (nvmStop 8 (appResetMessage s)))) := rfl

/-- What the record of the reset leaves of the counted one. -/
theorem appCounted_noteReset (kind agent : Nat) (c : CtlSt) (v : State) :
    (appCounted (noteReset kind agent c v)).regs = (noteReset kind agent c v).regs
    ∧ (appCounted (noteReset kind agent c v)).ctl.keySoft = none ∧ (appCounted (noteReset kind agent c v)).ctl.keyKeep = none
    ∧ (appCounted (noteReset kind agent c v)).ctl.heldReset = v.ctl.heldReset
    ∧ (appCounted (noteReset kind agent c v)).nvm.op = v.nvm.op
    ∧ (appCounted (noteReset kind agent c v)).pwr.appHeld = true
    ∧ (appCounted (noteReset kind agent c v)).pwr.stopped = v.pwr.stopped := ⟨rfl, rfl, rfl, rfl, rfl, rfl, rfl⟩

theorem bootLost_op (s : State) : (bootLost s).nvm.op = s.nvm.op := by
  unfold bootLost
  split <;> rfl

/-- The message turns the die headless, or waits for the link. -/
theorem appResetMessage_shows {s : State} (h : s.Sound) :
    (linked s → (appResetMessage s).flag .SYS_PLANE_STATE_HEADLESS = true)
    ∧ (¬ linked s → (appResetMessage s).ctl.heldReset = true) := by
  unfold appResetMessage linked
  refine ⟨fun hl => ?_, fun hl => ?_⟩
  · rw [if_pos hl]
    have sent := (Sends.refl h).send 2 0 1 0
    exact (abruptHeadless_crosses sent.sound (sent.keeps_linked hl) (by decide)).2
  · rw [if_neg hl]

/-- The reset, once the switch die has been told. -/
theorem appReset_tail {m : State} (h : m.Sound) (agent : Nat) {c : CtlSt} (hc : c.Sound) {t : State}
    (run : t = bootLost (appCounted (noteReset 3 agent c (nvmStop 8 m)))) :
    t.reg .SYS_RESET_STATUS = BitVec.ofNat 32 (agent * 8 + 3) ∧ t.pwr.appHeld = true
    ∧ (t.ctl.keySoft = none ∧ t.ctl.keyKeep = none) ∧ t.nvm.op = none
    ∧ t.flag .SYS_PLANE_STATE_HEADLESS = m.flag .SYS_PLANE_STATE_HEADLESS ∧ t.ctl.heldReset = m.ctl.heldReset
    ∧ t.pwr.stopped = m.pwr.stopped := by
  have stopped := sound_nvmStop 8 m h
  have kStop := kept_nvmStop (le_same _) 8 m (.refl _ m)
  obtain ⟨status, regs, -, -⟩ := noteReset_shows stopped 3 agent c
  have noted := sound_noteReset 3 agent _ _ hc stopped
  have kNote := kept_noteReset (le_same _) 3 agent c _ (.refl _ (nvmStop 8 m))
  obtain ⟨same, soft, keep, held, op, appHeld, still⟩ := appCounted_noteReset 3 agent c (nvmStop 8 m)
  have counted := sound_appCounted noted
  have kLost := kept_bootLost (le_same _) _ (.refl _ (appCounted (noteReset 3 agent c (nvmStop 8 m))))
  have lost := sound_bootLost _ counted
  rw [← run] at kLost lost
  have ctl := kLost.ctl (by decide)
  have pwr := kLost.pwr (by decide)
  refine ⟨?_, ?_, ⟨?_, ?_⟩, ?_, ?_, ?_, ?_⟩
  · rw [kLost.reg counted lost (by decide +kernel), reg_congr same, status]
  · rw [pwr, appHeld]
  · rw [ctl, soft]
  · rw [ctl, keep]
  · rw [run, bootLost_op, op, nvmStop_op]
  · rw [kLost.flag counted lost (by decide +kernel), flag_congr same, kNote.flag stopped noted (by decide +kernel),
      kStop.flag h stopped (by decide +kernel)]
  · rw [ctl, held, kStop.ctl (by decide)]
  · rw [pwr, still, kStop.pwr (by decide)]

/-- What an application-domain reset leaves. -/
theorem appReset_resets {s : State} (h : s.Sound) (agent : Nat) : appWasReset s (appReset agent s) agent := by
  obtain ⟨status, appHeld, keys, op, plane, held, -⟩ :=
    appReset_tail (sound_appResetMessage s h) agent h.ctl (appReset_eq agent s)
  obtain ⟨headless, waits⟩ := appResetMessage_shows h
  exact ⟨status, appHeld, keys, op, fun hl => plane.trans (headless hl), fun hl => held.trans (waits hl)⟩

/-- The switch die goes on. -/
theorem appReset_stopped {s : State} (h : s.Sound) (agent : Nat) : (appReset agent s).pwr.stopped = s.pwr.stopped := by
  obtain ⟨-, -, -, -, -, -, stopped⟩ := appReset_tail (sound_appResetMessage s h) agent h.ctl (appReset_eq agent s)
  rw [stopped, (kept_appResetMessage (le_same _) s (.refl _ s)).pwr (by decide)]

end Sys2Proof.Machine
end

section
/-!
SUPPORT. A block reset (R406): the registers and shadows of its block, and what the block held.
-/
namespace Sys2Proof.Machine

/-! ### The registers of a block -/

/-- Offsets beside the block. -/
def outOf (b k : Nat) : Bool := k / 2 ^ 20 != b

theorem get?_keep_outOf {α : Type} {m : SMap α} (hm : m.sorted = true) (b q : Nat) :
    SMap.get? (SMap.keep m (outOf b)) q = if q / 2 ^ 20 = b then none else SMap.get? m q := by
  split
  next e => exact get?_keep_out (bne_eq_false_iff_eq.mpr e)
  next e => exact get?_keep_in hm (bne_iff_ne.mpr e)

theorem clearBlock_regs {s : State} (h : s.Sound) (b grp : Nat) {q : Nat} (hq : q ≠ Reg.off .SYS_UPDATE_PENDING) :
    SMap.get? (clearBlock b grp s).regs q = if q / 2 ^ 20 = b then none else SMap.get? s.regs q := by
  obtain ⟨w, regs⟩ : ∃ w, (clearBlock b grp s).regs
      = SMap.put (SMap.keep s.regs (outOf b)) (Reg.off .SYS_UPDATE_PENDING) (Reg.resetOf .SYS_UPDATE_PENDING 0 0) w := ⟨_, rfl⟩
  rw [regs, SMap.get?_put_ne (SMap.sorted_keep h.regs _) hq, get?_keep_outOf h.regs]

theorem clearBlock_shadow {s : State} (h : s.Sound) (b grp q : Nat) :
    SMap.get? (clearBlock b grp s).shadow q = if q / 2 ^ 20 = b then none else SMap.get? s.shadow q := by
  have shadow : (clearBlock b grp s).shadow = SMap.keep s.shadow (outOf b) := rfl
  rw [shadow, get?_keep_outOf h.shadow]

/-- No register of another block is the one that shows pending writes, or the reset. -/
theorem block_ne {b q : Nat} (hb : b ≠ 0) (hq : q / 2 ^ 20 = b) :
    q ≠ Reg.off .SYS_UPDATE_PENDING ∧ q ≠ Reg.off .SYS_RESET_STATUS := by
  refine ⟨fun e => hb ?_, fun e => hb ?_⟩
  all_goals
    rw [← hq, e]
    decide

/-! ### LEAF -/

/-- The groups that are told restart. -/
def tellGroups (l : List Nat) (s : State) : State := l.foldl (fun s g => s.setFld .LEAF_GROUP_STATUS_RESTARTING 1 g) s

theorem tellGroups_cons (g : Nat) (l : List Nat) (s : State) :
    tellGroups (g :: l) s = tellGroups l (s.setFld .LEAF_GROUP_STATUS_RESTARTING 1 g) := rfl

theorem tellGroups_apart {f : Fld} (hf : regApart f.reg Fld.LEAF_GROUP_STATUS_RESTARTING.reg = true) (i : Nat) (l : List Nat) {s : State}
    (hs : s.regs.sorted = true) : (tellGroups l s).flag f i = s.flag f i := by
  induction l generalizing s with
  | nil => rfl
  | cons g l ih =>
    rw [tellGroups_cons, ih (sorted_setFld hs _ _ _ _)]
    exact flag_setFld_apart (f := .LEAF_GROUP_STATUS_RESTARTING) (g := f) hs hf 1 g 0 i 0

theorem tellGroups_shadow (l : List Nat) (s : State) : (tellGroups l s).shadow = s.shadow := by
  induction l generalizing s with
  | nil => rfl
  | cons g l ih => rw [tellGroups_cons, ih, setFld_shadow]

theorem tellGroups_restart {l : List Nat} (hl : ∀ g ∈ l, g < 16) {s : State} (hs : s.regs.sorted = true) {g : Nat} (hg : g < 16)
    (told : s.flag .LEAF_GROUP_STATUS_RESTARTING g = true ∨ g ∈ l) :
    (tellGroups l s).flag .LEAF_GROUP_STATUS_RESTARTING g = true := by
  induction l generalizing s with
  | nil => exact told.resolve_right List.not_mem_nil
  | cons x l ih =>
    refine ih (fun y hy => hl y (List.mem_cons_of_mem _ hy)) (sorted_setFld hs _ _ _ _) ?_
    by_cases e : g = x
    · subst e
      exact .inl (flag_setFld hs (by decide) (by decide) 1 g 0)
    · rcases told with told | told
      · refine .inl (Eq.trans ?_ told)
        have ne := off_ne_index (r := .LEAF_GROUP_STATUS) (by decide +kernel) (by decide) hg (hl x List.mem_cons_self) e
        unfold State.flag State.fld
        rw [show (s.setFld .LEAF_GROUP_STATUS_RESTARTING 1 x).reg Fld.LEAF_GROUP_STATUS_RESTARTING.reg g
          = s.reg Fld.LEAF_GROUP_STATUS_RESTARTING.reg g from reg_setReg_ne hs ne _]
      · exact .inr ((List.mem_cons.mp told).resolve_left e)

/-- The groups before their registers are cleared. -/
def groupsRestart (s : State) : State := (List.range 16).foldl (fun s g =>
  groupRestart g (s.setReg .LEAF_GROUP_CFG (Reg.LEAF_GROUP_CFG.resetOf g 0) g)) s

theorem sound_groupsRestart {s : State} (h : s.Sound) : (groupsRestart s).Sound :=
  foldl_holds (P := State.Sound) (fun x g hx => sound_groupRestart g _ (sound_State_setReg x _ _ g 0 hx)) h

theorem reg_block_1 {r : Reg} (hr : within 0x100000 0x200000 r = true) (i j : Nat) : r.off i j / 2 ^ 20 = 1 := by
  have := spans_within hr ⟨i, j, rfl⟩
  omega

/-- What a reset of LEAF leaves. -/
structure LeafCleared (t : State) : Prop where
  ports : ∀ p < 256, t.flag .LEAF_PORT_CFG_EN p = false ∧ t.flag .LEAF_PORT_STATUS_LINK_UP p = false
  groups : ∀ g < 16, t.flag .LEAF_GROUP_STATUS_RESTARTING g = true
  shadow : ∀ q, q / 2 ^ 20 = 1 → SMap.get? t.shadow q = none

theorem resetLeaf_eq (s : State) : resetLeaf s = tellGroups (List.range 16) (clearBlock 1 1 (groupsRestart s)) := by
  unfold resetLeaf groupsRestart tellGroups
  rfl

theorem resetLeaf_clears {s : State} (h : s.Sound) : LeafCleared (resetLeaf s) := by
  have restarted := sound_groupsRestart h
  have cleared := sound_clearBlock 1 1 _ restarted
  have atReset {r : Reg} (hr : within 0x100000 0x200000 r = true) (i : Nat) :
      (clearBlock 1 1 (groupsRestart s)).reg r i = r.resetOf i 0 := by
    have block := reg_block_1 hr i 0
    exact reg_of_none ((clearBlock_regs restarted 1 1 (block_ne (by decide) block).1).trans (if_pos block))
  rw [resetLeaf_eq]
  refine ⟨fun p _ => ⟨?_, ?_⟩, fun g hg => ?_, fun q hq => ?_⟩
  · rw [tellGroups_apart (by decide) p _ cleared.regs, State.flag, State.fld, atReset (by decide),
      show Fld.LEAF_PORT_CFG_EN.reg.resetOf p 0 = 0x296000#32 from rfl]
    decide
  · rw [tellGroups_apart (by decide) p _ cleared.regs, State.flag, State.fld, atReset (by decide),
      show Fld.LEAF_PORT_STATUS_LINK_UP.reg.resetOf p 0 = 0x40#32 from rfl]
    decide
  · exact tellGroups_restart (fun _ hx => List.mem_range.mp hx) cleared.regs hg (.inr (List.mem_range.mpr hg))
  · rw [tellGroups_shadow, clearBlock_shadow restarted, if_pos hq]

end Sys2Proof.Machine
end

section
/-!
SUPPORT. The resets of the blocks that hold no ports (R406), and the settlement of O53.
-/
namespace Sys2Proof.Machine

/-! ### PARSE, MIR and HLT -/

/-- What a reset of a block that holds no ports leaves of the registers and shadows. -/
structure BlockCleared (b : Nat) (agent : Nat) (s t : State) : Prop where
  status : t.reg .SYS_RESET_STATUS = BitVec.ofNat 32 (agent * 8 + 4)
  here : ∀ q, q / 2 ^ 20 = b → SMap.get? t.regs q = none ∧ SMap.get? t.shadow q = none
  beside : ∀ q, q / 2 ^ 20 ≠ b → q ∉ [Reg.off .SYS_UPDATE_PENDING, Reg.off .SYS_RESET_STATUS] →
    SMap.get? t.regs q = SMap.get? s.regs q ∧ SMap.get? t.shadow q = SMap.get? s.shadow q

/-- The record of the reset follows the clearing. -/
theorem blockCleared_noteReset {s v : State} (h : s.Sound) (hv : v.Sound) {b grp : Nat} (hb : b ≠ 0) (agent : Nat) (c : CtlSt)
    (regs : v.regs = (clearBlock b grp s).regs) (shadow : v.shadow = (clearBlock b grp s).shadow) :
    BlockCleared b agent s (noteReset 4 agent c v) := by
  obtain ⟨status, noted, -, -⟩ := noteReset_shows hv 4 agent c
  have same : (noteReset 4 agent c v).shadow = v.shadow := rfl
  refine ⟨status, fun q hq => ?_, fun q hq hn => ?_⟩
  · obtain ⟨pending, record⟩ := block_ne hb hq
    rw [noted q record, regs, same, shadow, clearBlock_regs h b grp pending, clearBlock_shadow h, if_pos hq, if_pos hq]
    exact ⟨rfl, rfl⟩
  · rw [List.mem_cons, List.mem_singleton, not_or] at hn
    rw [noted q hn.2, regs, same, shadow, clearBlock_regs h b grp hn.1, clearBlock_shadow h, if_neg hq, if_neg hq]
    exact ⟨rfl, rfl⟩

/-- So for LEAF: the record changes nothing of what restarted. -/
theorem leafCleared_noteReset {v : State} (hv : v.Sound) (agent : Nat) (c : CtlSt) (cleared : LeafCleared v) :
    (noteReset 4 agent c v).reg .SYS_RESET_STATUS = BitVec.ofNat 32 (agent * 8 + 4) ∧ LeafCleared (noteReset 4 agent c v) := by
  obtain ⟨status, -, -, -⟩ := noteReset_shows hv 4 agent c
  have word : (noteReset 4 agent c v).regs = (v.setReg .SYS_RESET_STATUS (BitVec.ofNat 32 (agent * 8 + 4))).regs := rfl
  have kept {f : Fld} (hf : regApart f.reg .SYS_RESET_STATUS = true) (i : Nat) : (noteReset 4 agent c v).flag f i = v.flag f i :=
    (flag_congr word f i 0).trans (flag_setReg_apart (r := .SYS_RESET_STATUS) (g := f) hv.regs hf _ 0 0 i 0)
  refine ⟨status, fun p hp => ?_, fun g hg => ?_, cleared.shadow⟩
  · rw [kept (by decide), kept (by decide)]
    exact cleared.ports p hp
  · rw [kept (by decide)]
    exact cleared.groups g hg

section
variable (w : RegWrite) (s : State)

theorem blockReset_leaf : blockReset w 1 s = noteReset 4 (resetAgent w.agent) s.ctl (resetLeaf s) := rfl

theorem blockReset_parse : blockReset w 2 s = noteReset 4 (resetAgent w.agent) s.ctl (resetParse s) := rfl

theorem blockReset_mir : blockReset w 10 s = noteReset 4 (resetAgent w.agent) s.ctl (resetMir s) := rfl

theorem blockReset_hlt : blockReset w 11 s = noteReset 4 (resetAgent w.agent) s.ctl (resetHlt s) := rfl

theorem blockReset_none {b : Nat} (hb : b ∉ [1, 2, 10, 11]) : blockReset w b s = logWrite 4 w s := by
  simp only [List.mem_cons, List.not_mem_nil, or_false, not_or] at hb
  obtain ⟨h1, h2, h10, h11⟩ := hb
  unfold blockReset
  rw [if_neg h1, if_neg h2, if_neg h10, if_neg h11]

end

section
variable {s u : State} {a : Agent} (k : KeySpent s u a)
include k

theorem KeySpent.shadow : u.shadow = s.shadow := by obtain ⟨-, ⟨c, rfl⟩, -⟩ := k; rfl
theorem KeySpent.host : u.host = s.host := by obtain ⟨-, ⟨c, rfl⟩, -⟩ := k; rfl
theorem KeySpent.hlt : u.hlt = s.hlt := by obtain ⟨-, ⟨c, rfl⟩, -⟩ := k; rfl
theorem KeySpent.cls : u.cls = s.cls := by obtain ⟨-, ⟨c, rfl⟩, -⟩ := k; rfl
theorem KeySpent.tbl : u.tbl = s.tbl := by obtain ⟨-, ⟨c, rfl⟩, -⟩ := k; rfl
theorem KeySpent.leaf : u.leaf = s.leaf := by obtain ⟨-, ⟨c, rfl⟩, -⟩ := k; rfl
theorem KeySpent.tm : u.tm = s.tm := by obtain ⟨-, ⟨c, rfl⟩, -⟩ := k; rfl

theorem KeySpent.linked_iff : linked u ↔ linked s := by rw [linked, linked, k.flag]

/-- The application domain was reset, seen from before the key was spent. -/
theorem KeySpent.appWasReset {t : State} {agent : Nat} (r : appWasReset u t agent) : appWasReset s t agent :=
  ⟨r.status, r.held, r.keys, r.engine, fun hl => r.headless (k.linked_iff.mpr hl), fun hl => r.waits fun e => hl (k.linked_iff.mp e)⟩

/-- So with what the reset of a block leaves. -/
theorem KeySpent.blockCleared {t : State} {b agent : Nat} (r : BlockCleared b agent u t) : BlockCleared b agent s t := by
  obtain ⟨status, here, beside⟩ := r
  rw [k.regs, k.shadow] at beside
  exact ⟨status, here, beside⟩

end

/-- Both keys are closed. -/
theorem keyOf_none {t : State} (h : t.ctl.keySoft = none ∧ t.ctl.keyKeep = none) (a : Agent) : keyOf' t a = none := by
  unfold keyOf'
  split
  · exact h.1
  · exact h.2

/-- A logged request, by what was written and where. -/
theorem logWrite_request (a : Agent) (v : Nat) (s : State) :
    logWrite 4 (write32 a .SYS_RESET_CTRL v) s = recordFault ⟨4, a, 2, 0, Reg.off .SYS_RESET_CTRL⟩ s := rfl

/-- The request is logged with kind 4, its key spent. -/
theorem request_logged {s u : State} {a : Agent} (spent : KeySpent s u a) :
    faultLogged s (recordFault ⟨4, a, 2, 0, Reg.off .SYS_RESET_CTRL⟩ u) 4 a 2 0 (Reg.off .SYS_RESET_CTRL)
    ∧ keyOf' (recordFault ⟨4, a, 2, 0, Reg.off .SYS_RESET_CTRL⟩ u) a = none
    ∧ s.Only (recordFault ⟨4, a, 2, 0, Reg.off .SYS_RESET_CTRL⟩ u) [.sys, .ctl] faultRegs faultCnts := by
  obtain ⟨⟨logged, frame⟩, closed⟩ := spent.refuses (resetRequest_fits (kind := 4) (by decide) a 0)
  exact ⟨logged, closed, frame⟩

/-- Settles O53: the request (`resetValue_refuses`, `resetValue_passes`, `resetCtrl_met`), and what each reset leaves
(`coldReset_clears`, `warmReset_clears`, `appReset_resets`, `resetLeaf_clears`, `blockCleared_noteReset`). -/
theorem resetRequests : Obligations.ResetRequests := by
  unfold Obligations.ResetRequests
  refine ⟨fun s c a k b h hl hk hc => ?_, fun s c a k b h hl hk pass free met hc => ?_, fun s a k h hl hk pass => ?_,
    fun s a h hl hk pass free => ?_, fun s a b h hl hk pass free met waits => ?_⟩
  case refine_1 =>
    obtain ⟨v, run, kind⟩ := exec_resetRequest hc
    refine ⟨fun closed => ⟨_, run s, resetValue_refuses h hl hk closed v⟩, fun pass barred asks => ?_⟩
    obtain ⟨u, spent, -, does⟩ := resetValue_passes h hl hk pass v
    obtain ⟨k0, k5⟩ := kind asks
    have done : resetValue a v s = _ := does.trans ((resetCtrl_barred k0 k5 (spent.resetBarred.trans barred)
      (spent.keeps_linked hl)).trans (logWrite_request a v u))
    exact ⟨_, (run s).trans (congrArg _ done), request_logged spent⟩
  case refine_2 =>
    obtain ⟨v, run, kind⟩ : ∃ v, exec c s = .next (resetValue a v s) ∧ kindOf v = k := by
      rcases hc with ⟨rfl, rfl⟩ | ⟨rfl, rfl⟩ | ⟨rfl, rfl⟩ | ⟨rfl, rfl⟩
      · exact ⟨1, rfl, by decide⟩
      · exact ⟨2, rfl, by decide⟩
      · exact ⟨3, rfl, by decide⟩
      · exact ⟨_, rfl, (kindOf_block b).1⟩
    obtain ⟨u, spent, waits, does⟩ := resetValue_passes h hl hk pass v
    have idle := resetCtrl_met (a := a) kind (spent.resetBarred.trans free) (met.imp ((spent.resetMet k).trans ·) ((waits k).trans ·))
    exact ⟨u, run.trans (congrArg _ (does.trans idle)), spent.closed, spent.frame⟩
  case refine_3 =>
    obtain ⟨u, spent, -, does⟩ := resetValue_passes h hl hk pass (if k.val = 0 then 0 else k.val + 4)
    exact ⟨u, congrArg Host.Outcome.next (does.trans (resetCtrl_none (kindOf_none k))), spent.closed, spent.frame⟩
  case refine_4 =>
    refine ⟨fun met => ?_, fun met waits => ?_, fun met waits => ?_⟩
    · obtain ⟨u, spent, -, does⟩ := resetValue_passes h hl hk pass 1
      have done := resetCtrl_does (a := a) (v := 1) (k := 1) (by decide) (by decide) (by decide) (spent.resetBarred.trans free)
        ((spent.resetMet 1).trans met) (strongerWaits_cold u)
      have t := coldReset_clears spent.sound (resetAgent a)
      have shown : tMinShown u = tMinShown s := congrArg (sgn 16) (spent.fld ..)
      exact ⟨_, congrArg Host.Outcome.next (does.trans done), t.status, t.regs, t.cnts, t.shadow, t.mem, t.tbl, t.leaf, t.tm,
        t.stopped, t.held, t.seq, t.starting.trans (congrArg some shown)⟩
    · obtain ⟨u, spent, still, does⟩ := resetValue_passes h hl hk pass 2
      have done := resetCtrl_does (a := a) (v := 2) (k := 2) (by decide) (by decide) (by decide) (spent.resetBarred.trans free)
        ((spent.resetMet 2).trans met) ((still 2).trans waits)
      have t := warmReset_clears spent.sound (resetAgent a)
      have control := t.control
      have tiles := t.tiles
      rw [spent.regs, spent.nvm, spent.host] at control
      rw [spent.regs] at tiles
      exact ⟨_, congrArg Host.Outcome.next (does.trans done), t.status, t.regs, tiles, control, t.shadow, t.tbl, t.leaf, t.tm,
        t.stopped, t.held⟩
    · obtain ⟨u, spent, still, does⟩ := resetValue_passes h hl hk pass 3
      have done := resetCtrl_does (a := a) (v := 3) (k := 3) (by decide) (by decide) (by decide) (spent.resetBarred.trans free)
        ((spent.resetMet 3).trans met) ((still 3).trans waits)
      have kept := kept_appReset (le_same _) (resetAgent a) u (.refl _ u)
      exact ⟨_, congrArg Host.Outcome.next (does.trans done), spent.appWasReset (appReset_resets spent.sound _),
        (kept.tbl (by decide)).trans spent.tbl, (kept.leaf (by decide)).trans spent.leaf, (kept.tm (by decide)).trans spent.tm,
        (appReset_stopped spent.sound _).trans (congrArg PwrSt.stopped spent.pwr)⟩
  case refine_5 =>
    obtain ⟨u, spent, still, does⟩ := resetValue_passes h hl hk pass (4 + b.val * 65536)
    obtain ⟨kind, block⟩ := kindOf_block b
    have run := does.trans (resetCtrl_does (a := a) kind (by decide) (by decide) (spent.resetBarred.trans free)
      ((spent.resetMet 4).trans met) ((still 4).trans waits))
    rw [if_neg (by decide), if_neg (by decide), if_neg (by decide), block] at run
    have at_ {n : Nat} (hb : b.val = n) : exec (.blockReset a b) s
        = .next (blockReset (write32 a .SYS_RESET_CTRL (4 + b.val * 65536)) n u) := congrArg Host.Outcome.next (run.trans (congrArg (blockReset _ · u) hb))
    have sound := spent.sound
    refine ⟨fun hb => ?_, fun hb => ?_, fun hb => ?_, fun hb => ?_⟩
    · have t := leafCleared_noteReset (sound_resetLeaf u sound) (resetAgent a) u.ctl (resetLeaf_clears sound)
      exact ⟨_, at_ hb, t.1, t.2.ports, t.2.groups, t.2.shadow⟩
    · rcases hb with hb | hb
      · have t := spent.blockCleared (blockCleared_noteReset (b := 2) (grp := 2) sound (sound_resetParse u sound) (by decide)
          (resetAgent a) u.ctl rfl rfl)
        rw [hb]
        exact ⟨_, at_ hb, t.status, t.here, t.beside, fun _ => ⟨rfl, rfl, rfl, spent.leaf⟩, nofun⟩
      · have t := spent.blockCleared (blockCleared_noteReset (b := 10) (grp := 7) sound (sound_resetMir u sound) (by decide)
          (resetAgent a) u.ctl rfl rfl)
        have samples : { u.leaf with samples := [], copies := [] } = { s.leaf with samples := [], copies := [] } := by
          rw [spent.leaf]
        rw [hb]
        exact ⟨_, at_ hb, t.status, t.here, t.beside, nofun, fun _ => ⟨spent.cls, samples⟩⟩
    · have t := spent.blockCleared (blockCleared_noteReset (b := 11) (grp := 0) sound (sound_resetHlt u sound) (by decide)
        (resetAgent a) u.ctl rfl rfl)
      have led : u.hlt.led = s.hlt.led := congrArg HltSt.led spent.hlt
      have flog : u.hlt.flog = s.hlt.flog := congrArg HltSt.flog spent.hlt
      exact ⟨_, at_ hb, t.status, fun q hq => (t.here q hq).1, rfl, rfl, rfl, led, flog⟩
    · have none_ := (at_ rfl).trans (congrArg Host.Outcome.next ((blockReset_none _ _ hb).trans (logWrite_request ..)))
      exact ⟨_, none_, request_logged spent⟩

end Sys2Proof.Machine
end

section
/-!
SUPPORT. A bucket boundary of a window kind (R419, R420): how its windows age, and what HLT_WIN_STATUS shows of them.
-/
namespace Sys2Proof.Machine

/-! ### The windows -/

/-- A window a bucket later. -/
def agedWin (w : WinSt) : WinSt :=
  let b := (0 :: w.buckets).take 16
  { w with buckets := if b.sum = 0 then [] else b, lasting := w.lasting && b.sum != 0, recorded := false,
           srcs := if b.sum = 0 then [] else ([] :: w.srcs).take 16 }

/-- The windows once those of a kind have aged. -/
def agedWins (k : Nat) (m : SMap WinSt) : SMap WinSt := m.foldr (fun e (m : SMap WinSt) =>
  if e.1 / 512 == k then (let w := agedWin e.2; if w = {} then m else (e.1, w) :: m) else e :: m) []

theorem agedWin_empty : agedWin {} = {} := rfl

theorem agedWin_shows (w : WinSt) : (agedWin w).buckets.sum = (w.buckets.take 15).sum
    ∧ ((agedWin w).lasting = true ↔ (w.lasting = true ∧ (w.buckets.take 15).sum ≠ 0)) ∧ (agedWin w).recorded = false := by
  have shift : ((0 :: w.buckets).take 16).sum = (w.buckets.take 15).sum := by
    rw [List.take_succ_cons, List.sum_cons, Nat.zero_add]
  refine ⟨?_, ?_, rfl⟩
  · unfold agedWin
    dsimp only
    split
    next none_ => rw [← shift, none_]; rfl
    next => exact shift
  · unfold agedWin
    dsimp only
    rw [shift, Bool.and_eq_true, bne_iff_ne]

theorem getD_cons {α : Type} (a q : Nat) (v d : α) {m : SMap α} (hm : SMap.above a m) :
    SMap.getD ((a, v) :: m) q d = if q = a then v else SMap.getD m q d := by
  have head : SMap.get? ((a, v) :: m) q = if q = a then some v else if q < a then none else SMap.get? m q := rfl
  unfold SMap.getD
  rw [head]
  split
  · rfl
  · split
    next low => rw [SMap.get?_above hm low.le]
    next => rfl

/-- A window of the kind ages, every other one stays as it is. -/
theorem getD_agedWins (k q : Nat) {m : SMap WinSt} (hm : m.sorted = true) :
    SMap.getD (agedWins k m) q {} = if q / 512 = k then agedWin (SMap.getD m q {}) else SMap.getD m q {} := by
  induction m with
  | nil => exact (ite_holds (P := (· = ({} : WinSt))) agedWin_empty rfl).symm
  | cons e m ih =>
    obtain ⟨a, v⟩ := e
    obtain ⟨above, sorted⟩ := SMap.sorted_cons.mp hm
    have aboveAged : SMap.above a (agedWins k m) := (sorted_foldr m _ (fun _ _ => pick_holds) sorted).2 a above
    rw [getD_cons a q v {} above]
    by_cases here : a / 512 = k
    · have run : agedWins k ((a, v) :: m) = if agedWin v = {} then agedWins k m else (a, agedWin v) :: agedWins k m :=
        if_pos (beq_iff_eq.mpr here)
      rw [run]
      split
      · next gone =>
        rw [ih sorted]
        by_cases e : q = a
        · rw [e, if_pos here, if_pos here, if_pos rfl, SMap.getD, SMap.get?_above above le_rfl, gone]
          rfl
        · rw [if_neg e]
      · rw [getD_cons a q _ {} aboveAged, ih sorted]
        by_cases e : q = a
        · rw [if_pos e, if_pos e, e, if_pos here]
        · rw [if_neg e, if_neg e]
    · have run : agedWins k ((a, v) :: m) = (a, v) :: agedWins k m := if_neg (fun e => here (beq_iff_eq.mp e))
      rw [run, getD_cons a q _ {} aboveAged, ih sorted]
      by_cases e : q = a
      · rw [if_pos e, if_pos e, e, if_neg here]
      · rw [if_neg e, if_neg e]

/-! ### The lasting ones -/

theorem get?_of_mem {α : Type} {m : SMap α} (hm : m.sorted = true) {e : Nat × α} (he : e ∈ m) : SMap.get? m e.1 = some e.2 := by
  induction m with
  | nil => cases he
  | cons x m ih =>
    obtain ⟨a, v⟩ := x
    obtain ⟨above, sorted⟩ := SMap.sorted_cons.mp hm
    unfold SMap.get?
    rcases List.mem_cons.mp he with rfl | he
    · exact if_pos rfl
    · have := above e he
      rw [if_neg (by omega), if_neg (by omega), ih sorted he]

theorem mem_of_get? {α : Type} {m : SMap α} {q : Nat} {v : α} (h : SMap.get? m q = some v) : (q, v) ∈ m := by
  induction m with
  | nil => cases h
  | cons x m ih =>
    obtain ⟨a, w⟩ := x
    unfold SMap.get? at h
    split at h
    next e =>
      cases h
      rw [e]
      exact List.mem_cons_self
    next =>
      split at h
      · cases h
      · exact List.mem_cons_of_mem _ (ih h)

theorem mem_lastingOf {s : State} (h : s.hlt.wins.sorted = true) (k : Nat) {i : Nat} (hi : i < 512) :
    i ∈ lastingOf s k ↔ (winOf s k i).lasting = true := by
  have there {w : WinSt} : SMap.get? s.hlt.wins (512 * k + i) = some w ↔ (512 * k + i, w) ∈ s.hlt.wins :=
    ⟨mem_of_get?, get?_of_mem h⟩
  unfold lastingOf winOf SMap.getD
  rw [List.mem_map]
  constructor
  · rintro ⟨⟨a, w⟩, he, rfl⟩
    rw [List.mem_filter, Bool.and_eq_true, beq_iff_eq] at he
    obtain ⟨he, rfl, lasting⟩ := he
    rw [show 512 * (a / 512) + a % 512 = a from Nat.div_add_mod a 512, get?_of_mem h he]
    exact lasting
  · intro lasting
    cases hw : SMap.get? s.hlt.wins (512 * k + i) with
    | none =>
      rw [hw] at lasting
      cases lasting
    | some w =>
      rw [hw] at lasting
      refine ⟨(512 * k + i, w), List.mem_filter.mpr ⟨there.mp hw, ?_⟩, ?_⟩
      · rw [Bool.and_eq_true, beq_iff_eq]
        exact ⟨by omega, lasting⟩
      · show (512 * k + i) % 512 = i
        omega

theorem lastingOf_lt {s : State} {k i : Nat} (h : i ∈ lastingOf s k) : i < 512 := by
  unfold lastingOf at h
  obtain ⟨e, -, rfl⟩ := List.mem_map.mp h
  exact Nat.mod_lt _ (by decide)

/-! ### What HLT_WIN_STATUS shows -/

/-- The bits below n that satisfy a test, as a number. -/
def maskOf (bit : Nat → Bool) (n : Nat) : Nat := (List.range n).foldl (fun a j => if bit j then a + 2 ^ j else a) 0

theorem maskOf_succ (bit : Nat → Bool) (n : Nat) : maskOf bit (n + 1) = if bit n then maskOf bit n + 2 ^ n else maskOf bit n := by
  unfold maskOf
  rw [List.range_succ, List.foldl_append]
  rfl

theorem maskOf_lt (bit : Nat → Bool) (n : Nat) : maskOf bit n < 2 ^ n := by
  induction n with
  | zero => exact Nat.one_pos
  | succ n ih =>
    rw [maskOf_succ, Nat.pow_succ]
    split <;> omega

theorem testBit_maskOf (bit : Nat → Bool) {n i : Nat} (hi : i < n) : (maskOf bit n).testBit i = bit i := by
  induction n with
  | zero => exact absurd hi (Nat.not_lt_zero i)
  | succ n ih =>
    have low := maskOf_lt bit n
    rw [maskOf_succ]
    rcases Nat.lt_succ_iff_lt_or_eq.mp hi with hlt | rfl
    · split
      · rw [Nat.add_comm, Nat.testBit_two_pow_add_gt hlt, ih hlt]
      · exact ih hlt
    · split
      next set_ => rw [Nat.add_comm, Nat.testBit_two_pow_add_eq, Nat.testBit_lt_two_pow low, set_]; rfl
      next clear => rw [Nat.testBit_lt_two_pow low, Bool.eq_false_iff.mpr clear]

/-- A kind without lanes shows its lasting windows bit by bit. -/
theorem showLasting_status {s : State} (h : s.regs.sorted = true) {k : Nat} (h1 : k ≠ 1) (h2 : k ≠ 2) {i : Nat} (hi : i < 16) :
    ((showLasting k s).reg .HLT_WIN_STATUS k).toNat.testBit (16 + i) = (lastingOf s k).contains i := by
  have run : showLasting k s = s.setReg .HLT_WIN_STATUS
      (BitVec.ofNat 32 (maskOf (fun j => (lastingOf s k).contains j) 16 * 65536 + (lastingOf s k).headD 0)) k := by
    have plain : (k == 1 || k == 2) = false := by simp [h1, h2]
    unfold showLasting maskOf
    dsimp only
    rw [plain]
    rfl
  have head : (lastingOf s k).headD 0 < 65536 := by
    cases hl : lastingOf s k with
    | nil => decide
    | cons a l =>
      have := lastingOf_lt (s := s) (k := k) (i := a) (by rw [hl]; exact List.mem_cons_self)
      show a < 65536
      omega
  have low := maskOf_lt (fun j => (lastingOf s k).contains j) 16
  rw [run, reg_setReg h, BitVec.toNat_ofNat, Nat.mod_eq_of_lt (by omega), Nat.add_comm 16 i, ← Nat.testBit_div_two_pow,
    show (2 : Nat) ^ 16 = 65536 from rfl, Nat.mul_comm, Nat.mul_add_div (by decide), Nat.div_eq_of_lt head, Nat.add_zero,
    testBit_maskOf _ hi]

end Sys2Proof.Machine
end

section
/-!
SUPPORT. A ledger check (R424, R426, R427): what both sides of a ledger read, which a check leaves alone, and what it notes of
each difference.
-/
namespace Sys2Proof.Machine

/-! ### What the sides read -/

/-- Mirror copies of a session that wait for a ring. -/
def capsHeld (s : State) (ses : Nat) : Nat := (s.host.recq.filter (fun r => match r with
  | .cap c => c.session == ses
  | .notes _ => false)).length

/-- Mirror copies of a session on their way in and in transmission. -/
def copiesUnder (x : XbarSt) (l : LeafSt) (ses : Nat) : Nat :=
  ((x.feed.flatMap (fun e => e.2)).filter (fun x => x.cell.tag.copy == some ses && (x.cell.kind == 2 || x.cell.kind == 3))).length
    + (l.ports.filter (fun e => e.2.tx.any (fun t => t.copy.any (fun c => c.session == ses)))).length

theorem copiesHeld_eq (s : State) (ses : Nat) : copiesHeld s ses = copiesUnder s.xbar s.leaf ses + capsHeld s ses := rfl

/-- What a check of one ledger may change. -/
def checkTouch : Touch := ⟨6144, 0x80000000000000000000000000000000000000000000, 0x1c0000000000000000000000000000000000000000000000⟩

/-- Everything that the sides of a ledger read is the same. -/
structure SameBooks (s t : State) : Prop where
  reg : ∀ r, freeR checkTouch r = true → ∀ i j, t.reg r i j = s.reg r i j
  ctl : t.ctl = s.ctl
  xbar : t.xbar = s.xbar
  buf : t.buf = s.buf
  tm : t.tm = s.tm
  sky : t.sky = s.sky
  leaf : t.leaf = s.leaf
  led : t.hlt.led = s.hlt.led
  rebase : t.hlt.rebase = s.hlt.rebase
  excused : t.hlt.excused = s.hlt.excused
  caps : ∀ ses, capsHeld t ses = capsHeld s ses

theorem SameBooks.refl (s : State) : SameBooks s s := ⟨fun _ _ _ _ => rfl, rfl, rfl, rfl, rfl, rfl, rfl, rfl, rfl, rfl, fun _ => rfl⟩

theorem SameBooks.trans {s t u : State} (h : SameBooks s t) (k : SameBooks t u) : SameBooks s u :=
  ⟨fun r hr i j => (k.reg r hr i j).trans (h.reg r hr i j), k.ctl.trans h.ctl, k.xbar.trans h.xbar, k.buf.trans h.buf,
    k.tm.trans h.tm, k.sky.trans h.sky, k.leaf.trans h.leaf, k.led.trans h.led, k.rebase.trans h.rebase,
    k.excused.trans h.excused, fun ses => (k.caps ses).trans (h.caps ses)⟩

section
variable {s t : State} (b : SameBooks s t)
include b

theorem SameBooks.fld {f : Fld} (hf : freeR checkTouch f.reg = true) (i : Nat) : t.fld f i = s.fld f i := by
  unfold State.fld
  rw [b.reg f.reg hf]

theorem SameBooks.sides (l i : Nat) : ledgerSides t l i = ledgerSides s l i := by
  have units : allUnits t = allUnits s := by unfold allUnits; rw [b.tm]
  have cells : xcells t = xcells s := by unfold xcells; rw [b.xbar]
  have chosen : chosenCells t = chosenCells s := by unfold chosenCells; rw [b.sky]
  have own : ownMod t = ownMod s := b.fld (by decide +kernel) 0
  have tiles : tilesHeld t i = tilesHeld s i := by unfold tilesHeld; rw [units, cells, chosen, b.sky]
  have resIn : residentIn t i = residentIn s i := by unfold residentIn feedOf; rw [b.xbar]
  have resOut : residentOut t i = residentOut s i := by unfold residentOut; rw [units]
  have held : ownHeld t = ownHeld s := by unfold ownHeld; rw [own, cells, units, chosen]
  have out : toward t i = toward s i := by unfold toward; rw [b.xbar]
  have relay : relayHeld t i = relayHeld s i := by unfold relayHeld; rw [cells, units, chosen]
  have copies : copiesHeld t i = copiesHeld s i := by rw [copiesHeld_eq, copiesHeld_eq, b.xbar, b.leaf, b.caps i]
  have spent : creditSpent t i = creditSpent s i := by unfold creditSpent; rw [b.xbar]
  have pool : poolTiles t i = poolTiles s i := by unfold poolTiles; rw [b.buf]
  have led (term inst : Nat) : t.ledOf term inst = s.ledOf term inst := by unfold State.ledOf; rw [b.led]
  have vc : idlVc t = idlVc s := by funext v d; unfold idlVc; rw [b.ctl]
  have pair : pairOf t i = pairOf s i := by unfold pairOf; rw [b.sky]
  unfold ledgerSides creditHeld creditOut
  split
  case h_1 =>
    rw [b.reg .BUF_POOL_FREE (by decide +kernel), b.reg .BUF_POOL_RSV (by decide +kernel),
      b.reg .BUF_POOL_ALLOC (by decide +kernel), b.reg .BUF_POOL_QUAR (by decide +kernel), pool]
  case h_2 => rw [b.reg .BUF_POOL_ALLOC (by decide +kernel), tiles]
  case h_3 => rw [led, led, led, resIn]
  case h_4 => rw [led, led, led, resOut]
  case h_5 => rw [led, led, led, led, held]
  case h_6 => rw [spent, out]
  case h_7 => rw [vc]
  case h_8 => rw [b.reg .SKY_CREDIT_HELD (by decide +kernel), pair]
  case h_9 => rw [b.reg .SKY_RELAY_OUT (by decide +kernel), pair, relay]
  case h_10 => rw [b.fld (f := .SKYT_LEASE_HELD) (by decide +kernel), led, led]
  case h_11 => rw [led, led, copies]
  case h_12 => rfl

theorem SameBooks.live (l i : Nat) : ledgerLive t l i = ledgerLive s l i := by
  unfold ledgerLive State.flag
  rw [b.fld (f := .BUF_CARVE_STATUS_DONE) (by decide +kernel)]

end

/-! ### One comparison -/

theorem capsHeld_fault (code arg w2 w3 : Nat) (s : State) (ses : Nat) : capsHeld (fault code arg w2 w3 s) ses = capsHeld s ses := by
  unfold capsHeld
  rw [fault_recq, List.filter_append, List.length_append]
  rfl

theorem capsHeld_congr {s t : State} (h : t.host = s.host) (ses : Nat) : capsHeld t ses = capsHeld s ses := by
  unfold capsHeld
  rw [h]

/-- A function that keeps within a check leaves what the sides read. -/
theorem SameBooks.of_kept {s t : State} (h : s.Sound) (ht : t.Sound) (k : Kept checkTouch s t) (led : t.hlt.led = s.hlt.led)
    (rebase : t.hlt.rebase = s.hlt.rebase) (excused : t.hlt.excused = s.hlt.excused)
    (caps : ∀ ses, capsHeld t ses = capsHeld s ses) : SameBooks s t :=
  ⟨fun _ hr i j => k.reg h ht hr i j, k.ctl (by decide), k.xbar (by decide), k.buf (by decide), k.tm (by decide),
    k.sky (by decide), k.leaf (by decide), led, rebase, excused, caps⟩

/-- A ledger fault is counted and shown. -/
def ledgerShown (l arg : Nat) (s : State) : State :=
  ((s.count .HLT_LEDGER_FAULT_CNT (l - 1)).setFld .HLT_LEDGER_STATUS_FAULT 1).setFld .HLT_LEDGER_STATUS_LAST arg

theorem ledgerShown_leaves {s : State} (h : s.Sound) (l arg : Nat) : (ledgerShown l arg s).hlt = s.hlt
    ∧ (ledgerShown l arg s).host = s.host ∧ (ledgerShown l arg s).flag .HLT_LEDGER_STATUS_FAULT = true := by
  unfold ledgerShown
  have regs : (s.count .HLT_LEDGER_FAULT_CNT (l - 1)).regs.sorted = true := h.regs
  refine ⟨?_, ?_, ?_⟩
  · rw [setFld_hlt, setFld_hlt, count_hlt]
  · rw [setFld_host, setFld_host, count_host]
  · exact (flag_setFld_beside (sorted_setFld regs _ _ _ _) (by decide) arg 0 0).trans
      (flag_setFld regs (f := .HLT_LEDGER_STATUS_FAULT) (by decide) (by decide) 1 0 0)

/-- It is recorded, unless there were many in a second. -/
def ledgerNoted (code arg w2 w3 : Nat) (s : State) : State :=
  let recent := s.hlt.recs.filter (fun t => decide (s.now < t + 1000 * clkMs))
  if 64 ≤ recent.length then s.count .HLT_RECORD_SUPPRESS_CNT
  else fault code arg w2 w3 { s with hlt := { s.hlt with recs := s.now :: recent } }

theorem ledgerFault_eq (l i left right : Nat) (s : State) :
    ledgerFault l i left right s = ledgerNoted 0x14 (256 * l + i) left right (ledgerShown l (256 * l + i) s) := rfl

/-- The record changes the records and the log of the health block, and no copy that waits. -/
theorem ledgerNoted_leaves (code arg w2 w3 : Nat) (s : State) :
    (∃ recs keepq, (ledgerNoted code arg w2 w3 s).hlt = { s.hlt with recs := recs, keepq := keepq })
    ∧ (∀ ses, capsHeld (ledgerNoted code arg w2 w3 s) ses = capsHeld s ses) ∧ (ledgerNoted code arg w2 w3 s).regs = s.regs := by
  unfold ledgerNoted
  dsimp only
  split
  · exact ⟨⟨s.hlt.recs, s.hlt.keepq, count_hlt ..⟩, capsHeld_congr (count_host ..), count_regs ..⟩
  · exact ⟨⟨_, _, rfl⟩, fun ses => (capsHeld_fault ..).trans (capsHeld_congr rfl ses), rfl⟩

theorem ledgerFault_shows {s : State} (h : s.Sound) (l i left right : Nat) :
    (∃ recs keepq, (ledgerFault l i left right s).hlt = { s.hlt with recs := recs, keepq := keepq })
    ∧ (∀ ses, capsHeld (ledgerFault l i left right s) ses = capsHeld s ses)
    ∧ (ledgerFault l i left right s).flag .HLT_LEDGER_STATUS_FAULT = true := by
  obtain ⟨hlt, host, shown⟩ := ledgerShown_leaves h l (256 * l + i)
  obtain ⟨⟨recs, keepq, health⟩, caps, regs⟩ := ledgerNoted_leaves 0x14 (256 * l + i) left right (ledgerShown l (256 * l + i) s)
  rw [ledgerFault_eq]
  refine ⟨⟨recs, keepq, by rw [health, hlt]⟩, fun ses => (caps ses).trans (capsHeld_congr host ses), ?_⟩
  rw [flag_congr regs, shown]

/-- A difference and an offset as they are noted. -/
def noteDiff (q : Nat) (d : Int) (s : State) : State := { s with hlt := { s.hlt with diffs := SMap.put s.hlt.diffs q 0 d } }

/-- What one check leaves of another. -/
structure ChecksOne (q : Nat) (s t : State) : Prop where
  sound : t.Sound
  books : SameBooks s t
  beside : ∀ p, p ≠ q → SMap.getD t.hlt.offs p 0 = SMap.getD s.hlt.offs p 0 ∧ SMap.getD t.hlt.diffs p 0 = SMap.getD s.hlt.diffs p 0
  fault : s.flag .HLT_LEDGER_STATUS_FAULT = true → t.flag .HLT_LEDGER_STATUS_FAULT = true

theorem compareOne_eq (l i : Nat) (left right : Int) (s : State) : compareOne l i left right s
    = if left - right - SMap.getD s.hlt.offs (512 * l + i) 0 = 0
        ∨ left - right - SMap.getD s.hlt.offs (512 * l + i) 0 = SMap.getD s.hlt.diffs (512 * l + i) 0
      then noteDiff (512 * l + i) (left - right - SMap.getD s.hlt.offs (512 * l + i) 0) s
      else ledgerFault l i (unsgn 64 left) (unsgn 64 right)
        (noteDiff (512 * l + i) (left - right - SMap.getD s.hlt.offs (512 * l + i) 0) s) := rfl

theorem sound_noteDiff {s : State} (h : s.Sound) (q : Nat) (d : Int) : (noteDiff q d s).Sound :=
  ⟨h.regs, h.shadow, h.cnts, h.tot, h.hold, h.pairs, h.ctl, h.host, HltSt.sound_mk h.hlt.wins h.hlt.winCfg h.hlt.bktAt h.hlt.led
    h.hlt.offs (SMap.sorted_put h.hlt.diffs _ _ _) h.hlt.flog, h.nvm, h.cls, h.time, h.tbl, h.leaf, h.xbar, h.buf, h.tm, h.sky⟩

theorem noteDiff_checks {s : State} (h : s.Sound) (q : Nat) (d : Int) : ChecksOne q s (noteDiff q d s) :=
  ⟨sound_noteDiff h q d, ⟨fun _ _ _ _ => rfl, rfl, rfl, rfl, rfl, rfl, rfl, rfl, rfl, rfl, fun _ => rfl⟩,
    fun _ hp => ⟨rfl, SMap.getD_put_ne h.hlt.diffs hp _ _ _⟩, id⟩

/-- A ledger fault changes nothing that a check reads. -/
theorem ledgerFault_checks {u : State} (h : u.Sound) (q l i left right : Nat) :
    ChecksOne q u (ledgerFault l i left right u) ∧ (ledgerFault l i left right u).hlt.offs = u.hlt.offs
    ∧ (ledgerFault l i left right u).hlt.diffs = u.hlt.diffs := by
  have sound := sound_ledgerFault l i left right u h
  have k := kept_ledgerFault (T := checkTouch) (by decide) l i left right u (.refl _ u)
  obtain ⟨⟨recs, keepq, hlt⟩, caps, shows⟩ := ledgerFault_shows h l i left right
  refine ⟨⟨sound, .of_kept h sound k ?_ ?_ ?_ caps, fun p _ => ?_, fun _ => shows⟩, ?_, ?_⟩
  all_goals rw [hlt]
  exact ⟨rfl, rfl⟩

theorem ChecksOne.trans {q : Nat} {s t u : State} (h : ChecksOne q s t) (k : ChecksOne q t u) : ChecksOne q s u :=
  ⟨k.sound, h.books.trans k.books, fun p hp => ⟨(k.beside p hp).1.trans (h.beside p hp).1, (k.beside p hp).2.trans (h.beside p hp).2⟩,
    fun hf => k.fault (h.fault hf)⟩

/-- A comparison notes the difference from the offset, and shows a new one as a fault. -/
theorem compareOne_checks {s : State} (h : s.Sound) (l i : Nat) (left right : Int) :
    ChecksOne (512 * l + i) s (compareOne l i left right s)
    ∧ SMap.getD (compareOne l i left right s).hlt.offs (512 * l + i) 0 = SMap.getD s.hlt.offs (512 * l + i) 0
    ∧ SMap.getD (compareOne l i left right s).hlt.diffs (512 * l + i) 0 = left - right - SMap.getD s.hlt.offs (512 * l + i) 0
    ∧ (left - right - SMap.getD s.hlt.offs (512 * l + i) 0 ≠ 0 →
      left - right - SMap.getD s.hlt.offs (512 * l + i) 0 ≠ SMap.getD s.hlt.diffs (512 * l + i) 0 →
      (compareOne l i left right s).flag .HLT_LEDGER_STATUS_FAULT = true) := by
  rw [compareOne_eq]
  generalize left - right - SMap.getD s.hlt.offs (512 * l + i) 0 = d
  have noted := noteDiff_checks h (512 * l + i) d
  have diff : SMap.getD (noteDiff (512 * l + i) d s).hlt.diffs (512 * l + i) 0 = d := SMap.getD_put_self h.hlt.diffs _ _ _
  have off : (noteDiff (512 * l + i) d s).hlt.offs = s.hlt.offs := rfl
  split
  next even => exact ⟨noted, by rw [off], diff, fun h0 hw => absurd even (not_or.mpr ⟨h0, hw⟩)⟩
  next =>
    obtain ⟨fault, offs, diffs⟩ := ledgerFault_checks noted.sound (512 * l + i) l i (unsgn 64 left) (unsgn 64 right)
    obtain ⟨-, -, shows⟩ := ledgerFault_shows noted.sound l i (unsgn 64 left) (unsgn 64 right)
    exact ⟨noted.trans fault, by rw [offs, off], by rw [diffs, diff], fun _ _ => shows⟩

/-- A rebase takes the difference as the offset. -/
theorem rebaseOne_checks {s : State} (h : s.Sound) (l i : Nat) (d : Int) :
    ChecksOne (512 * l + i) s (rebaseOne l i d s)
    ∧ SMap.getD (rebaseOne l i d s).hlt.offs (512 * l + i) 0 = d ∧ SMap.getD (rebaseOne l i d s).hlt.diffs (512 * l + i) 0 = 0:= by
  have offs : (rebaseOne l i d s).hlt.offs = SMap.put s.hlt.offs (512 * l + i) 0 d := rfl
  have diffs : (rebaseOne l i d s).hlt.diffs = SMap.put s.hlt.diffs (512 * l + i) 0 0 := rfl
  refine ⟨⟨sound_rebaseOne l i d s h, ⟨fun _ _ _ _ => rfl, rfl, rfl, rfl, rfl, rfl, rfl, rfl, rfl, rfl, fun _ => rfl⟩,
    fun p hp => ?_, id⟩, ?_, ?_⟩
  · rw [offs, diffs]
    exact ⟨SMap.getD_put_ne h.hlt.offs hp _ _ _, SMap.getD_put_ne h.hlt.diffs hp _ _ _⟩
  · rw [offs, SMap.getD_put_self h.hlt.offs]
  · rw [diffs, SMap.getD_put_self h.hlt.diffs]

/-! ### The check of every ledger -/

/-- What a check notes of one difference. -/
structure DiffNoted (s t : State) (l i : Nat) : Prop where
  rebased : l ∈ s.hlt.rebase →
    SMap.getD t.hlt.offs (512 * l + i) 0 = (ledgerSides s l i).1 - (ledgerSides s l i).2
    ∧ SMap.getD t.hlt.diffs (512 * l + i) 0 = 0
  compared : l ∉ s.hlt.rebase → (∀ e ∈ s.hlt.excused, e.1 ≠ l) →
    SMap.getD t.hlt.offs (512 * l + i) 0 = SMap.getD s.hlt.offs (512 * l + i) 0
    ∧ SMap.getD t.hlt.diffs (512 * l + i) 0 = (ledgerSides s l i).1 - (ledgerSides s l i).2
      - SMap.getD s.hlt.offs (512 * l + i) 0
    ∧ (SMap.getD t.hlt.diffs (512 * l + i) 0 ≠ 0 →
      SMap.getD t.hlt.diffs (512 * l + i) 0 ≠ SMap.getD s.hlt.diffs (512 * l + i) 0 →
      t.flag .HLT_LEDGER_STATUS_FAULT = true)

theorem ChecksOne.refl {s : State} (h : s.Sound) (q : Nat) : ChecksOne q s s := ⟨h, .refl s, fun _ _ => ⟨rfl, rfl⟩, id⟩

theorem checkOne_eq (l i : Nat) (s : State) : checkOne l i s = if !ledgerLive s l i then s
    else if s.hlt.rebase.contains l then rebaseOne l i ((ledgerSides s l i).1 - (ledgerSides s l i).2) s
    else if s.hlt.excused.any (fun e => e.1 == l) then s
    else compareOne l i (ledgerSides s l i).1 (ledgerSides s l i).2 s := rfl

/-- One check notes its difference. -/
theorem checkOne_checks {s : State} (h : s.Sound) (l i : Nat) : ChecksOne (512 * l + i) s (checkOne l i s)
    ∧ (ledgerLive s l i = true → DiffNoted s (checkOne l i s) l i) := by
  rw [checkOne_eq]
  split
  next dead =>
    refine ⟨.refl h _, fun live => ?_⟩
    rw [live] at dead
    cases dead
  next =>
    split
    next rebase =>
      rw [List.contains_iff_mem] at rebase
      obtain ⟨checks, offs, diffs⟩ := rebaseOne_checks h l i ((ledgerSides s l i).1 - (ledgerSides s l i).2)
      exact ⟨checks, fun _ => ⟨fun _ => ⟨offs, diffs⟩, fun other => absurd rebase other⟩⟩
    next rebase =>
      rw [List.contains_iff_mem] at rebase
      split
      next excused =>
        obtain ⟨e, he, el⟩ := List.any_eq_true.mp excused
        exact ⟨.refl h _, fun _ => ⟨fun r => absurd r rebase, fun _ none_ => absurd (beq_iff_eq.mp el) (none_ e he)⟩⟩
      next =>
        obtain ⟨checks, offs, diffs, shows⟩ := compareOne_checks h l i (ledgerSides s l i).1 (ledgerSides s l i).2
        exact ⟨checks, fun _ => ⟨fun r => absurd r rebase, fun _ _ => ⟨offs, diffs, by rw [diffs]; exact shows⟩⟩⟩

/-- The ledgers in the order of the check, each by number and place. -/
def ledgerList : List (Nat × Nat) := (range' 1 11).flatMap (fun l => (List.range (ledgerCount l)).map (fun i => (l, i)))

theorem mem_ledgerList {l i : Nat} : (l, i) ∈ ledgerList ↔ (1 ≤ l ∧ l ≤ 11) ∧ i < ledgerCount l := by
  unfold ledgerList
  rw [List.mem_flatMap]
  constructor
  · rintro ⟨k, hk, hi⟩
    obtain ⟨j, hj, e⟩ := List.mem_map.mp hi
    cases e
    rw [mem_range'_iff] at hk
    exact ⟨by omega, List.mem_range.mp hj⟩
  · rintro ⟨hl, hi⟩
    exact ⟨l, mem_range'_iff.mpr (by omega), List.mem_map.mpr ⟨i, List.mem_range.mpr hi, rfl⟩⟩

theorem ledgerCount_le (l : Nat) : ledgerCount l ≤ 128 := by
  unfold ledgerCount
  split_ifs <;> decide

/-- Every ledger is checked once. -/
theorem ledgerList_apart : ledgerList.Pairwise (fun e d => 512 * e.1 + e.2 ≠ 512 * d.1 + d.2) := by
  unfold ledgerList
  rw [List.pairwise_flatMap]
  refine ⟨fun l _ => ?_, ?_⟩
  · rw [List.pairwise_map]
    exact List.pairwise_lt_range.imp fun {i j} lt => show 512 * l + i ≠ 512 * l + j by omega
  · have ordered : (range' 1 11).Pairwise (· < ·) := by decide
    refine ordered.imp fun {l m} lt x hx y hy => ?_
    obtain ⟨i, hi, rfl⟩ := List.mem_map.mp hx
    obtain ⟨j, -, rfl⟩ := List.mem_map.mp hy
    have small := (List.mem_range.mp hi).trans_le (ledgerCount_le l)
    show 512 * l + i ≠ 512 * m + j
    omega

/-- What the checks of a list leave. -/
structure ChecksAll (L : List (Nat × Nat)) (s t : State) : Prop where
  sound : t.Sound
  books : SameBooks s t
  noted : ∀ l i, (l, i) ∈ L → ledgerLive s l i = true → DiffNoted s t l i
  beside : ∀ p, (∀ e ∈ L, p ≠ 512 * e.1 + e.2) →
    SMap.getD t.hlt.offs p 0 = SMap.getD s.hlt.offs p 0 ∧ SMap.getD t.hlt.diffs p 0 = SMap.getD s.hlt.diffs p 0
  fault : s.flag .HLT_LEDGER_STATUS_FAULT = true → t.flag .HLT_LEDGER_STATUS_FAULT = true

theorem checkList_checks {L : List (Nat × Nat)} (apart : L.Pairwise (fun e d => 512 * e.1 + e.2 ≠ 512 * d.1 + d.2))
    {s : State} (h : s.Sound) : ChecksAll L s (L.foldl (fun s e => checkOne e.1 e.2 s) s) := by
  induction L generalizing s with
  | nil => exact ⟨h, .refl s, fun _ _ hm => absurd hm List.not_mem_nil, fun _ _ => ⟨rfl, rfl⟩, id⟩
  | cons x L ih =>
    obtain ⟨l, i⟩ := x
    obtain ⟨first, rest⟩ := List.pairwise_cons.mp apart
    obtain ⟨one, noted⟩ := checkOne_checks h l i
    have all := ih rest one.sound
    rw [List.foldl_cons]
    refine ⟨all.sound, one.books.trans all.books, fun m j hm live => ?_, fun p hp => ?_, fun hf => all.fault (one.fault hf)⟩
    · rcases List.mem_cons.mp hm with e | hm
      · cases e
        obtain ⟨offs, diffs⟩ := all.beside (512 * l + i) first
        obtain ⟨rebased, compared⟩ := noted live
        refine ⟨fun r => ?_, fun r e => ?_⟩
        · rw [offs, diffs]
          exact rebased r
        · rw [offs, diffs]
          obtain ⟨off, diff, shows⟩ := compared r e
          exact ⟨off, diff, fun h0 hw => all.fault (shows h0 hw)⟩
      · have key : 512 * m + j ≠ 512 * l + i := fun e => first (m, j) hm e.symm
        obtain ⟨offs, diffs⟩ := one.beside _ key
        obtain ⟨rebased, compared⟩ := all.noted m j hm ((one.books.live m j).trans live)
        rw [one.books.rebase, one.books.sides] at rebased
        rw [one.books.rebase, one.books.excused, one.books.sides, offs, diffs] at compared
        exact ⟨rebased, compared⟩
    · obtain ⟨offs, diffs⟩ := all.beside p fun e he => hp e (List.mem_cons_of_mem _ he)
      obtain ⟨offs', diffs'⟩ := one.beside p (hp (l, i) List.mem_cons_self)
      exact ⟨offs.trans offs', diffs.trans diffs'⟩

/-! ### A check that finds every ledger even -/

/-- Only the health block has changed, and no offset in it. -/
structure EvenSoFar (s t : State) : Prop where
  hlt : ∃ z, t = { s with hlt := z }
  offs : t.hlt.offs = s.hlt.offs
  sound : t.Sound
  books : SameBooks s t

theorem noteDiff_only {s t : State} {z : HltSt} (e : t = { s with hlt := z }) (q : Nat) (d : Int) :
    ∃ z, noteDiff q d t = { s with hlt := z } := by
  subst e
  exact ⟨_, rfl⟩

theorem checkOne_even {s t : State} (h : EvenSoFar s t) {l i : Nat} (none_ : s.hlt.rebase = [])
    (even : ledgerLive s l i = true → (ledgerSides s l i).1 - (ledgerSides s l i).2 = SMap.getD s.hlt.offs (512 * l + i) 0) :
    EvenSoFar s (checkOne l i t) := by
  obtain ⟨⟨z, e⟩, offs, sound, books⟩ := h
  rw [checkOne_eq]
  split
  · exact ⟨⟨z, e⟩, offs, sound, books⟩
  next live =>
    rw [Bool.not_eq_true, Bool.not_eq_false', books.live] at live
    rw [books.rebase, none_, if_neg (show ¬ ([] : List Nat).contains l = true from Bool.false_ne_true)]
    split
    · exact ⟨⟨z, e⟩, offs, sound, books⟩
    · have zero : (ledgerSides t l i).1 - (ledgerSides t l i).2 - SMap.getD t.hlt.offs (512 * l + i) 0 = 0 := by
        rw [books.sides, offs, even live, sub_self]
      rw [compareOne_eq, if_pos (.inl zero)]
      have noted := noteDiff_checks sound (512 * l + i) ((ledgerSides t l i).1 - (ledgerSides t l i).2
        - SMap.getD t.hlt.offs (512 * l + i) 0)
      exact ⟨noteDiff_only e .., offs, noted.sound, books.trans noted.books⟩

theorem checkList_even {L : List (Nat × Nat)} {s : State} (h : s.Sound) (none_ : s.hlt.rebase = [])
    (even : ∀ l i, (l, i) ∈ L → ledgerLive s l i = true →
      (ledgerSides s l i).1 - (ledgerSides s l i).2 = SMap.getD s.hlt.offs (512 * l + i) 0) :
    EvenSoFar s (L.foldl (fun s e => checkOne e.1 e.2 s) s) := by
  suffices ∀ t, EvenSoFar s t → EvenSoFar s (L.foldl (fun s e => checkOne e.1 e.2 s) t) from
    this s ⟨⟨s.hlt, rfl⟩, rfl, h, .refl s⟩
  induction L with
  | nil => exact fun _ ht => ht
  | cons x L ih =>
    exact fun t ht => ih (fun l i hm => even l i (List.mem_cons_of_mem _ hm)) _
      (checkOne_even ht none_ (even x.1 x.2 List.mem_cons_self))

end Sys2Proof.Machine
end

section
/-!
SUPPORT. Windows and ledgers as commands (R419 to R427), and the settlement of O60.
-/
namespace Sys2Proof.Machine

theorem Sofar.setHlt {s u : State} {aa : List Area} {oo cc : List Nat} (h : Sofar s u aa oo cc) (hm : Area.hlt ∈ aa) (x : HltSt) :
    Sofar s { u with hlt := x } aa oo cc := by
  refine h.areas rfl rfl rfl fun a ha => ?_
  cases a <;> trivial

/-! ### Windows -/

theorem sorted_agedWins (k : Nat) {m : SMap WinSt} (hm : m.sorted = true) : (agedWins k m).sorted = true :=
  (sorted_foldr m _ (fun _ _ => pick_holds) hm).1

/-- The windows of a kind have aged, and its written setting is in force. -/
def bucketAged (k : Nat) (s : State) : State := { s with hlt := { s.hlt with
  wins := agedWins k s.hlt.wins, bktAt := SMap.put s.hlt.bktAt k 0 (nextBucket s k),
  winCfg := SMap.put s.hlt.winCfg k (Reg.HLT_WIN_CFG.resetOf k 0) (s.reg .HLT_WIN_CFG k) } }

theorem windowBucketEnd_due {s : State} {k : Nat} (h : s.sys.switchAt + nextBucket s k ≤ s.now) :
    windowBucketEnd k s = showLasting k (bucketAged k s) := if_pos h

/-- What the boundary leaves. -/
theorem bucketAged_shows {s : State} (h : s.Sound) (k : Nat) : (bucketAged k s).Sound
    ∧ winCfg (bucketAged k s) k = s.reg .HLT_WIN_CFG k ∧ SMap.getD (bucketAged k s).hlt.bktAt k 0 = nextBucket s k
    ∧ ∀ j i, i < 512 → winOf (bucketAged k s) j i = if j = k then agedWin (winOf s j i) else winOf s j i := by
  refine ⟨⟨h.regs, h.shadow, h.cnts, h.tot, h.hold, h.pairs, h.ctl, h.host, HltSt.sound_mk (sorted_agedWins k h.hlt.wins)
    (SMap.sorted_put h.hlt.winCfg _ _ _) (SMap.sorted_put h.hlt.bktAt _ _ _) h.hlt.led h.hlt.offs h.hlt.diffs h.hlt.flog,
    h.nvm, h.cls, h.time, h.tbl, h.leaf, h.xbar, h.buf, h.tm, h.sky⟩, SMap.getD_put_self h.hlt.winCfg _ _ _,
    SMap.getD_put_self h.hlt.bktAt _ _ _, fun j i hi => ?_⟩
  have kind : (512 * j + i) / 512 = j := by omega
  have read := getD_agedWins k (512 * j + i) h.hlt.wins
  rw [kind] at read
  exact read

/-! ### Ledgers -/

/-- A check is counted. -/
def checkStart (k : Nat) (s : State) : State := { s with hlt := { s.hlt with chkAt := k } }.count .HLT_CHECK_CNT

/-- No ledger waits to be rebased. -/
def noRebase (s : State) : State := { s with hlt := { s.hlt with rebase := [] } }

theorem ledgerCheck_due {s : State} (on : s.flag .HLT_CFG_LEDGER_EN = true) (due : s.hlt.chkAt < (s.now - s.sys.switchAt) / 1600000) :
    ledgerCheck s = noRebase (ledgerList.foldl (fun s e => checkOne e.1 e.2 s) (checkStart ((s.now - s.sys.switchAt) / 1600000) s)) := by
  unfold ledgerCheck ledgerList checkStart noRebase
  dsimp only
  rw [if_pos ⟨on, due⟩, List.foldl_flatMap]
  simp only [List.foldl_map]

theorem checkStart_shows {s : State} (h : s.Sound) (k : Nat) : (checkStart k s).Sound ∧ SameBooks s (checkStart k s)
    ∧ (checkStart k s).hlt.offs = s.hlt.offs ∧ (checkStart k s).hlt.diffs = s.hlt.diffs
    ∧ (checkStart k s).cnt .HLT_CHECK_CNT = s.cnt .HLT_CHECK_CNT + 1#64
    ∧ Sofar s (checkStart k s) [.hlt] [] [Cnt.off .HLT_CHECK_CNT] := by
  have frame := ((Sofar.start h [.hlt] [] [Cnt.off .HLT_CHECK_CNT]).setHlt (by decide) { s.hlt with chkAt := k }).count
    .HLT_CHECK_CNT 0 0 1 (by decide)
  have sound : State.Sound { s with hlt := { s.hlt with chkAt := k } } := ⟨h.regs, h.shadow, h.cnts, h.tot, h.hold, h.pairs,
    h.ctl, h.host, HltSt.sound_mk h.hlt.wins h.hlt.winCfg h.hlt.bktAt h.hlt.led h.hlt.offs h.hlt.diffs h.hlt.flog, h.nvm,
    h.cls, h.time, h.tbl, h.leaf, h.xbar, h.buf, h.tm, h.sky⟩
  refine ⟨sound_State_count _ _ _ _ _ sound, ⟨fun _ _ _ _ => rfl, rfl, rfl, rfl, rfl, rfl, rfl, rfl, rfl, rfl, fun _ => rfl⟩,
    rfl, rfl, cnt_count h.cnts .HLT_CHECK_CNT 0 0 1, frame⟩

theorem checkList_count (L : List (Nat × Nat)) {s : State} (h : s.Sound) :
    (L.foldl (fun s e => checkOne e.1 e.2 s) s).cnt .HLT_CHECK_CNT = s.cnt .HLT_CHECK_CNT := by
  obtain ⟨k, sound⟩ := foldl_holds (P := fun t => Kept checkTouch s t ∧ t.Sound) (f := fun s e => checkOne e.1 e.2 s) (l := L)
    (fun t e ht => ⟨kept_checkOne (by decide) e.1 e.2 t ht.1, sound_checkOne e.1 e.2 t ht.2⟩) ⟨.refl _ s, h⟩
  exact k.cnt h sound (by decide +kernel) 0 0

/-- Where no ledger is off, a check changes the health block and its count. -/
theorem ledgerCheck_even {s b x : State} {oo cc : List Nat} (frame : Sofar s b [.hlt] oo cc) (even : ∃ z, x = { b with hlt := z }) :
    (noRebase x).host = s.host ∧ s.Only (noRebase x) [.hlt] oo cc := by
  obtain ⟨z, rfl⟩ := even
  have only := (frame.setHlt (by decide) { z with rebase := [] }).only
  exact ⟨only.area .host (by decide), only⟩

/-! ### Excuses and rebases -/

theorem excuseExpiry_idle {s : State} (h : ∀ e ∈ s.hlt.excused, s.now < e.2) : excuseExpiry s = s := by
  have none_ : s.hlt.excused.filter (fun e => decide (e.2 ≤ s.now)) = [] :=
    List.filter_eq_nil_iff.mpr fun e he => by simpa using h e he
  unfold excuseExpiry
  dsimp only
  rw [none_]
  rfl

/-- Excuses that go on. -/
def excusedOn (s : State) : List (Nat × Nat) := s.hlt.excused.filter (fun e => !decide (e.2 ≤ s.now))

/-- Ledgers whose excuse has ended. -/
def excusedOff (s : State) : List Nat := (s.hlt.excused.filter (fun e => decide (e.2 ≤ s.now))).map (fun e => e.1)

/-- The ledgers whose excuse has ended are to be rebased. -/
def excusesEnd (s : State) : State := { s with hlt := { s.hlt with excused := excusedOn s, rebase := s.hlt.rebase ++ excusedOff s } }

theorem excuseExpiry_ends {s : State} {e : Nat × Nat} (he : e ∈ s.hlt.excused) (ended : e.2 ≤ s.now) : excuseExpiry s
    = (excusesEnd s).setFld .HLT_LEDGER_STATUS_EXCUSED (b2n (!(excusedOn s).isEmpty)) := by
  have some_ : (s.hlt.excused.filter (fun e => decide (e.2 ≤ s.now))).isEmpty = false :=
    List.isEmpty_eq_false_iff_exists_mem.mpr ⟨e, List.mem_filter.mpr ⟨he, decide_eq_true ended⟩⟩
  exact if_neg (by rw [some_]; exact Bool.false_ne_true)

theorem mem_excusedOn {s : State} {e : Nat × Nat} : e ∈ excusedOn s ↔ e ∈ s.hlt.excused ∧ s.now < e.2 := by
  unfold excusedOn
  rw [List.mem_filter, Bool.not_eq_true', decide_eq_false_iff_not, Nat.not_le]

/-- Settles O60: windows age by `getD_agedWins`, ledgers are checked by `checkList_checks`. -/
theorem windowsAndLedgers : Obligations.WindowsAndLedgers := by
  unfold Obligations.WindowsAndLedgers
  refine ⟨fun s k h => ⟨fun early => ?_, fun due => ?_⟩, fun s h => ⟨fun off => ?_, fun runs on due => ?_⟩,
    fun s h => ⟨fun none_ => congrArg Host.Outcome.next (excuseExpiry_idle none_), fun e he ended => ?_⟩, fun s a h hl => ?_⟩
  case refine_1 => exact congrArg Host.Outcome.next (if_neg (Nat.not_le.mpr early))
  case refine_2 =>
    obtain ⟨sound, cfg, bkt, wins⟩ := bucketAged_shows h k.val
    have kept := (kept_showLasting (le_same _) k.val _ (.refl _ (bucketAged k.val s))).hlt (by decide)
    have shown := sound_showLasting k.val _ sound
    have status := fun h1 h2 i hi => showLasting_status (i := i) sound.regs (k := k.val) h1 h2 hi
    have run : exec (.windowBucketEnd k) s = .next _ := congrArg Host.Outcome.next (windowBucketEnd_due due)
    have sameWin (j i : Nat) : winOf (showLasting k.val (bucketAged k.val s)) j i = winOf (bucketAged k.val s) j i := by
      unfold winOf
      rw [kept]
    refine ⟨_, run, ?_, ?_, fun i hi => ?_, fun j _ hj i hi => ?_, fun h1 h2 i hi => ?_, ?_, ?_⟩
    · unfold winCfg
      rw [kept]
      exact cfg
    · rw [kept]
      exact bkt
    · rw [sameWin, wins k.val i hi, if_pos rfl]
      exact agedWin_shows _
    · rw [sameWin, wins j i hi, if_neg hj]
    · rw [status h1 h2 i hi, sameWin, Bool.eq_iff_iff, List.contains_iff_mem]
      exact mem_lastingOf sound.hlt.wins k.val (by omega)
    · rw [kept]
      rfl
    · rw [kept]
      rfl
  case refine_3 =>
    refine congrArg Host.Outcome.next ?_
    unfold running
    split
    · rfl
    next runs =>
      refine if_neg fun both => ?_
      rcases off with stopped | disabled | early
      · exact runs stopped
      · rw [disabled] at both
        cases both.1
      · exact absurd both.2 (Nat.not_lt.mpr early)
  case refine_4 =>
    obtain ⟨sound, books, offs, diffs, count, frame⟩ := checkStart_shows h ((s.now - s.sys.switchAt) / 1600000)
    have run : exec .ledgerCheck s = .next _ :=
      congrArg Host.Outcome.next ((running_runs runs ledgerCheck).trans (ledgerCheck_due on due))
    have all := checkList_checks ledgerList_apart sound
    have counted := (checkList_count ledgerList sound).trans count
    have fine := checkList_even (L := ledgerList) sound
    obtain ⟨x, hx⟩ : ∃ x, ledgerList.foldl (fun s e => checkOne e.1 e.2 s) (checkStart ((s.now - s.sys.switchAt) / 1600000) s) = x :=
      ⟨_, rfl⟩
    rw [hx] at run all counted fine
    refine ⟨_, run, counted, all.books.led.trans books.led, rfl, fun l i l1 l11 hi live => ?_, fun none_ even => ?_⟩
    · obtain ⟨rebased, compared⟩ := all.noted l i (mem_ledgerList.mpr ⟨⟨l1, l11⟩, hi⟩) ((books.live l i).trans live)
      rw [books.rebase, books.sides] at rebased
      rw [books.rebase, books.excused, books.sides, offs, diffs] at compared
      exact ⟨rebased, compared⟩
    · refine ledgerCheck_even frame (fine (books.rebase.trans none_) fun l i hm live => ?_).hlt
      obtain ⟨⟨l1, l11⟩, hi⟩ := mem_ledgerList.mp hm
      rw [books.live] at live
      rw [books.sides, offs]
      exact even l i l1 l11 hi live
  case refine_5 =>
    have run : exec .excuseExpiry s = .next _ := congrArg Host.Outcome.next (excuseExpiry_ends he ended)
    have frame := ((Sofar.start h [.hlt] [Reg.off .HLT_LEDGER_STATUS] []).setHlt (by decide)
      { s.hlt with excused := excusedOn s, rebase := s.hlt.rebase ++ excusedOff s }).setFld .HLT_LEDGER_STATUS_EXCUSED
        (b2n (!(excusedOn s).isEmpty)) 0 0 (by decide)
    refine ⟨_, run, List.mem_append_right _ ?_, fun x => mem_excusedOn, ?_, frame.only⟩
    · exact List.mem_map.mpr ⟨e, List.mem_filter.mpr ⟨he, decide_eq_true ended⟩, rfl⟩
    · rw [flag_setFld (s := excusesEnd s) h.regs (by decide) (by decide) _ 0 0, show (2 : Nat) ^ (_ + 1 - _) = 2 from rfl, b2n_bit,
        Bool.not_eq_true', List.isEmpty_eq_false_iff_exists_mem]
      exact exists_congr fun _ => mem_excusedOn
  case refine_6 =>
    have there := fusedOff_write32 (r := .HLT_CFG) (i := 0) (by decide +kernel) (by decide) (by decide) (by decide) s a
      (2 + s.fld .HLT_CFG_LEDGER_EN)
    have run : exec (.hltRebase a) s = .next (hltRebase (idlSend 0 0 1 0 s)) := congrArg Host.Outcome.next (far_linked hl there)
    refine ⟨_, run, fun l l1 l11 => mem_range'_iff.mpr (by omega), ?_⟩
    exact (((Sofar.start h [.hlt, .ctl] [] []).send (by decide) 0 0 1 0).setHlt (by decide) _).only

end Sys2Proof.Machine
end

section
/-!
SUPPORT. Interrupts that pend, and the answer of a mailbox (R284, R295).
-/
namespace Sys2Proof.Machine

/-! ### An interrupt that pends stays -/

theorem testBit_addBit {w k j : Nat} (clear : w.testBit k = false) (hw : w.testBit j = true) (hj : j < 32) :
    (BitVec.ofNat 32 (w + 2 ^ k)).toNat.testBit j = true := by
  have put : putBit w k true = w + 2 ^ k := by
    unfold putBit
    rw [clear]
    rfl
  rw [BitVec.toNat_ofNat, Nat.testBit_mod_two_pow, decide_eq_true hj, Bool.true_and, ← put, testBit_putBit]
  split
  · rfl
  · exact hw

theorem pends_congr {s t : State} (h : t.regs = s.regs) (v : Nat) : pends t v ↔ pends s v := by
  unfold pends
  rw [reg_congr h]

/-- Another interrupt leaves it. -/
theorem pends_stays {s : State} (h : s.Sound) {v w : Nat} (hv : v < 256) (hw : w < 256) (p : pends s w) : pends (takeInt v s) w := by
  unfold takeInt
  dsimp only
  split
  · exact p
  · next clear =>
    refine (pends_congr (regs_newInt v _) w).mpr ?_
    unfold pends at p ⊢
    by_cases same : w / 32 = v / 32
    · rw [same] at p ⊢
      rw [reg_setReg (s := noteInt v false s) h.regs]
      exact testBit_addBit (Bool.eq_false_iff.mpr clear) p (Nat.mod_lt _ (by decide))
    · have ne := off_ne_index (r := .CTL_INT_PEND) (by decide +kernel) (by decide) (i := w / 32) (k := v / 32)
        (show w / 32 < 8 by omega) (show v / 32 < 8 by omega) same
      rw [reg_setReg_ne (s := noteInt v false s) h.regs ne]
      exact p

theorem pends_raiseVec_stays {s : State} (h : s.Sound) {v w : Nat} (hv : v < 256) (hw : w < 256) (p : pends s w) :
    pends (raiseVec v s) w := by
  unfold raiseVec
  split
  · have sent := (Sends.refl h).send 2 1 1 0
    exact pends_stays sent.sound hv hw ((pends_congr sent.regs w).mpr p)
  · exact p

/-- What an interrupt of the control die changes. -/
theorem Sofar.takeInt {s u : State} {aa : List Area} {oo cc : List Nat} (h : Sofar s u aa oo cc) (hc : Area.ctl ∈ aa)
    (ho : Area.out ∈ aa) {v : Nat} (hr : Reg.off .CTL_INT_PEND (v / 32) ∈ oo) (hm : Cnt.off .CTL_INT_MERGE_CNT ∈ cc) :
    Sofar s (takeInt v u) aa oo cc := by
  unfold Machine.takeInt
  dsimp only
  split
  · exact (h.setCtl hc _).count .CTL_INT_MERGE_CNT 0 0 1 hm
  · unfold newInt sendMsix
    have pending := (h.setCtl hc { u.ctl with intAt := SMap.insert u.ctl.intAt v (u.regClk + 1, false) }).setReg .CTL_INT_PEND
      (BitVec.ofNat 32 ((u.reg .CTL_INT_PEND (v / 32)).toNat + 2 ^ (v % 32))) (v / 32) 0 hr
    refine ite_holds (P := fun t => Sofar s t aa oo cc) (ite_holds (P := fun t => Sofar s t aa oo cc) ?_ ?_) pending
    · exact pending.emit ho _
    · exact pending.setCtl hc _

/-! ### The answer of a mailbox -/

/-- The response words are in the mailbox. -/
def mboxFill (m : Nat) (words : List Nat) (n : Nat) (s : State) : State := (List.range n).foldl (fun s k =>
  s.setReg .KEEP_MBOX_DATA (BitVec.ofNat 32 (words.getD k 0)) m k) s

/-- The mailbox was the last to be served. -/
def servedLast (m : Nat) (s : State) : State := { s with ctl := { s.ctl with mboxLast := m } }

theorem servedLast_leaves (m : Nat) (s : State) : (servedLast m s).regs = s.regs ∧ (servedLast m s).cnts = s.cnts := ⟨rfl, rfl⟩

theorem sound_servedLast (m : Nat) {s : State} (h : s.Sound) : (servedLast m s).Sound :=
  ⟨h.regs, h.shadow, h.cnts, h.tot, h.hold, h.pairs, CtlSt.sound_mk h.ctl.msix h.ctl.intAt h.ctl.vcs h.ctl.arbs h.ctl.pols
    h.ctl.accounts, h.host, h.hlt, h.nvm, h.cls, h.time, h.tbl, h.leaf, h.xbar, h.buf, h.tm, h.sky⟩

/-- The command is done. -/
def mboxDone (m status : Nat) (s : State) : State :=
  servedLast m ((s.setFld .KEEP_MBOX_CMD_STATUS status m).setFld .KEEP_MBOX_CMD_BUSY 0 m)

theorem mboxAnswer_eq (m status : Nat) (words : List Nat) (s : State) : mboxAnswer m status words s
    = takeInt (175 + m) ((mboxDone m status (mboxFill m words 16 s)).count .KEEP_MBOX_CMD_CNT) := rfl

theorem mboxFill_succ (m : Nat) (words : List Nat) (n : Nat) (s : State) : mboxFill m words (n + 1) s
    = (mboxFill m words n s).setReg .KEEP_MBOX_DATA (BitVec.ofNat 32 (words.getD n 0)) m n := by
  unfold mboxFill
  rw [List.range_succ, List.foldl_append]
  rfl

/-- The words that a mailbox holds. -/
theorem mboxFill_data {s : State} (h : s.regs.sorted = true) {m : Nat} (hm : m < 2) (words : List Nat) {n : Nat} (hn : n ≤ 16) :
    (mboxFill m words n s).regs.sorted = true
    ∧ ∀ k < n, (mboxFill m words n s).reg .KEEP_MBOX_DATA m k = BitVec.ofNat 32 (words.getD k 0) := by
  induction n with
  | zero => exact ⟨h, fun k hk => absurd hk (Nat.not_lt_zero k)⟩
  | succ n ih =>
    obtain ⟨sorted, data⟩ := ih (Nat.le_of_succ_le hn)
    rw [mboxFill_succ]
    refine ⟨sorted_setReg sorted _ _ _ _, fun k hk => ?_⟩
    rcases Nat.lt_succ_iff_lt_or_eq.mp hk with hlt | rfl
    · have ne : Reg.off .KEEP_MBOX_DATA m k ≠ Reg.off .KEEP_MBOX_DATA m n := by
        have off (j : Nat) (hj : j < 16) : Reg.off .KEEP_MBOX_DATA m j = 0x1300000 + 0x100 * m + 4 * j := by
          unfold Reg.off
          rw [show Reg.KEEP_MBOX_DATA.n1 = 2 from rfl, show Reg.KEEP_MBOX_DATA.n2 = 16 from rfl, Nat.mod_eq_of_lt hm,
            Nat.mod_eq_of_lt hj]
          rfl
        rw [off k (by omega), off n (by omega)]
        omega
      rw [reg_setReg_ne sorted ne, data k hlt]
    · exact reg_setReg sorted _ _ _ _

theorem Sofar.mboxFill {s u : State} {aa : List Area} {oo cc : List Nat} (h : Sofar s u aa oo cc) {m : Nat}
    (hr : ∀ k < 16, Reg.off .KEEP_MBOX_DATA m k ∈ oo) (words : List Nat) {n : Nat} (hn : n ≤ 16) :
    Sofar s (mboxFill m words n u) aa oo cc := by
  induction n with
  | zero => exact h
  | succ n ih =>
    rw [mboxFill_succ]
    exact (ih (Nat.le_of_succ_le hn)).setReg _ _ _ _ (hr n hn)

/-- The answer changes its mailbox, its count and its vector. -/
theorem Sofar.mboxAnswer {s u : State} {aa : List Area} {oo cc : List Nat} (h : Sofar s u aa oo cc) (hc : Area.ctl ∈ aa)
    (ho : Area.out ∈ aa) {m : Nat} (hm : m < 2) (hr : ∀ q ∈ mboxRegs m, q ∈ oo) (hn : ∀ q ∈ mboxCnts, q ∈ cc)
    (status : Nat) (words : List Nat) : Sofar s (mboxAnswer m status words u) aa oo cc := by
  have data (k : Nat) (hk : k < 16) : Reg.off .KEEP_MBOX_DATA m k ∈ oo :=
    hr _ (List.mem_append_left _ (List.mem_map.mpr ⟨k, List.mem_range.mpr hk, rfl⟩))
  have cmd : Reg.off .KEEP_MBOX_CMD m ∈ oo := hr _ (List.mem_append_right _ List.mem_cons_self)
  have pend : Reg.off .CTL_INT_PEND 5 ∈ oo := hr _ (List.mem_append_right _ (List.mem_cons_of_mem _ List.mem_cons_self))
  have vec : (175 + m) / 32 = 5 := by omega
  rw [mboxAnswer_eq]
  have done : Sofar s (mboxDone m status (Machine.mboxFill m words 16 u)) aa oo cc :=
    (((h.mboxFill data words le_rfl).setFld .KEEP_MBOX_CMD_STATUS status m 0 cmd).setFld .KEEP_MBOX_CMD_BUSY 0 m 0 cmd).setCtl hc _
  exact (done.count .KEEP_MBOX_CMD_CNT 0 0 1 (hn _ List.mem_cons_self)).takeInt hc ho (by rw [vec]; exact pend)
    (hn _ (List.mem_cons_of_mem _ List.mem_cons_self))

/-- The registers of a mailbox whose command is done. -/
theorem mboxDone_shows {s : State} (h : s.regs.sorted = true) {m status : Nat} (hs : status < 256) :
    (mboxDone m status s).flag .KEEP_MBOX_CMD_BUSY m = false ∧ (mboxDone m status s).fld .KEEP_MBOX_CMD_STATUS m = status
    ∧ ∀ k, (mboxDone m status s).reg .KEEP_MBOX_DATA m k = s.reg .KEEP_MBOX_DATA m k := by
  have regs : (mboxDone m status s).regs = ((s.setFld .KEEP_MBOX_CMD_STATUS status m).setFld .KEEP_MBOX_CMD_BUSY 0 m).regs :=
    (servedLast_leaves m _).1
  have sorted := sorted_setFld h .KEEP_MBOX_CMD_STATUS status m 0
  refine ⟨?_, ?_, fun k => ?_⟩
  · rw [flag_congr regs, flag_setFld sorted (by decide) (by decide)]
    rfl
  · rw [fld_congr regs, fld_setFld_ne (f := .KEEP_MBOX_CMD_BUSY) (g := .KEEP_MBOX_CMD_STATUS) sorted (by decide) (by decide) rfl
      (by decide), fld_setFld h (by decide) (by decide)]
    exact Nat.mod_eq_of_lt hs
  · rw [reg_congr regs, reg_setFld_apart sorted (by decide), reg_setFld_apart h (by decide)]

/-- A mailbox is answered. -/
theorem mboxAnswer_answers {s : State} (h : s.Sound) {m : Nat} (hm : m < 2) {status : Nat} (hs : status < 256) (words : List Nat) :
    answered s (mboxAnswer m status words s) m status words := by
  obtain ⟨sorted, data⟩ := mboxFill_data h.regs hm words (n := 16) le_rfl
  obtain ⟨busy, shown, same⟩ := mboxDone_shows sorted (m := m) hs
  have filled : (mboxFill m words 16 s).Sound :=
    foldl_holds (P := State.Sound) (fun x k hx => sound_State_setReg x _ _ m k hx) h
  have cnts : (mboxFill m words 16 s).cnts = s.cnts :=
    foldl_holds (P := fun t : State => t.cnts = s.cnts) (fun x k hx => (setReg_cnts x _ _ m k).trans hx) rfl
  have done : (mboxDone m status (mboxFill m words 16 s)).Sound := sound_servedLast m
    (sound_State_setFld _ .KEEP_MBOX_CMD_BUSY 0 m 0 (sound_State_setFld _ .KEEP_MBOX_CMD_STATUS status m 0 filled))
  have doneCnts : (mboxDone m status (mboxFill m words 16 s)).cnts = (mboxFill m words 16 s).cnts :=
    (servedLast_leaves m _).2.trans ((setFld_cnts ..).trans (setFld_cnts ..))
  have counted := sound_State_count _ .KEEP_MBOX_CMD_CNT 0 0 1 done
  have k := kept_takeInt (le_same _) (175 + m) _ (.refl _ ((mboxDone m status (mboxFill m words 16 s)).count .KEEP_MBOX_CMD_CNT))
  have raised := sound_takeInt (175 + m) _ counted
  have vec := pends_takeInt counted (175 + m)
  rw [mboxAnswer_eq]
  refine ⟨?_, ?_, fun i hi => ?_, ?_, vec⟩
  · rw [k.flag counted raised (by decide +kernel), flag_congr (count_regs ..), busy]
  · rw [k.fld counted raised (by decide +kernel), fld_congr (count_regs ..), shown]
  · rw [k.reg counted raised (by decide +kernel), reg_congr (count_regs ..), same, data i hi]
  · rw [k.cnt counted raised (by decide +kernel), cnt_count done.cnts, cnt_congr doneCnts, cnt_congr cnts]

/-- An answer alone changes its mailbox. -/
theorem mboxAnswer_only {s : State} (h : s.Sound) {m : Nat} (hm : m < 2) (status : Nat) (words : List Nat) :
    s.Only (mboxAnswer m status words s) [.ctl, .out] (mboxRegs m) mboxCnts :=
  ((Sofar.start h [.ctl, .out] (mboxRegs m) mboxCnts).mboxAnswer (by decide) (by decide) hm (fun _ hq => hq) (fun _ hq => hq)
    status words).only

/-! ### What follows an answer -/

/-- An answer stays through a function that leaves the mailbox registers, their count, and interrupts that pend. -/
theorem answered.stays {s u t : State} {m status : Nat} {words : List Nat} (a : answered s u m status words) {T : Touch}
    (hu : u.Sound) (ht : t.Sound) (k : Kept T u t)
    (free : freeR T .KEEP_MBOX_CMD = true ∧ freeR T .KEEP_MBOX_DATA = true ∧ freeC T .KEEP_MBOX_CMD_CNT = true)
    (pend : pends u (175 + m) → pends t (175 + m)) : answered s t m status words := by
  obtain ⟨cmd, data, cnt⟩ := free
  refine ⟨?_, ?_, fun i hi => ?_, ?_, pend a.vector⟩
  · rw [k.flag hu ht (f := .KEEP_MBOX_CMD_BUSY) cmd, a.busy]
  · rw [k.fld hu ht (f := .KEEP_MBOX_CMD_STATUS) cmd, a.status]
  · rw [k.reg hu ht data, a.data i hi]
  · rw [k.cnt hu ht cnt, a.counts]

/-- A function that leaves the pending bits leaves what pends. -/
theorem Kept.pends {T : Touch} {s t : State} (k : Kept T s t) (h : s.Sound) (ht : t.Sound) (free : freeR T .CTL_INT_PEND = true)
    (v : Nat) : pends t v ↔ Machine.pends s v := by
  unfold Machine.pends
  rw [k.reg h ht free]

theorem pends_enterHeadless {s : State} (h : s.Sound) (cause : Nat) {v : Nat} (hv : v < 256) (p : pends s v) :
    pends (enterHeadless cause s) v := by
  have head := sound_State_setFld s .SYS_PLANE_STATE_HEADLESS 1 0 0 h
  have told := sound_State_setFld _ .SYS_PLANE_STATE_CAUSE cause 0 0 head
  have regs := noteEntry_regs ((s.setFld .SYS_PLANE_STATE_HEADLESS 1).setFld .SYS_PLANE_STATE_CAUSE cause)
  have there : pends (noteEntry ((s.setFld .SYS_PLANE_STATE_HEADLESS 1).setFld .SYS_PLANE_STATE_CAUSE cause)) v := by
    unfold pends at p ⊢
    rw [reg_congr regs, reg_setFld_apart head.regs (by decide), reg_setFld_apart h.regs (by decide)]
    exact p
  rw [enterHeadless_eq]
  exact pends_raiseVec_stays (sound_noteEntry told) (by decide) hv there

theorem pends_appResetMessage {s : State} (h : s.Sound) {v : Nat} (hv : v < 256) (p : pends s v) : pends (appResetMessage s) v := by
  unfold appResetMessage
  split
  · have sent := (Sends.refl h).send 2 0 1 0
    have there := (pends_congr sent.regs v).mpr p
    have quiet := sound_quietRings _ sent.sound
    have told := ((kept_quietRings (le_same _) _ (.refl _ (idlSend 2 0 1 0 s))).pends sent.sound quiet (by decide +kernel) v).mpr there
    unfold abruptHeadless
    refine ite_holds (P := fun t => pends t v) (ite_holds (P := fun t => pends t v) ?_ there) (pends_enterHeadless quiet 2 hv told)
    unfold pends at told ⊢
    rw [reg_setFld_apart quiet.regs (by decide)]
    exact told
  · exact p

/-- An interrupt that pends stays through an application-domain reset. -/
theorem pends_appReset {s : State} (h : s.Sound) (agent : Nat) {v : Nat} (hv : v < 256) (p : pends s v) : pends (appReset agent s) v := by
  have told := sound_appResetMessage s h
  have stopped := sound_nvmStop 8 _ told
  have noted := sound_noteReset 3 agent _ _ h.ctl stopped
  have counted := sound_appCounted noted
  obtain ⟨same, -⟩ := appCounted_noteReset 3 agent s.ctl (nvmStop 8 (appResetMessage s))
  rw [appReset_eq]
  refine ((kept_bootLost (le_same _) _ (.refl _ _)).pends counted (sound_bootLost _ counted) (by decide +kernel) v).mpr ?_
  refine (pends_congr same v).mpr ?_
  refine ((kept_noteReset (le_same _) 3 agent s.ctl _ (.refl _ _)).pends stopped noted (by decide +kernel) v).mpr ?_
  refine ((kept_nvmStop (le_same _) 8 _ (.refl _ _)).pends told stopped (by decide +kernel) v).mpr ?_
  exact pends_appResetMessage h hv p

end Sys2Proof.Machine
end

section
/-!
SUPPORT. The mailbox commands (R284, R392, R428), and the settlement of O44.
-/
namespace Sys2Proof.Machine

/-! ### The turn of a command -/

theorem mboxServe_idle {s : State} {m code : Nat} (h : mboxTurn s m code = false) (f : State → State) : mboxServe m code f s = s :=
  if_neg (by rw [h]; exact Bool.false_ne_true)

theorem mboxServe_dusk {s : State} {m code : Nat} (h : mboxTurn s m code = true) (dusk : s.flag .KEEP_STATUS_DUSK = true)
    (f : State → State) : mboxServe m code f s = mboxAnswer m 3 [] s := (if_pos h).trans (if_pos dusk)

theorem mboxServe_does {s : State} {m code : Nat} (h : mboxTurn s m code = true) (dusk : s.flag .KEEP_STATUS_DUSK = false)
    (f : State → State) : mboxServe m code f s = f s :=
  (if_pos h).trans (if_neg (by rw [dusk]; exact Bool.false_ne_true))

/-- A mailbox command is served by its mailbox. -/
theorem exec_mbox {c : Instr} {m code : Nat} (hc : mboxCode c = some (m, code)) :
    m < 2 ∧ ∃ f, ∀ s, exec c s = .next (mboxServe m code f s) := by
  unfold mboxCode at hc
  split at hc
  all_goals cases hc
  all_goals exact ⟨Fin.isLt _, _, fun _ => rfl⟩

/-! ### The shed order -/

theorem orderBytes_cons (a : Nat) (l : List Nat) :
    orderBytes (a :: l) = [bits a 7 0, bits a 15 8, bits a 23 16, bits a 31 24] ++ orderBytes l := rfl

/-- The bytes of a word make it up. -/
theorem word_of_bits {a : Nat} (h : a < 2 ^ 32) :
    bits a 7 0 + 256 * bits a 15 8 + 65536 * bits a 23 16 + 16777216 * bits a 31 24 = a := by
  unfold bits
  simp only [Nat.shiftRight_eq_div_pow]
  norm_num
  omega

/-- A shed order holds the words that it was written from. -/
theorem shedWord_orderBytes {l : List Nat} (h : ∀ a ∈ l, a < 2 ^ 32) {w : Nat} (hw : w < l.length) :
    shedWord (fun k => (orderBytes l).getD k 0) w = l.getD w 0 := by
  induction l generalizing w with
  | nil => cases hw
  | cons a l ih =>
    rw [orderBytes_cons]
    cases w with
    | zero => exact word_of_bits (h a List.mem_cons_self)
    | succ w =>
      have later := ih (fun b hb => h b (List.mem_cons_of_mem _ hb)) (Nat.lt_of_succ_lt_succ hw)
      have shift (k : Nat) : ([bits a 7 0, bits a 15 8, bits a 23 16, bits a 31 24] ++ orderBytes l).getD (4 * (w + 1) + k) 0
          = (orderBytes l).getD (4 * w + k) 0 := by
        rw [show 4 * (w + 1) + k = 4 * w + k + 4 by omega]
        rfl
      rw [List.getD_cons_succ, ← later]
      unfold shedWord
      beta_reduce
      rw [shift 1, shift 2, shift 3, show 4 * (w + 1) = 4 * (w + 1) + 0 from rfl, shift 0]
      rfl

theorem sound_withPwr {s : State} (h : s.Sound) (x : PwrSt) : State.Sound { s with pwr := x } :=
  ⟨h.regs, h.shadow, h.cnts, h.tot, h.hold, h.pairs, h.ctl, h.host, h.hlt, h.nvm, h.cls, h.time, h.tbl, h.leaf, h.xbar, h.buf,
    h.tm, h.sky⟩

/-- A committed order is kept and shown. -/
def commitOrder (o : List Nat) (s : State) : State := { s with pwr := { s.pwr with committed := some o } }

def showWords (o : List Nat) (n : Nat) (s : State) : State := (List.range n).foldl (fun s w =>
  s.setReg .PWR_SHED_ORDER (BitVec.ofNat 32 (shedWord (fun k => o.getD k 0) w)) w) s

theorem showWords_succ (o : List Nat) (n : Nat) (s : State) : showWords o (n + 1) s
    = (showWords o n s).setReg .PWR_SHED_ORDER (BitVec.ofNat 32 (shedWord (fun k => o.getD k 0) n)) n := by
  unfold showWords
  rw [List.range_succ, List.foldl_append]
  rfl

theorem showWords_shows {s : State} (h : s.Sound) (o : List Nat) {n : Nat} (hn : n ≤ 8) : (showWords o n s).Sound
    ∧ (showWords o n s).cnts = s.cnts ∧ (showWords o n s).pwr = s.pwr
    ∧ ∀ w < n, (showWords o n s).reg .PWR_SHED_ORDER w = BitVec.ofNat 32 (shedWord (fun k => o.getD k 0) w) := by
  induction n with
  | zero => exact ⟨h, rfl, rfl, fun w hw => absurd hw (Nat.not_lt_zero w)⟩
  | succ n ih =>
    obtain ⟨sound, cnts, pwr, words⟩ := ih (Nat.le_of_succ_le hn)
    rw [showWords_succ]
    refine ⟨sound_State_setReg _ _ _ n 0 sound, (setReg_cnts ..).trans cnts, (setReg_pwr ..).trans pwr, fun w hw => ?_⟩
    rcases Nat.lt_succ_iff_lt_or_eq.mp hw with hlt | rfl
    · have ne := off_ne_index (r := .PWR_SHED_ORDER) (by decide +kernel) (by decide) (i := w) (k := n)
        (show w < 8 by omega) (show n < 8 by omega) (by omega)
      rw [reg_setReg_ne sound.regs ne, words w hlt]
    · exact reg_setReg sound.regs _ _ _ _

theorem execCommit_eq (m : Fin 2) (ok : Bool) (s : State) : exec (.mboxCommitShedOrder m ok) s = .next (mboxServe m.val 2 (fun s =>
    if !orderOk (orderBytes ((List.range 8).map (mboxWord s m.val))) then mboxAnswer m.val 2 [] s
    else if !ok then mboxAnswer m.val 4 [] (s.count .NVM_FLASH_ERR_CNT)
    else mboxAnswer m.val 0 [] (showWords (orderBytes ((List.range 8).map (mboxWord s m.val))) 8
      (commitOrder (orderBytes ((List.range 8).map (mboxWord s m.val))) s))) s) := rfl

/-- An answer given once more has happened is one given before. -/
theorem answered.before {s u t : State} {m status : Nat} {words : List Nat} (a : answered u t m status words)
    (same : u.cnt .KEEP_MBOX_CMD_CNT = s.cnt .KEEP_MBOX_CMD_CNT) : answered s t m status words :=
  ⟨a.busy, a.status, a.data, a.counts.trans (by rw [same]), a.vector⟩

/-! ### The request for an application-domain reset -/

theorem resetMet_congr {s t : State} (pwr : t.pwr = s.pwr) (now : t.now = s.now) (k : Nat) : resetMet k t = resetMet k s := by
  unfold resetMet State.regClk
  rw [pwr, now]

/-- The reset that a request starts, seen from before its answer. -/
theorem appWasReset.before {s u t : State} {agent : Nat} (r : appWasReset u t agent) (same : linked u ↔ linked s) :
    appWasReset s t agent :=
  ⟨r.status, r.held, r.keys, r.engine, fun hl => r.headless (same.mpr hl), fun hl => r.waits fun e => hl (same.mp e)⟩

/-- A request with its word, outside dusk and steep, is answered and made. -/
theorem exec_appRequest {s : State} {m : Fin 2} (day : s.flag .KEEP_STATUS_DUSK = false) (turn : mboxTurn s m 4 = true)
    (asks : mboxWord s m 0 = 0xA5A5) (level : s.flag .PWR_STATUS_STEEP = false) :
    exec (.mboxAppReset m) s = .next (appRequest 1 (mboxAnswer m.val 0 [] s)) := by
  have free : resetBarred s = false := by rw [resetBarred, day, level, Bool.or_false]
  exact congrArg Host.Outcome.next ((mboxServe_does turn day _).trans ((if_neg (by rw [asks]; decide)).trans
    (if_neg (by rw [free]; exact Bool.false_ne_true))))

/-! ### The first account -/

/-- The first account is named from the words of the request. -/
def nameAdmin (m : Nat) (s : State) : State :=
  let p := toLe 4 (mboxWord s m 0) ++ toLe 4 (mboxWord s m 1) ++ toLe 4 (mboxWord s m 2)
  { s with ctl := { s.ctl with firstAdmin := some p, accounts := SMap.insert s.ctl.accounts 0 p } }

theorem sound_nameAdmin {s : State} (h : s.Sound) (m : Nat) : (nameAdmin m s).Sound :=
  ⟨h.regs, h.shadow, h.cnts, h.tot, h.hold, h.pairs, CtlSt.sound_mk h.ctl.msix h.ctl.intAt h.ctl.vcs h.ctl.arbs h.ctl.pols
    (SMap.sorted_insert h.ctl.accounts _ _), h.host, h.hlt, h.nvm, h.cls, h.time, h.tbl, h.leaf, h.xbar, h.buf, h.tm, h.sky⟩

/-- An answer leaves the first account. -/
theorem mboxAnswer_firstAdmin (m status : Nat) (words : List Nat) (s : State) :
    (mboxAnswer m status words s).ctl.firstAdmin = s.ctl.firstAdmin := by
  have filled : (mboxFill m words 16 s).ctl = s.ctl :=
    foldl_holds (P := fun t : State => t.ctl = s.ctl) (fun x k hx => (setReg_ctl x _ _ m k).trans hx) rfl
  obtain ⟨ints, msix, e⟩ := ctl_takeInt (175 + m) ((mboxDone m status (mboxFill m words 16 s)).count .KEEP_MBOX_CMD_CNT)
  have last : (mboxDone m status (mboxFill m words 16 s)).ctl.firstAdmin = (mboxFill m words 16 s).ctl.firstAdmin := rfl
  rw [mboxAnswer_eq, e]
  exact last.trans (congrArg CtlSt.firstAdmin filled)

/-- Settles O44: every command is served in its turn (`mboxServe_does`), and an answer is as `mboxAnswer_answers` says. -/
theorem keeperMailbox : Obligations.KeeperMailbox := by
  unfold Obligations.KeeperMailbox
  have plain {s : State} (h : s.Sound) (m : Fin 2) {status : Nat} (hs : status < 256) (words : List Nat) :
      answered s (mboxAnswer m.val status words s) m.val status words
      ∧ s.Only (mboxAnswer m.val status words s) [.ctl, .out] (mboxRegs m.val) mboxCnts :=
    ⟨mboxAnswer_answers h m.isLt hs words, mboxAnswer_only h m.isLt status words⟩
  refine ⟨fun s c m code h hc => ?_, fun s m v h turn day => ?_, fun s m ok h turn day => ⟨fun bad => ?_, fun good bad => ?_,
    fun good hok => ?_⟩, fun s m h day => ⟨fun turn => ?_, fun turn => ⟨fun other => ?_, fun asks steep => ?_, fun asks level met => ?_,
      fun asks level met => ?_⟩, fun turn => ⟨fun out => ?_, fun b below kept entry => ?_⟩, fun turn => ?_⟩⟩
  case refine_1 =>
    obtain ⟨hm, f, run⟩ := exec_mbox hc
    refine ⟨fun idle => (run s).trans (congrArg _ (mboxServe_idle idle f)), fun turn dusk => ?_⟩
    exact ⟨_, (run s).trans (congrArg _ (mboxServe_dusk turn dusk f)), mboxAnswer_answers h hm (by decide) [],
      mboxAnswer_only h hm 3 []⟩
  case refine_2 =>
    exact ⟨_, congrArg Host.Outcome.next (mboxServe_does turn day _), plain h m (by decide) _⟩
  case refine_3 =>
    have run := (execCommit_eq m ok s).trans (congrArg Host.Outcome.next (mboxServe_does turn day _))
    rw [bad] at run
    exact ⟨_, run, plain h m (by decide) _⟩
  case refine_4 =>
    have run := (execCommit_eq m ok s).trans (congrArg Host.Outcome.next (mboxServe_does turn day _))
    subst bad
    rw [good, Bool.not_true, if_neg Bool.false_ne_true, Bool.not_false, if_pos rfl] at run
    have counted := sound_State_count s .NVM_FLASH_ERR_CNT 0 0 1 h
    have k := kept_mboxAnswer (le_same _) m.val 4 [] _ (.refl _ (s.count .NVM_FLASH_ERR_CNT))
    refine ⟨_, run, (mboxAnswer_answers counted m.isLt (by decide) []).before (cnt_count_apart h.cnts (by decide) 0 0 1 0 0), ?_, ?_⟩
    · rw [k.cnt counted (sound_mboxAnswer _ _ _ _ counted) (by decide +kernel)]
      exact cnt_count h.cnts _ 0 0 1
    · exact (k.pwr (by decide)).trans (count_pwr ..)
  case refine_5 =>
    have run := (execCommit_eq m ok s).trans (congrArg Host.Outcome.next (mboxServe_does turn day _))
    subst hok
    rw [good, Bool.not_true, if_neg Bool.false_ne_true, if_neg Bool.false_ne_true] at run
    have sound : (commitOrder (orderBytes ((List.range 8).map (mboxWord s m.val))) s).Sound := sound_withPwr h _
    obtain ⟨shown, cnts, pwr, words⟩ := showWords_shows sound (orderBytes ((List.range 8).map (mboxWord s m.val))) (n := 8) le_rfl
    have k := kept_mboxAnswer (le_same _) m.val 0 [] _ (.refl _ (showWords (orderBytes ((List.range 8).map (mboxWord s m.val))) 8
      (commitOrder (orderBytes ((List.range 8).map (mboxWord s m.val))) s)))
    refine ⟨_, run, (mboxAnswer_answers shown m.isLt (by decide) []).before (cnt_congr cnts ..), (k.pwr (by decide)).trans pwr,
      fun w hw => ?_⟩
    have small : ∀ a ∈ (List.range 8).map (mboxWord s m.val), a < 2 ^ 32 := by
      intro a ha
      obtain ⟨i, -, rfl⟩ := List.mem_map.mp ha
      exact (s.reg .KEEP_MBOX_DATA m.val i).isLt
    have word := shedWord_orderBytes small (w := w) (by rwa [List.length_map, List.length_range])
    rw [k.reg shown (sound_mboxAnswer _ _ _ _ shown) (by decide +kernel), words w hw, word, BitVec.toNat_ofNat,
      List.getD_eq_getElem _ _ (by rwa [List.length_map, List.length_range]), List.getElem_map, List.getElem_range]
    exact Nat.mod_eq_of_lt (s.reg .KEEP_MBOX_DATA m.val w).isLt
  case refine_6 =>
    exact ⟨_, congrArg Host.Outcome.next (mboxServe_does turn day _), plain h m (by decide) _⟩
  case refine_7 =>
    have run : exec (.mboxAppReset m) s = .next _ :=
      congrArg Host.Outcome.next ((mboxServe_does turn day _).trans (if_pos (bne_iff_ne.mpr other)))
    exact ⟨_, run, plain h m (by decide) _⟩
  case refine_8 =>
    have barred : resetBarred s = true := by rw [resetBarred, steep, Bool.or_true]
    have run : exec (.mboxAppReset m) s = .next _ := congrArg Host.Outcome.next ((mboxServe_does turn day _).trans
      ((if_neg (by rw [asks]; decide)).trans (if_pos barred)))
    exact ⟨_, run, plain h m (by decide) _⟩
  case refine_9 =>
    have k := kept_mboxAnswer (le_same _) m.val 0 [] s (.refl _ s)
    have sound := sound_mboxAnswer m.val 0 [] s h
    have does : appRequest 1 (mboxAnswer m.val 0 [] s) = appReset 1 (mboxAnswer m.val 0 [] s) :=
      if_neg (by rw [resetMet_congr (k.pwr (by decide)) (k.now (by decide)) 3, met]; exact Bool.false_ne_true)
    have link : linked (mboxAnswer m.val 0 [] s) ↔ linked s := by rw [linked, linked, k.flag h sound (by decide +kernel)]
    have reset := sound_appReset 1 _ sound
    refine ⟨_, (exec_appRequest day turn asks level).trans (congrArg _ does), ?_, (appReset_resets sound 1).before link⟩
    exact (mboxAnswer_answers h m.isLt (by decide) []).stays sound reset (kept_appReset (le_same _) 1 _ (.refl _ _))
      (by decide +kernel) (pends_appReset sound 1 (by have := m.isLt; omega))
  case refine_10 =>
    have k := kept_mboxAnswer (le_same _) m.val 0 [] s (.refl _ s)
    have does : appRequest 1 (mboxAnswer m.val 0 [] s) = mboxAnswer m.val 0 [] s :=
      if_pos ((resetMet_congr (k.pwr (by decide)) (k.now (by decide)) 3).trans met)
    exact ⟨_, (exec_appRequest day turn asks level).trans (congrArg _ does), plain h m (by decide) _⟩
  case refine_11 =>
    have kept : (decide (s.hlt.logSeq ≤ mboxWord s m.val 0) || decide (mboxWord s m.val 0 + logSize < s.hlt.logSeq)) = true := by
      rw [Bool.or_eq_true, decide_eq_true_eq, decide_eq_true_eq]
      exact out
    have run : exec (.mboxReadLog m) s = .next _ := congrArg Host.Outcome.next ((mboxServe_does turn day _).trans (if_pos kept))
    exact ⟨_, run, plain h m (by decide) _⟩
  case refine_12 =>
    have kept' : ¬ (decide (s.hlt.logSeq ≤ mboxWord s m.val 0) || decide (mboxWord s m.val 0 + logSize < s.hlt.logSeq)) = true := by
      rw [Bool.or_eq_true, decide_eq_true_eq, decide_eq_true_eq]
      exact not_or.mpr ⟨Nat.not_le.mpr below, Nat.not_lt.mpr kept⟩
    have run : exec (.mboxReadLog m) s = .next _ := congrArg Host.Outcome.next ((mboxServe_does turn day _).trans (if_neg kept'))
    rw [show SMap.get? s.hlt.flog (mboxWord s m.val 0 % logSize) = some b from entry] at run
    exact ⟨_, run, plain h m (by split <;> decide) _⟩
  case refine_13 =>
    have named := sound_nameAdmin h m.val
    have run : exec (.mboxSetFirstAdmin m) s = .next (mboxAnswer m.val 0 [] (nameAdmin m.val s)) :=
      congrArg Host.Outcome.next (mboxServe_does turn day _)
    have frame := (Sofar.start h [.ctl, .out] (mboxRegs m.val) mboxCnts).setCtl (by decide) (nameAdmin m.val s).ctl
    refine ⟨_, run, (mboxAnswer_answers named m.isLt (by decide) []).before rfl, ?_,
      (frame.mboxAnswer (by decide) (by decide) m.isLt (fun _ hq => hq) (fun _ hq => hq) 0 []).only⟩
    rw [mboxAnswer_firstAdmin]
    rfl

end Sys2Proof.Machine
end

section
/-!
SUPPORT. The NVM engine: what its status, its slots and its boot selection show after each step of it (R409, R413, R417).
-/
namespace Sys2Proof.Machine

/-! ### Frames of the engine's steps -/

section
variable {s u : State} {aa : List Area} {oo cc : List Nat}

theorem Sofar.setNvm (h : Sofar s u aa oo cc) (hn : Area.nvm ∈ aa) (x : NvmSt) : Sofar s { u with nvm := x } aa oo cc := by
  refine h.areas rfl rfl rfl fun a ha => ?_
  cases a <;> trivial

theorem Sofar.setPwr (h : Sofar s u aa oo cc) (hp : Area.pwr ∈ aa) (x : PwrSt) : Sofar s { u with pwr := x } aa oo cc := by
  refine h.areas rfl rfl rfl fun a ha => ?_
  cases a <;> trivial

theorem Sofar.nvmErr (h : Sofar s u aa oo cc) (hr : Reg.off .NVM_STATUS ∈ oo) (code : Nat) :
    Sofar s (nvmErr code u) aa oo cc := (h.setFld .NVM_STATUS_ERR 1 0 0 hr).setFld .NVM_STATUS_ERR_CODE code 0 0 hr

theorem Sofar.nvmDone (h : Sofar s u aa oo cc) (hr : Reg.off .NVM_STATUS ∈ oo) : Sofar s (nvmDone u) aa oo cc :=
  ((h.setFld .NVM_STATUS_BUSY 0 0 0 hr).setFld .NVM_STATUS_PROGRESS 0 0 0 hr).setFld .NVM_STATUS_DONE 1 0 0 hr

theorem Sofar.nvmStart (h : Sofar s u aa oo cc) (hn : Area.nvm ∈ aa) (hr : Reg.off .NVM_STATUS ∈ oo) (o : NvmOp) :
    Sofar s (nvmStart o u) aa oo cc := (h.setFld .NVM_STATUS_BUSY 1 0 0 hr).setNvm hn _

theorem Sofar.setBoot (h : Sofar s u aa oo cc) (hn : Area.nvm ∈ aa) {f : Fld} (hr : f.reg.off 0 0 ∈ oo) (v : Nat) :
    Sofar s (setBoot f v u) aa oo cc := (h.setFld f v 0 0 hr).setNvm hn _

theorem Sofar.showSlots (h : Sofar s u aa oo cc) (hr : Reg.off .NVM_SLOT_STATUS ∈ oo) : Sofar s (showSlots u) aa oo cc :=
  h.setReg _ _ _ _ hr

end

theorem sound_withNvm {s : State} (h : s.Sound) {x : NvmSt} (hx : x.Sound) : State.Sound { s with nvm := x } :=
  ⟨h.regs, h.shadow, h.cnts, h.tot, h.hold, h.pairs, h.ctl, h.host, h.hlt, hx, h.cls, h.time, h.tbl, h.leaf, h.xbar, h.buf,
    h.tm, h.sky⟩

/-! ### The status register -/

@[simp] theorem nvmErr_nvm (code : Nat) (s : State) : (nvmErr code s).nvm = s.nvm := by rw [nvmErr, setFld_nvm, setFld_nvm]
@[simp] theorem nvmErr_cnts (code : Nat) (s : State) : (nvmErr code s).cnts = s.cnts := by rw [nvmErr, setFld_cnts, setFld_cnts]
@[simp] theorem nvmFail_nvm (code : Nat) (s : State) : (nvmFail code s).nvm = s.nvm := by
  rw [nvmFail, nvmErr_nvm, setFld_nvm, setFld_nvm]
@[simp] theorem nvmFail_cnts (code : Nat) (s : State) : (nvmFail code s).cnts = s.cnts := by
  rw [nvmFail, nvmErr_cnts, setFld_cnts, setFld_cnts]
@[simp] theorem nvmDone_nvm (s : State) : (nvmDone s).nvm = s.nvm := by rw [nvmDone, setFld_nvm, setFld_nvm, setFld_nvm]
@[simp] theorem nvmDone_cnts (s : State) : (nvmDone s).cnts = s.cnts := by rw [nvmDone, setFld_cnts, setFld_cnts, setFld_cnts]
@[simp] theorem nvmDone_host (s : State) : (nvmDone s).host = s.host := by rw [nvmDone, setFld_host, setFld_host, setFld_host]

/-- The engine is in a state. -/
def withNvm (x : NvmSt) (s : State) : State := { s with nvm := x }

@[simp] theorem withNvm_regs (x : NvmSt) (s : State) : (withNvm x s).regs = s.regs := rfl
@[simp] theorem withNvm_cnts (x : NvmSt) (s : State) : (withNvm x s).cnts = s.cnts := rfl
@[simp] theorem withNvm_pwr (x : NvmSt) (s : State) : (withNvm x s).pwr = s.pwr := rfl
@[simp] theorem withNvm_nvm (x : NvmSt) (s : State) : (withNvm x s).nvm = x := rfl
@[simp] theorem withNvm_now (x : NvmSt) (s : State) : (withNvm x s).now = s.now := rfl

theorem nvmStart_eq (o : NvmOp) (s : State) :
    nvmStart o s = withNvm { s.nvm with op := some o } (s.setFld .NVM_STATUS_BUSY 1) := rfl

@[simp] theorem nvmStart_nvm (o : NvmOp) (s : State) : (nvmStart o s).nvm = { s.nvm with op := some o } := by
  rw [nvmStart_eq, withNvm_nvm]
@[simp] theorem nvmStart_cnts (o : NvmOp) (s : State) : (nvmStart o s).cnts = s.cnts := by
  rw [nvmStart_eq, withNvm_cnts, setFld_cnts]

@[simp] theorem showSlots_nvm (s : State) : (showSlots s).nvm = s.nvm := setReg_nvm ..
@[simp] theorem showSlots_cnts (s : State) : (showSlots s).cnts = s.cnts := setReg_cnts ..
@[simp] theorem showSlots_pwr (s : State) : (showSlots s).pwr = s.pwr := setReg_pwr ..

theorem setBoot_eq (f : Fld) (v : Nat) (s : State) :
    setBoot f v s = withNvm { s.nvm with bootFlash := f.set s.nvm.bootFlash v } (s.setFld f v) := rfl

@[simp] theorem setBoot_regs (f : Fld) (v : Nat) (s : State) : (setBoot f v s).regs = (s.setFld f v).regs := by
  rw [setBoot_eq, withNvm_regs]
@[simp] theorem setBoot_cnts (f : Fld) (v : Nat) (s : State) : (setBoot f v s).cnts = s.cnts := by
  rw [setBoot_eq, withNvm_cnts, setFld_cnts]
@[simp] theorem setBoot_pwr (f : Fld) (v : Nat) (s : State) : (setBoot f v s).pwr = s.pwr := by
  rw [setBoot_eq, withNvm_pwr, setFld_pwr]
@[simp] theorem setBoot_nvm (f : Fld) (v : Nat) (s : State) :
    (setBoot f v s).nvm = { s.nvm with bootFlash := f.set s.nvm.bootFlash v } := by rw [setBoot_eq, withNvm_nvm]
@[simp] theorem setBoot_now (f : Fld) (v : Nat) (s : State) : (setBoot f v s).now = s.now := by
  rw [setBoot_eq, withNvm_now, setFld_now]

theorem nvmErr_shows {s : State} (h : s.Sound) {code : Nat} (hc : code < 32) :
    (nvmErr code s).flag .NVM_STATUS_ERR = true ∧ (nvmErr code s).fld .NVM_STATUS_ERR_CODE = code := by
  have marked := sorted_setFld h.regs .NVM_STATUS_ERR 1 0 0
  constructor
  · exact (flag_setFld_beside (f := .NVM_STATUS_ERR_CODE) (g := .NVM_STATUS_ERR) marked (by decide) code 0 0).trans
      (flag_setFld h.regs (by decide) (by decide) 1 0 0)
  · exact (fld_setFld marked (by decide) (by decide) code 0 0).trans (Nat.mod_eq_of_lt hc)

/-- An error alone changes the status. -/
theorem nvmErr_refuses {s : State} (h : s.Sound) {code : Nat} (hc : code < 32) :
    (nvmErr code s).flag .NVM_STATUS_ERR = true ∧ (nvmErr code s).fld .NVM_STATUS_ERR_CODE = code
    ∧ s.Only (nvmErr code s) [] [Reg.off .NVM_STATUS] [] :=
  ⟨(nvmErr_shows h hc).1, (nvmErr_shows h hc).2, ((Sofar.start h [] _ []).nvmErr List.mem_cons_self code).only⟩

theorem nvmFail_shows {s : State} (h : s.Sound) {code : Nat} (hc : code < 32) :
    (nvmFail code s).flag .NVM_STATUS_BUSY = false ∧ (nvmFail code s).flag .NVM_STATUS_ERR = true
    ∧ (nvmFail code s).fld .NVM_STATUS_ERR_CODE = code := by
  have idle := sound_State_setFld s .NVM_STATUS_BUSY 0 0 0 h
  have still := sound_State_setFld _ .NVM_STATUS_PROGRESS 0 0 0 idle
  have marked := sorted_setFld still.regs .NVM_STATUS_ERR 1 0 0
  refine ⟨?_, nvmErr_shows still hc⟩
  calc (nvmFail code s).flag .NVM_STATUS_BUSY
      = _ := flag_setFld_beside (f := .NVM_STATUS_ERR_CODE) (g := .NVM_STATUS_BUSY) marked (by decide) code 0 0
    _ = _ := flag_setFld_beside (f := .NVM_STATUS_ERR) (g := .NVM_STATUS_BUSY) still.regs (by decide) 1 0 0
    _ = _ := flag_setFld_beside (f := .NVM_STATUS_PROGRESS) (g := .NVM_STATUS_BUSY) idle.regs (by decide) 0 0 0
    _ = false := flag_setFld h.regs (by decide) (by decide) 0 0 0

theorem nvmDone_shows {s : State} (h : s.Sound) :
    (nvmDone s).flag .NVM_STATUS_BUSY = false ∧ (nvmDone s).flag .NVM_STATUS_DONE = true := by
  have idle := sorted_setFld h.regs .NVM_STATUS_BUSY 0 0 0
  have still := sorted_setFld idle .NVM_STATUS_PROGRESS 0 0 0
  refine ⟨?_, flag_setFld still (by decide) (by decide) 1 0 0⟩
  calc (nvmDone s).flag .NVM_STATUS_BUSY
      = _ := flag_setFld_beside (f := .NVM_STATUS_DONE) (g := .NVM_STATUS_BUSY) still (by decide) 1 0 0
    _ = _ := flag_setFld_beside (f := .NVM_STATUS_PROGRESS) (g := .NVM_STATUS_BUSY) idle (by decide) 0 0 0
    _ = false := flag_setFld h.regs (by decide) (by decide) 0 0 0

theorem nvmStart_busy {s : State} (h : s.Sound) (o : NvmOp) : (nvmStart o s).flag .NVM_STATUS_BUSY = true :=
  by
  rw [nvmStart_eq, flag_congr (withNvm_regs ..)]
  exact flag_setFld h.regs (by decide) (by decide) 1 0 0

/-! ### Slots and copies -/

theorem slotState_congr {s t : State} (e : t.nvm = s.nvm) (k : Nat) : slotState t k = slotState s k := by
  rw [slotState, slotState, e]

theorem curCopy_congr {s t : State} (e : t.nvm = s.nvm) : curCopy t = curCopy s := by
  rw [curCopy, curCopy, e]

theorem slotState_rest {s t : State} (e : nvmRest t = nvmRest s) (k : Nat) : slotState t k = slotState s k := by
  have a : t.nvm.slotA = s.nvm.slotA := (congrArg NvmSt.slotA e :)
  have b : t.nvm.slotB = s.nvm.slotB := (congrArg NvmSt.slotB e :)
  rw [slotState, slotState, a, b]

theorem curCopy_rest {s t : State} (e : nvmRest t = nvmRest s) : curCopy t = curCopy s := by
  have a : t.nvm.cfg0 = s.nvm.cfg0 := (congrArg NvmSt.cfg0 e :)
  have b : t.nvm.cfg1 = s.nvm.cfg1 := (congrArg NvmSt.cfg1 e :)
  rw [curCopy, curCopy, a, b]

@[simp] theorem setSlot_cnts (k v : Nat) (s : State) : (setSlot k v s).cnts = s.cnts := by unfold setSlot; split <;> rfl
@[simp] theorem setSlot_regs (k v : Nat) (s : State) : (setSlot k v s).regs = s.regs := by unfold setSlot; split <;> rfl
@[simp] theorem setSlot_op (k v : Nat) (s : State) : (setSlot k v s).nvm.op = s.nvm.op := by unfold setSlot; split <;> rfl
@[simp] theorem setSlot_flash (k v : Nat) (s : State) : (setSlot k v s).nvm.flash = s.nvm.flash := by unfold setSlot; split <;> rfl
@[simp] theorem setSlot_booted (k v : Nat) (s : State) : (setSlot k v s).nvm.booted = s.nvm.booted := by
  unfold setSlot; split <;> rfl

theorem slotState_setSlot (k v : Nat) (s : State) : slotState (setSlot k v s) k = v := by
  unfold slotState setSlot
  split <;> rfl

theorem slotState_setSlot_ne {j k : Nat} (hj : j < 2) (hk : k < 2) (ne : j ≠ k) (v : Nat) (s : State) :
    slotState (setSlot k v s) j = slotState s j := by
  unfold slotState setSlot
  by_cases hk0 : k = 0
  · have hj0 : j ≠ 0 := fun e => ne (e.trans hk0.symm)
    rw [if_pos hk0, if_neg hj0, if_neg hj0]
  · have hj0 : j = 0 := by omega
    rw [if_neg hk0, if_pos hj0, if_pos hj0]

@[simp] theorem setCopy_cnts (k : Nat) (c : Option CfgCopy) (s : State) : (setCopy k c s).cnts = s.cnts := by
  unfold setCopy; split <;> rfl
@[simp] theorem setCopy_op (k : Nat) (c : Option CfgCopy) (s : State) : (setCopy k c s).nvm.op = s.nvm.op := by
  unfold setCopy; split <;> rfl

/-- The current copy, of two. -/
def newerCopy : Option CfgCopy → Option CfgCopy → Option (Nat × Nat)
  | some a, some b => if a.seq < b.seq then some (1, b.seq) else some (0, a.seq)
  | some a, none => some (0, a.seq)
  | none, some b => some (1, b.seq)
  | none, none => none

theorem curCopy_eq (s : State) : curCopy s = newerCopy s.nvm.cfg0 s.nvm.cfg1 := by
  unfold curCopy newerCopy
  rfl

theorem setCopy_first (c : Option CfgCopy) (s : State) : curCopy (setCopy 0 c s) = newerCopy c s.nvm.cfg1 := by
  rw [curCopy_eq]
  rfl

theorem setCopy_second (c : Option CfgCopy) (s : State) : curCopy (setCopy 1 c s) = newerCopy s.nvm.cfg0 c := by
  rw [curCopy_eq]
  rfl

/-- The copy that a commit writes is not the current one. -/
theorem nextCopy_other (s : State) : (nextCopy s).1 = 0 ∧ (∀ q, curCopy s ≠ some (0, q)) ∨ (nextCopy s).1 = 1 ∧ ∃ q, curCopy s = some (0, q) := by
  unfold nextCopy
  split
  · next q cur => exact .inr ⟨rfl, q, cur⟩
  · next other q not cur => exact .inl ⟨rfl, fun p hp => not (by rw [hp] at cur; cases cur; rfl)⟩
  · next cur => exact .inl ⟨rfl, fun p hp => by rw [cur] at hp; cases hp⟩

/-- A commit that erases its copy leaves the current one. -/
theorem curCopy_setCopy_next (s : State) : curCopy (setCopy (nextCopy s).1 none s) = curCopy s := by
  rcases nextCopy_other s with ⟨first, not⟩ | ⟨second, q, cur⟩
  · rw [first, setCopy_first]
    rw [curCopy_eq] at not ⊢
    generalize s.nvm.cfg0 = x, s.nvm.cfg1 = y at not ⊢
    rcases x with - | a <;> rcases y with - | b
    · rfl
    · rfl
    · exact absurd rfl (not a.seq)
    · by_cases lt : a.seq < b.seq
      · exact (if_pos lt).symm
      · exact absurd (if_neg lt) (not a.seq)
  · rw [second, setCopy_second]
    rw [curCopy_eq] at cur ⊢
    generalize s.nvm.cfg0 = x, s.nvm.cfg1 = y at cur ⊢
    rcases x with - | a <;> rcases y with - | b
    · rfl
    · cases cur
    · rfl
    · by_cases lt : a.seq < b.seq
      · exact absurd (cur.symm.trans (if_pos lt)) (by rintro ⟨⟩)
      · exact (if_neg lt).symm

/-- No copy has a higher number than the current one. -/
theorem newerCopy_bounds {x y : Option CfgCopy} {q : Nat} (newer : ∀ c, newerCopy x y = some c → c.2 < q) :
    (∀ a, x = some a → a.seq < q) ∧ ∀ b, y = some b → b.seq < q := by
  rcases x with - | a <;> rcases y with - | b
  · exact ⟨nofun, nofun⟩
  · exact ⟨nofun, fun c hc => Option.some.inj hc ▸ newer _ rfl⟩
  · exact ⟨fun c hc => Option.some.inj hc ▸ newer _ rfl, nofun⟩
  · by_cases lt : a.seq < b.seq
    · have top := newer _ (if_pos lt)
      exact ⟨fun c hc => Option.some.inj hc ▸ lt.trans top, fun c hc => Option.some.inj hc ▸ top⟩
    · have top := newer _ (if_neg lt)
      exact ⟨fun c hc => Option.some.inj hc ▸ top, fun c hc => Option.some.inj hc ▸ (Nat.le_of_not_lt lt).trans_lt top⟩

/-- A copy with a higher number than the current one becomes current. -/
theorem curCopy_setCopy_newer {s : State} {k : Nat} (hk : k < 2) {q : Nat} (newer : ∀ x, curCopy s = some x → x.2 < q) :
    curCopy (setCopy k (some ⟨q⟩) s) = some (k, q) := by
  rw [curCopy_eq] at newer
  obtain ⟨first, second⟩ := newerCopy_bounds newer
  rcases (show k = 0 ∨ k = 1 by omega) with rfl | rfl
  · rw [setCopy_first]
    rcases hb : s.nvm.cfg1 with - | b
    · rfl
    · exact if_neg (Nat.not_lt.mpr (second b hb).le)
  · rw [setCopy_second]
    rcases ha : s.nvm.cfg0 with - | a
    · rfl
    · exact if_pos (first a ha)

/-! ### The boot selection -/

theorem setBoot_fld {s : State} (h : s.Sound) {f : Fld} (lo : f.lo ≤ f.hi) (hi : f.hi < 32) (v : Nat) :
    (setBoot f v s).fld f = v % 2 ^ (f.hi + 1 - f.lo) ∧ f.get (setBoot f v s).nvm.bootFlash = v % 2 ^ (f.hi + 1 - f.lo) :=
  ⟨(fld_congr (setBoot_regs f v s) ..).trans (fld_setFld h.regs lo hi v 0 0), by rw [setBoot_nvm]; exact get_set lo hi _ v⟩

theorem setBoot_fld_beside {s : State} (h : s.Sound) {f g : Fld} (apart : sideBySide f g) (v : Nat) :
    (setBoot f v s).fld g = s.fld g ∧ g.get (setBoot f v s).nvm.bootFlash = g.get s.nvm.bootFlash := by
  obtain ⟨lo, hi, same, beside⟩ := apart
  exact ⟨(fld_congr (setBoot_regs f v s) ..).trans (fld_setFld_ne h.regs lo hi same beside v 0 0),
    by rw [setBoot_nvm]; exact get_set_ne lo hi beside _ v⟩

theorem setBoot_fld_apart {s : State} (h : s.Sound) {f g : Fld} (apart : regApart g.reg f.reg = true) (v i j : Nat) :
    (setBoot f v s).fld g i j = s.fld g i j :=
  (fld_congr (setBoot_regs f v s) ..).trans (fld_setFld_apart h.regs apart v 0 0 i j)

@[simp] theorem slotState_setBoot (f : Fld) (v : Nat) (s : State) (k : Nat) : slotState (setBoot f v s) k = slotState s k := by
  rw [slotState, slotState, setBoot_nvm]

/-! ### A commit starts -/

theorem startCommit_starts {s : State} (h : s.Sound) (k host len : Nat) (image : Option (List Byte)) :
    (startCommit k host len image s).nvm.op = some ⟨3, k, slotBase k, host, len, image⟩
    ∧ slotState (startCommit k host len image s) k = 1
    ∧ (k < 2 → ∀ j < 2, j ≠ k → slotState (startCommit k host len image s) j = slotState s j)
    ∧ (startCommit k host len image s).flag .NVM_STATUS_BUSY = true
    ∧ (startCommit k host len image s).cnt .NVM_COMMIT_CNT = s.cnt .NVM_COMMIT_CNT + 1#64 := by
  have counted := sound_State_count s .NVM_COMMIT_CNT 0 0 1 h
  have marked := sound_showSlots _ (sound_setSlot k 1 _ counted)
  have slot (j : Nat) : slotState (startCommit k host len image s) j = slotState (setSlot k 1 (s.count .NVM_COMMIT_CNT)) j := by
    unfold startCommit
    rw [slotState, nvmStart_nvm, showSlots_nvm]
    rfl
  refine ⟨?_, (slot k).trans (slotState_setSlot ..), fun hk j hj ne => ?_, nvmStart_busy marked _, ?_⟩
  · unfold startCommit
    rw [nvmStart_nvm]
  · rw [slot, slotState_setSlot_ne hj hk ne, slotState_congr (count_nvm ..)]
  · unfold startCommit
    rw [cnt_congr (nvmStart_cnts ..), cnt_congr (showSlots_cnts _), cnt_congr (setSlot_cnts ..)]
    exact cnt_count h.cnts _ 0 0 1

end Sys2Proof.Machine
end

section
/-!
SUPPORT. The keeper core's restart, the fault log and Redfish (R283, R285, R397, R428), and the settlement of O45.
-/
namespace Sys2Proof.Machine

/-! ### An interrupt that pends stays through an answer -/

theorem pends_mboxAnswer {s : State} (h : s.Sound) {m : Nat} (hm : m < 2) (status : Nat) (words : List Nat) {w : Nat} (hw : w < 256)
    (p : pends s w) : pends (mboxAnswer m status words s) w := by
  have filled : (mboxFill m words 16 s).Sound ∧ (mboxFill m words 16 s).reg .CTL_INT_PEND (w / 32) = s.reg .CTL_INT_PEND (w / 32) :=
    foldl_holds (P := fun t : State => t.Sound ∧ t.reg .CTL_INT_PEND (w / 32) = s.reg .CTL_INT_PEND (w / 32))
      (fun x k hx => ⟨sound_State_setReg x _ _ m k hx.1, (reg_setReg_apart hx.1.regs (by decide) ..).trans hx.2⟩) ⟨h, rfl⟩
  have told := sound_State_setFld _ .KEEP_MBOX_CMD_STATUS status m 0 filled.1
  have done : (mboxDone m status (mboxFill m words 16 s)).Sound := sound_servedLast m (sound_State_setFld _ .KEEP_MBOX_CMD_BUSY 0 m 0 told)
  have counted := sound_State_count _ .KEEP_MBOX_CMD_CNT 0 0 1 done
  rw [mboxAnswer_eq]
  refine pends_stays counted (by omega) hw ?_
  unfold pends at p ⊢
  have regs : (mboxDone m status (mboxFill m words 16 s)).regs
      = (((mboxFill m words 16 s).setFld .KEEP_MBOX_CMD_STATUS status m).setFld .KEEP_MBOX_CMD_BUSY 0 m).regs :=
    (servedLast_leaves m _).1
  rw [reg_congr (count_regs ..), reg_congr regs, reg_setFld_apart told.regs (by decide), reg_setFld_apart filled.1.regs (by decide),
    filled.2]
  exact p

/-! ### The restart of the keeper core -/

/-- The restart is logged and counted. -/
def restartNoted (s : State) : State := keeperEvent 4 (s.count .KEEP_RESTART_CNT)

/-- The keeper core has stopped. -/
def keeperStops (l : Leds) (s : State) : State :=
  { s with ctl := { s.ctl with keySoft := none, keyKeep := none }, nvm := { s.nvm with keeperFwAt := some s.now },
           pwr := { s.pwr with ledHeld := some l, abandoned := s.pwr.abandoned || s.pwr.dusk.isSome } }

theorem exec_keeperRestart (s : State) : exec .keeperRestart s
    = .next (if s.flag .KEEP_STATUS_ALIVE && decide (s.ctl.beatAt + 100 * clkMs ≤ s.now) then
        keeperStops (leds s) ((mboxRestart 1 (mboxRestart 0 (restartNoted s))).setFld .KEEP_STATUS_ALIVE 0) else s) := rfl

theorem keeperStops_leaves (l : Leds) (s : State) : (keeperStops l s).regs = s.regs ∧ (keeperStops l s).cnts = s.cnts
    ∧ (keeperStops l s).hlt = s.hlt ∧ (keeperStops l s).ctl.keySoft = none ∧ (keeperStops l s).ctl.keyKeep = none
    ∧ (keeperStops l s).nvm = { s.nvm with keeperFwAt := some s.now }
    ∧ (keeperStops l s).pwr.abandoned = (s.pwr.abandoned || s.pwr.dusk.isSome) := ⟨rfl, rfl, rfl, rfl, rfl, rfl, rfl⟩

theorem restartNoted_leaves (s : State) : (restartNoted s).regs = s.regs ∧ (restartNoted s).cnts = (s.count .KEEP_RESTART_CNT).cnts
    ∧ (restartNoted s).hlt.keepq = s.hlt.keepq ++ [⟨1, ⟨.fault, 0, 0, s.ts64, 0, 0⟩, 4, 0, 0⟩]
    ∧ (restartNoted s).nvm = s.nvm ∧ (restartNoted s).pwr = s.pwr ∧ (restartNoted s).now = s.now := ⟨rfl, rfl, rfl, rfl, rfl, rfl⟩

theorem sound_restartNoted {s : State} (h : s.Sound) : (restartNoted s).Sound :=
  sound_keeperEvent _ _ _ _ (sound_State_count _ _ _ _ _ h)

/-- A mailbox that waits for an answer gets status 5. -/
theorem mboxRestart_busy {s : State} {m : Nat} (busy : s.flag .KEEP_MBOX_CMD_BUSY m = true) : mboxRestart m s = mboxAnswer m 5 [] s :=
  if_pos busy

/-- The other mailbox stays. -/
theorem mboxRestart_other {s : State} (h : s.Sound) {m j : Nat} (hm : m < 2) (hj : j < 2) (ne : j ≠ m) {w : Nat} (hw : w < 256) :
    (mboxRestart m s).reg .KEEP_MBOX_CMD j = s.reg .KEEP_MBOX_CMD j ∧ (pends s w → pends (mboxRestart m s) w) := by
  unfold mboxRestart
  split
  · have apart : ∀ m < 2, ∀ j < 2, j ≠ m → Reg.off .KEEP_MBOX_CMD j ∉ mboxRegs m := by decide +kernel
    refine ⟨?_, pends_mboxAnswer h hm 5 [] hw⟩
    unfold State.reg SMap.getD
    rw [(mboxAnswer_only h hm 5 []).regs _ (apart m hm j hj ne)]
  · exact ⟨rfl, id⟩

/-- Both mailboxes are answered where they wait. -/
theorem mboxRestart_answers {s : State} (h : s.Sound) {m : Nat} (hm : m < 2) (busy : s.flag .KEEP_MBOX_CMD_BUSY m = true) :
    (mboxRestart 1 (mboxRestart 0 s)).flag .KEEP_MBOX_CMD_BUSY m = false
    ∧ (mboxRestart 1 (mboxRestart 0 s)).fld .KEEP_MBOX_CMD_STATUS m = 5 ∧ pends (mboxRestart 1 (mboxRestart 0 s)) (175 + m) := by
  have first := sound_mboxRestart 0 s h
  rcases (show m = 0 ∨ m = 1 by omega) with rfl | rfl
  · obtain ⟨cmd, pend⟩ := mboxRestart_other first (m := 1) (j := 0) (w := 175) (by decide) (by decide) (by decide) (by decide)
    have a := mboxAnswer_answers h (m := 0) (by decide) (status := 5) (by decide) []
    rw [← mboxRestart_busy busy] at a
    refine ⟨?_, ?_, pend a.vector⟩
    · rw [← a.busy, State.flag, State.flag, State.fld, State.fld, show Fld.KEEP_MBOX_CMD_BUSY.reg = .KEEP_MBOX_CMD from rfl, cmd]
    · rw [← a.status, State.fld, State.fld, show Fld.KEEP_MBOX_CMD_STATUS.reg = .KEEP_MBOX_CMD from rfl, cmd]
  · obtain ⟨cmd, -⟩ := mboxRestart_other h (m := 0) (j := 1) (w := 0) (by decide) (by decide) (by decide) (by decide)
    have waits : (mboxRestart 0 s).flag .KEEP_MBOX_CMD_BUSY 1 = true := by
      rw [← busy, State.flag, State.flag, State.fld, State.fld, show Fld.KEEP_MBOX_CMD_BUSY.reg = .KEEP_MBOX_CMD from rfl, cmd]
    have a := mboxAnswer_answers first (m := 1) (by decide) (status := 5) (by decide) []
    rw [← mboxRestart_busy waits] at a
    exact ⟨a.busy, a.status, a.vector⟩

/-- What the answers leave. -/
theorem kept_mboxRestarts (s : State) : ∃ T, Kept T s (mboxRestart 1 (mboxRestart 0 s)) ∧ T.a = 1280
    ∧ freeC T .KEEP_RESTART_CNT = true ∧ namesOnly T (within 0x1000000 0x10000000) = true :=
  ⟨_, kept_mboxRestart (le_same _) 1 _ (kept_mboxRestart (le_same _) 0 _ (.refl _ s)), rfl, by decide +kernel, by decide +kernel⟩

/-! ### Redfish -/

theorem redfish_down {s : State} (down : redfishUp s = false) (authed : Bool) (f : State → State) : redfish authed f s = s :=
  if_neg (by rw [down]; exact Bool.false_ne_true)

theorem redfish_does {s : State} (up : redfishUp s = true) (f : State → State) :
    redfish true f s = f (s.count .KEEP_REDFISH_REQ_CNT) := (if_pos up).trans (if_pos rfl)

theorem redfish_refuses {s : State} (up : redfishUp s = true) (f : State → State) : redfish false f s
    = ((s.count .KEEP_REDFISH_REQ_CNT).count .KEEP_REDFISH_AUTH_FAIL_CNT).emit (.redfish 401 []) := (if_pos up).trans (if_neg Bool.false_ne_true)

/-- A function that leaves the count of requests. -/
def leavesRequests (f : State → State) : Prop :=
  ∀ u : State, u.Sound → (f u).cnt .KEEP_REDFISH_REQ_CNT = u.cnt .KEEP_REDFISH_REQ_CNT

def gracefulRestart (s : State) : State :=
  if resetBarred s then s.emit (.redfish 503 []) else appRequest 1 (s.emit (.redfish 200 []))

/-- Every request goes through Redfish. -/
theorem exec_redfish {c : Instr} {authed : Bool} {op : RedfishOp} {image : List Byte}
    (hc : c = .redfishRequest authed op ∨ c = .redfishGracefulRestart authed ∨ c = .updateServicePush authed image) :
    ∃ f, (∀ s, exec c s = .next (redfish authed f s)) ∧ leavesRequests f := by
  rcases hc with rfl | rfl | rfl
  · exact ⟨redfishOp op, fun _ => rfl, fun u h =>
      (kept_redfishOp (le_same _) op u (.refl _ u)).cnt h (sound_redfishOp op u h) (by decide +kernel) 0 0⟩
  · refine ⟨gracefulRestart, fun _ => rfl, fun u h => ?_⟩
    have told (n : Nat) := sound_State_emit u (.redfish n []) h
    unfold gracefulRestart
    refine ite_holds (P := fun t : State => t.cnt .KEEP_REDFISH_REQ_CNT = u.cnt .KEEP_REDFISH_REQ_CNT) (cnt_congr (emit_cnts ..) ..) ?_
    rw [(kept_appRequest (le_same _) 1 _ (.refl _ _)).cnt (told 200) (sound_appRequest 1 _ (told 200)) (by decide +kernel)]
    exact cnt_congr (emit_cnts ..) ..
  · exact ⟨updatePush image, fun _ => rfl, fun u h =>
      (kept_updatePush (le_same _) image u (.refl _ u)).cnt h (sound_updatePush image u h) (by decide +kernel) 0 0⟩

/-- A request that succeeds counts, and does what it asks. -/
theorem exec_redfishRequest {s : State} (up : redfishUp s = true) (op : RedfishOp) :
    exec (.redfishRequest true op) s = .next (redfishOp op (s.count .KEEP_REDFISH_REQ_CNT)) :=
  congrArg Host.Outcome.next (redfish_does up _)

theorem chassisValues_congr {s t : State} (regs : t.regs = s.regs) : chassisValues t = chassisValues s := by
  unfold chassisValues
  simp only [fld_congr regs, flag_congr regs]

theorem logValues_congr {s t : State} (hlt : t.hlt = s.hlt) (n : Nat) : logValues t n = logValues s n := by
  unfold logValues
  rw [hlt]

theorem Sofar.request {s : State} (h : s.Sound) (aa : List Area) :
    Sofar s (s.count .KEEP_REDFISH_REQ_CNT) aa [] [Cnt.off .KEEP_REDFISH_REQ_CNT] :=
  (Sofar.start h aa _ _).count _ 0 0 1 List.mem_cons_self

theorem redfishUp_day {s : State} (up : redfishUp s = true) : s.flag .KEEP_STATUS_DUSK = false := by
  unfold redfishUp at up
  simpa using (Bool.and_eq_true_iff.mp up).2

theorem slotHeld_congr {s t : State} (regs : t.regs = s.regs) (nvm : t.nvm = s.nvm) (k : Nat) : slotHeld t k = slotHeld s k := by
  unfold slotHeld
  rw [fld_congr regs, nvm]

/-- A push that stands starts its commit. -/
theorem updatePush_starts {s : State} (idle : s.nvm.op = none) (free : slotHeld s (1 - s.fld .NVM_BOOT_SEL_ACTIVE) = false)
    {image : List Byte} (len : imageLen image.length = true) : updatePush image s
    = (startCommit (1 - s.fld .NVM_BOOT_SEL_ACTIVE) 0 image.length (some image) s).emit (.redfish 202 []) :=
  (if_neg (by rw [idle]; exact Bool.false_ne_true)).trans (if_neg (by rw [free, len]; exact Bool.false_ne_true))

/-- Settles O45: a restart answers the mailboxes that wait (`mboxRestart_answers`), and every Redfish request goes through the
count of requests (`exec_redfish`). -/
theorem keeperRestartLogAndRedfish : Obligations.KeeperRestartLogAndRedfish := by
  unfold Obligations.KeeperRestartLogAndRedfish
  refine ⟨fun s h => ⟨fun still => ?_, fun alive late => ?_⟩, fun s ok none => ?_, fun s ok e rest h next alive => ?_,
    fun s c authed op image h hc => ?_, fun s h up => ⟨?_, ?_, ?_, fun n l entry => ?_, fun n p => ?_, fun p => ?_,
      fun level met => ?_, fun barred => ?_⟩, fun s image h up idle free len => ?_⟩
  case refine_1 =>
    refine (exec_keeperRestart s).trans (congrArg Host.Outcome.next (if_neg fun due => ?_))
    rw [Bool.and_eq_true, decide_eq_true_eq] at due
    rcases still with down | early
    · rw [down] at due
      exact Bool.false_ne_true due.1
    · exact absurd due.2 (Nat.not_le.mpr early)
  case refine_2 =>
    obtain ⟨notedRegs, notedCnts, keepq, notedNvm, notedPwr, notedNow⟩ := restartNoted_leaves s
    have noted := sound_restartNoted h
    have both := sound_mboxRestart 1 _ (sound_mboxRestart 0 _ noted)
    obtain ⟨T, k, area, free, far⟩ := kept_mboxRestarts (restartNoted s)
    have run := exec_keeperRestart s
    rw [if_pos (by rw [alive, decide_eq_true late]; rfl)] at run
    refine ⟨_, run, ?_⟩
    obtain ⟨regs, cnts, hlt, soft, keep, nvm, abandoned⟩ :=
      keeperStops_leaves (leds s) ((mboxRestart 1 (mboxRestart 0 (restartNoted s))).setFld .KEEP_STATUS_ALIVE 0)
    refine ⟨?_, ?_, fun m hm busy => ?_, ?_, fun dusk => ?_, soft, keep, ?_, fun q hq => ?_⟩
    · rw [flag_congr regs, flag_setFld both.regs (by decide) (by decide)]
      rfl
    · rw [cnt_congr cnts, cnt_congr (setFld_cnts ..), k.cnt noted both free, cnt_congr notedCnts]
      exact cnt_count h.cnts _ 0 0 1
    · obtain ⟨done, status, vec⟩ := mboxRestart_answers noted hm ((flag_congr notedRegs ..).trans busy)
      refine ⟨?_, ?_, (pends_congr regs _).mpr ?_⟩
      · rw [flag_congr regs, flag_setFld_apart (f := .KEEP_STATUS_ALIVE) (g := .KEEP_MBOX_CMD_BUSY) both.regs (by decide), done]
      · rw [fld_congr regs, fld_setFld_apart (f := .KEEP_STATUS_ALIVE) (g := .KEEP_MBOX_CMD_STATUS) both.regs (by decide), status]
      · unfold pends at vec ⊢
        rw [reg_setFld_apart both.regs (by decide)]
        exact vec
    · rw [hlt, setFld_hlt, k.hlt (by rw [area]; decide), keepq]
    · rw [abandoned, setFld_pwr, k.pwr (by rw [area]; decide), notedPwr, dusk, Bool.or_true]
    · rw [nvm, setFld_nvm, setFld_now, k.nvm (by rw [area]; decide), k.now (by rw [area]; decide), notedNvm, notedNow]
    · have apart : Reg.off .KEEP_STATUS = 0x1000000 + (Reg.off .KEEP_STATUS - 0x1000000) := by decide +kernel
      rw [regs]
      refine (get?_setReg_ne both.regs (fun e => ?_) _).trans ((k.far_regs noted.regs both.regs far hq).trans (by rw [notedRegs]))
      exact absurd hq (by rw [e]; exact Nat.not_lt.mpr (by rw [show Fld.KEEP_STATUS_ALIVE.reg = .KEEP_STATUS from rfl]; omega))
  case refine_3 =>
    refine congrArg Host.Outcome.next (if_pos ?_)
    rcases none with empty | down
    · rw [empty]
      rfl
    · rw [down, Bool.not_false, Bool.or_true]
  case refine_4 =>
    have held : ¬ (s.hlt.keepq.isEmpty || !s.flag .KEEP_STATUS_ALIVE) = true := by
      rw [next, alive]
      exact Bool.false_ne_true
    cases ok
    case true =>
      have written : writeLog s = { s with hlt := { s.hlt with
          keepq := rest, logSeq := s.hlt.logSeq + 1
          flog := SMap.insert s.hlt.flog (s.hlt.logSeq % logSize) (logBytes e s.hlt.logSeq) } } := by
        unfold writeLog
        rw [next]
      have run : exec (.faultLogWrite true) s = .next (writeLog s) := congrArg Host.Outcome.next ((if_neg held).trans (if_pos rfl))
      rw [written] at run
      refine ⟨_, run, fun _ => ⟨rfl, rfl, ?_, fun k ne => ?_, ((Sofar.start h _ _ _).setHlt List.mem_cons_self _).only⟩,
        fun bad => absurd bad (by decide)⟩
      · exact SMap.get?_insert_self _ _ _
      · exact SMap.get?_insert_ne ne h.hlt.flog _
    case false =>
      refine ⟨_, congrArg Host.Outcome.next ((if_neg held).trans (if_neg Bool.false_ne_true)), fun bad => absurd bad (by decide),
        fun _ => ⟨cnt_count h.cnts _ 0 0 1, ((Sofar.start h _ _ _).count _ 0 0 1 List.mem_cons_self).only⟩⟩
  case refine_5 =>
    obtain ⟨f, run, leaves⟩ := exec_redfish hc
    have counted := sound_State_count s .KEEP_REDFISH_REQ_CNT 0 0 1 h
    refine ⟨fun down => (run s).trans (congrArg _ (redfish_down down authed f)), fun up => ⟨_, run s, ?_⟩⟩
    cases authed
    case true =>
      rw [redfish_does up]
      exact ⟨(leaves _ counted).trans (cnt_count h.cnts _ 0 0 1), fun bad => absurd bad (by decide)⟩
    case false =>
      rw [redfish_refuses up]
      refine ⟨?_, fun _ => ⟨?_, ?_⟩⟩
      · rw [cnt_congr (emit_cnts ..), cnt_count_apart counted.cnts (by decide)]
        exact cnt_count h.cnts _ 0 0 1
      · rw [cnt_congr (emit_cnts ..), cnt_count counted.cnts, cnt_count_apart h.cnts (by decide)]
      · exact ((((Sofar.start h [.out] [] _).count .KEEP_REDFISH_REQ_CNT 0 0 1 List.mem_cons_self).count
          .KEEP_REDFISH_AUTH_FAIL_CNT 0 0 1 (List.mem_cons_of_mem _ List.mem_cons_self)).emit List.mem_cons_self _).only
  case refine_6 =>
    refine ⟨_, exec_redfishRequest up .login, ?_⟩
    have ctl := count_ctl s .KEEP_REDFISH_REQ_CNT 0 0 1
    unfold redfishOp
    rw [ctl]
    dsimp only
    by_cases room : s.ctl.sessions < 8
    · rw [if_pos room, if_pos room]
      exact ⟨rfl, (((Sofar.request h _).setCtl (by decide) _).emit (by decide) _).only⟩
    · rw [if_neg room, if_neg room]
      exact ⟨rfl, ((Sofar.request h _).emit (by decide) _).only⟩
  case refine_7 =>
    exact ⟨_, exec_redfishRequest up .logout, rfl, (((Sofar.request h _).setCtl (by decide) _).emit (by decide) _).only⟩
  case refine_8 =>
    refine ⟨_, exec_redfishRequest up .chassis, ?_, ((Sofar.request h _).emit (by decide) _).only⟩
    rw [← chassisValues_congr (count_regs s .KEEP_REDFISH_REQ_CNT 0 0 1)]
    rfl
  case refine_9 =>
    have shown : redfishOp (.logEntry n) (s.count .KEEP_REDFISH_REQ_CNT) = (s.count .KEEP_REDFISH_REQ_CNT).emit (.redfish 200 l) := by
      unfold redfishOp
      dsimp only
      rw [logValues_congr (count_hlt ..), entry]
    exact ⟨_, (exec_redfishRequest up (.logEntry n)).trans (congrArg _ shown), rfl, ((Sofar.request h _).emit (by decide) _).only⟩
  case refine_10 =>
    exact ⟨_, exec_redfishRequest up (.setAccount n p), rfl, (((Sofar.request h _).setCtl (by decide) _).emit (by decide) _).only⟩
  case refine_11 =>
    exact ⟨_, exec_redfishRequest up (.setAddress p), rfl, (((Sofar.request h _).setCtl (by decide) _).emit (by decide) _).only⟩
  case refine_12 =>
    have counted := sound_State_count s .KEEP_REDFISH_REQ_CNT 0 0 1 h
    have told := sound_State_emit _ (.redfish 200 []) counted
    have regs : ((s.count .KEEP_REDFISH_REQ_CNT).emit (.redfish 200 [])).regs = s.regs := (emit_regs ..).trans (count_regs ..)
    have open' : resetBarred (s.count .KEEP_REDFISH_REQ_CNT) = false := by
      rw [resetBarred, flag_congr (count_regs ..), flag_congr (count_regs ..), redfishUp_day up, level, Bool.or_false]
    have does : gracefulRestart (s.count .KEEP_REDFISH_REQ_CNT) = appReset 1 ((s.count .KEEP_REDFISH_REQ_CNT).emit (.redfish 200 [])) := by
      unfold gracefulRestart
      rw [if_neg (by rw [open']; exact Bool.false_ne_true)]
      refine if_neg ?_
      rw [resetMet_congr ((emit_pwr ..).trans (count_pwr ..)) ((emit_now ..).trans (count_now ..)), met]
      exact Bool.false_ne_true
    refine ⟨_, congrArg Host.Outcome.next ((redfish_does up gracefulRestart).trans does), (appReset_resets told 1).before ?_⟩
    rw [linked, linked, flag_congr regs]
  case refine_13 =>
    have stays : ∃ n, gracefulRestart (s.count .KEEP_REDFISH_REQ_CNT) = (s.count .KEEP_REDFISH_REQ_CNT).emit (.redfish n []) := by
      unfold gracefulRestart
      by_cases open' : resetBarred (s.count .KEEP_REDFISH_REQ_CNT) = true
      · exact ⟨503, if_pos open'⟩
      · refine ⟨200, (if_neg open').trans (if_pos ?_)⟩
        rw [resetMet_congr ((emit_pwr ..).trans (count_pwr ..)) ((emit_now ..).trans (count_now ..))]
        refine barred.resolve_left fun steep => open' ?_
        rw [resetBarred, flag_congr (count_regs ..) .PWR_STATUS_STEEP, steep, Bool.or_true]
    obtain ⟨n, does⟩ := stays
    exact ⟨_, congrArg Host.Outcome.next ((redfish_does up gracefulRestart).trans does), ((Sofar.request h _).emit (by decide) _).only⟩
  case refine_14 =>
    have counted := sound_State_count s .KEEP_REDFISH_REQ_CNT 0 0 1 h
    have active := fld_congr (count_regs s .KEEP_REDFISH_REQ_CNT 0 0 1) .NVM_BOOT_SEL_ACTIVE 0 0
    have does := updatePush_starts (s := s.count .KEEP_REDFISH_REQ_CNT) idle
      (by rw [active, slotHeld_congr (count_regs ..) (count_nvm ..), free]) len
    rw [active] at does
    obtain ⟨op, slot, -, busy, cnt⟩ :=
      startCommit_starts counted (1 - s.fld .NVM_BOOT_SEL_ACTIVE) 0 image.length (some image)
    refine ⟨_, congrArg Host.Outcome.next ((redfish_does up (updatePush image)).trans does), ?_, ?_, ?_, ?_⟩
    · rw [emit_nvm, op]
    · rw [slotState_congr (emit_nvm ..), slot]
    · rw [flag_congr (emit_regs ..), busy]
    · rw [cnt_congr (emit_cnts ..), cnt, cnt_count_apart h.cnts (by decide)]

end Sys2Proof.Machine
end

section
/-!
SUPPORT. How each NVM command begins or is refused (R413, R417), and the settlement of O58.
-/
namespace Sys2Proof.Machine

/-! ### The engine takes a command -/

theorem nvmTake_unpowered {s : State} (down : s.pwr.keeperUp = false) (f : State → State) : nvmTake f s = s :=
  if_neg (by rw [down]; exact Bool.false_ne_true)

theorem nvmTake_dusk {s : State} (up : s.pwr.keeperUp = true) (dusk : s.flag .KEEP_STATUS_DUSK = true) (f : State → State) :
    nvmTake f s = nvmErr 7 s := (if_pos up).trans (if_pos dusk)

theorem nvmTake_does {s : State} (up : s.pwr.keeperUp = true) (day : s.flag .KEEP_STATUS_DUSK = false) (f : State → State) :
    nvmTake f s = f s := (if_pos up).trans (if_neg (by rw [day]; exact Bool.false_ne_true))

theorem nvmIdle_busy {s : State} (up : s.pwr.keeperUp = true) (day : s.flag .KEEP_STATUS_DUSK = false) (busy : s.nvm.op.isSome = true)
    (f : State → State) : nvmIdle f s = nvmErr 2 s := (nvmTake_does up day _).trans (if_pos busy)

theorem nvmIdle_does {s : State} (up : s.pwr.keeperUp = true) (day : s.flag .KEEP_STATUS_DUSK = false) (idle : s.nvm.op = none)
    (f : State → State) : nvmIdle f s = f s :=
  (nvmTake_does up day _).trans (if_neg (by rw [idle]; exact Bool.false_ne_true))

/-- The commands of the engine that need it idle. -/
theorem exec_nvmIdle {c : Instr} {a : Agent} {k : Fin 2}
    (hc : c = .nvmRead a ∨ c = .nvmWrite a ∨ c = .imageCommit a k ∨ c = .switch a k ∨ c = .cfgCommit a) :
    ∃ f, ∀ s, exec c s = .next (nvmIdle f s) := by
  rcases hc with rfl | rfl | rfl | rfl | rfl
  all_goals exact ⟨_, fun _ => rfl⟩

/-- Every command of the engine is taken by it, or needs it idle too. -/
theorem exec_nvmTake {c : Instr} {a : Agent} {k : Fin 2} {x : Byte}
    (hc : c = .nvmRead a ∨ c = .nvmWrite a ∨ c = .imageCommit a k ∨ c = .switch a k ∨ c = .cfgCommit a ∨ c = .confirm a
      ∨ c = .run a x ∨ c = .abort a) : ∃ f, ∀ s, exec c s = .next (nvmTake f s) := by
  rcases hc with rfl | rfl | rfl | rfl | rfl | rfl | rfl | rfl
  all_goals exact ⟨_, fun _ => rfl⟩

/-! ### The status of a stopped operation -/

theorem nvmStop_running {s : State} {o : NvmOp} (runs : s.nvm.op = some o) (code : Nat) : nvmStop code s
    = ((nvmCut o (engineIdle s)).countIf (o.op == 3) .NVM_COMMIT_FAIL_CNT).setReg .NVM_STATUS (BitVec.ofNat 32
      (2 ^ 29 + code * 2 ^ 24 + ((nvmCut o (engineIdle s)).countIf (o.op == 3) .NVM_COMMIT_FAIL_CNT).fld .NVM_STATUS_DONE * 2 ^ 30)) := by
  unfold nvmStop
  rw [runs]
  rfl

theorem stopWord {d : Nat} (hd : d < 2) :
    Fld.NVM_STATUS_BUSY.get (BitVec.ofNat 32 (2 ^ 29 + 8 * 2 ^ 24 + d * 2 ^ 30)) = 0
    ∧ Fld.NVM_STATUS_ERR.get (BitVec.ofNat 32 (2 ^ 29 + 8 * 2 ^ 24 + d * 2 ^ 30)) = 1
    ∧ Fld.NVM_STATUS_ERR_CODE.get (BitVec.ofNat 32 (2 ^ 29 + 8 * 2 ^ 24 + d * 2 ^ 30)) = 8 := by
  rcases (show d = 0 ∨ d = 1 by omega) with rfl | rfl
  all_goals decide

/-- An operation that is cut leaves the slots and the copies. -/
theorem nvmCut_leaves (o : NvmOp) (s : State) : (∀ k, slotState (nvmCut o (engineIdle s)) k = slotState s k)
    ∧ curCopy (nvmCut o (engineIdle s)) = curCopy s :=
  ⟨fun k => (slotState_rest (nvmRest_nvmCut o (engineIdle s)) k :), (curCopy_rest (nvmRest_nvmCut o (engineIdle s)) :)⟩

theorem nvmStop_aborts {s : State} (h : s.Sound) {o : NvmOp} (runs : s.nvm.op = some o) :
    (nvmStop 8 s).flag .NVM_STATUS_BUSY = false ∧ (nvmStop 8 s).flag .NVM_STATUS_ERR = true
    ∧ (nvmStop 8 s).fld .NVM_STATUS_ERR_CODE = 8 ∧ (∀ k, slotState (nvmStop 8 s) k = slotState s k)
    ∧ curCopy (nvmStop 8 s) = curCopy s := by
  have idle : (engineIdle s).Sound := sound_withNvm h (NvmSt.sound_mk h.nvm.flash)
  have cut := sound_State_countIf _ (o.op == 3) .NVM_COMMIT_FAIL_CNT 0 0 (sound_nvmCut o _ idle)
  obtain ⟨slots, copy⟩ := nvmCut_leaves o s
  have nvm : (nvmStop 8 s).nvm = (nvmCut o (engineIdle s)).nvm := by
    rw [nvmStop_running runs, setReg_nvm, countIf_nvm]
  obtain ⟨busy, err, code⟩ := stopWord (d := ((nvmCut o (engineIdle s)).countIf (o.op == 3) .NVM_COMMIT_FAIL_CNT).fld .NVM_STATUS_DONE)
    (fld_lt _ _ 0 0)
  refine ⟨?_, ?_, ?_, fun k => (slotState_congr nvm k).trans (slots k), (curCopy_congr nvm).trans copy⟩
  · rw [nvmStop_running runs, State.flag, State.fld, show Fld.NVM_STATUS_BUSY.reg = .NVM_STATUS from rfl, reg_setReg cut.regs, busy]
    rfl
  · rw [nvmStop_running runs, State.flag, State.fld, show Fld.NVM_STATUS_ERR.reg = .NVM_STATUS from rfl, reg_setReg cut.regs, err]
    rfl
  · rw [nvmStop_running runs, State.fld, show Fld.NVM_STATUS_ERR_CODE.reg = .NVM_STATUS from rfl, reg_setReg cut.regs, code]

/-! ### Starts, switches and confirmations -/

/-- An operation that starts and counts. -/
theorem nvmStart_counts {s : State} (h : s.Sound) (o : NvmOp) (c : Cnt) :
    (nvmStart o (s.count c)).nvm = { s.nvm with op := some o } ∧ (nvmStart o (s.count c)).flag .NVM_STATUS_BUSY = true
    ∧ (nvmStart o (s.count c)).cnt c = s.cnt c + 1#64
    ∧ s.Only (nvmStart o (s.count c)) [.nvm] [Reg.off .NVM_STATUS] [Cnt.off c] := by
  refine ⟨?_, nvmStart_busy (sound_State_count s c 0 0 1 h) o, ?_,
    (((Sofar.start h _ _ _).count c 0 0 1 List.mem_cons_self).nvmStart List.mem_cons_self List.mem_cons_self o).only⟩
  · rw [nvmStart_nvm, count_nvm]
  · rw [cnt_congr (nvmStart_cnts ..)]
    exact cnt_count h.cnts c 0 0 1

theorem curCopy_nvmStart (o : NvmOp) (s : State) : curCopy (nvmStart o s) = curCopy s := by
  rw [curCopy, curCopy, nvmStart_nvm]

/-- A configuration commit starts. -/
def startConfig (s : State) : State :=
  nvmStart ⟨6, (nextCopy s).2, cfgBase (nextCopy s).1, nvmHost s, nvmLen s, none⟩
    (showSlots (setCopy (nextCopy s).1 none (s.count .NVM_CFG_COMMIT_CNT)))

theorem startConfig_starts {s : State} (h : s.Sound) :
    (startConfig s).nvm.op = some ⟨6, (nextCopy s).2, cfgBase (nextCopy s).1, nvmHost s, nvmLen s, none⟩
    ∧ (startConfig s).flag .NVM_STATUS_BUSY = true ∧ curCopy (startConfig s) = curCopy s
    ∧ (startConfig s).cnt .NVM_CFG_COMMIT_CNT = s.cnt .NVM_CFG_COMMIT_CNT + 1#64 := by
  have counted := sound_State_count s .NVM_CFG_COMMIT_CNT 0 0 1 h
  have marked := sound_showSlots _ (sound_setCopy (nextCopy s).1 none _ counted)
  have next : (nextCopy s).1 = (nextCopy (s.count .NVM_CFG_COMMIT_CNT)).1 := by
    rw [nextCopy, nextCopy, curCopy_congr (count_nvm ..)]
  unfold startConfig
  refine ⟨?_, nvmStart_busy marked _, ?_, ?_⟩
  · rw [nvmStart_nvm]
  · rw [curCopy_nvmStart, curCopy_congr (showSlots_nvm _), next, curCopy_setCopy_next, curCopy_congr (count_nvm ..)]
  · rw [cnt_congr (nvmStart_cnts ..), cnt_congr (showSlots_cnts _), cnt_congr (setCopy_cnts ..)]
    exact cnt_count h.cnts _ 0 0 1

/-- The boot selection is on a slot, on trial. -/
def onTrial (k : Nat) (s : State) : State := setBoot .NVM_BOOT_SEL_TRIAL 1 (setBoot .NVM_BOOT_SEL_ACTIVE k s)

theorem onTrial_shows {s : State} (h : s.Sound) {k : Nat} (hk : k < 2) :
    (onTrial k s).fld .NVM_BOOT_SEL_ACTIVE = k ∧ (onTrial k s).flag .NVM_BOOT_SEL_TRIAL = true
    ∧ Fld.NVM_BOOT_SEL_ACTIVE.get (onTrial k s).nvm.bootFlash = k ∧ Fld.NVM_BOOT_SEL_TRIAL.get (onTrial k s).nvm.bootFlash = 1 := by
  have chosen := sound_setBoot .NVM_BOOT_SEL_ACTIVE k s h
  obtain ⟨active, activeFlash⟩ := setBoot_fld h (f := .NVM_BOOT_SEL_ACTIVE) (by decide) (by decide) k
  obtain ⟨trial, trialFlash⟩ := setBoot_fld chosen (f := .NVM_BOOT_SEL_TRIAL) (by decide) (by decide) 1
  obtain ⟨stays, staysFlash⟩ :=
    setBoot_fld_beside chosen (f := .NVM_BOOT_SEL_TRIAL) (g := .NVM_BOOT_SEL_ACTIVE) (by decide) 1
  have bit : k % 2 ^ (Fld.NVM_BOOT_SEL_ACTIVE.hi + 1 - Fld.NVM_BOOT_SEL_ACTIVE.lo) = k := Nat.mod_eq_of_lt hk
  exact ⟨stays.trans (active.trans bit), by rw [State.flag, onTrial, trial]; rfl, staysFlash.trans (activeFlash.trans bit), trialFlash⟩

/-- The trial has not booted. -/
def trialNew (s : State) : State := withNvm { s.nvm with trialBoots := 0, trialAt := none } s

theorem sound_trialNew {s : State} (h : s.Sound) : (trialNew s).Sound := sound_withNvm h (NvmSt.sound_mk h.nvm.flash)

theorem nvmDone_fld {s : State} (h : s.Sound) {g : Fld} (apart : regApart g.reg .NVM_STATUS = true) (i j : Nat) :
    (nvmDone s).fld g i j = s.fld g i j := by
  have idle := sorted_setFld h.regs .NVM_STATUS_BUSY 0 0 0
  have still := sorted_setFld idle .NVM_STATUS_PROGRESS 0 0 0
  unfold nvmDone
  rw [fld_setFld_apart (f := .NVM_STATUS_DONE) still apart, fld_setFld_apart (f := .NVM_STATUS_PROGRESS) idle apart,
    fld_setFld_apart (f := .NVM_STATUS_BUSY) h.regs apart]

theorem Sofar.withNvm {s u : State} {aa : List Area} {oo cc : List Nat} (h : Sofar s u aa oo cc) (hn : Area.nvm ∈ aa) (x : NvmSt) :
    Sofar s (withNvm x u) aa oo cc := h.setNvm hn x

theorem Sofar.onTrial {s u : State} {aa : List Area} {oo cc : List Nat} (h : Sofar s u aa oo cc) (hn : Area.nvm ∈ aa)
    (hr : Reg.off .NVM_BOOT_SEL ∈ oo) (k : Nat) : Sofar s (onTrial k u) aa oo cc :=
  (h.setBoot hn (f := .NVM_BOOT_SEL_ACTIVE) hr k).setBoot hn (f := .NVM_BOOT_SEL_TRIAL) hr 1

/-- A switch puts its slot on trial. -/
theorem trial_shows {s : State} (h : s.Sound) {k : Nat} (hk : k < 2) :
    (nvmDone (trialNew (onTrial k s))).fld .NVM_BOOT_SEL_ACTIVE = k
    ∧ (nvmDone (trialNew (onTrial k s))).flag .NVM_BOOT_SEL_TRIAL = true
    ∧ Fld.NVM_BOOT_SEL_ACTIVE.get (nvmDone (trialNew (onTrial k s))).nvm.bootFlash = k
    ∧ Fld.NVM_BOOT_SEL_TRIAL.get (nvmDone (trialNew (onTrial k s))).nvm.bootFlash = 1
    ∧ (nvmDone (trialNew (onTrial k s))).nvm.trialBoots = 0
    ∧ (nvmDone (trialNew (onTrial k s))).flag .NVM_STATUS_DONE = true
    ∧ s.Only (nvmDone (trialNew (onTrial k s))) [.nvm] [Reg.off .NVM_BOOT_SEL, Reg.off .NVM_STATUS] [] := by
  have fresh := sound_trialNew (sound_setBoot .NVM_BOOT_SEL_TRIAL 1 _ (sound_setBoot .NVM_BOOT_SEL_ACTIVE k s h))
  obtain ⟨active, trial, activeFlash, trialFlash⟩ := onTrial_shows h hk
  have regs : (trialNew (onTrial k s)).regs = (onTrial k s).regs := withNvm_regs ..
  have nvm : (trialNew (onTrial k s)).nvm = { (onTrial k s).nvm with trialBoots := 0, trialAt := none } := withNvm_nvm ..
  rw [nvmDone_nvm, nvm]
  refine ⟨?_, ?_, activeFlash, trialFlash, rfl, (nvmDone_shows fresh).2, ?_⟩
  · exact (nvmDone_fld fresh (by decide) 0 0).trans ((fld_congr regs ..).trans active)
  · refine (congrArg (· != 0) (nvmDone_fld fresh (g := .NVM_BOOT_SEL_TRIAL) (by decide) 0 0)).trans ?_
    exact (flag_congr regs .NVM_BOOT_SEL_TRIAL 0 0).trans trial
  · exact ((((Sofar.start h [.nvm] [Reg.off .NVM_BOOT_SEL, Reg.off .NVM_STATUS] []).onTrial (by decide) List.mem_cons_self k).withNvm
      (by decide) _).nvmDone (List.mem_cons_of_mem _ List.mem_cons_self)).only

section
variable {s : State} (up : s.pwr.keeperUp = true) (day : s.flag .KEEP_STATUS_DUSK = false)
include up day

theorem nvmRead_idle (idle : s.nvm.op = none) : nvmRead s = if nvmRange 0 s then
    nvmStart ⟨1, 0, nvmFlash s, nvmHost s, nvmLen s, none⟩ (s.count .NVM_READ_CNT) else nvmErr 3 s := by
  unfold nvmRead
  exact nvmIdle_does up day idle _

theorem nvmWrite_idle (idle : s.nvm.op = none) : nvmWrite s = if nvmRange (18 * gib) s then
    nvmStart ⟨2, 0, nvmFlash s, nvmHost s, nvmLen s, none⟩ (s.count .NVM_WRITE_CNT) else nvmErr 3 s := by
  unfold nvmWrite
  exact nvmIdle_does up day idle _

theorem cfgCommit_idle (idle : s.nvm.op = none) : cfgCommit s =
    if nvmLen s ≤ cfgMax ∧ inDram (nvmHost s) (nvmLen s) = true then startConfig s else nvmErr 3 s := by
  unfold cfgCommit
  exact nvmIdle_does up day idle _

theorem imageCommit_idle (idle : s.nvm.op = none) (k : Nat) : imageCommit k s = if slotHeld s k then nvmErr 4 s
    else if !imageLen (nvmLen s) || !inDram (nvmHost s) (nvmLen s) then nvmErr 3 s
    else startCommit k (nvmHost s) (nvmLen s) none s := by
  unfold imageCommit
  exact nvmIdle_does up day idle _

theorem nvmSwitch_idle (idle : s.nvm.op = none) (k : Nat) : nvmSwitch k s =
    if slotState s k = 2 then nvmDone (trialNew (onTrial k s)) else nvmErr 4 s := by
  unfold nvmSwitch
  exact nvmIdle_does up day idle _

theorem nvmConfirm_taken : nvmConfirm s = (setBoot .NVM_BOOT_SEL_TRIAL 0 s).setFld .NVM_STATUS_DONE 1 := by
  unfold nvmConfirm
  exact nvmTake_does up day _

theorem nvmRun_taken (arg : Nat) : nvmRun arg s = if s.fld .SYS_RUN_STATE_STATE = 0 ∧ (arg = 1 ∨ arg = 2) then
    (s.setFld .SYS_RUN_STATE_STATE arg).setFld .NVM_STATUS_DONE 1 else nvmErr 9 s := by
  unfold nvmRun
  exact nvmTake_does up day _

end

/-- Settles O58: the engine takes a command as `exec_nvmTake` and `exec_nvmIdle` say, and each starts, ends or fails by the lemmas
about its status. -/
theorem nvmCommands : Obligations.NvmCommands := by
  unfold Obligations.NvmCommands
  refine ⟨fun s c a k x h hc => ⟨fun down => ?_, fun up dusk => ?_, fun up day busy nc nr na => ?_⟩,
    fun s a h up day idle => ⟨fun range => ?_, fun range => ?_, fun range => ?_, fun range => ?_, fun len dram => ?_, fun bad => ?_⟩,
    fun s a k h up day idle => ⟨fun held => ?_, fun free bad => ?_, fun free some page dram => ?_, fun valid => ?_, fun other => ?_⟩,
    fun s a x h up day => ⟨?_, fun dawn arg => ?_, fun bad => ?_, fun idle => ?_, fun o runs => ?_⟩⟩
  case refine_1 =>
    obtain ⟨f, run⟩ := exec_nvmTake hc
    exact (run s).trans (congrArg _ (nvmTake_unpowered down f))
  case refine_2 =>
    obtain ⟨f, run⟩ := exec_nvmTake hc
    exact ⟨_, (run s).trans (congrArg _ (nvmTake_dusk up dusk f)), nvmErr_refuses h (by decide)⟩
  case refine_3 =>
    have idle : c = .nvmRead a ∨ c = .nvmWrite a ∨ c = .imageCommit a k ∨ c = .switch a k ∨ c = .cfgCommit a := by
      rcases hc with e | e | e | e | e | e | e | e
      · exact .inl e
      · exact .inr (.inl e)
      · exact .inr (.inr (.inl e))
      · exact .inr (.inr (.inr (.inl e)))
      · exact .inr (.inr (.inr (.inr e)))
      · exact absurd e nc
      · exact absurd e nr
      · exact absurd e na
    obtain ⟨f, run⟩ := exec_nvmIdle idle
    exact ⟨_, (run s).trans (congrArg _ (nvmIdle_busy up day busy f)), nvmErr_refuses h (by decide)⟩
  case refine_4 =>
    exact ⟨_, congrArg Host.Outcome.next ((nvmRead_idle up day idle).trans (if_pos range)), nvmStart_counts h _ _⟩
  case refine_5 =>
    exact ⟨_, congrArg Host.Outcome.next ((nvmRead_idle up day idle).trans (if_neg (by rw [range]; exact Bool.false_ne_true))),
      nvmErr_refuses h (by decide)⟩
  case refine_6 =>
    exact ⟨_, congrArg Host.Outcome.next ((nvmWrite_idle up day idle).trans (if_pos range)), nvmStart_counts h _ _⟩
  case refine_7 =>
    exact ⟨_, congrArg Host.Outcome.next ((nvmWrite_idle up day idle).trans (if_neg (by rw [range]; exact Bool.false_ne_true))),
      nvmErr_refuses h (by decide)⟩
  case refine_8 =>
    have run : exec (.cfgCommit a) s = .next (startConfig s) :=
      congrArg Host.Outcome.next ((cfgCommit_idle up day idle).trans (if_pos ⟨len, dram⟩))
    exact ⟨_, run, startConfig_starts h⟩
  case refine_9 =>
    have out : ¬ (nvmLen s ≤ cfgMax ∧ inDram (nvmHost s) (nvmLen s) = true) := by
      rintro ⟨len, dram⟩
      rcases bad with long | outside
      · exact absurd len (Nat.not_le.mpr long)
      · exact absurd (outside.symm.trans dram) Bool.false_ne_true
    exact ⟨_, congrArg Host.Outcome.next ((cfgCommit_idle up day idle).trans (if_neg out)), nvmErr_refuses h (by decide)⟩
  case refine_10 =>
    exact ⟨_, congrArg Host.Outcome.next ((imageCommit_idle up day idle k).trans (if_pos held)), nvmErr_refuses h (by decide)⟩
  case refine_11 =>
    have out : (!imageLen (nvmLen s) || !inDram (nvmHost s) (nvmLen s)) = true := by
      unfold imageLen
      rcases bad with e | e | e
      · rw [e]; rfl
      · rw [decide_eq_false e, Bool.and_false]; rfl
      · rw [e, Bool.not_false, Bool.or_true]
    exact ⟨_, congrArg Host.Outcome.next ((imageCommit_idle up day idle k).trans ((if_neg (by rw [free]; exact Bool.false_ne_true)).trans
      (if_pos out))), nvmErr_refuses h (by decide)⟩
  case refine_12 =>
    have small : nvmLen s ≤ 4 * gib := (BitVec.isLt (s.reg .NVM_LEN)).le
    have good : imageLen (nvmLen s) = true := by
      unfold imageLen
      rw [decide_eq_true (Nat.pos_of_ne_zero some), decide_eq_true small, decide_eq_true page]
      rfl
    have run : exec (.imageCommit a k) s = .next (startCommit k (nvmHost s) (nvmLen s) none s) :=
      congrArg Host.Outcome.next ((imageCommit_idle up day idle k).trans ((if_neg (by rw [free]; exact Bool.false_ne_true)).trans
        (if_neg (by rw [good, dram]; exact Bool.false_ne_true))))
    obtain ⟨op, slot, others, busy, cnt⟩ := startCommit_starts h k (nvmHost s) (nvmLen s) none
    have bound := k.isLt
    exact ⟨_, run, slot, others bound (1 - k) (by omega) (by omega), op, busy, cnt⟩
  case refine_13 =>
    exact ⟨_, congrArg Host.Outcome.next ((nvmSwitch_idle up day idle k).trans (if_pos valid)), trial_shows h k.isLt⟩
  case refine_14 =>
    exact ⟨_, congrArg Host.Outcome.next ((nvmSwitch_idle up day idle k).trans (if_neg other)), nvmErr_refuses h (by decide)⟩
  case refine_15 =>
    have cleared := sound_setBoot .NVM_BOOT_SEL_TRIAL 0 s h
    obtain ⟨trial, trialFlash⟩ := setBoot_fld h (f := .NVM_BOOT_SEL_TRIAL) (by decide) (by decide) 0
    refine ⟨_, congrArg Host.Outcome.next (nvmConfirm_taken up day), ?_, ?_, ?_, flag_setFld cleared.regs (by decide) (by decide) 1 0 0, ?_⟩
    · rw [flag_setFld_apart (f := .NVM_STATUS_DONE) (g := .NVM_BOOT_SEL_TRIAL) cleared.regs (by decide), State.flag, trial]
      rfl
    · rw [setFld_nvm, trialFlash]
      rfl
    · rw [setFld_nvm, setBoot_nvm]
    · exact (((Sofar.start h [.nvm] [Reg.off .NVM_BOOT_SEL, Reg.off .NVM_STATUS] []).setBoot (by decide)
        (f := .NVM_BOOT_SEL_TRIAL) List.mem_cons_self 0).setFld .NVM_STATUS_DONE 1 0 0 (List.mem_cons_of_mem _ List.mem_cons_self)).only
  case refine_16 =>
    have value : x.toNat = 1 ∨ x.toNat = 2 := arg.imp (fun e => by rw [e]; rfl) (fun e => by rw [e]; rfl)
    have set := sorted_setFld h.regs .SYS_RUN_STATE_STATE x.toNat 0 0
    refine ⟨_, congrArg Host.Outcome.next ((nvmRun_taken up day _).trans (if_pos ⟨dawn, value⟩)), ?_,
      flag_setFld set (by decide) (by decide) 1 0 0, ?_⟩
    · rw [fld_setFld_apart (f := .NVM_STATUS_DONE) (g := .SYS_RUN_STATE_STATE) set (by decide),
        fld_setFld h.regs (by decide) (by decide)]
      rcases value with e | e
      all_goals rw [e]; rfl
    · exact (((Sofar.start h [] [Reg.off .SYS_RUN_STATE, Reg.off .NVM_STATUS] []).setFld .SYS_RUN_STATE_STATE _ 0 0
        List.mem_cons_self).setFld .NVM_STATUS_DONE 1 0 0 (List.mem_cons_of_mem _ List.mem_cons_self)).only
  case refine_17 =>
    have out : ¬ (s.fld .SYS_RUN_STATE_STATE = 0 ∧ (x.toNat = 1 ∨ x.toNat = 2)) := by
      rintro ⟨dawn, arg⟩
      rcases bad with e | ⟨one, two⟩
      · exact e dawn
      · rcases arg with e | e
        · exact one (BitVec.eq_of_toNat_eq e)
        · exact two (BitVec.eq_of_toNat_eq e)
    exact ⟨_, congrArg Host.Outcome.next ((nvmRun_taken up day _).trans (if_neg out)), nvmErr_refuses h (by decide)⟩
  case refine_18 =>
    exact congrArg Host.Outcome.next ((nvmTake_does up day _).trans (nvmStop_idle 8 idle))
  case refine_19 =>
    obtain ⟨busy, err, code, slots, copy⟩ := nvmStop_aborts h runs
    exact ⟨_, congrArg Host.Outcome.next (nvmTake_does up day _), nvmStop_op 8 s, busy, err, code, slots 0, slots 1, copy⟩

end Sys2Proof.Machine
end

section
/-!
SUPPORT. The end of an NVM operation: what it has moved, and what the engine shows (R413 to R415).
-/
namespace Sys2Proof.Machine

/-! ### What an operation moves -/

theorem flashByte_congr {s t : State} (hlt : t.hlt = s.hlt) (free : t.free = s.free) (nvm : t.nvm.flash = s.nvm.flash) (a : Nat) :
    flashByte t a = flashByte s a := by
  unfold flashByte
  rw [hlt, free, nvm]

theorem length_mapRange {α : Type} (f : Nat → α) (n : Nat) : ((List.range n).map f).length = n := by
  rw [List.length_map, List.length_range]

/-- A read puts bytes of flash into host memory, and nowhere else. -/
theorem nvmCopy_read {s : State} (h : s.Sound) {o : NvmOp} (read : o.op = 1) (clean : poisoned s o.host o.len = []) :
    (∀ i < o.len, SMap.getD (nvmCopy o o.len s).host.mem (o.host + i) 0#8 = flashByte s (o.flash + i))
    ∧ ∀ b, (b < o.host ∨ o.host + o.len ≤ b) → SMap.getD (nvmCopy o o.len s).host.mem b 0#8 = SMap.getD s.host.mem b 0#8 := by
  have length := length_mapRange (fun i => flashByte s (o.flash + i)) o.len
  obtain ⟨p, -, write⟩ := memWrite_clean (s := s.fresh) (x := o.host) (l := (List.range o.len).map fun i => flashByte s (o.flash + i))
    (by rw [length]; exact clean)
  have copy : nvmCopy o o.len s = (memWrite o.host ((List.range o.len).map fun i => flashByte s (o.flash + i)) s.fresh).2 := if_pos read
  have mem : (nvmCopy o o.len s).host.mem = memPut s.host.mem o.host ((List.range o.len).map fun i => flashByte s (o.flash + i)) := by
    rw [copy, write]
    rfl
  rw [mem]
  have sorted := SMap.wf_sorted h.host.mem
  refine ⟨fun i hi => ?_, fun b hb => getD_memPut_out sorted (by rw [length]; exact hb)⟩
  rw [getD_memPut_in sorted _ (by rw [length]; exact hi), List.getElem_map, List.getElem_range]

/-- A write puts bytes of host memory into flash, and nowhere else. -/
theorem nvmCopy_write {s : State} (h : s.Sound) {o : NvmOp} (write : o.op = 2) (image : o.image = none)
    (clean : poisoned s o.host o.len = []) : (nvmCopy o o.len s).host = s.host
    ∧ (∀ i < o.len, SMap.getD (nvmCopy o o.len s).nvm.flash (o.flash + i) 0#8 = SMap.getD s.host.mem (o.host + i) 0#8)
    ∧ ∀ b, (b < o.flash ∨ o.flash + o.len ≤ b) →
      SMap.getD (nvmCopy o o.len s).nvm.flash b 0#8 = SMap.getD s.nvm.flash b 0#8 := by
  have source : nvmSource o.host o.len s = ((List.range o.len).map fun i => SMap.getD s.host.mem (o.host + i) 0#8, s.fresh) := by
    unfold nvmSource
    rw [clean]
    rfl
  have copy : nvmCopy o o.len s = flashPut o.flash ((List.range o.len).map fun i => SMap.getD s.host.mem (o.host + i) 0#8) s.fresh := by
    unfold nvmCopy
    rw [if_neg (by rw [write]; decide), if_neg (by rw [write]; decide), if_neg (by rw [write]; decide), image]
    dsimp only
    rw [source]
  have length := length_mapRange (fun i => SMap.getD s.host.mem (o.host + i) 0#8) o.len
  have sorted := SMap.wf_sorted h.nvm.flash
  rw [copy]
  refine ⟨rfl, fun i hi => ?_, fun b hb => getD_memPut_out sorted (by rw [length]; exact hb)⟩
  refine (getD_memPut_in sorted _ (by rw [length]; exact hi)).trans ?_
  rw [List.getElem_map, List.getElem_range]

/-- A commit puts its image into flash. -/
theorem nvmCopy_image {s : State} (h : s.Sound) {o : NvmOp} {l : List Byte} (commit : o.op = 3) (image : o.image = some l) {i : Nat}
    (hi : i < l.length) : SMap.getD (nvmCopy o l.length s).nvm.flash (o.flash + i) 0#8 = l.getD i 0#8 := by
  have copy : nvmCopy o l.length s = flashPut o.flash (l.take l.length) (flashErase o.flash (4 * gib) s) := by
    unfold nvmCopy
    rw [if_neg (by rw [commit]; decide), if_pos commit, image]
  have sorted : (flashErase o.flash (4 * gib) s).nvm.flash.sorted = true := SMap.wf_sorted (sound_flashErase o.flash (4 * gib) s h).nvm.flash
  rw [copy, List.take_length]
  refine (getD_memPut_in sorted _ hi).trans ?_
  rw [List.getD_eq_getElem _ _ hi]

/-! ### The end of an operation -/

/-- What an operation of the engine comes to. -/
def opEnds (e : NvmEnd) (o : NvmOp) (s : State) : State :=
  if e = .flashError then nvmFail 6 (((nvmCut o s).count .NVM_FLASH_ERR_CNT).countIf (o.op == 3) .NVM_COMMIT_FAIL_CNT)
  else if o.op = 3 then endCommit o.arg (e == .good) (nvmCopy o o.len s)
  else if o.op = 6 then nvmDone (showSlots (setCopy ((o.flash - 8 * gib) / cfgSize) (some ⟨o.arg⟩) (nvmCopy o o.len s)))
  else nvmDone (nvmCopy o o.len s)

theorem exec_nvmOpComplete {s : State} {o : NvmOp} (runs : s.nvm.op = some o) (e : NvmEnd) :
    exec (.nvmOpComplete e) s = .next (opEnds e o (engineIdle s)) := by
  refine congrArg Host.Outcome.next ?_
  unfold nvmOpComplete
  rw [runs]
  rfl

theorem nvmRest_slots {s t : State} (e : nvmRest t = nvmRest s) : t.nvm.op = s.nvm.op ∧ (∀ k, slotState t k = slotState s k)
    ∧ curCopy t = curCopy s :=
  ⟨(congrArg NvmSt.op e :), slotState_rest e, curCopy_rest e⟩

theorem sound_engineIdle {s : State} (h : s.Sound) : (engineIdle s).Sound := sound_withNvm h (NvmSt.sound_mk h.nvm.flash)

/-- A flash error cuts the operation. -/
theorem opEnds_flashError {s : State} (h : s.Sound) (o : NvmOp) : (opEnds .flashError o s).nvm.op = s.nvm.op
    ∧ (opEnds .flashError o s).flag .NVM_STATUS_BUSY = false ∧ (opEnds .flashError o s).fld .NVM_STATUS_ERR_CODE = 6
    ∧ (opEnds .flashError o s).flag .NVM_STATUS_ERR = true
    ∧ (opEnds .flashError o s).cnt .NVM_FLASH_ERR_CNT = s.cnt .NVM_FLASH_ERR_CNT + 1#64
    ∧ (∀ k, slotState (opEnds .flashError o s) k = slotState s k) ∧ curCopy (opEnds .flashError o s) = curCopy s := by
  have cut := sound_nvmCut o s h
  have counted := sound_State_count _ .NVM_FLASH_ERR_CNT 0 0 1 cut
  have k := kept_nvmCut (le_same _) o s (.refl _ s)
  obtain ⟨op, slots, copy⟩ := nvmRest_slots (nvmRest_nvmCut o s)
  have ends : opEnds .flashError o s
      = nvmFail 6 (((nvmCut o s).count .NVM_FLASH_ERR_CNT).countIf (o.op == 3) .NVM_COMMIT_FAIL_CNT) := if_pos rfl
  have nvm : (opEnds .flashError o s).nvm = (nvmCut o s).nvm := by rw [ends, nvmFail_nvm, countIf_nvm, count_nvm]
  obtain ⟨busy, err, code⟩ := nvmFail_shows (sound_State_countIf _ (o.op == 3) .NVM_COMMIT_FAIL_CNT 0 0 counted) (code := 6) (by decide)
  refine ⟨by rw [nvm, op], by rw [ends, busy], by rw [ends, code], by rw [ends, err], ?_,
    fun j => (slotState_congr nvm j).trans (slots j), (curCopy_congr nvm).trans copy⟩
  have other : (((nvmCut o s).count .NVM_FLASH_ERR_CNT).countIf (o.op == 3) .NVM_COMMIT_FAIL_CNT).cnt .NVM_FLASH_ERR_CNT
      = ((nvmCut o s).count .NVM_FLASH_ERR_CNT).cnt .NVM_FLASH_ERR_CNT := by
    unfold State.countIf
    split
    · exact cnt_count_apart counted.cnts (by decide) 0 0 1 0 0
    · rfl
  rw [ends, cnt_congr (nvmFail_cnts ..), other, cnt_count cut.cnts, k.cnt h cut (by decide +kernel)]

/-- A read or a write ends with what it has moved. -/
theorem opEnds_moved {e : NvmEnd} (whole : e ≠ .flashError) {o : NvmOp} (image : o.op ≠ 3) (config : o.op ≠ 6) (s : State) :
    opEnds e o s = nvmDone (nvmCopy o o.len s) := (if_neg whole).trans ((if_neg image).trans (if_neg config))

theorem nvmDone_moved {s : State} (h : s.Sound) (o : NvmOp) (n : Nat) : (nvmDone (nvmCopy o n s)).nvm.op = s.nvm.op
    ∧ (nvmDone (nvmCopy o n s)).flag .NVM_STATUS_BUSY = false ∧ (nvmDone (nvmCopy o n s)).flag .NVM_STATUS_DONE = true := by
  obtain ⟨op, -, -⟩ := nvmRest_slots (nvmRest_nvmCopy o n s)
  exact ⟨by rw [nvmDone_nvm, op], nvmDone_shows (sound_nvmCopy o n s h)⟩

/-- The slot of an image that was checked is VALID. -/
theorem endCommit_good {s : State} (h : s.Sound) (k : Nat) : (endCommit k true s).nvm.op = s.nvm.op
    ∧ slotState (endCommit k true s) k = 2 ∧ (k < 2 → ∀ j < 2, j ≠ k → slotState (endCommit k true s) j = slotState s j)
    ∧ (endCommit k true s).flag .NVM_STATUS_DONE = true ∧ (endCommit k true s).nvm.flash = s.nvm.flash
    ∧ (endCommit k true s).cnts = s.cnts := by
  have ends : endCommit k true s = nvmDone (showSlots (setSlot k 2 s)) := if_pos rfl
  have nvm : (endCommit k true s).nvm = (setSlot k 2 s).nvm := by rw [ends, nvmDone_nvm, showSlots_nvm]
  have shown := sound_showSlots _ (sound_setSlot k 2 s h)
  refine ⟨by rw [nvm, setSlot_op], (slotState_congr nvm k).trans (slotState_setSlot ..),
    fun hk j hj ne => (slotState_congr nvm j).trans (slotState_setSlot_ne hj hk ne 2 s), by rw [ends, (nvmDone_shows shown).2],
    by rw [nvm, setSlot_flash], by rw [ends, nvmDone_cnts, showSlots_cnts, setSlot_cnts]⟩

/-- The slot of an image that fails its check is BAD. -/
theorem endCommit_bad {s : State} (h : s.Sound) (k : Nat) : (endCommit k false s).nvm.op = s.nvm.op
    ∧ slotState (endCommit k false s) k = 3 ∧ (endCommit k false s).fld .NVM_STATUS_ERR_CODE = 5
    ∧ (endCommit k false s).flag .NVM_STATUS_ERR = true ∧ (endCommit k false s).nvm.flash = s.nvm.flash
    ∧ (endCommit k false s).cnts = (s.count .NVM_COMMIT_FAIL_CNT).cnts := by
  have ends : endCommit k false s = nvmFail 5 ((showSlots (setSlot k 3 s)).count .NVM_COMMIT_FAIL_CNT) := if_neg Bool.false_ne_true
  have nvm : (endCommit k false s).nvm = (setSlot k 3 s).nvm := by rw [ends, nvmFail_nvm, count_nvm, showSlots_nvm]
  have counted := sound_State_count _ .NVM_COMMIT_FAIL_CNT 0 0 1 (sound_showSlots _ (sound_setSlot k 3 s h))
  obtain ⟨-, err, code⟩ := nvmFail_shows counted (code := 5) (by decide)
  refine ⟨by rw [nvm, setSlot_op], (slotState_congr nvm k).trans (slotState_setSlot ..), by rw [ends, code], by rw [ends, err],
    by rw [nvm, setSlot_flash], ?_⟩
  rw [ends, nvmFail_cnts, State.count, State.count, showSlots_cnts, setSlot_cnts]

/-- A configuration copy is current once its commit has ended. -/
theorem opEnds_config {s : State} (h : s.Sound) {e : NvmEnd} (whole : e ≠ .flashError) {o : NvmOp} (config : o.op = 6) {k : Nat}
    (hk : k < 2) (base : o.flash = cfgBase k) (newer : ∀ x, curCopy s = some x → x.2 < o.arg) :
    (opEnds e o s).nvm.op = s.nvm.op ∧ curCopy (opEnds e o s) = some (k, o.arg) ∧ (opEnds e o s).flag .NVM_STATUS_DONE = true := by
  have which : (o.flash - 8 * gib) / cfgSize = k := by
    rw [base, cfgBase, Nat.add_sub_cancel_left]
    exact Nat.mul_div_cancel_left k (by decide)
  have ends : opEnds e o s = nvmDone (showSlots (setCopy k (some ⟨o.arg⟩) (nvmCopy o o.len s))) :=
    (if_neg whole).trans ((if_neg (by rw [config]; decide)).trans ((if_pos config).trans (by rw [which])))
  obtain ⟨op, -, copy⟩ := nvmRest_slots (nvmRest_nvmCopy o o.len s)
  have shown := sound_showSlots _ (sound_setCopy k (some ⟨o.arg⟩) _ (sound_nvmCopy o o.len s h))
  have nvm : (opEnds e o s).nvm = (setCopy k (some ⟨o.arg⟩) (nvmCopy o o.len s)).nvm := by rw [ends, nvmDone_nvm, showSlots_nvm]
  refine ⟨by rw [nvm, setCopy_op, op], ?_, by rw [ends, (nvmDone_shows shown).2]⟩
  exact (curCopy_congr nvm).trans (curCopy_setCopy_newer hk fun x hx => newer x (copy.symm.trans hx))

end Sys2Proof.Machine
end

section
/-!
SUPPORT. The boot of a slot, its reverts and its recovery, and the keeper firmware (R385, R407, R409 to R412).
-/
namespace Sys2Proof.Machine

/-! ### A slot is checked and booted -/

/-- The application domain runs the image of a slot. -/
def slotRuns (k : Nat) (s : State) : State :=
  { s with
    nvm := { s.nvm with
      booted := k, recovery := false
      trialBoots := if s.flag .NVM_BOOT_SEL_TRIAL then s.nvm.trialBoots + 1 else s.nvm.trialBoots
      trialAt := if s.flag .NVM_BOOT_SEL_TRIAL then some s.now else none }
    pwr := { s.pwr with appHeld := false } }

theorem bootSlot_eq (k : Nat) (s : State) : bootSlot k s = showSlots (slotRuns k s) := rfl

theorem slotRuns_leaves (k : Nat) (s : State) : (slotRuns k s).regs = s.regs ∧ (slotRuns k s).cnts = s.cnts
    ∧ (slotRuns k s).pwr.appHeld = false ∧ (slotRuns k s).nvm.booted = k ∧ (slotRuns k s).nvm.recovery = false
    ∧ (∀ j, slotState (slotRuns k s) j = slotState s j)
    ∧ (slotRuns k s).nvm.trialBoots = (if s.flag .NVM_BOOT_SEL_TRIAL then s.nvm.trialBoots + 1 else s.nvm.trialBoots)
    ∧ (slotRuns k s).nvm.trialAt = (if s.flag .NVM_BOOT_SEL_TRIAL then some s.now else none) :=
  ⟨rfl, rfl, rfl, rfl, rfl, fun _ => rfl, rfl, rfl⟩

/-- What a boot shows. -/
structure SlotBooted (k : Nat) (s t : State) : Prop where
  booted : t.nvm.booted = k
  released : t.pwr.appHeld = false
  running : t.nvm.recovery = false
  slots : ∀ j, slotState t j = slotState s j
  cnts : t.cnts = s.cnts
  fields : ∀ f : Fld, regApart f.reg .NVM_SLOT_STATUS = true → t.fld f = s.fld f
  trial : s.flag .NVM_BOOT_SEL_TRIAL = true → t.nvm.trialBoots = s.nvm.trialBoots + 1 ∧ t.nvm.trialAt = some s.now

theorem bootSlot_boots {s : State} (h : s.Sound) (k : Nat) : SlotBooted k s (bootSlot k s) := by
  obtain ⟨regs, cnts, held, booted, recovery, slots, boots, at'⟩ := slotRuns_leaves k s
  have sorted : (slotRuns k s).regs.sorted = true := by rw [regs]; exact h.regs
  rw [bootSlot_eq]
  refine ⟨by rw [showSlots_nvm, booted], by rw [showSlots_pwr, held], by rw [showSlots_nvm, recovery],
    fun j => (slotState_congr (showSlots_nvm _) j).trans (slots j), by rw [showSlots_cnts, cnts], fun f apart => ?_, fun trial => ?_⟩
  · exact (fld_setReg_apart sorted apart _ 0 0 0 0).trans (fld_congr regs f 0 0)
  · rw [showSlots_nvm, boots, at', trial]
    exact ⟨rfl, rfl⟩

/-- A slot that fails its check is BAD. -/
def slotFails (k : Nat) (s : State) : State := showSlots (setSlot k 3 (s.count .NVM_BOOT_FAIL_CNT))

theorem sound_slotFails {s : State} (h : s.Sound) (k : Nat) : (slotFails k s).Sound :=
  sound_showSlots _ (sound_setSlot k 3 _ (sound_State_count s _ 0 0 1 h))

theorem slotFails_shows {s : State} (h : s.Sound) (k : Nat) : slotState (slotFails k s) k = 3
    ∧ (k < 2 → ∀ j < 2, j ≠ k → slotState (slotFails k s) j = slotState s j)
    ∧ (slotFails k s).cnt .NVM_BOOT_FAIL_CNT = s.cnt .NVM_BOOT_FAIL_CNT + 1#64 := by
  have nvm : (slotFails k s).nvm = (setSlot k 3 (s.count .NVM_BOOT_FAIL_CNT)).nvm := showSlots_nvm _
  refine ⟨(slotState_congr nvm k).trans (slotState_setSlot ..), fun hk j hj ne => ?_, ?_⟩
  · rw [slotState_congr nvm, slotState_setSlot_ne hj hk ne, slotState_congr (count_nvm ..)]
  · rw [slotFails, cnt_congr (showSlots_cnts _), cnt_congr (setSlot_cnts ..)]
    exact cnt_count h.cnts _ 0 0 1

theorem checkSlot_passes {k : Nat} {good : Bool} {s : State} (valid : slotState s k = 2) (passes : good = true) :
    checkSlot k good s = (true, s) := if_pos ⟨valid, passes⟩

theorem checkSlot_fails {k : Nat} {good : Bool} {s : State} (fails : slotState s k ≠ 2 ∨ good = false) :
    checkSlot k good s = (false, slotFails k s) :=
  if_neg fun both => fails.elim (fun e => e both.1) fun e => Bool.false_ne_true (e.symm.trans both.2)

/-! ### Recovery -/

/-- The recovery loader runs. -/
def loaderRuns (s : State) : State :=
  { s with nvm := { s.nvm with recovery := true, trialAt := none }, pwr := { s.pwr with appHeld := false } }

theorem loaderRuns_leaves (s : State) : (loaderRuns s).regs = s.regs ∧ (loaderRuns s).nvm.recovery = true
    ∧ (loaderRuns s).pwr.appHeld = false ∧ (loaderRuns s).nvm.booted = s.nvm.booted
    ∧ ∀ j, slotState (loaderRuns s) j = slotState s j := ⟨rfl, rfl, rfl, rfl, fun _ => rfl⟩

theorem enterRecovery_eq (s : State) : enterRecovery s = loaderRuns (s.setFld .SYS_RUN_STATE_STATE 3) := rfl

theorem enterRecovery_recovers {s : State} (h : s.Sound) : (enterRecovery s).nvm.recovery = true
    ∧ (enterRecovery s).pwr.appHeld = false ∧ (enterRecovery s).fld .SYS_RUN_STATE_STATE = 3
    ∧ (enterRecovery s).nvm.booted = s.nvm.booted ∧ ∀ j, slotState (enterRecovery s) j = slotState s j := by
  obtain ⟨regs, recovery, held, booted, slots⟩ := loaderRuns_leaves (s.setFld .SYS_RUN_STATE_STATE 3)
  rw [enterRecovery_eq]
  exact ⟨recovery, held, (fld_congr regs ..).trans (fld_setFld h.regs (by decide) (by decide) 3 0 0),
    by rw [booted, setFld_nvm], fun j => (slots j).trans (slotState_congr (setFld_nvm ..) j)⟩

/-! ### Steps 3 to 5 of R410 -/

/-- The other slot is chosen, and runs. -/
def bootOther (b : Nat) (s : State) : State := bootSlot b (setBoot .NVM_BOOT_SEL_TRIAL 0 (setBoot .NVM_BOOT_SEL_ACTIVE b s))

theorem bootActive_boots {good : Nat → Bool} {s : State} {a : Nat} (active : s.fld .NVM_BOOT_SEL_ACTIVE = a) (valid : slotState s a = 2)
    (passes : good a = true) : bootActive good s = bootSlot a s := by
  unfold bootActive
  rw [active]
  dsimp only
  rw [checkSlot_passes valid passes]
  rfl

theorem bootActive_falls {good : Nat → Bool} {s : State} {a : Nat} (active : s.fld .NVM_BOOT_SEL_ACTIVE = a)
    (fails : slotState s a ≠ 2 ∨ good a = false) (valid : slotState (slotFails a s) (1 - a) = 2) (passes : good (1 - a) = true) :
    bootActive good s = bootOther (1 - a) (slotFails a s) := by
  unfold bootActive
  rw [active]
  dsimp only
  rw [checkSlot_fails fails]
  dsimp only
  rw [if_neg Bool.false_ne_true, if_pos valid, checkSlot_passes valid passes]
  rfl

theorem bootActive_recovers {good : Nat → Bool} {s : State} (h : s.Sound) {a : Nat} (ha : a < 2)
    (active : s.fld .NVM_BOOT_SEL_ACTIVE = a) (fails : slotState s a ≠ 2 ∨ good a = false)
    (both : slotState (slotFails a s) (1 - a) ≠ 2 ∨ good (1 - a) = false) :
    ∃ u : State, u.Sound ∧ bootActive good s = enterRecovery u ∧ slotState u a = 3 := by
  have failed := sound_slotFails h a
  obtain ⟨bad, -, -⟩ := slotFails_shows h a
  unfold bootActive
  rw [active]
  dsimp only
  rw [checkSlot_fails fails]
  dsimp only
  rw [if_neg Bool.false_ne_true]
  by_cases valid : slotState (slotFails a s) (1 - a) = 2
  · rw [if_pos valid, checkSlot_fails both]
    obtain ⟨-, others, -⟩ := slotFails_shows failed (1 - a)
    exact ⟨_, sound_slotFails failed (1 - a), if_neg Bool.false_ne_true, (others (by omega) a ha (by omega)).trans bad⟩
  · exact ⟨_, failed, if_neg valid, bad⟩

/-- The other slot, as the boot selection and its boot show it. -/
theorem bootOther_shows {s : State} (h : s.Sound) {b : Nat} (hb : b < 2) :
    (bootOther b s).nvm.booted = b ∧ (bootOther b s).fld .NVM_BOOT_SEL_ACTIVE = b ∧ (bootOther b s).flag .NVM_BOOT_SEL_TRIAL = false
    ∧ (∀ j, slotState (bootOther b s) j = slotState s j) ∧ (bootOther b s).cnts = s.cnts := by
  have chosen := sound_setBoot .NVM_BOOT_SEL_ACTIVE b s h
  have settled := sound_setBoot .NVM_BOOT_SEL_TRIAL 0 _ chosen
  have boots := bootSlot_boots settled b
  obtain ⟨active, -⟩ := setBoot_fld h (f := .NVM_BOOT_SEL_ACTIVE) (by decide) (by decide) b
  obtain ⟨trial, -⟩ := setBoot_fld chosen (f := .NVM_BOOT_SEL_TRIAL) (by decide) (by decide) 0
  obtain ⟨stays, -⟩ := setBoot_fld_beside chosen (f := .NVM_BOOT_SEL_TRIAL) (g := .NVM_BOOT_SEL_ACTIVE) (by decide) 0
  refine ⟨boots.booted, ?_, ?_, fun j => ?_, ?_⟩
  · exact (boots.fields .NVM_BOOT_SEL_ACTIVE (by decide)).trans (stays.trans (active.trans (Nat.mod_eq_of_lt hb)))
  · exact congrArg (· != 0) ((boots.fields .NVM_BOOT_SEL_TRIAL (by decide)).trans trial)
  · exact (boots.slots j).trans ((slotState_setBoot ..).trans (slotState_setBoot ..))
  · rw [bootOther, boots.cnts, setBoot_cnts, setBoot_cnts]

/-! ### BOOT -/

/-- The images of the slots pass their checks. -/
def goodOf (goodA goodB : Bool) (k : Nat) : Bool := if k = 0 then goodA else goodB

theorem goodOf_fin (goodA goodB : Bool) (k : Fin 2) : goodOf goodA goodB k.val = (if k = 0 then goodA else goodB)
    ∧ goodOf goodA goodB (1 - k.val) = (if k = 0 then goodB else goodA) := by
  match k with
  | 0 => exact ⟨rfl, rfl⟩
  | 1 => exact ⟨rfl, rfl⟩

/-- The application domain waits for its boot. -/
def bootDue (s : State) : Prop :=
  s.pwr.appHeld = true ∧ s.pwr.stopped = false ∧ s.pwr.seq = .up ∧ s.flag .KEEP_STATUS_ALIVE = true ∧ s.pwr.dusk.isNone = true

theorem boot_idle {s : State} (not : ¬ bootDue s) (goodA goodB : Bool) : boot goodA goodB s = s := if_neg not

theorem boot_recovery {s : State} (due : bootDue s) (goodA goodB : Bool) (asked : s.flag .NVM_BOOT_SEL_RECOVERY = true) :
    boot goodA goodB s = enterRecovery (setBoot .NVM_BOOT_SEL_RECOVERY 0 s) := (if_pos due).trans (if_pos asked)

theorem boot_active {s : State} (due : bootDue s) (goodA goodB : Bool) (not : s.flag .NVM_BOOT_SEL_RECOVERY = false)
    (stays : mustRevert s = false) : boot goodA goodB s = bootActive (goodOf goodA goodB) s :=
  (if_pos due).trans ((if_neg (by rw [not]; exact Bool.false_ne_true)).trans (if_neg (by rw [stays]; exact Bool.false_ne_true)))

/-- The trial reverts. -/
def reverted (s : State) : State :=
  (setBoot .NVM_BOOT_SEL_TRIAL 0 (setBoot .NVM_BOOT_SEL_ACTIVE (1 - s.fld .NVM_BOOT_SEL_ACTIVE) s)).count .NVM_TRIAL_REVERT_CNT

theorem boot_reverts {s : State} (due : bootDue s) (goodA goodB : Bool) (not : s.flag .NVM_BOOT_SEL_RECOVERY = false)
    (reverts : mustRevert s = true) : boot goodA goodB s = bootActive (goodOf goodA goodB) (reverted s) :=
  (if_pos due).trans ((if_neg (by rw [not]; exact Bool.false_ne_true)).trans (if_pos reverts))

theorem reverted_shows {s : State} (h : s.Sound) {k : Nat} (active : s.fld .NVM_BOOT_SEL_ACTIVE = k) :
    (reverted s).Sound ∧ (reverted s).fld .NVM_BOOT_SEL_ACTIVE = 1 - k ∧ (reverted s).flag .NVM_BOOT_SEL_TRIAL = false
    ∧ (∀ j, slotState (reverted s) j = slotState s j)
    ∧ (reverted s).cnt .NVM_TRIAL_REVERT_CNT = s.cnt .NVM_TRIAL_REVERT_CNT + 1#64 := by
  have chosen := sound_setBoot .NVM_BOOT_SEL_ACTIVE (1 - k) s h
  have settled := sound_setBoot .NVM_BOOT_SEL_TRIAL 0 _ chosen
  obtain ⟨on, -⟩ := setBoot_fld h (f := .NVM_BOOT_SEL_ACTIVE) (by decide) (by decide) (1 - k)
  obtain ⟨trial, -⟩ := setBoot_fld chosen (f := .NVM_BOOT_SEL_TRIAL) (by decide) (by decide) 0
  obtain ⟨stays, -⟩ := setBoot_fld_beside chosen (f := .NVM_BOOT_SEL_TRIAL) (g := .NVM_BOOT_SEL_ACTIVE) (by decide) 0
  unfold reverted
  rw [active]
  refine ⟨sound_State_count _ _ 0 0 1 settled, ?_, ?_, fun j => ?_, ?_⟩
  · rw [fld_congr (count_regs ..), stays, on]
    exact Nat.mod_eq_of_lt (by show 1 - k < 2; omega)
  · rw [State.flag, fld_congr (count_regs ..), trial]
    rfl
  · rw [slotState_congr (count_nvm ..), slotState_setBoot, slotState_setBoot]
  · rw [cnt_count settled.cnts, cnt_congr (setBoot_cnts ..), cnt_congr (setBoot_cnts ..)]

end Sys2Proof.Machine
end

section
/-!
SUPPORT. The recovery loader, the timer of a trial and the keeper firmware (R385, R399, R410 to R412), and the settlement of O59.
-/
namespace Sys2Proof.Machine

/-! ### The recovery loader -/

/-- The loader commits an image to a slot. -/
def loaderCommits (k : Nat) (l : List Byte) (good : Bool) (s : State) : State :=
  endCommit k good (nvmCopy ⟨3, k, slotBase k, 0, l.length, some l⟩ l.length (s.count .NVM_COMMIT_CNT))

def loaderWrites (k : Nat) (l : List Byte) (good : Bool) (s : State) : State :=
  if good then setBoot .NVM_BOOT_SEL_TRIAL 0 (setBoot .NVM_BOOT_SEL_ACTIVE k (loaderCommits k l good s)) else loaderCommits k l good s

theorem dfuLoad_idle {s : State} {l : List Byte} (not : s.nvm.recovery = false ∨ s.nvm.op.isSome = true ∨ imageLen l.length = false
    ∨ (slotState s 0 = 2 ∧ slotState s 1 = 2)) (good : Bool) : dfuLoad l good s = s := by
  unfold dfuLoad
  split
  · next ready =>
    obtain ⟨recovery, idle, len⟩ := ready
    rcases not with e | e | e | ⟨first, second⟩
    · rw [recovery] at e; cases e
    · rw [idle] at e; cases e
    · rw [len] at e; cases e
    · have none : [0, 1].find? (fun k => slotState s k != 2) = none := by
        rw [List.find?_cons, List.find?_cons, first, second]
        rfl
      rw [none]
  · rfl

theorem dfuLoad_writes {s : State} {l : List Byte} {k : Nat} (hk : k < 2) (recovery : s.nvm.recovery = true) (idle : s.nvm.op = none)
    (len : imageLen l.length = true) (bad : slotState s k ≠ 2) (valid : ∀ j < k, slotState s j = 2) (good : Bool) :
    dfuLoad l good s = loaderWrites k l good s := by
  have found : [0, 1].find? (fun k => slotState s k != 2) = some k := by
    rcases (show k = 0 ∨ k = 1 by omega) with rfl | rfl
    · rw [List.find?_cons, bne_iff_ne.mpr bad]
    · rw [List.find?_cons, valid 0 (by decide), List.find?_cons, bne_iff_ne.mpr bad]
      rfl
  unfold dfuLoad
  rw [if_pos ⟨recovery, idle, len⟩, found]
  rfl

theorem loaderWrites_shows {s : State} (h : s.Sound) {k : Nat} (hk : k < 2) (l : List Byte) (good : Bool) :
    slotState (loaderWrites k l good s) k = (if good then 2 else 3)
    ∧ (loaderWrites k l good s).cnt .NVM_COMMIT_CNT = s.cnt .NVM_COMMIT_CNT + 1#64
    ∧ (∀ i < l.length, SMap.getD (loaderWrites k l good s).nvm.flash (slotBase k + i) 0#8 = l.getD i 0#8)
    ∧ (good = true → (loaderWrites k l good s).fld .NVM_BOOT_SEL_ACTIVE = k
      ∧ (loaderWrites k l good s).flag .NVM_BOOT_SEL_TRIAL = false) := by
  have counted := sound_State_count s .NVM_COMMIT_CNT 0 0 1 h
  have copied := sound_nvmCopy ⟨3, k, slotBase k, 0, l.length, some l⟩ l.length _ counted
  have kept := kept_nvmCopy (le_same _) ⟨3, k, slotBase k, 0, l.length, some l⟩ l.length _ (.refl _ (s.count .NVM_COMMIT_CNT))
  have cnt : (nvmCopy ⟨3, k, slotBase k, 0, l.length, some l⟩ l.length (s.count .NVM_COMMIT_CNT)).cnt .NVM_COMMIT_CNT
      = s.cnt .NVM_COMMIT_CNT + 1#64 := by
    rw [kept.cnt counted copied (by decide +kernel)]
    exact cnt_count h.cnts _ 0 0 1
  have flash (i : Nat) (hi : i < l.length) := nvmCopy_image counted (o := ⟨3, k, slotBase k, 0, l.length, some l⟩) rfl rfl hi
  have committed : (loaderCommits k l good s).Sound := sound_endCommit k good _ copied
  cases good
  case false =>
    obtain ⟨-, slot, -, -, same, cnts⟩ := endCommit_bad copied k
    have writes : loaderWrites k l false s = loaderCommits k l false s := if_neg Bool.false_ne_true
    rw [writes, loaderCommits]
    refine ⟨slot, ?_, fun i hi => ?_, nofun⟩
    · rw [cnt_congr cnts, cnt_count_apart copied.cnts (by decide), cnt]
    · rw [same]
      exact flash i hi
  case true =>
    obtain ⟨-, slot, -, -, same, cnts⟩ := endCommit_good copied k
    have chosen := sound_setBoot .NVM_BOOT_SEL_ACTIVE k _ committed
    have writes : loaderWrites k l true s
        = setBoot .NVM_BOOT_SEL_TRIAL 0 (setBoot .NVM_BOOT_SEL_ACTIVE k (loaderCommits k l true s)) := if_pos rfl
    obtain ⟨active, -⟩ := setBoot_fld committed (f := .NVM_BOOT_SEL_ACTIVE) (by decide) (by decide) k
    obtain ⟨trial, -⟩ := setBoot_fld chosen (f := .NVM_BOOT_SEL_TRIAL) (by decide) (by decide) 0
    obtain ⟨stays, -⟩ := setBoot_fld_beside chosen (f := .NVM_BOOT_SEL_TRIAL) (g := .NVM_BOOT_SEL_ACTIVE) (by decide) 0
    rw [writes]
    refine ⟨?_, ?_, fun i hi => ?_, fun _ => ⟨?_, ?_⟩⟩
    · rw [slotState_setBoot, slotState_setBoot]
      exact slot
    · rw [cnt_congr (setBoot_cnts ..), cnt_congr (setBoot_cnts ..), loaderCommits, cnt_congr cnts, cnt]
    · rw [setBoot_nvm, setBoot_nvm, loaderCommits]
      refine (congrArg (fun m => SMap.getD m (slotBase k + i) 0#8) same).trans (flash i hi)
    · rw [stays, active]
      exact Nat.mod_eq_of_lt hk
    · rw [State.flag, trial]
      rfl

/-! ### The timer of a trial -/

/-- The trial has lasted too long, and its reset may be made. -/
def trialOver (e : Nat) (s : State) : Prop :=
  s.flag .NVM_BOOT_SEL_TRIAL = true ∧ s.fld .NVM_BOOT_SEL_TRIAL_S ≠ 0 ∧ e + s.fld .NVM_BOOT_SEL_TRIAL_S * 1000 * clkMs ≤ s.now
    ∧ s.flag .KEEP_STATUS_ALIVE = true ∧ resetBarred s = false

theorem trialSpan (n : Nat) : n * 1000 * clkMs = n * 1600000000 := by
  rw [Nat.mul_assoc]
  rfl

theorem trialExpiry_over {s : State} {e : Nat} (began : s.nvm.trialAt = some e) (ended : trialOver e s) :
    trialExpiry s = appRequest 2 s := by
  unfold trialExpiry
  rw [began]
  exact if_pos ended

theorem trialExpiry_early {s : State} {e : Nat} (began : s.nvm.trialAt = some e) (early : ¬ trialOver e s) : trialExpiry s = s := by
  unfold trialExpiry
  rw [began]
  exact if_neg early

/-! ### The sequence of the rails -/

/-- The power management is in a state. -/
def withPwr (x : PwrSt) (s : State) : State := { s with pwr := x }

@[simp] theorem withPwr_regs (x : PwrSt) (s : State) : (withPwr x s).regs = s.regs := rfl
@[simp] theorem withPwr_cnts (x : PwrSt) (s : State) : (withPwr x s).cnts = s.cnts := rfl
@[simp] theorem withPwr_nvm (x : PwrSt) (s : State) : (withPwr x s).nvm = s.nvm := rfl
@[simp] theorem withPwr_pwr (x : PwrSt) (s : State) : (withPwr x s).pwr = x := rfl
@[simp] theorem withPwr_now (x : PwrSt) (s : State) : (withPwr x s).now = s.now := rfl

/-- The flags of a steep module. -/
def steepShown (s : State) : State := (s.setFld .PWR_STATUS_STEEP 1).setFld .KEEP_STATUS_STEEP 1

/-- The rails wait for the steep to end. -/
def steepBegins (s : State) : State :=
  { s with pwr := { s.pwr with seq := .steep, steepAt := some s.now, dummy := true } }

theorem steepBegins_leaves (s : State) : (steepBegins s).regs = s.regs
    ∧ (steepBegins s).pwr = { s.pwr with seq := .steep, steepAt := some s.now, dummy := true } := ⟨rfl, rfl⟩

theorem sequence_steep {x : Int} (cold : x < -2000) (s : State) : sequence x s
    = raiseNear 177 (steepBegins ((s.setFld .PWR_STATUS_STEEP 1).setFld .KEEP_STATUS_STEEP 1)) := if_pos cold

theorem sequence_up {x : Int} (warm : ¬ x < -2000) (s : State) : sequence x s
    = withPwr { s.pwr with seq := .up } (s.setFld .PWR_STATUS_SEQ_DONE 1) := if_neg warm

/-- What the rails show once they are up. -/
structure RailsUp (x : Int) (s t : State) : Prop where
  pwr : t.pwr.starting = s.pwr.starting ∧ t.pwr.seq = (if x < -2000 then .steep else .up)
  steep : x < -2000 → t.flag .PWR_STATUS_STEEP = true ∧ t.pwr.steepAt = some s.now
  level : -2000 ≤ x → t.flag .PWR_STATUS_SEQ_DONE = true
  alive : t.flag .KEEP_STATUS_ALIVE = s.flag .KEEP_STATUS_ALIVE
  quiet : t.flag .PWR_STATUS_QUIET = s.flag .PWR_STATUS_QUIET

theorem steepShown_leaves (s : State) : (steepShown s).pwr = s.pwr ∧ (steepShown s).now = s.now := by
  rw [steepShown, setFld_pwr, setFld_pwr, setFld_now, setFld_now]
  exact ⟨rfl, rfl⟩

theorem steepShown_shows {s : State} (h : s.Sound) : (steepShown s).Sound ∧ (steepShown s).flag .PWR_STATUS_STEEP = true
    ∧ (steepShown s).flag .KEEP_STATUS_ALIVE = s.flag .KEEP_STATUS_ALIVE
    ∧ (steepShown s).flag .PWR_STATUS_QUIET = s.flag .PWR_STATUS_QUIET := by
  have steep := sound_State_setFld s .PWR_STATUS_STEEP 1 0 0 h
  unfold steepShown
  refine ⟨sound_State_setFld _ .KEEP_STATUS_STEEP 1 0 0 steep, ?_, ?_, ?_⟩
  · rw [flag_setFld_apart (f := .KEEP_STATUS_STEEP) (g := .PWR_STATUS_STEEP) steep.regs (by decide),
      flag_setFld h.regs (by decide) (by decide)]
    rfl
  · rw [flag_setFld_beside (f := .KEEP_STATUS_STEEP) (g := .KEEP_STATUS_ALIVE) steep.regs (by decide),
      flag_setFld_apart (f := .PWR_STATUS_STEEP) (g := .KEEP_STATUS_ALIVE) h.regs (by decide)]
  · rw [flag_setFld_apart (f := .KEEP_STATUS_STEEP) (g := .PWR_STATUS_QUIET) steep.regs (by decide),
      flag_setFld_beside (f := .PWR_STATUS_STEEP) (g := .PWR_STATUS_QUIET) h.regs (by decide)]

/-- The vector of a steep module leaves its flags. -/
theorem raiseNear_leaves {s : State} (h : s.Sound) (v : Nat) : (raiseNear v s).pwr = s.pwr
    ∧ (raiseNear v s).flag .PWR_STATUS_STEEP = s.flag .PWR_STATUS_STEEP
    ∧ (raiseNear v s).flag .KEEP_STATUS_ALIVE = s.flag .KEEP_STATUS_ALIVE
    ∧ (raiseNear v s).flag .PWR_STATUS_QUIET = s.flag .PWR_STATUS_QUIET := by
  have k := kept_raiseNear (le_same _) v s (.refl _ s)
  have raised := sound_raiseNear v s h
  exact ⟨k.pwr (by decide), k.flag h raised (by decide +kernel) .., k.flag h raised (by decide +kernel) ..,
    k.flag h raised (by decide +kernel) ..⟩

theorem sequence_shows {s : State} (h : s.Sound) (x : Int) : RailsUp x s (sequence x s) := by
  by_cases cold : x < -2000
  · obtain ⟨shown, steep, alive, quiet⟩ := steepShown_shows h
    obtain ⟨samePwr, sameNow⟩ := steepShown_leaves s
    obtain ⟨regs, held⟩ := steepBegins_leaves (steepShown s)
    have set : (steepBegins (steepShown s)).Sound := sound_withPwr shown _
    obtain ⟨pwr, keptSteep, keptAlive, keptQuiet⟩ := raiseNear_leaves set 177
    have run : sequence x s = raiseNear 177 (steepBegins (steepShown s)) := sequence_steep cold s
    rw [held, samePwr, sameNow] at pwr
    rw [run]
    refine ⟨?_, fun _ => ⟨?_, ?_⟩, fun warm => absurd cold (Int.not_lt.mpr warm), ?_, ?_⟩
    · rw [pwr, if_pos cold]
      exact ⟨rfl, rfl⟩
    · rw [keptSteep, flag_congr regs, steep]
    · rw [pwr]
    · rw [keptAlive, flag_congr regs, alive]
    · rw [keptQuiet, flag_congr regs, quiet]
  · rw [sequence_up cold]
    refine ⟨?_, fun c => absurd c cold, fun _ => ?_, ?_, ?_⟩
    · rw [withPwr_pwr, if_neg cold]
      exact ⟨rfl, rfl⟩
    · rw [flag_congr (withPwr_regs ..), flag_setFld h.regs (by decide) (by decide)]
      rfl
    · rw [flag_congr (withPwr_regs ..), flag_setFld_apart (f := .PWR_STATUS_SEQ_DONE) (g := .KEEP_STATUS_ALIVE) h.regs (by decide)]
    · rw [flag_congr (withPwr_regs ..), flag_setFld_beside (f := .PWR_STATUS_SEQ_DONE) (g := .PWR_STATUS_QUIET) h.regs (by decide)]

/-! ### The keeper firmware -/

/-- The keeper firmware of a slot runs. -/
def firmwareRuns (k : Nat) (s : State) : State :=
  { s with nvm := { s.nvm with keeper := k, keeperFwAt := none }, pwr := { s.pwr with ledHeld := none } }

/-- The keeper core is alive. -/
def keeperAwake (k : Nat) (s : State) : State := (showSlots (firmwareRuns k s)).setFld .KEEP_STATUS_ALIVE 1

theorem keeperRuns_eq (k : Nat) (s : State) : keeperRuns k s = startRails (keeperQuiet (keeperAwake k s)) := rfl

theorem firmwareRuns_leaves (k : Nat) (s : State) : (firmwareRuns k s).regs = s.regs ∧ (firmwareRuns k s).now = s.now
    ∧ (firmwareRuns k s).nvm.keeper = k ∧ (firmwareRuns k s).nvm.keeperFwAt = none
    ∧ (firmwareRuns k s).pwr.starting = s.pwr.starting ∧ (firmwareRuns k s).pwr.quiet = s.pwr.quiet := ⟨rfl, rfl, rfl, rfl, rfl, rfl⟩

theorem sound_firmwareRuns {s : State} (h : s.Sound) (k : Nat) : (firmwareRuns k s).Sound :=
  ⟨h.regs, h.shadow, h.cnts, h.tot, h.hold, h.pairs, h.ctl, h.host, h.hlt, NvmSt.sound_mk h.nvm.flash, h.cls, h.time, h.tbl,
    h.leaf, h.xbar, h.buf, h.tm, h.sky⟩

/-- What the keeper core shows as it wakes. -/
structure KeeperAwake (k : Nat) (s t : State) : Prop where
  sound : t.Sound
  nvm : t.nvm.keeper = k ∧ t.nvm.keeperFwAt = none
  alive : t.flag .KEEP_STATUS_ALIVE = true
  starting : t.pwr.starting = s.pwr.starting
  now : t.now = s.now

theorem keeperAwake_awakes {s : State} (h : s.Sound) (k : Nat) : KeeperAwake k s (keeperAwake k s)
    ∧ (keeperAwake k s).flag .PWR_STATUS_QUIET = s.flag .PWR_STATUS_QUIET ∧ (keeperAwake k s).pwr.quiet = s.pwr.quiet
    ∧ s.Only (keeperAwake k s) [.nvm, .pwr] [Reg.off .NVM_SLOT_STATUS, Reg.off .KEEP_STATUS] [] := by
  have runs := sound_firmwareRuns h k
  have shown := sound_showSlots _ runs
  obtain ⟨regs, now, keeper, fw, starting, quiet⟩ := firmwareRuns_leaves k s
  refine ⟨⟨sound_State_setFld _ .KEEP_STATUS_ALIVE 1 0 0 shown, ?_, flag_setFld shown.regs (by decide) (by decide) 1 0 0, ?_, ?_⟩, ?_, ?_, ?_⟩
  · rw [keeperAwake, setFld_nvm, showSlots_nvm]
    exact ⟨keeper, fw⟩
  · rw [keeperAwake, setFld_pwr, showSlots_pwr, starting]
  · rw [keeperAwake, setFld_now, showSlots, setReg_now, now]
  · rw [keeperAwake, flag_setFld_apart (f := .KEEP_STATUS_ALIVE) (g := .PWR_STATUS_QUIET) shown.regs (by decide), showSlots,
      flag_setReg_apart (r := .NVM_SLOT_STATUS) (g := .PWR_STATUS_QUIET) runs.regs (by decide), flag_congr regs]
  · rw [keeperAwake, setFld_pwr, showSlots_pwr, quiet]
  · exact (((((Sofar.start h [.nvm, .pwr] [Reg.off .NVM_SLOT_STATUS, Reg.off .KEEP_STATUS] []).setNvm (by decide) _).setPwr
      (by decide) _).showSlots List.mem_cons_self).setFld .KEEP_STATUS_ALIVE 1 0 0 (List.mem_cons_of_mem _ List.mem_cons_self)).only

theorem keeperQuiet_off {s : State} (off : s.pwr.quiet = false) : keeperQuiet s = s :=
  if_neg (by rw [off, Bool.and_false]; exact Bool.false_ne_true)

/-- An alive keeper core darkens the sky where quiet has begun. -/
theorem keeperQuiet_darkens {s : State} (h : s.Sound) (alive : s.flag .KEEP_STATUS_ALIVE = true) (on : s.pwr.quiet = true)
    (new : s.flag .PWR_STATUS_QUIET = false) :
    (keeperQuiet s).flag .PWR_STATUS_QUIET = true ∧ (keeperQuiet s).flag .SKY_TX_EN_EN = false := by
  have does : keeperQuiet s = skyTxEn 0#32 ((s.setFld .PWR_STATUS_QUIET 1).count .PWR_QUIET_CNT) :=
    if_pos (by rw [alive, on, new]; rfl)
  have counted := sound_State_count _ .PWR_QUIET_CNT 0 0 1 (sound_State_setFld s .PWR_STATUS_QUIET 1 0 0 h)
  have k := kept_skyTxEn (le_same _) 0#32 _ (.refl _ ((s.setFld .PWR_STATUS_QUIET 1).count .PWR_QUIET_CNT))
  obtain ⟨en, -, -⟩ := skyTxEn_shows counted 0#32
  rw [does]
  constructor
  · rw [k.flag counted (sound_skyTxEn 0#32 _ counted) (by decide +kernel), flag_congr (count_regs ..),
      flag_setFld h.regs (by decide) (by decide)]
    rfl
  · rw [State.flag, en]
    rfl

/-- Quiet leaves the keeper core awake. -/
theorem KeeperAwake.keeperQuiet {k : Nat} {s u : State} (a : KeeperAwake k s u) : KeeperAwake k s (keeperQuiet u) := by
  have kept := kept_keeperQuiet (le_same _) u (.refl _ u)
  have sound := sound_keeperQuiet u a.sound
  refine ⟨sound, ?_, ?_, ?_, (kept.now (by decide)).trans a.now⟩
  · rw [kept.nvm (by decide)]
    exact a.nvm
  · rw [kept.flag a.sound sound (by decide +kernel), a.alive]
  · rw [kept.pwr (by decide), a.starting]

/-- No rail waits for the firmware. -/
def noneStarting (s : State) : State := withPwr { s.pwr with starting := none } s

theorem startRails_none {s : State} (none : s.pwr.starting = none) : startRails s = s := by
  unfold startRails
  rw [none]

theorem startRails_some {s : State} {x : Int} (waits : s.pwr.starting = some x) : startRails s = sequence x (noneStarting s) := by
  unfold startRails
  rw [waits]
  rfl

/-- What the rails' start leaves. -/
theorem startRails_leaves {s : State} (h : s.Sound) : (startRails s).nvm = s.nvm
    ∧ (startRails s).flag .KEEP_STATUS_ALIVE = s.flag .KEEP_STATUS_ALIVE
    ∧ (startRails s).flag .PWR_STATUS_QUIET = s.flag .PWR_STATUS_QUIET
    ∧ (startRails s).flag .SKY_TX_EN_EN = s.flag .SKY_TX_EN_EN := by
  have k := kept_startRails (le_same _) s (.refl _ s)
  have sound := sound_startRails s h
  refine ⟨k.nvm (by decide), ?_, ?_, k.flag h sound (by decide +kernel) ..⟩
  all_goals
    rcases waits : s.pwr.starting with - | x
  · rw [startRails_none waits]
  · rw [startRails_some waits, (sequence_shows (s := noneStarting s) (sound_withPwr h _) x).alive, noneStarting, flag_congr (withPwr_regs ..)]
  · rw [startRails_none waits]
  · rw [startRails_some waits, (sequence_shows (s := noneStarting s) (sound_withPwr h _) x).quiet, noneStarting, flag_congr (withPwr_regs ..)]

theorem keeperRuns_awakes {s : State} (h : s.Sound) (k : Nat) : (keeperRuns k s).nvm.keeper = k
    ∧ (keeperRuns k s).nvm.keeperFwAt = none ∧ (keeperRuns k s).flag .KEEP_STATUS_ALIVE = true := by
  have awake := (keeperAwake_awakes h k).1.keeperQuiet
  obtain ⟨nvm, alive, -, -⟩ := startRails_leaves awake.sound
  rw [keeperRuns_eq, nvm, alive]
  exact ⟨awake.nvm.1, awake.nvm.2, awake.alive⟩

theorem keeperRuns_rails {s : State} (h : s.Sound) (k : Nat) {x : Int} (waits : s.pwr.starting = some x) :
    (keeperRuns k s).pwr.starting = none ∧ (keeperRuns k s).pwr.seq = (if x < -2000 then .steep else .up)
    ∧ (x < -2000 → (keeperRuns k s).flag .PWR_STATUS_STEEP = true ∧ (keeperRuns k s).pwr.steepAt = some s.now)
    ∧ (-2000 ≤ x → (keeperRuns k s).flag .PWR_STATUS_SEQ_DONE = true) := by
  have awake := (keeperAwake_awakes h k).1.keeperQuiet
  have ready : (noneStarting (Machine.keeperQuiet (keeperAwake k s))).Sound := sound_withPwr awake.sound _
  have up := sequence_shows ready x
  rw [keeperRuns_eq, startRails_some (awake.starting.trans waits)]
  refine ⟨up.pwr.1, up.pwr.2, fun cold => ⟨(up.steep cold).1, ?_⟩, up.level⟩
  rw [(up.steep cold).2, noneStarting, withPwr_now, awake.now]

/-! ### The choice of the firmware -/

theorem keeperChoice_none {s : State} (none : keeperChoice (fun _ => true) s = none) :
    slotState s (1 - s.fld .NVM_BOOT_SEL_ACTIVE) ≠ 2 := by
  intro valid
  unfold keeperChoice at none
  have small : s.fld .NVM_BOOT_SEL_ACTIVE < 2 := fld_lt _ _ 0 0
  cases hr : mustRevert s
  case false =>
    by_cases first : slotState s (s.fld .NVM_BOOT_SEL_ACTIVE) = 2
    · simp [hr, first] at none
    · simp [hr, first, valid] at none
  case true => simp [hr, valid] at none

/-- Settles O59: an operation ends as `opEnds` says, a boot runs a slot, the other or the loader (`bootActive_boots`,
`bootActive_falls`, `bootActive_recovers`), and the keeper firmware wakes its core (`keeperRuns_awakes`). -/
theorem nvmEndsAndBoot : Obligations.NvmEndsAndBoot := by
  unfold Obligations.NvmEndsAndBoot
  refine ⟨fun s e idle => ?_, fun s o h runs => ⟨?_, fun e whole op clean => ?_, fun e whole op image clean => ?_, fun op arg => ?_,
      fun op arg => ?_, fun e k whole op hk base newer => ?_⟩, fun s h => ⟨fun none => ?_, fun pend => ?_⟩,
    fun s goodA goodB h => ⟨fun not => ?_, fun held up seq alive dusk => ⟨fun asked => ?_, fun k quiet stays active => ⟨fun valid passes => ?_,
      fun fails valid passes => ?_, fun fails both => ?_⟩, fun k quiet reverts active valid passes => ?_⟩⟩,
    fun s l good h => ⟨fun not => ?_, fun k hk recovery idle len bad valid => ?_⟩,
    fun s e h began => ⟨fun not => ?_, fun trial some late alive free met => ?_⟩,
    fun s e goodA goodB h began => ⟨fun none => ?_, fun k chosen => ?_, fun not => ?_, fun k late chosen valid => ?_⟩⟩
  case refine_1 =>
    refine congrArg Host.Outcome.next ?_
    unfold nvmOpComplete
    rw [idle]
  case refine_2 =>
    obtain ⟨op, busy, code, err, cnt, slots, copy⟩ := opEnds_flashError (sound_engineIdle h) o
    exact ⟨_, exec_nvmOpComplete runs .flashError, op, busy, code, err, cnt, slots 0, slots 1, copy⟩
  case refine_3 =>
    have idle := sound_engineIdle h
    obtain ⟨none, busy, done⟩ := nvmDone_moved idle o o.len
    obtain ⟨bytes, others⟩ := nvmCopy_read idle op clean
    rw [← opEnds_moved whole (by rw [op]; decide) (by rw [op]; decide)] at none busy done
    refine ⟨_, exec_nvmOpComplete runs e, none, busy, done, ?_⟩
    rw [opEnds_moved whole (by rw [op]; decide) (by rw [op]; decide), nvmDone_host]
    exact ⟨bytes, others⟩
  case refine_4 =>
    have idle := sound_engineIdle h
    obtain ⟨none, busy, done⟩ := nvmDone_moved idle o o.len
    obtain ⟨host, bytes, others⟩ := nvmCopy_write idle op image clean
    rw [← opEnds_moved whole (by rw [op]; decide) (by rw [op]; decide)] at none busy done
    refine ⟨_, exec_nvmOpComplete runs e, none, busy, done, ?_⟩
    rw [opEnds_moved whole (by rw [op]; decide) (by rw [op]; decide), nvmDone_host, nvmDone_nvm]
    exact ⟨host, bytes, others⟩
  case refine_5 =>
    have idle := sound_engineIdle h
    obtain ⟨none, slots, -⟩ := nvmRest_slots (nvmRest_nvmCopy o o.len (engineIdle s))
    obtain ⟨kept, slot, other, done, -, -⟩ := endCommit_good (sound_nvmCopy o o.len _ idle) o.arg
    have ends : opEnds .good o (engineIdle s) = endCommit o.arg true (nvmCopy o o.len (engineIdle s)) :=
      (if_neg (by decide)).trans (if_pos op)
    refine ⟨_, (exec_nvmOpComplete runs .good).trans (congrArg _ ends), kept.trans none, slot, ?_, done⟩
    exact (other arg (1 - o.arg) (by omega) (by omega)).trans (slots _)
  case refine_6 =>
    have idle := sound_engineIdle h
    have copied := sound_nvmCopy o o.len _ idle
    obtain ⟨none, -, -⟩ := nvmRest_slots (nvmRest_nvmCopy o o.len (engineIdle s))
    obtain ⟨kept, slot, code, err, -, cnts⟩ := endCommit_bad copied o.arg
    have ends : opEnds .badImage o (engineIdle s) = endCommit o.arg false (nvmCopy o o.len (engineIdle s)) :=
      (if_neg (by decide)).trans (if_pos op)
    have k := kept_nvmCopy (le_same _) o o.len _ (.refl _ (engineIdle s))
    refine ⟨_, (exec_nvmOpComplete runs .badImage).trans (congrArg _ ends), kept.trans none, slot, code, err, ?_⟩
    rw [cnt_congr cnts, cnt_count copied.cnts, k.cnt idle copied (by decide +kernel)]
    rfl
  case refine_7 =>
    exact ⟨_, exec_nvmOpComplete runs e, opEnds_config (sound_engineIdle h) whole op hk base newer⟩
  case refine_8 =>
    exact congrArg Host.Outcome.next (if_neg (by rw [none]; exact Bool.false_ne_true))
  case refine_9 =>
    exact ⟨_, congrArg Host.Outcome.next (if_pos pend), rfl, ((Sofar.start h [.nvm] [] []).setNvm List.mem_cons_self _).only⟩
  case refine_10 =>
    refine congrArg Host.Outcome.next (boot_idle ?_ goodA goodB)
    rintro ⟨held, up, seq, alive, dusk⟩
    rcases not with e | e | e | e | e
    · rw [e] at held; cases held
    · rw [e] at up; cases up
    · exact e seq
    · rw [e] at alive; cases alive
    · rw [Option.isNone_iff_eq_none.mp dusk] at e; cases e
  case refine_11 =>
    have due : bootDue s := ⟨held, up, seq, alive, by rw [dusk]; rfl⟩
    have cleared := sound_setBoot .NVM_BOOT_SEL_RECOVERY 0 s h
    obtain ⟨recovery, released, state, booted, -⟩ := enterRecovery_recovers cleared
    obtain ⟨flag, -⟩ := setBoot_fld h (f := .NVM_BOOT_SEL_RECOVERY) (by decide) (by decide) 0
    refine ⟨_, congrArg Host.Outcome.next (boot_recovery due goodA goodB asked), recovery, released, state, ?_, ?_⟩
    · rw [enterRecovery_eq, flag_congr (loaderRuns_leaves _).1,
        flag_setFld_apart (f := .SYS_RUN_STATE_STATE) (g := .NVM_BOOT_SEL_RECOVERY) cleared.regs (by decide), State.flag, flag]
      rfl
    · rw [booted, setBoot_nvm]
  case refine_12 =>
    have due : bootDue s := ⟨held, up, seq, alive, by rw [dusk]; rfl⟩
    have boots := bootSlot_boots h k.val
    refine ⟨_, congrArg Host.Outcome.next ((boot_active due goodA goodB quiet stays).trans (bootActive_boots active valid
      ((goodOf_fin goodA goodB k).1.trans passes))), boots.booted, boots.released, boots.running,
      boots.fields .SYS_RUN_STATE_STATE (by decide), boots.trial⟩
  case refine_13 =>
    have due : bootDue s := ⟨held, up, seq, alive, by rw [dusk]; rfl⟩
    have hk := k.isLt
    obtain ⟨bad, others, cnt⟩ := slotFails_shows h k.val
    have still := (others hk (1 - k.val) (by omega) (by omega)).trans valid
    obtain ⟨booted, chosen, trial, slots, cnts⟩ := bootOther_shows (sound_slotFails h k.val) (b := 1 - k.val) (by omega)
    refine ⟨_, congrArg Host.Outcome.next ((boot_active due goodA goodB quiet stays).trans (bootActive_falls active
      (fails.imp_right fun e => (goodOf_fin goodA goodB k).1.trans e) still ((goodOf_fin goodA goodB k).2.trans passes))),
      booted, chosen, trial, (slots _).trans bad, (cnt_congr cnts ..).trans cnt⟩
  case refine_14 =>
    have due : bootDue s := ⟨held, up, seq, alive, by rw [dusk]; rfl⟩
    have hk := k.isLt
    obtain ⟨-, others, -⟩ := slotFails_shows h k.val
    obtain ⟨u, sound, run, bad⟩ := bootActive_recovers (good := goodOf goodA goodB) h hk active
      (fails.imp_right fun e => (goodOf_fin goodA goodB k).1.trans e)
      (both.imp (fun e => by rw [others hk (1 - k.val) (by omega) (by omega)]; exact e)
        fun e => (goodOf_fin goodA goodB k).2.trans e)
    obtain ⟨recovery, released, state, -, slots⟩ := enterRecovery_recovers sound
    exact ⟨_, congrArg Host.Outcome.next ((boot_active due goodA goodB quiet stays).trans run), recovery, released, state,
      (slots _).trans bad⟩
  case refine_15 =>
    have due : bootDue s := ⟨held, up, seq, alive, by rw [dusk]; rfl⟩
    obtain ⟨sound, chosen, trial, slots, cnt⟩ := reverted_shows h active
    have boots := bootSlot_boots sound (1 - k.val)
    refine ⟨_, congrArg Host.Outcome.next ((boot_reverts due goodA goodB quiet reverts).trans (bootActive_boots chosen
      ((slots _).trans valid) ((goodOf_fin goodA goodB k).2.trans passes))), boots.booted,
      (boots.fields .NVM_BOOT_SEL_ACTIVE (by decide)).trans chosen, ?_, (cnt_congr boots.cnts ..).trans cnt,
      (boots.slots _).trans (slots _)⟩
    exact (congrArg (· != 0) (boots.fields .NVM_BOOT_SEL_TRIAL (by decide))).trans trial
  case refine_16 =>
    exact congrArg Host.Outcome.next (dfuLoad_idle not good)
  case refine_17 =>
    exact ⟨_, congrArg Host.Outcome.next (dfuLoad_writes hk recovery idle len bad valid good), loaderWrites_shows h hk l good⟩
  case refine_18 =>
    by_cases ended : trialOver e s
    · refine congrArg Host.Outcome.next ((trialExpiry_over began ended).trans (if_pos ?_))
      obtain ⟨trial, some, late, alive, free⟩ := ended
      rw [trialSpan] at late
      rcases not with e | e | e | e | e | e
      · rw [e] at trial; cases trial
      · exact absurd e some
      · exact absurd late (Nat.not_le.mpr e)
      · rw [e] at alive; cases alive
      · rw [e] at free; cases free
      · exact e
    · exact congrArg Host.Outcome.next (trialExpiry_early began ended)
  case refine_19 =>
    have ended : trialOver e s := ⟨trial, some, by rw [trialSpan]; exact late, alive, free⟩
    exact ⟨_, congrArg Host.Outcome.next ((trialExpiry_over began ended).trans (if_neg (by rw [met]; exact Bool.false_ne_true))),
      appReset_resets h 2⟩
  case refine_20 =>
    refine congrArg Host.Outcome.next ?_
    unfold keeperLoad
    rw [none]
    exact ite_self s
  case refine_21 =>
    have run : exec (.keeperFwLoad goodA goodB) s = .next (keeperRuns k s) := by
      refine congrArg Host.Outcome.next ?_
      unfold keeperLoad
      rw [chosen]
      exact if_pos (by rw [began]; rfl)
    obtain ⟨keeper, fw, alive⟩ := keeperRuns_awakes h k
    obtain ⟨awake, shown, asked, frame⟩ := keeperAwake_awakes h k
    refine ⟨_, run, keeper, fw, alive, fun none off => ?_, fun x waits => keeperRuns_rails h k waits, fun on new => ?_⟩
    · rw [keeperRuns_eq, keeperQuiet_off (asked.trans off), startRails_none (awake.starting.trans none)]
      exact frame
    · obtain ⟨-, -, quiet, sky⟩ := startRails_leaves awake.keeperQuiet.sound
      rw [keeperRuns_eq, quiet, sky]
      exact keeperQuiet_darkens awake.sound awake.alive (asked.trans on) (shown.trans new)
  case refine_22 =>
    refine congrArg Host.Outcome.next ?_
    unfold keeperFallback
    rw [began]
    refine if_neg ?_
    rintro ⟨late, valid⟩
    rcases not with early | none
    · exact absurd late (Nat.not_le.mpr early)
    · rw [none] at valid
      exact keeperChoice_none none valid
  case refine_23 =>
    have run : exec .keeperFwFallback s = .next (keeperRuns (1 - k) s) := by
      refine congrArg Host.Outcome.next ?_
      unfold keeperFallback
      rw [began, chosen]
      exact if_pos ⟨late, valid⟩
    exact ⟨_, run, keeperRuns_awakes h (1 - k)⟩

end Sys2Proof.Machine
end

section
/-!
SUPPORT. Messages of the MSI-X table, pending interrupts that are cleared, and the kind policers (R286, R292, R295).
-/
namespace Sys2Proof.Machine

/-! ### Messages that go out -/

/-- The message of a vector may go. -/
def mayGo (s : State) (v : Nat) : Bool :=
  s.flag .CTL_PCIE_STATUS_LINK_UP && s.flag .CTL_PCIE_STATUS_BME && !(SMap.getD s.ctl.msix v {}).masked

/-- The message of a vector. -/
def msixOf (s : State) (v : Nat) : OutEv := .msix v (SMap.getD s.ctl.msix v {}).addr (SMap.getD s.ctl.msix v {}).data

theorem sendMsix_goes {s : State} {v : Nat} (may : mayGo s v = true) : sendMsix v s = s.emit (msixOf s v) := if_pos may

theorem sendMsix_holds {s : State} {v : Nat} (may : mayGo s v = false) :
    sendMsix v s = { s with ctl := { s.ctl with msixHeld := s.ctl.msixHeld ++ [v] } } :=
  if_neg (by rw [show (_ && _ && _) = false from may]; exact Bool.false_ne_true)

/-- Messages of a list are sent, or held. -/
structure MsixSent (l : List Nat) (s t : State) : Prop where
  regs : t.regs = s.regs
  table : t.ctl.msix = s.ctl.msix
  held : ∀ v ∈ t.ctl.msixHeld, v ∈ s.ctl.msixHeld ∨ mayGo s v = false
  out : ∀ e ∈ s.out, e ∈ t.out
  sent : ∀ v ∈ l, mayGo s v = true → msixOf s v ∈ t.out

theorem mayGo_congr {s t : State} (regs : t.regs = s.regs) (table : t.ctl.msix = s.ctl.msix) (v : Nat) :
    mayGo t v = mayGo s v ∧ msixOf t v = msixOf s v := by
  unfold mayGo msixOf
  rw [flag_congr regs, flag_congr regs, table]
  exact ⟨rfl, rfl⟩

theorem MsixSent.one (v : Nat) (s : State) : MsixSent [v] s (sendMsix v s) := by
  cases may : mayGo s v
  case true =>
    rw [sendMsix_goes may]
    refine ⟨rfl, rfl, fun w hw => .inl hw, fun e he => List.mem_cons_of_mem _ he, fun w hw _ => ?_⟩
    rw [List.mem_singleton.mp hw]
    exact List.mem_cons_self
  case false =>
    rw [sendMsix_holds may]
    refine ⟨rfl, rfl, fun w hw => (List.mem_append.mp hw).imp_right fun e => ?_, fun _ he => he, fun w hw go => ?_⟩
    · rw [List.mem_singleton.mp e]
      exact may
    · rw [List.mem_singleton.mp hw, may] at go
      cases go

theorem MsixSent.trans {l m : List Nat} {s u t : State} (a : MsixSent l s u) (b : MsixSent m u t) : MsixSent (l ++ m) s t := by
  have same := mayGo_congr a.regs a.table
  refine ⟨b.regs.trans a.regs, b.table.trans a.table, fun v hv => ?_, fun e he => b.out e (a.out e he), fun v hv may => ?_⟩
  · rcases b.held v hv with held | off
    · exact a.held v held
    · exact .inr ((same v).1.symm.trans off)
  · rcases List.mem_append.mp hv with first | second
    · exact b.out _ (a.sent v first may)
    · rw [← (same v).2]
      exact b.sent v second ((same v).1.trans may)

theorem msixSent_all (l : List Nat) (s : State) : MsixSent l s (l.foldl (fun s v => sendMsix v s) s) := by
  induction l generalizing s with
  | nil => exact ⟨rfl, rfl, fun _ hv => .inl hv, fun _ he => he, nofun⟩
  | cons v l ih => exact (MsixSent.one v s).trans (ih (sendMsix v s))

/-- No message waits. -/
def msixTaken (s : State) : State := { s with ctl := { s.ctl with msixHeld := [] } }

theorem flushMsix_eq (s : State) : flushMsix s = s.ctl.msixHeld.foldl (fun s v => sendMsix v s) (msixTaken s) := rfl

/-- Of the messages that were held, those go that may, and no other waits. -/
theorem flushMsix_sends (s : State) : (flushMsix s).regs = s.regs ∧ (flushMsix s).ctl.msix = s.ctl.msix
    ∧ (∀ v ∈ (flushMsix s).ctl.msixHeld, mayGo s v = false)
    ∧ ∀ v ∈ s.ctl.msixHeld, mayGo s v = true → msixOf s v ∈ (flushMsix s).out := by
  have sent := msixSent_all s.ctl.msixHeld (msixTaken s)
  rw [← flushMsix_eq] at sent
  have same := mayGo_congr (s := s) (t := msixTaken s) rfl rfl
  refine ⟨sent.regs, sent.table, fun v hv => ?_, fun v hv may => ?_⟩
  · exact (same v).1.symm.trans ((sent.held v hv).resolve_left List.not_mem_nil)
  · rw [← (same v).2]
    exact sent.sent v hv ((same v).1.trans may)

section
variable {s u : State} {aa : List Area} {oo cc : List Nat}

theorem Sofar.sendMsix (h : Sofar s u aa oo cc) (hc : Area.ctl ∈ aa) (ho : Area.out ∈ aa) (v : Nat) :
    Sofar s (sendMsix v u) aa oo cc := by
  unfold Machine.sendMsix
  exact ite_holds (P := fun t => Sofar s t aa oo cc) (h.emit ho _) (h.setCtl hc _)

theorem Sofar.flushMsix (h : Sofar s u aa oo cc) (hc : Area.ctl ∈ aa) (ho : Area.out ∈ aa) : Sofar s (flushMsix u) aa oo cc := by
  rw [flushMsix_eq]
  exact foldl_holds (P := fun t => Sofar s t aa oo cc) (fun x v hx => hx.sendMsix hc ho v) (h.setCtl hc _)

theorem Sofar.uncount (h : Sofar s u aa oo cc) (c : Cnt) (i j : Nat) (hm : c.off i j ∈ cc) : Sofar s (u.uncount c i j) aa oo cc := by
  refine ⟨h.sr, SMap.sorted_upd h.sc (c.off i j) 0#64 (fun x => x - 1#64), SMap.sorted_upd h.st (c.off i j) 0 (fun x => x - 1),
    ⟨fun a ha => ?_, h.only.regs, fun q hq => ?_, fun q hq => ?_⟩⟩
  · have := h.only.area a ha
    cases a <;> exact this
  · rw [← h.only.cnts q hq]
    exact SMap.get?_upd_ne h.sc (fun e => hq (by rw [e]; exact hm)) 0#64 (fun x => x - 1#64)
  · rw [← h.only.tot q hq]
    exact SMap.get?_upd_ne h.st (fun e => hq (by rw [e]; exact hm)) 0 (fun x => x - 1)

theorem Sofar.newInt (h : Sofar s u aa oo cc) (hc : Area.ctl ∈ aa) (ho : Area.out ∈ aa) (v : Nat) : Sofar s (newInt v u) aa oo cc := by
  unfold Machine.newInt
  exact ite_holds (P := fun t => Sofar s t aa oo cc) (h.sendMsix hc ho v) h

theorem Sofar.intStays (h : Sofar s u aa oo cc) (hc : Area.ctl ∈ aa) (ho : Area.out ∈ aa) (hm : Cnt.off .CTL_INT_MERGE_CNT ∈ cc)
    (v : Nat) : Sofar s (intStays v u) aa oo cc := by
  unfold Machine.intStays
  split
  · exact ((h.uncount .CTL_INT_MERGE_CNT 0 0 hm).setCtl hc _).newInt hc ho v
  · exact h

end

/-! ### The clear of pending interrupts -/

/-- An interrupt of the running register clock is there. -/
def freshInt (s : State) (v : Nat) : Bool :=
  match SMap.get? s.ctl.intAt v with
  | some (c, _) => c == s.regClk + 1
  | none => false

theorem freshInt_eq (s : State) (v : Nat) : freshInt s v = !(SMap.get? s.ctl.intAt v).all (fun e => e.1 != s.regClk + 1) := by
  unfold freshInt
  rcases SMap.get? s.ctl.intAt v with - | ⟨c, m⟩
  · rfl
  · show (c == s.regClk + 1) = !(c != s.regClk + 1)
    rw [bne, Bool.not_not]

/-- The bits of a clear that stay. -/
def freshBits (i : Nat) (v : Word) (s : State) : List Nat := (List.range 32).filter fun j => v.getLsbD j && freshInt s (32 * i + j)

def staysAll (i : Nat) (v : Word) (s : State) : State := (freshBits i v s).foldl (fun s j => intStays (32 * i + j) s) s

theorem intClear_eq (i : Nat) (v : Word) (s : State) : intClear i v s = (staysAll i v s).setReg .CTL_INT_PEND
    ((staysAll i v s).reg .CTL_INT_PEND i
      &&& ~~~(v &&& ~~~(BitVec.ofNat 32 ((freshBits i v s).foldl (fun a j => a + 2 ^ j) 0)))) i := rfl

theorem intStays_regs (v : Nat) (s : State) : (intStays v s).regs = s.regs := by
  unfold intStays
  split
  · exact (regs_newInt v _).trans rfl
  · rfl

theorem staysAll_regs (i : Nat) (v : Word) (s : State) : (staysAll i v s).regs = s.regs :=
  foldl_holds (P := fun t : State => t.regs = s.regs) (fun _ _ hx => (intStays_regs _ _).trans hx) rfl

theorem freshBits_mask (i : Nat) (v : Word) (s : State) {j : Nat} (hj : j < 32) :
    (BitVec.ofNat 32 ((freshBits i v s).foldl (fun a j => a + 2 ^ j) 0)).getLsbD j = (v.getLsbD j && freshInt s (32 * i + j)) := by
  have mask : (freshBits i v s).foldl (fun a j => a + 2 ^ j) 0 = maskOf (fun j => v.getLsbD j && freshInt s (32 * i + j)) 32 := by
    unfold freshBits maskOf
    rw [List.foldl_filter]
  rw [mask, BitVec.getLsbD_ofNat, decide_eq_true hj, Bool.true_and, testBit_maskOf _ hj]

theorem intClear_clears {s : State} (h : s.Sound) (i : Nat) (v : Word) {j : Nat} (hj : j < 32) :
    ((intClear i v s).reg .CTL_INT_PEND i).getLsbD j = ((s.reg .CTL_INT_PEND i).getLsbD j
      && !(v.getLsbD j && (SMap.get? s.ctl.intAt (32 * i + j)).all (fun e => e.1 != s.regClk + 1))) := by
  have sorted : (staysAll i v s).regs.sorted = true := by rw [staysAll_regs]; exact h.regs
  rw [intClear_eq, reg_setReg sorted, reg_congr (staysAll_regs ..), BitVec.getLsbD_and, BitVec.getLsbD_not, BitVec.getLsbD_and,
    BitVec.getLsbD_not, freshBits_mask i v s hj, freshInt_eq, decide_eq_true hj]
  cases v.getLsbD j
  · rfl
  · cases (SMap.get? s.ctl.intAt (32 * i + j)).all fun e => e.1 != s.regClk + 1
    · rfl
    · rfl

/-! ### The kind policers -/

/-- A kind policer once it is refreshed. -/
def refreshed (s : State) (k : Nat) : IdlPol :=
  ⟨if s.flag .IDL_POL_CFG_EN k && !(idlPol s k).en then 1024 * max 1 (s.fld .IDL_POL_CFG_BURST k) * 65536
    else min ((idlPol s k).bucket + 8192 * s.fld .IDL_POL_CFG_RATE k) (1024 * max 1 (s.fld .IDL_POL_CFG_BURST k) * 65536),
    s.flag .IDL_POL_CFG_EN k, s.fld .IDL_POL_CFG_RATE k, max 1 (s.fld .IDL_POL_CFG_BURST k)⟩

theorem idlRefresh_eq (k : Nat) (s : State) : idlRefresh k s = setIdlPol k (refreshed s k) s := rfl

theorem setIdlPol_regs (k : Nat) (p : IdlPol) (s : State) : (setIdlPol k p s).regs = s.regs := rfl

theorem idlPol_setIdlPol {s : State} (h : s.Sound) (k : Nat) (p : IdlPol) : idlPol (setIdlPol k p s) k = p :=
  SMap.getD_put_self h.ctl.pols k _ p

theorem idlPol_setIdlPol_ne {s : State} (h : s.Sound) {j k : Nat} (ne : j ≠ k) (p : IdlPol) :
    idlPol (setIdlPol k p s) j = idlPol s j := SMap.getD_put_ne h.ctl.pols ne _ p _

/-- The first n kind policers are refreshed. -/
def refreshFirst (n : Nat) (s : State) : State := (List.range n).foldl (fun s k => idlRefresh k s) s

theorem refreshFirst_succ (n : Nat) (s : State) : refreshFirst (n + 1) s = idlRefresh n (refreshFirst n s) := by
  unfold refreshFirst
  rw [List.range_succ, List.foldl_append]
  rfl

theorem refreshFirst_shows {s : State} (h : s.Sound) (n : Nat) : (refreshFirst n s).Sound ∧ (refreshFirst n s).regs = s.regs
    ∧ (∀ k < n, idlPol (refreshFirst n s) k = refreshed s k) ∧ ∀ k, n ≤ k → idlPol (refreshFirst n s) k = idlPol s k := by
  induction n with
  | zero => exact ⟨h, rfl, fun k hk => absurd hk (Nat.not_lt_zero k), fun _ _ => rfl⟩
  | succ n ih =>
    obtain ⟨sound, regs, done, rest⟩ := ih
    have own : refreshed (refreshFirst n s) n = refreshed s n := by
      unfold refreshed
      rw [rest n le_rfl, flag_congr regs, fld_congr regs, fld_congr regs]
    rw [refreshFirst_succ, idlRefresh_eq, own]
    refine ⟨sound_setIdlPol _ _ _ sound, (setIdlPol_regs ..).trans regs, fun k hk => ?_, fun k hk => ?_⟩
    · rcases Nat.lt_succ_iff_lt_or_eq.mp hk with lt | rfl
      · rw [idlPol_setIdlPol_ne sound (Nat.ne_of_lt lt), done k lt]
      · exact idlPol_setIdlPol sound _ _
    · rw [idlPol_setIdlPol_ne sound (Nat.ne_of_gt hk), rest k (Nat.le_of_succ_le hk)]

theorem Sofar.refreshFirst {s u : State} {aa : List Area} {oo cc : List Nat} (h : Sofar s u aa oo cc) (hc : Area.ctl ∈ aa) (n : Nat) :
    Sofar s (refreshFirst n u) aa oo cc := by
  unfold Machine.refreshFirst
  exact foldl_holds (P := fun t => Sofar s t aa oo cc) (fun x k hx => hx.setCtl hc _) h

/-- The refresh of a core clock is noted. -/
def refreshNoted (s : State) : State := { s with ctl := { s.ctl with polAt := s.now + 1 } }

theorem idlRefreshAll_due {s : State} (due : idlDue s = true) : idlRefreshAll s = refreshFirst 5 (refreshNoted s) := if_pos due

theorem refreshNoted_leaves (s : State) : (refreshNoted s).regs = s.regs ∧ ∀ k, idlPol (refreshNoted s) k = idlPol s k :=
  ⟨rfl, fun _ => rfl⟩

end Sys2Proof.Machine
end

section
/-!
SUPPORT. Ring ownership, the PCIe link and errors of host memory (R278, R280, R287, R288), and the settlement of O46.
-/
namespace Sys2Proof.Machine

/-! ### Ring ownership -/

theorem ringOwner_there (s : State) (a : Agent) (v : Nat) : fusedOff s (write32 a .CTL_RING_OWNER v).off = false :=
  fusedOff_write32 (by decide +kernel) (i := 0) (by decide) (by decide) (by decide) s a v

theorem ringOwner_fits {kind : Nat} (hk : kind < 16) (a : Agent) (v : Nat) :
    AccFault.fits ⟨kind, (write32 a .CTL_RING_OWNER v).agent, (write32 a .CTL_RING_OWNER v).size,
      (write32 a .CTL_RING_OWNER v).ali, (write32 a .CTL_RING_OWNER v).off⟩ :=
  write32_fits hk a (by decide)

/-- The owner that a word asks for. -/
theorem ownerBit (v : Word) : (Fld.CTL_RING_OWNER_OWNER.get v % 2 != 0) = v.getLsbD 0 := by
  unfold Fld.get bits BitVec.getLsbD
  rw [Nat.testBit_zero, show Fld.CTL_RING_OWNER_OWNER.lo = 0 from rfl, show Fld.CTL_RING_OWNER_OWNER.hi = 0 from rfl, Nat.shiftRight_zero]
  have two : v.toNat % 2 = 0 ∨ v.toNat % 2 = 1 := Nat.mod_two_eq_zero_or_one _
  rcases two with e | e
  all_goals simp [e]

/-- An owner is taken while headless. -/
def ownerSet (v : Word) (s : State) : State := s.setFld .CTL_RING_OWNER_OWNER (Fld.CTL_RING_OWNER_OWNER.get v)

theorem ringOwner_headless {s : State} (a : Agent) (v : Word) (head : s.flag .SYS_PLANE_STATE_HEADLESS = true) :
    ringOwner (write32 a .CTL_RING_OWNER v.toNat) s = ownerSet v s := by
  unfold ringOwner
  rw [if_pos head, write32_val]
  rfl

theorem ringOwner_refused {s : State} (w : RegWrite) (head : s.flag .SYS_PLANE_STATE_HEADLESS = false) :
    ringOwner w s = logNear ⟨4, w.agent, w.size, w.ali, w.off⟩ s := if_neg (by rw [head]; exact Bool.false_ne_true)

theorem ownerSet_shows {s u : State} {a : Agent} (k : KeySpent s u a) (v : Word) : ownerExt (ownerSet v u) = v.getLsbD 0
    ∧ keyOf' (ownerSet v u) a = none ∧ s.Only (ownerSet v u) [.ctl] [Reg.off .CTL_RING_OWNER] [] := by
  refine ⟨(flag_setFld k.sound.regs (by decide) (by decide) _ 0 0).trans (ownerBit v), ?_, ?_⟩
  · rw [← k.closed, keyOf', keyOf', ownerSet, setFld_ctl]
  · exact k.only ((Sofar.start k.sound [.ctl] _ []).setFld .CTL_RING_OWNER_OWNER _ 0 0 List.mem_cons_self).only List.mem_cons_self

/-! ### The PCIe link -/

theorem pcieWord (w : Fin 9) (b : Bool) : Fld.CTL_PCIE_STATUS_LINK_UP.get (BitVec.ofNat 32 (w.val * 16 + b2n b * 8 + 1)) = 1
    ∧ Fld.CTL_PCIE_STATUS_BME.get (BitVec.ofNat 32 (w.val * 16 + b2n b * 8 + 1)) = b2n b
    ∧ Fld.CTL_PCIE_STATUS_WIDTH.get (BitVec.ofNat 32 (w.val * 16 + b2n b * 8 + 1)) = w.val := by
  revert w b
  decide

/-- The PCIe link has a state. -/
def pcieShown (w : Word) (s : State) : State := s.setReg .CTL_PCIE_STATUS w

theorem pcieShown_fld {s : State} (h : s.Sound) (w : Word) {f : Fld} (hf : f.reg = .CTL_PCIE_STATUS) :
    (pcieShown w s).fld f = f.get w := by
  rw [State.fld, hf, pcieShown, reg_setReg h.regs]

/-- The link is up, and vector 174 where it was down. -/
def pcieRaised (w : Word) (s : State) : State :=
  if s.flag .CTL_PCIE_STATUS_LINK_UP then pcieShown w s else raiseNear 174 (pcieShown w s)

theorem pcieRaised_fld {s : State} (h : s.Sound) (w : Word) {f : Fld} (hf : f.reg = .CTL_PCIE_STATUS) :
    (pcieRaised w s).fld f = f.get w := by
  have shown : (pcieShown w s).Sound := sound_State_setReg _ _ _ 0 0 h
  have k := kept_raiseNear (le_same _) 174 _ (.refl _ (pcieShown w s))
  unfold pcieRaised
  refine ite_holds (P := fun t : State => t.fld f = f.get w) (pcieShown_fld h w hf) ?_
  rw [k.fld shown (sound_raiseNear _ _ shown) (by rw [hf]; decide +kernel), pcieShown_fld h w hf]

theorem pcieRaised_frame {s : State} (h : s.Sound) (w : Word) : Sofar s (pcieRaised w s) [.ctl, .out]
    [Reg.off .CTL_PCIE_STATUS, Reg.off .CTL_INT_PEND 5] [Cnt.off .CTL_INT_MERGE_CNT] := by
  have shown : Sofar s (pcieShown w s) [.ctl, .out] [Reg.off .CTL_PCIE_STATUS, Reg.off .CTL_INT_PEND 5] [Cnt.off .CTL_INT_MERGE_CNT] :=
    (Sofar.start h _ _ _).setReg _ _ 0 0 List.mem_cons_self
  exact ite_holds (P := fun t => Sofar s t _ _ _) shown (shown.takeInt (by decide) (by decide) (v := 174)
    (List.mem_cons_of_mem _ List.mem_cons_self) List.mem_cons_self)

theorem exec_pcieLinkUp (w : Fin 9) (bme : Bool) (s : State) : exec (.pcieLinkUp w bme) s
    = .next (flushMsix (pcieRaised (BitVec.ofNat 32 (w.val * 16 + b2n bme * 8 + 1)) s)) := rfl

/-- The rings stop, and it is counted. -/
def ringsLost (s : State) : State := (stopAll (pcieShown 0#32 s)).count .CTL_PCIE_LINK_DOWN_CNT

theorem exec_pcieLinkDown {s : State} (up : s.flag .CTL_PCIE_STATUS_LINK_UP = true) : exec .pcieLinkDown s
    = .next (if ownerExt (pcieShown 0#32 s) then fault 0x13 0 0 0 (raiseNear 174 (ringsLost s))
      else raiseNear 174 (pcieShown 0#32 s)) := congrArg Host.Outcome.next (if_pos up)

theorem ownerExt_pcieShown {s : State} (h : s.Sound) (w : Word) : ownerExt (pcieShown w s) = ownerExt s :=
  flag_setReg_apart h.regs (r := .CTL_PCIE_STATUS) (g := .CTL_RING_OWNER_OWNER) (by decide) w 0 0 0 0

theorem fault_keepq (code arg w2 w3 : Nat) (s : State) :
    (fault code arg w2 w3 s).hlt.keepq = s.hlt.keepq ++ [⟨0, faultRec s code arg w2 w3, 0, 0, 0⟩] := rfl

theorem fault_rings (code arg w2 w3 : Nat) (s : State) : (fault code arg w2 w3 s).host.rings = s.host.rings := rfl

theorem ringOf_rings {s t : State} (e : t.host.rings = s.host.rings) (r : Nat) : ringOf t r = ringOf s r := by
  unfold ringOf
  rw [e]

/-- Rings that stop leave the records that wait, and what is not a ring of theirs. -/
theorem stopAll_leaves (s : State) : (stopAll s).host.recq = s.host.recq ∧ hostRest (stopAll s) = hostRest s
    ∧ (stopAll s).hlt = s.hlt ∧ (stopAll s).time = s.time ∧ (stopAll s).cnts = s.cnts := by
  unfold stopAll
  refine foldl_holds (P := fun t : State => t.host.recq = s.host.recq ∧ hostRest t = hostRest s ∧ t.hlt = s.hlt
    ∧ t.time = s.time ∧ t.cnts = s.cnts) ?_ ⟨rfl, rfl, rfl, rfl, rfl⟩
  rintro t r ⟨recq, rest, hlt, time, cnts⟩
  unfold stopIfOn
  split
  · have off : (ringOff r t).host = t.host := ringOff_host r t
    have offHlt : (ringOff r t).hlt = t.hlt := by rw [ringOff, setFld_hlt, setFld_hlt]
    have offTime : (ringOff r t).time = t.time := by rw [ringOff, setFld_time, setFld_time]
    have offCnts : (ringOff r t).cnts = t.cnts := by rw [ringOff, setFld_cnts, setFld_cnts]
    rw [hostRest_stopRing, stopRing_eq]
    exact ⟨(congrArg HostSt.recq off).trans recq, rest, offHlt.trans hlt, offTime.trans time, offCnts.trans cnts⟩
  · exact ⟨recq, rest, hlt, time, cnts⟩

theorem kept_stopAll (s : State) : ∃ T, Kept T s (stopAll s) ∧ freeR T .CTL_PCIE_STATUS = true :=
  ⟨_, foldl_holds (P := Kept _ s) (fun t r ht => ite_holds (P := Kept _ s) (kept_stopRing (le_same _) r t ht) ht) (.refl _ s),
    by decide +kernel⟩

theorem pcieShown_leaves (w : Word) (s : State) : (pcieShown w s).host = s.host ∧ (pcieShown w s).hlt = s.hlt
    ∧ (pcieShown w s).time = s.time ∧ (pcieShown w s).cnts = s.cnts ∧ (pcieShown w s).ts64 = s.ts64 :=
  ⟨setReg_host .., setReg_hlt .., setReg_time .., setReg_cnts .., rfl⟩

theorem pcieShown_rings {s : State} (h : s.Sound) (w : Word) (r : Nat) : headOf (pcieShown w s) r = headOf s r := by
  unfold headOf pcieShown
  rw [reg_setReg_apart h.regs (by decide)]

/-- What the loss of the link leaves of the rings. -/
theorem ringsLost_shows {s : State} (h : s.Sound) : (ringsLost s).Sound ∧ (ringsLost s).flag .CTL_PCIE_STATUS_LINK_UP = false
    ∧ (ringsLost s).cnt .CTL_PCIE_LINK_DOWN_CNT = s.cnt .CTL_PCIE_LINK_DOWN_CNT + 1#64
    ∧ (∀ r < 172, ringEn (ringsLost s) r = false ∧ headOf (ringsLost s) r = headOf s r ∧ (ringOf (ringsLost s) r).units = (ringOf s r).units)
    ∧ (ringsLost s).host.recq = s.host.recq ∧ hostRest (ringsLost s) = hostRest s ∧ (ringsLost s).hlt = s.hlt
    ∧ (ringsLost s).ts64 = s.ts64 := by
  have shown : (pcieShown 0#32 s).Sound := sound_State_setReg _ _ _ 0 0 h
  obtain ⟨stops, off⟩ := stopAll_stops shown
  obtain ⟨recq, rest, hlt, time, cnts⟩ := stopAll_leaves (pcieShown 0#32 s)
  obtain ⟨host, hlt0, time0, cnts0, -⟩ := pcieShown_leaves 0#32 s
  obtain ⟨T, k, free⟩ := kept_stopAll (pcieShown 0#32 s)
  have down : (pcieShown 0#32 s).flag .CTL_PCIE_STATUS_LINK_UP = false := by
    rw [State.flag, pcieShown_fld h 0#32 rfl]
    rfl
  refine ⟨sound_State_count _ _ 0 0 1 stops.sound, ?_, ?_, fun r hr => ⟨?_, ?_, ?_⟩, ?_, ?_, ?_, ?_⟩
  · rw [ringsLost, flag_congr (count_regs ..), k.flag shown stops.sound (f := .CTL_PCIE_STATUS_LINK_UP) free, down]
  · rw [ringsLost, cnt_count stops.sound.cnts, cnt_congr cnts, cnt_congr cnts0]
  · rw [ringsLost, ringEn_congr (count_regs ..), off r hr]
  · rw [← pcieShown_rings h 0#32, ← stops.head r, ringsLost, headOf, headOf, reg_congr (count_regs ..)]
  · rw [ringsLost, ringOf_congr (count_host ..), units_stopAll shown, ringOf_congr host]
  · rw [ringsLost, count_host, recq, host]
  · rw [ringsLost, hostRest_count, rest, hostRest_congr host]
  · rw [ringsLost, count_hlt, hlt, hlt0]
  · rw [ringsLost, State.ts64, count_time, time, time0, State.ts64]

/-! ### Errors of host memory -/

/-- A core's access out of the map meets a fault. -/
theorem memoryError_outside {s : State} {addr : Nat} (out : inDram addr 1 = false) (corrected core : Bool) :
    memoryError addr corrected core s
      = if core && !inRom addr 1 && !inAperture addr 1 then s.emit (.accessFault addr) else s :=
  if_pos (by rw [out]; rfl)

theorem memoryError_corrected {s : State} {addr : Nat} (dram : inDram addr 1 = true) (core : Bool) :
    memoryError addr true core s = hostMemError addr true s :=
  (if_neg (by rw [dram]; exact Bool.false_ne_true)).trans (if_pos rfl)

/-- A block of host memory is bad. -/
def struck (addr : Nat) (s : State) : State :=
  { s with host := { s.host with
    poison := if s.host.poison.contains (addr / 64) then s.host.poison else addr / 64 :: s.host.poison } }

theorem struck_leaves (addr : Nat) (s : State) : (struck addr s).cnts = s.cnts ∧ (struck addr s).host.mem = s.host.mem
    ∧ (struck addr s).host.poison = (if s.host.poison.contains (addr / 64) then s.host.poison else addr / 64 :: s.host.poison) :=
  ⟨rfl, rfl, rfl⟩

theorem struck_poison (addr : Nat) (s : State) : addr / 64 ∈ (struck addr s).host.poison := by
  rw [(struck_leaves addr s).2.2]
  split
  · next there => exact List.contains_iff_mem.mp there
  · exact List.mem_cons_self

theorem sound_struck {s : State} (h : s.Sound) (addr : Nat) : (struck addr s).Sound :=
  sound_withHost h ⟨h.host.rings, h.host.mem, h.host.ext, h.host.txLast⟩

theorem memoryError_core {s : State} {addr : Nat} (dram : inDram addr 1 = true) :
    memoryError addr false true s = (hostMemError addr false (struck addr s)).emit (.accessFault addr) :=
  (if_neg (by rw [dram]; exact Bool.false_ne_true)).trans ((if_neg Bool.false_ne_true).trans (if_pos rfl))

theorem memoryError_ring {s : State} {addr : Nat} (dram : inDram addr 1 = true) : memoryError addr false false s = struck addr s :=
  (if_neg (by rw [dram]; exact Bool.false_ne_true)).trans ((if_neg Bool.false_ne_true).trans (if_neg Bool.false_ne_true))

/-- What a report of a memory error leaves of its own count. -/
theorem memReport_cnt {s : State} (h : s.Sound) (u loc k inst : Nat) (uncorr : Bool) :
    (memReport u loc k inst uncorr s).cnt .CTL_DRAM_CORR_CNT = s.cnt .CTL_DRAM_CORR_CNT
    ∧ (memReport u loc k inst uncorr s).cnt .CTL_DRAM_UNCORR_CNT = s.cnt .CTL_DRAM_UNCORR_CNT := by
  have kept := kept_memReport (le_same _) u loc k inst uncorr s (.refl _ s)
  have sound := sound_memReport u loc k inst uncorr s h
  exact ⟨kept.cnt h sound (by decide +kernel) .., kept.cnt h sound (by decide +kernel) ..⟩

/-- A corrected error records nothing. -/
theorem memReport_host (u loc k inst : Nat) (s : State) : (memReport u loc k inst false s).host = s.host :=
  (of_fst (kept_winEvent (le_same _) k inst s (.refl _ s))).host (by decide)

theorem hostMemError_corrected {s : State} (h : s.Sound) (addr : Nat) :
    (hostMemError addr true s).cnt .CTL_DRAM_CORR_CNT = s.cnt .CTL_DRAM_CORR_CNT + 1#64 ∧ (hostMemError addr true s).host = s.host := by
  have run : hostMemError addr true s = memReport 8 addr 9 0 false (s.count .CTL_DRAM_CORR_CNT) := if_pos rfl
  rw [run, (memReport_cnt (sound_State_count s _ 0 0 1 h) ..).1, cnt_count h.cnts, memReport_host, count_host]
  exact ⟨rfl, rfl⟩

theorem hostMemError_uncorrected {s : State} (h : s.Sound) (addr : Nat) :
    (hostMemError addr false s).cnt .CTL_DRAM_UNCORR_CNT = s.cnt .CTL_DRAM_UNCORR_CNT + 1#64 := by
  have run : hostMemError addr false s = memReport 8 addr 10 0 true (s.count .CTL_DRAM_UNCORR_CNT) := if_neg Bool.false_ne_true
  rw [run, (memReport_cnt (sound_State_count s _ 0 0 1 h) ..).2, cnt_count h.cnts]

/-! ### The timer of a vector's moderation -/

/-- The interrupt of a ring is due. -/
def irqDue (s : State) (r e : Nat) : Bool :=
  s.flag .HOST_IRQ_CFG_EN r && s.fld .HOST_IRQ_CFG_USEC r != 0 && decide (e + s.fld .HOST_IRQ_CFG_USEC r * clkUs ≤ s.now)

theorem exec_irqModTimer {s : State} {r : Fin 172} {e : Nat} (waits : (ringOf s r).irqAt = some e) :
    exec (.irqModTimer r) s = .next (if irqDue s r e then ringRaise r s else s) := by
  show Host.Outcome.next _ = _
  rw [waits]
  rfl

/-- Settles O46: ring ownership by `ownerSet_shows`, the link by `ringsLost_shows` and `flushMsix_sends`, a clear by
`intClear_clears`, the policers by `refreshFirst_shows`, and memory errors by the equations of `memoryError`. -/
theorem hostLinkAndInterrupts : Obligations.HostLinkAndInterrupts := by
  unfold Obligations.HostLinkAndInterrupts
  refine ⟨fun s a v h hl => ⟨fun closed => ?_, fun passes head => ?_, fun passes head => ?_⟩, fun s h up => ⟨fun ext => ?_, fun own => ?_⟩,
    fun s w bme h => ?_, fun s v addr data masked h => ?_, fun s a i v h => ?_, fun s h => ⟨fun not => ?_, fun due => ?_⟩,
    fun s addr core h => ⟨fun dram => ⟨?_, ?_, ?_⟩, fun corrected out => ⟨fun on rom aperture => ?_, fun none => ?_⟩⟩,
    fun s r e h hl waits => ⟨fun en some late => ?_, fun not => ?_⟩⟩
  case refine_1 =>
    exact ⟨_, rfl, guarded_refuses h (w := write32 a .CTL_RING_OWNER v.toNat) hl closed (ringOwner_there s a v.toNat)
      (ringOwner_fits (by decide) a v.toNat) _⟩
  case refine_2 =>
    obtain ⟨u, k, run⟩ := guarded_spends h (w := write32 a .CTL_RING_OWNER v.toNat) passes (ringOwner (write32 a .CTL_RING_OWNER v.toNat))
    have refused := ringOwner_refused (write32 a .CTL_RING_OWNER v.toNat) ((k.flag .SYS_PLANE_STATE_HEADLESS 0 0).trans head)
    obtain ⟨⟨logged, frame⟩, key⟩ := k.refuses_near hl (ringOwner_fits (kind := 4) (by decide) a v.toNat)
    exact ⟨_, congrArg Host.Outcome.next (run.trans refused), logged, key, frame⟩
  case refine_3 =>
    obtain ⟨u, k, run⟩ := guarded_spends h (w := write32 a .CTL_RING_OWNER v.toNat) passes (ringOwner (write32 a .CTL_RING_OWNER v.toNat))
    have set := ringOwner_headless a v ((k.flag .SYS_PLANE_STATE_HEADLESS 0 0).trans head)
    exact ⟨_, congrArg Host.Outcome.next (run.trans set), ownerSet_shows k v⟩
  case refine_4 =>
    obtain ⟨sound, down, cnt, rings, recq, rest, hlt, ts⟩ := ringsLost_shows h
    have raised := sound_raiseNear 174 _ sound
    have k := kept_raiseNear (le_same _) 174 _ (.refl _ (ringsLost s))
    have host := k.host (by decide)
    have run := exec_pcieLinkDown up
    rw [if_pos ((ownerExt_pcieShown h 0#32).trans ext)] at run
    have whole : hostRest (fault 0x13 0 0 0 (raiseNear 174 (ringsLost s))) = hostRest s :=
      (hostRest_offer ..).trans ((hostRest_congr host).trans rest)
    refine ⟨_, run, ?_, ?_, (pends_congr (fault_regs ..) 174).mpr (pends_takeInt sound 174), fun r hr => ?_, ?_,
      (congrArg HostSt.mem whole :), (congrArg HostSt.ext whole :)⟩
    · rw [flag_congr (fault_regs ..), k.flag sound raised (by decide +kernel), down]
    · rw [cnt_congr (fault_cnts ..), k.cnt sound raised (by decide +kernel), cnt]
    · obtain ⟨off, head, units⟩ := rings r hr
      refine ⟨?_, ?_, ?_⟩
      · rw [ringEn_congr (fault_regs ..), ← off]
        exact k.flag sound raised (by decide +kernel) ..
      · rw [← head, headOf, headOf, reg_congr (fault_regs ..), k.reg sound raised (by decide +kernel)]
      · rw [ringOf_rings (fault_rings ..), ringOf_congr host, units]
    · have stamp : (raiseNear 174 (ringsLost s)).ts64 = s.ts64 := by
        rw [State.ts64, k.time (by decide), ← ts, State.ts64]
      refine ⟨faultRec (raiseNear 174 (ringsLost s)) 0x13 0 0 0, rfl, rfl, rfl, stamp, ?_, ?_⟩
      · rw [fault_recq, host, recq]
      · rw [fault_keepq, k.hlt (by decide), hlt]
  case refine_5 =>
    have shown : (pcieShown 0#32 s).Sound := sound_State_setReg _ _ _ 0 0 h
    have k := kept_raiseNear (le_same _) 174 _ (.refl _ (pcieShown 0#32 s))
    have run := exec_pcieLinkDown up
    rw [if_neg (by rw [ownerExt_pcieShown h, own]; exact Bool.false_ne_true)] at run
    refine ⟨_, run, ?_, pends_takeInt shown 174, ?_⟩
    · rw [State.flag, k.fld shown (sound_raiseNear _ _ shown) (by decide +kernel), pcieShown_fld h 0#32 rfl]
      rfl
    · exact (((Sofar.start h [.ctl, .out] [Reg.off .CTL_PCIE_STATUS, Reg.off .CTL_INT_PEND 5] [Cnt.off .CTL_INT_MERGE_CNT]).setReg
        .CTL_PCIE_STATUS 0#32 0 0 List.mem_cons_self).takeInt (by decide) (by decide) (v := 174)
        (List.mem_cons_of_mem _ List.mem_cons_self) List.mem_cons_self).only
  case refine_6 =>
    obtain ⟨linkBit, bmeBit, width⟩ := pcieWord w bme
    obtain ⟨regs, table, held, -⟩ := flushMsix_sends (pcieRaised (BitVec.ofNat 32 (w.val * 16 + b2n bme * 8 + 1)) s)
    have link : (pcieRaised (BitVec.ofNat 32 (w.val * 16 + b2n bme * 8 + 1)) s).flag .CTL_PCIE_STATUS_LINK_UP = true := by
      rw [State.flag, pcieRaised_fld h _ rfl, linkBit]
      rfl
    have master : (pcieRaised (BitVec.ofNat 32 (w.val * 16 + b2n bme * 8 + 1)) s).flag .CTL_PCIE_STATUS_BME = bme := by
      rw [State.flag, pcieRaised_fld h _ rfl, bmeBit]
      cases bme <;> rfl
    refine ⟨_, exec_pcieLinkUp w bme s, (flag_congr regs ..).trans link, (flag_congr regs ..).trans master, ?_, fun on v hv => ?_,
      ((pcieRaised_frame h _).flushMsix (by decide) (by decide)).only⟩
    · rw [fld_congr regs, pcieRaised_fld h _ rfl, width]
    · have stays := held v hv
      rw [mayGo, link, master.trans on] at stays
      rw [table]
      simpa using stays
  case refine_7 =>
    obtain ⟨u, hu⟩ : ∃ u : State, u = { s with ctl := { s.ctl with msix := SMap.put s.ctl.msix v.toNat {} ⟨addr, data, masked⟩ } } := ⟨_, rfl⟩
    have run : exec (.msixEntryUnmask ⟨v, addr, data, masked⟩) s = .next (flushMsix u) := by rw [hu]; rfl
    have entry : SMap.getD u.ctl.msix v.toNat {} = ⟨addr, data, masked⟩ := by
      rw [hu]
      exact SMap.getD_put_self h.ctl.msix v.toNat _ _
    have frame : Sofar s u [.ctl, .out] [] [] := by
      rw [hu]
      exact (Sofar.start h _ _ _).setCtl (by decide) _
    have regs : u.regs = s.regs := by rw [hu]
    have waiting : u.ctl.msixHeld = s.ctl.msixHeld := by rw [hu]
    obtain ⟨-, table, held, sent⟩ := flushMsix_sends u
    refine ⟨_, run, by rw [table, entry], fun clear link master waits => ?_, (frame.flushMsix (by decide) (by decide)).only⟩
    have may : mayGo u v.toNat = true := by
      rw [mayGo, entry, flag_congr regs, flag_congr regs, link, master, clear]
      rfl
    have message : msixOf u v.toNat = .msix v.toNat addr data := by rw [msixOf, entry]
    rw [← message]
    refine ⟨sent _ (by rw [waiting]; exact waits) may, fun still => ?_⟩
    have off := held _ still
    rw [may] at off
    cases off
  case refine_8 =>
    refine ⟨_, rfl, fun j hj => intClear_clears h i.val v hj, ?_⟩
    have frame : Sofar s (staysAll i.val v s) [.ctl, .out] [Reg.off .CTL_INT_PEND i.val] [Cnt.off .CTL_INT_MERGE_CNT] :=
      foldl_holds (P := fun t => Sofar s t _ _ _) (fun x j hx => hx.intStays (by decide) (by decide) List.mem_cons_self _)
        (Sofar.start h _ _ _)
    exact (frame.setReg .CTL_INT_PEND _ i.val 0 List.mem_cons_self).only
  case refine_9 =>
    exact congrArg Host.Outcome.next (if_neg (by rw [not]; exact Bool.false_ne_true))
  case refine_10 =>
    have noted : (refreshNoted s).Sound := sound_withCtl h (CtlSt.sound_mk h.ctl.msix h.ctl.intAt h.ctl.vcs h.ctl.arbs h.ctl.pols h.ctl.accounts)
    obtain ⟨-, regs, done, -⟩ := refreshFirst_shows noted 5
    obtain ⟨regs0, pols0⟩ := refreshNoted_leaves s
    have began : Sofar s (refreshNoted s) [.ctl] [] [] := (Sofar.start h _ _ _).setCtl List.mem_cons_self _
    refine ⟨_, congrArg Host.Outcome.next (idlRefreshAll_due due), (began.refreshFirst List.mem_cons_self 5).only, fun k hk => ?_⟩
    rw [done k hk, refreshed, pols0, flag_congr regs0, fld_congr regs0, fld_congr regs0]
    refine ⟨rfl, ?_⟩
    cases s.flag .IDL_POL_CFG_EN k
    · rfl
    · cases (idlPol s k).en <;> rfl
  case refine_11 =>
    exact ⟨_, congrArg Host.Outcome.next (memoryError_corrected dram core), hostMemError_corrected h addr⟩
  case refine_12 =>
    have hit := sound_struck h addr
    obtain ⟨cnts, mem, -⟩ := struck_leaves addr s
    have rest : hostRest ((hostMemError addr false (struck addr s)).emit (.accessFault addr)) = hostRest (struck addr s) :=
      (hostRest_congr (emit_host ..)).trans (hostRest_hostMemError addr false _)
    refine ⟨_, congrArg Host.Outcome.next (memoryError_core dram), ?_, ?_, (congrArg HostSt.mem rest :).trans mem, List.mem_cons_self⟩
    · rw [cnt_congr (emit_cnts ..), hostMemError_uncorrected hit, cnt_congr cnts]
    · have poison : ((hostMemError addr false (struck addr s)).emit (.accessFault addr)).host.poison = (struck addr s).host.poison :=
        (congrArg HostSt.poison rest :)
      rw [poison]
      exact struck_poison addr s
  case refine_13 =>
    refine ⟨_, congrArg Host.Outcome.next (memoryError_ring dram), struck_poison addr s, (struck_leaves addr s).2.1, ?_⟩
    exact ((Sofar.start h [.host] [] []).setHost List.mem_cons_self _).only
  case refine_14 =>
    have run := memoryError_outside (s := s) out corrected core
    rw [if_pos (by rw [on, rom, aperture]; rfl)] at run
    exact ⟨_, congrArg Host.Outcome.next run, rfl, ((Sofar.start h [.out] [] []).emit List.mem_cons_self _).only⟩
  case refine_15 =>
    refine congrArg Host.Outcome.next ((memoryError_outside out corrected core).trans (if_neg ?_))
    rcases none with e | e | e
    all_goals rw [e]; simp
  case refine_16 =>
    have due : irqDue s r e = true := by
      have there : e + s.fld .HOST_IRQ_CFG_USEC r * clkUs ≤ s.now := late
      rw [irqDue, en, bne_iff_ne.mpr some, decide_eq_true there]
      rfl
    have spent : (setRing r { ringOf s r with irqN := 0, irqAt := none } s).Sound := sound_setRing _ _ _ h
    have run := exec_irqModTimer waits
    have raise : ringRaise r s = raiseVec r (setRing r { ringOf s r with irqN := 0, irqAt := none } s) := if_pos en
    rw [if_pos due, raise] at run
    have ring := ringOf_setRing h r { ringOf s r with irqN := 0, irqAt := none }
    refine ⟨_, run, pends_raiseVec spent hl _, ?_, ?_⟩
    all_goals rw [ringOf_congr (host_raiseVec ..), ring]
  case refine_17 =>
    refine (exec_irqModTimer waits).trans (congrArg Host.Outcome.next (if_neg fun due => ?_))
    rw [irqDue, Bool.and_eq_true, Bool.and_eq_true, bne_iff_ne, decide_eq_true_eq] at due
    obtain ⟨⟨en, some⟩, late⟩ := due
    rcases not with e' | e' | e'
    · rw [e'] at en; cases en
    · exact some e'
    · exact absurd late (Nat.not_le.mpr e')

end Sys2Proof.Machine
end

section
/-!
SUPPORT. The stores before a doorbell, the doorbell itself and its refusals (R302, R303, R310), and the settlement of O47.
-/
namespace Sys2Proof.Machine

/-! ### The stores -/

theorem rings_hostMemError (addr : Nat) (corrected : Bool) (s : State) :
    (hostMemError addr corrected s).host.rings = s.host.rings := by
  have report (u loc k inst : Nat) (uncorr : Bool) (v : State) : (memReport u loc k inst uncorr v).host.rings = v.host.rings := by
    have event : (winEvent k inst v).1.host = v.host := (of_fst (kept_winEvent (le_same _) k inst v (.refl _ _))).host (by decide)
    have noted : (memRecord u loc k inst (winEvent k inst v).1).host.rings = v.host.rings :=
      ite_holds (P := fun t : State => t.host.rings = v.host.rings) (congrArg HostSt.rings event)
        ((fault_rings ..).trans (congrArg HostSt.rings event))
    exact ite_holds (P := fun t : State => t.host.rings = v.host.rings)
      ((congrArg HostSt.rings ((kept_excuse (le_same _) u _ (.refl _ _)).host (by decide))).trans noted) (congrArg HostSt.rings event)
  unfold hostMemError
  exact ite_holds (P := fun t : State => t.host.rings = s.host.rings) ((report ..).trans (congrArg HostSt.rings (count_host ..)))
    ((report ..).trans (congrArg HostSt.rings (count_host ..)))

theorem rings_errors (l : List Nat) (s : State) :
    (l.foldl (fun s b => hostMemError (64 * b) false s) s).host.rings = s.host.rings := by
  induction l generalizing s with
  | nil => rfl
  | cons b l ih => rw [List.foldl_cons, ih, rings_hostMemError]

theorem rings_memWrite (x : Nat) (l : List Byte) (s : State) : (memWrite x l s).2.host.rings = s.host.rings :=
  rings_errors _ _

theorem rings_softStore (a : Agent) (x : Nat) (l : List Byte) (s : State) : (softStore a x l s).host.rings = s.host.rings := by
  have written := rings_memWrite x l s
  unfold softStore coreStore
  refine ite_holds (P := fun t : State => t.host.rings = s.host.rings) rfl
    (ite_holds (P := fun t : State => t.host.rings = s.host.rings) rfl
      (ite_holds (P := fun t : State => t.host.rings = s.host.rings) rfl ?_))
  generalize memWrite x l s = w at written ⊢
  obtain ⟨ok, t⟩ := w
  exact ite_holds (P := fun t : State => t.host.rings = s.host.rings) written written

/-- What software's stores and the message of a doorbell may write. -/
def storeTouch : Touch :=
  ⟨7424, 0x680000000000000000000000000000000000000000000, 0x30500000000000000000000000000000000000000000000000⟩

/-- Software has stored its entries. -/
structure StoresMade (s u : State) : Prop where
  sound : u.Sound
  kept : Kept storeTouch s u
  rings : u.host.rings = s.host.rings

theorem StoresMade.refl {s : State} (h : s.Sound) : StoresMade s s := ⟨h, .refl _ s, rfl⟩

theorem StoresMade.store {s u : State} (k : StoresMade s u) (a : Agent) (x : Nat) (l : List Byte) : StoresMade s (softStore a x l u) :=
  ⟨sound_softStore _ _ _ _ k.sound, kept_softStore (by decide) a x l u k.kept, (rings_softStore a x l u).trans k.rings⟩

theorem StoresMade.all {s u : State} (k : StoresMade s u) (a : Agent) (l : List (Nat × List Byte)) :
    StoresMade s (l.foldl (fun s e => softStore a e.1 e.2 s) u) :=
  foldl_holds (P := StoresMade s) (fun _ e hx => hx.store a e.1 e.2) k

theorem StoresMade.send {s u : State} (k : StoresMade s u) (v d n room : Nat) : StoresMade s (idlSend v d n room u) := by
  have sent := (Sends.refl k.sound).send v d n room
  exact ⟨sent.sound, kept_idlSend (by decide) v d n room u k.kept, by rw [sent.host, k.rings]⟩

section
variable {s u : State} (h : s.Sound) (k : StoresMade s u)
include h k

theorem StoresMade.linked (hl : linked s) : linked u := (k.kept.flag h k.sound (f := .SYS_PLANE_STATE_IDL_UP) (by decide +kernel) 0 0).trans hl

theorem StoresMade.headless : u.flag .SYS_PLANE_STATE_HEADLESS = s.flag .SYS_PLANE_STATE_HEADLESS :=
  k.kept.flag h k.sound (by decide +kernel) 0 0

theorem StoresMade.ringEn (r : Nat) : ringEn u r = ringEn s r := k.kept.flag h k.sound (by decide +kernel) r 0

theorem StoresMade.headOf (r : Nat) : headOf u r = headOf s r := congrArg BitVec.toNat (k.kept.reg h k.sound (by decide +kernel) r 0)

theorem StoresMade.tailOf (r : Nat) : tailOf u r = tailOf s r := congrArg BitVec.toNat (k.kept.reg h k.sound (by decide +kernel) r 0)

theorem StoresMade.ringSize (r : Nat) : ringSize u r = ringSize s r := congrArg (2 ^ ·) (k.kept.fld h k.sound (by decide +kernel) r 0)

theorem StoresMade.cplHead (r : Nat) : u.reg .HOST_CPL_HEAD r = s.reg .HOST_CPL_HEAD r := k.kept.reg h k.sound (by decide +kernel) r 0

theorem StoresMade.cplTail (r : Nat) : u.reg .HOST_CPL_TAIL r = s.reg .HOST_CPL_TAIL r := k.kept.reg h k.sound (by decide +kernel) r 0

theorem StoresMade.irqEn (r : Nat) : u.flag .HOST_IRQ_CFG_EN r = s.flag .HOST_IRQ_CFG_EN r := k.kept.flag h k.sound (by decide +kernel) r 0

theorem StoresMade.pend (i : Nat) : u.reg .CTL_INT_PEND i = s.reg .CTL_INT_PEND i := k.kept.reg h k.sound (by decide +kernel) i 0

theorem StoresMade.refuses (r : Nat) : u.cnt .HOST_DB_REFUSE_CNT r = s.cnt .HOST_DB_REFUSE_CNT r := k.kept.cnt h k.sound (by decide +kernel) r 0

omit h in
theorem StoresMade.now : u.now = s.now := k.kept.now (by decide)

theorem StoresMade.freeHead (r : Nat) : freeHead u r = freeHead s r := by
  unfold Machine.freeHead
  rw [ringOf_rings k.rings, k.now, k.cplHead h, k.headOf h]

/-- A refusal that follows the stores is logged as one before them. -/
theorem StoresMade.logged {t : State} {kind : Nat} {a : Agent} {size ali off : Nat} (l : faultLogged u t kind a size ali off) :
    faultLogged s t kind a size ali off := by
  have cnt : u.cnt .SYS_ACCESS_FAULT_CNT = s.cnt .SYS_ACCESS_FAULT_CNT := k.kept.cnt h k.sound (by decide +kernel) ..
  have valid : u.flag .SYS_ACCESS_FAULT_VALID = s.flag .SYS_ACCESS_FAULT_VALID := k.kept.flag h k.sound (by decide +kernel) ..
  have word : u.reg .SYS_ACCESS_FAULT = s.reg .SYS_ACCESS_FAULT := k.kept.reg h k.sound (by decide +kernel) ..
  have addr : u.reg .SYS_ACCESS_FAULT_ADDR = s.reg .SYS_ACCESS_FAULT_ADDR := k.kept.reg h k.sound (by decide +kernel) ..
  have clock : faultInClock u = faultInClock s := by
    unfold faultInClock State.regClk
    rw [k.kept.sys (by decide), k.now]
  refine ⟨by rw [l.counts, cnt], fun clear none => l.first (valid.trans clear) (clock.trans none), fun set other => ?_, fun g shown now open' =>
    l.tie g shown (clock.trans now) (by rw [valid]; exact open')⟩
  rw [← word, ← addr]
  exact l.later (valid.trans set) fun g => by rw [clock]; exact other g

/-- A doorbell that is refused after the stores. -/
theorem StoresMade.doorbellRefused {t : State} {consumer : Bool} {r code value : Nat} (x : doorbellRefused u t consumer r code value) :
    doorbellRefused s t consumer r code value := by
  obtain ⟨head, tail, cpl⟩ := x.indices
  refine ⟨by rw [x.counts, k.refuses h], x.err, x.stopped, ⟨by rw [head, k.headOf h], by rw [tail, k.tailOf h], by rw [cpl, k.cplHead h]⟩,
    x.noted, fun en on => x.vector ((k.irqEn h r).trans en) (by rw [k.ringEn h]; exact on), fun off c i => ?_⟩
  rw [x.silent ((k.ringEn h r).trans off) c i, k.pend h]

end

/-! ### A ring stops with an error -/

/-- A ring shows an error. -/
def errShown (r code : Nat) (s : State) : State := (s.setFld .HOST_RING_STATUS_ERR 1 r).setFld .HOST_RING_STATUS_ERR_CODE code r

theorem sound_errShown {s : State} (h : s.Sound) (r code : Nat) : (errShown r code s).Sound :=
  sound_State_setFld _ _ _ _ _ (sound_State_setFld _ _ _ _ _ h)

theorem errShown_shows {s : State} (h : s.Sound) (r : Nat) {code : Nat} (hc : code < 16) :
    (errShown r code s).flag .HOST_RING_STATUS_ERR r = true ∧ (errShown r code s).fld .HOST_RING_STATUS_ERR_CODE r = code
    ∧ ∀ q : Reg, regApart q .HOST_RING_STATUS = true → ∀ i, (errShown r code s).reg q i = s.reg q i := by
  have marked := sorted_setFld h.regs .HOST_RING_STATUS_ERR 1 r 0
  unfold errShown
  refine ⟨?_, ?_, fun q apart i => ?_⟩
  · rw [flag_setFld_beside (f := .HOST_RING_STATUS_ERR_CODE) (g := .HOST_RING_STATUS_ERR) marked (by decide),
      flag_setFld h.regs (by decide) (by decide)]
    rfl
  · rw [fld_setFld marked (by decide) (by decide)]
    exact Nat.mod_eq_of_lt hc
  · rw [reg_setFld_apart (f := .HOST_RING_STATUS_ERR_CODE) marked apart, reg_setFld_apart (f := .HOST_RING_STATUS_ERR) h.regs apart]

/-- The record of a ring's error. -/
def errNoted (r code value : Nat) (s : State) : State := fault 0x12 r code value (errShown r code s)

theorem errNoted_regs (r code value : Nat) (s : State) : (errNoted r code value s).regs = (errShown r code s).regs := fault_regs ..

theorem errNoted_cnts (r code value : Nat) (s : State) : (errNoted r code value s).cnts = s.cnts := by
  rw [errNoted, fault_cnts, errShown, setFld_cnts, setFld_cnts]

theorem sound_errNoted {s : State} (h : s.Sound) (r code value : Nat) : (errNoted r code value s).Sound :=
  sound_fault _ _ _ _ _ (sound_errShown h r code)

theorem errNoted_recq {r code value : Nat} (hr : r < 65536) (hc : code < 2 ^ 64) (hv : value < 2 ^ 64) (s : State) :
    ∃ n : NRec, n.kind = .fault ∧ n.sub = 0x12 ∧ n.arg = r ∧ n.w2 = code ∧ n.w3 = value
      ∧ .notes [n] ∈ (errNoted r code value s).host.recq := by
  refine ⟨faultRec (errShown r code s) 0x12 r code value, rfl, rfl, Nat.mod_eq_of_lt hr, Nat.mod_eq_of_lt hc, Nat.mod_eq_of_lt hv, ?_⟩
  rw [errNoted, fault_recq]
  exact List.mem_append_right _ List.mem_cons_self

theorem stopErr_eq (r code value : Nat) (s : State) : stopErr r code value s = ringRaise r (errNoted r code value (stopRing r s)) := rfl

theorem refuseDb_running {consumer : Bool} {r code value : Nat} {s : State} (en : ringEn s r = true) :
    refuseDb consumer r code value s = ringRaise r (errNoted r code value (stopRing r (s.count .HOST_DB_REFUSE_CNT r))) := if_pos en

theorem refuseDb_still {consumer : Bool} {r code value : Nat} {s : State} (off : ringEn s r = false) :
    refuseDb consumer r code value s = if consumer then errNoted r code value (s.count .HOST_DB_REFUSE_CNT r)
      else ringRaise r (errNoted r code value (s.count .HOST_DB_REFUSE_CNT r)) :=
  if_neg (by rw [show ringEn (s.count .HOST_DB_REFUSE_CNT r) r = false from off]; exact Bool.false_ne_true)

/-- What stands before the ring shows its refusal: it is counted, and the ring does not run. -/
structure DbCounted (s w : State) (r : Nat) : Prop where
  sound : w.Sound
  link : linked s → linked w
  counts : w.cnt .HOST_DB_REFUSE_CNT r = s.cnt .HOST_DB_REFUSE_CNT r + 1#64
  off : ringEn w r = false
  indices : headOf w r = headOf s r ∧ tailOf w r = tailOf s r ∧ w.reg .HOST_CPL_HEAD r = s.reg .HOST_CPL_HEAD r
  irqEn : w.flag .HOST_IRQ_CFG_EN r = s.flag .HOST_IRQ_CFG_EN r
  pend : ∀ i, w.reg .CTL_INT_PEND i = s.reg .CTL_INT_PEND i

theorem dbCounted_still {s : State} (h : s.Sound) {r : Nat} (off : ringEn s r = false) :
    DbCounted s (s.count .HOST_DB_REFUSE_CNT r) r :=
  ⟨sound_State_count _ _ _ _ _ h, id, cnt_count h.cnts .HOST_DB_REFUSE_CNT r 0 1, off, ⟨rfl, rfl, rfl⟩, rfl, fun _ => rfl⟩

theorem dbCounted_running {s : State} (h : s.Sound) {r : Nat} (hr : r < 172) :
    DbCounted s (stopRing r (s.count .HOST_DB_REFUSE_CNT r)) r := by
  have counted : (s.count .HOST_DB_REFUSE_CNT r).Sound := sound_State_count _ _ _ _ _ h
  have stopped := sound_stopRing r _ counted
  have k := kept_stopRing (le_same _) r (s.count .HOST_DB_REFUSE_CNT r) (.refl _ _)
  exact ⟨stopped, fun hl => (k.flag counted stopped (f := .SYS_PLANE_STATE_IDL_UP) (by decide +kernel) 0 0).trans hl,
    (k.cnt counted stopped (by decide +kernel) r 0).trans (cnt_count h.cnts .HOST_DB_REFUSE_CNT r 0 1), ringEn_stopRing counted hr,
    ⟨congrArg BitVec.toNat (k.reg counted stopped (by decide +kernel) r 0), congrArg BitVec.toNat (k.reg counted stopped (by decide +kernel) r 0),
      k.reg counted stopped (by decide +kernel) r 0⟩,
    k.flag counted stopped (by decide +kernel) r 0, fun i => k.reg counted stopped (by decide +kernel) i 0⟩

/-- A doorbell's refusal as its ring shows it, without its vector. -/
structure DbShown (s t : State) (r code value : Nat) : Prop where
  sound : t.Sound
  counts : t.cnt .HOST_DB_REFUSE_CNT r = s.cnt .HOST_DB_REFUSE_CNT r + 1#64
  err : t.flag .HOST_RING_STATUS_ERR r = true ∧ t.fld .HOST_RING_STATUS_ERR_CODE r = code
  stopped : ringEn t r = false
  indices : headOf t r = headOf s r ∧ tailOf t r = tailOf s r ∧ t.reg .HOST_CPL_HEAD r = s.reg .HOST_CPL_HEAD r
  noted : ∃ n : NRec, n.kind = .fault ∧ n.sub = 0x12 ∧ n.arg = r ∧ n.w2 = code ∧ n.w3 = value ∧ .notes [n] ∈ t.host.recq

section
variable {s w : State} {r code value : Nat}

theorem errNoted_reg (h : w.Sound) (hc : code < 16) {q : Reg} (apart : regApart q .HOST_RING_STATUS = true) (i : Nat) :
    (errNoted r code value w).reg q i = w.reg q i :=
  (reg_congr (errNoted_regs ..) ..).trans ((errShown_shows h r hc).2.2 q apart i)

theorem errNoted_flag (h : w.Sound) (hc : code < 16) {f : Fld} (apart : regApart f.reg .HOST_RING_STATUS = true) (i : Nat) :
    (errNoted r code value w).flag f i = w.flag f i := by
  unfold State.flag State.fld
  rw [errNoted_reg h hc apart]

theorem DbCounted.shown (k : DbCounted s w r) (hr : r < 172) (hc : code < 16) (hv : value < 2 ^ 64) :
    DbShown s (errNoted r code value w) r code value := by
  obtain ⟨err, errCode, -⟩ := errShown_shows k.sound r hc
  obtain ⟨head, tail, cpl⟩ := k.indices
  exact ⟨sound_errNoted k.sound .., (cnt_congr (errNoted_cnts ..) ..).trans k.counts,
    ⟨(flag_congr (errNoted_regs ..) ..).trans err, (fld_congr (errNoted_regs ..) ..).trans errCode⟩,
    (errNoted_flag k.sound hc (by decide) r).trans k.off,
    ⟨(congrArg BitVec.toNat (errNoted_reg k.sound hc (by decide) r)).trans head,
      (congrArg BitVec.toNat (errNoted_reg k.sound hc (by decide) r)).trans tail, (errNoted_reg k.sound hc (by decide) r).trans cpl⟩,
    errNoted_recq (Nat.lt_trans hr (by decide)) (Nat.lt_trans hc (by decide)) hv w⟩

theorem recq_ringRaise (r : Nat) (s : State) : (ringRaise r s).host.recq = s.host.recq := by
  unfold ringRaise
  exact ite_holds (P := fun t : State => t.host.recq = s.host.recq) (congrArg HostSt.recq (host_raiseVec ..) :) rfl

theorem DbShown.raise {t : State} (d : DbShown s t r code value) : DbShown s (ringRaise r t) r code value := by
  have raised := sound_ringRaise r t d.sound
  have k := kept_ringRaise (le_same _) r t (.refl _ t)
  obtain ⟨err, errCode⟩ := d.err
  obtain ⟨head, tail, cpl⟩ := d.indices
  exact ⟨raised, (k.cnt d.sound raised (by decide +kernel) r 0).trans d.counts,
    ⟨(k.flag d.sound raised (by decide +kernel) r 0).trans err, (k.fld d.sound raised (by decide +kernel) r 0).trans errCode⟩,
    (k.flag d.sound raised (by decide +kernel) r 0).trans d.stopped,
    ⟨(congrArg BitVec.toNat (k.reg d.sound raised (by decide +kernel) r 0)).trans head,
      (congrArg BitVec.toNat (k.reg d.sound raised (by decide +kernel) r 0)).trans tail, (k.reg d.sound raised (by decide +kernel) r 0).trans cpl⟩,
    by rw [recq_ringRaise]; exact d.noted⟩

theorem pends_ringRaise {t : State} (h : t.Sound) (hl : linked t) (en : t.flag .HOST_IRQ_CFG_EN r = true) : pends (ringRaise r t) r := by
  rw [ringRaise, if_pos en]
  exact pends_raiseVec (sound_setRing _ _ _ h) hl r

theorem DbCounted.raised (k : DbCounted s w r) (hl : linked s) (hr : r < 172) (hc : code < 16) (hv : value < 2 ^ 64) {consumer : Bool}
    (raises : ringEn s r = true ∨ consumer = false) : doorbellRefused s (ringRaise r (errNoted r code value w)) consumer r code value := by
  obtain ⟨-, counts, err, stopped, indices, noted⟩ := (k.shown hr hc hv).raise
  refine ⟨counts, err, stopped, indices, noted, fun en _ => ?_, fun off c => ?_⟩
  · exact pends_ringRaise (sound_errNoted k.sound ..) ((errNoted_flag k.sound hc (by decide) 0).trans (k.link hl))
      ((errNoted_flag k.sound hc (by decide) r).trans (k.irqEn.trans en))
  · rcases raises with on | p
    · rw [off] at on; cases on
    · rw [c] at p; cases p

theorem DbCounted.silent (k : DbCounted s w r) (off : ringEn s r = false) (hr : r < 172) (hc : code < 16) (hv : value < 2 ^ 64) :
    doorbellRefused s (errNoted r code value w) true r code value := by
  obtain ⟨-, counts, err, stopped, indices, noted⟩ := k.shown hr hc hv
  refine ⟨counts, err, stopped, indices, noted, fun _ raises => ?_, fun _ _ i => (errNoted_reg k.sound hc (by decide) i).trans (k.pend i)⟩
  rw [off] at raises
  rcases raises with p | p <;> cases p

end

/-- R303: what a refused doorbell leaves. -/
theorem refuseDb_refuses {s : State} (h : s.Sound) (hl : linked s) (consumer : Bool) {r code value : Nat} (hr : r < 172) (hc : code < 16)
    (hv : value < 2 ^ 64) : doorbellRefused s (refuseDb consumer r code value s) consumer r code value := by
  cases en : ringEn s r with
  | true =>
    rw [refuseDb_running en]
    exact (dbCounted_running h hr).raised hl hr hc hv (.inl en)
  | false =>
    rw [refuseDb_still en]
    cases consumer with
    | true => rw [if_pos rfl]; exact (dbCounted_still h en).silent en hr hc hv
    | false => rw [if_neg Bool.false_ne_true]; exact (dbCounted_still h en).raised hl hr hc hv (.inr rfl)

theorem hostRest_refuseDb (consumer : Bool) (r code value : Nat) (s : State) : hostRest (refuseDb consumer r code value s) = hostRest s := by
  have noted (w : State) : hostRest (errNoted r code value w) = hostRest w := by
    rw [errNoted, fault, hostRest_offer, errShown, hostRest_setFld, hostRest_setFld]
  cases en : ringEn s r with
  | true => rw [refuseDb_running en, hostRest_ringRaise, noted, hostRest_stopRing, hostRest_count]
  | false =>
    rw [refuseDb_still en]
    exact hostRest_ite ((noted _).trans (hostRest_count ..)) ((hostRest_ringRaise ..).trans ((noted _).trans (hostRest_count ..)))

theorem hostRest_logWrite (kind : Nat) (rw : RegWrite) (s : State) : hostRest (logWrite kind rw s) = hostRest s :=
  hostRest_congr ((kept_logWrite (le_same _) kind rw s (.refl _ s)).host (by decide))

theorem hostRest_doorbell (a : Agent) (r v : Nat) (s : State) : hostRest (doorbell a r v s) = hostRest s :=
  hostRest_ite
    (hostRest_ite (hostRest_logWrite ..) (hostRest_ite (hostRest_refuseDb ..) (hostRest_ite (hostRest_refuseDb ..)
      (hostRest_ite (hostRest_refuseDb ..) (hostRest_setReg ..)))))
    (hostRest_ite (hostRest_refuseDb ..) (hostRest_ite ((hostRest_setReg ..).trans (hostRest_setRing ..)) (hostRest_refuseDb ..)))

end Sys2Proof.Machine
end

section
/-!
SUPPORT. The settlement of O47 from the stores, the refusals and the accepted doorbells.
-/
namespace Sys2Proof.Machine

/-! ### The way of a doorbell -/

/-- The state that a doorbell meets: software's stores are made, and its message is under way. -/
def rung (a : Agent) (l : List (Nat × List Byte)) (s : State) : State :=
  idlSend 0 0 1 0 (l.foldl (fun s e => softStore a e.1 e.2 s) s)

theorem storesMade_rung {s : State} (h : s.Sound) (a : Agent) (l : List (Nat × List Byte)) : StoresMade s (rung a l s) :=
  ((StoresMade.refl h).all a l).send ..

theorem unfused_hostDb (r : Fin 172) : fusedIdx .HOST_DB r 0 = false := by revert r; decide +kernel

theorem hostDb_low (r : Fin 172) : Reg.off .HOST_DB r 0 < 2 ^ 28 := by revert r; decide +kernel

theorem unfused_hostCplDb (r : Fin 160) : fusedIdx .HOST_CPL_DB r 0 = false := by revert r; decide +kernel

theorem exec_doorbell_linked {s : State} (h : s.Sound) (hl : linked s) (a : Agent) (r : Fin 172) (v : Word) (l : List (Nat × List Byte)) :
    exec (.doorbell a r v l) s = .next (doorbell a r v.toNat (rung a l s)) :=
  congrArg Host.Outcome.next (far_linked (((StoresMade.refl h).all a l).linked h hl)
    (fusedOff_write32 (by decide +kernel) (i := r) r.isLt (by decide) (unfused_hostDb r) _ a _))

theorem exec_cplDoorbell_linked {s : State} (hl : linked s) (a : Agent) (r : Fin 160) (v : Word) :
    exec (.cplDoorbell a r v) s = .next (cplDoorbell r v.toNat (rung a [] s)) :=
  congrArg Host.Outcome.next (far_linked hl (fusedOff_write32 (by decide +kernel) (i := r) r.isLt (by decide) (unfused_hostCplDb r) _ a _))

section
variable {u : State} {a : Agent} {r v : Nat}

/-! ### What a doorbell does -/

theorem doorbell_ignored (p : r < 160) (up : u.flag .SYS_PLANE_STATE_HEADLESS = false) (off : ringEn u r = false) :
    doorbell a r v u = logWrite 4 (write32 a .HOST_DB v r) u := by
  unfold doorbell
  rw [up, off]
  exact (if_pos p).trans (if_pos rfl)

/-- The checks of a producer's doorbell (R303). -/
theorem doorbell_checked (p : r < 160) (some : u.flag .SYS_PLANE_STATE_HEADLESS = true ∨ ringEn u r = true) :
    doorbell a r v u = if ringSize u r < sub32 v (headOf u r) then refuseDb false r 1 v u
      else if 2 ^ 31 ≤ sub32 v (tailOf u r) then refuseDb false r 2 v u
      else if u.flag .SYS_PLANE_STATE_HEADLESS then refuseDb false r 3 v u else setTail r v u := by
  have checks : ¬ (!u.flag .SYS_PLANE_STATE_HEADLESS && !ringEn u r) = true := by
    rcases some with e | e <;> rw [e] <;> simp
  unfold doorbell
  exact (if_pos p).trans (if_neg checks)

theorem doorbell_consumer (c : 160 ≤ r) : doorbell a r v u = if u.flag .SYS_PLANE_STATE_HEADLESS then refuseDb true r 3 v u
    else if headAhead (headOf u r) (tailOf u r) v then setHead r v (noteFreed r u) else refuseDb true r 5 v u := by
  unfold doorbell
  exact if_neg (Nat.not_lt.mpr c)

end

/-- Space that was freed in this clock bounds the ring by the HEAD before it, whatever HEAD now is. -/
theorem freeHead_setReg {u : State} (h : u.Sound) (r i : Nat) (q : Reg) (v : Word) :
    freeHead ((noteFreed r u).setReg q v i) r = freeHead u r := by
  have ring : ringOf (noteFreed r u) r = { ringOf u r with freed := some (u.now, freeHead u r) } := ringOf_setRing h r _
  rw [freeHead, ringOf_congr (setReg_host ..), ring]
  exact if_pos rfl

/-- R303: a producer's doorbell that passes its checks. -/
theorem setTail_leaves {u : State} (h : u.Sound) {r : Nat} (hr : r < 172) (v : Word) :
    tailOf (setTail r v.toNat u) r = v.toNat ∧ headOf (setTail r v.toNat u) r = headOf u r
    ∧ ∀ q < 172, ringEn (setTail r v.toNat u) q = ringEn u q ∧ headOf (setTail r v.toNat u) q = headOf u q
      ∧ (q ≠ r → tailOf (setTail r v.toNat u) q = tailOf u q) := by
  have head (q : Nat) : headOf (setTail r v.toNat u) q = headOf u q := congrArg BitVec.toNat (reg_setReg_apart h.regs (by decide) ..)
  refine ⟨?_, head r, fun q hq => ⟨flag_setReg_apart h.regs (by decide) .., head q, fun ne => ?_⟩⟩
  · refine (congrArg BitVec.toNat (reg_setReg h.regs ..)).trans ?_
    rw [BitVec.toNat_ofNat, Nat.mod_eq_of_lt v.isLt]
  · exact congrArg BitVec.toNat (reg_setReg_ne h.regs (off_ne_index (by decide +kernel) (by decide) hq hr ne) _)

/-- R303, R310: a consumer's doorbell that passes its check. -/
theorem setHead_leaves {u : State} (h : u.Sound) (r : Nat) (v : Word) :
    headOf (setHead r v.toNat (noteFreed r u)) r = v.toNat ∧ tailOf (setHead r v.toNat (noteFreed r u)) r = tailOf u r
    ∧ freeHead (setHead r v.toNat (noteFreed r u)) r = freeHead u r := by
  have freed := sound_noteFreed r _ h
  refine ⟨?_, ?_, freeHead_setReg h r r .HOST_RING_HEAD _⟩
  · refine (congrArg BitVec.toNat (reg_setReg freed.regs ..)).trans ?_
    rw [BitVec.toNat_ofNat, Nat.mod_eq_of_lt v.isLt]
  · exact congrArg BitVec.toNat (reg_setReg_apart freed.regs (by decide) ..)

/-- R302: software's store to host memory. -/
theorem softStore_dram {a : Agent} {x : Nat} {d : List Byte} {s : State} (core : a ≠ .host) (dram : inDram x d.length = true)
    (clean : poisoned s x d.length = []) :
    (softStore a x d s).host.mem = memPut s.host.mem x d ∧ (softStore a x d s).host.ext = s.host.ext := by
  have out : inAperture x d.length = false := by
    rw [inDram, Bool.and_eq_true, decide_eq_true_eq, decide_eq_true_eq] at dram
    rw [inAperture, decide_eq_false (by omega), Bool.false_and]
  obtain ⟨p, -, e⟩ := memWrite_clean clean
  have stored : softStore a x d s = (memWrite x d s).2 := by
    rw [softStore, if_neg core, coreStore, if_neg (by rw [out]; exact Bool.false_ne_true), if_neg (by rw [dram]; exact Bool.false_ne_true), e]
    exact if_pos rfl
  rw [stored, e]
  exact ⟨rfl, rfl⟩

theorem softStore_ext (x : Nat) (d : List Byte) (s : State) : (softStore .host x d s).host.ext = memPut s.host.ext x d
    ∧ (softStore .host x d s).host.mem = s.host.mem := by
  rw [softStore, if_pos rfl]
  exact ⟨rfl, rfl⟩

theorem host_doorbell (a : Agent) (r v x : Nat) (d : List Byte) (s : State) :
    hostRest (doorbell a r v (rung a [(x, d)] s)) = hostRest (softStore a x d s) := by
  obtain ⟨m, e⟩ := idlSend_eq 0 0 1 0 (softStore a x d s)
  have sent : (rung a [(x, d)] s).host = (softStore a x d s).host := (congrArg State.host e :)
  exact (hostRest_doorbell ..).trans (hostRest_congr sent)

/-- R303: a doorbell that is refused once its stores are made. -/
theorem rung_refused {s : State} (h : s.Sound) (hl : linked s) (a : Agent) (l : List (Nat × List Byte)) (consumer : Bool) {r code : Nat}
    (hr : r < 172) (hc : code < 16) (v : Word) :
    doorbellRefused s (refuseDb consumer r code v.toNat (rung a l s)) consumer r code v.toNat :=
  have k := storesMade_rung h a l
  k.doorbellRefused h (refuseDb_refuses k.sound (k.linked h hl) consumer hr hc (Nat.lt_trans v.isLt (by decide)))

/-- R310: the frame of an accepted doorbell of a completion ring. -/
theorem cplHead_only {s : State} (h : s.Sound) (a : Agent) (r : Nat) (v : Word) :
    s.Only ((noteFreed r (rung a [] s)).setReg .HOST_CPL_HEAD v r) [.host, .ctl] [Reg.off .HOST_CPL_HEAD r] [] :=
  ((((Sofar.start h [.host, .ctl] [Reg.off .HOST_CPL_HEAD r] []).send (by decide) 0 0 1 0).setHost (by decide) _).setReg .HOST_CPL_HEAD
    v r 0 List.mem_cons_self).only

/-- Settles O47: the stores reach host memory before the doorbell (`storesMade_rung`), which is ignored, refused with the first code
that applies (`doorbell_checked`, `rung_refused`), or moves its index (`setTail_leaves`, `setHead_leaves`). -/
theorem doorbells : Obligations.Doorbells := by
  unfold Obligations.Doorbells
  refine ⟨fun s a r v l h hl p => ?_, fun s a r v l h hl c => ?_, fun s a r v h hl => ?_, fun s a r v x d h hl => ?_⟩
  case refine_1 =>
    have k := storesMade_rung h a l
    have run := exec_doorbell_linked h hl a r v l
    refine ⟨fun up off => ?_, fun some => ?_⟩
    · rw [doorbell_ignored p (k.headless h ▸ up) (k.ringEn h r ▸ off)] at run
      have logged := recordFault_logged k.sound (write32_fits (kind := 4) (by decide) a (r := .HOST_DB) (v := v.toNat) (i := r) (hostDb_low r))
      have w := kept_logWrite (le_same _) 4 (write32 a .HOST_DB v.toNat r) _ (.refl _ (rung a l s))
      have after := sound_logWrite 4 (write32 a .HOST_DB v.toNat r) _ k.sound
      exact ⟨_, run, k.logged h logged, (congrArg BitVec.toNat (w.reg k.sound after (by decide +kernel) r 0)).trans (k.headOf h r),
        (congrArg BitVec.toNat (w.reg k.sound after (by decide +kernel) r 0)).trans (k.tailOf h r)⟩
    · rw [doorbell_checked p (k.headless h ▸ k.ringEn h r ▸ some), k.ringSize h, k.headOf h, k.tailOf h, k.headless h] at run
      refine ⟨fun full => ?_, fun fits back => ?_, fun fits on down => ?_, fun fits on up => ?_⟩
      · rw [if_pos full] at run
        exact ⟨_, run, rung_refused h hl a l false r.isLt (by decide) v⟩
      · rw [if_neg (Nat.not_lt.mpr fits), if_pos back] at run
        exact ⟨_, run, rung_refused h hl a l false r.isLt (by decide) v⟩
      · rw [if_neg (Nat.not_lt.mpr fits), if_neg (Nat.not_le.mpr on), if_pos down] at run
        exact ⟨_, run, rung_refused h hl a l false r.isLt (by decide) v⟩
      · rw [if_neg (Nat.not_lt.mpr fits), if_neg (Nat.not_le.mpr on), if_neg (by rw [up]; exact Bool.false_ne_true)] at run
        obtain ⟨tail, head, others⟩ := setTail_leaves k.sound r.isLt v
        refine ⟨_, run, tail, head.trans (k.headOf h r), fun q hq => ?_⟩
        obtain ⟨en, headQ, tailQ⟩ := others q hq
        exact ⟨en.trans (k.ringEn h q), headQ.trans (k.headOf h q), fun ne => (tailQ ne).trans (k.tailOf h q)⟩
  case refine_2 =>
    have k := storesMade_rung h a l
    have run := exec_doorbell_linked h hl a r v l
    rw [doorbell_consumer c, k.headOf h, k.tailOf h, k.headless h] at run
    refine ⟨fun down => ?_, fun up bad => ?_, fun up good => ?_⟩
    · rw [if_pos down] at run
      exact ⟨_, run, rung_refused h hl a l true r.isLt (by decide) v⟩
    · rw [if_neg (by rw [up]; exact Bool.false_ne_true), if_neg (by rw [bad]; exact Bool.false_ne_true)] at run
      exact ⟨_, run, rung_refused h hl a l true r.isLt (by decide) v⟩
    · rw [if_neg (by rw [up]; exact Bool.false_ne_true), if_pos good] at run
      obtain ⟨head, tail, freed⟩ := setHead_leaves k.sound r v
      exact ⟨_, run, head, tail.trans (k.tailOf h r), freed.trans (k.freeHead h r)⟩
  case refine_3 =>
    have k := storesMade_rung h a []
    have run := exec_cplDoorbell_linked hl a r v
    have hr : r.val < 172 := Nat.lt_trans r.isLt (by decide)
    rw [cplDoorbell, k.headless h, k.cplHead h, k.cplTail h] at run
    refine ⟨fun down => ?_, fun up bad => ?_, fun up good => ?_⟩
    · rw [if_pos down] at run
      exact ⟨_, run, rung_refused h hl a [] true hr (by decide) v⟩
    · rw [if_neg (by rw [up]; exact Bool.false_ne_true), if_neg (by rw [bad]; exact Bool.false_ne_true)] at run
      exact ⟨_, run, rung_refused h hl a [] true hr (by decide) v⟩
    · rw [if_neg (by rw [up]; exact Bool.false_ne_true), if_pos good, BitVec.ofNat_toNat, BitVec.setWidth_eq] at run
      have host : (rung a [] s).host = s.host := (Sends.refl h).send 0 0 1 0 |>.host
      have rest : hostRest ((noteFreed r (rung a [] s)).setReg .HOST_CPL_HEAD v r) = hostRest s :=
        (hostRest_setReg ..).trans ((hostRest_setRing ..).trans (hostRest_congr host))
      refine ⟨_, run, reg_setReg (sound_noteFreed r _ k.sound).regs .., (freeHead_setReg k.sound r r _ v).trans (k.freeHead h r),
        fun q ne => ?_, ?_, (congrArg HostSt.mem rest :), (congrArg HostSt.ext rest :), cplHead_only h a r v⟩
      · rw [ringOf_congr (setReg_host ..), noteFreed, ringOf_setRing_ne k.sound ne, ringOf_congr host]
      · rw [ringOf_congr (setReg_host ..), noteFreed, ringOf_setRing k.sound, ringOf_congr host]
  case refine_4 =>
    have run := exec_doorbell_linked h hl a r v [(x, d)]
    have rest := host_doorbell a r v.toNat x d s
    have mem : (doorbell a r v.toNat (rung a [(x, d)] s)).host.mem = (softStore a x d s).host.mem := (congrArg HostSt.mem rest :)
    have ext : (doorbell a r v.toNat (rung a [(x, d)] s)).host.ext = (softStore a x d s).host.ext := (congrArg HostSt.ext rest :)
    refine ⟨fun core dram clean => ⟨_, run, ?_, ?_, fun b out => ?_⟩, fun host => ⟨_, run, ?_, ?_, fun b out => ?_⟩⟩
    · rw [mem, (softStore_dram core dram clean).1]
      exact memGet_memPut (SMap.wf_sorted h.host.mem) x d
    · rw [ext, (softStore_dram core dram clean).2]
    · rw [mem, (softStore_dram core dram clean).1]
      exact getD_memPut_out (SMap.wf_sorted h.host.mem) out
    · rw [ext, host, (softStore_ext x d s).1]
      exact memGet_memPut (SMap.wf_sorted h.host.ext) x d
    · rw [mem, host, (softStore_ext x d s).2]
    · rw [ext, host, (softStore_ext x d s).1]
      exact getD_memPut_out (SMap.wf_sorted h.host.ext) out

end Sys2Proof.Machine
end

section
/-!
SUPPORT. Window settings, and a ring's enable, disable and idle (R299, R305, R312, R313), and the settlement of O48.
-/
namespace Sys2Proof.Machine

/-! ### Window settings -/

/-- The log stays as a logged access left it where its registers and its count stay. -/
theorem faultLogged.kept {s t t' : State} {kind size ali off : Nat} {a : Agent} (l : faultLogged s t kind a size ali off)
    (h : t.Sound) (h' : t'.Sound) (cnt : t'.cnt .SYS_ACCESS_FAULT_CNT = t.cnt .SYS_ACCESS_FAULT_CNT)
    (word : t'.reg .SYS_ACCESS_FAULT = t.reg .SYS_ACCESS_FAULT) (addr : t'.reg .SYS_ACCESS_FAULT_ADDR = t.reg .SYS_ACCESS_FAULT_ADDR) :
    faultLogged s t' kind a size ali off := by
  have wordFld (f : Fld) (hf : f.reg = .SYS_ACCESS_FAULT) : t'.fld f = t.fld f := by
    unfold State.fld
    rw [hf, word]
  have addrFld (f : Fld) (hf : f.reg = .SYS_ACCESS_FAULT_ADDR) : t'.fld f = t.fld f := by
    unfold State.fld
    rw [hf, addr]
  refine ⟨cnt.trans l.counts, fun clear none => ?_, fun set other => ?_, fun g shown now open' => ?_⟩
  · obtain ⟨valid, k, ag, sz, al, o⟩ := l.first clear none
    refine ⟨?_, (wordFld _ rfl).trans k, (wordFld _ rfl).trans ag, (wordFld _ rfl).trans sz, (addrFld _ rfl).trans al, (addrFld _ rfl).trans o⟩
    rw [State.flag, wordFld _ rfl]
    exact valid
  · obtain ⟨w, d⟩ := l.later set other
    exact ⟨word.trans w, addr.trans d⟩
  · obtain ⟨w, d⟩ := l.tie g shown now open'
    obtain ⟨sw, sa⟩ := showFault_regs h.regs (earlier ⟨kind, a, size, ali, off⟩ (some (g, shown)))
    obtain ⟨sw', sa'⟩ := showFault_regs h'.regs (earlier ⟨kind, a, size, ali, off⟩ (some (g, shown)))
    exact ⟨word.trans (w.trans (sw.trans sw'.symm)), addr.trans (d.trans (sa.trans sa'.symm))⟩

/-- A field of one bit reads that bit of the word. -/
theorem get_bit {f : Fld} (one : f.hi = f.lo) (v : Word) : f.get v = b2n (v.getLsbD f.lo) := by
  rw [Fld.get, one, bits_one, BitVec.testBit_toNat]

/-- The settings of a window. -/
def winPut (v : Word) (w sz : Nat) (s : State) : State :=
  ((s.setFld .HOST_WIN_CFG_EN (Fld.HOST_WIN_CFG_EN.get v) w).setFld .HOST_WIN_CFG_WRITE (Fld.HOST_WIN_CFG_WRITE.get v) w).setFld
    .HOST_WIN_CFG_SIZE_LOG2 sz w

theorem sound_winPut {s : State} (h : s.Sound) (v : Word) (w sz : Nat) : (winPut v w sz s).Sound :=
  sound_State_setFld _ _ _ _ _ (sound_State_setFld _ _ _ _ _ (sound_State_setFld _ _ _ _ _ h))

theorem winPut_shows {s : State} (h : s.Sound) (v : Word) (w : Nat) {sz : Nat} (fits : sz < 64) :
    (winPut v w sz s).flag .HOST_WIN_CFG_EN w = v.getLsbD 31 ∧ (winPut v w sz s).flag .HOST_WIN_CFG_WRITE w = v.getLsbD 30
    ∧ (winPut v w sz s).fld .HOST_WIN_CFG_SIZE_LOG2 w = sz := by
  have en := sorted_setFld h.regs .HOST_WIN_CFG_EN (Fld.HOST_WIN_CFG_EN.get v) w 0
  have write := sorted_setFld en .HOST_WIN_CFG_WRITE (Fld.HOST_WIN_CFG_WRITE.get v) w 0
  unfold winPut
  refine ⟨?_, ?_, ?_⟩
  · rw [flag_setFld_beside (f := .HOST_WIN_CFG_SIZE_LOG2) (g := .HOST_WIN_CFG_EN) write (by decide),
      flag_setFld_beside (f := .HOST_WIN_CFG_WRITE) (g := .HOST_WIN_CFG_EN) en (by decide), flag_setFld h.regs (by decide) (by decide),
      get_bit rfl]
    exact b2n_bit _
  · rw [flag_setFld_beside (f := .HOST_WIN_CFG_SIZE_LOG2) (g := .HOST_WIN_CFG_WRITE) write (by decide),
      flag_setFld en (by decide) (by decide), get_bit rfl]
    exact b2n_bit _
  · rw [fld_setFld write (by decide) (by decide)]
    exact Nat.mod_eq_of_lt fits

theorem winPut_cnts (v : Word) (w sz : Nat) (s : State) : (winPut v w sz s).cnts = s.cnts := by
  rw [winPut, setFld_cnts, setFld_cnts, setFld_cnts]

theorem winPut_reg {s : State} (h : s.Sound) (v : Word) (w sz : Nat) {q : Reg} (apart : regApart q .HOST_WIN_CFG = true) (i : Nat) :
    (winPut v w sz s).reg q i = s.reg q i := by
  have en := sorted_setFld h.regs .HOST_WIN_CFG_EN (Fld.HOST_WIN_CFG_EN.get v) w 0
  rw [winPut, reg_setFld_apart (f := .HOST_WIN_CFG_SIZE_LOG2) (sorted_setFld en .HOST_WIN_CFG_WRITE _ w 0) apart,
    reg_setFld_apart (f := .HOST_WIN_CFG_WRITE) en apart, reg_setFld_apart (f := .HOST_WIN_CFG_EN) h.regs apart]

theorem Sofar.winPut {s u : State} {aa : List Area} {oo cc : List Nat} {w : Nat} (k : Sofar s u aa oo cc)
    (hm : Reg.off .HOST_WIN_CFG w ∈ oo) (v : Word) (sz : Nat) : Sofar s (winPut v w sz u) aa oo cc :=
  ((k.setFld .HOST_WIN_CFG_EN _ w 0 hm).setFld .HOST_WIN_CFG_WRITE _ w 0 hm).setFld .HOST_WIN_CFG_SIZE_LOG2 _ w 0 hm

/-- A size and a base that no window may have (R305). -/
def winBad (v : Word) (w : Nat) (s : State) : Bool :=
  decide (Fld.HOST_WIN_CFG_SIZE_LOG2.get v < 12) || decide (46 < Fld.HOST_WIN_CFG_SIZE_LOG2.get v)
    || s.reg64 .HOST_WIN_BASE_LO .HOST_WIN_BASE_HI w % 2 ^ Fld.HOST_WIN_CFG_SIZE_LOG2.get v != 0

theorem winSize_get (v : Word) : Fld.HOST_WIN_CFG_SIZE_LOG2.get v = v.toNat % 64 := rfl

theorem winCfg'_eq (a : Agent) (w : Nat) (v : Word) (s : State) : winCfg' (write32 a .HOST_WIN_CFG v.toNat w) w s =
    if s.flag .HOST_WIN_CFG_EN w then
      if Fld.HOST_WIN_CFG_SIZE_LOG2.get v = s.fld .HOST_WIN_CFG_SIZE_LOG2 w then winPut v w (s.fld .HOST_WIN_CFG_SIZE_LOG2 w) s
      else winPut v w (s.fld .HOST_WIN_CFG_SIZE_LOG2 w) (logWrite 4 (write32 a .HOST_WIN_CFG v.toNat w) s)
    else if (Fld.HOST_WIN_CFG_EN.get v = 1 && winBad v w s) = true then logWrite 4 (write32 a .HOST_WIN_CFG v.toNat w) s
    else winPut v w (Fld.HOST_WIN_CFG_SIZE_LOG2.get v) s := by
  unfold winCfg'
  dsimp only
  rw [write32_val]
  rfl

theorem winRegs_unfused (w : Fin 16) (k : Fin 5) : fusedIdx (winReg k) w 0 = false ∧ Reg.off (winReg k) w < 2 ^ 28
    ∧ w < (winReg k).n1 ∧ 0 < (winReg k).n2 ∧ winReg k ∈ Reg.all := by revert w k; decide +kernel

theorem exec_winCfgWrite_linked {s : State} (hl : linked s) (a : Agent) (w : Fin 16) (k : Fin 5) (v : Word) :
    exec (.winCfgWrite a w k v) s = .next (winWrite (write32 a (winReg k) v.toNat w) k w (idlSend 0 0 1 0 s)) := by
  obtain ⟨unfused, -, there, one, listed⟩ := winRegs_unfused w k
  exact congrArg Host.Outcome.next (far_linked hl (fusedOff_write32 listed there one unfused _ a _))

/-- A refused write to a register of a window. -/
theorem winReg_logged {s : State} (h : s.Sound) (a : Agent) (w : Fin 16) (k : Fin 5) (v : Word) :
    faultLogged s (logWrite 4 (write32 a (winReg k) v.toNat w) (idlSend 0 0 1 0 s)) 4 a 2 0 (Reg.off (winReg k) w)
    ∧ s.Only (logWrite 4 (write32 a (winReg k) v.toNat w) (idlSend 0 0 1 0 s)) [.sys, .ctl] faultRegs faultCnts :=
  ((Sends.refl h).send 0 0 1 0).logged (write32_fits (by decide) a (winRegs_unfused w k).2.1)

theorem winAddr_write {s : State} (a : Agent) (w k : Nat) (hk : k ≠ 0) (v : Word) :
    winWrite (write32 a (winReg k) v.toNat w) k w s = if s.flag .HOST_WIN_CFG_EN w then logWrite 4 (write32 a (winReg k) v.toNat w) s
      else s.setReg (winReg k) v w := by
  rw [winWrite, if_neg hk, winAddr, write32_val]

/-- R305: the settings of a window that takes the write whole. -/
theorem winPut_done {s : State} (h : s.Sound) (v : Word) (w : Nat) {sz : Nat} (fits : sz < 64) :
    (winPut v w sz (idlSend 0 0 1 0 s)).flag .HOST_WIN_CFG_EN w = v.getLsbD 31
    ∧ (winPut v w sz (idlSend 0 0 1 0 s)).flag .HOST_WIN_CFG_WRITE w = v.getLsbD 30
    ∧ (winPut v w sz (idlSend 0 0 1 0 s)).fld .HOST_WIN_CFG_SIZE_LOG2 w = sz
    ∧ s.Only (winPut v w sz (idlSend 0 0 1 0 s)) [.ctl] [Reg.off .HOST_WIN_CFG w] [] := by
  obtain ⟨en, write, size⟩ := winPut_shows ((Sends.refl h).send 0 0 1 0).sound v w fits
  exact ⟨en, write, size, (((Sofar.start h _ _ _).send (by decide) 0 0 1 0).winPut List.mem_cons_self v sz).only⟩

/-- R305: the settings of a window in use, whose size stays, once its refusal is logged. -/
theorem winPut_logged {s : State} (h : s.Sound) (a : Agent) (v : Word) (w : Fin 16) {sz : Nat} (fits : sz < 64) :
    let t := winPut v w sz (logWrite 4 (write32 a .HOST_WIN_CFG v.toNat w) (idlSend 0 0 1 0 s))
    t.flag .HOST_WIN_CFG_EN w = v.getLsbD 31 ∧ t.flag .HOST_WIN_CFG_WRITE w = v.getLsbD 30
    ∧ t.fld .HOST_WIN_CFG_SIZE_LOG2 w = sz ∧ faultLogged s t 4 a 2 0 (Reg.off .HOST_WIN_CFG w) := by
  have logged := sound_logWrite 4 (write32 a .HOST_WIN_CFG v.toNat w) _ ((Sends.refl h).send 0 0 1 0).sound
  obtain ⟨en, write, size⟩ := winPut_shows logged v w fits
  exact ⟨en, write, size, (winReg_logged h a w 0 v).1.kept logged (sound_winPut logged ..) (cnt_congr (winPut_cnts ..) ..)
    (winPut_reg logged v w sz (by decide) 0) (winPut_reg logged v w sz (by decide) 0)⟩

/-! ### Enabling a ring -/

theorem unfused_ringCtrl (r : Fin 172) : fusedIdx .HOST_RING_CTRL r 0 = false ∧ Reg.off .HOST_RING_CTRL r < 2 ^ 28 := by
  revert r
  decide +kernel

theorem exec_ringEnable_linked {s : State} (hl : linked s) (a : Agent) (r : Fin 172) :
    exec (.ringEnable a r) s = .next (ringEnable a r (idlSend 0 0 1 0 s)) :=
  congrArg Host.Outcome.next (far_linked hl (fusedOff_write32 ringCtrl_mem (i := r) r.isLt (by decide) (unfused_ringCtrl r).1 _ a _))

theorem exec_ringDisable_linked {s : State} (hl : linked s) (a : Agent) (r : Fin 172) :
    exec (.ringDisable a r) s = .next (ringDisable r (idlSend 0 0 1 0 s)) :=
  congrArg Host.Outcome.next (far_linked hl (fusedOff_write32 ringCtrl_mem (i := r) r.isLt (by decide) (unfused_ringCtrl r).1 _ a _))

theorem ringWritable_sends {s u : State} (k : Sends s u) (r : Nat) : ringWritable u r = ringWritable s r := by
  obtain ⟨-, m, rfl⟩ := k
  rfl

theorem canEnable_sends {s u : State} (k : Sends s u) (r : Nat) : canEnable u r = canEnable s r := by
  obtain ⟨-, m, rfl⟩ := k
  rfl

/-- The status of a ring that is enabled: it runs, without an error (R313). -/
def ringRuns (s : State) (r : Nat) : Word := BitVec.ofNat 32 (2 ^ 31 + s.fld .HOST_RING_STATUS_CFG_ERR r * 2 ^ 28)

theorem ringRuns_fields (s : State) (r : Nat) : Fld.HOST_RING_STATUS_RUNNING.get (ringRuns s r) = 1
    ∧ Fld.HOST_RING_STATUS_ERR.get (ringRuns s r) = 0 ∧ Fld.HOST_RING_STATUS_ERR_CODE.get (ringRuns s r) = 0
    ∧ Fld.HOST_RING_STATUS_RING_IDLE.get (ringRuns s r) = 0 := by
  have bit : s.fld .HOST_RING_STATUS_CFG_ERR r < 2 := fld_lt s _ r 0
  unfold ringRuns
  generalize s.fld .HOST_RING_STATUS_CFG_ERR r = e at bit
  have two : e = 0 ∨ e = 1 := by omega
  rcases two with rfl | rfl
  · decide
  · decide

def ringOpened (r : Nat) (s : State) : State := (s.setReg .HOST_RING_STATUS (ringRuns s r) r).setFld .HOST_RING_CTRL_EN 1 r

/-- A ring whose producer is software starts empty. -/
def ringEmptied (r : Nat) (s : State) : State := if r < 160 then setTail r (headOf s r) s else s

def ringStarted (r : Nat) (s : State) : State :=
  setRing r { ringOf s r with everEn := true, quiet := false, raw := [], pre := [], preAt := headOf s r, badAhead := [] } s

theorem ringEnable_eq (a : Agent) (r : Nat) (s : State) : ringEnable a r s =
    if !ringWritable s r then logWrite 4 (write32 a .HOST_RING_CTRL 1 r) s
    else if canEnable s r then ringStarted r (ringEmptied r (ringOpened r s)) else s.setFld .HOST_RING_STATUS_CFG_ERR 1 r := by
  unfold ringEnable
  rfl

theorem ringOpened_shows {s : State} (h : s.Sound) (r : Nat) : (ringOpened r s).Sound ∧ ringEn (ringOpened r s) r = true
    ∧ (ringOpened r s).reg .HOST_RING_STATUS r = ringRuns s r
    ∧ ∀ q : Reg, regApart q .HOST_RING_STATUS = true → regApart q .HOST_RING_CTRL = true → ∀ i, (ringOpened r s).reg q i = s.reg q i := by
  have set := sound_State_setReg s .HOST_RING_STATUS (ringRuns s r) r 0 h
  unfold ringOpened
  refine ⟨sound_State_setFld _ _ _ _ _ set, ?_, ?_, fun q a b i => ?_⟩
  · exact flag_setFld set.regs (by decide) (by decide) 1 r 0
  · exact (reg_setFld_apart (f := .HOST_RING_CTRL_EN) set.regs (by decide) ..).trans (reg_setReg h.regs ..)
  · exact (reg_setFld_apart (f := .HOST_RING_CTRL_EN) set.regs b ..).trans (reg_setReg_apart h.regs a ..)

theorem ringEmptied_shows {s : State} (h : s.Sound) (r : Nat) : (ringEmptied r s).Sound
    ∧ tailOf (ringEmptied r s) r = (if r < 160 then headOf s r else tailOf s r)
    ∧ ∀ q : Reg, regApart q .HOST_RING_TAIL = true → ∀ i, (ringEmptied r s).reg q i = s.reg q i := by
  unfold ringEmptied
  split
  · refine ⟨sound_setTail _ _ _ h, ?_, fun q a i => reg_setReg_apart h.regs a ..⟩
    refine (congrArg BitVec.toNat (reg_setReg h.regs ..)).trans ?_
    rw [BitVec.toNat_ofNat]
    exact Nat.mod_eq_of_lt (BitVec.isLt _)
  · exact ⟨h, rfl, fun _ _ _ => rfl⟩

/-- R313: what an enabled ring shows. -/
theorem ringStarted_shows {s : State} (h : s.Sound) (r : Nat) :
    let t := ringStarted r (ringEmptied r (ringOpened r s))
    ringEn t r = true ∧ t.flag .HOST_RING_STATUS_RUNNING r = true ∧ t.flag .HOST_RING_STATUS_ERR r = false
    ∧ t.fld .HOST_RING_STATUS_ERR_CODE r = 0 ∧ t.flag .HOST_RING_STATUS_RING_IDLE r = false
    ∧ headOf t r = headOf s r ∧ tailOf t r = (if r < 160 then headOf s r else tailOf s r)
    ∧ (ringOf t r).units = (ringOf s r).units := by
  intro t
  obtain ⟨opened, en, status, others⟩ := ringOpened_shows h r
  obtain ⟨emptied, tail, apart⟩ := ringEmptied_shows opened r
  obtain ⟨running, err, code, idle⟩ := ringRuns_fields s r
  have word : t.reg .HOST_RING_STATUS r = ringRuns s r := (apart _ (by decide) r).trans status
  have head (q : Nat) : headOf (ringOpened r s) q = headOf s q := congrArg BitVec.toNat (others _ (by decide) (by decide) q)
  have shown (f : Fld) (hf : f.reg = .HOST_RING_STATUS) : t.fld f r = f.get (ringRuns s r) := by
    unfold State.fld
    rw [hf, word]
  refine ⟨?_, ?_, ?_, (shown _ rfl).trans code, ?_, (congrArg BitVec.toNat (apart _ (by decide) r)).trans (head r), ?_, ?_⟩
  · have ctrl : t.reg .HOST_RING_CTRL r = (ringOpened r s).reg .HOST_RING_CTRL r := apart _ (by decide) r
    unfold ringEn State.flag State.fld at en ⊢
    exact (congrArg (fun w : Word => Fld.HOST_RING_CTRL_EN.get w != 0) ctrl).trans en
  · rw [State.flag, shown _ rfl, running]; rfl
  · rw [State.flag, shown _ rfl, err]; rfl
  · rw [State.flag, shown _ rfl, idle]; rfl
  · refine Eq.trans tail ?_
    rw [head r, tailOf, others .HOST_RING_TAIL (by decide) (by decide) r]
    rfl
  · have host : (ringEmptied r (ringOpened r s)).host = s.host := by
      unfold ringEmptied setTail
      refine ite_holds (P := fun t : State => t.host = s.host) ?_ ?_
      · rw [setReg_host, ringOpened, setFld_host, setReg_host]
      · rw [ringOpened, setFld_host, setReg_host]
    have ring : ringOf t r = _ := ringOf_setRing emptied r _
    rw [ring, ringOf_congr host]

theorem Sofar.ringStarted {s u : State} {aa : List Area} {oo cc : List Nat} {r : Nat} (k : Sofar s u aa oo cc) (hh : Area.host ∈ aa)
    (status : Reg.off .HOST_RING_STATUS r ∈ oo) (ctrl : Reg.off .HOST_RING_CTRL r ∈ oo) (tail : Reg.off .HOST_RING_TAIL r ∈ oo) :
    Sofar s (ringStarted r (ringEmptied r (ringOpened r u))) aa oo cc := by
  have opened := (k.setReg .HOST_RING_STATUS (ringRuns u r) r 0 status).setFld .HOST_RING_CTRL_EN 1 r 0 ctrl
  have emptied : Sofar s (ringEmptied r (ringOpened r u)) aa oo cc :=
    ite_holds (P := fun t => Sofar s t aa oo cc) (opened.setReg .HOST_RING_TAIL _ r 0 tail) opened
  exact emptied.setHost hh _

/-! ### Disabling a ring -/

theorem Sofar.stopRing {s u : State} {aa : List Area} {oo cc : List Nat} {r : Nat} (k : Sofar s u aa oo cc) (hh : Area.host ∈ aa)
    (status : Reg.off .HOST_RING_STATUS r ∈ oo) (ctrl : Reg.off .HOST_RING_CTRL r ∈ oo) :
    Sofar s (stopRing r u) aa oo cc :=
  ((k.setFld .HOST_RING_CTRL_EN 0 r 0 ctrl).setFld .HOST_RING_STATUS_RUNNING 0 r 0 status).setHost hh _

/-- R312: what a disabled ring shows. -/
theorem stopRing_shows {u : State} (h : u.Sound) {r : Nat} (hr : r < 172) : ringEn (stopRing r u) r = false
    ∧ (stopRing r u).flag .HOST_RING_STATUS_RUNNING r = false ∧ (ringOf (stopRing r u) r).units = (ringOf u r).units
    ∧ (ringOf (stopRing r u) r).raw = [] ∧ (ringOf (stopRing r u) r).pre = [] := by
  have ring := ringOf_setRing (sound_ringOff h r) r { ringOf (ringOff r u) r with raw := [], pre := [], preAt := headOf (ringOff r u) r }
  refine ⟨ringEn_stopRing h hr, ?_, units_stopRing h r r, by rw [stopRing_eq, ring], by rw [stopRing_eq, ring]⟩
  rw [stopRing_eq, flag_congr (setRing_regs ..), ringOff]
  exact flag_setFld (sorted_setFld h.regs ..) (by decide) (by decide) 0 r 0

/-! ### A ring that is idle -/

/-- RING_IDLE shows. -/
def ringIdled (r : Nat) (s : State) : State := s.setFld .HOST_RING_STATUS_RING_IDLE 1 r

/-- The write-back of an idle ring, where its owner can still be reached. -/
def idleBacked (r : Nat) (s : State) : State := if (ringOf s r).quiet || ownerDown s then s else (ringWb r s).2

theorem ringIdled_host (r : Nat) (s : State) : (ringIdled r s).host = s.host := by rw [ringIdled, setFld_host]

theorem ringIdled_ctl (r : Nat) (s : State) : (ringIdled r s).ctl = s.ctl := by rw [ringIdled, setFld_ctl]

theorem ringIdle_stops {s : State} {r : Nat} (on : stopping s r = true) (none : (ringOf s r).units = []) :
    ringIdle r s = ringRaise r (idleBacked r (ringIdled r s)) := by
  unfold ringIdle
  exact if_pos (by rw [on, none]; rfl)

theorem ringIdle_stays {s : State} {r : Nat} (not : stopping s r = false ∨ (ringOf s r).units ≠ []) : ringIdle r s = s := by
  unfold ringIdle
  refine if_neg fun c => ?_
  rw [Bool.and_eq_true, List.isEmpty_iff] at c
  obtain ⟨on, none⟩ := c
  rcases not with e | e
  · rw [on] at e; cases e
  · exact e none

theorem ringWb_reaches {s : State} {r y : Nat} (h : dmaTarget s (s.reg64 .HOST_RING_WB_LO .HOST_RING_WB_HI r) 64 true = some y) :
    (ringWb r s).1 = true ∧ (ringWb r s).2 = (hostWrite y (fit 64 (toLe 4 (if r < 160 then headOf s r else tailOf s r))) s).2 := by
  unfold ringWb writeBack
  rw [h]
  exact ⟨rfl, rfl⟩

section
variable {s : State} (h : s.Sound) (r : Nat)
include h

theorem sound_ringIdled : (ringIdled r s).Sound := sound_State_setFld _ _ _ _ _ h

theorem ringIdled_reg {q : Reg} (apart : regApart q .HOST_RING_STATUS = true) (i : Nat) : (ringIdled r s).reg q i = s.reg q i :=
  reg_setFld_apart (f := .HOST_RING_STATUS_RING_IDLE) h.regs apart ..

theorem ringIdled_flag {f : Fld} (apart : regApart f.reg .HOST_RING_STATUS = true) (i : Nat) :
    (ringIdled r s).flag f i = s.flag f i := flag_setFld_apart (f := .HOST_RING_STATUS_RING_IDLE) h.regs apart ..

theorem ringIdled_target (a n : Nat) (write : Bool) : dmaTarget (ringIdled r s) a n write = dmaTarget s a n write :=
  dmaTarget_congr (fun q hq i => ringIdled_reg h r (by revert q; decide) i) a n write

theorem sound_idleBacked : (idleBacked r s).Sound :=
  ite_holds (P := State.Sound) h (of_snd (sound_ringWb r s h))

/-- What the write-back and the vector leave of a ring's registers. -/
theorem idleBacked_reg {q : Reg} (hq : q ∈ [Reg.HOST_RING_STATUS, .HOST_RING_HEAD, .HOST_RING_TAIL, .HOST_IRQ_CFG, .SYS_PLANE_STATE,
    .CTL_RING_OWNER]) (i : Nat) : (idleBacked r s).reg q i = s.reg q i := by
  have free : ∀ q ∈ [Reg.HOST_RING_STATUS, .HOST_RING_HEAD, .HOST_RING_TAIL, .HOST_IRQ_CFG, .SYS_PLANE_STATE, .CTL_RING_OWNER],
      freeR ⟨7168, 0x680000000000000000000000000000000000000000000, 0x30500000000000000000000000000000000000000000000000⟩ q = true := by
    decide +kernel
  unfold idleBacked
  split
  · rfl
  · exact (of_snd (kept_ringWb (le_same _) r s (.refl _ s))).reg h (of_snd (sound_ringWb r s h)) (free q hq) i 0

theorem ringRaise_reg {q : Reg} (hq : q ∈ [Reg.HOST_RING_STATUS, .HOST_RING_HEAD, .HOST_RING_TAIL, .CTL_RING_OWNER]) (i : Nat) :
    (ringRaise r s).reg q i = s.reg q i := by
  have free : ∀ q ∈ [Reg.HOST_RING_STATUS, .HOST_RING_HEAD, .HOST_RING_TAIL, .CTL_RING_OWNER],
      freeR ⟨3328, 0x4000000000000000000000000000000000000000000000, 0x4000000000000000000000000000000000000000000000000⟩ q = true := by
    decide +kernel
  exact (kept_ringRaise (le_same _) r s (.refl _ s)).reg h (sound_ringRaise r s h) (free q hq) i 0

theorem dmaMem_ringRaise : dmaMem (ringRaise r s) = dmaMem s := by
  have rest := hostRest_ringRaise r s
  refine dmaMem_congr ?_ (congrArg HostSt.mem rest :) (congrArg HostSt.ext rest :)
  unfold ownerExt State.flag State.fld
  rw [show (ringRaise r s).reg Fld.CTL_RING_OWNER_OWNER.reg = s.reg Fld.CTL_RING_OWNER_OWNER.reg from ringRaise_reg h r (by decide) 0]

omit h in
theorem heldDma_ringRaise (hl : ¬ linked s) : (ringRaise r s).ctl.heldDma = s.ctl.heldDma := by
  unfold ringRaise
  refine ite_holds (P := fun t : State => t.ctl.heldDma = s.ctl.heldDma) ?_ rfl
  unfold raiseVec
  rw [if_neg (show ¬ (setRing r { ringOf s r with irqN := 0, irqAt := none } s).flag .SYS_PLANE_STATE_IDL_UP = true from hl)]
  rfl

end

/-- R312: what an idle ring shows. -/
theorem ringIdle_shows {s : State} (h : s.Sound) (r : Nat) :
    let t := ringRaise r (idleBacked r (ringIdled r s))
    t.flag .HOST_RING_STATUS_RING_IDLE r = true ∧ headOf t r = headOf s r ∧ tailOf t r = tailOf s r
    ∧ (linked s → s.flag .HOST_IRQ_CFG_EN r = true → pends t r) := by
  intro t
  have idled := sound_ringIdled h r
  have backed := sound_idleBacked idled r
  have word : t.reg .HOST_RING_STATUS r = (ringIdled r s).reg .HOST_RING_STATUS r :=
    (ringRaise_reg backed r (by decide) r).trans (idleBacked_reg idled r (by decide) r)
  have shown : (ringIdled r s).flag .HOST_RING_STATUS_RING_IDLE r = true := flag_setFld h.regs (by decide) (by decide) 1 r 0
  refine ⟨?_, congrArg BitVec.toNat ?_, congrArg BitVec.toNat ?_, fun hl en => ?_⟩
  · exact (congrArg (fun w : Word => Fld.HOST_RING_STATUS_RING_IDLE.get w != 0) word).trans shown
  · exact (ringRaise_reg backed r (by decide) r).trans ((idleBacked_reg idled r (by decide) r).trans (ringIdled_reg h r (by decide) r))
  · exact (ringRaise_reg backed r (by decide) r).trans ((idleBacked_reg idled r (by decide) r).trans (ringIdled_reg h r (by decide) r))
  · refine pends_ringRaise backed ?_ ?_
    · exact (congrArg (fun w : Word => Fld.SYS_PLANE_STATE_IDL_UP.get w != 0) ((idleBacked_reg idled r (by decide) 0).trans
        (ringIdled_reg h r (by decide) 0))).trans hl
    · exact (congrArg (fun w : Word => Fld.HOST_IRQ_CFG_EN.get w != 0) ((idleBacked_reg idled r (by decide) r).trans
        (ringIdled_reg h r (by decide) r))).trans en

theorem ownerDown_ringIdled {s : State} (h : s.Sound) (r : Nat) : ownerDown (ringIdled r s) = ownerDown s := by
  unfold ownerDown ownerExt
  rw [ringIdled_flag h r (by decide), ringIdled_flag h r (by decide)]

/-- An idle ring whose write-back is not made. -/
theorem idleBacked_silent {s : State} (h : s.Sound) {r : Nat} (silent : (ringOf s r).quiet = true ∨ ownerDown s = true) :
    idleBacked r (ringIdled r s) = ringIdled r s := by
  unfold idleBacked
  refine if_pos ?_
  rw [ownerDown_ringIdled h, ringOf_congr (ringIdled_host ..), Bool.or_eq_true]
  exact silent

theorem idleBacked_leaves {s : State} (h : s.Sound) {r : Nat} (silent : (ringOf s r).quiet = true ∨ ownerDown s = true) :
    (ringRaise r (idleBacked r (ringIdled r s))).host.mem = s.host.mem
    ∧ (ringRaise r (idleBacked r (ringIdled r s))).host.ext = s.host.ext := by
  have rest : hostRest (ringRaise r (idleBacked r (ringIdled r s))) = hostRest s := by
    rw [hostRest_ringRaise, idleBacked_silent h silent]
    exact hostRest_congr (ringIdled_host ..)
  exact ⟨(congrArg HostSt.mem rest :), (congrArg HostSt.ext rest :)⟩

theorem idleBacked_loud {s : State} {r : Nat} (loud : (ringOf s r).quiet = false) (up : ownerDown s = false) :
    idleBacked r s = (ringWb r s).2 := by
  unfold idleBacked
  exact if_neg (by rw [loud, up]; exact Bool.false_ne_true)

/-- The write-back of an idle ring (R301). -/
theorem idleBacked_writes {s : State} (h : s.Sound) {r y : Nat} (loud : (ringOf s r).quiet = false) (up : ownerDown s = false)
    (target : dmaTarget s (s.reg64 .HOST_RING_WB_LO .HOST_RING_WB_HI r) 64 true = some y) :
    idleBacked r (ringIdled r s)
      = (hostWrite y (fit 64 (toLe 4 (if r < 160 then headOf s r else tailOf s r))) (ringIdled r s)).2 := by
  have slot : (ringIdled r s).reg64 .HOST_RING_WB_LO .HOST_RING_WB_HI r = s.reg64 .HOST_RING_WB_LO .HOST_RING_WB_HI r := by
    unfold State.reg64
    rw [ringIdled_reg h r (by decide), ringIdled_reg h r (by decide)]
  have head : headOf (ringIdled r s) r = headOf s r := congrArg BitVec.toNat (ringIdled_reg h r (by decide) r)
  have tail : tailOf (ringIdled r s) r = tailOf s r := congrArg BitVec.toNat (ringIdled_reg h r (by decide) r)
  rw [idleBacked_loud (by rw [ringOf_congr (ringIdled_host ..), loud]) (by rw [ownerDown_ringIdled h, up]),
    (ringWb_reaches (y := y) (by rw [slot, ringIdled_target h]; exact target)).2, head, tail]

theorem idleBacked_puts {s : State} (h : s.Sound) (hl : linked s) {r y : Nat} (loud : (ringOf s r).quiet = false) (up : ownerDown s = false)
    (target : dmaTarget s (s.reg64 .HOST_RING_WB_LO .HOST_RING_WB_HI r) 64 true = some y)
    (clean : ownerExt s = true ∨ poisoned s y 64 = []) :
    memGet (dmaMem (ringRaise r (idleBacked r (ringIdled r s)))) y 64
      = fit 64 (toLe 4 (if r < 160 then headOf s r else tailOf s r)) := by
  have idled := sound_ringIdled h r
  have len := length_fit 64 (toLe 4 (if r < 160 then headOf s r else tailOf s r))
  rw [dmaMem_ringRaise (sound_idleBacked idled r), idleBacked_writes h loud up target]
  have owner : ownerExt (ringIdled r s) = ownerExt s := ringIdled_flag h r (by decide) 0
  have errors : poisoned (ringIdled r s) y 64 = poisoned s y 64 := by
    unfold poisoned
    rw [ringIdled_host]
  obtain ⟨-, put⟩ := hostWrite_clean (s := ringIdled r s) idled ((ringIdled_flag h r (by decide) 0).trans hl) (x := y)
    (l := fit 64 (toLe 4 (if r < 160 then headOf s r else tailOf s r))) (by rw [owner, len, errors]; exact clean)
  rw [put.mem]
  have stands := memGet_memPut (sorted_dmaMem idled) y (fit 64 (toLe 4 (if r < 160 then headOf s r else tailOf s r)))
  rw [len] at stands
  exact stands

theorem hostWrite_waits {s : State} (hl : ¬ s.flag .SYS_PLANE_STATE_IDL_UP = true) (x : Nat) (l : List Byte) :
    (hostWrite x l s).2.ctl.heldDma = s.ctl.heldDma ++ [⟨ownerExt s, x, l⟩] := by
  rw [hostWrite, if_neg hl]

theorem idleBacked_waits {s : State} (h : s.Sound) (hl : ¬ linked s) {r y : Nat} (loud : (ringOf s r).quiet = false)
    (up : ownerDown s = false) (target : dmaTarget s (s.reg64 .HOST_RING_WB_LO .HOST_RING_WB_HI r) 64 true = some y) :
    (ringRaise r (idleBacked r (ringIdled r s))).ctl.heldDma = s.ctl.heldDma
      ++ [⟨ownerExt s, y, fit 64 (toLe 4 (if r < 160 then headOf s r else tailOf s r))⟩] := by
  have idled := sound_ringIdled h r
  have link : ¬ (ringIdled r s).flag .SYS_PLANE_STATE_IDL_UP = true := by
    rw [ringIdled_flag h r (by decide)]
    exact hl
  have owner : ownerExt (ringIdled r s) = ownerExt s := ringIdled_flag h r (by decide) 0
  have backed : ¬ linked (idleBacked r (ringIdled r s)) := fun l => hl
    (((congrArg (fun w : Word => Fld.SYS_PLANE_STATE_IDL_UP.get w != 0) ((idleBacked_reg idled r (by decide) 0).trans
        (ringIdled_reg h r (by decide) 0)))).symm.trans l)
  rw [heldDma_ringRaise r backed, idleBacked_writes h loud up target, hostWrite_waits link, owner, ringIdled_ctl]

/-- Settles O48: a ring that is enabled starts (`ringStarted_shows`), one that is disabled stops (`stopRing_shows`) and shows idle once
its last unit is gone (`ringIdle_shows`), and a window in use keeps its settings. -/
theorem ringAndWindowSettings : Obligations.RingAndWindowSettings := by
  unfold Obligations.RingAndWindowSettings
  refine ⟨fun s a r h hl => ?_, fun s a r h hl => ?_, fun s r h => ?_, fun s a w k v h hl hk => ?_, fun s a w v h hl => ?_⟩
  case refine_1 =>
    have sent := (Sends.refl h).send 0 0 1 0
    have run := exec_ringEnable_linked hl a r
    have start := fun aa oo hm => (Sofar.start h aa oo []).send hm 0 0 1 0
    rw [ringEnable_eq, ringWritable_sends sent, canEnable_sends sent] at run
    refine ⟨fun shut => ?_, fun writable bad => ?_, fun writable good => ?_⟩
    · rw [if_pos (by rw [shut]; rfl)] at run
      exact ⟨_, run, sent.logged (write32_fits (by decide) a (unfused_ringCtrl r).2)⟩
    · rw [if_neg (by rw [writable]; exact Bool.false_ne_true), if_neg (by rw [bad]; exact Bool.false_ne_true)] at run
      refine ⟨_, run, flag_setFld sent.sound.regs (by decide) (by decide) 1 r 0, ?_,
        ((start [.ctl] [Reg.off .HOST_RING_STATUS r] (by decide)).setFld .HOST_RING_STATUS_CFG_ERR 1 r 0 List.mem_cons_self).only⟩
      have off : ringEn s r = false := by
        rw [ringWritable, Bool.and_eq_true, Bool.not_eq_true'] at writable
        exact writable.1
      exact (flag_setFld_apart sent.sound.regs (by decide) ..).trans ((flag_congr sent.regs ..).trans off)
    · rw [if_neg (by rw [writable]; exact Bool.false_ne_true), if_pos good] at run
      obtain ⟨en, running, err, code, idle, head, tail, units⟩ := ringStarted_shows sent.sound r
      refine ⟨_, run, en, running, err, code, idle, head.trans ?_, tail.trans ?_, units.trans ?_,
        ((start [.host, .ctl] [Reg.off .HOST_RING_STATUS r, Reg.off .HOST_RING_CTRL r, Reg.off .HOST_RING_TAIL r] (by decide)).ringStarted
          (by decide) (by simp) (by simp) (by simp)).only⟩
      · rw [headOf, reg_congr sent.regs]; rfl
      · rw [headOf, tailOf, reg_congr sent.regs, reg_congr sent.regs]; rfl
      · rw [ringOf_congr sent.host]
  case refine_2 =>
    have sent := (Sends.refl h).send 0 0 1 0
    have run := exec_ringDisable_linked hl a r
    have same : ringEn (idlSend 0 0 1 0 s) r = ringEn s r := flag_congr sent.regs ..
    rw [ringDisable, same] at run
    refine ⟨fun en => ?_, fun off => ?_⟩
    · rw [if_pos en] at run
      obtain ⟨off, idle, units, raw, pre⟩ := stopRing_shows sent.sound r.isLt
      refine ⟨_, run, off, idle, units.trans ?_, raw, pre,
        (((Sofar.start h [.host, .ctl] [Reg.off .HOST_RING_STATUS r, Reg.off .HOST_RING_CTRL r] []).send (by decide) 0 0 1 0).stopRing
          (by decide) (by simp) (by simp)).only⟩
      rw [ringOf_congr sent.host]
    · rw [if_neg (by rw [off]; exact Bool.false_ne_true)] at run
      exact ⟨_, run, ((Sofar.start h [.ctl] [] []).send (by decide) 0 0 1 0).only⟩
  case refine_3 =>
    refine ⟨fun not => congrArg Host.Outcome.next (ringIdle_stays not), fun on none => ?_⟩
    obtain ⟨idle, head, tail, raised⟩ := ringIdle_shows h r
    refine ⟨_, congrArg Host.Outcome.next (ringIdle_stops on none), idle, head, tail, raised, fun silent => ?_, fun y loud up target => ⟨fun hl clean => ?_, fun hl => ?_⟩⟩
    · exact idleBacked_leaves h silent
    · exact idleBacked_puts h hl loud up target clean
    · exact idleBacked_waits h hl loud up target
  case refine_4 =>
    have sent := (Sends.refl h).send 0 0 1 0
    have run := exec_winCfgWrite_linked hl a w k v
    rw [winAddr_write a w k hk v, flag_congr sent.regs] at run
    refine ⟨fun en => ?_, fun off => ?_⟩
    · rw [if_pos en] at run
      exact ⟨_, run, winReg_logged h a w k v⟩
    · rw [if_neg (by rw [off]; exact Bool.false_ne_true)] at run
      exact ⟨_, run, reg_setReg sent.sound.regs ..,
        (((Sofar.start h [.ctl] [Reg.off (winReg k) w] []).send (by decide) 0 0 1 0).setReg (winReg k) v w 0 List.mem_cons_self).only⟩
  case refine_5 =>
    have sent := (Sends.refl h).send 0 0 1 0
    have run : exec (.winCfgWrite a w 0 v) s = .next (winCfg' (write32 a .HOST_WIN_CFG v.toNat w) w (idlSend 0 0 1 0 s)) :=
      exec_winCfgWrite_linked hl a w 0 v
    have old : s.fld .HOST_WIN_CFG_SIZE_LOG2 w < 64 := fld_lt s .HOST_WIN_CFG_SIZE_LOG2 w 0
    have base : winBad v w (idlSend 0 0 1 0 s) = winBad v w s := by
      unfold winBad State.reg64
      rw [reg_congr sent.regs, reg_congr sent.regs]
    rw [winCfg'_eq, flag_congr sent.regs, fld_congr sent.regs, winSize_get, get_bit rfl, base] at run
    refine ⟨fun en => ?_, fun off => ⟨fun on bad => ?_, fun good => ?_⟩⟩
    · rw [if_pos en] at run
      by_cases same : v.toNat % 64 = s.fld .HOST_WIN_CFG_SIZE_LOG2 w
      · rw [if_pos same] at run
        obtain ⟨enable, write, size, only⟩ := winPut_done h v w old
        exact ⟨_, run, enable, write, size, fun _ => only, fun ne => absurd same ne⟩
      · rw [if_neg same] at run
        obtain ⟨enable, write, size, logged⟩ := winPut_logged h a v w old
        exact ⟨_, run, enable, write, size, fun e => absurd e same, fun _ => logged⟩
    · have refused : winBad v w s = true := by
        rw [winBad, winSize_get, Bool.or_eq_true, Bool.or_eq_true, decide_eq_true_eq, decide_eq_true_eq, bne_iff_ne, or_assoc]
        exact bad
      rw [if_neg (by rw [off]; exact Bool.false_ne_true), show Fld.HOST_WIN_CFG_EN.lo = 31 from rfl, on, refused] at run
      exact ⟨_, run.trans (congrArg Host.Outcome.next (if_pos rfl)), winReg_logged h a w 0 v⟩
    · have taken : ¬ (decide (b2n (v.getLsbD Fld.HOST_WIN_CFG_EN.lo) = 1) && winBad v w s) = true := by
        rw [show Fld.HOST_WIN_CFG_EN.lo = 31 from rfl]
        rcases good with off | ⟨least, most, base⟩
        · rw [off]; exact Bool.false_ne_true
        · rw [winBad, winSize_get, decide_eq_false (Nat.not_lt.mpr least), decide_eq_false (Nat.not_lt.mpr most), base]
          simp
      rw [if_neg (by rw [off]; exact Bool.false_ne_true), if_neg taken] at run
      exact ⟨_, run, winPut_done h v w (Nat.mod_lt _ (by decide))⟩

end Sys2Proof.Machine
end

section
/-!
SUPPORT. How a ring's entries are fetched and its HEAD is written back (R301, R302, R306, R311).
-/
namespace Sys2Proof.Machine

/-! ### Reading entries -/

/-- The write-back of a ring has been made: its slot holds an index, and nothing else of the ring has changed. -/
structure BackedUp (w t : State) (y idx : Nat) : Prop where
  sound : t.Sound
  regs : t.regs = w.regs
  slot : memGet (dmaMem t) y 64 = fit 64 (toLe 4 idx)
  rings : t.host.rings = w.host.rings

theorem hostRead_clean {s : State} {x n : Nat} (h : s.Sound) (clean : ownerExt s = true ∨ poisoned s x n = []) :
    (hostRead x n s).1 = some (memGet (dmaMem s) x n) ∧ (hostRead x n s).2 = idlSend 3 1 1 (flitsOf n) s := by
  have sent := (Sends.refl h).send 3 1 1 (flitsOf n)
  have owner : ownerExt (idlSend 3 1 1 (flitsOf n) s) = ownerExt s := ownerExt_regs sent.regs
  have errors : poisoned (idlSend 3 1 1 (flitsOf n) s) x n = poisoned s x n := by
    unfold poisoned
    rw [sent.host]
  unfold hostRead
  dsimp only
  rw [owner, errors, sent.host]
  by_cases ext : ownerExt s = true
  · rw [if_pos ext, dmaMem, if_pos ext]
    exact ⟨rfl, rfl⟩
  · rw [if_neg ext, clean.resolve_left ext, dmaMem, if_neg ext]
    exact ⟨rfl, rfl⟩

/-- The link carries the read of an entry. -/
def entryRead (s : State) : State := idlSend 3 1 1 (flitsOf 32) s

theorem entryRead_sends {s : State} (h : s.Sound) : Sends s (entryRead s) := (Sends.refl h).send 3 1 1 (flitsOf 32)

theorem readEntry_reads {s : State} (h : s.Sound) {r i x : Nat}
    (target : dmaTarget s (ringBase s r + i % ringSize s r * entLen r) 32 false = some x)
    (clean : ownerExt s = true ∨ poisoned s x 32 = []) :
    readEntry r i s = (some ⟨i, some (memGet (dmaMem s) x 32)⟩, entryRead s) := by
  obtain ⟨data, sent⟩ := hostRead_clean h clean
  unfold readEntry
  rw [target, entryRead, ← sent, ← data]

/-- R306: a run of one entry, whose CHAIN is clear. -/
theorem readRun_one {s : State} (h : s.Sound) {r i x tail : Nat} (f : Nat) (some' : i ≠ tail)
    (target : dmaTarget s (ringBase s r + i % ringSize s r * entLen r) 32 false = some x)
    (clean : ownerExt s = true ∨ poisoned s x 32 = []) (last : (entWord (memGet (dmaMem s) x 32) 0).testBit 63 = false) :
    readRun r tail (f + 1) i [] s = (some [⟨i, some (memGet (dmaMem s) x 32)⟩], true, entryRead s) := by
  rw [readRun, if_neg some', readEntry_reads h target clean]
  generalize memGet (dmaMem s) x 32 = d at last ⊢
  exact if_pos (show (!(entWord d 0).testBit 63) = true by rw [last]; rfl)

/-! ### A chain is taken -/

theorem setUnits_reg {s : State} (h : s.Sound) (r : Nat) (l : List RUnit) {q : Reg} (apart : regApart q .HOST_CPL_STATUS = true) (i : Nat) :
    (setUnits r l s).reg q i = s.reg q i := by
  have put := sound_setRing r { ringOf s r with units := l } s h
  unfold setUnits showHeld
  exact ite_holds (P := fun t : State => t.reg q i = s.reg q i) (reg_setFld_apart (f := .HOST_CPL_STATUS_HELD) put.regs apart ..) rfl

/-- R318: the number of holding slots taken. -/
theorem setUnits_held {s : State} (h : s.Sound) {r : Nat} (hr : r < 160) (l : List RUnit) : (setUnits r l s).fld .HOST_CPL_STATUS_HELD r
    = l.length % 2 ^ (Fld.HOST_CPL_STATUS_HELD.hi + 1 - Fld.HOST_CPL_STATUS_HELD.lo) := by
  have put := sound_setRing r { ringOf s r with units := l } s h
  unfold setUnits showHeld
  rw [if_pos hr, fld_setFld put.regs (by decide) (by decide), ringOf_setRing h]

/-- The unit of a run that has been fetched from HEAD. -/
def chainUnit (x : RingSt) (r : Nat) (es : List Entry) (s : State) : RUnit :=
  ⟨x.nextId, headOf s r, es.length, runCookie es, match runStatus r es with
    | some c => .done { status := c, cookie := runCookie es, first := headOf s r, nent := es.length }
    | none => .fetched es, false, s.now⟩

/-- HEAD passes a run. -/
def headPassed (r : Nat) (es : List Entry) (s : State) : State := setHead r (add32 (headOf s r) es.length) s

/-- A ring has given out a unit's number. -/
def numbered (x : RingSt) (r : Nat) (s : State) : State := setRing r { ringOf s r with nextId := x.nextId + 1 } s

/-- A run of a ring becomes a unit of work. -/
def chainTaken (x : RingSt) (r : Nat) (es : List Entry) (s : State) : State :=
  setUnits r (x.units ++ [chainUnit x r es s]) (numbered x r (headPassed r es s))

theorem fetchChains_done {s : State} {r : Nat} (none : headOf s r = tailOf s r) (f : Nat) : fetchChains r f s = s := by
  cases f with
  | zero => rfl
  | succ f =>
    rw [fetchChains, if_pos]
    rw [Bool.or_eq_true, decide_eq_true_eq]
    exact .inr none

theorem fetchChains_takes {s u : State} {r f : Nat} {es : List Entry} {ok : Bool} (en : ringEn s r = true)
    (room : (ringOf s r).units.length < 64) (some' : headOf s r ≠ tailOf s r)
    (run : readRun r (tailOf s r) (ringSize s r) (headOf s r) [] s = (some es, ok, u))
    (fits : inflight (ringOf s r).units + min es.length 64 ≤ 64) :
    fetchChains r (f + 1) s = if (ringWb r (chainTaken (ringOf s r) r es u)).1 then
        fetchChains r f (ringWb r (chainTaken (ringOf s r) r es u)).2
      else stopLost r (ringWb r (chainTaken (ringOf s r) r es u)).2 := by
  rw [fetchChains, if_neg (by rw [en, decide_eq_false (Nat.not_le.mpr room), decide_eq_false some']; exact Bool.false_ne_true), run]
  exact if_neg (Nat.not_lt.mpr fits)

section
variable {s : State} (h : s.Sound) (x : RingSt) (r : Nat) (es : List Entry)
include h

theorem sound_chainTaken : (chainTaken x r es s).Sound := sound_setUnits _ _ _ (sound_setRing _ _ _ (sound_setHead _ _ _ h))

theorem chainTaken_reg {q : Reg} (head : regApart q .HOST_RING_HEAD = true) (held : regApart q .HOST_CPL_STATUS = true) (i : Nat) :
    (chainTaken x r es s).reg q i = s.reg q i :=
  (setUnits_reg (sound_setRing _ _ _ (sound_setHead _ _ _ h)) r _ held i).trans (reg_setReg_apart h.regs head ..)

theorem chainTaken_head : headOf (chainTaken x r es s) r = add32 (headOf s r) es.length := by
  refine (congrArg BitVec.toNat (setUnits_reg (sound_setRing _ _ _ (sound_setHead _ _ _ h)) r _ (by decide) r)).trans ?_
  refine (congrArg BitVec.toNat (reg_setReg h.regs ..)).trans ?_
  rw [BitVec.toNat_ofNat]
  exact Nat.mod_eq_of_lt (add32_lt _ _)

theorem chainTaken_units : (ringOf (chainTaken x r es s) r).units = x.units ++ [chainUnit x r es s] :=
  units_setUnits (sound_setRing _ _ _ (sound_setHead _ _ _ h)) ..

theorem chainTaken_held (hr : r < 160) : (chainTaken x r es s).fld .HOST_CPL_STATUS_HELD r
    = (x.units.length + 1) % 2 ^ (Fld.HOST_CPL_STATUS_HELD.hi + 1 - Fld.HOST_CPL_STATUS_HELD.lo) := by
  have held := setUnits_held (s := numbered x r (headPassed r es s)) (sound_setRing _ _ _ (sound_setHead _ _ _ h)) hr (x.units ++ [chainUnit x r es s])
  rw [List.length_append] at held
  exact held

end

/-- R301: the write-back of a ring whose slot and memory take it. -/
theorem ringWb_backs {w : State} (h : w.Sound) (hl : linked w) {r y : Nat}
    (target : dmaTarget w (w.reg64 .HOST_RING_WB_LO .HOST_RING_WB_HI r) 64 true = some y)
    (clean : ownerExt w = true ∨ poisoned w y 64 = []) :
    (ringWb r w).1 = true ∧ BackedUp w (ringWb r w).2 y (if r < 160 then headOf w r else tailOf w r) := by
  obtain ⟨ok, state⟩ := ringWb_reaches target
  have len := length_fit 64 (toLe 4 (if r < 160 then headOf w r else tailOf w r))
  obtain ⟨-, sound, regs, mem, -, m, e, p, host⟩ := hostWrite_clean h hl (x := y)
    (l := fit 64 (toLe 4 (if r < 160 then headOf w r else tailOf w r))) (by rw [len]; exact clean)
  have stands := memGet_memPut (sorted_dmaMem h) y (fit 64 (toLe 4 (if r < 160 then headOf w r else tailOf w r)))
  rw [len] at stands
  rw [state]
  exact ⟨ok, sound, regs, by rw [mem]; exact stands, by rw [host]⟩

theorem Sofar.hostWrite {s u : State} {aa : List Area} {oo cc : List Nat} (k : Sofar s u aa oo cc) (hh : Area.host ∈ aa)
    (hc : Area.ctl ∈ aa) (h : u.Sound) (hl : linked u) {x : Nat} {l : List Byte} (clean : ownerExt u = true ∨ poisoned u x l.length = []) :
    Sofar s (hostWrite x l u).2 aa oo cc := by
  have sent := (Sends.refl h).send 5 1 (flitsOf l.length) 0
  have errors : poisoned (idlSend 5 1 (flitsOf l.length) 0 u) x l.length = poisoned u x l.length := by
    unfold poisoned
    rw [sent.host]
  rw [hostWrite_linked hl]
  unfold dmaStore
  dsimp only
  split
  · exact (k.send hc 5 1 _ 0).setHost hh _
  · next ho =>
    obtain ⟨p, -, e⟩ := memWrite_clean (errors.trans (clean.resolve_left ho))
    rw [e]
    exact (k.send hc 5 1 _ 0).setHost hh _

theorem dmaUp_linked {s : State} (up : dmaUp s = true) : linked s := (Bool.and_eq_true _ _ ▸ up).1

/-! ### RING_FETCH -/

theorem ringFetch_down {s : State} (down : dmaUp s = false) (r : Fin 160) : exec (.ringFetch r) s = .next s :=
  congrArg Host.Outcome.next (if_neg (by rw [down]; exact Bool.false_ne_true))

theorem ringFetch_chains {s : State} (up : dmaUp s = true) {r : Fin 160} (side : r.val < 64 ∨ 128 ≤ r.val) :
    exec (.ringFetch r) s = .next (fetchChains r 64 s) := by
  have apart : ¬ (decide (64 ≤ r.val) && decide (r.val < 128)) = true := by
    rw [Bool.and_eq_true, decide_eq_true_eq, decide_eq_true_eq]
    omega
  exact congrArg Host.Outcome.next ((if_pos up).trans (if_neg apart))

theorem entLen_small {r : Nat} (hr : r < 160) : entLen r = 32 := if_neg (by omega)

theorem add32_ne (a : Nat) : a ≠ add32 a 1 := by
  unfold add32
  omega

section
variable {s : State} {r x y : Nat}

/-- The entry at HEAD. -/
def headEntry (s : State) (r x : Nat) : Entry := ⟨headOf s r, some (memGet (dmaMem s) x 32)⟩

/-- The ring after its one entry became a unit. -/
def oneTaken (s : State) (r x : Nat) : State := chainTaken (ringOf s r) r [headEntry s r x] (entryRead s)

theorem sound_oneTaken (h : s.Sound) : (oneTaken s r x).Sound := sound_chainTaken (entryRead_sends h).sound ..

theorem oneTaken_reg (h : s.Sound) {q : Reg} (head : regApart q .HOST_RING_HEAD = true) (held : regApart q .HOST_CPL_STATUS = true) (i : Nat) :
    (oneTaken s r x).reg q i = s.reg q i :=
  (chainTaken_reg (entryRead_sends h).sound _ r _ head held i).trans (reg_congr (entryRead_sends h).regs ..)

theorem oneTaken_target (h : s.Sound) (a n : Nat) (write : Bool) : dmaTarget (oneTaken s r x) a n write = dmaTarget s a n write :=
  dmaTarget_congr (fun q hq i => oneTaken_reg h (by revert q; decide) (by revert q; decide) i) a n write

theorem oneTaken_poisoned (h : s.Sound) (a n : Nat) : poisoned (oneTaken s r x) a n = poisoned s a n := by
  have rest : hostRest (oneTaken s r x) = hostRest s :=
    (hostRest_setUnits ..).trans ((hostRest_setRing ..).trans ((hostRest_setReg ..).trans (hostRest_congr (entryRead_sends h).host)))
  have poison : (oneTaken s r x).host.poison = s.host.poison := (congrArg HostSt.poison rest :)
  unfold poisoned
  rw [poison]

theorem oneTaken_head (h : s.Sound) : headOf (oneTaken s r x) r = add32 (headOf s r) 1 := by
  refine (chainTaken_head (entryRead_sends h).sound ..).trans ?_
  rw [headOf, reg_congr (entryRead_sends h).regs]
  rfl

/-- R302, R306: one entry is fetched, and HEAD is written back. -/
theorem fetchChains_one (h : s.Sound) (hl : linked s) (hr : r < 160) (en : ringEn s r = true) (none : (ringOf s r).units = [])
    (tail : tailOf s r = add32 (headOf s r) 1)
    (target : dmaTarget s (ringBase s r + headOf s r % ringSize s r * 32) 32 false = some x)
    (slot : dmaTarget s (s.reg64 .HOST_RING_WB_LO .HOST_RING_WB_HI r) 64 true = some y)
    (clean : ownerExt s = true ∨ (poisoned s x 32 = [] ∧ poisoned s y 64 = []))
    (last : (entWord (memGet (dmaMem s) x 32) 0).testBit 63 = false) :
    ∃ t, fetchChains r 64 s = t ∧ BackedUp (oneTaken s r x) t y (tailOf s r) := by
  have taken := sound_oneTaken (r := r) (x := x) h
  have ne : headOf s r ≠ tailOf s r := tail ▸ add32_ne _
  obtain ⟨n, size⟩ : ∃ n, ringSize s r = n + 1 := ⟨_, (Nat.succ_pred_eq_of_pos (Nat.two_pow_pos _)).symm⟩
  have run := readRun_one h n ne (by rw [entLen_small hr]; exact target) (clean.imp id And.left) last
  rw [← size] at run
  have step := fetchChains_takes (f := 63) en (by rw [none]; decide) ne run (by rw [none]; show 1 ≤ 64; decide)
  have wbReg : (oneTaken s r x).reg64 .HOST_RING_WB_LO .HOST_RING_WB_HI r = s.reg64 .HOST_RING_WB_LO .HOST_RING_WB_HI r := by
    unfold State.reg64
    rw [oneTaken_reg h (by decide) (by decide), oneTaken_reg h (by decide) (by decide)]
  have owner : ownerExt (oneTaken s r x) = ownerExt s := by
    unfold ownerExt State.flag State.fld
    rw [oneTaken_reg h (by decide) (by decide)]
  have link : linked (oneTaken s r x) := by
    unfold linked State.flag State.fld
    rw [oneTaken_reg h (by decide) (by decide)]
    exact hl
  obtain ⟨ok, backed⟩ := ringWb_backs taken link (r := r) (y := y) (by rw [wbReg, oneTaken_target h]; exact slot)
    (by rw [owner, oneTaken_poisoned h]; exact clean.imp id And.right)
  rw [if_pos hr, oneTaken_head h, ← tail] at backed
  refine ⟨_, step.trans ((if_pos ok).trans (fetchChains_done ?_ 63)), backed⟩
  have head : headOf (ringWb r (oneTaken s r x)).2 r = headOf (oneTaken s r x) r := congrArg BitVec.toNat (reg_congr backed.regs ..)
  have tail' : tailOf (ringWb r (oneTaken s r x)).2 r = tailOf s r := congrArg BitVec.toNat
    ((reg_congr backed.regs ..).trans (oneTaken_reg h (by decide) (by decide) r))
  exact head.trans ((oneTaken_head h).trans (tail.symm.trans tail'.symm))

theorem runStatus_one (hr : r < 64) (i : Nat) (d : List Byte) :
    runStatus r [⟨i, some d⟩] = if bits (entWord d 0) 55 48 = 1 then none else some 0x10 := by
  have read : [(⟨i, some d⟩ : Entry)].filterMap (fun e => e.data) = [d] := rfl
  rw [runStatus, read]
  refine (if_neg (show ¬ 64 < 1 by decide)).trans ((if_neg (show ¬ 1 < 1 by decide)).trans ((if_pos hr).trans ?_))
  rw [List.all_cons, List.all_nil, Bool.and_true]
  exact ite_congr (propext beq_iff_eq) (fun _ => rfl) (fun _ => rfl)

/-- The unit of the one entry (R302, R306, R309). -/
theorem oneTaken_unit (h : s.Sound) (none : (ringOf s r).units = []) :
    ∃ u, (ringOf (oneTaken s r x) r).units = [u] ∧ u.first = headOf s r ∧ u.nent = 1 ∧ u.lost = false ∧ u.clk = s.now
      ∧ u.cookie = bits (entWord (memGet (dmaMem s) x 32) 0) 47 32
      ∧ ((r < 64 → bits (entWord (memGet (dmaMem s) x 32) 0) 55 48 = 1 → u.st = .fetched [headEntry s r x])
        ∧ (r < 64 → bits (entWord (memGet (dmaMem s) x 32) 0) 55 48 ≠ 1 →
          u.st = .done { status := 0x10, cookie := u.cookie, first := headOf s r, nent := 1 })) := by
  have sent := entryRead_sends h
  have head : headOf (entryRead s) r = headOf s r := congrArg BitVec.toNat (reg_congr sent.regs ..)
  refine ⟨chainUnit (ringOf s r) r [headEntry s r x] (entryRead s), ?_, head, rfl, rfl, ?_, rfl, fun hr op => ?_, fun hr op => ?_⟩
  · rw [oneTaken, chainTaken_units sent.sound, none]
    rfl
  · obtain ⟨-, m, e⟩ := sent
    exact (congrArg State.now e :)
  · unfold chainUnit headEntry
    rw [runStatus_one hr, if_pos op]
  · unfold chainUnit headEntry
    rw [runStatus_one hr, if_neg op, head]
    rfl

end

/-! ### Receive descriptors are read ahead -/

/-- A receive ring has read a descriptor ahead. -/
def descRead (r : Nat) (x : RingSt) (e : Entry) (s : State) : State :=
  setRing r { ringOf s r with raw := x.raw ++ [e], preAt := add32 x.preAt 1 } s

theorem prefetch_done {s : State} {r : Nat} (none : (ringOf s r).preAt = tailOf s r) (f : Nat) : prefetch r f s = s := by
  cases f with
  | zero => rfl
  | succ f =>
    rw [prefetch, if_pos]
    rw [Bool.or_eq_true, decide_eq_true_eq]
    exact .inr none

theorem prefetch_reads {s u : State} {r f : Nat} {e : Entry} (en : ringEn s r = true)
    (room : (ringOf s r).raw.length + (ringOf s r).pre.length < 64) (some' : (ringOf s r).preAt ≠ tailOf s r)
    (read : readEntry r (ringOf s r).preAt s = (some e, u)) :
    prefetch r (f + 1) s = prefetch r f (descRead r (ringOf s r) e u) := by
  rw [prefetch, if_neg (by rw [en, decide_eq_false (Nat.not_le.mpr room), decide_eq_false some']; exact Bool.false_ne_true), read]
  rfl

theorem ringFetch_rx {s : State} (up : dmaUp s = true) (r : Fin 64) :
    exec (.ringFetch ⟨64 + r, by omega⟩) s = .next (fetchRx (64 + r) s) := by
  have side : (decide (64 ≤ 64 + r.val) && decide (64 + r.val < 128)) = true := by
    rw [Bool.and_eq_true, decide_eq_true_eq, decide_eq_true_eq]
    omega
  exact congrArg Host.Outcome.next ((if_pos up).trans (if_pos side))

theorem fetchRx_backs {s v : State} {r : Nat} (read : prefetch r 64 s = v) (moved : (ringOf v r).preAt ≠ (ringOf s r).preAt)
    (en : ringEn v r = true) (ok : (ringWb r v).1 = true) : fetchRx r s = (ringWb r v).2 := by
  unfold fetchRx
  dsimp only
  rw [read, if_neg (by rw [en, decide_eq_false moved]; exact Bool.false_ne_true)]
  exact if_pos ok

section
variable {s : State} {r x y : Nat}

/-- The ring after its one descriptor was read. -/
def oneRead (s : State) (r x : Nat) : State :=
  descRead r (ringOf s r) ⟨(ringOf s r).preAt, some (memGet (dmaMem s) x 32)⟩ (entryRead s)

theorem sound_oneRead (h : s.Sound) : (oneRead s r x).Sound := sound_setRing _ _ _ (entryRead_sends h).sound

theorem oneRead_regs (h : s.Sound) : (oneRead s r x).regs = s.regs := (setRing_regs ..).trans (entryRead_sends h).regs

theorem oneRead_ring (h : s.Sound) : ringOf (oneRead s r x) r = { ringOf s r with
    raw := (ringOf s r).raw ++ [⟨(ringOf s r).preAt, some (memGet (dmaMem s) x 32)⟩], preAt := add32 (ringOf s r).preAt 1 } := by
  rw [oneRead, descRead, ringOf_setRing (entryRead_sends h).sound, ringOf_congr (entryRead_sends h).host]

theorem oneRead_poisoned (h : s.Sound) (a n : Nat) : poisoned (oneRead s r x) a n = poisoned s a n := by
  have rest : hostRest (oneRead s r x) = hostRest s := (hostRest_setRing ..).trans (hostRest_congr (entryRead_sends h).host)
  have poison : (oneRead s r x).host.poison = s.host.poison := (congrArg HostSt.poison rest :)
  unfold poisoned
  rw [poison]

/-- R301, R311: one descriptor is read ahead, with the write-back of HEAD. -/
theorem fetchRx_one (h : s.Sound) (hl : linked s) (hr : r < 160) (en : ringEn s r = true)
    (room : (ringOf s r).raw.length + (ringOf s r).pre.length < 64) (tail : tailOf s r = add32 (ringOf s r).preAt 1)
    (target : dmaTarget s (ringBase s r + (ringOf s r).preAt % ringSize s r * 32) 32 false = some x)
    (slot : dmaTarget s (s.reg64 .HOST_RING_WB_LO .HOST_RING_WB_HI r) 64 true = some y)
    (clean : ownerExt s = true ∨ (poisoned s x 32 = [] ∧ poisoned s y 64 = [])) :
    ∃ t, fetchRx r s = t ∧ BackedUp (oneRead s r x) t y (headOf s r) ∧ s.Only t [.host, .ctl] [] [] := by
  have read := sound_oneRead (r := r) (x := x) h
  have regs := oneRead_regs (r := r) (x := x) h
  have entry := readEntry_reads (r := r) (i := (ringOf s r).preAt) h (by rw [entLen_small hr]; exact target) (clean.imp id And.left)
  have one := prefetch_reads (f := 63) en room (by rw [tail]; exact add32_ne _) entry
  have stopped : (ringOf (oneRead s r x) r).preAt = tailOf (oneRead s r x) r := by
    rw [oneRead_ring h, tailOf, reg_congr regs]
    exact tail.symm
  have link : linked (oneRead s r x) := (flag_congr regs ..).trans hl
  have slot' : dmaTarget (oneRead s r x) ((oneRead s r x).reg64 .HOST_RING_WB_LO .HOST_RING_WB_HI r) 64 true = some y := by
    unfold State.reg64
    rw [dmaTarget_congr (fun q _ i => reg_congr regs q i 0), reg_congr regs, reg_congr regs]
    exact slot
  have clean' : ownerExt (oneRead s r x) = true ∨ poisoned (oneRead s r x) y 64 = [] := by
    rw [ownerExt_regs regs, oneRead_poisoned h]
    exact clean.imp id And.right
  obtain ⟨ok, backed⟩ := ringWb_backs read link (r := r) slot' clean'
  have head : headOf (oneRead s r x) r = headOf s r := congrArg BitVec.toNat (reg_congr regs ..)
  rw [if_pos hr, head] at backed
  refine ⟨_, fetchRx_backs (one.trans (prefetch_done stopped 63)) ?_ ((flag_congr regs ..).trans en) ok, backed, ?_⟩
  · rw [oneRead_ring h]
    exact (add32_ne _).symm
  · have len := length_fit 64 (toLe 4 (if r < 160 then headOf (oneRead s r x) r else tailOf (oneRead s r x) r))
    rw [(ringWb_reaches slot').2]
    exact ((((Sofar.start h [.host, .ctl] [] []).send (by decide) 3 1 1 _).setHost (by decide) _).hostWrite (by decide) (by decide)
      read link (by rw [len]; exact clean')).only

end

end Sys2Proof.Machine
end

section
/-!
SUPPORT. How a transmit chain and a receive descriptor are checked (R311, R321, R322).
-/
namespace Sys2Proof.Machine

/-! ### TX_DESCRIPTOR -/

theorem Sofar.setUnits {s u : State} {aa : List Area} {oo cc : List Nat} {r : Nat} (k : Sofar s u aa oo cc) (hh : Area.host ∈ aa)
    (held : Reg.off .HOST_CPL_STATUS r ∈ oo) (l : List RUnit) : Sofar s (setUnits r l u) aa oo cc := by
  have put : Sofar s (setRing r { ringOf u r with units := l } u) aa oo cc := k.setHost hh _
  exact ite_holds (P := fun t => Sofar s t aa oo cc) (put.setFld .HOST_CPL_STATUS_HELD _ r 0 held) put

/-- The units of a ring, of which one has come to a state. -/
def unitsAt (l : List RUnit) (id : Nat) (st : UnitSt) : List RUnit := l.map fun u => if u.id = id then { u with st := st } else u

theorem mem_unitsAt {l : List RUnit} {u : RUnit} (h : u ∈ l) (st : UnitSt) : ∃ v ∈ unitsAt l u.id st, v.id = u.id ∧ v.st = st := by
  refine ⟨_, List.mem_map_of_mem h, ?_⟩
  rw [if_pos rfl]
  exact ⟨rfl, rfl⟩

theorem finish_kept {s : State} {r id : Nat} {c : Cpl} (kept : ∀ v ∈ (ringOf s r).units, v.lost = false)
    (low : c.status < 0x20) : finish r id c s = setUnits r (unitsAt (ringOf s r).units id (.done c)) s := by
  have none : (ringOf s r).units.any (fun u => u.id == id && u.lost) = false := by
    rw [List.any_eq_false]
    intro v hv
    rw [kept v hv, Bool.and_false]
    exact Bool.false_ne_true
  unfold finish
  rw [decide_eq_false (Nat.not_le.mpr low)]
  exact if_neg (by rw [show s.countIf (false && decide (c.status ≤ 0x23)) .TBL_WRITE_ERR_CNT = s from rfl, none]; exact Bool.false_ne_true)

theorem oldestFetched_mem {s : State} {r : Nat} {u : RUnit} {es : List Entry} (h : oldestFetched s r = some (u, es)) :
    u ∈ (ringOf s r).units := by
  obtain ⟨v, hv, e⟩ := List.exists_of_findSome?_eq_some h
  split at e
  · cases e
    exact hv
  · cases e

theorem txCheck_low (s : State) (r : Nat) (es : List (List Byte)) : txCheck s r es < 0x20 := by
  unfold txCheck
  dsimp only
  exact ite_holds (P := (· < 0x20)) (by decide) (ite_holds (P := (· < 0x20)) (by decide) (ite_holds (P := (· < 0x20)) (by decide) (by decide)))

/-- R321: the checked chain waits, or is completed as malformed. -/
theorem txDescriptor_checks {s : State} (h : s.Sound) {r : Fin 64} {u : RUnit} {es : List Entry} (oldest : oldestFetched s r = some (u, es))
    (kept : ∀ v ∈ (ringOf s r).units, v.lost = false) :
    completes (.txDescriptor r) s fun t =>
      (∃ v ∈ (ringOf t r).units, v.id = u.id
        ∧ v.st = (if txCheck s r (runData es) = 0 then UnitSt.waiting es
          else .done { status := txCheck s r (runData es), cookie := u.cookie, first := u.first, nent := u.nent }))
      ∧ s.Only t [.host] [Reg.off .HOST_CPL_STATUS r] [] := by
  have run : exec (.txDescriptor r) s = .next (setUnits r (unitsAt (ringOf s r).units u.id
      (if txCheck s r (runData es) = 0 then UnitSt.waiting es
        else .done { status := txCheck s r (runData es), cookie := u.cookie, first := u.first, nent := u.nent })) s) := by
    refine congrArg Host.Outcome.next ?_
    rw [oldest]
    dsimp only
    by_cases ok : txCheck s r (runData es) = 0
    · rw [if_pos ok, if_pos ok]
      rfl
    · rw [if_neg ok, if_neg ok]
      exact finish_kept kept (txCheck_low ..)
  refine ⟨_, run, ?_, ((Sofar.start h [.host] _ []).setUnits (by decide) List.mem_cons_self _).only⟩
  rw [units_setUnits h]
  exact mem_unitsAt (oldestFetched_mem oldest) _

/-! ### RX_BUFFER_DESCRIPTOR -/

theorem rings_hostWrite (x : Nat) (l : List Byte) (s : State) : (hostWrite x l s).2.host.rings = s.host.rings := by
  have sent : (idlSend 5 1 (flitsOf l.length) 0 s).host = s.host := by
    obtain ⟨m, e⟩ := idlSend_eq 5 1 (flitsOf l.length) 0 s
    exact (congrArg State.host e :)
  unfold hostWrite dmaStore
  dsimp only
  split
  · split
    · exact (congrArg HostSt.rings sent :)
    · exact (rings_memWrite ..).trans (congrArg HostSt.rings sent)
  · rfl

theorem rings_ringWb (r : Nat) (s : State) : (ringWb r s).2.host.rings = s.host.rings := by
  unfold ringWb writeBack
  split
  · rfl
  · exact rings_hostWrite ..

theorem ringWb_reached {s : State} {r : Nat} (slot : (dmaTarget s (s.reg64 .HOST_RING_WB_LO .HOST_RING_WB_HI r) 64 true).isSome = true) :
    (ringWb r s).1 = true := by
  obtain ⟨y, e⟩ := Option.isSome_iff_exists.mp slot
  exact (ringWb_reaches e).1

/-- HEAD and the descriptors completed ahead of it, once more of them are done with. -/
def rxPast (r : Nat) (l : List Nat) (s : State) : Nat × List Nat :=
  (List.range ((ringOf s r).badAhead ++ l).length).foldl (fun (p : Nat × List Nat) _ =>
    if p.2.contains p.1 then (add32 p.1 1, p.2.filter (· != p.1)) else p) (headOf s r, (ringOf s r).badAhead ++ l)

def rxWaits (r : Nat) (l : List Nat) (s : State) : State := setRing r { ringOf s r with badAhead := (rxPast r l s).2 } s

theorem rxCount_eq (r : Nat) (l : List Nat) (s : State) : rxCount r l s =
    if (rxPast r l s).1 = headOf (rxWaits r l s) r then rxWaits r l s
    else if (ringWb r (setHead r (rxPast r l s).1 (rxWaits r l s))).1 then (ringWb r (setHead r (rxPast r l s).1 (rxWaits r l s))).2
    else stopLost r (ringWb r (setHead r (rxPast r l s).1 (rxWaits r l s))).2 := rfl

/-- R311: of the ring's own state only the descriptors completed ahead of HEAD change. -/
theorem rxCount_ring {s : State} (h : s.Sound) {r : Nat} (l : List Nat)
    (slot : (dmaTarget s (s.reg64 .HOST_RING_WB_LO .HOST_RING_WB_HI r) 64 true).isSome = true) :
    ringOf (rxCount r l s) r = { ringOf s r with badAhead := (rxPast r l s).2 } := by
  have waits : ringOf (rxWaits r l s) r = { ringOf s r with badAhead := (rxPast r l s).2 } := ringOf_setRing h r _
  rw [rxCount_eq]
  split
  · exact waits
  · have moved (q : Reg) (apart : regApart q .HOST_RING_HEAD = true) (i : Nat) :
        (setHead r (rxPast r l s).1 (rxWaits r l s)).reg q i = s.reg q i := reg_setReg_apart h.regs apart ..
    have slot' : (dmaTarget (setHead r (rxPast r l s).1 (rxWaits r l s))
        ((setHead r (rxPast r l s).1 (rxWaits r l s)).reg64 .HOST_RING_WB_LO .HOST_RING_WB_HI r) 64 true).isSome = true := by
      unfold State.reg64
      rw [dmaTarget_congr (fun q hq i => moved q (by revert q; decide) i), moved _ (by decide), moved _ (by decide)]
      exact slot
    rw [if_pos (ringWb_reached slot'), ringOf_rings (rings_ringWb ..)]
    exact waits

/-- What the check of a descriptor that could be read, or not, answers (R322, R336). -/
def rxStatus (s : State) (e : Entry) : Nat :=
  match e.data with
  | none => 0x14
  | some d => rxDescStatus s d

/-- A malformed descriptor is completed (R322). -/
def rxRefused (r : Nat) (e : Entry) (l : List Entry) (s : State) : State :=
  setUnits r ((ringOf s r).units ++ [⟨(ringOf s r).nextId, e.idx, 1, 0, .done { status := rxStatus s e, first := e.idx }, false, s.now⟩])
    (setRing r { ringOf s r with raw := l, nextId := (ringOf s r).nextId + 1 } s)

theorem exec_rxBufferDescriptor {s : State} {r : Fin 64} {e : Entry} {l : List Entry} (raw : (ringOf s (64 + r)).raw = e :: l) :
    exec (.rxBufferDescriptor r) s = .next (if rxStatus s e = 0 then
        setRing (64 + r) { ringOf s (64 + r) with raw := l, pre := (ringOf s (64 + r)).pre
          ++ [⟨e.idx, entWord (e.data.getD []) 1, bits (entWord (e.data.getD []) 0) 16 0⟩] } s
      else if 64 ≤ (ringOf s (64 + r)).units.length then s
      else rxCount (64 + r) [e.idx] (rxRefused (64 + r) e l s)) := by
  refine congrArg Host.Outcome.next ?_
  unfold rxBufferDescriptor
  dsimp only
  rw [raw]
  rfl

theorem rxRefused_reg {s : State} (h : s.Sound) (r : Nat) (e : Entry) (l : List Entry) {q : Reg} (apart : regApart q .HOST_CPL_STATUS = true)
    (i : Nat) : (rxRefused r e l s).reg q i = s.reg q i := setUnits_reg (sound_setRing _ _ _ h) r _ apart i

/-- R322: a malformed descriptor that finds a holding slot. -/
theorem rxRefused_shows {s : State} (h : s.Sound) {r : Nat} (e : Entry) (l : List Entry)
    (slot : (dmaTarget s (s.reg64 .HOST_RING_WB_LO .HOST_RING_WB_HI r) 64 true).isSome = true) :
    let t := rxCount r [e.idx] (rxRefused r e l s)
    (ringOf t r).raw = l ∧ (ringOf t r).pre = (ringOf s r).pre
    ∧ ∃ u, (ringOf t r).units = (ringOf s r).units ++ [u] ∧ u.first = e.idx ∧ u.nent = 1
      ∧ u.st = .done { status := rxStatus s e, first := e.idx } := by
  have put := sound_setRing r { ringOf s r with raw := l, nextId := (ringOf s r).nextId + 1 } s h
  have slot' : (dmaTarget (rxRefused r e l s) ((rxRefused r e l s).reg64 .HOST_RING_WB_LO .HOST_RING_WB_HI r) 64 true).isSome = true := by
    unfold State.reg64
    rw [dmaTarget_congr (fun q hq i => rxRefused_reg h r e l (by revert q; decide) i), rxRefused_reg h r e l (by decide),
      rxRefused_reg h r e l (by decide)]
    exact slot
  have ring : ringOf (rxRefused r e l s) r = _ := (ringOf_congr (showHeld_host ..) r).trans (ringOf_setRing put r _)
  have out := rxCount_ring (s := rxRefused r e l s) (sound_setUnits r _ _ put) [e.idx] slot'
  rw [ring, ringOf_setRing h] at out
  dsimp only
  rw [out]
  exact ⟨rfl, rfl, _, rfl, rfl, rfl, rfl⟩

end Sys2Proof.Machine
end

section
/-!
SUPPORT. How a ready completion is written, with its write-back and its vector (R301, R310, R317, R323).
-/
namespace Sys2Proof.Machine

theorem length_cplBytes (c : Cpl) : (cplBytes c).length = 32 := by
  simp only [cplBytes, List.length_append, length_toLe]

/-- The address at which the next completion of a ring goes. -/
def cplAddr (s : State) (r : Nat) : Nat := s.reg64 .HOST_CPL_BASE_LO .HOST_CPL_BASE_HI r
  + (s.reg .HOST_CPL_TAIL r).toNat % 2 ^ s.fld .HOST_CPL_CFG_SIZE_LOG2 r * 32

/-- TAIL passes the completion, and its slot is free. -/
def cplPassed (r tail : Nat) (us : List RUnit) (s : State) : State :=
  (setUnits r us s).setReg .HOST_CPL_TAIL (BitVec.ofNat 32 (add32 tail 1)) r

/-- The entries of a completed unit count (R310). -/
def cplCounted (r : Nat) (c : Cpl) (s : State) : State :=
  if malformed c.status then s.count .HOST_RING_ERR_ENTRY_CNT r 0 c.nent else s.count .HOST_RING_ENTRY_CNT r 0 c.nent

/-- The write-back and the moderation that follow a completion. -/
def cplBacked (r idx : Nat) (s : State) : State :=
  if (writeBack (s.reg64 .HOST_CPL_WB_LO .HOST_CPL_WB_HI r) idx s).1 then
    entryIrq r (writeBack (s.reg64 .HOST_CPL_WB_LO .HOST_CPL_WB_HI r) idx s).2
  else stopLost r (writeBack (s.reg64 .HOST_CPL_WB_LO .HOST_CPL_WB_HI r) idx s).2

theorem completionWrite_waits {s : State} {r : Nat} (not : (∀ u us, (ringOf s r).units = u :: us → ∀ c, u.st ≠ .done c)
    ∨ ownerDown s = true ∨ (ringOf s r).quiet = true
    ∨ 2 ^ s.fld .HOST_CPL_CFG_SIZE_LOG2 r ≤ sub32 (s.reg .HOST_CPL_TAIL r).toNat (freeHead s r)) : completionWrite r s = s := by
  unfold completionWrite
  split
  · rfl
  · next u us units =>
    split
    · next c st =>
      refine if_pos ?_
      rw [Bool.or_eq_true, Bool.or_eq_true, decide_eq_true_eq]
      rcases not with e | e | e | e
      · exact absurd st (e u us units c)
      · exact .inl (.inl e)
      · exact .inl (.inr e)
      · exact .inr e
    · rfl

/-- R310: a completion that its memory takes. -/
theorem completionWrite_writes {s w : State} {r : Nat} {u : RUnit} {us : List RUnit} {c : Cpl} {st : Nat}
    (units : (ringOf s r).units = u :: us) (ready : u.st = .done c)
    (up : ownerDown s = false) (loud : (ringOf s r).quiet = false)
    (room : sub32 (s.reg .HOST_CPL_TAIL r).toNat (freeHead s r) < 2 ^ s.fld .HOST_CPL_CFG_SIZE_LOG2 r)
    (put : dmaWrite (cplAddr s r) (cplBytes c) s = (st, w)) (ok : st ≠ 0x13) :
    completionWrite r s = cplBacked r (add32 (s.reg .HOST_CPL_TAIL r).toNat 1)
      (cplCounted r c (cplPassed r (s.reg .HOST_CPL_TAIL r).toNat us w)) := by
  have may : ¬ (ownerDown s || (ringOf s r).quiet || decide (2 ^ s.fld .HOST_CPL_CFG_SIZE_LOG2 r
      ≤ sub32 (s.reg .HOST_CPL_TAIL r).toNat (freeHead s r))) = true := by
    rw [up, loud, decide_eq_false (Nat.not_le.mpr room)]
    exact Bool.false_ne_true
  unfold cplAddr at put
  unfold completionWrite
  rw [units]
  dsimp only
  rw [ready]
  dsimp only
  rw [if_neg may, put]
  exact if_neg ok

theorem writeBack_reaches {s : State} {a idx y : Nat} (h : dmaTarget s a 64 true = some y) :
    (writeBack a idx s).1 = true ∧ (writeBack a idx s).2 = (hostWrite y (fit 64 (toLe 4 idx)) s).2 := by
  unfold writeBack
  rw [h]
  exact ⟨rfl, rfl⟩

/-! ### The ring once its completion stands in memory -/

/-- TAIL is past the completion; the write-back is still to come. -/
structure CplStands (s v : State) (r x : Nat) (us : List RUnit) (c : Cpl) : Prop where
  sound : v.Sound
  regs : ∀ q : Reg, regApart q .HOST_CPL_TAIL = true → regApart q .HOST_CPL_STATUS = true → ∀ i, v.reg q i = s.reg q i
  tail : v.reg .HOST_CPL_TAIL r = s.reg .HOST_CPL_TAIL r + 1#32
  ring : ringOf v r = { ringOf s r with units := us }
  mem : dmaMem v = memPut (dmaMem s) x (cplBytes c)
  clean : ∀ a n, poisoned s a n = [] → poisoned v a n = []
  good : malformed c.status = false → v.cnt .HOST_RING_ENTRY_CNT r = s.cnt .HOST_RING_ENTRY_CNT r + BitVec.ofNat 64 c.nent
  bad : malformed c.status = true → v.cnt .HOST_RING_ERR_ENTRY_CNT r = s.cnt .HOST_RING_ERR_ENTRY_CNT r + BitVec.ofNat 64 c.nent

theorem add32_word (w : Word) : BitVec.ofNat 32 (add32 w.toNat 1) = w + 1#32 := by
  refine BitVec.eq_of_toNat_eq ?_
  rw [BitVec.toNat_ofNat, BitVec.toNat_add]
  exact Nat.mod_mod _ _

section
variable {w : State} (h : w.Sound) (r tail : Nat) (us : List RUnit)
include h

theorem sound_cplPassed : (cplPassed r tail us w).Sound := sound_State_setReg _ _ _ _ _ (sound_setUnits _ _ _ h)

theorem cplPassed_reg {q : Reg} (past : regApart q .HOST_CPL_TAIL = true) (held : regApart q .HOST_CPL_STATUS = true) (i : Nat) :
    (cplPassed r tail us w).reg q i = w.reg q i :=
  (reg_setReg_apart (sound_setUnits r us w h).regs past ..).trans (setUnits_reg h r us held i)

theorem cplPassed_tail : (cplPassed r tail us w).reg .HOST_CPL_TAIL r = BitVec.ofNat 32 (add32 tail 1) :=
  reg_setReg (sound_setUnits r us w h).regs ..

theorem cplPassed_ring : ringOf (cplPassed r tail us w) r = { ringOf w r with units := us } := by
  rw [cplPassed, ringOf_congr (setReg_host ..), setUnits, ringOf_congr (showHeld_host ..), ringOf_setRing h]

omit h in
theorem cplPassed_cnts : (cplPassed r tail us w).cnts = w.cnts := by
  rw [cplPassed, setReg_cnts]
  exact ite_holds (P := fun t : State => t.cnts = w.cnts) rfl rfl

omit h in
theorem cplPassed_rest : hostRest (cplPassed r tail us w) = hostRest w := (hostRest_setReg ..).trans (hostRest_setUnits ..)

end

theorem cplCounted_keeps (r : Nat) (c : Cpl) (v : State) :
    (cplCounted r c v).regs = v.regs ∧ (cplCounted r c v).host = v.host :=
  ite_holds (P := fun t : State => t.regs = v.regs ∧ t.host = v.host) ⟨rfl, rfl⟩ ⟨rfl, rfl⟩

theorem sound_cplCounted {v : State} (h : v.Sound) (r : Nat) (c : Cpl) : (cplCounted r c v).Sound :=
  ite_holds (P := State.Sound) (sound_State_count _ _ _ _ _ h) (sound_State_count _ _ _ _ _ h)

theorem cplStands_of_put {s w : State} {r x : Nat} {us : List RUnit} {c : Cpl} (p : Puts s w x (cplBytes c))
    (good : w.cnt .HOST_RING_ENTRY_CNT r = s.cnt .HOST_RING_ENTRY_CNT r)
    (bad : w.cnt .HOST_RING_ERR_ENTRY_CNT r = s.cnt .HOST_RING_ERR_ENTRY_CNT r) :
    CplStands s (cplCounted r c (cplPassed r (s.reg .HOST_CPL_TAIL r).toNat us w)) r x us c := by
  obtain ⟨hw, regs, mem, clean, m, e, q, host⟩ := p
  have passed := sound_cplPassed hw r (s.reg .HOST_CPL_TAIL r).toNat us
  obtain ⟨regs', host'⟩ := cplCounted_keeps r c (cplPassed r (s.reg .HOST_CPL_TAIL r).toNat us w)
  have rest := cplPassed_rest (w := w) r (s.reg .HOST_CPL_TAIL r).toNat us
  have poison : (cplPassed r (s.reg .HOST_CPL_TAIL r).toNat us w).host.poison = w.host.poison := (congrArg HostSt.poison rest :)
  have apart (q : Reg) (a : regApart q .HOST_CPL_TAIL = true) (b : regApart q .HOST_CPL_STATUS = true) (i : Nat) :
      (cplCounted r c (cplPassed r (s.reg .HOST_CPL_TAIL r).toNat us w)).reg q i = w.reg q i :=
    (reg_congr regs' ..).trans (cplPassed_reg hw r _ us a b i)
  refine ⟨sound_cplCounted passed r c, fun q a b i => (apart q a b i).trans (reg_congr regs ..), ?_, ?_, ?_, fun a n none => ?_,
    fun ok => ?_, fun refused => ?_⟩
  · rw [reg_congr regs', cplPassed_tail hw, add32_word]
  · rw [ringOf_congr host', cplPassed_ring hw, ringOf_rings (show w.host.rings = s.host.rings by rw [host])]
  · refine Eq.trans (dmaMem_congr (s := w) ?_ ?_ ?_) mem
    · unfold ownerExt State.flag State.fld
      rw [apart _ (by decide) (by decide)]
    · rw [host']; exact (congrArg HostSt.mem rest :)
    · rw [host']; exact (congrArg HostSt.ext rest :)
  · have stays := clean a n none
    unfold poisoned at stays ⊢
    rw [host', poison]
    exact stays
  · rw [cplCounted, if_neg (by rw [ok]; exact Bool.false_ne_true), cnt_count passed.cnts, cnt_congr (cplPassed_cnts ..), good]
  · rw [cplCounted, if_pos refused, cnt_count passed.cnts, cnt_congr (cplPassed_cnts ..), bad]

/-! ### The vector after an entry -/

theorem entryIrq_units {s : State} (h : s.Sound) (r : Nat) : (ringOf (entryIrq r s) r).units = (ringOf s r).units := by
  unfold entryIrq
  refine ite_holds (P := fun t : State => (ringOf t r).units = (ringOf s r).units) (ite_holds (P := fun t : State => (ringOf t r).units = (ringOf s r).units) ?_ ?_) rfl
  · refine ite_holds (P := fun t : State => (ringOf t r).units = (ringOf s r).units) ?_ rfl
    rw [ringOf_congr (host_raiseVec ..), ringOf_setRing h]
  · rw [ringOf_setRing h]

theorem pends_entryIrq {s : State} (h : s.Sound) (hl : linked s) {r : Nat} (en : s.flag .HOST_IRQ_CFG_EN r = true)
    (due : max 1 (s.fld .HOST_IRQ_CFG_COUNT r) ≤ (ringOf s r).irqN + 1) : pends (entryIrq r s) r := by
  have raised : entryIrq r s = ringRaise r s := (if_pos en).trans (if_pos due)
  rw [raised]
  exact pends_ringRaise h hl en

theorem dmaMem_entryIrq {s : State} (h : s.Sound) (r : Nat) : dmaMem (entryIrq r s) = dmaMem s := by
  obtain ⟨m, host⟩ := host_entryIrq r s
  exact dmaMem_congr ((kept_entryIrq (le_same _) r s (.refl _ s)).flag h (sound_entryIrq r s h) (by decide +kernel) 0 0)
    (by rw [host]) (by rw [host])

/-- R310: the completion of the oldest unit is written. -/
theorem completionWrite_done {s : State} (h : s.Sound) (hl : linked s) {r : Nat} {u : RUnit} {us : List RUnit} {c : Cpl} {x y : Nat}
    (units : (ringOf s r).units = u :: us) (ready : u.st = .done c)
    (up : ownerDown s = false) (loud : (ringOf s r).quiet = false)
    (room : sub32 (s.reg .HOST_CPL_TAIL r).toNat (freeHead s r) < 2 ^ s.fld .HOST_CPL_CFG_SIZE_LOG2 r)
    (may : canPut s (cplAddr s r) 32 (s.reg64 .HOST_CPL_WB_LO .HOST_CPL_WB_HI r) x y) :
    (ringOf (completionWrite r s) r).units = us ∧ (completionWrite r s).reg .HOST_CPL_TAIL r = s.reg .HOST_CPL_TAIL r + 1#32
    ∧ wasPut s (completionWrite r s) x (cplBytes c) y (add32 (s.reg .HOST_CPL_TAIL r).toNat 1)
    ∧ (malformed c.status = false →
      (completionWrite r s).cnt .HOST_RING_ENTRY_CNT r = s.cnt .HOST_RING_ENTRY_CNT r + BitVec.ofNat 64 c.nent)
    ∧ (malformed c.status = true →
      (completionWrite r s).cnt .HOST_RING_ERR_ENTRY_CNT r = s.cnt .HOST_RING_ERR_ENTRY_CNT r + BitVec.ofNat 64 c.nent)
    ∧ (s.flag .HOST_IRQ_CFG_EN r = true → max 1 (s.fld .HOST_IRQ_CFG_COUNT r) ≤ (ringOf s r).irqN + 1 → pends (completionWrite r s) r) := by
  obtain ⟨entry, slot, clean, apart⟩ := may
  have len := length_cplBytes c
  obtain ⟨ok, put⟩ := hostWrite_clean h hl (x := x) (l := cplBytes c) (clean.imp id fun c => by rw [len]; exact c.1)
  have k := of_snd (kept_hostWrite (le_same _) x (cplBytes c) s (.refl _ s))
  have st := cplStands_of_put (r := r) (us := us) put (k.cnt h put.sound (by decide +kernel) r 0) (k.cnt h put.sound (by decide +kernel) r 0)
  rw [← len] at entry
  have wrote := dmaWrite_target entry
  rw [ok, if_pos rfl] at wrote
  rw [completionWrite_writes units ready up loud room wrote (by decide)]
  generalize cplCounted r c (cplPassed r (s.reg .HOST_CPL_TAIL r).toNat us (hostWrite x (cplBytes c) s).2) = v at st
  have reg64 : v.reg64 .HOST_CPL_WB_LO .HOST_CPL_WB_HI r = s.reg64 .HOST_CPL_WB_LO .HOST_CPL_WB_HI r := by
    unfold State.reg64
    rw [st.regs _ (by decide) (by decide), st.regs _ (by decide) (by decide)]
  have windows : ∀ q ∈ windowRegs, ∀ i, v.reg q i = s.reg q i :=
    fun q hq i => st.regs q (by revert q; decide) (by revert q; decide) i
  obtain ⟨reached, state⟩ := writeBack_reaches (idx := add32 (s.reg .HOST_CPL_TAIL r).toNat 1)
    (show dmaTarget v (v.reg64 .HOST_CPL_WB_LO .HOST_CPL_WB_HI r) 64 true = some y by rw [reg64, dmaTarget_congr windows]; exact slot)
  have len' : (fit 64 (toLe 4 (add32 (s.reg .HOST_CPL_TAIL r).toNat 1))).length = 64 := length_fit _ _
  have link : linked v := by
    unfold linked State.flag State.fld
    rw [st.regs _ (by decide) (by decide)]
    exact hl
  obtain ⟨-, backed⟩ := hostWrite_clean st.sound link (x := y) (l := fit 64 (toLe 4 (add32 (s.reg .HOST_CPL_TAIL r).toNat 1)))
    (by rw [ownerExt_congr windows, len']; exact clean.imp id fun c => st.clean y 64 c.2)
  have kb := of_snd (kept_hostWrite (le_same _) y (fit 64 (toLe 4 (add32 (s.reg .HOST_CPL_TAIL r).toNat 1))) v (.refl _ v))
  rw [cplBacked, if_pos reached, state]
  generalize (hostWrite y (fit 64 (toLe 4 (add32 (s.reg .HOST_CPL_TAIL r).toNat 1))) v).2 = z at backed kb
  obtain ⟨hz, regs, mem, -, m, e, q, host⟩ := backed
  have ring : ringOf z r = ringOf v r := ringOf_rings (by rw [host]) r
  have ke := kept_entryIrq (le_same _) r z (.refl _ z)
  have he := sound_entryIrq r z hz
  refine ⟨?_, ?_, ?_, fun good => ?_, fun bad => ?_, fun en due => ?_⟩
  · rw [entryIrq_units hz, ring, st.ring]
  · rw [ke.reg hz he (by decide +kernel), reg_congr regs, st.tail]
  · have stands := wasPut_of_memPut h (t := z) (by rw [len]; exact apart) (by rw [mem, st.mem])
    obtain ⟨entry, slot, others⟩ := stands
    have same := dmaMem_entryIrq hz r
    exact ⟨by rw [same]; exact entry, by rw [same]; exact slot, by rw [same]; exact others⟩
  · rw [ke.cnt hz he (by decide +kernel), kb.cnt st.sound hz (by decide +kernel), st.good good]
  · rw [ke.cnt hz he (by decide +kernel), kb.cnt st.sound hz (by decide +kernel), st.bad bad]
  · refine pends_entryIrq hz ((flag_congr regs ..).trans link) ?_ ?_
    · rw [flag_congr regs, State.flag, State.fld, st.regs _ (by decide) (by decide)]
      exact en
    · rw [fld_congr regs, State.fld, st.regs _ (by decide) (by decide), ring, st.ring]
      exact due

end Sys2Proof.Machine
end

section
/-!
SUPPORT. What the handling of a frame leaves alone: the turn of the transmit rings (R308), and the frames that ledger 3 has taken in
(R424).
-/
namespace Sys2Proof.Machine

/-- From s0 to s neither the turn of the transmit rings nor the frames taken in have changed. -/
structure Carried (s0 s : State) : Prop where
  sorted : s.hlt.led.sorted = true
  last : s.host.txLast = s0.host.txLast
  taken : ∀ g < 512, s.ledOf tIn3 g = s0.ledOf tIn3 g

theorem Carried.refl {s : State} (h : s.Sound) : Carried s s := ⟨h.hlt.led, rfl, fun _ _ => rfl⟩

/-- The state of a pair that an operation answers. -/
theorem carried_of_eq {α : Type} {s0 t : State} {e : α × State} {a : α} (k : Snd (Carried s0) e) (h : e = (a, t)) : Carried s0 t := by
  rw [h] at k
  exact k

theorem carried_of_eq₂ {α β : Type} {s0 t : State} {e : α × β × State} {a : α} {b : β} (k : Snd (Snd (Carried s0)) e) (h : e = (a, b, t)) :
    Carried s0 t := by
  rw [h] at k
  exact k

section
variable {s0 s : State} (h : Carried s0 s)
include h

/-! ### Updates -/

/-- Ledgers and turns as they were. -/
theorem Carried.same {t : State} (last : t.host.txLast = s.host.txLast) (led : t.hlt.led = s.hlt.led) : Carried s0 t :=
  ⟨led ▸ h.sorted, last.trans h.last, fun g hg => by rw [State.ledOf, led]; exact h.taken g hg⟩

/-- An operation whose touches leave out the host area and the health area. -/
theorem Carried.kept {T : Touch} {t : State} (k : Kept T s t) (hT : (T.a.testBit 11 || T.a.testBit 12) = false) : Carried s0 t := by
  obtain ⟨host, hlt⟩ := Bool.or_eq_false_iff.mp hT
  exact h.same (by rw [k.host host]) (by rw [k.hlt hlt])

theorem Carried.count (c : Cnt) (i j n : Nat) : Carried s0 (s.count c i j n) := h.same rfl rfl

theorem Carried.countIf (b : Bool) (c : Cnt) (i j : Nat) : Carried s0 (s.countIf b c i j) := ite_holds (h.count c i j 1) h

theorem Carried.setReg (r : Reg) (w : Word) (i j : Nat) : Carried s0 (s.setReg r w i j) := h.same rfl rfl

theorem Carried.setFld (f : Fld) (v i j : Nat) : Carried s0 (s.setFld f v i j) := h.same rfl rfl

/-- Another term of a ledger. -/
theorem Carried.led {term : Nat} (other : 0 < term) (inst n : Nat) : Carried s0 (s.led term inst n) := by
  refine ⟨SMap.sorted_upd h.sorted (512 * term + inst) 0 (· + n), h.last, fun g hg => Eq.trans ?_ (h.taken g hg)⟩
  have apart : 512 * tIn3 + g ≠ 512 * term + inst := by
    have first : tIn3 = 0 := rfl
    omega
  exact SMap.getD_upd_ne h.sorted apart 0 0 (· + n)

theorem Carried.setRing (r : Nat) (x : RingSt) : Carried s0 (setRing r x s) := h.same rfl rfl

theorem Carried.setUnits (r : Nat) (l : List RUnit) : Carried s0 (setUnits r l s) :=
  (h.setRing r { ringOf s r with units := l }).kept (kept_showHeld (le_same _) r _ (.refl _ _)) (by decide)

/-! ### Records and errors of memory -/

theorem Carried.logEntry (e : LogEnt) : Carried s0 (logEntry e s) := h.same rfl rfl

theorem Carried.offer (l : List NRec) : Carried s0 (offer l s) :=
  foldl_holds (P := Carried s0) (fun _ _ k => ite_holds (k.logEntry _) k)
    (h.same (t := { s with host := { s.host with recq := s.host.recq ++ [.notes l] } }) rfl rfl)

theorem Carried.fault (code arg w2 w3 : Nat) : Carried s0 (fault code arg w2 w3 s) := h.offer _

theorem Carried.setWin (k inst : Nat) (w : WinSt) : Carried s0 (setWin k inst w s) := h.same rfl rfl

theorem Carried.excuse (u : Nat) : Carried s0 (excuse u s) := by
  unfold Machine.excuse
  refine ite_holds h ?_
  extract_lets +onlyGivenNames -merge keep src t
  have marked : Carried s0 t := h.same rfl rfl
  exact marked.setFld _ _ _ _

theorem Carried.memRecord (u loc k inst : Nat) : Carried s0 (memRecord u loc k inst s) :=
  ite_holds (h.count _ _ _ _) ((h.setWin k inst _).fault _ _ _ _)

theorem Carried.winEvent (k inst : Nat) : Carried s0 (winEvent k inst s).1 := by
  unfold Machine.winEvent
  extract_lets w b enters t
  have counted : Carried s0 t := h.setWin k inst _
  exact ite_holds (P := Fst (Carried s0))
    (((counted.count _ _ _ _).logEntry _).kept (kept_showLasting (le_same _) k _ (.refl _ _)) (by decide)) counted

theorem Carried.memReport (u loc k inst : Nat) (uncorr : Bool) : Carried s0 (memReport u loc k inst uncorr s) := by
  have event := h.winEvent k inst
  unfold Machine.memReport memError
  exact ite_holds (P := Carried s0) ((event.memRecord u loc k inst).excuse u) event

theorem Carried.hostMemError (addr : Nat) (corrected : Bool) : Carried s0 (hostMemError addr corrected s) :=
  ite_holds ((h.count _ _ _ _).memReport _ _ _ _ _) ((h.count _ _ _ _).memReport _ _ _ _ _)

/-! ### Table lookups -/

theorem Carried.ruleParity (pipe : Nat) (egress : Bool) : Carried s0 (ruleParity pipe egress s) :=
  foldl_holds (fun _ _ k => (k.count _ _ _ _).memReport _ _ _ _ _) h

theorem Carried.editCounts (pipe : Nat) (r : EditRes) : Carried s0 (editCounts pipe r s) := by
  cases r with
  | ok f => exact h.count _ _ _ _
  | bad loc => exact (h.count _ _ _ _).memReport _ _ _ _ _

theorem Carried.slotParity (l : List Nat) : Carried s0 (slotParity l s) :=
  foldl_holds (fun _ _ k => (k.count _ _ _ _).memReport _ _ _ _ _) h

theorem Carried.entryParity (slot : Nat) : Carried s0 (entryParity slot s) := (h.count _ _ _ _).memReport _ _ _ _ _

theorem Carried.lookupKey (bank : Nat) (k : TKey) : Snd (Carried s0) (lookupKey bank k s) := by
  unfold Machine.lookupKey
  split
  · exact h
  · exact h.slotParity _

theorem Carried.selectLag (g hash : Nat) : Snd (Carried s0) (selectLag g hash s) := by
  unfold Machine.selectLag
  extract_lets l bad t ok key
  have met : Carried s0 t := foldl_holds (fun _ _ k => k.entryParity _) h
  split
  · exact met
  · exact met

theorem Carried.resolveNh (i hash : Nat) (routed ttl1 : Bool) : Snd (Carried s0) (resolveNh i hash routed ttl1 s) := by
  unfold Machine.resolveNh
  split
  · exact h
  · refine ite_holds (P := Snd (Carried s0)) (h.entryParity _) (ite_holds h (ite_holds h (ite_holds h (ite_holds (ite_holds h h) ?_))))
    refine ite_holds (P := Snd (Carried s0)) h (ite_holds h ?_)
    have lag := h.selectLag
    split
    next e => exact carried_of_eq (lag _ _) e

theorem Carried.resolveEcmp (g hash : Nat) (routed ttl1 : Bool) : Snd (Carried s0) (resolveEcmp g hash routed ttl1 s) := by
  unfold Machine.resolveEcmp
  split
  · exact h
  · refine ite_holds (P := Snd (Carried s0)) (h.entryParity _) (ite_holds h ?_)
    dsimp only
    split
    · exact h.resolveNh _ _ _ _
    · exact ite_holds (P := Snd (Carried s0)) (h.entryParity _) (h.resolveNh _ _ _ _)

theorem Carried.l2Miss (hash : Nat) : Snd (Carried s0) (l2Miss hash s) := by
  unfold Machine.l2Miss
  split
  · exact h
  · exact h.resolveNh _ _ _ _
  · exact h

omit h in
theorem Carried.lpmProbe (bank vrf : Nat) (v6 : Bool) (addr : Nat) (l : List Nat) {s : State} (h : Carried s0 s) :
    Snd (Carried s0) (lpmProbe bank vrf v6 addr l s) := by
  induction l generalizing s with
  | nil => exact h
  | cons len l ih =>
    have probe := h.lookupKey bank (.lpm vrf v6 (maskAddr v6 addr len) len)
    unfold Machine.lpmProbe
    split
    next e => exact carried_of_eq probe e
    next e => exact ih (carried_of_eq probe e)

theorem Carried.lpmLookup (vrf : Nat) (v6 : Bool) (addr : Nat) : Snd (Carried s0) (lpmLookup vrf v6 addr s) := by
  unfold Machine.lpmLookup
  dsimp only
  split
  · exact h
  · exact ite_holds (P := Snd (Carried s0)) (h.entryParity _) (h.lpmProbe _ _ _ _ _)

theorem Carried.macResult (e : Ent) (hash : Nat) : Snd (Carried s0) (macResult e hash s) := by
  unfold Machine.macResult
  split
  · exact h
  · exact h
  · exact h.resolveNh _ _ _ _
  · exact h

theorem Carried.routeResult (e : Ent) (hash : Nat) (ttl1 : Bool) : Snd (Carried s0) (routeResult e hash ttl1 s) :=
  ite_holds (h.resolveEcmp _ _ _ _) (h.resolveNh _ _ _ _)

theorem Carried.setEnt (i : Nat) (e : Ent) : Carried s0 (setEnt i e s) := h.kept (kept_setEnt (le_same _) i e s (.refl _ _)) (by decide)

theorem Carried.tableLookup (port : Nat) (d : List Byte) (w : Walk) (hash : Nat) : Snd (Carried s0) (tableLookup port d w hash s) := by
  unfold Machine.tableLookup
  extract_lets fid
  split
  next mac t e =>
    have looked := carried_of_eq (h.lookupKey _ _) e
    split
    · split
      · exact looked.macResult _ _
      · exact looked.l2Miss _
    · extract_lets v6 vrf addr ttl1
      split
      next hit u e' =>
        have probed := carried_of_eq (looked.lookupKey _ _) e'
        split
        · exact (probed.setEnt _ _).routeResult _ _ _
        · split
          next p v e'' =>
            have longest := carried_of_eq (probed.lpmLookup _ _ _) e''
            split
            · exact longest.routeResult _ _ _
            · exact longest

/-! ### Rings and memory -/

theorem Carried.memWrite (x : Nat) (l : List Byte) : Snd (Carried s0) (memWrite x l s) := by
  unfold Machine.memWrite
  extract_lets +onlyGivenNames -merge bad mem heal src t
  have stored : Carried s0 t := h.same rfl rfl
  exact foldl_holds (P := Carried s0) (fun _ _ k => k.hostMemError _ _) stored

theorem Carried.idlSend (v d n room : Nat) : Carried s0 (idlSend v d n room s) :=
  h.kept (kept_idlSend (le_same _) v d n room s (.refl _ _)) (by decide)

theorem Carried.hostWrite (x : Nat) (l : List Byte) : Snd (Carried s0) (hostWrite x l s) := by
  unfold Machine.hostWrite dmaStore
  extract_lets t
  have sent : Carried s0 t := h.idlSend _ _ _ _
  exact ite_holds (P := Snd (Carried s0)) (ite_holds (P := Snd (Carried s0)) (sent.same rfl rfl) (sent.memWrite x l)) (h.same rfl rfl)

theorem Carried.dmaWrite (a : Nat) (l : List Byte) : Snd (Carried s0) (dmaWrite a l s) := by
  unfold Machine.dmaWrite
  split
  · exact h
  · exact of_snd (h.hostWrite _ _)

theorem Carried.hostRead (x n : Nat) : Snd (Carried s0) (hostRead x n s) := by
  unfold Machine.hostRead
  extract_lets t
  have sent : Carried s0 t := h.idlSend _ _ _ _
  refine ite_holds (P := Snd (Carried s0)) sent ?_
  split
  · exact sent
  · exact foldl_holds (P := Carried s0) (fun _ _ k => k.hostMemError _ _) sent

theorem Carried.dmaRead (a n : Nat) : Snd (Carried s0) (dmaRead a n s) := by
  unfold Machine.dmaRead
  split
  · exact h
  · have read := h.hostRead
    split
    next e => exact carried_of_eq (read _ _) e
    next e => exact carried_of_eq (read _ _) e

omit h in
theorem Carried.readSegs (l : List (List Byte)) (st : Nat) (acc : List Byte) {s : State} (h : Carried s0 s) :
    Snd (Snd (Carried s0)) (readSegs l st acc s) := by
  induction l generalizing st acc s with
  | nil => exact h
  | cons d l ih =>
    have read := h.dmaRead (entWord d 1) (bits (entWord d 0) 15 0)
    unfold Machine.readSegs
    split
    next e => exact ih _ _ (carried_of_eq read e)
    next e => exact ih _ _ (carried_of_eq read e)

theorem Carried.finish (r id : Nat) (c : Cpl) : Carried s0 (finish r id c s) := by
  have counted := h.countIf (decide (0x20 ≤ c.status) && decide (c.status ≤ 0x23)) .TBL_WRITE_ERR_CNT 0 0
  exact ite_holds (P := Carried s0) ((counted.setUnits _ _).count _ _ _ _) (counted.setUnits _ _)

theorem Carried.ringRaise (r : Nat) : Carried s0 (ringRaise r s) :=
  ite_holds ((h.setRing r _).kept (kept_raiseVec (le_same _) r _ (.refl _ _)) (by decide)) h

theorem Carried.stopRing (r : Nat) : Carried s0 (stopRing r s) := ((h.setFld _ _ _ _).setFld _ _ _ _).setRing _ _

theorem Carried.stopErr (r code value : Nat) : Carried s0 (stopErr r code value s) :=
  ((((h.stopRing r).setFld _ _ _ _).setFld _ _ _ _).fault _ _ _ _).ringRaise r

theorem Carried.discardHeld (r : Nat) : Carried s0 (discardHeld r s) := (h.setUnits _ _).count _ _ _ _

theorem Carried.stopLost (r : Nat) : Carried s0 (stopLost r s) := by
  have stopped : Carried s0 (if ringEn s r then Machine.stopErr r 4 0 s else s) := ite_holds (h.stopErr _ _ _) h
  exact ite_holds (P := Carried s0) stopped (stopped.discardHeld r)

theorem Carried.ringWb (r : Nat) : Snd (Carried s0) (ringWb r s) := by
  unfold Machine.ringWb writeBack
  split
  · exact h
  · exact of_snd (h.hostWrite _ _)

theorem Carried.rxCount (r : Nat) (l : List Nat) : Carried s0 (rxCount r l s) := by
  rw [rxCount_eq]
  have waits : Carried s0 (rxWaits r l s) := h.setRing _ _
  have backed := of_snd ((waits.setReg .HOST_RING_HEAD (BitVec.ofNat 32 (rxPast r l s).1) r 0).ringWb r)
  exact ite_holds waits (ite_holds (P := Carried s0) backed (backed.stopLost r))

omit h in
theorem Carried.fillBufs (l : List RxBuf) (d : List Byte) (st : Nat) {s : State} (h : Carried s0 s) :
    Snd (Carried s0) (fillBufs l d st s) := by
  induction l generalizing d st s with
  | nil => exact h
  | cons b l ih => exact ih _ _ (of_snd (h.dmaWrite _ _))

theorem Carried.rxPlace (ring : Nat) (data : List Byte) (i : RxInfo) : Snd (Carried s0) (rxPlace ring data i s) := by
  unfold Machine.rxPlace
  extract_lets r x drop
  have dropped (c : Cnt) : Carried s0 (drop c s) := by
    unfold drop
    dsimp only
    split
    · exact (h.count _ _ _ _).count _ _ _ _
    · exact h.count _ _ _ _
  refine ite_holds (P := Snd (Carried s0)) (dropped _) (ite_holds (P := Snd (Carried s0)) (dropped _) ?_)
  split
  · exact dropped _
  · extract_lets +onlyGivenNames -merge first u s1 s2 s3
    have reserved : Carried s0 s3 := ((h.setRing _ _).setUnits _ _).rxCount _ _
    split
    next e => exact (carried_of_eq (reserved.fillBufs _ _ _) e).finish _ _ _

theorem Carried.setUnitSt (r id : Nat) (st : UnitSt) : Carried s0 (setUnitSt r id st s) := h.setUnits _ _

/-! ### What becomes of a frame -/

theorem Carried.unitDone (r id status ts : Nat) (tsv : Bool) : Carried s0 (unitDone r id status ts tsv s) := by
  unfold Machine.unitDone
  split
  · exact h.finish _ _ _
  · exact h

theorem Carried.inDrop (f : InFrame) : Carried s0 (inDrop f s) := by
  unfold Machine.inDrop
  extract_lets t
  have dropped : Carried s0 t := h.led (by decide) _ _
  split
  · exact dropped.unitDone _ _ _ _ _
  · exact dropped

theorem Carried.feedPut (q : Nat) (l : List XCell) : Carried s0 (feedPut q l s) :=
  h.kept (kept_feedPut (le_same _) q l s (.refl _ _)) (by decide)

theorem Carried.spreadCells (q m cls : Nat) (l : List Cell) : Snd (Carried s0) (spreadCells q m cls l s) := by
  have spread := kept_spreadCells (le_same _) q m cls l s (.refl _ _)
  exact h.kept spread (by decide)

theorem Carried.sendSky (q : Nat) (b : Cell) (d : List Byte) : Carried s0 (sendSky q b d s) := by
  unfold Machine.sendSky
  extract_lets m n seq s1 s2 xs n0
  have counted : Carried s0 s2 := ((h.setReg _ _ _ _).count _ _ _ _).led (by decide) _ _
  have spread := counted.spreadCells q m b.cls
  split
  next e => exact (carried_of_eq (spread _) e).feedPut _ _

theorem Carried.sendFrame (q : Nat) (b : Cell) (d : List Byte) : Snd (Carried s0) (sendFrame q b d s) :=
  ite_holds (P := Snd (Carried s0)) (h.feedPut _ _) (ite_holds (P := Snd (Carried s0)) h (ite_holds (P := Snd (Carried s0)) h (h.sendSky _ _ _)))

/-! ### Copies -/

theorem Carried.idlPass (k len : Nat) : Snd (Carried s0) (idlPass k len s) := by
  have passed := kept_idlPass (le_same _) k len s (.refl _ _)
  exact h.kept passed (by decide)

theorem Carried.copyEnd (c : Cnt) (ses : Nat) : Carried s0 (copyEnd c ses s) := (h.count _ _ _ _).led (by decide) _ _

theorem Carried.deliverCopy (ses : Nat) (cfg dest : Word) (i : CopyInfo) (d : List Byte) : Carried s0 (deliverCopy ses cfg dest i d s) := by
  unfold Machine.deliverCopy
  extract_lets kind
  refine ite_holds ?_ (ite_holds ((h.count _ _ _ _).copyEnd _ _) (ite_holds ?_ ?_))
  · have sent := h.sendFrame
    split
    next e => exact carried_of_eq (sent _ _ _) e
    next e => exact ((carried_of_eq (sent _ _ _) e).count _ _ _ _).copyEnd _ _
  · have passed := h.idlPass 1 d.length
    split
    next e => exact (carried_of_eq passed e).copyEnd _ _
    next e =>
      have placed := (carried_of_eq passed e).rxPlace
      split
      next e' => exact (carried_of_eq (placed _ _ _) e').copyEnd _ _
      next e' => exact (carried_of_eq (placed _ _ _) e').copyEnd _ _
  · have passed := h.idlPass 1 256
    split
    next e => exact (carried_of_eq passed e).copyEnd _ _
    next e => exact (carried_of_eq passed e).same rfl rfl

theorem Carried.selectCopy (ses pipe : Nat) : Snd (Carried s0) (selectCopy ses pipe s) := by
  unfold Machine.selectCopy
  refine ite_holds (P := Snd (Carried s0)) ?_ h
  split
  next c m e =>
    extract_lets +onlyGivenNames -merge src t
    have sampled : Carried s0 t := h.same rfl rfl
    exact ite_holds (P := Snd (Carried s0)) ((sampled.count _ _ _ _).led (by decide) _ _) sampled

theorem Carried.ingressCopy (rule port : Option Nat) (i : CopyInfo) (d : List Byte) : Carried s0 (ingressCopy rule port i d s) := by
  unfold Machine.ingressCopy
  split
  · exact h
  · have selected := h.selectCopy
    split
    next e => exact carried_of_eq (selected _ _) e
    next e => exact (carried_of_eq (selected _ _) e).deliverCopy _ _ _ _ _

/-! ### Frames to the host, and frames that go on -/

theorem Carried.toHost (q ring : Nat) (d : List Byte) (i : RxInfo) : Snd (Carried s0) (toHost q ring d i s) := by
  unfold Machine.toHost
  refine ite_holds (P := Snd (Carried s0)) (h.count _ _ _ _) ?_
  have passed := h.idlPass 0 d.length
  split
  next e => exact (carried_of_eq passed e).count _ _ _ _
  next e => exact (carried_of_eq passed e).rxPlace _ _ _

theorem Carried.hostFrame (f : InFrame) (ring : Nat) (d : List Byte) (i : RxInfo) : Carried s0 (hostFrame f ring d i s) := by
  have given := h.toHost
  unfold Machine.hostFrame
  split
  next e => exact (carried_of_eq (given _ _ _ _) e).inDrop f
  next e =>
    extract_lets t
    have out : Carried s0 t := (carried_of_eq (given _ _ _ _) e).led (by decide) _ _
    split
    · exact out.unitDone _ _ _ _ _
    · exact out

theorem Carried.chargeCells (k n : Nat) : Carried s0 (chargeCells k n s) :=
  h.kept (kept_chargeCells (le_same _) k n s (.refl _ _)) (by decide)

theorem Carried.dischargeCells (k n : Nat) : Carried s0 (dischargeCells k n s) :=
  h.kept (kept_dischargeCells (le_same _) k n s (.refl _ _)) (by decide)

theorem Carried.offerCand (c : Cand) : Carried s0 (offerCand c s) := h.kept (kept_offerCand (le_same _) c s (.refl _ _)) (by decide)

theorem Carried.learnLeaf (f : InFrame) (w : Walk) : Carried s0 (learnLeaf f w s) := by
  unfold Machine.learnLeaf
  refine ite_holds ?_ h
  unfold learnFrame
  refine ite_holds h ?_
  extract_lets kind target
  have looked := h.lookupKey
  split
  next e =>
    have found := carried_of_eq (looked _ _) e
    split
    · exact found.offerCand _
    · exact ite_holds (found.setEnt _ _) (ite_holds (found.count _ _ _ _) ((found.setEnt _ _).offerCand _))

theorem Carried.launch (f : InFrame) (b : Cell) (d : List Byte) (bound n0 : Nat) (fails : Bool) :
    Carried s0 (launch f b d bound n0 fails s) := by
  unfold Machine.launch
  extract_lets +onlyGivenNames -merge q n org recharge early
  have charged (k : Nat) {t : State} (ht : Carried s0 t) : Carried s0 (recharge k t) :=
    ite_holds ht (ite_holds (ht.chargeCells _ _) (ite_holds (ht.dischargeCells _ _) ht))
  refine ite_holds ?_ (ite_holds ((charged 0 h).inDrop f) ?_)
  · exact ite_holds (P := Carried s0) ((((charged _ h).feedPut _ _).count _ _ _ _).led (by decide) _ _) ((charged _ h).feedPut _ _)
  · have sent := h.sendFrame
    split
    next e => exact charged n (carried_of_eq (sent _ _ _) e)
    next e => exact (charged 0 ((carried_of_eq (sent _ _ _) e).count _ _ _ _)).inDrop f

theorem Carried.ingressEdit (q : Nat) (f : InFrame) (w : Walk) (ip : Option Hdr) (fw : Fwd) (rule : Option Nat) (hash : Nat) :
    Snd (Carried s0) (ingressEdit q f w ip fw rule hash s) := by
  unfold Machine.ingressEdit
  extract_lets +onlyGivenNames -merge d0 d one
  have edited (p : Option Nat) {a : Option EditFrame × State} (ha : Carried s0 a.2) : Carried s0 (one p a).2 := by
    unfold one
    split
    · dsimp only
      split
      · exact Carried.editCounts ha _ _
      · exact Carried.editCounts ha _ _
    · exact ha
  have both : Snd (Carried s0) (one rule (one fw.edit (some (EditFrame.ofWalk d w.hdrs), s))) := edited rule (edited fw.edit h)
  split
  next e => exact carried_of_eq both e
  next e => exact carried_of_eq both e

theorem Carried.onward (f : InFrame) (w : Walk) (ip : Option Hdr) (fw : Fwd) (a : Action) (cls hash : Nat) (rule : Option Nat) :
    Carried s0 (onward f w ip fw a cls hash rule s) := by
  unfold Machine.onward
  extract_lets +onlyGivenNames -merge q n0 org uncharge
  have freed {t : State} (ht : Carried s0 t) : Carried s0 (uncharge t) := ite_holds ht (ht.dischargeCells _ _)
  extract_lets +onlyGivenNames -merge s1
  have charged : Carried s0 s1 := ite_holds h (h.chargeCells _ _)
  have policed (i n : Nat) : Snd (Carried s0) (police i n q s1) := charged.kept (kept_police (le_same _) i n q s1 (.refl _ _)) (by decide)
  split
  next pass s2 e =>
    have metered : Carried s0 s2 := by
      refine carried_of_eq ?_ e
      refine ite_holds (P := Snd (Carried s0)) charged ?_
      split
      · exact policed _ _
      · exact charged
    have edits := metered.ingressEdit
    extract_lets fails
    split
    · exact (freed metered).inDrop f
    · refine ite_holds ((freed metered).inDrop f) ?_
      split
      next e => exact (freed (carried_of_eq (edits _ _ _ _ _ _ _) e)).inDrop f
      next e =>
        have edited := carried_of_eq (edits _ _ _ _ _ _ _) e
        exact ite_holds ((freed (edited.count _ _ _ _)).inDrop f) (freed (edited.hostFrame _ _ _ _))
    all_goals
      split
      next m p _ =>
        refine ite_holds ((freed metered).inDrop f) ?_
        split
        next e => exact (freed (carried_of_eq (edits _ _ _ _ _ _ _) e)).inDrop f
        next e => exact ((carried_of_eq (edits _ _ _ _ _ _ _) e).countIf _ _ _ _).launch _ _ _ _ _ _

theorem Carried.decide' (q : Nat) (rule : Option (Nat × Action)) (tbl : Fwd) (hash : Nat) :
    Snd (Snd (Carried s0)) (decide' q rule tbl hash s) := by
  unfold Machine.decide'
  extract_lets plain trapCount
  have counted (f : Fwd) {t : State} (ht : Carried s0 t) : Carried s0 (trapCount f t) := by
    unfold trapCount
    split
    · exact ht.count _ _ _ _
    · exact ht
  split
  · exact counted tbl h
  · refine ite_holds (P := Snd (Snd (Carried s0))) h (ite_holds (P := Snd (Snd (Carried s0))) (h.count _ _ _ _) ?_)
    refine ite_holds (P := Snd (Snd (Carried s0))) h (ite_holds (P := Snd (Snd (Carried s0))) h
      (ite_holds (P := Snd (Snd (Carried s0))) ?_ (counted tbl h)))
    have resolved := h.resolveEcmp
    split
    next e => exact counted _ (carried_of_eq (resolved _ _ _ _) e)

theorem Carried.classify (f : InFrame) (w : Walk) : Carried s0 (classify f w s) := by
  unfold Machine.classify
  have look (q : Nat) : Snd (Carried s0) (lookIn q s) := h.kept (kept_lookIn (le_same _) q s (.refl _ _)) (by decide)
  extract_lets q
  split
  next lk s1 e =>
    have looked := carried_of_eq (look _) e
    extract_lets +onlyGivenNames -merge f' d cls0 hash key rule s2
    have checked : Carried s0 s2 := looked.ruleParity _ _
    split
    next tbl s3 e =>
      have met := carried_of_eq (checked.tableLookup _ _ _ _) e
      extract_lets +onlyGivenNames -merge s4 a cls
      have learnt : Carried s0 s4 := met.learnLeaf _ _
      split
      next fw trap s5 e =>
        have decided := carried_of_eq₂ (learnt.decide' _ _ _ _) e
        extract_lets +onlyGivenNames -merge s6
        have gone : Carried s0 s6 := by
          unfold s6
          split
          · exact (ite_holds (P := Carried s0) decided (decided.count _ _ _ _)).inDrop _
          · exact decided.onward _ _ _ _ _ _ _ _
        have flow : Carried s0 (flowCount a f'.data.length s6) := gone.kept (kept_flowCount (le_same _) _ _ s6 (.refl _ _)) (by decide)
        exact ite_holds gone (flow.ingressCopy _ _ _ _)

theorem Carried.parseStep (f : InFrame) (cls : Option Nat) : Snd (Carried s0) (parseStep f cls s) := by
  unfold Machine.parseStep
  extract_lets +onlyGivenNames -merge d w
  split
  · exact h
  · extract_lets +onlyGivenNames -merge s1 act
    have counted : Carried s0 s1 := h.countIf _ _ _ _
    refine ite_holds (P := Snd (Carried s0)) counted (ite_holds (P := Snd (Carried s0)) (counted.inDrop f) ?_)
    have learnt : Carried s0 (if cls.isNone then Machine.learnLeaf f w s1 else s1) := ite_holds (counted.learnLeaf _ _) counted
    exact learnt.hostFrame _ _ _ _

theorem Carried.ingressFrame (f : InFrame) : Carried s0 (ingressFrame f s) := by
  have parsed := h.parseStep f none
  unfold Machine.ingressFrame
  split
  next e => exact carried_of_eq parsed e
  next e => exact (carried_of_eq parsed e).classify _ _

theorem Carried.directFrame (f : InFrame) (m p cls : Nat) : Carried s0 (directFrame f m p cls s) := by
  have parsed := h.parseStep f (some cls)
  unfold Machine.directFrame
  split
  next e => exact carried_of_eq parsed e
  next e => exact (carried_of_eq parsed e).launch _ _ _ _ _ _

end

end Sys2Proof.Machine
end

section
/-!
SUPPORT. A chain enters its receive buffer (R308), and the settlement of O49.
-/
namespace Sys2Proof.Machine

/-! ### Reading the segments of a chain -/

/-- Reads through the windows find the same in both states. -/
structure ReadAlike (s t : State) : Prop where
  windows : ∀ q ∈ windowRegs, ∀ i, t.reg q i = s.reg q i
  poison : t.host.poison = s.host.poison
  mem : t.host.mem = s.host.mem
  ext : t.host.ext = s.host.ext

theorem ReadAlike.of_rest {s t : State} (windows : ∀ q ∈ windowRegs, ∀ i, t.reg q i = s.reg q i) (rest : hostRest t = hostRest s) :
    ReadAlike s t :=
  ⟨windows, (congrArg HostSt.poison rest :), (congrArg HostSt.mem rest :), (congrArg HostSt.ext rest :)⟩

theorem ReadAlike.trans {s t u : State} (h : ReadAlike s t) (k : ReadAlike t u) : ReadAlike s u :=
  ⟨fun q hq i => (k.windows q hq i).trans (h.windows q hq i), k.poison.trans h.poison, k.mem.trans h.mem, k.ext.trans h.ext⟩

theorem ReadAlike.symm {s t : State} (h : ReadAlike s t) : ReadAlike t s :=
  ⟨fun q hq i => (h.windows q hq i).symm, h.poison.symm, h.mem.symm, h.ext.symm⟩

/-- What a read answers (R280, R287). -/
theorem hostRead_answer {s : State} (h : s.Sound) (x n : Nat) : (hostRead x n s).1 =
    if ownerExt s then some (memGet s.host.ext x n) else if poisoned s x n = [] then some (memGet s.host.mem x n) else none := by
  have sent := (Sends.refl h).send 3 1 1 (flitsOf n)
  have errors : poisoned (Machine.idlSend 3 1 1 (flitsOf n) s) x n = poisoned s x n := by
    unfold poisoned
    rw [sent.host]
  unfold hostRead
  dsimp only
  rw [ownerExt_regs sent.regs, errors, sent.host]
  split
  · rfl
  · cases poisoned s x n with
    | nil => rfl
    | cons b l => rfl

theorem ReadAlike.hostRead {s t : State} (k : ReadAlike s t) (h : s.Sound) (ht : t.Sound) (x n : Nat) :
    (hostRead x n t).1 = (hostRead x n s).1 := by
  rw [hostRead_answer h, hostRead_answer ht, ownerExt_congr k.windows, k.ext, k.mem]
  unfold poisoned
  rw [k.poison]

theorem dmaRead_answer (a n : Nat) (s : State) : (dmaRead a n s).1
    = (dmaTarget s a n false).elim (.error 0x13) fun x => (hostRead x n s).1.elim (.error 0x14) .ok := by
  unfold dmaRead
  cases dmaTarget s a n false with
  | none => rfl
  | some x =>
    dsimp only [Option.elim_some]
    obtain ⟨l, u⟩ := hostRead x n s
    cases l with
    | none => rfl
    | some l => rfl

theorem ReadAlike.dmaRead {s t : State} (k : ReadAlike s t) (h : s.Sound) (ht : t.Sound) (a n : Nat) :
    (dmaRead a n t).1 = (dmaRead a n s).1 := by
  rw [dmaRead_answer, dmaRead_answer, dmaTarget_congr k.windows]
  cases dmaTarget s a n false with
  | none => rfl
  | some x =>
    dsimp only [Option.elim_some]
    rw [k.hostRead h ht]

theorem hostRest_hostRead (x n : Nat) (s : State) : hostRest (hostRead x n s).2 = hostRest s := by
  have sent : hostRest (idlSend 3 1 1 (flitsOf n) s) = hostRest s :=
    hostRest_congr ((kept_idlSend (le_same _) 3 1 1 (flitsOf n) s (.refl _ s)).host (by decide))
  unfold hostRead
  dsimp only
  split
  · exact sent
  · split
    · exact sent
    · exact (hostRest_foldl (fun _ _ => hostRest_hostMemError ..) _ _).trans sent

theorem hostRest_dmaRead (a n : Nat) (s : State) : hostRest (dmaRead a n s).2 = hostRest s := by
  unfold dmaRead
  split
  · rfl
  · have read (x : Nat) := hostRest_hostRead x n s
    split
    · next x _ _ _ e => exact (congrArg (fun p : Option (List Byte) × State => hostRest p.2) e).symm.trans (read _)
    · next x _ _ e => exact (congrArg (fun p : Option (List Byte) × State => hostRest p.2) e).symm.trans (read _)

/-- A read leaves what reads find. -/
theorem readAlike_dmaRead {s : State} (h : s.Sound) (a n : Nat) : ReadAlike s (dmaRead a n s).2 := by
  have k := of_snd (kept_dmaRead (le_same _) a n s (.refl _ s))
  have free : ∀ q ∈ windowRegs, freeR ⟨7168, 0x680000000000000000000000000000000000000000000,
      0x30500000000000000000000000000000000000000000000000⟩ q = true := by decide +kernel
  exact .of_rest (fun q hq i => k.reg h (of_snd (sound_dmaRead a n s h)) (free q hq) i 0) (hostRest_dmaRead a n s)

theorem ReadAlike.readSegs (l : List (List Byte)) (st : Nat) (acc : List Byte) {s t : State} (k : ReadAlike s t) (h : s.Sound) (ht : t.Sound) :
    (readSegs l st acc t).1 = (readSegs l st acc s).1 := by
  induction l generalizing st acc s t with
  | nil => rfl
  | cons d l ih =>
    have same := k.dmaRead h ht (entWord d 1) (bits (entWord d 0) 15 0)
    have left := readAlike_dmaRead h (entWord d 1) (bits (entWord d 0) 15 0)
    have right := readAlike_dmaRead ht (entWord d 1) (bits (entWord d 0) 15 0)
    have soundS := of_snd (sound_dmaRead (entWord d 1) (bits (entWord d 0) 15 0) s h)
    have soundT := of_snd (sound_dmaRead (entWord d 1) (bits (entWord d 0) 15 0) t ht)
    unfold Machine.readSegs
    generalize Machine.dmaRead (entWord d 1) (bits (entWord d 0) 15 0) s = x at *
    generalize Machine.dmaRead (entWord d 1) (bits (entWord d 0) 15 0) t = y at *
    obtain ⟨a, s'⟩ := x
    obtain ⟨b, t'⟩ := y
    cases same
    have next : ReadAlike s' t' := left.symm.trans (k.trans right)
    cases a with
    | ok l => exact ih _ _ next soundS soundT
    | error e => exact ih _ _ next soundS soundT

/-! ### TX_FRAME_INJECT -/

/-- The turn passes to the ring after this one (R308). -/
def turnTaken (g r : Nat) (s : State) : State := { s with host := { s.host with txLast := SMap.insert s.host.txLast g (r + 1) } }

theorem sound_turnTaken {s : State} (h : s.Sound) (g r : Nat) : (turnTaken g r s).Sound :=
  sound_withHost h (HostSt.sound_mk h.host.rings h.host.mem h.host.ext (SMap.sorted_insert h.host.txLast _ _))

theorem txFrameInject_idle {s : State} {g : Fin 16}
    (not : dmaUp s = false ∨ s.pwr.stopped = true ∨ noGroup s g = true ∨ nextTxRing s g = none) : exec (.txFrameInject g) s = .next s := by
  refine congrArg Host.Outcome.next ?_
  by_cases shut : (!dmaUp s || s.pwr.stopped || noGroup s g) = true
  · exact if_pos shut
  · refine (if_neg shut).trans ?_
    rw [Bool.or_eq_true, Bool.or_eq_true, Bool.not_eq_true'] at shut
    have none : nextTxRing s g = none := by
      rcases not with e | e | e | e
      · exact absurd (.inl (.inl e)) shut
      · exact absurd (.inl (.inr e)) shut
      · exact absurd (.inr e) shut
      · exact e
    rw [none]

/-- R308: the chain of the ring whose turn it is meets the room in its pipeline. -/
theorem txFrameInject_meets {s : State} {g : Fin 16} {r : Nat} {u : RUnit} {es : List Entry} {d : List Byte} {l : List (List Byte)}
    (run : forwards s) (up : dmaUp s = true) (group : noGroup s g = false) (next : nextTxRing s g = some r)
    (oldest : oldestWaiting s r = some (u, es)) (data : runData es = d :: l) :
    exec (.txFrameInject g) s = .next (if rxFree s g < bits (entWord d 2) 34 21 then s else inject r u es (turnTaken g r s)) := by
  refine congrArg Host.Outcome.next ((if_neg ?_).trans ?_)
  · rw [up, show s.pwr.stopped = false from run, group]
    exact Bool.false_ne_true
  · rw [next]
    dsimp only
    rw [oldest]
    dsimp only
    rw [data]
    rfl

/-- The frame of a chain is taken in. -/
def takenFrame (r id : Nat) (s : State) : State := (setUnitSt r id .busy s).led tIn3 (ringPipe s r)

theorem inject_sends {s : State} {r : Nat} {u : RUnit} {es : List Entry} (ok : (readSegs (runData es) 0 [] s).1 = 0) :
    (∃ f m p c, inject r u es s = directFrame f m p c (takenFrame r u.id (readSegs (runData es) 0 [] s).2.2))
    ∨ ∃ f, inject r u es s = ingressFrame f (takenFrame r u.id (readSegs (runData es) 0 [] s).2.2) := by
  unfold inject
  dsimp only
  generalize readSegs (runData es) 0 [] s = x at ok ⊢
  obtain ⟨st, d, t⟩ := x
  cases ok
  dsimp only
  rw [if_neg (fun e : (0 : Nat) ≠ 0 => e rfl)]
  exact ite_holds (P := fun v => (∃ f m p c, v = directFrame f m p c (takenFrame r u.id t)) ∨ ∃ f, v = ingressFrame f (takenFrame r u.id t))
    (.inl ⟨_, _, _, _, rfl⟩) (.inr ⟨_, rfl⟩)

theorem inject_carries {s : State} (h : s.Sound) {r : Nat} {u : RUnit} {es : List Entry} (ok : (readSegs (runData es) 0 [] s).1 = 0) :
    Carried (takenFrame r u.id (readSegs (runData es) 0 [] s).2.2) (inject r u es s) := by
  have read : (takenFrame r u.id (readSegs (runData es) 0 [] s).2.2).Sound :=
    sound_State_led _ _ _ _ (sound_setUnitSt r u.id .busy _ (of_snd (of_snd (sound_readSegs (runData es) 0 [] s h))))
  rcases inject_sends (r := r) (u := u) ok with ⟨f, m, p, c, e⟩ | ⟨f, e⟩
  · rw [e]
    exact (Carried.refl read).directFrame f m p c
  · rw [e]
    exact (Carried.refl read).ingressFrame f

/-- R308, R424: the turn has passed on, and the frame is taken in. -/
theorem inject_counts {s : State} (h : s.Sound) {g r : Nat} (hg : g < 512) {u : RUnit} {es : List Entry} (pipe : ringPipe s r = g)
    (ok : (readSegs (runData es) 0 [] s).1 = 0) :
    (inject r u es s).host.txLast = s.host.txLast ∧ (inject r u es s).ledOf tIn3 g = s.ledOf tIn3 g + 1 := by
  have carries := inject_carries (r := r) (u := u) h ok
  have read := of_snd (of_snd ((Carried.refl h).readSegs (runData es) 0 []))
  have k := of_snd (of_snd (kept_readSegs (le_same _) (runData es) 0 [] s (.refl _ s)))
  have feeds : ringPipe (readSegs (runData es) 0 [] s).2.2 r = g := by
    rw [← pipe]
    exact congrArg (· % 16) (k.fld h (of_snd (of_snd (sound_readSegs (runData es) 0 [] s h))) (f := .HOST_RING_CFG_PIPE) (by decide +kernel) r 0)
  generalize (readSegs (runData es) 0 [] s).2.2 = v at carries read feeds
  have busy := read.setUnitSt r u.id .busy
  refine ⟨carries.last.trans busy.last, (carries.taken g hg).trans ?_⟩
  unfold takenFrame
  rw [feeds]
  exact (SMap.getD_upd_self busy.sorted (512 * tIn3 + g) 0 (· + 1)).trans (congrArg (· + 1) (busy.taken g hg))

theorem nextTxRing_pipe {s : State} {g r : Nat} (h : nextTxRing s g = some r) : ringPipe s r = g := by
  have found := List.find?_some h
  rw [Bool.and_eq_true] at found
  exact beq_iff_eq.mp found.1

theorem readAlike_turnTaken (g r : Nat) (s : State) : ReadAlike s (turnTaken g r s) := ⟨fun _ _ _ => rfl, rfl, rfl, rfl⟩

/-- Settles O49: a fetch takes one entry (`fetchChains_one`, `fetchRx_one`), a chain is checked (`txDescriptor_checks`) and taken once
there is room, and a ready completion is written with its write-back (`writeBack_reaches`). -/
theorem ringWork : Obligations.RingWork := by
  unfold Obligations.RingWork
  refine ⟨fun s r down => ringFetch_down down r, fun s r x y h side up en none tail target slot clean last => ?_,
    fun s r x y h up en room tail target slot clean => ?_, fun s r u es h oldest kept => txDescriptor_checks h oldest kept,
    fun s r e i st d l h raw idx status => ?_, fun s r u us c x y h hl units ready up loud room may => ?_,
    fun s r not => congrArg Host.Outcome.next (completionWrite_waits not), fun s g not => txFrameInject_idle not,
    fun s g r u es d l h run up group next oldest data => ?_⟩
  case refine_1 =>
    obtain ⟨t, ends, backed⟩ := fetchChains_one h (dmaUp_linked up) r.isLt en none tail target slot clean last
    have taken := entryRead_sends h
    obtain ⟨u, units, facts⟩ := oneTaken_unit (r := r) (x := x) h none
    refine ⟨t, (ringFetch_chains up side).trans (congrArg Host.Outcome.next ends), ?_, ?_, backed.slot, ?_, u, ?_, facts⟩
    · exact (congrArg BitVec.toNat (reg_congr backed.regs ..)).trans ((oneTaken_head h).trans tail.symm)
    · exact congrArg BitVec.toNat ((reg_congr backed.regs ..).trans (oneTaken_reg h (by decide) (by decide) r))
    · have held := chainTaken_held taken.sound (ringOf s r) r [headEntry s r x] r.isLt
      rw [none] at held
      exact (fld_congr backed.regs ..).trans held
    · rw [ringOf_rings backed.rings, units]
  case refine_2 =>
    obtain ⟨t, ends, backed, only⟩ := fetchRx_one h (dmaUp_linked up) (by omega) en room tail target slot clean
    have ring : ringOf t (64 + r) = _ := (ringOf_rings backed.rings _).trans (oneRead_ring h)
    refine ⟨t, (ringFetch_rx up r).trans (congrArg Host.Outcome.next ends), ?_, ?_, ?_, backed.slot, only⟩
    · rw [ring]
    · rw [ring, tail]
    · rw [ring]
  case refine_3 =>
    subst idx
    have run := exec_rxBufferDescriptor raw
    have answer : rxStatus s e = st := by
      rcases status with ⟨data, e'⟩ | ⟨data, e'⟩
      all_goals rw [rxStatus, data, e']
    rw [answer] at run
    refine ⟨fun good => ?_, fun bad full => ?_, fun bad room slot => ?_⟩
    · have data : e.data = some d := by
        rcases status with ⟨data, -⟩ | ⟨-, e'⟩
        · exact data
        · rw [good] at e'; cases e'
      rw [if_pos good, data] at run
      refine ⟨_, run, ?_, ?_, ((Sofar.start h [.host] [] []).setHost (by decide) _).only⟩
      all_goals rw [ringOf_setRing h]
      rfl
    · rw [if_neg bad, if_pos full] at run
      exact run
    · rw [if_neg bad, if_neg (Nat.not_le.mpr room)] at run
      obtain ⟨left, pre, u, units, first, nent, done⟩ := rxRefused_shows h e l slot
      exact ⟨_, run, left, pre, u, units, first, nent, by rw [done, answer]⟩
  case refine_4 =>
    exact ⟨_, rfl, completionWrite_done h hl units ready up loud room may⟩
  case refine_5 =>
    have meets := txFrameInject_meets run up group next oldest data
    refine ⟨fun full => ?_, fun room read => ?_⟩
    · rw [if_pos full] at meets
      exact meets
    · rw [if_neg (Nat.not_lt.mpr room)] at meets
      have taken := sound_turnTaken h g r
      have ok : (readSegs (runData es) 0 [] (turnTaken g r s)).1 = 0 := by
        rw [data, (readAlike_turnTaken g r s).readSegs (d :: l) 0 [] h taken]
        exact read
      obtain ⟨last, counted⟩ := inject_counts taken (u := u) (Nat.lt_trans g.isLt (by decide)) (nextTxRing_pipe (s := s) next) ok
      refine ⟨_, meets, ?_, counted⟩
      rw [last, SMap.getD, turnTaken, SMap.get?_insert_self]
      rfl

end Sys2Proof.Machine
end

section
/-!
SUPPORT. What the module loses where its rails go down, and what a power-on leaves (R385, R386, R396).
-/
namespace Sys2Proof.Machine

/-! ### Rails 3 to 17 down -/

/-- The supply side where rails 0 to 2 alone are up. -/
def railsPwr (x : PwrSt) : PwrSt := { x with
  stopped := true, seq := .keeper, starting := none, resetAt := none, appHeld := true, steepAt := none, steepLate := false
  dummy := false }

/-- Neither steep nor the end of the sequence shows. -/
def seqUndone (s : State) : State := ((s.setFld .PWR_STATUS_SEQ_DONE 0).setFld .PWR_STATUS_STEEP 0).setFld .KEEP_STATUS_STEEP 0

/-- Rails 0 to 2 are up alone. -/
def keeperOnly (s : State) : State := { s with
  pwr := { s.pwr with
    seq := .keeper, starting := none, resetAt := none, appHeld := true, steepAt := none, steepLate := false, dummy := false }
  nvm := { s.nvm with recovery := false, trialAt := none } }

theorem railsDown_eq (s : State) : railsDown s = keeperOnly (seqUndone (switchReset false (memLost s))) := rfl

theorem keeperOnly_leaves (s : State) : (keeperOnly s).regs = s.regs ∧ (keeperOnly s).cnts = s.cnts ∧ (keeperOnly s).shadow = s.shadow
    ∧ (keeperOnly s).host = s.host ∧ (keeperOnly s).tbl = s.tbl ∧ (keeperOnly s).leaf = s.leaf ∧ (keeperOnly s).tm = s.tm
    ∧ (keeperOnly s).now = s.now ∧ (s.pwr.stopped = true → (keeperOnly s).pwr = railsPwr s.pwr) :=
  ⟨rfl, rfl, rfl, rfl, rfl, rfl, rfl, rfl, fun h => by rw [keeperOnly, railsPwr, ← h]⟩

theorem seqUndone_leaves (s : State) : (seqUndone s).cnts = s.cnts ∧ (seqUndone s).shadow = s.shadow
    ∧ (seqUndone s).host = s.host ∧ (seqUndone s).tbl = s.tbl ∧ (seqUndone s).leaf = s.leaf ∧ (seqUndone s).tm = s.tm
    ∧ (seqUndone s).now = s.now ∧ (seqUndone s).pwr = s.pwr := by
  simp only [seqUndone, setFld_cnts, setFld_shadow, setFld_host, setFld_tbl, setFld_leaf, setFld_tm, setFld_now, setFld_pwr, and_self]

/-- A flag of PWR_STATUS or KEEP_STATUS that stays beside the sequence. -/
theorem seqUndone_shows {s : State} (h : s.Sound) : (seqUndone s).Sound ∧ (seqUndone s).flag .PWR_STATUS_SEQ_DONE = false
    ∧ (seqUndone s).flag .PWR_STATUS_STEEP = false ∧ (seqUndone s).flag .PWR_STATUS_DUSK = s.flag .PWR_STATUS_DUSK
    ∧ (seqUndone s).flag .PWR_STATUS_INPUT_OK = s.flag .PWR_STATUS_INPUT_OK
    ∧ (seqUndone s).flag .KEEP_STATUS_DUSK = s.flag .KEEP_STATUS_DUSK
    ∧ ∀ q, q ≠ Reg.off .PWR_STATUS → q ≠ Reg.off .KEEP_STATUS → SMap.get? (seqUndone s).regs q = SMap.get? s.regs q := by
  have h1 := sound_State_setFld s .PWR_STATUS_SEQ_DONE 0 0 0 h
  have h2 := sound_State_setFld _ .PWR_STATUS_STEEP 0 0 0 h1
  unfold seqUndone
  refine ⟨sound_State_setFld _ .KEEP_STATUS_STEEP 0 0 0 h2, ?_, ?_, ?_, ?_, ?_, fun q hp hk => ?_⟩
  · rw [flag_setFld_apart (f := .KEEP_STATUS_STEEP) (g := .PWR_STATUS_SEQ_DONE) h2.regs (by decide),
      flag_setFld_beside (f := .PWR_STATUS_STEEP) (g := .PWR_STATUS_SEQ_DONE) h1.regs (by decide),
      flag_setFld h.regs (by decide) (by decide)]
    rfl
  · rw [flag_setFld_apart (f := .KEEP_STATUS_STEEP) (g := .PWR_STATUS_STEEP) h2.regs (by decide),
      flag_setFld h1.regs (by decide) (by decide)]
    rfl
  · rw [flag_setFld_apart (f := .KEEP_STATUS_STEEP) (g := .PWR_STATUS_DUSK) h2.regs (by decide),
      flag_setFld_beside (f := .PWR_STATUS_STEEP) (g := .PWR_STATUS_DUSK) h1.regs (by decide),
      flag_setFld_beside (f := .PWR_STATUS_SEQ_DONE) (g := .PWR_STATUS_DUSK) h.regs (by decide)]
  · rw [flag_setFld_apart (f := .KEEP_STATUS_STEEP) (g := .PWR_STATUS_INPUT_OK) h2.regs (by decide),
      flag_setFld_beside (f := .PWR_STATUS_STEEP) (g := .PWR_STATUS_INPUT_OK) h1.regs (by decide),
      flag_setFld_beside (f := .PWR_STATUS_SEQ_DONE) (g := .PWR_STATUS_INPUT_OK) h.regs (by decide)]
  · rw [flag_setFld_beside (f := .KEEP_STATUS_STEEP) (g := .KEEP_STATUS_DUSK) h2.regs (by decide),
      flag_setFld_apart (f := .PWR_STATUS_STEEP) (g := .KEEP_STATUS_DUSK) h1.regs (by decide),
      flag_setFld_apart (f := .PWR_STATUS_SEQ_DONE) (g := .KEEP_STATUS_DUSK) h.regs (by decide)]
  · exact (get?_setReg_ne h2.regs (r := .KEEP_STATUS) hk _).trans ((get?_setReg_ne h1.regs (r := .PWR_STATUS) hp _).trans
      (get?_setReg_ne h.regs (r := .PWR_STATUS) hp _))

/-- The reset of the switch die leaves the registers of the control die. -/
theorem SwitchCleared.far {rws : Bool} {s t : State} (c : SwitchCleared rws s t) {q : Nat} (hq : 0x1000000 ≤ q)
    (ne : q ≠ Reg.off .IDL_STATUS) : SMap.get? t.regs q = SMap.get? s.regs q := by
  refine (c.regs q fun hm => ?_).trans (if_pos (keptReg_far hq rws))
  simp only [shownRegs, List.mem_cons, List.not_mem_nil, or_false] at hm
  rcases hm with e | e | e | e
  · exact absurd (e ▸ hq) (by decide)
  · exact absurd (e ▸ hq) (by decide)
  · exact ne e
  · exact absurd (e ▸ hq) (by decide)

/-- What the switch die shows after its reset is at its reset value, but for the fuses and the HBM. -/
theorem SwitchCleared.near {s t : State} (c : SwitchCleared false s t)
    (unused : SMap.get? t.regs (Reg.off .BUF_RETIRE_STATUS) = none) {q : Nat} (hq : q < 0x1000000)
    (hf : q ≠ Reg.off .SYS_FUSE_USER) (hc : q ≠ Reg.off .BUF_CARVE_STATUS) : SMap.get? t.regs q = none := by
  by_cases hr : q = Reg.off .BUF_RETIRE_STATUS
  · exact hr ▸ unused
  · refine (c.regs q fun hm => ?_).trans (if_neg (by rw [keptReg_near hq]; exact Bool.false_ne_true))
    simp only [shownRegs, List.mem_cons, List.not_mem_nil, or_false] at hm
    rcases hm with e | e | e | e
    · exact hf e
    · exact hr e
    · exact absurd (e ▸ hq) idl_far
    · exact hc e

theorem flag_of_get? {s t : State} {f : Fld} {i j : Nat} (h : SMap.get? t.regs (f.reg.off i j) = SMap.get? s.regs (f.reg.off i j)) :
    t.flag f i j = s.flag f i j := by
  have word : t.reg f.reg i j = s.reg f.reg i j := by
    unfold State.reg SMap.getD
    rw [h]
  rw [State.flag, State.fld, word]
  rfl

/-- What the loss of rails 3 to 17 leaves. -/
structure RailsLost (s t : State) : Prop where
  sound : t.Sound
  near : ∀ q < 0x1000000, q ≠ Reg.off .SYS_FUSE_USER → q ≠ Reg.off .BUF_CARVE_STATUS → SMap.get? t.regs q = none
  seq : t.flag .PWR_STATUS_SEQ_DONE = false ∧ t.flag .PWR_STATUS_STEEP = false
  dusk : t.flag .PWR_STATUS_DUSK = s.flag .PWR_STATUS_DUSK ∧ t.flag .KEEP_STATUS_DUSK = s.flag .KEEP_STATUS_DUSK
  input : t.flag .PWR_STATUS_INPUT_OK = s.flag .PWR_STATUS_INPUT_OK
  cnts : t.cnts = SMap.keep s.cnts (fun k => decide (controlBase ≤ k))
  lost : t.host.mem = [] ∧ t.tbl = {} ∧ t.leaf = {} ∧ t.tm = {} ∧ t.shadow = []
  pwr : t.pwr = railsPwr s.pwr
  now : t.now = s.now

theorem railsDown_loses {s : State} (h : s.Sound) : RailsLost s (railsDown s) := by
  have lost := sound_memLost h
  have c := switchReset_clears lost false
  have unused := switchReset_unused lost
  have pwr : (memLost s).pwr = s.pwr := rfl
  have now : (memLost s).now = s.now := rfl
  have cnts : (memLost s).cnts = s.cnts := rfl
  have regs : (memLost s).regs = s.regs := rfl
  have mem : (memLost s).host.mem = [] := rfl
  have sound := sound_railsDown s h
  rw [railsDown_eq] at sound ⊢
  generalize memLost s = m at *
  generalize switchReset false m = u at *
  obtain ⟨-, done, steep, dusk, input, keep, beside⟩ := seqUndone_shows c.sound
  obtain ⟨uCnts, uShadow, uHost, uTbl, uLeaf, uTm, uNow, uPwr⟩ := seqUndone_leaves u
  generalize seqUndone u = v at *
  obtain ⟨kRegs, kCnts, kShadow, kHost, kTbl, kLeaf, kTm, kNow, kPwr⟩ := keeperOnly_leaves v
  have word {f : Fld} (low : 0x1000000 ≤ f.reg.off 0 0) (ne : f.reg.off 0 0 ≠ Reg.off .IDL_STATUS) : u.flag f = s.flag f :=
    flag_of_get? (by rw [c.far low ne, regs])
  have stops : v.pwr.stopped = true := by rw [uPwr, c.pwr]
  refine ⟨sound, fun q hq hf hc => ?_, ⟨?_, ?_⟩, ⟨?_, ?_⟩, ?_, ?_, ⟨?_, ?_, ?_, ?_, ?_⟩, ?_, ?_⟩
  · rw [kRegs, beside q (fun e => absurd (e ▸ hq) (by decide)) (fun e => absurd (e ▸ hq) (by decide))]
    exact c.near unused hq hf hc
  · rw [flag_congr kRegs, done]
  · rw [flag_congr kRegs, steep]
  · rw [flag_congr kRegs, dusk, word (f := .PWR_STATUS_DUSK) (by decide) (by decide)]
  · rw [flag_congr kRegs, keep, word (f := .KEEP_STATUS_DUSK) (by decide) (by decide)]
  · rw [flag_congr kRegs, input, word (f := .PWR_STATUS_INPUT_OK) (by decide) (by decide)]
  · rw [kCnts, uCnts, c.cnts, cnts]
  · rw [kHost, uHost, c.mem, mem]
  · rw [kTbl, uTbl, c.tbl]
  · rw [kLeaf, uLeaf, c.leaf]
  · rw [kTm, uTm, c.tm]
  · rw [kShadow, uShadow, c.shadow]
  · rw [kPwr stops, uPwr, c.pwr, pwr]
    rfl
  · rw [kNow, uNow, c.now, now]

/-! ### Every rail down -/

/-- The register lies beside KEEP_STATUS. -/
def besideKeeper (r : Reg) : Bool := within 0 (Reg.off .KEEP_STATUS) r || within (Reg.off .KEEP_STATUS + 4) 0x10000000 r

theorem spans_besideKeeper {r : Reg} (hb : besideKeeper r = true) : ¬ r.spans (Reg.off .KEEP_STATUS) := by
  intro hs
  rw [besideKeeper, Bool.or_eq_true] at hb
  rcases hb with hb | hb
  · exact absurd (spans_within hb hs).2 (Nat.lt_irrefl _)
  · exact absurd (spans_within hb hs).1 (Nat.not_le.mpr (Nat.lt_add_of_pos_right (Nat.succ_pos 3)))

theorem keeper_near : ¬ Reg.off .KEEP_STATUS < controlBase := by decide

theorem showKeeper_status {w : Word} {s : State} (h : s.regs.sorted = true) (h' : (showKeeper w s).regs.sorted = true) :
    SMap.get? (showKeeper w s).regs (Reg.off .KEEP_STATUS) = SMap.get? s.regs (Reg.off .KEEP_STATUS) :=
  (kept_showKeeper w s).spares h h' (ok := besideKeeper) (by decide +kernel) fun _ hb => spans_besideKeeper hb

/-- The reset of the keeper domain shows nothing of the keeper core. -/
theorem keeperReset_status {s : State} (h : s.Sound) : SMap.get? (keeperReset s).regs (Reg.off .KEEP_STATUS) = none := by
  obtain ⟨w, u, run, regs⟩ : ∃ w u, keeperReset s = showKeeper w u ∧ u.regs = SMap.keep s.regs (fun k => decide (k < controlBase)) :=
    ⟨_, _, rfl, rfl⟩
  have sorted : u.regs.sorted = true := by
    rw [regs]
    exact SMap.sorted_keep h.regs _
  have sound := sound_keeperReset s h
  rw [run] at sound ⊢
  rw [showKeeper_status sorted sound.regs, regs]
  exact get?_keep_out (decide_eq_false keeper_near)

/-- PWR_STATUS of a module without power. -/
def bareStatus (s : State) : Word := BitVec.ofNat 32 (b2n s.pwr.quiet * 2 ^ 23)

/-- No rail has power. -/
def unpowered (w : Word) (s : State) : State := { s.setReg .PWR_STATUS w with
  nvm := { s.nvm with keeperFwAt := none }
  pwr := { s.pwr with seq := .off, keeperUp := false } }

theorem allDown_eq (s : State) : allDown s = unpowered (bareStatus (keeperReset (railsDown s))) (keeperReset (railsDown s)) := by
  unfold allDown bareStatus
  generalize keeperReset (railsDown s) = u
  dsimp only
  generalize BitVec.ofNat 32 (b2n u.pwr.quiet * 2 ^ 23) = w
  rfl

theorem unpowered_leaves (w : Word) (s : State) : (unpowered w s).regs = (s.setReg .PWR_STATUS w).regs
    ∧ (unpowered w s).cnts = s.cnts ∧ (unpowered w s).shadow = s.shadow
    ∧ (unpowered w s).host = s.host ∧ (unpowered w s).tbl = s.tbl ∧ (unpowered w s).leaf = s.leaf ∧ (unpowered w s).tm = s.tm
    ∧ (unpowered w s).now = s.now ∧ (unpowered w s).pwr = { s.pwr with seq := .off, keeperUp := false } :=
  ⟨rfl, rfl, rfl, rfl, rfl, rfl, rfl, rfl, rfl⟩

/-- The flags of a word that holds bit 23 at most. -/
theorem bareWord (b : Bool) : Fld.PWR_STATUS_DUSK.get (BitVec.ofNat 32 (b2n b * 2 ^ 23)) = 0
    ∧ Fld.PWR_STATUS_STEEP.get (BitVec.ofNat 32 (b2n b * 2 ^ 23)) = 0
    ∧ Fld.PWR_STATUS_SEQ_DONE.get (BitVec.ofNat 32 (b2n b * 2 ^ 23)) = 0 := by
  cases b <;> decide

/-- What the loss of every rail leaves. -/
structure AllLost (s t : State) : Prop where
  sound : t.Sound
  near : ∀ q < 0x1000000, q ≠ Reg.off .SYS_FUSE_USER → q ≠ Reg.off .BUF_CARVE_STATUS → SMap.get? t.regs q = none
  seq : t.flag .PWR_STATUS_SEQ_DONE = false ∧ t.flag .PWR_STATUS_STEEP = false
  dusk : t.flag .PWR_STATUS_DUSK = false ∧ t.flag .KEEP_STATUS_DUSK = false
  alive : t.flag .KEEP_STATUS_ALIVE = false
  cnts : ∀ q, SMap.get? t.cnts q = none
  lost : t.host.mem = [] ∧ t.tbl = {} ∧ t.leaf = {} ∧ t.tm = {} ∧ t.shadow = []
  pwr : t.pwr = { keeperPwr (railsPwr s.pwr) with seq := .off, keeperUp := false }
  now : t.now = s.now

theorem allDown_loses {s : State} (h : s.Sound) : AllLost s (allDown s) := by
  have r := railsDown_loses h
  have k := keeperReset_clears r.sound
  have status : (keeperReset (railsDown s)).reg .KEEP_STATUS = 0#32 := reg_of_none (keeperReset_status r.sound)
  have sound := sound_allDown s h
  rw [allDown_eq] at sound ⊢
  generalize railsDown s = u at *
  generalize keeperReset u = v at *
  obtain ⟨dusk, steep, done⟩ : _ ∧ _ := bareWord v.pwr.quiet
  rw [bareStatus] at sound ⊢
  generalize BitVec.ofNat 32 (b2n v.pwr.quiet * 2 ^ 23) = w at *
  obtain ⟨uRegs, uCnts, uShadow, uHost, uTbl, uLeaf, uTm, uNow, uPwr⟩ := unpowered_leaves w v
  have shows {f : Fld} (hf : f.reg = .PWR_STATUS) : (unpowered w v).flag f = (f.get w != 0) := by
    rw [flag_congr uRegs, State.flag, State.fld, hf, reg_setReg k.sound.regs]
  have keeps {f : Fld} (hf : f.reg = .KEEP_STATUS) : (unpowered w v).flag f = (f.get 0#32 != 0) := by
    rw [flag_congr uRegs, flag_setReg_apart k.sound.regs (by rw [hf]; decide), State.flag, State.fld, hf, status]
  refine ⟨sound, fun q hq hf hc => ?_, ⟨?_, ?_⟩, ⟨?_, ?_⟩, ?_, fun q => ?_, ⟨?_, ?_, ?_, ?_, ?_⟩, ?_, uNow.trans (k.now.trans r.now)⟩
  · rw [uRegs, get?_setReg_ne k.sound.regs (fun e => absurd (e ▸ hq) (by decide)), k.regs q hq]
    exact r.near q hq hf hc
  · rw [shows rfl, done]
    rfl
  · rw [shows rfl, steep]
    rfl
  · rw [shows rfl, dusk]
    rfl
  · rw [keeps rfl]
    rfl
  · rw [keeps rfl]
    rfl
  · rw [uCnts, k.cnts, r.cnts]
    by_cases hq : q < controlBase
    · exact (get?_keep_in (SMap.sorted_keep h.cnts _) (decide_eq_true hq)).trans
        (get?_keep_out (decide_eq_false (Nat.not_le.mpr hq)))
    · exact get?_keep_out (decide_eq_false hq)
  · rw [uHost, k.host, r.lost.1]
  · rw [uTbl, k.tbl, r.lost.2.1]
  · rw [uLeaf, k.leaf, r.lost.2.2.1]
  · rw [uTm, k.tm, r.lost.2.2.2.1]
  · rw [uShadow, k.shadow, r.lost.2.2.2.2]
  · rw [uPwr, k.pwr, r.pwr]

/-! ### Power-on (R385, R398) -/

/-- The registers and counters of the switch die are reset, what it held is lost, and the keeper core does not run. -/
structure Reborn (t : State) : Prop where
  sound : t.Sound
  near : ∀ q < 0x1000000, q ≠ Reg.off .SYS_FUSE_USER → q ≠ Reg.off .BUF_CARVE_STATUS → SMap.get? t.regs q = none
  cnts : ∀ q < 0x1000000, SMap.get? t.cnts q = none
  seq : t.flag .PWR_STATUS_SEQ_DONE = false ∧ t.flag .PWR_STATUS_STEEP = false
  alive : t.flag .KEEP_STATUS_ALIVE = false
  lost : t.host.mem = [] ∧ t.tbl = {} ∧ t.leaf = {} ∧ t.tm = {} ∧ t.shadow = []

theorem AllLost.reborn {s t : State} (a : AllLost s t) : Reborn t := ⟨a.sound, a.near, fun q _ => a.cnts q, a.seq, a.alive, a.lost⟩

/-- A field of PWR_STATUS beside the sequence. -/
abbrev besideSeq (f : Fld) : Prop :=
  f.reg = .PWR_STATUS ∧ sideBySide f .PWR_STATUS_SEQ_DONE ∧ sideBySide f .PWR_STATUS_STEEP

theorem Reborn.setFld {s : State} (b : Reborn s) {f : Fld} (hf : besideSeq f) (v : Nat) : Reborn (s.setFld f v) := by
  obtain ⟨reg, done, steep⟩ := hf
  obtain ⟨mem, tbl, leaf, tm, shadow⟩ := b.lost
  refine ⟨sound_State_setFld s f v 0 0 b.sound, fun q hq hs hc => ?_, fun q hq => ?_, ⟨?_, ?_⟩, ?_, ?_⟩
  · refine (get?_setReg_ne b.sound.regs (fun e => ?_) _).trans (b.near q hq hs hc)
    rw [reg] at e
    exact absurd (e ▸ hq) (by decide)
  · rw [setFld_cnts]
    exact b.cnts q hq
  · rw [flag_setFld_beside (f := f) b.sound.regs done, b.seq.1]
  · rw [flag_setFld_beside (f := f) b.sound.regs steep, b.seq.2]
  · rw [flag_setFld_apart (f := f) b.sound.regs (by rw [reg]; decide), b.alive]
  · rw [setFld_host, setFld_tbl, setFld_leaf, setFld_tm, setFld_shadow]
    exact ⟨mem, tbl, leaf, tm, shadow⟩

theorem Reborn.count {s : State} (b : Reborn s) {c : Cnt} (far : 0x1000000 ≤ c.off 0 0) : Reborn (s.count c) :=
  ⟨sound_State_count s c 0 0 1 b.sound, b.near, fun q hq => (SMap.get?_upd_ne b.sound.cnts (a := q) (q := c.off 0 0)
    (fun e => absurd hq (Nat.not_lt.mpr (e ▸ far))) 0#64 (· + BitVec.ofNat 64 1)).trans (b.cnts q hq), b.seq, b.alive, b.lost⟩

/-- What the dusk region tells is counted, and a trip shown. -/
theorem countShutdown_holds {P : State → Prop}
    (counts : ∀ (c : Cnt) (u : State), c ∈ [Cnt.PWR_DUSK_CNT, .PWR_MAINS_LOSS_CNT, .PWR_TRIP_CNT, .PWR_DUSK_INCOMPLETE_CNT] →
      P u → P (u.count c))
    (shows : ∀ u, P u → P (u.setFld .PWR_STATUS_LAST_TRIP 1)) {s : State} (h : P s) : P (countShutdown s) := by
  unfold countShutdown
  split
  · exact h
  · split
    · next d _ _ =>
      have ended : P (s.count .PWR_DUSK_CNT) := counts _ _ (by decide) h
      have mains : P ((s.count .PWR_DUSK_CNT).countIf (d.causes.contains 1) .PWR_MAINS_LOSS_CNT) :=
        ite_holds (counts .PWR_MAINS_LOSS_CNT _ (by decide) ended) ended
      exact ite_holds (shows _ (counts .PWR_TRIP_CNT _ (by decide) mains)) mains
    · exact counts .PWR_DUSK_INCOMPLETE_CNT _ (by decide) h

theorem shutdownCnts_far : ∀ c ∈ [Cnt.PWR_DUSK_CNT, .PWR_MAINS_LOSS_CNT, .PWR_TRIP_CNT, .PWR_DUSK_INCOMPLETE_CNT],
    0x1000000 ≤ c.off 0 0 := by decide

/-- The input and the bus show. -/
def inputShown (s : State) : State := (s.setFld .PWR_STATUS_INPUT_OK 1).setFld .PWR_STATUS_BUS_OK 1

/-- The input and the bus are there. -/
structure InputThere (t : State) : Prop where
  reborn : Reborn t
  input : t.flag .PWR_STATUS_INPUT_OK = true ∧ t.flag .PWR_STATUS_BUS_OK = true

theorem inputShown_shows {s : State} (b : Reborn s) : InputThere (inputShown s) := by
  have input := b.setFld (f := .PWR_STATUS_INPUT_OK) (by decide +kernel) 1
  refine ⟨input.setFld (by decide +kernel) 1, ?_, flag_setFld input.sound.regs (by decide) (by decide) 1 0 0⟩
  rw [inputShown, flag_setFld_beside (f := .PWR_STATUS_BUS_OK) (g := .PWR_STATUS_INPUT_OK) input.sound.regs (by decide),
    flag_setFld b.sound.regs (by decide) (by decide)]
  rfl

theorem countShutdown_there {s : State} (i : InputThere s) : InputThere (countShutdown s) := by
  refine countShutdown_holds (fun c u hc i => ⟨i.reborn.count (shutdownCnts_far c hc), i.input⟩)
    (fun u i => ⟨i.reborn.setFld (by decide +kernel) 1, ?_, ?_⟩) i
  · rw [flag_setFld_beside (f := .PWR_STATUS_LAST_TRIP) (g := .PWR_STATUS_INPUT_OK) i.reborn.sound.regs (by decide), i.input.1]
  · rw [flag_setFld_beside (f := .PWR_STATUS_LAST_TRIP) (g := .PWR_STATUS_BUS_OK) i.reborn.sound.regs (by decide), i.input.2]

theorem measured_cnts (c : Climate) (s : State) : (measured c s).cnts = s.cnts := by
  unfold measured
  dsimp only
  exact foldl_holds (P := fun t : State => t.cnts = s.cnts) (fun _ _ h => h) rfl

theorem measured_there {s : State} (i : InputThere s) (c : Climate) : InputThere (measured c s) := by
  have k := kept_measured (le_same _) c s (.refl _ s)
  have h := i.reborn.sound
  have sound := sound_measured c s h
  obtain ⟨mem, tbl, leaf, tm, shadow⟩ := i.reborn.lost
  refine ⟨⟨sound, fun q hq hf hc => ?_, fun q hq => ?_, ⟨?_, ?_⟩, ?_, ?_⟩, ?_, ?_⟩
  · rw [k.far_regs h.regs sound.regs (by decide +kernel) hq]
    exact i.reborn.near q hq hf hc
  · rw [measured_cnts]
    exact i.reborn.cnts q hq
  · rw [k.flag h sound (by decide +kernel), i.reborn.seq.1]
  · rw [k.flag h sound (by decide +kernel), i.reborn.seq.2]
  · rw [k.flag h sound (by decide +kernel), i.reborn.alive]
  · rw [k.host (by decide), k.tbl (by decide), k.leaf (by decide), k.tm (by decide), k.shadow (by decide)]
    exact ⟨mem, tbl, leaf, tm, shadow⟩
  · rw [k.flag h sound (by decide +kernel), i.input.1]
  · rw [k.flag h sound (by decide +kernel), i.input.2]

/-- The trip before this power-on shows. -/
def tripShown (trip : Bool) (s : State) : State := if trip then s.setFld .PWR_STATUS_LAST_TRIP 1 else s

/-- Rails 0 to 2 come up. -/
def railsFrom (c : Climate) (s : State) : State := { s with
  tot := []
  hlt := { s.hlt with keepq := savedLogs s }
  nvm := { s.nvm with keeperFwAt := some s.now }
  pwr := { s.pwr with
    seq := .keeper, starting := some c.tMin, keeperUp := true, tripLatched := false
    evalAt := s.now / (100 * clkMs), ckptAt := s.now / (1000 * clkMs) } }

theorem railsFrom_leaves (c : Climate) (s : State) : (railsFrom c s).regs = s.regs ∧ (railsFrom c s).cnts = s.cnts
    ∧ (railsFrom c s).shadow = s.shadow ∧ (railsFrom c s).host = s.host ∧ (railsFrom c s).tbl = s.tbl
    ∧ (railsFrom c s).leaf = s.leaf ∧ (railsFrom c s).tm = s.tm ∧ (railsFrom c s).nvm.keeperFwAt = some s.now
    ∧ (railsFrom c s).pwr = { s.pwr with
      seq := .keeper, starting := some c.tMin, keeperUp := true, tripLatched := false
      evalAt := s.now / (100 * clkMs), ckptAt := s.now / (1000 * clkMs) } :=
  ⟨rfl, rfl, rfl, rfl, rfl, rfl, rfl, rfl, rfl⟩

theorem powerUp_eq (c : Climate) (s : State) : ∃ v, v = countShutdown (inputShown (railsFrom c (tripShown s.pwr.tripLatched (allDown s))))
    ∧ powerUp c s = noteReset 0 0 v.ctl (measured c v) := by
  refine ⟨_, rfl, ?_⟩
  unfold powerUp
  generalize allDown s = u
  rfl

theorem Reborn.tripShown {s : State} (b : Reborn s) (trip : Bool) : Reborn (tripShown trip s) :=
  ite_holds (b.setFld (by decide +kernel) 1) b

theorem tripShown_leaves (trip : Bool) (s : State) : (tripShown trip s).pwr = s.pwr ∧ (tripShown trip s).now = s.now := by
  unfold tripShown
  split
  · exact ⟨setFld_pwr .., setFld_now ..⟩
  · exact ⟨rfl, rfl⟩

theorem Reborn.railsFrom {s : State} (b : Reborn s) (c : Climate) : Reborn (railsFrom c s) := by
  obtain ⟨regs, cnts, shadow, host, tbl, leaf, tm, -, -⟩ := railsFrom_leaves c s
  have h := b.sound
  refine ⟨State.sound_mk h.regs h.shadow h.cnts SMap.sorted_nil h.hold h.pairs h.ctl h.host (HltSt.sound_mk h.hlt.wins
    h.hlt.winCfg h.hlt.bktAt h.hlt.led h.hlt.offs h.hlt.diffs h.hlt.flog) (NvmSt.sound_mk h.nvm.flash) h.cls h.time h.tbl h.leaf
    h.xbar h.buf h.tm h.sky, ?_, ?_, ?_, ?_, ?_⟩
  · rw [regs]
    exact b.near
  · rw [cnts]
    exact b.cnts
  · rw [flag_congr regs, flag_congr regs]
    exact b.seq
  · rw [flag_congr regs]
    exact b.alive
  · rw [host, tbl, leaf, tm, shadow]
    exact b.lost

theorem inputShown_leaves (s : State) : (inputShown s).pwr = s.pwr ∧ (inputShown s).nvm = s.nvm := by
  unfold inputShown
  exact ⟨(setFld_pwr ..).trans (setFld_pwr ..), (setFld_nvm ..).trans (setFld_nvm ..)⟩

theorem noteReset_leaves (kind agent : Nat) (c : CtlSt) (s : State) : (noteReset kind agent c s).cnts = s.cnts
    ∧ (noteReset kind agent c s).host = s.host ∧ (noteReset kind agent c s).tbl = s.tbl ∧ (noteReset kind agent c s).leaf = s.leaf
    ∧ (noteReset kind agent c s).tm = s.tm ∧ (noteReset kind agent c s).shadow = s.shadow ∧ (noteReset kind agent c s).nvm = s.nvm
    ∧ (noteReset kind agent c s).pwr = { s.pwr with resetAt := some ⟨s.regClk, kind, c.keySoft, c.keyKeep⟩ } :=
  ⟨rfl, rfl, rfl, rfl, rfl, rfl, rfl, rfl⟩

theorem flag_noteReset {s : State} (h : s.Sound) (kind agent : Nat) (c : CtlSt) {f : Fld}
    (hf : f.reg.off 0 0 ≠ Reg.off .SYS_RESET_STATUS) : (noteReset kind agent c s).flag f = s.flag f :=
  flag_of_get? ((noteReset_shows h kind agent c).2.1 _ hf)

theorem powerUp_powers {s : State} (h : s.Sound) (c : Climate) : poweredUp s (powerUp c s) c
    ∧ (powerUp c s).pwr.duskEndAt = none := by
  obtain ⟨v, begun, run⟩ := powerUp_eq c s
  have lost := allDown_loses h
  obtain ⟨tPwr, tNow⟩ := tripShown_leaves s.pwr.tripLatched (allDown s)
  have bare := lost.reborn.tripShown s.pwr.tripLatched
  have pwr := lost.pwr
  have now := lost.now
  generalize tripShown s.pwr.tripLatched (allDown s) = u at *
  obtain ⟨-, -, -, -, -, -, -, firmware, rPwr⟩ := railsFrom_leaves c u
  have rises := bare.railsFrom c
  generalize railsFrom c u = w at *
  obtain ⟨iPwr, iNvm⟩ := inputShown_leaves w
  have there := countShutdown_there (inputShown_shows rises)
  have kept := kept_countShutdown (le_same _) _ (.refl _ (inputShown w))
  rw [← begun] at there kept
  have vPwr : v.pwr = w.pwr := (kept.pwr (by decide)).trans iPwr
  have vNvm : v.nvm = w.nvm := (kept.nvm (by decide)).trans iNvm
  have seen := measured_there there c
  have mKept := kept_measured (le_same _) c v (.refl _ v)
  have mPwr : (measured c v).pwr = w.pwr := (mKept.pwr (by decide)).trans vPwr
  have mNvm : (measured c v).nvm = w.nvm := (mKept.nvm (by decide)).trans vNvm
  rw [run]
  generalize measured c v = m at *
  obtain ⟨status, regs, -, -⟩ := noteReset_shows seen.reborn.sound 0 0 v.ctl
  obtain ⟨nCnts, nHost, nTbl, nLeaf, nTm, nShadow, nNvm, nPwr⟩ := noteReset_leaves 0 0 v.ctl m
  have shown {f : Fld} (hf : f.reg.off 0 0 ≠ Reg.off .SYS_RESET_STATUS) := flag_noteReset seen.reborn.sound 0 0 v.ctl (f := f) hf
  generalize noteReset 0 0 v.ctl m = t at *
  rw [mPwr, rPwr, tPwr, pwr] at nPwr
  refine ⟨⟨⟨?_, ?_, ?_⟩, ⟨?_, ?_⟩, ⟨?_, ?_⟩, ⟨?_, ?_⟩, status, ⟨?_, ?_, ?_, ?_⟩, fun q hq hn => ?_, fun q hq => ?_, ?_⟩, ?_⟩
  · rw [nPwr]
  · rw [nNvm, mNvm, firmware, tNow, now]
  · rw [shown (by decide), seen.reborn.alive]
  · rw [nPwr]
  · rw [nPwr]
  · rw [shown (by decide), seen.reborn.seq.2]
  · rw [shown (by decide), seen.reborn.seq.1]
  · rw [shown (by decide), seen.input.1]
  · rw [shown (by decide), seen.input.2]
  · rw [nPwr]
    rfl
  · rw [nPwr]
    rfl
  · rw [nPwr]
  · rw [nPwr]
    rfl
  · rw [List.mem_cons, List.mem_cons, List.mem_singleton, not_or, not_or] at hn
    obtain ⟨record, fuses, carve⟩ := hn
    rw [regs q record]
    exact seen.reborn.near q hq fuses carve
  · rw [nCnts]
    exact seen.reborn.cnts q hq
  · rw [nHost, nTbl, nLeaf, nTm, nShadow]
    exact seen.reborn.lost
  · rw [nPwr]
    rfl

end Sys2Proof.Machine
end

section
/-!
SUPPORT. How dusk begins (R395, R396).
-/
namespace Sys2Proof.Machine

/-! ### The entries of the fault log stay -/

theorem keepq_showLasting (k : Nat) (s : State) : (showLasting k s).hlt = s.hlt :=
  (kept_showLasting (le_same _) k s (.refl _ s)).hlt (by decide)

theorem logged_winEvent {e : LogEnt} {s : State} (there : e ∈ s.hlt.keepq) (k inst : Nat) : e ∈ (winEvent k inst s).1.hlt.keepq := by
  unfold winEvent
  extract_lets w b enters seen
  clear_value b
  split
  · dsimp only
    rw [keepq_showLasting]
    exact List.mem_append_left _ there
  · exact there

theorem logged_memRecord {e : LogEnt} {s : State} (there : e ∈ s.hlt.keepq) (u loc k inst : Nat) :
    e ∈ (memRecord u loc k inst s).hlt.keepq := by
  unfold memRecord
  dsimp only
  split
  · exact there
  · rw [fault_keepq]
    exact List.mem_append_left _ there

theorem logged_excuse {e : LogEnt} {s : State} (there : e ∈ s.hlt.keepq) (u : Nat) : e ∈ (excuse u s).hlt.keepq := by
  unfold excuse
  split
  · exact there
  · dsimp only
    rw [setFld_hlt]
    exact there

theorem logged_hostMemError {e : LogEnt} {s : State} (there : e ∈ s.hlt.keepq) (addr : Nat) (corrected : Bool) :
    e ∈ (hostMemError addr corrected s).hlt.keepq := by
  have report {v : State} (there : e ∈ v.hlt.keepq) (u loc k inst : Nat) (uncorr : Bool) :
      e ∈ (memReport u loc k inst uncorr v).hlt.keepq :=
    ite_holds (P := fun t : State => e ∈ t.hlt.keepq) (logged_excuse (logged_memRecord (logged_winEvent there k inst) ..) u)
      (logged_winEvent there k inst)
  unfold hostMemError
  split
  · exact report (v := s.count .CTL_DRAM_CORR_CNT) there 8 addr 9 0 false
  · exact report (v := s.count .CTL_DRAM_UNCORR_CNT) there 8 addr 10 0 true

theorem logged_errors {e : LogEnt} (l : List Nat) {s : State} (there : e ∈ s.hlt.keepq) :
    e ∈ (l.foldl (fun s b => hostMemError (64 * b) false s) s).hlt.keepq := by
  induction l generalizing s with
  | nil => exact there
  | cons b l ih =>
    rw [List.foldl_cons]
    exact ih (logged_hostMemError there (64 * b) false)

theorem logged_nvmCut {e : LogEnt} {s : State} (there : e ∈ s.hlt.keepq) (o : NvmOp) : e ∈ (nvmCut o s).hlt.keepq := by
  unfold nvmCut nvmCopy
  split
  · exact logged_errors _ there
  · extract_lets u
    have erased : e ∈ u.hlt.keepq :=
      ite_holds (P := fun t : State => e ∈ t.hlt.keepq) there (ite_holds (P := fun t : State => e ∈ t.hlt.keepq) there there)
    clear_value u
    split
    · exact erased
    · exact logged_errors _ erased

theorem logged_nvmStop {e : LogEnt} {s : State} (there : e ∈ s.hlt.keepq) (code : Nat) : e ∈ (nvmStop code s).hlt.keepq := by
  cases runs : s.nvm.op with
  | none =>
    rw [nvmStop_idle code runs]
    exact there
  | some o =>
    rw [nvmStop_running runs, setReg_hlt, countIf_hlt]
    exact logged_nvmCut (s := engineIdle s) there o

/-! ### Dusk begins -/

/-- Dusk shows at both dies. -/
def duskFlags (s : State) : State := (s.setFld .PWR_STATUS_DUSK 1).setFld .KEEP_STATUS_DUSK 1

/-- The sky is told of dusk, and the NVM engine stops. -/
def duskTold (s : State) : State := nvmStop 7 (s.setFld .SKY_STATE_DUSK 1)

/-- The keeper core, where it runs, notes dusk. -/
def duskNoted (s : State) : State := if s.flag .KEEP_STATUS_ALIVE then keeperEvent 2 s else s

/-- The record of the dusk that begins. -/
def duskRecord (cause : Nat) (c : Climate) (s : State) : DuskSt :=
  { t0 := s.now, ts := s.ts64, causes := [cause], voltage := c.voltage, power := c.power, tCase := c.tCase }

/-- Dusk runs. -/
def duskRuns (d : DuskSt) (alive : Bool) (s : State) : State := withPwr { s.pwr with dusk := some d, abandoned := !alive } s

theorem beginDusk_eq (cause : Nat) (c : Climate) (s : State) : ∃ v, v = duskTold (raiseNear 177 (duskFlags (duskNoted s)))
    ∧ beginDusk cause c s = if s.flag .KEEP_STATUS_ALIVE then disableSky (duskRuns (duskRecord cause c v) (s.flag .KEEP_STATUS_ALIVE) v)
      else duskRuns (duskRecord cause c v) (s.flag .KEEP_STATUS_ALIVE) v := ⟨_, rfl, rfl⟩

theorem duskNoted_leaves (s : State) : (duskNoted s).regs = s.regs ∧ (duskNoted s).cnts = s.cnts ∧ (duskNoted s).now = s.now
    ∧ (duskNoted s).time = s.time ∧ (duskNoted s).pwr = s.pwr := by
  unfold duskNoted
  split
  · exact ⟨rfl, rfl, rfl, rfl, rfl⟩
  · exact ⟨rfl, rfl, rfl, rfl, rfl⟩

theorem logged_duskNoted {e : LogEnt} {s : State} (there : e ∈ s.hlt.keepq) : e ∈ (duskNoted s).hlt.keepq :=
  ite_holds (P := fun t : State => e ∈ t.hlt.keepq) (List.mem_append_left _ there) there

theorem sound_duskNoted {s : State} (h : s.Sound) : (duskNoted s).Sound := ite_holds (sound_keeperEvent 2 s 0 0 h) h

/-- What shows once dusk has begun. -/
structure DuskShown (s t : State) : Prop where
  sound : t.Sound
  flags : t.flag .PWR_STATUS_DUSK = true ∧ t.flag .KEEP_STATUS_DUSK = true ∧ t.flag .SKY_STATE_DUSK = true
  vector : pends t 177
  input : t.flag .PWR_STATUS_INPUT_OK = s.flag .PWR_STATUS_INPUT_OK
  mains : t.cnt .PWR_MAINS_LOSS_CNT = s.cnt .PWR_MAINS_LOSS_CNT
  engine : t.nvm.op = none
  logged : ∀ e ∈ s.hlt.keepq, e ∈ t.hlt.keepq

theorem duskFlags_shows {s : State} (h : s.Sound) : (duskFlags s).Sound ∧ (duskFlags s).flag .PWR_STATUS_DUSK = true
    ∧ (duskFlags s).flag .KEEP_STATUS_DUSK = true ∧ (duskFlags s).flag .PWR_STATUS_INPUT_OK = s.flag .PWR_STATUS_INPUT_OK := by
  have dusk := sound_State_setFld s .PWR_STATUS_DUSK 1 0 0 h
  refine ⟨sound_State_setFld _ .KEEP_STATUS_DUSK 1 0 0 dusk, ?_, ?_, ?_⟩
  · rw [duskFlags, flag_setFld_apart (f := .KEEP_STATUS_DUSK) (g := .PWR_STATUS_DUSK) dusk.regs (by decide),
      flag_setFld h.regs (by decide) (by decide)]
    rfl
  · rw [duskFlags, flag_setFld dusk.regs (by decide) (by decide)]
    rfl
  · rw [duskFlags, flag_setFld_apart (f := .KEEP_STATUS_DUSK) (g := .PWR_STATUS_INPUT_OK) dusk.regs (by decide),
      flag_setFld_beside (f := .PWR_STATUS_DUSK) (g := .PWR_STATUS_INPUT_OK) h.regs (by decide)]

theorem duskTold_shows {s : State} (h : s.Sound) : (duskTold s).Sound ∧ (duskTold s).flag .SKY_STATE_DUSK = true
    ∧ (duskTold s).flag .PWR_STATUS_DUSK = s.flag .PWR_STATUS_DUSK ∧ (duskTold s).flag .KEEP_STATUS_DUSK = s.flag .KEEP_STATUS_DUSK
    ∧ (duskTold s).flag .PWR_STATUS_INPUT_OK = s.flag .PWR_STATUS_INPUT_OK
    ∧ (duskTold s).cnt .PWR_MAINS_LOSS_CNT = s.cnt .PWR_MAINS_LOSS_CNT ∧ (∀ v, pends s v → pends (duskTold s) v)
    ∧ (duskTold s).now = s.now ∧ (duskTold s).time = s.time ∧ (duskTold s).pwr = s.pwr
    ∧ ∀ e ∈ s.hlt.keepq, e ∈ (duskTold s).hlt.keepq := by
  have told := sound_State_setFld s .SKY_STATE_DUSK 1 0 0 h
  have sound := sound_nvmStop 7 _ told
  have k := kept_nvmStop (le_same _) 7 _ (.refl _ (s.setFld .SKY_STATE_DUSK 1))
  refine ⟨sound, ?_, ?_, ?_, ?_, ?_, fun v p => ?_, ?_, ?_, ?_, fun e he => ?_⟩
  · rw [duskTold, k.flag told sound (by decide +kernel), flag_setFld h.regs (by decide) (by decide)]
    rfl
  · rw [duskTold, k.flag told sound (by decide +kernel),
      flag_setFld_apart (f := .SKY_STATE_DUSK) (g := .PWR_STATUS_DUSK) h.regs (by decide)]
  · rw [duskTold, k.flag told sound (by decide +kernel),
      flag_setFld_apart (f := .SKY_STATE_DUSK) (g := .KEEP_STATUS_DUSK) h.regs (by decide)]
  · rw [duskTold, k.flag told sound (by decide +kernel),
      flag_setFld_apart (f := .SKY_STATE_DUSK) (g := .PWR_STATUS_INPUT_OK) h.regs (by decide)]
  · rw [duskTold, k.cnt told sound (by decide +kernel), cnt_congr (setFld_cnts ..)]
  · rw [duskTold, k.pends told sound (by decide +kernel), pends, State.setFld,
      reg_setReg_apart (r := Fld.SKY_STATE_DUSK.reg) (q := .CTL_INT_PEND) h.regs (by decide)]
    exact p
  · rw [duskTold, k.now (by decide), setFld_now]
  · rw [duskTold, k.time (by decide), setFld_time]
  · rw [duskTold, k.pwr (by decide), setFld_pwr]
  · refine logged_nvmStop ?_ 7
    rw [setFld_hlt]
    exact he

/-- Up to the state of dusk: its flags, its vector, the sky and the NVM engine. -/
theorem dusk_shows {s : State} (h : s.Sound) : DuskShown s (duskTold (raiseNear 177 (duskFlags (duskNoted s))))
    ∧ (duskTold (raiseNear 177 (duskFlags (duskNoted s)))).now = s.now
    ∧ (duskTold (raiseNear 177 (duskFlags (duskNoted s)))).time = s.time
    ∧ (duskTold (raiseNear 177 (duskFlags (duskNoted s)))).pwr = s.pwr := by
  obtain ⟨regs, cnts, now, time, pwr⟩ := duskNoted_leaves s
  have noted := sound_duskNoted h
  have stays (e : LogEnt) (he : e ∈ s.hlt.keepq) := logged_duskNoted he
  generalize duskNoted s = u at *
  obtain ⟨flagged, near, far, input⟩ := duskFlags_shows noted
  have fCnts : (duskFlags u).cnts = u.cnts := (setFld_cnts ..).trans (setFld_cnts ..)
  have fNow : (duskFlags u).now = u.now := (setFld_now ..).trans (setFld_now ..)
  have fTime : (duskFlags u).time = u.time := (setFld_time ..).trans (setFld_time ..)
  have fPwr : (duskFlags u).pwr = u.pwr := (setFld_pwr ..).trans (setFld_pwr ..)
  have fHlt : (duskFlags u).hlt = u.hlt := (setFld_hlt ..).trans (setFld_hlt ..)
  generalize duskFlags u = v at *
  have k := kept_raiseNear (le_same _) 177 v (.refl _ v)
  have raised := sound_raiseNear 177 v flagged
  have vector : pends (raiseNear 177 v) 177 := pends_takeInt flagged 177
  obtain ⟨sound, sky, near', far', input', mains', pends', now', time', pwr', logs⟩ := duskTold_shows raised
  refine ⟨⟨sound, ⟨?_, ?_, sky⟩, pends' 177 vector, ?_, ?_, nvmStop_op 7 _, fun e he => logs e ?_⟩, ?_, ?_, ?_⟩
  · rw [near', k.flag flagged raised (by decide +kernel), near]
  · rw [far', k.flag flagged raised (by decide +kernel), far]
  · rw [input', k.flag flagged raised (by decide +kernel), input, flag_congr regs]
  · rw [mains', k.cnt flagged raised (by decide +kernel), cnt_congr fCnts, cnt_congr cnts]
  · rw [k.hlt (by decide), fHlt]
    exact stays e he
  · rw [now', k.now (by decide), fNow, now]
  · rw [time', k.time (by decide), fTime, time]
  · rw [pwr', k.pwr (by decide), fPwr, pwr]

/-- The lasers of sky lanes are disabled, one after the other. -/
def lanesDisabled (l : List Nat) (s : State) : State := l.foldl (fun s n => s.setFld .OPT_LANE_BIAS_DISABLE 1 n) s

theorem lanesDisabled_cons (n : Nat) (l : List Nat) (s : State) :
    lanesDisabled (n :: l) s = lanesDisabled l (s.setFld .OPT_LANE_BIAS_DISABLE 1 n) := by
  rw [lanesDisabled, lanesDisabled, List.foldl_cons]

theorem sound_lanesDisabled (l : List Nat) {s : State} (h : s.Sound) : (lanesDisabled l s).Sound :=
  foldl_holds (P := State.Sound) (fun x n => sound_State_setFld x .OPT_LANE_BIAS_DISABLE 1 n 0) h

/-- Every lane of the list has its laser disabled, and one that was disabled stays so. -/
theorem lanesDisabled_disables (l : List Nat) {s : State} (h : s.Sound) (small : ∀ n ∈ l, n < 512) {k : Nat} (hk : k < 512)
    (off : k ∈ l ∨ s.flag .OPT_LANE_BIAS_DISABLE k = true) : (lanesDisabled l s).flag .OPT_LANE_BIAS_DISABLE k = true := by
  induction l generalizing s with
  | nil => exact off.resolve_left List.not_mem_nil
  | cons n l ih =>
    rw [lanesDisabled_cons]
    refine ih (sound_State_setFld s .OPT_LANE_BIAS_DISABLE 1 n 0 h) (fun m hm => small m (List.mem_cons_of_mem _ hm)) ?_
    by_cases same : k = n
    · right
      rw [same, flag_setFld h.regs (by decide) (by decide)]
      rfl
    · refine off.imp (fun hm => (List.mem_cons.mp hm).resolve_left same) fun on => ?_
      have ne := off_ne_index (r := .OPT_LANE_BIAS) (by decide +kernel) (by decide) (i := k) (k := n) hk
        (small n List.mem_cons_self) same
      have word : (s.setFld .OPT_LANE_BIAS_DISABLE 1 n).reg .OPT_LANE_BIAS k = s.reg .OPT_LANE_BIAS k := reg_setReg_ne h.regs ne _
      rw [State.flag, State.fld, show Fld.OPT_LANE_BIAS_DISABLE.reg = .OPT_LANE_BIAS from rfl, word]
      exact on

theorem disableSky_eq (s : State) : disableSky s = lanesStopped (lanesDisabled (range' 256 256) s) := rfl

theorem disableSky_disables {s : State} (h : s.Sound) {n : Nat} (hn : n < 256) :
    (disableSky s).flag .OPT_LANE_BIAS_DISABLE (256 + n) = true := by
  have off := sound_lanesDisabled (range' 256 256) h
  have k := kept_lanesStopped (le_same _) _ (.refl _ (lanesDisabled (range' 256 256) s))
  rw [disableSky_eq, k.flag off (sound_lanesStopped _ off) (by decide +kernel)]
  refine lanesDisabled_disables _ h (fun m hm => ?_) (by omega) (.inl ?_)
  · exact (mem_range'_iff.mp hm).2
  · exact mem_range'_iff.mpr ⟨Nat.le_add_right .., Nat.add_lt_add_left hn 256⟩

/-- The darkened sky leaves what shows of dusk. -/
theorem DuskShown.disableSky {s u : State} (d : DuskShown s u) : DuskShown s (disableSky u) := by
  have k := kept_disableSky (le_same _) u (.refl _ u)
  have sound := sound_disableSky u d.sound
  obtain ⟨near, far, sky⟩ := d.flags
  refine ⟨sound, ⟨?_, ?_, ?_⟩, (k.pends d.sound sound (by decide +kernel) 177).mpr d.vector, ?_, ?_, ?_, ?_⟩
  · rw [k.flag d.sound sound (by decide +kernel), near]
  · rw [k.flag d.sound sound (by decide +kernel), far]
  · rw [k.flag d.sound sound (by decide +kernel), sky]
  · rw [k.flag d.sound sound (by decide +kernel), d.input]
  · rw [k.cnt d.sound sound (by decide +kernel), d.mains]
  · rw [k.nvm (by decide), d.engine]
  · rw [k.hlt (by decide)]
    exact d.logged

theorem DuskShown.duskRuns {s u : State} (x : DuskShown s u) (d : DuskSt) (alive : Bool) : DuskShown s (duskRuns d alive u) :=
  ⟨sound_withPwr x.sound _, x.flags, x.vector, x.input, x.mains, x.engine, x.logged⟩

theorem beginDusk_begins {s : State} (h : s.Sound) (cause : Nat) (c : Climate) : DuskShown s (beginDusk cause c s)
    ∧ (beginDusk cause c s).pwr = { s.pwr with dusk := some (duskRecord cause c s), abandoned := !s.flag .KEEP_STATUS_ALIVE }
    ∧ (s.flag .KEEP_STATUS_ALIVE = true → ∀ n < 256, (beginDusk cause c s).flag .OPT_LANE_BIAS_DISABLE (256 + n) = true) := by
  obtain ⟨v, told, run⟩ := beginDusk_eq cause c s
  obtain ⟨shown, now, time, pwr⟩ := dusk_shows h
  rw [← told] at shown now time pwr
  have record : duskRecord cause c v = duskRecord cause c s := by
    rw [duskRecord, duskRecord, State.ts64, State.ts64, now, time]
  have runs := shown.duskRuns (duskRecord cause c s) (s.flag .KEEP_STATUS_ALIVE)
  have rPwr : (duskRuns (duskRecord cause c s) (s.flag .KEEP_STATUS_ALIVE) v).pwr
      = { s.pwr with dusk := some (duskRecord cause c s), abandoned := !s.flag .KEEP_STATUS_ALIVE } := by
    rw [Machine.duskRuns, withPwr_pwr, pwr]
  rw [run, record]
  generalize duskRuns (duskRecord cause c s) (s.flag .KEEP_STATUS_ALIVE) v = u at *
  split
  · next alive =>
    have k := kept_disableSky (le_same _) u (.refl _ u)
    exact ⟨runs.disableSky, (k.pwr (by decide)).trans rPwr, fun _ _ hn => disableSky_disables runs.sound hn⟩
  · next dead => exact ⟨runs, rPwr, fun alive => absurd alive dead⟩

/-- A cause of dusk that arrives (R395): what shows of dusk, and what stays. -/
structure CauseTaken (s t : State) (cause : Nat) (c : Climate) : Prop where
  caused : duskCause s t cause c
  input : t.flag .PWR_STATUS_INPUT_OK = s.flag .PWR_STATUS_INPUT_OK
  mains : t.cnt .PWR_MAINS_LOSS_CNT = s.cnt .PWR_MAINS_LOSS_CNT
  trip : t.pwr.tripLatched = s.pwr.tripLatched
  logged : ∀ e ∈ s.hlt.keepq, e ∈ t.hlt.keepq

theorem startDusk_takes {s : State} (h : s.Sound) (on : s.pwr.seq ≠ .off) (cause : Nat) (c : Climate) :
    CauseTaken s (startDusk cause c s) cause c := by
  unfold startDusk
  rw [if_neg on]
  split
  · next d runs =>
    have none {p : Prop} (e : s.pwr.dusk = none) : p := by
      rw [runs] at e
      cases e
    split
    · next known =>
      refine ⟨⟨none, fun x hx => ?_⟩, rfl, rfl, rfl, fun _ he => he⟩
      rw [runs, Option.some.injEq] at hx
      rw [← hx, if_pos known]
      exact runs
    · next new =>
      refine ⟨⟨none, fun x hx => ?_⟩, rfl, rfl, rfl, fun _ he => he⟩
      rw [runs, Option.some.injEq] at hx
      rw [← hx, if_neg new]
  · next idle =>
    obtain ⟨shown, pwr, lasers⟩ := beginDusk_begins h cause c
    refine ⟨⟨fun _ => ⟨shown.flags, shown.vector, ?_, shown.engine, ?_, lasers⟩, fun d hd => ?_⟩, shown.input, shown.mains, ?_, shown.logged⟩
    · rw [pwr]
      rfl
    · rw [pwr]
    · rw [idle] at hd
      cases hd
    · rw [pwr]

end Sys2Proof.Machine
end

section
/-!
SUPPORT. Forwarding stops in dusk (R396, R397), and the rails at its end (R386, R394).
-/
namespace Sys2Proof.Machine

/-! ### Frames that are abandoned -/

theorem abandonTx_tx {s : State} (h : s.Sound) (p : Nat) : (portOf (abandonTx p s) p).tx = none
    ∧ ∀ q, q ≠ p → (portOf (abandonTx p s) q).tx = (portOf s q).tx := by
  have left := abandonTx_steady h p
  constructor
  · obtain ⟨-, -, gone, -⟩ := PortSt.core_eq (left.core p)
    rw [gone, portOf_setPort h.leaf.ports]
  · intro q hq
    obtain ⟨-, -, same, -⟩ := PortSt.core_eq (left.core q)
    rw [same, portOf_setPort_ne h.leaf.ports hq]

theorem off_abort (p q : Nat) : Cnt.off .LEAF_TX_LINKDOWN_ABORT_CNT p = Cnt.off .LEAF_TX_LINKDOWN_ABORT_CNT q ↔ p % 256 = q % 256 := by
  have n : Cnt.n1 .LEAF_TX_LINKDOWN_ABORT_CNT = 256 := rfl
  have step : Cnt.s1 .LEAF_TX_LINKDOWN_ABORT_CNT = 512 := by decide
  rw [Cnt.off, Cnt.off, n, step]
  omega

/-- The count of abandoned frames of a port is n. -/
def AbortsAt (q : Nat) (n : DWord) (s : State) : Prop := s.Sound ∧ s.cnt .LEAF_TX_LINKDOWN_ABORT_CNT q = n

theorem AbortsAt.kept {q : Nat} {n : DWord} {s t : State} (a : AbortsAt q n s) {T : Touch} (k : Kept T s t) (h : t.Sound)
    (free : freeC T .LEAF_TX_LINKDOWN_ABORT_CNT = true) : AbortsAt q n t := ⟨h, (k.cnt a.1 h free q 0).trans a.2⟩

theorem abort_counts {s : State} {n : DWord} {p q : Nat} (a : AbortsAt q n s) :
    AbortsAt q (n + if p % 256 == q % 256 then 1#64 else 0#64) (s.count .LEAF_TX_LINKDOWN_ABORT_CNT p) := by
  refine ⟨sound_State_count s .LEAF_TX_LINKDOWN_ABORT_CNT p 0 1 a.1, ?_⟩
  by_cases same : p % 256 = q % 256
  · have there (x : State) : x.cnt .LEAF_TX_LINKDOWN_ABORT_CNT q = x.cnt .LEAF_TX_LINKDOWN_ABORT_CNT p := by
      rw [State.cnt, State.cnt, (off_abort p q).mpr same]
    rw [there, cnt_count a.1.cnts, ← there, a.2, if_pos (beq_iff_eq.mpr same)]
  · rw [cnt_count_ne a.1.cnts fun e => same ((off_abort q p).mp e).symm, a.2, if_neg (by rwa [beq_iff_eq]), BitVec.add_zero]

/-- The count of a frame that is abandoned. -/
theorem abandonTx_counts {s : State} {n : DWord} {q : Nat} (a : AbortsAt q n s) (p : Nat) :
    AbortsAt q (n + if p % 256 == q % 256 && (portOf s p).tx.isSome then 1#64 else 0#64) (abandonTx p s) := by
  generalize after : (n + if p % 256 == q % 256 && (portOf s p).tx.isSome then 1#64 else 0#64) = m
  unfold abandonTx
  extract_lets x
  split
  · next idle =>
    rw [show (portOf s p).tx = none from idle, Option.isSome_none, Bool.and_false, if_neg Bool.false_ne_true, BitVec.add_zero] at after
    exact after ▸ a
  · next busy =>
    rw [show (portOf s p).tx = some _ from busy, Option.isSome_some, Bool.and_true] at after
    extract_lets k y u sent0 sent s1 x1 s2 s3 s4
    have h1 : AbortsAt q n s1 := ite_holds (P := AbortsAt q n)
      (a.kept (kept_chargeFrame (le_same _) _ _ _ _ s (.refl _ s)) (sound_chargeFrame _ _ _ _ s a.1) (by decide +kernel)) a
    clear_value s1
    have h2 : AbortsAt q m s2 := after ▸ abort_counts (p := p) (h1.kept (kept_setPort (le_same _) p _ s1 (.refl _ s1)) (sound_setPort _ _ _ h1.1) (by decide +kernel))
    clear_value s2
    have h3 : AbortsAt q m s3 := h2.kept (kept_sendOut (le_same _) _ _ _ _ s2 (.refl _ s2)) (sound_sendOut _ _ _ _ _ h2.1) (by decide +kernel)
    clear_value s3
    have h4 : AbortsAt q m s4 := by
      subst s4
      split
      · next c _ => exact ⟨sound_State_led _ _ _ _ (sound_State_count _ .MIR_ABORT_CNT c.session 0 1 h3.1),
          (cnt_count_apart h3.1.cnts (c := .MIR_ABORT_CNT) (q := .LEAF_TX_LINKDOWN_ABORT_CNT) (by decide) c.session 0 1 q 0).trans h3.2⟩
      · exact h3
    clear_value s4 u
    cases u with
    | none => exact h4
    | some u =>
      have queued (y : Queue) : AbortsAt q m (setQueue k y s4) :=
        h4.kept (kept_setQueue (le_same _) k y s4 (.refl _ s4)) (sound_setQueue k y s4 h4.1) (by decide +kernel)
      exact (queued _).kept (kept_dropFrame (le_same _) (p / 16) u _ (.refl _ _)) (sound_dropFrame _ _ _ (queued _).1) (by decide +kernel)

/-- Every frame in transmission on the listed ports is abandoned. -/
def abandonEach (l : SMap PortSt) (s : State) : State := l.foldl (fun s e => abandonTx e.1 s) s

theorem abandonEach_cons (e : Nat × PortSt) (l : SMap PortSt) (s : State) : abandonEach (e :: l) s = abandonEach l (abandonTx e.1 s) := by
  rw [abandonEach, abandonEach, List.foldl_cons]

theorem abandonAll_eq (s : State) : abandonAll s = abandonEach s.leaf.ports s := by
  rw [abandonAll, abandonEach, List.foldl_map]

/-- A listed port transmits no more, nor does one that did not. -/
theorem abandonEach_tx (l : SMap PortSt) {s : State} (h : s.Sound) {p : Nat} (idle : p ∈ l.map (·.1) ∨ (portOf s p).tx = none) :
    (portOf (abandonEach l s) p).tx = none := by
  induction l generalizing s with
  | nil => exact idle.resolve_left List.not_mem_nil
  | cons e l ih =>
    rw [abandonEach_cons]
    refine ih (sound_abandonTx e.1 s h) ?_
    obtain ⟨gone, beside⟩ := abandonTx_tx h e.1
    by_cases same : p = e.1
    · exact .inr (same ▸ gone)
    · rw [beside p same]
      exact idle.imp_left fun hp => (List.mem_cons.mp hp).resolve_left same

/-- Each frame that is abandoned counts at its port. -/
theorem abandonEach_counts (l : SMap PortSt) (sorted : l.sorted = true) {s : State} {n : DWord} {q : Nat} (a : AbortsAt q n s)
    (same : ∀ e ∈ l, (portOf s e.1).tx = e.2.tx) :
    AbortsAt q (n + BitVec.ofNat 64 (l.filter (fun e => e.1 % 256 == q % 256 && e.2.tx.isSome)).length) (abandonEach l s) := by
  induction l generalizing s n with
  | nil =>
    rw [List.filter_nil, List.length_nil, BitVec.add_zero]
    exact a
  | cons e l ih =>
    obtain ⟨above, sorted⟩ := SMap.sorted_cons.mp sorted
    have here := abandonTx_counts a e.1
    rw [same e List.mem_cons_self] at here
    have rest := ih sorted here fun x hx => ((abandonTx_tx a.1 e.1).2 x.1 (Nat.ne_of_gt (above x hx))).trans
      (same x (List.mem_cons_of_mem _ hx))
    rw [abandonEach_cons, List.filter_cons]
    split
    · next counted =>
      rw [if_pos counted, BitVec.add_assoc] at rest
      rw [List.length_cons, Nat.add_comm, BitVec.ofNat_add]
      exact rest
    · next other =>
      rw [if_neg other, BitVec.add_zero] at rest
      exact rest

theorem portOf_mem {s : State} (h : s.Sound) {e : Nat × PortSt} (he : e ∈ s.leaf.ports) : portOf s e.1 = e.2 := by
  rw [portOf, SMap.getD, get?_of_mem h.leaf.ports he]
  rfl

/-- All that transmit are abandoned. -/
theorem abandonAll_aborts {s : State} (h : s.Sound) : (∀ p, (portOf (abandonAll s) p).tx = none)
    ∧ ∀ p < 256, (abandonAll s).cnt .LEAF_TX_LINKDOWN_ABORT_CNT p = s.cnt .LEAF_TX_LINKDOWN_ABORT_CNT p
      + BitVec.ofNat 64 (s.leaf.ports.filter (fun e => e.1 % 256 == p && e.2.tx.isSome)).length := by
  rw [abandonAll_eq]
  constructor
  · intro p
    refine abandonEach_tx _ h ?_
    cases there : SMap.get? s.leaf.ports p with
    | none =>
      right
      rw [portOf, SMap.getD, there]
      rfl
    | some x => exact .inl (List.mem_map.mpr ⟨(p, x), mem_of_get? there, rfl⟩)
  · intro p hp
    have counted := (abandonEach_counts s.leaf.ports h.leaf.ports (q := p) ⟨h, rfl⟩ fun e he => by rw [portOf_mem h he]).2
    rwa [Nat.mod_eq_of_lt hp] at counted

/-! ### Forwarding stops -/

/-- Forwarding has stopped, with the record d. -/
def dusked (d : DuskSt) (s : State) : State := { s with pwr := { s.pwr with stopped := true, dusk := some d } }

/-- The record of a dusk that stops forwarding. -/
def duskStops (d : DuskSt) (s : State) : DuskSt := { d with
  stopped := true, alloc := (List.range 5).map (fun p => (s.reg .BUF_POOL_ALLOC p).toNat)
  skyState := s.reg .SKY_STATE, lease := s.reg .SKYT_LEASE }

/-- The counters are copied for the final checkpoint. -/
def duskCopied (d : DuskSt) (s : State) : State := checkpoint ⟨true, false, s.tot, some d, s.hlt.keepq⟩ (dusked d s)

theorem duskCopied_leaves (d : DuskSt) (s : State) : (duskCopied d s).regs = s.regs ∧ (duskCopied d s).cnts = s.cnts
    ∧ (duskCopied d s).leaf = s.leaf ∧ (duskCopied d s).tot = s.tot ∧ (duskCopied d s).hlt = s.hlt
    ∧ (duskCopied d s).pwr = { s.pwr with
      stopped := true, dusk := some d, region := ⟨true, false, s.tot, some d, s.hlt.keepq⟩ :: s.pwr.region.take 1 } :=
  ⟨rfl, rfl, rfl, rfl, rfl, rfl⟩

theorem duskForwardStop_none {s : State} (none : s.pwr.dusk = none) : duskForwardStop s = s := by
  unfold duskForwardStop
  rw [none]

theorem duskForwardStop_not {s : State} {d : DuskSt} (runs : s.pwr.dusk = some d) (not : ¬ (d.stopped = false ∧ d.t0 + clkMs ≤ s.now)) :
    duskForwardStop s = s := by
  unfold duskForwardStop
  rw [runs]
  exact if_neg not

theorem duskForwardStop_stops {s : State} {d : DuskSt} (runs : s.pwr.dusk = some d) (due : d.stopped = false ∧ d.t0 + clkMs ≤ s.now) :
    duskForwardStop s = (duskCopied (duskStops d (abandonAll s)) (abandonAll s)).setFld .PWR_STATUS_SEQ_DONE 0 := by
  unfold duskForwardStop
  rw [runs]
  exact if_pos due

theorem duskForwardStop_shows {s : State} (h : s.Sound) {d : DuskSt} (runs : s.pwr.dusk = some d)
    (due : d.stopped = false ∧ d.t0 + clkMs ≤ s.now) :
    (duskForwardStop s).pwr.stopped = true ∧ (duskForwardStop s).flag .PWR_STATUS_SEQ_DONE = false
    ∧ (∀ p, (portOf (duskForwardStop s) p).tx = none)
    ∧ (∀ p < 256, (duskForwardStop s).cnt .LEAF_TX_LINKDOWN_ABORT_CNT p = s.cnt .LEAF_TX_LINKDOWN_ABORT_CNT p
      + BitVec.ofNat 64 (s.leaf.ports.filter (fun e => e.1 % 256 == p && e.2.tx.isSome)).length)
    ∧ ∃ x, (duskForwardStop s).pwr.region = x :: s.pwr.region.take 1 ∧ x.final = true ∧ x.complete = false
      ∧ x.counts = (duskForwardStop s).tot ∧ x.dusk = (duskForwardStop s).pwr.dusk ∧ x.logs = (duskForwardStop s).hlt.keepq := by
  obtain ⟨idle, counts⟩ := abandonAll_aborts h
  have sound := sound_abandonAll s h
  have same : (abandonAll s).pwr = s.pwr := (kept_abandonAll (le_same _) s (.refl _ s)).pwr (by decide)
  rw [duskForwardStop_stops runs due]
  generalize abandonAll s = u at *
  generalize duskStops d u = x
  obtain ⟨regs, cnts, leaf, tot, hlt, pwr⟩ := duskCopied_leaves x u
  generalize duskCopied x u = v at *
  have sorted : v.regs.sorted = true := regs ▸ sound.regs
  rw [setFld_pwr, setFld_tot, setFld_hlt, pwr, tot, hlt, same]
  refine ⟨rfl, flag_setFld sorted (by decide) (by decide) 0 0 0, fun p => ?_, fun p hp => ?_, ⟨_, rfl, rfl, rfl, rfl, rfl, rfl⟩⟩
  · have here : portOf (v.setFld .PWR_STATUS_SEQ_DONE 0) p = portOf u p := by rw [portOf, setFld_leaf, leaf, portOf]
    rw [here]
    exact idle p
  · rw [cnt_congr (setFld_cnts ..), cnt_congr cnts]
    exact counts p hp

/-! ### The rails at the end of a dusk -/

/-- A counter of the control die stays where rails 3 to 17 go down. -/
theorem RailsLost.cnt_far {s t : State} (r : RailsLost s t) (h : s.Sound) {c : Cnt} (far : controlBase ≤ c.off 0 0) : t.cnt c = s.cnt c := by
  rw [State.cnt, State.cnt, SMap.getD, SMap.getD, r.cnts,
    get?_keep_in h.cnts (p := fun k => decide (controlBase ≤ k)) (decide_eq_true far)]

/-- What the end of every dusk leaves. -/
structure DuskEnded (region : List Checkpoint) (t : State) : Prop where
  past : t.pwr.dusk = none
  flags : t.flag .PWR_STATUS_DUSK = false ∧ t.flag .KEEP_STATUS_DUSK = false
  region : t.pwr.region = region
  stopped : t.pwr.stopped = true
  mem : t.host.mem = []

/-- Rails 0 to 2 wait for the bus since a moment. -/
def busWaits (e : Nat) (s : State) : State := { s with pwr := { s.pwr with duskEndAt := some e, railFaultAt := none } }

/-- A cold start follows since a moment. -/
def coldWaits (e : Nat) (s : State) : State := { s with pwr := { s.pwr with duskEndAt := some e } }

theorem duskRails_eq (done : Bool) (s : State) : duskRails done s = if (railsDown s).pwr.tripLatched then allDown (railsDown s)
    else if !(railsDown s).flag .PWR_STATUS_INPUT_OK then busWaits s.now (railsDown s)
    else if (railsDown s).pwr.railFaultAt.isSome then (railsDown s).count (if done then .PWR_DUSK_CNT else .PWR_DUSK_INCOMPLETE_CNT)
    else coldWaits s.now ((allDown (railsDown s)).setFld .PWR_STATUS_INPUT_OK 1) := by
  unfold duskRails
  dsimp only
  generalize railsDown s = u
  generalize allDown u = v
  generalize v.setFld .PWR_STATUS_INPUT_OK 1 = w
  rfl

theorem duskRails_trip {done : Bool} {s : State} (trip : (railsDown s).pwr.tripLatched = true) :
    duskRails done s = allDown (railsDown s) := by
  rw [duskRails_eq, if_pos trip]

theorem duskRails_input {done : Bool} {s : State} (trip : (railsDown s).pwr.tripLatched = false)
    (input : (railsDown s).flag .PWR_STATUS_INPUT_OK = false) : duskRails done s = busWaits s.now (railsDown s) := by
  rw [duskRails_eq, if_neg (Bool.eq_false_iff.mp trip), if_pos (by rw [input]; rfl)]

theorem duskRails_fault {done : Bool} {s : State} (trip : (railsDown s).pwr.tripLatched = false)
    (input : (railsDown s).flag .PWR_STATUS_INPUT_OK = true) (fault : (railsDown s).pwr.railFaultAt.isSome = true) :
    duskRails done s = (railsDown s).count (if done then .PWR_DUSK_CNT else .PWR_DUSK_INCOMPLETE_CNT) := by
  rw [duskRails_eq, if_neg (Bool.eq_false_iff.mp trip), if_neg (by rw [input]; exact Bool.false_ne_true), if_pos fault]

theorem duskRails_cold {done : Bool} {s : State} (trip : (railsDown s).pwr.tripLatched = false)
    (input : (railsDown s).flag .PWR_STATUS_INPUT_OK = true) (fault : (railsDown s).pwr.railFaultAt.isSome = false) :
    duskRails done s = coldWaits s.now ((allDown (railsDown s)).setFld .PWR_STATUS_INPUT_OK 1) := by
  rw [duskRails_eq, if_neg (Bool.eq_false_iff.mp trip), if_neg (by rw [input]; exact Bool.false_ne_true),
    if_neg (Bool.eq_false_iff.mp fault)]

theorem DuskEnded.count {region : List Checkpoint} {t : State} (e : DuskEnded region t) (c : Cnt) : DuskEnded region (t.count c) :=
  ⟨e.past, e.flags, e.region, e.stopped, e.mem⟩

theorem DuskEnded.busWaits {region : List Checkpoint} {t : State} (e : DuskEnded region t) (n : Nat) : DuskEnded region (busWaits n t) :=
  ⟨e.past, e.flags, e.region, e.stopped, e.mem⟩

theorem DuskEnded.coldWaits {region : List Checkpoint} {t : State} (e : DuskEnded region t) (n : Nat) : DuskEnded region (coldWaits n t) :=
  ⟨e.past, e.flags, e.region, e.stopped, e.mem⟩

theorem DuskEnded.input {region : List Checkpoint} {t : State} (e : DuskEnded region t) (h : t.Sound) :
    DuskEnded region (t.setFld .PWR_STATUS_INPUT_OK 1) := by
  obtain ⟨past, ⟨near, far⟩, same, stops, mem⟩ := e
  refine ⟨?_, ⟨?_, ?_⟩, ?_, ?_, ?_⟩
  · rw [setFld_pwr, past]
  · rw [flag_setFld_beside (f := .PWR_STATUS_INPUT_OK) (g := .PWR_STATUS_DUSK) h.regs (by decide), near]
  · rw [flag_setFld_apart (f := .PWR_STATUS_INPUT_OK) (g := .KEEP_STATUS_DUSK) h.regs (by decide), far]
  · rw [setFld_pwr, same]
  · rw [setFld_pwr, stops]
  · rw [setFld_host, mem]

theorem pwr_busWaits (e : Nat) (s : State) : (busWaits e s).pwr = { s.pwr with duskEndAt := some e, railFaultAt := none } := rfl

theorem pwr_coldWaits (e : Nat) (s : State) : (coldWaits e s).pwr = { s.pwr with duskEndAt := some e } := rfl

/-- What becomes of the rails (R386, R394, R396). -/
structure RailsEnded (done : Bool) (s t : State) : Prop where
  ended : DuskEnded s.pwr.region t
  trip : s.pwr.tripLatched = true → t.pwr.seq = .off ∧ t.pwr.keeperUp = false ∧ t.pwr.tripLatched = true
  input : s.pwr.tripLatched = false → s.flag .PWR_STATUS_INPUT_OK = false →
    t.pwr.seq = .keeper ∧ t.pwr.keeperUp = s.pwr.keeperUp ∧ t.pwr.duskEndAt = some s.now
  fault : s.pwr.tripLatched = false → s.flag .PWR_STATUS_INPUT_OK = true → s.pwr.railFaultAt.isSome = true →
    t.pwr.seq = .keeper ∧ t.pwr.keeperUp = s.pwr.keeperUp ∧ t.pwr.railFaultAt = s.pwr.railFaultAt
    ∧ (done = true → t.cnt .PWR_DUSK_CNT = s.cnt .PWR_DUSK_CNT + 1#64)
    ∧ (done = false → t.cnt .PWR_DUSK_INCOMPLETE_CNT = s.cnt .PWR_DUSK_INCOMPLETE_CNT + 1#64)
  cold : s.pwr.tripLatched = false → s.flag .PWR_STATUS_INPUT_OK = true → s.pwr.railFaultAt = none →
    t.pwr.seq = .off ∧ t.pwr.keeperUp = false ∧ t.pwr.duskEndAt = some s.now

theorem duskRails_ends {s : State} (h : s.Sound) (done : Bool) (past : s.pwr.dusk = none) (near : s.flag .PWR_STATUS_DUSK = false)
    (far : s.flag .KEEP_STATUS_DUSK = false) : RailsEnded done s (duskRails done s) := by
  have r := railsDown_loses h
  have a := allDown_loses r.sound
  have trips : (railsDown s).pwr.tripLatched = s.pwr.tripLatched := by rw [r.pwr]; rfl
  have faults : (railsDown s).pwr.railFaultAt = s.pwr.railFaultAt := by rw [r.pwr]; rfl
  have lost : DuskEnded s.pwr.region (railsDown s) :=
    ⟨by rw [r.pwr]; exact past, ⟨r.dusk.1.trans near, r.dusk.2.trans far⟩, by rw [r.pwr]; rfl, by rw [r.pwr]; rfl, r.lost.1⟩
  have none : DuskEnded s.pwr.region (allDown (railsDown s)) :=
    ⟨by rw [a.pwr]; rfl, a.dusk, by rw [a.pwr, r.pwr]; rfl, by rw [a.pwr]; rfl, a.lost.1⟩
  cases trip : s.pwr.tripLatched with
  | true =>
    have no {p : Prop} (e : true = false) : p := Bool.noConfusion e
    rw [duskRails_trip (trips.trans trip)]
    refine ⟨none, fun _ => ⟨?_, ?_, ?_⟩, ?_, ?_, ?_⟩
    · rw [a.pwr]
    · rw [a.pwr]
    · rw [a.pwr, r.pwr]
      exact trip
    all_goals
      rw [trip]
      exact no
  | false =>
    have no {p : Prop} (e : s.pwr.tripLatched = true) : p := by
      rw [trip] at e
      cases e
    cases input : s.flag .PWR_STATUS_INPUT_OK with
    | false =>
      have lacks {p : Prop} (e : s.flag .PWR_STATUS_INPUT_OK = true) : p := by
        rw [input] at e
        cases e
      rw [duskRails_input (trips.trans trip) (r.input.trans input)]
      refine ⟨lost.busWaits s.now, no, fun _ _ => ⟨?_, ?_, ?_⟩, fun _ => lacks, fun _ => lacks⟩
      · rw [pwr_busWaits, r.pwr]
        rfl
      · rw [pwr_busWaits, r.pwr]
        rfl
      · rw [pwr_busWaits]
    | true =>
      have there {p : Prop} (e : s.flag .PWR_STATUS_INPUT_OK = false) : p := by
        rw [input] at e
        cases e
      cases fault : s.pwr.railFaultAt.isSome with
      | true =>
        rw [duskRails_fault (trips.trans trip) (r.input.trans input) (by rw [faults, fault])]
        refine ⟨lost.count _, no, fun _ => there, fun _ _ _ => ⟨?_, ?_, faults, ?_, ?_⟩,
          fun _ _ e => ?_⟩
        · rw [count_pwr, r.pwr]
          rfl
        · rw [count_pwr, r.pwr]
          rfl
        · intro yes
          rw [if_pos yes, cnt_count r.sound.cnts, r.cnt_far h (by decide)]
        · intro not
          rw [not, if_neg Bool.false_ne_true, cnt_count r.sound.cnts, r.cnt_far h (by decide)]
        · rw [e] at fault
          cases fault
      | false =>
        rw [duskRails_cold (trips.trans trip) (r.input.trans input) (by rw [faults, fault])]
        refine ⟨(none.input a.sound).coldWaits s.now, no, fun _ => there, fun _ _ e => ?_, fun _ _ _ => ⟨?_, ?_, ?_⟩⟩
        · rw [e] at fault
          cases fault
        · rw [pwr_coldWaits, setFld_pwr, a.pwr]
        · rw [pwr_coldWaits, setFld_pwr, a.pwr]
        · rw [pwr_coldWaits]

/-! ### The final checkpoint is done -/

/-- Dusk shows no more. -/
def duskUnshown (s : State) : State := (s.setFld .PWR_STATUS_DUSK 0).setFld .KEEP_STATUS_DUSK 0

/-- Dusk is over, with checkpoints in the dusk region. -/
def duskOver (region : List Checkpoint) (s : State) : State := { s with
  pwr := { s.pwr with region := region, dusk := none, abandoned := false } }

theorem duskOver_leaves (region : List Checkpoint) (s : State) : (duskOver region s).regs = s.regs ∧ (duskOver region s).cnts = s.cnts
    ∧ (duskOver region s).now = s.now
    ∧ (duskOver region s).pwr = { s.pwr with region := region, dusk := none, abandoned := false } := ⟨rfl, rfl, rfl, rfl⟩

theorem duskUnshown_shows {s : State} (h : s.Sound) : (duskUnshown s).Sound ∧ (duskUnshown s).flag .PWR_STATUS_DUSK = false
    ∧ (duskUnshown s).flag .KEEP_STATUS_DUSK = false ∧ (duskUnshown s).flag .PWR_STATUS_INPUT_OK = s.flag .PWR_STATUS_INPUT_OK
    ∧ (duskUnshown s).cnts = s.cnts ∧ (duskUnshown s).now = s.now ∧ (duskUnshown s).pwr = s.pwr := by
  have first := sound_State_setFld s .PWR_STATUS_DUSK 0 0 0 h
  refine ⟨sound_State_setFld _ .KEEP_STATUS_DUSK 0 0 0 first, ?_, ?_, ?_, ?_, ?_, ?_⟩
  · rw [duskUnshown, flag_setFld_apart (f := .KEEP_STATUS_DUSK) (g := .PWR_STATUS_DUSK) first.regs (by decide),
      flag_setFld h.regs (by decide) (by decide)]
    rfl
  · rw [duskUnshown, flag_setFld first.regs (by decide) (by decide)]
    rfl
  · rw [duskUnshown, flag_setFld_apart (f := .KEEP_STATUS_DUSK) (g := .PWR_STATUS_INPUT_OK) first.regs (by decide),
      flag_setFld_beside (f := .PWR_STATUS_DUSK) (g := .PWR_STATUS_INPUT_OK) h.regs (by decide)]
  · exact (setFld_cnts ..).trans (setFld_cnts ..)
  · exact (setFld_now ..).trans (setFld_now ..)
  · exact (setFld_pwr ..).trans (setFld_pwr ..)

theorem duskCheckpointDone_none {s : State} (none : s.pwr.dusk = none) : duskCheckpointDone s = s := by
  unfold duskCheckpointDone
  rw [none]

theorem duskCheckpointDone_runs {s : State} {d : DuskSt} (runs : s.pwr.dusk = some d) (not : d.stopped = false) :
    duskCheckpointDone s = s := by
  unfold duskCheckpointDone
  rw [runs]
  exact if_neg (by rw [not]; exact Bool.false_ne_true)

theorem duskCheckpointDone_done {s : State} {d : DuskSt} (runs : s.pwr.dusk = some d) (stopped : d.stopped = true) {region : List Checkpoint}
    (kept : region = if !s.pwr.abandoned then commitMarker d s.hlt.keepq s.pwr.region else s.pwr.region) :
    duskCheckpointDone s = duskRails (!s.pwr.abandoned) (duskOver region (duskUnshown s)) := by
  unfold duskCheckpointDone
  rw [runs, kept]
  exact if_pos stopped

/-- The final checkpoint ends with its commit marker, unless a keeper restart abandoned it. -/
theorem lastCheckpoint {s : State} {d : DuskSt} {x : Checkpoint} {rest : List Checkpoint} (saved : s.pwr.region = x :: rest) :
    (if s.pwr.abandoned then x else { x with complete := true, dusk := some d, logs := s.hlt.keepq }) :: rest
      = if !s.pwr.abandoned then commitMarker d s.hlt.keepq s.pwr.region else s.pwr.region := by
  rw [saved]
  cases s.pwr.abandoned with
  | true => rfl
  | false => rfl

theorem duskCheckpointDone_ends {s : State} (h : s.Sound) {d : DuskSt} (runs : s.pwr.dusk = some d) (stopped : d.stopped = true)
    {region : List Checkpoint}
    (kept : region = if !s.pwr.abandoned then commitMarker d s.hlt.keepq s.pwr.region else s.pwr.region) :
    DuskEnded region (duskCheckpointDone s)
    ∧ ∃ u, u.pwr = { s.pwr with region := region, dusk := none, abandoned := false } ∧ u.now = s.now ∧ u.cnts = s.cnts
      ∧ u.flag .PWR_STATUS_INPUT_OK = s.flag .PWR_STATUS_INPUT_OK ∧ RailsEnded (!s.pwr.abandoned) u (duskCheckpointDone s) := by
  rw [duskCheckpointDone_done runs stopped kept]
  clear kept
  obtain ⟨sound, near, far, input, cnts, now, pwr⟩ := duskUnshown_shows h
  generalize duskUnshown s = v at *
  obtain ⟨oRegs, oCnts, oNow, oPwr⟩ := duskOver_leaves region v
  have past : (duskOver region v).Sound := sound_withPwr sound _
  have rails := duskRails_ends past (!s.pwr.abandoned) (by rw [oPwr]) (by rw [flag_congr oRegs, near]) (by rw [flag_congr oRegs, far])
  refine ⟨?_, duskOver region v, ?_, ?_, ?_, ?_, rails⟩
  · have := rails.ended
    rwa [oPwr] at this
  · rw [oPwr, pwr]
  · rw [oNow, now]
  · rw [oCnts, cnts]
  · rw [flag_congr oRegs, input]

end Sys2Proof.Machine
end

section
/-!
SUPPORT. The causes of dusk, the restart after it, the counter checkpoints, and the settlement of O56.
-/
namespace Sys2Proof.Machine

/-! ### Causes -/

/-- A cause that arrives in a state that differs in neither clock, keeper core nor dusk. -/
theorem duskCause_from {s u t : State} {cause : Nat} {c : Climate} (now : u.now = s.now) (time : u.time = s.time)
    (alive : u.flag .KEEP_STATUS_ALIVE = s.flag .KEEP_STATUS_ALIVE) (dusk : u.pwr.dusk = s.pwr.dusk) (h : duskCause u t cause c) :
    duskCause s t cause c := by
  obtain ⟨begins, adds⟩ := h
  rw [dusk] at begins adds
  refine ⟨fun idle => ?_, adds⟩
  obtain ⟨flags, vector, record, engine, keeper, lasers⟩ := begins idle
  rw [now, State.ts64, time] at record
  rw [alive] at keeper lasers
  exact ⟨flags, vector, record, engine, keeper, lasers⟩

/-- The input is lost, and the loss is counted. -/
def mainsLost (s : State) : State := (s.setFld .PWR_STATUS_INPUT_OK 0).count .PWR_MAINS_LOSS_CNT

theorem mainsLost_shows {s : State} (h : s.Sound) : (mainsLost s).Sound ∧ (mainsLost s).flag .PWR_STATUS_INPUT_OK = false
    ∧ (mainsLost s).cnt .PWR_MAINS_LOSS_CNT = s.cnt .PWR_MAINS_LOSS_CNT + 1#64
    ∧ (mainsLost s).flag .KEEP_STATUS_ALIVE = s.flag .KEEP_STATUS_ALIVE
    ∧ (mainsLost s).now = s.now ∧ (mainsLost s).time = s.time ∧ (mainsLost s).pwr = s.pwr := by
  have lost := sound_State_setFld s .PWR_STATUS_INPUT_OK 0 0 0 h
  unfold mainsLost
  refine ⟨sound_State_count _ .PWR_MAINS_LOSS_CNT 0 0 1 lost, ?_, ?_, ?_, ?_, ?_, ?_⟩
  · rw [flag_congr (count_regs ..), flag_setFld h.regs (by decide) (by decide)]
    rfl
  · rw [cnt_count lost.cnts, cnt_congr (setFld_cnts ..)]
  · rw [flag_congr (count_regs ..), flag_setFld_apart (f := .PWR_STATUS_INPUT_OK) (g := .KEEP_STATUS_ALIVE) h.regs (by decide)]
  · rw [count_now, setFld_now]
  · rw [count_time, setFld_time]
  · rw [count_pwr, setFld_pwr]

theorem startDusk_running {s : State} (h : s.Sound) (runs : s.pwr.dusk.isSome = true) (cause : Nat) (c : Climate) :
    s.Only (startDusk cause c s) [.pwr] [] [] := by
  have same := (Sofar.start h [.pwr] [] []).only
  unfold startDusk
  split
  · exact same
  · split
    · split
      · exact same
      · exact ((Sofar.start h [.pwr] [] []).setPwr List.mem_cons_self _).only
    · next idle =>
      rw [idle] at runs
      cases runs

theorem tripHot_iff (c : Climate) : tripHot c = true ↔ 13000 ≤ c.tCase ∨ ∃ x ∈ (c.sensors.drop 2).take 14, 15000 ≤ x := by
  rw [tripHot, Bool.or_eq_true, decide_eq_true_iff, List.any_eq_true]
  simp only [decide_eq_true_eq]

theorem tripHot_cool {c : Climate} (cool : c.tCase < 13000 ∧ ∀ x ∈ (c.sensors.drop 2).take 14, x < 15000) : tripHot c = false := by
  rw [Bool.eq_false_iff, Ne, tripHot_iff]
  rintro (hot | ⟨x, hx, hot⟩)
  · exact absurd cool.1 (Int.not_lt.mpr hot)
  · exact absurd (cool.2 x hx) (Int.not_lt.mpr hot)

/-- A trip is latched. -/
def tripTaken (s : State) : State := withPwr { s.pwr with tripLatched := true } s

/-- The keeper core notes the trip. -/
def tripNoted (s : State) : State := keeperEvent 6 (tripTaken s)

theorem tripNoted_leaves (s : State) : (tripNoted s).regs = s.regs ∧ (tripNoted s).now = s.now ∧ (tripNoted s).time = s.time
    ∧ (tripNoted s).pwr = { s.pwr with tripLatched := true }
    ∧ (tripNoted s).hlt.keepq = s.hlt.keepq ++ [⟨1, ⟨.fault, 0, 0, s.ts64, 0, 0⟩, 6, 0, 0⟩] := ⟨rfl, rfl, rfl, rfl, rfl⟩

theorem exec_thermalTrip {s : State} (c : Climate) (on : s.pwr.seq ≠ .off) (new : s.pwr.tripLatched = false) (hot : tripHot c = true) :
    exec (.thermalTrip c) s = .next (startDusk 2 c (tripNoted s)) :=
  congrArg Host.Outcome.next (if_pos ⟨on, new, hot⟩)

theorem exec_thermalTrip_not {s : State} {c : Climate} (not : ¬ (s.pwr.seq ≠ .off ∧ s.pwr.tripLatched = false ∧ tripHot c = true)) :
    exec (.thermalTrip c) s = .next s := congrArg Host.Outcome.next (if_neg not)

/-! ### The restart -/

theorem duskRestart_due {s : State} {e : Nat} (ended : s.pwr.duskEndAt = some e) (c : Climate)
    (due : e + 100 * clkMs ≤ s.now ∧ inputInRange c = true ∧ s.pwr.tripLatched = false) : duskRestart c s = powerUp c s := by
  unfold duskRestart
  rw [ended]
  exact if_pos due

theorem duskRestart_not {s : State} {e : Nat} (ended : s.pwr.duskEndAt = some e) (c : Climate)
    (not : ¬ (e + 100 * clkMs ≤ s.now ∧ inputInRange c = true ∧ s.pwr.tripLatched = false)) : duskRestart c s = s := by
  unfold duskRestart
  rw [ended]
  exact if_neg not

theorem inputInRange_iff (c : Climate) : inputInRange c = true ↔ 850 ≤ c.voltage ∧ c.voltage ≤ 2650 := by
  rw [inputInRange, Bool.and_eq_true, decide_eq_true_iff, decide_eq_true_iff]

/-! ### Counter checkpoints -/

/-- A counter checkpoint of a second. -/
def secondSaved (k : Nat) (s : State) : State := counterCheckpoint (withPwr { s.pwr with ckptAt := k } s)

theorem secondSaved_pwr (k : Nat) (s : State) : (secondSaved k s).pwr
    = { s.pwr with ckptAt := k, region := ⟨false, true, s.tot, none, []⟩ :: s.pwr.region.take 1 } := rfl

theorem checkpointDue_iff (s : State) : (s.flag .KEEP_STATUS_ALIVE && s.pwr.dusk.isNone
      && decide (s.pwr.ckptAt < s.now / (1000 * clkMs))) = true
    ↔ s.flag .KEEP_STATUS_ALIVE = true ∧ s.pwr.dusk = none ∧ s.pwr.ckptAt < s.now / 1600000000 := by
  rw [Bool.and_eq_true, Bool.and_eq_true, Option.isNone_iff_eq_none, decide_eq_true_iff, and_assoc,
    show 1000 * clkMs = 1600000000 by decide]

/-! ### O56 -/

/-- Settles O56: each cause of dusk, its stages and its end, the restart and the counter checkpoints. -/
theorem duskSequence : Obligations.DuskSequence := by
  unfold Obligations.DuskSequence
  refine ⟨fun s c h => ⟨fun lacks => ⟨?_, ?_⟩, fun there on => ⟨?_, ?_⟩⟩, fun s c h => ⟨fun not => ?_, fun on new hot => ?_⟩,
    fun s d h runs => ⟨fun not => ?_, fun stops due => ?_⟩, fun s idle => ⟨?_, ?_⟩,
    fun s d x rest h runs saved => ⟨fun not => ?_, fun stopped => ?_⟩, fun s c e h ended => ⟨fun not => ?_, fun due low high cool => ?_⟩,
    fun s h => ⟨fun not => ?_, fun alive idle due => ?_⟩⟩
  · exact congrArg Host.Outcome.next (if_neg (Bool.eq_false_iff.mp lacks))
  · exact congrArg Host.Outcome.next (if_neg (Bool.eq_false_iff.mp lacks))
  · obtain ⟨sound, input, counts, alive, now, time, pwr⟩ := mainsLost_shows h
    have run : exec (.mainsLoss c) s = .next (startDusk 1 c (mainsLost s)) := congrArg Host.Outcome.next (if_pos there)
    have taken := startDusk_takes sound (by rw [pwr]; exact on) 1 c
    refine ⟨_, run, taken.input.trans input, taken.mains.trans counts, duskCause_from now time alive ?_ taken.caused⟩
    rw [pwr]
  · have run : exec (.dusk c) s = .next (startDusk 3 c s) := congrArg Host.Outcome.next (if_pos there)
    exact ⟨_, run, (startDusk_takes h on 3 c).caused, fun runs => startDusk_running h runs 3 c⟩
  · refine exec_thermalTrip_not fun ⟨on, new, hot⟩ => ?_
    rcases not with off | latched | cool
    · exact on off
    · rw [new] at latched
      cases latched
    · rw [tripHot_cool cool] at hot
      cases hot
  · obtain ⟨regs, now, time, pwr, keepq⟩ := tripNoted_leaves s
    have sound : (tripNoted s).Sound := sound_keeperEvent 6 _ 0 0 (sound_withPwr h _)
    have taken := startDusk_takes sound (by rw [pwr]; exact on) 2 c
    refine ⟨_, exec_thermalTrip c on new ((tripHot_iff c).mpr hot), ?_, taken.logged _ ?_,
      duskCause_from now time (flag_congr regs _ 0 0) (by rw [pwr]) taken.caused⟩
    · rw [taken.trip, pwr]
    · rw [keepq]
      exact List.mem_append_right _ List.mem_cons_self
  · refine congrArg Host.Outcome.next (duskForwardStop_not runs fun ⟨on, due⟩ => ?_)
    rcases not with stopped | early
    · rw [on] at stopped
      cases stopped
    · exact absurd due (Nat.not_le.mpr early)
  · exact ⟨_, rfl, duskForwardStop_shows h runs ⟨stops, due⟩⟩
  · exact congrArg Host.Outcome.next (duskForwardStop_none idle)
  · exact congrArg Host.Outcome.next (duskCheckpointDone_none idle)
  · exact congrArg Host.Outcome.next (duskCheckpointDone_runs runs not)
  · obtain ⟨⟨past, ⟨near, far⟩, region, stops, mem⟩, u, pwr, now, cnts, input, rails⟩ :=
      duskCheckpointDone_ends h runs stopped (lastCheckpoint saved)
    obtain ⟨-, trip, lost, fault, cold⟩ := rails
    rw [pwr] at trip lost fault cold
    rw [now] at lost cold
    rw [input] at lost fault cold
    rw [cnt_congr cnts, cnt_congr cnts] at fault
    refine ⟨_, rfl, past, near, far, region, stops, mem, trip, lost, fun latched there faulty => ?_, cold⟩
    obtain ⟨seq, up, same, complete, cut⟩ := fault latched there faulty
    exact ⟨seq, up, same, fun kept => complete (by rw [kept]; rfl), fun abandoned => cut (by rw [abandoned]; rfl)⟩
  · refine congrArg Host.Outcome.next (duskRestart_not ended c fun ⟨due, range, cool⟩ => ?_)
    obtain ⟨low, high⟩ := (inputInRange_iff c).mp range
    rcases not with early | under | above | latched
    · exact absurd due (Nat.not_le.mpr early)
    · omega
    · omega
    · rw [cool] at latched
      cases latched
  · have run : exec (.duskRestart c) s = .next (powerUp c s) :=
      congrArg Host.Outcome.next (duskRestart_due ended c ⟨due, (inputInRange_iff c).mpr ⟨low, high⟩, cool⟩)
    exact ⟨_, run, powerUp_powers h c⟩
  · refine congrArg Host.Outcome.next (if_neg fun yes => ?_)
    obtain ⟨alive, idle, due⟩ := (checkpointDue_iff s).mp yes
    rcases not with dead | runs | early
    · rw [alive] at dead
      cases dead
    · rw [idle] at runs
      cases runs
    · exact absurd due (Nat.not_lt.mpr early)
  · have run : exec .counterCheckpoint s = .next (secondSaved (s.now / 1600000000) s) :=
      congrArg Host.Outcome.next (if_pos ((checkpointDue_iff s).mpr ⟨alive, idle, due⟩))
    exact ⟨_, run, secondSaved_pwr .., ((Sofar.start h [.pwr] [] []).setPwr List.mem_cons_self _).only⟩

end Sys2Proof.Machine
end

section
/-!
SUPPORT. Leaf groups go dark and have light again (R393), and emergency quiet (R399).
-/
namespace Sys2Proof.Machine

/-! ### A port that goes down leaves the others -/

theorem off_portStatus {p q : Nat} (hp : p < 256) (hq : q < 256) (ne : q ≠ p) :
    Reg.off .LEAF_PORT_STATUS q ≠ Reg.off .LEAF_PORT_STATUS p :=
  off_ne_index (r := .LEAF_PORT_STATUS) (by decide +kernel) (by decide) hq hp ne

/-- A write of a port's status leaves the link of another port. -/
theorem portUp_setFld {s : State} (h : s.Sound) {f : Fld} (hf : f.reg = .LEAF_PORT_STATUS) {p q : Nat} (hp : p < 256) (hq : q < 256)
    (ne : q ≠ p) (v : Nat) : portUp (s.setFld f v p) q = portUp s q := by
  have apart : Reg.off .LEAF_PORT_STATUS q 0 ≠ f.reg.off p 0 := hf ▸ off_portStatus hp hq ne
  have word : (s.setFld f v p).reg .LEAF_PORT_STATUS q = s.reg .LEAF_PORT_STATUS q := reg_setReg_ne h.regs apart _
  rw [portUp, State.flag, State.fld, show Fld.LEAF_PORT_STATUS_LINK_UP.reg = .LEAF_PORT_STATUS from rfl, word]
  rfl

theorem portUp_loseLink {s : State} (h : s.Sound) {p q : Nat} (hp : p < 256) (hq : q < 256) (ne : q ≠ p) :
    portUp (loseLink p s) q = portUp s q := portUp_setFld h rfl hp hq ne 0

theorem portUp_cutOff {s : State} (h : s.Sound) {p q : Nat} (hp : p < 256) (hq : q < 256) (ne : q ≠ p) :
    portUp (cutOff p s) q = portUp s q := by
  have lost := sound_loseLink p s h
  have cut := sound_abandonTx p _ lost
  have k1 := kept_abandonTx (le_same _) p (loseLink p s) (.refl _ _)
  have k2 := kept_clearPause (le_same _) p (abandonTx p (loseLink p s)) (.refl _ _)
  refine (k2.flag (f := .LEAF_PORT_STATUS_LINK_UP) cut (sound_cutOff p h) (by decide +kernel) q 0).trans ?_
  exact (k1.flag (f := .LEAF_PORT_STATUS_LINK_UP) lost cut (by decide +kernel) q 0).trans (portUp_loseLink h hp hq ne)

theorem portUp_goDown {s : State} (h : s.Sound) {p q : Nat} (hp : p < 256) (hq : q < 256) (ne : q ≠ p) :
    portUp (goDown p s) q = portUp s q := by
  have cut := sound_cutOff p h
  have off := portUp_cutOff h hp hq ne
  by_cases h0 : s.fld .LEAF_FLAP_CFG_HOLD_MS p = 0
  · rw [goDown_flushes h h0]
    exact ((kept_flushPort (le_same _) p (cutOff p s) (.refl _ _)).flag (f := .LEAF_PORT_STATUS_LINK_UP) cut
      (sound_flushPort _ _ cut) (by decide +kernel) q 0).trans off
  · rw [goDown_holds h h0]
    exact (portUp_setFld cut (f := .LEAF_PORT_STATUS_FROZEN) rfl hp hq ne 1).trans off

/-! ### A leaf group goes dark -/

/-- A port that is up goes down. -/
def portDark (p : Nat) (s : State) : State := if portUp s p then linkDown p (cutRx p none s) else s

theorem sound_portDark (p : Nat) {s : State} (h : s.Sound) : (portDark p s).Sound :=
  ite_holds (sound_linkDown p _ (sound_cutRx p none s h)) h

/-- A port is down after it goes dark, and one that was down stays so. -/
theorem portDark_down {s : State} (h : s.Sound) {p q : Nat} (hp : p < 256) (hq : q < 256) (down : q = p ∨ portUp s q = false) :
    portUp (portDark p s) q = false := by
  have cut := sound_cutRx p none s h
  unfold portDark
  split
  · by_cases same : q = p
    · rw [same]
      exact (linkDown_cutRx h p none).1
    · rw [linkDown_eq, portUp_goDown (sound_State_count _ .LEAF_LINK_DOWN_CNT p 0 1 cut) hp hq same]
      exact ((kept_cut p none s).flag (f := .LEAF_PORT_STATUS_LINK_UP) h cut (by decide +kernel) q 0).trans (down.resolve_left same)
  · next not =>
    rcases down with rfl | down
    · exact Bool.eq_false_iff.mpr not
    · exact down

/-- Listed ports go dark one after the other. -/
def portsDark (l : List Nat) (s : State) : State := l.foldl (fun s p => portDark p s) s

theorem portsDark_cons (p : Nat) (l : List Nat) (s : State) : portsDark (p :: l) s = portsDark l (portDark p s) := by
  rw [portsDark, portsDark, List.foldl_cons]

theorem portsDark_down (l : List Nat) (small : ∀ p ∈ l, p < 256) {s : State} (h : s.Sound) {q : Nat} (hq : q < 256)
    (down : q ∈ l ∨ portUp s q = false) : portUp (portsDark l s) q = false := by
  induction l generalizing s with
  | nil => exact down.resolve_left List.not_mem_nil
  | cons p l ih =>
    rw [portsDark_cons]
    refine ih (fun p hp => small p (List.mem_cons_of_mem _ hp)) (sound_portDark p h) ?_
    rcases down with hm | down
    · rcases List.mem_cons.mp hm with same | hm
      · exact .inr (portDark_down h (small p List.mem_cons_self) hq (.inl same))
      · exact .inl hm
    · exact .inr (portDark_down h (small p List.mem_cons_self) hq (.inr down))

/-- The lanes of a group lose their alignment, and no port of it is ready. -/
def groupLoose (g : Nat) (s : State) : State :=
  (range' (16 * g) 16).foldl (fun s p => setPort p { portOf s p with ready := none } s)
    { s with leaf := { s.leaf with lanes := SMap.keep s.leaf.lanes (fun n => n / 16 != g) } }

theorem groupLoose_regs (g : Nat) (s : State) : (groupLoose g s).regs = s.regs := by
  unfold groupLoose
  exact foldl_holds (P := fun t : State => t.regs = s.regs) (fun _ _ e => e) rfl

theorem darkenGroup_eq (g : Nat) (s : State) : darkenGroup g s = groupLoose g (portsDark (range' (16 * g) 16) s) := by
  unfold darkenGroup groupLoose portsDark portDark
  rfl

theorem darkenGroup_down {s : State} (h : s.Sound) {g q : Nat} (hg : g < 16) (hq : q < 256) (down : q / 16 = g ∨ portUp s q = false) :
    portUp (darkenGroup g s) q = false := by
  rw [darkenGroup_eq, portUp, flag_congr (groupLoose_regs ..)]
  refine portsDark_down _ (fun p hp => ?_) h hq (down.imp_left fun e => mem_range'_iff.mpr (by omega))
  have := mem_range'_iff.mp hp
  omega

/-- Listed groups go dark one after the other. -/
def groupsDark (l : List Nat) (s : State) : State := l.foldl (fun s g => darkenGroup g s) s

theorem groupsDark_cons (g : Nat) (l : List Nat) (s : State) : groupsDark (g :: l) s = groupsDark l (darkenGroup g s) := by
  rw [groupsDark, groupsDark, List.foldl_cons]

theorem groupsDark_down (l : List Nat) (small : ∀ g ∈ l, g < 16) {s : State} (h : s.Sound) {q : Nat} (hq : q < 256)
    (down : q / 16 ∈ l ∨ portUp s q = false) : portUp (groupsDark l s) q = false := by
  induction l generalizing s with
  | nil => exact down.resolve_left List.not_mem_nil
  | cons g l ih =>
    rw [groupsDark_cons]
    refine ih (fun g hg => small g (List.mem_cons_of_mem _ hg)) (sound_darkenGroup g s h) ?_
    rcases down with hm | down
    · rcases List.mem_cons.mp hm with same | hm
      · exact .inr (darkenGroup_down h (small g List.mem_cons_self) hq (.inl same))
      · exact .inl hm
    · exact .inr (darkenGroup_down h (small g List.mem_cons_self) hq (.inr down))

theorem darkenLeaf_down {s : State} (h : s.Sound) {p : Nat} (hp : p < 256) : portUp (darkenLeaf s) p = false :=
  groupsDark_down (List.range 16) (fun _ hg => List.mem_range.mp hg) h hp (.inl (List.mem_range.mpr (by omega)))

/-! ### A leaf group has light again -/

theorem Sofar.startLine {s0 s : State} {aa oo cc} (k : Sofar s0 s aa oo cc) (leaf : Area.leaf ∈ aa) (p : Nat) :
    Sofar s0 (startLine p s) aa oo cc := k.setPort p _ leaf

theorem Sofar.lightGroup {s0 s : State} {aa oo cc} (k : Sofar s0 s aa oo cc) (leaf : Area.leaf ∈ aa) (g : Nat) :
    Sofar s0 (lightGroup g s) aa oo cc :=
  foldl_holds (P := fun t : State => Sofar s0 t aa oo cc) (fun _ p k => k.startLine leaf p) k

/-- Listed groups have light again. -/
def groupsLit (l : List Nat) (s : State) : State := l.foldl (fun s g => lightGroup g s) s

theorem Sofar.groupsLit {s0 s : State} {aa oo cc} (k : Sofar s0 s aa oo cc) (leaf : Area.leaf ∈ aa) (l : List Nat) :
    Sofar s0 (groupsLit l s) aa oo cc :=
  foldl_holds (P := fun t : State => Sofar s0 t aa oo cc) (fun _ g k => k.lightGroup leaf g) k

theorem lightGroup_leaves (g : Nat) (s : State) : (lightGroup g s).regs = s.regs ∧ (lightGroup g s).pwr = s.pwr := by
  unfold lightGroup
  exact foldl_holds (P := fun t : State => t.regs = s.regs ∧ t.pwr = s.pwr) (fun _ _ e => e) ⟨rfl, rfl⟩

theorem groupsLit_leaves (l : List Nat) (s : State) : (groupsLit l s).regs = s.regs ∧ (groupsLit l s).pwr = s.pwr := by
  unfold groupsLit
  refine foldl_holds (P := fun t : State => t.regs = s.regs ∧ t.pwr = s.pwr) (fun u g same => ?_) ⟨rfl, rfl⟩
  obtain ⟨regs, pwr⟩ := lightGroup_leaves g u
  exact ⟨regs.trans same.1, pwr.trans same.2⟩

/-! ### Emergency quiet -/

/-- Quiet is asserted or released. -/
def quietSet (b : Bool) (s : State) : State := withPwr { s.pwr with quiet := b } s

theorem quietAssert_on {s : State} (on : s.pwr.quiet = true) : quietAssert s = s := if_pos on

theorem quietAssert_bare {s : State} (off : s.pwr.quiet = false) (down : s.pwr.keeperUp = false) :
    quietAssert s = quietSet true s := by
  unfold quietAssert
  rw [if_neg (Bool.eq_false_iff.mp off)]
  exact if_neg (Bool.eq_false_iff.mp down)

theorem quietAssert_keeper {s : State} (off : s.pwr.quiet = false) (up : s.pwr.keeperUp = true) :
    quietAssert s = keeperQuiet (darkenLeaf (quietSet true s)) := by
  unfold quietAssert
  rw [if_neg (Bool.eq_false_iff.mp off)]
  exact if_pos up

/-- What the keeper core shows of quiet. -/
theorem keeperQuiet_shows {s : State} (h : s.Sound) (alive : s.flag .KEEP_STATUS_ALIVE = true) (on : s.pwr.quiet = true)
    (new : s.flag .PWR_STATUS_QUIET = false) : (keeperQuiet s).cnt .PWR_QUIET_CNT = s.cnt .PWR_QUIET_CNT + 1#64
    ∧ (keeperQuiet s).flag .SKY_STATE_TX_OFF = true := by
  have does : keeperQuiet s = skyTxEn 0#32 ((s.setFld .PWR_STATUS_QUIET 1).count .PWR_QUIET_CNT) :=
    if_pos (by rw [alive, on, new]; rfl)
  have shown := sound_State_setFld s .PWR_STATUS_QUIET 1 0 0 h
  have counted := sound_State_count _ .PWR_QUIET_CNT 0 0 1 shown
  have k := kept_skyTxEn (le_same _) 0#32 _ (.refl _ ((s.setFld .PWR_STATUS_QUIET 1).count .PWR_QUIET_CNT))
  obtain ⟨-, off, -⟩ := skyTxEn_shows counted 0#32
  rw [does]
  constructor
  · rw [k.cnt counted (sound_skyTxEn 0#32 _ counted) (by decide +kernel), cnt_count shown.cnts, cnt_congr (setFld_cnts ..)]
  · rw [State.flag, off]
    rfl

theorem keeperQuiet_dead {s : State} (dead : s.flag .KEEP_STATUS_ALIVE = false) : keeperQuiet s = s :=
  if_neg (by rw [dead, Bool.false_and, Bool.false_and]; exact Bool.false_ne_true)

/-- What a quiet leaf side leaves of the keeper core and of the supply. -/
theorem quietLeaf_leaves {s : State} (h : s.Sound) : (darkenLeaf (quietSet true s)).Sound
    ∧ (darkenLeaf (quietSet true s)).pwr = { s.pwr with quiet := true }
    ∧ (darkenLeaf (quietSet true s)).flag .KEEP_STATUS_ALIVE = s.flag .KEEP_STATUS_ALIVE
    ∧ (darkenLeaf (quietSet true s)).reg .PWR_STATUS = s.reg .PWR_STATUS
    ∧ (darkenLeaf (quietSet true s)).cnt .PWR_QUIET_CNT = s.cnt .PWR_QUIET_CNT
    ∧ (darkenLeaf (quietSet true s)).reg .SKY_TX_EN = s.reg .SKY_TX_EN := by
  have quiet : (quietSet true s).Sound := sound_withPwr h _
  have sound := sound_darkenLeaf _ quiet
  have k := kept_darkenLeaf (le_same _) _ (.refl _ (quietSet true s))
  refine ⟨sound, k.pwr (by decide), ?_, ?_, ?_, ?_⟩
  · rw [k.flag quiet sound (by decide +kernel), quietSet, flag_congr (withPwr_regs ..)]
  · rw [k.reg quiet sound (by decide +kernel), quietSet, reg_congr (withPwr_regs ..)]
  · rw [k.cnt quiet sound (by decide +kernel), quietSet, cnt_congr (withPwr_cnts ..)]
  · rw [k.reg quiet sound (by decide +kernel), quietSet, reg_congr (withPwr_regs ..)]

theorem quietAssert_shows {s : State} (h : s.Sound) (off : s.pwr.quiet = false) (up : s.pwr.keeperUp = true) :
    (quietAssert s).pwr = { s.pwr with quiet := true } ∧ (∀ p < 256, portUp (quietAssert s) p = false)
    ∧ (s.flag .KEEP_STATUS_ALIVE = true → s.flag .PWR_STATUS_QUIET = false →
      (quietAssert s).flag .PWR_STATUS_QUIET = true ∧ (quietAssert s).cnt .PWR_QUIET_CNT = s.cnt .PWR_QUIET_CNT + 1#64
      ∧ (quietAssert s).flag .SKY_TX_EN_EN = false ∧ (quietAssert s).flag .SKY_STATE_TX_OFF = true)
    ∧ (s.flag .KEEP_STATUS_ALIVE = false → (quietAssert s).reg .PWR_STATUS = s.reg .PWR_STATUS
      ∧ (quietAssert s).cnt .PWR_QUIET_CNT = s.cnt .PWR_QUIET_CNT ∧ (quietAssert s).reg .SKY_TX_EN = s.reg .SKY_TX_EN) := by
  obtain ⟨sound, pwr, alive, status, count, tx⟩ := quietLeaf_leaves h
  have down {p : Nat} (hp : p < 256) : portUp (darkenLeaf (quietSet true s)) p = false :=
    darkenLeaf_down (s := quietSet true s) (sound_withPwr h _) hp
  have quiet : (darkenLeaf (quietSet true s)).flag .PWR_STATUS_QUIET = s.flag .PWR_STATUS_QUIET := by
    rw [State.flag, State.fld, show Fld.PWR_STATUS_QUIET.reg = .PWR_STATUS from rfl, status]
    rfl
  rw [quietAssert_keeper off up]
  generalize darkenLeaf (quietSet true s) = u at *
  have k := kept_keeperQuiet (le_same _) u (.refl _ u)
  refine ⟨(k.pwr (by decide)).trans pwr, fun p hp => ?_, fun on new => ?_, fun dead => ?_⟩
  · exact (k.flag (f := .LEAF_PORT_STATUS_LINK_UP) sound (sound_keeperQuiet u sound) (by decide +kernel) p 0).trans (down hp)
  · have asserted : u.pwr.quiet = true := by rw [pwr]
    obtain ⟨shown, dark⟩ := keeperQuiet_darkens sound (alive.trans on) asserted (quiet.trans new)
    obtain ⟨counted, tx⟩ := keeperQuiet_shows sound (alive.trans on) asserted (quiet.trans new)
    exact ⟨shown, counted.trans (by rw [count]), dark, tx⟩
  · rw [keeperQuiet_dead (alive.trans dead)]
    exact ⟨status, count, tx⟩

/-- Quiet shows no more. -/
def quietOver (s : State) : State := quietSet false (s.setFld .PWR_STATUS_QUIET 0)

theorem quietOver_leaves (s : State) : (quietOver s).regs = (s.setFld .PWR_STATUS_QUIET 0).regs
    ∧ (quietOver s).pwr = { (s.setFld .PWR_STATUS_QUIET 0).pwr with quiet := false } := by
  rw [quietOver, quietSet, withPwr_regs, withPwr_pwr]
  exact ⟨rfl, rfl⟩

theorem exec_quietRelease {s : State} (on : s.pwr.quiet = true) :
    exec .quietRelease s = .next (groupsLit (List.range 16) (quietOver s)) := congrArg Host.Outcome.next (if_pos on)

theorem quietRelease_shows {s : State} (h : s.Sound) :
    (groupsLit (List.range 16) (quietOver s)).pwr = { s.pwr with quiet := false }
    ∧ (groupsLit (List.range 16) (quietOver s)).flag .PWR_STATUS_QUIET = false
    ∧ s.Only (groupsLit (List.range 16) (quietOver s)) [.pwr, .leaf] [Reg.off .PWR_STATUS] [] := by
  obtain ⟨regs, pwr⟩ := quietOver_leaves s
  obtain ⟨lRegs, lPwr⟩ := groupsLit_leaves (List.range 16) (quietOver s)
  refine ⟨?_, ?_, ?_⟩
  · rw [lPwr, pwr, setFld_pwr]
  · rw [flag_congr lRegs, flag_congr regs, flag_setFld h.regs (by decide) (by decide)]
    rfl
  · have shown := (Sofar.start h [.pwr, .leaf] [Reg.off .PWR_STATUS] []).setFld .PWR_STATUS_QUIET 0 0 0 List.mem_cons_self
    exact ((shown.setPwr List.mem_cons_self _).groupsLit (List.mem_cons_of_mem _ List.mem_cons_self) (List.range 16)).only

end Sys2Proof.Machine
end

section
/-!
SUPPORT. A pending interrupt stays pending while a frame that is cut is handled (R58, R295).
-/
namespace Sys2Proof.Machine

/-! ### Interrupts -/

theorem off_pend (i k : Nat) : Reg.off .CTL_INT_PEND i = Reg.off .CTL_INT_PEND k ↔ i % 8 = k % 8 := by
  have n : Reg.n1 .CTL_INT_PEND = 8 := rfl
  have step : Reg.s1 .CTL_INT_PEND = 4 := rfl
  rw [Reg.off, Reg.off, n, step]
  omega

theorem resetOf_pend (i : Nat) : Reg.resetOf .CTL_INT_PEND i 0 = 0#32 := by
  unfold Reg.resetOf Reg.resetNat
  iterate 12 rw [if_neg (by decide)]
  rfl

theorem reg_pend {s : State} {i k : Nat} (same : i % 8 = k % 8) : s.reg .CTL_INT_PEND i = s.reg .CTL_INT_PEND k := by
  rw [State.reg, State.reg, (off_pend i k).mpr same, resetOf_pend, resetOf_pend]

/-- An interrupt leaves the others pending, whatever its vector. -/
theorem pends_takeInt_stays {s : State} (h : s.Sound) (v : Nat) {w : Nat} (p : pends s w) : pends (takeInt v s) w := by
  unfold takeInt
  dsimp only
  split
  · exact p
  · next clear =>
    refine (pends_congr (regs_newInt v _) w).mpr ?_
    unfold pends at p ⊢
    by_cases same : w / 32 % 8 = v / 32 % 8
    · rw [reg_pend same] at p ⊢
      rw [reg_setReg (s := noteInt v false s) h.regs]
      exact testBit_addBit (Bool.eq_false_iff.mpr clear) p (Nat.mod_lt _ (by decide))
    · rw [reg_setReg_ne (s := noteInt v false s) h.regs fun e => same ((off_pend _ _).mp e)]
      exact p

/-- A vector pends in a sound state. -/
structure Pending (v : Nat) (s : State) : Prop where
  sound : s.Sound
  pends : pends s v

/-- The state of a pair that an operation answers. -/
theorem pending_of_eq {α : Type} {v : Nat} {t : State} {e : α × State} {a : α} (k : Snd (Pending v) e) (h : e = (a, t)) : Pending v t := by
  rw [h] at k
  exact k

theorem pending_of_eq₂ {α β : Type} {v : Nat} {t : State} {e : α × β × State} {a : α} {b : β} (k : Snd (Snd (Pending v)) e)
    (h : e = (a, b, t)) : Pending v t := by
  rw [h] at k
  exact k

section
variable {v : Nat} {s : State} (h : Pending v s)
include h

/-- An operation that names no pending register. -/
theorem Pending.kept {T : Touch} {t : State} (k : Kept T s t) (sound : t.Sound) (free : freeR T .CTL_INT_PEND = true) : Pending v t :=
  ⟨sound, (k.pends h.sound sound free v).mpr h.pends⟩

/-- The same for the state that such an operation answers. -/
theorem Pending.keptSnd {α : Type} {T : Touch} {e : α × State} (k : Snd (Kept T s) e) (sound : Snd State.Sound e)
    (free : freeR T .CTL_INT_PEND = true) : Snd (Pending v) e := Pending.kept h (of_snd k) (of_snd sound) free

theorem Pending.keptSnd₂ {α β : Type} {T : Touch} {e : α × β × State} (k : Snd (Snd (Kept T s)) e) (sound : Snd (Snd State.Sound) e)
    (free : freeR T .CTL_INT_PEND = true) : Snd (Snd (Pending v)) e := Pending.keptSnd h (of_snd k) (of_snd sound) free

/-! ### Updates -/

theorem Pending.count (c : Cnt) (i j n : Nat) : Pending v (s.count c i j n) :=
  ⟨sound_State_count s c i j n h.sound, (pends_congr (count_regs ..) v).mpr h.pends⟩

theorem Pending.countIf (b : Bool) (c : Cnt) (i j : Nat) : Pending v (s.countIf b c i j) := ite_holds (h.count c i j 1) h

theorem Pending.led (term inst n : Nat) : Pending v (s.led term inst n) := ⟨sound_State_led s term inst n h.sound, h.pends⟩

theorem Pending.setFld {f : Fld} (apart : regApart .CTL_INT_PEND f.reg = true) (x i j : Nat) : Pending v (s.setFld f x i j) :=
  ⟨sound_State_setFld s f x i j h.sound, by
    unfold Machine.pends State.setFld
    rw [reg_setReg_apart h.sound.regs apart]
    exact h.pends⟩

/-! ### Rings -/

theorem Pending.setRing (r : Nat) (x : RingSt) : Pending v (setRing r x s) :=
  h.kept (kept_setRing (le_same _) r x s (.refl _ s)) (sound_setRing r x s h.sound) (by decide +kernel)

theorem Pending.idlSend (c d n room : Nat) : Pending v (idlSend c d n room s) :=
  h.kept (kept_idlSend (le_same _) c d n room s (.refl _ s)) (sound_idlSend c d n room s h.sound) (by decide +kernel)

theorem Pending.raiseVec (w : Nat) : Pending v (raiseVec w s) := by
  have sent := h.idlSend 2 1 1 0
  refine ⟨sound_raiseVec w s h.sound, ?_⟩
  exact ite_holds (P := fun t : State => Machine.pends t v) (pends_takeInt_stays sent.sound w sent.pends) h.pends

theorem Pending.ringRaise (r : Nat) : Pending v (ringRaise r s) := ite_holds ((h.setRing r _).raiseVec r) h

theorem Pending.stopErr (r code value : Nat) : Pending v (stopErr r code value s) := by
  have stopped := h.kept (kept_stopRing (le_same _) r s (.refl _ s)) (sound_stopRing r s h.sound) (by decide +kernel)
  have shown := (stopped.setFld (f := .HOST_RING_STATUS_ERR) (by decide) 1 r 0).setFld (f := .HOST_RING_STATUS_ERR_CODE) (by decide) code r 0
  exact (shown.kept (kept_fault (le_same _) 0x12 r code value _ (.refl _ _)) (sound_fault 0x12 r code value _ shown.sound)
    (by decide +kernel)).ringRaise r

theorem Pending.stopLost (r : Nat) : Pending v (stopLost r s) := by
  unfold Machine.stopLost
  extract_lets t
  have stopped : Pending v t := ite_holds (h.stopErr r 4 0) h
  clear_value t
  exact ite_holds stopped (stopped.kept (kept_discardHeld (le_same _) r t (.refl _ t)) (sound_discardHeld r t stopped.sound)
    (by decide +kernel))

theorem Pending.rxCount (r : Nat) (l : List Nat) : Pending v (rxCount r l s) := by
  rw [rxCount_eq]
  have waits : Pending v (rxWaits r l s) := h.setRing _ _
  have headed := waits.kept (kept_setHead (le_same _) r (rxPast r l s).1 _ (.refl _ _)) (sound_setHead r (rxPast r l s).1 _ waits.sound)
    (by decide +kernel)
  have backed := of_snd (headed.keptSnd (kept_ringWb (le_same _) r _ (.refl _ _)) (sound_ringWb r _ headed.sound) (by decide +kernel))
  exact ite_holds waits (ite_holds (P := Pending v) backed (backed.stopLost r))

theorem Pending.setUnits (r : Nat) (l : List RUnit) : Pending v (setUnits r l s) :=
  h.kept (kept_setUnits (le_same _) r l s (.refl _ s)) (sound_setUnits r l s h.sound) (by decide +kernel)

theorem Pending.rxPlace (ring : Nat) (data : List Byte) (i : RxInfo) : Snd (Pending v) (rxPlace ring data i s) := by
  unfold Machine.rxPlace
  extract_lets r x drop
  have dropped (c : Cnt) : Pending v (drop c s) := by
    unfold drop
    dsimp only
    split
    · exact (h.count _ _ _ _).count _ _ _ _
    · exact h.count _ _ _ _
  refine ite_holds (P := Snd (Pending v)) (dropped _) (ite_holds (P := Snd (Pending v)) (dropped _) ?_)
  split
  · exact dropped _
  · next bs _ =>
    extract_lets +onlyGivenNames -merge first u s1 s2 s3
    have reserved : Pending v s3 := ((h.setRing _ _).setUnits _ _).rxCount _ _
    clear_value s3
    have filled := reserved.keptSnd (kept_fillBufs (le_same _) bs data 0 s3 (.refl _ _)) (sound_fillBufs bs data 0 s3 reserved.sound)
      (by decide +kernel)
    split
    next st t e =>
      have put := pending_of_eq filled e
      exact put.kept (kept_finish (le_same _) r _ _ t (.refl _ _)) (sound_finish r _ _ t put.sound) (by decide +kernel)

/-! ### What becomes of a frame -/

theorem Pending.unitDone (r id status ts : Nat) (tsv : Bool) : Pending v (unitDone r id status ts tsv s) :=
  h.kept (kept_unitDone (le_same _) r id status ts tsv s (.refl _ s)) (sound_unitDone r id status ts tsv s h.sound) (by decide +kernel)

theorem Pending.inDrop (f : InFrame) : Pending v (inDrop f s) :=
  h.kept (kept_inDrop (le_same _) f s (.refl _ s)) (sound_inDrop f s h.sound) (by decide +kernel)

theorem Pending.idlPass (k len : Nat) : Snd (Pending v) (idlPass k len s) :=
  h.keptSnd (kept_idlPass (le_same _) k len s (.refl _ s)) (sound_idlPass k len s h.sound) (by decide +kernel)

theorem Pending.copyEnd (c : Cnt) (ses : Nat) : Pending v (copyEnd c ses s) := (h.count c ses 0 1).led tEnd11 ses 1

theorem Pending.sendFrame (q : Nat) (b : Cell) (d : List Byte) : Snd (Pending v) (sendFrame q b d s) :=
  h.keptSnd (kept_sendFrame (le_same _) q b d s (.refl _ s)) (sound_sendFrame q b d s h.sound) (by decide +kernel)

theorem Pending.deliverCopy (ses : Nat) (cfg dest : Word) (i : CopyInfo) (d : List Byte) : Pending v (deliverCopy ses cfg dest i d s) := by
  unfold Machine.deliverCopy
  extract_lets kind
  refine ite_holds ?_ (ite_holds ((h.count _ _ _ _).copyEnd _ _) (ite_holds ?_ ?_))
  · have sent := h.sendFrame
    split
    next e => exact pending_of_eq (sent _ _ _) e
    next e => exact ((pending_of_eq (sent _ _ _) e).count _ _ _ _).copyEnd _ _
  · have passed := h.idlPass 1 d.length
    split
    next e => exact (pending_of_eq passed e).copyEnd _ _
    next e =>
      have placed := (pending_of_eq passed e).rxPlace
      split
      next e' => exact (pending_of_eq (placed _ _ _) e').copyEnd _ _
      next e' => exact (pending_of_eq (placed _ _ _) e').copyEnd _ _
  · have passed := h.idlPass 1 256
    split
    next e => exact (pending_of_eq passed e).copyEnd _ _
    next t e =>
      have given := pending_of_eq passed e
      exact ⟨sound_withHost given.sound (HostSt.sound_mk given.sound.host.rings given.sound.host.mem given.sound.host.ext
        given.sound.host.txLast), given.pends⟩

theorem Pending.selectCopy (ses pipe : Nat) : Snd (Pending v) (selectCopy ses pipe s) :=
  h.keptSnd (kept_selectCopy (le_same _) ses pipe s (.refl _ s)) (sound_selectCopy ses pipe s h.sound) (by decide +kernel)

theorem Pending.ingressCopy (rule port : Option Nat) (i : CopyInfo) (d : List Byte) : Pending v (ingressCopy rule port i d s) := by
  unfold Machine.ingressCopy
  split
  · exact h
  · have selected := h.selectCopy
    split
    next e => exact pending_of_eq (selected _ _) e
    next e => exact (pending_of_eq (selected _ _) e).deliverCopy _ _ _ _ _

theorem Pending.toHost (q ring : Nat) (d : List Byte) (i : RxInfo) : Snd (Pending v) (toHost q ring d i s) := by
  unfold Machine.toHost
  refine ite_holds (P := Snd (Pending v)) (h.count _ _ _ _) ?_
  have passed := h.idlPass 0 d.length
  split
  next e => exact (pending_of_eq passed e).count _ _ _ _
  next e => exact (pending_of_eq passed e).rxPlace _ _ _

theorem Pending.hostFrame (f : InFrame) (ring : Nat) (d : List Byte) (i : RxInfo) : Pending v (hostFrame f ring d i s) := by
  have given := h.toHost
  unfold Machine.hostFrame
  split
  next e => exact (pending_of_eq (given _ _ _ _) e).inDrop f
  next e =>
    extract_lets t
    have out : Pending v t := (pending_of_eq (given _ _ _ _) e).led _ _ _
    split
    · exact out.unitDone _ _ _ _ _
    · exact out

theorem Pending.learnLeaf (f : InFrame) (w : Walk) : Pending v (learnLeaf f w s) :=
  h.kept (kept_learnLeaf (le_same _) f w s (.refl _ s)) (sound_learnLeaf f w s h.sound) (by decide +kernel)

theorem Pending.chargeCells (k n : Nat) : Pending v (chargeCells k n s) :=
  h.kept (kept_chargeCells (le_same _) k n s (.refl _ s)) (sound_chargeCells k n s h.sound) (by decide +kernel)

theorem Pending.dischargeCells (k n : Nat) : Pending v (dischargeCells k n s) :=
  h.kept (kept_dischargeCells (le_same _) k n s (.refl _ s)) (sound_dischargeCells k n s h.sound) (by decide +kernel)

theorem Pending.launch (f : InFrame) (b : Cell) (d : List Byte) (bound n0 : Nat) (fails : Bool) : Pending v (launch f b d bound n0 fails s) :=
  h.kept (kept_launch (le_same _) f b d bound n0 fails s (.refl _ s)) (sound_launch f b d bound n0 fails s h.sound) (by decide +kernel)

theorem Pending.ingressEdit (q : Nat) (f : InFrame) (w : Walk) (ip : Option Hdr) (fw : Fwd) (rule : Option Nat) (hash : Nat) :
    Snd (Pending v) (ingressEdit q f w ip fw rule hash s) :=
  h.keptSnd (kept_ingressEdit (le_same _) q f w ip fw rule hash s (.refl _ s)) (sound_ingressEdit q f w ip fw rule hash s h.sound)
    (by decide +kernel)

theorem Pending.onward (f : InFrame) (w : Walk) (ip : Option Hdr) (fw : Fwd) (a : Action) (cls hash : Nat) (rule : Option Nat) :
    Pending v (onward f w ip fw a cls hash rule s) := by
  unfold Machine.onward
  extract_lets +onlyGivenNames -merge q n0 org uncharge
  have freed {t : State} (ht : Pending v t) : Pending v (uncharge t) := ite_holds ht (ht.dischargeCells _ _)
  extract_lets +onlyGivenNames -merge s1
  have charged : Pending v s1 := ite_holds h (h.chargeCells _ _)
  have policed (i n : Nat) : Snd (Pending v) (police i n q s1) :=
    charged.keptSnd (kept_police (le_same _) i n q s1 (.refl _ s1)) (sound_police i n q s1 charged.sound) (by decide +kernel)
  split
  next pass s2 e =>
    have metered : Pending v s2 := by
      refine pending_of_eq ?_ e
      refine ite_holds (P := Snd (Pending v)) charged ?_
      split
      · exact policed _ _
      · exact charged
    have edits := metered.ingressEdit
    extract_lets fails
    split
    · exact (freed metered).inDrop f
    · refine ite_holds ((freed metered).inDrop f) ?_
      split
      next e => exact (freed (pending_of_eq (edits _ _ _ _ _ _ _) e)).inDrop f
      next e =>
        have edited := pending_of_eq (edits _ _ _ _ _ _ _) e
        exact ite_holds ((freed (edited.count _ _ _ _)).inDrop f) (freed (edited.hostFrame _ _ _ _))
    all_goals
      split
      next m p _ =>
        refine ite_holds ((freed metered).inDrop f) ?_
        split
        next e => exact (freed (pending_of_eq (edits _ _ _ _ _ _ _) e)).inDrop f
        next e => exact ((pending_of_eq (edits _ _ _ _ _ _ _) e).countIf _ _ _ _).launch _ _ _ _ _ _

theorem Pending.classify (f : InFrame) (w : Walk) : Pending v (classify f w s) := by
  unfold Machine.classify
  have look (q : Nat) : Snd (Pending v) (lookIn q s) :=
    h.keptSnd (kept_lookIn (le_same _) q s (.refl _ s)) (sound_lookIn q s h.sound) (by decide +kernel)
  extract_lets q
  split
  next lk s1 e =>
    have looked := pending_of_eq (look _) e
    extract_lets +onlyGivenNames -merge f' d cls0 hash key rule s2
    have checked : Pending v s2 := looked.kept (kept_ruleParity (le_same _) q false s1 (.refl _ s1)) (sound_ruleParity q false s1 looked.sound)
      (by decide +kernel)
    clear_value s2
    split
    next tbl s3 e =>
      have met := pending_of_eq (checked.keptSnd (kept_tableLookup (le_same _) _ _ _ _ s2 (.refl _ s2))
        (sound_tableLookup _ _ _ _ s2 checked.sound) (by decide +kernel)) e
      extract_lets +onlyGivenNames -merge s4 a cls
      have learnt : Pending v s4 := met.learnLeaf _ _
      clear_value s4
      split
      next fw trap s5 e =>
        have decided := pending_of_eq₂ (learnt.keptSnd₂ (kept_decide' (le_same _) _ _ _ _ s4 (.refl _ s4))
          (sound_decide' _ _ _ _ s4 learnt.sound) (by decide +kernel)) e
        extract_lets +onlyGivenNames -merge s6
        have gone : Pending v s6 := by
          unfold s6
          split
          · exact (ite_holds (P := Pending v) decided (decided.count _ _ _ _)).inDrop _
          · exact decided.onward _ _ _ _ _ _ _ _
        clear_value s6
        have flow : Pending v (flowCount a f'.data.length s6) :=
          gone.kept (kept_flowCount (le_same _) _ _ s6 (.refl _ s6)) (sound_flowCount _ _ s6 gone.sound) (by decide +kernel)
        exact ite_holds gone (flow.ingressCopy _ _ _ _)

theorem Pending.parseStep (f : InFrame) (cls : Option Nat) : Snd (Pending v) (parseStep f cls s) := by
  unfold Machine.parseStep
  extract_lets +onlyGivenNames -merge d w
  split
  · exact h
  · extract_lets +onlyGivenNames -merge s1 act
    have counted : Pending v s1 := h.countIf _ _ _ _
    refine ite_holds (P := Snd (Pending v)) counted (ite_holds (P := Snd (Pending v)) (counted.inDrop f) ?_)
    have learnt : Pending v (if cls.isNone then Machine.learnLeaf f w s1 else s1) := ite_holds (counted.learnLeaf _ _) counted
    exact learnt.hostFrame _ _ _ _

theorem Pending.ingressFrame (f : InFrame) : Pending v (ingressFrame f s) := by
  have parsed := h.parseStep f none
  unfold Machine.ingressFrame
  split
  next e => exact pending_of_eq parsed e
  next e => exact (pending_of_eq parsed e).classify _ _

theorem Pending.badFrame (p : Nat) (c : RxBad) (f : RxFrame) : Pending v (badFrame p c f s) := by
  unfold Machine.badFrame
  have counted := h.count c.cnt p 0 1
  exact ite_holds (counted.inDrop _) (counted.ingressFrame _)

theorem Pending.rxTaken (p : Nat) (began : Option (RxFrame × Bool)) {op : State → State} (hop : ∀ t, Pending v t → Pending v (op t)) :
    Pending v (rxTaken p began op s) := by
  unfold Machine.rxTaken
  split
  · exact h
  · exact hop _ (h.led _ _ _)
  · exact ite_holds (h.kept (kept_overrun (le_same _) p s (.refl _ s)) (sound_overrun p s h.sound) (by decide +kernel))
      (hop _ (h.led _ _ _))

theorem Pending.cutRx (p : Nat) (cur : Option RxFrame) : Pending v (cutRx p cur s) := by
  unfold Machine.cutRx
  extract_lets began t
  have cleared : Pending v t := h.kept (kept_clearRx (le_same _) p s (.refl _ s)) (sound_clearRx p s h.sound) (by decide +kernel)
  clear_value t
  split
  · exact cleared
  · refine ite_holds ?_ cleared
    exact cleared.rxTaken p began fun _ k => k.badFrame p _ _

end

end Sys2Proof.Machine
end

section
/-!
SUPPORT. The simmer stage changes (R391 to R393).
-/
namespace Sys2Proof.Machine

/-! ### What the change of the stage leaves of the supply -/

/-- An operation leaves the state of the supply and what shows of it. -/
def supplyFree (T : Touch) : Bool := freeR T .PWR_STATUS && freeR T .KEEP_STATUS && freeR T .PWR_INPUT && freeR T .PWR_THERMAL
  && freeC T .PWR_STEEP_CNT && freeC T .PWR_POWER_LIMIT_CNT && !T.a.testBit 13

/-- From s to t the supply shows the same, and vector 177 pends. -/
structure SupplyKept (s t : State) : Prop where
  pending : Pending 177 t
  status : t.reg .PWR_STATUS = s.reg .PWR_STATUS
  keeper : t.reg .KEEP_STATUS = s.reg .KEEP_STATUS
  input : t.reg .PWR_INPUT = s.reg .PWR_INPUT
  thermal : t.reg .PWR_THERMAL = s.reg .PWR_THERMAL
  steep : t.cnt .PWR_STEEP_CNT = s.cnt .PWR_STEEP_CNT
  limit : t.cnt .PWR_POWER_LIMIT_CNT = s.cnt .PWR_POWER_LIMIT_CNT
  pwr : t.pwr = s.pwr

theorem SupplyKept.refl {s : State} (h : Pending 177 s) : SupplyKept s s := ⟨h, rfl, rfl, rfl, rfl, rfl, rfl, rfl⟩

theorem SupplyKept.step {s t u : State} (k : SupplyKept s t) {T : Touch} (kept : Kept T t u) (pending : Pending 177 u)
    (free : supplyFree T = true) : SupplyKept s u := by
  have h := k.pending.sound
  have h' := pending.sound
  simp only [supplyFree, Bool.and_eq_true, Bool.not_eq_true'] at free
  obtain ⟨⟨⟨⟨⟨⟨status, keeper⟩, input⟩, thermal⟩, steep⟩, limit⟩, pwr⟩ := free
  exact ⟨pending, (kept.reg h h' status 0 0).trans k.status, (kept.reg h h' keeper 0 0).trans k.keeper,
    (kept.reg h h' input 0 0).trans k.input, (kept.reg h h' thermal 0 0).trans k.thermal, (kept.cnt h h' steep 0 0).trans k.steep,
    (kept.cnt h h' limit 0 0).trans k.limit, (kept.pwr pwr).trans k.pwr⟩

/-- A step that names neither the supply nor a pending register. -/
theorem SupplyKept.quiet {s t u : State} (k : SupplyKept s t) {T : Touch} (kept : Kept T t u) (sound : u.Sound)
    (free : (supplyFree T && freeR T .CTL_INT_PEND) = true) : SupplyKept s u := by
  rw [Bool.and_eq_true] at free
  exact k.step kept (k.pending.kept kept sound free.2) free.1

theorem Pending.portDark {v : Nat} {s : State} (h : Pending v s) (p : Nat) : Pending v (portDark p s) := by
  have cut := h.cutRx p none
  exact ite_holds (cut.kept (kept_linkDown (le_same _) p _ (.refl _ _)) (sound_linkDown p _ cut.sound) (by decide +kernel)) h

theorem Pending.darkenGroup {v : Nat} {s : State} (h : Pending v s) (g : Nat) : Pending v (darkenGroup g s) := by
  have sound := sound_darkenGroup g s h.sound
  rw [darkenGroup_eq] at sound ⊢
  have dark : Pending v (portsDark (range' (16 * g) 16) s) := foldl_holds (P := Pending v) (fun _ p k => k.portDark p) h
  exact ⟨sound, (pends_congr (groupLoose_regs ..) v).mpr dark.pends⟩

theorem SupplyKept.groupsDark {s t : State} (k : SupplyKept s t) (l : List Nat) : SupplyKept s (groupsDark l t) :=
  foldl_holds (P := SupplyKept s)
    (fun u g k => k.step (kept_darkenGroup (le_same _) g u (.refl _ u)) (k.pending.darkenGroup g) (by decide +kernel)) k

theorem SupplyKept.groupsLit {s t : State} (k : SupplyKept s t) (l : List Nat) : SupplyKept s (groupsLit l t) :=
  foldl_holds (P := SupplyKept s)
    (fun u g k => k.quiet (kept_lightGroup (le_same _) g u (.refl _ u)) (sound_lightGroup g u k.pending.sound) (by decide +kernel)) k

/-! ### The stages of the change -/

/-- A stage shows at the supply and at the keeper core. -/
def stageShown (stage : Nat) (s : State) : State := (s.setFld .PWR_STATUS_SIMMER stage).setFld .KEEP_STATUS_SIMMER stage

/-- A stage is entered and counted. -/
def stageCounted (stage : Nat) (s : State) : State :=
  (s.countIf (stage == 1) .PWR_SIMMER1_CNT).countIf (stage == 2) .PWR_SIMMER2_CNT

/-- The engines of a list are shed. -/
def engineShed (l : List Nat) (s : State) : State := { s with
  pwr := { s.pwr with shed := l }, sky := { s.sky with shedLanes := shedLanesOf l } }

/-- The leaf groups of a list that are not of another. -/
def groupsOf (l old : List Nat) : List Nat := l.filter (fun e => decide (e < 16) && !old.contains e)

/-- Groups that are shed go dark, and those that are shed no more have light again. -/
def groupsMoved (old l : List Nat) (s : State) : State :=
  showSpill (lanesStopped (groupsLit (groupsOf old l) (groupsDark (groupsOf l old) s)))

theorem setSimmer_eq (stage : Nat) (s : State) : setSimmer stage s = groupsMoved s.pwr.shed (shedSet stage s)
    (engineShed (shedSet stage s) (stageCounted stage (raiseNear 177 (stageShown stage s)))) := rfl

theorem engineShed_leaves (l : List Nat) (s : State) : (engineShed l s).regs = s.regs ∧ (engineShed l s).cnts = s.cnts
    ∧ (engineShed l s).pwr = { s.pwr with shed := l } := ⟨rfl, rfl, rfl⟩

theorem groupsMoved_keeps {s : State} (h : Pending 177 s) (old l : List Nat) : SupplyKept s (groupsMoved old l s) := by
  have lit := ((SupplyKept.refl h).groupsDark (groupsOf l old)).groupsLit (groupsOf old l)
  unfold groupsMoved
  generalize Machine.groupsLit (groupsOf old l) (groupsDark (groupsOf l old) s) = u at *
  have stopped := lit.quiet (kept_lanesStopped (le_same _) u (.refl _ u)) (sound_lanesStopped u lit.pending.sound) (by decide +kernel)
  exact stopped.quiet (kept_showSpill (le_same _) _ (.refl _ _)) (sound_showSpill _ stopped.pending.sound) (by decide +kernel)

/-- The ports of the groups that are shed are down. -/
theorem groupsMoved_down {s : State} (h : Pending 177 s) {old l : List Nat} {g : Nat} (hg : g < 16) (new : g ∈ l) (not : g ∉ old) {p : Nat}
    (hp : p < 16) : portUp (groupsMoved old l s) (16 * g + p) = false := by
  have dark := (SupplyKept.refl h).groupsDark (groupsOf l old)
  have lit := dark.groupsLit (groupsOf old l)
  have listed : (16 * g + p) / 16 ∈ groupsOf l old := by
    rw [show (16 * g + p) / 16 = g by omega, groupsOf, List.mem_filter, Bool.and_eq_true, decide_eq_true_iff, Bool.not_eq_true',
      Bool.eq_false_iff, Ne, List.contains_iff_mem]
    exact ⟨new, hg, not⟩
  have small : ∀ e ∈ groupsOf l old, e < 16 := fun e he => by
    rw [groupsOf, List.mem_filter, Bool.and_eq_true, decide_eq_true_iff] at he
    exact he.2.1
  have down := groupsDark_down _ small h.sound (q := 16 * g + p) (by omega) (.inl listed)
  obtain ⟨regs, -⟩ := groupsLit_leaves (groupsOf old l) (groupsDark (groupsOf l old) s)
  unfold groupsMoved
  generalize groupsDark (groupsOf l old) s = u at *
  generalize Machine.groupsLit (groupsOf old l) u = v at *
  have stopped := sound_lanesStopped v lit.pending.sound
  refine ((kept_showSpill (le_same _) _ (.refl _ _)).flag (f := .LEAF_PORT_STATUS_LINK_UP) stopped (sound_showSpill _ stopped)
    (by decide +kernel) (16 * g + p) 0).trans ?_
  refine ((kept_lanesStopped (le_same _) v (.refl _ v)).flag (f := .LEAF_PORT_STATUS_LINK_UP) lit.pending.sound stopped
    (by decide +kernel) (16 * g + p) 0).trans ?_
  exact (flag_congr regs .LEAF_PORT_STATUS_LINK_UP (16 * g + p) 0).trans down

theorem stageShown_shows {s : State} (h : s.Sound) {stage : Nat} (small : stage < 4) : (stageShown stage s).Sound
    ∧ (stageShown stage s).fld .PWR_STATUS_SIMMER = stage ∧ (stageShown stage s).fld .KEEP_STATUS_SIMMER = stage
    ∧ (stageShown stage s).flag .PWR_STATUS_STEEP = s.flag .PWR_STATUS_STEEP
    ∧ (stageShown stage s).flag .PWR_STATUS_SEQ_DONE = s.flag .PWR_STATUS_SEQ_DONE
    ∧ (stageShown stage s).flag .PWR_STATUS_SIMMER_POWER = s.flag .PWR_STATUS_SIMMER_POWER
    ∧ (stageShown stage s).reg .PWR_INPUT = s.reg .PWR_INPUT ∧ (stageShown stage s).reg .PWR_THERMAL = s.reg .PWR_THERMAL
    ∧ (stageShown stage s).cnts = s.cnts ∧ (stageShown stage s).pwr = s.pwr := by
  have first := sound_State_setFld s .PWR_STATUS_SIMMER stage 0 0 h
  unfold stageShown
  refine ⟨sound_State_setFld _ .KEEP_STATUS_SIMMER stage 0 0 first, ?_, ?_, ?_, ?_, ?_, ?_, ?_, ?_, ?_⟩
  · rw [fld_setFld_apart (f := .KEEP_STATUS_SIMMER) (g := .PWR_STATUS_SIMMER) first.regs (by decide),
      fld_setFld (f := .PWR_STATUS_SIMMER) h.regs (by decide) (by decide)]
    exact Nat.mod_eq_of_lt small
  · rw [fld_setFld (f := .KEEP_STATUS_SIMMER) first.regs (by decide) (by decide)]
    exact Nat.mod_eq_of_lt small
  · rw [flag_setFld_apart (f := .KEEP_STATUS_SIMMER) (g := .PWR_STATUS_STEEP) first.regs (by decide),
      flag_setFld_beside (f := .PWR_STATUS_SIMMER) (g := .PWR_STATUS_STEEP) h.regs (by decide)]
  · rw [flag_setFld_apart (f := .KEEP_STATUS_SIMMER) (g := .PWR_STATUS_SEQ_DONE) first.regs (by decide),
      flag_setFld_beside (f := .PWR_STATUS_SIMMER) (g := .PWR_STATUS_SEQ_DONE) h.regs (by decide)]
  · rw [flag_setFld_apart (f := .KEEP_STATUS_SIMMER) (g := .PWR_STATUS_SIMMER_POWER) first.regs (by decide),
      flag_setFld_beside (f := .PWR_STATUS_SIMMER) (g := .PWR_STATUS_SIMMER_POWER) h.regs (by decide)]
  · rw [State.setFld, reg_setReg_apart first.regs (r := Fld.KEEP_STATUS_SIMMER.reg) (by decide), State.setFld,
      reg_setReg_apart h.regs (r := Fld.PWR_STATUS_SIMMER.reg) (by decide)]
  · rw [State.setFld, reg_setReg_apart first.regs (r := Fld.KEEP_STATUS_SIMMER.reg) (by decide), State.setFld,
      reg_setReg_apart h.regs (r := Fld.PWR_STATUS_SIMMER.reg) (by decide)]
  · exact (setFld_cnts ..).trans (setFld_cnts ..)
  · exact (setFld_pwr ..).trans (setFld_pwr ..)

/-- What a change of the stage shows. -/
structure StageSet (stage : Nat) (s t : State) : Prop where
  shown : t.fld .PWR_STATUS_SIMMER = stage ∧ t.fld .KEEP_STATUS_SIMMER = stage
  vector : pends t 177
  beside : t.flag .PWR_STATUS_STEEP = s.flag .PWR_STATUS_STEEP ∧ t.flag .PWR_STATUS_SEQ_DONE = s.flag .PWR_STATUS_SEQ_DONE
    ∧ t.flag .PWR_STATUS_SIMMER_POWER = s.flag .PWR_STATUS_SIMMER_POWER
  seen : t.reg .PWR_INPUT = s.reg .PWR_INPUT ∧ t.reg .PWR_THERMAL = s.reg .PWR_THERMAL
  cnts : t.cnt .PWR_STEEP_CNT = s.cnt .PWR_STEEP_CNT ∧ t.cnt .PWR_POWER_LIMIT_CNT = s.cnt .PWR_POWER_LIMIT_CNT
  pwr : t.pwr = { s.pwr with shed := shedSet stage s }
  down : ∀ g < 16, g ∈ shedSet stage s → g ∉ s.pwr.shed → ∀ p < 16, portUp t (16 * g + p) = false

theorem SupplyKept.countIf {s t : State} (k : SupplyKept s t) (b : Bool) {c : Cnt} (steep : cntApart .PWR_STEEP_CNT c = true)
    (limit : cntApart .PWR_POWER_LIMIT_CNT c = true) : SupplyKept s (t.countIf b c) := by
  have h := k.pending.sound
  exact ite_holds ⟨k.pending.count c 0 0 1, k.status, k.keeper, k.input, k.thermal, (cnt_count_apart h.cnts steep 0 0 1 0 0).trans k.steep,
    (cnt_count_apart h.cnts limit 0 0 1 0 0).trans k.limit, k.pwr⟩ k

theorem stageCounted_keeps {s : State} (h : Pending 177 s) (stage : Nat) : SupplyKept s (stageCounted stage s) :=
  ((SupplyKept.refl h).countIf (stage == 1) (c := .PWR_SIMMER1_CNT) (by decide) (by decide)).countIf (stage == 2)
    (c := .PWR_SIMMER2_CNT) (by decide) (by decide)

theorem sound_engineShed {s : State} (h : s.Sound) (l : List Nat) : (engineShed l s).Sound :=
  State.sound_mk h.regs h.shadow h.cnts h.tot h.hold h.pairs h.ctl h.host h.hlt h.nvm h.cls h.time h.tbl h.leaf h.xbar h.buf h.tm
    (SkySt.sound_mk h.sky.lanes h.sky.traces h.sky.pairs h.sky.reseq h.sky.wrr h.sky.wrr0 h.sky.rounds h.sky.offered h.sky.used
      h.sky.offeredLast h.sky.usedLast h.sky.spare h.sky.cands h.sky.inForce)

theorem setSimmer_sets {s : State} (h : s.Sound) {stage : Nat} (small : stage < 4) : StageSet stage s (setSimmer stage s) := by
  rw [setSimmer_eq]
  generalize order : shedSet stage s = l
  obtain ⟨shown, simmer, keeper, steep, done, limit, input, thermal, cnts, pwr⟩ := stageShown_shows h small
  generalize stageShown stage s = a at *
  have k := kept_raiseNear (le_same _) 177 a (.refl _ a)
  have raised : Pending 177 (raiseNear 177 a) := ⟨sound_raiseNear 177 a shown, pends_takeInt shown 177⟩
  have counted := stageCounted_keeps raised stage
  have word : (stageCounted stage (raiseNear 177 a)).reg .PWR_STATUS = a.reg .PWR_STATUS :=
    counted.status.trans (k.reg shown raised.sound (by decide +kernel) 0 0)
  have far : (stageCounted stage (raiseNear 177 a)).reg .KEEP_STATUS = a.reg .KEEP_STATUS :=
    counted.keeper.trans (k.reg shown raised.sound (by decide +kernel) 0 0)
  have seen : (stageCounted stage (raiseNear 177 a)).reg .PWR_INPUT = s.reg .PWR_INPUT :=
    counted.input.trans ((k.reg shown raised.sound (by decide +kernel) 0 0).trans input)
  have warm : (stageCounted stage (raiseNear 177 a)).reg .PWR_THERMAL = s.reg .PWR_THERMAL :=
    counted.thermal.trans ((k.reg shown raised.sound (by decide +kernel) 0 0).trans thermal)
  have ends : (stageCounted stage (raiseNear 177 a)).cnt .PWR_STEEP_CNT = s.cnt .PWR_STEEP_CNT :=
    counted.steep.trans ((k.cnt shown raised.sound (by decide +kernel) 0 0).trans (cnt_congr cnts ..))
  have limits : (stageCounted stage (raiseNear 177 a)).cnt .PWR_POWER_LIMIT_CNT = s.cnt .PWR_POWER_LIMIT_CNT :=
    counted.limit.trans ((k.cnt shown raised.sound (by decide +kernel) 0 0).trans (cnt_congr cnts ..))
  have supply : (stageCounted stage (raiseNear 177 a)).pwr = s.pwr := counted.pwr.trans ((k.pwr (by decide)).trans pwr)
  have pending := counted.pending
  generalize stageCounted stage (raiseNear 177 a) = b at *
  clear counted k raised
  obtain ⟨regs, cnts', pwr'⟩ := engineShed_leaves l b
  have sheds : Pending 177 (engineShed l b) := ⟨sound_engineShed pending.sound l, (pends_congr regs 177).mpr pending.pends⟩
  generalize engineShed l b = e at *
  have moved := groupsMoved_keeps sheds s.pwr.shed l
  have down {g : Nat} (hg : g < 16) (new : g ∈ l) (not : g ∉ s.pwr.shed) {p : Nat} (hp : p < 16) :=
    groupsMoved_down sheds hg new not hp
  generalize groupsMoved s.pwr.shed l e = t at *
  have status : t.reg .PWR_STATUS = a.reg .PWR_STATUS := moved.status.trans ((reg_congr regs ..).trans word)
  have keep : t.reg .KEEP_STATUS = a.reg .KEEP_STATUS := moved.keeper.trans ((reg_congr regs ..).trans far)
  have fldAt {f : Fld} (hf : f.reg = .PWR_STATUS) : t.fld f = a.fld f := by rw [State.fld, State.fld, hf, status]
  have flagAt {f : Fld} (hf : f.reg = .PWR_STATUS) : t.flag f = a.flag f := by rw [State.flag, State.flag, fldAt hf]
  refine ⟨⟨(fldAt rfl).trans simmer, ?_⟩, moved.pending.pends, ⟨(flagAt rfl).trans steep, (flagAt rfl).trans done,
    (flagAt rfl).trans limit⟩, ⟨?_, ?_⟩, ⟨?_, ?_⟩, ?_, fun g hg new not p hp => ?_⟩
  · rw [State.fld, show Fld.KEEP_STATUS_SIMMER.reg = .KEEP_STATUS from rfl, keep]
    exact keeper
  · rw [moved.input, reg_congr regs, seen]
  · rw [moved.thermal, reg_congr regs, warm]
  · rw [moved.steep, cnt_congr cnts', ends]
  · rw [moved.limit, cnt_congr cnts', limits]
  · rw [moved.pwr, pwr', supply, order]
  · exact down hg (order ▸ new) not hp

end Sys2Proof.Machine
end

section
/-!
SUPPORT. What the keeper core decides at a boundary of 100 ms (R384, R388 to R391), and the settlement of O57.
-/
namespace Sys2Proof.Machine

/-! ### The means -/

theorem unsgn_lt (v : Int) : unsgn 16 v < 65536 := by
  unfold unsgn
  have low := Int.emod_nonneg v (show ((2 ^ 16 : Nat) : Int) ≠ 0 by decide)
  have high := Int.emod_lt_of_pos v (show (0 : Int) < ((2 ^ 16 : Nat) : Int) by decide)
  generalize v % ((2 ^ 16 : Nat) : Int) = x at *
  have : ((2 ^ 16 : Nat) : Int) = 65536 := by decide
  omega

/-- The halves of a register. -/
theorem halves {a b : Nat} (ha : a < 65536) (hb : b < 65536) : bits (BitVec.ofNat 32 (a * 65536 + b)).toNat 31 16 = a
    ∧ bits (BitVec.ofNat 32 (a * 65536 + b)).toNat 15 0 = b := by
  have word : (BitVec.ofNat 32 (a * 65536 + b)).toNat = a * 65536 + b := by
    rw [BitVec.toNat_ofNat]
    omega
  rw [word, bits, bits, Nat.shiftRight_eq_div_pow, Nat.shiftRight_zero]
  omega

/-- What the sensors show. -/
def sensorsShown (c : Climate) (s : State) : State := ((List.range 18).zip c.sensors).foldl (fun s e =>
  s.setReg .PWR_SENSOR (BitVec.ofNat 32 (2 ^ 31 + unsgn 16 e.2)) e.1) s

/-- What the input and the temperatures show. -/
def inputSeen (c : Climate) (s : State) : State :=
  (s.setReg .PWR_INPUT (BitVec.ofNat 32 (c.power % 65536 * 65536 + c.voltage % 65536))).setReg .PWR_THERMAL
    (BitVec.ofNat 32 (unsgn 16 c.tCase * 65536 + unsgn 16 c.tMin))

theorem measured_eq (c : Climate) (s : State) : measured c s = sensorsShown c (inputSeen c s) := rfl

theorem sensorsShown_reg (c : Climate) {s : State} (h : s.Sound) {r : Reg} (apart : regApart r .PWR_SENSOR = true) :
    (sensorsShown c s).reg r = s.reg r := by
  unfold sensorsShown
  refine (foldl_holds (P := fun t : State => t.Sound ∧ t.reg r = s.reg r) (fun u e same => ?_) ⟨h, rfl⟩).2
  exact ⟨sound_State_setReg u .PWR_SENSOR _ e.1 0 same.1, (reg_setReg_apart same.1.regs apart _ e.1 0 0 0).trans same.2⟩

/-- What the means show, and what they leave. -/
structure MeansShown (c : Climate) (t : State) : Prop where
  power : t.fld .PWR_INPUT_POWER = c.power % 65536
  voltage : t.fld .PWR_INPUT_VOLTAGE = c.voltage % 65536
  tCase : t.fld .PWR_THERMAL_T_CASE = unsgn 16 c.tCase
  tMin : t.fld .PWR_THERMAL_T_MIN = unsgn 16 c.tMin

theorem MeansShown.of_regs {c : Climate} {s t : State} (m : MeansShown c s) (input : t.reg .PWR_INPUT = s.reg .PWR_INPUT)
    (thermal : t.reg .PWR_THERMAL = s.reg .PWR_THERMAL) : MeansShown c t := by
  obtain ⟨power, voltage, tCase, tMin⟩ := m
  constructor
  · exact (congrArg Fld.PWR_INPUT_POWER.get input).trans power
  · exact (congrArg Fld.PWR_INPUT_VOLTAGE.get input).trans voltage
  · exact (congrArg Fld.PWR_THERMAL_T_CASE.get thermal).trans tCase
  · exact (congrArg Fld.PWR_THERMAL_T_MIN.get thermal).trans tMin

theorem inputSeen_shows (c : Climate) {s : State} (h : s.Sound) : MeansShown c (inputSeen c s) := by
  have first := sound_State_setReg s .PWR_INPUT (BitVec.ofNat 32 (c.power % 65536 * 65536 + c.voltage % 65536)) 0 0 h
  have input : (inputSeen c s).reg .PWR_INPUT = BitVec.ofNat 32 (c.power % 65536 * 65536 + c.voltage % 65536) :=
    (reg_setReg_apart first.regs (q := .PWR_INPUT) (r := .PWR_THERMAL) (by decide) _ 0 0 0 0).trans (reg_setReg h.regs ..)
  have thermal : (inputSeen c s).reg .PWR_THERMAL = BitVec.ofNat 32 (unsgn 16 c.tCase * 65536 + unsgn 16 c.tMin) :=
    reg_setReg first.regs ..
  obtain ⟨power, voltage⟩ := halves (Nat.mod_lt c.power (show 0 < 65536 by decide)) (Nat.mod_lt c.voltage (show 0 < 65536 by decide))
  obtain ⟨tCase, tMin⟩ := halves (unsgn_lt c.tCase) (unsgn_lt c.tMin)
  constructor
  · exact (congrArg Fld.PWR_INPUT_POWER.get input).trans power
  · exact (congrArg Fld.PWR_INPUT_VOLTAGE.get input).trans voltage
  · exact (congrArg Fld.PWR_THERMAL_T_CASE.get thermal).trans tCase
  · exact (congrArg Fld.PWR_THERMAL_T_MIN.get thermal).trans tMin

theorem measured_shows (c : Climate) {s : State} (h : s.Sound) : MeansShown c (measured c s) := by
  have seen : (inputSeen c s).Sound := sound_State_setReg _ .PWR_THERMAL _ 0 0 (sound_State_setReg s .PWR_INPUT _ 0 0 h)
  rw [measured_eq]
  exact (inputSeen_shows c h).of_regs (sensorsShown_reg c seen (by decide)) (sensorsShown_reg c seen (by decide))

/-! ### Steep and dummy load -/

theorem withPwr_sys (x : PwrSt) (s : State) : (withPwr x s).sys = s.sys := rfl

theorem endSteep_eq (s : State) : ∃ u, u = ((s.setFld .PWR_STATUS_STEEP 0).setFld .KEEP_STATUS_STEEP 0).count .PWR_STEEP_CNT
    ∧ endSteep s = withPwr { u.pwr with seq := .up, steepAt := none, steepLate := false, dummy := false }
      (u.setFld .PWR_STATUS_SEQ_DONE 1) := ⟨_, rfl, rfl⟩

/-- What the temperature decides of the sequence and of the dummy load. -/
structure Warmed (tMin : Int) (s t : State) : Prop where
  sound : t.Sound
  ends : s.pwr.seq = .steep → -2000 ≤ tMin → t.pwr.seq = .up ∧ t.flag .PWR_STATUS_STEEP = false
    ∧ t.flag .PWR_STATUS_SEQ_DONE = true ∧ t.cnt .PWR_STEEP_CNT = s.cnt .PWR_STEEP_CNT + 1#64
  stays : s.pwr.seq = .steep → tMin < -2000 → t.pwr.seq = .steep
  cold : s.pwr.seq ≠ .steep → tMin < -2000 → t.pwr.dummy = true
  mild : s.pwr.seq ≠ .steep → -1500 ≤ tMin → t.pwr.dummy = false
  simmer : t.fld .PWR_STATUS_SIMMER = s.fld .PWR_STATUS_SIMMER
    ∧ t.flag .PWR_STATUS_SIMMER_POWER = s.flag .PWR_STATUS_SIMMER_POWER
  limit : t.cnt .PWR_POWER_LIMIT_CNT = s.cnt .PWR_POWER_LIMIT_CNT
  same : t.pwr.evalAt = s.pwr.evalAt ∧ t.pwr.lowSince = s.pwr.lowSince ∧ t.pwr.shed = s.pwr.shed ∧ t.pwr.committed = s.pwr.committed
  now : t.now = s.now
  sys : t.sys = s.sys

theorem warm_steep {tMin : Int} {s : State} (steep : s.pwr.seq = .steep) : warm tMin s = if -2000 ≤ tMin then endSteep s else s :=
  if_pos steep

theorem warm_level {tMin : Int} {s : State} (level : s.pwr.seq ≠ .steep) : warm tMin s
    = if tMin < -2000 then withPwr { s.pwr with dummy := true } s
      else if -1500 ≤ tMin then withPwr { s.pwr with dummy := false } s else s := if_neg level

/-- Dummy load comes, goes, or stays. -/
theorem warmed_level {tMin : Int} {s : State} (h : s.Sound) (level : s.pwr.seq ≠ .steep) (b : Bool)
    (cold : tMin < -2000 → b = true) (mild : -1500 ≤ tMin → b = false) : Warmed tMin s (withPwr { s.pwr with dummy := b } s) :=
  ⟨sound_withPwr h _, fun steep => absurd steep level, fun steep => absurd steep level, fun _ low => cold low, fun _ high => mild high,
    ⟨rfl, rfl⟩, rfl, ⟨rfl, rfl, rfl, rfl⟩, rfl, rfl⟩

theorem endSteep_warms {tMin : Int} {s : State} (h : s.Sound) (steep : s.pwr.seq = .steep) (warm : -2000 ≤ tMin) :
    Warmed tMin s (endSteep s) := by
  obtain ⟨u, begun, run⟩ := endSteep_eq s
  have h1 := sound_State_setFld s .PWR_STATUS_STEEP 0 0 0 h
  have h2 := sound_State_setFld _ .KEEP_STATUS_STEEP 0 0 0 h1
  have sound : u.Sound := begun ▸ sound_State_count _ .PWR_STEEP_CNT 0 0 1 h2
  have regs : u.regs = ((s.setFld .PWR_STATUS_STEEP 0).setFld .KEEP_STATUS_STEEP 0).regs := by rw [begun, count_regs]
  have beside {f : Fld} (side : sideBySide .PWR_STATUS_STEEP f) (apart : regApart f.reg .KEEP_STATUS = true) : u.fld f = s.fld f := by
    rw [fld_congr regs, fld_setFld_apart (f := .KEEP_STATUS_STEEP) h1.regs apart, fld_setFld_beside (f := .PWR_STATUS_STEEP) h.regs side]
  have flat : u.flag .PWR_STATUS_STEEP = false := by
    rw [flag_congr regs, flag_setFld_apart (f := .KEEP_STATUS_STEEP) (g := .PWR_STATUS_STEEP) h1.regs (by decide),
      flag_setFld h.regs (by decide) (by decide)]
    rfl
  have pwr : u.pwr = s.pwr := by rw [begun, count_pwr, setFld_pwr, setFld_pwr]
  have counts : u.cnt .PWR_STEEP_CNT = s.cnt .PWR_STEEP_CNT + 1#64 := by
    rw [begun, cnt_count h2.cnts, cnt_congr (setFld_cnts ..), cnt_congr (setFld_cnts ..)]
  have limit : u.cnt .PWR_POWER_LIMIT_CNT = s.cnt .PWR_POWER_LIMIT_CNT := by
    rw [begun, cnt_count_apart h2.cnts (c := .PWR_STEEP_CNT) (q := .PWR_POWER_LIMIT_CNT) (by decide), cnt_congr (setFld_cnts ..),
      cnt_congr (setFld_cnts ..)]
  have now : u.now = s.now := by rw [begun, count_now, setFld_now, setFld_now]
  have sys : u.sys = s.sys := by rw [begun, count_sys, setFld_sys, setFld_sys]
  rw [run, pwr]
  clear run begun
  have done := sound_State_setFld u .PWR_STATUS_SEQ_DONE 1 0 0 sound
  refine ⟨sound_withPwr done _, fun _ _ => ⟨rfl, ?_, ?_, ?_⟩, fun _ low => absurd warm (Int.not_le.mpr low),
    fun level => absurd steep level, fun level => absurd steep level, ⟨?_, ?_⟩, ?_, ⟨rfl, rfl, rfl, rfl⟩, ?_, ?_⟩
  · rw [flag_congr (withPwr_regs ..), flag_setFld_beside (f := .PWR_STATUS_SEQ_DONE) (g := .PWR_STATUS_STEEP) sound.regs (by decide), flat]
  · rw [flag_congr (withPwr_regs ..), flag_setFld sound.regs (by decide) (by decide)]
    rfl
  · rw [cnt_congr (withPwr_cnts ..), cnt_congr (setFld_cnts ..), counts]
  · rw [fld_congr (withPwr_regs ..), fld_setFld_beside (f := .PWR_STATUS_SEQ_DONE) (g := .PWR_STATUS_SIMMER) sound.regs (by decide),
      beside (by decide) (by decide)]
  · rw [flag_congr (withPwr_regs ..), flag_setFld_beside (f := .PWR_STATUS_SEQ_DONE) (g := .PWR_STATUS_SIMMER_POWER) sound.regs (by decide),
      State.flag, beside (by decide) (by decide)]
    rfl
  · rw [cnt_congr (withPwr_cnts ..), cnt_congr (setFld_cnts ..), limit]
  · rw [withPwr_now, setFld_now, now]
  · rw [withPwr_sys, setFld_sys, sys]

theorem warm_warms {s : State} (h : s.Sound) (tMin : Int) : Warmed tMin s (warm tMin s) := by
  by_cases steep : s.pwr.seq = .steep
  · rw [warm_steep steep]
    split
    · next warm => exact endSteep_warms h steep warm
    · next cold => exact ⟨h, fun _ warm => absurd warm cold, fun _ _ => steep, fun level => absurd steep level,
        fun level => absurd steep level, ⟨rfl, rfl⟩, rfl, ⟨rfl, rfl, rfl, rfl⟩, rfl, rfl⟩
  · rw [warm_level steep]
    split
    · next cold => exact warmed_level h steep true (fun _ => rfl) (fun mild => by omega)
    · next not =>
      split
      · next mild => exact warmed_level h steep false (fun cold => absurd cold not) (fun _ => rfl)
      · next cool => exact ⟨h, fun e => absurd e steep, fun e => absurd e steep, fun _ cold => absurd cold not,
          fun _ mild => absurd mild cool, ⟨rfl, rfl⟩, rfl, ⟨rfl, rfl, rfl, rfl⟩, rfl, rfl⟩

/-! ### The power limit -/

/-- What the input power decides. -/
structure Limited (power : Nat) (s t : State) : Prop where
  sound : t.Sound
  above : powerMax s < power → t.flag .PWR_STATUS_SIMMER_POWER = true ∧ t.cnt .PWR_POWER_LIMIT_CNT =
    s.cnt .PWR_POWER_LIMIT_CNT + (if s.flag .PWR_STATUS_SIMMER_POWER then 0#64 else 1#64)
  within : power ≤ powerMax s → t.flag .PWR_STATUS_SIMMER_POWER = s.flag .PWR_STATUS_SIMMER_POWER
  high : powerLow s ≤ power → t.pwr.lowSince = none
  low : power < powerLow s → t.pwr.lowSince = some (s.pwr.lowSince.getD s.now)
  flags : t.flag .PWR_STATUS_STEEP = s.flag .PWR_STATUS_STEEP ∧ t.flag .PWR_STATUS_SEQ_DONE = s.flag .PWR_STATUS_SEQ_DONE
    ∧ t.fld .PWR_STATUS_SIMMER = s.fld .PWR_STATUS_SIMMER
  steep : t.cnt .PWR_STEEP_CNT = s.cnt .PWR_STEEP_CNT
  pwr : t.pwr.seq = s.pwr.seq ∧ t.pwr.dummy = s.pwr.dummy ∧ t.pwr.evalAt = s.pwr.evalAt ∧ t.pwr.shed = s.pwr.shed
    ∧ t.pwr.committed = s.pwr.committed
  sys : t.sys = s.sys

theorem powerLow_lt_max (s : State) : powerLow s < powerMax s := by
  unfold powerLow powerMax
  split
  · decide
  · decide

/-- The stretch below the lower limit starts, goes on, or ends. -/
theorem limited_within {power : Nat} {s : State} (h : s.Sound) (not : ¬ powerMax s < power) (x : Option Nat)
    (high : powerLow s ≤ power → x = none) (low : power < powerLow s → x = some (s.pwr.lowSince.getD s.now)) :
    Limited power s (withPwr { s.pwr with lowSince := x } s) :=
  ⟨sound_withPwr h _, fun more => absurd more not, fun _ => rfl, high, low, ⟨rfl, rfl, rfl⟩, rfl, ⟨rfl, rfl, rfl, rfl, rfl⟩, rfl⟩

/-- The power limit has begun to hold. -/
def limitShown (s : State) : State :=
  (s.countIf (!s.flag .PWR_STATUS_SIMMER_POWER) .PWR_POWER_LIMIT_CNT).setFld .PWR_STATUS_SIMMER_POWER 1

theorem powerLimit_above {power : Nat} {s : State} (above : powerMax s < power) :
    powerLimit power s = withPwr { (s.countIf (!s.flag .PWR_STATUS_SIMMER_POWER) .PWR_POWER_LIMIT_CNT).pwr with lowSince := none }
      (limitShown s) := by
  unfold powerLimit limitShown
  rw [if_pos above]
  dsimp only
  generalize s.countIf (!s.flag .PWR_STATUS_SIMMER_POWER) .PWR_POWER_LIMIT_CNT = u
  rfl

theorem powerLimit_within {power : Nat} {s : State} (not : ¬ powerMax s < power) : powerLimit power s
    = if power < powerLow s then withPwr { s.pwr with lowSince := some (s.pwr.lowSince.getD s.now) } s
      else withPwr { s.pwr with lowSince := none } s := if_neg not

theorem cnt_countIf {s : State} (h : s.Sound) (b : Bool) (c : Cnt) : (s.countIf b c).cnt c = s.cnt c + (if b then 1#64 else 0#64) := by
  cases b with
  | true => exact cnt_count h.cnts c 0 0 1
  | false => exact (BitVec.add_zero _).symm

theorem cnt_countIf_apart {s : State} (h : s.Sound) (b : Bool) {c q : Cnt} (apart : cntApart q c = true) : (s.countIf b c).cnt q = s.cnt q :=
  ite_holds (P := fun t : State => t.cnt q = s.cnt q) (cnt_count_apart h.cnts apart 0 0 1 0 0) rfl

theorem powerLimit_above_limits {power : Nat} {s : State} (h : s.Sound) (above : powerMax s < power) :
    Limited power s (powerLimit power s) := by
  have counted := sound_State_countIf s (!s.flag .PWR_STATUS_SIMMER_POWER) .PWR_POWER_LIMIT_CNT 0 0 h
  have regs : (s.countIf (!s.flag .PWR_STATUS_SIMMER_POWER) .PWR_POWER_LIMIT_CNT).regs = s.regs :=
    ite_holds (P := fun t : State => t.regs = s.regs) rfl rfl
  have limit := cnt_countIf h (!s.flag .PWR_STATUS_SIMMER_POWER) .PWR_POWER_LIMIT_CNT
  have steep := cnt_countIf_apart h (!s.flag .PWR_STATUS_SIMMER_POWER) (c := .PWR_POWER_LIMIT_CNT) (q := .PWR_STEEP_CNT) (by decide)
  have pwr : (s.countIf (!s.flag .PWR_STATUS_SIMMER_POWER) .PWR_POWER_LIMIT_CNT).pwr = s.pwr := countIf_pwr ..
  have sys : (limitShown s).sys = s.sys := by rw [limitShown, setFld_sys, countIf_sys]
  have shown := sound_State_setFld _ .PWR_STATUS_SIMMER_POWER 1 0 0 counted
  rw [powerLimit_above above, pwr]
  refine ⟨sound_withPwr shown _, fun _ => ⟨?_, ?_⟩, fun within => absurd above (Nat.not_lt.mpr within), fun _ => rfl,
    fun low => absurd low (Nat.not_lt.mpr (Nat.le_of_lt ((powerLow_lt_max s).trans above))), ⟨?_, ?_, ?_⟩, ?_, ⟨rfl, rfl, rfl, rfl, rfl⟩, ?_⟩
  · rw [flag_congr (withPwr_regs ..), limitShown, flag_setFld counted.regs (by decide) (by decide)]
    rfl
  · rw [cnt_congr (withPwr_cnts ..), limitShown, cnt_congr (setFld_cnts ..), limit]
    cases s.flag .PWR_STATUS_SIMMER_POWER with
    | true => rfl
    | false => rfl
  · rw [flag_congr (withPwr_regs ..), limitShown,
      flag_setFld_beside (f := .PWR_STATUS_SIMMER_POWER) (g := .PWR_STATUS_STEEP) counted.regs (by decide), flag_congr regs]
  · rw [flag_congr (withPwr_regs ..), limitShown,
      flag_setFld_beside (f := .PWR_STATUS_SIMMER_POWER) (g := .PWR_STATUS_SEQ_DONE) counted.regs (by decide), flag_congr regs]
  · rw [fld_congr (withPwr_regs ..), limitShown,
      fld_setFld_beside (f := .PWR_STATUS_SIMMER_POWER) (g := .PWR_STATUS_SIMMER) counted.regs (by decide), fld_congr regs]
  · rw [cnt_congr (withPwr_cnts ..), limitShown, cnt_congr (setFld_cnts ..), steep]
  · rw [withPwr_sys, sys]

theorem powerLimit_limits {s : State} (h : s.Sound) (power : Nat) : Limited power s (powerLimit power s) := by
  by_cases above : powerMax s < power
  · exact powerLimit_above_limits h above
  · rw [powerLimit_within above]
    split
    · next low => exact limited_within h above _ (fun high => absurd low (Nat.not_lt.mpr high)) fun _ => rfl
    · next high => exact limited_within h above _ (fun _ => rfl) fun low => absurd low high

/-! ### The evaluation -/

/-- The last boundary that was evaluated. -/
def evaluated (k : Nat) (s : State) : State := withPwr { s.pwr with evalAt := k } s

/-- What is decided before the stage. -/
def decided (c : Climate) (s : State) : State := powerLimit c.power (warm c.tMin (measured c (evaluated (s.now / 160000000) s)))

/-- The stage that is decided. -/
def stageDue (c : Climate) (s : State) : Nat :=
  nextStage ((decided c s).fld .PWR_STATUS_SIMMER) c.tCase ((decided c s).flag .PWR_STATUS_SIMMER_POWER)

theorem thermalEvaluation_due {c : Climate} {s : State} (alive : s.flag .KEEP_STATUS_ALIVE = true) (idle : s.pwr.dusk = none)
    (due : s.pwr.evalAt < s.now / 160000000) : thermalEvaluation c s
    = if stageDue c s = (decided c s).fld .PWR_STATUS_SIMMER then decided c s else setSimmer (stageDue c s) (decided c s) :=
  if_pos ⟨alive, by rw [idle]; rfl, due⟩

/-- What is decided before the stage shows the means, and rests on the state before. -/
structure Decided (c : Climate) (s t : State) : Prop where
  sound : t.Sound
  means : MeansShown c t
  evalAt : t.pwr.evalAt = s.now / 160000000
  ends : s.pwr.seq = .steep → -2000 ≤ c.tMin → t.pwr.seq = .up ∧ t.flag .PWR_STATUS_STEEP = false
    ∧ t.flag .PWR_STATUS_SEQ_DONE = true ∧ t.cnt .PWR_STEEP_CNT = s.cnt .PWR_STEEP_CNT + 1#64
  stays : s.pwr.seq = .steep → c.tMin < -2000 → t.pwr.seq = .steep
  cold : s.pwr.seq ≠ .steep → c.tMin < -2000 → t.pwr.dummy = true
  mild : s.pwr.seq ≠ .steep → -1500 ≤ c.tMin → t.pwr.dummy = false
  above : powerMax s < c.power → t.flag .PWR_STATUS_SIMMER_POWER = true ∧ t.cnt .PWR_POWER_LIMIT_CNT =
    s.cnt .PWR_POWER_LIMIT_CNT + (if s.flag .PWR_STATUS_SIMMER_POWER then 0#64 else 1#64)
  within : c.power ≤ powerMax s → t.flag .PWR_STATUS_SIMMER_POWER = s.flag .PWR_STATUS_SIMMER_POWER
  high : powerLow s ≤ c.power → t.pwr.lowSince = none
  low : c.power < powerLow s → t.pwr.lowSince = some (s.pwr.lowSince.getD s.now)
  simmer : t.fld .PWR_STATUS_SIMMER = s.fld .PWR_STATUS_SIMMER
  shed : t.pwr.shed = s.pwr.shed ∧ ∀ stage, shedSet stage t = shedSet stage s

/-- What the measurement leaves. -/
theorem measured_leaves (c : Climate) {s : State} (h : s.Sound) : (measured c s).Sound
    ∧ (measured c s).reg .PWR_STATUS = s.reg .PWR_STATUS ∧ (measured c s).cnts = s.cnts ∧ (measured c s).pwr = s.pwr
    ∧ (measured c s).now = s.now ∧ (measured c s).sys = s.sys := by
  have k := kept_measured (le_same _) c s (.refl _ s)
  have sound := sound_measured c s h
  exact ⟨sound, k.reg h sound (by decide +kernel) 0 0, measured_cnts c s, k.pwr (by decide), k.now (by decide), k.sys (by decide)⟩

theorem shedSet_congr {s t : State} (sys : t.sys = s.sys) (order : t.pwr.committed = s.pwr.committed) (stage : Nat) :
    shedSet stage t = shedSet stage s := by
  unfold shedSet shedOrder
  rw [sys, order]
  have fitted : engineFitted t = engineFitted s := funext fun e => by rw [engineFitted, engineFitted, sys]
  rw [fitted]

theorem powerMax_congr {s t : State} (sys : t.sys = s.sys) : powerMax t = powerMax s ∧ powerLow t = powerLow s := by
  rw [powerMax, powerMax, powerLow, powerLow, sys]
  exact ⟨rfl, rfl⟩

theorem decided_decides (c : Climate) {s : State} (h : s.Sound) : Decided c s (decided c s) := by
  have begun : (evaluated (s.now / 160000000) s).Sound := sound_withPwr h _
  have regs : (evaluated (s.now / 160000000) s).regs = s.regs := rfl
  have cnts : (evaluated (s.now / 160000000) s).cnts = s.cnts := rfl
  have pwr : (evaluated (s.now / 160000000) s).pwr = { s.pwr with evalAt := s.now / 160000000 } := rfl
  have now : (evaluated (s.now / 160000000) s).now = s.now := rfl
  have sys : (evaluated (s.now / 160000000) s).sys = s.sys := rfl
  unfold decided
  generalize evaluated (s.now / 160000000) s = e at *
  obtain ⟨seen, mStatus, mCnts, mPwr, mNow, mSys⟩ := measured_leaves c begun
  have means := measured_shows c begun
  generalize measured c e = m at *
  have status {f : Fld} (hf : f.reg = .PWR_STATUS) : m.fld f = s.fld f := by
    rw [State.fld, State.fld, hf, mStatus, reg_congr regs]
  have flags {f : Fld} (hf : f.reg = .PWR_STATUS) : m.flag f = s.flag f := by rw [State.flag, State.flag, status hf]
  have counts (q : Cnt) : m.cnt q = s.cnt q := by rw [cnt_congr mCnts, cnt_congr cnts]
  have supply : m.pwr = { s.pwr with evalAt := s.now / 160000000 } := mPwr.trans pwr
  have time : m.now = s.now := mNow.trans now
  have part : m.sys = s.sys := mSys.trans sys
  have warmed := warm_warms seen c.tMin
  have k := kept_warm (le_same _) c.tMin m (.refl _ m)
  have afterWarm := means.of_regs (k.reg seen warmed.sound (by decide +kernel) 0 0) (k.reg seen warmed.sound (by decide +kernel) 0 0)
  generalize warm c.tMin m = w at *
  have limited := powerLimit_limits warmed.sound c.power
  have k' := kept_powerLimit (le_same _) c.power w (.refl _ w)
  have afterLimit := afterWarm.of_regs (k'.reg warmed.sound limited.sound (by decide +kernel) 0 0)
    (k'.reg warmed.sound limited.sound (by decide +kernel) 0 0)
  generalize powerLimit c.power w = t at *
  obtain ⟨-, ends, stays, cold, mild, ⟨simmer, hold⟩, wLimit, ⟨wEval, wLow, wShed, wOrder⟩, wNow, wSys⟩ := warmed
  obtain ⟨sound, above, within, high, low, ⟨tSteep, tDone, tSimmer⟩, tCount, ⟨tSeq, tDummy, tEval, tShed, tOrder⟩, tSys⟩ := limited
  obtain ⟨most, least⟩ := powerMax_congr (wSys.trans part)
  have seq : m.pwr.seq = s.pwr.seq := by rw [supply]
  rw [seq] at ends stays cold mild
  rw [most] at above within
  rw [least] at high low
  refine ⟨sound, afterLimit, ?_, fun steep warm => ?_, fun steep chill => tSeq.trans (stays steep chill),
    fun level chill => tDummy.trans (cold level chill), fun level warm => tDummy.trans (mild level warm), fun more => ?_, fun less => ?_, high,
    fun less => ?_, ?_, ?_, fun stage => ?_⟩
  · rw [tEval, wEval, supply]
  · obtain ⟨up, flat, done, count⟩ := ends steep warm
    exact ⟨tSeq.trans up, tSteep.trans flat, tDone.trans done, tCount.trans (count.trans (by rw [counts]))⟩
  · obtain ⟨on, count⟩ := above more
    rw [wLimit, counts, hold, flags rfl] at count
    exact ⟨on, count⟩
  · rw [within less, hold, flags rfl]
  · rw [low less, wLow, wNow, supply, time]
  · rw [tSimmer, simmer, status rfl]
  · rw [tShed, wShed, supply]
  · refine shedSet_congr ((tSys.trans wSys).trans part) ?_ stage
    rw [tOrder, wOrder, supply]

end Sys2Proof.Machine
end

section
/-!
SUPPORT. The evaluation of the means as a whole, and the settlement of O57.
-/
namespace Sys2Proof.Machine

/-! ### The stage -/

theorem nextStage_small (cur : Nat) (tCase : Int) (hold : Bool) : nextStage cur tCase hold < 4 := by
  unfold nextStage
  split_ifs <;> decide

theorem nextStage_hot {tCase : Int} (hot : 10500 ≤ tCase) (cur : Nat) (hold : Bool) : nextStage cur tCase hold = 2 := if_pos hot

theorem nextStage_two {tCase : Int} (cool : tCase < 10500) (hold : Bool) : nextStage 2 tCase hold = if tCase ≤ 10200 then 1 else 2 := by
  unfold nextStage
  rw [if_neg (Int.not_le.mpr cool), if_pos rfl]

theorem nextStage_one {tCase : Int} (cool : tCase < 10500) (hold : Bool) :
    nextStage 1 tCase hold = if tCase ≤ 8200 ∧ hold = false then 0 else 1 := by
  unfold nextStage
  rw [if_neg (Int.not_le.mpr cool), if_neg (by decide), if_pos rfl]
  simp only [Bool.and_eq_true, decide_eq_true_eq, Bool.not_eq_true']

theorem nextStage_zero {tCase : Int} (cool : tCase < 10500) (hold : Bool) :
    nextStage 0 tCase hold = if 8500 ≤ tCase ∨ hold = true then 1 else 0 := by
  unfold nextStage
  rw [if_neg (Int.not_le.mpr cool), if_neg (by decide), if_neg (by decide)]
  simp only [Bool.or_eq_true, decide_eq_true_eq]

/-! ### The whole evaluation -/

/-- What the evaluation leaves of what was decided before the stage, and the stage with its consequences. -/
structure Evaluated (c : Climate) (s t : State) : Prop where
  means : MeansShown c t
  evalAt : t.pwr.evalAt = s.now / 160000000
  ends : s.pwr.seq = .steep → -2000 ≤ c.tMin → t.pwr.seq = .up ∧ t.flag .PWR_STATUS_STEEP = false
    ∧ t.flag .PWR_STATUS_SEQ_DONE = true ∧ t.cnt .PWR_STEEP_CNT = s.cnt .PWR_STEEP_CNT + 1#64
  stays : s.pwr.seq = .steep → c.tMin < -2000 → t.pwr.seq = .steep
  cold : s.pwr.seq ≠ .steep → c.tMin < -2000 → t.pwr.dummy = true
  mild : s.pwr.seq ≠ .steep → -1500 ≤ c.tMin → t.pwr.dummy = false
  above : powerMax s < c.power → t.flag .PWR_STATUS_SIMMER_POWER = true ∧ t.cnt .PWR_POWER_LIMIT_CNT =
    s.cnt .PWR_POWER_LIMIT_CNT + (if s.flag .PWR_STATUS_SIMMER_POWER then 0#64 else 1#64)
  within : c.power ≤ powerMax s → t.flag .PWR_STATUS_SIMMER_POWER = s.flag .PWR_STATUS_SIMMER_POWER
  high : powerLow s ≤ c.power → t.pwr.lowSince = none
  low : c.power < powerLow s → t.pwr.lowSince = some (s.pwr.lowSince.getD s.now)
  stage : t.fld .PWR_STATUS_SIMMER = nextStage (s.fld .PWR_STATUS_SIMMER) c.tCase (t.flag .PWR_STATUS_SIMMER_POWER)
  moves : t.fld .PWR_STATUS_SIMMER ≠ s.fld .PWR_STATUS_SIMMER →
    t.fld .KEEP_STATUS_SIMMER = t.fld .PWR_STATUS_SIMMER ∧ pends t 177 ∧ t.pwr.shed = shedSet (t.fld .PWR_STATUS_SIMMER) s
    ∧ ∀ g < 16, g ∈ t.pwr.shed → g ∉ s.pwr.shed → ∀ p < 16, portUp t (16 * g + p) = false
  rests : t.fld .PWR_STATUS_SIMMER = s.fld .PWR_STATUS_SIMMER → t.pwr.shed = s.pwr.shed

/-- The stage stays. -/
theorem Decided.rests {c : Climate} {s t : State} (d : Decided c s t)
    (same : nextStage (t.fld .PWR_STATUS_SIMMER) c.tCase (t.flag .PWR_STATUS_SIMMER_POWER) = t.fld .PWR_STATUS_SIMMER) :
    Evaluated c s t :=
  ⟨d.means, d.evalAt, d.ends, d.stays, d.cold, d.mild, d.above, d.within, d.high, d.low, by rw [← d.simmer, same],
    fun moved => absurd d.simmer moved, fun _ => d.shed.1⟩

/-- The stage moves. -/
theorem Decided.moves {c : Climate} {s u t : State} (d : Decided c s u)
    (new : nextStage (u.fld .PWR_STATUS_SIMMER) c.tCase (u.flag .PWR_STATUS_SIMMER_POWER) ≠ u.fld .PWR_STATUS_SIMMER)
    (set : StageSet (nextStage (u.fld .PWR_STATUS_SIMMER) c.tCase (u.flag .PWR_STATUS_SIMMER_POWER)) u t) : Evaluated c s t := by
  obtain ⟨⟨shown, keeper⟩, vector, ⟨steep, done, hold⟩, ⟨input, thermal⟩, ⟨steepCnt, limitCnt⟩, pwr, down⟩ := set
  obtain ⟨shed, order⟩ := d.shed
  have seq : t.pwr.seq = u.pwr.seq := by rw [pwr]
  have dummy : t.pwr.dummy = u.pwr.dummy := by rw [pwr]
  have since : t.pwr.lowSince = u.pwr.lowSince := by rw [pwr]
  have sheds : t.pwr.shed = shedSet (t.fld .PWR_STATUS_SIMMER) s := by rw [pwr, shown, ← order]
  refine ⟨d.means.of_regs input thermal, by rw [pwr, d.evalAt], fun on warm => ?_, fun on chill => seq.trans (d.stays on chill),
    fun level chill => dummy.trans (d.cold level chill), fun level warm => dummy.trans (d.mild level warm), fun more => ?_,
    fun less => hold.trans (d.within less), fun more => since.trans (d.high more), fun less => since.trans (d.low less), ?_,
    fun _ => ⟨keeper.trans shown.symm, vector, sheds, fun g hg new not p hp => ?_⟩, fun same => ?_⟩
  · obtain ⟨up, flat, ready, count⟩ := d.ends on warm
    exact ⟨seq.trans up, steep.trans flat, done.trans ready, steepCnt.trans count⟩
  · obtain ⟨on, count⟩ := d.above more
    exact ⟨hold.trans on, limitCnt.trans count⟩
  · rw [shown, hold, d.simmer]
  · rw [sheds, shown, ← order] at new
    exact down g hg new (shed ▸ not) p hp
  · rw [shown] at same
    exact absurd (same.trans d.simmer.symm) new

theorem thermalEvaluation_evaluates {s : State} (h : s.Sound) (c : Climate) (alive : s.flag .KEEP_STATUS_ALIVE = true)
    (idle : s.pwr.dusk = none) (due : s.pwr.evalAt < s.now / 160000000) : Evaluated c s (thermalEvaluation c s) := by
  have d := decided_decides c h
  rw [thermalEvaluation_due alive idle due, stageDue]
  generalize decided c s = u at *
  split
  · next same => exact d.rests same
  · next new => exact d.moves new (setSimmer_sets d.sound (nextStage_small _ _ _))

/-! ### The power limit clears, and steep takes too long -/

theorem powerLimitClear_due {s : State} {e : Nat} (low : s.pwr.lowSince = some e) (alive : s.flag .KEEP_STATUS_ALIVE = true)
    (due : e + 16000000000 ≤ s.now) : powerLimitClear s = s.setFld .PWR_STATUS_SIMMER_POWER 0 := by
  unfold powerLimitClear
  rw [low, alive, show 10000 * clkMs = 16000000000 by decide]
  dsimp only
  rw [decide_eq_true due, if_pos (Bool.and_self true)]

theorem powerLimitClear_not {s : State} {e : Nat} (low : s.pwr.lowSince = some e)
    (not : s.flag .KEEP_STATUS_ALIVE = false ∨ s.now < e + 16000000000) : powerLimitClear s = s := by
  unfold powerLimitClear
  rw [low]
  refine if_neg fun yes => ?_
  rw [Bool.and_eq_true] at yes
  rcases not with dead | early
  · rw [dead] at yes
    cases yes.1
  · exact absurd (of_decide_eq_true yes.2) (Nat.not_le.mpr early)

/-- The steep has passed its limit, and is noted. -/
def steepNoted (s : State) : State := keeperEvent 3 ((withPwr { s.pwr with steepLate := true } s).count .PWR_STEEP_TIMEOUT_CNT)

theorem steepNoted_leaves (s : State) : (steepNoted s).pwr = { s.pwr with steepLate := true }
    ∧ (steepNoted s).hlt.keepq = s.hlt.keepq ++ [⟨1, ⟨.fault, 0, 0, s.ts64, 0, 0⟩, 3, 0, 0⟩]
    ∧ (steepNoted s).cnts = (s.count .PWR_STEEP_TIMEOUT_CNT).cnts := ⟨rfl, rfl, rfl⟩

theorem steepTimeout_due {s : State} {e : Nat} (began : s.pwr.steepAt = some e) (due : e + 480000000000 ≤ s.now ∧ s.pwr.steepLate = false) :
    steepTimeout s = steepNoted s := by
  unfold steepTimeout
  rw [began]
  exact if_pos due

theorem steepTimeout_not {s : State} {e : Nat} (began : s.pwr.steepAt = some e)
    (not : ¬ (e + 480000000000 ≤ s.now ∧ s.pwr.steepLate = false)) : steepTimeout s = s := by
  unfold steepTimeout
  rw [began]
  exact if_neg not

/-! ### O57 -/

theorem thermalEvaluation_not {s : State} (c : Climate)
    (not : s.flag .KEEP_STATUS_ALIVE = false ∨ s.pwr.dusk.isSome = true ∨ s.now / 160000000 ≤ s.pwr.evalAt) : thermalEvaluation c s = s := by
  refine if_neg fun ⟨alive, idle, due⟩ => ?_
  rcases not with dead | runs | early
  · rw [alive] at dead
    cases dead
  · rw [Option.isNone_iff_eq_none] at idle
    rw [idle] at runs
    cases runs
  · exact absurd due (Nat.not_lt.mpr early)

/-- Settles O57: the evaluation of the means, the limits that end or are passed, and emergency quiet. -/
theorem steepSimmerAndQuiet : Obligations.SteepSimmerAndQuiet := by
  unfold Obligations.SteepSimmerAndQuiet
  refine ⟨fun s c h => ⟨fun not => ?_, fun alive idle due => ?_⟩, fun s e h low => ⟨fun not => ?_, fun alive due => ?_⟩,
    fun s e h began => ⟨fun not => ?_, fun due new => ?_⟩, fun s on => ?_, fun s h off => ⟨fun down => ?_, fun up => ?_⟩,
    fun s h => ⟨fun off => ?_, fun on => ?_⟩⟩
  · exact congrArg Host.Outcome.next (thermalEvaluation_not c not)
  · obtain ⟨⟨power, voltage, tCase, tMin⟩, evalAt, ends, stays, cold, mild, above, within, high, low, stage, moves, rests⟩ :=
      thermalEvaluation_evaluates h c alive idle due
    refine ⟨_, rfl, evalAt, power, voltage, tCase, tMin, ends, stays, cold, mild, above, within, high, low, fun hot => ?_,
      fun cool two => ?_, fun cool one => ?_, fun cool zero => ?_, moves, rests⟩
    · rw [stage, nextStage_hot hot]
    · rw [stage, two, nextStage_two cool]
    · rw [stage, one, nextStage_one cool]
    · rw [stage, zero, nextStage_zero cool]
  · exact congrArg Host.Outcome.next (powerLimitClear_not low not)
  · have run : exec .powerLimitClear s = .next (s.setFld .PWR_STATUS_SIMMER_POWER 0) :=
      congrArg Host.Outcome.next (powerLimitClear_due low alive due)
    refine ⟨_, run, flag_setFld h.regs (by decide) (by decide) 0 0 0, ?_⟩
    exact ((Sofar.start h [] [Reg.off .PWR_STATUS] []).setFld .PWR_STATUS_SIMMER_POWER 0 0 0 List.mem_cons_self).only
  · refine congrArg Host.Outcome.next (steepTimeout_not began fun ⟨due, new⟩ => ?_)
    rcases not with early | late
    · exact absurd due (Nat.not_le.mpr early)
    · rw [new] at late
      cases late
  · have run : exec .steepTimeout s = .next (steepNoted s) := congrArg Host.Outcome.next (steepTimeout_due began ⟨due, new⟩)
    obtain ⟨pwr, keepq, cnts⟩ := steepNoted_leaves s
    refine ⟨_, run, pwr, ?_, keepq, ?_, ?_⟩
    · rw [cnt_congr cnts, cnt_count h.cnts]
    · rw [alarmOn, pwr]
      exact Bool.or_true _
    · exact ((((Sofar.start h [.pwr, .hlt] [] [Cnt.off .PWR_STEEP_TIMEOUT_CNT]).setPwr List.mem_cons_self _).count .PWR_STEEP_TIMEOUT_CNT 0 0 1
        List.mem_cons_self).setHlt (List.mem_cons_of_mem _ List.mem_cons_self) _).only
  · exact congrArg Host.Outcome.next (quietAssert_on on)
  · exact congrArg Host.Outcome.next (quietAssert_bare off down)
  · exact ⟨_, rfl, quietAssert_shows h off up⟩
  · exact congrArg Host.Outcome.next (if_neg (Bool.eq_false_iff.mp off))
  · exact ⟨_, exec_quietRelease on, quietRelease_shows h⟩

end Sys2Proof.Machine
end
